-- ==== Sys2Proof/Word.lean ====
section
/-! DEFINITION. The word types of the model: 64-bit words, 32-bit sender identities (R579), 24-bit signal-engine
words and 40-bit network addresses. -/

namespace Sys2Proof

/-- A 64-bit word: a register or a memory word. -/
abbrev Word := BitVec 64

/-- A 32-bit sender identity (R579): [31:18] device ID, [17:14] class, [13:0] index. -/
abbrev Ident := BitVec 32

/-- A 24-bit signal-engine data word. -/
abbrev W24 := BitVec 24

/-- A 40-bit network address (R472). -/
abbrev Addr := BitVec 40

end Sys2Proof
end

