-- ==== Sys2Proof/Machine/Request.lean ====
section
/-! DEFINITION. The operands that a register access, a packet, a frame, a pin or an analogue reading brings to a command
from outside. -/

namespace Sys2Proof.Machine

/-- Which half of a 64-bit register a BAR0 access reaches (R11). -/
inductive Half
  | full | low | high
  deriving DecidableEq, Repr

/-- The response statuses of R481; `timeout` is the context engine's internal code 6 (R148). -/
inductive Status
  | ok | errData | errGated | fenced | decode | denied | timeout
  deriving DecidableEq, Repr

/-- A command packet (R582): the issuer's identity, the header word and the parameter words. -/
structure Packet where
  issuer : Ident
  header : Word
  words : List Word
  deriving DecidableEq, Repr

/-- A NoC packet: the header flit's fields (R463) and the data flits as 64-bit words in ascending order. -/
structure NocPacket where
  destRtr : Nat
  destEp : Nat
  srcRtr : Nat
  srcEp : Nat
  vnet : Nat
  vc : Nat
  epoch : Bool
  op : Nat
  len : Nat
  poison : Bool
  tag : Nat
  status : Nat
  ident : Ident
  tick : Nat
  body : BitVec 128
  data : List Word
  deriving DecidableEq, Repr

/-- The contents of a MARKER frame that arrived on a Brocia port (R54, R559). `time` is the sender's DEVICE_TIME at the
boundary, which R57 loads; `offsetPs` is the frame's OFFSET. -/
structure Marker where
  port : Fin 4
  count : Word
  time : Word
  n : Nat
  nextN : Nat
  pending : Bool
  target : Word
  hops : Nat
  source : Nat
  offsetPs : Nat
  deriving DecidableEq, Repr

/-- An action as it arrives at a target (R138): source endpoint, flight tag, W1, settle field, owner domain, kind,
attempt and the tick of its visit. -/
structure Action where
  src : Nat
  tag : Nat
  w1 : Word
  settle : Nat
  dom : Nat
  kind : Nat
  attempt : Nat
  vtick : Nat
  deriving DecidableEq, Repr

/-- The outcome of a calibration or self-test step (R242, R245, R253, R254): whether it was the group's last step of the
work in hand, staged image words (number and value), the masks of failed tests and of channels that failed, and the
reading of an external standard. -/
structure CalStep where
  last : Bool
  staged : List (Nat × Word)
  failTests : Nat
  failChans : Nat
  reading : Int
  deriving DecidableEq, Repr

/-- An entry of a serial port's FIFO (R347 to R349): data, LIN break, and what a received entry carries (parity and stop-bit
error) or an entry to send (HOLD, LAST). -/
structure SerEntry where
  data : BitVec 32
  brk : Bool
  perr : Bool
  ferr : Bool
  hold : Bool
  last : Bool
  deriving DecidableEq, Repr

/-- How an I²C transfer ends (R351). -/
inductive I2cEnd
  | complete | nack | arbLost
  deriving DecidableEq, Repr

/-- How an attempt to send a CAN frame ends (R352): acknowledged, arbitration lost, with no acknowledge and no dominant level
during the error flag, or with another error frame. -/
inductive CanEnd
  | sent | lost | unheard | error
  deriving DecidableEq, Repr

/-- What a receiver finds in a CAN frame (R352): no error; an error; or an error after whose flag it still reads a dominant
level, or a bit error in its own flag. -/
inductive CanFault
  | none | error | dominant
  deriving DecidableEq, Repr

/-- What a fabric design answers through its port: a 64-bit answer word to an action (R331), or the answer to a target
request, named by its source endpoint and tag. -/
inductive FabAnswer
  | action (word : Word)
  | request (src tag : Nat) (err : Bool) (data : List Word)
  deriving DecidableEq, Repr

/-- A request as an initiator hands it to its injecting endpoint (R462 to R465): the master's identity, operation code,
NoC byte address and size of a read or write, the destination endpoint and body of an ACTION or CLAIM, tag, POISON and
data flits as 64-bit words; or a RESPONSE (operation 8): the delivered request it answers, its status, VALUE in the body, and
read data. -/
structure NocReq where
  ident : Ident
  op : Nat
  addr : Nat
  size : Nat
  dest : Nat
  body : BitVec 128
  tag : Nat
  poison : Bool
  data : List Word
  status : Status
  answers : Option NocPacket
  deriving DecidableEq, Repr

/-- A flit as a link's receiver finds it (R461): whether it is a header, payload, CRC, and the sideband's HOPS and parity bit. -/
structure LinkFlit where
  header : Bool
  payload : BitVec 256
  crc : BitVec 16
  hops : BitVec 7
  parity : Bool
  deriving DecidableEq, Repr

/-- A request to the bank store (R445, R446, R453): sender, NoC byte address, size in bytes, the 64-bit words that it writes from
the word of its first byte on (none for a read), and the POISON bit. -/
structure BankReq where
  ident : Ident
  addr : Nat
  size : Nat
  data : Option (List Word)
  poison : Bool
  deriving DecidableEq, Repr

/-- An access that has reached its bank port and that the owner makes (R448, R453): sender, bank, each word it touches with the
mask of its bytes, the words written (none for a read), and the POISON bit. -/
structure BankAccess where
  ident : Ident
  bank : Nat
  words : List (Nat × Word)
  data : Option (List Word)
  poison : Bool
  deriving DecidableEq, Repr

/-- A request as it reaches a DRAM controller (R502, R503): sender, tag, whether it writes, NoC byte address and size, the 64-bit
words that it writes from the word of its first byte on, and the POISON bit. -/
structure DramReq where
  src : Nat
  tag : Nat
  ident : Ident
  write : Bool
  addr : Nat
  size : Nat
  data : List Word
  poison : Bool
  deriving DecidableEq, Repr

/-- A request at its controller: sender, tag, whether it writes, local byte address (R494) and size, words written, the POISON
bit, and the PHY cycle in which it came. -/
structure DramJob where
  src : Nat
  tag : Nat
  ident : Ident
  write : Bool
  l : Nat
  size : Nat
  data : List Word
  poison : Bool
  since : Nat
  deriving DecidableEq, Repr

/-- What DELAY_SWEEP measures (R523): at each code, per lane of the mask in ascending order, the bits or commands that passed and
that failed. -/
structure SweepResult where
  codes : List (List (Nat × Nat))
  deriving DecidableEq, Repr

/-- A frame on a Brocia link (R559): the header's fields, the addressed bytes and the data blocks. `kind` is TYPE. The data
of MARKER, ENUM and the other system frames are listed word by word (log entry 144). -/
structure BrFrame where
  dest : Nat
  src : Nat
  kind : Nat
  tag : Nat
  status : Nat
  poison : Bool
  cls : Nat
  hops : Nat
  addr : Nat
  size : Nat
  index : Nat
  data : List Word
  deriving DecidableEq, Repr

/-- A received frame before its check (R559, R560): the descrambled payloads of its SOF, its data blocks and its EOF. -/
structure SeenFrame where
  sof : Word
  blocks : List Word
  eof : Word
  deriving DecidableEq, Repr

/-- A link that the bring-up of R538 applies to: a Brocia port, or a user lane (32 + n) in BLOCK mode. -/
inductive LinkId
  | port (p : Fin 4)
  | lane (n : Fin 64)
  deriving DecidableEq, Repr

/-- The contents of a CAP block (R558). -/
structure CapBlock where
  dev : Nat
  port : Nat
  stepping : Nat
  rates : Nat
  lanes : Nat
  assigned : Bool
  ack : Bool
  deriving DecidableEq, Repr

/-- The kinds of host memory TLP that R548 tells apart. -/
inductive TlpKind
  | memory | io | atomic | lockedRead
  deriving DecidableEq, Repr

/-- A host memory request (R545, R548): function, BAR, offset, bytes, data as 64-bit words (none: a read), TLP tag, kind,
the EP bit, and whether its ECRC fails. -/
structure HostReq where
  fn : Fin 4
  bar : Nat
  off : Nat
  bytes : Nat
  data : Option (List Word)
  tag : Nat
  kind : TlpKind
  ep : Bool
  ecrcBad : Bool
  /-- the byte parity of the host interface's buffers failed (R455) -/
  parityBad : Bool
  deriving DecidableEq, Repr

/-- What a configuration write sets (log entry 150): a named control of the function, or another dword. -/
inductive ConfigSet
  | memEnable (on : Bool)
  | busMaster (on : Bool)
  | ptmEnable (on : Bool)
  | msixEnable (on : Bool)
  | fnMask (on : Bool)
  | d3hot (on : Bool)
  | pmeEnable (on : Bool)
  | l1Enable (on : Bool)
  | other (dword : Nat) (value : BitVec 32)
  deriving DecidableEq, Repr

/-- Whom a NoC response reaches (R545, R328, R572). -/
inductive RespTo
  | host
  | port (p : Fin 68)
  | brocia
  deriving DecidableEq, Repr

/-- A clock branch (R631, R634): a gate of CLK_GATE by its bit, a region's clock lines, a fabric clock divider, the NoC,
and the fixed domains together. -/
inductive Branch
  | gate (n : Nat)
  | region (r : Nat)
  | fclk (k : Nat)
  | noc
  | fixed
  deriving DecidableEq, Repr

end Sys2Proof.Machine
end

