-- ==== Sys2Proof/Syntax.lean ====
section
/-! DEFINITION. The commands of the block: one constructor per row of spec/opcode_table.json. -/

namespace Sys2Proof

open Sys2Proof.Machine

/-- The commands, one per row of the opcode table. -/
inductive Instr
  /-- `REGISTER_WRITE`, R7 -/
  | registerWrite (m : Ident) (off : Nat) (h : Half) (data : Word)
  /-- `RC_FIELD_READ`, R732 -/
  | rcFieldRead (m : Ident) (off : Nat) (h : Half)
  /-- `BAR0_BAD_ACCESS`, R12 -/
  | bar0BadAccess (m : Ident) (off size : Nat) (write : Bool)
  /-- `TCK_COUNT_READ`, R32 -/
  | tckCountRead (m : Ident)
  /-- `HALF_CAPTURE_READ`, R33 -/
  | halfCaptureRead (m : Ident) (time : Bool) (h : Half)
  /-- `TICK_BOUNDARY`, R43 -/
  | tickBoundary (balls : List (Nat × Int))
  /-- `TICK_PERIOD_ARM`, R45 -/
  | tickPeriodArm (m : Ident) (h : Half) (data : Word)
  /-- `TICK_PERIOD_CANCEL`, R47 -/
  | tickPeriodCancel (m : Ident) (h : Half) (data : Word)
  /-- `MARKER_FRAME`, R56 -/
  | markerFrame (mk : Marker)
  /-- `HOLDOVER`, R62 -/
  | holdover
  /-- `HOLDOVER_EXPIRE`, R62 -/
  | holdoverExpire
  /-- `PTM_INTERVAL_EXPIRE`, R66 -/
  | ptmIntervalExpire
  /-- `AON_CALIBRATION`, R68 -/
  | aonCalibration (rootCycles : Nat)
  /-- `TICK_SET_PERIOD`, R71 -/
  | tickSetPeriod (p : Packet)
  /-- `TIME_ALIGN`, R71 -/
  | timeAlign (p : Packet)
  /-- `TIME_PTM`, R66 -/
  | timePtm (p : Packet)
  /-- `TIME_ALIGN_TIMEOUT`, R71 -/
  | timeAlignTimeout
  /-- `PTM_TIMEOUT`, R71 -/
  | ptmTimeout
  /-- `CTX_CREATE`, R106 -/
  | ctxCreate (p : Packet)
  /-- `CTX_CREATE_BLOCK`, R105 -/
  | ctxCreateBlock (p : Packet) (images : List (Word × Word × Word)) (st : Status)
  /-- `CTX_ARM`, R101 -/
  | ctxArm (p : Packet)
  /-- `CTX_PAUSE`, R93 -/
  | ctxPause (p : Packet)
  /-- `CTX_DESTROY`, R93 -/
  | ctxDestroy (p : Packet)
  /-- `CTX_READ`, R119 -/
  | ctxRead (p : Packet)
  /-- `BAR2_READ`, R121 -/
  | bar2Read (m : Ident) (off size : Nat)
  /-- `BAR2_WRITE`, R121 -/
  | bar2Write (m : Ident) (off size : Nat) (data : Word) (poison : Bool)
  /-- `DOMAIN_CFG_WRITE`, R112 -/
  | domainCfgWrite (m : Ident) (d : Fin 16) (h : Half) (data : Word)
  /-- `VISIT`, R134 -/
  | visit (ctxLocked linkLocked : Bool)
  /-- `RESULT_RESPONSE`, R146 -/
  | resultResponse (lane : Fin 4) (source : Fin 224) (tag : Nat) (st : Status) (value : Nat)
  /-- `FLIGHT_TIMEOUT`, R148 -/
  | flightTimeout (entry : Fin 2560)
  /-- `RING_WRITE_RESPONSE`, R155 -/
  | ringWriteResponse (d : Fin 16) (pos : Nat) (st : Status)
  /-- `RING_RD_WRITE`, R156 -/
  | ringRdWrite (m : Ident) (d : Fin 16) (h : Half) (data : Word)
  /-- `RING_CFG_WRITE`, R152 -/
  | ringCfgWrite (m : Ident) (d : Fin 16) (h : Half) (data : Word)
  /-- `REBUILD`, R161 -/
  | rebuild (m : Ident) (h : Half) (data : Word)
  /-- `REBUILD_SCAN_END`, R161 -/
  | rebuildScanEnd
  /-- `GATE_CLOSE`, R637 -/
  | gateClose (m : Ident) (regions : Bool) (h : Half) (data : Word)
  /-- `GATE_OPEN`, R638 -/
  | gateOpen (m : Ident) (regions : Bool) (h : Half) (data : Word)
  /-- `GATE_DRAINED`, R637 -/
  | gateDrained (b : Branch)
  /-- `RAMP_STEP`, R632 -/
  | rampStep (b : Branch)
  /-- `RAMP_END`, R631 -/
  | rampEnd (b : Branch)
  /-- `MODE_WRITE`, R214 -/
  | modeWrite (m : Ident) (g : Fin 128) (h : Half) (data : Word)
  /-- `FORCE_SAFE`, R215 -/
  | forceSafe (m : Ident) (g : Fin 128) (h : Half) (data : Word)
  /-- `PERIOD_WRITE`, R179 -/
  | periodWrite (m : Ident) (g : Fin 128) (h : Half) (data : Word)
  /-- `EDGES_WRITE`, R179 -/
  | edgesWrite (m : Ident) (g : Fin 128) (i : Fin 16) (h : Half) (data : Word)
  /-- `LEVEL_WRITE`, R169 -/
  | levelWrite (m : Ident) (g : Fin 128) (h : Half) (data : Word)
  /-- `SAFE_STATE_WRITE`, R218 -/
  | safeStateWrite (m : Ident) (g : Fin 128) (h : Half) (data : Word)
  /-- `VEC_DATA_ACCESS`, R184 -/
  | vecDataAccess (m : Ident) (g : Fin 128) (h : Half) (data : Option Word)
  /-- `VECTOR_PLAY`, R173 -/
  | vectorPlay (g : Fin 128) (balls : List Int) (limits : List (Fin 16))
  /-- `REFLEX_HOLD_END`, R209 -/
  | reflexHoldEnd (g : Fin 128) (i : Fin 16)
  /-- `GROUP_ACTION`, R190 -/
  | groupAction (g : Fin 128) (a : Action)
  /-- `COMPANION_CLAIM`, R193 -/
  | companionClaim (c : Fin 2048) (g : Fin 128) (slot : Fin 16)
  /-- `COMPANION_RELEASE`, R195 -/
  | companionRelease (c : Fin 2048) (g : Fin 128) (slot : Fin 16)
  /-- `COMPANION_REFUSED`, R194 -/
  | companionRefused (g : Fin 128) (slot : Fin 16) (c : Fin 2048) (st : Status)
  /-- `VECTOR_RUN_START`, R196 -/
  | vectorRunStart (g : Fin 128)
  /-- `VECTOR_RUN_END`, R196 -/
  | vectorRunEnd (g : Fin 128)
  /-- `STREAM_GO`, R199 -/
  | streamGo (m : Ident) (g : Fin 128) (h : Half) (data : Word)
  /-- `STREAM_STOP`, R199 -/
  | streamStop (m : Ident) (g : Fin 128) (h : Half) (data : Word)
  /-- `STREAM_READ_RESPONSE`, R201 -/
  | streamReadResponse (g : Fin 128) (stream : Nat) (st : Status) (ws : List Word)
  /-- `FABRIC_VECTOR`, R203 -/
  | fabricVector (g : Fin 128) (vec : Word)
  /-- `MEASURE_CONNECT`, R226 -/
  | measureConnect (g : Fin 128) (slot : Fin 16)
  /-- `SETTLE_END`, R226 -/
  | settleEnd (g : Fin 128) (slot : Fin 16) (loads : List (Nat × Int))
  /-- `ADC_QUANTITY_START`, R227 -/
  | adcQuantityStart (g : Fin 128)
  /-- `ADC_CONVERSION_END`, R228 -/
  | adcConversionEnd (g : Fin 128) (code : BitVec 16) (ovl : Bool) (loads : List (Nat × Int))
  /-- `MEASURE_RESPOND`, R226 -/
  | measureRespond (g : Fin 128) (slot : Fin 16)
  /-- `RAMP_CROSSING`, R234 -/
  | rampCrossing (g : Fin 128) (slot : Fin 16) (stamp : Nat) (loads : List (Nat × Int))
  /-- `RAMP_LIMIT`, R234 -/
  | rampLimit (g : Fin 128) (slot : Fin 16) (loads : List (Nat × Int))
  /-- `RAMP_DISCHARGE_END`, R235 -/
  | rampDischargeEnd (g : Fin 128) (slot : Fin 16) (loads : List (Nat × Int))
  /-- `TDR_START`, R236 -/
  | tdrStart (g : Fin 128)
  /-- `CAL_GROUP`, R250 -/
  | calGroup (p : Packet)
  /-- `CAL_LOAD`, R252 -/
  | calLoad (p : Packet)
  /-- `CAL_STORE`, R252 -/
  | calStore (p : Packet) (unverified : List Nat)
  /-- `SELFTEST_GROUP`, R254 -/
  | selftestGroup (p : Packet)
  /-- `CAL_REFERENCE`, R253 -/
  | calReference (p : Packet)
  /-- `CAL_STEP_END`, R245 -/
  | calStepEnd (g : Fin 128) (step : CalStep)
  /-- `CAL_TIMEOUT`, R251 -/
  | calTimeout (p : Packet)
  /-- `RAIL_READING`, R256 -/
  | railReading (d : Fin 4) (k : Fin 4) (value : BitVec 16)
  /-- `NOP`, R278 -/
  | nop (e : Fin 32)
  /-- `ADD`, R278 -/
  | add (e : Fin 32)
  /-- `SUB`, R278 -/
  | sub (e : Fin 32)
  /-- `AND`, R278 -/
  | and (e : Fin 32)
  /-- `OR`, R278 -/
  | or (e : Fin 32)
  /-- `XOR`, R278 -/
  | xor (e : Fin 32)
  /-- `ASH`, R278 -/
  | ash (e : Fin 32)
  /-- `ABS`, R278 -/
  | abs (e : Fin 32)
  /-- `CMP`, R278 -/
  | cmp (e : Fin 32)
  /-- `ADDI`, R278 -/
  | addi (e : Fin 32)
  /-- `MOVI`, R278 -/
  | movi (e : Fin 32)
  /-- `LUI`, R278 -/
  | lui (e : Fin 32)
  /-- `MPY`, R274 -/
  | mpy (e : Fin 32)
  /-- `MAC`, R274 -/
  | mac (e : Fin 32)
  /-- `MSU`, R274 -/
  | msu (e : Fin 32)
  /-- `RND`, R276 -/
  | rnd (e : Fin 32)
  /-- `MAC4S`, R275 -/
  | mac4s (e : Fin 32)
  /-- `MAC4V`, R275 -/
  | mac4v (e : Fin 32)
  /-- `LD`, R270 -/
  | ld (e : Fin 32)
  /-- `ST`, R263 -/
  | st (e : Fin 32)
  /-- `LD2`, R271 -/
  | ld2 (e : Fin 32)
  /-- `ST2`, R278 -/
  | st2 (e : Fin 32)
  /-- `STR`, R276 -/
  | str (e : Fin 32)
  /-- `MODP`, R270 -/
  | modp (e : Fin 32)
  /-- `BR`, R279 -/
  | br (e : Fin 32)
  /-- `CALL`, R278 -/
  | call (e : Fin 32)
  /-- `RET`, R278 -/
  | ret (e : Fin 32)
  /-- `LOOP`, R282 -/
  | loop (e : Fin 32)
  /-- `LOOPI`, R282 -/
  | loopi (e : Fin 32)
  /-- `ENDL`, R283 -/
  | endl (e : Fin 32)
  /-- `DMA`, R286 -/
  | dma (e : Fin 32)
  /-- `WAITD`, R288 -/
  | waitd (e : Fin 32)
  /-- `MOVS`, R266 -/
  | movs (e : Fin 32)
  /-- `END`, R290 -/
  | endJob (e : Fin 32)
  /-- `RTI`, R278 -/
  | rti (e : Fin 32)
  /-- `TRAP`, R278 -/
  | trap (e : Fin 32)
  /-- `SGE_ACTION`, R289 -/
  | sgeAction (e : Fin 32) (a : Action)
  /-- `JOB_LIMIT_EXPIRE`, R291 -/
  | jobLimitExpire (e : Fin 32)
  /-- `DMA_RESPONSE`, R288 -/
  | dmaResponse (e : Fin 32) (st : Status) (ws : List (BitVec 32))
  /-- `SGE_RUN_WRITE`, R294 -/
  | sgeRunWrite (m : Ident) (e : Fin 32) (h : Half) (data : Word)
  /-- `SGE_RESTART`, R298 -/
  | sgeRestart (m : Ident) (e : Fin 32) (h : Half) (data : Word)
  /-- `SGE_MEM_DATA_ACCESS`, R295 -/
  | sgeMemDataAccess (m : Ident) (e : Fin 32) (h : Half) (data : Option Word)
  /-- `PORT_WAIT_STEAL`, R264 -/
  | portWaitSteal (e : Fin 32)
  /-- `FCLK_WRITE`, R311 -/
  | fclkWrite (m : Ident) (k : Fin 24) (h : Half) (data : Word)
  /-- `UOSC_ENABLE`, R334 -/
  | uoscEnable (m : Ident) (k : Fin 4) (h : Half) (data : Word)
  /-- `UOSC_DISABLE`, R334 -/
  | uoscDisable (m : Ident) (k : Fin 4) (h : Half) (data : Word)
  /-- `UOSC_READY`, R334 -/
  | uoscReady (k : Fin 4)
  /-- `UOSC_MEASURE`, R335 -/
  | uoscMeasure (hz : List Nat)
  /-- `FABRIC_PORT_REQUEST`, R328 -/
  | fabricPortRequest (p : Fin 68) (req : NocReq)
  /-- `FABRIC_ANSWER`, R331 -/
  | fabricAnswer (p : Fin 68) (ans : FabAnswer)
  /-- `PORT_TIMEOUT`, R332 -/
  | portTimeout (p : Fin 68) (src tag : Nat)
  /-- `NVA_DATA_ACCESS`, R341 -/
  | nvaDataAccess (m : Ident) (h : Half) (data : Option Word)
  /-- `NVA_WRITE_DONE`, R341 -/
  | nvaWriteDone
  /-- `SER_MODE_WRITE`, R345 -/
  | serModeWrite (m : Ident) (n : Fin 16) (h : Half) (data : Word)
  /-- `SER_MODE_APPLY`, R345 -/
  | serModeApply (n : Fin 16)
  /-- `SER_TX_WRITE`, R347 -/
  | serTxWrite (m : Ident) (n : Fin 16) (h : Half) (data : Word)
  /-- `SER_RX_READ`, R347 -/
  | serRxRead (m : Ident) (n : Fin 16) (h : Half)
  /-- `UART_FRAME_RECEIVE`, R348 -/
  | uartFrameReceive (n : Fin 16) (line : List (Bool × Bool × Bool)) (low : Nat)
  /-- `UART_FRAME_SEND`, R348 -/
  | uartFrameSend (n : Fin 16) (cts : Bool)
  /-- `SPI_TRANSFER`, R350 -/
  | spiTransfer (n : Fin 16) (input : BitVec 32)
  /-- `I2C_TRANSFER`, R351 -/
  | i2cTransfer (n : Fin 16) (addr sent : Nat) (received : List (BitVec 8)) (last : I2cEnd)
  /-- `CAN_FRAME_RECEIVE`, R353 -/
  | canFrameReceive (n : Fin 16) (header : Word) (age : Nat) (body : List Word) (recessive : Nat) (fault : CanFault)
  /-- `CAN_FRAME_SEND`, R352 -/
  | canFrameSend (n : Fin 16) (recessive : Nat) (last : CanEnd)
  /-- `CFG_LOAD`, R394 -/
  | cfgLoad (p : Packet)
  /-- `CFG_ABORT`, R394 -/
  | cfgAbort (p : Packet)
  /-- `CFG_START`, R384 -/
  | cfgStart (p : Packet)
  /-- `CFG_READBACK`, R392 -/
  | cfgReadback (p : Packet) (failAt : Option Nat)
  /-- `FUSE_ROLLBACK`, R391 -/
  | fuseRollback (p : Packet)
  /-- `FUSE_PROGRAM`, R390 -/
  | fuseProgram (p : Packet)
  /-- `CONFIG_HEADER`, R364 -/
  | configHeader (st : Status) (ws : List Word)
  /-- `CONFIG_RECORD`, R366 -/
  | configRecord (st : Status) (ws : List Word)
  /-- `CONFIG_TRAILER`, R364 -/
  | configTrailer (st : Status) (ws : List Word)
  /-- `AUTHENTICATED`, R371 -/
  | authenticated
  /-- `STARVATION_EXPIRE`, R368 -/
  | starvationExpire
  /-- `CFG_PUSH_WRITE`, R374 -/
  | cfgPushWrite (m : Ident) (h : Half) (data : Word)
  /-- `DONE_N_RISE`, R381 -/
  | doneNRise
  /-- `DONE_FILTER_MET`, R379 -/
  | doneFilterMet
  /-- `READY_FRAME`, R382 -/
  | readyFrame (p : Fin 4) (f : BrFrame)
  /-- `START_FRAME`, R383 -/
  | startFrame (p : Fin 4) (f : BrFrame)
  /-- `REGION_CLEAR`, R412 -/
  | regionClear (p : Packet)
  /-- `REGION_DAMPER`, R413 -/
  | regionDamper (p : Packet)
  /-- `SWP_SOURCE`, R426 -/
  | swpSource (p : Packet) (st : Status) (copy : List Word)
  /-- `REGION_DRAIN_DONE`, R403 -/
  | regionDrainDone (t : Fin 65)
  /-- `DRAIN_LIMIT_EXPIRE`, R404 -/
  | drainLimitExpire (t : Fin 65)
  /-- `CLOCK_LINES_GATED`, R405 -/
  | clockLinesGated (t : Fin 65)
  /-- `SIG_SWEEP_FRAME`, R419 -/
  | sigSweepFrame
  /-- `REPAIR_READ_RESPONSE`, R422 -/
  | repairReadResponse (st : Status) (header ws readback : List Word)
  /-- `MEMORY_SWEEP_READ`, R440 -/
  | memorySweepRead (k : Fin 8) (unit : Nat)
  /-- `MENDED_WRITE_BACK`, R436 -/
  | mendedWriteBack
  /-- `SWEEP_ENABLE_WRITE`, R442 -/
  | sweepEnableWrite (m : Ident) (k : Fin 8) (h : Half) (data : Word)
  /-- `BANK_ACCESS`, R446 -/
  | bankAccess (a b : Option BankReq)
  /-- `BANK_OWNER_WRITE`, R451 -/
  | bankOwnerWrite (m : Ident) (b : Fin 256) (h : Half) (data : Word)
  /-- `BANK_CLEAR_END`, R452 -/
  | bankClearEnd (b : Fin 256)
  /-- `BANK_WINDOW_WRITE`, R453 -/
  | bankWindowWrite (m : Ident) (b : Fin 256) (j : Fin 16) (h : Half) (data : Word)
  /-- `NOC_INJECT`, R465 -/
  | nocInject (e : Fin 320) (req : NocReq)
  /-- `NOC_EJECT`, R482 -/
  | nocEject (k : Nat)
  /-- `ROUTER_FORWARD`, R477 -/
  | routerForward (k : Nat)
  /-- `LINK_REPLAY`, R486 -/
  | linkReplay (l : Fin 320) (flit : LinkFlit) (same : Bool)
  /-- `EPOCH_SWITCH`, R479 -/
  | epochSwitch (m : Ident) (h : Half) (data : Word)
  /-- `LOAD_XY`, R476 -/
  | loadXy (m : Ident) (h : Half) (data : Word)
  /-- `ROUTE_TABLE_WRITE`, R476 -/
  | routeTableWrite (m : Ident) (h : Half) (data : Word)
  /-- `ENDPOINT_DRAIN_DONE`, R484 -/
  | endpointDrainDone (e : Fin 320)
  /-- `DRAM_START`, R520 -/
  | dramStart (p : Packet) (good : Bool)
  /-- `DRAM_STOP`, R516 -/
  | dramStop (p : Packet)
  /-- `DELAY_SWEEP`, R523 -/
  | delaySweep (p : Packet) (found : SweepResult)
  /-- `DRAM_TABLE_SAVE`, R525 -/
  | dramTableSave (p : Packet) (verified : Bool)
  /-- `DRAM_REQUEST`, R502 -/
  | dramRequest (c : Fin 4) (req : DramReq)
  /-- `DRAM_READ_DATA`, R499 -/
  | dramReadData (c : Fin 4) (burst : Nat) (data : List Word) (check : BitVec 128)
  /-- `REFRESH_ACCRUE`, R506 -/
  | refreshAccrue (c : Fin 4)
  /-- `REFRESH_SLOT`, R507 -/
  | refreshSlot (c : Fin 4)
  /-- `MR4_POLL`, R508 -/
  | mr4Poll (c : Fin 4) (ranges : List Nat) (rfm : Bool)
  /-- `REFRESH_WINDOW_END`, R509 -/
  | refreshWindowEnd (c : Fin 4)
  /-- `ALERT_ASSERT`, R513 -/
  | alertAssert (c : Fin 4)
  /-- `ALERT_REPLAY`, R513 -/
  | alertReplay (c : Fin 4)
  /-- `RETRY_BUFFER_RELEASE`, R512 -/
  | retryBufferRelease (c : Fin 4)
  /-- `IMAP_WRITE`, R495 -/
  | imapWrite (m : Ident) (h : Half) (data : Word)
  /-- `LANE_BIT_LOCK`, R532 -/
  | laneBitLock (n : Fin 96) (lossDb : Nat)
  /-- `LANE_RESTART`, R532 -/
  | laneRestart (m : Ident) (n : Fin 96) (h : Half) (data : Word)
  /-- `CHECKER_LOCK`, R536 -/
  | checkerLock (n : Fin 96) (seen : Word)
  /-- `CHECKER_LOCK_LOSS`, R536 -/
  | checkerLockLoss (n : Fin 96) (seen : List Bool)
  /-- `PATTERN_WRITE`, R536 -/
  | patternWrite (m : Ident) (n : Fin 96) (h : Half) (data : Word)
  /-- `INJ_SINGLE`, R537 -/
  | injSingle (m : Ident) (n : Fin 96) (h : Half) (data : Word)
  /-- `INJ_BURST`, R537 -/
  | injBurst (m : Ident) (n : Fin 96) (h : Half) (data : Word)
  /-- `INJECTION_REPEAT`, R537 -/
  | injectionRepeat (n : Fin 96)
  /-- `RECEIVER_DETECT`, R538 -/
  | receiverDetect (l : LinkId) (found : Bool)
  /-- `LINK_STAGE_END`, R538 -/
  | linkStageEnd (l : LinkId) (lanes : Nat)
  /-- `LINK_STAGE_TIMEOUT`, R538 -/
  | linkStageTimeout (l : LinkId)
  /-- `CAP`, R538 -/
  | cap (p : Fin 4) (c : CapBlock)
  /-- `DLY_REQ`, R563 -/
  | dlyReq (p : Fin 4) (num turnPs : Nat)
  /-- `DLY_RSP`, R563 -/
  | dlyRsp (p : Fin 4) (num rttPs turnPs : Nat)
  /-- `HOST_MEMORY_REQUEST`, R545 -/
  | hostMemoryRequest (r : HostReq)
  /-- `HOST_CONFIG_REQUEST`, R544 -/
  | hostConfigRequest (f : Fin 4) (tag dword : Nat) (put : Option ConfigSet)
  /-- `HOST_LINK_DOWN`, R552 -/
  | hostLinkDown
  /-- `FUNCTION_LEVEL_RESET`, R553 -/
  | functionLevelReset (f : Fin 4)
  /-- `L1_ENTRY`, R555 -/
  | l1Entry
  /-- `ALIGN`, R557 -/
  | align (p : Fin 4)
  /-- `ALIGN_SEND`, R557 -/
  | alignSend (p : Fin 4)
  /-- `ACK`, R560 -/
  | ack (p : Fin 4) (seq : Nat)
  /-- `NAK`, R560 -/
  | nak (p : Fin 4) (seq : Nat)
  /-- `ACK_SEND`, R560 -/
  | ackSend (p : Fin 4)
  /-- `CRED`, R561 -/
  | cred (p : Fin 4) (blocks : List Nat)
  /-- `TICK`, R565 -/
  | tick (p : Fin 4) (low8 : Nat) (sincePs : Int)
  /-- `READ_FRAME`, R572 -/
  | readFrame (p : Fin 4) (f : BrFrame)
  /-- `WRITE_FRAME`, R572 -/
  | writeFrame (p : Fin 4) (f : BrFrame)
  /-- `RESPONSE_FRAME`, R573 -/
  | responseFrame (p : Fin 4) (f : BrFrame)
  /-- `ENUM_FRAME`, R568 -/
  | enumFrame (p : Fin 4) (f : BrFrame)
  /-- `ENUM_TABLE_FRAME`, R568 -/
  | enumTableFrame (p : Fin 4) (f : BrFrame)
  /-- `STREAM_FRAME`, R570 -/
  | streamFrame (p : Fin 4) (f : BrFrame)
  /-- `BROCIA_LINK_DOWN`, R562 -/
  | brociaLinkDown (p : Fin 4)
  /-- `RING_ENUM`, R568 -/
  | ringEnum (p : Packet)
  /-- `ENUM_TIMEOUT`, R574 -/
  | enumTimeout (ring : Fin 2) (reached : Nat)
  /-- `RING_COPY`, R575 -/
  | ringCopy (p : Packet)
  /-- `LINK_RETRAIN`, R575 -/
  | linkRetrain (p : Packet)
  /-- `RETRAIN_TIMEOUT`, R574 -/
  | retrainTimeout (p : Fin 4)
  /-- `RACC_DATA_ACCESS`, R573 -/
  | raccDataAccess (m : Ident) (h : Half) (data : Option Word)
  /-- `REMOTE_ACCESS_TIMEOUT`, R573 -/
  | remoteAccessTimeout (tag : Nat)
  /-- `DEVID_WRITE`, R450 -/
  | devidWrite (m : Ident) (h : Half) (data : Word)
  /-- `COMMAND_PORT_WRITE`, R583 -/
  | commandPortWrite (m : Ident) (off size : Nat) (ws : List Word)
  /-- `COMMAND_SUBMIT`, R583 -/
  | commandSubmit (m : Ident) (h : Half) (header : Word)
  /-- `REPLY_POP`, R589 -/
  | replyPop (m : Ident) (h : Half) (data : Word)
  /-- `REPLY_IN_WRITE`, R590 -/
  | replyInWrite (m : Ident) (header : Word) (ws : List Word)
  /-- `DOMAIN_SET`, R595 -/
  | domainSet (p : Packet)
  /-- `DOMAIN_READ`, R594 -/
  | domainRead (p : Packet)
  /-- `ECHO`, R594 -/
  | echo (p : Packet)
  /-- `OWNERSHIP_CLAIM`, R597 -/
  | ownershipClaim (readers : List Ident)
  /-- `HANDOVER_OFFER`, R600 -/
  | handoverOffer (m : Ident) (h : Half) (data : Word)
  /-- `OWNER_RELEASE`, R602 -/
  | ownerRelease (m : Ident) (h : Half) (data : Word)
  /-- `HANDOVER_EXPIRE`, R601 -/
  | handoverExpire
  /-- `LEASE_EXPIRE`, R604 -/
  | leaseExpire
  /-- `MAILBOX_SEND`, R608 -/
  | mailboxSend (m : Ident) (mb : Fin 256) (first : Nat) (ws : List Word)
  /-- `MBX_SEND`, R607 -/
  | mbxSend (m : Ident) (h : Half) (data : Word)
  /-- `MAILBOX_TAKE`, R612 -/
  | mailboxTake (m : Ident) (mb : Fin 256) (h : Half) (data : Word)
  /-- `PWR_STATE`, R647 -/
  | pwrState (p : Packet)
  /-- `CLK_REF_SELECT`, R630 -/
  | clkRefSelect (p : Packet)
  /-- `POWER_STEP_END`, R648 -/
  | powerStepEnd
  /-- `COLD_DELAY_EXPIRE`, R648 -/
  | coldDelayExpire
  /-- `AVS_READBACK`, R654 -/
  | avsReadback (mv : Option Nat)
  /-- `AVS_TIMEOUT`, R657 -/
  | avsTimeout
  /-- `AON_POWER_ON`, R620 -/
  | aonPowerOn
  /-- `CORE_EN_HIGH`, R620 -/
  | coreEnHigh
  /-- `POWER_ON`, R385 -/
  | powerOn (safeKeep : Bool)
  /-- `PWR_OK_FALL`, R622 -/
  | pwrOkFall
  /-- `KINDLING_READY`, R626 -/
  | kindlingReady (bootSrc : Fin 4) (refSel safeKeep : Bool)
  /-- `REFERENCE_QUALIFIED`, R627 -/
  | referenceQualified
  /-- `ROOT_LOCK`, R627 -/
  | rootLock (aon : Nat)
  /-- `HEARTH_INIT_DONE`, R385 -/
  | hearthInitDone (dram : List Bool)
  /-- `CLOCK_MONITOR_TRIP`, R641 -/
  | clockMonitorTrip (lockLost : Bool)
  /-- `PULL_IN_DONE`, R641 -/
  | pullInDone (aon : Nat)
  /-- `FREEZE`, R642 -/
  | freeze
  /-- `SLEW_DONE`, R630 -/
  | slewDone
  /-- `WAKE_PIN`, R661 -/
  | wakePin (n : Fin 4)
  /-- `WAKE_REQ_WRITE`, R661 -/
  | wakeReqWrite (m : Ident) (h : Half) (data : Word)
  /-- `RING_ENERGY_WAKE`, R661 -/
  | ringEnergyWake
  /-- `PERST_RISE`, R661 -/
  | perstRise
  /-- `FAULT_RECORD`, R672 -/
  | faultRecord
  /-- `FAULT_REACTION`, R671 -/
  | faultReaction
  /-- `JOURNAL_WRITE`, R676 -/
  | journalWrite
  /-- `JOURNAL_SCAN`, R677 -/
  | journalScan
  /-- `JOURNAL_READ`, R678 -/
  | journalRead (p : Packet)
  /-- `HALT_RELEASE`, R680 -/
  | haltRelease (m : Ident) (h : Half) (data : Word)
  /-- `FLT_RAISE_WRITE`, R691 -/
  | fltRaiseWrite (m : Ident) (h : Half) (data : Word)
  /-- `FIRST_CAPTURE_REARM`, R675 -/
  | firstCaptureRearm (m : Ident) (h : Half) (data : Word)
  /-- `HISTORY_READ`, R674 -/
  | historyRead (m : Ident) (k : Fin 32) (h : Half)
  /-- `HEARTBEAT`, R688 -/
  | heartbeat
  /-- `HB_LOST`, R688 -/
  | hbLost
  /-- `TICK_LOST`, R689 -/
  | tickLost
  /-- `EMBER_FREQ_WRITE`, R736 -/
  | emberFreqWrite (m : Ident) (h : Half) (data : Word)
  /-- `PTM_RESPONSE`, R66 -/
  | ptmResponse (hostNs : Word) (ago : Nat)
  /-- `ENDPOINT_RESPONSE`, R547 -/
  | endpointResponse (dst : RespTo) (tag : Nat) (st : Status) (data : List Word) (poison : Bool)
  /-- `COMPANION_GRANT`, R193 -/
  | companionGrant (g : Fin 128) (slot : Fin 16) (c : Fin 2048)
  /-- `COMPANION_RESULT`, R227 -/
  | companionResult (g : Fin 128) (slot : Fin 16) (idx : Fin 3) (sum : Int) (count : Nat) (gain16 : Bool)
  /-- `USER_LANE_WORD`, R577 -/
  | userLaneWord (n : Fin 64) (tx rx : Option (BitVec 128 × Nat))
  /-- `EMBER_EDGE`, R736 -/
  | emberEdge
  /-- `BANKED_JOB_CUTOFF`, R648 -/
  | bankedJobCutoff
  /-- `REF_QUALIFY_TIMEOUT`, R630 -/
  | refQualifyTimeout
  /-- `AUTHENTICATION_FAILED`, R370 -/
  | authenticationFailed
  /-- `DONE_N_FALL`, R381 -/
  | doneNFall
  /-- `HOST_LINK_UP`, R542 -/
  | hostLinkUp (speed width : Nat)
  /-- `SYNC_ERR_BLOCK`, R556 -/
  | syncErrBlock (p : Fin 4) (sync : BitVec 2) (line : BitVec 58) (raw : Word)
  /-- `FRAME_CHECK_FAIL`, R560 -/
  | frameCheckFail (p : Fin 4) (x : SeenFrame)
  /-- `VMEM_TEST_END`, R254 -/
  | vmemTestEnd (g : Fin 128) (pattern : Bool) (ok : Bool)
  deriving DecidableEq, Repr

end Sys2Proof
end

