-- ==== Sys2Proof/Decode.lean ====
section
/-! DEFINITION. The decoder of command words. spec/opcode_table.json gives no row of this block any bits: a command comes
from outside as an access, a packet, a frame, a pin or an event, never as a word. So no word spells a command. -/

namespace Sys2Proof

/-- The command that a word of `nbits` bits spells by the table's bits: none, since no row has bits. -/
def decodeTableWord (_nbits _w : Nat) : Option Instr := none

end Sys2Proof
end

