-- ==== Sys2Proof/Machine/Bits.lean ====
section
/-! DEFINITION. Bit fields of 64-bit words, list helpers and CRC-32C, used by every family. -/

namespace Sys2Proof.Machine

/-- Bits `lo` to `lo + w - 1` of a word, as a number. -/
def bits {n : Nat} (v : BitVec n) (lo w : Nat) : Nat := (v >>> lo).toNat % 2 ^ w

/-- One bit of a word. -/
def bit {n : Nat} (v : BitVec n) (i : Nat) : Bool := v.getLsbD i

/-- The mask of bits `lo` to `lo + w - 1`. -/
def fieldMask (lo w : Nat) : Word := (BitVec.ofNat 64 (2 ^ w - 1)) <<< lo

/-- The word with bits `lo` to `lo + w - 1` replaced by the low `w` bits of `x`. -/
def setBits (v : Word) (lo w x : Nat) : Word :=
  (v &&& ~~~ fieldMask lo w) ||| ((BitVec.ofNat 64 (x % 2 ^ w)) <<< lo)

/-- A Boolean as a number. -/
def bnat (b : Bool) : Nat := if b then 1 else 0

/-- A word put together from fields (lowest bit, width, value). -/
def mkWord : List (Nat × Nat × Nat) → Word
  | [] => 0
  | (lo, w, x) :: r => setBits (mkWord r) lo w x

/-- The two's-complement reading of the low `w` bits of a number. -/
def signed (w x : Nat) : Int :=
  if x % 2 ^ w < 2 ^ (w - 1) then (x % 2 ^ w : Nat) else (x % 2 ^ w : Nat) - (2 ^ w : Nat)

/-- The `w`-bit two's-complement code of an integer. -/
def unsigned (w : Nat) (x : Int) : Nat := (x % (2 ^ w : Nat)).toNat

/-- Entry `i` of a list, or a default where there is none. -/
def nth {α : Type} (d : α) (l : List α) (i : Nat) : α := l.getD i d

/-- The list with entry `i` replaced by `f` of it; unchanged where there is none. -/
def modNth {α : Type} : List α → Nat → (α → α) → List α
  | [], _, _ => []
  | a :: r, 0, f => f a :: r
  | a :: r, i + 1, f => a :: modNth r i f

/-- The list without its first entry equal to `a`. -/
def dropFirst {α : Type} [DecidableEq α] (a : α) : List α → List α
  | [] => []
  | b :: r => if a = b then r else b :: dropFirst a r

/-- The list without its first entry that satisfies `p`. -/
def dropFirstP {α : Type} (p : α → Bool) : List α → List α
  | [] => []
  | b :: r => if p b then r else b :: dropFirstP p r

/-- Put an entry before the first that it does not exceed. -/
def insertBy {α : Type} (le : α → α → Bool) (a : α) : List α → List α
  | [] => [a]
  | b :: r => if le a b then a :: b :: r else b :: insertBy le a r

/-- The list in order; entries that are equal keep theirs. -/
def sortBy {α : Type} (le : α → α → Bool) : List α → List α
  | [] => []
  | a :: r => insertBy le a (sortBy le r)

/-- One bit step of a reflected CRC-32 with polynomial `poly`. -/
def crcBit (poly : BitVec 32) (c : BitVec 32) : BitVec 32 :=
  if bit c 0 then (c >>> 1) ^^^ poly else c >>> 1

/-- Eight bit steps. -/
def crcByte (poly : BitVec 32) (c : BitVec 32) (b : BitVec 8) : BitVec 32 :=
  let x := c ^^^ b.setWidth 32
  crcBit poly (crcBit poly (crcBit poly (crcBit poly
    (crcBit poly (crcBit poly (crcBit poly (crcBit poly x)))))))

/-- The eight bytes of a word, byte 0 first (R3). -/
def wordBytes (v : Word) : List (BitVec 8) :=
  [v.extractLsb' 0 8, v.extractLsb' 8 8, v.extractLsb' 16 8, v.extractLsb' 24 8,
   v.extractLsb' 32 8, v.extractLsb' 40 8, v.extractLsb' 48 8, v.extractLsb' 56 8]

/-- CRC-32C (Castagnoli, reflected 0x82F63B78, initial and final inversion) over bytes. -/
def crc32c (bs : List (BitVec 8)) : BitVec 32 :=
  ~~~ (bs.foldl (crcByte 0x82F63B78) 0xFFFFFFFF)

/-- CRC-32C over words, byte 0 of each first. -/
def crc32cWords (ws : List Word) : BitVec 32 := crc32c (ws.flatMap wordBytes)

/-! ### Byte accesses (R462) -/

/-- A read or write of 1 to 256 bytes inside one aligned block of 256 bytes (R462). -/
def sizeGood (a n : Nat) : Bool := decide (1 ≤ n ∧ n ≤ 256 ∧ a / 256 = (a + n - 1) / 256)

/-- The 64-bit words that an access of `n` bytes at byte address `a` touches. -/
def wordsTouched (a n : Nat) : Nat := (a + n - 1) / 8 - a / 8 + 1

/-- The mask of the bytes that an access of `n` bytes at byte address `a` has in the 64-bit word number `w`. -/
def wordMask (a n w : Nat) : Word :=
  (List.range 8).foldl (fun m j => if a ≤ 8 * w + j ∧ 8 * w + j < a + n then m ||| 0xFF <<< (8 * j) else m) 0

/-- The mask of the bytes of the `i`th word that an access of `n` bytes at byte address `a` touches. -/
def byteMask (a n i : Nat) : Word := wordMask a n (a / 8 + i)

end Sys2Proof.Machine
end

