-- ==== Sys2Proof/Machine/Blocks.lean ====
section
/-! DEFINITION. The blocks of a Brocia link and of a user lane in BLOCK mode (R556 to R560): the scrambler, the control blocks, the
words of a frame, and the check of a received frame. -/

namespace Sys2Proof.Machine

/-! ### The scrambler (R556) -/

/-- The last 58 bits on the line after one more; bit 0 is the latest. -/
def pushLine (line : BitVec 58) (b : Bool) : BitVec 58 := line <<< 1 ||| if b then 1 else 0

/-- What x⁵⁸ + x³⁹ + 1 adds to the next bit: the line's bits 39 and 58 before it. -/
def scrambleKey (line : BitVec 58) : Bool := bit line 38 ^^ bit line 57

/-- Payload bits, scrambled after the line's last 58 bits. -/
def scramble : BitVec 58 → List Bool → List Bool
  | _, [] => []
  | line, b :: r =>
    let o := b ^^ scrambleKey line
    o :: scramble (pushLine line o) r

/-- Bits of the line, descrambled. -/
def descramble : BitVec 58 → List Bool → List Bool
  | _, [] => []
  | line, o :: r => (o ^^ scrambleKey line) :: descramble (pushLine line o) r

/-- The bits of a payload, bit 0 first, as they go on the line. -/
def payloadBits (v : Word) : List Bool := (List.range 64).map (bit v)

/-- The payload of 64 bits, the first of them bit 0. -/
def payloadOf : List Bool → Nat
  | [] => 0
  | b :: r => bnat b + 2 * payloadOf r

/-! ### Control blocks (R558) -/

/-- The type codes of control blocks. -/
def ctlIdle : Nat := 0x00
def ctlAlign : Nat := 0x1E
def ctlSof : Nat := 0x2D
def ctlEof : Nat := 0x33
def ctlAck : Nat := 0x4B
def ctlNak : Nat := 0x55
def ctlCred : Nat := 0x66
def ctlTick : Nat := 0x78
def ctlDlyReq : Nat := 0x87
def ctlDlyRsp : Nat := 0x99
def ctlCap : Nat := 0xAA

/-- Every type that a control block may carry. -/
def ctlTypes : List Nat :=
  [ctlIdle, ctlAlign, ctlSof, ctlEof, ctlAck, ctlNak, ctlCred, ctlTick, ctlDlyReq, ctlDlyRsp, ctlCap]

/-- The type of a control block. -/
def ctlType (v : Word) : Nat := bits v 0 8

/-- A block is taken: a data block, or a control block of a known type (R556, R558). -/
def blockGood (sync : BitVec 2) (payload : Word) : Bool :=
  decide (sync = 0b01 ∨ (sync = 0b10 ∧ ctlType payload ∈ ctlTypes))

/-! ### Frames (R559, R560) -/

/-- The class of a frame: 0 request, 1 response, 2 system, 3 stream. -/
def classOf (kind : Nat) : Nat := if kind ≤ 1 then 0 else if kind = 2 then 1 else if kind = 8 then 3 else 2

/-- Header block H0. -/
def BrFrame.h0 (f : BrFrame) : Word :=
  mkWord [(0, 14, f.dest), (14, 14, f.src), (28, 4, f.kind), (32, 16, f.tag), (48, 3, f.status), (51, 1, bnat f.poison),
    (52, 4, f.cls), (56, 8, f.hops)]

/-- Header block H1. -/
def BrFrame.h1 (f : BrFrame) : Word := mkWord [(0, 40, f.addr), (40, 8, f.size - 1), (48, 10, f.index)]

/-- The data blocks of a frame: the header and what follows it. -/
def BrFrame.dataBlocks (f : BrFrame) : List Word := f.h0 :: f.h1 :: f.data

/-- The SOF payload of a frame. -/
def BrFrame.sof (f : BrFrame) (seq : Nat) : Word :=
  mkWord [(0, 8, ctlSof), (8, 12, seq), (20, 6, f.dataBlocks.length), (26, 2, classOf f.kind)]

/-- The EOF payload for an SOF payload and data blocks: their CRC-32C. -/
def eofOf (sof : Word) (blocks : List Word) : Word :=
  mkWord [(0, 8, ctlEof), (8, 32, (crc32cWords (sof :: blocks)).toNat)]

/-- A frame as it is sent: SOF, data blocks, EOF. -/
def BrFrame.encode (f : BrFrame) (seq : Nat) : SeenFrame :=
  { sof := f.sof seq, blocks := f.dataBlocks, eof := eofOf (f.sof seq) f.dataBlocks }

/-- The receiver's check (R560): the CRC, LEN, and the SEQ after the last in order. -/
def SeenFrame.good (x : SeenFrame) (last : Nat) : Bool :=
  decide (ctlType x.sof = ctlSof ∧ ctlType x.eof = ctlEof ∧ bits x.sof 20 6 = x.blocks.length
    ∧ bits x.eof 8 32 = (crc32cWords (x.sof :: x.blocks)).toNat ∧ bits x.sof 8 12 = (last + 1) % 4096)

end Sys2Proof.Machine
end

