-- ==== Sys2Proof/Config.lean ====
section
/-! DEFINITION. What an implementation fixes and the spec leaves open: constants without a body, so that no proof can see
their values. -/

namespace Sys2Proof

/-- The source of free values: value number `n` that the spec leaves open (log entry 3). -/
opaque Config.freeWord : Nat → Word

/-- The unique device number of the IDENT area, HC_UID (R617); the spec states no value (log entry 4). -/
opaque Config.uid : Word

/-- V_RUN of the IDENT area in mV (R655); the spec bounds it by 720 and 800 and states no value (log entry 4). -/
opaque Config.vRun : Nat

/-- A sum of ADC codes over a number of conversions, corrected by a gain in ppm and an offset in LSBs, in units of 2^-16
code: the spec gives the coefficients (R248) and the precision (R229) and not how they are applied (log entry 11). -/
opaque Config.corrected : Int → Int → Int → Nat → Int

/-- A level in nV times 4,095, corrected by a gain in ppm and an offset in LSBs (R239, R248): how the coefficients act the
spec does not say (log entry 61). -/
opaque Config.correctedLevel : Int → Int → Int → Int

/-- The correction in ppm that a reference measurement finds (R253): QTY, the standard's value and the reading; the spec
gives no formula (log entry 203). -/
opaque Config.referencePpm : Bool → Nat → Int → Int

/-! ### The fabric's resources (R300 to R325)

A target is a region, 0 to 63, or the static border, 64. Clusters, cells, slices and block memories are numbered within
their target; clusters row by row, from the lowest. -/

namespace Machine

/-- A direction of a routing wire (R306). -/
inductive Dir
  | east | west | north | south
  deriving DecidableEq, Repr

/-- A routing wire (R306): wire `i` of one length that starts at a cluster in a direction, or long line `i` along the row or
the column of a cluster. -/
inductive Wire
  | run (t cluster : Nat) (dir : Dir) (length i : Nat)
  | long (t cluster : Nat) (column : Bool) (i : Nat)
  deriving DecidableEq, Repr

/-- An edge that carries border hold cells (R414): of region `r` with the region right of it or above it, of the bottom row's
region `x` with the static border below it, or of the top row's with the static border above it. -/
inductive HoldEdge
  | right (r : Nat)
  | above (r : Nat)
  | bottom (x : Nat)
  | top (x : Nat)
  deriving DecidableEq, Repr

/-- A border hold cell (R414): cell `i` of cluster `place` of its edge; `back`: it carries its signal down or to the left. -/
structure HoldCell where
  edge : HoldEdge
  place : Nat
  i : Nat
  back : Bool
  deriving DecidableEq, Repr

/-- What gives a signal to the fabric's multiplexers: the look-up table, the flip-flop or the carry of a cell, a wire, an
output bit of an arithmetic slice or of a port of a block memory, a border hold cell, a hard block's output. -/
inductive FabNode
  | lut (t cell : Nat)
  | flop (t cell : Nat)
  | carry (t cell : Nat)
  | wire (w : Wire)
  | slice (t n bit : Nat)
  | bram (t b : Nat) (portB : Bool) (bit : Nat)
  | hold (h : HoldCell)
  | hard (t i : Nat)
  deriving DecidableEq, Repr

/-- What a multiplexer of the fabric drives (R301, R302, R306 to R308): a wire, an input of a cell's look-up table, the
cluster input that a cell's flip-flop may take as D, a cluster's clock enable and load inputs, an input bit of a slice or of
a port of a block memory, a border hold cell, a static clock line, an input of a hard block. -/
inductive FabPin
  | wire (w : Wire)
  | lutIn (t cell k : Nat)
  | direct (t cell : Nat)
  | clockEnable (t cluster : Nat)
  | load (t cluster : Nat)
  | slice (t n bit : Nat)
  | bram (t b : Nat) (portB : Bool) (bit : Nat)
  | hold (h : HoldCell)
  | staticLine (k : Nat)
  | hard (t i : Nat)
  deriving DecidableEq, Repr

/-- What the frames of a target configure. -/
inductive FabItem
  /-- the 16 bits of a cell's look-up table -/
  | lut (cell : Nat)
  /-- bit 0: the flip-flop's D is the cluster input, not the look-up table (R301) -/
  | dDirect (cell : Nat)
  /-- bit 0: the flip-flop's initial value (R303) -/
  | flopInit (cell : Nat)
  /-- bit 0: the flip-flop is clocked by the second line of its cluster (R302) -/
  | flopSecond (cell : Nat)
  /-- a cluster's first or second clock line (R302) -/
  | clusterLine (cluster : Nat) (second : Bool)
  /-- the source of a global clock line (R310) -/
  | lineSource (line : Nat)
  /-- the select code of a multiplexer (R307) -/
  | select (p : FabPin)
  /-- a slice's mode: 0 MULT, 1 MAC, else CASCADE (R316) -/
  | sliceMode (n : Nat)
  /-- a slice's options in bits 0 to 3: A signed, B signed, FRAC, SAT (R316 to R318) -/
  | sliceOptions (n : Nat)
  /-- what a slice gives out: 0 the full result, 1 its high 24 bits, else the rounded result (R318) -/
  | sliceOut (n : Nat)
  | sliceLine (n : Nat)
  /-- a block memory's mode: bit 0 CHECKED, bit 1 SWEEP (R320) -/
  | bramMode (b : Nat)
  /-- the width of a block memory not CHECKED: 0 RAW80, 1 RAW40, else RAW20 (R320) -/
  | bramWidth (b : Nat)
  /-- bit 0: a port of a block memory has its output register (R321) -/
  | bramRegister (b : Nat) (portB : Bool)
  | bramLine (b : Nat) (portB : Bool)
  /-- a border hold cell's mode (R415) -/
  | holdMode (h : HoldCell)
  deriving DecidableEq, Repr

end Machine

/-- What a target's frames (ADDR and words) say of an item; the spec does not lay out the frame bits (log entry 90). -/
opaque Config.configured : List (Nat × List (BitVec 64)) → Machine.FabItem → Nat

/-- The contents of word `w` of block memory `b` of a target by its FKIND 1 frames (R304, log entry 90). -/
opaque Config.bramWord : List (Nat × List (BitVec 64)) → Nat → Nat → Nat

/-- The inputs of a multiplexer, by their select codes: which wires and cells feed which the spec does not say (log
entry 90). -/
opaque Config.muxInputs : Machine.FabPin → List Machine.FabNode

/-- The carry out of a cell by its table, its four inputs and its carry in: the spec gives no function (log entry 90). -/
opaque Config.carryOut : Nat → List Bool → Bool → Bool

/-- The level of output `i` of a target's hard blocks in a root cycle (log entry 90). -/
opaque Config.hardLevel : Nat → Nat → Nat → Bool

/-- User oscillator `k` gives a rising edge in a root cycle: it bears no relation to the root (R333, log entry 90). -/
opaque Config.oscEdge : Nat → Nat → Bool

/-- Which of two overlapping accesses on different clock lines to a word comes first, by block memory and root cycle: the
device does not fix it (R323). -/
opaque Config.portFirst : Nat → Nat → Bool

end Sys2Proof
end

