-- ==== Sys2Proof/Machine/Memory.lean ====
section
/-! DEFINITION. Memories and the register file as lists of (address, value) pairs in one canonical form: addresses
strictly rising, and no entry equal to what an unlisted address reads as. -/

namespace Sys2Proof.Machine

/-- A sparse memory: the entries that differ from what an unlisted address reads as, addresses rising. -/
abbrev Memory (α : Type) := List (Nat × α)

/-- The value at address `k`; `d` gives what an unlisted address reads as. -/
def Memory.get {α : Type} (d : Nat → α) : List (Nat × α) → Nat → α
  | [], k => d k
  | (a, v) :: r, k => if a = k then v else Memory.get d r k

/-- An entry as it is listed: absent where it is the default. -/
def Memory.entry {α : Type} [DecidableEq α] (d : Nat → α) (k : Nat) (v : α) (r : List (Nat × α)) : List (Nat × α) :=
  if v = d k then r else (k, v) :: r

/-- The memory without an entry for address `k`. -/
def Memory.drop {α : Type} (k : Nat) (m : List (Nat × α)) : List (Nat × α) := m.filter (fun e => decide (e.1 ≠ k))

/-- The memory with `v` at address `k`; keeps the canonical form. Whatever the list, no other entry for `k` stays. -/
def Memory.set {α : Type} [DecidableEq α] (d : Nat → α) : List (Nat × α) → Nat → α → List (Nat × α)
  | [], k, v => Memory.entry d k v []
  | (a, w) :: r, k, v =>
    if k ≤ a then Memory.entry d k v (Memory.drop k ((a, w) :: r)) else (a, w) :: Memory.set d r k v

/-- Every listed address is above `lo`, they rise, and no entry is the default. -/
def Memory.wfAbove {α : Type} [DecidableEq α] (d : Nat → α) : Nat → List (Nat × α) → Bool
  | _, [] => true
  | lo, (a, v) :: r => decide (lo ≤ a) && decide (v ≠ d a) && Memory.wfAbove d (a + 1) r

/-- The canonical form. -/
def Memory.wf {α : Type} [DecidableEq α] (d : Nat → α) (m : List (Nat × α)) : Bool := Memory.wfAbove d 0 m

end Sys2Proof.Machine
end

