-- ==== Sys2Proof/Machine/Regs.lean ====
section
/-! DEFINITION. The register descriptions of the section files of spec/, register by register: offsets from the start
of BAR0 (R616), index strides, access class (R4 to R6), field types (R7), and one `Field` constant per field, named
`<REGISTER>_<FIELD>` after the spec. The index arguments of a field follow the order of the spec's own indexes
(group or engine or port first, then channel, entry or word). -/

namespace Sys2Proof.Machine

/-- The field types of R7. -/
inductive FieldType
  | ro | rw | rw1c | rw1s | wo | rc | rwl
  deriving DecidableEq, Repr

/-- The access classes of R4 to R6. -/
inductive AccessClass
  | ownerOnly | anyMaster | restricted
  deriving DecidableEq, Repr

/-- Where a field lies: offset of its register in BAR0, up to three index strides, lowest bit and width. -/
structure Field where
  off : Nat
  s1 : Nat
  s2 : Nat
  s3 : Nat
  lo : Nat
  w : Nat
  deriving DecidableEq, Repr

/-- One index of a register: stride in bytes, first value and number of values. -/
structure RegIndex where
  stride : Nat
  first : Nat
  count : Nat
  deriving DecidableEq, Repr

/-- A field as the generic access path sees it: lowest bit, width and type. -/
structure FieldSpec where
  lo : Nat
  w : Nat
  ty : FieldType
  deriving DecidableEq, Repr

/-- A register of the spec. -/
structure RegInfo where
  base : Nat
  index : List RegIndex
  perMaster : Bool
  access : AccessClass
  fields : List FieldSpec
  deriving DecidableEq, Repr

/-- Every register the spec describes, by the spec's own name. -/
inductive RegName
  | TCK_CTL | TCK_STATUS | TCK_PERIOD | TCK_PERIOD_NEXT | TCK_CHANGE_AT | TCK_COUNT
  | DEVICE_TIME | TCK_SNAP_TIME | TCK_SNAP_PHASE | TCK_UNCERT | TCK_STEER | TCK_PORTn_ADJ
  | TCK_LATE_VISITS | TCK_LATE_NOC | TCK_LATE_SGE | TCK_LATE_TICKS | TCK_LATE_DISPATCH | TCK_CARRY_MAX
  | TCK_AUDIT | TCK_AON | TCK_AON_CAL | TCK_SLEEP | TCK_PTM_HOST | TCK_PTM_DEV
  | CTX_COUNT_CREATED | CTX_COUNT_DESTROYED | CTX_COUNT_RESIDENT | CTX_STATE_COUNTs | CTX_AUDIT | CTX_AUDIT_TICK
  | CTX_STATUS | CTX_QUAR_LAST | CTX_QUAR_COUNT | CTX_DOMd_MATCH | CTX_DOMd_CFG | CTX_DOMd_CREATED
  | CTX_DOMd_DESTROYED | CTX_DOMd_STATUS | CTX_ENG_CTL | CTX_ENG_STATUS | CTX_ENG_AUDIT | CTX_ENG_VISITS
  | CTX_ENG_LAPS | CTX_ENG_FLIGHT | CTX_ENG_EVENTS | CTX_CRED_t | CTX_DOMd_VISITS | CTX_RINGd_BASE
  | CTX_RINGd_CFG | CTX_RINGd_ID | CTX_RINGd_WR | CTX_RINGd_RD | CTX_RINGd_PRODUCED | CTX_RINGd_LOSS
  | CTX_RINGd_PENDING | CHG_MODE | CHG_SAFE | CHG_DRV_LEVEL | CHG_PERIOD | CHG_STATUS
  | CHG_VEC_ADDR | CHG_VEC_DATA | CHG_RUN | CHG_FIRST_FAIL | CHG_STREAM_BASE | CHG_STREAM_CTL
  | CHG_STREAM_AT | CHG_STREAM_STATUS | CHG_UNDERRUN | CHG_EVENTS | CHG_RFX_STATUS | CHG_RFX_COUNT
  | CHG_CHi_CFG | CHG_CHi_THRESH | CHG_CHi_EDGES | CHG_CHi_DESKEW | CHG_CHi_FAILS | CHG_CHi_LAST
  | CHG_RFXj_MATCH | CHG_RFXj_RESP | CHG_LOOPj | CHG_STOPk | CHG_PMU_CFG | CHG_TDR_CFG
  | CHG_MEAS_LAST | CHG_MEAS_COUNT | CHG_ADC_STATUS | CHG_CAL_REFS | CHG_CAL_STATUS | CHG_CAL_ADDR
  | CHG_CAL_DATA | CHG_ST_RESULT | CHG_RAILk | SGE_CTL | SGE_STATUS | SGE_FRAME
  | SGE_FRAME_STATUS | SGE_TRAP | SGE_COUNT_JOBS | SGE_COUNT_ERR | SGE_CYCLES | SGE_MEM_ADDR
  | SGE_MEM_DATA | CLK_FCLKk | CLK_UOSCk | NVA_CTL | NVA_ADDR | NVA_DATA
  | NVA_USER_MATCH | NVA_WP0 | NVA_WP1 | NVA_STATUS | NVA_WRITES | SER_CTL
  | SER_ASSIGN | SER_DIV | SER_STATUS | SER_TX | SER_RX | SER_CAN_BIT
  | SER_CAN_FILTERj | CFG_CTL | CFG_STATUS | CFG_PROGRESS | CFG_HDR | CFG_REGIONS
  | CFG_PUSH | CFG_FUSE | CFG_START_TICK | CFG_LOADS | CFG_RGN_DRAIN | CFG_RGNr_CTL
  | CFG_RGNr_STATUS | CFG_RGNr_RELEASE | CFG_RGNr_PORT | SWP_SIG_CTL | SWP_SIG_STATUS | SWP_SIG_LAP
  | SWP_SIG_COUNT | SWP_SIG_FAIL | SWP_SIG_SKIPPED | SWP_SIG_LAST | SWP_SIG_LAST_TICK | SWP_SIG_SRC
  | SWP_SIG_SRC_STATIC | BNK_OWNERb | BNK_STATUSb | BNK_VIOLb | BNK_VIOL_LASTb | BNK_WINb_j
  | SWP_MEMk_CTL | SWP_MEMk_LAP | SWP_MEMk_COUNT | SWP_MEMk_LAST | NOC_CTL | NOC_EPOCH
  | NOC_RT_SEL | NOC_RT_DATA | NOC_AUDIT | NOC_COUNTS | NOC_REPLAY | NOC_EPe_STATUS
  | NOC_LINKl_STAT | DRC_CTL | DRC_STATUS | DRC_GEOM | DRC_TIM0 | DRC_TIM1
  | DRC_TIM2 | DRC_ALERT | DRC_TERM | DRC_ALERT_COUNT | DRC_ERR_COUNT | DRC_ERR_LAST
  | DRC_REF_COUNT | DRC_RD_COUNT | DRC_OFFLINE | DRC_SWEEP | DRC_IMAP | DRC_DQs_k_l
  | DRC_DQSs_k_m | DRC_CAs_l | LNK_LANEn_CTL | LNK_LANEn_TXEQ | LNK_LANEn_RXSTAT | LNK_LANEn_DFE0
  | LNK_LANEn_DFE1 | LNK_LANEn_PAT | LNK_LANEn_UPAT | LNK_LANEn_ERR | LNK_LANEn_BITS | LNK_QUADq
  | PCI_CTL | PCI_STATUS | PCI_COUNTS | BRL_ID | BRL_CTL | BRL_PORTp_STATUS
  | BRL_PORTp_DELAY | BRL_PORTp_CABLE | BRL_PORTp_COUNTS | BRL_RACC_ADDR | BRL_RACC_DATA | BRL_RACC_STATUS
  | BRL_COUNTS | BRL_MAPk | HC_ID | HC_UID | HC_SELF | HC_STATUS
  | HC_QUEUEc | HC_CMD_PORT | HC_CMD_Wk | HC_CMD_SUBMIT | HC_SUBMIT_STATUS | HC_REPLY_HDR
  | HC_REPLY_Wk | HC_REPLY_POP | HC_REPLY_IN | HC_REPLY_STATUS | OWN_CLAIM | OWN_HANDOVER
  | OWN_STATUS | OWN_LEASE | OWN_CHANGES | OWN_VIOLm_COUNT | OWN_VIOLm_LAST | MBX_m_Wk
  | MBX_m_STATUS | MBX_m_TAKE | MBX_m_CFG | MBX_m_RECV | MBX_m_SENDERS | MBX_m_COUNT
  | MBX_m_OVER | MBX_STAGE_Wk | MBX_SEND | MBX_DBr | MBX_AUDIT | CLK_CTL
  | CLK_STATUS | CLK_MON | CLK_MON_LAST | CLK_GATE | CLK_GATE_CLOSING | CLK_GATE_RAMP
  | CLK_RGN_GATE | CLK_RGN_CLOSING | PWR_CTL | PWR_STATUS | PWR_AVS | PWR_WAKE_CFG
  | PWR_WAKE_STATUS | PWR_WAKE_REQ | PWR_COUNTS | FLT_CTL | FLT_STATUS | FLT_EMBER
  | FLT_FIRST_W0 | FLT_FIRST_W1 | FLT_COUNT | FLT_JOURNAL | FLT_JSEQ | FLT_RAISE
  | FLT_DMA_AUDIT | FLT_DRAM_AUDIT | FLT_DMAe | FLT_DRAMc | FLT_VECf_RAISED | FLT_HISTk_W0
  | FLT_HISTk_W1 | FLT_SRCs
  deriving DecidableEq, Repr

/-! ### Fields of 02_frame_tick.md -/

def TCK_CTL_ALIGN_EN : Field := ⟨0x400000, 0x0, 0x0, 0x0, 0, 1⟩
def TCK_CTL_ROLE : Field := ⟨0x400000, 0x0, 0x0, 0x0, 1, 2⟩
def TCK_CTL_PTM_INTERVAL : Field := ⟨0x400000, 0x0, 0x0, 0x0, 8, 8⟩
def TCK_STATUS_ALIGNED : Field := ⟨0x400008, 0x0, 0x0, 0x0, 0, 1⟩
def TCK_STATUS_QUALITY : Field := ⟨0x400008, 0x0, 0x0, 0x0, 1, 2⟩
def TCK_STATUS_HOLDOVER : Field := ⟨0x400008, 0x0, 0x0, 0x0, 3, 1⟩
def TCK_STATUS_SLEWING : Field := ⟨0x400008, 0x0, 0x0, 0x0, 4, 1⟩
def TCK_STATUS_IS_SOURCE : Field := ⟨0x400008, 0x0, 0x0, 0x0, 5, 1⟩
def TCK_STATUS_UPSTREAM_PORT : Field := ⟨0x400008, 0x0, 0x0, 0x0, 6, 2⟩
def TCK_STATUS_LATE : Field := ⟨0x400008, 0x0, 0x0, 0x0, 8, 1⟩
def TCK_STATUS_CHANGE_MISSED : Field := ⟨0x400008, 0x0, 0x0, 0x0, 9, 1⟩
def TCK_STATUS_ALIGN_LOST : Field := ⟨0x400008, 0x0, 0x0, 0x0, 10, 1⟩
def TCK_STATUS_SOURCE_CONFLICT : Field := ⟨0x400008, 0x0, 0x0, 0x0, 11, 1⟩
def TCK_STATUS_COUNT_MISMATCH : Field := ⟨0x400008, 0x0, 0x0, 0x0, 12, 1⟩
def TCK_STATUS_HOPS : Field := ⟨0x400008, 0x0, 0x0, 0x0, 16, 16⟩
def TCK_PERIOD_CUR_N : Field := ⟨0x400010, 0x0, 0x0, 0x0, 0, 17⟩
def TCK_PERIOD_VISIT_BUDGET : Field := ⟨0x400010, 0x0, 0x0, 0x0, 32, 23⟩
def TCK_PERIOD_NEXT_NEXT_N : Field := ⟨0x400018, 0x0, 0x0, 0x0, 0, 17⟩
def TCK_PERIOD_NEXT_PENDING : Field := ⟨0x400018, 0x0, 0x0, 0x0, 61, 1⟩
def TCK_PERIOD_NEXT_CANCEL : Field := ⟨0x400018, 0x0, 0x0, 0x0, 62, 1⟩
def TCK_PERIOD_NEXT_ARM : Field := ⟨0x400018, 0x0, 0x0, 0x0, 63, 1⟩
def TCK_CHANGE_AT_AT : Field := ⟨0x400020, 0x0, 0x0, 0x0, 0, 64⟩
def TCK_COUNT_COUNT : Field := ⟨0x400028, 0x0, 0x0, 0x0, 0, 64⟩
def DEVICE_TIME_TIME : Field := ⟨0x400030, 0x0, 0x0, 0x0, 0, 64⟩
def TCK_SNAP_TIME_TIME : Field := ⟨0x400038, 0x0, 0x0, 0x0, 0, 64⟩
def TCK_SNAP_PHASE_PHASE : Field := ⟨0x400040, 0x0, 0x0, 0x0, 0, 24⟩
def TCK_UNCERT_UNCERT_NS : Field := ⟨0x400048, 0x0, 0x0, 0x0, 0, 48⟩
def TCK_STEER_STEER_PPB : Field := ⟨0x400050, 0x0, 0x0, 0x0, 0, 32⟩
def TCK_STEER_PHASE_ERR_PS : Field := ⟨0x400050, 0x0, 0x0, 0x0, 32, 32⟩
def TCK_PORTn_ADJ_ASYM_PS : Field := ⟨0x400058, 0x8, 0x0, 0x0, 0, 16⟩
def TCK_LATE_VISITS_COUNT : Field := ⟨0x400078, 0x0, 0x0, 0x0, 0, 64⟩
def TCK_LATE_NOC_COUNT : Field := ⟨0x400080, 0x0, 0x0, 0x0, 0, 64⟩
def TCK_LATE_SGE_COUNT : Field := ⟨0x400088, 0x0, 0x0, 0x0, 0, 64⟩
def TCK_LATE_TICKS_COUNT : Field := ⟨0x400090, 0x0, 0x0, 0x0, 0, 64⟩
def TCK_LATE_DISPATCH_COUNT : Field := ⟨0x4000D0, 0x0, 0x0, 0x0, 0, 64⟩
def TCK_CARRY_MAX_MAX : Field := ⟨0x400098, 0x0, 0x0, 0x0, 0, 23⟩
def TCK_AUDIT_MISMATCH_COUNT : Field := ⟨0x4000A0, 0x0, 0x0, 0x0, 0, 32⟩
def TCK_AUDIT_MARKERS_LOST : Field := ⟨0x4000A0, 0x0, 0x0, 0x0, 32, 32⟩
def TCK_AON_COUNT : Field := ⟨0x4000A8, 0x0, 0x0, 0x0, 0, 48⟩
def TCK_AON_CAL_ROOT_PER_1024 : Field := ⟨0x4000B0, 0x0, 0x0, 0x0, 0, 32⟩
def TCK_SLEEP_LAST_US : Field := ⟨0x4000B8, 0x0, 0x0, 0x0, 0, 48⟩
def TCK_PTM_HOST_HOST_NS : Field := ⟨0x4000C0, 0x0, 0x0, 0x0, 0, 64⟩
def TCK_PTM_DEV_DEV_TIME : Field := ⟨0x4000C8, 0x0, 0x0, 0x0, 0, 64⟩
/-! ### Fields of 03_test_contexts.md -/

def CTX_COUNT_CREATED_COUNT : Field := ⟨0x800100, 0x0, 0x0, 0x0, 0, 64⟩
def CTX_COUNT_DESTROYED_COUNT : Field := ⟨0x800108, 0x0, 0x0, 0x0, 0, 64⟩
def CTX_COUNT_RESIDENT_RESIDENT : Field := ⟨0x800110, 0x0, 0x0, 0x0, 0, 21⟩
def CTX_COUNT_RESIDENT_FREE : Field := ⟨0x800110, 0x0, 0x0, 0x0, 21, 21⟩
def CTX_STATE_COUNTs_COUNT : Field := ⟨0x800110, 0x8, 0x0, 0x0, 0, 21⟩
def CTX_AUDIT_DOMAIN_BALANCE : Field := ⟨0x800148, 0x0, 0x0, 0x0, 0, 1⟩
def CTX_AUDIT_DOMAIN_SUM : Field := ⟨0x800148, 0x0, 0x0, 0x0, 1, 1⟩
def CTX_AUDIT_STATE_SUM : Field := ⟨0x800148, 0x0, 0x0, 0x0, 2, 1⟩
def CTX_AUDIT_FREE_SUM : Field := ⟨0x800148, 0x0, 0x0, 0x0, 3, 1⟩
def CTX_AUDIT_DOMAIN : Field := ⟨0x800148, 0x0, 0x0, 0x0, 4, 4⟩
def CTX_AUDIT_FAIL_TICKS : Field := ⟨0x800148, 0x0, 0x0, 0x0, 32, 32⟩
def CTX_AUDIT_TICK_TICK : Field := ⟨0x800150, 0x0, 0x0, 0x0, 0, 64⟩
def CTX_STATUS_SHARE_REFUSED : Field := ⟨0x800158, 0x0, 0x0, 0x0, 0, 1⟩
def CTX_STATUS_QUARANTINED : Field := ⟨0x800158, 0x0, 0x0, 0x0, 1, 1⟩
def CTX_QUAR_LAST_ID : Field := ⟨0x800160, 0x0, 0x0, 0x0, 0, 20⟩
def CTX_QUAR_LAST_WORDS : Field := ⟨0x800160, 0x0, 0x0, 0x0, 20, 4⟩
def CTX_QUAR_LAST_DOMAIN : Field := ⟨0x800160, 0x0, 0x0, 0x0, 24, 4⟩
def CTX_QUAR_LAST_TICK : Field := ⟨0x800160, 0x0, 0x0, 0x0, 32, 32⟩
def CTX_QUAR_COUNT_COUNT : Field := ⟨0x800168, 0x0, 0x0, 0x0, 0, 64⟩
def CTX_DOMd_MATCH_MATCH : Field := ⟨0x801000, 0x40, 0x0, 0x0, 0, 32⟩
def CTX_DOMd_MATCH_MASK : Field := ⟨0x801000, 0x40, 0x0, 0x0, 32, 32⟩
def CTX_DOMd_CFG_EN : Field := ⟨0x801008, 0x40, 0x0, 0x0, 0, 1⟩
def CTX_DOMd_CFG_SHARE : Field := ⟨0x801008, 0x40, 0x0, 0x0, 8, 8⟩
def CTX_DOMd_CFG_QUOTA : Field := ⟨0x801008, 0x40, 0x0, 0x0, 16, 21⟩
def CTX_DOMd_CREATED_COUNT : Field := ⟨0x801010, 0x40, 0x0, 0x0, 0, 64⟩
def CTX_DOMd_DESTROYED_COUNT : Field := ⟨0x801018, 0x40, 0x0, 0x0, 0, 64⟩
def CTX_DOMd_STATUS_RESIDENT : Field := ⟨0x801020, 0x40, 0x0, 0x0, 0, 21⟩
def CTX_DOMd_STATUS_QUARANTINED : Field := ⟨0x801020, 0x40, 0x0, 0x0, 21, 21⟩
def CTX_DOMd_STATUS_OVER : Field := ⟨0x801020, 0x40, 0x0, 0x0, 63, 1⟩
/-! ### Fields of 04_context_engine.md -/

def CTX_ENG_CTL_EN : Field := ⟨0x800000, 0x0, 0x0, 0x0, 0, 1⟩
def CTX_ENG_CTL_REBUILD : Field := ⟨0x800000, 0x0, 0x0, 0x0, 1, 1⟩
def CTX_ENG_CTL_FLIGHT_TIMEOUT : Field := ⟨0x800000, 0x0, 0x0, 0x0, 32, 32⟩
def CTX_ENG_STATUS_REBUILDING : Field := ⟨0x800008, 0x0, 0x0, 0x0, 0, 1⟩
def CTX_ENG_STATUS_LINK_ERR : Field := ⟨0x800008, 0x0, 0x0, 0x0, 1, 1⟩
def CTX_ENG_STATUS_FLIGHT_ERR : Field := ⟨0x800008, 0x0, 0x0, 0x0, 2, 1⟩
def CTX_ENG_STATUS_RING_LOSS : Field := ⟨0x800008, 0x0, 0x0, 0x0, 3, 1⟩
def CTX_ENG_STATUS_REBUILDS : Field := ⟨0x800008, 0x0, 0x0, 0x0, 32, 32⟩
def CTX_ENG_AUDIT_FLIGHT_SUM : Field := ⟨0x800010, 0x0, 0x0, 0x0, 0, 1⟩
def CTX_ENG_AUDIT_CREDIT_SUM : Field := ⟨0x800010, 0x0, 0x0, 0x0, 1, 1⟩
def CTX_ENG_AUDIT_RING_SUM : Field := ⟨0x800010, 0x0, 0x0, 0x0, 2, 1⟩
def CTX_ENG_AUDIT_TARGET : Field := ⟨0x800010, 0x0, 0x0, 0x0, 8, 8⟩
def CTX_ENG_AUDIT_RING : Field := ⟨0x800010, 0x0, 0x0, 0x0, 16, 4⟩
def CTX_ENG_AUDIT_FAIL_TICKS : Field := ⟨0x800010, 0x0, 0x0, 0x0, 32, 32⟩
def CTX_ENG_VISITS_COUNT : Field := ⟨0x800018, 0x0, 0x0, 0x0, 0, 64⟩
def CTX_ENG_LAPS_LAP : Field := ⟨0x800020, 0x0, 0x0, 0x0, 0, 32⟩
def CTX_ENG_LAPS_STALE : Field := ⟨0x800020, 0x0, 0x0, 0x0, 32, 32⟩
def CTX_ENG_FLIGHT_OCCUPIED : Field := ⟨0x800028, 0x0, 0x0, 0x0, 0, 12⟩
def CTX_ENG_FLIGHT_ORPHANS : Field := ⟨0x800028, 0x0, 0x0, 0x0, 16, 12⟩
def CTX_ENG_FLIGHT_STALE_RESP : Field := ⟨0x800028, 0x0, 0x0, 0x0, 32, 32⟩
def CTX_ENG_EVENTS_RETRIES : Field := ⟨0x800030, 0x0, 0x0, 0x0, 0, 32⟩
def CTX_ENG_EVENTS_TIMEOUTS : Field := ⟨0x800030, 0x0, 0x0, 0x0, 32, 32⟩
def CTX_CRED_t_CREDIT : Field := ⟨0x800800, 0x8, 0x0, 0x0, 0, 5⟩
def CTX_CRED_t_ORPHANS : Field := ⟨0x800800, 0x8, 0x0, 0x0, 8, 5⟩
def CTX_CRED_t_DEPTH : Field := ⟨0x800800, 0x8, 0x0, 0x0, 16, 5⟩
def CTX_DOMd_VISITS_ADMITTED : Field := ⟨0x801028, 0x40, 0x0, 0x0, 0, 23⟩
def CTX_DOMd_VISITS_CARRIED : Field := ⟨0x801028, 0x40, 0x0, 0x0, 32, 21⟩
def CTX_RINGd_BASE_ADDR : Field := ⟨0x802000, 0x40, 0x0, 0x0, 4, 34⟩
def CTX_RINGd_BASE_TARGET : Field := ⟨0x802000, 0x40, 0x0, 0x0, 63, 1⟩
def CTX_RINGd_CFG_EN : Field := ⟨0x802008, 0x40, 0x0, 0x0, 0, 1⟩
def CTX_RINGd_CFG_LOG2_SIZE : Field := ⟨0x802008, 0x40, 0x0, 0x0, 8, 5⟩
def CTX_RINGd_CFG_NOTIFY : Field := ⟨0x802008, 0x40, 0x0, 0x0, 32, 24⟩
def CTX_RINGd_ID_IDENT : Field := ⟨0x802010, 0x40, 0x0, 0x0, 0, 32⟩
def CTX_RINGd_WR_WR : Field := ⟨0x802018, 0x40, 0x0, 0x0, 0, 32⟩
def CTX_RINGd_RD_RD : Field := ⟨0x802020, 0x40, 0x0, 0x0, 0, 32⟩
def CTX_RINGd_PRODUCED_COUNT : Field := ⟨0x802028, 0x40, 0x0, 0x0, 0, 64⟩
def CTX_RINGd_LOSS_FULL : Field := ⟨0x802030, 0x40, 0x0, 0x0, 0, 32⟩
def CTX_RINGd_LOSS_WERR : Field := ⟨0x802030, 0x40, 0x0, 0x0, 32, 32⟩
def CTX_RINGd_PENDING_PENDING : Field := ⟨0x802038, 0x40, 0x0, 0x0, 0, 9⟩
/-! ### Fields of 05_instrument_channels.md -/

def CHG_MODE_MODE : Field := ⟨0xC00000, 0x4000, 0x0, 0x0, 0, 3⟩
def CHG_MODE_REFLEX_ON : Field := ⟨0xC00000, 0x4000, 0x0, 0x0, 3, 1⟩
def CHG_MODE_NEXT : Field := ⟨0xC00000, 0x4000, 0x0, 0x0, 4, 3⟩
def CHG_MODE_REFLEX : Field := ⟨0xC00000, 0x4000, 0x0, 0x0, 8, 1⟩
def CHG_MODE_PENDING : Field := ⟨0xC00000, 0x4000, 0x0, 0x0, 9, 1⟩
def CHG_MODE_REGION : Field := ⟨0xC00000, 0x4000, 0x0, 0x0, 16, 6⟩
def CHG_MODE_RELOAD_ACT : Field := ⟨0xC00000, 0x4000, 0x0, 0x0, 24, 1⟩
def CHG_MODE_FORCE_SAFE : Field := ⟨0xC00000, 0x4000, 0x0, 0x0, 25, 1⟩
def CHG_SAFE_STATE : Field := ⟨0xC00008, 0x4000, 0x0, 0x0, 0, 2⟩
def CHG_DRV_LEVEL_VIH : Field := ⟨0xC00010, 0x4000, 0x0, 0x0, 0, 12⟩
def CHG_PERIOD_CYCLES : Field := ⟨0xC00018, 0x4000, 0x0, 0x0, 0, 16⟩
def CHG_STATUS_QUEUED : Field := ⟨0xC00020, 0x4000, 0x0, 0x0, 0, 5⟩
def CHG_STATUS_PLAYING : Field := ⟨0xC00020, 0x4000, 0x0, 0x0, 5, 1⟩
def CHG_STATUS_STREAM_DELAYED : Field := ⟨0xC00020, 0x4000, 0x0, 0x0, 6, 1⟩
def CHG_STATUS_EDGE_REFUSED : Field := ⟨0xC00020, 0x4000, 0x0, 0x0, 7, 1⟩
def CHG_STATUS_BAD_SYMBOL : Field := ⟨0xC00020, 0x4000, 0x0, 0x0, 8, 1⟩
def CHG_STATUS_UNDERRUN : Field := ⟨0xC00020, 0x4000, 0x0, 0x0, 9, 1⟩
def CHG_STATUS_STREAM_ABORT : Field := ⟨0xC00020, 0x4000, 0x0, 0x0, 10, 1⟩
def CHG_STATUS_LEVEL_REFUSED : Field := ⟨0xC00020, 0x4000, 0x0, 0x0, 11, 1⟩
def CHG_STATUS_CLAIMED : Field := ⟨0xC00020, 0x4000, 0x0, 0x0, 16, 16⟩
def CHG_VEC_ADDR_ADDR : Field := ⟨0xC00028, 0x4000, 0x0, 0x0, 0, 15⟩
def CHG_VEC_DATA_VECTOR : Field := ⟨0xC00030, 0x4000, 0x0, 0x0, 0, 64⟩
def CHG_RUN_FAILS : Field := ⟨0xC00038, 0x4000, 0x0, 0x0, 0, 32⟩
def CHG_RUN_PASSES : Field := ⟨0xC00038, 0x4000, 0x0, 0x0, 32, 13⟩
def CHG_RUN_MARKS : Field := ⟨0xC00038, 0x4000, 0x0, 0x0, 48, 16⟩
def CHG_FIRST_FAIL_VECTOR : Field := ⟨0xC00040, 0x4000, 0x0, 0x0, 0, 15⟩
def CHG_FIRST_FAIL_PASS : Field := ⟨0xC00040, 0x4000, 0x0, 0x0, 15, 12⟩
def CHG_FIRST_FAIL_CHANNELS : Field := ⟨0xC00040, 0x4000, 0x0, 0x0, 32, 16⟩
def CHG_FIRST_FAIL_VALID : Field := ⟨0xC00040, 0x4000, 0x0, 0x0, 63, 1⟩
def CHG_STREAM_BASE_ADDR : Field := ⟨0xC00048, 0x4000, 0x0, 0x0, 3, 35⟩
def CHG_STREAM_CTL_GO : Field := ⟨0xC00050, 0x4000, 0x0, 0x0, 0, 1⟩
def CHG_STREAM_CTL_STOP : Field := ⟨0xC00050, 0x4000, 0x0, 0x0, 1, 1⟩
def CHG_STREAM_CTL_UNDERRUN_ACT : Field := ⟨0xC00050, 0x4000, 0x0, 0x0, 2, 1⟩
def CHG_STREAM_CTL_ARMED : Field := ⟨0xC00050, 0x4000, 0x0, 0x0, 3, 1⟩
def CHG_STREAM_CTL_LENGTH : Field := ⟨0xC00050, 0x4000, 0x0, 0x0, 8, 28⟩
def CHG_STREAM_AT_TICK : Field := ⟨0xC00058, 0x4000, 0x0, 0x0, 0, 64⟩
def CHG_STREAM_STATUS_PLAYED : Field := ⟨0xC00060, 0x4000, 0x0, 0x0, 0, 40⟩
def CHG_STREAM_STATUS_BUFFERED : Field := ⟨0xC00060, 0x4000, 0x0, 0x0, 40, 12⟩
def CHG_UNDERRUN_STREAM : Field := ⟨0xC00068, 0x4000, 0x0, 0x0, 0, 32⟩
def CHG_UNDERRUN_FABRIC : Field := ⟨0xC00068, 0x4000, 0x0, 0x0, 32, 32⟩
def CHG_EVENTS_BAD_SYMBOL : Field := ⟨0xC00070, 0x4000, 0x0, 0x0, 0, 32⟩
def CHG_EVENTS_RFX_SUPPRESSED : Field := ⟨0xC00070, 0x4000, 0x0, 0x0, 32, 32⟩
def CHG_RFX_STATUS_FIRED : Field := ⟨0xC00078, 0x4000, 0x0, 0x0, 0, 16⟩
def CHG_RFX_COUNT_COUNT : Field := ⟨0xC00080, 0x4000, 0x0, 0x0, 0, 64⟩
def CHG_CHi_CFG_IMP : Field := ⟨0xC00800, 0x4000, 0x80, 0x0, 0, 1⟩
def CHG_CHi_CFG_MASK : Field := ⟨0xC00800, 0x4000, 0x80, 0x0, 1, 1⟩
def CHG_CHi_THRESH_VTL : Field := ⟨0xC00808, 0x4000, 0x80, 0x0, 0, 12⟩
def CHG_CHi_THRESH_VTH : Field := ⟨0xC00808, 0x4000, 0x80, 0x0, 16, 12⟩
def CHG_CHi_EDGES_DRIVE : Field := ⟨0xC00810, 0x4000, 0x80, 0x0, 0, 23⟩
def CHG_CHi_EDGES_STROBE : Field := ⟨0xC00810, 0x4000, 0x80, 0x0, 32, 23⟩
def CHG_CHi_DESKEW_DRV : Field := ⟨0xC00818, 0x4000, 0x80, 0x0, 0, 8⟩
def CHG_CHi_DESKEW_STB : Field := ⟨0xC00818, 0x4000, 0x80, 0x0, 8, 8⟩
def CHG_CHi_FAILS_COUNT : Field := ⟨0xC00820, 0x4000, 0x80, 0x0, 0, 32⟩
def CHG_CHi_LAST_STATE : Field := ⟨0xC00828, 0x4000, 0x80, 0x0, 0, 2⟩
def CHG_CHi_LAST_DRIVER : Field := ⟨0xC00828, 0x4000, 0x80, 0x0, 8, 2⟩
def CHG_RFXj_MATCH_VALUE : Field := ⟨0xC01000, 0x4000, 0x10, 0x0, 0, 32⟩
def CHG_RFXj_MATCH_MASK : Field := ⟨0xC01000, 0x4000, 0x10, 0x0, 32, 32⟩
def CHG_RFXj_RESP_DRIVE_EN : Field := ⟨0xC01008, 0x4000, 0x10, 0x0, 0, 16⟩
def CHG_RFXj_RESP_LEVEL : Field := ⟨0xC01008, 0x4000, 0x10, 0x0, 16, 16⟩
def CHG_RFXj_RESP_DELAY : Field := ⟨0xC01008, 0x4000, 0x10, 0x0, 32, 8⟩
def CHG_RFXj_RESP_HOLD : Field := ⟨0xC01008, 0x4000, 0x10, 0x0, 40, 16⟩
def CHG_RFXj_RESP_ONCE : Field := ⟨0xC01008, 0x4000, 0x10, 0x0, 62, 1⟩
def CHG_RFXj_RESP_EN : Field := ⟨0xC01008, 0x4000, 0x10, 0x0, 63, 1⟩
def CHG_LOOPj_BEGIN : Field := ⟨0xC01100, 0x4000, 0x8, 0x0, 0, 15⟩
def CHG_LOOPj_END : Field := ⟨0xC01100, 0x4000, 0x8, 0x0, 15, 15⟩
def CHG_LOOPj_COUNT : Field := ⟨0xC01100, 0x4000, 0x8, 0x0, 30, 16⟩
def CHG_LOOPj_EN : Field := ⟨0xC01100, 0x4000, 0x8, 0x0, 63, 1⟩
def CHG_STOPk_STOP : Field := ⟨0xC02000, 0x4000, 0x8, 0x0, 0, 64⟩
/-! ### Fields of 06_channel_measurement.md -/

def CHG_PMU_CFG_AVG : Field := ⟨0xC03000, 0x4000, 0x0, 0x0, 0, 2⟩
def CHG_TDR_CFG_SHOTS : Field := ⟨0xC03008, 0x4000, 0x0, 0x0, 0, 4⟩
def CHG_TDR_CFG_BLANK : Field := ⟨0xC03008, 0x4000, 0x0, 0x0, 16, 16⟩
def CHG_MEAS_LAST_VALUE : Field := ⟨0xC03010, 0x4000, 0x0, 0x0, 0, 24⟩
def CHG_MEAS_LAST_KIND : Field := ⟨0xC03010, 0x4000, 0x0, 0x0, 24, 3⟩
def CHG_MEAS_LAST_CH : Field := ⟨0xC03010, 0x4000, 0x0, 0x0, 27, 11⟩
def CHG_MEAS_LAST_COMPLIANCE : Field := ⟨0xC03010, 0x4000, 0x0, 0x0, 40, 1⟩
def CHG_MEAS_LAST_OVERRANGE : Field := ⟨0xC03010, 0x4000, 0x0, 0x0, 41, 1⟩
def CHG_MEAS_LAST_BAD_PARAM : Field := ⟨0xC03010, 0x4000, 0x0, 0x0, 42, 1⟩
def CHG_MEAS_LAST_RAIL : Field := ⟨0xC03010, 0x4000, 0x0, 0x0, 43, 1⟩
def CHG_MEAS_LAST_RAMP_LIMIT : Field := ⟨0xC03010, 0x4000, 0x0, 0x0, 44, 1⟩
def CHG_MEAS_LAST_CLAMPED : Field := ⟨0xC03010, 0x4000, 0x0, 0x0, 45, 1⟩
def CHG_MEAS_COUNT_ACTIONS : Field := ⟨0xC03018, 0x4000, 0x0, 0x0, 0, 32⟩
def CHG_MEAS_COUNT_CONVERSIONS : Field := ⟨0xC03018, 0x4000, 0x0, 0x0, 32, 32⟩
def CHG_ADC_STATUS_LAST_CODE : Field := ⟨0xC03020, 0x4000, 0x0, 0x0, 0, 16⟩
def CHG_ADC_STATUS_WAITING : Field := ⟨0xC03020, 0x4000, 0x0, 0x0, 16, 6⟩
def CHG_ADC_STATUS_MAX_WAIT : Field := ⟨0xC03020, 0x4000, 0x0, 0x0, 32, 32⟩
def CHG_CAL_REFS_REFS : Field := ⟨0xC03028, 0x4000, 0x0, 0x0, 0, 21⟩
def CHG_CAL_STATUS_WINDOW : Field := ⟨0xC03030, 0x4000, 0x0, 0x0, 0, 1⟩
def CHG_CAL_STATUS_CAL_RUNNING : Field := ⟨0xC03030, 0x4000, 0x0, 0x0, 1, 1⟩
def CHG_CAL_STATUS_ST_RUNNING : Field := ⟨0xC03030, 0x4000, 0x0, 0x0, 2, 1⟩
def CHG_CAL_STATUS_SOURCE : Field := ⟨0xC03030, 0x4000, 0x0, 0x0, 3, 2⟩
def CHG_CAL_STATUS_ITEMS : Field := ⟨0xC03030, 0x4000, 0x0, 0x0, 8, 5⟩
def CHG_CAL_STATUS_ABANDONED : Field := ⟨0xC03030, 0x4000, 0x0, 0x0, 16, 32⟩
def CHG_CAL_ADDR_WORD : Field := ⟨0xC03038, 0x4000, 0x0, 0x0, 0, 8⟩
def CHG_CAL_DATA_DATA : Field := ⟨0xC03040, 0x4000, 0x0, 0x0, 0, 64⟩
def CHG_ST_RESULT_RAN : Field := ⟨0xC03048, 0x4000, 0x0, 0x0, 0, 5⟩
def CHG_ST_RESULT_FAILED : Field := ⟨0xC03048, 0x4000, 0x0, 0x0, 8, 5⟩
def CHG_ST_RESULT_CHANNELS : Field := ⟨0xC03048, 0x4000, 0x0, 0x0, 32, 16⟩
def CHG_ST_RESULT_VALID : Field := ⟨0xC03048, 0x4000, 0x0, 0x0, 63, 1⟩
def CHG_RAILk_VALUE : Field := ⟨0xC03800, 0x80000, 0x8, 0x0, 0, 16⟩
def CHG_RAILk_LOW : Field := ⟨0xC03800, 0x80000, 0x8, 0x0, 16, 16⟩
def CHG_RAILk_HIGH : Field := ⟨0xC03800, 0x80000, 0x8, 0x0, 32, 16⟩
def CHG_RAILk_OUT : Field := ⟨0xC03800, 0x80000, 0x8, 0x0, 48, 1⟩
/-! ### Fields of 07_signal_engines.md -/

def SGE_CTL_RUN : Field := ⟨0x1000000, 0x10000, 0x0, 0x0, 0, 1⟩
def SGE_CTL_RESTART : Field := ⟨0x1000000, 0x10000, 0x0, 0x0, 1, 1⟩
def SGE_CTL_JOB_LIMIT : Field := ⟨0x1000000, 0x10000, 0x0, 0x0, 32, 32⟩
def SGE_STATUS_STATE : Field := ⟨0x1000008, 0x10000, 0x0, 0x0, 0, 2⟩
def SGE_STATUS_BANK : Field := ⟨0x1000008, 0x10000, 0x0, 0x0, 2, 1⟩
def SGE_STATUS_QUEUED : Field := ⟨0x1000008, 0x10000, 0x0, 0x0, 3, 4⟩
def SGE_STATUS_DMA_BUSY : Field := ⟨0x1000008, 0x10000, 0x0, 0x0, 7, 1⟩
def SGE_STATUS_SUSPENDED : Field := ⟨0x1000008, 0x10000, 0x0, 0x0, 8, 1⟩
def SGE_FRAME_EN : Field := ⟨0x1000010, 0x10000, 0x0, 0x0, 0, 1⟩
def SGE_FRAME_ENTRY : Field := ⟨0x1000010, 0x10000, 0x0, 0x0, 16, 13⟩
def SGE_FRAME_STATUS_BACKLOG : Field := ⟨0x1000018, 0x10000, 0x0, 0x0, 0, 16⟩
def SGE_FRAME_STATUS_RUNNING : Field := ⟨0x1000018, 0x10000, 0x0, 0x0, 16, 1⟩
def SGE_FRAME_STATUS_MAX_CYCLES : Field := ⟨0x1000018, 0x10000, 0x0, 0x0, 32, 32⟩
def SGE_TRAP_CAUSE : Field := ⟨0x1000020, 0x10000, 0x0, 0x0, 0, 3⟩
def SGE_TRAP_BANK : Field := ⟨0x1000020, 0x10000, 0x0, 0x0, 3, 1⟩
def SGE_TRAP_PC : Field := ⟨0x1000020, 0x10000, 0x0, 0x0, 16, 13⟩
def SGE_TRAP_ADDR : Field := ⟨0x1000020, 0x10000, 0x0, 0x0, 32, 14⟩
def SGE_TRAP_BUS : Field := ⟨0x1000020, 0x10000, 0x0, 0x0, 46, 1⟩
def SGE_TRAP_HALTED : Field := ⟨0x1000020, 0x10000, 0x0, 0x0, 63, 1⟩
def SGE_COUNT_JOBS_ACTIONS : Field := ⟨0x1000028, 0x10000, 0x0, 0x0, 0, 32⟩
def SGE_COUNT_JOBS_FRAMES : Field := ⟨0x1000028, 0x10000, 0x0, 0x0, 32, 32⟩
def SGE_COUNT_ERR_TRAPS : Field := ⟨0x1000030, 0x10000, 0x0, 0x0, 0, 16⟩
def SGE_COUNT_ERR_LIMITS : Field := ⟨0x1000030, 0x10000, 0x0, 0x0, 16, 16⟩
def SGE_COUNT_ERR_FRAME_ERR : Field := ⟨0x1000030, 0x10000, 0x0, 0x0, 32, 16⟩
def SGE_COUNT_ERR_ACTION_ERR : Field := ⟨0x1000030, 0x10000, 0x0, 0x0, 48, 16⟩
def SGE_CYCLES_BUSY : Field := ⟨0x1000038, 0x10000, 0x0, 0x0, 0, 64⟩
def SGE_MEM_ADDR_ADDR : Field := ⟨0x1000040, 0x10000, 0x0, 0x0, 0, 14⟩
def SGE_MEM_ADDR_MEM : Field := ⟨0x1000040, 0x10000, 0x0, 0x0, 16, 2⟩
def SGE_MEM_DATA_WORD : Field := ⟨0x1000048, 0x10000, 0x0, 0x0, 0, 64⟩
/-! ### Fields of 08_fabric.md -/

def CLK_FCLKk_DIV : Field := ⟨0x308000, 0x8, 0x0, 0x0, 0, 13⟩
def CLK_FCLKk_EN : Field := ⟨0x308000, 0x8, 0x0, 0x0, 16, 1⟩
def CLK_FCLKk_PENDING : Field := ⟨0x308000, 0x8, 0x0, 0x0, 17, 1⟩
def CLK_FCLKk_RAMPING : Field := ⟨0x308000, 0x8, 0x0, 0x0, 18, 1⟩
def CLK_FCLKk_CUR_DIV : Field := ⟨0x308000, 0x8, 0x0, 0x0, 32, 13⟩
def CLK_UOSCk_EN : Field := ⟨0x308100, 0x8, 0x0, 0x0, 0, 1⟩
def CLK_UOSCk_READY : Field := ⟨0x308100, 0x8, 0x0, 0x0, 1, 1⟩
def CLK_UOSCk_MEAS_HZ : Field := ⟨0x308100, 0x8, 0x0, 0x0, 32, 32⟩
def NVA_CTL_BOARD_WE : Field := ⟨0xE00000, 0x0, 0x0, 0x0, 0, 1⟩
def NVA_ADDR_ADDR : Field := ⟨0xE00008, 0x0, 0x0, 0x0, 0, 20⟩
def NVA_DATA_WORD : Field := ⟨0xE00010, 0x0, 0x0, 0x0, 0, 64⟩
def NVA_USER_MATCH_MATCH : Field := ⟨0xE00018, 0x0, 0x0, 0x0, 0, 32⟩
def NVA_USER_MATCH_MASK : Field := ⟨0xE00018, 0x0, 0x0, 0x0, 32, 32⟩
def NVA_WP0_WP : Field := ⟨0xE00020, 0x0, 0x0, 0x0, 0, 64⟩
def NVA_WP1_WP : Field := ⟨0xE00028, 0x0, 0x0, 0x0, 0, 32⟩
def NVA_STATUS_LAST_UNCORR : Field := ⟨0xE00030, 0x0, 0x0, 0x0, 0, 20⟩
def NVA_STATUS_CORR : Field := ⟨0xE00030, 0x0, 0x0, 0x0, 24, 16⟩
def NVA_STATUS_UNCORR : Field := ⟨0xE00030, 0x0, 0x0, 0x0, 48, 16⟩
def NVA_WRITES_COUNT : Field := ⟨0xE00038, 0x0, 0x0, 0x0, 0, 64⟩
def SER_CTL_MODE : Field := ⟨0xF00000, 0x1000, 0x0, 0x0, 0, 3⟩
def SER_CTL_CPOL : Field := ⟨0xF00000, 0x1000, 0x0, 0x0, 3, 1⟩
def SER_CTL_CPHA : Field := ⟨0xF00000, 0x1000, 0x0, 0x0, 4, 1⟩
def SER_CTL_WIDTH : Field := ⟨0xF00000, 0x1000, 0x0, 0x0, 5, 5⟩
def SER_CTL_PARITY : Field := ⟨0xF00000, 0x1000, 0x0, 0x0, 10, 2⟩
def SER_CTL_STOP2 : Field := ⟨0xF00000, 0x1000, 0x0, 0x0, 12, 1⟩
def SER_CTL_FLOW : Field := ⟨0xF00000, 0x1000, 0x0, 0x0, 13, 1⟩
def SER_CTL_BRK_LEN : Field := ⟨0xF00000, 0x1000, 0x0, 0x0, 14, 4⟩
def SER_CTL_ADDR : Field := ⟨0xF00000, 0x1000, 0x0, 0x0, 18, 10⟩
def SER_CTL_ADDR10 : Field := ⟨0xF00000, 0x1000, 0x0, 0x0, 28, 1⟩
def SER_CTL_I2C_SPEED : Field := ⟨0xF00000, 0x1000, 0x0, 0x0, 29, 2⟩
def SER_ASSIGN_MATCH : Field := ⟨0xF00008, 0x1000, 0x0, 0x0, 0, 32⟩
def SER_ASSIGN_MASK : Field := ⟨0xF00008, 0x1000, 0x0, 0x0, 32, 32⟩
def SER_DIV_DIV : Field := ⟨0xF00010, 0x1000, 0x0, 0x0, 0, 24⟩
def SER_STATUS_TX_LEVEL : Field := ⟨0xF00018, 0x1000, 0x0, 0x0, 0, 7⟩
def SER_STATUS_RX_LEVEL : Field := ⟨0xF00018, 0x1000, 0x0, 0x0, 8, 7⟩
def SER_STATUS_TX_OVF : Field := ⟨0xF00018, 0x1000, 0x0, 0x0, 16, 1⟩
def SER_STATUS_RX_OVF : Field := ⟨0xF00018, 0x1000, 0x0, 0x0, 17, 1⟩
def SER_STATUS_TX_UNDER : Field := ⟨0xF00018, 0x1000, 0x0, 0x0, 18, 1⟩
def SER_STATUS_ARB_LOST : Field := ⟨0xF00018, 0x1000, 0x0, 0x0, 19, 1⟩
def SER_STATUS_NACK : Field := ⟨0xF00018, 0x1000, 0x0, 0x0, 20, 1⟩
def SER_STATUS_BUS_OFF : Field := ⟨0xF00018, 0x1000, 0x0, 0x0, 21, 1⟩
def SER_STATUS_TX_BAD : Field := ⟨0xF00018, 0x1000, 0x0, 0x0, 22, 1⟩
def SER_STATUS_TEC : Field := ⟨0xF00018, 0x1000, 0x0, 0x0, 32, 8⟩
def SER_STATUS_REC : Field := ⟨0xF00018, 0x1000, 0x0, 0x0, 40, 8⟩
def SER_TX_DATA : Field := ⟨0xF00020, 0x1000, 0x0, 0x0, 0, 32⟩
def SER_TX_BREAK : Field := ⟨0xF00020, 0x1000, 0x0, 0x0, 32, 1⟩
def SER_TX_HOLD : Field := ⟨0xF00020, 0x1000, 0x0, 0x0, 33, 1⟩
def SER_TX_LAST : Field := ⟨0xF00020, 0x1000, 0x0, 0x0, 34, 1⟩
def SER_RX_DATA : Field := ⟨0xF00028, 0x1000, 0x0, 0x0, 0, 32⟩
def SER_RX_BREAK : Field := ⟨0xF00028, 0x1000, 0x0, 0x0, 32, 1⟩
def SER_RX_PERR : Field := ⟨0xF00028, 0x1000, 0x0, 0x0, 33, 1⟩
def SER_RX_FERR : Field := ⟨0xF00028, 0x1000, 0x0, 0x0, 34, 1⟩
def SER_RX_FRAME_END : Field := ⟨0xF00028, 0x1000, 0x0, 0x0, 35, 1⟩
def SER_RX_VALID : Field := ⟨0xF00028, 0x1000, 0x0, 0x0, 63, 1⟩
def SER_CAN_BIT_NBRP : Field := ⟨0xF00030, 0x1000, 0x0, 0x0, 0, 8⟩
def SER_CAN_BIT_NSEG1 : Field := ⟨0xF00030, 0x1000, 0x0, 0x0, 8, 8⟩
def SER_CAN_BIT_NSEG2 : Field := ⟨0xF00030, 0x1000, 0x0, 0x0, 16, 7⟩
def SER_CAN_BIT_NSJW : Field := ⟨0xF00030, 0x1000, 0x0, 0x0, 23, 7⟩
def SER_CAN_BIT_DBRP : Field := ⟨0xF00030, 0x1000, 0x0, 0x0, 32, 6⟩
def SER_CAN_BIT_DSEG1 : Field := ⟨0xF00030, 0x1000, 0x0, 0x0, 38, 7⟩
def SER_CAN_BIT_DSEG2 : Field := ⟨0xF00030, 0x1000, 0x0, 0x0, 45, 6⟩
def SER_CAN_BIT_DSJW : Field := ⟨0xF00030, 0x1000, 0x0, 0x0, 51, 6⟩
def SER_CAN_BIT_TDCO : Field := ⟨0xF00030, 0x1000, 0x0, 0x0, 57, 7⟩
def SER_CAN_FILTERj_ID : Field := ⟨0xF00100, 0x1000, 0x8, 0x0, 0, 29⟩
def SER_CAN_FILTERj_IDE : Field := ⟨0xF00100, 0x1000, 0x8, 0x0, 29, 1⟩
def SER_CAN_FILTERj_EN : Field := ⟨0xF00100, 0x1000, 0x8, 0x0, 31, 1⟩
def SER_CAN_FILTERj_MASK : Field := ⟨0xF00100, 0x1000, 0x8, 0x0, 32, 29⟩
/-! ### Fields of 09_configuration.md -/

def CFG_CTL_GOLDEN_EN : Field := ⟨0x500000, 0x0, 0x0, 0x0, 0, 1⟩
def CFG_CTL_DONE_FORCE : Field := ⟨0x500000, 0x0, 0x0, 0x0, 1, 1⟩
def CFG_STATUS_STATE : Field := ⟨0x500008, 0x0, 0x0, 0x0, 0, 3⟩
def CFG_STATUS_FULL : Field := ⟨0x500008, 0x0, 0x0, 0x0, 3, 1⟩
def CFG_STATUS_BOOT_SRC : Field := ⟨0x500008, 0x0, 0x0, 0x0, 4, 2⟩
def CFG_STATUS_DONE_IN : Field := ⟨0x500008, 0x0, 0x0, 0x0, 6, 1⟩
def CFG_STATUS_DONE_DRIVE : Field := ⟨0x500008, 0x0, 0x0, 0x0, 7, 1⟩
def CFG_STATUS_GOLDEN : Field := ⟨0x500008, 0x0, 0x0, 0x0, 8, 1⟩
def CFG_STATUS_START_LATE : Field := ⟨0x500008, 0x0, 0x0, 0x0, 9, 1⟩
def CFG_STATUS_OPEN_KEY : Field := ⟨0x500008, 0x0, 0x0, 0x0, 10, 1⟩
def CFG_STATUS_FAIL : Field := ⟨0x500008, 0x0, 0x0, 0x0, 12, 4⟩
def CFG_STATUS_RDV_COUNT : Field := ⟨0x500008, 0x0, 0x0, 0x0, 32, 16⟩
def CFG_PROGRESS_FRAMES : Field := ⟨0x500010, 0x0, 0x0, 0x0, 0, 19⟩
def CFG_PROGRESS_BYTES : Field := ⟨0x500010, 0x0, 0x0, 0x0, 32, 32⟩
def CFG_HDR_FLAGS : Field := ⟨0x500018, 0x0, 0x0, 0x0, 0, 16⟩
def CFG_HDR_ROLLBACK : Field := ⟨0x500018, 0x0, 0x0, 0x0, 16, 8⟩
def CFG_HDR_KEY_INDEX : Field := ⟨0x500018, 0x0, 0x0, 0x0, 24, 2⟩
def CFG_HDR_VERSION : Field := ⟨0x500018, 0x0, 0x0, 0x0, 32, 16⟩
def CFG_REGIONS_MASK : Field := ⟨0x500020, 0x0, 0x0, 0x0, 0, 64⟩
def CFG_PUSH_DATA : Field := ⟨0x500028, 0x0, 0x0, 0x0, 0, 64⟩
def CFG_FUSE_ROLLBACK : Field := ⟨0x500030, 0x0, 0x0, 0x0, 0, 7⟩
def CFG_FUSE_SLOTS : Field := ⟨0x500030, 0x0, 0x0, 0x0, 8, 4⟩
def CFG_FUSE_REVOKED : Field := ⟨0x500030, 0x0, 0x0, 0x0, 12, 4⟩
def CFG_FUSE_AES_SET : Field := ⟨0x500030, 0x0, 0x0, 0x0, 16, 1⟩
def CFG_FUSE_ENC_REQUIRED : Field := ⟨0x500030, 0x0, 0x0, 0x0, 17, 1⟩
def CFG_FUSE_READBACK_DIS : Field := ⟨0x500030, 0x0, 0x0, 0x0, 18, 1⟩
def CFG_FUSE_JTAG_LOCK : Field := ⟨0x500030, 0x0, 0x0, 0x0, 19, 1⟩
def CFG_FUSE_FUSE_EN : Field := ⟨0x500030, 0x0, 0x0, 0x0, 20, 1⟩
def CFG_START_TICK_TICK : Field := ⟨0x500038, 0x0, 0x0, 0x0, 0, 64⟩
def CFG_LOADS_DONE : Field := ⟨0x500040, 0x0, 0x0, 0x0, 0, 32⟩
def CFG_LOADS_FAILED : Field := ⟨0x500040, 0x0, 0x0, 0x0, 32, 32⟩
/-! ### Fields of 10_regions_and_sweep.md -/

def CFG_RGN_DRAIN_LIMIT : Field := ⟨0x500048, 0x0, 0x0, 0x0, 0, 24⟩
def CFG_RGNr_CTL_LOAD_LOCK : Field := ⟨0x501000, 0x20, 0x0, 0x0, 0, 1⟩
def CFG_RGNr_CTL_CONTAIN : Field := ⟨0x501000, 0x20, 0x0, 0x0, 1, 1⟩
def CFG_RGNr_STATUS_STATE : Field := ⟨0x501008, 0x20, 0x0, 0x0, 0, 2⟩
def CFG_RGNr_STATUS_DAMPER : Field := ⟨0x501008, 0x20, 0x0, 0x0, 2, 2⟩
def CFG_RGNr_STATUS_HOLDING : Field := ⟨0x501008, 0x20, 0x0, 0x0, 4, 1⟩
def CFG_RGNr_STATUS_SOURCE : Field := ⟨0x501008, 0x20, 0x0, 0x0, 5, 1⟩
def CFG_RGNr_STATUS_CONTAINED : Field := ⟨0x501008, 0x20, 0x0, 0x0, 6, 1⟩
def CFG_RGNr_STATUS_IN_OUT : Field := ⟨0x501008, 0x20, 0x0, 0x0, 16, 5⟩
def CFG_RGNr_STATUS_OUT_OUT : Field := ⟨0x501008, 0x20, 0x0, 0x0, 24, 6⟩
def CFG_RGNr_STATUS_RSV_TAGS : Field := ⟨0x501008, 0x20, 0x0, 0x0, 32, 6⟩
def CFG_RGNr_RELEASE_TICK : Field := ⟨0x501010, 0x20, 0x0, 0x0, 0, 64⟩
def CFG_RGNr_PORT_UNMATCHED : Field := ⟨0x501018, 0x20, 0x0, 0x0, 0, 16⟩
def CFG_RGNr_PORT_LATE : Field := ⟨0x501018, 0x20, 0x0, 0x0, 16, 16⟩
def CFG_RGNr_PORT_FORCED : Field := ⟨0x501018, 0x20, 0x0, 0x0, 32, 16⟩
def CFG_RGNr_PORT_ABANDONED : Field := ⟨0x501018, 0x20, 0x0, 0x0, 48, 16⟩
def SWP_SIG_CTL_EN : Field := ⟨0x504000, 0x0, 0x0, 0x0, 0, 1⟩
def SWP_SIG_CTL_REPAIR_EN : Field := ⟨0x504000, 0x0, 0x0, 0x0, 1, 1⟩
def SWP_SIG_CTL_PACE : Field := ⟨0x504000, 0x0, 0x0, 0x0, 16, 16⟩
def SWP_SIG_STATUS_READING : Field := ⟨0x504008, 0x0, 0x0, 0x0, 0, 1⟩
def SWP_SIG_STATUS_REPAIRING : Field := ⟨0x504008, 0x0, 0x0, 0x0, 1, 1⟩
def SWP_SIG_STATUS_WAITING : Field := ⟨0x504008, 0x0, 0x0, 0x0, 2, 1⟩
def SWP_SIG_STATUS_POSITION : Field := ⟨0x504008, 0x0, 0x0, 0x0, 32, 32⟩
def SWP_SIG_LAP_LAST_US : Field := ⟨0x504010, 0x0, 0x0, 0x0, 0, 32⟩
def SWP_SIG_LAP_LAPS : Field := ⟨0x504010, 0x0, 0x0, 0x0, 32, 32⟩
def SWP_SIG_COUNT_MISMATCH : Field := ⟨0x504018, 0x0, 0x0, 0x0, 0, 32⟩
def SWP_SIG_COUNT_REPAIRED : Field := ⟨0x504018, 0x0, 0x0, 0x0, 32, 32⟩
def SWP_SIG_FAIL_NO_SOURCE : Field := ⟨0x504020, 0x0, 0x0, 0x0, 0, 16⟩
def SWP_SIG_FAIL_REPAIR_FAILED : Field := ⟨0x504020, 0x0, 0x0, 0x0, 16, 16⟩
def SWP_SIG_FAIL_STUCK : Field := ⟨0x504020, 0x0, 0x0, 0x0, 32, 16⟩
def SWP_SIG_FAIL_GOLDEN_ERR : Field := ⟨0x504020, 0x0, 0x0, 0x0, 48, 16⟩
def SWP_SIG_SKIPPED_COUNT : Field := ⟨0x504028, 0x0, 0x0, 0x0, 0, 64⟩
def SWP_SIG_LAST_ADDR : Field := ⟨0x504030, 0x0, 0x0, 0x0, 0, 32⟩
def SWP_SIG_LAST_OUTCOME : Field := ⟨0x504030, 0x0, 0x0, 0x0, 32, 3⟩
def SWP_SIG_LAST_VALID : Field := ⟨0x504030, 0x0, 0x0, 0x0, 63, 1⟩
def SWP_SIG_LAST_TICK_TICK : Field := ⟨0x504038, 0x0, 0x0, 0x0, 0, 64⟩
def SWP_SIG_SRC_REGIONS : Field := ⟨0x504040, 0x0, 0x0, 0x0, 0, 64⟩
def SWP_SIG_SRC_STATIC_STATIC : Field := ⟨0x504048, 0x0, 0x0, 0x0, 0, 1⟩
/-! ### Fields of 11_memory_integrity.md -/

def BNK_OWNERb_IDENT : Field := ⟨0x1C00000, 0x200, 0x0, 0x0, 0, 32⟩
def BNK_OWNERb_CLEAR : Field := ⟨0x1C00000, 0x200, 0x0, 0x0, 32, 1⟩
def BNK_OWNERb_CLEARING : Field := ⟨0x1C00000, 0x200, 0x0, 0x0, 33, 1⟩
def BNK_STATUSb_STALLS_B : Field := ⟨0x1C00008, 0x200, 0x0, 0x0, 0, 32⟩
def BNK_STATUSb_POISONED : Field := ⟨0x1C00008, 0x200, 0x0, 0x0, 32, 15⟩
def BNK_VIOLb_COUNT : Field := ⟨0x1C00010, 0x200, 0x0, 0x0, 0, 32⟩
def BNK_VIOL_LASTb_IDENT : Field := ⟨0x1C00018, 0x200, 0x0, 0x0, 0, 32⟩
def BNK_VIOL_LASTb_WORD : Field := ⟨0x1C00018, 0x200, 0x0, 0x0, 32, 14⟩
def BNK_VIOL_LASTb_WRITE : Field := ⟨0x1C00018, 0x200, 0x0, 0x0, 48, 1⟩
def BNK_VIOL_LASTb_OWNER_WRITE : Field := ⟨0x1C00018, 0x200, 0x0, 0x0, 49, 1⟩
def BNK_VIOL_LASTb_VALID : Field := ⟨0x1C00018, 0x200, 0x0, 0x0, 63, 1⟩
def BNK_WINb_j_BASE : Field := ⟨0x1C00100, 0x200, 0x8, 0x0, 0, 14⟩
def BNK_WINb_j_LEN : Field := ⟨0x1C00100, 0x200, 0x8, 0x0, 16, 15⟩
def BNK_WINb_j_EN : Field := ⟨0x1C00100, 0x200, 0x8, 0x0, 63, 1⟩
def SWP_MEMk_CTL_EN : Field := ⟨0x505000, 0x40, 0x0, 0x0, 0, 1⟩
def SWP_MEMk_CTL_PACE : Field := ⟨0x505000, 0x40, 0x0, 0x0, 16, 16⟩
def SWP_MEMk_LAP_LAST_US : Field := ⟨0x505008, 0x40, 0x0, 0x0, 0, 32⟩
def SWP_MEMk_LAP_LAPS : Field := ⟨0x505008, 0x40, 0x0, 0x0, 32, 32⟩
def SWP_MEMk_COUNT_CORR : Field := ⟨0x505010, 0x40, 0x0, 0x0, 0, 32⟩
def SWP_MEMk_COUNT_UNCORR : Field := ⟨0x505010, 0x40, 0x0, 0x0, 32, 32⟩
def SWP_MEMk_LAST_WORD : Field := ⟨0x505018, 0x40, 0x0, 0x0, 0, 24⟩
def SWP_MEMk_LAST_UNIT : Field := ⟨0x505018, 0x40, 0x0, 0x0, 32, 13⟩
def SWP_MEMk_LAST_MEM : Field := ⟨0x505018, 0x40, 0x0, 0x0, 45, 3⟩
def SWP_MEMk_LAST_VALID : Field := ⟨0x505018, 0x40, 0x0, 0x0, 63, 1⟩
/-! ### Fields of 12_network_on_chip.md -/

def NOC_CTL_VC0_SLOTS : Field := ⟨0x600000, 0x0, 0x0, 0x0, 0, 5⟩
def NOC_EPOCH_CUR : Field := ⟨0x600008, 0x0, 0x0, 0x0, 0, 1⟩
def NOC_EPOCH_PENDING : Field := ⟨0x600008, 0x0, 0x0, 0x0, 1, 1⟩
def NOC_EPOCH_SWITCH : Field := ⟨0x600008, 0x0, 0x0, 0x0, 2, 1⟩
def NOC_EPOCH_RT_REFUSED : Field := ⟨0x600008, 0x0, 0x0, 0x0, 3, 1⟩
def NOC_EPOCH_SWITCH_REFUSED : Field := ⟨0x600008, 0x0, 0x0, 0x0, 4, 1⟩
def NOC_EPOCH_LOAD_XY : Field := ⟨0x600008, 0x0, 0x0, 0x0, 5, 1⟩
def NOC_EPOCH_OLD_FLITS : Field := ⟨0x600008, 0x0, 0x0, 0x0, 32, 16⟩
def NOC_RT_SEL_ROUTER : Field := ⟨0x600010, 0x0, 0x0, 0x0, 0, 7⟩
def NOC_RT_SEL_DEST : Field := ⟨0x600010, 0x0, 0x0, 0x0, 8, 7⟩
def NOC_RT_SEL_VNET : Field := ⟨0x600010, 0x0, 0x0, 0x0, 16, 1⟩
def NOC_RT_DATA_PORT : Field := ⟨0x600018, 0x0, 0x0, 0x0, 0, 3⟩
def NOC_AUDIT_CREDIT_SUM : Field := ⟨0x600020, 0x0, 0x0, 0x0, 0, 1⟩
def NOC_AUDIT_KIND : Field := ⟨0x600020, 0x0, 0x0, 0x0, 2, 2⟩
def NOC_AUDIT_INDEX : Field := ⟨0x600020, 0x0, 0x0, 0x0, 4, 9⟩
def NOC_AUDIT_VC : Field := ⟨0x600020, 0x0, 0x0, 0x0, 16, 3⟩
def NOC_AUDIT_FAIL_TICKS : Field := ⟨0x600020, 0x0, 0x0, 0x0, 32, 32⟩
def NOC_COUNTS_FENCED : Field := ⟨0x600028, 0x0, 0x0, 0x0, 0, 16⟩
def NOC_COUNTS_GATED : Field := ⟨0x600028, 0x0, 0x0, 0x0, 16, 16⟩
def NOC_COUNTS_DECODE : Field := ⟨0x600028, 0x0, 0x0, 0x0, 32, 16⟩
def NOC_COUNTS_HOPLIMIT : Field := ⟨0x600028, 0x0, 0x0, 0x0, 48, 16⟩
def NOC_REPLAY_REPLAYS : Field := ⟨0x600030, 0x0, 0x0, 0x0, 0, 32⟩
def NOC_REPLAY_CRC_ERR : Field := ⟨0x600030, 0x0, 0x0, 0x0, 32, 32⟩
def NOC_EPe_STATUS_DAMPER : Field := ⟨0x601000, 0x8, 0x0, 0x0, 0, 2⟩
def NOC_EPe_STATUS_GATED : Field := ⟨0x601000, 0x8, 0x0, 0x0, 2, 1⟩
def NOC_EPe_STATUS_OUTSTANDING : Field := ⟨0x601000, 0x8, 0x0, 0x0, 8, 13⟩
def NOC_EPe_STATUS_FENCED : Field := ⟨0x601000, 0x8, 0x0, 0x0, 32, 32⟩
def NOC_LINKl_STAT_REPLAYS : Field := ⟨0x602000, 0x8, 0x0, 0x0, 0, 16⟩
def NOC_LINKl_STAT_CRC_ERR : Field := ⟨0x602000, 0x8, 0x0, 0x0, 16, 16⟩
def NOC_LINKl_STAT_MAX_RUN : Field := ⟨0x602000, 0x8, 0x0, 0x0, 32, 16⟩
def NOC_LINKl_STAT_FAILED : Field := ⟨0x602000, 0x8, 0x0, 0x0, 48, 1⟩
/-! ### Fields of 13_dram.md -/

def DRC_CTL_SCRUB_WB : Field := ⟨0x1400000, 0x40000, 0x0, 0x0, 0, 1⟩
def DRC_CTL_HWM : Field := ⟨0x1400000, 0x40000, 0x0, 0x0, 8, 7⟩
def DRC_CTL_LWM : Field := ⟨0x1400000, 0x40000, 0x0, 0x0, 16, 7⟩
def DRC_CTL_POSTPONE : Field := ⟨0x1400000, 0x40000, 0x0, 0x0, 24, 3⟩
def DRC_CTL_BLAST : Field := ⟨0x1400000, 0x40000, 0x0, 0x0, 28, 1⟩
def DRC_CTL_THRESH : Field := ⟨0x1400000, 0x40000, 0x0, 0x0, 32, 16⟩
def DRC_CTL_OFFSET : Field := ⟨0x1400000, 0x40000, 0x0, 0x0, 48, 16⟩
def DRC_STATUS_STATE : Field := ⟨0x1400008, 0x40000, 0x0, 0x0, 0, 3⟩
def DRC_STATUS_HOT : Field := ⟨0x1400008, 0x40000, 0x0, 0x0, 3, 1⟩
def DRC_STATUS_ALERT_STOP : Field := ⟨0x1400008, 0x40000, 0x0, 0x0, 4, 1⟩
def DRC_STATUS_DRAINING : Field := ⟨0x1400008, 0x40000, 0x0, 0x0, 5, 1⟩
def DRC_STATUS_RFM_REQ : Field := ⟨0x1400008, 0x40000, 0x0, 0x0, 6, 1⟩
def DRC_STATUS_RD_Q : Field := ⟨0x1400008, 0x40000, 0x0, 0x0, 8, 7⟩
def DRC_STATUS_WR_Q : Field := ⟨0x1400008, 0x40000, 0x0, 0x0, 16, 7⟩
def DRC_STATUS_DEBT : Field := ⟨0x1400008, 0x40000, 0x0, 0x0, 24, 4⟩
def DRC_STATUS_FIRST_WINDOW : Field := ⟨0x1400008, 0x40000, 0x0, 0x0, 28, 1⟩
def DRC_GEOM_RATE : Field := ⟨0x1400010, 0x40000, 0x0, 0x0, 0, 1⟩
def DRC_GEOM_RANKS : Field := ⟨0x1400010, 0x40000, 0x0, 0x0, 1, 1⟩
def DRC_GEOM_WIDTH : Field := ⟨0x1400010, 0x40000, 0x0, 0x0, 2, 1⟩
def DRC_GEOM_ROW_BITS : Field := ⟨0x1400010, 0x40000, 0x0, 0x0, 3, 1⟩
def DRC_GEOM_CAP_GIB : Field := ⟨0x1400010, 0x40000, 0x0, 0x0, 8, 8⟩
def DRC_TIM0_TCL : Field := ⟨0x1400018, 0x40000, 0x0, 0x0, 0, 8⟩
def DRC_TIM0_TCWL : Field := ⟨0x1400018, 0x40000, 0x0, 0x0, 8, 8⟩
def DRC_TIM0_TRCD : Field := ⟨0x1400018, 0x40000, 0x0, 0x0, 16, 8⟩
def DRC_TIM0_TRP : Field := ⟨0x1400018, 0x40000, 0x0, 0x0, 24, 8⟩
def DRC_TIM0_TRAS : Field := ⟨0x1400018, 0x40000, 0x0, 0x0, 32, 8⟩
def DRC_TIM0_TWR : Field := ⟨0x1400018, 0x40000, 0x0, 0x0, 40, 8⟩
def DRC_TIM0_TRTP : Field := ⟨0x1400018, 0x40000, 0x0, 0x0, 48, 8⟩
def DRC_TIM0_TCCD_L : Field := ⟨0x1400018, 0x40000, 0x0, 0x0, 56, 8⟩
def DRC_TIM1_TRRD_S : Field := ⟨0x1400020, 0x40000, 0x0, 0x0, 0, 8⟩
def DRC_TIM1_TRRD_L : Field := ⟨0x1400020, 0x40000, 0x0, 0x0, 8, 8⟩
def DRC_TIM1_TFAW : Field := ⟨0x1400020, 0x40000, 0x0, 0x0, 16, 8⟩
def DRC_TIM1_TCCD_S : Field := ⟨0x1400020, 0x40000, 0x0, 0x0, 24, 8⟩
def DRC_TIM1_TRFC : Field := ⟨0x1400020, 0x40000, 0x0, 0x0, 32, 16⟩
def DRC_TIM1_TWTR_L : Field := ⟨0x1400020, 0x40000, 0x0, 0x0, 48, 8⟩
def DRC_TIM1_TWTR_S : Field := ⟨0x1400020, 0x40000, 0x0, 0x0, 56, 8⟩
def DRC_TIM2_TXS : Field := ⟨0x1400028, 0x40000, 0x0, 0x0, 0, 16⟩
def DRC_TIM2_TREFI : Field := ⟨0x1400028, 0x40000, 0x0, 0x0, 16, 16⟩
def DRC_TIM2_TRC : Field := ⟨0x1400028, 0x40000, 0x0, 0x0, 32, 16⟩
def DRC_ALERT_ACK_DELAY : Field := ⟨0x1400030, 0x40000, 0x0, 0x0, 0, 12⟩
def DRC_TERM_RTT_PARK : Field := ⟨0x1400038, 0x40000, 0x0, 0x0, 0, 3⟩
def DRC_TERM_RTT_WR : Field := ⟨0x1400038, 0x40000, 0x0, 0x0, 3, 3⟩
def DRC_TERM_RTT_NOM_WR : Field := ⟨0x1400038, 0x40000, 0x0, 0x0, 6, 3⟩
def DRC_TERM_RTT_NOM_RD : Field := ⟨0x1400038, 0x40000, 0x0, 0x0, 9, 3⟩
def DRC_TERM_DQS_RTT_PARK : Field := ⟨0x1400038, 0x40000, 0x0, 0x0, 12, 3⟩
def DRC_TERM_DRV : Field := ⟨0x1400038, 0x40000, 0x0, 0x0, 15, 3⟩
def DRC_TERM_HOST_ODT : Field := ⟨0x1400038, 0x40000, 0x0, 0x0, 18, 3⟩
def DRC_TERM_HOST_DRV : Field := ⟨0x1400038, 0x40000, 0x0, 0x0, 21, 3⟩
def DRC_ALERT_COUNT_ALERTS : Field := ⟨0x1400040, 0x40000, 0x0, 0x0, 0, 32⟩
def DRC_ALERT_COUNT_REPLAYS : Field := ⟨0x1400040, 0x40000, 0x0, 0x0, 32, 32⟩
def DRC_ERR_COUNT_CORR : Field := ⟨0x1400048, 0x40000, 0x0, 0x0, 0, 32⟩
def DRC_ERR_COUNT_UNCORR : Field := ⟨0x1400048, 0x40000, 0x0, 0x0, 32, 16⟩
def DRC_ERR_COUNT_MISDIRECT : Field := ⟨0x1400048, 0x40000, 0x0, 0x0, 48, 16⟩
def DRC_ERR_LAST_L : Field := ⟨0x1400050, 0x40000, 0x0, 0x0, 6, 30⟩
def DRC_ERR_LAST_KIND : Field := ⟨0x1400050, 0x40000, 0x0, 0x0, 36, 2⟩
def DRC_ERR_LAST_WRITER : Field := ⟨0x1400050, 0x40000, 0x0, 0x0, 38, 18⟩
def DRC_ERR_LAST_VALID : Field := ⟨0x1400050, 0x40000, 0x0, 0x0, 63, 1⟩
def DRC_REF_COUNT_REFRESHES : Field := ⟨0x1400058, 0x40000, 0x0, 0x0, 0, 32⟩
def DRC_REF_COUNT_URGENT : Field := ⟨0x1400058, 0x40000, 0x0, 0x0, 32, 16⟩
def DRC_REF_COUNT_MAX_DEBT : Field := ⟨0x1400058, 0x40000, 0x0, 0x0, 48, 4⟩
def DRC_RD_COUNT_TRR : Field := ⟨0x1400060, 0x40000, 0x0, 0x0, 0, 32⟩
def DRC_RD_COUNT_TABLE_EVICT : Field := ⟨0x1400060, 0x40000, 0x0, 0x0, 32, 32⟩
def DRC_OFFLINE_REASON : Field := ⟨0x1400068, 0x40000, 0x0, 0x0, 0, 2⟩
def DRC_OFFLINE_LOST_WR : Field := ⟨0x1400068, 0x40000, 0x0, 0x0, 16, 16⟩
def DRC_SWEEP_PASS : Field := ⟨0x1400070, 0x40000, 0x0, 0x0, 0, 32⟩
def DRC_SWEEP_FAIL : Field := ⟨0x1400070, 0x40000, 0x0, 0x0, 32, 32⟩
def DRC_IMAP_MODE : Field := ⟨0x1400100, 0x0, 0x0, 0x0, 0, 2⟩
def DRC_IMAP_MASK : Field := ⟨0x1400100, 0x0, 0x0, 0x0, 4, 4⟩
def DRC_DQs_k_l_WR_DLY : Field := ⟨0x1401000, 0x40000, 0x200, 0x8, 0, 12⟩
def DRC_DQs_k_l_RD_DLY : Field := ⟨0x1401000, 0x40000, 0x200, 0x8, 16, 12⟩
def DRC_DQs_k_l_RD_VREF : Field := ⟨0x1401000, 0x40000, 0x200, 0x8, 32, 8⟩
def DRC_DQSs_k_m_WR_DQS : Field := ⟨0x1401800, 0x40000, 0x80, 0x8, 0, 12⟩
def DRC_DQSs_k_m_RD_GATE : Field := ⟨0x1401800, 0x40000, 0x80, 0x8, 16, 12⟩
def DRC_CAs_l_DLY : Field := ⟨0x1401C00, 0x40000, 0x80, 0x8, 0, 12⟩
/-! ### Fields of 14_lanes_host_ring.md -/

def LNK_LANEn_CTL_MODE : Field := ⟨0x1800000, 0x100, 0x0, 0x0, 0, 2⟩
def LNK_LANEn_CTL_LOOP : Field := ⟨0x1800000, 0x100, 0x0, 0x0, 2, 1⟩
def LNK_LANEn_CTL_BLOCK : Field := ⟨0x1800000, 0x100, 0x0, 0x0, 4, 1⟩
def LNK_LANEn_CTL_ADAPT : Field := ⟨0x1800000, 0x100, 0x0, 0x0, 5, 1⟩
def LNK_LANEn_CTL_RESTART : Field := ⟨0x1800000, 0x100, 0x0, 0x0, 6, 1⟩
def LNK_LANEn_TXEQ_PRE : Field := ⟨0x1800008, 0x100, 0x0, 0x0, 0, 5⟩
def LNK_LANEn_TXEQ_POST : Field := ⟨0x1800008, 0x100, 0x0, 0x0, 8, 5⟩
def LNK_LANEn_RXSTAT_CTLE : Field := ⟨0x1800010, 0x100, 0x0, 0x0, 0, 4⟩
def LNK_LANEn_RXSTAT_LOSS_DB : Field := ⟨0x1800010, 0x100, 0x0, 0x0, 8, 8⟩
def LNK_LANEn_RXSTAT_PRESET : Field := ⟨0x1800010, 0x100, 0x0, 0x0, 16, 2⟩
def LNK_LANEn_RXSTAT_BIT_LOCK : Field := ⟨0x1800010, 0x100, 0x0, 0x0, 24, 1⟩
def LNK_LANEn_RXSTAT_BLOCK_LOCK : Field := ⟨0x1800010, 0x100, 0x0, 0x0, 25, 1⟩
def LNK_LANEn_RXSTAT_UNDERFLOW : Field := ⟨0x1800010, 0x100, 0x0, 0x0, 32, 16⟩
def LNK_LANEn_DFE0_TAP0 : Field := ⟨0x1800018, 0x100, 0x0, 0x0, 0, 8⟩
def LNK_LANEn_DFE0_TAP1 : Field := ⟨0x1800018, 0x100, 0x0, 0x0, 8, 8⟩
def LNK_LANEn_DFE0_TAP2 : Field := ⟨0x1800018, 0x100, 0x0, 0x0, 16, 8⟩
def LNK_LANEn_DFE0_TAP3 : Field := ⟨0x1800018, 0x100, 0x0, 0x0, 24, 8⟩
def LNK_LANEn_DFE0_TAP4 : Field := ⟨0x1800018, 0x100, 0x0, 0x0, 32, 8⟩
def LNK_LANEn_DFE0_TAP5 : Field := ⟨0x1800018, 0x100, 0x0, 0x0, 40, 8⟩
def LNK_LANEn_DFE1_TAP0 : Field := ⟨0x1800020, 0x100, 0x0, 0x0, 0, 8⟩
def LNK_LANEn_DFE1_TAP1 : Field := ⟨0x1800020, 0x100, 0x0, 0x0, 8, 8⟩
def LNK_LANEn_DFE1_TAP2 : Field := ⟨0x1800020, 0x100, 0x0, 0x0, 16, 8⟩
def LNK_LANEn_DFE1_TAP3 : Field := ⟨0x1800020, 0x100, 0x0, 0x0, 24, 8⟩
def LNK_LANEn_DFE1_TAP4 : Field := ⟨0x1800020, 0x100, 0x0, 0x0, 32, 8⟩
def LNK_LANEn_DFE1_TAP5 : Field := ⟨0x1800020, 0x100, 0x0, 0x0, 40, 8⟩
def LNK_LANEn_PAT_GEN : Field := ⟨0x1800028, 0x100, 0x0, 0x0, 0, 3⟩
def LNK_LANEn_PAT_CHK : Field := ⟨0x1800028, 0x100, 0x0, 0x0, 4, 3⟩
def LNK_LANEn_PAT_INJ_SINGLE : Field := ⟨0x1800028, 0x100, 0x0, 0x0, 8, 1⟩
def LNK_LANEn_PAT_INJ_BURST : Field := ⟨0x1800028, 0x100, 0x0, 0x0, 9, 1⟩
def LNK_LANEn_PAT_BURST_LEN : Field := ⟨0x1800028, 0x100, 0x0, 0x0, 16, 8⟩
def LNK_LANEn_PAT_INJ_EVERY : Field := ⟨0x1800028, 0x100, 0x0, 0x0, 32, 16⟩
def LNK_LANEn_UPAT_PATTERN : Field := ⟨0x1800030, 0x100, 0x0, 0x0, 0, 64⟩
def LNK_LANEn_ERR_ERRORS : Field := ⟨0x1800038, 0x100, 0x0, 0x0, 0, 48⟩
def LNK_LANEn_ERR_CHK_LOCK : Field := ⟨0x1800038, 0x100, 0x0, 0x0, 63, 1⟩
def LNK_LANEn_BITS_COUNT : Field := ⟨0x1800040, 0x100, 0x0, 0x0, 0, 64⟩
def LNK_QUADq_RATE : Field := ⟨0x1806000, 0x8, 0x0, 0x0, 0, 3⟩
def PCI_CTL_LINK_DIS : Field := ⟨0x1810000, 0x0, 0x0, 0x0, 0, 1⟩
def PCI_CTL_L1_IDLE : Field := ⟨0x1810000, 0x0, 0x0, 0x0, 8, 8⟩
def PCI_STATUS_SPEED : Field := ⟨0x1810008, 0x0, 0x0, 0x0, 0, 3⟩
def PCI_STATUS_WIDTH : Field := ⟨0x1810008, 0x0, 0x0, 0x0, 3, 5⟩
def PCI_STATUS_LINK_UP : Field := ⟨0x1810008, 0x0, 0x0, 0x0, 8, 1⟩
def PCI_STATUS_L1 : Field := ⟨0x1810008, 0x0, 0x0, 0x0, 9, 1⟩
def PCI_STATUS_D3HOT : Field := ⟨0x1810008, 0x0, 0x0, 0x0, 16, 4⟩
def PCI_STATUS_LINK_DOWNS : Field := ⟨0x1810008, 0x0, 0x0, 0x0, 32, 32⟩
def PCI_COUNTS_WERR : Field := ⟨0x1810010, 0x0, 0x0, 0x0, 0, 16⟩
def PCI_COUNTS_POISONED_RX : Field := ⟨0x1810010, 0x0, 0x0, 0x0, 16, 16⟩
def PCI_COUNTS_EARLY : Field := ⟨0x1810010, 0x0, 0x0, 0x0, 32, 16⟩
def PCI_COUNTS_UR : Field := ⟨0x1810010, 0x0, 0x0, 0x0, 48, 16⟩
def BRL_ID_DEVID : Field := ⟨0x1840000, 0x0, 0x0, 0x0, 0, 14⟩
def BRL_ID_ASSIGNED : Field := ⟨0x1840000, 0x0, 0x0, 0x0, 14, 1⟩
def BRL_ID_LOCK : Field := ⟨0x1840000, 0x0, 0x0, 0x0, 15, 1⟩
def BRL_ID_POSITION : Field := ⟨0x1840000, 0x0, 0x0, 0x0, 16, 8⟩
def BRL_ID_RING_SIZE : Field := ⟨0x1840000, 0x0, 0x0, 0x0, 24, 8⟩
def BRL_ID_POSITION1 : Field := ⟨0x1840000, 0x0, 0x0, 0x0, 32, 8⟩
def BRL_ID_RING_SIZE1 : Field := ⟨0x1840000, 0x0, 0x0, 0x0, 40, 8⟩
def BRL_CTL_PORT_EN : Field := ⟨0x1840008, 0x0, 0x0, 0x0, 0, 4⟩
def BRL_CTL_BRIDGE : Field := ⟨0x1840008, 0x0, 0x0, 0x0, 4, 1⟩
def BRL_CTL_RTIMEOUT : Field := ⟨0x1840008, 0x0, 0x0, 0x0, 16, 16⟩
def BRL_PORTp_STATUS_STAGE : Field := ⟨0x1840100, 0x40, 0x0, 0x0, 0, 3⟩
def BRL_PORTp_STATUS_RATE : Field := ⟨0x1840100, 0x40, 0x0, 0x0, 3, 3⟩
def BRL_PORTp_STATUS_WIDTH : Field := ⟨0x1840100, 0x40, 0x0, 0x0, 6, 3⟩
def BRL_PORTp_STATUS_ACTIVE : Field := ⟨0x1840100, 0x40, 0x0, 0x0, 9, 1⟩
def BRL_PORTp_STATUS_PEER_ID : Field := ⟨0x1840100, 0x40, 0x0, 0x0, 10, 14⟩
def BRL_PORTp_STATUS_PEER_PORT : Field := ⟨0x1840100, 0x40, 0x0, 0x0, 24, 2⟩
def BRL_PORTp_STATUS_PEER_ASSIGNED : Field := ⟨0x1840100, 0x40, 0x0, 0x0, 26, 1⟩
def BRL_PORTp_STATUS_FAILS : Field := ⟨0x1840100, 0x40, 0x0, 0x0, 32, 16⟩
def BRL_PORTp_DELAY_RTT_PS : Field := ⟨0x1840108, 0x40, 0x0, 0x0, 0, 32⟩
def BRL_PORTp_DELAY_TURN_PS : Field := ⟨0x1840108, 0x40, 0x0, 0x0, 32, 32⟩
def BRL_PORTp_CABLE_LENGTH_MM : Field := ⟨0x1840110, 0x40, 0x0, 0x0, 0, 24⟩
def BRL_PORTp_CABLE_VF_MILLI : Field := ⟨0x1840110, 0x40, 0x0, 0x0, 32, 10⟩
def BRL_PORTp_COUNTS_CRC_ERR : Field := ⟨0x1840118, 0x40, 0x0, 0x0, 0, 16⟩
def BRL_PORTp_COUNTS_REPLAYS : Field := ⟨0x1840118, 0x40, 0x0, 0x0, 16, 16⟩
def BRL_PORTp_COUNTS_SYNC_ERR : Field := ⟨0x1840118, 0x40, 0x0, 0x0, 32, 16⟩
def BRL_PORTp_COUNTS_LINK_DOWNS : Field := ⟨0x1840118, 0x40, 0x0, 0x0, 48, 16⟩
def BRL_RACC_ADDR_ADDR : Field := ⟨0x1840200, 0x0, 0x0, 0x0, 3, 37⟩
def BRL_RACC_ADDR_DEVICE : Field := ⟨0x1840200, 0x0, 0x0, 0x0, 40, 14⟩
def BRL_RACC_DATA_DATA : Field := ⟨0x1840208, 0x0, 0x0, 0x0, 0, 64⟩
def BRL_RACC_STATUS_LAST : Field := ⟨0x1840210, 0x0, 0x0, 0x0, 0, 3⟩
def BRL_COUNTS_LATE_RSP : Field := ⟨0x1840218, 0x0, 0x0, 0x0, 0, 32⟩
def BRL_COUNTS_HOP_DISCARD : Field := ⟨0x1840218, 0x0, 0x0, 0x0, 32, 32⟩
def BRL_MAPk_DEVID : Field := ⟨0x1841000, 0x8, 0x0, 0x0, 0, 14⟩
def BRL_MAPk_VALID : Field := ⟨0x1841000, 0x8, 0x0, 0x0, 15, 1⟩
/-! ### Fields of 15_control_plane.md -/

def HC_ID_PART : Field := ⟨0x0, 0x0, 0x0, 0x0, 0, 16⟩
def HC_ID_STEPPING : Field := ⟨0x0, 0x0, 0x0, 0x0, 16, 8⟩
def HC_ID_FW_MAJOR : Field := ⟨0x0, 0x0, 0x0, 0x0, 32, 8⟩
def HC_ID_FW_MINOR : Field := ⟨0x0, 0x0, 0x0, 0x0, 40, 8⟩
def HC_UID_UID : Field := ⟨0x8, 0x0, 0x0, 0x0, 0, 64⟩
def HC_SELF_IDENT : Field := ⟨0x10, 0x0, 0x0, 0x0, 0, 32⟩
def HC_STATUS_READY : Field := ⟨0x18, 0x0, 0x0, 0x0, 0, 1⟩
def HC_STATUS_EXECUTING : Field := ⟨0x18, 0x0, 0x0, 0x0, 8, 5⟩
def HC_STATUS_HEARTBEATS : Field := ⟨0x18, 0x0, 0x0, 0x0, 32, 32⟩
def HC_QUEUEc_LEVEL : Field := ⟨0x40, 0x8, 0x0, 0x0, 0, 7⟩
def HC_QUEUEc_FULL : Field := ⟨0x40, 0x8, 0x0, 0x0, 16, 16⟩
def HC_QUEUEc_STARTED : Field := ⟨0x40, 0x8, 0x0, 0x0, 32, 32⟩
def HC_CMD_PORT_PACKET : Field := ⟨0x1000, 0x0, 0x0, 0x0, 0, 64⟩
def HC_CMD_Wk_WORD : Field := ⟨0x1100, 0x8, 0x0, 0x0, 0, 64⟩
def HC_CMD_SUBMIT_HEADER : Field := ⟨0x1180, 0x0, 0x0, 0x0, 0, 64⟩
def HC_SUBMIT_STATUS_TAG : Field := ⟨0x1188, 0x0, 0x0, 0x0, 0, 16⟩
def HC_SUBMIT_STATUS_REFUSED : Field := ⟨0x1188, 0x0, 0x0, 0x0, 16, 1⟩
def HC_SUBMIT_STATUS_RESERVED : Field := ⟨0x1188, 0x0, 0x0, 0x0, 32, 5⟩
def HC_REPLY_HDR_TAG : Field := ⟨0x2000, 0x0, 0x0, 0x0, 0, 16⟩
def HC_REPLY_HDR_STATUS : Field := ⟨0x2000, 0x0, 0x0, 0x0, 16, 8⟩
def HC_REPLY_HDR_LENGTH : Field := ⟨0x2000, 0x0, 0x0, 0x0, 24, 8⟩
def HC_REPLY_HDR_OPCODE : Field := ⟨0x2000, 0x0, 0x0, 0x0, 32, 16⟩
def HC_REPLY_HDR_VALID : Field := ⟨0x2000, 0x0, 0x0, 0x0, 63, 1⟩
def HC_REPLY_Wk_WORD : Field := ⟨0x2000, 0x8, 0x0, 0x0, 0, 64⟩
def HC_REPLY_POP_POP : Field := ⟨0x2080, 0x0, 0x0, 0x0, 0, 1⟩
def HC_REPLY_IN_REPLY : Field := ⟨0x3000, 0x0, 0x0, 0x0, 0, 64⟩
def HC_REPLY_STATUS_QUEUED : Field := ⟨0x3080, 0x0, 0x0, 0x0, 0, 5⟩
def HC_REPLY_STATUS_LOST : Field := ⟨0x3080, 0x0, 0x0, 0x0, 16, 16⟩
def OWN_CLAIM_OWNER : Field := ⟨0x100000, 0x0, 0x0, 0x0, 0, 32⟩
def OWN_CLAIM_OWNED : Field := ⟨0x100000, 0x0, 0x0, 0x0, 32, 1⟩
def OWN_HANDOVER_SUCCESSOR : Field := ⟨0x100008, 0x0, 0x0, 0x0, 0, 32⟩
def OWN_HANDOVER_PENDING : Field := ⟨0x100008, 0x0, 0x0, 0x0, 32, 1⟩
def OWN_HANDOVER_RELEASE : Field := ⟨0x100008, 0x0, 0x0, 0x0, 33, 1⟩
def OWN_STATUS_OWNER : Field := ⟨0x100010, 0x0, 0x0, 0x0, 0, 32⟩
def OWN_STATUS_OWNED : Field := ⟨0x100010, 0x0, 0x0, 0x0, 32, 1⟩
def OWN_STATUS_HANDOVER : Field := ⟨0x100010, 0x0, 0x0, 0x0, 33, 1⟩
def OWN_STATUS_EXPIRED : Field := ⟨0x100010, 0x0, 0x0, 0x0, 34, 1⟩
def OWN_STATUS_LEASE_LEFT_MS : Field := ⟨0x100010, 0x0, 0x0, 0x0, 48, 16⟩
def OWN_LEASE_LEASE_MS : Field := ⟨0x100018, 0x0, 0x0, 0x0, 0, 16⟩
def OWN_LEASE_HANDOVER_MS : Field := ⟨0x100018, 0x0, 0x0, 0x0, 16, 8⟩
def OWN_CHANGES_CHANGES : Field := ⟨0x100020, 0x0, 0x0, 0x0, 0, 32⟩
def OWN_CHANGES_EXPIRIES : Field := ⟨0x100020, 0x0, 0x0, 0x0, 32, 32⟩
def OWN_VIOLm_COUNT_COUNT : Field := ⟨0x101000, 0x10, 0x0, 0x0, 0, 32⟩
def OWN_VIOLm_LAST_IDENT : Field := ⟨0x101008, 0x10, 0x0, 0x0, 0, 32⟩
def OWN_VIOLm_LAST_KIND : Field := ⟨0x101008, 0x10, 0x0, 0x0, 32, 3⟩
def OWN_VIOLm_LAST_WRITE : Field := ⟨0x101008, 0x10, 0x0, 0x0, 35, 1⟩
def OWN_VIOLm_LAST_OFFSET : Field := ⟨0x101008, 0x10, 0x0, 0x0, 36, 26⟩
def OWN_VIOLm_LAST_VALID : Field := ⟨0x101008, 0x10, 0x0, 0x0, 63, 1⟩
def MBX_m_Wk_WORD : Field := ⟨0x700000, 0x80, 0x8, 0x0, 0, 64⟩
def MBX_m_STATUS_FULL : Field := ⟨0x700040, 0x80, 0x0, 0x0, 0, 1⟩
def MBX_m_STATUS_COLLISION : Field := ⟨0x700040, 0x80, 0x0, 0x0, 1, 1⟩
def MBX_m_STATUS_SEQ : Field := ⟨0x700040, 0x80, 0x0, 0x0, 32, 32⟩
def MBX_m_TAKE_SEQ : Field := ⟨0x700048, 0x80, 0x0, 0x0, 0, 32⟩
def MBX_m_CFG_DB_TARGET : Field := ⟨0x700050, 0x80, 0x0, 0x0, 0, 7⟩
def MBX_m_CFG_DB_BIT : Field := ⟨0x700050, 0x80, 0x0, 0x0, 8, 5⟩
def MBX_m_CFG_DB_EN : Field := ⟨0x700050, 0x80, 0x0, 0x0, 15, 1⟩
def MBX_m_RECV_MATCH : Field := ⟨0x700058, 0x80, 0x0, 0x0, 0, 32⟩
def MBX_m_RECV_MASK : Field := ⟨0x700058, 0x80, 0x0, 0x0, 32, 32⟩
def MBX_m_SENDERS_MATCH : Field := ⟨0x700060, 0x80, 0x0, 0x0, 0, 32⟩
def MBX_m_SENDERS_MASK : Field := ⟨0x700060, 0x80, 0x0, 0x0, 32, 32⟩
def MBX_m_COUNT_SENT : Field := ⟨0x700068, 0x80, 0x0, 0x0, 0, 32⟩
def MBX_m_COUNT_TAKEN : Field := ⟨0x700068, 0x80, 0x0, 0x0, 32, 32⟩
def MBX_m_OVER_OVERWRITTEN : Field := ⟨0x700070, 0x80, 0x0, 0x0, 0, 32⟩
def MBX_m_OVER_LAST_SENDER : Field := ⟨0x700070, 0x80, 0x0, 0x0, 32, 32⟩
def MBX_STAGE_Wk_WORD : Field := ⟨0x708000, 0x8, 0x0, 0x0, 0, 64⟩
def MBX_SEND_MAILBOX : Field := ⟨0x708040, 0x0, 0x0, 0x0, 0, 8⟩
def MBX_DBr_PENDING : Field := ⟨0x709000, 0x8, 0x0, 0x0, 0, 32⟩
def MBX_DBr_MASK : Field := ⟨0x709000, 0x8, 0x0, 0x0, 32, 32⟩
def MBX_AUDIT_MBX_SUM : Field := ⟨0x70A000, 0x0, 0x0, 0x0, 0, 1⟩
def MBX_AUDIT_MAILBOX : Field := ⟨0x70A000, 0x0, 0x0, 0x0, 8, 8⟩
def MBX_AUDIT_FAIL_TICKS : Field := ⟨0x70A000, 0x0, 0x0, 0x0, 32, 32⟩
/-! ### Fields of 16_power_and_clocks.md -/

def CLK_CTL_KINDLE_KEEP : Field := ⟨0x300000, 0x0, 0x0, 0x0, 0, 1⟩
def CLK_CTL_AUTO_RETURN : Field := ⟨0x300000, 0x0, 0x0, 0x0, 1, 1⟩
def CLK_STATUS_REF_SEL : Field := ⟨0x300008, 0x0, 0x0, 0x0, 0, 1⟩
def CLK_STATUS_REF : Field := ⟨0x300008, 0x0, 0x0, 0x0, 1, 1⟩
def CLK_STATUS_ROOT : Field := ⟨0x300008, 0x0, 0x0, 0x0, 2, 2⟩
def CLK_STATUS_KINDLE_READY : Field := ⟨0x300008, 0x0, 0x0, 0x0, 4, 1⟩
def CLK_STATUS_REF_QUAL : Field := ⟨0x300008, 0x0, 0x0, 0x0, 5, 1⟩
def CLK_STATUS_SWITCHING : Field := ⟨0x300008, 0x0, 0x0, 0x0, 6, 1⟩
def CLK_MON_REF_LOST : Field := ⟨0x300010, 0x0, 0x0, 0x0, 0, 1⟩
def CLK_MON_LOCK_LOST : Field := ⟨0x300010, 0x0, 0x0, 0x0, 1, 1⟩
def CLK_MON_FROZE : Field := ⟨0x300010, 0x0, 0x0, 0x0, 2, 1⟩
def CLK_MON_TRIPS : Field := ⟨0x300010, 0x0, 0x0, 0x0, 16, 16⟩
def CLK_MON_RETURNS : Field := ⟨0x300010, 0x0, 0x0, 0x0, 32, 16⟩
def CLK_MON_FREEZES : Field := ⟨0x300010, 0x0, 0x0, 0x0, 48, 16⟩
def CLK_MON_LAST_TICK : Field := ⟨0x300018, 0x0, 0x0, 0x0, 0, 64⟩
def CLK_GATE_FIXED : Field := ⟨0x300020, 0x0, 0x0, 0x0, 0, 5⟩
def CLK_GATE_CTX : Field := ⟨0x300020, 0x0, 0x0, 0x0, 5, 1⟩
def CLK_GATE_BANK : Field := ⟨0x300020, 0x0, 0x0, 0x0, 6, 1⟩
def CLK_GATE_CFG : Field := ⟨0x300020, 0x0, 0x0, 0x0, 7, 1⟩
def CLK_GATE_NVA : Field := ⟨0x300020, 0x0, 0x0, 0x0, 8, 1⟩
def CLK_GATE_SER : Field := ⟨0x300020, 0x0, 0x0, 0x0, 9, 1⟩
def CLK_GATE_CHDIE : Field := ⟨0x300020, 0x0, 0x0, 0x0, 10, 4⟩
def CLK_GATE_DRC : Field := ⟨0x300020, 0x0, 0x0, 0x0, 14, 4⟩
def CLK_GATE_BRL : Field := ⟨0x300020, 0x0, 0x0, 0x0, 18, 1⟩
def CLK_GATE_ULANE : Field := ⟨0x300020, 0x0, 0x0, 0x0, 19, 1⟩
def CLK_GATE_STATIC : Field := ⟨0x300020, 0x0, 0x0, 0x0, 20, 1⟩
def CLK_GATE_SGE : Field := ⟨0x300020, 0x0, 0x0, 0x0, 32, 32⟩
def CLK_GATE_CLOSING_CLOSING : Field := ⟨0x300028, 0x0, 0x0, 0x0, 0, 64⟩
def CLK_GATE_RAMP_RAMPING : Field := ⟨0x300030, 0x0, 0x0, 0x0, 0, 64⟩
def CLK_RGN_GATE_GATE : Field := ⟨0x300038, 0x0, 0x0, 0x0, 0, 64⟩
def CLK_RGN_CLOSING_CLOSING : Field := ⟨0x300040, 0x0, 0x0, 0x0, 0, 64⟩
def PWR_CTL_COLD_DELAY_MS : Field := ⟨0x301000, 0x0, 0x0, 0x0, 0, 16⟩
def PWR_CTL_AVS_RAIL : Field := ⟨0x301000, 0x0, 0x0, 0x0, 16, 4⟩
def PWR_STATUS_STATE : Field := ⟨0x301008, 0x0, 0x0, 0x0, 0, 2⟩
def PWR_STATUS_TARGET : Field := ⟨0x301008, 0x0, 0x0, 0x0, 2, 2⟩
def PWR_STATUS_STEP : Field := ⟨0x301008, 0x0, 0x0, 0x0, 4, 4⟩
def PWR_STATUS_PENDING_STATE : Field := ⟨0x301008, 0x0, 0x0, 0x0, 8, 2⟩
def PWR_STATUS_PENDING : Field := ⟨0x301008, 0x0, 0x0, 0x0, 10, 1⟩
def PWR_STATUS_SUSPENDED : Field := ⟨0x301008, 0x0, 0x0, 0x0, 11, 1⟩
def PWR_AVS_TARGET_MV : Field := ⟨0x301010, 0x0, 0x0, 0x0, 0, 16⟩
def PWR_AVS_READ_MV : Field := ⟨0x301010, 0x0, 0x0, 0x0, 16, 16⟩
def PWR_AVS_V_RUN_MV : Field := ⟨0x301010, 0x0, 0x0, 0x0, 32, 16⟩
def PWR_AVS_AVS_ERR : Field := ⟨0x301010, 0x0, 0x0, 0x0, 48, 1⟩
def PWR_WAKE_CFG_PIN_EN : Field := ⟨0x301018, 0x0, 0x0, 0x0, 0, 4⟩
def PWR_WAKE_CFG_PIN_POL : Field := ⟨0x301018, 0x0, 0x0, 0x0, 4, 4⟩
def PWR_WAKE_CFG_RING_EN : Field := ⟨0x301018, 0x0, 0x0, 0x0, 8, 1⟩
def PWR_WAKE_CFG_PCIE_EN : Field := ⟨0x301018, 0x0, 0x0, 0x0, 9, 1⟩
def PWR_WAKE_CFG_FILTER_US : Field := ⟨0x301018, 0x0, 0x0, 0x0, 16, 8⟩
def PWR_WAKE_STATUS_PIN : Field := ⟨0x301020, 0x0, 0x0, 0x0, 0, 4⟩
def PWR_WAKE_STATUS_RING : Field := ⟨0x301020, 0x0, 0x0, 0x0, 4, 1⟩
def PWR_WAKE_STATUS_PCIE : Field := ⟨0x301020, 0x0, 0x0, 0x0, 5, 1⟩
def PWR_WAKE_STATUS_LEVEL : Field := ⟨0x301020, 0x0, 0x0, 0x0, 8, 4⟩
def PWR_WAKE_REQ_WAKE : Field := ⟨0x301028, 0x0, 0x0, 0x0, 0, 1⟩
def PWR_COUNTS_TRANSITIONS : Field := ⟨0x301030, 0x0, 0x0, 0x0, 0, 16⟩
def PWR_COUNTS_SUPERSEDED : Field := ⟨0x301030, 0x0, 0x0, 0x0, 16, 16⟩
def PWR_COUNTS_WAKES : Field := ⟨0x301030, 0x0, 0x0, 0x0, 32, 16⟩
def PWR_COUNTS_AVS_ERRORS : Field := ⟨0x301030, 0x0, 0x0, 0x0, 48, 16⟩
/-! ### Fields of 17_faults.md -/

def FLT_CTL_RELEASE : Field := ⟨0x200000, 0x0, 0x0, 0x0, 0, 1⟩
def FLT_CTL_JOURNAL_MIN : Field := ⟨0x200000, 0x0, 0x0, 0x0, 4, 2⟩
def FLT_STATUS_HALTED : Field := ⟨0x200008, 0x0, 0x0, 0x0, 0, 1⟩
def FLT_STATUS_HB_LOST : Field := ⟨0x200008, 0x0, 0x0, 0x0, 1, 1⟩
def FLT_STATUS_TICK_LOST : Field := ⟨0x200008, 0x0, 0x0, 0x0, 2, 1⟩
def FLT_STATUS_EMBER : Field := ⟨0x200008, 0x0, 0x0, 0x0, 3, 1⟩
def FLT_STATUS_EMBER_RUN : Field := ⟨0x200008, 0x0, 0x0, 0x0, 4, 1⟩
def FLT_STATUS_RELEASE_REFUSED : Field := ⟨0x200008, 0x0, 0x0, 0x0, 5, 1⟩
def FLT_STATUS_HALT_SRC : Field := ⟨0x200008, 0x0, 0x0, 0x0, 16, 12⟩
def FLT_STATUS_HALTS : Field := ⟨0x200008, 0x0, 0x0, 0x0, 32, 32⟩
def FLT_EMBER_FREQ_HZ : Field := ⟨0x200010, 0x0, 0x0, 0x0, 0, 14⟩
def FLT_EMBER_HB_TIMEOUT : Field := ⟨0x200010, 0x0, 0x0, 0x0, 16, 16⟩
def FLT_EMBER_STOP : Field := ⟨0x200010, 0x0, 0x0, 0x0, 32, 1⟩
def FLT_FIRST_W0_WORD : Field := ⟨0x200018, 0x0, 0x0, 0x0, 0, 64⟩
def FLT_FIRST_W1_WORD : Field := ⟨0x200020, 0x0, 0x0, 0x0, 0, 64⟩
def FLT_COUNT_RAISED : Field := ⟨0x200028, 0x0, 0x0, 0x0, 0, 32⟩
def FLT_COUNT_RECORDED : Field := ⟨0x200028, 0x0, 0x0, 0x0, 32, 32⟩
def FLT_JOURNAL_WRITTEN : Field := ⟨0x200030, 0x0, 0x0, 0x0, 0, 32⟩
def FLT_JOURNAL_SKIPPED : Field := ⟨0x200030, 0x0, 0x0, 0x0, 32, 16⟩
def FLT_JOURNAL_QUEUED : Field := ⟨0x200030, 0x0, 0x0, 0x0, 48, 7⟩
def FLT_JSEQ_JSEQ : Field := ⟨0x200038, 0x0, 0x0, 0x0, 0, 64⟩
def FLT_RAISE_SOURCE : Field := ⟨0x200040, 0x0, 0x0, 0x0, 0, 12⟩
def FLT_RAISE_INFO : Field := ⟨0x200040, 0x0, 0x0, 0x0, 32, 32⟩
def FLT_DMA_AUDIT_ENGINES : Field := ⟨0x200048, 0x0, 0x0, 0x0, 0, 32⟩
def FLT_DMA_AUDIT_FAIL_TICKS : Field := ⟨0x200048, 0x0, 0x0, 0x0, 32, 32⟩
def FLT_DRAM_AUDIT_CTRL : Field := ⟨0x200050, 0x0, 0x0, 0x0, 0, 4⟩
def FLT_DRAM_AUDIT_FAIL_TICKS : Field := ⟨0x200050, 0x0, 0x0, 0x0, 32, 32⟩
def FLT_DMAe_ISSUED : Field := ⟨0x200100, 0x8, 0x0, 0x0, 0, 32⟩
def FLT_DMAe_ANSWERED : Field := ⟨0x200100, 0x8, 0x0, 0x0, 32, 32⟩
def FLT_DRAMc_ACCRUED : Field := ⟨0x200200, 0x8, 0x0, 0x0, 0, 32⟩
def FLT_VECf_RAISED_RAISED : Field := ⟨0x200300, 0x8, 0x0, 0x0, 0, 64⟩
def FLT_HISTk_W0_WORD : Field := ⟨0x201000, 0x10, 0x0, 0x0, 0, 64⟩
def FLT_HISTk_W1_WORD : Field := ⟨0x201008, 0x10, 0x0, 0x0, 0, 64⟩
def FLT_SRCs_SEV : Field := ⟨0x208000, 0x8, 0x0, 0x0, 0, 2⟩
def FLT_SRCs_FIXED : Field := ⟨0x208000, 0x8, 0x0, 0x0, 2, 1⟩
def FLT_SRCs_NOTIFY : Field := ⟨0x208000, 0x8, 0x0, 0x0, 3, 1⟩
def FLT_SRCs_IMPL : Field := ⟨0x208000, 0x8, 0x0, 0x0, 4, 1⟩
def FLT_SRCs_VEC0 : Field := ⟨0x208000, 0x8, 0x0, 0x0, 8, 6⟩
def FLT_SRCs_EN0 : Field := ⟨0x208000, 0x8, 0x0, 0x0, 15, 1⟩
def FLT_SRCs_VEC1 : Field := ⟨0x208000, 0x8, 0x0, 0x0, 16, 6⟩
def FLT_SRCs_EN1 : Field := ⟨0x208000, 0x8, 0x0, 0x0, 23, 1⟩
def FLT_SRCs_VEC2 : Field := ⟨0x208000, 0x8, 0x0, 0x0, 24, 6⟩
def FLT_SRCs_EN2 : Field := ⟨0x208000, 0x8, 0x0, 0x0, 31, 1⟩
def FLT_SRCs_VEC3 : Field := ⟨0x208000, 0x8, 0x0, 0x0, 32, 6⟩
def FLT_SRCs_EN3 : Field := ⟨0x208000, 0x8, 0x0, 0x0, 39, 1⟩
def FLT_SRCs_COUNT : Field := ⟨0x208000, 0x8, 0x0, 0x0, 48, 16⟩

/-- The register descriptions: offset, indexes, access class and field types. -/
def regInfo : RegName → RegInfo
  | .TCK_CTL => ⟨0x400000, [], false, .ownerOnly, [⟨0, 1, .rw⟩, ⟨1, 2, .rw⟩, ⟨8, 8, .rw⟩]⟩
  | .TCK_STATUS => ⟨0x400008, [], false, .anyMaster, [⟨0, 1, .ro⟩, ⟨1, 2, .ro⟩, ⟨3, 1, .ro⟩, ⟨4, 1, .ro⟩, ⟨5, 1, .ro⟩, ⟨6, 2, .ro⟩, ⟨8, 1, .rw1c⟩, ⟨9, 1, .rw1c⟩, ⟨10, 1, .rw1c⟩, ⟨11, 1, .rw1c⟩, ⟨12, 1, .rw1c⟩, ⟨16, 16, .ro⟩]⟩
  | .TCK_PERIOD => ⟨0x400010, [], false, .anyMaster, [⟨0, 17, .ro⟩, ⟨32, 23, .ro⟩]⟩
  | .TCK_PERIOD_NEXT => ⟨0x400018, [], false, .ownerOnly, [⟨0, 17, .rwl⟩, ⟨61, 1, .ro⟩, ⟨62, 1, .wo⟩, ⟨63, 1, .wo⟩]⟩
  | .TCK_CHANGE_AT => ⟨0x400020, [], false, .ownerOnly, [⟨0, 64, .rwl⟩]⟩
  | .TCK_COUNT => ⟨0x400028, [], false, .anyMaster, [⟨0, 64, .ro⟩]⟩
  | .DEVICE_TIME => ⟨0x400030, [], false, .anyMaster, [⟨0, 64, .ro⟩]⟩
  | .TCK_SNAP_TIME => ⟨0x400038, [], true, .anyMaster, [⟨0, 64, .ro⟩]⟩
  | .TCK_SNAP_PHASE => ⟨0x400040, [], true, .anyMaster, [⟨0, 24, .ro⟩]⟩
  | .TCK_UNCERT => ⟨0x400048, [], false, .anyMaster, [⟨0, 48, .ro⟩]⟩
  | .TCK_STEER => ⟨0x400050, [], false, .anyMaster, [⟨0, 32, .ro⟩, ⟨32, 32, .ro⟩]⟩
  | .TCK_PORTn_ADJ => ⟨0x400058, [⟨0x8, 0, 4⟩], false, .ownerOnly, [⟨0, 16, .rw⟩]⟩
  | .TCK_LATE_VISITS => ⟨0x400078, [], false, .anyMaster, [⟨0, 64, .ro⟩]⟩
  | .TCK_LATE_NOC => ⟨0x400080, [], false, .anyMaster, [⟨0, 64, .ro⟩]⟩
  | .TCK_LATE_SGE => ⟨0x400088, [], false, .anyMaster, [⟨0, 64, .ro⟩]⟩
  | .TCK_LATE_TICKS => ⟨0x400090, [], false, .anyMaster, [⟨0, 64, .ro⟩]⟩
  | .TCK_LATE_DISPATCH => ⟨0x4000D0, [], false, .anyMaster, [⟨0, 64, .ro⟩]⟩
  | .TCK_CARRY_MAX => ⟨0x400098, [], false, .anyMaster, [⟨0, 23, .rc⟩]⟩
  | .TCK_AUDIT => ⟨0x4000A0, [], false, .anyMaster, [⟨0, 32, .ro⟩, ⟨32, 32, .ro⟩]⟩
  | .TCK_AON => ⟨0x4000A8, [], false, .anyMaster, [⟨0, 48, .ro⟩]⟩
  | .TCK_AON_CAL => ⟨0x4000B0, [], false, .anyMaster, [⟨0, 32, .ro⟩]⟩
  | .TCK_SLEEP => ⟨0x4000B8, [], false, .anyMaster, [⟨0, 48, .ro⟩]⟩
  | .TCK_PTM_HOST => ⟨0x4000C0, [], false, .anyMaster, [⟨0, 64, .ro⟩]⟩
  | .TCK_PTM_DEV => ⟨0x4000C8, [], false, .anyMaster, [⟨0, 64, .ro⟩]⟩
  | .CTX_COUNT_CREATED => ⟨0x800100, [], false, .anyMaster, [⟨0, 64, .ro⟩]⟩
  | .CTX_COUNT_DESTROYED => ⟨0x800108, [], false, .anyMaster, [⟨0, 64, .ro⟩]⟩
  | .CTX_COUNT_RESIDENT => ⟨0x800110, [], false, .anyMaster, [⟨0, 21, .ro⟩, ⟨21, 21, .ro⟩]⟩
  | .CTX_STATE_COUNTs => ⟨0x800110, [⟨0x8, 1, 6⟩], false, .anyMaster, [⟨0, 21, .ro⟩]⟩
  | .CTX_AUDIT => ⟨0x800148, [], false, .anyMaster, [⟨0, 1, .rw1c⟩, ⟨1, 1, .rw1c⟩, ⟨2, 1, .rw1c⟩, ⟨3, 1, .rw1c⟩, ⟨4, 4, .ro⟩, ⟨32, 32, .ro⟩]⟩
  | .CTX_AUDIT_TICK => ⟨0x800150, [], false, .anyMaster, [⟨0, 64, .ro⟩]⟩
  | .CTX_STATUS => ⟨0x800158, [], false, .anyMaster, [⟨0, 1, .rw1c⟩, ⟨1, 1, .rw1c⟩]⟩
  | .CTX_QUAR_LAST => ⟨0x800160, [], false, .anyMaster, [⟨0, 20, .ro⟩, ⟨20, 4, .ro⟩, ⟨24, 4, .ro⟩, ⟨32, 32, .ro⟩]⟩
  | .CTX_QUAR_COUNT => ⟨0x800168, [], false, .anyMaster, [⟨0, 64, .ro⟩]⟩
  | .CTX_DOMd_MATCH => ⟨0x801000, [⟨0x40, 0, 16⟩], false, .ownerOnly, [⟨0, 32, .rw⟩, ⟨32, 32, .rw⟩]⟩
  | .CTX_DOMd_CFG => ⟨0x801008, [⟨0x40, 0, 16⟩], false, .ownerOnly, [⟨0, 1, .rwl⟩, ⟨8, 8, .rw⟩, ⟨16, 21, .rw⟩]⟩
  | .CTX_DOMd_CREATED => ⟨0x801010, [⟨0x40, 0, 16⟩], false, .anyMaster, [⟨0, 64, .ro⟩]⟩
  | .CTX_DOMd_DESTROYED => ⟨0x801018, [⟨0x40, 0, 16⟩], false, .anyMaster, [⟨0, 64, .ro⟩]⟩
  | .CTX_DOMd_STATUS => ⟨0x801020, [⟨0x40, 0, 16⟩], false, .anyMaster, [⟨0, 21, .ro⟩, ⟨21, 21, .ro⟩, ⟨63, 1, .ro⟩]⟩
  | .CTX_ENG_CTL => ⟨0x800000, [], false, .ownerOnly, [⟨0, 1, .rw⟩, ⟨1, 1, .wo⟩, ⟨32, 32, .rw⟩]⟩
  | .CTX_ENG_STATUS => ⟨0x800008, [], false, .anyMaster, [⟨0, 1, .ro⟩, ⟨1, 1, .rw1c⟩, ⟨2, 1, .rw1c⟩, ⟨3, 1, .rw1c⟩, ⟨32, 32, .ro⟩]⟩
  | .CTX_ENG_AUDIT => ⟨0x800010, [], false, .anyMaster, [⟨0, 1, .rw1c⟩, ⟨1, 1, .rw1c⟩, ⟨2, 1, .rw1c⟩, ⟨8, 8, .ro⟩, ⟨16, 4, .ro⟩, ⟨32, 32, .ro⟩]⟩
  | .CTX_ENG_VISITS => ⟨0x800018, [], false, .anyMaster, [⟨0, 64, .ro⟩]⟩
  | .CTX_ENG_LAPS => ⟨0x800020, [], false, .anyMaster, [⟨0, 32, .ro⟩, ⟨32, 32, .ro⟩]⟩
  | .CTX_ENG_FLIGHT => ⟨0x800028, [], false, .anyMaster, [⟨0, 12, .ro⟩, ⟨16, 12, .ro⟩, ⟨32, 32, .ro⟩]⟩
  | .CTX_ENG_EVENTS => ⟨0x800030, [], false, .anyMaster, [⟨0, 32, .ro⟩, ⟨32, 32, .ro⟩]⟩
  | .CTX_CRED_t => ⟨0x800800, [⟨0x8, 0, 224⟩], false, .anyMaster, [⟨0, 5, .ro⟩, ⟨8, 5, .ro⟩, ⟨16, 5, .ro⟩]⟩
  | .CTX_DOMd_VISITS => ⟨0x801028, [⟨0x40, 0, 16⟩], false, .anyMaster, [⟨0, 23, .ro⟩, ⟨32, 21, .ro⟩]⟩
  | .CTX_RINGd_BASE => ⟨0x802000, [⟨0x40, 0, 16⟩], false, .ownerOnly, [⟨4, 34, .rwl⟩, ⟨63, 1, .rwl⟩]⟩
  | .CTX_RINGd_CFG => ⟨0x802008, [⟨0x40, 0, 16⟩], false, .ownerOnly, [⟨0, 1, .rw⟩, ⟨8, 5, .rwl⟩, ⟨32, 24, .rw⟩]⟩
  | .CTX_RINGd_ID => ⟨0x802010, [⟨0x40, 0, 16⟩], false, .ownerOnly, [⟨0, 32, .rw⟩]⟩
  | .CTX_RINGd_WR => ⟨0x802018, [⟨0x40, 0, 16⟩], false, .anyMaster, [⟨0, 32, .ro⟩]⟩
  | .CTX_RINGd_RD => ⟨0x802020, [⟨0x40, 0, 16⟩], false, .anyMaster, [⟨0, 32, .rw⟩]⟩
  | .CTX_RINGd_PRODUCED => ⟨0x802028, [⟨0x40, 0, 16⟩], false, .anyMaster, [⟨0, 64, .ro⟩]⟩
  | .CTX_RINGd_LOSS => ⟨0x802030, [⟨0x40, 0, 16⟩], false, .anyMaster, [⟨0, 32, .ro⟩, ⟨32, 32, .ro⟩]⟩
  | .CTX_RINGd_PENDING => ⟨0x802038, [⟨0x40, 0, 16⟩], false, .anyMaster, [⟨0, 9, .ro⟩]⟩
  | .CHG_MODE => ⟨0xC00000, [⟨0x4000, 0, 128⟩], false, .ownerOnly, [⟨0, 3, .ro⟩, ⟨3, 1, .ro⟩, ⟨4, 3, .rw⟩, ⟨8, 1, .rw⟩, ⟨9, 1, .ro⟩, ⟨16, 6, .rw⟩, ⟨24, 1, .rw⟩, ⟨25, 1, .wo⟩]⟩
  | .CHG_SAFE => ⟨0xC00008, [⟨0x4000, 0, 128⟩], false, .ownerOnly, [⟨0, 2, .rw⟩]⟩
  | .CHG_DRV_LEVEL => ⟨0xC00010, [⟨0x4000, 0, 128⟩], false, .ownerOnly, [⟨0, 12, .rwl⟩]⟩
  | .CHG_PERIOD => ⟨0xC00018, [⟨0x4000, 0, 128⟩], false, .ownerOnly, [⟨0, 16, .rwl⟩]⟩
  | .CHG_STATUS => ⟨0xC00020, [⟨0x4000, 0, 128⟩], false, .anyMaster, [⟨0, 5, .ro⟩, ⟨5, 1, .ro⟩, ⟨6, 1, .rw1c⟩, ⟨7, 1, .rw1c⟩, ⟨8, 1, .rw1c⟩, ⟨9, 1, .rw1c⟩, ⟨10, 1, .rw1c⟩, ⟨11, 1, .rw1c⟩, ⟨16, 16, .ro⟩]⟩
  | .CHG_VEC_ADDR => ⟨0xC00028, [⟨0x4000, 0, 128⟩], false, .ownerOnly, [⟨0, 15, .rw⟩]⟩
  | .CHG_VEC_DATA => ⟨0xC00030, [⟨0x4000, 0, 128⟩], false, .ownerOnly, [⟨0, 64, .rw⟩]⟩
  | .CHG_RUN => ⟨0xC00038, [⟨0x4000, 0, 128⟩], false, .anyMaster, [⟨0, 32, .ro⟩, ⟨32, 13, .ro⟩, ⟨48, 16, .ro⟩]⟩
  | .CHG_FIRST_FAIL => ⟨0xC00040, [⟨0x4000, 0, 128⟩], false, .anyMaster, [⟨0, 15, .ro⟩, ⟨15, 12, .ro⟩, ⟨32, 16, .ro⟩, ⟨63, 1, .ro⟩]⟩
  | .CHG_STREAM_BASE => ⟨0xC00048, [⟨0x4000, 0, 128⟩], false, .ownerOnly, [⟨3, 35, .rwl⟩]⟩
  | .CHG_STREAM_CTL => ⟨0xC00050, [⟨0x4000, 0, 128⟩], false, .ownerOnly, [⟨0, 1, .wo⟩, ⟨1, 1, .wo⟩, ⟨2, 1, .rw⟩, ⟨3, 1, .ro⟩, ⟨8, 28, .rwl⟩]⟩
  | .CHG_STREAM_AT => ⟨0xC00058, [⟨0x4000, 0, 128⟩], false, .ownerOnly, [⟨0, 64, .rwl⟩]⟩
  | .CHG_STREAM_STATUS => ⟨0xC00060, [⟨0x4000, 0, 128⟩], false, .anyMaster, [⟨0, 40, .ro⟩, ⟨40, 12, .ro⟩]⟩
  | .CHG_UNDERRUN => ⟨0xC00068, [⟨0x4000, 0, 128⟩], false, .anyMaster, [⟨0, 32, .ro⟩, ⟨32, 32, .ro⟩]⟩
  | .CHG_EVENTS => ⟨0xC00070, [⟨0x4000, 0, 128⟩], false, .anyMaster, [⟨0, 32, .ro⟩, ⟨32, 32, .ro⟩]⟩
  | .CHG_RFX_STATUS => ⟨0xC00078, [⟨0x4000, 0, 128⟩], false, .anyMaster, [⟨0, 16, .rw1c⟩]⟩
  | .CHG_RFX_COUNT => ⟨0xC00080, [⟨0x4000, 0, 128⟩], false, .anyMaster, [⟨0, 64, .ro⟩]⟩
  | .CHG_CHi_CFG => ⟨0xC00800, [⟨0x4000, 0, 128⟩, ⟨0x80, 0, 16⟩], false, .ownerOnly, [⟨0, 1, .rw⟩, ⟨1, 1, .rw⟩]⟩
  | .CHG_CHi_THRESH => ⟨0xC00808, [⟨0x4000, 0, 128⟩, ⟨0x80, 0, 16⟩], false, .ownerOnly, [⟨0, 12, .rw⟩, ⟨16, 12, .rw⟩]⟩
  | .CHG_CHi_EDGES => ⟨0xC00810, [⟨0x4000, 0, 128⟩, ⟨0x80, 0, 16⟩], false, .ownerOnly, [⟨0, 23, .rw⟩, ⟨32, 23, .rw⟩]⟩
  | .CHG_CHi_DESKEW => ⟨0xC00818, [⟨0x4000, 0, 128⟩, ⟨0x80, 0, 16⟩], false, .ownerOnly, [⟨0, 8, .rw⟩, ⟨8, 8, .rw⟩]⟩
  | .CHG_CHi_FAILS => ⟨0xC00820, [⟨0x4000, 0, 128⟩, ⟨0x80, 0, 16⟩], false, .anyMaster, [⟨0, 32, .ro⟩]⟩
  | .CHG_CHi_LAST => ⟨0xC00828, [⟨0x4000, 0, 128⟩, ⟨0x80, 0, 16⟩], false, .anyMaster, [⟨0, 2, .ro⟩, ⟨8, 2, .ro⟩]⟩
  | .CHG_RFXj_MATCH => ⟨0xC01000, [⟨0x4000, 0, 128⟩, ⟨0x10, 0, 16⟩], false, .ownerOnly, [⟨0, 32, .rw⟩, ⟨32, 32, .rw⟩]⟩
  | .CHG_RFXj_RESP => ⟨0xC01008, [⟨0x4000, 0, 128⟩, ⟨0x10, 0, 16⟩], false, .ownerOnly, [⟨0, 16, .rw⟩, ⟨16, 16, .rw⟩, ⟨32, 8, .rw⟩, ⟨40, 16, .rw⟩, ⟨62, 1, .rw⟩, ⟨63, 1, .rw⟩]⟩
  | .CHG_LOOPj => ⟨0xC01100, [⟨0x4000, 0, 128⟩, ⟨0x8, 0, 16⟩], false, .ownerOnly, [⟨0, 15, .rwl⟩, ⟨15, 15, .rwl⟩, ⟨30, 16, .rwl⟩, ⟨63, 1, .rwl⟩]⟩
  | .CHG_STOPk => ⟨0xC02000, [⟨0x4000, 0, 128⟩, ⟨0x8, 0, 512⟩], false, .ownerOnly, [⟨0, 64, .rwl⟩]⟩
  | .CHG_PMU_CFG => ⟨0xC03000, [⟨0x4000, 0, 128⟩], false, .ownerOnly, [⟨0, 2, .rwl⟩]⟩
  | .CHG_TDR_CFG => ⟨0xC03008, [⟨0x4000, 0, 128⟩], false, .ownerOnly, [⟨0, 4, .rwl⟩, ⟨16, 16, .rwl⟩]⟩
  | .CHG_MEAS_LAST => ⟨0xC03010, [⟨0x4000, 0, 128⟩], false, .anyMaster, [⟨0, 24, .ro⟩, ⟨24, 3, .ro⟩, ⟨27, 11, .ro⟩, ⟨40, 1, .ro⟩, ⟨41, 1, .ro⟩, ⟨42, 1, .ro⟩, ⟨43, 1, .ro⟩, ⟨44, 1, .ro⟩, ⟨45, 1, .ro⟩]⟩
  | .CHG_MEAS_COUNT => ⟨0xC03018, [⟨0x4000, 0, 128⟩], false, .anyMaster, [⟨0, 32, .ro⟩, ⟨32, 32, .ro⟩]⟩
  | .CHG_ADC_STATUS => ⟨0xC03020, [⟨0x4000, 0, 128⟩], false, .anyMaster, [⟨0, 16, .ro⟩, ⟨16, 6, .ro⟩, ⟨32, 32, .rc⟩]⟩
  | .CHG_CAL_REFS => ⟨0xC03028, [⟨0x4000, 0, 128⟩], false, .anyMaster, [⟨0, 21, .ro⟩]⟩
  | .CHG_CAL_STATUS => ⟨0xC03030, [⟨0x4000, 0, 128⟩], false, .anyMaster, [⟨0, 1, .ro⟩, ⟨1, 1, .ro⟩, ⟨2, 1, .ro⟩, ⟨3, 2, .ro⟩, ⟨8, 5, .ro⟩, ⟨16, 32, .ro⟩]⟩
  | .CHG_CAL_ADDR => ⟨0xC03038, [⟨0x4000, 0, 128⟩], false, .ownerOnly, [⟨0, 8, .rw⟩]⟩
  | .CHG_CAL_DATA => ⟨0xC03040, [⟨0x4000, 0, 128⟩], false, .ownerOnly, [⟨0, 64, .rwl⟩]⟩
  | .CHG_ST_RESULT => ⟨0xC03048, [⟨0x4000, 0, 128⟩], false, .anyMaster, [⟨0, 5, .ro⟩, ⟨8, 5, .ro⟩, ⟨32, 16, .ro⟩, ⟨63, 1, .ro⟩]⟩
  | .CHG_RAILk => ⟨0xC03800, [⟨0x80000, 0, 4⟩, ⟨0x8, 0, 4⟩], false, .ownerOnly, [⟨0, 16, .ro⟩, ⟨16, 16, .rw⟩, ⟨32, 16, .rw⟩, ⟨48, 1, .rw1c⟩]⟩
  | .SGE_CTL => ⟨0x1000000, [⟨0x10000, 0, 32⟩], false, .ownerOnly, [⟨0, 1, .rw⟩, ⟨1, 1, .wo⟩, ⟨32, 32, .rw⟩]⟩
  | .SGE_STATUS => ⟨0x1000008, [⟨0x10000, 0, 32⟩], false, .anyMaster, [⟨0, 2, .ro⟩, ⟨2, 1, .ro⟩, ⟨3, 4, .ro⟩, ⟨7, 1, .ro⟩, ⟨8, 1, .ro⟩]⟩
  | .SGE_FRAME => ⟨0x1000010, [⟨0x10000, 0, 32⟩], false, .ownerOnly, [⟨0, 1, .rw⟩, ⟨16, 13, .rw⟩]⟩
  | .SGE_FRAME_STATUS => ⟨0x1000018, [⟨0x10000, 0, 32⟩], false, .anyMaster, [⟨0, 16, .ro⟩, ⟨16, 1, .ro⟩, ⟨32, 32, .rc⟩]⟩
  | .SGE_TRAP => ⟨0x1000020, [⟨0x10000, 0, 32⟩], false, .anyMaster, [⟨0, 3, .ro⟩, ⟨3, 1, .ro⟩, ⟨16, 13, .ro⟩, ⟨32, 14, .ro⟩, ⟨46, 1, .ro⟩, ⟨63, 1, .ro⟩]⟩
  | .SGE_COUNT_JOBS => ⟨0x1000028, [⟨0x10000, 0, 32⟩], false, .anyMaster, [⟨0, 32, .ro⟩, ⟨32, 32, .ro⟩]⟩
  | .SGE_COUNT_ERR => ⟨0x1000030, [⟨0x10000, 0, 32⟩], false, .anyMaster, [⟨0, 16, .ro⟩, ⟨16, 16, .ro⟩, ⟨32, 16, .ro⟩, ⟨48, 16, .ro⟩]⟩
  | .SGE_CYCLES => ⟨0x1000038, [⟨0x10000, 0, 32⟩], false, .anyMaster, [⟨0, 64, .ro⟩]⟩
  | .SGE_MEM_ADDR => ⟨0x1000040, [⟨0x10000, 0, 32⟩], false, .ownerOnly, [⟨0, 14, .rw⟩, ⟨16, 2, .rw⟩]⟩
  | .SGE_MEM_DATA => ⟨0x1000048, [⟨0x10000, 0, 32⟩], false, .ownerOnly, [⟨0, 64, .rw⟩]⟩
  | .CLK_FCLKk => ⟨0x308000, [⟨0x8, 0, 24⟩], false, .ownerOnly, [⟨0, 13, .rw⟩, ⟨16, 1, .rw⟩, ⟨17, 1, .ro⟩, ⟨18, 1, .ro⟩, ⟨32, 13, .ro⟩]⟩
  | .CLK_UOSCk => ⟨0x308100, [⟨0x8, 0, 4⟩], false, .ownerOnly, [⟨0, 1, .rw⟩, ⟨1, 1, .ro⟩, ⟨32, 32, .ro⟩]⟩
  | .NVA_CTL => ⟨0xE00000, [], false, .ownerOnly, [⟨0, 1, .rw⟩]⟩
  | .NVA_ADDR => ⟨0xE00008, [], true, .anyMaster, [⟨0, 20, .rw⟩]⟩
  | .NVA_DATA => ⟨0xE00010, [], false, .anyMaster, [⟨0, 64, .rw⟩]⟩
  | .NVA_USER_MATCH => ⟨0xE00018, [], false, .ownerOnly, [⟨0, 32, .rw⟩, ⟨32, 32, .rw⟩]⟩
  | .NVA_WP0 => ⟨0xE00020, [], false, .ownerOnly, [⟨0, 64, .rw1s⟩]⟩
  | .NVA_WP1 => ⟨0xE00028, [], false, .ownerOnly, [⟨0, 32, .rw1s⟩]⟩
  | .NVA_STATUS => ⟨0xE00030, [], false, .anyMaster, [⟨0, 20, .ro⟩, ⟨24, 16, .ro⟩, ⟨48, 16, .ro⟩]⟩
  | .NVA_WRITES => ⟨0xE00038, [], false, .anyMaster, [⟨0, 64, .ro⟩]⟩
  | .SER_CTL => ⟨0xF00000, [⟨0x1000, 0, 16⟩], false, .restricted, [⟨0, 3, .rw⟩, ⟨3, 1, .rw⟩, ⟨4, 1, .rw⟩, ⟨5, 5, .rw⟩, ⟨10, 2, .rw⟩, ⟨12, 1, .rw⟩, ⟨13, 1, .rw⟩, ⟨14, 4, .rw⟩, ⟨18, 10, .rw⟩, ⟨28, 1, .rw⟩, ⟨29, 2, .rw⟩]⟩
  | .SER_ASSIGN => ⟨0xF00008, [⟨0x1000, 0, 16⟩], false, .ownerOnly, [⟨0, 32, .rw⟩, ⟨32, 32, .rw⟩]⟩
  | .SER_DIV => ⟨0xF00010, [⟨0x1000, 0, 16⟩], false, .restricted, [⟨0, 24, .rw⟩]⟩
  | .SER_STATUS => ⟨0xF00018, [⟨0x1000, 0, 16⟩], false, .anyMaster, [⟨0, 7, .ro⟩, ⟨8, 7, .ro⟩, ⟨16, 1, .rw1c⟩, ⟨17, 1, .rw1c⟩, ⟨18, 1, .rw1c⟩, ⟨19, 1, .rw1c⟩, ⟨20, 1, .rw1c⟩, ⟨21, 1, .ro⟩, ⟨22, 1, .rw1c⟩, ⟨32, 8, .ro⟩, ⟨40, 8, .ro⟩]⟩
  | .SER_TX => ⟨0xF00020, [⟨0x1000, 0, 16⟩], false, .restricted, [⟨0, 32, .wo⟩, ⟨32, 1, .wo⟩, ⟨33, 1, .wo⟩, ⟨34, 1, .wo⟩]⟩
  | .SER_RX => ⟨0xF00028, [⟨0x1000, 0, 16⟩], false, .anyMaster, [⟨0, 32, .rc⟩, ⟨32, 1, .rc⟩, ⟨33, 1, .rc⟩, ⟨34, 1, .rc⟩, ⟨35, 1, .rc⟩, ⟨63, 1, .rc⟩]⟩
  | .SER_CAN_BIT => ⟨0xF00030, [⟨0x1000, 0, 16⟩], false, .restricted, [⟨0, 8, .rwl⟩, ⟨8, 8, .rwl⟩, ⟨16, 7, .rwl⟩, ⟨23, 7, .rwl⟩, ⟨32, 6, .rwl⟩, ⟨38, 7, .rwl⟩, ⟨45, 6, .rwl⟩, ⟨51, 6, .rwl⟩, ⟨57, 7, .rwl⟩]⟩
  | .SER_CAN_FILTERj => ⟨0xF00100, [⟨0x1000, 0, 16⟩, ⟨0x8, 0, 32⟩], false, .restricted, [⟨0, 29, .rw⟩, ⟨29, 1, .rw⟩, ⟨31, 1, .rw⟩, ⟨32, 29, .rw⟩]⟩
  | .CFG_CTL => ⟨0x500000, [], false, .ownerOnly, [⟨0, 1, .rw⟩, ⟨1, 1, .rw⟩]⟩
  | .CFG_STATUS => ⟨0x500008, [], false, .anyMaster, [⟨0, 3, .ro⟩, ⟨3, 1, .ro⟩, ⟨4, 2, .ro⟩, ⟨6, 1, .ro⟩, ⟨7, 1, .ro⟩, ⟨8, 1, .ro⟩, ⟨9, 1, .rw1c⟩, ⟨10, 1, .ro⟩, ⟨12, 4, .ro⟩, ⟨32, 16, .ro⟩]⟩
  | .CFG_PROGRESS => ⟨0x500010, [], false, .anyMaster, [⟨0, 19, .ro⟩, ⟨32, 32, .ro⟩]⟩
  | .CFG_HDR => ⟨0x500018, [], false, .anyMaster, [⟨0, 16, .ro⟩, ⟨16, 8, .ro⟩, ⟨24, 2, .ro⟩, ⟨32, 16, .ro⟩]⟩
  | .CFG_REGIONS => ⟨0x500020, [], false, .anyMaster, [⟨0, 64, .ro⟩]⟩
  | .CFG_PUSH => ⟨0x500028, [], false, .anyMaster, [⟨0, 64, .wo⟩]⟩
  | .CFG_FUSE => ⟨0x500030, [], false, .anyMaster, [⟨0, 7, .ro⟩, ⟨8, 4, .ro⟩, ⟨12, 4, .ro⟩, ⟨16, 1, .ro⟩, ⟨17, 1, .ro⟩, ⟨18, 1, .ro⟩, ⟨19, 1, .ro⟩, ⟨20, 1, .ro⟩]⟩
  | .CFG_START_TICK => ⟨0x500038, [], false, .anyMaster, [⟨0, 64, .ro⟩]⟩
  | .CFG_LOADS => ⟨0x500040, [], false, .anyMaster, [⟨0, 32, .ro⟩, ⟨32, 32, .ro⟩]⟩
  | .CFG_RGN_DRAIN => ⟨0x500048, [], false, .ownerOnly, [⟨0, 24, .rw⟩]⟩
  | .CFG_RGNr_CTL => ⟨0x501000, [⟨0x20, 0, 65⟩], false, .ownerOnly, [⟨0, 1, .rw⟩, ⟨1, 1, .rw⟩]⟩
  | .CFG_RGNr_STATUS => ⟨0x501008, [⟨0x20, 0, 65⟩], false, .anyMaster, [⟨0, 2, .ro⟩, ⟨2, 2, .ro⟩, ⟨4, 1, .ro⟩, ⟨5, 1, .ro⟩, ⟨6, 1, .rw1c⟩, ⟨16, 5, .ro⟩, ⟨24, 6, .ro⟩, ⟨32, 6, .ro⟩]⟩
  | .CFG_RGNr_RELEASE => ⟨0x501010, [⟨0x20, 0, 65⟩], false, .anyMaster, [⟨0, 64, .ro⟩]⟩
  | .CFG_RGNr_PORT => ⟨0x501018, [⟨0x20, 0, 65⟩], false, .anyMaster, [⟨0, 16, .ro⟩, ⟨16, 16, .ro⟩, ⟨32, 16, .ro⟩, ⟨48, 16, .ro⟩]⟩
  | .SWP_SIG_CTL => ⟨0x504000, [], false, .ownerOnly, [⟨0, 1, .rw⟩, ⟨1, 1, .rw⟩, ⟨16, 16, .rw⟩]⟩
  | .SWP_SIG_STATUS => ⟨0x504008, [], false, .anyMaster, [⟨0, 1, .ro⟩, ⟨1, 1, .ro⟩, ⟨2, 1, .ro⟩, ⟨32, 32, .ro⟩]⟩
  | .SWP_SIG_LAP => ⟨0x504010, [], false, .anyMaster, [⟨0, 32, .ro⟩, ⟨32, 32, .ro⟩]⟩
  | .SWP_SIG_COUNT => ⟨0x504018, [], false, .anyMaster, [⟨0, 32, .ro⟩, ⟨32, 32, .ro⟩]⟩
  | .SWP_SIG_FAIL => ⟨0x504020, [], false, .anyMaster, [⟨0, 16, .ro⟩, ⟨16, 16, .ro⟩, ⟨32, 16, .ro⟩, ⟨48, 16, .ro⟩]⟩
  | .SWP_SIG_SKIPPED => ⟨0x504028, [], false, .anyMaster, [⟨0, 64, .ro⟩]⟩
  | .SWP_SIG_LAST => ⟨0x504030, [], false, .anyMaster, [⟨0, 32, .ro⟩, ⟨32, 3, .ro⟩, ⟨63, 1, .ro⟩]⟩
  | .SWP_SIG_LAST_TICK => ⟨0x504038, [], false, .anyMaster, [⟨0, 64, .ro⟩]⟩
  | .SWP_SIG_SRC => ⟨0x504040, [], false, .anyMaster, [⟨0, 64, .ro⟩]⟩
  | .SWP_SIG_SRC_STATIC => ⟨0x504048, [], false, .anyMaster, [⟨0, 1, .ro⟩]⟩
  | .BNK_OWNERb => ⟨0x1C00000, [⟨0x200, 0, 256⟩], false, .restricted, [⟨0, 32, .rw⟩, ⟨32, 1, .wo⟩, ⟨33, 1, .ro⟩]⟩
  | .BNK_STATUSb => ⟨0x1C00008, [⟨0x200, 0, 256⟩], false, .anyMaster, [⟨0, 32, .ro⟩, ⟨32, 15, .ro⟩]⟩
  | .BNK_VIOLb => ⟨0x1C00010, [⟨0x200, 0, 256⟩], false, .anyMaster, [⟨0, 32, .ro⟩]⟩
  | .BNK_VIOL_LASTb => ⟨0x1C00018, [⟨0x200, 0, 256⟩], false, .anyMaster, [⟨0, 32, .ro⟩, ⟨32, 14, .ro⟩, ⟨48, 1, .ro⟩, ⟨49, 1, .ro⟩, ⟨63, 1, .ro⟩]⟩
  | .BNK_WINb_j => ⟨0x1C00100, [⟨0x200, 0, 256⟩, ⟨0x8, 0, 16⟩], false, .restricted, [⟨0, 14, .rw⟩, ⟨16, 15, .rw⟩, ⟨63, 1, .rw⟩]⟩
  | .SWP_MEMk_CTL => ⟨0x505000, [⟨0x40, 0, 8⟩], false, .ownerOnly, [⟨0, 1, .rw⟩, ⟨16, 16, .rw⟩]⟩
  | .SWP_MEMk_LAP => ⟨0x505008, [⟨0x40, 0, 8⟩], false, .anyMaster, [⟨0, 32, .ro⟩, ⟨32, 32, .ro⟩]⟩
  | .SWP_MEMk_COUNT => ⟨0x505010, [⟨0x40, 0, 8⟩], false, .anyMaster, [⟨0, 32, .ro⟩, ⟨32, 32, .ro⟩]⟩
  | .SWP_MEMk_LAST => ⟨0x505018, [⟨0x40, 0, 8⟩], false, .anyMaster, [⟨0, 24, .ro⟩, ⟨32, 13, .ro⟩, ⟨45, 3, .ro⟩, ⟨63, 1, .ro⟩]⟩
  | .NOC_CTL => ⟨0x600000, [], false, .ownerOnly, [⟨0, 5, .rw⟩]⟩
  | .NOC_EPOCH => ⟨0x600008, [], false, .ownerOnly, [⟨0, 1, .ro⟩, ⟨1, 1, .ro⟩, ⟨2, 1, .wo⟩, ⟨3, 1, .rw1c⟩, ⟨4, 1, .rw1c⟩, ⟨5, 1, .wo⟩, ⟨32, 16, .ro⟩]⟩
  | .NOC_RT_SEL => ⟨0x600010, [], false, .ownerOnly, [⟨0, 7, .rw⟩, ⟨8, 7, .rw⟩, ⟨16, 1, .rw⟩]⟩
  | .NOC_RT_DATA => ⟨0x600018, [], false, .ownerOnly, [⟨0, 3, .rwl⟩]⟩
  | .NOC_AUDIT => ⟨0x600020, [], false, .anyMaster, [⟨0, 1, .rw1c⟩, ⟨2, 2, .ro⟩, ⟨4, 9, .ro⟩, ⟨16, 3, .ro⟩, ⟨32, 32, .ro⟩]⟩
  | .NOC_COUNTS => ⟨0x600028, [], false, .anyMaster, [⟨0, 16, .ro⟩, ⟨16, 16, .ro⟩, ⟨32, 16, .ro⟩, ⟨48, 16, .ro⟩]⟩
  | .NOC_REPLAY => ⟨0x600030, [], false, .anyMaster, [⟨0, 32, .ro⟩, ⟨32, 32, .ro⟩]⟩
  | .NOC_EPe_STATUS => ⟨0x601000, [⟨0x8, 0, 320⟩], false, .anyMaster, [⟨0, 2, .ro⟩, ⟨2, 1, .ro⟩, ⟨8, 13, .ro⟩, ⟨32, 32, .ro⟩]⟩
  | .NOC_LINKl_STAT => ⟨0x602000, [⟨0x8, 0, 320⟩], false, .anyMaster, [⟨0, 16, .ro⟩, ⟨16, 16, .ro⟩, ⟨32, 16, .rc⟩, ⟨48, 1, .ro⟩]⟩
  | .DRC_CTL => ⟨0x1400000, [⟨0x40000, 0, 4⟩], false, .ownerOnly, [⟨0, 1, .rw⟩, ⟨8, 7, .rw⟩, ⟨16, 7, .rw⟩, ⟨24, 3, .rw⟩, ⟨28, 1, .rw⟩, ⟨32, 16, .rw⟩, ⟨48, 16, .rw⟩]⟩
  | .DRC_STATUS => ⟨0x1400008, [⟨0x40000, 0, 4⟩], false, .anyMaster, [⟨0, 3, .ro⟩, ⟨3, 1, .ro⟩, ⟨4, 1, .ro⟩, ⟨5, 1, .ro⟩, ⟨6, 1, .ro⟩, ⟨8, 7, .ro⟩, ⟨16, 7, .ro⟩, ⟨24, 4, .ro⟩, ⟨28, 1, .ro⟩]⟩
  | .DRC_GEOM => ⟨0x1400010, [⟨0x40000, 0, 4⟩], false, .ownerOnly, [⟨0, 1, .rwl⟩, ⟨1, 1, .rwl⟩, ⟨2, 1, .rwl⟩, ⟨3, 1, .rwl⟩, ⟨8, 8, .ro⟩]⟩
  | .DRC_TIM0 => ⟨0x1400018, [⟨0x40000, 0, 4⟩], false, .ownerOnly, [⟨0, 8, .rwl⟩, ⟨8, 8, .rwl⟩, ⟨16, 8, .rwl⟩, ⟨24, 8, .rwl⟩, ⟨32, 8, .rwl⟩, ⟨40, 8, .rwl⟩, ⟨48, 8, .rwl⟩, ⟨56, 8, .rwl⟩]⟩
  | .DRC_TIM1 => ⟨0x1400020, [⟨0x40000, 0, 4⟩], false, .ownerOnly, [⟨0, 8, .rwl⟩, ⟨8, 8, .rwl⟩, ⟨16, 8, .rwl⟩, ⟨24, 8, .rwl⟩, ⟨32, 16, .rwl⟩, ⟨48, 8, .rwl⟩, ⟨56, 8, .rwl⟩]⟩
  | .DRC_TIM2 => ⟨0x1400028, [⟨0x40000, 0, 4⟩], false, .ownerOnly, [⟨0, 16, .rwl⟩, ⟨16, 16, .rwl⟩, ⟨32, 16, .rwl⟩]⟩
  | .DRC_ALERT => ⟨0x1400030, [⟨0x40000, 0, 4⟩], false, .ownerOnly, [⟨0, 12, .rwl⟩]⟩
  | .DRC_TERM => ⟨0x1400038, [⟨0x40000, 0, 4⟩], false, .ownerOnly, [⟨0, 3, .rwl⟩, ⟨3, 3, .rwl⟩, ⟨6, 3, .rwl⟩, ⟨9, 3, .rwl⟩, ⟨12, 3, .rwl⟩, ⟨15, 3, .rwl⟩, ⟨18, 3, .rwl⟩, ⟨21, 3, .rwl⟩]⟩
  | .DRC_ALERT_COUNT => ⟨0x1400040, [⟨0x40000, 0, 4⟩], false, .anyMaster, [⟨0, 32, .ro⟩, ⟨32, 32, .ro⟩]⟩
  | .DRC_ERR_COUNT => ⟨0x1400048, [⟨0x40000, 0, 4⟩], false, .anyMaster, [⟨0, 32, .ro⟩, ⟨32, 16, .ro⟩, ⟨48, 16, .ro⟩]⟩
  | .DRC_ERR_LAST => ⟨0x1400050, [⟨0x40000, 0, 4⟩], false, .anyMaster, [⟨6, 30, .ro⟩, ⟨36, 2, .ro⟩, ⟨38, 18, .ro⟩, ⟨63, 1, .ro⟩]⟩
  | .DRC_REF_COUNT => ⟨0x1400058, [⟨0x40000, 0, 4⟩], false, .anyMaster, [⟨0, 32, .ro⟩, ⟨32, 16, .ro⟩, ⟨48, 4, .rc⟩]⟩
  | .DRC_RD_COUNT => ⟨0x1400060, [⟨0x40000, 0, 4⟩], false, .anyMaster, [⟨0, 32, .ro⟩, ⟨32, 32, .ro⟩]⟩
  | .DRC_OFFLINE => ⟨0x1400068, [⟨0x40000, 0, 4⟩], false, .anyMaster, [⟨0, 2, .ro⟩, ⟨16, 16, .ro⟩]⟩
  | .DRC_SWEEP => ⟨0x1400070, [⟨0x40000, 0, 4⟩], false, .anyMaster, [⟨0, 32, .ro⟩, ⟨32, 32, .ro⟩]⟩
  | .DRC_IMAP => ⟨0x1400100, [], false, .ownerOnly, [⟨0, 2, .rwl⟩, ⟨4, 4, .rwl⟩]⟩
  | .DRC_DQs_k_l => ⟨0x1401000, [⟨0x40000, 0, 4⟩, ⟨0x200, 0, 4⟩, ⟨0x8, 0, 40⟩], false, .ownerOnly, [⟨0, 12, .rwl⟩, ⟨16, 12, .rwl⟩, ⟨32, 8, .rwl⟩]⟩
  | .DRC_DQSs_k_m => ⟨0x1401800, [⟨0x40000, 0, 4⟩, ⟨0x80, 0, 4⟩, ⟨0x8, 0, 10⟩], false, .ownerOnly, [⟨0, 12, .rwl⟩, ⟨16, 12, .rwl⟩]⟩
  | .DRC_CAs_l => ⟨0x1401C00, [⟨0x40000, 0, 4⟩, ⟨0x80, 0, 2⟩, ⟨0x8, 0, 10⟩], false, .ownerOnly, [⟨0, 12, .rwl⟩]⟩
  | .LNK_LANEn_CTL => ⟨0x1800000, [⟨0x100, 0, 96⟩], false, .ownerOnly, [⟨0, 2, .rw⟩, ⟨2, 1, .rw⟩, ⟨4, 1, .rwl⟩, ⟨5, 1, .rw⟩, ⟨6, 1, .wo⟩]⟩
  | .LNK_LANEn_TXEQ => ⟨0x1800008, [⟨0x100, 0, 96⟩], false, .ownerOnly, [⟨0, 5, .rw⟩, ⟨8, 5, .rw⟩]⟩
  | .LNK_LANEn_RXSTAT => ⟨0x1800010, [⟨0x100, 0, 96⟩], false, .anyMaster, [⟨0, 4, .ro⟩, ⟨8, 8, .ro⟩, ⟨16, 2, .ro⟩, ⟨24, 1, .ro⟩, ⟨25, 1, .ro⟩, ⟨32, 16, .ro⟩]⟩
  | .LNK_LANEn_DFE0 => ⟨0x1800018, [⟨0x100, 0, 96⟩], false, .anyMaster, [⟨0, 8, .ro⟩, ⟨8, 8, .ro⟩, ⟨16, 8, .ro⟩, ⟨24, 8, .ro⟩, ⟨32, 8, .ro⟩, ⟨40, 8, .ro⟩]⟩
  | .LNK_LANEn_DFE1 => ⟨0x1800020, [⟨0x100, 0, 96⟩], false, .anyMaster, [⟨0, 8, .ro⟩, ⟨8, 8, .ro⟩, ⟨16, 8, .ro⟩, ⟨24, 8, .ro⟩, ⟨32, 8, .ro⟩, ⟨40, 8, .ro⟩]⟩
  | .LNK_LANEn_PAT => ⟨0x1800028, [⟨0x100, 0, 96⟩], false, .ownerOnly, [⟨0, 3, .rw⟩, ⟨4, 3, .rw⟩, ⟨8, 1, .wo⟩, ⟨9, 1, .wo⟩, ⟨16, 8, .rw⟩, ⟨32, 16, .rw⟩]⟩
  | .LNK_LANEn_UPAT => ⟨0x1800030, [⟨0x100, 0, 96⟩], false, .ownerOnly, [⟨0, 64, .rw⟩]⟩
  | .LNK_LANEn_ERR => ⟨0x1800038, [⟨0x100, 0, 96⟩], false, .anyMaster, [⟨0, 48, .ro⟩, ⟨63, 1, .ro⟩]⟩
  | .LNK_LANEn_BITS => ⟨0x1800040, [⟨0x100, 0, 96⟩], false, .anyMaster, [⟨0, 64, .ro⟩]⟩
  | .LNK_QUADq => ⟨0x1806000, [⟨0x8, 0, 24⟩], false, .ownerOnly, [⟨0, 3, .rw⟩]⟩
  | .PCI_CTL => ⟨0x1810000, [], false, .ownerOnly, [⟨0, 1, .rw⟩, ⟨8, 8, .rw⟩]⟩
  | .PCI_STATUS => ⟨0x1810008, [], false, .anyMaster, [⟨0, 3, .ro⟩, ⟨3, 5, .ro⟩, ⟨8, 1, .ro⟩, ⟨9, 1, .ro⟩, ⟨16, 4, .ro⟩, ⟨32, 32, .ro⟩]⟩
  | .PCI_COUNTS => ⟨0x1810010, [], false, .anyMaster, [⟨0, 16, .ro⟩, ⟨16, 16, .ro⟩, ⟨32, 16, .ro⟩, ⟨48, 16, .ro⟩]⟩
  | .BRL_ID => ⟨0x1840000, [], false, .ownerOnly, [⟨0, 14, .rwl⟩, ⟨14, 1, .ro⟩, ⟨15, 1, .ro⟩, ⟨16, 8, .ro⟩, ⟨24, 8, .ro⟩, ⟨32, 8, .ro⟩, ⟨40, 8, .ro⟩]⟩
  | .BRL_CTL => ⟨0x1840008, [], false, .ownerOnly, [⟨0, 4, .rw⟩, ⟨4, 1, .rw⟩, ⟨16, 16, .rw⟩]⟩
  | .BRL_PORTp_STATUS => ⟨0x1840100, [⟨0x40, 0, 4⟩], false, .anyMaster, [⟨0, 3, .ro⟩, ⟨3, 3, .ro⟩, ⟨6, 3, .ro⟩, ⟨9, 1, .ro⟩, ⟨10, 14, .ro⟩, ⟨24, 2, .ro⟩, ⟨26, 1, .ro⟩, ⟨32, 16, .ro⟩]⟩
  | .BRL_PORTp_DELAY => ⟨0x1840108, [⟨0x40, 0, 4⟩], false, .anyMaster, [⟨0, 32, .ro⟩, ⟨32, 32, .ro⟩]⟩
  | .BRL_PORTp_CABLE => ⟨0x1840110, [⟨0x40, 0, 4⟩], false, .ownerOnly, [⟨0, 24, .ro⟩, ⟨32, 10, .rw⟩]⟩
  | .BRL_PORTp_COUNTS => ⟨0x1840118, [⟨0x40, 0, 4⟩], false, .anyMaster, [⟨0, 16, .ro⟩, ⟨16, 16, .ro⟩, ⟨32, 16, .ro⟩, ⟨48, 16, .ro⟩]⟩
  | .BRL_RACC_ADDR => ⟨0x1840200, [], true, .anyMaster, [⟨3, 37, .rw⟩, ⟨40, 14, .rw⟩]⟩
  | .BRL_RACC_DATA => ⟨0x1840208, [], false, .anyMaster, [⟨0, 64, .rw⟩]⟩
  | .BRL_RACC_STATUS => ⟨0x1840210, [], true, .anyMaster, [⟨0, 3, .ro⟩]⟩
  | .BRL_COUNTS => ⟨0x1840218, [], false, .anyMaster, [⟨0, 32, .ro⟩, ⟨32, 32, .ro⟩]⟩
  | .BRL_MAPk => ⟨0x1841000, [⟨0x8, 0, 128⟩], false, .anyMaster, [⟨0, 14, .ro⟩, ⟨15, 1, .ro⟩]⟩
  | .HC_ID => ⟨0x0, [], false, .anyMaster, [⟨0, 16, .ro⟩, ⟨16, 8, .ro⟩, ⟨32, 8, .ro⟩, ⟨40, 8, .ro⟩]⟩
  | .HC_UID => ⟨0x8, [], false, .anyMaster, [⟨0, 64, .ro⟩]⟩
  | .HC_SELF => ⟨0x10, [], false, .anyMaster, [⟨0, 32, .ro⟩]⟩
  | .HC_STATUS => ⟨0x18, [], false, .anyMaster, [⟨0, 1, .ro⟩, ⟨8, 5, .ro⟩, ⟨32, 32, .ro⟩]⟩
  | .HC_QUEUEc => ⟨0x40, [⟨0x8, 0, 4⟩], false, .anyMaster, [⟨0, 7, .ro⟩, ⟨16, 16, .ro⟩, ⟨32, 32, .ro⟩]⟩
  | .HC_CMD_PORT => ⟨0x1000, [], false, .anyMaster, [⟨0, 64, .wo⟩]⟩
  | .HC_CMD_Wk => ⟨0x1100, [⟨0x8, 1, 15⟩], true, .anyMaster, [⟨0, 64, .rw⟩]⟩
  | .HC_CMD_SUBMIT => ⟨0x1180, [], false, .anyMaster, [⟨0, 64, .wo⟩]⟩
  | .HC_SUBMIT_STATUS => ⟨0x1188, [], true, .anyMaster, [⟨0, 16, .ro⟩, ⟨16, 1, .rw1c⟩, ⟨32, 5, .ro⟩]⟩
  | .HC_REPLY_HDR => ⟨0x2000, [], true, .anyMaster, [⟨0, 16, .ro⟩, ⟨16, 8, .ro⟩, ⟨24, 8, .ro⟩, ⟨32, 16, .ro⟩, ⟨63, 1, .ro⟩]⟩
  | .HC_REPLY_Wk => ⟨0x2000, [⟨0x8, 1, 15⟩], true, .anyMaster, [⟨0, 64, .ro⟩]⟩
  | .HC_REPLY_POP => ⟨0x2080, [], true, .anyMaster, [⟨0, 1, .wo⟩]⟩
  | .HC_REPLY_IN => ⟨0x3000, [], false, .restricted, [⟨0, 64, .wo⟩]⟩
  | .HC_REPLY_STATUS => ⟨0x3080, [], true, .anyMaster, [⟨0, 5, .ro⟩, ⟨16, 16, .ro⟩]⟩
  | .OWN_CLAIM => ⟨0x100000, [], false, .anyMaster, [⟨0, 32, .ro⟩, ⟨32, 1, .ro⟩]⟩
  | .OWN_HANDOVER => ⟨0x100008, [], false, .ownerOnly, [⟨0, 32, .rw⟩, ⟨32, 1, .ro⟩, ⟨33, 1, .wo⟩]⟩
  | .OWN_STATUS => ⟨0x100010, [], false, .anyMaster, [⟨0, 32, .ro⟩, ⟨32, 1, .ro⟩, ⟨33, 1, .ro⟩, ⟨34, 1, .rw1c⟩, ⟨48, 16, .ro⟩]⟩
  | .OWN_LEASE => ⟨0x100018, [], false, .ownerOnly, [⟨0, 16, .rw⟩, ⟨16, 8, .rw⟩]⟩
  | .OWN_CHANGES => ⟨0x100020, [], false, .anyMaster, [⟨0, 32, .ro⟩, ⟨32, 32, .ro⟩]⟩
  | .OWN_VIOLm_COUNT => ⟨0x101000, [⟨0x10, 0, 128⟩], false, .anyMaster, [⟨0, 32, .ro⟩]⟩
  | .OWN_VIOLm_LAST => ⟨0x101008, [⟨0x10, 0, 128⟩], false, .anyMaster, [⟨0, 32, .ro⟩, ⟨32, 3, .ro⟩, ⟨35, 1, .ro⟩, ⟨36, 26, .ro⟩, ⟨63, 1, .ro⟩]⟩
  | .MBX_m_Wk => ⟨0x700000, [⟨0x80, 0, 256⟩, ⟨0x8, 0, 8⟩], false, .restricted, [⟨0, 64, .rw⟩]⟩
  | .MBX_m_STATUS => ⟨0x700040, [⟨0x80, 0, 256⟩], false, .anyMaster, [⟨0, 1, .ro⟩, ⟨1, 1, .rw1c⟩, ⟨32, 32, .ro⟩]⟩
  | .MBX_m_TAKE => ⟨0x700048, [⟨0x80, 0, 256⟩], false, .restricted, [⟨0, 32, .wo⟩]⟩
  | .MBX_m_CFG => ⟨0x700050, [⟨0x80, 0, 256⟩], false, .ownerOnly, [⟨0, 7, .rw⟩, ⟨8, 5, .rw⟩, ⟨15, 1, .rw⟩]⟩
  | .MBX_m_RECV => ⟨0x700058, [⟨0x80, 0, 256⟩], false, .ownerOnly, [⟨0, 32, .rw⟩, ⟨32, 32, .rw⟩]⟩
  | .MBX_m_SENDERS => ⟨0x700060, [⟨0x80, 0, 256⟩], false, .ownerOnly, [⟨0, 32, .rw⟩, ⟨32, 32, .rw⟩]⟩
  | .MBX_m_COUNT => ⟨0x700068, [⟨0x80, 0, 256⟩], false, .anyMaster, [⟨0, 32, .ro⟩, ⟨32, 32, .ro⟩]⟩
  | .MBX_m_OVER => ⟨0x700070, [⟨0x80, 0, 256⟩], false, .anyMaster, [⟨0, 32, .ro⟩, ⟨32, 32, .ro⟩]⟩
  | .MBX_STAGE_Wk => ⟨0x708000, [⟨0x8, 0, 8⟩], true, .anyMaster, [⟨0, 64, .rw⟩]⟩
  | .MBX_SEND => ⟨0x708040, [], false, .anyMaster, [⟨0, 8, .wo⟩]⟩
  | .MBX_DBr => ⟨0x709000, [⟨0x8, 0, 72⟩], false, .restricted, [⟨0, 32, .rw1c⟩, ⟨32, 32, .rw⟩]⟩
  | .MBX_AUDIT => ⟨0x70A000, [], false, .anyMaster, [⟨0, 1, .rw1c⟩, ⟨8, 8, .ro⟩, ⟨32, 32, .ro⟩]⟩
  | .CLK_CTL => ⟨0x300000, [], false, .ownerOnly, [⟨0, 1, .rw⟩, ⟨1, 1, .rw⟩]⟩
  | .CLK_STATUS => ⟨0x300008, [], false, .anyMaster, [⟨0, 1, .ro⟩, ⟨1, 1, .ro⟩, ⟨2, 2, .ro⟩, ⟨4, 1, .ro⟩, ⟨5, 1, .ro⟩, ⟨6, 1, .ro⟩]⟩
  | .CLK_MON => ⟨0x300010, [], false, .anyMaster, [⟨0, 1, .rw1c⟩, ⟨1, 1, .rw1c⟩, ⟨2, 1, .rw1c⟩, ⟨16, 16, .ro⟩, ⟨32, 16, .ro⟩, ⟨48, 16, .ro⟩]⟩
  | .CLK_MON_LAST => ⟨0x300018, [], false, .anyMaster, [⟨0, 64, .ro⟩]⟩
  | .CLK_GATE => ⟨0x300020, [], false, .ownerOnly, [⟨0, 5, .ro⟩, ⟨5, 1, .rw⟩, ⟨6, 1, .rw⟩, ⟨7, 1, .rw⟩, ⟨8, 1, .rw⟩, ⟨9, 1, .rw⟩, ⟨10, 4, .rw⟩, ⟨14, 4, .rw⟩, ⟨18, 1, .rw⟩, ⟨19, 1, .rw⟩, ⟨20, 1, .rw⟩, ⟨32, 32, .rw⟩]⟩
  | .CLK_GATE_CLOSING => ⟨0x300028, [], false, .anyMaster, [⟨0, 64, .ro⟩]⟩
  | .CLK_GATE_RAMP => ⟨0x300030, [], false, .anyMaster, [⟨0, 64, .ro⟩]⟩
  | .CLK_RGN_GATE => ⟨0x300038, [], false, .ownerOnly, [⟨0, 64, .rw⟩]⟩
  | .CLK_RGN_CLOSING => ⟨0x300040, [], false, .anyMaster, [⟨0, 64, .ro⟩]⟩
  | .PWR_CTL => ⟨0x301000, [], false, .ownerOnly, [⟨0, 16, .rw⟩, ⟨16, 4, .rw⟩]⟩
  | .PWR_STATUS => ⟨0x301008, [], false, .anyMaster, [⟨0, 2, .ro⟩, ⟨2, 2, .ro⟩, ⟨4, 4, .ro⟩, ⟨8, 2, .ro⟩, ⟨10, 1, .ro⟩, ⟨11, 1, .ro⟩]⟩
  | .PWR_AVS => ⟨0x301010, [], false, .anyMaster, [⟨0, 16, .ro⟩, ⟨16, 16, .ro⟩, ⟨32, 16, .ro⟩, ⟨48, 1, .rw1c⟩]⟩
  | .PWR_WAKE_CFG => ⟨0x301018, [], false, .ownerOnly, [⟨0, 4, .rw⟩, ⟨4, 4, .rw⟩, ⟨8, 1, .rw⟩, ⟨9, 1, .rw⟩, ⟨16, 8, .rw⟩]⟩
  | .PWR_WAKE_STATUS => ⟨0x301020, [], false, .anyMaster, [⟨0, 4, .rw1c⟩, ⟨4, 1, .rw1c⟩, ⟨5, 1, .rw1c⟩, ⟨8, 4, .ro⟩]⟩
  | .PWR_WAKE_REQ => ⟨0x301028, [], false, .restricted, [⟨0, 1, .wo⟩]⟩
  | .PWR_COUNTS => ⟨0x301030, [], false, .anyMaster, [⟨0, 16, .ro⟩, ⟨16, 16, .ro⟩, ⟨32, 16, .ro⟩, ⟨48, 16, .ro⟩]⟩
  | .FLT_CTL => ⟨0x200000, [], false, .ownerOnly, [⟨0, 1, .wo⟩, ⟨4, 2, .rw⟩]⟩
  | .FLT_STATUS => ⟨0x200008, [], false, .anyMaster, [⟨0, 1, .ro⟩, ⟨1, 1, .ro⟩, ⟨2, 1, .ro⟩, ⟨3, 1, .ro⟩, ⟨4, 1, .ro⟩, ⟨5, 1, .rw1c⟩, ⟨16, 12, .ro⟩, ⟨32, 32, .ro⟩]⟩
  | .FLT_EMBER => ⟨0x200010, [], false, .ownerOnly, [⟨0, 14, .rw⟩, ⟨16, 16, .rw⟩, ⟨32, 1, .rw⟩]⟩
  | .FLT_FIRST_W0 => ⟨0x200018, [], false, .anyMaster, [⟨0, 64, .ro⟩]⟩
  | .FLT_FIRST_W1 => ⟨0x200020, [], false, .anyMaster, [⟨0, 64, .ro⟩]⟩
  | .FLT_COUNT => ⟨0x200028, [], false, .anyMaster, [⟨0, 32, .ro⟩, ⟨32, 32, .ro⟩]⟩
  | .FLT_JOURNAL => ⟨0x200030, [], false, .anyMaster, [⟨0, 32, .ro⟩, ⟨32, 16, .ro⟩, ⟨48, 7, .ro⟩]⟩
  | .FLT_JSEQ => ⟨0x200038, [], false, .anyMaster, [⟨0, 64, .ro⟩]⟩
  | .FLT_RAISE => ⟨0x200040, [], false, .anyMaster, [⟨0, 12, .wo⟩, ⟨32, 32, .wo⟩]⟩
  | .FLT_DMA_AUDIT => ⟨0x200048, [], false, .anyMaster, [⟨0, 32, .rw1c⟩, ⟨32, 32, .ro⟩]⟩
  | .FLT_DRAM_AUDIT => ⟨0x200050, [], false, .anyMaster, [⟨0, 4, .rw1c⟩, ⟨32, 32, .ro⟩]⟩
  | .FLT_DMAe => ⟨0x200100, [⟨0x8, 0, 32⟩], false, .anyMaster, [⟨0, 32, .ro⟩, ⟨32, 32, .ro⟩]⟩
  | .FLT_DRAMc => ⟨0x200200, [⟨0x8, 0, 4⟩], false, .anyMaster, [⟨0, 32, .ro⟩]⟩
  | .FLT_VECf_RAISED => ⟨0x200300, [⟨0x8, 0, 4⟩], false, .anyMaster, [⟨0, 64, .rw1c⟩]⟩
  | .FLT_HISTk_W0 => ⟨0x201000, [⟨0x10, 0, 32⟩], false, .anyMaster, [⟨0, 64, .ro⟩]⟩
  | .FLT_HISTk_W1 => ⟨0x201008, [⟨0x10, 0, 32⟩], false, .anyMaster, [⟨0, 64, .ro⟩]⟩
  | .FLT_SRCs => ⟨0x208000, [⟨0x8, 0, 4096⟩], false, .ownerOnly, [⟨0, 2, .rw⟩, ⟨2, 1, .ro⟩, ⟨3, 1, .ro⟩, ⟨4, 1, .ro⟩, ⟨8, 6, .rw⟩, ⟨15, 1, .rw⟩, ⟨16, 6, .rw⟩, ⟨23, 1, .rw⟩, ⟨24, 6, .rw⟩, ⟨31, 1, .rw⟩, ⟨32, 6, .rw⟩, ⟨39, 1, .rw⟩, ⟨48, 16, .ro⟩]⟩

/-- All register names, in the order of the section files. -/
def allRegs : List RegName :=
  [.TCK_CTL, .TCK_STATUS, .TCK_PERIOD, .TCK_PERIOD_NEXT, .TCK_CHANGE_AT, .TCK_COUNT,
   .DEVICE_TIME, .TCK_SNAP_TIME, .TCK_SNAP_PHASE, .TCK_UNCERT, .TCK_STEER, .TCK_PORTn_ADJ,
   .TCK_LATE_VISITS, .TCK_LATE_NOC, .TCK_LATE_SGE, .TCK_LATE_TICKS, .TCK_LATE_DISPATCH, .TCK_CARRY_MAX,
   .TCK_AUDIT, .TCK_AON, .TCK_AON_CAL, .TCK_SLEEP, .TCK_PTM_HOST, .TCK_PTM_DEV,
   .CTX_COUNT_CREATED, .CTX_COUNT_DESTROYED, .CTX_COUNT_RESIDENT, .CTX_STATE_COUNTs, .CTX_AUDIT, .CTX_AUDIT_TICK,
   .CTX_STATUS, .CTX_QUAR_LAST, .CTX_QUAR_COUNT, .CTX_DOMd_MATCH, .CTX_DOMd_CFG, .CTX_DOMd_CREATED,
   .CTX_DOMd_DESTROYED, .CTX_DOMd_STATUS, .CTX_ENG_CTL, .CTX_ENG_STATUS, .CTX_ENG_AUDIT, .CTX_ENG_VISITS,
   .CTX_ENG_LAPS, .CTX_ENG_FLIGHT, .CTX_ENG_EVENTS, .CTX_CRED_t, .CTX_DOMd_VISITS, .CTX_RINGd_BASE,
   .CTX_RINGd_CFG, .CTX_RINGd_ID, .CTX_RINGd_WR, .CTX_RINGd_RD, .CTX_RINGd_PRODUCED, .CTX_RINGd_LOSS,
   .CTX_RINGd_PENDING, .CHG_MODE, .CHG_SAFE, .CHG_DRV_LEVEL, .CHG_PERIOD, .CHG_STATUS,
   .CHG_VEC_ADDR, .CHG_VEC_DATA, .CHG_RUN, .CHG_FIRST_FAIL, .CHG_STREAM_BASE, .CHG_STREAM_CTL,
   .CHG_STREAM_AT, .CHG_STREAM_STATUS, .CHG_UNDERRUN, .CHG_EVENTS, .CHG_RFX_STATUS, .CHG_RFX_COUNT,
   .CHG_CHi_CFG, .CHG_CHi_THRESH, .CHG_CHi_EDGES, .CHG_CHi_DESKEW, .CHG_CHi_FAILS, .CHG_CHi_LAST,
   .CHG_RFXj_MATCH, .CHG_RFXj_RESP, .CHG_LOOPj, .CHG_STOPk, .CHG_PMU_CFG, .CHG_TDR_CFG,
   .CHG_MEAS_LAST, .CHG_MEAS_COUNT, .CHG_ADC_STATUS, .CHG_CAL_REFS, .CHG_CAL_STATUS, .CHG_CAL_ADDR,
   .CHG_CAL_DATA, .CHG_ST_RESULT, .CHG_RAILk, .SGE_CTL, .SGE_STATUS, .SGE_FRAME,
   .SGE_FRAME_STATUS, .SGE_TRAP, .SGE_COUNT_JOBS, .SGE_COUNT_ERR, .SGE_CYCLES, .SGE_MEM_ADDR,
   .SGE_MEM_DATA, .CLK_FCLKk, .CLK_UOSCk, .NVA_CTL, .NVA_ADDR, .NVA_DATA,
   .NVA_USER_MATCH, .NVA_WP0, .NVA_WP1, .NVA_STATUS, .NVA_WRITES, .SER_CTL,
   .SER_ASSIGN, .SER_DIV, .SER_STATUS, .SER_TX, .SER_RX, .SER_CAN_BIT,
   .SER_CAN_FILTERj, .CFG_CTL, .CFG_STATUS, .CFG_PROGRESS, .CFG_HDR, .CFG_REGIONS,
   .CFG_PUSH, .CFG_FUSE, .CFG_START_TICK, .CFG_LOADS, .CFG_RGN_DRAIN, .CFG_RGNr_CTL,
   .CFG_RGNr_STATUS, .CFG_RGNr_RELEASE, .CFG_RGNr_PORT, .SWP_SIG_CTL, .SWP_SIG_STATUS, .SWP_SIG_LAP,
   .SWP_SIG_COUNT, .SWP_SIG_FAIL, .SWP_SIG_SKIPPED, .SWP_SIG_LAST, .SWP_SIG_LAST_TICK, .SWP_SIG_SRC,
   .SWP_SIG_SRC_STATIC, .BNK_OWNERb, .BNK_STATUSb, .BNK_VIOLb, .BNK_VIOL_LASTb, .BNK_WINb_j,
   .SWP_MEMk_CTL, .SWP_MEMk_LAP, .SWP_MEMk_COUNT, .SWP_MEMk_LAST, .NOC_CTL, .NOC_EPOCH,
   .NOC_RT_SEL, .NOC_RT_DATA, .NOC_AUDIT, .NOC_COUNTS, .NOC_REPLAY, .NOC_EPe_STATUS,
   .NOC_LINKl_STAT, .DRC_CTL, .DRC_STATUS, .DRC_GEOM, .DRC_TIM0, .DRC_TIM1,
   .DRC_TIM2, .DRC_ALERT, .DRC_TERM, .DRC_ALERT_COUNT, .DRC_ERR_COUNT, .DRC_ERR_LAST,
   .DRC_REF_COUNT, .DRC_RD_COUNT, .DRC_OFFLINE, .DRC_SWEEP, .DRC_IMAP, .DRC_DQs_k_l,
   .DRC_DQSs_k_m, .DRC_CAs_l, .LNK_LANEn_CTL, .LNK_LANEn_TXEQ, .LNK_LANEn_RXSTAT, .LNK_LANEn_DFE0,
   .LNK_LANEn_DFE1, .LNK_LANEn_PAT, .LNK_LANEn_UPAT, .LNK_LANEn_ERR, .LNK_LANEn_BITS, .LNK_QUADq,
   .PCI_CTL, .PCI_STATUS, .PCI_COUNTS, .BRL_ID, .BRL_CTL, .BRL_PORTp_STATUS,
   .BRL_PORTp_DELAY, .BRL_PORTp_CABLE, .BRL_PORTp_COUNTS, .BRL_RACC_ADDR, .BRL_RACC_DATA, .BRL_RACC_STATUS,
   .BRL_COUNTS, .BRL_MAPk, .HC_ID, .HC_UID, .HC_SELF, .HC_STATUS,
   .HC_QUEUEc, .HC_CMD_PORT, .HC_CMD_Wk, .HC_CMD_SUBMIT, .HC_SUBMIT_STATUS, .HC_REPLY_HDR,
   .HC_REPLY_Wk, .HC_REPLY_POP, .HC_REPLY_IN, .HC_REPLY_STATUS, .OWN_CLAIM, .OWN_HANDOVER,
   .OWN_STATUS, .OWN_LEASE, .OWN_CHANGES, .OWN_VIOLm_COUNT, .OWN_VIOLm_LAST, .MBX_m_Wk,
   .MBX_m_STATUS, .MBX_m_TAKE, .MBX_m_CFG, .MBX_m_RECV, .MBX_m_SENDERS, .MBX_m_COUNT,
   .MBX_m_OVER, .MBX_STAGE_Wk, .MBX_SEND, .MBX_DBr, .MBX_AUDIT, .CLK_CTL,
   .CLK_STATUS, .CLK_MON, .CLK_MON_LAST, .CLK_GATE, .CLK_GATE_CLOSING, .CLK_GATE_RAMP,
   .CLK_RGN_GATE, .CLK_RGN_CLOSING, .PWR_CTL, .PWR_STATUS, .PWR_AVS, .PWR_WAKE_CFG,
   .PWR_WAKE_STATUS, .PWR_WAKE_REQ, .PWR_COUNTS, .FLT_CTL, .FLT_STATUS, .FLT_EMBER,
   .FLT_FIRST_W0, .FLT_FIRST_W1, .FLT_COUNT, .FLT_JOURNAL, .FLT_JSEQ, .FLT_RAISE,
   .FLT_DMA_AUDIT, .FLT_DRAM_AUDIT, .FLT_DMAe, .FLT_DRAMc, .FLT_VECf_RAISED, .FLT_HISTk_W0,
   .FLT_HISTk_W1, .FLT_SRCs]

/-- Reset values other than zero that are one number for the register: offset, strides and value. -/
def regResets : List (RegName × BitVec 64) :=
  [(.TCK_CTL, 0x1),
   (.TCK_PERIOD, 0x120000000040),
   (.TCK_PERIOD_NEXT, 0x40),
   (.TCK_AON_CAL, 0x960000),
   (.CTX_COUNT_RESIDENT, 0x20000000000),
   (.CTX_ENG_CTL, 0xFFFFF00000001),
   (.CTX_RINGd_CFG, 0xA00),
   (.CHG_DRV_LEVEL, 0x5D2),
   (.CHG_PERIOD, 0x1),
   (.CHG_CHi_THRESH, 0x9B203E1),
   (.CHG_CHi_EDGES, 0x4000000000),
   (.CHG_CHi_LAST, 0x300),
   (.CHG_TDR_CFG, 0x1000003),
   (.CLK_FCLKk, 0x1000000010),
   (.SER_DIV, 0x400),
   (.CFG_CTL, 0x1),
   (.CFG_STATUS, 0x80),
   (.CFG_RGN_DRAIN, 0x10000),
   (.CFG_RGNr_STATUS, 0x18),
   (.SWP_SIG_CTL, 0x3),
   (.SWP_MEMk_CTL, 0x1),
   (.NOC_CTL, 0xC),
   (.DRC_CTL, 0x100000103001),
   (.DRC_GEOM, 0x1000),
   (.DRC_TIM0, 0x1018606734343234),
   (.DRC_TIM1, 0x82003B008201008),
   (.DRC_TIM2, 0x9B30C003D0),
   (.DRC_ALERT, 0x80),
   (.LNK_LANEn_TXEQ, 0x804),
   (.PCI_CTL, 0x1000),
   (.BRL_CTL, 0x3E8000F),
   (.BRL_PORTp_STATUS, 0x1),
   (.BRL_PORTp_CABLE, 0x2BC00000000),
   (.HC_ID, 0x100B08420),
   (.OWN_LEASE, 0x641388),
   (.CLK_CTL, 0x2),
   (.CLK_GATE, 0x1F),
   (.PWR_CTL, 0xA),
   (.PWR_AVS, 0x320),
   (.PWR_WAKE_CFG, 0xA0000),
   (.FLT_CTL, 0x20),
   (.FLT_EMBER, 0x3E803E8)]

end Sys2Proof.Machine
end

