-- ==== Sys2Proof/Machine/Crypto.lean ====
section
/-! DEFINITION. The cryptography of configuration streams (R361 to R363, R424): SHA-384, AES-256-GCM and ECDSA over P-384. The
spec names these standards and does not repeat them: their constants and steps are the model's reading of the standards
(log entry 91). Bytes of a stream word are taken lowest first, and a block's first byte is its most significant. -/

namespace Sys2Proof.Machine

/-- A 64-bit word with its bytes in the other order: a stream word as a standard's big-endian word, and back. -/
def swapBytes (w : Nat) : Nat :=
  (List.range 8).foldl (fun v k => v * 256 + w / 2 ^ (8 * k) % 256) 0

/-! ### SHA-384 -/

/-- The round constants of SHA-384. -/
def shaK : List Nat :=
  [0x428A2F98D728AE22, 0x7137449123EF65CD, 0xB5C0FBCFEC4D3B2F, 0xE9B5DBA58189DBBC, 0x3956C25BF348B538, 0x59F111F1B605D019, 0x923F82A4AF194F9B, 0xAB1C5ED5DA6D8118] ++
  [0xD807AA98A3030242, 0x12835B0145706FBE, 0x243185BE4EE4B28C, 0x550C7DC3D5FFB4E2, 0x72BE5D74F27B896F, 0x80DEB1FE3B1696B1, 0x9BDC06A725C71235, 0xC19BF174CF692694] ++
  [0xE49B69C19EF14AD2, 0xEFBE4786384F25E3, 0xFC19DC68B8CD5B5, 0x240CA1CC77AC9C65, 0x2DE92C6F592B0275, 0x4A7484AA6EA6E483, 0x5CB0A9DCBD41FBD4, 0x76F988DA831153B5] ++
  [0x983E5152EE66DFAB, 0xA831C66D2DB43210, 0xB00327C898FB213F, 0xBF597FC7BEEF0EE4, 0xC6E00BF33DA88FC2, 0xD5A79147930AA725, 0x6CA6351E003826F, 0x142929670A0E6E70] ++
  [0x27B70A8546D22FFC, 0x2E1B21385C26C926, 0x4D2C6DFC5AC42AED, 0x53380D139D95B3DF, 0x650A73548BAF63DE, 0x766A0ABB3C77B2A8, 0x81C2C92E47EDAEE6, 0x92722C851482353B] ++
  [0xA2BFE8A14CF10364, 0xA81A664BBC423001, 0xC24B8B70D0F89791, 0xC76C51A30654BE30, 0xD192E819D6EF5218, 0xD69906245565A910, 0xF40E35855771202A, 0x106AA07032BBD1B8] ++
  [0x19A4C116B8D2D0C8, 0x1E376C085141AB53, 0x2748774CDF8EEB99, 0x34B0BCB5E19B48A8, 0x391C0CB3C5C95A63, 0x4ED8AA4AE3418ACB, 0x5B9CCA4F7763E373, 0x682E6FF3D6B2B8A3] ++
  [0x748F82EE5DEFB2FC, 0x78A5636F43172F60, 0x84C87814A1F0AB72, 0x8CC702081A6439EC, 0x90BEFFFA23631E28, 0xA4506CEBDE82BDE9, 0xBEF9A3F7B2C67915, 0xC67178F2E372532B] ++
  [0xCA273ECEEA26619C, 0xD186B8C721C0C207, 0xEADA7DD6CDE0EB1E, 0xF57D4F7FEE6ED178, 0x6F067AA72176FBA, 0xA637DC5A2C898A6, 0x113F9804BEF90DAE, 0x1B710B35131C471B] ++
  [0x28DB77F523047D84, 0x32CAAB7B40C72493, 0x3C9EBE0A15C9BEBC, 0x431D67C49C100D4C, 0x4CC5D4BECB3E42B6, 0x597F299CFC657E2A, 0x5FCB6FAB3AD6FAEC, 0x6C44198C4A475817]

/-- A running SHA-384 digest: the eight chaining words, the words of the block in hand, and the words taken. -/
structure Sha where
  h : List Nat
  block : List Nat
  taken : Nat
  deriving DecidableEq, Repr

def Sha.start : Sha :=
  { h := [0xCBBB9D5DC1059ED8, 0x629A292A367CD507, 0x9159015A3070DD17, 0x152FECD8F70E5939,
      0x67332667FFC00B31, 0x8EB44A8768581511, 0xDB0C2E0D64F98FA7, 0x47B5481DBEFA4FA4], block := [], taken := 0 }

/-- A 64-bit rotation to the right. -/
def rot64 (x n : Nat) : Nat := x >>> n ||| (x <<< (64 - n)) % 2 ^ 64

/-- One round: the eight working words from a constant and a schedule word. -/
def shaRound (k w : Nat) : List Nat → List Nat
  | [a, b, c, d, e, f, g, h] =>
    let t1 := h + (rot64 e 14 ^^^ rot64 e 18 ^^^ rot64 e 41) + ((e &&& f) ^^^ ((2 ^ 64 - 1 - e) &&& g)) + k + w
    let t2 := (rot64 a 28 ^^^ rot64 a 34 ^^^ rot64 a 39) + ((a &&& b) ^^^ (a &&& c) ^^^ (b &&& c))
    [(t1 + t2) % 2 ^ 64, a, b, c, (d + t1) % 2 ^ 64, e, f, g]
  | l => l

/-- The next schedule word from the sixteen before it. -/
def shaNext (w : List Nat) : Nat :=
  let x := w.getD 14 0
  let y := w.getD 1 0
  ((rot64 x 19 ^^^ rot64 x 61 ^^^ x >>> 6) + w.getD 9 0 + (rot64 y 1 ^^^ rot64 y 8 ^^^ y >>> 7) + w.getD 0 0) % 2 ^ 64

/-- The rounds of a block: constants left, the next sixteen schedule words, the working words. -/
def shaRounds : List Nat → List Nat → List Nat → List Nat
  | [], _, v => v
  | k :: ks, w, v => shaRounds ks (w.tail ++ [shaNext w]) (shaRound k (w.getD 0 0) v)

/-- A block of sixteen words joins the chaining words. -/
def shaBlock (h block : List Nat) : List Nat :=
  (h.zip (shaRounds shaK block h)).map (fun x => (x.1 + x.2) % 2 ^ 64)

/-- One more big-endian word. -/
def Sha.push (s : Sha) (w : Nat) : Sha :=
  let b := s.block ++ [w]
  if b.length = 16 then { h := shaBlock s.h b, block := [], taken := s.taken + 1 } else { s with block := b, taken := s.taken + 1 }

/-- More words of a stream. -/
def Sha.feed (s : Sha) (ws : List Word) : Sha := ws.foldl (fun s w => s.push (swapBytes w.toNat)) s

/-- The six words of the digest, as the standard has them: padding, the length in bits, the first six chaining words. -/
def Sha.finish (s : Sha) : List Nat :=
  let zeros := (16 - (s.taken + 3) % 16) % 16
  (([0x8000000000000000] ++ List.replicate zeros 0 ++ [0, 64 * s.taken]).foldl Sha.push s).h.take 6

/-- A digest as the words of its 48 bytes, lowest byte first. -/
def digestWords (d : List Nat) : List Word := d.map (fun x => BitVec.ofNat 64 (swapBytes x))

/-- The SHA-384 digest of words of a stream. -/
def sha384 (ws : List Word) : List Word := digestWords (Sha.start.feed ws).finish

/-! ### AES-256 -/

/-- The substitution box: entry `b` in bits 8 b + 7 to 8 b. -/
def aesBox : Nat :=
  0x16bb54b00f2d99416842e6bf0d89a18cdf2855cee9871e9b948ed9691198f8e19e1dc186b95735610ef6034866b53e708a8bbd4b1f74dde8c6b4a61c2e2578ba08ae7a65eaf4566ca94ed58d6d37c8e779e4959162acd3c25c2406490a3a32e0db0b5ede14b8ee4688902a22dc4f816073195d643d7ea7c41744975fec130ccdd2f3ff1021dab6bcf5389d928f40a351a89f3c507f02f94585334d43fbaaefd0cf584c4a39becb6a5bb1fc20ed00d153842fe329b3d63b52a05a6e1b1a2c830975b227ebe28012079a059618c323c7041531d871f1e5a534ccf73f362693fdb7c072a49cafa2d4adf04759fa7dc982ca76abd7fe2b670130c56f6bf27b777c63

/-- The substitution of a byte. -/
def aesSub (b : Nat) : Nat := (aesBox >>> (8 * b)) % 256

/-- Byte `r` of a 32-bit word, byte 0 the most significant; and a word of four bytes. -/
def wordByte (w r : Nat) : Nat := w / 2 ^ (24 - 8 * r) % 256
def byteWord (a b c d : Nat) : Nat := a * 2 ^ 24 + b * 2 ^ 16 + c * 2 ^ 8 + d

/-- The substitution of a word. -/
def aesSubWord (w : Nat) : Nat :=
  byteWord (aesSub (wordByte w 0)) (aesSub (wordByte w 1)) (aesSub (wordByte w 2)) (aesSub (wordByte w 3))

/-- Multiplication by x of a byte. -/
def aesDouble (b : Nat) : Nat := if b < 128 then 2 * b else (2 * b - 256) ^^^ 0x1B

/-- The key schedule, latest word first: `n` further words, the next one being number `i`. -/
def aesExpand : Nat → Nat → List Nat → List Nat
  | 0, _, l => l
  | n + 1, i, l =>
    let p := l.getD 0 0
    let t := if i % 8 = 0 then aesSubWord ((p * 256) % 2 ^ 32 + p / 2 ^ 24) ^^^ 2 ^ (i / 8 - 1) * 2 ^ 24
      else if i % 8 = 4 then aesSubWord p else p
    aesExpand n (i + 1) ((l.getD 7 0 ^^^ t) :: l)

/-- The sixty words of the key schedule of a key of eight words. -/
def aesKeys (key : List Nat) : List Nat := (aesExpand 52 8 key.reverse).reverse

/-- A column after the substitution and the shift of rows. -/
def aesColumn (s : List Nat) (j : Nat) : Nat × Nat × Nat × Nat :=
  let at_ (r : Nat) : Nat := aesSub (wordByte (s.getD ((j + r) % 4) 0) r)
  (at_ 0, at_ 1, at_ 2, at_ 3)

/-- The mix of a column. -/
def aesMix (x : Nat × Nat × Nat × Nat) : Nat :=
  let (a, b, c, d) := x
  let t := a ^^^ b ^^^ c ^^^ d
  byteWord (a ^^^ t ^^^ aesDouble (a ^^^ b)) (b ^^^ t ^^^ aesDouble (b ^^^ c)) (c ^^^ t ^^^ aesDouble (c ^^^ d))
    (d ^^^ t ^^^ aesDouble (d ^^^ a))

/-- The rounds: keys left, and the four columns. -/
def aesRounds : Nat → List Nat → List Nat → List Nat
  | 0, _, s => s
  | n + 1, ks, s =>
    let cols := (List.range 4).map (aesColumn s)
    let v := if n = 0 then cols.map (fun (a, b, c, d) => byteWord a b c d) else cols.map aesMix
    aesRounds n (ks.drop 4) ((v.zip ks).map (fun x => x.1 ^^^ x.2))

/-- AES-256 of a 128-bit block under a key schedule. -/
def aesBlock (keys : List Nat) (x : Nat) : Nat :=
  let s := (List.range 4).map (fun j => x / 2 ^ (96 - 32 * j) % 2 ^ 32 ^^^ keys.getD j 0)
  (aesRounds 14 (keys.drop 4) s).foldl (fun v w => v * 2 ^ 32 + w) 0

/-- The key schedule of a fused key: four stream words, lowest byte first. -/
def fusedKeys (key : List Word) : List Nat :=
  aesKeys (key.flatMap (fun w => let v := swapBytes w.toNat; [v / 2 ^ 32, v % 2 ^ 32]))

/-! ### GCM -/

/-- The product in GCM's field: `n` bits of `x` are left, `v` is the other factor after as many doublings. -/
def gcmTimes : Nat → Nat → Nat → Nat → Nat
  | 0, _, _, z => z
  | n + 1, x, v, z =>
    gcmTimes n x (if v % 2 = 1 then v / 2 ^^^ 0xE1 <<< 120 else v / 2) (if x.testBit n then z ^^^ v else z)

/-- One more block of a running GHASH. -/
def ghash (key acc block : Nat) : Nat := gcmTimes 128 (acc ^^^ block) key 0

/-- The 128-bit blocks of stream words. -/
def blocksOf : List Word → List Nat
  | a :: b :: r => (swapBytes a.toNat * 2 ^ 64 + swapBytes b.toNat) :: blocksOf r
  | _ => []

/-- The 96-bit initialisation vector of a header's words. -/
def headerIv (header : List Word) : Nat :=
  swapBytes (header.getD 4 0).toNat * 2 ^ 32 + swapBytes (header.getD 5 0).toNat / 2 ^ 32

/-- Words of a stream under GCM's counter mode (R424): block `i` of them is combined with counter `c` + `i`. -/
def gcmWords (keys : List Nat) (iv : Nat) : Nat → List Word → List Word
  | c, a :: b :: r =>
    let k := aesBlock keys (iv * 2 ^ 32 + c % 2 ^ 32)
    (a ^^^ BitVec.ofNat 64 (swapBytes (k / 2 ^ 64))) :: (b ^^^ BitVec.ofNat 64 (swapBytes (k % 2 ^ 64))) :: gcmWords keys iv (c + 1) r
  | _, r => r

/-- Record `k` of an encrypted stream in clear (R424). -/
def clearRecord (key : List Word) (iv k : Nat) (ws : List Word) : List Word := gcmWords (fusedKeys key) iv (2 + 33 * k) ws

/-- The tag of a stream (R361): its GHASH over header and records, `n` bytes of records, and the first counter. -/
def gcmTag (keys : List Nat) (iv acc n : Nat) : Nat :=
  ghash (aesBlock keys 0) acc (1024 * 2 ^ 64 + 8 * n) ^^^ aesBlock keys (iv * 2 ^ 32 + 1)

/-! ### ECDSA over P-384 -/

/-- The curve: its prime, its coefficient b, the order of its base point and that point. -/
def curveP : Nat := 2 ^ 384 - 2 ^ 128 - 2 ^ 96 + 2 ^ 32 - 1
def curveB : Nat := 0xB3312FA7E23EE7E4988E056BE3F82D19181D9C6EFE8141120314088F5013875AC656398D8A2ED19D2A85C8EDD3EC2AEF
def curveN : Nat := 0xFFFFFFFFFFFFFFFFFFFFFFFFFFFFFFFFFFFFFFFFFFFFFFFFC7634D81F4372DDF581A0DB248B0A77AECEC196ACCC52973
def curveG : Nat × Nat :=
  (0xAA87CA22BE8B05378EB1C71EF320AD746E1D3B628BA79B9859F741E082542A385502F25DBF55296C3A545E3872760AB7,
   0x3617DE4A96262C6F5D9E98BF9292DC29F8F41DBD289A147CE9DA3113B5F0B8C00A60B1CE1D7E819D7A431D7C90EA0E5F)

/-- `x` to the power `e` modulo `m`; `n` bits of `e` are left. -/
def powMod (x e m : Nat) : Nat → Nat → Nat
  | 0, r => r
  | n + 1, r => powMod x e m n (if e.testBit n then r * r % m * x % m else r * r % m)

/-- The inverse modulo a prime of 384 bits. -/
def invMod (x m : Nat) : Nat := powMod x (m - 2) m 384 1

/-- A point in Jacobian coordinates; z = 0 is the point at infinity. -/
structure CurvePoint where
  x : Nat
  y : Nat
  z : Nat
  deriving DecidableEq, Repr

/-- Differences modulo the prime. -/
def subP (a b : Nat) : Nat := (a + (curveP - b % curveP)) % curveP

/-- A doubling. -/
def CurvePoint.double (p : CurvePoint) : CurvePoint :=
  let zz := p.z * p.z % curveP
  let yy := p.y * p.y % curveP
  let s := 4 * p.x * yy % curveP
  let m := 3 * (subP p.x zz) * (p.x + zz) % curveP
  let x := subP (m * m) (2 * s)
  { x := x, y := subP (m * subP s x) (8 * yy * yy), z := 2 * p.y * p.z % curveP }

/-- A sum. -/
def CurvePoint.add (p q : CurvePoint) : CurvePoint :=
  if p.z = 0 then q
  else if q.z = 0 then p
  else
    let a := p.z * p.z % curveP
    let b := q.z * q.z % curveP
    let u := p.x * b % curveP
    let s := p.y * b * q.z % curveP
    let h := subP (q.x * a) u
    let r := subP (q.y * a * p.z) s
    if h = 0 then (if r = 0 then p.double else ⟨0, 1, 0⟩)
    else
      let hh := h * h % curveP
      let v := u * hh % curveP
      let x := subP (r * r) (hh * h + 2 * v)
      { x := x, y := subP (r * subP v x) (s * (hh * h % curveP)), z := p.z * q.z * h % curveP }

/-- `k` times a point; `n` bits of `k` are left. -/
def CurvePoint.times (p : CurvePoint) (k : Nat) : Nat → CurvePoint → CurvePoint
  | 0, r => r
  | n + 1, r => CurvePoint.times p k n (if k.testBit n then r.double.add p else r.double)

/-- The signature (r, s) of a digest under the public key (qx, qy) verifies: the key is a point of the curve, r and s are in
range, and the first coordinate of (z / s) G + (r / s) Q is r modulo the order (R362). -/
def ecdsaVerifies (digest : List Nat) (qx qy r s : Nat) : Bool :=
  let z := digest.foldl (fun v w => v * 2 ^ 64 + w) 0
  let w := invMod s curveN
  let g := CurvePoint.times ⟨curveG.1, curveG.2, 1⟩ (z * w % curveN) 384 ⟨0, 1, 0⟩
  let q := CurvePoint.times ⟨qx, qy, 1⟩ (r * w % curveN) 384 ⟨0, 1, 0⟩
  let t := g.add q
  decide (qx < curveP ∧ qy < curveP ∧ qy * qy % curveP = (qx * qx % curveP * qx + subP curveB (3 * qx)) % curveP)
    && decide (0 < r ∧ r < curveN ∧ 0 < s ∧ s < curveN) && decide (t.z ≠ 0)
    && decide (t.x * powMod t.z (curveP - 3) curveP 384 1 % curveP % curveN = r)

/-- A 48-byte little-endian integer of six stream words (R356). -/
def wideValue (ws : List Word) : Nat := ws.foldr (fun w v => w.toNat + 2 ^ 64 * v) 0

end Sys2Proof.Machine
end

