-- ==== Sys2Proof/Machine/State.lean ====
section
/-! DEFINITION. The state of the block as plain data: the register file, what no register holds, grouped by the unit
that holds it, the queue of waiting commands and the list of everything sent; the fault and refusal reasons. -/

namespace Sys2Proof.Machine

/-- A protected word as it is stored (R430, R435): data, check bits (CP above RP) and the two-bit poison mark. -/
structure PWord where
  data : Word
  chk : BitVec 16
  mark : BitVec 2
  deriving DecidableEq, Repr

/-- A TICK block's arrival as a port stamps it (R565): the low eight bits of the sender's count, the stamp in ps after
this device's boundary in force, and that boundary's TCK_COUNT and number. -/
structure TickStamp where
  low8 : Nat
  sincePs : Int
  count : Word
  ticks : Nat
  deriving DecidableEq, Repr

/-- What a port's markers last showed (R55). -/
structure PortMarkers where
  hops : Nat
  source : Nat
  deriving DecidableEq, Repr

/-- The tick and time state that no register holds (chapter 02). -/
structure TckState where
  /-- root cycles since the last tick boundary (R32) -/
  phase : Nat
  /-- the length of the present tick in root cycles, where an alignment load has set it (R57) -/
  span : Option Nat
  /-- boundaries passed since the root first locked: the number pending changes are filed under (R44) -/
  ticks : Nat
  /-- the tick number a period change is armed for (R45) -/
  armedAt : Word
  /-- an upstream source is followed (R52, R53) -/
  following : Bool
  /-- the device ID of the source whose markers the upstream port last showed (R54, R55) -/
  source : Nat
  /-- the next upstream marker makes the alignment load (R57) -/
  loadDue : Bool
  /-- holdover has expired: the tick runs free until TIME_ALIGN (R62) -/
  lost : Bool
  /-- consecutive upstream markers within 0.5 ns (R59) -/
  good : Nat
  /-- markers of the present tick that arrived upstream -/
  heard : Bool
  ports : List (Option PortMarkers)
  stamps : List (List TickStamp)
  /-- a late VC0 packet was ejected, or work was carried, in the present tick (R39) -/
  late : Bool
  /-- half-captures of R33: (slot, DEVICE_TIME?, captured high half) -/
  captured : List (Nat × Bool × Word)
  /-- TIME_ALIGN in progress -/
  aligning : Option Packet
  /-- PTM exchanges in progress, oldest first: the function that makes each, and the command that asked for it, or none
  for an automatic one (R66) -/
  ptm : List (Nat × Option Packet)
  /-- an exchange has given a measurement since the root last locked (R65) -/
  ptmValid : Bool
  /-- growth of TCK_UNCERT below 1 ns, in 1/1,920 ns (R67) -/
  uncertRem : Nat
  /-- the part of a ms that has passed since the last, in root cycles (log entry 162) -/
  msRem : Nat
  /-- the part of an always-on period that has passed, in 1/1,024 root cycle (R68) -/
  aonRem : Nat
  /-- values the always-on domain saved when the root stopped (R69): aon, phase, count, time, N -/
  saved : Option (Nat × Nat × Word × Word × Nat)
  deriving DecidableEq, Repr

def TckState.reset : TckState :=
  { phase := 0, span := none, ticks := 0, armedAt := 0, following := false, source := 0, loadDue := true, lost := false, good := 0, heard := false,
    ports := [none, none, none, none], stamps := [[], [], [], []], late := false, captured := [], aligning := none,
    ptm := [], ptmValid := false, uncertRem := 0, msRem := 0, aonRem := 0, saved := none }

/-- An entry of the due calendar: a context on a list of its domain (R125). -/
structure Filed where
  id : Nat
  dom : Nat
  deriving DecidableEq, Repr

/-- A flight entry (R143): the context ID three times, domain, target, attempt, tick of the attempt, tick of the visit,
pending bits, and the result lane its responses return to. -/
structure Flight where
  id0 : Nat
  id1 : Nat
  id2 : Nat
  dom : Nat
  target : Nat
  attempt : Nat
  tick : Word
  vtick : Word
  pause : Bool
  destroy : Bool
  lane : Nat
  deriving DecidableEq, Repr

/-- A result record that awaits its ring write (R153 to R158). -/
structure RingWrite where
  ring : Nat
  pos : Nat
  lane : Nat
  done : Option Status
  deriving DecidableEq, Repr

/-- The context engine's state that neither a register nor a protected word holds (chapters 03 and 04). -/
structure CtxState where
  /-- the three copies of each context's owner tag (R116); three zeros where unlisted -/
  tags : List (Nat × Nat × Nat × Nat)
  /-- slot lists: (slot, entry), each list in filing order (R125) -/
  slots : List (Nat × Filed)
  /-- carry lists of the next tick: entries carried from the tick's queue, in order (R131) -/
  carried : List Filed
  /-- entries filed on a carry list during the tick, in order (R131) -/
  newCarry : List Filed
  /-- entries admitted and not yet visited, in admission order (R130) -/
  admitted : List Filed
  /-- entries admitted before a rebuild that cleared their FILED bits, to be visited before the others (R161, R737) -/
  loose : List Filed
  /-- index of the next visit of the tick (R130) -/
  visitIndex : Nat
  /-- admitted and carried entries of the present tick, by domain -/
  admittedCount : List Nat
  carriedCount : List Nat
  /-- occupied flight entries, by index -/
  flight : List (Nat × Flight)
  /-- the generation of each flight entry, by index; zero where unlisted -/
  gens : List (Nat × Nat)
  /-- result records accepted and not yet completed, in acceptance order within each ring -/
  writes : List RingWrite
  deriving DecidableEq, Repr

def CtxState.reset : CtxState :=
  { tags := [], slots := [], carried := [], newCarry := [], admitted := [], loose := [], visitIndex := 0,
    admittedCount := List.replicate 16 0, carriedCount := List.replicate 16 0, flight := [], gens := [], writes := [] }

/-- Who holds or waits for a channel (R192, R193): an action slot of the channel's own group, or of another group. -/
structure Claimer where
  group : Nat
  slot : Nat
  deriving DecidableEq, Repr

/-- The functions of a parametric unit (R221). -/
inductive PmuFn
  | off | forceV | forceI | measureV
  deriving DecidableEq, Repr

/-- A channel of a group: driver state that vectors, actions and modes leave (0 off, 1 low, 2 high, 3 safe state), last
driven level (R174), impedance and edges in effect (R168, R181), deskew in effect, held reflex response (level, and
whether it lasts until the next setting drive edge), parametric unit, keeper level (R217) and holder of the claim. -/
structure Chan where
  base : Nat
  lastHigh : Bool
  imp : Bool
  drive : Nat
  strobe : Nat
  deskew : Nat
  hold : Option (Bool × Bool)
  unit : PmuFn
  keeper : Bool
  holder : Option Claimer
  /-- a calibration or self-test step has switched the channel to the calibration bus (R244) -/
  onBus : Bool
  /-- the channel's compliance and overrange flags in the action that holds it (R223, R224) -/
  compliance : Bool
  overrange : Bool
  deriving DecidableEq, Repr

def Chan.reset : Chan :=
  { base := 3, lastHigh := false, imp := false, drive := 0, strobe := 64, deskew := 0, hold := none, unit := .off,
    keeper := false, holder := none, onBus := false,
    compliance := false, overrange := false }

/-- The phase of an action in a group (R192, R196, R226, R234 to R238). -/
inductive ActPhase
  /-- claiming: the channels still to claim, in ascending order -/
  | claiming (need : List Nat)
  /-- every channel granted, not yet started -/
  | claimed
  /-- connected; the settle runs -/
  | settling
  /-- held quantities wait for or are in conversion -/
  | converting
  /-- the capacitance ramp runs; t1 once stamped -/
  | ramping (t1 : Option Nat)
  /-- post-ramp discharge -/
  | discharging
  /-- compute: the answer follows -/
  | computing
  /-- the group's TDR sequencer works for it -/
  | tdr
  /-- a VECTOR_RUN that plays -/
  | playing
  deriving DecidableEq, Repr

/-- A converted quantity: sum of the codes, number of conversions and gain. -/
structure Measured where
  sum : Int
  count : Nat
  gain16 : Bool
  deriving DecidableEq, Repr

/-- An action in a group's queue (R189): its slot, arrival number, the action, its phase, the channels it holds, flags,
converted quantities by index, and the ramp time in sixteenths of a cycle (none: limit reached). -/
structure GAct where
  slot : Nat
  serial : Nat
  act : Action
  phase : ActPhase
  held : List Nat
  badParam : Bool
  results : List (Nat × Measured)
  quantities : Nat
  ramp : Option Nat
  deriving DecidableEq, Repr

/-- A held quantity that waits for a group's ADC (R227): channel cycle of its hold, who asked, its order among those of
one cycle, its index in the action, whether it is a voltage. -/
structure Quantity where
  cycle : Nat
  who : Claimer
  order : Nat
  idx : Nat
  voltage : Bool
  deriving DecidableEq, Repr

/-- The quantity in conversion (R225, R228): codes summed so far, gain, and whether the gain is settled. -/
structure Conversion where
  q : Quantity
  sum : Int
  count : Nat
  gain16 : Bool
  settled : Bool
  deriving DecidableEq, Repr

/-- A VECTOR_RUN in play (R186, R187, R196): its slot, start vector, position, pass number, passes in all, remaining
counts of the loop entries, failing strobes, and its end status once the last vector has been played. -/
structure VecRun where
  slot : Nat
  start : Nat
  pos : Nat
  pass : Nat
  passes : Nat
  rem : List Nat
  fails : Nat
  done : Option Status
  deriving DecidableEq, Repr

/-- A reflex response on its way to the balls (R209, R211): the RESP word of its entry and the channel cycle of its arrival,
counted from the vector boundary of the vector that plays next. -/
structure Response where
  resp : Word
  cycle : Nat
  deriving DecidableEq, Repr

/-- A stream's state (R198 to R201): its number, vectors buffered, vectors asked for and received, whether it plays,
whether CHG_STREAM_AT was not later than the tick of GO, whether STOP was written, and the first boundary whose set of
changes was still open at GO (R44). -/
structure StreamState where
  number : Nat
  buffer : List Word
  asked : Nat
  got : Nat
  playing : Bool
  atOnce : Bool
  stop : Bool
  due : Nat
  deriving DecidableEq, Repr

/-- The TDR sequencer (R236 to R238): the action's slot; whether the low tick is over; END; the search bounds; whether
the first decision (the strobe at hi) is made; the strobe of the decision in hand; shots made and hits of it. -/
structure TdrState where
  slot : Nat
  low : Bool
  started : Bool
  lo : Nat
  hi : Nat
  first : Bool
  strobe : Nat
  shots : Nat
  hits : Nat
  clamped : Bool
  deriving DecidableEq, Repr

/-- What a calibration or self-test task does in its group (R250 to R254). -/
inductive CalWork
  | items (mask : Nat) | load (source : Nat) | tests (mask : Nat) | reference
  deriving DecidableEq, Repr

/-- A task of a group: the command it belongs to, its work, coefficients staged so far, tests failed and channels that
failed so far, and the tests still to end in the vector memory. -/
structure CalTask where
  cmd : Packet
  work : CalWork
  staged : List (Nat × Word)
  failTests : Nat
  failChans : Nat
  vmem : Nat
  stepsDone : Bool
  deriving DecidableEq, Repr

/-- A channel group's state that no register holds. -/
structure Group where
  chans : List Chan
  /-- REGION and RELOAD_ACT in effect (R214) -/
  region : Nat
  reloadAct : Bool
  /-- the boundary at which the pending CHG_MODE values take effect (R214) -/
  modeDue : Nat
  /-- the CHG_MODE word frozen for the coming boundary, once a later write has replaced the pending values (R44) -/
  modeFrozen : Option Word
  /-- P in effect, and a written period with the boundary it waits for (R178) -/
  period : Nat
  pendPeriod : Option (Nat × Nat)
  /-- the period frozen for the coming boundary, once a later write has replaced the pending one (R44) -/
  periodFrozen : Option Nat
  /-- channels with edges, deskew or impedance written and not yet in effect (R181) -/
  pendEdges : List Nat
  /-- reflex entries in effect: MATCH and RESP (R206) -/
  rfx : List (Word × Word)
  /-- responses that have fired and not yet reached the balls, earlier ones first (R211) -/
  responses : List Response
  /-- word 3 of the coefficient image in effect at the pair's drivers, on the even group (R181, R245) -/
  levelCal : Word
  /-- R205 applies to the group -/
  closed : Bool
  /-- the region has been released and no vector played since (R401) -/
  firstAfter : Bool
  /-- a safe state is applied outside SAFE mode (R200, R205) -/
  safeHeld : Bool
  acts : List GAct
  serial : Nat
  /-- claims that wait, in the order they reached the group: channel position and claimer -/
  waiters : List (Nat × Claimer)
  run : Option VecRun
  stream : Option StreamState
  streams : Nat
  /-- the crossing buffer (R203) -/
  crossing : List Word
  adcQueue : List Quantity
  adc : Option Conversion
  /-- slots of TDR actions whose claims are complete, in order (R236) -/
  tdrQueue : List Nat
  tdr : Option TdrState
  /-- the coefficient image (R239): words other than zero by number -/
  image : List (Nat × Word)
  tasks : List CalTask
  /-- the channels that the step in hand uses (R242, R243) -/
  step : Option (List Nat)
  /-- VMEM_PATTERN runs (R255) -/
  pattern : Bool
  deriving DecidableEq, Repr

def Group.reset : Group :=
  { chans := List.replicate 16 Chan.reset, region := 0, reloadAct := false, modeDue := 0, modeFrozen := none, period := 1, pendPeriod := none, periodFrozen := none,
    pendEdges := [], rfx := List.replicate 16 (0, 0), responses := [], levelCal := 0, closed := false, firstAfter := false, safeHeld := false, acts := [], serial := 0,
    waiters := [], run := none, stream := none, streams := 0, crossing := [], adcQueue := [], adc := none, tdrQueue := [],
    tdr := none, image := [], tasks := [], step := none, pattern := false }

/-- A calibration or self-test command in execution (R250): its packet, its groups still incomplete, groups done, groups
failed with their position and item, the reference correction found, and the tick at which its timeout has passed. -/
structure CalCmd where
  pkt : Packet
  left : List Nat
  doneCount : Nat
  notDone : List Nat
  failed : Option (Nat × Nat × Nat)
  ppm : Int
  deadline : Nat
  deriving DecidableEq, Repr

/-- The channel groups (chapters 05 and 06). -/
structure ChgState where
  /-- groups by number; `Group.reset` where unlisted -/
  groups : List (Nat × Group)
  /-- groups for which the present tick is a calibration window (R241) -/
  windows : List Nat
  cmds : List CalCmd
  /-- master reference trims of the channel dies, in ppm (R253) -/
  trims : List Int
  /-- consecutive readings outside the window, by 4 × die + quantity (R257) -/
  streaks : List (Nat × Nat)
  deriving DecidableEq, Repr

def ChgState.reset : ChgState := { groups := [], windows := [], cmds := [], trims := [0, 0, 0, 0], streaks := [] }

/-- An active loop of a signal engine (R282): first instruction, END, passes left. -/
structure SgeLoop where
  start : Nat
  stop : Nat
  count : Nat
  deriving DecidableEq, Repr

/-- A register bank of a signal engine (R265 to R268), its loop and return stacks, its PC, and what the instruction just
before loaded and wrote (R280). -/
structure SgeBank where
  d : List (BitVec 24)
  ac : List (BitVec 56)
  pt : List (BitVec 14)
  md : List (BitVec 16)
  bs : List (BitVec 14)
  ln : List (BitVec 15)
  sr : BitVec 12
  tpc : BitVec 13
  taddr : BitVec 15
  dstatus : Nat
  dmoved : Nat
  /-- innermost first -/
  loops : List SgeLoop
  /-- last pushed first -/
  rets : List Nat
  pc : Nat
  loaded : List Nat
  acWritten : List Nat
  deriving DecidableEq, Repr

def SgeBank.reset (sr : BitVec 12) : SgeBank :=
  { d := List.replicate 16 0, ac := List.replicate 8 0, pt := List.replicate 8 0, md := List.replicate 8 0,
    bs := List.replicate 8 0, ln := List.replicate 8 0, sr := sr, tpc := 0, taddr := 0, dstatus := 0, dmoved := 0,
    loops := [], rets := [], pc := 0, loaded := [], acWritten := [] }

/-- A DMA transfer in flight (R286 to R288): bank that started it, NoC byte address of its next word, words left, local
address of the next word, bus, direction, window of PT0 when it wraps, words in the request that awaits its response,
and whether a bad local word follows them. -/
structure SgeDma where
  frame : Bool
  addr : Nat
  left : Nat
  loc : Nat
  busY : Bool
  out : Bool
  window : Option (Nat × Nat)
  chunk : Nat
  bad : Bool
  deriving DecidableEq, Repr

/-- The repeat cache (R284): the body it holds, whether its first pass is complete, and the words captured. -/
structure SgeCache where
  start : Nat
  stop : Nat
  ready : Bool
  words : List (Nat × BitVec 32)
  deriving DecidableEq, Repr

/-- A signal engine's state that no register holds. -/
structure Sge where
  action : SgeBank
  frame : SgeBank
  /-- actions queued, the running one first -/
  queue : List Action
  jobRunning : Bool
  frameRunning : Bool
  /-- cycles of the running action job -/
  used : Nat
  /-- SGE_CYCLES.BUSY at the tick pulses of the running frame job and of those that wait, oldest first (R293) -/
  pulses : List Nat
  dma : Option SgeDma
  cache : Option SgeCache
  deriving DecidableEq, Repr

def Sge.reset : Sge :=
  { action := SgeBank.reset 0, frame := SgeBank.reset 0x800, queue := [], jobRunning := false, frameRunning := false,
    used := 0, pulses := [], dma := none, cache := none }

/-- An access that waits for the non-volatile array (R337, R341): master, slot, word address, the half read, and the word
written. -/
structure NvaAccess where
  ident : Ident
  slot : Nat
  addr : Nat
  half : Half
  data : Option Word
  deriving DecidableEq, Repr

/-- The array's state that no register holds: accesses that wait, oldest first (a write at the head is in progress), and
the slot served last (R337). -/
structure NvaState where
  waiting : List NvaAccess
  lastSlot : Nat
  deriving DecidableEq, Repr

/-- A serial port's state (R345 to R353): FIFOs, the CAN frame in assembly, queued and received CAN frames as lists of
words, halves of the first received frame already read, and a mode change that waits. -/
structure SerPort where
  tx : List SerEntry
  rx : List SerEntry
  build : List (BitVec 32)
  canTx : List (List Word)
  canRx : List (List Word)
  readHalves : Nat
  pendMode : Option Nat
  /-- the last entry was sent with HOLD: CS stays low (R350), or no stop has followed (R351) -/
  held : Bool
  /-- the last data bit that the port sent as SPI controller or target -/
  lastBit : Bool
  deriving DecidableEq, Repr

def SerPort.reset : SerPort :=
  { tx := [], rx := [], build := [], canTx := [], canRx := [], readHalves := 0, pendMode := none, held := false, lastBit := false }

/-- The level of a serial port's signal (R344): high impedance with the pull-up, an input, high impedance, driven, or an open
drain that is not pulled low. -/
inductive SerPin
  | pullUp | input | float | low | high | released
  deriving DecidableEq, Repr

/-- CAN bit timing (R352): the quantum in 2.5 ns, the quanta before and after the sample point, the jump width. -/
structure CanTiming where
  quantum : Nat
  seg1 : Nat
  seg2 : Nat
  jump : Nat
  deriving DecidableEq, Repr

/-- A fabric port (R328 to R332, R404): actions and target requests delivered and not answered (source endpoint, tag),
tags of its own requests outstanding and of abandoned ones, requests whose timeout has passed, and actions (tag) and
requests answered FENCED at a drain limit. -/
structure FabPort where
  calls : List (Nat × Nat)
  reqs : List (Nat × Nat)
  outs : List Nat
  reserved : List Nat
  late : List (Nat × Nat)
  forcedCalls : List Nat
  forcedReqs : List (Nat × Nat)
  deriving DecidableEq, Repr

def FabPort.reset : FabPort :=
  { calls := [], reqs := [], outs := [], reserved := [], late := [], forcedCalls := [], forcedReqs := [] }

/-- The fields of a stream header that a load keeps (R356). -/
structure LoadHeader where
  flags : Nat
  key : Nat
  rollback : Nat
  expect : Nat
  mask : Nat
  count : Nat
  length : Nat
  deriving DecidableEq, Repr

/-- A load, or a REGION_CLEAR, in progress (R364 to R378, R405 to R412): its command (none for a boot load), source,
whether a partial stream is wanted, address, golden attempt, whether it is a clear, fail code and frames of the failed
load before a golden attempt, header, targets (64: static border) and those whose clock lines are gated, records that
wait for the gating, words of a PUSH load not taken yet, ADDR of the last record, records taken, required frames seen,
per target its first record and its number of FKIND 1 records, the running digest, the running GHASH and the initialisation
vector (R361, R362), whether the trailer has come, then the digest and the fail code of steps 10 and 11 (none: they pass),
and the boundary of the release of an authenticated partial load. -/
structure Load where
  cmd : Option Packet
  source : Nat
  part : Bool
  addr : Nat
  golden : Bool
  clear : Bool
  failCode : Nat
  failFrames : Nat
  header : Option LoadHeader
  targets : List Nat
  gated : List Nat
  closing : Bool
  staged : List (List Word)
  push : List Word
  lastAddr : Option Nat
  received : Nat
  required : Nat
  firsts : List (Nat × Nat × Nat)
  sha : Sha
  ghash : Nat
  iv : Nat
  trailer : Bool
  digest : List Word
  verdict : Option Nat
  due : Option Nat
  deriving DecidableEq, Repr

/-- What a load leaves for repair of a target (R425, R426): first record, FKIND 1 records, digest. -/
structure Kept where
  first : Nat
  contents : Nat
  digest : List Word
  deriving DecidableEq, Repr

/-- A REGION_DAMPER with SHUT, or a containment, that waits: regions not yet SHUT, and how many regions are changed and
skipped. -/
structure DamperCmd where
  cmd : Packet
  left : List Nat
  changed : Nat
  skipped : Nat
  deriving DecidableEq, Repr

/-- A REGION_DAMPER with OPEN that waits for its boundary (R413): the mask of the regions that change, and how many are
skipped. -/
structure OpenCmd where
  cmd : Packet
  due : Nat
  changed : Nat
  skipped : Nat
  deriving DecidableEq, Repr

/-- The fuses as blown (R389): key hashes (empty: unprogrammed), revoked slots, AES key, and the one-bit fuses. -/
structure Fuses where
  hashes : List (List Word)
  revoked : Nat
  aes : List Word
  encRequired : Bool
  readbackDis : Bool
  jtagLock : Bool
  rollback : Nat
  deriving DecidableEq, Repr

/-- The configuration controller's state (chapters 09 and 10). -/
structure CfgState where
  /-- frames by ADDR (R357): 64 words each; cleared where unlisted -/
  frames : List (Nat × List Word)
  /-- fabric ports by number; `FabPort.reset` where unlisted -/
  ports : List (Nat × FabPort)
  load : Option Load
  kept : List (Nat × Kept)
  /-- registered copies: target and DRAM byte address (R426) -/
  copies : List (Nat × Nat)
  dampers : List DamperCmd
  opens : List OpenCmd
  /-- the authenticated full image that waits for its start, and whether it is the golden image -/
  ready : Option (LoadHeader × Bool)
  /-- the image whose user logic runs -/
  running : Option LoadHeader
  /-- the boundary, or the tick, at which user logic starts (R379, R382) -/
  startDue : Option Nat
  startTick : Option Nat
  /-- the first boundary whose set of changes was still open when the start for a tick became pending (R44) -/
  startOpen : Nat
  /-- READY has been sent for the image (R382) -/
  readySent : Bool
  /-- device IDs counted as ready, at the tick source, and whether START has been sent (R382) -/
  readyIds : List Nat
  startSent : Bool
  /-- a FLASH_HEAD device forwards what its flash delivers (R372) -/
  forward : Bool
  /-- the 1 µs filter of DONE_N runs (R379) -/
  doneFilter : Bool
  /-- the device wants DONE_N low (R381) -/
  doneLow : Bool
  fuses : Fuses
  /-- the SAFE_KEEP strap as sampled (R386, R714) -/
  safeKeep : Bool
  /-- the ADDR of the frame under repair (R422) -/
  repair : Option Nat
  /-- the next swept frame by its number, and the DEVICE_TIME at which the lap began (R428) -/
  sweepNext : Nat
  lapStart : Nat
  deriving DecidableEq, Repr

def CfgState.reset : CfgState :=
  { frames := [], ports := [], load := none, kept := [], copies := [], dampers := [], opens := [],
    ready := none, running := none, startDue := none, startTick := none, startOpen := 0, readySent := false, readyIds := [],
    startSent := false, forward := false, doneFilter := false, doneLow := true,
    fuses := { hashes := [[], [], [], []], revoked := 0, aes := [], encRequired := false, readbackDis := false,
               jtagLock := false, rollback := 0 },
    safeKeep := false, repair := none, sweepNext := 0, lapStart := 0 }

/-- The memory sweep's and the bank ports' state (chapter 11). -/
structure MemState where
  /-- the next word of each sweeper: (class × 8192 + unit, accesses made in the lap); zero where unlisted -/
  pos : List (Nat × Nat)
  /-- per class, the units read in the lap and the DEVICE_TIME at which the lap began -/
  laps : List (Nat × List Nat × Nat)
  /-- requests that have reached ports A and B and are not served, oldest first -/
  portA : List BankAccess
  portB : List BankAccess
  /-- consecutive cycles port A and port B have stalled (R447) -/
  stallA : Nat
  stallB : Nat
  /-- accesses of a new owner that wait for a clear: port (false A, true B) and request (R452) -/
  held : List (Bool × BankAccess)
  /-- block memories: number, and whether CHECKED with bit 0 and SWEEP with bit 1 (R320, R325) -/
  brams : List (Nat × Nat)
  deriving DecidableEq, Repr

def MemState.reset : MemState :=
  { pos := [], laps := [], portA := [], portB := [], stallA := 0, stallB := 0, held := [], brams := [] }

/-- The four parts of a credit loop (R489): credits held by the sender, flits sent and not yet buffered or awaiting
replay, flits buffered at the receiver, credits returning. -/
structure Credit where
  held : Nat
  sent : Nat
  buffered : Nat
  returning : Nat
  deriving DecidableEq, Repr

def Credit.reset : Credit := { held := 8, sent := 0, buffered := 0, returning := 0 }

/-- A request packet in the mesh: the packet, the buffer that holds its header (kind 0 link, 1 injection port, 2 ejection
port; link number or endpoint), the router it is at, and HOPS. -/
structure MeshPacket where
  pkt : NocPacket
  kind : Nat
  place : Nat
  router : Nat
  hops : Nat
  deriving DecidableEq, Repr

/-- The network's state that no register holds (chapter 12). -/
structure NocState where
  /-- route table entries that differ from X-then-Y: ((2 × epoch + network) × 80 + router) × 80 + destination, and port -/
  routes : List (Nat × Nat)
  /-- request and management packets in the mesh, oldest first -/
  mesh : List MeshPacket
  /-- credit loops by (kind × 320 + index) × 8 + virtual channel; `Credit.reset` where unlisted -/
  credits : List (Nat × Credit)
  /-- replays of one flit in a row, by link (R487) -/
  runs : List (Nat × Nat)
  /-- the boundary at which a pending switch takes effect (R479) -/
  switchDue : Option Nat
  deriving DecidableEq, Repr

def NocState.reset : NocState := { routes := [], mesh := [], credits := [], runs := [], switchDue := none }

/-- A command on a DRAM channel (R496, R507, R510, R512): precharge or activate of a bank, read or write of a burst, all
banks precharged, one refresh of every rank, self-refresh entry and exit. A write carries its eight data words and its
check bytes as one little-endian number (R497). -/
inductive DramCmd
  | precharge (bank : Nat)
  | activate (bank row : Nat)
  | read (burst : Nat)
  | write (burst : Nat) (data : List Word) (check : BitVec 128)
  | prechargeAll
  | refresh
  | selfRefresh
  | wake
  deriving DecidableEq, Repr

/-- A burst that a queued write has not yet issued (R503, R504): masks and data of its eight words, META to store, phase
(0 to be read for its merge, 1 being read, 2 ready), and the requests that wait for its merge. -/
structure DramBurst where
  burst : Nat
  mask : List Word
  data : List Word
  info : Nat
  phase : Nat
  waiters : List Nat
  deriving DecidableEq, Repr

/-- An entry of the write queue; `scrub`: the rewrite of a mended burst (R500); `since`: the PHY cycle of its arrival. -/
structure DramWrite where
  serial : Nat
  bursts : List DramBurst
  scrub : Bool
  since : Nat
  deriving DecidableEq, Repr

/-- A write request that waits for merges (R503): how many are left, and whether one was refused. -/
structure DramAnswer where
  serial : Nat
  src : Nat
  tag : Nat
  left : Nat
  bad : Bool
  deriving DecidableEq, Repr

/-- An entry of the read queue: local address and size, bursts to issue, bursts without data yet, data by burst, whether a burst
was bad, and the PHY cycle of its arrival. -/
structure DramRead where
  serial : Nat
  src : Nat
  tag : Nat
  l : Nat
  size : Nat
  todo : List Nat
  left : Nat
  got : List (Nat × List Word)
  bad : Bool
  since : Nat
  deriving DecidableEq, Repr

/-- A burst read that has been issued and not decoded: its command, the read entry it serves (none: a merge), and the
data and check bytes once they have come. -/
structure DramFlight where
  id : Nat
  burst : Nat
  owner : Option Nat
  data : Option (List Word × BitVec 128)
  deriving DecidableEq, Repr

/-- A DRAM controller's state that no register holds (chapter 13). -/
structure Dram where
  reads : List DramRead
  writes : List DramWrite
  answers : List DramAnswer
  /-- requests held in the ejection buffer because their queue is full (R502) -/
  waiting : List DramJob
  /-- mended bursts that wait for a write queue entry: burst, data, META (R500) -/
  scrubs : List (Nat × List Word × Nat)
  /-- the retry buffer, oldest first: command number and command (R512) -/
  retry : List (Nat × DramCmd)
  flights : List DramFlight
  /-- open rows by bank, in the numbering of `bankOf` -/
  rows : List (Nat × Nat)
  /-- activate tables by bank: (row, count) by entry index (R510) -/
  tables : List (Nat × List (Nat × Nat))
  /-- neighbour rows to refresh: bank and row (R510) -/
  owed : List (Nat × Nat)
  nextId : Nat
  serial : Nat
  /-- the boundary at which the endpoint's damper opens (R493) -/
  openDue : Option Nat
  /-- a stop in progress: into self-refresh or OFFLINE, and the command that asked for it -/
  stopping : Option (Bool × Option Packet)
  /-- the oldest command at the last alert, and replays of it that failed (R514) -/
  lastAlert : Option Nat
  failed : Nat
  /-- the controller left ACTIVE for a power step or a clock trip and returns with it (R641, R648) -/
  resume : Bool
  deriving DecidableEq, Repr

def Dram.reset : Dram :=
  { reads := [], writes := [], answers := [], waiting := [], scrubs := [], retry := [], flights := [], rows := [],
    tables := [], owed := [], nextId := 0, serial := 0, openDue := none, stopping := none, lastAlert := none,
    failed := 0, resume := false }

/-- What one PCI Express function's configuration space holds for the rules of this block (R542, R551, R554). -/
structure PcieFn where
  memEnable : Bool
  busMaster : Bool
  ptmEnable : Bool
  msixEnable : Bool
  fnMask : Bool
  d3hot : Bool
  pmeEnable : Bool
  l1Enable : Bool
  /-- every other configuration dword that has been written, by its number -/
  config : List (Nat × BitVec 32)
  deriving DecidableEq, Repr

def PcieFn.reset : PcieFn :=
  { memEnable := false, busMaster := false, ptmEnable := false, msixEnable := false, fnMask := false, d3hot := false,
    pmeEnable := false, l1Enable := false, config := [] }

/-- A piece of a host memory request (R545, R546): NoC tag, function, write or read, NoC address, bytes, data, its TLP's
number and tag, whether it has been issued, and the response once it has come (status, data). -/
structure HostPiece where
  tag : Nat
  fn : Nat
  write : Bool
  addr : Nat
  bytes : Nat
  data : List Word
  tlp : Nat
  tlpTag : Nat
  issued : Bool
  done : Option (Status × Bool × List Word)
  deriving DecidableEq, Repr

/-- The host interface's state that no register holds. -/
structure PcieState where
  fns : List PcieFn
  /-- pieces not yet completed, oldest first -/
  pieces : List HostPiece
  nextTag : Nat
  nextTlp : Nat
  /-- board word 0x1_B000 has been read in phase P3 (R544) -/
  ready : Bool
  deriving DecidableEq, Repr

def PcieState.reset : PcieState :=
  { fns := [PcieFn.reset, PcieFn.reset, PcieFn.reset, PcieFn.reset], pieces := [], nextTag := 0, nextTlp := 0, ready := false }

/-- A Brocia port's state that no register holds (R538 to R565). -/
structure BrPort where
  /-- bring-up: ALIGN seen, CAP with ACK seen, the peer's rates, lanes that passed stage 4 -/
  deskewed : Bool
  capAck : Bool
  capRates : Nat
  lanes : Nat
  /-- delay exchanges complete, and the sums of round trips and turnarounds in ps -/
  exchanges : Nat
  rttSum : Nat
  turnSum : Nat
  /-- next SEQ to send, and the last SEQ received in order -/
  txSeq : Nat
  rxSeq : Nat
  /-- the replay buffer, oldest first, and how often its oldest frame was resent in a row -/
  replay : List (Nat × BrFrame)
  resent : Nat
  /-- credits in blocks by class: request, response, system, stream -/
  credits : List Nat
  /-- frames that wait for credits, oldest first; true: injected here, false: forwarded -/
  queue : List (Bool × BrFrame)
  deriving DecidableEq, Repr

def BrPort.reset : BrPort :=
  { deskewed := false, capAck := false, capRates := 0, lanes := 0, exchanges := 0, rttSum := 0, turnSum := 0, txSeq := 0,
    rxSeq := 4095, replay := [], resent := 0, credits := [0, 0, 0, 0], queue := [] }

/-- A ring request in service through the NoC (R572): NoC tag, the sender's device and frame tag, and the port it came by. -/
structure RingServe where
  tag : Nat
  dev : Nat
  frameTag : Nat
  deriving DecidableEq, Repr

/-- Why a remote request was sent: an access to BRL_RACC_DATA by a master (R573), a piece of RING_COPY (R575), or the reply
to a ring peer (R590). -/
inductive RemoteUse
  | access (m : Ident) (write : Bool)
  | copy
  | reply
  deriving DecidableEq, Repr

/-- A piece of RING_COPY in flight (R575): tag, offset, bytes, and whether its second access has been sent. -/
structure CopyPiece where
  tag : Nat
  off : Nat
  bytes : Nat
  second : Bool
  deriving DecidableEq, Repr

/-- RING_COPY in progress. -/
structure RingCopy where
  id : Nat
  cmd : Packet
  send : Bool
  dev : Nat
  near : Nat
  far : Nat
  total : Nat
  next : Nat
  pieces : List CopyPiece
  moved : Nat
  bad : Option Nat
  deriving DecidableEq, Repr

/-- The ring's state that no register holds. -/
structure RingState where
  /-- ports by number; `BrPort.reset` where unlisted -/
  ports : List (Nat × BrPort)
  serving : List RingServe
  /-- remote requests without a response: tag and use -/
  remote : List (Nat × RemoteUse)
  nextTag : Nat
  copies : List RingCopy
  nextCopy : Nat
  /-- RING_ENUM commands in progress: command and ring -/
  enumerating : List (Packet × Nat)
  /-- LINK_RETRAIN commands in progress: port and command -/
  retrain : List (Nat × Packet)
  /-- the source of the stream in hand and the port that first delivered it (R375, R570) -/
  streamFrom : Option (Nat × Nat)
  deriving DecidableEq, Repr

def RingState.reset : RingState :=
  { ports := [], serving := [], remote := [], nextTag := 0, copies := [], nextCopy := 0, enumerating := [], retrain := [],
    streamFrom := none }

/-- A lane's pattern checker in lock (R536): the last 64 bits of its reference generator and of the lane's own generator (bit 0 the
latest), the bits still to be inverted by injection (R537), and the mismatches of the last 1,024 compared bits, the latest first. -/
structure LaneCheck where
  ref : Word
  gen : Word
  flips : Nat
  misses : List Bool
  deriving DecidableEq, Repr

def LaneCheck.reset : LaneCheck := { ref := 0, gen := 0, flips := 0, misses := [] }

/-- The lanes' state that no register holds: lanes whose preset stands (R532), injections that repeat (lane and whether
a burst), the bring-up stages of user lanes in BLOCK mode (1 where unlisted), and their checkers. -/
structure LaneState where
  settled : List Nat
  injecting : List (Nat × Bool)
  stages : List (Nat × Nat)
  checks : List (Nat × LaneCheck)
  deriving DecidableEq, Repr

/-- A reply as it waits in a reply queue (R588). -/
structure Reply where
  header : Word
  words : List Word
  deriving DecidableEq, Repr

/-- A command in execution (R586); `discard` after a Function Level Reset of its issuer (R591). -/
structure Running where
  pkt : Packet
  discard : Bool
  deriving DecidableEq, Repr

/-- The command queues and reply queues (R584 to R590). -/
structure HcState where
  /-- the four class queues HOST, RING, FABRIC, JTAG, oldest packet first -/
  queues : List (List Packet)
  /-- the class that the hearth controller looks at next (R586) -/
  turn : Nat
  /-- commands in execution -/
  running : List Running
  /-- replies waiting, by slot, oldest first -/
  replies : List (Nat × List Reply)
  deriving DecidableEq, Repr

def HcState.reset : HcState := { queues := [[], [], [], []], turn := 0, running := [], replies := [] }

/-- The start-up phases of R385: no power, P0 to P3, and P4 to P6 together (CFG_STATUS.STATE tells these apart). -/
inductive Phase
  | off | p0 | p1 | p2 | p3 | up
  deriving DecidableEq, Repr

/-- A ramp in progress (R631 to R633): its branch, old and new root divisors (0: stopped), the divisor on the new source
of a source change, steps made, and edges passed of 16 of the faster clock. -/
structure Ramp where
  branch : Branch
  old : Nat
  new : Nat
  next : Option Nat
  step : Nat
  edges : Nat
  deriving DecidableEq, Repr

/-- A fabric clock divider (R311 to R313): whether it runs, its divisor in effect, the boundary of a pending write,
and the EN and DIV frozen for the coming boundary once a later write has replaced the pending ones (R44). -/
structure FClk where
  runs : Bool
  div : Nat
  due : Option Nat
  frozen : Option (Bool × Nat)
  deriving DecidableEq, Repr

/-- A request for a power state: its command, or none for a wake (R658, R662). -/
structure PwrReq where
  cmd : Option Packet
  target : Nat
  deriving DecidableEq, Repr

/-- The clock and power state that no register holds (chapter 16). -/
structure PwrState where
  phase : Phase
  /-- the levels of CORE_EN and PWR_OK -/
  coreEn : Bool
  pwrOk : Bool
  /-- PCIE_WAKE_N is driven low (R663) -/
  wakeLow : Bool
  /-- the kindling oscillator is powered -/
  kindle : Bool
  /-- the device is frozen (R642) -/
  frozen : Bool
  /-- a trip has stopped every domain outside the protected set (R641) -/
  stopped : Bool
  /-- gates that the power state holds closed, by bit of CLK_GATE (R648) -/
  forced : Nat
  /-- the power state holds the clock lines of the regions (R648, I1) -/
  rgnForced : Bool
  /-- isolation is engaged and the domains of B2 are in retention (R650, R651) -/
  isolated : Bool
  retained : Bool
  /-- step B1 has stopped admission (R648) -/
  admitStop : Bool
  /-- the divisor of the NoC (R646) -/
  nocDiv : Nat
  ramps : List Ramp
  fclks : List FClk
  /-- the transition in progress and the pending slot (R658) -/
  req : Option PwrReq
  slot : Option PwrReq
  /-- the step that waits for a boundary, and that boundary (0: the first step of the request in the slot) -/
  nextStep : Option (Nat × Nat)
  /-- TCK_COUNT at the start of the last step (R665) -/
  stepTick : Word
  /-- the engines whose RUN was 1 before step B1 (R648) -/
  savedRun : List Nat
  /-- a commanded voltage is awaited; true: a raised one (R654, R657) -/
  avs : Option Bool
  /-- PWR_CTL.COLD_DELAY_MS runs (R648, C1) -/
  coldDelay : Bool
  /-- CLK_REF_SELECT in progress: reference and command (R630) -/
  select : Option (Nat × Packet)
  /-- CLK_REF_SELECT has asked for the return to the selected reference (R645) -/
  returnAsked : Bool
  deriving DecidableEq, Repr

def PwrState.reset : PwrState :=
  { phase := .off, coreEn := false, pwrOk := false, wakeLow := false, kindle := false, frozen := false, stopped := false,
    forced := 0, rgnForced := false, isolated := false, retained := false, admitStop := false, nocDiv := 6, ramps := [],
    fclks := List.replicate 24 (FClk.mk false 16 none none), req := none, slot := none, nextStep := none, stepTick := 0,
    savedRun := [], avs := none, coldDelay := false, select := none, returnAsked := false }

/-- A pending source of the fault collector (R672). -/
structure FltPending where
  source : Nat
  info : BitVec 32
  time : Word
  sev : Nat
  merged : Bool
  deriving DecidableEq, Repr

/-- A raise whose containment or halt begins in the next collector cycle (R671); `region` is the raising region of a
USER source. -/
structure FltReaction where
  source : Nat
  sev : Nat
  info : BitVec 32
  region : Option Nat
  deriving DecidableEq, Repr

/-- The fault collector's state that no register holds (chapter 17). -/
structure FltState where
  pending : List FltPending
  reactions : List FltReaction
  /-- a severity-3 raise in the cycle of a release: its halt counts anew (R680) -/
  rehalt : Bool
  /-- entries waiting to be journalled, oldest first (R677) -/
  journalQueue : List (Word × Word)
  /-- BOOT of the journal once the scan is done (R677) -/
  boot : Option Nat
  /-- history words captured for a reading master: (slot, entry, word 1) (R674) -/
  captured : List (Nat × Nat × Word)
  /-- the half-period in force, in root cycles (R686) -/
  emberH : Nat
  /-- a written frequency that waits for the next edge (R736) -/
  emberNext : Option Nat
  /-- after a frequency change: the DEVICE_TIME of its edge, whose level is held until the new parity is met (R736) -/
  emberHold : Option Nat
  /-- EMBER waits for its first rising edge after a resume (R687): the number of the half-period in which it resumed -/
  emberWait : Option Nat
  deriving DecidableEq, Repr

def FltState.reset : FltState :=
  { pending := [], reactions := [], rehalt := false, journalQueue := [], boot := none, captured := [],
    emberH := 4800000, emberNext := none, emberHold := none, emberWait := none }

/-- What a slice has taken in a clock cycle: its operands and its operation input (R316). -/
structure SliceInput where
  a : BitVec 24
  b : BitVec 24
  op : Fin 4
  deriving DecidableEq, Repr

/-- An arithmetic slice's registers (R316, R317, R319): two stages of inputs, the accumulator and OVF. -/
structure SliceRegs where
  first : SliceInput
  second : SliceInput
  acc : BitVec 56
  ovf : Bool
  deriving DecidableEq, Repr

def SliceRegs.reset : SliceRegs := { first := ⟨0, 0, 0⟩, second := ⟨0, 0, 0⟩, acc := 0, ovf := false }

/-- What a read of a block memory gives out: data, CORR and UNCORR (R324). -/
structure BramOut where
  data : Nat
  corr : Bool
  uncorr : Bool
  deriving DecidableEq, Repr

/-- A port of a block memory (R321, R322): the last read, its output register, and COLLIDE. -/
structure BramPort where
  read : BramOut
  held : BramOut
  collide : Bool
  deriving DecidableEq, Repr

def BramPort.reset : BramPort := { read := ⟨0, false, false⟩, held := ⟨0, false, false⟩, collide := false }

/-- The fabric's cells and clocks beside its frames (chapters 8 and 10). -/
structure LogicState where
  /-- root cycles that have passed, and their number at the last tick boundary -/
  clock : Nat
  boundary : Nat
  /-- the root cycle at which each fabric clock divider was last at phase 0 by a start (R26) -/
  starts : List Nat
  /-- dividers whose ramp has ended and that wait for a tick boundary (R312) -/
  settling : List Nat
  /-- flip-flops at 1 of each target (R303) -/
  flops : List (Nat × List Nat)
  /-- arithmetic slices by number in the device; `SliceRegs.reset` where unlisted -/
  slices : List (Nat × SliceRegs)
  /-- ports of block memories, A at twice the memory's number, B above it; `BramPort.reset` where unlisted -/
  brams : List (Nat × BramPort)
  /-- words of block memories in the RAW modes: 2,048 × number + address; zero where unlisted (R320) -/
  raw : List (Nat × Nat)
  /-- border hold cells that keep a 1 since they engaged (R415) -/
  kept : List HoldCell
  /-- static clock lines that were high in the last root cycle (R310) -/
  lines : List Nat
  /-- the fabric's signals that were 1 in the last root cycle, which a combinational loop starts from (R309) -/
  levels : List FabNode
  /-- targets whose release is at the present boundary (R409) -/
  fresh : List Nat
  deriving DecidableEq, Repr

def LogicState.reset : LogicState :=
  { clock := 0, boundary := 0, starts := List.replicate 24 0, settling := [], flops := [], slices := [], brams := [],
    raw := [], kept := [], lines := [], levels := [], fresh := [] }

/-- What the device sends: answers, packets, frames, interrupts and pin levels. -/
inductive Out
  /-- the value a register read returns to its master -/
  | answer (m : Ident) (value : Word)
  /-- the eight words a mailbox slot read returns (R611) -/
  | words (m : Ident) (ws : List Word)
  /-- a Precision Time Measurement request of a function (R66) -/
  | ptmRequest (f : Nat)
  /-- the response to a write of the context-store window (R15, R121) -/
  | written (m : Ident) (st : Status)
  /-- the completion of a BAR2 read: value and the poisoned-data mark (R121, R122) -/
  | bar2 (m : Ident) (value : Word) (poisoned : Bool)
  /-- an action or a retry handed to context engine endpoint `w` on VC0 (R138): tag, target, W1, settle, domain, kind,
  attempt and tick of the visit -/
  | action (w tag target : Nat) (w1 : Word) (settle dom kind attempt : Nat) (vtick : Nat)
  /-- the reads of the image block of CTX_CREATE_BLOCK: DRAM byte address and bytes (R105) -/
  | imageRead (addr bytes : Nat)
  /-- a result record's write on VC1 through context engine endpoint `w` (R153, R154): ring, bank store or DRAM, byte
  address, sender identity and the record's two words -/
  | record (w ring : Nat) (bank : Bool) (addr : Nat) (ident : Ident) (w0 w1 : Word)
  /-- the answer of a target to an action (R190, R195): source endpoint, target number, tag, status and value -/
  | result (src target tag : Nat) (st : Status) (value : Nat)
  /-- a companion claim for channel `c` by a slot of group `g`; `bus`: over the die's companion bus (R193) -/
  | claim (c g slot : Nat) (bus : Bool)
  /-- the grant of a companion claim on its way back (R193) -/
  | grant (c g slot : Nat) (bus : Bool)
  /-- the refusal of a companion claim on its way back (R194) -/
  | refusal (c g slot : Nat) (bus : Bool)
  /-- the release of a companion channel (R195) -/
  | release (c g slot : Nat) (bus : Bool)
  /-- the response to a release that came over the NoC (R15, R195) -/
  | released (c g slot : Nat)
  /-- a companion quantity's result, converted in group `h`, on its way back by the path of its claim (R227) -/
  | converted (h g slot idx : Nat) (sum : Int) (count : Nat) (gain16 bus : Bool)
  /-- a vector a group plays, its drive-high level in nV times 4,095, and the driver edges it makes: channel position,
  sub-step and level (0 off, 1 low, 2 high), return edges included (R168, R169, R173, R176) -/
  | vector (g : Nat) (vec : Word) (high : Int) (edges : List (Nat × Nat × Nat))
  /-- what a FABRIC group returns to its region: comparator states, failing strobes and marker (R203) -/
  | compared (g region states fails : Nat) (marker : Bool)
  /-- a stream's DRAM read: group, stream number, byte address and number of vectors (R198) -/
  | streamRead (g stream addr count : Nat)
  /-- a reflex response of entry `j`, `delay` channel cycles beyond four after its strobe (R211) -/
  | reflex (g j delay : Nat)
  /-- a response reaches the ball of a channel: its level and its channel cycle from the vector boundary (R209, R211) -/
  | reflexLevel (g i cycle : Nat) (high : Bool)
  /-- what a forcing unit holds at channel `c`: the ball voltage in nV where it forces a current, the current in nA where
  it forces a voltage (R223, R224) -/
  | unitOutput (c : Nat) (value : Int)
  /-- a shot of the TDR sequencer on channel `c`: the strobe in sub-steps after the drive edge, and the strobe edge
  generator's setting, which holds the channel's strobe deskew (R236, R237) -/
  | tdrShot (c strobe : Nat) (setting : Int)
  /-- a read of CHG_VEC_DATA or another port register whose word is uncorrectable: completion marked poisoned (R185) -/
  | poisonedAnswer (m : Ident)
  /-- a DMA request of engine `e` with its sender identity (R287): NoC byte address, words read, or the words written -/
  | dma (e : Nat) (ident : Ident) (addr count : Nat) (data : Option (List (BitVec 32)))
  /-- the response to a write of the non-volatile array (R341) -/
  | nvaWritten (m : Ident) (addr : Nat)
  /-- a UART frame or LIN break on TXD (R348, R349): its levels bit by bit, and the bit time in 0.15625 ns -/
  | uart (n : Nat) (line : List Bool) (bitTime : Nat)
  /-- a transfer of an SPI controller (R350): SCK and MOSI in each half period, the half period in 2.5 ns, and whether CS stays
  low -/
  | spi (n : Nat) (halves : List (Bool × Bool)) (half : Nat) (hold : Bool)
  /-- the bits an SPI target sends on MISO, first bit first (R350) -/
  | spiReply (n : Nat) (line : List Bool)
  /-- bytes an I²C port sends (R351): after a repeated start, with a stop, and the bus clock in kHz -/
  | i2c (n : Nat) (again : Bool) (data : List (BitVec 32)) (stop : Bool) (khz : Nat)
  /-- a CAN frame on the bus (R352, R353), the bit timing, that of the data phase with its compensation offset under BRS, and
  ESI -/
  | can (n : Nat) (words : List Word) (nominal : CanTiming) (fast : Option (CanTiming × Nat)) (esi : Bool)
  /-- the answer to a request, at its own injecting endpoint (R462, R484), or from a fabric port or a DRAM controller (R481):
  endpoint that sent the request, tag, status and data -/
  | response (dest tag : Nat) (st : Status) (data : List Word)
  /-- an action word handed to a region's fabric (R330) -/
  | actionWord (p : Nat) (w0 w1 w2 w3 : Word)
  /-- a target request handed to a fabric port: source endpoint, tag, operation, address, data (R329) -/
  | fabricRequest (p src tag op addr : Nat) (data : List Word)
  /-- the response to a fabric port's own request (R328) -/
  | fabricResponse (p tag : Nat) (st : Status) (poison : Bool) (data : List Word)
  /-- the level the device drives on DONE_N: true low, false released (R381) -/
  | doneN (low : Bool)
  /-- a load asks a source for its stream: source and byte address (R372, R374) -/
  | streamFetch (source addr : Nat)
  /-- frame records written to DRAM by CFG_READBACK: byte address and words (R392) -/
  | readback (addr : Nat) (ws : List Word)
  /-- the DRAM read of a repair record: byte address (R425) -/
  | repairRead (addr : Nat)
  /-- a bank port's response: port (false A, true B), requester, status and the words read (R446 to R453) -/
  | bank (port : Bool) (m : Ident) (st : Status) (ws : List Word)
  /-- a packet delivered at an endpoint: a request (R482), or the response to one of its own (R469) -/
  | delivered (e : Nat) (pkt : NocPacket)
  /-- a command on the channel of DRAM controller `c` -/
  | dramCommand (c : Nat) (cmd : DramCmd)
  /-- a frame sent on a Brocia port with its SEQ (R560) -/
  | frame (p seq : Nat) (f : BrFrame)
  /-- an ALIGN stripe (R557) -/
  | align (p : Nat)
  /-- an ACK or NAK block (R560) -/
  | ack (p seq : Nat)
  | nak (p seq : Nat)
  /-- a TICK block (R565) -/
  | tickBlock (p low8 : Nat)
  /-- delay exchange blocks (R563) -/
  | dlyReq (p num : Nat)
  | dlyRsp (p num turnPs : Nat)
  /-- a CAP block (R538, R558) -/
  | cap (p : Nat) (c : CapBlock)
  /-- bits of a lane's generator inverted (R537) -/
  | inject (n count : Nat)
  /-- a user lane's word time: the word sent and its sync headers, the word handed to the fabric (R576, R577) -/
  | laneWord (n : Nat) (word : BitVec 128) (sync : Nat)
  | laneReceived (n : Nat) (word : BitVec 128) (sync : Nat)
  /-- a host completion: function, TLP tag, data, the EP bit (R547) -/
  | completion (f tag : Nat) (data : List Word) (ep : Bool)
  /-- Unsupported Request, Completer Abort and configuration retry (R544, R548) -/
  | unsupported (f tag : Nat)
  | completerAbort (f tag : Nat)
  | configRetry (f tag : Nat)
  /-- an error reported through AER: 0 Poisoned TLP Received, 1 ECRC (R548) -/
  | aer (f kind : Nat)
  /-- the answer of a configuration read -/
  | config (f tag : Nat) (value : BitVec 32)
  /-- a request that the host interface or the Brocia endpoint hands to its NoC endpoint (R545, R572) -/
  | request (e tag : Nat) (m : Ident) (write : Bool) (addr bytes : Nat) (data : List Word) (poison : Bool)

  /-- an AVSBus Voltage command: rail and target in mV (R654) -/
  | avs (rail mv : Nat)
  /-- the levels of CORE_EN and PCIE_WAKE_N (R620, R663) -/
  | coreEn (level : Bool)
  | pcieWakeN (low : Bool)
  /-- a PME message of a function (R663) -/
  | pme (f : Nat)
  /-- MSI-X vector `v` of function `f` (R684) -/
  | msix (f v : Nat)
  /-- a level EMBER takes (R686) -/
  | ember (level : Bool)
  deriving DecidableEq, Repr

/-- The state of the block. -/
structure State where
  /-- the commands that wait, first in first out -/
  pending : List Instr
  /-- what the device has sent, newest first (the model's own field) -/
  out : List Out
  /-- how many free values have been drawn (the model's own field) -/
  free : Nat
  /-- the register file: offset in BAR0 (plus slot × 2^26 for a register that is one per master) and value -/
  regs : List (Nat × Word)
  /-- every protected memory: class × 2^24 + word index within the class (R438), and the stored word -/
  mem : List (Nat × PWord)
  /-- mended words that wait for their write-back (R436) -/
  mends : List Nat
  tck : TckState
  ctx : CtxState
  chg : ChgState
  /-- signal engines by number; `Sge.reset` where unlisted -/
  sge : List (Nat × Sge)
  nva : NvaState
  /-- serial ports by number; `SerPort.reset` where unlisted -/
  ser : List (Nat × SerPort)
  cfg : CfgState
  logic : LogicState
  mm : MemState
  noc : NocState
  /-- DRAM controllers by number; `Dram.reset` where unlisted -/
  dram : List (Nat × Dram)
  pcie : PcieState
  ring : RingState
  lanes : LaneState
  hc : HcState
  pwr : PwrState
  flt : FltState
  deriving DecidableEq, Repr

/-- Faults of the block. The spec gives the block no fault that stops it: every error it names is a next state.
`stuck` is raised by no meaning; it stands so that the type has a name to list (safe). -/
inductive Fault
  /-- raised by nothing (safe) -/
  | stuck
  deriving DecidableEq, Repr

/-- Refusals of the block. -/
inductive Refusal
  /-- a command whose meaning is not written: answered by its arm of `exec` only (safe) -/
  | notModelled (mnemonic : String)
  deriving DecidableEq, Repr

/-- The block right after reset: every register at its reset value (an unlisted register reads as its reset value),
every queue empty. -/
def State.reset : State :=
  { pending := [], out := [], free := 0, regs := [],
    mem := [], mends := [],
    tck := TckState.reset,
    ctx := CtxState.reset,
    chg := ChgState.reset,
    sge := [],
    nva := { waiting := [], lastSlot := 0 },
    ser := [],
    cfg := CfgState.reset,
    logic := LogicState.reset,
    mm := MemState.reset,
    noc := NocState.reset,
    dram := [],
    pcie := PcieState.reset,
    ring := RingState.reset,
    lanes := { settled := [], injecting := [], stages := [], checks := [] },
    hc := HcState.reset,
    pwr := PwrState.reset,
    flt := FltState.reset }

end Sys2Proof.Machine
end

