-- ==== Sys2Proof/Machine/Ops.lean ====
section
/-! DEFINITION. The named operations every family uses: the register file and its reset values, free values, identities,
ownership and membership tests, access violations, raising a fault and routing its vectors. -/

namespace Sys2Proof.Machine

/-! ### The register file -/

/-- The distance in the register file between the copies of a register that is one per master (R581). -/
def slotSpan : Nat := 0x4000000

/-- The index values of an offset inside an indexed register, or none where the offset is not one of its copies. -/
def decodeIndex : List RegIndex → Nat → Option (List Nat)
  | [], r => if r = 0 then some [] else none
  | x :: xs, r =>
    let i := r / x.stride
    if x.first ≤ i ∧ i < x.first + x.count then
      match decodeIndex xs (r - x.stride * i) with
      | some l => some (i :: l)
      | none => none
    else none

/-- The indexes with which BAR0 offset `off` is a copy of the register, or none. -/
def RegInfo.decode (x : RegInfo) (off : Nat) : Option (List Nat) :=
  if x.base ≤ off then decodeIndex x.index (off - x.base) else none

/-- The register at a BAR0 offset, with its indexes (R10, R616). -/
def regAtIn : List RegName → Nat → Option (RegName × List Nat)
  | [], _ => none
  | r :: rs, off =>
    match (regInfo r).decode off with
    | some l => some (r, l)
    | none => regAtIn rs off

/-- The register at a BAR0 offset, with its indexes (R10, R616). -/
def regAt (off : Nat) : Option (RegName × List Nat) := regAtIn allRegs off

/-- A range of fault sources: first, last, default severity, fixed, notification (R667, R668). -/
structure SourceRange where
  first : Nat
  last : Nat
  sev : Nat
  fixed : Bool
  notify : Bool
  deriving DecidableEq, Repr

/-- The fault and notification sources of R667 and R668. -/
def sourceTable : List SourceRange :=
  [⟨0x000, 0x002, 3, true, false⟩, ⟨0x003, 0x004, 1, false, false⟩, ⟨0x00C, 0x00C, 1, true, true⟩,
   ⟨0x010, 0x011, 1, false, false⟩, ⟨0x040, 0x040, 2, false, false⟩, ⟨0x041, 0x042, 1, false, false⟩,
   ⟨0x080, 0x080, 2, false, false⟩, ⟨0x081, 0x082, 1, false, false⟩, ⟨0x083, 0x083, 0, false, false⟩,
   ⟨0x090, 0x09F, 1, true, true⟩, ⟨0x100, 0x100, 2, false, false⟩, ⟨0x104, 0x10B, 1, true, true⟩,
   ⟨0x140, 0x140, 2, false, false⟩, ⟨0x141, 0x141, 1, false, false⟩, ⟨0x180, 0x181, 1, false, false⟩,
   ⟨0x184, 0x187, 1, false, false⟩, ⟨0x200, 0x27F, 1, false, false⟩, ⟨0x280, 0x283, 1, false, false⟩,
   ⟨0x300, 0x33F, 2, false, false⟩, ⟨0x340, 0x347, 1, false, false⟩, ⟨0x348, 0x34B, 2, true, false⟩,
   ⟨0x34C, 0x34F, 2, false, false⟩, ⟨0x380, 0x381, 1, false, false⟩, ⟨0x382, 0x382, 2, false, false⟩,
   ⟨0x383, 0x383, 1, false, false⟩, ⟨0x3C0, 0x3C8, 1, false, false⟩, ⟨0x800, 0xFFF, 0, false, false⟩]

/-- The entry of the source table that holds a source. -/
def sourceRange (src : Nat) : Option SourceRange :=
  sourceTable.find? (fun r => decide (r.first ≤ src ∧ src ≤ r.last))

/-- The reset value of FLT_SRCs (R690). -/
def sourceReset (src : Nat) : Word :=
  match sourceRange src with
  | some r => mkWord [(0, 2, r.sev), (2, 1, bnat r.fixed), (3, 1, bnat r.notify), (4, 1, 1)]
  | none => 0

/-- The endpoint number of fabric port `p`: region ports 0 to 63 and static-border ports 64 to 67 (R458, R459). -/
def fabricEndpoint (p : Nat) : Nat :=
  if p < 64 then 4 * (10 * (p / 8) + p % 8 + 1)
  else match p with | 64 => 1 | 65 => 281 | 66 => 37 | _ => 317

/-- The endpoint number of DRAM controller `c` (R459). -/
def dramEndpoint (c : Nat) : Nat := match c with | 0 => 0 | 1 => 280 | 2 => 36 | _ => 316

/-- The endpoints whose damper is SHUT at reset: the fabric ports (R398) and the DRAM controllers (R493); their endpoint
numbers follow the router table of R459. -/
def endpointShutAtReset (e : Nat) : Bool := (List.range 68).any (fun p => decide (fabricEndpoint p = e)) || (List.range 4).any (fun c => decide (dramEndpoint c = e))

/-- The reset value of the registers whose reset value depends on their index. -/
def indexedReset (off : Nat) : Word :=
  if 0x800800 ≤ off ∧ off < 0x800F00 then
    (if off < 0x800C00 then 0x100010 else if off < 0x800D00 then 0x80008 else 0x40004)
  else if 0xC03800 ≤ off ∧ off < 0xE00000 ∧ (off - 0xC03800) % 0x80000 < 0x20 then
    (match (off - 0xC03800) % 0x80000 / 8 with
     | 0 => 0x0000034802F80000
     | 1 => 0x0000076206AE0000
     | 2 => 0x00001482128E0000
     | _ => 0x0000041AFE700000)
  else if 0x1800000 ≤ off ∧ off < 0x1806000 ∧ off % 0x100 = 0 then
    (if off < 0x1802000 then 0x21 else 0x20)
  else if 0x601000 ≤ off ∧ off < 0x601A00 then (if endpointShutAtReset ((off - 0x601000) / 8) then 2 else 0)
  else if 0x208000 ≤ off ∧ off < 0x210000 then sourceReset ((off - 0x208000) / 8)
  else if 0x1820000 ≤ off ∧ off < 0x1828000 ∧ off % 0x2000 < 0x400 ∧ off % 16 = 8 then 0x100000000
  else 0

/-- Reset values that are one number for a register. -/
def plainReset : List (RegName × Word) → Nat → Word
  | [], off => indexedReset off
  | (r, v) :: rs, off =>
    match (regInfo r).decode off with
    | some _ => v
    | none => plainReset rs off

/-- What a register that nothing has written reads as: its reset value. -/
def regReset (key : Nat) : Word := if key < slotSpan then plainReset regResets key else 0

/-- The register at a key of the register file. -/
def State.reg (s : State) (key : Nat) : Word := Memory.get regReset s.regs key

/-- The state with a register written. -/
def State.setReg (s : State) (key : Nat) (v : Word) : State := { s with regs := Memory.set regReset s.regs key v }

/-- The key of a field's register. -/
def Field.key (f : Field) (i j k : Nat) : Nat := f.off + f.s1 * i + f.s2 * j + f.s3 * k

/-- A field of a register. -/
def State.fld (s : State) (f : Field) (i j k : Nat := 0) : Nat := bits (s.reg (f.key i j k)) f.lo f.w

/-- The state with a field written; the value is taken modulo the field's width. -/
def State.setFld (s : State) (f : Field) (v : Nat) (i j k : Nat := 0) : State :=
  s.setReg (f.key i j k) (setBits (s.reg (f.key i j k)) f.lo f.w v)

/-- A field read as a flag. -/
def State.on (s : State) (f : Field) (i j k : Nat := 0) : Bool := decide (s.fld f i j k ≠ 0)

/-- The device takes no access and no command: frozen, it has no clock (R642); while PWR_OK is low it is held in reset (R622);
in COLD it has no power (R646). -/
def State.dark (s : State) : Bool := s.pwr.frozen || !s.pwr.pwrOk || decide (s.fld PWR_STATUS_STATE = 3)

/-- A field as a signed number. -/
def State.sfld (s : State) (f : Field) (i j k : Nat := 0) : Int := signed f.w (s.fld f i j k)

/-- The state with `n` added to a field, wrapping. -/
def State.addFld (s : State) (f : Field) (n : Nat) (i j k : Nat := 0) : State := s.setFld f (s.fld f i j k + n) i j k

/-- The state with a field set to the larger of its value and `n`. -/
def State.maxFld (s : State) (f : Field) (n : Nat) (i j k : Nat := 0) : State := s.setFld f (max (s.fld f i j k) n) i j k

/-- A field of a register that is one per master, in the copy of a slot (R581). -/
def State.mfld (s : State) (f : Field) (slot : Nat) (i : Nat := 0) : Nat :=
  bits (s.reg (f.key i 0 0 + slotSpan * slot)) f.lo f.w

/-- The state with a field of a slot's copy written. -/
def State.setMfld (s : State) (f : Field) (slot v : Nat) (i : Nat := 0) : State :=
  s.setReg (f.key i 0 0 + slotSpan * slot) (setBits (s.reg (f.key i 0 0 + slotSpan * slot)) f.lo f.w v)

/-- A register back at its reset value, in the copy of a slot. -/
def State.clearReg (s : State) (key : Nat) : State := s.setReg key (regReset key)

/-- Bit `b` of a field that is a bit vector. -/
def State.fbit (s : State) (f : Field) (b : Nat) (i j k : Nat := 0) : Bool := (s.fld f i j k).testBit b

/-- The state with bit `b` of a field set or cleared. -/
def State.setFbit (s : State) (f : Field) (b : Nat) (v : Bool) (i j k : Nat := 0) : State :=
  s.setReg (f.key i j k) (setBits (s.reg (f.key i j k)) (f.lo + b) 1 (bnat v))

/-- One more thing sent. -/
def State.emit (s : State) (o : Out) : State := { s with out := o :: s.out }

/-- The next free value and the state in which it has been drawn. -/
def State.draw (s : State) : Word × State := (Config.freeWord s.free, { s with free := s.free + 1 })

/-! ### 64-bit accesses and their halves (R11) -/

/-- The bits a BAR0 access reaches. -/
def Half.mask : Half → Word
  | .full => 0xFFFFFFFFFFFFFFFF
  | .low => 0x00000000FFFFFFFF
  | .high => 0xFFFFFFFF00000000

/-- Where an access begins in its register: 32-bit accesses of the high half at offset + 4 (R11). -/
def Half.skip : Half → Nat
  | .high => 4
  | _ => 0

/-- Whether an access reaches a bit. -/
def Half.reaches (h : Half) (b : Nat) : Bool := bit h.mask b

/-- A written field's value in the data of a write, or none where the access does not reach it. -/
def wfield (h : Half) (data : Word) (f : Field) : Option Nat :=
  if h.reaches f.lo ∨ h.reaches (f.lo + f.w - 1) then some (bits (data &&& h.mask) f.lo f.w) else none

/-- A write of 1 to a one-bit field. -/
def wbit (h : Half) (data : Word) (f : Field) : Bool := bit (data &&& h.mask) f.lo

/-! ### Identities (R579 to R581) -/

/-- The master class of an identity. -/
def identClass (m : Ident) : Nat := bits m 14 4

/-- The index of an identity. -/
def identIndex (m : Ident) : Nat := bits m 0 14

/-- The device ID of an identity. -/
def identDev (m : Ident) : Nat := bits m 18 14

/-- The identity with a device ID, class and index. -/
def mkIdent (dev cls idx : Nat) : Ident := BitVec.ofNat 32 (dev % 2 ^ 14 * 2 ^ 18 + cls % 16 * 2 ^ 14 + idx % 2 ^ 14)

/-- This device's ID, 0 while unassigned (R579). -/
def State.devId (s : State) : Nat := s.fld BRL_ID_DEVID

/-- The slot of a master (R581). -/
def slotOf (m : Ident) : Option Nat :=
  let i := identIndex m
  match identClass m with
  | 0 => some 5
  | 1 => if i < 4 then some i else none
  | 2 => some 6
  | 3 => if i < 68 then some (8 + i) else none
  | 4 => some 4
  | 5 => if i < 32 then some (80 + i) else none
  | 6 => if i < 4 then some (112 + i) else if i = 16 then some 116 else none
  | _ => none

/-- The identity of the master in a slot. -/
def slotIdent (s : State) (slot : Nat) : Ident :=
  if slot < 4 then mkIdent s.devId 1 slot
  else if slot = 4 then mkIdent s.devId 4 0
  else if slot = 5 then mkIdent s.devId 0 0
  else if slot < 76 then mkIdent s.devId 3 (slot - 8)
  else if slot < 112 then mkIdent s.devId 5 (slot - 80)
  else if slot < 116 then mkIdent s.devId 6 (slot - 112)
  else mkIdent s.devId 6 16

/-- The classes that submit commands (R580). -/
def submits (m : Ident) : Bool := decide (identClass m = 1 ∨ identClass m = 2 ∨ identClass m = 3 ∨ identClass m = 4)

/-- The masters that may claim ownership (R580): HOST, RING, and JTAG unless JTAG_LOCK is blown. -/
def mayClaim (s : State) (m : Ident) : Bool :=
  decide (identClass m = 1 ∨ identClass m = 2 ∨ (identClass m = 4 ∧ s.fld CFG_FUSE_JTAG_LOCK = 0))

/-- The device has an owner. -/
def State.owned (s : State) : Bool := s.on OWN_STATUS_OWNED

/-- The owner's identity. -/
def State.owner (s : State) : Ident := BitVec.ofNat 32 (s.fld OWN_STATUS_OWNER)

/-- The master is the device owner (R596). -/
def State.isOwner (s : State) (m : Ident) : Bool := s.owned && decide (s.owner = m)

/-- The identity matches a match word under its mask (R107). -/
def identMatches (m : Ident) (mtch mask : Nat) : Bool :=
  decide (m &&& BitVec.ofNat 32 mask = BitVec.ofNat 32 mtch &&& BitVec.ofNat 32 mask)

/-- The master is a member of domain `d` (R107). -/
def State.member (s : State) (d : Nat) (m : Ident) : Bool :=
  s.on CTX_DOMd_CFG_EN d && identMatches m (s.fld CTX_DOMd_MATCH_MATCH d) (s.fld CTX_DOMd_MATCH_MASK d)

/-! ### Access violations (R605) -/

/-- The kinds of access violation. -/
inductive ViolKind
  | ownerOnly | size | bank | domain | area | submit | response
  deriving DecidableEq, Repr

/-- The code of a kind (R605). -/
def ViolKind.code : ViolKind → Nat
  | .ownerOnly => 1 | .size => 2 | .bank => 3 | .domain => 4 | .area => 5 | .submit => 6 | .response => 7

/-- Count and record an access violation of a master; `off` is the register-space offset, 0 for other spaces. A master
without a slot has no record. -/
def violation (m : Ident) (k : ViolKind) (write : Bool) (off : Nat) (s : State) : State :=
  match slotOf m with
  | none => s
  | some n =>
    (s.addFld OWN_VIOLm_COUNT_COUNT 1 n).setReg (OWN_VIOLm_LAST_IDENT.key n 0 0)
      (mkWord [(0, 32, m.toNat), (32, 3, k.code), (35, 1, bnat write), (36, 26, off), (63, 1, 1)])

/-! ### Raising a fault and routing its vectors (R669 to R672, R684) -/

/-- The key of MSI-X table word `w` (0 address, 1 data and vector control) of vector `v` of function `f` (R551). -/
def msixKey (f v w : Nat) : Nat := 0x1820000 + 0x2000 * f + 16 * v + 8 * w

/-- The key of function `f`'s pending-bit array (R551). -/
def pbaKey (f : Nat) : Nat := 0x1821000 + 0x2000 * f

/-- MSI-X vector `v` of function `f` may be sent: MSI-X enabled and not masked, Bus Master Enable 1, not in D3hot. -/
def vectorOpen (s : State) (f v : Nat) : Bool :=
  match s.pcie.fns[f]? with
  | none => false
  | some p => p.msixEnable && !p.fnMask && p.busMaster && !p.d3hot && !bit (s.reg (msixKey f v 1)) 32

/-- Raise vector `v` of function `f` (R684). -/
def raiseVector (f v : Nat) (s : State) : State :=
  let s := s.setFbit FLT_VECf_RAISED_RAISED v true f
  if vectorOpen s f v then s.emit (.msix f v)
  else s.setReg (pbaKey f) (setBits (s.reg (pbaKey f)) v 1 1)

/-- The router acts for one function's fields of FLT_SRCs. -/
def routeOne (src f : Nat) (en vec : Field) (s : State) : State :=
  if s.on en src then raiseVector f (s.fld vec src) s else s

/-- The event router acts for every function whose EN bit is 1 (R684). -/
def routeSource (src : Nat) (s : State) : State :=
  routeOne src 3 FLT_SRCs_EN3 FLT_SRCs_VEC3 (routeOne src 2 FLT_SRCs_EN2 FLT_SRCs_VEC2
    (routeOne src 1 FLT_SRCs_EN1 FLT_SRCs_VEC1 (routeOne src 0 FLT_SRCs_EN0 FLT_SRCs_VEC0 s)))

/-- Insert or merge a raise into the pending sources, which are kept in ascending order (R672). -/
def mergePending (e : FltPending) : List FltPending → List FltPending
  | [] => [e]
  | p :: r =>
    if e.source < p.source then e :: p :: r
    else if e.source = p.source then { p with info := e.info, sev := max p.sev e.sev, merged := true } :: r
    else p :: mergePending e r

/-- Raise a source (R668 to R672). A notification source raises its vectors and nothing else; a source outside the
tables is never raised. `region` is the raising region of a USER source. -/
def raiseFrom (region : Option Nat) (src info : Nat) (s : State) : State :=
  match sourceRange src with
  | none => s
  | some r =>
    if r.notify then routeSource src s
    else
      let sev := s.fld FLT_SRCs_SEV src
      let s := (s.addFld FLT_SRCs_COUNT 1 src).addFld FLT_COUNT_RAISED 1
      let e : FltPending :=
        { source := src, info := BitVec.ofNat 32 info, time := BitVec.ofNat 64 (s.fld DEVICE_TIME_TIME), sev := sev, merged := false }
      let s := { s with flt := { s.flt with
        pending := mergePending e s.flt.pending
        reactions := if sev < 2 then s.flt.reactions
                     else s.flt.reactions ++ [{ source := src, sev := sev, info := BitVec.ofNat 32 info, region := region }] } }
      if sev = 0 then s else routeSource src s

/-- Raise a source that no region raised. -/
def raise (src info : Nat) (s : State) : State := raiseFrom none src info s

/-! ### Ticks and changes that wait for a boundary (R43, R44) -/

/-- N in force. -/
def State.curN (s : State) : Nat := s.fld TCK_PERIOD_CUR_N

/-- The length of the present tick in root cycles (R28, R57). -/
def State.tickLen (s : State) : Nat := s.tck.span.getD (s.curN * 144)

/-- The last epoch of the present tick has begun: the set of changes for its boundary is frozen (R44). -/
def State.frozenSet (s : State) : Bool := decide (s.tickLen ≤ s.tck.phase + 144)

/-- The number of the boundary at which a change made now takes effect (R44). -/
def State.nextDue (s : State) : Nat := if s.frozenSet then s.tck.ticks + 2 else s.tck.ticks + 1

/-- TCK_COUNT. -/
def State.tickCount (s : State) : Word := BitVec.ofNat 64 (s.fld TCK_COUNT_COUNT)

/-- DEVICE_TIME. -/
def State.deviceTime (s : State) : Word := BitVec.ofNat 64 (s.fld DEVICE_TIME_TIME)

/-- Count a carried item in its class (R39) and mark the tick. -/
def carryLate (f : Field) (n : Nat) (s : State) : State :=
  if n = 0 then s else { s.addFld f n with tck := { s.tck with late := true } }

/-! ### Ownership (R596 to R604) -/

/-- A change of owner: the new owner or none (R604). -/
def setOwner (o : Option Ident) (s : State) : State :=
  let s := match o with
    | some m => (s.setFld OWN_STATUS_OWNER m.toNat).setFld OWN_STATUS_OWNED 1
    | none => (s.setFld OWN_STATUS_OWNER 0).setFld OWN_STATUS_OWNED 0
  let s := s.addFld OWN_CHANGES_CHANGES 1
  raise 0x010 (match o with | some m => m.toNat | none => 0) s

/-- Withdraw a pending handover. -/
def clearHandover (s : State) : State := (s.setFld OWN_HANDOVER_PENDING 0).setFld OWN_STATUS_HANDOVER 0

/-- Renew the lease (R603). -/
def startLease (s : State) : State := s.setFld OWN_STATUS_LEASE_LEFT_MS (s.fld OWN_LEASE_LEASE_MS)

/-- Any write of the owner that reaches the register space renews the lease (R603). -/
def renewLease (m : Ident) (s : State) : State := if s.isOwner m then startLease s else s

/-- Ownership vacates (R602, R604). -/
def vacate (s : State) : State :=
  if s.owned then setOwner none ((clearHandover s).setFld OWN_STATUS_LEASE_LEFT_MS 0) else clearHandover s

end Sys2Proof.Machine
end

