-- ==== Sys2Proof/Machine/Brocia.lean ====
section
/-! DEFINITION. The transport of the Brocia links (R556 to R562, R569): frames, replay buffers, credits, queues, the
choice of a port, and a port's return to stage 1. -/

namespace Sys2Proof.Machine

/-- A port's state. -/
def State.brPort (s : State) (p : Nat) : BrPort := Memory.get (fun _ => BrPort.reset) s.ring.ports p

/-- The state with a port changed. -/
def State.modPort (s : State) (p : Nat) (f : BrPort → BrPort) : State :=
  { s with ring := { s.ring with ports := Memory.set (fun _ => BrPort.reset) s.ring.ports p (f (s.brPort p)) } }

/-- The port is in stage 7. -/
def State.portActive (s : State) (p : Nat) : Bool := s.on BRL_PORTp_STATUS_ACTIVE p

/-- The other port of a port's ring (R566). -/
def otherPort (p : Nat) : Nat := if p % 2 = 0 then p + 1 else p - 1

/-- The frame types of R559. -/
def frRead : Nat := 0
def frWrite : Nat := 1
def frResponse : Nat := 2
def frMarker : Nat := 3
def frReady : Nat := 4
def frStart : Nat := 5
def frEnum : Nat := 6
def frEnumTable : Nat := 7
def frStream : Nat := 8

/-- The class of a frame: 0 request, 1 response, 2 system, 3 stream (R559). -/
def BrFrame.class (f : BrFrame) : Nat := classOf f.kind

/-- The blocks of a frame: SOF, two header blocks, data, EOF (R558, R559). -/
def BrFrame.blocks (f : BrFrame) : Nat := 4 + f.data.length

/-- The broadcast ID (R570). -/
def brAll : Nat := 0x3FFF

/-- A system frame of this device. -/
def sysFrame (s : State) (kind dest : Nat) (data : List Word) : BrFrame :=
  { dest := dest, src := s.devId, kind := kind, tag := 0, status := 0, poison := false, cls := 0, hops := 0, addr := 0,
    size := 0, index := 0, data := data }

/-- A port may send a frame: it is ACTIVE, holds the credits (two frames of 36 blocks for a new request, R561), and the
32 KiB replay buffer has room (R560). -/
def portMay (fresh : Bool) (f : BrFrame) (p : Nat) (s : State) : Bool :=
  let x := s.brPort p
  let need := if fresh ∧ f.class = 0 then 72 else f.blocks
  s.portActive p && decide (need ≤ nth 0 x.credits f.class)
    && decide (((x.replay.map (fun r => r.2.blocks)).sum) + f.blocks ≤ 4096)

/-- A frame leaves with the next SEQ. -/
def putFrame (f : BrFrame) (p : Nat) (s : State) : State :=
  let x := s.brPort p
  (s.modPort p (fun x => { x with
    txSeq := (x.txSeq + 1) % 4096, replay := x.replay ++ [(x.txSeq, f)]
    credits := modNth x.credits f.class (fun c => c - f.blocks) })).emit (.frame p x.txSeq f)

/-- One pass over a port's queue: every frame that may leave and that no frame of its class stands before leaves. -/
def pumpQueue (p : Nat) : List (Bool × BrFrame) → List Nat → State → State
  | [], _, s => s
  | e :: r, blocked, s =>
    if ¬ blocked.contains e.2.class ∧ portMay e.1 e.2 p s then pumpQueue p r blocked (putFrame e.2 p s)
    else pumpQueue p r (e.2.class :: blocked) (s.modPort p (fun x => { x with queue := x.queue ++ [e] }))

/-- The port sends what it may. -/
def pumpPort (p : Nat) (s : State) : State :=
  pumpQueue p (s.brPort p).queue [] (s.modPort p (fun x => { x with queue := [] }))

/-- A frame is handed to a port. -/
def sendFrame (fresh : Bool) (f : BrFrame) (p : Nat) (s : State) : State :=
  pumpPort p (s.modPort p (fun x => { x with queue := x.queue ++ [(fresh, f)] }))

/-- The position of a device in a ring's map, or none. -/
def mapPosition (ring dev : Nat) (s : State) : Option Nat :=
  (List.range 64).find? (fun k => s.on BRL_MAPk_VALID (64 * ring + k) && decide (s.fld BRL_MAPk_DEVID (64 * ring + k) = dev))

/-- This device's position in a ring, and the ring's size. -/
def ringPlace (ring : Nat) (s : State) : Nat × Nat :=
  if ring = 0 then (s.fld BRL_ID_POSITION, s.fld BRL_ID_RING_SIZE) else (s.fld BRL_ID_POSITION1, s.fld BRL_ID_RING_SIZE1)

/-- The hops to a device east and west round a ring. -/
def ringHops (ring dev : Nat) (s : State) : Option (Nat × Nat) :=
  match mapPosition ring dev s with
  | none => none
  | some t =>
    let (pos, size) := ringPlace ring s
    let east := (t + size - pos) % max 1 size
    some (east, size - east)

/-- The port of a ring by which a frame leaves, from the hops to its device east and west (R569); none where neither is
ACTIVE. -/
def pickPort (ring : Nat) (h : Nat × Nat) (s : State) : Option Nat :=
  let first := if h.1 ≤ h.2 then 2 * ring else 2 * ring + 1
  if s.portActive first then some first
  else if s.portActive (otherPort first) then some (otherPort first) else none

/-- The port of one ring that a frame to a device in that ring's map leaves by. -/
def ringPort (ring dev : Nat) (s : State) : Option Nat := (ringHops ring dev s).bind (fun h => pickPort ring h s)

/-- The port a frame of this device to a device leaves by (R569); none where it cannot. -/
def routePort (dev : Nat) (s : State) : Option Nat :=
  match ringHops 0 dev s, ringHops 1 dev s with
  | some a, some b => if min b.1 b.2 < min a.1 a.2 then pickPort 1 b s else pickPort 0 a s
  | some a, none => pickPort 0 a s
  | none, some b => pickPort 1 b s
  | none, none => none

/-- A broadcast of this device round a ring: east, or both ways where the east port is not ACTIVE (R570). -/
def broadcast (ring : Nat) (f : BrFrame) (s : State) : State :=
  if s.portActive (2 * ring) then sendFrame true f (2 * ring) s
  else if s.portActive (2 * ring + 1) then sendFrame true f (2 * ring + 1) s else s

/-- A broadcast on every ring that has an ACTIVE port. -/
def broadcastAll (f : BrFrame) (s : State) : State := broadcast 1 f (broadcast 0 f s)

/-- A port returns to stage 1: what the link held is gone (R538, R562). -/
def portToStage1 (p : Nat) (s : State) : State :=
  let s := s.modPort p (fun x => { BrPort.reset with queue := x.queue })
  let s := ((s.setFld BRL_PORTp_STATUS_STAGE 1 p).setFld BRL_PORTp_STATUS_ACTIVE 0 p).setFld BRL_PORTp_STATUS_WIDTH 0 p
  let s := (s.setFld BRL_PORTp_STATUS_RATE 0 p).setFld LNK_QUADq_RATE 0 (4 + p)
  { s with
    lanes := { s.lanes with settled := s.lanes.settled.filter (fun n => decide (n / 4 ≠ 4 + p)) }
    tck := { s.tck with ports := s.tck.ports.set p none, stamps := s.tck.stamps.set p [] } }

/-- A link goes down (R562). -/
def linkDown (p : Nat) (s : State) : State :=
  if s.portActive p then
    raise (0x184 + p) 1 ((portToStage1 p s).addFld BRL_PORTp_COUNTS_LINK_DOWNS 1 p)
  else s

/-- Frames up to a SEQ are acknowledged. -/
def dropAcked (seq : Nat) (l : List (Nat × BrFrame)) : List (Nat × BrFrame) :=
  match l.findIdx? (fun r => decide (r.1 = seq)) with
  | some i => l.drop (i + 1)
  | none => l

/-- `ACK` (R560). -/
def execAck (p : Fin 4) (seq : Nat) (s : State) : Host.Outcome State Fault Refusal :=
  if s.portActive p then
    .next (pumpPort p (s.modPort p (fun x =>
      let r := dropAcked seq x.replay
      { x with replay := r, resent := if r.length < x.replay.length then 0 else x.resent })))
  else .next s

/-- The frames after the one a NAK names are sent again; the sixteenth time in a row the link goes down (R560, R562). -/
def resendAfter (p seq : Nat) (s : State) : State :=
  let x := s.brPort p
  let r := dropAcked seq x.replay
  let n := if r.length < x.replay.length then 1 else x.resent + 1
  let s := s.modPort p (fun x => { x with replay := r, resent := n })
  if r.isEmpty then s
  else
    let s := s.addFld BRL_PORTp_COUNTS_REPLAYS r.length p
    let s := r.foldl (fun s e => s.emit (.frame p e.1 e.2)) s
    if 16 ≤ n then linkDown p s else s

/-- `NAK` (R560). -/
def execNak (p : Fin 4) (seq : Nat) (s : State) : Host.Outcome State Fault Refusal :=
  if s.portActive p then .next (resendAfter p seq s) else .next s

/-- `ACK_SEND` (R560). -/
def execAckSend (p : Fin 4) (s : State) : Host.Outcome State Fault Refusal :=
  if s.portActive p then .next (s.emit (.ack p (s.brPort p).rxSeq)) else .next s

/-- `CRED` (R561): blocks of buffer freed by class. -/
def execCred (p : Fin 4) (blocks : List Nat) (s : State) : Host.Outcome State Fault Refusal :=
  if s.portActive p then
    .next (pumpPort p (s.modPort p (fun x => { x with credits := x.credits.zipIdx.map (fun c => c.1 + nth 0 blocks c.2) })))
  else .next s

/-- A frame of the right SEQ and CRC has arrived at a port (R560). -/
def frameIn (p : Nat) (s : State) : State := s.modPort p (fun x => { x with rxSeq := (x.rxSeq + 1) % 4096 })

/-- `FRAME_CHECK_FAIL` (R560): a received frame that fails its check is discarded, and so is every later one, since its SEQ is not
the next; each is answered NAK. -/
def execFrameCheckFail (p : Fin 4) (x : SeenFrame) (s : State) : Host.Outcome State Fault Refusal :=
  if s.portActive p ∧ ¬ x.good (s.brPort p).rxSeq then
    .next ((s.addFld BRL_PORTp_COUNTS_CRC_ERR 1 p).emit (.nak p (s.brPort p).rxSeq))
  else .next s

/-- `SYNC_ERR_BLOCK` (R556, R558): a block's sync header, the line's 58 bits before its payload, and its payload as it came. -/
def execSyncErrBlock (p : Fin 4) (sync : BitVec 2) (line : BitVec 58) (raw : Word) (s : State) : Host.Outcome State Fault Refusal :=
  if blockGood sync (BitVec.ofNat 64 (payloadOf (descramble line (payloadBits raw)))) then .next s
  else .next (s.addFld BRL_PORTp_COUNTS_SYNC_ERR 1 p)

/-- `BROCIA_LINK_DOWN` (R562). -/
def execBrociaLinkDown (p : Fin 4) (s : State) : Host.Outcome State Fault Refusal := .next (linkDown p s)

/-- `ALIGN` (R557): the lanes are deskewed. -/
def execAlign (p : Fin 4) (s : State) : Host.Outcome State Fault Refusal :=
  .next (s.modPort p (fun x => { x with deskewed := true }))

/-- `ALIGN_SEND` (R557). -/
def execAlignSend (p : Fin 4) (s : State) : Host.Outcome State Fault Refusal :=
  if s.portActive p then .next (s.emit (.align p)) else .next s

/-- `TICK` (R565): the last four stamps of a port are kept. -/
def execTick (p : Fin 4) (low8 : Nat) (sincePs : Int) (s : State) : Host.Outcome State Fault Refusal :=
  let st : TickStamp := { low8 := low8 % 256, sincePs := sincePs, count := s.tickCount, ticks := s.tck.ticks }
  .next { s with tck := { s.tck with
    stamps := s.tck.stamps.set p ((s.tck.stamps.getD p [] ++ [st]).drop ((s.tck.stamps.getD p []).length - 3)) } }

end Sys2Proof.Machine
end

