-- ==== Sys2Proof/Machine/Command.lean ====
section
/-! DEFINITION. The start and the end of a command packet: the checks of R587, replies and where they go (R583 to R593). -/

namespace Sys2Proof.Machine

/-! ### Commands and replies (R583 to R593) -/

/-- The reply statuses of R593. -/
inductive Rs
  | ok | invalid | unknown | badLength | notOwner | notMember | busy | failed | errData | locked
  | overQuota | notFree | noSpace | notSource | loadFailed | superseded | decode | queueFull
  deriving DecidableEq, Repr

/-- The code of a reply status. -/
def Rs.code : Rs → Nat
  | .ok => 0x00 | .invalid => 0x01 | .unknown => 0x02 | .badLength => 0x03 | .notOwner => 0x04
  | .notMember => 0x05 | .busy => 0x06 | .failed => 0x07 | .errData => 0x08 | .locked => 0x09
  | .overQuota => 0x0A | .notFree => 0x0B | .noSpace => 0x0C | .notSource => 0x0D | .loadFailed => 0x0E
  | .superseded => 0x0F | .decode => 0x10 | .queueFull => 0x11

/-- The header fields of a packet (R582). -/
def Packet.opcode (p : Packet) : Nat := bits p.header 0 16
def Packet.tag (p : Packet) : Nat := bits p.header 16 16
def Packet.len (p : Packet) : Nat := bits p.header 32 8
def Packet.quiet (p : Packet) : Bool := bit p.header 40
def Packet.reserved (p : Packet) : Nat := bits p.header 41 23

/-- Parameter word Wk, zero where the packet does not hold it. -/
def Packet.w (p : Packet) (k : Nat) : Word := p.words.getD (k - 1) 0

/-- The class queue of a master: 0 HOST, 1 RING, 2 FABRIC, 3 JTAG (R585). -/
def queueOf (m : Ident) : Nat := identClass m - 1

/-- The master has a reply queue (R584). -/
def hasReplyQueue (m : Ident) : Bool :=
  match slotOf m with
  | some n => decide (n < 5 ∨ (8 ≤ n ∧ n < 76))
  | none => false

/-- The replies that wait for a slot. -/
def State.replyQueue (s : State) (slot : Nat) : List Reply := Memory.get (fun _ => []) s.hc.replies slot

/-- The state with a slot's reply queue replaced, and HC_REPLY_STATUS.QUEUED with it. -/
def setReplyQueue (slot : Nat) (l : List Reply) (s : State) : State :=
  { s.setMfld HC_REPLY_STATUS_QUEUED slot l.length with
    hc := { s.hc with replies := Memory.set (fun _ => []) s.hc.replies slot l } }

/-- A reply header (R588). -/
def replyHeader (tag : Nat) (st : Rs) (len opcode : Nat) : Word :=
  mkWord [(0, 16, tag), (16, 8, st.code), (24, 8, len), (32, 16, opcode)]

/-- Place a reply in a local master's queue and raise its reply event (R589). -/
def queueReply (slot : Nat) (r : Reply) (s : State) : State :=
  let s := setReplyQueue slot (s.replyQueue slot ++ [r]) s
  if slot < 4 then raise (0x108 + slot) 0 s else s

/-- The reply to a ring peer leaves as a remote WRITE to HC_REPLY_IN whose header carries the originating class and index
(R590, R572); one that cannot leave is lost (R703). -/
def sendRemoteReply (m : Ident) (r : Reply) (s : State) : State :=
  match routePort (identDev m) s with
  | none => s.setMfld HC_REPLY_STATUS_LOST 6 (s.mfld HC_REPLY_STATUS_LOST 6 + 1)
  | some p =>
    let tag := s.ring.nextTag
    let header := setBits (setBits r.header 48 4 (bits m 10 4)) 52 10 (bits m 0 10)
    let f : BrFrame := { sysFrame s frWrite (identDev m) (header :: r.words) with
      tag := tag, addr := 0x4000000000 + HC_REPLY_IN_REPLY.off, size := 8 * (1 + r.words.length) }
    let s := { s with ring := { s.ring with nextTag := (tag + 1) % 65536, remote := s.ring.remote ++ [(tag, .reply)] } }
    sendFrame true f p s

/-- Deliver a reply to a command's issuer (R589, R590). -/
def sendReply (m : Ident) (r : Reply) (s : State) : State :=
  if identClass m = 2 then sendRemoteReply m r s
  else
    match slotOf m with
    | some n => queueReply n r s
    | none => s

/-- Post the reply of a packet with a status and result words. -/
def postReply (p : Packet) (st : Rs) (ws : List Word) (s : State) : State :=
  sendReply p.issuer { header := replyHeader p.tag st ws.length p.opcode, words := ws } s

/-- Free one reserved reply entry of a local master (R584). -/
def freeEntry (m : Ident) (s : State) : State :=
  if hasReplyQueue m then
    match slotOf m with
    | some n => s.setMfld HC_SUBMIT_STATUS_RESERVED n (s.mfld HC_SUBMIT_STATUS_RESERVED n - 1)
    | none => s
  else s

/-- HC_QUEUEc.LEVEL follows the queue. -/
def setQueue (c : Nat) (l : List Packet) (s : State) : State :=
  { s.setFld HC_QUEUEc_LEVEL l.length c with hc := { s.hc with queues := s.hc.queues.set c l } }

/-- A command starts (R586): it leaves the front of its class queue and joins the commands in execution. A command that
was in no queue reserves its reply entry as its submission would have (log entry 8). -/
def beginCommand (p : Packet) (s : State) : State :=
  let c := queueOf p.issuer
  let q := s.hc.queues.getD c []
  let s := { s with hc := { s.hc with turn := (c + 1) % 4 } }
  let s :=
    if q.head? = some p then setQueue c q.tail s
    else if hasReplyQueue p.issuer then
      match slotOf p.issuer with
      | some n => s.setMfld HC_SUBMIT_STATUS_RESERVED n (s.mfld HC_SUBMIT_STATUS_RESERVED n + 1)
      | none => s
    else s
  let s := s.addFld HC_QUEUEc_STARTED 1 c
  let s := { s with hc := { s.hc with running := s.hc.running ++ [Running.mk p false] } }
  s.setFld HC_STATUS_EXECUTING s.hc.running.length

/-- A command ends with a status and result words: it leaves the commands in execution and its reply is posted, unless it
is QUIET and OK, or its replies are discarded (R584, R588, R591). -/
def endCommand (p : Packet) (st : Rs) (ws : List Word) (s : State) : State :=
  let gone := s.hc.running.find? (fun r => decide (r.pkt = p))
  let s := { s with hc := { s.hc with running := dropFirstP (fun r => decide (r.pkt = p)) s.hc.running } }
  let s := s.setFld HC_STATUS_EXECUTING s.hc.running.length
  if (match gone with | some r => r.discard | none => false) then s
  else if p.quiet ∧ st = .ok then freeEntry p.issuer s
  else postReply p st ws s

/-- Who may issue a command (R592). -/
inductive IssuerRule
  | owner | any
  deriving DecidableEq, Repr

/-- The checks of R587 that come before a command's own work, in order; the member rule of the context commands is the
commands' own. `need` is the highest parameter word the command reads. -/
def packetCheck (opcode need : Nat) (rule : IssuerRule) (p : Packet) (s : State) : Option Rs :=
  if p.reserved ≠ 0 then some .invalid
  else if p.opcode ≠ opcode then some .unknown
  else if p.len < need then some .badLength
  else if rule = .owner ∧ ¬ s.isOwner p.issuer then some .notOwner
  else none

/-- A class queue, as it stands with a packet that has just come where it does not yet wait (log entry 8). -/
def queueWith (p : Packet) (s : State) (c : Nat) : List Packet :=
  let q := s.hc.queues.getD c []
  if c = queueOf p.issuer ∧ p ∉ q then q ++ [p] else q

/-- The hearth controller takes packet `p` next (R586): it is the oldest of the first class that has one, from the class whose turn
it is on. -/
def mayStart (p : Packet) (s : State) : Bool :=
  let turns := (List.range 4).map (fun i => queueWith p s ((s.hc.turn + i) % 4))
  decide (turns.findSome? (fun q => q.head?) = some p)

/-- The opcodes of R592. -/
def opcodes : List Nat :=
  [0x0101, 0x0102, 0x0103, 0x0104, 0x0105, 0x0106, 0x0107, 0x0108, 0x0109, 0x0201, 0x0202,
   0x0301, 0x0302, 0x0303, 0x0304, 0x0305, 0x0306, 0x0401, 0x0402, 0x0403, 0x0404, 0x0405,
   0x0501, 0x0502, 0x0503, 0x0504, 0x0601, 0x0602, 0x0603, 0x0701, 0x0702, 0x0801, 0x0802, 0x0803, 0x0F01, 0x0F02]

/-- Start a command and run `work` on it once the checks of R587 pass. None starts while 16 commands run, the device is dark, or
another packet comes first (R586, R622, R642); the row of an opcode starts packets of that opcode, and of one that no row has, which
get UNKNOWN. -/
def runCommand (opcode need : Nat) (rule : IssuerRule) (p : Packet) (work : State → State) (s : State) : State :=
  if s.dark ∨ 16 ≤ s.hc.running.length ∨ ¬ mayStart p s ∨ (p.opcode ≠ opcode ∧ p.opcode ∈ opcodes) then s
  else
    let s := beginCommand p s
    match packetCheck opcode need rule p s with
    | some st => endCommand p st [] s
    | none => work s

end Sys2Proof.Machine
end

