-- ==== Sys2Proof/Machine/Front.lean ====
section
/-! DEFINITION. What every BAR0 write passes before it takes effect: the lease (R603), the clock gate of the block (R639)
and the access class (R4 to R6); and the generic effect of a write by field types (R7). -/

namespace Sys2Proof.Machine

/-- The CLK_GATE bit of the block a BAR0 offset lies in (R634); none for blocks whose gate is always open. -/
def gateOf (off : Nat) : Option Nat :=
  if 0x800000 ≤ off ∧ off < 0x802400 then some 5
  else if 0x1C00000 ≤ off ∧ off < 0x1C20000 then some 6
  else if 0x500000 ≤ off ∧ off < 0x506000 then some 7
  else if 0xE00000 ≤ off ∧ off < 0xE00040 then some 8
  else if 0xF00000 ≤ off ∧ off < 0xF10000 then some 9
  else if 0xC00000 ≤ off ∧ off < 0xE00000 then some (10 + (off - 0xC00000) / 0x80000)
  else if 0x1400000 ≤ off ∧ off < 0x1500000 then some (14 + (off - 0x1400000) / 0x40000)
  else if 0x1840000 ≤ off ∧ off < 0x1841400 then some 18
  else if 0x1000000 ≤ off ∧ off < 0x1200000 then some (32 + (off - 0x1000000) / 0x10000)
  else none

/-- Gate `b` is open: its bit is 1, its block is neither closing nor ramping (R634 to R638), the power state does not hold
it closed (R648) and no trip has stopped its domain (R641). -/
def State.gateOpen (s : State) (b : Nat) : Bool :=
  bit (s.reg CLK_GATE_FIXED.off) b && !bit (s.reg CLK_GATE_CLOSING_CLOSING.off) b
    && !bit (s.reg CLK_GATE_RAMP_RAMPING.off) b && !s.pwr.forced.testBit b && !s.pwr.stopped

/-- The block of a BAR0 offset is not gated. -/
def State.blockOpen (s : State) (off : Nat) : Bool :=
  match gateOf off with
  | none => true
  | some b => s.gateOpen b

/-- The context engine's endpoints: e = 4 × router, routers 10, 60, 19 and 69 (R459). -/
def ctxEndpoints : List Nat := [40, 240, 76, 276]

/-- The endpoint of a channel die's link (R459). -/
def dieEndpoint (d : Nat) : Nat := match d with | 0 => 80 | 1 => 200 | 2 => 116 | _ => 236

/-- The endpoint of signal engines 8q to 8q + 7 (R459). -/
def sgeEndpoint (q : Nat) : Nat := match q with | 0 => 41 | 1 => 241 | 2 => 77 | _ => 277

/-- A delivered request has been answered: its endpoint's outstanding count falls (R484). -/
def answeredAt (e : Nat) (s : State) : State :=
  s.setFld NOC_EPe_STATUS_OUTSTANDING (s.fld NOC_EPe_STATUS_OUTSTANDING e - 1) e

/-- An endpoint's damper that is OPEN is raised (R484). -/
def raiseEndpoint (e : Nat) (s : State) : State :=
  if s.fld NOC_EPe_STATUS_DAMPER e = 0 then s.setFld NOC_EPe_STATUS_DAMPER 1 e else s

/-- An endpoint's damper that is SHUT goes OPEN (R485). -/
def openEndpoint (e : Nat) (s : State) : State :=
  if s.fld NOC_EPe_STATUS_DAMPER e = 2 then s.setFld NOC_EPe_STATUS_DAMPER 0 e else s

/-- An access that a gated block's register answers ERR_GATED (R637, R639): a violation of kind RESPONSE, and one response
of NOC_COUNTS.GATED (R481). -/
def gatedAccess (m : Ident) (off : Nat) (write : Bool) (s : State) : State :=
  (violation m .response write off s).addFld NOC_COUNTS_GATED 1

/-- A refused partial write to an uncorrectable or poisoned word (R437): a violation of kind RESPONSE of a host master. -/
def refusedPartial (m : Ident) (off : Nat) (s : State) : State :=
  if identClass m = 1 then violation m .response true off s else s

/-- The requests that the context store's window turns away at its endpoint, router 10 EP 0 (R472, R482): FENCED while its
damper is not OPEN, as in retention (R651), else ERR_GATED while its gate is not open; `turned` is the master's side. -/
def windowFront (m : Ident) (write : Bool) (turned eff : State → State) (s : State) : State :=
  if s.dark then s
  else if s.fld NOC_EPe_STATUS_DAMPER 40 ≠ 0 then
    turned (((violation m .response write 0 s).addFld NOC_COUNTS_FENCED 1).addFld NOC_EPe_STATUS_FENCED 1 40)
  else if ¬ s.gateOpen 5 then turned (gatedAccess m 0 write s)
  else eff s

/-- What a write passes before it takes effect; a device that is dark takes none (R622, R642, R646). -/
def writeFront (m : Ident) (off : Nat) (h : Half) (acc : AccessClass) (eff : State → State) (s : State) : State :=
  if s.dark then s
  else
  let s := renewLease m s
  if ¬ s.blockOpen off then gatedAccess m (off + h.skip) true s
  else match acc with
    | .ownerOnly => if s.isOwner m then eff s else violation m .ownerOnly true (off + h.skip) s
    | .anyMaster => eff s
    | .restricted => eff s

/-- The code of a status in records and responses (R151, R481). -/
def Status.code : Status → Nat
  | .ok => 0 | .errData => 1 | .errGated => 2 | .fenced => 3 | .decode => 4 | .denied => 5 | .timeout => 6

/-- The offset of copy (i, j, k) of a register. -/
def RegName.off (r : RegName) (ix : List Nat) : Nat :=
  (regInfo r).base + (((regInfo r).index.zip ix).map (fun x => x.1.stride * x.2)).foldl (· + ·) 0

/-- A write to a register by its name and indexes, with its effect. -/
def regWrite (r : RegName) (ix : List Nat) (m : Ident) (h : Half) (eff : State → State) (s : State) : State :=
  writeFront m (r.off ix) h (regInfo r).access eff s

/-- What a read passes: a gated block's registers read zero, and the read counts as a violation (R639). -/
def readFront (m : Ident) (off : Nat) (h : Half) (eff : State → State) (s : State) : State :=
  if s.dark then s
  else if s.blockOpen off then eff s else (gatedAccess m (off + h.skip) false s).emit (.answer m 0)

/-- The register's value with the half that a write reaches replaced (R11). -/
def State.merged (s : State) (key : Nat) (h : Half) (data : Word) : Word :=
  (s.reg key &&& ~~~ h.mask) ||| (data &&& h.mask)

/-- One field of a write, by its type (R7); `locked` says whether a lock condition holds for the field. -/
def writeField (data mask : Word) (locked : Bool) (f : FieldSpec) (v : Word) : Word :=
  let fm := fieldMask f.lo f.w &&& mask
  match f.ty with
  | .ro => v
  | .wo => v
  | .rc => v
  | .rw => (v &&& ~~~ fm) ||| (data &&& fm)
  | .rw1c => v &&& ~~~ (data &&& fm)
  | .rw1s => v ||| (data &&& fm)
  | .rwl => if locked then v else (v &&& ~~~ fm) ||| (data &&& fm)

/-- The value a write leaves in a register, field by field (R7 to R9). -/
def writeFields (locked : Nat → Bool) (old data mask : Word) (fs : List FieldSpec) : Word :=
  fs.foldl (fun v f => writeField data mask (locked f.lo) f v) old

/-- The generic effect of a write: every field by its type. -/
def plainWrite (fs : List FieldSpec) (key : Nat) (locked : Nat → Bool) (h : Half) (data : Word) (s : State) : State :=
  s.setReg key (writeFields locked (s.reg key) data h.mask fs)

end Sys2Proof.Machine
end

