-- ==== Sys2Proof/Machine/Protect.lean ====
section
/-! DEFINITION. The protected memories (chapter 11): cross-parity, syndrome decode, the poison mark, whole and partial
writes, mended words and their pending write-backs. -/

namespace Sys2Proof.Machine

/-- The parity of the low `n` bits of a word. -/
def parity (v : Word) : Nat → Bool
  | 0 => false
  | n + 1 => xor (bit v n) (parity v n)

/-- The row parities of a word: RP[r] is the XOR of d[8r + 7:8r] (R431). -/
def rowParity (d : Word) : Nat → Nat
  | 0 => 0
  | r + 1 => rowParity d r + bnat (parity (d >>> (8 * r)) 8) * 2 ^ r

/-- The XOR of the eight rows: bit c is the parity of column c. -/
def columnFold (d : Word) : Word :=
  (d ^^^ d >>> 8 ^^^ d >>> 16 ^^^ d >>> 24 ^^^ d >>> 32 ^^^ d >>> 40 ^^^ d >>> 48 ^^^ d >>> 56) &&& 0xFF

/-- The column check bits (R431): each column's parity with the parity of RP[7:0]. -/
def columnCheck (d : Word) (rp : Nat) : Nat :=
  if parity (BitVec.ofNat 64 rp) 8 then 255 - (columnFold d).toNat else (columnFold d).toNat

/-- The check bits of a data word: CP in [15:8] and RP in [7:0] (R430). -/
def checkBits (d : Word) : BitVec 16 :=
  BitVec.ofNat 16 (rowParity d 8 + 256 * columnCheck d (rowParity d 8))

/-- A clean stored word. -/
def PWord.clean (d : Word) : PWord := { data := d, chk := checkBits d, mark := 0 }

/-- A word stored with the poison mark (R735). -/
def PWord.poisoned (d : Word) : PWord := { data := d, chk := checkBits d, mark := 3 }

/-- How a stored word decodes (R432): as stored, mended, or uncorrectable. -/
inductive Decoded
  | clean (d : Word)
  | mended (d : Word)
  | bad
  deriving DecidableEq, Repr

/-- The number of 1 bits among the low `n` bits. -/
def weight (v : Nat) : Nat → Nat
  | 0 => 0
  | n + 1 => weight v n + bnat (v.testBit n)

/-- The row syndrome SR (R432). -/
def PWord.sr (p : PWord) : Nat := rowParity p.data 8 ^^^ bits p.chk 0 8

/-- The column syndrome SC (R432). -/
def PWord.sc (p : PWord) : Nat := columnCheck p.data (bits p.chk 0 8) ^^^ bits p.chk 8 8

/-- The number of the lowest set bit among the low `n` bits. -/
def lowestBit (v : Nat) : Nat → Nat
  | 0 => 0
  | n + 1 => if weight v n = 0 then n else lowestBit v n

/-- The syndrome decode of R432. -/
def PWord.decode (p : PWord) : Decoded :=
  match weight p.sr 8, weight p.sc 8 with
  | 0, 0 => .clean p.data
  | 1, 1 => .mended (p.data ^^^ (1 : Word) <<< (8 * lowestBit p.sr 8 + lowestBit p.sc 8))
  | 1, 8 => .mended p.data
  | 0, 1 => .mended p.data
  | _, _ => .bad

/-- The word is poisoned: any mark other than 0b00 (R435). -/
def PWord.isPoisoned (p : PWord) : Bool := decide (p.mark ≠ 0)

/-- The word reads as uncorrectable or poisoned. -/
def PWord.isBad (p : PWord) : Bool := p.isPoisoned || decide (p.decode = .bad)

/-- The data of a word that decodes, or none where it is uncorrectable or poisoned. -/
def PWord.value? (p : PWord) : Option Word :=
  if p.isPoisoned then none
  else match p.decode with
    | .clean d => some d
    | .mended d => some d
    | .bad => none

/-- The data of a word, zero where it does not decode. -/
def PWord.value (p : PWord) : Word := p.value?.getD 0

/-- The word decodes with a single-bit error. -/
def PWord.isMended (p : PWord) : Bool :=
  !p.isPoisoned && (match p.decode with | .mended _ => true | _ => false)

/-- The classes of R438, whose numbers head the keys of the protected memories. -/
def memKey (cls index : Nat) : Nat := cls * 16777216 + index

/-- Word k of context c (class CTX). -/
def ctxKey (c k : Nat) : Nat := memKey 0 (4 * c + k)
/-- The memory word that holds the first bit of context c's link entry (class ENG; 28 bits an entry, log entry 12). -/
def linkKey (c : Nat) : Nat := memKey 1 (28 * c / 64)
/-- The memory word that holds the last bit of context c's link entry. -/
def linkKeyEnd (c : Nat) : Nat := memKey 1 ((28 * c + 27) / 64)
/-- Flight entry i (class ENG). -/
def flightKey (i : Nat) : Nat := memKey 1 (458752 + i)
/-- Bank store word at byte address a (class BANK). -/
def bankKey (a : Nat) : Nat := memKey 2 (a / 8)
/-- Signal engine e's memory words: X at 0, Y at 8192, P at 16384 (class SGE). -/
def sgeKey (e w : Nat) : Nat := memKey 3 (20480 * e + w)
/-- Vector a of group g (class VMEM). -/
def vmemKey (g a : Nat) : Nat := memKey 4 (32768 * g + a)
/-- Word w of block memory b (class BRAM). -/
def bramKey (b w : Nat) : Nat := memKey 5 (512 * b + w)
/-- The word that holds the signature entries of frames 2w and 2w + 1 (class SIG). -/
def sigKey (w : Nat) : Nat := memKey 6 w
/-- Word w of the non-volatile array (class NVA). -/
def nvaKey (w : Nat) : Nat := memKey 7 w

/-- The ADDR of swept frame number `n` (R357, R418, R419): FKIND 0 and FKIND 2 frames of regions 0 to 63, then of the
static border. -/
def sweptAddr (n : Nat) : Nat :=
  if n < 391168 then
    let k := n % 6112
    n / 6112 * 2 ^ 25 + (if k < 6080 then k else 2 ^ 24 + (k - 6080))
  else
    let k := n - 391168
    2 ^ 31 + (if k < 21952 then k else 2 ^ 24 + (k - 21952))

/-- The bytes of a 32-bit number, lowest first. -/
def bytes32 (a : Nat) : List (BitVec 8) :=
  [BitVec.ofNat 8 a, BitVec.ofNat 8 (a / 2 ^ 8), BitVec.ofNat 8 (a / 2 ^ 16), BitVec.ofNat 8 (a / 2 ^ 24)]

/-- The CRC of a frame (R357): over its ADDR and its 512 bytes. -/
def frameCrc (addr : Nat) (ws : List Word) : BitVec 32 := crc32c (bytes32 addr ++ ws.flatMap wordBytes)

/-- A cleared frame (R305). -/
def clearedFrame : List Word := List.replicate 64 0

/-- The signature word of a cleared device: entries of frames 2w and 2w + 1 (R418). -/
def clearedEntries (w : Nat) : Word :=
  (frameCrc (sweptAddr (2 * w)) clearedFrame).setWidth 64
    ||| ((frameCrc (sweptAddr (2 * w + 1)) clearedFrame).setWidth 64) <<< 32

/-- What a protected word that nothing has written holds: a clean zero, and in the signature store the entries of cleared
frames (log entry 5). -/
def memDefault (key : Nat) : PWord :=
  if key / 16777216 = 6 then PWord.clean (clearedEntries (key % 16777216)) else { data := 0, chk := 0, mark := 0 }

/-- The stored word at a key. -/
def State.pword (s : State) (key : Nat) : PWord := Memory.get memDefault s.mem key

/-- The state with a stored word replaced; a pending write-back of that word is dropped (R436). -/
def State.setPword (s : State) (key : Nat) (p : PWord) : State :=
  { s with mem := Memory.set memDefault s.mem key p, mends := s.mends.filter (fun k => decide (k ≠ key)) }

/-- Write a whole word: new check bits, poison cleared (R437). -/
def State.writeP (s : State) (key : Nat) (d : Word) : State := s.setPword key (PWord.clean d)

/-- Write a whole word of a write that carries the POISON bit (R735). -/
def State.writePoison (s : State) (key : Nat) (d : Word) : State := s.setPword key (PWord.poisoned d)

/-- A consumer's read files the write-back of a mended word (R434, R436). -/
def State.noteMend (s : State) (key : Nat) : State :=
  if (s.pword key).isMended then { s with mends := s.mends.filter (fun k => decide (k ≠ key)) ++ [key] } else s

/-- A partial write merged with the stored word (R437, R735): none where the stored word is uncorrectable or poisoned. -/
def State.mergeP (s : State) (key : Nat) (mask d : Word) (poison : Bool) : Option State :=
  match (s.pword key).value? with
  | none => none
  | some old =>
    let v := (old &&& ~~~ mask) ||| (d &&& mask)
    some (if poison then s.writePoison key v else s.writeP key v)

/-- A write of the bytes a mask names: whole words are always made, partial words where they can be merged. -/
def State.writeMasked (s : State) (key : Nat) (mask d : Word) (poison : Bool) : Option State :=
  if mask = 0xFFFFFFFFFFFFFFFF then some (if poison then s.writePoison key d else s.writeP key d)
  else s.mergeP key mask d poison

/-- `MENDED_WRITE_BACK` (R436): the oldest mended word that still waits is written back. -/
def execMendedWriteBack (s : State) : Host.Outcome State Fault Refusal :=
  match s.mends with
  | [] => .next s
  | k :: _ =>
    match (s.pword k).decode with
    | .mended d => .next (s.setPword k { data := d, chk := checkBits d, mark := (s.pword k).mark })
    | _ => .next { s with mends := s.mends.tail }

end Sys2Proof.Machine
end

