-- ==== Sys2Proof/Machine/Context.lean ====
section
/-! DEFINITION. The context store (chapter 03): the record, its counts, quarantine, filing on the calendar, and the
context commands, window and domain registers. -/

namespace Sys2Proof.Machine

/-! ### The record (R74 to R80) -/

/-- The four words of a context. -/
structure Ctx where
  w0 : Word
  w1 : Word
  w2 : Word
  w3 : Word
  deriving DecidableEq, Repr

def Ctx.state (c : Ctx) : Nat := bits c.w0 0 3
def Ctx.kind (c : Ctx) : Nat := bits c.w0 3 3
def Ctx.ownerField (c : Ctx) : Nat := bits c.w0 6 4
def Ctx.period (c : Ctx) : Nat := bits c.w0 10 20
def Ctx.nextDue (c : Ctx) : Nat := bits c.w0 30 32
def Ctx.seen (c : Ctx) : Bool := bit c.w0 62
def Ctx.late (c : Ctx) : Bool := bit c.w0 63
def Ctx.chA (c : Ctx) : Nat := bits c.w1 0 11
def Ctx.chB (c : Ctx) : Nat := bits c.w1 11 11
def Ctx.recPolicy (c : Ctx) : Nat := bits c.w1 22 2
def Ctx.onFail (c : Ctx) : Nat := bits c.w1 24 2
def Ctx.delta (c : Ctx) : Bool := bit c.w1 26
def Ctx.isSigned (c : Ctx) : Bool := bit c.w1 27
def Ctx.param (c : Ctx) : Nat := bits c.w1 28 12
def Ctx.pointer (c : Ctx) : Nat := bits c.w1 40 24
def Ctx.lower (c : Ctx) : Nat := bits c.w2 0 24
def Ctx.upper (c : Ctx) : Nat := bits c.w2 24 24
def Ctx.settle (c : Ctx) : Nat := bits c.w2 48 13
def Ctx.retry (c : Ctx) : Nat := bits c.w2 61 3
def Ctx.pass (c : Ctx) : Nat := bits c.w3 0 20
def Ctx.fail (c : Ctx) : Nat := bits c.w3 20 20
def Ctx.last (c : Ctx) : Nat := bits c.w3 40 24

def Ctx.setState (c : Ctx) (v : Nat) : Ctx := { c with w0 := setBits c.w0 0 3 v }
def Ctx.setNextDue (c : Ctx) (v : Nat) : Ctx := { c with w0 := setBits c.w0 30 32 v }
def Ctx.setSeen (c : Ctx) (b : Bool) : Ctx := { c with w0 := setBits c.w0 62 1 (bnat b) }
def Ctx.setLate (c : Ctx) (b : Bool) : Ctx := { c with w0 := setBits c.w0 63 1 (bnat b) }
def Ctx.setPass (c : Ctx) (v : Nat) : Ctx := { c with w3 := setBits c.w3 0 20 v }
def Ctx.setFail (c : Ctx) (v : Nat) : Ctx := { c with w3 := setBits c.w3 20 20 v }
def Ctx.setLast (c : Ctx) (v : Nat) : Ctx := { c with w3 := setBits c.w3 40 24 v }

/-- The state codes of R76. -/
def stFree : Nat := 0
def stArmed : Nat := 1
def stDue : Nat := 2
def stInFlight : Nat := 3
def stPaused : Nat := 4
def stDone : Nat := 5
def stQuarantined : Nat := 6

/-- The checks of R90 on W1, W2 and the kind, which R103 repeats on a stored record. -/
def Ctx.fieldsValid (c : Ctx) : Bool :=
  decide (c.onFail ≠ 3) && decide (¬ (c.isSigned ∧ c.kind ≤ 3)) &&
  (match c.kind with
   | 0 => decide (bits c.w1 28 4 ≤ 4 ∧ bits c.w1 63 1 = 0) && (bit c.w1 62 || decide (c.pointer = 0))
   | 1 => decide (bits c.w1 28 4 ≤ 4 ∧ c.pointer = 0)
   | 2 => decide (bits c.w1 28 4 ≤ 4 ∧ bits c.w1 34 6 = 0 ∧ c.pointer = 0) && (!bit c.w1 33 || decide (c.chA = c.chB))
   | 3 => decide (bits c.w1 37 3 = 0 ∧ c.chA = c.chB)
   | 4 => decide (bits c.w1 55 9 = 0 ∧ c.chA = c.chB)
   | 5 => decide (bits c.w1 58 6 = 0)
   | 6 => true
   | _ => decide (c.chA = 0 ∧ c.chB = 0 ∧ bits c.w1 29 11 = 0 ∧ bits c.w1 60 4 = 0 ∧ c.w2 = 0))

/-- A valid image (R90). -/
def Ctx.imageValid (c : Ctx) : Bool :=
  decide (c.state = 0) && !c.seen && !c.late && decide (c.nextDue < 1048576) && c.fieldsValid

/-- NEXT_DUE is reached (R127): the difference modulo 2^32 is below 2^31. -/
def dueReached (now : Word) (due : Nat) : Bool :=
  decide ((bits now 0 32 + 2 ^ 32 - due) % 2 ^ 32 < 2 ^ 31)

/-- The logical state (R92). -/
def Ctx.logicalState (c : Ctx) (now : Word) : Nat :=
  if c.state = stArmed ∧ dueReached now c.nextDue then stDue else c.state

/-- The context is due: ARMED with NEXT_DUE reached, or DUE (R93, R127). -/
def Ctx.isDue (c : Ctx) (now : Word) : Bool := decide (c.logicalState now = stDue)

/-- The phase of a context that goes to PAUSED (R96). -/
def pausePhase (now : Word) (due : Nat) : Nat :=
  let d := (due + 2 ^ 32 - bits now 0 32) % 2 ^ 32
  if 1 ≤ d ∧ d < 2 ^ 31 then min d 1048575 else 0

/-- The context gone to PAUSED (R75, R96). -/
def Ctx.paused (c : Ctx) (now : Word) : Ctx := (c.setNextDue (pausePhase now c.nextDue)).setState stPaused

/-! ### The store (R116) -/

/-- The owner tags of a context. -/
def State.ownerTags (s : State) (id : Nat) : Nat × Nat × Nat := Memory.get (fun _ => (0, 0, 0)) s.ctx.tags id

/-- The vote over three copies, bit by bit. -/
def vote3 (a b c : Nat) : Nat := (a &&& b) ||| (a &&& c) ||| (b &&& c)

/-- The voted owner domain of a context. -/
def State.votedOwner (s : State) (id : Nat) : Nat := let t := s.ownerTags id; vote3 t.1 t.2.1 t.2.2

/-- The words of a context as a consumer reads them: mended, and zero where they do not decode. -/
def State.ctxWords (s : State) (id : Nat) : Ctx :=
  { w0 := (s.pword (ctxKey id 0)).value, w1 := (s.pword (ctxKey id 1)).value,
    w2 := (s.pword (ctxKey id 2)).value, w3 := (s.pword (ctxKey id 3)).value }

/-- The mask of a context's uncorrectable or poisoned words. -/
def State.badWords (s : State) (id : Nat) : Nat :=
  bnat (s.pword (ctxKey id 0)).isBad + 2 * bnat (s.pword (ctxKey id 1)).isBad
    + 4 * bnat (s.pword (ctxKey id 2)).isBad + 8 * bnat (s.pword (ctxKey id 3)).isBad

/-- A consumer's read of a context files the write-backs of its mended words. -/
def State.noteCtx (s : State) (id : Nat) : State :=
  (((s.noteMend (ctxKey id 0)).noteMend (ctxKey id 1)).noteMend (ctxKey id 2)).noteMend (ctxKey id 3)

/-- The stored state as the bits stand, for a context whose W0 does not decode. -/
def State.rawState (s : State) (id : Nat) : Nat :=
  if (s.pword (ctxKey id 0)).isBad then bits (s.pword (ctxKey id 0)).data 0 3 else (s.ctxWords id).state

/-- Write all four words of a context. -/
def State.putCtx (s : State) (id : Nat) (c : Ctx) : State :=
  (((s.writeP (ctxKey id 0) c.w0).writeP (ctxKey id 1) c.w1).writeP (ctxKey id 2) c.w2).writeP (ctxKey id 3) c.w3

/-- Write the three owner tags of a context. -/
def State.putTags (s : State) (id dom : Nat) : State :=
  { s with ctx := { s.ctx with tags := Memory.set (fun _ => (0, 0, 0)) s.ctx.tags id (dom, dom, dom) } }

/-! ### The counts (R110, R113) -/

/-- One stored state more or less, for the codes 1 to 6 that have a count. -/
def bumpState (st : Nat) (up : Bool) (s : State) : State :=
  if 1 ≤ st ∧ st ≤ 6 then
    (if up then s.addFld CTX_STATE_COUNTs_COUNT 1 st else s.setFld CTX_STATE_COUNTs_COUNT (s.fld CTX_STATE_COUNTs_COUNT st - 1) st)
  else s

/-- OVER clears in the first cycle in which RESIDENT is below QUOTA (R110); a QUOTA above the store's size acts as the
store's size (R111). -/
def State.quota (s : State) (d : Nat) : Nat := min (s.fld CTX_DOMd_CFG_QUOTA d) 1048576
def clearOver (d : Nat) (s : State) : State :=
  if s.fld CTX_DOMd_STATUS_RESIDENT d < s.quota d then s.setFld CTX_DOMd_STATUS_OVER 0 d else s

/-- The counts of a change from stored state `a` to stored state `b` in domain `d` (R113). -/
def moveCount (d a b : Nat) (s : State) : State :=
  let s := bumpState b true (bumpState a false s)
  let s := if a = stQuarantined ∧ b ≠ stQuarantined then s.setFld CTX_DOMd_STATUS_QUARANTINED (s.fld CTX_DOMd_STATUS_QUARANTINED d - 1) d
           else if a ≠ stQuarantined ∧ b = stQuarantined then s.addFld CTX_DOMd_STATUS_QUARANTINED 1 d else s
  if a = stFree ∧ b ≠ stFree then
    let s := s.addFld CTX_COUNT_RESIDENT_RESIDENT 1
    let s := s.setFld CTX_COUNT_RESIDENT_FREE (s.fld CTX_COUNT_RESIDENT_FREE - 1)
    let s := s.addFld CTX_DOMd_STATUS_RESIDENT 1 d
    let s := s.addFld CTX_COUNT_CREATED_COUNT 1
    s.addFld CTX_DOMd_CREATED_COUNT 1 d
  else if a ≠ stFree ∧ b = stFree then
    let s := s.setFld CTX_COUNT_RESIDENT_RESIDENT (s.fld CTX_COUNT_RESIDENT_RESIDENT - 1)
    let s := s.addFld CTX_COUNT_RESIDENT_FREE 1
    let s := s.setFld CTX_DOMd_STATUS_RESIDENT (s.fld CTX_DOMd_STATUS_RESIDENT d - 1) d
    let s := s.addFld CTX_COUNT_DESTROYED_COUNT 1
    clearOver d (s.addFld CTX_DOMd_DESTROYED_COUNT 1 d)
  else s

/-- Write a context whose stored state was `a`, with the counts of the change. -/
def State.storeCtx (s : State) (id d a : Nat) (c : Ctx) : State := moveCount d a c.state (s.putCtx id c)

/-- Free a context: all words zero, poison cleared (R93). -/
def State.freeCtx (s : State) (id d a : Nat) : State :=
  moveCount d a stFree (s.putCtx id { w0 := 0, w1 := 0, w2 := 0, w3 := 0 })

/-- Quarantine a context (R117): W0 rewritten, W1 to W3 left as stored, the event recorded and raised. -/
def State.quarantine (s : State) (id : Nat) : State :=
  let d := s.votedOwner id
  let mask := s.badWords id
  let a := s.rawState id
  let s := moveCount d a stQuarantined (s.writeP (ctxKey id 0) (mkWord [(0, 3, stQuarantined), (6, 4, d)]))
  let s := (((s.setFld CTX_QUAR_LAST_ID id).setFld CTX_QUAR_LAST_WORDS mask).setFld CTX_QUAR_LAST_DOMAIN d).setFld
    CTX_QUAR_LAST_TICK (bits s.tickCount 0 32)
  let s := (s.addFld CTX_QUAR_COUNT_COUNT 1).setFld CTX_STATUS_QUARANTINED 1
  raise 0x081 id s

/-! ### Filing (R125, R126) -/

/-- A rebuild starts, or restarts: every list is emptied and every FILED bit cleared, by writes of the whole link memory
(R161, R737). The entries admitted already are still visited. -/
def startRebuild (s : State) : State :=
  let s := (s.setFld CTX_ENG_STATUS_REBUILDING 1).addFld CTX_ENG_STATUS_REBUILDS 1
  let s := { s with mem := s.mem.filter (fun e => decide (e.1 < memKey 1 0 ∨ memKey 1 458752 ≤ e.1)) }
  { s with ctx := { s.ctx with
    slots := [], carried := [], newCarry := [], loose := s.ctx.loose ++ s.ctx.admitted, admitted := [] } }

/-- An uncorrectable link word (R161): LINK_ERR, the calendar fault and a rebuild. -/
def linkError (s : State) : State := startRebuild (raise 0x082 0 (s.setFld CTX_ENG_STATUS_LINK_ERR 1))

/-- The link word of a context is uncorrectable or poisoned. -/
def State.linkBad (s : State) (id : Nat) : Bool :=
  (s.pword (linkKey id)).isBad || (s.pword (linkKeyEnd id)).isBad

/-- The FILED bit: the context is on a list. -/
def State.isFiled (s : State) (id : Nat) : Bool :=
  s.ctx.slots.any (fun e => decide (e.2.id = id)) || s.ctx.carried.any (fun e => decide (e.id = id))
    || s.ctx.newCarry.any (fun e => decide (e.id = id)) || s.ctx.admitted.any (fun e => decide (e.id = id))

/-- File a context on its domain's carry list. -/
def State.fileCarry (s : State) (id d : Nat) : State :=
  { s with ctx := { s.ctx with newCarry := s.ctx.newCarry ++ [{ id := id, dom := d }] } }

/-- File an ARMED or DUE context whose FILED bit is 0 (R126). The bit is read from the link memory: an uncorrectable word
there starts a rebuild, whose scan files the context (R161, R737). -/
def State.file (s : State) (id d : Nat) (c : Ctx) : State :=
  let s := (s.noteMend (linkKey id)).noteMend (linkKeyEnd id)
  if s.linkBad id then linkError s
  else if s.isFiled id then s
  else if c.isDue s.tickCount then s.fileCarry id d
  else { s with ctx := { s.ctx with slots := s.ctx.slots ++ [(c.nextDue % 4096, { id := id, dom := d })] } }

/-! ### The flight table's pending bits (R144) -/

/-- The context ID of a flight entry, by majority of its three copies. -/
def Flight.id (e : Flight) : Nat := vote3 e.id0 e.id1 e.id2

/-- The occupied flight entry of a context. -/
def State.flightOf (s : State) (id : Nat) : Option (Nat × Flight) :=
  s.ctx.flight.find? (fun e => decide (e.2.id = id))

/-- A whole write of a flight entry's protected word (R160, R437); its fields stand in `CtxState.flight`. -/
def State.writeFlightWord (s : State) (i : Nat) : State := s.writeP (flightKey i) 0

/-- The flight table with an entry replaced. -/
def State.setFlight (s : State) (i : Nat) (e : Flight) : State :=
  { s with ctx := { s.ctx with flight := s.ctx.flight.map (fun x => if x.1 = i then (i, e) else x) } }

/-! ### The range commands (R100, R104) -/

/-- A range of W1: first ID and count. -/
def rangeFirst (w : Word) : Nat := bits w 0 20
def rangeCount (w : Word) : Nat := bits w 32 21

/-- The range is valid (R104). -/
def rangeValid (w : Word) : Bool := decide (1 ≤ rangeCount w ∧ rangeFirst w + rangeCount w ≤ 1048576)

/-- What a range command has done so far: done, held pending, skipped, and the first skipped ID. -/
structure RangeTally where
  st : State
  done : Nat
  held : Nat
  skipped : Nat
  firstSkipped : Option Nat

/-- One context skipped. -/
def RangeTally.skip (t : RangeTally) (id : Nat) : RangeTally :=
  { t with skipped := t.skipped + 1, firstSkipped := some (t.firstSkipped.getD id) }

/-- Run a step over a range in ascending ID order. -/
def overRange (step : Nat → RangeTally → RangeTally) (s : State) (w : Word) : RangeTally :=
  (List.range (rangeCount w)).foldl (fun t k => step (rangeFirst w + k) t)
    { st := s, done := 0, held := 0, skipped := 0, firstSkipped := none }

/-- The hearth controller's read of a context that a command acts on: none where the issuer is no member of its domain or
the context is FREE; a context with a bad word among the ones read is quarantined and skipped (R108, R117). -/
def hcRead (m : Ident) (id mask : Nat) (s : State) : State × Option Ctx :=
  let d := s.votedOwner id
  if s.rawState id = stFree ∧ ¬ (s.pword (ctxKey id 0)).isBad then (s, none)
  else if ¬ s.member d m then (s, none)
  else if s.badWords id &&& mask ≠ 0 then (s.quarantine id, none)
  else (s.noteCtx id, some (s.ctxWords id))

/-! ### Creation (R105, R106, R109, R733) -/

/-- The word W0 of a created context: STATE PAUSED, OWNER the domain, SEEN and LATE zero. -/
def createdCtx (d : Nat) (img : Ctx) : Ctx :=
  { w0 := setBits (setBits img.w0 0 3 stPaused) 6 4 d, w1 := img.w1, w2 := img.w2, w3 := 0 }

/-- Write one created context. -/
def State.create (s : State) (id d : Nat) (img : Ctx) : State :=
  (s.storeCtx id d stFree (createdCtx d img)).putTags id d

/-- The context is FREE: its W0 reads as FREE. -/
def State.isFree (s : State) (id : Nat) : Bool :=
  decide (s.rawState id = stFree) && !(s.pword (ctxKey id 0)).isBad

/-- The hearth controller reads W0 of a context that a creation names (R105, R106, R733): a bad word quarantines the context,
a single-bit error is mended (R116, R117). -/
def State.checkTarget (s : State) (id : Nat) : State :=
  if (s.pword (ctxKey id 0)).isBad then s.quarantine id else s.noteMend (ctxKey id 0)

/-- The domain may create `n` contexts (R109, R110). -/
def State.quotaAllows (s : State) (d n : Nat) : Bool :=
  !s.on CTX_DOMd_STATUS_OVER d && decide (s.fld CTX_DOMd_STATUS_RESIDENT d + n ≤ s.quota d)

/-- The lowest FREE ID at or above `id`, looking at `n` contexts. The search reads no context as a consumer (log entry 195). -/
def State.lowestFree (s : State) : Nat → Nat → Option Nat
  | 0, _ => none
  | n + 1, id => if s.isFree id then some id else s.lowestFree n (id + 1)

/-- The work of CTX_CREATE, in the order of R733. -/
def ctxCreateWork (p : Packet) (s : State) : State :=
  let d := bits (p.w 1) 32 4
  let img : Ctx := { w0 := p.w 2, w1 := p.w 3, w2 := p.w 4, w3 := 0 }
  if ¬ s.member d p.issuer then endCommand p .notMember [] s
  else if ¬ img.imageValid then endCommand p .invalid [] s
  else if ¬ s.quotaAllows d 1 then endCommand p .overQuota [] s
  else if bit (p.w 1) 31 then
    match s.lowestFree 1048576 0 with
    | none => endCommand p .noSpace [] s
    | some id => endCommand p .ok [BitVec.ofNat 64 id] (s.create id d img)
  else
    let id := bits (p.w 1) 0 20
    if s.isFree id then endCommand p .ok [BitVec.ofNat 64 id] (s.create id d img)
    else endCommand p .notFree [] (s.checkTarget id)

/-- `CTX_CREATE` (R106). -/
def execCtxCreate (p : Packet) (s : State) : Host.Outcome State Fault Refusal :=
  .next (runCommand 0x0301 4 .any p (ctxCreateWork p) s)

/-- The images of a block as contexts. -/
def blockImages (images : List (Word × Word × Word)) : List Ctx :=
  images.map (fun x => { w0 := x.1, w1 := x.2.1, w2 := x.2.2, w3 := 0 })

/-- The index of the first image that fails R90. -/
def firstInvalid : Nat → List Ctx → Option Nat
  | _, [] => none
  | k, c :: r => if c.imageValid then firstInvalid (k + 1) r else some k

/-- The first ID of `n` from `id` that is not FREE. -/
def State.firstNotFree (s : State) : Nat → Nat → Option Nat
  | 0, _ => none
  | n + 1, id => if s.isFree id then s.firstNotFree n (id + 1) else some id

/-- Write the contexts of a block from `id` on. -/
def createAll (d : Nat) : Nat → List Ctx → State → State
  | _, [], s => s
  | id, c :: r, s => createAll d (id + 1) r (s.create id d c)

/-- The work of CTX_CREATE_BLOCK, in the order of R733: W1 of every reply is the count created (R100). The images are those that the reads of the DRAM block returned,
with the first status other than OK among them; a read that returned no image is not OK. Every target ID is read. -/
def ctxCreateBlockWork (p : Packet) (images : List (Word × Word × Word)) (st : Status) (s : State) : State :=
  let d := bits (p.w 1) 56 4
  let n := rangeCount (p.w 1)
  let imgs := (blockImages images).take n
  let first := rangeFirst (p.w 1)
  if ¬ s.member d p.issuer then endCommand p .notMember [0] s
  else if ¬ rangeValid (p.w 1) ∨ bits (p.w 2) 0 5 ≠ 0 then endCommand p .invalid [0] s
  else
    let s := s.emit (.imageRead (bits (p.w 2) 0 38) (32 * n))
    if st ≠ .ok ∨ imgs.length < n then endCommand p .errData [0] s
    else match firstInvalid 0 imgs with
    | some k => endCommand p .invalid [0, BitVec.ofNat 64 k] s
    | none =>
      if ¬ s.quotaAllows d n then endCommand p .overQuota [0] s
      else match s.firstNotFree n first with
        | some id => endCommand p .notFree [0, BitVec.ofNat 64 id] ((List.range n).foldl (fun s k => s.checkTarget (first + k)) s)
        | none => endCommand p .ok [BitVec.ofNat 64 n] (createAll d first imgs s)

/-- `CTX_CREATE_BLOCK` (R105). -/
def execCtxCreateBlock (p : Packet) (images : List (Word × Word × Word)) (st : Status) (s : State) :
    Host.Outcome State Fault Refusal :=
  .next (runCommand 0x0302 2 .any p (ctxCreateBlockWork p images st) s)

/-! ### Arming (R101 to R103) -/

/-- The earliest arming tick (R102). -/
def State.earliestArm (s : State) (count : Nat) : Nat :=
  let n := if s.on TCK_PERIOD_NEXT_PENDING then min s.curN (s.fld TCK_PERIOD_NEXT_NEXT_N) else s.curN
  s.fld TCK_COUNT_COUNT + (count + 6 * n - 1) / (6 * n) + 2

/-- The armed context: NEXT_DUE is the arming tick plus the phase; CLEAR zeroes W3, SEEN and LATE. -/
def Ctx.armedAt (c : Ctx) (t phase : Nat) (clear : Bool) : Ctx :=
  let c := if clear then { (c.setSeen false).setLate false with w3 := 0 } else c
  (c.setNextDue ((t + phase) % 2 ^ 32)).setState stArmed

/-- The phase of a context to be armed (R101). -/
def armPhase (c : Ctx) (rebase : Nat) : Nat := (c.nextDue + 2 ^ 32 - rebase) % 2 ^ 32

/-- Arm one context of a range, or skip it (R101, R103). -/
def armOne (m : Ident) (t rebase : Nat) (clear : Bool) (id : Nat) (r : RangeTally) : RangeTally :=
  match hcRead m id 15 r.st with
  | (s, none) => { r with st := s }.skip id
  | (s, some c) =>
    let d := s.votedOwner id
    if (c.state = stPaused ∨ c.state = stDone) ∧ s.fld CTX_DOMd_STATUS_OVER d = 0 ∧ c.fieldsValid
        ∧ armPhase c rebase ≤ 1048575 then
      let c' := c.armedAt t (armPhase c rebase) clear
      { r with st := (s.storeCtx id d c.state c').file id d c', done := r.done + 1 }
    else { r with st := s }.skip id

/-- The arming tick a command asks for: its W3, or the earliest (R100). -/
def armTick (p : Packet) (s : State) : Nat :=
  if p.w 3 = 0 then s.earliestArm (rangeCount (p.w 1)) else (p.w 3).toNat

/-- The work of CTX_ARM. -/
def ctxArmWork (p : Packet) (s : State) : State :=
  if ¬ rangeValid (p.w 1) then endCommand p .invalid [] s
  else
    let earliest := s.earliestArm (rangeCount (p.w 1))
    let t := armTick p s
    if t < earliest ∨ s.fld TCK_COUNT_COUNT + 2 ^ 30 < t then endCommand p .invalid [] s
    else
      let r := overRange (armOne p.issuer t (bits (p.w 2) 0 32) (bit (p.w 2) 32)) s (p.w 1)
      endCommand p .ok [BitVec.ofNat 64 t, BitVec.ofNat 64 r.done, BitVec.ofNat 64 r.skipped,
        BitVec.ofNat 64 (r.firstSkipped.getD 0xFFFFFFFF)] r.st

/-- `CTX_ARM` (R101). -/
def execCtxArm (p : Packet) (s : State) : Host.Outcome State Fault Refusal :=
  .next (runCommand 0x0303 3 .any p (ctxArmWork p) s)

/-! ### Pausing and destroying (R93, R96, R118) -/

/-- Pause one context of a range (R93). -/
def pauseOne (m : Ident) (id : Nat) (r : RangeTally) : RangeTally :=
  match hcRead m id 15 r.st with
  | (s, none) => { r with st := s }.skip id
  | (s, some c) =>
    let d := s.votedOwner id
    if c.state = stArmed ∨ c.state = stDue then
      { r with st := s.storeCtx id d c.state (c.paused s.tickCount), done := r.done + 1 }
    else if c.state = stInFlight then
      match s.flightOf id with
      | some (i, e) => { r with st := s.setFlight i { e with pause := true }, held := r.held + 1 }
      | none => { r with st := s }.skip id
    else { r with st := s }.skip id

/-- The work of CTX_PAUSE. -/
def ctxPauseWork (p : Packet) (s : State) : State :=
  if ¬ rangeValid (p.w 1) then endCommand p .invalid [] s
  else
    let r := overRange (pauseOne p.issuer) s (p.w 1)
    endCommand p .ok [BitVec.ofNat 64 r.done, BitVec.ofNat 64 r.held, BitVec.ofNat 64 r.skipped] r.st

/-- `CTX_PAUSE` (R93). -/
def execCtxPause (p : Packet) (s : State) : Host.Outcome State Fault Refusal :=
  .next (runCommand 0x0304 1 .any p (ctxPauseWork p) s)

/-- Destroy one context of a range; it reads only W0 and the owner tags (R118). -/
def destroyOne (m : Ident) (id : Nat) (r : RangeTally) : RangeTally :=
  match hcRead m id 1 r.st with
  | (s, none) => { r with st := s }.skip id
  | (s, some c) =>
    let d := s.votedOwner id
    if c.state = stInFlight then
      match s.flightOf id with
      | some (i, e) => { r with st := s.setFlight i { e with destroy := true }, held := r.held + 1 }
      | none => { r with st := s }.skip id
    else if c.state = stFree ∨ c.state = 7 then { r with st := s }.skip id
    else { r with st := s.freeCtx id d c.state, done := r.done + 1 }

/-- The work of CTX_DESTROY. -/
def ctxDestroyWork (p : Packet) (s : State) : State :=
  if ¬ rangeValid (p.w 1) then endCommand p .invalid [] s
  else
    let r := overRange (destroyOne p.issuer) s (p.w 1)
    endCommand p .ok [BitVec.ofNat 64 r.done, BitVec.ofNat 64 r.held, BitVec.ofNat 64 r.skipped] r.st

/-- `CTX_DESTROY` (R93). -/
def execCtxDestroy (p : Packet) (s : State) : Host.Outcome State Fault Refusal :=
  .next (runCommand 0x0305 1 .any p (ctxDestroyWork p) s)

/-! ### Reading (R108, R119) -/

/-- W0 with the logical state in place of the stored one. -/
def Ctx.logicalW0 (c : Ctx) (now : Word) : Word := setBits c.w0 0 3 (c.logicalState now)

/-- The master may read the context: a member of its domain, or the device owner; a FREE context only the owner. -/
def State.mayReadCtx (s : State) (m : Ident) (id : Nat) : Bool :=
  s.isOwner m || (!s.isFree id && s.member (s.votedOwner id) m)

/-- W5 of CTX_READ: the mask of uncorrectable words and the pending bits. -/
def State.readW5 (s : State) (id : Nat) : Nat :=
  s.badWords id + (match s.flightOf id with
    | some (_, e) => 16 * bnat e.pause + 32 * bnat e.destroy
    | none => 0)

/-- The work of CTX_READ: the words readable, W0 with the logical state, and W5. Its reads mend single-bit errors (R116). -/
def ctxReadWork (p : Packet) (s : State) : State :=
  let id := bits (p.w 1) 0 20
  if ¬ s.mayReadCtx p.issuer id then endCommand p .notMember [] s
  else
    let c := s.ctxWords id
    let w0 := if (s.pword (ctxKey id 0)).isBad then 0 else c.logicalW0 s.tickCount
    endCommand p (if s.badWords id = 0 then .ok else .errData)
      [w0, c.w1, c.w2, c.w3, BitVec.ofNat 64 (s.readW5 id)] (s.noteCtx id)

/-- `CTX_READ` (R119). -/
def execCtxRead (p : Packet) (s : State) : Host.Outcome State Fault Refusal :=
  .next (runCommand 0x0306 1 .any p (ctxReadWork p) s)

/-! ### The BAR2 window (R120 to R122) -/

/-- The context, word and half that an access of `size` bytes at BAR2 offset `off` reaches (R120): word k of context c lies at
32 × c + 8 × k; none for another size or alignment (R11, R12). -/
def bar2Place (off size : Nat) : Option (Nat × Nat × Half) :=
  if 33554432 ≤ off then none
  else if size = 8 ∧ off % 8 = 0 then some (off / 32, off / 8 % 4, .full)
  else if size = 4 ∧ off % 4 = 0 then some (off / 32, off / 8 % 4, if off % 8 = 0 then .low else .high)
  else none

/-- The effect of a BAR2 read (R121): the stored, corrected word, or zero with a DOMAIN violation; a bad word completes
poisoned. -/
def bar2ReadEffect (m : Ident) (id k : Nat) (h : Half) (s : State) : State :=
  if s.mayReadCtx m id then
    let p := s.pword (ctxKey id k)
    if p.isBad then s.emit (.bar2 m 0 true)
    else (s.noteMend (ctxKey id k)).emit (.bar2 m (p.value &&& h.mask) false)
  else (violation m .domain false 0 s).emit (.bar2 m 0 false)

/-- The effect of a BAR2 read at an offset: a bad size or alignment reads zero and counts (R12, R120). -/
def bar2ReadAt (m : Ident) (off size : Nat) (s : State) : State :=
  match bar2Place off size with
  | some (id, k, h) => bar2ReadEffect m id k h s
  | none => (violation m .size false 0 s).emit (.bar2 m 0 false)

/-- `BAR2_READ` (R120, R121): every read answered other than OK returns zero (R547). -/
def execBar2Read (m : Ident) (off size : Nat) (s : State) : Host.Outcome State Fault Refusal :=
  .next (windowFront m false (fun t => t.emit (.bar2 m 0 false)) (bar2ReadAt m off size) s)

/-- The effect of a BAR2 write (R121, R437, R735), and its response (R15): a write that is ignored or refused with a violation is
answered OK, one that could not be merged ERR_DATA. A context whose own W0 is uncorrectable or poisoned counts as not FREE and
as neither PAUSED nor DONE, which is this model's choice (log entry 196). -/
def bar2WriteEffect (m : Ident) (id k : Nat) (h : Half) (data : Word) (poison : Bool) (s : State) : State :=
  let d := s.votedOwner id
  if s.isFree id ∨ ¬ s.member d m then (violation m .domain true 0 s).emit (.written m .ok)
  else if (k ≠ 1 ∧ k ≠ 2) ∨ (s.pword (ctxKey id 0)).isBad ∨ ¬ ((s.ctxWords id).state = stPaused ∨ (s.ctxWords id).state = stDone) then
    (violation m .area true 0 s).emit (.written m .ok)
  else match s.writeMasked (ctxKey id k) h.mask data poison with
    | some t => t.emit (.written m .ok)
    | none => (violation m .response true 0 s).emit (.written m .errData)

/-- The effect of a BAR2 write at an offset: a bad size or alignment is ignored and counts (R12, R120). -/
def bar2WriteAt (m : Ident) (off size : Nat) (data : Word) (poison : Bool) (s : State) : State :=
  match bar2Place off size with
  | some (id, k, h) => bar2WriteEffect m id k h data poison s
  | none => (violation m .size true 0 s).emit (.written m .ok)

/-- `BAR2_WRITE` (R120, R121). -/
def execBar2Write (m : Ident) (off size : Nat) (data : Word) (poison : Bool) (s : State) : Host.Outcome State Fault Refusal :=
  .next (windowFront m true (fun t => t.emit (.written m .errGated)) (bar2WriteAt m off size data poison) s)

/-! ### The domain registers (R107 to R112) -/

/-- The sum of SHARE over all domains. -/
def State.shareSum (s : State) : Nat := ((List.range 16).map (fun d => s.fld CTX_DOMd_CFG_SHARE d)).foldl (· + ·) 0

/-- OVER after a change of QUOTA (R110): set when QUOTA is below RESIDENT, cleared when RESIDENT is below QUOTA. -/
def updateOver (d : Nat) (s : State) : State :=
  if s.quota d < s.fld CTX_DOMd_STATUS_RESIDENT d then s.setFld CTX_DOMd_STATUS_OVER 1 d else clearOver d s

/-- A new value of CTX_DOMd_CFG: refused as a whole when it would bring the sum of SHARE above 256 (R112); EN is locked
while RESIDENT is not zero. -/
def domainCfgEffect (d : Nat) (v : Word) (s : State) : State :=
  if 256 < s.shareSum - s.fld CTX_DOMd_CFG_SHARE d + bits v 8 8 then s.setFld CTX_STATUS_SHARE_REFUSED 1
  else
    let s := if s.fld CTX_DOMd_STATUS_RESIDENT d = 0 then s.setFld CTX_DOMd_CFG_EN (bits v 0 1) d else s
    updateOver d ((s.setFld CTX_DOMd_CFG_SHARE (bits v 8 8) d).setFld CTX_DOMd_CFG_QUOTA (bits v 16 21) d)

/-- `DOMAIN_CFG_WRITE` (R110, R112). -/
def execDomainCfgWrite (m : Ident) (d : Fin 16) (h : Half) (data : Word) (s : State) : Host.Outcome State Fault Refusal :=
  .next (regWrite .CTX_DOMd_CFG [d] m h
    (fun s => domainCfgEffect d (s.merged (CTX_DOMd_CFG_EN.key d 0 0) h data) s) s)

end Sys2Proof.Machine
end

