-- ==== Sys2Proof/Machine/Control.lean ====
section
/-! DEFINITION. Commands, ownership and mailboxes (chapter 15): submissions and replies (R583 to R590), the domain and
diagnostic commands (R594, R595), ownership (R596 to R604), mailboxes and doorbells (R606 to R614). -/

namespace Sys2Proof.Machine

/-! ### Submissions (R583 to R585) -/

/-- A refused submission queues nothing: REFUSED, the tag bits that the write carried, a violation of kind SUBMIT. -/
def refuseSubmission (m : Ident) (tag off : Nat) (s : State) : State :=
  let s := match slotOf m with
    | some n => (s.setMfld HC_SUBMIT_STATUS_TAG n tag).setMfld HC_SUBMIT_STATUS_REFUSED n 1
    | none => s
  violation m .submit true off s

/-- The master has a reply queue and every entry of it is reserved (R584). -/
def replyQueueFull (m : Ident) (s : State) : Bool :=
  match slotOf m with
  | some n => hasReplyQueue m && decide (16 ≤ s.mfld HC_SUBMIT_STATUS_RESERVED n)
  | none => false

/-- A submission reserves a reply entry of a local master (R584). -/
def reserveEntry (m : Ident) (s : State) : State :=
  if hasReplyQueue m then
    match slotOf m with
    | some n => s.setMfld HC_SUBMIT_STATUS_RESERVED n (s.mfld HC_SUBMIT_STATUS_RESERVED n + 1)
    | none => s
  else s

/-- A packet joins its class queue, or gets QUEUE_FULL at once (R585). -/
def enqueuePacket (p : Packet) (s : State) : State :=
  let c := queueOf p.issuer
  let q := s.hc.queues.getD c []
  if 64 ≤ q.length then postReply p .queueFull [] (s.addFld HC_QUEUEc_FULL 1 c)
  else setQueue c (q ++ [p]) s

/-- A submission by either path whose form is right (R584, R585). -/
def acceptSubmission (p : Packet) (off : Nat) (s : State) : State :=
  if replyQueueFull p.issuer s then refuseSubmission p.issuer (bits p.header 16 16) off s
  else enqueuePacket p (reserveEntry p.issuer s)

/-- The tag bits that a write of `size` bytes from offset `off` of HC_CMD_PORT carried, with zero for those it did not: bytes 2 and 3
of the header's place. -/
def carriedTag (off size : Nat) (first : Word) : Nat :=
  if HC_CMD_PORT_PACKET.off ≤ off ∧ off < HC_CMD_PORT_PACKET.off + 4 then
    first.toNat % 2 ^ (8 * size) * 2 ^ (8 * (off - HC_CMD_PORT_PACKET.off)) / 2 ^ 16 % 2 ^ 16
  else 0

/-- A write of `size` bytes from register-space offset `off` into HC_CMD_PORT, with its words (R583). -/
def portEffect (m : Ident) (off size : Nat) (ws : List Word) (s : State) : State :=
  let header := ws.headD 0
  if off ≠ HC_CMD_PORT_PACKET.off ∨ size ≠ 8 * (1 + bits header 32 8) ∨ 15 < bits header 32 8 ∨ ¬ submits m then
    refuseSubmission m (carriedTag off size header) off s
  else acceptSubmission { issuer := m, header := header, words := ws.tail.take (bits header 32 8) } off s

/-- `COMMAND_PORT_WRITE` (R583): one write to HC_CMD_PORT. -/
def execCommandPortWrite (m : Ident) (off size : Nat) (ws : List Word) (s : State) : Host.Outcome State Fault Refusal :=
  .next (writeFront m off .full .anyMaster (portEffect m off size ws) s)

/-- The staged parameter words of a master's slot. -/
def stagedWords (n len : Nat) (s : State) : List Word :=
  (List.range len).map (fun k => s.reg (HC_CMD_Wk_WORD.key (k + 1) 0 0 + slotSpan * n))

/-- A write to HC_CMD_SUBMIT (R583): the packet takes the staged words as they stand. -/
def submitEffect (m : Ident) (h : Half) (header : Word) (s : State) : State :=
  if h ≠ .full ∨ 15 < bits header 32 8 ∨ ¬ submits m then
    refuseSubmission m (bits (header &&& h.mask) 16 16) HC_CMD_SUBMIT_HEADER.off s
  else
    match slotOf m with
    | some n => acceptSubmission { issuer := m, header := header, words := stagedWords n (bits header 32 8) s }
        HC_CMD_SUBMIT_HEADER.off s
    | none => s

/-- `COMMAND_SUBMIT` (R583). -/
def execCommandSubmit (m : Ident) (h : Half) (header : Word) (s : State) : Host.Outcome State Fault Refusal :=
  .next (regWrite .HC_CMD_SUBMIT [] m h (submitEffect m h header) s)

/-! ### Replies (R588 to R590) -/

/-- A write of HC_REPLY_POP with POP 1 removes the oldest reply of a slot and frees its entry. -/
def popEffect (m : Ident) (h : Half) (data : Word) (s : State) : State :=
  match slotOf m with
  | none => s
  | some n =>
    if wbit h data HC_REPLY_POP_POP then
      match s.replyQueue n with
      | [] => s
      | _ :: r => freeEntry m (setReplyQueue n r s)
    else s

/-- `REPLY_POP` (R589). -/
def execReplyPop (m : Ident) (h : Half) (data : Word) (s : State) : Host.Outcome State Fault Refusal :=
  .next (regWrite .HC_REPLY_POP [] m h (popEffect m h data) s)

/-- HC_REPLY_HDR as a slot reads it: the oldest reply's header with VALID, or zero (R588). -/
def State.replyHdr (s : State) (n : Nat) : Word :=
  match s.replyQueue n with
  | [] => 0
  | r :: _ => setBits r.header 63 1 1

/-- HC_REPLY_Wk as a slot reads it. -/
def State.replyWord (s : State) (n k : Nat) : Word :=
  match s.replyQueue n with
  | [] => 0
  | r :: _ => r.words.getD (k - 1) 0

/-- The REPLY line of fabric port `p`: high while its reply queue is not empty (R589). -/
def State.replyLine (s : State) (p : Nat) : Bool := !(s.replyQueue (8 + p)).isEmpty

/-- A remote reply without a place is lost (R590). -/
def loseReply (s : State) : State := s.setMfld HC_REPLY_STATUS_LOST 6 (s.mfld HC_REPLY_STATUS_LOST 6 + 1)

/-- A write to HC_REPLY_IN (R590): from a ring peer, the reply goes to the master its header names. -/
def replyInEffect (m : Ident) (header : Word) (ws : List Word) (s : State) : State :=
  if identClass m ≠ 2 then violation m .area true HC_REPLY_IN_REPLY.off s
  else
    let mine := mkIdent s.devId (bits header 48 4) (bits header 52 10)
    match slotOf mine with
    | none => loseReply s
    | some n =>
      if hasReplyQueue mine ∧ ¬ replyQueueFull mine s then
        queueReply n { header := setBits header 48 16 0, words := ws } (reserveEntry mine s)
      else loseReply s

/-- `REPLY_IN_WRITE` (R590). -/
def execReplyInWrite (m : Ident) (header : Word) (ws : List Word) (s : State) : Host.Outcome State Fault Refusal :=
  .next (regWrite .HC_REPLY_IN [] m .full (replyInEffect m header ws) s)

/-! ### Domain and diagnostic commands (R594, R595) -/

/-- The registers of a domain as DOMAIN_SET and DOMAIN_READ return them. -/
def domainMatch (d : Nat) (s : State) : Word := s.reg (CTX_DOMd_MATCH_MATCH.key d 0 0)

/-- `DOMAIN_SET` (R594, R595). -/
def execDomainSet (p : Packet) (s : State) : Host.Outcome State Fault Refusal :=
  .next (runCommand 0x0701 3 .owner p (fun s =>
    let d := bits (p.w 1) 0 4
    let cfg := p.w 3
    let above := decide (256 < s.shareSum - s.fld CTX_DOMd_CFG_SHARE d + bits cfg 8 8)
    let resv := decide (bits (p.w 1) 4 60 ≠ 0 ∨ bits cfg 1 7 ≠ 0 ∨ bits cfg 37 27 ≠ 0)
    let enMoved := decide (bits cfg 0 1 ≠ s.fld CTX_DOMd_CFG_EN d ∧ s.fld CTX_DOMd_STATUS_RESIDENT d ≠ 0)
    if above ∨ resv ∨ enMoved then
      endCommand p .invalid [] (if above then s.setFld CTX_STATUS_SHARE_REFUSED 1 else s)
    else
      let s := domainCfgEffect d cfg (s.setReg (CTX_DOMd_MATCH_MATCH.key d 0 0) (p.w 2))
      endCommand p .ok [s.reg (CTX_DOMd_STATUS_RESIDENT.key d 0 0)] s) s)

/-- `DOMAIN_READ` (R594). -/
def execDomainRead (p : Packet) (s : State) : Host.Outcome State Fault Refusal :=
  .next (runCommand 0x0702 1 .any p (fun s =>
    let d := bits (p.w 1) 0 4
    endCommand p .ok [domainMatch d s, s.reg (CTX_DOMd_CFG_EN.key d 0 0), s.reg (CTX_DOMd_STATUS_RESIDENT.key d 0 0),
      s.reg (CTX_DOMd_VISITS_ADMITTED.key d 0 0)] s) s)

/-- `ECHO` (R594). -/
def execEcho (p : Packet) (s : State) : Host.Outcome State Fault Refusal :=
  .next (runCommand 0x0F01 0 .any p (endCommand p .ok p.words) s)

/-! ### Ownership (R596 to R604) -/

/-- The priority of a claimant, lower first (R598). -/
def claimRank (m : Ident) : Nat :=
  match identClass m with
  | 1 => identIndex m
  | 2 => 4 + identDev m * 16384 + identIndex m
  | _ => 4 + 16384 * 16384

/-- The claimant that wins among the readers of one cycle. -/
def winner : List Ident → Option Ident
  | [] => none
  | m :: r =>
    match winner r with
    | none => some m
    | some w => if claimRank w < claimRank m then some w else some m

/-- What a read of OWN_CLAIM returns. -/
def State.claimWord (s : State) : Word :=
  mkWord [(0, 32, s.fld OWN_STATUS_OWNER), (32, 1, s.fld OWN_STATUS_OWNED)]

/-- Readers of OWN_CLAIM in one hearth-controller cycle, judged on the state at its start (R597, R598, R601). -/
def claimEffect (readers : List Ident) (s : State) : State :=
  if s.on OWN_HANDOVER_PENDING then
    let successor : Ident := BitVec.ofNat 32 (s.fld OWN_HANDOVER_SUCCESSOR)
    if readers.contains successor ∧ mayClaim s successor then
      startLease (setOwner (some successor) (clearHandover s))
    else s
  else if s.owned then s
  else
    match winner (readers.filter (mayClaim s)) with
    | none => s
    | some m => startLease (setOwner (some m) s)

/-- `OWNERSHIP_CLAIM` (R597, R598): every reader receives the owner that the cycle leaves. -/
def execOwnershipClaim (readers : List Ident) (s : State) : Host.Outcome State Fault Refusal :=
  if s.dark then .next s
  else
    let s := claimEffect readers s
    .next (readers.foldl (fun s m => s.emit (.answer m s.claimWord)) s)

/-- A write of OWN_HANDOVER.SUCCESSOR (R600). -/
def offerEffect (h : Half) (data : Word) (s : State) : State :=
  match wfield h data OWN_HANDOVER_SUCCESSOR with
  | none => s
  | some v =>
    let m : Ident := BitVec.ofNat 32 v
    if ¬ mayClaim s m then s
    else
      let s := s.setFld OWN_HANDOVER_SUCCESSOR v
      if s.isOwner m then clearHandover s
      else (s.setFld OWN_HANDOVER_PENDING 1).setFld OWN_STATUS_HANDOVER 1

/-- A write of OWN_HANDOVER: the offer, then RELEASE (R600, R602). -/
def handoverEffect (h : Half) (data : Word) (s : State) : State :=
  let s := offerEffect h data s
  if wbit h data OWN_HANDOVER_RELEASE then vacate s else s

/-- `HANDOVER_OFFER` (R600). -/
def execHandoverOffer (m : Ident) (h : Half) (data : Word) (s : State) : Host.Outcome State Fault Refusal :=
  .next (regWrite .OWN_HANDOVER [] m h (handoverEffect h data) s)

/-- `OWNER_RELEASE` (R602). -/
def execOwnerRelease (m : Ident) (h : Half) (data : Word) (s : State) : Host.Outcome State Fault Refusal :=
  .next (regWrite .OWN_HANDOVER [] m h (handoverEffect h data) s)

/-- `HANDOVER_EXPIRE` (R601): the window ends without the successor's read. -/
def execHandoverExpire (s : State) : Host.Outcome State Fault Refusal :=
  .next (if s.on OWN_HANDOVER_PENDING then clearHandover s else s)

/-- `LEASE_EXPIRE` (R604): the lease of the owner ends; with LEASE_MS 0 it never does (R603). -/
def execLeaseExpire (s : State) : Host.Outcome State Fault Refusal :=
  .next (if s.owned ∧ s.on OWN_LEASE_LEASE_MS then
    let s := raise 0x011 s.owner.toNat s
    vacate ((s.setFld OWN_STATUS_EXPIRED 1).addFld OWN_CHANGES_EXPIRIES 1)
  else s)

/-- A write of OWN_LEASE: the fields, then the renewal that every write of the owner is, at the new length (R603). -/
def leaseEffect (h : Half) (data : Word) (s : State) : State :=
  startLease (plainWrite (regInfo .OWN_LEASE).fields OWN_LEASE_LEASE_MS.off (fun _ => false) h data s)

/-! ### Mailboxes and doorbells (R606 to R614) -/

/-- Doorbell `r` is raised: PENDING AND MASK is not zero (R614). -/
def State.doorbell (s : State) (r : Nat) : Bool :=
  decide ((BitVec.ofNat 32 (s.fld MBX_DBr_PENDING r) &&& BitVec.ofNat 32 (s.fld MBX_DBr_MASK r)) ≠ 0)

/-- The DOORBELL line of fabric port `p` (R614). -/
def State.doorbellLine (s : State) (p : Nat) : Bool := s.doorbell (p + 4)

/-- A function's doorbell that has come to be raised is an event (R614, R668). -/
def doorbellEvent (r : Nat) (was : Bool) (s : State) : State :=
  if r < 4 ∧ ¬ was ∧ s.doorbell r then raise (0x104 + r) 0 s else s

/-- Ring a doorbell bit. -/
def ringDoorbell (r b : Nat) (s : State) : State :=
  doorbellEvent r (s.doorbell r) (s.setFbit MBX_DBr_PENDING b true r)

/-- A write of MBX_DBr: only its receiver and the owner may write it (R614). -/
def doorbellEffect (r : Nat) (m : Ident) (h : Half) (data : Word) (s : State) : State :=
  let mine : Bool := match slotOf m with
    | some n => decide (n = if r < 4 then r else r + 4)
    | none => false
  if mine ∨ s.isOwner m then
    doorbellEvent r (s.doorbell r)
      (plainWrite (regInfo .MBX_DBr).fields (MBX_DBr_PENDING.key r 0 0) (fun _ => false) h data s)
  else violation m .area true (MBX_DBr_PENDING.key r 0 0 + h.skip) s

/-- The words of a mailbox slot. -/
def slotWords (b : Nat) (s : State) : List Word := (List.range 8).map (fun k => s.reg (MBX_m_Wk_WORD.key b k 0))

/-- The state with a mailbox slot's words replaced. -/
def putSlot (b : Nat) (ws : List Word) (s : State) : State :=
  (List.range 8).foldl (fun s k => s.setReg (MBX_m_Wk_WORD.key b k 0) (ws.getD k 0)) s

/-- Mailbox `b` accepts a message (R608). -/
def acceptMessage (m : Ident) (b : Nat) (ws : List Word) (s : State) : State :=
  let s := if s.on MBX_m_STATUS_FULL b then
      (s.setFld MBX_m_STATUS_COLLISION 1 b).addFld MBX_m_OVER_OVERWRITTEN 1 b
    else s.setFld MBX_m_STATUS_FULL 1 b
  let s := (putSlot b ws s).addFld MBX_m_COUNT_SENT 1 b
  let s := (s.setFld MBX_m_STATUS_SEQ (s.fld MBX_m_COUNT_SENT b) b).setFld MBX_m_OVER_LAST_SENDER m.toNat b
  if s.on MBX_m_CFG_DB_EN b ∧ s.fld MBX_m_CFG_DB_TARGET b < 72 then
    ringDoorbell (s.fld MBX_m_CFG_DB_TARGET b) (s.fld MBX_m_CFG_DB_BIT b) s
  else s

/-- A send to mailbox `b`: accepted only from a sender that matches (R609); `off` is the offset written. -/
def sendMessage (m : Ident) (b off : Nat) (ws : List Word) (s : State) : State :=
  if identMatches m (s.fld MBX_m_SENDERS_MATCH b) (s.fld MBX_m_SENDERS_MASK b) then acceptMessage m b ws s
  else violation m .area true off s

/-- A write into the slot of mailbox `b` from word `first` on (R607): all eight words at once, or a SIZE violation. -/
def slotWriteEffect (m : Ident) (b first : Nat) (ws : List Word) (s : State) : State :=
  let off := MBX_m_Wk_WORD.key b first 0
  if first = 0 ∧ ws.length = 8 then sendMessage m b off ws s else violation m .size true off s

/-- `MAILBOX_SEND` (R607 to R609). -/
def execMailboxSend (m : Ident) (mb : Fin 256) (first : Nat) (ws : List Word) (s : State) : Host.Outcome State Fault Refusal :=
  .next (writeFront m (MBX_m_Wk_WORD.key mb first 0) .full .restricted (slotWriteEffect m mb first ws) s)

/-- The staged message words of a master's slot. -/
def stagedMessage (n : Nat) (s : State) : List Word :=
  (List.range 8).map (fun k => s.reg (MBX_STAGE_Wk_WORD.key k 0 0 + slotSpan * n))

/-- A write of MBX_SEND (R607). -/
def stageSendEffect (m : Ident) (h : Half) (data : Word) (s : State) : State :=
  match wfield h data MBX_SEND_MAILBOX, slotOf m with
  | some b, some n => sendMessage m b MBX_SEND_MAILBOX.off (stagedMessage n s) s
  | _, _ => s

/-- `MBX_SEND` (R607, R608). -/
def execMbxSend (m : Ident) (h : Half) (data : Word) (s : State) : Host.Outcome State Fault Refusal :=
  .next (regWrite .MBX_SEND [] m h (stageSendEffect m h data) s)

/-- The master is a receiver of mailbox `b` (R611). -/
def State.receiver (s : State) (b : Nat) (m : Ident) : Bool :=
  identMatches m (s.fld MBX_m_RECV_MATCH b) (s.fld MBX_m_RECV_MASK b)

/-- A write of MBX_m_TAKE (R611, R612). -/
def takeEffect (b : Nat) (m : Ident) (h : Half) (data : Word) (s : State) : State :=
  if ¬ s.receiver b m then violation m .area true (MBX_m_TAKE_SEQ.key b 0 0 + h.skip) s
  else
    match wfield h data MBX_m_TAKE_SEQ with
    | none => s
    | some v =>
      if s.on MBX_m_STATUS_FULL b ∧ v = s.fld MBX_m_STATUS_SEQ b then
        (s.setFld MBX_m_STATUS_FULL 0 b).addFld MBX_m_COUNT_TAKEN 1 b
      else s

/-- `MAILBOX_TAKE` (R612). -/
def execMailboxTake (m : Ident) (mb : Fin 256) (h : Half) (data : Word) (s : State) : Host.Outcome State Fault Refusal :=
  .next (regWrite .MBX_m_TAKE [mb] m h (takeEffect mb m h data) s)

/-- SENT = TAKEN + OVERWRITTEN + FULL modulo 2^32 for mailbox `b` (R613). -/
def mailboxBalanced (b : Nat) (s : State) : Bool :=
  decide (s.fld MBX_m_COUNT_SENT b
    = (s.fld MBX_m_COUNT_TAKEN b + s.fld MBX_m_OVER_OVERWRITTEN b + s.fld MBX_m_STATUS_FULL b) % 2 ^ 32)

/-- The mailbox check of a boundary epoch (R613): the lowest failing mailbox is recorded at the first failure. -/
def mailboxAudit (s : State) : State :=
  match (List.range 256).find? (fun b => !mailboxBalanced b s) with
  | none => s
  | some b =>
    let s := if s.on MBX_AUDIT_MBX_SUM then s else s.setFld MBX_AUDIT_MAILBOX b
    raise 0x100 b ((s.setFld MBX_AUDIT_MBX_SUM 1).addFld MBX_AUDIT_FAIL_TICKS 1)

end Sys2Proof.Machine
end

