-- ==== Sys2Proof/Machine/Burst.lean ====
section
/-! DEFINITION. The burst code of the DRAM controllers (R497 to R499): check bytes of a 64-byte burst and the decode of a
burst that is read. A burst is eight data words, byte 0 first; beat b holds bytes 4b to 4b + 3 (log entry 130). -/

namespace Sys2Proof.Machine

/-- Data of beat `b`: 32 bits. -/
def beatOf (d : List Word) (b : Nat) : Nat := bits (nth 0 d (b / 2)) (32 * (b % 2)) 32

/-- RP: bit i is the XOR of the 32 data bits of beat i. -/
def beatParity (d : List Word) : Nat :=
  ((List.range 16).map (fun i => (weight (beatOf d i) 32 % 2) * 2 ^ i)).sum

/-- CP: bit j is the XOR of data lane j over the 16 beats. -/
def laneParity (d : List Word) : Nat := ((List.range 16).map (beatOf d)).foldl (· ^^^ ·) 0

/-- One bit step of CRC-16 with polynomial 0x1021, most significant bit first. -/
def crc16Bit (c : BitVec 16) : BitVec 16 := if bit c 15 then (c <<< 1) ^^^ 0x1021 else c <<< 1

/-- Eight bit steps. -/
def crc16Byte (c : BitVec 16) (b : BitVec 8) : BitVec 16 :=
  let x := c ^^^ (b.setWidth 16 <<< 8)
  crc16Bit (crc16Bit (crc16Bit (crc16Bit (crc16Bit (crc16Bit (crc16Bit (crc16Bit x)))))))

/-- HASH over L[35:6] as a 32-bit word. -/
def burstHash (burst : Nat) : BitVec 16 := (bytes32 burst).foldl crc16Byte 0xFFFF

/-- CRC over the data, L[35:6] and META. -/
def burstCrc (burst : Nat) (d : List Word) (info : Nat) : BitVec 32 :=
  crc32c (d.flatMap wordBytes ++ bytes32 burst ++ bytes32 info)

/-- META of a write: POISON and the writer's identity bits [17:0]. -/
def burstInfo (poison : Bool) (m : Ident) : Nat := (if poison then 3 else 0) + 4 * (m.toNat % 2 ^ 18)

/-- The fields of the check bytes as one little-endian number. -/
def packCheck (rp cp hash crc info : Nat) : BitVec 128 :=
  BitVec.ofNat 128 (rp % 2 ^ 16 + cp % 2 ^ 32 * 2 ^ 16 + hash % 2 ^ 16 * 2 ^ 48 + crc % 2 ^ 32 * 2 ^ 64
    + info % 2 ^ 32 * 2 ^ 96)

/-- The check bytes of a burst (R497). -/
def burstCheck (burst : Nat) (d : List Word) (info : Nat) : BitVec 128 :=
  packCheck (beatParity d) (laneParity d) (burstHash burst).toNat (burstCrc burst d info).toNat info

/-- The burst with the bit of beat `b` and lane `j` inverted. -/
def flipBit (d : List Word) (b j : Nat) : List Word :=
  modNth d (b / 2) (fun v => v ^^^ (1 : Word) <<< (32 * (b % 2) + j))

/-- How a burst decodes (R499). -/
inductive BurstRead
  | clean (data : List Word) (info : Nat)
  | mended (data : List Word) (info : Nat)
  | uncorrectable
  | misdirected
  deriving DecidableEq, Repr

/-- The bit of META whose inversion makes the stored CRC right. -/
def mendInfo (burst : Nat) (d : List Word) (info : Nat) (crc : BitVec 32) : Option Nat :=
  ((List.range 32).map (fun i => info ^^^ 2 ^ i)).find? (fun m => decide (burstCrc burst d m = crc))

/-- The decode of R499 from what was stored. -/
def burstDecode (burst : Nat) (d : List Word) (check : BitVec 128) : BurstRead :=
  let info := bits check 96 32
  let crc := BitVec.ofNat 32 (bits check 64 32)
  let sr := beatParity d ^^^ bits check 0 16
  let sc := laneParity d ^^^ bits check 16 32
  let wr := weight sr 16
  let wc := weight sc 32
  let wh := weight ((burstHash burst).toNat ^^^ bits check 48 16) 16
  let wx := weight (burstCrc burst d info ^^^ crc).toNat 32
  let d' := flipBit d (lowestBit sr 16) (lowestBit sc 32)
  if wr = 0 ∧ wc = 0 ∧ wh = 0 ∧ wx = 0 then .clean d info
  else if wr = 1 ∧ wc = 1 ∧ wh = 0 ∧ burstCrc burst d' info = crc then .mended d' info
  else if wr + wc = 1 ∧ wh = 0 ∧ wx = 0 then .mended d info
  else if wr = 0 ∧ wc = 0 ∧ wh = 0 ∧ wx = 1 then .mended d info
  else if wr = 0 ∧ wc = 0 ∧ wh = 0 ∧ (mendInfo burst d info crc).isSome then
    .mended d ((mendInfo burst d info crc).getD info)
  else if wr = 0 ∧ wc = 0 ∧ wx = 0 ∧ wh = 1 then .mended d info
  else if 2 ≤ wh then .misdirected
  else .uncorrectable

/-- META says poisoned: any POISON but 0b00 (R498). -/
def infoPoisoned (info : Nat) : Bool := decide (info % 4 ≠ 0)

end Sys2Proof.Machine
end

