-- ==== Sys2Proof/Machine/Groups.lean ====
section
/-! DEFINITION. The instrument channel groups (chapter 05): modes and safe states, levels, periods and edges, the vector
memory and its playback, streams, fabric vectors, the reflex unit, the group executor and its channel claims. -/

namespace Sys2Proof.Machine

/-! ### Groups and channels -/

/-- A group's state. -/
def State.grp (s : State) (g : Nat) : Group := Memory.get (fun _ => Group.reset) s.chg.groups g

/-- The state with a group replaced. -/
def State.setGrp (s : State) (g : Nat) (x : Group) : State :=
  { s with chg := { s.chg with groups := Memory.set (fun _ => Group.reset) s.chg.groups g x } }

/-- The state with a group changed. -/
def State.modGrp (s : State) (g : Nat) (f : Group → Group) : State := s.setGrp g (f (s.grp g))

/-- Channel position `i` of a group. -/
def Group.chan (x : Group) (i : Nat) : Chan := x.chans.getD i Chan.reset

/-- The group with a channel changed. -/
def Group.modChan (x : Group) (i : Nat) (f : Chan → Chan) : Group := { x with chans := modNth x.chans i f }

/-- The mode codes of R213. -/
def mdSafe : Nat := 0
def mdContext : Nat := 1
def mdFabric : Nat := 2
def mdStream : Nat := 3
def mdParametric : Nat := 4
def mdTdr : Nat := 5

/-- The mode of a group. -/
def State.mode (s : State) (g : Nat) : Nat := s.fld CHG_MODE_MODE g

/-- The driver state of a channel apart from a calibration step: a held reflex response overrides (R209). -/
def Chan.driver (c : Chan) : Nat :=
  match c.hold with
  | some (level, _) => if level then 2 else 1
  | none => c.base

/-- The driver state a channel shows at its ball: while a step holds the channel on the calibration bus, the ball is held as
a safe state holds it (R244). -/
def Chan.shown (c : Chan) : Nat := if c.onBus then 3 else c.driver

/-- CHG_CHi_LAST.DRIVER follows channel `i`. -/
def showDriver (g : Nat) (s : State) (i : Nat) : State := s.setFld CHG_CHi_LAST_DRIVER ((s.grp g).chan i).shown g i

/-- Change a channel and show its driver. -/
def State.modChan (s : State) (g i : Nat) (f : Chan → Chan) : State := showDriver g (s.modGrp g (fun x => x.modChan i f)) i

/-- The channel positions of a group. -/
def positions : List Nat := List.range 16

/-- Change every channel of a group for which a test holds. -/
def State.modChans (s : State) (g : Nat) (p : Chan → Bool) (f : Chan → Chan) : State :=
  positions.foldl (fun s i => if p ((s.grp g).chan i) then s.modChan g i f else s) s

/-- QUEUED and CLAIMED follow the queue and the claims. -/
def syncQueue (g : Nat) (s : State) : State := s.setFld CHG_STATUS_QUEUED (s.grp g).acts.length g

/-- The holder of a channel changes, and its CLAIMED bit follows. A claim begins with the flags of R223 and R224 clear, and a
reflex response held on the channel does not reach it from then on (R195). -/
def setHolder (g i : Nat) (o : Option Claimer) (s : State) : State :=
  (s.modChan g i (fun c => { c with
    holder := o
    hold := if o.isSome then none else c.hold
    compliance := if o.isSome then false else c.compliance
    overrange := if o.isSome then false else c.overrange })).setFbit CHG_STATUS_CLAIMED i o.isSome g

/-- A region delivers vectors: LOADED, damper OPEN, clocks not gated (R205, R652). -/
def State.regionOpen (s : State) (r : Nat) : Bool :=
  decide (s.fld CFG_RGNr_STATUS_STATE r = 2 ∧ s.fld CFG_RGNr_STATUS_DAMPER r = 0) && s.fbit CLK_RGN_GATE_GATE r
    && !s.fbit CLK_RGN_CLOSING_CLOSING r && !s.pwr.rgnForced && !s.pwr.stopped

/-! ### Vector boundaries (R178, R181) -/

/-- At a vector boundary written edges, deskew, pair level corrections and reflex entries take effect (R181, R245). -/
def loadEdges (g : Nat) (s : State) : State :=
  let s := s.modGrp g (fun x => x.pendEdges.foldl (fun x i => x.modChan i (fun c => { c with
      drive := s.fld CHG_CHi_EDGES_DRIVE g i
      strobe := s.fld CHG_CHi_EDGES_STROBE g i
      deskew := bits (s.reg (CHG_CHi_DESKEW_DRV.key g i 0)) 0 16 })) x)
  s.modGrp g (fun x => { x with
    pendEdges := []
    levelCal := Memory.get (fun _ => 0) x.image 3
    rfx := positions.map (fun j => (s.reg (CHG_RFXj_MATCH_VALUE.key g j 0), s.reg (CHG_RFXj_RESP_DRIVE_EN.key g j 0))) })

/-! ### Calibration steps (R243) -/

/-- The channels of the step in hand leave the calibration bus and return to their state (R243, R244). -/
def endStep (g : Nat) (s : State) : State :=
  let l := (s.grp g).step.getD []
  (l.foldl (fun s i => s.modChan g i (fun c => { c with onBus := false, unit := .off })) s).modGrp g
    (fun x => { x with step := none })

/-- A running step is abandoned: its channels return to their state from before it, its results are discarded, and it is
repeated in a later window. -/
def abandonStep (g : Nat) (s : State) : State :=
  match (s.grp g).step with
  | none => s
  | some _ => (endStep g s).addFld CHG_CAL_STATUS_ABANDONED 1 g

/-- A claim has reached channel position `i`: a step that uses it is abandoned. -/
def abandonFor (g i : Nat) (s : State) : State :=
  match (s.grp g).step with
  | none => s
  | some chans => if chans.contains i then abandonStep g s else s

/-! ### Safe states (R217, R218) -/

/-- The level at which a keeper of a channel holds its ball when it turns on (R217): the level the channel drives, else the
level that the outside world holds, a free value. -/
def keeperLevel (c : Chan) (s : State) : Bool × State :=
  if c.driver = 1 ∨ c.driver = 2 then (decide (c.driver = 2), s)
  else
    let r := s.draw
    (bit r.1 0, r.2)

/-- Put one channel in the safe state: driver off or low as CHG_SAFE sets, unit off, reflex response ended, and a keeper on
where CHG_SAFE sets one. A channel whose ball is held already, in a safe state or by a calibration step, stays held. -/
def safeChan (g : Nat) (s : State) (i : Nat) : State :=
  let c := (s.grp g).chan i
  if c.driver = 3 ∨ c.onBus then s.modChan g i (fun c => { c with base := 3, hold := none, unit := .off })
  else
    let r := if s.fld CHG_SAFE_STATE g = 1 then keeperLevel c s else (false, s)
    r.2.modChan g i (fun c => { c with base := 3, hold := none, unit := .off, keeper := r.1 })

/-- Put every channel of a group in the safe state. -/
def applySafe (g : Nat) (s : State) : State := positions.foldl (safeChan g) s

/-! ### Claims (R192 to R195) -/

/-- The channels an action claims, in ascending order, each once (R191, R192). -/
def Action.channels (a : Action) : List Nat :=
  let chA := bits a.w1 0 11
  let chB := bits a.w1 11 11
  let l : List Nat := match a.kind with
    | 0 => if bit a.w1 62 then [chA, chB, bits a.w1 40 11, bits a.w1 51 11] else [chA, chB]
    | 1 => [chA, chB]
    | 2 => if bit a.w1 33 then [chA] else [chA, chB]
    | 3 => [chA]
    | _ => (List.range 16).map (fun i => chA / 16 * 16 + i)
  (sortBy (fun a b => decide (a ≤ b)) l).dedup

/-- Two groups lie on one channel die and share its companion bus (R193). -/
def sameDie (g h : Nat) : Bool := decide (g / 32 = h / 32)

/-- The action in a slot. -/
def Group.inSlot (x : Group) (slot : Nat) : Option GAct := x.acts.find? (fun a => decide (a.slot = slot))

/-- The group with the action in a slot changed. -/
def Group.modAct (x : Group) (slot : Nat) (f : GAct → GAct) : Group :=
  { x with acts := x.acts.map (fun a => if a.slot = slot then f a else a) }

/-- Every claim of an action is granted: a TDR action joins the sequencer's line (R236). -/
def claimsDone (g slot : Nat) (s : State) : State :=
  s.modGrp g (fun x =>
    let x := x.modAct slot (fun a => { a with phase := .claimed })
    match x.inSlot slot with
    | some a => if a.act.kind = 3 then { x with tdrQueue := x.tdrQueue ++ [slot] } else x
    | none => x)

/-- One claim of the action in a slot: the channel is granted where it is free, else the action waits, as it does for a
channel of another group (R192, R193). The second result says whether the action goes on to its next claim. -/
def claimStep (g slot : Nat) (s : State) : State × Bool :=
  match (s.grp g).inSlot slot with
  | some { phase := .claiming [], .. } => (claimsDone g slot s, false)
  | some { phase := .claiming (c :: rest), .. } =>
    if c / 16 ≠ g then (s.emit (.claim c g slot (sameDie g (c / 16))), false)
    else
      let s := abandonFor g (c % 16) s
      if ((s.grp g).chan (c % 16)).holder.isSome then
        (s.modGrp g (fun x => { x with waiters := x.waiters ++ [(c % 16, Claimer.mk g slot)] }), false)
      else
        let s := setHolder g (c % 16) (some ⟨g, slot⟩) s
        (s.modGrp g (fun x => x.modAct slot (fun a => { a with phase := .claiming rest, held := a.held ++ [c] })), true)
  | _ => (s, false)

/-- The claims that actions make in one channel cycle: in rounds, one claim of each action in queue order (R192). The first
number bounds the rounds: an action claims at most 16 channels. -/
def claimRounds : Nat → Nat → List Nat → State → State
  | 0, _, _, s => s
  | n + 1, g, slots, s =>
    let r := slots.foldl (fun (acc : State × List Nat) k =>
      let t := claimStep g k acc.1
      (t.1, if t.2 then acc.2 ++ [k] else acc.2)) (s, [])
    if r.2 = [] then r.1 else claimRounds n g r.2 r.1

/-- The actions in some slots go on claiming, in queue order. -/
def goOn (g : Nat) (slots : List Nat) (s : State) : State :=
  claimRounds 17 g (((s.grp g).acts.map GAct.slot).filter slots.contains) s

/-- A claim of the action in a slot is granted; the second result says whether the grant was the one it waits for. -/
def noteGrant (g slot c : Nat) (s : State) : State × Bool :=
  match (s.grp g).inSlot slot with
  | some { phase := .claiming (d :: rest), .. } =>
    if c = d then
      (s.modGrp g (fun x => x.modAct slot (fun a => { a with phase := .claiming rest, held := a.held ++ [c] })), true)
    else (s, false)
  | _ => (s, false)

/-- A free channel is granted to the first of its waiting claimants (R192); the second result names the group's own action
that goes on with its next claim. -/
def grantWaiting (g i : Nat) (s : State) : State × List Nat :=
  if ((s.grp g).chan i).holder.isSome then (s, [])
  else match (s.grp g).waiters.find? (fun x => decide (x.1 = i)) with
    | none => (s, [])
    | some w =>
      let s := s.modGrp g (fun x => { x with waiters := dropFirst w x.waiters })
      let s := setHolder g i (some w.2) s
      if w.2.group = g then
        let r := noteGrant g w.2.slot (16 * g + i) s
        (r.1, if r.2 then [w.2.slot] else [])
      else (s.emit (.grant (16 * g + i) w.2.group w.2.slot (sameDie g w.2.group)), [])

/-- A claimer gives up a channel in the channel's own group; a claim of it that still waits is withdrawn (R195). -/
def freeChan (g i : Nat) (who : Claimer) (s : State) : State :=
  let s := s.modGrp g (fun x => { x with waiters := x.waiters.filter (fun w => decide (w ≠ (i, who))) })
  if ((s.grp g).chan i).holder = some who then setHolder g i none s else s

/-- Channels given up in one channel cycle are granted, and then the actions granted go on claiming (R192). -/
def grantFreed (g : Nat) (l : List Nat) (s : State) : State :=
  let r := l.foldl (fun (acc : State × List Nat) i =>
    let t := grantWaiting g i acc.1
    (t.1, acc.2 ++ t.2)) (s, [])
  goOn g r.2 r.1

/-- A channel is released by a claimer in the channel's own group (R195). -/
def releaseChan (g i : Nat) (who : Claimer) (s : State) : State := grantFreed g [i] (freeChan g i who s)

/-- The channels an action holds or has asked for: the head of its remaining claims is asked for. -/
def GAct.asked (a : GAct) : List Nat :=
  match a.phase with
  | .claiming (c :: _) => a.held ++ [c]
  | _ => a.held

/-- Release the channels of an action in one channel cycle: companion ones by releases that travel, local ones at once,
and then the channels so freed are granted (R192, R195). -/
def releaseAll (g slot : Nat) (l : List Nat) (s : State) : State :=
  let own := (l.filter (fun c => decide (c / 16 = g))).map (fun c => c % 16)
  let s := (l.filter (fun c => decide (c / 16 ≠ g))).foldl (fun s c => s.emit (.release c g slot (sameDie g (c / 16)))) s
  grantFreed g own (own.foldl (fun s i => freeChan g i ⟨g, slot⟩ s) s)

/-- Turn off the parametric unit of a held channel. -/
def unitOff (s : State) (c : Nat) : State := s.modGrp (c / 16) (fun x => x.modChan (c % 16) (fun k => { k with unit := .off }))

/-- Drop an action's quantities from every ADC. -/
def dropQuantities (g slot : Nat) (s : State) : State :=
  (List.range 128).foldl (fun s h =>
    let x := s.grp h
    if x.adcQueue.any (fun q => decide (q.who = ⟨g, slot⟩)) ∨ x.adc.any (fun c => decide (c.q.who = ⟨g, slot⟩)) then
      let s := s.modGrp h (fun x => { x with
        adcQueue := x.adcQueue.filter (fun q => decide (q.who ≠ ⟨g, slot⟩))
        adc := if x.adc.any (fun c => decide (c.q.who = ⟨g, slot⟩)) then none else x.adc })
      s.setFld CHG_ADC_STATUS_WAITING (min (s.grp h).adcQueue.length 63) h
    else s) s

/-- Answer an action and release its channels in the same cycle (R195). -/
def answerAct (g : Nat) (a : GAct) (st : Status) (value : Nat) (s : State) : State :=
  let s := a.held.foldl unitOff s
  let s := s.modGrp g (fun x => { x with
    acts := x.acts.filter (fun b => decide (b.slot ≠ a.slot))
    tdrQueue := x.tdrQueue.filter (fun k => decide (k ≠ a.slot))
    tdr := if x.tdr.any (fun t => decide (t.slot = a.slot)) then none else x.tdr })
  let s := syncQueue g s
  let s := answeredAt (dieEndpoint (g / 32)) (s.emit (.result a.act.src g a.act.tag st value))
  releaseAll g a.slot a.asked s

/-! ### Modes (R190, R213 to R219) -/

/-- The kinds a mode accepts (R190). -/
def modeAccepts (mode kind : Nat) : Bool :=
  match mode with
  | 1 => decide (kind ≤ 4)
  | 4 => decide (kind ≤ 2)
  | 5 => decide (kind = 3)
  | _ => false

/-- The driver of a companion channel of an action cut short is set off, save in a group that has entered a safe state,
where it stays (R216, R218); its unit turns off. -/
def cutCompanion (s : State) (c : Nat) : State :=
  s.modChan (c / 16) (c % 16) (fun k => { k with base := if k.base = 3 then 3 else 0, unit := .off })

/-- An action is cut short by a mode change (R216): answered FENCED; its companion channels' drivers are set off. -/
def fenceAct (g : Nat) (s : State) (slot : Nat) : State :=
  match (s.grp g).inSlot slot with
  | none => s
  | some a =>
  let s := dropQuantities g a.slot s
  let s := (a.held.filter (fun c => decide (c / 16 ≠ g))).foldl cutCompanion s
  answerAct g a .fenced 0 s

/-- A stream ends (R199). -/
def endStream (g : Nat) (s : State) : State :=
  match (s.grp g).stream with
  | none => s
  | some _ =>
    ((s.modGrp g (fun x => { x with stream := none })).setFld CHG_STREAM_CTL_ARMED 0 g).setFld CHG_STREAM_STATUS_BUFFERED 0 g

/-- Companion claims that wait in a group that is in neither CONTEXT nor PARAMETRIC mode are refused (R194). -/
def refuseCompanions (g : Nat) (s : State) : State :=
  let out := (s.grp g).waiters.filter (fun w => decide (w.2.group ≠ g))
  let s := s.modGrp g (fun x => { x with waiters := x.waiters.filter (fun w => decide (w.2.group = g)) })
  out.foldl (fun s w => s.emit (.refusal (16 * g + w.1) w.2.group w.2.slot (sameDie g w.2.group))) s

/-- PLAYING: a VECTOR_RUN, stream or fabric playback is running. -/
def syncPlaying (g : Nat) (s : State) : State :=
  let x := s.grp g
  let fabric := decide (s.mode g = mdFabric) && !x.closed
  s.setFld CHG_STATUS_PLAYING
    (bnat ((x.run.any (fun r => decide (r.done = none))) || x.stream.any (fun t => t.playing) || fabric)) g

/-- R205 begins for a FABRIC group: safe state or hold, as RELOAD_ACT sets. A held reflex response ends in the first
case and runs on in the second (R401); responses on their way to the balls do as held ones. A change of RELOAD_ACT to 0
while the region stays closed applies the safe state. -/
def closeFabric (g : Nat) (s : State) : State :=
  if s.mode g ≠ mdFabric then s
  else
    let s := s.modGrp g (fun x => { x with closed := true })
    let s := if (s.grp g).reloadAct ∨ (s.grp g).safeHeld then s
      else applySafe g (s.modGrp g (fun x => { x with safeHeld := true, responses := [] }))
    syncPlaying g s

/-- The assigned region is released (R205): the vector clock restarts, and the group plays the first vector the region
delivers. -/
def openFabric (g : Nat) (s : State) : State :=
  if s.mode g ≠ mdFabric ∨ ¬ (s.grp g).closed then s
  else
    let s := s.modGrp g (fun x => { x with closed := false, firstAfter := true, safeHeld := false, crossing := [] })
    syncPlaying g (loadEdges g <| s.modChans g (fun c => decide (c.base = 3)) (fun c => { c with base := 0 }))

/-- The FABRIC groups assigned to a region follow its edge (R205, R699). -/
def followRegion (r : Nat) (s : State) : State :=
  (List.range 128).foldl (fun s g =>
    if s.mode g = mdFabric ∧ (s.grp g).region = r then
      (if s.regionOpen r then openFabric g s else closeFabric g s)
    else s) s

/-- A group leaves its mode for another (R174, R216, R218): actions the new mode does not accept are fenced, streams and
runs end, waiting companion claims are refused, reflex responses end, and every driver takes the entry state, claimed or
not. A change to FABRIC or STREAM abandons a calibration step; another change lets it run on (R243). -/
def leaveMode (g mode : Nat) (s : State) : State :=
  let s := if mode = mdFabric ∨ mode = mdStream then abandonStep g s else s
  let s := (s.setFld CHG_MODE_MODE mode g)
  let s := s.modGrp g (fun x => { x with run := none, crossing := [], closed := false, safeHeld := false, responses := [] })
  let s := endStream g s
  let s := if mode = mdContext ∨ mode = mdParametric then s else refuseCompanions g s
  let cut := ((s.grp g).acts.filter (fun a => !modeAccepts mode a.act.kind)).map GAct.slot
  let s := s.modGrp g (fun x => { x with waiters := x.waiters.filter (fun w => !(w.2.group = g && cut.contains w.2.slot)) })
  let s := cut.foldl (fenceAct g) s
  let s := if mode = mdSafe then applySafe g s
    else s.modChans g (fun _ => true) (fun c => { c with base := 0, hold := none, lastHigh := false })
  syncPlaying g s

/-- Enter SAFE at once (R215, R219): a pending change of CHG_MODE is withdrawn, and a calibration step is abandoned
(R243). -/
def enterSafe (g : Nat) (s : State) : State :=
  let s := (s.setFld CHG_MODE_PENDING 0 g).setFld CHG_MODE_REFLEX_ON 0 g
  let s := s.modGrp g (fun x => { x with modeFrozen := none })
  let s := abandonStep g s
  if s.mode g = mdSafe then s else leaveMode g mdSafe s

/-- A full load runs (R386): one that is no partial load and no clear. -/
def State.fullLoad (s : State) : Bool := s.cfg.load.any (fun l => !l.part && !l.clear)

/-- Every group is in SAFE: the device is UNCONFIGURED or a full load runs (R219, R386). -/
def State.safeOnly (s : State) : Bool := s.fullLoad || decide (s.fld CFG_STATUS_STATE = 0)

/-- The values of CHG_MODE's word `v` take effect (R214). -/
def applyMode (g : Nat) (v : Word) (s : State) : State :=
  let next := bits v 4 3
  let overlay := bit v 8 && decide (next = mdContext ∨ next = mdFabric)
  let s := s.modGrp g (fun x => { x with region := bits v 16 6, reloadAct := bit v 24 })
  let s := if s.mode g = next then s else leaveMode g next s
  let s := s.setFld CHG_MODE_REFLEX_ON (bnat overlay) g
  if next ≠ mdFabric then s
  else if s.regionOpen (s.grp g).region then openFabric g s else closeFabric g s

/-- The CHG_MODE word that takes effect at this boundary, when one does (R43, R44, R214): the one frozen for it, else the
pending one whose boundary has come. -/
def State.modeTurn (s : State) (g : Nat) : Option Word :=
  match (s.grp g).modeFrozen with
  | some v => some v
  | none => if s.on CHG_MODE_PENDING g ∧ (s.grp g).modeDue ≤ s.tck.ticks then some (s.reg (CHG_MODE_NEXT.key g 0 0)) else none

/-- The mode change of a group at a boundary. PENDING stays while a later write waits for its own boundary (R44). While
every group is in SAFE (R386), the change takes effect with NEXT as SAFE (log entry 201). -/
def modeAtBoundary (g : Nat) (s : State) : State :=
  match s.modeTurn g with
  | none => s
  | some v =>
    let s := if (s.grp g).modeFrozen.isSome then s.modGrp g (fun x => { x with modeFrozen := none })
      else s.setFld CHG_MODE_PENDING 0 g
    applyMode g (if s.safeOnly then setBits v 4 3 mdSafe else v) s

/-- The CHG_MODE word that a further write leaves frozen for the coming boundary (R44). -/
def State.modeFroze (s : State) (g : Nat) : Option Word :=
  if s.on CHG_MODE_PENDING g ∧ s.frozenSet ∧ (s.grp g).modeDue ≤ s.tck.ticks + 1 then some (s.reg (CHG_MODE_NEXT.key g 0 0))
  else (s.grp g).modeFrozen

/-- The effect of a write to CHG_MODE (R214, R215, R219, R255). -/
def modeEffect (g : Nat) (h : Half) (data : Word) (s : State) : State :=
  if ¬ h.reaches 0 ∨ s.on FLT_STATUS_HALTED then s
  else if wbit h data CHG_MODE_FORCE_SAFE then enterSafe g s
  else
    let next := bits data 4 3
    if 6 ≤ next ∨ ((s.grp g).pattern ∧ next ≠ mdSafe) then s
    else
      let frozen := s.modeFroze g
      let s := (s.setFld CHG_MODE_NEXT next g).setFld CHG_MODE_REFLEX (bits data 8 1) g
      let s := (s.setFld CHG_MODE_REGION (bits data 16 6) g).setFld CHG_MODE_RELOAD_ACT (bits data 24 1) g
      (s.setFld CHG_MODE_PENDING 1 g).modGrp g (fun x => { x with modeDue := s.nextDue, modeFrozen := frozen })

/-- `MODE_WRITE` (R214). -/
def execModeWrite (m : Ident) (g : Fin 128) (h : Half) (data : Word) (s : State) : Host.Outcome State Fault Refusal :=
  .next (regWrite .CHG_MODE [g] m h (modeEffect g h data) s)

/-- `FORCE_SAFE` (R215): the write of CHG_MODE whose FORCE_SAFE bit is 1. -/
def execForceSafe (m : Ident) (g : Fin 128) (h : Half) (data : Word) (s : State) : Host.Outcome State Fault Refusal :=
  .next (regWrite .CHG_MODE [g] m h (modeEffect g h data) s)

/-- The keepers of a group's channels in the safe state turn on (R217): each holds low after a driven low, else the level
the outside world holds, a free value. A channel on the calibration bus is held as the state of CHG_SAFE says (R244). -/
def keepersOn (g old : Nat) (s : State) : State :=
  let r := s.draw
  let s := if old = 2 then s else r.2
  positions.foldl (fun s i =>
    if ((s.grp g).chan i).shown ≠ 3 then s
    else s.modChan g i (fun c => { c with keeper := decide (old ≠ 2) && bit r.1 i })) s

/-- CHG_SAFE.STATE changes: a safe state that is applied follows it (R217, R218). -/
def setSafeState (g v : Nat) (s : State) : State :=
  let old := s.fld CHG_SAFE_STATE g
  let s := s.setFld CHG_SAFE_STATE v g
  if v = 1 ∧ old ≠ 1 then keepersOn g old s else s

/-- What holds the ball of a channel (R168, R217, R244): nothing, the driver, the 50 kΩ pull-down, the bus keeper at its
level, or the 1 kΩ switch to ground of a calibration step. -/
inductive BallHold
  | none | driver (high : Bool) (imp : Bool) | pullDown | keeper (high : Bool) | switchLow
  deriving DecidableEq, Repr

/-- What holds the ball of channel `i` of group `g`. -/
def State.ballHold (s : State) (g i : Nat) : BallHold :=
  let c := (s.grp g).chan i
  match c.shown, s.fld CHG_SAFE_STATE g with
  | 0, _ => .none
  | 1, _ => .driver false c.imp
  | 2, _ => .driver true c.imp
  | _, 1 => .keeper c.keeper
  | _, 2 => if c.onBus then .switchLow else .driver false c.imp
  | _, _ => .pullDown

/-- The effect of a write to CHG_SAFE (R217, R218): a write of 3 is ignored; a safe state that is applied changes. -/
def safeStateEffect (g : Nat) (h : Half) (data : Word) (s : State) : State :=
  if ¬ h.reaches 0 ∨ bits data 0 2 = 3 then s else setSafeState g (bits data 0 2) s

/-- `SAFE_STATE_WRITE` (R218). -/
def execSafeStateWrite (m : Ident) (g : Fin 128) (h : Half) (data : Word) (s : State) : Host.Outcome State Fault Refusal :=
  .next (regWrite .CHG_SAFE [g] m h (safeStateEffect g h data) s)

/-! ### Level, period and edges (R168 to R170, R178 to R181) -/

/-- A group of the pair plays, streams, takes fabric vectors or has a channel claimed (R170). -/
def State.groupBusy (s : State) (g : Nat) : Bool := s.on CHG_STATUS_PLAYING g || s.on CHG_STATUS_CLAIMED g

/-- The effect of a write to CHG_DRV_LEVEL (R169, R170): the odd group's field is a read-only copy. -/
def levelEffect (g : Nat) (h : Half) (data : Word) (s : State) : State :=
  if g % 2 = 1 ∨ ¬ h.reaches 0 ∨ s.groupBusy g ∨ s.groupBusy (g + 1) then s
  else if bits data 0 12 < 1490 then s.setFld CHG_STATUS_LEVEL_REFUSED 1 g
  else (s.setFld CHG_DRV_LEVEL_VIH (bits data 0 12) g).setFld CHG_DRV_LEVEL_VIH (bits data 0 12) (g + 1)

/-- `LEVEL_WRITE` (R169). -/
def execLevelWrite (m : Ident) (g : Fin 128) (h : Half) (data : Word) (s : State) : Host.Outcome State Fault Refusal :=
  .next (regWrite .CHG_DRV_LEVEL [g] m h (levelEffect g h data) s)

/-- Every edge of a group, in effect or written, lies below 128 × P (R179). -/
def State.edgesFit (s : State) (g p : Nat) : Bool :=
  positions.all (fun i =>
    let c := (s.grp g).chan i
    decide (c.drive < 128 * p) && decide (c.strobe < 128 * p)
      && decide (s.fld CHG_CHi_EDGES_DRIVE g i < 128 * p) && decide (s.fld CHG_CHi_EDGES_STROBE g i < 128 * p))

/-- The period that a further write leaves frozen for the coming boundary (R44). -/
def State.periodFroze (s : State) (g : Nat) : Option Nat :=
  match (s.grp g).pendPeriod with
  | some (p, due) => if s.frozenSet ∧ due ≤ s.tck.ticks + 1 then some p else (s.grp g).periodFrozen
  | none => (s.grp g).periodFrozen

/-- The effect of a write to CHG_PERIOD (R178, R179): locked while PLAYING, 0 ignored, refused where an edge would leave
its range. -/
def periodEffect (g : Nat) (h : Half) (data : Word) (s : State) : State :=
  let p := bits data 0 16
  if ¬ h.reaches 0 ∨ s.on CHG_STATUS_PLAYING g ∨ p = 0 then s
  else if ¬ s.edgesFit g p then s.setFld CHG_STATUS_EDGE_REFUSED 1 g
  else (s.setFld CHG_PERIOD_CYCLES p g).modGrp g (fun x =>
    { x with pendPeriod := some (p, s.nextDue), periodFrozen := s.periodFroze g })

/-- `PERIOD_WRITE` (R179). -/
def execPeriodWrite (m : Ident) (g : Fin 128) (h : Half) (data : Word) (s : State) : Host.Outcome State Fault Refusal :=
  .next (regWrite .CHG_PERIOD [g] m h (periodEffect g h data) s)

/-- The period that takes effect at this boundary, when one does (R44, R178). -/
def State.periodTurn (s : State) (g : Nat) : Option Nat :=
  match (s.grp g).periodFrozen with
  | some p => some p
  | none => match (s.grp g).pendPeriod with
    | some (p, due) => if due ≤ s.tck.ticks then some p else none
    | none => none

/-- A written period whose boundary has come takes effect (R178). -/
def periodAtBoundary (g : Nat) (s : State) : State :=
  match s.periodTurn g with
  | some p => s.modGrp g (fun x =>
      { x with period := p, periodFrozen := none, pendPeriod := if x.periodFrozen.isSome then x.pendPeriod else none })
  | none => s

/-- The smallest of the period in effect and the pending ones (R179). -/
def Group.smallPeriod (x : Group) : Nat :=
  let p := match x.pendPeriod with
    | some (p, _) => min x.period p
    | none => x.period
  match x.periodFrozen with
  | some q => min p q
  | none => p

/-- A channel's edges, deskew or impedance wait for its next vector boundary. -/
def pendEdge (g i : Nat) (s : State) : State :=
  s.modGrp g (fun x => if x.pendEdges.contains i then x else { x with pendEdges := x.pendEdges ++ [i] })

/-- The effect of a write to CHG_CHi_EDGES (R179): ignored as a whole where either value breaks E < 128 × P. -/
def edgesEffect (g i : Nat) (h : Half) (data : Word) (s : State) : State :=
  let v := s.merged (CHG_CHi_EDGES_DRIVE.key g i 0) h data
  let lim := 128 * (s.grp g).smallPeriod
  if lim ≤ bits v 0 23 ∨ lim ≤ bits v 32 23 then s.setFld CHG_STATUS_EDGE_REFUSED 1 g
  else pendEdge g i ((s.setFld CHG_CHi_EDGES_DRIVE (bits v 0 23) g i).setFld CHG_CHi_EDGES_STROBE (bits v 32 23) g i)

/-- `EDGES_WRITE` (R179). -/
def execEdgesWrite (m : Ident) (g : Fin 128) (i : Fin 16) (h : Half) (data : Word) (s : State) :
    Host.Outcome State Fault Refusal :=
  .next (regWrite .CHG_CHi_EDGES [g, i] m h (edgesEffect g i h data) s)

/-- CHG_CHi_DESKEW is written: a correction of −128 is ignored, and the rest waits for its vector boundary (R181). -/
def storeDeskew (g i drv stb : Nat) (s : State) : State :=
  let s := if drv = 128 then s else s.setFld CHG_CHi_DESKEW_DRV drv g i
  let s := if stb = 128 then s else s.setFld CHG_CHi_DESKEW_STB stb g i
  pendEdge g i s

/-- The effect of a write to CHG_CHi_DESKEW. -/
def deskewEffect (g i : Nat) (h : Half) (data : Word) (s : State) : State :=
  if ¬ h.reaches 0 then s else storeDeskew g i (bits data 0 8) (bits data 8 8) s

/-! ### The vector memory (R183 to R185) -/

/-- CHG_VEC_ADDR advances modulo 32,768. -/
def bumpVecAddr (g : Nat) (s : State) : State := s.addFld CHG_VEC_ADDR_ADDR 1 g

/-- A write to CHG_VEC_DATA (R184). -/
def vecWriteEffect (m : Ident) (g : Nat) (h : Half) (data : Word) (s : State) : State :=
  if s.on CHG_STATUS_PLAYING g then s
  else
    let key := vmemKey g (s.fld CHG_VEC_ADDR_ADDR g)
    let s := match s.writeMasked key h.mask data false with
      | some t => t
      | none => refusedPartial m (RegName.CHG_VEC_DATA.off [g] + h.skip) s
    if h = .low then s else bumpVecAddr g s

/-- A read of CHG_VEC_DATA (R184, R185). -/
def vecReadEffect (m : Ident) (g : Nat) (h : Half) (s : State) : State :=
  let key := vmemKey g (s.fld CHG_VEC_ADDR_ADDR g)
  let p := s.pword key
  let s := if p.isBad then s.emit (.poisonedAnswer m) else (s.noteMend key).emit (.answer m (p.value &&& h.mask))
  if h = .low then s else bumpVecAddr g s

/-- `VEC_DATA_ACCESS` (R184): a write, or a read where no data come. -/
def execVecDataAccess (m : Ident) (g : Fin 128) (h : Half) (data : Option Word) (s : State) :
    Host.Outcome State Fault Refusal :=
  match data with
  | some d => .next (regWrite .CHG_VEC_DATA [g] m h (vecWriteEffect m g h d) s)
  | none => .next (readFront m (RegName.CHG_VEC_DATA.off [g]) h (vecReadEffect m g h) s)

/-! ### Symbols and strobes (R172 to R177) -/

/-- The symbol of channel `i` in a vector. -/
def symbolOf (v : Word) (i : Nat) : Nat := bits v (4 * i) 4

/-- The driver after a symbol's drive edge (R173, R174): none where it does not change. -/
def symbolDrive (sym : Nat) (c : Chan) : Option Nat :=
  match sym with
  | 0 | 8 => some 1
  | 1 | 9 => some 2
  | 2 | 4 | 5 | 6 | 7 => some 0
  | 10 => some 2
  | 11 => some 1
  | 12 => some (if c.lastHigh then 1 else 2)
  | _ => none

/-- The driver after a symbol's return edge (R173): none where the symbol has none. -/
def symbolReturn (sym : Nat) : Option Nat :=
  match sym with
  | 10 => some 1
  | 11 => some 2
  | _ => none

/-- The driver once a vector's edges have passed. -/
def symbolEnd (sym : Nat) (c : Chan) : Nat := (symbolReturn sym).getD ((symbolDrive sym c).getD c.base)

/-- The comparator states a symbol expects (R173): none where it does not compare. -/
def symbolExpect (sym : Nat) : Option (List Nat) :=
  match sym with
  | 4 => some [1]
  | 5 => some [2]
  | 6 => some [0]
  | 7 => some [1, 2]
  | 8 => some [1]
  | 9 => some [2]
  | _ => none

/-- A level in nV times 4,095 with a gain in ppm and an offset in LSBs (R239, R248): as it stands where both are zero. -/
def correctedLevel (gain off : Nat) (level : Int) : Int :=
  if gain = 0 ∧ off = 0 then level else Config.correctedLevel (signed 16 gain) (signed 16 off) level

/-- A word of a group's coefficient image (R248). -/
def Group.imageWord (x : Group) (k : Nat) : Word := Memory.get (fun _ => 0) x.image k

/-- Word k + r of channel c's entry (R248). -/
def State.calWord (s : State) (c r : Nat) : Word := (s.grp (c / 16)).imageWord (4 + 10 * (c % 16) + r)

/-- A low and a high threshold level of channel `c` with its THRESH coefficients applied (R239, R248). -/
def State.lowLevel (s : State) (c : Nat) (level : Int) : Int :=
  correctedLevel (bits (s.calWord c 6) 32 16) (bits (s.calWord c 6) 48 16) level
def State.highLevel (s : State) (c : Nat) (level : Int) : Int :=
  correctedLevel (bits (s.calWord c 7) 0 16) (bits (s.calWord c 7) 16 16) level

/-- The drive-high level of a pair in nV times 4,095 (R169), with the pair's corrections in effect (R239, R245). -/
def State.vih (s : State) (g : Nat) : Int :=
  let w := (s.grp (g / 2 * 2)).levelCal
  correctedLevel (bits w 0 16) (bits w 16 16) ((s.fld CHG_DRV_LEVEL_VIH (g / 2 * 2) * 3300000000 : Nat) : Int)

/-- The comparator state for a ball voltage in nV (R171, R172), with the thresholds in nV times 4,095. -/
def comparator (vtl vth ball : Int) : Nat :=
  2 * bnat (decide (vth < ball * 4095)) + bnat (decide (ball * 4095 < vtl))

/-- The comparator state of a channel for a ball voltage: thresholds are code × 3.3 V ÷ 4,095 (R171), corrected. -/
def State.compare (s : State) (g i : Nat) (ball : Int) : Nat :=
  comparator (s.lowLevel (16 * g + i) ((s.fld CHG_CHi_THRESH_VTL g i * 3300000000 : Nat) : Int))
    (s.highLevel (16 * g + i) ((s.fld CHG_CHi_THRESH_VTH g i * 3300000000 : Nat) : Int)) ball

/-- The drive edge of one channel: driver, last driven level, impedance; a setting edge ends a held response with HOLD 0
(R168, R174, R206). -/
def driveEdge (g sym i : Nat) (s : State) : State :=
  let imp := s.on CHG_CHi_CFG_IMP g i
  s.modChan g i (fun c =>
    match symbolDrive sym c with
    | none => { c with imp := imp }
    | some d => { c with
        base := d, imp := imp
        lastHigh := if d = 0 then c.lastHigh else decide (d = 2)
        hold := match c.hold with
          | some (_, true) => none
          | x => x })

/-- The return edge of one channel (R173, R174). -/
def returnEdge (g sym i : Nat) (s : State) : State :=
  match symbolReturn sym with
  | none => s
  | some d => s.modChan g i (fun c => { c with base := d, lastHigh := decide (d = 2) })

/-- Strobe one channel: its comparator state. -/
def strobeChan (g : Nat) (balls : List Int) (s : State) (i : Nat) : State :=
  s.setFld CHG_CHi_LAST_STATE (s.compare g i (balls.getD i 0)) g i

/-- The mask of failing strobes of a vector over the channels of a list (R175). -/
def failMask (g : Nat) (vec : Word) (s : State) (l : List Nat) : Nat :=
  l.foldl (fun n i =>
    match symbolExpect (symbolOf vec i) with
    | some ok =>
      if ok.contains (s.fld CHG_CHi_LAST_STATE g i) ∨ s.on CHG_CHi_CFG_MASK g i then n else n + 2 ^ i
    | none => n) 0

/-- Count reserved symbols and MARKs of a vector over the channels of a list (R177, R197). -/
def countSymbols (g : Nat) (vec : Word) (l : List Nat) (s : State) : State :=
  l.foldl (fun s i =>
    let sym := symbolOf vec i
    if sym = 13 then s.addFld CHG_RUN_MARKS 1 g
    else if 14 ≤ sym then (s.addFld CHG_EVENTS_BAD_SYMBOL 1 g).setFld CHG_STATUS_BAD_SYMBOL 1 g
    else s) s

/-- The channels that vector symbols reach (R195): those not claimed, or claimed by the run that plays. -/
def reachable (x : Group) (g : Nat) : List Nat :=
  positions.filter (fun i =>
    match (x.chan i).holder with
    | none => !((x.step.getD []).contains i)
    | some w => match x.run with
      | some r => decide (w = ⟨g, r.slot⟩)
      | none => false)

/-! ### The reflex unit (R206 to R211) -/

/-- The comparator states as MATCH numbers them: bits 2i + 1 and 2i of channel i. -/
def stateWord (g : Nat) (s : State) : Nat :=
  positions.foldl (fun n i => n + s.fld CHG_CHi_LAST_STATE g i * 4 ^ i) 0

/-- The channel cycle that holds the last strobe edge, as it falls at the ball (R180), among the channels an entry names. -/
def evalCycle (x : Group) (mask : Nat) : Nat :=
  positions.foldl (fun n i => if mask / 4 ^ i % 4 = 0 then n else max n ((x.chan i).strobe / 128)) 0

/-- An armed entry whose masked bits match (R207, R208). -/
def entryMatches (states : Nat) (e : Word × Word) : Bool :=
  bit e.2 63 && decide (bits e.1 32 32 ≠ 0) && decide (states &&& bits e.1 32 32 = bits e.1 0 32 &&& bits e.1 32 32)

/-- The entries that act: of those that match in one cycle, the lowest (R208), in the order of their evaluation. -/
def firing (x : Group) (states : Nat) : List Nat :=
  let l := positions.filter (fun j => entryMatches states (x.rfx.getD j (0, 0)))
  let cyc := fun j => evalCycle x (bits (x.rfx.getD j (0, 0)).1 32 32)
  let l := l.filter (fun j => l.all (fun k => decide (j ≤ k ∨ cyc k ≠ cyc j)))
  sortBy (fun a b => decide (cyc a ≤ cyc b)) l

/-- One firing (R209, R210, R211): FIRED and the count, ONCE, and the response on its way to the balls. -/
def fireEntry (g : Nat) (s : State) (j : Nat) : State :=
  let e := (s.grp g).rfx.getD j (0, 0)
  let cycle := evalCycle (s.grp g) (bits e.1 32 32) + 4 + bits e.2 32 8
  let s := (s.setFbit CHG_RFX_STATUS_FIRED j true g).addFld CHG_RFX_COUNT_COUNT 1 g
  let s := (s.emit (.reflex g j (bits e.2 32 8))).modGrp g (fun x => { x with responses := x.responses ++ [⟨e.2, cycle⟩] })
  if bit e.2 62 then
    (s.setFld CHG_RFXj_RESP_EN 0 g j).modGrp g
      (fun x => { x with rfx := modNth x.rfx j (fun e => (e.1, setBits e.2 63 1 0)) })
  else s

/-- The unit works after the strobes of a vector (R206, R401). -/
def reflexUnit (g : Nat) (s : State) : State :=
  if s.on CHG_MODE_REFLEX_ON g ∧ (s.mode g = mdContext ∨ s.mode g = mdFabric) ∧ ¬ (s.grp g).closed then
    (firing (s.grp g) (stateWord g s)).foldl (fireEntry g) s
  else s

/-- A response reaches the ball of one channel, unless an action has claimed it (R195, R209). -/
def reflexDrive (g : Nat) (r : Response) (s : State) (i : Nat) : State :=
  if ¬ bit r.resp i then s
  else if ((s.grp g).chan i).holder.isSome then s.addFld CHG_EVENTS_RFX_SUPPRESSED 1 g
  else
    let s := s.emit (.reflexLevel g i r.cycle (bit r.resp (16 + i)))
    s.modChan g i (fun c => { c with hold := some (bit r.resp (16 + i), decide (bits r.resp 40 16 = 0)) })

/-! ### The edges of a vector in time (R176, R180, R209, R211) -/

/-- What happens at the balls within a vector. -/
inductive VecEvent
  | drive (i sym : Nat)
  | ret (i sym : Nat)
  | response (r : Response)
  deriving DecidableEq, Repr

/-- The sub-step of an event: the return edge is the later of the strobe edge and the drive edge plus 48 (R176). -/
def VecEvent.time (x : Group) : VecEvent → Nat
  | .drive i _ => (x.chan i).drive
  | .ret i _ => max (x.chan i).strobe ((x.chan i).drive + 48)
  | .response r => 128 * r.cycle

/-- The effect of an event. -/
def VecEvent.act (g : Nat) (s : State) : VecEvent → State
  | .drive i sym => driveEdge g sym i s
  | .ret i sym => returnEdge g sym i s
  | .response r => positions.foldl (reflexDrive g r) s

/-- The edges that a vector makes on the channels of a list. -/
def vectorEvents (vec : Word) (l : List Nat) : List VecEvent :=
  l.map (fun i => .drive i (symbolOf vec i))
    ++ (l.filter (fun i => (symbolReturn (symbolOf vec i)).isSome)).map (fun i => .ret i (symbolOf vec i))

/-- The driver edges of a vector as they are sent: channel, sub-step and level. -/
def sentEdges (x : Group) (vec : Word) (l : List Nat) : List (Nat × Nat × Nat) :=
  (vectorEvents vec l).filterMap (fun e =>
    match e with
    | .drive i sym => (symbolDrive sym (x.chan i)).map (fun d => (i, e.time x, d))
    | .ret i sym => (symbolReturn sym).map (fun d => (i, e.time x, d))
    | .response _ => none)

/-- The events of one vector period in the order of their time: the vector's edges, and of one sub-step the edges before
the responses; a response beyond the period waits for the next vector. -/
def playEvents (g : Nat) (l : List VecEvent) (s : State) : State :=
  let x := s.grp g
  let due := (x.responses.filter (fun r => decide (r.cycle < x.period))).map VecEvent.response
  let s := s.modGrp g (fun x => { x with responses :=
    (x.responses.filter (fun r => decide (x.period ≤ r.cycle))).map (fun r => { r with cycle := r.cycle - x.period }) })
  (sortBy (fun a b => decide (VecEvent.time x a ≤ VecEvent.time x b)) (l ++ due)).foldl (VecEvent.act g) s

/-- One vector period (R172, R173, R207): the strobes sample, the reflex unit evaluates, and the drivers follow the
vector's symbols and the responses. Strobes sample and the unit works also where no vector plays. A strobe at or before
the drive edge samples the ball as it stood before (R180); the ball voltages come as operands. -/
def playVector (g : Nat) (vec : Option Word) (balls : List Int) (s : State) : State :=
  let l := reachable (s.grp g) g
  let s := l.foldl (strobeChan g balls) s
  match vec with
  | some v =>
    let s := (countSymbols g v l s).emit (.vector g v (s.vih g) (sentEdges (s.grp g) v l))
    playEvents g (vectorEvents v l) (reflexUnit g s)
  | none => playEvents g [] (reflexUnit g s)

/-- `REFLEX_HOLD_END` (R209): the HOLD of a response expires. -/
def execReflexHoldEnd (g : Fin 128) (i : Fin 16) (s : State) : Host.Outcome State Fault Refusal :=
  match ((s.grp g).chan i).hold with
  | some (_, false) => .next (s.modChan g i (fun c => { c with hold := none }))
  | _ => .next s

/-! ### Passes and loops (R186 to R188) -/

/-- Enabled loop entry `j` (R187). -/
def loopEnabled (g j : Nat) (s : State) : Bool :=
  s.on CHG_LOOPj_EN g j && decide (s.fld CHG_LOOPj_BEGIN g j ≤ s.fld CHG_LOOPj_END g j)

/-- The remaining counts at the start of a pass. -/
def loopCounts (g : Nat) (s : State) : List Nat := positions.map (fun j => s.fld CHG_LOOPj_COUNT g j)

/-- Stop bit of vector `v`. -/
def stopBit (g v : Nat) (s : State) : Bool := s.fbit CHG_STOPk_STOP (v % 64) g (v / 64)

/-- The first vector at or after `v` whose stop bit is set, looking at `n` vectors. -/
def firstStop (g : Nat) (s : State) : Nat → Nat → Option Nat
  | 0, _ => none
  | n + 1, v => if stopBit g v s then some v else firstStop g s n ((v + 1) % 32768)

/-- The group has a stop bit. -/
def anyStop (g : Nat) (s : State) : Bool := (List.range 512).any (fun k => decide (s.fld CHG_STOPk_STOP g k ≠ 0))

/-- Where playback goes after vector `v`: a jump, the next vector, the next pass, or the end of the run. -/
def advanceRun (g : Nat) (s : State) (r : VecRun) : VecRun :=
  let ends := fun j => loopEnabled g j s && decide (s.fld CHG_LOOPj_END g j = r.pos)
  let left := fun j => r.rem.getD j 0
  match positions.find? (fun j => ends j && decide (left j ≠ 0)) with
  | some j => { r with pos := s.fld CHG_LOOPj_BEGIN g j, rem := modNth r.rem j (fun n => n - 1) }
  | none =>
    let replay := positions.any (fun j => loopEnabled g j s && decide (left j ≠ 0)
      && decide (s.fld CHG_LOOPj_BEGIN g j ≤ r.pos ∧ r.pos ≤ s.fld CHG_LOOPj_END g j))
    let rem := (positions.filter ends).foldl (fun l j => modNth l j (fun _ => s.fld CHG_LOOPj_COUNT g j)) r.rem
    let next := (r.pos + 1) % 32768
    let stops := if anyStop g s then decide (firstStop g s 32768 r.start = some r.pos) else decide (next = r.start)
    if stops ∧ ¬ replay then
      { r with pos := r.start, pass := r.pass + 1, rem := loopCounts g s,
               done := if r.pass + 1 = r.passes then some .ok else none }
    else { r with pos := next, rem := rem }

/-! ### Playback (R173, R185, R196, R197, R200, R203 to R205) -/

/-- Count a run's failing strobes of one vector (R197). -/
def countFails (g pos pass mask : Nat) (s : State) : State :=
  let n := weight mask 16
  let s := s.setFld CHG_RUN_FAILS (min (s.fld CHG_RUN_FAILS g + n) 0xFFFFFFFF) g
  let s := positions.foldl (fun s i =>
    if mask.testBit i then s.setFld CHG_CHi_FAILS_COUNT (min (s.fld CHG_CHi_FAILS_COUNT g i + 1) 0xFFFFFFFF) g i else s) s
  if mask ≠ 0 ∧ ¬ s.on CHG_FIRST_FAIL_VALID g then
    (((s.setFld CHG_FIRST_FAIL_VECTOR pos g).setFld CHG_FIRST_FAIL_PASS pass g).setFld CHG_FIRST_FAIL_CHANNELS mask g).setFld
      CHG_FIRST_FAIL_VALID 1 g
  else s

/-- One vector of a VECTOR_RUN. A vector that does not decode ends the run with ERR_DATA (R185). -/
def playRun (g : Nat) (r : VecRun) (balls : List Int) (s : State) : State :=
  let key := vmemKey g r.pos
  match (s.pword key).value? with
  | none => syncPlaying g (s.modGrp g (fun x => { x with run := some { r with done := some .errData } }))
  | some vec =>
    let s := playVector g (some vec) balls (s.noteMend key)
    let mask := failMask g vec s positions
    let s := countFails g r.pos r.pass mask s
    let r' := advanceRun g s { r with fails := min (r.fails + weight mask 16) 0xFFFFFF }
    let s := if r'.pass = r.pass then s else s.setFld CHG_RUN_PASSES r'.pass g
    let s := s.modGrp g (fun x => { x with run := some r' })
    syncPlaying g s

/-- Ask DRAM for the vectors that fit the stream buffer (R198). -/
def topUp (g : Nat) (s : State) : State :=
  match (s.grp g).stream with
  | none => s
  | some t =>
    let len := s.fld CHG_STREAM_CTL_LENGTH g
    let n := min (len - t.asked) (2048 - t.buffer.length - (t.asked - t.got))
    if n = 0 then s
    else
      let s := s.emit (.streamRead g t.number (8 * s.fld CHG_STREAM_BASE_ADDR g + 8 * t.asked) n)
      s.modGrp g (fun x => { x with stream := some { t with asked := t.asked + n } })

/-- A stream ends as ABORT does (R200, R201): safe state on every channel, the group staying in STREAM mode. -/
def abortStream (g : Nat) (s : State) : State :=
  let s := endStream g s
  let s := applySafe g (s.modGrp g (fun x => { x with safeHeld := true }))
  syncPlaying g (s.setFld CHG_STATUS_STREAM_ABORT 1 g)

/-- One vector period of a stream that plays (R198 to R200). -/
def playStream (g : Nat) (t : StreamState) (balls : List Int) (s : State) : State :=
  match t.buffer with
  | [] =>
    let s := s.setFld CHG_STATUS_UNDERRUN 1 g
    let s := if s.on CHG_STREAM_CTL_UNDERRUN_ACT g then abortStream g s
      else playVector g (some 0x3333333333333333) balls (s.addFld CHG_UNDERRUN_STREAM 1 g)
    raise (0x200 + g) (s.fld CHG_UNDERRUN_STREAM g) s
  | v :: rest =>
    let s := playVector g (some v) balls s
    let s := s.addFld CHG_STREAM_STATUS_PLAYED 1 g
    let s := s.setFld CHG_STREAM_STATUS_BUFFERED rest.length g
    let s := s.modGrp g (fun x => { x with stream := some { t with buffer := rest } })
    if s.fld CHG_STREAM_STATUS_PLAYED g = s.fld CHG_STREAM_CTL_LENGTH g then syncPlaying g (endStream g s)
    else topUp g s

/-- At the first vector after a region's release a response with HOLD 0 ends (R401). -/
def endOpenHolds (g : Nat) (s : State) : State :=
  if (s.grp g).firstAfter then
    (s.modChans g (fun c => decide (c.hold.map Prod.snd = some true)) (fun c => { c with hold := none })).modGrp g
      (fun x => { x with firstAfter := false })
  else s

/-- One vector period in FABRIC mode (R203 to R205): while R205 applies, strobes sample and nothing compares. -/
def playFabric (g : Nat) (balls : List Int) (s : State) : State :=
  let x := s.grp g
  if x.closed then playVector g none balls s
  else
    let s := match x.crossing with
      | [] => (s.addFld CHG_UNDERRUN_FABRIC 1 g).setFld CHG_STATUS_UNDERRUN 1 g
      | _ :: rest => endOpenHolds g (s.modGrp g (fun x => { x with crossing := rest }))
    let vec : Word := x.crossing.head?.getD 0x3333333333333333
    let l := reachable (s.grp g) g
    let s := playVector g (some vec) balls s
    let mark := l.any (fun i => decide (symbolOf vec i = 13))
    s.emit (.compared g x.region (stateWord g s) (failMask g vec s l) mark)

/-- STOP of a stream takes effect at a vector boundary (R199). -/
def stopStream (g : Nat) (s : State) : State :=
  match (s.grp g).stream with
  | some t => if t.stop then syncPlaying g (endStream g s) else s
  | none => s

/-- The current limit of a driver that drives acts: the channel's compliance flag is set (R720). -/
def currentLimit (g : Nat) (s : State) (i : Fin 16) : State :=
  s.modGrp g (fun x => x.modChan i (fun c => if c.shown = 1 ∨ c.shown = 2 then { c with compliance := true } else c))

/-- `VECTOR_PLAY` (R173): a vector boundary. Written edges and reflex entries take effect; the vector of a run, a stream
or the fabric plays; `balls` are the ball voltages in nV that the strobes sample, in a group where nothing plays too (R172),
and `limits` the channels whose driver's current limit acts (R720). In SAFE the vector clock is stopped. -/
def execVectorPlay (g : Fin 128) (balls : List Int) (limits : List (Fin 16)) (s : State) : Host.Outcome State Fault Refusal :=
  if s.mode g = mdSafe then .next s
  else
    let s := stopStream g (loadEdges g s)
    let x := s.grp g
    let s := match x.run, x.stream with
      | some r, _ => if r.done = none then playRun g r balls s else playVector g none balls s
      | none, some t => if t.playing then playStream g t balls s else playVector g none balls s
      | none, none => if s.mode g = mdFabric then playFabric g balls s else playVector g none balls s
    .next (limits.foldl (currentLimit g) s)

/-! ### VECTOR_RUN (R196, R197) -/

/-- The run of an action: counters cleared, remaining counts loaded. -/
def startRun (g : Nat) (a : GAct) (s : State) : State :=
  let s := (s.setFld CHG_RUN_FAILS 0 g).setFld CHG_RUN_PASSES 0 g
  let s := s.setReg (CHG_FIRST_FAIL_VALID.key g 0 0) 0
  let s := positions.foldl (fun s i => s.setFld CHG_CHi_FAILS_COUNT 0 g i) s
  let start := bits a.act.w1 40 15
  let r : VecRun := { slot := a.slot, start := start, pos := start, pass := 0, passes := 1 + bits a.act.w1 28 12,
                      rem := loopCounts g s, fails := 0, done := none }
  let s := s.modGrp g (fun x => { x.modAct a.slot (fun b => { b with phase := .playing }) with run := some r })
  syncPlaying g s

/-- The boundary of the tick after the visit's tick has passed (R196). -/
def runMayStart (a : GAct) (s : State) : Bool := decide (bits s.tickCount 0 32 ≠ a.act.vtick % 2 ^ 32)

/-- `VECTOR_RUN_START` (R196): the claimed VECTOR_RUN of a group starts at a vector boundary. -/
def execVectorRunStart (g : Fin 128) (s : State) : Host.Outcome State Fault Refusal :=
  match (s.grp g).acts.find? (fun a => decide (a.act.kind = 4 ∧ a.phase = .claimed)) with
  | some a => if runMayStart a s ∧ (s.grp g).run = none then .next (startRun g a s) else .next s
  | none => .next s

/-- `VECTOR_RUN_END` (R196): the run whose last vector has been played answers, its value the failing strobes. -/
def execVectorRunEnd (g : Fin 128) (s : State) : Host.Outcome State Fault Refusal :=
  match (s.grp g).run with
  | none => .next s
  | some r =>
    match r.done, (s.grp g).inSlot r.slot with
    | some st, some a =>
      let s := s.modGrp g (fun x => { x with run := none })
      .next (answerAct g a st (if st = .ok then r.fails else 0) (syncPlaying g s))
    | _, _ => .next s

/-! ### Streams (R198 to R201) -/

/-- The effect of a write to CHG_STREAM_CTL: LENGTH is locked while ARMED; GO arms, STOP asks for the end (R199). -/
def streamCtlEffect (g : Nat) (h : Half) (data : Word) (s : State) : State :=
  let armed := s.on CHG_STREAM_CTL_ARMED g
  let v := s.merged (CHG_STREAM_CTL_ARMED.key g 0 0) h data
  let s := s.setFld CHG_STREAM_CTL_UNDERRUN_ACT (bits v 2 1) g
  let s := if armed then s else s.setFld CHG_STREAM_CTL_LENGTH (bits v 8 28) g
  let s := if wbit h data CHG_STREAM_CTL_GO ∧ ¬ armed ∧ s.mode g = mdStream ∧ s.fld CHG_STREAM_CTL_LENGTH g ≠ 0
      ∧ s.fld CHG_STREAM_AT_TICK g ≤ s.fld TCK_COUNT_COUNT + 2 ^ 30 then
      let n := (s.grp g).streams + 1
      let t : StreamState :=
        { number := n, buffer := [], asked := 0, got := 0, playing := false,
          atOnce := decide (s.fld CHG_STREAM_AT_TICK g ≤ s.fld TCK_COUNT_COUNT), stop := false, due := s.nextDue }
      let s := s.modGrp g (fun x => { x with stream := some t, streams := n, safeHeld := false })
      let s := (s.setFld CHG_STREAM_CTL_ARMED 1 g).setReg (CHG_STREAM_STATUS_PLAYED.key g 0 0) 0
      topUp g s
    else s
  if wbit h data CHG_STREAM_CTL_STOP then
    s.modGrp g (fun x => { x with stream := x.stream.map (fun t => { t with stop := true }) })
  else s

/-- `STREAM_GO` (R199). -/
def execStreamGo (m : Ident) (g : Fin 128) (h : Half) (data : Word) (s : State) : Host.Outcome State Fault Refusal :=
  .next (regWrite .CHG_STREAM_CTL [g] m h (streamCtlEffect g h data) s)

/-- `STREAM_STOP` (R199): the write of CHG_STREAM_CTL whose STOP bit is 1. -/
def execStreamStop (m : Ident) (g : Fin 128) (h : Half) (data : Word) (s : State) : Host.Outcome State Fault Refusal :=
  .next (regWrite .CHG_STREAM_CTL [g] m h (streamCtlEffect g h data) s)

/-- `STREAM_READ_RESPONSE` (R201): a read of stream number `stream` returns its vectors in order, or a status other than
OK, which ends the stream as ABORT does. -/
def execStreamReadResponse (g : Fin 128) (stream : Nat) (st : Status) (ws : List Word) (s : State) :
    Host.Outcome State Fault Refusal :=
  let s := answeredAt (dieEndpoint (g / 32)) s
  match (s.grp g).stream with
  | none => .next s
  | some t =>
    if t.number ≠ stream then .next s
    else if st ≠ .ok then .next (raise (0x200 + g) (s.fld CHG_UNDERRUN_STREAM g) (abortStream g s))
    else
      let ws := ws.take (t.asked - t.got)
      let b := t.buffer ++ ws
      .next ((s.modGrp g (fun x => { x with stream := some { t with buffer := b, got := t.got + ws.length } })).setFld
        CHG_STREAM_STATUS_BUFFERED b.length g)

/-- An armed stream starts at a boundary at which its tick has come and the buffer holds 1,024 vectors (R199), not before
the first boundary whose set of changes was still open at GO (R44). -/
def streamAtBoundary (g : Nat) (s : State) : State :=
  match (s.grp g).stream with
  | none => s
  | some t =>
    if t.playing ∨ t.stop ∨ s.tck.ticks < t.due ∨ (¬ t.atOnce ∧ s.fld TCK_COUNT_COUNT < s.fld CHG_STREAM_AT_TICK g) then s
    else if t.buffer.length < 1024 then s
    else
      let late := !t.atOnce && decide (s.fld CHG_STREAM_AT_TICK g < s.fld TCK_COUNT_COUNT)
      let s := if late then s.setFld CHG_STATUS_STREAM_DELAYED 1 g else s
      syncPlaying g (s.modGrp g (fun x => { x with stream := some { t with playing := true } }))

/-- `FABRIC_VECTOR` (R203): a valid vector enters the crossing buffer of a FABRIC group; it holds 16. -/
def execFabricVector (g : Fin 128) (vec : Word) (s : State) : Host.Outcome State Fault Refusal :=
  let x := s.grp g
  if s.mode g = mdFabric ∧ ¬ x.closed ∧ x.crossing.length < 16 then
    .next (s.modGrp g (fun x => { x with crossing := x.crossing ++ [vec] }))
  else .next s

/-! ### The executor (R189 to R195) -/

/-- The lowest free slot of a group's queue. -/
def Group.freeSlot (x : Group) : Option Nat := positions.find? (fun k => !x.acts.any (fun a => decide (a.slot = k)))

/-- An action joins the queue and begins to claim (R189, R192). -/
def takeAction (g slot : Nat) (a : Action) (s : State) : State :=
  let s := s.modGrp g (fun x => { x with
    serial := x.serial + 1
    acts := x.acts ++ [GAct.mk slot x.serial a (.claiming a.channels) [] false [] 0 none] })
  goOn g [slot] (syncQueue g s)

/-- `GROUP_ACTION` (R190): an action of another source than the context engine is answered DECODE, one whose die is gated
ERR_GATED (R637), one whose kind the mode does not accept FENCED; any other joins the queue, whose 16 slots the credits cover. -/
def execGroupAction (g : Fin 128) (a : Action) (s : State) : Host.Outcome State Fault Refusal :=
  if ¬ ctxEndpoints.contains a.src then .next (answeredAt (dieEndpoint (g / 32)) <| s.emit (.result a.src g a.tag .decode 0))
  else if ¬ s.gateOpen (10 + g / 32) then .next (answeredAt (dieEndpoint (g / 32)) <| s.emit (.result a.src g a.tag .errGated 0))
  else if ¬ modeAccepts (s.mode g) a.kind then .next (answeredAt (dieEndpoint (g / 32)) <| s.emit (.result a.src g a.tag .fenced 0))
  else match (s.grp g).freeSlot with
    | some slot => .next (takeAction g slot a s)
    | none => .next s

/-- `COMPANION_CLAIM` (R193, R194): a claim for channel `c` by a slot of group `g` reaches the channel's group. -/
def execCompanionClaim (c : Fin 2048) (g : Fin 128) (slot : Fin 16) (s : State) : Host.Outcome State Fault Refusal :=
  let h := c.val / 16
  let i := c.val % 16
  if ¬ (s.mode h = mdContext ∨ s.mode h = mdParametric) then .next (s.emit (.refusal c g slot (sameDie g h)))
  else
    let s := abandonFor h i s
    .next (grantFreed h [i] (s.modGrp h (fun x => { x with waiters := x.waiters ++ [(i, Claimer.mk g slot)] })))

/-- `COMPANION_RELEASE` (R195): the release of channel `c` reaches the channel's group; one that came over the NoC has its
response (R15). -/
def execCompanionRelease (c : Fin 2048) (g : Fin 128) (slot : Fin 16) (s : State) : Host.Outcome State Fault Refusal :=
  let t := releaseChan (c.val / 16) (c.val % 16) ⟨g, slot⟩ s
  .next (if sameDie g (c.val / 16) then t else t.emit (.released c g slot))

/-- `COMPANION_REFUSED` (R194): the refusal of a claim, or a NoC response other than OK, reaches the action: it releases
every channel and is answered with that status and value 0. -/
def execCompanionRefused (g : Fin 128) (slot : Fin 16) (c : Fin 2048) (st : Status) (s : State) :
    Host.Outcome State Fault Refusal :=
  match (s.grp g).inSlot slot with
  | some a =>
    (match a.phase with
     | .claiming (d :: _) => if d = c.val then .next (answerAct g { a with phase := .claimed } st 0 s) else .next s
     | _ => .next s)
  | none => .next s

/-- `COMPANION_GRANT` (R193): the grant of channel `c` reaches the action, which moves on. -/
def execCompanionGrant (g : Fin 128) (slot : Fin 16) (c : Fin 2048) (s : State) : Host.Outcome State Fault Refusal :=
  let r := noteGrant g slot c s
  .next (if r.2 then goOn g [slot.val] r.1 else r.1)

end Sys2Proof.Machine
end

