-- ==== Sys2Proof/Machine/Operands.lean ====
section
/-! DEFINITION. The operand forms of the signal engines (chapter 07): instruction fields, register numbers and classes,
the banks, addresses and post-modification. -/

namespace Sys2Proof.Machine

/-! ### Engines and banks (R268) -/

/-- An engine's state. -/
def State.eng (s : State) (e : Nat) : Sge := Memory.get (fun _ => Sge.reset) s.sge e

/-- The state with an engine changed. -/
def State.modEng (s : State) (e : Nat) (f : Sge → Sge) : State :=
  { s with sge := Memory.set (fun _ => Sge.reset) s.sge e (f (s.eng e)) }

/-- The bank that issues: the frame bank while a frame job runs. -/
def Sge.bank (x : Sge) : SgeBank := if x.frameRunning then x.frame else x.action

/-- The engine with the issuing bank changed. -/
def Sge.modBank (x : Sge) (f : SgeBank → SgeBank) : Sge :=
  if x.frameRunning then { x with frame := f x.frame } else { x with action := f x.action }

/-- The issuing bank of an engine. -/
def State.bank (s : State) (e : Nat) : SgeBank := (s.eng e).bank

/-- The state with an engine's issuing bank replaced. -/
def State.setBank (s : State) (e : Nat) (b : SgeBank) : State := s.modEng e (fun x => x.modBank (fun _ => b))

/-! ### Instruction fields (R277) -/

/-- Bits of an instruction word. -/
def iw (w : BitVec 32) (lo n : Nat) : Nat := bits w lo n

def opOf (w : BitVec 32) : Nat := iw w 26 6
def rdOf (w : BitVec 32) : Nat := iw w 21 5
def raOf (w : BitVec 32) : Nat := iw w 16 5
def rbOf (w : BitVec 32) : Nat := iw w 11 5
def immOf (w : BitVec 32) : Int := signed 16 (iw w 0 16)

/-- The formats of R277. -/
inductive SgeFormat
  | a | i | m | q | b | l | li | s | e
  deriving DecidableEq, Repr

/-- The format of an opcode, or none for an opcode that the table does not hold (R278). -/
def formatOf (op : Nat) : Option SgeFormat :=
  if op ≤ 0x08 then some .a
  else if op ≤ 0x0B then some .i
  else if 0x10 ≤ op ∧ op ≤ 0x13 then some .a
  else if 0x14 ≤ op ∧ op ≤ 0x15 then some .q
  else if 0x18 ≤ op ∧ op ≤ 0x1D then some .m
  else if 0x20 ≤ op ∧ op ≤ 0x21 then some .b
  else if op = 0x22 then some .a
  else if op = 0x23 then some .l
  else if op = 0x24 then some .li
  else if op = 0x25 then some .a
  else if 0x28 ≤ op ∧ op ≤ 0x29 then some .a
  else if op = 0x2C then some .s
  else if op = 0x30 then some .e
  else if 0x31 ≤ op ∧ op ≤ 0x32 then some .a
  else none

/-- The fields a format leaves out are zero (R277, R278). -/
def leftOutZero (f : SgeFormat) (w : BitVec 32) : Bool :=
  match f with
  | .a => decide (iw w 0 11 = 0)
  | .i => true
  | .m => decide (iw w 0 14 = 0)
  | .q => decide (iw w 0 9 = 0)
  | .b => decide (iw w 13 9 = 0)
  | .l => decide (iw w 13 8 = 0)
  | .li => true
  | .s => decide (iw w 0 10 = 0)
  | .e => decide (iw w 1 20 = 0)

/-! ### Registers (R265) -/

/-- The class of a register number. -/
inductive RegClass
  | d | ac | pt
  deriving DecidableEq, Repr

/-- The class of register number `r`. -/
def regClass (r : Nat) : RegClass := if r < 16 then .d else if r < 24 then .ac else .pt

def SgeBank.getD (b : SgeBank) (r : Nat) : BitVec 24 := b.d.getD r 0
def SgeBank.getAc (b : SgeBank) (i : Nat) : BitVec 56 := b.ac.getD i 0
def SgeBank.getPt (b : SgeBank) (n : Nat) : BitVec 14 := b.pt.getD n 0

def SgeBank.putD (b : SgeBank) (r : Nat) (v : BitVec 24) : SgeBank := { b with d := b.d.set r v }
def SgeBank.putAc (b : SgeBank) (i : Nat) (v : BitVec 56) : SgeBank := { b with ac := b.ac.set i v }
def SgeBank.putPt (b : SgeBank) (n : Nat) (v : BitVec 14) : SgeBank := { b with pt := b.pt.set n v }

/-- A register as an operand of an operation in a D register (R272): D signed, PT as its 14 bits. -/
def SgeBank.int24 (b : SgeBank) (r : Nat) : Int :=
  match regClass r with
  | .d => (b.getD r).toInt
  | .ac => (b.getAc (r - 16)).toInt
  | .pt => ((b.getPt (r - 24)).toNat : Int)

/-- A register as an operand of an operation in an AC (R273): a D operand stands in [47:24]. -/
def SgeBank.int56 (b : SgeBank) (r : Nat) : Int :=
  match regClass r with
  | .ac => (b.getAc (r - 16)).toInt
  | _ => b.int24 r * 2 ^ 24

/-- A register as an operand of an operation in a PT (R273): its low 14 bits. -/
def SgeBank.int14 (b : SgeBank) (r : Nat) : Int := b.int24 r % 2 ^ 14

/-- An integer as a 24-bit, 56-bit or 14-bit register takes it, wrapping. -/
def to24 (x : Int) : BitVec 24 := BitVec.ofInt 24 x
def to56 (x : Int) : BitVec 56 := BitVec.ofInt 56 x
def to14 (x : Int) : BitVec 14 := BitVec.ofInt 14 x

/-! ### Addresses (R269, R270) -/

/-- wrap(v) for a window base and length (R270). -/
def wrapIn (base len : Nat) (v : Int) : Nat :=
  if len = 0 then (v % 16384).toNat else (((base : Int) + (v - base) % (len : Int)) % 16384).toNat

/-- wrap(v) of pointer `n` of a bank. -/
def SgeBank.wrap (b : SgeBank) (n : Nat) (v : Int) : Nat :=
  wrapIn (b.bs.getD n 0).toNat (b.ln.getD n 0).toNat v

/-- The address of lane `l` of an access through pointer `n`. -/
def SgeBank.lane (b : SgeBank) (n l : Nat) : Nat := b.wrap n (((b.getPt n).toNat : Int) + l)

/-- The step of a post-modify mode (R269); mode 7 is illegal. -/
def SgeBank.stepOf (b : SgeBank) (n mode : Nat) : Int :=
  match mode with
  | 0 => 0
  | 1 => 1
  | 2 => -1
  | 3 => 4
  | 4 => (b.md.getD n 0).toInt
  | 5 => -(b.md.getD n 0).toInt
  | _ => 2

/-- The post-modification of pointer `n` (R270). -/
def SgeBank.post (b : SgeBank) (n mode : Nat) : SgeBank :=
  b.putPt n (BitVec.ofNat 14 (b.wrap n (((b.getPt n).toNat : Int) + b.stepOf n mode)))

/-- The key of the memory word that holds data word `a` of bus X or Y (R260). -/
def dataKey (e : Nat) (busY : Bool) (a : Nat) : Nat := sgeKey e ((if busY then 8192 else 0) + a / 2)

/-- The key of the memory word that holds instruction word `a`. -/
def instrKey (e a : Nat) : Nat := sgeKey e (16384 + a / 2)

/-- Half `a mod 2` of a memory word (R260). -/
def halfOf (v : Word) (a : Nat) : BitVec 32 := if a % 2 = 0 then v.setWidth 32 else (v >>> 32).setWidth 32

/-- The mask of half `a mod 2`. -/
def halfMask (a : Nat) : Word := if a % 2 = 0 then 0x00000000FFFFFFFF else 0xFFFFFFFF00000000

/-- A stored data word: bits [31:24] copy bit 23 (R261). -/
def storedWord (v : BitVec 24) : BitVec 32 := v.signExtend 32

/-- Both halves filled with one 32-bit word, for a masked store. -/
def doubled (v : BitVec 32) : Word := v.setWidth 64 ||| (v.setWidth 64) <<< 32

/-- The four lanes of an access fall in two memory words of one bank (R262). -/
def laneConflict (l : List Nat) : Bool :=
  l.any (fun a => l.any (fun b => decide (a / 2 ≠ b / 2 ∧ a / 2 % 4 = b / 2 % 4)))

end Sys2Proof.Machine
end

