-- ==== Sys2Proof/Machine/Flags.lean ====
section
/-! DEFINITION. The flag computations of the signal engines (R267, R272 to R276): SR fields, 24-bit and 56-bit results,
convergent rounding, branch conditions. -/

namespace Sys2Proof.Machine

/-- The bits of SR (R267). -/
def srN : Nat := 0
def srZ : Nat := 1
def srV : Nat := 2
def srSV : Nat := 3
def srSAT : Nat := 4
def srFRAC : Nat := 5
def srOVT : Nat := 6
def srTM : Nat := 7

/-- SR with one bit set or cleared. -/
def srPut (sr : BitVec 12) (i : Nat) (v : Bool) : BitVec 12 :=
  if v then sr ||| ((1 : BitVec 12) <<< i) else sr &&& ~~~ ((1 : BitVec 12) <<< i)

/-- SR with N and Z written. -/
def srNZ (sr : BitVec 12) (n z : Bool) : BitVec 12 := srPut (srPut sr srN n) srZ z

/-- SR with N, Z and V written; SV is sticky. -/
def srNZV (sr : BitVec 12) (n z v : Bool) : BitVec 12 :=
  let sr := srPut (srNZ sr n z) srV v
  if v then srPut sr srSV true else sr

/-- An integer fits `w` bits of two's complement. -/
def fitsSigned (w : Nat) (x : Int) : Bool := decide (-(2 ^ (w - 1) : Int) ≤ x ∧ x < (2 ^ (w - 1) : Int))

/-- A result for a D register (R272): it wraps, or is clamped with SAT = 1; V is set when it does not fit. -/
def result24 (sat : Bool) (x : Int) : BitVec 24 × Bool :=
  if fitsSigned 24 x then (to24 x, false)
  else if sat then (if x < 0 then 0x800000 else 0x7FFFFF, true)
  else (to24 x, true)

/-- A result for an AC (R273): it wraps, and V is set on overflow. -/
def result56 (x : Int) : BitVec 56 × Bool := (to56 x, !fitsSigned 56 x)

/-- The integer nearest x ÷ 2^24, halves to the even one (R276). -/
def roundConvergent (x : Int) : Int :=
  let q := x / 2 ^ 24
  let r := x % 2 ^ 24
  if r < 2 ^ 23 then q
  else if 2 ^ 23 < r then q + 1
  else if q % 2 = 0 then q else q + 1

/-- A product (R274): exact, shifted left by one with FRAC = 1. -/
def product (frac : Bool) (x y : Int) : Int := if frac then 2 * (x * y) else x * y

/-- A branch condition (R279), or none for an illegal code. -/
def condHolds (sr : BitVec 12) (c : Nat) : Option Bool :=
  let n := bit sr srN
  let z := bit sr srZ
  let v := bit sr srV
  match c with
  | 0 => some true
  | 1 => some z
  | 2 => some (!z)
  | 3 => some n
  | 4 => some (!n)
  | 5 => some (n || z)
  | 6 => some (!n && !z)
  | 7 => some v
  | 8 => some (!v)
  | _ => none

/-- A bank with a D register written and its flags; whether V was set. -/
def SgeBank.flag24 (b : SgeBank) (r : Nat) (x : Int) : SgeBank × Bool :=
  let y := result24 (bit b.sr srSAT) x
  ({ b.putD r y.1 with sr := srNZV b.sr (decide (y.1.toInt < 0)) (decide (y.1 = 0)) y.2 }, y.2)

/-- A bank with an AC written and its flags; whether V was set. -/
def SgeBank.flag56 (b : SgeBank) (i : Nat) (x : Int) : SgeBank × Bool :=
  let y := result56 x
  ({ b.putAc i y.1 with sr := srNZV b.sr (decide (y.1.toInt < 0)) (decide (y.1 = 0)) y.2 }, y.2)

/-- A bank with only the flags of a 24-bit result (CMP). -/
def SgeBank.only24 (b : SgeBank) (x : Int) : SgeBank × Bool :=
  let y := result24 (bit b.sr srSAT) x
  ({ b with sr := srNZV b.sr (decide (y.1.toInt < 0)) (decide (y.1 = 0)) y.2 }, y.2)

/-- A bank with only the flags of a 56-bit result (CMP). -/
def SgeBank.only56 (b : SgeBank) (x : Int) : SgeBank × Bool :=
  let y := result56 x
  ({ b with sr := srNZV b.sr (decide (y.1.toInt < 0)) (decide (y.1 = 0)) y.2 }, y.2)

/-- A bank with a D register written and N and Z from it (logic instructions, MOVI, LUI). -/
def SgeBank.flagNZ (b : SgeBank) (r : Nat) (v : BitVec 24) : SgeBank :=
  { b.putD r v with sr := srNZ b.sr (decide (v.toInt < 0)) (decide (v = 0)) }

end Sys2Proof.Machine
end

