-- ==== Sys2Proof/Machine/Cells.lean ====
section
/-! DEFINITION. The cells of the fabric (chapter 8, and the border hold cells of chapter 10): where its resources lie, the
level of every signal, and one root cycle of its clocks: flip-flops, arithmetic slices and block-memory ports. What the
frame bits say is `Config.configured`; what user logic asks of a hard block comes as that block's command. -/

namespace Sys2Proof.Machine

/-! ### Targets and their frames -/

/-- A target's state and damper codes (R397). -/
def stCleared : Nat := 0
def stLoading : Nat := 1
def stLoaded : Nat := 2
def dmOpen : Nat := 0
def dmClosing : Nat := 1
def dmShut : Nat := 2

/-- A target's state and damper. -/
def State.tstate (s : State) (t : Nat) : Nat := s.fld CFG_RGNr_STATUS_STATE t
def State.tdamper (s : State) (t : Nat) : Nat := s.fld CFG_RGNr_STATUS_DAMPER t

/-- Every target of the device. -/
def allTargets : List Nat := List.range 65

/-- The target an ADDR belongs to. -/
def addrTarget (a : Nat) : Nat := if a.testBit 31 then 64 else a / 2 ^ 25 % 64

/-- The stored frames of a target. -/
def State.framesOf (s : State) (t : Nat) : List (Nat × List Word) :=
  s.cfg.frames.filter (fun f => decide (addrTarget f.1 = t))

/-- What a target's frames configure (R303); in a CLEARED target every item is 0 (R305). -/
def State.item (s : State) (t : Nat) (i : FabItem) : Nat :=
  if s.tstate t = stCleared then 0 else Config.configured (s.framesOf t) i

/-- A full load holds the fabric: from its start until user logic starts (R303, R417). -/
def State.fabricHeld (s : State) : Bool :=
  decide (s.fld CFG_STATUS_STATE = 1 ∨ s.fld CFG_STATUS_STATE = 2 ∨ s.fld CFG_STATUS_STATE = 3)

/-! ### Geometry (R300, R301, R306, R414) -/

/-- The cluster columns and rows of a target; the static border's rows are two strips of 16. -/
def colsOf (t : Nat) : Nat := if t < 64 then 128 else 1024
def rowsOf (t : Nat) : Nat := if t < 64 then 64 else 32

/-- The clusters, cells and arithmetic slices of a target, and the slices of one of its slice columns (R300, R319). -/
def clustersOf (t : Nat) : Nat := colsOf t * rowsOf t
def cellsOf (t : Nat) : Nat := 16 * clustersOf t
def slicesOf (t : Nat) : Nat := if t < 64 then 96 else 256
def chainOf (t : Nat) : Nat := if t < 64 then 24 else 32

/-- The block memories of a target: first and number (R300). -/
def bramSpan (t : Nat) : Nat × Nat := if t < 64 then (64 * t, 64) else (4096, 256)

/-- The region a block memory belongs to; 64 is the static border (R300). -/
def bramRegion (b : Nat) : Nat := min (b / 64) 64

/-- The number of a target's slice in the device. -/
def sliceNumber (t n : Nat) : Nat := 96 * t + n

/-- The column and the row of a target's cluster in the device (R300). -/
def clusterColumn (t cl : Nat) : Nat := (if t < 64 then 128 * (t % 8) else 0) + cl % colsOf t
def clusterRow (t cl : Nat) : Nat :=
  let r := cl / colsOf t
  if t < 64 then 16 + 64 * (t / 8) + r else if r < 16 then r else 512 + r

/-- The height of a target's rectangles: a region's, or a strip's of the static border. -/
def stripRows (t : Nat) : Nat := if t < 64 then 64 else 16

/-- The clusters that lie beyond a cluster in a direction before the edge of its region or strip. -/
def roomFrom (t cl : Nat) : Dir → Nat
  | .east => colsOf t - 1 - cl % colsOf t
  | .west => cl % colsOf t
  | .north => stripRows t - 1 - cl / colsOf t % stripRows t
  | .south => cl / colsOf t % stripRows t

/-- The cluster `k` places from a cluster in a direction. -/
def clusterStep (t cl k : Nat) : Dir → Nat
  | .east => cl + k
  | .west => cl - k
  | .north => cl + k * colsOf t
  | .south => cl - k * colsOf t

/-- The wires that start from a cluster in one direction: their lengths and numbers (R306). -/
def wireCount (length : Nat) : Nat := if length = 1 ∨ length = 4 then 8 else if length = 12 then 4 else 0

/-- The wire exists: its cluster does, and wires of its length are so many; long lines start every 48 clusters of a row or
column (log entry 90). -/
def Wire.real : Wire → Bool
  | .run t cl _ length i => decide (t < 65 ∧ cl < clustersOf t ∧ i < wireCount length)
  | .long t cl column i =>
    decide (t < 65 ∧ cl < clustersOf t ∧ i < 2 ∧ (if column then cl / colsOf t % stripRows t else cl % colsOf t) % 48 = 0)

/-- The wire passes cluster `cl` of target `t`: it ends at its length, or at the edge of its region or strip (R306). -/
def Wire.passes (w : Wire) (t cl : Nat) : Bool :=
  let along (u c : Nat) (d : Dir) (n : Nat) : Bool :=
    decide (u = t) && (List.range (min n (roomFrom u c d) + 1)).any (fun k => decide (clusterStep u c k d = cl))
  match w with
  | .run u c d n _ => along u c d n
  | .long u c column _ => along u c (if column then .north else .east) 47

/-- The cluster where a wire starts: its target and number. -/
def Wire.start : Wire → Nat × Nat
  | .run t cl _ _ _ => (t, cl)
  | .long t cl _ _ => (t, cl)

/-- The edges that carry border hold cells (R414). -/
def holdEdges : List HoldEdge :=
  ((List.range 64).filter (fun r => decide (r % 8 < 7))).map .right ++ (List.range 56).map .above
    ++ (List.range 8).map .bottom ++ (List.range 8).map .top

/-- The clusters along an edge. -/
def HoldEdge.length : HoldEdge → Nat
  | .right _ => 64
  | _ => 128

/-- The targets that an edge joins: the lower or left one first. -/
def HoldEdge.sides : HoldEdge → Nat × Nat
  | .right r => (r, r + 1)
  | .above r => (r, r + 8)
  | .bottom x => (64, x)
  | .top x => (56 + x, 64)

/-- The clusters at place `k` of an edge, on its two sides. -/
def HoldEdge.clusters (k : Nat) : HoldEdge → Nat × Nat
  | .right _ => (128 * k + 127, 128 * k)
  | .above _ => (128 * 63 + k, k)
  | .bottom x => (1024 * 15 + 128 * x + k, k)
  | .top x => (128 * 63 + k, 1024 * 16 + 128 * x + k)

/-- The border hold cells of an edge: four per cluster in each direction (R414). -/
def edgeCells (e : HoldEdge) : List HoldCell :=
  (List.range e.length).flatMap (fun k => [false, true].flatMap (fun back => (List.range 4).map (fun i => ⟨e, k, i, back⟩)))

/-- Every border hold cell of the device (R414). -/
def holdCells : List HoldCell := holdEdges.flatMap edgeCells

/-- A cell's source and destination side: target and cluster. -/
def HoldCell.source (h : HoldCell) : Nat × Nat :=
  if h.back then (h.edge.sides.2, (h.edge.clusters h.place).2) else (h.edge.sides.1, (h.edge.clusters h.place).1)
def HoldCell.dest (h : HoldCell) : Nat × Nat := HoldCell.source { h with back := !h.back }

/-! ### Signals (R301, R306 to R309) -/

/-- The signal exists. -/
def FabNode.real : FabNode → Bool
  | .lut t c => decide (t < 65 ∧ c < cellsOf t)
  | .flop t c => decide (t < 65 ∧ c < cellsOf t)
  | .carry t c => decide (t < 65 ∧ c < cellsOf t)
  | .wire w => w.real
  | .slice t n b => decide (t < 65 ∧ n < slicesOf t ∧ b < 57)
  | .bram t b _ i => decide (t < 65 ∧ b < (bramSpan t).2 ∧ i < 83)
  | .hold h => holdCells.contains h
  | .hard t _ => decide (t < 65)

/-- The target in which a signal may be used: a wire's own, a border hold cell's destination side (R306, R308). -/
def FabNode.target : FabNode → Nat
  | .lut t _ => t
  | .flop t _ => t
  | .carry t _ => t
  | .wire w => w.start.1
  | .slice t _ _ => t
  | .bram t _ _ _ => t
  | .hold h => h.dest.1
  | .hard t _ => t

/-- The signal reaches cluster `cl` of target `t`; where in a target its hard blocks join the wires the spec does not say. -/
def FabNode.reaches (n : FabNode) (t cl : Nat) : Bool :=
  decide (n.target = t) && match n with
    | .lut _ c => decide (c / 16 = cl)
    | .flop _ c => decide (c / 16 = cl)
    | .carry _ c => decide (c / 16 = cl)
    | .wire w => w.passes t cl
    | .hold h => decide (h.dest.2 = cl)
    | _ => true

/-- A multiplexer may have a signal as an input: one that reaches its cluster, or one of its target. A border hold cell takes
a wire that passes its source cluster (R308). -/
def FabPin.takes (p : FabPin) (n : FabNode) : Bool :=
  match p with
  | .wire w => n.reaches w.start.1 w.start.2
  | .lutIn t c _ => n.reaches t (c / 16)
  | .direct t c => n.reaches t (c / 16)
  | .clockEnable t cl => n.reaches t cl
  | .load t cl => n.reaches t cl
  | .slice t _ _ => decide (n.target = t)
  | .bram t _ _ _ => decide (n.target = t)
  | .staticLine _ => decide (n.target = 64)
  | .hard t _ => decide (n.target = t)
  | .hold h => match n with
    | .wire w => w.passes h.source.1 h.source.2
    | _ => false

/-- The target whose frames hold a multiplexer's select; the static border's frames set the border hold cells (R414). -/
def FabPin.target : FabPin → Nat
  | .wire w => w.start.1
  | .lutIn t _ _ => t
  | .direct t _ => t
  | .clockEnable t _ => t
  | .load t _ => t
  | .slice t _ _ => t
  | .bram t _ _ _ => t
  | .hold _ => 64
  | .staticLine _ => 64
  | .hard t _ => t

/-- The inputs of a multiplexer, none of which comes from beyond an edge (R306, R308). -/
def FabPin.inputs (p : FabPin) : List FabNode := (Config.muxInputs p).filter (fun n => n.real && p.takes n)

/-- What a routing multiplexer passes for a select code: constant 0 above its inputs (R307). -/
def muxOutput (inputs : List Bool) (code : Nat) : Bool := inputs.getD code false

/-- The level a multiplexer gives, the signals having the levels `lv`; the select has as many bits as its inputs need. -/
def State.pin (s : State) (lv : FabNode → Bool) (p : FabPin) : Bool :=
  muxOutput (p.inputs.map lv) (s.item p.target (.select p) % 2 ^ Nat.clog 2 p.inputs.length)

/-- The number that levels spell, lowest bit first. -/
def levelsValue : List Bool → Nat
  | [] => 0
  | b :: r => bnat b + 2 * levelsValue r

/-- The number on pins 0 to `n` - 1 of a family of pins. -/
def State.pins (s : State) (lv : FabNode → Bool) (n : Nat) (p : Nat → FabPin) : Nat :=
  levelsValue ((List.range n).map (fun k => s.pin lv (p k)))

/-- The flip-flops of a target take their initial values (R303, R405): SHUT in a load or a clear. -/
def State.flopsHeld (s : State) (t : Nat) : Bool :=
  decide (s.tdamper t = dmShut) && (decide (s.tstate t = stLoading) || s.cfg.load.any (fun l => l.clear && l.targets.contains t))

/-- A flip-flop's initial value (R303). -/
def State.initOf (s : State) (t c : Nat) : Bool := decide (s.item t (.flopInit c) % 2 = 1)

/-- A flip-flop's output. -/
def State.flop (s : State) (t c : Nat) : Bool :=
  if s.flopsHeld t then s.initOf t c else (Memory.get (fun _ => []) s.logic.flops t).contains c

/-- The cell whose carry a cell takes in (R301): the one below it in its cluster, cell 15 of the cluster below for cell 0;
none at the edge of a region or strip. -/
def carryFrom (t c : Nat) : Option Nat :=
  if c % 16 ≠ 0 then some (c - 1)
  else if roomFrom t (c / 16) .south = 0 then none else some (16 * (c / 16 - colsOf t) + 15)

/-! ### Arithmetic slices (R316 to R319) -/

/-- The mode of an arithmetic slice (R316). -/
inductive SliceMode
  | mult | mac | cascade
  deriving DecidableEq, Repr

/-- The configuration of an arithmetic slice (R316 to R318). -/
structure SliceConfig where
  mode : SliceMode
  signedA : Bool
  signedB : Bool
  frac : Bool
  sat : Bool
  deriving DecidableEq, Repr

/-- The product of a slice's operands, shifted left by one under FRAC (R317). -/
def sliceProduct (c : SliceConfig) (a b : BitVec 24) : Int :=
  let x : Int := if c.signedA then a.toInt else a.toNat
  let y : Int := if c.signedB then b.toInt else b.toNat
  product c.frac x y

/-- A 56-bit result of a slice and OVF (R317): with both operands unsigned the accumulator is unsigned (log entry 90). -/
def sliceResult (c : SliceConfig) (x : Int) : BitVec 56 × Bool :=
  if c.signedA ∨ c.signedB then result56 x else (to56 x, decide (x < 0 ∨ (2 ^ 56 : Int) ≤ x))

/-- The value of a 56-bit accumulator. -/
def sliceValue (c : SliceConfig) (acc : BitVec 56) : Int := if c.signedA ∨ c.signedB then acc.toInt else acc.toNat

/-- The accumulator after one clock cycle and OVF (R316, R317); in MULT mode the register is P. -/
def sliceCycle (c : SliceConfig) (op : Fin 4) (a b : BitVec 24) (cin acc : BitVec 56) : BitVec 56 × Bool :=
  let p := sliceProduct c a b
  match c.mode, op.val with
  | _, 3 => (acc, false)
  | .mult, 2 => (acc, false)
  | .mult, _ => sliceResult c p
  | .mac, 0 => sliceResult c (sliceValue c acc + p)
  | .mac, 1 => sliceResult c (sliceValue c acc - p)
  | .cascade, 0 => sliceResult c (sliceValue c cin + p)
  | .cascade, 1 => sliceResult c (sliceValue c cin - p)
  | _, _ => sliceResult c p

/-- The 24-bit output of a slice, rounded to even and saturated under SAT (R318). -/
def sliceRounded (c : SliceConfig) (acc : BitVec 56) : BitVec 24 := (result24 c.sat (roundConvergent (sliceValue c acc))).1

/-- The high 24 bits of a slice's result (R318). -/
def sliceHigh (acc : BitVec 56) : BitVec 24 := acc.extractLsb' 32 24

/-- A slice's configuration. -/
def State.sliceConfig (s : State) (t n : Nat) : SliceConfig :=
  let o := s.item t (.sliceOptions n)
  { mode := match s.item t (.sliceMode n) with | 0 => .mult | 1 => .mac | _ => .cascade
    signedA := o.testBit 0, signedB := o.testBit 1, frac := o.testBit 2, sat := o.testBit 3 }

/-- A slice's registers. -/
def State.slice (s : State) (t n : Nat) : SliceRegs := Memory.get (fun _ => SliceRegs.reset) s.logic.slices (sliceNumber t n)

/-- CIN of a slice: COUT of the slice below it in its column, none below the first (R319). -/
def State.sliceCin (s : State) (t n : Nat) : BitVec 56 := if n % chainOf t = 0 then 0 else (s.slice t (n - 1)).acc

/-- What a slice gives out (R318). -/
def State.sliceOut (s : State) (t n : Nat) : Nat :=
  let acc := (s.slice t n).acc
  match s.item t (.sliceOut n) with
  | 0 => acc.toNat
  | 1 => (sliceHigh acc).toNat
  | _ => (sliceRounded (s.sliceConfig t n) acc).toNat

/-- A slice after an edge of its clock (R316, R319): from its inputs to the registered result there are three edges. -/
def State.sliceNext (s : State) (lv : FabNode → Bool) (t n : Nat) : SliceRegs :=
  let r := s.slice t n
  let x := sliceCycle (s.sliceConfig t n) r.second.op r.second.a r.second.b (s.sliceCin t n) r.acc
  let at_ (lo k : Nat) : Nat := s.pins lv k (fun i => .slice t n (lo + i))
  { first := ⟨BitVec.ofNat 24 (at_ 0 24), BitVec.ofNat 24 (at_ 24 24), Fin.ofNat 4 (at_ 48 2)⟩
    second := r.first, acc := x.1, ovf := x.2 }

/-! ### Block memories (R320 to R325) -/

/-- A read of a CHECKED block memory: data, CORR, UNCORR (R324). The stored word stays as it is. -/
def bramRead (p : PWord) : Word × Bool × Bool :=
  if p.isPoisoned then (0, false, true)
  else match p.decode with
    | .clean d => (d, false, false)
    | .mended d => (d, true, false)
    | .bad => (0, false, true)

/-- One cycle of the two ports of a block memory on one clock line, both at the same word (R322): what each port writes, the
word after the cycle, what a reading port reads, and port B's COLLIDE. -/
def bramBoth {α : Type} (old : α) (a b : Option α) : α × α × Bool :=
  match a, b with
  | some x, some _ => (x, x, true)
  | some x, none => (x, x, false)
  | none, some y => (y, y, false)
  | none, none => (old, old, false)

/-- A block memory is CHECKED: as its frames set it at its target's release. -/
def State.bramChecked (s : State) (b : Nat) : Bool := decide (Memory.get (fun _ => 0) s.mm.brams b % 2 = 1)

/-- The width in bits and the words of a target's block memory (R320). -/
def State.bramShape (s : State) (t b : Nat) : Nat × Nat :=
  if s.bramChecked ((bramSpan t).1 + b) then (64, 512)
  else match s.item t (.bramWidth b) with
    | 0 => (80, 512)
    | 1 => (40, 1024)
    | _ => (20, 2048)

/-- A port of a block memory. -/
def State.bramPort (s : State) (t b : Nat) (portB : Bool) : BramPort :=
  Memory.get (fun _ => BramPort.reset) s.logic.brams (2 * ((bramSpan t).1 + b) + bnat portB)

/-- A word of a block memory, as a read gives it out (R320, R324). -/
def State.bramWord (s : State) (t b a : Nat) : BramOut :=
  let n := (bramSpan t).1 + b
  if s.bramChecked n then
    let r := bramRead (s.pword (bramKey n a))
    ⟨r.1.toNat, r.2.1, r.2.2⟩
  else ⟨Memory.get (fun _ => 0) s.logic.raw (2048 * n + a), false, false⟩

/-- A word of block memory `n` is written (R320, R324): in CHECKED mode whole, with new check bits and no poison. -/
def writeBram (n a d : Nat) (s : State) : State :=
  if s.bramChecked n then s.writeP (bramKey n a) (BitVec.ofNat 64 d)
  else { s with logic := { s.logic with raw := Memory.set (fun _ => 0) s.logic.raw (2048 * n + a) d } }

/-- What a port of a block memory gives out: with its output register a cycle later (R321). -/
def State.bramShown (s : State) (t b : Nat) (portB : Bool) : BramOut :=
  let p := s.bramPort t b portB
  if s.item t (.bramRegister b portB) % 2 = 1 then p.held else p.read

/-- An output bit of a port: 80 of data, CORR, UNCORR, and port B's COLLIDE. -/
def State.bramBit (s : State) (t b : Nat) (portB : Bool) (i : Nat) : Bool :=
  let o := s.bramShown t b portB
  if i < 80 then o.data.testBit i
  else match i with
    | 80 => o.corr
    | 81 => o.uncorr
    | _ => (s.bramPort t b portB).collide

/-- Pins of a port: 12 of address, the write enable, the port's enable, 80 of data. -/
def bramEnable (t b : Nat) (portB : Bool) : FabPin := .bram t b portB 13

/-- What an enabled port asks for in a cycle (R320): the word, and the data of a write. -/
def State.bramAccess (s : State) (lv : FabNode → Bool) (t b : Nat) (portB : Bool) : Option (Nat × Option Nat) :=
  if ¬ s.pin lv (bramEnable t b portB) then none
  else
    let shape := s.bramShape t b
    some (s.pins lv 12 (fun i => .bram t b portB i) % shape.2,
      if s.pin lv (.bram t b portB 12) then some (s.pins lv shape.1 (fun i => .bram t b portB (14 + i))) else none)

/-! ### Border hold cells (R414 to R417) -/

/-- The output of a border hold cell (R415 to R417): 0 during a full load; while it holds, the level of its mode, `kept` being
the level in the cycle in which it engaged; else its input. -/
def holdCell (fullLoad holding : Bool) (mode : Fin 4) (kept input : Bool) : Bool :=
  if fullLoad then false
  else if holding then
    match mode.val with
    | 0 => kept
    | 2 => true
    | _ => false
  else input

/-- A border hold cell holds (R416): its source region is not LOADED with its damper OPEN. -/
def State.holds (s : State) (h : HoldCell) : Bool :=
  decide (h.source.1 < 64 ∧ ¬ (s.tstate h.source.1 = stLoaded ∧ s.tdamper h.source.1 = dmOpen))

/-- A border hold cell's output, with its mode of the static border's frames (R414). -/
def State.holdOut (s : State) (lv : FabNode → Bool) (h : HoldCell) : Bool :=
  holdCell s.fabricHeld (s.holds h) (Fin.ofNat 4 (s.item 64 (.holdMode h))) (s.logic.kept.contains h) (s.pin lv (.hold h))

/-! ### Levels -/

/-- The level of a signal, the signals it depends on having the levels `lv`. -/
def State.nodeLevel (s : State) (lv : FabNode → Bool) : FabNode → Bool
  | .lut t c => (s.item t (.lut c)).testBit (s.pins lv 4 (.lutIn t c))
  | .flop t c => s.flop t c
  | .carry t c => Config.carryOut (s.item t (.lut c)) ((List.range 4).map (fun k => s.pin lv (.lutIn t c k)))
      ((carryFrom t c).any (fun d => lv (.carry t d)))
  | .wire w => s.pin lv (.wire w)
  | .slice t n b => if b = 56 then (s.slice t n).ovf else (s.sliceOut t n).testBit b
  | .bram t b p i => s.bramBit t b p i
  | .hold h => s.holdOut lv h
  | .hard t i => Config.hardLevel t i s.logic.clock

/-- The level of a signal through at most `n` signals in a row, beyond which the levels of the last root cycle stand: so many
that no configuration without a loop has more; a loop oscillates or settles from cycle to cycle (R309, log entry 90). -/
def State.levelThrough (s : State) : Nat → FabNode → Bool
  | 0, x => s.logic.levels.contains x
  | n + 1, x => s.nodeLevel (s.levelThrough n) x

/-- More than the signals of the device. -/
def fabricDepth : Nat := 2 ^ 27

/-- The level of a signal in the present root cycle. -/
def State.level (s : State) : FabNode → Bool := s.levelThrough fabricDepth

/-- The look-up tables, carries and wires of a target. -/
def loopNodes (t : Nat) : List FabNode :=
  (List.range (cellsOf t)).flatMap (fun c => [.lut t c, .carry t c]) ++
  (List.range (clustersOf t)).flatMap (fun cl =>
    ([.east, .west, .north, .south].flatMap (fun d => [1, 4, 12].flatMap (fun n =>
      (List.range (wireCount n)).map (fun i => FabNode.wire (.run t cl d n i)))))
    ++ ([false, true].flatMap (fun c => (List.range 2).map (fun i => FabNode.wire (.long t cl c i)))).filter FabNode.real)

/-! ### Clock lines (R302, R310 to R315, R400, R405, R632, R636) -/

/-- The ramp in progress on a branch. -/
def State.ramp (s : State) (b : Branch) : Option Ramp := s.pwr.ramps.find? (fun x => decide (x.branch = b))

/-- A divider's state. -/
def State.fclk (s : State) (k : Nat) : FClk := s.pwr.fclks.getD k (FClk.mk false 16 none none)

/-- The source of a clock line runs (R310, R314, R315). -/
def lineRuns (s : State) (src : Nat) : Bool :=
  if src < 24 then (s.fclk src).runs
  else if src < 28 then s.on CLK_UOSCk_READY (src - 24)
  else decide (s.tstate 64 = stLoaded)

/-- The source of global clock line `n` of a target (R310). -/
def State.lineSource (s : State) (t n : Nat) : Nat := s.item t (.lineSource n) % 32

/-- The configuration controller lets a target's clock lines run (R400, R405): not while CLEARED, nor once gated in a load or
a clear. -/
def State.linesRun (s : State) (t : Nat) : Bool :=
  if s.tstate t = stCleared then false
  else if s.tstate t = stLoading then s.cfg.load.any (fun l => l.targets.contains t && !l.gated.contains t)
  else !s.cfg.load.any (fun l => l.gated.contains t)

/-- The edges of every 16 that a target's gate passes (R632, R634, R636). -/
def State.gateEdges (s : State) (t : Nat) : Nat :=
  if s.pwr.stopped then 0
  else if t < 64 then
    match s.ramp (.region t) with
    | some r => r.edges
    | none => if s.fbit CLK_RGN_CLOSING_CLOSING t || (s.fbit CLK_RGN_GATE_GATE t && !s.pwr.rgnForced) then 16 else 0
  else match s.ramp (.gate 20) with
    | some r => r.edges
    | none =>
      if bit (s.reg CLK_GATE_CLOSING_CLOSING.off) 20 || (bit (s.reg CLK_GATE_FIXED.off) 20 && !s.pwr.forced.testBit 20) then 16
      else 0

/-- Edge number `j` is one of the `n` of every 16 that are passed, evenly spread, or lies on an epoch boundary (R632). -/
def edgePassed (n j : Nat) (epoch : Bool) : Bool :=
  decide (16 ≤ n) || (decide (0 < n) && (epoch || decide (j * n / 16 ≠ (j + 1) * n / 16)))

/-- A clock source gives a rising edge in the present root cycle: a divider at phase 0, an oscillator, or a static clock
line that was low in the last cycle (R26, R310, R311, R333). -/
def State.sourceEdge (s : State) (lv : FabNode → Bool) (src : Nat) : Bool :=
  lineRuns s src &&
    (if src < 24 then decide ((s.logic.clock - s.logic.starts.getD src 0) % max 1 (s.fld CLK_FCLKk_CUR_DIV src) = 0)
     else if src < 28 then Config.oscEdge (src - 24) s.logic.clock
     else s.pin lv (.staticLine src) && !s.logic.lines.contains src)

/-- Global clock line `n` of a target has a rising edge in the present root cycle. -/
def State.lineEdge (s : State) (lv : FabNode → Bool) (t n : Nat) : Bool :=
  let src := s.lineSource t n
  let period := if src < 24 then max 1 (s.fld CLK_FCLKk_CUR_DIV src) else 1
  s.linesRun t && s.sourceEdge lv src
    && edgePassed (s.gateEdges t) (s.logic.clock / period % 16) (decide ((s.logic.clock - s.logic.boundary) % 144 = 0))

/-! ### One root cycle -/

/-- A flip-flop after the present root cycle (R301, R302, R409): at an edge of its line it takes its initial value while its
cluster's load input is 1 or its target is released at this very boundary, else D while the clock enable is 1. -/
def State.flopNext (s : State) (lv : FabNode → Bool) (t c : Nat) : Bool :=
  let cl := c / 16
  if s.flopsHeld t then s.initOf t c
  else if ¬ s.lineEdge lv t (s.item t (.clusterLine cl (decide (s.item t (.flopSecond c) % 2 = 1))) % 32) then s.flop t c
  else if s.logic.fresh.contains t ∨ s.pin lv (.load t cl) then s.initOf t c
  else if s.pin lv (.clockEnable t cl) then
    (if s.item t (.dDirect c) % 2 = 1 then s.pin lv (.direct t c) else lv (.lut t c))
  else s.flop t c

/-- A target's flip-flops after the cycle, `s` being the state before it. -/
def clockFlops (s : State) (lv : FabNode → Bool) (t : Nat) (u : State) : State :=
  { u with logic := { u.logic with
    flops := Memory.set (fun _ => []) u.logic.flops t ((List.range (cellsOf t)).filter (s.flopNext lv t)) } }

/-- One slice after the cycle. -/
def clockSlice (s : State) (lv : FabNode → Bool) (t : Nat) (u : State) (n : Nat) : State :=
  if s.lineEdge lv t (s.item t (.sliceLine n) % 32) then
    { u with logic := { u.logic with
      slices := Memory.set (fun _ => SliceRegs.reset) u.logic.slices (sliceNumber t n) (s.sliceNext lv t n) } }
  else u

/-- A port at an edge of its line (R321): what it reads comes out, and the last read reaches the output register. -/
def BramPort.clock (p : BramPort) (got : Option BramOut) (collide : Bool) : BramPort :=
  { read := got.getD p.read, held := p.read, collide := collide }

/-- The state with a port of a block memory replaced. -/
def setBramPort (n : Nat) (portB : Bool) (p : BramPort) (u : State) : State :=
  { u with logic := { u.logic with brams := Memory.set (fun _ => BramPort.reset) u.logic.brams (2 * n + bnat portB) p } }

/-- One block memory after the cycle (R321 to R324): what its ports read and write, and, where both meet at one word, who
comes first: on one clock line as R322 says, on two in the order that `Config.portFirst` gives (R323). -/
def clockBram (s : State) (lv : FabNode → Bool) (t : Nat) (u : State) (b : Nat) : State :=
  let n := (bramSpan t).1 + b
  let line (p : Bool) : Nat := s.item t (.bramLine b p) % 32
  let edge (p : Bool) : Bool := s.lineEdge lv t (line p)
  let acc (p : Bool) : Option (Nat × Option Nat) := if edge p then s.bramAccess lv t b p else none
  let write (p : Bool) (u : State) : State :=
    match acc p with
    | some (a, some d) => writeBram n a d u
    | _ => u
  let meet := (acc false).any (fun x => (acc true).any (fun y => decide (x.1 = y.1)))
  let same := decide (line false = line true)
  let aFirst := Config.portFirst n s.logic.clock
  -- a read returns what the other port writes when that port's access comes first, or both are on one line
  let other (p : Bool) : Option Nat := if meet && (same || (if p then aFirst else !aFirst)) then ((acc !p).bind Prod.snd) else none
  let got (p : Bool) : Option BramOut :=
    match acc p with
    | some (a, none) => some (match other p with | some d => ⟨d, false, false⟩ | none => s.bramWord t b a)
    | _ => none
  let both := meet && ((acc false).bind Prod.snd).isSome && ((acc true).bind Prod.snd).isSome
  let u := if both && same then write false u else if both && aFirst then write true u else if both then write false u
    else write true (write false u)
  let u := if edge false then setBramPort n false ((s.bramPort t b false).clock (got false) false) u else u
  if edge true then setBramPort n true ((s.bramPort t b true).clock (got true) (both && same)) u else u

/-- The clocked cells of a target after the cycle. -/
def clockTarget (s : State) (lv : FabNode → Bool) (u : State) (t : Nat) : State :=
  let u := (List.range (slicesOf t)).foldl (clockSlice s lv t) (clockFlops s lv t u)
  (List.range (bramSpan t).2).foldl (clockBram s lv t) u

/-- The static clock lines that are high; low while the static border is unconfigured (R314). -/
def State.staticHigh (s : State) (lv : FabNode → Bool) : List Nat :=
  if s.tstate 64 = stLoaded then [28, 29, 30, 31].filter (fun k => s.pin lv (.staticLine k)) else []

/-- The fabric in one root cycle: every cell acts on the levels of its start. -/
def fabricCycle (s : State) : State :=
  let lv := s.level
  let ts := allTargets.filter s.linesRun
  let u := ts.foldl (clockTarget s lv) s
  { u with logic := { u.logic with
    clock := s.logic.clock + 1, fresh := [], lines := s.staticHigh lv
    levels := (ts.flatMap loopNodes ++ holdCells.map FabNode.hold).filter lv } }

/-- The fabric in `k` root cycles. -/
def fabricCycles : Nat → State → State
  | 0, s => s
  | k + 1, s => fabricCycles k (fabricCycle s)

/-- The fabric over `k` root cycles: while no clock line runs, only the cycles pass. -/
def passFabric (k : Nat) (s : State) : State :=
  if allTargets.any s.linesRun then fabricCycles k s
  else { s with logic := { s.logic with clock := s.logic.clock + k, fresh := [] } }

/-! ### Edges, clearing and release -/

/-- The border hold cells whose source side is `t` engage (R415, R416): each keeps the level at its input. -/
def engageHolds (t : Nat) (s : State) : State :=
  { s with logic := { s.logic with
    kept := s.logic.kept.filter (fun h => decide (h.source.1 ≠ t))
      ++ holdCells.filter (fun h => decide (h.source.1 = t) && s.pin s.level (.hold h)) } }

/-- The registers of a target's slices, and of its block memories' ports with the words of the RAW modes, are zero
(R304, R305). -/
def zeroHardCells (t : Nat) (s : State) : State :=
  let lo := (bramSpan t).1
  let hi := lo + (bramSpan t).2
  { s with logic := { s.logic with
    slices := s.logic.slices.filter (fun e => decide (e.1 < sliceNumber t 0 ∨ sliceNumber t (slicesOf t) ≤ e.1))
    brams := s.logic.brams.filter (fun e => decide (e.1 < 2 * lo ∨ 2 * hi ≤ e.1))
    raw := s.logic.raw.filter (fun e => decide (e.1 < 2048 * lo ∨ 2048 * hi ≤ e.1)) } }

/-- The fabric clock dividers that a target's lines take restart from phase 0 (R26, R408). -/
def restartDividers (t : Nat) (s : State) : State :=
  let srcs := (List.range 32).map (s.lineSource t)
  { s with logic := { s.logic with
    starts := (List.range 24).map (fun k => if srcs.contains k then s.logic.clock else s.logic.starts.getD k 0) } }

end Sys2Proof.Machine
end

