-- ==== Sys2Proof/Machine/Memories.lean ====
section
/-! DEFINITION. The memory sweep and the bank store (chapter 11). -/

namespace Sys2Proof.Machine

/-! ### The sweep (R438 to R442, R698) -/

/-- The accesses of one sweeper's lap (R438): class CTX reads a whole context at each. -/
def sweepLength : Nat → Nat
  | 0 => 1048576
  | 1 => 461312
  | 2 => 4194304
  | 3 => 20480
  | 4 => 32768
  | 5 => 512
  | 6 => 206592
  | _ => 1048576

/-- The gate whose clock a unit of a class runs from (R634, R698). -/
def sweepGate (k unit : Nat) : Option Nat :=
  match k with
  | 0 => some 5
  | 1 => some 5
  | 2 => some 6
  | 3 => some (32 + unit)
  | 4 => some (10 + unit / 32)
  | 6 => some 7
  | 7 => some 8
  | _ => none

/-- Port B of a block memory has a clock (R325, R698): its line's source runs, and neither the configuration controller nor the
region's gate stops it. -/
def State.bramClocked (s : State) (b : Nat) : Bool :=
  let t := bramRegion b
  s.linesRun t && decide (s.gateEdges t ≠ 0)
    && lineRuns s (s.lineSource t (s.item t (.bramLine (b - (bramSpan t).1) true) % 32))

/-- A block memory that the sweep reads: CHECKED, SWEEP set, region LOADED, port B's clock running (R325, R442, R698). -/
def State.bramSwept (s : State) (b : Nat) : Bool :=
  decide (Memory.get (fun _ => 0) s.mm.brams b = 3) && decide (s.tstate (bramRegion b) = stLoaded) && s.bramClocked b

/-- The units of a class that the sweep reads now. -/
def State.sweepUnits (s : State) (k : Nat) : List Nat :=
  let all : List Nat := match k with
    | 3 => List.range 32
    | 4 => List.range 128
    | 5 => (s.mm.brams.map Prod.fst).filter s.bramSwept
    | _ => [0]
  all.filter (fun u => match sweepGate k u with | some b => s.gateOpen b | none => true)

/-- The key of word `w` of a unit of a class. -/
def sweepKey (k unit w : Nat) : Nat :=
  match k with
  | 3 => sgeKey unit w
  | 4 => vmemKey unit w
  | 5 => bramKey unit w
  | _ => memKey k w

/-- The MEM field of a recorded word (R457). -/
def sweepMem (k w : Nat) : Nat :=
  match k with
  | 1 => if w < 458752 then 0 else 1
  | 3 => if w < 8192 then 0 else if w < 16384 then 1 else 2
  | _ => 0

/-- The unit and word under which a word is recorded: for the bank store the bank and the word within it. -/
def sweepUnitWord (k unit w : Nat) : Nat × Nat := if k = 2 then (w / 16384, w % 16384) else (unit, w)

/-- An uncorrectable word that is not poisoned is marked poisoned, counted, recorded and reported (R440). The
non-volatile array has no poison bits: its word stays as found (R343). -/
def sweepPoison (k unit w key : Nat) (p : PWord) (s : State) : State :=
  let s := if k = 7 then s else s.setPword key { p with mark := 3 }
  let s := s.addFld SWP_MEMk_COUNT_UNCORR 1 k
  let uw := sweepUnitWord k unit w
  let s := s.setReg (SWP_MEMk_LAST_WORD.key k 0 0)
    (mkWord [(0, 24, uw.2), (32, 13, uw.1), (45, 3, sweepMem k w), (63, 1, 1)])
  raise (0x3C0 + k) uw.2 s

/-- The sweep reads one word (R440). A mended word is written back when its memory is idle (R436); the array is written at
once (R343). -/
def sweepWord (k unit w : Nat) (s : State) : State :=
  let key := sweepKey k unit w
  let p := s.pword key
  if p.isPoisoned then s
  else match p.decode with
    | .clean _ => s
    | .mended d =>
      let s := if k = 7 then (s.writeP key d).addFld NVA_WRITES_COUNT 1 else s.noteMend key
      s.addFld SWP_MEMk_COUNT_CORR 1 k
    | .bad => sweepPoison k unit w key p s

/-- Class CTX: the four words of a context, and a rewrite of a disagreeing owner-tag copy (R440). -/
def sweepContext (c : Nat) (s : State) : State :=
  let s := [0, 1, 2, 3].foldl (fun s j => sweepWord 0 0 (4 * c + j) s) s
  let t := s.ownerTags c
  if t.1 = t.2.1 ∧ t.1 = t.2.2 then s else s.putTags c (s.votedOwner c)

/-- The number of accesses a sweeper has made in its lap. -/
def State.sweepPos (s : State) (k unit : Nat) : Nat := Memory.get (fun _ => 0) s.mm.pos (8192 * k + unit)

/-- The lap in hand of a class: units read to their end and the time it began. -/
def State.lap (s : State) (k : Nat) : List Nat × Nat := Memory.get (fun _ => ([], 0)) s.mm.laps k

/-- A new lap of a class begins now. -/
def newLap (k : Nat) (s : State) : State :=
  { s with mm := { s.mm with
    pos := s.mm.pos.filter (fun e => decide (e.1 / 8192 ≠ k))
    laps := Memory.set (fun _ => ([], 0)) s.mm.laps k ([], s.fld DEVICE_TIME_TIME) } }

/-- The lap of a class ends once every unit whose clock runs has been read (R441, R698). -/
def endLap (k : Nat) (s : State) : State :=
  let l := s.lap k
  if (s.sweepUnits k).all (fun u => l.1.contains u) then
    let us := (s.fld DEVICE_TIME_TIME - l.2) / 9600
    newLap k ((s.setFld SWP_MEMk_LAP_LAST_US us k).addFld SWP_MEMk_LAP_LAPS 1 k)
  else s

/-- The sweeper may read its next word of a unit in the present cycle (R439): a bank store word while no access that has reached
a port waits for its sub-array, a block memory's while port B is disabled (R325), the non-volatile array's while no access
waits or is in progress (R343). -/
def State.sweepFree (s : State) (k unit : Nat) : Bool :=
  match k with
  | 2 =>
    let n := s.sweepPos k unit
    (s.mm.portA ++ s.mm.portB).all (fun x => decide (x.bank ≠ n / 16384) || x.words.all (fun w => decide (w.1 % 4 ≠ n % 4)))
  | 5 => !s.pin s.level (bramEnable (bramRegion unit) (unit - (bramSpan (bramRegion unit)).1) true)
  | 7 => s.nva.waiting.isEmpty
  | _ => true

/-- `MEMORY_SWEEP_READ` (R440): the sweeper of a unit reads its next word in an idle cycle. -/
def execMemorySweepRead (k : Fin 8) (unit : Nat) (s : State) : Host.Outcome State Fault Refusal :=
  let n := s.sweepPos k unit
  if ¬ s.on SWP_MEMk_CTL_EN k ∨ ¬ (s.sweepUnits k).contains unit ∨ sweepLength k ≤ n ∨ ¬ s.sweepFree k unit then .next s
  else
    let s := if k.val = 0 then sweepContext n s else sweepWord k unit n s
    let s := { s with mm := { s.mm with pos := Memory.set (fun _ => 0) s.mm.pos (8192 * k + unit) (n + 1) } }
    if n + 1 = sweepLength k then
      let l := s.lap k
      .next (endLap k { s with mm := { s.mm with laps := Memory.set (fun _ => ([], 0)) s.mm.laps k (l.1 ++ [unit], l.2) } })
    else .next s

/-- The effect of a write to SWP_MEMk_CTL (R442): EN written 0 abandons the lap, EN written 1 begins a new one. -/
def sweepCtlEffect (k : Nat) (h : Half) (data : Word) (s : State) : State :=
  if ¬ h.reaches 0 then s
  else newLap k ((s.setFld SWP_MEMk_CTL_EN (bits data 0 1) k).setFld SWP_MEMk_CTL_PACE (bits data 16 16) k)

/-- `SWEEP_ENABLE_WRITE` (R442). -/
def execSweepEnableWrite (m : Ident) (k : Fin 8) (h : Half) (data : Word) (s : State) : Host.Outcome State Fault Refusal :=
  .next (regWrite .SWP_MEMk_CTL [k] m h (sweepCtlEffect k h data) s)

/-! ### The bank store (R445 to R453) -/

/-- The owner of a bank. -/
def State.bankOwner (s : State) (b : Nat) : Ident := BitVec.ofNat 32 (s.fld BNK_OWNERb_IDENT b)

/-- The bank, the window or the bank itself, and the byte offset in it that a NoC address names (R445, R453, R472). -/
def bankPlace (a : Nat) : Nat × Option Nat × Nat :=
  if a < 0x4100000000 then ((a - 0x4002000000) / 0x20000, none, (a - 0x4002000000) % 0x20000)
  else ((a - 0x4100000000) / 0x1000000, some ((a - 0x4100000000) % 0x1000000 / 0x100000), (a - 0x4100000000) % 0x100000)

/-- The bank's word for the `i`th word of an access at a place (R445, R453): a window maps circularly. -/
def State.bankWordAt (s : State) (pl : Nat × Option Nat × Nat) (i : Nat) : Nat :=
  match pl.2.1 with
  | none => (pl.2.2 / 8 + i) % 16384
  | some j => (s.fld BNK_WINb_j_BASE pl.1 j + (pl.2.2 / 8 + i) % max 1 (s.fld BNK_WINb_j_LEN pl.1 j)) % 16384

/-- The words of a bank that a request touches, in order, each with the mask of its bytes (R453, R462). -/
def BankReq.words (r : BankReq) (s : State) : List (Nat × Word) :=
  (List.range (wordsTouched r.addr r.size)).map (fun i => (s.bankWordAt (bankPlace r.addr) i, byteMask r.addr r.size i))

/-- The key of a bank's word. -/
def bankWordKey (b w : Nat) : Nat := memKey 2 (16384 * b + w)

/-- Record a violation of a bank (R449, R451). -/
def bankViolation (b : Nat) (m : Ident) (word : Nat) (write ownerWrite : Bool) (off : Nat) (s : State) : State :=
  let s := (s.addFld BNK_VIOLb_COUNT 1 b).setReg (BNK_VIOL_LASTb_IDENT.key b 0 0)
    (mkWord [(0, 32, m.toNat), (32, 14, word), (48, 1, bnat write), (49, 1, bnat ownerWrite), (63, 1, 1)])
  violation m .bank write off s

/-- One word of a write: whether it was made. -/
def bankWriteWord (b : Nat) (poison : Bool) (a : State × Bool) (x : Nat × Word × Word) : State × Bool :=
  match a.1.writeMasked (bankWordKey b x.1) x.2.1 x.2.2 poison with
  | some s => (s, a.2)
  | none => (a.1, false)

/-- The endpoint of a port (R446). -/
def bankPortEndpoint (port : Bool) : Nat := if port then 157 else 121

/-- The answer to an access of a port: its status and, for a read, its words. -/
def answerBank (port : Bool) (m : Ident) (st : Status) (ws : List Word) (s : State) : State :=
  (answeredAt (bankPortEndpoint port) s).emit (.bank port m st ws)

/-- The zero data of a read that is not made (R444, R449). -/
def bankZeros (data : Option (List Word)) (n : Nat) : List Word := if data.isSome then [] else List.replicate n 0

/-- A write that its port serves, word by word (R437, R735). -/
def writeBank (port : Bool) (x : BankAccess) (l : List Word) (s : State) : State :=
  let a := ((x.words.zip l).map (fun e => (e.1.1, e.1.2, e.2))).foldl (bankWriteWord x.bank x.poison) (s, true)
  let s := if a.2 then a.1 else refusedPartial x.ident 0 a.1
  answerBank port x.ident (if a.2 then .ok else .errData) [] s

/-- A read that its port serves (R443, R444): the bytes outside the access read as zero (R462). -/
def readBank (port : Bool) (x : BankAccess) (s : State) : State :=
  let ps := x.words.map (fun w => (s.pword (bankWordKey x.bank w.1), w.2))
  if ps.any (fun p => p.1.isBad) then answerBank port x.ident .errData (bankZeros x.data x.words.length) s
  else
    let s := x.words.foldl (fun s w => s.noteMend (bankWordKey x.bank w.1)) s
    answerBank port x.ident .ok (ps.map (fun p => p.1.value &&& p.2)) s

/-- An access that its port serves. -/
def serveBank (port : Bool) (x : BankAccess) (s : State) : State :=
  match x.data with
  | some l => writeBank port x l s
  | none => readBank port x s

/-- A request reaches its port (R448, R449, R452, R453): its owner and its window are tested in that cycle. A non-owner is
answered DENIED and a window that is not enabled DECODE; the owner's access joins the port's queue, or waits while the bank is
being cleared. -/
def reachBank (port : Bool) (r : BankReq) (s : State) : State :=
  let pl := bankPlace r.addr
  let ws := r.words s
  let zeros := bankZeros r.data ws.length
  if s.bankOwner pl.1 ≠ r.ident then
    answerBank port r.ident .denied zeros (bankViolation pl.1 r.ident ((ws.map Prod.fst).head?.getD 0) r.data.isSome false 0 s)
  else if pl.2.1.any (fun j => !s.on BNK_WINb_j_EN pl.1 j) then answerBank port r.ident .decode zeros s
  else
    let x : BankAccess := { ident := r.ident, bank := pl.1, words := ws, data := r.data, poison := r.poison }
    if s.on BNK_OWNERb_CLEARING pl.1 then { s with mm := { s.mm with held := s.mm.held ++ [(port, x)] } }
    else if port then { s with mm := { s.mm with portB := s.mm.portB ++ [x] } }
    else { s with mm := { s.mm with portA := s.mm.portA ++ [x] } }

/-- Two accesses of one cycle cannot both be served (R446): the same sub-array of one bank, unless the same words with
at most one write. -/
def bankConflict (a b : BankAccess) : Bool :=
  decide (a.bank = b.bank) && a.words.any (fun w => b.words.any (fun v =>
    decide (w.1 % 4 = v.1 % 4) && (decide (w.1 ≠ v.1) || (a.data.isSome && b.data.isSome))))

/-- One cycle of the two ports (R446, R447). A read and a write of one word in one cycle: the write is made first, so
that the read returns the new data. -/
def bankCycle (s : State) : State :=
  let popA := fun (s : State) => { s with mm := { s.mm with portA := s.mm.portA.tail, stallA := 0 } }
  let popB := fun (s : State) => { s with mm := { s.mm with portB := s.mm.portB.tail, stallB := 0 } }
  match s.mm.portA, s.mm.portB with
  | [], [] => s
  | a :: _, [] => serveBank false a (popA s)
  | [], b :: _ => serveBank true b (popB s)
  | a :: _, b :: _ =>
    if bankConflict a b then
      if 16 ≤ s.mm.stallB then
        let s := { s with mm := { s.mm with stallA := s.mm.stallA + 1 } }
        serveBank true b (popB s)
      else
        let s := { s with mm := { s.mm with stallB := s.mm.stallB + 1 } }
        serveBank false a (popA (s.addFld BNK_STATUSb_STALLS_B 1 b.bank))
    else if b.data.isSome then serveBank false a (serveBank true b (popB (popA s)))
    else serveBank true b (serveBank false a (popB (popA s)))

/-- `BANK_ACCESS` (R446): the requests that reach ports A and B in a cycle, and what the ports serve in it. -/
def execBankAccess (a b : Option BankReq) (s : State) : Host.Outcome State Fault Refusal :=
  .next (bankCycle (b.toList.foldl (fun s r => reachBank true r s) (a.toList.foldl (fun s r => reachBank false r s) s)))

/-- Who may write BNK_OWNERb and BNK_WINb_j (R451). -/
def State.mayWriteBank (s : State) (b : Nat) (m : Ident) : Bool := decide (s.bankOwner b = m) || s.isOwner m

/-- The effect of a write to BNK_OWNERb (R451, R452). -/
def bankOwnerEffect (m : Ident) (b : Nat) (h : Half) (data : Word) (s : State) : State :=
  if ¬ s.mayWriteBank b m ∨ s.on BNK_OWNERb_CLEARING b then bankViolation b m 0 true true (RegName.BNK_OWNERb.off [b] + h.skip) s
  else
    let v := s.merged (BNK_OWNERb_IDENT.key b 0 0) h data
    let s := s.setFld BNK_OWNERb_IDENT (bits v 0 32) b
    if wbit h data BNK_OWNERb_CLEAR then s.setFld BNK_OWNERb_CLEARING 1 b else s

/-- `BANK_OWNER_WRITE` (R451). -/
def execBankOwnerWrite (m : Ident) (b : Fin 256) (h : Half) (data : Word) (s : State) : Host.Outcome State Fault Refusal :=
  .next (regWrite .BNK_OWNERb [b] m h (bankOwnerEffect m b h data) s)

/-- Every word of a bank becomes a clean zero. -/
def zeroBank (b : Nat) (s : State) : State :=
  { s with
    mem := s.mem.filter (fun e => decide (e.1 < bankWordKey b 0 ∨ bankWordKey (b + 1) 0 ≤ e.1))
    mends := s.mends.filter (fun k => decide (k < bankWordKey b 0 ∨ bankWordKey (b + 1) 0 ≤ k)) }

/-- `BANK_CLEAR_END` (R452): the clear of a bank is complete and the accesses that waited are served in order. -/
def execBankClearEnd (b : Fin 256) (s : State) : Host.Outcome State Fault Refusal :=
  if s.on BNK_OWNERb_CLEARING b then
    let s := (zeroBank b s).setFld BNK_OWNERb_CLEARING 0 b
    let due := s.mm.held.filter (fun x => decide (x.2.bank = b.val))
    let s := { s with mm := { s.mm with held := s.mm.held.filter (fun x => decide (x.2.bank ≠ b.val)) } }
    .next (due.foldl (fun s x => serveBank x.1 x.2 s) s)
  else .next s

/-- The effect of a write to BNK_WINb_j (R451, R453): ignored as a whole with LEN 0 or a window past the bank's end. -/
def bankWindowEffect (m : Ident) (b j : Nat) (h : Half) (data : Word) (s : State) : State :=
  if ¬ s.mayWriteBank b m then bankViolation b m 0 true true (RegName.BNK_WINb_j.off [b, j] + h.skip) s
  else
    let v := s.merged (BNK_WINb_j_BASE.key b j 0) h data
    if bits v 16 15 = 0 ∨ 16384 < bits v 0 14 + bits v 16 15 then s
    else ((s.setFld BNK_WINb_j_BASE (bits v 0 14) b j).setFld BNK_WINb_j_LEN (bits v 16 15) b j).setFld
      BNK_WINb_j_EN (bits v 63 1) b j

/-- `BANK_WINDOW_WRITE` (R453). -/
def execBankWindowWrite (m : Ident) (b : Fin 256) (j : Fin 16) (h : Half) (data : Word) (s : State) :
    Host.Outcome State Fault Refusal :=
  .next (regWrite .BNK_WINb_j [b, j] m h (bankWindowEffect m b j h data) s)

/-- POISONED of BNK_STATUSb: the words of a bank now poisoned. -/
def State.bankPoisoned (s : State) (b : Nat) : Nat :=
  (s.mem.filter (fun e => decide (bankWordKey b 0 ≤ e.1 ∧ e.1 < bankWordKey (b + 1) 0) && e.2.isPoisoned)).length

end Sys2Proof.Machine
end

