-- ==== Sys2Proof/Machine/Fabric.lean ====
section
/-! DEFINITION. Regions and their edges (R397 to R409), fabric ports (R327 to R332), the clearing and the release of a
target. Target 64 is the static border. -/

namespace Sys2Proof.Machine

/-! ### Ports -/

/-- A fabric port's state. -/
def State.fab (s : State) (p : Nat) : FabPort := Memory.get (fun _ => FabPort.reset) s.cfg.ports p

/-- The ports of a target. -/
def portsOf (t : Nat) : List Nat := if t < 64 then [t] else [64, 65, 66, 67]

/-- The target a port belongs to. -/
def targetOfPort (p : Nat) : Nat := min p 64

/-- Requests and actions delivered and not answered, and requests sent and not answered (R403). -/
def FabPort.inbound (x : FabPort) : Nat := x.calls.length + x.reqs.length
def FabPort.outstanding (x : FabPort) : Nat := x.inbound + x.outs.length

/-- The outstanding count of a target. -/
def State.outstandingOf (s : State) (t : Nat) : Nat := ((portsOf t).map (fun p => (s.fab p).outstanding)).sum

/-- The status registers follow the ports of a target. -/
def syncTarget (t : Nat) (s : State) : State :=
  let xs := (portsOf t).map s.fab
  let s := s.setFld CFG_RGNr_STATUS_IN_OUT ((xs.map FabPort.inbound).sum) t
  let s := s.setFld CFG_RGNr_STATUS_OUT_OUT ((xs.map (fun x => x.outs.length)).sum) t
  let s := s.setFld CFG_RGNr_STATUS_RSV_TAGS ((xs.map (fun x => x.reserved.length)).sum) t
  (portsOf t).foldl (fun s p => s.setFld NOC_EPe_STATUS_OUTSTANDING (s.fab p).outstanding (fabricEndpoint p)) s

/-- The state with a port changed. -/
def State.modFab (s : State) (p : Nat) (f : FabPort → FabPort) : State :=
  syncTarget (targetOfPort p)
    { s with cfg := { s.cfg with ports := Memory.set (fun _ => FabPort.reset) s.cfg.ports p (f (s.fab p)) } }

/-- The fabric answers an action (R331). -/
def answerAction (p : Nat) (w : Word) (s : State) : State :=
  let tag := bits w 0 16
  let x := s.fab p
  match x.calls.find? (fun c => decide (c.2 = tag)) with
  | some c =>
    let s := s.modFab p (fun x => { x with calls := dropFirst c x.calls })
    if bit w 16 then s.emit (.result c.1 (160 + p) tag .errData 0)
    else s.emit (.result c.1 (160 + p) tag .ok (bits w 24 24))
  | none =>
    if x.forcedCalls.contains tag then
      (s.modFab p (fun x => { x with forcedCalls := dropFirst tag x.forcedCalls })).addFld CFG_RGNr_PORT_FORCED 1
        (targetOfPort p)
    else s.addFld CFG_RGNr_PORT_UNMATCHED 1 (targetOfPort p)

/-- The fabric answers a target request (R332); an answer after the timeout or a drain limit is discarded and counted. -/
def answerRequest (p src tag : Nat) (err : Bool) (data : List Word) (s : State) : State :=
  let x := s.fab p
  let k := (src, tag)
  if x.reqs.contains k then
    (s.modFab p (fun x => { x with reqs := dropFirst k x.reqs })).emit
      (.response src tag (if err then .errData else .ok) (if err then data.map (fun _ => 0) else data))
  else if x.late.contains k then
    (s.modFab p (fun x => { x with late := dropFirst k x.late })).addFld CFG_RGNr_PORT_LATE 1 (targetOfPort p)
  else if x.forcedReqs.contains k then
    (s.modFab p (fun x => { x with forcedReqs := dropFirst k x.forcedReqs })).addFld CFG_RGNr_PORT_FORCED 1
      (targetOfPort p)
  else s

/-- `FABRIC_ANSWER` (R331). -/
def execFabricAnswer (p : Fin 68) (ans : FabAnswer) (s : State) : Host.Outcome State Fault Refusal :=
  match ans with
  | .action w => .next (answerAction p w s)
  | .request src tag err data => .next (answerRequest p src tag err data s)

/-- `PORT_TIMEOUT` (R332): a target request unanswered for 65,536 NoC cycles is answered ERR_DATA. -/
def execPortTimeout (p : Fin 68) (src tag : Nat) (s : State) : Host.Outcome State Fault Refusal :=
  let k := (src, tag)
  if (s.fab p).reqs.contains k then
    .next ((s.modFab p (fun x => { x with reqs := dropFirst k x.reqs, late := x.late ++ [k] })).emit
      (.response src tag .errData []))
  else .next s

/-- A response reaches a fabric port (R328, R404): an abandoned one is discarded and its tag is free again. -/
def fabricResponse (p tag : Nat) (st : Status) (poison : Bool) (data : List Word) (s : State) : State :=
  let x := s.fab p
  if x.outs.contains tag then
    (s.modFab p (fun x => { x with outs := dropFirst tag x.outs })).emit (.fabricResponse p tag st poison data)
  else if x.reserved.contains tag then
    (s.modFab p (fun x => { x with reserved := dropFirst tag x.reserved })).addFld CFG_RGNr_PORT_ABANDONED 1
      (targetOfPort p)
  else s

/-! ### Dampers (R402 to R404) -/

/-- A target's damper changes, at its edge and at its endpoints. -/
def setDamper (t v : Nat) (s : State) : State :=
  (portsOf t).foldl (fun s p => s.setFld NOC_EPe_STATUS_DAMPER v (fabricEndpoint p))
    (s.setFld CFG_RGNr_STATUS_DAMPER v t)

/-- The region's groups follow its edge; the static border has none. -/
def followTarget (t : Nat) (s : State) : State := if t < 64 then followRegion t s else s

/-- A damper that is OPEN is raised (R402): CLOSING, border holds engaged, groups fenced. -/
def raiseDamper (t : Nat) (s : State) : State :=
  if s.tdamper t ≠ dmOpen then s
  else followTarget t ((setDamper t dmClosing (engageHolds t s)).setFld CFG_RGNr_STATUS_HOLDING 1 t)

/-- The commands that wait for a target to be SHUT (R413). -/
def dampersDone (t : Nat) (s : State) : State :=
  let l := s.cfg.dampers.map (fun d => { d with left := d.left.filter (fun r => decide (r ≠ t)) })
  let s := { s with cfg := { s.cfg with dampers := l.filter (fun d => !d.left.isEmpty) } }
  (l.filter (fun d => d.left.isEmpty)).foldl
    (fun s d => endCommand d.cmd .ok [BitVec.ofNat 64 d.changed, BitVec.ofNat 64 d.skipped] s) s

/-- CLOSING ends (R403). -/
def shutTarget (t : Nat) (s : State) : State := dampersDone t (setDamper t dmShut s)

/-- `REGION_DRAIN_DONE` (R403). -/
def execRegionDrainDone (t : Fin 65) (s : State) : Host.Outcome State Fault Refusal :=
  if s.tdamper t = dmClosing ∧ s.outstandingOf t = 0 then .next (shutTarget t s) else .next s

/-- A port at the drain limit (R404): everything inbound is answered FENCED, everything outbound abandoned. -/
def forcePort (s : State) (p : Nat) : State :=
  let x := s.fab p
  let s := s.modFab p (fun x => { x with
    calls := [], reqs := [], outs := [], reserved := x.reserved ++ x.outs
    forcedCalls := x.forcedCalls ++ x.calls.map (·.2), forcedReqs := x.forcedReqs ++ x.reqs })
  let s := s.addFld NOC_COUNTS_FENCED x.inbound
  let s := x.calls.foldl (fun s c => s.emit (.result c.1 (160 + p) c.2 .fenced 0)) s
  x.reqs.foldl (fun s c => s.emit (.response c.1 c.2 .fenced [])) s

/-- `DRAIN_LIMIT_EXPIRE` (R404). -/
def execDrainLimitExpire (t : Fin 65) (s : State) : Host.Outcome State Fault Refusal :=
  if s.tdamper t = dmClosing then .next (shutTarget t ((portsOf t).foldl forcePort s)) else .next s

/-! ### Clearing and release (R303 to R305, R408, R427) -/

/-- The FKIND and INDEX of an ADDR (R357). -/
def addrKind (a : Nat) : Nat := a / 2 ^ 23 % 4
def addrIndex (a : Nat) : Nat := a % 2 ^ 23

/-- The signature words of a target: first and number (R418). -/
def sigSpan (t : Nat) : Nat × Nat := if t < 64 then (3056 * t, 3056) else (195584, 11008)

/-- The memory without the listed words of a span of keys: they read as their default. -/
def State.dropWords (s : State) (lo n : Nat) : State :=
  { s with
    mem := s.mem.filter (fun e => decide (e.1 < lo ∨ lo + n ≤ e.1))
    mends := s.mends.filter (fun k => decide (k < lo ∨ lo + n ≤ k)) }

/-- The registered copy of a target is forgotten (R427). -/
def endRegistration (t : Nat) (s : State) : State :=
  let s := { s with cfg := { s.cfg with copies := s.cfg.copies.filter (fun c => decide (c.1 ≠ t)) } }
  let s := s.setFld CFG_RGNr_STATUS_SOURCE 0 t
  if t < 64 then s.setFbit SWP_SIG_SRC_REGIONS t false else s.setFld SWP_SIG_SRC_STATIC_STATIC 0

/-- The contents of a target are cleared (R305, R418). -/
def clearContents (t : Nat) (s : State) : State :=
  let s := zeroHardCells t { s with
    logic := { s.logic with flops := s.logic.flops.filter (fun f => decide (f.1 ≠ t)) }
    cfg := { s.cfg with
      frames := s.cfg.frames.filter (fun f => decide (addrTarget f.1 ≠ t))
      kept := s.cfg.kept.filter (fun f => decide (f.1 ≠ t)) }
    mm := { s.mm with brams := s.mm.brams.filter (fun b => decide (b.1 < (bramSpan t).1 ∨ (bramSpan t).1 + (bramSpan t).2 ≤ b.1)) } }
  let s := s.dropWords (sigKey (sigSpan t).1) (sigSpan t).2
  s.dropWords (bramKey (bramSpan t).1 0) (512 * (bramSpan t).2)

/-- A target becomes CLEARED, its damper SHUT (R305, R370, R399, R636). -/
def clearTarget (t : Nat) (s : State) : State :=
  let s := endRegistration t (clearContents t s)
  let s := (setDamper t dmShut s).setFld CFG_RGNr_STATUS_STATE stCleared t
  let s := s.setFld CFG_RGNr_STATUS_HOLDING 1 t
  dampersDone t (followTarget t (if t < 64 then s.setFbit CLK_RGN_GATE_GATE t false else s))

/-- A target's block memory at release (R304): its mode, and the words that the stream gives; the others are zero. -/
def releaseBram (frs : List (Nat × List Word)) (t : Nat) (s : State) (k : Nat) : State :=
  let b := (bramSpan t).1 + k
  let own := frs.filter (fun f => decide (addrKind f.1 = 1 ∧ addrIndex f.1 / 10 = k))
  let s := { s with mm := { s.mm with brams := Memory.set (fun _ => 0) s.mm.brams b (Config.configured frs (.bramMode k) % 4) } }
  if own.isEmpty then s
  else (List.range (s.bramShape t k).2).foldl (fun s w => writeBram b w (Config.bramWord own k w % 2 ^ (s.bramShape t k).1) s) s

/-- The cells of a target at its release (R303, R304, R408): flip-flops at their initial values, slices at zero, block memories
as loaded, and the dividers that its clock lines take from phase 0. -/
def releaseCells (t : Nat) (s : State) : State :=
  let s := zeroHardCells t (s.dropWords (bramKey (bramSpan t).1 0) (512 * (bramSpan t).2))
  let s := (List.range (bramSpan t).2).foldl (releaseBram (s.framesOf t) t) s
  let flops := (List.range (cellsOf t)).filter (s.initOf t)
  restartDividers t { s with logic := { s.logic with
    flops := Memory.set (fun _ => []) s.logic.flops t flops, fresh := s.logic.fresh ++ [t] } }

/-- A target is released (R303, R304, R408): its cells as loaded, damper OPEN, clock lines running. -/
def releaseTarget (s : State) (t : Nat) : State :=
  let s := releaseCells t s
  let s := (setDamper t dmOpen s).setFld CFG_RGNr_STATUS_STATE stLoaded t
  let s := s.setFld CFG_RGNr_STATUS_HOLDING 0 t
  let s := s.setFld CFG_RGNr_RELEASE_TICK s.tickCount.toNat t
  followTarget t (if t < 64 then s.setFbit CLK_RGN_GATE_GATE t true else s)

/-- A target's damper may open: LOADED and SHUT (R413). -/
def State.opens (s : State) (t : Nat) : Bool := decide (s.tstate t = stLoaded ∧ s.tdamper t = dmShut)

/-- A LOADED target whose damper opens (R413). -/
def openTarget (s : State) (t : Nat) : State :=
  if s.opens t then
    let s := (setDamper t dmOpen s).setFld CFG_RGNr_STATUS_HOLDING 0 t
    followTarget t (s.setFld CFG_RGNr_RELEASE_TICK s.tickCount.toNat t)
  else s

/-- The regions of a mask. -/
def regionsOf (mask : Nat) : List Nat := (List.range 64).filter (fun r => mask.testBit r)

/-- The mask of a list of regions. -/
def maskOf (l : List Nat) : Nat := l.foldl (fun m r => m ||| 2 ^ r) 0

/-- The REGION_DAMPER commands with OPEN whose boundary has come (R413): a region that a load has taken since counts as
skipped. -/
def dampersAtBoundary (s : State) : State :=
  let l := s.cfg.opens.filter (fun o => decide (o.due ≤ s.tck.ticks))
  let s := { s with cfg := { s.cfg with opens := s.cfg.opens.filter (fun o => decide (s.tck.ticks < o.due)) } }
  l.foldl (fun s o =>
    let rs := regionsOf o.changed
    let done := (rs.filter s.opens).length
    endCommand o.cmd .ok [BitVec.ofNat 64 done, BitVec.ofNat 64 (o.skipped + (rs.length - done)), s.tickCount]
      (rs.foldl openTarget s)) s

end Sys2Proof.Machine
end

