-- ==== Sys2Proof/Machine/Load.lean ====
section
/-! DEFINITION. Configuration loads (R355 to R378, R405 to R407), the start of user logic (R379 to R384), fuses (R389 to
R392), and the configuration and region commands (R393 to R395, R411 to R413). -/

namespace Sys2Proof.Machine

/-- The device is BANKED. -/
def State.banked (s : State) : Bool := decide (s.fld PWR_STATUS_STATE = 2)

/-- The codes of CFG_STATUS.STATE. -/
def cfUnconfigured : Nat := 0
def cfLoading : Nat := 1
def cfAuthenticating : Nat := 2
def cfReady : Nat := 3
def cfRunning : Nat := 4
def cfPartial : Nat := 5

/-- CFG_STATUS.STATE. -/
def State.cfState (s : State) : Nat := s.fld CFG_STATUS_STATE

/-- The state with the running load replaced. -/
def setLoad (l : Option Load) (s : State) : State := { s with cfg := { s.cfg with load := l } }

/-- DONE_N follows what the device wants and DONE_FORCE (R381). -/
def syncDone (s : State) : State :=
  let drive := s.cfg.doneLow && !s.on CFG_CTL_DONE_FORCE
  if drive = s.on CFG_STATUS_DONE_DRIVE then s
  else (s.setFld CFG_STATUS_DONE_DRIVE (bnat drive)).emit (.doneN drive)

/-- The device wants DONE_N low, or not. -/
def setDoneLow (v : Bool) (s : State) : State := syncDone { s with cfg := { s.cfg with doneLow := v } }

/-! ### Headers (R356, R360, R364) -/

/-- The ENC and PARTIAL flags and START_MODE of a header. -/
def LoadHeader.enc (h : LoadHeader) : Bool := h.flags.testBit 1
def LoadHeader.isPart (h : LoadHeader) : Bool := h.flags.testBit 0
def LoadHeader.startMode (h : LoadHeader) : Nat := h.flags / 4 % 4

/-- The fields of a header's words. -/
def headerOf (ws : List Word) : LoadHeader :=
  let w (k : Nat) : Word := ws.getD k 0
  { flags := bits (w 1) 16 16, key := bits (w 1) 32 8, rollback := bits (w 1) 40 8, expect := bits (w 1) 48 16
    mask := (w 2).toNat, count := bits (w 3) 0 32, length := bits (w 3) 32 32 }

/-- The CRC of the header's bytes 0x00 to 0x7B. -/
def headerCrc (ws : List Word) : BitVec 32 := crc32c ((ws.flatMap wordBytes).take 124)

/-- Step 1: the stream is for this device. -/
def headerForeign (ws : List Word) : Bool :=
  let w := ws.getD 0 0
  decide (bits w 0 32 ≠ 0x43585044) || decide (bits w 40 24 ≠ 0x84204C)
    || (decide (bits w 32 8 ≠ 0) && decide (bits w 32 8 ≠ 0xB0))

/-- Step 2, but for what the load asks for: the header is well formed. -/
def headerFormed (ws : List Word) : Bool :=
  let h := headerOf ws
  let zero (k : Nat) : Bool := decide (ws.getD k 0 = 0)
  let mode := h.startMode
  decide (headerCrc ws = BitVec.ofNat 32 (bits (ws.getD 15 0) 32 32)) && decide (bits (ws.getD 1 0) 0 16 = 1)
    && decide (h.flags < 16) && decide (bits (ws.getD 5 0) 32 32 = 0) && (List.range 9).all (fun k => zero (6 + k))
    && decide (bits (ws.getD 15 0) 0 32 = 0) && (h.enc || (zero 4 && decide (bits (ws.getD 5 0) 0 32 = 0)))
    && decide (mode ≠ 3) && (if mode = 1 then decide (1 ≤ h.expect ∧ h.expect ≤ 16383) else decide (h.expect = 0))
    && decide (h.length = 128 + 528 * h.count + 256)
    && (if h.isPart then decide (h.mask ≠ 0) && decide (mode = 0) && decide (h.expect = 0)
        else decide (h.mask = 2 ^ 64 - 1))

/-- Step 2 (R364, R410): well formed, of the kind asked for, and naming no locked region. -/
def headerBad (part : Bool) (ws : List Word) (s : State) : Bool :=
  let h := headerOf ws
  !headerFormed ws || decide (h.isPart ≠ part)
    || (part && (regionsOf h.mask).any (fun r => s.on CFG_RGNr_CTL_LOAD_LOCK r))

/-- Step 3 (R363): the key slot. -/
def keyBad (h : LoadHeader) (s : State) : Bool :=
  if s.on CFG_FUSE_SLOTS then
    decide (4 ≤ h.key) || !s.fbit CFG_FUSE_SLOTS h.key || s.fbit CFG_FUSE_REVOKED h.key
  else decide (h.key ≠ 0)

/-- Steps 1 to 5 of R364: the fail code, or none. -/
def headerCheck (part : Bool) (ws : List Word) (s : State) : Option Nat :=
  let h := headerOf ws
  if headerForeign ws then some 1
  else if headerBad part ws s then some 2
  else if keyBad h s then some 3
  else if 64 < h.rollback ∨ h.rollback < s.fld CFG_FUSE_ROLLBACK then some 4
  else if (s.on CFG_FUSE_ENC_REQUIRED && !h.enc) || (h.enc && !s.on CFG_FUSE_AES_SET) then some 5
  else none

/-! ### The start and the failure of a load -/

/-- The sweep's lap begins anew (R428). -/
def restartLap (s : State) : State :=
  { s.setFld SWP_SIG_STATUS_POSITION 0 with cfg := { s.cfg with sweepNext := 0, lapStart := s.fld DEVICE_TIME_TIME } }

/-- A load as it begins. -/
def Load.fresh (cmd : Option Packet) (source : Nat) (part : Bool) (addr : Nat) : Load :=
  { cmd := cmd, source := source, part := part, addr := addr, golden := false, clear := false, failCode := 0,
    failFrames := 0, header := none, targets := [], gated := [], closing := false, staged := [], push := [], lastAddr := none, received := 0,
    required := 0, firsts := [], sha := Sha.start, ghash := 0, iv := 0, trailer := false, digest := [], verdict := none, due := none }

/-- A load begins to take its stream. -/
def beginLoad (l : Load) (s : State) : State :=
  let s := ((s.setFld CFG_PROGRESS_FRAMES 0).setFld CFG_PROGRESS_BYTES 0).setFld CFG_STATUS_FULL (bnat (!l.part))
  let s := setLoad (some l) s
  let s := if l.source = 3 then { s with ring := { s.ring with streamFrom := none } } else s
  if l.source ≤ 1 then s.emit (.streamFetch l.source l.addr) else s

/-- The load's command replies, when it has one. -/
def replyLoad (l : Load) (st : Rs) (ws : List Nat) (s : State) : State :=
  match l.cmd with
  | some p => endCommand p st (ws.map (BitVec.ofNat 64)) s
  | none => s

/-- A REGION_CLEAR ends: its regions are cleared (R412). -/
def finishClear (l : Load) (s : State) : State :=
  let s := setLoad none (l.targets.foldl (fun s t => clearTarget t s) s)
  match l.cmd with
  | some p => endCommand p .ok [BitVec.ofNat 64 (regionsOf (p.w 1).toNat).length] s
  | none => s

/-- The targets of a failed load (R370): untouched before step 5 has passed, else cleared. -/
def clearFailed (l : Load) (s : State) : State :=
  if l.header.isNone then s
  else if l.part then
    let s := l.targets.foldl (fun s t => clearTarget t s) s
    if s.cfState = cfPartial then s.setFld CFG_STATUS_STATE cfRunning else s
  else
    let s := allTargets.foldl (fun s t => clearTarget t s) s
    { s.setFld CFG_STATUS_STATE cfUnconfigured with cfg := { s.cfg with ready := none, running := none } }

/-- The running load fails (R370, R376 to R378, R394). A full load other than a golden or aborted one falls back. -/
def loadFail (code : Nat) (s : State) : State :=
  match s.cfg.load with
  | none => s
  | some l =>
    if l.clear then
      replyLoad l .loadFailed [code, 0, 0, 0] (setLoad none (l.targets.foldl (fun s t => clearTarget t s) s))
    else
      let frames := s.fld CFG_PROGRESS_FRAMES
      let s := (s.setFld CFG_STATUS_FAIL code).addFld CFG_LOADS_FAILED 1
      let s := if l.header.isSome ∧ ¬ l.part then restartLap s else s
      let s := raise 0x380 code (setLoad none (clearFailed l s))
      let first := if l.golden then l.failCode else code
      let firstFrames := if l.golden then l.failFrames else frames
      if ¬ l.part ∧ ¬ l.golden ∧ code ≠ 10 ∧ s.on CFG_CTL_GOLDEN_EN then
        beginLoad { Load.fresh l.cmd 0 false 0x10000000 with golden := true, failCode := code, failFrames := frames } s
      else replyLoad l .loadFailed [first, firstFrames, 0, 0] s

/-! ### The parts of the stream -/

/-- Words in stream frames of up to 256 bytes. -/
def streamChunks : Nat → List Word → List (List Word)
  | 0, _ => []
  | n + 1, ws => if ws.isEmpty then [] else ws.take 32 :: streamChunks n (ws.drop 32)

/-- A FLASH_HEAD device sends what its boot load reads to both ports of its ring, whatever its checks find (R372, R375). -/
def forwardPart (ws : List Word) (s : State) : State :=
  if s.cfg.forward && s.cfg.load.all (fun l => l.cmd.isNone) then
    let ring := if s.portActive 0 ∨ s.portActive 1 then 0 else 1
    (streamChunks ws.length ws).foldl (fun s w =>
      let f := sysFrame s frStream brAll w
      let s := if s.portActive (2 * ring) then sendFrame true f (2 * ring) s else s
      if s.portActive (2 * ring + 1) then sendFrame true f (2 * ring + 1) s else s) s
  else s

/-- Take a part of `n` words: of a PUSH or RING load, the words that came, which must be those of the part; of any other load, the
bytes count as received. -/
def takePart (l : Load) (n : Nat) (ws : List Word) (s : State) : Option (Load × State) :=
  if ws.length ≠ n then none
  else if l.source = 2 ∨ l.source = 3 then
    if l.push.length < n ∨ l.push.take n ≠ ws then none else some ({ l with push := l.push.drop n }, s)
  else some (l, s.addFld CFG_PROGRESS_BYTES (8 * n))

/-- Every target of the load is SHUT with its clock lines gated (R406). -/
def Load.allGated (l : Load) : Bool := l.targets.all (fun t => l.gated.contains t)

/-- The targets of a header. -/
def LoadHeader.targets (h : LoadHeader) : List Nat := if h.isPart then regionsOf h.mask else allTargets

/-- The fused AES key's schedule, and GHASH's key under it (R361). -/
def State.aesKeys (s : State) : List Nat := fusedKeys s.cfg.fuses.aes
def State.ghashKey (s : State) : Nat := aesBlock s.aesKeys 0

/-- The header joins the digest, and the GHASH of an encrypted stream as additional data (R361, R362). -/
def beginDigest (l : Load) (ws : List Word) (s : State) : Load :=
  { l with
    sha := Sha.start.feed ws, iv := headerIv ws
    ghash := if (headerOf ws).enc then (blocksOf ws).foldl (ghash s.ghashKey) 0 else 0 }

/-- A record joins the digest as it travels, and the GHASH of an encrypted stream (R361, R362). -/
def Load.digestRecord (l : Load) (enc : Bool) (ws : List Word) (s : State) : Load :=
  { l with sha := l.sha.feed ws, ghash := if enc then (blocksOf ws).foldl (Machine.ghash s.ghashKey) l.ghash else l.ghash }

/-- A target begins to close for a load (R399, R402, R427). -/
def closeForLoad (s : State) (t : Nat) : State :=
  endRegistration t ((raiseDamper t s).setFld CFG_RGNr_STATUS_STATE stLoading t)

/-- What a full load does to the device at its start (R381, R386, R428). A START that an unconfigured device has received waits
for the authentication (R383). -/
def beginFull (s : State) : State :=
  let early := if s.cfState = cfUnconfigured then s.cfg.startTick else none
  let s := (List.range 128).foldl (fun s g => enterSafe g (setSafeState g (bnat s.cfg.safeKeep) s)) s
  let s := s.setFld CFG_STATUS_STATE cfLoading
  let s := { s with cfg := { s.cfg with
    ready := none, running := none, startDue := none, startTick := early, readySent := false } }
  setDoneLow true (restartLap s)

/-- Steps 1 to 5 have passed (R365, R397 to R402); the block-memory contents of an earlier stream are forgotten (R304). -/
def acceptHeader (l : Load) (h : LoadHeader) (s : State) : State :=
  let quiet := h.targets.filter (fun t => decide (s.tstate t = stCleared))
  let closing := h.targets.any (fun t => decide (s.tdamper t ≠ dmShut))
  let s := s.setFld CFG_REGIONS_MASK h.mask
  let s := if l.part then (if s.cfState = cfRunning then s.setFld CFG_STATUS_STATE cfPartial else s) else beginFull s
  let s := { s with cfg := { s.cfg with
    frames := s.cfg.frames.filter (fun f => !(decide (addrKind f.1 = 1) && h.targets.contains (addrTarget f.1))) } }
  setLoad (some { l with header := some h, targets := h.targets, gated := quiet, closing := closing }) (h.targets.foldl closeForLoad s)

/-- A part of the stream whose source read is answered other than OK (R705): the load fails at once. -/
def readFailed (s : State) : State :=
  if s.cfg.load.any (fun l => !l.clear && decide (l.source ≤ 1) && !l.trailer) then loadFail 7 s else s

/-- The part that a source gives, if its read is answered OK: what the part does. -/
def withPart (st : Status) (ws : List Word) (s : State) (work : Load → State → State) : State :=
  if st ≠ .ok then readFailed s
  else
    let s := forwardPart ws s
    match s.cfg.load with
    | none => s
    | some l => work l s

/-- `CONFIG_HEADER` (R364, steps 1 to 5); `st` answers the read of its source. -/
def execConfigHeader (st : Status) (ws : List Word) (s : State) : Host.Outcome State Fault Refusal :=
  .next (withPart st ws s (fun l s =>
    if l.clear ∨ l.header.isSome then s
    else match takePart l 16 ws s with
      | none => s
      | some (l, s) =>
        let s := setLoad (some l) s
        match headerCheck l.part ws s with
        | some code => loadFail code s
        | none =>
          acceptHeader (beginDigest l ws s) (headerOf ws) (s.setFld CFG_STATUS_OPEN_KEY (bnat (!s.on CFG_FUSE_SLOTS)))))

/-- The number of frames of a kind that a target has (R358). -/
def frameCount (t kind : Nat) : Nat :=
  match kind with
  | 0 => if t < 64 then 6080 else 21952
  | 1 => if t < 64 then 640 else 2560
  | 2 => if t < 64 then 32 else 64
  | _ => 0

/-- Step 6 of R364: the record is in order, of a named target, in range, with its zero fields and its CRC. -/
def recordGood (l : Load) (h : LoadHeader) (ws : List Word) : Bool :=
  let a := bits (ws.getD 0 0) 0 32
  let t := addrTarget a
  (match l.lastAddr with | some b => decide (b < a) | none => true)
    && (if t = 64 then !h.isPart && decide (a / 2 ^ 25 % 64 = 0) else h.mask.testBit t)
    && decide (addrIndex a < frameCount t (addrKind a)) && decide (bits (ws.getD 0 0) 32 32 = 0)
    && decide (bits (ws.getD 65 0) 32 32 = 0)
    && decide (frameCrc a ((ws.drop 1).take 64) = BitVec.ofNat 32 (bits (ws.getD 65 0) 0 32))

/-- The number of a swept frame (R418), or none for a FKIND 1 frame. -/
def sweptNumber (a : Nat) : Option Nat :=
  let base := if addrTarget a < 64 then 6112 * addrTarget a else 391168
  match addrKind a with
  | 0 => some (base + addrIndex a)
  | 2 => some (base + frameCount (addrTarget a) 0 + addrIndex a)
  | _ => none

/-- A signature entry is written (R418); an uncorrectable neighbour is written as zero with it. -/
def writeEntry (n : Nat) (crc : BitVec 32) (s : State) : State :=
  let key := sigKey (n / 2)
  let old := (s.pword key).value
  let c := crc.toNat
  s.writeP key (if n % 2 = 0 then setBits old 0 32 c else setBits old 32 32 c)

/-- A frame is written over the configuration port, with its entry (R366, R418). -/
def writeFrame (a : Nat) (ws : List Word) (s : State) : State :=
  let s := { s with cfg := { s.cfg with frames := Memory.set (fun _ => clearedFrame) s.cfg.frames a ws } }
  match sweptNumber a with
  | some n => writeEntry n (frameCrc a ws) s
  | none => s

/-- The index of a target's first record and its FKIND 1 records so far (R425). -/
def noteFirst (t k kind : Nat) (l : List (Nat × Nat × Nat)) : List (Nat × Nat × Nat) :=
  if l.any (fun x => decide (x.1 = t)) then
    l.map (fun x => if x.1 = t ∧ kind = 1 then (x.1, x.2.1, x.2.2 + 1) else x)
  else l ++ [(t, k, if kind = 1 then 1 else 0)]

/-- Every required frame of the load's targets (R358). -/
def requiredFrames (l : Load) : Nat := (l.targets.map (fun t => frameCount t 0 + frameCount t 2)).sum

/-- Steps 6 and 7 for one record as it travels: decrypted where the stream is (R361), it is written, or the load fails. -/
def takeRecord (s : State) (ws : List Word) : State :=
  match s.cfg.load with
  | none => s
  | some l =>
    match l.header with
    | none => s
    | some h =>
      let l := l.digestRecord h.enc ws s
      let ws := if h.enc then clearRecord s.cfg.fuses.aes l.iv l.received ws else ws
      if ¬ recordGood l h ws then loadFail 6 s
      else
        let a := bits (ws.getD 0 0) 0 32
        let kind := addrKind a
        let l := { l with
          lastAddr := some a, received := l.received + 1, required := l.required + (if kind = 1 then 0 else 1)
          firsts := noteFirst (addrTarget a) l.received kind l.firsts }
        let s := setLoad (some l) (writeFrame a ((ws.drop 1).take 64) (s.addFld CFG_PROGRESS_FRAMES 1))
        if l.received = h.count ∧ l.required ≠ requiredFrames l then loadFail 6 s else s

/-- `CONFIG_RECORD` (R364, R366, R406): a record as it travels; records of a PUSH or ring source that come before the targets are
gated wait in the staging buffer of 256 KiB; other sources are not read before. -/
def execConfigRecord (st : Status) (ws : List Word) (s : State) : Host.Outcome State Fault Refusal :=
  .next (withPart st ws s (fun l s =>
    match l.header with
    | none => s
    | some h =>
      if h.count ≤ l.received + l.staged.length then s
      else if l.allGated then
        match takePart l 66 ws s with
        | none => s
        | some (l, s) => takeRecord (setLoad (some l) s) ws
      else if l.source < 2 ∨ 496 ≤ l.staged.length then s
      else match takePart l 66 ws s with
        | none => s
        | some (l, s) => setLoad (some { l with staged := l.staged ++ [ws] }) s))

/-- `CLOCK_LINES_GATED` (R405): the last clock line of a SHUT target of a load or clear is gated; once all are, frames are
written. -/
def execClockLinesGated (t : Fin 65) (s : State) : Host.Outcome State Fault Refusal :=
  match s.cfg.load with
  | none => .next s
  | some l =>
    if s.tdamper t ≠ dmShut ∨ ¬ l.targets.contains t.val ∨ l.gated.contains t.val then .next s
    else
      let l := { l with gated := l.gated ++ [t.val] }
      if ¬ l.allGated then .next (setLoad (some l) s)
      else if l.clear then .next (finishClear l s)
      else .next (l.staged.foldl takeRecord (setLoad (some { l with staged := [] }) s))

/-- Step 8: the trailer's magic and zero fields. -/
def trailerFormed (enc : Bool) (ws : List Word) : Bool :=
  let zero (k : Nat) : Bool := decide (ws.getD k 0 = 0)
  decide (ws.getD 0 0 = 0x45585044) && zero 1 && (enc || (zero 2 && zero 3)) && (List.range 4).all (fun k => zero (28 + k))

/-- Words `k` to `k` + 5 of a trailer: a 48-byte integer (R356). -/
def trailerWide (ws : List Word) (k : Nat) : Nat := wideValue ((ws.drop k).take 6)

/-- The fail code of steps 10 and 11 under a trailer (R361, R362), or none: QX, QY, SIG_R and SIG_S against the digest, then
GCM_TAG. -/
def trailerVerdict (l : Load) (h : LoadHeader) (digest : List Nat) (ws : List Word) (s : State) : Option Nat :=
  if ¬ ecdsaVerifies digest (trailerWide ws 4) (trailerWide ws 10) (trailerWide ws 16) (trailerWide ws 22) then some 8
  else if h.enc ∧ blocksOf ((ws.drop 2).take 2) ≠ [gcmTag s.aesKeys l.iv l.ghash (528 * h.count)] then some 9
  else none

/-- The trailer joins the digest up to byte 0x7F, which is then complete, and steps 10 and 11 are decided. -/
def Load.endDigest (l : Load) (h : LoadHeader) (ws : List Word) (s : State) : Load :=
  let d := (l.sha.feed (ws.take 16)).finish
  { l with trailer := true, digest := digestWords d, verdict := trailerVerdict l h d ws s }

/-- `CONFIG_TRAILER` (R364, steps 7 to 9): the key hash is the SHA-384 digest of trailer bytes 0x20 to 0x7F (R363). -/
def execConfigTrailer (st : Status) (ws : List Word) (s : State) : Host.Outcome State Fault Refusal :=
  .next (withPart st ws s (fun l s =>
    match l.header with
    | none => s
    | some h =>
      if l.trailer ∨ l.received ≠ h.count ∨ ¬ l.allGated then s
      else match takePart l 32 ws s with
        | none => s
        | some (l, s) =>
          let s := setLoad (some (l.endDigest h ws s)) s
          if l.required ≠ requiredFrames l then loadFail 6 s
          else if ¬ trailerFormed h.enc ws then loadFail 2 s
          else if s.on CFG_FUSE_SLOTS ∧ s.cfg.fuses.hashes.getD h.key [] ≠ sha384 ((ws.drop 4).take 12) then loadFail 3 s
          else if l.part then s else s.setFld CFG_STATUS_STATE cfAuthenticating))

/-! ### Authentication and the start of user logic (R371, R379 to R384) -/

/-- User logic starts at tick `T` (R383); a tick that has passed is late, and so is an image not yet authenticated, once it is. A
start scheduled in the last epoch before tick `T` waits for the following boundary (R44). -/
def scheduleStart (T : Nat) (s : State) : State :=
  if s.cfState = cfReady ∧ s.tickCount.toNat ≥ T then
    { s.setFld CFG_STATUS_START_LATE 1 with cfg := { s.cfg with startDue := some s.nextDue } }
  else { s with cfg := { s.cfg with startTick := some T, startOpen := s.nextDue } }

/-- The rendezvous is over: the source counts anew (log entry 96). -/
def endRendezvous (s : State) : State :=
  { s.setFld CFG_STATUS_RDV_COUNT 0 with cfg := { s.cfg with readyIds := [], startSent := false } }

/-- The tick source sends START once its count reaches its own stream's RDV_EXPECT (R382), also where CFG_START has started it
alone (R384). -/
def checkRendezvous (s : State) : State :=
  match (s.cfg.ready.map Prod.fst).or s.cfg.running with
  | some h =>
    if h.startMode = 1 ∧ ¬ s.cfg.startSent ∧ h.expect ≤ s.cfg.readyIds.length then
      let T := s.tickCount.toNat + 1024
      let s := broadcastAll (sysFrame s frStart brAll [BitVec.ofNat 64 T]) s
      if s.cfg.ready.isSome then scheduleStart T { s with cfg := { s.cfg with startSent := true } } else endRendezvous s
    else s
  | none => s

/-- The tick source counts a READY device once (R382, R384). -/
def countReady (dev : Nat) (s : State) : State :=
  if ¬ s.on TCK_STATUS_IS_SOURCE ∨ s.cfg.readyIds.contains dev then s
  else
    let s := { s with cfg := { s.cfg with readyIds := s.cfg.readyIds ++ [dev] } }
    checkRendezvous (s.setFld CFG_STATUS_RDV_COUNT s.cfg.readyIds.length)

/-- READY goes to the tick source that the markers of the upstream port name (R382, R569), also while they are missing. -/
def readyFrame (s : State) : State :=
  if s.tck.following then
    let p := (routePort s.tck.source s).getD (s.fld TCK_STATUS_UPSTREAM_PORT)
    sendFrame true (sysFrame s frReady s.tck.source [BitVec.ofNat 64 s.devId]) p s
  else s

/-- An authenticated device of a rendezvous sends READY once TCK_ALIGNED is 1; the tick source, which
follows nobody, counts itself (R382). -/
def sendReady (s : State) : State :=
  match s.cfg.ready with
  | some (h, _) =>
    if h.startMode = 1 ∧ ¬ s.cfg.readySent ∧ (s.on TCK_STATUS_ALIGNED ∨ s.on TCK_STATUS_IS_SOURCE) then
      let s := { s with cfg := { s.cfg with readySent := true } }
      if s.on TCK_STATUS_IS_SOURCE then countReady s.devId s else readyFrame s
    else s
  | none => s

/-- A full load is READY (R379, R394). -/
def becomeReady (l : Load) (h : LoadHeader) (s : State) : State :=
  let s := restartLap (setLoad none (s.setFld CFG_STATUS_STATE cfReady))
  let s := { s with cfg := { s.cfg with ready := some (h, l.golden), startOpen := s.nextDue } }
  let s := setDoneLow false s
  let s := if l.golden then replyLoad l .loadFailed [l.failCode, l.failFrames, 0, 1] s
    else replyLoad l .ok [0, s.fld CFG_PROGRESS_FRAMES, 0, 0] s
  let soon : State := { s with cfg := { s.cfg with startDue := some s.nextDue, startTick := none } }
  match h.startMode with
  | 0 => if s.on CFG_STATUS_DONE_IN ∧ ¬ s.cfg.doneFilter then soon else { s with cfg := { s.cfg with startTick := none } }
  | 2 => soon
  | _ =>
    match s.cfg.startTick with
    | some T =>
      if T ≤ s.tickCount.toNat then soon.setFld CFG_STATUS_START_LATE 1 else s.setFld CFG_STATUS_START_LATE 1
    | none => checkRendezvous (sendReady s)

/-- `AUTHENTICATED` (R371): steps 10 and 11 pass. -/
def execAuthenticated (s : State) : Host.Outcome State Fault Refusal :=
  match s.cfg.load with
  | none => .next s
  | some l =>
    match l.header with
    | none => .next s
    | some h =>
      if ¬ l.trailer ∨ l.due.isSome ∨ l.verdict.isSome then .next s
      else
        let s := s.addFld CFG_LOADS_DONE 1
        let s := l.firsts.foldl (fun s x => { s with cfg := { s.cfg with
          kept := s.cfg.kept.filter (fun k => decide (k.1 ≠ x.1)) ++ [(x.1, Kept.mk x.2.1 x.2.2 l.digest)] } }) s
        if l.part then .next (setLoad (some { l with due := some s.nextDue }) s)
        else .next (becomeReady l h s)

/-- `AUTHENTICATION_FAILED` (R364, steps 10 and 11): the signature, or the GCM tag of an encrypted stream, fails. -/
def execAuthenticationFailed (s : State) : Host.Outcome State Fault Refusal :=
  match s.cfg.load with
  | none => .next s
  | some l =>
    match l.verdict with
    | none => .next s
    | some code => if ¬ l.trailer then .next s else .next (loadFail code s)

/-- `STARVATION_EXPIRE` (R368, R406): the timer does not run from the start of CLOSING until the first frame is written, nor before
a boot load's first byte. -/
def execStarvationExpire (s : State) : Host.Outcome State Fault Refusal :=
  match s.cfg.load with
  | none => .next s
  | some l =>
    if l.clear ∨ l.trailer ∨ (l.closing ∧ l.received = 0) ∨ (l.header.isNone ∧ l.cmd.isNone ∧ ¬ l.golden ∧ l.push = []) then .next s
    else .next (loadFail 7 s)

/-- The release of an authenticated partial load at its boundary (R371, R394, R407, R408). -/
def loadAtBoundary (s : State) : State :=
  match s.cfg.load with
  | none => s
  | some l =>
    match l.due with
    | none => s
    | some d =>
      if s.tck.ticks < d then s
      else
        let s := l.targets.foldl releaseTarget (setLoad none s)
        let s := if s.cfState = cfPartial then s.setFld CFG_STATUS_STATE cfRunning else s
        replyLoad l .ok [0, s.fld CFG_PROGRESS_FRAMES, s.tickCount.toNat, 0] s

/-- User logic starts (R380, R635). -/
def startUserLogic (h : LoadHeader) (golden : Bool) (s : State) : State :=
  let s := allTargets.foldl releaseTarget s
  let s := (s.setFld CFG_STATUS_STATE cfRunning).setFld CFG_STATUS_GOLDEN (bnat golden)
  let s := s.setReg CFG_HDR_FLAGS.off (mkWord [(0, 16, h.flags), (16, 8, h.rollback), (24, 2, h.key), (32, 16, 1)])
  let s := (s.setFld CFG_START_TICK_TICK s.tickCount.toNat).setFld CLK_GATE_STATIC 1
  let s := s.setFld CLK_GATE_ULANE 1
  let s := { s with cfg := { s.cfg with
    ready := none, running := some h, startDue := none, startTick := none, readySent := false } }
  if h.startMode = 1 ∧ ¬ s.cfg.startSent then s else endRendezvous s

/-- The start of user logic at the boundary it waits for (R379, R383). -/
def startAtBoundary (s : State) : State :=
  match s.cfg.ready with
  | none => s
  | some (h, golden) =>
    if s.cfg.startDue.any (fun d => decide (d ≤ s.tck.ticks)) ∨
        s.cfg.startTick.any (fun T => decide (T ≤ s.tickCount.toNat ∧ s.cfg.startOpen ≤ s.tck.ticks))
    then startUserLogic h golden s else s

/-- `DONE_N_RISE` (R381). -/
def execDoneNRise (s : State) : Host.Outcome State Fault Refusal :=
  .next { s.setFld CFG_STATUS_DONE_IN 1 with cfg := { s.cfg with doneFilter := true } }

/-- `DONE_FILTER_MET` (R379). -/
def execDoneFilterMet (s : State) : Host.Outcome State Fault Refusal :=
  if ¬ s.cfg.doneFilter then .next s
  else
    let s := { s with cfg := { s.cfg with doneFilter := false } }
    match s.cfg.ready with
    | some (h, _) =>
      if h.startMode = 0 then .next { s with cfg := { s.cfg with startDue := some s.nextDue } } else .next s
    | none => .next s

/-- `DONE_N_FALL` (R381). -/
def execDoneNFall (s : State) : Host.Outcome State Fault Refusal :=
  .next { s.setFld CFG_STATUS_DONE_IN 0 with cfg := { s.cfg with doneFilter := false } }

/-- START concerns a device whose image, read or awaited, starts by a rendezvous (R383), and an unconfigured one, whose image is
not yet known. -/
def takeStart (tick : Nat) (s : State) : State :=
  let modeOf := match s.cfg.ready with
    | some (h, _) => some h.startMode
    | none => (s.cfg.load.bind (fun l => if l.part then none else l.header)).map LoadHeader.startMode
  if modeOf = some 1 ∨ (modeOf.isNone ∧ s.cfState = cfUnconfigured) then scheduleStart tick s else s

/-! ### Commands (R393 to R395) -/

/-- An active ring port exists (R395). -/
def anyActivePort (s : State) : Bool := (List.range 4).any (fun p => s.on BRL_PORTp_STATUS_ACTIVE p)

/-- The parameter words CFG_LOAD reads: W2 is a byte address for flash or DRAM alone (R393). -/
def loadNeed (w1 : Word) : Nat := if bits w1 0 2 ≤ 1 then 2 else 1

/-- `CFG_LOAD` (R393 to R395). -/
def execCfgLoad (p : Packet) (s : State) : Host.Outcome State Fault Refusal :=
  .next (runCommand 0x0101 (loadNeed (p.w 1)) .owner p (fun s =>
    let source := bits (p.w 1) 0 2
    if s.banked then endCommand p .invalid [] s
    else if s.cfg.load.isSome then endCommand p .busy [] s
    else if source = 3 ∧ ¬ anyActivePort s then endCommand p .invalid [] s
    else beginLoad (Load.fresh (some p) source (bit (p.w 1) 4) (bits (p.w 2) 0 38)) s) s)

/-- The boot load of phase P4 (R372). -/
def bootLoad (s : State) : State :=
  match s.fld CFG_STATUS_BOOT_SRC with
  | 0 => beginLoad (Load.fresh none 0 false 0) s
  | 1 => s
  | 2 => beginLoad (Load.fresh none 3 false 0) s
  | _ => beginLoad (Load.fresh none 0 false 0) { s with cfg := { s.cfg with forward := true } }

/-- `CFG_ABORT` (R394). -/
def execCfgAbort (p : Packet) (s : State) : Host.Outcome State Fault Refusal :=
  .next (runCommand 0x0102 0 .owner p (fun s =>
    match s.cfg.load with
    | none => endCommand p .invalid [] s
    | some l =>
      if l.clear then endCommand p .invalid [] s
      else endCommand p .ok [BitVec.ofNat 64 (s.fld CFG_PROGRESS_FRAMES)] (loadFail 10 s)) s)

/-- `CFG_START` (R384, R393): a start for the boundary whose set of changes is frozen waits for the following one (R44). -/
def execCfgStart (p : Packet) (s : State) : Host.Outcome State Fault Refusal :=
  .next (runCommand 0x0103 1 .owner p (fun s =>
    let T := (p.w 1).toNat
    if s.cfState ≠ cfReady ∨ (T ≠ 0 ∧ T ≤ s.tickCount.toNat) then endCommand p .invalid [] s
    else if T = 0 then
      endCommand p .ok [s.tickCount + BitVec.ofNat 64 (s.nextDue - s.tck.ticks)]
        { s with cfg := { s.cfg with startDue := some s.nextDue } }
    else endCommand p .ok [BitVec.ofNat 64 (max T (s.tickCount.toNat + (s.nextDue - s.tck.ticks)))]
      { s with cfg := { s.cfg with startTick := some T, startOpen := s.nextDue } }) s)

/-- The frame record of a swept frame, with its computed CRC (R357, R392). -/
def recordOf (s : State) (n : Nat) : List Word :=
  let a := sweptAddr n
  let f := Memory.get (fun _ => clearedFrame) s.cfg.frames a
  BitVec.ofNat 64 a :: f ++ [(frameCrc a f).setWidth 64]

/-- `CFG_READBACK` (R392, R393): FKIND 0 and FKIND 2 frames; `failAt` is the frame whose DRAM write was not answered OK. -/
def execCfgReadback (p : Packet) (failAt : Option Nat) (s : State) : Host.Outcome State Fault Refusal :=
  .next (runCommand 0x0104 2 .owner p (fun s =>
    let t := if bit (p.w 1) 6 then 64 else bits (p.w 1) 0 6
    let n := 2 * (sigSpan t).2
    if s.banked then endCommand p .invalid [] s
    else if s.cfg.load.isSome then endCommand p .busy [] s
    else if s.on CFG_FUSE_READBACK_DIS ∨ s.cfg.running.any LoadHeader.enc then endCommand p .locked [] s
    else
      let made := match failAt with | some k => min k n | none => n
      let ws := (List.range made).flatMap (fun k => recordOf s (2 * (sigSpan t).1 + k))
      let s := s.emit (.readback (bits (p.w 2) 0 38) ws)
      if made < n then endCommand p .errData [] s else endCommand p .ok [BitVec.ofNat 64 n] s) s)

/-- `FUSE_ROLLBACK` (R391). -/
def execFuseRollback (p : Packet) (s : State) : Host.Outcome State Fault Refusal :=
  .next (runCommand 0x0105 1 .owner p (fun s =>
    if s.cfg.load.isSome then endCommand p .busy [] s
    else match s.cfg.running with
      | none => endCommand p .invalid [] s
      | some h =>
        if 64 < (p.w 1).toNat then endCommand p .invalid [] s
        else
          let n := max s.cfg.fuses.rollback (min (p.w 1).toNat h.rollback)
          let s := { s with cfg := { s.cfg with fuses := { s.cfg.fuses with rollback := n } } }
          endCommand p .ok [BitVec.ofNat 64 n] (s.setFld CFG_FUSE_ROLLBACK n)) s)

/-- A key slot is unprogrammed: its hash is all zero (R389). -/
def Fuses.slotFree (f : Fuses) (k : Nat) : Bool := (f.hashes.getD k []).all (fun w => decide (w = 0))

/-- The fuses with an item programmed, or none where it is already (R390). -/
def Fuses.program (f : Fuses) (item : Nat) (ws : List Word) : Option Fuses :=
  if item < 4 then
    (if f.slotFree item then some { f with hashes := f.hashes.set item ws } else none)
  else if item < 8 then some { f with revoked := f.revoked ||| 2 ^ (item - 4) }
  else if item = 8 then (if f.aes = [] then some { f with aes := ws } else none)
  else if item = 9 then some { f with encRequired := true }
  else if item = 10 then some { f with readbackDis := true }
  else some { f with jtagLock := true }

/-- The parameter words FUSE_PROGRAM reads for an item. -/
def fuseNeed (item : Nat) : Nat := if item < 4 then 7 else if item = 8 then 5 else 1

/-- `FUSE_PROGRAM` (R390): KEY_REVOKE takes effect at once, the others at the next power-up. -/
def execFuseProgram (p : Packet) (s : State) : Host.Outcome State Fault Refusal :=
  .next (runCommand 0x0106 1 .owner p (fun s =>
    let item := bits (p.w 1) 0 4
    if p.len < fuseNeed item then endCommand p .badLength [] s
    else if s.cfg.load.isSome then endCommand p .busy [] s
    else if 11 < item then endCommand p .invalid [] s
    else if ¬ s.on CFG_FUSE_FUSE_EN then endCommand p .locked [] s
    else match s.cfg.fuses.program item (((p.words.drop 1).take (fuseNeed item - 1))) with
      | none => endCommand p .locked [] s
      | some f =>
        let s := { s with cfg := { s.cfg with fuses := f } }
        endCommand p .ok [BitVec.ofNat 64 item] (s.setFld CFG_FUSE_REVOKED f.revoked)) s)

/-- The fuses take effect (R385, R390). -/
def readFuses (s : State) : State :=
  let f := s.cfg.fuses
  let slots := (List.range 4).foldl (fun m k => if f.slotFree k then m else m + 2 ^ k) 0
  let en := s.fld CFG_FUSE_FUSE_EN
  s.setReg CFG_FUSE_ROLLBACK.off (mkWord [(0, 7, f.rollback), (8, 4, slots), (12, 4, f.revoked), (16, 1, bnat (!f.aes.isEmpty)),
    (17, 1, bnat f.encRequired), (18, 1, bnat f.readbackDis), (19, 1, bnat f.jtagLock), (20, 1, en)])

/-- The effect of a write to CFG_PUSH (R374): the next 8 stream bytes of the PUSH load that the master started; bytes
beyond LENGTH are ignored. -/
def pushEffect (m : Ident) (h : Half) (data : Word) (s : State) : State :=
  match s.cfg.load with
  | none => violation m .area true (CFG_PUSH_DATA.off + h.skip) s
  | some l =>
    if l.source ≠ 2 ∨ l.clear ∨ l.cmd.all (fun p => decide (p.issuer ≠ m)) then violation m .area true (CFG_PUSH_DATA.off + h.skip) s
    else if h ≠ .full then violation m .size true (CFG_PUSH_DATA.off + h.skip) s
    else if l.header.any (fun x => decide (x.length ≤ s.fld CFG_PROGRESS_BYTES)) then s
    else setLoad (some { l with push := l.push ++ [data] }) (s.addFld CFG_PROGRESS_BYTES 8)

/-- `CFG_PUSH_WRITE` (R374). -/
def execCfgPushWrite (m : Ident) (h : Half) (data : Word) (s : State) : Host.Outcome State Fault Refusal :=
  .next (regWrite .CFG_PUSH [] m h (pushEffect m h data) s)

/-! ### Region commands (R411 to R413) -/

/-- `REGION_CLEAR` (R412). -/
def execRegionClear (p : Packet) (s : State) : Host.Outcome State Fault Refusal :=
  .next (runCommand 0x0107 1 .owner p (fun s =>
    let named := regionsOf (p.w 1).toNat
    if named.isEmpty ∨ s.banked then endCommand p .invalid [] s
    else if s.cfg.load.isSome then endCommand p .busy [] s
    else
      let ts := named.filter (fun r => decide (s.tstate r ≠ stCleared))
      if ts.isEmpty then endCommand p .ok [BitVec.ofNat 64 named.length] s
      else
        let s := ts.foldl (fun s t => endRegistration t (raiseDamper t s)) s
        setLoad (some { Load.fresh (some p) 0 true 0 with clear := true, targets := ts }) s) s)

/-- A region that the load in progress names. -/
def loadNames (s : State) (r : Nat) : Bool := s.cfg.load.any (fun l => l.targets.contains r)

/-- `REGION_DAMPER` (R413): with no region to change it replies at once, with no tick of a change. -/
def execRegionDamper (p : Packet) (s : State) : Host.Outcome State Fault Refusal :=
  .next (runCommand 0x0108 2 .owner p (fun s =>
    let named := regionsOf (p.w 1).toNat
    let want := if bit (p.w 2) 0 then dmShut else dmOpen
    let chosen := named.filter (fun r => decide (s.tstate r = stLoaded ∧ s.tdamper r = want) && !loadNames s r)
    let skipped := named.length - chosen.length
    if named.isEmpty ∨ s.banked then endCommand p .invalid [] s
    else if chosen.isEmpty then endCommand p .ok [0, BitVec.ofNat 64 skipped, 0] s
    else if bit (p.w 2) 0 then
      { s with cfg := { s.cfg with opens := s.cfg.opens ++ [OpenCmd.mk p s.nextDue (maskOf chosen) skipped] } }
    else
      chosen.foldl (fun s r => raiseDamper r s)
        { s with cfg := { s.cfg with dampers := s.cfg.dampers ++ [DamperCmd.mk p chosen chosen.length skipped] } }) s)

/-- A copy is registered for a target (R426). -/
def registerCopy (addr : Nat) (s : State) (t : Nat) : State :=
  let s := endRegistration t s
  let s := { s with cfg := { s.cfg with copies := s.cfg.copies ++ [(t, addr)] } }
  let s := s.setFld CFG_RGNr_STATUS_SOURCE 1 t
  if t < 64 then s.setFbit SWP_SIG_SRC_REGIONS t true else s.setFld SWP_SIG_SRC_STATIC_STATIC 1

/-- The digest of a copy's words, computed as R362 does (R426). -/
def copyDigest (copy : List Word) : List Word := sha384 (copy.take ((headerOf copy).length / 8 - 16))

/-- `SWP_SOURCE` (R426): `st` is OK when every DRAM read of the copy was; `copy` is what they gave. -/
def execSwpSource (p : Packet) (st : Status) (copy : List Word) (s : State) : Host.Outcome State Fault Refusal :=
  .next (runCommand 0x0109 2 .owner p (fun s =>
    if s.banked then endCommand p .invalid [] s
    else if s.cfg.load.isSome then endCommand p .busy [] s
    else if bit (p.w 2) 0 then endCommand p .ok [0, 0] (allTargets.foldl (fun s t => endRegistration t s) s)
    else if st ≠ .ok then endCommand p .errData [] s
    else if headerForeign copy ∨ ¬ headerFormed (copy.take 16) then endCommand p .invalid [] s
    else
      let ts := (s.cfg.kept.filter (fun k => decide (k.2.digest = copyDigest copy))).map (·.1)
      if ts.isEmpty then endCommand p .failed [] s
      else endCommand p .ok [BitVec.ofNat 64 (ts.filter (fun t => decide (t < 64))).length,
          BitVec.ofNat 64 (bnat (ts.contains 64))] (ts.foldl (registerCopy (bits (p.w 1) 0 38)) s)) s)

end Sys2Proof.Machine
end

