-- ==== Sys2Proof/Machine/Nva.lean ====
section
/-! DEFINITION. The non-volatile array (R336 to R343): areas and their writers, NVA_ADDR and NVA_DATA, one access at a
time. -/

namespace Sys2Proof.Machine

/-- The address is in a reserved range (R339). -/
def nvaReserved (a : Nat) : Bool :=
  decide ((0x19100 ≤ a ∧ a < 0x1A000) ∨ (0x3A000 ≤ a ∧ a < 0x40000))

/-- The USER block of an address is write-protected. -/
def nvaProtected (a : Nat) (s : State) : Bool :=
  let b := (a - 0x40000) / 8192
  if b < 64 then s.fbit NVA_WP0_WP b else s.fbit NVA_WP1_WP (b - 64)

/-- The master may write the word (R339). -/
def nvaMayWrite (m : Ident) (a : Nat) (s : State) : Bool :=
  let hearth := decide (identClass m = 0)
  if a < 0x9000 then false
  else if a < 0x19100 then hearth
  else if a < 0x1A000 then false
  else if a < 0x2A000 then hearth || (s.isOwner m && s.on NVA_CTL_BOARD_WE)
  else if a < 0x3A000 then hearth
  else if a < 0x40000 then false
  else identMatches m (s.fld NVA_USER_MATCH_MATCH) (s.fld NVA_USER_MATCH_MASK) && !nvaProtected a s

/-- A read of a word by a consumer (R342): the word with the state, or none where it is uncorrectable. A reserved word
reads zero (R339). -/
def nvaRead (a : Nat) (s : State) : Option Word × State :=
  if nvaReserved a then (some 0, s)
  else match (s.pword (nvaKey a)).decode with
    | .clean d => (some d, s)
    | .mended d => (some d, s.addFld NVA_STATUS_CORR 1)
    | .bad =>
      (none, raise 0x3C8 a ((s.addFld NVA_STATUS_UNCORR 1).setFld NVA_STATUS_LAST_UNCORR a))

/-- A write of a word, counted (R338, NVA_WRITES). -/
def nvaStore (a : Nat) (d : Word) (s : State) : State := (s.writeP (nvaKey a) d).addFld NVA_WRITES_COUNT 1

/-- A run of words read one after another: the words, or none at the first uncorrectable one. -/
def nvaReadMany : List Nat → State → Option (List Word) × State
  | [], s => (some [], s)
  | a :: r, s =>
    match nvaRead a s with
    | (none, s) => (none, s)
    | (some v, s) =>
      match nvaReadMany r s with
      | (some l, s) => (some (v :: l), s)
      | (none, s) => (none, s)

/-- Serve a read through NVA_DATA. -/
def nvaServeRead (x : NvaAccess) (s : State) : State :=
  match nvaRead x.addr s with
  | (some v, s) => s.emit (.answer x.ident (v &&& x.half.mask))
  | (none, s) => s.emit (.poisonedAnswer x.ident)

/-- The next requester in round-robin order after the slot served last (R337). -/
def nvaPick (last : Nat) : List NvaAccess → Option NvaAccess
  | [] => none
  | x :: r =>
    match nvaPick last r with
    | none => some x
    | some y => if (y.slot + 127 - last) % 128 < (x.slot + 127 - last) % 128 then some y else some x

/-- Serve waiting reads until a write is in progress at the head, or nothing waits. -/
def nvaDrain : Nat → State → State
  | 0, s => s
  | fuel + 1, s =>
    match nvaPick s.nva.lastSlot s.nva.waiting with
    | none => s
    | some x =>
      let rest := dropFirst x s.nva.waiting
      match x.data with
      | some _ => { s with nva := { s.nva with waiting := x :: rest } }
      | none => nvaDrain fuel (nvaServeRead x { s with nva := { waiting := rest, lastSlot := x.slot } })

/-- The master's NVA_ADDR. -/
def nvaAddr (m : Ident) (s : State) : Nat :=
  match slotOf m with
  | some n => s.mfld NVA_ADDR_ADDR n
  | none => 0

/-- The master's NVA_ADDR steps (R341). -/
def nvaStep (m : Ident) (s : State) : State :=
  match slotOf m with
  | some n => s.setMfld NVA_ADDR_ADDR n (s.mfld NVA_ADDR_ADDR n + 1)
  | none => s

/-- An access joins those that wait; the array takes it at once when none is in progress. -/
def nvaEnqueue (x : NvaAccess) (s : State) : State :=
  let idle := s.nva.waiting.isEmpty
  let s := { s with nva := { s.nva with waiting := s.nva.waiting ++ [x] } }
  if idle then nvaDrain 1 s else s

/-- A write to NVA_DATA (R339, R341). -/
def nvaWriteEffect (m : Ident) (h : Half) (data : Word) (s : State) : State :=
  let a := nvaAddr m s
  if h ≠ .full then violation m .area true (NVA_DATA_WORD.off + h.skip) s
  else if ¬ nvaMayWrite m a s then violation m .area true NVA_DATA_WORD.off s
  else nvaEnqueue (NvaAccess.mk m ((slotOf m).getD 0) a .full (some data)) (nvaStep m s)

/-- A read of NVA_DATA (R341). -/
def nvaReadEffect (m : Ident) (h : Half) (s : State) : State :=
  let a := nvaAddr m s
  let s := if h = .low then s else nvaStep m s
  nvaEnqueue (NvaAccess.mk m ((slotOf m).getD 0) a h none) s

/-- `NVA_DATA_ACCESS` (R341): a write (data given) or a read. -/
def execNvaDataAccess (m : Ident) (h : Half) (data : Option Word) (s : State) : Host.Outcome State Fault Refusal :=
  match data with
  | some v => .next (regWrite .NVA_DATA [] m h (nvaWriteEffect m h v) s)
  | none => .next (readFront m NVA_DATA_WORD.off h (nvaReadEffect m h) s)

/-- The write in progress is stored and its response sent; waiting accesses follow (R338, R341). -/
def nvaDone (s : State) : State :=
  match s.nva.waiting with
  | ⟨m, n, a, _, some v⟩ :: r =>
    let s := { s with nva := { waiting := r, lastSlot := n } }
    nvaDrain (r.length + 1) ((nvaStore a v s).emit (.nvaWritten m a))
  | _ => s

/-- `NVA_WRITE_DONE` (R338, R341). -/
def execNvaWriteDone (s : State) : Host.Outcome State Fault Refusal := .next (nvaDone s)

/-- At most `n` writes end. -/
def nvaDoneAll : Nat → State → State
  | 0, s => s
  | n + 1, s => nvaDoneAll n (nvaDone s)

/-- The hearth controller's turn (R337): its accesses are made after those that wait before it, none while another is in
progress (log entry 206). -/
def nvaTurn (s : State) : State := nvaDoneAll s.nva.waiting.length s

end Sys2Proof.Machine
end

