-- ==== Sys2Proof/Machine/Dram.lean ====
section
/-! DEFINITION. The DRAM controllers (chapter 13): addresses, queues and the order of issue, refresh, row-disturbance
protection, parity alerts, the states of a controller, the board table and the DRAM commands. -/

namespace Sys2Proof.Machine

/-! ### State of a controller -/

/-- The controller states of R493. -/
def drStopped : Nat := 0
def drActive : Nat := 2
def drSelfRefresh : Nat := 3
def drOffline : Nat := 4

/-- A controller's state. -/
def State.drc (s : State) (c : Nat) : Dram := Memory.get (fun _ => Dram.reset) s.dram c

/-- The status register follows the queues (RD_Q, WR_Q). -/
def State.setDrc (s : State) (c : Nat) (d : Dram) : State :=
  (({ s with dram := Memory.set (fun _ => Dram.reset) s.dram c d }).setFld DRC_STATUS_RD_Q d.reads.length c).setFld
    DRC_STATUS_WR_Q d.writes.length c

/-- The state with a controller changed. -/
def State.modDrc (s : State) (c : Nat) (f : Dram → Dram) : State := s.setDrc c (f (s.drc c))

/-- Which state the controller is in. -/
def State.drState (s : State) (c : Nat) : Nat := s.fld DRC_STATUS_STATE c

/-! ### Addresses (R492, R494 to R496) -/

/-- The capacity of a controller in GiB (R492). -/
def State.capacity (s : State) (c : Nat) : Nat :=
  16 * (s.fld DRC_GEOM_RANKS c + 1) * (s.fld DRC_GEOM_ROW_BITS c + 1)

/-- The decode of a DRAM address: controller and local address (R494); none where nothing is mapped. -/
def dramTarget (a : Nat) (s : State) : Option (Nat × Nat) :=
  let cap := s.capacity 0 * 2 ^ 30
  match s.fld DRC_IMAP_MODE with
  | 0 =>
    let c := a / 2 ^ 36 % 4
    if s.fbit DRC_IMAP_MASK c ∧ a % 2 ^ 36 < s.capacity c * 2 ^ 30 then some (c, a % 2 ^ 36) else none
  | 1 => if a < 2 * cap then some (a / 2 ^ 8 % 2, a / 2 ^ 9 * 2 ^ 8 + a % 2 ^ 8) else none
  | 2 => if a < 4 * cap then some (a / 2 ^ 8 % 4, a / 2 ^ 10 * 2 ^ 8 + a % 2 ^ 8) else none
  | _ => none

/-- The controllers that DRC_IMAP maps. -/
def mappedControllers (s : State) : List Nat :=
  match s.fld DRC_IMAP_MODE with
  | 0 => (List.range 4).filter (fun c => s.fbit DRC_IMAP_MASK c)
  | 1 => [0, 1]
  | _ => [0, 1, 2, 3]

/-- DRC_IMAP is locked (R495). -/
def imapLocked (s : State) : Bool :=
  (mappedControllers s).any (fun c => decide (s.drState c = drActive ∨ s.drState c = drSelfRefresh))

/-- A write of DRC_IMAP (R495). -/
def imapEffect (h : Half) (data : Word) (s : State) : State :=
  let mode := bits (s.merged DRC_IMAP_MODE.off h data) 0 2
  let caps := (List.range (2 * mode)).map s.capacity
  if imapLocked s ∨ mode = 3 ∨ caps.any (fun x => decide (x ≠ s.capacity 0)) then s
  else plainWrite (regInfo .DRC_IMAP).fields DRC_IMAP_MODE.off (fun _ => false) h data s

/-- `IMAP_WRITE` (R495). -/
def execImapWrite (m : Ident) (h : Half) (data : Word) (s : State) : Host.Outcome State Fault Refusal :=
  .next (regWrite .DRC_IMAP [] m h (imapEffect h data) s)

/-- The bank of a burst (R496): subchannel + 2 × rank + 4 × (bank group + 8 × bank). -/
def bankOf (s : State) (c burst : Nat) : Nat :=
  burst % 2 + 2 * (if s.on DRC_GEOM_RANKS c then burst / 4096 % 2 else 0) + 4 * (burst / 2 % 8 + 8 * (burst / 16 % 4))

/-- The row of a burst (R496). -/
def rowOf (s : State) (c burst : Nat) : Nat := burst / (if s.on DRC_GEOM_RANKS c then 8192 else 4096)

/-! ### Issuing (R504 to R513) -/

/-- The controller may issue `n` more commands. -/
def dramRoom (c n : Nat) (s : State) : Bool :=
  decide (s.drState c = drActive ∧ s.fld DRC_STATUS_ALERT_STOP c = 0 ∧ (s.drc c).retry.length + n ≤ 64)

/-- A command is issued and enters the retry buffer (R512). -/
def dramSend (c : Nat) (cmd : DramCmd) (s : State) : State :=
  (s.modDrc c (fun d => { d with retry := d.retry ++ [(d.nextId, cmd)], nextId := d.nextId + 1 })).emit (.dramCommand c cmd)

/-- One refresh of every rank after every bank is precharged (R506). -/
def dramRefresh (c : Nat) (s : State) : State :=
  let s := dramSend c .refresh (dramSend c .prechargeAll s)
  let s := s.modDrc c (fun d => { d with rows := [] })
  (s.setFld DRC_STATUS_DEBT (s.fld DRC_STATUS_DEBT c - 1) c).addFld DRC_REF_COUNT_REFRESHES 1 c

/-- Debt above LIMIT issues refreshes ahead of reads and writes (R507). -/
def urgentRefresh (c : Nat) : Nat → State → State
  | 0, s => s
  | n + 1, s =>
    if 4 < s.fld DRC_STATUS_DEBT c ∧ dramRoom c 2 s then
      urgentRefresh c n ((dramRefresh c s).addFld DRC_REF_COUNT_URGENT 1 c)
    else s

/-- Debt is credited (R506, R508, R682). -/
def creditDebt (c : Nat) (v : Nat) (s : State) : State :=
  let v := min v 15
  let s := s.setFld FLT_DRAMc_ACCRUED (s.fld FLT_DRAMc_ACCRUED c + v + (2 ^ 32 - s.fld DRC_STATUS_DEBT c)) c
  (s.setFld DRC_STATUS_DEBT v c).maxFld DRC_REF_COUNT_MAX_DEBT v c

/-- The position of the lowest count in a table (R510). -/
def lowestEntry : List (Nat × Nat) → Nat
  | [] => 0
  | [_] => 0
  | e :: r =>
    let i := lowestEntry r
    if (nth (0, 0) r i).2 < e.2 then i + 1 else 0

/-- A table after an activate of row `r`: the table, the entry's index, and whether an entry was replaced (R510). -/
def tableActivate (t : List (Nat × Nat)) (r : Nat) : List (Nat × Nat) × Nat × Bool :=
  match t.findIdx? (fun e => decide (e.1 = r)) with
  | some i => (modNth t i (fun e => (e.1, min (e.2 + 1) 65535)), i, false)
  | none =>
    if t.length < 16 then (t ++ [(r, 1)], t.length, false)
    else
      let i := lowestEntry t
      (modNth t i (fun e => (r, e.2 + 1)), i, true)

/-- The rows within the distances in force of row `r` (R510). -/
def neighbours (s : State) (c r : Nat) : List Nat :=
  let n := 2 ^ 16 * (s.fld DRC_GEOM_ROW_BITS c + 1)
  let at_ (d : Nat) : List Nat := (if d ≤ r then [r - d] else []) ++ (if r + d < n then [r + d] else [])
  at_ 1 ++ (if s.on DRC_CTL_BLAST c then at_ 2 else [])

/-- The activate of a row for a queued request (R510). -/
def countActivate (c bank r : Nat) (s : State) : State :=
  let th := if s.on DRC_STATUS_FIRST_WINDOW c then s.fld DRC_CTL_THRESH c / 2 else s.fld DRC_CTL_THRESH c
  let (t, i, evict) := tableActivate (Memory.get (fun _ => []) (s.drc c).tables bank) r
  let s := if evict then s.addFld DRC_RD_COUNT_TABLE_EVICT 1 c else s
  let hot := decide (th < (nth (0, 0) t i).2)
  let ns := if hot then neighbours s c r else []
  let t := if hot then modNth t i (fun e => (e.1, 0)) else t
  let s := s.addFld DRC_RD_COUNT_TRR ns.length c
  s.modDrc c (fun d => { d with
    tables := Memory.set (fun _ => []) d.tables bank t, owed := d.owed ++ ns.map (fun n => (bank, n)) })

/-- A bank has an open row. -/
def bankOpen (c bank : Nat) (s : State) : Bool := (s.drc c).rows.any (fun e => decide (e.1 = bank))

/-- Neighbour rows owed are refreshed: an activate and a precharge each (R510). -/
def payNeighbours (c : Nat) : List (Nat × Nat) → State → State
  | [], s => s
  | (bank, row) :: r, s =>
    if dramRoom c (if bankOpen c bank s then 3 else 2) s then
      let s := if bankOpen c bank s then dramSend c (.precharge bank) s else s
      let s := dramSend c (.precharge bank) (dramSend c (.activate bank row) s)
      payNeighbours c r (s.modDrc c (fun d => { d with
        rows := d.rows.filter (fun e => decide (e.1 ≠ bank)), owed := d.owed.tail }))
    else s

/-- What the controller may issue next: a queued burst write, or the read of a burst for a read entry or a merge. -/
inductive DramPick
  | write (burst : Nat)
  | read (burst : Nat) (owner : Option Nat)
  deriving DecidableEq, Repr

/-- The burst of a choice. -/
def DramPick.burst : DramPick → Nat
  | .write b => b
  | .read b _ => b

/-- The burst has a queued write. -/
def Dram.writeOf (d : Dram) (b : Nat) : Option DramBurst := (d.writes.flatMap (·.bursts)).find? (fun x => decide (x.burst = b))

/-- The choices of the highest kind that has any (R503 to R505): writes that a queued read overlaps; reads for merges;
then writes alone while the queue drains; else reads, and writes when the read queue is empty. -/
def dramChoices (draining : Bool) (d : Dram) : List DramPick :=
  let all := d.writes.flatMap (·.bursts)
  let ready := all.filter (fun x => decide (x.phase = 2))
  let forced := ready.filter (fun x => d.reads.any (fun r => r.todo.contains x.burst))
  let merges := all.filter (fun x => decide (x.phase = 0))
  let reads := d.reads.flatMap (fun r => (r.todo.filter (fun b => (d.writeOf b).isNone)).map (fun b => DramPick.read b (some r.serial)))
  let writes := ready.map (fun x => DramPick.write x.burst)
  if ¬ forced.isEmpty then forced.map (fun x => .write x.burst)
  else if ¬ merges.isEmpty then merges.map (fun x => .read x.burst none)
  else if draining then writes
  else if ¬ reads.isEmpty then reads
  else if d.reads.isEmpty then writes else []

/-- PHY cycles since tick 0 (R506): one is 3 root cycles at 6400 MT/s and 4 at 4800 MT/s. -/
def phyCycles (c : Nat) (s : State) : Nat :=
  (s.fld DEVICE_TIME_TIME + s.tck.phase) / (if s.on DRC_GEOM_RATE c then 4 else 3)

/-- The PHY cycle in which the request of a choice came. -/
def DramPick.since (d : Dram) : DramPick → Option Nat
  | .read _ (some n) => (d.reads.find? (fun r => decide (r.serial = n))).map (·.since)
  | p => (d.writes.find? (fun w => w.bursts.any (fun x => decide (x.burst = p.burst)))).map (·.since)

/-- A choice whose request has waited 1,024 PHY cycles (R505). -/
def dramAged (c : Nat) (s : State) (p : DramPick) : Bool :=
  (p.since (s.drc c)).any (fun t => decide (t + 1024 ≤ phyCycles c s))

/-- The choice of a list, oldest first: the oldest once it has waited 1,024 PHY cycles, else the first whose row is open, else
the oldest (R505). -/
def dramPrefer (c : Nat) (s : State) (l : List DramPick) : Option DramPick :=
  if l.head?.any (dramAged c s) then l.head?
  else match l.find? (fun p => (s.drc c).rows.contains (bankOf s c p.burst, rowOf s c p.burst)) with
    | some p => some p
    | none => l.head?

/-- The choice made. -/
def dramPick (c : Nat) (s : State) : Option DramPick :=
  dramPrefer c s (dramChoices (s.on DRC_STATUS_DRAINING c || (s.drc c).stopping.isSome) (s.drc c))

/-- The commands that a choice needs: precharge and activate where its row is not open. -/
def dramNeed (c : Nat) (p : DramPick) (s : State) : Nat :=
  let bank := bankOf s c p.burst
  if (s.drc c).rows.contains (bank, rowOf s c p.burst) then 1 else if bankOpen c bank s then 3 else 2

/-- A column command for a choice whose row is open. -/
def dramColumn (c : Nat) (p : DramPick) (s : State) : State :=
  let d := s.drc c
  match p with
  | .write b =>
    match d.writeOf b with
    | none => s
    | some x =>
      let s := dramSend c (.write b x.data (burstCheck b x.data x.info)) s
      let s := s.modDrc c (fun d => { d with
        writes := (d.writes.map (fun w => { w with bursts := w.bursts.filter (fun y => decide (y.burst ≠ b)) })).filter
          (fun w => !w.bursts.isEmpty) })
      if (s.drc c).writes.length ≤ s.fld DRC_CTL_LWM c then s.setFld DRC_STATUS_DRAINING 0 c else s
  | .read b owner =>
    let s := s.modDrc c (fun d => { d with flights := d.flights ++ [DramFlight.mk d.nextId b owner none] })
    let s := dramSend c (.read b) s
    match owner with
    | some n => s.modDrc c (fun d => { d with
        reads := d.reads.map (fun r => if r.serial = n then { r with todo := dropFirst b r.todo } else r) })
    | none => s.modDrc c (fun d => { d with
        writes := d.writes.map (fun w => { w with
          bursts := w.bursts.map (fun x => if x.burst = b ∧ x.phase = 0 then { x with phase := 1 } else x) }) })

/-- A choice is issued, with the precharge and activate its row needs. -/
def dramIssueOne (c : Nat) (p : DramPick) (s : State) : State :=
  let bank := bankOf s c p.burst
  let row := rowOf s c p.burst
  if (s.drc c).rows.contains (bank, row) then dramColumn c p s
  else
    let s := if bankOpen c bank s then dramSend c (.precharge bank) s else s
    let s := dramSend c (.activate bank row) s
    let s := s.modDrc c (fun d => { d with rows := (bank, row) :: d.rows.filter (fun e => decide (e.1 ≠ bank)) })
    countActivate c bank row (dramColumn c p s)

/-! ### Entering the queues (R502 to R504) -/

/-- A request with its local address, as its controller takes it. -/
def DramReq.job (q : DramReq) (l now : Nat) : DramJob :=
  { src := q.src, tag := q.tag, ident := q.ident, write := q.write, l := l, size := q.size, data := q.data, poison := q.poison
    since := now }

/-- The bursts a request covers. -/
def DramJob.bursts (q : DramJob) : List Nat :=
  (List.range ((q.l + q.size - 1) / 64 + 1 - q.l / 64)).map (fun i => q.l / 64 + i)

/-- What a write gives burst `b`: masks and data of its eight words. -/
def DramJob.maskOf (q : DramJob) (b : Nat) : List Word := (List.range 8).map (fun w => wordMask q.l q.size (8 * b + w))
def DramJob.dataOf (q : DramJob) (b : Nat) : List Word :=
  (List.range 8).map (fun w => if 8 * b + w < q.l / 8 then 0 else nth 0 q.data (8 * b + w - q.l / 8))

/-- Every byte of a burst is named. -/
def wholeBurst (mask : List Word) : Bool := mask.all (fun m => decide (m = 0xFFFFFFFFFFFFFFFF))

/-- Words of `old` with the masked bytes of `new`. -/
def mergeWords (mask new old : List Word) : List Word :=
  (List.range 8).map (fun w => (nth 0 old w &&& ~~~ nth 0 mask w) ||| (nth 0 new w &&& nth 0 mask w))

/-- A response of controller `c` to a request it held. -/
def dramAnswer (c src tag : Nat) (st : Status) (data : List Word) (s : State) : State :=
  answeredAt (dramEndpoint c) (s.emit (.response src tag st data))

/-- A merge ends for the requests that waited for it; a request whose last merge ends is answered (R503). -/
def mergeDone (c : Nat) (ws : List Nat) (bad : Bool) (s : State) : State :=
  let upd := (s.drc c).answers.map (fun a =>
    if ws.contains a.serial then { a with left := a.left - ws.count a.serial, bad := a.bad || bad } else a)
  let s := s.modDrc c (fun d => { d with answers := upd.filter (fun a => decide (a.left ≠ 0)) })
  (upd.filter (fun a => decide (a.left = 0))).foldl
    (fun s a => dramAnswer c a.src a.tag (if a.bad then .errData else .ok) [] s) s

/-- A burst of a write meets a queued write of the same burst (R504): the merged burst, or none where it is refused. -/
def joinBurst (q : DramJob) (serial : Nat) (x : DramBurst) : Option DramBurst :=
  let mask := q.maskOf x.burst
  let whole := wholeBurst mask
  if ¬ whole ∧ x.phase = 2 ∧ infoPoisoned x.info then none
  else
    let mask' := (x.mask.zip mask).map (fun m => m.1 ||| m.2)
    let full := wholeBurst mask'
    some { x with
      mask := mask', data := mergeWords mask (q.dataOf x.burst) x.data
      info := burstInfo (q.poison || (!whole && infoPoisoned x.info)) q.ident
      phase := if full then 2 else x.phase
      waiters := if full then [] else x.waiters ++ [serial] }

/-- One burst of a write enters the write queue: into the queued write of that burst, or into the request's own entry. -/
def enterBurst (c : Nat) (q : DramJob) (serial : Nat) (s : State) (b : Nat) : State :=
  let s := s.modDrc c (fun d => { d with
    scrubs := d.scrubs.filter (fun x => decide (x.1 ≠ b))
    writes := d.writes.filter (fun w => !(w.scrub && w.bursts.any (fun x => decide (x.burst = b)))) })
  let d := s.drc c
  let own (x : DramBurst) : State := s.modDrc c (fun d => { d with
    writes := if d.writes.any (fun w => decide (w.serial = serial)) then
        d.writes.map (fun w => if w.serial = serial then { w with bursts := w.bursts ++ [x] } else w)
      else d.writes ++ [DramWrite.mk serial [x] false q.since] })
  match d.writeOf b with
  | some x =>
    match joinBurst q serial x with
    | none => mergeDone c [serial] true s
    | some y =>
      let s := s.modDrc c (fun d => { d with
        writes := d.writes.map (fun w => { w with bursts := w.bursts.map (fun z => if z.burst = b then y else z) }) })
      if y.waiters.isEmpty then mergeDone c (x.waiters ++ [serial]) false s else s
  | none =>
    let mask := q.maskOf b
    let whole := wholeBurst mask
    let s := own { burst := b, mask := mask, data := q.dataOf b, info := burstInfo q.poison q.ident,
                   phase := if whole then 2 else 0, waiters := if whole then [] else [serial] }
    if whole then mergeDone c [serial] false s else s

/-- A request enters its queue. A write is answered once each of its bursts has entered whole, merged or been refused. -/
def enterQueue (c : Nat) (q : DramJob) (s : State) : State :=
  let n := (s.drc c).serial
  let s := s.modDrc c (fun d => { d with serial := n + 1 })
  let bs := q.bursts
  if q.write then
    let s := s.modDrc c (fun d => { d with answers := d.answers ++ [DramAnswer.mk n q.src q.tag bs.length false] })
    let s := bs.foldl (enterBurst c q n) s
    if s.fld DRC_CTL_HWM c ≤ (s.drc c).writes.length then s.setFld DRC_STATUS_DRAINING 1 c else s
  else
    s.modDrc c (fun d => { d with reads := d.reads ++ [DramRead.mk n q.src q.tag q.l q.size bs bs.length [] false q.since] })

/-- A mended burst as an entry of the write queue (R500). -/
def scrubEntry (serial now : Nat) (x : Nat × List Word × Nat) : DramWrite :=
  { serial := serial, scrub := true, since := now
    bursts := [{ burst := x.1, mask := List.replicate 8 0xFFFFFFFFFFFFFFFF, data := x.2.1, info := x.2.2, phase := 2,
                 waiters := [] }] }

/-- A mended burst enters the write queue while it has room (R500). -/
def admitScrub (c : Nat) (s : State) : State :=
  let d := s.drc c
  match d.scrubs with
  | x :: r =>
    if d.writes.length < 64 then
      s.setDrc c { d with scrubs := r, serial := d.serial + 1, writes := d.writes ++ [scrubEntry d.serial (phyCycles c s) x] }
    else s
  | [] => s

/-- Requests that wait enter, in their order, while their queue has room (R502). -/
def dramAdmit (c : Nat) : Nat → State → State
  | 0, s => s
  | n + 1, s =>
    let s := admitScrub c s
    let d := s.drc c
    match d.waiting with
    | q :: r =>
      if (if q.write then d.writes.length else d.reads.length) < 64 then
        dramAdmit c n (enterQueue c q (s.setDrc c { d with waiting := r }))
      else s
    | [] => s

/-- The controller issues what it can, in the order of R504, R505, R507 and R510. -/
def dramIssue (c : Nat) : Nat → State → State
  | 0, s => s
  | n + 1, s =>
    let s := payNeighbours c (s.drc c).owed (urgentRefresh c 16 (dramAdmit c 256 s))
    match dramPick c s with
    | some p => if (s.drc c).owed.isEmpty ∧ dramRoom c (dramNeed c p s) s then dramIssue c n (dramIssueOne c p s) else s
    | none => s

/-! ### Leaving ACTIVE (R515 to R517) -/

/-- The controller ends a stop: SELF_REFRESH after the debt is paid (R517), or OFFLINE by command (R516). -/
def dramRest (c : Nat) (sr : Bool) (s : State) : State :=
  let debt := s.fld DRC_STATUS_DEBT c
  let s := if sr then (List.range debt).foldl (fun s _ => dramRefresh c s) s else s
  let s := if sr then (s.emit (.dramCommand c .prechargeAll)).emit (.dramCommand c .selfRefresh)
           else s.setFld DRC_OFFLINE_REASON 1 c
  let s := s.modDrc c (fun d => { d with retry := [], flights := [], rows := [], owed := [], stopping := none, openDue := none })
  let s := (s.setFld DRC_STATUS_ALERT_STOP 0 c).setFld DRC_STATUS_DRAINING 0 c
  s.setFld DRC_STATUS_STATE (if sr then drSelfRefresh else drOffline) c

/-- A stop in progress goes on: its damper is SHUT and both queues have drained (R516, R517). -/
def dramAdvance (c : Nat) (s : State) : State :=
  let d := s.drc c
  match d.stopping with
  | none => s
  | some (sr, cmd) =>
    if s.fld NOC_EPe_STATUS_DAMPER (dramEndpoint c) = 2 ∧ d.reads.isEmpty ∧ d.writes.isEmpty ∧ d.scrubs.isEmpty
        ∧ d.waiting.isEmpty ∧ d.flights.isEmpty then
      let s := dramRest c sr s
      match cmd with
      | some p => endCommand p .ok [BitVec.ofNat 64 (s.drState c)] s
      | none => s
    else s

/-- Issue, then see whether a stop can end. -/
def dramRun (c : Nat) (s : State) : State := dramAdvance c (dramIssue c 256 s)

/-- A stop begins: the damper is raised (R484, R517). -/
def dramStop (c : Nat) (sr : Bool) (cmd : Option Packet) (s : State) : State :=
  dramRun c ((raiseEndpoint (dramEndpoint c) s).modDrc c (fun d => { d with stopping := some (sr, cmd), openDue := none }))

/-- A controller in ACTIVE goes into self-refresh as a containment or a power step asks (R517). -/
def dramContain (c : Nat) (s : State) : State :=
  if s.drState c = drActive ∧ (s.drc c).stopping.isNone then dramStop c true none s else s

/-- At a clock trip an ACTIVE controller raises its damper and issues SRE; its queued requests wait (R641). -/
def dramHold (c : Nat) (s : State) : State :=
  if s.drState c = drActive then
    let s := raiseEndpoint (dramEndpoint c) s
    let s := (s.emit (.dramCommand c .prechargeAll)).emit (.dramCommand c .selfRefresh)
    let s := s.modDrc c (fun d => { d with rows := [], resume := true })
    s.setFld DRC_STATUS_STATE drSelfRefresh c
  else s

/-- A request that meets a controller out of ACTIVE is answered FENCED (R493). -/
def dramFenced (c : Nat) (s : State) (q : DramJob) : State :=
  dramAnswer c q.src q.tag .fenced (if q.write then [] else List.replicate (wordsTouched q.l q.size) 0)
    ((s.addFld NOC_COUNTS_FENCED 1).addFld NOC_EPe_STATUS_FENCED 1 (dramEndpoint c))

/-- A controller goes OFFLINE without DRAM_STOP (R515). -/
def dramOffline (c reason : Nat) (s : State) : State :=
  let d := s.drc c
  let s := raiseEndpoint (dramEndpoint c) s
  let lost := (d.writes.filter (fun w => !w.scrub && d.answers.all (fun a => decide (a.serial ≠ w.serial)))).length
  let s := (s.addFld DRC_OFFLINE_LOST_WR lost c).setFld DRC_OFFLINE_REASON reason c
  let s := s.setDrc c { Dram.reset with nextId := d.nextId, serial := d.serial }
  let s := ((s.setFld DRC_STATUS_STATE drOffline c).setFld DRC_STATUS_ALERT_STOP 0 c).setFld DRC_STATUS_DRAINING 0 c
  let s := d.reads.foldl (fun s r => dramAnswer c r.src r.tag .errData (List.replicate (wordsTouched r.l r.size) 0) s) s
  let s := d.answers.foldl (fun s a => dramAnswer c a.src a.tag .errData [] s) s
  let s := d.waiting.foldl (dramFenced c) s
  match d.stopping with
  | some (_, some p) => endCommand p .ok [BitVec.ofNat 64 drOffline] s
  | _ => s

/-! ### Requests and data (R499 to R503) -/

/-- `DRAM_REQUEST` (R494, R502): a request whose address this controller holds enters its queue, or waits; one that meets a
controller out of ACTIVE is answered FENCED (R493). -/
def execDramRequest (c : Fin 4) (req : DramReq) (s : State) : Host.Outcome State Fault Refusal :=
  match dramTarget req.addr s with
  | none => .next s
  | some (n, l) =>
    let q := req.job l (phyCycles c s)
    if n ≠ c.val then .next s
    else if s.drState c = drActive then .next (dramRun c (s.modDrc c (fun d => { d with waiting := d.waiting ++ [q] })))
    else .next (dramFenced c s q)

/-- DRC_ERR_LAST records a burst. -/
def dramRecord (c burst kind writer : Nat) (s : State) : State :=
  (((s.setFld DRC_ERR_LAST_L burst c).setFld DRC_ERR_LAST_KIND kind c).setFld DRC_ERR_LAST_WRITER writer c).setFld
    DRC_ERR_LAST_VALID 1 c

/-- What the decode of a burst records (R500, R501): its data, or none where it is uncorrectable or poisoned. -/
def dramJudge (c burst : Nat) (r : BurstRead) (s : State) : Option (List Word) × State :=
  match r with
  | .uncorrectable =>
    (none, raise (0x340 + c) burst (dramRecord c burst 1 0 (s.addFld DRC_ERR_COUNT_UNCORR 1 c)))
  | .misdirected =>
    (none, raise (0x340 + c) burst (dramRecord c burst 2 0 (s.addFld DRC_ERR_COUNT_MISDIRECT 1 c)))
  | .clean d info =>
    if infoPoisoned info then
      (none, raise (0x340 + c) burst (dramRecord c burst 3 (info / 4) (s.addFld DRC_ERR_COUNT_UNCORR 1 c)))
    else (some d, s)
  | .mended d info =>
    let s := dramRecord c burst 0 (info / 4) (s.addFld DRC_ERR_COUNT_CORR 1 c)
    let s := if s.on DRC_CTL_SCRUB_WB c ∧ ((s.drc c).writeOf burst).isNone then
        s.modDrc c (fun x => { x with scrubs := x.scrubs ++ [(burst, d, info)] })
      else s
    if infoPoisoned info then
      (none, raise (0x340 + c) burst (dramRecord c burst 3 (info / 4) (s.addFld DRC_ERR_COUNT_UNCORR 1 c)))
    else (some d, s)

/-- The words a read request asked for, from the bursts that came; the bytes outside the access are zero (R462). -/
def readWords (r : DramRead) : List Word :=
  (List.range (wordsTouched r.l r.size)).map (fun k =>
    let w := r.l / 8 + k
    nth 0 ((r.got.find? (fun g => decide (g.1 = w / 8))).map (·.2) |>.getD []) (w % 8) &&& wordMask r.l r.size w)

/-- A burst's data reach the read entry that asked for it; the request is answered with its last burst. -/
def readArrives (c n burst : Nat) (v : Option (List Word)) (s : State) : State :=
  match (s.drc c).reads.find? (fun r => decide (r.serial = n)) with
  | none => s
  | some r =>
    let r := { r with left := r.left - 1, got := r.got ++ [(burst, v.getD [])], bad := r.bad || v.isNone }
    if r.left = 0 then
      let s := s.modDrc c (fun d => { d with reads := d.reads.filter (fun x => decide (x.serial ≠ n)) })
      dramAnswer c r.src r.tag (if r.bad then .errData else .ok)
        (if r.bad then List.replicate (wordsTouched r.l r.size) 0 else readWords r) s
    else s.modDrc c (fun d => { d with reads := d.reads.map (fun x => if x.serial = n then r else x) })

/-- A burst's data reach the merge that asked for it (R503, R437): the merged burst is ready, or the merge is refused. -/
def mergeArrives (c burst : Nat) (v : Option (List Word)) (s : State) : State :=
  match (s.drc c).writeOf burst with
  | none => s
  | some x =>
    if x.phase ≠ 1 then s
    else
      let f (w : DramWrite) : DramWrite := { w with
        bursts := match v with
          | some old => w.bursts.map (fun y => if y.burst = burst then
              { y with phase := 2, waiters := [], data := mergeWords y.mask y.data old,
                       mask := List.replicate 8 0xFFFFFFFFFFFFFFFF } else y)
          | none => w.bursts.filter (fun y => decide (y.burst ≠ burst)) }
      let s := s.modDrc c (fun d => { d with
        writes := (d.writes.map f).filter (fun w => !w.bursts.isEmpty)
        scrubs := d.scrubs.filter (fun y => decide (y.1 ≠ burst ∨ v.isNone)) })
      mergeDone c x.waiters v.isNone s

/-- A flight whose data have come and whose command has left the retry buffer is decoded and delivered (R499, R513). -/
def dramDeliver (c : Nat) (f : DramFlight) (d : List Word) (check : BitVec 128) (s : State) : State :=
  let s := s.modDrc c (fun x => { x with flights := x.flights.filter (fun y => decide (y.id ≠ f.id)) })
  let (v, s) := dramJudge c f.burst (burstDecode f.burst d check) s
  match f.owner with
  | some n => readArrives c n f.burst v s
  | none => mergeArrives c f.burst v s

/-- Flights that can be delivered are, in the order of their issue. -/
def dramLand (c : Nat) (s : State) : State :=
  let d := s.drc c
  d.flights.foldl (fun s f =>
    match f.data with
    | some v => if d.retry.any (fun e => decide (e.1 = f.id)) then s else dramDeliver c f v.1 v.2 s
    | none => s) s

/-- The first flight of a burst that has no data takes them. -/
def giveData (burst : Nat) (v : List Word × BitVec 128) : List DramFlight → List DramFlight
  | [] => []
  | f :: r => if f.burst = burst ∧ f.data = none then { f with data := some v } :: r else f :: giveData burst v r

/-- `DRAM_READ_DATA` (R499). -/
def execDramReadData (c : Fin 4) (burst : Nat) (data : List Word) (check : BitVec 128) (s : State) :
    Host.Outcome State Fault Refusal :=
  .next (dramRun c (dramLand c (s.modDrc c (fun d => { d with flights := giveData burst (data, check) d.flights }))))

/-! ### Refresh (R506 to R509, R511) -/

/-- `REFRESH_ACCRUE` (R506). -/
def execRefreshAccrue (c : Fin 4) (s : State) : Host.Outcome State Fault Refusal :=
  if s.drState c = drActive then
    .next (urgentRefresh c 16 (creditDebt c (s.fld DRC_STATUS_DEBT c + 1) s))
  else .next s

/-- `REFRESH_SLOT` (R507). -/
def execRefreshSlot (c : Fin 4) (s : State) : Host.Outcome State Fault Refusal :=
  let debt := s.fld DRC_STATUS_DEBT c
  if dramRoom c 2 s ∧ 1 ≤ debt ∧ ((s.drc c).reads.isEmpty ∨ min (s.fld DRC_CTL_POSTPONE c) 4 < debt) then
    .next (dramRun c (dramRefresh c s))
  else .next s

/-- The doubled-refresh mode changes (R508); the debt is doubled together with its fraction of an interval. -/
def setHot (c : Nat) (hot : Bool) (s : State) : State :=
  let debt := s.fld DRC_STATUS_DEBT c
  let i := s.fld DRC_TIM2_TREFI c
  let s' := s.setFld DRC_STATUS_HOT (bnat hot) c
  if hot = s.on DRC_STATUS_HOT c then s
  else if hot then
    urgentRefresh c 32 (creditDebt c (2 * debt + bnat (decide (i ≤ 2 * (phyCycles c s % i)))) s')
  else creditDebt c ((debt + 1) / 2) s'

/-- `MR4_POLL` (R508): the range each rank reports (0 below, 1 doubled refresh, 2 above it), and whether a device reports
that it needs RFM (R511). -/
def execMr4Poll (c : Fin 4) (ranges : List Nat) (rfm : Bool) (s : State) : Host.Outcome State Fault Refusal :=
  if s.drState c ≠ drActive then .next s
  else
    let s := s.setFld DRC_STATUS_RFM_REQ (bnat rfm) c
    let s := setHot c (ranges.any (fun r => decide (1 ≤ r))) s
    .next (dramRun c ((ranges.zipIdx.filter (fun r => decide (2 ≤ r.1))).foldl (fun s r => raise (0x344 + c) r.2 s) s))

/-- `REFRESH_WINDOW_END` (R509, R510). -/
def execRefreshWindowEnd (c : Fin 4) (s : State) : Host.Outcome State Fault Refusal :=
  .next ((s.modDrc c (fun d => { d with tables := [] })).setFld DRC_STATUS_FIRST_WINDOW 0 c)

/-! ### Parity alerts (R512 to R514) -/

/-- `ALERT_ASSERT` (R513, R514). -/
def execAlertAssert (c : Fin 4) (s : State) : Host.Outcome State Fault Refusal :=
  let d := s.drc c
  if s.drState c ≠ drActive ∨ s.on DRC_STATUS_ALERT_STOP c then .next s
  else
    let oldest := d.retry.head?.map (·.1)
    let failed := if oldest.isSome ∧ d.lastAlert = oldest then d.failed + 1 else 0
    let s := (s.setFld DRC_STATUS_ALERT_STOP 1 c).addFld DRC_ALERT_COUNT_ALERTS 1 c
    let s := s.setDrc c { d with
      lastAlert := oldest, failed := failed
      flights := d.flights.map (fun f => if d.retry.any (fun e => decide (e.1 = f.id)) then { f with data := none } else f) }
    if 3 ≤ failed then .next (dramOffline c 2 (raise (0x348 + c) (s.fld DRC_ALERT_COUNT_REPLAYS c) s)) else .next s

/-- `ALERT_REPLAY` (R513): every entry of the retry buffer is issued again, oldest first. -/
def execAlertReplay (c : Fin 4) (s : State) : Host.Outcome State Fault Refusal :=
  if s.on DRC_STATUS_ALERT_STOP c ∧ s.drState c = drActive then
    let s := (s.drc c).retry.foldl (fun s e => s.emit (.dramCommand c e.2)) s
    .next (dramRun c ((s.addFld DRC_ALERT_COUNT_REPLAYS 1 c).setFld DRC_STATUS_ALERT_STOP 0 c))
  else .next s

/-- `RETRY_BUFFER_RELEASE` (R512): the oldest command leaves the buffer. -/
def execRetryBufferRelease (c : Fin 4) (s : State) : Host.Outcome State Fault Refusal :=
  if s.on DRC_STATUS_ALERT_STOP c then .next s
  else .next (dramRun c (dramLand c (s.modDrc c (fun d => { d with retry := d.retry.tail }))))

/-! ### Starting (R511, R518, R520) -/

/-- The controller enters ACTIVE with empty tables; its damper opens at the next boundary (R493, R511). -/
def dramActivate (c : Nat) (s : State) : State :=
  let s := s.modDrc c (fun d => { d with tables := [], openDue := if d.stopping.isSome then none else some s.nextDue, resume := false, lastAlert := none, failed := 0 })
  (s.setFld DRC_STATUS_FIRST_WINDOW 1 c).setFld DRC_STATUS_STATE drActive c

/-- The exit from self-refresh (R518). -/
def dramWake (c : Nat) (s : State) : State :=
  let s := (s.emit (.dramCommand c .wake)).emit (.dramCommand c .refresh)
  let s := creditDebt c 0 (s.addFld DRC_REF_COUNT_REFRESHES 1 c)
  let s := s.setFld FLT_DRAMc_ACCRUED (s.fld FLT_DRAMc_ACCRUED c + 1) c
  dramRun c (dramActivate c s)

/-- Initialisation from STOPPED or OFFLINE: ACTIVE, or OFFLINE with REASON 3 (R520). -/
def dramInit (c : Nat) (good : Bool) (s : State) : State :=
  let s := creditDebt c 0 s
  if good then dramActivate c ((s.setFld DRC_STATUS_HOT 0 c).setFld DRC_STATUS_RFM_REQ 0 c) else dramOffline c 3 s

/-- A damper that waits for its boundary opens (R43, R485, R493). -/
def dramAtBoundary (c : Nat) (s : State) : State :=
  match (s.drc c).openDue with
  | some b =>
    if b ≤ s.tck.ticks then
      let s := s.modDrc c (fun d => { d with openDue := none })
      if s.drState c = drActive then openEndpoint (dramEndpoint c) s else s
    else s
  | none => s

/-! ### The board table (R519, R521, R522) -/

/-- CAP_GIB follows the geometry (R492). -/
def syncCapacity (c : Nat) (s : State) : State := s.setFld DRC_GEOM_CAP_GIB (s.capacity c) c

/-- The registers of a controller's section, in the order of its words 0 to 226. -/
def sectionRegs (c : Nat) : List (RegName × List Nat) :=
  [(.DRC_GEOM, [c]), (.DRC_TIM0, [c]), (.DRC_TIM1, [c]), (.DRC_TIM2, [c]), (.DRC_ALERT, [c]), (.DRC_CTL, [c]),
   (.DRC_TERM, [c])]
  ++ (List.range 160).map (fun k => (RegName.DRC_DQs_k_l, [c, k / 40, k % 40]))
  ++ (List.range 40).map (fun k => (RegName.DRC_DQSs_k_m, [c, k / 10, k % 10]))
  ++ (List.range 20).map (fun k => (RegName.DRC_CAs_l, [c, k / 10, k % 10]))

/-- A DRC_CTL value that a write may store. -/
def drcCtlGood (v : Word) : Bool := decide (bits v 16 7 < bits v 8 7 ∧ bits v 8 7 ≤ 64)

/-- The delay, timing and geometry registers are locked except in STOPPED and OFFLINE (R519). -/
def drcLocked (c : Nat) (s : State) : Bool := decide (s.drState c ≠ drStopped ∧ s.drState c ≠ drOffline)

/-- An image is written into a register. -/
def putSection (s : State) (x : (RegName × List Nat) × Word) : State :=
  let k := x.1.1.off x.1.2
  if x.1.1 = .DRC_CTL ∧ ¬ drcCtlGood x.2 then s
  else s.setReg k (writeFields (fun _ => false) (s.reg k) x.2 0xFFFFFFFFFFFFFFFF (regInfo x.1.1).fields)

/-- A CRC word over words. -/
def crcWord (ws : List Word) : Word := (crc32cWords ws).setWidth 64

/-- The first word of a copy of the board table. -/
def boardBase (copy : Nat) : Nat := if copy = 0 then 0x1A000 else 0x1A800

/-- A stored word of the array without counting. -/
def boardWord (copy k : Nat) (s : State) : Option Word := (s.pword (nvaKey (boardBase copy + k))).value?

/-- Words of a copy. -/
def boardWords (copy first n : Nat) (s : State) : Option (List Word) := (List.range n).mapM (fun k => boardWord copy (first + k) s)

/-- A run of words ends with the CRC over those before it. -/
def crcGood (l : List Word) : Bool := decide (l.getLast? = some (crcWord l.dropLast))

/-- The header of a valid copy (R522). -/
def boardHeader (copy : Nat) (s : State) : Option (List Word) :=
  match boardWords copy 0 16 s with
  | none => none
  | some h =>
    let named := (List.range 4).filter (fun c => bit (nth 0 h 1) (16 + c))
    if nth 0 h 0 = 0x42445244 ∧ crcGood h ∧
        named.all (fun c => match boardWords copy (16 + 256 * c) 256 s with | some l => crcGood l | none => false) then some h
    else none

/-- The copy in use with its header: the valid one with the greater SEQ. -/
def boardCopy (s : State) : Option (Nat × List Word) :=
  match boardHeader 0 s, boardHeader 1 s with
  | some a, some b => if (nth 0 a 2).toNat < (nth 0 b 2).toNat then some (1, b) else some (0, a)
  | some a, none => some (0, a)
  | none, some b => some (1, b)
  | none, none => none

/-- The controllers that the table in use names. -/
def boardNamed (s : State) : List Nat :=
  match boardCopy s with
  | some (_, h) => (List.range 4).filter (fun c => bit (nth 0 h 1) (16 + c))
  | none => []

/-- One controller's section is loaded and the controller started (R521). -/
def boardStart (copy : Nat) (good : List Bool) (s : State) (c : Nat) : State :=
  match boardWords copy (16 + 256 * c) 227 s with
  | some l => dramInit c (nth false good c) (syncCapacity c (((sectionRegs c).zip l).foldl putSection s))
  | none => s

/-- The board table is read in phase P3 (R521); `good` says of each controller whether its start passes. -/
def boardLoad (good : List Bool) (s : State) : State :=
  match boardCopy s with
  | none => s
  | some (copy, h) =>
    let s := putSection s ((.DRC_IMAP, []), nth 0 h 3)
    ((List.range 4).filter (fun c => bit (nth 0 h 1) (16 + c))).foldl (boardStart copy good) s

/-! ### The DRAM commands (R524, R525) -/

/-- Another DRAM command runs on the controller. -/
def dramBusy (c : Nat) (s : State) : Bool :=
  match (s.drc c).stopping with
  | some (_, some _) => true
  | _ => false

/-- The controller a command names. -/
def drc (p : Packet) : Nat := bits (p.w 1) 0 2

/-- The work of DRAM_START. -/
def dramStartWork (p : Packet) (good : Bool) (s : State) : State :=
  let c := drc p
  let st := s.drState c
  if s.banked then endCommand p .invalid [] s
  else if dramBusy c s then endCommand p .busy [] s
  else if st = drSelfRefresh then
    let s := dramWake c s
    endCommand p .ok [BitVec.ofNat 64 (s.drState c)] s
  else if st = drStopped ∨ st = drOffline then
    let s := dramInit c good s
    endCommand p (if good then .ok else .failed) (if good then [BitVec.ofNat 64 (s.drState c)] else []) s
  else endCommand p .invalid [] s

/-- `DRAM_START` (R518, R520); `good`: initialisation from STOPPED or OFFLINE passes. -/
def execDramStart (p : Packet) (good : Bool) (s : State) : Host.Outcome State Fault Refusal :=
  .next (runCommand 0x0501 1 .owner p (dramStartWork p good) s)

/-- The work of DRAM_STOP. -/
def dramStopWork (p : Packet) (s : State) : State :=
  let c := drc p
  if s.banked then endCommand p .invalid [] s
  else if dramBusy c s then endCommand p .busy [] s
  else if s.drState c = drActive then dramStop c (bit (p.w 2) 0) (some p) s
  else endCommand p .invalid [] s

/-- `DRAM_STOP` (R516, R517). -/
def execDramStop (p : Packet) (s : State) : Host.Outcome State Fault Refusal :=
  .next (runCommand 0x0502 2 .owner p (dramStopWork p) s)

/-- The lanes that a delay class has (R519, R526). -/
def classLanes : Nat → List Nat
  | 0 => List.range 40
  | 1 => List.range 40
  | 2 => List.range 40
  | 3 => List.range 10
  | 4 => List.range 10
  | 5 => List.range 8
  | 6 => [8, 9]
  | _ => []

/-- A lane's code of a class is set; `i` is 2 × subchannel + rank. -/
def setDelay (c cls i lane v : Nat) (s : State) : State :=
  match cls with
  | 0 => s.setFld DRC_DQs_k_l_WR_DLY v c i lane
  | 1 => s.setFld DRC_DQs_k_l_RD_DLY v c i lane
  | 2 => s.setFld DRC_DQs_k_l_RD_VREF v c i lane
  | 3 => s.setFld DRC_DQSs_k_m_WR_DQS v c i lane
  | 4 => s.setFld DRC_DQSs_k_m_RD_GATE v c i lane
  | _ => s.setFld DRC_CAs_l_DLY v c (i / 2) lane

/-- The reply word of a lane. -/
def laneWord : Option (Nat × Nat) → Word
  | some (a, b) => mkWord [(0, 12, a), (16, 12, b), (28, 1, 1)]
  | none => 0

/-- What a lane showed at the `i`th code: bits or commands that passed and failed. -/
def SweepResult.at (f : SweepResult) (i k : Nat) : Nat × Nat := nth (0, 1) (nth [] f.codes i) k

/-- The first and the last of `n` codes at which the `k`th lane passed (R523). -/
def SweepResult.window (f : SweepResult) (first step n k : Nat) : Option (Nat × Nat) :=
  let good := (List.range n).filter (fun i => decide ((f.at i k).2 = 0))
  match good.head?, good.getLast? with
  | some a, some b => some (first + step * a, first + step * b)
  | _, _ => none

/-- The work of DELAY_SWEEP. -/
def delaySweepWork (p : Packet) (found : SweepResult) (s : State) : State :=
  let c := drc p
  let cls := bits (p.w 1) 2 3
  let i := 2 * bits (p.w 1) 5 1 + bits (p.w 1) 6 1
  let lanes := (classLanes cls).filter (fun l => bit (p.w 2) l)
  let first := bits (p.w 3) 0 12
  let last := bits (p.w 3) 16 12
  let step := bits (p.w 3) 32 12
  if s.banked then endCommand p .invalid [] s
  else if dramBusy c s then endCommand p .busy [] s
  else if drcLocked c s ∨ lanes.isEmpty ∨ 8 < lanes.length ∨ last < first ∨ step = 0 then endCommand p .invalid [] s
  else
    let n := (last - first) / step + 1
    let ends := (List.range lanes.length).map (found.at (n - 1))
    let s := (s.setFld DRC_SWEEP_PASS (ends.map Prod.fst).sum c).setFld DRC_SWEEP_FAIL (ends.map Prod.snd).sum c
    let res := lanes.zipIdx.map (fun l => (l.1, found.window first step n l.2))
    let s := if bit (p.w 1) 7 then
        res.foldl (fun s r => match r.2 with | some (a, b) => setDelay c cls i r.1 ((a + b) / 2) s | none => s) s
      else s
    endCommand p .ok (res.map (fun r => laneWord r.2)) s

/-- `DELAY_SWEEP` (R523, R525). -/
def execDelaySweep (p : Packet) (found : SweepResult) (s : State) : Host.Outcome State Fault Refusal :=
  .next (runCommand 0x0503 4 .owner p (delaySweepWork p found) s)

/-- A section as DRAM_TABLE_SAVE writes it: the registers' images, zeros and the CRC. -/
def sectionWords (c : Nat) (s : State) : List Word :=
  let l := (sectionRegs c).map (fun r => s.reg (r.1.off r.2)) ++ List.replicate 28 0
  l ++ [crcWord l]

/-- The words DRAM_TABLE_SAVE writes (R525): the older or invalid copy's number, and its words with their places. -/
def tableSaved (mask : Nat) (s : State) : Nat × List (Nat × Word) :=
  let newer := boardCopy s
  let old := boardNamed s
  let (copy, from_, seq, imap) := match newer with
    | some (n, h) => (1 - n, n, (nth 0 h 2) + 1, nth 0 h 3)
    | none => (0, 0, 1, s.reg DRC_IMAP_MODE.off)
  let sec (c : Nat) : List Word :=
    if mask.testBit c then sectionWords c s
    else if old.contains c then (boardWords from_ (16 + 256 * c) 256 s).getD [] else []
  let named := (List.range 4).filter (fun c => mask.testBit c || old.contains c)
  let head := [0x42445244, mkWord [(0, 16, 1), (16, 4, maskOf named)], seq, imap] ++ List.replicate 11 0
  let place (first : Nat) (l : List Word) : List (Nat × Word) := l.zipIdx.map (fun w => (first + w.2, w.1))
  (copy, named.flatMap (fun c => place (16 + 256 * c) (sec c)) ++ place 0 (head ++ [crcWord head]))

/-- The work of DRAM_TABLE_SAVE (R525). -/
def tableSaveWork (p : Packet) (verified : Bool) (s : State) : State :=
  if s.banked then endCommand p .invalid [] s
  else
    let s := nvaTurn s
    let t := tableSaved (bits (p.w 1) 0 4) s
    let s := t.2.foldl (fun s w => nvaStore (boardBase t.1 + w.1) w.2 s) s
    if verified then endCommand p .ok [BitVec.ofNat 64 t.1] s else endCommand p .errData [] s

/-- `DRAM_TABLE_SAVE` (R525); `verified`: every write verifies. -/
def execDramTableSave (p : Packet) (verified : Bool) (s : State) : Host.Outcome State Fault Refusal :=
  .next (runCommand 0x0504 1 .owner p (tableSaveWork p verified) s)

end Sys2Proof.Machine
end

