-- ==== Sys2Proof/Machine/Ember.lean ====
section
/-! DEFINITION. EMBER, the signal by which the line's safety controller knows that the device is alive, with the heartbeat
and the tick watch (R686 to R689, R736). -/

namespace Sys2Proof.Machine

/-- The conditions of R687. -/
def State.emberMay (s : State) : Bool :=
  decide (s.pwr.phase = .up) && s.pwr.pwrOk && !s.pwr.frozen && !s.on FLT_STATUS_HALTED && !s.on FLT_STATUS_HB_LOST
    && !s.on FLT_STATUS_TICK_LOST && !s.on FLT_EMBER_STOP && decide (s.fld PWR_STATUS_STATE ≠ 3)

/-- The half-period in root cycles for a frequency (R686), to the nearest cycle. -/
def emberHalf (hz : Nat) : Nat := (2 * 4800000000 + hz) / (2 * hz)

/-- EMBER takes a level. -/
def setEmber (v : Bool) (s : State) : State :=
  if s.on FLT_STATUS_EMBER = v then s else (s.setFld FLT_STATUS_EMBER (bnat v)).emit (.ember v)

/-- EMBER after a change of what it depends on (R687): it stops low, or waits for its first rising edge. While it does not
run, a frequency takes effect at once (R736). -/
def emberCheck (s : State) : State :=
  if s.emberMay then
    if s.on FLT_STATUS_EMBER_RUN then s
    else
      { s.setFld FLT_STATUS_EMBER_RUN 1 with flt := { s.flt with
        emberH := emberHalf (s.fld FLT_EMBER_FREQ_HZ), emberHold := none, emberNext := none
        emberWait := some (s.fld DEVICE_TIME_TIME / emberHalf (s.fld FLT_EMBER_FREQ_HZ)) } }
  else
    let s := { s with flt := { s.flt with
      emberH := emberHalf (s.fld FLT_EMBER_FREQ_HZ), emberNext := none, emberHold := none, emberWait := none } }
    setEmber false (s.setFld FLT_STATUS_EMBER_RUN 0)

/-- `EMBER_EDGE` (R686, R687, R736): floor(DEVICE_TIME ÷ H) has changed. The first edge after a resume is in a later half-period
than the resume, and the level of a frequency change's edge is held for at least the new H. -/
def execEmberEdge (s : State) : Host.Outcome State Fault Refusal :=
  let s := emberCheck s
  if ¬ s.on FLT_STATUS_EMBER_RUN then .next s
  else
    let now := s.fld DEVICE_TIME_TIME
    let half := now / s.flt.emberH
    let odd := decide (half % 2 = 1)
    if odd = s.on FLT_STATUS_EMBER ∨ s.flt.emberWait = some half ∨ s.flt.emberHold.any (fun t0 => decide (now < t0 + s.flt.emberH)) then
      .next s
    else
      let s := setEmber odd { s with flt := { s.flt with emberWait := none, emberHold := none } }
      match s.flt.emberNext with
      | some h => .next { s with flt := { s.flt with emberH := h, emberNext := none, emberHold := some now } }
      | none => .next s

/-- The effect of a write to FLT_EMBER (R686 to R688): a FREQ_HZ or HB_TIMEOUT out of range makes it ignored as a whole. -/
def emberEffect (h : Half) (data : Word) (s : State) : State :=
  let hz := wfield h data FLT_EMBER_FREQ_HZ
  if hz.any (fun v => decide (v < 250 ∨ 16000 < v)) ∨ (wfield h data FLT_EMBER_HB_TIMEOUT).any (fun v => decide (v < 200)) then s
  else
    let s := plainWrite (regInfo .FLT_EMBER).fields FLT_EMBER_FREQ_HZ.off (fun _ => false) h data s
    let s := match hz with
      | none => s
      | some v => { s with flt := { s.flt with emberNext := some (emberHalf v) } }
    emberCheck s

/-- `EMBER_FREQ_WRITE` (R736). -/
def execEmberFreqWrite (m : Ident) (h : Half) (data : Word) (s : State) : Host.Outcome State Fault Refusal :=
  .next (regWrite .FLT_EMBER [] m h (emberEffect h data) s)

/-- `HEARTBEAT` (R688): the hearth firmware increments HEARTBEATS, and HB_LOST clears. -/
def execHeartbeat (s : State) : Host.Outcome State Fault Refusal :=
  .next (emberCheck ((s.addFld HC_STATUS_HEARTBEATS 1).setFld FLT_STATUS_HB_LOST 0))

/-- The watches of the always-on domain have a device to watch: its power is on (R621, R646). -/
def State.watched (s : State) : Bool := s.pwr.pwrOk && decide (s.fld PWR_STATUS_STATE ≠ 3)

/-- `HB_LOST` (R688): no increment has reached the always-on domain for HB_TIMEOUT of its periods. -/
def execHbLost (s : State) : Host.Outcome State Fault Refusal :=
  if s.on FLT_STATUS_HB_LOST ∨ ¬ s.watched then .next s
  else .next (emberCheck (raise 0x001 (s.fld HC_STATUS_HEARTBEATS) (s.setFld FLT_STATUS_HB_LOST 1)))

/-- `TICK_LOST` (R689): the always-on domain has counted L of its periods without a tick pulse. -/
def execTickLost (s : State) : Host.Outcome State Fault Refusal :=
  if s.on FLT_STATUS_TICK_LOST ∨ ¬ s.watched then .next s
  else .next (emberCheck (raise 0x002 (s.fld TCK_COUNT_COUNT) (s.setFld FLT_STATUS_TICK_LOST 1)))

/-- The limit L of the tick watch in always-on periods, for a tick of `n` epochs (R689): ceil(2 × 1.031 × T ÷ 1 µs) + 1. -/
def tickWatchLimit (n : Nat) : Nat := (2 * 1031 * 15 * n + 999999) / 1000000 + 1

/-- The limit L in force (R689): of the current tick length, or the larger of old and new while a period change is pending. -/
def State.watchLimit (s : State) : Nat :=
  tickWatchLimit (if s.on TCK_PERIOD_NEXT_PENDING then max s.curN (s.fld TCK_PERIOD_NEXT_NEXT_N) else s.curN)

end Sys2Proof.Machine
end

