-- ==== Sys2Proof/Machine/Sge.lean ====
section
/-! DEFINITION. The signal engines (chapter 07): jobs, states, traps, the limit, the DMA, the memory port, and the issue of
one instruction. -/

namespace Sys2Proof.Machine

/-! ### States and jobs (R289 to R294) -/

/-- The engine has halted (R297). -/
def State.engHalted (s : State) (e : Nat) : Bool := s.on SGE_TRAP_HALTED e

/-- The clock of a gate's block runs: the gate is open or closing (R637), and no trip has stopped it (R641). -/
def State.gateClock (s : State) (b : Nat) : Bool :=
  s.gateOpen b || (bit (s.reg CLK_GATE_CLOSING_CLOSING.off) b && !s.pwr.stopped)

/-- The engine's clock runs. -/
def State.engClock (s : State) (e : Nat) : Bool := s.gateClock (32 + e)

/-- A job is in hand. -/
def Sge.busy (x : Sge) : Bool := x.jobRunning || x.frameRunning

/-- SGE_STATUS.STATE (R294). -/
def State.engState (s : State) (e : Nat) : Nat :=
  if s.engHalted e then 3 else if (s.eng e).busy then 2 else if s.on SGE_CTL_RUN e then 1 else 0

/-- SGE_STATUS and SGE_FRAME_STATUS follow the engine. -/
def syncEngine (e : Nat) (s : State) : State :=
  let x := s.eng e
  let s := s.setFld SGE_STATUS_STATE (s.engState e) e
  let s := s.setFld SGE_STATUS_BANK (bnat x.frameRunning) e
  let s := s.setFld SGE_STATUS_QUEUED x.queue.length e
  let s := s.setFld SGE_STATUS_DMA_BUSY (bnat x.dma.isSome) e
  let s := s.setFld SGE_STATUS_SUSPENDED (bnat (x.jobRunning && x.frameRunning)) e
  s.setFld SGE_FRAME_STATUS_RUNNING (bnat x.frameRunning) e

/-- Count engine cycles, and those of an action job that issues (R291, SGE_CYCLES). -/
def countCycles (e n : Nat) (s : State) : State :=
  let s := s.addFld SGE_CYCLES_BUSY n e
  s.modEng e (fun x => if x.frameRunning then x else { x with used := x.used + n })

/-- Answer an action and count it. -/
def answerJob (e : Nat) (a : Action) (st : Status) (value : Nat) (s : State) : State :=
  let s := answeredAt (sgeEndpoint (e / 8)) (s.emit (.result a.src (128 + e) a.tag st value))
  let s := s.addFld SGE_COUNT_JOBS_ACTIONS 1 e
  if st = .ok then s else s.addFld SGE_COUNT_ERR_ACTION_ERR 1 e

/-- The fields of an action's W1 that a SIGNAL_JOB uses (R77, R88): POINTER, CH_A, CH_B, PARAM. -/
def jobPointer (a : Action) : Nat := bits a.w1 40 24
def jobChA (a : Action) : Nat := bits a.w1 0 11
def jobChB (a : Action) : Nat := bits a.w1 11 11
def jobParam (a : Action) : Nat := bits a.w1 28 12

/-- The action bank as a job finds it (R289). -/
def SgeBank.startJob (b : SgeBank) (a : Action) : SgeBank :=
  { ((((b.putD 0 (BitVec.ofNat 24 (jobParam a))).putD 1 (BitVec.ofNat 24 (jobChA a))).putD 2
      (BitVec.ofNat 24 (jobChB a))).putD 3 (BitVec.ofNat 24 a.vtick)).putD 4 (BitVec.ofNat 24 a.dom) with
    pc := jobPointer a / 32 % 8192, loaded := [], acWritten := [] }

/-- Start the oldest queued action when the engine is free for it: 3 start cycles (R289). -/
def startNext (e : Nat) (s : State) : State :=
  let x := s.eng e
  match x.queue with
  | a :: _ =>
    if x.busy ∨ s.engHalted e ∨ ¬ s.on SGE_CTL_RUN e then s
    else
      let s := s.modEng e (fun x => { x with action := x.action.startJob a, jobRunning := true, used := 0 })
      s.addFld SGE_CYCLES_BUSY 3 e
  | [] => s

/-- The running action job ends with an answer; the next queued action starts (R290). -/
def endAction (e : Nat) (st : Status) (value : Nat) (s : State) : State :=
  match (s.eng e).queue with
  | a :: r =>
    startNext e (answerJob e a st value (s.modEng e (fun x => { x with queue := r, jobRunning := false })))
  | [] => s

/-- Actions that are queued and not running are answered FENCED (R294). -/
def fenceQueued (e : Nat) (s : State) : State :=
  let x := s.eng e
  let keep := if x.jobRunning then 1 else 0
  let s := s.modEng e (fun x => { x with queue := x.queue.take keep })
  (x.queue.drop keep).foldl (fun s a => answerJob e a .fenced 0 s) s

/-- Start a frame job in the frame bank: 3 start cycles (R292). A switch of bank invalidates the repeat cache. -/
def startFrame (e : Nat) (s : State) : State :=
  let entry := s.fld SGE_FRAME_ENTRY e
  let s := s.modEng e (fun x => { x with
    frame := { x.frame with pc := entry, loaded := [], acWritten := [] }
    action := { x.action with loaded := [], acWritten := [] }
    frameRunning := true
    cache := if x.frameRunning then x.cache else none })
  s.addFld SGE_CYCLES_BUSY 3 e

/-- The tick pulse of a frame job is noted (R293). -/
def notePulse (e : Nat) (s : State) : State := s.modEng e (fun x => { x with pulses := x.pulses ++ [s.fld SGE_CYCLES_BUSY e] })

/-- The running frame job ends (R292, R293): MAX_CYCLES takes its cycles from its tick pulse on. A suspended action job
resumes 3 cycles later. -/
def endFrame (e : Nat) (err : Bool) (s : State) : State :=
  let s := s.addFld SGE_COUNT_JOBS_FRAMES 1 e
  let s := if err then s.addFld SGE_COUNT_ERR_FRAME_ERR 1 e else s
  let s := s.maxFld SGE_FRAME_STATUS_MAX_CYCLES (s.fld SGE_CYCLES_BUSY e - (s.eng e).pulses.headD 0) e
  let s := s.modEng e (fun x => { x with pulses := x.pulses.tail })
  if s.on SGE_FRAME_STATUS_BACKLOG e ∧ s.on SGE_CTL_RUN e then
    startFrame e (s.setFld SGE_FRAME_STATUS_BACKLOG (s.fld SGE_FRAME_STATUS_BACKLOG e - 1) e)
  else
    let s := if (s.eng e).jobRunning then s.addFld SGE_CYCLES_BUSY 3 e else s
    startNext e (s.modEng e (fun x => { x with frameRunning := false, cache := none }))

/-- The gate would be open but for a trip (R641). -/
def State.gateBehind (s : State) (b : Nat) : Bool := ({ s with pwr := { s.pwr with stopped := false } } : State).gateOpen b

/-- A frame job that missed its tick while a trip had stopped the engine starts (R36, R293). -/
def startBacklog (e : Nat) (s : State) : State :=
  if s.fld SGE_FRAME_STATUS_BACKLOG e = 0 ∨ (s.eng e).frameRunning ∨ ¬ s.on SGE_CTL_RUN e ∨ s.engHalted e then s
  else syncEngine e (startFrame e (s.setFld SGE_FRAME_STATUS_BACKLOG (s.fld SGE_FRAME_STATUS_BACKLOG e - 1) e))

/-- The tick pulse at an engine (R292, R293): a frame bank that still runs is late, whether or not EN is 1; and so is the
frame job of an engine that a trip has stopped, which is carried (R36, R641). -/
def frameAtBoundary (e : Nat) (s : State) : State :=
  if ¬ s.on SGE_CTL_RUN e ∨ s.engHalted e ∨ ¬ s.gateBehind (32 + e) then s
  else if (s.eng e).frameRunning ∨ (s.pwr.stopped ∧ s.on SGE_FRAME_EN e) then
    let s := if s.fld SGE_FRAME_STATUS_BACKLOG e < 0xFFFF then notePulse e (s.addFld SGE_FRAME_STATUS_BACKLOG 1 e) else s
    carryLate TCK_LATE_SGE_COUNT 1 s
  else if s.on SGE_FRAME_EN e then syncEngine e (startFrame e (notePulse e s))
  else s

/-! ### Traps and halting (R296, R297) -/

/-- SGE_TRAP records a cause, the issuing bank and an instruction's address. -/
def recordTrap (e cause pc : Nat) (s : State) : State :=
  let s := s.setFld SGE_TRAP_CAUSE cause e
  let s := s.setFld SGE_TRAP_BANK (bnat (s.eng e).frameRunning) e
  s.setFld SGE_TRAP_PC pc e

/-- The engine halts (R297). -/
def haltEngine (e cause pc : Nat) (s : State) : State :=
  let running := (s.eng e).jobRunning
  let s := s.setFld SGE_TRAP_HALTED 1 e
  let s := s.modEng e (fun x => { x with frameRunning := false, pulses := if x.frameRunning then x.pulses.tail else x.pulses })
  let s := if running then endAction e .errData 0 s else s
  let s := fenceQueued e s
  raise (0x300 + e) (cause + pc * 65536) s

/-- Take a trap of the issuing bank: `pc` is the instruction concerned, `ret` what TPC takes (R296). -/
def takeTrap (e cause pc ret : Nat) (s : State) : State :=
  let b := s.bank e
  let s := recordTrap e cause pc s
  if bit b.sr srTM then haltEngine e cause pc s
  else
    let sr := (srPut b.sr srTM true &&& 0x8FF) ||| BitVec.ofNat 12 (cause * 256)
    let s := s.setBank e { b with sr := sr, tpc := BitVec.ofNat 13 ret, pc := cause, loaded := [], acWritten := [] }
    countCycles e 3 (s.addFld SGE_COUNT_ERR_TRAPS 1 e)

/-- A DATA trap also records the address and the bus (R266, R296). -/
def takeDataTrap (e pc a : Nat) (busY : Bool) (s : State) : State :=
  let s := s.setBank e { s.bank e with taddr := BitVec.ofNat 15 (a + bnat busY * 16384) }
  let s := s.setFld SGE_TRAP_ADDR a e
  let s := s.setFld SGE_TRAP_BUS (bnat busY) e
  takeTrap e 1 pc pc s

/-! ### Engine memories (R260 to R263) -/

/-- A read of a memory word by the engine: a single-bit error is mended and written back in the access (R263). -/
def readMended (key : Nat) (s : State) : Option (Word × State) :=
  match (s.pword key).value? with
  | none => none
  | some v => some (v, if (s.pword key).isMended then s.writeP key v else s)

/-- A load of one data word: its 24-bit value, or none where the memory word is bad. -/
def loadWord (e : Nat) (busY : Bool) (a : Nat) (s : State) : Option (BitVec 24 × State) :=
  match readMended (dataKey e busY a) s with
  | none => none
  | some (v, s) => some ((halfOf v a).setWidth 24, s)

/-- A store of one 32-bit word into its half, or none where the memory word is bad (R263). -/
def storeWord (e : Nat) (busY : Bool) (a : Nat) (v : BitVec 32) (s : State) : Option State :=
  s.mergeP (dataKey e busY a) (halfMask a) (doubled v) false

/-- Loads of several data words in one access: the words, the first address that is bad, and the state, in which every
single-bit error that the access has met is mended (R263). -/
def loadWords (e : Nat) (busY : Bool) : List Nat → State → List (BitVec 24) × Option Nat × State
  | [], s => ([], none, s)
  | a :: r, s =>
    match loadWord e busY a s with
    | none =>
      let t := loadWords e busY r s
      (0 :: t.1, some a, t.2.2)
    | some (v, s) =>
      let t := loadWords e busY r s
      (v :: t.1, t.2.1, t.2.2)

/-! ### The issue of one instruction (R278 to R285) -/

/-- What an instruction does: it is illegal; it takes another trap (DATA with the state after its reads); it waits; or it
completes. -/
inductive SgeRes
  | illegal
  | trap (cause : Nat)
  | data (st : State) (a : Nat) (busY : Bool)
  | soft
  | wait
  /-- the state with the results written; registers used; D and AC loaded; AC written; cycles with four-word conflicts;
  V set; AC that RND or STR reads; the jump's target -/
  | fin (st : State) (uses loaded acs : List Nat) (cycles : Nat) (ovf rounds : Bool) (target : Option Nat)
  /-- END: the state after it -/
  | ended (st : State)

/-- A plain completion: one cycle, no jump. -/
def SgeRes.plain (st : State) (uses : List Nat) (ovf : Bool := false) : SgeRes := .fin st uses [] [] 1 ovf false none

/-- The PC after an instruction that does not jump, with the loop stack (R282). -/
def loopNext : List SgeLoop → Nat → List SgeLoop × Nat
  | [], pc => ([], (pc + 1) % 8192)
  | l :: r, pc =>
    if l.stop = pc then
      if 1 < l.count then ({ l with count := l.count - 1 } :: r, l.start) else loopNext r pc
    else (l :: r, (pc + 1) % 8192)

/-- The instruction stands at the END of an active loop (R283). -/
def SgeBank.atEnd (b : SgeBank) : Bool := b.loops.any (fun l => decide (l.stop = b.pc))

/-- A captured word of the body that an active loop repeats (R284). -/
def Sge.cached (x : Sge) : Option (BitVec 32) :=
  match x.cache with
  | some c =>
    if c.ready && x.bank.loops.any (fun l => decide (l.start = c.start ∧ l.stop = c.stop))
    then (c.words.find? (fun p => decide (p.1 = x.bank.pc))).map (·.2) else none
  | none => none

/-- The repeat cache after a fetch from P (R284). -/
def SgeCache.capture (c : SgeCache) (pc : Nat) (w : BitVec 32) : SgeCache :=
  if c.ready ∨ pc < c.start ∨ c.stop < pc then c else { c with words := (pc, w) :: c.words }

/-- Fetch the instruction at the PC: from the repeat cache, or from P; none where the P word is bad. -/
def fetchInstr (e : Nat) (s : State) : Option (BitVec 32 × State) :=
  let x := s.eng e
  match x.cached with
  | some w => some (w, s)
  | none =>
    match readMended (instrKey e x.bank.pc) s with
    | none => none
    | some (v, s) =>
      let w := halfOf v x.bank.pc
      some (w, s.modEng e (fun x => { x with cache := x.cache.map (fun c => c.capture x.bank.pc w) }))

/-- The opcodes R283 forbids at the END of an active loop. -/
def controlOp (op : Nat) : Bool := [0x20, 0x21, 0x22, 0x23, 0x24, 0x25, 0x30, 0x31, 0x32].contains op

/-- An instruction completes: the stalls of R280, the PC, the loop stack, the repeat cache, and the OVERFLOW trap. -/
def completeInstr (e pc : Nat) (old : SgeBank) (uses loaded acs : List Nat) (cycles : Nat) (ovf rounds : Bool)
    (target : Option Nat) (s : State) : State :=
  let stall := bnat (uses.any (fun r => old.loaded.contains r)
    || (rounds && uses.any (fun r => old.acWritten.contains r)))
  let b := s.bank e
  let nxt : List SgeLoop × Nat := match target with
    | some t => (b.loops, t)
    | none => loopNext b.loops pc
  let s := s.setBank e { b with loops := nxt.1, pc := nxt.2, loaded := loaded, acWritten := acs }
  let s := if target = none then
      s.modEng e (fun x => { x with cache := x.cache.map (fun c =>
        if pc = c.stop ∧ nxt.2 = c.start then { c with ready := true } else c) })
    else s
  let s := countCycles e (cycles + stall) s
  if ovf && bit b.sr srOVT then takeTrap e 2 pc nxt.2 s else s

/-- Act on what an instruction does; `s` is the state after the fetch. -/
def applyRes (e : Nat) (r : SgeRes) (s : State) : State :=
  let b := s.bank e
  match r with
  | .illegal => takeTrap e 3 b.pc b.pc s
  | .trap c => takeTrap e c b.pc b.pc s
  | .data t a y => takeDataTrap e b.pc a y t
  | .soft => takeTrap e 6 b.pc (loopNext b.loops b.pc).2 s
  | .wait => countCycles e 1 s
  | .fin t uses loaded acs cycles ovf rounds target => completeInstr e b.pc b uses loaded acs cycles ovf rounds target t
  | .ended t => t

/-- The engine can issue: a job runs, its clock runs, and it has not halted. -/
def State.canIssue (s : State) (e : Nat) : Bool := (s.eng e).busy && s.engClock e && !s.engHalted e

/-- Engine `e` issues the instruction with opcode `op`. An unreadable word takes the FETCH trap, an opcode outside the
table the ILLEGAL trap, whichever instruction the command names; where the word holds another instruction of the table,
nothing happens. -/
def issue (e op : Nat) (work : BitVec 32 → State → SgeRes) (s : State) : State :=
  if ¬ s.canIssue e then s
  else
    let pc := (s.bank e).pc
    match fetchInstr e s with
    | none => syncEngine e (takeTrap e 0 pc pc s)
    | some (w, t) =>
      match formatOf (opOf w) with
      | none => syncEngine e (applyRes e .illegal t)
      | some f =>
        if opOf w ≠ op then s
        else if ¬ leftOutZero f w ∨ (controlOp op ∧ (t.bank e).atEnd) then syncEngine e (applyRes e .illegal t)
        else syncEngine e (applyRes e (work w t) t)

/-! ### DMA (R286 to R288) -/

/-- The bank that started a transfer. -/
def SgeDma.bank (d : SgeDma) (x : Sge) : SgeBank := if d.frame then x.frame else x.action

/-- The local address of the k-th word from a transfer's next one. -/
def SgeDma.at (d : SgeDma) (k : Nat) : Nat :=
  match d.window with
  | none => (d.loc + k) % 16384
  | some (base, len) => wrapIn base len (((d.loc + k : Nat) : Int))

/-- DSTAT's status and moved count of the bank that started a transfer. -/
def setDstat (e : Nat) (frame : Bool) (f : SgeBank → SgeBank) (s : State) : State :=
  s.modEng e (fun x => if frame then { x with frame := f x.frame } else { x with action := f x.action })

/-- The transfer stops with a status. -/
def dmaStop (e : Nat) (d : SgeDma) (status : Nat) (s : State) : State :=
  setDstat e d.frame (fun b => { b with dstatus := status }) (s.modEng e (fun x => { x with dma := none }))

/-- The DMA code of a response status (R288). -/
def dmaCode : Status → Nat
  | .ok => 0 | .errData => 1 | .errGated => 2 | .fenced => 3 | .decode => 4 | .denied => 5 | .timeout => 1

/-- Read up to `n` local words: those read before the first bad one, as a store writes them (R261, R287), whether one was
bad, and the state. -/
def dmaGather (e : Nat) (d : SgeDma) : Nat → Nat → State → List (BitVec 32) × Bool × State
  | 0, _, s => ([], false, s)
  | n + 1, k, s =>
    match readMended (dataKey e d.busY (d.at k)) s with
    | none => ([], true, s)
    | some (v, s) =>
      let r := dmaGather e d n (k + 1) s
      (storedWord ((halfOf v (d.at k)).setWidth 24) :: r.1, r.2.1, r.2.2)

/-- The NoC address of an address in the compact view (R475). -/
def compactAddr (a : Nat) : Nat := if a < 0x3E00000000 then a else a + 0x200000000

/-- The sender identity of an engine (R579). -/
def sgeIdent (e : Nat) (s : State) : Ident := mkIdent s.devId 5 e

/-- Send the next request of a transfer, which never crosses a 256-byte boundary (R462), and count its bytes (R681). -/
def dmaSend (e : Nat) (d : SgeDma) (s : State) : State :=
  let n := min d.left ((256 - d.addr % 256 + 3) / 4)
  if d.out then
    let g := dmaGather e d n 0 s
    let m := g.1.length
    if m = 0 then dmaStop e d 6 g.2.2
    else
      let s := (g.2.2.emit (.dma e (sgeIdent e s) (compactAddr d.addr) m (some g.1))).addFld FLT_DMAe_ISSUED (4 * m) e
      s.modEng e (fun x => { x with dma := some { d with chunk := m, bad := g.2.1 } })
  else
    let s := (s.emit (.dma e (sgeIdent e s) (compactAddr d.addr) n none)).addFld FLT_DMAe_ISSUED (4 * n) e
    s.modEng e (fun x => { x with dma := some { d with chunk := n, bad := false } })

/-- Store received words: how many were stored, and the state. -/
def dmaScatter (e : Nat) (d : SgeDma) : List (BitVec 32) → Nat → State → Nat × State
  | [], k, s => (k, s)
  | v :: r, k, s =>
    match storeWord e d.busY (d.at k) (storedWord (v.setWidth 24)) s with
    | none => (k, s)
    | some s => dmaScatter e d r (k + 1) s

/-- After `n` words of a request have been moved: the transfer stops at a bad local word, ends, or goes on. -/
def dmaMoved (e : Nat) (d : SgeDma) (n : Nat) (s : State) : State :=
  let s := setDstat e d.frame (fun b => { b with dmoved := b.dmoved + n }) s
  if d.bad ∨ n < d.chunk then dmaStop e d 6 s
  else if d.left = n then dmaStop e d 0 s
  else dmaSend e { d with addr := d.addr + 4 * n, left := d.left - n, loc := d.at n } s

/-- `DMA_RESPONSE`: the response to the request in flight arrives (R288). -/
def execDmaResponse (e : Fin 32) (st : Status) (ws : List (BitVec 32)) (s : State) : Host.Outcome State Fault Refusal :=
  match (s.eng e).dma with
  | none => .next s
  | some d =>
    let s := answeredAt (sgeEndpoint (e / 8)) (s.addFld FLT_DMAe_ANSWERED (4 * d.chunk) e)
    if st ≠ .ok then .next (syncEngine e (dmaStop e d (dmaCode st) s))
    else if d.out then .next (syncEngine e (dmaMoved e d d.chunk s))
    else
      let r := dmaScatter e d (ws.take d.chunk) 0 s
      .next (syncEngine e (dmaMoved e d r.1 r.2))

/-! ### Actions, limit, control register, port -/

/-- `SGE_ACTION` (R289, R294): an action arrives at the engine's endpoint; only context engine endpoints send actions. -/
def execSgeAction (e : Fin 32) (a : Action) (s : State) : Host.Outcome State Fault Refusal :=
  if ¬ ctxEndpoints.contains a.src then .next (answeredAt (sgeEndpoint (e / 8)) <| s.emit (.result a.src (128 + e) a.tag .decode 0))
  else if ¬ s.gateOpen (32 + e) then .next (answeredAt (sgeEndpoint (e / 8)) <| s.emit (.result a.src (128 + e) a.tag .errGated 0))
  else if s.engHalted e ∨ ¬ s.on SGE_CTL_RUN e then .next (answerJob e a .fenced 0 s)
  else if 8 ≤ (s.eng e).queue.length then .next s
  else .next (syncEngine e (startNext e (s.modEng e (fun x => { x with queue := x.queue ++ [a] }))))

/-- An action job that has used up its cycles ends as END with ERR = 1 does (R291). -/
def expireJob (e : Nat) (s : State) : State :=
  let s := s.setFld SGE_TRAP_CAUSE 7 e
  let s := s.setFld SGE_TRAP_BANK 0 e
  let s := s.setFld SGE_TRAP_PC (s.eng e).action.pc e
  endAction e .errData 0 (s.addFld SGE_COUNT_ERR_LIMITS 1 e)

/-- `JOB_LIMIT_EXPIRE` (R291): once the cycles are used and the DMA is idle, and while the job is not suspended. -/
def execJobLimitExpire (e : Fin 32) (s : State) : Host.Outcome State Fault Refusal :=
  let x := s.eng e
  let lim := s.fld SGE_CTL_JOB_LIMIT e
  if x.jobRunning ∧ ¬ x.frameRunning ∧ lim ≠ 0 ∧ lim ≤ x.used ∧ x.dma = none then .next (syncEngine e (expireJob e s))
  else .next s

/-- RUN takes a value (R294): 1 invalidates the repeat cache (R284), 0 fences the queued actions. -/
def setRun (e : Nat) (v : Bool) (s : State) : State :=
  let s := s.setFld SGE_CTL_RUN (bnat v) e
  let s := if v then s.modEng e (fun x => { x with cache := none }) else fenceQueued e s
  syncEngine e s

/-- RESTART (R298). -/
def restartEngine (e : Nat) (s : State) : State :=
  if ¬ s.engHalted e then s
  else
    let s := s.setFld SGE_TRAP_HALTED 0 e
    let s := s.modEng e (fun x => { x with
      action := { x.action with sr := srPut x.action.sr srTM false, loops := [], rets := [] }
      frame := { x.frame with sr := srPut x.frame.sr srTM false, loops := [], rets := [] }
      cache := none, pulses := [] })
    syncEngine e (s.setFld SGE_FRAME_STATUS_BACKLOG 0 e)

/-- A write to SGE_CTL: JOB_LIMIT and RUN take their values, then RESTART acts. -/
def sgeCtlEffect (e : Nat) (h : Half) (data : Word) (s : State) : State :=
  let s := match wfield h data SGE_CTL_JOB_LIMIT with
    | some v => s.setFld SGE_CTL_JOB_LIMIT v e
    | none => s
  let s := match wfield h data SGE_CTL_RUN with
    | some v => setRun e (decide (v ≠ 0)) s
    | none => s
  if wbit h data SGE_CTL_RESTART then restartEngine e s else s

/-- `SGE_RUN_WRITE` (R294). -/
def execSgeRunWrite (m : Ident) (e : Fin 32) (h : Half) (data : Word) (s : State) : Host.Outcome State Fault Refusal :=
  .next (regWrite .SGE_CTL [e] m h (sgeCtlEffect e h data) s)

/-- `SGE_RESTART` (R298): the write carries 1 in RESTART. -/
def execSgeRestart (m : Ident) (e : Fin 32) (h : Half) (data : Word) (s : State) : Host.Outcome State Fault Refusal :=
  .next (regWrite .SGE_CTL [e] m h (sgeCtlEffect e h (setBits data 1 1 1)) s)

/-- The key of the memory word SGE_MEM_ADDR names. -/
def portKey (e : Nat) (s : State) : Nat :=
  let w := s.fld SGE_MEM_ADDR_ADDR e / 2
  match s.fld SGE_MEM_ADDR_MEM e with
  | 0 => sgeKey e w
  | 1 => sgeKey e (8192 + w)
  | _ => sgeKey e (16384 + w % 4096)

/-- The step of SGE_MEM_ADDR after a 64-bit access or one to the high half, modulo the memory's size. -/
def bumpPort (e : Nat) (h : Half) (s : State) : State :=
  if h = .low then s
  else
    let size := if s.fld SGE_MEM_ADDR_MEM e = 2 then 8192 else 16384
    s.setFld SGE_MEM_ADDR_ADDR ((s.fld SGE_MEM_ADDR_ADDR e + 2) % size) e

/-- A write through the port (R295, R437): P only while STOPPED or HALTED; a half is a partial write. -/
def portWrite (m : Ident) (e : Nat) (h : Half) (data : Word) (s : State) : State :=
  if s.fld SGE_MEM_ADDR_MEM e = 2 ∧ (s.engState e = 1 ∨ s.engState e = 2) then
    violation m .area true (SGE_MEM_DATA_WORD.key e 0 0 + h.skip) s
  else bumpPort e h ((s.writeMasked (portKey e s) h.mask data false).getD
    (refusedPartial m (SGE_MEM_DATA_WORD.key e 0 0 + h.skip) s))

/-- A read through the port. -/
def portRead (m : Ident) (e : Nat) (h : Half) (s : State) : State :=
  match readMended (portKey e s) s with
  | some (v, t) => bumpPort e h (t.emit (.answer m (v &&& h.mask)))
  | none => bumpPort e h (s.emit (.poisonedAnswer m))

/-- `SGE_MEM_DATA_ACCESS` (R295): a write (data given) or a read of the port register. -/
def execSgeMemDataAccess (m : Ident) (e : Fin 32) (h : Half) (data : Option Word) (s : State) :
    Host.Outcome State Fault Refusal :=
  match data with
  | some v => .next (regWrite .SGE_MEM_DATA [e] m h (portWrite m e h v) s)
  | none => .next (readFront m (SGE_MEM_DATA_WORD.key e 0 0) h (portRead m e h) s)

/-- `PORT_WAIT_STEAL` (R264): a DMA or port access takes one cycle, and the engine stalls for it. -/
def execPortWaitSteal (e : Fin 32) (s : State) : Host.Outcome State Fault Refusal :=
  if s.canIssue e then .next (countCycles e 1 s) else .next s

end Sys2Proof.Machine
end

