-- ==== Sys2Proof/Machine/Faults.lean ====
section
/-! DEFINITION. The fault collector (chapter 17): recording, the journal, severities and containment, the halt and its
release, user faults, history. -/

namespace Sys2Proof.Machine

/-! ### Recording (R672 to R675) -/

/-- Event word 1 (R673). -/
def eventWord (e : FltPending) (seq : Nat) : Word :=
  mkWord [(0, 12, e.source), (12, 2, e.sev), (14, 1, bnat e.merged), (15, 1, 1), (16, 32, e.info.toNat), (48, 16, seq)]

/-- The state with the journal queue replaced, and FLT_JOURNAL.QUEUED with it. -/
def setJournal (l : List (Word × Word)) (s : State) : State :=
  { s.setFld FLT_JOURNAL_QUEUED l.length with flt := { s.flt with journalQueue := l } }

/-- An entry is offered to the journal (R676, R677). -/
def journalEntry (sev : Nat) (w0 w1 : Word) (s : State) : State :=
  if sev < s.fld FLT_CTL_JOURNAL_MIN then s
  else if 64 ≤ s.flt.journalQueue.length then s.addFld FLT_JOURNAL_SKIPPED 1
  else setJournal (s.flt.journalQueue ++ [(w0, w1)]) s

/-- `FAULT_RECORD` (R672 to R675): the pending source of lowest ID is recorded. -/
def execFaultRecord (s : State) : Host.Outcome State Fault Refusal :=
  match s.flt.pending with
  | [] => .next s
  | e :: r =>
    let q := s.fld FLT_COUNT_RECORDED
    let w1 := eventWord e q
    let s := { s with flt := { s.flt with pending := r } }
    let s := (s.setReg (FLT_HISTk_W0_WORD.key (q % 32) 0 0) e.time).setReg (FLT_HISTk_W1_WORD.key (q % 32) 0 0) w1
    let s := if bit (s.reg FLT_FIRST_W1_WORD.off) 15 then s
      else (s.setReg FLT_FIRST_W0_WORD.off e.time).setReg FLT_FIRST_W1_WORD.off w1
    .next (journalEntry e.sev e.time w1 (s.addFld FLT_COUNT_RECORDED 1))

/-- A write of FLT_FIRST_W1 with 1 in VALID clears both words (R675). -/
def firstEffect (h : Half) (data : Word) (s : State) : State :=
  if bit (data &&& h.mask) 15 then (s.setReg FLT_FIRST_W0_WORD.off 0).setReg FLT_FIRST_W1_WORD.off 0 else s

/-- `FIRST_CAPTURE_REARM` (R675). -/
def execFirstCaptureRearm (m : Ident) (h : Half) (data : Word) (s : State) : Host.Outcome State Fault Refusal :=
  .next (regWrite .FLT_FIRST_W1 [] m h (firstEffect h data) s)

/-- A read of FLT_HISTk_W0 captures word 1 for the reading master (R674). -/
def histReadEffect (m : Ident) (k : Nat) (h : Half) (s : State) : State :=
  let s := match slotOf m with
    | none => s
    | some n =>
      let w1 := s.reg (FLT_HISTk_W1_WORD.key k 0 0)
      { s with flt := { s.flt with
        captured := (n, k, w1) :: s.flt.captured.filter (fun c => decide (¬ (c.1 = n ∧ c.2.1 = k))) } }
  s.emit (.answer m (s.reg (FLT_HISTk_W0_WORD.key k 0 0) &&& h.mask))

/-- `HISTORY_READ` (R674). -/
def execHistoryRead (m : Ident) (k : Fin 32) (h : Half) (s : State) : Host.Outcome State Fault Refusal :=
  .next (readFront m (FLT_HISTk_W0_WORD.key k 0 0) h (histReadEffect m k h) s)

/-- A read of FLT_HISTk_W1: the captured word once, where there is one (R674); a read of its low half keeps it. -/
def histSecondEffect (m : Ident) (k : Nat) (h : Half) (s : State) : State :=
  let mine := s.flt.captured.find? (fun c => decide (some c.1 = slotOf m ∧ c.2.1 = k))
  match mine with
  | some c =>
    let s := if h = .low then s
      else { s with flt := { s.flt with captured := s.flt.captured.filter (fun d => decide (d ≠ c)) } }
    s.emit (.answer m (c.2.2 &&& h.mask))
  | none => s.emit (.answer m (s.reg (FLT_HISTk_W1_WORD.key k 0 0) &&& h.mask))

/-! ### The journal (R676 to R678) -/

/-- The first word of journal entry number `q`. -/
def journalAddr (q : Nat) : Nat := 0x2A000 + 4 * (q % 16384)

/-- The four words of journal entry `q` with BOOT `boot` (R676). -/
def journalWords (q boot : Nat) (w0 w1 : Word) : List Word :=
  let j := BitVec.ofNat 64 q
  let crc := crc32c ((wordBytes j ++ wordBytes w0 ++ wordBytes w1) ++ bytes32 boot)
  [j, w0, w1, mkWord [(0, 32, boot), (32, 32, crc.toNat)]]

/-- `JOURNAL_WRITE` (R676, R677): the oldest waiting entry is written, once the scan is done. -/
def execJournalWrite (s : State) : Host.Outcome State Fault Refusal :=
  match s.flt.journalQueue, s.flt.boot with
  | e :: r, some boot =>
    if ¬ s.gateOpen 8 then .next s
    else
      let q := s.fld FLT_JSEQ_JSEQ + 1
      let s := ((List.range 4).zip (journalWords q boot e.1 e.2)).foldl (fun s x => nvaStore (journalAddr q + x.1) x.2 s) (nvaTurn s)
      .next (setJournal r ((s.setFld FLT_JSEQ_JSEQ q).addFld FLT_JOURNAL_WRITTEN 1))
  | _, _ => .next s

/-- The JSEQ and BOOT of the journal place `i`, where its CRC is correct. -/
def journalPlace (s : State) (i : Nat) : Option (Nat × Nat) :=
  match (List.range 4).mapM (fun k => (s.pword (nvaKey (0x2A000 + 4 * i + k))).value?) with
  | some [j, w0, w1, w3] =>
    if j ≠ 0 ∧ journalWords j.toNat (bits w3 0 32) w0 w1 = [j, w0, w1, w3] then some (j.toNat, bits w3 0 32) else none
  | _ => none

/-- The highest JSEQ and the highest BOOT of the first `n` places (R677). -/
def journalTop (s : State) : Nat → Nat × Nat
  | 0 => (0, 0)
  | n + 1 =>
    let r := journalTop s n
    match journalPlace s n with
    | some (j, b) => (max r.1 j, max r.2 b)
    | none => r

/-- `JOURNAL_SCAN` (R677): once after phase P3. -/
def execJournalScan (s : State) : Host.Outcome State Fault Refusal :=
  if s.pwr.phase ≠ .up ∨ s.flt.boot.isSome then .next s
  else
    let r := journalTop s 16384
    .next { s.setFld FLT_JSEQ_JSEQ r.1 with flt := { s.flt with boot := some (r.2 + 1) } }

/-- `JOURNAL_READ` (R678). -/
def execJournalRead (p : Packet) (s : State) : Host.Outcome State Fault Refusal :=
  .next (runCommand 0x0F02 2 .any p (fun s =>
    let n := bits (p.w 2) 0 2
    if n = 0 then endCommand p .invalid [] s
    else
      let top := s.fld FLT_JSEQ_JSEQ
      let first := max (p.w 1).toNat (max 1 (top - 16383))
      let qs := (List.range n).map (fun i => first + i) |>.filter (fun q => decide (q ≤ top))
      match nvaReadMany (qs.flatMap (fun q => (List.range 4).map (fun k => journalAddr q + k))) (nvaTurn s) with
      | (none, s) => endCommand p .errData [] s
      | (some ws, s) => endCommand p .ok (BitVec.ofNat 64 top :: BitVec.ofNat 64 qs.length :: ws) s) s)

/-! ### Containment and the halt (R669 to R671, R679, R680) -/

/-- The unit that severity 2 of a source contains is stopped (R667, R670). -/
def containSource (r : FltReaction) (s : State) : State :=
  let c := r.source
  if c = 0x080 ∨ c = 0x081 then s.setFld CTX_ENG_CTL_EN 0
  else if 0x184 ≤ c ∧ c ≤ 0x187 then portToStage1 (c - 0x184) (s.setFbit BRL_CTL_PORT_EN (c - 0x184) false)
  else if 0x200 ≤ c ∧ c ≤ 0x27F then enterSafe (c - 0x200) s
  else if 0x280 ≤ c ∧ c ≤ 0x283 then (List.range 32).foldl (fun s i => enterSafe (32 * (c - 0x280) + i) s) s
  else if 0x320 ≤ c ∧ c ≤ 0x33F then setRun (c - 0x320) false s
  else if (0x340 ≤ c ∧ c ≤ 0x347) ∨ (0x34C ≤ c ∧ c ≤ 0x34F) then dramContain (c % 4) s
  else if c = 0x381 ∨ c = 0x382 then
    (if addrTarget r.info.toNat < 64 then raiseDamper (addrTarget r.info.toNat) s else s)
  else match r.region with
    | some t => raiseDamper t s
    | none => s

/-- The outputs halt (R679). -/
def haltOutputs (s : State) : State :=
  emberCheck ((List.range 128).foldl (fun s g => enterSafe g s) (s.setFld FLT_STATUS_HALTED 1))

/-- A severity-3 raise reacts (R679, R680): a halt starts, or the halt in force stands. -/
def haltFor (src : Nat) (s : State) : State :=
  if s.on FLT_STATUS_HALTED ∧ ¬ s.flt.rehalt then haltOutputs s
  else
    let s := { s with flt := { s.flt with rehalt := false } }
    haltOutputs ((s.addFld FLT_STATUS_HALTS 1).setFld FLT_STATUS_HALT_SRC src)

/-- One raise's containment, and its halt at severity 3. -/
def react (s : State) (r : FltReaction) : State :=
  let s := containSource r s
  if r.sev = 3 then haltFor r.source s else s

/-- `FAULT_REACTION` (R671): the containments and halts of the raises of the collector cycle before begin. -/
def execFaultReaction (s : State) : Host.Outcome State Fault Refusal :=
  .next (s.flt.reactions.foldl react { s with flt := { s.flt with reactions := [] } })

/-- A release of the halt (R680). -/
def releaseHalt (s : State) : State :=
  if s.pwr.frozen ∨ s.on FLT_STATUS_HB_LOST ∨ s.on FLT_STATUS_TICK_LOST then s.setFld FLT_STATUS_RELEASE_REFUSED 1
  else if ¬ s.on FLT_STATUS_HALTED then s
  else if s.flt.reactions.any (fun r => decide (r.sev = 3)) then { s with flt := { s.flt with rehalt := true } }
  else emberCheck (s.setFld FLT_STATUS_HALTED 0)

/-- The effect of a write to FLT_CTL: JOURNAL_MIN, then RELEASE. -/
def fltCtlEffect (h : Half) (data : Word) (s : State) : State :=
  let s := plainWrite (regInfo .FLT_CTL).fields FLT_CTL_RELEASE.off (fun _ => false) h data s
  if wbit h data FLT_CTL_RELEASE then releaseHalt s else s

/-- `HALT_RELEASE` (R680). -/
def execHaltRelease (m : Ident) (h : Half) (data : Word) (s : State) : Host.Outcome State Fault Refusal :=
  .next (regWrite .FLT_CTL [] m h (fltCtlEffect h data) s)

/-! ### User faults (R691) -/

/-- The effect of a write to FLT_RAISE: a USER source, from a FABRIC-class master or the owner. -/
def fltRaiseEffect (m : Ident) (h : Half) (data : Word) (s : State) : State :=
  let d := data &&& h.mask
  let src := bits d 0 12
  if (identClass m = 3 ∨ s.isOwner m) ∧ 0x800 ≤ src then
    raiseFrom (if identClass m = 3 ∧ identIndex m < 64 then some (identIndex m) else none) src (bits d 32 32) s
  else violation m .area true (FLT_RAISE_SOURCE.off + h.skip) s

/-- `FLT_RAISE_WRITE` (R691). -/
def execFltRaiseWrite (m : Ident) (h : Half) (data : Word) (s : State) : Host.Outcome State Fault Refusal :=
  .next (regWrite .FLT_RAISE [] m h (fltRaiseEffect m h data) s)

/-- The effect of a write to FLT_SRCs (R669, R690): nothing where the source does not exist; SEV of a fixed or
notification source stays. -/
def fltSrcEffect (src : Nat) (h : Half) (data : Word) (s : State) : State :=
  match sourceRange src with
  | none => s
  | some r =>
    plainWrite (regInfo .FLT_SRCs).fields (FLT_SRCs_SEV.key src 0 0)
      (fun _ => false) h data
      s |> fun t => if r.fixed ∨ r.notify then t.setFld FLT_SRCs_SEV (s.fld FLT_SRCs_SEV src) src else t

/-! ### The audits of this chapter (R681, R682) -/

/-- The bytes of an engine's requests that await their response (R681). -/
def dmaOwed (e : Nat) (s : State) : Nat := (s.eng e).dma.elim 0 (fun d => 4 * d.chunk)

/-- The byte balance of the signal engines whose clock runs (R681, R683). -/
def dmaAudit (s : State) : State :=
  let bad := (List.range 32).filter (fun e => s.engClock e
    && decide ((s.fld FLT_DMAe_ISSUED e + 2 ^ 32 - s.fld FLT_DMAe_ANSWERED e) % 2 ^ 32 ≠ dmaOwed e s % 2 ^ 32))
  if bad.isEmpty then s
  else bad.foldl (fun s e => raise (0x320 + e)
      ((s.fld FLT_DMAe_ISSUED e + 2 ^ 32 - s.fld FLT_DMAe_ANSWERED e) % 2 ^ 32) (s.setFbit FLT_DMA_AUDIT_ENGINES e true))
    (s.addFld FLT_DMA_AUDIT_FAIL_TICKS 1)

/-- The refresh debt of the controllers whose clock runs (R682, R683). -/
def dramAudit (s : State) : State :=
  let bad := (List.range 4).filter (fun c => s.gateClock (14 + c)
    && decide (s.fld FLT_DRAMc_ACCRUED c ≠ (s.fld DRC_REF_COUNT_REFRESHES c + s.fld DRC_STATUS_DEBT c) % 2 ^ 32))
  if bad.isEmpty then s
  else bad.foldl (fun s c => raise (0x34C + c) (s.fld DRC_STATUS_DEBT c) (s.setFbit FLT_DRAM_AUDIT_CTRL c true))
    (s.addFld FLT_DRAM_AUDIT_FAIL_TICKS 1)

end Sys2Proof.Machine
end

