-- ==== Sys2Proof/Machine/Engine.lean ====
section
/-! DEFINITION. The context engine (chapter 04): admission, visits, dispatch credits and flight entries, result lanes,
result records and rings, calendar rebuilds and the engine's audits. -/

namespace Sys2Proof.Machine

/-! ### Admission (R129 to R132, R734) -/

/-- The queue of domain `d`: its carry list, then its slot list of the tick (R129). -/
def State.queueOfDomain (s : State) (d : Nat) : List Filed :=
  s.ctx.carried.filter (fun e => decide (e.dom = d))
    ++ ((s.ctx.slots.filter (fun e => decide (e.1 = s.fld TCK_COUNT_COUNT % 4096 ∧ e.2.dom = d))).map Prod.snd)

/-- The guarantee of domain `d` (R112, R129). -/
def State.guarantee (s : State) (d : Nat) : Nat := s.fld TCK_PERIOD_VISIT_BUDGET * s.fld CTX_DOMd_CFG_SHARE d / 256

/-- Admission in progress: the domains' queues, entries admitted in order, budget left, and whether an uncorrectable link
word has stopped it. -/
structure Admission where
  queues : List (List Filed)
  taken : List Filed
  counts : List Nat
  budget : Nat
  stop : Bool

/-- Take the head of domain `d`'s queue. The entry that holds an uncorrectable link word is admitted, and admission then
stops (R737). -/
def Admission.take (s : State) (a : Admission) (d : Nat) : Admission :=
  match a.queues.getD d [] with
  | [] => a
  | e :: r =>
    { queues := a.queues.set d r, taken := a.taken ++ [e], counts := modNth a.counts d (· + 1),
      budget := a.budget - 1, stop := s.linkBad e.id }

/-- Round 1 for one domain: up to `n` entries. -/
def Admission.takeUpTo (s : State) : Nat → Nat → Admission → Admission
  | 0, _, a => a
  | n + 1, d, a =>
    if a.stop ∨ a.budget = 0 ∨ a.queues.getD d [] = [] then a else Admission.takeUpTo s n d (Admission.take s a d)

/-- One turn of round 2 for domain `d`. -/
def Admission.turn (s : State) (a : Admission) (d : Nat) : Admission :=
  if a.stop ∨ a.budget = 0 then a else Admission.take s a d

/-- Round 2: rounds over the domains in ascending order from `first`, wrapping, at most `fuel` of them. -/
def Admission.rounds (s : State) (first : Nat) : Nat → Admission → Admission
  | 0, a => a
  | fuel + 1, a =>
    if a.stop ∨ a.budget = 0 ∨ a.queues.all (fun q => decide (q = [])) then a
    else Admission.rounds s first fuel
      (((List.range 16).map (fun k => (first + k) % 16)).foldl (Admission.turn s) a)

/-- The two rounds of R129. -/
def State.admission (s : State) : Admission :=
  let a : Admission :=
    { queues := (List.range 16).map s.queueOfDomain, taken := [], counts := List.replicate 16 0,
      budget := s.fld TCK_PERIOD_VISIT_BUDGET, stop := false }
  let a := (List.range 16).foldl (fun a d => Admission.takeUpTo s (s.guarantee d) d a) a
  Admission.rounds s (s.fld TCK_COUNT_COUNT % 16) (a.queues.flatten.length + 1) a

/-- Admission is held off: CTX_ENG_CTL.EN is 0, a rebuild runs, the engine's gate is closing (R132, R734),
step B1 has stopped admission (R648), or a trip has stopped the engine (R641). -/
def State.admissionHeld (s : State) : Bool :=
  !s.on CTX_ENG_CTL_EN || s.on CTX_ENG_STATUS_REBUILDING || bit (s.reg CLK_GATE_CLOSING_CLOSING.off) 5
    || !s.on CLK_GATE_CTX || s.pwr.admitStop || s.pwr.stopped

/-- The engine's clock runs: its gate is open or closing, and it is not in retention (R651, R734). -/
def State.engineRuns (s : State) : Bool :=
  (s.on CLK_GATE_CTX && !s.pwr.retained && !bit (s.reg CLK_GATE_RAMP_RAMPING.off) 5)
    || bit (s.reg CLK_GATE_CLOSING_CLOSING.off) 5

/-- The tick's admission: the admitted entries, the carried ones, their counts (R129 to R132). The carry lists as admission
begins hold the visits carried into the tick, whose largest number TCK_CARRY_MAX keeps (R131, log entry 33). While the engine's
gate is closed nothing is admitted or carried in the tick, and no late count changes (R734). -/
def admitTick (s : State) : State :=
  if ¬ s.engineRuns then
    { s with ctx := { s.ctx with admittedCount := List.replicate 16 0, carriedCount := List.replicate 16 0 } }
  else
    let s := { s with ctx := { s.ctx with carried := s.ctx.carried ++ s.ctx.newCarry, newCarry := [] } }
    let s := s.maxFld TCK_CARRY_MAX_MAX s.ctx.carried.length
    let a : Admission :=
      if s.admissionHeld then
        { queues := (List.range 16).map s.queueOfDomain, taken := [], counts := List.replicate 16 0, budget := 0, stop := false }
      else s.admission
    let left := a.queues.flatten
    let slots := s.ctx.slots.filter (fun e => decide (e.1 ≠ s.fld TCK_COUNT_COUNT % 4096))
    let s := { s with ctx := { s.ctx with
      slots := slots
      admitted := s.ctx.admitted ++ a.taken
      visitIndex := 0
      admittedCount := a.counts
      carried := if a.stop then [] else left
      carriedCount := if a.stop then List.replicate 16 0 else a.queues.map List.length } }
    if a.stop then linkError s
    else carryLate TCK_LATE_VISITS_COUNT left.length s

/-- The counts of the completed tick appear in CTX_DOMd_VISITS. -/
def publishVisits (s : State) : State :=
  (List.range 16).foldl (fun s d =>
    (s.setFld CTX_DOMd_VISITS_ADMITTED (s.ctx.admittedCount.getD d 0) d).setFld
      CTX_DOMd_VISITS_CARRIED (s.ctx.carriedCount.getD d 0) d) s

/-! ### Credits and flight entries (R139 to R144) -/

/-- The target of a due visit (R137). -/
def Ctx.target (c : Ctx) : Nat :=
  match c.kind with
  | 5 => 128 + bits c.w1 40 5
  | 6 => 160 + bits c.w1 40 6
  | _ => c.chA / 16

/-- The lowest free flight entry among `n` from `i` (log entry 10). -/
def lowestFreeEntry (l : List (Nat × Flight)) : Nat → Nat → Nat
  | 0, i => i
  | n + 1, i => if l.any (fun e => decide (e.1 = i)) then lowestFreeEntry l n (i + 1) else i

/-- OCCUPIED follows the flight table. -/
def syncFlight (s : State) : State := s.setFld CTX_ENG_FLIGHT_OCCUPIED s.ctx.flight.length

/-- The generation of a flight entry. -/
def State.gen (s : State) (i : Nat) : Nat := Memory.get (fun _ => 0) s.ctx.gens i

/-- Allocate a flight entry: its generation increments (R143), and its word is written whole. -/
def State.allocFlight (s : State) (i : Nat) (e : Flight) : State :=
  let s := s.writeFlightWord i
  syncFlight { s with ctx := { s.ctx with
    flight := s.ctx.flight ++ [(i, e)]
    gens := Memory.set (fun _ => 0) s.ctx.gens i ((s.gen i + 1) % 16) } }

/-- Free a flight entry. -/
def State.freeFlight (s : State) (i : Nat) : State :=
  let s := s.writeFlightWord i
  syncFlight { s with ctx := { s.ctx with flight := s.ctx.flight.filter (fun e => decide (e.1 ≠ i)) } }

/-- The flight tag of an entry: index and generation (R143). -/
def State.flightTag (s : State) (i : Nat) : Nat := i + 4096 * s.gen i

/-- The credit of a target comes back, or becomes an orphan after a TIMEOUT (R146, R148). -/
def settleCredit (target : Nat) (timedOut : Bool) (s : State) : State :=
  if timedOut then (s.addFld CTX_CRED_t_ORPHANS 1 target).addFld CTX_ENG_FLIGHT_ORPHANS 1
  else s.addFld CTX_CRED_t_CREDIT 1 target

/-- Send the action of a context, or a retry of it (R138, R147). -/
def sendAction (w tag target : Nat) (c : Ctx) (dom attempt : Nat) (vtick : Word) (s : State) : State :=
  s.emit (.action w tag target c.w1 c.settle dom c.kind attempt (bits vtick 0 32))

/-! ### Result records (R150 to R154) -/

/-- The records of lane `w` that await their writes. -/
def State.laneLoad (s : State) (w : Nat) : Nat :=
  (s.ctx.writes.filter (fun r => decide (r.lane = w ∧ r.done = none))).length

/-- Lane `w`'s record buffer is full (R158). -/
def State.laneFull (s : State) (w : Nat) : Bool := decide (64 ≤ s.laneLoad w)

/-- REC asks for a record (R150). -/
def wantsRecord (rec : Nat) (failed first : Bool) : Bool :=
  match rec with
  | 0 => false
  | 1 => failed
  | 2 => true
  | _ => failed || first

/-- The due tick of a visit: NEXT_DUE before its PERIOD advance (R151). -/
def Ctx.visitDue (c : Ctx) : Nat := (c.nextDue + 2 ^ 32 - c.period) % 2 ^ 32

/-- Word 0 of a record (R151). -/
def recordW0 (id kind : Nat) (failed late first : Bool) (attempts status owner value : Nat) : Word :=
  mkWord [(0, 20, id), (20, 3, kind), (23, 1, bnat failed), (24, 1, bnat late), (25, 1, bnat first),
    (26, 3, attempts), (29, 3, status), (32, 4, owner), (36, 24, value)]

/-- Word 1 of a record (R151). -/
def recordW1 (due : Nat) (now : Word) (produced : Nat) : Word :=
  mkWord [(0, 32, due), (32, 16, min ((bits now 0 32 + 2 ^ 32 - due) % 2 ^ 32) 0xFFFF), (48, 16, produced)]

/-- The ring is full (R153). -/
def State.ringFull (s : State) (d : Nat) : Bool :=
  decide ((s.fld CTX_RINGd_WR_WR d + s.fld CTX_RINGd_PENDING_PENDING d + 2 ^ 32 - s.fld CTX_RINGd_RD_RD d) % 2 ^ 32
    = 2 ^ s.fld CTX_RINGd_CFG_LOG2_SIZE d % 2 ^ 32)

/-- A ring lost a record: RING_LOSS and the source CTX_RING_LOSS (R153, R155). -/
def ringLoss (d : Nat) (s : State) : State := raise 0x083 d (s.setFld CTX_ENG_STATUS_RING_LOSS 1)

/-- Produce a record for ring `d` through lane `w` (R152, R153). -/
def produceRecord (d w : Nat) (w0 : Word) (due : Nat) (s : State) : State :=
  if ¬ s.on CTX_RINGd_CFG_EN d then s
  else
    let produced := s.fld CTX_RINGd_PRODUCED_COUNT d
    let w1 := recordW1 due s.tickCount produced
    let full := s.ringFull d
    let s := s.addFld CTX_RINGd_PRODUCED_COUNT 1 d
    if full then ringLoss d (s.addFld CTX_RINGd_LOSS_FULL 1 d)
    else
      let pos := (s.fld CTX_RINGd_WR_WR d + s.fld CTX_RINGd_PENDING_PENDING d) % 2 ^ 32
      let addr := 16 * s.fld CTX_RINGd_BASE_ADDR d + 16 * (pos % 2 ^ s.fld CTX_RINGd_CFG_LOG2_SIZE d)
      let s := s.addFld CTX_RINGd_PENDING_PENDING 1 d
      let s := { s with ctx := { s.ctx with writes := s.ctx.writes ++ [RingWrite.mk d pos w none] } }
      s.emit (.record w d (s.on CTX_RINGd_BASE_TARGET d) addr (BitVec.ofNat 32 (s.fld CTX_RINGd_ID_IDENT d)) w0 w1)

/-! ### Verdicts (R84 to R86) -/

/-- The value under test and the limits, as integers, in a window that may wrap (R84, R85). -/
def windowPass (v lower upper : Int) : Bool :=
  if lower ≤ upper then decide (lower ≤ v ∧ v ≤ upper) else decide (lower ≤ v ∨ v ≤ upper)

/-- A 24-bit value as the context's values are read. -/
def Ctx.number (c : Ctx) (x : Nat) : Int := if c.isSigned then signed 24 x else ((x % 2 ^ 24 : Nat) : Int)

/-- The visit passes by its limits (R84, R85). -/
def Ctx.passes (c : Ctx) (value : Nat) : Bool :=
  if c.delta then windowPass (c.number value - c.number c.last) (signed 24 c.lower) (signed 24 c.upper)
  else windowPass (c.number value) (c.number c.lower) (c.number c.upper)

/-- The verdicts of R146. -/
inductive Verdict
  | pass | fail | none
  deriving DecidableEq, Repr

/-- The verdict of a response (R146). -/
def Ctx.verdict (c : Ctx) (st : Status) (value : Nat) : Verdict :=
  if st ≠ .ok then .fail
  else if c.delta ∧ ¬ c.seen then .none
  else if c.passes value then .pass else .fail

/-- PASS and FAIL after a verdict, stopping at 1,048,575 (R81). -/
def Ctx.tally (c : Ctx) (v : Verdict) : Ctx :=
  match v with
  | .pass => c.setPass (min (c.pass + 1) 1048575)
  | .fail => c.setFail (min (c.fail + 1) 1048575)
  | .none => c

/-! ### LINK visits (R91, R93, R141) -/

/-- What a LINK visit does to its target: the target's logical state before the action as CTX_READ reports it (R91, R151),
whether the action applies, and the state after it. CTX_READ returns an uncorrectable W0 as zero (R100), and so the state of
such a target is 0 here. -/
def linkAction (id : Nat) (c : Ctx) (s : State) : Nat × Bool × State :=
  let t := bits c.w1 40 20
  if s.badWords t ≠ 0 ∧ ¬ s.isFree t then ((s.ctxWords t).logicalState s.tickCount, false, s.quarantine t)
  else
    let tc := s.ctxWords t
    let dom := s.votedOwner t
    let before := tc.logicalState s.tickCount
    let s := s.noteCtx t
    if t = id ∨ dom ≠ s.votedOwner id then (before, false, s)
    else if bit c.w1 28 then
      if before = stDue then (before, true, s)
      else if before = stArmed then
        let tc' := tc.setNextDue ((bits s.tickCount 0 32 + 1) % 2 ^ 32)
        (before, true, (s.storeCtx t dom tc.state tc').file t dom tc')
      else (before, false, s)
    else if tc.state = stPaused ∧ ¬ s.on CTX_DOMd_STATUS_OVER dom then
      let tc' := (tc.setNextDue ((bits s.tickCount 0 32 + 1 + tc.nextDue) % 2 ^ 32)).setState stArmed
      (before, true, (s.storeCtx t dom tc.state tc').file t dom tc')
    else (before, false, s)

/-- The LINK context after its visit (R93): verdict, counts, LAST, SEEN, LATE, and its next state. ON_FAIL 3, which a record
edited through BAR2 and armed by a LINK can hold, acts as 0 here and in `resultAfter`: this model's choice (log entry 197). -/
def linkAfter (c : Ctx) (passed : Bool) (value : Nat) (late : Bool) (now : Word) : Ctx :=
  let c := (((c.tally (if passed then .pass else .fail)).setLast value).setSeen true).setLate late
  let adv := if c.period = 0 then c else c.setNextDue ((c.nextDue + c.period) % 2 ^ 32)
  if passed ∨ c.onFail = 0 ∨ c.onFail = 3 then (if c.period = 0 then c.setState stDone else adv.setState stArmed)
  else if c.onFail = 1 then adv.paused now
  else c.setState stDone

/-- A LINK visit that is made (R91). -/
def linkVisit (id w : Nat) (c : Ctx) (s : State) : State :=
  let dom := s.votedOwner id
  let late := decide (bits s.tickCount 0 32 ≠ c.nextDue)
  let r := linkAction id c s
  let c' := linkAfter c r.2.1 r.1 late s.tickCount
  let s := (r.2.2).storeCtx id dom c.state c'
  let s := if c'.state = stArmed then s.file id dom c' else s
  if wantsRecord c.recPolicy (!r.2.1) (!c.seen) then
    produceRecord dom w (recordW0 id c.kind (!r.2.1) late (!c.seen) 0 0 dom r.1) c.nextDue s
  else s

/-! ### Visits (R128, R134 to R141, R159) -/

/-- A refused visit: DUE with LATE, counted, on the carry list (R93, R141). -/
def refuseVisit (id : Nat) (c : Ctx) (s : State) : State :=
  let dom := s.votedOwner id
  let s := s.storeCtx id dom c.state ((c.setLate true).setState stDue)
  (carryLate TCK_LATE_DISPATCH_COUNT 1 s).fileCarry id dom

/-- A dispatch: credit and flight entry taken, IN_FLIGHT, NEXT_DUE advanced, the action sent (R93, R138 to R140). -/
def dispatch (id w : Nat) (c : Ctx) (s : State) : State :=
  let dom := s.votedOwner id
  let t := c.target
  let late := decide (bits s.tickCount 0 32 ≠ c.nextDue)
  let c' := ((if c.period = 0 then c else c.setNextDue ((c.nextDue + c.period) % 2 ^ 32)).setLate late).setState stInFlight
  let i := lowestFreeEntry s.ctx.flight 2560 0
  let s := s.setFld CTX_CRED_t_CREDIT (s.fld CTX_CRED_t_CREDIT t - 1) t
  let s := s.allocFlight i
    { id0 := id, id1 := id, id2 := id, dom := dom, target := t, attempt := 0, tick := s.tickCount, vtick := s.tickCount,
      pause := false, destroy := false, lane := w }
  let s := s.storeCtx id dom c.state c'
  sendAction w (s.flightTag i) t c' dom 0 s.tickCount s

/-- A due visit by walker `w` (R137, R141). -/
def dueVisit (id w : Nat) (c : Ctx) (linkLocked : Bool) (s : State) : State :=
  if c.kind = 7 then
    (if linkLocked ∨ s.laneFull w then refuseVisit id c s else linkVisit id w c s)
  else if s.fld CTX_CRED_t_CREDIT c.target = 0 then refuseVisit id c s
  else dispatch id w c s

/-- The visit of one entry by walker `w` (R128, R135, R159). -/
def visitEntry (e : Filed) (w : Nat) (ctxLocked linkLocked : Bool) (s : State) : State :=
  if ctxLocked then (carryLate TCK_LATE_DISPATCH_COUNT 1 s).fileCarry e.id e.dom
  else
    let s := s.addFld CTX_ENG_VISITS_COUNT 1
    if s.isFree e.id then s.addFld CTX_ENG_LAPS_STALE 1
    else if s.badWords e.id ≠ 0 then s.quarantine e.id
    else
      let s := s.noteCtx e.id
      let c := s.ctxWords e.id
      if c.isDue s.tickCount then dueVisit e.id w c linkLocked s
      else if c.state = stArmed then (s.addFld CTX_ENG_LAPS_LAP 1).file e.id (s.votedOwner e.id) c
      else s.addFld CTX_ENG_LAPS_STALE 1

/-- The next admitted entry, taken off its list: those admitted before a rebuild come first (R737). -/
def CtxState.nextVisit (c : CtxState) : Option (Filed × CtxState) :=
  match c.loose, c.admitted with
  | e :: r, _ => some (e, { c with loose := r, visitIndex := c.visitIndex + 1 })
  | [], e :: r => some (e, { c with admitted := r, visitIndex := c.visitIndex + 1 })
  | [], [] => none

/-- `VISIT` (R134): the next admitted entry is visited by walker k modulo 4. `ctxLocked`: its context is locked by another
walker or a result lane; `linkLocked`: the target of its LINK is. Without an admitted entry, and while the engine's clock does
not run (R641, R734), nothing happens. -/
def execVisit (ctxLocked linkLocked : Bool) (s : State) : Host.Outcome State Fault Refusal :=
  if ¬ s.engineRuns ∨ s.pwr.stopped then .next s
  else match s.ctx.nextVisit with
    | none => .next s
    | some (e, c) => .next (visitEntry e (s.ctx.visitIndex % 4) ctxLocked linkLocked { s with ctx := c })

/-! ### Result lanes (R145 to R148, R160) -/

/-- The context after its final result (R93, R146). -/
def resultAfter (c : Ctx) (v : Verdict) (st : Status) (value : Nat) (pause : Bool) (now : Word) : Ctx :=
  let c := c.tally v
  let c := if st = .ok then (c.setLast value).setSeen true else c
  if v = .fail ∧ c.onFail = 2 then
    (if c.period = 0 then c else c.setNextDue ((c.nextDue + 2 ^ 32 - c.period) % 2 ^ 32)).setState stDone
  else if pause ∨ (v = .fail ∧ c.onFail = 1) then c.paused now
  else if c.period = 0 then c.setState stDone
  else c.setState stArmed

/-- A response that matches no flight entry (R146). -/
def staleResponse (source : Nat) (s : State) : State :=
  let s := if 0 < s.fld CTX_CRED_t_ORPHANS source then
      ((s.setFld CTX_CRED_t_ORPHANS (s.fld CTX_CRED_t_ORPHANS source - 1) source).setFld CTX_ENG_FLIGHT_ORPHANS
        (s.fld CTX_ENG_FLIGHT_ORPHANS - 1)).addFld CTX_CRED_t_CREDIT 1 source
    else s
  s.addFld CTX_ENG_FLIGHT_STALE_RESP 1

/-- The final result of a flight entry's context (R93, R146, R150). -/
def finalResult (i : Nat) (e : Flight) (c : Ctx) (v : Verdict) (st : Status) (value : Nat) (s : State) : State :=
  let id := e.id
  let dom := s.votedOwner id
  let s :=
    if e.destroy then s.freeCtx id dom c.state
    else
      let c' := resultAfter c v st value e.pause s.tickCount
      let s := s.storeCtx id dom c.state c'
      let s := if c'.state = stArmed then s.file id dom c' else s
      if wantsRecord c.recPolicy (decide (v = .fail)) (!c.seen) then
        produceRecord dom e.lane
          (recordW0 id c.kind (decide (v = .fail)) c.late (!c.seen) e.attempt st.code dom value) c.visitDue s
      else s
  (settleCredit e.target (decide (st = .timeout)) s).freeFlight i

/-- A response processed by a result lane for an occupied entry (R146). A context that is no longer IN_FLIGHT, because it was
quarantined meanwhile, is left unchanged (R93), and the entry and its credit are given back. The value of the response that
a bad flight entry is processed as is 0, which is this model's choice (R160, log entry 198). -/
def laneProcess (i : Nat) (e : Flight) (st : Status) (value : Nat) (s : State) : State :=
  let bad := (s.pword (flightKey i)).isBad
  let s := if bad then s.setFld CTX_ENG_STATUS_FLIGHT_ERR 1 else s
  let st := if bad then Status.errData else st
  let value := if bad then 0 else value
  let id := e.id
  if s.badWords id ≠ 0 then (settleCredit e.target (decide (st = .timeout)) (s.quarantine id)).freeFlight i
  else
    let s := s.noteCtx id
    let c := s.ctxWords id
    if c.state ≠ stInFlight then (settleCredit e.target (decide (st = .timeout)) s).freeFlight i
    else
    let v := c.verdict st value
    if v = .fail ∧ e.attempt < c.retry ∧ ¬ e.destroy ∧ st ≠ .timeout then
      let s := (s.writeFlightWord i).setFlight i { e with attempt := e.attempt + 1, tick := s.tickCount }
      let s := s.addFld CTX_ENG_EVENTS_RETRIES 1
      sendAction e.lane (s.flightTag i) e.target c e.dom (e.attempt + 1) e.vtick s
    else finalResult i e c v st value s

/-- The entry a tag names, when it is occupied and of the tag's generation. -/
def State.entryOfTag (s : State) (tag : Nat) : Option (Nat × Flight) :=
  match s.ctx.flight.find? (fun e => decide (e.1 = tag % 4096)) with
  | some (i, e) => if s.gen i = tag / 4096 % 16 then some (i, e) else none
  | none => none

/-- `RESULT_RESPONSE` (R146): a result lane takes a response. While its record buffer is full the lane takes none (R158). -/
def execResultResponse (lane : Fin 4) (source : Fin 224) (tag : Nat) (st : Status) (value : Nat) (s : State) :
    Host.Outcome State Fault Refusal :=
  if s.laneFull lane then .next s
  else match s.entryOfTag tag with
    | none => .next (staleResponse source (answeredAt (nth 0 ctxEndpoints lane) s))
    | some (i, e) => .next (laneProcess i e st (value % 2 ^ 24) (answeredAt (nth 0 ctxEndpoints lane) s))

/-- `FLIGHT_TIMEOUT` (R148): the attempt of an entry has outlasted FLIGHT_TIMEOUT ticks. -/
def execFlightTimeout (entry : Fin 2560) (s : State) : Host.Outcome State Fault Refusal :=
  match s.ctx.flight.find? (fun e => decide (e.1 = entry.val)) with
  | none => .next s
  | some (i, e) =>
    if s.fld CTX_ENG_CTL_FLIGHT_TIMEOUT ≠ 0 ∧ s.fld CTX_ENG_CTL_FLIGHT_TIMEOUT < (s.tickCount - e.tick).toNat
        ∧ ¬ s.laneFull e.lane then
      .next (laneProcess i e .timeout 0 (s.addFld CTX_ENG_EVENTS_TIMEOUTS 1))
    else .next s

/-! ### Result rings (R152 to R157) -/

/-- WR passes a multiple of NOTIFY: the result-ring event (R157). -/
def ringNotify (d : Nat) (s : State) : State :=
  let n := s.fld CTX_RINGd_CFG_NOTIFY d
  if n ≠ 0 ∧ s.fld CTX_RINGd_WR_WR d % n = 0 then raise (0x090 + d) 0 s else s

/-- WR advances over one completed record (R155). -/
def ringAdvanceOne (d : Nat) (st : Status) (s : State) : State :=
  let s := s.addFld CTX_RINGd_WR_WR 1 d
  let s := s.setFld CTX_RINGd_PENDING_PENDING (s.fld CTX_RINGd_PENDING_PENDING d - 1) d
  let s := if st = .ok then s else ringLoss d (s.addFld CTX_RINGd_LOSS_WERR 1 d)
  ringNotify d s

/-- WR advances over the completed records at the front of ring `d`'s list. -/
def ringAdvance (d : Nat) : List RingWrite → State → State
  | [], s => s
  | r :: rs, s =>
    if r.ring ≠ d then ringAdvance d rs s
    else match r.done with
      | none => s
      | some st =>
        ringAdvance d rs (ringAdvanceOne d st { s with ctx := { s.ctx with writes := dropFirst r s.ctx.writes } })

/-- `RING_WRITE_RESPONSE` (R155): the response to the write of the record at position `pos` of ring `d`. -/
def execRingWriteResponse (d : Fin 16) (pos : Nat) (st : Status) (s : State) : Host.Outcome State Fault Refusal :=
  let w := s.ctx.writes.map (fun r =>
    if r.ring = d.val ∧ r.pos = pos ∧ r.done = none then { r with done := some st } else r)
  let s := match s.ctx.writes.find? (fun r => decide (r.ring = d.val ∧ r.pos = pos ∧ r.done = none)) with
    | some r => answeredAt (nth 0 ctxEndpoints r.lane) s
    | none => s
  .next (ringAdvance d w { s with ctx := { s.ctx with writes := w } })

/-- A write to CTX_RINGd_RD (R156). -/
def ringRdEffect (d : Nat) (v : Word) (s : State) : State :=
  let rd := s.fld CTX_RINGd_RD_RD d
  if (bits v 0 32 + 2 ^ 32 - rd) % 2 ^ 32 ≤ (s.fld CTX_RINGd_WR_WR d + 2 ^ 32 - rd) % 2 ^ 32 then
    s.setFld CTX_RINGd_RD_RD (bits v 0 32) d
  else s

/-- `RING_RD_WRITE` (R156). -/
def execRingRdWrite (m : Ident) (d : Fin 16) (h : Half) (data : Word) (s : State) : Host.Outcome State Fault Refusal :=
  .next (regWrite .CTX_RINGd_RD [d] m h
    (fun s => ringRdEffect d (s.merged (CTX_RINGd_RD_RD.key d 0 0) h data) s) s)

/-- A write to CTX_RINGd_CFG (R152, R164): with EN 0 a LOG2_SIZE outside 4 to 24 makes the whole write ignored; while EN
is 1 LOG2_SIZE is locked; a rise of EN sets WR and RD to 0. -/
def ringCfgEffect (d : Nat) (v : Word) (s : State) : State :=
  let en := s.on CTX_RINGd_CFG_EN d
  if ¬ en ∧ (bits v 8 5 < 4 ∨ 24 < bits v 8 5) then s
  else
    let s := if en then s else s.setFld CTX_RINGd_CFG_LOG2_SIZE (bits v 8 5) d
    let s := if ¬ en ∧ bit v 0 then (s.setFld CTX_RINGd_WR_WR 0 d).setFld CTX_RINGd_RD_RD 0 d else s
    (s.setFld CTX_RINGd_CFG_EN (bits v 0 1) d).setFld CTX_RINGd_CFG_NOTIFY (bits v 32 24) d

/-- `RING_CFG_WRITE` (R152). -/
def execRingCfgWrite (m : Ident) (d : Fin 16) (h : Half) (data : Word) (s : State) : Host.Outcome State Fault Refusal :=
  .next (regWrite .CTX_RINGd_CFG [d] m h
    (fun s => ringCfgEffect d (s.merged (CTX_RINGd_CFG_EN.key d 0 0) h data) s) s)

/-! ### The rebuild as commanded (R161, R737) -/

/-- A write to CTX_ENG_CTL: EN and FLIGHT_TIMEOUT are stored, REBUILD acts. -/
def engCtlEffect (h : Half) (data : Word) (s : State) : State :=
  let v := s.merged CTX_ENG_CTL_EN.off h data
  let s := (s.setFld CTX_ENG_CTL_EN (bits v 0 1)).setFld CTX_ENG_CTL_FLIGHT_TIMEOUT (bits v 32 32)
  if wbit h data CTX_ENG_CTL_REBUILD then startRebuild s else s

/-- `REBUILD` (R161): a write of CTX_ENG_CTL that carries REBUILD. -/
def execRebuild (m : Ident) (h : Half) (data : Word) (s : State) : Host.Outcome State Fault Refusal :=
  .next (regWrite .CTX_ENG_CTL [] m h (engCtlEffect h data) s)

/-- The IDs of the contexts the store lists, in ascending order: every other context is FREE. -/
def State.listedContexts (s : State) : List Nat :=
  ((s.mem.filter (fun e => decide (e.1 < 4194304))).map (fun e => e.1 / 4)).dedup

/-- The scan of one context (R161, R737): a bad word quarantines it, an ARMED or DUE context is filed. -/
def scanOne (s : State) (id : Nat) : State :=
  if s.isFree id then s
  else if s.badWords id ≠ 0 then s.quarantine id
  else
    let s := s.noteCtx id
    let c := s.ctxWords id
    if c.state = stArmed ∨ c.state = stDue then s.file id (s.votedOwner id) c else s

/-- The scan in ascending ID order: true once every context has been read, false where a further uncorrectable link word has
restarted the rebuild (R737). -/
def scanAll : List Nat → State → State × Bool
  | [], s => (s, true)
  | id :: r, s =>
    let t := scanOne s id
    if t.fld CTX_ENG_STATUS_REBUILDS = s.fld CTX_ENG_STATUS_REBUILDS then scanAll r t else (t, false)

/-- `REBUILD_SCAN_END` (R161): the scan has filed every ARMED and DUE context; admission resumes at the next boundary. A scan
that has restarted goes on. -/
def execRebuildScanEnd (s : State) : Host.Outcome State Fault Refusal :=
  if s.on CTX_ENG_STATUS_REBUILDING then
    match scanAll s.listedContexts s with
    | (t, true) => .next (t.setFld CTX_ENG_STATUS_REBUILDING 0)
    | (t, false) => .next t
  else .next s

/-! ### Audits (R114, R115, R162, R163) -/

/-- Lowest index below `n` (counting from `i`) that fails a test. -/
def lowestFail (p : Nat → Bool) : Nat → Nat → Option Nat
  | 0, _ => none
  | n + 1, i => if p i then some i else lowestFail p n (i + 1)

/-- DOMAIN_BALANCE fails for domain `d`. -/
def State.domainUnbalanced (s : State) (d : Nat) : Bool :=
  decide ((s.fld CTX_DOMd_CREATED_COUNT d + 2 ^ 64 - s.fld CTX_DOMd_DESTROYED_COUNT d) % 2 ^ 64
    ≠ s.fld CTX_DOMd_STATUS_RESIDENT d)

/-- The failed checks of R114, as the bits of CTX_AUDIT[3:0]. -/
def State.ctxAuditFails (s : State) : Nat :=
  let res := s.fld CTX_COUNT_RESIDENT_RESIDENT
  bnat ((List.range 16).any s.domainUnbalanced)
  + 2 * bnat (decide (((List.range 16).map (fun d => s.fld CTX_DOMd_STATUS_RESIDENT d)).foldl (· + ·) 0 ≠ res))
  + 4 * bnat (decide (((List.range 6).map (fun k => s.fld CTX_STATE_COUNTs_COUNT (k + 1))).foldl (· + ·) 0 ≠ res))
  + 8 * bnat (decide (s.fld CTX_COUNT_RESIDENT_FREE + res ≠ 1048576))

/-- CREDIT_SUM fails for target `t`. -/
def State.creditUnbalanced (s : State) (t : Nat) : Bool :=
  decide (s.fld CTX_CRED_t_CREDIT t + (s.ctx.flight.filter (fun e => decide (e.2.target = t))).length
    + s.fld CTX_CRED_t_ORPHANS t ≠ s.fld CTX_CRED_t_DEPTH t)

/-- RING_SUM fails for ring `d`. -/
def State.ringUnbalanced (s : State) (d : Nat) : Bool :=
  decide (s.fld CTX_RINGd_PRODUCED_COUNT d % 2 ^ 32
    ≠ (s.fld CTX_RINGd_WR_WR d + s.fld CTX_RINGd_LOSS_FULL d + s.fld CTX_RINGd_PENDING_PENDING d) % 2 ^ 32)

/-- The failed checks of R162, as the bits of CTX_ENG_AUDIT[2:0]. -/
def State.engAuditFails (s : State) : Nat :=
  bnat (decide (s.ctx.flight.length ≠ s.fld CTX_STATE_COUNTs_COUNT 3))
  + 2 * bnat ((List.range 224).any s.creditUnbalanced)
  + 4 * bnat ((List.range 16).any s.ringUnbalanced)

/-- Record the checks of R114 that failed (R115); the tick whose boundary epoch this is has the number TCK_COUNT + 1, since
the count increments in the same epoch (R29, R44). -/
def recordCtxAudit (fails : Nat) (low : Option Nat) (s : State) : State :=
  if fails = 0 then s
  else
    let key := CTX_AUDIT_DOMAIN_BALANCE.off
    let s := if bits (s.reg key) 0 4 = 0 then
        s.setReg CTX_AUDIT_TICK_TICK.off (s.tickCount + 1) else s
    let s := if ¬ s.on CTX_AUDIT_DOMAIN_BALANCE ∧ fails % 2 = 1 then s.setFld CTX_AUDIT_DOMAIN (low.getD 0) else s
    (s.setReg key (s.reg key ||| BitVec.ofNat 64 fails)).addFld CTX_AUDIT_FAIL_TICKS 1

/-- Record the engine checks of R162 that failed (R163). TARGET and RING are latched at a check's first failure since its own
bit was cleared, and FAIL_TICKS wraps: this model's choices (log entry 199). -/
def recordEngAudit (fails : Nat) (target ring : Option Nat) (s : State) : State :=
  if fails = 0 then s
  else
    let key := CTX_ENG_AUDIT_FLIGHT_SUM.off
    let s := if ¬ s.on CTX_ENG_AUDIT_CREDIT_SUM ∧ fails / 2 % 2 = 1 then s.setFld CTX_ENG_AUDIT_TARGET (target.getD 0) else s
    let s := if ¬ s.on CTX_ENG_AUDIT_RING_SUM ∧ fails / 4 % 2 = 1 then s.setFld CTX_ENG_AUDIT_RING (ring.getD 0) else s
    (s.setReg key (s.reg key ||| BitVec.ofNat 64 fails)).addFld CTX_ENG_AUDIT_FAIL_TICKS 1

/-- The context-count and engine audits of a boundary epoch (R114, R162). They are made only while the engine's clock
runs (R683), raise their source once a tick with the bits that the two registers hold (R667), and correct nothing. -/
def contextAudits (s : State) : State :=
  if ¬ s.engineRuns ∨ s.pwr.stopped then s
  else
    let a := s.ctxAuditFails
    let b := s.engAuditFails
    let s := recordEngAudit b (lowestFail s.creditUnbalanced 224 0) (lowestFail s.ringUnbalanced 16 0)
      (recordCtxAudit a (lowestFail s.domainUnbalanced 16 0) s)
    if a = 0 ∧ b = 0 then s
    else raise 0x080 (bits (s.reg CTX_AUDIT_DOMAIN_BALANCE.off) 0 4 + 16 * bits (s.reg CTX_ENG_AUDIT_FLIGHT_SUM.off) 0 3) s

end Sys2Proof.Machine
end

