-- ==== Sys2Proof/Machine/Measure.lean ====
section
/-! DEFINITION. Measurement (chapter 06): the phases of a measuring action, the group ADC, the values of the measuring
kinds and their EV24 codes, and the TDR search. -/

namespace Sys2Proof.Machine

/-! ### EV24 (R82, R83, R229) -/

/-- The code of num / den rounded to a multiple of the step at exponent `e` (1 to 31), or none where it needs a larger
exponent; a value between two codes takes the larger. -/
def ev24At (num den e : Nat) : Option Nat :=
  let step := den * 2 ^ (e - 1)
  let m := (2 * num + step) / (2 * step)
  if m < 2 ^ 20 then some (if e = 1 then m else e * 2 ^ 19 + (m - 2 ^ 19)) else none

/-- The first exponent from `e` on at which the value fits. -/
def ev24From (num den : Nat) : Nat → Nat → Nat
  | 0, _ => 0xFFFFFF
  | n + 1, e =>
    match ev24At num den e with
    | some c => c
    | none => ev24From num den n (e + 1)

/-- The EV24 code nearest to num / den; a negative value returns 0 (R229). -/
def ev24 (num : Int) (den : Nat) : Nat := ev24From num.toNat den 31 1

/-! ### Fields of the measuring kinds (R88, R89) -/

def Action.chA (a : Action) : Nat := bits a.w1 0 11
def Action.chB (a : Action) : Nat := bits a.w1 11 11
def Action.range (a : Action) : Nat := bits a.w1 28 4
def Action.force (a : Action) : Nat := bits a.w1 32 8
def Action.fourWire (a : Action) : Bool := decide (a.kind = 0) && bit a.w1 62
def Action.senseA (a : Action) : Nat := bits a.w1 40 11
def Action.senseB (a : Action) : Nat := bits a.w1 51 11
def Action.capacitance (a : Action) : Bool := decide (a.kind = 2) && bit a.w1 32
def Action.ret (a : Action) : Bool := decide (a.kind = 2) && bit a.w1 33

/-- The force of PAIR_CONT and PAIR_ISO; LOAD_MEASURE takes IFORCE as 255 (R232). -/
def Action.iforce (a : Action) : Nat := if a.kind = 2 then 255 else a.force

/-- The full scale of a range in µA (R222). -/
def fullScale : Nat → Nat
  | 0 => 2
  | 1 => 20
  | 2 => 200
  | 3 => 2000
  | _ => 8000

/-- The settle time in channel cycles (R79). -/
def Action.settleCycles (a : Action) : Nat := bits (BitVec.ofNat 13 a.settle) 0 9 * 2 ^ bits (BitVec.ofNat 13 a.settle) 9 4

/-- DEVICE_TIME in channel cycles (R14). -/
def State.channelCycle (s : State) : Nat := s.fld DEVICE_TIME_TIME / 12

/-! ### Connect, settle and hold (R221 to R226, R230) -/

/-- The parametric unit of a channel connects: the driver turns off first (R221). -/
def connectUnit (fn : PmuFn) (s : State) (c : Nat) : State :=
  s.modChan (c / 16) (c % 16) (fun k => { k with base := 0, hold := none, unit := fn })

/-- The units of an action connect (R232 to R234). -/
def connectUnits (a : Action) (s : State) : State :=
  match a.kind with
  | 1 => connectUnit .forceV (connectUnit .forceV s a.chA) a.chB
  | 2 =>
    let s := connectUnit (if a.capacitance then .forceV else .forceI) s a.chA
    if a.ret then s else connectUnit .forceV s a.chB
  | _ =>
    let s := connectUnit .forceV (connectUnit .forceI s a.chA) a.chB
    if a.fourWire then connectUnit .measureV (connectUnit .measureV s a.senseA) a.senseB else s

/-- An action whose force is zero forces and measures nothing (R230). -/
def Action.noForce (a : Action) : Bool := decide (a.kind ≤ 1 ∧ a.force = 0)

/-- Replace the action in a slot. -/
def State.modAct (s : State) (g slot : Nat) (f : GAct → GAct) : State := s.modGrp g (fun x => x.modAct slot f)

/-- What a forcing unit holds at its channel and the flags it sets, for the load it meets (R223, R224): where it forces a
current, `load` is the ball voltage in nV that the current would need, held within 0 V to 3.3 V; where it forces a
voltage, `load` is the current in nA that the load would take, held within 8.8 mA either way. -/
def unitMeets (fn : PmuFn) (range : Nat) (load : Int) : Option (Int × Bool × Bool) :=
  match fn with
  | .forceI => some (max 0 (min 3300000000 load), decide (load < 0 ∨ 3300000000 < load), false)
  | .forceV => some (max (-8800000) (min 8800000 load), false, decide (1000 * fullScale range < load.natAbs))
  | _ => none

/-- The measuring range at a channel: that of the action that holds it. -/
def State.rangeAt (s : State) (c : Nat) : Nat :=
  match ((s.grp (c / 16)).chan (c % 16)).holder with
  | some w => (((s.grp w.group).inSlot w.slot).map (fun a => a.act.range)).getD 0
  | none => 0

/-- The load at a channel's ball as its unit meets it: a flag that the unit sets stays for the rest of the action. -/
def noteLoad (s : State) (x : Nat × Int) : State :=
  match unitMeets ((s.grp (x.1 / 16)).chan (x.1 % 16)).unit (s.rangeAt x.1) x.2 with
  | some (v, compliance, overrange) =>
    (s.modGrp (x.1 / 16) (fun y => y.modChan (x.1 % 16) (fun k => { k with
      compliance := k.compliance || compliance
      overrange := k.overrange || overrange }))).emit (.unitOutput x.1 v)
  | none => s

/-- The loads that units have met by an event: channel ID and load (log entry 60). -/
def noteLoads (loads : List (Nat × Int)) (s : State) : State := loads.foldl noteLoad s

/-- The compliance and overrange flags of channel `c` (R223, R224). -/
def State.compliance (s : State) (c : Nat) : Bool := ((s.grp (c / 16)).chan (c % 16)).compliance
def State.overrange (s : State) (c : Nat) : Bool := ((s.grp (c / 16)).chan (c % 16)).overrange

/-- `MEASURE_CONNECT` (R226): after the last grant the units connect and the settle begins. -/
def execMeasureConnect (g : Fin 128) (slot : Fin 16) (s : State) : Host.Outcome State Fault Refusal :=
  match (s.grp g).inSlot slot with
  | some a =>
    if a.phase = .claimed ∧ a.act.kind ≤ 2 then
      let s := if a.act.noForce then s else connectUnits a.act s
      .next (s.modAct g slot (fun b => { b with phase := .settling, badParam := a.act.noForce }))
    else .next s
  | none => .next s

/-- The channels whose quantities an action holds, in the order of their conversion, with whether each is a voltage. -/
def Action.quantityList (a : Action) : List (Nat × Bool) :=
  if a.kind = 1 then [(a.chA, false)]
  else if a.fourWire then [(a.senseA, true), (a.senseB, true)]
  else [(a.chA, true)]

/-- Whether quantity `p` is served before quantity `q` (R227): hold cycle, local before companion, then order. -/
def Quantity.before (g : Nat) (p q : Quantity) : Bool :=
  let rank := fun (x : Quantity) => if x.who.group = g then 0 else 1 + x.who.group
  decide (p.cycle < q.cycle ∨ (p.cycle = q.cycle ∧ (rank p < rank q ∨ (rank p = rank q ∧ p.order ≤ q.order))))

/-- Insert a quantity in the order of R227. -/
def insertQuantity (g : Nat) (q : Quantity) : List Quantity → List Quantity
  | [] => [q]
  | p :: r => if Quantity.before g p q then p :: insertQuantity g q r else q :: p :: r

/-- A quantity joins the line of the ADC of its own channel's group (R227). -/
def holdQuantity (g slot order : Nat) (s : State) (x : Nat × Nat × Bool) : State :=
  let h := x.2.1 / 16
  let q : Quantity := { cycle := s.channelCycle, who := ⟨g, slot⟩, order := order, idx := x.1, voltage := x.2.2 }
  let s := s.modGrp h (fun y => { y with adcQueue := insertQuantity h q y.adcQueue })
  s.setFld CHG_ADC_STATUS_WAITING (min (s.grp h).adcQueue.length 63) h

/-- `SETTLE_END` (R226): the settle expires and the action's quantities are held; the capacitance ramp starts instead
(R234). `loads` are those that units have met by then (R223, R224). -/
def execSettleEnd (g : Fin 128) (slot : Fin 16) (loads : List (Nat × Int)) (s : State) : Host.Outcome State Fault Refusal :=
  let s := noteLoads loads s
  match (s.grp g).inSlot slot with
  | some a =>
    if a.phase ≠ .settling then .next s
    else if a.badParam then .next (s.modAct g slot (fun b => { b with phase := .computing }))
    else if a.act.capacitance then
      let s := connectUnit .forceI s a.act.chA
      .next (s.modAct g slot (fun b => { b with phase := .ramping none }))
    else
      let l := a.act.quantityList
      let s := s.modAct g slot (fun b => { b with phase := .converting, quantities := l.length })
      .next (((List.range l.length).zip l).foldl (holdQuantity g slot a.serial) s)
  | none => .next s

/-! ### The group ADC (R225, R227, R228) -/

/-- The conversions of a quantity (R228). -/
def State.avgCount (s : State) (g : Nat) : Nat := 4 ^ s.fld CHG_PMU_CFG_AVG g

/-- `ADC_QUANTITY_START` (R227): the ADC takes the first held quantity. -/
def execAdcQuantityStart (g : Fin 128) (s : State) : Host.Outcome State Fault Refusal :=
  match (s.grp g).adc, (s.grp g).adcQueue with
  | none, q :: rest =>
    let s := s.modGrp g (fun x => { x with
      adcQueue := rest, adc := some { q := q, sum := 0, count := 0, gain16 := q.voltage, settled := !q.voltage } })
    let s := s.setFld CHG_ADC_STATUS_WAITING (min rest.length 63) g
    .next (s.maxFld CHG_ADC_STATUS_MAX_WAIT (s.channelCycle - q.cycle - 1) g)
  | _, _ => .next s

/-- A quantity's result reaches its action; after the last one Compute begins (R226). -/
def takeResult (g slot idx : Nat) (r : Measured) (s : State) : State :=
  match (s.grp g).inSlot slot with
  | some a =>
    if a.phase = .converting ∧ ¬ a.results.any (fun x => decide (x.1 = idx)) then
      let l := a.results ++ [(idx, r)]
      s.modAct g slot (fun b => { b with results := l, phase := if l.length = a.quantities then .computing else .converting })
    else s
  | none => s

/-- A finished quantity leaves the ADC: to the group's own action, or back by the path of its claim (R227). -/
def finishQuantity (g : Nat) (q : Quantity) (r : Measured) (s : State) : State :=
  let s := s.modGrp g (fun x => { x with adc := none })
  if q.who.group = g then takeResult g q.who.slot q.idx r s
  else s.emit (.converted g q.who.group q.who.slot q.idx r.sum r.count r.gain16 (sameDie g q.who.group))

/-- `ADC_CONVERSION_END` (R228): a conversion ends with its raw code. Where the first conversion of a voltage overranges
at gain 16 (`ovl`), it is repeated at gain 1 (R225). `loads` are those that units have met by then (R223, R224). -/
def execAdcConversionEnd (g : Fin 128) (code : BitVec 16) (ovl : Bool) (loads : List (Nat × Int)) (s : State) :
    Host.Outcome State Fault Refusal :=
  let s := noteLoads loads s
  match (s.grp g).adc with
  | none => .next s
  | some c =>
    let s := (s.setFld CHG_ADC_STATUS_LAST_CODE code.toNat g).addFld CHG_MEAS_COUNT_CONVERSIONS 1 g
    if ovl ∧ ¬ c.settled ∧ c.gain16 then
      .next (s.modGrp g (fun x => { x with adc := some { c with gain16 := false, settled := true } }))
    else
      let sum := c.sum + signed 16 code.toNat
      let n := c.count + 1
      if s.avgCount g ≤ n then .next (finishQuantity g c.q ⟨sum, n, c.gain16⟩ s)
      else .next (s.modGrp g (fun x => { x with adc := some { c with sum := sum, count := n, settled := true } }))

/-- `COMPANION_RESULT` (R227): a companion quantity's result reaches the action's group. -/
def execCompanionResult (g : Fin 128) (slot : Fin 16) (idx : Fin 3) (sum : Int) (count : Nat) (gain16 : Bool) (s : State) :
    Host.Outcome State Fault Refusal :=
  .next (takeResult g slot idx ⟨sum, count, gain16⟩ s)

/-! ### Values (R229 to R235) -/

/-- A sum of codes in units of 2^-16 code, with a gain and an offset correction (R229, R248): as it stands where both are
zero. -/
def corrected (gain off : Nat) (r : Measured) : Int :=
  if gain = 0 ∧ off = 0 then r.sum * 65536 else Config.corrected (signed 16 gain) (signed 16 off) r.sum r.count

/-- The sum of a voltage quantity of channel `c`, in units of 2^-20 µV: 125 µV per code at gain 1, 7.8125 at gain 16. -/
def voltageSum (s : State) (c : Nat) (r : Measured) : Int :=
  if r.gain16 then corrected (bits (s.calWord c 6) 0 16) (bits (s.calWord c 6) 16 16) r * 125
  else corrected (bits (s.calWord c 5) 32 16) (bits (s.calWord c 5) 48 16) r * 2000

/-- The sum of a current quantity of channel `c` on a range, in 2^-16 codes of FS / 32,768. -/
def currentSum (s : State) (c range : Nat) (r : Measured) : Int :=
  corrected (bits (s.calWord c range) 32 16) (bits (s.calWord c range) 48 16) r

/-- path(c) in µΩ and cap(c) in fF (R232, R234, R248). -/
def State.path (s : State) (c : Nat) : Nat := bits (s.calWord c 8) 0 24
def State.cap (s : State) (c : Nat) : Nat := bits (s.calWord c 8) 24 24
/-- tdrzero(c) in ps (R238, R248). -/
def State.tdrZero (s : State) (c : Nat) : Nat := bits (s.calWord c 9) 0 16

/-- The result of quantity `idx` of an action. -/
def GAct.result (a : GAct) (idx : Nat) : Measured :=
  match a.results.find? (fun x => decide (x.1 = idx)) with
  | some x => x.2
  | none => ⟨0, 1, false⟩

/-- The resistance value of PAIR_CONT and LOAD_MEASURE (R232). -/
def contValue (a : GAct) (s : State) : Nat :=
  if s.compliance a.act.chA then 0xFFFFFF
  else
    let act := a.act
    let ra := a.result 0
    let v : Int := if act.fourWire then voltageSum s act.senseA ra * (a.result 1).count - voltageSum s act.senseB (a.result 1) * ra.count
      else voltageSum s act.chA ra
    let n := if act.fourWire then ra.count * (a.result 1).count else ra.count
    let den := 1048576 * n * act.iforce * fullScale act.range
    let path := if act.fourWire then 0 else if act.ret then s.path act.chA else s.path act.chA + s.path act.chB
    ev24 (v * 255 * 1000000 - (path * den : Nat)) (1000 * den)

/-- The resistance value of PAIR_ISO (R233). -/
def isoValue (a : GAct) (s : State) : Nat :=
  if s.overrange a.act.chA then 0
  else
    let r := a.result 0
    let sum := currentSum s a.act.chA a.act.range r
    if sum ≤ ((65536 * r.count : Nat) : Int) then 0xFFFFFF
    else ev24 ((1000 * a.act.force * 3300000 * 32768 * r.count * 65536 : Nat) : Int) (255 * sum.toNat * fullScale a.act.range)

/-- The capacitance value (R234): ramp times in sixteenths of a channel cycle. -/
def capValue (a : GAct) (s : State) : Nat :=
  match a.ramp with
  | none => 0xFFFFFF
  | some dt =>
    ev24 (((1000 * fullScale a.act.range * dt * 625 : Nat) : Int) - ((16000000 * s.cap a.act.chA : Nat) : Int)) 16000000

/-- The value of an action whose Compute has ended (R230 to R234). -/
def measureValue (a : GAct) (s : State) : Nat :=
  if a.badParam then 0
  else if a.act.kind = 1 then isoValue a s
  else if a.act.capacitance then capValue a s
  else contValue a s

/-- An OUT flag of the group's die is 1 (R257). -/
def State.railOut (s : State) (g : Nat) : Bool := (List.range 4).any (fun k => s.on CHG_RAILk_OUT (g / 32) k)

/-- CHG_MEAS_LAST and CHG_MEAS_COUNT at an answer (R257, R258). -/
def recordMeasure (g : Nat) (a : GAct) (value : Nat) (limit clamped : Bool) (s : State) : State :=
  (s.setReg (CHG_MEAS_LAST_VALUE.key g 0 0) (mkWord [(0, 24, value), (24, 3, a.act.kind), (27, 11, a.act.chA),
    (40, 1, bnat (s.compliance a.act.chA)), (41, 1, bnat (s.overrange a.act.chA)), (42, 1, bnat a.badParam), (43, 1, bnat (s.railOut g)),
    (44, 1, bnat limit), (45, 1, bnat clamped)])).addFld CHG_MEAS_COUNT_ACTIONS 1 g

/-- `MEASURE_RESPOND` (R226): Compute ends and the action is answered, its channels released. -/
def execMeasureRespond (g : Fin 128) (slot : Fin 16) (s : State) : Host.Outcome State Fault Refusal :=
  match (s.grp g).inSlot slot with
  | some a =>
    if a.phase = .computing then
      let v := measureValue a s
      let limit := a.act.capacitance && !a.badParam && a.ramp.isNone
      .next (answerAct g a (if a.badParam then .errData else .ok) v (recordMeasure g a v limit false s))
    else .next s
  | none => .next s

/-! ### The capacitance ramp (R234, R235) -/

/-- The discharge after the ramp: 0 V is forced on CH_A. -/
def startDischarge (g slot : Nat) (a : GAct) (ramp : Option Nat) (s : State) : State :=
  (connectUnit .forceV s a.act.chA).modAct g slot (fun b => { b with phase := .discharging, ramp := ramp })

/-- `RAMP_CROSSING` (R234): CH_A crosses the low threshold, then the high one, at `stamp` sixteenths of a channel cycle
after the ramp began. -/
def execRampCrossing (g : Fin 128) (slot : Fin 16) (stamp : Nat) (loads : List (Nat × Int)) (s : State) :
    Host.Outcome State Fault Refusal :=
  let s := noteLoads loads s
  match (s.grp g).inSlot slot with
  | some a =>
    (match a.phase with
     | .ramping none => .next (s.modAct g slot (fun b => { b with phase := .ramping (some stamp) }))
     | .ramping (some t1) => .next (startDischarge g slot a (some (stamp - t1)) s)
     | _ => .next s)
  | none => .next s

/-- `RAMP_LIMIT` (R234): t2 has not been reached within 2^24 channel cycles. -/
def execRampLimit (g : Fin 128) (slot : Fin 16) (loads : List (Nat × Int)) (s : State) : Host.Outcome State Fault Refusal :=
  let s := noteLoads loads s
  match (s.grp g).inSlot slot with
  | some a =>
    (match a.phase with
     | .ramping _ => .next (startDischarge g slot a none s)
     | _ => .next s)
  | none => .next s

/-- `RAMP_DISCHARGE_END` (R235): Compute follows the discharge. -/
def execRampDischargeEnd (g : Fin 128) (slot : Fin 16) (loads : List (Nat × Int)) (s : State) :
    Host.Outcome State Fault Refusal :=
  let s := noteLoads loads s
  match (s.grp g).inSlot slot with
  | some a =>
    if a.phase = .discharging then .next (s.modAct g slot (fun b => { b with phase := .computing })) else .next s
  | none => .next s

/-! ### TDR (R236 to R238) -/

/-- `TDR_START` (R236): the first TDR action whose claims are complete takes the sequencer; the low tick is the first to
begin from now on. -/
def execTdrStart (g : Fin 128) (s : State) : Host.Outcome State Fault Refusal :=
  match (s.grp g).tdr, (s.grp g).tdrQueue with
  | none, slot :: rest =>
    let t : TdrState := { slot := slot, low := false, started := false, lo := 0, hi := 0, first := true, strobe := 0,
                          shots := 0, hits := 0, clamped := false }
    .next ((s.modGrp g (fun x => { x with tdrQueue := rest, tdr := some t })).modAct g slot (fun b => { b with phase := .tdr }))
  | _, _ => .next s

/-- The TDR action is answered (R238). -/
def finishTdr (g : Nat) (t : TdrState) (value : Nat) (s : State) : State :=
  match (s.grp g).inSlot t.slot with
  | none => s.modGrp g (fun x => { x with tdr := none })
  | some a =>
    let s := s.modChan g (a.act.chA % 16) (fun c => { c with base := 0 })
    answerAct g a .ok value (recordMeasure g a value false t.clamped s)

/-- The value of a search that has ended at `lo` sub-steps (R238). -/
def tdrValue (s : State) (c lo : Nat) : Nat :=
  let num : Int := (lo * 625 : Nat) - (s.tdrZero c * 64 : Nat)
  let ps := ((2 * num + 64) / 128).toNat
  ev24 (ps : Int) 1

/-- A decision has been made: the search narrows, ends, or goes on (R238). -/
def tdrDecide (g : Nat) (t : TdrState) (hit : Bool) (a : GAct) (s : State) : State :=
  let next := fun (t : TdrState) => s.modGrp g (fun x => { x with tdr := some { t with shots := 0, hits := 0 } })
  if t.first then
    if ¬ hit then finishTdr g t 0xFFFFFF s
    else if t.lo < t.hi then next { t with first := false, strobe := (t.lo + t.hi) / 2 }
    else finishTdr g t (tdrValue s a.act.chA t.lo) s
  else
    let lo := if hit then t.lo else t.strobe + 1
    let hi := if hit then t.strobe else t.hi
    if lo < hi then next { t with lo := lo, hi := hi, strobe := (lo + hi) / 2 }
    else finishTdr g t (tdrValue s a.act.chA lo) s

/-- The TDR threshold of a group in nV times 4,095 (R236): PARAM[7:0] × 3.3 V ÷ 255 with the channel's THRESH
coefficients, those of the high threshold for a sample above it and of the low one for a sample below it. -/
def tdrThreshold (a : Action) (s : State) : Int :=
  let level : Int := (bits a.w1 28 8 * 3300000000 * 4095 / 255 : Nat)
  if bit a.w1 36 then s.lowLevel a.chA level else s.highLevel a.chA level

/-- A shot hits (R237): the sample is above the threshold with POLARITY 0, below it with POLARITY 1. -/
def tdrHit (a : Action) (ball : Int) (s : State) : Bool :=
  let th := tdrThreshold a s
  if bit a.w1 36 then decide (ball * 4095 < th) else decide (th < ball * 4095)

/-- The sequencer drives its channel with the impedance that IMP selects (R168, R236). -/
def tdrDrive (g i level : Nat) (s : State) : State :=
  let imp := s.on CHG_CHi_CFG_IMP g i
  s.modChan g i (fun c => { c with base := level, imp := imp, hold := none })

/-- A shot begins (R237): the driver rises at the boundary, and the strobe edge generator is set with the channel's strobe
deskew (R236). -/
def tdrShot (g : Nat) (s : State) : State :=
  match (s.grp g).tdr with
  | some t =>
    (match (s.grp g).inSlot t.slot with
     | some a =>
       let i := a.act.chA % 16
       let s := tdrDrive g i 2 s
       s.emit (.tdrShot a.act.chA t.strobe ((t.strobe : Int) + signed 8 (((s.grp g).chan i).deskew / 256)))
     | none => s)
  | none => s

/-- Channel cycle 8 × N of a shot's tick (R237): the driver falls until the next boundary. -/
def tdrFall (s : State) (g : Nat) : State :=
  match (s.grp g).tdr with
  | some t =>
    (match (s.grp g).inSlot t.slot with
     | some a => if t.started then tdrDrive g (a.act.chA % 16) 1 s else s
     | none => s)
  | none => s

/-- A tick boundary for a group's sequencer (R237): `ball` is the voltage in nV that the strobe sampled in the tick that
ends. The low tick begins, the first shot begins with END taken, or a shot's outcome is counted and the next one begins. -/
def tdrBoundary (g : Nat) (ball : Int) (s : State) : State :=
  match (s.grp g).tdr with
  | none => s
  | some t =>
    match (s.grp g).inSlot t.slot with
    | none => s.modGrp g (fun x => { x with tdr := none })
    | some a =>
      if ¬ t.low then
        (tdrDrive g (a.act.chA % 16) 1 s).modGrp g (fun x => { x with tdr := some { t with low := true } })
      else if ¬ t.started then
        let want := bits a.act.w1 40 24
        let lim := min (8 * s.curN - 16) 65535
        let hi := 128 * min want lim
        let lo := s.fld CHG_TDR_CFG_BLANK g
        tdrShot g (s.modGrp g (fun x => { x with tdr := some { t with
          started := true, lo := lo, hi := hi, strobe := hi, clamped := decide (lim < want) } }))
      else
        let hits := t.hits + bnat (tdrHit a.act ball s)
        let shots := t.shots + 1
        tdrShot g (if shots < s.fld CHG_TDR_CFG_SHOTS g then
          s.modGrp g (fun x => { x with tdr := some { t with shots := shots, hits := hits } })
        else tdrDecide g t (decide (shots < 2 * hits)) a s)

end Sys2Proof.Machine
end

