-- ==== Sys2Proof/Machine/Calibrate.lean ====
section
/-! DEFINITION. Calibration and self-test of the channel groups and the rail monitors (chapter 06, R239 to R258). -/

namespace Sys2Proof.Machine

/-! ### Windows (R240, R241) -/

/-- A context's words as their bits stand. -/
def State.ctxRaw (s : State) (id : Nat) : Ctx :=
  let w := fun k => let p := s.pword (ctxKey id k); if p.isBad then p.data else p.value
  { w0 := w 0, w1 := w 1, w2 := w 2, w3 := w 3 }

/-- The channels a context names (R240). -/
def Ctx.names (c : Ctx) : List Nat :=
  let a : Action := { src := 0, tag := 0, w1 := c.w1, settle := 0, dom := 0, kind := c.kind, attempt := 0, vtick := 0 }
  if c.kind ≤ 4 then (c.chA :: a.channels) else []

/-- A context counts for group `g`: ARMED, DUE or IN_FLIGHT, and it names a channel of the group. -/
def Ctx.refersTo (c : Ctx) (g : Nat) : Bool :=
  decide (1 ≤ c.state ∧ c.state ≤ 3) && c.names.any (fun x => decide (x / 16 = g))

/-- CHG_CAL_REFS of a group (R240): the count is formed from the store, so it changes with each store write. -/
def State.calRefs (s : State) (g : Nat) : Nat := (s.listedContexts.filter (fun id => (s.ctxRaw id).refersTo g)).length

/-- The tick that begins is a calibration window for the group (R241). -/
def State.isWindow (s : State) (g : Nat) : Bool :=
  decide (s.fld CHG_STATUS_QUEUED g = 0 ∧ s.fld CHG_STATUS_CLAIMED g = 0 ∧ (s.grp g).waiters = [])
    && !s.on CHG_STATUS_PLAYING g && !s.on CHG_MODE_REFLEX_ON g
    && decide (s.mode g = mdSafe ∨ s.mode g = mdContext ∨ s.mode g = mdParametric ∨ s.mode g = mdTdr)
    && decide (s.calRefs g = 0)

/-! ### Commands in execution (R250, R251) -/

/-- CAL_RUNNING and ST_RUNNING follow a group's tasks. -/
def syncTasks (g : Nat) (s : State) : State :=
  let isTest := fun (t : CalTask) => match t.work with | .tests _ => true | _ => false
  (s.setFld CHG_CAL_STATUS_CAL_RUNNING (bnat ((s.grp g).tasks.any (fun t => !isTest t))) g).setFld
    CHG_CAL_STATUS_ST_RUNNING (bnat ((s.grp g).tasks.any isTest)) g

/-- The lowest of a list of groups, or 0xFFFF_FFFF. -/
def firstGroup (l : List Nat) : Nat := l.foldl min 0xFFFFFFFF

/-- The failure word of CAL_GROUP: group, channel position, item bit. -/
def failWord (f : Nat × Nat × Nat) : Word := mkWord [(0, 8, f.1), (8, 4, f.2.1), (12, 4, f.2.2)]

/-- The reply of a calibration or self-test command that ends; `late`: its timeout has passed (R250, R251). The group that
CAL_LOAD names is the first in which no valid record was found. -/
def calReply (c : CalCmd) (late : Bool) (s : State) : State :=
  let n := BitVec.ofNat 64 c.doneCount
  let first := BitVec.ofNat 64 (firstGroup (c.notDone ++ c.left))
  match c.pkt.opcode with
  | 0x0401 =>
    (match c.failed with
     | some f => endCommand c.pkt .failed [n, first, failWord f] s
     | none => endCommand c.pkt (if late then .busy else .ok) [n, first] s)
  | 0x0402 => endCommand c.pkt (if late then .busy else if c.notDone = [] then .ok else .errData)
      [n, BitVec.ofNat 64 (firstGroup c.notDone)] s
  | 0x0404 =>
    endCommand c.pkt (if late then .busy else .ok)
      [n, BitVec.ofNat 64 c.notDone.length, BitVec.ofNat 64 (firstGroup c.notDone)] s
  | _ =>
    if late then endCommand c.pkt .busy [] s
    else if 2000 < c.ppm.natAbs then endCommand c.pkt .failed [] s
    else endCommand c.pkt .ok [BitVec.ofInt 64 c.ppm] s

/-- A task runs VMEM_PATTERN (R254). -/
def CalTask.patterns (t : CalTask) : Bool := t.vmem.testBit 4

/-- Remove a command and its tasks: a pattern test of it that runs ends with it (R255). -/
def dropCal (p : Packet) (s : State) : State :=
  let s := { s with chg := { s.chg with cmds := s.chg.cmds.filter (fun c => decide (c.pkt ≠ p)) } }
  (List.range 128).foldl (fun s g =>
    if (s.grp g).tasks.any (fun t => decide (t.cmd = p)) then
      syncTasks g (s.modGrp g (fun x => { x with
        tasks := x.tasks.filter (fun t => decide (t.cmd ≠ p))
        pattern := x.tasks.any (fun t => decide (t.cmd ≠ p) && t.patterns) }))
    else s) s

/-- A group has ended its part of a command: `ok`, or the reason it counts as not done. -/
def groupDone (p : Packet) (g : Nat) (ok : Bool) (fail : Option (Nat × Nat × Nat)) (ppm : Int) (s : State) : State :=
  let s := syncTasks g (s.modGrp g (fun x => { x with tasks := dropFirstP (fun t => decide (t.cmd = p)) x.tasks }))
  let upd := fun (c : CalCmd) => { c with
    left := c.left.filter (fun h => decide (h ≠ g))
    doneCount := c.doneCount + bnat (ok || decide (p.opcode = 0x0404))
    notDone := if ok then c.notDone else c.notDone ++ [g]
    failed := match c.failed with
      | some f => some f
      | none => fail
    ppm := ppm }
  let cmds := s.chg.cmds.map (fun c => if c.pkt = p then upd c else c)
  let s := { s with chg := { s.chg with cmds := cmds } }
  match cmds.find? (fun c => decide (c.pkt = p)) with
  | some c => if c.left = [] then dropCal p (calReply c false s) else s
  | none => s

/-- The first group and count of a range (R250). -/
def calRange (p : Packet) : List Nat := (List.range (bits (p.w 1) 8 8)).map (fun k => bits (p.w 1) 0 7 + k)
def calRangeValid (p : Packet) : Bool :=
  decide (1 ≤ bits (p.w 1) 8 8 ∧ bits (p.w 1) 8 8 ≤ 128 ∧ bits (p.w 1) 0 7 + bits (p.w 1) 8 8 ≤ 128)

/-- A command begins on its groups. -/
def beginCal (p : Packet) (groups : List Nat) (work : CalWork) (s : State) : State :=
  let c : CalCmd := { pkt := p, left := groups, doneCount := 0, notDone := [], failed := none, ppm := 0,
                      deadline := s.fld TCK_COUNT_COUNT + (p.w 3).toNat }
  let s := { s with chg := { s.chg with cmds := s.chg.cmds ++ [c] } }
  groups.foldl (fun s g =>
    syncTasks g (s.modGrp g (fun x => { x with tasks := x.tasks ++ [CalTask.mk p work [] 0 0 0 false] }))) s

/-! ### The image and its records (R245, R248, R249, R252) -/

/-- Word `k` of the record of group `g` in copy F, A or B (1, 2, 3). -/
def calNvaWord (copy g k : Nat) : Nat :=
  (match copy with | 1 => 0x1000 | 2 => 0x9000 | _ => 0x11000) + 256 * g + k

/-- The 256 words of a stored record, or none where one does not decode. -/
def storedRecord (copy g : Nat) (s : State) : Option (List Word) :=
  (List.range 256).mapM (fun k => (s.pword (nvaKey (calNvaWord copy g k))).value?)

/-- A record's MAGIC, VERSION, GROUP and CRC are correct (R249). -/
def recordValid (g : Nat) (l : List Word) : Bool :=
  let w0 := l.getD 0 0
  decide (bits w0 0 32 = 0x43414C47 ∧ bits w0 32 16 = 1 ∧ bits w0 48 7 = g)
    && decide (bits (l.getD 255 0) 0 32 = (crc32cWords (l.take 255)).toNat)

/-- A valid record of a copy. -/
def validRecord (copy g : Nat) (s : State) : Option (List Word) :=
  match storedRecord copy g s with
  | some l => if recordValid g l then some l else none
  | none => none

/-- SEQ of a record. -/
def recordSeq (l : List Word) : Nat := (l.getD 1 0).toNat

/-- The record CAL_LOAD takes for a source, with the copy it lies in (R250). -/
def chooseRecord (source g : Nat) (s : State) : Option (Nat × List Word) :=
  let one := fun c => (validRecord c g s).map (fun l => (c, l))
  match source with
  | 1 => one 1
  | 2 => one 2
  | 3 => one 3
  | _ =>
    match validRecord 2 g s, validRecord 3 g s with
    | some a, some b => if recordSeq a < recordSeq b then some (3, b) else some (2, a)
    | some a, none => some (2, a)
    | none, some b => some (3, b)
    | none, none => one 1

/-- The deskew of a committed image is written to CHG_CHi_DESKEW and takes effect under R181 (R245). -/
def commitDeskew (g : Nat) (s : State) (i : Nat) : State :=
  let w := (s.grp g).imageWord (4 + 10 * i + 9)
  storeDeskew g i (bits w 16 8) (bits w 24 8) s

/-- Replace words of a group's image. -/
def putImage (g : Nat) (l : List (Nat × Word)) (s : State) : State :=
  s.modGrp g (fun x => { x with image := l.foldl (fun m e => Memory.set (fun _ => 0) m e.1 e.2) x.image })

/-- Replace a group's whole image by a record (R252). -/
def loadImage (g copy : Nat) (l : List Word) (s : State) : State :=
  let s := putImage g ((List.range 256).zip l) s
  let s := positions.foldl (commitDeskew g) s
  (s.setFld CHG_CAL_STATUS_SOURCE copy g).setFld CHG_CAL_STATUS_ITEMS 0 g

/-- The record of a group's image with a sequence number (R248). -/
def imageRecord (g seq : Nat) (s : State) : List Word :=
  let x := s.grp g
  let body := (List.range 255).map (fun k =>
    if k = 0 then mkWord [(0, 32, 0x43414C47), (32, 16, 1), (48, 7, g)]
    else if k = 1 then BitVec.ofNat 64 seq
    else if 164 ≤ k then 0
    else x.imageWord k)
  body ++ [BitVec.ofNat 64 (crc32cWords body).toNat]

/-- The copy CAL_STORE writes, and the newer SEQ: an invalid copy, else the older of A and B (R252). -/
def storeTarget (g : Nat) (s : State) : Nat × Nat :=
  match validRecord 2 g s, validRecord 3 g s with
  | some a, some b => if recordSeq b < recordSeq a then (3, recordSeq a) else (2, recordSeq b)
  | some a, none => (3, recordSeq a)
  | none, some b => (2, recordSeq b)
  | none, none => (2, 0)

/-- Write a group's image to the array (R252). -/
def storeGroup (g : Nat) (s : State) : State :=
  let t := storeTarget g s
  let l := imageRecord g (t.2 + 1) s
  ((List.range 256).zip l).foldl (fun s e => nvaStore (calNvaWord t.1 g e.1) e.2 s) s

/-! ### The commands (R250 to R254) -/

/-- `CAL_GROUP` (R250): a group of the range whose items are none completes at once. -/
def calGroupWork (p : Packet) (s : State) : State :=
  if ¬ calRangeValid p ∨ p.w 3 = 0 then endCommand p .invalid [] s
  else
    let items := bits (p.w 2) 0 5
    let mask := fun g => if g % 2 = 1 then items - (if items.testBit 2 then 4 else 0) else items
    let s := beginCal p (calRange p) (.items items) s
    (calRange p).foldl (fun s g => if mask g = 0 then groupDone p g true none 0 s else s) s
def execCalGroup (p : Packet) (s : State) : Host.Outcome State Fault Refusal :=
  .next (runCommand 0x0401 3 .owner p (calGroupWork p) s)

/-- `CAL_LOAD` (R252). -/
def calLoadWork (p : Packet) (s : State) : State :=
  if ¬ calRangeValid p ∨ p.w 3 = 0 then endCommand p .invalid [] s
  else beginCal p (calRange p) (.load (bits (p.w 2) 0 2)) s
def execCalLoad (p : Packet) (s : State) : Host.Outcome State Fault Refusal :=
  .next (runCommand 0x0402 3 .owner p (calLoadWork p) s)

/-- `CAL_STORE` (R252): `unverified` names the groups whose write did not verify. -/
def calStoreWork (p : Packet) (unverified : List Nat) (s : State) : State :=
  if ¬ calRangeValid p then endCommand p .invalid [] s
  else
    let good := (calRange p).filter (fun g => !unverified.contains g)
    let s := (calRange p).foldl (fun s g => storeGroup g s) (nvaTurn s)
    endCommand p (if good.length = (calRange p).length then .ok else .errData) [BitVec.ofNat 64 good.length] s
def execCalStore (p : Packet) (unverified : List Nat) (s : State) : Host.Outcome State Fault Refusal :=
  .next (runCommand 0x0403 1 .owner p (calStoreWork p unverified) s)

/-- The tests of one group begin (R254, R255): the vector memory tests start at once, VMEM_PATTERN only in SAFE. -/
def beginTests (p : Packet) (tests : Nat) (s : State) (g : Nat) : State :=
  let safe := decide (s.mode g = mdSafe)
  let run := (if tests.testBit 3 then 8 else 0) + (if tests.testBit 4 ∧ safe then 16 else 0)
  let skipped := if tests.testBit 4 ∧ ¬ safe then 16 else 0
  let s := (s.setFld CHG_ST_RESULT_RAN 0 g).setFld CHG_ST_RESULT_CHANNELS 0 g
  let s := s.setFld CHG_ST_RESULT_FAILED skipped g
  let s := s.modGrp g (fun x => { x with
    pattern := x.pattern || (tests.testBit 4 && safe)
    tasks := x.tasks.map (fun t => if t.cmd = p then { t with vmem := run, failTests := skipped, stepsDone := decide (tests % 8 = 0) } else t) })
  if run = 0 ∧ tests % 8 = 0 then
    groupDone p g (decide (skipped = 0)) none 0 (s.setFld CHG_ST_RESULT_VALID 1 g)
  else s

/-- `SELFTEST_GROUP` (R254). -/
def selftestWork (p : Packet) (s : State) : State :=
  if ¬ calRangeValid p ∨ p.w 3 = 0 then endCommand p .invalid [] s
  else (calRange p).foldl (beginTests p (bits (p.w 2) 0 5)) (beginCal p (calRange p) (.tests (bits (p.w 2) 0 5)) s)
def execSelftestGroup (p : Packet) (s : State) : Host.Outcome State Fault Refusal :=
  .next (runCommand 0x0404 3 .owner p (selftestWork p) s)

/-- `CAL_REFERENCE` (R253): both channels lie on one die. -/
def calReferenceWork (p : Packet) (s : State) : State :=
  let hi := bits (p.w 1) 0 11 / 16
  let lo := bits (p.w 1) 11 11 / 16
  if ¬ sameDie hi lo ∨ p.w 3 = 0 then endCommand p .invalid [] s
  else beginCal p (if hi = lo then [hi] else [hi, lo]) .reference s
def execCalReference (p : Packet) (s : State) : Host.Outcome State Fault Refusal :=
  .next (runCommand 0x0405 3 .owner p (calReferenceWork p) s)

/-- `CAL_TIMEOUT` (R251): the timeout of a command passes with groups incomplete. -/
def execCalTimeout (p : Packet) (s : State) : Host.Outcome State Fault Refusal :=
  match s.chg.cmds.find? (fun c => decide (c.pkt = p)) with
  | some c =>
    if c.deadline ≤ s.fld TCK_COUNT_COUNT then .next (dropCal p (calReply c true s)) else .next s
  | none => .next s

/-! ### Steps (R242 to R246, R253, R254) -/

/-- A task that works in steps. -/
def CalTask.stepping (t : CalTask) : Bool :=
  match t.work with
  | .load _ => false
  | _ => !t.stepsDone

/-- The channels of group `g` that the next step of a task uses: a reference measurement uses CH_HI and CH_LO (R253); of
other work the spec does not say which, at most two of `choice` (R242). -/
def stepChannels (g : Nat) (t : CalTask) (choice : Word) : List Nat :=
  match t.work with
  | .reference =>
    (([bits (t.cmd.w 1) 0 11, bits (t.cmd.w 1) 11 11].filter (fun c => decide (c / 16 = g))).map (fun c => c % 16)).dedup
  | _ => [bits choice 0 4, bits choice 4 4].dedup

/-- A channel is switched from its ball to the calibration bus (R244): the ball is held as CHG_SAFE says, a keeper turning
on at the level of the ball. -/
def toBus (g : Nat) (s : State) (i : Nat) : State :=
  let c := (s.grp g).chan i
  let r := if s.fld CHG_SAFE_STATE g = 1 ∧ c.driver ≠ 3 then keeperLevel c s else (c.keeper, s)
  r.2.modChan g i (fun c => { c with onBus := true, keeper := r.1 })

/-- A step starts in a window, on at most two channels (R242, R244). -/
def startStep (g : Nat) (s : State) : State :=
  match (s.grp g).step, (s.grp g).tasks.find? CalTask.stepping with
  | none, some t =>
    let r := s.draw
    let l := stepChannels g t r.1
    l.foldl (toBus g) (r.2.modGrp g (fun x => { x with step := some l }))
  | _, _ => s

/-- A pending load of a group's image is made in its window (R252). -/
def loadInWindow (g : Nat) (s : State) : State :=
  match (s.grp g).tasks.find? (fun t => match t.work with | .load _ => true | _ => false) with
  | none => s
  | some t =>
    let source := match t.work with | .load k => k | _ => 0
    let s := nvaTurn s
    match chooseRecord source g s with
    | some (copy, l) => groupDone t.cmd g true none 0 (loadImage g copy l s)
    | none => groupDone t.cmd g false none 0 s

/-- The windows of a tick and the work that begins in them (R241, R242, R252). -/
def calAtBoundary (s : State) : State :=
  let w := (List.range 128).filter s.isWindow
  let s := { s with chg := { s.chg with windows := w } }
  w.foldl (fun s g => if (s.grp g).tasks = [] then s else startStep g (loadInWindow g s)) s

/-- A gain or offset correction outside its band (R246). -/
def badPair (gain off : Nat) : Bool := decide (20000 < (signed 16 gain).natAbs ∨ 655 < (signed 16 off).natAbs)

/-- The bits of image word `k` that calibration item `item` holds (R247, R248). -/
def itemBits (item k : Nat) : Word :=
  let r := (k - 4) % 10
  let entry := decide (4 ≤ k ∧ k < 164)
  match item with
  | 0 => if entry ∧ r ≤ 5 then 0xFFFFFFFFFFFFFFFF else if entry ∧ r = 6 then 0x00000000FFFFFFFF else 0
  | 1 => if entry ∧ r = 6 then 0xFFFFFFFF00000000 else if entry ∧ r = 7 then 0x00000000FFFFFFFF else 0
  | 2 => if k = 3 then 0x00000000FFFFFFFF else 0
  | 3 => if entry ∧ r = 7 then 0xFFFFFFFF00000000 else if entry ∧ r = 8 then 0x0000FFFFFFFFFFFF else 0
  | 4 => if entry ∧ r = 9 then 0x00000000FFFFFFFF else 0
  | _ => 0

/-- The bits of image word `k` that a set of items holds. -/
def itemMask (mask k : Nat) : Word := (List.range 5).foldl (fun w j => if mask.testBit j then w ||| itemBits j k else w) 0

/-- The staged words of the items chosen, each in the image's word (R245, R247). -/
def chosenWords (g mask : Nat) (staged : List (Nat × Word)) (s : State) : List (Nat × Word) :=
  staged.map (fun e =>
    let m := itemMask mask e.1
    (e.1, (s.grp g).imageWord e.1 &&& ~~~ m ||| e.2 &&& m))

/-- The first correction of a staged image word outside its band: channel position and item (R246 to R248). -/
def badWord (e : Nat × Word) : Option (Nat × Nat) :=
  let k := e.1
  let w := e.2
  if k = 3 then (if badPair (bits w 0 16) (bits w 16 16) then some (0, 2) else none)
  else if 4 ≤ k ∧ k < 164 then
    let i := (k - 4) / 10
    let r := (k - 4) % 10
    let lowBad := badPair (bits w 0 16) (bits w 16 16)
    let highBad := badPair (bits w 32 16) (bits w 48 16)
    if r ≤ 5 then (if lowBad || highBad then some (i, 0) else none)
    else if r = 6 then (if lowBad then some (i, 0) else if highBad then some (i, 1) else none)
    else if r = 7 then
      (if lowBad then some (i, 1) else if badPair 0 (bits w 32 16) || badPair 0 (bits w 48 16) then some (i, 3) else none)
    else none
  else none

/-- The group commits the staged coefficients of its items, or commits nothing where one lies outside its band (R245 to
R247): with them it writes CHG_CHi_DESKEW and the pair level's corrections, which take effect under R181. -/
def commitItems (g : Nat) (t : CalTask) (mask : Nat) (s : State) : State :=
  match (t.staged.map (fun e => (e.1, e.2 &&& itemMask mask e.1))).findSome? badWord with
  | some (i, item) => groupDone t.cmd g false (some (g, i, item)) 0 s
  | none =>
    let w2 := (s.grp g).imageWord 2
    let s := putImage g (chosenWords g mask t.staged s) (putImage g [(2, setBits w2 16 5 (bits w2 16 5 ||| mask))] s)
    let s := positions.foldl (commitDeskew g) s
    let s := s.setFld CHG_CAL_STATUS_ITEMS (s.fld CHG_CAL_STATUS_ITEMS g ||| mask) g
    let s := if bit (t.cmd.w 2) 8 then storeGroup g (nvaTurn s) else s
    groupDone t.cmd g true none 0 s

/-- An EV24 code's value (R82): exponent and mantissa. -/
def ev24Value (code : Nat) : Nat :=
  let e := code / 2 ^ 19 % 32
  let m := code % 2 ^ 19
  if e = 0 then m else (2 ^ 19 + m) * 2 ^ (e - 1)

/-- The correction that a reading of the standard asks for (R253): QTY and the standard's value are the command's. -/
def referencePpm (p : Packet) (reading : Int) : Int :=
  Config.referencePpm (bit (p.w 1) 22) (ev24Value (bits (p.w 2) 0 24)) reading

/-- The master reference is trimmed (R253): the trim is stored in the CAL_REF area, whose layout the spec does not give,
so its word is a free value. -/
def commitReference (g : Nat) (t : CalTask) (ppm : Int) (s : State) : State :=
  let last := s.chg.cmds.any (fun c => decide (c.pkt = t.cmd ∧ c.left = [g]))
  let s :=
    if last ∧ ppm.natAbs ≤ 2000 then
      let r := (nvaTurn s).draw
      let s := { r.2 with chg := { r.2.chg with trims := modNth r.2.chg.trims (g / 32) (fun _ => ppm) } }
      nvaStore (0x19000 + g / 32) r.1 s
    else s
  groupDone t.cmd g true none ppm s

/-- A self-test of a group ends: its results, and the group's end once nothing of it is left (R254). -/
def finishTests (g : Nat) (p : Packet) (s : State) : State :=
  match (s.grp g).tasks.find? (fun t => decide (t.cmd = p)) with
  | none => s
  | some t =>
    if t.stepsDone ∧ t.vmem = 0 then
      groupDone p g (decide (t.failTests = 0)) none 0 (s.setFld CHG_ST_RESULT_VALID 1 g)
    else s

/-- Results of tests that have ended in a group (R254). -/
def recordTests (g ran failed chans : Nat) (s : State) : State :=
  let s := s.setFld CHG_ST_RESULT_RAN (s.fld CHG_ST_RESULT_RAN g ||| ran) g
  let s := s.setFld CHG_ST_RESULT_FAILED (s.fld CHG_ST_RESULT_FAILED g ||| failed) g
  s.setFld CHG_ST_RESULT_CHANNELS (s.fld CHG_ST_RESULT_CHANNELS g ||| chans) g

/-- The step's outcome joins its task; after the last step the task's work is done. -/
def endTaskStep (g : Nat) (t : CalTask) (st : CalStep) (s : State) : State :=
  let t' : CalTask := { t with
    staged := t.staged ++ st.staged
    failTests := t.failTests ||| st.failTests % 8
    failChans := t.failChans ||| st.failChans % 65536
    stepsDone := st.last }
  let s := s.modGrp g (fun x => { x with tasks := x.tasks.map (fun u => if u = t then t' else u) })
  if ¬ st.last then s
  else match t.work with
    | .items mask => commitItems g t' (if g % 2 = 1 then mask &&& 27 else mask) s
    | .reference => commitReference g t' (referencePpm t.cmd st.reading) s
    | .tests mask => finishTests g t.cmd (recordTests g (mask % 8) (t'.failTests &&& (mask % 8)) t'.failChans s)
    | .load _ => s

/-- `CAL_STEP_END` (R245): the step in hand ends; its channels return to the ball as before it. -/
def execCalStepEnd (g : Fin 128) (step : CalStep) (s : State) : Host.Outcome State Fault Refusal :=
  match (s.grp g).step with
  | some _ =>
    let s := endStep g s
    (match (s.grp g).tasks.find? CalTask.stepping with
     | some t => .next (endTaskStep g t step s)
     | none => .next s)
  | none => .next s

/-- The keys of a group's vector memory. -/
def inVmem (g key : Nat) : Bool := decide (vmemKey g 0 ≤ key ∧ key < vmemKey (g + 1) 0)

/-- VMEM_READ (R254): every listed vector as the memory sweep reads it; whether an uncorrectable word was found. -/
def vmemRead (g : Nat) (s : State) : State × Bool :=
  let l := (s.mem.filter (fun e => inVmem g e.1)).map Prod.fst
  (l.foldl (fun s k => sweepWord 4 g (k - vmemKey g 0) s) s, l.any (fun k => (s.pword k).isBad))

/-- `VMEM_TEST_END` (R254): a VMEM_READ or VMEM_PATTERN finishes its pass; `ok`: every word of the pattern read back. -/
def execVmemTestEnd (g : Fin 128) (pattern ok : Bool) (s : State) : Host.Outcome State Fault Refusal :=
  let b := if pattern then 16 else 8
  match (s.grp g).tasks.find? (fun t => t.vmem.testBit (if pattern then 4 else 3)) with
  | none => .next s
  | some t =>
    let r : State × Bool :=
      if pattern then
        ({ s with mem := s.mem.filter (fun e => !inVmem g e.1), mends := s.mends.filter (fun k => !inVmem g k) }, !ok)
      else vmemRead g s
    let s := r.1
    let fail := if r.2 then b else 0
    let s := s.modGrp g (fun x => { x with
      pattern := if pattern then false else x.pattern
      tasks := x.tasks.map (fun u => if u.cmd = t.cmd then { u with vmem := u.vmem - b, failTests := u.failTests ||| fail } else u) })
    .next (finishTests g t.cmd (recordTests g b fail 0 s))

/-! ### The rail monitors (R256, R257) -/

/-- A reading as the window compares it: the die temperature is signed. -/
def railNumber (k : Nat) (x : Nat) : Int := if k = 3 then signed 16 x else ((x % 65536 : Nat) : Int)

/-- `RAIL_READING` (R256): a reading of quantity `k` of die `d`; from the second in a row outside its window on OUT is set,
and the second raises the rail fault, once per excursion (R257). -/
def execRailReading (d : Fin 4) (k : Fin 4) (value : BitVec 16) (s : State) : Host.Outcome State Fault Refusal :=
  let s := s.setFld CHG_RAILk_VALUE value.toNat d k
  let v := railNumber k value.toNat
  let out := decide (v < railNumber k (s.fld CHG_RAILk_LOW d k) ∨ railNumber k (s.fld CHG_RAILk_HIGH d k) < v)
  let key := 4 * d.val + k.val
  let n := Memory.get (fun _ => 0) s.chg.streaks key
  let n' := if out then min (n + 1) 3 else 0
  let s := { s with chg := { s.chg with streaks := Memory.set (fun _ => 0) s.chg.streaks key n' } }
  let s := if 2 ≤ n' then s.setFld CHG_RAILk_OUT 1 d k else s
  .next (if n' = 2 then raise (0x280 + d.val) k.val s else s)

end Sys2Proof.Machine
end

