-- ==== Sys2Proof/Machine/Noc.lean ====
section
/-! DEFINITION. The network on chip (chapter 12): the address map, injection, forwarding by route tables and epochs,
ejection, endpoint dampers, link replay, and credits with their audit. -/

namespace Sys2Proof.Machine

/-! ### The address map (R472 to R475) -/

/-- The fabric port an endpoint is, if any. -/
def portOfEndpoint (e : Nat) : Option Nat := (List.range 68).find? (fun p => decide (fabricEndpoint p = e))

/-- The bank store endpoint for a source router (R474). -/
def bankEndpoint (router : Nat) : Nat := if router % 10 < 5 then 121 else 157

/-- The endpoint of a register's BAR0 offset (R472); none for the bank store's control. An offset outside the blocks of R616 is
answered by the hearth controller's register block. -/
def registerEndpoint (off : Nat) : Option Nat :=
  if off < 0x200000 then some 160
  else if off < 0x308120 ∨ (0x400000 ≤ off ∧ off < 0x400100) then some 196
  else if 0x500000 ≤ off ∧ off < 0x505200 then some 161
  else if 0x800000 ≤ off ∧ off < 0x802400 then some 40
  else if 0xC00000 ≤ off ∧ off < 0xE00000 then some (dieEndpoint ((off - 0xC00000) / 0x80000))
  else if 0x1000000 ≤ off ∧ off < 0x1200000 then some (sgeEndpoint ((off - 0x1000000) / 0x80000))
  else if 0x1400000 ≤ off ∧ off < 0x1500000 then some (dramEndpoint ((off - 0x1400000) / 0x40000))
  else if (0x1800000 ≤ off ∧ off < 0x18060C0) ∨ (0x1810000 ≤ off ∧ off < 0x1810018) ∨ (0x1820000 ≤ off ∧ off < 0x1828000)
      ∨ (0x1840000 ≤ off ∧ off < 0x1841400) then some 120
  else if 0x1C00000 ≤ off ∧ off < 0x1C20000 then none
  else some 160

/-- A NoC address lies in the register space; the bank store's data do not (R467). -/
def inRegisterSpace (a : Nat) : Bool := decide (0x4000000000 ≤ a ∧ a < 0x4002000000)

/-- The destination endpoint of a NoC address, as the injecting endpoint at a router decodes it (R472, R494); none where
nothing is mapped. -/
def nocTarget (router a : Nat) (s : State) : Option Nat :=
  if a < 0x4000000000 then (dramTarget a s).map (fun t => dramEndpoint t.1)
  else if a < 0x4002000000 then some ((registerEndpoint (a - 0x4000000000)).getD (bankEndpoint router))
  else if a < 0x4004000000 then some (bankEndpoint router)
  else if a < 0x4006000000 then some 40
  else if a < 0x4040000000 then none
  else if a < 0x4040000000 + 68 * 0x1000000 then some (fabricEndpoint ((a - 0x4040000000) / 0x1000000))
  else if a < 0x4100000000 then none
  else if a < 0x4200000000 then some (bankEndpoint router)
  else none

/-- The NoC address the host interface forms from a BAR offset (R473). -/
def barAddress (bar off : Nat) : Nat :=
  if bar = 0 then 0x4000000000 + off else if bar = 2 then 0x4004000000 + off else off

/-! ### Packets (R461 to R467) -/

/-- The operation codes of R464. -/
def opRead : Nat := 0
def opWrite : Nat := 1
def opAction : Nat := 2
def opClaim : Nat := 3
def opResponse : Nat := 8

/-- The data flits of an access: its aligned blocks of 32 bytes. -/
def flitsOf (a n : Nat) : Nat := (a + n - 1) / 32 - a / 32 + 1

/-- The request virtual channel of a source (R466, R467). -/
def sourceVc (e op : Nat) : Nat :=
  if (ctxEndpoints.contains e ∨ (List.range 4).any (fun d => decide (dieEndpoint d = e))) ∧ (op = opAction ∨ op = opClaim) then 0
  else if (portOfEndpoint e).isSome then 3
  else if ctxEndpoints.contains e ∨ (List.range 4).any (fun d => decide (dieEndpoint d = e ∨ sgeEndpoint d = e)) then 1
  else 2

/-- The body of a read or write (R464). -/
def accessBody (a n : Nat) : BitVec 128 := BitVec.ofNat 128 (a % 2 ^ 40 + (n - 1) % 256 * 2 ^ 40)

/-- The packet an endpoint injects for a request (R463 to R467), or none where it is answered DECODE: no mapping, or
limits of R462 broken. -/
def makePacket (e : Nat) (q : NocReq) (s : State) : Option NocPacket :=
  let router := e / 4
  let access := decide (q.op ≠ opAction ∧ q.op ≠ opClaim)
  let dest := if access then (if sizeGood q.addr q.size then nocTarget router q.addr s else none)
              else if q.dest < 320 then some q.dest else none
  let mgmt := access && inRegisterSpace q.addr
  dest.map (fun d =>
    { destRtr := d / 4, destEp := d % 4, srcRtr := router, srcEp := e % 4
      vnet := if mgmt then 2 else 0
      vc := if mgmt then 0 else sourceVc e q.op
      epoch := s.on NOC_EPOCH_CUR
      op := q.op
      len := if q.op = opWrite then flitsOf q.addr q.size else 0
      poison := q.poison, tag := q.tag, status := 0, ident := q.ident
      tick := s.fld TCK_COUNT_COUNT % 2 ^ 32
      body := if access then accessBody q.addr q.size else q.body
      data := q.data })

/-- The header flit of a packet (R463). -/
def NocPacket.header (p : NocPacket) : BitVec 256 :=
  p.body ++ BitVec.ofNat 32 p.tick ++ p.ident ++
    mkWord [(0, 7, p.destRtr), (7, 2, p.destEp), (9, 7, p.srcRtr), (16, 2, p.srcEp), (18, 2, p.vnet), (20, 2, p.vc),
      (22, 1, bnat p.epoch), (23, 4, p.op), (27, 4, p.len), (31, 1, bnat p.poison), (32, 16, p.tag), (48, 3, p.status)]

/-- The CRC-16 of a flit (R461): over payload bits 255 down to 0 from 0xFFFF. -/
def flitCrc (v : BitVec 256) : BitVec 16 :=
  (List.range 32).foldl (fun c i => crc16Byte c (v.extractLsb' (248 - 8 * i) 8)) 0xFFFF

/-- A flit passes its receiver's checks (R461, R463): its CRC, its sideband parity and, in a header flit, the zero field. -/
def LinkFlit.passes (f : LinkFlit) : Bool :=
  decide (flitCrc f.payload = f.crc) && decide (Machine.parity (f.hops.setWidth 64) 7 = f.parity)
    && (!f.header || decide (f.payload.extractLsb' 51 13 = 0))

/-- The endpoint numbers of a packet. -/
def NocPacket.dest (p : NocPacket) : Nat := 4 * p.destRtr + p.destEp
def NocPacket.source (p : NocPacket) : Nat := 4 * p.srcRtr + p.srcEp

/-- The global virtual channel (R466): requests 0 to 3, responses 4 and 5, management 6 and 7. -/
def NocPacket.channel (p : NocPacket) : Nat := match p.vnet with | 0 => p.vc | 1 => 4 + p.vc | _ => 6 + p.vc

/-- A response, of the response network or management VC1 (R466). -/
def NocPacket.isResponse (p : NocPacket) : Bool := decide (p.vnet = 1) || (decide (p.vnet = 2) && decide (p.vc = 1))

/-- Address and size of a read or write. -/
def NocPacket.addr (p : NocPacket) : Nat := bits p.body 0 40
def NocPacket.size (p : NocPacket) : Nat := bits p.body 40 8 + 1

/-- The response to a request (R463 to R466, R481): it goes back to the request's source with the request's tag, on response VC0
or VC1 or on management VC1; VALUE stands in the body, and a read is answered with its data, aligned blocks of 32 bytes in
which the bytes outside the access are zero (R462), as all are where the status is not OK (R483). -/
def responseTo (p : NocPacket) (st : Status) (value : Nat) (poison : Bool) (data : List Word) (s : State) : NocPacket :=
  { destRtr := p.srcRtr, destEp := p.srcEp, srcRtr := p.destRtr, srcEp := p.destEp
    vnet := if p.vnet = 2 then 2 else 1
    vc := if p.vnet = 2 ∨ p.vc ≠ 0 then 1 else 0
    epoch := s.on NOC_EPOCH_CUR
    op := opResponse
    len := if p.op = opRead then flitsOf p.addr p.size else 0
    poison := poison, tag := p.tag, status := st.code, ident := p.ident
    tick := s.fld TCK_COUNT_COUNT % 2 ^ 32
    body := BitVec.ofNat 128 (value % 2 ^ 24)
    data := if p.op ≠ opRead then []
            else (List.range (4 * flitsOf p.addr p.size)).map (fun i =>
              if st = .ok ∨ poison then data.getD i 0 &&& wordMask p.addr p.size (4 * (p.addr / 32) + i) else 0) }

/-! ### Credits (R488, R489) -/

/-- The number of a credit loop. -/
def creditKey (kind place vc : Nat) : Nat := (kind * 320 + place) * 8 + vc

/-- A credit loop. -/
def State.credit (s : State) (k : Nat) : Credit := Memory.get (fun _ => Credit.reset) s.noc.credits k

/-- The state with a credit loop replaced. -/
def State.setCredit (s : State) (k : Nat) (c : Credit) : State :=
  { s with noc := { s.noc with credits := Memory.set (fun _ => Credit.reset) s.noc.credits k c } }

/-- A flit is sent and buffered at the receiver. -/
def spendCredit (k : Nat) (s : State) : State :=
  let c := s.credit k
  if 0 < c.held then s.setCredit k { c with held := c.held - 1, buffered := c.buffered + 1 } else s

/-- A flit leaves its buffer and its credit returns. -/
def returnCredit (k : Nat) (s : State) : State :=
  let c := s.credit k
  if 0 < c.buffered then s.setCredit k { c with held := c.held + 1, buffered := c.buffered - 1 } else s

/-- The parts of a loop make eight. -/
def Credit.balanced (c : Credit) : Bool := decide (c.held + c.sent + c.buffered + c.returning = 8)

/-- The credit audit of a boundary (R489). -/
def creditAudit (s : State) : State :=
  match s.noc.credits.find? (fun e => !e.2.balanced) with
  | none => s
  | some (k, _) =>
    let first := s.fld NOC_AUDIT_CREDIT_SUM = 0
    let s := if first then
        ((s.setFld NOC_AUDIT_KIND (k / 2560)).setFld NOC_AUDIT_INDEX (k / 8 % 320)).setFld NOC_AUDIT_VC (k % 8)
      else s
    let s := (s.setFld NOC_AUDIT_CREDIT_SUM 1).addFld NOC_AUDIT_FAIL_TICKS 1
    raise 0x140 (bits (s.reg NOC_AUDIT_KIND.off) 2 17) s

/-! ### Answers of the network (R481) -/

/-- The counts of a status the network produces, at an endpoint. -/
def countStatus (e : Nat) (st : Status) (s : State) : State :=
  match st with
  | .fenced => (s.addFld NOC_COUNTS_FENCED 1).addFld NOC_EPe_STATUS_FENCED 1 e
  | .errGated => s.addFld NOC_COUNTS_GATED 1
  | .decode => s.addFld NOC_COUNTS_DECODE 1
  | _ => s

/-- The answer of an injecting endpoint to its own request, which never enters the mesh (R462, R484). -/
def nocRefuse (src tag : Nat) (st : Status) (s : State) : State := s.emit (.response src tag st [])

/-- OLD_FLITS follows the mesh (R479): the flits that go by the tables of the old epoch, which responses ignore (R469). -/
def syncOldFlits (s : State) : State :=
  s.setFld NOC_EPOCH_OLD_FLITS
    (((s.noc.mesh.filter (fun x => decide (x.pkt.epoch ≠ s.on NOC_EPOCH_CUR) && !x.pkt.isResponse)).map (fun x => 1 + x.pkt.len)).sum)

/-- The state with the mesh replaced. -/
def State.setMesh (s : State) (l : List MeshPacket) : State := syncOldFlits { s with noc := { s.noc with mesh := l } }

/-! ### Responses in the mesh (R15, R469, R481) -/

/-- A response may enter the mesh at an endpoint: it holds a credit. -/
def mayRespond (e : Nat) (r : NocPacket) (s : State) : Bool := decide ((s.credit (creditKey 1 e r.channel)).held ≠ 0)

/-- A response enters the mesh at an endpoint. -/
def putResponse (e : Nat) (r : NocPacket) (s : State) : State :=
  let s := spendCredit (creditKey 1 e r.channel) s
  s.setMesh (s.noc.mesh ++ [MeshPacket.mk r 1 e (e / 4) 0])

/-- The network answers a request at an endpoint. -/
def nocRespond (e : Nat) (p : NocPacket) (st : Status) (s : State) : State := putResponse e (responseTo p st 0 false [] s) s

/-! ### Injection -/

/-- How an injection ends: with a status at its own endpoint, waiting for a credit, or injected. -/
inductive Injected
  | refused (st : Status)
  | waits
  | sent (p : NocPacket)
  deriving DecidableEq, Repr

/-- What the injecting endpoint decides (R462, R472, R484, R488). -/
def injectTest (e : Nat) (q : NocReq) (s : State) : Injected :=
  match makePacket e q s with
  | none => .refused .decode
  | some p =>
    if s.fld NOC_EPe_STATUS_DAMPER e ≠ 0 then .refused .fenced
    else if (s.credit (creditKey 1 e p.channel)).held = 0 then .waits
    else .sent p

/-- A packet enters the mesh. -/
def injectPacket (e : Nat) (p : NocPacket) (s : State) : State :=
  let s := spendCredit (creditKey 1 e p.channel) s
  s.setMesh (s.noc.mesh ++ [MeshPacket.mk p 1 e (e / 4) 0])

/-- A region issues a request through its port (R327, R328): at most 32 are outstanding, and the tag must be free. -/
def portRequest (p : Nat) (q : NocReq) (s : State) : State :=
  let x := s.fab p
  let q := { q with ident := mkIdent s.devId 3 p }
  if 32 ≤ x.outs.length + x.reserved.length ∨ x.outs.contains q.tag ∨ x.reserved.contains q.tag then s
  else match injectTest (fabricEndpoint p) q s with
    | .waits => s
    | .refused st => (countStatus (fabricEndpoint p) st s).emit (.fabricResponse p q.tag st false [])
    | .sent k => injectPacket (fabricEndpoint p) k (s.modFab p (fun x => { x with outs := x.outs ++ [q.tag] }))

/-- The identities that a hard-block endpoint carries besides those of the masters behind it: a result ring's on the writes of the
context engine (R154), and at the Brocia endpoint the issuer's on the local accesses of its RING_COPY (R575). -/
def lends (e : Nat) (m : Ident) (s : State) : Bool :=
  (ctxEndpoints.contains e && (List.range 16).any (fun d => decide (s.fld CTX_RINGd_ID_IDENT d = m.toNat)))
    || (decide (e = 156) && s.ring.copies.any (fun c => decide (c.cmd.issuer = m)))

/-- The identities that a hard-block endpoint stamps (R459, R465, R579, R580): those it lends, and those of the masters behind it, a
ring peer's with its own device ID, every other with this device's. -/
def stamps (e : Nat) (m : Ident) (s : State) : Bool :=
  let i := identIndex m
  lends e m s ||
  match identClass m with
  | 0 => decide (e = 160 ∧ identDev m = s.devId ∧ i = 0)
  | 1 => decide (e = 120 ∧ identDev m = s.devId ∧ i < 4)
  | 2 => decide (e = 156)
  | 4 => decide (e = 160 ∧ identDev m = s.devId ∧ i = 0)
  | 5 => decide (identDev m = s.devId ∧ i < 32 ∧ e = sgeEndpoint (i / 8))
  | 6 => decide (identDev m = s.devId) && (if i < 4 then decide (e = nth 0 ctxEndpoints i) else if i = 16 then decide (e = 161)
      else decide (256 ≤ i ∧ i < 384 ∧ e = dieEndpoint ((i - 256) / 32)))
  | _ => false

/-- A hard-block endpoint injects a request of a master behind it (R465): its outstanding count rises (R484). -/
def endpointRequest (e : Nat) (q : NocReq) (s : State) : State :=
  if ¬ stamps e q.ident s then s
  else match injectTest e q s with
  | .waits => s
  | .refused st => nocRefuse e q.tag st (countStatus e st s)
  | .sent k => injectPacket e k (s.addFld NOC_EPe_STATUS_OUTSTANDING 1 e)

/-- `FABRIC_PORT_REQUEST` (R328). -/
def execFabricPortRequest (p : Fin 68) (req : NocReq) (s : State) : Host.Outcome State Fault Refusal :=
  .next (portRequest p req s)

/-- A target injects the response to a request that was delivered to it (R15, R481), which no damper stops (R482). -/
def endpointResponse (e : Nat) (q : NocReq) (s : State) : State :=
  match q.answers with
  | none => s
  | some p =>
    let r := responseTo p q.status (bits q.body 0 24) q.poison q.data s
    if p.dest = e ∧ mayRespond e r s then putResponse e r s else s

/-- `NOC_INJECT` (R465): a request, or a response. -/
def execNocInject (e : Fin 320) (req : NocReq) (s : State) : Host.Outcome State Fault Refusal :=
  if req.op = opResponse then .next (endpointResponse e req s)
  else match portOfEndpoint e with
    | some p => .next (portRequest p req s)
    | none => .next (endpointRequest e req s)

/-! ### Routes (R476 to R479) -/

/-- The X-then-Y port from a router to a destination: 0 LOCAL, 1 N, 2 E, 3 S, 4 W. -/
def xyPort (r d : Nat) : Nat :=
  if r % 10 < d % 10 then 2 else if d % 10 < r % 10 then 4
  else if r / 10 < d / 10 then 1 else if d / 10 < r / 10 then 3 else 0

/-- The number of a table entry. -/
def routeKey (epoch net : Bool) (r d : Nat) : Nat := ((2 * bnat epoch + bnat net) * 80 + r) * 80 + d

/-- The reset value of a table entry. -/
def routeReset (k : Nat) : Nat := xyPort (k / 80 % 80) (k % 80)

/-- A table entry; `net` is true for management VC0. -/
def State.route (s : State) (epoch net : Bool) (r d : Nat) : Nat := Memory.get routeReset s.noc.routes (routeKey epoch net r d)

/-- The neighbour of a router in a direction, or none outside the mesh (R458). -/
def neighbour (r port : Nat) : Option Nat :=
  match port with
  | 1 => if r / 10 < 7 then some (r + 10) else none
  | 2 => if r % 10 < 9 then some (r + 1) else none
  | 3 => if 0 < r / 10 then some (r - 10) else none
  | 4 => if 0 < r % 10 then some (r - 1) else none
  | _ => none

/-- Writes do not reach the inactive tables (R478). -/
def routesLocked (s : State) : Bool := s.on NOC_EPOCH_OLD_FLITS || s.on NOC_EPOCH_PENDING

/-- A write of NOC_RT_DATA (R476, R478). -/
def routeEffect (h : Half) (data : Word) (s : State) : State :=
  if ¬ h.reaches 0 then s
  else
    let r := s.fld NOC_RT_SEL_ROUTER
    let d := s.fld NOC_RT_SEL_DEST
    let port := bits data 0 3
    if 80 ≤ r ∨ 80 ≤ d ∨ 5 ≤ port then s
    else if routesLocked s ∨ r = d ∨ port = 0 ∨ (neighbour r port).isNone then s.setFld NOC_EPOCH_RT_REFUSED 1
    else { s with noc := { s.noc with
      routes := Memory.set routeReset s.noc.routes (routeKey (!s.on NOC_EPOCH_CUR) (s.on NOC_RT_SEL_VNET) r d) port } }

/-- `ROUTE_TABLE_WRITE` (R476). -/
def execRouteTableWrite (m : Ident) (h : Half) (data : Word) (s : State) : Host.Outcome State Fault Refusal :=
  .next (regWrite .NOC_RT_DATA [] m h (routeEffect h data) s)

/-- The inactive tables get X-then-Y routes (R476). -/
def fillXy (s : State) : State :=
  if routesLocked s then s.setFld NOC_EPOCH_RT_REFUSED 1
  else { s with noc := { s.noc with
    routes := s.noc.routes.filter (fun e => decide ((e.1 / 12800 = 1) = s.on NOC_EPOCH_CUR)) } }

/-- A switch is asked for (R479). -/
def askSwitch (s : State) : State :=
  if routesLocked s then s.setFld NOC_EPOCH_SWITCH_REFUSED 1
  else
    let due := s.nextDue
    let s := s.setFld NOC_EPOCH_PENDING 1
    { s with noc := { s.noc with switchDue := some due } }

/-- A write of NOC_EPOCH: its flags by type, LOAD_XY, then SWITCH. -/
def epochEffect (h : Half) (data : Word) (s : State) : State :=
  let s := plainWrite (regInfo .NOC_EPOCH).fields NOC_EPOCH_CUR.off (fun _ => false) h data s
  let s := if wbit h data NOC_EPOCH_LOAD_XY then fillXy s else s
  if wbit h data NOC_EPOCH_SWITCH then askSwitch s else s

/-- `EPOCH_SWITCH` (R479). -/
def execEpochSwitch (m : Ident) (h : Half) (data : Word) (s : State) : Host.Outcome State Fault Refusal :=
  .next (regWrite .NOC_EPOCH [] m h (epochEffect h data) s)

/-- `LOAD_XY` (R476). -/
def execLoadXy (m : Ident) (h : Half) (data : Word) (s : State) : Host.Outcome State Fault Refusal :=
  .next (regWrite .NOC_EPOCH [] m h (epochEffect h data) s)

/-- A pending switch takes effect at its boundary (R479). -/
def epochAtBoundary (s : State) : State :=
  match s.noc.switchDue with
  | none => s
  | some b =>
    if b ≤ s.tck.ticks then
      let s := (s.setFld NOC_EPOCH_CUR (1 - s.fld NOC_EPOCH_CUR)).setFld NOC_EPOCH_PENDING 0
      syncOldFlits { s with noc := { s.noc with switchDue := none } }
    else s

/-! ### Forwarding (R477, R480) -/

/-- No older packet waits in the same buffer: packets of one virtual channel keep their order (R471). -/
def meshFirst (k : Nat) (x : MeshPacket) (l : List MeshPacket) : Bool :=
  (l.take k).all (fun y => decide (y.kind ≠ x.kind ∨ y.place ≠ x.place ∨ y.pkt.channel ≠ x.pkt.channel))

/-- The packet leaves the mesh. -/
def leaveMesh (k : Nat) (x : MeshPacket) (s : State) : State :=
  returnCredit (creditKey x.kind x.place x.pkt.channel) (s.setMesh (s.noc.mesh.eraseIdx k))

/-- Packet `k` moves to a buffer, when the sender holds a credit for it. -/
def moveTo (k : Nat) (x : MeshPacket) (kind place router hops : Nat) (s : State) : State :=
  let key := creditKey kind place x.pkt.channel
  if (s.credit key).held = 0 then s
  else
    let s := spendCredit key (returnCredit (creditKey x.kind x.place x.pkt.channel) s)
    s.setMesh (modNth s.noc.mesh k (fun x => { x with kind := kind, place := place, router := router, hops := hops }))

/-- The direction numbers of links: 0 N, 1 E, 2 S, 3 W. -/
def linkOf (router port : Nat) : Nat := 4 * router + (port - 1)

/-- The output port of a packet at its router: the route table of its epoch (R477), or X-then-Y for a response (R469). -/
def portFor (x : MeshPacket) (s : State) : Nat :=
  if x.pkt.isResponse then xyPort x.router x.pkt.destRtr
  else s.route x.pkt.epoch (decide (x.pkt.vnet = 2)) x.router x.pkt.destRtr

/-- One router's work on packet `k`: a request with HOPS at 64 is consumed and answered by the router (R480). -/
def forwardPacket (k : Nat) (x : MeshPacket) (s : State) : State :=
  if 64 ≤ x.hops ∧ ¬ x.pkt.isResponse then
    let e := 4 * x.router
    if mayRespond e (responseTo x.pkt .decode 0 false [] s) s then
      nocRespond e x.pkt .decode ((countStatus x.pkt.source .decode (leaveMesh k x s)).addFld NOC_COUNTS_HOPLIMIT 1)
    else s
  else
    let port := portFor x s
    if port = 0 then moveTo k x 2 x.pkt.dest x.router (x.hops + 1) s
    else match neighbour x.router port with
      | some r => moveTo k x 0 (linkOf x.router port) r (x.hops + 1) s
      | none => s

/-- `ROUTER_FORWARD` (R477): packet `k` of the mesh is forwarded by the router it is at. -/
def execRouterForward (k : Nat) (s : State) : Host.Outcome State Fault Refusal :=
  match s.noc.mesh[k]? with
  | none => .next s
  | some x => if x.kind = 2 ∨ ¬ meshFirst k x s.noc.mesh then .next s else .next (forwardPacket k x s)

/-! ### Ejection (R482) -/

/-- A fabric port has a clock (R315): its target's clock line 0 runs, and no gate holds it. -/
def portClocked (p : Nat) (s : State) : Bool :=
  let t := targetOfPort p
  let gate := if p < 64 then s.fbit CLK_RGN_GATE_GATE p && !s.fbit CLK_RGN_CLOSING_CLOSING p else s.gateOpen 20
  gate && !(decide (p < 64) && s.pwr.rgnForced) && !s.pwr.stopped && lineRuns s (s.lineSource t 0)

/-- The target of requests at an endpoint is gated (NOC_EPe_STATUS.GATED); a fabric port whose target is not LOADED has
none, and its damper is not OPEN. -/
def endpointGated (e : Nat) (s : State) : Bool :=
  if ctxEndpoints.contains e then !s.gateOpen 5
  else match (List.range 4).find? (fun d => decide (dieEndpoint d = e)), (List.range 4).find? (fun c => decide (dramEndpoint c = e)),
      portOfEndpoint e with
    | some d, _, _ => !s.gateOpen (10 + d)
    | _, some c, _ => !s.gateOpen (14 + c)
    | _, _, some p => decide (s.tstate (targetOfPort p) = stLoaded) && !portClocked p s
    | _, _, _ => if e = 121 ∨ e = 157 then !s.gateOpen 6 else if e = 161 then !s.gateOpen 7
        else if e = 156 then !s.gateOpen 18 else false

/-- The request's target is gated: the block of a register, else the endpoint's (R637, R639). -/
def requestGated (p : NocPacket) (s : State) : Bool :=
  if p.vnet = 2 then !s.blockOpen (p.addr - 0x4000000000) else endpointGated p.dest s

/-- The operation is one that the destination takes (R464, R190, R329). -/
def opTaken (p : NocPacket) : Bool :=
  let e := p.dest
  let die := (List.range 4).any (fun d => decide (dieEndpoint d = e))
  match p.op with
  | 0 => true
  | 1 => true
  | 2 => die || (List.range 4).any (fun d => decide (sgeEndpoint d = e)) || (List.range 64).any (fun r => decide (fabricEndpoint r = e))
  | 3 => die
  | _ => false

/-- A FABRIC_CALL reaches a region's fabric as its action word (R330). -/
def actionWordOf (p : NocPacket) : Word × Word × Word × Word :=
  (mkWord [(0, 16, p.tag), (16, 32, bits p.body 87 32), (48, 4, bits p.body 77 4), (52, 3, 6)],
   BitVec.ofNat 64 (bits p.body 0 64), mkWord [(0, 13, bits p.body 64 13)], 0)

/-- Delivery at a fabric port (R329, R330): none while its 4 actions or 16 requests are outstanding. -/
def deliverPort (p : Nat) (k : NocPacket) (s : State) : Option State :=
  let x := s.fab p
  if k.op = opAction then
    if 4 ≤ x.calls.length then none
    else
      let w := actionWordOf k
      some ((s.modFab p (fun x => { x with calls := x.calls ++ [(k.source, k.tag)] })).emit
        (.actionWord p w.1 w.2.1 w.2.2.1 w.2.2.2))
  else if 16 ≤ x.reqs.length then none
  else some ((s.modFab p (fun x => { x with reqs := x.reqs ++ [(k.source, k.tag)] })).emit
    (.fabricRequest p k.source k.tag k.op k.addr k.data))

/-- Requests whose answer a later command of the model sends (R484); the others are answered by the command that serves
them (log entry 121). -/
def countsOutstanding (p : NocPacket) : Bool :=
  decide (p.op = opAction) || (decide (p.vnet = 0 ∧ p.op ≤ 1) && ((List.range 4).any (fun c => decide (dramEndpoint c = p.dest))
    || decide (p.dest = 121 ∨ p.dest = 157)))

/-- A write to the register space that is answered as it is delivered, when its register is written (R483): every one but those to
NVA_DATA, answered when the array has stored the word (R341), and BRL_RACC_DATA, when the far end has answered (R573). -/
def answeredAtOnce (p : NocPacket) : Bool :=
  let off := p.addr - 0x4000000000
  decide (p.vnet = 2 ∧ p.op = opWrite) && decide (off / 8 ≠ NVA_DATA_WORD.off / 8 ∧ off / 8 ≠ BRL_RACC_DATA_DATA.off / 8)

/-- Delivery (R482): none while the target cannot take the request. A poisoned write to the register space is not made
and answered ERR_DATA (R735); any other is answered OK (R15). -/
def deliver (p : NocPacket) (s : State) : Option State :=
  match portOfEndpoint p.dest with
  | some n => deliverPort n p s
  | none =>
    if p.vnet = 2 ∧ p.op = opWrite ∧ p.poison then some (nocRespond p.dest p .errData s)
    else
      let s := if countsOutstanding p then s.addFld NOC_EPe_STATUS_OUTSTANDING 1 p.dest else s
      let s := s.emit (.delivered p.dest p)
      some (if answeredAtOnce p then nocRespond p.dest p .ok s else s)

/-- The endpoints whose responses reach a command of their own, which counts the request as answered. -/
def hasResponseRow (e : Nat) : Bool :=
  ctxEndpoints.contains e || (List.range 4).any (fun d => decide (dieEndpoint d = e ∨ sgeEndpoint d = e))
    || decide (e = 120 ∨ e = 156) || (portOfEndpoint e).isSome

/-- A response reaches the endpoint that sent the request; no damper and no gate stops it (R469, R482, R484). -/
def takeResponse (k : Nat) (x : MeshPacket) (s : State) : State :=
  let e := x.pkt.dest
  let s := (leaveMesh k x s).emit (.delivered e x.pkt)
  if hasResponseRow e then s else answeredAt e s

/-- A VC0 packet of an earlier tick is counted (R470). -/
def countLate (p : NocPacket) (s : State) : State :=
  if p.channel = 0 ∧ p.tick ≠ s.fld TCK_COUNT_COUNT % 2 ^ 32 then carryLate TCK_LATE_NOC_COUNT 1 s else s

/-- The ejection stage takes packet `k` (R482), when the response it may call for can enter the mesh; a damper does not stop a
management request (log entry 122). -/
def ejectPacket (k : Nat) (x : MeshPacket) (s : State) : State :=
  let p := x.pkt
  let answer (st : Status) : State := nocRespond p.dest p st (countStatus p.dest st (countLate p (leaveMesh k x s)))
  if p.isResponse then takeResponse k x s
  else if ¬ mayRespond p.dest (responseTo p .ok 0 false [] s) s then s
  else if ¬ opTaken p then answer .decode
  else if p.vnet = 0 ∧ s.fld NOC_EPe_STATUS_DAMPER p.dest ≠ 0 then answer .fenced
  else if requestGated p s then answer .errGated
  else match deliver p s with
    | none => s
    | some s => countLate p (leaveMesh k x s)

/-- `NOC_EJECT` (R469, R482): packet `k` of the mesh, when it is the first in its ejection port. -/
def execNocEject (k : Nat) (s : State) : Host.Outcome State Fault Refusal :=
  match s.noc.mesh[k]? with
  | none => .next s
  | some x => if x.kind ≠ 2 ∨ ¬ meshFirst k x s.noc.mesh then .next s else .next (ejectPacket k x s)

/-! ### Link replay and drains -/

/-- `LINK_REPLAY` (R486, R487): link `l` replays from a flit that fails its receiver's checks; `same`: the flit of its last
replay, again. -/
def execLinkReplay (l : Fin 320) (f : LinkFlit) (same : Bool) (s : State) : Host.Outcome State Fault Refusal :=
  if (neighbour (l / 4) (l % 4 + 1)).isNone ∨ f.passes then .next s
  else
    let run := if same then Memory.get (fun _ => 0) s.noc.runs l + 1 else 1
    let s := { s with noc := { s.noc with runs := Memory.set (fun _ => 0) s.noc.runs l run } }
    let s := (s.addFld NOC_REPLAY_REPLAYS 1).addFld NOC_REPLAY_CRC_ERR 1
    let s := (s.addFld NOC_LINKl_STAT_REPLAYS 1 l).addFld NOC_LINKl_STAT_CRC_ERR 1 l
    let s := s.maxFld NOC_LINKl_STAT_MAX_RUN (min run 65535) l
    if run = 16 then .next (raise 0x141 l (s.setFld NOC_LINKl_STAT_FAILED 1 l)) else .next s

/-- A closing endpoint without outstanding requests goes SHUT (R484). -/
def endpointShut (e : Nat) (s : State) : State :=
  match portOfEndpoint e with
  | some p => if s.outstandingOf (targetOfPort p) = 0 then shutTarget (targetOfPort p) s else s
  | none =>
    let s := s.setFld NOC_EPe_STATUS_DAMPER 2 e
    match (List.range 4).find? (fun c => decide (dramEndpoint c = e)) with
    | some c => dramAdvance c s
    | none => s

/-- `ENDPOINT_DRAIN_DONE` (R484). -/
def execEndpointDrainDone (e : Fin 320) (s : State) : Host.Outcome State Fault Refusal :=
  if s.fld NOC_EPe_STATUS_DAMPER e = 1 ∧ s.fld NOC_EPe_STATUS_OUTSTANDING e = 0 then .next (endpointShut e s) else .next s

end Sys2Proof.Machine
end

