-- ==== Sys2Proof/Machine/Clocks.lean ====
section
/-! DEFINITION. Clock gates, ramps, fabric clock dividers and user oscillators (R310 to R313, R333 to R335, R631 to R639). -/

namespace Sys2Proof.Machine

/-! ### Ramps (R631 to R633) -/

/-- The state with the ramp of a branch replaced, or taken away. -/
def State.setRamp (s : State) (b : Branch) (r : Option Ramp) : State :=
  let l := s.pwr.ramps.filter (fun x => decide (x.branch ≠ b))
  { s with pwr := { s.pwr with ramps := match r with | some x => l ++ [x] | none => l } }

/-- The edges passed of every 16 of the faster clock in step `k` of a ramp between two root divisors, 0 for stopped
(R632). -/
def rampEdges (old new k : Nat) : Nat :=
  let fast := if old = 0 then new else if new = 0 then old else min old new
  let o := max old 1
  let n := max new 1
  let num := (if old = 0 then 0 else (16 - k) * fast * n) + (if new = 0 then 0 else k * fast * o)
  (2 * num + o * n) / (2 * (o * n))

/-- The divisor of step `k` of a fabric clock divider's ramp (R633). -/
def rampDiv (old new k : Nat) : Nat :=
  let den := (16 - k) * new + k * old
  (2 * (16 * old * new) + den) / (2 * den)

/-- The bit of a gate or region that shows its ramp. -/
def showRamp (b : Branch) (v : Bool) (s : State) : State :=
  match b with
  | .gate n => s.setFbit CLK_GATE_RAMP_RAMPING n v
  | .region r => s.setFbit CLK_RGN_CLOSING_CLOSING r v
  | .fclk k => s.setFld CLK_FCLKk_RAMPING (bnat v) k
  | .noc => s
  | .fixed => s

/-- A ramp begins. -/
def startRamp (b : Branch) (old new : Nat) (next : Option Nat) (s : State) : State :=
  showRamp b true (s.setRamp b (some { branch := b, old := old, new := new, next := next, step := 0, edges := rampEdges old new 0 }))

/-- A ramp makes no step while a trip has stopped its domain (R641, R660); that of the fixed domains ends the stop. -/
def rampHeld (b : Branch) (s : State) : Bool := s.pwr.stopped && decide (b ≠ .fixed)

/-- `RAMP_STEP` (R632, R633): a ramp makes its next step. -/
def execRampStep (b : Branch) (s : State) : Host.Outcome State Fault Refusal :=
  match s.ramp b with
  | none => .next s
  | some r =>
    if 16 ≤ r.step ∨ rampHeld b s then .next s
    else
      let k := r.step + 1
      let s := s.setRamp b (some { r with step := k, edges := rampEdges r.old r.new k })
      match b with
      | .fclk f => .next (s.setFld CLK_FCLKk_CUR_DIV (rampDiv r.old r.new k) f)
      | _ => .next s

/-! ### Gates (R634 to R638) -/

/-- The bits of CLK_GATE that the owner writes. -/
def ownGates : List Nat := (List.range 16).map (· + 5) ++ (List.range 32).map (· + 32)

/-- The gate's bit of CLK_GATE. -/
def State.gateBit (s : State) (n : Nat) : Bool := bit (s.reg CLK_GATE_FIXED.off) n

/-- The state with a gate's bit of CLK_GATE written. -/
def State.setGateBit (s : State) (n : Nat) (v : Bool) : State :=
  s.setReg CLK_GATE_FIXED.off (setBits (s.reg CLK_GATE_FIXED.off) n 1 (bnat v))

/-- The gate is CLOSING. -/
def State.gateClosing (s : State) (n : Nat) : Bool := bit (s.reg CLK_GATE_CLOSING_CLOSING.off) n

/-- The power state holds the gate closed (R648). -/
def State.gateHeld (s : State) (n : Nat) : Bool := s.pwr.forced.testBit n

/-- A gate goes CLOSING; the groups of a channel die go SAFE first (R637). -/
def closeGate (n : Nat) (s : State) : State :=
  let s := if 10 ≤ n ∧ n < 14 then (List.range 32).foldl (fun s i => enterSafe (32 * (n - 10) + i) s) s else s
  s.setFbit CLK_GATE_CLOSING_CLOSING n true

/-- One bit of CLK_GATE is written. -/
def writeGate (n : Nat) (v : Bool) (s : State) : State :=
  let was := s.gateBit n
  let s := s.setGateBit n v
  if v = was ∨ s.gateHeld n ∨ s.gateClosing n ∨ (s.ramp (.gate n)).isSome then s
  else if v then startRamp (.gate n) 0 1 none s
  else closeGate n s

/-- The region's gate is closing: its bit shows it and no ramp runs. -/
def State.rgnClosing (s : State) (r : Nat) : Bool :=
  s.fbit CLK_RGN_CLOSING_CLOSING r && (s.ramp (.region r)).isNone

/-- One bit of CLK_RGN_GATE is written by the owner (R636). -/
def writeRgnGate (r : Nat) (v : Bool) (s : State) : State :=
  let was := s.fbit CLK_RGN_GATE_GATE r
  let s := s.setFbit CLK_RGN_GATE_GATE r v
  if v = was ∨ s.pwr.rgnForced ∨ s.fbit CLK_RGN_CLOSING_CLOSING r then s
  else followRegion r (if v then startRamp (.region r) 0 1 none s else s.setFbit CLK_RGN_CLOSING_CLOSING r true)

/-- The effect of a write to CLK_GATE, or to CLK_RGN_GATE (R636 to R638). -/
def gateEffect (regions : Bool) (h : Half) (data : Word) (s : State) : State :=
  if regions then
    ((List.range 64).filter h.reaches).foldl (fun s r => writeRgnGate r (bit data r) s) s
  else (ownGates.filter h.reaches).foldl (fun s n => writeGate n (bit data n) s) s

/-- The register of a gate write. -/
def gateRegister (regions : Bool) : RegName := if regions then .CLK_RGN_GATE else .CLK_GATE

/-- `GATE_CLOSE` (R637). -/
def execGateClose (m : Ident) (regions : Bool) (h : Half) (data : Word) (s : State) : Host.Outcome State Fault Refusal :=
  .next (regWrite (gateRegister regions) [] m h (gateEffect regions h data) s)

/-- `GATE_OPEN` (R638). -/
def execGateOpen (m : Ident) (regions : Bool) (h : Half) (data : Word) (s : State) : Host.Outcome State Fault Refusal :=
  .next (regWrite (gateRegister regions) [] m h (gateEffect regions h data) s)

/-- An endpoint has no outstanding request. -/
def idleEndpoint (e : Nat) (s : State) : Bool := decide (s.fld NOC_EPe_STATUS_OUTSTANDING e = 0)

/-- The block of a gate has no outstanding request (R637, R734). -/
def gateDrained (n : Nat) (s : State) : Bool :=
  if n = 5 then s.ctx.flight.isEmpty && s.ctx.writes.isEmpty
  else if n = 6 then idleEndpoint 121 s && idleEndpoint 157 s && s.mm.portA.isEmpty && s.mm.portB.isEmpty && s.mm.held.isEmpty
  else if n = 7 then idleEndpoint 161 s
  else if n = 8 then s.nva.waiting.isEmpty
  else if 10 ≤ n ∧ n < 14 then idleEndpoint (dieEndpoint (n - 10)) s
  else if 14 ≤ n ∧ n < 18 then
    idleEndpoint (dramEndpoint (n - 14)) s && (s.drc (n - 14)).reads.isEmpty && (s.drc (n - 14)).writes.isEmpty
  else if n = 18 then idleEndpoint 156 s
  else if n = 20 then decide (s.outstandingOf 64 = 0)
  else if 32 ≤ n then !(s.eng (n - 32)).busy && (s.eng (n - 32)).queue.isEmpty && (s.eng (n - 32)).dma.isNone
  else true

/-- `GATE_DRAINED` (R637): a CLOSING block has no outstanding request, and its clock ramps down. -/
def execGateDrained (b : Branch) (s : State) : Host.Outcome State Fault Refusal :=
  match b with
  | .gate n =>
    if s.gateClosing n ∧ gateDrained n s ∧ ¬ s.pwr.stopped then
      .next (startRamp (.gate n) 1 0 none (s.setFbit CLK_GATE_CLOSING_CLOSING n false))
    else .next s
  | .region r =>
    if s.rgnClosing r ∧ s.outstandingOf r = 0 ∧ ¬ s.pwr.stopped then .next (startRamp (.region r) 1 0 none s) else .next s
  | _ => .next s

/-- A gate's ramp has ended (R637, R638, R734). -/
def gateRampEnd (n : Nat) (up : Bool) (s : State) : State :=
  if up then
    if s.gateBit n ∧ ¬ s.gateHeld n then (if n = 5 then startRebuild { s with ctx := { s.ctx with admitted := [], loose := [] } } else s) else closeGate n s
  else if s.gateBit n ∧ ¬ s.gateHeld n then startRamp (.gate n) 0 1 none s
  else s

/-- The ramp of a region's clock lines has ended. -/
def rgnRampEnd (r : Nat) (up : Bool) (s : State) : State :=
  let want := s.fbit CLK_RGN_GATE_GATE r && !s.pwr.rgnForced
  followRegion r
    (if up then (if want then s else s.setFbit CLK_RGN_CLOSING_CLOSING r true)
     else if want then startRamp (.region r) 0 1 none s else s)

/-- A lowered voltage is commanded once the NoC has slowed (R648, B3; R656). -/
def commandVoltage (mv : Nat) (raised : Bool) (s : State) : State :=
  { (s.setFld PWR_AVS_TARGET_MV mv).emit (.avs (s.fld PWR_CTL_AVS_RAIL) mv) with pwr := { s.pwr with avs := some raised } }

/-- The NoC's ramp has ended: its divisor is in effect, and in step B3 the lower voltage is commanded. -/
def nocRampEnd (new : Nat) (s : State) : State :=
  let s := { s with pwr := { s.pwr with nocDiv := new } }
  if s.fld PWR_STATUS_STEP = 4 then commandVoltage 650 false s else s

/-- The controllers that a trip or step B2 put into self-refresh exit it (R518, R641, R648). -/
def wakeDrams (s : State) : State :=
  (List.range 4).foldl (fun s c => if (s.drc c).resume ∧ s.drState c = drSelfRefresh then dramWake c s else s) s

/-- The stopped domains have ramped up after a trip or a freeze (R641, R644): a suspended step resumes (R660), frame jobs that
missed their ticks start (R36), and the DRAM controllers leave self-refresh unless a power state keeps them there. -/
def resumeDomains (s : State) : State :=
  let s := { s.setFld PWR_STATUS_SUSPENDED 0 with pwr := { s.pwr with stopped := false } }
  let s := (List.range 32).foldl (fun s e => startBacklog e s) s
  if s.pwr.retained ∨ s.fld PWR_STATUS_STEP = 3 then s else wakeDrams s

/-- `RAMP_END` (R631): a ramp has made its 16 steps; a source change goes on with the new source, and a fabric clock divider
waits for the tick boundary at which it is at phase 0 (R312). -/
def execRampEnd (b : Branch) (s : State) : Host.Outcome State Fault Refusal :=
  match s.ramp b with
  | none => .next s
  | some r =>
    if r.step < 16 ∨ rampHeld b s then .next s
    else
      let s := showRamp b false (s.setRamp b none)
      match r.next with
      | some d => .next (startRamp b 0 d none s)
      | none =>
        match b with
        | .gate n => .next (gateRampEnd n (decide (r.new ≠ 0)) s)
        | .region g => .next (rgnRampEnd g (decide (r.new ≠ 0)) s)
        | .fclk k => .next { s.setFld CLK_FCLKk_CUR_DIV r.new k with logic := { s.logic with settling := s.logic.settling ++ [k] } }
        | .noc => .next (nocRampEnd r.new s)
        | .fixed => .next (if s.pwr.stopped then resumeDomains s else s)

/-! ### Fabric clock dividers (R311 to R313) -/

/-- The state with a divider changed. -/
def State.setFclk (s : State) (k : Nat) (c : FClk) : State :=
  { s with pwr := { s.pwr with fclks := s.pwr.fclks.set k c } }

/-- The EN and DIV that a further write leaves frozen for the coming boundary (R44). -/
def State.fclkFroze (s : State) (k : Nat) : Option (Bool × Nat) :=
  match (s.fclk k).due with
  | some b => if s.frozenSet ∧ b ≤ s.tck.ticks + 1 then some (s.on CLK_FCLKk_EN k, s.fld CLK_FCLKk_DIV k) else (s.fclk k).frozen
  | none => (s.fclk k).frozen

/-- The effect of a write to CLK_FCLKk: DIV outside 16 to 4,096 makes it ignored as a whole; a change waits for the
boundary. -/
def fclkEffect (k : Nat) (h : Half) (data : Word) (s : State) : State :=
  if ¬ h.reaches 0 ∨ bits data 0 13 < 16 ∨ 4096 < bits data 0 13 then s
  else
    let c := { s.fclk k with frozen := s.fclkFroze k }
    let s := (s.setFld CLK_FCLKk_DIV (bits data 0 13) k).setFld CLK_FCLKk_EN (bits data 16 1) k
    if c.frozen = none ∧ c.runs = s.on CLK_FCLKk_EN k ∧ c.div = s.fld CLK_FCLKk_DIV k then
      (s.setFclk k { c with due := none }).setFld CLK_FCLKk_PENDING 0 k
    else (s.setFclk k { c with due := some s.nextDue }).setFld CLK_FCLKk_PENDING 1 k

/-- `FCLK_WRITE` (R311, R313). -/
def execFclkWrite (m : Ident) (k : Fin 24) (h : Half) (data : Word) (s : State) : Host.Outcome State Fault Refusal :=
  .next (regWrite .CLK_FCLKk [k] m h (fclkEffect k h data) s)

/-- A change of divisor by more than a factor of 2 (R312, R631). -/
def farApart (a b : Nat) : Bool := decide (2 * a < b ∨ 2 * b < a)

/-- Divider `k` is at phase 0 at this boundary (R26, R312). -/
def startPhase (k : Nat) (s : State) : State :=
  { s with logic := { s.logic with
    starts := s.logic.starts.set k s.logic.clock, settling := s.logic.settling.filter (fun j => decide (j ≠ k)) } }

/-- Divider `k` runs as EN and DIV say, from phase 0 at this boundary on (R26, R311 to R313). -/
def setDivider (k : Nat) (en : Bool) (div : Nat) (due : Option Nat) (s : State) : State :=
  let c := s.fclk k
  let s := startPhase k (s.setFclk k { runs := en, div := div, due := due, frozen := none })
  if ¬ en then showRamp (.fclk k) false (s.setRamp (.fclk k) none)
  else
    let old := if c.runs then c.div else 4096
    if farApart old div then startRamp (.fclk k) old div none s else s.setFld CLK_FCLKk_CUR_DIV div k

/-- A divider at a boundary: one whose ramp has ended runs at DIV from phase 0 (R312), and a pending write takes effect (R311 to
R313), the one frozen for the boundary first (R44). A change during a ramp waits for a boundary after it, and a later write
replaces it. -/
def fclkAtBoundary (s : State) (k : Nat) : State :=
  let s := if s.logic.settling.contains k then startPhase k s else s
  let c := s.fclk k
  let ramping := (s.ramp (.fclk k)).isSome
  match c.frozen with
  | some (en, div) => if en ∧ ramping then s.setFclk k { c with frozen := none } else setDivider k en div c.due s
  | none =>
    match c.due with
    | none => s
    | some b =>
      let en := s.on CLK_FCLKk_EN k
      if s.tck.ticks < b ∨ (en ∧ ramping) then s
      else setDivider k en (s.fld CLK_FCLKk_DIV k) none (s.setFld CLK_FCLKk_PENDING 0 k)

/-! ### User oscillators (R333 to R335) -/

/-- The effect of a write to CLK_UOSCk. -/
def uoscEffect (k : Nat) (h : Half) (data : Word) (s : State) : State :=
  match wfield h data CLK_UOSCk_EN with
  | none => s
  | some v =>
    if v = s.fld CLK_UOSCk_EN k then s
    else (s.setFld CLK_UOSCk_EN v k).setFld CLK_UOSCk_READY 0 k

/-- `UOSC_ENABLE` (R334): the oscillator starts; its output stays low until READY. -/
def execUoscEnable (m : Ident) (k : Fin 4) (h : Half) (data : Word) (s : State) : Host.Outcome State Fault Refusal :=
  .next (regWrite .CLK_UOSCk [k] m h (uoscEffect k h data) s)

/-- `UOSC_DISABLE` (R334): the output stops low. -/
def execUoscDisable (m : Ident) (k : Fin 4) (h : Half) (data : Word) (s : State) : Host.Outcome State Fault Refusal :=
  .next (regWrite .CLK_UOSCk [k] m h (uoscEffect k h data) s)

/-- `UOSC_READY` (R334): the output starts, unless the oscillator is powered down (R646). -/
def execUoscReady (k : Fin 4) (s : State) : Host.Outcome State Fault Refusal :=
  if s.on CLK_UOSCk_EN k ∧ ¬ s.pwr.isolated then .next (s.setFld CLK_UOSCk_READY 1 k) else .next s

/-- The root runs: it has locked, and the device is not frozen. -/
def State.rootRuns (s : State) : Bool := s.on CLK_STATUS_ROOT && !s.pwr.frozen

/-- `UOSC_MEASURE` (R335): each running oscillator is measured against the root. -/
def execUoscMeasure (hz : List Nat) (s : State) : Host.Outcome State Fault Refusal :=
  if ¬ s.rootRuns then .next s
  else .next ((List.range 4).foldl (fun s k =>
    if s.on CLK_UOSCk_READY k then s.setFld CLK_UOSCk_MEAS_HZ (hz.getD k 0) k else s) s)

end Sys2Proof.Machine
end

