-- ==== Sys2Proof/Machine/Pins.lean ====
section
/-! DEFINITION. The package (R708 to R713): the names of the balls, the areas of the grid with their signals and supplies in
assignment order, and the balls of the channels. -/

namespace Sys2Proof.Machine

/-- The nineteen letters of the row names (R708). -/
def rowLetters : List String :=
  ["A", "B", "C", "D", "E", "F", "G", "H", "J", "K", "L", "M", "N", "P", "T", "U", "V", "W", "Y"]

/-- The name of row `k`, 1 to 74 (R708). -/
def rowName (k : Nat) : String :=
  if k ≤ 19 then rowLetters.getD (k - 1) ""
  else rowLetters.getD ((k - 20) / 19) "" ++ rowLetters.getD ((k - 20) % 19) ""

/-- The ball of a channel: row and column (R712). -/
def channelBall (c : Nat) : Nat × Nat :=
  let d := c / 512
  let i := c % 512
  let gl := i / 16
  let p := i % 16
  ((if d < 2 then 1 else 55) + 5 * (gl / 8) + p / 4, (if d % 2 = 0 then 1 else 43) + 4 * (gl % 8) + p % 4)

/-- The four ground balls below the channels of a group (R712). -/
def groundBalls (g : Nat) : List (Nat × Nat) :=
  let a := channelBall (16 * g)
  (List.range 4).map (fun k => (a.1 + 4, a.2 + k))

/-- A signal of the package: a name, or one of a numbered family (R710, R711). -/
inductive PinName
  | one (name : String)
  | ser (n io : Nat)
  | lane (n : Nat) (name : String)
  | ddr (c : Nat) (sub name : String)
  | channel (c : Nat)
  | supply (name : String)
  deriving DecidableEq, Repr

/-- An area of the grid: its rows and columns, its signals in assignment order, then its supplies with their numbers (R710). -/
structure PinArea where
  row : Nat
  rows : Nat
  col : Nat
  cols : Nat
  signals : List PinName
  supplies : List (String × Nat)
  deriving DecidableEq, Repr

/-- The signals of the control area (R710). -/
def controlSignals : List PinName :=
  (["PWR_OK", "CORE_EN", "DONE_N", "EMBER", "WAKE0", "WAKE1", "WAKE2", "WAKE3", "PERST_N", "PCIE_WAKE_N", "XTAL_IN", "XTAL_OUT",
    "AVS_CLK", "AVS_MDATA", "AVS_SDATA", "JTAG_TCK", "JTAG_TMS", "JTAG_TDI", "JTAG_TDO", "JTAG_TRST_N", "XSPI_CLK", "XSPI_CS_N",
    "XSPI_DQ0", "XSPI_DQ1", "XSPI_DQ2", "XSPI_DQ3", "XSPI_DQ4", "XSPI_DQ5", "XSPI_DQ6", "XSPI_DQ7", "XSPI_DQS", "XSPI_RESET_N",
    "BOOT_SRC0", "BOOT_SRC1", "REF_SEL", "SAFE_KEEP", "FUSE_EN", "TDIODE_P", "TDIODE_N", "CORE_SENSE_P", "CORE_SENSE_N"].map .one)
  ++ (List.range 16).flatMap (fun n => (List.range 4).map (fun io => .ser n io))

/-- The four signals of each lane from `first` on (R710). -/
def laneSignals (first : Nat) : List PinName :=
  (List.range 48).flatMap (fun n => ["TXP", "TXN", "RXP", "RXN"].map (.lane (first + n)))

/-- The signals of a subchannel of a DRAM controller (R711). -/
def subchannelSignals (c : Nat) (sub : String) : List PinName :=
  (["CK_T", "CK_C", "CA0", "CA1", "CA2", "CA3", "CA4", "CA5", "CA6", "PAR", "CS0_N", "CS1_N"]
    ++ (List.range 40).map (fun k => "DQ" ++ toString k)
    ++ (List.range 10).flatMap (fun k => ["DQS" ++ toString k ++ "_T", "DQS" ++ toString k ++ "_C"])).map (.ddr c sub)

/-- The signals of a DRAM controller (R711). -/
def dramSignals (c : Nat) : List PinName :=
  [.ddr c "" "RESET_N", .ddr c "" "ALERT_N"] ++ subchannelSignals c "A" ++ subchannelSignals c "B"

/-- The areas whose balls are assigned row by row (R710, R711). -/
def pinAreas : List PinArea :=
  [⟨1, 20, 33, 10, controlSignals, [("VDDIO", 24), ("VDDIO_AON", 4), ("VDD_AON", 4), ("VSS", 63)]⟩,
   ⟨55, 20, 33, 10, [], [("VDDH_CH", 128), ("VDDA_CH", 32), ("VSS", 40)]⟩,
   ⟨21, 34, 1, 12, .one "HREFCLK_P" :: .one "HREFCLK_N" :: laneSignals 0, [("VDDH_LANE", 24), ("VDD_LANE", 48), ("VSS", 142)]⟩,
   ⟨21, 34, 63, 12, laneSignals 48, [("VDDH_LANE", 24), ("VDD_LANE", 48), ("VSS", 144)]⟩,
   ⟨21, 34, 13, 12, dramSignals 0 ++ dramSignals 1, [("VDDQ", 48), ("VSS", 68)]⟩,
   ⟨21, 34, 51, 12, dramSignals 2 ++ dramSignals 3, [("VDDQ", 48), ("VSS", 68)]⟩,
   ⟨21, 34, 25, 26, [], [("VDD_CORE", 420), ("VDD_SRAM", 60), ("VDD_CH", 64), ("VDD_PLL", 16), ("VSS", 324)]⟩]

/-- What an area's balls carry, in assignment order (R711). -/
def PinArea.order (a : PinArea) : List PinName :=
  a.signals ++ a.supplies.flatMap (fun x => List.replicate x.2 (.supply x.1))

/-- What the ball of a channel die area carries (R712): a channel, or ground. -/
def channelAreaPin (row col : Nat) : PinName :=
  let d := (if 55 ≤ row then 2 else 0) + (if 43 ≤ col then 1 else 0)
  let y := row - (if 55 ≤ row then 55 else 1)
  let x := col - (if 43 ≤ col then 43 else 1)
  if y % 5 = 4 then .supply "VSS" else .channel (512 * d + 16 * (8 * (y / 5) + x / 4) + 4 * (y % 5) + x % 4)

/-- What the ball at a row and column carries, or none outside the grid (R710 to R712). -/
def ballPin (row col : Nat) : Option PinName :=
  match pinAreas.find? (fun a => decide (a.row ≤ row ∧ row < a.row + a.rows ∧ a.col ≤ col ∧ col < a.col + a.cols)) with
  | some a => a.order[(row - a.row) * a.cols + (col - a.col)]?
  | none => if 1 ≤ row ∧ row ≤ 74 ∧ 1 ≤ col ∧ col ≤ 74 then some (channelAreaPin row col) else none

/-- The straps (R713) and whether each is read live besides being sampled (R714, R715). -/
inductive Strap
  | bootSrc1 | bootSrc0 | refSel | safeKeep | fuseEn
  deriving DecidableEq, Repr

/-- A strap is latched when the kindling oscillator is first ready (R713, R714). -/
def Strap.sampled : Strap → Bool
  | .fuseEn => false
  | _ => true

/-- A strap's present level counts: FUSE_EN always, SAFE_KEEP before the straps are latched (R713, R715). -/
def Strap.live : Strap → Bool
  | .fuseEn => true
  | .safeKeep => true
  | _ => false

end Sys2Proof.Machine
end

