-- ==== Sys2Proof/Machine/Lanes.lean ====
section
/-! DEFINITION. Lanes and quads (R527 to R537), link bring-up (R538 to R541), delay measurement (R563, R564) and user
lanes (R576, R577). -/

namespace Sys2Proof.Machine

/-! ### Lanes -/

/-- The MODE a lane is in (R535): TEST takes effect on a host lane only while LINK_DIS is 1 and on a Brocia lane only while
its port is disabled. -/
def laneMode (n : Nat) (s : State) : Nat :=
  let m := s.fld LNK_LANEn_CTL_MODE n
  if m = 2 then
    if n < 16 then (if s.on PCI_CTL_LINK_DIS then 2 else 1)
    else if n < 32 then (if s.fbit BRL_CTL_PORT_EN ((n - 16) / 4) then 1 else 2)
    else 2
  else m

/-- A lane that is not powered down (R529). -/
def laneOn (n : Nat) (s : State) : Bool := s.on LNK_QUADq_RATE (n / 4) && decide (s.fld LNK_LANEn_CTL_MODE n ≠ 0)

/-- The preset for a loss (R532). -/
def presetOf (loss : Nat) : Nat := if loss < 8 then 0 else if loss < 16 then 1 else if loss < 24 then 2 else 3

/-- CTLE code and taps 1 to 3 of a preset (R532). -/
def presetValues : Nat → Nat × Nat × Nat × Nat
  | 0 => (2, 0, 0, 0)
  | 1 => (6, 8, 0, 0)
  | 2 => (10, 20, 6, 0)
  | _ => (14, 32, 12, 4)

/-- A lane's CTLE and taps take a preset. -/
def loadPreset (n preset : Nat) (s : State) : State :=
  let v := presetValues preset
  let s := (s.setFld LNK_LANEn_RXSTAT_PRESET preset n).setFld LNK_LANEn_RXSTAT_CTLE v.1 n
  let s := s.setReg (LNK_LANEn_DFE0_TAP0.key n 0 0) (mkWord [(0, 8, v.2.1), (8, 8, v.2.2.1), (16, 8, v.2.2.2)])
  s.setReg (LNK_LANEn_DFE1_TAP0.key n 0 0) 0

/-- Lanes lose their presets: powered down, rate changed or restarted (R532). -/
def unsettle (p : Nat → Bool) (s : State) : State :=
  { s with lanes := { s.lanes with settled := s.lanes.settled.filter (fun n => !p n) } }

/-- A powered-down lane is out of bit lock (R529). -/
def powerDownLane (n : Nat) (s : State) : State :=
  unsettle (fun k => decide (k = n)) (((s.setFld LNK_LANEn_RXSTAT_BIT_LOCK 0 n).setFld LNK_LANEn_RXSTAT_BLOCK_LOCK 0 n).setFld
    LNK_LANEn_ERR_CHK_LOCK 0 n)

/-- A quad's rate changes: every preset of the quad is given up (R532); rate 0 powers its lanes down. -/
def setQuadRate (q v : Nat) (s : State) : State :=
  if s.fld LNK_QUADq_RATE q = v then s
  else
    let s := unsettle (fun k => decide (k / 4 = q)) (s.setFld LNK_QUADq_RATE v q)
    if v = 0 then (List.range 4).foldl (fun s i => powerDownLane (4 * q + i) s) s else s

/-- `LANE_BIT_LOCK` (R532): the first bit lock measures the loss and loads its preset. -/
def execLaneBitLock (n : Fin 96) (lossDb : Nat) (s : State) : Host.Outcome State Fault Refusal :=
  if ¬ laneOn n s then .next s
  else
    let s := s.setFld LNK_LANEn_RXSTAT_BIT_LOCK 1 n
    if s.lanes.settled.contains n.val then .next s
    else
      let s := { s with lanes := { s.lanes with settled := s.lanes.settled ++ [n.val] } }
      .next (loadPreset n (presetOf lossDb) (s.setFld LNK_LANEn_RXSTAT_LOSS_DB (min lossDb 255) n))

/-- The effect of a write to LNK_LANEn_CTL: MODE 3 is ignored, BLOCK is locked in PROTOCOL, RESTART reloads the preset. -/
def laneCtlEffect (n : Nat) (h : Half) (data : Word) (s : State) : State :=
  if ¬ h.reaches 0 then s
  else
    let s := if s.fld LNK_LANEn_CTL_MODE n = 1 then s else s.setFld LNK_LANEn_CTL_BLOCK (bits data 4 1) n
    let mode := bits data 0 2
    let s := if mode = 3 then s else s.setFld LNK_LANEn_CTL_MODE mode n
    let s := (s.setFld LNK_LANEn_CTL_LOOP (bits data 2 1) n).setFld LNK_LANEn_CTL_ADAPT (bits data 5 1) n
    let s := if mode = 0 then powerDownLane n s else if laneMode n s = 2 then s else s.setFld LNK_LANEn_ERR_CHK_LOCK 0 n
    if bit data 6 then
      let s := if s.lanes.settled.contains n then loadPreset n (presetOf (s.fld LNK_LANEn_RXSTAT_LOSS_DB n)) s else s
      unsettle (fun k => decide (k = n)) s
    else s

/-- `LANE_RESTART` (R532). -/
def execLaneRestart (m : Ident) (n : Fin 96) (h : Half) (data : Word) (s : State) : Host.Outcome State Fault Refusal :=
  .next (regWrite .LNK_LANEn_CTL [n] m h (laneCtlEffect n h data) s)

/-! ### Patterns (R534 to R537) -/

/-- The largest count of errors (R536). -/
def errorLimit : Nat := 2 ^ 48 - 1

/-- The checker's pattern is one (R536). -/
def checkerOn (n : Nat) (s : State) : Bool :=
  decide (laneMode n s = 2 ∧ s.fld LNK_LANEn_PAT_CHK n ≠ 0 ∧ s.fld LNK_LANEn_PAT_CHK n ≠ 7)

/-- Errors are added while the checker is locked. -/
def countErrors (n k : Nat) (s : State) : State :=
  s.setFld LNK_LANEn_ERR_ERRORS (min (s.fld LNK_LANEn_ERR_ERRORS n + k) errorLimit) n

/-- The taps of a PRBS pattern's polynomial (R534), by its code. -/
def prbsTaps : Nat → Option (Nat × Nat)
  | 1 => some (7, 6)
  | 2 => some (9, 5)
  | 3 => some (15, 14)
  | 4 => some (23, 18)
  | 5 => some (31, 28)
  | _ => none

/-- The next bit of a pattern after the last 64 (bit 0 the latest): the sum at the polynomial's taps, or for USER the bit of 64
before. -/
def patternNext (code : Nat) (last : Word) : Bool :=
  match prbsTaps code with
  | some (a, b) => bit last (a - 1) ^^ bit last (b - 1)
  | none => decide (code = 6) && bit last 63

/-- The last 64 bits after one more. -/
def pushBit (last : Word) (b : Bool) : Word := last <<< 1 ||| if b then 1 else 0

/-- The next bits of a pattern. -/
def patternRun (code : Nat) : Nat → Word → List Bool
  | 0, _ => []
  | k + 1, last => patternNext code last :: patternRun code k (pushBit last (patternNext code last))

/-- 64 consecutive bits are bits of a pattern (log entry 146): each that has its taps among them follows them and they are not all
zero, or, for USER, they are LNK_LANEn_UPAT from some bit of it on, bit 0 first. -/
def followsPattern (code : Nat) (user last : Word) : Bool :=
  match prbsTaps code with
  | some (a, b) => decide (last ≠ 0)
      && (List.range (64 - a)).all (fun i => bit last i == (bit last (i + a) ^^ bit last (i + b)))
  | none => decide (code = 6)
      && (List.range 64).any (fun r => (List.range 64).all (fun i => bit last i == bit user ((r + 64 - i) % 64)))

/-- A lane's checker. -/
def State.laneCheck (s : State) (n : Nat) : LaneCheck := Memory.get (fun _ => LaneCheck.reset) s.lanes.checks n
def setLaneCheck (n : Nat) (c : LaneCheck) (s : State) : State :=
  { s with lanes := { s.lanes with checks := Memory.set (fun _ => LaneCheck.reset) s.lanes.checks n c } }

/-- The bit that a looped receiver gets (R537): the generator's next, inverted while an injection lasts. -/
def loopBit (gen : Nat) (c : LaneCheck) : Bool × LaneCheck :=
  let g := patternNext gen c.gen
  (g ^^ decide (0 < c.flips), { c with gen := pushBit c.gen g, flips := c.flips - 1 })

/-- One bit is compared with the reference generator (R536): whether it is an error. -/
def compareBit (chk : Nat) (b : Bool) (c : LaneCheck) : Bool × LaneCheck :=
  let want := patternNext chk c.ref
  (b ^^ want, { c with ref := pushBit c.ref want, misses := ((b ^^ want) :: c.misses).take 1024 })

/-- What a run of received bits gives (R536): the bits compared, the errors, whether lock is lost, and the checker after it. With
`loop`, the code of the generator whose output is looped back, the bits are that generator's. Bits after the loss of lock are not
compared. -/
def compareBits (chk : Nat) (loop : Option Nat) : List Bool → LaneCheck → Nat × Nat × Bool × LaneCheck
  | [], c => (0, 0, false, c)
  | b :: r, c =>
    let i := match loop with | some gen => loopBit gen c | none => (b, c)
    let x := compareBit chk i.1 i.2
    if 256 ≤ (x.2.misses.filter id).length then (1, bnat x.1, true, x.2)
    else
      let t := compareBits chk loop r x.2
      (t.1 + 1, t.2.1 + bnat x.1, t.2.2.1, t.2.2.2)

/-- The generator whose output the receiver gets, if it is looped (R537). -/
def loopOf (n : Nat) (s : State) : Option Nat :=
  if s.on LNK_LANEn_CTL_LOOP n then some (s.fld LNK_LANEn_PAT_GEN n) else none

/-- The last 64 bits received let the checker lock: they are bits of its pattern, and of the generator's where it is looped. -/
def mayLock (n : Nat) (seen : Word) (s : State) : Bool :=
  let user := s.reg (LNK_LANEn_UPAT_PATTERN.key n 0 0)
  checkerOn n s && followsPattern (s.fld LNK_LANEn_PAT_CHK n) user seen
    && (match loopOf n s with | some gen => followsPattern gen user seen | none => true)

/-- `CHECKER_LOCK` (R536): the last 64 bits received, bit 0 the latest. -/
def execCheckerLock (n : Fin 96) (seen : Word) (s : State) : Host.Outcome State Fault Refusal :=
  if mayLock n seen s ∧ ¬ s.on LNK_LANEn_ERR_CHK_LOCK n then
    .next (setLaneCheck n { ref := seen, gen := seen, flips := 0, misses := [] } (s.setFld LNK_LANEn_ERR_CHK_LOCK 1 n))
  else .next s

/-- The checker is out of lock where it has no pattern to check. -/
def syncChecker (n : Nat) (s : State) : State := if checkerOn n s then s else s.setFld LNK_LANEn_ERR_CHK_LOCK 0 n

/-- `CHECKER_LOCK_LOSS` (R536): the bits received since the last were brought in are compared and counted, and lock is lost where 256
of 1,024 mismatch. -/
def execCheckerLockLoss (n : Fin 96) (seen : List Bool) (s : State) : Host.Outcome State Fault Refusal :=
  let s := syncChecker n s
  if s.on LNK_LANEn_ERR_CHK_LOCK n then
    let x := compareBits (s.fld LNK_LANEn_PAT_CHK n) (loopOf n s) seen (s.laneCheck n)
    let s := setLaneCheck n x.2.2.2 (countErrors n x.2.1 (s.addFld LNK_LANEn_BITS_COUNT x.1 n))
    .next (if x.2.2.1 then s.setFld LNK_LANEn_ERR_CHK_LOCK 0 n else s)
  else .next s

/-- An injection inverts the next bits of the generator's output (R537), which a looped receiver gets inverted. -/
def injectBits (n count : Nat) (s : State) : State :=
  if laneMode n s ≠ 2 ∨ s.fld LNK_LANEn_PAT_GEN n = 0 ∨ s.fld LNK_LANEn_PAT_GEN n = 7 then s
  else
    let s := s.emit (.inject n count)
    if (loopOf n s).isSome ∧ s.on LNK_LANEn_ERR_CHK_LOCK n then
      let c := s.laneCheck n
      setLaneCheck n { c with flips := c.flips + count } s
    else s

/-- The bits of a burst (R537). -/
def burstLength (n : Nat) (s : State) : Nat := max 1 (s.fld LNK_LANEn_PAT_BURST_LEN n)

/-- The effect of a write to LNK_LANEn_PAT (R536, R537). -/
def patEffect (n : Nat) (h : Half) (data : Word) (s : State) : State :=
  let s := plainWrite (regInfo .LNK_LANEn_PAT).fields (LNK_LANEn_PAT_GEN.key n 0 0) (fun _ => false) h data s
  let s := syncChecker n ((s.setFld LNK_LANEn_BITS_COUNT 0 n).setFld LNK_LANEn_ERR_ERRORS 0 n)
  let one := wbit h data LNK_LANEn_PAT_INJ_SINGLE
  let many := wbit h data LNK_LANEn_PAT_INJ_BURST
  let s := { s with lanes := { s.lanes with
    injecting := s.lanes.injecting.filter (fun x => decide (x.1 ≠ n)) ++ (if one then [(n, false)] else [])
      ++ (if many then [(n, true)] else []) } }
  let s := if one then injectBits n 1 s else s
  if many then injectBits n (burstLength n s) s else s

/-- `PATTERN_WRITE` (R536). -/
def execPatternWrite (m : Ident) (n : Fin 96) (h : Half) (data : Word) (s : State) : Host.Outcome State Fault Refusal :=
  .next (regWrite .LNK_LANEn_PAT [n] m h (patEffect n h data) s)

/-- `INJ_SINGLE` (R537). -/
def execInjSingle (m : Ident) (n : Fin 96) (h : Half) (data : Word) (s : State) : Host.Outcome State Fault Refusal :=
  .next (regWrite .LNK_LANEn_PAT [n] m h (patEffect n h data) s)

/-- `INJ_BURST` (R537). -/
def execInjBurst (m : Ident) (n : Fin 96) (h : Half) (data : Word) (s : State) : Host.Outcome State Fault Refusal :=
  .next (regWrite .LNK_LANEn_PAT [n] m h (patEffect n h data) s)

/-- `INJECTION_REPEAT` (R537). -/
def execInjectionRepeat (n : Fin 96) (s : State) : Host.Outcome State Fault Refusal :=
  if s.on LNK_LANEn_PAT_INJ_EVERY n then
    .next ((s.lanes.injecting.filter (fun x => decide (x.1 = n.val))).foldl
      (fun s x => injectBits n (if x.2 then burstLength n s else 1) s) s)
  else .next s

/-! ### Bring-up (R538 to R541) -/

/-- A port may bring its link up: enabled, its gate open. -/
def portEnabled (p : Nat) (s : State) : Bool := s.fbit BRL_CTL_PORT_EN p && s.gateOpen 18

/-- The lanes of a port. -/
def portLanes (p : Nat) : List Nat := [16 + 4 * p, 17 + 4 * p, 18 + 4 * p, 19 + 4 * p]

/-- A port's stage. -/
def State.stage (s : State) (p : Nat) : Nat := s.fld BRL_PORTp_STATUS_STAGE p
def setStage (p v : Nat) (s : State) : State := s.setFld BRL_PORTp_STATUS_STAGE v p

/-- A user lane's stage: 1 to 4, and 5 once stage 4 has ended. -/
def State.laneStage (s : State) (n : Nat) : Nat := Memory.get (fun _ => 1) s.lanes.stages n
def setLaneStage (n v : Nat) (s : State) : State :=
  { s with lanes := { s.lanes with stages := Memory.set (fun _ => 1) s.lanes.stages n v } }

/-- A user lane in BLOCK mode runs stages (R541). -/
def laneBlocks (n : Nat) (s : State) : Bool := s.on LNK_LANEn_CTL_BLOCK n && laneOn n s && decide (laneMode n s = 1)

/-- A stage fails: stage 1, and FAILS counts (R538). -/
def stageFails (p : Nat) (s : State) : State := (portToStage1 p s).addFld BRL_PORTp_STATUS_FAILS 1 p

/-- `RECEIVER_DETECT` (R538). -/
def execReceiverDetect (l : LinkId) (found : Bool) (s : State) : Host.Outcome State Fault Refusal :=
  match l with
  | .port p =>
    if found ∧ portEnabled p s ∧ s.stage p = 1 then
      .next (setQuadRate (4 + p) 2 ((setStage p 2 s).setFld BRL_PORTp_STATUS_RATE 2 p))
    else .next s
  | .lane n => if found ∧ laneBlocks (32 + n) s ∧ s.laneStage (32 + n) = 1 then .next (setLaneStage (32 + n) 2 s) else .next s

/-- The width for a mask of port lanes that pass stage 4 (R539); 0 where lane 0 fails. -/
def portWidth (lanes : Nat) : Nat :=
  if lanes % 16 = 15 then 4 else if lanes % 4 = 3 then 2 else if lanes % 2 = 1 then 1 else 0

/-- The CAP block a port sends (R558). -/
def capOf (p : Nat) (ack : Bool) (s : State) : CapBlock :=
  { dev := s.devId, port := p, stepping := 0xB0, rates := 7, lanes := (s.brPort p).lanes, assigned := s.on BRL_ID_ASSIGNED,
    ack := ack }

/-- The rate code both ends list, the highest (R540); rates bit 0 is 16 Gb/s. -/
def bestRate (rates : Nat) : Nat := if rates.testBit 2 then 6 else if rates.testBit 1 then 4 else 2

/-- CAP's stepping code is that of B0, and LENGTH_MM follows the delay (R56, R564). -/
def syncCable (p : Nat) (s : State) : State :=
  let twice : Int := (s.fld BRL_PORTp_DELAY_RTT_PS p : Int) - s.fld BRL_PORTp_DELAY_TURN_PS p + s.sfld TCK_PORTn_ADJ_ASYM_PS p
  let num := twice * 299792458 * s.fld BRL_PORTp_CABLE_VF_MILLI p
  s.setFld BRL_PORTp_CABLE_LENGTH_MM (unsigned 24 ((num + 1000000000000) / 2000000000000)) p

/-- Stage 4 of a port ends (R538, R539). -/
def endStage4 (p lanes : Nat) (s : State) : State :=
  let w := portWidth lanes
  if w = 0 then stageFails p s
  else if ¬ (s.brPort p).deskewed then s
  else
    let s := ((portLanes p).take w).foldl (fun s n => s.setFld LNK_LANEn_RXSTAT_BLOCK_LOCK 1 n) s
    let s := (setStage p 5 s).setFld BRL_PORTp_STATUS_WIDTH w p
    let s := s.modPort p (fun x => { x with lanes := weight (lanes % 16) 4, capAck := false })
    s.emit (.cap p (capOf p false s))

/-- Stage 5 of a port ends (R540): at a higher common rate the stages from 2 run again. -/
def endStage5 (p : Nat) (s : State) : State :=
  let r := bestRate (s.brPort p).capRates
  if ¬ (s.brPort p).capAck then s
  else if r ≠ s.fld BRL_PORTp_STATUS_RATE p then
    let s := s.modPort p (fun x => { x with deskewed := false, capAck := false })
    setQuadRate (4 + p) r ((setStage p 2 s).setFld BRL_PORTp_STATUS_RATE r p)
  else
    let s := s.modPort p (fun x => { x with exchanges := 0, rttSum := 0, turnSum := 0 })
    (setStage p 6 s).emit (.dlyReq p 0)

/-- The LINK_RETRAIN commands of a port end (R574). -/
def retrainDone (p : Nat) (s : State) : State :=
  let l := s.ring.retrain.filter (fun r => decide (r.1 = p))
  let s := { s with ring := { s.ring with retrain := s.ring.retrain.filter (fun r => decide (r.1 ≠ p)) } }
  l.foldl (fun s r => endCommand r.2 .ok [7] s) s

/-- Stage 6 of a port ends: the means are stored and frames flow (R563). -/
def endStage6 (p : Nat) (s : State) : State :=
  let x := s.brPort p
  if x.exchanges < 64 then s
  else
    let s := (s.setFld BRL_PORTp_DELAY_RTT_PS (x.rttSum / 64) p).setFld BRL_PORTp_DELAY_TURN_PS (x.turnSum / 64) p
    let s := (syncCable p s).setFld BRL_PORTp_STATUS_ACTIVE 1 p
    retrainDone p (pumpPort p (setStage p 7 s))

/-- `LINK_STAGE_END` (R538): a stage's end condition is met, for a port on the lanes of a mask. -/
def execLinkStageEnd (l : LinkId) (lanes : Nat) (s : State) : Host.Outcome State Fault Refusal :=
  match l with
  | .port p =>
    if ¬ portEnabled p s then .next s
    else match s.stage p with
      | 2 => .next (setStage p 3 s)
      | 3 => .next (setStage p 4 (s.modPort p (fun x => { x with deskewed := false })))
      | 4 => .next (endStage4 p lanes s)
      | 5 => .next (endStage5 p s)
      | 6 => .next (endStage6 p s)
      | _ => .next s
  | .lane n =>
    let k := s.laneStage (32 + n)
    if laneBlocks (32 + n) s ∧ 2 ≤ k ∧ k ≤ 4 then
      .next ((setLaneStage (32 + n) (k + 1) s).setFld LNK_LANEn_RXSTAT_BLOCK_LOCK (bnat (decide (k = 4))) (32 + n))
    else .next s

/-- `LINK_STAGE_TIMEOUT` (R538). -/
def execLinkStageTimeout (l : LinkId) (s : State) : Host.Outcome State Fault Refusal :=
  match l with
  | .port p => if 2 ≤ s.stage p ∧ s.stage p ≤ 6 then .next (stageFails p s) else .next s
  | .lane n =>
    if 2 ≤ s.laneStage (32 + n) ∧ s.laneStage (32 + n) ≤ 4 then
      .next ((setLaneStage (32 + n) 1 s).setFld LNK_LANEn_RXSTAT_BLOCK_LOCK 0 (32 + n))
    else .next s

/-- `CAP` (R538, R540, R566): stage 5 fails where the far end's port has the same parity. -/
def execCap (p : Fin 4) (c : CapBlock) (s : State) : Host.Outcome State Fault Refusal :=
  if s.stage p ≠ 5 then .next s
  else
    let s := ((s.setFld BRL_PORTp_STATUS_PEER_ID c.dev p).setFld BRL_PORTp_STATUS_PEER_PORT c.port p).setFld
      BRL_PORTp_STATUS_PEER_ASSIGNED (bnat c.assigned) p
    if c.port % 2 = p % 2 then .next (stageFails p s)
    else
      let s := s.modPort p (fun x => { x with capRates := c.rates, capAck := x.capAck || c.ack })
      .next (s.emit (.cap p (capOf p true s)))

/-- `DLY_REQ` (R563): the exchange is answered with its turnaround. -/
def execDlyReq (p : Fin 4) (num turnPs : Nat) (s : State) : Host.Outcome State Fault Refusal :=
  if 6 ≤ s.stage p then .next (s.emit (.dlyRsp p num turnPs)) else .next s

/-- `DLY_RSP` (R563): one exchange is complete, and the next begins. -/
def execDlyRsp (p : Fin 4) (num rttPs turnPs : Nat) (s : State) : Host.Outcome State Fault Refusal :=
  let x := s.brPort p
  if s.stage p ≠ 6 ∨ 64 ≤ x.exchanges ∨ num ≠ x.exchanges then .next s
  else
    let s := s.modPort p (fun x => { x with
      exchanges := x.exchanges + 1, rttSum := x.rttSum + rttPs, turnSum := x.turnSum + turnPs })
    if x.exchanges + 1 < 64 then .next (s.emit (.dlyReq p (x.exchanges + 1))) else .next s

/-- The effect of a write to BRL_CTL: a port whose bit goes to 0 leaves its link. -/
def brlCtlEffect (h : Half) (data : Word) (s : State) : State :=
  let s := plainWrite (regInfo .BRL_CTL).fields BRL_CTL_PORT_EN.off (fun _ => false) h data s
  (List.range 4).foldl (fun s p => if s.fbit BRL_CTL_PORT_EN p then s else portToStage1 p s) s

/-- `LINK_RETRAIN` (R575). -/
def execLinkRetrain (p : Packet) (s : State) : Host.Outcome State Fault Refusal :=
  .next (runCommand 0x0603 1 .owner p (fun s =>
    let n := bits (p.w 1) 0 2
    let s := portToStage1 n s
    { s with ring := { s.ring with retrain := s.ring.retrain ++ [(n, p)] } }) s)

/-- `RETRAIN_TIMEOUT` (R574). -/
def execRetrainTimeout (p : Fin 4) (s : State) : Host.Outcome State Fault Refusal :=
  match s.ring.retrain.find? (fun r => decide (r.1 = p.val)) with
  | none => .next s
  | some r =>
    let s := { s with ring := { s.ring with retrain := dropFirst r s.ring.retrain } }
    .next (endCommand r.2 .busy [BitVec.ofNat 64 (s.stage p)] s)

/-! ### User lanes (R576, R577, R387) -/

/-- `USER_LANE_WORD` (R577): at a lane's word time, the word of the transmit buffer with its sync headers (none: empty),
and the word received. While the static border is unconfigured or the outputs are halted the transmitter is idle. -/
def execUserLaneWord (n : Fin 64) (tx rx : Option (BitVec 128 × Nat)) (s : State) : Host.Outcome State Fault Refusal :=
  let k := 32 + n.val
  let block := s.on LNK_LANEn_CTL_BLOCK k
  if ¬ laneOn k s ∨ laneMode k s ≠ 1 ∨ ¬ s.gateOpen 19 ∨ s.tstate 64 ≠ stLoaded ∨ (block ∧ s.laneStage k ≤ 4) then .next s
  else
    let s := match rx with
      | some w => s.emit (.laneReceived k w.1 (if block then w.2 else 0))
      | none => s
    if s.on FLT_STATUS_HALTED then .next s
    else match tx with
      | some w => .next (s.emit (.laneWord k w.1 (if block then w.2 else 0)))
      | none => .next ((s.addFld LNK_LANEn_RXSTAT_UNDERFLOW 1 k).emit (.laneWord k 0 (if block then 10 else 0)))

end Sys2Proof.Machine
end

