-- ==== Sys2Proof/Machine/Host.lean ====
section
/-! DEFINITION. The host interface (R542 to R555): memory and configuration requests, link states, Function Level Reset. -/

namespace Sys2Proof.Machine

/-- A function. -/
def State.fn (s : State) (f : Nat) : PcieFn := s.pcie.fns.getD f PcieFn.reset

/-- The state with a function changed. -/
def State.modFn (s : State) (f : Nat) (g : PcieFn → PcieFn) : State :=
  { s with pcie := { s.pcie with fns := modNth s.pcie.fns f g } }

/-- The identity of a function (R545, R579). -/
def hostIdent (f : Nat) (s : State) : Ident := mkIdent s.devId 1 f

/-- Pending vectors that may be sent are sent (R684, R554). -/
def flushVectors (f : Nat) (s : State) : State :=
  (List.range 64).foldl (fun s v =>
    if bit (s.reg (pbaKey f)) v ∧ vectorOpen s f v then
      (s.setReg (pbaKey f) (setBits (s.reg (pbaKey f)) v 1 0)).emit (.msix f v)
    else s) s

/-! ### Memory requests (R545 to R549) -/

/-- A request lies in the register space. -/
def HostPiece.isRegister (x : HostPiece) : Bool := inRegisterSpace x.addr

/-- A piece may be issued: no earlier piece of its function waits, and a read or a register request follows every earlier
write of the function answered (R546). -/
def mayIssue (x : HostPiece) (earlier : List HostPiece) : Bool :=
  (earlier.filter (fun y => decide (y.fn = x.fn))).all (fun y => y.issued && ((x.write && !x.isRegister) || !y.write))

/-- Pieces are issued in order; at most 256 are in flight (R549). -/
def issuePieces : List HostPiece → List HostPiece → State → State
  | [], done, s => { s with pcie := { s.pcie with pieces := done } }
  | x :: r, done, s =>
    let flying := ((done ++ r).filter (·.issued)).length
    if ¬ x.issued ∧ flying < 256 ∧ mayIssue x done then
      issuePieces r (done ++ [{ x with issued := true }])
        (s.emit (.request 120 x.tag (hostIdent x.fn s) x.write x.addr x.bytes x.data false))
    else issuePieces r (done ++ [x]) s

/-- The interface issues what it may. -/
def hostIssue (s : State) : State := issuePieces s.pcie.pieces [] s

/-- Responses are handed on: a write is complete at once, a read's pieces complete in ascending order (R545, R547). -/
def completePieces : List HostPiece → List HostPiece → State → State
  | [], kept, s => { s with pcie := { s.pcie with pieces := kept } }
  | x :: r, kept, s =>
    match x.done with
    | none => completePieces r (kept ++ [x]) s
    | some (st, poison, data) =>
      if x.write then completePieces r kept s
      else if kept.any (fun y => decide (y.tlp = x.tlp)) then completePieces r (kept ++ [x]) s
      else completePieces r kept (s.emit (.completion x.fn x.tlpTag
        (if st = .ok then data else List.replicate ((x.bytes + 7) / 8) 0) (poison || decide (st = .errData))))

/-- The lengths of the pieces of a request: it is split at 256-byte boundaries (R545). -/
def splitBytes : Nat → Nat → Nat → List (Nat × Nat)
  | 0, _, _ => []
  | fuel + 1, a, n =>
    if n = 0 then []
    else
      let k := min n (256 - a % 256)
      (a, k) :: splitBytes fuel (a + k) (n - k)

/-- The size of a BAR (R542). -/
def barSize (bar : Nat) : Nat := if bar = 0 then 0x4000000 else if bar = 2 then 0x2000000 else if bar = 4 then 0x4000000000 else 0

/-- The cases of Unsupported Request (R548). -/
def isUnsupported (r : HostReq) (s : State) : Bool :=
  decide (r.kind ≠ .memory) || decide (barSize r.bar < r.off + r.bytes) || (s.fn r.fn).d3hot

/-- The pieces of a request join those that wait. -/
def addPieces (r : HostReq) (s : State) : State :=
  let a := barAddress r.bar r.off
  let tlp := s.pcie.nextTlp
  let l := (splitBytes 4097 a r.bytes).zipIdx.map (fun x : (Nat × Nat) × Nat =>
    let first := (x.1.1 - a) / 8
    HostPiece.mk ((s.pcie.nextTag + x.2) % 65536) r.fn r.data.isSome x.1.1 x.1.2
      (((r.data.getD []).drop first).take ((x.1.2 + 7) / 8)) tlp r.tag false none)
  { s with pcie := { s.pcie with
    pieces := s.pcie.pieces ++ l, nextTag := (s.pcie.nextTag + l.length) % 65536, nextTlp := tlp + 1 } }

/-- A request whose bytes fail the parity of the interface's buffers (R455): its pieces are answered ERR_DATA without entering
the NoC, a violation of kind RESPONSE is counted (R547, R605), and the parity fault is raised. -/
def parityFailed (r : HostReq) (s : State) : State :=
  let tlp := s.pcie.nextTlp
  let s := addPieces r s
  let l := s.pcie.pieces.map (fun x => if x.tlp = tlp then { x with issued := true, done := some (.errData, false, []) } else x)
  let s := if r.data.isSome then s.addFld PCI_COUNTS_WERR 1 else s
  let s := violation (hostIdent r.fn s) .response r.data.isSome (if inRegisterSpace (barAddress r.bar r.off) then r.off else 0) s
  raise 0x181 r.fn (hostIssue (completePieces l [] s))

/-- `HOST_MEMORY_REQUEST` (R455, R544 to R548). -/
def execHostMemoryRequest (r : HostReq) (s : State) : Host.Outcome State Fault Refusal :=
  let posted := r.data.isSome
  let s := s.setFld PCI_STATUS_L1 0
  if ¬ s.on HC_STATUS_READY then
    let s := s.addFld PCI_COUNTS_EARLY 1
    .next (if posted then s else s.emit (.completerAbort r.fn r.tag))
  else if r.ecrcBad then .next (s.emit (.aer r.fn 1))
  else if isUnsupported r s then
    let s := s.addFld PCI_COUNTS_UR 1
    .next (if posted ∧ r.kind = .memory then s else s.emit (.unsupported r.fn r.tag))
  else if r.ep ∧ posted then .next ((s.addFld PCI_COUNTS_POISONED_RX 1).emit (.aer r.fn 0))
  else if r.parityBad then .next (parityFailed r s)
  else .next (hostIssue (addPieces r s))

/-- The unit that answered has counted the access itself (R605): DENIED as kind BANK, and a refused partial write to the
register space, the bank store or the context store's window (R121, R437). -/
def countedAtUnit (x : HostPiece) (st : Status) : Bool :=
  match st with
  | .denied => true
  | .errData => x.write && decide (0x4000000000 ≤ x.addr ∧ x.addr < 0x4006000000)
  | _ => false

/-- A NoC response to a piece (R547): one other than OK counts as a violation of kind RESPONSE, where the unit has not
counted the access already (R605). -/
def hostResponse (tag : Nat) (st : Status) (poison : Bool) (data : List Word) (s : State) : State :=
  match s.pcie.pieces.find? (fun x => decide (x.tag = tag ∧ x.issued = true ∧ x.done = none)) with
  | none => s
  | some x =>
    let s := answeredAt 120 s
    let s := if st ≠ .ok ∧ x.write then s.addFld PCI_COUNTS_WERR 1 else s
    let s := if st = .ok ∨ countedAtUnit x st then s
      else violation (hostIdent x.fn s) .response x.write (if x.isRegister then x.addr - 0x4000000000 else 0) s
    let l := s.pcie.pieces.map (fun y => if y.tag = tag ∧ y.issued ∧ y.done = none then { y with done := some (st, poison, data) } else y)
    hostIssue (completePieces l [] s)

/-! ### Configuration requests (R543, R544) -/

/-- The subsystem IDs (R543). -/
def subsystemId (s : State) : BitVec 32 :=
  match (s.pword (nvaKey 0x1B000)).value? with
  | some w => if bits w 32 32 = 0x53534944 then BitVec.ofNat 32 (bits w 0 32) else 0x84201F3A
  | none => 0x84201F3A

/-- A configuration dword as it reads: the identity dwords of R543, else what was last written. -/
def configRead (f dword : Nat) (s : State) : BitVec 32 :=
  match dword with
  | 0 => 0x84201F3A
  | 2 => 0x118000B0
  | 11 => subsystemId s
  | d => Memory.get (fun _ => 0) (s.fn f).config d

/-- What a configuration write sets. -/
def configSet (f : Nat) (c : ConfigSet) (s : State) : State :=
  match c with
  | .memEnable v => s.modFn f (fun x => { x with memEnable := v })
  | .busMaster v => flushVectors f (s.modFn f (fun x => { x with busMaster := v }))
  | .ptmEnable v => s.modFn f (fun x => { x with ptmEnable := v })
  | .msixEnable v => flushVectors f (s.modFn f (fun x => { x with msixEnable := v }))
  | .fnMask v => flushVectors f (s.modFn f (fun x => { x with fnMask := v }))
  | .d3hot v => flushVectors f ((s.modFn f (fun x => { x with d3hot := v })).setFbit PCI_STATUS_D3HOT f v)
  | .pmeEnable v => s.modFn f (fun x => { x with pmeEnable := v })
  | .l1Enable v => s.modFn f (fun x => { x with l1Enable := v })
  | .other d v =>
    if d = 0 ∨ d = 2 ∨ d = 11 then s
    else s.modFn f (fun x => { x with config := Memory.set (fun _ => 0) x.config d v })

/-- `HOST_CONFIG_REQUEST` (R543, R544): a read of a dword, or a write. -/
def execHostConfigRequest (f : Fin 4) (tag dword : Nat) (put : Option ConfigSet) (s : State) :
    Host.Outcome State Fault Refusal :=
  if ¬ s.pcie.ready then .next (s.emit (.configRetry f tag))
  else match put with
    | some c => .next (configSet f c s)
    | none => .next (s.emit (.config f tag (configRead f dword s)))

/-! ### Resets and link states (R552, R553, R555, R591) -/

/-- The registers that are one per master (R553), with the index values of each. -/
def perMasterRegs : List (RegName × List Nat) :=
  [(.TCK_SNAP_TIME, []), (.TCK_SNAP_PHASE, []), (.NVA_ADDR, []), (.BRL_RACC_ADDR, []), (.BRL_RACC_STATUS, [])]
  ++ (List.range 15).map (fun k => (RegName.HC_CMD_Wk, [k + 1]))
  ++ [(.HC_SUBMIT_STATUS, []), (.HC_REPLY_STATUS, [])]
  ++ (List.range 8).map (fun k => (RegName.MBX_STAGE_Wk, [k]))

/-- Function `f`'s packets that have not started are discarded, and the replies of those that have (R591). -/
def dropCommands (f : Nat) (s : State) : State :=
  let m := hostIdent f s
  let s := setQueue 0 ((s.hc.queues.getD 0 []).filter (fun p => decide (p.issuer ≠ m))) s
  { s with hc := { s.hc with running := s.hc.running.map (fun r => if r.pkt.issuer = m then { r with discard := true } else r) } }

/-- A Function Level Reset (R553). -/
def resetFunction (s : State) (f : Nat) : State :=
  let m := hostIdent f s
  let s := (s.modFn f (fun _ => PcieFn.reset)).setFbit PCI_STATUS_D3HOT f false
  let s := (List.range 64).foldl (fun s v => (s.clearReg (msixKey f v 0)).clearReg (msixKey f v 1)) s
  let s := s.clearReg (pbaKey f)
  let s := dropCommands f s
  let s := setReplyQueue f [] s
  let s := perMasterRegs.foldl (fun s r => s.clearReg (r.1.off r.2 + slotSpan * f)) s
  let s := { s with
    tck := { s.tck with captured := s.tck.captured.filter (fun c => decide (c.1 ≠ f)) }
    flt := { s.flt with captured := s.flt.captured.filter (fun c => decide (c.1 ≠ f)) } }
  let s := match s.cfg.load with
    | some l => if l.source = 2 ∧ l.cmd.any (fun p => decide (p.issuer = m)) then loadFail 10 s else s
    | none => s
  if s.isOwner m then vacate s else s

/-- `FUNCTION_LEVEL_RESET` (R553). -/
def execFunctionLevelReset (f : Fin 4) (s : State) : Host.Outcome State Fault Refusal := .next (resetFunction s f)

/-- `HOST_LINK_DOWN` (R552): also a hot reset. -/
def execHostLinkDown (s : State) : Host.Outcome State Fault Refusal :=
  let s := (List.range 4).foldl resetFunction s
  let s := { s with pcie := { s.pcie with pieces := s.pcie.pieces.filter (·.write) } }
  let s := ((s.setFld PCI_STATUS_LINK_UP 0).setFld PCI_STATUS_L1 0).addFld PCI_STATUS_LINK_DOWNS 1
  let s := (s.setFld PCI_STATUS_SPEED 0).setFld PCI_STATUS_WIDTH 0
  let s := (List.range 4).foldl (fun s q => setQuadRate q 0 s) s
  .next (raise 0x180 (s.fld PCI_STATUS_LINK_DOWNS) (hostIssue s))

/-- `HOST_LINK_UP` (R542): with the speed code and the width reached. -/
def execHostLinkUp (speed width : Nat) (s : State) : Host.Outcome State Fault Refusal :=
  if s.on PCI_CTL_LINK_DIS then .next s
  else
    let s := ((s.setFld PCI_STATUS_LINK_UP 1).setFld PCI_STATUS_SPEED speed).setFld PCI_STATUS_WIDTH width
    let rate := if speed = 4 then 2 else if speed = 5 then 4 else 0
    .next ((List.range 4).foldl (fun s q => if 4 * q < width then setQuadRate q rate s else s) s)

/-- `L1_ENTRY` (R555): with ASPM L1 enabled in every function. -/
def execL1Entry (s : State) : Host.Outcome State Fault Refusal :=
  if s.on PCI_STATUS_LINK_UP ∧ s.pcie.fns.all (·.l1Enable) then .next (s.setFld PCI_STATUS_L1 1) else .next s

end Sys2Proof.Machine
end

