-- ==== Sys2Proof/Machine/Ring.lean ====
section
/-! DEFINITION. The Brocia ring (R566 to R575): the device ID, enumeration, frames for this device and for others, remote
accesses, RING_COPY, and NoC responses (R545, R572). -/

namespace Sys2Proof.Machine

/-! ### The device ID (R450, R567) -/

/-- The bank ownership of the hearth controller follows the device ID (R450). -/
def rewriteBanks (old : Ident) (s : State) : State :=
  (List.range 256).foldl (fun s b =>
    if s.fld BNK_OWNERb_IDENT b = old.toNat then s.setFld BNK_OWNERb_IDENT (mkIdent s.devId 0 0).toNat b else s) s

/-- The device ID changes. -/
def setDevId (v : Nat) (s : State) : State :=
  let old := mkIdent s.devId 0 0
  rewriteBanks old ((s.setFld BRL_ID_DEVID v).setFld BRL_ID_ASSIGNED 1)

/-- The effect of a write to BRL_ID: locked while LOCK is 1, and a write of 0x3FFF is ignored (R567). -/
def devIdEffect (h : Half) (data : Word) (s : State) : State :=
  if ¬ h.reaches 0 ∨ s.on BRL_ID_LOCK ∨ bits data 0 14 = brAll then s else setDevId (bits data 0 14) s

/-- `DEVID_WRITE` (R450, R567). -/
def execDevidWrite (m : Ident) (h : Half) (data : Word) (s : State) : Host.Outcome State Fault Refusal :=
  .next (regWrite .BRL_ID [] m h (devIdEffect h data) s)

/-! ### Frames (R569 to R572) -/

/-- The frame is for this device: it has an ID, and the frame names it. -/
def forMe (f : BrFrame) (s : State) : Bool := s.on BRL_ID_ASSIGNED && decide (f.dest = s.devId)

/-- A RESPONSE frame to a request. -/
def respondFrame (dev tag st : Nat) (poison : Bool) (data : List Word) (s : State) : State :=
  match routePort dev s with
  | some p => sendFrame true { sysFrame s frResponse dev data with tag := tag, status := st, poison := poison } p s
  | none => s

/-- A request frame that goes no further is answered DECODE to its sender (R569); an unassigned device answers none (R567). -/
def refuseFrame (f : BrFrame) (s : State) : State :=
  if f.kind ≤ 1 ∧ s.on BRL_ID_ASSIGNED then respondFrame f.src f.tag 4 false [] s else s

/-- A frame for another device goes on in the ring it came by, since none crosses to the other (R22, R569, R571), and HOPS counts;
a request that cannot go on is answered DECODE to its sender. -/
def forwardFrame (ring : Nat) (f : BrFrame) (s : State) : State :=
  match ringPort ring f.dest s with
  | some p => sendFrame false { f with hops := f.hops + 1 } p s
  | none => refuseFrame f s

/-- A frame has arrived at an ACTIVE port: with HOPS at 64 it is discarded, whatever its type, and counted; a discarded request is
answered DECODE (R569). Any other is taken. -/
def arrive (p : Nat) (f : BrFrame) (take : State → State) (s : State) : State :=
  if ¬ s.portActive p then s
  else
    let s := frameIn p s
    if 64 ≤ f.hops then refuseFrame f (s.addFld BRL_COUNTS_HOP_DISCARD 1) else take s

/-- The identity of a ring peer's master (R572). -/
def peerIdent (f : BrFrame) : Ident := BitVec.ofNat 32 (f.src % 2 ^ 14 * 2 ^ 18 + 2 * 2 ^ 14 + f.cls % 16 * 2 ^ 10 + f.index % 2 ^ 10)

/-- A request frame for this device enters the NoC (R572). -/
def serveFrame (f : BrFrame) (s : State) : State :=
  let tag := s.ring.nextTag
  let s := { s with ring := { s.ring with
    nextTag := (tag + 1) % 65536, serving := s.ring.serving ++ [RingServe.mk tag f.src f.tag] } }
  s.emit (.request 156 tag (peerIdent f) (decide (f.kind = frWrite)) f.addr f.size f.data f.poison)

/-- A request frame arrives. -/
def requestFrame (p : Nat) (f : BrFrame) (s : State) : State :=
  arrive p f (fun s => if forMe f s then serveFrame f s else forwardFrame (p / 2) f s) s

/-- `READ_FRAME` (R569, R572). -/
def execReadFrame (p : Fin 4) (f : BrFrame) (s : State) : Host.Outcome State Fault Refusal :=
  .next (requestFrame p { f with kind := frRead } s)

/-- `WRITE_FRAME` (R569, R572). -/
def execWriteFrame (p : Fin 4) (f : BrFrame) (s : State) : Host.Outcome State Fault Refusal :=
  .next (requestFrame p { f with kind := frWrite } s)

/-! ### Remote accesses (R573) -/

/-- A remote request is sent, or answered DECODE at once (R567, R569): the tag it carries, if it was sent. -/
def sendRemote (use : RemoteUse) (m : Ident) (write : Bool) (dev addr size : Nat) (poison : Bool) (data : List Word) (s : State) :
    Option Nat × State :=
  match (if s.on BRL_ID_ASSIGNED then routePort dev s else none) with
  | none => (none, s)
  | some p =>
    let tag := s.ring.nextTag
    let f : BrFrame := { sysFrame s (if write then frWrite else frRead) dev data with
      tag := tag, poison := poison, cls := identClass m, index := bits m 0 10, addr := addr, size := size }
    let s := { s with ring := { s.ring with nextTag := (tag + 1) % 65536, remote := s.ring.remote ++ [(tag, use)] } }
    (some tag, sendFrame true f p s)

/-- An access to BRL_RACC_DATA completes: BRL_RACC_STATUS.LAST, the answer, and ADDR unless it timed out. Data that the response
marks poisoned are answered with the mark (R572, R443). -/
def accessDone (m : Ident) (write : Bool) (st : Nat) (poison : Bool) (data : Word) (s : State) : State :=
  match slotOf m with
  | none => s
  | some n =>
    let s := s.setMfld BRL_RACC_STATUS_LAST n st
    let s := if st = 6 then s else s.setMfld BRL_RACC_ADDR_ADDR n (s.mfld BRL_RACC_ADDR_ADDR n + 1)
    let s := if st = 0 ∨ identClass m ≠ 1 then s else violation m .response write BRL_RACC_DATA_DATA.off s
    let s := if st = 0 ∨ identClass m ≠ 1 ∨ ¬ write then s else s.addFld PCI_COUNTS_WERR 1
    if write then s
    else if poison ∨ st = 1 ∨ st = 6 then s.emit (.poisonedAnswer m)
    else s.emit (.answer m (if st = 0 then data else 0))

/-- The effect of an access to BRL_RACC_DATA (R573). -/
def raccEffect (m : Ident) (h : Half) (data : Option Word) (s : State) : State :=
  if h ≠ .full then
    let s := violation m .size data.isSome (BRL_RACC_DATA_DATA.off + h.skip) s
    if data.isSome then s else s.emit (.answer m 0)
  else match slotOf m with
    | none => s
    | some n =>
      let r := sendRemote (.access m data.isSome) m data.isSome (s.mfld BRL_RACC_ADDR_DEVICE n)
        (8 * s.mfld BRL_RACC_ADDR_ADDR n) 8 false data.toList s
      if r.1.isNone then accessDone m data.isSome 4 false 0 r.2 else r.2

/-- `RACC_DATA_ACCESS` (R573): a write (data given) or a read. -/
def execRaccDataAccess (m : Ident) (h : Half) (data : Option Word) (s : State) : Host.Outcome State Fault Refusal :=
  match data with
  | some v => .next (regWrite .BRL_RACC_DATA [] m h (raccEffect m h (some v)) s)
  | none => .next (readFront m BRL_RACC_DATA_DATA.off h (raccEffect m h none) s)

/-! ### RING_COPY (R574, R575) -/

/-- The state with a copy in progress replaced. -/
def putCopy (c : RingCopy) (s : State) : State :=
  { s with ring := { s.ring with copies := s.ring.copies.map (fun x => if x.id = c.id then c else x) } }

/-- A fresh tag of the Brocia endpoint. -/
def takeTag (s : State) : Nat × State :=
  (s.ring.nextTag, { s with ring := { s.ring with nextTag := (s.ring.nextTag + 1) % 65536 } })

/-- The copy ends once nothing is in flight and nothing is left to send. -/
def copyEnd (c : RingCopy) (s : State) : State :=
  if ¬ c.pieces.isEmpty ∨ (c.bad.isNone ∧ c.next < c.total) then putCopy c s
  else
    let s := { s with ring := { s.ring with copies := s.ring.copies.filter (fun x => decide (x.id ≠ c.id)) } }
    let st : Rs := match c.bad with | none => .ok | some 4 => .decode | some _ => .errData
    endCommand c.cmd st [BitVec.ofNat 64 c.moved, BitVec.ofNat 64 (c.bad.getD 0)] s

/-- A local access of a copy goes to the NoC with the issuer's identity. -/
def copyLocal (c : RingCopy) (tag : Nat) (write : Bool) (off n : Nat) (poison : Bool) (data : List Word) (s : State) : State :=
  s.emit (.request 156 tag c.cmd.issuer write (c.near + off) n data poison)

/-- The first access of a piece: the remote READ, or the local read. -/
def copyFirst (c : RingCopy) (n : Nat) (s : State) : RingCopy × State :=
  let upd (tag : Nat) : RingCopy := { c with next := c.next + n, pieces := c.pieces ++ [CopyPiece.mk tag c.next n false] }
  if c.send then
    let (tag, s) := takeTag s
    (upd tag, copyLocal c tag false c.next n false [] s)
  else
    match sendRemote .copy c.cmd.issuer false c.dev (c.far + c.next) n false [] s with
    | (some tag, s) => (upd tag, s)
    | (none, s) => ({ c with bad := some 4 }, s)

/-- Pieces are begun while fewer than 32 are in flight. -/
def copyPump : Nat → RingCopy → State → State
  | 0, c, s => copyEnd c s
  | fuel + 1, c, s =>
    if c.bad.isSome ∨ c.total ≤ c.next ∨ 32 ≤ c.pieces.length then copyEnd c s
    else
      let n := min (c.total - c.next) (min (256 - (c.near + c.next) % 256) (256 - (c.far + c.next) % 256))
      let r := copyFirst c n s
      copyPump fuel r.1 r.2

/-- A piece is over, moved or not. -/
def pieceOver (c : RingCopy) (x : CopyPiece) (moved : Bool) (st : Nat) (s : State) : State :=
  let c := { c with pieces := dropFirst x c.pieces }
  let c := if moved then { c with moved := c.moved + x.bytes } else c
  let c := if st = 0 then c else { c with bad := some (c.bad.getD st) }
  copyPump 40 c s

/-- The second access of a piece: the local write, or the remote WRITE; data read with the POISON bit are written with it (R463,
R572). -/
def copySecond (c : RingCopy) (x : CopyPiece) (poison : Bool) (data : List Word) (s : State) : State :=
  let swap (tag : Nat) : RingCopy :=
    { c with pieces := c.pieces.map (fun y => if y = x then { y with tag := tag, second := true } else y) }
  if c.send then
    match sendRemote .copy c.cmd.issuer true c.dev (c.far + x.off) x.bytes poison data s with
    | (some tag, s) => putCopy (swap tag) s
    | (none, s) => pieceOver c x false 4 s
  else
    let (tag, s) := takeTag s
    copyLocal c tag true x.off x.bytes poison data (putCopy (swap tag) s)

/-- A response to a piece of a copy: the first access is followed by the second unless the copy has stopped. -/
def copyResponse (tag st : Nat) (poison : Bool) (data : List Word) (s : State) : State :=
  match s.ring.copies.find? (fun c => c.pieces.any (fun x => decide (x.tag = tag))) with
  | none => s
  | some c =>
    match c.pieces.find? (fun x => decide (x.tag = tag)) with
    | none => s
    | some x =>
      if st ≠ 0 then pieceOver c x false st s
      else if x.second then pieceOver c x true 0 s
      else if c.bad.isSome then pieceOver c x false 0 s
      else copySecond c x poison data s

/-- `RING_COPY` (R575). -/
def execRingCopy (p : Packet) (s : State) : Host.Outcome State Fault Refusal :=
  .next (runCommand 0x0602 4 .owner p (fun s =>
    let n := (p.w 4).toNat
    if n = 0 ∨ 2 ^ 24 < n then endCommand p .invalid [] s
    else
      let c : RingCopy :=
        { id := s.ring.nextCopy, cmd := p, send := bit (p.w 1) 16, dev := bits (p.w 1) 0 14, near := bits (p.w 2) 0 40, far := bits (p.w 3) 0 40,
          total := n, next := 0, pieces := [], moved := 0, bad := none }
      copyPump 40 c { s with ring := { s.ring with copies := s.ring.copies ++ [c], nextCopy := c.id + 1 } }) s)

/-- A remote request is over, with a status code (6: timed out) and data. -/
def remoteOver (tag : Nat) (use : RemoteUse) (st : Nat) (poison : Bool) (data : List Word) (s : State) : State :=
  let s := { s with ring := { s.ring with remote := dropFirst (tag, use) s.ring.remote } }
  match use with
  | .access m write => accessDone m write st poison (nth 0 data 0) s
  | .copy => copyResponse tag (if st = 6 then 1 else st) poison data s
  | .reply => s

/-- `RESPONSE_FRAME` (R573): a response to a request of this device, a late one, or one for another device. -/
def execResponseFrame (p : Fin 4) (f : BrFrame) (s : State) : Host.Outcome State Fault Refusal :=
  let f := { f with kind := frResponse }
  .next (arrive p f (fun s =>
    if forMe f s then
      match s.ring.remote.find? (fun r => decide (r.1 = f.tag)) with
      | some r => remoteOver r.1 r.2 (f.status % 8) f.poison f.data s
      | none => s.addFld BRL_COUNTS_LATE_RSP 1
    else forwardFrame (p.val / 2) f s) s)

/-- `REMOTE_ACCESS_TIMEOUT` (R573). -/
def execRemoteAccessTimeout (tag : Nat) (s : State) : Host.Outcome State Fault Refusal :=
  match s.ring.remote.find? (fun r => decide (r.1 = tag)) with
  | some r => .next (remoteOver r.1 r.2 6 false [] s)
  | none => .next s

/-- `ENDPOINT_RESPONSE` (R547, R328, R404, R572): a NoC response reaches the host interface, a fabric port or the Brocia
endpoint. -/
def execEndpointResponse (dst : RespTo) (tag : Nat) (st : Status) (data : List Word) (poison : Bool) (s : State) :
    Host.Outcome State Fault Refusal :=
  match dst with
  | .host => .next (hostResponse tag st poison data s)
  | .port p => .next (fabricResponse p tag st poison data s)
  | .brocia =>
    match s.ring.serving.find? (fun x => decide (x.tag = tag)) with
    | some x =>
      let s := answeredAt 156 { s with ring := { s.ring with serving := dropFirst x s.ring.serving } }
      .next (respondFrame x.dev x.frameTag st.code poison data s)
    | none => .next (copyResponse tag st.code poison data (answeredAt 156 s))

/-! ### Enumeration (R568) -/

/-- A frame goes on round its ring from the port it came by, while the onward port is ACTIVE (R570). -/
def passOn (p : Nat) (f : BrFrame) (s : State) : State :=
  if s.portActive (otherPort p) then sendFrame false { f with hops := f.hops + 1 } (otherPort p) s else s

/-- This device takes a position: it takes the ID base + position where it is not locked and not in its map of its other
ring, and answers its ID. -/
def takePosition (ring base pos : Nat) (s : State) : State :=
  if s.on BRL_ID_LOCK ∨ (s.on BRL_ID_ASSIGNED ∧ (mapPosition (1 - ring) s.devId s).isSome) then s
  else setDevId ((base + pos) % 2 ^ 14) s

/-- A ring's map is loaded from a list (R568). -/
def loadMap (ring : Nat) (ids : List Word) (s : State) : State :=
  let s := (List.range 64).foldl (fun s k =>
    s.setReg (BRL_MAPk_DEVID.key (64 * ring + k) 0 0)
      (match ids[k]? with | some v => mkWord [(0, 14, v.toNat), (15, 1, 1)] | none => 0)) s
  let pos := (ids.findIdx? (fun v => decide (v.toNat = s.devId))).getD 0
  if ring = 0 then (s.setFld BRL_ID_POSITION pos).setFld BRL_ID_RING_SIZE ids.length
  else (s.setFld BRL_ID_POSITION1 pos).setFld BRL_ID_RING_SIZE1 ids.length

/-- The first ID that stands twice in a list. -/
def firstDuplicate : List Word → Option Word
  | [] => none
  | v :: r => if r.contains v then some v else firstDuplicate r

/-- The ENUM frame has returned to its origin (R568). -/
def enumReturns (p : Packet) (ring : Nat) (ids : List Word) (s : State) : State :=
  let s := { s with ring := { s.ring with enumerating := dropFirst (p, ring) s.ring.enumerating } }
  let s := broadcast ring (sysFrame s frEnumTable brAll ids) (loadMap ring ids s)
  let dup := firstDuplicate ids
  endCommand p .ok [BitVec.ofNat 64 ids.length, mkWord [(0, 1, 1), (1, 1, bnat dup.isSome)], dup.getD 0] s

/-- `ENUM_FRAME` (R568): its data are the base and the IDs so far. -/
def execEnumFrame (p : Fin 4) (f : BrFrame) (s : State) : Host.Outcome State Fault Refusal :=
  let f := { f with kind := frEnum }
  let ring := p.val / 2
  let base := (nth 0 f.data 0).toNat
  let ids := f.data.drop 1
  .next (arrive p f (fun s =>
    match s.ring.enumerating.find? (fun e => decide (e.2 = ring ∧ f.src = s.devId)) with
    | some (cmd, _) => enumReturns cmd ring ids s
    | none =>
      let s := takePosition ring base ids.length s
      passOn p { f with data := f.data ++ [BitVec.ofNat 64 s.devId] } s) s)

/-- `ENUM_TABLE_FRAME` (R568): its origin removes it. -/
def execEnumTableFrame (p : Fin 4) (f : BrFrame) (s : State) : Host.Outcome State Fault Refusal :=
  let f := { f with kind := frEnumTable }
  .next (arrive p f (fun s =>
    if s.on BRL_ID_ASSIGNED ∧ f.src = s.devId then s else passOn p f (loadMap (p.val / 2) f.data s)) s)

/-- `RING_ENUM` (R568). -/
def execRingEnum (p : Packet) (s : State) : Host.Outcome State Fault Refusal :=
  .next (runCommand 0x0601 1 .owner p (fun s =>
    let base := bits (p.w 1) 0 14
    let ring := bits (p.w 1) 16 1
    if 0x3FFE < base + 63 ∨ ¬ s.portActive (2 * ring) then endCommand p .invalid [] s
    else
      let s := takePosition ring base 0 { s with ring := { s.ring with enumerating := s.ring.enumerating ++ [(p, ring)] } }
      sendFrame true (sysFrame s frEnum brAll [BitVec.ofNat 64 base, BitVec.ofNat 64 s.devId]) (2 * ring) s) s)

/-- `ENUM_TIMEOUT` (R574): for a ring, with the devices reached. -/
def execEnumTimeout (ring : Fin 2) (reached : Nat) (s : State) : Host.Outcome State Fault Refusal :=
  match s.ring.enumerating.find? (fun e => decide (e.2 = ring.val)) with
  | some e =>
    .next (endCommand e.1 .failed [BitVec.ofNat 64 reached]
      { s with ring := { s.ring with enumerating := dropFirst e s.ring.enumerating } })
  | none => .next s

/-! ### System and stream frames (R375, R382, R383, R570, R571) -/

/-- A bridging device: BRIDGE is 1 and both rings are ACTIVE (R571). -/
def bridging (s : State) : Bool :=
  s.on BRL_CTL_BRIDGE && (s.portActive 0 || s.portActive 1) && (s.portActive 2 || s.portActive 3)

/-- The ring this device follows. -/
def followedRing (s : State) : Nat := s.fld TCK_STATUS_UPSTREAM_PORT / 2

/-- A READY frame goes on in a ring: towards the tick source where that ring's map holds it, else by the port whose markers this
device follows (R382, R569, R571). -/
def forwardReady (ring : Nat) (f : BrFrame) (s : State) : State :=
  let up := s.fld TCK_STATUS_UPSTREAM_PORT
  match ringPort ring f.dest s with
  | some p => sendFrame false { f with hops := f.hops + 1 } p s
  | none => if s.tck.following ∧ up / 2 = ring ∧ s.portActive up then sendFrame false { f with hops := f.hops + 1 } up s else s

/-- `READY_FRAME` (R382, R571): its data are the ready device. A bridging device sends it into the ring it follows, any other
keeps it in its ring. -/
def execReadyFrame (p : Fin 4) (f : BrFrame) (s : State) : Host.Outcome State Fault Refusal :=
  let f := { f with kind := frReady }
  .next (arrive p f (fun s =>
    if forMe f s then countReady (nth 0 f.data 0).toNat s
    else forwardReady (if bridging s then followedRing s else p.val / 2) f s) s)

/-- `START_FRAME` (R383, R570, R571): its data are the tick. The device takes it and sends it on; the origin removes it; a
bridging device sends it into the other ring too. -/
def execStartFrame (p : Fin 4) (f : BrFrame) (s : State) : Host.Outcome State Fault Refusal :=
  let f := { f with kind := frStart }
  .next (arrive p f (fun s =>
    if s.on BRL_ID_ASSIGNED ∧ f.src = s.devId then s
    else
      let s := passOn p f (takeStart (nth 0 f.data 0).toNat s)
      if bridging s then broadcast (1 - p.val / 2) { f with hops := f.hops + 1 } s else s) s)

/-- A stream frame comes by the port that first delivered its stream (R570). -/
def streamFirst (p : Nat) (f : BrFrame) (s : State) : Bool :=
  match s.ring.streamFrom with
  | some (src, q) => decide (src ≠ f.src ∨ q = p)
  | none => true

/-- A port delivers the stream of a device. -/
def setStreamFrom (src p : Nat) (s : State) : State := { s with ring := { s.ring with streamFrom := some (src, p) } }

/-- A load that waits for the ring's stream takes a frame's words (R375). -/
def takeStream (f : BrFrame) (s : State) : State :=
  match s.cfg.load with
  | some l =>
    if l.source = 3 then setLoad (some { l with push := l.push ++ f.data }) (s.addFld CFG_PROGRESS_BYTES (8 * f.data.length))
    else s
  | none => s

/-- `STREAM_FRAME` (R375, R570): taken from the port that first delivered the stream, forwarded onward, and given to a load
that waits for the ring's stream. -/
def execStreamFrame (p : Fin 4) (f : BrFrame) (s : State) : Host.Outcome State Fault Refusal :=
  let f := { f with kind := frStream }
  .next (arrive p f (fun s => if streamFirst p f s then takeStream f (passOn p f (setStreamFrom f.src p s)) else s) s)

end Sys2Proof.Machine
end

