-- ==== Sys2Proof/Machine/Signature.lean ====
section
/-! DEFINITION. The signature sweep (R418 to R428). -/

namespace Sys2Proof.Machine

/-- The number of swept frames (R418). -/
def sweptFrames : Nat := 413184

/-- The target of swept frame number `n`. -/
def sweptTarget (n : Nat) : Nat := addrTarget (sweptAddr n)

/-- The sweep goes on with the next frame; after the last one the lap ends (R428). -/
def nextSwept (s : State) : State :=
  let n := s.cfg.sweepNext + 1
  if n < sweptFrames then
    { s.setFld SWP_SIG_STATUS_POSITION (sweptAddr n) with cfg := { s.cfg with sweepNext := n } }
  else
    let now := s.fld DEVICE_TIME_TIME
    let s := (s.setFld SWP_SIG_LAP_LAST_US ((now - s.cfg.lapStart) / 9600)).addFld SWP_SIG_LAP_LAPS 1
    { s.setFld SWP_SIG_STATUS_POSITION (sweptAddr 0) with cfg := { s.cfg with sweepNext := 0, lapStart := now } }

/-- SWP_SIG_LAST takes a frame and its outcome (R422). -/
def recordSig (addr outcome : Nat) (s : State) : State :=
  s.setReg SWP_SIG_LAST_ADDR.off (mkWord [(0, 32, addr), (32, 3, outcome), (63, 1, 1)])

/-- A region whose frame could not be mended is contained when CONTAIN is 1 (R422). -/
def containRegion (t : Nat) (s : State) : State :=
  if t < 64 ∧ s.on CFG_RGNr_CTL_CONTAIN t then (raiseDamper t s).setFld CFG_RGNr_STATUS_CONTAINED 1 t else s

/-- A mismatch ends with NO_SOURCE, REPAIR_FAILED or STUCK (R422). -/
def sigFailed (addr outcome : Nat) (f : Field) (s : State) : State :=
  containRegion (addrTarget addr) ((recordSig addr outcome s).addFld f 1)

/-- The entry of a swept frame. -/
def entryOf (v : Word) (n : Nat) : Nat := if n % 2 = 0 then bits v 0 32 else bits v 32 32

/-- The registered copy of a target. -/
def copyOf (s : State) (t : Nat) : Option Nat := (s.cfg.copies.find? (fun c => decide (c.1 = t))).map (·.2)

/-- The record of a frame in its stream (R425). -/
def recordIndex (k : Kept) (addr : Nat) : Nat :=
  if addrKind addr = 0 then k.first + addrIndex addr
  else k.first + frameCount (addrTarget addr) 0 + k.contents + addrIndex addr

/-- What a target's last load left. -/
def keptOf (s : State) (t : Nat) : Option Kept := (s.cfg.kept.find? (fun k => decide (k.1 = t))).map (·.2)

/-- A mismatch (R422): the fault, then a repair from the registered copy, or NO_SOURCE. -/
def sigMismatch (addr : Nat) (s : State) : State :=
  let s := s.addFld SWP_SIG_COUNT_MISMATCH 1
  let s := raise 0x381 addr (s.setFld SWP_SIG_LAST_TICK_TICK s.tickCount.toNat)
  let t := addrTarget addr
  match copyOf s t, keptOf s t with
  | some base, some k =>
    if s.on SWP_SIG_CTL_REPAIR_EN then
      let s := s.setReg SWP_SIG_LAST_ADDR.off (mkWord [(0, 32, addr), (63, 1, 1)])
      let s := { s.setFld SWP_SIG_STATUS_REPAIRING 1 with cfg := { s.cfg with repair := some addr } }
      s.emit (.repairRead (base + 128 + 528 * recordIndex k addr))
    else nextSwept (sigFailed addr 1 SWP_SIG_FAIL_NO_SOURCE s)
  | _, _ => nextSwept (sigFailed addr 1 SWP_SIG_FAIL_NO_SOURCE s)

/-- A load writes frames, so the configuration port is not free for the sweep (R420). -/
def State.portTaken (s : State) : Bool :=
  s.cfg.load.any (fun l => l.header.isSome && l.allGated && !l.trailer)

/-- A full load holds the device: the lap begins anew after it (R428). -/
def State.fullLoading (s : State) : Bool := s.cfg.load.any (fun l => l.header.isSome && !l.part)

/-- One frame is compared (R419, R421). -/
def compareFrame (n : Nat) (s : State) : State :=
  let addr := sweptAddr n
  let key := sigKey (n / 2)
  if (s.pword key).isBad then
    let s := (recordSig addr 5 (s.setFld SWP_SIG_LAST_TICK_TICK s.tickCount.toNat)).addFld SWP_SIG_FAIL_GOLDEN_ERR 1
    nextSwept (raise 0x383 addr s)
  else
    let s := s.noteMend key
    let f := Memory.get (fun _ => clearedFrame) s.cfg.frames addr
    if (frameCrc addr f).toNat = entryOf (s.pword key).value n then nextSwept s else sigMismatch addr s

/-- `SIG_SWEEP_FRAME` (R419 to R422). -/
def execSigSweepFrame (s : State) : Host.Outcome State Fault Refusal :=
  if ¬ s.on SWP_SIG_CTL_EN ∨ s.cfg.repair.isSome ∨ ¬ s.gateOpen 7 ∨ s.fullLoading then .next s
  else if s.portTaken then .next (s.setFld SWP_SIG_STATUS_WAITING 1)
  else
    let s := s.setFld SWP_SIG_STATUS_WAITING 0
    let n := s.cfg.sweepNext
    if s.tstate (sweptTarget n) = stLoading then .next (nextSwept (s.addFld SWP_SIG_SKIPPED_COUNT 1))
    else .next (compareFrame n s)

/-- The repair of a frame ends; the lap continues. -/
def endRepair (s : State) : State :=
  nextSwept { s.setFld SWP_SIG_STATUS_REPAIRING 0 with cfg := { s.cfg with repair := none } }

/-- The repair record has come (R422, R423): `ws` is the record in clear, `readback` what the frame's cells hold after the
write. -/
def repairFrame (addr n : Nat) (ws readback : List Word) (s : State) : State :=
  let want := entryOf (s.pword (sigKey (n / 2))).value n
  if bits (ws.getD 0 0) 0 32 ≠ addr ∨ bits (ws.getD 65 0) 0 32 ≠ want then sigFailed addr 2 SWP_SIG_FAIL_REPAIR_FAILED s
  else if s.tstate (addrTarget addr) ≠ stLoaded ∨ loadNames s (addrTarget addr) then recordSig addr 4 s
  else
    let s := { s with cfg := { s.cfg with frames := Memory.set (fun _ => clearedFrame) s.cfg.frames addr readback } }
    if (frameCrc addr readback).toNat = want then (recordSig addr 0 s).addFld SWP_SIG_COUNT_REPAIRED 1
    else raise 0x382 addr (sigFailed addr 3 SWP_SIG_FAIL_STUCK s)

/-- The record of a repair in clear (R424): of an encrypted copy it is decrypted under the fused key, the initialisation vector of
the copy's header and the counters of its place. -/
def repairRecord (addr : Nat) (header ws : List Word) (s : State) : List Word :=
  match keptOf s (addrTarget addr) with
  | some k => if (headerOf header).enc then clearRecord s.cfg.fuses.aes (headerIv header) (recordIndex k addr) ws else ws
  | none => ws

/-- `REPAIR_READ_RESPONSE` (R422, R424): the record as the copy holds it, with the copy's header. -/
def execRepairReadResponse (st : Status) (header ws readback : List Word) (s : State) : Host.Outcome State Fault Refusal :=
  match s.cfg.repair with
  | none => .next s
  | some addr =>
    match sweptNumber addr with
    | none => .next (endRepair s)
    | some n =>
      if st ≠ .ok then .next (endRepair (sigFailed addr 2 SWP_SIG_FAIL_REPAIR_FAILED s))
      else .next (endRepair (repairFrame addr n (repairRecord addr header ws s) readback s))

end Sys2Proof.Machine
end

