-- ==== Sys2Proof/Machine/Power.lean ====
section
/-! DEFINITION. Start-up (R385, R620 to R628), the clock monitor (R640 to R645), power states and their steps (R646 to R660),
the core voltage (R654 to R657), wakes (R661 to R664), and time across sleep (R69). -/

namespace Sys2Proof.Machine

/-- The state with its power part changed. -/
def State.modPwr (s : State) (f : PwrState → PwrState) : State := { s with pwr := f s.pwr }

/-- The power state (R646). -/
def State.power (s : State) : Nat := s.fld PWR_STATUS_STATE

/-! ### Alignment and time across sleep (R57, R69) -/

/-- Alignment starts, also at a follower whose holdover had expired (R57, R70, R702): TCK_ALIGNED is 0 until R59 sets it
again. That TIME_ALIGN clears it and loads anew on a device already aligned is this model's choice (log entry 188). -/
def startAlign (s : State) : State :=
  { s.setFld TCK_STATUS_ALIGNED 0 with tck := { s.tck with loadDue := true, lost := false, good := 0 } }

/-- N takes a value, and the visit budget with it (R49). -/
def setPeriod (n : Nat) (s : State) : State :=
  (s.setFld TCK_PERIOD_CUR_N n).setFld TCK_PERIOD_VISIT_BUDGET (72 * n)

/-- The always-on domain saves the counters when the root stops (R30, R69). -/
def saveTime (s : State) : State :=
  { s with tck := { s.tck with
    saved := some (s.fld TCK_AON_COUNT, s.tck.phase, s.tickCount, s.deviceTime, s.curN) } }

/-- The counters advance when the root locks again (R69); `aon` is TCK_AON at that moment. -/
def wakeAdvance (aon : Nat) (s : State) : State :=
  match s.tck.saved with
  | none => s.setFld TCK_AON_COUNT aon
  | some (aon0, phase0, count0, time0, n) =>
    let a := (aon % 2 ^ 48 + 2 ^ 48 - aon0) % 2 ^ 48
    let e := a * s.fld TCK_AON_CAL_ROOT_PER_1024 / 1024
    let p := phase0 + e
    let len := n * 144
    let r := p % len
    let pad := (144 - r % 144) % 144
    let s := (setPeriod n (s.setFld TCK_AON_COUNT aon)).setFld TCK_COUNT_COUNT (count0.toNat + p / len)
    let s := (s.setFld DEVICE_TIME_TIME (time0.toNat + e + pad)).setFld TCK_SLEEP_LAST_US a
    let s := (s.setFld TCK_UNCERT_UNCERT_NS (1000 + (e + pad) / 48000)).setFld TCK_STATUS_QUALITY 2
    startAlign { s with
      tck := { s.tck with
        phase := r + pad, span := none, saved := none, ptmValid := false, uncertRem := 0, aonRem := 0 } }

/-! ### Transitions (R647, R648, R658, R659) -/

/-- PWR_STATUS shows the pending slot. -/
def setSlot (r : Option PwrReq) (s : State) : State :=
  ((s.modPwr (fun x => { x with slot := r })).setFld PWR_STATUS_PENDING (bnat r.isSome)).setFld PWR_STATUS_PENDING_STATE
    (r.elim 0 (·.target))

/-- The step that leads from a state towards a target (R648). -/
def stepFrom (state target : Nat) : Nat :=
  if state < target then (match state with | 0 => 1 | 1 => 2 | _ => 5)
  else match state with | 2 => 6 | _ => 9

/-- The reply of a request that ends, where it has a command. -/
def replyReq (r : PwrReq) (st : Rs) (s : State) : State :=
  match r.cmd with
  | none => s
  | some p => endCommand p st (if st = .ok then [BitVec.ofNat 64 s.power, s.pwr.stepTick] else []) s

/-- The next step, or the pending request, begins at the next boundary. -/
def scheduleStep (code : Nat) (s : State) : State := s.modPwr (fun x => { x with nextStep := some (code, s.nextDue) })

/-- The transition is over: its reply, and the pending request after it. -/
def endTransition (st : Rs) (s : State) : State :=
  let s := s.setFld PWR_STATUS_STEP 0
  let s := match s.pwr.req with
    | some r => replyReq r st (s.modPwr (fun x => { x with req := none }))
    | none => s
  if s.pwr.slot.isSome then scheduleStep 0 s else s

/-- A request starts (R659): it replies at once in its target state, or its first step waits for the boundary. -/
def startRequest (r : PwrReq) (s : State) : State :=
  if r.target = s.power then replyReq r .ok s
  else scheduleStep (stepFrom s.power r.target)
    ((s.setFld PWR_STATUS_TARGET r.target).modPwr (fun x => { x with req := some r }))

/-- A request arrives (R658). -/
def askPower (r : PwrReq) (s : State) : State :=
  if s.pwr.req.isNone ∧ s.pwr.slot.isNone then startRequest r s
  else
    let s := match s.pwr.slot with
      | some old => replyReq old .superseded (s.addFld PWR_COUNTS_SUPERSEDED 1)
      | none => s
    setSlot (some r) s

/-- `PWR_STATE` (R647, R658, R659). -/
def execPwrState (p : Packet) (s : State) : Host.Outcome State Fault Refusal :=
  .next (runCommand 0x0201 1 .owner p (askPower { cmd := some p, target := bits (p.w 1) 0 2 }) s)

/-! ### The steps (R648) -/

/-- The endpoints whose dampers B2 raises and U3 opens: context engine, signal engines, channel die links, bank store,
configuration controller, user lanes (R459). -/
def hardEndpoints : List Nat :=
  ctxEndpoints ++ (List.range 4).map sgeEndpoint ++ (List.range 4).map dieEndpoint ++ [121, 157, 161, 156]

/-- The gates that B2 closes: every one but those always open and that of the Brocia ports (R646). -/
def bankedGates : Nat := (ownGates.filter (fun n => decide (n ≠ 18))).foldl (fun m n => m ||| 2 ^ n) 0

/-- The memory sweep's classes in retention: contexts, context engine, bank store, signal engines (R651). -/
def retainedClasses : List Nat := [0, 1, 2, 3]

/-- Every group follows its region. -/
def followAll (s : State) : State := (List.range 64).foldl (fun s r => followRegion r s) s

/-- I1: the static-border gate and every open region gate close. -/
def stepI1 (s : State) : State :=
  let was := s.gateOpen 20
  let shown := (List.range 64).filter (fun r => s.fbit CLK_RGN_GATE_GATE r && !s.fbit CLK_RGN_CLOSING_CLOSING r)
  let s := s.modPwr (fun x => { x with forced := x.forced ||| 2 ^ 20, rgnForced := true })
  let s := if was then closeGate 20 s else s
  followAll (shown.foldl (fun s r => s.setFbit CLK_RGN_CLOSING_CLOSING r true) s)

/-- B1 (R648, R694). -/
def stepB1 (s : State) : State :=
  let s := if s.cfg.load.isSome then loadFail 10 s else s
  let s := (List.range 128).foldl (fun s g => enterSafe g s) s
  let runs := (List.range 32).filter (fun e => s.on SGE_CTL_RUN e)
  let s := s.modPwr (fun x => { x with admitStop := true, savedRun := runs })
  let s := (List.range 32).foldl (fun s e => setRun e false s) s
  allTargets.foldl (fun s t => raiseDamper t s) s

/-- B2 begins: dampers go up, ACTIVE DRAM controllers go into self-refresh. -/
def stepB2 (s : State) : State :=
  let s := hardEndpoints.foldl (fun s e => raiseEndpoint e s) s
  (List.range 4).foldl (fun s c =>
    if s.drState c = drActive then dramContain c (s.modDrc c (fun d => { d with resume := true })) else s) s

/-- The gates of B2 close once the dampers are SHUT (R649): those whose clocks run ramp down (R631). -/
def stepB2Gates (s : State) : State :=
  let run := (ownGates.filter (fun n => decide (n ≠ 18))).filter (fun n =>
    s.gateOpen n || s.gateClosing n || (s.ramp (.gate n)).isSome)
  let s := s.modPwr (fun x => { x with forced := x.forced ||| bankedGates })
  run.foldl (fun s n => startRamp (.gate n) 1 0 none (s.setFbit CLK_GATE_CLOSING_CLOSING n false)) s

/-- The gates of B2 have been told to close. -/
def bankedHeld (s : State) : Bool := decide (s.pwr.forced &&& bankedGates = bankedGates)

/-- The gates of B2 are closed. -/
def gatesDown (s : State) : Bool := bankedHeld s && ownGates.all (fun n => decide (n = 18) || (s.ramp (.gate n)).isNone)

/-- B2 ends: isolation engaged, regions CLEARED, retention entered, lanes and oscillators powered down. -/
def stepB2End (s : State) : State :=
  let s := s.modPwr (fun x => { x with isolated := true, retained := true })
  let s := (List.range 64).foldl (fun s r => clearTarget r s) (s.setFld CLK_RGN_CLOSING_CLOSING 0)
  let s := (List.range 4).foldl (fun s k => s.setFld CLK_UOSCk_READY 0 k) s
  let s := (List.range 64).foldl (fun s i => powerDownLane (32 + i) s) s
  let s := retainedClasses.foldl (fun s k => newLap k s) s
  { s with cfg := { s.cfg with sweepNext := 0 } }

/-- C1 begins: the reply is posted, a pending period change withdrawn (R696), and the delay runs. -/
def stepC1 (s : State) : State :=
  let s := if s.on TCK_PERIOD_NEXT_PENDING then
    (s.setFld TCK_PERIOD_NEXT_PENDING 0).setFld TCK_STATUS_CHANGE_MISSED 1 else s
  let s := match s.pwr.req with
    | some ⟨some p, _⟩ => endCommand p .ok [3, s.pwr.stepTick] s
    | _ => s
  s.modPwr (fun x => { x with coldDelay := true, req := x.req.map (fun r => { r with cmd := none }) })

/-- U2: regions powered CLEARED, retention and isolation over, gates reopened, DRAM back from self-refresh. The context
engine rebuilds its calendar when its clock has ramped up (`gateRampEnd`). -/
def stepU2 (s : State) : State :=
  let s := s.modPwr (fun x => { x with forced := 2 ^ 20, isolated := false, retained := false })
  let s := (ownGates.filter (fun n => decide (n ≠ 18 ∧ n ≠ 20))).foldl (fun s n =>
    if s.gateBit n then startRamp (.gate n) 0 1 none s else s) s
  let s := retainedClasses.foldl (fun s k => newLap k s) s
  wakeDrams s

/-- U3: the dampers of the hard-block and static-border endpoints open, RUN returns, admission resumes, the signature
sweep begins a new lap (R697). -/
def stepU3 (s : State) : State :=
  let s := openTarget (hardEndpoints.foldl (fun s e => openEndpoint e s) s) 64
  let s := s.pwr.savedRun.foldl (fun s e => setRun e true s) s
  restartLap (s.modPwr (fun x => { x with admitStop := false, savedRun := [] }))

/-- I2: the static-border gate and the region gates whose bit is 1 reopen. -/
def stepI2 (s : State) : State :=
  let s := s.modPwr (fun x => { x with forced := 0, rgnForced := false })
  let s := if s.gateBit 20 then startRamp (.gate 20) 0 1 none s else s
  ((List.range 64).filter (fun r => s.fbit CLK_RGN_GATE_GATE r)).foldl (fun s r => startRamp (.region r) 0 1 none s) s

/-- A step has ended: the state it leads to, and the step after it, or the end of the transition. -/
def afterStep (code : Nat) (s : State) : State :=
  let s := s.setFld PWR_STATUS_STEP 0
  match code with
  | 2 => scheduleStep 3 s
  | 3 => scheduleStep 4 s
  | 6 => scheduleStep 7 s
  | 7 => scheduleStep 8 s
  | _ =>
    let s := s.setFld PWR_STATUS_STATE (match code with | 1 => 1 | 4 => 2 | 8 => 1 | _ => 0)
    if s.power = s.fld PWR_STATUS_TARGET then endTransition .ok (s.addFld PWR_COUNTS_TRANSITIONS 1)
    else scheduleStep (stepFrom s.power (s.fld PWR_STATUS_TARGET)) s

/-- A step begins (R648). -/
def startStepOf (code : Nat) (s : State) : State :=
  let s := (s.setFld PWR_STATUS_STEP code).modPwr (fun x => { x with nextStep := none, stepTick := s.tickCount })
  match code with
  | 1 => stepI1 s
  | 2 => stepB1 s
  | 3 => stepB2 s
  | 4 => startRamp .noc 6 24 none s
  | 5 => stepC1 s
  | 6 => commandVoltage (s.fld PWR_AVS_V_RUN_MV) true s
  | 7 => stepU2 s
  | 8 => afterStep 8 (stepU3 s)
  | _ => stepI2 s

/-- The power step of a boundary (R43, R648): the step or the pending request that waits for it. -/
def powerAtBoundary (s : State) : State :=
  match s.pwr.nextStep with
  | none => s
  | some (code, due) =>
    if s.tck.ticks < due ∨ s.pwr.stopped then s
    else if code = 0 then
      match s.pwr.slot with
      | none => s.modPwr (fun x => { x with nextStep := none })
      | some r =>
        let s := setSlot none (s.modPwr (fun x => { x with nextStep := none }))
        if r.target = s.power then replyReq r .ok s
        else
          let first := stepFrom s.power r.target
          let s := (s.setFld PWR_STATUS_TARGET r.target).modPwr (fun x => { x with req := some r })
          if first = 2 ∧ s.fullLoad then scheduleStep 2 s else startStepOf first s
    else if code = 2 ∧ s.fullLoad then s
    else startStepOf code s

/-- The end condition of a step (R648). -/
def stepDone (code : Nat) (s : State) : Bool :=
  match code with
  | 1 => decide (s.fld CLK_RGN_CLOSING_CLOSING = 0) && !s.gateClosing 20 && (s.ramp (.gate 20)).isNone
  | 2 => allTargets.all (fun t => decide (s.tdamper t = dmShut)) && (List.range 32).all (fun e => !(s.eng e).busy)
      && s.ctx.flight.isEmpty && s.ctx.writes.isEmpty
  | 3 => hardEndpoints.all (fun e => decide (s.fld NOC_EPe_STATUS_DAMPER e = 2))
      && (List.range 4).all (fun c => decide (s.drState c ≠ drActive))
  | 4 => (s.ramp .noc).isNone && s.pwr.avs.isNone && decide (s.pwr.nocDiv = 24)
  | 6 => (s.ramp .noc).isNone && s.pwr.avs.isNone && decide (s.pwr.nocDiv = 6)
  | 7 => decide (s.fld CLK_GATE_RAMP_RAMPING = 0) && !s.on CTX_ENG_STATUS_REBUILDING
  | 9 => decide (s.fld CLK_RGN_CLOSING_CLOSING = 0) && (s.ramp (.gate 20)).isNone
  | _ => false

/-- `POWER_STEP_END` (R648): the end condition of the step in progress holds. In B2 the work of the blocks ends first, then
their gates close, then the rest is done (R649). -/
def execPowerStepEnd (s : State) : Host.Outcome State Fault Refusal :=
  let code := s.fld PWR_STATUS_STEP
  if s.pwr.stopped ∨ ¬ stepDone code s then .next s
  else if code = 3 then .next (if gatesDown s then afterStep 3 (stepB2End s) else if bankedHeld s then s else stepB2Gates s)
  else .next (afterStep code s)

/-- `BANKED_JOB_CUTOFF` (R648, B1): a job still running 100 µs after the step began ends as R291 ends one. -/
def execBankedJobCutoff (s : State) : Host.Outcome State Fault Refusal :=
  if s.fld PWR_STATUS_STEP ≠ 2 ∨ s.pwr.stopped then .next s
  else .next ((List.range 32).foldl (fun s e =>
    let s := if (s.eng e).frameRunning then endFrame e true s else s
    syncEngine e (if (s.eng e).jobRunning then expireJob e s else s)) s)

/-! ### The core voltage (R654 to R657) -/

/-- `AVS_READBACK` (R654): a readback in mV, or a transaction that failed after its retries (R657). -/
def execAvsReadback (mv : Option Nat) (s : State) : Host.Outcome State Fault Refusal :=
  match mv with
  | none => .next (s.setFld PWR_AVS_AVS_ERR 1)
  | some v =>
    let s := s.setFld PWR_AVS_READ_MV v
    let t := s.fld PWR_AVS_TARGET_MV
    match s.pwr.avs with
    | none => .next s
    | some raised =>
      if v + 10 < t ∨ t + 10 < v then .next s
      else
        let s := s.modPwr (fun x => { x with avs := none })
        .next (if raised ∧ s.fld PWR_STATUS_STEP = 6 then startRamp .noc 24 6 none s else s)

/-- `AVS_TIMEOUT` (R657): the voltage was not reported reached within 1 ms. -/
def execAvsTimeout (s : State) : Host.Outcome State Fault Refusal :=
  match s.pwr.avs with
  | none => .next s
  | some raised =>
    let s := (s.setFld PWR_AVS_AVS_ERR 1).addFld PWR_COUNTS_AVS_ERRORS 1
    let s := raise 0x004 (s.fld PWR_AVS_TARGET_MV + 65536 * s.fld PWR_AVS_READ_MV) s
    let s := s.modPwr (fun x => { x with avs := none })
    .next (if raised ∧ s.fld PWR_STATUS_STEP = 6 then endTransition .failed s else s)

/-! ### Power-up and power-down (R385, R618 to R622, R653) -/

/-- The offsets of the registers of the always-on domain: TCK_AON, TCK_AON_CAL, PWR_WAKE_CFG, PWR_WAKE_STATUS (R68, R664). -/
def alwaysOnRegs : List Nat :=
  [TCK_AON_COUNT.off, TCK_AON_CAL_ROOT_PER_1024.off, PWR_WAKE_CFG_PIN_EN.off, PWR_WAKE_STATUS_PIN.off]

/-- Every domain but the always-on domain is as after power-up (R622, R653). The non-volatile array and the fuses keep
their contents; what has been sent and the queue are not the device's. -/
def resetDomains (s : State) : State :=
  let s := setEmber false s
  { State.reset with
    pending := s.pending, out := s.out, free := s.free
    regs := s.regs.filter (fun r => alwaysOnRegs.contains r.1)
    mem := s.mem.filter (fun e => decide (e.1 / 16777216 = 7))
    cfg := { CfgState.reset with fuses := s.cfg.fuses }
    tck := { TckState.reset with saved := s.tck.saved }
    pwr := { PwrState.reset with coreEn := s.pwr.coreEn, pwrOk := s.pwr.pwrOk, wakeLow := s.pwr.wakeLow } }

/-- `AON_POWER_ON` (R620): the always-on domain leaves its power-on reset. -/
def execAonPowerOn (s : State) : Host.Outcome State Fault Refusal :=
  let t := resetDomains s
  .next (({ t with regs := [], tck := TckState.reset, pwr := PwrState.reset }).emit (.coreEn false))

/-- `CORE_EN_HIGH` (R620). -/
def execCoreEnHigh (s : State) : Host.Outcome State Fault Refusal :=
  if s.pwr.coreEn ∨ s.power = 3 then .next s
  else .next ((s.modPwr (fun x => { x with coreEn := true })).emit (.coreEn true))

/-- `POWER_ON` (R385, R621): PWR_OK rises and phase P0 begins. Until the straps are latched every channel applies the safe
state that the present level of SAFE_KEEP selects (R715). -/
def execPowerOn (safeKeep : Bool) (s : State) : Host.Outcome State Fault Refusal :=
  if s.pwr.pwrOk then .next s
  else
    let s := (resetDomains s).modPwr (fun x => { x with pwrOk := true, phase := .p0, kindle := true })
    .next (((List.range 128).foldl (fun s g => setSafeState g (bnat safeKeep) s) s).emit (.doneN true))

/-- `PWR_OK_FALL` (R622): every group is in its safe state and every domain but the always-on domain in reset. After a fall
outside COLD the counters start from zero (R30). -/
def execPwrOkFall (s : State) : Host.Outcome State Fault Refusal :=
  if ¬ s.pwr.pwrOk then .next s
  else if s.power = 3 then .next (s.modPwr (fun x => { x with pwrOk := false }))
  else
    let t := (resetDomains s).modPwr (fun x => { x with pwrOk := false })
    .next ({ t with tck := { t.tck with saved := none } }.emit (.doneN true))

/-- `COLD_DELAY_EXPIRE` (R648, C1): the counters are saved, DONE_N and EMBER go low, and CORE_EN falls. -/
def execColdDelayExpire (s : State) : Host.Outcome State Fault Refusal :=
  if ¬ s.pwr.coldDelay ∨ s.pwr.stopped then .next s
  else
    let t := (resetDomains (saveTime s)).modPwr (fun x => { x with coreEn := false })
    .next (((t.setFld PWR_STATUS_STATE 3).emit (.doneN true)).emit (.coreEn false))

/-- The straps are latched (R624, R372, R386, R714); GOLDEN_EN is 1 where they select FLASH or FLASH_HEAD (chapter 9, CFG_CTL). -/
def latchStraps (bootSrc : Nat) (refSel safeKeep : Bool) (s : State) : State :=
  let s := (s.setFld CLK_STATUS_REF_SEL (bnat refSel)).setFld CLK_STATUS_REF (bnat refSel)
  let s := { s.setFld CFG_STATUS_BOOT_SRC bootSrc with cfg := { s.cfg with safeKeep := safeKeep } }
  let s := s.setFld CFG_CTL_GOLDEN_EN (if bootSrc = 0 ∨ bootSrc = 3 then 1 else 0)
  (List.range 128).foldl (fun s g => setSafeState g (bnat safeKeep) s) s

/-- `KINDLING_READY` (R385, R626): in phase P0 the straps are latched and P1 begins. -/
def execKindlingReady (bootSrc : Fin 4) (refSel safeKeep : Bool) (s : State) : Host.Outcome State Fault Refusal :=
  if ¬ s.pwr.kindle then .next s
  else
    let s := s.setFld CLK_STATUS_KINDLE_READY 1
    if s.pwr.phase = .p0 then
      .next ((latchStraps bootSrc refSel safeKeep s).modPwr (fun x => { x with phase := .p1 }))
    else .next s

/-- The kindling oscillator stops, unless KINDLE_KEEP is 1 (R628, R645). -/
def restKindling (s : State) : State :=
  if s.on CLK_CTL_KINDLE_KEEP then s
  else (s.setFld CLK_STATUS_KINDLE_READY 0).modPwr (fun x => { x with kindle := false })

/-- `ROOT_LOCK` (R627, R30, R69): the domains change from the kindling oscillator to the root; tick 0 begins, or the
counters advance. -/
def execRootLock (aon : Nat) (s : State) : Host.Outcome State Fault Refusal :=
  if s.pwr.phase ≠ .p2 then .next s
  else
    let s := restKindling ((s.setFld CLK_STATUS_ROOT 1).modPwr (fun x => { x with phase := .p3 }))
    let s := startRamp .fixed 96 0 (some 24) s
    .next (wakeAdvance aon s)

/-- A word of the BOARD area (R567), or none where it is uncorrectable. -/
def boardAreaWord (a : Nat) (s : State) : Option Word := (s.pword (nvaKey a)).value?

/-- BRL_ID is loaded from BOARD word 0x1_B001 (R567). -/
def loadDevId (s : State) : State :=
  match boardAreaWord 0x1B001 s with
  | some w =>
    if bits w 32 32 = 0x44455649 then setDevId (bits w 0 14) (s.setFld BRL_ID_LOCK (bits w 14 1)) else s
  | none => s

/-- The coefficients of a group are loaded as CAL_LOAD with SOURCE 0 loads them (R239). -/
def loadCalibration (s : State) (g : Nat) : State :=
  match chooseRecord 0 g s with
  | some (copy, l) => loadImage g copy l s
  | none => s

/-- The gates of R635 are open. -/
def openInitGates (s : State) : State :=
  ([5, 6, 7, 8, 9, 10, 11, 12, 13, 18] ++ (boardNamed s).map (· + 14)).foldl (fun s n => s.setGateBit n true) s

/-- `HEARTH_INIT_DONE` (R385): phase P3 ends; `dram` says of each controller whether its start passes (R521). -/
def execHearthInitDone (dram : List Bool) (s : State) : Host.Outcome State Fault Refusal :=
  if s.pwr.phase ≠ .p3 then .next s
  else
    let s := loadDevId (readFuses (openInitGates s))
    let s := commandVoltage Config.vRun false (s.setFld PWR_AVS_V_RUN_MV Config.vRun)
    let s := boardLoad dram ((List.range 128).foldl loadCalibration s)
    let s := { s.setFld HC_STATUS_READY 1 with pcie := { s.pcie with ready := true } }
    .next (emberCheck (bootLoad (s.modPwr (fun x => { x with phase := .up }))))

/-! ### The root reference (R624 to R630, R645) -/

/-- `CLK_REF_SELECT` (R630, R665). While the root does not run from a reference, only the selection changes (R645). The
kindling oscillator, against which the new reference is measured (R627), is started if it is stopped (R628). -/
def execClkRefSelect (p : Packet) (s : State) : Host.Outcome State Fault Refusal :=
  .next (runCommand 0x0202 1 .owner p (fun s =>
    let ref := bits (p.w 1) 0 1
    if s.pwr.req.isSome ∨ s.pwr.select.isSome then endCommand p .busy [] s
    else if 2 ≤ s.fld CLK_STATUS_ROOT then
      let s := if s.fld CLK_STATUS_REF = ref then s else (s.setFld CLK_STATUS_REF ref).setFld CLK_STATUS_REF_QUAL 0
      endCommand p .ok [BitVec.ofNat 64 (s.fld CLK_STATUS_ROOT)] (s.modPwr (fun x => { x with returnAsked := true }))
    else if s.fld CLK_STATUS_REF = ref then endCommand p .ok [BitVec.ofNat 64 (s.fld CLK_STATUS_ROOT)] s
    else s.modPwr (fun x => { x with select := some (ref, p), kindle := true })) s)

/-- `REFERENCE_QUALIFIED` (R627, R630, R645): measured against the kindling oscillator. -/
def execReferenceQualified (s : State) : Host.Outcome State Fault Refusal :=
  if ¬ s.on CLK_STATUS_KINDLE_READY then .next s
  else if s.pwr.phase = .p1 then
    .next ((s.setFld CLK_STATUS_REF_QUAL 1).modPwr (fun x => { x with phase := .p2 }))
  else match s.pwr.select with
    | some (ref, _) =>
      .next (((s.setFld CLK_STATUS_REF ref).setFld CLK_STATUS_REF_QUAL 1).setFld CLK_STATUS_SWITCHING 1)
    | none =>
      if s.fld CLK_STATUS_ROOT = 3 ∧ (s.on CLK_CTL_AUTO_RETURN ∨ s.pwr.returnAsked) then
        .next ((s.setFld CLK_STATUS_REF_QUAL 1).setFld CLK_STATUS_SWITCHING 1)
      else .next s

/-- `REF_QUALIFY_TIMEOUT` (R630): the new reference has not qualified within 10 ms. -/
def execRefQualifyTimeout (s : State) : Host.Outcome State Fault Refusal :=
  match s.pwr.select with
  | some (_, p) =>
    if s.on CLK_STATUS_SWITCHING then .next s
    else .next (endCommand p .failed [] (restKindling (s.modPwr (fun x => { x with select := none }))))
  | none => .next s

/-- `SLEW_DONE` (R630, R645): the root is locked to the new reference. -/
def execSlewDone (s : State) : Host.Outcome State Fault Refusal :=
  if ¬ s.on CLK_STATUS_SWITCHING then .next s
  else
    let back := decide (s.fld CLK_STATUS_ROOT = 3)
    let s := (s.setFld CLK_STATUS_SWITCHING 0).setFld CLK_STATUS_ROOT 1
    let s := restKindling (if back then startAlign (s.addFld CLK_MON_RETURNS 1) else s)
    let s := s.modPwr (fun x => { x with returnAsked := false })
    match s.pwr.select with
    | some (_, p) => .next (endCommand p .ok [1] (s.modPwr (fun x => { x with select := none })))
    | none => .next s

/-! ### The clock monitor (R640 to R644, R660) -/

/-- A step in progress is suspended (R660). -/
def suspendStep (s : State) : State := if s.on PWR_STATUS_STEP then s.setFld PWR_STATUS_SUSPENDED 1 else s

/-- The device freezes (R642): every clock stops, the counters are saved, a step stands still (R660), a severity-3 fault is
raised, EMBER stops. -/
def freezeDevice (s : State) : State :=
  let s := ((s.setFld CLK_MON_FROZE 1).addFld CLK_MON_FREEZES 1).setFld CLK_STATUS_SWITCHING 0
  let s := suspendStep (s.modPwr (fun x => { x with frozen := true, stopped := true, kindle := true }))
  emberCheck (raise 0x000 0 (saveTime s))

/-- A trip (R641). -/
def tripMonitor (lockLost : Bool) (s : State) : State :=
  let s := if lockLost then s.setFld CLK_MON_LOCK_LOST 1 else s.setFld CLK_MON_REF_LOST 1
  let s := (s.addFld CLK_MON_TRIPS 1).setFld CLK_MON_LAST_TICK s.tickCount.toNat
  let s := ((s.setFld CLK_STATUS_ROOT 2).setFld CLK_STATUS_SWITCHING 0).setFld CLK_STATUS_REF_QUAL 0
  let s := (List.range 128).foldl (fun s g => enterSafe g s) s
  let s := (s.setFld TCK_STATUS_QUALITY 2).setFld TCK_STATUS_ALIGNED 0
  let s := (List.range 4).foldl (fun s c => dramHold c s) s
  let s := suspendStep (s.modPwr (fun x => { x with kindle := true, stopped := true }))
  let s := raise 0x003 (if lockLost then 2 else 1) s
  match s.pwr.select with
  | some (ref, p) =>
    endCommand p .ok [2] ((s.setFld CLK_STATUS_REF ref).modPwr (fun x => { x with select := none, returnAsked := true }))
  | none => s

/-- `CLOCK_MONITOR_TRIP` (R640, R641, R643). -/
def execClockMonitorTrip (lockLost : Bool) (s : State) : Host.Outcome State Fault Refusal :=
  if s.pwr.frozen then .next s
  else match s.fld CLK_STATUS_ROOT with
    | 1 => .next (tripMonitor lockLost s)
    | 3 => if lockLost then .next (freezeDevice s) else .next s
    | _ => .next s

/-- `FREEZE` (R642): the kindling oscillator was not ready 50 µs after the trip. -/
def execFreeze (s : State) : Host.Outcome State Fault Refusal :=
  if s.fld CLK_STATUS_ROOT = 2 ∧ ¬ s.on CLK_STATUS_KINDLE_READY ∧ ¬ s.pwr.frozen then .next (freezeDevice s) else .next s

/-- `PULL_IN_DONE` (R641, R644): the root runs from the kindling oscillator and the stopped domains ramp up (`resumeDomains`
at the end of the ramp). A frozen device resumes with its counters advanced (R30); `aon` is TCK_AON then. -/
def execPullInDone (aon : Nat) (s : State) : Host.Outcome State Fault Refusal :=
  if ¬ s.on CLK_STATUS_KINDLE_READY ∨ ¬ (s.pwr.frozen ∨ s.fld CLK_STATUS_ROOT = 2) then .next s
  else
    let s := if s.pwr.frozen then wakeAdvance aon (s.modPwr (fun x => { x with frozen := false })) else s
    .next (emberCheck (startRamp .fixed 0 24 none (s.setFld CLK_STATUS_ROOT 3)))

/-! ### Wakes (R661 to R663) -/

/-- The sources of a wake. -/
inductive WakeKind
  | pin | ring | pcie
  deriving DecidableEq, Repr

/-- PME for each function in D3hot with PME enabled (R663). -/
def sendPme (s : State) : State :=
  (List.range 4).foldl (fun s f => if (s.fn f).d3hot ∧ (s.fn f).pmeEnable then s.emit (.pme f) else s) s

/-- A wake fires (R661 to R663, R653). -/
def fireWake (k : WakeKind) (s : State) : State :=
  let s := raise 0x00C 0 (s.addFld PWR_COUNTS_WAKES 1)
  match s.power with
  | 0 => s
  | 3 =>
    let s := if s.pwr.coreEn then s else (s.modPwr (fun x => { x with coreEn := true })).emit (.coreEn true)
    if k = .pcie ∨ s.pwr.wakeLow then s
    else (s.modPwr (fun x => { x with wakeLow := true })).emit (.pcieWakeN true)
  | st => askPower { cmd := none, target := 0 } (if st = 2 then sendPme s else s)

/-- `WAKE_PIN` (R661): WAKEn has been held at its active level for FILTER_US always-on periods. -/
def execWakePin (n : Fin 4) (s : State) : Host.Outcome State Fault Refusal :=
  let s := s.setFbit PWR_WAKE_STATUS_LEVEL n (s.fbit PWR_WAKE_CFG_PIN_POL n)
  if s.fbit PWR_WAKE_CFG_PIN_EN n then .next (fireWake .pin (s.setFbit PWR_WAKE_STATUS_PIN n true)) else .next s

/-- The effect of a write to PWR_WAKE_REQ (R661). -/
def wakeReqEffect (m : Ident) (h : Half) (data : Word) (s : State) : State :=
  let one := wbit h data PWR_WAKE_REQ_WAKE
  match identClass m with
  | 1 => if one ∧ s.on PWR_WAKE_CFG_PCIE_EN then fireWake .pcie (s.setFld PWR_WAKE_STATUS_PCIE 1) else s
  | 2 => if one ∧ s.on PWR_WAKE_CFG_RING_EN then fireWake .ring (s.setFld PWR_WAKE_STATUS_RING 1) else s
  | _ => violation m .area true (PWR_WAKE_REQ_WAKE.off + h.skip) s

/-- `WAKE_REQ_WRITE` (R661). -/
def execWakeReqWrite (m : Ident) (h : Half) (data : Word) (s : State) : Host.Outcome State Fault Refusal :=
  .next (regWrite .PWR_WAKE_REQ [] m h (wakeReqEffect m h data) s)

/-- `RING_ENERGY_WAKE` (R661): in COLD. -/
def execRingEnergyWake (s : State) : Host.Outcome State Fault Refusal :=
  if s.power = 3 ∧ s.on PWR_WAKE_CFG_RING_EN then .next (fireWake .ring (s.setFld PWR_WAKE_STATUS_RING 1)) else .next s

/-- `PERST_RISE` (R661, R663): PCIE_WAKE_N is released, and in COLD PCIe wake fires. -/
def execPerstRise (s : State) : Host.Outcome State Fault Refusal :=
  let s := if s.pwr.wakeLow then (s.modPwr (fun x => { x with wakeLow := false })).emit (.pcieWakeN false) else s
  if s.power = 3 ∧ s.on PWR_WAKE_CFG_PCIE_EN then .next (fireWake .pcie (s.setFld PWR_WAKE_STATUS_PCIE 1)) else .next s

end Sys2Proof.Machine
end

