-- ==== Sys2Proof/Machine/Tick.lean ====
section
/-! DEFINITION. The frame tick and device time (chapter 02): period changes (R45 to R51), alignment to an upstream source
(R52 to R64), Precision Time Measurement (R65, R66), the always-on calibration (R68), the time commands (R71) and the reads
of TCK_COUNT and DEVICE_TIME (R32, R33). -/

namespace Sys2Proof.Machine

/-- The state with its tick part changed. -/
def State.modTck (s : State) (f : TckState → TckState) : State := { s with tck := f s.tck }

/-! ### Period changes (R45 to R51) -/

/-- A period change is armed for the tick numbered `tick`. -/
def armPeriod (n : Nat) (tick : Word) (s : State) : State :=
  (((s.setFld TCK_PERIOD_NEXT_NEXT_N n).setFld TCK_PERIOD_NEXT_PENDING 1).modTck (fun t => { t with armedAt := tick }))

/-- ARM is written 1 (R45 to R47). -/
def armEffect (s : State) : State :=
  let tick : Word := BitVec.ofNat 64 (s.fld TCK_CHANGE_AT_AT)
  let now := s.tickCount.toNat
  let n := s.fld TCK_PERIOD_NEXT_NEXT_N
  let missed := s.on TCK_PERIOD_NEXT_PENDING || decide (n < 16 ∨ 66666 < n)
    || (decide (tick ≠ 0) && decide (tick.toNat ≤ now))
    || (decide (tick.toNat = now + 1) && s.frozenSet)
  if missed then s.setFld TCK_STATUS_CHANGE_MISSED 1
  else if tick = 0 then armPeriod n (BitVec.ofNat 64 (now + (if s.frozenSet then 2 else 1))) s
  else armPeriod n tick s

/-- The effect of a write to TCK_PERIOD_NEXT: CANCEL, NEXT_N, ARM, in this order (R47). A device that follows ignores it
(R50). That CANCEL withdraws the change also in the last epoch before its boundary, when the set of changes is frozen (R44),
is this model's choice (log entry 189). -/
def periodNextEffect (h : Half) (data : Word) (s : State) : State :=
  if s.tck.following then s
  else
    let s := if wbit h data TCK_PERIOD_NEXT_CANCEL then s.setFld TCK_PERIOD_NEXT_PENDING 0 else s
    let s := match wfield h data TCK_PERIOD_NEXT_NEXT_N with
      | some v => if s.on TCK_PERIOD_NEXT_PENDING then s else s.setFld TCK_PERIOD_NEXT_NEXT_N v
      | none => s
    if wbit h data TCK_PERIOD_NEXT_ARM then armEffect s else s

/-- `TICK_PERIOD_ARM` (R45, R46). -/
def execTickPeriodArm (m : Ident) (h : Half) (data : Word) (s : State) : Host.Outcome State Fault Refusal :=
  .next (regWrite .TCK_PERIOD_NEXT [] m h (periodNextEffect h data) s)

/-- `TICK_PERIOD_CANCEL` (R47). -/
def execTickPeriodCancel (m : Ident) (h : Half) (data : Word) (s : State) : Host.Outcome State Fault Refusal :=
  .next (regWrite .TCK_PERIOD_NEXT [] m h (periodNextEffect h data) s)

/-- The effect of a write to TCK_CHANGE_AT: locked as NEXT_N is (R47, R50). -/
def changeAtEffect (h : Half) (data : Word) (s : State) : State :=
  plainWrite (regInfo .TCK_CHANGE_AT).fields TCK_CHANGE_AT_AT.off
    (fun _ => s.tck.following || s.on TCK_PERIOD_NEXT_PENDING) h data s

/-- The period change of a boundary (R43, R45). -/
def periodChange (s : State) : State :=
  if s.on TCK_PERIOD_NEXT_PENDING ∧ s.tck.armedAt ≤ s.tickCount then
    setPeriod (s.fld TCK_PERIOD_NEXT_NEXT_N) (s.setFld TCK_PERIOD_NEXT_PENDING 0)
  else s

/-- `TICK_SET_PERIOD` (R71). -/
def execTickSetPeriod (p : Packet) (s : State) : Host.Outcome State Fault Refusal :=
  .next (runCommand 0x0801 2 .owner p (fun s =>
    let n := (p.w 1).toNat
    let now := s.tickCount.toNat
    let t := (p.w 2).toNat
    if s.tck.following then endCommand p .notSource [] s
    else if s.on TCK_PERIOD_NEXT_PENDING then endCommand p .invalid [] (s.setFld TCK_STATUS_CHANGE_MISSED 1)
    else if n < 16 ∨ 66666 < n ∨ (t ≠ 0 ∧ t < now + 256) then endCommand p .invalid [] s
    else
      let tick : Word := BitVec.ofNat 64 (if t = 0 then now + 1024 else t)
      endCommand p .ok [tick] (armPeriod n tick (s.setFld TCK_CHANGE_AT_AT tick.toNat))) s)

/-! ### Source and follower (R52 to R55) -/

/-- A marker's source is one that this device would follow: its ID is lower than this device's, or this device has none.
An AUTO device with a lower ID than a device of ROLE SOURCE therefore does not follow it, but acts as source itself, and the
SOURCE device follows (R53): this model's choice between the sentences of R52 (log entry 190). -/
def lowerSource (src : Nat) (s : State) : Bool := !s.on BRL_ID_ASSIGNED || decide (src < s.devId)

/-- The upstream port: the ACTIVE port whose markers show the fewest hops, of equals the lowest (R55). -/
def upstreamIn (s : State) : List Nat → Option (Nat × PortMarkers)
  | [] => none
  | p :: r =>
    match s.tck.ports.getD p none, upstreamIn s r with
    | some m, some (q, k) =>
      if s.portActive p && lowerSource m.source s && decide (m.hops ≤ k.hops) then some (p, m) else some (q, k)
    | some m, none => if s.portActive p && lowerSource m.source s then some (p, m) else none
    | none, x => x

/-- The upstream port and what its markers show. -/
def State.upstream (s : State) : Option (Nat × PortMarkers) := upstreamIn s [0, 1, 2, 3]

/-- TCK_STATUS.IS_SOURCE (R52): ROLE SOURCE, or AUTO, and no source followed. -/
def syncSource (s : State) : State :=
  s.setFld TCK_STATUS_IS_SOURCE
    (bnat (s.rootRuns && !s.tck.following && decide (s.fld TCK_CTL_ROLE ≠ 2)
      && !(decide (s.fld TCK_CTL_ROLE = 0) && s.upstream.isSome)))

/-- The device is no longer aligned. QUALITY falls from MEASURED to FREE_RUN when no exchange has given a measurement (R65);
INTERPOLATED stays. -/
def loseAlignment (s : State) : State :=
  let s := if s.fld TCK_STATUS_QUALITY = 1 ∧ ¬ s.tck.ptmValid then s.setFld TCK_STATUS_QUALITY 0 else s
  (s.setFld TCK_STATUS_ALIGNED 0).modTck (fun t => { t with good := 0 })

/-- The device follows no source any more: it is not aligned and holds no steering. -/
def stopFollowing (s : State) : State :=
  ((loseAlignment s).setFld TCK_STATUS_HOLDOVER 0).modTck (fun t => { t with following := false })

/-- The device may follow a lower source: ROLE SOURCE after a conflict (R53), or AUTO with ALIGN_EN 1. -/
def State.mayFollow (s : State) : Bool :=
  decide (s.fld TCK_CTL_ROLE = 1) || (decide (s.fld TCK_CTL_ROLE = 0) && s.on TCK_CTL_ALIGN_EN)

/-- The effect of a write to TCK_CTL: a write of 3 to ROLE leaves ROLE. A device made SOURCE acts as source (R52) until a
lower source is heard (R53); one made FREE neither sends nor follows, and is not aligned (R52, R64). -/
def tckCtlEffect (h : Half) (data : Word) (s : State) : State :=
  let role := s.fld TCK_CTL_ROLE
  let s := plainWrite (regInfo .TCK_CTL).fields TCK_CTL_ALIGN_EN.off (fun _ => false) h data s
  let s := if s.fld TCK_CTL_ROLE = 3 then s.setFld TCK_CTL_ROLE role else s
  let made := decide (s.fld TCK_CTL_ROLE = 1 ∧ role ≠ 1)
  syncSource (if s.fld TCK_CTL_ROLE = 2 ∨ (s.tck.following ∧ (made ∨ ¬ s.mayFollow)) then stopFollowing s else s)

/-- A device begins to follow: a change armed by its own writes is withdrawn, since it takes changes only from markers (R50;
log entry 191). -/
def startFollowing (s : State) : State :=
  (s.setFld TCK_PERIOD_NEXT_PENDING 0).modTck (fun t => { t with following := true })

/-- A marker tells who the source is (R53): whether this device follows it. -/
def followMarker (mk : Marker) (s : State) : State :=
  let s := s.modTck (fun t => { t with ports := t.ports.set mk.port (some { hops := mk.hops, source := mk.source }) })
  if ¬ lowerSource mk.source s ∨ ¬ s.mayFollow ∨ s.tck.following then syncSource s
  else
    let s := if s.fld TCK_CTL_ROLE = 1 then raise 0x042 mk.source (s.setFld TCK_STATUS_SOURCE_CONFLICT 1) else s
    syncSource (startFollowing s)

/-- UPSTREAM_PORT, HOPS and the source followed are those of the upstream port (R54, R55). -/
def syncUpstream (s : State) : State :=
  match s.upstream with
  | some (p, m) =>
    ((s.setFld TCK_STATUS_UPSTREAM_PORT p).setFld TCK_STATUS_HOPS (m.hops + 1)).modTck (fun t => { t with source := m.source })
  | none => s

/-- A port shows no markers any more. -/
def forgetMarkers (p : Nat) (s : State) : State := s.modTck (fun t => { t with ports := t.ports.set p none })

/-! ### Alignment (R56 to R63, R702) -/

/-- Twice the one-way delay of a port in ps (R56). -/
def twiceDelay (p : Nat) (s : State) : Int :=
  (s.fld BRL_PORTp_DELAY_RTT_PS p : Int) - s.fld BRL_PORTp_DELAY_TURN_PS p + s.sfld TCK_PORTn_ADJ_ASYM_PS p

/-- The stamp of the TICK block that a marker belongs to (R565): the latest of its low eight bits. -/
def markerStamp (mk : Marker) (s : State) : Option TickStamp :=
  (s.tck.stamps.getD mk.port []).reverse.find? (fun t => decide (t.low8 = mk.count.toNat % 256))

/-- Picoseconds from this device's stamped boundary to the upstream boundary (R56, R565). -/
def upstreamPs (mk : Marker) (t : TickStamp) (s : State) : Int :=
  t.sincePs - mk.offsetPs - (twiceDelay mk.port s) / 2

/-- Root cycles since this device's stamped boundary, at its own N. -/
def sinceStamp (t : TickStamp) (s : State) : Int :=
  ((s.tck.ticks - t.ticks) * (s.curN * 144) + s.tck.phase : Nat)

/-- QUALITY becomes MEASURED, unless the root coasts or runs from the kindling oscillator (R65, R67); the bound that goes
with it is a free value (log entry 22). -/
def measured (s : State) : State :=
  if s.fld CLK_STATUS_ROOT ≠ 1 then s
  else
    let r := s.draw
    (r.2.setFld TCK_STATUS_QUALITY 1).setFld TCK_UNCERT_UNCERT_NS r.1.toNat

/-- Where a tick that would end at upstream phase `x` (of `len` cycles) is lengthened to: the whole epochs added, so that it
ends less than one epoch from an upstream boundary (R57). -/
def epochsAdded (x len : Nat) : Nat := if x < 144 then 0 else (len - x) / 144

/-- The alignment load (R57): TCK_COUNT, DEVICE_TIME and N from the marker, and the running tick, which keeps at least the
length it had, lengthened by whole epochs. TIME_ALIGN replies here, which is this model's choice of the moment (log entry
188). -/
def alignmentLoad (mk : Marker) (t : TickStamp) (s : State) : State :=
  let len := max (mk.n * 144) 1
  let up : Int := sinceStamp t s - upstreamPs mk t s * 96 / 10000
  let old := s.tickLen
  let x := (up + old - s.tck.phase) % (len : Int)
  let k := epochsAdded x.toNat len
  -- upstream's position, from the boundary of the marker, at the end of the lengthened tick
  let fin : Int := up + old - s.tck.phase + k * 144
  let next := (fin + 143) / (len : Int)
  let err := (next * len - fin) * 10000 / 96
  let s := setPeriod mk.n s
  let s := s.setReg TCK_COUNT_COUNT.off (BitVec.ofInt 64 (mk.count.toNat + next - 1))
  let s := s.setReg DEVICE_TIME_TIME.off (BitVec.ofInt 64 ((mk.time.toNat : Int) + up))
  let s := s.setFld TCK_STEER_PHASE_ERR_PS (unsigned 32 err)
  let s := s.setFld TCK_STATUS_SLEWING (bnat (decide (500 < err.natAbs)))
  let s := s.modTck (fun x => { x with span := some (old + k * 144), loadDue := false, good := 0, stamps := [[], [], [], []] })
  match s.tck.aligning with
  | some p =>
    endCommand p .ok [BitVec.ofNat 64 (s.fld TCK_STATUS_UPSTREAM_PORT), BitVec.ofNat 64 (s.fld TCK_STATUS_HOPS)]
      (s.modTck (fun x => { x with aligning := none }))
  | none => s

/-- The whole ticks and the rest, in ps, between this device's stamped boundary and the upstream one, to the nearest tick. -/
def phaseOf (rel : Int) (n : Nat) : Int × Int :=
  let len : Int := n * 15000
  let q := (2 * rel + len) / (2 * len)
  (q, rel - q * len)

/-- Tracking of one upstream marker (R56, R58, R59): the phase error, steering (its value is free within ±250 ppm, log
entry 23), and TCK_ALIGNED after 16 good markers. -/
def trackMarker (err : Int) (s : State) : State :=
  let ok := decide (err.natAbs ≤ 500)
  let r := s.draw
  let s := r.2.setFld TCK_STEER_STEER_PPB (unsigned 32 ((r.1.toNat % 500001 : Nat) - 250000))
  let s := (s.setFld TCK_STEER_PHASE_ERR_PS (unsigned 32 err)).setFld TCK_STATUS_SLEWING (bnat (!ok))
  let s := s.modTck (fun t => { t with good := if ok then min 16 (t.good + 1) else 0 })
  if s.tck.good = 16 ∧ ¬ s.on TCK_STATUS_ALIGNED ∧ s.fld CLK_STATUS_ROOT = 1 then
    sendReady (measured (s.setFld TCK_STATUS_ALIGNED 1))
  else s

/-- The count of a marker differs from this device's own corrected count (R63). -/
def auditMarker (mk : Marker) (own : Int) (s : State) : State :=
  if BitVec.ofInt 64 own = mk.count then s
  else raise 0x040 (bits mk.count 0 32) ((s.addFld TCK_AUDIT_MISMATCH_COUNT 1).setFld TCK_STATUS_COUNT_MISMATCH 1)

/-- A pending change in a marker is armed on receipt, also in place of one armed earlier that the source has replaced (R51).
One whose boundary's set of changes is frozen already is refused (R46). A marker of the present N without a change withdraws
the one armed (log entry 191). -/
def armFromMarker (mk : Marker) (s : State) : State :=
  if mk.pending then
    if s.on TCK_PERIOD_NEXT_PENDING ∧ s.tck.armedAt = mk.target ∧ s.fld TCK_PERIOD_NEXT_NEXT_N = mk.nextN then s
    else if mk.target ≤ s.tickCount then s
    else if mk.target.toNat = s.tickCount.toNat + 1 ∧ s.frozenSet then s.setFld TCK_STATUS_CHANGE_MISSED 1
    else armPeriod mk.nextN mk.target (s.setFld TCK_CHANGE_AT_AT mk.target.toNat)
  else if mk.n = s.curN then s.setFld TCK_PERIOD_NEXT_PENDING 0
  else s

/-- The work of a marker at a device that follows (R55 to R63, R702), measured at its port: the alignment load where it is
due, else the compare of the counts, and tracking on the upstream port. -/
def followerMarker (mk : Marker) (s : State) : State :=
  let up := decide (s.fld TCK_STATUS_UPSTREAM_PORT = mk.port)
  let s := if up then (s.setFld TCK_STATUS_HOLDOVER 0).modTck (fun t => { t with heard := true }) else s
  match markerStamp mk s with
  | none => s
  | some t =>
    if s.tck.loadDue ∧ up then armFromMarker mk (alignmentLoad mk t s)
    else
      let x := phaseOf (upstreamPs mk t s) s.curN
      let s := auditMarker mk (t.count.toNat + x.1) s
      if s.tck.loadDue then s
      else if mk.n ≠ s.curN ∧ ¬ s.on TCK_PERIOD_NEXT_PENDING ∧ ¬ mk.pending then
        startAlign (s.setFld TCK_STATUS_ALIGN_LOST 1)
      else armFromMarker mk (if up ∧ ¬ s.tck.lost then trackMarker x.2 s else s)

/-- `MARKER_FRAME` (R51, R53 to R59, R63, R702). -/
def execMarkerFrame (mk : Marker) (s : State) : Host.Outcome State Fault Refusal :=
  if ¬ s.portActive mk.port ∨ ¬ s.rootRuns then .next s
  else
    let s := frameIn mk.port s
    if s.fld TCK_CTL_ROLE = 2 then .next s
    else
      let s := syncUpstream (followMarker mk s)
      if s.tck.following then .next (followerMarker mk s) else .next s

/-- `HOLDOVER` (R62): markers stop arriving on the upstream port. The steering stays as it is; at a device that does not
follow, the port no longer names a source (R52). -/
def execHoldover (s : State) : Host.Outcome State Fault Refusal :=
  if s.tck.following then .next (forgetMarkers (s.fld TCK_STATUS_UPSTREAM_PORT) (s.setFld TCK_STATUS_HOLDOVER 1))
  else match s.upstream with
    | some (p, _) => .next (syncSource (forgetMarkers p s))
    | none => .next s

/-- `HOLDOVER_EXPIRE` (R62, R65): 1 ms without markers. That HOLDOVER is cleared is this model's choice (log entry 192). A
device that now receives no marker of a lower source follows none and acts as source (R52). -/
def execHoldoverExpire (s : State) : Host.Outcome State Fault Refusal :=
  if ¬ s.on TCK_STATUS_HOLDOVER then .next s
  else
    let s := ((loseAlignment s).setFld TCK_STATUS_HOLDOVER 0).setFld TCK_STATUS_ALIGN_LOST 1
    let s := s.modTck (fun t => { t with lost := true })
    let s := syncSource (s.modTck (fun t => { t with following := s.upstream.isSome }))
    .next (raise 0x041 (s.fld TCK_STATUS_UPSTREAM_PORT) s)

/-- `TIME_ALIGN` (R57, R71). -/
def execTimeAlign (p : Packet) (s : State) : Host.Outcome State Fault Refusal :=
  .next (runCommand 0x0802 0 .owner p (fun s =>
    if s.tck.aligning.isSome then endCommand p .busy [] s
    else (startAlign s).modTck (fun t => { t with aligning := some p })) s)

/-- `TIME_ALIGN_TIMEOUT` (R71): no marker arrived within 10 ms. -/
def execTimeAlignTimeout (s : State) : Host.Outcome State Fault Refusal :=
  match s.tck.aligning with
  | some p => .next (endCommand p .busy [] (s.modTck (fun t => { t with aligning := none })))
  | none => .next s

/-- The markers that a source and an aligned device send at a boundary (R54, R55, R565); OFFSET is a free value (log entry
24). -/
def sendMarker (s : State) (p : Nat) : State :=
  if ¬ s.portActive p ∨ s.fld TCK_CTL_ROLE = 2 ∨ ¬ (s.on TCK_STATUS_IS_SOURCE ∨ s.on TCK_STATUS_ALIGNED) then s
  else
    let here := if s.on TCK_STATUS_IS_SOURCE then (0, s.devId) else (s.fld TCK_STATUS_HOPS, s.tck.source)
    let r := s.draw
    let f := sysFrame s frMarker brAll
      [s.tickCount, BitVec.ofNat 64 s.curN, BitVec.ofNat 64 (s.fld TCK_PERIOD_NEXT_NEXT_N),
       BitVec.ofNat 64 (s.fld TCK_PERIOD_NEXT_PENDING), s.tck.armedAt, BitVec.ofNat 64 here.1, BitVec.ofNat 64 here.2, r.1]
    sendFrame true f p (r.2.emit (.tickBlock p (s.tickCount.toNat % 256)))

/-! ### Precision Time Measurement (R65, R66, R71) -/

/-- The function that makes an exchange. -/
def ptmFunction (m : Ident) : Nat := if identClass m = 1 then identIndex m else 0

/-- An exchange may be made by function `f` (R66). -/
def ptmMay (f : Nat) (s : State) : Bool := (s.fn f).busMaster && (s.fn f).ptmEnable

/-- An exchange begins, beside those in progress. -/
def ptmBegin (f : Nat) (cmd : Option Packet) (s : State) : State :=
  (s.modTck (fun t => { t with ptm := t.ptm ++ [(f, cmd)] })).emit (.ptmRequest f)

/-- `TIME_PTM` (R66, R71). -/
def execTimePtm (p : Packet) (s : State) : Host.Outcome State Fault Refusal :=
  .next (runCommand 0x0803 0 .any p (fun s =>
    let f := ptmFunction p.issuer
    if ¬ ptmMay f s then endCommand p .failed [] s else ptmBegin f (some p) s) s)

/-- `PTM_INTERVAL_EXPIRE` (R66): an automatic exchange, or none where function 0 may not make it. -/
def execPtmIntervalExpire (s : State) : Host.Outcome State Fault Refusal :=
  if s.on TCK_CTL_PTM_INTERVAL ∧ ptmMay 0 s then .next (ptmBegin 0 none s) else .next s

/-- `PTM_RESPONSE` (R66): the host time of an instant, which lay `ago` root cycles back. Exchanges end in the order in which
they began (log entry 193). -/
def execPtmResponse (hostNs : Word) (ago : Nat) (s : State) : Host.Outcome State Fault Refusal :=
  match s.tck.ptm with
  | [] => .next s
  | (_, cmd) :: rest =>
    let dev := s.deviceTime - BitVec.ofNat 64 ago
    let s := (s.setReg TCK_PTM_HOST_HOST_NS.off hostNs).setReg TCK_PTM_DEV_DEV_TIME.off dev
    let s := (measured s).modTck (fun t => { t with ptm := rest, ptmValid := true })
    match cmd with
    | some p => .next (endCommand p .ok [hostNs, dev] s)
    | none => .next s

/-- `PTM_TIMEOUT` (R71): the exchange did not complete within 1 ms. -/
def execPtmTimeout (s : State) : Host.Outcome State Fault Refusal :=
  match s.tck.ptm with
  | [] => .next s
  | (_, cmd) :: rest =>
    let s := s.modTck (fun t => { t with ptm := rest })
    match cmd with
    | some p => .next (endCommand p .busy [] s)
    | none => .next s

/-! ### The always-on count and reads of the counters (R32, R33, R68) -/

/-- `AON_CALIBRATION` (R68): 1,024 always-on periods have been measured in root cycles. TCK_AON counts them as time passes
(`countAlwaysOn`). -/
def execAonCalibration (rootCycles : Nat) (s : State) : Host.Outcome State Fault Refusal :=
  if ¬ s.rootRuns then .next s
  else .next (s.setFld TCK_AON_CAL_ROOT_PER_1024 rootCycles)

/-- A 64-bit read of TCK_COUNT (R32). -/
def countReadEffect (m : Ident) (s : State) : State :=
  let s := match slotOf m with
    | some n => (s.setMfld TCK_SNAP_TIME_TIME n (s.fld DEVICE_TIME_TIME)).setMfld TCK_SNAP_PHASE_PHASE n s.tck.phase
    | none => s
  s.emit (.answer m s.tickCount)

/-- `TCK_COUNT_READ` (R32). -/
def execTckCountRead (m : Ident) (s : State) : Host.Outcome State Fault Refusal :=
  .next (readFront m TCK_COUNT_COUNT.off .full (countReadEffect m) s)

/-- The register of a half-capture: DEVICE_TIME or TCK_COUNT. -/
def halfField (time : Bool) : Field := if time then DEVICE_TIME_TIME else TCK_COUNT_COUNT

/-- A 32-bit read of TCK_COUNT or DEVICE_TIME (R33): the low half captures the whole register for its reader, and that
reader's next read of the high half returns what was captured. -/
def halfReadEffect (m : Ident) (time : Bool) (h : Half) (s : State) : State :=
  let v := s.reg (halfField time).off
  let mine := fun (c : Nat × Bool × Word) => decide (some c.1 = slotOf m ∧ c.2.1 = time)
  match h with
  | .full => s.emit (.answer m v)
  | .low =>
    let s := match slotOf m with
      | some n => s.modTck (fun t => { t with captured := (n, time, v) :: t.captured.filter (fun c => !mine c) })
      | none => s
    s.emit (.answer m (v &&& Half.low.mask))
  | .high =>
    match s.tck.captured.find? mine with
    | some c =>
      (s.modTck (fun t => { t with captured := t.captured.filter (fun c => !mine c) })).emit (.answer m (c.2.2 &&& Half.high.mask))
    | none => s.emit (.answer m (v &&& Half.high.mask))

/-- `HALF_CAPTURE_READ` (R33). -/
def execHalfCaptureRead (m : Ident) (time : Bool) (h : Half) (s : State) : Host.Outcome State Fault Refusal :=
  .next (readFront m (halfField time).off h (halfReadEffect m time h) s)

end Sys2Proof.Machine
end

