-- ==== Sys2Proof/Machine/Boundary.lean ====
section
/-! DEFINITION. The tick boundary (R30, R43): the audits of the boundary epoch, the counters, the changes that take effect
together in the order of R43, and the first work of the new tick; and the passing of time while no command waits. -/

namespace Sys2Proof.Machine

/-- The audits of the boundary epoch, on the values held at its start (R114, R162, R489, R613, R681, R682). -/
def boundaryAudits (s : State) : State := dramAudit (dmaAudit (mailboxAudit (creditAudit (contextAudits s))))

/-- A tick in which an aligned or tracking follower heard no upstream marker is counted (R54, R62, R63). -/
def countMarkers (s : State) : State :=
  let s := if s.tck.following ∧ ¬ s.tck.loadDue ∧ ¬ s.tck.lost ∧ ¬ s.tck.heard then s.addFld TCK_AUDIT_MARKERS_LOST 1 else s
  s.modTck (fun t => { t with heard := false })

/-- TCK_UNCERT grows by 2 % of the elapsed time in coast and by 1.5 % on the kindling oscillator (R67), over `k` root
cycles: 4 and 3 parts of 1/1,920 ns a cycle. -/
def growUncertainty (k : Nat) (s : State) : State :=
  let rate := match s.fld CLK_STATUS_ROOT with | 2 => 4 | 3 => 3 | _ => 0
  if rate = 0 then s
  else
    let x := s.tck.uncertRem + rate * k
    (if x / 1920 = 0 then s else s.addFld TCK_UNCERT_UNCERT_NS (x / 1920)).modTck (fun t => { t with uncertRem := x % 1920 })

/-- TCK_AON counts the always-on periods of `k` root cycles (R68), each of the length last measured (log entry 187). -/
def countAlwaysOn (k : Nat) (s : State) : State :=
  let per := max (s.fld TCK_AON_CAL_ROOT_PER_1024) 1
  let x := s.tck.aonRem + 1024 * k
  (if x / per = 0 then s else s.addFld TCK_AON_COUNT (x / per)).modTck (fun t => { t with aonRem := x % per })

/-- OWN_STATUS.LEASE_LEFT_MS counts down every ms, 9,600,000 root cycles, to 0 (R603, log entry 162). -/
def countLease (k : Nat) (s : State) : State :=
  let x := s.tck.msRem + k
  (if x / 9600000 = 0 then s
    else s.setFld OWN_STATUS_LEASE_LEFT_MS (s.fld OWN_STATUS_LEASE_LEFT_MS - x / 9600000)).modTck (fun t => { t with msRem := x % 9600000 })

/-- `k` root cycles pass: the fabric's clocks, TCK_UNCERT, TCK_AON, the lease and DEVICE_TIME (R30, R67, R68, R603). -/
def passTime (k : Nat) (s : State) : State :=
  (countLease k (countAlwaysOn k (growUncertainty k (passFabric k s)))).addFld DEVICE_TIME_TIME k

/-- DEVICE_TIME reaches the boundary, TCK_COUNT increments, a lengthened tick is over (R30, R57), and the pulse ends a lost
tick (R689). -/
def tickPulse (s : State) : State :=
  let s := (passTime (s.tickLen - s.tck.phase) s).addFld TCK_COUNT_COUNT 1
  let s := s.modTck (fun t => { t with ticks := t.ticks + 1, phase := 0, span := none })
  let s := { s with logic := { s.logic with boundary := s.logic.clock } }
  if s.on FLT_STATUS_TICK_LOST then emberCheck (s.setFld FLT_STATUS_TICK_LOST 0) else s

/-- A group at a boundary (R43 step 6): mode, vector period, and stream start. A restart of the vector clock is a vector
boundary (R178); in SAFE the vector clock is stopped (R213). -/
def groupAtBoundary (s : State) (g : Nat) : State :=
  let old := s.mode g
  let period := (s.periodTurn g).isSome
  let s := periodAtBoundary g (modeAtBoundary g s)
  let s := if s.mode g ≠ mdSafe ∧ (s.mode g ≠ old ∨ period) then loadEdges g s else s
  streamAtBoundary g s

/-- The changes pending at the boundary, in the order of R43. -/
def boundaryChanges (s : State) : State :=
  let s := epochAtBoundary (periodChange s)
  let s := dampersAtBoundary (startAtBoundary (loadAtBoundary s))
  let s := (List.range 4).foldl (fun s c => dramAtBoundary c s) s
  let s := (List.range 24).foldl fclkAtBoundary s
  (List.range 128).foldl groupAtBoundary (powerAtBoundary s)

/-- A tick that ends with carried work counts once (R39); a frame job still running at the pulse is carried work of the
tick that ends (R292, R293). -/
def noteLateTick (s : State) : State :=
  let s := if s.tck.late then (s.addFld TCK_LATE_TICKS_COUNT 1).setFld TCK_STATUS_LATE 1 else s
  s.modTck (fun t => { t with late := false })

/-- The first work of the new tick: frame jobs, visits, calibration windows, TDR shots, markers. -/
def boundaryWork (balls : List (Nat × Int)) (s : State) : State :=
  let s := noteLateTick ((List.range 32).foldl (fun s e => frameAtBoundary e s) s)
  let s := calAtBoundary (admitTick s)
  let s := (List.range 128).foldl (fun s g => tdrBoundary g (((balls.find? (fun b => decide (b.1 = g))).map Prod.snd).getD 0) s) s
  sendReady ((List.range 4).foldl sendMarker (syncSource s))

/-- `TICK_BOUNDARY` (R43): the boundary of the present tick; `balls` are the ball voltages in nV that groups' TDR strobes
sampled in the tick that ends (R237), 0 where a group is not named. A device whose root does not run has no boundary. -/
def execTickBoundary (balls : List (Nat × Int)) (s : State) : Host.Outcome State Fault Refusal :=
  if ¬ s.rootRuns then .next s
  else .next (boundaryWork balls (boundaryChanges (tickPulse (countMarkers (publishVisits (boundaryAudits s))))))

/-! ### Time while no command waits (log entry 1) -/

/-- One root cycle passes (R30): DEVICE_TIME, TCK_AON and the cycles since the last boundary count, up to the tick's last cycle,
where the next event is TICK_BOUNDARY; at channel cycle 8 × N, root cycle 96 × N, TDR shots fall (R237). While the root
does not run, nothing counts. -/
def idleCycle (s : State) : State :=
  if s.rootRuns ∧ s.tck.phase + 1 < s.tickLen then
    let s := (passTime 1 s).modTck (fun t => { t with phase := t.phase + 1 })
    if s.tck.phase = 96 * s.curN then (List.range 128).foldl tdrFall s else s
  else s

end Sys2Proof.Machine
end

