-- ==== Sys2Proof/Machine/Serial.lean ====
section
/-! DEFINITION. The serial ports (R344 to R353): modes, FIFOs, UART, SPI, I²C and CAN FD. -/

namespace Sys2Proof.Machine

/-- A port's state. -/
def State.port (s : State) (n : Nat) : SerPort := Memory.get (fun _ => SerPort.reset) s.ser n

/-- The mode in effect. -/
def State.serMode (s : State) (n : Nat) : Nat := s.fld SER_CTL_MODE n

/-- SER_STATUS levels follow the port. -/
def syncPort (n : Nat) (s : State) : State :=
  let p := s.port n
  let can := decide (s.serMode n = 6)
  let s := s.setFld SER_STATUS_TX_LEVEL (if can then p.canTx.length else p.tx.length) n
  s.setFld SER_STATUS_RX_LEVEL (if can then p.canRx.length else p.rx.length) n

/-- The state with a port changed. -/
def State.modSer (s : State) (n : Nat) (f : SerPort → SerPort) : State :=
  syncPort n { s with ser := Memory.set (fun _ => SerPort.reset) s.ser n (f (s.port n)) }

/-- The master may write the port's registers (R346); with MASK 0 only the owner writes. -/
def serMayWrite (m : Ident) (n : Nat) (s : State) : Bool :=
  s.isOwner m || (s.on SER_ASSIGN_MASK n && identMatches m (s.fld SER_ASSIGN_MATCH n) (s.fld SER_ASSIGN_MASK n))

/-- A write to a register that R346 guards. -/
def serFront (m : Ident) (n : Nat) (off : Nat) (h : Half) (eff : State → State) (s : State) : State :=
  writeFront m off h .restricted (fun s => if serMayWrite m n s then eff s else violation m .area true (off + h.skip) s) s

/-! ### Modes (R344, R345) -/

/-- The value a written SER_CTL takes apart from MODE: a write of PARITY 3 acts as 0, of I2C_SPEED 3 as 2. -/
def serCtlValue (v : Word) : Word :=
  let v := if bits v 10 2 = 3 then setBits v 10 2 0 else v
  if bits v 29 2 = 3 then setBits v 29 2 2 else v

/-- A write to SER_CTL: every field but MODE takes its value; a new MODE other than 7 waits (R345). -/
def serCtlEffect (n : Nat) (h : Half) (data : Word) (s : State) : State :=
  if h = .high then s
  else
    let key := SER_CTL_MODE.key n 0 0
    let old := s.reg key
    let v := serCtlValue (setBits (data &&& 0x7FFFFFFF) 0 3 (bits old 0 3))
    let s := s.setReg key v
    let mode := bits data 0 3
    if mode = 7 then s
    else s.modSer n (fun p => { p with pendMode := if mode = bits old 0 3 then none else some mode })

/-- `SER_MODE_WRITE` (R345). -/
def execSerModeWrite (m : Ident) (n : Fin 16) (h : Half) (data : Word) (s : State) : Host.Outcome State Fault Refusal :=
  .next (serFront m n (SER_CTL_MODE.key n 0 0) h (serCtlEffect n h data) s)

/-- `SER_MODE_APPLY` (R345): both FIFOs empty and the protocol state is reset. -/
def execSerModeApply (n : Fin 16) (s : State) : Host.Outcome State Fault Refusal :=
  match (s.port n).pendMode with
  | none => .next s
  | some mode =>
    let s := s.setFld SER_CTL_MODE mode n
    let s := ((s.setFld SER_STATUS_TEC 0 n).setFld SER_STATUS_REC 0 n).setFld SER_STATUS_BUS_OFF 0 n
    .next (s.modSer n (fun _ => SerPort.reset))

/-! ### FIFOs (R347) and CAN frames (R353) -/

/-- A received entry joins the receive FIFO, or is discarded and counted. -/
def serReceive (n : Nat) (x : SerEntry) (s : State) : State :=
  if 64 ≤ (s.port n).rx.length then s.setFld SER_STATUS_RX_OVF 1 n
  else s.modSer n (fun p => { p with rx := p.rx ++ [x] })

/-- The data bytes of a CAN frame by its header (R353): none in a remote frame, at most 8 in classical format. -/
def canBytes (header : Word) : Nat :=
  let dlc := bits header 33 4
  if bit header 32 ∧ ¬ bit header 30 then 0
  else if dlc ≤ 8 then dlc
  else if ¬ bit header 30 then 8
  else match dlc with | 9 => 12 | 10 => 16 | 11 => 20 | 12 => 24 | 13 => 32 | 14 => 48 | _ => 64

/-- 64-bit words of a list of halves, low half first. -/
def wordsOfHalves : List (BitVec 32) → List Word
  | a :: b :: r => (a.setWidth 64 ||| (b.setWidth 64) <<< 32) :: wordsOfHalves r
  | _ => []

/-- An entry written in CANFD mode; LAST completes the frame. -/
def canEntry (n : Nat) (x : SerEntry) (s : State) : State :=
  let l := (s.port n).build ++ [x.data]
  if ¬ x.last then s.modSer n (fun p => { p with build := l })
  else
    let s := s.modSer n (fun p => { p with build := [] })
    let ws := wordsOfHalves l
    if l.length ≠ 2 * (2 + (canBytes (ws.headD 0) + 7) / 8) then s.setFld SER_STATUS_TX_BAD 1 n
    else if 16 ≤ (s.port n).canTx.length then s.setFld SER_STATUS_TX_OVF 1 n
    else s.modSer n (fun p => { p with canTx := p.canTx ++ [ws] })

/-- The entry a write of SER_TX carries. -/
def serEntryOf (h : Half) (data : Word) : SerEntry :=
  let d := data &&& h.mask
  { data := d.setWidth 32, brk := bit d 32, perr := false, ferr := false, hold := bit d 33, last := bit d 34 }

/-- A write to SER_TX. -/
def serTxEffect (n : Nat) (h : Half) (data : Word) (s : State) : State :=
  let x := serEntryOf h data
  if s.serMode n = 0 then s
  else if s.serMode n = 6 then canEntry n x s
  else if 64 ≤ (s.port n).tx.length then s.setFld SER_STATUS_TX_OVF 1 n
  else s.modSer n (fun p => { p with tx := p.tx ++ [x] })

/-- `SER_TX_WRITE` (R347, R353). -/
def execSerTxWrite (m : Ident) (n : Fin 16) (h : Half) (data : Word) (s : State) : Host.Outcome State Fault Refusal :=
  .next (serFront m n (SER_TX_DATA.key n 0 0) h (serTxEffect n h data) s)

/-- SER_RX as a read of a received entry returns it. -/
def serRxWord (x : SerEntry) : Word :=
  mkWord [(0, 32, x.data.toNat), (32, 1, bnat x.brk), (33, 1, bnat x.perr), (34, 1, bnat x.ferr), (63, 1, 1)]

/-- The half of a received CAN frame that a read takes: FRAME_END with the last half. -/
def canRxWord (ws : List Word) (k : Nat) : Word :=
  let v := ws.getD (k / 2) 0
  mkWord [(0, 32, if k % 2 = 0 then bits v 0 32 else bits v 32 32), (35, 1, bnat (decide (k + 1 = 2 * ws.length))),
    (63, 1, 1)]

/-- A read of SER_RX takes one entry (R347); in CANFD mode, one half of a frame word (R353). -/
def serRxEffect (m : Ident) (n : Nat) (h : Half) (s : State) : State :=
  let p := s.port n
  if s.serMode n = 6 then
    match p.canRx with
    | [] => s.emit (.answer m 0)
    | ws :: r =>
      let k := p.readHalves
      let s := s.emit (.answer m (canRxWord ws k &&& h.mask))
      if k + 1 = 2 * ws.length then s.modSer n (fun p => { p with canRx := r, readHalves := 0 })
      else s.modSer n (fun p => { p with readHalves := k + 1 })
  else
    match p.rx with
    | [] => s.emit (.answer m 0)
    | x :: r => (s.emit (.answer m (serRxWord x &&& h.mask))).modSer n (fun p => { p with rx := r })

/-- `SER_RX_READ` (R347). -/
def execSerRxRead (m : Ident) (n : Fin 16) (h : Half) (s : State) : Host.Outcome State Fault Refusal :=
  .next (readFront m (SER_RX_DATA.key n 0 0) h (serRxEffect m n h) s)

/-! ### UART (R348, R349) -/

/-- The word width in bits: WIDTH + 1, brought into the mode's range. -/
def serWidth (lo hi n : Nat) (s : State) : Nat := 1 + max lo (min hi (s.fld SER_CTL_WIDTH n))

/-- The low `w` bits of a 32-bit word. -/
def low32 (w : Nat) (v : BitVec 32) : BitVec 32 := BitVec.ofNat 32 (v.toNat % 2 ^ w)

/-- The majority of the three samples of a bit (R348). -/
def majority (x : Bool × Bool × Bool) : Bool := (x.1 && x.2.1) || (x.1 && x.2.2) || (x.2.1 && x.2.2)

/-- The XOR of levels. -/
def xorAll : List Bool → Bool
  | [] => false
  | b :: r => xor b (xorAll r)

/-- The number that levels spell, lowest bit first. -/
def lineValue : List Bool → Nat
  | [] => 0
  | b :: r => bnat b + 2 * lineValue r

/-- The parity bit of data bits: PARITY 1 even, 2 odd (R348). -/
def parityOf (odd : Bool) (l : List Bool) : Bool := xor odd (xorAll l)

/-- The entry of a received frame (R348): the samples are those of the bits after the start bit; the line is high after them. -/
def uartEntry (n : Nat) (line : List (Bool × Bool × Bool)) (s : State) : SerEntry :=
  let w := serWidth 4 8 n s
  let level (k : Nat) : Bool := (line.map majority).getD k true
  let data := (List.range w).map level
  let p := s.fld SER_CTL_PARITY n
  let first := if p = 0 then w else w + 1
  { data := BitVec.ofNat 32 (lineValue data), brk := false
    perr := decide (p ≠ 0) && (level w != parityOf (decide (p = 2)) data)
    ferr := !(level first && (!s.on SER_CTL_STOP2 n || level (first + 1)))
    hold := false, last := false }

/-- `UART_FRAME_RECEIVE` (R348, R349): the samples of a frame's bits, and the bit times of dominant level since its start: from
11 on the receiver reports a break. -/
def execUartFrameReceive (n : Fin 16) (line : List (Bool × Bool × Bool)) (low : Nat) (s : State) :
    Host.Outcome State Fault Refusal :=
  if s.serMode n ≠ 1 then .next s
  else if 11 ≤ low then .next (serReceive n ⟨0, true, false, false, false, false⟩ s)
  else .next (serReceive n (uartEntry n line s) s)

/-- The mode whose signals a port drives: none while the outputs are halted, when transmission is paused (R679). -/
def State.serOut (s : State) (n : Nat) : Nat := if s.on FLT_STATUS_HALTED then 0 else s.serMode n

/-- The levels of an entry's frame: a LIN break with its delimiter (R349), or start bit, data, parity and stop bits
(R348). -/
def uartLine (n : Nat) (x : SerEntry) (s : State) : List Bool :=
  if x.brk then List.replicate (13 + min 7 (s.fld SER_CTL_BRK_LEN n)) false ++ [true]
  else
    let data := (List.range (serWidth 4 8 n s)).map (fun k => x.data.getLsbD k)
    let p := s.fld SER_CTL_PARITY n
    false :: data ++ (if p = 0 then [] else [parityOf (decide (p = 2)) data])
      ++ (if s.on SER_CTL_STOP2 n then [true, true] else [true])

/-- The bit time of a UART in 0.15625 ns (R348). -/
def uartBit (n : Nat) (s : State) : Nat := max 1024 (s.fld SER_DIV_DIV n)

/-- `UART_FRAME_SEND` (R348, R349): the oldest entry leaves; with FLOW only while CTS is asserted (`cts`). -/
def execUartFrameSend (n : Fin 16) (cts : Bool) (s : State) : Host.Outcome State Fault Refusal :=
  match s.serOut n, (s.port n).tx with
  | 1, x :: r =>
    if s.on SER_CTL_FLOW n ∧ ¬ cts then .next s
    else .next ((s.emit (.uart n (uartLine n x s) (uartBit n s))).modSer n (fun p => { p with tx := r }))
  | _, _ => .next s

/-! ### SPI (R350) and I²C (R351) -/

/-- A plain received entry. -/
def rxEntry (d : BitVec 32) : SerEntry := { data := d, brk := false, perr := false, ferr := false, hold := false, last := false }

/-- The low `w` bits of a word, most significant first (R350). -/
def bitsDown (w : Nat) (d : BitVec 32) : List Bool := (List.range w).map (fun k => d.getLsbD (w - 1 - k))

/-- SCK and MOSI in each half period of a transfer (R350): SCK idles at CPOL; with CPHA 0 a bit stands before SCK's first edge,
with CPHA 1 it changes at that edge (log entry 82). -/
def spiHalves (cpol cpha : Bool) (l : List Bool) : List (Bool × Bool) :=
  l.flatMap (fun b => if cpha then [(!cpol, b), (cpol, b)] else [(cpol, b), (!cpol, b)])

/-- Half a period of SCK in cycles of 400 MHz (R350). -/
def spiHalf (n : Nat) (s : State) : Nat := min 65535 (max 3 (s.fld SER_DIV_DIV n)) + 1

/-- `SPI_TRANSFER` (R350): one word each way. A target with no entry sends zeros and sets TX_UNDER. -/
def execSpiTransfer (n : Fin 16) (input : BitVec 32) (s : State) : Host.Outcome State Fault Refusal :=
  let w := serWidth 7 31 n s
  let got (s : State) : State := serReceive n (rxEntry (low32 w input)) s
  match s.serOut n, (s.port n).tx with
  | 2, x :: r =>
    let o : Out := .spi n (spiHalves (s.on SER_CTL_CPOL n) (s.on SER_CTL_CPHA n) (bitsDown w x.data)) (spiHalf n s) x.hold
    .next (got ((s.emit o).modSer n (fun p => { p with tx := r, held := x.hold, lastBit := x.data.getLsbD 0 })))
  | 3, x :: r =>
    .next (got ((s.emit (.spiReply n (bitsDown w x.data))).modSer n (fun p => { p with tx := r, lastBit := x.data.getLsbD 0 })))
  | 3, [] =>
    .next (got (((s.emit (.spiReply n (List.replicate w false))).setFld SER_STATUS_TX_UNDER 1 n).modSer n
      (fun p => { p with lastBit := false })))
  | _, _ => .next s

/-- The bus clock of I2C_SPEED in kHz (R351). -/
def i2cKhz (n : Nat) (s : State) : Nat := match s.fld SER_CTL_I2C_SPEED n with | 0 => 100 | 1 => 400 | _ => 1000

/-- The port takes part in a transfer to an address (R351): a controller in any, a target in one to SER_CTL.ADDR, of 7 or 10
bits. -/
def i2cTakes (n addr : Nat) (s : State) : Bool :=
  decide (s.serOut n = 4) || (decide (s.serOut n = 5) &&
    decide (addr = s.fld SER_CTL_ADDR n % (if s.on SER_CTL_ADDR10 n then 1024 else 128)))

/-- `I2C_TRANSFER` (R351): a transfer to an address: the entries sent and the bytes received before it ended, and how it
ended. A controller follows an entry with HOLD by a repeated start in place of a stop. -/
def execI2cTransfer (n : Fin 16) (addr sent : Nat) (received : List (BitVec 8)) (last : I2cEnd) (s : State) :
    Host.Outcome State Fault Refusal :=
  if ¬ i2cTakes n addr s then .next s
  else
    let controller := decide (s.serOut n = 4)
    let out := (s.port n).tx.take sent
    let held := controller && decide (last = .complete) && (out.getLast?.any (fun x => x.hold))
    let o : Out := .i2c n (s.port n).held (out.map (·.data)) (controller && !held && decide (last ≠ .arbLost)) (i2cKhz n s)
    let s := (s.emit o).modSer n (fun p => { p with tx := p.tx.drop sent, held := held })
    let s := received.foldl (fun s b => serReceive n (rxEntry (b.setWidth 32)) s) s
    match last with
    | .complete => .next s
    | .nack => .next (if controller then s.setFld SER_STATUS_NACK 1 n else s)
    | .arbLost => .next (if controller then s.setFld SER_STATUS_ARB_LOST 1 n else s)

/-! ### CAN FD (R352, R353) -/

/-- A filter accepts an identifier: enabled, of its kind, and equal under the mask. -/
def canMatches (n j : Nat) (header : Word) (s : State) : Bool :=
  s.on SER_CAN_FILTERj_EN n j && decide (s.fld SER_CAN_FILTERj_IDE n j = bits header 29 1)
    && decide ((bits header 0 29 ^^^ s.fld SER_CAN_FILTERj_ID n j) &&& s.fld SER_CAN_FILTERj_MASK n j = 0)

/-- The lowest filter that accepts an identifier. -/
def canFilter (n : Nat) (header : Word) (s : State) : Option Nat :=
  (List.range 32).find? (fun j => canMatches n j header s)

/-- The receive error count after a frame without error: down by one, and 127 from the error-passive range. -/
def recAfterGood (r : Nat) : Nat := if r ≤ 127 then r - 1 else 127

/-- The controller is error-passive (R352). -/
def canPassive (n : Nat) (s : State) : Bool := decide (127 < s.fld SER_STATUS_TEC n ∨ 127 < s.fld SER_STATUS_REC n)

/-- A bus-off controller is back on the bus, its counters zero, after 128 sequences of 11 recessive bits (R352). -/
def canRecover (n recessive : Nat) (s : State) : State :=
  if s.on SER_STATUS_BUS_OFF n ∧ 128 ≤ recessive then
    ((s.setFld SER_STATUS_BUS_OFF 0 n).setFld SER_STATUS_TEC 0 n).setFld SER_STATUS_REC 0 n
  else s

/-- The receive error count after an error (R352). -/
def recAfter (r : Nat) : CanFault → Nat
  | .none => recAfterGood r
  | .error => min 255 (r + 1)
  | .dominant => min 255 (r + 8)

/-- A frame without error is kept with the number of the accepting filter when a filter matches and fewer than 32 are kept. -/
def canKeep (n : Nat) (header : Word) (time : Word) (body : List Word) (s : State) : State :=
  match canFilter n header s with
  | none => s
  | some j =>
    if 32 ≤ (s.port n).canRx.length then s.setFld SER_STATUS_RX_OVF 1 n
    else
      let ws := mkWord [(0, 38, bits header 0 38), (40, 8, j)] :: time
        :: (List.range ((canBytes header + 7) / 8)).map (fun k => body.getD k 0)
      s.modSer n (fun p => { p with canRx := p.canRx ++ [ws] })

/-- `CAN_FRAME_RECEIVE` (R352, R353): a frame whose start-of-frame bit was sampled `age` root cycles ago, after `recessive`
sequences of 11 recessive bits since the controller went bus-off. -/
def execCanFrameReceive (n : Fin 16) (header : Word) (age : Nat) (body : List Word) (recessive : Nat) (fault : CanFault)
    (s : State) : Host.Outcome State Fault Refusal :=
  if s.serMode n ≠ 6 then .next s
  else
    let s := canRecover n recessive s
    if s.on SER_STATUS_BUS_OFF n then .next s
    else
      let t := s.setFld SER_STATUS_REC (recAfter (s.fld SER_STATUS_REC n) fault) n
      if fault ≠ .none then .next t
      else .next (canKeep n header (BitVec.ofNat 64 (s.fld DEVICE_TIME_TIME) - BitVec.ofNat 64 age) body t)

/-- The priority of a frame on the bus: base identifier, then base before extended, then the extension. -/
def canPriority (ws : List Word) : Nat :=
  let h := ws.headD 0
  bits h 18 11 * 2 ^ 19 + (if bit h 29 then 2 ^ 18 + bits h 0 18 else 0)

/-- The queued frame of highest priority; of equal identifiers, the one queued first. -/
def canBest : List (List Word) → Option (List Word)
  | [] => none
  | f :: r =>
    match canBest r with
    | none => some f
    | some g => if canPriority g < canPriority f then some g else some f

/-- The bit timings of SER_CAN_BIT (R352). -/
def canNominal (n : Nat) (s : State) : CanTiming :=
  { quantum := s.fld SER_CAN_BIT_NBRP n + 1, seg1 := s.fld SER_CAN_BIT_NSEG1 n + 1, seg2 := s.fld SER_CAN_BIT_NSEG2 n + 1
    jump := s.fld SER_CAN_BIT_NSJW n + 1 }
def canFast (n : Nat) (s : State) : CanTiming :=
  { quantum := s.fld SER_CAN_BIT_DBRP n + 1, seg1 := s.fld SER_CAN_BIT_DSEG1 n + 1, seg2 := s.fld SER_CAN_BIT_DSEG2 n + 1
    jump := s.fld SER_CAN_BIT_DSJW n + 1 }

/-- What the bus carries of a queued frame: its data phase at the faster rate under FDF and BRS, and ESI of an error-passive
controller in a CAN FD frame (R352). -/
def canOnBus (n : Nat) (f : List Word) (s : State) : Out :=
  let h := f.headD 0
  .can n f (canNominal n s) (if bit h 30 ∧ bit h 31 then some (canFast n s, s.fld SER_CAN_BIT_TDCO n) else none)
    (bit h 30 && canPassive n s)

/-- The transmit error count rises by 8; beyond 255 the controller is bus-off (R352). -/
def canSendError (n : Nat) (s : State) : State :=
  let t := s.fld SER_STATUS_TEC n + 8
  if 255 < t then (s.setFld SER_STATUS_TEC 255 n).setFld SER_STATUS_BUS_OFF 1 n else s.setFld SER_STATUS_TEC t n

/-- `CAN_FRAME_SEND` (R352, R353): the frame of highest priority is sent, loses arbitration and stays, or meets an error. A
missing acknowledge that no other node answers does not count while the controller is error-passive. -/
def execCanFrameSend (n : Fin 16) (recessive : Nat) (last : CanEnd) (s : State) : Host.Outcome State Fault Refusal :=
  if s.serOut n ≠ 6 then .next s
  else
    let s := canRecover n recessive s
    if s.on SER_STATUS_BUS_OFF n then .next s
    else match canBest (s.port n).canTx with
      | none => .next s
      | some f =>
        match last with
        | .sent =>
          .next (((s.emit (canOnBus n f s)).setFld SER_STATUS_TEC (s.fld SER_STATUS_TEC n - 1) n).modSer n
            (fun p => { p with canTx := dropFirst f p.canTx }))
        | .lost => .next s
        | .unheard => .next (if canPassive n s then s else canSendError n s)
        | .error => .next (canSendError n s)

/-! ### The signals (R344) -/

/-- The level of signal `i` of a port between transfers, CS as a target sees it being `cs` (R344); RTS is asserted, low, while
the receive FIFO has room, and STBY is low in CANFD mode (log entry 82). -/
def State.serPin (s : State) (n i : Nat) (cs : Bool) : SerPin :=
  let p := s.port n
  let driven (b : Bool) : SerPin := if b then .high else .low
  match s.serOut n, i with
  | 1, 0 => .high
  | 1, 1 => .input
  | 1, 2 => if s.on SER_CTL_FLOW n then driven (decide (64 ≤ p.rx.length)) else .pullUp
  | 1, 3 => if s.on SER_CTL_FLOW n then .input else .pullUp
  | 2, 0 => driven (s.on SER_CTL_CPOL n)
  | 2, 1 => driven p.lastBit
  | 2, 2 => .input
  | 2, 3 => driven (!p.held)
  | 3, 2 => if cs then .float else driven p.lastBit
  | 3, _ => .input
  | 4, 0 => if p.held then .low else .released
  | 4, 1 => .released
  | 5, 0 => .released
  | 5, 1 => .released
  | 6, 0 => .high
  | 6, 1 => .input
  | 6, 2 => .low
  | _, _ => .pullUp

end Sys2Proof.Machine
end

