-- ==== Sys2Proof/Machine/SgeInstr.lean ====
section
/-! DEFINITION. The instructions of the signal engines (R272 to R283, R286, R290, R296). -/

namespace Sys2Proof.Machine

/-! ### Arithmetic in the class of the destination (R272, R273) -/

/-- The register is of class D, AC or PT. -/
def isD (r : Nat) : Bool := decide (regClass r = .d)
def isAc (r : Nat) : Bool := decide (regClass r = .ac)

/-- AC numbers written by an operation with destination `r`. -/
def acDest (r : Nat) : List Nat := if isAc r then [r] else []

/-- The bank after `f` of the sources is written to `rd` in its class, and whether V was set; none where a source is an
AC and the destination is not. -/
def arith (b : SgeBank) (rd : Nat) (sources : List Nat) (f : (Nat → Int) → Int) : Option (SgeBank × Bool) :=
  match regClass rd with
  | .d => if sources.any isAc then none else some (b.flag24 rd (f b.int24))
  | .ac => some (b.flag56 (rd - 16) (f b.int56))
  | .pt => if sources.any isAc then none else some (b.putPt (rd - 24) (to14 (f b.int14)), false)

/-- An operation of `arith` as an instruction's result. -/
def arithRes (e rd : Nat) (sources : List Nat) (f : (Nat → Int) → Int) (s : State) : SgeRes :=
  match arith (s.bank e) rd sources f with
  | none => .illegal
  | some (b, v) => .fin (s.setBank e b) sources [] (acDest rd) 1 v false none

/-- `NOP`. -/
def execNop (e : Fin 32) (s : State) : Host.Outcome State Fault Refusal :=
  .next (issue e 0x00 (fun _ s => .plain s []) s)

/-- `ADD`: RD = RA + RB. -/
def execAdd (e : Fin 32) (s : State) : Host.Outcome State Fault Refusal :=
  .next (issue e 0x01 (fun w s => arithRes e (rdOf w) [raOf w, rbOf w] (fun v => v (raOf w) + v (rbOf w)) s) s)

/-- `SUB`: RD = RA − RB. -/
def execSub (e : Fin 32) (s : State) : Host.Outcome State Fault Refusal :=
  .next (issue e 0x02 (fun w s => arithRes e (rdOf w) [raOf w, rbOf w] (fun v => v (raOf w) - v (rbOf w)) s) s)

/-- A logic operation on D registers. -/
def logicRes (e : Nat) (w : BitVec 32) (f : BitVec 24 → BitVec 24 → BitVec 24) (s : State) : SgeRes :=
  if isD (rdOf w) && isD (raOf w) && isD (rbOf w) then
    let b := s.bank e
    .plain (s.setBank e (b.flagNZ (rdOf w) (f (b.getD (raOf w)) (b.getD (rbOf w))))) [raOf w, rbOf w]
  else .illegal

/-- `AND`. -/
def execAnd (e : Fin 32) (s : State) : Host.Outcome State Fault Refusal :=
  .next (issue e 0x03 (fun w s => logicRes e w (fun x y => x &&& y) s) s)

/-- `OR`. -/
def execOr (e : Fin 32) (s : State) : Host.Outcome State Fault Refusal :=
  .next (issue e 0x04 (fun w s => logicRes e w (fun x y => x ||| y) s) s)

/-- `XOR`. -/
def execXor (e : Fin 32) (s : State) : Host.Outcome State Fault Refusal :=
  .next (issue e 0x05 (fun w s => logicRes e w (fun x y => x ^^^ y) s) s)

/-- An arithmetic shift, positive to the left, the count clamped to ±63. -/
def shiftBy (x n : Int) : Int :=
  let n := max (-63) (min 63 n)
  if 0 ≤ n then x * 2 ^ n.toNat else x / 2 ^ (-n).toNat

/-- `ASH`: RD = RA shifted by RB. -/
def execAsh (e : Fin 32) (s : State) : Host.Outcome State Fault Refusal :=
  .next (issue e 0x06 (fun w s => arithRes e (rdOf w) [raOf w, rbOf w]
    (fun v => shiftBy (v (raOf w)) ((s.bank e).int24 (rbOf w))) s) s)

/-- `ABS`: RD = |RA|. -/
def execAbs (e : Fin 32) (s : State) : Host.Outcome State Fault Refusal :=
  .next (issue e 0x07 (fun w s => arithRes e (rdOf w) [raOf w] (fun v => ((v (raOf w)).natAbs : Int)) s) s)

/-- What `CMP` does: flags from RA − RB, in 56 bits when an operand is an AC. -/
def cmpRes (e : Nat) (w : BitVec 32) (s : State) : SgeRes :=
  let b := s.bank e
  let ra := raOf w
  let rb := rbOf w
  if rdOf w ≠ 0 then .illegal
  else
    let r := if isAc ra || isAc rb then b.only56 (b.int56 ra - b.int56 rb) else b.only24 (b.int24 ra - b.int24 rb)
    .plain (s.setBank e r.1) [ra, rb] r.2

/-- `CMP`. -/
def execCmp (e : Fin 32) (s : State) : Host.Outcome State Fault Refusal :=
  .next (issue e 0x08 (cmpRes e) s)

/-- `ADDI`: RD = RA + IMM. -/
def execAddi (e : Fin 32) (s : State) : Host.Outcome State Fault Refusal :=
  .next (issue e 0x09 (fun w s => arithRes e (rdOf w) [raOf w] (fun v => v (raOf w) + immOf w) s) s)

/-- What `MOVI` does: IMM sign-extended to the width of RD. -/
def moviRes (e : Nat) (w : BitVec 32) (s : State) : SgeRes :=
  let b := s.bank e
  let rd := rdOf w
  if raOf w ≠ 0 then .illegal
  else match regClass rd with
    | .d => .plain (s.setBank e (b.flagNZ rd (to24 (immOf w)))) []
    | .ac =>
      .fin (s.setBank e { b.putAc (rd - 16) (to56 (immOf w)) with
        sr := srNZ b.sr (decide (immOf w < 0)) (decide (immOf w = 0)) }) [] [] [rd] 1 false false none
    | .pt => .plain (s.setBank e (b.putPt (rd - 24) (to14 (immOf w)))) []

/-- `MOVI`. -/
def execMovi (e : Fin 32) (s : State) : Host.Outcome State Fault Refusal :=
  .next (issue e 0x0A (moviRes e) s)

/-- What `LUI` does: RD = IMM × 256. -/
def luiRes (e : Nat) (w : BitVec 32) (s : State) : SgeRes :=
  if raOf w ≠ 0 ∨ ¬ isD (rdOf w) then .illegal
  else .plain (s.setBank e ((s.bank e).flagNZ (rdOf w) (to24 (immOf w * 256)))) []

/-- `LUI`. -/
def execLui (e : Fin 32) (s : State) : Host.Outcome State Fault Refusal :=
  .next (issue e 0x0B (luiRes e) s)

/-! ### Products (R274, R275) and rounding (R276) -/

/-- The product of two D registers under FRAC. -/
def SgeBank.prod (b : SgeBank) (ra rb : Nat) : Int :=
  product (bit b.sr srFRAC) (b.getD ra).toInt (b.getD rb).toInt

/-- ACd = k × ACd + f(product). -/
def multRes (e : Nat) (w : BitVec 32) (keep : Bool) (sub : Bool) (s : State) : SgeRes :=
  let b := s.bank e
  let rd := rdOf w
  if isAc rd && isD (raOf w) && isD (rbOf w) then
    let p := b.prod (raOf w) (rbOf w)
    let old : Int := if keep then (b.getAc (rd - 16)).toInt else 0
    let r := b.flag56 (rd - 16) (if sub then old - p else old + p)
    .fin (s.setBank e r.1) ([raOf w, rbOf w] ++ (if keep then [rd] else [])) [] [rd] 1 r.2 false none
  else .illegal

/-- `MPY`. -/
def execMpy (e : Fin 32) (s : State) : Host.Outcome State Fault Refusal :=
  .next (issue e 0x10 (fun w s => multRes e w false false s) s)

/-- `MAC`. -/
def execMac (e : Fin 32) (s : State) : Host.Outcome State Fault Refusal :=
  .next (issue e 0x11 (fun w s => multRes e w true false s) s)

/-- `MSU`. -/
def execMsu (e : Fin 32) (s : State) : Host.Outcome State Fault Refusal :=
  .next (issue e 0x12 (fun w s => multRes e w true true s) s)

/-- What `RND` does. -/
def rndRes (e : Nat) (w : BitVec 32) (s : State) : SgeRes :=
  let b := s.bank e
  if isD (rdOf w) && isAc (raOf w) && decide (rbOf w = 0) then
    let r := b.flag24 (rdOf w) (roundConvergent (b.getAc (raOf w - 16)).toInt)
    .fin (s.setBank e r.1) [raOf w] [] [] 1 r.2 true none
  else .illegal

/-- `RND`. -/
def execRnd (e : Fin 32) (s : State) : Host.Outcome State Fault Refusal :=
  .next (issue e 0x13 (rndRes e) s)

/-- The fields of format Q. -/
def qAc (w : BitVec 32) : Nat := iw w 23 3
def qPtx (w : BitVec 32) : Nat := iw w 20 3
def qPty (w : BitVec 32) : Nat := iw w 17 3
def qXmode (w : BitVec 32) : Nat := iw w 14 3
def qYmode (w : BitVec 32) : Nat := iw w 11 3
def qNeg (w : BitVec 32) : Bool := bit w 10
def qBcast (w : BitVec 32) : Bool := bit w 9

/-- The lane addresses of a four-lane instruction: X, and Y with lane 0 in every lane under BCAST. -/
def qX (b : SgeBank) (w : BitVec 32) : List Nat := (List.range 4).map (b.lane (qPtx w))
def qY (b : SgeBank) (w : BitVec 32) : List Nat :=
  (List.range 4).map (fun l => b.lane (qPty w) (if qBcast w then 0 else l))

/-- The four lane products, negated under NEG; the first bad address and its bus, X before Y; and the state after the
reads of both buses, which are one access (R262, R263). -/
def laneProducts (e : Nat) (w : BitVec 32) (s : State) : List Int × Option (Nat × Bool) × State :=
  let b := s.bank e
  let x := loadWords e false (qX b w) s
  let y := loadWords e true (qY b w) x.2.2
  let ps := (x.1.zip y.1).map (fun p =>
    let v := product (bit b.sr srFRAC) p.1.toInt p.2.toInt
    if qNeg w then -v else v)
  (ps, (x.2.1.map (fun a => (a, false))).or (y.2.1.map (fun a => (a, true))), y.2.2)

/-- The cycles of a four-lane instruction (R262). -/
def qCycles (b : SgeBank) (w : BitVec 32) : Nat := 1 + bnat (laneConflict (qX b w) || laneConflict (qY b w))

/-- Both pointers step: X, then Y. -/
def qPost (b : SgeBank) (w : BitVec 32) : SgeBank := (b.post (qPtx w) (qXmode w)).post (qPty w) (qYmode w)

/-- What `MAC4S` does. -/
def mac4sRes (e : Nat) (w : BitVec 32) (s : State) : SgeRes :=
  if qXmode w = 7 ∨ qYmode w = 7 then .illegal
  else
    let b := s.bank e
    match laneProducts e w s with
    | (_, some (a, y), t) => .data t a y
    | (ps, none, t) =>
      let r := b.flag56 (qAc w) ((b.getAc (qAc w)).toInt + ps.sum)
      .fin (t.setBank e (qPost r.1 w)) [16 + qAc w] [] [16 + qAc w] (qCycles b w) r.2 false none

/-- `MAC4S`. -/
def execMac4s (e : Fin 32) (s : State) : Host.Outcome State Fault Refusal :=
  .next (issue e 0x14 (mac4sRes e) s)

/-- What `MAC4V` does: four accumulators; V when any overflows; N and Z, which the spec does not state for four results,
are free. -/
def mac4vRes (e : Nat) (w : BitVec 32) (s : State) : SgeRes :=
  if qXmode w = 7 ∨ qYmode w = 7 ∨ (qAc w ≠ 0 ∧ qAc w ≠ 4) then .illegal
  else
    let b := s.bank e
    match laneProducts e w s with
    | (_, some (a, y), t) => .data t a y
    | (ps, none, t) =>
      let rs := (List.range 4).map (fun l => result56 ((b.getAc (qAc w + l)).toInt + ps.getD l 0))
      let v := rs.any (·.2)
      let fr := t.draw
      let b' := (List.range 4).foldl (fun b l => b.putAc (qAc w + l) (rs.getD l (0, false)).1) b
      let b' := { b' with sr := srNZV b.sr (bit fr.1 0) (bit fr.1 1) v }
      let acs := (List.range 4).map (fun l => 16 + qAc w + l)
      .fin (fr.2.setBank e (qPost b' w)) acs [] acs (qCycles b w) v false none

/-- `MAC4V`. -/
def execMac4v (e : Fin 32) (s : State) : Host.Outcome State Fault Refusal :=
  .next (issue e 0x15 (mac4vRes e) s)

/-! ### Memory (R269 to R271) -/

/-- The fields of format M. -/
def mPt (w : BitVec 32) : Nat := iw w 18 3
def mBus (w : BitVec 32) : Bool := bit w 17
def mMode (w : BitVec 32) : Nat := iw w 14 3

/-- The address of a memory instruction. -/
def mAddr (b : SgeBank) (w : BitVec 32) : Nat := b.lane (mPt w) 0

/-- A register takes a loaded word: D, PT (bits [13:0]), or AC as a D operand. -/
def SgeBank.load (b : SgeBank) (r : Nat) (v : BitVec 24) : SgeBank :=
  match regClass r with
  | .d => b.putD r v
  | .ac => b.putAc (r - 16) (to56 (v.toInt * 2 ^ 24))
  | .pt => b.putPt (r - 24) (v.setWidth 14)

/-- The D and AC registers a load leaves loaded (R280). -/
def loadedOf (r : Nat) : List Nat := if r < 24 then [r] else []

/-- What `LD` does. -/
def ldRes (e : Nat) (w : BitVec 32) (s : State) : SgeRes :=
  if mMode w = 7 then .illegal
  else
    let b := s.bank e
    let a := mAddr b w
    match loadWord e (mBus w) a s with
    | none => .data s a (mBus w)
    | some (v, t) =>
      .fin (t.setBank e ((b.load (rdOf w) v).post (mPt w) (mMode w))) [] (loadedOf (rdOf w)) [] 1 false false none

/-- `LD`. -/
def execLd (e : Fin 32) (s : State) : Host.Outcome State Fault Refusal :=
  .next (issue e 0x18 (ldRes e) s)

/-- The 24-bit word a D or PT register stores. -/
def SgeBank.storeValue (b : SgeBank) (r : Nat) : BitVec 24 :=
  if isD r then b.getD r else (b.getPt (r - 24)).setWidth 24

/-- What `ST` does. -/
def stRes (e : Nat) (w : BitVec 32) (s : State) : SgeRes :=
  if mMode w = 7 ∨ isAc (rdOf w) then .illegal
  else
    let b := s.bank e
    let a := mAddr b w
    match storeWord e (mBus w) a (storedWord (b.storeValue (rdOf w))) s with
    | none => .data s a (mBus w)
    | some t => .plain (t.setBank e (b.post (mPt w) (mMode w))) [rdOf w]

/-- `ST`. -/
def execSt (e : Fin 32) (s : State) : Host.Outcome State Fault Refusal :=
  .next (issue e 0x19 (stRes e) s)

/-- LD2 and ST2 need an even address and an even data register (R271). -/
def pairOk (b : SgeBank) (w : BitVec 32) : Bool :=
  isD (rdOf w) && decide (rdOf w % 2 = 0) && decide (mAddr b w % 2 = 0) && decide (mMode w ≠ 7)

/-- What `LD2` does. -/
def ld2Res (e : Nat) (w : BitVec 32) (s : State) : SgeRes :=
  let b := s.bank e
  let a := mAddr b w
  let r := rdOf w
  if ¬ pairOk b w then .illegal
  else match readMended (dataKey e (mBus w) a) s with
    | none => .data s a (mBus w)
    | some (v, t) =>
      .fin (t.setBank e (((b.load r ((halfOf v a).setWidth 24)).load (r + 1) ((halfOf v (a + 1)).setWidth 24)).post
        (mPt w) (mMode w))) [] [r, r + 1] [] 1 false false none

/-- `LD2`. -/
def execLd2 (e : Fin 32) (s : State) : Host.Outcome State Fault Refusal :=
  .next (issue e 0x1A (ld2Res e) s)

/-- What `ST2` does: it writes the whole memory word and clears its poison. -/
def st2Res (e : Nat) (w : BitVec 32) (s : State) : SgeRes :=
  let b := s.bank e
  let r := rdOf w
  if ¬ pairOk b w then .illegal
  else
    let v : Word := (storedWord (b.getD r)).setWidth 64 ||| ((storedWord (b.getD (r + 1))).setWidth 64) <<< 32
    .plain ((s.writeP (dataKey e (mBus w) (mAddr b w)) v).setBank e (b.post (mPt w) (mMode w))) [r, r + 1]

/-- `ST2`. -/
def execSt2 (e : Fin 32) (s : State) : Host.Outcome State Fault Refusal :=
  .next (issue e 0x1B (st2Res e) s)

/-- What `STR` does. -/
def strRes (e : Nat) (w : BitVec 32) (s : State) : SgeRes :=
  if mMode w = 7 ∨ ¬ isAc (rdOf w) then .illegal
  else
    let b := s.bank e
    let a := mAddr b w
    let x := roundConvergent (b.getAc (rdOf w - 16)).toInt
    let r := b.only24 x
    match storeWord e (mBus w) a (storedWord (result24 (bit b.sr srSAT) x).1) s with
    | none => .data s a (mBus w)
    | some t => .fin (t.setBank e (r.1.post (mPt w) (mMode w))) [rdOf w] [] [] 1 r.2 true none

/-- `STR`. -/
def execStr (e : Fin 32) (s : State) : Host.Outcome State Fault Refusal :=
  .next (issue e 0x1C (strRes e) s)

/-- What `MODP` does. -/
def modpRes (e : Nat) (w : BitVec 32) (s : State) : SgeRes :=
  if mMode w = 7 ∨ rdOf w ≠ 0 then .illegal
  else .plain (s.setBank e ((s.bank e).post (mPt w) (mMode w))) []

/-- `MODP`. -/
def execModp (e : Fin 32) (s : State) : Host.Outcome State Fault Refusal :=
  .next (issue e 0x1D (modpRes e) s)

/-! ### Control flow (R279, R282, R283) -/

/-- TARGET and END, the low 13 bits. -/
def targetOf (w : BitVec 32) : Nat := iw w 0 13

/-- What `BR` does. -/
def brRes (e : Nat) (w : BitVec 32) (s : State) : SgeRes :=
  match condHolds (s.bank e).sr (iw w 22 4) with
  | none => .illegal
  | some true => .fin s [] [] [] 3 false false (some (targetOf w))
  | some false => .plain s []

/-- `BR`. -/
def execBr (e : Fin 32) (s : State) : Host.Outcome State Fault Refusal :=
  .next (issue e 0x20 (brRes e) s)

/-- What `CALL` does. -/
def callRes (e : Nat) (w : BitVec 32) (s : State) : SgeRes :=
  let b := s.bank e
  if iw w 22 4 ≠ 0 then .illegal
  else if 8 ≤ b.rets.length then .trap 4
  else .fin (s.setBank e { b with rets := (b.pc + 1) % 8192 :: b.rets }) [] [] [] 3 false false (some (targetOf w))

/-- `CALL`. -/
def execCall (e : Fin 32) (s : State) : Host.Outcome State Fault Refusal :=
  .next (issue e 0x21 (callRes e) s)

/-- What `RET` does. -/
def retRes (e : Nat) (s : State) : SgeRes :=
  let b := s.bank e
  match b.rets with
  | [] => .trap 4
  | t :: r => .fin (s.setBank e { b with rets := r }) [] [] [] 3 false false (some t)

/-- `RET`. -/
def execRet (e : Fin 32) (s : State) : Host.Outcome State Fault Refusal :=
  .next (issue e 0x22 (fun _ s => retRes e s) s)

/-- A loop begins: its END lies after the loop instruction and at or before the END of every active loop; a count of 0
skips the body; a fifth loop takes the STACK trap; a body of at most 16 instructions is captured (R282 to R284). -/
def loopRes (e count : Nat) (stop : Nat) (uses : List Nat) (s : State) : SgeRes :=
  let b := s.bank e
  if stop ≤ b.pc ∨ b.loops.any (fun l => decide (l.stop < stop)) then .illegal
  else if count = 0 then .fin s uses [] [] 1 false false (some ((stop + 1) % 8192))
  else if 4 ≤ b.loops.length then .trap 4
  else
    let s := s.setBank e { b with loops := SgeLoop.mk (b.pc + 1) stop count :: b.loops }
    let s := if stop - b.pc ≤ 16 then s.modEng e (fun x => { x with cache := some (SgeCache.mk (b.pc + 1) stop false []) })
             else s
    .plain s uses

/-- What `LOOP` does: the count is RC[23:0]. -/
def loopRegRes (e : Nat) (w : BitVec 32) (s : State) : SgeRes :=
  if isD (rdOf w) then loopRes e ((s.bank e).getD (rdOf w)).toNat (targetOf w) [rdOf w] s else .illegal

/-- `LOOP`. -/
def execLoop (e : Fin 32) (s : State) : Host.Outcome State Fault Refusal :=
  .next (issue e 0x23 (loopRegRes e) s)

/-- `LOOPI`. -/
def execLoopi (e : Fin 32) (s : State) : Host.Outcome State Fault Refusal :=
  .next (issue e 0x24 (fun w s => loopRes e (iw w 13 13) (targetOf w) [] s) s)

/-- `ENDL`: the innermost loop is discarded. -/
def execEndl (e : Fin 32) (s : State) : Host.Outcome State Fault Refusal :=
  .next (issue e 0x25 (fun _ s => .plain (s.setBank e { s.bank e with loops := (s.bank e).loops.tail }) []) s)

/-! ### DMA, special registers, the end of a job, traps -/

/-- A register as a 24-bit operand of DMA: D or PT. -/
def SgeBank.raw (b : SgeBank) (r : Nat) : BitVec 24 := b.storeValue r

/-- What `DMA` does: it waits while the DMA is busy; then it starts the transfer (R286). Byte address bits [1:0] are free
where RD holds other than zero there. -/
def dmaRes (e : Nat) (w : BitVec 32) (s : State) : SgeRes :=
  let b := s.bank e
  if isAc (rdOf w) || isAc (raOf w) || isAc (rbOf w) then .illegal
  else if (s.eng e).dma.isSome then .wait
  else
    let d := b.raw (rdOf w)
    let a := b.raw (raOf w)
    let r := b.raw (rbOf w)
    let low : Nat × State := if bits d 0 2 = 0 then (0, s) else let x := s.draw; (bits x.1 0 2, x.2)
    let x : SgeDma :=
      { frame := (s.eng e).frameRunning, addr := bits d 2 22 * 4 + low.1 + bits a 0 14 * 2 ^ 24, left := bits a 14 10 + 1
        loc := bits r 0 14, busY := bit r 14, out := bit r 15
        window := if bit r 16 then some ((b.bs.getD 0 0).toNat, (b.ln.getD 0 0).toNat) else none
        chunk := 0, bad := false }
    let x := { x with loc := x.at 0 }
    .plain (dmaSend e x (setDstat e x.frame (fun b => { b with dstatus := 0, dmoved := 0 }) low.2))
      [rdOf w, raOf w, rbOf w]

/-- `DMA`. -/
def execDma (e : Fin 32) (s : State) : Host.Outcome State Fault Refusal :=
  .next (issue e 0x28 (dmaRes e) s)

/-- What `WAITD` does. -/
def waitdRes (e : Nat) (s : State) : SgeRes :=
  if (s.eng e).dma.isSome then .wait else if (s.bank e).dstatus ≠ 0 then .trap 5 else .plain s []

/-- `WAITD`. -/
def execWaitd (e : Fin 32) (s : State) : Host.Outcome State Fault Refusal :=
  .next (issue e 0x29 (fun _ s => waitdRes e s) s)

/-- DSTAT (R288). -/
def dstatOf (e : Nat) (s : State) : Nat :=
  (s.bank e).dstatus + bnat (s.eng e).dma.isSome * 8 + (s.bank e).dmoved * 16

/-- A special register's value as MOVS reads it (R266), with the state; an index not listed reads as a free value. -/
def specRead (e i : Nat) (s : State) : Int × State :=
  let b := s.bank e
  if i = 0 then ((b.sr.toNat : Int), s)
  else if i = 1 then ((b.tpc.toNat : Int), s)
  else if i = 2 then ((b.taddr.toNat : Int), s)
  else if i = 3 then ((match b.loops with | l :: _ => (l.count : Int) | [] => 0), s)
  else if i = 4 then ((dstatOf e s : Int), s)
  else if i < 8 then let x := s.draw; ((bits x.1 0 24 : Int), x.2)
  else if i < 16 then ((b.md.getD (i - 8) 0).toInt, s)
  else if i < 24 then (((b.bs.getD (i - 16) 0).toNat : Int), s)
  else (((b.ln.getD (i - 24) 0).toNat : Int), s)

/-- A bank with a special register written, or none for LC, an index not listed, or a value out of range (R266). -/
def SgeBank.specWrite (b : SgeBank) (i : Nat) (v : Int) : Option SgeBank :=
  let fits (n : Nat) : Bool := decide (0 ≤ v ∧ v < (n : Int))
  if i = 0 then
    if fits 4096 then some { b with sr := (BitVec.ofInt 12 v &&& 0x7FF) ||| (b.sr &&& 0x800) } else none
  else if i = 1 then (if fits 8192 then some { b with tpc := BitVec.ofInt 13 v } else none)
  else if i = 2 then (if fits 32768 then some { b with taddr := BitVec.ofInt 15 v } else none)
  else if i = 3 then none
  else if i = 4 then
    (if fits 32768 then some { b with dstatus := v.toNat % 8, dmoved := v.toNat / 16 } else none)
  else if i < 8 then none
  else if i < 16 then
    (if fitsSigned 16 v then some { b with md := b.md.set (i - 8) (BitVec.ofInt 16 v) } else none)
  else if i < 24 then (if fits 16384 then some { b with bs := b.bs.set (i - 16) (BitVec.ofInt 14 v) } else none)
  else (if fits 16385 then some { b with ln := b.ln.set (i - 24) (BitVec.ofInt 15 v) } else none)

/-- What `MOVS` does. -/
def movsRes (e : Nat) (w : BitVec 32) (s : State) : SgeRes :=
  let b := s.bank e
  if bit w 10 then
    if isAc (raOf w) then .illegal
    else match b.specWrite (rbOf w) (b.int24 (raOf w)) with
      | none => .illegal
      | some b => .plain (s.setBank e b) [raOf w]
  else
    let r := specRead e (rbOf w) s
    .fin (r.2.setBank e (b.load (rdOf w) (to24 r.1))) [] [] (acDest (rdOf w)) 1 false false none

/-- `MOVS`. -/
def execMovs (e : Fin 32) (s : State) : Host.Outcome State Fault Refusal :=
  .next (issue e 0x2C (movsRes e) s)

/-- RA[23:0] of END. -/
def SgeBank.low24 (b : SgeBank) (r : Nat) : Nat :=
  if isAc r then bits (b.getAc (r - 16)) 0 24 else (b.storeValue r).toNat

/-- What `END` does (R288, R290, R292). -/
def endRes (e : Nat) (w : BitVec 32) (s : State) : SgeRes :=
  let b := s.bank e
  let err := bit w 0
  if (s.eng e).dma.isSome then .wait
  else if b.dstatus ≠ 0 then .trap 5
  else
    let s := countCycles e (1 + bnat (b.loaded.contains (rdOf w))) s
    if (s.eng e).frameRunning then .ended (endFrame e err s)
    else if err then .ended (endAction e .errData 0 s)
    else .ended (endAction e .ok (b.low24 (rdOf w)) s)

/-- `END`. -/
def execEndJob (e : Fin 32) (s : State) : Host.Outcome State Fault Refusal :=
  .next (issue e 0x30 (endRes e) s)

/-- `RTI`: PC = TPC; TM = 0. -/
def execRti (e : Fin 32) (s : State) : Host.Outcome State Fault Refusal :=
  .next (issue e 0x31 (fun _ s => .fin (s.setBank e { s.bank e with sr := srPut (s.bank e).sr srTM false }) [] [] [] 3
    false false (some (s.bank e).tpc.toNat)) s)

/-- `TRAP`. -/
def execTrap (e : Fin 32) (s : State) : Host.Outcome State Fault Refusal :=
  .next (issue e 0x32 (fun _ _ => .soft) s)

end Sys2Proof.Machine
end

