-- ==== Sys2Proof/Machine/Access.lean ====
section
/-! DEFINITION. The register access paths (R4 to R12, R616, R732): a write to any register by its offset, with the effect
that the register's own command has, a read of any register, and the bad accesses. -/

namespace Sys2Proof.Machine

/-! ### Writes -/

/-- The key of a register copy for a master: its slot's copy of a register that is one per master (R581). -/
def accessKey (r : RegName) (ix : List Nat) (m : Ident) : Option Nat :=
  if (regInfo r).perMaster then (slotOf m).map (fun n => r.off ix + slotSpan * n) else some (r.off ix)

/-- The RWL fields of a register are locked; `a` is its first index. -/
def regLocked (r : RegName) (a : Nat) (s : State) : Bool :=
  match r with
  | .CTX_RINGd_BASE => s.on CTX_RINGd_CFG_EN a
  | .CHG_STREAM_BASE | .CHG_STREAM_AT => s.on CHG_STREAM_CTL_ARMED a
  | .CHG_LOOPj | .CHG_STOPk => s.on CHG_STATUS_PLAYING a
  | .CHG_PMU_CFG => s.on CHG_STATUS_QUEUED a
  | .CHG_TDR_CFG => (s.grp a).tdr.isSome
  | .SER_CAN_BIT => decide (s.serMode a = 6)
  | .DRC_GEOM | .DRC_TIM0 | .DRC_TIM1 | .DRC_TIM2 | .DRC_ALERT | .DRC_TERM | .DRC_DQs_k_l | .DRC_DQSs_k_m | .DRC_CAs_l =>
    drcLocked a s
  | _ => false

/-- The generic effect on a register: each field by its type and its lock. -/
def storeEffect (r : RegName) (ix : List Nat) (m : Ident) (h : Half) (data : Word) (s : State) : State :=
  match accessKey r ix m with
  | some k => plainWrite (regInfo r).fields k (fun _ => regLocked r (ix.headD 0) s) h data s
  | none => s

/-- The generic effect unless the value that it would leave is one the register refuses as a whole. -/
def storeIf (good : Word → Bool) (r : RegName) (ix : List Nat) (m : Ident) (h : Half) (data : Word) (s : State) : State :=
  let k := r.off ix
  if good (writeFields (fun _ => false) (s.reg k) data h.mask (regInfo r).fields) then storeEffect r ix m h data s else s

/-- A register that R346 guards. -/
def serGuard (m : Ident) (n off : Nat) (eff : State → State) (s : State) : State :=
  if serMayWrite m n s then eff s else violation m .area true off s

/-- CHG_CAL_ADDR.WORD steps after a 64-bit access of CHG_CAL_DATA. -/
def bumpCalAddr (g : Nat) (h : Half) (s : State) : State := if h = .full then s.addFld CHG_CAL_ADDR_WORD 1 g else s

/-- A write of CHG_CAL_DATA: an image word, in SAFE only. -/
def calDataWrite (g : Nat) (h : Half) (data : Word) (s : State) : State :=
  let k := s.fld CHG_CAL_ADDR_WORD g
  let s := if s.mode g = mdSafe then
      putImage g [(k, ((s.grp g).imageWord k &&& ~~~ h.mask) ||| (data &&& h.mask))] s
    else s
  bumpCalAddr g h s

/-- A write of CLK_CTL: the kindling oscillator rests once the root is locked and KINDLE_KEEP is 0 (R628). -/
def clkCtlEffect (h : Half) (data : Word) (s : State) : State :=
  let s := plainWrite (regInfo .CLK_CTL).fields CLK_CTL_KINDLE_KEEP.off (fun _ => false) h data s
  if s.fld CLK_STATUS_ROOT = 1 then restKindling s else s

/-- A lane's transmit taps that a write may store. -/
def txeqGood (v : Word) : Bool := decide (bits v 0 5 ≤ 16 ∧ bits v 8 5 ≤ 24 ∧ bits v 0 5 + bits v 8 5 ≤ 32)

/-- A write of LNK_QUADq: only a user quad's rate, and never code 7. -/
def quadEffect (q : Nat) (h : Half) (data : Word) (s : State) : State :=
  if q < 8 ∨ ¬ h.reaches 0 ∨ bits data 0 3 = 7 then s else setQuadRate q (bits data 0 3) s

/-- The effect of a write that its access class admits, register by register (R7); `ix` holds the register's indexes. -/
def regEffect (r : RegName) (ix : List Nat) (m : Ident) (h : Half) (data : Word) (s : State) : State :=
  let a := ix.headD 0
  let b := ix.getD 1 0
  let k := r.off ix
  let ser := fun (eff : State → State) => serGuard m a (k + h.skip) eff s
  match r with
  | .TCK_CTL => tckCtlEffect h data s
  | .TCK_PERIOD_NEXT => periodNextEffect h data s
  | .TCK_CHANGE_AT => changeAtEffect h data s
  | .TCK_PORTn_ADJ => syncCable a (storeEffect r ix m h data s)
  | .CTX_DOMd_CFG => domainCfgEffect a (s.merged k h data) s
  | .CTX_ENG_CTL => engCtlEffect h data s
  | .CTX_RINGd_CFG => ringCfgEffect a (s.merged k h data) s
  | .CTX_RINGd_RD => ringRdEffect a (s.merged k h data) s
  | .CHG_MODE => modeEffect a h data s
  | .CHG_SAFE => safeStateEffect a h data s
  | .CHG_DRV_LEVEL => levelEffect a h data s
  | .CHG_PERIOD => periodEffect a h data s
  | .CHG_VEC_DATA => vecWriteEffect m a h data s
  | .CHG_STREAM_CTL => streamCtlEffect a h data s
  | .CHG_CHi_EDGES => edgesEffect a b h data s
  | .CHG_CHi_DESKEW => deskewEffect a b h data s
  | .CHG_TDR_CFG => storeIf (fun v => decide (bits v 0 4 % 2 = 1)) r ix m h data s
  | .CHG_CAL_DATA => calDataWrite a h data s
  | .SGE_CTL => sgeCtlEffect a h data s
  | .SGE_MEM_ADDR => storeIf (fun v => decide (bits v 16 2 ≠ 3)) r ix m h data s
  | .SGE_MEM_DATA => portWrite m a h data s
  | .CLK_FCLKk => fclkEffect a h data s
  | .CLK_UOSCk => uoscEffect a h data s
  | .NVA_DATA => nvaWriteEffect m h data s
  | .SER_CTL => ser (serCtlEffect a h data)
  | .SER_TX => ser (serTxEffect a h data)
  | .SER_DIV => ser (storeEffect r ix m h data)
  | .SER_CAN_BIT => ser (storeEffect r ix m h data)
  | .SER_CAN_FILTERj => ser (storeEffect r ix m h data)
  | .CFG_CTL => syncDone (storeEffect r ix m h data s)
  | .CFG_PUSH => pushEffect m h data s
  | .CFG_RGN_DRAIN => storeIf (fun v => decide (256 ≤ bits v 0 24)) r ix m h data s
  | .CFG_RGNr_CTL => if a = 64 then s else storeEffect r ix m h data s
  | .BNK_OWNERb => bankOwnerEffect m a h data s
  | .BNK_WINb_j => bankWindowEffect m a b h data s
  | .SWP_MEMk_CTL => sweepCtlEffect a h data s
  | .NOC_CTL => storeIf (fun v => decide (4 ≤ bits v 0 5 ∧ bits v 0 5 ≤ 16)) r ix m h data s
  | .NOC_EPOCH => epochEffect h data s
  | .NOC_RT_DATA => routeEffect h data s
  | .DRC_CTL => storeIf drcCtlGood r ix m h data s
  | .DRC_GEOM => syncCapacity a (storeEffect r ix m h data s)
  | .DRC_IMAP => imapEffect h data s
  | .LNK_LANEn_CTL => laneCtlEffect a h data s
  | .LNK_LANEn_TXEQ =>
    if a < 16 ∧ s.on PCI_STATUS_LINK_UP then s else storeIf txeqGood r ix m h data s
  | .LNK_LANEn_PAT => patEffect a h data s
  | .LNK_QUADq => quadEffect a h data s
  | .BRL_ID => devIdEffect h data s
  | .BRL_CTL => brlCtlEffect h data s
  | .BRL_PORTp_CABLE =>
    syncCable a (storeIf (fun v => decide (100 ≤ bits v 32 10 ∧ bits v 32 10 ≤ 1000)) r ix m h data s)
  | .BRL_RACC_DATA => raccEffect m h (some data) s
  | .HC_CMD_PORT => portEffect m (k + h.skip) (if h = .full then 8 else 4) [data &&& h.mask] s
  | .HC_CMD_SUBMIT => submitEffect m h data s
  | .HC_REPLY_POP => popEffect m h data s
  | .HC_REPLY_IN => replyInEffect m (data &&& h.mask) [] s
  | .OWN_HANDOVER => handoverEffect h data s
  | .OWN_LEASE => leaseEffect h data s
  | .MBX_m_Wk => slotWriteEffect m a b [data &&& h.mask] s
  | .MBX_m_TAKE => takeEffect a m h data s
  | .MBX_SEND => stageSendEffect m h data s
  | .MBX_DBr => doorbellEffect a m h data s
  | .CLK_CTL => clkCtlEffect h data s
  | .CLK_GATE => gateEffect false h data s
  | .CLK_RGN_GATE => gateEffect true h data s
  | .PWR_WAKE_REQ => wakeReqEffect m h data s
  | .FLT_CTL => fltCtlEffect h data s
  | .FLT_EMBER => emberEffect h data s
  | .FLT_FIRST_W1 => firstEffect h data s
  | .FLT_RAISE => fltRaiseEffect m h data s
  | .FLT_SRCs => fltSrcEffect a h data s
  | _ => storeEffect r ix m h data s

/-- The word of an MSI-X table or pending-bit array at an offset (R551): its function, and the table's vector and word, or
none for the array. -/
def msixAt (off : Nat) : Option (Nat × Option (Nat × Nat)) :=
  if off < 0x1820000 ∨ 0x1828000 ≤ off then none
  else
    let f := (off - 0x1820000) / 0x2000
    let o := off % 0x2000
    if o % 8 ≠ 0 then none
    else if o < 0x400 then some (f, some (o / 16, o / 8 % 2))
    else if o = 0x1000 then some (f, none)
    else none

/-- A write to function `f`'s MSI-X table, by that function alone; the pending-bit array is read-only (R551). -/
def msixWrite (m : Ident) (f : Nat) (w : Option (Nat × Nat)) (off : Nat) (h : Half) (data : Word) (s : State) : State :=
  if slotOf m ≠ some f then violation m .area true (off + h.skip) s
  else match w with
    | none => s
    | some (v, i) =>
      let mask := if i = 0 then h.mask else h.mask &&& 0x1FFFFFFFF
      let key := msixKey f v i
      flushVectors f (s.setReg key ((s.reg key &&& ~~~ mask) ||| (data &&& mask)))

/-- A write at an offset that no register of the section files has: the rest of HC_CMD_PORT, the rest of HC_REPLY_IN, which
only a write of the RING class reaches (R6, R590), MSI-X, or nothing (R10). -/
def otherWrite (m : Ident) (off : Nat) (h : Half) (data : Word) (s : State) : State :=
  if HC_CMD_PORT_PACKET.off < off ∧ off < HC_CMD_PORT_PACKET.off + 0x80 then
    portEffect m (off + h.skip) (if h = .full then 8 else 4) [data &&& h.mask] s
  else if HC_REPLY_IN_REPLY.off < off ∧ off < HC_REPLY_IN_REPLY.off + 0x80 then
    (if identClass m ≠ 2 then violation m .area true (off + h.skip) s else s)
  else match msixAt off with
    | some (f, w) => msixWrite m f w off h data s
    | none => s

/-- `REGISTER_WRITE` (R4 to R11): a 64-bit write, or a 32-bit write of one half, at register-space offset `off` (a
multiple of 8). -/
def execRegisterWrite (m : Ident) (off : Nat) (h : Half) (data : Word) (s : State) : Host.Outcome State Fault Refusal :=
  match regAt off with
  | some (r, ix) => .next (regWrite r ix m h (regEffect r ix m h data) s)
  | none => .next (if s.dark then s else otherWrite m off h data (renewLease m s))

/-! ### Reads -/

/-- CTLE and decision-feedback taps as adaptation holds them (R532): free values. -/
def adaptedRead (r : RegName) (n key : Nat) (s : State) : Word × State :=
  if ¬ s.on LNK_LANEn_CTL_ADAPT n ∨ ¬ s.on LNK_LANEn_RXSTAT_BIT_LOCK n then (s.reg key, s)
  else
    let f := s.draw
    if r = .LNK_LANEn_RXSTAT then
      (setBits (s.reg key) LNK_LANEn_RXSTAT_CTLE.lo LNK_LANEn_RXSTAT_CTLE.w (bits f.1 0 LNK_LANEn_RXSTAT_CTLE.w), f.2)
    else (f.1 &&& 0xFFFFFFFFFFFF, f.2)

/-- The port that NOC_RT_DATA reads: the selected entry of the inactive table (R476). -/
def routeView (s : State) : Word :=
  let r := s.fld NOC_RT_SEL_ROUTER
  let d := s.fld NOC_RT_SEL_DEST
  if 80 ≤ r ∨ 80 ≤ d then 0
  else BitVec.ofNat 64 (Memory.get routeReset s.noc.routes (routeKey (!s.on NOC_EPOCH_CUR) (s.on NOC_RT_SEL_VNET) r d))

/-- The value of a register as a master reads it; the views that no register holds are formed here. -/
def regView (r : RegName) (ix : List Nat) (m : Ident) (s : State) : Word :=
  let a := ix.headD 0
  match accessKey r ix m with
  | none => 0
  | some k =>
    let n := (slotOf m).getD 0
    match r with
    | .HC_UID => Config.uid
    | .HC_SELF => m.setWidth 64
    | .HC_REPLY_HDR => s.replyHdr n
    | .HC_REPLY_Wk => s.replyWord n a
    | .CHG_CAL_REFS => BitVec.ofNat 64 (s.calRefs a)
    | .CHG_CAL_STATUS => setBits (s.reg k) 0 1 (bnat (s.chg.windows.contains a))
    | .BNK_STATUSb => setBits (s.reg k) 32 15 (s.bankPoisoned a)
    | .NOC_EPe_STATUS => setBits (s.reg k) 2 1 (bnat (endpointGated a s))
    | .NOC_RT_DATA => routeView s
    | _ => s.reg k

/-- The RC fields of a register clear within the half read (R11, R732). -/
def clearRc (r : RegName) (key : Nat) (h : Half) (s : State) : State :=
  let fs := (regInfo r).fields.filter (fun f => decide (f.ty = .rc))
  if fs.isEmpty then s
  else s.setReg key (fs.foldl (fun v f => v &&& ~~~ (fieldMask f.lo f.w &&& h.mask)) (s.reg key))

/-- A plain read: the value, then the clear of the RC fields. -/
def plainRead (r : RegName) (ix : List Nat) (m : Ident) (h : Half) (s : State) : State :=
  clearRc r (r.off ix) h (s.emit (.answer m (regView r ix m s &&& h.mask)))

/-- A read of CHG_CAL_DATA: the image word, and the step of WORD. -/
def calDataRead (m : Ident) (g : Nat) (h : Half) (s : State) : State :=
  bumpCalAddr g h (s.emit (.answer m ((s.grp g).imageWord (s.fld CHG_CAL_ADDR_WORD g) &&& h.mask)))

/-- A read of a mailbox slot word: a receiver's alone (R611). -/
def slotRead (m : Ident) (mb k : Nat) (h : Half) (s : State) : State :=
  let key := MBX_m_Wk_WORD.key mb k 0
  if s.receiver mb m then s.emit (.answer m (s.reg key &&& h.mask)) else (violation m .area false (key + h.skip) s).emit (.answer m 0)

/-- The effect of a read, register by register. -/
def regRead (r : RegName) (ix : List Nat) (m : Ident) (h : Half) (s : State) : State :=
  let a := ix.headD 0
  match r with
  | .OWN_CLAIM =>
    let s := claimEffect [m] s
    s.emit (.answer m (s.claimWord &&& h.mask))
  | .TCK_COUNT => if h = .full then countReadEffect m s else halfReadEffect m false h s
  | .DEVICE_TIME => halfReadEffect m true h s
  | .FLT_HISTk_W0 => histReadEffect m a h s
  | .FLT_HISTk_W1 => histSecondEffect m a h s
  | .SER_RX => serRxEffect m a h s
  | .CHG_VEC_DATA => vecReadEffect m a h s
  | .CHG_CAL_DATA => calDataRead m a h s
  | .SGE_MEM_DATA => portRead m a h s
  | .NVA_DATA => nvaReadEffect m h s
  | .BRL_RACC_DATA => raccEffect m h none s
  | .MBX_m_Wk => slotRead m a (ix.getD 1 0) h s
  | .LNK_LANEn_RXSTAT | .LNK_LANEn_DFE0 | .LNK_LANEn_DFE1 =>
    let v := adaptedRead r a (r.off ix) s
    v.2.emit (.answer m (v.1 &&& h.mask))
  | _ => plainRead r ix m h s

/-- A read at an offset that no register of the section files has: MSI-X, or zero (R10, R551). -/
def otherRead (m : Ident) (off : Nat) (h : Half) (s : State) : State :=
  match msixAt off with
  | some (f, w) =>
    if slotOf m ≠ some f then (violation m .area false (off + h.skip) s).emit (.answer m 0)
    else
      let key := match w with
        | some (v, i) => msixKey f v i
        | none => pbaKey f
      s.emit (.answer m (s.reg key &&& h.mask))
  | none => s.emit (.answer m 0)

/-- `RC_FIELD_READ` (R732, R7): a 64-bit read, or a 32-bit read of one half, of the register at offset `off`: the value as
it stood, after which the RC fields clear. Every other register is read the same way, by its own rule. -/
def execRcFieldRead (m : Ident) (off : Nat) (h : Half) (s : State) : Host.Outcome State Fault Refusal :=
  match regAt off with
  | some (r, ix) => .next (readFront m off h (regRead r ix m h) s)
  | none => .next (if s.dark then s else otherRead m off h s)

/-! ### Bad accesses (R12) -/

/-- `BAR0_BAD_ACCESS` (R12): an access of a bad size or alignment reads zero, its write is ignored, and it counts. -/
def execBar0BadAccess (m : Ident) (off size : Nat) (write : Bool) (s : State) : Host.Outcome State Fault Refusal :=
  if s.dark ∨ ((size = 4 ∨ size = 8) ∧ off % size = 0) then .next s
  else
    let space := if off < 0x2000000 then off else 0
    if write then .next (violation m .size true space (if off < 0x2000000 then renewLease m s else s))
    else .next ((violation m .size false space s).emit (.answer m 0))

end Sys2Proof.Machine
end

