-- ==== Sys2Proof/Machine/Dispatch.lean ====
section
/-! DEFINITION. The dispatch: one arm per command, each one direct call of the command's meaning. -/

namespace Sys2Proof.Machine

/-- The effect of a command on everything but the queue. -/
def exec (i : Instr) (s : State) : Host.Outcome State Fault Refusal :=
  match i with
  | .registerWrite m off h data => Sys2Proof.Machine.execRegisterWrite m off h data s
  | .rcFieldRead m off h => Sys2Proof.Machine.execRcFieldRead m off h s
  | .bar0BadAccess m off size write => Sys2Proof.Machine.execBar0BadAccess m off size write s
  | .tckCountRead m => Sys2Proof.Machine.execTckCountRead m s
  | .halfCaptureRead m time h => Sys2Proof.Machine.execHalfCaptureRead m time h s
  | .tickBoundary balls => Sys2Proof.Machine.execTickBoundary balls s
  | .tickPeriodArm m h data => Sys2Proof.Machine.execTickPeriodArm m h data s
  | .tickPeriodCancel m h data => Sys2Proof.Machine.execTickPeriodCancel m h data s
  | .markerFrame mk => Sys2Proof.Machine.execMarkerFrame mk s
  | .holdover => Sys2Proof.Machine.execHoldover s
  | .holdoverExpire => Sys2Proof.Machine.execHoldoverExpire s
  | .ptmIntervalExpire => Sys2Proof.Machine.execPtmIntervalExpire s
  | .aonCalibration rootCycles => Sys2Proof.Machine.execAonCalibration rootCycles s
  | .tickSetPeriod p => Sys2Proof.Machine.execTickSetPeriod p s
  | .timeAlign p => Sys2Proof.Machine.execTimeAlign p s
  | .timePtm p => Sys2Proof.Machine.execTimePtm p s
  | .timeAlignTimeout => Sys2Proof.Machine.execTimeAlignTimeout s
  | .ptmTimeout => Sys2Proof.Machine.execPtmTimeout s
  | .ctxCreate p => Sys2Proof.Machine.execCtxCreate p s
  | .ctxCreateBlock p images st => Sys2Proof.Machine.execCtxCreateBlock p images st s
  | .ctxArm p => Sys2Proof.Machine.execCtxArm p s
  | .ctxPause p => Sys2Proof.Machine.execCtxPause p s
  | .ctxDestroy p => Sys2Proof.Machine.execCtxDestroy p s
  | .ctxRead p => Sys2Proof.Machine.execCtxRead p s
  | .bar2Read m off size => Sys2Proof.Machine.execBar2Read m off size s
  | .bar2Write m off size data poison => Sys2Proof.Machine.execBar2Write m off size data poison s
  | .domainCfgWrite m d h data => Sys2Proof.Machine.execDomainCfgWrite m d h data s
  | .visit ctxLocked linkLocked => Sys2Proof.Machine.execVisit ctxLocked linkLocked s
  | .resultResponse lane source tag st value => Sys2Proof.Machine.execResultResponse lane source tag st value s
  | .flightTimeout entry => Sys2Proof.Machine.execFlightTimeout entry s
  | .ringWriteResponse d pos st => Sys2Proof.Machine.execRingWriteResponse d pos st s
  | .ringRdWrite m d h data => Sys2Proof.Machine.execRingRdWrite m d h data s
  | .ringCfgWrite m d h data => Sys2Proof.Machine.execRingCfgWrite m d h data s
  | .rebuild m h data => Sys2Proof.Machine.execRebuild m h data s
  | .rebuildScanEnd => Sys2Proof.Machine.execRebuildScanEnd s
  | .gateClose m regions h data => Sys2Proof.Machine.execGateClose m regions h data s
  | .gateOpen m regions h data => Sys2Proof.Machine.execGateOpen m regions h data s
  | .gateDrained b => Sys2Proof.Machine.execGateDrained b s
  | .rampStep b => Sys2Proof.Machine.execRampStep b s
  | .rampEnd b => Sys2Proof.Machine.execRampEnd b s
  | .modeWrite m g h data => Sys2Proof.Machine.execModeWrite m g h data s
  | .forceSafe m g h data => Sys2Proof.Machine.execForceSafe m g h data s
  | .periodWrite m g h data => Sys2Proof.Machine.execPeriodWrite m g h data s
  | .edgesWrite m g j h data => Sys2Proof.Machine.execEdgesWrite m g j h data s
  | .levelWrite m g h data => Sys2Proof.Machine.execLevelWrite m g h data s
  | .safeStateWrite m g h data => Sys2Proof.Machine.execSafeStateWrite m g h data s
  | .vecDataAccess m g h data => Sys2Proof.Machine.execVecDataAccess m g h data s
  | .vectorPlay g balls limits => Sys2Proof.Machine.execVectorPlay g balls limits s
  | .reflexHoldEnd g j => Sys2Proof.Machine.execReflexHoldEnd g j s
  | .groupAction g a => Sys2Proof.Machine.execGroupAction g a s
  | .companionClaim c g slot => Sys2Proof.Machine.execCompanionClaim c g slot s
  | .companionRelease c g slot => Sys2Proof.Machine.execCompanionRelease c g slot s
  | .companionRefused g slot c st => Sys2Proof.Machine.execCompanionRefused g slot c st s
  | .vectorRunStart g => Sys2Proof.Machine.execVectorRunStart g s
  | .vectorRunEnd g => Sys2Proof.Machine.execVectorRunEnd g s
  | .streamGo m g h data => Sys2Proof.Machine.execStreamGo m g h data s
  | .streamStop m g h data => Sys2Proof.Machine.execStreamStop m g h data s
  | .streamReadResponse g stream st ws => Sys2Proof.Machine.execStreamReadResponse g stream st ws s
  | .fabricVector g vec => Sys2Proof.Machine.execFabricVector g vec s
  | .measureConnect g slot => Sys2Proof.Machine.execMeasureConnect g slot s
  | .settleEnd g slot loads => Sys2Proof.Machine.execSettleEnd g slot loads s
  | .adcQuantityStart g => Sys2Proof.Machine.execAdcQuantityStart g s
  | .adcConversionEnd g code ovl loads => Sys2Proof.Machine.execAdcConversionEnd g code ovl loads s
  | .measureRespond g slot => Sys2Proof.Machine.execMeasureRespond g slot s
  | .rampCrossing g slot stamp loads => Sys2Proof.Machine.execRampCrossing g slot stamp loads s
  | .rampLimit g slot loads => Sys2Proof.Machine.execRampLimit g slot loads s
  | .rampDischargeEnd g slot loads => Sys2Proof.Machine.execRampDischargeEnd g slot loads s
  | .tdrStart g => Sys2Proof.Machine.execTdrStart g s
  | .calGroup p => Sys2Proof.Machine.execCalGroup p s
  | .calLoad p => Sys2Proof.Machine.execCalLoad p s
  | .calStore p unverified => Sys2Proof.Machine.execCalStore p unverified s
  | .selftestGroup p => Sys2Proof.Machine.execSelftestGroup p s
  | .calReference p => Sys2Proof.Machine.execCalReference p s
  | .calStepEnd g step => Sys2Proof.Machine.execCalStepEnd g step s
  | .calTimeout p => Sys2Proof.Machine.execCalTimeout p s
  | .railReading d k value => Sys2Proof.Machine.execRailReading d k value s
  | .nop e => Sys2Proof.Machine.execNop e s
  | .add e => Sys2Proof.Machine.execAdd e s
  | .sub e => Sys2Proof.Machine.execSub e s
  | .and e => Sys2Proof.Machine.execAnd e s
  | .or e => Sys2Proof.Machine.execOr e s
  | .xor e => Sys2Proof.Machine.execXor e s
  | .ash e => Sys2Proof.Machine.execAsh e s
  | .abs e => Sys2Proof.Machine.execAbs e s
  | .cmp e => Sys2Proof.Machine.execCmp e s
  | .addi e => Sys2Proof.Machine.execAddi e s
  | .movi e => Sys2Proof.Machine.execMovi e s
  | .lui e => Sys2Proof.Machine.execLui e s
  | .mpy e => Sys2Proof.Machine.execMpy e s
  | .mac e => Sys2Proof.Machine.execMac e s
  | .msu e => Sys2Proof.Machine.execMsu e s
  | .rnd e => Sys2Proof.Machine.execRnd e s
  | .mac4s e => Sys2Proof.Machine.execMac4s e s
  | .mac4v e => Sys2Proof.Machine.execMac4v e s
  | .ld e => Sys2Proof.Machine.execLd e s
  | .st e => Sys2Proof.Machine.execSt e s
  | .ld2 e => Sys2Proof.Machine.execLd2 e s
  | .st2 e => Sys2Proof.Machine.execSt2 e s
  | .str e => Sys2Proof.Machine.execStr e s
  | .modp e => Sys2Proof.Machine.execModp e s
  | .br e => Sys2Proof.Machine.execBr e s
  | .call e => Sys2Proof.Machine.execCall e s
  | .ret e => Sys2Proof.Machine.execRet e s
  | .loop e => Sys2Proof.Machine.execLoop e s
  | .loopi e => Sys2Proof.Machine.execLoopi e s
  | .endl e => Sys2Proof.Machine.execEndl e s
  | .dma e => Sys2Proof.Machine.execDma e s
  | .waitd e => Sys2Proof.Machine.execWaitd e s
  | .movs e => Sys2Proof.Machine.execMovs e s
  | .endJob e => Sys2Proof.Machine.execEndJob e s
  | .rti e => Sys2Proof.Machine.execRti e s
  | .trap e => Sys2Proof.Machine.execTrap e s
  | .sgeAction e a => Sys2Proof.Machine.execSgeAction e a s
  | .jobLimitExpire e => Sys2Proof.Machine.execJobLimitExpire e s
  | .dmaResponse e st ws => Sys2Proof.Machine.execDmaResponse e st ws s
  | .sgeRunWrite m e h data => Sys2Proof.Machine.execSgeRunWrite m e h data s
  | .sgeRestart m e h data => Sys2Proof.Machine.execSgeRestart m e h data s
  | .sgeMemDataAccess m e h data => Sys2Proof.Machine.execSgeMemDataAccess m e h data s
  | .portWaitSteal e => Sys2Proof.Machine.execPortWaitSteal e s
  | .fclkWrite m k h data => Sys2Proof.Machine.execFclkWrite m k h data s
  | .uoscEnable m k h data => Sys2Proof.Machine.execUoscEnable m k h data s
  | .uoscDisable m k h data => Sys2Proof.Machine.execUoscDisable m k h data s
  | .uoscReady k => Sys2Proof.Machine.execUoscReady k s
  | .uoscMeasure hz => Sys2Proof.Machine.execUoscMeasure hz s
  | .fabricPortRequest p req => Sys2Proof.Machine.execFabricPortRequest p req s
  | .fabricAnswer p ans => Sys2Proof.Machine.execFabricAnswer p ans s
  | .portTimeout p src tag => Sys2Proof.Machine.execPortTimeout p src tag s
  | .nvaDataAccess m h data => Sys2Proof.Machine.execNvaDataAccess m h data s
  | .nvaWriteDone => Sys2Proof.Machine.execNvaWriteDone s
  | .serModeWrite m n h data => Sys2Proof.Machine.execSerModeWrite m n h data s
  | .serModeApply n => Sys2Proof.Machine.execSerModeApply n s
  | .serTxWrite m n h data => Sys2Proof.Machine.execSerTxWrite m n h data s
  | .serRxRead m n h => Sys2Proof.Machine.execSerRxRead m n h s
  | .uartFrameReceive n line low => Sys2Proof.Machine.execUartFrameReceive n line low s
  | .uartFrameSend n cts => Sys2Proof.Machine.execUartFrameSend n cts s
  | .spiTransfer n input => Sys2Proof.Machine.execSpiTransfer n input s
  | .i2cTransfer n addr sent received last => Sys2Proof.Machine.execI2cTransfer n addr sent received last s
  | .canFrameReceive n header age body recessive fault => Sys2Proof.Machine.execCanFrameReceive n header age body recessive fault s
  | .canFrameSend n recessive last => Sys2Proof.Machine.execCanFrameSend n recessive last s
  | .cfgLoad p => Sys2Proof.Machine.execCfgLoad p s
  | .cfgAbort p => Sys2Proof.Machine.execCfgAbort p s
  | .cfgStart p => Sys2Proof.Machine.execCfgStart p s
  | .cfgReadback p failAt => Sys2Proof.Machine.execCfgReadback p failAt s
  | .fuseRollback p => Sys2Proof.Machine.execFuseRollback p s
  | .fuseProgram p => Sys2Proof.Machine.execFuseProgram p s
  | .configHeader st ws => Sys2Proof.Machine.execConfigHeader st ws s
  | .configRecord st ws => Sys2Proof.Machine.execConfigRecord st ws s
  | .configTrailer st ws => Sys2Proof.Machine.execConfigTrailer st ws s
  | .authenticated => Sys2Proof.Machine.execAuthenticated s
  | .starvationExpire => Sys2Proof.Machine.execStarvationExpire s
  | .cfgPushWrite m h data => Sys2Proof.Machine.execCfgPushWrite m h data s
  | .doneNRise => Sys2Proof.Machine.execDoneNRise s
  | .doneFilterMet => Sys2Proof.Machine.execDoneFilterMet s
  | .readyFrame p f => Sys2Proof.Machine.execReadyFrame p f s
  | .startFrame p f => Sys2Proof.Machine.execStartFrame p f s
  | .regionClear p => Sys2Proof.Machine.execRegionClear p s
  | .regionDamper p => Sys2Proof.Machine.execRegionDamper p s
  | .swpSource p st copy => Sys2Proof.Machine.execSwpSource p st copy s
  | .regionDrainDone t => Sys2Proof.Machine.execRegionDrainDone t s
  | .drainLimitExpire t => Sys2Proof.Machine.execDrainLimitExpire t s
  | .clockLinesGated t => Sys2Proof.Machine.execClockLinesGated t s
  | .sigSweepFrame => Sys2Proof.Machine.execSigSweepFrame s
  | .repairReadResponse st header ws readback => Sys2Proof.Machine.execRepairReadResponse st header ws readback s
  | .memorySweepRead k unit => Sys2Proof.Machine.execMemorySweepRead k unit s
  | .mendedWriteBack => Sys2Proof.Machine.execMendedWriteBack s
  | .sweepEnableWrite m k h data => Sys2Proof.Machine.execSweepEnableWrite m k h data s
  | .bankAccess a b => Sys2Proof.Machine.execBankAccess a b s
  | .bankOwnerWrite m b h data => Sys2Proof.Machine.execBankOwnerWrite m b h data s
  | .bankClearEnd b => Sys2Proof.Machine.execBankClearEnd b s
  | .bankWindowWrite m b j h data => Sys2Proof.Machine.execBankWindowWrite m b j h data s
  | .nocInject e req => Sys2Proof.Machine.execNocInject e req s
  | .nocEject k => Sys2Proof.Machine.execNocEject k s
  | .routerForward k => Sys2Proof.Machine.execRouterForward k s
  | .linkReplay l flit same => Sys2Proof.Machine.execLinkReplay l flit same s
  | .epochSwitch m h data => Sys2Proof.Machine.execEpochSwitch m h data s
  | .loadXy m h data => Sys2Proof.Machine.execLoadXy m h data s
  | .routeTableWrite m h data => Sys2Proof.Machine.execRouteTableWrite m h data s
  | .endpointDrainDone e => Sys2Proof.Machine.execEndpointDrainDone e s
  | .dramStart p good => Sys2Proof.Machine.execDramStart p good s
  | .dramStop p => Sys2Proof.Machine.execDramStop p s
  | .delaySweep p found => Sys2Proof.Machine.execDelaySweep p found s
  | .dramTableSave p verified => Sys2Proof.Machine.execDramTableSave p verified s
  | .dramRequest c req => Sys2Proof.Machine.execDramRequest c req s
  | .dramReadData c burst data check => Sys2Proof.Machine.execDramReadData c burst data check s
  | .refreshAccrue c => Sys2Proof.Machine.execRefreshAccrue c s
  | .refreshSlot c => Sys2Proof.Machine.execRefreshSlot c s
  | .mr4Poll c ranges rfm => Sys2Proof.Machine.execMr4Poll c ranges rfm s
  | .refreshWindowEnd c => Sys2Proof.Machine.execRefreshWindowEnd c s
  | .alertAssert c => Sys2Proof.Machine.execAlertAssert c s
  | .alertReplay c => Sys2Proof.Machine.execAlertReplay c s
  | .retryBufferRelease c => Sys2Proof.Machine.execRetryBufferRelease c s
  | .imapWrite m h data => Sys2Proof.Machine.execImapWrite m h data s
  | .laneBitLock n lossDb => Sys2Proof.Machine.execLaneBitLock n lossDb s
  | .laneRestart m n h data => Sys2Proof.Machine.execLaneRestart m n h data s
  | .checkerLock n seen => Sys2Proof.Machine.execCheckerLock n seen s
  | .checkerLockLoss n seen => Sys2Proof.Machine.execCheckerLockLoss n seen s
  | .patternWrite m n h data => Sys2Proof.Machine.execPatternWrite m n h data s
  | .injSingle m n h data => Sys2Proof.Machine.execInjSingle m n h data s
  | .injBurst m n h data => Sys2Proof.Machine.execInjBurst m n h data s
  | .injectionRepeat n => Sys2Proof.Machine.execInjectionRepeat n s
  | .receiverDetect l found => Sys2Proof.Machine.execReceiverDetect l found s
  | .linkStageEnd l lanes => Sys2Proof.Machine.execLinkStageEnd l lanes s
  | .linkStageTimeout l => Sys2Proof.Machine.execLinkStageTimeout l s
  | .cap p c => Sys2Proof.Machine.execCap p c s
  | .dlyReq p num turnPs => Sys2Proof.Machine.execDlyReq p num turnPs s
  | .dlyRsp p num rttPs turnPs => Sys2Proof.Machine.execDlyRsp p num rttPs turnPs s
  | .hostMemoryRequest r => Sys2Proof.Machine.execHostMemoryRequest r s
  | .hostConfigRequest f tag dword put => Sys2Proof.Machine.execHostConfigRequest f tag dword put s
  | .hostLinkDown => Sys2Proof.Machine.execHostLinkDown s
  | .functionLevelReset f => Sys2Proof.Machine.execFunctionLevelReset f s
  | .l1Entry => Sys2Proof.Machine.execL1Entry s
  | .align p => Sys2Proof.Machine.execAlign p s
  | .alignSend p => Sys2Proof.Machine.execAlignSend p s
  | .ack p seq => Sys2Proof.Machine.execAck p seq s
  | .nak p seq => Sys2Proof.Machine.execNak p seq s
  | .ackSend p => Sys2Proof.Machine.execAckSend p s
  | .cred p blocks => Sys2Proof.Machine.execCred p blocks s
  | .tick p low8 sincePs => Sys2Proof.Machine.execTick p low8 sincePs s
  | .readFrame p f => Sys2Proof.Machine.execReadFrame p f s
  | .writeFrame p f => Sys2Proof.Machine.execWriteFrame p f s
  | .responseFrame p f => Sys2Proof.Machine.execResponseFrame p f s
  | .enumFrame p f => Sys2Proof.Machine.execEnumFrame p f s
  | .enumTableFrame p f => Sys2Proof.Machine.execEnumTableFrame p f s
  | .streamFrame p f => Sys2Proof.Machine.execStreamFrame p f s
  | .brociaLinkDown p => Sys2Proof.Machine.execBrociaLinkDown p s
  | .ringEnum p => Sys2Proof.Machine.execRingEnum p s
  | .enumTimeout ring reached => Sys2Proof.Machine.execEnumTimeout ring reached s
  | .ringCopy p => Sys2Proof.Machine.execRingCopy p s
  | .linkRetrain p => Sys2Proof.Machine.execLinkRetrain p s
  | .retrainTimeout p => Sys2Proof.Machine.execRetrainTimeout p s
  | .raccDataAccess m h data => Sys2Proof.Machine.execRaccDataAccess m h data s
  | .remoteAccessTimeout tag => Sys2Proof.Machine.execRemoteAccessTimeout tag s
  | .devidWrite m h data => Sys2Proof.Machine.execDevidWrite m h data s
  | .commandPortWrite m off size ws => Sys2Proof.Machine.execCommandPortWrite m off size ws s
  | .commandSubmit m h header => Sys2Proof.Machine.execCommandSubmit m h header s
  | .replyPop m h data => Sys2Proof.Machine.execReplyPop m h data s
  | .replyInWrite m header ws => Sys2Proof.Machine.execReplyInWrite m header ws s
  | .domainSet p => Sys2Proof.Machine.execDomainSet p s
  | .domainRead p => Sys2Proof.Machine.execDomainRead p s
  | .echo p => Sys2Proof.Machine.execEcho p s
  | .ownershipClaim readers => Sys2Proof.Machine.execOwnershipClaim readers s
  | .handoverOffer m h data => Sys2Proof.Machine.execHandoverOffer m h data s
  | .ownerRelease m h data => Sys2Proof.Machine.execOwnerRelease m h data s
  | .handoverExpire => Sys2Proof.Machine.execHandoverExpire s
  | .leaseExpire => Sys2Proof.Machine.execLeaseExpire s
  | .mailboxSend m mb first ws => Sys2Proof.Machine.execMailboxSend m mb first ws s
  | .mbxSend m h data => Sys2Proof.Machine.execMbxSend m h data s
  | .mailboxTake m mb h data => Sys2Proof.Machine.execMailboxTake m mb h data s
  | .pwrState p => Sys2Proof.Machine.execPwrState p s
  | .clkRefSelect p => Sys2Proof.Machine.execClkRefSelect p s
  | .powerStepEnd => Sys2Proof.Machine.execPowerStepEnd s
  | .coldDelayExpire => Sys2Proof.Machine.execColdDelayExpire s
  | .avsReadback mv => Sys2Proof.Machine.execAvsReadback mv s
  | .avsTimeout => Sys2Proof.Machine.execAvsTimeout s
  | .aonPowerOn => Sys2Proof.Machine.execAonPowerOn s
  | .coreEnHigh => Sys2Proof.Machine.execCoreEnHigh s
  | .powerOn safeKeep => Sys2Proof.Machine.execPowerOn safeKeep s
  | .pwrOkFall => Sys2Proof.Machine.execPwrOkFall s
  | .kindlingReady bootSrc refSel safeKeep => Sys2Proof.Machine.execKindlingReady bootSrc refSel safeKeep s
  | .referenceQualified => Sys2Proof.Machine.execReferenceQualified s
  | .rootLock aon => Sys2Proof.Machine.execRootLock aon s
  | .hearthInitDone dram => Sys2Proof.Machine.execHearthInitDone dram s
  | .clockMonitorTrip lockLost => Sys2Proof.Machine.execClockMonitorTrip lockLost s
  | .pullInDone aon => Sys2Proof.Machine.execPullInDone aon s
  | .freeze => Sys2Proof.Machine.execFreeze s
  | .slewDone => Sys2Proof.Machine.execSlewDone s
  | .wakePin n => Sys2Proof.Machine.execWakePin n s
  | .wakeReqWrite m h data => Sys2Proof.Machine.execWakeReqWrite m h data s
  | .ringEnergyWake => Sys2Proof.Machine.execRingEnergyWake s
  | .perstRise => Sys2Proof.Machine.execPerstRise s
  | .faultRecord => Sys2Proof.Machine.execFaultRecord s
  | .faultReaction => Sys2Proof.Machine.execFaultReaction s
  | .journalWrite => Sys2Proof.Machine.execJournalWrite s
  | .journalScan => Sys2Proof.Machine.execJournalScan s
  | .journalRead p => Sys2Proof.Machine.execJournalRead p s
  | .haltRelease m h data => Sys2Proof.Machine.execHaltRelease m h data s
  | .fltRaiseWrite m h data => Sys2Proof.Machine.execFltRaiseWrite m h data s
  | .firstCaptureRearm m h data => Sys2Proof.Machine.execFirstCaptureRearm m h data s
  | .historyRead m k h => Sys2Proof.Machine.execHistoryRead m k h s
  | .heartbeat => Sys2Proof.Machine.execHeartbeat s
  | .hbLost => Sys2Proof.Machine.execHbLost s
  | .tickLost => Sys2Proof.Machine.execTickLost s
  | .emberFreqWrite m h data => Sys2Proof.Machine.execEmberFreqWrite m h data s
  | .ptmResponse hostNs ago => Sys2Proof.Machine.execPtmResponse hostNs ago s
  | .endpointResponse dst tag st data poison => Sys2Proof.Machine.execEndpointResponse dst tag st data poison s
  | .companionGrant g slot c => Sys2Proof.Machine.execCompanionGrant g slot c s
  | .companionResult g slot idx sum count gain16 => Sys2Proof.Machine.execCompanionResult g slot idx sum count gain16 s
  | .userLaneWord n tx rx => Sys2Proof.Machine.execUserLaneWord n tx rx s
  | .emberEdge => Sys2Proof.Machine.execEmberEdge s
  | .bankedJobCutoff => Sys2Proof.Machine.execBankedJobCutoff s
  | .refQualifyTimeout => Sys2Proof.Machine.execRefQualifyTimeout s
  | .authenticationFailed => Sys2Proof.Machine.execAuthenticationFailed s
  | .doneNFall => Sys2Proof.Machine.execDoneNFall s
  | .hostLinkUp speed width => Sys2Proof.Machine.execHostLinkUp speed width s
  | .syncErrBlock p sync line raw => Sys2Proof.Machine.execSyncErrBlock p sync line raw s
  | .frameCheckFail p x => Sys2Proof.Machine.execFrameCheckFail p x s
  | .vmemTestEnd g pattern ok => Sys2Proof.Machine.execVmemTestEnd g pattern ok s

end Sys2Proof.Machine
end

