-- ==== Sys2Proof/Safety.lean ====
section
/-! DEFINITION. What counts as a safe run of the block: no step stops, and the sparse memories keep their canonical form. -/

namespace Sys2Proof

open Sys2Proof.Machine

/-- The register file and the protected memories are in their canonical form. -/
def Machine.State.canonical (s : State) : Prop :=
  Memory.wf regReset s.regs = true ∧ Memory.wf memDefault s.mem = true

/-- The step from a state answers a next state. -/
def Machine.State.goesOn (s : State) : Prop := ∃ t, step s = .next t

/-- `n` steps from a state all answer a next state. -/
def Machine.safeFor : Nat → State → Prop
  | 0, _ => True
  | n + 1, s => ∃ t, step s = .next t ∧ Machine.safeFor n t

/-! ### Words that statements use -/

/-- A write to copy `ix` of register `r` by master `m` passes: the device is not dark (R622, R642, R646), the register's block is
not gated (R639) and the access class admits the master (R5, R6). -/
abbrev Machine.State.admits (s : State) (m : Ident) (r : RegName) (ix : List Nat) : Prop :=
  s.dark = false ∧ s.blockOpen (r.off ix) = true ∧ ((regInfo r).access = .ownerOnly → s.isOwner m = true)

/-- A read at BAR0 offset `off` passes (R639, R642). -/
abbrev Machine.State.readable (s : State) (off : Nat) : Prop := s.dark = false ∧ s.blockOpen off = true

/-- A request to the context store's window passes: the device is not dark (R642), the damper of its endpoint is OPEN and
its gate is open (R472, R482). -/
abbrev Machine.State.windowOpen (s : State) : Prop :=
  s.dark = false ∧ s.fld NOC_EPe_STATUS_DAMPER 40 = 0 ∧ s.gateOpen 5 = true

/-- A command packet starts and passes the checks of R587 (R586, R587, R642). -/
abbrev Machine.State.accepts (s : State) (opcode need : Nat) (rule : IssuerRule) (p : Packet) : Prop :=
  s.dark = false ∧ s.hc.running.length < 16 ∧ mayStart p s = true ∧ packetCheck opcode need rule p s = none

/-- From `s` to `t` every register keeps its value, the registers at the keys of `l` apart. -/
def Machine.regsKeep (l : List Nat) (s t : State) : Prop := ∀ k, k ∉ l → t.reg k = s.reg k

/-- The key of OWN_STATUS, whose LEASE_LEFT_MS every register write of the owner renews (R603). -/
def Machine.leaseKey : Nat := OWN_STATUS_LEASE_LEFT_MS.off

/-- From `s` to `t` only registers change, those at the keys of `l`. -/
def Machine.onlyRegs (l : List Nat) (s t : State) : Prop := t = { s with regs := t.regs } ∧ regsKeep l s t

/-- From `s` to `t` every register and every stored word keeps its value. -/
def Machine.storesKeep (s t : State) : Prop := t.regs = s.regs ∧ t.mem = s.mem

/-- Engine `e` issues the word `w`, which holds a well-formed instruction of opcode `op`; `t` is the state after the fetch
(R277, R278, R283). -/
abbrev Machine.State.issues (s : State) (e op : Nat) (w : BitVec 32) (t : State) : Prop :=
  s.canIssue e = true ∧ fetchInstr e s = some (w, t) ∧ opOf w = op ∧ (formatOf op).any (fun f => leftOutZero f w) = true ∧
  (controlOp op = true → (t.bank e).atEnd = false)

/-- A bank after an instruction that completes without a jump (R280, R282). -/
def Machine.SgeBank.onward (b : SgeBank) (loaded acs : List Nat) : SgeBank :=
  { b with loops := (loopNext b.loops b.pc).1, pc := (loopNext b.loops b.pc).2, loaded := loaded, acWritten := acs }

/-- A bank after a jump (R278). -/
def Machine.SgeBank.jump (b : SgeBank) (target : Nat) : SgeBank := { b with pc := target, loaded := [], acWritten := [] }

/-- The registers an instruction of engine `e` may change: its status and its busy cycles. -/
def Machine.engineKeys (e : Nat) : List Nat :=
  [SGE_STATUS_STATE.key e 0 0, SGE_FRAME_STATUS_RUNNING.key e 0 0, SGE_CYCLES_BUSY.key e 0 0]

/-- From `s` to `u` engine `e` has run one instruction: nothing is sent, nothing outside the engine changes, of the
registers only its status and its cycles do, and the stored words are those of `m`. -/
def Machine.engineRan (e : Nat) (s u m : State) : Prop :=
  u = { s with regs := u.regs, sge := u.sge, mem := m.mem, mends := m.mends, free := u.free } ∧
  (∀ j, j ≠ e → u.eng j = s.eng j) ∧ regsKeep (engineKeys e) s u

/-- A port's write passes (R346, R639, R642). -/
abbrev Machine.serAdmits (s : State) (m : Ident) (n off : Nat) : Prop :=
  s.dark = false ∧ s.blockOpen off = true ∧ serMayWrite m n s = true

/-- From `s` to `t` only port `n` and its SER_STATUS change, with the registers at the keys of `l`. -/
def Machine.portKept (n : Nat) (l : List Nat) (s t : State) : Prop :=
  t = { s with regs := t.regs, ser := t.ser } ∧ (∀ j, j ≠ n → t.port j = s.port j) ∧ regsKeep (SER_STATUS_TX_LEVEL.key n 0 0 :: l) s t

/-- The 80 stored bits of a word with bit `i` inverted: 0 to 63 data, 64 to 79 check bits (R430). -/
def Machine.PWord.upset (p : PWord) (i : Nat) : PWord :=
  if i < 64 then { p with data := p.data ^^^ (1 : Word) <<< i } else { p with chk := p.chk ^^^ (1 : BitVec 16) <<< (i - 64) }

/-- The key of DRC_STATUS of controller `c`, whose counts follow the queues. -/
def Machine.drcKey (c : Nat) : Nat := DRC_STATUS_STATE.key c 0 0

/-- Nothing waits in a controller's queues, no neighbour row is owed and no stop is in progress. -/
abbrev Machine.Dram.idle (d : Dram) : Prop :=
  d.reads = [] ∧ d.writes = [] ∧ d.waiting = [] ∧ d.scrubs = [] ∧ d.flights = [] ∧ d.answers = [] ∧ d.owed = [] ∧ d.stopping = none

/-- A controller that serves requests with an empty retry buffer and no refresh owed above LIMIT (R493, R507, R512). -/
abbrev Machine.State.serving (s : State) (c : Nat) : Prop :=
  s.drState c = drActive ∧ s.fld DRC_STATUS_ALERT_STOP c = 0 ∧ s.fld DRC_STATUS_DEBT c ≤ 4 ∧ (s.drc c).retry = []

/-- From `s` to `t` only controller `c`, what it sends and the registers at the keys of `l` change, with its DRC_STATUS. -/
def Machine.drcKept (c : Nat) (l : List Nat) (s t : State) : Prop :=
  t = { s with regs := t.regs, dram := t.dram, out := t.out } ∧ (∀ j, j ≠ c → t.drc j = s.drc j) ∧ regsKeep (drcKey c :: l) s t

/-- A frame handed to port `q` leaves at once: nothing waits there, and the port may send it (R560, R561). -/
abbrev Machine.State.leaves (s : State) (fresh : Bool) (f : BrFrame) (q : Nat) : Prop :=
  (s.brPort q).queue = [] ∧ portMay fresh f q s = true

/-- A host request that lies within one 256-byte block of a BAR and that no case of R455, R544 or R548 stops. -/
abbrev Machine.State.serves (s : State) (r : HostReq) : Prop :=
  s.fld HC_STATUS_READY = 1 ∧ r.ecrcBad = false ∧ r.parityBad = false ∧ r.ep = false ∧ isUnsupported r s = false ∧ 0 < r.bytes ∧
  r.off % 256 + r.bytes ≤ 256 ∧ r.off < 2 ^ 38 ∧ s.pcie.pieces = []

end Sys2Proof
end

