-- ==== Sys2Proof/Certificates/Slice0/Obligations.lean ====
section
/-! DEFINITION. The statements for the provers. Where a statement says that a command answers a next state, its
hypotheses are on the operands and the state alone; `storesKeep`, `onlyRegs` and `regsKeep` say what stays (Safety.lean). -/

open Sys2Proof Sys2Proof.Machine

/-- A step with a command at the front of its queue runs exactly that command on the state whose queue holds the rest; with
an empty queue one root cycle passes, up to the last cycle of the tick (the idle step is the model's own, log entry 1). -/
def Obligations.StepRunsTheFrontCommand : Prop :=
  (∀ (c : Instr) (r : List Instr) (s : State), step { s with pending := c :: r } = exec c { s with pending := r }) ∧
  (∀ s : State, s.pending = [] →
    (s.rootRuns = true → s.tck.phase + 1 < s.tickLen → s.tck.phase + 1 ≠ 96 * s.curN → ∃ t, step s = .next t ∧
      t.fld DEVICE_TIME_TIME = (s.fld DEVICE_TIME_TIME + 1) % 2 ^ 64 ∧
      t = { s with regs := t.regs, logic := (passFabric 1 s).logic, mem := (passFabric 1 s).mem, mends := (passFabric 1 s).mends, tck := { s.tck with
        phase := s.tck.phase + 1, aonRem := t.tck.aonRem, uncertRem := t.tck.uncertRem,
        msRem := (s.tck.msRem + 1) % 9600000 } } ∧
      regsKeep [DEVICE_TIME_TIME.off, TCK_AON_COUNT.off, TCK_UNCERT_UNCERT_NS.off, leaseKey] s t) ∧
    (s.rootRuns = false ∨ s.tickLen ≤ s.tck.phase + 1 → step s = .next s))

/-- After reset no command waits, nothing has been sent, the sparse memories are canonical, every protected word outside the
signature store is a clean zero, every register whose table gives a reset value other than zero has it, and every
channel group is in SAFE. What the registers without a stated value and the words of the memories hold is the model's
choice (log entry 5). -/
def Obligations.ResetLeavesTheStatedValues : Prop :=
  State.reset.canonical ∧ State.reset.pending = [] ∧ State.reset.out = [] ∧
  (∀ x ∈ ([
    (0x400000, 0x1), (0x400010, 0x120000000040), (0x400018, 0x40), (0x4000B0, 0x960000), (0x800110, 0x20000000000),
     (0x800000, 0xFFFFF00000001), (0x500008, 0x80), (0x500048, 0x10000), (0x504000, 0x3), (0x600000, 0xC),
     (0x1810000, 0x1000), (0x1840008, 0x3E8000F), (0x0, 0x100B08420), (0x100018, 0x641388), (0x300000, 0x2), (0x300020, 0x1F),
     (0x301000, 0xA), (0x301010, 0x320), (0x301018, 0xA0000), (0x200000, 0x20), (0x200010, 0x3E803E8)] : List (Nat × Word)),
    State.reset.reg x.1 = x.2) ∧
  (∀ x ∈ ([
    (0x800800, 0x8, 128, 0x100010), (0x800C00, 0x8, 32, 0x80008), (0x800D00, 0x8, 64, 0x40004), (0x802008, 0x40, 16, 0xA00), (0xC00010, 0x4000, 128, 0x5D2), (0xC00018, 0x4000, 128, 0x1),
     (0xC03008, 0x4000, 128, 0x1000003), (0x308000, 0x8, 24, 0x1000000010), (0xF00010, 0x1000, 16, 0x400),
     (0x501008, 0x20, 65, 0x18), (0x505000, 0x40, 8, 0x1), (0x1400000, 0x40000, 4, 0x100000103001),
     (0x1400010, 0x40000, 4, 0x1000), (0x1400018, 0x40000, 4, 0x1018606734343234), (0x1400020, 0x40000, 4, 0x82003B008201008),
     (0x1400028, 0x40000, 4, 0x9B30C003D0), (0x1400030, 0x40000, 4, 0x80), (0x1800000, 0x100, 32, 0x21), (0x1802000, 0x100, 64, 0x20),
     (0x1800008, 0x100, 96, 0x804), (0x1840100, 0x40, 4, 0x1), (0x1840110, 0x40, 4, 0x2BC00000000)] : List (Nat × Nat × Nat × Word)),
    ∀ i, i < x.2.2.1 → State.reset.reg (x.1 + x.2.1 * i) = x.2.2.2) ∧
  (∀ g i, g < 128 → i < 16 →
    State.reset.reg (0xC00808 + 0x4000 * g + 0x80 * i) = 0x9B203E1 ∧ State.reset.reg (0xC00810 + 0x4000 * g + 0x80 * i) = 0x4000000000 ∧
    State.reset.reg (0xC00828 + 0x4000 * g + 0x80 * i) = 0x300) ∧
  (∀ d, d < 4 → State.reset.reg (0xC03800 + 0x80000 * d) = 0x34802F80000 ∧ State.reset.reg (0xC03808 + 0x80000 * d) = 0x76206AE0000 ∧
    State.reset.reg (0xC03810 + 0x80000 * d) = 0x1482128E0000 ∧ State.reset.reg (0xC03818 + 0x80000 * d) = 0x41AFE700000) ∧
  (∀ k, k < 0x6000000 → (State.reset.pword k).decode = .clean 0) ∧
  (∀ g, g < 128 → State.reset.mode g = mdSafe)

/-- Every step keeps the register file and the protected memories in their canonical form, so that equal machines are equal
data. -/
def Obligations.StepsKeepTheCanonicalForm : Prop :=
  ∀ s t : State, s.canonical → step s = .next t → t.canonical

/-- Every command has an effect: from every state it answers a next state, never a fault and never a refusal, and so does a
step. -/
def Obligations.EveryCommandCompletes : Prop :=
  (∀ (c : Instr) (s : State), ∃ t, exec c s = .next t) ∧ ∀ s : State, s.goesOn

/-- No command changes the queue of waiting commands, so a step takes away the front command and adds none. -/
def Obligations.CommandsLeaveTheQueue : Prop :=
  (∀ (c : Instr) (s t : State), exec c s = .next t → t.pending = s.pending) ∧
  (∀ s t : State, step s = .next t → t.pending = s.pending.tail)

/-- TICK_PERIOD_ARM, TICK_PERIOD_CANCEL and TICK_SET_PERIOD (R45 to R47, R71): a period change becomes pending for the tick
numbered in TCK_CHANGE_AT, a pending change is cancelled, and the command form does both writes and replies with the
tick. Nothing else of the machine changes. -/
def Obligations.PeriodChangesBecomePending : Prop :=
  (∀ (m : Ident) (h : Half) (data : Word) (s : State) (n tick : Nat), s.admits m .TCK_PERIOD_NEXT [] →
    s.tck.following = false → s.on TCK_PERIOD_NEXT_PENDING = false → wbit h data TCK_PERIOD_NEXT_ARM = true →
    n = (wfield h data TCK_PERIOD_NEXT_NEXT_N).getD (s.fld TCK_PERIOD_NEXT_NEXT_N) → 16 ≤ n → n ≤ 66666 →
    tick = s.fld TCK_CHANGE_AT_AT → s.fld TCK_COUNT_COUNT < tick →
    (tick = s.fld TCK_COUNT_COUNT + 1 → s.frozenSet = false) →
    ∃ t, exec (.tickPeriodArm m h data) s = .next t ∧ t.fld TCK_PERIOD_NEXT_NEXT_N = n ∧
      t.fld TCK_PERIOD_NEXT_PENDING = 1 ∧
      t = { s with regs := t.regs, tck := { s.tck with armedAt := BitVec.ofNat 64 tick } } ∧
      regsKeep [leaseKey, TCK_PERIOD_NEXT_NEXT_N.off] s t) ∧
  (∀ (m : Ident) (h : Half) (data : Word) (s : State), s.admits m .TCK_PERIOD_NEXT [] → s.tck.following = false →
    wbit h data TCK_PERIOD_NEXT_CANCEL = true → wbit h data TCK_PERIOD_NEXT_ARM = false →
    ∃ t, exec (.tickPeriodCancel m h data) s = .next t ∧ t.fld TCK_PERIOD_NEXT_PENDING = 0 ∧
      onlyRegs [leaseKey, TCK_PERIOD_NEXT_NEXT_N.off] s t) ∧
  (∀ (p : Packet) (s : State) (n now tick : Nat), s.accepts 0x0801 2 .owner p → s.tck.following = false →
    s.on TCK_PERIOD_NEXT_PENDING = false → n = (p.w 1).toNat → 16 ≤ n → n ≤ 66666 → now = s.fld TCK_COUNT_COUNT →
    ((p.w 2).toNat = 0 ∨ now + 256 ≤ (p.w 2).toNat) →
    tick = (if (p.w 2).toNat = 0 then now + 1024 else (p.w 2).toNat) → tick < 2 ^ 64 →
    ∃ u, exec (.tickSetPeriod p) s = .next (endCommand p .ok [BitVec.ofNat 64 tick] u) ∧
      u.fld TCK_PERIOD_NEXT_NEXT_N = n ∧ u.fld TCK_PERIOD_NEXT_PENDING = 1 ∧ u.fld TCK_CHANGE_AT_AT = tick ∧
      u = { s with regs := u.regs, hc := (beginCommand p s).hc,
                   tck := { s.tck with armedAt := BitVec.ofNat 64 tick } } ∧
      regsKeep [TCK_PERIOD_NEXT_NEXT_N.off, TCK_CHANGE_AT_AT.off] (beginCommand p s) u)

/-- TCK_COUNT_READ and HALF_CAPTURE_READ (R32, R33): a 64-bit read answers TCK_COUNT and fills the reader's snapshot
registers; a 32-bit read of the low half answers it and makes the reader's next high half belong to the same value,
whatever happens in between other than this reader's own reads of its halves; a read of the high half with nothing
captured for its reader, and a 64-bit read, answer the register as it is. No register but the snapshots and no stored
word changes. -/
def Obligations.CounterReadsAreCoherent : Prop :=
  (∀ (m : Ident) (n : Nat) (s : State), s.readable TCK_COUNT_COUNT.off → slotOf m = some n →
    ∃ t, exec (.tckCountRead m) s = .next t ∧ t.out = .answer m s.tickCount :: s.out ∧
      t.mfld TCK_SNAP_TIME_TIME n = s.fld DEVICE_TIME_TIME ∧ t.mfld TCK_SNAP_PHASE_PHASE n = s.tck.phase % 2 ^ TCK_SNAP_PHASE_PHASE.w ∧
      t = { s with regs := t.regs, out := t.out } ∧
      regsKeep [TCK_SNAP_TIME_TIME.off + slotSpan * n, TCK_SNAP_PHASE_PHASE.off + slotSpan * n] s t) ∧
  (∀ (m : Ident) (s : State), s.readable TCK_COUNT_COUNT.off → slotOf m = none →
    exec (.tckCountRead m) s = .next { s with out := .answer m s.tickCount :: s.out }) ∧
  (∀ (m : Ident) (time : Bool) (s : State), s.readable (halfField time).off →
    exec (.halfCaptureRead m time .full) s = .next { s with out := .answer m (s.reg (halfField time).off) :: s.out } ∧
    ((∀ c ∈ s.tck.captured, ¬ (some c.1 = slotOf m ∧ c.2.1 = time)) → exec (.halfCaptureRead m time .high) s =
      .next { s with out := .answer m (s.reg (halfField time).off &&& Half.high.mask) :: s.out }) ∧
    (slotOf m = none → exec (.halfCaptureRead m time .low) s =
      .next { s with out := .answer m (s.reg (halfField time).off &&& Half.low.mask) :: s.out })) ∧
  (∀ (m : Ident) (n : Nat) (time : Bool) (s s' : State), s.readable (halfField time).off → slotOf m = some n →
    s'.readable (halfField time).off →
    ∃ t, exec (.halfCaptureRead m time .low) s = .next t ∧
      t.out = .answer m (s.reg (halfField time).off &&& Half.low.mask) :: s.out ∧ storesKeep s t ∧
      (s'.tck.captured.filter (fun c => decide (some c.1 = slotOf m ∧ c.2.1 = time)) =
          t.tck.captured.filter (fun c => decide (some c.1 = slotOf m ∧ c.2.1 = time)) →
        ∃ t', exec (.halfCaptureRead m time .high) s' = .next t' ∧
          t'.out = .answer m (s.reg (halfField time).off &&& Half.high.mask) :: s'.out ∧ storesKeep s' t'))

/-- TICK_BOUNDARY (R30, R43): after the audits on the values held at the start of the boundary epoch, DEVICE_TIME reaches
the boundary and TCK_COUNT increments by one, then the changes pending at the boundary take effect together, then the
work of the new tick begins. A device whose root does not run has no boundary. AON_CALIBRATION (R68): 1,024 always-on
periods have been measured in root cycles. HOLDOVER, HOLDOVER_EXPIRE and MARKER_FRAME (R52, R53, R62, R65): a follower
whose markers stop holds its steering and sets HOLDOVER; 1 ms later it is no longer aligned, ALIGN_LOST is set, QUALITY
falls from MEASURED to FREE_RUN unless an exchange has given a measurement, fault 0x041 is raised, and the device
follows on only while another port shows a lower source (that HOLDOVER is cleared then is the model's choice, log entry
192); a device with ROLE SOURCE that hears a marker of a lower device ID follows it and raises 0x042; a marker at a port
that is not ACTIVE does nothing. -/
def Obligations.BoundariesCalibrationAndSources : Prop :=
  (
  (∀ (strobes : List Nat) (s v : State), s.rootRuns = true → v = countMarkers (publishVisits (boundaryAudits s)) →
    exec (.tickBoundary strobes) s = .next (boundaryWork strobes (boundaryChanges (tickPulse v))) ∧
      (tickPulse v).fld TCK_COUNT_COUNT = (v.fld TCK_COUNT_COUNT + 1) % 2 ^ 64 ∧
      (tickPulse v).fld DEVICE_TIME_TIME = (v.fld DEVICE_TIME_TIME + (v.tickLen - v.tck.phase)) % 2 ^ 64 ∧
      (tickPulse v).tck = { v.tck with
        ticks := v.tck.ticks + 1, phase := 0, span := none, uncertRem := (tickPulse v).tck.uncertRem,
        aonRem := (tickPulse v).tck.aonRem, msRem := (v.tck.msRem + (v.tickLen - v.tck.phase)) % 9600000 } ∧
      (tickPulse v).fld OWN_STATUS_LEASE_LEFT_MS =
        v.fld OWN_STATUS_LEASE_LEFT_MS - (v.tck.msRem + (v.tickLen - v.tck.phase)) / 9600000 ∧
      (tickPulse v).mem = v.mem) ∧
  (∀ (strobes : List Nat) (s : State), s.rootRuns = false → exec (.tickBoundary strobes) s = .next s)) ∧
  (
  ∀ (k : Nat) (s : State), s.rootRuns = true →
    ∃ t, exec (.aonCalibration k) s = .next t ∧
      t.fld TCK_AON_CAL_ROOT_PER_1024 = k % 2 ^ TCK_AON_CAL_ROOT_PER_1024.w ∧
      onlyRegs [TCK_AON_CAL_ROOT_PER_1024.off] s t) ∧
  (
  (∀ s : State, s.tck.following = true →
    ∃ t, exec .holdover s = .next t ∧ t.fld TCK_STATUS_HOLDOVER = 1 ∧ t.fld TCK_STEER_STEER_PPB = s.fld TCK_STEER_STEER_PPB ∧
      t = { s with regs := t.regs,
                   tck := { s.tck with ports := s.tck.ports.set (s.fld TCK_STATUS_UPSTREAM_PORT) none } } ∧
      regsKeep [TCK_STATUS_HOLDOVER.off] s t) ∧
  (∀ s : State, s.tck.following = false → s.upstream = none → exec .holdover s = .next s) ∧
  (∀ s : State, s.on TCK_STATUS_HOLDOVER = false → exec .holdoverExpire s = .next s) ∧
  (∀ s : State, s.on TCK_STATUS_HOLDOVER = true →
    ∃ u, exec .holdoverExpire s = .next (raise 0x041 (s.fld TCK_STATUS_UPSTREAM_PORT) u) ∧
      u.fld TCK_STATUS_HOLDOVER = 0 ∧ u.fld TCK_STATUS_ALIGNED = 0 ∧ u.fld TCK_STATUS_ALIGN_LOST = 1 ∧
      u.fld TCK_STATUS_QUALITY =
        (if s.fld TCK_STATUS_QUALITY = 1 ∧ s.tck.ptmValid = false then 0 else s.fld TCK_STATUS_QUALITY) ∧
      u = { s with regs := u.regs, tck := { s.tck with lost := true, good := 0, following := s.upstream.isSome } } ∧
      regsKeep [TCK_STATUS_HOLDOVER.off] s u) ∧
  (∀ (mk : Marker) (s : State), s.portActive mk.port = false ∨ s.rootRuns = false → exec (.markerFrame mk) s = .next s) ∧
  (∀ (mk : Marker) (s : State), s.portActive mk.port = true → s.rootRuns = true → s.fld TCK_CTL_ROLE = 1 →
    s.tck.following = false → lowerSource mk.source s = true → markerStamp mk s = none →
    ∃ t, exec (.markerFrame mk) s = .next t ∧ t.tck.following = true ∧ t.fld TCK_STATUS_SOURCE_CONFLICT = 1 ∧
      t.fld TCK_STATUS_IS_SOURCE = 0 ∧
      t.fld FLT_SRCs_COUNT 0x042 = (s.fld FLT_SRCs_COUNT 0x042 + 1) % 2 ^ FLT_SRCs_COUNT.w ∧ t.mem = s.mem))

/-- TIME_ALIGN, TIME_ALIGN_TIMEOUT, TIME_PTM, PTM_RESPONSE, PTM_TIMEOUT and PTM_INTERVAL_EXPIRE (R57, R66, R71): an
alignment and an exchange begin and wait for their answer, which ends the command that asked for it; without an answer
it ends BUSY. -/
def Obligations.TimeCommandsWaitForTheirAnswer : Prop :=
  (∀ (p : Packet) (s : State), s.accepts 0x0802 0 .owner p → s.tck.aligning = none →
    ∃ t, exec (.timeAlign p) s = .next t ∧ t.tck.aligning = some p ∧ t.tck.loadDue = true ∧ t.fld TCK_STATUS_ALIGNED = 0 ∧
      t = { s with regs := t.regs, hc := (beginCommand p s).hc,
                   tck := { s.tck with aligning := some p, loadDue := true, good := 0, lost := false } } ∧
      regsKeep [TCK_STATUS_ALIGNED.off] (beginCommand p s) t) ∧
  (∀ (p : Packet) (s : State), s.tck.aligning = some p →
    exec .timeAlignTimeout s = .next (endCommand p .busy [] { s with tck := { s.tck with aligning := none } })) ∧
  (∀ (p : Packet) (s : State), s.accepts 0x0803 0 .any p → ptmMay (ptmFunction p.issuer) s = true →
    ∃ t, exec (.timePtm p) s = .next t ∧ t.tck = { s.tck with ptm := s.tck.ptm ++ [(ptmFunction p.issuer, some p)] } ∧
      t.out = .ptmRequest (ptmFunction p.issuer) :: s.out ∧ storesKeep (beginCommand p s) t) ∧
  (∀ (host : Word) (ago f : Nat) (p : Packet) (rest : List (Nat × Option Packet)) (s : State),
    s.tck.ptm = (f, some p) :: rest →
    ∃ u, exec (.ptmResponse host ago) s = .next (endCommand p .ok [host, s.deviceTime - BitVec.ofNat 64 ago] u) ∧
      u.tck = { s.tck with ptm := rest, ptmValid := true } ∧ u.reg TCK_PTM_HOST_HOST_NS.off = host ∧
      u.reg TCK_PTM_DEV_DEV_TIME.off = s.deviceTime - BitVec.ofNat 64 ago ∧
      (s.fld CLK_STATUS_ROOT = 1 → u.fld TCK_STATUS_QUALITY = 1) ∧ u.out = s.out ∧ u.mem = s.mem ∧
      regsKeep [TCK_PTM_HOST_HOST_NS.off, TCK_PTM_DEV_DEV_TIME.off, TCK_STATUS_QUALITY.off, TCK_UNCERT_UNCERT_NS.off] s u) ∧
  (∀ (f : Nat) (p : Packet) (rest : List (Nat × Option Packet)) (s : State), s.tck.ptm = (f, some p) :: rest →
    exec .ptmTimeout s = .next (endCommand p .busy [] { s with tck := { s.tck with ptm := rest } })) ∧
  (∀ s : State, s.on TCK_CTL_PTM_INTERVAL = true → ptmMay 0 s = true →
    exec .ptmIntervalExpire s =
      .next { s with tck := { s.tck with ptm := s.tck.ptm ++ [(0, none)] }, out := .ptmRequest 0 :: s.out })

/-- CTX_CREATE and CTX_CREATE_BLOCK (R105, R106, R733): a member of the domain within its quota creates contexts at FREE
IDs: the stored words are the images with STATE PAUSED and OWNER the domain, the owner tags name the domain, and no
other context changes. -/
def Obligations.ContextsAreCreatedPaused : Prop :=
  (∀ (p : Packet) (s : State) (d id : Nat) (img : Ctx), s.accepts 0x0301 4 .any p → d = bits (p.w 1) 32 4 →
    img = { w0 := p.w 2, w1 := p.w 3, w2 := p.w 4, w3 := 0 } → s.member d p.issuer = true → img.imageValid = true →
    s.quotaAllows d 1 = true →
    (if bit (p.w 1) 31 then s.lowestFree 1048576 0 = some id else id = bits (p.w 1) 0 20 ∧ s.isFree id = true) →
    ∃ u, exec (.ctxCreate p) s = .next (endCommand p .ok [BitVec.ofNat 64 id] u) ∧
      u.ctxWords id = createdCtx d img ∧ u.votedOwner id = d ∧ u.badWords id = 0 ∧
      (∀ j, j ≠ id → u.ctxWords j = s.ctxWords j ∧ u.votedOwner j = s.votedOwner j) ∧
      u.fld CTX_COUNT_RESIDENT_RESIDENT = (s.fld CTX_COUNT_RESIDENT_RESIDENT + 1) % 2 ^ CTX_COUNT_RESIDENT_RESIDENT.w ∧
      u.fld CTX_DOMd_STATUS_RESIDENT d = (s.fld CTX_DOMd_STATUS_RESIDENT d + 1) % 2 ^ CTX_DOMd_STATUS_RESIDENT.w ∧
      u.out = s.out) ∧
  (∀ (p : Packet) (images : List (Word × Word × Word)) (s : State) (d n first : Nat) (imgs : List Ctx),
    s.accepts 0x0302 2 .any p → d = bits (p.w 1) 56 4 → n = rangeCount (p.w 1) → first = rangeFirst (p.w 1) →
    imgs = (blockImages images).take n → imgs.length = n → s.member d p.issuer = true → rangeValid (p.w 1) = true → bits (p.w 2) 0 5 = 0 →
    firstInvalid 0 imgs = none → s.quotaAllows d n = true → s.firstNotFree n first = none →
    ∃ u, exec (.ctxCreateBlock p images .ok) s = .next (endCommand p .ok [BitVec.ofNat 64 n] u) ∧
      (∀ k img, imgs[k]? = some img → u.ctxWords (first + k) = createdCtx d img ∧ u.votedOwner (first + k) = d) ∧
      (∀ j, (j < first ∨ first + imgs.length ≤ j) → u.ctxWords j = s.ctxWords j ∧ u.votedOwner j = s.votedOwner j) ∧
      u.out = .imageRead (bits (p.w 2) 0 38) (32 * n) :: s.out)

/-- CTX_ARM, CTX_PAUSE and CTX_DESTROY on one context (R93, R96, R101 to R103, R118): a PAUSED or DONE context becomes ARMED
with NEXT_DUE its phase beyond the arming tick and joins the calendar, an ARMED or DUE one becomes PAUSED, and a
destroyed one is FREE with every word zero. No other context changes. -/
def Obligations.ContextCommandsMoveOneContext : Prop :=
  (∀ (p : Packet) (s : State) (id t rebase : Nat) (c : Ctx), s.accepts 0x0303 3 .any p → rangeCount (p.w 1) = 1 →
    id = rangeFirst (p.w 1) → c = s.ctxWords id → s.badWords id = 0 → s.member (s.votedOwner id) p.issuer = true →
    (c.state = stPaused ∨ c.state = stDone) → s.fld CTX_DOMd_STATUS_OVER (s.votedOwner id) = 0 → c.fieldsValid = true →
    rebase = bits (p.w 2) 0 32 → armPhase c rebase ≤ 1048575 → t = armTick p s → s.earliestArm 1 ≤ t →
    t ≤ s.fld TCK_COUNT_COUNT + 2 ^ 30 → s.linkBad id = false →
    ∃ u, exec (.ctxArm p) s = .next (endCommand p .ok [BitVec.ofNat 64 t, 1, 0, 0xFFFFFFFF] u) ∧
      u.ctxWords id = c.armedAt t (armPhase c rebase) (bit (p.w 2) 32) ∧ u.isFiled id = true ∧
      (∀ j, j ≠ id → u.ctxWords j = s.ctxWords j) ∧ u.out = s.out) ∧
  (∀ (p : Packet) (s : State) (id : Nat) (c : Ctx), s.accepts 0x0304 1 .any p → rangeCount (p.w 1) = 1 →
    id = rangeFirst (p.w 1) → c = s.ctxWords id → s.badWords id = 0 → s.member (s.votedOwner id) p.issuer = true →
    (c.state = stArmed ∨ c.state = stDue) →
    ∃ u, exec (.ctxPause p) s = .next (endCommand p .ok [1, 0, 0] u) ∧ u.ctxWords id = c.paused s.tickCount ∧
      (u.ctxWords id).state = stPaused ∧ (∀ j, j ≠ id → u.ctxWords j = s.ctxWords j) ∧ u.out = s.out) ∧
  (∀ (p : Packet) (s : State) (id : Nat) (c : Ctx), s.accepts 0x0305 1 .any p → rangeCount (p.w 1) = 1 →
    id = rangeFirst (p.w 1) → c = s.ctxWords id → s.badWords id = 0 → s.member (s.votedOwner id) p.issuer = true →
    s.votedOwner id < 16 → (c.state = stArmed ∨ c.state = stDue ∨ c.state = stPaused ∨ c.state = stDone ∨ c.state = stQuarantined) →
    ∃ u, exec (.ctxDestroy p) s = .next (endCommand p .ok [1, 0, 0] u) ∧ u.ctxWords id = ⟨0, 0, 0, 0⟩ ∧ u.isFree id = true ∧
      u.fld CTX_COUNT_DESTROYED_COUNT = (s.fld CTX_COUNT_DESTROYED_COUNT + 1) % 2 ^ 64 ∧
      (∀ j, j ≠ id → u.ctxWords j = s.ctxWords j) ∧ u.out = s.out)

/-- CTX_READ and BAR2_READ (R12, R108, R119 to R121): a member of a context's domain, or the device owner, reads its words;
the command replies with the logical state and the pending bits, the window with the stored word of context off / 32 and
word off / 8 modulo 4, and neither changes a register or a stored word; a window access of another size or alignment
reads zero, writes nothing and counts; while the engine's gate is not open the window reads zero and takes no write, and
the access counts as a violation and as an ERR_GATED response. BAR2_WRITE and DOMAIN_CFG_WRITE (R110, R112, R121): a
member writes W1 or W2 of a PAUSED or DONE context, and that word alone; the owner writes a domain's SHARE and QUOTA,
and EN while the domain holds no context; a write that would bring the sum of SHARE above 256 changes nothing but
SHARE_REFUSED. -/
def Obligations.ContextReadsWindowAndDomainWrites : Prop :=
  (
  (∀ (p : Packet) (s : State) (id : Nat) (c : Ctx), s.accepts 0x0306 1 .any p → id = bits (p.w 1) 0 20 → c = s.ctxWords id →
    s.mayReadCtx p.issuer id = true → s.badWords id = 0 →
    exec (.ctxRead p) s = .next (endCommand p .ok
      [c.logicalW0 s.tickCount, c.w1, c.w2, c.w3, BitVec.ofNat 64 (s.readW5 id)] ((beginCommand p s).noteCtx id))) ∧
  (∀ (m : Ident) (off size id k : Nat) (h : Half) (s : State), s.windowOpen → bar2Place off size = some (id, k, h) →
    s.mayReadCtx m id = true → (s.pword (ctxKey id k)).isBad = false →
    ∃ t, exec (.bar2Read m off size) s = .next t ∧
      t.out = .bar2 m ((s.pword (ctxKey id k)).value &&& h.mask) false :: s.out ∧ storesKeep s t) ∧
  (∀ (m : Ident) (off size id k : Nat) (h : Half) (s : State), s.windowOpen → bar2Place off size = some (id, k, h) →
    s.mayReadCtx m id = true → (s.pword (ctxKey id k)).isBad = true →
    ∃ t, exec (.bar2Read m off size) s = .next t ∧ t.out = .bar2 m 0 true :: s.out ∧ storesKeep s t) ∧
  (∀ (m : Ident) (off size : Nat) (data : Word) (poison : Bool) (s : State), s.windowOpen → bar2Place off size = none →
    exec (.bar2Read m off size) s = .next ((violation m .size false 0 s).emit (.bar2 m 0 false)) ∧
    exec (.bar2Write m off size data poison) s = .next ((violation m .size true 0 s).emit (.written m .ok))) ∧
  (∀ (m : Ident) (off size : Nat) (data : Word) (poison : Bool) (s : State), s.dark = false →
    s.fld NOC_EPe_STATUS_DAMPER 40 = 0 → s.gateOpen 5 = false →
    exec (.bar2Read m off size) s = .next ((gatedAccess m 0 false s).emit (.bar2 m 0 false)) ∧
    exec (.bar2Write m off size data poison) s = .next ((gatedAccess m 0 true s).emit (.written m .errGated)))) ∧
  (
  (∀ (m : Ident) (off size id k : Nat) (data : Word) (s : State), s.windowOpen →
    bar2Place off size = some (id, k, .full) → s.isFree id = false →
    s.member (s.votedOwner id) m = true → (k = 1 ∨ k = 2) → (s.pword (ctxKey id 0)).isBad = false →
    ((s.ctxWords id).state = stPaused ∨ (s.ctxWords id).state = stDone) →
    ∃ t, exec (.bar2Write m off size data false) s = .next t ∧ (t.pword (ctxKey id k)).value = data ∧
      (t.pword (ctxKey id k)).isBad = false ∧ (∀ j, j ≠ ctxKey id k → t.pword j = s.pword j) ∧ t.regs = s.regs ∧
      t.out = .written m .ok :: s.out) ∧
  (∀ (m : Ident) (d : Fin 16) (data : Word) (s : State), s.admits m .CTX_DOMd_CFG [d.val] →
    s.shareSum - s.fld CTX_DOMd_CFG_SHARE d + bits data 8 8 ≤ 256 →
    ∃ t, exec (.domainCfgWrite m d .full data) s = .next t ∧ t.fld CTX_DOMd_CFG_SHARE d = bits data 8 8 ∧
      t.fld CTX_DOMd_CFG_QUOTA d = bits data 16 21 ∧
      t.fld CTX_DOMd_CFG_EN d =
        (if s.fld CTX_DOMd_STATUS_RESIDENT d = 0 then bits data 0 1 else s.fld CTX_DOMd_CFG_EN d) ∧
      onlyRegs [leaseKey, CTX_DOMd_CFG_EN.key d 0 0, CTX_DOMd_STATUS_OVER.key d 0 0] s t) ∧
  (∀ (m : Ident) (d : Fin 16) (data : Word) (s : State), s.admits m .CTX_DOMd_CFG [d.val] →
    256 < s.shareSum - s.fld CTX_DOMd_CFG_SHARE d + bits data 8 8 →
    ∃ t, exec (.domainCfgWrite m d .full data) s = .next t ∧ t.fld CTX_STATUS_SHARE_REFUSED = 1 ∧
      onlyRegs [leaseKey, CTX_STATUS_SHARE_REFUSED.off] s t))

/-- VISIT (R93, R134, R137 to R143): the next admitted entry, its context due and its target with a credit, is dispatched:
the credit is taken, a flight entry is allocated, the context goes IN_FLIGHT with NEXT_DUE advanced by its period, and
its action is sent. REBUILD and REBUILD_SCAN_END (R161, R737): a rebuild empties every list and counts itself; its scan
files the ARMED and DUE contexts in ascending order, and then the engine is no longer rebuilding, unless a further
uncorrectable link word has restarted the rebuild. -/
def Obligations.VisitsAndCalendarRebuild : Prop :=
  (
  ∀ (s : State) (e : Filed) (rest : List Filed) (c c' : Ctx) (i w tgt : Nat), s.engineRuns = true →
    s.pwr.stopped = false → s.ctx.loose = [] → s.ctx.admitted = e :: rest → e.id < 1048576 →
    w = s.ctx.visitIndex % 4 → s.isFree e.id = false → s.badWords e.id = 0 → c = s.ctxWords e.id →
    c.isDue s.tickCount = true → c.kind ≠ 7 → tgt = c.target → s.fld CTX_CRED_t_CREDIT tgt ≠ 0 → s.votedOwner e.id < 16 →
    i = lowestFreeEntry s.ctx.flight 2560 0 →
    c' = ((if c.period = 0 then c else c.setNextDue ((c.nextDue + c.period) % 2 ^ 32)).setLate
      (decide (bits s.tickCount 0 32 ≠ c.nextDue))).setState stInFlight →
    ∃ t, exec (.visit false false) s = .next t ∧ t.ctx.admitted = rest ∧ t.ctxWords e.id = c' ∧
      t.fld CTX_CRED_t_CREDIT tgt = s.fld CTX_CRED_t_CREDIT tgt - 1 ∧
      t.ctx.flight = s.ctx.flight ++
        [(i, ⟨e.id, e.id, e.id, s.votedOwner e.id, tgt, 0, s.tickCount, s.tickCount, false, false, w⟩)] ∧
      t.out = .action w (i + 4096 * ((s.gen i + 1) % 16)) tgt c.w1 c.settle (s.votedOwner e.id) c.kind 0
        (bits s.tickCount 0 32) :: s.out ∧
      (∀ j, j < 1048576 → j ≠ e.id → t.ctxWords j = s.ctxWords j)) ∧
  (
  (∀ (m : Ident) (h : Half) (data : Word) (s : State), s.admits m .CTX_ENG_CTL [] → wbit h data CTX_ENG_CTL_REBUILD = true →
    ∃ t, exec (.rebuild m h data) s = .next t ∧ t.fld CTX_ENG_STATUS_REBUILDING = 1 ∧
      t.fld CTX_ENG_STATUS_REBUILDS = (s.fld CTX_ENG_STATUS_REBUILDS + 1) % 2 ^ CTX_ENG_STATUS_REBUILDS.w ∧
      t.ctx = { s.ctx with
        slots := [], carried := [], newCarry := [], loose := s.ctx.loose ++ s.ctx.admitted, admitted := [] } ∧
      (∀ id k, id < 1048576 → k < 4 → t.pword (ctxKey id k) = s.pword (ctxKey id k)) ∧ t.out = s.out ∧
      regsKeep [leaseKey, CTX_ENG_CTL_EN.off, CTX_ENG_STATUS_REBUILDING.off] s t) ∧
  (∀ s t : State, s.on CTX_ENG_STATUS_REBUILDING = true →
    (scanAll s.listedContexts s = (t, true) → exec .rebuildScanEnd s = .next (t.setFld CTX_ENG_STATUS_REBUILDING 0)) ∧
    (scanAll s.listedContexts s = (t, false) → exec .rebuildScanEnd s = .next t)) ∧
  (∀ (s : State) (id : Nat), s.isFree id = false → s.badWords id = 0 → s.linkBad id = false →
    ((s.ctxWords id).state = stArmed ∨ (s.ctxWords id).state = stDue) →
    (scanOne s id).isFiled id = true ∧ storesKeep s (scanOne s id)))

/-- RESULT_RESPONSE and FLIGHT_TIMEOUT (R93, R145 to R148): a final response frees its flight entry, returns the target's
credit and gives the context its next state; a context no longer IN_FLIGHT stays as it is; a response without an entry
counts as stale; an attempt that outlasts FLIGHT_TIMEOUT counts and leaves the credit an orphan. -/
def Obligations.ResponsesSettleFlights : Prop :=
  (∀ (lane : Fin 4) (src : Fin 224) (tag value i : Nat) (st : Status) (e : Flight) (c : Ctx) (s : State),
    s.laneFull lane = false → s.entryOfTag tag = some (i, e) → (s.pword (flightKey i)).isBad = false → e.destroy = false →
    e.target < 224 → e.id < 1048576 → s.votedOwner e.id < 16 → s.badWords e.id = 0 → s.linkBad e.id = false → c = s.ctxWords e.id → c.state = stInFlight → c.recPolicy = 0 →
    st ≠ .timeout →
    (c.verdict st (value % 2 ^ 24) = .fail → c.retry ≤ e.attempt) →
    ∃ t, exec (.resultResponse lane src tag st value) s = .next t ∧
      t.ctxWords e.id = resultAfter c (c.verdict st (value % 2 ^ 24)) st (value % 2 ^ 24) e.pause s.tickCount ∧
      t.ctx.flight = s.ctx.flight.filter (fun x => decide (x.1 ≠ i)) ∧
      t.fld CTX_CRED_t_CREDIT e.target = (s.fld CTX_CRED_t_CREDIT e.target + 1) % 2 ^ CTX_CRED_t_CREDIT.w ∧ t.out = s.out ∧
      (∀ j, j < 1048576 → j ≠ e.id → t.ctxWords j = s.ctxWords j)) ∧
  (∀ (lane : Fin 4) (src : Fin 224) (tag value i : Nat) (st : Status) (e : Flight) (s : State),
    s.laneFull lane = false → s.entryOfTag tag = some (i, e) → (s.pword (flightKey i)).isBad = false → e.target < 224 →
    s.badWords e.id = 0 → (s.ctxWords e.id).state ≠ stInFlight → st ≠ .timeout →
    ∃ t, exec (.resultResponse lane src tag st value) s = .next t ∧ (∀ j, j < 1048576 → t.ctxWords j = s.ctxWords j) ∧
      t.ctx.flight = s.ctx.flight.filter (fun x => decide (x.1 ≠ i)) ∧ t.ctx.slots = s.ctx.slots ∧
      t.fld CTX_CRED_t_CREDIT e.target = (s.fld CTX_CRED_t_CREDIT e.target + 1) % 2 ^ CTX_CRED_t_CREDIT.w ∧ t.out = s.out) ∧
  (∀ (lane : Fin 4) (src : Fin 224) (tag value : Nat) (st : Status) (s : State), s.laneFull lane = false →
    s.entryOfTag tag = none →
    exec (.resultResponse lane src tag st value) s = .next (staleResponse src (answeredAt (nth 0 ctxEndpoints lane) s)) ∧
      ∀ u : State, (staleResponse src u).fld CTX_ENG_FLIGHT_STALE_RESP =
        (u.fld CTX_ENG_FLIGHT_STALE_RESP + 1) % 2 ^ CTX_ENG_FLIGHT_STALE_RESP.w) ∧
  (∀ (entry : Fin 2560) (i : Nat) (e : Flight) (s : State),
    s.ctx.flight.find? (fun x => decide (x.1 = entry.val)) = some (i, e) → s.fld CTX_ENG_CTL_FLIGHT_TIMEOUT ≠ 0 →
    e.id < 1048576 → s.linkBad e.id = false → s.fld CTX_ENG_CTL_FLIGHT_TIMEOUT < (s.tickCount - e.tick).toNat → s.laneFull e.lane = false →
    (s.pword (flightKey i)).isBad = false → e.target < 224 → e.destroy = false → s.votedOwner e.id < 16 → s.badWords e.id = 0 →
    (s.ctxWords e.id).recPolicy = 0 →
    ∃ t, exec (.flightTimeout entry) s = .next t ∧
      t.fld CTX_ENG_EVENTS_TIMEOUTS = (s.fld CTX_ENG_EVENTS_TIMEOUTS + 1) % 2 ^ CTX_ENG_EVENTS_TIMEOUTS.w ∧
      t.fld CTX_CRED_t_ORPHANS e.target = (s.fld CTX_CRED_t_ORPHANS e.target + 1) % 2 ^ CTX_CRED_t_ORPHANS.w ∧
      t.ctx.flight = s.ctx.flight.filter (fun x => decide (x.1 ≠ i)))

/-- RING_WRITE_RESPONSE, RING_RD_WRITE and RING_CFG_WRITE (R152, R155, R156, R164): a completed write of the oldest record
moves WR, a new RD that lies between the old RD and WR is stored and any other is ignored, and a rise of EN sets WR and
RD to 0. -/
def Obligations.ResultRingPointers : Prop :=
  (∀ (d : Fin 16) (pos lane : Nat) (s : State), s.ctx.writes = [⟨d, pos, lane, none⟩] → s.fld CTX_RINGd_CFG_NOTIFY d = 0 →
    lane < 4 →
    ∃ t, exec (.ringWriteResponse d pos .ok) s = .next t ∧ t.ctx.writes = [] ∧
      t.fld CTX_RINGd_WR_WR d = (s.fld CTX_RINGd_WR_WR d + 1) % 2 ^ 32 ∧
      (s.fld CTX_RINGd_PENDING_PENDING d ≠ 0 →
        t.fld CTX_RINGd_PENDING_PENDING d = s.fld CTX_RINGd_PENDING_PENDING d - 1) ∧ t.out = s.out ∧ t.mem = s.mem ∧
      regsKeep [CTX_RINGd_WR_WR.key d 0 0, CTX_RINGd_PENDING_PENDING.key d 0 0,
        NOC_EPe_STATUS_OUTSTANDING.key (nth 0 ctxEndpoints lane) 0 0] s t) ∧
  (∀ (m : Ident) (d : Fin 16) (h : Half) (data : Word) (s : State) (rd v : Nat), s.admits m .CTX_RINGd_RD [d.val] →
    rd = s.fld CTX_RINGd_RD_RD d → v = bits (s.merged (CTX_RINGd_RD_RD.key d 0 0) h data) 0 32 →
    (v + 2 ^ 32 - rd) % 2 ^ 32 ≤ (s.fld CTX_RINGd_WR_WR d + 2 ^ 32 - rd) % 2 ^ 32 →
    ∃ t, exec (.ringRdWrite m d h data) s = .next t ∧ t.fld CTX_RINGd_RD_RD d = v ∧
      onlyRegs [leaseKey, CTX_RINGd_RD_RD.key d 0 0] s t) ∧
  (∀ (m : Ident) (d : Fin 16) (h : Half) (data : Word) (s : State) (rd v : Nat), s.admits m .CTX_RINGd_RD [d.val] →
    rd = s.fld CTX_RINGd_RD_RD d → v = bits (s.merged (CTX_RINGd_RD_RD.key d 0 0) h data) 0 32 →
    (s.fld CTX_RINGd_WR_WR d + 2 ^ 32 - rd) % 2 ^ 32 < (v + 2 ^ 32 - rd) % 2 ^ 32 →
    ∃ t, exec (.ringRdWrite m d h data) s = .next t ∧ onlyRegs [leaseKey] s t) ∧
  (∀ (m : Ident) (d : Fin 16) (data : Word) (s : State), s.admits m .CTX_RINGd_CFG [d.val] →
    s.on CTX_RINGd_CFG_EN d = false → 4 ≤ bits data 8 5 → bits data 8 5 ≤ 24 → bit data 0 = true →
    ∃ t, exec (.ringCfgWrite m d .full data) s = .next t ∧ t.fld CTX_RINGd_CFG_EN d = 1 ∧
      t.fld CTX_RINGd_CFG_LOG2_SIZE d = bits data 8 5 ∧ t.fld CTX_RINGd_CFG_NOTIFY d = bits data 32 24 ∧
      t.fld CTX_RINGd_WR_WR d = 0 ∧ t.fld CTX_RINGd_RD_RD d = 0 ∧
      onlyRegs [leaseKey, CTX_RINGd_CFG_EN.key d 0 0, CTX_RINGd_WR_WR.key d 0 0, CTX_RINGd_RD_RD.key d 0 0] s t)

/-- MODE_WRITE and FORCE_SAFE (R213 to R215, R217, R219): a write of CHG_MODE waits for its boundary and changes nothing
else; FORCE_SAFE takes the group to SAFE at once, with every driver off and no change pending. -/
def Obligations.ModeWritesWaitAndForceSafeActs : Prop :=
  (∀ (m : Ident) (g : Fin 128) (h : Half) (data : Word) (s : State), s.admits m .CHG_MODE [g.val] → h ≠ .high →
    s.on FLT_STATUS_HALTED = false → wbit h data CHG_MODE_FORCE_SAFE = false → bits data 4 3 < 6 →
    (s.grp g).pattern = false →
    ∃ t, exec (.modeWrite m g h data) s = .next t ∧ t.fld CHG_MODE_NEXT g = bits data 4 3 ∧
      t.fld CHG_MODE_REFLEX g = bits data 8 1 ∧ t.fld CHG_MODE_REGION g = bits data 16 6 ∧
      t.fld CHG_MODE_RELOAD_ACT g = bits data 24 1 ∧ t.fld CHG_MODE_PENDING g = 1 ∧ t.mode g = s.mode g ∧
      t.grp g = { s.grp g with modeDue := s.nextDue, modeFrozen := s.modeFroze g } ∧ (∀ j, j ≠ g.val → t.grp j = s.grp j) ∧
      t = { s with regs := t.regs, chg := { s.chg with groups := t.chg.groups } } ∧
      regsKeep [leaseKey, CHG_MODE_MODE.key g 0 0] s t) ∧
  (∀ (m : Ident) (g : Fin 128) (h : Half) (data : Word) (s : State), s.admits m .CHG_MODE [g.val] → h ≠ .high →
    s.on FLT_STATUS_HALTED = false → wbit h data CHG_MODE_FORCE_SAFE = true → s.mode g ≠ mdSafe → (s.grp g).acts = [] →
    (s.grp g).waiters = [] →
    ∃ t, exec (.forceSafe m g h data) s = .next t ∧ t.mode g = mdSafe ∧ t.fld CHG_MODE_PENDING g = 0 ∧
      t.fld CHG_MODE_REFLEX_ON g = 0 ∧ (∀ i, i < 16 → ((t.grp g).chan i).base = 3 ∧ ((t.grp g).chan i).hold = none) ∧
      (t.grp g).run = none ∧ (t.grp g).stream = none ∧ t.mem = s.mem)

/-- PERIOD_WRITE, EDGES_WRITE, LEVEL_WRITE and SAFE_STATE_WRITE (R169, R170, R178, R179, R181, R218): an accepted value is
stored in its field, a period and an edge wait for their boundary, and the level of a pair holds for both groups. -/
def Obligations.GroupSettingsAreStored : Prop :=
  (∀ (m : Ident) (g : Fin 128) (h : Half) (data : Word) (s : State) (p : Nat), s.admits m .CHG_PERIOD [g.val] → h ≠ .high →
    s.on CHG_STATUS_PLAYING g = false → p = bits data 0 16 → p ≠ 0 → s.edgesFit g p = true →
    ∃ t, exec (.periodWrite m g h data) s = .next t ∧ t.fld CHG_PERIOD_CYCLES g = p ∧
      t.grp g = { s.grp g with pendPeriod := some (p, s.nextDue), periodFrozen := s.periodFroze g } ∧ (∀ j, j ≠ g.val → t.grp j = s.grp j) ∧
      t = { s with regs := t.regs, chg := { s.chg with groups := t.chg.groups } } ∧
      regsKeep [leaseKey, CHG_PERIOD_CYCLES.key g 0 0] s t) ∧
  (∀ (m : Ident) (g : Fin 128) (i : Fin 16) (data : Word) (s : State), s.admits m .CHG_CHi_EDGES [g.val, i.val] →
    bits data 0 23 < 128 * (s.grp g).smallPeriod → bits data 32 23 < 128 * (s.grp g).smallPeriod →
    ∃ t, exec (.edgesWrite m g i .full data) s = .next t ∧ t.fld CHG_CHi_EDGES_DRIVE g i = bits data 0 23 ∧
      t.fld CHG_CHi_EDGES_STROBE g i = bits data 32 23 ∧ i.val ∈ (t.grp g).pendEdges ∧ (t.grp g).chans = (s.grp g).chans ∧
      (∀ j, j ≠ g.val → t.grp j = s.grp j) ∧
      t = { s with regs := t.regs, chg := { s.chg with groups := t.chg.groups } } ∧
      regsKeep [leaseKey, CHG_CHi_EDGES_DRIVE.key g i 0] s t) ∧
  (∀ (m : Ident) (g : Fin 128) (h : Half) (data : Word) (s : State), s.admits m .CHG_DRV_LEVEL [g.val] → h ≠ .high →
    g.val % 2 = 0 → s.groupBusy g = false → s.groupBusy (g.val + 1) = false → 1490 ≤ bits data 0 12 →
    ∃ t, exec (.levelWrite m g h data) s = .next t ∧ t.fld CHG_DRV_LEVEL_VIH g = bits data 0 12 ∧
      t.fld CHG_DRV_LEVEL_VIH (g.val + 1) = bits data 0 12 ∧
      onlyRegs [leaseKey, CHG_DRV_LEVEL_VIH.key g 0 0, CHG_DRV_LEVEL_VIH.key (g.val + 1) 0 0] s t) ∧
  (∀ (m : Ident) (g : Fin 128) (h : Half) (data : Word) (s : State), s.admits m .CHG_SAFE [g.val] → h ≠ .high →
    bits data 0 2 ≠ 3 → bits data 0 2 ≠ 1 →
    ∃ t, exec (.safeStateWrite m g h data) s = .next t ∧ t.fld CHG_SAFE_STATE g = bits data 0 2 ∧
      onlyRegs [leaseKey, CHG_SAFE_STATE.key g 0 0] s t)

/-- VEC_DATA_ACCESS (R183 to R185): a 64-bit write stores a vector at CHG_VEC_ADDR and a 64-bit read answers it; both step
the address, and no other stored word changes. VECTOR_PLAY, VECTOR_RUN_START and VECTOR_RUN_END (R172, R173, R174, R195
to R197, R720): a claimed run starts with its counters clear; at a vector boundary the next vector reaches exactly the
channels its symbols may reach, each driver as its symbol's drive and return edges leave it; the comparators sample
where nothing plays too; and the run that has ended answers with its failing strobes. -/
def Obligations.VectorsAreStoredAndPlayed : Prop :=
  (
  (∀ (m : Ident) (g : Fin 128) (data : Word) (s : State) (key : Nat), s.admits m .CHG_VEC_DATA [g.val] →
    s.on CHG_STATUS_PLAYING g = false → key = vmemKey g (s.fld CHG_VEC_ADDR_ADDR g) →
    ∃ t, exec (.vecDataAccess m g .full (some data)) s = .next t ∧ (t.pword key).value = data ∧ (t.pword key).isBad = false ∧
      (∀ j, j ≠ key → t.pword j = s.pword j) ∧ t.fld CHG_VEC_ADDR_ADDR g = (s.fld CHG_VEC_ADDR_ADDR g + 1) % 32768 ∧
      t.out = s.out ∧ regsKeep [leaseKey, CHG_VEC_ADDR_ADDR.key g 0 0] s t) ∧
  (∀ (m : Ident) (g : Fin 128) (s : State) (key : Nat), s.readable (RegName.CHG_VEC_DATA.off [g.val]) →
    key = vmemKey g (s.fld CHG_VEC_ADDR_ADDR g) → (s.pword key).isBad = false →
    ∃ t, exec (.vecDataAccess m g .full none) s = .next t ∧ t.out = .answer m (s.pword key).value :: s.out ∧
      t.fld CHG_VEC_ADDR_ADDR g = (s.fld CHG_VEC_ADDR_ADDR g + 1) % 32768 ∧ t.mem = s.mem ∧
      regsKeep [CHG_VEC_ADDR_ADDR.key g 0 0] s t)) ∧
  (
  (∀ (g : Fin 128) (a : GAct) (s : State), (s.grp g).acts.find? (fun a => decide (a.act.kind = 4 ∧ a.phase = .claimed)) = some a →
    runMayStart a s = true → (s.grp g).run = none →
    ∃ t, exec (.vectorRunStart g) s = .next t ∧ t.fld CHG_RUN_FAILS g = 0 ∧ t.fld CHG_RUN_PASSES g = 0 ∧
      t.fld CHG_FIRST_FAIL_VALID g = 0 ∧ t.fld CHG_STATUS_PLAYING g = 1 ∧
      (t.grp g).run = some ⟨a.slot, bits a.act.w1 40 15, bits a.act.w1 40 15, 0, 1 + bits a.act.w1 28 12, loopCounts g s, 0, none⟩ ∧
      t.out = s.out ∧ t.mem = s.mem) ∧
  (∀ (g : Fin 128) (balls : List Int) (limits : List (Fin 16)) (r : VecRun) (vec : Word) (s : State), s.mode g ≠ mdSafe → (s.grp g).stream = none →
    (s.grp g).run = some r → r.done = none → (s.grp g).chans.length = 16 → s.on CHG_MODE_REFLEX_ON g = false →
    (s.grp g).responses = [] → (s.pword (vmemKey g r.pos)).isBad = false → vec = (s.pword (vmemKey g r.pos)).value →
    ∃ t, exec (.vectorPlay g balls limits) s = .next t ∧
      t.out = .vector g vec ((loadEdges g s).vih g)
        (sentEdges ((loadEdges g s).grp g) vec (reachable (s.grp g) g)) :: s.out ∧
      (∀ i, i < 16 → i ∈ reachable (s.grp g) g →
        ((t.grp g).chan i).base = symbolEnd (symbolOf vec i) ((s.grp g).chan i) ∧
        t.fld CHG_CHi_LAST_STATE g i = s.compare g i (balls.getD i 0)) ∧
      (∀ i ∈ limits, ((t.grp g).chan i).shown = 1 ∨ ((t.grp g).chan i).shown = 2 → ((t.grp g).chan i).compliance = true) ∧
      (∀ i, i ∉ limits → ((t.grp g).chan i.val).compliance = ((s.grp g).chan i.val).compliance) ∧
      (∀ i, i < 16 → i ∉ reachable (s.grp g) g → ((t.grp g).chan i).base = ((s.grp g).chan i).base) ∧ t.mem = s.mem) ∧
  (∀ (g : Fin 128) (balls : List Int) (limits : List (Fin 16)) (s : State), s.mode g = mdParametric → (s.grp g).run = none → (s.grp g).stream = none →
    (s.grp g).responses = [] →
    ∃ t, exec (.vectorPlay g balls limits) s = .next t ∧
      (∀ i, i < 16 → i ∈ reachable (s.grp g) g → t.fld CHG_CHi_LAST_STATE g i = s.compare g i (balls.getD i 0)) ∧
      (∀ i, i < 16 → ((t.grp g).chan i).base = ((s.grp g).chan i).base) ∧ t.out = s.out ∧ t.mem = s.mem) ∧
  (∀ (g : Fin 128) (r : VecRun) (st : Status) (a : GAct) (s : State), (s.grp g).run = some r → r.done = some st →
    (s.grp g).acts = [a] → a.slot = r.slot → a.held = [] → a.phase = .playing →
    ∃ t, exec (.vectorRunEnd g) s = .next t ∧
      t.out = .result a.act.src g a.act.tag st (if st = .ok then r.fails else 0) :: s.out ∧ (t.grp g).run = none ∧
      (t.grp g).acts = [] ∧ t.fld CHG_STATUS_QUEUED g = 0 ∧ t.mem = s.mem))

/-- STREAM_GO, STREAM_STOP, STREAM_READ_RESPONSE and FABRIC_VECTOR (R198, R199, R201, R203): GO arms the stream and asks
DRAM for as many vectors as the buffer holds, the vectors that come are buffered in order, STOP is remembered until the
next vector boundary, and a fabric vector joins the crossing buffer. -/
def Obligations.StreamsFillTheirBuffer : Prop :=
  (∀ (m : Ident) (g : Fin 128) (data : Word) (s : State) (len n : Nat), s.admits m .CHG_STREAM_CTL [g.val] →
    wbit .full data CHG_STREAM_CTL_GO = true → wbit .full data CHG_STREAM_CTL_STOP = false →
    s.on CHG_STREAM_CTL_ARMED g = false → s.mode g = mdStream → len = bits data 8 28 → len ≠ 0 →
    s.fld CHG_STREAM_AT_TICK g ≤ s.fld TCK_COUNT_COUNT + 2 ^ 30 → n = (s.grp g).streams + 1 →
    ∃ t, exec (.streamGo m g .full data) s = .next t ∧ t.fld CHG_STREAM_CTL_ARMED g = 1 ∧
      t.fld CHG_STREAM_CTL_LENGTH g = len ∧ t.reg (CHG_STREAM_STATUS_PLAYED.key g 0 0) = 0 ∧
      (t.grp g).stream = some ⟨n, [], min len 2048, 0, false,
        decide (s.fld CHG_STREAM_AT_TICK g ≤ s.fld TCK_COUNT_COUNT), false, s.nextDue⟩ ∧
      t.out = .streamRead g n (8 * s.fld CHG_STREAM_BASE_ADDR g) (min len 2048) :: s.out ∧ t.mem = s.mem ∧
      regsKeep [leaseKey, CHG_STREAM_CTL_ARMED.key g 0 0, CHG_STREAM_STATUS_PLAYED.key g 0 0] s t) ∧
  (∀ (m : Ident) (g : Fin 128) (data : Word) (x : StreamState) (s : State), s.admits m .CHG_STREAM_CTL [g.val] →
    wbit .full data CHG_STREAM_CTL_GO = false → wbit .full data CHG_STREAM_CTL_STOP = true → (s.grp g).stream = some x →
    ∃ t, exec (.streamStop m g .full data) s = .next t ∧ (t.grp g).stream = some { x with stop := true } ∧ t.out = s.out ∧
      t.mem = s.mem ∧ regsKeep [leaseKey, CHG_STREAM_CTL_ARMED.key g 0 0] s t) ∧
  (∀ (g : Fin 128) (ws : List Word) (x : StreamState) (s : State), (s.grp g).stream = some x →
    ∃ t, exec (.streamReadResponse g x.number .ok ws) s = .next t ∧
      (t.grp g).stream = some { x with buffer := x.buffer ++ ws.take (x.asked - x.got),
                                       got := x.got + (ws.take (x.asked - x.got)).length } ∧
      t.fld CHG_STREAM_STATUS_BUFFERED g =
        (x.buffer ++ ws.take (x.asked - x.got)).length % 2 ^ CHG_STREAM_STATUS_BUFFERED.w ∧ t.out = s.out ∧ t.mem = s.mem ∧
      regsKeep [CHG_STREAM_STATUS_BUFFERED.key g 0 0, NOC_EPe_STATUS_OUTSTANDING.key (dieEndpoint (g.val / 32)) 0 0] s t) ∧
  (∀ (g : Fin 128) (vec : Word) (s : State), s.mode g = mdFabric → (s.grp g).closed = false → (s.grp g).crossing.length < 16 →
    ∃ t, exec (.fabricVector g vec) s = .next t ∧ t.grp g = { s.grp g with crossing := (s.grp g).crossing ++ [vec] } ∧
      (∀ j, j ≠ g.val → t.grp j = s.grp j) ∧ t.out = s.out ∧ storesKeep s t)

/-- GROUP_ACTION (R189, R190, R637): an action from the context engine of a kind that the mode accepts takes the lowest free
slot of the queue; one whose kind the mode does not accept is answered FENCED, one from another source DECODE. -/
def Obligations.GroupActionsQueue : Prop :=
  (∀ (g : Fin 128) (a : Action) (slot : Nat) (s : State), ctxEndpoints.contains a.src = true →
    s.gateOpen (10 + g.val / 32) = true → modeAccepts (s.mode g) a.kind = true → (s.grp g).freeSlot = some slot →
    ∃ t x, exec (.groupAction g a) s = .next t ∧ x ∈ (t.grp g).acts ∧ x.slot = slot ∧ x.act = a ∧
      (t.grp g).acts.length = (s.grp g).acts.length + 1 ∧
      t.fld CHG_STATUS_QUEUED g = ((s.grp g).acts.length + 1) % 2 ^ CHG_STATUS_QUEUED.w ∧ t.mem = s.mem) ∧
  (∀ (g : Fin 128) (a : Action) (s : State), ctxEndpoints.contains a.src = true → s.gateOpen (10 + g.val / 32) = true →
    modeAccepts (s.mode g) a.kind = false →
    ∃ t, exec (.groupAction g a) s = .next t ∧ t.out = .result a.src g a.tag .fenced 0 :: s.out ∧ t.chg = s.chg ∧ t.mem = s.mem) ∧
  (∀ (g : Fin 128) (a : Action) (s : State), ctxEndpoints.contains a.src = false →
    ∃ t, exec (.groupAction g a) s = .next t ∧ t.out = .result a.src g a.tag .decode 0 :: s.out ∧ t.chg = s.chg ∧ t.mem = s.mem)

/-- COMPANION_CLAIM, COMPANION_GRANT, COMPANION_REFUSED, COMPANION_RELEASE and REFLEX_HOLD_END (R192 to R195, R209): a claim
of a free channel is granted at once, the grant completes the action's claims, a refusal answers the action, a release
frees the channel, and a reflex response whose HOLD expires gives the driver back. -/
def Obligations.ChannelClaims : Prop :=
  (∀ (c : Fin 2048) (g : Fin 128) (slot : Fin 16) (s : State) (h i : Nat), h = c.val / 16 → i = c.val % 16 → g.val ≠ h →
    (s.mode h = mdContext ∨ s.mode h = mdParametric) → (s.grp h).step = none → (s.grp h).waiters = [] →
    (s.grp h).chans.length = 16 → ((s.grp h).chan i).holder = none →
    ∃ t, exec (.companionClaim c g slot) s = .next t ∧ ((t.grp h).chan i).holder = some ⟨g, slot⟩ ∧ (t.grp h).waiters = [] ∧
      t.fbit CHG_STATUS_CLAIMED i h = true ∧ ((t.grp h).chan i).hold = none ∧ t.out = .grant c g slot (sameDie h g) :: s.out ∧ t.mem = s.mem ∧
      regsKeep [CHG_STATUS_CLAIMED.key h 0 0, CHG_CHi_LAST_DRIVER.key h i 0] s t) ∧
  (∀ (c : Fin 2048) (g : Fin 128) (slot : Fin 16) (s : State) (h i : Nat), h = c.val / 16 → i = c.val % 16 →
    (s.grp h).waiters = [] → ((s.grp h).chan i).holder = some ⟨g, slot⟩ →
    ∃ t, exec (.companionRelease c g slot) s = .next t ∧ ((t.grp h).chan i).holder = none ∧
      t.fbit CHG_STATUS_CLAIMED i h = false ∧ t.out = (if sameDie g h then [] else [.released c g slot]) ++ s.out ∧ t.mem = s.mem ∧
      regsKeep [CHG_STATUS_CLAIMED.key h 0 0, CHG_CHi_LAST_DRIVER.key h i 0] s t) ∧
  (∀ (g : Fin 128) (slot : Fin 16) (c : Fin 2048) (a : GAct) (s : State), (s.grp g).acts = [a] → a.slot = slot.val →
    a.phase = .claiming [c.val] → a.act.kind ≠ 3 →
    ∃ t, exec (.companionGrant g slot c) s = .next t ∧
      (t.grp g).acts = [{ a with phase := .claimed, held := a.held ++ [c.val] }] ∧ t.out = s.out ∧ storesKeep s t) ∧
  (∀ (g : Fin 128) (slot : Fin 16) (c : Fin 2048) (st : Status) (a : GAct) (rest : List Nat) (s : State),
    (s.grp g).acts = [a] → a.slot = slot.val → a.phase = .claiming (c.val :: rest) → a.held = [] →
    ∃ t, exec (.companionRefused g slot c st) s = .next t ∧ t.out = .result a.act.src g a.act.tag st 0 :: s.out ∧
      (t.grp g).acts = [] ∧ t.mem = s.mem) ∧
  (∀ (g : Fin 128) (i : Fin 16) (level : Bool) (s : State), ((s.grp g).chan i).hold = some (level, false) →
    ((s.grp g).chan i).onBus = false →
    ∃ t, exec (.reflexHoldEnd g i) s = .next t ∧ ((t.grp g).chan i).hold = none ∧
      ((t.grp g).chan i).base = ((s.grp g).chan i).base ∧
      t.fld CHG_CHi_LAST_DRIVER g i = ((s.grp g).chan i).base % 4 ∧ t.out = s.out ∧ t.mem = s.mem ∧
      regsKeep [CHG_CHi_LAST_DRIVER.key g i 0] s t)

/-- MEASURE_CONNECT, SETTLE_END, ADC_QUANTITY_START, ADC_CONVERSION_END and COMPANION_RESULT (R221, R226 to R228): a claimed
action connects its units and settles; a load beyond a unit's limit sets its channel's flag (R223, R224); then its
quantities join the line of their channel's converter, which takes one quantity at a time and hands its sum to the
action after the last conversion. -/
def Obligations.MeasurementPhases : Prop :=
  (∀ (g : Fin 128) (slot : Fin 16) (a : GAct) (s : State), (s.grp g).inSlot slot = some a → a.phase = .claimed →
    a.act.kind ≤ 2 → (s.grp (a.act.chA / 16)).chans.length = 16 →
    ∃ t, exec (.measureConnect g slot) s = .next t ∧
      (t.grp g).inSlot slot = some { a with phase := .settling, badParam := a.act.noForce } ∧
      (a.act.noForce = false → ((t.grp (a.act.chA / 16)).chan (a.act.chA % 16)).unit ≠ .off ∧
        ((t.grp (a.act.chA / 16)).chan (a.act.chA % 16)).base = 0) ∧ t.out = s.out ∧ t.mem = s.mem) ∧
  (∀ (g : Fin 128) (slot : Fin 16) (loads : List (Nat × Int)) (a : GAct) (c : Nat) (v : Bool) (s : State),
    (s.grp g).inSlot slot = some a → a.phase = .settling → a.badParam = false → a.act.capacitance = false →
    a.act.quantityList = [(c, v)] →
    ∃ t, exec (.settleEnd g slot loads) s = .next t ∧
      (t.grp g).inSlot slot = some { a with phase := .converting, quantities := 1 } ∧
      ⟨s.channelCycle, ⟨g, slot⟩, a.serial, 0, v⟩ ∈ (t.grp (c / 16)).adcQueue ∧ t.out = (noteLoads loads s).out ∧ t.mem = s.mem ∧
      regsKeep [CHG_ADC_STATUS_WAITING.key (c / 16) 0 0] s t) ∧
  (∀ (g : Fin 128) (slot : Fin 16) (c : Fin 2048) (load : Int) (s : State), (s.grp (c / 16)).chans.length = 16 →
    ∃ t, exec (.settleEnd g slot [(c.val, load)]) s = .next t ∧
      (((s.grp (c / 16)).chan (c % 16)).unit = .forceV → t.overrange c =
        (s.overrange c || decide (1000 * fullScale (s.rangeAt c) < load.natAbs)) ∧ t.compliance c = s.compliance c) ∧
      (((s.grp (c / 16)).chan (c % 16)).unit = .forceI → t.compliance c =
        (s.compliance c || decide (load < 0 ∨ 3300000000 < load)) ∧ t.overrange c = s.overrange c)) ∧
  (∀ (g : Fin 128) (q : Quantity) (rest : List Quantity) (s : State), (s.grp g).adc = none → (s.grp g).adcQueue = q :: rest →
    ∃ t, exec (.adcQuantityStart g) s = .next t ∧ (t.grp g).adc = some ⟨q, 0, 0, q.voltage, !q.voltage⟩ ∧
      (t.grp g).adcQueue = rest ∧ t.fld CHG_ADC_STATUS_WAITING g = min rest.length 63 ∧ t.out = s.out ∧ t.mem = s.mem ∧
      regsKeep [CHG_ADC_STATUS_WAITING.key g 0 0] s t) ∧
  (∀ (g : Fin 128) (code : BitVec 16) (loads : List (Nat × Int)) (c : Conversion) (a : GAct) (s : State), (s.grp g).adc = some c →
    c.q.who.group = g.val → (s.grp g).inSlot c.q.who.slot = some a → a.phase = .converting → a.results = [] → a.quantities = 1 →
    s.avgCount g ≤ c.count + 1 →
    ∃ t, exec (.adcConversionEnd g code false loads) s = .next t ∧ (t.grp g).adc = none ∧
      (t.grp g).inSlot c.q.who.slot = some { a with
        results := [(c.q.idx, ⟨c.sum + signed 16 code.toNat, c.count + 1, c.gain16⟩)], phase := .computing } ∧
      t.fld CHG_ADC_STATUS_LAST_CODE g = code.toNat ∧
      t.fld CHG_MEAS_COUNT_CONVERSIONS g = (s.fld CHG_MEAS_COUNT_CONVERSIONS g + 1) % 2 ^ 32 ∧ t.out = (noteLoads loads s).out ∧ t.mem = s.mem ∧
      regsKeep [CHG_ADC_STATUS_LAST_CODE.key g 0 0, CHG_MEAS_COUNT_CONVERSIONS.key g 0 0] s t) ∧
  (∀ (g : Fin 128) (slot : Fin 16) (idx : Fin 3) (sum : Int) (n : Nat) (gain : Bool) (a : GAct) (s : State),
    (s.grp g).inSlot slot = some a → a.phase = .converting → a.results = [] → a.quantities = 1 →
    ∃ t, exec (.companionResult g slot idx sum n gain) s = .next t ∧
      (t.grp g).inSlot slot = some { a with results := [(idx.val, ⟨sum, n, gain⟩)], phase := .computing } ∧ t.out = s.out ∧
      storesKeep s t)

/-- MEASURE_RESPOND, RAMP_CROSSING, RAMP_LIMIT, RAMP_DISCHARGE_END and TDR_START (R226, R234 to R236): Compute answers the
action with its value, the two crossings of a capacitance ramp are stamped and its discharge follows, and the sequencer
takes the first TDR action in line. RAIL_READING (R256, R257): a reading is stored; inside its window it ends the
excursion, and the second in a row outside sets OUT and raises the die's rail fault; later ones in the excursion set OUT
and raise nothing. -/
def Obligations.MeasurementsAndRailsAnswer : Prop :=
  (
  (∀ (g : Fin 128) (slot : Fin 16) (a : GAct) (s : State), (s.grp g).inSlot slot = some a → a.phase = .computing → a.held = [] →
    ∃ t, exec (.measureRespond g slot) s = .next t ∧
      t.out = .result a.act.src g a.act.tag (if a.badParam then .errData else .ok) (measureValue a s) :: s.out ∧
      (t.grp g).acts = (s.grp g).acts.filter (fun b => decide (b.slot ≠ a.slot)) ∧
      t.fld CHG_MEAS_LAST_VALUE g = measureValue a s % 2 ^ 24 ∧
      t.fld CHG_MEAS_COUNT_ACTIONS g = (s.fld CHG_MEAS_COUNT_ACTIONS g + 1) % 2 ^ 32 ∧ t.mem = s.mem) ∧
  (∀ (g : Fin 128) (slot : Fin 16) (stamp : Nat) (loads : List (Nat × Int)) (a : GAct) (s : State), (s.grp g).inSlot slot = some a →
    a.phase = .ramping none →
    ∃ t, exec (.rampCrossing g slot stamp loads) s = .next t ∧
      (t.grp g).inSlot slot = some { a with phase := .ramping (some stamp) } ∧ t.out = (noteLoads loads s).out ∧ storesKeep s t) ∧
  (∀ (g : Fin 128) (slot : Fin 16) (stamp t1 : Nat) (loads : List (Nat × Int)) (a : GAct) (s : State), (s.grp g).inSlot slot = some a →
    a.phase = .ramping (some t1) →
    ∃ t, exec (.rampCrossing g slot stamp loads) s = .next t ∧
      (t.grp g).inSlot slot = some { a with phase := .discharging, ramp := some (stamp - t1) } ∧ t.out = (noteLoads loads s).out ∧
      t.mem = s.mem ∧ regsKeep [CHG_CHi_LAST_DRIVER.key (a.act.chA / 16) (a.act.chA % 16) 0] s t) ∧
  (∀ (g : Fin 128) (slot : Fin 16) (t1 : Option Nat) (loads : List (Nat × Int)) (a : GAct) (s : State), (s.grp g).inSlot slot = some a →
    a.phase = .ramping t1 →
    ∃ t, exec (.rampLimit g slot loads) s = .next t ∧
      (t.grp g).inSlot slot = some { a with phase := .discharging, ramp := none } ∧ t.out = (noteLoads loads s).out ∧ t.mem = s.mem ∧
      regsKeep [CHG_CHi_LAST_DRIVER.key (a.act.chA / 16) (a.act.chA % 16) 0] s t) ∧
  (∀ (g : Fin 128) (slot : Fin 16) (loads : List (Nat × Int)) (a : GAct) (s : State), (s.grp g).inSlot slot = some a →
    a.phase = .discharging →
    ∃ t, exec (.rampDischargeEnd g slot loads) s = .next t ∧ (t.grp g).inSlot slot = some { a with phase := .computing } ∧
      t.out = (noteLoads loads s).out ∧ storesKeep s t) ∧
  (∀ (g : Fin 128) (slot : Nat) (rest : List Nat) (a : GAct) (s : State), (s.grp g).tdr = none →
    (s.grp g).tdrQueue = slot :: rest → (s.grp g).inSlot slot = some a →
    ∃ t, exec (.tdrStart g) s = .next t ∧ (t.grp g).tdr = some ⟨slot, false, false, 0, 0, true, 0, 0, 0, false⟩ ∧
      (t.grp g).tdrQueue = rest ∧ (t.grp g).inSlot slot = some { a with phase := .tdr } ∧ t.out = s.out ∧ storesKeep s t)) ∧
  (
  (∀ (d k : Fin 4) (v : BitVec 16) (s : State), ¬ railNumber k v.toNat < railNumber k (s.fld CHG_RAILk_LOW d k) →
    ¬ railNumber k (s.fld CHG_RAILk_HIGH d k) < railNumber k v.toNat →
    ∃ t, exec (.railReading d k v) s = .next t ∧ t.fld CHG_RAILk_VALUE d k = v.toNat ∧
      Memory.get (fun _ => 0) t.chg.streaks (4 * d.val + k.val) = 0 ∧ t.out = s.out ∧ t.mem = s.mem ∧
      regsKeep [CHG_RAILk_VALUE.key d k 0] s t) ∧
  (∀ (d k : Fin 4) (v : BitVec 16) (s : State), (railNumber k v.toNat < railNumber k (s.fld CHG_RAILk_LOW d k) ∨
      railNumber k (s.fld CHG_RAILk_HIGH d k) < railNumber k v.toNat) →
    Memory.get (fun _ => 0) s.chg.streaks (4 * d.val + k.val) = 1 →
    ∃ u, exec (.railReading d k v) s = .next (raise (0x280 + d.val) k.val u) ∧ u.fld CHG_RAILk_VALUE d k = v.toNat ∧
      u.fld CHG_RAILk_OUT d k = 1 ∧ u.out = s.out ∧ u.mem = s.mem ∧ regsKeep [CHG_RAILk_VALUE.key d k 0, CHG_RAILk_OUT.key d k 0] s u) ∧
  (∀ (d k : Fin 4) (v : BitVec 16) (s : State), (railNumber k v.toNat < railNumber k (s.fld CHG_RAILk_LOW d k) ∨
      railNumber k (s.fld CHG_RAILk_HIGH d k) < railNumber k v.toNat) →
    2 ≤ Memory.get (fun _ => 0) s.chg.streaks (4 * d.val + k.val) →
    ∃ t, exec (.railReading d k v) s = .next t ∧ t.fld CHG_RAILk_VALUE d k = v.toNat ∧ t.fld CHG_RAILk_OUT d k = 1 ∧
      t.out = s.out ∧ t.mem = s.mem ∧ regsKeep [CHG_RAILk_VALUE.key d k 0, CHG_RAILk_OUT.key d k 0] s t))

/-- CAL_GROUP, CAL_LOAD, CAL_REFERENCE and SELFTEST_GROUP (R250, R252 to R254): the command joins the commands in execution,
each group of its range holds a task of it, and the group shows that it runs. CAL_STORE, CAL_STEP_END, CAL_TIMEOUT and
VMEM_TEST_END (R243, R245, R248, R250 to R252, R254, R255): a stored image is the record of the group, a step that ends
joins its task and gives its channels back, a command whose timeout has passed ends and leaves no task, and a finished
pattern leaves the vector memory zero. -/
def Obligations.CalibrationBeginsAndEnds : Prop :=
  (
  (∀ (p : Packet) (g : Nat) (s : State), s.accepts 0x0401 3 .owner p → calRangeValid p = true → calRange p = [g] → p.w 3 ≠ 0 →
    bits (p.w 2) 0 5 ≠ 0 → (g % 2 = 1 → bits (p.w 2) 0 5 ≠ 4) →
    ∃ t, exec (.calGroup p) s = .next t ∧
      t.chg.cmds = s.chg.cmds ++ [⟨p, [g], 0, [], none, 0, s.fld TCK_COUNT_COUNT + (p.w 3).toNat⟩] ∧
      (t.grp g).tasks = (s.grp g).tasks ++ [⟨p, .items (bits (p.w 2) 0 5), [], 0, 0, 0, false⟩] ∧
      t.fld CHG_CAL_STATUS_CAL_RUNNING g = 1 ∧ t.out = s.out ∧ t.mem = s.mem) ∧
  (∀ (p : Packet) (g : Nat) (s : State), s.accepts 0x0402 3 .owner p → calRangeValid p = true → calRange p = [g] → p.w 3 ≠ 0 →
    ∃ t, exec (.calLoad p) s = .next t ∧
      t.chg.cmds = s.chg.cmds ++ [⟨p, [g], 0, [], none, 0, s.fld TCK_COUNT_COUNT + (p.w 3).toNat⟩] ∧
      (t.grp g).tasks = (s.grp g).tasks ++ [⟨p, .load (bits (p.w 2) 0 2), [], 0, 0, 0, false⟩] ∧
      t.fld CHG_CAL_STATUS_CAL_RUNNING g = 1 ∧ t.out = s.out ∧ t.mem = s.mem) ∧
  (∀ (p : Packet) (g : Nat) (s : State), s.accepts 0x0405 3 .owner p → bits (p.w 1) 0 11 / 16 = g → bits (p.w 1) 11 11 / 16 = g →
    p.w 3 ≠ 0 →
    ∃ t, exec (.calReference p) s = .next t ∧
      t.chg.cmds = s.chg.cmds ++ [⟨p, [g], 0, [], none, 0, s.fld TCK_COUNT_COUNT + (p.w 3).toNat⟩] ∧
      (t.grp g).tasks = (s.grp g).tasks ++ [⟨p, .reference, [], 0, 0, 0, false⟩] ∧
      t.fld CHG_CAL_STATUS_CAL_RUNNING g = 1 ∧ t.out = s.out ∧ t.mem = s.mem) ∧
  (∀ (p : Packet) (g : Nat) (s : State), s.accepts 0x0404 3 .owner p → calRangeValid p = true → calRange p = [g] → p.w 3 ≠ 0 →
    bits (p.w 2) 0 5 % 8 ≠ 0 →
    ∃ t x, exec (.selftestGroup p) s = .next t ∧
      t.chg.cmds = s.chg.cmds ++ [⟨p, [g], 0, [], none, 0, s.fld TCK_COUNT_COUNT + (p.w 3).toNat⟩] ∧ x ∈ (t.grp g).tasks ∧
      x.cmd = p ∧ x.work = .tests (bits (p.w 2) 0 5) ∧ x.stepsDone = false ∧ t.fld CHG_ST_RESULT_RAN g = 0 ∧
      t.fld CHG_CAL_STATUS_ST_RUNNING g = 1 ∧ t.out = s.out ∧ t.mem = s.mem)) ∧
  (
  (∀ (p : Packet) (g : Nat) (s : State), s.accepts 0x0403 1 .owner p → s.nva.waiting = [] → calRangeValid p = true → calRange p = [g] →
    ∃ u, exec (.calStore p []) s = .next (endCommand p .ok [1] u) ∧
      storedRecord (storeTarget g s).1 g u = some (imageRecord g ((storeTarget g s).2 + 1) s) ∧
      u.fld NVA_WRITES_COUNT = (s.fld NVA_WRITES_COUNT + 256) % 2 ^ NVA_WRITES_COUNT.w ∧ u.out = s.out ∧
      regsKeep [NVA_WRITES_COUNT.off] (beginCommand p s) u) ∧
  (∀ (g : Fin 128) (st : CalStep) (x : CalTask) (i : Nat) (s : State), (s.grp g).step = some [i] →
    i < (s.grp g).chans.length → (s.grp g).tasks = [x] → x.stepping = true → st.last = false →
    ∃ t, exec (.calStepEnd g st) s = .next t ∧ (t.grp g).step = none ∧ ((t.grp g).chan i).base = ((s.grp g).chan i).base ∧
      ((t.grp g).chan i).onBus = false ∧ ((t.grp g).chan i).unit = .off ∧
      (t.grp g).tasks = [{ x with staged := x.staged ++ st.staged, failTests := x.failTests ||| st.failTests % 8,
                                  failChans := x.failChans ||| st.failChans % 65536, stepsDone := false }] ∧
      t.out = s.out ∧ t.mem = s.mem ∧ regsKeep [CHG_CHi_LAST_DRIVER.key g i 0] s t) ∧
  (∀ (p : Packet) (c : CalCmd) (s : State), s.chg.cmds.find? (fun c => decide (c.pkt = p)) = some c →
    c.deadline ≤ s.fld TCK_COUNT_COUNT →
    ∃ t, exec (.calTimeout p) s = .next t ∧ t = dropCal p (calReply c true s) ∧ (∀ x ∈ t.chg.cmds, x.pkt ≠ p) ∧
      (p.opcode = 0x0402 → calReply c true s =
        endCommand p .busy [BitVec.ofNat 64 c.doneCount, BitVec.ofNat 64 (firstGroup c.notDone)] s)) ∧
  (∀ (g : Fin 128) (ok : Bool) (x : CalTask) (s : State), (s.grp g).tasks = [x] → x.vmem.testBit 4 = true → x.stepsDone = false →
    ∃ t, exec (.vmemTestEnd g true ok) s = .next t ∧ (∀ a, a < 32768 → t.pword (vmemKey g a) = memDefault (vmemKey g a)) ∧
      (∀ k, (k < vmemKey g 0 ∨ vmemKey (g.val + 1) 0 ≤ k) → t.pword k = s.pword k) ∧ (t.grp g).pattern = false ∧
      (t.grp g).tasks = [{ x with vmem := x.vmem - 16, failTests := x.failTests ||| (if ok then 0 else 16) }] ∧
      t.fld CHG_ST_RESULT_RAN g = s.fld CHG_ST_RESULT_RAN g ||| 16 ∧ t.out = s.out))

/-- NOP, ADD, SUB, ASH, ABS, ADDI, AND, OR, XOR, CMP, MOVI, LUI, MPY, MAC, MSU and RND (R265, R267, R272 to R274, R276 to
R278): the destination takes the result in the width of its class, the flags follow it, and the engine goes on with the
next instruction; a form whose register classes the table does not allow, such as an accumulator source of a data
register, takes the ILLEGAL trap. An overflow under OVT traps as well (SgeTraps). -/
def Obligations.SgeArithmetic : Prop :=
  (∀ (e : Fin 32) (w : BitVec 32) (s t : State), s.issues e 0x00 w t →
    ∃ u, exec (.nop e) s = .next u ∧ u.bank e = (s.bank e).onward [] [] ∧ engineRan e s u t) ∧
  (∀ (e : Fin 32) (w : BitVec 32) (s t : State), s.issues e 0x01 w t →
    match arith (s.bank e) (rdOf w) [raOf w, rbOf w] (fun v => v (raOf w) + v (rbOf w)) with
    | none => exec (.add e) s = .next (syncEngine e (takeTrap e 3 (s.bank e).pc (s.bank e).pc t))
    | some (b, v) => (v = true → bit b.sr srOVT = false) →
      ∃ u, exec (.add e) s = .next u ∧ u.bank e = b.onward [] (acDest (rdOf w)) ∧ engineRan e s u t ∧
        u.fld SGE_CYCLES_BUSY e = (s.fld SGE_CYCLES_BUSY e + 1 +
          bnat ((s.bank e).loaded.contains (raOf w) || (s.bank e).loaded.contains (rbOf w))) % 2 ^ 64) ∧
  (∀ (e : Fin 32) (w : BitVec 32) (s t : State), s.issues e 0x02 w t →
    match arith (s.bank e) (rdOf w) [raOf w, rbOf w] (fun v => v (raOf w) - v (rbOf w)) with
    | none => exec (.sub e) s = .next (syncEngine e (takeTrap e 3 (s.bank e).pc (s.bank e).pc t))
    | some (b, v) => (v = true → bit b.sr srOVT = false) →
      ∃ u, exec (.sub e) s = .next u ∧ u.bank e = b.onward [] (acDest (rdOf w)) ∧ engineRan e s u t) ∧
  (∀ (e : Fin 32) (w : BitVec 32) (s t : State), s.issues e 0x06 w t →
    match arith (s.bank e) (rdOf w) [raOf w, rbOf w] (fun v => shiftBy (v (raOf w)) ((s.bank e).int24 (rbOf w))) with
    | none => exec (.ash e) s = .next (syncEngine e (takeTrap e 3 (s.bank e).pc (s.bank e).pc t))
    | some (b, v) => (v = true → bit b.sr srOVT = false) →
      ∃ u, exec (.ash e) s = .next u ∧ u.bank e = b.onward [] (acDest (rdOf w)) ∧ engineRan e s u t) ∧
  (∀ (e : Fin 32) (w : BitVec 32) (s t : State), s.issues e 0x07 w t →
    match arith (s.bank e) (rdOf w) [raOf w] (fun v => ((v (raOf w)).natAbs : Int)) with
    | none => exec (.abs e) s = .next (syncEngine e (takeTrap e 3 (s.bank e).pc (s.bank e).pc t))
    | some (b, v) => (v = true → bit b.sr srOVT = false) →
      ∃ u, exec (.abs e) s = .next u ∧ u.bank e = b.onward [] (acDest (rdOf w)) ∧ engineRan e s u t) ∧
  (∀ (e : Fin 32) (w : BitVec 32) (s t : State), s.issues e 0x09 w t →
    match arith (s.bank e) (rdOf w) [raOf w] (fun v => v (raOf w) + immOf w) with
    | none => exec (.addi e) s = .next (syncEngine e (takeTrap e 3 (s.bank e).pc (s.bank e).pc t))
    | some (b, v) => (v = true → bit b.sr srOVT = false) →
      ∃ u, exec (.addi e) s = .next u ∧ u.bank e = b.onward [] (acDest (rdOf w)) ∧ engineRan e s u t) ∧
  (∀ (e : Fin 32) (w : BitVec 32) (c : Instr) (op : Nat) (f : BitVec 24 → BitVec 24 → BitVec 24) (s t : State),
    (c, op, f) ∈ [(Instr.and e, 0x03, fun x y => x &&& y), (.or e, 0x04, fun x y => x ||| y), (.xor e, 0x05, fun x y => x ^^^ y)] →
    s.issues e op w t →
    if rdOf w < 16 ∧ raOf w < 16 ∧ rbOf w < 16 then
      ∃ u, exec c s = .next u ∧ engineRan e s u t ∧ u.bank e =
        ((s.bank e).flagNZ (rdOf w) (f ((s.bank e).getD (raOf w)) ((s.bank e).getD (rbOf w)))).onward [] []
    else exec c s = .next (syncEngine e (takeTrap e 3 (s.bank e).pc (s.bank e).pc t))) ∧
  (∀ (e : Fin 32) (w : BitVec 32) (s t : State), s.issues e 0x08 w t → rdOf w = 0 → bit (s.bank e).sr srOVT = false →
    ∃ u, exec (.cmp e) s = .next u ∧ engineRan e s u t ∧ u.bank e = SgeBank.onward
      (if isAc (raOf w) || isAc (rbOf w) then (s.bank e).only56 ((s.bank e).int56 (raOf w) - (s.bank e).int56 (rbOf w))
       else (s.bank e).only24 ((s.bank e).int24 (raOf w) - (s.bank e).int24 (rbOf w))).1 [] []) ∧
  (∀ (e : Fin 32) (w : BitVec 32) (s t : State), s.issues e 0x0A w t → raOf w = 0 →
    ∃ u b, exec (.movi e) s = .next u ∧ engineRan e s u t ∧ u.bank e = b.onward [] (acDest (rdOf w)) ∧
      (rdOf w < 16 → b = (s.bank e).flagNZ (rdOf w) (to24 (immOf w))) ∧
      (16 ≤ rdOf w → rdOf w < 24 → b = { (s.bank e).putAc (rdOf w - 16) (to56 (immOf w)) with
        sr := srNZ (s.bank e).sr (decide (immOf w < 0)) (decide (immOf w = 0)) }) ∧
      (24 ≤ rdOf w → b = (s.bank e).putPt (rdOf w - 24) (to14 (immOf w)))) ∧
  (∀ (e : Fin 32) (w : BitVec 32) (s t : State), s.issues e 0x0B w t → raOf w = 0 → rdOf w < 16 →
    ∃ u, exec (.lui e) s = .next u ∧ engineRan e s u t ∧
      u.bank e = ((s.bank e).flagNZ (rdOf w) (to24 (immOf w * 256))).onward [] []) ∧
  (∀ (e : Fin 32) (w : BitVec 32) (c : Instr) (op : Nat) (f : Int → Int → Int) (s t : State),
    (c, op, f) ∈ [(Instr.mpy e, 0x10, fun _ p => p), (.mac e, 0x11, fun a p => a + p), (.msu e, 0x12, fun a p => a - p)] →
    s.issues e op w t → isAc (rdOf w) = true → raOf w < 16 → rbOf w < 16 → bit (s.bank e).sr srOVT = false →
    ∃ u, exec c s = .next u ∧ engineRan e s u t ∧ u.bank e = SgeBank.onward ((s.bank e).flag56 (rdOf w - 16)
      (f ((s.bank e).getAc (rdOf w - 16)).toInt (product (bit (s.bank e).sr srFRAC) ((s.bank e).getD (raOf w)).toInt
        ((s.bank e).getD (rbOf w)).toInt))).1 [] [rdOf w]) ∧
  (∀ (e : Fin 32) (w : BitVec 32) (s t : State), s.issues e 0x13 w t → rdOf w < 16 → isAc (raOf w) = true → rbOf w = 0 →
    bit (s.bank e).sr srOVT = false →
    ∃ u, exec (.rnd e) s = .next u ∧ engineRan e s u t ∧ u.bank e = SgeBank.onward ((s.bank e).flag24 (rdOf w)
      (roundConvergent ((s.bank e).getAc (raOf w - 16)).toInt)).1 [] [])

/-- MAC4S, MAC4V, LD, ST, LD2, ST2, STR and MODP (R260, R261, R269 to R271, R275, R276, R278): the words at the wrapped
addresses are read or written, the pointers step, and no other word of memory changes; a word that cannot be read takes
the DATA trap (R296). The N and Z flags of MAC4V are free (the spec does not state them for four results). -/
def Obligations.SgeMemoryInstructions : Prop :=
  (∀ (e : Fin 32) (w : BitVec 32) (xs ys : List (BitVec 24)) (s t m' m : State), s.issues e 0x14 w t → qXmode w ≠ 7 →
    qYmode w ≠ 7 → bit (s.bank e).sr srOVT = false → loadWords e false (qX (s.bank e) w) t = (xs, none, m') →
    loadWords e true (qY (s.bank e) w) m' = (ys, none, m) →
    ∃ u, exec (.mac4s e) s = .next u ∧ engineRan e s u m ∧ u.bank e = (qPost ((s.bank e).flag56 (qAc w)
      (((s.bank e).getAc (qAc w)).toInt + (if qNeg w then -1 else 1) *
        ((xs.zip ys).map (fun p => product (bit (s.bank e).sr srFRAC) p.1.toInt p.2.toInt)).sum)).1 w).onward [] [16 + qAc w]) ∧
  (∀ (e : Fin 32) (w : BitVec 32) (xs ys : List (BitVec 24)) (s t m' m : State), s.issues e 0x15 w t → qXmode w ≠ 7 →
    qYmode w ≠ 7 → (qAc w = 0 ∨ qAc w = 4) → bit (s.bank e).sr srOVT = false → (s.bank e).ac.length = 8 →
    loadWords e false (qX (s.bank e) w) t = (xs, none, m') → loadWords e true (qY (s.bank e) w) m' = (ys, none, m) →
    ∃ u, exec (.mac4v e) s = .next u ∧ engineRan e s u m ∧
      (∀ l, l < 4 → (u.bank e).getAc (qAc w + l) = to56 (((s.bank e).getAc (qAc w + l)).toInt + (if qNeg w then -1 else 1) *
        product (bit (s.bank e).sr srFRAC) (xs.getD l 0).toInt (ys.getD l 0).toInt)) ∧
      (∀ i, i < 8 → (i < qAc w ∨ qAc w + 4 ≤ i) → (u.bank e).getAc i = (s.bank e).getAc i) ∧ (u.bank e).d = (s.bank e).d ∧
      (u.bank e).pt = (qPost (s.bank e) w).pt ∧ (∀ i, 4 ≤ i → i < 12 → bit (u.bank e).sr i = bit (s.bank e).sr i) ∧
      (bit (u.bank e).sr srV = true ↔ ∃ l, l < 4 ∧ fitsSigned 56 (((s.bank e).getAc (qAc w + l)).toInt +
        (if qNeg w then -1 else 1) * product (bit (s.bank e).sr srFRAC) (xs.getD l 0).toInt (ys.getD l 0).toInt) = false)) ∧
  (∀ (e : Fin 32) (w : BitVec 32) (s t : State), s.issues e 0x18 w t → mMode w ≠ 7 →
    match loadWord e (mBus w) (mAddr (s.bank e) w) t with
    | none => exec (.ld e) s = .next (syncEngine e (takeDataTrap e (s.bank e).pc (mAddr (s.bank e) w) (mBus w) t))
    | some (v, m) => ∃ u, exec (.ld e) s = .next u ∧ engineRan e s u m ∧
        u.bank e = (((s.bank e).load (rdOf w) v).post (mPt w) (mMode w)).onward (loadedOf (rdOf w)) []) ∧
  (∀ (e : Fin 32) (w : BitVec 32) (s t : State), s.issues e 0x19 w t → mMode w ≠ 7 → isAc (rdOf w) = false →
    match storeWord e (mBus w) (mAddr (s.bank e) w) (storedWord ((s.bank e).storeValue (rdOf w))) t with
    | none => exec (.st e) s = .next (syncEngine e (takeDataTrap e (s.bank e).pc (mAddr (s.bank e) w) (mBus w) t))
    | some m => ∃ u, exec (.st e) s = .next u ∧ engineRan e s u m ∧
        (∀ k, k ≠ dataKey e (mBus w) (mAddr (s.bank e) w) → u.pword k = t.pword k) ∧
        u.bank e = ((s.bank e).post (mPt w) (mMode w)).onward [] []) ∧
  (∀ (e : Fin 32) (w : BitVec 32) (v : Word) (s t m : State), s.issues e 0x1A w t → pairOk (s.bank e) w = true →
    readMended (dataKey e (mBus w) (mAddr (s.bank e) w)) t = some (v, m) →
    ∃ u, exec (.ld2 e) s = .next u ∧ engineRan e s u m ∧ u.bank e = ((((s.bank e).putD (rdOf w) (v.setWidth 24)).putD (rdOf w + 1)
      ((v >>> 32).setWidth 24)).post (mPt w) (mMode w)).onward [rdOf w, rdOf w + 1] []) ∧
  (∀ (e : Fin 32) (w : BitVec 32) (s t : State), s.issues e 0x1B w t → pairOk (s.bank e) w = true →
    ∃ u, exec (.st2 e) s = .next u ∧ engineRan e s u (t.writeP (dataKey e (mBus w) (mAddr (s.bank e) w))
        ((storedWord ((s.bank e).getD (rdOf w))).setWidth 64 ||| ((storedWord ((s.bank e).getD (rdOf w + 1))).setWidth 64) <<< 32)) ∧
      u.bank e = ((s.bank e).post (mPt w) (mMode w)).onward [] []) ∧
  (∀ (e : Fin 32) (w : BitVec 32) (x : Int) (s t m : State), s.issues e 0x1C w t → mMode w ≠ 7 → isAc (rdOf w) = true →
    bit (s.bank e).sr srOVT = false → x = roundConvergent ((s.bank e).getAc (rdOf w - 16)).toInt →
    storeWord e (mBus w) (mAddr (s.bank e) w) (storedWord (result24 (bit (s.bank e).sr srSAT) x).1) t = some m →
    ∃ u, exec (.str e) s = .next u ∧ engineRan e s u m ∧
      u.bank e = (((s.bank e).only24 x).1.post (mPt w) (mMode w)).onward [] []) ∧
  (∀ (e : Fin 32) (w : BitVec 32) (s t : State), s.issues e 0x1D w t → mMode w ≠ 7 → rdOf w = 0 →
    ∃ u, exec (.modp e) s = .next u ∧ engineRan e s u t ∧ u.bank e = ((s.bank e).post (mPt w) (mMode w)).onward [] [])

/-- BR, CALL, RET, LOOP, LOOPI, ENDL, RTI, MOVS, WAITD, TRAP and END (R266, R268, R278, R279, R282, R283, R288, R290, R292,
R296): a jump goes to its target, a loop is pushed with its body and count or skipped, a special register is copied, and
END answers the action with RA or with ERR_DATA. -/
def Obligations.SgeControl : Prop :=
  (∀ (e : Fin 32) (w : BitVec 32) (s t : State), s.issues e 0x20 w t →
    match condHolds (s.bank e).sr (iw w 22 4) with
    | none => exec (.br e) s = .next (syncEngine e (takeTrap e 3 (s.bank e).pc (s.bank e).pc t))
    | some true => ∃ u, exec (.br e) s = .next u ∧ engineRan e s u t ∧ u.bank e = (s.bank e).jump (targetOf w)
    | some false => ∃ u, exec (.br e) s = .next u ∧ engineRan e s u t ∧ u.bank e = (s.bank e).onward [] []) ∧
  (∀ (e : Fin 32) (w : BitVec 32) (s t : State), s.issues e 0x21 w t → iw w 22 4 = 0 →
    if (s.bank e).rets.length < 8 then ∃ u, exec (.call e) s = .next u ∧ engineRan e s u t ∧
      u.bank e = { s.bank e with rets := ((s.bank e).pc + 1) % 8192 :: (s.bank e).rets, pc := targetOf w, loaded := [], acWritten := [] }
    else exec (.call e) s = .next (syncEngine e (takeTrap e 4 (s.bank e).pc (s.bank e).pc t))) ∧
  (∀ (e : Fin 32) (w : BitVec 32) (s t : State), s.issues e 0x22 w t →
    match (s.bank e).rets with
    | [] => exec (.ret e) s = .next (syncEngine e (takeTrap e 4 (s.bank e).pc (s.bank e).pc t))
    | a :: r => ∃ u, exec (.ret e) s = .next u ∧ engineRan e s u t ∧ u.bank e = ({ s.bank e with rets := r } : SgeBank).jump a) ∧
  (∀ (e : Fin 32) (w : BitVec 32) (c : Instr) (op n : Nat) (s t : State),
    ((c = .loop e ∧ op = 0x23 ∧ rdOf w < 16 ∧ n = ((s.bank e).getD (rdOf w)).toNat) ∨ (c = .loopi e ∧ op = 0x24 ∧ n = iw w 13 13)) →
    s.issues e op w t → (s.bank e).pc < targetOf w → (∀ l ∈ (s.bank e).loops, targetOf w ≤ l.stop) →
    (n = 0 → ∃ u, exec c s = .next u ∧ engineRan e s u t ∧ u.bank e = (s.bank e).jump ((targetOf w + 1) % 8192)) ∧
    (n ≠ 0 → 4 ≤ (s.bank e).loops.length →
      exec c s = .next (syncEngine e (takeTrap e 4 (s.bank e).pc (s.bank e).pc t))) ∧
    (n ≠ 0 → (s.bank e).loops.length < 4 → ∃ u, exec c s = .next u ∧ engineRan e s u t ∧ u.bank e = { s.bank e with
      loops := ⟨(s.bank e).pc + 1, targetOf w, n⟩ :: (s.bank e).loops, pc := ((s.bank e).pc + 1) % 8192, loaded := [], acWritten := [] })) ∧
  (∀ (e : Fin 32) (w : BitVec 32) (s t : State), s.issues e 0x25 w t →
    ∃ u, exec (.endl e) s = .next u ∧ engineRan e s u t ∧
      u.bank e = ({ s.bank e with loops := (s.bank e).loops.tail } : SgeBank).onward [] []) ∧
  (∀ (e : Fin 32) (w : BitVec 32) (s t : State), s.issues e 0x31 w t →
    ∃ u, exec (.rti e) s = .next u ∧ engineRan e s u t ∧
      u.bank e = ({ s.bank e with sr := srPut (s.bank e).sr srTM false } : SgeBank).jump (s.bank e).tpc.toNat) ∧
  (∀ (e : Fin 32) (w : BitVec 32) (s t : State), s.issues e 0x2C w t → bit w 10 = false → (rbOf w < 5 ∨ 8 ≤ rbOf w) →
    ∃ u, exec (.movs e) s = .next u ∧ engineRan e s u t ∧
      u.bank e = ((s.bank e).load (rdOf w) (to24 (specRead e (rbOf w) s).1)).onward [] (acDest (rdOf w))) ∧
  (∀ (e : Fin 32) (w : BitVec 32) (s t : State), s.issues e 0x2C w t → bit w 10 = true → isAc (raOf w) = false →
    match (s.bank e).specWrite (rbOf w) ((s.bank e).int24 (raOf w)) with
    | none => exec (.movs e) s = .next (syncEngine e (takeTrap e 3 (s.bank e).pc (s.bank e).pc t))
    | some b => ∃ u, exec (.movs e) s = .next u ∧ engineRan e s u t ∧ u.bank e = b.onward [] []) ∧
  (∀ (e : Fin 32) (w : BitVec 32) (s t : State), s.issues e 0x29 w t →
    if (s.eng e).dma.isSome then ∃ u, exec (.waitd e) s = .next u ∧ engineRan e s u t ∧ u.bank e = s.bank e
    else if (s.bank e).dstatus ≠ 0 then exec (.waitd e) s = .next (syncEngine e (takeTrap e 5 (s.bank e).pc (s.bank e).pc t))
    else ∃ u, exec (.waitd e) s = .next u ∧ engineRan e s u t ∧ u.bank e = (s.bank e).onward [] []) ∧
  (∀ (e : Fin 32) (w : BitVec 32) (s t : State), s.issues e 0x32 w t → exec (.trap e) s =
    .next (syncEngine e (takeTrap e 6 (s.bank e).pc (((s.bank e).pc + 1) % 8192) t))) ∧
  (∀ (e : Fin 32) (w : BitVec 32) (a : Action) (s t : State), s.issues e 0x30 w t → (s.eng e).dma = none →
    (s.bank e).dstatus = 0 → (s.eng e).frameRunning = false → (s.eng e).queue = [a] →
    ∃ u, exec (.endJob e) s = .next u ∧ (u.eng e).queue = [] ∧ (u.eng e).jobRunning = false ∧
      u.out = .result a.src (128 + e) a.tag (if bit w 0 then .errData else .ok)
        (if bit w 0 then 0 else (s.bank e).low24 (rdOf w)) :: s.out ∧
      u.fld SGE_COUNT_JOBS_ACTIONS e = (s.fld SGE_COUNT_JOBS_ACTIONS e + 1) % 2 ^ 32 ∧ u.fld SGE_STATUS_QUEUED e = 0 ∧
      u.mem = t.mem ∧ (∀ j, j ≠ e.val → u.eng j = s.eng j) ∧ regsKeep (engineKeys e ++ [SGE_COUNT_JOBS_ACTIONS.key e 0 0,
        SGE_COUNT_ERR_ACTION_ERR.key e 0 0, NOC_EPe_STATUS_OUTSTANDING.key (sgeEndpoint (e / 8)) 0 0]) s u) ∧
  (∀ (e : Fin 32) (w : BitVec 32) (s t : State), s.issues e 0x30 w t → (s.eng e).dma = none →
    (s.bank e).dstatus = 0 → (s.eng e).frameRunning = true → s.fld SGE_FRAME_STATUS_BACKLOG e = 0 → (s.eng e).queue = [] →
    ∃ u, exec (.endJob e) s = .next u ∧ (u.eng e).frameRunning = false ∧ u.out = s.out ∧
      u.fld SGE_COUNT_JOBS_FRAMES e = (s.fld SGE_COUNT_JOBS_FRAMES e + 1) % 2 ^ 32 ∧
      u.fld SGE_COUNT_ERR_FRAME_ERR e = (s.fld SGE_COUNT_ERR_FRAME_ERR e + bnat (bit w 0)) % 2 ^ 16 ∧
      u.mem = t.mem ∧ (∀ j, j ≠ e.val → u.eng j = s.eng j) ∧
      regsKeep (engineKeys e ++ [SGE_COUNT_JOBS_FRAMES.key e 0 0, SGE_COUNT_ERR_FRAME_ERR.key e 0 0]) s u)

/-- Traps (R263, R277 to R279, R283, R296, R297): an unreadable instruction takes FETCH, and an opcode or a field outside
the table ILLEGAL; a trap saves the return address, its cause and TM and goes to its vector; a trap under TM halts the
engine, answers the running job with ERR_DATA, the queued ones with FENCED, and raises the engine-halt fault. -/
def Obligations.SgeTraps : Prop :=
  (∀ (e : Fin 32) (s : State), s.canIssue e = true → fetchInstr e s = none →
    exec (.nop e) s = .next (syncEngine e (takeTrap e 0 (s.bank e).pc (s.bank e).pc s))) ∧
  (∀ (e : Fin 32) (w : BitVec 32) (s t : State), s.canIssue e = true → fetchInstr e s = some (w, t) → formatOf (opOf w) = none →
    exec (.nop e) s = .next (syncEngine e (takeTrap e 3 (s.bank e).pc (s.bank e).pc t))) ∧
  (∀ (e : Fin 32) (w : BitVec 32) (s t : State), s.canIssue e = true → fetchInstr e s = some (w, t) → opOf w = 0 → iw w 0 11 ≠ 0 →
    exec (.nop e) s = .next (syncEngine e (takeTrap e 3 (s.bank e).pc (s.bank e).pc t))) ∧
  (∀ (e : Fin 32) (w : BitVec 32) (s t : State), s.canIssue e = true → fetchInstr e s = some (w, t) → opOf w = 0x20 →
    (t.bank e).atEnd = true → exec (.br e) s = .next (syncEngine e (takeTrap e 3 (s.bank e).pc (s.bank e).pc t))) ∧
  (∀ (e : Fin 32) (cause : Fin 8) (pc ret : Nat) (s : State), bit (s.bank e).sr srTM = false → pc < 8192 →
    ((takeTrap e cause pc ret s).bank e).tpc = BitVec.ofNat 13 ret ∧ ((takeTrap e cause pc ret s).bank e).pc = cause.val ∧
    bit ((takeTrap e cause pc ret s).bank e).sr srTM = true ∧ bits ((takeTrap e cause pc ret s).bank e).sr 8 3 = cause.val ∧
    (∀ i, (i < 7 ∨ i = 11) → bit ((takeTrap e cause pc ret s).bank e).sr i = bit (s.bank e).sr i) ∧
    ((takeTrap e cause pc ret s).bank e).d = (s.bank e).d ∧ ((takeTrap e cause pc ret s).bank e).ac = (s.bank e).ac ∧
    ((takeTrap e cause pc ret s).bank e).loops = (s.bank e).loops ∧ ((takeTrap e cause pc ret s).bank e).rets = (s.bank e).rets ∧
    (takeTrap e cause pc ret s).fld SGE_TRAP_CAUSE e = cause.val ∧ (takeTrap e cause pc ret s).fld SGE_TRAP_PC e = pc ∧
    (takeTrap e cause pc ret s).fld SGE_TRAP_HALTED e = s.fld SGE_TRAP_HALTED e ∧ (takeTrap e cause pc ret s).out = s.out ∧
    (takeTrap e cause pc ret s).mem = s.mem) ∧
  (∀ (e : Fin 32) (cause pc ret : Nat) (a b : Action) (s : State), bit (s.bank e).sr srTM = true →
    (s.eng e).frameRunning = false → (s.eng e).jobRunning = true → (s.eng e).queue = [a, b] →
    ∃ u, takeTrap e cause pc ret s = raise (0x300 + e) (cause + pc * 65536) u ∧ u.on SGE_TRAP_HALTED e = true ∧
      (u.eng e).queue = [] ∧ (u.eng e).busy = false ∧ u.engState e = 3 ∧
      u.out = .result b.src (128 + e) b.tag .fenced 0 :: .result a.src (128 + e) a.tag .errData 0 :: s.out ∧ u.mem = s.mem)

/-- Convergent rounding, windows and result widths (R270, R272, R273, R276): RND's integer is the nearest one and the even
one at a tie; a windowed address lies in its window; a result that leaves 24 bits wraps with SAT = 0 and is clamped with
SAT = 1; an accumulator wraps in 56 bits. -/
def Obligations.SgeNumberRules : Prop :=
  (∀ x : Int, 2 * (roundConvergent x * 2 ^ 24 - x).natAbs ≤ 2 ^ 24 ∧
    (2 * (roundConvergent x * 2 ^ 24 - x).natAbs = 2 ^ 24 → roundConvergent x % 2 = 0)) ∧
  (∀ (base : BitVec 14) (v : Int), (wrapIn base.toNat 0 v : Int) = v % 16384) ∧
  (∀ (base len : Nat) (v : Int), 0 < len → base + len ≤ 16384 → base ≤ wrapIn base len v ∧ wrapIn base len v < base + len ∧
    ((wrapIn base len v : Int) - v) % len = 0) ∧
  (∀ (sat : Bool) (x : Int), -0x800000 ≤ x → x ≤ 0x7FFFFF → (result24 sat x).1.toInt = x ∧ (result24 sat x).2 = false) ∧
  (∀ (x : Int), 0x7FFFFF < x → (result24 true x).1 = 0x7FFFFF ∧ (result24 true x).2 = true) ∧
  (∀ (x : Int), x < -0x800000 → (result24 true x).1 = 0x800000 ∧ (result24 true x).2 = true) ∧
  (∀ (x : Int), (0x7FFFFF < x ∨ x < -0x800000) → ((result24 false x).1.toInt - x) % 2 ^ 24 = 0 ∧ (result24 false x).2 = true) ∧
  (∀ (x : Int), ((result56 x).1.toInt - x) % 2 ^ 56 = 0 ∧ ((result56 x).2 = true ↔ (x < -(2 ^ 55) ∨ 2 ^ 55 ≤ x))) ∧
  (∀ (x y : BitVec 24), product false x.toInt y.toInt = x.toInt * y.toInt ∧ product true x.toInt y.toInt = 2 * (x.toInt * y.toInt))

/-- SGE_ACTION, JOB_LIMIT_EXPIRE, DMA, DMA_RESPONSE, SGE_RUN_WRITE, SGE_RESTART, SGE_MEM_DATA_ACCESS and PORT_WAIT_STEAL
(R264, R286 to R289, R291, R294, R295, R298): an action starts or is turned away with its status, a DMA moves its words
and ends with its status, RUN and RESTART change the state, and the port reads and writes a memory word. -/
def Obligations.SgeJobsAndDma : Prop :=
  (∀ (e : Fin 32) (a : Action) (s : State), a.src ∈ ctxEndpoints → s.gateOpen (32 + e) = true → s.engHalted e = false →
    s.on SGE_CTL_RUN e = true → (s.eng e).queue = [] → (s.eng e).busy = false →
    ∃ u, exec (.sgeAction e a) s = .next u ∧ (u.eng e).queue = [a] ∧ (u.eng e).jobRunning = true ∧ (u.eng e).used = 0 ∧
      (u.eng e).action = (s.eng e).action.startJob a ∧ u.out = s.out ∧ u.mem = s.mem ∧ u.fld SGE_STATUS_STATE e = 2 ∧
      u.fld SGE_STATUS_QUEUED e = 1 ∧ (∀ j, j ≠ e.val → u.eng j = s.eng j) ∧ regsKeep (engineKeys e) s u) ∧
  (∀ (e : Fin 32) (a : Action) (s : State), a.src ∈ ctxEndpoints → s.gateOpen (32 + e) = true →
    (s.engHalted e = true ∨ s.on SGE_CTL_RUN e = false) →
    ∃ u, exec (.sgeAction e a) s = .next u ∧ u.out = .result a.src (128 + e) a.tag .fenced 0 :: s.out ∧ u.sge = s.sge ∧ u.mem = s.mem) ∧
  (∀ (e : Fin 32) (a : Action) (s : State), (s.eng e).jobRunning = true → (s.eng e).frameRunning = false →
    s.fld SGE_CTL_JOB_LIMIT e ≠ 0 → s.fld SGE_CTL_JOB_LIMIT e ≤ (s.eng e).used → (s.eng e).dma = none → (s.eng e).queue = [a] →
    ∃ u, exec (.jobLimitExpire e) s = .next u ∧ u.out = .result a.src (128 + e) a.tag .errData 0 :: s.out ∧
      (u.eng e).queue = [] ∧ (u.eng e).jobRunning = false ∧ u.fld SGE_TRAP_CAUSE e = 7 ∧
      u.fld SGE_COUNT_ERR_LIMITS e = (s.fld SGE_COUNT_ERR_LIMITS e + 1) % 2 ^ 16 ∧ u.mem = s.mem) ∧
  (∀ (e : Fin 32) (w : BitVec 32) (d a r : BitVec 24) (s t : State), s.issues e 0x28 w t → (s.eng e).dma = none →
    isAc (rdOf w) = false → isAc (raOf w) = false → isAc (rbOf w) = false → d = (s.bank e).storeValue (rdOf w) →
    a = (s.bank e).storeValue (raOf w) → r = (s.bank e).storeValue (rbOf w) → bits d 0 2 = 0 → bit r 15 = false → bit r 16 = false →
    ∃ u x n, exec (.dma e) s = .next u ∧ (u.eng e).dma = some x ∧ x.addr = d.toNat + bits a 0 14 * 2 ^ 24 ∧
      x.left = bits a 14 10 + 1 ∧ x.loc = bits r 0 14 ∧ x.busY = bit r 14 ∧ x.out = false ∧ x.window = none ∧ x.chunk = n ∧
      0 < n ∧ n ≤ x.left ∧ x.addr % 256 + 4 * n ≤ 256 ∧ u.out = .dma e (sgeIdent e s) (compactAddr x.addr) n none :: s.out ∧
      (u.bank e).dstatus = 0 ∧ (u.bank e).dmoved = 0 ∧ (u.bank e).d = (s.bank e).d ∧ u.fld SGE_STATUS_DMA_BUSY e = 1 ∧
      u.fld FLT_DMAe_ISSUED e = (s.fld FLT_DMAe_ISSUED e + 4 * n) % 2 ^ FLT_DMAe_ISSUED.w ∧ u.mem = t.mem) ∧
  (∀ (e : Fin 32) (st : Status) (ws : List (BitVec 32)) (d : SgeDma) (s : State), (s.eng e).dma = some d → st ≠ .ok →
    ∃ u, exec (.dmaResponse e st ws) s = .next u ∧ (u.eng e).dma = none ∧
      (if d.frame then (u.eng e).frame else (u.eng e).action).dstatus = dmaCode st ∧ u.out = s.out ∧ u.mem = s.mem ∧
      u.fld FLT_DMAe_ANSWERED e = (s.fld FLT_DMAe_ANSWERED e + 4 * d.chunk) % 2 ^ FLT_DMAe_ANSWERED.w) ∧
  (∀ (e : Fin 32) (v : BitVec 32) (d : SgeDma) (m s : State), (s.eng e).dma = some d → d.out = false → d.chunk = 1 → d.left = 1 →
    d.bad = false → d.window = none → storeWord e d.busY (d.loc % 16384) (storedWord (v.setWidth 24)) s = some m →
    ∃ u, exec (.dmaResponse e .ok [v]) s = .next u ∧ (u.eng e).dma = none ∧ u.mem = m.mem ∧ u.out = s.out ∧
      (if d.frame then (u.eng e).frame else (u.eng e).action).dstatus = 0 ∧
      (if d.frame then (u.eng e).frame else (u.eng e).action).dmoved = (if d.frame then (s.eng e).frame else (s.eng e).action).dmoved + 1) ∧
  (∀ (m : Ident) (e : Fin 32) (data : Word) (s : State), s.admits m .SGE_CTL [e.val] → (s.eng e).queue = [] →
    ∃ u, exec (.sgeRunWrite m e .full data) s = .next u ∧ u.fld SGE_CTL_RUN e = bits data 0 1 ∧
      u.fld SGE_CTL_JOB_LIMIT e = bits data 32 32 ∧ u.out = s.out ∧ u.mem = s.mem ∧
      (bit data 0 = true → (u.eng e).cache = none) ∧ (bit data 1 = false → (u.eng e).action = (s.eng e).action)) ∧
  (∀ (m : Ident) (e : Fin 32) (data : Word) (s : State), s.admits m .SGE_CTL [e.val] → (s.eng e).queue = [] → s.engHalted e = true →
    ∃ u, exec (.sgeRestart m e .full data) s = .next u ∧ u.on SGE_TRAP_HALTED e = false ∧ u.fld SGE_FRAME_STATUS_BACKLOG e = 0 ∧
      (u.eng e).action.loops = [] ∧ (u.eng e).action.rets = [] ∧ (u.eng e).frame.loops = [] ∧ (u.eng e).frame.rets = [] ∧
      bit (u.eng e).action.sr srTM = false ∧ bit (u.eng e).frame.sr srTM = false ∧ (u.eng e).action.d = (s.eng e).action.d ∧
      (u.eng e).action.pc = (s.eng e).action.pc ∧ u.out = s.out ∧ u.mem = s.mem) ∧
  (∀ (m : Ident) (e : Fin 32) (data : Word) (s : State), s.admits m .SGE_MEM_DATA [e.val] → s.fld SGE_MEM_ADDR_MEM e < 2 →
    ∃ u, exec (.sgeMemDataAccess m e .full (some data)) s = .next u ∧ u.pword (portKey e s) = PWord.clean data ∧
      (∀ k, k ≠ portKey e s → u.pword k = s.pword k) ∧
      u.fld SGE_MEM_ADDR_ADDR e = (s.fld SGE_MEM_ADDR_ADDR e + 2) % 16384 ∧ u.out = s.out ∧ u.sge = s.sge) ∧
  (∀ (m : Ident) (e : Fin 32) (v : Word) (s : State), s.readable (SGE_MEM_DATA_WORD.key e 0 0) →
    (s.pword (portKey e s)).value? = some v →
    ∃ u, exec (.sgeMemDataAccess m e .low none) s = .next u ∧ u.out = .answer m (v &&& 0xFFFFFFFF) :: s.out ∧ u.regs = s.regs ∧
      u.sge = s.sge) ∧
  (∀ (e : Fin 32) (s : State), s.canIssue e = true →
    ∃ u, exec (.portWaitSteal e) s = .next u ∧ u.fld SGE_CYCLES_BUSY e = (s.fld SGE_CYCLES_BUSY e + 1) % 2 ^ 64 ∧
      u.out = s.out ∧ u.mem = s.mem ∧ u.bank e = s.bank e ∧ regsKeep [SGE_CYCLES_BUSY.key e 0 0] s u)

/-- FABRIC_PORT_REQUEST, FABRIC_ANSWER and PORT_TIMEOUT (R328, R331, R332, R465, R472, R484): a region's request enters the
network or is answered at its own port, the fabric's answers reach the requesters of the action and of the request, and
a request that waited too long is answered ERR_DATA. -/
def Obligations.FabricPorts : Prop :=
  (∀ (p : Fin 68) (q : NocReq) (k : NocPacket) (s : State), (s.fab p).outs.length + (s.fab p).reserved.length < 32 →
    q.tag ∉ (s.fab p).outs → q.tag ∉ (s.fab p).reserved →
    makePacket (fabricEndpoint p) { q with ident := mkIdent s.devId 3 p } s = some k →
    s.fld NOC_EPe_STATUS_DAMPER (fabricEndpoint p) = 0 → (s.credit (creditKey 1 (fabricEndpoint p) k.channel)).held ≠ 0 →
    ∃ u, exec (.fabricPortRequest p q) s = .next u ∧ (u.fab p).outs = (s.fab p).outs ++ [q.tag] ∧
      u.noc.mesh = s.noc.mesh ++ [⟨k, 1, fabricEndpoint p, fabricEndpoint p / 4, 0⟩] ∧ u.out = s.out ∧ u.mem = s.mem) ∧
  (∀ (p : Fin 68) (q : NocReq) (s : State), (s.fab p).outs.length + (s.fab p).reserved.length < 32 →
    q.tag ∉ (s.fab p).outs → q.tag ∉ (s.fab p).reserved →
    ((makePacket (fabricEndpoint p) { q with ident := mkIdent s.devId 3 p } s = none →
      ∃ u, exec (.fabricPortRequest p q) s = .next u ∧ u.out = .fabricResponse p q.tag .decode false [] :: s.out ∧ u.noc = s.noc ∧
        u.cfg = s.cfg ∧ u.mem = s.mem ∧ regsKeep [NOC_COUNTS_DECODE.off] s u) ∧
     (∀ k, makePacket (fabricEndpoint p) { q with ident := mkIdent s.devId 3 p } s = some k →
      s.fld NOC_EPe_STATUS_DAMPER (fabricEndpoint p) ≠ 0 →
      ∃ u, exec (.fabricPortRequest p q) s = .next u ∧ u.out = .fabricResponse p q.tag .fenced false [] :: s.out ∧ u.noc = s.noc ∧
        u.cfg = s.cfg ∧ u.mem = s.mem ∧
        regsKeep [NOC_COUNTS_FENCED.off, NOC_EPe_STATUS_FENCED.key (fabricEndpoint p) 0 0] s u))) ∧
  (∀ (p : Fin 68) (w : Word) (src : Nat) (s : State), (s.fab p).calls = [(src, bits w 0 16)] →
    ∃ u, exec (.fabricAnswer p (.action w)) s = .next u ∧ (u.fab p).calls = [] ∧ u.out = (if bit w 16
        then .result src (160 + p) (bits w 0 16) .errData 0 else .result src (160 + p) (bits w 0 16) .ok (bits w 24 24)) :: s.out ∧
      u.mem = s.mem) ∧
  (∀ (p : Fin 68) (w : Word) (s : State), (s.fab p).calls = [] → (s.fab p).forcedCalls = [] →
    ∃ u, exec (.fabricAnswer p (.action w)) s = .next u ∧ u.out = s.out ∧
      u.fld CFG_RGNr_PORT_UNMATCHED (min p.val 64) =
        (s.fld CFG_RGNr_PORT_UNMATCHED (min p.val 64) + 1) % 2 ^ CFG_RGNr_PORT_UNMATCHED.w ∧
      onlyRegs [CFG_RGNr_PORT_UNMATCHED.key (min p.val 64) 0 0] s u) ∧
  (∀ (p : Fin 68) (src tag : Nat) (err : Bool) (data : List Word) (s : State), (s.fab p).reqs = [(src, tag)] →
    ∃ u, exec (.fabricAnswer p (.request src tag err data)) s = .next u ∧ (u.fab p).reqs = [] ∧ u.mem = s.mem ∧
      u.out = (if err then .response src tag .errData (data.map (fun _ => 0)) else .response src tag .ok data) :: s.out) ∧
  (∀ (p : Fin 68) (src tag : Nat) (s : State), (s.fab p).reqs = [(src, tag)] →
    ∃ u, exec (.portTimeout p src tag) s = .next u ∧ (u.fab p).reqs = [] ∧ (u.fab p).late = (s.fab p).late ++ [(src, tag)] ∧
      u.out = .response src tag .errData [] :: s.out ∧ u.mem = s.mem)

/-- NVA_DATA_ACCESS and NVA_WRITE_DONE (R337 to R342): a permitted write waits for the array and steps the master's address,
the end of the write stores the word and answers, a read of a free array is answered, and a half write or one that the
area forbids is a violation. -/
def Obligations.NonVolatileArray : Prop :=
  (∀ (m : Ident) (n : Nat) (v : Word) (s : State), s.admits m .NVA_DATA [] → slotOf m = some n →
    nvaMayWrite m (s.mfld NVA_ADDR_ADDR n) s = true → s.nva.waiting = [] →
    ∃ u, exec (.nvaDataAccess m .full (some v)) s = .next u ∧
      u.nva.waiting = [⟨m, n, s.mfld NVA_ADDR_ADDR n, .full, some v⟩] ∧
      u.mfld NVA_ADDR_ADDR n = (s.mfld NVA_ADDR_ADDR n + 1) % 2 ^ 20 ∧ u.out = s.out ∧ u.mem = s.mem ∧
      regsKeep [leaseKey, NVA_ADDR_ADDR.off + slotSpan * n] s u) ∧
  (∀ (m : Ident) (n : Nat) (v : Word) (s : State), s.admits m .NVA_DATA [] → slotOf m = some n →
    nvaMayWrite m (s.mfld NVA_ADDR_ADDR n) s = false →
    exec (.nvaDataAccess m .full (some v)) s = .next (violation m .area true NVA_DATA_WORD.off (renewLease m s))) ∧
  (∀ (m : Ident) (h : Half) (v : Word) (s : State), s.admits m .NVA_DATA [] → h ≠ .full →
    exec (.nvaDataAccess m h (some v)) s = .next (violation m .area true (NVA_DATA_WORD.off + h.skip) (renewLease m s))) ∧
  (∀ (m : Ident) (n : Nat) (h : Half) (d : Word) (s : State), s.readable NVA_DATA_WORD.off → slotOf m = some n →
    nvaReserved (s.mfld NVA_ADDR_ADDR n) = false → (s.pword (nvaKey (s.mfld NVA_ADDR_ADDR n))).decode = .clean d →
    s.nva.waiting = [] →
    ∃ u, exec (.nvaDataAccess m h none) s = .next u ∧ u.out = .answer m (d &&& h.mask) :: s.out ∧ u.nva.waiting = [] ∧
      u.mfld NVA_ADDR_ADDR n = (if h = .low then s.mfld NVA_ADDR_ADDR n else (s.mfld NVA_ADDR_ADDR n + 1) % 2 ^ 20) ∧
      u.mem = s.mem ∧ regsKeep [NVA_ADDR_ADDR.off + slotSpan * n] s u) ∧
  (∀ (m : Ident) (n a : Nat) (h : Half) (v : Word) (s : State), s.nva.waiting = [⟨m, n, a, h, some v⟩] →
    ∃ u, exec .nvaWriteDone s = .next u ∧ u.pword (nvaKey a) = PWord.clean v ∧ (∀ k, k ≠ nvaKey a → u.pword k = s.pword k) ∧
      u.fld NVA_WRITES_COUNT = (s.fld NVA_WRITES_COUNT + 1) % 2 ^ 64 ∧ u.out = .nvaWritten m a :: s.out ∧ u.nva.waiting = [] ∧
      u.nva.lastSlot = n ∧ regsKeep [NVA_WRITES_COUNT.off] s u)

/-- FCLK_WRITE, UOSC_ENABLE, UOSC_DISABLE, UOSC_READY and UOSC_MEASURE (R311, R313, R334, R335): a divider's change waits
for the boundary and an out-of-range divisor changes nothing; an oscillator's output waits for READY and is measured
while the root runs. In a root cycle in which the clock lines of a target may run, each of its flip-flops and arithmetic
slices goes on as the edges of its line, its load and clock-enable inputs and its D say (R301, R302, R316, R319; the
idle step is the model's own, log entries 1 and 90). -/
def Obligations.DividersAndOscillators : Prop :=
  (∀ (m : Ident) (k : Fin 24) (h : Half) (data : Word) (s : State), s.admits m .CLK_FCLKk [k.val] → h ≠ .high →
    s.pwr.fclks.length = 24 → 16 ≤ bits data 0 13 → bits data 0 13 ≤ 4096 →
    ∃ u, exec (.fclkWrite m k h data) s = .next u ∧ u.fld CLK_FCLKk_DIV k = bits data 0 13 ∧ u.fld CLK_FCLKk_EN k = bits data 16 1 ∧
      u.fld CLK_FCLKk_CUR_DIV k = s.fld CLK_FCLKk_CUR_DIV k ∧
      (if s.fclkFroze k = none ∧ (s.fclk k).runs = bit data 16 ∧ (s.fclk k).div = bits data 0 13
       then u.fclk k = { s.fclk k with due := none, frozen := none } ∧ u.fld CLK_FCLKk_PENDING k = 0
       else u.fclk k = { s.fclk k with due := some s.nextDue, frozen := s.fclkFroze k } ∧ u.fld CLK_FCLKk_PENDING k = 1) ∧
      (∀ j, j ≠ k.val → u.fclk j = s.fclk j) ∧ u.out = s.out ∧ u.mem = s.mem ∧ regsKeep [leaseKey, CLK_FCLKk_DIV.key k 0 0] s u) ∧
  (∀ (m : Ident) (k : Fin 24) (h : Half) (data : Word) (s : State), s.admits m .CLK_FCLKk [k.val] →
    (bits data 0 13 < 16 ∨ 4096 < bits data 0 13) →
    exec (.fclkWrite m k h data) s = .next (renewLease m s)) ∧
  (∀ (m : Ident) (k : Fin 4) (h : Half) (data : Word) (c : Instr) (s : State), s.admits m .CLK_UOSCk [k.val] → h ≠ .high →
    c ∈ [Instr.uoscEnable m k h data, .uoscDisable m k h data] →
    ∃ u, exec c s = .next u ∧ u.fld CLK_UOSCk_EN k = bits data 0 1 ∧
      u.fld CLK_UOSCk_READY k = (if bits data 0 1 = s.fld CLK_UOSCk_EN k then s.fld CLK_UOSCk_READY k else 0) ∧
      u.fld CLK_UOSCk_MEAS_HZ k = s.fld CLK_UOSCk_MEAS_HZ k ∧ onlyRegs [leaseKey, CLK_UOSCk_EN.key k 0 0] s u) ∧
  (∀ (k : Fin 4) (s : State), s.on CLK_UOSCk_EN k = true → s.pwr.isolated = false →
    ∃ u, exec (.uoscReady k) s = .next u ∧ u.fld CLK_UOSCk_READY k = 1 ∧ onlyRegs [CLK_UOSCk_READY.key k 0 0] s u) ∧
  (∀ (hz : List Nat) (s : State), s.rootRuns = true →
    ∃ u, exec (.uoscMeasure hz) s = .next u ∧ (∀ k, k < 4 → u.fld CLK_UOSCk_MEAS_HZ k =
        if s.on CLK_UOSCk_READY k then hz.getD k 0 % 2 ^ 32 else s.fld CLK_UOSCk_MEAS_HZ k) ∧
      onlyRegs ((List.range 4).map (fun k => CLK_UOSCk_MEAS_HZ.key k 0 0)) s u) ∧
  (∀ (t : Fin 65) (s : State), s.pending = [] → s.rootRuns = true → s.tck.phase + 1 < s.tickLen →
    s.tck.phase + 1 ≠ 96 * s.curN → s.linesRun t = true →
    ∃ u, step s = .next u ∧
      (∀ c, c < cellsOf t → (Memory.get (fun _ => []) u.logic.flops t).contains c = s.flopNext s.level t c) ∧
      (∀ n, n < slicesOf t → u.slice t n =
        if s.lineEdge s.level t (s.item t (.sliceLine n) % 32) then s.sliceNext s.level t n else s.slice t n) ∧
      u.logic.clock = s.logic.clock + 1 ∧ u.out = s.out)

/-- SER_MODE_WRITE, SER_MODE_APPLY, SER_TX_WRITE and SER_RX_READ (R344 to R347, R353): a change of mode waits for the port,
empties its FIFOs and resets its protocol state; a permitted write adds one entry, or sets TX_OVF when 64 are held; a
read takes the oldest entry. -/
def Obligations.SerialPortRegisters : Prop :=
  (∀ (m : Ident) (n : Fin 16) (h : Half) (data : Word) (s : State), serAdmits s m n (SER_CTL_MODE.key n 0 0) → h ≠ .high →
    ∃ u, exec (.serModeWrite m n h data) s = .next u ∧ u.fld SER_CTL_MODE n = s.fld SER_CTL_MODE n ∧
      u.fld SER_CTL_WIDTH n = bits data 5 5 ∧ u.fld SER_CTL_BRK_LEN n = bits data 14 4 ∧ u.fld SER_CTL_ADDR n = bits data 18 10 ∧
      u.fld SER_CTL_PARITY n = (if bits data 10 2 = 3 then 0 else bits data 10 2) ∧
      (u.port n).tx = (s.port n).tx ∧ (u.port n).rx = (s.port n).rx ∧
      (u.port n).pendMode = (if bits data 0 3 = 7 then (s.port n).pendMode
        else if bits data 0 3 = s.serMode n then none else some (bits data 0 3)) ∧
      portKept n [leaseKey, SER_CTL_MODE.key n 0 0] s u) ∧
  (∀ (m : Ident) (n : Fin 16) (h : Half) (data : Word) (s : State), s.dark = false → s.blockOpen (SER_CTL_MODE.key n 0 0) = true →
    serMayWrite m n s = false →
    exec (.serModeWrite m n h data) s = .next (violation m .area true (SER_CTL_MODE.key n 0 0 + h.skip) (renewLease m s))) ∧
  (∀ (n : Fin 16) (mode : Nat) (s : State), (s.port n).pendMode = some mode → mode < 7 →
    ∃ u, exec (.serModeApply n) s = .next u ∧ u.serMode n = mode ∧ u.port n = SerPort.reset ∧ u.fld SER_STATUS_TX_LEVEL n = 0 ∧
      u.fld SER_STATUS_RX_LEVEL n = 0 ∧ u.fld SER_STATUS_TEC n = 0 ∧ u.fld SER_STATUS_REC n = 0 ∧ u.fld SER_STATUS_BUS_OFF n = 0 ∧
      u.fld SER_STATUS_TX_OVF n = s.fld SER_STATUS_TX_OVF n ∧ portKept n [SER_CTL_MODE.key n 0 0] s u) ∧
  (∀ (m : Ident) (n : Fin 16) (h : Half) (data : Word) (s : State), serAdmits s m n (SER_TX_DATA.key n 0 0) → 1 ≤ s.serMode n →
    s.serMode n ≤ 5 →
    ∃ u, exec (.serTxWrite m n h data) s = .next u ∧
      (if (s.port n).tx.length < 64
       then (u.port n).tx = (s.port n).tx ++ [serEntryOf h data] ∧ u.fld SER_STATUS_TX_LEVEL n = (s.port n).tx.length + 1
       else (u.port n).tx = (s.port n).tx ∧ u.fld SER_STATUS_TX_OVF n = 1) ∧ (u.port n).rx = (s.port n).rx ∧ portKept n [leaseKey] s u) ∧
  (∀ (m : Ident) (n : Fin 16) (h : Half) (data : Word) (ws : List Word) (s : State), serAdmits s m n (SER_TX_DATA.key n 0 0) →
    s.serMode n = 6 → (serEntryOf h data).last = true → (s.port n).canTx.length < 16 →
    ws = wordsOfHalves ((s.port n).build ++ [(serEntryOf h data).data]) →
    (s.port n).build.length + 1 = 2 * (2 + (canBytes (ws.headD 0) + 7) / 8) →
    ∃ u, exec (.serTxWrite m n h data) s = .next u ∧ (u.port n).canTx = (s.port n).canTx ++ [ws] ∧ (u.port n).build = [] ∧
      portKept n [leaseKey] s u) ∧
  (∀ (m : Ident) (n : Fin 16) (h : Half) (x : SerEntry) (r : List SerEntry) (s : State), s.readable (SER_RX_DATA.key n 0 0) →
    s.serMode n ≠ 6 → (s.port n).rx = x :: r →
    ∃ u, exec (.serRxRead m n h) s = .next u ∧ u.out = .answer m (serRxWord x &&& h.mask) :: s.out ∧ (u.port n).rx = r ∧
      (u.port n).tx = (s.port n).tx ∧ u.mem = s.mem) ∧
  (∀ (m : Ident) (n : Fin 16) (h : Half) (s : State), s.readable (SER_RX_DATA.key n 0 0) → s.serMode n ≠ 6 → (s.port n).rx = [] →
    exec (.serRxRead m n h) s = .next (s.emit (.answer m 0)))

/-- UART_FRAME_RECEIVE, UART_FRAME_SEND, SPI_TRANSFER, I2C_TRANSFER, CAN_FRAME_RECEIVE and CAN_FRAME_SEND (R347 to R353):
the oldest entry is sent, received entries join their FIFO while it has room, and CAN frames are filtered, prioritised
and counted. The CAN counters and the SPI phases are the model's reading of their standards (log entry 82). -/
def Obligations.SerialTransfers : Prop :=
  (∀ (n : Fin 16) (data : List Bool) (stop parity : Bool) (low : Nat) (s : State), s.serMode n = 1 → data.length = serWidth 4 8 n s →
    s.on SER_CTL_STOP2 n = false →
    ∃ u, exec (.uartFrameReceive n ((data ++ (if s.on SER_CTL_PARITY n then [parity, stop] else [stop])).map (fun b => (b, b, b))) low) s = .next u ∧
      portKept n [] s u ∧ (u.port n).tx = (s.port n).tx ∧
      (if (s.port n).rx.length < 64
       then (u.port n).rx = (s.port n).rx ++ [if 11 ≤ low then ⟨0, true, false, false, false, false⟩
         else ⟨BitVec.ofNat 32 (lineValue data), false,
           s.on SER_CTL_PARITY n && decide (parity ≠ xor (decide (s.fld SER_CTL_PARITY n = 2)) (xorAll data)), !stop, false, false⟩]
       else (u.port n).rx = (s.port n).rx ∧ u.fld SER_STATUS_RX_OVF n = 1)) ∧
  (∀ (n : Fin 16) (cts : Bool) (x : SerEntry) (r : List SerEntry) (s : State), s.serMode n = 1 → s.on FLT_STATUS_HALTED = false →
    (s.port n).tx = x :: r →
    (s.on SER_CTL_FLOW n = true → cts = false → exec (.uartFrameSend n cts) s = .next s) ∧
    (s.on SER_CTL_FLOW n = false ∨ cts = true →
      ∃ u, exec (.uartFrameSend n cts) s = .next u ∧ (u.port n).tx = r ∧ (u.port n).rx = (s.port n).rx ∧
        u.out = .uart n (uartLine n x s) (max 1024 (s.fld SER_DIV_DIV n)) :: s.out ∧
        (x.brk = true → uartLine n x s = List.replicate (13 + min 7 (s.fld SER_CTL_BRK_LEN n)) false ++ [true]))) ∧
  (∀ (n : Fin 16) (input : BitVec 32) (x : SerEntry) (r : List SerEntry) (s : State), (s.serMode n = 2 ∨ s.serMode n = 3) →
    s.on FLT_STATUS_HALTED = false → (s.port n).tx = x :: r → (s.port n).rx.length < 64 →
    ∃ u, exec (.spiTransfer n input) s = .next u ∧ (u.port n).tx = r ∧
      (u.port n).rx = (s.port n).rx ++ [rxEntry (low32 (serWidth 7 31 n s) input)] ∧
      (s.serMode n = 2 → (∀ cs, u.serPin n 3 cs = (if x.hold then .low else .high)) ∧
        u.out = .spi n (spiHalves (s.on SER_CTL_CPOL n) (s.on SER_CTL_CPHA n) (bitsDown (serWidth 7 31 n s) x.data))
          (min 65535 (max 3 (s.fld SER_DIV_DIV n)) + 1) x.hold :: s.out) ∧
      (s.serMode n = 3 → u.out = .spiReply n (bitsDown (serWidth 7 31 n s) x.data) :: s.out)) ∧
  (∀ (n : Fin 16) (input : BitVec 32) (s : State), s.serMode n = 3 → s.on FLT_STATUS_HALTED = false → (s.port n).tx = [] →
    (s.port n).rx.length < 64 →
    ∃ u, exec (.spiTransfer n input) s = .next u ∧ u.out = .spiReply n (List.replicate (serWidth 7 31 n s) false) :: s.out ∧ u.fld SER_STATUS_TX_UNDER n = 1 ∧
      (u.port n).rx = (s.port n).rx ++ [rxEntry (low32 (serWidth 7 31 n s) input)]) ∧
  (∀ (n : Fin 16) (addr sent : Nat) (s : State), s.serMode n = 5 → s.on FLT_STATUS_HALTED = false →
    addr ≠ s.fld SER_CTL_ADDR n % (if s.on SER_CTL_ADDR10 n then 1024 else 128) → ∀ received last,
    exec (.i2cTransfer n addr sent received last) s = .next s) ∧
  (∀ (n : Fin 16) (addr sent : Nat) (b : BitVec 8) (last : I2cEnd) (s : State), s.serMode n = 4 → s.on FLT_STATUS_HALTED = false →
    (s.port n).rx.length < 64 → ((s.port n).tx.take sent).getLast?.any (fun x => x.hold) = false →
    ∃ u, exec (.i2cTransfer n addr sent [b] last) s = .next u ∧ (u.port n).tx = (s.port n).tx.drop sent ∧
      (u.port n).rx = (s.port n).rx ++ [rxEntry (b.setWidth 32)] ∧
      u.out = .i2c n (s.port n).held (((s.port n).tx.take sent).map (·.data)) (decide (last ≠ .arbLost))
        (match s.fld SER_CTL_I2C_SPEED n with | 0 => 100 | 1 => 400 | _ => 1000) :: s.out ∧
      u.fld SER_STATUS_NACK n = (if last = .nack then 1 else s.fld SER_STATUS_NACK n) ∧
      u.fld SER_STATUS_ARB_LOST n = (if last = .arbLost then 1 else s.fld SER_STATUS_ARB_LOST n)) ∧
  (∀ (n : Fin 16) (header : Word) (age k : Nat) (body : List Word) (j : Nat) (s : State), s.serMode n = 6 → s.on SER_STATUS_BUS_OFF n = false →
    canFilter n header s = some j → (s.port n).canRx.length < 32 →
    ∃ u, exec (.canFrameReceive n header age body k .none) s = .next u ∧ portKept n [] s u ∧
      (u.port n).canRx = (s.port n).canRx ++ [mkWord [(0, 38, bits header 0 38), (40, 8, j)] ::
        (BitVec.ofNat 64 (s.fld DEVICE_TIME_TIME) - BitVec.ofNat 64 age) ::
        (List.range ((canBytes header + 7) / 8)).map (fun k => body.getD k 0)] ∧
      u.fld SER_STATUS_REC n = recAfterGood (s.fld SER_STATUS_REC n)) ∧
  (∀ (n : Fin 16) (header : Word) (age k : Nat) (body : List Word) (fault : CanFault) (s : State), s.serMode n = 6 →
    s.on SER_STATUS_BUS_OFF n = false → fault ≠ .none →
    ∃ u, exec (.canFrameReceive n header age body k fault) s = .next u ∧ u.port n = s.port n ∧
      u.fld SER_STATUS_REC n = min 255 (s.fld SER_STATUS_REC n + (if fault = .dominant then 8 else 1)) ∧ portKept n [] s u) ∧
  (∀ (n : Fin 16) (f : List Word) (s : State), s.serMode n = 6 → s.on SER_STATUS_BUS_OFF n = false → s.on FLT_STATUS_HALTED = false →
    (s.port n).canTx = [f] →
    ∀ k, ∃ u v, exec (.canFrameSend n k .sent) s = .next u ∧ (u.port n).canTx = [] ∧ u.out = canOnBus n f s :: s.out ∧
      u.fld SER_STATUS_TEC n = s.fld SER_STATUS_TEC n - 1 ∧ exec (.canFrameSend n k .error) s = .next v ∧ v.port n = s.port n ∧
      v.fld SER_STATUS_TEC n = min 255 (s.fld SER_STATUS_TEC n + 8) ∧
      v.fld SER_STATUS_BUS_OFF n = (if 255 < s.fld SER_STATUS_TEC n + 8 then 1 else 0) ∧ v.out = s.out ∧
      (canPassive n s = true → exec (.canFrameSend n k .unheard) s = .next s)) ∧
  (∀ (n : Fin 16) (k : Nat) (last : CanEnd) (s : State), s.serMode n = 6 → s.on SER_STATUS_BUS_OFF n = true →
    s.on FLT_STATUS_HALTED = false →
    (k < 128 → exec (.canFrameSend n k last) s = .next s) ∧
    (128 ≤ k → (s.port n).canTx = [] → ∃ u, exec (.canFrameSend n k last) s = .next u ∧ u.fld SER_STATUS_BUS_OFF n = 0 ∧
      u.fld SER_STATUS_TEC n = 0 ∧ u.fld SER_STATUS_REC n = 0 ∧ u.out = s.out ∧ portKept n [] s u))

/-- CFG_LOAD, CFG_ABORT, CFG_START, CFG_READBACK, FUSE_ROLLBACK, FUSE_PROGRAM and CFG_PUSH_WRITE (R374, R384, R390 to R394):
a load begins on its source, an abort fails it with code 10, a start is set for its tick, frames are read back, the fuse
count never falls, an item is programmed, and stream words of the PUSH master are taken. -/
def Obligations.ConfigurationCommands : Prop :=
  (∀ (p : Packet) (s : State), s.accepts 0x0101 (loadNeed (p.w 1)) .owner p → s.banked = false → s.cfg.load = none → bits (p.w 1) 0 2 ≠ 3 →
    ∃ t, exec (.cfgLoad p) s = .next t ∧
      t.cfg = { s.cfg with load := some (Load.fresh (some p) (bits (p.w 1) 0 2) (bit (p.w 1) 4) (bits (p.w 2) 0 38)) } ∧
      t.fld CFG_PROGRESS_FRAMES = 0 ∧ t.fld CFG_PROGRESS_BYTES = 0 ∧ t.fld CFG_STATUS_FULL = bnat (!bit (p.w 1) 4) ∧
      t.out = (if bits (p.w 1) 0 2 ≤ 1 then [Out.streamFetch (bits (p.w 1) 0 2) (bits (p.w 2) 0 38)] else []) ++ s.out ∧ t.mem = s.mem) ∧
  (∀ (p : Packet) (l : Load) (s : State), s.accepts 0x0101 (loadNeed (p.w 1)) .owner p → s.banked = false → s.cfg.load = some l →
    exec (.cfgLoad p) s = .next (endCommand p .busy [] (beginCommand p s))) ∧
  (∀ (p : Packet) (l : Load) (s : State), s.accepts 0x0102 0 .owner p → s.cfg.load = some l → l.clear = false → l.cmd = none →
    l.header = none →
    ∃ u, exec (.cfgAbort p) s = .next (endCommand p .ok [BitVec.ofNat 64 (s.fld CFG_PROGRESS_FRAMES)] (raise 0x380 10 u)) ∧
      u.cfg = { s.cfg with load := none } ∧ u.fld CFG_STATUS_FAIL = 10 ∧
      u.fld CFG_LOADS_FAILED = (s.fld CFG_LOADS_FAILED + 1) % 2 ^ CFG_LOADS_FAILED.w ∧ u.out = s.out ∧ u.mem = s.mem) ∧
  (∀ (p : Packet) (s : State), s.accepts 0x0103 1 .owner p →
    (s.cfState ≠ cfReady ∨ (p.w 1 ≠ 0 ∧ (p.w 1).toNat ≤ s.tickCount.toNat) →
      exec (.cfgStart p) s = .next (endCommand p .invalid [] (beginCommand p s))) ∧
    (s.cfState = cfReady → p.w 1 = 0 →
      ∃ u, exec (.cfgStart p) s = .next (endCommand p .ok [s.tickCount + BitVec.ofNat 64 (s.nextDue - s.tck.ticks)] u) ∧
        u = { beginCommand p s with cfg := { s.cfg with startDue := some s.nextDue } }) ∧
    (s.cfState = cfReady → s.tickCount.toNat < (p.w 1).toNat →
      ∃ u, exec (.cfgStart p) s =
          .next (endCommand p .ok [BitVec.ofNat 64 (max (p.w 1).toNat (s.tickCount.toNat + (s.nextDue - s.tck.ticks)))] u) ∧
        u = { beginCommand p s with cfg := { s.cfg with startTick := some (p.w 1).toNat, startOpen := s.nextDue } })) ∧
  (∀ (p : Packet) (t : Nat) (s : State), s.accepts 0x0104 2 .owner p → s.banked = false → s.cfg.load = none →
    s.on CFG_FUSE_READBACK_DIS = false → s.cfg.running = none → t = (if bit (p.w 1) 6 then 64 else bits (p.w 1) 0 6) →
    ∃ u, exec (.cfgReadback p none) s = .next (endCommand p .ok [BitVec.ofNat 64 (2 * (sigSpan t).2)] u) ∧
      u = (beginCommand p s).emit (.readback (bits (p.w 2) 0 38)
        ((List.range (2 * (sigSpan t).2)).flatMap (fun k => recordOf s (2 * (sigSpan t).1 + k))))) ∧
  (∀ (p : Packet) (h : LoadHeader) (s : State), s.accepts 0x0105 1 .owner p → s.cfg.load = none → s.cfg.running = some h →
    (p.w 1).toNat ≤ 64 →
    ∃ u n, exec (.fuseRollback p) s = .next (endCommand p .ok [BitVec.ofNat 64 n] u) ∧ n = u.cfg.fuses.rollback ∧
      n = max s.cfg.fuses.rollback (min (p.w 1).toNat h.rollback) ∧ u.fld CFG_FUSE_ROLLBACK = n % 2 ^ CFG_FUSE_ROLLBACK.w ∧
      u.out = s.out ∧ u.mem = s.mem) ∧
  (∀ (p : Packet) (item : Nat) (f : Fuses) (s : State), s.accepts 0x0106 1 .owner p → item = bits (p.w 1) 0 4 → fuseNeed item ≤ p.len →
    s.cfg.load = none → item ≤ 11 → s.on CFG_FUSE_FUSE_EN = true →
    s.cfg.fuses.program item ((p.words.drop 1).take (fuseNeed item - 1)) = some f →
    ∃ u, exec (.fuseProgram p) s = .next (endCommand p .ok [BitVec.ofNat 64 item] u) ∧ u.cfg.fuses = f ∧ u.out = s.out ∧
      u.mem = s.mem ∧ regsKeep [CFG_FUSE_REVOKED.off] (beginCommand p s) u) ∧
  (∀ (p : Packet) (s : State), s.accepts 0x0106 1 .owner p → fuseNeed (bits (p.w 1) 0 4) ≤ p.len → s.cfg.load = none →
    bits (p.w 1) 0 4 ≤ 11 → s.on CFG_FUSE_FUSE_EN = false →
    exec (.fuseProgram p) s = .next (endCommand p .locked [] (beginCommand p s))) ∧
  (∀ (m : Ident) (data : Word) (l : Load) (p : Packet) (s : State), s.admits m .CFG_PUSH [] → s.cfg.load = some l → l.source = 2 →
    l.clear = false → l.cmd = some p → p.issuer = m → l.header = none →
    ∃ t, exec (.cfgPushWrite m .full data) s = .next t ∧ t.cfg = { s.cfg with load := some { l with push := l.push ++ [data] } } ∧
      t.fld CFG_PROGRESS_BYTES = (s.fld CFG_PROGRESS_BYTES + 8) % 2 ^ CFG_PROGRESS_BYTES.w ∧ t.out = s.out ∧ t.mem = s.mem) ∧
  (∀ (m : Ident) (h : Half) (data : Word) (s : State), s.admits m .CFG_PUSH [] → s.cfg.load = none →
    exec (.cfgPushWrite m h data) s = .next (violation m .area true (CFG_PUSH_DATA.off + h.skip) (renewLease m s)))

/-- CONFIG_HEADER, CONFIG_RECORD, CONFIG_TRAILER, CLOCK_LINES_GATED, AUTHENTICATED, AUTHENTICATION_FAILED,
STARVATION_EXPIRE, DONE_N_RISE, DONE_N_FALL, DONE_FILTER_MET, READY_FRAME and START_FRAME (R364, R366, R368, R371, R379,
R381 to R383, R406): the checks of the stream pass or fail the load with their code, frames are written once every
target is gated, an authenticated image waits for its release or its start, and the start follows DONE_N or the
rendezvous. -/
def Obligations.ConfigurationStream : Prop :=
  (∀ (ws : List Word) (l : Load) (s : State), s.cfg.forward = false → s.cfg.load = some l → l.clear = false → l.header = none →
    l.source ≤ 1 → l.part = true → ws.length = 16 → headerCheck true ws s = none →
    (∀ r ∈ regionsOf (headerOf ws).mask, s.tdamper r = dmShut) →
    ∃ t x, exec (.configHeader .ok ws) s = .next t ∧ t.cfg.load = some x ∧ x.header = some (headerOf ws) ∧ x.sha = Sha.start.feed ws ∧
      x.targets = regionsOf (headerOf ws).mask ∧ (∀ r ∈ regionsOf (headerOf ws).mask, t.tstate r = stLoading ∧ t.tdamper r = dmShut) ∧
      t.fld CFG_REGIONS_MASK = (headerOf ws).mask ∧ t.fld CFG_STATUS_OPEN_KEY = bnat (!s.on CFG_FUSE_SLOTS) ∧
      t.cfState = (if s.cfState = cfRunning then cfPartial else s.cfState) ∧ t.out = s.out ∧ t.mem = s.mem) ∧
  (∀ (ws : List Word) (l : Load) (code : Nat) (s : State), s.cfg.forward = false → s.cfg.load = some l → l.clear = false →
    l.header = none → l.source ≤ 1 → ws.length = 16 → headerCheck l.part ws s = some code →
    ∃ u, exec (.configHeader .ok ws) s = .next (loadFail code u) ∧ u.cfg = s.cfg ∧ onlyRegs [CFG_PROGRESS_BYTES.off] s u) ∧
  (∀ (st : Status) (ws : List Word) (l : Load) (s : State), st ≠ .ok → s.cfg.load = some l → l.clear = false →
    ((l.source ≤ 1 ∧ l.trailer = false) → exec (.configHeader st ws) s = .next (loadFail 7 s) ∧
      exec (.configRecord st ws) s = .next (loadFail 7 s) ∧ exec (.configTrailer st ws) s = .next (loadFail 7 s)) ∧
    (1 < l.source → exec (.configHeader st ws) s = .next s ∧ exec (.configRecord st ws) s = .next s ∧
      exec (.configTrailer st ws) s = .next s)) ∧
  (∀ (code : Nat) (l : Load) (s : State), s.cfg.load = some l → l.clear = false → l.part = true → l.header = none →
    ∃ v, loadFail code s = replyLoad l .loadFailed [if l.golden then l.failCode else code,
        if l.golden then l.failFrames else s.fld CFG_PROGRESS_FRAMES, 0, 0] (raise 0x380 code v) ∧
      v.cfg = { s.cfg with load := none } ∧ v.fld CFG_STATUS_FAIL = code % 16 ∧
      regsKeep [CFG_STATUS_FAIL.off, CFG_LOADS_FAILED.off] s v) ∧
  (∀ (ws cw : List Word) (l : Load) (h : LoadHeader) (a : Nat) (s : State), s.cfg.forward = false → s.cfg.load = some l →
    l.header = some h → l.allGated = true → l.staged = [] → l.source ≤ 1 → l.received + 1 < h.count → ws.length = 66 →
    cw = (if h.enc then clearRecord s.cfg.fuses.aes l.iv l.received ws else ws) → recordGood l h cw = true → a = bits (cw.getD 0 0) 0 32 →
    ∃ t x, exec (.configRecord .ok ws) s = .next t ∧ t.cfg.load = some x ∧ x.received = l.received + 1 ∧ x.lastAddr = some a ∧ x.sha = l.sha.feed ws ∧
      Memory.get (fun _ => clearedFrame) t.cfg.frames a = (cw.drop 1).take 64 ∧
      (∀ b, b ≠ a → Memory.get (fun _ => clearedFrame) t.cfg.frames b = Memory.get (fun _ => clearedFrame) s.cfg.frames b) ∧
      t.fld CFG_PROGRESS_FRAMES = (s.fld CFG_PROGRESS_FRAMES + 1) % 2 ^ CFG_PROGRESS_FRAMES.w ∧ t.out = s.out ∧
      (∀ n, sweptNumber a = some n → ((t.pword (sigKey (n / 2))).value?.map (fun v => entryOf v n)) = some (frameCrc a ((cw.drop 1).take 64)).toNat)) ∧
  (∀ (ws : List Word) (l : Load) (h : LoadHeader) (s : State), s.cfg.forward = false → s.cfg.load = some l → l.header = some h →
    l.allGated = true → l.staged = [] → l.source ≤ 1 → l.received < h.count → ws.length = 66 →
    recordGood l h (if h.enc then clearRecord s.cfg.fuses.aes l.iv l.received ws else ws) = false →
    ∃ u, exec (.configRecord .ok ws) s = .next (loadFail 6 u) ∧ u.cfg = s.cfg ∧ onlyRegs [CFG_PROGRESS_BYTES.off] s u) ∧
  (∀ (ws hash : List Word) (l : Load) (h : LoadHeader) (s : State), hash = sha384 ((ws.drop 4).take 12) → s.cfg.forward = false → s.cfg.load = some l → l.header = some h →
    l.trailer = false → l.received = h.count → l.allGated = true → l.source ≤ 1 → ws.length = 32 →
    (l.required ≠ requiredFrames l → ∃ u, exec (.configTrailer .ok ws) s = .next (loadFail 6 u)) ∧
    (l.required = requiredFrames l → trailerFormed h.enc ws = true → (s.on CFG_FUSE_SLOTS = true → s.cfg.fuses.hashes.getD h.key [] = hash) →
      ∃ t, exec (.configTrailer .ok ws) s = .next t ∧ t.cfg = { s.cfg with load := some (l.endDigest h ws s) } ∧
        t.cfState = (if l.part then s.cfState else cfAuthenticating) ∧ t.out = s.out) ∧
    (l.required = requiredFrames l → trailerFormed h.enc ws = false → ∃ u, exec (.configTrailer .ok ws) s = .next (loadFail 2 u)) ∧
    (l.required = requiredFrames l → trailerFormed h.enc ws = true → s.on CFG_FUSE_SLOTS = true → s.cfg.fuses.hashes.getD h.key [] ≠ hash →
      ∃ u, exec (.configTrailer .ok ws) s = .next (loadFail 3 u))) ∧
  (∀ (t : Fin 65) (l : Load) (s : State), s.cfg.load = some l → s.tdamper t = dmShut → l.targets.contains t.val = true →
    l.gated.contains t.val = false → l.clear = false → l.staged = [] →
    ∃ u, exec (.clockLinesGated t) s = .next u ∧ u = setLoad (some { l with gated := l.gated ++ [t.val] }) s) ∧
  (∀ (l : Load) (h : LoadHeader) (s : State), s.cfg.load = some l → l.header = some h → l.trailer = true → l.verdict = none →
    l.due = none → l.firsts = [] → l.part = true →
    ∃ t, exec .authenticated s = .next t ∧
      t.cfg = { s.cfg with load := some { l with due := some s.nextDue } } ∧
      t.fld CFG_LOADS_DONE = (s.fld CFG_LOADS_DONE + 1) % 2 ^ CFG_LOADS_DONE.w ∧ onlyRegs [CFG_LOADS_DONE.off] { s with cfg := t.cfg } t) ∧
  (∀ (l : Load) (h : LoadHeader) (s : State), s.cfg.load = some l → l.header = some h → l.trailer = true → l.verdict = none →
    l.due = none → l.firsts = [] → l.part = false → l.cmd = none → l.golden = false → h.startMode = 2 →
    ∃ t, exec .authenticated s = .next t ∧ t.cfState = cfReady ∧ t.cfg.ready = some (h, false) ∧ t.cfg.load = none ∧
      t.cfg.startDue = some s.nextDue ∧ t.cfg.doneLow = false ∧ t.mem = s.mem) ∧
  (∀ (l : Load) (h : LoadHeader) (code : Nat) (s : State), s.cfg.load = some l → l.header = some h → l.trailer = true →
    l.due = none → l.verdict = some code →
    exec .authenticationFailed s = .next (loadFail code s) ∧ exec .authenticated s = .next s) ∧
  (∀ (l : Load) (h : LoadHeader) (ws : List Word) (s : State), trailerVerdict l h (l.sha.feed (ws.take 16)).finish ws s =
    if ecdsaVerifies (l.sha.feed (ws.take 16)).finish (trailerWide ws 4) (trailerWide ws 10) (trailerWide ws 16) (trailerWide ws 22) = false then some 8
    else if h.enc = true ∧ blocksOf ((ws.drop 2).take 2) ≠ [gcmTag s.aesKeys l.iv l.ghash (528 * h.count)] then some 9 else none) ∧
  (∀ (l : Load) (s : State), s.cfg.load = some l → l.clear = false → l.trailer = false → l.header = none → l.cmd.isSome = true →
    exec .starvationExpire s = .next (loadFail 7 s)) ∧
  (∀ (s : State), ∃ t u, exec .doneNRise s = .next t ∧ t.fld CFG_STATUS_DONE_IN = 1 ∧ t.cfg = { s.cfg with doneFilter := true } ∧
    exec .doneNFall s = .next u ∧ u.fld CFG_STATUS_DONE_IN = 0 ∧ u.cfg = { s.cfg with doneFilter := false } ∧
    regsKeep [CFG_STATUS_DONE_IN.off] s t ∧ regsKeep [CFG_STATUS_DONE_IN.off] s u) ∧
  (∀ (h : LoadHeader) (g : Bool) (s : State), s.cfg.doneFilter = true → s.cfg.ready = some (h, g) →
    exec .doneFilterMet s = .next { s with cfg := { s.cfg with
      doneFilter := false, startDue := if h.startMode = 0 then some s.nextDue else s.cfg.startDue } }) ∧
  (∀ (p : Fin 4) (f : BrFrame) (s : State), s.portActive p = true → s.on BRL_ID_ASSIGNED = true → f.dest = s.devId →
    s.on TCK_STATUS_IS_SOURCE = true → s.cfg.ready = none → s.cfg.running = none → (nth 0 f.data 0).toNat ∉ s.cfg.readyIds →
    f.hops < 64 →
    ∃ t, exec (.readyFrame p f) s = .next t ∧ t.cfg = { s.cfg with readyIds := s.cfg.readyIds ++ [(nth 0 f.data 0).toNat] } ∧
      t.out = s.out ∧ t.mem = s.mem) ∧
  (∀ (p : Fin 4) (f : BrFrame) (h : LoadHeader) (g : Bool) (s : State), s.portActive p = true → f.src ≠ s.devId →
    s.cfg.ready = some (h, g) → h.startMode = 1 → s.cfState = cfReady → s.tickCount.toNat < (nth 0 f.data 0).toNat →
    (∀ q, q < 4 → q ≠ p.val → s.portActive q = false) → f.hops < 64 →
    ∃ t, exec (.startFrame p f) s = .next t ∧
      t.cfg = { s.cfg with startTick := some (nth 0 f.data 0).toNat, startOpen := s.nextDue } ∧ t.out = s.out ∧
      t.mem = s.mem)

/-- REGION_CLEAR, REGION_DAMPER, REGION_DRAIN_DONE, DRAIN_LIMIT_EXPIRE, SWP_SOURCE, SIG_SWEEP_FRAME and REPAIR_READ_RESPONSE
(R402 to R404, R412, R413, R419 to R422, R426): a region closes, drains and is SHUT, at the limit its calls are answered
FENCED and its tags reserved, a copy is registered, and the sweep compares a frame with its entry and repairs it. -/
def Obligations.RegionsAndSignatures : Prop :=
  (∀ (p : Packet) (r : Nat) (s : State), s.accepts 0x0107 1 .owner p → regionsOf (p.w 1).toNat = [r] → s.banked = false →
    s.cfg.load = none →
    (s.tstate r = stCleared → exec (.regionClear p) s = .next (endCommand p .ok [1] (beginCommand p s))) ∧
    (s.tstate r ≠ stCleared → s.tdamper r = dmShut →
      ∃ t, exec (.regionClear p) s = .next t ∧ t.out = s.out ∧ t.mem = s.mem ∧
        t.cfg = { s.cfg with copies := t.cfg.copies, load := some { Load.fresh (some p) 0 true 0 with clear := true, targets := [r] } })) ∧
  (∀ (p : Packet) (r : Nat) (s : State), s.accepts 0x0108 2 .owner p → regionsOf (p.w 1).toNat = [r] → s.banked = false →
    s.cfg.load = none → bit (p.w 2) 0 = false → s.tstate r = stLoaded → s.tdamper r = dmOpen →
    (∀ g, g < 128 → s.mode g ≠ mdFabric) →
    ∃ t, exec (.regionDamper p) s = .next t ∧ t.tdamper r = dmClosing ∧ t.fld CFG_RGNr_STATUS_HOLDING r = 1 ∧
      t.cfg = { s.cfg with dampers := s.cfg.dampers ++ [⟨p, [r], 1, 0⟩] } ∧ t.out = s.out ∧ t.mem = s.mem) ∧
  (∀ (p : Packet) (r : Nat) (s : State), s.accepts 0x0108 2 .owner p → regionsOf (p.w 1).toNat = [r] → s.banked = false →
    s.cfg.load = none → bit (p.w 2) 0 = true → s.tstate r = stLoaded → s.tdamper r = dmShut →
    ∃ t, exec (.regionDamper p) s = .next t ∧ t = { beginCommand p s with cfg := { s.cfg with
      opens := s.cfg.opens ++ [⟨p, s.nextDue, 2 ^ r, 0⟩] } }) ∧
  (∀ (t : Fin 65) (p : Packet) (c k : Nat) (s : State), s.tdamper t = dmClosing → s.outstandingOf t = 0 →
    s.cfg.dampers = [⟨p, [t.val], c, k⟩] →
    ∃ u, exec (.regionDrainDone t) s = .next (endCommand p .ok [BitVec.ofNat 64 c, BitVec.ofNat 64 k] u) ∧ u.tdamper t = dmShut ∧
      u.cfg.dampers = [] ∧ u.out = s.out ∧ u.mem = s.mem) ∧
  (∀ (t : Fin 64) (x : FabPort) (src tag own : Nat) (s : State), s.tdamper t = dmClosing → s.fab t = x → x.calls = [(src, tag)] →
    x.reqs = [] → x.outs = [own] → s.cfg.dampers = [] →
    ∃ u, exec (.drainLimitExpire (t.castLE (by decide))) s = .next u ∧ u.tdamper t = dmShut ∧
      u.out = .result src (160 + t) tag .fenced 0 :: s.out ∧ (u.fab t).calls = [] ∧ (u.fab t).outs = [] ∧
      (u.fab t).reserved = x.reserved ++ [own] ∧ (u.fab t).forcedCalls = x.forcedCalls ++ [tag] ∧
      u.fld NOC_COUNTS_FENCED = (s.fld NOC_COUNTS_FENCED + 1) % 2 ^ NOC_COUNTS_FENCED.w ∧ u.mem = s.mem) ∧
  (∀ (p : Packet) (copy : List Word) (k : Kept) (t : Nat) (s : State), s.accepts 0x0109 2 .owner p → s.banked = false →
    s.cfg.load = none → bit (p.w 2) 0 = false → headerForeign copy = false → headerFormed (copy.take 16) = true →
    s.cfg.kept = [(t, k)] → k.digest = copyDigest copy → t < 64 →
    ∃ u, exec (.swpSource p .ok copy) s = .next (endCommand p .ok [1, 0] u) ∧
      copyOf u t = some (bits (p.w 1) 0 38) ∧ u.fld CFG_RGNr_STATUS_SOURCE t = 1 ∧ u.fbit SWP_SIG_SRC_REGIONS t = true ∧
      u.out = s.out ∧ u.mem = s.mem) ∧
  (∀ (n : Nat) (s : State), s.on SWP_SIG_CTL_EN = true → s.cfg.repair = none → s.gateOpen 7 = true → s.cfg.load = none →
    n = s.cfg.sweepNext → n + 1 < sweptFrames → s.tstate (sweptTarget n) ≠ stLoading →
    (s.pword (sigKey (n / 2))).decode = .clean (s.pword (sigKey (n / 2))).data → (s.pword (sigKey (n / 2))).isPoisoned = false →
    ((frameCrc (sweptAddr n) (Memory.get (fun _ => clearedFrame) s.cfg.frames (sweptAddr n))).toNat =
        entryOf (s.pword (sigKey (n / 2))).data n →
      ∃ u, exec .sigSweepFrame s = .next u ∧ u.cfg = { s.cfg with sweepNext := n + 1 } ∧ u.out = s.out ∧ u.mem = s.mem ∧
        regsKeep [SWP_SIG_STATUS_POSITION.off] s u) ∧
    ((frameCrc (sweptAddr n) (Memory.get (fun _ => clearedFrame) s.cfg.frames (sweptAddr n))).toNat ≠
        entryOf (s.pword (sigKey (n / 2))).data n → s.cfg.copies = [] → s.on CFG_RGNr_CTL_CONTAIN (sweptTarget n) = false →
      ∃ u v, exec .sigSweepFrame s = .next v ∧ v.cfg.sweepNext = n + 1 ∧
        v.fld SWP_SIG_COUNT_MISMATCH = (s.fld SWP_SIG_COUNT_MISMATCH + 1) % 2 ^ SWP_SIG_COUNT_MISMATCH.w ∧
        v.flt = (raise 0x381 (sweptAddr n) u).flt ∧ u.flt = s.flt ∧
        regsKeep [SWP_SIG_STATUS_POSITION.off, SWP_SIG_COUNT_MISMATCH.off, SWP_SIG_LAST_TICK_TICK.off] s u ∧
        v.fld SWP_SIG_FAIL_NO_SOURCE = (s.fld SWP_SIG_FAIL_NO_SOURCE + 1) % 2 ^ SWP_SIG_FAIL_NO_SOURCE.w ∧ v.mem = s.mem)) ∧
  (∀ (addr n : Nat) (header ws cw readback : List Word) (s : State), s.cfg.repair = some addr → sweptNumber addr = some n →
    cw = repairRecord addr header ws s → bits (cw.getD 0 0) 0 32 = addr → bits (cw.getD 65 0) 0 32 = entryOf (s.pword (sigKey (n / 2))).value n →
    s.tstate (addrTarget addr) = stLoaded → s.cfg.load = none →
    (frameCrc addr readback).toNat = entryOf (s.pword (sigKey (n / 2))).value n →
    ∃ u, exec (.repairReadResponse .ok header ws readback) s = .next u ∧
      Memory.get (fun _ => clearedFrame) u.cfg.frames addr = readback ∧ u.cfg.repair = none ∧ u.fld SWP_SIG_STATUS_REPAIRING = 0 ∧
      u.fld SWP_SIG_COUNT_REPAIRED = (s.fld SWP_SIG_COUNT_REPAIRED + 1) % 2 ^ SWP_SIG_COUNT_REPAIRED.w ∧ u.out = s.out ∧ u.mem = s.mem)

/-- The cross-parity code (R430, R431, and what R432 and R433 say of errors): the row and column check bits are the parities
of the grid; a clean word decodes as stored, every single-bit error of its 80 bits is mended to the word that was
written, every double-bit error is uncorrectable, and three data bits at corners of a rectangle of the grid are
mis-corrected as R433 says. -/
def Obligations.CrossParityMendsOneAndDetectsTwo : Prop :=
  (∀ d : Word, (PWord.clean d).data = d ∧
    (∀ r : Fin 8, (PWord.clean d).chk.getLsbD r = (List.range 8).foldl (fun b c => b != bit d (8 * r + c)) false) ∧
    (∀ c : Fin 8, (PWord.clean d).chk.getLsbD (8 + c) = (List.range 8).foldl
      (fun b r => b != (bit d (8 * r + c) != (PWord.clean d).chk.getLsbD r)) false)) ∧
  (∀ d : Word, (PWord.clean d).decode = .clean d ∧ (PWord.clean d).isBad = false ∧ (PWord.clean d).value? = some d) ∧
  (∀ (d : Word) (i : Nat), i < 80 → ((PWord.clean d).upset i).decode = .mended d) ∧
  (∀ (d : Word) (i j : Nat), i < j → j < 80 → (((PWord.clean d).upset i).upset j).decode = .bad) ∧
  (∀ (d : Word) (r r' c c' : Fin 8), r ≠ r' → c ≠ c' →
    ((((PWord.clean d).upset (8 * r + c)).upset (8 * r + c')).upset (8 * r' + c)).decode =
      .mended (d ^^^ (1 : Word) <<< (8 * r.val + c) ^^^ (1 : Word) <<< (8 * r.val + c') ^^^ (1 : Word) <<< (8 * r'.val + c) ^^^
        (1 : Word) <<< (8 * r'.val + c')))

/-- Writes and reads of protected words (R435, R437): a whole write stores the word clean, a partial write merges with a
word that decodes and is not made on one that is bad, any mark but 0b00 is poison, and MENDED_WRITE_BACK (R436) rewrites
the mended word. MEMORY_SWEEP_READ, SWEEP_ENABLE_WRITE, BANK_ACCESS, BANK_OWNER_WRITE, BANK_CLEAR_END and
BANK_WINDOW_WRITE (R440 to R446, R449, R451 to R453): the sweep files the write-back of a mended word and poisons a bad
one, a bank answers its owner and denies others, a window maps circularly, of two writes of one word in a cycle port B's
stands, and the bank's registers change only by its owner or the device owner. -/
def Obligations.ProtectedWordsSweepsAndBanks : Prop :=
  (
  (∀ (s : State) (k : Nat) (d : Word), (s.writeP k d).pword k = PWord.clean d ∧ ((s.writeP k d).pword k).value? = some d ∧
    (∀ j, j ≠ k → (s.writeP k d).pword j = s.pword j) ∧ (s.writeP k d).regs = s.regs) ∧
  (∀ (s : State) (k : Nat) (mask d old : Word), (s.pword k).value? = some old → mask ≠ 0xFFFFFFFFFFFFFFFF →
    s.writeMasked k mask d false = some (s.writeP k ((old &&& ~~~ mask) ||| (d &&& mask)))) ∧
  (∀ (s : State) (k : Nat) (mask d : Word) (poison : Bool), (s.pword k).isBad = true → mask ≠ 0xFFFFFFFFFFFFFFFF →
    s.writeMasked k mask d poison = none) ∧
  (∀ (s : State) (k : Nat) (d : Word), (s.writePoison k d).pword k = PWord.poisoned d ∧ ((s.writePoison k d).pword k).isBad = true) ∧
  (∀ p : PWord, p.mark ≠ 0 → p.isBad = true ∧ p.value? = none) ∧
  (∀ (s : State) (k : Nat) (d : Word) (l : List Nat), s.mends = k :: l → k ∉ l → (s.pword k).decode = .mended d →
    (s.pword k).mark = 0 →
    ∃ t, exec .mendedWriteBack s = .next t ∧ t.pword k = PWord.clean d ∧ (∀ j, j ≠ k → t.pword j = s.pword j) ∧ t.mends = l ∧
      t.regs = s.regs ∧ t.out = s.out)) ∧
  (
  (∀ (k : Fin 8) (unit n : Nat) (d : Word) (s : State), k.val ≠ 0 → k.val ≠ 7 → n = s.sweepPos k unit → s.on SWP_MEMk_CTL_EN k = true →
    (s.sweepUnits k).contains unit = true → s.sweepFree k unit = true → n + 1 < sweepLength k → (s.pword (sweepKey k unit n)).isPoisoned = false →
    (s.pword (sweepKey k unit n)).decode = .mended d →
    ∃ t, exec (.memorySweepRead k unit) s = .next t ∧ sweepKey k unit n ∈ t.mends ∧ t.mem = s.mem ∧
      t.fld SWP_MEMk_COUNT_CORR k = (s.fld SWP_MEMk_COUNT_CORR k + 1) % 2 ^ SWP_MEMk_COUNT_CORR.w ∧ t.sweepPos k unit = n + 1 ∧
      t.out = s.out ∧ regsKeep [SWP_MEMk_COUNT_CORR.key k 0 0] s t) ∧
  (∀ (k : Fin 8) (unit n : Nat) (s : State), k.val ≠ 0 → k.val ≠ 7 → n = s.sweepPos k unit → s.on SWP_MEMk_CTL_EN k = true →
    (s.sweepUnits k).contains unit = true → s.sweepFree k unit = true → n + 1 < sweepLength k → (s.pword (sweepKey k unit n)).isPoisoned = false →
    (s.pword (sweepKey k unit n)).decode = .bad →
    ∃ t u, exec (.memorySweepRead k unit) s = .next t ∧
      t.pword (sweepKey k unit n) = { s.pword (sweepKey k unit n) with mark := 3 } ∧ t.sweepPos k unit = n + 1 ∧
      t.flt = (raise (0x3C0 + k) (sweepUnitWord k unit n).2 u).flt ∧ u.flt = s.flt ∧
      u.fld SWP_MEMk_COUNT_UNCORR k = (s.fld SWP_MEMk_COUNT_UNCORR k + 1) % 2 ^ SWP_MEMk_COUNT_UNCORR.w ∧
      u.reg (SWP_MEMk_LAST_WORD.key k 0 0) = mkWord [(0, 24, (sweepUnitWord k unit n).2), (32, 13, (sweepUnitWord k unit n).1),
        (45, 3, sweepMem k n), (63, 1, 1)] ∧ regsKeep [SWP_MEMk_COUNT_UNCORR.key k 0 0, SWP_MEMk_LAST_WORD.key k 0 0] s u) ∧
  (∀ (m : Ident) (k : Fin 8) (h : Half) (data : Word) (s : State), s.admits m .SWP_MEMk_CTL [k.val] → h ≠ .high →
    ∃ t, exec (.sweepEnableWrite m k h data) s = .next t ∧ t.fld SWP_MEMk_CTL_EN k = bits data 0 1 ∧
      t.fld SWP_MEMk_CTL_PACE k = bits data 16 16 ∧ t.lap k = ([], s.fld DEVICE_TIME_TIME) ∧
      t.fld SWP_MEMk_LAP_LAST_US k = s.fld SWP_MEMk_LAP_LAST_US k ∧ t.out = s.out ∧ t.mem = s.mem) ∧
  (∀ (m : Ident) (b w : Nat) (d v : Word) (s : State), s.mm.portA = [] → s.mm.portB = [] → b < 256 → w < 16384 →
    (let r : BankReq := ⟨m, 0x4002000000 + 0x20000 * b + 8 * w, 8, none, false⟩
     (s.bankOwner b = m → s.on BNK_OWNERb_CLEARING b = false →
      ((s.pword (bankWordKey b w)).decode = .clean v → (s.pword (bankWordKey b w)).isPoisoned = false →
        ∃ t, exec (.bankAccess (some r) none) s = .next t ∧ t.out = .bank false m .ok [v] :: s.out ∧ t.mem = s.mem ∧
          t.mm = { s.mm with stallA := 0 }) ∧
      ((s.pword (bankWordKey b w)).isBad = true →
        ∃ t, exec (.bankAccess (some r) none) s = .next t ∧ t.out = .bank false m .errData [0] :: s.out ∧ t.mem = s.mem) ∧
      (∃ t, exec (.bankAccess none (some { r with data := some [d] })) s = .next t ∧ t.out = .bank true m .ok [] :: s.out ∧
        t.pword (bankWordKey b w) = PWord.clean d ∧ (∀ j, j ≠ bankWordKey b w → t.pword j = s.pword j)) ∧
      (∃ t, exec (.bankAccess none (some { r with data := some [d], poison := true })) s = .next t ∧
        t.out = .bank true m .ok [] :: s.out ∧ t.pword (bankWordKey b w) = PWord.poisoned d ∧
        (∀ j, j ≠ bankWordKey b w → t.pword j = s.pword j))) ∧
     (s.bankOwner b = m → s.on BNK_OWNERb_CLEARING b = true →
       ∃ t, exec (.bankAccess (some r) none) s = .next t ∧ t.out = s.out ∧ t.mem = s.mem ∧ t.regs = s.regs ∧
         t.mm.held = s.mm.held ++ [(false, ⟨m, b, [(w, 0xFFFFFFFFFFFFFFFF)], none, false⟩)]) ∧
     (s.bankOwner b ≠ m →
       ∃ t, exec (.bankAccess (some r) none) s = .next t ∧ t.out = .bank false m .denied [0] :: s.out ∧ t.mem = s.mem ∧
         t.fld BNK_VIOLb_COUNT b = (s.fld BNK_VIOLb_COUNT b + 1) % 2 ^ BNK_VIOLb_COUNT.w))) ∧
  (∀ (m : Ident) (b j o : Nat) (d : Word) (s : State), s.mm.portA = [] → s.mm.portB = [] → b < 256 → j < 16 → o < 131072 →
    s.bankOwner b = m → s.on BNK_OWNERb_CLEARING b = false →
    (let r : BankReq := ⟨m, 0x4100000000 + 0x1000000 * b + 0x100000 * j + 8 * o, 8, some [d], false⟩
     let w := s.fld BNK_WINb_j_BASE b j + o % s.fld BNK_WINb_j_LEN b j
     (s.on BNK_WINb_j_EN b j = true → 0 < s.fld BNK_WINb_j_LEN b j →
       s.fld BNK_WINb_j_BASE b j + s.fld BNK_WINb_j_LEN b j ≤ 16384 →
       ∃ t, exec (.bankAccess (some r) none) s = .next t ∧ t.out = .bank false m .ok [] :: s.out ∧
         t.pword (bankWordKey b w) = PWord.clean d ∧ (∀ i, i ≠ bankWordKey b w → t.pword i = s.pword i)) ∧
     (s.on BNK_WINb_j_EN b j = false →
       ∃ t, exec (.bankAccess (some r) none) s = .next t ∧ t.out = .bank false m .decode [] :: s.out ∧ t.mem = s.mem))) ∧
  (∀ (m : Ident) (b w : Nat) (d e : Word) (s : State), s.mm.portA = [] → s.mm.portB = [] → s.mm.stallB = 0 → b < 256 → w < 16384 →
    s.bankOwner b = m → s.on BNK_OWNERb_CLEARING b = false →
    (let r : BankReq := ⟨m, 0x4002000000 + 0x20000 * b + 8 * w, 8, some [d], false⟩
     ∃ t u, exec (.bankAccess (some r) (some { r with data := some [e] })) s = .next t ∧
       t.pword (bankWordKey b w) = PWord.clean d ∧ t.out = .bank false m .ok [] :: s.out ∧
       t.fld BNK_STATUSb_STALLS_B b = (s.fld BNK_STATUSb_STALLS_B b + 1) % 2 ^ BNK_STATUSb_STALLS_B.w ∧
       exec (.bankAccess none none) t = .next u ∧ u.pword (bankWordKey b w) = PWord.clean e ∧
       u.out = .bank true m .ok [] :: t.out)) ∧
  (∀ (m : Ident) (b : Fin 256) (data : Word) (s : State), s.admits m .BNK_OWNERb [b.val] → s.on BNK_OWNERb_CLEARING b = false →
    (s.bankOwner b = m ∨ s.isOwner m = true) →
    ∃ t, exec (.bankOwnerWrite m b .full data) s = .next t ∧ t.fld BNK_OWNERb_IDENT b = bits data 0 32 ∧
      t.on BNK_OWNERb_CLEARING b = bit data BNK_OWNERb_CLEAR.lo ∧ t.out = s.out ∧ t.mem = s.mem ∧
      regsKeep [leaseKey, BNK_OWNERb_IDENT.key b 0 0] s t) ∧
  (∀ (m : Ident) (b : Fin 256) (h : Half) (data : Word) (s : State), s.admits m .BNK_OWNERb [b.val] → s.bankOwner b ≠ m →
    s.isOwner m = false →
    exec (.bankOwnerWrite m b h data) s = .next (bankViolation b m 0 true true (RegName.BNK_OWNERb.off [b.val] + h.skip) s)) ∧
  (∀ (b : Fin 256) (s : State), s.on BNK_OWNERb_CLEARING b = true → s.mm.held = [] →
    ∃ t, exec (.bankClearEnd b) s = .next t ∧ t.on BNK_OWNERb_CLEARING b = false ∧
      (∀ w, w < 16384 → t.pword (bankWordKey b w) = memDefault (bankWordKey b w)) ∧
      (∀ k, (k < bankWordKey b 0 ∨ bankWordKey (b + 1) 0 ≤ k) → t.pword k = s.pword k) ∧ t.out = s.out) ∧
  (∀ (m : Ident) (b : Fin 256) (j : Fin 16) (data : Word) (s : State), s.admits m .BNK_WINb_j [b.val, j.val] →
    (s.bankOwner b = m ∨ s.isOwner m = true) →
    ∃ t, exec (.bankWindowWrite m b j .full data) s = .next t ∧ t.out = s.out ∧ t.mem = s.mem ∧
      (if bits data 16 15 = 0 ∨ 16384 < bits data 0 14 + bits data 16 15 then t = renewLease m s
       else t.fld BNK_WINb_j_BASE b j = bits data 0 14 ∧ t.fld BNK_WINb_j_LEN b j = bits data 16 15 ∧
         t.fld BNK_WINb_j_EN b j = bits data 63 1 ∧ regsKeep [leaseKey, BNK_WINb_j_BASE.key b j 0] s t)))

/-- X-then-Y routes (R458, R476, R477): from every router the port that the reset tables hold for another router leads
inside the mesh, and each hop brings the packet one closer, so that it arrives after the sum of the column and row
distances. -/
def Obligations.XyRoutesReachTheirRouter : Prop :=
  (∀ (s : State) (epoch net : Bool) (r d : Nat), r < 80 → d < 80 → s.noc.routes = [] → s.route epoch net r d = xyPort r d) ∧
  (∀ r d, r < 80 → d < 80 → (xyPort r d = 0 ↔ r = d)) ∧
  (∀ r d, r < 80 → d < 80 → r ≠ d → ∃ n, neighbour r (xyPort r d) = some n ∧ n < 80 ∧
    ((n % 10 : Int) - (d % 10 : Nat)).natAbs + ((n / 10 : Int) - (d / 10 : Nat)).natAbs + 1 =
      ((r % 10 : Int) - (d % 10 : Nat)).natAbs + ((r / 10 : Int) - (d / 10 : Nat)).natAbs)

/-- NOC_INJECT, ROUTER_FORWARD and NOC_EJECT (R462, R472, R477, R480 to R482, R484, R488): a request enters the mesh with a
credit or is answered at its endpoint, goes on by its route table, is answered DECODE at 64 hops, and is delivered, or
answered FENCED or ERR_GATED, at its destination (R15): the answer is a packet that returns to the endpoint that sent
the request. -/
def Obligations.NetworkMovesRequests : Prop :=
  (∀ (e : Fin 320) (q : NocReq) (k : NocPacket) (s : State), portOfEndpoint e = none → q.op ≠ 8 → stamps e q.ident s = true →
    makePacket e q s = some k →
    s.fld NOC_EPe_STATUS_DAMPER e = 0 → (s.credit (creditKey 1 e k.channel)).held ≠ 0 →
    ∃ t, exec (.nocInject e q) s = .next t ∧ t.noc.mesh = s.noc.mesh ++ [⟨k, 1, e, e / 4, 0⟩] ∧
      (t.credit (creditKey 1 e k.channel)).held = (s.credit (creditKey 1 e k.channel)).held - 1 ∧
      t.fld NOC_EPe_STATUS_OUTSTANDING e = (s.fld NOC_EPe_STATUS_OUTSTANDING e + 1) % 2 ^ 13 ∧ t.out = s.out ∧ t.mem = s.mem ∧
      regsKeep [NOC_EPe_STATUS_OUTSTANDING.key e 0 0, NOC_EPOCH_OLD_FLITS.off] s t) ∧
  (∀ (e : Fin 320) (q : NocReq) (s : State), portOfEndpoint e = none → q.op ≠ 8 → stamps e q.ident s = true →
    (makePacket e q s = none →
      ∃ t, exec (.nocInject e q) s = .next t ∧ t.out = .response e q.tag .decode [] :: s.out ∧ t.noc = s.noc ∧
        t.fld NOC_COUNTS_DECODE = (s.fld NOC_COUNTS_DECODE + 1) % 2 ^ 16 ∧ regsKeep [NOC_COUNTS_DECODE.off] s t) ∧
    (∀ k, makePacket e q s = some k → s.fld NOC_EPe_STATUS_DAMPER e ≠ 0 →
      ∃ t, exec (.nocInject e q) s = .next t ∧ t.out = .response e q.tag .fenced [] :: s.out ∧ t.noc = s.noc ∧
        t.fld NOC_COUNTS_FENCED = (s.fld NOC_COUNTS_FENCED + 1) % 2 ^ 16 ∧
        regsKeep [NOC_COUNTS_FENCED.off, NOC_EPe_STATUS_FENCED.key e 0 0] s t)) ∧
  (∀ (e : Fin 320) (q : NocReq) (p r : NocPacket) (s : State), q.op = 8 → q.answers = some p → p.dest = e →
    r = responseTo p q.status (bits q.body 0 24) q.poison q.data s → (s.credit (creditKey 1 e r.channel)).held ≠ 0 →
    ∃ t, exec (.nocInject e q) s = .next t ∧ t.noc.mesh = s.noc.mesh ++ [⟨r, 1, e, e / 4, 0⟩] ∧ r.tag = p.tag ∧
      r.destRtr = p.srcRtr ∧ r.destEp = p.srcEp ∧ r.channel = (if p.vnet = 2 then 7 else if p.vc = 0 then 4 else 5) ∧
      t.out = s.out ∧ t.mem = s.mem ∧ regsKeep [NOC_EPOCH_OLD_FLITS.off] s t) ∧
  (∀ (x : MeshPacket) (n : Nat) (s : State), s.noc.mesh = [x] → x.kind < 2 → (x.hops < 64 ∨ x.pkt.isResponse = true) →
    (let port := portFor x s
     port ≠ 0 ∧ neighbour x.router port = some n ∧
       (s.credit (creditKey 0 (linkOf x.router port) x.pkt.channel)).held ≠ 0) →
    ∃ t, exec (.routerForward 0) s = .next t ∧ t.out = s.out ∧ t.mem = s.mem ∧ t.noc.mesh = [{ x with
      kind := 0, place := linkOf x.router (portFor x s)
      router := n, hops := x.hops + 1 }]) ∧
  (∀ (e d : Nat) (s : State), e < 32 → d < 4 →
    stamps (sgeEndpoint (e / 8)) (mkIdent s.devId 5 e) s = true ∧ stamps (nth 0 ctxEndpoints d) (mkIdent s.devId 6 d) s = true ∧
    stamps 120 (mkIdent s.devId 1 d) s = true ∧ stamps 120 (mkIdent s.devId 5 e) s = false) ∧
  (∀ (x : MeshPacket) (s : State), portFor x s =
    if x.pkt.isResponse then xyPort x.router x.pkt.destRtr else s.route x.pkt.epoch (decide (x.pkt.vnet = 2)) x.router x.pkt.destRtr) ∧
  (∀ (x : MeshPacket) (s : State), s.noc.mesh = [x] → x.kind < 2 → (x.hops < 64 ∨ x.pkt.isResponse = true) → portFor x s = 0 →
    (s.credit (creditKey 2 x.pkt.dest x.pkt.channel)).held ≠ 0 →
    ∃ t, exec (.routerForward 0) s = .next t ∧ t.out = s.out ∧ t.mem = s.mem ∧
      t.noc.mesh = [{ x with kind := 2, place := x.pkt.dest, hops := x.hops + 1 }]) ∧
  (∀ (x : MeshPacket) (r : NocPacket) (s : State), s.noc.mesh = [x] → x.kind < 2 → 64 ≤ x.hops → x.pkt.isResponse = false →
    r = responseTo x.pkt .decode 0 false [] s → (s.credit (creditKey 1 (4 * x.router) r.channel)).held ≠ 0 →
    ∃ t, exec (.routerForward 0) s = .next t ∧ t.noc.mesh = [⟨r, 1, 4 * x.router, 4 * x.router / 4, 0⟩] ∧ t.out = s.out ∧
      t.fld NOC_COUNTS_HOPLIMIT = (s.fld NOC_COUNTS_HOPLIMIT + 1) % 2 ^ 16 ∧ t.mem = s.mem) ∧
  (∀ (x : MeshPacket) (s : State), s.noc.mesh = [x] → x.kind = 2 → portOfEndpoint x.pkt.dest = none → opTaken x.pkt = true →
    x.pkt.isResponse = false → mayRespond x.pkt.dest (responseTo x.pkt .ok 0 false [] s) s = true →
    x.pkt.channel ≠ 0 → (x.pkt.vnet = 0 → s.fld NOC_EPe_STATUS_DAMPER x.pkt.dest = 0) → requestGated x.pkt s = false →
    (x.pkt.poison = false ∨ x.pkt.vnet ≠ 2) →
    ∃ t, exec (.nocEject 0) s = .next t ∧ t.out = .delivered x.pkt.dest x.pkt :: s.out ∧ t.mem = s.mem ∧
      t.noc.mesh = (if answeredAtOnce x.pkt then
        [⟨responseTo x.pkt .ok 0 false [] s, 1, x.pkt.dest, x.pkt.dest / 4, 0⟩] else []) ∧
      regsKeep [NOC_EPe_STATUS_OUTSTANDING.key x.pkt.dest 0 0, NOC_EPOCH_OLD_FLITS.off] s t) ∧
  (∀ (x : MeshPacket) (s : State), s.noc.mesh = [x] → x.kind = 2 → x.pkt.isResponse = true →
    ∃ t, exec (.nocEject 0) s = .next t ∧ t.noc.mesh = [] ∧ t.out = .delivered x.pkt.dest x.pkt :: s.out ∧ t.mem = s.mem ∧
      regsKeep [NOC_EPe_STATUS_OUTSTANDING.key x.pkt.dest 0 0, NOC_EPOCH_OLD_FLITS.off] s t) ∧
  (∀ (x : MeshPacket) (s : State), s.noc.mesh = [x] → x.kind = 2 → x.pkt.channel ≠ 0 → x.pkt.isResponse = false →
    mayRespond x.pkt.dest (responseTo x.pkt .ok 0 false [] s) s = true →
    (opTaken x.pkt = false →
      ∃ t, exec (.nocEject 0) s = .next t ∧ t.out = s.out ∧
        t.noc.mesh = [⟨responseTo x.pkt .decode 0 false [] s, 1, x.pkt.dest, x.pkt.dest / 4, 0⟩]) ∧
    (opTaken x.pkt = true → x.pkt.vnet = 0 → s.fld NOC_EPe_STATUS_DAMPER x.pkt.dest ≠ 0 →
      ∃ t, exec (.nocEject 0) s = .next t ∧ t.out = s.out ∧
        t.noc.mesh = [⟨responseTo x.pkt .fenced 0 false [] s, 1, x.pkt.dest, x.pkt.dest / 4, 0⟩]) ∧
    (opTaken x.pkt = true → (x.pkt.vnet = 0 → s.fld NOC_EPe_STATUS_DAMPER x.pkt.dest = 0) → requestGated x.pkt s = true →
      ∃ t, exec (.nocEject 0) s = .next t ∧ t.out = s.out ∧
        t.noc.mesh = [⟨responseTo x.pkt .errGated 0 false [] s, 1, x.pkt.dest, x.pkt.dest / 4, 0⟩]))

/-- ROUTE_TABLE_WRITE, LOAD_XY, EPOCH_SWITCH, LINK_REPLAY and ENDPOINT_DRAIN_DONE (R476, R478, R479, R484, R486, R487): a
route of the inactive tables takes its port or is refused, the switch waits for its boundary, the sixteenth replay of a
flit fails the link, and a drained endpoint is SHUT. -/
def Obligations.NetworkControl : Prop :=
  (∀ (m : Ident) (h : Half) (data : Word) (s : State), s.admits m .NOC_RT_DATA [] → h ≠ .high → s.fld NOC_RT_SEL_ROUTER < 80 →
    s.fld NOC_RT_SEL_DEST < 80 → bits data 0 3 < 5 →
    (routesLocked s = false → s.fld NOC_RT_SEL_ROUTER ≠ s.fld NOC_RT_SEL_DEST → bits data 0 3 ≠ 0 →
      (neighbour (s.fld NOC_RT_SEL_ROUTER) (bits data 0 3)).isSome →
      ∃ t, exec (.routeTableWrite m h data) s = .next t ∧
        t.route (!s.on NOC_EPOCH_CUR) (s.on NOC_RT_SEL_VNET) (s.fld NOC_RT_SEL_ROUTER) (s.fld NOC_RT_SEL_DEST) = bits data 0 3 ∧
        (∀ net r d, r < 80 → d < 80 → t.route (s.on NOC_EPOCH_CUR) net r d = s.route (s.on NOC_EPOCH_CUR) net r d) ∧
        t.out = s.out ∧ t.mem = s.mem ∧ regsKeep [leaseKey] s t) ∧
    ((routesLocked s = true ∨ s.fld NOC_RT_SEL_ROUTER = s.fld NOC_RT_SEL_DEST ∨ bits data 0 3 = 0 ∨
        (neighbour (s.fld NOC_RT_SEL_ROUTER) (bits data 0 3)).isNone) →
      ∃ t, exec (.routeTableWrite m h data) s = .next t ∧ t.fld NOC_EPOCH_RT_REFUSED = 1 ∧ t.noc = s.noc ∧
        onlyRegs [leaseKey, NOC_EPOCH_RT_REFUSED.off] s t)) ∧
  (∀ (m : Ident) (h : Half) (data : Word) (c : Instr) (s : State), c ∈ [Instr.epochSwitch m h data, .loadXy m h data] →
    s.admits m .NOC_EPOCH [] → h ≠ .high → bits data 3 2 = 0 → bit data 5 = false →
    (bit data 2 = true → routesLocked s = false →
      ∃ t, exec c s = .next t ∧ t.noc = { s.noc with switchDue := some s.nextDue } ∧ t.fld NOC_EPOCH_PENDING = 1 ∧
        t.fld NOC_EPOCH_CUR = s.fld NOC_EPOCH_CUR ∧ onlyRegs [leaseKey, NOC_EPOCH_CUR.off] { s with noc := t.noc } t) ∧
    (bit data 2 = true → routesLocked s = true →
      ∃ t, exec c s = .next t ∧ t.noc = s.noc ∧ t.fld NOC_EPOCH_SWITCH_REFUSED = 1 ∧ onlyRegs [leaseKey, NOC_EPOCH_CUR.off] s t)) ∧
  (∀ (m : Ident) (h : Half) (data : Word) (c : Instr) (s : State), c ∈ [Instr.epochSwitch m h data, .loadXy m h data] →
    s.admits m .NOC_EPOCH [] → h ≠ .high → bit data 2 = false → bit data 5 = true → routesLocked s = false →
    ∃ t, exec c s = .next t ∧ (∀ net r d, r < 80 → d < 80 → t.route (!s.on NOC_EPOCH_CUR) net r d = xyPort r d ∧
      t.route (s.on NOC_EPOCH_CUR) net r d = s.route (s.on NOC_EPOCH_CUR) net r d) ∧ t.out = s.out ∧ t.mem = s.mem) ∧
  (∀ (l : Fin 320) (f : LinkFlit) (same : Bool) (s : State), f.crc = flitCrc f.payload → f.parity = Machine.parity (f.hops.setWidth 64) 7 →
    f.header = false → exec (.linkReplay l f same) s = .next s) ∧
  (∀ (l : Fin 320) (f : LinkFlit) (s : State), (neighbour (l / 4) (l % 4 + 1)).isSome → f.passes = false → Memory.get (fun _ => 0) s.noc.runs l = 15 →
    ∃ u, exec (.linkReplay l f true) s = .next (raise 0x141 l u) ∧ u.fld NOC_LINKl_STAT_FAILED l = 1 ∧
      u.fld NOC_LINKl_STAT_REPLAYS l = (s.fld NOC_LINKl_STAT_REPLAYS l + 1) % 2 ^ 16 ∧
      u.fld NOC_LINKl_STAT_MAX_RUN l = max (s.fld NOC_LINKl_STAT_MAX_RUN l) 16 ∧
      u.fld NOC_REPLAY_REPLAYS = (s.fld NOC_REPLAY_REPLAYS + 1) % 2 ^ 32 ∧ u.out = s.out ∧ u.noc.mesh = s.noc.mesh) ∧
  (∀ (l : Fin 320) (f : LinkFlit) (s : State), (neighbour (l / 4) (l % 4 + 1)).isSome → f.passes = false →
    ∃ t, exec (.linkReplay l f false) s = .next t ∧ Memory.get (fun _ => 0) t.noc.runs l = 1 ∧
      t.fld NOC_REPLAY_CRC_ERR = (s.fld NOC_REPLAY_CRC_ERR + 1) % 2 ^ 32 ∧ t.fld NOC_LINKl_STAT_FAILED l = s.fld NOC_LINKl_STAT_FAILED l ∧
      t.out = s.out ∧ t.noc.mesh = s.noc.mesh) ∧
  (∀ (e : Fin 320) (s : State), portOfEndpoint e = none → (∀ c, c < 4 → dramEndpoint c ≠ e) → s.fld NOC_EPe_STATUS_DAMPER e = 1 →
    s.fld NOC_EPe_STATUS_OUTSTANDING e = 0 →
    ∃ t, exec (.endpointDrainDone e) s = .next t ∧ t.fld NOC_EPe_STATUS_DAMPER e = 2 ∧
      onlyRegs [NOC_EPe_STATUS_DAMPER.key e 0 0] s t)

/-- DRAM addresses (R494 to R496): each interleaved address below the mapped size names one controller and a local address
below its capacity, no two addresses share both, every 256-byte block lies in one controller, an address at or above the
mapped size has no mapping, and L decodes into byte, subchannel, bank group, bank, column, rank and row. IMAP_WRITE
takes a map while no mapped controller is ACTIVE or SELF_REFRESH and refuses MODE 3 and unequal capacities. -/
def Obligations.DramAddresses : Prop :=
  (∀ (s : State) (a : Nat), s.fld DRC_IMAP_MODE = 2 →
    (a < 4 * (s.capacity 0 * 2 ^ 30) → ∃ c l, dramTarget a s = some (c, l) ∧ c < 4 ∧ l < s.capacity 0 * 2 ^ 30 ∧ c = a / 256 % 4 ∧
      l % 256 = a % 256 ∧ l / 256 = a / 1024) ∧
    (4 * (s.capacity 0 * 2 ^ 30) ≤ a → dramTarget a s = none)) ∧
  (∀ (s : State) (a : Nat), s.fld DRC_IMAP_MODE = 1 →
    (a < 2 * (s.capacity 0 * 2 ^ 30) → ∃ c l, dramTarget a s = some (c, l) ∧ c < 2 ∧ l < s.capacity 0 * 2 ^ 30 ∧ c = a / 256 % 2 ∧
      l % 256 = a % 256 ∧ l / 256 = a / 512) ∧
    (2 * (s.capacity 0 * 2 ^ 30) ≤ a → dramTarget a s = none)) ∧
  (∀ (s : State) (a b : Nat) (x : Nat × Nat), a < 2 ^ 38 → b < 2 ^ 38 → dramTarget a s = some x → dramTarget b s = some x → a = b) ∧
  (∀ (s : State) (a b : Nat) (x y : Nat × Nat), dramTarget a s = some x → dramTarget b s = some y → a / 256 = b / 256 → x.1 = y.1) ∧
  (∀ (s : State) (c a : Nat), s.fld DRC_IMAP_MODE = 0 → c < 4 → a < 2 ^ 36 →
    dramTarget (2 ^ 36 * c + a) s = if s.fbit DRC_IMAP_MASK c = true ∧ a < s.capacity c * 2 ^ 30 then some (c, a) else none) ∧
  (∀ (s : State) (c sub grp bank col rank row : Nat), sub < 2 → grp < 8 → bank < 4 → col < 64 → rank < 2 →
    (s.fld DRC_GEOM_RANKS c = 1 →
      (let b := sub + 2 * (grp + 8 * (bank + 4 * (col + 64 * (rank + 2 * row))))
       bankOf s c b = sub + 2 * rank + 4 * (grp + 8 * bank) ∧ rowOf s c b = row)) ∧
    (s.fld DRC_GEOM_RANKS c = 0 →
      (let b := sub + 2 * (grp + 8 * (bank + 4 * (col + 64 * row)))
       bankOf s c b = sub + 4 * (grp + 8 * bank) ∧ rowOf s c b = row))) ∧
  (∀ s : State, s.fld DRC_IMAP_MODE < 3 → (imapLocked s = true ↔ ∃ c, c < 4 ∧
    (s.fld DRC_IMAP_MODE = 0 → s.fbit DRC_IMAP_MASK c = true) ∧ (s.fld DRC_IMAP_MODE = 1 → c < 2) ∧
    (s.drState c = drActive ∨ s.drState c = drSelfRefresh))) ∧
  (∀ (m : Ident) (data : Word) (s : State), s.admits m .DRC_IMAP [] →
    (imapLocked s = false → bits data 0 2 < 3 → (∀ c, c < 2 * bits data 0 2 → s.capacity c = s.capacity 0) →
      ∃ t, exec (.imapWrite m .full data) s = .next t ∧ t.fld DRC_IMAP_MODE = bits data 0 2 ∧ t.fld DRC_IMAP_MASK = bits data 4 4 ∧
        onlyRegs [leaseKey, DRC_IMAP_MODE.off] s t) ∧
    (imapLocked s = true ∨ bits data 0 2 = 3 ∨ (∃ c, c < 2 * bits data 0 2 ∧ s.capacity c ≠ s.capacity 0) →
      ∃ t, exec (.imapWrite m .full data) s = .next t ∧ onlyRegs [leaseKey] s t))

/-- The activate tables (R510): whatever rows a bank activates, a row's entry counts at least its activates, and a row
without an entry has been activated no more often than the lowest count says, so no row escapes unseen within a window. -/
def Obligations.ActivateTablesBoundTheCounts : Prop :=
  ∀ rows : List Nat, rows.length < 65535 →
    (let t := rows.foldl (fun t r => (tableActivate t r).1) []
     t.length ≤ 16 ∧ (t.map (·.1)).Nodup ∧ (∀ e ∈ t, rows.count e.1 ≤ e.2) ∧
     (∀ r, (∀ e ∈ t, e.1 ≠ r) → ∀ e ∈ t, rows.count r ≤ e.2) ∧
     (∀ r ∈ rows, (∀ e ∈ t, e.1 ≠ r) → t.length = 16))

/-- DRAM_REQUEST and DRAM_READ_DATA (R493, R499, R501 to R505, R512), and REFRESH_ACCRUE, REFRESH_SLOT, MR4_POLL,
REFRESH_WINDOW_END, ALERT_ASSERT, ALERT_REPLAY and RETRY_BUFFER_RELEASE (R506 to R514). -/
def Obligations.DramTraffic : Prop :=
  (∀ (c : Fin 4) (q : DramReq) (n l : Nat) (s : State), dramTarget q.addr s = some (n, l) →
    (n ≠ c.val → exec (.dramRequest c q) s = .next s) ∧
    (n = c.val → s.drState c ≠ drActive →
      ∃ t, exec (.dramRequest c q) s = .next t ∧ t.dram = s.dram ∧
        t.out = .response q.src q.tag .fenced (if q.write then [] else List.replicate (wordsTouched l q.size) 0) :: s.out ∧
        t.fld NOC_COUNTS_FENCED = (s.fld NOC_COUNTS_FENCED + 1) % 2 ^ 16 ∧
        drcKept c [NOC_COUNTS_FENCED.off, NOC_EPe_STATUS_OUTSTANDING.key (dramEndpoint c) 0 0] s t)) ∧
  (∀ (c : Fin 4) (r : DramReq) (q : DramJob) (b n k l : Nat) (s : State), s.serving c → dramTarget r.addr s = some (c.val, l) →
    q = r.job l (phyCycles c s) → s.drc c = { Dram.reset with nextId := n, serial := k } →
    s.fld DRC_STATUS_DRAINING c = 0 → 2 ≤ s.fld DRC_CTL_THRESH c → 2 ≤ s.fld DRC_CTL_HWM c → q.bursts = [b] →
    (q.write = false →
      ∃ t, exec (.dramRequest c r) s = .next t ∧
        t.out = .dramCommand c (.read b) :: .dramCommand c (.activate (bankOf s c b) (rowOf s c b)) :: s.out ∧
        t.drc c = { Dram.reset with
          nextId := n + 2, serial := k + 1, reads := [⟨k, q.src, q.tag, l, q.size, [], 1, [], false, q.since⟩]
          retry := [(n, .activate (bankOf s c b) (rowOf s c b)), (n + 1, .read b)], flights := [⟨n + 1, b, some k, none⟩]
          rows := [(bankOf s c b, rowOf s c b)], tables := [(bankOf s c b, [(rowOf s c b, 1)])] } ∧
        t.fld DRC_STATUS_RD_Q c = 1 ∧ t.fld DRC_STATUS_WR_Q c = 0 ∧ drcKept c [] s t) ∧
    (q.write = true → wholeBurst (q.maskOf b) = true →
      ∃ t, exec (.dramRequest c r) s = .next t ∧
        t.out = .dramCommand c (.write b (q.dataOf b) (burstCheck b (q.dataOf b) (burstInfo q.poison q.ident))) ::
          .dramCommand c (.activate (bankOf s c b) (rowOf s c b)) :: .response q.src q.tag .ok [] :: s.out ∧
        (t.drc c).reads = [] ∧ (t.drc c).writes = [] ∧ (t.drc c).answers = [] ∧ (t.drc c).rows = [(bankOf s c b, rowOf s c b)] ∧
        t.fld DRC_STATUS_WR_Q c = 0 ∧ drcKept c [NOC_EPe_STATUS_OUTSTANDING.key (dramEndpoint c) 0 0] s t)) ∧
  (∀ (c : Fin 4) (r : DramRead) (b i info : Nat) (data v : List Word) (check : BitVec 128) (d : Dram) (s : State), s.serving c →
    d.idle → d.retry = [] → s.drc c = { d with reads := [r], flights := [⟨i, b, some r.serial, none⟩] } →
    r.todo = [] → r.left = 1 → r.bad = false →
    (burstDecode b data check = .clean v info → infoPoisoned info = false →
      ∃ t, exec (.dramReadData c b data check) s = .next t ∧
        t.out = .response r.src r.tag .ok (readWords { r with got := r.got ++ [(b, v)] }) :: s.out ∧ t.drc c = d ∧
        t.fld DRC_STATUS_RD_Q c = 0 ∧ drcKept c [NOC_EPe_STATUS_OUTSTANDING.key (dramEndpoint c) 0 0] s t) ∧
    (burstDecode b data check = .mended v info → infoPoisoned info = false → s.on DRC_CTL_SCRUB_WB c = false → b < 2 ^ 30 →
      ∃ t, exec (.dramReadData c b data check) s = .next t ∧
        t.out = .response r.src r.tag .ok (readWords { r with got := r.got ++ [(b, v)] }) :: s.out ∧ t.drc c = d ∧
        t.fld DRC_ERR_COUNT_CORR c = (s.fld DRC_ERR_COUNT_CORR c + 1) % 2 ^ DRC_ERR_COUNT_CORR.w ∧
        t.fld DRC_ERR_LAST_L c = b ∧ t.fld DRC_ERR_LAST_KIND c = 0 ∧ t.fld DRC_ERR_LAST_VALID c = 1 ∧
        drcKept c [NOC_EPe_STATUS_OUTSTANDING.key (dramEndpoint c) 0 0, DRC_ERR_COUNT_CORR.key c 0 0, DRC_ERR_LAST_L.key c 0 0] s t) ∧
    (burstDecode b data check = .uncorrectable → b < 2 ^ 30 →
      ∃ t u, exec (.dramReadData c b data check) s = .next t ∧
        t.out = .response r.src r.tag .errData (List.replicate (wordsTouched r.l r.size) 0) :: (raise (0x340 + c) b u).out ∧ t.drc c = d ∧
        t.flt = (raise (0x340 + c) b u).flt ∧ u.flt = s.flt ∧ u.out = s.out ∧ t.mem = s.mem ∧
        u.fld DRC_ERR_COUNT_UNCORR c = (s.fld DRC_ERR_COUNT_UNCORR c + 1) % 2 ^ DRC_ERR_COUNT_UNCORR.w ∧
        u.fld DRC_ERR_LAST_L c = b ∧ u.fld DRC_ERR_LAST_KIND c = 1 ∧ u.fld DRC_ERR_LAST_VALID c = 1)) ∧
  (∀ (c : Nat) (x y : DramPick) (s : State) (l : List DramPick),
    (dramAged c s x = true → dramPrefer c s (x :: l) = some x) ∧
    (dramAged c s x = false → (s.drc c).rows.contains (bankOf s c x.burst, rowOf s c x.burst) = false →
      (s.drc c).rows.contains (bankOf s c y.burst, rowOf s c y.burst) = true → dramPrefer c s (x :: y :: l) = some y)) ∧
  (∀ (c : Fin 4) (s : State), s.drState c = drActive →
    (s.fld DRC_STATUS_DEBT c < 4 →
      ∃ t, exec (.refreshAccrue c) s = .next t ∧ t.fld DRC_STATUS_DEBT c = s.fld DRC_STATUS_DEBT c + 1 ∧ t.out = s.out ∧
        t.fld DRC_REF_COUNT_MAX_DEBT c = max (s.fld DRC_REF_COUNT_MAX_DEBT c) (s.fld DRC_STATUS_DEBT c + 1) ∧
        t.fld FLT_DRAMc_ACCRUED c = (s.fld FLT_DRAMc_ACCRUED c + 1) % 2 ^ 32 ∧
        onlyRegs [drcKey c, DRC_REF_COUNT_MAX_DEBT.key c 0 0, FLT_DRAMc_ACCRUED.key c 0 0] s t) ∧
    (s.fld DRC_STATUS_DEBT c = 4 → s.serving c →
      ∃ t, exec (.refreshAccrue c) s = .next t ∧ t.fld DRC_STATUS_DEBT c = 4 ∧ (t.drc c).rows = [] ∧
        t.fld DRC_REF_COUNT_URGENT c = (s.fld DRC_REF_COUNT_URGENT c + 1) % 2 ^ DRC_REF_COUNT_URGENT.w ∧
        t.out = .dramCommand c .refresh :: .dramCommand c .prechargeAll :: s.out ∧
        drcKept c [DRC_REF_COUNT_MAX_DEBT.key c 0 0, FLT_DRAMc_ACCRUED.key c 0 0] s t)) ∧
  (∀ (c : Fin 4) (s : State), s.serving c → (s.drc c).idle →
    (1 ≤ s.fld DRC_STATUS_DEBT c →
      ∃ t, exec (.refreshSlot c) s = .next t ∧ t.fld DRC_STATUS_DEBT c = s.fld DRC_STATUS_DEBT c - 1 ∧ (t.drc c).rows = [] ∧
        t.fld DRC_REF_COUNT_REFRESHES c = (s.fld DRC_REF_COUNT_REFRESHES c + 1) % 2 ^ DRC_REF_COUNT_REFRESHES.w ∧
        t.out = .dramCommand c .refresh :: .dramCommand c .prechargeAll :: s.out ∧
        drcKept c [DRC_REF_COUNT_REFRESHES.key c 0 0] s t) ∧
    (s.fld DRC_STATUS_DEBT c = 0 → exec (.refreshSlot c) s = .next s) ∧
    (∀ (n : Nat) (rfm : Bool), s.on DRC_STATUS_HOT c = false → (let i := s.fld DRC_TIM2_TREFI c
      n = min 15 (2 * s.fld DRC_STATUS_DEBT c + bnat (decide (i ≤ 2 * (phyCycles c s % i))))) →
      ∃ t, exec (.mr4Poll c [1] rfm) s = .next t ∧ t.fld DRC_STATUS_HOT c = 1 ∧ t.fld DRC_STATUS_RFM_REQ c = bnat rfm ∧
        t.fld DRC_STATUS_DEBT c = min n 4 ∧
        t.fld DRC_REF_COUNT_URGENT c = (s.fld DRC_REF_COUNT_URGENT c + (n - 4)) % 2 ^ DRC_REF_COUNT_URGENT.w ∧
        drcKept c [DRC_REF_COUNT_MAX_DEBT.key c 0 0, FLT_DRAMc_ACCRUED.key c 0 0] s t) ∧
    (∀ rfm : Bool, s.on DRC_STATUS_HOT c = true →
      ∃ t, exec (.mr4Poll c [0, 0] rfm) s = .next t ∧ t.fld DRC_STATUS_HOT c = 0 ∧ t.fld DRC_STATUS_RFM_REQ c = bnat rfm ∧
        t.fld DRC_STATUS_DEBT c = (s.fld DRC_STATUS_DEBT c + 1) / 2 ∧
        onlyRegs [drcKey c, DRC_REF_COUNT_MAX_DEBT.key c 0 0, FLT_DRAMc_ACCRUED.key c 0 0] s t) ∧
    (∀ rfm : Bool, s.on DRC_STATUS_HOT c = true →
      ∃ u, exec (.mr4Poll c [2] rfm) s = .next (raise (0x344 + c) 0 u) ∧ u.fld DRC_STATUS_RFM_REQ c = bnat rfm ∧
        u.fld DRC_STATUS_HOT c = 1 ∧ onlyRegs [drcKey c] s u) ∧
    (∀ rfm : Bool, s.on DRC_STATUS_HOT c = false →
      ∃ t, exec (.mr4Poll c [0] rfm) s = .next t ∧ t.fld DRC_STATUS_RFM_REQ c = bnat rfm ∧ t.fld DRC_STATUS_HOT c = 0 ∧
        onlyRegs [drcKey c] s t)) ∧
  (∀ (c : Fin 4) (s : State),
    ∃ t, exec (.refreshWindowEnd c) s = .next t ∧ t.drc c = { s.drc c with tables := [] } ∧ t.fld DRC_STATUS_FIRST_WINDOW c = 0 ∧
      drcKept c [] s t) ∧
  (∀ (c : Fin 4) (i : Nat) (x : DramCmd) (l : List (Nat × DramCmd)) (s : State), s.drState c = drActive →
    s.fld DRC_STATUS_ALERT_STOP c = 0 → (s.drc c).retry = (i, x) :: l →
    ((s.drc c).lastAlert ≠ some i →
      ∃ t, exec (.alertAssert c) s = .next t ∧ t.fld DRC_STATUS_ALERT_STOP c = 1 ∧ (t.drc c).lastAlert = some i ∧ (t.drc c).failed = 0 ∧
        (t.drc c).retry = (i, x) :: l ∧ t.fld DRC_ALERT_COUNT_ALERTS c = (s.fld DRC_ALERT_COUNT_ALERTS c + 1) % 2 ^ DRC_ALERT_COUNT_ALERTS.w ∧
        t.out = s.out ∧ drcKept c [DRC_ALERT_COUNT_ALERTS.key c 0 0] s t) ∧
    ((s.drc c).lastAlert = some i → (s.drc c).failed = 2 →
      ∃ t u, exec (.alertAssert c) s = .next t ∧ t.drState c = drOffline ∧ t.fld DRC_OFFLINE_REASON c = 2 ∧
        t.flt = (raise (0x348 + c) (s.fld DRC_ALERT_COUNT_REPLAYS c) u).flt ∧ u.flt = s.flt ∧ (t.drc c).retry = [])) ∧
  (∀ (c : Fin 4) (s : State), s.drState c = drActive → s.fld DRC_STATUS_ALERT_STOP c = 1 → s.fld DRC_STATUS_DEBT c ≤ 4 → (s.drc c).idle →
    ∃ t, exec (.alertReplay c) s = .next t ∧ t.out = ((s.drc c).retry.map (fun e => Out.dramCommand c e.2)).reverse ++ s.out ∧
      t.fld DRC_STATUS_ALERT_STOP c = 0 ∧ t.drc c = s.drc c ∧
      t.fld DRC_ALERT_COUNT_REPLAYS c = (s.fld DRC_ALERT_COUNT_REPLAYS c + 1) % 2 ^ DRC_ALERT_COUNT_REPLAYS.w ∧
      drcKept c [DRC_ALERT_COUNT_ALERTS.key c 0 0] s t) ∧
  (∀ (c : Fin 4) (s : State),
    (s.fld DRC_STATUS_ALERT_STOP c = 0 → s.fld DRC_STATUS_DEBT c ≤ 4 → (s.drc c).idle →
      ∃ t, exec (.retryBufferRelease c) s = .next t ∧ t.drc c = { s.drc c with retry := (s.drc c).retry.tail } ∧ t.out = s.out ∧
        drcKept c [] s t) ∧
    (s.fld DRC_STATUS_ALERT_STOP c = 1 → exec (.retryBufferRelease c) s = .next s))

/-- DRAM_START, DRAM_STOP, DELAY_SWEEP and DRAM_TABLE_SAVE (R511, R515 to R520, R524, R525): what each does to the
controller it names, its reply, and the states in which it is INVALID. -/
def Obligations.DramCommands : Prop :=
  (∀ (p : Packet) (good : Bool) (s : State), s.accepts 0x0501 1 .owner p → s.banked = false → (s.drc (drc p)).idle →
    (s.drState (drc p) = drStopped ∨ s.drState (drc p) = drOffline →
      (good = true → ∃ u, exec (.dramStart p good) s = .next (endCommand p .ok [2] u) ∧ u.drState (drc p) = drActive ∧
        u.fld DRC_STATUS_DEBT (drc p) = 0 ∧ u.fld DRC_STATUS_FIRST_WINDOW (drc p) = 1 ∧ u.fld DRC_STATUS_HOT (drc p) = 0 ∧
        (u.drc (drc p)).tables = [] ∧ (u.drc (drc p)).openDue = some s.nextDue ∧ u.out = (beginCommand p s).out ∧
        u.mem = s.mem ∧ (∀ j, j ≠ drc p → u.drc j = s.drc j)) ∧
      (good = false → ∃ u, exec (.dramStart p good) s = .next (endCommand p .failed [] u) ∧ u.drState (drc p) = drOffline ∧
        u.fld DRC_OFFLINE_REASON (drc p) = 3 ∧ u.mem = s.mem)) ∧
    (s.drState (drc p) = drSelfRefresh →
      ∃ u, exec (.dramStart p good) s = .next (endCommand p .ok [2] u) ∧ u.drState (drc p) = drActive ∧
        u.fld DRC_STATUS_DEBT (drc p) = 0 ∧ u.fld DRC_STATUS_FIRST_WINDOW (drc p) = 1 ∧ (u.drc (drc p)).tables = [] ∧
        u.out = .dramCommand (drc p) .refresh :: .dramCommand (drc p) .wake :: (beginCommand p s).out ∧
        (∀ j, j ≠ drc p → u.drc j = s.drc j)) ∧
    (s.drState (drc p) = drActive → exec (.dramStart p good) s = .next (endCommand p .invalid [] (beginCommand p s)))) ∧
  (∀ (p : Packet) (s : State), s.accepts 0x0502 2 .owner p → s.banked = false → (s.drc (drc p)).idle →
    (s.drState (drc p) ≠ drActive → exec (.dramStop p) s = .next (endCommand p .invalid [] (beginCommand p s))) ∧
    (s.drState (drc p) = drActive → s.fld NOC_EPe_STATUS_DAMPER (dramEndpoint (drc p)) = 2 →
      s.fld DRC_STATUS_DEBT (drc p) = 0 →
      (bit (p.w 2) 0 = true → ∃ u, exec (.dramStop p) s = .next (endCommand p .ok [3] u) ∧ u.drState (drc p) = drSelfRefresh ∧
        u.out = .dramCommand (drc p) .selfRefresh :: .dramCommand (drc p) .prechargeAll :: (beginCommand p s).out ∧
        u.fld DRC_OFFLINE_REASON (drc p) = s.fld DRC_OFFLINE_REASON (drc p)) ∧
      (bit (p.w 2) 0 = false → ∃ u, exec (.dramStop p) s = .next (endCommand p .ok [4] u) ∧ u.drState (drc p) = drOffline ∧
        u.fld DRC_OFFLINE_REASON (drc p) = 1 ∧ u.fld DRC_OFFLINE_LOST_WR (drc p) = s.fld DRC_OFFLINE_LOST_WR (drc p) ∧
        u.out = (beginCommand p s).out)) ∧
    (s.drState (drc p) = drActive → s.fld NOC_EPe_STATUS_DAMPER (dramEndpoint (drc p)) = 0 → s.fld DRC_STATUS_DEBT (drc p) ≤ 4 →
      ∃ t, exec (.dramStop p) s = .next t ∧ t.fld NOC_EPe_STATUS_DAMPER (dramEndpoint (drc p)) = 1 ∧ t.drState (drc p) = drActive ∧
        (t.drc (drc p)).stopping = some (bit (p.w 2) 0, some p) ∧ t.out = (beginCommand p s).out)) ∧
  (∀ (p : Packet) (lane a b : Nat) (found : SweepResult) (s : State), s.accepts 0x0503 4 .owner p → s.banked = false →
    dramBusy (drc p) s = false → lane < 40 →
    (let first := bits (p.w 3) 0 12
     let step := bits (p.w 3) 32 12
     let n := (bits (p.w 3) 16 12 - first) / step + 1
     drcLocked (drc p) s = false → bits (p.w 1) 2 3 = 0 → p.w 2 = (1 : Word) <<< lane → first ≤ bits (p.w 3) 16 12 → step ≠ 0 →
     a ≤ b → b < n → (found.at a 0).2 = 0 → (found.at b 0).2 = 0 → (∀ i, i < a ∨ (b < i ∧ i < n) → (found.at i 0).2 ≠ 0) →
      ∃ u, exec (.delaySweep p found) s =
          .next (endCommand p .ok [mkWord [(0, 12, first + step * a), (16, 12, first + step * b), (28, 1, 1)]] u) ∧
        u.fld DRC_SWEEP_PASS (drc p) = (found.at (n - 1) 0).1 % 2 ^ DRC_SWEEP_PASS.w ∧
        u.fld DRC_SWEEP_FAIL (drc p) = (found.at (n - 1) 0).2 % 2 ^ DRC_SWEEP_FAIL.w ∧
        (bit (p.w 1) 7 = true →
          u.fld DRC_DQs_k_l_WR_DLY (drc p) (2 * bits (p.w 1) 5 1 + bits (p.w 1) 6 1) lane = (first + step * a + (first + step * b)) / 2) ∧
        (bit (p.w 1) 7 = false → onlyRegs [DRC_SWEEP_PASS.key (drc p) 0 0] (beginCommand p s) u)) ∧
    (drcLocked (drc p) s = true → exec (.delaySweep p found) s = .next (endCommand p .invalid [] (beginCommand p s)))) ∧
  (∀ (p : Packet) (good : Bool) (found : SweepResult) (s : State), s.banked = true →
    (s.accepts 0x0501 1 .owner p → exec (.dramStart p good) s = .next (endCommand p .invalid [] (beginCommand p s))) ∧
    (s.accepts 0x0502 2 .owner p → exec (.dramStop p) s = .next (endCommand p .invalid [] (beginCommand p s))) ∧
    (s.accepts 0x0503 4 .owner p → exec (.delaySweep p found) s = .next (endCommand p .invalid [] (beginCommand p s))) ∧
    (s.accepts 0x0504 1 .owner p → exec (.dramTableSave p good) s = .next (endCommand p .invalid [] (beginCommand p s)))) ∧
  (∀ (p : Packet) (s : State), s.accepts 0x0504 1 .owner p → s.banked = false → s.nva.waiting = [] → boardCopy s = none → bits (p.w 1) 0 4 = 0 →
    (∃ u, exec (.dramTableSave p true) s = .next (endCommand p .ok [0] u) ∧ boardWords 0 0 4 u = some [0x42445244, 1, 1, s.reg DRC_IMAP_MODE.off] ∧
      boardHeader 0 u ≠ none ∧ (∀ k, 16 ≤ k → k < 2048 → u.pword (nvaKey (boardBase 0 + k)) = s.pword (nvaKey (boardBase 0 + k))) ∧
      (∀ k, k < 2048 → u.pword (nvaKey (boardBase 1 + k)) = s.pword (nvaKey (boardBase 1 + k))) ∧
      regsKeep [NVA_WRITES_COUNT.off] (beginCommand p s) u) ∧
    (∃ u, exec (.dramTableSave p false) s = .next (endCommand p .errData [] u)))

/-- Lanes (R529, R532, R534 to R537, R577): the first bit lock measures the loss and loads its preset; a restart reloads it;
the checker locks on 64 bits of its pattern, counts bits and errors once each and loses lock at 256 errors; an injection
into a looped lane inverts as many bits; a write of LNK_LANEn_PAT clears both counts and injects; a user lane sends a
word at each word time and counts an empty buffer. -/
def Obligations.LanesAndPatterns : Prop :=
  (∀ (n : Fin 96) (loss : Nat) (s : State),
    (laneOn n s = true → s.lanes.settled.contains n.val = false →
      ∃ t, exec (.laneBitLock n loss) s = .next t ∧ t.fld LNK_LANEn_RXSTAT_BIT_LOCK n = 1 ∧
        t.fld LNK_LANEn_RXSTAT_LOSS_DB n = min loss 255 ∧ t.lanes.settled = s.lanes.settled ++ [n.val] ∧
        t.fld LNK_LANEn_RXSTAT_PRESET n = (if loss < 8 then 0 else if loss < 16 then 1 else if loss < 24 then 2 else 3) ∧
        t.fld LNK_LANEn_RXSTAT_CTLE n = (if loss < 8 then 2 else if loss < 16 then 6 else if loss < 24 then 10 else 14) ∧
        t.fld LNK_LANEn_DFE0_TAP0 n = (if loss < 8 then 0 else if loss < 16 then 8 else if loss < 24 then 20 else 32) ∧
        t.fld LNK_LANEn_DFE0_TAP1 n = (if loss < 16 then 0 else if loss < 24 then 6 else 12) ∧
        t.fld LNK_LANEn_DFE0_TAP2 n = (if loss < 24 then 0 else 4) ∧
        onlyRegs [LNK_LANEn_RXSTAT_CTLE.key n 0 0, LNK_LANEn_DFE0_TAP0.key n 0 0, LNK_LANEn_DFE1_TAP0.key n 0 0]
          { s with lanes := t.lanes } t) ∧
    (laneOn n s = true → s.lanes.settled.contains n.val = true →
      ∃ t, exec (.laneBitLock n loss) s = .next t ∧ t.fld LNK_LANEn_RXSTAT_BIT_LOCK n = 1 ∧
        t.fld LNK_LANEn_RXSTAT_CTLE n = s.fld LNK_LANEn_RXSTAT_CTLE n ∧ onlyRegs [LNK_LANEn_RXSTAT_CTLE.key n 0 0] s t) ∧
    (laneOn n s = false → exec (.laneBitLock n loss) s = .next s)) ∧
  (∀ (m : Ident) (n : Fin 96) (h : Half) (data : Word) (s : State), s.admits m .LNK_LANEn_CTL [n.val] → h ≠ .high →
    ∃ t, exec (.laneRestart m n h data) s = .next t ∧
      t.fld LNK_LANEn_CTL_MODE n = (if bits data 0 2 = 3 then s.fld LNK_LANEn_CTL_MODE n else bits data 0 2) ∧
      t.fld LNK_LANEn_CTL_BLOCK n = (if s.fld LNK_LANEn_CTL_MODE n = 1 then s.fld LNK_LANEn_CTL_BLOCK n else bits data 4 1) ∧
      t.fld LNK_LANEn_CTL_LOOP n = bits data 2 1 ∧ t.fld LNK_LANEn_CTL_ADAPT n = bits data 5 1 ∧
      (bits data 0 2 = 0 → t.fld LNK_LANEn_RXSTAT_BIT_LOCK n = 0 ∧ t.fld LNK_LANEn_ERR_CHK_LOCK n = 0) ∧
      (bits data 0 2 = 1 → t.fld LNK_LANEn_ERR_CHK_LOCK n = 0) ∧
      (bit data 6 = true → t.lanes.settled.contains n.val = false) ∧
      (bit data 6 = true → bits data 0 2 = 1 → s.lanes.settled.contains n.val = true → s.fld LNK_LANEn_RXSTAT_LOSS_DB n < 8 →
        t.fld LNK_LANEn_RXSTAT_PRESET n = 0 ∧ t.fld LNK_LANEn_RXSTAT_CTLE n = 2 ∧ t.reg (LNK_LANEn_DFE0_TAP0.key n 0 0) = 0) ∧
      onlyRegs [leaseKey, LNK_LANEn_CTL_MODE.key n 0 0, LNK_LANEn_RXSTAT_CTLE.key n 0 0, LNK_LANEn_DFE0_TAP0.key n 0 0,
        LNK_LANEn_DFE1_TAP0.key n 0 0, LNK_LANEn_ERR_ERRORS.key n 0 0] { s with lanes := t.lanes } t) ∧
  (∀ (n : Fin 96) (seen : Word) (s : State), s.on LNK_LANEn_CTL_LOOP n = false → s.on LNK_LANEn_ERR_CHK_LOCK n = false →
    (let ok := followsPattern (s.fld LNK_LANEn_PAT_CHK n) (s.reg (LNK_LANEn_UPAT_PATTERN.key n 0 0)) seen
     (laneMode n s = 2 → ok = true → ∃ t, exec (.checkerLock n seen) s = .next t ∧ t.fld LNK_LANEn_ERR_CHK_LOCK n = 1 ∧
        t.laneCheck n = ⟨seen, seen, 0, []⟩ ∧ t.fld LNK_LANEn_ERR_ERRORS n = s.fld LNK_LANEn_ERR_ERRORS n ∧
        onlyRegs [LNK_LANEn_ERR_ERRORS.key n 0 0] { s with lanes := t.lanes } t) ∧
     (ok = false ∨ laneMode n s ≠ 2 → exec (.checkerLock n seen) s = .next s))) ∧
  (∀ user last : Word, followsPattern 0 user last = false ∧ followsPattern 7 user last = false ∧ followsPattern 1 user 0 = false ∧
    followsPattern 6 user (user.reverse) = true ∧
    (followsPattern 3 user last = true → ∀ b, followsPattern 3 user (pushBit last b) = true → b = (bit last 14 ^^ bit last 13))) ∧
  (∀ (n : Fin 96) (e : List Bool) (s : State), s.on LNK_LANEn_ERR_CHK_LOCK n = true → checkerOn n s = true →
    s.on LNK_LANEn_CTL_LOOP n = false → (s.laneCheck n).misses = [] → e.length ≤ 1024 →
    (let bad := (e.filter id).length
     let seen := List.zipWith xor e (patternRun (s.fld LNK_LANEn_PAT_CHK n) e.length (s.laneCheck n).ref)
     (bad < 256 → ∃ t, exec (.checkerLockLoss n seen) s = .next t ∧ t.fld LNK_LANEn_ERR_CHK_LOCK n = 1 ∧
        t.fld LNK_LANEn_ERR_ERRORS n = min (s.fld LNK_LANEn_ERR_ERRORS n + bad) (2 ^ 48 - 1) ∧
        t.fld LNK_LANEn_BITS_COUNT n = (s.fld LNK_LANEn_BITS_COUNT n + e.length) % 2 ^ 64 ∧
        onlyRegs [LNK_LANEn_ERR_ERRORS.key n 0 0, LNK_LANEn_BITS_COUNT.key n 0 0] { s with lanes := t.lanes } t) ∧
     (bad = 256 → e.getLast? = some true → ∃ t, exec (.checkerLockLoss n seen) s = .next t ∧ t.fld LNK_LANEn_ERR_CHK_LOCK n = 0 ∧
        t.fld LNK_LANEn_ERR_ERRORS n = min (s.fld LNK_LANEn_ERR_ERRORS n + 256) (2 ^ 48 - 1) ∧
        t.fld LNK_LANEn_BITS_COUNT n = (s.fld LNK_LANEn_BITS_COUNT n + e.length) % 2 ^ 64))) ∧
  (∀ (n : Fin 96) (seen : List Bool) (s : State), s.on LNK_LANEn_ERR_CHK_LOCK n = true → checkerOn n s = true →
    s.on LNK_LANEn_CTL_LOOP n = true → s.fld LNK_LANEn_PAT_GEN n = s.fld LNK_LANEn_PAT_CHK n → (s.laneCheck n).misses = [] →
    (s.laneCheck n).gen = (s.laneCheck n).ref → seen.length ≤ 1024 → (s.laneCheck n).flips < 256 → (s.laneCheck n).flips ≤ seen.length →
    ∃ t, exec (.checkerLockLoss n seen) s = .next t ∧ t.fld LNK_LANEn_ERR_CHK_LOCK n = 1 ∧ (t.laneCheck n).flips = 0 ∧
      t.fld LNK_LANEn_ERR_ERRORS n = min (s.fld LNK_LANEn_ERR_ERRORS n + (s.laneCheck n).flips) (2 ^ 48 - 1) ∧
      t.fld LNK_LANEn_BITS_COUNT n = (s.fld LNK_LANEn_BITS_COUNT n + seen.length) % 2 ^ 64) ∧
  (∀ (n : Fin 96) (seen : List Bool) (s : State), s.on LNK_LANEn_ERR_CHK_LOCK n = false → checkerOn n s = true →
    exec (.checkerLockLoss n seen) s = .next s) ∧
  (∀ (m : Ident) (n : Fin 96) (data : Word) (c : Instr) (s : State), s.admits m .LNK_LANEn_PAT [n.val] →
    c ∈ [Instr.patternWrite m n .full data, .injSingle m n .full data, .injBurst m n .full data] →
    (bit data 8 = false → bit data 9 = false →
      ∃ t, exec c s = .next t ∧ t.fld LNK_LANEn_PAT_GEN n = bits data 0 3 ∧ t.fld LNK_LANEn_PAT_CHK n = bits data 4 3 ∧
        t.fld LNK_LANEn_PAT_INJ_EVERY n = bits data 32 16 ∧ t.fld LNK_LANEn_BITS_COUNT n = 0 ∧ t.fld LNK_LANEn_ERR_ERRORS n = 0 ∧
        (∀ x ∈ t.lanes.injecting, x.1 ≠ n.val) ∧
        onlyRegs [leaseKey, LNK_LANEn_PAT_GEN.key n 0 0, LNK_LANEn_BITS_COUNT.key n 0 0, LNK_LANEn_ERR_ERRORS.key n 0 0]
          { s with lanes := t.lanes } t) ∧
    (laneMode n s = 2 → bits data 0 3 ≠ 0 → bits data 0 3 ≠ 7 → bit data 8 = true → bit data 9 = false →
      ∃ t, exec c s = .next t ∧ t.out = .inject n 1 :: s.out ∧ t.fld LNK_LANEn_BITS_COUNT n = 0 ∧
        t.fld LNK_LANEn_ERR_ERRORS n = 0 ∧
        (s.on LNK_LANEn_CTL_LOOP n = true → s.on LNK_LANEn_ERR_CHK_LOCK n = true → bits data 4 3 = bits data 0 3 →
          (t.laneCheck n).flips = (s.laneCheck n).flips + 1)) ∧
    (laneMode n s = 2 → bits data 0 3 ≠ 0 → bits data 0 3 ≠ 7 → bit data 8 = false → bit data 9 = true → bits data 16 8 ≠ 0 →
      ∃ t, exec c s = .next t ∧ t.out = .inject n (bits data 16 8) :: s.out ∧ t.fld LNK_LANEn_BITS_COUNT n = 0 ∧
        t.fld LNK_LANEn_ERR_ERRORS n = 0 ∧
        (s.on LNK_LANEn_CTL_LOOP n = true → s.on LNK_LANEn_ERR_CHK_LOCK n = true → bits data 4 3 = bits data 0 3 →
          (t.laneCheck n).flips = (s.laneCheck n).flips + bits data 16 8))) ∧
  (∀ (n : Fin 96) (s : State), s.on LNK_LANEn_PAT_INJ_EVERY n = true → laneMode n s = 2 → s.fld LNK_LANEn_PAT_GEN n ≠ 0 →
    s.fld LNK_LANEn_PAT_GEN n ≠ 7 → s.on LNK_LANEn_CTL_LOOP n = false → s.lanes.injecting = [(n.val, false)] →
    ∃ t, exec (.injectionRepeat n) s = .next t ∧ t.out = .inject n 1 :: s.out ∧ t = { s with out := t.out }) ∧
  (∀ (n : Fin 64) (v : BitVec 128) (b : Nat) (s : State), laneOn (32 + n) s = true → laneMode (32 + n) s = 1 → s.gateOpen 19 = true →
    s.tstate 64 = stLoaded → s.on LNK_LANEn_CTL_BLOCK (32 + n) = false → s.on FLT_STATUS_HALTED = false →
    (∃ t, exec (.userLaneWord n (some (v, b)) none) s = .next t ∧ t.out = .laneWord (32 + n) v 0 :: s.out ∧ storesKeep s t) ∧
    (∃ t, exec (.userLaneWord n (some (v, b)) (some (v, b))) s = .next t ∧
      t.out = .laneWord (32 + n) v 0 :: .laneReceived (32 + n) v 0 :: s.out ∧ storesKeep s t) ∧
    (∃ t, exec (.userLaneWord n none none) s = .next t ∧ t.out = .laneWord (32 + n) 0 0 :: s.out ∧
      t.fld LNK_LANEn_RXSTAT_UNDERFLOW (32 + n) = (s.fld LNK_LANEn_RXSTAT_UNDERFLOW (32 + n) + 1) % 2 ^ 16))

/-- The bring-up of a Brocia port and of a user lane in BLOCK mode (R538 to R541, R558, R563, R566, R574, R575): its stages
in order, what each stores and sends, and the return to stage 1 on a failure or a timeout. -/
def Obligations.LinkBringUp : Prop :=
  (∀ (p : Fin 4) (lanes : Nat) (s : State), portEnabled p s = true →
    (s.stage p = 1 → ∃ t, exec (.receiverDetect (.port p) true) s = .next t ∧ t.stage p = 2 ∧ t.fld BRL_PORTp_STATUS_RATE p = 2 ∧
      t.fld LNK_QUADq_RATE (4 + p) = 2 ∧ t.out = s.out ∧
      onlyRegs [BRL_PORTp_STATUS_STAGE.key p 0 0, LNK_QUADq_RATE.key (4 + p) 0 0] { s with lanes := t.lanes } t) ∧
    exec (.receiverDetect (.port p) false) s = .next s ∧
    (s.stage p = 2 → ∃ t, exec (.linkStageEnd (.port p) lanes) s = .next t ∧ t.stage p = 3 ∧
      onlyRegs [BRL_PORTp_STATUS_STAGE.key p 0 0] s t) ∧
    (s.stage p = 3 → ∃ t, exec (.linkStageEnd (.port p) lanes) s = .next t ∧ t.stage p = 4 ∧
      t.brPort p = { s.brPort p with deskewed := false } ∧ onlyRegs [BRL_PORTp_STATUS_STAGE.key p 0 0] { s with ring := t.ring } t) ∧
    (s.stage p = 4 → lanes % 2 = 1 → (s.brPort p).deskewed = true →
      ∃ t, exec (.linkStageEnd (.port p) lanes) s = .next t ∧ t.stage p = 5 ∧
        t.fld BRL_PORTp_STATUS_WIDTH p = (if lanes % 16 = 15 then 4 else if lanes % 4 = 3 then 2 else 1) ∧
        t.fld LNK_LANEn_RXSTAT_BLOCK_LOCK (16 + 4 * p) = 1 ∧ t.out = .cap p (capOf p false t) :: s.out ∧ t.mem = s.mem) ∧
    (s.stage p = 4 → lanes % 2 = 0 →
      ∃ t, exec (.linkStageEnd (.port p) lanes) s = .next t ∧ t.stage p = 1 ∧ t.out = s.out ∧
        t.fld BRL_PORTp_STATUS_FAILS p = (s.fld BRL_PORTp_STATUS_FAILS p + 1) % 2 ^ 16) ∧
    (s.stage p = 5 → (s.brPort p).capAck = true → s.fld BRL_PORTp_STATUS_RATE p = bestRate (s.brPort p).capRates →
      ∃ t, exec (.linkStageEnd (.port p) lanes) s = .next t ∧ t.stage p = 6 ∧ t.out = .dlyReq p 0 :: s.out ∧
        t.brPort p = { s.brPort p with exchanges := 0, rttSum := 0, turnSum := 0 }) ∧
    (s.stage p = 5 → (s.brPort p).capAck = true → s.fld BRL_PORTp_STATUS_RATE p ≠ bestRate (s.brPort p).capRates →
      ∃ t, exec (.linkStageEnd (.port p) lanes) s = .next t ∧ t.stage p = 2 ∧
        t.fld BRL_PORTp_STATUS_RATE p = bestRate (s.brPort p).capRates ∧ t.fld LNK_QUADq_RATE (4 + p) = bestRate (s.brPort p).capRates ∧
        t.out = s.out) ∧
    (s.stage p = 6 → (s.brPort p).exchanges = 64 → (s.brPort p).rttSum < 64 * 2 ^ 32 → (s.brPort p).turnSum < 64 * 2 ^ 32 →
      s.ring.retrain = [] → (s.brPort p).queue = [] →
      ∃ t, exec (.linkStageEnd (.port p) lanes) s = .next t ∧ t.stage p = 7 ∧ t.portActive p = true ∧
        t.fld BRL_PORTp_DELAY_RTT_PS p = (s.brPort p).rttSum / 64 ∧ t.fld BRL_PORTp_DELAY_TURN_PS p = (s.brPort p).turnSum / 64 ∧
        t.out = s.out ∧ regsKeep [BRL_PORTp_STATUS_STAGE.key p 0 0, BRL_PORTp_DELAY_RTT_PS.key p 0 0,
          BRL_PORTp_CABLE_LENGTH_MM.key p 0 0] s t)) ∧
  (∀ (p : Fin 4) (s : State), 2 ≤ s.stage p → s.stage p ≤ 6 →
    ∃ t, exec (.linkStageTimeout (.port p)) s = .next t ∧ t.stage p = 1 ∧ t.portActive p = false ∧ t.fld LNK_QUADq_RATE (4 + p) = 0 ∧
      t.fld BRL_PORTp_STATUS_FAILS p = (s.fld BRL_PORTp_STATUS_FAILS p + 1) % 2 ^ 16 ∧
      t.brPort p = { BrPort.reset with queue := (s.brPort p).queue } ∧ (∀ j, j ≠ p.val → t.brPort j = s.brPort j) ∧ t.out = s.out ∧
      regsKeep [BRL_PORTp_STATUS_STAGE.key p 0 0, LNK_QUADq_RATE.key (4 + p) 0 0] s t) ∧
  (∀ (n : Fin 64) (lanes : Nat) (s : State), laneBlocks (32 + n) s = true →
    (s.laneStage (32 + n) = 1 → ∃ t, exec (.receiverDetect (.lane n) true) s = .next t ∧ t.laneStage (32 + n) = 2 ∧
      t = { s with lanes := t.lanes }) ∧
    (2 ≤ s.laneStage (32 + n) → s.laneStage (32 + n) ≤ 4 →
      (∃ t, exec (.linkStageEnd (.lane n) lanes) s = .next t ∧ t.laneStage (32 + n) = s.laneStage (32 + n) + 1 ∧
        t.fld LNK_LANEn_RXSTAT_BLOCK_LOCK (32 + n) = (if s.laneStage (32 + n) = 4 then 1 else 0) ∧
        onlyRegs [LNK_LANEn_RXSTAT_CTLE.key (32 + n) 0 0] { s with lanes := t.lanes } t) ∧
      (∃ t, exec (.linkStageTimeout (.lane n)) s = .next t ∧ t.laneStage (32 + n) = 1 ∧
        t.fld LNK_LANEn_RXSTAT_BLOCK_LOCK (32 + n) = 0 ∧ onlyRegs [LNK_LANEn_RXSTAT_CTLE.key (32 + n) 0 0] { s with lanes := t.lanes } t))) ∧
  (∀ (p : Fin 4) (c : CapBlock) (s : State), s.stage p = 5 → c.dev < 2 ^ 14 → c.port < 4 →
    (c.port % 2 ≠ p.val % 2 →
      ∃ t, exec (.cap p c) s = .next t ∧ t.out = .cap p (capOf p true t) :: s.out ∧ t.fld BRL_PORTp_STATUS_PEER_ID p = c.dev ∧
        t.fld BRL_PORTp_STATUS_PEER_PORT p = c.port ∧ (t.brPort p).capRates = c.rates ∧
        (t.brPort p).capAck = ((s.brPort p).capAck || c.ack) ∧
        regsKeep [BRL_PORTp_STATUS_STAGE.key p 0 0] s t) ∧
    (c.port % 2 = p.val % 2 → ∃ t, exec (.cap p c) s = .next t ∧ t.stage p = 1 ∧ t.out = s.out ∧
      t.fld BRL_PORTp_STATUS_FAILS p = (s.fld BRL_PORTp_STATUS_FAILS p + 1) % 2 ^ 16)) ∧
  (∀ (p : Fin 4) (num rtt turn : Nat) (s : State),
    (6 ≤ s.stage p → ∃ t, exec (.dlyReq p num turn) s = .next t ∧ t.out = .dlyRsp p num turn :: s.out ∧ storesKeep s t) ∧
    (s.stage p = 6 → num < 63 → (s.brPort p).exchanges = num →
      ∃ t, exec (.dlyRsp p num rtt turn) s = .next t ∧ t.out = .dlyReq p (num + 1) :: s.out ∧ storesKeep s t ∧
        t.brPort p = { s.brPort p with
          exchanges := num + 1, rttSum := (s.brPort p).rttSum + rtt, turnSum := (s.brPort p).turnSum + turn })) ∧
  (∀ (p : Fin 4) (s : State),
    (∃ t, exec (.align p) s = .next t ∧ t.brPort p = { s.brPort p with deskewed := true } ∧ t.out = s.out ∧ storesKeep s t) ∧
    (s.portActive p = true → exec (.alignSend p) s = .next { s with out := .align p :: s.out })) ∧
  (∀ (x : Packet) (s : State), s.accepts 0x0603 1 .owner x →
    ∃ t, exec (.linkRetrain x) s = .next t ∧ t.stage (bits (x.w 1) 0 2) = 1 ∧ t.portActive (bits (x.w 1) 0 2) = false ∧
      t.ring.retrain = s.ring.retrain ++ [(bits (x.w 1) 0 2, x)] ∧ t.out = (beginCommand x s).out) ∧
  (∀ (p : Fin 4) (x : Packet) (s : State), s.ring.retrain = [(p.val, x)] →
    exec (.retrainTimeout p) s = .next (endCommand x .busy [BitVec.ofNat 64 (s.stage p)] { s with ring := { s.ring with retrain := [] } }))

/-- The transport of an ACTIVE Brocia link (R556, R558 to R562, R565): the descrambler undoes the scrambler, an encoded
frame passes the check with its own SEQ and no other, a frame that fails it is answered NAK, a block of a bad sync
header or an unknown type is counted; ACK frees the replay buffer, NAK sends it again and takes the link down at the
sixteenth time, CRED adds credits, and errors are counted. -/
def Obligations.LinkTransport : Prop :=
  (∀ (line : BitVec 58) (l : List Bool), descramble line (scramble line l) = l) ∧
  (∀ v : Word, payloadOf (payloadBits v) = v.toNat) ∧
  (∀ (f : BrFrame) (seq last : Nat), f.data.length ≤ 32 → seq < 4096 → f.kind < 9 →
    (f.encode seq).good last = decide (seq = (last + 1) % 4096) ∧ bits (f.encode seq).sof 26 2 = f.class ∧
    bits f.h0 0 14 = f.dest % 2 ^ 14 ∧ bits f.h0 14 14 = f.src % 2 ^ 14 ∧ bits f.h0 28 4 = f.kind ∧ bits f.h0 56 8 = f.hops % 2 ^ 8 ∧
    bits f.h1 0 40 = f.addr % 2 ^ 40 ∧ bits f.h1 48 10 = f.index % 2 ^ 10) ∧
  (∀ (p : Fin 4) (x : SeenFrame) (s : State), s.portActive p = true →
    (exec (.ackSend p) s = .next { s with out := .ack p (s.brPort p).rxSeq :: s.out }) ∧
    (x.good (s.brPort p).rxSeq = false → ∃ t, exec (.frameCheckFail p x) s = .next t ∧ t.out = .nak p (s.brPort p).rxSeq :: s.out ∧
      t.fld BRL_PORTp_COUNTS_CRC_ERR p = (s.fld BRL_PORTp_COUNTS_CRC_ERR p + 1) % 2 ^ 16 ∧ t.brPort p = s.brPort p ∧
      regsKeep [BRL_PORTp_COUNTS_CRC_ERR.key p 0 0] s t) ∧
    (x.good (s.brPort p).rxSeq = true → exec (.frameCheckFail p x) s = .next s)) ∧
  (∀ (p : Fin 4) (sync : BitVec 2) (line : BitVec 58) (raw payload : Word) (s : State),
    payloadBits raw = scramble line (payloadBits payload) →
    (sync = 0b00 ∨ sync = 0b11 ∨ (sync = 0b10 ∧ ctlType payload ∉ ctlTypes) →
      ∃ t, exec (.syncErrBlock p sync line raw) s = .next t ∧
        t.fld BRL_PORTp_COUNTS_SYNC_ERR p = (s.fld BRL_PORTp_COUNTS_SYNC_ERR p + 1) % 2 ^ 16 ∧
        onlyRegs [BRL_PORTp_COUNTS_CRC_ERR.key p 0 0] s t) ∧
    (sync = 0b01 ∨ (sync = 0b10 ∧ ctlType payload ∈ ctlTypes) → exec (.syncErrBlock p sync line raw) s = .next s)) ∧
  (∀ (p : Fin 4) (seq : Nat) (f : BrFrame) (a b : List (Nat × BrFrame)) (s : State), s.portActive p = true →
    (s.brPort p).replay = a ++ (seq, f) :: b → (∀ x ∈ a, x.1 ≠ seq) → (s.brPort p).queue = [] →
    (∃ t, exec (.ack p seq) s = .next t ∧ t.brPort p = { s.brPort p with replay := b, resent := 0 } ∧ t.out = s.out ∧ storesKeep s t) ∧
    (∃ t, exec (.nak p seq) s = .next t ∧ t.brPort p = { s.brPort p with replay := b, resent := 1 } ∧ t.mem = s.mem ∧
      t.out = (b.map (fun x => Out.frame p x.1 x.2)).reverse ++ s.out ∧ t.portActive p = true ∧
      t.fld BRL_PORTp_COUNTS_REPLAYS p = (s.fld BRL_PORTp_COUNTS_REPLAYS p + b.length) % 2 ^ 16)) ∧
  (∀ (p : Fin 4) (seq : Nat) (s : State), s.portActive p = true → (s.brPort p).replay ≠ [] →
    (∀ x ∈ (s.brPort p).replay, x.1 ≠ seq) → 15 ≤ (s.brPort p).resent →
    ∃ t u, exec (.nak p seq) s = .next t ∧ t.stage p = 1 ∧ t.portActive p = false ∧
      t.fld BRL_PORTp_COUNTS_LINK_DOWNS p = (s.fld BRL_PORTp_COUNTS_LINK_DOWNS p + 1) % 2 ^ 16 ∧ (t.brPort p).replay = [] ∧
      t.flt = (raise (0x184 + p) 1 u).flt ∧ u.flt = s.flt) ∧
  (∀ (p : Fin 4) (s : State),
    (s.portActive p = true → ∃ t u, exec (.brociaLinkDown p) s = .next t ∧ t.stage p = 1 ∧ t.portActive p = false ∧
      t.fld BRL_PORTp_COUNTS_LINK_DOWNS p = (s.fld BRL_PORTp_COUNTS_LINK_DOWNS p + 1) % 2 ^ 16 ∧
      t.brPort p = { BrPort.reset with queue := (s.brPort p).queue } ∧ (∀ j, j ≠ p.val → t.brPort j = s.brPort j) ∧
      t.flt = (raise (0x184 + p) 1 u).flt ∧ u.flt = s.flt) ∧
    (s.portActive p = false → exec (.brociaLinkDown p) s = .next s)) ∧
  (∀ (p : Fin 4) (a b c d w x y z : Nat) (s : State), s.portActive p = true → (s.brPort p).queue = [] →
    (s.brPort p).credits = [a, b, c, d] →
    ∃ t, exec (.cred p [w, x, y, z]) s = .next t ∧ t.brPort p = { s.brPort p with credits := [a + w, b + x, c + y, d + z] } ∧
      t.out = s.out ∧ storesKeep s t) ∧
  (∀ (p : Fin 4) (low : Nat) (since : Int) (s : State), p.val < s.tck.stamps.length →
    ∃ t, exec (.tick p low since) s = .next t ∧ (t.tck.stamps.getD p []).getLast? = some ⟨low % 256, since, s.tickCount, s.tck.ticks⟩ ∧
      ((s.tck.stamps.getD p []).length ≤ 4 → (t.tck.stamps.getD p []).length ≤ 4) ∧ t = { s with tck := t.tck } ∧ t.out = s.out)

/-- Frames of the Brocia ring (R569 to R572): a request for this device enters the NoC with the peer's identity and its
response goes back with the frame's tag; one for another device of the ring it came by goes on in that ring with HOPS
counted, and is answered DECODE at 64 hops or where that ring's map does not hold the device; a frame of any type that
comes with 64 hops is discarded and counted; a response ends the access that waits for it or counts as late; a stream
frame goes on and feeds the load that waits for it. -/
def Obligations.RingFrames : Prop :=
  (∀ (p : Fin 4) (f : BrFrame) (s : State),
    (s.portActive p = false → exec (.readFrame p f) s = .next s ∧ exec (.writeFrame p f) s = .next s ∧
      exec (.responseFrame p f) s = .next s ∧ exec (.streamFrame p f) s = .next s ∧ exec (.enumFrame p f) s = .next s ∧
      exec (.enumTableFrame p f) s = .next s) ∧
    (s.portActive p = true → forMe f s = true → f.hops < 64 →
      (∃ t, exec (.readFrame p f) s = .next t ∧
        t.out = .request 156 s.ring.nextTag (peerIdent f) false f.addr f.size f.data f.poison :: s.out ∧
        t.ring.serving = s.ring.serving ++ [⟨s.ring.nextTag, f.src, f.tag⟩] ∧
        (t.brPort p).rxSeq = ((s.brPort p).rxSeq + 1) % 4096 ∧ storesKeep s t) ∧
      (∃ t, exec (.writeFrame p f) s = .next t ∧
        t.out = .request 156 s.ring.nextTag (peerIdent f) true f.addr f.size f.data f.poison :: s.out ∧
        t.ring.serving = s.ring.serving ++ [⟨s.ring.nextTag, f.src, f.tag⟩] ∧
        (t.brPort p).rxSeq = ((s.brPort p).rxSeq + 1) % 4096 ∧ storesKeep s t))) ∧
  (∀ (p : Fin 4) (f : BrFrame) (q : Nat) (s : State), s.portActive p = true → forMe f s = false → f.hops < 64 →
    ringPort (p.val / 2) f.dest s = some q →
    (s.leaves false { f with kind := frRead, hops := f.hops + 1 } q →
      ∃ t, exec (.readFrame p f) s = .next t ∧ t.out = .frame q (s.brPort q).txSeq { f with kind := frRead, hops := f.hops + 1 } :: s.out ∧
        storesKeep s t) ∧
    (s.leaves false { f with kind := frWrite, hops := f.hops + 1 } q →
      ∃ t, exec (.writeFrame p f) s = .next t ∧ t.out = .frame q (s.brPort q).txSeq { f with kind := frWrite, hops := f.hops + 1 } :: s.out ∧
        storesKeep s t) ∧
    (s.leaves false { f with kind := frResponse, hops := f.hops + 1 } q →
      ∃ t, exec (.responseFrame p f) s = .next t ∧
        t.out = .frame q (s.brPort q).txSeq { f with kind := frResponse, hops := f.hops + 1 } :: s.out ∧ storesKeep s t)) ∧
  (∀ (p : Fin 4) (f : BrFrame) (s : State), s.portActive p = true → forMe f s = false → f.hops < 64 →
    mapPosition (p.val / 2) f.dest s = none → s.on BRL_ID_ASSIGNED = true →
    exec (.readFrame p f) s = .next (respondFrame f.src f.tag 4 false [] (frameIn p s)) ∧
    exec (.writeFrame p f) s = .next (respondFrame f.src f.tag 4 false [] (frameIn p s)) ∧
    exec (.responseFrame p f) s = .next (frameIn p s)) ∧
  (∀ (p : Fin 4) (f : BrFrame) (q : Nat) (c : Instr) (s : State), c ∈ [Instr.readFrame p f, .writeFrame p f] → s.portActive p = true →
    s.on BRL_ID_ASSIGNED = true → 64 ≤ f.hops → routePort f.src s = some q →
    s.leaves true { sysFrame s frResponse f.src [] with tag := f.tag, status := 4 } q →
    ∃ t, exec c s = .next t ∧ t.fld BRL_COUNTS_HOP_DISCARD = (s.fld BRL_COUNTS_HOP_DISCARD + 1) % 2 ^ 32 ∧
      t.out = .frame q (s.brPort q).txSeq { sysFrame s frResponse f.src [] with tag := f.tag, status := 4 } :: s.out ∧
      regsKeep [BRL_COUNTS_LATE_RSP.off] s t) ∧
  (∀ (p : Fin 4) (f : BrFrame) (c : Instr) (s : State), s.portActive p = true → 64 ≤ f.hops →
    (c ∈ [Instr.responseFrame p f, .enumFrame p f, .enumTableFrame p f, .readyFrame p f, .startFrame p f, .streamFrame p f] ∨
      (c ∈ [Instr.readFrame p f, .writeFrame p f] ∧ s.on BRL_ID_ASSIGNED = false)) →
    ∃ t, exec c s = .next t ∧ t.fld BRL_COUNTS_HOP_DISCARD = (s.fld BRL_COUNTS_HOP_DISCARD + 1) % 2 ^ 32 ∧ t.out = s.out ∧
      t.cfg = s.cfg ∧ t.devId = s.devId ∧ regsKeep [BRL_COUNTS_LATE_RSP.off] s t) ∧
  (∀ (p : Fin 4) (f : BrFrame) (m : Ident) (n : Nat) (s : State), s.portActive p = true → forMe f s = true → f.hops < 64 →
    slotOf m = some n →
    identClass m ≠ 2 →
    (s.ring.remote = [] → ∃ t, exec (.responseFrame p f) s = .next t ∧
      t.fld BRL_COUNTS_LATE_RSP = (s.fld BRL_COUNTS_LATE_RSP + 1) % 2 ^ 32 ∧ t.out = s.out ∧ regsKeep [BRL_COUNTS_LATE_RSP.off] s t) ∧
    (s.ring.remote = [(f.tag, .access m false)] → f.poison = true →
      ∃ t, exec (.responseFrame p f) s = .next t ∧ t.out = .poisonedAnswer m :: s.out ∧ t.ring.remote = []) ∧
    (s.ring.remote = [(f.tag, .access m false)] → f.status % 8 = 0 → f.poison = false →
      ∃ t, exec (.responseFrame p f) s = .next t ∧ t.out = .answer m (nth 0 f.data 0) :: s.out ∧ t.ring.remote = [] ∧
        t.mfld BRL_RACC_STATUS_LAST n = 0 ∧ t.mfld BRL_RACC_ADDR_ADDR n = (s.mfld BRL_RACC_ADDR_ADDR n + 1) % 2 ^ 37 ∧
        t.mfld BRL_RACC_ADDR_DEVICE n = s.mfld BRL_RACC_ADDR_DEVICE n ∧
        regsKeep [BRL_RACC_STATUS_LAST.off + slotSpan * n, BRL_RACC_ADDR_ADDR.off + slotSpan * n] s t)) ∧
  (∀ (p : Fin 4) (f : BrFrame) (l : Load) (s : State), s.portActive p = true → s.portActive (otherPort p) = false →
    s.ring.streamFrom = none → s.cfg.load = some l → l.source = 3 → f.hops < 64 →
    ∃ t, exec (.streamFrame p f) s = .next t ∧ t.cfg.load = some { l with push := l.push ++ f.data } ∧ t.out = s.out ∧
      t.ring.streamFrom = some (f.src, p.val) ∧
      t.fld CFG_PROGRESS_BYTES = (s.fld CFG_PROGRESS_BYTES + 8 * f.data.length) % 2 ^ CFG_PROGRESS_BYTES.w) ∧
  (∀ (p : Fin 4) (f : BrFrame) (q : Nat) (s : State), s.portActive p = true → s.ring.streamFrom = some (f.src, q) → q ≠ p.val → f.hops < 64 →
    ∃ t, exec (.streamFrame p f) s = .next t ∧ t.out = s.out ∧ t.cfg = s.cfg ∧ storesKeep s t) ∧
  (∀ (x : RingServe) (st : Status) (data : List Word) (poison : Bool) (q : Nat) (s : State), s.ring.serving = [x] →
    routePort x.dev s = some q →
    s.leaves true { sysFrame s frResponse x.dev data with tag := x.frameTag, status := st.code, poison := poison } q →
    ∃ t, exec (.endpointResponse .brocia x.tag st data poison) s = .next t ∧ t.ring.serving = [] ∧ t.mem = s.mem ∧
      t.out = .frame q (s.brPort q).txSeq { sysFrame s frResponse x.dev data with tag := x.frameTag, status := st.code, poison := poison } :: s.out ∧
      regsKeep [NOC_EPe_STATUS_OUTSTANDING.key 156 0 0] s t)

/-- What this device sends round the ring (R567, R568, R573 to R575): BRL_RACC_DATA makes a remote access or answers DECODE
and a timeout poisons it; DEVID_WRITE, RING_ENUM, ENUM_FRAME and ENUM_TABLE_FRAME set the device ID and the maps;
RING_COPY begins, ends with the bytes moved, or is INVALID. -/
def Obligations.RingCommands : Prop :=
  (∀ (m : Ident) (n : Nat) (s : State), s.readable BRL_RACC_DATA_DATA.off → slotOf m = some n → identClass m = 1 →
    (s.on BRL_ID_ASSIGNED = false ∨ routePort (s.mfld BRL_RACC_ADDR_DEVICE n) s = none →
      ∃ t, exec (.raccDataAccess m .full none) s = .next t ∧ t.out = .answer m 0 :: s.out ∧ t.mfld BRL_RACC_STATUS_LAST n = 4 ∧
        t.mfld BRL_RACC_ADDR_ADDR n = (s.mfld BRL_RACC_ADDR_ADDR n + 1) % 2 ^ 37 ∧ t.ring = s.ring) ∧
    (∀ q, s.on BRL_ID_ASSIGNED = true → routePort (s.mfld BRL_RACC_ADDR_DEVICE n) s = some q →
      (let f : BrFrame := { sysFrame s frRead (s.mfld BRL_RACC_ADDR_DEVICE n) [] with
         tag := s.ring.nextTag, cls := 1, index := bits m 0 10, addr := 8 * s.mfld BRL_RACC_ADDR_ADDR n, size := 8 }
       s.leaves true f q → ∃ t, exec (.raccDataAccess m .full none) s = .next t ∧ t.out = .frame q (s.brPort q).txSeq f :: s.out ∧
         t.ring.remote = s.ring.remote ++ [(s.ring.nextTag, .access m false)] ∧ storesKeep s t)) ∧
    (∃ t, exec (.raccDataAccess m .low none) s = .next t ∧ t.out = .answer m 0 :: s.out ∧ t.ring = s.ring ∧
      t.fld OWN_VIOLm_COUNT_COUNT n = (s.fld OWN_VIOLm_COUNT_COUNT n + 1) % 2 ^ OWN_VIOLm_COUNT_COUNT.w) ∧
    (∀ tag, s.ring.remote = [(tag, .access m false)] →
      ∃ t, exec (.remoteAccessTimeout tag) s = .next t ∧ t.out = .poisonedAnswer m :: s.out ∧ t.ring.remote = [] ∧
        t.mfld BRL_RACC_STATUS_LAST n = 6 ∧ t.mfld BRL_RACC_ADDR_ADDR n = s.mfld BRL_RACC_ADDR_ADDR n)) ∧
  (∀ (m : Ident) (data : Word) (h : Half) (s : State), s.dark = false → s.blockOpen BRL_ID_DEVID.off = true → s.isOwner m = true →
    h ≠ .high →
    (s.on BRL_ID_LOCK = false → bits data 0 14 ≠ 0x3FFF →
      ∃ t, exec (.devidWrite m h data) s = .next t ∧ t.devId = bits data 0 14 ∧ t.fld BRL_ID_ASSIGNED = 1 ∧ t.out = s.out ∧
        (∀ b, b < 256 → t.fld BNK_OWNERb_IDENT b = if s.fld BNK_OWNERb_IDENT b = (mkIdent s.devId 0 0).toNat
          then (mkIdent (bits data 0 14) 0 0).toNat else s.fld BNK_OWNERb_IDENT b)) ∧
    (s.on BRL_ID_LOCK = true ∨ bits data 0 14 = 0x3FFF →
      ∃ t, exec (.devidWrite m h data) s = .next t ∧ onlyRegs [leaseKey] s t)) ∧
  (∀ (p : Packet) (s : State), s.accepts 0x0601 1 .owner p → (0x3FFE < bits (p.w 1) 0 14 + 63 ∨ s.portActive (2 * bits (p.w 1) 16 1) = false) →
    exec (.ringEnum p) s = .next (endCommand p .invalid [] (beginCommand p s))) ∧
  (∀ (p : Packet) (s : State), s.accepts 0x0601 1 .owner p → bits (p.w 1) 0 14 + 63 ≤ 0x3FFE → bits (p.w 1) 16 1 = 0 →
    s.on BRL_ID_LOCK = false → s.on BRL_ID_ASSIGNED = false → (s.brPort 0).queue = [] →
    (s.portActive 0 = true → 72 ≤ nth 0 (s.brPort 0).credits 2 → (s.brPort 0).replay = [] →
      ∃ t f, exec (.ringEnum p) s = .next t ∧ t.out = .frame 0 (s.brPort 0).txSeq f :: (beginCommand p s).out ∧
        t.devId = bits (p.w 1) 0 14 ∧ t.fld BRL_ID_ASSIGNED = 1 ∧ t.ring.enumerating = s.ring.enumerating ++ [(p, 0)] ∧
        f.kind = frEnum ∧ f.dest = 0x3FFF ∧ f.src = bits (p.w 1) 0 14 ∧
        f.data = [BitVec.ofNat 64 (bits (p.w 1) 0 14), BitVec.ofNat 64 (bits (p.w 1) 0 14)])) ∧
  (∀ (p : Fin 4) (f : BrFrame) (s : State), s.portActive p = true → s.portActive (otherPort p) = true → s.ring.enumerating = [] →
    s.on BRL_ID_LOCK = false → s.on BRL_ID_ASSIGNED = false → 1 ≤ f.data.length → (nth 0 f.data 0).toNat + f.data.length ≤ 2 ^ 14 →
    (s.brPort (otherPort p)).queue = [] → (s.brPort (otherPort p)).replay = [] → 200 ≤ nth 0 (s.brPort (otherPort p)).credits 2 → f.data.length ≤ 64 →
    f.hops < 64 →
    ∃ t, exec (.enumFrame p f) s = .next t ∧ t.devId = (nth 0 f.data 0).toNat + (f.data.length - 1) ∧ t.fld BRL_ID_ASSIGNED = 1 ∧
      t.out = .frame (otherPort p) (s.brPort (otherPort p)).txSeq
        { f with kind := frEnum, hops := f.hops + 1, data := f.data ++ [BitVec.ofNat 64 t.devId] } :: s.out) ∧
  (∀ (p : Fin 4) (f : BrFrame) (x : Packet) (s : State), s.portActive p = true → s.ring.enumerating = [(x, p.val / 2)] → f.src = s.devId →
    f.data.length ≤ 65 → f.hops < 64 →
    ∃ u, exec (.enumFrame p f) s = .next (endCommand x .ok [BitVec.ofNat 64 (f.data.drop 1).length,
        mkWord [(0, 1, 1), (1, 1, bnat (firstDuplicate (f.data.drop 1)).isSome)], (firstDuplicate (f.data.drop 1)).getD 0] u) ∧
      u.ring.enumerating = [] ∧ u.devId = s.devId ∧
      (∀ k, k < 64 → u.fld BRL_MAPk_VALID (64 * (p.val / 2) + k) = if k < (f.data.drop 1).length then 1 else 0)) ∧
  (∀ (p : Fin 4) (f : BrFrame) (k : Nat) (s : State), s.portActive p = true → s.portActive (otherPort p) = false →
    ¬ (s.on BRL_ID_ASSIGNED = true ∧ f.src = s.devId) → k < f.data.length → f.data.length ≤ 64 → f.hops < 64 → f.data[k]! = BitVec.ofNat 64 (bits f.data[k]! 0 14) →
    ∃ t, exec (.enumTableFrame p f) s = .next t ∧ t.fld BRL_MAPk_DEVID (64 * (p.val / 2) + k) = f.data[k]!.toNat ∧
      t.fld BRL_MAPk_VALID (64 * (p.val / 2) + k) = 1 ∧ (ringPlace (p.val / 2) t).2 = f.data.length ∧ t.out = s.out ∧ t.mem = s.mem) ∧
  (∀ (ring : Fin 2) (n : Nat) (x : Packet) (s : State), s.ring.enumerating = [(x, ring.val)] →
    exec (.enumTimeout ring n) s = .next (endCommand x .failed [BitVec.ofNat 64 n] { s with ring := { s.ring with enumerating := [] } })) ∧
  (∀ (p : Packet) (s : State), s.accepts 0x0602 4 .owner p →
    ((p.w 4).toNat = 0 ∨ 2 ^ 24 < (p.w 4).toNat → exec (.ringCopy p) s = .next (endCommand p .invalid [] (beginCommand p s))) ∧
    (0 < (p.w 4).toNat → (p.w 4).toNat ≤ 256 → bits (p.w 2) 0 8 = 0 → bits (p.w 3) 0 8 = 0 → s.ring.copies = [] →
      (bit (p.w 1) 16 = true →
        ∃ t, exec (.ringCopy p) s = .next t ∧ t.ring.copies.map (·.pieces) = [[⟨s.ring.nextTag, 0, (p.w 4).toNat, false⟩]] ∧
          t.out = .request 156 s.ring.nextTag p.issuer false (bits (p.w 2) 0 40) (p.w 4).toNat [] false :: (beginCommand p s).out) ∧
      (bit (p.w 1) 16 = false → (s.on BRL_ID_ASSIGNED = false ∨ routePort (bits (p.w 1) 0 14) s = none) →
        ∃ u, exec (.ringCopy p) s = .next (endCommand p .decode [0, 4] u) ∧ u.ring.copies = []))) ∧
  (∀ (c : RingCopy) (x : CopyPiece) (s : State), s.ring.serving = [] → s.ring.copies = [c] → c.pieces = [x] → x.second = true →
    c.bad = none → c.next = c.total →
    ∃ u, exec (.endpointResponse .brocia x.tag .ok [] false) s =
        .next (endCommand c.cmd .ok [BitVec.ofNat 64 (c.moved + x.bytes), 0] u) ∧ u.ring.copies = [] ∧ u.mem = s.mem)

/-- The host interface (R542 to R549, R552, R553, R555): requests, their completions, configuration, the link and Function
Level Reset. -/
def Obligations.HostInterface : Prop :=
  (∀ (r : HostReq) (s : State),
    (s.serves r → r.data = none →
      ∃ t, exec (.hostMemoryRequest r) s = .next t ∧
        t.out = .request 120 (s.pcie.nextTag % 65536) (hostIdent r.fn s) false (barAddress r.bar r.off) r.bytes [] false :: s.out ∧
        t.pcie.pieces = [⟨s.pcie.nextTag % 65536, r.fn, false, barAddress r.bar r.off, r.bytes, [], s.pcie.nextTlp, r.tag, true, none⟩] ∧
        onlyRegs [PCI_STATUS_SPEED.off] { s with pcie := t.pcie, out := t.out } t) ∧
    (∀ d, s.serves r → r.data = some d → d.length = (r.bytes + 7) / 8 →
      ∃ t, exec (.hostMemoryRequest r) s = .next t ∧
        t.out = .request 120 (s.pcie.nextTag % 65536) (hostIdent r.fn s) true (barAddress r.bar r.off) r.bytes d false :: s.out ∧
        onlyRegs [PCI_STATUS_SPEED.off] { s with pcie := t.pcie, out := t.out } t) ∧
    (s.fld HC_STATUS_READY = 0 →
      ∃ t, exec (.hostMemoryRequest r) s = .next t ∧ t.fld PCI_COUNTS_EARLY = (s.fld PCI_COUNTS_EARLY + 1) % 2 ^ 16 ∧ t.pcie = s.pcie ∧
        t.out = (if r.data.isSome then s.out else .completerAbort r.fn r.tag :: s.out)) ∧
    (s.fld HC_STATUS_READY = 1 → r.ecrcBad = false → r.kind = .memory → (barSize r.bar < r.off + r.bytes ∨ (s.fn r.fn).d3hot = true) →
      ∃ t, exec (.hostMemoryRequest r) s = .next t ∧ t.fld PCI_COUNTS_UR = (s.fld PCI_COUNTS_UR + 1) % 2 ^ 16 ∧ t.pcie = s.pcie ∧
        t.out = (if r.data.isSome then s.out else .unsupported r.fn r.tag :: s.out)) ∧
    (s.fld HC_STATUS_READY = 1 → r.ecrcBad = true →
      ∃ t, exec (.hostMemoryRequest r) s = .next t ∧ t.out = .aer r.fn 1 :: s.out ∧ t.pcie = s.pcie) ∧
    (s.fld HC_STATUS_READY = 1 → r.ecrcBad = false → isUnsupported r s = false → r.ep = true → r.data.isSome = true →
      ∃ t, exec (.hostMemoryRequest r) s = .next t ∧ t.out = .aer r.fn 0 :: s.out ∧ t.pcie = s.pcie ∧
        t.fld PCI_COUNTS_POISONED_RX = (s.fld PCI_COUNTS_POISONED_RX + 1) % 2 ^ 16) ∧
    (s.fld HC_STATUS_READY = 1 → r.ecrcBad = false → isUnsupported r s = false → r.ep = false → r.parityBad = true → s.pcie.pieces = [] →
      0 < r.bytes → r.off % 256 + r.bytes ≤ 256 →
      ∃ u, exec (.hostMemoryRequest r) s = .next (raise 0x181 r.fn u) ∧ u.pcie.pieces = [] ∧ u.flt = s.flt ∧
        u.out = (if r.data.isSome then s.out else .completion r.fn r.tag (List.replicate ((r.bytes + 7) / 8) 0) true :: s.out) ∧
        u.fld PCI_COUNTS_WERR = (s.fld PCI_COUNTS_WERR + bnat r.data.isSome) % 2 ^ PCI_COUNTS_WERR.w)) ∧
  (∀ (x : HostPiece) (data : List Word) (s : State), s.pcie.pieces = [x] → x.issued = true → x.done = none → x.fn < 4 →
    (x.write = false →
      (∃ t, exec (.endpointResponse .host x.tag .ok data false) s = .next t ∧ t.out = .completion x.fn x.tlpTag data false :: s.out ∧
        t.pcie.pieces = [] ∧ regsKeep [NOC_EPe_STATUS_OUTSTANDING.key 120 0 0] s t) ∧
      (∃ t, exec (.endpointResponse .host x.tag .errData data false) s = .next t ∧ t.pcie.pieces = [] ∧
        t.out = .completion x.fn x.tlpTag (List.replicate ((x.bytes + 7) / 8) 0) true :: s.out ∧
        t.fld OWN_VIOLm_COUNT_COUNT x.fn = (s.fld OWN_VIOLm_COUNT_COUNT x.fn + 1) % 2 ^ OWN_VIOLm_COUNT_COUNT.w ∧
        t.fld PCI_COUNTS_WERR = s.fld PCI_COUNTS_WERR)) ∧
    (x.write = true →
      ∃ t, exec (.endpointResponse .host x.tag .errData [] false) s = .next t ∧ t.pcie.pieces = [] ∧ t.out = s.out ∧
        t.fld PCI_COUNTS_WERR = (s.fld PCI_COUNTS_WERR + 1) % 2 ^ 16 ∧
        (countedAtUnit x .errData = false →
          t.fld OWN_VIOLm_COUNT_COUNT x.fn = (s.fld OWN_VIOLm_COUNT_COUNT x.fn + 1) % 2 ^ OWN_VIOLm_COUNT_COUNT.w) ∧
        (countedAtUnit x .errData = true → t.reg (OWN_VIOLm_COUNT_COUNT.key x.fn 0 0) = s.reg (OWN_VIOLm_COUNT_COUNT.key x.fn 0 0)))) ∧
  (∀ (p : Fin 68) (tag : Nat) (st : Status) (data : List Word) (poison : Bool) (s : State), (s.fab p).outs = [tag] →
    ∃ t, exec (.endpointResponse (.port p) tag st data poison) s = .next t ∧ t.out = .fabricResponse p tag st poison data :: s.out ∧
      (t.fab p).outs = [] ∧ storesKeep s t) ∧
  (∀ (f : Fin 4) (tag dword : Nat) (v : BitVec 32) (s : State),
    (s.pcie.ready = false → ∀ put, exec (.hostConfigRequest f tag dword put) s = .next { s with out := .configRetry f tag :: s.out }) ∧
    (s.pcie.ready = true →
      exec (.hostConfigRequest f tag 0 none) s = .next { s with out := .config f tag 0x84201F3A :: s.out } ∧
      exec (.hostConfigRequest f tag 2 none) s = .next { s with out := .config f tag 0x118000B0 :: s.out } ∧
      exec (.hostConfigRequest f tag 11 none) s = .next { s with out := .config f tag (subsystemId s) :: s.out } ∧
      (∃ t, exec (.hostConfigRequest f tag dword (some (.busMaster false))) s = .next t ∧
        (f.val < s.pcie.fns.length → (t.fn f).busMaster = false) ∧ (∀ g, g ≠ f.val → t.fn g = s.fn g) ∧ t.out = s.out ∧ storesKeep s t) ∧
      (f.val < s.pcie.fns.length → dword ≠ 0 → dword ≠ 2 → dword ≠ 11 →
        ∃ t, exec (.hostConfigRequest f tag dword (some (.other dword v))) s = .next t ∧ configRead f dword t = v ∧ t.out = s.out ∧
          (∀ g, g ≠ f.val → t.fn g = s.fn g) ∧ storesKeep s t))) ∧
  (∀ s : State,
    (s.fld PCI_CTL_LINK_DIS = 0 →
      ∃ t, exec (.hostLinkUp 5 16) s = .next t ∧ t.fld PCI_STATUS_LINK_UP = 1 ∧ t.fld PCI_STATUS_SPEED = 5 ∧ t.fld PCI_STATUS_WIDTH = 16 ∧
        (∀ q, q < 4 → t.fld LNK_QUADq_RATE q = 4) ∧ t.out = s.out ∧ t.mem = s.mem) ∧
    (s.fld PCI_CTL_LINK_DIS = 1 → exec (.hostLinkUp 5 16) s = .next s) ∧
    (∃ t u, exec .hostLinkDown s = .next t ∧ t.fld PCI_STATUS_LINK_UP = 0 ∧ t.flt = (raise 0x180 (t.fld PCI_STATUS_LINK_DOWNS) u).flt ∧
      t.fld PCI_STATUS_LINK_DOWNS = (s.fld PCI_STATUS_LINK_DOWNS + 1) % 2 ^ 32 ∧ (∀ q, q < 4 → t.fld LNK_QUADq_RATE q = 0) ∧
      (∀ x ∈ t.pcie.pieces, x.write = true) ∧
      (s.cfg.load = none → s.owned = false → u.flt.pending = s.flt.pending ∧ u.flt.reactions = s.flt.reactions ∧ t.mem = s.mem)) ∧
    (s.fld PCI_STATUS_LINK_UP = 1 → s.pcie.fns.all (·.l1Enable) = true →
      ∃ t, exec .l1Entry s = .next t ∧ t.fld PCI_STATUS_L1 = 1 ∧ onlyRegs [PCI_STATUS_SPEED.off] s t)) ∧
  (∀ (f : Fin 4) (s : State), s.cfg.load = none → f.val < s.pcie.fns.length →
    ∃ t, exec (.functionLevelReset f) s = .next t ∧ t.fn f = PcieFn.reset ∧ (∀ g, g ≠ f.val → t.fn g = s.fn g) ∧
      (s.isOwner (hostIdent f s) = false → t.reg (pbaKey f) = regReset (pbaKey f)) ∧ (∀ v, v < 64 → t.reg (msixKey f v 1) = regReset (msixKey f v 1)) ∧ t.replyQueue f = [] ∧
      (∀ k, k < 15 → t.reg (HC_CMD_Wk_WORD.key (k + 1) 0 0 + slotSpan * f) = regReset (HC_CMD_Wk_WORD.key (k + 1) 0 0 + slotSpan * f)) ∧
      t.fld OWN_VIOLm_COUNT_COUNT f = s.fld OWN_VIOLm_COUNT_COUNT f ∧ (∀ r ∈ t.hc.running, r.pkt.issuer = hostIdent f s → r.discard = true) ∧
      (s.isOwner (hostIdent f s) = true → t.owned = false) ∧ t.mem = s.mem)

/-- Register access (R4 to R12, R603, R605, R639, R642, R732): a write to a gated block or by a non-owner to an owner-only
register is ignored and counted; a half write changes its half; a read changes nothing but the RC fields of the half
read; an offset without a register reads zero; a bad size or alignment reads zero and counts. -/
def Obligations.RegisterAccess : Prop :=
  (∀ (m : Ident) (off : Nat) (h : Half) (data : Word) (r : RegName) (ix : List Nat) (s : State), regAt off = some (r, ix) →
    (s.dark = true → exec (.registerWrite m off h data) s = .next s ∧ exec (.rcFieldRead m off h) s = .next s) ∧
    (s.dark = false → s.blockOpen (r.off ix) = false →
      exec (.registerWrite m off h data) s = .next ((violation m .response true (r.off ix + h.skip) (renewLease m s)).addFld NOC_COUNTS_GATED 1)) ∧
    (s.dark = false → s.blockOpen off = false →
      exec (.rcFieldRead m off h) s = .next (((violation m .response false (off + h.skip) s).addFld NOC_COUNTS_GATED 1).emit (.answer m 0))) ∧
    (s.dark = false → s.blockOpen (r.off ix) = true → (regInfo r).access = .ownerOnly → s.isOwner m = false →
      exec (.registerWrite m off h data) s = .next (violation m .ownerOnly true (r.off ix + h.skip) s))) ∧
  (∀ (m : Ident) (d : Nat) (h : Half) (data : Word) (s : State), d < 16 →
    (s.admits m .CTX_DOMd_MATCH [d] →
      ∃ t, exec (.registerWrite m (0x801000 + 0x40 * d) h data) s = .next t ∧
        t.reg (CTX_DOMd_MATCH_MATCH.key d 0 0) = (s.reg (CTX_DOMd_MATCH_MATCH.key d 0 0) &&& ~~~ h.mask) ||| (data &&& h.mask) ∧
        onlyRegs [leaseKey, CTX_DOMd_MATCH_MATCH.key d 0 0] s t) ∧
    (s.readable (0x801000 + 0x40 * d) →
      ∃ t, exec (.rcFieldRead m (0x801000 + 0x40 * d) h) s = .next t ∧ t.out = .answer m (s.reg (CTX_DOMd_MATCH_MATCH.key d 0 0) &&& h.mask) :: s.out ∧
        storesKeep s t)) ∧
  (∀ (m : Ident) (h : Half) (s : State), s.readable TCK_CARRY_MAX_MAX.off →
    ∃ t, exec (.rcFieldRead m TCK_CARRY_MAX_MAX.off h) s = .next t ∧
      t.out = .answer m (s.reg TCK_CARRY_MAX_MAX.off &&& h.mask) :: s.out ∧
      t.fld TCK_CARRY_MAX_MAX = (if h = .high then s.fld TCK_CARRY_MAX_MAX else 0) ∧
      onlyRegs [TCK_CARRY_MAX_MAX.off] { s with out := t.out } t) ∧
  (∀ (m : Ident) (off : Nat) (h : Half) (data : Word) (s : State), regAt off = none → msixAt off = none → s.dark = false →
    exec (.rcFieldRead m off h) s = .next { s with out := .answer m 0 :: s.out } ∧
    (off < 0x1000 ∨ 0x1080 ≤ off → exec (.registerWrite m off h data) s = .next (renewLease m s))) ∧
  (∀ (m : Ident) (off size n : Nat) (s : State), s.dark = false → (size ≠ 4 ∧ size ≠ 8 ∨ off % size ≠ 0) → off < 0x2000000 →
    slotOf m = some n → n < 76 →
    (∃ t, exec (.bar0BadAccess m off size true) s = .next t ∧
      t.fld OWN_VIOLm_COUNT_COUNT n = (s.fld OWN_VIOLm_COUNT_COUNT n + 1) % 2 ^ OWN_VIOLm_COUNT_COUNT.w ∧
      t.reg (OWN_VIOLm_LAST_IDENT.key n 0 0) = mkWord [(0, 32, m.toNat), (32, 3, 2), (35, 1, 1), (36, 26, off), (63, 1, 1)] ∧
      onlyRegs [leaseKey, OWN_VIOLm_COUNT_COUNT.key n 0 0, OWN_VIOLm_LAST_IDENT.key n 0 0] s t) ∧
    (∃ t, exec (.bar0BadAccess m off size false) s = .next t ∧ t.out = .answer m 0 :: s.out ∧
      t.fld OWN_VIOLm_COUNT_COUNT n = (s.fld OWN_VIOLm_COUNT_COUNT n + 1) % 2 ^ OWN_VIOLm_COUNT_COUNT.w ∧
      regsKeep [OWN_VIOLm_COUNT_COUNT.key n 0 0, OWN_VIOLm_LAST_IDENT.key n 0 0] s t)) ∧
  (∀ (m : Ident) (off size : Nat) (write : Bool) (s : State), (size = 4 ∨ size = 8) → off % size = 0 →
    exec (.bar0BadAccess m off size write) s = .next s)

/-- Submissions, the checks of a command, and replies (R583 to R590, R593 to R595): a submission of the right form joins its
class queue, one of a wrong form is refused and counted; the queues are served in turn, the oldest packet first; a
packet gets the first status that applies; a reply joins its issuer's queue and is popped from it. -/
def Obligations.CommandsAndReplies : Prop :=
  (∀ (m : Ident) (header : Word) (ws : List Word) (n : Nat) (s : State), s.dark = false → s.blockOpen HC_CMD_PORT_PACKET.off = true →
    slotOf m = some n → submits m = true → (hasReplyQueue m = true → s.mfld HC_SUBMIT_STATUS_RESERVED n < 16) →
    bits header 32 8 = ws.length → ws.length ≤ 15 → queueOf m < s.hc.queues.length →
    (s.hc.queues.getD (queueOf m) []).length < 64 →
    ∃ t, exec (.commandPortWrite m HC_CMD_PORT_PACKET.off (8 * (1 + ws.length)) (header :: ws)) s = .next t ∧
      t.hc = { s.hc with queues := s.hc.queues.set (queueOf m) (s.hc.queues.getD (queueOf m) [] ++ [⟨m, header, ws⟩]) } ∧
      t.mfld HC_SUBMIT_STATUS_RESERVED n = s.mfld HC_SUBMIT_STATUS_RESERVED n + bnat (hasReplyQueue m) ∧
      t.fld HC_QUEUEc_LEVEL (queueOf m) = (s.hc.queues.getD (queueOf m) []).length + 1 ∧
      onlyRegs [leaseKey, HC_SUBMIT_STATUS_TAG.off + slotSpan * n, HC_QUEUEc_LEVEL.key (queueOf m) 0 0] { s with hc := t.hc } t) ∧
  (∀ (m : Ident) (header : Word) (n : Nat) (s : State), s.admits m .HC_CMD_SUBMIT [] → slotOf m = some n → submits m = true →
    (hasReplyQueue m = true → s.mfld HC_SUBMIT_STATUS_RESERVED n < 16) → bits header 32 8 ≤ 15 → queueOf m < s.hc.queues.length →
    (s.hc.queues.getD (queueOf m) []).length < 64 →
    ∃ t, exec (.commandSubmit m .full header) s = .next t ∧
      t.hc = { s.hc with queues := s.hc.queues.set (queueOf m) (s.hc.queues.getD (queueOf m) [] ++
        [⟨m, header, (List.range (bits header 32 8)).map (fun k => s.reg (HC_CMD_Wk_WORD.key (k + 1) 0 0 + slotSpan * n))⟩]) } ∧
      onlyRegs [leaseKey, HC_SUBMIT_STATUS_TAG.off + slotSpan * n, HC_QUEUEc_LEVEL.key (queueOf m) 0 0] { s with hc := t.hc } t) ∧
  (∀ (m : Ident) (header : Word) (ws : List Word) (off size n : Nat) (s : State), s.dark = false → s.blockOpen off = true →
    slotOf m = some n → n < 76 →
    (off ≠ HC_CMD_PORT_PACKET.off ∨ size ≠ 8 * (1 + bits header 32 8) ∨ 15 < bits header 32 8 ∨ submits m = false) →
    ∃ t, exec (.commandPortWrite m off size (header :: ws)) s = .next t ∧ t.hc = s.hc ∧ t.mfld HC_SUBMIT_STATUS_REFUSED n = 1 ∧
      t.mfld HC_SUBMIT_STATUS_RESERVED n = s.mfld HC_SUBMIT_STATUS_RESERVED n ∧
      t.fld OWN_VIOLm_COUNT_COUNT n = (s.fld OWN_VIOLm_COUNT_COUNT n + 1) % 2 ^ OWN_VIOLm_COUNT_COUNT.w ∧
      onlyRegs [leaseKey, HC_SUBMIT_STATUS_TAG.off + slotSpan * n, OWN_VIOLm_COUNT_COUNT.key n 0 0, OWN_VIOLm_LAST_IDENT.key n 0 0] s t) ∧
  (∀ (p : Packet) (s : State), s.dark = false → s.hc.running.length < 16 → mayStart p s = true →
    (p.opcode = 0x0701 ∨ p.opcode = 0x0F01 ∨ p.opcode ∉ opcodes) →
    (p.reserved ≠ 0 → (p.opcode ≠ 0x0F01 → exec (.domainSet p) s = .next (endCommand p .invalid [] (beginCommand p s))) ∧
      (p.opcode ≠ 0x0701 → exec (.echo p) s = .next (endCommand p .invalid [] (beginCommand p s)))) ∧
    (p.reserved = 0 → p.opcode ∉ opcodes → exec (.domainSet p) s = .next (endCommand p .unknown [] (beginCommand p s)) ∧
      exec (.echo p) s = .next (endCommand p .unknown [] (beginCommand p s))) ∧
    (p.reserved = 0 → p.opcode = 0x0701 → p.len < 3 → exec (.domainSet p) s = .next (endCommand p .badLength [] (beginCommand p s))) ∧
    (p.reserved = 0 → p.opcode = 0x0701 → 3 ≤ p.len → s.isOwner p.issuer = false →
      exec (.domainSet p) s = .next (endCommand p .notOwner [] (beginCommand p s))) ∧
    (p.reserved = 0 → p.opcode = 0x0F01 → exec (.echo p) s = .next (endCommand p .ok p.words (beginCommand p s)))) ∧
  (∀ (p : Packet) (c : Instr) (s : State), c ∈ [Instr.echo p, .domainSet p, .domainRead p] →
    (16 ≤ s.hc.running.length ∨ mayStart p s = false) → exec c s = .next s) ∧
  (∀ (a b : Packet) (l : List Packet) (s : State), s.hc.queues = [a :: l, [b], [], []] → queueOf a.issuer = 0 → queueOf b.issuer = 1 →
    a ≠ b → s.hc.turn < 2 →
    mayStart a s = decide (s.hc.turn = 0) ∧ mayStart b s = decide (s.hc.turn = 1) ∧ (∀ c ∈ l, c ≠ a → queueOf c.issuer = 0 → mayStart c s = false) ∧
    (beginCommand a s).hc.turn = 1 ∧ (beginCommand a s).hc.queues = [l, [b], [], []] ∧ (beginCommand b s).hc.turn = 2) ∧
  (∀ (p : Packet) (st : Rs) (ws : List Word) (n : Nat) (s : State), slotOf p.issuer = some n → identClass p.issuer ≠ 2 → n < 76 →
    (∀ r ∈ s.hc.running, r.discard = false) → p.quiet = false →
    (endCommand p st ws s).replyQueue n = s.replyQueue n ++
      [⟨mkWord [(0, 16, p.tag), (16, 8, st.code), (24, 8, ws.length), (32, 16, p.opcode)], ws⟩] ∧
    (8 ≤ n → (endCommand p st ws s).replyLine (n - 8) = true) ∧
    (endCommand p st ws s).hc.running = dropFirstP (fun r => decide (r.pkt = p)) s.hc.running) ∧
  (∀ (p : Packet) (s : State), s.accepts 0x0701 3 .owner p → bits (p.w 1) 4 60 = 0 → bits (p.w 3) 1 7 = 0 → bits (p.w 3) 37 27 = 0 →
    (let d := bits (p.w 1) 0 4
     (s.shareSum - s.fld CTX_DOMd_CFG_SHARE d + bits (p.w 3) 8 8 ≤ 256 → s.fld CTX_DOMd_STATUS_RESIDENT d = 0 →
       ∃ u, exec (.domainSet p) s = .next (endCommand p .ok [u.reg (CTX_DOMd_STATUS_RESIDENT.key d 0 0)] u) ∧
         u.reg (CTX_DOMd_MATCH_MATCH.key d 0 0) = p.w 2 ∧ u.fld CTX_DOMd_CFG_EN d = bits (p.w 3) 0 1 ∧
         u.fld CTX_DOMd_CFG_SHARE d = bits (p.w 3) 8 8 ∧ u.fld CTX_DOMd_CFG_QUOTA d = bits (p.w 3) 16 21 ∧
         u.out = (beginCommand p s).out ∧ u.mem = s.mem) ∧
     (256 < s.shareSum - s.fld CTX_DOMd_CFG_SHARE d + bits (p.w 3) 8 8 →
       ∃ u, exec (.domainSet p) s = .next (endCommand p .invalid [] u) ∧ u.fld CTX_STATUS_SHARE_REFUSED = 1 ∧
         onlyRegs [CTX_STATUS_SHARE_REFUSED.off] (beginCommand p s) u))) ∧
  (∀ (p : Packet) (s : State), s.accepts 0x0702 1 .any p →
    exec (.domainRead p) s = .next (endCommand p .ok [s.reg (CTX_DOMd_MATCH_MATCH.key (bits (p.w 1) 0 4) 0 0),
      s.reg (CTX_DOMd_CFG_EN.key (bits (p.w 1) 0 4) 0 0), s.reg (CTX_DOMd_STATUS_RESIDENT.key (bits (p.w 1) 0 4) 0 0),
      s.reg (CTX_DOMd_VISITS_ADMITTED.key (bits (p.w 1) 0 4) 0 0)] (beginCommand p s))) ∧
  (∀ (m : Ident) (r : Reply) (l : List Reply) (n : Nat) (h : Half) (s : State), s.admits m .HC_REPLY_POP [] → slotOf m = some n →
    hasReplyQueue m = true → s.replyQueue n = r :: l → l.length < 16 → h ≠ .high →
    ∃ t, exec (.replyPop m h 1) s = .next t ∧ t.replyQueue n = l ∧ t.mfld HC_REPLY_STATUS_QUEUED n = l.length ∧
      t.mfld HC_SUBMIT_STATUS_RESERVED n = s.mfld HC_SUBMIT_STATUS_RESERVED n - 1 ∧ t.out = s.out ∧
      onlyRegs [leaseKey, HC_REPLY_STATUS_QUEUED.off + slotSpan * n, HC_SUBMIT_STATUS_TAG.off + slotSpan * n] { s with hc := t.hc } t) ∧
  (∀ (m : Ident) (header : Word) (ws : List Word) (s : State), s.admits m .HC_REPLY_IN [] →
    (identClass m ≠ 2 → exec (.replyInWrite m header ws) s = .next (violation m .area true HC_REPLY_IN_REPLY.off (renewLease m s))) ∧
    (identClass m = 2 → bits header 48 4 = 4 → bits header 52 10 = 0 → s.mfld HC_SUBMIT_STATUS_RESERVED 4 < 16 →
      ∃ t, exec (.replyInWrite m header ws) s = .next t ∧ t.replyQueue 4 = s.replyQueue 4 ++ [⟨header &&& 0xFFFFFFFFFFFF, ws⟩] ∧
        t.mfld HC_SUBMIT_STATUS_RESERVED 4 = s.mfld HC_SUBMIT_STATUS_RESERVED 4 + 1) ∧
    (identClass m = 2 → bits header 48 4 = 4 → bits header 52 10 = 0 → s.mfld HC_SUBMIT_STATUS_RESERVED 4 = 16 →
      ∃ t, exec (.replyInWrite m header ws) s = .next t ∧ t.hc = s.hc ∧
        t.mfld HC_REPLY_STATUS_LOST 6 = (s.mfld HC_REPLY_STATUS_LOST 6 + 1) % 2 ^ 16))

/-- Ownership and mailboxes (R597 to R604, R607 to R609, R611 to R614): who wins a claim, a handover's offer, claim and end,
RELEASE and the end of a lease; a message fills or replaces the slot and counts, a TAKE needs the SEQ read, and SENT =
TAKEN + OVERWRITTEN + FULL is kept. -/
def Obligations.OwnershipAndMailboxes : Prop :=
  (∀ (a b : Ident) (s : State), s.dark = false → s.owned = false → s.fld OWN_HANDOVER_PENDING = 0 → mayClaim s a = true →
    (∃ t, exec (.ownershipClaim [a]) s = .next t ∧ t.owned = true ∧ t.owner = a ∧ t.fld OWN_STATUS_LEASE_LEFT_MS = s.fld OWN_LEASE_LEASE_MS ∧
      t.fld OWN_CHANGES_CHANGES = (s.fld OWN_CHANGES_CHANGES + 1) % 2 ^ 32 ∧
      t.out.head? = some (.answer a (mkWord [(0, 32, a.toNat), (32, 1, 1)]))) ∧
    (claimRank a < claimRank b →
      ∃ t u, exec (.ownershipClaim [a, b]) s = .next t ∧ exec (.ownershipClaim [b, a]) s = .next u ∧ t.owner = a ∧ u.owner = a ∧
        t.owned = true ∧ u.owned = true)) ∧
  (∀ (a : Ident) (s : State), s.dark = false → s.owned = true → s.fld OWN_HANDOVER_PENDING = 0 →
    exec (.ownershipClaim [a]) s = .next { s with out := .answer a (mkWord [(0, 32, s.fld OWN_STATUS_OWNER), (32, 1, 1)]) :: s.out }) ∧
  (∀ (a b : Ident) (s : State), s.dark = false → s.fld OWN_HANDOVER_PENDING = 1 → s.fld OWN_HANDOVER_SUCCESSOR = a.toNat → mayClaim s a = true →
    (∃ t, exec (.ownershipClaim [a]) s = .next t ∧ t.owned = true ∧ t.owner = a ∧ t.fld OWN_HANDOVER_PENDING = 0 ∧
      t.fld OWN_STATUS_HANDOVER = 0 ∧ t.fld OWN_STATUS_LEASE_LEFT_MS = s.fld OWN_LEASE_LEASE_MS) ∧
    (b ≠ a → ∃ t, exec (.ownershipClaim [b]) s = .next t ∧ storesKeep s t) ∧
    (∃ t, exec .handoverExpire s = .next t ∧ t.fld OWN_HANDOVER_PENDING = 0 ∧ t.owner = s.owner ∧ t.owned = s.owned ∧
      onlyRegs [OWN_HANDOVER_PENDING.off, OWN_STATUS_OWNER.off] s t)) ∧
  (∀ (m a : Ident) (data : Word) (c : Instr) (s : State), s.admits m .OWN_HANDOVER [] → s.isOwner m = true →
    c ∈ [Instr.handoverOffer m .full data, .ownerRelease m .full data] → bits data 0 32 = a.toNat →
    (bit data 33 = false → mayClaim s a = true → a ≠ m →
      ∃ t, exec c s = .next t ∧ t.fld OWN_HANDOVER_SUCCESSOR = a.toNat ∧ t.fld OWN_HANDOVER_PENDING = 1 ∧ t.owner = m ∧ t.owned = true ∧
        onlyRegs [leaseKey, OWN_HANDOVER_PENDING.off] s t) ∧
    (bit data 33 = false → mayClaim s a = true → a = m →
      ∃ t, exec c s = .next t ∧ t.fld OWN_HANDOVER_PENDING = 0 ∧ t.owner = m ∧ t.owned = true ∧
        onlyRegs [leaseKey, OWN_HANDOVER_PENDING.off] s t) ∧
    (bit data 33 = false → mayClaim s a = false → ∃ t, exec c s = .next t ∧ onlyRegs [leaseKey] s t) ∧
    (bit data 33 = true →
      ∃ u, exec c s = .next (raise 0x010 0 u) ∧ u.owned = false ∧ u.fld OWN_STATUS_OWNER = 0 ∧ u.fld OWN_HANDOVER_PENDING = 0 ∧
        u.fld OWN_CHANGES_CHANGES = (s.fld OWN_CHANGES_CHANGES + 1) % 2 ^ 32 ∧
        onlyRegs [leaseKey, OWN_HANDOVER_PENDING.off, OWN_CHANGES_CHANGES.off] s u)) ∧
  (∀ s : State,
    (s.owned = true → s.on OWN_LEASE_LEASE_MS = true →
      ∃ t, exec .leaseExpire s = .next t ∧ t.owned = false ∧ t.fld OWN_STATUS_OWNER = 0 ∧ t.fld OWN_STATUS_EXPIRED = 1 ∧
        t.fld OWN_HANDOVER_PENDING = 0 ∧ t.fld OWN_CHANGES_EXPIRIES = (s.fld OWN_CHANGES_EXPIRIES + 1) % 2 ^ 32 ∧
        t.fld OWN_CHANGES_CHANGES = (s.fld OWN_CHANGES_CHANGES + 1) % 2 ^ 32 ∧ t.mem = s.mem) ∧
    (s.fld OWN_LEASE_LEASE_MS = 0 → exec .leaseExpire s = .next s)) ∧
  (∀ (m : Ident) (b : Fin 256) (ws : List Word) (first n : Nat) (s : State), s.dark = false →
    s.blockOpen (MBX_m_Wk_WORD.key b first 0) = true → slotOf m = some n → n < 76 → first < 8 →
    (first = 0 → ws.length = 8 → identMatches m (s.fld MBX_m_SENDERS_MATCH b) (s.fld MBX_m_SENDERS_MASK b) = true →
      s.fld MBX_m_CFG_DB_EN b = 0 →
      ∃ t, exec (.mailboxSend m b first ws) s = .next t ∧ (∀ k, k < 8 → t.reg (MBX_m_Wk_WORD.key b k 0) = ws.getD k 0) ∧
        t.fld MBX_m_STATUS_FULL b = 1 ∧ t.fld MBX_m_COUNT_SENT b = (s.fld MBX_m_COUNT_SENT b + 1) % 2 ^ 32 ∧
        t.fld MBX_m_STATUS_SEQ b = t.fld MBX_m_COUNT_SENT b ∧ t.fld MBX_m_OVER_LAST_SENDER b = m.toNat ∧
        t.fld MBX_m_OVER_OVERWRITTEN b = (s.fld MBX_m_OVER_OVERWRITTEN b + s.fld MBX_m_STATUS_FULL b) % 2 ^ 32 ∧
        (s.fld MBX_m_STATUS_FULL b = 1 → t.fld MBX_m_STATUS_COLLISION b = 1) ∧
        (mailboxBalanced b s = true → mailboxBalanced b t = true) ∧
        onlyRegs ([leaseKey, MBX_m_STATUS_FULL.key b 0 0, MBX_m_COUNT_SENT.key b 0 0, MBX_m_OVER_OVERWRITTEN.key b 0 0] ++
          (List.range 8).map (fun k => MBX_m_Wk_WORD.key b k 0)) s t) ∧
    (first = 0 → ws.length = 8 → identMatches m (s.fld MBX_m_SENDERS_MATCH b) (s.fld MBX_m_SENDERS_MASK b) = true →
      s.fld MBX_m_CFG_DB_EN b = 1 → s.fld MBX_m_CFG_DB_TARGET b < 72 →
      ∃ t, exec (.mailboxSend m b first ws) s = .next t ∧ t.fbit MBX_DBr_PENDING (s.fld MBX_m_CFG_DB_BIT b) (s.fld MBX_m_CFG_DB_TARGET b) = true) ∧
    (first = 0 → ws.length = 8 → identMatches m (s.fld MBX_m_SENDERS_MATCH b) (s.fld MBX_m_SENDERS_MASK b) = false →
      exec (.mailboxSend m b first ws) s = .next (violation m .area true (MBX_m_Wk_WORD.key b 0 0) (renewLease m s))) ∧
    (first ≠ 0 ∨ ws.length ≠ 8 →
      exec (.mailboxSend m b first ws) s = .next (violation m .size true (MBX_m_Wk_WORD.key b first 0) (renewLease m s)))) ∧
  (∀ (m : Ident) (b n : Nat) (h : Half) (s : State), s.admits m .MBX_SEND [] → slotOf m = some n → b < 256 → h ≠ .high →
    identMatches m (s.fld MBX_m_SENDERS_MATCH b) (s.fld MBX_m_SENDERS_MASK b) = true → s.fld MBX_m_CFG_DB_EN b = 0 →
    ∃ t, exec (.mbxSend m h (BitVec.ofNat 64 b)) s = .next t ∧
      (∀ k, k < 8 → t.reg (MBX_m_Wk_WORD.key b k 0) = s.reg (MBX_STAGE_Wk_WORD.key k 0 0 + slotSpan * n)) ∧ t.fld MBX_m_STATUS_FULL b = 1 ∧
      t.fld MBX_m_COUNT_SENT b = (s.fld MBX_m_COUNT_SENT b + 1) % 2 ^ 32 ∧ t.fld MBX_m_OVER_LAST_SENDER b = m.toNat ∧
      (mailboxBalanced b s = true → mailboxBalanced b t = true) ∧ t.out = s.out) ∧
  (∀ (m : Ident) (b : Fin 256) (data : Word) (h : Half) (s : State), s.admits m .MBX_m_TAKE [b.val] → h ≠ .high →
    (s.receiver b m = true → s.fld MBX_m_STATUS_FULL b = 1 → bits data 0 32 = s.fld MBX_m_STATUS_SEQ b →
      ∃ t, exec (.mailboxTake m b h data) s = .next t ∧ t.fld MBX_m_STATUS_FULL b = 0 ∧
        t.fld MBX_m_COUNT_TAKEN b = (s.fld MBX_m_COUNT_TAKEN b + 1) % 2 ^ 32 ∧ (mailboxBalanced b s = true → mailboxBalanced b t = true) ∧
        onlyRegs [leaseKey, MBX_m_STATUS_FULL.key b 0 0, MBX_m_COUNT_SENT.key b 0 0] s t) ∧
    (s.receiver b m = true → (s.fld MBX_m_STATUS_FULL b = 0 ∨ bits data 0 32 ≠ s.fld MBX_m_STATUS_SEQ b) →
      ∃ t, exec (.mailboxTake m b h data) s = .next t ∧ onlyRegs [leaseKey] s t) ∧
    (s.receiver b m = false →
      exec (.mailboxTake m b h data) s = .next (violation m .area true (MBX_m_TAKE_SEQ.key b 0 0 + h.skip) (renewLease m s))))

/-- Clocks (R630 to R638, R640 to R645): a gate closes through CLOSING and a ramp down and opens through a ramp up; a ramp
makes 16 steps and ends on its new clock; the reference is selected, qualified and slewed to; a trip stops the domains,
a device without a kindling clock freezes, and the pull-in resumes it. -/
def Obligations.ClocksAndGates : Prop :=
  (∀ (m : Ident) (n : Nat) (data : Word) (c : Instr) (s : State), s.admits m .CLK_GATE [] → n ∈ ownGates → (n < 10 ∨ 14 ≤ n) →
    c ∈ [Instr.gateClose m false .full data, .gateOpen m false .full data] → (∀ k ∈ ownGates, k ≠ n → bit data k = s.gateBit k) →
    s.gateHeld n = false → s.gateClosing n = false → s.ramp (.gate n) = none →
    (s.gateBit n = true → bit data n = false →
      ∃ t, exec c s = .next t ∧ t.gateBit n = false ∧ t.gateClosing n = true ∧ t.gateOpen n = false ∧
        onlyRegs [leaseKey, CLK_GATE_FIXED.off, CLK_GATE_CLOSING_CLOSING.off] s t) ∧
    (s.gateBit n = false → bit data n = true →
      ∃ t, exec c s = .next t ∧ t.gateBit n = true ∧ t.ramp (.gate n) = some ⟨.gate n, 0, 1, none, 0, 0⟩ ∧
        t.fbit CLK_GATE_RAMP_RAMPING n = true ∧ t.gateOpen n = false ∧
        onlyRegs [leaseKey, CLK_GATE_FIXED.off, CLK_GATE_RAMP_RAMPING.off] { s with pwr := t.pwr } t)) ∧
  (∀ (m : Ident) (r : Nat) (data : Word) (c : Instr) (s : State), s.admits m .CLK_RGN_GATE [] → r < 64 → s.pwr.rgnForced = false →
    c ∈ [Instr.gateClose m true .full data, .gateOpen m true .full data] → (∀ k, k < 64 → k ≠ r → bit data k = s.fbit CLK_RGN_GATE_GATE k) →
    s.fbit CLK_RGN_CLOSING_CLOSING r = false →
    (s.fbit CLK_RGN_GATE_GATE r = true → bit data r = false →
      ∃ t, exec c s = .next t ∧ t.fbit CLK_RGN_GATE_GATE r = false ∧ t.fbit CLK_RGN_CLOSING_CLOSING r = true) ∧
    (s.fbit CLK_RGN_GATE_GATE r = false → bit data r = true → s.ramp (.region r) = none →
      ∃ t, exec c s = .next t ∧ t.fbit CLK_RGN_GATE_GATE r = true ∧ t.ramp (.region r) = some ⟨.region r, 0, 1, none, 0, 0⟩)) ∧
  (∀ (n : Fin 64) (s : State),
    (s.gateClosing n = true → gateDrained n s = true → s.pwr.stopped = false →
      ∃ t, exec (.gateDrained (.gate n)) s = .next t ∧ t.gateClosing n = false ∧ t.ramp (.gate n) = some ⟨.gate n, 1, 0, none, 0, 16⟩ ∧
        onlyRegs [CLK_GATE_CLOSING_CLOSING.off, CLK_GATE_RAMP_RAMPING.off] { s with pwr := t.pwr } t) ∧
    ((s.gateClosing n = false ∨ gateDrained n s = false ∨ s.pwr.stopped = true) → exec (.gateDrained (.gate n)) s = .next s)) ∧
  (∀ (b : Branch) (r : Ramp) (s : State), s.ramp b = some r → r.branch = b →
    (s.pwr.stopped = true → b ≠ .fixed → exec (.rampStep b) s = .next s ∧ exec (.rampEnd b) s = .next s) ∧
    (b = .fixed → r.step = 16 → r.next = none → s.pwr.stopped = true → s.pwr.retained = true → (∀ e, e < 32 → s.fld SGE_FRAME_STATUS_BACKLOG e = 0) →
      ∃ t, exec (.rampEnd b) s = .next t ∧ t.ramp b = none ∧ t.pwr.stopped = false ∧ t.fld PWR_STATUS_SUSPENDED = 0 ∧
        onlyRegs [PWR_STATUS_STATE.off] { s with pwr := t.pwr } t)) ∧
  (∀ (b : Branch) (r : Ramp) (s : State), s.ramp b = some r → r.branch = b → s.pwr.stopped = false →
    (r.step < 16 →
      ∃ t, exec (.rampStep b) s = .next t ∧ t.ramp b = some { r with step := r.step + 1, edges := rampEdges r.old r.new (r.step + 1) } ∧
        ((∀ k, b ≠ .fclk k) → t.regs = s.regs) ∧
        (∀ k, b = .fclk k → t.fld CLK_FCLKk_CUR_DIV k = rampDiv r.old r.new (r.step + 1) % 2 ^ CLK_FCLKk_CUR_DIV.w ∧
          regsKeep [CLK_FCLKk_DIV.key k 0 0] s t) ∧ t.out = s.out) ∧
    (r.step = 16 → exec (.rampStep b) s = .next s) ∧
    (r.step < 16 → exec (.rampEnd b) s = .next s) ∧
    (∀ d, r.step = 16 → r.next = some d → ∃ t, exec (.rampEnd b) s = .next t ∧ t.ramp b = some ⟨b, 0, d, none, 0, 0⟩ ∧ t.out = s.out) ∧
    (∀ n, b = .gate n → n < 64 → n ≠ 5 → r.step = 16 → r.next = none →
      (r.new = 1 → s.gateBit n = true → s.gateHeld n = false →
        ∃ t, exec (.rampEnd b) s = .next t ∧ t.ramp b = none ∧ t.fbit CLK_GATE_RAMP_RAMPING n = false ∧
          onlyRegs [CLK_GATE_RAMP_RAMPING.off] { s with pwr := t.pwr } t) ∧
      (r.new = 0 → s.gateBit n = false →
        ∃ t, exec (.rampEnd b) s = .next t ∧ t.ramp b = none ∧ t.fbit CLK_GATE_RAMP_RAMPING n = false ∧
          onlyRegs [CLK_GATE_RAMP_RAMPING.off] { s with pwr := t.pwr } t) ∧
      (r.new = 0 → s.gateBit n = true → s.gateHeld n = false →
        ∃ t, exec (.rampEnd b) s = .next t ∧ t.ramp b = some ⟨b, 0, 1, none, 0, 0⟩ ∧ t.fbit CLK_GATE_RAMP_RAMPING n = true)) ∧
    (∀ k, b = .fclk k → r.step = 16 → r.next = none →
      ∃ t, exec (.rampEnd b) s = .next t ∧ t.ramp b = none ∧ t.fld CLK_FCLKk_CUR_DIV k = r.new % 2 ^ CLK_FCLKk_CUR_DIV.w) ∧
    (b = .noc → r.step = 16 → r.next = none → ∃ t, exec (.rampEnd b) s = .next t ∧ t.ramp b = none ∧ t.pwr.nocDiv = r.new)) ∧
  (∀ (p : Packet) (s : State), s.accepts 0x0202 1 .owner p →
    (s.pwr.req.isSome = true ∨ s.pwr.select.isSome = true → exec (.clkRefSelect p) s = .next (endCommand p .busy [] (beginCommand p s))) ∧
    (s.pwr.req = none → s.pwr.select = none → s.fld CLK_STATUS_ROOT = 1 →
      (s.fld CLK_STATUS_REF = bits (p.w 1) 0 1 → exec (.clkRefSelect p) s = .next (endCommand p .ok [1] (beginCommand p s))) ∧
      (s.fld CLK_STATUS_REF ≠ bits (p.w 1) 0 1 → ∃ t, exec (.clkRefSelect p) s = .next t ∧ t.pwr.select = some (bits (p.w 1) 0 1, p) ∧
        t.pwr.kindle = true ∧ t.regs = (beginCommand p s).regs ∧ t.out = (beginCommand p s).out))) ∧
  (∀ (ref : Nat) (p : Packet) (s : State), ref < 2 → s.pwr.select = some (ref, p) →
    (s.fld CLK_STATUS_KINDLE_READY = 0 → exec .referenceQualified s = .next s) ∧
    (s.pwr.phase = .up → s.fld CLK_STATUS_KINDLE_READY = 1 → ∃ t, exec .referenceQualified s = .next t ∧ t.fld CLK_STATUS_REF = ref ∧ t.fld CLK_STATUS_REF_QUAL = 1 ∧
      t.fld CLK_STATUS_SWITCHING = 1 ∧ onlyRegs [CLK_STATUS_ROOT.off] s t) ∧
    (s.on CLK_STATUS_SWITCHING = false →
      ∃ u, exec .refQualifyTimeout s = .next (endCommand p .failed [] u) ∧ u.pwr.select = none ∧
        u.fld CLK_STATUS_REF = s.fld CLK_STATUS_REF ∧ u.fld CLK_STATUS_ROOT = s.fld CLK_STATUS_ROOT ∧
        (s.fld CLK_CTL_KINDLE_KEEP = 0 → u.pwr.kindle = false) ∧ onlyRegs [CLK_STATUS_ROOT.off] { s with pwr := u.pwr } u) ∧
    (s.fld CLK_STATUS_SWITCHING = 1 → s.fld CLK_STATUS_ROOT = 1 →
      ∃ u, exec .slewDone s = .next (endCommand p .ok [1] u) ∧ u.fld CLK_STATUS_SWITCHING = 0 ∧ u.fld CLK_STATUS_ROOT = 1 ∧
        u.pwr.select = none ∧ (s.fld CLK_CTL_KINDLE_KEEP = 0 → u.pwr.kindle = false ∧ u.fld CLK_STATUS_KINDLE_READY = 0) ∧
        onlyRegs [CLK_STATUS_ROOT.off] { s with pwr := u.pwr } u)) ∧
  (∀ s : State,
    (s.pwr.phase = .p1 → s.fld CLK_STATUS_KINDLE_READY = 1 → ∃ t, exec .referenceQualified s = .next t ∧ t.pwr.phase = .p2 ∧ t.fld CLK_STATUS_REF_QUAL = 1 ∧
      onlyRegs [CLK_STATUS_ROOT.off] { s with pwr := t.pwr } t) ∧
    (s.fld CLK_STATUS_SWITCHING = 1 → s.fld CLK_STATUS_ROOT = 3 → s.pwr.select = none →
      ∃ t, exec .slewDone s = .next t ∧ t.fld CLK_STATUS_ROOT = 1 ∧ t.fld CLK_STATUS_SWITCHING = 0 ∧ t.fld TCK_STATUS_ALIGNED = 0 ∧
        t.fld CLK_MON_RETURNS = (s.fld CLK_MON_RETURNS + 1) % 2 ^ 16)) ∧
  (∀ (lost : Bool) (s : State),
    (s.pwr.frozen = true → exec (.clockMonitorTrip lost) s = .next s) ∧
    (s.pwr.frozen = false → s.fld CLK_STATUS_ROOT = 1 → s.pwr.select = none →
      ∃ t, exec (.clockMonitorTrip lost) s = .next t ∧ t.fld CLK_STATUS_ROOT = 2 ∧ t.pwr.stopped = true ∧ t.pwr.kindle = true ∧
        t.fld CLK_MON_TRIPS = (s.fld CLK_MON_TRIPS + 1) % 2 ^ 16 ∧ t.fld CLK_MON_LAST_TICK = s.fld TCK_COUNT_COUNT ∧
        (if lost then t.fld CLK_MON_LOCK_LOST = 1 else t.fld CLK_MON_REF_LOST = 1) ∧ t.fld TCK_STATUS_QUALITY = 2 ∧
        t.fld TCK_STATUS_ALIGNED = 0 ∧ (∀ g, g < 128 → t.mode g = mdSafe)) ∧
    (s.pwr.frozen = false → s.fld CLK_STATUS_ROOT = 3 → lost = true →
      ∃ t, exec (.clockMonitorTrip lost) s = .next t ∧ t.pwr.frozen = true ∧ t.dark = true ∧ t.fld CLK_MON_FREEZES = (s.fld CLK_MON_FREEZES + 1) % 2 ^ 16) ∧
    (s.fld CLK_STATUS_ROOT = 2 → s.fld CLK_STATUS_KINDLE_READY = 0 → s.pwr.frozen = false →
      ∃ t, exec .freeze s = .next t ∧ t.pwr.frozen = true ∧ t.fld CLK_MON_FROZE = 1 ∧ t.fld FLT_STATUS_EMBER_RUN = 0 ∧
        t.fld CLK_MON_FREEZES = (s.fld CLK_MON_FREEZES + 1) % 2 ^ 16) ∧
    (s.fld CLK_STATUS_KINDLE_READY = 1 → exec .freeze s = .next s)) ∧
  (∀ (aon : Nat) (s : State), s.fld CLK_STATUS_KINDLE_READY = 1 → s.fld CLK_STATUS_ROOT = 2 → s.pwr.frozen = false →
    ∃ t, exec (.pullInDone aon) s = .next t ∧ t.fld CLK_STATUS_ROOT = 3 ∧ t.pwr.stopped = s.pwr.stopped ∧
      t.fld PWR_STATUS_SUSPENDED = s.fld PWR_STATUS_SUSPENDED ∧ t.ramp .fixed = some ⟨.fixed, 0, 24, none, 0, 0⟩ ∧ t.fld TCK_COUNT_COUNT = s.fld TCK_COUNT_COUNT)

/-- Power (R620 to R628, R646 to R648, R653, R654, R657 to R663): power-up and its phases, a fall of PWR_OK, transitions and
their pending slot, steps and their ends, the core voltage, COLD, and wakes; and the balls of the package (R710 to
R712). -/
def Obligations.PowerStates : Prop :=
  (∀ s : State,
    (∃ t, exec .aonPowerOn s = .next t ∧ t.pwr = PwrState.reset ∧ t.regs = [] ∧ t.ctx = State.reset.ctx ∧
      t.out.head? = some (.coreEn false) ∧ (∀ w, w < 2 ^ 24 → t.pword (nvaKey w) = s.pword (nvaKey w)) ∧ t.cfg.fuses = s.cfg.fuses) ∧
    (s.pwr.coreEn = false → s.power ≠ 3 → exec .coreEnHigh s = .next { s with out := .coreEn true :: s.out, pwr := { s.pwr with coreEn := true } }) ∧
    (s.pwr.pwrOk = false →
      ∀ keep : Bool, ∃ t, exec (.powerOn keep) s = .next t ∧ (∀ g, g < 128 → t.fld CHG_SAFE_STATE g = bnat keep) ∧ t.pwr.phase = .p0 ∧ t.pwr.pwrOk = true ∧ t.pwr.kindle = true ∧
        (∀ k, k ∉ alwaysOnRegs → (∀ g, g < 128 → k ≠ CHG_SAFE_STATE.key g 0 0) → t.reg k = regReset k) ∧
        (∀ k ∈ alwaysOnRegs, t.reg k = s.reg k) ∧ t.out.head? = some (.doneN true)) ∧
    (∀ keep : Bool, s.pwr.pwrOk = true → exec (.powerOn keep) s = .next s) ∧
    (s.pwr.pwrOk = true → s.power ≠ 3 →
      ∃ t, exec .pwrOkFall s = .next t ∧ t.pwr.pwrOk = false ∧ t.pwr.phase = .off ∧ t.tck.saved = none ∧
        (∀ k, k ∉ alwaysOnRegs → t.reg k = regReset k) ∧ (∀ k ∈ alwaysOnRegs, t.reg k = s.reg k) ∧ t.out.head? = some (.doneN true)) ∧
    (s.pwr.pwrOk = false → exec .pwrOkFall s = .next s)) ∧
  (∀ (boot : Fin 4) (ref keep : Bool) (s : State), s.pwr.kindle = true →
    (s.pwr.phase = .p0 → ∃ t, exec (.kindlingReady boot ref keep) s = .next t ∧ t.pwr.phase = .p1 ∧ t.fld CLK_STATUS_KINDLE_READY = 1 ∧
      t.fld CLK_STATUS_REF_SEL = bnat ref ∧ t.fld CFG_STATUS_BOOT_SRC = boot.val ∧ t.fld CFG_CTL_GOLDEN_EN = (if boot.val = 0 ∨ boot.val = 3 then 1 else 0) ∧ t.cfg.safeKeep = keep ∧
      (∀ g, g < 128 → t.fld CHG_SAFE_STATE g = bnat keep)) ∧
    (s.pwr.phase = .up → ∃ t, exec (.kindlingReady boot ref keep) s = .next t ∧ t.fld CLK_STATUS_KINDLE_READY = 1 ∧
      onlyRegs [CLK_STATUS_ROOT.off] s t)) ∧
  (∀ (aon : Nat) (s : State), s.pwr.phase = .p2 → s.tck.saved = none → s.fld CLK_CTL_KINDLE_KEEP = 0 →
    ∃ t, exec (.rootLock aon) s = .next t ∧ t.pwr.phase = .p3 ∧ t.fld CLK_STATUS_ROOT = 1 ∧ t.fld CLK_STATUS_KINDLE_READY = 0 ∧
      t.pwr.kindle = false ∧ t.fld TCK_COUNT_COUNT = s.fld TCK_COUNT_COUNT ∧ t.mem = s.mem) ∧
  (∀ (dram : List Bool) (s : State), s.pwr.phase = .p3 →
    ∃ t, exec (.hearthInitDone dram) s = .next t ∧ t.pwr.phase = .up ∧ t.fld HC_STATUS_READY = 1 ∧ t.pcie.ready = true) ∧
  (∀ (p : Packet) (s : State), s.accepts 0x0201 1 .owner p →
    (s.pwr.req = none → s.pwr.slot = none → bits (p.w 1) 0 2 = s.power →
      exec (.pwrState p) s = .next (endCommand p .ok [BitVec.ofNat 64 s.power, s.pwr.stepTick] (beginCommand p s))) ∧
    (s.pwr.req = none → s.pwr.slot = none → bits (p.w 1) 0 2 ≠ s.power →
      ∃ t, exec (.pwrState p) s = .next t ∧ t.pwr.req = some ⟨some p, bits (p.w 1) 0 2⟩ ∧ t.fld PWR_STATUS_TARGET = bits (p.w 1) 0 2 ∧
        t.power = s.power ∧ t.pwr.nextStep = some (stepFrom s.power (bits (p.w 1) 0 2), s.nextDue) ∧ t.out = (beginCommand p s).out) ∧
    (s.pwr.req.isSome = true → s.pwr.slot = none →
      ∃ t, exec (.pwrState p) s = .next t ∧ t.pwr.slot = some ⟨some p, bits (p.w 1) 0 2⟩ ∧ t.pwr.req = s.pwr.req ∧
        t.fld PWR_STATUS_PENDING = 1 ∧ t.fld PWR_STATUS_PENDING_STATE = bits (p.w 1) 0 2 ∧ t.power = s.power) ∧
    (∀ old d, s.pwr.req.isSome = true → s.pwr.slot = some ⟨some old, d⟩ →
      ∃ u, exec (.pwrState p) s = .next (setSlot (some ⟨some p, bits (p.w 1) 0 2⟩) (endCommand old .superseded [] u)) ∧
        u.fld PWR_COUNTS_SUPERSEDED = (s.fld PWR_COUNTS_SUPERSEDED + 1) % 2 ^ 16)) ∧
  (∀ s : State, s.pwr.stopped = false →
    (stepDone (s.fld PWR_STATUS_STEP) s = false → exec .powerStepEnd s = .next s) ∧
    (∀ p, s.fld PWR_STATUS_STEP = 1 → stepDone 1 s = true → s.fld PWR_STATUS_TARGET = 1 → s.pwr.req = some ⟨some p, 1⟩ → s.pwr.slot = none →
      ∃ u, exec .powerStepEnd s = .next (endCommand p .ok [1, s.pwr.stepTick] u) ∧ u.power = 1 ∧ u.fld PWR_STATUS_STEP = 0 ∧ u.pwr.req = none ∧
        u.fld PWR_COUNTS_TRANSITIONS = (s.fld PWR_COUNTS_TRANSITIONS + 1) % 2 ^ 16) ∧
    (s.fld PWR_STATUS_STEP = 2 → stepDone 2 s = true →
      ∃ t, exec .powerStepEnd s = .next t ∧ t.pwr.nextStep = some (3, s.nextDue) ∧ t.fld PWR_STATUS_STEP = 0 ∧ t.power = s.power) ∧
    (s.fld PWR_STATUS_STEP = 3 → stepDone 3 s = true → gatesDown s = false →
      (bankedHeld s = true → exec .powerStepEnd s = .next s) ∧
      (bankedHeld s = false → ∃ t, exec .powerStepEnd s = .next t ∧ bankedHeld t = true ∧ t.fld PWR_STATUS_STEP = 3 ∧
        t.pwr.nextStep = s.pwr.nextStep ∧ (∀ n ∈ ownGates, n ≠ 18 → s.gateOpen n = true → t.ramp (.gate n) = some ⟨.gate n, 1, 0, none, 0, 16⟩) ∧
        onlyRegs [CLK_GATE_CLOSING_CLOSING.off, CLK_GATE_RAMP_RAMPING.off] { s with pwr := t.pwr } t)) ∧
    (s.fld PWR_STATUS_STEP = 3 → stepDone 3 s = true → gatesDown s = true →
      ∃ t, exec .powerStepEnd s = .next t ∧ t.pwr.nextStep = some (4, s.nextDue) ∧ t.pwr.isolated = true ∧ t.pwr.retained = true ∧
        (∀ n ∈ ownGates, n ≠ 18 → t.gateHeld n = true)) ∧
    (s.fld PWR_STATUS_STEP = 4 → stepDone 4 s = true → s.fld PWR_STATUS_TARGET = 3 →
      ∃ t, exec .powerStepEnd s = .next t ∧ t.power = 2 ∧ t.pwr.nextStep = some (5, s.nextDue))) ∧
  (∀ (e : Nat) (a : Action) (s : State), e < 32 → s.fld PWR_STATUS_STEP = 2 → s.pwr.stopped = false → (∀ j, j < 32 → s.fld SGE_CTL_RUN j = 0) →
    (∀ j, j < 32 → j ≠ e → (s.eng j).busy = false) → (s.eng e).jobRunning = true → (s.eng e).frameRunning = false → (s.eng e).queue = [a] →
    ∃ t, exec .bankedJobCutoff s = .next t ∧ (t.eng e).jobRunning = false ∧ t.fld SGE_TRAP_CAUSE e = 7 ∧
      t.fld SGE_COUNT_ERR_LIMITS e = (s.fld SGE_COUNT_ERR_LIMITS e + 1) % 2 ^ SGE_COUNT_ERR_LIMITS.w) ∧
  (∀ (mv : Nat) (s : State), mv < 2 ^ 16 →
    (∃ t, exec (.avsReadback none) s = .next t ∧ t.fld PWR_AVS_AVS_ERR = 1 ∧ onlyRegs [PWR_AVS_READ_MV.off] s t) ∧
    (s.pwr.avs = some false → s.fld PWR_AVS_TARGET_MV ≤ mv + 10 → mv ≤ s.fld PWR_AVS_TARGET_MV + 10 →
      ∃ t, exec (.avsReadback (some mv)) s = .next t ∧ t.pwr = { s.pwr with avs := none } ∧ t.fld PWR_AVS_READ_MV = mv ∧
        onlyRegs [PWR_AVS_READ_MV.off] { s with pwr := t.pwr } t) ∧
    (s.pwr.avs = some true → s.fld PWR_STATUS_STEP = 6 → s.fld PWR_AVS_TARGET_MV ≤ mv + 10 → mv ≤ s.fld PWR_AVS_TARGET_MV + 10 →
      ∃ t, exec (.avsReadback (some mv)) s = .next t ∧ t.pwr.avs = none ∧ t.ramp .noc = some ⟨.noc, 24, 6, none, 0, 4⟩) ∧
    (s.pwr.avs.isSome = true → (mv + 10 < s.fld PWR_AVS_TARGET_MV ∨ s.fld PWR_AVS_TARGET_MV + 10 < mv) →
      ∃ t, exec (.avsReadback (some mv)) s = .next t ∧ t.pwr = s.pwr ∧ t.fld PWR_AVS_READ_MV = mv) ∧
    (s.pwr.avs = some false →
      ∃ t u, exec .avsTimeout s = .next t ∧ t.pwr = { s.pwr with avs := none } ∧ t.power = s.power ∧ t.fld PWR_AVS_AVS_ERR = 1 ∧
        t.fld PWR_COUNTS_AVS_ERRORS = (s.fld PWR_COUNTS_AVS_ERRORS + 1) % 2 ^ 16 ∧
        t.flt = (raise 0x004 (s.fld PWR_AVS_TARGET_MV + 65536 * s.fld PWR_AVS_READ_MV) u).flt ∧ u.flt = s.flt) ∧
    (∀ p d, s.pwr.avs = some true → s.fld PWR_STATUS_STEP = 6 → s.pwr.req = some ⟨some p, d⟩ → s.pwr.slot = none →
      ∃ u, exec .avsTimeout s = .next (endCommand p .failed [] u) ∧ u.power = s.power ∧ u.fld PWR_STATUS_STEP = 0 ∧ u.pwr.req = none)) ∧
  (∀ s : State, s.pwr.coldDelay = true → s.pwr.stopped = false →
    ∃ t, exec .coldDelayExpire s = .next t ∧ t.power = 3 ∧ t.pwr.coreEn = false ∧
      t.tck.saved = some (s.fld TCK_AON_COUNT, s.tck.phase, s.tickCount, s.deviceTime, s.curN) ∧ t.fld FLT_STATUS_EMBER = 0 ∧
      (∃ l, t.out = .coreEn false :: .doneN true :: l) ∧ (∀ k ∈ alwaysOnRegs, t.reg k = s.reg k)) ∧
  (∀ (n : Fin 4) (s : State),
    (s.fbit PWR_WAKE_CFG_PIN_EN n = true → s.power = 0 →
      ∃ u, exec (.wakePin n) s = .next (raise 0x00C 0 u) ∧ u.fbit PWR_WAKE_STATUS_PIN n = true ∧
        u.fld PWR_COUNTS_WAKES = (s.fld PWR_COUNTS_WAKES + 1) % 2 ^ 16 ∧
        onlyRegs [PWR_WAKE_STATUS_PIN.off, PWR_COUNTS_WAKES.off] s u) ∧
    (s.fbit PWR_WAKE_CFG_PIN_EN n = false → ∃ t, exec (.wakePin n) s = .next t ∧ onlyRegs [PWR_WAKE_STATUS_PIN.off] s t) ∧
    (s.fbit PWR_WAKE_CFG_PIN_EN n = true → s.power = 1 → s.pwr.req = none → s.pwr.slot = none →
      ∃ t, exec (.wakePin n) s = .next t ∧ t.pwr.req = some ⟨none, 0⟩ ∧ t.pwr.nextStep = some (9, s.nextDue) ∧
        t.fld PWR_STATUS_TARGET = 0)) ∧
  (∀ (m : Ident) (h : Half) (s : State), s.admits m .PWR_WAKE_REQ [] → h ≠ .high → s.power = 0 →
    (identClass m = 1 → s.fld PWR_WAKE_CFG_PCIE_EN = 1 →
      ∃ u, exec (.wakeReqWrite m h 1) s = .next (raise 0x00C 0 u) ∧ u.fld PWR_WAKE_STATUS_PCIE = 1) ∧
    (identClass m = 2 → s.fld PWR_WAKE_CFG_RING_EN = 1 →
      ∃ u, exec (.wakeReqWrite m h 1) s = .next (raise 0x00C 0 u) ∧ u.fld PWR_WAKE_STATUS_RING = 1) ∧
    (identClass m = 3 → exec (.wakeReqWrite m h 1) s = .next (violation m .area true (PWR_WAKE_REQ_WAKE.off + h.skip) (renewLease m s)))) ∧
  (∀ s : State,
    (s.power = 3 → s.fld PWR_WAKE_CFG_RING_EN = 1 → s.pwr.coreEn = false →
      ∃ t, exec .ringEnergyWake s = .next t ∧ t.pwr.coreEn = true ∧ t.fld PWR_WAKE_STATUS_RING = 1 ∧
        t.fld PWR_COUNTS_WAKES = (s.fld PWR_COUNTS_WAKES + 1) % 2 ^ 16) ∧
    (s.power ≠ 3 → exec .ringEnergyWake s = .next s) ∧
    (s.power ≠ 3 → s.pwr.wakeLow = true →
      exec .perstRise s = .next { s with out := .pcieWakeN false :: s.out, pwr := { s.pwr with wakeLow := false } }) ∧
    (s.power = 3 → s.fld PWR_WAKE_CFG_PCIE_EN = 1 → s.pwr.coreEn = false →
      ∃ t, exec .perstRise s = .next t ∧ t.pwr.coreEn = true ∧ t.fld PWR_WAKE_STATUS_PCIE = 1)) ∧
  (∀ c, c < 2048 → ballPin (channelBall c).1 (channelBall c).2 = some (.channel c)) ∧
  (∀ g k, g < 128 → k < 4 → ∀ b, (groundBalls g)[k]? = some b → ballPin b.1 b.2 = some (.supply "VSS")) ∧
  (∀ row col, (ballPin row col).isSome = true ↔ (1 ≤ row ∧ row ≤ 74 ∧ 1 ≤ col ∧ col ≤ 74))

/-- The fault collector (R667 to R675, R679, R680, R691): a raise is counted and becomes pending, merged into an entry that
waits; the lowest pending source is recorded; a severity of 2 contains the source's unit and 3 halts the outputs; a
release ends the halt, or is refused; the first-entry capture is re-armed by a write; a history word 0 read captures
word 1. -/
def Obligations.FaultsAreRecordedAndContained : Prop :=
  (∀ (m : Ident) (h : Half) (data : Word) (s : State), s.admits m .FLT_RAISE [] →
    (((identClass m = 3 ∨ s.isOwner m = true) ∧ 0x800 ≤ bits (data &&& h.mask) 0 12) →
      ∃ t, exec (.fltRaiseWrite m h data) s = .next t ∧
        (let src := bits (data &&& h.mask) 0 12
         let sev := s.fld FLT_SRCs_SEV src
         let info := BitVec.ofNat 32 (bits (data &&& h.mask) 32 32)
         let region := if identClass m = 3 ∧ identIndex m < 64 then some (identIndex m) else none
         t.fld FLT_SRCs_COUNT src = (s.fld FLT_SRCs_COUNT src + 1) % 2 ^ 16 ∧ t.fld FLT_SRCs_SEV src = sev ∧
         t.fld FLT_COUNT_RAISED = (s.fld FLT_COUNT_RAISED + 1) % 2 ^ 32 ∧ t.fld FLT_COUNT_RECORDED = s.fld FLT_COUNT_RECORDED ∧
         t.flt = { s.flt with
           pending := mergePending ⟨src, info, BitVec.ofNat 64 (s.fld DEVICE_TIME_TIME), sev, false⟩ s.flt.pending
           reactions := s.flt.reactions ++ (if 2 ≤ sev then [⟨src, sev, info, region⟩] else []) } ∧
         t = { s with regs := t.regs, flt := t.flt, out := t.out } ∧
         ((sev = 0 ∨ (s.fld FLT_SRCs_EN0 src = 0 ∧ s.fld FLT_SRCs_EN1 src = 0 ∧ s.fld FLT_SRCs_EN2 src = 0 ∧ s.fld FLT_SRCs_EN3 src = 0)) →
           t.out = s.out ∧ regsKeep [leaseKey, FLT_SRCs_COUNT.key src 0 0, FLT_COUNT_RAISED.off] s t) ∧
         (1 ≤ sev → s.fld FLT_SRCs_EN0 src = 1 → s.fld FLT_SRCs_EN1 src = 0 → s.fld FLT_SRCs_EN2 src = 0 → s.fld FLT_SRCs_EN3 src = 0 →
           t.fbit FLT_VECf_RAISED_RAISED (s.fld FLT_SRCs_VEC0 src) 0 = true ∧
           t.out = (if vectorOpen s 0 (s.fld FLT_SRCs_VEC0 src) then .msix 0 (s.fld FLT_SRCs_VEC0 src) :: s.out else s.out) ∧
           (vectorOpen s 0 (s.fld FLT_SRCs_VEC0 src) = false → bit (t.reg (pbaKey 0)) (s.fld FLT_SRCs_VEC0 src) = true)))) ∧
    (¬ ((identClass m = 3 ∨ s.isOwner m = true) ∧ 0x800 ≤ bits (data &&& h.mask) 0 12) →
      exec (.fltRaiseWrite m h data) s = .next (violation m .area true (FLT_RAISE_SOURCE.off + h.skip) (renewLease m s)))) ∧
  (∀ (e : FltPending) (l : List FltPending),
    (∀ p ∈ l, e.source < p.source) → mergePending e l = e :: l) ∧
  (∀ (e p : FltPending) (a l : List FltPending), (∀ x ∈ a, x.source < e.source) → p.source = e.source →
    mergePending e (a ++ p :: l) = a ++ { p with info := e.info, sev := max p.sev e.sev, merged := true } :: l) ∧
  (∀ (e : FltPending) (r : List FltPending) (s : State), s.flt.pending = e :: r →
    ∃ t, exec .faultRecord s = .next t ∧
      (let q := s.fld FLT_COUNT_RECORDED
       let w1 := eventWord e q
       t.reg (FLT_HISTk_W0_WORD.key (q % 32) 0 0) = e.time ∧ t.reg (FLT_HISTk_W1_WORD.key (q % 32) 0 0) = w1 ∧
       bits w1 0 12 = e.source % 2 ^ 12 ∧ bits w1 12 2 = e.sev % 4 ∧ bit w1 14 = e.merged ∧ bit w1 15 = true ∧
       bits w1 16 32 = e.info.toNat ∧ bits w1 48 16 = q % 2 ^ 16 ∧
       t.fld FLT_COUNT_RECORDED = (q + 1) % 2 ^ 32 ∧ t.flt.pending = r ∧
       (bit (s.reg FLT_FIRST_W1_WORD.off) 15 = false → t.reg FLT_FIRST_W0_WORD.off = e.time ∧ t.reg FLT_FIRST_W1_WORD.off = w1) ∧
       (bit (s.reg FLT_FIRST_W1_WORD.off) 15 = true →
         t.reg FLT_FIRST_W0_WORD.off = s.reg FLT_FIRST_W0_WORD.off ∧ t.reg FLT_FIRST_W1_WORD.off = s.reg FLT_FIRST_W1_WORD.off) ∧
       (e.sev < s.fld FLT_CTL_JOURNAL_MIN → t.flt.journalQueue = s.flt.journalQueue) ∧
       (s.fld FLT_CTL_JOURNAL_MIN ≤ e.sev → s.flt.journalQueue.length < 64 →
         t.flt.journalQueue = s.flt.journalQueue ++ [(e.time, w1)] ∧ t.fld FLT_JOURNAL_QUEUED = s.flt.journalQueue.length + 1) ∧
       (s.fld FLT_CTL_JOURNAL_MIN ≤ e.sev → 64 ≤ s.flt.journalQueue.length →
         t.flt.journalQueue = s.flt.journalQueue ∧ t.fld FLT_JOURNAL_SKIPPED = (s.fld FLT_JOURNAL_SKIPPED + 1) % 2 ^ 16) ∧
       onlyRegs [FLT_HISTk_W0_WORD.key (q % 32) 0 0, FLT_HISTk_W1_WORD.key (q % 32) 0 0, FLT_FIRST_W0_WORD.off, FLT_FIRST_W1_WORD.off,
         FLT_COUNT_RECORDED.off, FLT_JOURNAL_QUEUED.off] { s with flt := t.flt } t)) ∧
  (∀ s : State,
    (s.flt.pending = [] → exec .faultRecord s = .next s) ∧
    (s.flt.reactions = [] → exec .faultReaction s = .next s) ∧
    (∀ (r : FltReaction), s.flt.reactions = [r] → r.sev = 2 →
      (∀ g, g < 128 → r.source = 0x200 + g →
        ∃ t, exec .faultReaction s = .next t ∧ t.mode g = mdSafe ∧ t.flt.reactions = [] ∧ t.fld FLT_STATUS_HALTED = s.fld FLT_STATUS_HALTED) ∧
      (r.source = 0x080 ∨ r.source = 0x081 →
        ∃ t, exec .faultReaction s = .next t ∧ t.fld CTX_ENG_CTL_EN = 0 ∧
          onlyRegs [CTX_ENG_CTL_EN.off] { s with flt := { s.flt with reactions := [] } } t) ∧
      (∀ p, p < 4 → r.source = 0x184 + p → ∃ t, exec .faultReaction s = .next t ∧ t.fbit BRL_CTL_PORT_EN p = false) ∧
      (∀ e, e < 32 → r.source = 0x320 + e →
        ∃ t, exec .faultReaction s = .next t ∧ t = setRun e false { s with flt := { s.flt with reactions := [] } }) ∧
      (∀ k, 0x800 ≤ r.source → r.region = some k →
        exec .faultReaction s = .next (raiseDamper k { s with flt := { s.flt with reactions := [] } })) ∧
      (r.source = 0x100 ∨ r.source = 0x140 → r.region = none →
        exec .faultReaction s = .next { s with flt := { s.flt with reactions := [] } })) ∧
    (∀ (r : FltReaction), s.flt.reactions = [r] → r.sev = 3 → 0x800 ≤ r.source → r.source < 0x1000 → r.region = none →
      (s.fld FLT_STATUS_HALTED = 0 ∨ s.flt.rehalt = true →
        ∃ t, exec .faultReaction s = .next t ∧ t.fld FLT_STATUS_HALTED = 1 ∧ t.fld FLT_STATUS_HALT_SRC = r.source ∧
          t.fld FLT_STATUS_HALTS = (s.fld FLT_STATUS_HALTS + 1) % 2 ^ 32 ∧ t.fld FLT_STATUS_EMBER = 0 ∧ t.flt.rehalt = false ∧
          ∀ g, g < 128 → t.mode g = mdSafe) ∧
      (s.fld FLT_STATUS_HALTED = 1 → s.flt.rehalt = false →
        ∃ t, exec .faultReaction s = .next t ∧ t.fld FLT_STATUS_HALTED = 1 ∧ t.fld FLT_STATUS_HALT_SRC = s.fld FLT_STATUS_HALT_SRC ∧
          t.fld FLT_STATUS_HALTS = s.fld FLT_STATUS_HALTS))) ∧
  (∀ (m : Ident) (h : Half) (data : Word) (s : State), s.admits m .FLT_CTL [] →
    (h = .high ∨ bit data 0 = false → ∃ t, exec (.haltRelease m h data) s = .next t ∧
      (h ≠ .high → t.fld FLT_CTL_JOURNAL_MIN = bits data 4 2) ∧ onlyRegs [leaseKey, FLT_CTL_RELEASE.off] s t) ∧
    (h ≠ .high → bit data 0 = true →
      (s.fld FLT_STATUS_HB_LOST = 0 → s.fld FLT_STATUS_TICK_LOST = 0 → s.fld FLT_STATUS_HALTED = 1 →
        (∀ r ∈ s.flt.reactions, r.sev ≠ 3) → ∃ t, exec (.haltRelease m h data) s = .next t ∧ t.fld FLT_STATUS_HALTED = 0 ∧
          t.fld FLT_CTL_JOURNAL_MIN = bits data 4 2 ∧ t.fld FLT_STATUS_HALTS = s.fld FLT_STATUS_HALTS ∧ (∀ g, g < 128 → t.mode g = s.mode g)) ∧
      (s.fld FLT_STATUS_HB_LOST = 0 → s.fld FLT_STATUS_TICK_LOST = 0 → s.fld FLT_STATUS_HALTED = 1 →
        (∃ r ∈ s.flt.reactions, r.sev = 3) → ∃ t, exec (.haltRelease m h data) s = .next t ∧ t.fld FLT_STATUS_HALTED = 1 ∧ t.flt.rehalt = true) ∧
      (s.fld FLT_STATUS_HB_LOST = 1 ∨ s.fld FLT_STATUS_TICK_LOST = 1 →
        ∃ t, exec (.haltRelease m h data) s = .next t ∧ t.fld FLT_STATUS_RELEASE_REFUSED = 1 ∧
          t.fld FLT_STATUS_HALTED = s.fld FLT_STATUS_HALTED ∧ onlyRegs [leaseKey, FLT_CTL_RELEASE.off, FLT_STATUS_HALTED.off] s t))) ∧
  (∀ (m : Ident) (h : Half) (data : Word) (s : State), s.admits m .FLT_FIRST_W1 [] →
    (h ≠ .high → bit data 15 = true → ∃ t, exec (.firstCaptureRearm m h data) s = .next t ∧
      t.reg FLT_FIRST_W0_WORD.off = 0 ∧ t.reg FLT_FIRST_W1_WORD.off = 0 ∧
      onlyRegs [leaseKey, FLT_FIRST_W0_WORD.off, FLT_FIRST_W1_WORD.off] s t) ∧
    (h = .high ∨ bit data 15 = false → exec (.firstCaptureRearm m h data) s = .next (renewLease m s))) ∧
  (∀ (m : Ident) (k : Fin 32) (h : Half) (s : State), s.readable (FLT_HISTk_W0_WORD.key k 0 0) →
    ∃ t, exec (.historyRead m k h) s = .next t ∧ t.out = .answer m (s.reg (FLT_HISTk_W0_WORD.key k 0 0) &&& h.mask) :: s.out ∧
      t = { s with flt := { s.flt with captured := t.flt.captured }, out := t.out } ∧
      ∀ n, slotOf m = some n →
        t.flt.captured.find? (fun c => decide (some c.1 = slotOf m ∧ c.2.1 = k.val)) = some (n, k.val, s.reg (FLT_HISTk_W1_WORD.key k 0 0)) ∧
        ∀ j v, (n, j, v) ∈ s.flt.captured → j ≠ k.val → (n, j, v) ∈ t.flt.captured)

/-- The journal and EMBER (R676 to R678, R686 to R689, R736): the scan finds the highest JSEQ and BOOT, an entry is written
as four words at its place, the journal is read back, EMBER follows the device time at half its period, and a lost
heartbeat or tick stops it low. -/
def Obligations.JournalAndEmber : Prop :=
  (∀ s : State,
    (∀ (e : Word × Word) (r : List (Word × Word)) (b : Nat), s.flt.journalQueue = e :: r → s.flt.boot = some b → s.gateOpen 8 = true → s.nva.waiting = [] →
      ∃ t, exec .journalWrite s = .next t ∧
        (let q := s.fld FLT_JSEQ_JSEQ + 1
         (∀ x ∈ (List.range 4).zip (journalWords q b e.1 e.2), t.pword (nvaKey (0x2A000 + 4 * (q % 16384) + x.1)) = PWord.clean x.2) ∧
         (∀ a, (∀ k, k < 4 → a ≠ nvaKey (0x2A000 + 4 * (q % 16384) + k)) → t.pword a = s.pword a) ∧
         t.fld FLT_JSEQ_JSEQ = q % 2 ^ 64 ∧ t.fld FLT_JOURNAL_WRITTEN = (s.fld FLT_JOURNAL_WRITTEN + 1) % 2 ^ 32 ∧ t.flt.journalQueue = r ∧
         regsKeep [FLT_JSEQ_JSEQ.off, FLT_JOURNAL_WRITTEN.off, NVA_WRITES_COUNT.off] s t)) ∧
    (s.flt.journalQueue = [] ∨ s.flt.boot = none ∨ s.gateOpen 8 = false → exec .journalWrite s = .next s) ∧
    (s.pwr.phase ≠ .up ∨ s.flt.boot.isSome = true → exec .journalScan s = .next s) ∧
    (s.pwr.phase = .up → s.flt.boot = none →
      ∃ t b, exec .journalScan s = .next t ∧ t.flt = { s.flt with boot := some (b + 1) } ∧
        onlyRegs [FLT_JSEQ_JSEQ.off] { s with flt := t.flt } t ∧
        (∀ i j b', i < 16384 → journalPlace s i = some (j, b') → j ≤ t.fld FLT_JSEQ_JSEQ ∧ b' ≤ b) ∧
        ((∀ i, i < 16384 → journalPlace s i = none) → t.fld FLT_JSEQ_JSEQ = 0 ∧ b = 0) ∧
        (∀ i j b', i < 16384 → journalPlace s i = some (j, b') → (∃ i' b'', i' < 16384 ∧ journalPlace s i' = some (t.fld FLT_JSEQ_JSEQ, b'')) ∧
          (∃ i' j', i' < 16384 ∧ journalPlace s i' = some (j', b))))) ∧
  (∀ (p : Packet) (s : State), s.accepts 0x0F02 2 .any p → s.nva.waiting = [] →
    (bits (p.w 2) 0 2 = 0 → exec (.journalRead p) s = .next (endCommand p .invalid [] (beginCommand p s))) ∧
    (∀ (n top first : Nat) (qs : List Nat), n = bits (p.w 2) 0 2 → n ≠ 0 → top = s.fld FLT_JSEQ_JSEQ →
      first = max (p.w 1).toNat (max 1 (top - 16383)) → qs = ((List.range n).map (fun i => first + i)).filter (fun q => decide (q ≤ top)) →
      (∀ ws : List Word, ws.length = 4 * qs.length →
        (∀ j k q w, k < 4 → qs[j]? = some q → ws[4 * j + k]? = some w →
          (s.pword (nvaKey (0x2A000 + 4 * (q % 16384) + k))).decode = .clean w) →
        exec (.journalRead p) s =
          .next (endCommand p .ok (BitVec.ofNat 64 top :: BitVec.ofNat 64 qs.length :: ws) (beginCommand p s))) ∧
      ((∃ q k, q ∈ qs ∧ k < 4 ∧ (s.pword (nvaKey (0x2A000 + 4 * (q % 16384) + k))).decode = .bad) →
        ∃ u, exec (.journalRead p) s = .next (endCommand p .errData [] u) ∧ u.mem = s.mem))) ∧
  (∀ s : State,
    (∃ t, exec .heartbeat s = .next t ∧ t.fld HC_STATUS_HEARTBEATS = (s.fld HC_STATUS_HEARTBEATS + 1) % 2 ^ HC_STATUS_HEARTBEATS.w ∧
      t.fld FLT_STATUS_HB_LOST = 0 ∧ regsKeep [HC_STATUS_HEARTBEATS.off, FLT_STATUS_HB_LOST.off] s t) ∧
    (s.fld FLT_STATUS_HB_LOST = 0 → s.watched = true →
      ∃ t u, exec .hbLost s = .next t ∧ t.fld FLT_STATUS_HB_LOST = 1 ∧ t.fld FLT_STATUS_EMBER = 0 ∧ t.fld FLT_STATUS_EMBER_RUN = 0 ∧
        u = raise 0x001 (s.fld HC_STATUS_HEARTBEATS) (s.setFld FLT_STATUS_HB_LOST 1) ∧
        t.flt.pending = u.flt.pending ∧ t.flt.reactions = u.flt.reactions ∧
        (∃ e ∈ t.flt.pending, e.source = 0x001)) ∧
    (s.fld FLT_STATUS_HB_LOST = 1 → exec .hbLost s = .next s) ∧
    (s.fld FLT_STATUS_TICK_LOST = 0 → s.watched = true →
      ∃ t u, exec .tickLost s = .next t ∧ t.fld FLT_STATUS_TICK_LOST = 1 ∧ t.fld FLT_STATUS_EMBER = 0 ∧ t.fld FLT_STATUS_EMBER_RUN = 0 ∧
        u = raise 0x002 (s.fld TCK_COUNT_COUNT) (s.setFld FLT_STATUS_TICK_LOST 1) ∧
        t.flt.pending = u.flt.pending ∧ t.flt.reactions = u.flt.reactions ∧
        (∃ e ∈ t.flt.pending, e.source = 0x002)) ∧
    (s.fld FLT_STATUS_TICK_LOST = 1 → exec .tickLost s = .next s) ∧
    (s.emberMay = true → s.fld FLT_STATUS_EMBER_RUN = 1 → s.flt.emberWait = some (s.fld DEVICE_TIME_TIME / s.flt.emberH) → exec .emberEdge s = .next s) ∧
    (s.emberMay = true → s.fld FLT_STATUS_EMBER_RUN = 0 →
      ∃ t, exec .emberEdge s = .next t ∧ t.flt.emberWait = some (s.fld DEVICE_TIME_TIME / emberHalf (s.fld FLT_EMBER_FREQ_HZ)) ∧
        t.fld FLT_STATUS_EMBER = s.fld FLT_STATUS_EMBER ∧ t.fld FLT_STATUS_EMBER_RUN = 1) ∧
    (s.emberMay = true → s.fld FLT_STATUS_EMBER_RUN = 1 → s.flt.emberNext = none → s.flt.emberHold = none →
      s.flt.emberWait ≠ some (s.fld DEVICE_TIME_TIME / s.flt.emberH) →
      ∃ t, exec .emberEdge s = .next t ∧ t.fld FLT_STATUS_EMBER = s.fld DEVICE_TIME_TIME / s.flt.emberH % 2 ∧
        (s.fld FLT_STATUS_EMBER = s.fld DEVICE_TIME_TIME / s.flt.emberH % 2 → t = s) ∧ t.fld FLT_STATUS_EMBER_RUN = 1 ∧
        regsKeep [FLT_STATUS_EMBER.off] s t ∧ t.flt.emberH = s.flt.emberH) ∧
    (∀ H, s.emberMay = true → s.fld FLT_STATUS_EMBER_RUN = 1 → s.flt.emberNext = some H →
      s.flt.emberWait ≠ some (s.fld DEVICE_TIME_TIME / s.flt.emberH) → (∀ t0, s.flt.emberHold = some t0 → t0 + s.flt.emberH ≤ s.fld DEVICE_TIME_TIME) →
      s.fld FLT_STATUS_EMBER ≠ s.fld DEVICE_TIME_TIME / s.flt.emberH % 2 →
      ∃ t, exec .emberEdge s = .next t ∧ t.fld FLT_STATUS_EMBER = s.fld DEVICE_TIME_TIME / s.flt.emberH % 2 ∧
        t.flt.emberH = H ∧ t.flt.emberHold = some (s.fld DEVICE_TIME_TIME) ∧ t.flt.emberNext = none) ∧
    (∀ t0, s.emberMay = true → s.fld FLT_STATUS_EMBER_RUN = 1 → s.flt.emberHold = some t0 → s.flt.emberNext = none →
      s.flt.emberWait = none →
      (s.fld DEVICE_TIME_TIME < t0 + s.flt.emberH → exec .emberEdge s = .next s) ∧
      (t0 + s.flt.emberH ≤ s.fld DEVICE_TIME_TIME → ∃ t, exec .emberEdge s = .next t ∧
        t.fld FLT_STATUS_EMBER = s.fld DEVICE_TIME_TIME / s.flt.emberH % 2 ∧
        (s.fld FLT_STATUS_EMBER ≠ s.fld DEVICE_TIME_TIME / s.flt.emberH % 2 → t.flt.emberHold = none))) ∧
    (s.emberMay = false → ∃ t, exec .emberEdge s = .next t ∧ t.fld FLT_STATUS_EMBER = 0 ∧ t.fld FLT_STATUS_EMBER_RUN = 0)) ∧
  (∀ (m : Ident) (h : Half) (data : Word) (s : State), s.admits m .FLT_EMBER [] →
    (h ≠ .high → bits data 0 14 < 250 ∨ 16000 < bits data 0 14 ∨ bits data 16 16 < 200 →
      exec (.emberFreqWrite m h data) s = .next (renewLease m s)) ∧
    (h ≠ .high → 250 ≤ bits data 0 14 → bits data 0 14 ≤ 16000 → 200 ≤ bits data 16 16 →
      ∃ t, exec (.emberFreqWrite m h data) s = .next t ∧ t.fld FLT_EMBER_FREQ_HZ = bits data 0 14 ∧
        t.fld FLT_EMBER_HB_TIMEOUT = bits data 16 16 ∧
        (h = .full → t.fld FLT_EMBER_STOP = bnat (bit data 32)) ∧
        regsKeep [leaseKey, FLT_EMBER_FREQ_HZ.off, FLT_STATUS_EMBER.off] s t ∧
        (s.fld FLT_STATUS_EMBER_RUN = 0 → t.flt.emberH = emberHalf (bits data 0 14)) ∧
        (s.emberMay = true → s.fld FLT_STATUS_EMBER_RUN = 1 → h = .low ∨ bit data 32 = false →
          t.flt.emberNext = some (emberHalf (bits data 0 14)) ∧ t.flt.emberH = s.flt.emberH) ∧
        (h = .full → bit data 32 = true → t.fld FLT_STATUS_EMBER = 0)))
end

