-- ==== Sys2Proof/Laws/Arms.lean ====
section
/-! SUPPORT. The dispatch, arm by arm: what `exec` answers for each command, so that no proof unfolds it. -/

namespace Sys2Proof.Machine

@[simp] theorem exec_registerWrite (m : Ident) (off : Nat) (h : Half) (data : Word) (s : State) :
    exec (.registerWrite m off h data) s = execRegisterWrite m off h data s := rfl
@[simp] theorem exec_rcFieldRead (m : Ident) (off : Nat) (h : Half) (s : State) :
    exec (.rcFieldRead m off h) s = execRcFieldRead m off h s := rfl
@[simp] theorem exec_bar0BadAccess (m : Ident) (off size : Nat) (write : Bool) (s : State) :
    exec (.bar0BadAccess m off size write) s = execBar0BadAccess m off size write s := rfl
@[simp] theorem exec_tckCountRead (m : Ident) (s : State) : exec (.tckCountRead m) s = execTckCountRead m s := rfl
@[simp] theorem exec_halfCaptureRead (m : Ident) (time : Bool) (h : Half) (s : State) :
    exec (.halfCaptureRead m time h) s = execHalfCaptureRead m time h s := rfl
@[simp] theorem exec_tickBoundary (balls : List (Nat × Int)) (s : State) :
    exec (.tickBoundary balls) s = execTickBoundary balls s := rfl
@[simp] theorem exec_tickPeriodArm (m : Ident) (h : Half) (data : Word) (s : State) :
    exec (.tickPeriodArm m h data) s = execTickPeriodArm m h data s := rfl
@[simp] theorem exec_tickPeriodCancel (m : Ident) (h : Half) (data : Word) (s : State) :
    exec (.tickPeriodCancel m h data) s = execTickPeriodCancel m h data s := rfl
@[simp] theorem exec_markerFrame (mk : Marker) (s : State) :
    exec (.markerFrame mk) s = execMarkerFrame mk s := rfl
@[simp] theorem exec_holdover (s : State) : exec (.holdover) s = execHoldover s := rfl
@[simp] theorem exec_holdoverExpire (s : State) : exec (.holdoverExpire) s = execHoldoverExpire s := rfl
@[simp] theorem exec_ptmIntervalExpire (s : State) : exec (.ptmIntervalExpire) s = execPtmIntervalExpire s := rfl
@[simp] theorem exec_aonCalibration (rootCycles : Nat) (s : State) :
    exec (.aonCalibration rootCycles) s = execAonCalibration rootCycles s := rfl
@[simp] theorem exec_tickSetPeriod (p : Packet) (s : State) :
    exec (.tickSetPeriod p) s = execTickSetPeriod p s := rfl
@[simp] theorem exec_timeAlign (p : Packet) (s : State) : exec (.timeAlign p) s = execTimeAlign p s := rfl
@[simp] theorem exec_timePtm (p : Packet) (s : State) : exec (.timePtm p) s = execTimePtm p s := rfl
@[simp] theorem exec_timeAlignTimeout (s : State) : exec (.timeAlignTimeout) s = execTimeAlignTimeout s := rfl
@[simp] theorem exec_ptmTimeout (s : State) : exec (.ptmTimeout) s = execPtmTimeout s := rfl
@[simp] theorem exec_ctxCreate (p : Packet) (s : State) : exec (.ctxCreate p) s = execCtxCreate p s := rfl
@[simp] theorem exec_ctxCreateBlock (p : Packet) (images : List (Word × Word × Word)) (st : Status) (s : State) :
    exec (.ctxCreateBlock p images st) s = execCtxCreateBlock p images st s := rfl
@[simp] theorem exec_ctxArm (p : Packet) (s : State) : exec (.ctxArm p) s = execCtxArm p s := rfl
@[simp] theorem exec_ctxPause (p : Packet) (s : State) : exec (.ctxPause p) s = execCtxPause p s := rfl
@[simp] theorem exec_ctxDestroy (p : Packet) (s : State) : exec (.ctxDestroy p) s = execCtxDestroy p s := rfl
@[simp] theorem exec_ctxRead (p : Packet) (s : State) : exec (.ctxRead p) s = execCtxRead p s := rfl
@[simp] theorem exec_bar2Read (m : Ident) (off size : Nat) (s : State) :
    exec (.bar2Read m off size) s = execBar2Read m off size s := rfl
@[simp] theorem exec_bar2Write (m : Ident) (off size : Nat) (data : Word) (poison : Bool) (s : State) :
    exec (.bar2Write m off size data poison) s = execBar2Write m off size data poison s := rfl
@[simp] theorem exec_domainCfgWrite (m : Ident) (d : Fin 16) (h : Half) (data : Word) (s : State) :
    exec (.domainCfgWrite m d h data) s = execDomainCfgWrite m d h data s := rfl
@[simp] theorem exec_visit (ctxLocked linkLocked : Bool) (s : State) :
    exec (.visit ctxLocked linkLocked) s = execVisit ctxLocked linkLocked s := rfl
@[simp] theorem exec_resultResponse (lane : Fin 4) (source : Fin 224) (tag : Nat) (st : Status) (value : Nat) (s : State) :
    exec (.resultResponse lane source tag st value) s = execResultResponse lane source tag st value s := rfl
@[simp] theorem exec_flightTimeout (entry : Fin 2560) (s : State) :
    exec (.flightTimeout entry) s = execFlightTimeout entry s := rfl
@[simp] theorem exec_ringWriteResponse (d : Fin 16) (pos : Nat) (st : Status) (s : State) :
    exec (.ringWriteResponse d pos st) s = execRingWriteResponse d pos st s := rfl
@[simp] theorem exec_ringRdWrite (m : Ident) (d : Fin 16) (h : Half) (data : Word) (s : State) :
    exec (.ringRdWrite m d h data) s = execRingRdWrite m d h data s := rfl
@[simp] theorem exec_ringCfgWrite (m : Ident) (d : Fin 16) (h : Half) (data : Word) (s : State) :
    exec (.ringCfgWrite m d h data) s = execRingCfgWrite m d h data s := rfl
@[simp] theorem exec_rebuild (m : Ident) (h : Half) (data : Word) (s : State) :
    exec (.rebuild m h data) s = execRebuild m h data s := rfl
@[simp] theorem exec_rebuildScanEnd (s : State) : exec (.rebuildScanEnd) s = execRebuildScanEnd s := rfl
@[simp] theorem exec_gateClose (m : Ident) (regions : Bool) (h : Half) (data : Word) (s : State) :
    exec (.gateClose m regions h data) s = execGateClose m regions h data s := rfl
@[simp] theorem exec_gateOpen (m : Ident) (regions : Bool) (h : Half) (data : Word) (s : State) :
    exec (.gateOpen m regions h data) s = execGateOpen m regions h data s := rfl
@[simp] theorem exec_gateDrained (b : Branch) (s : State) : exec (.gateDrained b) s = execGateDrained b s := rfl
@[simp] theorem exec_rampStep (b : Branch) (s : State) : exec (.rampStep b) s = execRampStep b s := rfl
@[simp] theorem exec_rampEnd (b : Branch) (s : State) : exec (.rampEnd b) s = execRampEnd b s := rfl
@[simp] theorem exec_modeWrite (m : Ident) (g : Fin 128) (h : Half) (data : Word) (s : State) :
    exec (.modeWrite m g h data) s = execModeWrite m g h data s := rfl
@[simp] theorem exec_forceSafe (m : Ident) (g : Fin 128) (h : Half) (data : Word) (s : State) :
    exec (.forceSafe m g h data) s = execForceSafe m g h data s := rfl
@[simp] theorem exec_periodWrite (m : Ident) (g : Fin 128) (h : Half) (data : Word) (s : State) :
    exec (.periodWrite m g h data) s = execPeriodWrite m g h data s := rfl
@[simp] theorem exec_edgesWrite (m : Ident) (g : Fin 128) (j : Fin 16) (h : Half) (data : Word) (s : State) :
    exec (.edgesWrite m g j h data) s = execEdgesWrite m g j h data s := rfl
@[simp] theorem exec_levelWrite (m : Ident) (g : Fin 128) (h : Half) (data : Word) (s : State) :
    exec (.levelWrite m g h data) s = execLevelWrite m g h data s := rfl
@[simp] theorem exec_safeStateWrite (m : Ident) (g : Fin 128) (h : Half) (data : Word) (s : State) :
    exec (.safeStateWrite m g h data) s = execSafeStateWrite m g h data s := rfl
@[simp] theorem exec_vecDataAccess (m : Ident) (g : Fin 128) (h : Half) (data : Option Word) (s : State) :
    exec (.vecDataAccess m g h data) s = execVecDataAccess m g h data s := rfl
@[simp] theorem exec_vectorPlay (g : Fin 128) (balls : List Int) (limits : List (Fin 16)) (s : State) :
    exec (.vectorPlay g balls limits) s = execVectorPlay g balls limits s := rfl
@[simp] theorem exec_reflexHoldEnd (g : Fin 128) (j : Fin 16) (s : State) :
    exec (.reflexHoldEnd g j) s = execReflexHoldEnd g j s := rfl
@[simp] theorem exec_groupAction (g : Fin 128) (a : Action) (s : State) :
    exec (.groupAction g a) s = execGroupAction g a s := rfl
@[simp] theorem exec_companionClaim (c : Fin 2048) (g : Fin 128) (slot : Fin 16) (s : State) :
    exec (.companionClaim c g slot) s = execCompanionClaim c g slot s := rfl
@[simp] theorem exec_companionRelease (c : Fin 2048) (g : Fin 128) (slot : Fin 16) (s : State) :
    exec (.companionRelease c g slot) s = execCompanionRelease c g slot s := rfl
@[simp] theorem exec_companionRefused (g : Fin 128) (slot : Fin 16) (c : Fin 2048) (st : Status) (s : State) :
    exec (.companionRefused g slot c st) s = execCompanionRefused g slot c st s := rfl
@[simp] theorem exec_vectorRunStart (g : Fin 128) (s : State) :
    exec (.vectorRunStart g) s = execVectorRunStart g s := rfl
@[simp] theorem exec_vectorRunEnd (g : Fin 128) (s : State) :
    exec (.vectorRunEnd g) s = execVectorRunEnd g s := rfl
@[simp] theorem exec_streamGo (m : Ident) (g : Fin 128) (h : Half) (data : Word) (s : State) :
    exec (.streamGo m g h data) s = execStreamGo m g h data s := rfl
@[simp] theorem exec_streamStop (m : Ident) (g : Fin 128) (h : Half) (data : Word) (s : State) :
    exec (.streamStop m g h data) s = execStreamStop m g h data s := rfl
@[simp] theorem exec_streamReadResponse (g : Fin 128) (stream : Nat) (st : Status) (ws : List Word) (s : State) :
    exec (.streamReadResponse g stream st ws) s = execStreamReadResponse g stream st ws s := rfl
@[simp] theorem exec_fabricVector (g : Fin 128) (vec : Word) (s : State) :
    exec (.fabricVector g vec) s = execFabricVector g vec s := rfl
@[simp] theorem exec_measureConnect (g : Fin 128) (slot : Fin 16) (s : State) :
    exec (.measureConnect g slot) s = execMeasureConnect g slot s := rfl
@[simp] theorem exec_settleEnd (g : Fin 128) (slot : Fin 16) (loads : List (Nat × Int)) (s : State) :
    exec (.settleEnd g slot loads) s = execSettleEnd g slot loads s := rfl
@[simp] theorem exec_adcQuantityStart (g : Fin 128) (s : State) :
    exec (.adcQuantityStart g) s = execAdcQuantityStart g s := rfl
@[simp] theorem exec_adcConversionEnd (g : Fin 128) (code : BitVec 16) (ovl : Bool) (loads : List (Nat × Int)) (s : State) :
    exec (.adcConversionEnd g code ovl loads) s = execAdcConversionEnd g code ovl loads s := rfl
@[simp] theorem exec_measureRespond (g : Fin 128) (slot : Fin 16) (s : State) :
    exec (.measureRespond g slot) s = execMeasureRespond g slot s := rfl
@[simp] theorem exec_rampCrossing (g : Fin 128) (slot : Fin 16) (stamp : Nat) (loads : List (Nat × Int)) (s : State) :
    exec (.rampCrossing g slot stamp loads) s = execRampCrossing g slot stamp loads s := rfl
@[simp] theorem exec_rampLimit (g : Fin 128) (slot : Fin 16) (loads : List (Nat × Int)) (s : State) :
    exec (.rampLimit g slot loads) s = execRampLimit g slot loads s := rfl
@[simp] theorem exec_rampDischargeEnd (g : Fin 128) (slot : Fin 16) (loads : List (Nat × Int)) (s : State) :
    exec (.rampDischargeEnd g slot loads) s = execRampDischargeEnd g slot loads s := rfl
@[simp] theorem exec_tdrStart (g : Fin 128) (s : State) : exec (.tdrStart g) s = execTdrStart g s := rfl
@[simp] theorem exec_calGroup (p : Packet) (s : State) : exec (.calGroup p) s = execCalGroup p s := rfl
@[simp] theorem exec_calLoad (p : Packet) (s : State) : exec (.calLoad p) s = execCalLoad p s := rfl
@[simp] theorem exec_calStore (p : Packet) (unverified : List Nat) (s : State) :
    exec (.calStore p unverified) s = execCalStore p unverified s := rfl
@[simp] theorem exec_selftestGroup (p : Packet) (s : State) :
    exec (.selftestGroup p) s = execSelftestGroup p s := rfl
@[simp] theorem exec_calReference (p : Packet) (s : State) :
    exec (.calReference p) s = execCalReference p s := rfl
@[simp] theorem exec_calStepEnd (g : Fin 128) (step : CalStep) (s : State) :
    exec (.calStepEnd g step) s = execCalStepEnd g step s := rfl
@[simp] theorem exec_calTimeout (p : Packet) (s : State) : exec (.calTimeout p) s = execCalTimeout p s := rfl
@[simp] theorem exec_railReading (d : Fin 4) (k : Fin 4) (value : BitVec 16) (s : State) :
    exec (.railReading d k value) s = execRailReading d k value s := rfl
@[simp] theorem exec_nop (e : Fin 32) (s : State) : exec (.nop e) s = execNop e s := rfl
@[simp] theorem exec_add (e : Fin 32) (s : State) : exec (.add e) s = execAdd e s := rfl
@[simp] theorem exec_sub (e : Fin 32) (s : State) : exec (.sub e) s = execSub e s := rfl
@[simp] theorem exec_and (e : Fin 32) (s : State) : exec (.and e) s = execAnd e s := rfl
@[simp] theorem exec_or (e : Fin 32) (s : State) : exec (.or e) s = execOr e s := rfl
@[simp] theorem exec_xor (e : Fin 32) (s : State) : exec (.xor e) s = execXor e s := rfl
@[simp] theorem exec_ash (e : Fin 32) (s : State) : exec (.ash e) s = execAsh e s := rfl
@[simp] theorem exec_abs (e : Fin 32) (s : State) : exec (.abs e) s = execAbs e s := rfl
@[simp] theorem exec_cmp (e : Fin 32) (s : State) : exec (.cmp e) s = execCmp e s := rfl
@[simp] theorem exec_addi (e : Fin 32) (s : State) : exec (.addi e) s = execAddi e s := rfl
@[simp] theorem exec_movi (e : Fin 32) (s : State) : exec (.movi e) s = execMovi e s := rfl
@[simp] theorem exec_lui (e : Fin 32) (s : State) : exec (.lui e) s = execLui e s := rfl
@[simp] theorem exec_mpy (e : Fin 32) (s : State) : exec (.mpy e) s = execMpy e s := rfl
@[simp] theorem exec_mac (e : Fin 32) (s : State) : exec (.mac e) s = execMac e s := rfl
@[simp] theorem exec_msu (e : Fin 32) (s : State) : exec (.msu e) s = execMsu e s := rfl
@[simp] theorem exec_rnd (e : Fin 32) (s : State) : exec (.rnd e) s = execRnd e s := rfl
@[simp] theorem exec_mac4s (e : Fin 32) (s : State) : exec (.mac4s e) s = execMac4s e s := rfl
@[simp] theorem exec_mac4v (e : Fin 32) (s : State) : exec (.mac4v e) s = execMac4v e s := rfl
@[simp] theorem exec_ld (e : Fin 32) (s : State) : exec (.ld e) s = execLd e s := rfl
@[simp] theorem exec_st (e : Fin 32) (s : State) : exec (.st e) s = execSt e s := rfl
@[simp] theorem exec_ld2 (e : Fin 32) (s : State) : exec (.ld2 e) s = execLd2 e s := rfl
@[simp] theorem exec_st2 (e : Fin 32) (s : State) : exec (.st2 e) s = execSt2 e s := rfl
@[simp] theorem exec_str (e : Fin 32) (s : State) : exec (.str e) s = execStr e s := rfl
@[simp] theorem exec_modp (e : Fin 32) (s : State) : exec (.modp e) s = execModp e s := rfl
@[simp] theorem exec_br (e : Fin 32) (s : State) : exec (.br e) s = execBr e s := rfl
@[simp] theorem exec_call (e : Fin 32) (s : State) : exec (.call e) s = execCall e s := rfl
@[simp] theorem exec_ret (e : Fin 32) (s : State) : exec (.ret e) s = execRet e s := rfl
@[simp] theorem exec_loop (e : Fin 32) (s : State) : exec (.loop e) s = execLoop e s := rfl
@[simp] theorem exec_loopi (e : Fin 32) (s : State) : exec (.loopi e) s = execLoopi e s := rfl
@[simp] theorem exec_endl (e : Fin 32) (s : State) : exec (.endl e) s = execEndl e s := rfl
@[simp] theorem exec_dma (e : Fin 32) (s : State) : exec (.dma e) s = execDma e s := rfl
@[simp] theorem exec_waitd (e : Fin 32) (s : State) : exec (.waitd e) s = execWaitd e s := rfl
@[simp] theorem exec_movs (e : Fin 32) (s : State) : exec (.movs e) s = execMovs e s := rfl
@[simp] theorem exec_endJob (e : Fin 32) (s : State) : exec (.endJob e) s = execEndJob e s := rfl
@[simp] theorem exec_rti (e : Fin 32) (s : State) : exec (.rti e) s = execRti e s := rfl
@[simp] theorem exec_trap (e : Fin 32) (s : State) : exec (.trap e) s = execTrap e s := rfl
@[simp] theorem exec_sgeAction (e : Fin 32) (a : Action) (s : State) :
    exec (.sgeAction e a) s = execSgeAction e a s := rfl
@[simp] theorem exec_jobLimitExpire (e : Fin 32) (s : State) :
    exec (.jobLimitExpire e) s = execJobLimitExpire e s := rfl
@[simp] theorem exec_dmaResponse (e : Fin 32) (st : Status) (ws : List (BitVec 32)) (s : State) :
    exec (.dmaResponse e st ws) s = execDmaResponse e st ws s := rfl
@[simp] theorem exec_sgeRunWrite (m : Ident) (e : Fin 32) (h : Half) (data : Word) (s : State) :
    exec (.sgeRunWrite m e h data) s = execSgeRunWrite m e h data s := rfl
@[simp] theorem exec_sgeRestart (m : Ident) (e : Fin 32) (h : Half) (data : Word) (s : State) :
    exec (.sgeRestart m e h data) s = execSgeRestart m e h data s := rfl
@[simp] theorem exec_sgeMemDataAccess (m : Ident) (e : Fin 32) (h : Half) (data : Option Word) (s : State) :
    exec (.sgeMemDataAccess m e h data) s = execSgeMemDataAccess m e h data s := rfl
@[simp] theorem exec_portWaitSteal (e : Fin 32) (s : State) :
    exec (.portWaitSteal e) s = execPortWaitSteal e s := rfl
@[simp] theorem exec_fclkWrite (m : Ident) (k : Fin 24) (h : Half) (data : Word) (s : State) :
    exec (.fclkWrite m k h data) s = execFclkWrite m k h data s := rfl
@[simp] theorem exec_uoscEnable (m : Ident) (k : Fin 4) (h : Half) (data : Word) (s : State) :
    exec (.uoscEnable m k h data) s = execUoscEnable m k h data s := rfl
@[simp] theorem exec_uoscDisable (m : Ident) (k : Fin 4) (h : Half) (data : Word) (s : State) :
    exec (.uoscDisable m k h data) s = execUoscDisable m k h data s := rfl
@[simp] theorem exec_uoscReady (k : Fin 4) (s : State) : exec (.uoscReady k) s = execUoscReady k s := rfl
@[simp] theorem exec_uoscMeasure (hz : List Nat) (s : State) :
    exec (.uoscMeasure hz) s = execUoscMeasure hz s := rfl
@[simp] theorem exec_fabricPortRequest (p : Fin 68) (req : NocReq) (s : State) :
    exec (.fabricPortRequest p req) s = execFabricPortRequest p req s := rfl
@[simp] theorem exec_fabricAnswer (p : Fin 68) (ans : FabAnswer) (s : State) :
    exec (.fabricAnswer p ans) s = execFabricAnswer p ans s := rfl
@[simp] theorem exec_portTimeout (p : Fin 68) (src tag : Nat) (s : State) :
    exec (.portTimeout p src tag) s = execPortTimeout p src tag s := rfl
@[simp] theorem exec_nvaDataAccess (m : Ident) (h : Half) (data : Option Word) (s : State) :
    exec (.nvaDataAccess m h data) s = execNvaDataAccess m h data s := rfl
@[simp] theorem exec_nvaWriteDone (s : State) : exec (.nvaWriteDone) s = execNvaWriteDone s := rfl
@[simp] theorem exec_serModeWrite (m : Ident) (n : Fin 16) (h : Half) (data : Word) (s : State) :
    exec (.serModeWrite m n h data) s = execSerModeWrite m n h data s := rfl
@[simp] theorem exec_serModeApply (n : Fin 16) (s : State) :
    exec (.serModeApply n) s = execSerModeApply n s := rfl
@[simp] theorem exec_serTxWrite (m : Ident) (n : Fin 16) (h : Half) (data : Word) (s : State) :
    exec (.serTxWrite m n h data) s = execSerTxWrite m n h data s := rfl
@[simp] theorem exec_serRxRead (m : Ident) (n : Fin 16) (h : Half) (s : State) :
    exec (.serRxRead m n h) s = execSerRxRead m n h s := rfl
@[simp] theorem exec_uartFrameReceive (n : Fin 16) (line : List (Bool × Bool × Bool)) (low : Nat) (s : State) :
    exec (.uartFrameReceive n line low) s = execUartFrameReceive n line low s := rfl
@[simp] theorem exec_uartFrameSend (n : Fin 16) (cts : Bool) (s : State) :
    exec (.uartFrameSend n cts) s = execUartFrameSend n cts s := rfl
@[simp] theorem exec_spiTransfer (n : Fin 16) (input : BitVec 32) (s : State) :
    exec (.spiTransfer n input) s = execSpiTransfer n input s := rfl
@[simp] theorem exec_i2cTransfer (n : Fin 16) (addr sent : Nat) (received : List (BitVec 8)) (last : I2cEnd) (s : State) :
    exec (.i2cTransfer n addr sent received last) s = execI2cTransfer n addr sent received last s := rfl
@[simp] theorem exec_canFrameReceive (n : Fin 16) (header : Word) (age : Nat) (body : List Word) (recessive : Nat) (fault : CanFault) (s : State) :
    exec (.canFrameReceive n header age body recessive fault) s = execCanFrameReceive n header age body recessive fault s := rfl
@[simp] theorem exec_canFrameSend (n : Fin 16) (recessive : Nat) (last : CanEnd) (s : State) :
    exec (.canFrameSend n recessive last) s = execCanFrameSend n recessive last s := rfl
@[simp] theorem exec_cfgLoad (p : Packet) (s : State) : exec (.cfgLoad p) s = execCfgLoad p s := rfl
@[simp] theorem exec_cfgAbort (p : Packet) (s : State) : exec (.cfgAbort p) s = execCfgAbort p s := rfl
@[simp] theorem exec_cfgStart (p : Packet) (s : State) : exec (.cfgStart p) s = execCfgStart p s := rfl
@[simp] theorem exec_cfgReadback (p : Packet) (failAt : Option Nat) (s : State) :
    exec (.cfgReadback p failAt) s = execCfgReadback p failAt s := rfl
@[simp] theorem exec_fuseRollback (p : Packet) (s : State) :
    exec (.fuseRollback p) s = execFuseRollback p s := rfl
@[simp] theorem exec_fuseProgram (p : Packet) (s : State) : exec (.fuseProgram p) s = execFuseProgram p s := rfl
@[simp] theorem exec_configHeader (st : Status) (ws : List Word) (s : State) :
    exec (.configHeader st ws) s = execConfigHeader st ws s := rfl
@[simp] theorem exec_configRecord (st : Status) (ws : List Word) (s : State) :
    exec (.configRecord st ws) s = execConfigRecord st ws s := rfl
@[simp] theorem exec_configTrailer (st : Status) (ws : List Word) (s : State) :
    exec (.configTrailer st ws) s = execConfigTrailer st ws s := rfl
@[simp] theorem exec_authenticated (s : State) : exec (.authenticated) s = execAuthenticated s := rfl
@[simp] theorem exec_starvationExpire (s : State) : exec (.starvationExpire) s = execStarvationExpire s := rfl
@[simp] theorem exec_cfgPushWrite (m : Ident) (h : Half) (data : Word) (s : State) :
    exec (.cfgPushWrite m h data) s = execCfgPushWrite m h data s := rfl
@[simp] theorem exec_doneNRise (s : State) : exec (.doneNRise) s = execDoneNRise s := rfl
@[simp] theorem exec_doneFilterMet (s : State) : exec (.doneFilterMet) s = execDoneFilterMet s := rfl
@[simp] theorem exec_readyFrame (p : Fin 4) (f : BrFrame) (s : State) :
    exec (.readyFrame p f) s = execReadyFrame p f s := rfl
@[simp] theorem exec_startFrame (p : Fin 4) (f : BrFrame) (s : State) :
    exec (.startFrame p f) s = execStartFrame p f s := rfl
@[simp] theorem exec_regionClear (p : Packet) (s : State) : exec (.regionClear p) s = execRegionClear p s := rfl
@[simp] theorem exec_regionDamper (p : Packet) (s : State) :
    exec (.regionDamper p) s = execRegionDamper p s := rfl
@[simp] theorem exec_swpSource (p : Packet) (st : Status) (copy : List Word) (s : State) :
    exec (.swpSource p st copy) s = execSwpSource p st copy s := rfl
@[simp] theorem exec_regionDrainDone (t : Fin 65) (s : State) :
    exec (.regionDrainDone t) s = execRegionDrainDone t s := rfl
@[simp] theorem exec_drainLimitExpire (t : Fin 65) (s : State) :
    exec (.drainLimitExpire t) s = execDrainLimitExpire t s := rfl
@[simp] theorem exec_clockLinesGated (t : Fin 65) (s : State) :
    exec (.clockLinesGated t) s = execClockLinesGated t s := rfl
@[simp] theorem exec_sigSweepFrame (s : State) : exec (.sigSweepFrame) s = execSigSweepFrame s := rfl
@[simp] theorem exec_repairReadResponse (st : Status) (header ws readback : List Word) (s : State) :
    exec (.repairReadResponse st header ws readback) s = execRepairReadResponse st header ws readback s := rfl
@[simp] theorem exec_memorySweepRead (k : Fin 8) (unit : Nat) (s : State) :
    exec (.memorySweepRead k unit) s = execMemorySweepRead k unit s := rfl
@[simp] theorem exec_mendedWriteBack (s : State) : exec (.mendedWriteBack) s = execMendedWriteBack s := rfl
@[simp] theorem exec_sweepEnableWrite (m : Ident) (k : Fin 8) (h : Half) (data : Word) (s : State) :
    exec (.sweepEnableWrite m k h data) s = execSweepEnableWrite m k h data s := rfl
@[simp] theorem exec_bankAccess (a b : Option BankReq) (s : State) :
    exec (.bankAccess a b) s = execBankAccess a b s := rfl
@[simp] theorem exec_bankOwnerWrite (m : Ident) (b : Fin 256) (h : Half) (data : Word) (s : State) :
    exec (.bankOwnerWrite m b h data) s = execBankOwnerWrite m b h data s := rfl
@[simp] theorem exec_bankClearEnd (b : Fin 256) (s : State) :
    exec (.bankClearEnd b) s = execBankClearEnd b s := rfl
@[simp] theorem exec_bankWindowWrite (m : Ident) (b : Fin 256) (j : Fin 16) (h : Half) (data : Word) (s : State) :
    exec (.bankWindowWrite m b j h data) s = execBankWindowWrite m b j h data s := rfl
@[simp] theorem exec_nocInject (e : Fin 320) (req : NocReq) (s : State) :
    exec (.nocInject e req) s = execNocInject e req s := rfl
@[simp] theorem exec_nocEject (k : Nat) (s : State) : exec (.nocEject k) s = execNocEject k s := rfl
@[simp] theorem exec_routerForward (k : Nat) (s : State) :
    exec (.routerForward k) s = execRouterForward k s := rfl
@[simp] theorem exec_linkReplay (l : Fin 320) (flit : LinkFlit) (same : Bool) (s : State) :
    exec (.linkReplay l flit same) s = execLinkReplay l flit same s := rfl
@[simp] theorem exec_epochSwitch (m : Ident) (h : Half) (data : Word) (s : State) :
    exec (.epochSwitch m h data) s = execEpochSwitch m h data s := rfl
@[simp] theorem exec_loadXy (m : Ident) (h : Half) (data : Word) (s : State) :
    exec (.loadXy m h data) s = execLoadXy m h data s := rfl
@[simp] theorem exec_routeTableWrite (m : Ident) (h : Half) (data : Word) (s : State) :
    exec (.routeTableWrite m h data) s = execRouteTableWrite m h data s := rfl
@[simp] theorem exec_endpointDrainDone (e : Fin 320) (s : State) :
    exec (.endpointDrainDone e) s = execEndpointDrainDone e s := rfl
@[simp] theorem exec_dramStart (p : Packet) (good : Bool) (s : State) :
    exec (.dramStart p good) s = execDramStart p good s := rfl
@[simp] theorem exec_dramStop (p : Packet) (s : State) : exec (.dramStop p) s = execDramStop p s := rfl
@[simp] theorem exec_delaySweep (p : Packet) (found : SweepResult) (s : State) :
    exec (.delaySweep p found) s = execDelaySweep p found s := rfl
@[simp] theorem exec_dramTableSave (p : Packet) (verified : Bool) (s : State) :
    exec (.dramTableSave p verified) s = execDramTableSave p verified s := rfl
@[simp] theorem exec_dramRequest (c : Fin 4) (req : DramReq) (s : State) :
    exec (.dramRequest c req) s = execDramRequest c req s := rfl
@[simp] theorem exec_dramReadData (c : Fin 4) (burst : Nat) (data : List Word) (check : BitVec 128) (s : State) :
    exec (.dramReadData c burst data check) s = execDramReadData c burst data check s := rfl
@[simp] theorem exec_refreshAccrue (c : Fin 4) (s : State) :
    exec (.refreshAccrue c) s = execRefreshAccrue c s := rfl
@[simp] theorem exec_refreshSlot (c : Fin 4) (s : State) : exec (.refreshSlot c) s = execRefreshSlot c s := rfl
@[simp] theorem exec_mr4Poll (c : Fin 4) (ranges : List Nat) (rfm : Bool) (s : State) :
    exec (.mr4Poll c ranges rfm) s = execMr4Poll c ranges rfm s := rfl
@[simp] theorem exec_refreshWindowEnd (c : Fin 4) (s : State) :
    exec (.refreshWindowEnd c) s = execRefreshWindowEnd c s := rfl
@[simp] theorem exec_alertAssert (c : Fin 4) (s : State) : exec (.alertAssert c) s = execAlertAssert c s := rfl
@[simp] theorem exec_alertReplay (c : Fin 4) (s : State) : exec (.alertReplay c) s = execAlertReplay c s := rfl
@[simp] theorem exec_retryBufferRelease (c : Fin 4) (s : State) :
    exec (.retryBufferRelease c) s = execRetryBufferRelease c s := rfl
@[simp] theorem exec_imapWrite (m : Ident) (h : Half) (data : Word) (s : State) :
    exec (.imapWrite m h data) s = execImapWrite m h data s := rfl
@[simp] theorem exec_laneBitLock (n : Fin 96) (lossDb : Nat) (s : State) :
    exec (.laneBitLock n lossDb) s = execLaneBitLock n lossDb s := rfl
@[simp] theorem exec_laneRestart (m : Ident) (n : Fin 96) (h : Half) (data : Word) (s : State) :
    exec (.laneRestart m n h data) s = execLaneRestart m n h data s := rfl
@[simp] theorem exec_checkerLock (n : Fin 96) (seen : Word) (s : State) :
    exec (.checkerLock n seen) s = execCheckerLock n seen s := rfl
@[simp] theorem exec_checkerLockLoss (n : Fin 96) (seen : List Bool) (s : State) :
    exec (.checkerLockLoss n seen) s = execCheckerLockLoss n seen s := rfl
@[simp] theorem exec_patternWrite (m : Ident) (n : Fin 96) (h : Half) (data : Word) (s : State) :
    exec (.patternWrite m n h data) s = execPatternWrite m n h data s := rfl
@[simp] theorem exec_injSingle (m : Ident) (n : Fin 96) (h : Half) (data : Word) (s : State) :
    exec (.injSingle m n h data) s = execInjSingle m n h data s := rfl
@[simp] theorem exec_injBurst (m : Ident) (n : Fin 96) (h : Half) (data : Word) (s : State) :
    exec (.injBurst m n h data) s = execInjBurst m n h data s := rfl
@[simp] theorem exec_injectionRepeat (n : Fin 96) (s : State) :
    exec (.injectionRepeat n) s = execInjectionRepeat n s := rfl
@[simp] theorem exec_receiverDetect (l : LinkId) (found : Bool) (s : State) :
    exec (.receiverDetect l found) s = execReceiverDetect l found s := rfl
@[simp] theorem exec_linkStageEnd (l : LinkId) (lanes : Nat) (s : State) :
    exec (.linkStageEnd l lanes) s = execLinkStageEnd l lanes s := rfl
@[simp] theorem exec_linkStageTimeout (l : LinkId) (s : State) :
    exec (.linkStageTimeout l) s = execLinkStageTimeout l s := rfl
@[simp] theorem exec_cap (p : Fin 4) (c : CapBlock) (s : State) : exec (.cap p c) s = execCap p c s := rfl
@[simp] theorem exec_dlyReq (p : Fin 4) (num turnPs : Nat) (s : State) :
    exec (.dlyReq p num turnPs) s = execDlyReq p num turnPs s := rfl
@[simp] theorem exec_dlyRsp (p : Fin 4) (num rttPs turnPs : Nat) (s : State) :
    exec (.dlyRsp p num rttPs turnPs) s = execDlyRsp p num rttPs turnPs s := rfl
@[simp] theorem exec_hostMemoryRequest (r : HostReq) (s : State) :
    exec (.hostMemoryRequest r) s = execHostMemoryRequest r s := rfl
@[simp] theorem exec_hostConfigRequest (f : Fin 4) (tag dword : Nat) (put : Option ConfigSet) (s : State) :
    exec (.hostConfigRequest f tag dword put) s = execHostConfigRequest f tag dword put s := rfl
@[simp] theorem exec_hostLinkDown (s : State) : exec (.hostLinkDown) s = execHostLinkDown s := rfl
@[simp] theorem exec_functionLevelReset (f : Fin 4) (s : State) :
    exec (.functionLevelReset f) s = execFunctionLevelReset f s := rfl
@[simp] theorem exec_l1Entry (s : State) : exec (.l1Entry) s = execL1Entry s := rfl
@[simp] theorem exec_align (p : Fin 4) (s : State) : exec (.align p) s = execAlign p s := rfl
@[simp] theorem exec_alignSend (p : Fin 4) (s : State) : exec (.alignSend p) s = execAlignSend p s := rfl
@[simp] theorem exec_ack (p : Fin 4) (seq : Nat) (s : State) : exec (.ack p seq) s = execAck p seq s := rfl
@[simp] theorem exec_nak (p : Fin 4) (seq : Nat) (s : State) : exec (.nak p seq) s = execNak p seq s := rfl
@[simp] theorem exec_ackSend (p : Fin 4) (s : State) : exec (.ackSend p) s = execAckSend p s := rfl
@[simp] theorem exec_cred (p : Fin 4) (blocks : List Nat) (s : State) :
    exec (.cred p blocks) s = execCred p blocks s := rfl
@[simp] theorem exec_tick (p : Fin 4) (low8 : Nat) (sincePs : Int) (s : State) :
    exec (.tick p low8 sincePs) s = execTick p low8 sincePs s := rfl
@[simp] theorem exec_readFrame (p : Fin 4) (f : BrFrame) (s : State) :
    exec (.readFrame p f) s = execReadFrame p f s := rfl
@[simp] theorem exec_writeFrame (p : Fin 4) (f : BrFrame) (s : State) :
    exec (.writeFrame p f) s = execWriteFrame p f s := rfl
@[simp] theorem exec_responseFrame (p : Fin 4) (f : BrFrame) (s : State) :
    exec (.responseFrame p f) s = execResponseFrame p f s := rfl
@[simp] theorem exec_enumFrame (p : Fin 4) (f : BrFrame) (s : State) :
    exec (.enumFrame p f) s = execEnumFrame p f s := rfl
@[simp] theorem exec_enumTableFrame (p : Fin 4) (f : BrFrame) (s : State) :
    exec (.enumTableFrame p f) s = execEnumTableFrame p f s := rfl
@[simp] theorem exec_streamFrame (p : Fin 4) (f : BrFrame) (s : State) :
    exec (.streamFrame p f) s = execStreamFrame p f s := rfl
@[simp] theorem exec_brociaLinkDown (p : Fin 4) (s : State) :
    exec (.brociaLinkDown p) s = execBrociaLinkDown p s := rfl
@[simp] theorem exec_ringEnum (p : Packet) (s : State) : exec (.ringEnum p) s = execRingEnum p s := rfl
@[simp] theorem exec_enumTimeout (ring : Fin 2) (reached : Nat) (s : State) :
    exec (.enumTimeout ring reached) s = execEnumTimeout ring reached s := rfl
@[simp] theorem exec_ringCopy (p : Packet) (s : State) : exec (.ringCopy p) s = execRingCopy p s := rfl
@[simp] theorem exec_linkRetrain (p : Packet) (s : State) : exec (.linkRetrain p) s = execLinkRetrain p s := rfl
@[simp] theorem exec_retrainTimeout (p : Fin 4) (s : State) :
    exec (.retrainTimeout p) s = execRetrainTimeout p s := rfl
@[simp] theorem exec_raccDataAccess (m : Ident) (h : Half) (data : Option Word) (s : State) :
    exec (.raccDataAccess m h data) s = execRaccDataAccess m h data s := rfl
@[simp] theorem exec_remoteAccessTimeout (tag : Nat) (s : State) :
    exec (.remoteAccessTimeout tag) s = execRemoteAccessTimeout tag s := rfl
@[simp] theorem exec_devidWrite (m : Ident) (h : Half) (data : Word) (s : State) :
    exec (.devidWrite m h data) s = execDevidWrite m h data s := rfl
@[simp] theorem exec_commandPortWrite (m : Ident) (off size : Nat) (ws : List Word) (s : State) :
    exec (.commandPortWrite m off size ws) s = execCommandPortWrite m off size ws s := rfl
@[simp] theorem exec_commandSubmit (m : Ident) (h : Half) (header : Word) (s : State) :
    exec (.commandSubmit m h header) s = execCommandSubmit m h header s := rfl
@[simp] theorem exec_replyPop (m : Ident) (h : Half) (data : Word) (s : State) :
    exec (.replyPop m h data) s = execReplyPop m h data s := rfl
@[simp] theorem exec_replyInWrite (m : Ident) (header : Word) (ws : List Word) (s : State) :
    exec (.replyInWrite m header ws) s = execReplyInWrite m header ws s := rfl
@[simp] theorem exec_domainSet (p : Packet) (s : State) : exec (.domainSet p) s = execDomainSet p s := rfl
@[simp] theorem exec_domainRead (p : Packet) (s : State) : exec (.domainRead p) s = execDomainRead p s := rfl
@[simp] theorem exec_echo (p : Packet) (s : State) : exec (.echo p) s = execEcho p s := rfl
@[simp] theorem exec_ownershipClaim (readers : List Ident) (s : State) :
    exec (.ownershipClaim readers) s = execOwnershipClaim readers s := rfl
@[simp] theorem exec_handoverOffer (m : Ident) (h : Half) (data : Word) (s : State) :
    exec (.handoverOffer m h data) s = execHandoverOffer m h data s := rfl
@[simp] theorem exec_ownerRelease (m : Ident) (h : Half) (data : Word) (s : State) :
    exec (.ownerRelease m h data) s = execOwnerRelease m h data s := rfl
@[simp] theorem exec_handoverExpire (s : State) : exec (.handoverExpire) s = execHandoverExpire s := rfl
@[simp] theorem exec_leaseExpire (s : State) : exec (.leaseExpire) s = execLeaseExpire s := rfl
@[simp] theorem exec_mailboxSend (m : Ident) (mb : Fin 256) (first : Nat) (ws : List Word) (s : State) :
    exec (.mailboxSend m mb first ws) s = execMailboxSend m mb first ws s := rfl
@[simp] theorem exec_mbxSend (m : Ident) (h : Half) (data : Word) (s : State) :
    exec (.mbxSend m h data) s = execMbxSend m h data s := rfl
@[simp] theorem exec_mailboxTake (m : Ident) (mb : Fin 256) (h : Half) (data : Word) (s : State) :
    exec (.mailboxTake m mb h data) s = execMailboxTake m mb h data s := rfl
@[simp] theorem exec_pwrState (p : Packet) (s : State) : exec (.pwrState p) s = execPwrState p s := rfl
@[simp] theorem exec_clkRefSelect (p : Packet) (s : State) :
    exec (.clkRefSelect p) s = execClkRefSelect p s := rfl
@[simp] theorem exec_powerStepEnd (s : State) : exec (.powerStepEnd) s = execPowerStepEnd s := rfl
@[simp] theorem exec_coldDelayExpire (s : State) : exec (.coldDelayExpire) s = execColdDelayExpire s := rfl
@[simp] theorem exec_avsReadback (mv : Option Nat) (s : State) :
    exec (.avsReadback mv) s = execAvsReadback mv s := rfl
@[simp] theorem exec_avsTimeout (s : State) : exec (.avsTimeout) s = execAvsTimeout s := rfl
@[simp] theorem exec_aonPowerOn (s : State) : exec (.aonPowerOn) s = execAonPowerOn s := rfl
@[simp] theorem exec_coreEnHigh (s : State) : exec (.coreEnHigh) s = execCoreEnHigh s := rfl
@[simp] theorem exec_powerOn (safeKeep : Bool) (s : State) :
    exec (.powerOn safeKeep) s = execPowerOn safeKeep s := rfl
@[simp] theorem exec_pwrOkFall (s : State) : exec (.pwrOkFall) s = execPwrOkFall s := rfl
@[simp] theorem exec_kindlingReady (bootSrc : Fin 4) (refSel safeKeep : Bool) (s : State) :
    exec (.kindlingReady bootSrc refSel safeKeep) s = execKindlingReady bootSrc refSel safeKeep s := rfl
@[simp] theorem exec_referenceQualified (s : State) :
    exec (.referenceQualified) s = execReferenceQualified s := rfl
@[simp] theorem exec_rootLock (aon : Nat) (s : State) : exec (.rootLock aon) s = execRootLock aon s := rfl
@[simp] theorem exec_hearthInitDone (dram : List Bool) (s : State) :
    exec (.hearthInitDone dram) s = execHearthInitDone dram s := rfl
@[simp] theorem exec_clockMonitorTrip (lockLost : Bool) (s : State) :
    exec (.clockMonitorTrip lockLost) s = execClockMonitorTrip lockLost s := rfl
@[simp] theorem exec_pullInDone (aon : Nat) (s : State) : exec (.pullInDone aon) s = execPullInDone aon s := rfl
@[simp] theorem exec_freeze (s : State) : exec (.freeze) s = execFreeze s := rfl
@[simp] theorem exec_slewDone (s : State) : exec (.slewDone) s = execSlewDone s := rfl
@[simp] theorem exec_wakePin (n : Fin 4) (s : State) : exec (.wakePin n) s = execWakePin n s := rfl
@[simp] theorem exec_wakeReqWrite (m : Ident) (h : Half) (data : Word) (s : State) :
    exec (.wakeReqWrite m h data) s = execWakeReqWrite m h data s := rfl
@[simp] theorem exec_ringEnergyWake (s : State) : exec (.ringEnergyWake) s = execRingEnergyWake s := rfl
@[simp] theorem exec_perstRise (s : State) : exec (.perstRise) s = execPerstRise s := rfl
@[simp] theorem exec_faultRecord (s : State) : exec (.faultRecord) s = execFaultRecord s := rfl
@[simp] theorem exec_faultReaction (s : State) : exec (.faultReaction) s = execFaultReaction s := rfl
@[simp] theorem exec_journalWrite (s : State) : exec (.journalWrite) s = execJournalWrite s := rfl
@[simp] theorem exec_journalScan (s : State) : exec (.journalScan) s = execJournalScan s := rfl
@[simp] theorem exec_journalRead (p : Packet) (s : State) : exec (.journalRead p) s = execJournalRead p s := rfl
@[simp] theorem exec_haltRelease (m : Ident) (h : Half) (data : Word) (s : State) :
    exec (.haltRelease m h data) s = execHaltRelease m h data s := rfl
@[simp] theorem exec_fltRaiseWrite (m : Ident) (h : Half) (data : Word) (s : State) :
    exec (.fltRaiseWrite m h data) s = execFltRaiseWrite m h data s := rfl
@[simp] theorem exec_firstCaptureRearm (m : Ident) (h : Half) (data : Word) (s : State) :
    exec (.firstCaptureRearm m h data) s = execFirstCaptureRearm m h data s := rfl
@[simp] theorem exec_historyRead (m : Ident) (k : Fin 32) (h : Half) (s : State) :
    exec (.historyRead m k h) s = execHistoryRead m k h s := rfl
@[simp] theorem exec_heartbeat (s : State) : exec (.heartbeat) s = execHeartbeat s := rfl
@[simp] theorem exec_hbLost (s : State) : exec (.hbLost) s = execHbLost s := rfl
@[simp] theorem exec_tickLost (s : State) : exec (.tickLost) s = execTickLost s := rfl
@[simp] theorem exec_emberFreqWrite (m : Ident) (h : Half) (data : Word) (s : State) :
    exec (.emberFreqWrite m h data) s = execEmberFreqWrite m h data s := rfl
@[simp] theorem exec_ptmResponse (hostNs : Word) (ago : Nat) (s : State) :
    exec (.ptmResponse hostNs ago) s = execPtmResponse hostNs ago s := rfl
@[simp] theorem exec_endpointResponse (dst : RespTo) (tag : Nat) (st : Status) (data : List Word) (poison : Bool) (s : State) :
    exec (.endpointResponse dst tag st data poison) s = execEndpointResponse dst tag st data poison s := rfl
@[simp] theorem exec_companionGrant (g : Fin 128) (slot : Fin 16) (c : Fin 2048) (s : State) :
    exec (.companionGrant g slot c) s = execCompanionGrant g slot c s := rfl
@[simp] theorem exec_companionResult (g : Fin 128) (slot : Fin 16) (idx : Fin 3) (sum : Int) (count : Nat) (gain16 : Bool) (s : State) :
    exec (.companionResult g slot idx sum count gain16) s = execCompanionResult g slot idx sum count gain16 s := rfl
@[simp] theorem exec_userLaneWord (n : Fin 64) (tx rx : Option (BitVec 128 × Nat)) (s : State) :
    exec (.userLaneWord n tx rx) s = execUserLaneWord n tx rx s := rfl
@[simp] theorem exec_emberEdge (s : State) : exec (.emberEdge) s = execEmberEdge s := rfl
@[simp] theorem exec_bankedJobCutoff (s : State) : exec (.bankedJobCutoff) s = execBankedJobCutoff s := rfl
@[simp] theorem exec_refQualifyTimeout (s : State) : exec (.refQualifyTimeout) s = execRefQualifyTimeout s := rfl
@[simp] theorem exec_authenticationFailed (s : State) :
    exec (.authenticationFailed) s = execAuthenticationFailed s := rfl
@[simp] theorem exec_doneNFall (s : State) : exec (.doneNFall) s = execDoneNFall s := rfl
@[simp] theorem exec_hostLinkUp (speed width : Nat) (s : State) :
    exec (.hostLinkUp speed width) s = execHostLinkUp speed width s := rfl
@[simp] theorem exec_syncErrBlock (p : Fin 4) (sync : BitVec 2) (line : BitVec 58) (raw : Word) (s : State) :
    exec (.syncErrBlock p sync line raw) s = execSyncErrBlock p sync line raw s := rfl
@[simp] theorem exec_frameCheckFail (p : Fin 4) (x : SeenFrame) (s : State) :
    exec (.frameCheckFail p x) s = execFrameCheckFail p x s := rfl
@[simp] theorem exec_vmemTestEnd (g : Fin 128) (pattern : Bool) (ok : Bool) (s : State) :
    exec (.vmemTestEnd g pattern ok) s = execVmemTestEnd g pattern ok s := rfl

end Sys2Proof.Machine
end

