-- ==== Sys2Proof/Laws/Bits.lean ====
section
/-! SUPPORT. The laws of bit fields: a field read after it is written, and the fields a write leaves alone. -/

namespace Sys2Proof.Machine

/-- Bit `i` of a field. -/
theorem bits_testBit {n : Nat} (v : BitVec n) (lo w i : Nat) :
    (bits v lo w).testBit i = (decide (i < w) && v.getLsbD (lo + i)) := by
  unfold bits
  rw [Nat.testBit_mod_two_pow]
  congr 1
  rw [BitVec.testBit_toNat, BitVec.getLsbD_ushiftRight]

/-- Bit `i` of a field mask. -/
theorem fieldMask_getLsbD (lo w i : Nat) :
    (fieldMask lo w).getLsbD i = (decide (i < 64) && decide (lo ≤ i) && decide (i < lo + w)) := by
  unfold fieldMask
  rw [BitVec.getLsbD_shiftLeft, BitVec.getLsbD_ofNat, Nat.testBit_two_pow_sub_one]
  by_cases h1 : i < 64
  · by_cases h2 : lo ≤ i
    · by_cases h3 : i < lo + w
      · have : i - lo < w := by omega
        have : i - lo < 64 := by omega
        simp [*]
      · have : ¬ i - lo < w := by omega
        simp [*]
    · have : i < lo := by omega
      simp [*]
  · simp [h1]

/-- Bit `i` of a word with a field replaced. -/
theorem setBits_getLsbD (v : Word) (lo w x i : Nat) (h : lo + w ≤ 64) :
    (setBits v lo w x).getLsbD i = if lo ≤ i ∧ i < lo + w then x.testBit (i - lo) else v.getLsbD i := by
  unfold setBits
  rw [BitVec.getLsbD_or, BitVec.getLsbD_and, BitVec.getLsbD_not, fieldMask_getLsbD, BitVec.getLsbD_shiftLeft,
    BitVec.getLsbD_ofNat, Nat.testBit_mod_two_pow]
  by_cases h1 : i < 64
  · by_cases h2 : lo ≤ i
    · by_cases h3 : i < lo + w
      · have : i - lo < 64 := by omega
        have : i - lo < w := by omega
        simp [*]
      · have : ¬ i - lo < w := by omega
        simp [*]
    · have : i < lo := by omega
      simp [*]
  · have h2 : ¬ (lo ≤ i ∧ i < lo + w) := by omega
    have h3 : v.getLsbD i = false := BitVec.getLsbD_of_ge v i (by omega)
    simp [h1, h2, h3]

/-- A field reads as it was written, modulo its width. -/
theorem bits_setBits_same (v : Word) (lo w x : Nat) (h : lo + w ≤ 64) : bits (setBits v lo w x) lo w = x % 2 ^ w := by
  apply Nat.eq_of_testBit_eq
  intro i
  rw [bits_testBit, setBits_getLsbD _ _ _ _ _ h, Nat.testBit_mod_two_pow]
  by_cases hi : i < w <;> simp [hi]

/-- A write of a field leaves a field apart from it alone. -/
theorem bits_setBits_other (v : Word) (lo w x lo' w' : Nat) (h : lo + w ≤ 64) (hd : lo' + w' ≤ lo ∨ lo + w ≤ lo') :
    bits (setBits v lo w x) lo' w' = bits v lo' w' := by
  apply Nat.eq_of_testBit_eq
  intro i
  rw [bits_testBit, bits_testBit, setBits_getLsbD _ _ _ _ _ h]
  by_cases hi : i < w'
  · have : ¬ (lo ≤ lo' + i ∧ lo' + i < lo + w) := by omega
    simp [hi, this]
  · simp [hi]

/-- A field is below its width's power of two. -/
theorem bits_lt {n : Nat} (v : BitVec n) (lo w : Nat) : bits v lo w < 2 ^ w := Nat.mod_lt _ (Nat.two_pow_pos w)

/-- Writing a field twice is writing it once. -/
theorem setBits_twice (v : Word) (lo w x y : Nat) (h : lo + w ≤ 64) :
    setBits (setBits v lo w x) lo w y = setBits v lo w y := by
  apply BitVec.eq_of_getLsbD_eq
  intro i hi
  rw [setBits_getLsbD _ _ _ _ _ h, setBits_getLsbD _ _ _ _ _ h, setBits_getLsbD _ _ _ _ _ h]
  split <;> simp_all

/-- Entry `k` of a list whose entry `i` was changed. -/
theorem nth_modNth {α : Type} (d : α) (f : α → α) : ∀ (l : List α) (i k : Nat),
    nth d (modNth l i f) k = if k = i ∧ i < l.length then f (nth d l k) else nth d l k
  | [], i, k => by simp [modNth, nth]
  | a :: r, 0, 0 => by simp [modNth, nth]
  | a :: r, 0, k + 1 => by simp [modNth, nth]
  | a :: r, i + 1, 0 => by simp [modNth, nth]
  | a :: r, i + 1, k + 1 => by
    have h := nth_modNth d f r i k
    simp only [nth, List.getD_cons_succ, modNth, List.length_cons, Nat.add_right_cancel_iff, Nat.add_lt_add_iff_right] at h ⊢
    exact h

end Sys2Proof.Machine
end

