-- ==== Sys2Proof/Laws/Memory.lean ====
section
/-! SUPPORT. The laws of sparse memories: a read after a write, and the canonical form that every operation keeps. -/

namespace Sys2Proof.Machine

variable {α : Type} {d : Nat → α}

/-- What dropping an address does to the first entry. -/
theorem Memory.drop_cons (k a : Nat) (v : α) (r : List (Nat × α)) :
    Memory.drop k ((a, v) :: r) = if a = k then Memory.drop k r else (a, v) :: Memory.drop k r := by
  unfold Memory.drop
  by_cases h : a = k <;> simp [h]

/-- A dropped address reads as an unlisted one. -/
theorem Memory.get_drop_same (k : Nat) : ∀ m : List (Nat × α), Memory.get d (Memory.drop k m) k = d k
  | [] => rfl
  | (a, v) :: r => by
    rw [Memory.drop_cons]
    split
    · exact Memory.get_drop_same k r
    · next h => simp [Memory.get, h, Memory.get_drop_same k r]

/-- Dropping an address leaves every other address alone. -/
theorem Memory.get_drop_other {k j : Nat} (h : j ≠ k) : ∀ m : List (Nat × α),
    Memory.get d (Memory.drop k m) j = Memory.get d m j
  | [] => rfl
  | (a, v) :: r => by
    rw [Memory.drop_cons]
    split
    · next hk =>
      subst hk
      simp [Memory.get, Ne.symm h, Memory.get_drop_other h r]
    · simp [Memory.get, Memory.get_drop_other h r]

variable [DecidableEq α]

/-- An entry put in front of a list without its address reads as its value. -/
theorem Memory.get_entry_same (k : Nat) (v : α) (m : List (Nat × α)) :
    Memory.get d (Memory.entry d k v (Memory.drop k m)) k = v := by
  unfold Memory.entry
  split
  · next h => rw [Memory.get_drop_same, h]
  · simp [Memory.get]

/-- An entry leaves every other address alone. -/
theorem Memory.get_entry_other {k j : Nat} (v : α) (h : j ≠ k) (m : List (Nat × α)) :
    Memory.get d (Memory.entry d k v m) j = Memory.get d m j := by
  unfold Memory.entry
  split
  · rfl
  · simp [Memory.get, Ne.symm h]

/-- A read of the address just written gives the value written. -/
@[simp] theorem Memory.get_set_same (k : Nat) (v : α) : ∀ m : List (Nat × α),
    Memory.get d (Memory.set d m k v) k = v
  | [] => Memory.get_entry_same k v []
  | (a, w) :: r => by
    unfold Memory.set
    split
    · exact Memory.get_entry_same k v _
    · next h =>
      have hne : a ≠ k := by omega
      simp [Memory.get, hne, Memory.get_set_same k v r]

/-- A write leaves every other address alone. -/
theorem Memory.get_set_other {k j : Nat} (v : α) (h : j ≠ k) : ∀ m : List (Nat × α),
    Memory.get d (Memory.set d m k v) j = Memory.get d m j
  | [] => Memory.get_entry_other v h []
  | (a, w) :: r => by
    unfold Memory.set
    split
    · rw [Memory.get_entry_other v h, Memory.get_drop_other h]
    · simp [Memory.get, Memory.get_set_other v h r]

/-- The canonical form above a bound is the canonical form above any lower bound. -/
theorem Memory.wfAbove_mono : ∀ {m : List (Nat × α)} {lo lo' : Nat}, lo' ≤ lo → Memory.wfAbove d lo m = true →
    Memory.wfAbove d lo' m = true
  | [], _, _, _, _ => rfl
  | (a, v) :: r, lo, lo', hle, h => by
    simp only [Memory.wfAbove, Bool.and_eq_true, decide_eq_true_eq] at h ⊢
    exact ⟨⟨by omega, h.1.2⟩, h.2⟩

/-- Dropping entries keeps the canonical form above a bound. -/
theorem Memory.filter_wfAbove (p : Nat × α → Bool) : ∀ {m : List (Nat × α)} {lo : Nat}, Memory.wfAbove d lo m = true →
    Memory.wfAbove d lo (m.filter p) = true
  | [], _, _ => rfl
  | (a, v) :: r, lo, h => by
    simp only [Memory.wfAbove, Bool.and_eq_true, decide_eq_true_eq] at h
    rw [List.filter_cons]
    split
    · simp only [Memory.wfAbove, Bool.and_eq_true, decide_eq_true_eq]
      exact ⟨h.1, Memory.filter_wfAbove p h.2⟩
    · exact Memory.wfAbove_mono (by omega) (Memory.filter_wfAbove p h.2)

/-- Dropping an address that the list does not go below moves the bound past it. -/
theorem Memory.drop_wfAbove {k : Nat} : ∀ {m : List (Nat × α)}, Memory.wfAbove d k m = true →
    Memory.wfAbove d (k + 1) (Memory.drop k m) = true
  | [], _ => rfl
  | (a, v) :: r, h => by
    simp only [Memory.wfAbove, Bool.and_eq_true, decide_eq_true_eq] at h
    unfold Memory.drop
    rw [List.filter_cons]
    split
    · next hk =>
      simp only [decide_eq_true_eq] at hk
      simp only [Memory.wfAbove, Bool.and_eq_true, decide_eq_true_eq]
      exact ⟨⟨by omega, h.1.2⟩, Memory.filter_wfAbove _ h.2⟩
    · next hk =>
      simp only [decide_eq_true_eq, not_not] at hk
      subst hk
      exact Memory.filter_wfAbove _ h.2

/-- A write keeps the canonical form above a bound. -/
theorem Memory.set_wfAbove : ∀ {m : List (Nat × α)} {lo k : Nat} {v : α}, lo ≤ k → Memory.wfAbove d lo m = true →
    Memory.wfAbove d lo (Memory.set d m k v) = true
  | [], lo, k, v, hlo, _ => by
    unfold Memory.set Memory.entry
    split
    · rfl
    · next h => simp [Memory.wfAbove, hlo, h]
  | (a, w) :: r, lo, k, v, hlo, h => by
    have h' := h
    simp only [Memory.wfAbove, Bool.and_eq_true, decide_eq_true_eq] at h
    unfold Memory.set
    split
    · next hk =>
      have hw : Memory.wfAbove d k ((a, w) :: r) = true := by
        simp only [Memory.wfAbove, Bool.and_eq_true, decide_eq_true_eq]
        exact ⟨⟨hk, h.1.2⟩, h.2⟩
      unfold Memory.entry
      split
      · exact Memory.wfAbove_mono (by omega) (Memory.drop_wfAbove hw)
      · next hv =>
        simp only [Memory.wfAbove, Bool.and_eq_true, decide_eq_true_eq]
        exact ⟨⟨hlo, hv⟩, Memory.drop_wfAbove hw⟩
    · simp only [Memory.wfAbove, Bool.and_eq_true, decide_eq_true_eq]
      exact ⟨h.1, Memory.set_wfAbove (by omega) h.2⟩

/-- Every write keeps the canonical form. -/
theorem Memory.set_wf {m : List (Nat × α)} {k : Nat} {v : α} (h : Memory.wf d m = true) :
    Memory.wf d (Memory.set d m k v) = true := Memory.set_wfAbove (Nat.zero_le k) h

/-- Dropping entries keeps the canonical form. -/
theorem Memory.filter_wf {m : List (Nat × α)} (p : Nat × α → Bool) (h : Memory.wf d m = true) :
    Memory.wf d (m.filter p) = true := Memory.filter_wfAbove p h

/-- Nothing listed is canonical. -/
theorem Memory.nil_wf : Memory.wf d ([] : List (Nat × α)) = true := rfl

end Sys2Proof.Machine
end

