-- ==== Sys2Proof/Laws/Regs.lean ====
section
/-! SUPPORT. The laws of the register file and of the protected memories: a read after a write, and what a write leaves
alone. -/

namespace Sys2Proof.Machine

/-- A field lies inside its register. -/
def Field.good (f : Field) : Prop := f.lo + f.w ≤ 64

/-- Two fields, at their indexes, share no bit. -/
def Field.apart (f g : Field) (kf kg : Nat) : Prop := kf ≠ kg ∨ f.lo + f.w ≤ g.lo ∨ g.lo + g.w ≤ f.lo

@[simp] theorem reg_setReg_same (s : State) (k : Nat) (v : Word) : (s.setReg k v).reg k = v :=
  Memory.get_set_same k v s.regs

theorem reg_setReg_other (s : State) {k j : Nat} (v : Word) (h : j ≠ k) : (s.setReg k v).reg j = s.reg j :=
  Memory.get_set_other v h s.regs

theorem reg_setReg (s : State) (k j : Nat) (v : Word) : (s.setReg k v).reg j = if j = k then v else s.reg j := by
  split
  · next h => subst h; exact reg_setReg_same s j v
  · next h => exact reg_setReg_other s v h

/-- A field reads as it was written, modulo its width. -/
theorem fld_setFld_same (s : State) (f : Field) (v i j k : Nat) (h : f.good) :
    (s.setFld f v i j k).fld f i j k = v % 2 ^ f.w := by
  unfold State.fld State.setFld
  rw [reg_setReg_same, bits_setBits_same _ _ _ _ h]

/-- A write of a field leaves a field apart from it alone. -/
theorem fld_setFld_other (s : State) (f g : Field) (v i j k i' j' k' : Nat) (h : f.good)
    (ha : g.apart f (g.key i' j' k') (f.key i j k)) : (s.setFld f v i j k).fld g i' j' k' = s.fld g i' j' k' := by
  unfold State.fld State.setFld
  rw [reg_setReg]
  split
  · next he =>
    rw [he]
    rcases ha with ha | ha
    · exact absurd he ha
    · exact bits_setBits_other _ _ _ _ _ _ h (by omega)
  · rfl

/-- A write of a field leaves every other register alone. -/
theorem reg_setFld_other (s : State) (f : Field) (v i j k key : Nat) (h : key ≠ f.key i j k) :
    (s.setFld f v i j k).reg key = s.reg key := reg_setReg_other s _ h

/-- A field is below its width's power of two. -/
theorem fld_lt (s : State) (f : Field) (i j k : Nat) : s.fld f i j k < 2 ^ f.w := bits_lt _ _ _

/-- A flag as a number. -/
theorem on_eq (s : State) (f : Field) (i j k : Nat) : s.on f i j k = decide (s.fld f i j k ≠ 0) := rfl

/-- A stored word reads as it was stored. -/
@[simp] theorem pword_setPword_same (s : State) (k : Nat) (p : PWord) : (s.setPword k p).pword k = p :=
  Memory.get_set_same k p s.mem

/-- A stored word leaves every other word alone. -/
theorem pword_setPword_other (s : State) {k j : Nat} (p : PWord) (h : j ≠ k) : (s.setPword k p).pword j = s.pword j :=
  Memory.get_set_other p h s.mem

/-- A register write keeps the register file canonical. -/
theorem setReg_wf (s : State) (k : Nat) (v : Word) (h : Memory.wf regReset s.regs = true) :
    Memory.wf regReset (s.setReg k v).regs = true := Memory.set_wf h

/-- A word written keeps the protected memories canonical. -/
theorem setPword_wf (s : State) (k : Nat) (p : PWord) (h : Memory.wf memDefault s.mem = true) :
    Memory.wf memDefault (s.setPword k p).mem = true := Memory.set_wf h

end Sys2Proof.Machine
end

