-- ==== Sys2Proof/Laws/State.lean ====
section
/-! SUPPORT. What each basic update of State leaves alone: one lemma for each update and each field, true by rfl. -/

namespace Sys2Proof.Machine

@[simp] theorem setReg_pending (s : State) (key : Nat) (v : Word) : (s.setReg key v).pending = s.pending := rfl
@[simp] theorem setReg_out (s : State) (key : Nat) (v : Word) : (s.setReg key v).out = s.out := rfl
@[simp] theorem setReg_free (s : State) (key : Nat) (v : Word) : (s.setReg key v).free = s.free := rfl
@[simp] theorem setReg_mem (s : State) (key : Nat) (v : Word) : (s.setReg key v).mem = s.mem := rfl
@[simp] theorem setReg_mends (s : State) (key : Nat) (v : Word) : (s.setReg key v).mends = s.mends := rfl
@[simp] theorem setReg_tck (s : State) (key : Nat) (v : Word) : (s.setReg key v).tck = s.tck := rfl
@[simp] theorem setReg_ctx (s : State) (key : Nat) (v : Word) : (s.setReg key v).ctx = s.ctx := rfl
@[simp] theorem setReg_chg (s : State) (key : Nat) (v : Word) : (s.setReg key v).chg = s.chg := rfl
@[simp] theorem setReg_sge (s : State) (key : Nat) (v : Word) : (s.setReg key v).sge = s.sge := rfl
@[simp] theorem setReg_nva (s : State) (key : Nat) (v : Word) : (s.setReg key v).nva = s.nva := rfl
@[simp] theorem setReg_ser (s : State) (key : Nat) (v : Word) : (s.setReg key v).ser = s.ser := rfl
@[simp] theorem setReg_cfg (s : State) (key : Nat) (v : Word) : (s.setReg key v).cfg = s.cfg := rfl
@[simp] theorem setReg_logic (s : State) (key : Nat) (v : Word) : (s.setReg key v).logic = s.logic := rfl
@[simp] theorem setReg_mm (s : State) (key : Nat) (v : Word) : (s.setReg key v).mm = s.mm := rfl
@[simp] theorem setReg_noc (s : State) (key : Nat) (v : Word) : (s.setReg key v).noc = s.noc := rfl
@[simp] theorem setReg_dram (s : State) (key : Nat) (v : Word) : (s.setReg key v).dram = s.dram := rfl
@[simp] theorem setReg_pcie (s : State) (key : Nat) (v : Word) : (s.setReg key v).pcie = s.pcie := rfl
@[simp] theorem setReg_ring (s : State) (key : Nat) (v : Word) : (s.setReg key v).ring = s.ring := rfl
@[simp] theorem setReg_lanes (s : State) (key : Nat) (v : Word) : (s.setReg key v).lanes = s.lanes := rfl
@[simp] theorem setReg_hc (s : State) (key : Nat) (v : Word) : (s.setReg key v).hc = s.hc := rfl
@[simp] theorem setReg_pwr (s : State) (key : Nat) (v : Word) : (s.setReg key v).pwr = s.pwr := rfl
@[simp] theorem setReg_flt (s : State) (key : Nat) (v : Word) : (s.setReg key v).flt = s.flt := rfl

@[simp] theorem setFld_pending (s : State) (f : Field) (v i j k : Nat) : (s.setFld f v i j k).pending = s.pending := rfl
@[simp] theorem setFld_out (s : State) (f : Field) (v i j k : Nat) : (s.setFld f v i j k).out = s.out := rfl
@[simp] theorem setFld_free (s : State) (f : Field) (v i j k : Nat) : (s.setFld f v i j k).free = s.free := rfl
@[simp] theorem setFld_mem (s : State) (f : Field) (v i j k : Nat) : (s.setFld f v i j k).mem = s.mem := rfl
@[simp] theorem setFld_mends (s : State) (f : Field) (v i j k : Nat) : (s.setFld f v i j k).mends = s.mends := rfl
@[simp] theorem setFld_tck (s : State) (f : Field) (v i j k : Nat) : (s.setFld f v i j k).tck = s.tck := rfl
@[simp] theorem setFld_ctx (s : State) (f : Field) (v i j k : Nat) : (s.setFld f v i j k).ctx = s.ctx := rfl
@[simp] theorem setFld_chg (s : State) (f : Field) (v i j k : Nat) : (s.setFld f v i j k).chg = s.chg := rfl
@[simp] theorem setFld_sge (s : State) (f : Field) (v i j k : Nat) : (s.setFld f v i j k).sge = s.sge := rfl
@[simp] theorem setFld_nva (s : State) (f : Field) (v i j k : Nat) : (s.setFld f v i j k).nva = s.nva := rfl
@[simp] theorem setFld_ser (s : State) (f : Field) (v i j k : Nat) : (s.setFld f v i j k).ser = s.ser := rfl
@[simp] theorem setFld_cfg (s : State) (f : Field) (v i j k : Nat) : (s.setFld f v i j k).cfg = s.cfg := rfl
@[simp] theorem setFld_logic (s : State) (f : Field) (v i j k : Nat) : (s.setFld f v i j k).logic = s.logic := rfl
@[simp] theorem setFld_mm (s : State) (f : Field) (v i j k : Nat) : (s.setFld f v i j k).mm = s.mm := rfl
@[simp] theorem setFld_noc (s : State) (f : Field) (v i j k : Nat) : (s.setFld f v i j k).noc = s.noc := rfl
@[simp] theorem setFld_dram (s : State) (f : Field) (v i j k : Nat) : (s.setFld f v i j k).dram = s.dram := rfl
@[simp] theorem setFld_pcie (s : State) (f : Field) (v i j k : Nat) : (s.setFld f v i j k).pcie = s.pcie := rfl
@[simp] theorem setFld_ring (s : State) (f : Field) (v i j k : Nat) : (s.setFld f v i j k).ring = s.ring := rfl
@[simp] theorem setFld_lanes (s : State) (f : Field) (v i j k : Nat) : (s.setFld f v i j k).lanes = s.lanes := rfl
@[simp] theorem setFld_hc (s : State) (f : Field) (v i j k : Nat) : (s.setFld f v i j k).hc = s.hc := rfl
@[simp] theorem setFld_pwr (s : State) (f : Field) (v i j k : Nat) : (s.setFld f v i j k).pwr = s.pwr := rfl
@[simp] theorem setFld_flt (s : State) (f : Field) (v i j k : Nat) : (s.setFld f v i j k).flt = s.flt := rfl

@[simp] theorem addFld_pending (s : State) (f : Field) (n i j k : Nat) : (s.addFld f n i j k).pending = s.pending := rfl
@[simp] theorem addFld_out (s : State) (f : Field) (n i j k : Nat) : (s.addFld f n i j k).out = s.out := rfl
@[simp] theorem addFld_free (s : State) (f : Field) (n i j k : Nat) : (s.addFld f n i j k).free = s.free := rfl
@[simp] theorem addFld_mem (s : State) (f : Field) (n i j k : Nat) : (s.addFld f n i j k).mem = s.mem := rfl
@[simp] theorem addFld_mends (s : State) (f : Field) (n i j k : Nat) : (s.addFld f n i j k).mends = s.mends := rfl
@[simp] theorem addFld_tck (s : State) (f : Field) (n i j k : Nat) : (s.addFld f n i j k).tck = s.tck := rfl
@[simp] theorem addFld_ctx (s : State) (f : Field) (n i j k : Nat) : (s.addFld f n i j k).ctx = s.ctx := rfl
@[simp] theorem addFld_chg (s : State) (f : Field) (n i j k : Nat) : (s.addFld f n i j k).chg = s.chg := rfl
@[simp] theorem addFld_sge (s : State) (f : Field) (n i j k : Nat) : (s.addFld f n i j k).sge = s.sge := rfl
@[simp] theorem addFld_nva (s : State) (f : Field) (n i j k : Nat) : (s.addFld f n i j k).nva = s.nva := rfl
@[simp] theorem addFld_ser (s : State) (f : Field) (n i j k : Nat) : (s.addFld f n i j k).ser = s.ser := rfl
@[simp] theorem addFld_cfg (s : State) (f : Field) (n i j k : Nat) : (s.addFld f n i j k).cfg = s.cfg := rfl
@[simp] theorem addFld_logic (s : State) (f : Field) (n i j k : Nat) : (s.addFld f n i j k).logic = s.logic := rfl
@[simp] theorem addFld_mm (s : State) (f : Field) (n i j k : Nat) : (s.addFld f n i j k).mm = s.mm := rfl
@[simp] theorem addFld_noc (s : State) (f : Field) (n i j k : Nat) : (s.addFld f n i j k).noc = s.noc := rfl
@[simp] theorem addFld_dram (s : State) (f : Field) (n i j k : Nat) : (s.addFld f n i j k).dram = s.dram := rfl
@[simp] theorem addFld_pcie (s : State) (f : Field) (n i j k : Nat) : (s.addFld f n i j k).pcie = s.pcie := rfl
@[simp] theorem addFld_ring (s : State) (f : Field) (n i j k : Nat) : (s.addFld f n i j k).ring = s.ring := rfl
@[simp] theorem addFld_lanes (s : State) (f : Field) (n i j k : Nat) : (s.addFld f n i j k).lanes = s.lanes := rfl
@[simp] theorem addFld_hc (s : State) (f : Field) (n i j k : Nat) : (s.addFld f n i j k).hc = s.hc := rfl
@[simp] theorem addFld_pwr (s : State) (f : Field) (n i j k : Nat) : (s.addFld f n i j k).pwr = s.pwr := rfl
@[simp] theorem addFld_flt (s : State) (f : Field) (n i j k : Nat) : (s.addFld f n i j k).flt = s.flt := rfl

@[simp] theorem setMfld_pending (s : State) (f : Field) (slot v i : Nat) : (s.setMfld f slot v i).pending = s.pending := rfl
@[simp] theorem setMfld_out (s : State) (f : Field) (slot v i : Nat) : (s.setMfld f slot v i).out = s.out := rfl
@[simp] theorem setMfld_free (s : State) (f : Field) (slot v i : Nat) : (s.setMfld f slot v i).free = s.free := rfl
@[simp] theorem setMfld_mem (s : State) (f : Field) (slot v i : Nat) : (s.setMfld f slot v i).mem = s.mem := rfl
@[simp] theorem setMfld_mends (s : State) (f : Field) (slot v i : Nat) : (s.setMfld f slot v i).mends = s.mends := rfl
@[simp] theorem setMfld_tck (s : State) (f : Field) (slot v i : Nat) : (s.setMfld f slot v i).tck = s.tck := rfl
@[simp] theorem setMfld_ctx (s : State) (f : Field) (slot v i : Nat) : (s.setMfld f slot v i).ctx = s.ctx := rfl
@[simp] theorem setMfld_chg (s : State) (f : Field) (slot v i : Nat) : (s.setMfld f slot v i).chg = s.chg := rfl
@[simp] theorem setMfld_sge (s : State) (f : Field) (slot v i : Nat) : (s.setMfld f slot v i).sge = s.sge := rfl
@[simp] theorem setMfld_nva (s : State) (f : Field) (slot v i : Nat) : (s.setMfld f slot v i).nva = s.nva := rfl
@[simp] theorem setMfld_ser (s : State) (f : Field) (slot v i : Nat) : (s.setMfld f slot v i).ser = s.ser := rfl
@[simp] theorem setMfld_cfg (s : State) (f : Field) (slot v i : Nat) : (s.setMfld f slot v i).cfg = s.cfg := rfl
@[simp] theorem setMfld_logic (s : State) (f : Field) (slot v i : Nat) : (s.setMfld f slot v i).logic = s.logic := rfl
@[simp] theorem setMfld_mm (s : State) (f : Field) (slot v i : Nat) : (s.setMfld f slot v i).mm = s.mm := rfl
@[simp] theorem setMfld_noc (s : State) (f : Field) (slot v i : Nat) : (s.setMfld f slot v i).noc = s.noc := rfl
@[simp] theorem setMfld_dram (s : State) (f : Field) (slot v i : Nat) : (s.setMfld f slot v i).dram = s.dram := rfl
@[simp] theorem setMfld_pcie (s : State) (f : Field) (slot v i : Nat) : (s.setMfld f slot v i).pcie = s.pcie := rfl
@[simp] theorem setMfld_ring (s : State) (f : Field) (slot v i : Nat) : (s.setMfld f slot v i).ring = s.ring := rfl
@[simp] theorem setMfld_lanes (s : State) (f : Field) (slot v i : Nat) : (s.setMfld f slot v i).lanes = s.lanes := rfl
@[simp] theorem setMfld_hc (s : State) (f : Field) (slot v i : Nat) : (s.setMfld f slot v i).hc = s.hc := rfl
@[simp] theorem setMfld_pwr (s : State) (f : Field) (slot v i : Nat) : (s.setMfld f slot v i).pwr = s.pwr := rfl
@[simp] theorem setMfld_flt (s : State) (f : Field) (slot v i : Nat) : (s.setMfld f slot v i).flt = s.flt := rfl

@[simp] theorem setFbit_pending (s : State) (f : Field) (b : Nat) (v : Bool) (i j k : Nat) : (s.setFbit f b v i j k).pending = s.pending := rfl
@[simp] theorem setFbit_out (s : State) (f : Field) (b : Nat) (v : Bool) (i j k : Nat) : (s.setFbit f b v i j k).out = s.out := rfl
@[simp] theorem setFbit_free (s : State) (f : Field) (b : Nat) (v : Bool) (i j k : Nat) : (s.setFbit f b v i j k).free = s.free := rfl
@[simp] theorem setFbit_mem (s : State) (f : Field) (b : Nat) (v : Bool) (i j k : Nat) : (s.setFbit f b v i j k).mem = s.mem := rfl
@[simp] theorem setFbit_mends (s : State) (f : Field) (b : Nat) (v : Bool) (i j k : Nat) : (s.setFbit f b v i j k).mends = s.mends := rfl
@[simp] theorem setFbit_tck (s : State) (f : Field) (b : Nat) (v : Bool) (i j k : Nat) : (s.setFbit f b v i j k).tck = s.tck := rfl
@[simp] theorem setFbit_ctx (s : State) (f : Field) (b : Nat) (v : Bool) (i j k : Nat) : (s.setFbit f b v i j k).ctx = s.ctx := rfl
@[simp] theorem setFbit_chg (s : State) (f : Field) (b : Nat) (v : Bool) (i j k : Nat) : (s.setFbit f b v i j k).chg = s.chg := rfl
@[simp] theorem setFbit_sge (s : State) (f : Field) (b : Nat) (v : Bool) (i j k : Nat) : (s.setFbit f b v i j k).sge = s.sge := rfl
@[simp] theorem setFbit_nva (s : State) (f : Field) (b : Nat) (v : Bool) (i j k : Nat) : (s.setFbit f b v i j k).nva = s.nva := rfl
@[simp] theorem setFbit_ser (s : State) (f : Field) (b : Nat) (v : Bool) (i j k : Nat) : (s.setFbit f b v i j k).ser = s.ser := rfl
@[simp] theorem setFbit_cfg (s : State) (f : Field) (b : Nat) (v : Bool) (i j k : Nat) : (s.setFbit f b v i j k).cfg = s.cfg := rfl
@[simp] theorem setFbit_logic (s : State) (f : Field) (b : Nat) (v : Bool) (i j k : Nat) : (s.setFbit f b v i j k).logic = s.logic := rfl
@[simp] theorem setFbit_mm (s : State) (f : Field) (b : Nat) (v : Bool) (i j k : Nat) : (s.setFbit f b v i j k).mm = s.mm := rfl
@[simp] theorem setFbit_noc (s : State) (f : Field) (b : Nat) (v : Bool) (i j k : Nat) : (s.setFbit f b v i j k).noc = s.noc := rfl
@[simp] theorem setFbit_dram (s : State) (f : Field) (b : Nat) (v : Bool) (i j k : Nat) : (s.setFbit f b v i j k).dram = s.dram := rfl
@[simp] theorem setFbit_pcie (s : State) (f : Field) (b : Nat) (v : Bool) (i j k : Nat) : (s.setFbit f b v i j k).pcie = s.pcie := rfl
@[simp] theorem setFbit_ring (s : State) (f : Field) (b : Nat) (v : Bool) (i j k : Nat) : (s.setFbit f b v i j k).ring = s.ring := rfl
@[simp] theorem setFbit_lanes (s : State) (f : Field) (b : Nat) (v : Bool) (i j k : Nat) : (s.setFbit f b v i j k).lanes = s.lanes := rfl
@[simp] theorem setFbit_hc (s : State) (f : Field) (b : Nat) (v : Bool) (i j k : Nat) : (s.setFbit f b v i j k).hc = s.hc := rfl
@[simp] theorem setFbit_pwr (s : State) (f : Field) (b : Nat) (v : Bool) (i j k : Nat) : (s.setFbit f b v i j k).pwr = s.pwr := rfl
@[simp] theorem setFbit_flt (s : State) (f : Field) (b : Nat) (v : Bool) (i j k : Nat) : (s.setFbit f b v i j k).flt = s.flt := rfl

@[simp] theorem emit_pending (s : State) (o : Out) : (s.emit o).pending = s.pending := rfl
@[simp] theorem emit_free (s : State) (o : Out) : (s.emit o).free = s.free := rfl
@[simp] theorem emit_regs (s : State) (o : Out) : (s.emit o).regs = s.regs := rfl
@[simp] theorem emit_mem (s : State) (o : Out) : (s.emit o).mem = s.mem := rfl
@[simp] theorem emit_mends (s : State) (o : Out) : (s.emit o).mends = s.mends := rfl
@[simp] theorem emit_tck (s : State) (o : Out) : (s.emit o).tck = s.tck := rfl
@[simp] theorem emit_ctx (s : State) (o : Out) : (s.emit o).ctx = s.ctx := rfl
@[simp] theorem emit_chg (s : State) (o : Out) : (s.emit o).chg = s.chg := rfl
@[simp] theorem emit_sge (s : State) (o : Out) : (s.emit o).sge = s.sge := rfl
@[simp] theorem emit_nva (s : State) (o : Out) : (s.emit o).nva = s.nva := rfl
@[simp] theorem emit_ser (s : State) (o : Out) : (s.emit o).ser = s.ser := rfl
@[simp] theorem emit_cfg (s : State) (o : Out) : (s.emit o).cfg = s.cfg := rfl
@[simp] theorem emit_logic (s : State) (o : Out) : (s.emit o).logic = s.logic := rfl
@[simp] theorem emit_mm (s : State) (o : Out) : (s.emit o).mm = s.mm := rfl
@[simp] theorem emit_noc (s : State) (o : Out) : (s.emit o).noc = s.noc := rfl
@[simp] theorem emit_dram (s : State) (o : Out) : (s.emit o).dram = s.dram := rfl
@[simp] theorem emit_pcie (s : State) (o : Out) : (s.emit o).pcie = s.pcie := rfl
@[simp] theorem emit_ring (s : State) (o : Out) : (s.emit o).ring = s.ring := rfl
@[simp] theorem emit_lanes (s : State) (o : Out) : (s.emit o).lanes = s.lanes := rfl
@[simp] theorem emit_hc (s : State) (o : Out) : (s.emit o).hc = s.hc := rfl
@[simp] theorem emit_pwr (s : State) (o : Out) : (s.emit o).pwr = s.pwr := rfl
@[simp] theorem emit_flt (s : State) (o : Out) : (s.emit o).flt = s.flt := rfl

@[simp] theorem draw_pending (s : State) : s.draw.2.pending = s.pending := rfl
@[simp] theorem draw_out (s : State) : s.draw.2.out = s.out := rfl
@[simp] theorem draw_regs (s : State) : s.draw.2.regs = s.regs := rfl
@[simp] theorem draw_mem (s : State) : s.draw.2.mem = s.mem := rfl
@[simp] theorem draw_mends (s : State) : s.draw.2.mends = s.mends := rfl
@[simp] theorem draw_tck (s : State) : s.draw.2.tck = s.tck := rfl
@[simp] theorem draw_ctx (s : State) : s.draw.2.ctx = s.ctx := rfl
@[simp] theorem draw_chg (s : State) : s.draw.2.chg = s.chg := rfl
@[simp] theorem draw_sge (s : State) : s.draw.2.sge = s.sge := rfl
@[simp] theorem draw_nva (s : State) : s.draw.2.nva = s.nva := rfl
@[simp] theorem draw_ser (s : State) : s.draw.2.ser = s.ser := rfl
@[simp] theorem draw_cfg (s : State) : s.draw.2.cfg = s.cfg := rfl
@[simp] theorem draw_logic (s : State) : s.draw.2.logic = s.logic := rfl
@[simp] theorem draw_mm (s : State) : s.draw.2.mm = s.mm := rfl
@[simp] theorem draw_noc (s : State) : s.draw.2.noc = s.noc := rfl
@[simp] theorem draw_dram (s : State) : s.draw.2.dram = s.dram := rfl
@[simp] theorem draw_pcie (s : State) : s.draw.2.pcie = s.pcie := rfl
@[simp] theorem draw_ring (s : State) : s.draw.2.ring = s.ring := rfl
@[simp] theorem draw_lanes (s : State) : s.draw.2.lanes = s.lanes := rfl
@[simp] theorem draw_hc (s : State) : s.draw.2.hc = s.hc := rfl
@[simp] theorem draw_pwr (s : State) : s.draw.2.pwr = s.pwr := rfl
@[simp] theorem draw_flt (s : State) : s.draw.2.flt = s.flt := rfl

@[simp] theorem setPword_pending (s : State) (key : Nat) (p : PWord) : (s.setPword key p).pending = s.pending := rfl
@[simp] theorem setPword_out (s : State) (key : Nat) (p : PWord) : (s.setPword key p).out = s.out := rfl
@[simp] theorem setPword_free (s : State) (key : Nat) (p : PWord) : (s.setPword key p).free = s.free := rfl
@[simp] theorem setPword_regs (s : State) (key : Nat) (p : PWord) : (s.setPword key p).regs = s.regs := rfl
@[simp] theorem setPword_tck (s : State) (key : Nat) (p : PWord) : (s.setPword key p).tck = s.tck := rfl
@[simp] theorem setPword_ctx (s : State) (key : Nat) (p : PWord) : (s.setPword key p).ctx = s.ctx := rfl
@[simp] theorem setPword_chg (s : State) (key : Nat) (p : PWord) : (s.setPword key p).chg = s.chg := rfl
@[simp] theorem setPword_sge (s : State) (key : Nat) (p : PWord) : (s.setPword key p).sge = s.sge := rfl
@[simp] theorem setPword_nva (s : State) (key : Nat) (p : PWord) : (s.setPword key p).nva = s.nva := rfl
@[simp] theorem setPword_ser (s : State) (key : Nat) (p : PWord) : (s.setPword key p).ser = s.ser := rfl
@[simp] theorem setPword_cfg (s : State) (key : Nat) (p : PWord) : (s.setPword key p).cfg = s.cfg := rfl
@[simp] theorem setPword_logic (s : State) (key : Nat) (p : PWord) : (s.setPword key p).logic = s.logic := rfl
@[simp] theorem setPword_mm (s : State) (key : Nat) (p : PWord) : (s.setPword key p).mm = s.mm := rfl
@[simp] theorem setPword_noc (s : State) (key : Nat) (p : PWord) : (s.setPword key p).noc = s.noc := rfl
@[simp] theorem setPword_dram (s : State) (key : Nat) (p : PWord) : (s.setPword key p).dram = s.dram := rfl
@[simp] theorem setPword_pcie (s : State) (key : Nat) (p : PWord) : (s.setPword key p).pcie = s.pcie := rfl
@[simp] theorem setPword_ring (s : State) (key : Nat) (p : PWord) : (s.setPword key p).ring = s.ring := rfl
@[simp] theorem setPword_lanes (s : State) (key : Nat) (p : PWord) : (s.setPword key p).lanes = s.lanes := rfl
@[simp] theorem setPword_hc (s : State) (key : Nat) (p : PWord) : (s.setPword key p).hc = s.hc := rfl
@[simp] theorem setPword_pwr (s : State) (key : Nat) (p : PWord) : (s.setPword key p).pwr = s.pwr := rfl
@[simp] theorem setPword_flt (s : State) (key : Nat) (p : PWord) : (s.setPword key p).flt = s.flt := rfl

@[simp] theorem modGrp_pending (s : State) (g : Nat) (f : Group → Group) : (s.modGrp g f).pending = s.pending := rfl
@[simp] theorem modGrp_out (s : State) (g : Nat) (f : Group → Group) : (s.modGrp g f).out = s.out := rfl
@[simp] theorem modGrp_free (s : State) (g : Nat) (f : Group → Group) : (s.modGrp g f).free = s.free := rfl
@[simp] theorem modGrp_regs (s : State) (g : Nat) (f : Group → Group) : (s.modGrp g f).regs = s.regs := rfl
@[simp] theorem modGrp_mem (s : State) (g : Nat) (f : Group → Group) : (s.modGrp g f).mem = s.mem := rfl
@[simp] theorem modGrp_mends (s : State) (g : Nat) (f : Group → Group) : (s.modGrp g f).mends = s.mends := rfl
@[simp] theorem modGrp_tck (s : State) (g : Nat) (f : Group → Group) : (s.modGrp g f).tck = s.tck := rfl
@[simp] theorem modGrp_ctx (s : State) (g : Nat) (f : Group → Group) : (s.modGrp g f).ctx = s.ctx := rfl
@[simp] theorem modGrp_sge (s : State) (g : Nat) (f : Group → Group) : (s.modGrp g f).sge = s.sge := rfl
@[simp] theorem modGrp_nva (s : State) (g : Nat) (f : Group → Group) : (s.modGrp g f).nva = s.nva := rfl
@[simp] theorem modGrp_ser (s : State) (g : Nat) (f : Group → Group) : (s.modGrp g f).ser = s.ser := rfl
@[simp] theorem modGrp_cfg (s : State) (g : Nat) (f : Group → Group) : (s.modGrp g f).cfg = s.cfg := rfl
@[simp] theorem modGrp_logic (s : State) (g : Nat) (f : Group → Group) : (s.modGrp g f).logic = s.logic := rfl
@[simp] theorem modGrp_mm (s : State) (g : Nat) (f : Group → Group) : (s.modGrp g f).mm = s.mm := rfl
@[simp] theorem modGrp_noc (s : State) (g : Nat) (f : Group → Group) : (s.modGrp g f).noc = s.noc := rfl
@[simp] theorem modGrp_dram (s : State) (g : Nat) (f : Group → Group) : (s.modGrp g f).dram = s.dram := rfl
@[simp] theorem modGrp_pcie (s : State) (g : Nat) (f : Group → Group) : (s.modGrp g f).pcie = s.pcie := rfl
@[simp] theorem modGrp_ring (s : State) (g : Nat) (f : Group → Group) : (s.modGrp g f).ring = s.ring := rfl
@[simp] theorem modGrp_lanes (s : State) (g : Nat) (f : Group → Group) : (s.modGrp g f).lanes = s.lanes := rfl
@[simp] theorem modGrp_hc (s : State) (g : Nat) (f : Group → Group) : (s.modGrp g f).hc = s.hc := rfl
@[simp] theorem modGrp_pwr (s : State) (g : Nat) (f : Group → Group) : (s.modGrp g f).pwr = s.pwr := rfl
@[simp] theorem modGrp_flt (s : State) (g : Nat) (f : Group → Group) : (s.modGrp g f).flt = s.flt := rfl

@[simp] theorem modTck_pending (s : State) (f : TckState → TckState) : (s.modTck f).pending = s.pending := rfl
@[simp] theorem modTck_out (s : State) (f : TckState → TckState) : (s.modTck f).out = s.out := rfl
@[simp] theorem modTck_free (s : State) (f : TckState → TckState) : (s.modTck f).free = s.free := rfl
@[simp] theorem modTck_regs (s : State) (f : TckState → TckState) : (s.modTck f).regs = s.regs := rfl
@[simp] theorem modTck_mem (s : State) (f : TckState → TckState) : (s.modTck f).mem = s.mem := rfl
@[simp] theorem modTck_mends (s : State) (f : TckState → TckState) : (s.modTck f).mends = s.mends := rfl
@[simp] theorem modTck_ctx (s : State) (f : TckState → TckState) : (s.modTck f).ctx = s.ctx := rfl
@[simp] theorem modTck_chg (s : State) (f : TckState → TckState) : (s.modTck f).chg = s.chg := rfl
@[simp] theorem modTck_sge (s : State) (f : TckState → TckState) : (s.modTck f).sge = s.sge := rfl
@[simp] theorem modTck_nva (s : State) (f : TckState → TckState) : (s.modTck f).nva = s.nva := rfl
@[simp] theorem modTck_ser (s : State) (f : TckState → TckState) : (s.modTck f).ser = s.ser := rfl
@[simp] theorem modTck_cfg (s : State) (f : TckState → TckState) : (s.modTck f).cfg = s.cfg := rfl
@[simp] theorem modTck_logic (s : State) (f : TckState → TckState) : (s.modTck f).logic = s.logic := rfl
@[simp] theorem modTck_mm (s : State) (f : TckState → TckState) : (s.modTck f).mm = s.mm := rfl
@[simp] theorem modTck_noc (s : State) (f : TckState → TckState) : (s.modTck f).noc = s.noc := rfl
@[simp] theorem modTck_dram (s : State) (f : TckState → TckState) : (s.modTck f).dram = s.dram := rfl
@[simp] theorem modTck_pcie (s : State) (f : TckState → TckState) : (s.modTck f).pcie = s.pcie := rfl
@[simp] theorem modTck_ring (s : State) (f : TckState → TckState) : (s.modTck f).ring = s.ring := rfl
@[simp] theorem modTck_lanes (s : State) (f : TckState → TckState) : (s.modTck f).lanes = s.lanes := rfl
@[simp] theorem modTck_hc (s : State) (f : TckState → TckState) : (s.modTck f).hc = s.hc := rfl
@[simp] theorem modTck_pwr (s : State) (f : TckState → TckState) : (s.modTck f).pwr = s.pwr := rfl
@[simp] theorem modTck_flt (s : State) (f : TckState → TckState) : (s.modTck f).flt = s.flt := rfl

@[simp] theorem modPwr_pending (s : State) (f : PwrState → PwrState) : (s.modPwr f).pending = s.pending := rfl
@[simp] theorem modPwr_out (s : State) (f : PwrState → PwrState) : (s.modPwr f).out = s.out := rfl
@[simp] theorem modPwr_free (s : State) (f : PwrState → PwrState) : (s.modPwr f).free = s.free := rfl
@[simp] theorem modPwr_regs (s : State) (f : PwrState → PwrState) : (s.modPwr f).regs = s.regs := rfl
@[simp] theorem modPwr_mem (s : State) (f : PwrState → PwrState) : (s.modPwr f).mem = s.mem := rfl
@[simp] theorem modPwr_mends (s : State) (f : PwrState → PwrState) : (s.modPwr f).mends = s.mends := rfl
@[simp] theorem modPwr_tck (s : State) (f : PwrState → PwrState) : (s.modPwr f).tck = s.tck := rfl
@[simp] theorem modPwr_ctx (s : State) (f : PwrState → PwrState) : (s.modPwr f).ctx = s.ctx := rfl
@[simp] theorem modPwr_chg (s : State) (f : PwrState → PwrState) : (s.modPwr f).chg = s.chg := rfl
@[simp] theorem modPwr_sge (s : State) (f : PwrState → PwrState) : (s.modPwr f).sge = s.sge := rfl
@[simp] theorem modPwr_nva (s : State) (f : PwrState → PwrState) : (s.modPwr f).nva = s.nva := rfl
@[simp] theorem modPwr_ser (s : State) (f : PwrState → PwrState) : (s.modPwr f).ser = s.ser := rfl
@[simp] theorem modPwr_cfg (s : State) (f : PwrState → PwrState) : (s.modPwr f).cfg = s.cfg := rfl
@[simp] theorem modPwr_logic (s : State) (f : PwrState → PwrState) : (s.modPwr f).logic = s.logic := rfl
@[simp] theorem modPwr_mm (s : State) (f : PwrState → PwrState) : (s.modPwr f).mm = s.mm := rfl
@[simp] theorem modPwr_noc (s : State) (f : PwrState → PwrState) : (s.modPwr f).noc = s.noc := rfl
@[simp] theorem modPwr_dram (s : State) (f : PwrState → PwrState) : (s.modPwr f).dram = s.dram := rfl
@[simp] theorem modPwr_pcie (s : State) (f : PwrState → PwrState) : (s.modPwr f).pcie = s.pcie := rfl
@[simp] theorem modPwr_ring (s : State) (f : PwrState → PwrState) : (s.modPwr f).ring = s.ring := rfl
@[simp] theorem modPwr_lanes (s : State) (f : PwrState → PwrState) : (s.modPwr f).lanes = s.lanes := rfl
@[simp] theorem modPwr_hc (s : State) (f : PwrState → PwrState) : (s.modPwr f).hc = s.hc := rfl
@[simp] theorem modPwr_flt (s : State) (f : PwrState → PwrState) : (s.modPwr f).flt = s.flt := rfl

@[simp] theorem setLoad_pending (l : Option Load) (s : State) : (setLoad l s).pending = s.pending := rfl
@[simp] theorem setLoad_out (l : Option Load) (s : State) : (setLoad l s).out = s.out := rfl
@[simp] theorem setLoad_free (l : Option Load) (s : State) : (setLoad l s).free = s.free := rfl
@[simp] theorem setLoad_regs (l : Option Load) (s : State) : (setLoad l s).regs = s.regs := rfl
@[simp] theorem setLoad_mem (l : Option Load) (s : State) : (setLoad l s).mem = s.mem := rfl
@[simp] theorem setLoad_mends (l : Option Load) (s : State) : (setLoad l s).mends = s.mends := rfl
@[simp] theorem setLoad_tck (l : Option Load) (s : State) : (setLoad l s).tck = s.tck := rfl
@[simp] theorem setLoad_ctx (l : Option Load) (s : State) : (setLoad l s).ctx = s.ctx := rfl
@[simp] theorem setLoad_chg (l : Option Load) (s : State) : (setLoad l s).chg = s.chg := rfl
@[simp] theorem setLoad_sge (l : Option Load) (s : State) : (setLoad l s).sge = s.sge := rfl
@[simp] theorem setLoad_nva (l : Option Load) (s : State) : (setLoad l s).nva = s.nva := rfl
@[simp] theorem setLoad_ser (l : Option Load) (s : State) : (setLoad l s).ser = s.ser := rfl
@[simp] theorem setLoad_mm (l : Option Load) (s : State) : (setLoad l s).mm = s.mm := rfl
@[simp] theorem setLoad_noc (l : Option Load) (s : State) : (setLoad l s).noc = s.noc := rfl
@[simp] theorem setLoad_dram (l : Option Load) (s : State) : (setLoad l s).dram = s.dram := rfl
@[simp] theorem setLoad_pcie (l : Option Load) (s : State) : (setLoad l s).pcie = s.pcie := rfl
@[simp] theorem setLoad_ring (l : Option Load) (s : State) : (setLoad l s).ring = s.ring := rfl
@[simp] theorem setLoad_lanes (l : Option Load) (s : State) : (setLoad l s).lanes = s.lanes := rfl
@[simp] theorem setLoad_hc (l : Option Load) (s : State) : (setLoad l s).hc = s.hc := rfl
@[simp] theorem setLoad_pwr (l : Option Load) (s : State) : (setLoad l s).pwr = s.pwr := rfl
@[simp] theorem setLoad_flt (l : Option Load) (s : State) : (setLoad l s).flt = s.flt := rfl

@[simp] theorem modEng_pending (s : State) (e : Nat) (f : Sge → Sge) : (s.modEng e f).pending = s.pending := rfl
@[simp] theorem modEng_out (s : State) (e : Nat) (f : Sge → Sge) : (s.modEng e f).out = s.out := rfl
@[simp] theorem modEng_free (s : State) (e : Nat) (f : Sge → Sge) : (s.modEng e f).free = s.free := rfl
@[simp] theorem modEng_regs (s : State) (e : Nat) (f : Sge → Sge) : (s.modEng e f).regs = s.regs := rfl
@[simp] theorem modEng_mem (s : State) (e : Nat) (f : Sge → Sge) : (s.modEng e f).mem = s.mem := rfl
@[simp] theorem modEng_mends (s : State) (e : Nat) (f : Sge → Sge) : (s.modEng e f).mends = s.mends := rfl
@[simp] theorem modEng_tck (s : State) (e : Nat) (f : Sge → Sge) : (s.modEng e f).tck = s.tck := rfl
@[simp] theorem modEng_ctx (s : State) (e : Nat) (f : Sge → Sge) : (s.modEng e f).ctx = s.ctx := rfl
@[simp] theorem modEng_chg (s : State) (e : Nat) (f : Sge → Sge) : (s.modEng e f).chg = s.chg := rfl
@[simp] theorem modEng_nva (s : State) (e : Nat) (f : Sge → Sge) : (s.modEng e f).nva = s.nva := rfl
@[simp] theorem modEng_ser (s : State) (e : Nat) (f : Sge → Sge) : (s.modEng e f).ser = s.ser := rfl
@[simp] theorem modEng_cfg (s : State) (e : Nat) (f : Sge → Sge) : (s.modEng e f).cfg = s.cfg := rfl
@[simp] theorem modEng_logic (s : State) (e : Nat) (f : Sge → Sge) : (s.modEng e f).logic = s.logic := rfl
@[simp] theorem modEng_mm (s : State) (e : Nat) (f : Sge → Sge) : (s.modEng e f).mm = s.mm := rfl
@[simp] theorem modEng_noc (s : State) (e : Nat) (f : Sge → Sge) : (s.modEng e f).noc = s.noc := rfl
@[simp] theorem modEng_dram (s : State) (e : Nat) (f : Sge → Sge) : (s.modEng e f).dram = s.dram := rfl
@[simp] theorem modEng_pcie (s : State) (e : Nat) (f : Sge → Sge) : (s.modEng e f).pcie = s.pcie := rfl
@[simp] theorem modEng_ring (s : State) (e : Nat) (f : Sge → Sge) : (s.modEng e f).ring = s.ring := rfl
@[simp] theorem modEng_lanes (s : State) (e : Nat) (f : Sge → Sge) : (s.modEng e f).lanes = s.lanes := rfl
@[simp] theorem modEng_hc (s : State) (e : Nat) (f : Sge → Sge) : (s.modEng e f).hc = s.hc := rfl
@[simp] theorem modEng_pwr (s : State) (e : Nat) (f : Sge → Sge) : (s.modEng e f).pwr = s.pwr := rfl
@[simp] theorem modEng_flt (s : State) (e : Nat) (f : Sge → Sge) : (s.modEng e f).flt = s.flt := rfl

@[simp] theorem modPort_pending (s : State) (p : Nat) (f : BrPort → BrPort) : (s.modPort p f).pending = s.pending := rfl
@[simp] theorem modPort_out (s : State) (p : Nat) (f : BrPort → BrPort) : (s.modPort p f).out = s.out := rfl
@[simp] theorem modPort_free (s : State) (p : Nat) (f : BrPort → BrPort) : (s.modPort p f).free = s.free := rfl
@[simp] theorem modPort_regs (s : State) (p : Nat) (f : BrPort → BrPort) : (s.modPort p f).regs = s.regs := rfl
@[simp] theorem modPort_mem (s : State) (p : Nat) (f : BrPort → BrPort) : (s.modPort p f).mem = s.mem := rfl
@[simp] theorem modPort_mends (s : State) (p : Nat) (f : BrPort → BrPort) : (s.modPort p f).mends = s.mends := rfl
@[simp] theorem modPort_tck (s : State) (p : Nat) (f : BrPort → BrPort) : (s.modPort p f).tck = s.tck := rfl
@[simp] theorem modPort_ctx (s : State) (p : Nat) (f : BrPort → BrPort) : (s.modPort p f).ctx = s.ctx := rfl
@[simp] theorem modPort_chg (s : State) (p : Nat) (f : BrPort → BrPort) : (s.modPort p f).chg = s.chg := rfl
@[simp] theorem modPort_sge (s : State) (p : Nat) (f : BrPort → BrPort) : (s.modPort p f).sge = s.sge := rfl
@[simp] theorem modPort_nva (s : State) (p : Nat) (f : BrPort → BrPort) : (s.modPort p f).nva = s.nva := rfl
@[simp] theorem modPort_ser (s : State) (p : Nat) (f : BrPort → BrPort) : (s.modPort p f).ser = s.ser := rfl
@[simp] theorem modPort_cfg (s : State) (p : Nat) (f : BrPort → BrPort) : (s.modPort p f).cfg = s.cfg := rfl
@[simp] theorem modPort_logic (s : State) (p : Nat) (f : BrPort → BrPort) : (s.modPort p f).logic = s.logic := rfl
@[simp] theorem modPort_mm (s : State) (p : Nat) (f : BrPort → BrPort) : (s.modPort p f).mm = s.mm := rfl
@[simp] theorem modPort_noc (s : State) (p : Nat) (f : BrPort → BrPort) : (s.modPort p f).noc = s.noc := rfl
@[simp] theorem modPort_dram (s : State) (p : Nat) (f : BrPort → BrPort) : (s.modPort p f).dram = s.dram := rfl
@[simp] theorem modPort_pcie (s : State) (p : Nat) (f : BrPort → BrPort) : (s.modPort p f).pcie = s.pcie := rfl
@[simp] theorem modPort_lanes (s : State) (p : Nat) (f : BrPort → BrPort) : (s.modPort p f).lanes = s.lanes := rfl
@[simp] theorem modPort_hc (s : State) (p : Nat) (f : BrPort → BrPort) : (s.modPort p f).hc = s.hc := rfl
@[simp] theorem modPort_pwr (s : State) (p : Nat) (f : BrPort → BrPort) : (s.modPort p f).pwr = s.pwr := rfl
@[simp] theorem modPort_flt (s : State) (p : Nat) (f : BrPort → BrPort) : (s.modPort p f).flt = s.flt := rfl

@[simp] theorem modFn_pending (s : State) (f : Nat) (g : PcieFn → PcieFn) : (s.modFn f g).pending = s.pending := rfl
@[simp] theorem modFn_out (s : State) (f : Nat) (g : PcieFn → PcieFn) : (s.modFn f g).out = s.out := rfl
@[simp] theorem modFn_free (s : State) (f : Nat) (g : PcieFn → PcieFn) : (s.modFn f g).free = s.free := rfl
@[simp] theorem modFn_regs (s : State) (f : Nat) (g : PcieFn → PcieFn) : (s.modFn f g).regs = s.regs := rfl
@[simp] theorem modFn_mem (s : State) (f : Nat) (g : PcieFn → PcieFn) : (s.modFn f g).mem = s.mem := rfl
@[simp] theorem modFn_mends (s : State) (f : Nat) (g : PcieFn → PcieFn) : (s.modFn f g).mends = s.mends := rfl
@[simp] theorem modFn_tck (s : State) (f : Nat) (g : PcieFn → PcieFn) : (s.modFn f g).tck = s.tck := rfl
@[simp] theorem modFn_ctx (s : State) (f : Nat) (g : PcieFn → PcieFn) : (s.modFn f g).ctx = s.ctx := rfl
@[simp] theorem modFn_chg (s : State) (f : Nat) (g : PcieFn → PcieFn) : (s.modFn f g).chg = s.chg := rfl
@[simp] theorem modFn_sge (s : State) (f : Nat) (g : PcieFn → PcieFn) : (s.modFn f g).sge = s.sge := rfl
@[simp] theorem modFn_nva (s : State) (f : Nat) (g : PcieFn → PcieFn) : (s.modFn f g).nva = s.nva := rfl
@[simp] theorem modFn_ser (s : State) (f : Nat) (g : PcieFn → PcieFn) : (s.modFn f g).ser = s.ser := rfl
@[simp] theorem modFn_cfg (s : State) (f : Nat) (g : PcieFn → PcieFn) : (s.modFn f g).cfg = s.cfg := rfl
@[simp] theorem modFn_logic (s : State) (f : Nat) (g : PcieFn → PcieFn) : (s.modFn f g).logic = s.logic := rfl
@[simp] theorem modFn_mm (s : State) (f : Nat) (g : PcieFn → PcieFn) : (s.modFn f g).mm = s.mm := rfl
@[simp] theorem modFn_noc (s : State) (f : Nat) (g : PcieFn → PcieFn) : (s.modFn f g).noc = s.noc := rfl
@[simp] theorem modFn_dram (s : State) (f : Nat) (g : PcieFn → PcieFn) : (s.modFn f g).dram = s.dram := rfl
@[simp] theorem modFn_ring (s : State) (f : Nat) (g : PcieFn → PcieFn) : (s.modFn f g).ring = s.ring := rfl
@[simp] theorem modFn_lanes (s : State) (f : Nat) (g : PcieFn → PcieFn) : (s.modFn f g).lanes = s.lanes := rfl
@[simp] theorem modFn_hc (s : State) (f : Nat) (g : PcieFn → PcieFn) : (s.modFn f g).hc = s.hc := rfl
@[simp] theorem modFn_pwr (s : State) (f : Nat) (g : PcieFn → PcieFn) : (s.modFn f g).pwr = s.pwr := rfl
@[simp] theorem modFn_flt (s : State) (f : Nat) (g : PcieFn → PcieFn) : (s.modFn f g).flt = s.flt := rfl

/-- A sent item is the newest one. -/
@[simp] theorem emit_out (s : State) (o : Out) : (s.emit o).out = o :: s.out := rfl

/-- What is sent changes no register. -/
@[simp] theorem emit_reg (s : State) (o : Out) (k : Nat) : (s.emit o).reg k = s.reg k := rfl
@[simp] theorem emit_fld (s : State) (o : Out) (f : Field) (i j k : Nat) : (s.emit o).fld f i j k = s.fld f i j k := rfl
@[simp] theorem emit_pword (s : State) (o : Out) (k : Nat) : (s.emit o).pword k = s.pword k := rfl
@[simp] theorem setReg_pword (s : State) (key : Nat) (v : Word) (k : Nat) : (s.setReg key v).pword k = s.pword k := rfl
@[simp] theorem setFld_pword (s : State) (f : Field) (v i j k m : Nat) : (s.setFld f v i j k).pword m = s.pword m := rfl
@[simp] theorem setPword_reg (s : State) (key : Nat) (p : PWord) (k : Nat) : (s.setPword key p).reg k = s.reg k := rfl
@[simp] theorem modGrp_reg (s : State) (g : Nat) (f : Group → Group) (k : Nat) : (s.modGrp g f).reg k = s.reg k := rfl
@[simp] theorem modTck_reg (s : State) (f : TckState → TckState) (k : Nat) : (s.modTck f).reg k = s.reg k := rfl
@[simp] theorem modPwr_reg (s : State) (f : PwrState → PwrState) (k : Nat) : (s.modPwr f).reg k = s.reg k := rfl

end Sys2Proof.Machine
end

