-- ==== Sys2Proof/Laws/Front.lean ====
section
/-! SUPPORT. What the shared operations do, said once: a register write and a register read that pass and that do not, the
lease, an access violation, and the start and the checks of a command packet. -/

namespace Sys2Proof.Machine

/-! ### Fields -/

/-- A field of a register that a register write leaves alone. -/
theorem fld_setReg_other (s : State) (g : Field) (k : Nat) (v : Word) (i j l : Nat) (h : g.key i j l ≠ k) :
    (s.setReg k v).fld g i j l = s.fld g i j l := by
  unfold State.fld
  rw [reg_setReg_other s v h]

/-- A field reads in two states alike where its register does. -/
theorem fld_congr {s t : State} (g : Field) (i j l : Nat) (h : t.reg (g.key i j l) = s.reg (g.key i j l)) :
    t.fld g i j l = s.fld g i j l := by
  unfold State.fld
  rw [h]

/-- States with the same register file have the same registers. -/
theorem reg_congr {s t : State} (h : t.regs = s.regs) (k : Nat) : t.reg k = s.reg k := by
  unfold State.reg
  rw [h]

/-- A register after a field of its slot's copy has been written. -/
theorem reg_setMfld_other (s : State) (f : Field) (slot v i k : Nat) (h : k ≠ f.key i 0 0 + slotSpan * slot) :
    (s.setMfld f slot v i).reg k = s.reg k := reg_setReg_other s _ h

/-- The frame of one register write. -/
theorem regsKeep_setReg (s : State) (k : Nat) (v : Word) : regsKeep [k] s (s.setReg k v) := by
  intro j hj
  exact reg_setReg_other s v (by simpa using hj)

theorem regsKeep_refl (l : List Nat) (s : State) : regsKeep l s s := fun _ _ => rfl

theorem regsKeep_trans {l : List Nat} {s t u : State} (h : regsKeep l s t) (h' : regsKeep l t u) : regsKeep l s u :=
  fun k hk => (h' k hk).trans (h k hk)

theorem regsKeep_mono {l l' : List Nat} {s t : State} (hl : ∀ k ∈ l, k ∈ l') (h : regsKeep l s t) : regsKeep l' s t :=
  fun k hk => h k (fun hm => hk (hl k hm))

/-- The frame of one field write. -/
theorem regsKeep_setFld (s : State) (f : Field) (v i j k : Nat) : regsKeep [f.key i j k] s (s.setFld f v i j k) :=
  regsKeep_setReg s _ _

/-- One more field write under a frame that lists its register. -/
theorem regsKeep_after_setFld {l : List Nat} {s t : State} (f : Field) (v i j k : Nat) (h : regsKeep l s t)
    (hk : f.key i j k ∈ l) : regsKeep l s (t.setFld f v i j k) :=
  regsKeep_trans h (regsKeep_mono (by simpa using hk) (regsKeep_setFld t f v i j k))

/-! ### The lease (R603) -/

/-- The lease changes OWN_STATUS alone. -/
theorem renewLease_regsKeep (m : Ident) (s : State) : regsKeep [leaseKey] s (renewLease m s) := by
  unfold renewLease startLease
  split
  · exact regsKeep_setFld s OWN_STATUS_LEASE_LEFT_MS _ 0 0 0
  · exact regsKeep_refl _ s

theorem reg_renewLease (m : Ident) (s : State) {k : Nat} (h : k ≠ leaseKey) : (renewLease m s).reg k = s.reg k :=
  renewLease_regsKeep m s k (by simpa using h)

/-- A field outside OWN_STATUS is not touched by the lease. -/
theorem fld_renewLease (m : Ident) (s : State) (g : Field) (i j k : Nat) (h : g.key i j k ≠ leaseKey) :
    (renewLease m s).fld g i j k = s.fld g i j k := fld_congr g i j k (reg_renewLease m s h)

/-- A field of OWN_STATUS other than LEASE_LEFT_MS is not touched by the lease. -/
theorem fld_renewLease_status (m : Ident) (s : State) (g : Field) (i j k : Nat)
    (h : g.apart OWN_STATUS_LEASE_LEFT_MS (g.key i j k) (OWN_STATUS_LEASE_LEFT_MS.key 0 0 0)) :
    (renewLease m s).fld g i j k = s.fld g i j k := by
  unfold renewLease startLease
  split
  · exact fld_setFld_other s _ g _ _ _ _ _ _ _ (by unfold Field.good; decide) h
  · rfl

/-- The lease changes the register file and nothing else. -/
theorem renewLease_rest (m : Ident) (s : State) : renewLease m s = { s with regs := (renewLease m s).regs } := by
  unfold renewLease startLease
  split <;> rfl

@[simp] theorem renewLease_isOwner (m n : Ident) (s : State) : (renewLease m s).isOwner n = s.isOwner n := by
  have h1 : (renewLease m s).fld OWN_STATUS_OWNED = s.fld OWN_STATUS_OWNED :=
    fld_renewLease_status m s _ 0 0 0 (by unfold Field.apart; decide)
  have h2 : (renewLease m s).fld OWN_STATUS_OWNER = s.fld OWN_STATUS_OWNER :=
    fld_renewLease_status m s _ 0 0 0 (by unfold Field.apart; decide)
  unfold State.isOwner State.owned State.owner State.on
  rw [h1, h2]

/-! ### Writes and reads of registers -/

/-- The gates are decided by CLK_GATE's three registers and the power state. -/
theorem blockOpen_congr {s t : State} (off : Nat) (hp : t.pwr = s.pwr)
    (h1 : t.reg CLK_GATE_FIXED.off = s.reg CLK_GATE_FIXED.off)
    (h2 : t.reg CLK_GATE_CLOSING_CLOSING.off = s.reg CLK_GATE_CLOSING_CLOSING.off)
    (h3 : t.reg CLK_GATE_RAMP_RAMPING.off = s.reg CLK_GATE_RAMP_RAMPING.off) : t.blockOpen off = s.blockOpen off := by
  unfold State.blockOpen State.gateOpen
  rw [hp, h1, h2, h3]

@[simp] theorem renewLease_blockOpen (m : Ident) (s : State) (off : Nat) :
    (renewLease m s).blockOpen off = s.blockOpen off :=
  blockOpen_congr off (by rw [renewLease_rest]) (reg_renewLease m s (by decide)) (reg_renewLease m s (by decide))
    (reg_renewLease m s (by decide))

/-- A write that passes has its effect, after the lease. -/
theorem regWrite_admits {s : State} {m : Ident} {r : RegName} {ix : List Nat} (h : s.admits m r ix) (w : Half)
    (eff : State → State) :
    regWrite r ix m w eff s = eff (renewLease m s) := by
  obtain ⟨hf, hb, ho⟩ := h
  unfold regWrite writeFront
  rw [if_neg (by simp [hf])]
  simp only [renewLease_blockOpen, hb, not_true_eq_false, if_false, renewLease_isOwner]
  cases ha : (regInfo r).access with
  | ownerOnly => simp [ho ha]
  | anyMaster => rfl
  | restricted => rfl

/-- A write to a gated block has no effect and counts as a violation (R639). -/
theorem regWrite_gated {s : State} {r : RegName} {ix : List Nat} (m : Ident) (hf : s.dark = false)
    (hb : s.blockOpen (r.off ix) = false) (w : Half) (eff : State → State) :
    regWrite r ix m w eff s = (violation m .response true (r.off ix + w.skip) (renewLease m s)).addFld NOC_COUNTS_GATED 1 := by
  unfold regWrite writeFront gatedAccess
  rw [if_neg (by simp [hf])]
  simp [hb]

/-- An owner-only write by another master has no effect and counts as a violation (R5). -/
theorem regWrite_notOwner {s : State} {r : RegName} {ix : List Nat} {m : Ident} (hf : s.dark = false)
    (hb : s.blockOpen (r.off ix) = true) (ha : (regInfo r).access = .ownerOnly) (ho : s.isOwner m = false)
    (w : Half) (eff : State → State) : regWrite r ix m w eff s = violation m .ownerOnly true (r.off ix + w.skip) s := by
  unfold regWrite writeFront renewLease
  rw [if_neg (by simp [hf])]
  simp [ho, hb, ha]

/-- A dark device takes no write (R622, R642, R646). -/
theorem regWrite_dark {s : State} (hf : s.dark = true) (r : RegName) (ix : List Nat) (m : Ident)
    (w : Half) (eff : State → State) : regWrite r ix m w eff s = s := by
  unfold regWrite writeFront
  simp [hf]

/-- A read that passes has its effect. -/
theorem readFront_readable {s : State} {off : Nat} (h : s.readable off) (m : Ident) (w : Half) (eff : State → State) :
    readFront m off w eff s = eff s := by
  obtain ⟨hf, hb⟩ := h
  unfold readFront
  simp [hf, hb]

/-- A read of a gated block answers zero and counts as a violation (R639). -/
theorem readFront_gated {s : State} {off : Nat} (hf : s.dark = false) (hb : s.blockOpen off = false) (m : Ident)
    (w : Half) (eff : State → State) : readFront m off w eff s =
      ((violation m .response false (off + w.skip) s).addFld NOC_COUNTS_GATED 1).emit (.answer m 0) := by
  unfold readFront gatedAccess
  simp [hf, hb]

/-! ### Command packets -/

/-- The start of a command changes the register file and the command queues, and nothing else. -/
theorem beginCommand_rest (p : Packet) (s : State) :
    beginCommand p s = { s with regs := (beginCommand p s).regs, hc := (beginCommand p s).hc } := by
  unfold beginCommand setQueue
  dsimp only
  split
  · rfl
  · split
    · split <;> rfl
    · rfl

/-- The commands in execution after a start. -/
theorem beginCommand_running (p : Packet) (s : State) :
    (beginCommand p s).hc.running = s.hc.running ++ [Running.mk p false] := by
  unfold beginCommand setQueue
  dsimp only
  split
  · rfl
  · split
    · split <;> rfl
    · rfl

/-- The check of a packet looks at the packet and the owner alone. -/
theorem packetCheck_congr {s t : State} (opcode need : Nat) (rule : IssuerRule) (p : Packet)
    (h : t.isOwner p.issuer = s.isOwner p.issuer) : packetCheck opcode need rule p t = packetCheck opcode need rule p s := by
  unfold packetCheck
  rw [h]

/-- The registers that the start of a command may change: its class queue, its issuer's submit status, HC_STATUS. -/
def startKeys (p : Packet) : List Nat :=
  [HC_QUEUEc_LEVEL.key (queueOf p.issuer) 0 0, HC_STATUS_EXECUTING.off,
   HC_SUBMIT_STATUS_RESERVED.off + slotSpan * (slotOf p.issuer).getD 0]

/-- The frame of a start. -/
theorem beginCommand_regsKeep (p : Packet) (s : State) : regsKeep (startKeys p) s (beginCommand p s) := by
  have hq : HC_QUEUEc_STARTED.key (queueOf p.issuer) 0 0 ∈ startKeys p := by simp [startKeys, Field.key, HC_QUEUEc_LEVEL, HC_QUEUEc_STARTED]
  have hl : HC_QUEUEc_LEVEL.key (queueOf p.issuer) 0 0 ∈ startKeys p := by simp [startKeys]
  have hx : HC_STATUS_EXECUTING.key 0 0 0 ∈ startKeys p := by simp [startKeys, Field.key]
  unfold beginCommand
  dsimp only
  refine regsKeep_after_setFld _ _ _ _ _ ?_ hx
  refine fun k hk => ?_
  refine (regsKeep_setFld _ _ _ _ _ _ k (by intro h; exact hk (by simp at h; rw [h]; exact hq))).trans ?_
  split
  · exact regsKeep_setFld s HC_QUEUEc_LEVEL _ _ 0 0 k (by intro h; exact hk (by simp at h; rw [h]; exact hl))
  · split
    · split
      · next n hn =>
        exact reg_setMfld_other s _ n _ 0 k (by intro h; exact hk (by simp [startKeys, hn, h, Field.key]))
      · rfl
    · rfl

end Sys2Proof.Machine
end

