-- ==== Sys2Proof/WellFormed.lean ====
section
/-! DEFINITION. Which terms of Instr are commands that the outside can make: the ranges that the types of their operands
leave open. A meaning is total on every term; WellFormed says which terms stand for something the device can meet. -/

namespace Sys2Proof

open Sys2Proof.Machine

/-- An offset of the register space, a multiple of 8 (R11, R472). -/
def regOffsetGood (off : Nat) : Bool := decide (off < 0x2000000 ∧ off % 8 = 0)

/-- A packet whose header spells an opcode, or one of no command, and its number of parameter words (R582, R583, R587). -/
def packetGood (opcode : Nat) (p : Packet) : Bool :=
  decide ((p.opcode = opcode ∨ p.opcode ∉ opcodes) ∧ p.words.length = p.len ∧ p.len ≤ 15) && submits p.issuer

/-- An action as context engine endpoints send it (R138). -/
def actionGood (a : Action) : Bool :=
  decide (a.tag < 65536 ∧ a.settle < 65536 ∧ a.dom < 16 ∧ a.kind < 8 ∧ a.attempt < 16)

/-- A Brocia frame within the ranges of its header fields (R559). -/
def frameGood (f : BrFrame) : Bool :=
  decide (f.dest < 16384 ∧ f.src < 16384 ∧ f.tag < 65536 ∧ f.data.length ≤ 64)

/-- A request of the bank store (R445, R453, R462, R472): its data or a window, inside one aligned block of 256 bytes, with a data
word for each word it writes. -/
def BankReq.good (r : BankReq) : Bool :=
  decide ((0x4002000000 ≤ r.addr ∧ r.addr < 0x4004000000) ∨ (0x4100000000 ≤ r.addr ∧ r.addr < 0x4200000000))
    && sizeGood r.addr r.size && r.data.all (fun l => decide (l.length = wordsTouched r.addr r.size))

/-- A NoC request within the ranges of its header fields (R463). -/
def nocReqGood (q : NocReq) : Bool :=
  decide (q.addr < 2 ^ 40 ∧ q.tag < 65536 ∧ q.size ≤ 256 ∧ q.data.length ≤ 32) && decide (q.op = 8 → q.answers.isSome)

/-- A host memory request of whole bytes (R545). -/
def hostReqGood (r : HostReq) : Bool :=
  decide (1 ≤ r.bytes ∧ r.bytes ≤ 4096) && r.data.all (fun l => decide (8 * l.length ≤ 4096 + 8))

/-- A branch that the device has (R631). -/
def branchGood : Branch → Bool
  | .gate n => ownGates.contains n
  | .region r => decide (r < 64)
  | .fclk k => decide (k < 24)
  | .noc => true
  | .fixed => true

/-- The commands that the outside can make. -/
def Instr.wellFormed : Instr → Bool
  | .registerWrite _ off _ _ => regOffsetGood off
  | .rcFieldRead _ off _ => regOffsetGood off
  | .bar0BadAccess _ off size _ => decide (off + size ≤ 0x4000000 ∧ 1 ≤ size) && !((decide (size = 4) || decide (size = 8)) && decide (off % size = 0))
  | .tckCountRead _ => true
  | .halfCaptureRead _ _ _ => true
  | .tickBoundary balls => balls.all (fun b => decide (b.1 < 128))
  | .tickPeriodArm _ _ _ => true
  | .tickPeriodCancel _ _ _ => true
  | .markerFrame mk => decide (16 ≤ mk.n ∧ mk.n ≤ 66666 ∧ mk.hops < 65536 ∧ mk.source < 16384)
  | .holdover => true
  | .holdoverExpire => true
  | .ptmIntervalExpire => true
  | .aonCalibration rootCycles => decide (rootCycles < 2 ^ 32)
  | .tickSetPeriod p => packetGood 0x0801 p
  | .timeAlign p => packetGood 0x0802 p
  | .timePtm p => packetGood 0x0803 p
  | .timeAlignTimeout => true
  | .ptmTimeout => true
  | .ctxCreate p => packetGood 0x0301 p
  | .ctxCreateBlock p _ _ => packetGood 0x0302 p
  | .ctxArm p => packetGood 0x0303 p
  | .ctxPause p => packetGood 0x0304 p
  | .ctxDestroy p => packetGood 0x0305 p
  | .ctxRead p => packetGood 0x0306 p
  | .bar2Read _ off _ => decide (off < 33554432)
  | .bar2Write _ off _ _ _ => decide (off < 33554432)
  | .domainCfgWrite _ _ _ _ => true
  | .visit _ _ => true
  | .resultResponse _ _ tag _ value => decide (tag < 65536 ∧ value < 2 ^ 24)
  | .flightTimeout _ => true
  | .ringWriteResponse _ pos _ => decide (pos < 2 ^ 32)
  | .ringRdWrite _ _ _ _ => true
  | .ringCfgWrite _ _ _ _ => true
  | .rebuild _ _ _ => true
  | .rebuildScanEnd => true
  | .gateClose _ _ _ _ => true
  | .gateOpen _ _ _ _ => true
  | .gateDrained b => branchGood b
  | .rampStep b => branchGood b
  | .rampEnd b => branchGood b
  | .modeWrite _ _ _ _ => true
  | .forceSafe _ _ _ _ => true
  | .periodWrite _ _ _ _ => true
  | .edgesWrite _ _ _ _ _ => true
  | .levelWrite _ _ _ _ => true
  | .safeStateWrite _ _ _ _ => true
  | .vecDataAccess _ _ _ _ => true
  | .vectorPlay _ balls _ => decide (balls.length = 16)
  | .reflexHoldEnd _ _ => true
  | .groupAction _ a => actionGood a
  | .companionClaim _ _ _ => true
  | .companionRelease _ _ _ => true
  | .companionRefused _ _ _ _ => true
  | .vectorRunStart _ => true
  | .vectorRunEnd _ => true
  | .streamGo _ _ _ _ => true
  | .streamStop _ _ _ _ => true
  | .streamReadResponse _ _ _ ws => decide (ws.length ≤ 2048)
  | .fabricVector _ _ => true
  | .measureConnect _ _ => true
  | .settleEnd _ _ loads => loads.all (fun x => decide (x.1 < 2048))
  | .adcQuantityStart _ => true
  | .adcConversionEnd _ _ _ loads => loads.all (fun x => decide (x.1 < 2048))
  | .measureRespond _ _ => true
  | .rampCrossing _ _ stamp loads => decide (stamp < 2 ^ 32) && loads.all (fun x => decide (x.1 < 2048))
  | .rampLimit _ _ loads => loads.all (fun x => decide (x.1 < 2048))
  | .rampDischargeEnd _ _ loads => loads.all (fun x => decide (x.1 < 2048))
  | .tdrStart _ => true
  | .calGroup p => packetGood 0x0401 p
  | .calLoad p => packetGood 0x0402 p
  | .calStore p unverified => packetGood 0x0403 p && unverified.all (fun g => decide (g < 128))
  | .selftestGroup p => packetGood 0x0404 p
  | .calReference p => packetGood 0x0405 p
  | .calStepEnd _ step => step.staged.all (fun e => decide (e.1 < 256))
  | .calTimeout _ => true
  | .railReading _ _ _ => true
  | .nop _ => true
  | .add _ => true
  | .sub _ => true
  | .and _ => true
  | .or _ => true
  | .xor _ => true
  | .ash _ => true
  | .abs _ => true
  | .cmp _ => true
  | .addi _ => true
  | .movi _ => true
  | .lui _ => true
  | .mpy _ => true
  | .mac _ => true
  | .msu _ => true
  | .rnd _ => true
  | .mac4s _ => true
  | .mac4v _ => true
  | .ld _ => true
  | .st _ => true
  | .ld2 _ => true
  | .st2 _ => true
  | .str _ => true
  | .modp _ => true
  | .br _ => true
  | .call _ => true
  | .ret _ => true
  | .loop _ => true
  | .loopi _ => true
  | .endl _ => true
  | .dma _ => true
  | .waitd _ => true
  | .movs _ => true
  | .endJob _ => true
  | .rti _ => true
  | .trap _ => true
  | .sgeAction _ a => actionGood a
  | .jobLimitExpire _ => true
  | .dmaResponse _ _ ws => decide (ws.length ≤ 64)
  | .sgeRunWrite _ _ _ _ => true
  | .sgeRestart _ _ _ _ => true
  | .sgeMemDataAccess _ _ _ _ => true
  | .portWaitSteal _ => true
  | .fclkWrite _ _ _ _ => true
  | .uoscEnable _ _ _ _ => true
  | .uoscDisable _ _ _ _ => true
  | .uoscReady _ => true
  | .uoscMeasure hz => decide (hz.length = 4)
  | .fabricPortRequest _ req => nocReqGood req
  | .fabricAnswer _ _ => true
  | .portTimeout _ _ _ => true
  | .nvaDataAccess _ _ _ => true
  | .nvaWriteDone => true
  | .serModeWrite _ _ _ _ => true
  | .serModeApply _ => true
  | .serTxWrite _ _ _ _ => true
  | .serRxRead _ _ _ => true
  | .uartFrameReceive _ line _ => decide (line.length ≤ 12)
  | .uartFrameSend _ _ => true
  | .spiTransfer _ _ => true
  | .i2cTransfer _ addr sent received _ => decide (addr < 1024 ∧ sent + received.length ≤ 64)
  | .canFrameReceive _ _ _ body _ _ => decide (body.length ≤ 8)
  | .canFrameSend _ _ _ => true
  | .cfgLoad p => packetGood 0x0101 p
  | .cfgAbort p => packetGood 0x0102 p
  | .cfgStart p => packetGood 0x0103 p
  | .cfgReadback p _ => packetGood 0x0104 p
  | .fuseRollback p => packetGood 0x0105 p
  | .fuseProgram p => packetGood 0x0106 p
  | .configHeader _ ws => decide (ws.length = 16)
  | .configRecord _ ws => decide (ws.length = 66)
  | .configTrailer _ ws => decide (ws.length = 32)
  | .authenticated => true
  | .starvationExpire => true
  | .cfgPushWrite _ _ _ => true
  | .doneNRise => true
  | .doneFilterMet => true
  | .readyFrame _ f => frameGood f
  | .startFrame _ f => frameGood f
  | .regionClear p => packetGood 0x0107 p
  | .regionDamper p => packetGood 0x0108 p
  | .swpSource p _ _ => packetGood 0x0109 p
  | .regionDrainDone _ => true
  | .drainLimitExpire _ => true
  | .clockLinesGated _ => true
  | .sigSweepFrame => true
  | .repairReadResponse _ _ _ _ => true
  | .memorySweepRead _ unit => decide (unit < 8192)
  | .mendedWriteBack => true
  | .sweepEnableWrite _ _ _ _ => true
  | .bankAccess a b => (a.all BankReq.good) && (b.all BankReq.good)
  | .bankOwnerWrite _ _ _ _ => true
  | .bankClearEnd _ => true
  | .bankWindowWrite _ _ _ _ _ => true
  | .nocInject _ req => nocReqGood req
  | .nocEject _ => true
  | .routerForward _ => true
  | .linkReplay _ _ _ => true
  | .epochSwitch _ _ _ => true
  | .loadXy _ _ _ => true
  | .routeTableWrite _ _ _ => true
  | .endpointDrainDone _ => true
  | .dramStart p _ => packetGood 0x0501 p
  | .dramStop p => packetGood 0x0502 p
  | .delaySweep p _ => packetGood 0x0503 p
  | .dramTableSave p _ => packetGood 0x0504 p
  | .dramRequest _ req => decide (req.src < 320 ∧ req.addr < 2 ^ 38 ∧ req.data.length = (if req.write then wordsTouched req.addr req.size else 0))
    && sizeGood req.addr req.size
  | .dramReadData _ _ data _ => decide (data.length = 8)
  | .refreshAccrue _ => true
  | .refreshSlot _ => true
  | .mr4Poll _ ranges _ => ranges.all (fun r => decide (r < 8))
  | .refreshWindowEnd _ => true
  | .alertAssert _ => true
  | .alertReplay _ => true
  | .retryBufferRelease _ => true
  | .imapWrite _ _ _ => true
  | .laneBitLock _ lossDb => decide (lossDb < 256)
  | .laneRestart _ _ _ _ => true
  | .checkerLock _ _ => true
  | .checkerLockLoss _ _ => true
  | .patternWrite _ _ _ _ => true
  | .injSingle _ _ _ _ => true
  | .injBurst _ _ _ _ => true
  | .injectionRepeat _ => true
  | .receiverDetect _ _ => true
  | .linkStageEnd _ _ => true
  | .linkStageTimeout _ => true
  | .cap _ _ => true
  | .dlyReq _ num _ => decide (num < 64)
  | .dlyRsp _ num rttPs turnPs => decide (num < 64 ∧ turnPs ≤ rttPs)
  | .hostMemoryRequest r => hostReqGood r
  | .hostConfigRequest _ tag dword _ => decide (dword < 1024 ∧ tag < 1024)
  | .hostLinkDown => true
  | .functionLevelReset _ => true
  | .l1Entry => true
  | .align _ => true
  | .alignSend _ => true
  | .ack _ seq => decide (seq < 4096)
  | .nak _ seq => decide (seq < 4096)
  | .ackSend _ => true
  | .cred _ blocks => decide (blocks.length = 4)
  | .tick _ low8 _ => decide (low8 < 256)
  | .readFrame _ f => frameGood f
  | .writeFrame _ f => frameGood f
  | .responseFrame _ f => frameGood f
  | .enumFrame _ f => frameGood f
  | .enumTableFrame _ f => frameGood f
  | .streamFrame _ f => frameGood f
  | .brociaLinkDown _ => true
  | .ringEnum p => packetGood 0x0601 p
  | .enumTimeout _ reached => decide (reached ≤ 64)
  | .ringCopy p => packetGood 0x0602 p
  | .linkRetrain p => packetGood 0x0603 p
  | .retrainTimeout _ => true
  | .raccDataAccess _ _ _ => true
  | .remoteAccessTimeout tag => decide (tag < 65536)
  | .devidWrite _ _ _ => true
  | .commandPortWrite _ off size ws => decide (HC_CMD_PORT_PACKET.off ≤ off ∧ off + size ≤ HC_CMD_PORT_PACKET.off + 128 ∧ size ≤ 8 * ws.length)
  | .commandSubmit _ _ _ => true
  | .replyPop _ _ _ => true
  | .replyInWrite _ _ ws => decide (ws.length ≤ 15)
  | .domainSet p => packetGood 0x0701 p
  | .domainRead p => packetGood 0x0702 p
  | .echo p => packetGood 0x0F01 p
  | .ownershipClaim readers => decide (readers ≠ [])
  | .handoverOffer _ _ _ => true
  | .ownerRelease _ _ _ => true
  | .handoverExpire => true
  | .leaseExpire => true
  | .mailboxSend _ _ first ws => decide (first + ws.length ≤ 8 ∧ ws ≠ [])
  | .mbxSend _ _ _ => true
  | .mailboxTake _ _ _ _ => true
  | .pwrState p => packetGood 0x0201 p
  | .clkRefSelect p => packetGood 0x0202 p
  | .powerStepEnd => true
  | .coldDelayExpire => true
  | .avsReadback _ => true
  | .avsTimeout => true
  | .aonPowerOn => true
  | .coreEnHigh => true
  | .powerOn _ => true
  | .pwrOkFall => true
  | .kindlingReady _ _ _ => true
  | .referenceQualified => true
  | .rootLock aon => decide (aon < 2 ^ 48)
  | .hearthInitDone dram => decide (dram.length = 4)
  | .clockMonitorTrip _ => true
  | .pullInDone aon => decide (aon < 2 ^ 48)
  | .freeze => true
  | .slewDone => true
  | .wakePin _ => true
  | .wakeReqWrite _ _ _ => true
  | .ringEnergyWake => true
  | .perstRise => true
  | .faultRecord => true
  | .faultReaction => true
  | .journalWrite => true
  | .journalScan => true
  | .journalRead p => packetGood 0x0F02 p
  | .haltRelease _ _ _ => true
  | .fltRaiseWrite _ _ _ => true
  | .firstCaptureRearm _ _ _ => true
  | .historyRead _ _ _ => true
  | .heartbeat => true
  | .hbLost => true
  | .tickLost => true
  | .emberFreqWrite _ _ _ => true
  | .ptmResponse _ _ => true
  | .endpointResponse _ _ _ _ _ => true
  | .companionGrant _ _ _ => true
  | .companionResult _ _ _ _ count _ => decide (count ≤ 64)
  | .userLaneWord _ _ _ => true
  | .emberEdge => true
  | .bankedJobCutoff => true
  | .refQualifyTimeout => true
  | .authenticationFailed => true
  | .doneNFall => true
  | .hostLinkUp speed width => decide (1 ≤ speed ∧ speed ≤ 5 ∧ [1, 2, 4, 8, 16].contains width)
  | .syncErrBlock _ _ _ _ => true
  | .frameCheckFail _ x => decide (x.blocks.length ≤ 63)
  | .vmemTestEnd _ _ _ => true

end Sys2Proof
end

