-- ==== Sys2Proof/Tests/Slice0.lean ====
section
/-! SUPPORT. Tests: for each statement with hypotheses a witness (wit_…) that meets them, WellFormed's refusals, and worked
examples of the manual. -/

namespace Sys2Proof.Tests

open Sys2Proof Sys2Proof.Machine

set_option Elab.async false

/-- The host function 0 as an identity. -/
def host : Ident := mkIdent 0 1 0

/-- The outcome is a next state that satisfies `f`. -/
def nextIs (o : Host.Outcome State Fault Refusal) (f : State → Bool) : Bool :=
  match o with
  | .next t => f t
  | _ => false

/-- Every register but those at the keys of `l` has the value it had. -/
def kept (l : List Nat) (s t : State) : Bool :=
  (s.regs ++ t.regs).all (fun e => l.contains e.1 || decide (t.reg e.1 = s.reg e.1))

/-- Fields written in a row. -/
def fields (s : State) : List (Field × Nat) → State
  | [] => s
  | (f, v) :: r => fields (s.setFld f v) r

/-- A running device: root locked, gates open, owned by `host`. -/
def live : State :=
  { fields (State.reset.setReg CLK_GATE_FIXED.off 0xFFFFFFFFFFFFFFFF)
      [(CLK_STATUS_ROOT, 1), (OWN_STATUS_OWNER, host.toNat), (OWN_STATUS_OWNED, 1)] with
    pwr := { PwrState.reset with phase := .up, coreEn := true, pwrOk := true } }

/-- A command packet of `host` with tag 7. -/
def pkt (opcode len : Nat) (ws : List Word) : Packet :=
  { header := mkWord [(0, 16, opcode), (16, 16, 7), (32, 8, len)], issuer := host, words := ws }

/-- Fields of copy `c` written in a row. -/
def fieldsAt (s : State) (c : Nat) : List (Field × Nat) → State
  | [] => s
  | (f, v) :: r => fieldsAt (s.setFld f v c) c r

/-- The last reply in the queue of `host` has a status and words. -/
def replied (t : State) (st : Rs) (ws : List Word) : Bool :=
  decide ((t.replyQueue 0).getLast?.map (fun r => (bits r.header 16 8, r.words)) = some (st.code, ws))

/-- A state with N = 100 in force at tick 5. -/
def ticking : State := { fields live [(TCK_PERIOD_CUR_N, 100), (TCK_COUNT_COUNT, 5)] with tck := { TckState.reset with phase := 40 } }

theorem wit_PeriodChangesBecomePending :
    (let s := fields ticking [(TCK_CHANGE_AT_AT, 9)]
     let d : Word := 0x8000000000000020
     s.admits host .TCK_PERIOD_NEXT [] ∧ s.tck.following = false ∧ s.on TCK_PERIOD_NEXT_PENDING = false ∧
     wbit .full d TCK_PERIOD_NEXT_ARM = true ∧ (wfield .full d TCK_PERIOD_NEXT_NEXT_N).getD 0 = 32 ∧ s.fld TCK_CHANGE_AT_AT = 9 ∧
     s.fld TCK_COUNT_COUNT < 9 ∧
     nextIs (exec (.tickPeriodArm host .full d) s) (fun t => decide (t.fld TCK_PERIOD_NEXT_NEXT_N = 32 ∧ t.fld TCK_PERIOD_NEXT_PENDING = 1
       ∧ t.tck.armedAt = 9 ∧ kept [leaseKey, TCK_PERIOD_NEXT_NEXT_N.off] s t))) ∧
    (let s := fields ticking [(TCK_PERIOD_NEXT_PENDING, 1)]
     let d : Word := 0x4000000000000000
     s.admits host .TCK_PERIOD_NEXT [] ∧ s.tck.following = false ∧ wbit .full d TCK_PERIOD_NEXT_CANCEL = true ∧
     wbit .full d TCK_PERIOD_NEXT_ARM = false ∧
     nextIs (exec (.tickPeriodCancel host .full d) s) (fun t => decide (t.fld TCK_PERIOD_NEXT_PENDING = 0
       ∧ kept [leaseKey, TCK_PERIOD_NEXT_NEXT_N.off] s t))) ∧
    (let p := pkt 0x0801 2 [32, 0]
     ticking.accepts 0x0801 2 .owner p ∧ ticking.tck.following = false ∧ ticking.on TCK_PERIOD_NEXT_PENDING = false ∧
     (p.w 1).toNat = 32 ∧ (p.w 2).toNat = 0 ∧
     nextIs (exec (.tickSetPeriod p) ticking) (fun t => decide (t.fld TCK_CHANGE_AT_AT = 1029 ∧ t.fld TCK_PERIOD_NEXT_PENDING = 1
       ∧ t.hc.running = []))) := by decide +kernel

theorem wit_CounterReadsAreCoherent :
    ticking.readable TCK_COUNT_COUNT.off ∧ slotOf host = some 0 ∧ ticking.readable (halfField true).off ∧
    nextIs (exec (.tckCountRead host) ticking) (fun t => decide (t.out = [.answer host 5] ∧ t.mfld TCK_SNAP_PHASE_PHASE 0 = 40)) ∧
    slotOf (mkIdent 0 1 9) = none ∧ ticking.tck.captured = [] ∧
    nextIs (exec (.halfCaptureRead host false .high) ticking) (fun t => decide (t.out = [.answer host 0])) ∧
    nextIs (exec (.halfCaptureRead host true .low) ticking) (fun t =>
      nextIs (exec (.halfCaptureRead host true .high) t) (fun u => decide (u.out = [.answer host 0, .answer host 0]))) := by
  decide +kernel

theorem wit_TickBoundaryCounts : ticking.rootRuns = true ∧ State.reset.rootRuns = false ∧
    (tickPulse ticking).fld TCK_COUNT_COUNT = 6 ∧ (tickPulse ticking).fld DEVICE_TIME_TIME = 14360 := by decide +kernel

theorem wit_FollowersLoseAndFindTheirSource :
    (let s := { ticking with tck := { ticking.tck with following := true, loadDue := false } }
     s.tck.following = true ∧
     nextIs (exec .holdover s) (fun t => t.on TCK_STATUS_HOLDOVER && kept [TCK_STATUS_HOLDOVER.off] s t)) ∧
    ticking.tck.following = false ∧ ticking.upstream = none ∧ ticking.on TCK_STATUS_HOLDOVER = false ∧
    ticking.portActive 2 = false ∧
    (let s := fields ticking [(TCK_STATUS_HOLDOVER, 1), (TCK_STATUS_ALIGNED, 1), (TCK_STATUS_QUALITY, 1)]
     s.on TCK_STATUS_HOLDOVER = true ∧ s.tck.ptmValid = false ∧
     nextIs (exec .holdoverExpire s) (fun t => decide (t.fld TCK_STATUS_ALIGNED = 0 ∧ t.fld TCK_STATUS_QUALITY = 0 ∧ t.fld FLT_SRCs_COUNT 0x041 = 1))) ∧
    (let s := (fields ticking [(TCK_CTL_ROLE, 1)]).setFld BRL_PORTp_STATUS_ACTIVE 1 2
     let mk : Marker := { port := 2, offsetPs := 0, count := 8, time := 0, n := 100, nextN := 0, pending := false, target := 0, hops := 0, source := 1 }
     s.portActive mk.port = true ∧ s.rootRuns = true ∧ s.fld TCK_CTL_ROLE = 1 ∧ s.tck.following = false ∧ lowerSource mk.source s = true ∧ markerStamp mk s = none ∧
     nextIs (exec (.markerFrame mk) s) (fun t => decide (t.tck.following ∧ t.fld TCK_STATUS_SOURCE_CONFLICT = 1
       ∧ t.fld TCK_STATUS_IS_SOURCE = 0 ∧ t.fld FLT_SRCs_COUNT 0x042 = 1))) := by decide +kernel

/-- PTM may be made by function 0. -/
def ptmState : State :=
  { ticking with pcie := { PcieState.reset with fns := [{ PcieFn.reset with busMaster := true, ptmEnable := true }] } }

theorem wit_TimeCommandsWaitForTheirAnswer :
    ticking.accepts 0x0802 0 .owner (pkt 0x0802 0 []) ∧ ticking.tck.aligning = none ∧
    ptmState.accepts 0x0803 0 .any (pkt 0x0803 0 []) ∧ ptmMay (ptmFunction host) ptmState = true ∧
    (let s := fields ptmState [(TCK_CTL_PTM_INTERVAL, 4)]
     s.on TCK_CTL_PTM_INTERVAL = true ∧ ptmMay 0 s = true) ∧
    nextIs (exec (.timePtm (pkt 0x0803 0 [])) ptmState) (fun t => decide (t.out = [.ptmRequest 0] ∧
      t.tck.ptm = [(0, some (pkt 0x0803 0 []))]) && nextIs (exec (.ptmResponse 7 40) (t.setFld CLK_STATUS_ROOT 2)) (fun u => decide (u.tck.ptm = [] ∧ u.tck.ptmValid = true))) := by decide +kernel

theorem wit_AlwaysOnCalibration : ticking.rootRuns = true ∧
    nextIs (exec (.aonCalibration 300000) ticking) (fun t => decide (t.fld TCK_AON_CAL_ROOT_PER_1024 = 300000
      ∧ kept [TCK_AON_CAL_ROOT_PER_1024.off] ticking t)) := by decide +kernel

/-- A memory of contexts: contexts stored with their owner tags. -/
def withCtx (s : State) (id d : Nat) (c : Ctx) : State := (s.putCtx id c).putTags id d

/-- Domain 3 lets `host` in, with quota 5. -/
def domained : State :=
  ((((fields ticking []).setFld CTX_DOMd_CFG_EN 1 3).setFld CTX_DOMd_CFG_QUOTA 5 3).setFld CTX_DOMd_MATCH_MATCH host.toNat 3).setFld
    CTX_DOMd_MATCH_MASK 0xFFFFFFFF 3

/-- An image of a force-voltage context on channel 17. -/
def image0 : Ctx := { w0 := mkWord [(3, 3, 0), (10, 20, 8), (30, 32, 5)], w1 := mkWord [(0, 11, 17), (11, 11, 17)], w2 := 0, w3 := 0 }

/-- A context with a stored state and NEXT_DUE. -/
def ctxIn (st due : Nat) : Ctx := { image0 with w0 := mkWord [(0, 3, st), (6, 4, 3), (10, 20, 8), (30, 32, due)] }

theorem wit_ContextsAreCreatedPaused :
    (let p := pkt 0x0301 4 [mkWord [(0, 20, 9), (32, 4, 3)], image0.w0, image0.w1, image0.w2]
     domained.accepts 0x0301 4 .any p ∧ domained.member 3 p.issuer = true ∧ image0.imageValid = true ∧ domained.quotaAllows 3 1 = true ∧
     domained.isFree 9 = true ∧
     nextIs (exec (.ctxCreate p) domained) (fun t => decide (t.ctxWords 9 = createdCtx 3 image0 ∧ t.votedOwner 9 = 3
       ∧ t.fld CTX_COUNT_RESIDENT_RESIDENT = 1 ∧ t.fld CTX_DOMd_STATUS_RESIDENT 3 = 1))) ∧
    (let p := pkt 0x0302 2 [mkWord [(0, 20, 9), (32, 21, 2), (56, 4, 3)], 0]
     let im := (image0.w0, image0.w1, image0.w2)
     domained.accepts 0x0302 2 .any p ∧ rangeValid (p.w 1) = true ∧ firstInvalid 0 ((blockImages [im, im]).take 2) = none ∧
     domained.quotaAllows 3 2 = true ∧ domained.firstNotFree 2 9 = none ∧
     nextIs (exec (.ctxCreateBlock p [im, im] .ok) domained) (fun t => decide (t.ctxWords 10 = createdCtx 3 image0 ∧
       t.fld CTX_COUNT_RESIDENT_RESIDENT = 2))) := by decide +kernel

theorem wit_ContextCommandsMoveOneContext :
    (let s := withCtx domained 9 3 (ctxIn stPaused 5)
     let p := pkt 0x0303 3 [mkWord [(0, 20, 9), (32, 21, 1)], 0, 0]
     s.accepts 0x0303 3 .any p ∧ s.badWords 9 = 0 ∧ s.member (s.votedOwner 9) host = true ∧ (s.ctxWords 9).state = stPaused ∧
     s.fld CTX_DOMd_STATUS_OVER 3 = 0 ∧ (s.ctxWords 9).fieldsValid = true ∧ armPhase (s.ctxWords 9) 0 ≤ 1048575 ∧
     s.earliestArm 1 ≤ armTick p s ∧ s.linkBad 9 = false ∧ armTick p s ≤ s.fld TCK_COUNT_COUNT + 2 ^ 30 ∧
     nextIs (exec (.ctxArm p) s) (fun t => decide (t.ctxWords 9 = (s.ctxWords 9).armedAt (armTick p s) 5 false ∧ t.isFiled 9))) ∧
    (let s := withCtx domained 9 3 (ctxIn stArmed 15)
     let p := pkt 0x0304 1 [mkWord [(0, 20, 9), (32, 21, 1)]]
     s.accepts 0x0304 1 .any p ∧ s.badWords 9 = 0 ∧ (s.ctxWords 9).state = stArmed ∧ s.votedOwner 9 < 16 ∧
     nextIs (exec (.ctxPause p) s) (fun t => decide ((t.ctxWords 9).state = stPaused ∧ (t.ctxWords 9).nextDue = 10))) ∧
    (let s := withCtx domained 9 3 (ctxIn stDone 15)
     let p := pkt 0x0305 1 [mkWord [(0, 20, 9), (32, 21, 1)]]
     s.accepts 0x0305 1 .any p ∧ s.badWords 9 = 0 ∧ (s.ctxWords 9).state = stDone ∧
     nextIs (exec (.ctxDestroy p) s) (fun t => decide (t.isFree 9 ∧ t.fld CTX_COUNT_DESTROYED_COUNT = 1))) := by decide +kernel

theorem wit_ContextReadsChangeNothing :
    (let s := withCtx domained 9 3 (ctxIn stArmed 5)
     let p := pkt 0x0306 1 [9]
     s.accepts 0x0306 1 .any p ∧ s.windowOpen ∧ bar2Place 296 8 = some (9, 1, .full) ∧ bar2Place 300 4 = some (9, 1, .high) ∧
     bar2Place 298 4 = none ∧ s.mayReadCtx host 9 = true ∧ s.badWords 9 = 0 ∧ (s.pword (ctxKey 9 1)).isBad = false ∧
     nextIs (exec (.bar2Read host 296 8) s) (fun t => decide (t.out = [.bar2 host image0.w1 false]))) ∧
    (let s := (withCtx domained 9 3 (ctxIn stArmed 5)).writePoison (ctxKey 9 1) 3
     s.mayReadCtx host 9 = true ∧ (s.pword (ctxKey 9 1)).isBad = true ∧
     nextIs (exec (.bar2Read host 296 8) s) (fun t => decide (t.out = [.bar2 host 0 true]))) ∧
    (let s := (withCtx domained 9 3 (ctxIn stArmed 5)).setFld CLK_GATE_CTX 0
     s.dark = false ∧ s.fld NOC_EPe_STATUS_DAMPER 40 = 0 ∧ s.gateOpen 5 = false ∧
     nextIs (exec (.bar2Read host 296 8) s) (fun t => decide (t.out = [.bar2 host 0 false] ∧ t.fld NOC_COUNTS_GATED = 1))) := by decide +kernel

theorem wit_ContextWindowAndDomainWrites :
    (let s := withCtx domained 9 3 (ctxIn stDone 5)
     s.windowOpen ∧ bar2Place 304 8 = some (9, 2, .full) ∧ s.isFree 9 = false ∧ s.member (s.votedOwner 9) host = true ∧ (s.pword (ctxKey 9 0)).isBad = false ∧ (s.ctxWords 9).state = stDone ∧
     nextIs (exec (.bar2Write host 304 8 77 false) s) (fun t => decide ((t.ctxWords 9).w2 = 77))) ∧
    (domained.admits host .CTX_DOMd_CFG [3] ∧ domained.shareSum - domained.fld CTX_DOMd_CFG_SHARE 3 + bits (0x14000 : Word) 8 8 ≤ 256 ∧
     256 < (domained.setFld CTX_DOMd_CFG_SHARE 250 2).shareSum + bits (0x14000 : Word) 8 8 ∧
     nextIs (exec (.domainCfgWrite host 3 .full 0x14000) domained) (fun t => decide (t.fld CTX_DOMd_CFG_SHARE 3 = 0x40 ∧
       t.fld CTX_DOMd_CFG_QUOTA 3 = 1 ∧ t.fld CTX_DOMd_CFG_EN 3 = 0 ∧
       kept [leaseKey, CTX_DOMd_CFG_EN.key 3 0 0, CTX_DOMd_STATUS_OVER.key 3 0 0] domained t))) := by decide +kernel

/-- Context 9 is due and admitted. -/
def visiting : State :=
  let s := withCtx domained 9 3 (ctxIn stArmed 5)
  { s with ctx := { s.ctx with admitted := [{ id := 9, dom := 3 }] } }

theorem wit_VisitDispatchesADueContext :
    visiting.engineRuns = true ∧ visiting.pwr.stopped = false ∧ visiting.ctx.loose = [] ∧ visiting.isFree 9 = false ∧ visiting.badWords 9 = 0 ∧ (visiting.ctxWords 9).isDue visiting.tickCount = true ∧
    (visiting.ctxWords 9).kind ≠ 7 ∧ visiting.fld CTX_CRED_t_CREDIT (visiting.ctxWords 9).target = 16 ∧ visiting.votedOwner 9 < 16 ∧
    nextIs (exec (.visit false false) visiting) (fun t => decide (t.fld CTX_CRED_t_CREDIT 1 = 15 ∧ (t.ctxWords 9).state = stInFlight ∧
      (t.ctxWords 9).nextDue = 13 ∧ t.ctx.flight.length = 1 ∧
      t.out = [.action 0 4096 1 image0.w1 0 3 0 0 5])) := by decide +kernel

/-- The state with context 9 in flight. -/
def flying : State := match exec (.visit false false) visiting with | .next t => { t with out := [] } | _ => visiting

theorem wit_ResponsesSettleFlights :
    (let c := flying.ctxWords 9
     c.state = stInFlight ∧ flying.laneFull 0 = false ∧ (flying.entryOfTag 4096).map (fun x => (x.1, x.2.target, x.2.destroy)) = some (0, 1, false) ∧
     (flying.pword (flightKey 0)).isBad = false ∧ flying.badWords 9 = 0 ∧ flying.linkBad 9 = false ∧ c.recPolicy = 0 ∧ c.verdict .ok 0 ≠ .fail ∧
     nextIs (exec (.resultResponse 0 1 4096 .ok 0) flying) (fun t => decide (t.fld CTX_CRED_t_CREDIT 1 = 16 ∧ t.ctx.flight = [] ∧
       t.ctxWords 9 = resultAfter c (c.verdict .ok 0) .ok 0 false flying.tickCount))) ∧
    flying.entryOfTag 0 = none ∧
    (let s := fields flying [(CTX_ENG_CTL_FLIGHT_TIMEOUT, 4), (TCK_COUNT_COUNT, 20)]
     (s.ctx.flight.find? (fun x => decide (x.1 = 0))).isSome ∧ s.fld CTX_ENG_CTL_FLIGHT_TIMEOUT < (s.tickCount - 5).toNat ∧
     nextIs (exec (.flightTimeout 0) s) (fun t => decide (t.fld CTX_ENG_EVENTS_TIMEOUTS = 1 ∧ t.fld CTX_CRED_t_ORPHANS 1 = 1 ∧
       t.ctx.flight = []))) ∧
    (let s := withCtx flying 9 3 (ctxIn stQuarantined 13)
     s.badWords 9 = 0 ∧ (s.ctxWords 9).state ≠ stInFlight ∧ (s.entryOfTag 4096).isSome ∧
     nextIs (exec (.resultResponse 0 1 4096 .ok 0) s) (fun t => decide (t.fld CTX_CRED_t_CREDIT 1 = 16 ∧ t.ctx.flight = [] ∧
       (t.ctxWords 9).state = stQuarantined))) := by decide +kernel

theorem wit_ResultRingPointers :
    (let s := (({ ticking with ctx := { ticking.ctx with writes := [⟨2, 8, 1, none⟩] } } : State).setFld CTX_RINGd_PENDING_PENDING 1 2).setFld CTX_RINGd_WR_WR 8 2
     s.ctx.writes = [⟨2, 8, 1, none⟩] ∧ s.fld CTX_RINGd_CFG_NOTIFY 2 = 0 ∧
     nextIs (exec (.ringWriteResponse 2 8 .ok) s) (fun t => decide (t.ctx.writes = [] ∧ t.fld CTX_RINGd_WR_WR 2 = 9 ∧
       t.fld CTX_RINGd_PENDING_PENDING 2 = 0 ∧ kept [CTX_RINGd_WR_WR.key 2 0 0, CTX_RINGd_PENDING_PENDING.key 2 0 0,
        NOC_EPe_STATUS_OUTSTANDING.key (nth 0 ctxEndpoints 1) 0 0] s t))) ∧
    (let s := ticking.setFld CTX_RINGd_WR_WR 8 2
     s.admits host .CTX_RINGd_RD [2] ∧ bits (s.merged (CTX_RINGd_RD_RD.key 2 0 0) .low 7) 0 32 = 7 ∧
     nextIs (exec (.ringRdWrite host 2 .low 7) s) (fun t => decide (t.fld CTX_RINGd_RD_RD 2 = 7)) ∧
     nextIs (exec (.ringRdWrite host 2 .low 0xFFFFFFFF) s) (fun t => kept [leaseKey] s t)) ∧
    (let s := ticking.setFld CTX_RINGd_WR_WR 8 2
     let d : Word := 0x0000000300000401
     s.admits host .CTX_RINGd_CFG [2] ∧ s.on CTX_RINGd_CFG_EN 2 = false ∧ bits d 8 5 = 4 ∧ bit d 0 = true ∧
     nextIs (exec (.ringCfgWrite host 2 .full d) s) (fun t => decide (t.fld CTX_RINGd_CFG_EN 2 = 1 ∧ t.fld CTX_RINGd_WR_WR 2 = 0 ∧
       t.fld CTX_RINGd_CFG_LOG2_SIZE 2 = 4 ∧ t.fld CTX_RINGd_CFG_NOTIFY 2 = 3))) := by decide +kernel

theorem wit_CalendarRebuild :
    ticking.admits host .CTX_ENG_CTL [] ∧ wbit .full 2 CTX_ENG_CTL_REBUILD = true ∧
    nextIs (exec (.rebuild host .full 2) ticking) (fun t => decide (t.on CTX_ENG_STATUS_REBUILDING ∧ t.fld CTX_ENG_STATUS_REBUILDS = 1 ∧
      kept [leaseKey, CTX_ENG_CTL_EN.off, CTX_ENG_STATUS_REBUILDING.off] ticking t)) ∧
    (let s := (withCtx domained 9 3 (ctxIn stArmed 15)).setFld CTX_ENG_STATUS_REBUILDING 1
     s.on CTX_ENG_STATUS_REBUILDING = true ∧ s.isFree 9 = false ∧ s.badWords 9 = 0 ∧ (s.ctxWords 9).state = stArmed ∧
     nextIs (exec .rebuildScanEnd s) (fun t => decide (t.isFiled 9 ∧ t.fld CTX_ENG_STATUS_REBUILDING = 0))) := by decide +kernel

theorem wit_ModeWritesWaitAndForceSafeActs :
    (let d : Word := 0x01050110
     ticking.admits host .CHG_MODE [37] ∧ ticking.on FLT_STATUS_HALTED = false ∧ wbit .full d CHG_MODE_FORCE_SAFE = false ∧
     bits d 4 3 < 6 ∧ (ticking.grp 37).pattern = false ∧
     nextIs (exec (.modeWrite host 37 .full d) ticking) (fun t => decide (t.fld CHG_MODE_NEXT 37 = 1 ∧ t.fld CHG_MODE_REFLEX 37 = 1 ∧
       t.fld CHG_MODE_REGION 37 = 5 ∧ t.fld CHG_MODE_PENDING 37 = 1 ∧ (t.grp 37).modeDue = 1 ∧ t.mode 37 = 0 ∧
       kept [leaseKey, CHG_MODE_MODE.key 37 0 0] ticking t))) ∧
    (let s := (ticking.setFld CHG_MODE_MODE mdTdr 37).modChan 37 4 (fun c => { c with base := 2 })
     let d : Word := 0x02000000
     s.admits host .CHG_MODE [37] ∧ wbit .low d CHG_MODE_FORCE_SAFE = true ∧ s.mode 37 ≠ mdSafe ∧ (s.grp 37).acts = [] ∧
     (s.grp 37).waiters = [] ∧
     nextIs (exec (.forceSafe host 37 .low d) s) (fun t => decide (t.mode 37 = mdSafe ∧ ((t.grp 37).chan 4).base = 3))) := by
  decide +kernel

theorem wit_GroupSettingsAreStored :
    (ticking.admits host .CHG_PERIOD [37] ∧ ticking.on CHG_STATUS_PLAYING 37 = false ∧ ticking.edgesFit 37 40 = true ∧
     nextIs (exec (.periodWrite host 37 .low 40) ticking) (fun t => decide (t.fld CHG_PERIOD_CYCLES 37 = 40 ∧
       (t.grp 37).pendPeriod = some (40, 1) ∧ kept [leaseKey, CHG_PERIOD_CYCLES.key 37 0 0] ticking t))) ∧
    (ticking.admits host .CHG_CHi_EDGES [37, 3] ∧ (ticking.grp 37).smallPeriod = 1 ∧
     nextIs (exec (.edgesWrite host 37 3 .full 0x0000004000000007) ticking) (fun t => decide (t.fld CHG_CHi_EDGES_DRIVE 37 3 = 7 ∧
       t.fld CHG_CHi_EDGES_STROBE 37 3 = 64 ∧ 3 ∈ (t.grp 37).pendEdges))) ∧
    (ticking.admits host .CHG_DRV_LEVEL [36] ∧ ticking.groupBusy 36 = false ∧ ticking.groupBusy 37 = false ∧
     nextIs (exec (.levelWrite host 36 .full 2000) ticking) (fun t => decide (t.fld CHG_DRV_LEVEL_VIH 36 = 2000 ∧
       t.fld CHG_DRV_LEVEL_VIH 37 = 2000))) ∧
    (ticking.admits host .CHG_SAFE [127] ∧
     nextIs (exec (.safeStateWrite host 127 .full 2) ticking) (fun t => decide (t.fld CHG_SAFE_STATE 127 = 2))) := by decide +kernel

theorem wit_VectorMemoryAccess :
    (let s := ticking.setFld CHG_VEC_ADDR_ADDR 32767 2
     s.admits host .CHG_VEC_DATA [2] ∧ s.on CHG_STATUS_PLAYING 2 = false ∧
     nextIs (exec (.vecDataAccess host 2 .full (some 0x33)) s) (fun t => decide ((t.pword (vmemKey 2 32767)).value = 0x33 ∧
       t.fld CHG_VEC_ADDR_ADDR 2 = 0))) ∧
    (ticking.readable (RegName.CHG_VEC_DATA.off [2]) ∧ (ticking.pword (vmemKey 2 0)).isBad = false ∧
     nextIs (exec (.vecDataAccess host 2 .full none) ticking) (fun t => decide (t.out = [.answer host 0] ∧
       t.fld CHG_VEC_ADDR_ADDR 2 = 1))) := by decide +kernel

/-- A VECTOR_RUN action of one pass from vector 3. -/
def runAction : Action := { src := 40, tag := 9, w1 := mkWord [(0, 11, 80), (40, 15, 3)], settle := 0, dom := 0, kind := 4, attempt := 0, vtick := 4 }

/-- The same action in slot 2 of group 5 in a phase. -/
def runAct (ph : ActPhase) : GAct := ⟨2, 0, runAction, ph, [], false, [], 0, none⟩

/-- Group 5 in CONTEXT mode with a group state. -/
def inGroup (x : Group) : State := (ticking.setFld CHG_MODE_MODE mdContext 5).setGrp 5 x

theorem wit_VectorRunsPlayAndAnswer :
    (let s := inGroup { Group.reset with acts := [runAct .claimed] }
     (s.grp 5).acts.find? (fun a => decide (a.act.kind = 4 ∧ a.phase = .claimed)) = some (runAct .claimed) ∧
     runMayStart (runAct .claimed) s = true ∧ (s.grp 5).run = none ∧
     nextIs (exec (.vectorRunStart 5) s) (fun t => decide (t.fld CHG_STATUS_PLAYING 5 = 1 ∧
       (t.grp 5).run = some ⟨2, 3, 3, 0, 1, loopCounts 5 s, 0, none⟩))) ∧
    (let r : VecRun := ⟨2, 3, 3, 0, 1, loopCounts 5 ticking, 0, none⟩
     let s := (inGroup { Group.reset with run := some r }).writeP (vmemKey 5 3) 0x33333333333333A4
     s.mode 5 ≠ mdSafe ∧ (s.grp 5).stream = none ∧ (s.grp 5).chans.length = 16 ∧ s.on CHG_MODE_REFLEX_ON 5 = false ∧
     (s.pword (vmemKey 5 3)).isBad = false ∧ 1 ∈ reachable (s.grp 5) 5 ∧
     nextIs (exec (.vectorPlay 5 [0, 0] []) s) (fun t => decide (t.out = [.vector 5 0x33333333333333A4 (1490 * 3300000000) [(0, 0, 0), (1, 0, 2), (1, 64, 1)]] ∧
       ((t.grp 5).chan 0).base = 0 ∧ ((t.grp 5).chan 1).base = 1)) ∧
     nextIs (exec (.vectorPlay 5 [0, 0] [0, 1]) s) (fun t => decide (((t.grp 5).chan 0).compliance = false ∧ ((t.grp 5).chan 1).compliance = true))) ∧
    (let s := (inGroup Group.reset).setFld CHG_MODE_MODE mdParametric 5
     s.mode 5 = mdParametric ∧ 1 ∈ reachable (s.grp 5) 5 ∧
     nextIs (exec (.vectorPlay 5 [0, 3000000000] []) s) (fun t => decide (t.fld CHG_CHi_LAST_STATE 5 1 = s.compare 5 1 3000000000 ∧ t.out = []))) ∧
    (let s := inGroup { Group.reset with run := some ⟨2, 3, 3, 1, 1, [], 6, some .ok⟩, acts := [runAct .playing] }
     nextIs (exec (.vectorRunEnd 5) s) (fun t => decide (t.out = [.result 40 5 9 .ok 6] ∧ (t.grp 5).run = none ∧
       t.fld CHG_STATUS_QUEUED 5 = 0))) := by decide +kernel

theorem wit_StreamsFillTheirBuffer :
    (let s := (ticking.setFld CHG_MODE_MODE mdStream 5).setFld CHG_STREAM_BASE_ADDR 6 5
     let d : Word := 0x50001
     s.admits host .CHG_STREAM_CTL [5] ∧ wbit .full d CHG_STREAM_CTL_GO = true ∧ wbit .full d CHG_STREAM_CTL_STOP = false ∧
     s.on CHG_STREAM_CTL_ARMED 5 = false ∧ s.mode 5 = mdStream ∧ bits d 8 28 = 0x500 ∧
     s.fld CHG_STREAM_AT_TICK 5 ≤ s.fld TCK_COUNT_COUNT + 2 ^ 30 ∧
     nextIs (exec (.streamGo host 5 .full d) s) (fun t => decide (t.out = [.streamRead 5 1 48 0x500] ∧ t.fld CHG_STREAM_CTL_ARMED 5 = 1 ∧
       kept [leaseKey, CHG_STREAM_CTL_ARMED.key 5 0 0, CHG_STREAM_STATUS_PLAYED.key 5 0 0] s t))) ∧
    (let x : StreamState := ⟨1, [7], 4, 1, false, true, false, 0⟩
     let s := inGroup { Group.reset with stream := some x }
     s.admits host .CHG_STREAM_CTL [5] ∧ wbit .full 2 CHG_STREAM_CTL_STOP = true ∧ (s.grp 5).stream = some x ∧
     nextIs (exec (.streamStop host 5 .full 2) s) (fun t => decide ((t.grp 5).stream = some { x with stop := true })) ∧
     nextIs (exec (.streamReadResponse 5 1 .ok [8, 9, 10, 11]) s) (fun t => decide ((t.grp 5).stream = some { x with buffer := [7, 8, 9, 10], got := 4 } ∧
       t.fld CHG_STREAM_STATUS_BUFFERED 5 = 4))) ∧
    (let s := ticking.setFld CHG_MODE_MODE mdFabric 5
     s.mode 5 = mdFabric ∧ (s.grp 5).closed = false ∧ (s.grp 5).crossing.length < 16 ∧
     nextIs (exec (.fabricVector 5 77) s) (fun t => decide ((t.grp 5).crossing = [77]))) := by decide +kernel

theorem wit_GroupActionsQueue :
    (let s := inGroup Group.reset
     ctxEndpoints.contains runAction.src = true ∧ s.gateOpen 10 = true ∧ modeAccepts (s.mode 5) 4 = true ∧ (s.grp 5).freeSlot = some 0 ∧
     nextIs (exec (.groupAction 5 runAction) s) (fun t => decide ((t.grp 5).acts.map (fun x => (x.slot, x.act)) = [(0, runAction)] ∧
       t.fld CHG_STATUS_QUEUED 5 = 1 ∧ (t.grp 5).acts.map GAct.phase = [.claimed]))) ∧
    modeAccepts (ticking.mode 5) 4 = false ∧ ctxEndpoints.contains 41 = false := by decide +kernel

theorem wit_ChannelClaims :
    (let s := inGroup Group.reset
     (s.mode 5 = mdContext ∧ (s.grp 5).step = none ∧ (s.grp 5).waiters = [] ∧ (s.grp 5).chans.length = 16 ∧ ((s.grp 5).chan 3).holder = none) ∧
     nextIs (exec (.companionClaim 83 7 2) s) (fun t => decide (((t.grp 5).chan 3).holder = some ⟨7, 2⟩ ∧ t.fbit CHG_STATUS_CLAIMED 3 5 ∧
       t.out = [.grant 83 7 2 true] ∧ kept [CHG_STATUS_CLAIMED.key 5 0 0, CHG_CHi_LAST_DRIVER.key 5 3 0] s t) &&
       decide ((t.grp 5).waiters = []) &&
       nextIs (exec (.companionRelease 83 7 2) t) (fun u => decide (((u.grp 5).chan 3).holder = none ∧ u.fbit CHG_STATUS_CLAIMED 3 5 = false)))) ∧
    (let s := inGroup { Group.reset with acts := [runAct (.claiming [200])] }
     (runAct (.claiming [200])).act.kind ≠ 3 ∧
     nextIs (exec (.companionGrant 5 2 200) s) (fun t => decide ((t.grp 5).acts = [{ runAct .claimed with held := [200] }])) ∧
     nextIs (exec (.companionRefused 5 2 200 .fenced) s) (fun t => decide (t.out = [.result 40 5 9 .fenced 0] ∧ (t.grp 5).acts = []))) ∧
    (let s := (inGroup Group.reset).modGrp 5 (fun x => x.modChan 3 (fun c => { c with hold := some (true, false) }))
     ((s.grp 5).chan 3).hold = some (true, false) ∧
     nextIs (exec (.reflexHoldEnd 5 3) s) (fun t => decide (((t.grp 5).chan 3).hold = none ∧ t.fld CHG_CHi_LAST_DRIVER 5 3 = 3))) := by
  decide +kernel

/-- A CHG_MODE write in the last epoch leaves the frozen change to its boundary and waits for the next one (R44). -/
theorem test_frozen_mode_change_stands :
    (let s := (((((ticking.setFld CFG_STATUS_STATE 4).setFld CHG_MODE_NEXT 1 37).setFld CHG_MODE_PENDING 1 37).modGrp 37 (fun x => { x with modeDue := 1 })).modTck
       (fun t => { t with phase := 14300 }))
     s.frozenSet = true ∧
     nextIs (exec (.modeWrite host 37 .full 0x20) s) (fun t =>
       let u := modeAtBoundary 37 (t.modTck (fun x => { x with ticks := 1, phase := 0 }))
       let v := modeAtBoundary 37 (u.modTck (fun x => { x with ticks := 2 }))
       decide (u.mode 37 = 1 ∧ u.fld CHG_MODE_PENDING 37 = 1 ∧ v.mode 37 = 2 ∧ v.fld CHG_MODE_PENDING 37 = 0))) := by decide +kernel

/-- A measuring action (PAIR_ISO between channels 82 and 83) in slot 2 of group 5. -/
def isoAct (ph : ActPhase) : GAct :=
  ⟨2, 4, { runAction with kind := 1, w1 := mkWord [(0, 11, 82), (11, 11, 83), (28, 4, 1), (32, 8, 9)] }, ph, [], false, [], 0, none⟩

theorem wit_MeasurementPhases :
    (let s := inGroup { Group.reset with acts := [isoAct .claimed] }
     (s.grp 5).inSlot 2 = some (isoAct .claimed) ∧ (isoAct .claimed).act.kind ≤ 2 ∧ (isoAct .claimed).act.chA = 82 ∧
     (s.grp 5).chans.length = 16 ∧ (isoAct .claimed).act.noForce = false ∧
     nextIs (exec (.measureConnect 5 2) s) (fun t => decide (((t.grp 5).chan 2).unit = .forceV ∧ (t.grp 5).inSlot 2 = some (isoAct .settling)))) ∧
    (let s := inGroup { Group.reset with acts := [isoAct .settling], chans := modNth Group.reset.chans 2 (fun c => { c with unit := .forceV, holder := some ⟨5, 2⟩ }) }
     (isoAct .settling).act.capacitance = false ∧ (isoAct .settling).act.quantityList = [(82, false)] ∧
     nextIs (exec (.settleEnd 5 2 [(82, 30000)]) s) (fun t => decide ((t.grp 5).adcQueue = [⟨0, ⟨5, 2⟩, 4, 0, false⟩] ∧
       (t.grp 5).inSlot 2 = some { isoAct .converting with quantities := 1 } ∧ t.overrange 82 = true ∧ t.out = [.unitOutput 82 30000] ∧
       kept [CHG_ADC_STATUS_WAITING.key 5 0 0] s t))) ∧
    (let q : Quantity := ⟨0, ⟨5, 2⟩, 4, 0, false⟩
     let s := inGroup { Group.reset with adcQueue := [q] }
     (s.grp 5).adc = none ∧
     nextIs (exec (.adcQuantityStart 5) s) (fun t => decide ((t.grp 5).adc = some ⟨q, 0, 0, false, true⟩ ∧ (t.grp 5).adcQueue = []))) ∧
    (let c : Conversion := ⟨⟨0, ⟨5, 2⟩, 4, 0, false⟩, 0, 0, false, true⟩
     let s := inGroup { Group.reset with adc := some c, acts := [{ isoAct .converting with quantities := 1 }] }
     s.avgCount 5 ≤ 1 ∧
     nextIs (exec (.adcConversionEnd 5 0xFFFF false []) s) (fun t => decide ((t.grp 5).adc = none ∧ (t.grp 5).inSlot 2 =
       some { isoAct .computing with quantities := 1, results := [(0, ⟨-1, 1, false⟩)] } ∧ t.fld CHG_ADC_STATUS_LAST_CODE 5 = 0xFFFF)) ∧
     nextIs (exec (.companionResult 5 2 1 8 1 true) s) (fun t => decide ((t.grp 5).inSlot 2 =
       some { isoAct .computing with quantities := 1, results := [(1, ⟨8, 1, true⟩)] }))) := by decide +kernel

theorem wit_MeasurementsAnswer :
    (let s := inGroup { Group.reset with acts := [isoAct .computing], chans := modNth Group.reset.chans 2 (fun c => { c with overrange := true }) }
     nextIs (exec (.measureRespond 5 2) s) (fun t => decide (t.out = [.result 40 5 9 .ok 0] ∧ (t.grp 5).acts = [] ∧
       t.fld CHG_MEAS_COUNT_ACTIONS 5 = 1))) ∧
    (let s := inGroup { Group.reset with acts := [isoAct (.ramping none)] }
     nextIs (exec (.rampCrossing 5 2 33 []) s) (fun t => decide ((t.grp 5).inSlot 2 = some (isoAct (.ramping (some 33)))) &&
       nextIs (exec (.rampCrossing 5 2 43 []) t) (fun u => decide ((u.grp 5).inSlot 2 = some { isoAct .discharging with ramp := some 10 } ∧
         kept [CHG_CHi_LAST_DRIVER.key 5 2 0] t u) &&
         nextIs (exec (.rampDischargeEnd 5 2 []) u) (fun v => decide ((v.grp 5).inSlot 2 = some { isoAct .computing with ramp := some 10 }))) &&
       nextIs (exec (.rampLimit 5 2 []) t) (fun u => decide ((u.grp 5).inSlot 2 = some (isoAct .discharging))))) ∧
    (let s := inGroup { Group.reset with acts := [isoAct .claimed], tdrQueue := [2] }
     (s.grp 5).tdr = none ∧
     nextIs (exec (.tdrStart 5) s) (fun t => decide ((t.grp 5).tdr = some ⟨2, false, false, 0, 0, true, 0, 0, 0, false⟩ ∧
       (t.grp 5).inSlot 2 = some (isoAct .tdr)))) := by decide +kernel

theorem wit_CalibrationCommandsBegin :
    (let p := pkt 0x0401 3 [mkWord [(0, 7, 5), (8, 8, 1)], 3, 50]
     ticking.accepts 0x0401 3 .owner p ∧ calRangeValid p = true ∧ calRange p = [5] ∧ p.w 3 ≠ 0 ∧ bits (p.w 2) 0 5 = 3 ∧
     nextIs (exec (.calGroup p) ticking) (fun t => decide (t.chg.cmds = [⟨p, [5], 0, [], none, 0, 55⟩] ∧
       t.fld CHG_CAL_STATUS_CAL_RUNNING 5 = 1))) ∧
    (let p := pkt 0x0402 3 [mkWord [(0, 7, 5), (8, 8, 1)], 2, 50]
     ticking.accepts 0x0402 3 .owner p ∧ calRangeValid p = true ∧ calRange p = [5] ∧
     nextIs (exec (.calLoad p) ticking) (fun t => decide ((t.grp 5).tasks = [⟨p, .load 2, [], 0, 0, 0, false⟩]))) ∧
    (let p := pkt 0x0405 3 [mkWord [(0, 11, 82), (11, 11, 83)], 0, 50]
     ticking.accepts 0x0405 3 .owner p ∧ p.w 3 ≠ 0 ∧
     nextIs (exec (.calReference p) ticking) (fun t => decide ((t.grp 5).tasks = [⟨p, .reference, [], 0, 0, 0, false⟩]))) ∧
    (let p := pkt 0x0404 3 [mkWord [(0, 7, 5), (8, 8, 1)], 9, 50]
     ticking.accepts 0x0404 3 .owner p ∧ calRange p = [5] ∧ bits (p.w 2) 0 5 = 9 ∧
     nextIs (exec (.selftestGroup p) ticking) (fun t => decide ((t.grp 5).tasks = [⟨p, .tests 9, [], 0, 0, 8, false⟩] ∧
       t.fld CHG_CAL_STATUS_ST_RUNNING 5 = 1))) := by decide +kernel

theorem wit_CalibrationWorkEnds :
    (let p := pkt 0x0403 1 [mkWord [(0, 7, 5), (8, 8, 1)]]
     ticking.accepts 0x0403 1 .owner p ∧ calRangeValid p = true ∧ calRange p = [5]) ∧
    (let x : CalTask := ⟨pkt 0x0401 3 [], .items 3, [], 0, 0, 0, false⟩
     let s := inGroup { Group.reset with step := some [4], tasks := [x] }
     x.stepping = true ∧ 4 < (s.grp 5).chans.length ∧
     nextIs (exec (.calStepEnd 5 ⟨false, [(7, 9)], 1, 2, 0⟩) s) (fun t => decide ((t.grp 5).step = none ∧ ((t.grp 5).chan 4).base = 3 ∧
       (t.grp 5).tasks = [{ x with staged := [(7, 9)], failTests := 1, failChans := 2 }]))) ∧
    (let p := pkt 0x0402 3 []
     let c : CalCmd := ⟨p, [5], 0, [], none, 0, 4⟩
     let s := { ticking with chg := { ticking.chg with cmds := [c] } }
     s.chg.cmds.find? (fun c => decide (c.pkt = p)) = some c ∧ c.deadline ≤ s.fld TCK_COUNT_COUNT ∧ p.opcode = 0x0402 ∧
     nextIs (exec (.calTimeout p) s) (fun t => decide (t.chg.cmds = []))) ∧
    (let x : CalTask := ⟨pkt 0x0404 3 [], .tests 17, [], 0, 0, 16, false⟩
     let s := (inGroup { Group.reset with pattern := true, tasks := [x] }).writeP (vmemKey 5 7) 99
     x.vmem.testBit 4 = true ∧ x.stepsDone = false ∧
     nextIs (exec (.vmemTestEnd 5 true false) s) (fun t => decide (t.fld CHG_ST_RESULT_RAN 5 = 16 ∧ t.mem = [] ∧
       (t.grp 5).tasks = [{ x with vmem := 0, failTests := 16 }]))) := by decide +kernel

theorem wit_RailReadings :
    (let s := ticking
     ¬ railNumber 0 800 < railNumber 0 (s.fld CHG_RAILk_LOW 2 0) ∧ ¬ railNumber 0 (s.fld CHG_RAILk_HIGH 2 0) < railNumber 0 800 ∧
     nextIs (exec (.railReading 2 0 800) s) (fun t => decide (t.fld CHG_RAILk_VALUE 2 0 = 800))) ∧
    (let s := { ticking with chg := { ticking.chg with streaks := [(9, 1)] } }
     railNumber 1 (s.fld CHG_RAILk_HIGH 2 1) < railNumber 1 60000 ∧ Memory.get (fun _ => 0) s.chg.streaks (4 * 2 + 1) = 1 ∧
     nextIs (exec (.railReading 2 1 60000) s) (fun t => decide (t.fld CHG_RAILk_OUT 2 1 = 1 ∧ t.fld FLT_SRCs_COUNT 0x282 = 1) &&
       nextIs (exec (.railReading 2 1 60001) (t.setFld CHG_RAILk_OUT 0 2 1)) (fun u => decide (u.fld CHG_RAILk_OUT 2 1 = 1 ∧ u.fld FLT_SRCs_COUNT 0x282 = 1)))) := by
  decide +kernel

/-- Engine 5 with an action job whose bank is `b`, and the instruction word `w` at its PC. -/
def inEngine (b : SgeBank) (w : BitVec 32) : State :=
  let s := { live with sge := [(5, { Sge.reset with action := b, jobRunning := true, queue := [⟨40, 9, 0, 0, 0, 0, 0, 0⟩] })] }
  s.writeP (instrKey 5 b.pc) (w.setWidth 64 ||| (w.setWidth 64) <<< 32)

/-- The state after the fetch. -/
def fetched (s : State) : State := ((fetchInstr 5 s).getD (0, s)).2

/-- A bank with D2 = 3, D3 = −1, AC1 = 5, PT1 = 7. -/
def bankA : SgeBank :=
  { SgeBank.reset 0 with d := [0, 0, 3, 0xFFFFFF] ++ List.replicate 12 0, ac := [0, 5] ++ List.replicate 6 0, pt := [0, 7] ++ List.replicate 6 0 }

/-- An instruction word of format A. -/
def fmtA (op rd ra rb : Nat) : BitVec 32 := BitVec.ofNat 32 (op * 2 ^ 26 + rd * 2 ^ 21 + ra * 2 ^ 16 + rb * 2 ^ 11)

/-- The command runs with word `w` and leaves a bank that `f` accepts; only the engine's registers change. -/
def runs (c : Instr) (op : Nat) (b : SgeBank) (w : BitVec 32) (f : SgeBank → Bool) : Bool :=
  let s := inEngine b w
  decide (s.issues 5 op w (fetched s)) &&
  nextIs (exec c s) (fun u => f (u.bank 5) && decide (u.out = s.out ∧ u.pwr = s.pwr ∧ u.hc = s.hc ∧ kept (engineKeys 5) s u))

theorem wit_SgeArithmetic :
    runs (.nop 5) 0 bankA (fmtA 0 0 0 0) (fun b => decide (b = { bankA with pc := 1 })) ∧
    runs (.add 5) 1 bankA (fmtA 1 4 2 3) (fun b => decide (b = { bankA with d := bankA.d.set 4 2, pc := 1 })) ∧
    runs (.add 5) 1 bankA (fmtA 1 17 17 2) (fun b => decide (b.getAc 1 = 0x3000005 ∧ b.acWritten = [17])) ∧
    runs (.sub 5) 2 bankA (fmtA 2 4 3 2) (fun b => decide (b.getD 4 = 0xFFFFFC ∧ b.sr = 1)) ∧
    runs (.ash 5) 6 bankA (fmtA 6 4 2 3) (fun b => decide (b.getD 4 = 1 ∧ b.sr = 0)) ∧
    runs (.abs 5) 7 bankA (fmtA 7 4 3 0) (fun b => decide (b.getD 4 = 1)) ∧
    runs (.addi 5) 9 bankA 0x2719FFFF (fun b => decide (b.getPt 0 = 6 ∧ b.sr = 0)) ∧
    runs (.and 5) 3 bankA (fmtA 3 4 2 3) (fun b => decide (b.getD 4 = 3)) ∧
    runs (.or 5) 4 bankA (fmtA 4 4 2 3) (fun b => decide (b.getD 4 = 0xFFFFFF ∧ b.sr = 1)) ∧
    runs (.xor 5) 5 bankA (fmtA 5 4 2 3) (fun b => decide (b.getD 4 = 0xFFFFFC)) ∧
    runs (.cmp 5) 8 bankA (fmtA 8 0 2 2) (fun b => decide (b = { bankA with pc := 1, sr := 2 })) ∧
    runs (.movi 5) 10 bankA 0x2A00FFFF (fun b => decide (b.getAc 0 = 0xFFFFFFFFFFFFFF ∧ b.sr = 1)) ∧
    runs (.lui 5) 11 bankA 0x2C408000 (fun b => decide (b.getD 2 = 0x800000)) ∧
    runs (.mpy 5) 16 bankA (fmtA 16 17 2 3) (fun b => decide (b.getAc 1 = 0xFFFFFFFFFFFFFD)) ∧
    runs (.mac 5) 17 bankA (fmtA 17 17 2 3) (fun b => decide (b.getAc 1 = 2)) ∧
    runs (.msu 5) 18 bankA (fmtA 18 17 2 3) (fun b => decide (b.getAc 1 = 8)) ∧
    runs (.rnd 5) 19 bankA (fmtA 19 4 17 0) (fun b => decide (b.getD 4 = 0 ∧ b.sr = 2)) ∧
    (let s := inEngine bankA (fmtA 1 4 17 3)
     arith (s.bank 5) 4 [17, 3] (fun v => v 17 + v 3) = none ∧
     nextIs (exec (.add 5) s) (fun u => decide ((u.bank 5).pc = 3 ∧ u.fld SGE_TRAP_CAUSE 5 = 3))) := by decide +kernel

theorem wit_SgeMemoryInstructions :
    runs (.mac4s 5) 0x14 bankA 0x5002D800 (fun b => decide (b.getPt 0 = 4 ∧ b.getPt 1 = 11 ∧ b.acWritten = [16])) ∧
    (let s := (inEngine bankA 0x5002D800).writeP (dataKey 5 false 0) 0xFFFFFFFF00000002
     let s := s.writeP (dataKey 5 true 7) 0x0000000500000000
     nextIs (exec (.mac4s 5) s) (fun u => decide ((u.bank 5).getAc 0 = 10))) ∧
    (let s := inEngine bankA 0x5402D800
     s.issues 5 0x15 0x5402D800 (fetched s) ∧ (s.bank 5).ac.length = 8 ∧ qAc 0x5402D800 = 0 ∧ qXmode 0x5402D800 ≠ 7 ∧
     qYmode 0x5402D800 ≠ 7) ∧
    runs (.ld 5) 0x18 bankA 0x60860000 (fun b => decide (b.getD 4 = 0 ∧ b.loaded = [4])) ∧
    (let s := (inEngine bankA 0x60864000).writeP (dataKey 5 true 7) 0x0080000100000000
     nextIs (exec (.ld 5) s) (fun u => decide ((u.bank 5).getD 4 = 0x800001 ∧ (u.bank 5).getPt 1 = 8))) ∧
    (let s := (inEngine bankA 0x60864000).writePoison (dataKey 5 true 7) 0
     loadWord 5 true 7 (fetched s) = none ∧
     nextIs (exec (.ld 5) s) (fun u => decide (u.fld SGE_TRAP_CAUSE 5 = 1 ∧ u.fld SGE_TRAP_ADDR 5 = 7 ∧ u.fld SGE_TRAP_BUS 5 = 1))) ∧
    runs (.st 5) 0x19 bankA 0x64660000 (fun b => decide (b = { bankA with pc := 1 })) ∧
    (let s := inEngine bankA 0x64660000
     nextIs (exec (.st 5) s) (fun u => decide (u.pword (dataKey 5 true 7) = PWord.clean 0xFFFFFFFF00000000))) ∧
    runs (.ld2 5) 0x1A bankA 0x68820000 (fun b => decide (b.loaded = [4, 5])) ∧
    runs (.st2 5) 0x1B bankA 0x6C420000 (fun b => decide (b.pc = 1)) ∧
    (let s := inEngine bankA 0x6C420000
     pairOk (s.bank 5) 0x6C420000 = true ∧
     nextIs (exec (.st2 5) s) (fun u => decide (u.pword (dataKey 5 true 0) = PWord.clean 0xFFFFFFFF00000003))) ∧
    runs (.str 5) 0x1C bankA 0x72244000 (fun b => decide (b.getPt 1 = 8 ∧ b.sr = 2)) ∧
    runs (.modp 5) 0x1D bankA 0x7404C000 (fun b => decide (b.getPt 1 = 11)) := by decide +kernel

theorem wit_SgeControl :
    runs (.br 5) 0x20 bankA 0x80000123 (fun b => decide (b.pc = 0x123)) ∧
    runs (.br 5) 0x20 bankA 0x80400123 (fun b => decide (b.pc = 1)) ∧
    runs (.call 5) 0x21 bankA 0x84000123 (fun b => decide (b.pc = 0x123 ∧ b.rets = [1])) ∧
    runs (.ret 5) 0x22 { bankA with rets := [9] } 0x88000000 (fun b => decide (b.pc = 9 ∧ b.rets = [])) ∧
    runs (.loop 5) 0x23 bankA 0x8C400005 (fun b => decide (b.pc = 1 ∧ b.loops = [⟨1, 5, 3⟩])) ∧
    runs (.loopi 5) 0x24 bankA 0x90000005 (fun b => decide (b.pc = 6 ∧ b.loops = [])) ∧
    runs (.loopi 5) 0x24 bankA 0x90004005 (fun b => decide (b.pc = 1 ∧ b.loops = [⟨1, 5, 2⟩])) ∧
    runs (.endl 5) 0x25 { bankA with loops := [⟨1, 9, 2⟩] } 0x94000000 (fun b => decide (b.pc = 1 ∧ b.loops = [])) ∧
    runs (.rti 5) 0x31 { bankA with sr := 0x80, tpc := 77 } 0xC4000000 (fun b => decide (b.pc = 77 ∧ b.sr = 0)) ∧
    runs (.movs 5) 0x2C { bankA with tpc := 77 } 0xB0800800 (fun b => decide (b.getD 4 = 77)) ∧
    runs (.movs 5) 0x2C bankA 0xB0024400 (fun b => decide (b.md = [3] ++ List.replicate 7 0)) ∧
    runs (.waitd 5) 0x29 bankA 0xA4000000 (fun b => decide (b.pc = 1)) ∧
    (let s := inEngine bankA 0xC8000000
     nextIs (exec (.trap 5) s) (fun u => decide ((u.bank 5).pc = 6 ∧ (u.bank 5).tpc = 1))) ∧
    (let s := inEngine bankA 0xC0400000
     s.issues 5 0x30 0xC0400000 (fetched s) ∧
     nextIs (exec (.endJob 5) s) (fun u => decide (u.out = [.result 40 133 9 .ok 3] ∧ (u.eng 5).queue = []))) ∧
    (let s := inEngine bankA 0xC0400001
     let s := { s with sge := [(5, { s.eng 5 with jobRunning := false, frameRunning := true, queue := [] })] }
     s.issues 5 0x30 0xC0400001 (fetched s) ∧
     nextIs (exec (.endJob 5) s) (fun u => decide ((u.eng 5).frameRunning = false ∧ u.fld SGE_COUNT_ERR_FRAME_ERR 5 = 1))) := by
  decide +kernel

theorem wit_SgeTraps :
    (let s := (inEngine bankA 0).writePoison (instrKey 5 0) 0
     s.canIssue 5 = true ∧ fetchInstr 5 s = none ∧
     nextIs (exec (.nop 5) s) (fun u => decide ((u.bank 5).pc = 0 ∧ bit (u.bank 5).sr srTM = true ∧ (u.eng 5).jobRunning = true))) ∧
    (let s := inEngine bankA 0xFC000000
     formatOf (opOf 0xFC000000) = none ∧ nextIs (exec (.nop 5) s) (fun u => decide ((u.bank 5).pc = 3 ∧ u.fld SGE_TRAP_PC 5 = 0))) ∧
    (let s := inEngine bankA 1
     nextIs (exec (.nop 5) s) (fun u => decide ((u.bank 5).pc = 3))) ∧
    (let s := inEngine { bankA with loops := [⟨0, 0, 2⟩] } 0x80000000
     ((fetched s).bank 5).atEnd = true ∧ nextIs (exec (.br 5) s) (fun u => decide ((u.bank 5).pc = 3))) ∧
    (let s := inEngine { bankA with sr := 0x80 } 0xFC000000
     nextIs (exec (.nop 5) s) (fun u => decide (u.on SGE_TRAP_HALTED 5 = true ∧ u.out = [.result 40 133 9 .errData 0] ∧
       u.flt.pending.map (·.source) = [0x305]))) := by decide +kernel

/-- The rounding examples of R276 and its fractional product. -/
theorem wit_SgeNumberRules :
    (SgeBank.only24 bankA (roundConvergent 0x12345680_0000)).2 = false ∧ roundConvergent 0x1234_5680_0000 = 0x12_3456 ∧
    roundConvergent 0x1234_5780_0000 = 0x12_3458 ∧ roundConvergent 0x1234_5680_0001 = 0x12_3457 ∧ roundConvergent (-0x80_0000) = 0 ∧
    result24 true (roundConvergent 0x7FFF_FFC0_0000) = (0x7FFFFF, true) ∧
    result24 false (roundConvergent 0x7FFF_FFC0_0000) = (0x800000, true) ∧
    product true 0x400000 0x400000 = 0x2000_0000_0000 ∧ roundConvergent 0x2000_0000_0000 = 0x20_0000 ∧
    wrapIn 10 8 9 = 17 := by decide +kernel

theorem wit_SgeJobsAndDma :
    (let s := fields (live.setFld SGE_CTL_RUN 1 5) []
     let a : Action := ⟨40, 9, 0, 0, 0, 0, 0, 0⟩
     nextIs (exec (.sgeAction 5 a) s) (fun u => decide ((u.eng 5).queue = [a] ∧ u.fld SGE_STATUS_STATE 5 = 2 ∧ u.fld SGE_CYCLES_BUSY 5 = 3)) ∧
     nextIs (exec (.sgeAction 5 a) live) (fun u => decide (u.out = [.result 40 133 9 .fenced 0]))) ∧
    (let s := (inEngine bankA 0).setFld SGE_CTL_JOB_LIMIT 7 5
     let s := { s with sge := [(5, { s.eng 5 with used := 7 })] }
     nextIs (exec (.jobLimitExpire 5) s) (fun u => decide (u.out = [.result 40 133 9 .errData 0] ∧ u.fld SGE_TRAP_CAUSE 5 = 7))) ∧
    (let w := fmtA 0x28 2 4 5
     let b := { bankA with d := [0, 0, 0x10, 0, 0xC000, 9] ++ List.replicate 10 0 }
     let s := inEngine b w
     s.issues 5 0x28 w (fetched s) ∧
     nextIs (exec (.dma 5) s) (fun u => decide (u.out = [.dma 5 (mkIdent s.devId 5 5) 0x10 4 none] ∧ (u.bank 5).pc = 1) &&
       nextIs (exec (.dmaResponse 5 .denied []) u) (fun v => decide ((v.bank 5).dstatus = 5 ∧ (v.eng 5).dma = none)) &&
       nextIs (exec (.dmaResponse 5 .ok [1, 2, 3, 4]) u) (fun v => decide ((v.bank 5).dstatus = 0 ∧ (v.bank 5).dmoved = 4 ∧
         (v.eng 5).dma = none ∧ v.pword (dataKey 5 false 9) = PWord.clean 0x0000000100000000)))) ∧
    (let d : SgeDma := ⟨false, 0, 1, 9, false, false, none, 1, false⟩
     let s := { live with sge := [(5, { Sge.reset with dma := some d })] }
     (storeWord 5 false 9 (storedWord 3) s).isSome ∧
     nextIs (exec (.dmaResponse 5 .ok [3]) s) (fun u => decide ((u.eng 5).dma = none ∧ (u.eng 5).action.dmoved = 1))) ∧
    (live.admits host .SGE_CTL [5] ∧ (live.eng 5).queue = [] ∧
     nextIs (exec (.sgeRunWrite host 5 .full 0x700000001) live) (fun u => decide (u.fld SGE_CTL_RUN 5 = 1 ∧
       u.fld SGE_CTL_JOB_LIMIT 5 = 7 ∧ u.fld SGE_STATUS_STATE 5 = 1))) ∧
    (let s := live.setFld SGE_TRAP_HALTED 1 5
     s.admits host .SGE_CTL [5] ∧ s.engHalted 5 = true ∧
     nextIs (exec (.sgeRestart host 5 .full 3) s) (fun u => decide (u.on SGE_TRAP_HALTED 5 = false ∧ u.fld SGE_STATUS_STATE 5 = 1))) ∧
    (live.admits host .SGE_MEM_DATA [5] ∧ live.fld SGE_MEM_ADDR_MEM 5 < 2 ∧ live.readable (SGE_MEM_DATA_WORD.key 5 0 0) ∧
     (live.pword (portKey 5 live)).value? = some 0 ∧
     nextIs (exec (.sgeMemDataAccess host 5 .full (some 77)) live) (fun u => decide (u.pword (portKey 5 live) = PWord.clean 77 ∧
       u.fld SGE_MEM_ADDR_ADDR 5 = 2)) ∧
     nextIs (exec (.sgeMemDataAccess host 5 .low none) live) (fun u => decide (u.out = [.answer host 0]))) ∧
    nextIs (exec (.portWaitSteal 5) (inEngine bankA 0)) (fun u => decide (u.fld SGE_CYCLES_BUSY 5 = 1)) := by decide +kernel

/-- Port 7 (region 7) with some state. -/
def atPort (x : FabPort) : State := { live with cfg := { live.cfg with ports := [(7, x)] } }

/-- A read of 8 bytes at the register space. -/
def readReq : NocReq := ⟨0, 0, 0x4000000000, 8, 0, 0, 33, false, [], .ok, none⟩

theorem wit_FabricPorts :
    (let s := (atPort FabPort.reset).setFld NOC_EPe_STATUS_DAMPER 0 (fabricEndpoint 7)
     (makePacket (fabricEndpoint 7) { readReq with ident := mkIdent s.devId 3 7 } s).any
       (fun k => decide ((s.credit (creditKey 1 (fabricEndpoint 7) k.channel)).held ≠ 0)) = true ∧
     s.fld NOC_EPe_STATUS_DAMPER (fabricEndpoint 7) = 0 ∧
     nextIs (exec (.fabricPortRequest 7 readReq) s) (fun u => decide ((u.fab 7).outs = [33] ∧ u.noc.mesh.length = 1 ∧ u.out = []))) ∧
    (let s := atPort FabPort.reset
     s.fld NOC_EPe_STATUS_DAMPER (fabricEndpoint 7) ≠ 0 ∧
     nextIs (exec (.fabricPortRequest 7 readReq) s) (fun u => decide (u.out = [.fabricResponse 7 33 .fenced false []])) ∧
     makePacket (fabricEndpoint 7) { readReq with size := 0, ident := mkIdent s.devId 3 7 } s = none ∧
     nextIs (exec (.fabricPortRequest 7 { readReq with size := 0 }) s) (fun u => decide (u.out = [.fabricResponse 7 33 .decode false []]))) ∧
    (let s := atPort { FabPort.reset with calls := [(40, 9)] }
     bits (0x12000009 : Word) 0 16 = 9 ∧
     nextIs (exec (.fabricAnswer 7 (.action 0x12000009)) s) (fun u => decide (u.out = [.result 40 167 9 .ok 0x12] ∧ (u.fab 7).calls = [])) ∧
     nextIs (exec (.fabricAnswer 7 (.action 0x12010009)) s) (fun u => decide (u.out = [.result 40 167 9 .errData 0]))) ∧
    (let s := atPort FabPort.reset
     nextIs (exec (.fabricAnswer 7 (.action 9)) s) (fun u => decide (u.out = [] ∧ u.fld CFG_RGNr_PORT_UNMATCHED 7 = 1))) ∧
    (let s := atPort { FabPort.reset with reqs := [(160, 4)] }
     nextIs (exec (.fabricAnswer 7 (.request 160 4 false [5])) s) (fun u => decide (u.out = [.response 160 4 .ok [5]])) ∧
     nextIs (exec (.fabricAnswer 7 (.request 160 4 true [5])) s) (fun u => decide (u.out = [.response 160 4 .errData [0]])) ∧
     nextIs (exec (.portTimeout 7 160 4) s) (fun u => decide (u.out = [.response 160 4 .errData []] ∧ (u.fab 7).late = [(160, 4)]))) := by
  decide +kernel

theorem wit_NonVolatileArray :
    (let s := fields live [(NVA_CTL_BOARD_WE, 1)]
     let s := s.setMfld NVA_ADDR_ADDR 0 0x1A005
     s.admits host .NVA_DATA [] ∧ slotOf host = some 0 ∧ nvaMayWrite host 0x1A005 s = true ∧ s.nva.waiting = [] ∧
     nextIs (exec (.nvaDataAccess host .full (some 77)) s) (fun u => decide (u.nva.waiting = [⟨host, 0, 0x1A005, .full, some 77⟩] ∧
         u.mfld NVA_ADDR_ADDR 0 = 0x1A006 ∧ kept [leaseKey, NVA_ADDR_ADDR.off] s u) &&
       nextIs (exec .nvaWriteDone u) (fun v => decide (v.pword (nvaKey 0x1A005) = PWord.clean 77 ∧ v.out = [.nvaWritten host 0x1A005]))) ∧
     nextIs (exec (.nvaDataAccess host .low (some 77)) s) (fun u => decide (u.nva.waiting = [])) ∧
     nvaReserved 0x1A005 = false ∧ (s.pword (nvaKey 0x1A005)).decode = .clean 0 ∧ s.readable NVA_DATA_WORD.off ∧
     nextIs (exec (.nvaDataAccess host .high none) s) (fun u => decide (u.out = [.answer host 0] ∧ u.mfld NVA_ADDR_ADDR 0 = 0x1A006))) ∧
    (live.admits host .NVA_DATA [] ∧ nvaMayWrite host (live.mfld NVA_ADDR_ADDR 0) live = false) := by decide +kernel

theorem wit_DividersAndOscillators :
    (live.admits host .CLK_FCLKk [23] ∧ live.pwr.fclks.length = 24 ∧
     nextIs (exec (.fclkWrite host 23 .low 0x11000) live) (fun u => decide (u.fld CLK_FCLKk_DIV 23 = 4096 ∧
       u.fld CLK_FCLKk_PENDING 23 = 1 ∧ (u.fclk 23).due = some live.nextDue)) ∧
     nextIs (exec (.fclkWrite host 23 .low 16) live) (fun u => decide (u.fld CLK_FCLKk_DIV 23 = 16 ∧ (u.fclk 23).due = none)) ∧
     nextIs (exec (.fclkWrite host 23 .low 15) live) (fun u => decide (u = renewLease host live)) ∧
     nextIs (exec (.fclkWrite host 23 .low 4097) live) (fun u => decide (u = renewLease host live))) ∧
    (live.admits host .CLK_UOSCk [3] ∧
     nextIs (exec (.uoscEnable host 3 .full 1) live) (fun u => decide (u.fld CLK_UOSCk_EN 3 = 1 ∧ u.fld CLK_UOSCk_READY 3 = 0 ∧
         u.pwr.isolated = false) &&
       nextIs (exec (.uoscReady 3) u) (fun v => decide (v.fld CLK_UOSCk_READY 3 = 1 ∧ v.rootRuns = true) &&
         nextIs (exec (.uoscMeasure [0, 0, 0, 25000000]) v) (fun w => decide (w.fld CLK_UOSCk_MEAS_HZ 3 = 25000000 ∧
             w.fld CLK_UOSCk_MEAS_HZ 2 = 0)) &&
         nextIs (exec (.uoscDisable host 3 .full 0) v) (fun w => decide (w.fld CLK_UOSCk_READY 3 = 0))))) ∧
    (let s := fields live [(CFG_STATUS_STATE, 4)]
     let s := (s.setFld CFG_RGNr_STATUS_STATE 2 7).setFld CFG_RGNr_STATUS_DAMPER 0 7
     s.pending = [] ∧ s.rootRuns = true ∧ s.tck.phase + 1 < s.tickLen ∧ s.tck.phase + 1 ≠ 96 * s.curN ∧ s.linesRun 7 = true) ∧
    ((holdEdges.map (fun e => 8 * e.length)).sum = 102400 ∧ (edgeCells (.above 3)).length = 1024 ∧
     carryFrom 64 (16 * 16384) = none ∧ carryFrom 7 (16 * 128) = some 15 ∧ clusterRow 64 16384 = 528 ∧ clusterColumn 63 0 = 896 ∧
     (Wire.run 3 120 .east 12 0).passes 3 127 = true ∧ (Wire.run 3 120 .east 12 0).passes 3 128 = false) := by decide +kernel

/-- Port 2 in a mode, with some state. -/
def inMode (mode : Nat) (p : SerPort) : State := { live.setFld SER_CTL_MODE mode 2 with ser := [(2, p)] }

/-- An entry with a datum. -/
def datum (d : BitVec 32) : SerEntry := ⟨d, false, false, false, false, false⟩

theorem wit_SerialPortRegisters :
    (let s := inMode 1 { SerPort.reset with tx := [datum 5] }
     serAdmits s host 2 (SER_CTL_MODE.key 2 0 0) ∧
     nextIs (exec (.serModeWrite host 2 .full 0xC42) s) (fun u => decide (u.serMode 2 = 1 ∧ (u.port 2).pendMode = some 2 ∧
         u.fld SER_CTL_PARITY 2 = 0 ∧ u.fld SER_CTL_WIDTH 2 = 2 ∧ (u.port 2).tx = [datum 5]) &&
       nextIs (exec (.serModeApply 2) u) (fun v => decide (v.serMode 2 = 2 ∧ v.port 2 = SerPort.reset))) ∧
     serMayWrite (mkIdent 0 3 4) 2 s = false) ∧
    (let s := inMode 5 SerPort.reset
     serAdmits s host 2 (SER_TX_DATA.key 2 0 0) ∧
     nextIs (exec (.serTxWrite host 2 .full 0x100000041) s) (fun u => decide ((u.port 2).tx = [⟨0x41, true, false, false, false, false⟩] ∧
       u.fld SER_STATUS_TX_LEVEL 2 = 1))) ∧
    (let s := inMode 5 { SerPort.reset with tx := List.replicate 64 (datum 1) }
     nextIs (exec (.serTxWrite host 2 .full 9) s) (fun u => decide (u.fld SER_STATUS_TX_OVF 2 = 1 ∧ (u.port 2).tx.length = 64))) ∧
    (let s := inMode 6 { SerPort.reset with build := [0x10, 0, 0] }
     (serEntryOf .full 0x400000000).last = true ∧
     nextIs (exec (.serTxWrite host 2 .full 0x400000000) s) (fun u => decide ((u.port 2).canTx = [[0x10, 0]] ∧ (u.port 2).build = []))) ∧
    (let s := inMode 4 { SerPort.reset with rx := [datum 5, datum 6] }
     s.readable (SER_RX_DATA.key 2 0 0) ∧
     nextIs (exec (.serRxRead host 2 .full) s) (fun u => decide (u.out = [.answer host 0x8000000000000005] ∧ (u.port 2).rx = [datum 6]))) := by
  decide +kernel

theorem wit_SerialTransfers :
    (let s := inMode 1 { SerPort.reset with tx := [⟨0xFFFFFFFF, true, false, false, false, false⟩] }
     s.on FLT_STATUS_HALTED = false ∧
     s.on SER_CTL_STOP2 2 = false ∧ ([true, true, true, true, true] : List Bool).length = serWidth 4 8 2 s ∧
     nextIs (exec (.uartFrameReceive 2 (([true, true, true, true, true, false] : List Bool).map (fun b => (b, b, b))) 0) s) (fun u => decide ((u.port 2).rx =
       [⟨0x1F, false, false, true, false, false⟩])) ∧
     nextIs (exec (.uartFrameReceive 2 [] 11) s) (fun u => decide ((u.port 2).rx = [⟨0, true, false, false, false, false⟩])) ∧
     nextIs (exec (.uartFrameSend 2 false) s) (fun u => decide (u.out = [.uart 2 (List.replicate 13 false ++ [true]) 1024] ∧ (u.port 2).tx = [])) ∧
     s.on SER_CTL_FLOW 2 = false ∧ (s.setFld SER_CTL_FLOW 1 2).on SER_CTL_FLOW 2 = true) ∧
    (let s := (inMode 1 { SerPort.reset with tx := [datum 0x15] }).setFld SER_CTL_PARITY 2 2
     nextIs (exec (.uartFrameSend 2 false) s) (fun u => decide (u.out =
       [.uart 2 [false, true, false, true, false, true, false, true] 1024]))) ∧
    (let s := inMode 2 { SerPort.reset with tx := [⟨0x1234, false, false, false, true, false⟩] }
     nextIs (exec (.spiTransfer 2 0xFFFF) s) (fun u => decide (u.out =
       [.spi 2 (spiHalves false false [false, false, true, true, false, true, false, false]) 1025 true] ∧ (u.port 2).rx = [datum 0xFF] ∧
       u.serPin 2 3 false = .low ∧ s.serPin 2 3 false = .high))) ∧
    (let s := inMode 3 SerPort.reset
     nextIs (exec (.spiTransfer 2 0xFFFF) s) (fun u => decide (u.out = [.spiReply 2 (List.replicate 8 false)] ∧ u.fld SER_STATUS_TX_UNDER 2 = 1 ∧ u.serPin 2 2 true = .float))) ∧
    (let s := inMode 4 { SerPort.reset with tx := [datum 0xA0, datum 7] }
     nextIs (exec (.i2cTransfer 2 0x50 1 [9] .nack) s) (fun u => decide (u.out = [.i2c 2 false [0xA0] true 100] ∧ u.fld SER_STATUS_NACK 2 = 1 ∧
       (u.port 2).rx = [datum 9] ∧ (u.port 2).tx = [datum 7]))) ∧
    (let s := (inMode 6 { SerPort.reset with canTx := [[0x10, 0]] }).setFld SER_CAN_FILTERj_EN 1 2 3
     canFilter 2 0x10 s = some 3 ∧ s.on SER_STATUS_BUS_OFF 2 = false ∧
     nextIs (exec (.canFrameReceive 2 0x10 7 [] 0 .none) (s.setFld DEVICE_TIME_TIME 50)) (fun u => decide ((u.port 2).canRx = [[0x30000000010, 43]])) ∧
     nextIs (exec (.canFrameReceive 2 0x10 7 [] 0 .error) s) (fun u => decide (u.fld SER_STATUS_REC 2 = 1)) ∧
     nextIs (exec (.canFrameSend 2 0 .sent) s) (fun u => decide (u.out = [.can 2 [0x10, 0] ⟨1, 1, 1, 1⟩ none false] ∧ (u.port 2).canTx = [])) ∧
     nextIs (exec (.canFrameSend 2 0 .error) (s.setFld SER_STATUS_TEC 248 2)) (fun u => decide (u.fld SER_STATUS_BUS_OFF 2 = 1)) ∧
     canPassive 2 (s.setFld SER_STATUS_TEC 128 2) = true ∧
     (s.setFld SER_STATUS_BUS_OFF 1 2).on SER_STATUS_BUS_OFF 2 = true) ∧
    (let s := inMode 5 SerPort.reset
     s.fld SER_CTL_ADDR 2 % 128 ≠ 9 ∧ s.serMode 2 = 5) := by
  decide +kernel

/-- A partial header that names region 3, with 7 frames. -/
def header3 : List Word :=
  let ws : List Word := [mkWord [(0, 32, 0x43585044), (40, 24, 0x84204C)], mkWord [(0, 16, 1), (16, 16, 1)], 8,
    mkWord [(0, 32, 7), (32, 32, 128 + 528 * 7 + 256)]] ++ List.replicate 12 0
  ws.set 15 ((headerCrc ws).setWidth 64 <<< 32)

/-- A load from flash of a partial stream, and the state in which it runs. -/
def load3 : Load := Load.fresh none 0 true 0
def loading (l : Load) : State := { live with cfg := { live.cfg with load := some l } }

/-- The header of `header3` taken. -/
def taken3 : Load := { load3 with header := some (headerOf header3), targets := [3], gated := [3], sha := Sha.start.feed header3 }

/-- The record of frame 0 of region 3, all ones. -/
def record3 : List Word :=
  let f : List Word := List.replicate 64 0xFFFFFFFFFFFFFFFF
  0x6000000 :: f ++ [(frameCrc 0x6000000 f).setWidth 64]

theorem wit_ConfigurationCommands :
    (let p := pkt 0x0101 2 [0x10, 0x1000]
     live.accepts 0x0101 (loadNeed (p.w 1)) .owner p ∧ live.banked = false ∧ live.cfg.load = none ∧
     nextIs (exec (.cfgLoad p) live) (fun t => decide (t.out = [.streamFetch 0 0x1000] ∧ t.cfg.load = some (Load.fresh (some p) 0 true 0x1000)))) ∧
    (let p := pkt 0x0102 0 []
     (loading load3).accepts 0x0102 0 .owner p ∧
     nextIs (exec (.cfgAbort p) (loading load3)) (fun t => decide (t.cfg.load = none ∧ t.fld CFG_STATUS_FAIL = 10))) ∧
    (let s := { live.setFld CFG_STATUS_STATE cfReady with tck := live.tck }
     s.accepts 0x0103 1 .owner (pkt 0x0103 1 [5]) ∧ s.cfState = cfReady ∧
     nextIs (exec (.cfgStart (pkt 0x0103 1 [5])) s) (fun t => decide (t.cfg.startTick = some 5)) ∧
     nextIs (exec (.cfgStart (pkt 0x0103 1 [0])) s) (fun t => decide (t.cfg.startDue = some 1)) ∧
     nextIs (exec (.cfgStart (pkt 0x0103 1 [5])) live) (fun t => decide (t.cfg.startTick = none))) ∧
    (let p := pkt 0x0104 2 [7, 0]
     live.accepts 0x0104 2 .owner p ∧ live.on CFG_FUSE_READBACK_DIS = false ∧ live.cfg.running = none) ∧
    (let p := pkt 0x0105 1 [9]
     let s := { live with cfg := { live.cfg with running := some { headerOf header3 with rollback := 4 } } }
     s.accepts 0x0105 1 .owner p ∧ nextIs (exec (.fuseRollback p) s) (fun t => decide (t.fld CFG_FUSE_ROLLBACK = 4))) ∧
    (let p := pkt 0x0106 1 [5]
     let s := live.setFld CFG_FUSE_FUSE_EN 1
     s.accepts 0x0106 1 .owner p ∧ (s.cfg.fuses.program 5 []).isSome ∧ fuseNeed 5 ≤ p.len ∧
     nextIs (exec (.fuseProgram p) s) (fun t => decide (t.fld CFG_FUSE_REVOKED = 2)) ∧ live.on CFG_FUSE_FUSE_EN = false) ∧
    (let l := Load.fresh (some (pkt 0x0101 2 [2, 0])) 2 false 0
     (loading l).admits host .CFG_PUSH [] ∧
     nextIs (exec (.cfgPushWrite host .full 77) (loading l)) (fun t => decide (t.cfg.load = some { l with push := [77] } ∧
       t.fld CFG_PROGRESS_BYTES = 8))) := by decide +kernel

set_option maxRecDepth 1000000 in
theorem wit_ConfigurationStream :
    ((loading load3).cfg.forward = false ∧ headerCheck true header3 (loading load3) = none ∧
     regionsOf (headerOf header3).mask = [3] ∧ (loading load3).tdamper 3 = dmShut ∧
     nextIs (exec (.configHeader .ok header3) (loading load3)) (fun t => decide (t.cfg.load = some taken3 ∧ t.tstate 3 = stLoading)) ∧
     headerCheck true (header3.set 0 0) (loading load3) = some 1 ∧ headerCheck true (header3.set 4 1) (loading load3) = some 2 ∧
     nextIs (exec (.configHeader .errData header3) (loading load3)) (fun t => decide (t.fld CFG_STATUS_FAIL = 7)) ∧
     nextIs (exec (.configHeader .ok (header3.set 4 1)) (loading load3)) (fun t => decide (t.cfg.load = none ∧ t.fld CFG_STATUS_FAIL = 2))) ∧
    (taken3.allGated = true ∧ (headerOf header3).count = 7 ∧ recordGood taken3 (headerOf header3) record3 = true ∧
     nextIs (exec (.configRecord .ok record3) (loading taken3)) (fun t => decide (t.fld CFG_PROGRESS_FRAMES = 1 ∧
       t.cfg.frames = [(0x6000000, List.replicate 64 0xFFFFFFFFFFFFFFFF)])) ∧
     recordGood taken3 (headerOf header3) (record3.set 7 0) = false ∧
     nextIs (exec (.configRecord .ok (record3.set 7 0)) (loading taken3)) (fun t => decide (t.fld CFG_STATUS_FAIL = 6 ∧ t.tstate 3 = stCleared))) ∧
    (let l := { taken3 with received := 7, required := 6112 }
     let ws : List Word := 0x45585044 :: List.replicate 31 0
     trailerFormed false ws = true ∧ (headerOf header3).enc = false ∧ (loading l).on CFG_FUSE_SLOTS = false ∧
     l.required = requiredFrames l ∧ sha384 ((ws.drop 4).take 12) ≠ [1] ∧
     nextIs (exec (.configTrailer .ok ws) (loading l)) (fun t => t.cfg.load.any (fun x => x.trailer)) ∧
     nextIs (exec (.configTrailer .ok ws) (loading { l with required := 7 })) (fun t => decide (t.fld CFG_STATUS_FAIL = 6)) ∧
     nextIs (exec (.configTrailer .ok (ws.set 1 1)) (loading l)) (fun t => decide (t.fld CFG_STATUS_FAIL = 2)) ∧
     nextIs (exec (.configTrailer .ok ws) ((loading l).setFld CFG_FUSE_SLOTS 1)) (fun t => decide (t.fld CFG_STATUS_FAIL = 3))) ∧
    (let l := { taken3 with gated := [] }
     nextIs (exec (.clockLinesGated 3) (loading l)) (fun t => decide (t.cfg.load = some taken3))) ∧
    (let l := { taken3 with trailer := true, cmd := some (pkt 0x0101 2 []) }
     nextIs (exec .authenticated (loading l)) (fun t => decide (t.cfg.load = some { l with due := some 1 })) ∧
     nextIs (exec .authenticationFailed (loading { l with verdict := some 8 })) (fun t => decide (t.fld CFG_STATUS_FAIL = 8)) ∧
     nextIs (exec .starvationExpire (loading { l with trailer := false, header := none })) (fun t => decide (t.fld CFG_STATUS_FAIL = 7))) ∧
    (let l := { taken3 with trailer := true, part := false, header := some { headerOf header3 with flags := 8 } }
     ({ headerOf header3 with flags := 8 } : LoadHeader).startMode = 2 ∧
     nextIs (exec .authenticated (loading l)) (fun t => decide (t.cfState = cfReady ∧ t.cfg.startDue = some 1))) ∧
    (let s := { live with cfg := { live.cfg with doneFilter := true, ready := some ({ headerOf header3 with flags := 0 }, false) } }
     nextIs (exec .doneFilterMet s) (fun t => decide (t.cfg.startDue = some 1)) ∧
     nextIs (exec .doneNRise live) (fun t => decide (t.fld CFG_STATUS_DONE_IN = 1)) ∧
     nextIs (exec .doneNFall live) (fun t => decide (t.fld CFG_STATUS_DONE_IN = 0))) ∧
    (let s := fields (live.setFld BRL_PORTp_STATUS_ACTIVE 1 1) [(BRL_ID_DEVID, 9), (BRL_ID_ASSIGNED, 1), (TCK_STATUS_IS_SOURCE, 1)]
     s.portActive 1 = true ∧ s.devId = 9 ∧
     nextIs (exec (.readyFrame 1 { sysFrame s 4 9 [12] with src := 12 }) s) (fun t => decide (t.cfg.readyIds = [12])) ∧
     (let s := { s.setFld CFG_STATUS_STATE cfReady with cfg := { s.cfg with ready := some ({ headerOf header3 with flags := 4 }, false) } }
      ({ headerOf header3 with flags := 4 } : LoadHeader).startMode = 1 ∧ s.portActive 0 = false ∧
      nextIs (exec (.startFrame 1 { sysFrame s 5 9 [1024] with src := 12 }) s) (fun t => decide (t.cfg.startTick = some 1024)))) := by
  decide +kernel

set_option maxRecDepth 1000000 in
theorem wit_RegionsAndSignatures :
    (let p := pkt 0x0107 1 [8]
     let s := live.setFld CFG_RGNr_STATUS_STATE stLoaded 3
     s.accepts 0x0107 1 .owner p ∧ regionsOf 8 = [3] ∧ s.tdamper 3 = dmShut ∧ live.tstate 3 = stCleared ∧
     nextIs (exec (.regionClear p) s) (fun t => decide (t.cfg.load = some { Load.fresh (some p) 0 true 0 with clear := true, targets := [3] }))) ∧
    (let s := (live.setFld CFG_RGNr_STATUS_STATE stLoaded 3).setFld CFG_RGNr_STATUS_DAMPER dmOpen 3
     let p := pkt 0x0108 2 [8, 0]
     s.accepts 0x0108 2 .owner p ∧ (List.range 128).all (fun g => decide (s.mode g ≠ mdFabric)) = true ∧
     nextIs (exec (.regionDamper p) s) (fun t => decide (t.tdamper 3 = dmClosing ∧ t.cfg.dampers = [⟨p, [3], 1, 0⟩] ∧ t.outstandingOf 3 = 0) &&
       nextIs (exec (.regionDrainDone 3) t) (fun u => decide (u.tdamper 3 = dmShut ∧ u.cfg.dampers = [])))) ∧
    (let s := live.setFld CFG_RGNr_STATUS_STATE stLoaded 3
     let p := pkt 0x0108 2 [8, 1]
     s.accepts 0x0108 2 .owner p ∧
     nextIs (exec (.regionDamper p) s) (fun t => decide (t.cfg.opens = [⟨p, s.nextDue, 8, 0⟩]))) ∧
    (let s := (atPort { FabPort.reset with calls := [(40, 9)], outs := [5] }).setFld CFG_RGNr_STATUS_DAMPER dmClosing 7
     nextIs (exec (.drainLimitExpire 7) s) (fun u => decide (u.tdamper 7 = dmShut ∧ u.out = [.result 40 167 9 .fenced 0] ∧
       u.fab 7 = { FabPort.reset with reserved := [5], forcedCalls := [9] }))) ∧
    (let s := { live with cfg := { live.cfg with kept := [(3, ⟨0, 0, copyDigest header3⟩)] } }
     let p := pkt 0x0109 2 [0x8000, 0]
     s.accepts 0x0109 2 .owner p ∧ headerForeign header3 = false ∧ headerFormed header3 = true ∧
     nextIs (exec (.swpSource p .ok header3) s) (fun u => decide (u.cfg.copies = [(3, 0x8000)] ∧ u.fbit SWP_SIG_SRC_REGIONS 3 = true))) ∧
    (let s := live.setFld SWP_SIG_CTL_EN 1
     (s.pword (sigKey 0)).decode = .clean (s.pword (sigKey 0)).data ∧ s.tstate (sweptTarget 0) ≠ stLoading ∧
     nextIs (exec .sigSweepFrame s) (fun u => decide (u.cfg.sweepNext = 1 ∧ u.out = [] ∧ u.fld SWP_SIG_STATUS_POSITION = 1)) ∧
     (let s := { s with cfg := { s.cfg with frames := [(0, List.replicate 64 1)] } }
      nextIs (exec .sigSweepFrame s) (fun u => decide (u.fld SWP_SIG_FAIL_NO_SOURCE = 1 ∧ u.fld SWP_SIG_COUNT_MISMATCH = 1)))) ∧
    (let s := { live.setFld CFG_RGNr_STATUS_STATE stLoaded 0 with cfg := { live.cfg with repair := some 0, frames := [(0, List.replicate 64 1)] } }
     let w : Word := BitVec.ofNat 64 (entryOf (s.pword (sigKey 0)).value 0)
     sweptNumber 0 = some 0 ∧ s.tstate (addrTarget 0) = stLoaded ∧
     nextIs (exec (.repairReadResponse .ok [] ((0 : Word) :: List.replicate 64 0 ++ [w]) clearedFrame) s) (fun u => decide
       (u.cfg.frames = [] ∧ u.fld SWP_SIG_COUNT_REPAIRED = 1 ∧ u.cfg.repair = none))) := by decide +kernel

/-- The example of R432: 1 stores RP 0x01 and CP 0xFE; data bit 27 and RP[2] are mended, data bits 27 and 28 are not. -/
theorem wit_CrossParityMendsOneAndDetectsTwo :
    checkBits 1 = 0xFE01 ∧ ((PWord.clean 1).upset 27).sr = 8 ∧ ((PWord.clean 1).upset 27).sc = 8 ∧
    ((PWord.clean 1).upset 27).decode = .mended 1 ∧ ((PWord.clean 1).upset 66).sr = 4 ∧ ((PWord.clean 1).upset 66).sc = 255 ∧
    ((PWord.clean 1).upset 66).decode = .mended 1 ∧ (((PWord.clean 1).upset 27).upset 28).sr = 0 ∧
    (((PWord.clean 1).upset 27).upset 28).sc = 0x18 ∧ (((PWord.clean 1).upset 27).upset 28).decode = .bad := by decide +kernel

theorem wit_ProtectedWords :
    (let s := { live.setPword 9 ((PWord.clean 5).upset 3) with mends := [9] }
     (s.pword 9).decode = .mended 5 ∧ (s.pword 9).value? = some 5 ∧ (s.pword 9).mark = 0 ∧
     nextIs (exec .mendedWriteBack s) (fun t => decide (t.pword 9 = PWord.clean 5 ∧ t.mends = [])) ∧
     s.writeMasked 9 0xFF 0x1207 false = some (s.writeP 9 7)) ∧
    ((live.writePoison 9 1).pword 9).isBad = true := by decide +kernel

theorem wit_SweepsAndBanks :
    (let s := (live.setFld SWP_MEMk_CTL_EN 1 3).setPword (sgeKey 5 0) ((PWord.clean 5).upset 3)
     s.sweepPos 3 5 = 0 ∧ (s.sweepUnits 3).contains 5 = true ∧ s.sweepFree 3 5 = true ∧ 1 < sweepLength 3 ∧ sweepKey 3 5 0 = sgeKey 5 0 ∧
     nextIs (exec (.memorySweepRead 3 5) s) (fun t => decide (t.mends = [sgeKey 5 0] ∧ t.fld SWP_MEMk_COUNT_CORR 3 = 1)) ∧
     nextIs (exec (.memorySweepRead 3 5) (s.setPword (sgeKey 5 0) (((PWord.clean 5).upset 3).upset 4))) (fun t => decide
       ((t.pword (sgeKey 5 0)).mark = 3 ∧ t.fld SWP_MEMk_COUNT_UNCORR 3 = 1 ∧ t.flt.pending.map (·.source) = [0x3C3] ∧
        t.fld SWP_MEMk_LAST_UNIT 3 = 5))) ∧
    (live.admits host .SWP_MEMk_CTL [7] ∧
     nextIs (exec (.sweepEnableWrite host 7 .low 0x90001) live) (fun t => decide (t.fld SWP_MEMk_CTL_PACE 7 = 9 ∧ t.on SWP_MEMk_CTL_EN 7 = true))) ∧
    (let r : BankReq := ⟨host, 0x4003FFFFF8, 8, none, false⟩
     let x : BankReq := ⟨host, 0x41FFF00000 + 8 * 131071, 8, some [80], false⟩
     let s := (live.setFld BNK_OWNERb_IDENT host.toNat 255).writeP (bankWordKey 255 16383) 77
     let y := s.setReg (BNK_WINb_j_BASE.key 255 15 0) 0x8000000000023FFE
     s.bankOwner 255 = host ∧ s.on BNK_OWNERb_CLEARING 255 = false ∧
     nextIs (exec (.bankAccess (some r) none) s) (fun t => decide (t.out = [.bank false host .ok [77]])) ∧
     nextIs (exec (.bankAccess none (some { r with data := some [78] })) s) (fun t => decide
       (t.out = [.bank true host .ok []] ∧ t.pword (bankWordKey 255 16383) = PWord.clean 78)) ∧
     nextIs (exec (.bankAccess (some { r with data := some [78] }) (some { r with data := some [79] })) s) (fun t => decide
       (t.out = [.bank false host .ok []] ∧ t.pword (bankWordKey 255 16383) = PWord.clean 78) &&
       nextIs (exec (.bankAccess none none) t) (fun u => decide (u.pword (bankWordKey 255 16383) = PWord.clean 79))) ∧
     nextIs (exec (.bankAccess none (some { r with addr := 0x4003FFFFFA, size := 1, data := some [0x550000] })) s) (fun t => decide
       (t.pword (bankWordKey 255 16383) = PWord.clean 0x55004D)) ∧
     nextIs (exec (.bankAccess (some r) none) (s.writePoison (bankWordKey 255 16383) 0)) (fun t => decide (t.out = [.bank false host .errData [0]])) ∧
     nextIs (exec (.bankAccess (some r) none) (s.setFld BNK_OWNERb_CLEARING 1 255)) (fun t => decide (t.out = [] ∧ t.mm.held.length = 1)) ∧
     nextIs (exec (.bankAccess (some { r with ident := 9 }) none) s) (fun t => decide (t.out = [.bank false 9 .denied [0]] ∧
       t.fld BNK_VIOLb_COUNT 255 = 1)) ∧
     nextIs (exec (.bankAccess (some x) none) s) (fun t => decide (t.out = [.bank false host .decode []])) ∧
     y.fld BNK_WINb_j_BASE 255 15 = 16382 ∧ y.fld BNK_WINb_j_LEN 255 15 = 2 ∧ y.on BNK_WINb_j_EN 255 15 = true ∧
     nextIs (exec (.bankAccess (some x) none) y) (fun t => decide (t.out = [.bank false host .ok []] ∧
       t.pword (bankWordKey 255 16383) = PWord.clean 80))) ∧
    (live.admits host .BNK_OWNERb [255] ∧ live.isOwner host = true ∧
     nextIs (exec (.bankOwnerWrite host 255 .full 0x100000055) live) (fun t => decide (t.fld BNK_OWNERb_IDENT 255 = 0x55 ∧
         t.on BNK_OWNERb_CLEARING 255 = true) &&
       nextIs (exec (.bankClearEnd 255) (t.writeP (bankWordKey 255 3) 9)) (fun u => decide (u.on BNK_OWNERb_CLEARING 255 = false ∧ u.mem = []))) ∧
     live.admits 9 .BNK_OWNERb [255] ∧ live.isOwner 9 = false ∧ live.bankOwner 255 ≠ 9) ∧
    (live.admits host .BNK_WINb_j [255, 15] ∧
     nextIs (exec (.bankWindowWrite host 255 15 .full 0x8000000000013FFF) live) (fun t => decide (t.fld BNK_WINb_j_BASE 255 15 = 16383 ∧
       t.fld BNK_WINb_j_LEN 255 15 = 1 ∧ t.fld BNK_WINb_j_EN 255 15 = 1)) ∧
     nextIs (exec (.bankWindowWrite host 255 15 .full 0x8000000000023FFF) live) (fun t => decide (t = renewLease host live))) := by decide +kernel

/-- A read of a register of the power block, sent by signal-engine endpoint 41 (router 10). -/
def meshRead : NocPacket :=
  { destRtr := 49, destEp := 0, srcRtr := 10, srcEp := 1, vnet := 2, vc := 0, epoch := false, op := 0, len := 0, poison := false,
    tag := 21, status := 0, ident := 0x14001, tick := 0, body := accessBody 0x4000308000 8, data := [] }

/-- The response to it. -/
def meshAnswer : NocPacket := responseTo meshRead .ok 0 false [7, 0, 0, 0] live

/-- A state with one packet in the mesh. -/
def inMesh (x : MeshPacket) : State := { live with noc := { live.noc with mesh := [x] } }

theorem wit_XyRoutesReachTheirRouter :
    live.noc.routes = [] ∧ live.route true false 10 39 = 2 ∧ neighbour 10 2 = some 11 ∧ xyPort 39 9 = 3 ∧ xyPort 79 79 = 0 := by
  decide +kernel

theorem wit_NetworkMovesRequests :
    (let q : NocReq := ⟨0x14001, 0, 0x4000308000, 8, 0, 0, 21, false, [], .ok, none⟩
     stamps 41 0x14001 live = true ∧ portOfEndpoint 41 = none ∧ makePacket 41 q live = some meshRead ∧ live.fld NOC_EPe_STATUS_DAMPER 41 = 0 ∧
     (live.credit (creditKey 1 41 meshRead.channel)).held = 8 ∧
     nextIs (exec (.nocInject 41 q) live) (fun t => decide (t.noc.mesh = [⟨meshRead, 1, 41, 10, 0⟩] ∧ t.fld NOC_EPe_STATUS_OUTSTANDING 41 = 1)) ∧
     makePacket 41 { q with size := 257 } live = none ∧
     nextIs (exec (.nocInject 41 { q with size := 257 }) live) (fun t => decide (t.out = [.response 41 21 .decode []])) ∧
     nextIs (exec (.nocInject 41 q) (live.setFld NOC_EPe_STATUS_DAMPER 1 41)) (fun t => decide (t.out = [.response 41 21 .fenced []]))) ∧
    (let x : MeshPacket := ⟨meshRead, 1, 41, 10, 0⟩
     meshRead.dest = 196 ∧ live.route false true 10 49 = 2 ∧ neighbour 10 2 = some 11 ∧ meshRead.vnet = 2 ∧
     nextIs (exec (.routerForward 0) (inMesh x)) (fun t => decide (t.noc.mesh = [⟨meshRead, 0, 41, 11, 1⟩])) ∧
     portFor x live = 2 ∧ portFor { x with pkt := meshAnswer, router := 49 } live = 4 ∧
     nextIs (exec (.routerForward 0) (inMesh ⟨meshRead, 0, 156, 49, 12⟩)) (fun t => decide (t.noc.mesh = [⟨meshRead, 2, 196, 49, 13⟩])) ∧
     nextIs (exec (.routerForward 0) (inMesh { x with hops := 64 })) (fun t => decide (t.out = [] ∧
       t.noc.mesh = [⟨responseTo meshRead .decode 0 false [] live, 1, 40, 10, 0⟩]))) ∧
    (let x : MeshPacket := ⟨meshRead, 2, 196, 49, 13⟩
     meshAnswer.isResponse = true ∧ meshRead.isResponse = false ∧ mayRespond 196 (responseTo meshRead .ok 0 false [] (inMesh x)) (inMesh x) = true ∧
     nextIs (exec (.nocInject 196 ⟨0, 8, 0, 0, 0, 0, 0, false, [7, 0, 0, 0], .ok, some meshRead⟩) live) (fun t => decide (
       t.noc.mesh = [⟨meshAnswer, 1, 196, 49, 0⟩])) ∧
     nextIs (exec (.nocEject 0) (inMesh ⟨meshAnswer, 2, 41, 10, 13⟩)) (fun t => decide (t.noc.mesh = [] ∧ t.out = [.delivered 41 meshAnswer])) ∧
     portOfEndpoint 196 = none ∧ opTaken meshRead = true ∧ meshRead.channel = 6 ∧ requestGated meshRead (inMesh x) = false ∧
     nextIs (exec (.nocEject 0) (inMesh x)) (fun t => decide (t.out = [.delivered 196 meshRead] ∧ t.noc.mesh = [])) ∧
     nextIs (exec (.nocEject 0) (inMesh { x with pkt := { meshRead with op := 9 } })) (fun t => decide (t.noc.mesh.map (fun y => y.pkt.status) = [4])) ∧
     nextIs (exec (.nocEject 0) ((inMesh { x with pkt := { meshRead with vnet := 0, vc := 1 } }).setFld NOC_EPe_STATUS_DAMPER 2 196)) (fun t =>
       decide (t.noc.mesh.map (fun y => y.pkt.status) = [3])) ∧
     (let y : MeshPacket := { x with pkt := { meshRead with body := accessBody 0x4000E00000 8 } }
      let s := (inMesh y).setGateBit 8 false
      requestGated y.pkt s = true ∧ nextIs (exec (.nocEject 0) s) (fun t => decide (t.noc.mesh.map (fun y => y.pkt.status) = [2])))) := by
  decide +kernel

theorem wit_NetworkControl :
    (let s := fields live [(NOC_RT_SEL_ROUTER, 10), (NOC_RT_SEL_DEST, 39), (NOC_RT_SEL_VNET, 1)]
     s.admits host .NOC_RT_DATA [] ∧ routesLocked s = false ∧
     nextIs (exec (.routeTableWrite host .full 1) s) (fun t => decide (t.route true true 10 39 = 1 ∧ t.route false true 10 39 = 2)) ∧
     nextIs (exec (.routeTableWrite host .full 4) s) (fun t => decide (t.fld NOC_EPOCH_RT_REFUSED = 1))) ∧
    (live.admits host .NOC_EPOCH [] ∧
     nextIs (exec (.epochSwitch host .full 4) live) (fun t => decide (t.fld NOC_EPOCH_PENDING = 1 ∧ t.noc.switchDue = some 1) &&
       nextIs (exec (.epochSwitch host .full 4) t) (fun u => decide (u.fld NOC_EPOCH_SWITCH_REFUSED = 1))) ∧
     nextIs (exec (.loadXy host .full 0x20) { live with noc := { live.noc with routes := [(routeKey true false 1 2, 3)] } }) (fun t =>
       decide (t.noc.routes = []))) ∧
    (let s := { live with noc := { live.noc with runs := [(40, 15)] } }
     let f : LinkFlit := ⟨true, 0x7400030800000000000000140010000001500091431, 0x5dc2, 3, false⟩
     meshRead.header = f.payload ∧ f.passes = true ∧ { f with parity := true }.passes = false ∧ { f with payload := f.payload ^^^ 1 }.passes = false ∧
     (neighbour (40 / 4) (40 % 4 + 1)).isSome ∧
     nextIs (exec (.linkReplay 40 f false) s) (fun t => decide (t = s)) ∧
     nextIs (exec (.linkReplay 40 { f with crc := 0 } true) s) (fun t => decide (t.fld NOC_LINKl_STAT_FAILED 40 = 1 ∧ t.flt.pending.map (·.source) = [0x141])) ∧
     nextIs (exec (.linkReplay 40 { f with crc := 0 } false) s) (fun t => decide (t.fld NOC_LINKl_STAT_FAILED 40 = 0 ∧ t.fld NOC_REPLAY_CRC_ERR = 1))) ∧
    nextIs (exec (.endpointDrainDone 160) (live.setFld NOC_EPe_STATUS_DAMPER 1 160)) (fun t => decide (t.fld NOC_EPe_STATUS_DAMPER 160 = 2)) := by
  decide +kernel

/-- Controller 1, mapped alone, in a state, its DRAM state, with THRESH 100, HWM 48, LWM 16. -/
def dramIn (st : Nat) (d : Dram) : State :=
  (fieldsAt (live.setFld DRC_IMAP_MASK 2) 1 [(DRC_CTL_SCRUB_WB, 0), (DRC_CTL_THRESH, 100), (DRC_CTL_HWM, 48), (DRC_CTL_LWM, 16), (DRC_STATUS_STATE, st)]).setDrc 1 d

/-- A write of one whole burst at local address 0x40 of controller 1 and a read of its second word. -/
def dramWriteReq : DramReq := ⟨36, 5, host, true, 0x1000000040, 64, List.replicate 8 9, false⟩
def dramReadReq : DramReq := ⟨36, 6, host, false, 0x1000000048, 8, [], false⟩

theorem wit_DramAddresses :
    (let s := fields live [(DRC_IMAP_MODE, 2), (DRC_GEOM_RANKS, 1), (DRC_GEOM_ROW_BITS, 1)]
     s.capacity 0 = 64 ∧ dramTarget 0x1234567AC0 s = some (2, 0x48D159EC0) ∧ dramTarget (2 ^ 38) s = none ∧
     rowOf s 0 (0x48D159EC0 / 64) = 0x91A2 ∧ bankOf s 0 (0x48D159EC0 / 64) = 1 + 2 + 4 * (5 + 8 * 3)) ∧
    (let s := fields live [(DRC_IMAP_MODE, 1)]
     s.capacity 0 = 16 ∧ dramTarget 0x300 s = some (1, 0x100) ∧ dramTarget (2 ^ 35) s = none) ∧
    (let s := fields live [(DRC_IMAP_MODE, 0), (DRC_IMAP_MASK, 2)]
     dramTarget (2 ^ 36 + 64) s = some (1, 64) ∧ dramTarget 64 s = none) ∧
    (live.admits host .DRC_IMAP [] ∧ imapLocked live = false ∧
     nextIs (exec (.imapWrite host .full 0xF2) live) (fun t => decide (t.fld DRC_IMAP_MODE = 2 ∧ t.fld DRC_IMAP_MASK = 15)) ∧
     nextIs (exec (.imapWrite host .full 0xF3) live) (fun t => kept [leaseKey] live t) ∧
     (let s := live.setFld DRC_GEOM_RANKS 1 1
      s.capacity 1 ≠ s.capacity 0 ∧ nextIs (exec (.imapWrite host .full 0xF1) s) (fun t => kept [leaseKey] s t))) := by
  decide +kernel

theorem wit_ActivateTablesBoundTheCounts :
    ((List.range 18 ++ [17, 17, 3]).foldl (fun t r => (tableActivate t r).1) []).length = 16 ∧
    ((List.range 18 ++ [17, 17, 3]).foldl (fun t r => (tableActivate t r).1) []).head? = some (16, 2) := by
  decide +kernel

set_option maxRecDepth 1000000 in
theorem wit_DramTraffic :
    (let s := dramIn 0 Dram.reset
     s.drState 1 ≠ drActive ∧ nextIs (exec (.dramRequest 1 dramReadReq) s) (fun t => decide (t.out = [.response 36 6 .fenced [0]])) ∧
     nextIs (exec (.dramRequest 0 dramReadReq) s) (fun t => decide (t = s))) ∧
    (let s := dramIn 2 Dram.reset
     s.serving 1 ∧ s.drc 1 = { Dram.reset with nextId := 0, serial := 0 } ∧ s.fld DRC_STATUS_DRAINING 1 = 0 ∧
     dramTarget dramReadReq.addr s = some (1, 0x48) ∧ (dramReadReq.job 0x48 0).bursts = [1] ∧ (dramWriteReq.job 0x40 0).bursts = [1] ∧
     wholeBurst ((dramWriteReq.job 0x40 0).maskOf 1) = true ∧ phyCycles 1 s = 0 ∧ bankOf s 1 1 = 1 ∧ rowOf s 1 1 = 0) ∧
    (let s := dramIn 2 Dram.reset
     nextIs (exec (.dramRequest 1 dramReadReq) s) (fun t => decide (t.out = [.dramCommand 1 (.read 1), .dramCommand 1 (.activate 1 0)] ∧
       t.drc 1 = { Dram.reset with nextId := 2, serial := 1, reads := [⟨0, 36, 6, 0x48, 8, [], 1, [], false, 0⟩], rows := [(1, 0)],
                                   retry := [(0, .activate 1 0), (1, .read 1)], flights := [⟨1, 1, some 0, none⟩], tables := [(1, [(0, 1)])] } ∧
       t.fld DRC_STATUS_RD_Q 1 = 1 ∧ t.fld DRC_STATUS_WR_Q 1 = 0) && kept [drcKey 1] s t) ∧
     nextIs (exec (.dramRequest 1 dramWriteReq) s) (fun t => decide (t.out.length = 3 ∧ t.out.getLast? = some (.response 36 5 .ok []) ∧
       t.out.head? = some (.dramCommand 1 (.write 1 (List.replicate 8 9) (burstCheck 1 (List.replicate 8 9) (burstInfo false host)))) ∧
       (t.drc 1).writes = [] ∧ (t.drc 1).answers = []) && kept [drcKey 1, NOC_EPe_STATUS_OUTSTANDING.key 280 0 0] s t)) ∧
    (let r : DramRead := ⟨0, 36, 6, 0x48, 8, [], 1, [], false, 0⟩
     let s := dramIn 2 { Dram.reset with reads := [r], flights := [⟨1, 1, some 0, none⟩] }
     let v : List Word := List.replicate 8 9
     let k := burstCheck 1 v 0
     Dram.reset.idle ∧ s.serving 1 ∧ burstDecode 1 v k = .clean v 0 ∧ burstDecode 1 v (k ^^^ 1) = .mended v 0 ∧
     burstDecode 1 v (k ^^^ 3) = .uncorrectable ∧
     nextIs (exec (.dramReadData 1 1 v k) s) (fun t => decide (t.out = [.response 36 6 .ok [9]] ∧ t.drc 1 = Dram.reset)) ∧
     nextIs (exec (.dramReadData 1 1 v (k ^^^ 1)) s) (fun t => decide (t.out = [.response 36 6 .ok [9]] ∧ t.drc 1 = Dram.reset ∧
       t.fld DRC_ERR_COUNT_CORR 1 = 1 ∧ t.fld DRC_ERR_LAST_L 1 = 1)) ∧
     nextIs (exec (.dramReadData 1 1 v (k ^^^ 3)) s) (fun t => decide (t.out.head? = some (.response 36 6 .errData [0]) ∧ t.drc 1 = Dram.reset ∧
       t.fld DRC_ERR_COUNT_UNCORR 1 = 1 ∧ t.fld DRC_ERR_LAST_KIND 1 = 1 ∧ t.flt.pending.map (·.source) = [0x341]))) := by
  decide +kernel

set_option maxRecDepth 1000000 in
theorem wit_DramTraffic_upkeep :
    (let s := dramIn 2 Dram.reset
     let s4 := s.setFld DRC_STATUS_DEBT 4 1
     nextIs (exec (.refreshAccrue 1) s) (fun t => decide (t.fld DRC_STATUS_DEBT 1 = 1 ∧ t.fld FLT_DRAMc_ACCRUED 1 = 1 ∧ t.out = [])) ∧
     s4.serving 1 ∧ nextIs (exec (.refreshAccrue 1) s4) (fun t => decide (t.fld DRC_STATUS_DEBT 1 = 4 ∧
       t.fld DRC_REF_COUNT_URGENT 1 = 1 ∧ t.out = [.dramCommand 1 .refresh, .dramCommand 1 .prechargeAll])) ∧
     nextIs (exec (.refreshSlot 1) s4) (fun t => decide (t.fld DRC_STATUS_DEBT 1 = 3 ∧ t.fld DRC_REF_COUNT_REFRESHES 1 = 1) && kept [drcKey 1, DRC_REF_COUNT_URGENT.key 1 0 0] s4 t) ∧
     nextIs (exec (.refreshSlot 1) s) (fun t => decide (t = s)) ∧
     nextIs (exec (.mr4Poll 1 [1] true) (s.setFld DRC_STATUS_DEBT 3 1)) (fun t => decide (t.fld DRC_STATUS_DEBT 1 = 4 ∧
       t.fld DRC_REF_COUNT_URGENT 1 = 2 ∧ t.fld DRC_STATUS_RFM_REQ 1 = 1 ∧ t.fld DRC_STATUS_HOT 1 = 1)) ∧
     nextIs (exec (.mr4Poll 1 [0, 0] false) ((s.setFld DRC_STATUS_DEBT 3 1).setFld DRC_STATUS_HOT 1 1)) (fun t => decide (
       t.fld DRC_STATUS_DEBT 1 = 2 ∧ t.fld DRC_STATUS_HOT 1 = 0)) ∧
     nextIs (exec (.mr4Poll 1 [2] true) (s.setFld DRC_STATUS_HOT 1 1)) (fun t => decide (t.flt.pending.map (·.source) = [0x345] ∧ t.fld DRC_STATUS_RFM_REQ 1 = 1)) ∧
     nextIs (exec (.mr4Poll 1 [0] true) s) (fun t => decide (t.fld DRC_STATUS_RFM_REQ 1 = 1) && kept [drcKey 1] s t)) ∧
    (let d : Dram := { Dram.reset with retry := [(4, .prechargeAll), (5, .refresh)], tables := [(0, [(1, 1)])] }
     let s := dramIn 2 d
     nextIs (exec (.refreshWindowEnd 1) (s.setFld DRC_STATUS_FIRST_WINDOW 1 1)) (fun t => decide ((t.drc 1).tables = [] ∧ t.fld DRC_STATUS_FIRST_WINDOW 1 = 0)) ∧
     nextIs (exec (.alertAssert 1) s) (fun t => decide (t.fld DRC_STATUS_ALERT_STOP 1 = 1 ∧ t.drc 1 = { d with lastAlert := some 4, failed := 0 } ∧
       t.fld DRC_ALERT_COUNT_ALERTS 1 = 1)) ∧
     nextIs (exec (.alertAssert 1) (dramIn 2 { d with lastAlert := some 4, failed := 2 })) (fun t => decide (t.drState 1 = drOffline ∧
       t.fld DRC_OFFLINE_REASON 1 = 2 ∧ t.flt.pending.map (·.source) = [0x349])) ∧
     (s.drc 1).idle ∧
     nextIs (exec (.alertReplay 1) (s.setFld DRC_STATUS_ALERT_STOP 1 1)) (fun t => decide (t.out = [.dramCommand 1 .refresh, .dramCommand 1 .prechargeAll] ∧
       t.fld DRC_ALERT_COUNT_REPLAYS 1 = 1 ∧ t.fld DRC_STATUS_ALERT_STOP 1 = 0 ∧ t.drc 1 = d)) ∧
     nextIs (exec (.retryBufferRelease 1) s) (fun t => decide (t.drc 1 = { d with retry := [(5, .refresh)] })) ∧
     nextIs (exec (.retryBufferRelease 1) (s.setFld DRC_STATUS_ALERT_STOP 1 1)) (fun t => decide (t = s.setFld DRC_STATUS_ALERT_STOP 1 1))) := by
  decide +kernel

set_option maxRecDepth 1000000 in
theorem wit_DramCommands :
    (let p := pkt 0x0501 1 [1]
     let s0 := dramIn 0 Dram.reset
     let s3 := dramIn 3 { Dram.reset with tables := [(0, [(1, 1)])] }
     s0.accepts 0x0501 1 .owner p ∧ s0.banked = false ∧ drc p = 1 ∧ (s3.drc 1).idle ∧
     nextIs (exec (.dramStart p true) s0) (fun t => decide (t.drState 1 = drActive ∧ t.fld DRC_STATUS_FIRST_WINDOW 1 = 1 ∧ (t.drc 1).openDue = some 1) && replied t .ok [2]) ∧
     nextIs (exec (.dramStart p false) s0) (fun t => decide (t.drState 1 = drOffline ∧ t.fld DRC_OFFLINE_REASON 1 = 3) && replied t .failed []) ∧
     nextIs (exec (.dramStart p true) s3) (fun t => decide (t.drState 1 = drActive ∧ (t.drc 1).tables = [] ∧ t.fld DRC_STATUS_FIRST_WINDOW 1 = 1) && replied t .ok [2]) ∧
     nextIs (exec (.dramStart p true) (dramIn 2 Dram.reset)) (fun t => replied t .invalid [])) ∧
    (let p (m : Word) := pkt 0x0502 2 [1, m]
     let s := dramIn 2 Dram.reset
     let s2 := s.setFld NOC_EPe_STATUS_DAMPER 2 280
     let s1 := s.setFld NOC_EPe_STATUS_DAMPER 0 280
     s2.accepts 0x0502 2 .owner (p 1) ∧
     nextIs (exec (.dramStop (p 1)) (dramIn 0 Dram.reset)) (fun t => replied t .invalid []) ∧
     nextIs (exec (.dramStop (p 1)) s2) (fun t => decide (t.drState 1 = drSelfRefresh ∧
       t.out.filter (fun o => match o with | .dramCommand _ _ => true | _ => false) = [.dramCommand 1 .selfRefresh, .dramCommand 1 .prechargeAll]) && replied t .ok [3]) ∧
     nextIs (exec (.dramStop (p 0)) s2) (fun t => decide (t.drState 1 = drOffline ∧ t.fld DRC_OFFLINE_REASON 1 = 1) && replied t .ok [4]) ∧
     nextIs (exec (.dramStop (p 0)) s1) (fun t => decide (t.drState 1 = drActive ∧ t.fld NOC_EPe_STATUS_DAMPER 280 = 1 ∧ (t.drc 1).stopping = some (false, some (p 0))))) ∧
    (let p := pkt 0x0503 4 [0x81, 8, 0x0000000100280010, 0]
     let f : SweepResult := ⟨[[(7, 0)]] ++ List.replicate 15 [(7, 0)] ++ [[(7, 0)]] ++ List.replicate 8 [(6, 8)]⟩
     let s := dramIn 0 Dram.reset
     s.accepts 0x0503 4 .owner p ∧ dramBusy 1 s = false ∧ drcLocked 1 s = false ∧ p.w 2 = (1 : Word) <<< 3 ∧
     nextIs (exec (.delaySweep p f) s) (fun t => decide (t.fld DRC_SWEEP_PASS 1 = 6 ∧ t.fld DRC_SWEEP_FAIL 1 = 8 ∧ t.fld DRC_DQs_k_l_WR_DLY 1 0 3 = 24) && replied t .ok [0x10200010]) ∧
     nextIs (exec (.delaySweep p f) (dramIn 2 Dram.reset)) (fun t => replied t .invalid [])) ∧
    (let p := pkt 0x0504 1 [0]
     let s := dramIn 0 Dram.reset
     s.accepts 0x0504 1 .owner p ∧ s.banked = false ∧ boardCopy s = none ∧ (live.setFld PWR_STATUS_STATE 2).banked = true ∧
     nextIs (exec (.dramTableSave p true) s) (fun t => decide (boardWords 0 0 4 t = some [0x42445244, 1, 1, 0x20] ∧ boardHeader 0 t ≠ none ∧
       t.fld NVA_WRITES_COUNT = 16) && replied t .ok [0]) ∧
     nextIs (exec (.dramTableSave p false) s) (fun t => replied t .errData [])) := by
  decide +kernel

/-- Lane `n` at 16 Gb/s in a mode. -/
def laneIn (n mode : Nat) (l : List (Field × Nat)) : State := fieldsAt (live.setFld LNK_QUADq_RATE 2 (n / 4)) n ((LNK_LANEn_CTL_MODE, mode) :: l)

/-- Port 1 enabled in a stage with its state. -/
def portIn (stage : Nat) (x : BrPort) : State :=
  let s := fieldsAt (live.setFld BRL_CTL_PORT_EN 15) 1 [(BRL_PORTp_STATUS_STAGE, stage), (BRL_PORTp_STATUS_RATE, 2), (BRL_PORTp_STATUS_ACTIVE, stage / 7)]
  { s with ring := { s.ring with ports := [(1, x)] } }

/-- A request frame for device 9. -/
def frame9 : BrFrame := ⟨9, 4, 0, 77, 0, false, 1, 0, 0x4000840000, 8, 0, []⟩

theorem wit_LanesAndPatterns :
    (let s := laneIn 40 1 []
     laneOn 40 s = true ∧ s.lanes.settled.contains 40 = false ∧ laneOn 40 live = false ∧
     nextIs (exec (.laneBitLock 40 17) s) (fun t => decide (t.fld LNK_LANEn_RXSTAT_LOSS_DB 40 = 17 ∧ t.fld LNK_LANEn_RXSTAT_CTLE 40 = 10 ∧
         t.reg (LNK_LANEn_DFE0_TAP0.key 40 0 0) = 0x0614 ∧ t.fld LNK_LANEn_RXSTAT_PRESET 40 = 2 ∧ t.lanes.settled = [40]) &&
       nextIs (exec (.laneBitLock 40 3) t) (fun u => decide (u.fld LNK_LANEn_RXSTAT_CTLE 40 = 10)) &&
       nextIs (exec (.laneRestart host 40 .full 0x61) (t.setFld LNK_LANEn_RXSTAT_LOSS_DB 5 40)) (fun u => decide (
         u.fld LNK_LANEn_RXSTAT_CTLE 40 = 2 ∧ u.lanes.settled = [] ∧ u.fld LNK_LANEn_CTL_ADAPT 40 = 1))) ∧
     s.admits host .LNK_LANEn_CTL [40] ∧
     nextIs (exec (.laneRestart host 40 .full 0x17) s) (fun t => decide (t.fld LNK_LANEn_CTL_MODE 40 = 1 ∧ t.fld LNK_LANEn_CTL_BLOCK 40 = 0 ∧
       t.fld LNK_LANEn_CTL_LOOP 40 = 1)) ∧
     nextIs (exec (.laneRestart host 40 .full 0x10) (s.setFld LNK_LANEn_ERR_CHK_LOCK 1 40)) (fun t => decide (t.fld LNK_LANEn_CTL_MODE 40 = 0 ∧
       t.fld LNK_LANEn_ERR_CHK_LOCK 40 = 0) && kept [leaseKey, LNK_LANEn_CTL_MODE.key 40 0 0, LNK_LANEn_ERR_ERRORS.key 40 0 0] (s.setFld LNK_LANEn_ERR_CHK_LOCK 1 40) t)) ∧
    (let s := laneIn 40 2 [(LNK_LANEn_PAT_GEN, 3), (LNK_LANEn_PAT_CHK, 3), (LNK_LANEn_CTL_LOOP, 1), (LNK_LANEn_ERR_CHK_LOCK, 1), (LNK_LANEn_BITS_COUNT, 5)]
     checkerOn 40 s = true ∧ checkerOn 40 live = false ∧ laneMode 40 s = 2 ∧ s.admits host .LNK_LANEn_PAT [40] ∧
     nextIs (exec (.patternWrite host 40 .full 0x0000000100000022) s) (fun t => decide (t.fld LNK_LANEn_PAT_GEN 40 = 2 ∧ t.fld LNK_LANEn_PAT_INJ_EVERY 40 = 1 ∧
       t.fld LNK_LANEn_BITS_COUNT 40 = 0 ∧ t.out = []) &&
       kept [leaseKey, LNK_LANEn_PAT_GEN.key 40 0 0, LNK_LANEn_BITS_COUNT.key 40 0 0, LNK_LANEn_ERR_ERRORS.key 40 0 0] s t) ∧
     nextIs (exec (.injSingle host 40 .full 0x133) s) (fun t => decide (t.out = [.inject 40 1] ∧ t.fld LNK_LANEn_ERR_ERRORS 40 = 0 ∧ (t.laneCheck 40).flips = 1)) ∧
     nextIs (exec (.injBurst host 40 .full 0x90233) s) (fun t => decide (t.out = [.inject 40 9] ∧ t.fld LNK_LANEn_ERR_ERRORS 40 = 0 ∧ (t.laneCheck 40).flips = 9)) ∧
     (let s := { (s.setFld LNK_LANEn_PAT_INJ_EVERY 1 40).setFld LNK_LANEn_CTL_LOOP 0 40 with lanes := { s.lanes with injecting := [(40, false)] } }
      nextIs (exec (.injectionRepeat 40) s) (fun t => decide (t.out = [.inject 40 1] ∧ t.fld LNK_LANEn_ERR_ERRORS 40 = 0)))) ∧
    (let s := (laneIn 40 1 []).setFld CFG_RGNr_STATUS_STATE stLoaded 64
     laneOn (32 + 8) s = true ∧ laneMode (32 + 8) s = 1 ∧ s.gateOpen 19 = true ∧ s.tstate 64 = stLoaded ∧
     nextIs (exec (.userLaneWord 8 (some (5, 0)) (some (6, 0))) s) (fun t => decide (t.out = [.laneWord 40 5 0, .laneReceived 40 6 0])) ∧
     nextIs (exec (.userLaneWord 8 none none) s) (fun t => decide (t.out = [.laneWord 40 0 0] ∧ t.fld LNK_LANEn_RXSTAT_UNDERFLOW 40 = 1))) := by
  decide +kernel

/-- 64 bits of PRBS15, bit 0 the latest. -/
def seen15 : Word := (patternRun 3 49 0x7FFF).foldl pushBit 0x7FFF

theorem wit_LanesAndPatterns_checker :
    (let s := laneIn 40 2 [(LNK_LANEn_PAT_GEN, 3), (LNK_LANEn_PAT_CHK, 3)]
     let e := [false, true, false, false, true, false]
     let run (c : LaneCheck) (k : Nat) : List Bool := patternRun 3 k c.ref
     followsPattern 3 0 seen15 = true ∧ followsPattern 3 0 (seen15 ^^^ 1) = false ∧ followsPattern 6 0xF0 (BitVec.reverse 0xF0) = true ∧
     patternRun 1 10 0x7F = [false, false, false, false, false, false, true, false, false, false] ∧
     followsPattern 3 0 (pushBit seen15 (patternNext 3 seen15)) = true ∧
     nextIs (exec (.checkerLock 40 (seen15 ^^^ 1)) s) (fun t => decide (t = s)) ∧
     nextIs (exec (.checkerLock 40 seen15) s) (fun t => decide (t.fld LNK_LANEn_ERR_CHK_LOCK 40 = 1 ∧ (t.laneCheck 40).misses = [] ∧ checkerOn 40 t = true) &&
       nextIs (exec (.checkerLockLoss 40 (List.zipWith xor e (run (t.laneCheck 40) 6))) t) (fun u => decide (u.fld LNK_LANEn_ERR_CHK_LOCK 40 = 1 ∧
         u.fld LNK_LANEn_ERR_ERRORS 40 = 2 ∧ u.fld LNK_LANEn_BITS_COUNT 40 = 6))) ∧
     nextIs (exec (.checkerLock 40 seen15) (s.setFld LNK_LANEn_CTL_LOOP 1 40)) (fun t => decide ((t.laneCheck 40).gen = (t.laneCheck 40).ref) &&
       nextIs (exec (.injBurst host 40 .full 0x30233) t) (fun u => decide (u.fld LNK_LANEn_ERR_CHK_LOCK 40 = 1 ∧ (u.laneCheck 40).flips = 3) &&
         nextIs (exec (.checkerLockLoss 40 (List.replicate 20 true)) u) (fun v => decide (v.fld LNK_LANEn_ERR_CHK_LOCK 40 = 1 ∧
           v.fld LNK_LANEn_ERR_ERRORS 40 = 3 ∧ v.fld LNK_LANEn_BITS_COUNT 40 = 20 ∧ (v.laneCheck 40).flips = 0))))) := by
  decide +kernel

theorem wit_LanesAndPatterns_loss :
    nextIs (exec (.checkerLock 40 seen15) (laneIn 40 2 [(LNK_LANEn_PAT_GEN, 3), (LNK_LANEn_PAT_CHK, 3)])) (fun t =>
      nextIs (exec (.checkerLockLoss 40 ((patternRun 3 300 (t.laneCheck 40).ref).map (!·))) t) (fun u => decide (
        u.fld LNK_LANEn_ERR_CHK_LOCK 40 = 0 ∧ u.fld LNK_LANEn_ERR_ERRORS 40 = 256 ∧ u.fld LNK_LANEn_BITS_COUNT 40 = 256))) = true := by
  decide +kernel

theorem wit_LinkBringUp :
    (let s := portIn 1 BrPort.reset
     portEnabled 1 s = true ∧ nextIs (exec (.receiverDetect (.port 1) true) s) (fun t => decide (t.stage 1 = 2 ∧ t.fld LNK_QUADq_RATE 5 = 2))) ∧
    nextIs (exec (.linkStageEnd (.port 1) 15) (portIn 2 BrPort.reset)) (fun t => decide (t.stage 1 = 3)) ∧
    nextIs (exec (.linkStageEnd (.port 1) 15) (portIn 3 { BrPort.reset with deskewed := true })) (fun t => decide (t.stage 1 = 4 ∧ t.brPort 1 = BrPort.reset)) ∧
    nextIs (exec (.linkStageEnd (.port 1) 7) (portIn 4 { BrPort.reset with deskewed := true })) (fun t => decide (t.stage 1 = 5 ∧
      t.fld BRL_PORTp_STATUS_WIDTH 1 = 2 ∧ t.fld LNK_LANEn_RXSTAT_BLOCK_LOCK 20 = 1 ∧ t.out = [.cap 1 (capOf 1 false t)])) ∧
    nextIs (exec (.linkStageEnd (.port 1) 6) (portIn 4 BrPort.reset)) (fun t => decide (t.stage 1 = 1 ∧ t.fld BRL_PORTp_STATUS_FAILS 1 = 1)) ∧
    nextIs (exec (.linkStageEnd (.port 1) 15) (portIn 5 { BrPort.reset with capAck := true, capRates := 1 })) (fun t => decide (t.stage 1 = 6 ∧ t.out = [.dlyReq 1 0])) ∧
    nextIs (exec (.linkStageEnd (.port 1) 15) (portIn 5 { BrPort.reset with capAck := true, capRates := 7 })) (fun t => decide (t.stage 1 = 2 ∧
      t.fld BRL_PORTp_STATUS_RATE 1 = 6 ∧ t.fld LNK_QUADq_RATE 5 = 6)) ∧
    nextIs (exec (.linkStageEnd (.port 1) 15) (portIn 6 { BrPort.reset with exchanges := 64, rttSum := 64 * 204400, turnSum := 64 * 100000 })) (fun t => decide (
      t.stage 1 = 7 ∧ t.portActive 1 = true ∧ t.fld BRL_PORTp_DELAY_RTT_PS 1 = 204400 ∧ t.fld BRL_PORTp_DELAY_TURN_PS 1 = 100000)) ∧
    nextIs (exec (.linkStageTimeout (.port 1)) (portIn 6 { BrPort.reset with queue := [(true, frame9)] })) (fun t => decide (t.stage 1 = 1 ∧
      t.fld BRL_PORTp_STATUS_FAILS 1 = 1 ∧ (t.brPort 1).queue.length = 1)) ∧
    (let s := (laneIn 40 1 [(LNK_LANEn_CTL_BLOCK, 1)])
     laneBlocks (32 + 8) s = true ∧ s.laneStage (32 + 8) = 1 ∧
     nextIs (exec (.receiverDetect (.lane 8) true) s) (fun t => decide (t.laneStage 40 = 2)) ∧
     nextIs (exec (.linkStageEnd (.lane 8) 1) (setLaneStage 40 4 s)) (fun t => decide (t.laneStage 40 = 5 ∧ t.fld LNK_LANEn_RXSTAT_BLOCK_LOCK 40 = 1)) ∧
     nextIs (exec (.linkStageTimeout (.lane 8)) (setLaneStage 40 4 s)) (fun t => decide (t.laneStage 40 = 1))) ∧
    (let c : CapBlock := ⟨12, 2, 0xB0, 7, 4, true, true⟩
     nextIs (exec (.cap 1 c) (portIn 5 BrPort.reset)) (fun t => decide (t.fld BRL_PORTp_STATUS_PEER_ID 1 = 12 ∧ (t.brPort 1).capAck = true ∧
       (t.brPort 1).capRates = 7 ∧ t.out = [.cap 1 (capOf 1 true t)])) ∧
     nextIs (exec (.cap 1 { c with port := 3 }) (portIn 5 BrPort.reset)) (fun t => decide (t.stage 1 = 1 ∧ t.fld BRL_PORTp_STATUS_FAILS 1 = 1))) ∧
    nextIs (exec (.dlyReq 1 8 99) (portIn 6 BrPort.reset)) (fun t => decide (t.out = [.dlyRsp 1 8 99])) ∧
    nextIs (exec (.dlyRsp 1 8 204400 100000) (portIn 6 { BrPort.reset with exchanges := 8 })) (fun t => decide (t.out = [.dlyReq 1 9] ∧ (t.brPort 1).rttSum = 204400)) ∧
    nextIs (exec (.align 1) (portIn 4 BrPort.reset)) (fun t => decide ((t.brPort 1).deskewed = true)) ∧
    nextIs (exec (.alignSend 1) (portIn 7 BrPort.reset)) (fun t => decide (t.out = [.align 1])) ∧
    (let x := pkt 0x0603 1 [1]
     let s := portIn 7 BrPort.reset
     s.accepts 0x0603 1 .owner x ∧ nextIs (exec (.linkRetrain x) s) (fun t => decide (t.stage 1 = 1 ∧ t.ring.retrain = [(1, x)]) &&
       nextIs (exec (.retrainTimeout 1) t) (fun u => replied u .busy [1]))) := by
  decide +kernel

theorem wit_LinkTransport :
    (let s := portIn 7 { BrPort.reset with replay := [(4, frame9), (5, frame9), (6, frame9)], credits := [1, 2, 3, 4] }
     s.portActive 1 = true ∧ (s.brPort 1).replay = [(4, frame9)] ++ (5, frame9) :: [(6, frame9)] ∧
     nextIs (exec (.ackSend 1) s) (fun t => decide (t.out = [.ack 1 4095])) ∧
     (frame9.encode 0).good 4095 = true ∧ (frame9.encode 0).good 0 = false ∧
     nextIs (exec (.frameCheckFail 1 { frame9.encode 0 with blocks := [1, 2] }) s) (fun t => decide (t.out = [.nak 1 4095] ∧
       t.fld BRL_PORTp_COUNTS_CRC_ERR 1 = 1)) ∧
     nextIs (exec (.frameCheckFail 1 (frame9.encode 0)) s) (fun t => decide (t = s)) ∧
     (let raw (v : Word) : Word := BitVec.ofNat 64 (payloadOf (scramble 0x123456789ABCD (payloadBits v)))
      payloadBits (raw 0x4B) = scramble 0x123456789ABCD (payloadBits 0x4B) ∧ raw 0x4B ≠ 0x4B ∧
      nextIs (exec (.syncErrBlock 1 2 0x123456789ABCD (raw 0x4B)) s) (fun t => decide (t = s)) ∧
      nextIs (exec (.syncErrBlock 1 2 0x123456789ABCD (raw 0x4C)) s) (fun t => decide (t.fld BRL_PORTp_COUNTS_SYNC_ERR 1 = 1)) ∧
      nextIs (exec (.syncErrBlock 1 3 0x123456789ABCD (raw 0x4B)) s) (fun t => decide (t.fld BRL_PORTp_COUNTS_SYNC_ERR 1 = 1))) ∧
     nextIs (exec (.ack 1 5) s) (fun t => decide ((t.brPort 1).replay = [(6, frame9)])) ∧
     nextIs (exec (.nak 1 5) s) (fun t => decide (t.out = [.frame 1 6 frame9] ∧ (t.brPort 1).resent = 1 ∧ t.fld BRL_PORTp_COUNTS_REPLAYS 1 = 1)) ∧
     nextIs (exec (.cred 1 [10, 20, 30, 40]) s) (fun t => decide ((t.brPort 1).credits = [11, 22, 33, 44])) ∧
     nextIs (exec (.brociaLinkDown 1) s) (fun t => decide (t.stage 1 = 1 ∧ t.fld BRL_PORTp_COUNTS_LINK_DOWNS 1 = 1 ∧ t.flt.pending.map (·.source) = [0x185])) ∧
     nextIs (exec (.brociaLinkDown 1) live) (fun t => decide (t = live)) ∧
     1 < s.tck.stamps.length ∧ nextIs (exec (.tick 1 0x105 7) s) (fun t => decide (t.tck.stamps.getD 1 [] = [⟨5, 7, s.tickCount, s.tck.ticks⟩]))) ∧
    nextIs (exec (.nak 1 9) (portIn 7 { BrPort.reset with replay := [(4, frame9)], resent := 15 })) (fun t => decide (t.stage 1 = 1 ∧
      t.fld BRL_PORTp_COUNTS_LINK_DOWNS 1 = 1 ∧ (t.brPort 1).replay = [])) := by
  decide +kernel

/-- Device 4 on ring 0 with devices 9 (position 1) and 11 (position 2); ports 0 and 1 are ACTIVE with credits. -/
def onRing (r : RingState) : State :=
  let s := fieldsAt (fieldsAt (fields live [(BRL_ID_DEVID, 4), (BRL_ID_ASSIGNED, 1), (BRL_ID_RING_SIZE, 3)]) 0 [(BRL_PORTp_STATUS_ACTIVE, 1)]) 1
    [(BRL_PORTp_STATUS_ACTIVE, 1), (BRL_MAPk_DEVID, 9), (BRL_MAPk_VALID, 1)]
  let s := fieldsAt s 2 [(BRL_MAPk_DEVID, 11), (BRL_MAPk_VALID, 1)]
  let x : BrPort := { BrPort.reset with credits := [300, 300, 300, 300] }
  { s with ring := { r with ports := [(0, x), (1, x)], nextTag := 50 } }

/-- A request frame from device 11. -/
def frameTo (dest hops : Nat) : BrFrame := ⟨dest, 11, 0, 77, 0, false, 1, hops, 0x4000840000, 8, 2, []⟩

theorem wit_RingFrames :
    (let s := onRing RingState.reset
     s.portActive 0 = true ∧ s.portActive 2 = false ∧ forMe (frameTo 4 0) s = true ∧ forMe (frameTo 9 0) s = false ∧ routePort 9 s = some 0 ∧
     ringPort 0 9 s = some 0 ∧ routePort 11 s = some 1 ∧ mapPosition 0 13 s = none ∧
     nextIs (exec (.writeFrame 1 (frameTo 13 3)) s) (fun t => decide (t.out = [.frame 1 0 { sysFrame s frResponse 11 [] with tag := 77, status := 4 }])) ∧ s.leaves false { frameTo 9 3 with kind := frWrite, hops := 4 } 0 ∧
     nextIs (exec (.readFrame 2 (frameTo 4 0)) s) (fun t => decide (t = s)) ∧
     nextIs (exec (.writeFrame 0 (frameTo 4 0)) s) (fun t => decide (t.out = [.request 156 50 (peerIdent (frameTo 4 0)) true 0x4000840000 8 [] false] ∧
       t.ring.serving = [⟨50, 11, 77⟩] ∧ (t.brPort 0).rxSeq = 0)) ∧
     nextIs (exec (.writeFrame 1 (frameTo 9 3)) s) (fun t => decide (t.out = [.frame 0 0 { frameTo 9 3 with kind := frWrite, hops := 4 }])) ∧
     nextIs (exec (.responseFrame 1 (frameTo 9 3)) s) (fun t => decide (t.out = [.frame 0 0 { frameTo 9 3 with kind := frResponse, hops := 4 }])) ∧
     nextIs (exec (.readFrame 1 (frameTo 9 64)) s) (fun t => decide (t.out = [.frame 1 0 { sysFrame s frResponse 11 [] with tag := 77, status := 4 }] ∧
       t.fld BRL_COUNTS_HOP_DISCARD = 1)) ∧
     nextIs (exec (.startFrame 1 { frameTo 0x3FFF 64 with data := [7] }) s) (fun t => decide (t.out = [] ∧ t.cfg = s.cfg ∧
       t.fld BRL_COUNTS_HOP_DISCARD = 1)) ∧
     nextIs (exec (.writeFrame 1 (frameTo 4 64)) (s.setFld BRL_ID_ASSIGNED 0)) (fun t => decide (t.out = [] ∧
       t.fld BRL_COUNTS_HOP_DISCARD = 1)) ∧
     nextIs (exec (.responseFrame 1 (frameTo 4 0)) s) (fun t => decide (t.fld BRL_COUNTS_LATE_RSP = 1))) ∧
    (let s := onRing { RingState.reset with remote := [(77, .access (mkIdent 4 1 0) false)] }
     slotOf (mkIdent 4 1 0) = some 0 ∧
     nextIs (exec (.responseFrame 0 { frameTo 4 0 with poison := true, data := [0xAB] }) s) (fun t => decide (
       t.out = [.poisonedAnswer (mkIdent 4 1 0)] ∧ t.ring.remote = [])) ∧
     nextIs (exec (.responseFrame 0 { frameTo 4 0 with data := [0xAB] }) s) (fun t => decide (t.out = [.answer (mkIdent 4 1 0) 0xAB] ∧ t.ring.remote = [] ∧
       t.mfld BRL_RACC_STATUS_LAST 0 = 0 ∧ t.mfld BRL_RACC_ADDR_ADDR 0 = 1))) ∧
    (let s := onRing RingState.reset
     let l : Load := Load.fresh none 3 true 0
     let q := { s.setFld BRL_PORTp_STATUS_ACTIVE 0 1 with cfg := { s.cfg with load := some l } }
     nextIs (exec (.streamFrame 0 { frameTo 0x3FFF 0 with kind := 8, data := [1, 2] }) q) (fun t => decide (
       t.cfg.load = some { l with push := l.push ++ [1, 2] } ∧ t.fld CFG_PROGRESS_BYTES = 16 ∧ t.ring.streamFrom = some (11, 0))) ∧
     nextIs (exec (.streamFrame 0 { frameTo 0x3FFF 0 with kind := 8 }) { s with ring := { s.ring with streamFrom := some (11, 1) } }) (fun t => decide (t.out = []))) ∧
    (let s := onRing { RingState.reset with serving := [⟨30, 11, 77⟩] }
     nextIs (exec (.endpointResponse .brocia 30 .ok [5] false) s) (fun t => decide (t.ring.serving = [] ∧
       t.out = [.frame 1 0 { sysFrame s frResponse 11 [5] with tag := 77, status := 0 }]))) := by
  decide +kernel

theorem wit_RingCommands :
    (let s := onRing RingState.reset
     let m := mkIdent 4 1 2
     s.readable BRL_RACC_DATA_DATA.off ∧ slotOf m = some 2 ∧ identClass m = 1 ∧ routePort (s.mfld BRL_RACC_ADDR_DEVICE 2) s = none ∧
     nextIs (exec (.raccDataAccess m .full none) s) (fun t => decide (t.out = [.answer m 0] ∧ t.mfld BRL_RACC_STATUS_LAST 2 = 4 ∧ t.mfld BRL_RACC_ADDR_ADDR 2 = 1)) ∧
     (let s := (s.setMfld BRL_RACC_ADDR_DEVICE 2 9).setMfld BRL_RACC_ADDR_ADDR 2 5
      nextIs (exec (.raccDataAccess m .full none) s) (fun t => decide (t.ring.remote = [(50, .access m false)] ∧
        t.out = [.frame 0 0 { sysFrame s frRead 9 [] with tag := 50, cls := 1, index := 2, addr := 40, size := 8 }]))) ∧
     nextIs (exec (.raccDataAccess m .low none) s) (fun t => decide (t.out = [.answer m 0] ∧ t.fld OWN_VIOLm_COUNT_COUNT 2 = 1)) ∧
     nextIs (exec (.remoteAccessTimeout 8) { s with ring := { s.ring with remote := [(8, .access m false)] } }) (fun t => decide (
       t.out = [.poisonedAnswer m] ∧ t.mfld BRL_RACC_STATUS_LAST 2 = 6 ∧ t.mfld BRL_RACC_ADDR_ADDR 2 = 0 ∧ t.ring.remote = []))) ∧
    (let s := live.setFld BNK_OWNERb_IDENT (mkIdent 0 0 0).toNat 9
     s.blockOpen BRL_ID_DEVID.off = true ∧ s.isOwner host = true ∧
     nextIs (exec (.devidWrite host .full 21) s) (fun t => decide (t.devId = 21 ∧ t.fld BRL_ID_ASSIGNED = 1 ∧ t.fld BNK_OWNERb_IDENT 9 = (mkIdent 21 0 0).toNat)) ∧
     nextIs (exec (.devidWrite host .full 0x3FFF) s) (fun t => kept [leaseKey] s t)) ∧
    (let s := (onRing RingState.reset).setFld BRL_ID_ASSIGNED 0
     s.accepts 0x0601 1 .owner (pkt 0x0601 1 [3]) ∧
     nextIs (exec (.ringEnum (pkt 0x0601 1 [0x10003])) s) (fun t => replied t .invalid []) ∧
     nextIs (exec (.ringEnum (pkt 0x0601 1 [3])) s) (fun t => decide (t.devId = 3 ∧ t.ring.enumerating = [(pkt 0x0601 1 [3], 0)] ∧
       t.out.head? = some (.frame 0 0 ⟨0x3FFF, 3, 6, 0, 0, false, 0, 0, 0, 0, 0, [3, 3]⟩))) ∧
     nextIs (exec (.enumFrame 1 { frameTo 0x3FFF 1 with data := [100, 100, 101] }) s) (fun t => decide (t.devId = 102 ∧ t.fld BRL_ID_ASSIGNED = 1 ∧
       t.out = [.frame 0 0 { frameTo 0x3FFF 2 with kind := 6, data := [100, 100, 101, 102] }]))) ∧
    (let x := pkt 0x0601 1 [3]
     let s := onRing { RingState.reset with enumerating := [(x, 0)] }
     nextIs (exec (.enumFrame 1 { frameTo 0x3FFF 1 with src := 4, data := [4, 4, 9, 9] }) s) (fun t => decide (t.fld BRL_MAPk_DEVID 2 = 9 ∧ t.fld BRL_MAPk_VALID 2 = 1 ∧
       t.fld BRL_MAPk_VALID 3 = 0 ∧ t.ring.enumerating = [] ∧ t.fld BRL_ID_RING_SIZE = 3) && replied t .ok [3, 3, 9]) ∧
     nextIs (exec (.enumTimeout 0 2) s) (fun t => replied t .failed [2])) ∧
    (let s := (onRing RingState.reset).setFld BRL_PORTp_STATUS_ACTIVE 0 0
     nextIs (exec (.enumTableFrame 1 { frameTo 0x3FFF 1 with data := [11, 4] }) s) (fun t => decide (t.fld BRL_MAPk_DEVID 1 = 4 ∧ t.fld BRL_ID_POSITION = 1 ∧
       t.fld BRL_ID_RING_SIZE = 2))) ∧
    (let s := onRing RingState.reset
     let p (w1 n : Word) := pkt 0x0602 4 [w1, 0x8000000000, 0x8000000100, n]
     s.accepts 0x0602 4 .owner (p 0 0) ∧ nextIs (exec (.ringCopy (p 0 0)) s) (fun t => replied t .invalid []) ∧
     nextIs (exec (.ringCopy (p 0x10009 24)) s) (fun t => decide (t.out.head? = some (.request 156 50 host false 0x8000000000 24 [] false) ∧
       t.ring.copies.map (·.pieces) = [[⟨50, 0, 24, false⟩]])) ∧
     nextIs (exec (.ringCopy (p 12 24)) s) (fun t => replied t .decode [0, 4]) ∧
     (let c : RingCopy := ⟨0, p 9 24, false, 9, 0, 0, 24, 24, [⟨60, 0, 24, true⟩], 0, none⟩
      nextIs (exec (.endpointResponse .brocia 60 .ok [] false) { s with ring := { s.ring with copies := [c] } }) (fun t => decide (t.ring.copies = []) && replied t .ok [24, 0]))) := by
  decide +kernel

theorem wit_HostInterface :
    (let s := live.setFld HC_STATUS_READY 1
     let r : HostReq := ⟨1, 0, 0x308000, 8, none, 12, .memory, false, false, false⟩
     s.serves r ∧ barAddress 0 0x308000 = 0x4000308000 ∧
     nextIs (exec (.hostMemoryRequest r) s) (fun t => decide (t.out = [.request 120 0 (hostIdent 1 s) false 0x4000308000 8 [] false] ∧
       t.pcie.pieces = [⟨0, 1, false, 0x4000308000, 8, [], 0, 12, true, none⟩])) ∧
     nextIs (exec (.hostMemoryRequest { r with data := some [5] }) s) (fun t => decide (t.out = [.request 120 0 (hostIdent 1 s) true 0x4000308000 8 [5] false])) ∧
     nextIs (exec (.hostMemoryRequest r) live) (fun t => decide (t.out = [.completerAbort 1 12] ∧ t.fld PCI_COUNTS_EARLY = 1)) ∧
     nextIs (exec (.hostMemoryRequest { r with off := 0x4000000 }) s) (fun t => decide (t.out = [.unsupported 1 12] ∧ t.fld PCI_COUNTS_UR = 1)) ∧
     nextIs (exec (.hostMemoryRequest { r with ecrcBad := true }) s) (fun t => decide (t.out = [.aer 1 1])) ∧
     nextIs (exec (.hostMemoryRequest { r with ep := true, data := some [5] }) s) (fun t => decide (t.out = [.aer 1 0] ∧ t.fld PCI_COUNTS_POISONED_RX = 1)) ∧
     nextIs (exec (.hostMemoryRequest { r with parityBad := true }) s) (fun t => decide (t.out = [.completion 1 12 [0] true] ∧ t.pcie.pieces = [] ∧
       t.flt.pending.map (fun e => (e.source, e.info)) = [(0x181, 1)] ∧ t.fld OWN_VIOLm_COUNT_COUNT 1 = 1))) ∧
    (let x : HostPiece := ⟨9, 2, false, 0x4000308000, 8, [], 0, 12, true, none⟩
     let s := { live with pcie := { live.pcie with pieces := [x] } }
     nextIs (exec (.endpointResponse .host 9 .ok [7] false) s) (fun t => decide (t.out = [.completion 2 12 [7] false] ∧ t.pcie.pieces = [])) ∧
     nextIs (exec (.endpointResponse .host 9 .errData [7] false) s) (fun t => decide (t.out = [.completion 2 12 [0] true] ∧ t.fld OWN_VIOLm_COUNT_COUNT 2 = 1)) ∧
     nextIs (exec (.endpointResponse .host 9 .errData [] false) { live with pcie := { live.pcie with pieces := [{ x with write := true }] } }) (fun t =>
       decide (t.out = [] ∧ t.fld PCI_COUNTS_WERR = 1 ∧ t.pcie.pieces = []))) ∧
    (let s := { live with cfg := { live.cfg with ports := [(7, { live.fab 7 with outs := [4] })] } }
     nextIs (exec (.endpointResponse (.port 7) 4 .ok [3] false) s) (fun t => decide (t.out = [.fabricResponse 7 4 .ok false [3]] ∧ (t.fab 7).outs = []))) ∧
    (let s := { live with pcie := { live.pcie with ready := true } }
     live.pcie.ready = false ∧ s.pcie.fns.length = 4 ∧
     nextIs (exec (.hostConfigRequest 1 3 0 none) live) (fun t => decide (t.out = [.configRetry 1 3])) ∧
     nextIs (exec (.hostConfigRequest 1 3 0 none) s) (fun t => decide (t.out = [.config 1 3 0x84201F3A])) ∧
     nextIs (exec (.hostConfigRequest 1 3 0 (some (.busMaster false))) s) (fun t => decide ((t.fn 1).busMaster = false)) ∧
     nextIs (exec (.hostConfigRequest 1 3 20 (some (.other 20 6))) s) (fun t => decide (configRead 1 20 t = 6 ∧ configRead 2 20 t = 0))) ∧
    nextIs (exec (.hostLinkUp 5 16) live) (fun t => decide (t.fld PCI_STATUS_LINK_UP = 1 ∧ t.fld PCI_STATUS_SPEED = 5 ∧ t.fld LNK_QUADq_RATE 3 = 4) &&
      nextIs (exec .hostLinkDown t) (fun u => decide (u.fld PCI_STATUS_LINK_UP = 0 ∧ u.fld PCI_STATUS_LINK_DOWNS = 1 ∧ u.fld LNK_QUADq_RATE 3 = 0 ∧
        u.flt.pending.map (fun e => (e.source, e.info)) = [(0x010, 0), (0x180, 1)] ∨ u.flt.pending.map (·.source) = [0x180]))) ∧
    (let s := { live.setFld PCI_STATUS_LINK_UP 1 with pcie := { live.pcie with fns := live.pcie.fns.map (fun f => { f with l1Enable := true }) } }
     s.pcie.fns.all (·.l1Enable) = true ∧ nextIs (exec .l1Entry s) (fun t => decide (t.fld PCI_STATUS_L1 = 1))) ∧
    (hostIdent 0 live = host ∧ live.cfg.load = none ∧
     nextIs (exec (.functionLevelReset 0) { live with pcie := { live.pcie with fns := live.pcie.fns.map (fun f => { f with busMaster := true }) } }) (fun t =>
       decide (t.fn 0 = PcieFn.reset ∧ (t.fn 1).busMaster = true ∧ t.owned = false))) := by
  decide +kernel

/-- Counts of a mailbox that balance: 5 sent, 3 taken, 1 overwritten, 1 waiting. -/
def posted : State := fieldsAt live 9 [(MBX_m_COUNT_SENT, 5), (MBX_m_COUNT_TAKEN, 3), (MBX_m_OVER_OVERWRITTEN, 1), (MBX_m_STATUS_FULL, 1), (MBX_m_STATUS_SEQ, 5)]

/-- Eight message words. -/
def message8 : List Word := [1, 2, 3, 4, 5, 6, 7, 8]

theorem wit_RegisterAccess :
    (let s := live
     let g := live.setGateBit 8 false
     regAt 0x801080 = some (.CTX_DOMd_MATCH, [2]) ∧ s.admits host .CTX_DOMd_MATCH [2] ∧ s.isOwner (mkIdent 0 1 1) = false ∧
     nextIs (exec (.registerWrite host 0x801080 .high 0xFFFFFFFF12345678) s) (fun t => decide (t.fld CTX_DOMd_MATCH_MATCH 2 = 0 ∧
       t.fld CTX_DOMd_MATCH_MASK 2 = 0xFFFFFFFF) && kept [leaseKey, CTX_DOMd_MATCH_MATCH.key 2 0 0] s t) ∧
     nextIs (exec (.registerWrite (mkIdent 0 1 1) 0x801080 .full 1) s) (fun t => decide (t.fld OWN_VIOLm_COUNT_COUNT 1 = 1 ∧ t.fld OWN_VIOLm_LAST_KIND 1 = 1)) ∧
     nextIs (exec (.rcFieldRead host 0x801080 .full) (s.setFld CTX_DOMd_MATCH_MATCH 77 2)) (fun t => decide (t.out = [.answer host 77])) ∧
     nextIs (exec (.rcFieldRead host TCK_CARRY_MAX_MAX.off .low) (s.setFld TCK_CARRY_MAX_MAX 9)) (fun t => decide (t.out = [.answer host 9] ∧ t.fld TCK_CARRY_MAX_MAX = 0)) ∧
     nextIs (exec (.rcFieldRead host TCK_CARRY_MAX_MAX.off .high) (s.setFld TCK_CARRY_MAX_MAX 9)) (fun t => decide (t.out = [.answer host 0] ∧ t.fld TCK_CARRY_MAX_MAX = 9)) ∧
     regAt 0xE00000 = some (.NVA_CTL, []) ∧ g.blockOpen 0xE00000 = false ∧
     nextIs (exec (.registerWrite host 0xE00000 .full 1) g) (fun t => decide (t.fld OWN_VIOLm_LAST_KIND 0 = 7)) ∧
     nextIs (exec (.rcFieldRead host 0xE00000 .full) g) (fun t => decide (t.out = [.answer host 0])) ∧
     regAt 0x1FFFFF8 = none ∧ msixAt 0x1FFFFF8 = none ∧
     nextIs (exec (.rcFieldRead host 0x1FFFFF8 .full) s) (fun t => decide (t.out = [.answer host 0])) ∧
     nextIs (exec (.registerWrite host 0x1FFFFF8 .full 1) s) (fun t => kept [leaseKey] s t) ∧
     nextIs (exec (.bar0BadAccess host 12 8 true) s) (fun t => decide (t.fld OWN_VIOLm_COUNT_COUNT 0 = 1 ∧ t.fld OWN_VIOLm_LAST_KIND 0 = 2)) ∧
     nextIs (exec (.bar0BadAccess host 8 2 false) s) (fun t => decide (t.out = [.answer host 0])) ∧
     nextIs (exec (.bar0BadAccess host 8 8 false) s) (fun t => decide (t = s)) ∧
     nextIs (exec (.registerWrite host 0x801080 .full 1) { s with pwr := { s.pwr with frozen := true } }) (fun t => decide (t.fld CTX_DOMd_MATCH_MATCH 2 = 0))) := by
  decide +kernel

theorem wit_CommandsAndReplies :
    (let header : Word := mkWord [(0, 16, 0x0F01), (16, 16, 7), (32, 8, 2)]
     slotOf host = some 0 ∧ submits host = true ∧ hasReplyQueue host = true ∧ queueOf host < live.hc.queues.length ∧
     live.blockOpen HC_CMD_PORT_PACKET.off = true ∧ live.admits host .HC_CMD_SUBMIT [] ∧
     nextIs (exec (.commandPortWrite host 0x1000 24 [header, 5, 6]) live) (fun t => decide (t.hc.queues.getD 0 [] = [⟨host, header, [5, 6]⟩] ∧
       t.mfld HC_SUBMIT_STATUS_RESERVED 0 = 1 ∧ t.fld HC_QUEUEc_LEVEL 0 = 1)) ∧
     nextIs (exec (.commandPortWrite host 0x1000 16 [header, 5]) live) (fun t => decide (t.hc = live.hc ∧ t.mfld HC_SUBMIT_STATUS_REFUSED 0 = 1 ∧
       t.mfld HC_SUBMIT_STATUS_TAG 0 = 7 ∧ t.fld OWN_VIOLm_LAST_KIND 0 = 6)) ∧
     (let s := (live.setReg (HC_CMD_Wk_WORD.key 1 0 0) 55).setReg (HC_CMD_Wk_WORD.key 2 0 0) 66
      nextIs (exec (.commandSubmit host .full header) s) (fun t => decide (t.hc.queues.getD 0 [] = [⟨host, header, [55, 66]⟩])))) ∧
    (let e := pkt 0x0F01 2 [5, 6]
     nextIs (exec (.echo e) live) (fun t => replied t .ok [5, 6] && nextIs (exec (.replyPop host .full 1) t) (fun u => decide (u.replyQueue 0 = []))) ∧
     nextIs (exec (.echo { e with header := e.header ||| 0x20000000000 }) live) (fun t => replied t .invalid []) ∧
     nextIs (exec (.domainSet e) live) (fun t => decide (t = live)) ∧
     nextIs (exec (.echo (pkt 0x0555 0 [])) live) (fun t => replied t .unknown []) ∧
     (let f : Packet := ⟨mkIdent 9 2 1, e.header, e.words⟩
      let s := { live with hc := { live.hc with queues := [[e, pkt 0x0F01 0 []], [f], [], []] } }
      mayStart e s = true ∧ mayStart f s = false ∧ mayStart (pkt 0x0F01 0 []) s = false ∧
      nextIs (exec (.echo f) s) (fun t => decide (t = s)) ∧
      nextIs (exec (.echo e) s) (fun t => decide (mayStart f t = true ∧ mayStart (pkt 0x0F01 0 []) t = false ∧ t.hc.turn = 1))) ∧
     nextIs (exec (.domainSet (pkt 0x0701 2 [5, 6])) live) (fun t => replied t .badLength []) ∧
     nextIs (exec (.domainSet (pkt 0x0701 3 [5, 6, 7])) (live.setFld OWN_STATUS_OWNED 0)) (fun t => replied t .notOwner []) ∧
     nextIs (exec (.echo e) { live with hc := { live.hc with running := List.replicate 16 ⟨e, false⟩ } }) (fun t => decide (t.hc.running.length = 16))) ∧
    (let d := pkt 0x0701 3 [4, 0x123, 0x50401]
     live.accepts 0x0701 3 .owner d ∧ live.fld CTX_DOMd_STATUS_RESIDENT 4 = 0 ∧ live.shareSum - live.fld CTX_DOMd_CFG_SHARE 4 + 4 ≤ 256 ∧
     256 < (live.setFld CTX_DOMd_CFG_SHARE 8 5).shareSum - live.fld CTX_DOMd_CFG_SHARE 4 + 255 ∧
     nextIs (exec (.domainSet d) live) (fun t => decide (t.fld CTX_DOMd_CFG_EN 4 = 1 ∧ t.fld CTX_DOMd_CFG_SHARE 4 = 4 ∧ t.fld CTX_DOMd_CFG_QUOTA 4 = 5 ∧
         t.fld CTX_DOMd_MATCH_MATCH 4 = 0x123) &&
       nextIs (exec (.domainRead (pkt 0x0702 1 [4])) t) (fun u => replied u .ok [0x123, 0x50401, u.reg (CTX_DOMd_STATUS_RESIDENT.key 4 0 0), 0])) ∧
     nextIs (exec (.domainSet (pkt 0x0701 3 [4, 0x123, 0xFF00])) (live.setFld CTX_DOMd_CFG_SHARE 8 5)) (fun t => decide (t.fld CTX_STATUS_SHARE_REFUSED = 1) && replied t .invalid [])) ∧
    (let m := mkIdent 3 2 1
     identClass m = 2 ∧ live.admits m .HC_REPLY_IN [] ∧
     nextIs (exec (.replyInWrite host 0 []) live) (fun t => decide (t.fld OWN_VIOLm_LAST_KIND 0 = 5)) ∧
     nextIs (exec (.replyInWrite m 0x0004000000000007 [9]) live) (fun t => decide (t.replyQueue 4 = [⟨7, [9]⟩] ∧ t.mfld HC_SUBMIT_STATUS_RESERVED 4 = 1)) ∧
     nextIs (exec (.replyInWrite m 0x0004000000000007 [9]) (live.setMfld HC_SUBMIT_STATUS_RESERVED 4 16)) (fun t => decide (t.mfld HC_REPLY_STATUS_LOST 6 = 1))) := by
  decide +kernel

theorem wit_OwnershipAndMailboxes :
    (let a := mkIdent 0 1 0
     let b := mkIdent 0 1 1
     let s := fields live [(OWN_STATUS_OWNED, 0), (OWN_STATUS_OWNER, 0)]
     s.owned = false ∧ s.fld OWN_HANDOVER_PENDING = 0 ∧ mayClaim s a = true ∧ claimRank a < claimRank b ∧ claimRank b < claimRank (mkIdent 0 2 0) ∧
     nextIs (exec (.ownershipClaim [a]) s) (fun t => decide (t.owner = a ∧ t.owned = true ∧ t.fld OWN_CHANGES_CHANGES = 1)) ∧
     nextIs (exec (.ownershipClaim [b, a]) s) (fun t => decide (t.owner = a)) ∧ nextIs (exec (.ownershipClaim [a, b]) s) (fun t => decide (t.owner = a)) ∧
     nextIs (exec (.ownershipClaim [b]) live) (fun t => decide (t.out = [.answer b (mkWord [(0, 32, a.toNat), (32, 1, 1)])])) ∧
     live.isOwner host = true ∧ live.admits host .OWN_HANDOVER [] ∧
     nextIs (exec (.handoverOffer host .full (BitVec.ofNat 64 b.toNat)) live) (fun t => decide (t.fld OWN_HANDOVER_PENDING = 1 ∧ t.owner = host ∧
         t.fld OWN_HANDOVER_SUCCESSOR = b.toNat) &&
       nextIs (exec (.ownershipClaim [b]) t) (fun u => decide (u.owner = b ∧ u.fld OWN_HANDOVER_PENDING = 0)) &&
       nextIs (exec (.ownershipClaim [mkIdent 0 1 2]) t) (fun u => decide (u.owner = host)) &&
       nextIs (exec .handoverExpire t) (fun u => decide (u.owner = host ∧ u.fld OWN_HANDOVER_PENDING = 0)) &&
       nextIs (exec (.handoverOffer host .full (BitVec.ofNat 64 host.toNat)) t) (fun u => decide (u.fld OWN_HANDOVER_PENDING = 0 ∧ u.owner = host))) ∧
     nextIs (exec (.handoverOffer host .full 0) live) (fun t => kept [leaseKey] live t) ∧
     nextIs (exec (.ownerRelease host .full 0x200000000) live) (fun t => decide (t.owned = false ∧ t.fld OWN_STATUS_OWNER = 0 ∧ t.fld OWN_CHANGES_CHANGES = 1)) ∧
     nextIs (exec .leaseExpire (live.setFld OWN_LEASE_LEASE_MS 5)) (fun t => decide (t.owned = false ∧ t.fld OWN_STATUS_EXPIRED = 1 ∧ t.fld OWN_CHANGES_EXPIRIES = 1)) ∧
     nextIs (exec .leaseExpire (live.setFld OWN_LEASE_LEASE_MS 0)) (fun t => decide (t.owned = true))) ∧
    (let s := posted
     mailboxBalanced 9 s = true ∧ identMatches host (s.fld MBX_m_SENDERS_MATCH 9) (s.fld MBX_m_SENDERS_MASK 9) = true ∧ s.receiver 9 host = true ∧
     s.blockOpen (MBX_m_Wk_WORD.key 9 0 0) = true ∧ s.admits host .MBX_SEND [] ∧ s.admits host .MBX_m_TAKE [9] ∧ s.fld MBX_m_CFG_DB_EN 9 = 0 ∧
     nextIs (exec (.mailboxSend host 9 0 message8) s) (fun t => decide (slotWords 9 t = message8 ∧ t.fld MBX_m_COUNT_SENT 9 = 6 ∧ t.fld MBX_m_STATUS_SEQ 9 = 6 ∧
       t.fld MBX_m_OVER_OVERWRITTEN 9 = 2 ∧ t.fld MBX_m_STATUS_COLLISION 9 = 1 ∧ mailboxBalanced 9 t = true)) ∧
     nextIs (exec (.mailboxSend host 9 0 message8) (fieldsAt s 9 [(MBX_m_CFG_DB_EN, 1), (MBX_m_CFG_DB_TARGET, 71), (MBX_m_CFG_DB_BIT, 31)])) (fun t =>
       t.fbit MBX_DBr_PENDING 31 71) ∧
     nextIs (exec (.mailboxSend host 9 0 message8) (fieldsAt s 9 [(MBX_m_SENDERS_MATCH, 1), (MBX_m_SENDERS_MASK, 1)])) (fun t => decide (
       t.fld OWN_VIOLm_LAST_KIND 0 = if bit host 0 then 0 else 5)) ∧
     nextIs (exec (.mailboxSend host 9 1 message8) s) (fun t => decide (t.fld OWN_VIOLm_LAST_KIND 0 = 2)) ∧
     nextIs (exec (.mbxSend host .full 9) (s.setReg (MBX_STAGE_Wk_WORD.key 3 0 0) 42)) (fun t => decide (slotWords 9 t = [0, 0, 0, 42, 0, 0, 0, 0] ∧
       t.fld MBX_m_COUNT_SENT 9 = 6 ∧ mailboxBalanced 9 t = true)) ∧
     nextIs (exec (.mailboxTake host 9 .full 5) s) (fun t => decide (t.fld MBX_m_STATUS_FULL 9 = 0 ∧ t.fld MBX_m_COUNT_TAKEN 9 = 4 ∧ mailboxBalanced 9 t = true)) ∧
     nextIs (exec (.mailboxTake host 9 .full 4) s) (fun t => kept [leaseKey] s t) ∧
     nextIs (exec (.mailboxTake host 9 .full 5) (fieldsAt s 9 [(MBX_m_RECV_MATCH, 1), (MBX_m_RECV_MASK, 1)])) (fun t => decide (
       t.fld OWN_VIOLm_LAST_KIND 0 = if bit host 0 then 0 else 5))) := by
  decide +kernel

/-- A ramp in progress on a branch. -/
def ramping (r : Ramp) : State := { live with pwr := { live.pwr with ramps := [r] } }

/-- The clock and power part of `live` changed. -/
def powered (l : List (Field × Nat)) (f : PwrState → PwrState) : State := { fields live l with pwr := f live.pwr }

theorem wit_ClocksAndGates :
    (let close (s : State) (n : Nat) (v : Bool) : Word := setBits (s.reg CLK_GATE_FIXED.off) n 1 (bnat v)
     let off := live.setGateBit 9 false
     live.admits host .CLK_GATE [] ∧ (9 ∈ ownGates) ∧ live.gateHeld 9 = false ∧ live.gateClosing 9 = false ∧ live.ramp (.gate 9) = none ∧
     nextIs (exec (.gateClose host false .full (close live 9 false)) live) (fun t => decide (t.gateBit 9 = false ∧ t.gateClosing 9 = true ∧ t.gateOpen 9 = false) &&
       kept [leaseKey, CLK_GATE_FIXED.off, CLK_GATE_CLOSING_CLOSING.off] live t &&
       nextIs (exec (.gateDrained (.gate 9)) t) (fun u => decide (u.ramp (.gate 9) = some ⟨.gate 9, 1, 0, none, 0, 16⟩ ∧ u.gateClosing 9 = false))) ∧
     nextIs (exec (.gateOpen host false .full (close off 9 true)) off) (fun t => decide (t.gateBit 9 = true ∧ t.gateOpen 9 = false ∧
       t.ramp (.gate 9) = some ⟨.gate 9, 0, 1, none, 0, 0⟩ ∧ t.fbit CLK_GATE_RAMP_RAMPING 9 = true)) ∧
     nextIs (exec (.gateDrained (.gate 9)) live) (fun t => decide (t = live))) ∧
    (let s := live.setFbit CLK_RGN_GATE_GATE 3 true
     live.admits host .CLK_RGN_GATE [] ∧ live.reg CLK_RGN_GATE_GATE.off = 0 ∧
     nextIs (exec (.gateClose host true .full 0) s) (fun t => decide (t.fbit CLK_RGN_GATE_GATE 3 = false ∧ t.fbit CLK_RGN_CLOSING_CLOSING 3 = true)) ∧
     nextIs (exec (.gateOpen host true .full 8) live) (fun t => decide (t.fbit CLK_RGN_GATE_GATE 3 = true ∧ t.ramp (.region 3) = some ⟨.region 3, 0, 1, none, 0, 0⟩))) ∧
    (nextIs (exec (.rampStep .noc) (ramping ⟨.noc, 24, 6, none, 0, 4⟩)) (fun t => decide (t.ramp .noc = some ⟨.noc, 24, 6, none, 1, 5⟩)) ∧
     nextIs (exec (.rampStep .noc) (ramping ⟨.noc, 24, 6, none, 7, 9⟩)) (fun t => decide (t.ramp .noc = some ⟨.noc, 24, 6, none, 8, 10⟩)) ∧
     nextIs (exec (.rampStep (.fclk 2)) (ramping ⟨.fclk 2, 4096, 16, none, 15, 0⟩)) (fun t => decide (t.fld CLK_FCLKk_CUR_DIV 2 = 16)) ∧
     nextIs (exec (.rampEnd .noc) (ramping ⟨.noc, 24, 6, none, 16, 16⟩)) (fun t => decide (t.ramp .noc = none ∧ t.pwr.nocDiv = 6)) ∧
     nextIs (exec (.rampEnd .noc) (ramping ⟨.noc, 24, 6, none, 15, 16⟩)) (fun t => decide (t.pwr.nocDiv = 6 ∧ (t.ramp .noc).isSome)) ∧
     nextIs (exec (.rampEnd .fixed) (ramping ⟨.fixed, 96, 0, some 24, 16, 0⟩)) (fun t => decide (t.ramp .fixed = some ⟨.fixed, 0, 24, none, 0, 0⟩)) ∧
     nextIs (exec (.rampEnd (.gate 9)) (ramping ⟨.gate 9, 0, 1, none, 16, 16⟩)) (fun t => decide (t.ramp (.gate 9) = none ∧ t.gateOpen 9 = true)) ∧
     nextIs (exec (.rampEnd (.gate 9)) ((ramping ⟨.gate 9, 1, 0, none, 16, 0⟩).setGateBit 9 false)) (fun t => decide (t.ramp (.gate 9) = none ∧ t.gateOpen 9 = false)) ∧
     nextIs (exec (.rampEnd (.gate 9)) (ramping ⟨.gate 9, 1, 0, none, 16, 0⟩)) (fun t => decide (t.ramp (.gate 9) = some ⟨.gate 9, 0, 1, none, 0, 0⟩)) ∧
     nextIs (exec (.rampEnd (.fclk 2)) (ramping ⟨.fclk 2, 64, 16, none, 16, 0⟩)) (fun t => decide (t.ramp (.fclk 2) = none ∧ t.fld CLK_FCLKk_CUR_DIV 2 = 16))) ∧
    (let p := pkt 0x0202 1 [1]
     let s := powered [(CLK_STATUS_KINDLE_READY, 1)] (fun x => { x with select := some (1, p), kindle := true })
     live.accepts 0x0202 1 .owner p ∧ live.fld CLK_STATUS_REF = 0 ∧
     nextIs (exec (.clkRefSelect p) live) (fun t => decide (t.pwr.select = some (1, p) ∧ t.pwr.kindle = true) && nextIs (exec .referenceQualified t) (fun u => decide (u = t))) ∧
     nextIs (exec (.clkRefSelect (pkt 0x0202 1 [0])) live) (fun t => replied t .ok [1]) ∧
     nextIs (exec (.clkRefSelect p) s) (fun t => replied t .busy []) ∧
     nextIs (exec .referenceQualified s) (fun t => decide (t.fld CLK_STATUS_REF = 1 ∧ t.fld CLK_STATUS_SWITCHING = 1) &&
       nextIs (exec .slewDone t) (fun u => decide (u.fld CLK_STATUS_SWITCHING = 0 ∧ u.pwr.select = none ∧ u.pwr.kindle = false) && replied u .ok [1])) ∧
     nextIs (exec .refQualifyTimeout s) (fun t => decide (t.pwr.select = none) && replied t .failed [])) ∧
    nextIs (exec .referenceQualified (powered [(CLK_STATUS_KINDLE_READY, 1)] (fun x => { x with phase := .p1 }))) (fun t => decide (t.pwr.phase = .p2)) ∧
    nextIs (exec .slewDone (fields live [(CLK_STATUS_ROOT, 3), (CLK_STATUS_SWITCHING, 1), (TCK_STATUS_ALIGNED, 1)])) (fun t => decide (
      t.fld CLK_MON_RETURNS = 1 ∧ t.fld CLK_STATUS_ROOT = 1 ∧ t.fld TCK_STATUS_ALIGNED = 0)) ∧
    (let s := (live.setFld CHG_MODE_MODE mdContext 5)
     s.mode 5 = mdContext ∧ s.pwr.frozen = false ∧ s.fld CLK_STATUS_ROOT = 1 ∧
     nextIs (exec (.clockMonitorTrip true) s) (fun t => decide (t.fld CLK_STATUS_ROOT = 2 ∧ t.pwr.stopped = true ∧ t.mode 5 = mdSafe ∧ t.fld CLK_MON_LOCK_LOST = 1 ∧
         t.fld CLK_MON_TRIPS = 1 ∧ t.flt.pending.map (·.source) = [3]) &&
       nextIs (exec .freeze t) (fun u => decide (u.pwr.frozen = true ∧ u.fld CLK_MON_FROZE = 1)) &&
       nextIs (exec (.pullInDone 0) (t.setFld CLK_STATUS_KINDLE_READY 1)) (fun u => decide (u.fld CLK_STATUS_ROOT = 3 ∧ u.pwr.stopped = true ∧
         u.ramp .fixed = some ⟨.fixed, 0, 24, none, 0, 0⟩))) ∧
     nextIs (exec (.clockMonitorTrip true) (live.setFld CLK_STATUS_ROOT 3)) (fun t => decide (t.pwr.frozen = true ∧ t.dark = true))) ∧
    (let s := { ramping ⟨.fixed, 0, 24, none, 16, 16⟩ with pwr := { live.pwr with ramps := [⟨.fixed, 0, 24, none, 16, 16⟩, ⟨.noc, 24, 6, none, 7, 9⟩], stopped := true, retained := true } }
     nextIs (exec (.rampStep .noc) s) (fun t => decide (t = s)) ∧ nextIs (exec (.rampEnd .noc) s) (fun t => decide (t = s)) ∧
     nextIs (exec (.rampEnd .fixed) (s.setFld PWR_STATUS_SUSPENDED 1)) (fun t => decide (t.pwr.stopped = false ∧ t.fld PWR_STATUS_SUSPENDED = 0 ∧ (t.ramp .noc).isSome))) := by
  decide +kernel

theorem wit_PowerStates :
    (nextIs (exec .aonPowerOn live) (fun t => decide (t.pwr = PwrState.reset ∧ t.regs = [] ∧ t.out = [.coreEn false])) ∧
     nextIs (exec .coreEnHigh (powered [] (fun x => { x with coreEn := false }))) (fun t => decide (t.out = [.coreEn true])) ∧
     nextIs (exec (.powerOn false) (powered [(TCK_AON_COUNT, 9)] (fun x => { x with pwrOk := false }))) (fun t => decide (t.pwr.phase = .p0 ∧ t.fld TCK_AON_COUNT = 9 ∧ t.fld CLK_STATUS_ROOT = 0) &&
       nextIs (exec .pwrOkFall t) (fun u => decide (u.pwr.phase = .off ∧ u.fld TCK_AON_COUNT = 9)) && nextIs (exec (.powerOn true) t) (fun u => decide (u = t)))) ∧
    nextIs (exec (.kindlingReady 2 true false) (powered [] (fun x => { x with phase := .p0, kindle := true }))) (fun t => decide (t.pwr.phase = .p1 ∧
      t.fld CLK_STATUS_REF_SEL = 1 ∧ t.fld CFG_STATUS_BOOT_SRC = 2 ∧ t.fld CHG_SAFE_STATE 127 = 0)) ∧
    nextIs (exec (.rootLock 0) (powered [(CLK_STATUS_ROOT, 0), (CLK_STATUS_KINDLE_READY, 1)] (fun x => { x with phase := .p2, kindle := true }))) (fun t =>
      decide (t.pwr.phase = .p3 ∧ t.fld CLK_STATUS_ROOT = 1 ∧ t.pwr.kindle = false ∧ t.fld CLK_STATUS_KINDLE_READY = 0)) ∧
    (powered [] (fun x => { x with phase := .p3 })).pwr.phase = .p3 ∧
    (let p (n : Word) := pkt 0x0201 1 [n]
     live.accepts 0x0201 1 .owner (p 1) ∧ live.power = 0 ∧
     nextIs (exec (.pwrState (p 0)) live) (fun t => replied t .ok [0, 0]) ∧
     nextIs (exec (.pwrState (p 1)) live) (fun t => decide (t.pwr.nextStep = some (1, 1) ∧ t.fld PWR_STATUS_TARGET = 1 ∧ t.pwr.req = some ⟨some (p 1), 1⟩) &&
       nextIs (exec (.pwrState (p 2)) t) (fun u => decide (u.pwr.slot = some ⟨some (p 2), 2⟩ ∧ u.fld PWR_STATUS_PENDING_STATE = 2) &&
         nextIs (exec (.pwrState (p 3)) u) (fun v => decide (v.fld PWR_COUNTS_SUPERSEDED = 1 ∧ v.fld PWR_STATUS_PENDING_STATE = 3) && replied v .superseded []))) ∧
     (let s := powered [(PWR_STATUS_STEP, 1), (PWR_STATUS_TARGET, 1)] (fun x => { x with req := some ⟨some (p 1), 1⟩ })
      stepDone 1 s = true ∧ nextIs (exec .powerStepEnd s) (fun t => decide (t.power = 1 ∧ t.fld PWR_COUNTS_TRANSITIONS = 1) && replied t .ok [1, 0])) ∧
     (let s := powered [(PWR_STATUS_STEP, 4), (PWR_STATUS_TARGET, 3)] (fun x => { x with nocDiv := 24 })
      stepDone 4 s = true ∧ nextIs (exec .powerStepEnd s) (fun t => decide (t.power = 2 ∧ t.pwr.nextStep = some (5, 1)))) ∧
     (let s := hardEndpoints.foldl (fun s e => s.setFld NOC_EPe_STATUS_DAMPER 2 e) (live.setFld PWR_STATUS_STEP 3)
      let held := { s with pwr := { s.pwr with forced := bankedGates } }
      stepDone 3 s = true ∧ s.fld PWR_STATUS_STEP = 3 ∧ gatesDown s = false ∧ bankedHeld s = false ∧ gatesDown held = true ∧
      nextIs (exec .powerStepEnd s) (fun t => bankedHeld t && !gatesDown t && decide (t.ramp (.gate 9) = some ⟨.gate 9, 1, 0, none, 0, 16⟩) &&
        nextIs (exec .powerStepEnd t) (fun u => decide (u = t)))) ∧
     (let s := allTargets.foldl (fun s t => s.setFld CFG_RGNr_STATUS_DAMPER dmShut t) (live.setFld PWR_STATUS_STEP 2)
      stepDone 2 s = true ∧ stepDone 0 live = false ∧ nextIs (exec .powerStepEnd s) (fun t => decide (t.pwr.nextStep = some (3, 1))))) ∧
    (let a : Action := ⟨40, 9, 0, 0, 0, 0, 0, 0⟩
     let s := (live.setFld PWR_STATUS_STEP 2).modEng 5 (fun x => { x with jobRunning := true, queue := [a] })
     nextIs (exec .bankedJobCutoff s) (fun t => decide ((t.eng 5).jobRunning = false ∧ t.fld SGE_TRAP_CAUSE 5 = 7 ∧ t.fld SGE_COUNT_ERR_LIMITS 5 = 1))) ∧
    (let s (r : Bool) := powered [(PWR_STATUS_STEP, 6), (PWR_AVS_TARGET_MV, 800), (PWR_STATUS_STATE, 2)] (fun x => { x with avs := some r, req := some ⟨some (pkt 0x0201 1 [1]), 1⟩ })
     nextIs (exec (.avsReadback none) (s true)) (fun t => decide (t.fld PWR_AVS_AVS_ERR = 1)) ∧
     nextIs (exec (.avsReadback (some 790)) (s true)) (fun t => decide (t.pwr.avs = none ∧ t.ramp .noc = some ⟨.noc, 24, 6, none, 0, 4⟩)) ∧
     nextIs (exec (.avsReadback (some 789)) (s true)) (fun t => decide (t.pwr.avs = some true ∧ t.fld PWR_AVS_READ_MV = 789)) ∧
     nextIs (exec (.avsReadback (some 810)) (s false)) (fun t => decide (t.pwr.avs = none)) ∧
     nextIs (exec .avsTimeout (s false)) (fun t => decide (t.fld PWR_COUNTS_AVS_ERRORS = 1 ∧ t.flt.pending.map (·.source) = [4])) ∧
     nextIs (exec .avsTimeout (s true)) (fun t => decide (t.power = 2 ∧ t.pwr.req = none) && replied t .failed [])) ∧
    nextIs (exec .coldDelayExpire (powered [(TCK_AON_COUNT, 5)] (fun x => { x with coldDelay := true, coreEn := true }))) (fun t => decide (t.power = 3 ∧
      t.pwr.coreEn = false ∧ t.fld TCK_AON_COUNT = 5 ∧ t.tck.saved.isSome)) ∧
    (let s := (live.setFbit PWR_WAKE_CFG_PIN_EN 2 true)
     nextIs (exec (.wakePin 2) s) (fun t => decide (t.fbit PWR_WAKE_STATUS_PIN 2 = true ∧ t.fld PWR_COUNTS_WAKES = 1)) ∧
     nextIs (exec (.wakePin 1) s) (fun t => decide (t.fld PWR_COUNTS_WAKES = 0)) ∧
     nextIs (exec (.wakePin 2) (s.setFld PWR_STATUS_STATE 1)) (fun t => decide (t.pwr.nextStep = some (9, 1) ∧ t.pwr.req = some ⟨none, 0⟩))) ∧
    (let s := fields live [(PWR_WAKE_CFG_PCIE_EN, 1), (PWR_WAKE_CFG_RING_EN, 1)]
     s.admits host .PWR_WAKE_REQ [] ∧ identClass host = 1 ∧ s.power = 0 ∧
     nextIs (exec (.wakeReqWrite host .full 1) s) (fun t => decide (t.fld PWR_WAKE_STATUS_PCIE = 1 ∧ t.fld PWR_COUNTS_WAKES = 1)) ∧
     nextIs (exec (.wakeReqWrite (mkIdent 3 2 1) .full 1) s) (fun t => decide (t.fld PWR_WAKE_STATUS_RING = 1)) ∧
     nextIs (exec (.wakeReqWrite (mkIdent 0 3 1) .full 1) s) (fun t => decide (t.fld PWR_COUNTS_WAKES = 0 ∧ t.fld OWN_VIOLm_COUNT_COUNT 9 = 1)) ∧
     nextIs (exec .ringEnergyWake (s.setFld PWR_STATUS_STATE 3)) (fun t => decide (t.pwr.coreEn = true ∧ t.fld PWR_WAKE_STATUS_RING = 1)) ∧
     nextIs (exec .perstRise (s.setFld PWR_STATUS_STATE 3)) (fun t => decide (t.pwr.coreEn = true ∧ t.fld PWR_WAKE_STATUS_PCIE = 1)) ∧
     nextIs (exec .perstRise { s with pwr := { s.pwr with wakeLow := true } }) (fun t => decide (t.out = [.pcieWakeN false]))) := by
  decide +kernel

/-- `live` with the fault collector changed. -/
def collecting (l : List (Field × Nat)) (f : FltState → FltState) : State := { fields live l with flt := f FltState.reset }

theorem wit_FaultsAreRecordedAndContained :
    (live.admits host .FLT_RAISE [] ∧ (live.isOwner host = true) ∧
     nextIs (exec (.fltRaiseWrite host .full 0x0000002A00000801) live) (fun t => decide (t.fld FLT_SRCs_COUNT 0x801 = 1 ∧ t.fld FLT_COUNT_RAISED = 1 ∧
       t.flt.pending = [⟨0x801, 42, 0, 0, false⟩] ∧ t.flt.reactions = []) &&
       kept [leaseKey, FLT_SRCs_COUNT.key 0x801 0 0, FLT_COUNT_RAISED.off] live t &&
       nextIs (exec (.fltRaiseWrite host .full 0x0000002B00000801) t) (fun u => decide (u.flt.pending = [⟨0x801, 43, 0, 0, true⟩] ∧ u.fld FLT_COUNT_RAISED = 2))) ∧
     nextIs (exec (.fltRaiseWrite host .full 0x7FF) live) (fun t => decide (t.flt = live.flt ∧ t.fld OWN_VIOLm_COUNT_COUNT 0 = 1)) ∧
     nextIs (exec (.fltRaiseWrite (mkIdent 0 3 7) .full 0x900) (live.setFld FLT_SRCs_SEV 3 0x900)) (fun t => decide (
       t.flt.reactions = [⟨0x900, 3, 0, some 7⟩])) ∧
     (let s := (live.setFld FLT_SRCs_SEV 1 0x900).setFld FLT_SRCs_EN0 1 0x900 |>.setFld FLT_SRCs_VEC0 9 0x900
      vectorOpen s 0 9 = false ∧
      nextIs (exec (.fltRaiseWrite host .low 0x900) s) (fun t => decide (t.fbit FLT_VECf_RAISED_RAISED 9 0 = true ∧ bit (t.reg (pbaKey 0)) 9 = true ∧ t.out = s.out)))) ∧
    (mergePending ⟨5, 0, 0, 1, false⟩ [⟨3, 0, 0, 1, false⟩, ⟨5, 7, 2, 2, false⟩] = [⟨3, 0, 0, 1, false⟩, ⟨5, 0, 2, 2, true⟩]) ∧
    (let s := collecting [(FLT_COUNT_RECORDED, 33)] (fun f => { f with pending := [⟨0x801, 42, 77, 2, true⟩, ⟨0x802, 0, 0, 0, false⟩] })
     nextIs (exec .faultRecord s) (fun t => decide (t.reg (FLT_HISTk_W0_WORD.key 1 0 0) = 77 ∧ t.reg (FLT_HISTk_W1_WORD.key 1 0 0) = 0x00210000002AE801 ∧
       t.reg FLT_FIRST_W1_WORD.off = 0x00210000002AE801 ∧ t.fld FLT_COUNT_RECORDED = 34 ∧ t.flt.journalQueue = [(77, 0x00210000002AE801)]) &&
       nextIs (exec .faultRecord t) (fun u => decide (u.reg FLT_FIRST_W0_WORD.off = 77 ∧ u.flt.pending = [])) &&
       nextIs (exec (.firstCaptureRearm host .low 0x8000) t) (fun u => decide (u.reg FLT_FIRST_W0_WORD.off = 0 ∧ u.reg FLT_FIRST_W1_WORD.off = 0)) &&
       nextIs (exec (.firstCaptureRearm host .high 0xFFFFFFFFFFFFFFFF) t) (fun u => decide (u.reg FLT_FIRST_W0_WORD.off = 77)) &&
       nextIs (exec (.historyRead host 1 .full) t) (fun u => decide (u.out.head? = some (.answer host 77) ∧
         u.flt.captured = [(0, 1, 0x00210000002AE801)]) &&
         nextIs (exec (.rcFieldRead host (FLT_HISTk_W1_WORD.key 1 0 0) .full) (u.setReg (FLT_HISTk_W1_WORD.key 1 0 0) 5)) (fun v => decide (
           v.out.head? = some (.answer host 0x00210000002AE801) ∧ v.flt.captured = [])))) ∧
     live.readable (FLT_HISTk_W0_WORD.key 1 0 0) ∧ live.admits host .FLT_FIRST_W1 []) ∧
    (nextIs (exec .faultRecord live) (fun t => decide (t = live)) ∧ nextIs (exec .faultReaction live) (fun t => decide (t = live)) ∧
     nextIs (exec .faultReaction ((collecting [] (fun f => { f with reactions := [⟨0x205, 2, 0, none⟩] })).setFld CHG_MODE_MODE mdContext 5)) (fun t => decide (
       t.mode 5 = mdSafe ∧ t.flt.reactions = [] ∧ t.fld FLT_STATUS_HALTED = 0)) ∧
     nextIs (exec .faultReaction (collecting [(CTX_ENG_CTL_EN, 1)] (fun f => { f with reactions := [⟨0x080, 2, 0, none⟩] }))) (fun t => decide (
       t.fld CTX_ENG_CTL_EN = 0)) ∧
     nextIs (exec .faultReaction ((collecting [] (fun f => { f with reactions := [⟨0x186, 2, 0, none⟩] })).setFbit BRL_CTL_PORT_EN 2 true)) (fun t => decide (
       t.fbit BRL_CTL_PORT_EN 2 = false)) ∧
     nextIs (exec .faultReaction ((collecting [] (fun f => { f with reactions := [⟨0x325, 2, 0, none⟩] })).setFld SGE_CTL_RUN 1 5)) (fun t => decide (
       t.fld SGE_CTL_RUN 5 = 0)) ∧
     nextIs (exec .faultReaction (collecting [] (fun f => { f with reactions := [⟨0x900, 2, 0, some 3⟩] }))) (fun _ => true) ∧
     nextIs (exec .faultReaction ((collecting [(FLT_STATUS_EMBER, 1), (FLT_STATUS_EMBER_RUN, 1)] (fun f => { f with reactions := [⟨0x900, 3, 0, none⟩] })).setFld CHG_MODE_MODE mdContext 127)) (fun t =>
       decide (t.fld FLT_STATUS_HALTED = 1 ∧ t.fld FLT_STATUS_HALT_SRC = 0x900 ∧ t.fld FLT_STATUS_HALTS = 1 ∧ t.mode 127 = mdSafe ∧ t.fld FLT_STATUS_EMBER = 0)) ∧
     nextIs (exec .faultReaction (collecting [(FLT_STATUS_HALTED, 1), (FLT_STATUS_HALTS, 4)] (fun f => { f with reactions := [⟨0x900, 3, 0, none⟩] }))) (fun t =>
       decide (t.fld FLT_STATUS_HALTED = 1 ∧ t.fld FLT_STATUS_HALTS = 4))) ∧
    (let s := fields live [(FLT_STATUS_HALTED, 1)]
     s.admits host .FLT_CTL [] ∧
     nextIs (exec (.haltRelease host .full 0x31) s) (fun t => decide (t.fld FLT_STATUS_HALTED = 0 ∧ t.fld FLT_CTL_JOURNAL_MIN = 3)) ∧
     nextIs (exec (.haltRelease host .low 1) (s.setFld FLT_STATUS_TICK_LOST 1)) (fun t => decide (t.fld FLT_STATUS_HALTED = 1 ∧ t.fld FLT_STATUS_RELEASE_REFUSED = 1)) ∧
     nextIs (exec (.haltRelease host .low 1) { s with flt := { s.flt with reactions := [⟨0x900, 3, 0, none⟩] } }) (fun t => decide (t.fld FLT_STATUS_HALTED = 1 ∧ t.flt.rehalt = true) &&
       nextIs (exec .faultReaction t) (fun u => decide (u.fld FLT_STATUS_HALTS = 1 ∧ u.fld FLT_STATUS_HALT_SRC = 0x900))) ∧
     nextIs (exec (.haltRelease host .high 1) s) (fun t => kept [leaseKey] s t)) := by
  decide +kernel

set_option maxRecDepth 1000000 in
theorem wit_JournalAndEmber :
    (let s := collecting [(FLT_JSEQ_JSEQ, 4)] (fun f => { f with journalQueue := [(77, 78)], boot := some 3 })
     s.gateOpen 8 = true ∧
     nextIs (exec .journalWrite s) (fun t => decide (t.pword (nvaKey 0x2A014) = PWord.clean 5 ∧ t.pword (nvaKey 0x2A016) = PWord.clean 78 ∧
       t.fld FLT_JSEQ_JSEQ = 5 ∧ t.fld FLT_JOURNAL_WRITTEN = 1 ∧ t.flt.journalQueue = [] ∧ journalPlace t 5 = some (5, 3)) &&
       nextIs (exec (.journalRead (pkt 0x0F02 2 [5, 1])) t) (fun u => decide ((u.replyQueue 0).getLast?.map (fun r => r.words.take 5) = some [5, 1, 5, 77, 78]))) ∧
     nextIs (exec .journalWrite live) (fun t => decide (t = live)) ∧ nextIs (exec .journalScan s) (fun t => decide (t = s)) ∧
     live.pwr.phase = .up ∧ live.flt.boot = none ∧ journalPlace live 0 = none) ∧
    (live.accepts 0x0F02 2 .any (pkt 0x0F02 2 [5, 1]) ∧
     nextIs (exec (.journalRead (pkt 0x0F02 2 [5, 0])) live) (fun t => replied t .invalid []) ∧
     nextIs (exec (.journalRead (pkt 0x0F02 2 [5, 1])) live) (fun t => replied t .ok [0, 0])) ∧
    (let s := { fields live [(FLT_STATUS_EMBER_RUN, 1), (DEVICE_TIME_TIME, 4800000)] with pwr := { live.pwr with pwrOk := true } }
     s.emberMay = true ∧ s.flt.emberNext = none ∧
     nextIs (exec .heartbeat (s.setFld FLT_STATUS_HB_LOST 1)) (fun t => decide (t.fld HC_STATUS_HEARTBEATS = 1 ∧ t.fld FLT_STATUS_HB_LOST = 0)) ∧
     nextIs (exec .hbLost s) (fun t => decide (t.fld FLT_STATUS_HB_LOST = 1 ∧ t.fld FLT_STATUS_EMBER_RUN = 0 ∧ t.flt.pending.map (·.source) = [1] ∧
       t.flt.reactions.map (·.sev) = [3]) && nextIs (exec .hbLost t) (fun u => decide (u = t)) &&
       nextIs (exec .emberEdge t) (fun u => decide (u.fld FLT_STATUS_EMBER = 0))) ∧
     nextIs (exec .tickLost s) (fun t => decide (t.fld FLT_STATUS_TICK_LOST = 1 ∧ t.flt.pending.map (·.source) = [2]) &&
       nextIs (exec .tickLost t) (fun u => decide (u = t))) ∧
     nextIs (exec .emberEdge (s.setFld FLT_STATUS_EMBER_RUN 0)) (fun t => decide (t.flt.emberWait = some 1 ∧ t.fld FLT_STATUS_EMBER = 0 ∧ t.fld FLT_STATUS_EMBER_RUN = 1) &&
       nextIs (exec .emberEdge t) (fun u => decide (u = t)) &&
       nextIs (exec .emberEdge (t.setFld DEVICE_TIME_TIME 14400000)) (fun u => decide (u.fld FLT_STATUS_EMBER = 1 ∧ u.flt.emberWait = none))) ∧
     nextIs (exec .emberEdge s) (fun t => decide (t.fld FLT_STATUS_EMBER = 1 ∧ t.out = .ember true :: s.out) &&
       nextIs (exec .emberEdge t) (fun u => decide (u = t))) ∧
     nextIs (exec (.emberFreqWrite host .low 0x03E807D0) s) (fun t => decide (t.fld FLT_EMBER_FREQ_HZ = 2000 ∧ t.flt.emberNext = some 2400000 ∧ t.flt.emberH = 4800000) &&
       nextIs (exec .emberEdge t) (fun u => decide (u.fld FLT_STATUS_EMBER = 1 ∧ u.flt.emberH = 2400000 ∧ u.flt.emberHold = some 4800000) &&
         nextIs (exec .emberEdge (u.setFld DEVICE_TIME_TIME 7199999)) (fun v => decide (v.fld FLT_STATUS_EMBER = 1)) &&
         nextIs (exec .emberEdge (u.setFld DEVICE_TIME_TIME 9600000)) (fun v => decide (v.fld FLT_STATUS_EMBER = 0 ∧ v.flt.emberHold = none)))) ∧
     s.admits host .FLT_EMBER [] ∧
     nextIs (exec (.emberFreqWrite host .low 0x03E800F9) s) (fun t => decide (t = renewLease host s)) ∧
     nextIs (exec (.emberFreqWrite host .full 0x103E803E8) (s.setFld FLT_STATUS_EMBER 1)) (fun t => decide (t.fld FLT_STATUS_EMBER = 0 ∧ t.fld FLT_EMBER_STOP = 1) &&
       nextIs (exec (.emberFreqWrite host .full 0x03E800FA) t) (fun u => decide (u.flt.emberH = 19200000 ∧ u.fld FLT_STATUS_EMBER_RUN = 1)))) := by
  decide +kernel

theorem wit_StepRunsTheFrontCommand :
    nextIs (step { live with pending := [.heartbeat, .emberEdge] }) (fun t => decide (t.pending = [.emberEdge] ∧ t.fld HC_STATUS_HEARTBEATS = 1)) ∧
    live.pending = [] ∧ live.rootRuns = true ∧ live.tck.phase + 1 < live.tickLen ∧ live.tck.phase + 1 ≠ 96 * live.curN ∧
    nextIs (step live) (fun t => decide (t.fld DEVICE_TIME_TIME = 1 ∧ t.tck.phase = 1)) ∧
    (let s := { live with tck := { live.tck with phase := live.tickLen - 1 } }
     s.tickLen ≤ s.tck.phase + 1 ∧ nextIs (step s) (fun t => decide (t = s))) ∧
    nextIs (step State.reset) (fun t => decide (t = State.reset)) := by
  decide +kernel

theorem wit_ResetLeavesTheStatedValues :
    State.reset.reg 0x200010 = 0x3E803E8 ∧ State.reset.reg (0x400018) = 64 ∧ State.reset.reg (0x1800000 + 0x100 * 31) = 0x21 ∧ State.reset.reg (0x1802000 + 0x100 * 63) = 0x20 ∧
    State.reset.reg (0xC00808 + 0x4000 * 127 + 0x80 * 15) = 0x9B203E1 ∧ State.reset.reg (0xC03818 + 0x80000 * 3) = 0x41AFE700000 ∧
    (State.reset.pword 0x5FFFFFF).decode = .clean 0 ∧ (State.reset.pword 0).decode = .clean 0 ∧ State.reset.mode 127 = mdSafe := by
  decide +kernel

/-- The form of the two sparse memories as a Bool. -/
def formed (s : State) : Bool := Memory.wf regReset s.regs && Memory.wf memDefault s.mem

theorem wit_StepsKeepTheCanonicalForm :
    formed live = true ∧ nextIs (step { live with pending := [.heartbeat] }) formed ∧
    nextIs (step { (live.writeP 3 7).writeP 9 1 with pending := [.powerOn false] }) formed ∧ live.pending = [] := by
  decide +kernel

theorem wit_CommandsLeaveTheQueue :
    nextIs (step { live with pending := [.aonPowerOn, .heartbeat, .hbLost] }) (fun t => decide (t.pending = [.heartbeat, .hbLost])) ∧
    nextIs (step live) (fun t => decide (t.pending = [])) := by
  decide +kernel

/-! ### WellFormed refuses an ill-formed term of each check -/

/-- An action with a tag that has no 16 bits. -/
def badAction : Action := ⟨256, 65536, 0, 0, 0, 0, 0, 0⟩

/-- A frame to a device ID that has no 14 bits. -/
def badFrame : BrFrame := ⟨16384, 0, 0, 0, 0, false, 0, 0, 0, 0, 0, []⟩

/-- A request whose address has no 40 bits. -/
def badNocReq : NocReq := ⟨host, 0, 2 ^ 40, 8, 0, 0, 0, false, [], .ok, none⟩

/-- A packet of ECHO's opcode, which belongs to that row. -/
def badPacket : Packet := pkt 0x0F01 0 []

theorem wf_refuses_packets : (([.tickSetPeriod badPacket, .timeAlign badPacket, .timePtm badPacket, .ctxCreate badPacket,
    .ctxCreateBlock badPacket [] .ok, .ctxArm badPacket, .ctxPause badPacket, .ctxDestroy badPacket, .ctxRead badPacket, .calGroup badPacket,
    .calLoad badPacket, .calStore badPacket [], .calStore (pkt 0x0403 1 [0]) [128], .selftestGroup badPacket, .calReference badPacket,
    .cfgLoad badPacket, .cfgAbort badPacket, .cfgStart badPacket, .cfgReadback badPacket none, .fuseRollback badPacket,
    .fuseProgram badPacket, .regionClear badPacket, .regionDamper badPacket, .swpSource badPacket .ok [], .dramStart badPacket true, .dramTableSave badPacket true, .dramStop badPacket] : List Instr).all
      (fun c => !c.wellFormed)) = true ∧
    (([.ringEnum badPacket, .ringCopy badPacket, .linkRetrain badPacket, .domainSet badPacket, .domainRead badPacket, .echo (pkt 0x0802 0 []),
    .pwrState badPacket, .clkRefSelect badPacket, .journalRead badPacket, .echo (pkt 0x0F01 2 [1]), .echo (pkt 0x0F01 16 (List.replicate 16 0)),
    .echo { pkt 0x0F01 0 [] with issuer := mkIdent 0 5 0 }] : List Instr).all (fun c => !c.wellFormed)) = true ∧
    (Instr.echo (pkt 0x0F01 1 [1])).wellFormed = true := by
  decide +kernel

theorem wf_refuses_ranges : (([.registerWrite host 4 .full 0, .rcFieldRead host 0x2000000 .full, .bar0BadAccess host 8 8 true,
    .tickBoundary [128], .markerFrame ⟨0, 0, 0, 15, 64, false, 0, 0, 0, 0⟩, .aonCalibration (2 ^ 32), .resultResponse 0 0 65536 .ok 0,
    .ringWriteResponse 0 (2 ^ 32) .ok, .gateDrained (.gate 64), .rampStep (.region 64), .rampEnd (.fclk 24), .vectorPlay 0 [] [],
    .groupAction 0 badAction, .streamReadResponse 0 0 .ok (List.replicate 2049 0), .rampCrossing 0 0 (2 ^ 32) [],
    .calStepEnd 0 ⟨false, [(256, 0)], 0, 0, 0⟩, .sgeAction 0 badAction, .dmaResponse 0 .ok (List.replicate 65 0), .uoscMeasure [0],
    .i2cTransfer 0 0 65 [] .nack, .uartFrameReceive 0 (List.replicate 13 (true, true, true)) 0, .fabricPortRequest 0 badNocReq, .canFrameReceive 0 0 0 (List.replicate 9 0) 0 .none, .configHeader .ok [], .configRecord .ok [],
    .configTrailer .ok [], .readyFrame 0 badFrame, .startFrame 0 badFrame, .memorySweepRead 0 8192,
    .bankAccess (some ⟨host, 0x4004000000, 8, none, false⟩) none, .nocInject 0 badNocReq,
    .nocInject 0 { badNocReq with addr := 0, op := 8 }] : List Instr).all
      (fun c => !c.wellFormed)) = true := by
  decide +kernel

theorem wf_refuses_more_ranges : (([.hostMemoryRequest ⟨0, 0, 0, 0, none, 0, .memory, false, false, false⟩, .hostConfigRequest 0 0 1024 none, .dramRequest 0 ⟨320, 0, host, false, 0, 8, [], false⟩, .dramReadData 0 0 [] 0, .mr4Poll 0 [8] false,
    .laneBitLock 0 256, .frameCheckFail 0 ⟨0, List.replicate 64 0, 0⟩, .dlyReq 0 64 0, .dlyRsp 0 0 1 2, .ack 0 4096, .nak 0 4096, .cred 0 [], .tick 0 256 0,
    .readFrame 0 badFrame, .writeFrame 0 badFrame, .responseFrame 0 badFrame, .enumFrame 0 badFrame, .enumTableFrame 0 badFrame,
    .streamFrame 0 badFrame, .enumTimeout 0 65, .remoteAccessTimeout 65536, .commandPortWrite host 0 8 [0], .replyInWrite host 0 (List.replicate 16 0),
    .ownershipClaim [], .mailboxSend host 0 8 [0], .rootLock (2 ^ 48), .hearthInitDone [], .pullInDone (2 ^ 48), .companionResult 0 0 0 0 65 false,
    .hostLinkUp 0 1, .hostLinkUp 1 3] : List Instr).all (fun c => !c.wellFormed)) = true := by
  decide +kernel

/-! ### Worked examples of the manual -/

/-- Chapter 16: a ramp from no edges to all makes 1 edge of 16 after one step; chapter 16's example of a ramp from 24 to 6. -/
theorem test_ramp_edges : rampEdges 24 6 1 = 5 ∧ rampEdges 24 6 8 = 10 := by decide +kernel

/-- Chapter 17: the tick watch's limit for the shortest usual and the longest tick (R689). -/
theorem test_tick_watch_limit : tickWatchLimit 64 = 3 ∧ tickWatchLimit 66666 = 2063 ∧
    (fields live [(TCK_PERIOD_CUR_N, 64), (TCK_PERIOD_NEXT_NEXT_N, 66666), (TCK_PERIOD_NEXT_PENDING, 1)]).watchLimit = 2063 := by decide +kernel

/-- Chapter 7: RND on the rows of the rounding example (R276). -/
theorem test_rounding : roundConvergent 0x00123456800000 = 0x123456 ∧ roundConvergent 0x00123457800000 = 0x123458 ∧
    roundConvergent 0x00123456800001 = 0x123457 ∧ roundConvergent (-0x800000) = 0 ∧ roundConvergent 0x007FFFFFC00000 = 0x800000 := by
  decide +kernel

/-- Chapter 13: the address example of R496. -/
theorem test_dram_address : (let s := fields State.reset [(DRC_IMAP_MODE, 2), (DRC_GEOM_RANKS, 1), (DRC_GEOM_ROW_BITS, 1)]
    dramTarget 0x1234567AC0 s = some (2, 0x48D159EC0)) := by decide +kernel

/-- Chapter 8: half times half in a FRAC slice is a quarter (the example after R276 with R317, R318); an accumulator past 56 bits
raises OVF; a routing select above its inputs passes 0; chapter 10: FORCE_1 holds 1 and a full load holds 0. -/
theorem test_cells :
    (let c : SliceConfig := ⟨.mac, true, true, true, false⟩
     sliceCycle c 2 0x400000 0x400000 0 0 = (0x00200000000000, false) ∧ sliceRounded c 0x00200000000000 = 0x200000 ∧
     (sliceCycle { c with frac := false } 0 1 1 0 0x7FFFFFFFFFFFFF).2 = true) ∧
    muxOutput [true, true] 2 = false ∧ holdCell false true 2 false false = true ∧ holdCell true true 2 true true = false ∧
    bramRead ((PWord.clean 5).upset 3) = (5, true, false) ∧ bramBoth 1 (some 2) (some 3) = (2, 2, true) := by
  decide +kernel

/-- The examples of R708 and R712, and R710's areas: each area's signals and supplies fill it. -/
theorem test_balls :
    [1, 20, 38, 39, 57, 58, 74].map rowName = ["A", "AA", "AY", "BA", "BY", "CA", "CV"] ∧
    (rowName (channelBall 37).1, (channelBall 37).2) = ("B", 10) ∧ (rowName (channelBall 2047).1, (channelBall 2047).2) = ("CU", 74) ∧
    groundBalls 127 = [(74, 71), (74, 72), (74, 73), (74, 74)] ∧ ballPin 2 10 = some (.channel 37) ∧ ballPin 73 74 = some (.channel 2047) ∧
    ballPin 1 33 = some (.one "PWR_OK") ∧ ballPin 21 13 = some (.ddr 0 "" "RESET_N") ∧ ballPin 75 1 = none ∧
    controlSignals.length = 105 ∧ (dramSignals 0).length = 146 ∧
    pinAreas.all (fun a => decide (a.order.length = a.rows * a.cols)) = true := by
  decide +kernel

end Sys2Proof.Tests
end

section
/-! SUPPORT. Writes at offsets that no register has (R10), and the part of HC_REPLY_IN behind its first word (R590): what O54
turns on. -/

namespace Sys2Proof.Machine

/-- A write where no register lies renews the lease and then meets the ranges that have no register of their own. -/
theorem registerWrite_noRegister {s : State} {off : Nat} (hat : regAt off = none) (hd : s.dark = false) (m : Ident)
    (h : Half) (data : Word) :
    exec (.registerWrite m off h data) s = .next (otherWrite m off h data (renewLease m s)) := by
  rw [exec_registerWrite]
  unfold execRegisterWrite
  simp [hat, hd]

/-- The words of HC_REPLY_IN behind its first admit the RING class alone: another master's write is an AREA violation (R590). -/
theorem otherWrite_replyIn_notRing {m : Ident} {off : Nat} (hm : identClass m ≠ 2) (hlo : 0x3000 < off) (hhi : off < 0x3080)
    (h : Half) (data : Word) (s : State) : otherWrite m off h data s = violation m .area true (off + h.skip) s := by
  have hport : ¬ (HC_CMD_PORT_PACKET.off < off ∧ off < HC_CMD_PORT_PACKET.off + 0x80) := by
    simp only [HC_CMD_PORT_PACKET]
    omega
  have hreply : HC_REPLY_IN_REPLY.off < off ∧ off < HC_REPLY_IN_REPLY.off + 0x80 := ⟨hlo, hhi⟩
  unfold otherWrite
  rw [if_neg hport, if_pos hreply, if_pos hm]

/-- An access violation adds one to the count of the master's slot, wrapping (R605). -/
theorem fld_violation_count {m : Ident} {n : Nat} (hn : slotOf m = some n) (k : ViolKind) (write : Bool) (off : Nat) (s : State) :
    (violation m k write off s).fld OWN_VIOLm_COUNT_COUNT n = (s.fld OWN_VIOLm_COUNT_COUNT n + 1) % 2 ^ OWN_VIOLm_COUNT_COUNT.w := by
  have hkey : OWN_VIOLm_COUNT_COUNT.key n 0 0 ≠ OWN_VIOLm_LAST_IDENT.key n 0 0 := by
    simp [Field.key, OWN_VIOLm_COUNT_COUNT, OWN_VIOLm_LAST_IDENT]
  unfold violation
  simp only [hn]
  rw [fld_setReg_other _ _ _ _ _ _ _ hkey]
  exact fld_setFld_same s _ _ n 0 0 (by unfold Field.good; decide)

/-- The violation counts are not touched by the lease. -/
theorem fld_renewLease_violations (m : Ident) (s : State) (n : Nat) :
    (renewLease m s).fld OWN_VIOLm_COUNT_COUNT n = s.fld OWN_VIOLm_COUNT_COUNT n := by
  refine fld_renewLease m s _ n 0 0 ?_
  simp only [Field.key, OWN_VIOLm_COUNT_COUNT, leaseKey, OWN_STATUS_LEASE_LEFT_MS]
  omega

/-- A write by a master with a slot, not of the RING class, to the words of HC_REPLY_IN behind its first is counted (R590). -/
theorem registerWrite_replyIn_counted {s : State} {m : Ident} {off n : Nat} (hat : regAt off = none) (hd : s.dark = false)
    (hm : identClass m ≠ 2) (hn : slotOf m = some n) (hlo : 0x3000 < off) (hhi : off < 0x3080) (h : Half) (data : Word) :
    ∃ t, exec (.registerWrite m off h data) s = .next t ∧
      t.fld OWN_VIOLm_COUNT_COUNT n = (s.fld OWN_VIOLm_COUNT_COUNT n + 1) % 2 ^ OWN_VIOLm_COUNT_COUNT.w := by
  refine ⟨violation m .area true (off + h.skip) (renewLease m s), ?_, ?_⟩
  · rw [registerWrite_noRegister hat hd, otherWrite_replyIn_notRing hm hlo hhi]
  · rw [fld_violation_count hn, fld_renewLease_violations]

/-- The reset state once PWR_OK is high: the device takes accesses. -/
def State.poweredReset : State := { State.reset with pwr := { PwrState.reset with pwrOk := true } }

/-- Host function 0 of a device without an ID, a master of class HOST with slot 0 (R579 to R581). -/
def hostFunctionZero : Ident := mkIdent 0 1 0

/-- Refutes O54: its clause on absent registers excepts the rest of HC_CMD_PORT (0x1008 to 0x107F) but not the rest of
HC_REPLY_IN (0x3008 to 0x307F). There a master outside the RING class has its write counted as an AREA violation (R590): the
write of host function 0 at offset 0x3008 takes its count from 0 to 1, where the clause lets only the lease change. -/
theorem not_registerAccess : ¬ Obligations.RegisterAccess := by
  unfold Obligations.RegisterAccess
  rintro ⟨-, -, -, habsent, -, -⟩
  have hat : regAt 0x3008 = none := by decide +kernel
  have hmsix : msixAt 0x3008 = none := by decide
  have hd : State.poweredReset.dark = false := by decide +kernel
  have hzero : State.poweredReset.fld OWN_VIOLm_COUNT_COUNT 0 = 0 := by decide +kernel
  have hring : identClass hostFunctionZero ≠ 2 := by decide
  have hslot : slotOf hostFunctionZero = some 0 := by decide
  have hclaim : exec (.registerWrite hostFunctionZero 0x3008 .full 0) State.poweredReset =
      .next (renewLease hostFunctionZero State.poweredReset) :=
    (habsent hostFunctionZero 0x3008 .full 0 State.poweredReset hat hmsix hd).2 (.inr (by decide))
  obtain ⟨t, hrun, hcount⟩ := registerWrite_replyIn_counted hat hd hring hslot (by decide) (by decide) .full 0
  have ht : t = renewLease hostFunctionZero State.poweredReset := Host.Outcome.next.inj (hrun.symm.trans hclaim)
  rw [ht, fld_renewLease_violations, hzero] at hcount
  exact absurd hcount (by decide)

end Sys2Proof.Machine
end

section
/-! SUPPORT. Fields of a slot's copy after a write of one, and what a read of TCK_COUNT or DEVICE_TIME does (R32, R33): what O7
turns on. -/

namespace Sys2Proof.Machine

/-! ### Fields of a slot's copy (R581) -/

/-- The frame of one write of a field of a slot's copy. -/
theorem regsKeep_setMfld (s : State) (f : Field) (slot v i : Nat) :
    regsKeep [f.key i 0 0 + slotSpan * slot] s (s.setMfld f slot v i) := regsKeep_setReg s _ _

/-- A field of a slot's copy reads as it was written, modulo its width. -/
theorem mfld_setMfld_same (s : State) (f : Field) (slot v i : Nat) (h : f.good) :
    (s.setMfld f slot v i).mfld f slot i = v % 2 ^ f.w := by
  unfold State.mfld State.setMfld
  rw [reg_setReg_same, bits_setBits_same _ _ _ _ h]

/-- A write of a field of a slot's copy leaves the same slot's copy of another register alone. -/
theorem mfld_setMfld_other (s : State) (f g : Field) (slot v i j : Nat) (h : g.key j 0 0 ≠ f.key i 0 0) :
    (s.setMfld f slot v i).mfld g slot j = s.mfld g slot j := by
  unfold State.mfld
  rw [reg_setMfld_other s f slot v i _ (by omega)]

/-! ### A 64-bit read of TCK_COUNT (R32) -/

/-- The state with the snapshot registers of slot `n` filled. -/
def snapshot (n : Nat) (s : State) : State :=
  (s.setMfld TCK_SNAP_TIME_TIME n (s.fld DEVICE_TIME_TIME)).setMfld TCK_SNAP_PHASE_PHASE n s.tck.phase

theorem countReadEffect_slot {m : Ident} {n : Nat} (h : slotOf m = some n) (s : State) :
    countReadEffect m s = (snapshot n s).emit (.answer m s.tickCount) := by
  have hcount : (snapshot n s).tickCount = s.tickCount := by
    unfold snapshot State.tickCount State.fld
    rw [reg_setMfld_other, reg_setMfld_other] <;>
      simp only [Field.key, TCK_COUNT_COUNT, TCK_SNAP_TIME_TIME, TCK_SNAP_PHASE_PHASE, slotSpan] <;> omega
  unfold countReadEffect
  simp only [h]
  rw [← hcount]
  rfl

theorem countReadEffect_noSlot {m : Ident} (h : slotOf m = none) (s : State) :
    countReadEffect m s = s.emit (.answer m s.tickCount) := by
  unfold countReadEffect
  simp only [h]

theorem snapshot_time (n : Nat) (s : State) : (snapshot n s).mfld TCK_SNAP_TIME_TIME n = s.fld DEVICE_TIME_TIME := by
  unfold snapshot
  rw [mfld_setMfld_other _ _ _ _ _ _ _ (by decide), mfld_setMfld_same _ _ _ _ _ (by unfold Field.good; decide)]
  exact Nat.mod_eq_of_lt (fld_lt s DEVICE_TIME_TIME 0 0 0)

theorem snapshot_phase (n : Nat) (s : State) :
    (snapshot n s).mfld TCK_SNAP_PHASE_PHASE n = s.tck.phase % 2 ^ TCK_SNAP_PHASE_PHASE.w :=
  mfld_setMfld_same _ _ _ _ _ (by unfold Field.good; decide)

/-- The frame of a snapshot. -/
theorem snapshot_regsKeep (n : Nat) (s : State) :
    regsKeep [TCK_SNAP_TIME_TIME.off + slotSpan * n, TCK_SNAP_PHASE_PHASE.off + slotSpan * n] s (snapshot n s) :=
  regsKeep_trans
    (regsKeep_mono (by simp [Field.key]) (regsKeep_setMfld s TCK_SNAP_TIME_TIME n _ 0))
    (regsKeep_mono (by simp [Field.key]) (regsKeep_setMfld _ TCK_SNAP_PHASE_PHASE n _ 0))

/-! ### 32-bit reads (R33) -/

/-- What is captured for a reader of DEVICE_TIME or of TCK_COUNT. -/
def capturedFor (m : Ident) (time : Bool) (s : State) : List (Nat × Bool × Word) :=
  s.tck.captured.filter (fun c => decide (some c.1 = slotOf m ∧ c.2.1 = time))

theorem capturedFor_eq_nil {m : Ident} {time : Bool} {s : State}
    (h : ∀ c ∈ s.tck.captured, ¬ (some c.1 = slotOf m ∧ c.2.1 = time)) : capturedFor m time s = [] :=
  List.filter_eq_nil_iff.mpr (by simpa using h)

/-- The state in which a reader of slot `n` has captured the whole register. -/
def captureHalf (m : Ident) (n : Nat) (time : Bool) (s : State) : State :=
  s.modTck (fun t => { t with captured :=
    (n, time, s.reg (halfField time).off) :: t.captured.filter (fun c => !decide (some c.1 = slotOf m ∧ c.2.1 = time)) })

/-- A capture replaces what was captured for its reader. -/
theorem capturedFor_captureHalf {m : Ident} {n : Nat} (h : slotOf m = some n) (time : Bool) (s : State) :
    capturedFor m time (captureHalf m n time s) = [(n, time, s.reg (halfField time).off)] := by
  simp [capturedFor, captureHalf, State.modTck, h]

theorem halfReadEffect_low_slot {m : Ident} {n : Nat} (h : slotOf m = some n) (time : Bool) (s : State) :
    halfReadEffect m time .low s =
      (captureHalf m n time s).emit (.answer m (s.reg (halfField time).off &&& Half.low.mask)) := by
  unfold halfReadEffect captureHalf
  simp only [h]

theorem halfReadEffect_low_noSlot {m : Ident} (h : slotOf m = none) (time : Bool) (s : State) :
    halfReadEffect m time .low s = s.emit (.answer m (s.reg (halfField time).off &&& Half.low.mask)) := by
  unfold halfReadEffect
  simp only [h]

/-- The high half with nothing captured for its reader answers the register as it is. -/
theorem halfReadEffect_high_free {m : Ident} {time : Bool} {s : State} (h : capturedFor m time s = []) :
    halfReadEffect m time .high s = s.emit (.answer m (s.reg (halfField time).off &&& Half.high.mask)) := by
  have hfind : s.tck.captured.find? (fun c => decide (some c.1 = slotOf m ∧ c.2.1 = time)) = none := by
    rw [← List.head?_filter]
    exact congrArg List.head? h
  unfold halfReadEffect
  simp only [hfind]

/-- The high half answers what its reader captured, and changes nothing that is stored. -/
theorem halfReadEffect_high_captured {m : Ident} {time : Bool} {s : State} {c : Nat × Bool × Word}
    {l : List (Nat × Bool × Word)} (h : capturedFor m time s = c :: l) :
    (halfReadEffect m time .high s).out = .answer m (c.2.2 &&& Half.high.mask) :: s.out ∧
      storesKeep s (halfReadEffect m time .high s) := by
  have hfind : s.tck.captured.find? (fun c => decide (some c.1 = slotOf m ∧ c.2.1 = time)) = some c := by
    rw [← List.head?_filter]
    exact congrArg List.head? h
  unfold halfReadEffect
  simp only [hfind]
  exact ⟨rfl, rfl, rfl⟩

/-- A read of TCK_COUNT that passes has its effect. -/
theorem exec_tckCountRead_readable {s : State} (h : s.readable TCK_COUNT_COUNT.off) (m : Ident) :
    exec (.tckCountRead m) s = .next (countReadEffect m s) := by
  rw [exec_tckCountRead]
  exact congrArg Host.Outcome.next (readFront_readable h m .full _)

/-- A read of DEVICE_TIME or TCK_COUNT, or of a half, that passes has its effect. -/
theorem exec_halfCaptureRead_readable {time : Bool} {s : State} (h : s.readable (halfField time).off) (m : Ident) (w : Half) :
    exec (.halfCaptureRead m time w) s = .next (halfReadEffect m time w s) := by
  rw [exec_halfCaptureRead]
  exact congrArg Host.Outcome.next (readFront_readable h m w _)

/-- The high half read in a state that holds what the low half captured answers the value of the low half's read (R33). -/
theorem halfRead_low_then_high {m : Ident} {n : Nat} {time : Bool} {s s' : State} (hn : slotOf m = some n)
    (h : capturedFor m time s' = capturedFor m time (halfReadEffect m time .low s)) :
    (halfReadEffect m time .high s').out = .answer m (s.reg (halfField time).off &&& Half.high.mask) :: s'.out ∧
      storesKeep s' (halfReadEffect m time .high s') := by
  have hheld : capturedFor m time (halfReadEffect m time .low s) = [(n, time, s.reg (halfField time).off)] := by
    rw [halfReadEffect_low_slot hn]
    exact capturedFor_captureHalf hn time s
  exact halfReadEffect_high_captured (h.trans hheld)

/-- Settles O7: each read that passes is its effect; the snapshot writes two registers of the reader's slot, and what the low
half captures is the one entry the reader's next high half finds. -/
theorem counterReadsAreCoherent : Obligations.CounterReadsAreCoherent := by
  unfold Obligations.CounterReadsAreCoherent
  refine ⟨fun m n s hr hn => ?_, fun m s hr hn => ?_, fun m time s hr => ⟨?_, fun hfree => ?_, fun hn => ?_⟩,
    fun m n time s s' hr hn hr' => ?_⟩
  · rw [exec_tckCountRead_readable hr, countReadEffect_slot hn]
    exact ⟨_, rfl, rfl, snapshot_time n s, snapshot_phase n s, rfl, snapshot_regsKeep n s⟩
  · rw [exec_tckCountRead_readable hr, countReadEffect_noSlot hn]
    rfl
  · exact exec_halfCaptureRead_readable hr m .full
  · rw [exec_halfCaptureRead_readable hr, halfReadEffect_high_free (capturedFor_eq_nil hfree)]
    rfl
  · rw [exec_halfCaptureRead_readable hr, halfReadEffect_low_noSlot hn]
    rfl
  · refine ⟨_, exec_halfCaptureRead_readable hr m .low, ?_, ?_, fun hheld =>
      ⟨_, exec_halfCaptureRead_readable hr' m .high, halfRead_low_then_high hn hheld⟩⟩
    · rw [halfReadEffect_low_slot hn]
      rfl
    · rw [halfReadEffect_low_slot hn]
      exact ⟨rfl, rfl⟩

end Sys2Proof.Machine
end

section
/-! SUPPORT. The pointers of a result ring: the response to the oldest record's write, a write of RD and a write of CFG (R152,
R155, R156, R164): what O15 turns on. -/

namespace Sys2Proof.Machine

/-! ### States that differ in registers alone -/

theorem onlyRegs_renewLease (m : Ident) (s : State) : onlyRegs [leaseKey] s (renewLease m s) :=
  ⟨renewLease_rest m s, renewLease_regsKeep m s⟩

theorem onlyRegs_mono {l l' : List Nat} {s t : State} (hl : ∀ k ∈ l, k ∈ l') (h : onlyRegs l s t) : onlyRegs l' s t :=
  ⟨h.1, regsKeep_mono hl h.2⟩

/-- One more field write under a frame that lists its register. -/
theorem onlyRegs_after_setFld {l : List Nat} {s t : State} (f : Field) (v i j k : Nat) (h : onlyRegs l s t)
    (hk : f.key i j k ∈ l) : onlyRegs l s (t.setFld f v i j k) := by
  obtain ⟨hrest, hkeep⟩ := h
  have hregs : ∀ r, { t with regs := r } = { s with regs := r } := fun r => by rw [hrest]
  exact ⟨hregs _, regsKeep_after_setFld f v i j k hkeep hk⟩

/-! ### Registers of one copy of an array -/

/-- A write of a field leaves a field of the same copy alone that lies in another register of the array or in other bits. -/
theorem fld_setFld_copy (s : State) (f g : Field) (v i : Nat) (hs : g.s1 = f.s1) (hf : f.lo + f.w ≤ 64)
    (h : g.off ≠ f.off ∨ g.lo + g.w ≤ f.lo ∨ f.lo + f.w ≤ g.lo) : (s.setFld f v i).fld g i = s.fld g i := by
  refine fld_setFld_other s f g v _ _ _ _ _ _ hf (h.imp_left fun hoff => ?_)
  simp only [Field.key, hs]
  omega

/-- A value that fits its field reads as it was written. -/
theorem fld_setFld_of_lt (s : State) {f : Field} {v : Nat} (i : Nat) (hf : f.lo + f.w ≤ 64) (hv : v < 2 ^ f.w) :
    (s.setFld f v i).fld f i = v := (fld_setFld_same s f v i 0 0 hf).trans (Nat.mod_eq_of_lt hv)

/-- No copy of a register above OWN_STATUS is the one the lease renews. -/
theorem key_ne_leaseKey {f : Field} (h : leaseKey < f.off) (i j k : Nat) : f.key i j k ≠ leaseKey := by
  unfold Field.key
  omega

/-! ### Writes that reach a register (R11) -/

/-- What a write leaves in a register outside OWN_STATUS does not depend on the lease. -/
theorem merged_renewLease (m : Ident) (s : State) {key : Nat} (hk : key ≠ leaseKey) (h : Half) (data : Word) :
    (renewLease m s).merged key h data = s.merged key h data := by
  unfold State.merged
  rw [reg_renewLease m s hk]

/-- A 64-bit write replaces the register. -/
theorem merged_full (s : State) (key : Nat) (data : Word) : s.merged key .full data = data := by
  have hmask : Half.full.mask = BitVec.allOnes 64 := by decide
  unfold State.merged
  rw [hmask, BitVec.not_allOnes, BitVec.and_zero, BitVec.zero_or, BitVec.and_allOnes]

/-- A bit that is 1, read as a field. -/
theorem bits_eq_one_of_bit {v : Word} {i : Nat} (h : bit v i = true) : bits v i 1 = 1 := by
  have htest : (bits v i 1).testBit 0 = true := by
    rw [bits_testBit]
    simpa [bit] using h
  have hlt := bits_lt v i 1
  rw [Nat.testBit_zero, decide_eq_true_eq] at htest
  omega

/-! ### RING_WRITE_RESPONSE (R155) -/

/-- The state in which no write of a record awaits its response. -/
def State.noWrites (s : State) : State := { s with ctx := { s.ctx with writes := [] } }

/-- The four result lanes' endpoints lie at or below router 69. -/
theorem laneEndpoint_le {lane : Nat} (h : lane < 4) : nth 0 ctxEndpoints lane ≤ 276 := by
  interval_cases lane <;> decide

/-- An answer at a lane's endpoint leaves the CTX block's registers alone. -/
theorem fld_answeredAt_ring {e : Nat} (he : e ≤ 276) (s : State) (g : Field) (hg : 0x802000 ≤ g.off) (i j k : Nat) :
    (answeredAt e s).fld g i j k = s.fld g i j k := by
  refine fld_setReg_other _ _ _ _ _ _ _ ?_
  simp only [Field.key, NOC_EPe_STATUS_OUTSTANDING]
  omega

/-- The response to the only outstanding write takes it off the list, at its lane's endpoint, and WR advances over it. -/
theorem exec_ringWriteResponse_only {d : Fin 16} {pos lane : Nat} {s : State} (h : s.ctx.writes = [⟨d, pos, lane, none⟩])
    (st : Status) : exec (.ringWriteResponse d pos st) s =
      .next (ringAdvanceOne d st (answeredAt (nth 0 ctxEndpoints lane) s.noWrites)) := by
  rw [exec_ringWriteResponse]
  unfold execRingWriteResponse
  simp only [h, List.map_cons, List.map_nil, List.find?_cons, and_self, decide_true, if_true, ringAdvance, ne_eq,
    not_true_eq_false, if_false, dropFirst]
  rfl

/-- WR + 1 and PENDING − 1: what a record written without error does to ring `d`. -/
def ringPublish (d : Nat) (s : State) : State :=
  (s.addFld CTX_RINGd_WR_WR 1 d).setFld CTX_RINGd_PENDING_PENDING (s.fld CTX_RINGd_PENDING_PENDING d - 1) d

/-- A record written without error, on a ring that raises no event, moves WR and PENDING alone (R155, R157). -/
theorem ringAdvanceOne_ok {d : Nat} {s : State} (h : s.fld CTX_RINGd_CFG_NOTIFY d = 0) :
    ringAdvanceOne d .ok s = ringPublish d s := by
  have hpend : (s.addFld CTX_RINGd_WR_WR 1 d).fld CTX_RINGd_PENDING_PENDING d = s.fld CTX_RINGd_PENDING_PENDING d :=
    fld_setFld_copy s _ _ _ d rfl (by decide) (by decide)
  have hnotify : (ringPublish d s).fld CTX_RINGd_CFG_NOTIFY d = 0 := by
    unfold ringPublish State.addFld
    simpa (disch := decide) only [fld_setFld_copy] using h
  unfold ringAdvanceOne
  simp only [hpend, if_true]
  exact if_neg (fun hne => hne.1 hnotify)

theorem ringPublish_wr (d : Nat) (s : State) :
    (ringPublish d s).fld CTX_RINGd_WR_WR d = (s.fld CTX_RINGd_WR_WR d + 1) % 2 ^ 32 := by
  unfold ringPublish State.addFld
  simp (disch := decide) only [fld_setFld_copy]
  exact fld_setFld_same s CTX_RINGd_WR_WR _ d 0 0 (by unfold Field.good; decide)

theorem ringPublish_pending (d : Nat) (s : State) :
    (ringPublish d s).fld CTX_RINGd_PENDING_PENDING d = s.fld CTX_RINGd_PENDING_PENDING d - 1 := by
  have hlt := fld_lt s CTX_RINGd_PENDING_PENDING d 0 0
  exact fld_setFld_of_lt _ d (by decide) (by omega)

/-- The frame of a published record, over a frame of what came before it. -/
theorem ringPublish_regsKeep {l : List Nat} {s t : State} {d : Nat} (h : regsKeep l s t)
    (hwr : CTX_RINGd_WR_WR.key d 0 0 ∈ l) (hpend : CTX_RINGd_PENDING_PENDING.key d 0 0 ∈ l) :
    regsKeep l s (ringPublish d t) :=
  regsKeep_after_setFld _ _ _ _ _ (regsKeep_after_setFld _ _ _ _ _ h hwr) hpend

/-! ### RING_RD_WRITE (R156) -/

/-- The value that a write offers as the new RD. -/
def offeredRd (d : Nat) (h : Half) (data : Word) (s : State) : Nat :=
  bits (s.merged (CTX_RINGd_RD_RD.key d 0 0) h data) 0 32

/-- The value lies between RD and WR, counted forward modulo 2³². -/
def rdWithin (d v : Nat) (s : State) : Prop :=
  (v + 2 ^ 32 - s.fld CTX_RINGd_RD_RD d) % 2 ^ 32 ≤ (s.fld CTX_RINGd_WR_WR d + 2 ^ 32 - s.fld CTX_RINGd_RD_RD d) % 2 ^ 32

/-- The lease moves neither pointer. -/
theorem rdWithin_renewLease (m : Ident) (d v : Nat) (s : State) : rdWithin d v (renewLease m s) ↔ rdWithin d v s := by
  unfold rdWithin
  rw [fld_renewLease m s _ _ _ _ (key_ne_leaseKey (by decide) _ _ _),
    fld_renewLease m s _ _ _ _ (key_ne_leaseKey (by decide) _ _ _)]

/-- A write of RD that passes has its effect on the value it offers. -/
theorem exec_ringRdWrite_admits {m : Ident} {d : Fin 16} {s : State} (hadm : s.admits m .CTX_RINGd_RD [d.val]) (h : Half)
    (data : Word) : exec (.ringRdWrite m d h data) s =
      .next (ringRdEffect d (s.merged (CTX_RINGd_RD_RD.key d 0 0) h data) (renewLease m s)) := by
  rw [exec_ringRdWrite]
  unfold execRingRdWrite
  rw [regWrite_admits hadm, merged_renewLease m s (key_ne_leaseKey (by decide) _ _ _)]

theorem ringRdWrite_within {m : Ident} {d : Fin 16} {h : Half} {data : Word} {s : State}
    (hadm : s.admits m .CTX_RINGd_RD [d.val]) (hin : rdWithin d (offeredRd d h data s) s) :
    exec (.ringRdWrite m d h data) s = .next ((renewLease m s).setFld CTX_RINGd_RD_RD (offeredRd d h data s) d) := by
  rw [exec_ringRdWrite_admits hadm]
  exact congrArg Host.Outcome.next (if_pos ((rdWithin_renewLease m d _ s).mpr hin))

theorem ringRdWrite_outside {m : Ident} {d : Fin 16} {h : Half} {data : Word} {s : State}
    (hadm : s.admits m .CTX_RINGd_RD [d.val]) (hout : ¬ rdWithin d (offeredRd d h data s) s) :
    exec (.ringRdWrite m d h data) s = .next (renewLease m s) := by
  rw [exec_ringRdWrite_admits hadm]
  exact congrArg Host.Outcome.next (if_neg (mt (rdWithin_renewLease m d _ s).mp hout))

/-! ### RING_CFG_WRITE (R152, R164) -/

/-- The state after a write `v` of CFG that raises EN of ring `d`. -/
def ringEnable (d : Nat) (v : Word) (s : State) : State :=
  ((((s.setFld CTX_RINGd_CFG_LOG2_SIZE (bits v 8 5) d).setFld CTX_RINGd_WR_WR 0 d).setFld CTX_RINGd_RD_RD 0 d).setFld
    CTX_RINGd_CFG_EN (bits v 0 1) d).setFld CTX_RINGd_CFG_NOTIFY (bits v 32 24) d

theorem ringCfgEffect_rise {d : Nat} {v : Word} {s : State} (hen : s.on CTX_RINGd_CFG_EN d = false) (hlo : 4 ≤ bits v 8 5)
    (hhi : bits v 8 5 ≤ 24) (hbit : bit v 0 = true) : ringCfgEffect d v s = ringEnable d v s := by
  have hsize : ¬ (bits v 8 5 < 4 ∨ 24 < bits v 8 5) := by omega
  unfold ringCfgEffect
  simp only [hen, hsize, hbit, and_false, if_false, Bool.false_eq_true, not_false_eq_true, and_self, if_true]
  rfl

theorem exec_ringCfgWrite_rise {m : Ident} {d : Fin 16} {data : Word} {s : State} (hadm : s.admits m .CTX_RINGd_CFG [d.val])
    (hen : s.on CTX_RINGd_CFG_EN d = false) (hlo : 4 ≤ bits data 8 5) (hhi : bits data 8 5 ≤ 24) (hbit : bit data 0 = true) :
    exec (.ringCfgWrite m d .full data) s = .next (ringEnable d data (renewLease m s)) := by
  have hen' : (renewLease m s).on CTX_RINGd_CFG_EN d = false := by
    rw [on_eq, fld_renewLease m s _ _ _ _ (key_ne_leaseKey (by decide) _ _ _)]
    exact hen
  rw [exec_ringCfgWrite]
  unfold execRingCfgWrite
  rw [regWrite_admits hadm, merged_full, ringCfgEffect_rise hen' hlo hhi hbit]

/-- The configuration written is the one stored. -/
theorem ringEnable_config (d : Nat) (v : Word) (s : State) :
    (ringEnable d v s).fld CTX_RINGd_CFG_EN d = bits v 0 1 ∧ (ringEnable d v s).fld CTX_RINGd_CFG_LOG2_SIZE d = bits v 8 5 ∧
      (ringEnable d v s).fld CTX_RINGd_CFG_NOTIFY d = bits v 32 24 := by
  unfold ringEnable
  refine ⟨?_, ?_, ?_⟩
  · simp (disch := decide) only [fld_setFld_copy]
    exact fld_setFld_of_lt _ d (by decide) (bits_lt v 0 1)
  · simp (disch := decide) only [fld_setFld_copy]
    exact fld_setFld_of_lt _ d (by decide) (bits_lt v 8 5)
  · exact fld_setFld_of_lt _ d (by decide) (bits_lt v 32 24)

/-- A ring that is switched on is empty: both pointers are 0. -/
theorem ringEnable_pointers (d : Nat) (v : Word) (s : State) :
    (ringEnable d v s).fld CTX_RINGd_WR_WR d = 0 ∧ (ringEnable d v s).fld CTX_RINGd_RD_RD d = 0 := by
  unfold ringEnable
  constructor <;> simp (disch := decide) only [fld_setFld_copy, fld_setFld_of_lt]

/-- The frame of a ring that is switched on: CFG, WR and RD. -/
theorem ringEnable_onlyRegs {l : List Nat} {s t : State} {d : Nat} (v : Word) (h : onlyRegs l s t)
    (hcfg : CTX_RINGd_CFG_EN.key d 0 0 ∈ l) (hwr : CTX_RINGd_WR_WR.key d 0 0 ∈ l) (hrd : CTX_RINGd_RD_RD.key d 0 0 ∈ l) :
    onlyRegs l s (ringEnable d v t) := by
  have hsize := onlyRegs_after_setFld CTX_RINGd_CFG_LOG2_SIZE (bits v 8 5) d 0 0 h hcfg
  have hpointers := onlyRegs_after_setFld _ 0 d 0 0 (onlyRegs_after_setFld _ 0 d 0 0 hsize hwr) hrd
  have hon := onlyRegs_after_setFld CTX_RINGd_CFG_EN (bits v 0 1) d 0 0 hpointers hcfg
  exact onlyRegs_after_setFld CTX_RINGd_CFG_NOTIFY (bits v 32 24) d 0 0 hon hcfg

/-- Settles O15: the response to the oldest write publishes its record, a write of RD stores the offered value or nothing by
`rdWithin`, and a write of CFG that raises EN is `ringEnable`. -/
theorem resultRingPointers : Obligations.ResultRingPointers := by
  unfold Obligations.ResultRingPointers
  refine ⟨fun d pos lane s hw hnotify hlane => ?_, fun m d h data s rd v hadm hrd hv hin => ?_,
    fun m d h data s rd v hadm hrd hv hout => ?_, fun m d data s hadm hen hlo hhi hbit => ?_⟩
  · have hfld := fld_answeredAt_ring (laneEndpoint_le hlane) s.noWrites
    have hanswered := regsKeep_setFld s.noWrites NOC_EPe_STATUS_OUTSTANDING
      (s.noWrites.fld NOC_EPe_STATUS_OUTSTANDING (nth 0 ctxEndpoints lane) - 1) (nth 0 ctxEndpoints lane) 0 0
    rw [exec_ringWriteResponse_only hw, ringAdvanceOne_ok ((hfld _ (by decide) d 0 0).trans hnotify)]
    refine ⟨_, rfl, rfl, ?_, fun _ => ?_, rfl, rfl, ?_⟩
    · rw [ringPublish_wr, hfld _ (by decide)]
      rfl
    · rw [ringPublish_pending, hfld _ (by decide)]
      rfl
    · exact ringPublish_regsKeep (regsKeep_mono (by simp) hanswered) (by simp) (by simp)
  · subst hrd hv
    refine ⟨_, ringRdWrite_within hadm hin, fld_setFld_of_lt _ _ (by decide) (bits_lt _ 0 32), ?_⟩
    exact onlyRegs_after_setFld _ _ _ _ _ (onlyRegs_mono (by simp) (onlyRegs_renewLease m s)) (by simp)
  · subst hrd hv
    exact ⟨_, ringRdWrite_outside hadm (Nat.not_le_of_lt hout), onlyRegs_renewLease m s⟩
  · obtain ⟨hEn, hsize, hnotify⟩ := ringEnable_config d data (renewLease m s)
    obtain ⟨hwr, hrd⟩ := ringEnable_pointers d data (renewLease m s)
    refine ⟨_, exec_ringCfgWrite_rise hadm hen hlo hhi hbit, hEn.trans (bits_eq_one_of_bit hbit), hsize, hnotify, hwr, hrd, ?_⟩
    exact ringEnable_onlyRegs data (onlyRegs_mono (by simp) (onlyRegs_renewLease m s)) (by simp) (by simp) (by simp)

end Sys2Proof.Machine
end

section
/-! SUPPORT. The cross-parity code (R430 to R433): its syndromes are linear in the 80 stored bits, so an error's syndromes are
the XOR of those of its single bits, and decode reads their weights: what O39 turns on. -/

namespace Sys2Proof.Machine

/-! ### The XOR of a family of bits -/

/-- The XOR of `f 0` to `f (n - 1)`. -/
abbrev xorFold (f : Nat → Bool) (n : Nat) : Bool := (List.range n).foldl (fun b k => b != f k) false

theorem xorFold_succ (f : Nat → Bool) (n : Nat) : xorFold f (n + 1) = (xorFold f n != f n) := by
  simp [xorFold, List.range_succ]

theorem xorFold_congr {f g : Nat → Bool} {n : Nat} (h : ∀ k < n, f k = g k) : xorFold f n = xorFold g n :=
  List.foldl_ext _ _ _ fun b k hk => by rw [h k (List.mem_range.mp hk)]

theorem xorFold_bne (f g : Nat → Bool) (n : Nat) :
    xorFold (fun k => f k != g k) n = (xorFold f n != xorFold g n) := by
  induction n with
  | zero => rfl
  | succ n ih =>
    simp only [xorFold_succ, ih, Bool.bne_eq_xor, Bool.xor_assoc, Bool.xor_left_comm (f n)]

/-! ### The parities of the grid (R431) -/

theorem parity_eq_xorFold (v : Word) (n : Nat) : parity v n = xorFold (bit v) n := by
  induction n with
  | zero => rfl
  | succ n ih => rw [xorFold_succ, ← ih, parity, Bool.xor_comm, Bool.bne_eq_xor]

theorem parity_xor (v w : Word) (n : Nat) : parity (v ^^^ w) n = (parity v n != parity w n) := by
  rw [parity_eq_xorFold, parity_eq_xorFold, parity_eq_xorFold, ← xorFold_bne]
  exact xorFold_congr fun k _ => by simp [bit]

theorem rowParity_lt (d : Word) (n : Nat) : rowParity d n < 2 ^ n := by
  induction n with
  | zero => exact Nat.one_pos
  | succ n ih =>
    have hbit := Bool.toNat_le (parity (d >>> (8 * n)) 8)
    simp only [rowParity, bnat]
    split <;> omega

theorem rowParity_testBit (d : Word) (n r : Nat) :
    (rowParity d n).testBit r = (decide (r < n) && parity (d >>> (8 * r)) 8) := by
  induction n with
  | zero => simp [rowParity]
  | succ n ih =>
    have hadd : rowParity d (n + 1) = 2 ^ n * (parity (d >>> (8 * n)) 8).toNat + rowParity d n := by
      rw [rowParity, Nat.add_comm, Nat.mul_comm, bnat, Bool.toNat, ← Bool.cond_eq_ite]
    rw [hadd, Nat.testBit_two_pow_mul_add _ (rowParity_lt d n), ih, Nat.testBit_bool_toNat]
    rcases Nat.lt_trichotomy r n with hr | rfl | hr
    · simp [hr, Nat.lt_succ_of_lt hr]
    · simp
    · have hge : ¬ r < n + 1 := by omega
      have hne : r - n ≠ 0 := by omega
      simp [hge, hne, Nat.lt_asymm hr]

theorem rowParity_xor (d e : Word) (n : Nat) : rowParity (d ^^^ e) n = rowParity d n ^^^ rowParity e n := by
  apply Nat.eq_of_testBit_eq
  intro r
  rw [Nat.testBit_xor, rowParity_testBit, rowParity_testBit, rowParity_testBit, BitVec.ushiftRight_xor_distrib, parity_xor]
  cases decide (r < n) <;> simp

theorem columnFold_lt (d : Word) : (columnFold d).toNat < 256 := by
  rw [columnFold, BitVec.toNat_and]
  exact Nat.lt_succ_of_le Nat.and_le_right

theorem columnFold_xor (d e : Word) : columnFold (d ^^^ e) = columnFold d ^^^ columnFold e := by
  apply BitVec.eq_of_toNat_eq
  simp only [columnFold, BitVec.ushiftRight_xor_distrib, BitVec.toNat_and, BitVec.toNat_xor, Nat.and_xor_distrib_right]
  ac_rfl

theorem columnFold_getLsbD (d : Word) (c : Fin 8) :
    (columnFold d).getLsbD c = xorFold (fun r => bit d (8 * r + c)) 8 := by
  have hmask : (255#64).getLsbD c = true := by revert c; decide
  simp [columnFold, xorFold, List.range_succ, bit, hmask]

/-- The column check bits are the column parities, all inverted when RP[7:0] has odd parity. -/
theorem columnCheck_eq_xor (d : Word) (rp : Nat) :
    columnCheck d rp = (columnFold d).toNat ^^^ (if parity (BitVec.ofNat 64 rp) 8 then 255 else 0) := by
  unfold columnCheck
  split
  · have hlt := columnFold_lt d
    apply Nat.eq_of_testBit_eq
    intro i
    rw [Nat.testBit_xor, show 255 - (columnFold d).toNat = 2 ^ 8 - ((columnFold d).toNat + 1) by omega,
      Nat.testBit_two_pow_sub_succ hlt, show (255 : Nat) = 2 ^ 8 - 1 from rfl, Nat.testBit_two_pow_sub_one]
    by_cases hi : i < 8
    · simp [hi]
    · have hzero : (columnFold d).toNat.testBit i = false :=
        Nat.testBit_lt_two_pow (hlt.trans_le (Nat.pow_le_pow_right (by decide : 2 > 0) (Nat.le_of_not_lt hi)))
      simp [hi, hzero]
  · simp

theorem columnCheck_lt (d : Word) (rp : Nat) : columnCheck d rp < 256 := by
  have hlt := columnFold_lt d
  unfold columnCheck
  split <;> omega

theorem columnCheck_xor (d e : Word) (a b : Nat) : columnCheck (d ^^^ e) (a ^^^ b) = columnCheck d a ^^^ columnCheck e b := by
  rw [columnCheck_eq_xor, columnCheck_eq_xor, columnCheck_eq_xor, columnFold_xor, BitVec.toNat_xor, BitVec.ofNat_xor, parity_xor]
  generalize (columnFold d).toNat = x, (columnFold e).toNat = y
  cases parity (BitVec.ofNat 64 a) 8 <;> cases parity (BitVec.ofNat 64 b) 8
  · simp
  · simp [Nat.xor_assoc]
  · simp [Nat.xor_assoc, Nat.xor_comm 255]
  · simp [Nat.xor_assoc, Nat.xor_left_comm 255]

/-! ### The check bits of a clean word (R430, R431) -/

theorem bits_checkBits_rows (d : Word) : bits (checkBits d) 0 8 = rowParity d 8 := by
  have hrow := rowParity_lt d 8
  have hcol := columnCheck_lt d (rowParity d 8)
  simp only [bits, checkBits, BitVec.toNat_ushiftRight, BitVec.toNat_ofNat, Nat.shiftRight_eq_div_pow]
  omega

theorem bits_checkBits_columns (d : Word) : bits (checkBits d) 8 8 = columnCheck d (rowParity d 8) := by
  have hrow := rowParity_lt d 8
  have hcol := columnCheck_lt d (rowParity d 8)
  simp only [bits, checkBits, BitVec.toNat_ushiftRight, BitVec.toNat_ofNat, Nat.shiftRight_eq_div_pow]
  omega

theorem checkBits_getLsbD_row (d : Word) {r : Nat} (hr : r < 8) :
    (checkBits d).getLsbD r = xorFold (fun c => bit d (8 * r + c)) 8 := by
  have hbit := bits_testBit (checkBits d) 0 8 r
  rw [bits_checkBits_rows, rowParity_testBit, parity_eq_xorFold] at hbit
  simp only [hr, decide_true, Bool.true_and, Nat.zero_add] at hbit
  rw [← hbit]
  exact xorFold_congr fun c _ => by simp [bit]

theorem checkBits_getLsbD_column (d : Word) (c : Fin 8) :
    (checkBits d).getLsbD (8 + c) = xorFold (fun r => bit d (8 * r + c) != (checkBits d).getLsbD r) 8 := by
  have hbit := bits_testBit (checkBits d) 8 8 c
  have hrows : parity (BitVec.ofNat 64 (rowParity d 8)) 8 = xorFold (checkBits d).getLsbD 8 := by
    rw [parity_eq_xorFold, ← bits_checkBits_rows]
    refine xorFold_congr fun r hr => ?_
    have hr64 : r < 64 := by omega
    rw [bit, BitVec.getLsbD_ofNat, bits_testBit]
    simp [hr, hr64]
  have hall : (if parity (BitVec.ofNat 64 (rowParity d 8)) 8 then 255 else 0).testBit c =
      parity (BitVec.ofNat 64 (rowParity d 8)) 8 := by
    have hmask : Nat.testBit 255 c = true := by clear hbit; revert c; decide
    cases parity (BitVec.ofNat 64 (rowParity d 8)) 8
    · simp
    · simpa using hmask
  rw [bits_checkBits_columns, columnCheck_eq_xor, Nat.testBit_xor, hall, hrows, BitVec.testBit_toNat,
    columnFold_getLsbD] at hbit
  rw [xorFold_bne, Bool.bne_eq_xor, hbit]
  simp

/-! ### Syndromes are linear in the stored bits (R432) -/

/-- The stored word with the data and check bits of `e` inverted. -/
def PWord.disturb (p e : PWord) : PWord := { data := p.data ^^^ e.data, chk := p.chk ^^^ e.chk, mark := p.mark }

theorem bits_xor {n : Nat} (v w : BitVec n) (lo k : Nat) : bits (v ^^^ w) lo k = bits v lo k ^^^ bits w lo k := by
  apply Nat.eq_of_testBit_eq
  intro i
  rw [Nat.testBit_xor, bits_testBit, bits_testBit, bits_testBit, BitVec.getLsbD_xor]
  cases decide (i < k) <;> simp

theorem sr_disturb (p e : PWord) : (p.disturb e).sr = p.sr ^^^ e.sr := by
  simp only [PWord.sr, PWord.disturb, rowParity_xor, bits_xor]
  ac_rfl

theorem sc_disturb (p e : PWord) : (p.disturb e).sc = p.sc ^^^ e.sc := by
  simp only [PWord.sc, PWord.disturb, bits_xor, columnCheck_xor]
  ac_rfl

@[simp] theorem sr_clean (d : Word) : (PWord.clean d).sr = 0 := by
  simp [PWord.sr, PWord.clean, bits_checkBits_rows]

@[simp] theorem sc_clean (d : Word) : (PWord.clean d).sc = 0 := by
  simp [PWord.sc, PWord.clean, bits_checkBits_rows, bits_checkBits_columns]

@[simp] theorem data_clean (d : Word) : (PWord.clean d).data = d := rfl

/-! ### The 80 stored bits and their syndromes (R430, R432) -/

/-- A stored bit by its place in the grid: a data bit, a row check bit or a column check bit. -/
inductive StoredBit
  | data (r c : Fin 8)
  | row (r : Fin 8)
  | column (c : Fin 8)

/-- The number of a stored bit. -/
def StoredBit.index : StoredBit → Nat
  | .data r c => 8 * r + c
  | .row r => 64 + r
  | .column c => 72 + c

/-- The row syndrome of an error in this bit alone. -/
@[simp] def StoredBit.rowSyndrome : StoredBit → Nat
  | .data r _ => 2 ^ r.val
  | .row r => 2 ^ r.val
  | .column _ => 0

/-- The column syndrome of an error in this bit alone: a row check bit counts in every column. -/
@[simp] def StoredBit.columnSyndrome : StoredBit → Nat
  | .data _ c => 2 ^ c.val
  | .row _ => 255
  | .column c => 2 ^ c.val

/-- What an error in this bit inverts of the data. -/
@[simp] def StoredBit.dataMask : StoredBit → Word
  | .data r c => (1 : Word) <<< (8 * r.val + c.val)
  | .row _ => 0
  | .column _ => 0

theorem exists_storedBit {i : Nat} (h : i < 80) : ∃ b : StoredBit, b.index = i := by
  by_cases hdata : i < 64
  · exact ⟨.data ⟨i / 8, by omega⟩ ⟨i % 8, by omega⟩, Nat.div_add_mod i 8⟩
  by_cases hrow : i < 72
  · exact ⟨.row ⟨i - 64, by omega⟩, Nat.add_sub_cancel' (by omega)⟩
  · exact ⟨.column ⟨i - 72, by omega⟩, Nat.add_sub_cancel' (by omega)⟩

theorem upset_eq_disturb (p : PWord) (i : Nat) : p.upset i = p.disturb (PWord.upset ⟨0, 0, 0⟩ i) := by
  unfold PWord.upset PWord.disturb
  split <;> simp

/-- The syndromes of the 80 single-bit errors of the all-zero word, whose check bits are zero. -/
theorem syndromes_upset_zero (b : StoredBit) :
    (PWord.upset ⟨0, 0, 0⟩ b.index).sr = b.rowSyndrome ∧ (PWord.upset ⟨0, 0, 0⟩ b.index).sc = b.columnSyndrome := by
  cases b with
  | data r c => revert r c; decide
  | row r => revert r; decide
  | column c => revert c; decide

@[simp] theorem sr_upset (p : PWord) (b : StoredBit) : (p.upset b.index).sr = p.sr ^^^ b.rowSyndrome := by
  rw [upset_eq_disturb, sr_disturb, (syndromes_upset_zero b).1]

@[simp] theorem sc_upset (p : PWord) (b : StoredBit) : (p.upset b.index).sc = p.sc ^^^ b.columnSyndrome := by
  rw [upset_eq_disturb, sc_disturb, (syndromes_upset_zero b).2]

@[simp] theorem data_upset (p : PWord) (b : StoredBit) : (p.upset b.index).data = p.data ^^^ b.dataMask := by
  cases b with
  | data r c =>
    have hlt : 8 * r.val + c.val < 64 := by omega
    simp [PWord.upset, StoredBit.index, hlt]
  | row r => simp [PWord.upset, StoredBit.index]
  | column c =>
    have hge : ¬ 72 + c.val < 64 := by omega
    simp [PWord.upset, StoredBit.index, hge]

/-! ### Weights of syndromes -/

@[simp] theorem weight_zero : weight 0 8 = 0 := by decide

@[simp] theorem weight_all : weight 255 8 = 8 := by decide

@[simp] theorem weight_one_bit (a : Fin 8) : weight (2 ^ a.val) 8 = 1 := by revert a; decide

@[simp] theorem weight_two_bits (a b : Fin 8) : weight (2 ^ a.val ^^^ 2 ^ b.val) 8 = if a = b then 0 else 2 := by
  revert a b; decide

@[simp] theorem weight_bit_xor_all (a : Fin 8) : weight (2 ^ a.val ^^^ 255) 8 = 7 := by revert a; decide

@[simp] theorem lowestBit_one_bit (a : Fin 8) : lowestBit (2 ^ a.val) 8 = a := by revert a; decide

/-! ### Decoding by the weights of the syndromes (R432) -/

theorem decode_of_no_syndrome {p : PWord} (hr : p.sr = 0) (hc : p.sc = 0) : p.decode = .clean p.data := by
  simp [PWord.decode, hr, hc]

theorem decode_of_data_syndrome {p : PWord} {r c : Fin 8} (hr : p.sr = 2 ^ r.val) (hc : p.sc = 2 ^ c.val) :
    p.decode = .mended (p.data ^^^ (1 : Word) <<< (8 * r.val + c.val)) := by
  simp [PWord.decode, hr, hc]

theorem decode_of_row_syndrome {p : PWord} {r : Fin 8} (hr : p.sr = 2 ^ r.val) (hc : p.sc = 255) :
    p.decode = .mended p.data := by
  simp [PWord.decode, hr, hc]

theorem decode_of_column_syndrome {p : PWord} {c : Fin 8} (hr : p.sr = 0) (hc : p.sc = 2 ^ c.val) :
    p.decode = .mended p.data := by
  simp [PWord.decode, hr, hc]

theorem decode_of_other_weights {p : PWord}
    (h : (weight p.sr 8, weight p.sc 8) ∉ [(0, 0), (1, 1), (1, 8), (0, 1)]) : p.decode = .bad := by
  unfold PWord.decode
  split <;> simp_all

theorem decode_clean (d : Word) : (PWord.clean d).decode = .clean d :=
  decode_of_no_syndrome (sr_clean d) (sc_clean d)

theorem decode_one_upset (d : Word) (b : StoredBit) : ((PWord.clean d).upset b.index).decode = .mended d := by
  cases b with
  | data r c =>
    rw [decode_of_data_syndrome (r := r) (c := c) (by simp) (by simp)]
    simp
  | row r =>
    rw [decode_of_row_syndrome (r := r) (by simp) (by simp)]
    simp
  | column c =>
    rw [decode_of_column_syndrome (c := c) (by simp) (by simp)]
    simp

/-- No two errors pass for a single one. With two data bits each syndrome has weight 0 or 2, and not both 0; a data bit and a
column check bit give SR weight 1 and SC weight 0 or 2; a row check bit and a bit of another kind give SC weight 7; two check
bits of one kind give one syndrome weight 2 and the other 0. -/
theorem decode_two_upsets (d : Word) {b b' : StoredBit} (h : b.index < b'.index) :
    (((PWord.clean d).upset b.index).upset b'.index).decode = .bad := by
  apply decode_of_other_weights
  simp only [sr_upset, sc_upset, sr_clean, sc_clean, Nat.zero_xor]
  cases b with
  | data r c =>
    cases b' with
    | data r' c' =>
      have hne : ¬ (r = r' ∧ c = c') := by
        rintro ⟨rfl, rfl⟩
        exact Nat.lt_irrefl _ h
      by_cases hr : r = r' <;> simp_all
    | row r' => by_cases hr : r = r' <;> simp [hr]
    | column c' => by_cases hc : c = c' <;> simp [hc]
  | row r =>
    cases b' with
    | data r' c' => simp only [StoredBit.index] at h; omega
    | row r' =>
      have hne : r ≠ r' := by
        rintro rfl
        exact Nat.lt_irrefl _ h
      simp [hne]
    | column c' => simp [Nat.xor_comm]
  | column c =>
    cases b' with
    | data r' c' => simp only [StoredBit.index] at h; omega
    | row r' => simp only [StoredBit.index] at h; omega
    | column c' =>
      have hne : c ≠ c' := by
        rintro rfl
        exact Nat.lt_irrefl _ h
      simp [hne]

/-- Three corners of a rectangle have the syndromes of the fourth (R433). -/
theorem decode_three_corners (d : Word) (r r' c c' : Fin 8) :
    ((((PWord.clean d).upset (StoredBit.data r c).index).upset (StoredBit.data r c').index).upset
      (StoredBit.data r' c).index).decode =
      .mended (d ^^^ (1 : Word) <<< (8 * r.val + c) ^^^ (1 : Word) <<< (8 * r.val + c') ^^^ (1 : Word) <<< (8 * r'.val + c) ^^^
        (1 : Word) <<< (8 * r'.val + c')) := by
  rw [decode_of_data_syndrome (r := r') (c := c')]
  · simp
  · simp
  · simp

/-- Settles O39: the clean word by the parities of its check bits, the errors by their syndromes. -/
theorem crossParityMendsOneAndDetectsTwo : Obligations.CrossParityMendsOneAndDetectsTwo := by
  unfold Obligations.CrossParityMendsOneAndDetectsTwo
  refine ⟨fun d => ⟨rfl, fun r => checkBits_getLsbD_row d r.isLt, checkBits_getLsbD_column d⟩, fun d => ?_,
    fun d i hi => ?_, fun d i j hij hj => ?_, fun d r r' c c' _ _ => decode_three_corners d r r' c c'⟩
  · have hmark : (PWord.clean d).isPoisoned = false := rfl
    simp [PWord.isBad, PWord.value?, decode_clean, hmark]
  · obtain ⟨b, rfl⟩ := exists_storedBit hi
    exact decode_one_upset d b
  · obtain ⟨b, rfl⟩ := exists_storedBit (hij.trans hj)
    obtain ⟨b', rfl⟩ := exists_storedBit hj
    exact decode_two_upsets d hij

end Sys2Proof.Machine
end

section
/-! SUPPORT. DRAM addresses and DRC_IMAP (R494 to R496): where an address lies under each MODE, the fields of a burst's address,
and what a write of DRC_IMAP stores: what O44 turns on. -/

namespace Sys2Proof.Machine

/-! ### Interleaving by blocks of 256 bytes (R494) -/

/-- The controller and the local address of `a` when blocks of 256 bytes go round `n` controllers. -/
def interleave (n a : Nat) : Nat × Nat := (a / 256 % n, a / (256 * n) * 256 + a % 256)

/-- A local address has the byte of its address in the block, and the number of the round as its block. -/
theorem interleave_local (n a : Nat) :
    (interleave n a).2 % 256 = a % 256 ∧ (interleave n a).2 / 256 = a / (256 * n) := by
  unfold interleave
  dsimp only
  omega

/-- An address below `n` capacities of whole blocks lies below the capacity of its controller. -/
theorem interleave_lt {n c a : Nat} (h : a < n * (c * 2 ^ 30)) : (interleave n a).2 < c * 2 ^ 30 := by
  have hround : a / (256 * n) < c * 2 ^ 22 := Nat.div_lt_of_lt_mul (h.trans_eq (by ring))
  unfold interleave
  dsimp only
  omega

/-- An address is put together again from its controller and its local address. -/
theorem interleave_injective {n a b : Nat} (h : interleave n a = interleave n b) : a = b := by
  have hctl : a / 256 % n = b / 256 % n := congrArg Prod.fst h
  have hlocal : (interleave n a).2 = (interleave n b).2 := congrArg Prod.snd h
  obtain ⟨hbyte, hround⟩ := interleave_local n a
  rw [hlocal] at hbyte hround
  obtain ⟨hbyte', hround'⟩ := interleave_local n b
  have hround'' : a / 256 / n = b / 256 / n := by
    rw [Nat.div_div_eq_div_mul, Nat.div_div_eq_div_mul, ← hround, hround']
  have hblock : a / 256 = b / 256 :=
    calc a / 256 = n * (a / 256 / n) + a / 256 % n := (Nat.div_add_mod _ n).symm
      _ = n * (b / 256 / n) + b / 256 % n := by rw [hround'', hctl]
      _ = b / 256 := Nat.div_add_mod _ n
  omega

/-! ### The decode of a DRAM address by MODE (R494) -/

theorem dramTarget_linear {s : State} (h : s.fld DRC_IMAP_MODE = 0) (a : Nat) :
    dramTarget a s = if s.fbit DRC_IMAP_MASK (a / 2 ^ 36 % 4) = true ∧ a % 2 ^ 36 < s.capacity (a / 2 ^ 36 % 4) * 2 ^ 30
      then some (a / 2 ^ 36 % 4, a % 2 ^ 36) else none := by
  unfold dramTarget
  simp only [h]

theorem dramTarget_interleave2 {s : State} (h : s.fld DRC_IMAP_MODE = 1) (a : Nat) :
    dramTarget a s = if a < 2 * (s.capacity 0 * 2 ^ 30) then some (interleave 2 a) else none := by
  unfold dramTarget
  simp only [h]
  rfl

theorem dramTarget_interleave4 {s : State} (h : s.fld DRC_IMAP_MODE = 2) (a : Nat) :
    dramTarget a s = if a < 4 * (s.capacity 0 * 2 ^ 30) then some (interleave 4 a) else none := by
  unfold dramTarget
  simp only [h]
  rfl

/-- Where MODE `mode` puts an address that it maps. -/
def dramPlace (mode a : Nat) : Nat × Nat :=
  match mode with
  | 0 => (a / 2 ^ 36 % 4, a % 2 ^ 36)
  | 1 => interleave 2 a
  | _ => interleave 4 a

/-- An address that has a mapping lies where MODE puts it; MODE 3 maps none. -/
theorem dramTarget_eq_some {s : State} {a : Nat} {x : Nat × Nat} (h : dramTarget a s = some x) :
    dramPlace (s.fld DRC_IMAP_MODE) a = x := by
  unfold dramTarget at h
  unfold dramPlace
  split at h
  · next hm => rw [hm]; exact Option.some.inj (Option.ite_none_right_eq_some.mp h).2
  · next hm => rw [hm]; exact Option.some.inj (Option.ite_none_right_eq_some.mp h).2
  · next hm => rw [hm]; exact Option.some.inj (Option.ite_none_right_eq_some.mp h).2
  · exact absurd h (by simp)

/-- No two of the 2³⁸ addresses share controller and local address. -/
theorem dramPlace_injective {mode a b : Nat} (ha : a < 2 ^ 38) (hb : b < 2 ^ 38)
    (h : dramPlace mode a = dramPlace mode b) : a = b := by
  match mode with
  | 0 =>
    obtain ⟨hctl, hlocal⟩ := Prod.mk.inj h
    omega
  | 1 => exact interleave_injective h
  | n + 2 => exact interleave_injective h

/-- The controller is that of the 256-byte block. -/
theorem dramPlace_block {mode a b : Nat} (h : a / 256 = b / 256) : (dramPlace mode a).1 = (dramPlace mode b).1 := by
  match mode with
  | 0 =>
    change a / 2 ^ 36 % 4 = b / 2 ^ 36 % 4
    omega
  | 1 => exact congrArg (· % 2) h
  | n + 2 => exact congrArg (· % 4) h

/-! ### The fields of a burst's address (R496) -/

/-- Two ranks: bit 12 of the burst's address is the rank, and the row lies above it. -/
theorem burst_fields_two_ranks {s : State} {c : Nat} (h : s.fld DRC_GEOM_RANKS c = 1) {sub grp bank col rank : Nat} (row : Nat)
    (hsub : sub < 2) (hgrp : grp < 8) (hbank : bank < 4) (hcol : col < 64) (hrank : rank < 2) :
    bankOf s c (sub + 2 * (grp + 8 * (bank + 4 * (col + 64 * (rank + 2 * row))))) = sub + 2 * rank + 4 * (grp + 8 * bank) ∧
      rowOf s c (sub + 2 * (grp + 8 * (bank + 4 * (col + 64 * (rank + 2 * row))))) = row := by
  have hon : s.on DRC_GEOM_RANKS c = true := by simp [on_eq, h]
  simp only [bankOf, rowOf, hon, if_true]
  omega

/-- One rank: the row lies right above the column. -/
theorem burst_fields_one_rank {s : State} {c : Nat} (h : s.fld DRC_GEOM_RANKS c = 0) {sub grp bank col : Nat} (row : Nat)
    (hsub : sub < 2) (hgrp : grp < 8) (hbank : bank < 4) (hcol : col < 64) :
    bankOf s c (sub + 2 * (grp + 8 * (bank + 4 * (col + 64 * row)))) = sub + 4 * (grp + 8 * bank) ∧
      rowOf s c (sub + 2 * (grp + 8 * (bank + 4 * (col + 64 * row)))) = row := by
  have hon : s.on DRC_GEOM_RANKS c = false := by simp [on_eq, h]
  simp only [bankOf, rowOf, hon, Bool.false_eq_true, if_false]
  omega

/-! ### The lock of DRC_IMAP (R495) -/

theorem mem_mappedControllers (s : State) (c : Nat) : c ∈ mappedControllers s ↔
    c < 4 ∧ (s.fld DRC_IMAP_MODE = 0 → s.fbit DRC_IMAP_MASK c = true) ∧ (s.fld DRC_IMAP_MODE = 1 → c < 2) := by
  unfold mappedControllers
  split
  · next h => simp [h]
  · next h =>
    simp [h]
    omega
  · next hlinear htwo =>
    have hall : c ∈ [0, 1, 2, 3] ↔ c < 4 := by
      simp only [List.mem_cons, List.not_mem_nil, or_false]
      omega
    exact ⟨fun hc => ⟨hall.mp hc, fun h => absurd h hlinear, fun h => absurd h htwo⟩, fun ⟨hc, _⟩ => hall.mpr hc⟩

theorem imapLocked_iff (s : State) : imapLocked s = true ↔ ∃ c, c < 4 ∧
    (s.fld DRC_IMAP_MODE = 0 → s.fbit DRC_IMAP_MASK c = true) ∧ (s.fld DRC_IMAP_MODE = 1 → c < 2) ∧
    (s.drState c = drActive ∨ s.drState c = drSelfRefresh) := by
  unfold imapLocked
  simp only [List.any_eq_true, mem_mappedControllers, decide_eq_true_eq, and_assoc]

/-- The lease changes no field of a DRAM controller. -/
theorem fld_renewLease_dram (m : Ident) (s : State) {g : Field} (hg : 0x1400000 ≤ g.off) (i : Nat) :
    (renewLease m s).fld g i = s.fld g i :=
  fld_renewLease m s g i 0 0 (key_ne_leaseKey (Nat.lt_of_lt_of_le (by decide) hg) i 0 0)

theorem capacity_renewLease (m : Ident) (s : State) (c : Nat) : (renewLease m s).capacity c = s.capacity c := by
  unfold State.capacity
  rw [fld_renewLease_dram m s (by decide), fld_renewLease_dram m s (by decide)]

theorem imapLocked_renewLease (m : Ident) (s : State) : imapLocked (renewLease m s) = imapLocked s := by
  rw [Bool.eq_iff_iff, imapLocked_iff, imapLocked_iff]
  unfold State.fbit State.drState
  simp (disch := decide) only [fld_renewLease_dram]

/-! ### IMAP_WRITE (R495) -/

/-- An unlocked field of a whole write is the field of the data. -/
theorem writeField_unlocked {lo w : Nat} (h : lo + w ≤ 64) (data v : Word) :
    writeField data Half.full.mask false ⟨lo, w, .rwl⟩ v = setBits v lo w (bits data lo w) := by
  have hmask : fieldMask lo w &&& Half.full.mask = fieldMask lo w := BitVec.and_allOnes
  apply BitVec.eq_of_getLsbD_eq
  intro i hi
  simp only [writeField, hmask, Bool.false_eq_true, if_false]
  rw [setBits_getLsbD _ _ _ _ _ h, bits_testBit, BitVec.getLsbD_or, BitVec.getLsbD_and, BitVec.getLsbD_and, BitVec.getLsbD_not,
    fieldMask_getLsbD]
  by_cases hin : lo ≤ i ∧ i < lo + w
  · have hbit : i - lo < w ∧ lo + (i - lo) = i := by omega
    simp [hin, hi, hbit]
  · have hout : ¬ lo ≤ i ∨ ¬ i < lo + w := by omega
    rcases hout with hout | hout <;> simp [hout, hi]

/-- The state with MODE and MASK of DRC_IMAP taken from a word. -/
def storeImap (data : Word) (s : State) : State :=
  s.setReg DRC_IMAP_MODE.off (setBits (setBits (s.reg DRC_IMAP_MODE.off) 0 2 (bits data 0 2)) 4 4 (bits data 4 4))

theorem plainWrite_imap (data : Word) (s : State) :
    plainWrite (regInfo .DRC_IMAP).fields DRC_IMAP_MODE.off (fun _ => false) .full data s = storeImap data s := by
  have hfields : writeFields (fun _ => false) (s.reg DRC_IMAP_MODE.off) data Half.full.mask (regInfo .DRC_IMAP).fields =
      writeField data Half.full.mask false ⟨4, 4, .rwl⟩
        (writeField data Half.full.mask false ⟨0, 2, .rwl⟩ (s.reg DRC_IMAP_MODE.off)) := rfl
  unfold plainWrite storeImap
  rw [hfields, writeField_unlocked (by decide), writeField_unlocked (by decide)]

theorem storeImap_mode (data : Word) (s : State) : (storeImap data s).fld DRC_IMAP_MODE = bits data 0 2 := by
  change bits ((storeImap data s).reg DRC_IMAP_MODE.off) 0 2 = bits data 0 2
  unfold storeImap
  rw [reg_setReg_same, bits_setBits_other _ _ _ _ _ _ (by decide) (by decide), bits_setBits_same _ _ _ _ (by decide)]
  exact Nat.mod_eq_of_lt (bits_lt data 0 2)

theorem storeImap_mask (data : Word) (s : State) : (storeImap data s).fld DRC_IMAP_MASK = bits data 4 4 := by
  change bits ((storeImap data s).reg DRC_IMAP_MODE.off) 4 4 = bits data 4 4
  unfold storeImap
  rw [reg_setReg_same, bits_setBits_same _ _ _ _ (by decide)]
  exact Nat.mod_eq_of_lt (bits_lt data 4 4)

/-- The frame of a stored map: DRC_IMAP. -/
theorem storeImap_onlyRegs (data : Word) (s : State) : onlyRegs [DRC_IMAP_MODE.off] s (storeImap data s) :=
  ⟨rfl, regsKeep_setReg s _ _⟩

theorem onlyRegs_trans {l : List Nat} {s t u : State} (h : onlyRegs l s t) (h' : onlyRegs l t u) : onlyRegs l s u := by
  obtain ⟨hrest, hkeep⟩ := h
  obtain ⟨hrest', hkeep'⟩ := h'
  refine ⟨?_, regsKeep_trans hkeep hkeep'⟩
  rw [hrest', hrest]

/-- What R495 asks of a write: the map is not locked, MODE is not 3, and the controllers that MODE interleaves, 2 of them with
MODE 1 and 4 with MODE 2, have one capacity. -/
def imapAccepts (data : Word) (s : State) : Prop :=
  imapLocked s = false ∧ bits data 0 2 ≠ 3 ∧ ∀ c, c < 2 * bits data 0 2 → s.capacity c = s.capacity 0

theorem imapAccepts_renewLease (m : Ident) (data : Word) (s : State) :
    imapAccepts data (renewLease m s) ↔ imapAccepts data s := by
  unfold imapAccepts
  simp only [imapLocked_renewLease, capacity_renewLease]

/-- The condition under which the model ignores a write is the failure of `imapAccepts`. -/
theorem imapIgnores_iff (data : Word) (s : State) :
    (imapLocked s = true ∨ bits data 0 2 = 3 ∨
      ((List.range (2 * bits data 0 2)).map s.capacity).any (fun x => decide (x ≠ s.capacity 0)) = true) ↔ ¬ imapAccepts data s := by
  simp [imapAccepts, imp_iff_not_or]

theorem imapEffect_accepted {data : Word} {s : State} (h : imapAccepts data s) : imapEffect .full data s = storeImap data s := by
  unfold imapEffect
  rw [merged_full, plainWrite_imap]
  exact if_neg (mt (imapIgnores_iff data s).mp (not_not_intro h))

theorem imapEffect_ignored {data : Word} {s : State} (h : ¬ imapAccepts data s) : imapEffect .full data s = s := by
  unfold imapEffect
  rw [merged_full]
  exact if_pos ((imapIgnores_iff data s).mpr h)

/-- A write of DRC_IMAP that passes has its effect. -/
theorem exec_imapWrite_admits {m : Ident} {s : State} (hadm : s.admits m .DRC_IMAP []) (data : Word) :
    exec (.imapWrite m .full data) s = .next (imapEffect .full data (renewLease m s)) := by
  rw [exec_imapWrite]
  exact congrArg Host.Outcome.next (regWrite_admits hadm .full _)

theorem exec_imapWrite_accepted {m : Ident} {data : Word} {s : State} (hadm : s.admits m .DRC_IMAP [])
    (h : imapAccepts data s) : exec (.imapWrite m .full data) s = .next (storeImap data (renewLease m s)) := by
  rw [exec_imapWrite_admits hadm, imapEffect_accepted ((imapAccepts_renewLease m data s).mpr h)]

theorem exec_imapWrite_ignored {m : Ident} {data : Word} {s : State} (hadm : s.admits m .DRC_IMAP [])
    (h : ¬ imapAccepts data s) : exec (.imapWrite m .full data) s = .next (renewLease m s) := by
  rw [exec_imapWrite_admits hadm, imapEffect_ignored (mt (imapAccepts_renewLease m data s).mp h)]

/-- Settles O44: MODE 1 and 2 place addresses by `interleave`, every mapped address lies at its `dramPlace`, and a write of
DRC_IMAP stores its map or nothing by `imapAccepts`. -/
theorem dramAddresses : Obligations.DramAddresses := by
  unfold Obligations.DramAddresses
  refine ⟨fun s a hm => ?_, fun s a hm => ?_, fun s a b x ha hb hx hy => ?_, fun s a b x y hx hy hblock => ?_,
    fun s c a hm hc ha => ?_, fun s c sub grp bank col rank row hsub hgrp hbank hcol hrank => ?_,
    fun s _ => imapLocked_iff s, fun m data s hadm => ⟨fun hfree hmode hcap => ?_, fun hrefused => ?_⟩⟩
  · rw [dramTarget_interleave4 hm]
    exact ⟨fun ha => ⟨_, _, if_pos ha, Nat.mod_lt _ (by decide), interleave_lt ha, rfl, interleave_local 4 a⟩,
      fun ha => if_neg (Nat.not_lt.mpr ha)⟩
  · rw [dramTarget_interleave2 hm]
    exact ⟨fun ha => ⟨_, _, if_pos ha, Nat.mod_lt _ (by decide), interleave_lt ha, rfl, interleave_local 2 a⟩,
      fun ha => if_neg (Nat.not_lt.mpr ha)⟩
  · exact dramPlace_injective ha hb ((dramTarget_eq_some hx).trans (dramTarget_eq_some hy).symm)
  · rw [← dramTarget_eq_some hx, ← dramTarget_eq_some hy]
    exact dramPlace_block hblock
  · have hctl : (2 ^ 36 * c + a) / 2 ^ 36 % 4 = c := by omega
    have hlocal : (2 ^ 36 * c + a) % 2 ^ 36 = a := by omega
    rw [dramTarget_linear hm, hctl, hlocal]
  · exact ⟨fun h => burst_fields_two_ranks h row hsub hgrp hbank hcol hrank,
      fun h => burst_fields_one_rank h row hsub hgrp hbank hcol⟩
  · refine ⟨_, exec_imapWrite_accepted hadm ⟨hfree, hmode.ne, hcap⟩, storeImap_mode data _, storeImap_mask data _, ?_⟩
    exact onlyRegs_trans (onlyRegs_mono (by simp) (onlyRegs_renewLease m s))
      (onlyRegs_mono (by simp) (storeImap_onlyRegs data _))
  · refine ⟨_, exec_imapWrite_ignored hadm ?_, onlyRegs_renewLease m s⟩
    rintro ⟨hfree, hmode, hcap⟩
    rcases hrefused with hlocked | hthree | ⟨c, hc, hne⟩
    · exact absurd hlocked (by simp [hfree])
    · exact hmode hthree
    · exact hne (hcap c hc)

end Sys2Proof.Machine
end

section
/-! SUPPORT. What a raise changes (R668 to R672) and what the event router does with it (R684): its counts, its pending entry, its
reaction, and the vectors it signals. -/

namespace Sys2Proof.Machine

/-! ### States that differ in registers and in what has been sent -/

/-- From `s` to `t` only what has been sent and the registers at the keys of `l` change. -/
def onlySends (l : List Nat) (s t : State) : Prop := t = { s with regs := t.regs, out := t.out } ∧ regsKeep l s t

theorem onlySends_refl (l : List Nat) (s : State) : onlySends l s s := ⟨rfl, regsKeep_refl l s⟩

theorem onlySends_trans {l : List Nat} {s t u : State} (h : onlySends l s t) (h' : onlySends l t u) : onlySends l s u := by
  obtain ⟨hrest, hkeep⟩ := h
  obtain ⟨hrest', hkeep'⟩ := h'
  refine ⟨?_, regsKeep_trans hkeep hkeep'⟩
  rw [hrest', hrest]

theorem onlySends_mono {l l' : List Nat} {s t : State} (hl : ∀ k ∈ l, k ∈ l') (h : onlySends l s t) : onlySends l' s t :=
  ⟨h.1, regsKeep_mono hl h.2⟩

theorem onlySends_setReg (s : State) (k : Nat) (v : Word) : onlySends [k] s (s.setReg k v) := ⟨rfl, regsKeep_setReg s k v⟩

theorem onlySends_emit (l : List Nat) (s : State) (o : Out) : onlySends l s (s.emit o) := ⟨rfl, fun _ _ => rfl⟩

/-! ### Bits of a field -/

/-- A bit of a field reads as it was written. -/
theorem fbit_setFbit_same (s : State) {f : Field} {b : Nat} (v : Bool) (i j k : Nat) (hf : f.lo + f.w ≤ 64) (hb : b < f.w) :
    (s.setFbit f b v i j k).fbit f b i j k = v := by
  unfold State.fbit State.fld State.setFbit
  rw [reg_setReg_same, bits_testBit, setBits_getLsbD _ _ _ _ _ (by omega)]
  cases v <;> simp [hb, bnat]

/-- A flag that reads 1 is set, and one that reads 0 is not. -/
theorem on_of_one {s : State} {f : Field} {i j k : Nat} (h : s.fld f i j k = 1) : s.on f i j k = true := by simp [on_eq, h]

theorem on_of_zero {s : State} {f : Field} {i j k : Nat} (h : s.fld f i j k = 0) : s.on f i j k = false := by simp [on_eq, h]

/-! ### The event router (R684) -/

/-- The registers that a raise of a vector of function `f` may change: its raised vectors and its pending-bit array. -/
def vectorKeys (f : Nat) : List Nat := [FLT_VECf_RAISED_RAISED.key f 0 0, pbaKey f]

/-- The registers that the router may change. -/
def routeKeys : List Nat := vectorKeys 0 ++ vectorKeys 1 ++ vectorKeys 2 ++ vectorKeys 3

theorem vectorOpen_congr {s t : State} {f v : Nat} (hp : t.pcie = s.pcie) (hr : t.reg (msixKey f v 1) = s.reg (msixKey f v 1)) :
    vectorOpen t f v = vectorOpen s f v := by
  unfold vectorOpen
  rw [hp, hr]

theorem vectorOpen_marked (f v : Nat) (s : State) :
    vectorOpen (s.setFbit FLT_VECf_RAISED_RAISED v true f) f v = vectorOpen s f v := by
  refine vectorOpen_congr rfl (reg_setReg_other s _ ?_)
  simp only [msixKey, Field.key, FLT_VECf_RAISED_RAISED]
  omega

/-- A vector that may be sent is sent. -/
theorem raiseVector_open {f v : Nat} {s : State} (h : vectorOpen s f v = true) :
    raiseVector f v s = (s.setFbit FLT_VECf_RAISED_RAISED v true f).emit (.msix f v) := by
  unfold raiseVector
  simp only [vectorOpen_marked, h, if_true]

/-- A vector that may not be sent is left pending. -/
theorem raiseVector_closed {f v : Nat} {s : State} (h : vectorOpen s f v = false) :
    raiseVector f v s = (s.setFbit FLT_VECf_RAISED_RAISED v true f).setReg (pbaKey f)
      (setBits ((s.setFbit FLT_VECf_RAISED_RAISED v true f).reg (pbaKey f)) v 1 1) := by
  unfold raiseVector
  simp only [vectorOpen_marked, h, if_false, Bool.false_eq_true]

theorem raiseVector_onlySends (f v : Nat) (s : State) : onlySends (vectorKeys f) s (raiseVector f v s) := by
  have hmark : onlySends (vectorKeys f) s (s.setFbit FLT_VECf_RAISED_RAISED v true f) :=
    onlySends_mono (by simp [vectorKeys]) (onlySends_setReg s _ _)
  cases h : vectorOpen s f v with
  | true =>
    rw [raiseVector_open h]
    exact onlySends_trans hmark (onlySends_emit _ _ _)
  | false =>
    rw [raiseVector_closed h]
    exact onlySends_trans hmark (onlySends_mono (by simp [vectorKeys]) (onlySends_setReg _ _ _))

theorem raiseVector_out (f v : Nat) (s : State) :
    (raiseVector f v s).out = if vectorOpen s f v then .msix f v :: s.out else s.out := by
  cases h : vectorOpen s f v with
  | true => rw [raiseVector_open h]; rfl
  | false => rw [raiseVector_closed h]; rfl

theorem raiseVector_raised {f v : Nat} (hv : v < 64) (s : State) :
    (raiseVector f v s).fbit FLT_VECf_RAISED_RAISED v f = true := by
  have hmark := fbit_setFbit_same s true f 0 0 (f := FLT_VECf_RAISED_RAISED) (by decide) hv
  cases h : vectorOpen s f v with
  | true => rw [raiseVector_open h]; exact hmark
  | false =>
    have hkey : FLT_VECf_RAISED_RAISED.key f 0 0 ≠ pbaKey f := by
      simp only [Field.key, FLT_VECf_RAISED_RAISED, pbaKey]
      omega
    rw [raiseVector_closed h]
    unfold State.fbit
    rw [fld_setReg_other _ _ _ _ _ _ _ hkey]
    exact hmark

theorem raiseVector_pending {f v : Nat} {s : State} (hv : v < 64) (h : vectorOpen s f v = false) :
    bit ((raiseVector f v s).reg (pbaKey f)) v = true := by
  rw [raiseVector_closed h, reg_setReg_same]
  unfold bit
  rw [setBits_getLsbD _ _ _ _ _ (by omega)]
  simp

theorem routeOne_off {src f : Nat} {en vec : Field} {s : State} (h : s.fld en src = 0) : routeOne src f en vec s = s := by
  unfold routeOne
  rw [on_of_zero h]
  rfl

theorem routeOne_on {src f : Nat} {en vec : Field} {s : State} (h : s.fld en src = 1) :
    routeOne src f en vec s = raiseVector f (s.fld vec src) s := by
  unfold routeOne
  rw [on_of_one h]
  rfl

theorem routeOne_onlySends {l : List Nat} {f : Nat} (hl : ∀ k ∈ vectorKeys f, k ∈ l) (src : Nat) (en vec : Field) (s : State) :
    onlySends l s (routeOne src f en vec s) := by
  unfold routeOne
  split
  · exact onlySends_mono hl (raiseVector_onlySends f _ s)
  · exact onlySends_refl l s

theorem routeSource_onlySends (src : Nat) (s : State) : onlySends routeKeys s (routeSource src s) := by
  have hone := fun (f : Nat) (hf : ∀ k ∈ vectorKeys f, k ∈ routeKeys) => routeOne_onlySends hf src
  unfold routeSource
  exact onlySends_trans
    (onlySends_trans (onlySends_trans (hone 0 (by simp +contextual [routeKeys]) _ _ _) (hone 1 (by simp +contextual [routeKeys]) _ _ _))
      (hone 2 (by simp +contextual [routeKeys]) _ _ _))
    (hone 3 (by simp +contextual [routeKeys]) _ _ _)

/-- With no function enabled the router does nothing. -/
theorem routeSource_off {src : Nat} {s : State} (h0 : s.fld FLT_SRCs_EN0 src = 0) (h1 : s.fld FLT_SRCs_EN1 src = 0)
    (h2 : s.fld FLT_SRCs_EN2 src = 0) (h3 : s.fld FLT_SRCs_EN3 src = 0) : routeSource src s = s := by
  unfold routeSource
  rw [routeOne_off h0, routeOne_off h1, routeOne_off h2, routeOne_off h3]

/-- The router leaves the register of every source alone. -/
theorem fld_raiseVector_source {src : Nat} (hs : src < 0x1000) (f v : Nat) (s : State) (hf : f < 4) {g : Field} (hg : g.off = 0x208000)
    (hg1 : g.s1 = 8) : (raiseVector f v s).fld g src = s.fld g src := by
  refine fld_congr g src 0 0 ((raiseVector_onlySends f v s).2 _ ?_)
  simp only [vectorKeys, Field.key, FLT_VECf_RAISED_RAISED, pbaKey, hg, hg1, List.mem_cons, List.not_mem_nil, or_false]
  omega

/-- With function 0 alone enabled the router raises its vector. -/
theorem routeSource_first {src : Nat} {s : State} (hs : src < 0x1000) (h0 : s.fld FLT_SRCs_EN0 src = 1)
    (h1 : s.fld FLT_SRCs_EN1 src = 0) (h2 : s.fld FLT_SRCs_EN2 src = 0) (h3 : s.fld FLT_SRCs_EN3 src = 0) :
    routeSource src s = raiseVector 0 (s.fld FLT_SRCs_VEC0 src) s := by
  have hkept := fun (g : Field) (hg : g.off = 0x208000) (hg1 : g.s1 = 8) =>
    fld_raiseVector_source hs 0 (s.fld FLT_SRCs_VEC0 src) s (by decide) hg hg1
  unfold routeSource
  rw [routeOne_on h0, routeOne_off ((hkept FLT_SRCs_EN1 rfl rfl).trans h1), routeOne_off ((hkept FLT_SRCs_EN2 rfl rfl).trans h2),
    routeOne_off ((hkept FLT_SRCs_EN3 rfl rfl).trans h3)]

/-! ### The count and the pending entry of a raise (R672) -/

/-- The pending entry that a raise of `src` makes. -/
def raiseEntry (src info : Nat) (s : State) : FltPending :=
  ⟨src, BitVec.ofNat 32 info, BitVec.ofNat 64 (s.fld DEVICE_TIME_TIME), s.fld FLT_SRCs_SEV src, false⟩

/-- The reactions that a raise of `src` files: one at severity 2 or more (R671). -/
def raiseReactions (region : Option Nat) (src info : Nat) (s : State) : List FltReaction :=
  if 2 ≤ s.fld FLT_SRCs_SEV src then [⟨src, s.fld FLT_SRCs_SEV src, BitVec.ofNat 32 info, region⟩] else []

/-- The state in which a raise of `src` has been counted and filed, before the router acts. -/
def raiseMark (region : Option Nat) (src info : Nat) (s : State) : State :=
  { (s.addFld FLT_SRCs_COUNT 1 src).addFld FLT_COUNT_RAISED 1 with flt := { s.flt with
    pending := mergePending (raiseEntry src info s) s.flt.pending
    reactions := s.flt.reactions ++ raiseReactions region src info s } }

/-- The registers that counting a raise of `src` changes. -/
def raiseKeys (src : Nat) : List Nat := [FLT_SRCs_COUNT.key src 0 0, FLT_COUNT_RAISED.off]

theorem raiseCounts_regsKeep (src : Nat) (s : State) :
    regsKeep (raiseKeys src) s ((s.addFld FLT_SRCs_COUNT 1 src).addFld FLT_COUNT_RAISED 1) :=
  regsKeep_after_setFld _ _ _ _ _ (regsKeep_mono (by simp [raiseKeys]) (regsKeep_setFld s _ _ _ _ _)) (by simp [raiseKeys, Field.key])

theorem raiseMark_regsKeep (region : Option Nat) (src info : Nat) (s : State) :
    regsKeep (raiseKeys src) s (raiseMark region src info s) := raiseCounts_regsKeep src s

/-- The raise of a source that is recorded: it is counted and filed, and at severity 1 or more the router acts. -/
theorem raiseFrom_recorded {src : Nat} {r : SourceRange} (hr : sourceRange src = some r) (hn : r.notify = false) (hs : src < 0x1000)
    (region : Option Nat) (info : Nat) (s : State) :
    raiseFrom region src info s =
      if s.fld FLT_SRCs_SEV src = 0 then raiseMark region src info s else routeSource src (raiseMark region src info s) := by
  have htime : ((s.addFld FLT_SRCs_COUNT 1 src).addFld FLT_COUNT_RAISED 1).fld DEVICE_TIME_TIME = s.fld DEVICE_TIME_TIME := by
    refine fld_congr _ _ _ _ (raiseCounts_regsKeep src s _ ?_)
    simp only [raiseKeys, Field.key, FLT_SRCs_COUNT, FLT_COUNT_RAISED, DEVICE_TIME_TIME, List.mem_cons, List.not_mem_nil, or_false]
    omega
  have hreactions : (if s.fld FLT_SRCs_SEV src < 2 then s.flt.reactions else s.flt.reactions ++
      [⟨src, s.fld FLT_SRCs_SEV src, BitVec.ofNat 32 info, region⟩]) = s.flt.reactions ++ raiseReactions region src info s := by
    unfold raiseReactions
    split
    · next h => rw [if_neg (by omega), List.append_nil]
    · next h => rw [if_pos (by omega)]
  unfold raiseFrom
  simp only [hr, hn, htime, Bool.false_eq_true, if_false]
  rw [show (((s.addFld FLT_SRCs_COUNT 1 src).addFld FLT_COUNT_RAISED 1).flt) = s.flt from rfl, hreactions]
  rfl

/-- After the count the raise of a recorded source changes vectors alone. -/
theorem raiseFrom_onlySends {src : Nat} {r : SourceRange} (hr : sourceRange src = some r) (hn : r.notify = false) (hs : src < 0x1000)
    (region : Option Nat) (info : Nat) (s : State) :
    onlySends routeKeys (raiseMark region src info s) (raiseFrom region src info s) := by
  rw [raiseFrom_recorded hr hn hs]
  split
  · exact onlySends_refl _ _
  · exact routeSource_onlySends src _

/-- A field of a source's register other than COUNT is not touched by the count. -/
theorem fld_raiseMark_source {src : Nat} (region : Option Nat) (info : Nat) (s : State) (hs : src < 0x1000) {g : Field}
    (hg : g.off = 0x208000) (hg1 : g.s1 = 8) (hlo : g.lo + g.w ≤ 48) :
    (raiseMark region src info s).fld g src = s.fld g src := by
  have hkey : g.key src 0 0 ≠ FLT_COUNT_RAISED.key 0 0 0 := by
    simp only [Field.key, FLT_COUNT_RAISED, hg, hg1]
    omega
  refine (fld_setReg_other _ g _ _ _ _ _ hkey).trans ?_
  exact fld_setFld_copy s FLT_SRCs_COUNT g _ src hg1 (by decide) (.inr (.inl hlo))

theorem fld_raiseMark_count {src : Nat} (region : Option Nat) (info : Nat) (s : State) (hs : src < 0x1000) :
    (raiseMark region src info s).fld FLT_SRCs_COUNT src = (s.fld FLT_SRCs_COUNT src + 1) % 2 ^ 16 := by
  have hkey : FLT_SRCs_COUNT.key src 0 0 ≠ FLT_COUNT_RAISED.key 0 0 0 := by
    simp only [Field.key, FLT_COUNT_RAISED, FLT_SRCs_COUNT]
    omega
  refine (fld_setReg_other _ FLT_SRCs_COUNT _ _ _ _ _ hkey).trans ?_
  exact fld_setFld_same s FLT_SRCs_COUNT _ src 0 0 (by unfold Field.good; decide)

/-- The count of a source leaves FLT_COUNT alone. -/
theorem fld_count_source {src : Nat} (s : State) (hs : src < 0x1000) {g : Field} (hg : g.off = 0x200028) (hg1 : g.s1 = 0) :
    (s.addFld FLT_SRCs_COUNT 1 src).fld g = s.fld g := by
  refine fld_setReg_other s g _ _ _ _ _ ?_
  simp only [Field.key, FLT_SRCs_COUNT, hg, hg1]
  omega

theorem fld_raiseMark_raised {src : Nat} (region : Option Nat) (info : Nat) (s : State) (hs : src < 0x1000) :
    (raiseMark region src info s).fld FLT_COUNT_RAISED = (s.fld FLT_COUNT_RAISED + 1) % 2 ^ 32 := by
  rw [← fld_count_source s hs (g := FLT_COUNT_RAISED) rfl rfl]
  exact fld_setFld_same _ FLT_COUNT_RAISED _ 0 0 0 (by unfold Field.good; decide)

theorem fld_raiseMark_recorded {src : Nat} (region : Option Nat) (info : Nat) (s : State) (hs : src < 0x1000) :
    (raiseMark region src info s).fld FLT_COUNT_RECORDED = s.fld FLT_COUNT_RECORDED := by
  rw [← fld_count_source s hs (g := FLT_COUNT_RECORDED) rfl rfl]
  exact fld_setFld_copy _ FLT_COUNT_RAISED FLT_COUNT_RECORDED _ 0 rfl (by decide) (by decide)

/-- The sources 0x800 to 0xFFF are the USER sources (R667). -/
theorem sourceRange_user {src : Nat} (hlo : 0x800 ≤ src) (hhi : src < 0x1000) :
    sourceRange src = some ⟨0x800, 0xFFF, 0, false, false⟩ := by
  have hbelow : ∀ r ∈ sourceTable.dropLast, r.last < 0x800 := by decide
  have hnone : sourceTable.dropLast.find? (fun r => decide (r.first ≤ src ∧ src ≤ r.last)) = none := by
    refine List.find?_eq_none.mpr fun r hr => ?_
    have := hbelow r hr
    simp only [decide_eq_true_eq]
    omega
  have hsplit : sourceTable = sourceTable.dropLast ++ [⟨0x800, 0xFFF, 0, false, false⟩] := by decide
  unfold sourceRange
  rw [hsplit, List.find?_append, hnone]
  simp only [Option.none_or, List.find?_cons]
  rw [decide_eq_true (by omega)]

/-! ### Merging into the pending sources (R672) -/

/-- A raise whose source does not wait goes before every higher source. -/
theorem mergePending_first {e : FltPending} {l : List FltPending} (h : ∀ p ∈ l, e.source < p.source) : mergePending e l = e :: l := by
  cases l with
  | nil => rfl
  | cons p r => exact if_pos (h p List.mem_cons_self)

/-- A raise whose source waits is merged into its entry, behind the lower sources. -/
theorem mergePending_waiting {e p : FltPending} (l : List FltPending) (hp : p.source = e.source) : ∀ {a : List FltPending},
    (∀ x ∈ a, x.source < e.source) →
    mergePending e (a ++ p :: l) = a ++ { p with info := e.info, sev := max p.sev e.sev, merged := true } :: l
  | [], _ => by simp [mergePending, hp]
  | x :: a, h => by
    have hx : x.source < e.source := h x List.mem_cons_self
    have hne : ¬ e.source < x.source ∧ e.source ≠ x.source := by omega
    rw [List.cons_append, mergePending, if_neg hne.1, if_neg hne.2,
      mergePending_waiting l hp fun y hy => h y (List.mem_cons_of_mem x hy)]
    rfl

/-- After a merge an entry of the raised source waits. -/
theorem exists_mem_mergePending (e : FltPending) : ∀ l, ∃ x ∈ mergePending e l, x.source = e.source
  | [] => ⟨e, by simp [mergePending], rfl⟩
  | p :: r => by
    unfold mergePending
    split
    · exact ⟨e, List.mem_cons_self, rfl⟩
    · split
      · next heq => exact ⟨_, List.mem_cons_self, heq.symm⟩
      · obtain ⟨x, hx, hsrc⟩ := exists_mem_mergePending e r
        exact ⟨x, List.mem_cons_of_mem p hx, hsrc⟩

end Sys2Proof.Machine
end

section
/-! SUPPORT. What a channel group's entry into SAFE changes (R215, R679): its own CHG_MODE, and beside it status registers of groups
and of network endpoints. No other mode and nothing of the fault collector changes. -/

namespace Sys2Proof.Machine

/-! ### Work on the groups -/

/-- The registers that follow the groups' queues, claims, drivers, streams, converters and calibration steps, and those of the network's
endpoints. CHG_MODE, at a multiple of 0x80, is none of them. -/
def groupKey (k : Nat) : Prop := (0x601000 ≤ k ∧ k < 0x602000) ∨ (0xC00000 ≤ k ∧ k % 0x80 ≠ 0)

/-- From `s` to `t` the groups have worked: the fault collector's state stays, and so does every register that is no `groupKey`. -/
def groupWork (s t : State) : Prop := t.flt = s.flt ∧ ∀ k, ¬ groupKey k → t.reg k = s.reg k

theorem groupWork_refl (s : State) : groupWork s s := ⟨rfl, fun _ _ => rfl⟩

theorem groupWork_trans {s t u : State} (h : groupWork s t) (h' : groupWork t u) : groupWork s u :=
  ⟨h'.1.trans h.1, fun k hk => (h'.2 k hk).trans (h.2 k hk)⟩

/-- Work that leaves registers and the fault collector alone. -/
theorem groupWork_of_regs {s t : State} (hf : t.flt = s.flt) (hr : t.regs = s.regs) : groupWork s t :=
  ⟨hf, fun k _ => reg_congr hr k⟩

theorem groupWork_setReg (s : State) {k : Nat} (v : Word) (hk : groupKey k) : groupWork s (s.setReg k v) :=
  ⟨rfl, fun _ hj => reg_setReg_other s v (by rintro rfl; exact hj hk)⟩

theorem groupWork_setFld (s : State) {f : Field} (v i j k : Nat) (hk : groupKey (f.key i j k)) :
    groupWork s (s.setFld f v i j k) := groupWork_setReg s _ hk

theorem groupWork_modGrp (s : State) (g : Nat) (f : Group → Group) : groupWork s (s.modGrp g f) := groupWork_of_regs rfl rfl

theorem groupWork_emit (s : State) (o : Out) : groupWork s (s.emit o) := groupWork_of_regs rfl rfl

theorem groupWork_ite {s t u : State} {p : Prop} [Decidable p] (h : groupWork s t) (h' : groupWork s u) :
    groupWork s (if p then t else u) := by split <;> assumption

theorem groupWork_foldl {α : Type} {f : State → α → State} (h : ∀ s a, groupWork s (f s a)) :
    ∀ (l : List α) (s : State), groupWork s (l.foldl f s)
  | [], s => groupWork_refl s
  | a :: r, s => groupWork_trans (h s a) (groupWork_foldl h r (f s a))

/-- A fold that carries a list beside the state. -/
theorem groupWork_foldl_fst {α β : Type} {f : State × β → α → State × β} (h : ∀ x a, groupWork x.1 (f x a).1) :
    ∀ (l : List α) (x : State × β), groupWork x.1 (l.foldl f x).1
  | [], x => groupWork_refl x.1
  | a :: r, x => groupWork_trans (h x a) (groupWork_foldl_fst h r (f x a))

/-! ### Channels and safe states (R217, R218, R243) -/

theorem groupWork_showDriver (g : Nat) (s : State) (i : Nat) : groupWork s (showDriver g s i) := by
  refine groupWork_setFld s _ g i 0 (.inr ?_)
  simp only [Field.key, CHG_CHi_LAST_DRIVER]
  omega

theorem groupWork_modChan (s : State) (g i : Nat) (f : Chan → Chan) : groupWork s (s.modChan g i f) :=
  groupWork_trans (groupWork_modGrp s g _) (groupWork_showDriver g _ i)

theorem groupWork_abandonStep (g : Nat) (s : State) : groupWork s (abandonStep g s) := by
  have hend : groupWork s (endStep g s) :=
    groupWork_trans (groupWork_foldl (fun s i => groupWork_modChan s g i _) _ s) (groupWork_modGrp _ g _)
  unfold abandonStep
  split
  · exact groupWork_refl s
  · refine groupWork_trans hend (groupWork_setFld _ _ g 0 0 (.inr ?_))
    simp only [Field.key, CHG_CAL_STATUS_ABANDONED]
    omega

theorem groupWork_abandonFor (g i : Nat) (s : State) : groupWork s (abandonFor g i s) := by
  unfold abandonFor
  split
  · exact groupWork_refl s
  · exact groupWork_ite (groupWork_abandonStep g s) (groupWork_refl s)

theorem groupWork_keeperLevel (c : Chan) (s : State) : groupWork s (keeperLevel c s).2 := by
  unfold keeperLevel
  split
  · exact groupWork_refl s
  · exact groupWork_of_regs rfl rfl

theorem groupWork_safeChan (g : Nat) (s : State) (i : Nat) : groupWork s (safeChan g s i) := by
  unfold safeChan
  dsimp only
  split
  · exact groupWork_modChan s g i _
  · refine groupWork_trans ?_ (groupWork_modChan _ g i _)
    split
    · exact groupWork_keeperLevel _ s
    · exact groupWork_refl s

theorem groupWork_applySafe (g : Nat) (s : State) : groupWork s (applySafe g s) :=
  groupWork_foldl (groupWork_safeChan g) positions s

/-! ### Claims (R192 to R195) -/

theorem groupWork_setHolder (g i : Nat) (o : Option Claimer) (s : State) : groupWork s (setHolder g i o s) := by
  refine groupWork_trans (groupWork_modChan s g i _) (groupWork_setReg _ _ (.inr ?_))
  simp only [Field.key, CHG_STATUS_CLAIMED]
  omega

theorem groupWork_claimStep (g slot : Nat) (s : State) : groupWork s (claimStep g slot s).1 := by
  unfold claimStep
  split
  · exact groupWork_modGrp s g _
  · split
    · exact groupWork_emit s _
    · have habandon := groupWork_abandonFor g
      dsimp only
      split
      · exact groupWork_trans (habandon _ s) (groupWork_modGrp _ g _)
      · exact groupWork_trans (groupWork_trans (habandon _ s) (groupWork_setHolder g _ _ _)) (groupWork_modGrp _ g _)
  · exact groupWork_refl s

theorem groupWork_claimRounds (g : Nat) : ∀ (n : Nat) (slots : List Nat) (s : State), groupWork s (claimRounds n g slots s)
  | 0, _, s => groupWork_refl s
  | n + 1, slots, s => by
    have hround := groupWork_foldl_fst (f := fun (acc : State × List Nat) k =>
      ((claimStep g k acc.1).1, if (claimStep g k acc.1).2 then acc.2 ++ [k] else acc.2))
      (fun acc k => groupWork_claimStep g k acc.1) slots (s, [])
    unfold claimRounds
    dsimp only
    split
    · exact hround
    · exact groupWork_trans hround (groupWork_claimRounds g n _ _)

theorem groupWork_noteGrant (g slot c : Nat) (s : State) : groupWork s (noteGrant g slot c s).1 := by
  unfold noteGrant
  split
  · split
    · exact groupWork_modGrp s g _
    · exact groupWork_refl s
  · exact groupWork_refl s

theorem groupWork_grantWaiting (g i : Nat) (s : State) : groupWork s (grantWaiting g i s).1 := by
  unfold grantWaiting
  split
  · exact groupWork_refl s
  · split
    · exact groupWork_refl s
    · next w _ =>
      have hheld := groupWork_trans (groupWork_modGrp s g (fun x => { x with waiters := dropFirst w x.waiters }))
        (groupWork_setHolder g i (some w.2) _)
      dsimp only
      split
      · exact groupWork_trans hheld (groupWork_noteGrant g _ _ _)
      · exact groupWork_trans hheld (groupWork_emit _ _)

theorem groupWork_freeChan (g i : Nat) (who : Claimer) (s : State) : groupWork s (freeChan g i who s) :=
  groupWork_trans (groupWork_modGrp s g _) (groupWork_ite (groupWork_setHolder g i none _) (groupWork_refl _))

theorem groupWork_grantFreed (g : Nat) (l : List Nat) (s : State) : groupWork s (grantFreed g l s) := by
  have hgrants := groupWork_foldl_fst (f := fun (acc : State × List Nat) i =>
    ((grantWaiting g i acc.1).1, acc.2 ++ (grantWaiting g i acc.1).2)) (fun acc i => groupWork_grantWaiting g i acc.1) l (s, [])
  exact groupWork_trans hgrants (groupWork_claimRounds g 17 _ _)

theorem groupWork_releaseAll (g slot : Nat) (l : List Nat) (s : State) : groupWork s (releaseAll g slot l s) :=
  groupWork_trans
    (groupWork_trans (groupWork_foldl (fun s _ => groupWork_emit s _) _ s) (groupWork_foldl (fun s i => groupWork_freeChan g i _ s) _ _))
    (groupWork_grantFreed g _ _)

/-! ### Actions cut short (R195, R216) -/

theorem groupWork_dropQuantities (g slot : Nat) (s : State) : groupWork s (dropQuantities g slot s) := by
  refine groupWork_foldl (fun s h => groupWork_ite ?_ (groupWork_refl s)) (List.range 128) s
  refine groupWork_trans (groupWork_modGrp s h _) (groupWork_setFld _ _ h 0 0 (.inr ?_))
  simp only [Field.key, CHG_ADC_STATUS_WAITING]
  omega

theorem groupWork_answeredAt {e : Nat} (he : e < 320) (s : State) : groupWork s (answeredAt e s) := by
  refine groupWork_setFld s _ e 0 0 (.inl ?_)
  simp only [Field.key, NOC_EPe_STATUS_OUTSTANDING]
  omega

theorem dieEndpoint_lt (d : Nat) : dieEndpoint d < 320 := by
  unfold dieEndpoint
  split <;> decide

theorem groupWork_syncQueue (g : Nat) (s : State) : groupWork s (syncQueue g s) := by
  refine groupWork_setFld s _ g 0 0 (.inr ?_)
  simp only [Field.key, CHG_STATUS_QUEUED]
  omega

theorem groupWork_answerAct (g : Nat) (a : GAct) (st : Status) (value : Nat) (s : State) : groupWork s (answerAct g a st value s) := by
  unfold answerAct
  dsimp only
  refine groupWork_trans (groupWork_trans (groupWork_trans ?_ (groupWork_emit _ _)) (groupWork_answeredAt (dieEndpoint_lt (g / 32)) _))
    (groupWork_releaseAll g a.slot a.asked _)
  refine groupWork_trans (groupWork_trans ?_ (groupWork_modGrp _ g _)) (groupWork_syncQueue g _)
  exact groupWork_foldl (fun s c => groupWork_modGrp s (c / 16) _) _ s

theorem groupWork_fenceAct (g : Nat) (s : State) (slot : Nat) : groupWork s (fenceAct g s slot) := by
  unfold fenceAct
  split
  · exact groupWork_refl s
  · next a _ =>
    refine groupWork_trans (groupWork_trans (groupWork_dropQuantities g a.slot s) ?_) (groupWork_answerAct g a _ _ _)
    exact groupWork_foldl (fun s c => groupWork_modChan s (c / 16) (c % 16) _) _ _

theorem groupWork_endStream (g : Nat) (s : State) : groupWork s (endStream g s) := by
  unfold endStream
  split
  · exact groupWork_refl s
  · refine groupWork_trans (groupWork_trans (groupWork_modGrp s g _) (groupWork_setFld _ _ g 0 0 (.inr ?_)))
      (groupWork_setFld _ _ g 0 0 (.inr ?_))
    · simp only [Field.key, CHG_STREAM_CTL_ARMED]
      omega
    · simp only [Field.key, CHG_STREAM_STATUS_BUFFERED]
      omega

theorem groupWork_refuseCompanions (g : Nat) (s : State) : groupWork s (refuseCompanions g s) :=
  groupWork_trans (groupWork_modGrp s g _) (groupWork_foldl (fun s _ => groupWork_emit s _) _ _)

theorem groupWork_syncPlaying (g : Nat) (s : State) : groupWork s (syncPlaying g s) := by
  refine groupWork_setFld s _ g 0 0 (.inr ?_)
  simp only [Field.key, CHG_STATUS_PLAYING]
  omega

/-! ### The entry into SAFE (R215, R216) -/

/-- A change to SAFE writes the group's MODE and is work on the groups otherwise. -/
theorem leaveMode_safe (g : Nat) (s : State) : groupWork (s.setFld CHG_MODE_MODE mdSafe g) (leaveMode g mdSafe s) := by
  have hfabric : ¬ (mdSafe = mdFabric ∨ mdSafe = mdStream) := by decide
  have hclaims : ¬ (mdSafe = mdContext ∨ mdSafe = mdParametric) := by decide
  unfold leaveMode
  simp only [if_neg hfabric, if_neg hclaims, if_true]
  refine groupWork_trans (groupWork_trans ?_ (groupWork_applySafe g _)) (groupWork_syncPlaying g _)
  refine groupWork_trans (groupWork_trans ?_ (groupWork_modGrp _ g _)) (groupWork_foldl (groupWork_fenceAct g) _ _)
  exact groupWork_trans (groupWork_trans (groupWork_modGrp _ g _) (groupWork_endStream g _)) (groupWork_refuseCompanions g _)

/-- No mode's register is among those that follow the groups' work. -/
theorem not_groupKey_mode (g : Nat) : ¬ groupKey (CHG_MODE_MODE.key g 0 0) := by
  simp only [groupKey, Field.key, CHG_MODE_MODE]
  omega

theorem groupWork_mode {s t : State} (h : groupWork s t) (g : Nat) : t.mode g = s.mode g :=
  fld_congr CHG_MODE_MODE g 0 0 (h.2 _ (not_groupKey_mode g))

/-- The state in which a pending change of CHG_MODE is withdrawn and a calibration step abandoned, before SAFE is entered. -/
def readySafe (g : Nat) (s : State) : State :=
  abandonStep g (((s.setFld CHG_MODE_PENDING 0 g).setFld CHG_MODE_REFLEX_ON 0 g).modGrp g (fun x => { x with modeFrozen := none }))

theorem readySafe_flt (g : Nat) (s : State) : (readySafe g s).flt = s.flt :=
  (groupWork_trans (groupWork_modGrp _ g _) (groupWork_abandonStep g _)).1

theorem readySafe_reg (g : Nat) (s : State) {k : Nat} (hk : ¬ groupKey k) (hg : k ≠ CHG_MODE_MODE.key g 0 0) :
    (readySafe g s).reg k = s.reg k := by
  have hword : ((s.setFld CHG_MODE_PENDING 0 g).setFld CHG_MODE_REFLEX_ON 0 g).reg k = s.reg k :=
    (reg_setFld_other _ CHG_MODE_REFLEX_ON _ _ _ _ _ hg).trans (reg_setFld_other s CHG_MODE_PENDING _ _ _ _ _ hg)
  exact ((groupWork_trans (groupWork_modGrp _ g _) (groupWork_abandonStep g _)).2 k hk).trans hword

/-- The last step of the entry: the group is in SAFE already, or leaves its mode for it. -/
theorem enterSafe_eq (g : Nat) (s : State) :
    enterSafe g s = if (readySafe g s).mode g = mdSafe then readySafe g s else leaveMode g mdSafe (readySafe g s) := rfl

theorem enterSafe_flt (g : Nat) (s : State) : (enterSafe g s).flt = s.flt := by
  rw [enterSafe_eq]
  split
  · exact readySafe_flt g s
  · exact (leaveMode_safe g _).1.trans (readySafe_flt g s)

theorem enterSafe_reg (g : Nat) (s : State) {k : Nat} (hk : ¬ groupKey k) (hg : k ≠ CHG_MODE_MODE.key g 0 0) :
    (enterSafe g s).reg k = s.reg k := by
  rw [enterSafe_eq]
  split
  · exact readySafe_reg g s hk hg
  · exact (((leaveMode_safe g _).2 k hk).trans (reg_setFld_other _ _ _ _ _ _ _ hg)).trans (readySafe_reg g s hk hg)

theorem enterSafe_mode_same (g : Nat) (s : State) : (enterSafe g s).mode g = mdSafe := by
  rw [enterSafe_eq]
  split
  · next h => exact h
  · exact (groupWork_mode (leaveMode_safe g _) g).trans (fld_setFld_same _ CHG_MODE_MODE mdSafe g 0 0 (by unfold Field.good; decide))

/-- A group in SAFE stays there when a group enters SAFE. -/
theorem enterSafe_mode_safe {g j : Nat} {s : State} (h : s.mode j = mdSafe) : (enterSafe g s).mode j = mdSafe := by
  by_cases hj : j = g
  · rw [hj]
    exact enterSafe_mode_same g s
  · have hkey : CHG_MODE_MODE.key j 0 0 ≠ CHG_MODE_MODE.key g 0 0 := by
      simp only [Field.key, CHG_MODE_MODE]
      omega
    exact (fld_congr CHG_MODE_MODE j 0 0 (enterSafe_reg g s (not_groupKey_mode j) hkey)).trans h

/-- A register below the channel groups' that is none of an endpoint's stays when a group enters SAFE. -/
theorem enterSafe_reg_low (g : Nat) (s : State) {k : Nat} (hk : k < 0x601000) : (enterSafe g s).reg k = s.reg k := by
  refine enterSafe_reg g s ?_ ?_
  · simp only [groupKey]
    omega
  · simp only [Field.key, CHG_MODE_MODE]
    omega

/-! ### Several groups (R257, R679) -/

/-- The groups of a list enter SAFE, in its order. -/
def enterAllSafe (l : List Nat) (s : State) : State := l.foldl (fun s g => enterSafe g s) s

theorem enterAllSafe_flt : ∀ (l : List Nat) (s : State), (enterAllSafe l s).flt = s.flt
  | [], _ => rfl
  | g :: r, s => (enterAllSafe_flt r (enterSafe g s)).trans (enterSafe_flt g s)

theorem enterAllSafe_reg_low {k : Nat} (hk : k < 0x601000) : ∀ (l : List Nat) (s : State), (enterAllSafe l s).reg k = s.reg k
  | [], _ => rfl
  | g :: r, s => (enterAllSafe_reg_low hk r (enterSafe g s)).trans (enterSafe_reg_low g s hk)

theorem enterAllSafe_mode_safe {j : Nat} (l : List Nat) {s : State} (h : s.mode j = mdSafe) : (enterAllSafe l s).mode j = mdSafe := by
  induction l generalizing s with
  | nil => exact h
  | cons g r ih => exact ih (enterSafe_mode_safe h)

theorem enterAllSafe_mode {j : Nat} {l : List Nat} (h : j ∈ l) (s : State) : (enterAllSafe l s).mode j = mdSafe := by
  induction l generalizing s with
  | nil => exact absurd h List.not_mem_nil
  | cons g r ih =>
    rcases List.mem_cons.mp h with rfl | hr
    · exact enterAllSafe_mode_safe r (enterSafe_mode_same j s)
    · exact ih hr (enterSafe g s)

end Sys2Proof.Machine
end

section
/-! SUPPORT. EMBER (R686, R687, R736): how it stops, resumes and follows the device time, and what its check leaves alone. -/

namespace Sys2Proof.Machine

/-! ### The level -/

theorem setEmber_flt (v : Bool) (s : State) : (setEmber v s).flt = s.flt := by
  unfold setEmber
  split <;> rfl

theorem setEmber_onlySends (v : Bool) (s : State) : onlySends [FLT_STATUS_EMBER.off] s (setEmber v s) := by
  unfold setEmber
  split
  · exact onlySends_refl _ s
  · exact onlySends_trans (onlySends_setReg s _ _) (onlySends_emit _ _ _)

theorem setEmber_level (v : Bool) (s : State) : (setEmber v s).fld FLT_STATUS_EMBER = bnat v := by
  have hlt := fld_lt s FLT_STATUS_EMBER 0 0 0
  unfold setEmber
  split
  · next h =>
    rw [on_eq] at h
    subst h
    by_cases h0 : s.fld FLT_STATUS_EMBER = 0
    · simp [h0, bnat]
    · have h1 : s.fld FLT_STATUS_EMBER = 1 := by
        simp only [FLT_STATUS_EMBER] at hlt h0 ⊢
        omega
      simp [h1, bnat]
  · refine fld_setFld_of_lt s 0 (by decide) ?_
    cases v <;> decide

/-- A field outside EMBER is not touched by its level. -/
theorem fld_setEmber (v : Bool) (s : State) {g : Field} (hg1 : g.s1 = 0) (hg : g.off ≠ 0x200008 ∨ g.lo + g.w ≤ 3 ∨ 4 ≤ g.lo) :
    (setEmber v s).fld g = s.fld g := by
  unfold setEmber
  split
  · rfl
  · exact fld_setFld_copy s FLT_STATUS_EMBER g _ 0 hg1 (by decide) hg

/-! ### The conditions of R687 -/

theorem emberMay_congr {s t : State} (hp : t.pwr = s.pwr) (hh : t.fld FLT_STATUS_HALTED = s.fld FLT_STATUS_HALTED)
    (hb : t.fld FLT_STATUS_HB_LOST = s.fld FLT_STATUS_HB_LOST) (ht : t.fld FLT_STATUS_TICK_LOST = s.fld FLT_STATUS_TICK_LOST)
    (hs : t.fld FLT_EMBER_STOP = s.fld FLT_EMBER_STOP) (hw : t.fld PWR_STATUS_STATE = s.fld PWR_STATUS_STATE) :
    t.emberMay = s.emberMay := by
  unfold State.emberMay
  simp only [on_eq, hp, hh, hb, ht, hs, hw]

/-- A halt, a lost heartbeat, a lost tick or STOP keeps EMBER from running. -/
theorem emberMay_of_flag {s : State} {f : Field} (hf : f ∈ [FLT_STATUS_HALTED, FLT_STATUS_HB_LOST, FLT_STATUS_TICK_LOST, FLT_EMBER_STOP])
    (h : s.fld f = 1) : s.emberMay = false := by
  have hon := on_of_one h
  unfold State.emberMay
  simp only [List.mem_cons, List.not_mem_nil, or_false] at hf
  rcases hf with rfl | rfl | rfl | rfl <;> simp [hon]

/-- STOP is 0 where EMBER may run. -/
theorem stop_of_emberMay {s : State} (h : s.emberMay = true) : s.fld FLT_EMBER_STOP = 0 := by
  have hlt := fld_lt s FLT_EMBER_STOP 0 0 0
  by_contra hne
  have hone : s.fld FLT_EMBER_STOP = 1 := by
    simp only [FLT_EMBER_STOP] at hlt hne ⊢
    omega
  exact absurd (emberMay_of_flag (by simp) hone) (by simp [h])

/-! ### EMBER after a change of what it depends on -/

/-- EMBER resumes: it runs, low, until the half-period after the present one (R687). -/
def resumeEmber (s : State) : State :=
  { s.setFld FLT_STATUS_EMBER_RUN 1 with flt := { s.flt with
    emberH := emberHalf (s.fld FLT_EMBER_FREQ_HZ), emberHold := none, emberNext := none
    emberWait := some (s.fld DEVICE_TIME_TIME / emberHalf (s.fld FLT_EMBER_FREQ_HZ)) } }

/-- EMBER's half-period follows FREQ_HZ at once and it waits for no edge, as it does while it does not run (R736). -/
def restEmber (s : State) : State :=
  { s with flt := { s.flt with
    emberH := emberHalf (s.fld FLT_EMBER_FREQ_HZ), emberNext := none, emberHold := none, emberWait := none } }

/-- EMBER stops low (R687). -/
def stopEmber (s : State) : State := setEmber false ((restEmber s).setFld FLT_STATUS_EMBER_RUN 0)

theorem emberCheck_running {s : State} (hmay : s.emberMay = true) (hrun : s.fld FLT_STATUS_EMBER_RUN = 1) : emberCheck s = s := by
  unfold emberCheck
  simp only [hmay, on_of_one hrun, if_true]

theorem emberCheck_resume {s : State} (hmay : s.emberMay = true) (hrun : s.fld FLT_STATUS_EMBER_RUN = 0) :
    emberCheck s = resumeEmber s := by
  unfold emberCheck
  simp only [hmay, on_of_zero hrun, if_true, Bool.false_eq_true, if_false]
  rfl

theorem emberCheck_stop {s : State} (hmay : s.emberMay = false) : emberCheck s = stopEmber s := by
  unfold emberCheck
  simp only [hmay, Bool.false_eq_true, if_false]
  rfl

/-- What the check can do. -/
theorem emberCheck_cases (s : State) : emberCheck s = s ∨ emberCheck s = resumeEmber s ∨ emberCheck s = stopEmber s := by
  have hlt := fld_lt s FLT_STATUS_EMBER_RUN 0 0 0
  cases hmay : s.emberMay with
  | false => exact .inr (.inr (emberCheck_stop hmay))
  | true =>
    by_cases hrun : s.fld FLT_STATUS_EMBER_RUN = 0
    · exact .inr (.inl (emberCheck_resume hmay hrun))
    · refine .inl (emberCheck_running hmay ?_)
      simp only [FLT_STATUS_EMBER_RUN] at hlt hrun ⊢
      omega

theorem resumeEmber_run (s : State) : (resumeEmber s).fld FLT_STATUS_EMBER_RUN = 1 := fld_setFld_of_lt s 0 (by decide) (by decide)

/-- A field outside EMBER_RUN is not touched by the resume. -/
theorem fld_resumeEmber (s : State) {g : Field} (hg1 : g.s1 = 0) (hg : g.off ≠ 0x200008 ∨ g.lo + g.w ≤ 4 ∨ 5 ≤ g.lo) :
    (resumeEmber s).fld g = s.fld g := fld_setFld_copy s FLT_STATUS_EMBER_RUN g _ 0 hg1 (by decide) hg

theorem stopEmber_level (s : State) : (stopEmber s).fld FLT_STATUS_EMBER = 0 := setEmber_level false _

theorem stopEmber_run (s : State) : (stopEmber s).fld FLT_STATUS_EMBER_RUN = 0 :=
  (fld_setEmber false _ rfl (by decide)).trans (fld_setFld_of_lt (restEmber s) 0 (by decide) (by decide))

theorem stopEmber_flt (s : State) : (stopEmber s).flt = (restEmber s).flt := setEmber_flt false _

/-- A field outside EMBER and EMBER_RUN is not touched by the check. -/
theorem fld_emberCheck (s : State) {g : Field} (hg1 : g.s1 = 0) (hg : g.off ≠ 0x200008 ∨ g.lo + g.w ≤ 3 ∨ 5 ≤ g.lo) :
    (emberCheck s).fld g = s.fld g := by
  rcases emberCheck_cases s with h | h | h <;> rw [h]
  · exact fld_resumeEmber s hg1 (by omega)
  · exact (fld_setEmber false _ hg1 (by omega)).trans (fld_setFld_copy (restEmber s) FLT_STATUS_EMBER_RUN g _ 0 hg1 (by decide)
      (by simp only [FLT_STATUS_EMBER_RUN]; omega))

theorem emberCheck_regsKeep (s : State) : regsKeep [FLT_STATUS_EMBER.off] s (emberCheck s) := by
  rcases emberCheck_cases s with h | h | h <;> rw [h]
  · exact regsKeep_refl _ s
  · exact regsKeep_setFld s FLT_STATUS_EMBER_RUN 1 0 0 0
  · exact regsKeep_trans (regsKeep_setFld (restEmber s) FLT_STATUS_EMBER_RUN 0 0 0 0) (setEmber_onlySends false _).2

/-- Of the collector's state the check changes EMBER's part alone. -/
theorem emberCheck_flt (s : State) : (emberCheck s).flt = { s.flt with
    emberH := (emberCheck s).flt.emberH, emberNext := (emberCheck s).flt.emberNext
    emberHold := (emberCheck s).flt.emberHold, emberWait := (emberCheck s).flt.emberWait } := by
  rcases emberCheck_cases s with h | h | h <;> rw [h]
  · rfl
  · rw [stopEmber_flt]
    rfl

/-! ### EMBER_EDGE (R686, R687, R736) -/

/-- The number of the half-period that the device time is in. -/
def State.emberCount (s : State) : Nat := s.fld DEVICE_TIME_TIME / s.flt.emberH

/-- The level of the present half-period is the one that EMBER has. -/
theorem ember_parity_iff (s : State) (n : Nat) :
    decide (n % 2 = 1) = s.on FLT_STATUS_EMBER ↔ s.fld FLT_STATUS_EMBER = n % 2 := by
  have hlt := fld_lt s FLT_STATUS_EMBER 0 0 0
  have hw : 2 ^ FLT_STATUS_EMBER.w = 2 := by decide
  rw [hw] at hlt
  rw [on_eq, decide_eq_decide]
  omega

/-- EMBER takes the level of the present half-period. -/
def emberTurn (s : State) : State :=
  setEmber (decide (s.emberCount % 2 = 1)) { s with flt := { s.flt with emberWait := none, emberHold := none } }

theorem emberTurn_level (s : State) : (emberTurn s).fld FLT_STATUS_EMBER = s.emberCount % 2 := by
  refine (setEmber_level _ _).trans ?_
  rcases Nat.mod_two_eq_zero_or_one s.emberCount with h | h <;> simp [h, bnat]

theorem emberTurn_flt (s : State) : (emberTurn s).flt = { s.flt with emberWait := none, emberHold := none } := setEmber_flt _ _

theorem emberTurn_run (s : State) : (emberTurn s).fld FLT_STATUS_EMBER_RUN = s.fld FLT_STATUS_EMBER_RUN :=
  fld_setEmber _ _ rfl (by decide)

theorem emberTurn_regsKeep (s : State) : regsKeep [FLT_STATUS_EMBER.off] s (emberTurn s) := (setEmber_onlySends _ _).2

/-- A frequency change takes effect at the edge just made (R736). -/
def emberRetune (H now : Nat) (s : State) : State :=
  { s with flt := { s.flt with emberH := H, emberNext := none, emberHold := some now } }

/-- EMBER's edge, and with it the frequency that waits for it (R736). -/
def emberEdged (s : State) : State :=
  s.flt.emberNext.elim (emberTurn s) (fun H => emberRetune H (s.fld DEVICE_TIME_TIME) (emberTurn s))

theorem emberEdged_some {s : State} {H : Nat} (h : s.flt.emberNext = some H) :
    emberEdged s = emberRetune H (s.fld DEVICE_TIME_TIME) (emberTurn s) := by
  unfold emberEdged
  rw [h]
  rfl

theorem emberEdged_none {s : State} (h : s.flt.emberNext = none) : emberEdged s = emberTurn s := by
  unfold emberEdged
  rw [h]
  rfl

theorem emberEdged_level (s : State) : (emberEdged s).fld FLT_STATUS_EMBER = s.emberCount % 2 := by
  unfold emberEdged
  cases s.flt.emberNext <;> exact emberTurn_level s

/-- The level of a frequency change's edge is still held (R736). -/
def State.emberHeld (s : State) : Prop := ∃ t0, s.flt.emberHold = some t0 ∧ s.fld DEVICE_TIME_TIME < t0 + s.flt.emberH

theorem emberHeld_iff (s : State) :
    s.flt.emberHold.any (fun t0 => decide (s.fld DEVICE_TIME_TIME < t0 + s.flt.emberH)) = true ↔ s.emberHeld := by
  simp [State.emberHeld, Option.any_eq_true]

theorem exec_emberEdge_stopped {s : State} (hmay : s.emberMay = false) : exec .emberEdge s = .next (stopEmber s) := by
  rw [exec_emberEdge]
  unfold execEmberEdge
  simp only [emberCheck_stop hmay, on_of_zero (stopEmber_run s), Bool.false_eq_true, not_false_eq_true, if_true]

theorem exec_emberEdge_resumed {s : State} (hmay : s.emberMay = true) (hrun : s.fld FLT_STATUS_EMBER_RUN = 0) :
    exec .emberEdge s = .next (resumeEmber s) := by
  have hwait : (resumeEmber s).flt.emberWait = some ((resumeEmber s).fld DEVICE_TIME_TIME / (resumeEmber s).flt.emberH) := by
    rw [fld_resumeEmber s rfl (by decide)]
    rfl
  rw [exec_emberEdge]
  unfold execEmberEdge
  simp only [emberCheck_resume hmay hrun, on_of_one (resumeEmber_run s), not_true_eq_false, if_false, hwait, true_or, or_true, if_true]

section
variable {s : State} (hmay : s.emberMay = true) (hrun : s.fld FLT_STATUS_EMBER_RUN = 1)
include hmay hrun

/-- No edge where the level is right, in the half-period of a resume, or while the level of a frequency change is held. -/
theorem exec_emberEdge_kept (h : s.fld FLT_STATUS_EMBER = s.emberCount % 2 ∨ s.flt.emberWait = some s.emberCount ∨ s.emberHeld) :
    exec .emberEdge s = .next s := by
  rw [← ember_parity_iff, ← emberHeld_iff] at h
  rw [exec_emberEdge]
  unfold execEmberEdge
  simp only [emberCheck_running hmay hrun, on_of_one hrun, not_true_eq_false, if_false]
  exact if_pos h

/-- Else the edge is made. -/
theorem exec_emberEdge_turn (hlevel : s.fld FLT_STATUS_EMBER ≠ s.emberCount % 2) (hwait : s.flt.emberWait ≠ some s.emberCount)
    (hheld : ¬ s.emberHeld) : exec .emberEdge s = .next (emberEdged s) := by
  have hnone : ¬ (decide (s.emberCount % 2 = 1) = s.on FLT_STATUS_EMBER ∨ s.flt.emberWait = some s.emberCount ∨
      s.flt.emberHold.any (fun t0 => decide (s.fld DEVICE_TIME_TIME < t0 + s.flt.emberH)) = true) := by
    rw [ember_parity_iff, emberHeld_iff]
    simp [hlevel, hwait, hheld]
  have hnext : (emberTurn s).flt.emberNext = s.flt.emberNext := by rw [emberTurn_flt]
  rw [exec_emberEdge]
  unfold execEmberEdge
  simp only [emberCheck_running hmay hrun, on_of_one hrun, not_true_eq_false, if_false]
  refine (if_neg hnone).trans ?_
  split
  · next H hH =>
    rw [emberEdged_some (hnext.symm.trans hH)]
    rfl
  · next hN =>
    rw [emberEdged_none (hnext.symm.trans hN)]
    rfl

end

end Sys2Proof.Machine
end

section
/-! SUPPORT. Writes that reach the low half of a register (R11): the fields they carry and the RW fields they store; and a write of
FLT_EMBER (R686 to R688, R736). -/

namespace Sys2Proof.Machine

/-! ### Writes of the low half -/

/-- A write that is not of the high half reaches the low half. -/
theorem mask_getLsbD_low {h : Half} (hh : h ≠ .high) {i : Nat} (hi : i < 32) : h.mask.getLsbD i = true := by
  have hlow : Half.low.mask = fieldMask 0 32 := by decide
  have hfull : Half.full.mask = fieldMask 0 64 := by decide
  cases h with
  | high => exact absurd rfl hh
  | low => rw [hlow, fieldMask_getLsbD]; simp; omega
  | full => rw [hfull, fieldMask_getLsbD]; simp; omega

/-- What a write of the low half alone, or of the high half alone, does not reach. -/
theorem mask_low_getLsbD_high {i : Nat} (hi : 32 ≤ i) : Half.low.mask.getLsbD i = false := by
  have hlow : Half.low.mask = fieldMask 0 32 := by decide
  rw [hlow, fieldMask_getLsbD]
  simp; omega

theorem mask_high_getLsbD_low {i : Nat} (hi : i < 32) : Half.high.mask.getLsbD i = false := by
  have hhigh : Half.high.mask = fieldMask 32 32 := by decide
  rw [hhigh, fieldMask_getLsbD]
  simp; omega

theorem mask_full_getLsbD {i : Nat} (hi : i < 64) : Half.full.mask.getLsbD i = true := by
  have hfull : Half.full.mask = fieldMask 0 64 := by decide
  rw [hfull, fieldMask_getLsbD]
  simp; omega

/-- A field that a mask covers is not changed by it. -/
theorem bits_and_mask {data mask : Word} {lo w : Nat} (h : ∀ i, lo ≤ i → i < lo + w → mask.getLsbD i = true) :
    bits (data &&& mask) lo w = bits data lo w := by
  apply Nat.eq_of_testBit_eq
  intro i
  rw [bits_testBit, bits_testBit, BitVec.getLsbD_and]
  by_cases hi : i < w
  · rw [h (lo + i) (by omega) (by omega), Bool.and_true]
  · simp [hi]

/-- A field of the low half in the data of a write that reaches it. -/
theorem wfield_low {h : Half} (hh : h ≠ .high) (data : Word) {f : Field} (hf : f.lo + f.w ≤ 32) (hw : 0 < f.w) :
    wfield h data f = some (bits data f.lo f.w) := by
  have hreach : h.reaches f.lo = true := mask_getLsbD_low hh (by omega)
  unfold wfield
  rw [hreach, bits_and_mask fun i _ hi => mask_getLsbD_low hh (by omega)]
  simp

theorem wbit_low {h : Half} (hh : h ≠ .high) (data : Word) {f : Field} (hf : f.lo < 32) : wbit h data f = bit data f.lo := by
  unfold wbit bit
  rw [BitVec.getLsbD_and, mask_getLsbD_low hh hf, Bool.and_true]

theorem wbit_high (data : Word) {f : Field} (hf : f.lo < 32) : wbit .high data f = false := by
  unfold wbit bit
  rw [BitVec.getLsbD_and, mask_high_getLsbD_low hf, Bool.and_false]

/-! ### RW fields (R7) -/

/-- Bit `i` of a register after a write of an RW field. -/
theorem writeField_rw_getLsbD (data mask v : Word) (b : Bool) (lo w i : Nat) :
    (writeField data mask b ⟨lo, w, .rw⟩ v).getLsbD i =
      if (fieldMask lo w).getLsbD i && mask.getLsbD i then data.getLsbD i else v.getLsbD i := by
  by_cases hi : i < 64
  · simp only [writeField, BitVec.getLsbD_or, BitVec.getLsbD_and, BitVec.getLsbD_not, hi, decide_true, Bool.true_and]
    cases (fieldMask lo w).getLsbD i && mask.getLsbD i <;> simp
  · rw [BitVec.getLsbD_of_ge _ _ (by omega), BitVec.getLsbD_of_ge data _ (by omega), BitVec.getLsbD_of_ge v _ (by omega)]
    simp

/-- An RW field that a write reaches takes its value. -/
theorem bits_writeField_reached {data mask : Word} {lo w : Nat} (v : Word) (b : Bool) (hw : lo + w ≤ 64)
    (h : ∀ i, lo ≤ i → i < lo + w → mask.getLsbD i = true) :
    bits (writeField data mask b ⟨lo, w, .rw⟩ v) lo w = bits data lo w := by
  apply Nat.eq_of_testBit_eq
  intro i
  rw [bits_testBit, bits_testBit, writeField_rw_getLsbD, fieldMask_getLsbD]
  by_cases hi : i < w
  · have hin : lo + i < 64 := by omega
    rw [h (lo + i) (by omega) (by omega)]
    simp [hi, hin]
  · simp [hi]

/-- An RW field that a write does not reach stays. -/
theorem bits_writeField_masked {data mask : Word} {lo w : Nat} (v : Word) (b : Bool)
    (h : ∀ i, lo ≤ i → i < lo + w → mask.getLsbD i = false) : bits (writeField data mask b ⟨lo, w, .rw⟩ v) lo w = bits v lo w := by
  apply Nat.eq_of_testBit_eq
  intro i
  rw [bits_testBit, bits_testBit, writeField_rw_getLsbD]
  by_cases hi : i < w
  · rw [h (lo + i) (by omega) (by omega)]
    simp
  · simp [hi]

/-- A field apart from a written RW field stays. -/
theorem bits_writeField_apart (data mask v : Word) (b : Bool) {lo w lo' w' : Nat} (hd : lo' + w' ≤ lo ∨ lo + w ≤ lo') :
    bits (writeField data mask b ⟨lo, w, .rw⟩ v) lo' w' = bits v lo' w' := by
  apply Nat.eq_of_testBit_eq
  intro i
  rw [bits_testBit, bits_testBit, writeField_rw_getLsbD, fieldMask_getLsbD]
  by_cases hi : i < w'
  · have hout : ¬ (lo ≤ lo' + i ∧ lo' + i < lo + w) := by omega
    rcases Decidable.not_and_iff_or_not.mp hout with h | h <;> simp [h]
  · simp [hi]

/-- A field of one bit is that bit. -/
theorem bits_one_eq_bnat (v : Word) (i : Nat) : bits v i 1 = bnat (bit v i) := by
  have hlt := bits_lt v i 1
  cases h : bit v i with
  | true => exact bits_eq_one_of_bit h
  | false =>
    have htest : (bits v i 1).testBit 0 = false := by
      rw [bits_testBit]
      simpa [bit] using h
    rw [Nat.testBit_zero, decide_eq_false_iff_not] at htest
    simp only [bnat, Bool.false_eq_true, if_false]
    omega

/-- The frame of a write by field types: the register written. -/
theorem plainWrite_onlyRegs (fs : List FieldSpec) (key : Nat) (locked : Nat → Bool) (h : Half) (data : Word) (s : State) :
    onlyRegs [key] s (plainWrite fs key locked h data s) := ⟨rfl, regsKeep_setReg s _ _⟩

/-! ### EMBER_FREQ_WRITE (R736) -/

/-- The state with FLT_EMBER written and its frequency waiting for the next edge, before EMBER is checked. -/
def storeEmber (h : Half) (data : Word) (s : State) : State :=
  { plainWrite (regInfo .FLT_EMBER).fields FLT_EMBER_FREQ_HZ.off (fun _ => false) h data s with
    flt := { s.flt with emberNext := some (emberHalf (bits data 0 14)) } }

/-- FREQ_HZ or HB_TIMEOUT of a write is out of its range (R690). -/
def emberOutOfRange (data : Word) : Prop := bits data 0 14 < 250 ∨ 16000 < bits data 0 14 ∨ bits data 16 16 < 200

/-- A write of FLT_EMBER that passes has its effect. -/
theorem exec_emberFreqWrite_admits {m : Ident} {s : State} (hadm : s.admits m .FLT_EMBER []) (h : Half) (data : Word) :
    exec (.emberFreqWrite m h data) s = .next (emberEffect h data (renewLease m s)) := by
  rw [exec_emberFreqWrite]
  exact congrArg Host.Outcome.next (regWrite_admits hadm h _)

theorem emberEffect_eq {h : Half} (hh : h ≠ .high) (data : Word) (s : State) :
    emberEffect h data s = if bits data 0 14 < 250 ∨ 16000 < bits data 0 14 ∨ bits data 16 16 < 200 then s
      else emberCheck (storeEmber h data s) := by
  have hhz : wfield h data FLT_EMBER_FREQ_HZ = some (bits data 0 14) := wfield_low hh data (by decide) (by decide)
  have hhb : wfield h data FLT_EMBER_HB_TIMEOUT = some (bits data 16 16) := wfield_low hh data (by decide) (by decide)
  unfold emberEffect
  simp only [hhz, hhb, Option.any_some, decide_eq_true_eq, or_assoc]
  rfl

theorem emberEffect_ignored {h : Half} (hh : h ≠ .high) {data : Word} (hout : emberOutOfRange data) (s : State) :
    emberEffect h data s = s := by
  rw [emberEffect_eq hh]
  exact if_pos hout

theorem emberEffect_stored {h : Half} (hh : h ≠ .high) {data : Word} (hin : ¬ emberOutOfRange data) (s : State) :
    emberEffect h data s = emberCheck (storeEmber h data s) := by
  rw [emberEffect_eq hh]
  exact if_neg hin

/-- FLT_EMBER after a write: its three RW fields, each by what the write reaches. -/
theorem storeEmber_reg (h : Half) (data : Word) (s : State) : (storeEmber h data s).reg FLT_EMBER_FREQ_HZ.off =
    writeField data h.mask false ⟨32, 1, .rw⟩ (writeField data h.mask false ⟨16, 16, .rw⟩
      (writeField data h.mask false ⟨0, 14, .rw⟩ (s.reg FLT_EMBER_FREQ_HZ.off))) := reg_setReg_same s _ _

theorem storeEmber_regsKeep (h : Half) (data : Word) (s : State) : regsKeep [FLT_EMBER_FREQ_HZ.off] s (storeEmber h data s) :=
  regsKeep_setReg s _ _

/-- A field outside FLT_EMBER is not touched by the write. -/
theorem fld_storeEmber (h : Half) (data : Word) (s : State) {g : Field} (hg1 : g.s1 = 0) (hg : g.off ≠ 0x200010) :
    (storeEmber h data s).fld g = s.fld g := by
  refine fld_congr g 0 0 0 (storeEmber_regsKeep h data s _ ?_)
  simpa [Field.key, hg1, FLT_EMBER_FREQ_HZ] using hg

theorem storeEmber_freq {h : Half} (hh : h ≠ .high) (data : Word) (s : State) :
    (storeEmber h data s).fld FLT_EMBER_FREQ_HZ = bits data 0 14 := by
  change bits ((storeEmber h data s).reg FLT_EMBER_FREQ_HZ.off) 0 14 = _
  rw [storeEmber_reg, bits_writeField_apart _ _ _ _ (by decide), bits_writeField_apart _ _ _ _ (by decide)]
  exact bits_writeField_reached _ _ (by decide) fun i _ hi => mask_getLsbD_low hh (by omega)

theorem storeEmber_timeout {h : Half} (hh : h ≠ .high) (data : Word) (s : State) :
    (storeEmber h data s).fld FLT_EMBER_HB_TIMEOUT = bits data 16 16 := by
  change bits ((storeEmber h data s).reg FLT_EMBER_FREQ_HZ.off) 16 16 = _
  rw [storeEmber_reg, bits_writeField_apart _ _ _ _ (by decide)]
  exact bits_writeField_reached _ _ (by decide) fun i _ hi => mask_getLsbD_low hh (by omega)

/-- A 64-bit write stores STOP. -/
theorem storeEmber_stop_full (data : Word) (s : State) : (storeEmber .full data s).fld FLT_EMBER_STOP = bnat (bit data 32) := by
  change bits ((storeEmber .full data s).reg FLT_EMBER_FREQ_HZ.off) 32 1 = _
  rw [storeEmber_reg, bits_writeField_reached _ _ (by decide) fun i _ hi => mask_full_getLsbD (by omega), bits_one_eq_bnat]

/-- A write of the low half leaves STOP alone. -/
theorem storeEmber_stop_low (data : Word) (s : State) : (storeEmber .low data s).fld FLT_EMBER_STOP = s.fld FLT_EMBER_STOP := by
  change bits ((storeEmber .low data s).reg FLT_EMBER_FREQ_HZ.off) 32 1 = _
  rw [storeEmber_reg, bits_writeField_masked _ _ fun i hlo _ => mask_low_getLsbD_high hlo, bits_writeField_apart _ _ _ _ (by decide),
    bits_writeField_apart _ _ _ _ (by decide)]
  rfl

/-- EMBER may go on running after a write that leaves STOP at 0. -/
theorem storeEmber_emberMay {h : Half} {data : Word} {s : State} (hmay : s.emberMay = true) (hh : h ≠ .high)
    (hstop : h = .low ∨ bit data 32 = false) : (storeEmber h data s).emberMay = true := by
  have hzero : (storeEmber h data s).fld FLT_EMBER_STOP = s.fld FLT_EMBER_STOP := by
    cases h with
    | high => exact absurd rfl hh
    | low => exact storeEmber_stop_low data s
    | full =>
      have hbit : bit data 32 = false := by simpa using hstop
      rw [storeEmber_stop_full, stop_of_emberMay hmay, hbit]
      rfl
  refine (emberMay_congr (s := s) (t := storeEmber h data s) rfl ?_ ?_ ?_ hzero ?_).trans hmay <;>
    exact fld_storeEmber h data s rfl (by decide)

/-- While EMBER does not run, the half-period is that of FREQ_HZ after every check (R736). -/
theorem emberCheck_half_of_rest {s : State} (hrun : s.fld FLT_STATUS_EMBER_RUN = 0) :
    (emberCheck s).flt.emberH = emberHalf (s.fld FLT_EMBER_FREQ_HZ) := by
  cases hmay : s.emberMay with
  | true => rw [emberCheck_resume hmay hrun]; rfl
  | false => rw [emberCheck_stop hmay, stopEmber_flt]; rfl

/-- The lease is none of EMBER's conditions. -/
theorem emberMay_renewLease (m : Ident) (s : State) : (renewLease m s).emberMay = s.emberMay := by
  refine emberMay_congr (by rw [renewLease_rest]) ?_ ?_ ?_ ?_ ?_ <;> exact fld_renewLease m s _ 0 0 0 (key_ne_leaseKey (by decide) _ _ _)

end Sys2Proof.Machine
end

section
/-! SUPPORT. The journal (R676 to R678): an entry written, the scan for the highest JSEQ and BOOT, and the entries read back. -/

namespace Sys2Proof.Machine

/-! ### Words of the non-volatile array -/

/-- The hearth controller's turn comes at once where nothing waits (R337). -/
theorem nvaTurn_idle {s : State} (h : s.nva.waiting = []) : nvaTurn s = s := by
  unfold nvaTurn
  rw [h]
  rfl

/-- Words are written one after another behind `base`. -/
def nvaStoreAll (base : Nat) (l : List (Nat × Word)) (s : State) : State := l.foldl (fun s x => nvaStore (base + x.1) x.2 s) s

theorem nvaStore_pword (a : Nat) (d : Word) (s : State) (k : Nat) :
    (nvaStore a d s).pword k = if k = nvaKey a then PWord.clean d else s.pword k := by
  split
  · next h =>
    rw [h]
    exact pword_setPword_same s (nvaKey a) (PWord.clean d)
  · next h => exact pword_setPword_other s (PWord.clean d) h

theorem nvaStore_regsKeep (a : Nat) (d : Word) (s : State) : regsKeep [NVA_WRITES_COUNT.off] s (nvaStore a d s) :=
  regsKeep_setFld (s.writeP (nvaKey a) d) NVA_WRITES_COUNT _ 0 0 0

theorem nvaStoreAll_regsKeep (base : Nat) (l : List (Nat × Word)) (s : State) :
    regsKeep [NVA_WRITES_COUNT.off] s (nvaStoreAll base l s) := by
  induction l generalizing s with
  | nil => exact regsKeep_refl _ s
  | cons x r ih => exact regsKeep_trans (nvaStore_regsKeep (base + x.1) x.2 s) (ih _)

/-- A word that is none of those written stays. -/
theorem nvaStoreAll_other {base k : Nat} {l : List (Nat × Word)} (h : ∀ x ∈ l, k ≠ nvaKey (base + x.1)) (s : State) :
    (nvaStoreAll base l s).pword k = s.pword k := by
  induction l generalizing s with
  | nil => rfl
  | cons x r ih =>
    refine (ih (fun y hy => h y (List.mem_cons_of_mem x hy)) _).trans ?_
    rw [nvaStore_pword, if_neg (h x List.mem_cons_self)]

/-- Each word written at a place of its own reads as it was written. -/
theorem nvaStoreAll_written {base : Nat} {l : List (Nat × Word)} (hl : (l.map Prod.fst).Nodup) {x : Nat × Word} (hx : x ∈ l)
    (s : State) : (nvaStoreAll base l s).pword (nvaKey (base + x.1)) = PWord.clean x.2 := by
  induction l generalizing s with
  | nil => exact absurd hx List.not_mem_nil
  | cons y r ih =>
    obtain ⟨hy, hr⟩ := List.nodup_cons.mp hl
    rcases List.mem_cons.mp hx with rfl | hmem
    · change (nvaStoreAll base r (nvaStore (base + x.1) x.2 s)).pword _ = _
      refine (nvaStoreAll_other (fun z hz hkey => hy ?_) _).trans ?_
      · have hplace : x.1 = z.1 := by
          simp only [nvaKey, memKey] at hkey
          omega
        rw [hplace]
        exact List.mem_map_of_mem hz
      · rw [nvaStore_pword, if_pos rfl]
    · exact ih hr hmem _

/-! ### JOURNAL_WRITE (R676, R677) -/

/-- The four words of entry `q` and their places behind its first. -/
def journalPlaces (q boot : Nat) (e : Word × Word) : List (Nat × Word) := (List.range 4).zip (journalWords q boot e.1 e.2)

theorem journalPlaces_fst (q boot : Nat) (e : Word × Word) : (journalPlaces q boot e).map Prod.fst = [0, 1, 2, 3] := rfl

/-- The registers and the queue after entry `q` has been journalled and `r` waits. -/
def journalNote (q : Nat) (r : List (Word × Word)) (s : State) : State :=
  setJournal r ((s.setFld FLT_JSEQ_JSEQ q).addFld FLT_JOURNAL_WRITTEN 1)

theorem journalNote_jseq (q : Nat) (r : List (Word × Word)) (s : State) :
    (journalNote q r s).fld FLT_JSEQ_JSEQ = q % 2 ^ 64 := by
  refine (fld_setFld_copy _ FLT_JOURNAL_QUEUED FLT_JSEQ_JSEQ _ 0 rfl (by decide) (by decide)).trans ?_
  refine (fld_setFld_copy _ FLT_JOURNAL_WRITTEN FLT_JSEQ_JSEQ _ 0 rfl (by decide) (by decide)).trans ?_
  exact fld_setFld_same s FLT_JSEQ_JSEQ q 0 0 0 (by unfold Field.good; decide)

theorem journalNote_written (q : Nat) (r : List (Word × Word)) (s : State) :
    (journalNote q r s).fld FLT_JOURNAL_WRITTEN = (s.fld FLT_JOURNAL_WRITTEN + 1) % 2 ^ 32 := by
  refine (fld_setFld_copy _ FLT_JOURNAL_QUEUED FLT_JOURNAL_WRITTEN _ 0 rfl (by decide) (by decide)).trans ?_
  refine (fld_setFld_same _ FLT_JOURNAL_WRITTEN _ 0 0 0 (by unfold Field.good; decide)).trans ?_
  rw [fld_setFld_copy s FLT_JSEQ_JSEQ FLT_JOURNAL_WRITTEN _ 0 rfl (by decide) (by decide)]
  rfl

theorem journalNote_pword (q : Nat) (r : List (Word × Word)) (s : State) (k : Nat) : (journalNote q r s).pword k = s.pword k := rfl

theorem journalNote_regsKeep (q : Nat) (r : List (Word × Word)) (s : State) :
    regsKeep [FLT_JSEQ_JSEQ.off, FLT_JOURNAL_WRITTEN.off] s (journalNote q r s) := by
  refine regsKeep_after_setFld FLT_JOURNAL_QUEUED _ _ _ _ (regsKeep_after_setFld FLT_JOURNAL_WRITTEN _ _ _ _
    (regsKeep_mono ?_ (regsKeep_setFld s FLT_JSEQ_JSEQ q 0 0 0)) ?_) ?_ <;> decide

/-- The oldest waiting entry is written once the scan is done. -/
theorem exec_journalWrite_entry {e : Word × Word} {r : List (Word × Word)} {b : Nat} {s : State} (hq : s.flt.journalQueue = e :: r)
    (hb : s.flt.boot = some b) (hopen : s.gateOpen 8 = true) (hidle : s.nva.waiting = []) :
    exec .journalWrite s = .next (journalNote (s.fld FLT_JSEQ_JSEQ + 1) r
      (nvaStoreAll (journalAddr (s.fld FLT_JSEQ_JSEQ + 1)) (journalPlaces (s.fld FLT_JSEQ_JSEQ + 1) b e) s)) := by
  rw [exec_journalWrite]
  unfold execJournalWrite
  simp only [hq, hb, hopen, not_true_eq_false, if_false, nvaTurn_idle hidle]
  rfl

theorem exec_journalWrite_nothing {s : State} (h : s.flt.journalQueue = [] ∨ s.flt.boot = none ∨ s.gateOpen 8 = false) :
    exec .journalWrite s = .next s := by
  rw [exec_journalWrite]
  unfold execJournalWrite
  split
  · next e r b hq hb =>
    have hclosed : s.gateOpen 8 = false := by
      rcases h with h | h | h
      · exact absurd (hq.symm.trans h) (List.cons_ne_nil e r)
      · exact absurd (hb.symm.trans h) (Option.some_ne_none b)
      · exact h
    simp [hclosed]
  · rfl

/-! ### JOURNAL_SCAN (R677) -/

theorem journalTop_succ (s : State) (n : Nat) : journalTop s (n + 1) = (journalPlace s n).elim (journalTop s n)
    (fun x => (max (journalTop s n).1 x.1, max (journalTop s n).2 x.2)) := by
  rw [journalTop]
  cases journalPlace s n <;> rfl

/-- No place below `n` holds a higher JSEQ or a higher BOOT. -/
theorem journalTop_max {s : State} {n i j b : Nat} (hi : i < n) (h : journalPlace s i = some (j, b)) :
    j ≤ (journalTop s n).1 ∧ b ≤ (journalTop s n).2 := by
  induction n with
  | zero => exact absurd hi (Nat.not_lt_zero i)
  | succ n ih =>
    rw [journalTop_succ]
    rcases Nat.lt_succ_iff_lt_or_eq.mp hi with hlt | rfl
    · obtain ⟨hj, hb⟩ := ih hlt
      cases journalPlace s n with
      | none => exact ⟨hj, hb⟩
      | some x => exact ⟨le_max_of_le_left hj, le_max_of_le_left hb⟩
    · rw [h]
      exact ⟨le_max_right _ _, le_max_right _ _⟩

/-- Without a valid place both are 0. -/
theorem journalTop_empty {s : State} {n : Nat} (h : ∀ i, i < n → journalPlace s i = none) : journalTop s n = (0, 0) := by
  induction n with
  | zero => rfl
  | succ n ih =>
    rw [journalTop_succ, h n (Nat.lt_succ_self n)]
    exact ih fun i hi => h i (Nat.lt_succ_of_lt hi)

/-- Each of the two is a valid place's, unless no place below `n` is valid. -/
theorem journalTop_attained (s : State) (n : Nat) : (∀ i, i < n → journalPlace s i = none) ∨
    ((∃ i b, i < n ∧ journalPlace s i = some ((journalTop s n).1, b)) ∧
      (∃ i j, i < n ∧ journalPlace s i = some (j, (journalTop s n).2))) := by
  induction n with
  | zero => exact .inl fun i hi => absurd hi (Nat.not_lt_zero i)
  | succ n ih =>
    rw [journalTop_succ]
    cases h : journalPlace s n with
    | none =>
      refine ih.imp (fun hnone i hi => ?_) (fun ⟨⟨i, b, hi, hj⟩, ⟨i', j, hi', hb⟩⟩ =>
        ⟨⟨i, b, Nat.lt_succ_of_lt hi, hj⟩, ⟨i', j, Nat.lt_succ_of_lt hi', hb⟩⟩)
      rcases Nat.lt_succ_iff_lt_or_eq.mp hi with hlt | rfl
      · exact hnone i hlt
      · exact h
    | some x =>
      have hself : n < n + 1 := Nat.lt_succ_self n
      refine .inr ?_
      rcases ih with hnone | ⟨⟨i, b, hi, hj⟩, ⟨i', j, hi', hb⟩⟩
      · rw [journalTop_empty hnone]
        exact ⟨⟨n, x.2, hself, by simpa using h⟩, ⟨n, x.1, hself, by simpa using h⟩⟩
      · constructor
        · rcases le_total (journalTop s n).1 x.1 with hle | hle
          · exact ⟨n, x.2, hself, by simpa [hle] using h⟩
          · exact ⟨i, b, Nat.lt_succ_of_lt hi, by simpa [hle] using hj⟩
        · rcases le_total (journalTop s n).2 x.2 with hle | hle
          · exact ⟨n, x.1, hself, by simpa [hle] using h⟩
          · exact ⟨i', j, Nat.lt_succ_of_lt hi', by simpa [hle] using hb⟩

/-- A JSEQ fits its register. -/
theorem journalPlace_lt {s : State} {i j b : Nat} (h : journalPlace s i = some (j, b)) : j < 2 ^ 64 := by
  unfold journalPlace at h
  split at h
  · split at h
    · simp only [Option.some.injEq, Prod.mk.injEq] at h
      exact h.1 ▸ BitVec.isLt _
    · exact absurd h (by simp)
  · exact absurd h (by simp)

theorem journalTop_lt (s : State) (n : Nat) : (journalTop s n).1 < 2 ^ 64 := by
  rcases journalTop_attained s n with hnone | ⟨⟨i, b, -, hj⟩, -⟩
  · rw [journalTop_empty hnone]
    exact Nat.two_pow_pos 64
  · exact journalPlace_lt hj

/-- The state after a scan that found `top` and the highest BOOT `b`. -/
def journalScanned (top b : Nat) (s : State) : State :=
  { s.setFld FLT_JSEQ_JSEQ top with flt := { s.flt with boot := some (b + 1) } }

theorem exec_journalScan_first {s : State} (hup : s.pwr.phase = .up) (hb : s.flt.boot = none) :
    exec .journalScan s = .next (journalScanned (journalTop s 16384).1 (journalTop s 16384).2 s) := by
  rw [exec_journalScan]
  unfold execJournalScan
  rw [if_neg (by simp [hup, hb])]
  rfl

theorem exec_journalScan_nothing {s : State} (h : s.pwr.phase ≠ .up ∨ s.flt.boot.isSome = true) :
    exec .journalScan s = .next s := by
  rw [exec_journalScan]
  exact if_pos h

/-! ### JOURNAL_READ (R678) -/

/-- A word of the journal lies in no reserved range (R339). -/
theorem nvaReserved_journal (q : Nat) {k : Nat} (hk : k < 4) : nvaReserved (journalAddr q + k) = false := by
  unfold nvaReserved journalAddr
  rw [decide_eq_false_iff_not]
  omega

theorem nvaRead_clean {a : Nat} {d : Word} {s : State} (hr : nvaReserved a = false) (h : (s.pword (nvaKey a)).decode = .clean d) :
    nvaRead a s = (some d, s) := by
  unfold nvaRead
  simp only [hr, h, Bool.false_eq_true, if_false]

theorem nvaRead_bad {a : Nat} {s : State} (hr : nvaReserved a = false) (h : (s.pword (nvaKey a)).decode = .bad) :
    (nvaRead a s).1 = none := by
  unfold nvaRead
  simp only [hr, h, Bool.false_eq_true, if_false]

/-- A raise of a recorded source changes no stored word. -/
theorem raise_mem {src : Nat} {r : SourceRange} (hr : sourceRange src = some r) (hn : r.notify = false) (hs : src < 0x1000)
    (info : Nat) (s : State) : (raise src info s).mem = s.mem := by
  obtain ⟨hrest, -⟩ := raiseFrom_onlySends hr hn hs none info s
  unfold raise
  rw [hrest]
  rfl

/-- A read changes no stored word. -/
theorem nvaRead_mem (a : Nat) (s : State) : (nvaRead a s).2.mem = s.mem := by
  have hsource : sourceRange 0x3C8 = some ⟨0x3C0, 0x3C8, 1, false, false⟩ := by decide
  unfold nvaRead
  split
  · rfl
  · split
    · rfl
    · rfl
    · exact raise_mem hsource rfl (by decide) a _

/-- The word addresses of some entries. -/
def journalAddrs (qs : List Nat) : List Nat := qs.flatMap (fun q => (List.range 4).map (fun k => journalAddr q + k))

theorem journalAddrs_cons (q : Nat) (qs : List Nat) : journalAddrs (q :: qs) =
    (journalAddr q + 0) :: (journalAddr q + 1) :: (journalAddr q + 2) :: (journalAddr q + 3) :: journalAddrs qs := rfl

theorem mem_journalAddrs {a : Nat} {qs : List Nat} : a ∈ journalAddrs qs ↔ ∃ q ∈ qs, ∃ k < 4, journalAddr q + k = a := by
  simp [journalAddrs]

theorem nvaReadMany_cons_clean {a : Nat} {as : List Nat} {w : Word} {ws : List Word} {s : State} (h : nvaRead a s = (some w, s))
    (h' : nvaReadMany as s = (some ws, s)) : nvaReadMany (a :: as) s = (some (w :: ws), s) := by
  unfold nvaReadMany
  simp only [h, h']

/-- Entries whose words all decode as stored are read back word by word. -/
theorem nvaReadMany_journal {s : State} : ∀ {qs : List Nat} {ws : List Word}, ws.length = 4 * qs.length →
    (∀ j k q w, k < 4 → qs[j]? = some q → ws[4 * j + k]? = some w → (s.pword (nvaKey (journalAddr q + k))).decode = .clean w) →
    nvaReadMany (journalAddrs qs) s = (some ws, s)
  | [], ws, hlen, _ => by
    rw [List.length_eq_zero_iff.mp hlen]
    rfl
  | q :: qs, w0 :: w1 :: w2 :: w3 :: ws, hlen, h => by
    have hword := fun (k : Nat) (w : Word) (hk : k < 4) (hw : (w0 :: w1 :: w2 :: w3 :: ws)[k]? = some w) =>
      nvaRead_clean (nvaReserved_journal q hk) (h 0 k q w hk rfl (by simpa using hw))
    have htail : nvaReadMany (journalAddrs qs) s = (some ws, s) := by
      refine nvaReadMany_journal (by simp only [List.length_cons] at hlen; omega) fun j k q' w hk hq hw => ?_
      refine h (j + 1) k q' w hk (by simpa using hq) ?_
      rw [show 4 * (j + 1) + k = 4 * j + k + 1 + 1 + 1 + 1 by omega]
      simpa using hw
    rw [journalAddrs_cons]
    exact nvaReadMany_cons_clean (hword 0 w0 (by decide) rfl) (nvaReadMany_cons_clean (hword 1 w1 (by decide) rfl)
      (nvaReadMany_cons_clean (hword 2 w2 (by decide) rfl) (nvaReadMany_cons_clean (hword 3 w3 (by decide) rfl) htail)))
  | _ :: _, [], hlen, _ => by simp at hlen
  | _ :: _, [_], hlen, _ => by simp only [List.length_cons, List.length_nil] at hlen; omega
  | _ :: _, [_, _], hlen, _ => by simp only [List.length_cons, List.length_nil] at hlen; omega
  | _ :: _, [_, _, _], hlen, _ => by simp only [List.length_cons, List.length_nil] at hlen; omega

/-- The run of reads stops at an uncorrectable word. -/
theorem nvaReadMany_bad {as : List Nat} {a : Nat} (ha : a ∈ as) (hr : nvaReserved a = false) : ∀ {s : State},
    (s.pword (nvaKey a)).decode = .bad → ∃ u, nvaReadMany as s = (none, u) ∧ u.mem = s.mem := by
  induction as with
  | nil => exact absurd ha List.not_mem_nil
  | cons b r ih =>
    intro s hbad
    have hmem := nvaRead_mem b s
    unfold nvaReadMany
    split
    · next u hread => exact ⟨u, rfl, by rw [← hmem, hread]⟩
    · next v u hread =>
      rw [hread] at hmem
      have hin : a ∈ r := by
        rcases List.mem_cons.mp ha with rfl | hin
        · have hnone := nvaRead_bad hr hbad
          rw [hread] at hnone
          exact absurd hnone (Option.some_ne_none v)
        · exact hin
      have hbad' : (u.pword (nvaKey a)).decode = .bad := by
        unfold State.pword at hbad ⊢
        rwa [hmem]
      obtain ⟨t, hmany, hsame⟩ := ih hin hbad'
      exact ⟨t, by simp only [hmany], hsame.trans hmem⟩

/-- The entries that a JOURNAL_READ asks for, of those still held when the highest JSEQ is `top`. -/
def journalWanted (p : Packet) (top : Nat) : List Nat :=
  ((List.range (bits (p.w 2) 0 2)).map (fun i => max (p.w 1).toNat (max 1 (top - 16383)) + i)).filter (fun q => decide (q ≤ top))

/-- A packet that passes the checks of R587 has the opcode of its row. -/
theorem opcode_of_packetCheck {opcode need : Nat} {rule : IssuerRule} {p : Packet} {s : State}
    (h : packetCheck opcode need rule p s = none) : p.opcode = opcode := by
  by_contra hne
  unfold packetCheck at h
  rw [if_pos hne] at h
  split at h <;> exact absurd h (Option.some_ne_none _)

/-- A packet that any master may issue, and that starts and passes, has its command's work done. -/
theorem runCommand_accepts {opcode need : Nat} {p : Packet} {s : State} (h : s.accepts opcode need .any p) (work : State → State) :
    runCommand opcode need .any p work s = work (beginCommand p s) := by
  obtain ⟨hdark, hroom, hturn, hcheck⟩ := h
  have hcheck' : packetCheck opcode need .any p (beginCommand p s) = none := by
    have hany : ∀ t u, packetCheck opcode need .any p t = packetCheck opcode need .any p u := fun t u => by simp [packetCheck]
    rw [hany _ s, hcheck]
  have hopcode := opcode_of_packetCheck hcheck
  unfold runCommand
  rw [if_neg (by simp [hdark, hturn, hopcode]; omega)]
  simp only [hcheck']

/-- The start of a command leaves the journal's registers and words alone. -/
theorem beginCommand_jseq (p : Packet) (s : State) : (beginCommand p s).fld FLT_JSEQ_JSEQ = s.fld FLT_JSEQ_JSEQ := by
  have hclass : identClass p.issuer < 2 ^ 4 := bits_lt _ _ _
  refine fld_congr _ _ _ _ (beginCommand_regsKeep p s _ ?_)
  simp only [startKeys, Field.key, FLT_JSEQ_JSEQ, HC_QUEUEc_LEVEL, HC_STATUS_EXECUTING, HC_SUBMIT_STATUS_RESERVED, queueOf, slotSpan,
    List.mem_cons, List.not_mem_nil, or_false]
  omega

theorem beginCommand_mem (p : Packet) (s : State) : (beginCommand p s).mem = s.mem := by rw [beginCommand_rest]

theorem beginCommand_pword (p : Packet) (s : State) (k : Nat) : (beginCommand p s).pword k = s.pword k := by
  unfold State.pword
  rw [beginCommand_mem]

section
variable {p : Packet} {s : State} (hacc : s.accepts 0x0F02 2 .any p)
include hacc

theorem exec_journalRead_zero (hn : bits (p.w 2) 0 2 = 0) :
    exec (.journalRead p) s = .next (endCommand p .invalid [] (beginCommand p s)) := by
  rw [exec_journalRead]
  unfold execJournalRead
  rw [runCommand_accepts hacc, if_pos hn]

variable (hidle : s.nva.waiting = []) (hn : bits (p.w 2) 0 2 ≠ 0)
include hidle hn

theorem exec_journalRead_found {ws : List Word} {u : State}
    (hread : nvaReadMany (journalAddrs (journalWanted p (s.fld FLT_JSEQ_JSEQ))) (beginCommand p s) = (some ws, u)) :
    exec (.journalRead p) s = .next (endCommand p .ok (BitVec.ofNat 64 (s.fld FLT_JSEQ_JSEQ) ::
      BitVec.ofNat 64 (journalWanted p (s.fld FLT_JSEQ_JSEQ)).length :: ws) u) := by
  have hidle' : (beginCommand p s).nva.waiting = [] := by rw [beginCommand_rest]; exact hidle
  rw [← beginCommand_jseq p s] at hread ⊢
  rw [exec_journalRead]
  unfold execJournalRead
  rw [runCommand_accepts hacc, if_neg hn]
  unfold journalAddrs journalWanted at hread
  simp only [nvaTurn_idle hidle', hread]
  rfl

theorem exec_journalRead_lost {u : State}
    (hread : nvaReadMany (journalAddrs (journalWanted p (s.fld FLT_JSEQ_JSEQ))) (beginCommand p s) = (none, u)) :
    exec (.journalRead p) s = .next (endCommand p .errData [] u) := by
  have hidle' : (beginCommand p s).nva.waiting = [] := by rw [beginCommand_rest]; exact hidle
  rw [← beginCommand_jseq p s] at hread
  rw [exec_journalRead]
  unfold execJournalRead
  rw [runCommand_accepts hacc, if_neg hn]
  unfold journalAddrs journalWanted at hread
  simp only [nvaTurn_idle hidle', hread]

end

end Sys2Proof.Machine
end

section
/-! SUPPORT. The heartbeat and the tick watch (R688, R689): what O60 turns on beside the journal and EMBER. -/

namespace Sys2Proof.Machine

/-! ### The watches (R688, R689) -/

/-- A raise leaves FLT_STATUS alone. -/
theorem fld_raise_status {src : Nat} {r : SourceRange} (hr : sourceRange src = some r) (hn : r.notify = false) (hs : src < 0x1000)
    (info : Nat) (s : State) {g : Field} (hg : g.off = 0x200008) : (raise src info s).fld g = s.fld g := by
  have hroute : g.key 0 0 0 ∉ routeKeys := by
    have hkey : g.key 0 0 0 = 0x200008 := by simp [Field.key, hg]
    rw [hkey]
    decide
  have hcount : g.key 0 0 0 ∉ raiseKeys src := by
    simp only [raiseKeys, Field.key, FLT_SRCs_COUNT, FLT_COUNT_RAISED, hg, List.mem_cons, List.not_mem_nil, or_false]
    omega
  exact fld_congr g 0 0 0 (((raiseFrom_onlySends hr hn hs none info s).2 _ hroute).trans (raiseMark_regsKeep none src info s _ hcount))

/-- After a raise an entry of its source is pending. -/
theorem exists_mem_pending_raise {src : Nat} {r : SourceRange} (hr : sourceRange src = some r) (hn : r.notify = false)
    (hs : src < 0x1000) (info : Nat) (s : State) : ∃ e ∈ (raise src info s).flt.pending, e.source = src := by
  obtain ⟨hrest, -⟩ := raiseFrom_onlySends hr hn hs none info s
  have hpending : (raise src info s).flt.pending = mergePending (raiseEntry src info s) s.flt.pending := by
    unfold raise
    rw [hrest]
    rfl
  rw [hpending]
  exact exists_mem_mergePending _ _

/-- A watch of the always-on domain finds its signal lost: it sets its flag and raises its source, and EMBER is checked. -/
def watchLost (f : Field) (src info : Nat) (s : State) : State := emberCheck (raise src info (s.setFld f 1))

section
variable {f : Field} (hf : f = FLT_STATUS_HB_LOST ∨ f = FLT_STATUS_TICK_LOST) {src : Nat} {r : SourceRange}
  (hr : sourceRange src = some r) (hn : r.notify = false) (hs : src < 0x1000) (info : Nat) (s : State)
include hf hr hn hs

theorem watchLost_raised_flag : (raise src info (s.setFld f 1)).fld f = 1 := by
  rcases hf with rfl | rfl <;>
    exact (fld_raise_status hr hn hs info _ rfl).trans (fld_setFld_of_lt s 0 (by decide) (by decide))

theorem watchLost_eq : watchLost f src info s = stopEmber (raise src info (s.setFld f 1)) := by
  refine emberCheck_stop (emberMay_of_flag ?_ (watchLost_raised_flag hf hr hn hs info s))
  rcases hf with rfl | rfl <;> simp

/-- The flag holds, and EMBER is stopped low. -/
theorem watchLost_status : (watchLost f src info s).fld f = 1 ∧ (watchLost f src info s).fld FLT_STATUS_EMBER = 0 ∧
    (watchLost f src info s).fld FLT_STATUS_EMBER_RUN = 0 := by
  refine ⟨?_, ?_, ?_⟩
  · refine (fld_emberCheck _ ?_ ?_).trans (watchLost_raised_flag hf hr hn hs info s) <;> rcases hf with rfl | rfl <;> decide
  · rw [watchLost_eq hf hr hn hs]
    exact stopEmber_level _
  · rw [watchLost_eq hf hr hn hs]
    exact stopEmber_run _

end

/-- The collector has the raise pending, and its reaction filed. -/
theorem watchLost_collector {src : Nat} {r : SourceRange} (hr : sourceRange src = some r) (hn : r.notify = false) (hs : src < 0x1000)
    (f : Field) (info : Nat) (s : State) :
    (watchLost f src info s).flt.pending = (raise src info (s.setFld f 1)).flt.pending ∧
    (watchLost f src info s).flt.reactions = (raise src info (s.setFld f 1)).flt.reactions ∧
    ∃ e ∈ (watchLost f src info s).flt.pending, e.source = src := by
  have hpending : (watchLost f src info s).flt.pending = (raise src info (s.setFld f 1)).flt.pending := by
    unfold watchLost
    rw [emberCheck_flt]
  have hreactions : (watchLost f src info s).flt.reactions = (raise src info (s.setFld f 1)).flt.reactions := by
    unfold watchLost
    rw [emberCheck_flt]
  refine ⟨hpending, hreactions, ?_⟩
  rw [hpending]
  exact exists_mem_pending_raise hr hn hs info _

theorem exec_hbLost_new {s : State} (h : s.fld FLT_STATUS_HB_LOST = 0) (hw : s.watched = true) :
    exec .hbLost s = .next (watchLost FLT_STATUS_HB_LOST 0x001 (s.fld HC_STATUS_HEARTBEATS) s) := by
  rw [exec_hbLost]
  exact if_neg (by simp [on_of_zero h, hw])

theorem exec_hbLost_held {s : State} (h : s.fld FLT_STATUS_HB_LOST = 1) : exec .hbLost s = .next s := by
  rw [exec_hbLost]
  exact if_pos (.inl (on_of_one h))

theorem exec_tickLost_new {s : State} (h : s.fld FLT_STATUS_TICK_LOST = 0) (hw : s.watched = true) :
    exec .tickLost s = .next (watchLost FLT_STATUS_TICK_LOST 0x002 (s.fld TCK_COUNT_COUNT) s) := by
  rw [exec_tickLost]
  exact if_neg (by simp [on_of_zero h, hw])

theorem exec_tickLost_held {s : State} (h : s.fld FLT_STATUS_TICK_LOST = 1) : exec .tickLost s = .next s := by
  rw [exec_tickLost]
  exact if_pos (.inl (on_of_one h))

/-- A heartbeat before EMBER's check. -/
def beat (s : State) : State := (s.addFld HC_STATUS_HEARTBEATS 1).setFld FLT_STATUS_HB_LOST 0

/-- A heartbeat counts, and HB_LOST clears. -/
theorem heartbeat_effect (s : State) : (emberCheck (beat s)).fld HC_STATUS_HEARTBEATS =
      (s.fld HC_STATUS_HEARTBEATS + 1) % 2 ^ HC_STATUS_HEARTBEATS.w ∧
    (emberCheck (beat s)).fld FLT_STATUS_HB_LOST = 0 ∧
    regsKeep [HC_STATUS_HEARTBEATS.off, FLT_STATUS_HB_LOST.off] s (emberCheck (beat s)) := by
  refine ⟨?_, ?_, ?_⟩
  · refine (fld_emberCheck _ rfl (by decide)).trans ?_
    refine (fld_setFld_copy _ FLT_STATUS_HB_LOST HC_STATUS_HEARTBEATS _ 0 rfl (by decide) (by decide)).trans ?_
    exact fld_setFld_same s HC_STATUS_HEARTBEATS _ 0 0 0 (by unfold Field.good; decide)
  · exact (fld_emberCheck _ rfl (by decide)).trans (fld_setFld_of_lt _ 0 (by decide) (by decide))
  · refine regsKeep_trans ?_ (regsKeep_mono (by decide) (emberCheck_regsKeep _))
    exact regsKeep_after_setFld _ _ _ _ _ (regsKeep_mono (by decide) (regsKeep_setFld s HC_STATUS_HEARTBEATS _ 0 0 0)) (by decide)

/-! ### The parts of O60 -/

/-- A write of FLT_EMBER within the ranges: what EMBER_FREQ_WRITE stores and when its frequency takes effect. -/
theorem exec_emberFreqWrite_stored {m : Ident} {s : State} (hadm : s.admits m .FLT_EMBER []) {h : Half} (hh : h ≠ .high) {data : Word}
    (hin : ¬ emberOutOfRange data) :
    exec (.emberFreqWrite m h data) s = .next (emberCheck (storeEmber h data (renewLease m s))) := by
  rw [exec_emberFreqWrite_admits hadm, emberEffect_stored hh hin]

/-- EMBER goes on as it is while a written frequency waits for its edge (R736). -/
theorem emberCheck_storeEmber_running {m : Ident} {s : State} {h : Half} {data : Word} (hh : h ≠ .high) (hmay : s.emberMay = true)
    (hrun : s.fld FLT_STATUS_EMBER_RUN = 1) (hstop : h = .low ∨ bit data 32 = false) :
    emberCheck (storeEmber h data (renewLease m s)) = storeEmber h data (renewLease m s) := by
  refine emberCheck_running (storeEmber_emberMay ((emberMay_renewLease m s).trans hmay) hh hstop) ?_
  rw [fld_storeEmber _ _ _ rfl (by decide), fld_renewLease m s _ _ _ _ (key_ne_leaseKey (by decide) _ _ _)]
  exact hrun

/-- What a write of FLT_EMBER within the ranges does. -/
theorem emberFreqWrite_effect {m : Ident} {h : Half} (hh : h ≠ .high) (data : Word) (s : State) :
    let t := emberCheck (storeEmber h data (renewLease m s))
    t.fld FLT_EMBER_FREQ_HZ = bits data 0 14 ∧ t.fld FLT_EMBER_HB_TIMEOUT = bits data 16 16 ∧
      (h = .full → t.fld FLT_EMBER_STOP = bnat (bit data 32)) ∧
      regsKeep [leaseKey, FLT_EMBER_FREQ_HZ.off, FLT_STATUS_EMBER.off] s t ∧
      (s.fld FLT_STATUS_EMBER_RUN = 0 → t.flt.emberH = emberHalf (bits data 0 14)) ∧
      (s.emberMay = true → s.fld FLT_STATUS_EMBER_RUN = 1 → h = .low ∨ bit data 32 = false →
        t.flt.emberNext = some (emberHalf (bits data 0 14)) ∧ t.flt.emberH = s.flt.emberH) ∧
      (h = .full → bit data 32 = true → t.fld FLT_STATUS_EMBER = 0) := by
  have hfreq := storeEmber_freq hh data (renewLease m s)
  refine ⟨(fld_emberCheck _ rfl (by decide)).trans hfreq,
    (fld_emberCheck _ rfl (by decide)).trans (storeEmber_timeout hh data _), fun hfull => ?_, ?_, fun hrun => ?_,
    fun hmay hrun hstop => ?_, fun hfull hbit => ?_⟩
  · subst hfull
    exact (fld_emberCheck _ rfl (by decide)).trans (storeEmber_stop_full data _)
  · exact regsKeep_trans (regsKeep_mono (by simp) (renewLease_regsKeep m s))
      (regsKeep_trans (regsKeep_mono (by simp) (storeEmber_regsKeep h data _)) (regsKeep_mono (by simp) (emberCheck_regsKeep _)))
  · rw [emberCheck_half_of_rest, hfreq]
    rw [fld_storeEmber _ _ _ rfl (by decide), fld_renewLease m s _ _ _ _ (key_ne_leaseKey (by decide) _ _ _)]
    exact hrun
  · rw [emberCheck_storeEmber_running hh hmay hrun hstop, renewLease_rest]
    exact ⟨rfl, rfl⟩
  · subst hfull
    have hone : (storeEmber .full data (renewLease m s)).fld FLT_EMBER_STOP = 1 := by rw [storeEmber_stop_full, hbit]; rfl
    rw [emberCheck_stop (emberMay_of_flag (by simp) hone)]
    exact stopEmber_level _

/-- What a journalled entry leaves: its four words, JSEQ, the counts and the rest of the queue. -/
theorem journalWrite_effect (q b : Nat) (e : Word × Word) (r : List (Word × Word)) (s : State) :
    let t := journalNote q r (nvaStoreAll (journalAddr q) (journalPlaces q b e) s)
    (∀ x ∈ journalPlaces q b e, t.pword (nvaKey (journalAddr q + x.1)) = PWord.clean x.2) ∧
      (∀ a, (∀ k, k < 4 → a ≠ nvaKey (journalAddr q + k)) → t.pword a = s.pword a) ∧
      t.fld FLT_JSEQ_JSEQ = q % 2 ^ 64 ∧ t.fld FLT_JOURNAL_WRITTEN = (s.fld FLT_JOURNAL_WRITTEN + 1) % 2 ^ 32 ∧
      t.flt.journalQueue = r ∧ regsKeep [FLT_JSEQ_JSEQ.off, FLT_JOURNAL_WRITTEN.off, NVA_WRITES_COUNT.off] s t := by
  have hstore := nvaStoreAll_regsKeep (journalAddr q) (journalPlaces q b e) s
  refine ⟨fun x hx => ?_, fun a ha => ?_, journalNote_jseq q r _, ?_, rfl, ?_⟩
  · rw [journalNote_pword]
    exact nvaStoreAll_written (by rw [journalPlaces_fst]; decide) hx s
  · rw [journalNote_pword]
    refine nvaStoreAll_other (fun x hx => ha x.1 ?_) s
    have hplace : x.1 ∈ (journalPlaces q b e).map Prod.fst := List.mem_map_of_mem hx
    rw [journalPlaces_fst] at hplace
    simp only [List.mem_cons, List.not_mem_nil, or_false] at hplace
    omega
  · rw [journalNote_written, fld_congr FLT_JOURNAL_WRITTEN 0 0 0 (hstore _ (by decide))]
  · exact regsKeep_trans (regsKeep_mono (by simp) hstore) (regsKeep_mono (by simp) (journalNote_regsKeep q r _))

/-- What a scan finds: the highest JSEQ and the highest BOOT of the valid places, each 0 where there is none. -/
theorem journalScanned_top (s : State) :
    let t := journalScanned (journalTop s 16384).1 (journalTop s 16384).2 s
    t.fld FLT_JSEQ_JSEQ = (journalTop s 16384).1 ∧ onlyRegs [FLT_JSEQ_JSEQ.off] { s with flt := t.flt } t :=
  ⟨fld_setFld_of_lt s 0 (by decide) (journalTop_lt s 16384), rfl, regsKeep_setFld s FLT_JSEQ_JSEQ _ 0 0 0⟩

/-- Settles O60: each command is what its lemma says; the scan's two numbers bound and are attained (`journalTop_max`,
`journalTop_attained`), and EMBER's edge is made exactly where its level is wrong and nothing holds it. -/
theorem journalAndEmber : Obligations.JournalAndEmber := by
  unfold Obligations.JournalAndEmber
  refine ⟨fun s => ⟨fun e r b hq hb hopen hidle => ?_, exec_journalWrite_nothing, exec_journalScan_nothing, fun hup hb => ?_⟩,
    fun p s hacc hidle => ⟨exec_journalRead_zero hacc, fun n top first qs hn hn0 htop hfirst hqs => ⟨fun ws hlen hwords => ?_, ?_⟩⟩,
    fun s => ⟨?_, fun hlost hw => ?_, exec_hbLost_held, fun hlost hw => ?_, exec_tickLost_held, fun hmay hrun hwait => ?_,
      fun hmay hrun => ?_, fun hmay hrun hnext hhold hwait => ?_, fun H hmay hrun hnext hwait hhold hlevel => ?_,
      fun t0 hmay hrun hhold hnext hwait => ⟨fun hearly => ?_, fun hlate => ?_⟩, fun hmay => ?_⟩,
    fun m h data s hadm => ⟨fun hh hout => ?_, fun hh hlo hhi hhb => ?_⟩⟩
  · exact ⟨_, exec_journalWrite_entry hq hb hopen hidle, journalWrite_effect _ b e r s⟩
  · obtain ⟨hjseq, hframe⟩ := journalScanned_top s
    refine ⟨_, (journalTop s 16384).2, exec_journalScan_first hup hb, rfl, hframe, fun i j b' hi hplace => ?_, fun hnone => ?_,
      fun i j b' hi hplace => ?_⟩
    · rw [hjseq]
      exact journalTop_max hi hplace
    · rw [hjseq, journalTop_empty hnone]
      exact ⟨rfl, rfl⟩
    · rw [hjseq]
      rcases journalTop_attained s 16384 with hnone | ⟨⟨i', b'', hi', hj⟩, ⟨k', j', hk', hb'⟩⟩
      · exact absurd ((hnone i hi).symm.trans hplace) (by simp)
      · exact ⟨⟨i', b'', hi', hj⟩, ⟨k', j', hk', hb'⟩⟩
  · subst hqs hfirst htop hn
    refine exec_journalRead_found hacc hidle hn0 (nvaReadMany_journal hlen fun j k q w hk hq hw => ?_)
    rw [beginCommand_pword]
    exact hwords j k q w hk hq hw
  · subst hqs hfirst htop hn
    rintro ⟨q, k, hq, hk, hbad⟩
    rw [← beginCommand_pword p s] at hbad
    obtain ⟨u, hread, hmem⟩ := nvaReadMany_bad (mem_journalAddrs.mpr ⟨q, hq, k, hk, rfl⟩) (nvaReserved_journal q hk) hbad
    exact ⟨u, exec_journalRead_lost hacc hidle hn0 hread, hmem.trans (beginCommand_mem p s)⟩
  · exact ⟨_, rfl, heartbeat_effect s⟩
  · have hr : sourceRange 0x001 = some ⟨0x000, 0x002, 3, true, false⟩ := by decide
    obtain ⟨hflag, hlevel, hrun⟩ := watchLost_status (.inl rfl) hr rfl (by decide) (s.fld HC_STATUS_HEARTBEATS) s
    exact ⟨_, _, exec_hbLost_new hlost hw, hflag, hlevel, hrun, rfl, watchLost_collector hr rfl (by decide) _ _ s⟩
  · have hr : sourceRange 0x002 = some ⟨0x000, 0x002, 3, true, false⟩ := by decide
    obtain ⟨hflag, hlevel, hrun⟩ := watchLost_status (.inr rfl) hr rfl (by decide) (s.fld TCK_COUNT_COUNT) s
    exact ⟨_, _, exec_tickLost_new hlost hw, hflag, hlevel, hrun, rfl, watchLost_collector hr rfl (by decide) _ _ s⟩
  · exact exec_emberEdge_kept hmay hrun (.inr (.inl hwait))
  · exact ⟨_, exec_emberEdge_resumed hmay hrun, rfl, fld_resumeEmber s rfl (by decide), resumeEmber_run s⟩
  · have hfree : ¬ s.emberHeld := fun ⟨t0, ht0, _⟩ => by simp [hhold] at ht0
    by_cases hlevel : s.fld FLT_STATUS_EMBER = s.emberCount % 2
    · exact ⟨s, exec_emberEdge_kept hmay hrun (.inl hlevel), hlevel, fun _ => rfl, hrun, regsKeep_refl _ s, rfl⟩
    · refine ⟨_, exec_emberEdge_turn hmay hrun hlevel hwait hfree, emberEdged_level s, fun h => absurd h hlevel, ?_⟩
      rw [emberEdged_none hnext]
      exact ⟨(emberTurn_run s).trans hrun, emberTurn_regsKeep s, by rw [emberTurn_flt]⟩
  · have hfree : ¬ s.emberHeld := fun ⟨t0, ht0, hlt⟩ => absurd (hhold t0 ht0) (Nat.not_le_of_lt hlt)
    refine ⟨_, exec_emberEdge_turn hmay hrun hlevel hwait hfree, emberEdged_level s, ?_⟩
    rw [emberEdged_some hnext]
    exact ⟨rfl, rfl, rfl⟩
  · exact exec_emberEdge_kept hmay hrun (.inr (.inr ⟨t0, hhold, hearly⟩))
  · have hfree : ¬ s.emberHeld := fun ⟨t1, ht1, hlt⟩ => by
      obtain rfl : t0 = t1 := Option.some.inj (hhold.symm.trans ht1)
      exact absurd hlate (Nat.not_le_of_lt hlt)
    by_cases hlevel : s.fld FLT_STATUS_EMBER = s.emberCount % 2
    · exact ⟨s, exec_emberEdge_kept hmay hrun (.inl hlevel), hlevel, fun h => absurd hlevel h⟩
    · refine ⟨_, exec_emberEdge_turn hmay hrun hlevel (by simp [hwait]) hfree, emberEdged_level s, fun _ => ?_⟩
      rw [emberEdged_none hnext, emberTurn_flt]
  · exact ⟨_, exec_emberEdge_stopped hmay, stopEmber_level s, stopEmber_run s⟩
  · rw [exec_emberFreqWrite_admits hadm, emberEffect_ignored hh hout]
  · have hin : ¬ emberOutOfRange data := by unfold emberOutOfRange; omega
    exact ⟨_, exec_emberFreqWrite_stored hadm hh hin, emberFreqWrite_effect hh data s⟩

end Sys2Proof.Machine
end

section
/-! SUPPORT. The fault collector's commands (R670 to R675, R679, R680, R691): a user raise, the recording of the lowest pending
source, containment and halt, the release of a halt, the first-entry capture and the history: what O59 turns on. -/

namespace Sys2Proof.Machine

/-! ### FLT_RAISE_WRITE (R691) -/

/-- The region that a raise by a master contains: the one whose port made the write. -/
def raisingRegion (m : Ident) : Option Nat := if identClass m = 3 ∧ identIndex m < 64 then some (identIndex m) else none

/-- A field outside the router's registers reads after a raise as the raise's count left it. -/
theorem fld_raiseFrom {src : Nat} {r : SourceRange} (hr : sourceRange src = some r) (hn : r.notify = false) (hs : src < 0x1000)
    (region : Option Nat) (info : Nat) (s : State) {g : Field} {i : Nat} (hg : g.key i 0 0 ∉ routeKeys) :
    (raiseFrom region src info s).fld g i = (raiseMark region src info s).fld g i :=
  fld_congr g i 0 0 ((raiseFrom_onlySends hr hn hs region info s).2 _ hg)

theorem source_not_mem_routeKeys {src : Nat} (hs : src < 0x1000) {g : Field} (hg : g.off = 0x208000) (hg1 : g.s1 = 8) :
    g.key src 0 0 ∉ routeKeys := by
  simp only [routeKeys, vectorKeys, pbaKey, Field.key, FLT_VECf_RAISED_RAISED, hg, hg1, List.mem_append, List.mem_cons, List.not_mem_nil,
    or_false]
  omega

/-- Severity 0, or no function enabled: the raise is counted and filed, and nothing is sent. -/
theorem raiseFrom_quiet {src : Nat} {r : SourceRange} (hr : sourceRange src = some r) (hn : r.notify = false) (hs : src < 0x1000)
    (region : Option Nat) (info : Nat) {s : State} (h : s.fld FLT_SRCs_SEV src = 0 ∨
      (s.fld FLT_SRCs_EN0 src = 0 ∧ s.fld FLT_SRCs_EN1 src = 0 ∧ s.fld FLT_SRCs_EN2 src = 0 ∧ s.fld FLT_SRCs_EN3 src = 0)) :
    raiseFrom region src info s = raiseMark region src info s := by
  rw [raiseFrom_recorded hr hn hs]
  by_cases hsev : s.fld FLT_SRCs_SEV src = 0
  · exact if_pos hsev
  · obtain ⟨h0, h1, h2, h3⟩ := h.resolve_left hsev
    rw [if_neg hsev]
    apply routeSource_off <;> rwa [fld_raiseMark_source region info s hs rfl rfl (by decide)]

/-- Function 0 alone enabled: its vector is raised. -/
theorem raiseFrom_first {src : Nat} {r : SourceRange} (hr : sourceRange src = some r) (hn : r.notify = false) (hs : src < 0x1000)
    (region : Option Nat) (info : Nat) {s : State} (hsev : 1 ≤ s.fld FLT_SRCs_SEV src) (h0 : s.fld FLT_SRCs_EN0 src = 1)
    (h1 : s.fld FLT_SRCs_EN1 src = 0) (h2 : s.fld FLT_SRCs_EN2 src = 0) (h3 : s.fld FLT_SRCs_EN3 src = 0) :
    raiseFrom region src info s = raiseVector 0 (s.fld FLT_SRCs_VEC0 src) (raiseMark region src info s) := by
  have hvec : (raiseMark region src info s).fld FLT_SRCs_VEC0 src = s.fld FLT_SRCs_VEC0 src :=
    fld_raiseMark_source region info s hs rfl rfl (by decide)
  rw [raiseFrom_recorded hr hn hs, if_neg (by omega), ← hvec]
  apply routeSource_first hs <;> rwa [fld_raiseMark_source region info s hs rfl rfl (by decide)]

/-- The count of a raise leaves a vector's state alone. -/
theorem vectorOpen_raiseMark {src v : Nat} (hs : src < 0x1000) (region : Option Nat) (info f : Nat) (s : State) :
    vectorOpen (raiseMark region src info s) f v = vectorOpen s f v := by
  refine vectorOpen_congr rfl (raiseMark_regsKeep region src info s _ ?_)
  simp only [raiseKeys, msixKey, Field.key, FLT_SRCs_COUNT, FLT_COUNT_RAISED, List.mem_cons, List.not_mem_nil, or_false]
  omega

/-- The lease leaves a vector's state alone. -/
theorem vectorOpen_renewLease (m : Ident) (f v : Nat) (s : State) : vectorOpen (renewLease m s) f v = vectorOpen s f v := by
  refine vectorOpen_congr (by rw [renewLease_rest]) (reg_renewLease m s ?_)
  simp only [msixKey, leaseKey, OWN_STATUS_LEASE_LEFT_MS]
  omega

/-- A write of FLT_RAISE that passes has its effect. -/
theorem exec_fltRaiseWrite_admits {m : Ident} {s : State} (hadm : s.admits m .FLT_RAISE []) (h : Half) (data : Word) :
    exec (.fltRaiseWrite m h data) s = .next (fltRaiseEffect m h data (renewLease m s)) := by
  rw [exec_fltRaiseWrite]
  exact congrArg Host.Outcome.next (regWrite_admits hadm h _)

/-- The master may raise USER sources, and the write names one (R691). -/
def mayRaise (m : Ident) (src : Nat) (s : State) : Prop := (identClass m = 3 ∨ s.isOwner m = true) ∧ 0x800 ≤ src

theorem fltRaiseEffect_raises {m : Ident} {h : Half} {data : Word} {s : State} (hmay : mayRaise m (bits (data &&& h.mask) 0 12) s) :
    fltRaiseEffect m h data (renewLease m s) =
      raiseFrom (raisingRegion m) (bits (data &&& h.mask) 0 12) (bits (data &&& h.mask) 32 32) (renewLease m s) := by
  unfold fltRaiseEffect
  simp only [renewLease_isOwner]
  exact if_pos hmay

theorem fltRaiseEffect_refused {m : Ident} {h : Half} {data : Word} {s : State} (hmay : ¬ mayRaise m (bits (data &&& h.mask) 0 12) s) :
    fltRaiseEffect m h data (renewLease m s) = violation m .area true (FLT_RAISE_SOURCE.off + h.skip) (renewLease m s) := by
  unfold fltRaiseEffect
  simp only [renewLease_isOwner]
  exact if_neg hmay

/-- A register of a unit above OWN_STATUS is not touched by the lease. -/
theorem fld_renewLease_above (m : Ident) (s : State) {g : Field} (hg : leaseKey < g.off) (i : Nat) :
    (renewLease m s).fld g i = s.fld g i := fld_renewLease m s g i 0 0 (key_ne_leaseKey hg i 0 0)

section
variable (m : Ident) {src : Nat} (hlo : 0x800 ≤ src) (hhi : src < 0x1000) (region : Option Nat) (info : Nat) (s : State)
include hlo hhi

/-- A USER raise counts in its source and in FLT_COUNT.RAISED; SEV and RECORDED stay. -/
theorem userRaise_counts :
    (raiseFrom region src info (renewLease m s)).fld FLT_SRCs_COUNT src = (s.fld FLT_SRCs_COUNT src + 1) % 2 ^ 16 ∧
    (raiseFrom region src info (renewLease m s)).fld FLT_SRCs_SEV src = s.fld FLT_SRCs_SEV src ∧
    (raiseFrom region src info (renewLease m s)).fld FLT_COUNT_RAISED = (s.fld FLT_COUNT_RAISED + 1) % 2 ^ 32 ∧
    (raiseFrom region src info (renewLease m s)).fld FLT_COUNT_RECORDED = s.fld FLT_COUNT_RECORDED := by
  have hr := sourceRange_user hlo hhi
  refine ⟨?_, ?_, ?_, ?_⟩
  · rw [fld_raiseFrom hr rfl hhi _ _ _ (source_not_mem_routeKeys hhi rfl rfl), fld_raiseMark_count region info _ hhi,
      fld_renewLease_above m s (by decide)]
  · rw [fld_raiseFrom hr rfl hhi _ _ _ (source_not_mem_routeKeys hhi rfl rfl),
      fld_raiseMark_source region info _ hhi rfl rfl (by decide), fld_renewLease_above m s (by decide)]
  · rw [fld_raiseFrom hr rfl hhi _ _ _ (by decide), fld_raiseMark_raised region info _ hhi, fld_renewLease_above m s (by decide)]
  · rw [fld_raiseFrom hr rfl hhi _ _ _ (by decide), fld_raiseMark_recorded region info _ hhi, fld_renewLease_above m s (by decide)]

/-- The raise is filed with the collector. -/
theorem userRaise_collector : (raiseFrom region src info (renewLease m s)).flt = { s.flt with
    pending := mergePending (raiseEntry src info s) s.flt.pending
    reactions := s.flt.reactions ++ raiseReactions region src info s } := by
  have hsev : (renewLease m s).fld FLT_SRCs_SEV src = s.fld FLT_SRCs_SEV src := fld_renewLease_above m s (by decide) src
  have hentry : raiseEntry src info (renewLease m s) = raiseEntry src info s := by
    unfold raiseEntry
    rw [hsev, fld_renewLease_above m s (by decide)]
  have hreactions : raiseReactions region src info (renewLease m s) = raiseReactions region src info s := by
    unfold raiseReactions
    rw [hsev]
  have hflt : (renewLease m s).flt = s.flt := by rw [renewLease_rest]
  have hmark : (raiseMark region src info (renewLease m s)).flt = { (renewLease m s).flt with
      pending := mergePending (raiseEntry src info (renewLease m s)) (renewLease m s).flt.pending
      reactions := (renewLease m s).flt.reactions ++ raiseReactions region src info (renewLease m s) } := rfl
  rw [(raiseFrom_onlySends (sourceRange_user hlo hhi) rfl hhi region info (renewLease m s)).1]
  exact hmark.trans (by rw [hentry, hreactions, hflt])

/-- Beside registers, the collector's state and what is sent nothing changes. -/
theorem userRaise_rest : raiseFrom region src info (renewLease m s) = { s with
    regs := (raiseFrom region src info (renewLease m s)).regs
    flt := (raiseFrom region src info (renewLease m s)).flt
    out := (raiseFrom region src info (renewLease m s)).out } := by
  rw [(raiseFrom_onlySends (sourceRange_user hlo hhi) rfl hhi region info (renewLease m s)).1]
  unfold raiseMark
  rw [renewLease_rest m s]
  rfl

/-- At severity 0, or with no function enabled, nothing is sent and no register but the counts changes. -/
theorem userRaise_quiet (h : s.fld FLT_SRCs_SEV src = 0 ∨
      (s.fld FLT_SRCs_EN0 src = 0 ∧ s.fld FLT_SRCs_EN1 src = 0 ∧ s.fld FLT_SRCs_EN2 src = 0 ∧ s.fld FLT_SRCs_EN3 src = 0)) :
    (raiseFrom region src info (renewLease m s)).out = s.out ∧
      regsKeep (leaseKey :: raiseKeys src) s (raiseFrom region src info (renewLease m s)) := by
  have hsource := fun (g : Field) (hg : leaseKey < g.off) => fld_renewLease_above m s hg src
  rw [raiseFrom_quiet (sourceRange_user hlo hhi) rfl hhi region info (by
    rwa [hsource _ (by decide), hsource _ (by decide), hsource _ (by decide), hsource _ (by decide), hsource _ (by decide)])]
  refine ⟨?_, regsKeep_trans (regsKeep_mono (by simp) (renewLease_regsKeep m s))
    (regsKeep_mono (by simp +contextual) (raiseMark_regsKeep region src info _))⟩
  change (renewLease m s).out = s.out
  rw [renewLease_rest]

/-- With function 0 alone enabled its vector is raised: sent where it may be, else pending. -/
theorem userRaise_first (hsev : 1 ≤ s.fld FLT_SRCs_SEV src) (h0 : s.fld FLT_SRCs_EN0 src = 1) (h1 : s.fld FLT_SRCs_EN1 src = 0)
    (h2 : s.fld FLT_SRCs_EN2 src = 0) (h3 : s.fld FLT_SRCs_EN3 src = 0) :
    (raiseFrom region src info (renewLease m s)).fbit FLT_VECf_RAISED_RAISED (s.fld FLT_SRCs_VEC0 src) 0 = true ∧
    (raiseFrom region src info (renewLease m s)).out =
      (if vectorOpen s 0 (s.fld FLT_SRCs_VEC0 src) then .msix 0 (s.fld FLT_SRCs_VEC0 src) :: s.out else s.out) ∧
    (vectorOpen s 0 (s.fld FLT_SRCs_VEC0 src) = false →
      bit ((raiseFrom region src info (renewLease m s)).reg (pbaKey 0)) (s.fld FLT_SRCs_VEC0 src) = true) := by
  have hsource := fun (g : Field) (hg : leaseKey < g.off) => fld_renewLease_above m s hg src
  have hopen : vectorOpen (raiseMark region src info (renewLease m s)) 0 (s.fld FLT_SRCs_VEC0 src) =
      vectorOpen s 0 (s.fld FLT_SRCs_VEC0 src) := (vectorOpen_raiseMark hhi _ _ _ _).trans (vectorOpen_renewLease m 0 _ s)
  have hout : (raiseMark region src info (renewLease m s)).out = s.out := by
    change (renewLease m s).out = s.out
    rw [renewLease_rest]
  have hlt : s.fld FLT_SRCs_VEC0 src < 64 := fld_lt s FLT_SRCs_VEC0 src 0 0
  rw [raiseFrom_first (sourceRange_user hlo hhi) rfl hhi region info (by rwa [hsource _ (by decide)])
    ((hsource _ (by decide)).trans h0) ((hsource _ (by decide)).trans h1) ((hsource _ (by decide)).trans h2)
    ((hsource _ (by decide)).trans h3), hsource _ (by decide)]
  refine ⟨raiseVector_raised hlt _, ?_, fun hclosed => raiseVector_pending hlt (hopen.trans hclosed)⟩
  rw [raiseVector_out, hopen, hout]

end

/-! ### FAULT_RECORD (R672 to R676) -/

/-- A bit by its field of one bit. -/
theorem bit_of_bits {v : Word} {i : Nat} {b : Bool} (h : bits v i 1 = bnat b) : bit v i = b := by
  rw [bits_one_eq_bnat] at h
  revert h
  cases bit v i <;> cases b <;> decide

/-- The fields of event word 1 (R673). -/
theorem eventWord_fields (e : FltPending) (q : Nat) : bits (eventWord e q) 0 12 = e.source % 2 ^ 12 ∧
    bits (eventWord e q) 12 2 = e.sev % 4 ∧ bit (eventWord e q) 14 = e.merged ∧ bit (eventWord e q) 15 = true ∧
    bits (eventWord e q) 16 32 = e.info.toNat ∧ bits (eventWord e q) 48 16 = q % 2 ^ 16 := by
  have hinfo : e.info.toNat % 2 ^ 32 = e.info.toNat := Nat.mod_eq_of_lt e.info.isLt
  unfold eventWord
  refine ⟨?_, ?_, ?_, ?_, ?_, ?_⟩
  · simp (disch := decide) only [mkWord, bits_setBits_same]
  · simp (disch := decide) only [mkWord, bits_setBits_other, bits_setBits_same]
    rfl
  · refine bit_of_bits ?_
    simp (disch := decide) only [mkWord, bits_setBits_other, bits_setBits_same]
    cases e.merged <;> rfl
  · refine bit_of_bits ?_
    simp (disch := decide) only [mkWord, bits_setBits_other, bits_setBits_same]
    rfl
  · simp (disch := decide) only [mkWord, bits_setBits_other, bits_setBits_same]
    exact hinfo
  · simp (disch := decide) only [mkWord, bits_setBits_other, bits_setBits_same]

/-- An entry is written into its slot of the history (R674). -/
def histNote (k : Nat) (w0 w1 : Word) (s : State) : State :=
  (s.setReg (FLT_HISTk_W0_WORD.key k 0 0) w0).setReg (FLT_HISTk_W1_WORD.key k 0 0) w1

/-- While VALID is 0 an entry is also copied into FLT_FIRST (R675). -/
def firstNote (w0 w1 : Word) (s : State) : State :=
  if bit (s.reg FLT_FIRST_W1_WORD.off) 15 then s else (s.setReg FLT_FIRST_W0_WORD.off w0).setReg FLT_FIRST_W1_WORD.off w1

/-- The state in which an entry has been recorded and not yet offered to the journal. -/
def entryNote (e : FltPending) (q : Nat) (s : State) : State :=
  (firstNote e.time (eventWord e q) (histNote (q % 32) e.time (eventWord e q) s)).addFld FLT_COUNT_RECORDED 1

theorem exec_faultRecord_nothing {s : State} (h : s.flt.pending = []) : exec .faultRecord s = .next s := by
  rw [exec_faultRecord]
  unfold execFaultRecord
  rw [h]

/-- The frame of an entry's words: its two places in the history and FLT_FIRST. -/
theorem histNote_onlyRegs (k : Nat) (w0 w1 : Word) (s : State) :
    onlyRegs [FLT_HISTk_W0_WORD.key k 0 0, FLT_HISTk_W1_WORD.key k 0 0] s (histNote k w0 w1 s) :=
  ⟨rfl, regsKeep_trans (regsKeep_mono (by simp) (regsKeep_setReg s _ w0)) (regsKeep_mono (by simp) (regsKeep_setReg _ _ w1))⟩

theorem firstNote_onlyRegs (w0 w1 : Word) (s : State) :
    onlyRegs [FLT_FIRST_W0_WORD.off, FLT_FIRST_W1_WORD.off] s (firstNote w0 w1 s) := by
  unfold firstNote
  split
  · exact ⟨rfl, regsKeep_refl _ s⟩
  · exact ⟨rfl, regsKeep_trans (regsKeep_mono (by simp) (regsKeep_setReg s _ w0)) (regsKeep_mono (by simp) (regsKeep_setReg _ _ w1))⟩

/-- The registers that recording entry number `q` may change. -/
def entryKeys (q : Nat) : List Nat := [FLT_HISTk_W0_WORD.key (q % 32) 0 0, FLT_HISTk_W1_WORD.key (q % 32) 0 0,
  FLT_FIRST_W0_WORD.off, FLT_FIRST_W1_WORD.off, FLT_COUNT_RECORDED.off]

theorem entryNote_onlyRegs (e : FltPending) (q : Nat) (s : State) : onlyRegs (entryKeys q) s (entryNote e q s) := by
  have hhist : onlyRegs (entryKeys q) s (histNote (q % 32) e.time (eventWord e q) s) :=
    onlyRegs_mono (by simp +contextual [entryKeys]) (histNote_onlyRegs _ _ _ s)
  have hfirst := onlyRegs_trans hhist (onlyRegs_mono (by simp +contextual [entryKeys]) (firstNote_onlyRegs e.time (eventWord e q) _))
  exact onlyRegs_after_setFld _ _ _ _ _ hfirst (by simp [entryKeys, Field.key])

/-- A register of the collector below the history, FLT_FIRST and FLT_COUNT apart, stays when an entry is recorded. -/
theorem fld_entryNote (e : FltPending) (q : Nat) (s : State) {g : Field} (hg1 : g.s1 = 0) (hg : g.off < 0x200018 ∨ g.off = 0x200030) :
    (entryNote e q s).fld g = s.fld g := by
  refine fld_congr g 0 0 0 ((entryNote_onlyRegs e q s).2 _ ?_)
  simp only [entryKeys, Field.key, hg1, FLT_HISTk_W0_WORD, FLT_HISTk_W1_WORD, FLT_FIRST_W0_WORD, FLT_FIRST_W1_WORD,
    FLT_COUNT_RECORDED, List.mem_cons, List.not_mem_nil, or_false]
  omega

/-- The entry's words stand at its place in the history. -/
theorem entryNote_history (e : FltPending) (q : Nat) (s : State) :
    (entryNote e q s).reg (FLT_HISTk_W0_WORD.key (q % 32) 0 0) = e.time ∧
      (entryNote e q s).reg (FLT_HISTk_W1_WORD.key (q % 32) 0 0) = eventWord e q := by
  have hkeep : ∀ k, 0x201000 ≤ k → (entryNote e q s).reg k = (histNote (q % 32) e.time (eventWord e q) s).reg k := fun k hk => by
    refine (reg_setFld_other _ FLT_COUNT_RECORDED _ _ _ _ _ ?_).trans ((firstNote_onlyRegs _ _ _).2 k ?_)
    · simp only [Field.key, FLT_COUNT_RECORDED]
      omega
    · simp only [FLT_FIRST_W0_WORD, FLT_FIRST_W1_WORD, List.mem_cons, List.not_mem_nil, or_false]
      omega
  constructor
  · rw [hkeep _ (by simp only [Field.key, FLT_HISTk_W0_WORD]; omega)]
    refine (reg_setReg_other _ _ ?_).trans (reg_setReg_same s _ _)
    simp only [Field.key, FLT_HISTk_W0_WORD, FLT_HISTk_W1_WORD]
    omega
  · rw [hkeep _ (by simp only [Field.key, FLT_HISTk_W1_WORD]; omega)]
    exact reg_setReg_same _ _ _

theorem reg_histNote_first (k : Nat) (w0 w1 : Word) (s : State) {j : Nat} (hj : j < 0x201000) : (histNote k w0 w1 s).reg j = s.reg j := by
  refine (histNote_onlyRegs k w0 w1 s).2 j ?_
  simp only [Field.key, FLT_HISTk_W0_WORD, FLT_HISTk_W1_WORD, List.mem_cons, List.not_mem_nil, or_false]
  omega

/-- FLT_FIRST after an entry, by VALID before it. -/
theorem entryNote_first (e : FltPending) (q : Nat) (s : State) :
    (bit (s.reg FLT_FIRST_W1_WORD.off) 15 = false →
      (entryNote e q s).reg FLT_FIRST_W0_WORD.off = e.time ∧ (entryNote e q s).reg FLT_FIRST_W1_WORD.off = eventWord e q) ∧
    (bit (s.reg FLT_FIRST_W1_WORD.off) 15 = true →
      (entryNote e q s).reg FLT_FIRST_W0_WORD.off = s.reg FLT_FIRST_W0_WORD.off ∧
      (entryNote e q s).reg FLT_FIRST_W1_WORD.off = s.reg FLT_FIRST_W1_WORD.off) := by
  have hvalid := reg_histNote_first (q % 32) e.time (eventWord e q) s (j := FLT_FIRST_W1_WORD.off) (by decide)
  have hcount : ∀ k, k ≠ 0x200028 → (entryNote e q s).reg k =
      (firstNote e.time (eventWord e q) (histNote (q % 32) e.time (eventWord e q) s)).reg k := fun k hk =>
    reg_setFld_other _ FLT_COUNT_RECORDED _ _ _ _ _ hk
  rw [hcount _ (by decide), hcount _ (by decide)]
  unfold firstNote
  rw [hvalid]
  refine ⟨fun h => ?_, fun h => ?_⟩
  · rw [if_neg (by simp [h])]
    exact ⟨(reg_setReg_other _ _ (by decide)).trans (reg_setReg_same _ _ _), reg_setReg_same _ _ _⟩
  · rw [if_pos h]
    exact ⟨reg_histNote_first _ _ _ s (by decide), hvalid⟩

theorem entryNote_recorded (e : FltPending) (q : Nat) (s : State) :
    (entryNote e q s).fld FLT_COUNT_RECORDED = (s.fld FLT_COUNT_RECORDED + 1) % 2 ^ 32 := by
  have hfirst : (firstNote e.time (eventWord e q) (histNote (q % 32) e.time (eventWord e q) s)).fld FLT_COUNT_RECORDED =
      s.fld FLT_COUNT_RECORDED :=
    fld_congr _ 0 0 0 (((firstNote_onlyRegs _ _ _).2 _ (by decide)).trans (reg_histNote_first _ _ _ s (by decide)))
  rw [← hfirst]
  exact fld_setFld_same _ FLT_COUNT_RECORDED _ 0 0 0 (by unfold Field.good; decide)

theorem entryNote_flt (e : FltPending) (q : Nat) (s : State) : (entryNote e q s).flt = s.flt := by
  rw [(entryNote_onlyRegs e q s).1]

/-! ### The journal's offer (R676, R677) -/

theorem journalEntry_below {sev : Nat} {s : State} (h : sev < s.fld FLT_CTL_JOURNAL_MIN) (w0 w1 : Word) :
    journalEntry sev w0 w1 s = s := if_pos h

theorem journalEntry_full {sev : Nat} {s : State} (h : s.fld FLT_CTL_JOURNAL_MIN ≤ sev) (hfull : 64 ≤ s.flt.journalQueue.length)
    (w0 w1 : Word) : journalEntry sev w0 w1 s = s.addFld FLT_JOURNAL_SKIPPED 1 := by
  unfold journalEntry
  rw [if_neg (Nat.not_lt.mpr h), if_pos hfull]

theorem journalEntry_queued {sev : Nat} {s : State} (h : s.fld FLT_CTL_JOURNAL_MIN ≤ sev) (hroom : s.flt.journalQueue.length < 64)
    (w0 w1 : Word) : journalEntry sev w0 w1 s = setJournal (s.flt.journalQueue ++ [(w0, w1)]) s := by
  unfold journalEntry
  rw [if_neg (Nat.not_lt.mpr h), if_neg (Nat.not_le.mpr hroom)]

/-- What the offer of an entry to the journal can do. -/
theorem journalEntry_cases (sev : Nat) (w0 w1 : Word) (s : State) : journalEntry sev w0 w1 s = s ∨
    journalEntry sev w0 w1 s = s.addFld FLT_JOURNAL_SKIPPED 1 ∨
    journalEntry sev w0 w1 s = setJournal (s.flt.journalQueue ++ [(w0, w1)]) s := by
  rcases Nat.lt_or_ge sev (s.fld FLT_CTL_JOURNAL_MIN) with h | h
  · exact .inl (journalEntry_below h w0 w1)
  · rcases Nat.lt_or_ge s.flt.journalQueue.length 64 with hroom | hfull
    · exact .inr (.inr (journalEntry_queued h hroom w0 w1))
    · exact .inr (.inl (journalEntry_full h hfull w0 w1))

/-- The offer leaves every register but FLT_JOURNAL alone, and of the collector's state changes the queue alone. -/
theorem journalEntry_frame (sev : Nat) (w0 w1 : Word) (s : State) :
    onlyRegs [FLT_JOURNAL_QUEUED.off] { s with flt := (journalEntry sev w0 w1 s).flt } (journalEntry sev w0 w1 s) ∧
      (journalEntry sev w0 w1 s).flt.pending = s.flt.pending := by
  rcases journalEntry_cases sev w0 w1 s with h | h | h <;> rw [h]
  · exact ⟨⟨rfl, regsKeep_refl _ s⟩, rfl⟩
  · exact ⟨⟨rfl, regsKeep_setFld s FLT_JOURNAL_SKIPPED _ 0 0 0⟩, rfl⟩
  · exact ⟨⟨rfl, regsKeep_setFld s FLT_JOURNAL_QUEUED _ 0 0 0⟩, rfl⟩

theorem reg_journalEntry (sev : Nat) (w0 w1 : Word) (s : State) {k : Nat} (hk : k ≠ 0x200030) :
    (journalEntry sev w0 w1 s).reg k = s.reg k :=
  (journalEntry_frame sev w0 w1 s).1.2 k (by simpa [FLT_JOURNAL_QUEUED] using hk)

/-! ### A recording as a whole -/

/-- The state in which the lowest pending entry, before `r`, has been recorded, and not yet offered to the journal. -/
def entryTaken (e : FltPending) (r : List FltPending) (s : State) : State :=
  entryNote e (s.fld FLT_COUNT_RECORDED) { s with flt := { s.flt with pending := r } }

/-- The state in which the lowest pending entry has been recorded and offered to the journal. -/
def entryRecorded (e : FltPending) (r : List FltPending) (s : State) : State :=
  journalEntry e.sev e.time (eventWord e (s.fld FLT_COUNT_RECORDED)) (entryTaken e r s)

theorem exec_faultRecord_entry {e : FltPending} {r : List FltPending} {s : State} (h : s.flt.pending = e :: r) :
    exec .faultRecord s = .next (entryRecorded e r s) := by
  rw [exec_faultRecord]
  unfold execFaultRecord
  rw [h]
  rfl

section
variable (e : FltPending) (r : List FltPending) (s : State)

theorem entryTaken_flt : (entryTaken e r s).flt = { s.flt with pending := r } := entryNote_flt e _ _

theorem entryTaken_queue : (entryTaken e r s).flt.journalQueue = s.flt.journalQueue := by rw [entryTaken_flt]

theorem entryTaken_min : (entryTaken e r s).fld FLT_CTL_JOURNAL_MIN = s.fld FLT_CTL_JOURNAL_MIN := fld_entryNote e _ _ rfl (by decide)

theorem reg_entryRecorded {k : Nat} (hk : k ≠ 0x200030) : (entryRecorded e r s).reg k = (entryTaken e r s).reg k :=
  reg_journalEntry e.sev e.time _ _ hk

/-- The entry's words stand in its slot of the history (R674). -/
theorem entryRecorded_history :
    (entryRecorded e r s).reg (FLT_HISTk_W0_WORD.key (s.fld FLT_COUNT_RECORDED % 32) 0 0) = e.time ∧
    (entryRecorded e r s).reg (FLT_HISTk_W1_WORD.key (s.fld FLT_COUNT_RECORDED % 32) 0 0) =
      eventWord e (s.fld FLT_COUNT_RECORDED) := by
  obtain ⟨hw0, hw1⟩ := entryNote_history e (s.fld FLT_COUNT_RECORDED) { s with flt := { s.flt with pending := r } }
  have hkey : ∀ (f : Field) (k : Nat), 0x201000 ≤ f.off → f.key k 0 0 ≠ 0x200030 := fun f k hf => by
    simp only [Field.key]
    omega
  exact ⟨(reg_entryRecorded e r s (hkey _ _ (by decide))).trans hw0, (reg_entryRecorded e r s (hkey _ _ (by decide))).trans hw1⟩

/-- One more entry is recorded, and its source no longer waits. -/
theorem entryRecorded_count : (entryRecorded e r s).fld FLT_COUNT_RECORDED = (s.fld FLT_COUNT_RECORDED + 1) % 2 ^ 32 ∧
    (entryRecorded e r s).flt.pending = r :=
  ⟨(fld_congr FLT_COUNT_RECORDED 0 0 0 (reg_entryRecorded e r s (by decide))).trans (entryNote_recorded e _ _),
    (journalEntry_frame e.sev e.time _ _).2.trans (by rw [entryTaken_flt])⟩

/-- FLT_FIRST takes the entry while its VALID is 0 (R675). -/
theorem entryRecorded_first_free (h : bit (s.reg FLT_FIRST_W1_WORD.off) 15 = false) :
    (entryRecorded e r s).reg FLT_FIRST_W0_WORD.off = e.time ∧
    (entryRecorded e r s).reg FLT_FIRST_W1_WORD.off = eventWord e (s.fld FLT_COUNT_RECORDED) := by
  rw [reg_entryRecorded e r s (by decide), reg_entryRecorded e r s (by decide)]
  exact (entryNote_first e _ _).1 h

/-- FLT_FIRST stays while its VALID is 1 (R675). -/
theorem entryRecorded_first_held (h : bit (s.reg FLT_FIRST_W1_WORD.off) 15 = true) :
    (entryRecorded e r s).reg FLT_FIRST_W0_WORD.off = s.reg FLT_FIRST_W0_WORD.off ∧
    (entryRecorded e r s).reg FLT_FIRST_W1_WORD.off = s.reg FLT_FIRST_W1_WORD.off := by
  rw [reg_entryRecorded e r s (by decide), reg_entryRecorded e r s (by decide)]
  exact (entryNote_first e _ _).2 h

/-- An entry below JOURNAL_MIN is not journalled. -/
theorem entryRecorded_below (h : e.sev < s.fld FLT_CTL_JOURNAL_MIN) :
    (entryRecorded e r s).flt.journalQueue = s.flt.journalQueue := by
  unfold entryRecorded
  rw [journalEntry_below (by rwa [entryTaken_min])]
  exact entryTaken_queue e r s

/-- An entry at JOURNAL_MIN or above waits where the queue has room (R677). -/
theorem entryRecorded_queued (h : s.fld FLT_CTL_JOURNAL_MIN ≤ e.sev) (hroom : s.flt.journalQueue.length < 64) :
    (entryRecorded e r s).flt.journalQueue = s.flt.journalQueue ++ [(e.time, eventWord e (s.fld FLT_COUNT_RECORDED))] ∧
    (entryRecorded e r s).fld FLT_JOURNAL_QUEUED = s.flt.journalQueue.length + 1 := by
  unfold entryRecorded
  rw [journalEntry_queued (by rwa [entryTaken_min]) (by rwa [entryTaken_queue]), entryTaken_queue]
  refine ⟨rfl, (fld_setFld_same _ FLT_JOURNAL_QUEUED _ 0 0 0 (by unfold Field.good; decide)).trans ?_⟩
  rw [List.length_append]
  exact Nat.mod_eq_of_lt (Nat.lt_of_le_of_lt (Nat.succ_le_of_lt hroom) (by decide))

/-- An entry that finds the queue full is counted as skipped (R677). -/
theorem entryRecorded_full (h : s.fld FLT_CTL_JOURNAL_MIN ≤ e.sev) (hfull : 64 ≤ s.flt.journalQueue.length) :
    (entryRecorded e r s).flt.journalQueue = s.flt.journalQueue ∧
    (entryRecorded e r s).fld FLT_JOURNAL_SKIPPED = (s.fld FLT_JOURNAL_SKIPPED + 1) % 2 ^ 16 := by
  unfold entryRecorded
  rw [journalEntry_full (by rwa [entryTaken_min]) (by rwa [entryTaken_queue])]
  refine ⟨entryTaken_queue e r s, (fld_setFld_same _ FLT_JOURNAL_SKIPPED _ 0 0 0 (by unfold Field.good; decide)).trans ?_⟩
  rw [entryTaken, fld_entryNote e _ _ rfl (by decide)]
  rfl

/-- The frame of a recording. -/
theorem entryRecorded_frame : onlyRegs (entryKeys (s.fld FLT_COUNT_RECORDED) ++ [FLT_JOURNAL_QUEUED.off])
    { s with flt := (entryRecorded e r s).flt } (entryRecorded e r s) := by
  obtain ⟨⟨hrest, hregs⟩, -⟩ := journalEntry_frame e.sev e.time (eventWord e (s.fld FLT_COUNT_RECORDED)) (entryTaken e r s)
  obtain ⟨hrest', hregs'⟩ := entryNote_onlyRegs e (s.fld FLT_COUNT_RECORDED) { s with flt := { s.flt with pending := r } }
  have hbeside : ∀ f g, ({ entryTaken e r s with flt := f, regs := g } : State) = { s with flt := f, regs := g } := fun f g =>
    congrArg (fun x : State => { x with flt := f, regs := g }) hrest'
  refine ⟨hrest.trans (hbeside _ _), fun k hk => ?_⟩
  rw [List.mem_append, not_or] at hk
  exact (hregs k hk.2).trans (hregs' k hk.1)

end

end Sys2Proof.Machine
end

section
/-! SUPPORT. Containment, the halt and its release (R670, R671, R679, R680), the first-entry capture (R675) and the history (R674):
the rest of what O59 turns on. -/

namespace Sys2Proof.Machine

/-! ### FAULT_REACTION (R670, R671) -/

/-- The state in which the reactions filed have been taken up. -/
def reactionsTaken (s : State) : State := { s with flt := { s.flt with reactions := [] } }

theorem exec_faultReaction_nothing {s : State} (h : s.flt.reactions = []) : exec .faultReaction s = .next s := by
  have htaken : reactionsTaken s = s := by
    unfold reactionsTaken
    rw [← h]
  rw [exec_faultReaction]
  unfold execFaultReaction
  rw [h]
  exact congrArg Host.Outcome.next htaken

theorem exec_faultReaction_one {r : FltReaction} {s : State} (h : s.flt.reactions = [r]) :
    exec .faultReaction s = .next (react (reactionsTaken s) r) := by
  rw [exec_faultReaction]
  unfold execFaultReaction
  rw [h]
  rfl

/-- Below severity 3 a reaction is its containment. -/
theorem react_contains {r : FltReaction} (h : r.sev ≠ 3) (s : State) : react s r = containSource r s := if_neg h

/-- At severity 3 the halt follows the containment. -/
theorem react_halts {r : FltReaction} (h : r.sev = 3) (s : State) : react s r = haltFor r.source (containSource r s) := if_pos h

theorem containSource_context {r : FltReaction} (h : r.source = 0x080 ∨ r.source = 0x081) (s : State) :
    containSource r s = s.setFld CTX_ENG_CTL_EN 0 := if_pos h

theorem containSource_port {r : FltReaction} {p : Nat} (hp : p < 4) (h : r.source = 0x184 + p) (s : State) :
    containSource r s = portToStage1 p (s.setFbit BRL_CTL_PORT_EN p false) := by
  unfold containSource
  dsimp only
  rw [if_neg (by omega), if_pos (by omega), show r.source - 0x184 = p by omega]

theorem containSource_group {r : FltReaction} {g : Nat} (hg : g < 128) (h : r.source = 0x200 + g) (s : State) :
    containSource r s = enterSafe g s := by
  unfold containSource
  dsimp only
  rw [if_neg (by omega), if_neg (by omega), if_pos (by omega), show r.source - 0x200 = g by omega]

theorem containSource_engine {r : FltReaction} {e : Nat} (he : e < 32) (h : r.source = 0x320 + e) (s : State) :
    containSource r s = setRun e false s := by
  unfold containSource
  dsimp only
  rw [if_neg (by omega), if_neg (by omega), if_neg (by omega), if_neg (by omega), if_pos (by omega),
    show r.source - 0x320 = e by omega]

/-- The sources that name no unit of their own contain the raising region, if there is one. -/
theorem containSource_region {r : FltReaction} (h : 0x800 ≤ r.source ∨ r.source = 0x100 ∨ r.source = 0x140) (s : State) :
    containSource r s = r.region.elim s (fun k => raiseDamper k s) := by
  unfold containSource
  dsimp only
  rw [if_neg (by omega), if_neg (by omega), if_neg (by omega), if_neg (by omega), if_neg (by omega), if_neg (by omega),
    if_neg (by omega)]
  cases r.region <;> rfl

/-- The port's return to stage 1 leaves BRL_CTL alone. -/
theorem reg_portToStage1_ctl {p : Nat} (hp : p < 4) (s : State) :
    (portToStage1 p s).reg BRL_CTL_PORT_EN.off = s.reg BRL_CTL_PORT_EN.off := by
  have hport : ∀ (f : Field) (v : Nat) (t : State), f.off = 0x1840100 →
      (t.setFld f v p).reg BRL_CTL_PORT_EN.off = t.reg BRL_CTL_PORT_EN.off :=
    fun f v t hf => reg_setFld_other t f v p 0 0 _ (by simp only [Field.key, BRL_CTL_PORT_EN, hf]; omega)
  have hlane : ∀ t : State, (t.setFld LNK_QUADq_RATE 0 (4 + p)).reg BRL_CTL_PORT_EN.off = t.reg BRL_CTL_PORT_EN.off :=
    fun t => reg_setFld_other t LNK_QUADq_RATE 0 (4 + p) 0 0 _ (by simp only [Field.key, BRL_CTL_PORT_EN, LNK_QUADq_RATE]; omega)
  exact (hlane _).trans ((hport _ _ _ rfl).trans ((hport _ _ _ rfl).trans ((hport _ _ _ rfl).trans (hport _ _ _ rfl))))

/-- A contained port is disabled. -/
theorem contained_port_disabled {p : Nat} (hp : p < 4) (s : State) :
    (portToStage1 p (s.setFbit BRL_CTL_PORT_EN p false)).fbit BRL_CTL_PORT_EN p = false := by
  unfold State.fbit
  rw [fld_congr BRL_CTL_PORT_EN 0 0 0 (reg_portToStage1_ctl hp _)]
  exact fbit_setFbit_same s false 0 0 0 (by decide) hp

/-! ### The halt (R679, R680) -/

theorem haltOutputs_eq (s : State) :
    haltOutputs s = emberCheck (enterAllSafe (List.range 128) (s.setFld FLT_STATUS_HALTED 1)) := rfl

/-- A halt changes of FLT_STATUS its flag and EMBER alone. -/
theorem fld_haltOutputs (s : State) {g : Field} (hg : g.off = 0x200008) (hg1 : g.s1 = 0) (hlo : 5 ≤ g.lo) :
    (haltOutputs s).fld g = s.fld g := by
  have hkey : g.key 0 0 0 < 0x601000 := by simp [Field.key, hg]
  rw [haltOutputs_eq]
  refine (fld_emberCheck _ hg1 (by omega)).trans ((fld_congr g 0 0 0 (enterAllSafe_reg_low hkey _ _)).trans ?_)
  exact fld_setFld_copy s FLT_STATUS_HALTED g 1 0 hg1 (by decide) (by simp only [FLT_STATUS_HALTED]; omega)

/-- The outputs are halted: the flag is set, EMBER is low and every group is in SAFE. -/
theorem haltOutputs_effect (s : State) : (haltOutputs s).fld FLT_STATUS_HALTED = 1 ∧ (haltOutputs s).fld FLT_STATUS_EMBER = 0 ∧
    (haltOutputs s).flt.rehalt = s.flt.rehalt ∧ ∀ g, g < 128 → (haltOutputs s).mode g = mdSafe := by
  have hhalted : (enterAllSafe (List.range 128) (s.setFld FLT_STATUS_HALTED 1)).fld FLT_STATUS_HALTED = 1 :=
    (fld_congr _ 0 0 0 (enterAllSafe_reg_low (by decide) _ _)).trans (fld_setFld_of_lt s 0 (by decide) (by decide))
  rw [haltOutputs_eq]
  refine ⟨(fld_emberCheck _ rfl (by decide)).trans hhalted, ?_, ?_, fun g hg => ?_⟩
  · rw [emberCheck_stop (emberMay_of_flag (by simp) hhalted)]
    exact stopEmber_level _
  · rw [emberCheck_flt, enterAllSafe_flt]
    rfl
  · refine (fld_congr CHG_MODE_MODE g 0 0 (emberCheck_regsKeep _ _ ?_)).trans (enterAllSafe_mode (List.mem_range.mpr hg) _)
    simp only [Field.key, CHG_MODE_MODE, FLT_STATUS_EMBER, List.mem_cons, List.not_mem_nil, or_false]
    omega

/-- The state in which a new halt by `src` is counted. -/
def haltCounted (src : Nat) (s : State) : State :=
  (State.addFld { s with flt := { s.flt with rehalt := false } } FLT_STATUS_HALTS 1).setFld FLT_STATUS_HALT_SRC src

theorem haltFor_new {s : State} (h : s.fld FLT_STATUS_HALTED = 0 ∨ s.flt.rehalt = true) (src : Nat) :
    haltFor src s = haltOutputs (haltCounted src s) := by
  unfold haltFor
  refine if_neg ?_
  rcases h with h | h
  · simp [on_of_zero h]
  · simp [h]

theorem haltFor_stands {s : State} (h : s.fld FLT_STATUS_HALTED = 1) (hr : s.flt.rehalt = false) (src : Nat) :
    haltFor src s = haltOutputs s := if_pos ⟨on_of_one h, by simp [hr]⟩

/-- A new halt: its source and its number. -/
theorem haltFor_new_status {src : Nat} (hs : src < 0x1000) (s : State) :
    (haltOutputs (haltCounted src s)).fld FLT_STATUS_HALT_SRC = src ∧
      (haltOutputs (haltCounted src s)).fld FLT_STATUS_HALTS = (s.fld FLT_STATUS_HALTS + 1) % 2 ^ 32 ∧
      (haltOutputs (haltCounted src s)).flt.rehalt = false := by
  obtain ⟨-, -, hrehalt, -⟩ := haltOutputs_effect (haltCounted src s)
  refine ⟨(fld_haltOutputs _ rfl rfl (by decide)).trans (fld_setFld_of_lt _ 0 (by decide) hs), ?_, hrehalt.trans rfl⟩
  refine (fld_haltOutputs _ rfl rfl (by decide)).trans ?_
  refine (fld_setFld_copy _ FLT_STATUS_HALT_SRC FLT_STATUS_HALTS _ 0 rfl (by decide) (by decide)).trans ?_
  exact fld_setFld_same _ FLT_STATUS_HALTS _ 0 0 0 (by unfold Field.good; decide)

/-! ### HALT_RELEASE (R680) -/

/-- The state with JOURNAL_MIN of FLT_CTL written. -/
def storeFltCtl (h : Half) (data : Word) (s : State) : State :=
  plainWrite (regInfo .FLT_CTL).fields FLT_CTL_RELEASE.off (fun _ => false) h data s

theorem storeFltCtl_onlyRegs (h : Half) (data : Word) (s : State) : onlyRegs [FLT_CTL_RELEASE.off] s (storeFltCtl h data s) :=
  plainWrite_onlyRegs _ _ _ _ _ _

theorem storeFltCtl_min {h : Half} (hh : h ≠ .high) (data : Word) (s : State) :
    (storeFltCtl h data s).fld FLT_CTL_JOURNAL_MIN = bits data 4 2 := by
  have hreg : (storeFltCtl h data s).reg FLT_CTL_RELEASE.off = writeField data h.mask false ⟨4, 2, .rw⟩ (s.reg FLT_CTL_RELEASE.off) :=
    reg_setReg_same s _ _
  change bits ((storeFltCtl h data s).reg FLT_CTL_RELEASE.off) 4 2 = _
  rw [hreg]
  exact bits_writeField_reached _ _ (by decide) fun i _ hi => mask_getLsbD_low hh (by omega)

/-- The state of a write of FLT_CTL by the owner, before RELEASE acts. -/
def releaseStart (m : Ident) (h : Half) (data : Word) (s : State) : State := storeFltCtl h data (renewLease m s)

theorem releaseStart_onlyRegs (m : Ident) (h : Half) (data : Word) (s : State) :
    onlyRegs [leaseKey, FLT_CTL_RELEASE.off] s (releaseStart m h data s) :=
  onlyRegs_trans (onlyRegs_mono (by simp) (onlyRegs_renewLease m s)) (onlyRegs_mono (by simp) (storeFltCtl_onlyRegs h data _))

/-- A field outside OWN_STATUS and FLT_CTL is not touched before RELEASE acts. -/
theorem fld_releaseStart (m : Ident) (h : Half) (data : Word) (s : State) {g : Field} (hg : 0x200000 < g.off) (i : Nat) :
    (releaseStart m h data s).fld g i = s.fld g i := by
  refine fld_congr g i 0 0 ((releaseStart_onlyRegs m h data s).2 _ ?_)
  simp only [Field.key, leaseKey, OWN_STATUS_LEASE_LEFT_MS, FLT_CTL_RELEASE, List.mem_cons, List.not_mem_nil, or_false]
  omega

theorem releaseStart_beside (m : Ident) (h : Half) (data : Word) (s : State) :
    (releaseStart m h data s).flt = s.flt ∧ (releaseStart m h data s).pwr = s.pwr := by
  rw [(releaseStart_onlyRegs m h data s).1]
  exact ⟨rfl, rfl⟩

/-- A write of FLT_CTL that passes has its effect: RELEASE acts where 1 is written to it. -/
theorem exec_haltRelease_admits {m : Ident} {s : State} (hadm : s.admits m .FLT_CTL []) (h : Half) (data : Word) :
    exec (.haltRelease m h data) s = .next (if wbit h data FLT_CTL_RELEASE then releaseHalt (releaseStart m h data s)
      else releaseStart m h data s) := by
  rw [exec_haltRelease]
  exact congrArg Host.Outcome.next (regWrite_admits hadm h _)

theorem exec_haltRelease_without {m : Ident} {s : State} (hadm : s.admits m .FLT_CTL []) {h : Half} {data : Word}
    (hbit : h = .high ∨ bit data 0 = false) : exec (.haltRelease m h data) s = .next (releaseStart m h data s) := by
  have hoff : wbit h data FLT_CTL_RELEASE = false := by
    by_cases hh : h = .high
    · rw [hh]
      exact wbit_high data (by decide)
    · exact (wbit_low hh data (by decide)).trans (hbit.resolve_left hh)
  rw [exec_haltRelease_admits hadm, hoff]
  rfl

theorem exec_haltRelease_with {m : Ident} {s : State} (hadm : s.admits m .FLT_CTL []) {h : Half} (hh : h ≠ .high) {data : Word}
    (hbit : bit data 0 = true) : exec (.haltRelease m h data) s = .next (releaseHalt (releaseStart m h data s)) := by
  rw [exec_haltRelease_admits hadm, (wbit_low hh data (by decide)).trans hbit]
  rfl

/-- A lost heartbeat or tick refuses a release. -/
theorem releaseHalt_refused {s : State} (h : s.fld FLT_STATUS_HB_LOST = 1 ∨ s.fld FLT_STATUS_TICK_LOST = 1) :
    releaseHalt s = s.setFld FLT_STATUS_RELEASE_REFUSED 1 := by
  refine if_pos (.inr ?_)
  exact h.imp on_of_one on_of_one

section
variable {s : State} (hfrozen : s.pwr.frozen = false) (hb : s.fld FLT_STATUS_HB_LOST = 0) (ht : s.fld FLT_STATUS_TICK_LOST = 0)
  (hhalt : s.fld FLT_STATUS_HALTED = 1)
include hfrozen hb ht hhalt

/-- A severity-3 raise in the cycle of the release keeps the outputs halted. -/
theorem releaseHalt_again (hr : ∃ r ∈ s.flt.reactions, r.sev = 3) :
    releaseHalt s = { s with flt := { s.flt with rehalt := true } } := by
  unfold releaseHalt
  rw [if_neg (by simp [hfrozen, on_of_zero hb, on_of_zero ht]), if_neg (by simp [on_of_one hhalt]), if_pos (by simpa using hr)]

/-- Else the halt ends. -/
theorem releaseHalt_ends (hr : ∀ r ∈ s.flt.reactions, r.sev ≠ 3) : releaseHalt s = emberCheck (s.setFld FLT_STATUS_HALTED 0) := by
  unfold releaseHalt
  rw [if_neg (by simp [hfrozen, on_of_zero hb, on_of_zero ht]), if_neg (by simp [on_of_one hhalt]), if_neg (by simpa using hr)]

end

/-- What the end of a halt leaves: the flag clear, JOURNAL_MIN, the count of halts and the groups' modes as they are. -/
theorem haltEnd_effect (s : State) : (emberCheck (s.setFld FLT_STATUS_HALTED 0)).fld FLT_STATUS_HALTED = 0 ∧
    (emberCheck (s.setFld FLT_STATUS_HALTED 0)).fld FLT_CTL_JOURNAL_MIN = s.fld FLT_CTL_JOURNAL_MIN ∧
    (emberCheck (s.setFld FLT_STATUS_HALTED 0)).fld FLT_STATUS_HALTS = s.fld FLT_STATUS_HALTS ∧
    ∀ g, (emberCheck (s.setFld FLT_STATUS_HALTED 0)).mode g = s.mode g := by
  refine ⟨?_, ?_, ?_, fun g => ?_⟩
  · exact (fld_emberCheck _ rfl (by decide)).trans (fld_setFld_of_lt s 0 (by decide) (by decide))
  · exact (fld_emberCheck _ rfl (by decide)).trans (fld_setFld_copy s FLT_STATUS_HALTED _ 0 0 rfl (by decide) (by decide))
  · exact (fld_emberCheck _ rfl (by decide)).trans (fld_setFld_copy s FLT_STATUS_HALTED _ 0 0 rfl (by decide) (by decide))
  · have hkey : CHG_MODE_MODE.key g 0 0 ≠ 0x200008 := by
      simp only [Field.key, CHG_MODE_MODE]
      omega
    refine fld_congr CHG_MODE_MODE g 0 0 ((emberCheck_regsKeep _ _ ?_).trans (reg_setFld_other s FLT_STATUS_HALTED _ _ _ _ _ hkey))
    simpa [FLT_STATUS_EMBER] using hkey

/-- A device that takes accesses is not frozen. -/
theorem frozen_of_admits {s : State} {m : Ident} {r : RegName} {ix : List Nat} (hadm : s.admits m r ix) : s.pwr.frozen = false := by
  have hdark := hadm.1
  unfold State.dark at hdark
  simp only [Bool.or_eq_false_iff] at hdark
  exact hdark.1.1

/-! ### FIRST_CAPTURE_REARM (R675) -/

theorem exec_rearmFirst_admits {m : Ident} {s : State} (hadm : s.admits m .FLT_FIRST_W1 []) (h : Half) (data : Word) :
    exec (.firstCaptureRearm m h data) s = .next (firstEffect h data (renewLease m s)) := by
  rw [exec_firstCaptureRearm]
  exact congrArg Host.Outcome.next (regWrite_admits hadm h _)

/-- A write of 1 to VALID clears both words. -/
theorem firstEffect_clears {h : Half} (hh : h ≠ .high) {data : Word} (hbit : bit data 15 = true) (s : State) :
    firstEffect h data s = (s.setReg FLT_FIRST_W0_WORD.off 0).setReg FLT_FIRST_W1_WORD.off 0 := by
  refine if_pos ?_
  unfold bit at hbit ⊢
  rw [BitVec.getLsbD_and, mask_getLsbD_low hh (by decide), hbit]
  rfl

theorem firstEffect_nothing {h : Half} {data : Word} (hbit : h = .high ∨ bit data 15 = false) (s : State) : firstEffect h data s = s := by
  refine if_neg ?_
  unfold bit at hbit ⊢
  rw [BitVec.getLsbD_and]
  rcases hbit with rfl | hbit
  · rw [mask_high_getLsbD_low (by decide), Bool.and_false]
    exact Bool.false_ne_true
  · rw [hbit, Bool.false_and]
    exact Bool.false_ne_true

/-! ### HISTORY_READ (R674) -/

theorem exec_historyRead_readable {k : Fin 32} {s : State} (hr : s.readable (FLT_HISTk_W0_WORD.key k 0 0)) (m : Ident) (h : Half) :
    exec (.historyRead m k h) s = .next (histReadEffect m k h s) := by
  rw [exec_historyRead]
  exact congrArg Host.Outcome.next (readFront_readable hr m h _)

/-- The state in which the reader of slot `n` has captured word 1 of history place `k`. -/
def captureHistory (n k : Nat) (s : State) : State :=
  { s with flt := { s.flt with
    captured := (n, k, s.reg (FLT_HISTk_W1_WORD.key k 0 0)) :: s.flt.captured.filter (fun c => decide (¬ (c.1 = n ∧ c.2.1 = k))) } }

theorem histReadEffect_slot {m : Ident} {n : Nat} (hn : slotOf m = some n) (k : Nat) (h : Half) (s : State) :
    histReadEffect m k h s = (captureHistory n k s).emit (.answer m (s.reg (FLT_HISTk_W0_WORD.key k 0 0) &&& h.mask)) := by
  unfold histReadEffect
  simp only [hn]
  rfl

theorem histReadEffect_noSlot {m : Ident} (hn : slotOf m = none) (k : Nat) (h : Half) (s : State) :
    histReadEffect m k h s = s.emit (.answer m (s.reg (FLT_HISTk_W0_WORD.key k 0 0) &&& h.mask)) := by
  unfold histReadEffect
  simp only [hn]

/-- The captured word is the one its reader finds, and the captures of other places stay. -/
theorem captureHistory_captured {m : Ident} {n : Nat} (hn : slotOf m = some n) (k : Nat) (s : State) :
    (captureHistory n k s).flt.captured.find? (fun c => decide (some c.1 = slotOf m ∧ c.2.1 = k)) =
        some (n, k, s.reg (FLT_HISTk_W1_WORD.key k 0 0)) ∧
      ∀ j v, (n, j, v) ∈ s.flt.captured → j ≠ k → (n, j, v) ∈ (captureHistory n k s).flt.captured := by
  refine ⟨?_, fun j v hmem hj => List.mem_cons_of_mem _ (List.mem_filter.mpr ⟨hmem, by simp [hj]⟩)⟩
  unfold captureHistory
  rw [List.find?_cons]
  simp [hn]

/-! ### The parts of O59 -/

/-- The reaction at severity 2 is the containment alone. -/
theorem contained {r : FltReaction} {s : State} (hr : s.flt.reactions = [r]) (hsev : r.sev = 2) :
    exec .faultReaction s = .next (containSource r (reactionsTaken s)) := by
  rw [exec_faultReaction_one hr, react_contains (by omega)]

/-- The reaction to a USER source of no region at severity 3 is the halt alone. -/
theorem halted_user {r : FltReaction} {s : State} (hr : s.flt.reactions = [r]) (hsev : r.sev = 3) (hlo : 0x800 ≤ r.source)
    (hregion : r.region = none) : exec .faultReaction s = .next (haltFor r.source (reactionsTaken s)) := by
  rw [exec_faultReaction_one hr, react_halts hsev, containSource_region (.inl hlo), hregion]
  rfl

/-- Settles O59: a raise is `raiseMark` and the router's vectors, a recording is `entryNote` and the journal's offer, a containment
stops the unit its source names, and a halt puts every group in SAFE by `enterAllSafe`. -/
theorem faultsAreRecordedAndContained : Obligations.FaultsAreRecordedAndContained := by
  unfold Obligations.FaultsAreRecordedAndContained
  refine ⟨fun m h data s hadm => ⟨fun hmay => ?_, fun hmay => ?_⟩, fun e l => mergePending_first,
    fun e p a l ha hp => mergePending_waiting l hp ha, fun e r s hpend => ?_,
    fun s => ⟨exec_faultRecord_nothing, exec_faultReaction_nothing, fun r hr hsev => ⟨fun g hg hsrc => ?_, fun hsrc => ?_,
      fun p hp hsrc => ?_, fun e he hsrc => ?_, fun k hsrc hregion => ?_, fun hsrc hregion => ?_⟩,
      fun r hr hsev hlo hhi hregion => ⟨fun hnew => ?_, fun hhalt hre => ?_⟩⟩,
    fun m h data s hadm => ⟨fun hbit => ?_, fun hh hbit => ⟨fun hb ht hhalt hnone => ?_, fun hb ht hhalt hsome => ?_, fun hlost => ?_⟩⟩,
    fun m h data s hadm => ⟨fun hh hbit => ?_, fun hbit => ?_⟩, fun m k h s hread => ?_⟩
  · refine ⟨_, (exec_fltRaiseWrite_admits hadm h data).trans (congrArg _ (fltRaiseEffect_raises hmay)), ?_⟩
    have hhi := bits_lt (data &&& h.mask) 0 12
    obtain ⟨hcount, hsev, hraised, hrecorded⟩ := userRaise_counts m hmay.2 hhi (raisingRegion m) (bits (data &&& h.mask) 32 32) s
    exact ⟨hcount, hsev, hraised, hrecorded, userRaise_collector m hmay.2 hhi _ _ s, userRaise_rest m hmay.2 hhi _ _ s,
      userRaise_quiet m hmay.2 hhi _ _ s, userRaise_first m hmay.2 hhi _ _ s⟩
  · rw [exec_fltRaiseWrite_admits hadm, fltRaiseEffect_refused hmay]
  · obtain ⟨hw0, hw1⟩ := entryRecorded_history e r s
    obtain ⟨hcount, hpending⟩ := entryRecorded_count e r s
    obtain ⟨hsource, hsev, hmerged, hvalid, hinfo, hseq⟩ := eventWord_fields e (s.fld FLT_COUNT_RECORDED)
    exact ⟨_, exec_faultRecord_entry hpend, hw0, hw1, hsource, hsev, hmerged, hvalid, hinfo, hseq, hcount, hpending,
      entryRecorded_first_free e r s, entryRecorded_first_held e r s, entryRecorded_below e r s, entryRecorded_queued e r s,
      entryRecorded_full e r s, entryRecorded_frame e r s⟩
  · refine ⟨_, (contained hr hsev).trans (congrArg _ (containSource_group hg hsrc _)), enterSafe_mode_same g _, ?_, ?_⟩
    · rw [enterSafe_flt]
      rfl
    · exact fld_congr FLT_STATUS_HALTED 0 0 0 (enterSafe_reg_low g (reactionsTaken s) (by decide))
  · exact ⟨_, (contained hr hsev).trans (congrArg _ (containSource_context hsrc _)),
      fld_setFld_of_lt _ 0 (by decide) (by decide), rfl, regsKeep_setFld (reactionsTaken s) CTX_ENG_CTL_EN 0 0 0 0⟩
  · exact ⟨_, (contained hr hsev).trans (congrArg _ (containSource_port hp hsrc _)),
      contained_port_disabled hp _⟩
  · exact ⟨_, (contained hr hsev).trans (congrArg _ (containSource_engine he hsrc _)), rfl⟩
  · rw [contained hr hsev, containSource_region (.inl hsrc), hregion]
    rfl
  · rw [contained hr hsev, containSource_region (.inr hsrc), hregion]
    rfl
  · obtain ⟨hhalted, hember, -, hmodes⟩ := haltOutputs_effect (haltCounted r.source (reactionsTaken s))
    obtain ⟨hsrc, hhalts, hrehalt⟩ := haltFor_new_status hhi (reactionsTaken s)
    rw [halted_user hr hsev hlo hregion, haltFor_new (s := reactionsTaken s) hnew]
    exact ⟨_, rfl, hhalted, hsrc, hhalts, hember, hrehalt, hmodes⟩
  · obtain ⟨hhalted, -, -, -⟩ := haltOutputs_effect (reactionsTaken s)
    rw [halted_user hr hsev hlo hregion, haltFor_stands (s := reactionsTaken s) hhalt hre]
    exact ⟨_, rfl, hhalted, fld_haltOutputs _ rfl rfl (by decide), fld_haltOutputs _ rfl rfl (by decide)⟩
  · exact ⟨_, exec_haltRelease_without hadm hbit, fun hh => storeFltCtl_min hh data _, releaseStart_onlyRegs m h data s⟩
  · obtain ⟨hflt, hpwr⟩ := releaseStart_beside m h data s
    obtain ⟨hend, hmin, hhalts, hmodes⟩ := haltEnd_effect (releaseStart m h data s)
    have hstart := fun (g : Field) (hg : 0x200000 < g.off) => fld_releaseStart m h data s hg
    rw [exec_haltRelease_with hadm hh hbit, releaseHalt_ends (by rw [hpwr]; exact frozen_of_admits hadm)
      ((hstart _ (by decide) 0).trans hb) ((hstart _ (by decide) 0).trans ht) ((hstart _ (by decide) 0).trans hhalt) (by rwa [hflt])]
    exact ⟨_, rfl, hend, hmin.trans (storeFltCtl_min hh data _), hhalts.trans (hstart _ (by decide) 0),
      fun g _ => (hmodes g).trans (hstart CHG_MODE_MODE (by decide) g)⟩
  · obtain ⟨hflt, hpwr⟩ := releaseStart_beside m h data s
    have hstart := fun (g : Field) (hg : 0x200000 < g.off) => fld_releaseStart m h data s hg 0
    rw [exec_haltRelease_with hadm hh hbit, releaseHalt_again (by rw [hpwr]; exact frozen_of_admits hadm)
      ((hstart _ (by decide)).trans hb) ((hstart _ (by decide)).trans ht) ((hstart _ (by decide)).trans hhalt) (by rwa [hflt])]
    exact ⟨_, rfl, (hstart FLT_STATUS_HALTED (by decide)).trans hhalt, rfl⟩
  · have hstart := fun (g : Field) (hg : 0x200000 < g.off) => fld_releaseStart m h data s hg 0
    rw [exec_haltRelease_with hadm hh hbit, releaseHalt_refused (by rwa [hstart _ (by decide), hstart _ (by decide)])]
    refine ⟨_, rfl, fld_setFld_of_lt _ 0 (by decide) (by decide), ?_, ?_⟩
    · exact (fld_setFld_copy _ FLT_STATUS_RELEASE_REFUSED FLT_STATUS_HALTED _ 0 rfl (by decide) (by decide)).trans (hstart _ (by decide))
    · exact onlyRegs_after_setFld FLT_STATUS_RELEASE_REFUSED 1 0 0 0
        (onlyRegs_mono (by simp +contextual) (releaseStart_onlyRegs m h data s)) (by decide)
  · rw [exec_rearmFirst_admits hadm, firstEffect_clears hh hbit]
    refine ⟨_, rfl, (reg_setReg_other _ _ (by decide)).trans (reg_setReg_same _ _ _), reg_setReg_same _ _ _, ?_⟩
    refine onlyRegs_trans (onlyRegs_mono (by simp) (onlyRegs_renewLease m s)) ⟨rfl, ?_⟩
    exact regsKeep_trans (regsKeep_mono (by simp) (regsKeep_setReg _ _ _)) (regsKeep_mono (by simp) (regsKeep_setReg _ _ _))
  · rw [exec_rearmFirst_admits hadm, firstEffect_nothing hbit]
  · rw [exec_historyRead_readable hread]
    refine ⟨_, rfl, ?_⟩
    cases hslot : slotOf m with
    | none =>
      rw [histReadEffect_noSlot hslot]
      exact ⟨rfl, rfl, fun n hn => absurd hn (by simp)⟩
    | some n =>
      rw [histReadEffect_slot hslot]
      refine ⟨rfl, rfl, fun n' hn => ?_⟩
      obtain rfl : n = n' := Option.some.inj hn
      rw [← hslot]
      exact captureHistory_captured hslot k.val s

end Sys2Proof.Machine
end

section
/-! SUPPORT. What every command leaves as it was (O3, O4, O5): the queue of waiting commands, and the canonical form of the
register file and the protected memories. `Tame s₀ s` says both of a state `s` reached from `s₀`; every function of the model
that answers a state keeps it, so each has one lemma of its own name, in the order of the model's files, whose proof names the
lemmas of the functions it calls in the order in which it calls them. -/

set_option Elab.async false

namespace Sys2Proof.Machine

/-- From `s₀` to `s` the queue of waiting commands stands as it was, and a canonical state has become a canonical one. -/
structure Tame (s₀ s : State) : Prop where
  queue : s.pending = s₀.pending
  form : s₀.canonical → s.canonical

/-- A command goes on from `s₀` to a state that `Tame` relates to it. -/
def Leads (s₀ : State) (o : Host.Outcome State Fault Refusal) : Prop := ∃ t, o = .next t ∧ Tame s₀ t

/-- `Tame` for every state that the outcome of a signal-engine instruction holds. -/
def SgeRes.Keeps (s₀ : State) : SgeRes → Prop
  | .data t _ _ => Tame s₀ t
  | .fin t _ _ _ _ _ _ _ => Tame s₀ t
  | .ended t => Tame s₀ t
  | _ => True

variable {s₀ s : State}

theorem Tame.refl (s : State) : Tame s s := ⟨rfl, id⟩

theorem Tame.next (hs : Tame s₀ s) : Leads s₀ (.next s) := ⟨s, rfl, hs⟩

/-- A state with the same queue, register file and protected memories. -/
theorem Tame.same {out free mends tck ctx chg sge nva ser cfg logic mm noc dram pcie ring lanes hc pwr flt} (hs : Tame s₀ s) :
    Tame s₀ ⟨s.pending, out, free, s.regs, s.mem, mends, tck, ctx, chg, sge, nva, ser, cfg, logic, mm, noc, dram, pcie, ring,
      lanes, hc, pwr, flt⟩ := ⟨hs.queue, hs.form⟩

/-- A step that keeps the canonical form of both stores and the queue. -/
theorem Tame.stores (hs : Tame s₀ s) {t : State} (hp : t.pending = s.pending)
    (hr : Memory.wf regReset s.regs = true → Memory.wf regReset t.regs = true)
    (hm : Memory.wf memDefault s.mem = true → Memory.wf memDefault t.mem = true) : Tame s₀ t :=
  ⟨hp.trans hs.queue, fun h => ⟨hr (hs.form h).1, hm (hs.form h).2⟩⟩

theorem Tame.of_fst {α : Type} {p : State × α} {a : α} {t : State} (h : Tame s₀ p.1) (e : p = (t, a)) : Tame s₀ t := by
  subst e; exact h

theorem Tame.of_snd {α : Type} {p : α × State} {a : α} {t : State} (h : Tame s₀ p.2) (e : p = (a, t)) : Tame s₀ t := by
  subst e; exact h

theorem Tame.of_thd {α β : Type} {p : α × β × State} {a : α} {b : β} {t : State} (h : Tame s₀ p.2.2) (e : p = (a, b, t)) :
    Tame s₀ t := by
  subst e; exact h

theorem Tame.foldl {α : Type} {f : State → α → State} {l : List α} (hs : Tame s₀ s)
    (hf : ∀ t a, Tame s₀ t → Tame s₀ (f t a)) : Tame s₀ (l.foldl f s) := by
  induction l generalizing s with
  | nil => exact hs
  | cons a l ih => exact ih (hf s a hs)

theorem Tame.foldl_fst {α β : Type} {f : State × β → α → State × β} {l : List α} {p : State × β} (hs : Tame s₀ p.1)
    (hf : ∀ p a, Tame s₀ p.1 → Tame s₀ (f p a).1) : Tame s₀ (l.foldl f p).1 := by
  induction l generalizing p with
  | nil => exact hs
  | cons a l ih => exact ih (hf p a hs)

theorem Tame.ite {p : Prop} [Decidable p] {t u : State} (ht : Tame s₀ t) (hu : Tame s₀ u) : Tame s₀ (if p then t else u) := by
  split
  · exact ht
  · exact hu

theorem Leads.ite {p : Prop} [Decidable p] {o o' : Host.Outcome State Fault Refusal} (h : Leads s₀ o) (h' : Leads s₀ o') :
    Leads s₀ (if p then o else o') := by
  split
  · exact h
  · exact h'

end Sys2Proof.Machine
end

section
/-! SUPPORT. `Tame` through the functions of Machine/Ops. -/

set_option Elab.async false

namespace Sys2Proof.Machine

variable {s₀ s : State}

theorem Tame.setReg {key : Nat} {v : Word} (hs : Tame s₀ s) : Tame s₀ (s.setReg key v) :=
  hs.stores rfl Memory.set_wf id

theorem Tame.setFld {f : Field} {v i j k : Nat} (hs : Tame s₀ s) : Tame s₀ (s.setFld f v i j k) := hs.setReg

theorem Tame.addFld {f : Field} {n i j k : Nat} (hs : Tame s₀ s) : Tame s₀ (s.addFld f n i j k) := hs.setFld

theorem Tame.maxFld {f : Field} {n i j k : Nat} (hs : Tame s₀ s) : Tame s₀ (s.maxFld f n i j k) := hs.setFld

theorem Tame.setMfld {f : Field} {slot v i : Nat} (hs : Tame s₀ s) : Tame s₀ (s.setMfld f slot v i) := hs.setReg

theorem Tame.clearReg {key : Nat} (hs : Tame s₀ s) : Tame s₀ (s.clearReg key) := hs.setReg

theorem Tame.setFbit {f : Field} {b : Nat} {v : Bool} {i j k : Nat} (hs : Tame s₀ s) : Tame s₀ (s.setFbit f b v i j k) :=
  hs.setReg

theorem Tame.emit {o : Out} (hs : Tame s₀ s) : Tame s₀ (s.emit o) := hs.same

theorem Tame.draw (hs : Tame s₀ s) : Tame s₀ (s.draw).2 := hs.same

theorem Tame.violation {m : Ident} {k : ViolKind} {write : Bool} {off : Nat} (hs : Tame s₀ s) :
    Tame s₀ (Machine.violation m k write off s) := by
  unfold Machine.violation
  split
  · exact hs
  · exact hs.addFld.setReg

theorem Tame.raiseVector {f v : Nat} (hs : Tame s₀ s) : Tame s₀ (Machine.raiseVector f v s) :=
  Tame.ite hs.setFbit.emit hs.setFbit.setReg

theorem Tame.routeOne {src f : Nat} {en vec : Field} (hs : Tame s₀ s) : Tame s₀ (Machine.routeOne src f en vec s) :=
  Tame.ite hs.raiseVector hs

theorem Tame.routeSource {src : Nat} (hs : Tame s₀ s) : Tame s₀ (Machine.routeSource src s) :=
  hs.routeOne.routeOne.routeOne.routeOne

theorem Tame.raiseFrom {region : Option Nat} {src info : Nat} (hs : Tame s₀ s) :
    Tame s₀ (Machine.raiseFrom region src info s) := by
  unfold Machine.raiseFrom
  split
  · exact hs
  · exact Tame.ite hs.routeSource (Tame.ite hs.addFld.addFld.same hs.addFld.addFld.same.routeSource)

theorem Tame.raise {src info : Nat} (hs : Tame s₀ s) : Tame s₀ (Machine.raise src info s) := hs.raiseFrom

theorem Tame.carryLate {f : Field} {n : Nat} (hs : Tame s₀ s) : Tame s₀ (Machine.carryLate f n s) :=
  Tame.ite hs hs.addFld.same

theorem Tame.setOwner {o : Option Ident} (hs : Tame s₀ s) : Tame s₀ (Machine.setOwner o s) := by
  unfold Machine.setOwner
  dsimp only
  refine Tame.raise ?_
  refine Tame.addFld ?_
  split
  · exact hs.setFld.setFld
  · exact hs.setFld.setFld

theorem Tame.clearHandover (hs : Tame s₀ s) : Tame s₀ (Machine.clearHandover s) := hs.setFld.setFld

theorem Tame.startLease (hs : Tame s₀ s) : Tame s₀ (Machine.startLease s) := hs.setFld

theorem Tame.renewLease {m : Ident} (hs : Tame s₀ s) : Tame s₀ (Machine.renewLease m s) := Tame.ite hs.startLease hs

theorem Tame.vacate (hs : Tame s₀ s) : Tame s₀ (Machine.vacate s) :=
  Tame.ite hs.clearHandover.setFld.setOwner hs.clearHandover

end Sys2Proof.Machine
end

section
/-! SUPPORT. `Tame` through the functions of Machine/Brocia. -/

set_option Elab.async false

namespace Sys2Proof.Machine

variable {s₀ s : State}

theorem Tame.modPort {p : Nat} {f : BrPort → BrPort} (hs : Tame s₀ s) : Tame s₀ (s.modPort p f) := hs.same

theorem Tame.putFrame {f : BrFrame} {p : Nat} (hs : Tame s₀ s) : Tame s₀ (Machine.putFrame f p s) := hs.modPort.emit

theorem Tame.pumpQueue {p : Nat} {l : List (Bool × BrFrame)} {blocked : List Nat} (hs : Tame s₀ s) :
    Tame s₀ (Machine.pumpQueue p l blocked s) := by
  induction l generalizing blocked s with
  | nil => exact hs
  | cons e r ih => exact Tame.ite (ih hs.putFrame) (ih hs.modPort)

theorem Tame.pumpPort {p : Nat} (hs : Tame s₀ s) : Tame s₀ (Machine.pumpPort p s) := hs.modPort.pumpQueue

theorem Tame.sendFrame {fresh : Bool} {f : BrFrame} {p : Nat} (hs : Tame s₀ s) : Tame s₀ (Machine.sendFrame fresh f p s) :=
  hs.modPort.pumpPort

theorem Tame.broadcast {ring : Nat} {f : BrFrame} (hs : Tame s₀ s) : Tame s₀ (Machine.broadcast ring f s) :=
  Tame.ite hs.sendFrame (Tame.ite hs.sendFrame hs)

theorem Tame.broadcastAll {f : BrFrame} (hs : Tame s₀ s) : Tame s₀ (Machine.broadcastAll f s) := hs.broadcast.broadcast

theorem Tame.portToStage1 {p : Nat} (hs : Tame s₀ s) : Tame s₀ (Machine.portToStage1 p s) :=
  hs.modPort.setFld.setFld.setFld.setFld.setFld.same

theorem Tame.linkDown {p : Nat} (hs : Tame s₀ s) : Tame s₀ (Machine.linkDown p s) := Tame.ite hs.portToStage1.addFld.raise hs

theorem Tame.execAck {p : Fin 4} {seq : Nat} (hs : Tame s₀ s) : Leads s₀ (Machine.execAck p seq s) :=
  Leads.ite hs.modPort.pumpPort.next hs.next

theorem Tame.resendAfter {p seq : Nat} (hs : Tame s₀ s) : Tame s₀ (Machine.resendAfter p seq s) :=
  Tame.ite hs.modPort (Tame.ite (Tame.linkDown (hs.modPort.addFld.foldl fun _ _ h0 => h0.emit))
      (hs.modPort.addFld.foldl fun _ _ h0 => h0.emit))

theorem Tame.execNak {p : Fin 4} {seq : Nat} (hs : Tame s₀ s) : Leads s₀ (Machine.execNak p seq s) :=
  Leads.ite hs.resendAfter.next hs.next

theorem Tame.execAckSend {p : Fin 4} (hs : Tame s₀ s) : Leads s₀ (Machine.execAckSend p s) := Leads.ite hs.emit.next hs.next

theorem Tame.execCred {p : Fin 4} {blocks : List Nat} (hs : Tame s₀ s) : Leads s₀ (Machine.execCred p blocks s) :=
  Leads.ite hs.modPort.pumpPort.next hs.next

theorem Tame.frameIn {p : Nat} (hs : Tame s₀ s) : Tame s₀ (Machine.frameIn p s) := hs.modPort

theorem Tame.execFrameCheckFail {p : Fin 4} {x : SeenFrame} (hs : Tame s₀ s) : Leads s₀ (Machine.execFrameCheckFail p x s) :=
  Leads.ite hs.addFld.emit.next hs.next

theorem Tame.execSyncErrBlock {p : Fin 4} {sync : BitVec 2} {line : BitVec 58} {raw : Word} (hs : Tame s₀ s) :
    Leads s₀ (Machine.execSyncErrBlock p sync line raw s) := Leads.ite hs.next hs.addFld.next

theorem Tame.execBrociaLinkDown {p : Fin 4} (hs : Tame s₀ s) : Leads s₀ (Machine.execBrociaLinkDown p s) := hs.linkDown.next

theorem Tame.execAlign {p : Fin 4} (hs : Tame s₀ s) : Leads s₀ (Machine.execAlign p s) := hs.modPort.next

theorem Tame.execAlignSend {p : Fin 4} (hs : Tame s₀ s) : Leads s₀ (Machine.execAlignSend p s) :=
  Leads.ite hs.emit.next hs.next

theorem Tame.execTick {p : Fin 4} {low8 : Nat} {sincePs : Int} (hs : Tame s₀ s) :
    Leads s₀ (Machine.execTick p low8 sincePs s) := hs.same.next

end Sys2Proof.Machine
end

section
/-! SUPPORT. `Tame` through the functions of Machine/Command. -/

set_option Elab.async false

namespace Sys2Proof.Machine

variable {s₀ s : State}

theorem Tame.setReplyQueue {slot : Nat} {l : List Reply} (hs : Tame s₀ s) : Tame s₀ (Machine.setReplyQueue slot l s) :=
  hs.setMfld.same

theorem Tame.queueReply {slot : Nat} {r : Reply} (hs : Tame s₀ s) : Tame s₀ (Machine.queueReply slot r s) :=
  Tame.ite hs.setReplyQueue.raise hs.setReplyQueue

theorem Tame.sendRemoteReply {m : Ident} {r : Reply} (hs : Tame s₀ s) : Tame s₀ (Machine.sendRemoteReply m r s) := by
  unfold Machine.sendRemoteReply
  split
  · exact hs.setMfld
  · exact hs.same.sendFrame

theorem Tame.sendReply {m : Ident} {r : Reply} (hs : Tame s₀ s) : Tame s₀ (Machine.sendReply m r s) := by
  unfold Machine.sendReply
  split
  · exact hs.sendRemoteReply
  · split
    · exact hs.queueReply
    · exact hs

theorem Tame.postReply {p : Packet} {st : Rs} {ws : List Word} (hs : Tame s₀ s) : Tame s₀ (Machine.postReply p st ws s) :=
  hs.sendReply

theorem Tame.freeEntry {m : Ident} (hs : Tame s₀ s) : Tame s₀ (Machine.freeEntry m s) := by
  unfold Machine.freeEntry
  split
  · split
    · exact hs.setMfld
    · exact hs
  · exact hs

theorem Tame.setQueue {c : Nat} {l : List Packet} (hs : Tame s₀ s) : Tame s₀ (Machine.setQueue c l s) := hs.setFld.same

theorem Tame.beginCommand {p : Packet} (hs : Tame s₀ s) : Tame s₀ (Machine.beginCommand p s) := by
  unfold Machine.beginCommand
  dsimp only
  refine Tame.setFld ?_
  refine Tame.same ?_
  refine Tame.addFld ?_
  split
  · exact hs.same.setQueue
  · split
    · split
      · exact hs.same.setMfld
      · exact hs.same
    · exact hs.same

theorem Tame.endCommand {p : Packet} {st : Rs} {ws : List Word} (hs : Tame s₀ s) : Tame s₀ (Machine.endCommand p st ws s) :=
  Tame.ite hs.same.setFld (Tame.ite hs.same.setFld.freeEntry hs.same.setFld.postReply)

theorem Tame.runCommand {opcode need : Nat} {rule : IssuerRule} {p : Packet} {work : State → State} (hs : Tame s₀ s)
    (hw : ∀ t, Tame s₀ t → Tame s₀ (work t)) : Tame s₀ (Machine.runCommand opcode need rule p work s) := by
  unfold Machine.runCommand
  split
  · exact hs
  · dsimp only
    split
    · exact hs.beginCommand.endCommand
    · exact hw _ hs.beginCommand

end Sys2Proof.Machine
end

section
/-! SUPPORT. `Tame` through the functions of Machine/Front. -/

set_option Elab.async false

namespace Sys2Proof.Machine

variable {s₀ s : State}

theorem Tame.answeredAt {e : Nat} (hs : Tame s₀ s) : Tame s₀ (Machine.answeredAt e s) := hs.setFld

theorem Tame.raiseEndpoint {e : Nat} (hs : Tame s₀ s) : Tame s₀ (Machine.raiseEndpoint e s) := Tame.ite hs.setFld hs

theorem Tame.openEndpoint {e : Nat} (hs : Tame s₀ s) : Tame s₀ (Machine.openEndpoint e s) := Tame.ite hs.setFld hs

theorem Tame.gatedAccess {m : Ident} {off : Nat} {write : Bool} (hs : Tame s₀ s) :
    Tame s₀ (Machine.gatedAccess m off write s) := hs.violation.addFld

theorem Tame.refusedPartial {m : Ident} {off : Nat} (hs : Tame s₀ s) : Tame s₀ (Machine.refusedPartial m off s) :=
  Tame.ite hs.violation hs

theorem Tame.windowFront {m : Ident} {write : Bool} {turned eff : State → State} (hs : Tame s₀ s)
    (ht : ∀ t, Tame s₀ t → Tame s₀ (turned t)) (he : ∀ t, Tame s₀ t → Tame s₀ (eff t)) :
    Tame s₀ (Machine.windowFront m write turned eff s) :=
  Tame.ite hs (Tame.ite (ht _ hs.violation.addFld.addFld) (Tame.ite (ht _ hs.gatedAccess) (he _ hs)))

theorem Tame.writeFront {m : Ident} {off : Nat} {w : Half} {acc : AccessClass} {eff : State → State} (hs : Tame s₀ s)
    (he : ∀ t, Tame s₀ t → Tame s₀ (eff t)) : Tame s₀ (Machine.writeFront m off w acc eff s) := by
  refine Tame.ite hs (Tame.ite hs.renewLease.gatedAccess ?_)
  cases acc with
  | ownerOnly => exact Tame.ite (he _ hs.renewLease) hs.renewLease.violation
  | anyMaster => exact he _ hs.renewLease
  | restricted => exact he _ hs.renewLease

theorem Tame.regWrite {r : RegName} {ix : List Nat} {m : Ident} {w : Half} {eff : State → State} (hs : Tame s₀ s)
    (he : ∀ t, Tame s₀ t → Tame s₀ (eff t)) : Tame s₀ (Machine.regWrite r ix m w eff s) := hs.writeFront he

theorem Tame.readFront {m : Ident} {off : Nat} {w : Half} {eff : State → State} (hs : Tame s₀ s)
    (he : ∀ t, Tame s₀ t → Tame s₀ (eff t)) : Tame s₀ (Machine.readFront m off w eff s) :=
  Tame.ite hs (Tame.ite (he _ hs) hs.gatedAccess.emit)

theorem Tame.plainWrite {fs : List FieldSpec} {key : Nat} {locked : Nat → Bool} {h : Half} {data : Word} (hs : Tame s₀ s) :
    Tame s₀ (Machine.plainWrite fs key locked h data s) := hs.setReg

end Sys2Proof.Machine
end

section
/-! SUPPORT. `Tame` through the functions of Machine/Protect. -/

set_option Elab.async false

namespace Sys2Proof.Machine

variable {s₀ s : State}

theorem Tame.setPword {key : Nat} {p : PWord} (hs : Tame s₀ s) : Tame s₀ (s.setPword key p) :=
  hs.stores rfl id Memory.set_wf

theorem Tame.writeP {key : Nat} {d : Word} (hs : Tame s₀ s) : Tame s₀ (s.writeP key d) := hs.setPword

theorem Tame.writePoison {key : Nat} {d : Word} (hs : Tame s₀ s) : Tame s₀ (s.writePoison key d) := hs.setPword

theorem Tame.noteMend {key : Nat} (hs : Tame s₀ s) : Tame s₀ (s.noteMend key) := Tame.ite hs.same hs

theorem Tame.mergeP {key : Nat} {mask d : Word} {poison : Bool} {t : State} (hs : Tame s₀ s)
    (e : s.mergeP key mask d poison = some t) : Tame s₀ t := by
  unfold State.mergeP at e
  split at e
  · exact absurd e (by simp)
  · obtain rfl := Option.some.inj e
    exact Tame.ite hs.writePoison hs.writeP

theorem Tame.writeMasked {key : Nat} {mask d : Word} {poison : Bool} {t : State} (hs : Tame s₀ s)
    (e : s.writeMasked key mask d poison = some t) : Tame s₀ t := by
  unfold State.writeMasked at e
  split at e
  · obtain rfl := Option.some.inj e
    exact Tame.ite hs.writePoison hs.writeP
  · exact hs.mergeP e

theorem Tame.execMendedWriteBack (hs : Tame s₀ s) : Leads s₀ (Machine.execMendedWriteBack s) := by
  unfold Machine.execMendedWriteBack
  split
  · exact hs.next
  · split
    · exact hs.setPword.next
    · exact hs.same.next

end Sys2Proof.Machine
end

section
/-! SUPPORT. `Tame` through the functions of Machine/Context. -/

set_option Elab.async false

namespace Sys2Proof.Machine

variable {s₀ s : State}

theorem Tame.noteCtx {id : Nat} (hs : Tame s₀ s) : Tame s₀ (s.noteCtx id) := hs.noteMend.noteMend.noteMend.noteMend

theorem Tame.putCtx {id : Nat} {c : Ctx} (hs : Tame s₀ s) : Tame s₀ (s.putCtx id c) := hs.writeP.writeP.writeP.writeP

theorem Tame.putTags {id dom : Nat} (hs : Tame s₀ s) : Tame s₀ (s.putTags id dom) := hs.same

theorem Tame.bumpState {st : Nat} {up : Bool} (hs : Tame s₀ s) : Tame s₀ (Machine.bumpState st up s) :=
  Tame.ite (Tame.ite hs.addFld hs.setFld) hs

theorem Tame.clearOver {d : Nat} (hs : Tame s₀ s) : Tame s₀ (Machine.clearOver d s) := Tame.ite hs.setFld hs

theorem Tame.moveCount {d a b : Nat} (hs : Tame s₀ s) : Tame s₀ (Machine.moveCount d a b s) :=
  Tame.ite (Tame.addFld (Tame.addFld (Tame.addFld (Tame.setFld (Tame.addFld (Tame.ite hs.bumpState.bumpState.setFld
      (Tame.ite hs.bumpState.bumpState.addFld hs.bumpState.bumpState))))))) (Tame.ite (Tame.clearOver (Tame.addFld
      (Tame.addFld (Tame.setFld (Tame.addFld (Tame.setFld (Tame.ite hs.bumpState.bumpState.setFld
      (Tame.ite hs.bumpState.bumpState.addFld hs.bumpState.bumpState)))))))) (Tame.ite hs.bumpState.bumpState.setFld
      (Tame.ite hs.bumpState.bumpState.addFld hs.bumpState.bumpState)))

theorem Tame.storeCtx {id d a : Nat} {c : Ctx} (hs : Tame s₀ s) : Tame s₀ (s.storeCtx id d a c) := hs.putCtx.moveCount

theorem Tame.freeCtx {id d a : Nat} (hs : Tame s₀ s) : Tame s₀ (s.freeCtx id d a) := hs.putCtx.moveCount

theorem Tame.quarantine {id : Nat} (hs : Tame s₀ s) : Tame s₀ (s.quarantine id) :=
  hs.writeP.moveCount.setFld.setFld.setFld.setFld.addFld.setFld.raise

theorem Tame.startRebuild (hs : Tame s₀ s) : Tame s₀ (Machine.startRebuild s) :=
  (hs.setFld.addFld).stores rfl id (Memory.filter_wf _)

theorem Tame.linkError (hs : Tame s₀ s) : Tame s₀ (Machine.linkError s) := hs.setFld.raise.startRebuild

theorem Tame.fileCarry {id d : Nat} (hs : Tame s₀ s) : Tame s₀ (s.fileCarry id d) := hs.same

theorem Tame.file {id d : Nat} {c : Ctx} (hs : Tame s₀ s) : Tame s₀ (s.file id d c) :=
  Tame.ite hs.noteMend.noteMend.linkError (Tame.ite hs.noteMend.noteMend
      (Tame.ite hs.noteMend.noteMend.fileCarry hs.noteMend.noteMend.same))

theorem Tame.writeFlightWord {i : Nat} (hs : Tame s₀ s) : Tame s₀ (s.writeFlightWord i) := hs.writeP

theorem Tame.setFlight {i : Nat} {e : Flight} (hs : Tame s₀ s) : Tame s₀ (s.setFlight i e) := hs.same

theorem Tame.hcRead {m : Ident} {id mask : Nat} (hs : Tame s₀ s) : Tame s₀ (Machine.hcRead m id mask s).1 := by
  unfold Machine.hcRead
  dsimp only
  split
  · exact hs
  · split
    · exact hs
    · split
      · exact hs.quarantine
      · dsimp only
        exact hs.noteCtx

theorem Tame.create {id d : Nat} {img : Ctx} (hs : Tame s₀ s) : Tame s₀ (s.create id d img) := hs.storeCtx.putTags

theorem Tame.checkTarget {id : Nat} (hs : Tame s₀ s) : Tame s₀ (s.checkTarget id) := Tame.ite hs.quarantine hs.noteMend

theorem Tame.ctxCreateWork {p : Packet} (hs : Tame s₀ s) : Tame s₀ (Machine.ctxCreateWork p s) := by
  unfold Machine.ctxCreateWork
  dsimp only
  split
  · exact hs.endCommand
  · split
    · exact hs.endCommand
    · split
      · exact hs.endCommand
      · split
        · split
          · exact hs.endCommand
          · exact hs.create.endCommand
        · exact Tame.ite hs.create.endCommand hs.checkTarget.endCommand

theorem Tame.execCtxCreate {p : Packet} (hs : Tame s₀ s) : Leads s₀ (Machine.execCtxCreate p s) :=
  Tame.next (hs.runCommand (fun _ h0 => h0.ctxCreateWork))

theorem Tame.createAll {d id : Nat} {l : List Ctx} (hs : Tame s₀ s) : Tame s₀ (Machine.createAll d id l s) := by
  induction l generalizing id s with
  | nil => exact hs
  | cons c r ih => exact ih hs.create

theorem Tame.overRange {step : Nat → RangeTally → RangeTally} {w : Word} (hs : Tame s₀ s)
    (hstep : ∀ id r, Tame s₀ r.st → Tame s₀ (step id r).st) : Tame s₀ (Machine.overRange step s w).st := by
  have : ∀ (l : List Nat) (r : RangeTally), Tame s₀ r.st →
      Tame s₀ (l.foldl (fun t k => step (rangeFirst w + k) t) r).st := by
    intro l
    induction l with
    | nil => exact fun _ h => h
    | cons k l ih => exact fun r h => ih _ (hstep _ r h)
  exact this _ _ hs

theorem Tame.ctxCreateBlockWork {p : Packet} {images : List (Word × Word × Word)} {st : Status} (hs : Tame s₀ s) :
    Tame s₀ (Machine.ctxCreateBlockWork p images st s) := by
  unfold Machine.ctxCreateBlockWork
  dsimp only
  split
  · exact hs.endCommand
  · split
    · exact hs.endCommand
    · split
      · exact hs.emit.endCommand
      · split
        · exact hs.emit.endCommand
        · split
          · exact hs.emit.endCommand
          · split
            · exact Tame.endCommand (hs.emit.foldl fun _ _ h2 => h2.checkTarget)
            · exact hs.emit.createAll.endCommand

theorem Tame.execCtxCreateBlock {p : Packet} {images : List (Word × Word × Word)} {st : Status} (hs : Tame s₀ s) :
    Leads s₀ (Machine.execCtxCreateBlock p images st s) := Tame.next (hs.runCommand (fun _ h0 => h0.ctxCreateBlockWork))

theorem Tame.armOne {m : Ident} {t rebase : Nat} {clear : Bool} {id : Nat} {r : RangeTally} (hs : Tame s₀ r.st) :
    Tame s₀ (Machine.armOne m t rebase clear id r).st := by
  unfold Machine.armOne
  split
  next e => exact hs.hcRead.of_fst e
  next e =>
    have h := hs.hcRead.of_fst e
    dsimp only
    split
    · dsimp only
      exact h.storeCtx.file
    · exact h

theorem Tame.ctxArmWork {p : Packet} (hs : Tame s₀ s) : Tame s₀ (Machine.ctxArmWork p s) :=
  Tame.ite hs.endCommand (Tame.ite hs.endCommand (hs.overRange fun _ _ h => h.armOne).endCommand)

theorem Tame.execCtxArm {p : Packet} (hs : Tame s₀ s) : Leads s₀ (Machine.execCtxArm p s) :=
  Tame.next (hs.runCommand (fun _ h0 => h0.ctxArmWork))

theorem Tame.pauseOne {m : Ident} {id : Nat} {r : RangeTally} (hs : Tame s₀ r.st) :
    Tame s₀ (Machine.pauseOne m id r).st := by
  unfold Machine.pauseOne
  split
  next e => exact hs.hcRead.of_fst e
  next e =>
    have h := hs.hcRead.of_fst e
    dsimp only
    split
    · exact h.storeCtx
    · split
      · split
        · exact h.setFlight
        · exact h
      · exact h

theorem Tame.ctxPauseWork {p : Packet} (hs : Tame s₀ s) : Tame s₀ (Machine.ctxPauseWork p s) :=
  Tame.ite hs.endCommand (hs.overRange fun _ _ h => h.pauseOne).endCommand

theorem Tame.execCtxPause {p : Packet} (hs : Tame s₀ s) : Leads s₀ (Machine.execCtxPause p s) :=
  Tame.next (hs.runCommand (fun _ h0 => h0.ctxPauseWork))

theorem Tame.destroyOne {m : Ident} {id : Nat} {r : RangeTally} (hs : Tame s₀ r.st) :
    Tame s₀ (Machine.destroyOne m id r).st := by
  unfold Machine.destroyOne
  split
  next e => exact hs.hcRead.of_fst e
  next e =>
    have h := hs.hcRead.of_fst e
    dsimp only
    split
    · split
      · exact h.setFlight
      · exact h
    · split
      · exact h
      · exact h.freeCtx

theorem Tame.ctxDestroyWork {p : Packet} (hs : Tame s₀ s) : Tame s₀ (Machine.ctxDestroyWork p s) :=
  Tame.ite hs.endCommand (hs.overRange fun _ _ h => h.destroyOne).endCommand

theorem Tame.execCtxDestroy {p : Packet} (hs : Tame s₀ s) : Leads s₀ (Machine.execCtxDestroy p s) :=
  Tame.next (hs.runCommand (fun _ h0 => h0.ctxDestroyWork))

theorem Tame.ctxReadWork {p : Packet} (hs : Tame s₀ s) : Tame s₀ (Machine.ctxReadWork p s) :=
  Tame.ite hs.endCommand hs.noteCtx.endCommand

theorem Tame.execCtxRead {p : Packet} (hs : Tame s₀ s) : Leads s₀ (Machine.execCtxRead p s) :=
  Tame.next (hs.runCommand (fun _ h0 => h0.ctxReadWork))

theorem Tame.bar2ReadEffect {m : Ident} {id k : Nat} {h : Half} (hs : Tame s₀ s) :
    Tame s₀ (Machine.bar2ReadEffect m id k h s) := Tame.ite (Tame.ite hs.emit hs.noteMend.emit) hs.violation.emit

theorem Tame.bar2ReadAt {m : Ident} {off size : Nat} (hs : Tame s₀ s) : Tame s₀ (Machine.bar2ReadAt m off size s) := by
  unfold Machine.bar2ReadAt
  split
  · exact hs.bar2ReadEffect
  · exact hs.violation.emit

theorem Tame.execBar2Read {m : Ident} {off size : Nat} (hs : Tame s₀ s) : Leads s₀ (Machine.execBar2Read m off size s) :=
  Tame.next (hs.windowFront (fun _ h0 => h0.emit) (fun _ h0 => h0.bar2ReadAt))

theorem Tame.bar2WriteEffect {m : Ident} {id k : Nat} {h : Half} {data : Word} {poison : Bool} (hs : Tame s₀ s) :
    Tame s₀ (Machine.bar2WriteEffect m id k h data poison s) := by
  unfold Machine.bar2WriteEffect
  dsimp only
  split
  · exact hs.violation.emit
  · split
    · exact hs.violation.emit
    · split
      next e0 => exact Tame.emit ((hs.writeMasked e0))
      · exact hs.violation.emit

theorem Tame.bar2WriteAt {m : Ident} {off size : Nat} {data : Word} {poison : Bool} (hs : Tame s₀ s) :
    Tame s₀ (Machine.bar2WriteAt m off size data poison s) := by
  unfold Machine.bar2WriteAt
  split
  · exact hs.bar2WriteEffect
  · exact hs.violation.emit

theorem Tame.execBar2Write {m : Ident} {off size : Nat} {data : Word} {poison : Bool} (hs : Tame s₀ s) :
    Leads s₀ (Machine.execBar2Write m off size data poison s) :=
    Tame.next (hs.windowFront (fun _ h0 => h0.emit) (fun _ h0 => h0.bar2WriteAt))

theorem Tame.updateOver {d : Nat} (hs : Tame s₀ s) : Tame s₀ (Machine.updateOver d s) := Tame.ite hs.setFld hs.clearOver

theorem Tame.domainCfgEffect {d : Nat} {v : Word} (hs : Tame s₀ s) : Tame s₀ (Machine.domainCfgEffect d v s) :=
  Tame.ite hs.setFld (Tame.updateOver (Tame.setFld (Tame.setFld (Tame.ite hs.setFld hs))))

theorem Tame.execDomainCfgWrite {m : Ident} {d : Fin 16} {h : Half} {data : Word} (hs : Tame s₀ s) :
    Leads s₀ (Machine.execDomainCfgWrite m d h data s) := Tame.next (hs.regWrite (fun _ h0 => h0.domainCfgEffect))

end Sys2Proof.Machine
end

section
/-! SUPPORT. `Tame` through the functions of Machine/Control. -/

set_option Elab.async false

namespace Sys2Proof.Machine

variable {s₀ s : State}

theorem Tame.refuseSubmission {m : Ident} {tag off : Nat} (hs : Tame s₀ s) :
    Tame s₀ (Machine.refuseSubmission m tag off s) := by
  unfold Machine.refuseSubmission
  dsimp only
  refine Tame.violation ?_
  split
  · exact hs.setMfld.setMfld
  · exact hs

theorem Tame.reserveEntry {m : Ident} (hs : Tame s₀ s) : Tame s₀ (Machine.reserveEntry m s) := by
  unfold Machine.reserveEntry
  split
  · split
    · exact hs.setMfld
    · exact hs
  · exact hs

theorem Tame.enqueuePacket {p : Packet} (hs : Tame s₀ s) : Tame s₀ (Machine.enqueuePacket p s) :=
  Tame.ite hs.addFld.postReply hs.setQueue

theorem Tame.acceptSubmission {p : Packet} {off : Nat} (hs : Tame s₀ s) : Tame s₀ (Machine.acceptSubmission p off s) :=
  Tame.ite hs.refuseSubmission hs.reserveEntry.enqueuePacket

theorem Tame.portEffect {m : Ident} {off size : Nat} {ws : List Word} (hs : Tame s₀ s) :
    Tame s₀ (Machine.portEffect m off size ws s) := Tame.ite hs.refuseSubmission hs.acceptSubmission

theorem Tame.execCommandPortWrite {m : Ident} {off size : Nat} {ws : List Word} (hs : Tame s₀ s) :
    Leads s₀ (Machine.execCommandPortWrite m off size ws s) := Tame.next (hs.writeFront (fun _ h0 => h0.portEffect))

theorem Tame.submitEffect {m : Ident} {h : Half} {header : Word} (hs : Tame s₀ s) :
    Tame s₀ (Machine.submitEffect m h header s) := by
  unfold Machine.submitEffect
  split
  · exact hs.refuseSubmission
  · split
    · exact hs.acceptSubmission
    · exact hs

theorem Tame.execCommandSubmit {m : Ident} {h : Half} {header : Word} (hs : Tame s₀ s) :
    Leads s₀ (Machine.execCommandSubmit m h header s) := Tame.next (hs.regWrite (fun _ h0 => h0.submitEffect))

theorem Tame.popEffect {m : Ident} {h : Half} {data : Word} (hs : Tame s₀ s) : Tame s₀ (Machine.popEffect m h data s) := by
  unfold Machine.popEffect
  split
  · exact hs
  · split
    · split
      · exact hs
      · exact hs.setReplyQueue.freeEntry
    · exact hs

theorem Tame.execReplyPop {m : Ident} {h : Half} {data : Word} (hs : Tame s₀ s) : Leads s₀
    (Machine.execReplyPop m h data s) :=
  Tame.next (hs.regWrite (fun _ h0 => h0.popEffect))

theorem Tame.loseReply (hs : Tame s₀ s) : Tame s₀ (Machine.loseReply s) := hs.setMfld

theorem Tame.replyInEffect {m : Ident} {header : Word} {ws : List Word} (hs : Tame s₀ s) :
    Tame s₀ (Machine.replyInEffect m header ws s) := by
  unfold Machine.replyInEffect
  split
  · exact hs.violation
  · dsimp only
    split
    · exact hs.loseReply
    · exact Tame.ite hs.reserveEntry.queueReply hs.loseReply

theorem Tame.execReplyInWrite {m : Ident} {header : Word} {ws : List Word} (hs : Tame s₀ s) :
    Leads s₀ (Machine.execReplyInWrite m header ws s) := Tame.next (hs.regWrite (fun _ h0 => h0.replyInEffect))

theorem Tame.execDomainSet {p : Packet} (hs : Tame s₀ s) : Leads s₀ (Machine.execDomainSet p s) :=
  Tame.next (hs.runCommand (fun _ h0 => Tame.ite (Tame.endCommand
      (Tame.ite h0.setFld h0)) h0.setReg.domainCfgEffect.endCommand))

theorem Tame.execDomainRead {p : Packet} (hs : Tame s₀ s) : Leads s₀ (Machine.execDomainRead p s) :=
  Tame.next (hs.runCommand (fun _ h0 => h0.endCommand))

theorem Tame.execEcho {p : Packet} (hs : Tame s₀ s) : Leads s₀ (Machine.execEcho p s) :=
  Tame.next (hs.runCommand (fun _ h0 => h0.endCommand))

theorem Tame.claimEffect {readers : List Ident} (hs : Tame s₀ s) : Tame s₀ (Machine.claimEffect readers s) := by
  unfold Machine.claimEffect
  split
  · exact Tame.ite hs.clearHandover.setOwner.startLease hs
  · split
    · exact hs
    · split
      · exact hs
      · exact hs.setOwner.startLease

theorem Tame.execOwnershipClaim {readers : List Ident} (hs : Tame s₀ s) : Leads s₀ (Machine.execOwnershipClaim readers s) :=
  Leads.ite hs.next (Tame.next (hs.claimEffect.foldl fun _ _ h0 => h0.emit))

theorem Tame.offerEffect {h : Half} {data : Word} (hs : Tame s₀ s) : Tame s₀ (Machine.offerEffect h data s) := by
  unfold Machine.offerEffect
  split
  · exact hs
  · exact Tame.ite hs (Tame.ite hs.setFld.clearHandover hs.setFld.setFld.setFld)

theorem Tame.handoverEffect {h : Half} {data : Word} (hs : Tame s₀ s) : Tame s₀ (Machine.handoverEffect h data s) :=
  Tame.ite hs.offerEffect.vacate hs.offerEffect

theorem Tame.execHandoverOffer {m : Ident} {h : Half} {data : Word} (hs : Tame s₀ s) :
    Leads s₀ (Machine.execHandoverOffer m h data s) := Tame.next (hs.regWrite (fun _ h0 => h0.handoverEffect))

theorem Tame.execOwnerRelease {m : Ident} {h : Half} {data : Word} (hs : Tame s₀ s) :
    Leads s₀ (Machine.execOwnerRelease m h data s) := Tame.next (hs.regWrite (fun _ h0 => h0.handoverEffect))

theorem Tame.execHandoverExpire (hs : Tame s₀ s) : Leads s₀ (Machine.execHandoverExpire s) :=
  Tame.next (Tame.ite hs.clearHandover hs)

theorem Tame.execLeaseExpire (hs : Tame s₀ s) : Leads s₀ (Machine.execLeaseExpire s) :=
  Tame.next (Tame.ite hs.raise.setFld.addFld.vacate hs)

theorem Tame.leaseEffect {h : Half} {data : Word} (hs : Tame s₀ s) : Tame s₀ (Machine.leaseEffect h data s) :=
  hs.plainWrite.startLease

theorem Tame.doorbellEvent {r : Nat} {was : Bool} (hs : Tame s₀ s) : Tame s₀ (Machine.doorbellEvent r was s) :=
  Tame.ite hs.raise hs

theorem Tame.ringDoorbell {r b : Nat} (hs : Tame s₀ s) : Tame s₀ (Machine.ringDoorbell r b s) := hs.setFbit.doorbellEvent

theorem Tame.doorbellEffect {r : Nat} {m : Ident} {h : Half} {data : Word} (hs : Tame s₀ s) :
    Tame s₀ (Machine.doorbellEffect r m h data s) := Tame.ite hs.plainWrite.doorbellEvent hs.violation

theorem Tame.putSlot {b : Nat} {ws : List Word} (hs : Tame s₀ s) : Tame s₀ (Machine.putSlot b ws s) :=
  hs.foldl fun _ _ h0 => h0.setReg

theorem Tame.acceptMessage {m : Ident} {b : Nat} {ws : List Word} (hs : Tame s₀ s) : Tame s₀
    (Machine.acceptMessage m b ws s) :=
  Tame.ite (Tame.ringDoorbell (Tame.setFld (Tame.setFld (Tame.addFld (Tame.putSlot
      (Tame.ite hs.setFld.addFld hs.setFld)))))) (Tame.setFld (Tame.setFld (Tame.addFld (Tame.putSlot
      (Tame.ite hs.setFld.addFld hs.setFld)))))

theorem Tame.sendMessage {m : Ident} {b off : Nat} {ws : List Word} (hs : Tame s₀ s) :
    Tame s₀ (Machine.sendMessage m b off ws s) := Tame.ite hs.acceptMessage hs.violation

theorem Tame.slotWriteEffect {m : Ident} {b first : Nat} {ws : List Word} (hs : Tame s₀ s) :
    Tame s₀ (Machine.slotWriteEffect m b first ws s) := Tame.ite hs.sendMessage hs.violation

theorem Tame.execMailboxSend {m : Ident} {mb : Fin 256} {first : Nat} {ws : List Word} (hs : Tame s₀ s) :
    Leads s₀ (Machine.execMailboxSend m mb first ws s) := Tame.next (hs.writeFront (fun _ h0 => h0.slotWriteEffect))

theorem Tame.stageSendEffect {m : Ident} {h : Half} {data : Word} (hs : Tame s₀ s) :
    Tame s₀ (Machine.stageSendEffect m h data s) := by
  unfold Machine.stageSendEffect
  split
  · exact hs.sendMessage
  · exact hs

theorem Tame.execMbxSend {m : Ident} {h : Half} {data : Word} (hs : Tame s₀ s) : Leads s₀ (Machine.execMbxSend m h data s) :=
  Tame.next (hs.regWrite (fun _ h0 => h0.stageSendEffect))

theorem Tame.takeEffect {b : Nat} {m : Ident} {h : Half} {data : Word} (hs : Tame s₀ s) :
    Tame s₀ (Machine.takeEffect b m h data s) := by
  unfold Machine.takeEffect
  split
  · exact hs.violation
  · split
    · exact hs
    · exact Tame.ite hs.setFld.addFld hs

theorem Tame.execMailboxTake {m : Ident} {mb : Fin 256} {h : Half} {data : Word} (hs : Tame s₀ s) :
    Leads s₀ (Machine.execMailboxTake m mb h data s) := Tame.next (hs.regWrite (fun _ h0 => h0.takeEffect))

theorem Tame.mailboxAudit (hs : Tame s₀ s) : Tame s₀ (Machine.mailboxAudit s) := by
  unfold Machine.mailboxAudit
  split
  · exact hs
  · exact Tame.raise (Tame.addFld (Tame.setFld (Tame.ite hs hs.setFld)))

end Sys2Proof.Machine
end

section
/-! SUPPORT. `Tame` through the functions of Machine/Groups. -/

set_option Elab.async false

namespace Sys2Proof.Machine

variable {s₀ s : State}

theorem Tame.setGrp {g : Nat} {x : Group} (hs : Tame s₀ s) : Tame s₀ (s.setGrp g x) := hs.same

theorem Tame.modGrp {g : Nat} {f : Group → Group} (hs : Tame s₀ s) : Tame s₀ (s.modGrp g f) := hs.setGrp

theorem Tame.showDriver {g i : Nat} (hs : Tame s₀ s) : Tame s₀ (Machine.showDriver g s i) := hs.setFld

theorem Tame.modChan {g i : Nat} {f : Chan → Chan} (hs : Tame s₀ s) : Tame s₀ (s.modChan g i f) := hs.modGrp.showDriver

theorem Tame.modChans {g : Nat} {p : Chan → Bool} {f : Chan → Chan} (hs : Tame s₀ s) : Tame s₀ (s.modChans g p f) :=
  hs.foldl fun _ _ h0 => Tame.ite h0.modChan h0

theorem Tame.syncQueue {g : Nat} (hs : Tame s₀ s) : Tame s₀ (Machine.syncQueue g s) := hs.setFld

theorem Tame.setHolder {g i : Nat} {o : Option Claimer} (hs : Tame s₀ s) : Tame s₀ (Machine.setHolder g i o s) :=
  hs.modChan.setFbit

theorem Tame.loadEdges {g : Nat} (hs : Tame s₀ s) : Tame s₀ (Machine.loadEdges g s) := by
  unfold Machine.loadEdges
  exact hs.modGrp.modGrp

theorem Tame.endStep {g : Nat} (hs : Tame s₀ s) : Tame s₀ (Machine.endStep g s) := by
  unfold Machine.endStep
  exact (hs.foldl fun _ _ h0 => h0.modChan).modGrp

theorem Tame.abandonStep {g : Nat} (hs : Tame s₀ s) : Tame s₀ (Machine.abandonStep g s) := by
  unfold Machine.abandonStep
  split
  · exact hs
  · exact hs.endStep.addFld

theorem Tame.abandonFor {g i : Nat} (hs : Tame s₀ s) : Tame s₀ (Machine.abandonFor g i s) := by
  unfold Machine.abandonFor
  split
  · exact hs
  · exact Tame.ite hs.abandonStep hs

theorem Tame.keeperLevel {c : Chan} (hs : Tame s₀ s) : Tame s₀ (Machine.keeperLevel c s).2 := by
  unfold Machine.keeperLevel
  split
  · exact hs
  · exact hs.draw

theorem Tame.safeChan {g i : Nat} (hs : Tame s₀ s) : Tame s₀ (Machine.safeChan g s i) := by
  refine Tame.ite hs.modChan (Tame.modChan ?_)
  split
  · exact hs.keeperLevel
  · exact hs

theorem Tame.applySafe {g : Nat} (hs : Tame s₀ s) : Tame s₀ (Machine.applySafe g s) := hs.foldl fun _ _ h0 => h0.safeChan

theorem Tame.claimsDone {g slot : Nat} (hs : Tame s₀ s) : Tame s₀ (Machine.claimsDone g slot s) := hs.modGrp

theorem Tame.claimStep {g slot : Nat} (hs : Tame s₀ s) : Tame s₀ (Machine.claimStep g slot s).1 := by
  unfold Machine.claimStep
  split
  · exact hs.claimsDone
  · split
    · exact hs.emit
    · dsimp only
      split
      · dsimp only
        exact hs.abandonFor.modGrp
      · dsimp only
        exact hs.abandonFor.setHolder.modGrp
  · exact hs

theorem Tame.claimRounds {n g : Nat} {slots : List Nat} (hs : Tame s₀ s) : Tame s₀ (Machine.claimRounds n g slots s) := by
  induction n generalizing slots s with
  | zero => exact hs
  | succ n ih =>
    unfold Machine.claimRounds
    extract_lets r
    have hr : Tame s₀ r.1 := Tame.foldl_fst hs fun _ _ h => h.claimStep
    exact Tame.ite hr (ih hr)

theorem Tame.goOn {g : Nat} {slots : List Nat} (hs : Tame s₀ s) : Tame s₀ (Machine.goOn g slots s) := hs.claimRounds

theorem Tame.noteGrant {g slot c : Nat} (hs : Tame s₀ s) : Tame s₀ (Machine.noteGrant g slot c s).1 := by
  unfold Machine.noteGrant
  split
  · split
    · dsimp only
      exact hs.modGrp
    · exact hs
  · exact hs

theorem Tame.grantWaiting {g i : Nat} (hs : Tame s₀ s) : Tame s₀ (Machine.grantWaiting g i s).1 := by
  unfold Machine.grantWaiting
  split
  · exact hs
  · split
    · exact hs
    · dsimp only
      split
      · exact hs.modGrp.setHolder.noteGrant
      · exact hs.modGrp.setHolder.emit

theorem Tame.freeChan {g i : Nat} {who : Claimer} (hs : Tame s₀ s) : Tame s₀ (Machine.freeChan g i who s) :=
  Tame.ite hs.modGrp.setHolder hs.modGrp

theorem Tame.grantFreed {g : Nat} {l : List Nat} (hs : Tame s₀ s) : Tame s₀ (Machine.grantFreed g l s) := by
  unfold Machine.grantFreed
  extract_lets r
  have hr : Tame s₀ r.1 := Tame.foldl_fst hs fun _ _ h => h.grantWaiting
  exact hr.goOn

theorem Tame.releaseChan {g i : Nat} {who : Claimer} (hs : Tame s₀ s) : Tame s₀ (Machine.releaseChan g i who s) :=
  hs.freeChan.grantFreed

theorem Tame.releaseAll {g slot : Nat} {l : List Nat} (hs : Tame s₀ s) : Tame s₀ (Machine.releaseAll g slot l s) :=
  Tame.grantFreed (Tame.foldl (hs.foldl fun _ _ h0 => h0.emit) fun _ _ h0 => h0.freeChan)

theorem Tame.unitOff {c : Nat} (hs : Tame s₀ s) : Tame s₀ (Machine.unitOff s c) := hs.modGrp

theorem Tame.dropQuantities {g slot : Nat} (hs : Tame s₀ s) : Tame s₀ (Machine.dropQuantities g slot s) :=
  hs.foldl fun _ _ h0 => Tame.ite h0.modGrp.setFld h0

theorem Tame.answerAct {g : Nat} {a : GAct} {st : Status} {value : Nat} (hs : Tame s₀ s) :
    Tame s₀ (Machine.answerAct g a st value s) := Tame.releaseAll (Tame.answeredAt (Tame.emit (Tame.syncQueue (Tame.modGrp
        (hs.foldl fun _ _ h0 => h0.unitOff)))))

theorem Tame.cutCompanion {c : Nat} (hs : Tame s₀ s) : Tame s₀ (Machine.cutCompanion s c) := hs.modChan

theorem Tame.fenceAct {g slot : Nat} (hs : Tame s₀ s) : Tame s₀ (Machine.fenceAct g s slot) := by
  unfold Machine.fenceAct
  split
  · exact hs
  · exact Tame.answerAct (hs.dropQuantities.foldl fun _ _ h1 => h1.cutCompanion)

theorem Tame.endStream {g : Nat} (hs : Tame s₀ s) : Tame s₀ (Machine.endStream g s) := by
  unfold Machine.endStream
  split
  · exact hs
  · exact hs.modGrp.setFld.setFld

theorem Tame.refuseCompanions {g : Nat} (hs : Tame s₀ s) : Tame s₀ (Machine.refuseCompanions g s) :=
  hs.modGrp.foldl fun _ _ h0 => h0.emit

theorem Tame.syncPlaying {g : Nat} (hs : Tame s₀ s) : Tame s₀ (Machine.syncPlaying g s) := hs.setFld

theorem Tame.closeFabric {g : Nat} (hs : Tame s₀ s) : Tame s₀ (Machine.closeFabric g s) :=
  Tame.ite hs (Tame.syncPlaying (Tame.ite hs.modGrp hs.modGrp.modGrp.applySafe))

theorem Tame.openFabric {g : Nat} (hs : Tame s₀ s) : Tame s₀ (Machine.openFabric g s) :=
  Tame.ite hs hs.modGrp.modChans.loadEdges.syncPlaying

theorem Tame.followRegion {r : Nat} (hs : Tame s₀ s) : Tame s₀ (Machine.followRegion r s) :=
  hs.foldl fun _ _ h0 => Tame.ite (Tame.ite h0.openFabric h0.closeFabric) h0

theorem Tame.leaveMode {g mode : Nat} (hs : Tame s₀ s) : Tame s₀ (Machine.leaveMode g mode s) :=
  Tame.syncPlaying (Tame.ite (Tame.applySafe (Tame.foldl (Tame.modGrp (Tame.ite (Tame.endStream (Tame.modGrp (Tame.setFld
      (Tame.ite hs.abandonStep hs)))) (Tame.refuseCompanions (Tame.endStream (Tame.modGrp (Tame.setFld
      (Tame.ite hs.abandonStep hs))))))) fun _ _ h0 => h0.fenceAct)) (Tame.modChans (Tame.foldl (Tame.modGrp (Tame.ite
      (Tame.endStream (Tame.modGrp (Tame.setFld (Tame.ite hs.abandonStep hs)))) (Tame.refuseCompanions (Tame.endStream
      (Tame.modGrp (Tame.setFld (Tame.ite hs.abandonStep hs))))))) fun _ _ h0 => h0.fenceAct)))

theorem Tame.enterSafe {g : Nat} (hs : Tame s₀ s) : Tame s₀ (Machine.enterSafe g s) :=
  Tame.ite hs.setFld.setFld.modGrp.abandonStep hs.setFld.setFld.modGrp.abandonStep.leaveMode

theorem Tame.applyMode {g : Nat} {v : Word} (hs : Tame s₀ s) : Tame s₀ (Machine.applyMode g v s) :=
  Tame.ite (Tame.setFld (Tame.ite hs.modGrp hs.modGrp.leaveMode)) (Tame.ite (Tame.openFabric (Tame.setFld
      (Tame.ite hs.modGrp hs.modGrp.leaveMode))) (Tame.closeFabric (Tame.setFld (Tame.ite hs.modGrp hs.modGrp.leaveMode))))

theorem Tame.modeAtBoundary {g : Nat} (hs : Tame s₀ s) : Tame s₀ (Machine.modeAtBoundary g s) := by
  unfold Machine.modeAtBoundary
  split
  · exact hs
  · exact Tame.applyMode (Tame.ite hs.modGrp hs.setFld)

theorem Tame.modeEffect {g : Nat} {h : Half} {data : Word} (hs : Tame s₀ s) : Tame s₀ (Machine.modeEffect g h data s) :=
  Tame.ite hs (Tame.ite hs.enterSafe (Tame.ite hs hs.setFld.setFld.setFld.setFld.setFld.modGrp))

theorem Tame.execModeWrite {m : Ident} {g : Fin 128} {h : Half} {data : Word} (hs : Tame s₀ s) :
    Leads s₀ (Machine.execModeWrite m g h data s) := Tame.next (hs.regWrite (fun _ h0 => h0.modeEffect))

theorem Tame.execForceSafe {m : Ident} {g : Fin 128} {h : Half} {data : Word} (hs : Tame s₀ s) :
    Leads s₀ (Machine.execForceSafe m g h data s) := Tame.next (hs.regWrite (fun _ h0 => h0.modeEffect))

theorem Tame.keepersOn {g old : Nat} (hs : Tame s₀ s) : Tame s₀ (Machine.keepersOn g old s) :=
  Tame.foldl (Tame.ite hs hs.draw) fun _ _ h0 => Tame.ite h0 h0.modChan

theorem Tame.setSafeState {g v : Nat} (hs : Tame s₀ s) : Tame s₀ (Machine.setSafeState g v s) :=
  Tame.ite hs.setFld.keepersOn hs.setFld

theorem Tame.safeStateEffect {g : Nat} {h : Half} {data : Word} (hs : Tame s₀ s) :
    Tame s₀ (Machine.safeStateEffect g h data s) := Tame.ite hs hs.setSafeState

theorem Tame.execSafeStateWrite {m : Ident} {g : Fin 128} {h : Half} {data : Word} (hs : Tame s₀ s) :
    Leads s₀ (Machine.execSafeStateWrite m g h data s) := Tame.next (hs.regWrite (fun _ h0 => h0.safeStateEffect))

theorem Tame.levelEffect {g : Nat} {h : Half} {data : Word} (hs : Tame s₀ s) : Tame s₀ (Machine.levelEffect g h data s) :=
  Tame.ite hs (Tame.ite hs.setFld hs.setFld.setFld)

theorem Tame.execLevelWrite {m : Ident} {g : Fin 128} {h : Half} {data : Word} (hs : Tame s₀ s) :
    Leads s₀ (Machine.execLevelWrite m g h data s) := Tame.next (hs.regWrite (fun _ h0 => h0.levelEffect))

theorem Tame.periodEffect {g : Nat} {h : Half} {data : Word} (hs : Tame s₀ s) : Tame s₀ (Machine.periodEffect g h data s) :=
  Tame.ite hs (Tame.ite hs.setFld hs.setFld.modGrp)

theorem Tame.execPeriodWrite {m : Ident} {g : Fin 128} {h : Half} {data : Word} (hs : Tame s₀ s) :
    Leads s₀ (Machine.execPeriodWrite m g h data s) := Tame.next (hs.regWrite (fun _ h0 => h0.periodEffect))

theorem Tame.periodAtBoundary {g : Nat} (hs : Tame s₀ s) : Tame s₀ (Machine.periodAtBoundary g s) := by
  unfold Machine.periodAtBoundary
  split
  · exact hs.modGrp
  · exact hs

theorem Tame.pendEdge {g i : Nat} (hs : Tame s₀ s) : Tame s₀ (Machine.pendEdge g i s) := hs.modGrp

theorem Tame.edgesEffect {g i : Nat} {h : Half} {data : Word} (hs : Tame s₀ s) : Tame s₀ (Machine.edgesEffect g i h data s) :=
  Tame.ite hs.setFld hs.setFld.setFld.pendEdge

theorem Tame.execEdgesWrite {m : Ident} {g : Fin 128} {i : Fin 16} {h : Half} {data : Word} (hs : Tame s₀ s) :
    Leads s₀ (Machine.execEdgesWrite m g i h data s) := Tame.next (hs.regWrite (fun _ h0 => h0.edgesEffect))

theorem Tame.storeDeskew {g i drv stb : Nat} (hs : Tame s₀ s) : Tame s₀ (Machine.storeDeskew g i drv stb s) :=
  Tame.pendEdge (Tame.ite (Tame.ite hs hs.setFld) (Tame.setFld (Tame.ite hs hs.setFld)))

theorem Tame.deskewEffect {g i : Nat} {h : Half} {data : Word} (hs : Tame s₀ s) : Tame s₀
    (Machine.deskewEffect g i h data s) :=
  Tame.ite hs hs.storeDeskew

theorem Tame.bumpVecAddr {g : Nat} (hs : Tame s₀ s) : Tame s₀ (Machine.bumpVecAddr g s) := hs.addFld

theorem Tame.vecWriteEffect {m : Ident} {g : Nat} {h : Half} {data : Word} (hs : Tame s₀ s) :
    Tame s₀ (Machine.vecWriteEffect m g h data s) := by
  unfold Machine.vecWriteEffect
  split
  · exact hs
  · dsimp only
    split
    · split
      next e0 => exact (hs.writeMasked e0)
      · exact hs.refusedPartial
    · refine Tame.bumpVecAddr ?_
      split
      next e0 => exact (hs.writeMasked e0)
      · exact hs.refusedPartial

theorem Tame.vecReadEffect {m : Ident} {g : Nat} {h : Half} (hs : Tame s₀ s) : Tame s₀ (Machine.vecReadEffect m g h s) :=
  Tame.ite (Tame.ite hs.emit hs.noteMend.emit) (Tame.bumpVecAddr (Tame.ite hs.emit hs.noteMend.emit))

theorem Tame.execVecDataAccess {m : Ident} {g : Fin 128} {h : Half} {data : Option Word} (hs : Tame s₀ s) :
    Leads s₀ (Machine.execVecDataAccess m g h data s) := by
  unfold Machine.execVecDataAccess
  split
  · exact Tame.next (hs.regWrite (fun _ h1 => h1.vecWriteEffect))
  · exact Tame.next (hs.readFront (fun _ h1 => h1.vecReadEffect))

theorem Tame.driveEdge {g sym i : Nat} (hs : Tame s₀ s) : Tame s₀ (Machine.driveEdge g sym i s) := hs.modChan

theorem Tame.returnEdge {g sym i : Nat} (hs : Tame s₀ s) : Tame s₀ (Machine.returnEdge g sym i s) := by
  unfold Machine.returnEdge
  split
  · exact hs
  · exact hs.modChan

theorem Tame.strobeChan {g : Nat} {balls : List Int} {i : Nat} (hs : Tame s₀ s) : Tame s₀ (Machine.strobeChan g balls s i) :=
  hs.setFld

theorem Tame.countSymbols {g : Nat} {vec : Word} {l : List Nat} (hs : Tame s₀ s) : Tame s₀ (Machine.countSymbols g vec l s) :=
  hs.foldl fun _ _ h0 => Tame.ite h0.addFld (Tame.ite h0.addFld.setFld h0)

theorem Tame.fireEntry {g j : Nat} (hs : Tame s₀ s) : Tame s₀ (Machine.fireEntry g s j) :=
  Tame.ite hs.setFbit.addFld.emit.modGrp.setFld.modGrp hs.setFbit.addFld.emit.modGrp

theorem Tame.reflexUnit {g : Nat} (hs : Tame s₀ s) : Tame s₀ (Machine.reflexUnit g s) :=
  Tame.ite (hs.foldl fun _ _ h0 => h0.fireEntry) hs

theorem Tame.reflexDrive {g : Nat} {r : Response} {i : Nat} (hs : Tame s₀ s) : Tame s₀ (Machine.reflexDrive g r s i) :=
  Tame.ite hs (Tame.ite hs.addFld hs.emit.modChan)

theorem Tame.act {g : Nat} {v : VecEvent} (hs : Tame s₀ s) : Tame s₀ (VecEvent.act g s v) := by
  cases v with
  | drive i sym => exact hs.driveEdge
  | ret i sym => exact hs.returnEdge
  | response r => exact hs.foldl fun _ _ h => h.reflexDrive

theorem Tame.playEvents {g : Nat} {l : List VecEvent} (hs : Tame s₀ s) : Tame s₀ (Machine.playEvents g l s) :=
  hs.modGrp.foldl fun _ _ h0 => h0.act

theorem Tame.playVector {g : Nat} {vec : Option Word} {balls : List Int} (hs : Tame s₀ s) :
    Tame s₀ (Machine.playVector g vec balls s) := by
  unfold Machine.playVector
  dsimp only
  split
  · exact Tame.playEvents (Tame.reflexUnit (Tame.emit (Tame.countSymbols (hs.foldl fun _ _ h1 => h1.strobeChan))))
  · exact Tame.playEvents (Tame.reflexUnit (hs.foldl fun _ _ h1 => h1.strobeChan))

theorem Tame.execReflexHoldEnd {g : Fin 128} {i : Fin 16} (hs : Tame s₀ s) : Leads s₀ (Machine.execReflexHoldEnd g i s) := by
  unfold Machine.execReflexHoldEnd
  split
  · exact hs.modChan.next
  · exact hs.next

theorem Tame.countFails {g pos pass mask : Nat} (hs : Tame s₀ s) : Tame s₀ (Machine.countFails g pos pass mask s) :=
  Tame.ite (Tame.setFld (Tame.setFld (Tame.setFld (Tame.setFld (hs.setFld.foldl fun _ _ h0 => Tame.ite h0.setFld h0)))))
      (hs.setFld.foldl fun _ _ h0 => Tame.ite h0.setFld h0)

theorem Tame.playRun {g : Nat} {r : VecRun} {balls : List Int} (hs : Tame s₀ s) : Tame s₀ (Machine.playRun g r balls s) := by
  unfold Machine.playRun
  dsimp only
  split
  · exact hs.modGrp.syncPlaying
  · exact Tame.syncPlaying (Tame.modGrp (Tame.ite hs.noteMend.playVector.countFails hs.noteMend.playVector.countFails.setFld))

theorem Tame.topUp {g : Nat} (hs : Tame s₀ s) : Tame s₀ (Machine.topUp g s) := by
  unfold Machine.topUp
  split
  · exact hs
  · exact Tame.ite hs hs.emit.modGrp

theorem Tame.abortStream {g : Nat} (hs : Tame s₀ s) : Tame s₀ (Machine.abortStream g s) :=
  hs.endStream.modGrp.applySafe.setFld.syncPlaying

theorem Tame.playStream {g : Nat} {t : StreamState} {balls : List Int} (hs : Tame s₀ s) :
    Tame s₀ (Machine.playStream g t balls s) := by
  unfold Machine.playStream
  split
  · exact Tame.raise (Tame.ite hs.setFld.abortStream hs.setFld.addFld.playVector)
  · exact Tame.ite hs.playVector.addFld.setFld.modGrp.endStream.syncPlaying hs.playVector.addFld.setFld.modGrp.topUp

theorem Tame.endOpenHolds {g : Nat} (hs : Tame s₀ s) : Tame s₀ (Machine.endOpenHolds g s) := Tame.ite hs.modChans.modGrp hs

theorem Tame.playFabric {g : Nat} {balls : List Int} (hs : Tame s₀ s) : Tame s₀ (Machine.playFabric g balls s) := by
  unfold Machine.playFabric
  dsimp only
  split
  · exact hs.playVector
  · refine Tame.emit ?_
    refine Tame.playVector ?_
    split
    · exact hs.addFld.setFld
    · exact hs.modGrp.endOpenHolds

theorem Tame.stopStream {g : Nat} (hs : Tame s₀ s) : Tame s₀ (Machine.stopStream g s) := by
  unfold Machine.stopStream
  split
  · exact Tame.ite hs.endStream.syncPlaying hs
  · exact hs

theorem Tame.currentLimit {g : Nat} {i : Fin 16} (hs : Tame s₀ s) : Tame s₀ (Machine.currentLimit g s i) := hs.modGrp

theorem Tame.execVectorPlay {g : Fin 128} {balls : List Int} {limits : List (Fin 16)} (hs : Tame s₀ s) :
    Leads s₀ (Machine.execVectorPlay g balls limits s) := by
  unfold Machine.execVectorPlay
  split
  · exact hs.next
  · dsimp only
    refine Tame.next ?_
    refine Tame.foldl ?_ fun _ _ h0 => h0.currentLimit
    split
    · exact Tame.ite hs.loadEdges.stopStream.playRun hs.loadEdges.stopStream.playVector
    · exact Tame.ite hs.loadEdges.stopStream.playStream hs.loadEdges.stopStream.playVector
    · exact Tame.ite hs.loadEdges.stopStream.playFabric hs.loadEdges.stopStream.playVector

theorem Tame.startRun {g : Nat} {a : GAct} (hs : Tame s₀ s) : Tame s₀ (Machine.startRun g a s) :=
  Tame.syncPlaying (Tame.modGrp (hs.setFld.setFld.setReg.foldl fun _ _ h0 => h0.setFld))

theorem Tame.execVectorRunStart {g : Fin 128} (hs : Tame s₀ s) : Leads s₀ (Machine.execVectorRunStart g s) := by
  unfold Machine.execVectorRunStart
  split
  · exact Leads.ite hs.startRun.next hs.next
  · exact hs.next

theorem Tame.execVectorRunEnd {g : Fin 128} (hs : Tame s₀ s) : Leads s₀ (Machine.execVectorRunEnd g s) := by
  unfold Machine.execVectorRunEnd
  split
  · exact hs.next
  · split
    · exact hs.modGrp.syncPlaying.answerAct.next
    · exact hs.next

theorem Tame.streamCtlEffect {g : Nat} {h : Half} {data : Word} (hs : Tame s₀ s) :
    Tame s₀ (Machine.streamCtlEffect g h data s) := Tame.ite (Tame.modGrp (Tame.ite (Tame.topUp (Tame.setReg (Tame.setFld
        (Tame.modGrp (Tame.ite hs.setFld hs.setFld.setFld))))) (Tame.ite hs.setFld hs.setFld.setFld))) (Tame.ite (Tame.topUp
        (Tame.setReg (Tame.setFld (Tame.modGrp (Tame.ite hs.setFld hs.setFld.setFld)))))
        (Tame.ite hs.setFld hs.setFld.setFld))

theorem Tame.execStreamGo {m : Ident} {g : Fin 128} {h : Half} {data : Word} (hs : Tame s₀ s) :
    Leads s₀ (Machine.execStreamGo m g h data s) := Tame.next (hs.regWrite (fun _ h0 => h0.streamCtlEffect))

theorem Tame.execStreamStop {m : Ident} {g : Fin 128} {h : Half} {data : Word} (hs : Tame s₀ s) :
    Leads s₀ (Machine.execStreamStop m g h data s) := Tame.next (hs.regWrite (fun _ h0 => h0.streamCtlEffect))

theorem Tame.execStreamReadResponse {g : Fin 128} {stream : Nat} {st : Status} {ws : List Word} (hs : Tame s₀ s) :
    Leads s₀ (Machine.execStreamReadResponse g stream st ws s) := by
  unfold Machine.execStreamReadResponse
  dsimp only
  split
  · exact hs.answeredAt.next
  · exact Leads.ite hs.answeredAt.next (Leads.ite hs.answeredAt.abortStream.raise.next hs.answeredAt.modGrp.setFld.next)

theorem Tame.streamAtBoundary {g : Nat} (hs : Tame s₀ s) : Tame s₀ (Machine.streamAtBoundary g s) := by
  unfold Machine.streamAtBoundary
  split
  · exact hs
  · exact Tame.ite hs (Tame.ite hs (Tame.syncPlaying (Tame.modGrp (Tame.ite hs.setFld hs))))

theorem Tame.execFabricVector {g : Fin 128} {vec : Word} (hs : Tame s₀ s) : Leads s₀ (Machine.execFabricVector g vec s) :=
  Leads.ite hs.modGrp.next hs.next

theorem Tame.takeAction {g slot : Nat} {a : Action} (hs : Tame s₀ s) : Tame s₀ (Machine.takeAction g slot a s) :=
  hs.modGrp.syncQueue.goOn

theorem Tame.execGroupAction {g : Fin 128} {a : Action} (hs : Tame s₀ s) : Leads s₀ (Machine.execGroupAction g a s) := by
  unfold Machine.execGroupAction
  split
  · exact hs.emit.answeredAt.next
  · split
    · exact hs.emit.answeredAt.next
    · split
      · exact hs.emit.answeredAt.next
      · split
        · exact hs.takeAction.next
        · exact hs.next

theorem Tame.execCompanionClaim {c : Fin 2048} {g : Fin 128} {slot : Fin 16} (hs : Tame s₀ s) :
    Leads s₀ (Machine.execCompanionClaim c g slot s) := Leads.ite hs.emit.next hs.abandonFor.modGrp.grantFreed.next

theorem Tame.execCompanionRelease {c : Fin 2048} {g : Fin 128} {slot : Fin 16} (hs : Tame s₀ s) :
    Leads s₀ (Machine.execCompanionRelease c g slot s) := Tame.next (Tame.ite hs.releaseChan hs.releaseChan.emit)

theorem Tame.execCompanionRefused {g : Fin 128} {slot : Fin 16} {c : Fin 2048} {st : Status} (hs : Tame s₀ s) :
    Leads s₀ (Machine.execCompanionRefused g slot c st s) := by
  unfold Machine.execCompanionRefused
  split
  · split
    · exact Leads.ite hs.answerAct.next hs.next
    · exact hs.next
  · exact hs.next

theorem Tame.execCompanionGrant {g : Fin 128} {slot : Fin 16} {c : Fin 2048} (hs : Tame s₀ s) :
    Leads s₀ (Machine.execCompanionGrant g slot c s) := Tame.next (Tame.ite hs.noteGrant.goOn hs.noteGrant)

end Sys2Proof.Machine
end

section
/-! SUPPORT. `Tame` through the functions of Machine/Operands. -/

set_option Elab.async false

namespace Sys2Proof.Machine

variable {s₀ s : State}

theorem Tame.modEng {e : Nat} {f : Sge → Sge} (hs : Tame s₀ s) : Tame s₀ (s.modEng e f) := hs.same

theorem Tame.setBank {e : Nat} {b : SgeBank} (hs : Tame s₀ s) : Tame s₀ (s.setBank e b) := hs.modEng

end Sys2Proof.Machine
end

section
/-! SUPPORT. `Tame` through the functions of Machine/Cells. -/

set_option Elab.async false

namespace Sys2Proof.Machine

variable {s₀ s : State}

theorem Tame.writeBram {n a d : Nat} (hs : Tame s₀ s) : Tame s₀ (Machine.writeBram n a d s) := Tame.ite hs.writeP hs.same

theorem Tame.clockFlops {s : State} {lv : FabNode → Bool} {t : Nat} {u : State} (hs : Tame s₀ u) :
    Tame s₀ (Machine.clockFlops s lv t u) := hs.same

theorem Tame.clockSlice {s : State} {lv : FabNode → Bool} {t n : Nat} {u : State} (hs : Tame s₀ u) :
    Tame s₀ (Machine.clockSlice s lv t u n) := Tame.ite hs.same hs

theorem Tame.setBramPort {n : Nat} {portB : Bool} {p : BramPort} {u : State} (hs : Tame s₀ u) :
    Tame s₀ (Machine.setBramPort n portB p u) := hs.same

theorem Tame.clockBram {lv : FabNode → Bool} {t b : Nat} {u : State} (hu : Tame s₀ u) : Tame s₀
    (Machine.clockBram s lv t u b) := by
  unfold Machine.clockBram
  extract_lets n line edge acc write meet same aFirst other got both v w
  have hw : ∀ p t, Tame s₀ t → Tame s₀ (write p t) := by
    intro p t ht
    unfold write
    split
    · exact ht.writeBram
    · exact ht
  have hv : Tame s₀ v :=
    Tame.ite (hw _ _ hu) (Tame.ite (hw _ _ hu) (Tame.ite (hw _ _ hu) (hw _ _ (hw _ _ hu))))
  have hw' : Tame s₀ w := Tame.ite hv.setBramPort hv
  exact Tame.ite hw'.setBramPort hw'

theorem Tame.clockTarget {s : State} {lv : FabNode → Bool} {t : Nat} {u : State} (hs : Tame s₀ u) :
    Tame s₀ (Machine.clockTarget s lv u t) := Tame.foldl
        (hs.clockFlops.foldl fun _ _ h0 => h0.clockSlice) fun _ _ h0 => h0.clockBram

theorem Tame.fabricCycle (hs : Tame s₀ s) : Tame s₀ (Machine.fabricCycle s) :=
  Tame.same (hs.foldl fun _ _ h0 => h0.clockTarget)

theorem Tame.fabricCycles {k : Nat} (hs : Tame s₀ s) : Tame s₀ (Machine.fabricCycles k s) := by
  induction k generalizing s with
  | zero => exact hs
  | succ k ih => exact ih hs.fabricCycle

theorem Tame.passFabric {k : Nat} (hs : Tame s₀ s) : Tame s₀ (Machine.passFabric k s) := Tame.ite hs.fabricCycles hs.same

theorem Tame.engageHolds {t : Nat} (hs : Tame s₀ s) : Tame s₀ (Machine.engageHolds t s) := hs.same

theorem Tame.zeroHardCells {t : Nat} (hs : Tame s₀ s) : Tame s₀ (Machine.zeroHardCells t s) := hs.same

theorem Tame.restartDividers {t : Nat} (hs : Tame s₀ s) : Tame s₀ (Machine.restartDividers t s) := hs.same

end Sys2Proof.Machine
end

section
/-! SUPPORT. `Tame` through the functions of Machine/Memories. -/

set_option Elab.async false

namespace Sys2Proof.Machine

variable {s₀ s : State}

theorem Tame.sweepPoison {k unit w key : Nat} {p : PWord} (hs : Tame s₀ s) : Tame s₀ (Machine.sweepPoison k unit w key p s) :=
  Tame.raise (Tame.setReg (Tame.addFld (Tame.ite hs hs.setPword)))

theorem Tame.sweepWord {k unit w : Nat} (hs : Tame s₀ s) : Tame s₀ (Machine.sweepWord k unit w s) := by
  unfold Machine.sweepWord
  dsimp only
  split
  · exact hs
  · split
    · exact hs
    · exact Tame.addFld (Tame.ite hs.writeP.addFld hs.noteMend)
    · exact hs.sweepPoison

theorem Tame.sweepContext {n : Nat} (hs : Tame s₀ s) : Tame s₀ (Machine.sweepContext n s) := by
  unfold Machine.sweepContext
  extract_lets t
  have ht : Tame s₀ t := Tame.foldl hs fun _ _ h => h.sweepWord
  exact Tame.ite ht ht.putTags

theorem Tame.newLap {k : Nat} (hs : Tame s₀ s) : Tame s₀ (Machine.newLap k s) := hs.same

theorem Tame.endLap {k : Nat} (hs : Tame s₀ s) : Tame s₀ (Machine.endLap k s) := Tame.ite hs.setFld.addFld.newLap hs

theorem Tame.execMemorySweepRead {k : Fin 8} {unit : Nat} (hs : Tame s₀ s) : Leads s₀
    (Machine.execMemorySweepRead k unit s) :=
  Leads.ite hs.next (Leads.ite (Tame.next (Tame.endLap (Tame.same (Tame.same (Tame.ite hs.sweepContext hs.sweepWord)))))
      (Tame.next (Tame.same (Tame.ite hs.sweepContext hs.sweepWord))))

theorem Tame.sweepCtlEffect {k : Nat} {h : Half} {data : Word} (hs : Tame s₀ s) : Tame s₀
    (Machine.sweepCtlEffect k h data s) :=
  Tame.ite hs hs.setFld.setFld.newLap

theorem Tame.execSweepEnableWrite {m : Ident} {k : Fin 8} {h : Half} {data : Word} (hs : Tame s₀ s) :
    Leads s₀ (Machine.execSweepEnableWrite m k h data s) := Tame.next (hs.regWrite (fun _ h0 => h0.sweepCtlEffect))

theorem Tame.bankViolation {b : Nat} {m : Ident} {word : Nat} {write ownerWrite : Bool} {off : Nat} (hs : Tame s₀ s) :
    Tame s₀ (Machine.bankViolation b m word write ownerWrite off s) := hs.addFld.setReg.violation

theorem Tame.answerBank {port : Bool} {m : Ident} {st : Status} {ws : List Word} (hs : Tame s₀ s) :
    Tame s₀ (Machine.answerBank port m st ws s) := hs.answeredAt.emit

theorem Tame.bankWriteWord {b : Nat} {poison : Bool} {a : State × Bool} {x : Nat × Word × Word} (hs : Tame s₀ a.1) :
    Tame s₀ (Machine.bankWriteWord b poison a x).1 := by
  unfold Machine.bankWriteWord
  split
  next e => exact hs.writeMasked e
  next => exact hs

theorem Tame.writeBank {port : Bool} {x : BankAccess} {l : List Word} (hs : Tame s₀ s) :
    Tame s₀ (Machine.writeBank port x l s) := by
  have ha : Tame s₀ (((x.words.zip l).map (fun e => (e.1.1, e.1.2, e.2))).foldl (Machine.bankWriteWord x.bank x.poison)
      (s, true)).1 :=
    Tame.foldl_fst hs fun _ _ h => h.bankWriteWord
  exact (Tame.ite ha ha.refusedPartial).answerBank

theorem Tame.readBank {port : Bool} {x : BankAccess} (hs : Tame s₀ s) : Tame s₀ (Machine.readBank port x s) :=
  Tame.ite hs.answerBank (Tame.answerBank (hs.foldl fun _ _ h0 => h0.noteMend))

theorem Tame.serveBank {port : Bool} {x : BankAccess} (hs : Tame s₀ s) : Tame s₀ (Machine.serveBank port x s) := by
  unfold Machine.serveBank
  split
  · exact hs.writeBank
  · exact hs.readBank

theorem Tame.reachBank {port : Bool} {r : BankReq} (hs : Tame s₀ s) : Tame s₀ (Machine.reachBank port r s) :=
  Tame.ite hs.bankViolation.answerBank (Tame.ite hs.answerBank (Tame.ite hs.same (Tame.ite hs.same hs.same)))

theorem Tame.bankCycle (hs : Tame s₀ s) : Tame s₀ (Machine.bankCycle s) := by
  unfold Machine.bankCycle
  dsimp only
  split
  · exact hs
  · exact hs.same.serveBank
  · exact hs.same.serveBank
  · exact Tame.ite (Tame.ite hs.same.same.serveBank hs.same.addFld.same.serveBank)
        (Tame.ite hs.same.same.serveBank.serveBank hs.same.same.serveBank.serveBank)

theorem Tame.execBankAccess {a b : Option BankReq} (hs : Tame s₀ s) : Leads s₀ (Machine.execBankAccess a b s) :=
  Tame.next (Tame.bankCycle (Tame.foldl (hs.foldl fun _ _ h0 => h0.reachBank) fun _ _ h0 => h0.reachBank))

theorem Tame.bankOwnerEffect {m : Ident} {b : Nat} {h : Half} {data : Word} (hs : Tame s₀ s) :
    Tame s₀ (Machine.bankOwnerEffect m b h data s) := Tame.ite hs.bankViolation (Tame.ite hs.setFld.setFld hs.setFld)

theorem Tame.execBankOwnerWrite {m : Ident} {b : Fin 256} {h : Half} {data : Word} (hs : Tame s₀ s) :
    Leads s₀ (Machine.execBankOwnerWrite m b h data s) := Tame.next (hs.regWrite (fun _ h0 => h0.bankOwnerEffect))

theorem Tame.zeroBank {b : Nat} (hs : Tame s₀ s) : Tame s₀ (Machine.zeroBank b s) := hs.stores rfl id (Memory.filter_wf _)

theorem Tame.execBankClearEnd {b : Fin 256} (hs : Tame s₀ s) : Leads s₀ (Machine.execBankClearEnd b s) :=
  Leads.ite (Tame.next (hs.zeroBank.setFld.same.foldl fun _ _ h0 => h0.serveBank)) hs.next

theorem Tame.bankWindowEffect {m : Ident} {b j : Nat} {h : Half} {data : Word} (hs : Tame s₀ s) :
    Tame s₀ (Machine.bankWindowEffect m b j h data s) := Tame.ite hs.bankViolation (Tame.ite hs hs.setFld.setFld.setFld)

theorem Tame.execBankWindowWrite {m : Ident} {b : Fin 256} {j : Fin 16} {h : Half} {data : Word} (hs : Tame s₀ s) :
    Leads s₀ (Machine.execBankWindowWrite m b j h data s) := Tame.next (hs.regWrite (fun _ h0 => h0.bankWindowEffect))

end Sys2Proof.Machine
end

section
/-! SUPPORT. `Tame` through the functions of Machine/Fabric. -/

set_option Elab.async false

namespace Sys2Proof.Machine

variable {s₀ s : State}

theorem Tame.syncTarget {t : Nat} (hs : Tame s₀ s) : Tame s₀ (Machine.syncTarget t s) :=
  hs.setFld.setFld.setFld.foldl fun _ _ h0 => h0.setFld

theorem Tame.modFab {p : Nat} {f : FabPort → FabPort} (hs : Tame s₀ s) : Tame s₀ (s.modFab p f) := hs.same.syncTarget

theorem Tame.answerAction {p : Nat} {w : Word} (hs : Tame s₀ s) : Tame s₀ (Machine.answerAction p w s) := by
  unfold Machine.answerAction
  dsimp only
  split
  · exact Tame.ite hs.modFab.emit hs.modFab.emit
  · exact Tame.ite hs.modFab.addFld hs.addFld

theorem Tame.answerRequest {p src tag : Nat} {err : Bool} {data : List Word} (hs : Tame s₀ s) :
    Tame s₀ (Machine.answerRequest p src tag err data s) := Tame.ite hs.modFab.emit (Tame.ite hs.modFab.addFld
        (Tame.ite hs.modFab.addFld hs))

theorem Tame.execFabricAnswer {p : Fin 68} {ans : FabAnswer} (hs : Tame s₀ s) :
    Leads s₀ (Machine.execFabricAnswer p ans s) := by
  unfold Machine.execFabricAnswer
  split
  · exact hs.answerAction.next
  · exact hs.answerRequest.next

theorem Tame.execPortTimeout {p : Fin 68} {src tag : Nat} (hs : Tame s₀ s) : Leads s₀ (Machine.execPortTimeout p src tag s) :=
  Leads.ite hs.modFab.emit.next hs.next

theorem Tame.fabricResponse {p tag : Nat} {st : Status} {poison : Bool} {data : List Word} (hs : Tame s₀ s) :
    Tame s₀ (Machine.fabricResponse p tag st poison data s) := Tame.ite hs.modFab.emit (Tame.ite hs.modFab.addFld hs)

theorem Tame.setDamper {t v : Nat} (hs : Tame s₀ s) : Tame s₀ (Machine.setDamper t v s) :=
  hs.setFld.foldl fun _ _ h0 => h0.setFld

theorem Tame.followTarget {t : Nat} (hs : Tame s₀ s) : Tame s₀ (Machine.followTarget t s) := Tame.ite hs.followRegion hs

theorem Tame.raiseDamper {t : Nat} (hs : Tame s₀ s) : Tame s₀ (Machine.raiseDamper t s) :=
  Tame.ite hs hs.engageHolds.setDamper.setFld.followTarget

theorem Tame.dampersDone {t : Nat} (hs : Tame s₀ s) : Tame s₀ (Machine.dampersDone t s) :=
  hs.same.foldl fun _ _ h0 => h0.endCommand

theorem Tame.shutTarget {t : Nat} (hs : Tame s₀ s) : Tame s₀ (Machine.shutTarget t s) := hs.setDamper.dampersDone

theorem Tame.execRegionDrainDone {t : Fin 65} (hs : Tame s₀ s) : Leads s₀ (Machine.execRegionDrainDone t s) :=
  Leads.ite hs.shutTarget.next hs.next

theorem Tame.forcePort {p : Nat} (hs : Tame s₀ s) : Tame s₀ (Machine.forcePort s p) :=
  Tame.foldl (hs.modFab.addFld.foldl fun _ _ h0 => h0.emit) fun _ _ h0 => h0.emit

theorem Tame.execDrainLimitExpire {t : Fin 65} (hs : Tame s₀ s) : Leads s₀ (Machine.execDrainLimitExpire t s) :=
  Leads.ite (Tame.next (Tame.shutTarget (hs.foldl fun _ _ h0 => h0.forcePort))) hs.next

theorem Tame.dropWords {lo n : Nat} (hs : Tame s₀ s) : Tame s₀ (s.dropWords lo n) := hs.stores rfl id (Memory.filter_wf _)

theorem Tame.endRegistration {t : Nat} (hs : Tame s₀ s) : Tame s₀ (Machine.endRegistration t s) :=
  Tame.ite hs.same.setFld.setFbit hs.same.setFld.setFld

theorem Tame.clearContents {t : Nat} (hs : Tame s₀ s) : Tame s₀ (Machine.clearContents t s) :=
  hs.same.zeroHardCells.dropWords.dropWords

theorem Tame.clearTarget {t : Nat} (hs : Tame s₀ s) : Tame s₀ (Machine.clearTarget t s) :=
  Tame.dampersDone (Tame.followTarget
      (Tame.ite hs.clearContents.endRegistration.setDamper.setFld.setFld.setFbit
      hs.clearContents.endRegistration.setDamper.setFld.setFld))

theorem Tame.releaseBram {frs : List (Nat × List Word)} {t k : Nat} (hs : Tame s₀ s) :
    Tame s₀ (Machine.releaseBram frs t s k) := Tame.ite hs.same (hs.same.foldl fun _ _ h0 => h0.writeBram)

theorem Tame.releaseCells {t : Nat} (hs : Tame s₀ s) : Tame s₀ (Machine.releaseCells t s) :=
  Tame.restartDividers (Tame.same (hs.dropWords.zeroHardCells.foldl fun _ _ h0 => h0.releaseBram))

theorem Tame.releaseTarget {t : Nat} (hs : Tame s₀ s) : Tame s₀ (Machine.releaseTarget s t) :=
  Tame.followTarget (Tame.ite hs.releaseCells.setDamper.setFld.setFld.setFld.setFbit
      hs.releaseCells.setDamper.setFld.setFld.setFld)

theorem Tame.openTarget {t : Nat} (hs : Tame s₀ s) : Tame s₀ (Machine.openTarget s t) :=
  Tame.ite hs.setDamper.setFld.setFld.followTarget hs

theorem Tame.dampersAtBoundary (hs : Tame s₀ s) : Tame s₀ (Machine.dampersAtBoundary s) :=
  hs.same.foldl fun _ _ h0 => Tame.endCommand (h0.foldl fun _ _ h1 => h1.openTarget)

end Sys2Proof.Machine
end

section
/-! SUPPORT. `Tame` through the functions of Machine/Load. -/

set_option Elab.async false

namespace Sys2Proof.Machine

variable {s₀ s : State}

theorem Tame.setLoad {l : Option Load} (hs : Tame s₀ s) : Tame s₀ (Machine.setLoad l s) := hs.same

theorem Tame.syncDone (hs : Tame s₀ s) : Tame s₀ (Machine.syncDone s) := Tame.ite hs hs.setFld.emit

theorem Tame.setDoneLow {v : Bool} (hs : Tame s₀ s) : Tame s₀ (Machine.setDoneLow v s) := hs.same.syncDone

theorem Tame.restartLap (hs : Tame s₀ s) : Tame s₀ (Machine.restartLap s) := hs.setFld.same

theorem Tame.beginLoad {l : Load} (hs : Tame s₀ s) : Tame s₀ (Machine.beginLoad l s) :=
  Tame.ite (Tame.emit (Tame.ite hs.setFld.setFld.setFld.setLoad.same hs.setFld.setFld.setFld.setLoad))
      (Tame.ite hs.setFld.setFld.setFld.setLoad.same hs.setFld.setFld.setFld.setLoad)

theorem Tame.replyLoad {l : Load} {st : Rs} {ws : List Nat} (hs : Tame s₀ s) : Tame s₀ (Machine.replyLoad l st ws s) := by
  unfold Machine.replyLoad
  split
  · exact hs.endCommand
  · exact hs

theorem Tame.finishClear {l : Load} (hs : Tame s₀ s) : Tame s₀ (Machine.finishClear l s) := by
  unfold Machine.finishClear
  dsimp only
  split
  · exact Tame.endCommand (Tame.setLoad (hs.foldl fun _ _ h1 => h1.clearTarget))
  · exact Tame.setLoad (hs.foldl fun _ _ h1 => h1.clearTarget)

theorem Tame.clearFailed {l : Load} (hs : Tame s₀ s) : Tame s₀ (Machine.clearFailed l s) :=
  Tame.ite hs (Tame.ite (Tame.ite (Tame.setFld (hs.foldl fun _ _ h0 => h0.clearTarget))
      (hs.foldl fun _ _ h0 => h0.clearTarget)) (Tame.same (Tame.setFld (hs.foldl fun _ _ h0 => h0.clearTarget))))

theorem Tame.loadFail {code : Nat} (hs : Tame s₀ s) : Tame s₀ (Machine.loadFail code s) := by
  unfold Machine.loadFail
  split
  · exact hs
  · exact Tame.ite (Tame.replyLoad (Tame.setLoad (hs.foldl fun _ _ h1 => h1.clearTarget))) (Tame.ite (Tame.beginLoad
        (Tame.raise (Tame.setLoad (Tame.clearFailed (Tame.ite hs.setFld.addFld.restartLap hs.setFld.addFld)))))
        (Tame.replyLoad (Tame.raise (Tame.setLoad (Tame.clearFailed
        (Tame.ite hs.setFld.addFld.restartLap hs.setFld.addFld))))))

theorem Tame.forwardPart {ws : List Word} (hs : Tame s₀ s) : Tame s₀ (Machine.forwardPart ws s) :=
  Tame.ite (hs.foldl fun _ _ h0 => Tame.ite (Tame.sendFrame (Tame.ite h0.sendFrame h0)) (Tame.ite h0.sendFrame h0)) hs

theorem Tame.takePart {l : Load} {n : Nat} {ws : List Word} {r : Load × State} (hs : Tame s₀ s)
    (e : Machine.takePart l n ws s = some r) : Tame s₀ r.2 := by
  unfold Machine.takePart at e
  split at e
  · exact absurd e (by simp)
  · split at e
    · split at e
      · exact absurd e (by simp)
      · obtain rfl := Option.some.inj e
        exact hs
    · obtain rfl := Option.some.inj e
      exact hs.addFld

theorem Tame.closeForLoad {t : Nat} (hs : Tame s₀ s) : Tame s₀ (Machine.closeForLoad s t) :=
  hs.raiseDamper.setFld.endRegistration

theorem Tame.beginFull (hs : Tame s₀ s) : Tame s₀ (Machine.beginFull s) :=
  Tame.setDoneLow (Tame.restartLap (Tame.same (Tame.setFld (hs.foldl fun _ _ h0 => h0.setSafeState.enterSafe))))

theorem Tame.acceptHeader {l : Load} {h : LoadHeader} (hs : Tame s₀ s) : Tame s₀ (Machine.acceptHeader l h s) :=
  Tame.setLoad (Tame.foldl (Tame.same (Tame.ite
      (Tame.ite hs.setFld.setFld hs.setFld) hs.setFld.beginFull)) fun _ _ h0 => h0.closeForLoad)

theorem Tame.readFailed (hs : Tame s₀ s) : Tame s₀ (Machine.readFailed s) := Tame.ite hs.loadFail hs

theorem Tame.withPart {st : Status} {ws : List Word} {work : Load → State → State} (hs : Tame s₀ s)
    (hw : ∀ l t, Tame s₀ t → Tame s₀ (work l t)) : Tame s₀ (Machine.withPart st ws s work) := by
  unfold Machine.withPart
  refine Tame.ite hs.readFailed ?_
  dsimp only
  split
  · exact hs.forwardPart
  · exact hw _ _ hs.forwardPart

theorem Tame.execConfigHeader {st : Status} {ws : List Word} (hs : Tame s₀ s) :
    Leads s₀ (Machine.execConfigHeader st ws s) := by
  unfold Machine.execConfigHeader
  refine Tame.next ?_
  refine hs.withPart (fun _ _ h0 => ?_)
  split
  · exact h0
  · split
    · exact h0
    next e1 =>
      dsimp only
      split
      · exact Tame.loadFail (Tame.setLoad ((h0.takePart e1)))
      · exact Tame.acceptHeader (Tame.setFld (Tame.setLoad ((h0.takePart e1))))

theorem Tame.writeEntry {n : Nat} {crc : BitVec 32} (hs : Tame s₀ s) : Tame s₀ (Machine.writeEntry n crc s) := hs.writeP

theorem Tame.writeFrame {a : Nat} {ws : List Word} (hs : Tame s₀ s) : Tame s₀ (Machine.writeFrame a ws s) := by
  unfold Machine.writeFrame
  dsimp only
  split
  · exact hs.same.writeEntry
  · exact hs.same

theorem Tame.takeRecord {ws : List Word} (hs : Tame s₀ s) : Tame s₀ (Machine.takeRecord s ws) := by
  unfold Machine.takeRecord
  split
  · exact hs
  · split
    · exact hs
    · exact Tame.ite hs.loadFail (Tame.ite hs.addFld.writeFrame.setLoad.loadFail hs.addFld.writeFrame.setLoad)

theorem Tame.execConfigRecord {st : Status} {ws : List Word} (hs : Tame s₀ s) :
    Leads s₀ (Machine.execConfigRecord st ws s) := by
  unfold Machine.execConfigRecord
  refine Tame.next ?_
  refine hs.withPart (fun _ _ h0 => ?_)
  split
  · exact h0
  · split
    · exact h0
    · split
      · split
        · exact h0
        next e2 => exact Tame.takeRecord (Tame.setLoad ((h0.takePart e2)))
      · split
        · exact h0
        · split
          · exact h0
          next e2 => exact Tame.setLoad ((h0.takePart e2))

theorem Tame.execClockLinesGated {t : Fin 65} (hs : Tame s₀ s) : Leads s₀ (Machine.execClockLinesGated t s) := by
  unfold Machine.execClockLinesGated
  split
  · exact hs.next
  · exact Leads.ite hs.next (Leads.ite hs.setLoad.next (Leads.ite hs.finishClear.next (Tame.next
        (hs.setLoad.foldl fun _ _ h1 => h1.takeRecord))))

theorem Tame.execConfigTrailer {st : Status} {ws : List Word} (hs : Tame s₀ s) :
    Leads s₀ (Machine.execConfigTrailer st ws s) := by
  unfold Machine.execConfigTrailer
  refine Tame.next ?_
  refine hs.withPart (fun _ _ h0 => ?_)
  split
  · exact h0
  · split
    · exact h0
    · split
      · exact h0
      next e2 => exact Tame.ite (Tame.loadFail (Tame.setLoad ((h0.takePart e2)))) (Tame.ite (Tame.loadFail (Tame.setLoad
          ((h0.takePart e2)))) (Tame.ite (Tame.loadFail (Tame.setLoad ((h0.takePart e2)))) (Tame.ite (Tame.setLoad
          ((h0.takePart e2))) (Tame.setFld (Tame.setLoad ((h0.takePart e2)))))))

theorem Tame.scheduleStart {T : Nat} (hs : Tame s₀ s) : Tame s₀ (Machine.scheduleStart T s) := Tame.ite hs.setFld.same hs.same

theorem Tame.endRendezvous (hs : Tame s₀ s) : Tame s₀ (Machine.endRendezvous s) := hs.setFld.same

theorem Tame.checkRendezvous (hs : Tame s₀ s) : Tame s₀ (Machine.checkRendezvous s) := by
  unfold Machine.checkRendezvous
  split
  · exact Tame.ite (Tame.ite hs.broadcastAll.same.scheduleStart hs.broadcastAll.endRendezvous) hs
  · exact hs

theorem Tame.countReady {dev : Nat} (hs : Tame s₀ s) : Tame s₀ (Machine.countReady dev s) :=
  Tame.ite hs hs.same.setFld.checkRendezvous

theorem Tame.readyFrame (hs : Tame s₀ s) : Tame s₀ (Machine.readyFrame s) := Tame.ite hs.sendFrame hs

theorem Tame.sendReady (hs : Tame s₀ s) : Tame s₀ (Machine.sendReady s) := by
  unfold Machine.sendReady
  split
  · exact Tame.ite (Tame.ite hs.same.countReady hs.same.readyFrame) hs
  · exact hs

theorem Tame.becomeReady {l : Load} {h : LoadHeader} (hs : Tame s₀ s) : Tame s₀ (Machine.becomeReady l h s) := by
  unfold Machine.becomeReady
  dsimp only
  split
  · exact Tame.ite (Tame.same
        (Tame.ite hs.setFld.setLoad.restartLap.same.setDoneLow.replyLoad
        hs.setFld.setLoad.restartLap.same.setDoneLow.replyLoad)) (Tame.same
        (Tame.ite hs.setFld.setLoad.restartLap.same.setDoneLow.replyLoad
        hs.setFld.setLoad.restartLap.same.setDoneLow.replyLoad))
  · exact Tame.same (Tame.ite hs.setFld.setLoad.restartLap.same.setDoneLow.replyLoad
        hs.setFld.setLoad.restartLap.same.setDoneLow.replyLoad)
  · split
    · exact Tame.ite (Tame.setFld (Tame.same
          (Tame.ite hs.setFld.setLoad.restartLap.same.setDoneLow.replyLoad
          hs.setFld.setLoad.restartLap.same.setDoneLow.replyLoad))) (Tame.setFld
          (Tame.ite hs.setFld.setLoad.restartLap.same.setDoneLow.replyLoad
          hs.setFld.setLoad.restartLap.same.setDoneLow.replyLoad))
    · exact Tame.checkRendezvous (Tame.sendReady
          (Tame.ite hs.setFld.setLoad.restartLap.same.setDoneLow.replyLoad
          hs.setFld.setLoad.restartLap.same.setDoneLow.replyLoad))

theorem Tame.execAuthenticated (hs : Tame s₀ s) : Leads s₀ (Machine.execAuthenticated s) := by
  unfold Machine.execAuthenticated
  split
  · exact hs.next
  · split
    · exact hs.next
    · exact Leads.ite hs.next (Leads.ite (Tame.next (Tame.setLoad (hs.addFld.foldl fun _ _ h2 => h2.same))) (Tame.next
          (Tame.becomeReady (hs.addFld.foldl fun _ _ h2 => h2.same))))

theorem Tame.execAuthenticationFailed (hs : Tame s₀ s) : Leads s₀ (Machine.execAuthenticationFailed s) := by
  unfold Machine.execAuthenticationFailed
  split
  · exact hs.next
  · split
    · exact hs.next
    · exact Leads.ite hs.next hs.loadFail.next

theorem Tame.execStarvationExpire (hs : Tame s₀ s) : Leads s₀ (Machine.execStarvationExpire s) := by
  unfold Machine.execStarvationExpire
  split
  · exact hs.next
  · exact Leads.ite hs.next hs.loadFail.next

theorem Tame.loadAtBoundary (hs : Tame s₀ s) : Tame s₀ (Machine.loadAtBoundary s) := by
  unfold Machine.loadAtBoundary
  split
  · exact hs
  · split
    · exact hs
    · exact Tame.ite hs (Tame.replyLoad (Tame.ite (Tame.setFld (hs.setLoad.foldl fun _ _ h2 => h2.releaseTarget))
          (hs.setLoad.foldl fun _ _ h2 => h2.releaseTarget)))

theorem Tame.startUserLogic {h : LoadHeader} {golden : Bool} (hs : Tame s₀ s) : Tame s₀ (Machine.startUserLogic h golden s) :=
  Tame.ite (Tame.same (Tame.setFld (Tame.setFld (Tame.setFld (Tame.setReg (Tame.setFld (Tame.setFld
      (hs.foldl fun _ _ h0 => h0.releaseTarget)))))))) (Tame.endRendezvous (Tame.same (Tame.setFld (Tame.setFld (Tame.setFld
      (Tame.setReg (Tame.setFld (Tame.setFld (hs.foldl fun _ _ h0 => h0.releaseTarget)))))))))

theorem Tame.startAtBoundary (hs : Tame s₀ s) : Tame s₀ (Machine.startAtBoundary s) := by
  unfold Machine.startAtBoundary
  split
  · exact hs
  · exact Tame.ite hs.startUserLogic hs

theorem Tame.execDoneNRise (hs : Tame s₀ s) : Leads s₀ (Machine.execDoneNRise s) := hs.setFld.same.next

theorem Tame.execDoneFilterMet (hs : Tame s₀ s) : Leads s₀ (Machine.execDoneFilterMet s) := by
  unfold Machine.execDoneFilterMet
  split
  · exact hs.next
  · dsimp only
    split
    · exact Leads.ite hs.same.same.next hs.same.next
    · exact hs.same.next

theorem Tame.execDoneNFall (hs : Tame s₀ s) : Leads s₀ (Machine.execDoneNFall s) := hs.setFld.same.next

theorem Tame.takeStart {tick : Nat} (hs : Tame s₀ s) : Tame s₀ (Machine.takeStart tick s) := Tame.ite hs.scheduleStart hs

theorem Tame.execCfgLoad {p : Packet} (hs : Tame s₀ s) : Leads s₀ (Machine.execCfgLoad p s) :=
  Tame.next (hs.runCommand (fun _ h0 => Tame.ite h0.endCommand (Tame.ite h0.endCommand
      (Tame.ite h0.endCommand h0.beginLoad))))

theorem Tame.bootLoad (hs : Tame s₀ s) : Tame s₀ (Machine.bootLoad s) := by
  unfold Machine.bootLoad
  split
  · exact hs.beginLoad
  · exact hs
  · exact hs.beginLoad
  · exact hs.same.beginLoad

theorem Tame.execCfgAbort {p : Packet} (hs : Tame s₀ s) : Leads s₀ (Machine.execCfgAbort p s) := by
  unfold Machine.execCfgAbort
  refine Tame.next ?_
  refine hs.runCommand (fun _ h0 => ?_)
  split
  · exact h0.endCommand
  · exact Tame.ite h0.endCommand h0.loadFail.endCommand

theorem Tame.execCfgStart {p : Packet} (hs : Tame s₀ s) : Leads s₀ (Machine.execCfgStart p s) :=
  Tame.next (hs.runCommand (fun _ h0 => Tame.ite h0.endCommand (Tame.ite h0.same.endCommand h0.same.endCommand)))

theorem Tame.execCfgReadback {p : Packet} {failAt : Option Nat} (hs : Tame s₀ s) :
    Leads s₀ (Machine.execCfgReadback p failAt s) := Tame.next (hs.runCommand (fun _ h0 => Tame.ite h0.endCommand
        (Tame.ite h0.endCommand (Tame.ite h0.endCommand (Tame.ite h0.emit.endCommand h0.emit.endCommand)))))

theorem Tame.execFuseRollback {p : Packet} (hs : Tame s₀ s) : Leads s₀ (Machine.execFuseRollback p s) := by
  unfold Machine.execFuseRollback
  refine Tame.next ?_
  refine hs.runCommand (fun _ h0 => ?_)
  split
  · exact h0.endCommand
  · split
    · exact h0.endCommand
    · exact Tame.ite h0.endCommand h0.same.setFld.endCommand

theorem Tame.execFuseProgram {p : Packet} (hs : Tame s₀ s) : Leads s₀ (Machine.execFuseProgram p s) := by
  unfold Machine.execFuseProgram
  refine Tame.next ?_
  refine hs.runCommand (fun _ h0 => ?_)
  dsimp only
  split
  · exact h0.endCommand
  · split
    · exact h0.endCommand
    · split
      · exact h0.endCommand
      · split
        · exact h0.endCommand
        · split
          · exact h0.endCommand
          · exact h0.same.setFld.endCommand

theorem Tame.readFuses (hs : Tame s₀ s) : Tame s₀ (Machine.readFuses s) := hs.setReg

theorem Tame.pushEffect {m : Ident} {h : Half} {data : Word} (hs : Tame s₀ s) : Tame s₀ (Machine.pushEffect m h data s) := by
  unfold Machine.pushEffect
  split
  · exact hs.violation
  · exact Tame.ite hs.violation (Tame.ite hs.violation (Tame.ite hs hs.addFld.setLoad))

theorem Tame.execCfgPushWrite {m : Ident} {h : Half} {data : Word} (hs : Tame s₀ s) :
    Leads s₀ (Machine.execCfgPushWrite m h data s) := Tame.next (hs.regWrite (fun _ h0 => h0.pushEffect))

theorem Tame.execRegionClear {p : Packet} (hs : Tame s₀ s) : Leads s₀ (Machine.execRegionClear p s) :=
  Tame.next (hs.runCommand (fun _ h0 => Tame.ite h0.endCommand (Tame.ite h0.endCommand (Tame.ite h0.endCommand (Tame.setLoad
      (h0.foldl fun _ _ h1 => h1.raiseDamper.endRegistration))))))

theorem Tame.execRegionDamper {p : Packet} (hs : Tame s₀ s) : Leads s₀ (Machine.execRegionDamper p s) :=
  Tame.next (hs.runCommand (fun _ h0 => Tame.ite h0.endCommand (Tame.ite h0.endCommand (Tame.ite h0.same
      (h0.same.foldl fun _ _ h1 => h1.raiseDamper)))))

theorem Tame.registerCopy {addr t : Nat} (hs : Tame s₀ s) : Tame s₀ (Machine.registerCopy addr s t) :=
  Tame.ite hs.endRegistration.same.setFld.setFbit hs.endRegistration.same.setFld.setFld

theorem Tame.execSwpSource {p : Packet} {st : Status} {copy : List Word} (hs : Tame s₀ s) :
    Leads s₀ (Machine.execSwpSource p st copy s) := Tame.next (hs.runCommand (fun _ h0 => Tame.ite h0.endCommand
        (Tame.ite h0.endCommand (Tame.ite (Tame.endCommand (h0.foldl fun _ _ h1 => h1.endRegistration))
        (Tame.ite h0.endCommand (Tame.ite h0.endCommand (Tame.ite h0.endCommand (Tame.endCommand
        (h0.foldl fun _ _ h1 => h1.registerCopy)))))))))

end Sys2Proof.Machine
end

section
/-! SUPPORT. `Tame` through the functions of Machine/Nva. -/

set_option Elab.async false

namespace Sys2Proof.Machine

variable {s₀ s : State}

theorem Tame.nvaRead {a : Nat} (hs : Tame s₀ s) : Tame s₀ (Machine.nvaRead a s).2 := by
  unfold Machine.nvaRead
  split
  · exact hs
  · split <;> dsimp only
    · exact hs
    · exact hs.addFld
    · exact hs.addFld.setFld.raise

theorem Tame.nvaStore {a : Nat} {d : Word} (hs : Tame s₀ s) : Tame s₀ (Machine.nvaStore a d s) := hs.writeP.addFld

theorem Tame.nvaReadMany {l : List Nat} (hs : Tame s₀ s) : Tame s₀ (Machine.nvaReadMany l s).2 := by
  induction l generalizing s with
  | nil => exact hs
  | cons a r ih =>
    unfold Machine.nvaReadMany
    split
    next e => exact hs.nvaRead.of_snd e
    next e =>
      split
      next e' => exact (ih (hs.nvaRead.of_snd e)).of_snd e'
      next e' => exact (ih (hs.nvaRead.of_snd e)).of_snd e'

theorem Tame.nvaServeRead {x : NvaAccess} (hs : Tame s₀ s) : Tame s₀ (Machine.nvaServeRead x s) := by
  unfold Machine.nvaServeRead
  split
  next e0 => exact Tame.emit ((hs.nvaRead.of_snd e0))
  next e0 => exact Tame.emit ((hs.nvaRead.of_snd e0))

theorem Tame.nvaDrain {fuel : Nat} (hs : Tame s₀ s) : Tame s₀ (Machine.nvaDrain fuel s) := by
  induction fuel generalizing s with
  | zero => exact hs
  | succ fuel ih =>
    unfold Machine.nvaDrain
    split
    · exact hs
    · split
      · exact hs.same
      · exact ih hs.same.nvaServeRead

theorem Tame.nvaStep {m : Ident} (hs : Tame s₀ s) : Tame s₀ (Machine.nvaStep m s) := by
  unfold Machine.nvaStep
  split
  · exact hs.setMfld
  · exact hs

theorem Tame.nvaEnqueue {x : NvaAccess} (hs : Tame s₀ s) : Tame s₀ (Machine.nvaEnqueue x s) :=
  Tame.ite hs.same.nvaDrain hs.same

theorem Tame.nvaWriteEffect {m : Ident} {h : Half} {data : Word} (hs : Tame s₀ s) :
    Tame s₀ (Machine.nvaWriteEffect m h data s) := Tame.ite hs.violation (Tame.ite hs.violation hs.nvaStep.nvaEnqueue)

theorem Tame.nvaReadEffect {m : Ident} {h : Half} (hs : Tame s₀ s) : Tame s₀ (Machine.nvaReadEffect m h s) :=
  Tame.nvaEnqueue (Tame.ite hs hs.nvaStep)

theorem Tame.execNvaDataAccess {m : Ident} {h : Half} {data : Option Word} (hs : Tame s₀ s) :
    Leads s₀ (Machine.execNvaDataAccess m h data s) := by
  unfold Machine.execNvaDataAccess
  split
  · exact Tame.next (hs.regWrite (fun _ h1 => h1.nvaWriteEffect))
  · exact Tame.next (hs.readFront (fun _ h1 => h1.nvaReadEffect))

theorem Tame.nvaDone (hs : Tame s₀ s) : Tame s₀ (Machine.nvaDone s) := by
  unfold Machine.nvaDone
  split
  · exact hs.same.nvaStore.emit.nvaDrain
  · exact hs

theorem Tame.execNvaWriteDone (hs : Tame s₀ s) : Leads s₀ (Machine.execNvaWriteDone s) := hs.nvaDone.next

theorem Tame.nvaDoneAll {n : Nat} (hs : Tame s₀ s) : Tame s₀ (Machine.nvaDoneAll n s) := by
  induction n generalizing s with
  | zero => exact hs
  | succ n ih => exact ih hs.nvaDone

theorem Tame.nvaTurn (hs : Tame s₀ s) : Tame s₀ (Machine.nvaTurn s) := hs.nvaDoneAll

end Sys2Proof.Machine
end

section
/-! SUPPORT. `Tame` through the functions of Machine/Dram. -/

set_option Elab.async false

namespace Sys2Proof.Machine

variable {s₀ s : State}

theorem Tame.setDrc {c : Nat} {d : Dram} (hs : Tame s₀ s) : Tame s₀ (s.setDrc c d) := hs.same.setFld.setFld

theorem Tame.modDrc {c : Nat} {f : Dram → Dram} (hs : Tame s₀ s) : Tame s₀ (s.modDrc c f) := hs.setDrc

theorem Tame.imapEffect {h : Half} {data : Word} (hs : Tame s₀ s) : Tame s₀ (Machine.imapEffect h data s) :=
  Tame.ite hs hs.plainWrite

theorem Tame.execImapWrite {m : Ident} {h : Half} {data : Word} (hs : Tame s₀ s) :
    Leads s₀ (Machine.execImapWrite m h data s) := Tame.next (hs.regWrite (fun _ h0 => h0.imapEffect))

theorem Tame.dramSend {c : Nat} {cmd : DramCmd} (hs : Tame s₀ s) : Tame s₀ (Machine.dramSend c cmd s) := hs.modDrc.emit

theorem Tame.dramRefresh {c : Nat} (hs : Tame s₀ s) : Tame s₀ (Machine.dramRefresh c s) :=
  hs.dramSend.dramSend.modDrc.setFld.addFld

theorem Tame.urgentRefresh {c n : Nat} (hs : Tame s₀ s) : Tame s₀ (Machine.urgentRefresh c n s) := by
  induction n generalizing s with
  | zero => exact hs
  | succ n ih => exact Tame.ite (ih hs.dramRefresh.addFld) hs

theorem Tame.creditDebt {c v : Nat} (hs : Tame s₀ s) : Tame s₀ (Machine.creditDebt c v s) := hs.setFld.setFld.maxFld

theorem Tame.countActivate {c bank r : Nat} (hs : Tame s₀ s) : Tame s₀ (Machine.countActivate c bank r s) := by
  unfold Machine.countActivate
  dsimp only
  exact (Tame.ite hs.addFld hs).addFld.modDrc

theorem Tame.payNeighbours {c : Nat} {l : List (Nat × Nat)} (hs : Tame s₀ s) : Tame s₀ (Machine.payNeighbours c l s) := by
  induction l generalizing s with
  | nil => exact hs
  | cons x r ih => exact Tame.ite (ih (Tame.ite hs.dramSend hs).dramSend.dramSend.modDrc) hs

theorem Tame.dramColumn {c : Nat} {p : DramPick} (hs : Tame s₀ s) : Tame s₀ (Machine.dramColumn c p s) := by
  unfold Machine.dramColumn
  dsimp only
  split
  · split
    · exact hs
    · exact Tame.ite hs.dramSend.modDrc.setFld hs.dramSend.modDrc
  · split
    · exact hs.modDrc.dramSend.modDrc
    · exact hs.modDrc.dramSend.modDrc

theorem Tame.dramIssueOne {c : Nat} {p : DramPick} (hs : Tame s₀ s) : Tame s₀ (Machine.dramIssueOne c p s) :=
  Tame.ite hs.dramColumn (Tame.countActivate (Tame.dramColumn (Tame.modDrc (Tame.dramSend (Tame.ite hs.dramSend hs)))))

theorem Tame.dramAnswer {c src tag : Nat} {st : Status} {data : List Word} (hs : Tame s₀ s) :
    Tame s₀ (Machine.dramAnswer c src tag st data s) := hs.emit.answeredAt

theorem Tame.mergeDone {c : Nat} {ws : List Nat} {bad : Bool} (hs : Tame s₀ s) : Tame s₀ (Machine.mergeDone c ws bad s) :=
  hs.modDrc.foldl fun _ _ h0 => h0.dramAnswer

theorem Tame.enterBurst {c : Nat} {q : DramJob} {serial b : Nat} (hs : Tame s₀ s) :
    Tame s₀ (Machine.enterBurst c q serial s b) := by
  unfold Machine.enterBurst
  dsimp only
  split
  · split
    · exact hs.modDrc.mergeDone
    · exact Tame.ite hs.modDrc.modDrc.mergeDone hs.modDrc.modDrc
  · exact Tame.ite hs.modDrc.modDrc.mergeDone hs.modDrc.modDrc

theorem Tame.enterQueue {c : Nat} {q : DramJob} (hs : Tame s₀ s) : Tame s₀ (Machine.enterQueue c q s) :=
  Tame.ite (Tame.ite (Tame.setFld (hs.modDrc.modDrc.foldl fun _ _ h0 => h0.enterBurst))
      (hs.modDrc.modDrc.foldl fun _ _ h0 => h0.enterBurst)) hs.modDrc.modDrc

theorem Tame.admitScrub {c : Nat} (hs : Tame s₀ s) : Tame s₀ (Machine.admitScrub c s) := by
  unfold Machine.admitScrub
  dsimp only
  split
  · exact Tame.ite hs.setDrc hs
  · exact hs

theorem Tame.dramAdmit {c n : Nat} (hs : Tame s₀ s) : Tame s₀ (Machine.dramAdmit c n s) := by
  induction n generalizing s with
  | zero => exact hs
  | succ n ih =>
    unfold Machine.dramAdmit
    dsimp only
    split
    · exact Tame.ite (ih hs.admitScrub.setDrc.enterQueue) hs.admitScrub
    · exact hs.admitScrub

theorem Tame.dramIssue {c n : Nat} (hs : Tame s₀ s) : Tame s₀ (Machine.dramIssue c n s) := by
  induction n generalizing s with
  | zero => exact hs
  | succ n ih =>
    have h := hs.dramAdmit (c := c) (n := 256) |>.urgentRefresh (c := c) (n := 16)
    unfold Machine.dramIssue
    dsimp only
    split
    · exact Tame.ite (ih h.payNeighbours.dramIssueOne) h.payNeighbours
    · exact h.payNeighbours

theorem Tame.dramRest {c : Nat} {sr : Bool} (hs : Tame s₀ s) : Tame s₀ (Machine.dramRest c sr s) :=
  Tame.setFld (Tame.setFld (Tame.setFld (Tame.modDrc (Tame.ite (Tame.emit (Tame.emit (Tame.ite
      (hs.foldl fun _ _ h0 => h0.dramRefresh) hs))) (Tame.setFld (Tame.ite (hs.foldl fun _ _ h0 => h0.dramRefresh) hs))))))

theorem Tame.dramAdvance {c : Nat} (hs : Tame s₀ s) : Tame s₀ (Machine.dramAdvance c s) := by
  unfold Machine.dramAdvance
  dsimp only
  split
  · exact hs
  · split
    · split
      · exact hs.dramRest.endCommand
      · exact hs.dramRest
    · exact hs

theorem Tame.dramRun {c : Nat} (hs : Tame s₀ s) : Tame s₀ (Machine.dramRun c s) := hs.dramIssue.dramAdvance

theorem Tame.dramStop {c : Nat} {sr : Bool} {cmd : Option Packet} (hs : Tame s₀ s) : Tame s₀ (Machine.dramStop c sr cmd s) :=
  hs.raiseEndpoint.modDrc.dramRun

theorem Tame.dramContain {c : Nat} (hs : Tame s₀ s) : Tame s₀ (Machine.dramContain c s) := Tame.ite hs.dramStop hs

theorem Tame.dramHold {c : Nat} (hs : Tame s₀ s) : Tame s₀ (Machine.dramHold c s) :=
  Tame.ite hs.raiseEndpoint.emit.emit.modDrc.setFld hs

theorem Tame.dramFenced {c : Nat} {q : DramJob} (hs : Tame s₀ s) : Tame s₀ (Machine.dramFenced c s q) :=
  hs.addFld.addFld.dramAnswer

theorem Tame.dramOffline {c reason : Nat} (hs : Tame s₀ s) : Tame s₀ (Machine.dramOffline c reason s) := by
  unfold Machine.dramOffline
  dsimp only
  split
  · exact Tame.endCommand (Tame.foldl (Tame.foldl
        (hs.raiseEndpoint.addFld.setFld.setDrc.setFld.setFld.setFld.foldl fun _ _ h1 => h1.dramAnswer) fun _ _ h1 =>
        h1.dramAnswer) fun _ _ h1 => h1.dramFenced)
  · exact Tame.foldl (Tame.foldl
        (hs.raiseEndpoint.addFld.setFld.setDrc.setFld.setFld.setFld.foldl fun _ _ h1 => h1.dramAnswer) fun _ _ h1 =>
        h1.dramAnswer) fun _ _ h1 => h1.dramFenced

theorem Tame.execDramRequest {c : Fin 4} {req : DramReq} (hs : Tame s₀ s) : Leads s₀ (Machine.execDramRequest c req s) := by
  unfold Machine.execDramRequest
  split
  · exact hs.next
  · exact Leads.ite hs.next (Leads.ite hs.modDrc.dramRun.next hs.dramFenced.next)

theorem Tame.dramRecord {c burst kind writer : Nat} (hs : Tame s₀ s) : Tame s₀ (Machine.dramRecord c burst kind writer s) :=
  hs.setFld.setFld.setFld.setFld

theorem Tame.dramJudge {c burst : Nat} {r : BurstRead} (hs : Tame s₀ s) : Tame s₀ (Machine.dramJudge c burst r s).2 := by
  unfold Machine.dramJudge
  split
  · exact hs.addFld.dramRecord.raise
  · exact hs.addFld.dramRecord.raise
  · split
    · exact hs.addFld.dramRecord.raise
    · exact hs
  · dsimp only
    split
    · exact Tame.raise (Tame.dramRecord (Tame.addFld (Tame.ite hs.addFld.dramRecord.modDrc hs.addFld.dramRecord)))
    · exact Tame.ite hs.addFld.dramRecord.modDrc hs.addFld.dramRecord

theorem Tame.readArrives {c n burst : Nat} {v : Option (List Word)} (hs : Tame s₀ s) :
    Tame s₀ (Machine.readArrives c n burst v s) := by
  unfold Machine.readArrives
  split
  · exact hs
  · exact Tame.ite hs.modDrc.dramAnswer hs.modDrc

theorem Tame.mergeArrives {c burst : Nat} {v : Option (List Word)} (hs : Tame s₀ s) :
    Tame s₀ (Machine.mergeArrives c burst v s) := by
  unfold Machine.mergeArrives
  split
  · exact hs
  · exact Tame.ite hs hs.modDrc.mergeDone

theorem Tame.dramDeliver {c : Nat} {f : DramFlight} {d : List Word} {check : BitVec 128} (hs : Tame s₀ s) :
    Tame s₀ (Machine.dramDeliver c f d check s) := by
  unfold Machine.dramDeliver
  dsimp only
  split
  · exact hs.modDrc.dramJudge.readArrives
  · exact hs.modDrc.dramJudge.mergeArrives

theorem Tame.dramLand {c : Nat} (hs : Tame s₀ s) : Tame s₀ (Machine.dramLand c s) := by
  unfold Machine.dramLand
  dsimp only
  refine hs.foldl fun _ _ h0 => ?_
  split
  · exact Tame.ite h0 h0.dramDeliver
  · exact h0

theorem Tame.execDramReadData {c : Fin 4} {burst : Nat} {data : List Word} {check : BitVec 128} (hs : Tame s₀ s) :
    Leads s₀ (Machine.execDramReadData c burst data check s) := hs.modDrc.dramLand.dramRun.next

theorem Tame.execRefreshAccrue {c : Fin 4} (hs : Tame s₀ s) : Leads s₀ (Machine.execRefreshAccrue c s) :=
  Leads.ite hs.creditDebt.urgentRefresh.next hs.next

theorem Tame.execRefreshSlot {c : Fin 4} (hs : Tame s₀ s) : Leads s₀ (Machine.execRefreshSlot c s) :=
  Leads.ite hs.dramRefresh.dramRun.next hs.next

theorem Tame.setHot {c : Nat} {hot : Bool} (hs : Tame s₀ s) : Tame s₀ (Machine.setHot c hot s) :=
  Tame.ite hs (Tame.ite hs.setFld.creditDebt.urgentRefresh hs.setFld.creditDebt)

theorem Tame.execMr4Poll {c : Fin 4} {ranges : List Nat} {rfm : Bool} (hs : Tame s₀ s) :
    Leads s₀ (Machine.execMr4Poll c ranges rfm s) := Leads.ite hs.next (Tame.next (Tame.dramRun
        (hs.setFld.setHot.foldl fun _ _ h0 => h0.raise)))

theorem Tame.execRefreshWindowEnd {c : Fin 4} (hs : Tame s₀ s) : Leads s₀ (Machine.execRefreshWindowEnd c s) :=
  hs.modDrc.setFld.next

theorem Tame.execAlertAssert {c : Fin 4} (hs : Tame s₀ s) : Leads s₀ (Machine.execAlertAssert c s) :=
  Leads.ite hs.next (Leads.ite hs.setFld.addFld.setDrc.raise.dramOffline.next hs.setFld.addFld.setDrc.next)

theorem Tame.execAlertReplay {c : Fin 4} (hs : Tame s₀ s) : Leads s₀ (Machine.execAlertReplay c s) :=
  Leads.ite (Tame.next (Tame.dramRun (Tame.setFld (Tame.addFld (hs.foldl fun _ _ h0 => h0.emit))))) hs.next

theorem Tame.execRetryBufferRelease {c : Fin 4} (hs : Tame s₀ s) : Leads s₀ (Machine.execRetryBufferRelease c s) :=
  Leads.ite hs.next hs.modDrc.dramLand.dramRun.next

theorem Tame.dramActivate {c : Nat} (hs : Tame s₀ s) : Tame s₀ (Machine.dramActivate c s) := hs.modDrc.setFld.setFld

theorem Tame.dramWake {c : Nat} (hs : Tame s₀ s) : Tame s₀ (Machine.dramWake c s) :=
  hs.emit.emit.addFld.creditDebt.setFld.dramActivate.dramRun

theorem Tame.dramInit {c : Nat} {good : Bool} (hs : Tame s₀ s) : Tame s₀ (Machine.dramInit c good s) :=
  Tame.ite hs.creditDebt.setFld.setFld.dramActivate hs.creditDebt.dramOffline

theorem Tame.dramAtBoundary {c : Nat} (hs : Tame s₀ s) : Tame s₀ (Machine.dramAtBoundary c s) := by
  unfold Machine.dramAtBoundary
  split
  · exact Tame.ite (Tame.ite hs.modDrc.openEndpoint hs.modDrc) hs
  · exact hs

theorem Tame.syncCapacity {c : Nat} (hs : Tame s₀ s) : Tame s₀ (Machine.syncCapacity c s) := hs.setFld

theorem Tame.putSection {x : (RegName × List Nat) × Word} (hs : Tame s₀ s) : Tame s₀ (Machine.putSection s x) :=
  Tame.ite hs hs.setReg

theorem Tame.boardStart {copy : Nat} {good : List Bool} {c : Nat} (hs : Tame s₀ s) :
    Tame s₀ (Machine.boardStart copy good s c) := by
  unfold Machine.boardStart
  split
  · exact Tame.dramInit (Tame.syncCapacity (hs.foldl fun _ _ h1 => h1.putSection))
  · exact hs

theorem Tame.boardLoad {good : List Bool} (hs : Tame s₀ s) : Tame s₀ (Machine.boardLoad good s) := by
  unfold Machine.boardLoad
  split
  · exact hs
  · exact hs.putSection.foldl fun _ _ h1 => h1.boardStart

theorem Tame.dramStartWork {p : Packet} {good : Bool} (hs : Tame s₀ s) : Tame s₀ (Machine.dramStartWork p good s) :=
  Tame.ite hs.endCommand (Tame.ite hs.endCommand (Tame.ite hs.dramWake.endCommand
      (Tame.ite hs.dramInit.endCommand hs.endCommand)))

theorem Tame.execDramStart {p : Packet} {good : Bool} (hs : Tame s₀ s) : Leads s₀ (Machine.execDramStart p good s) :=
  Tame.next (hs.runCommand (fun _ h0 => h0.dramStartWork))

theorem Tame.dramStopWork {p : Packet} (hs : Tame s₀ s) : Tame s₀ (Machine.dramStopWork p s) :=
  Tame.ite hs.endCommand (Tame.ite hs.endCommand (Tame.ite hs.dramStop hs.endCommand))

theorem Tame.execDramStop {p : Packet} (hs : Tame s₀ s) : Leads s₀ (Machine.execDramStop p s) :=
  Tame.next (hs.runCommand (fun _ h0 => h0.dramStopWork))

theorem Tame.setDelay {c cls i lane v : Nat} (hs : Tame s₀ s) : Tame s₀ (Machine.setDelay c cls i lane v s) := by
  unfold Machine.setDelay
  split
  · exact hs.setFld
  · exact hs.setFld
  · exact hs.setFld
  · exact hs.setFld
  · exact hs.setFld
  · exact hs.setFld

theorem Tame.delaySweepWork {p : Packet} {found : SweepResult} (hs : Tame s₀ s) :
    Tame s₀ (Machine.delaySweepWork p found s) := by
  unfold Machine.delaySweepWork
  dsimp only
  split
  · exact hs.endCommand
  · split
    · exact hs.endCommand
    · split
      · exact hs.endCommand
      · refine Tame.endCommand ?_
        split
        · refine hs.setFld.setFld.foldl fun _ _ h0 => ?_
          split
          · exact h0.setDelay
          · exact h0
        · exact hs.setFld.setFld

theorem Tame.execDelaySweep {p : Packet} {found : SweepResult} (hs : Tame s₀ s) : Leads s₀
    (Machine.execDelaySweep p found s) :=
  Tame.next (hs.runCommand (fun _ h0 => h0.delaySweepWork))

theorem Tame.tableSaveWork {p : Packet} {verified : Bool} (hs : Tame s₀ s) : Tame s₀ (Machine.tableSaveWork p verified s) :=
  Tame.ite hs.endCommand (Tame.ite (Tame.endCommand (hs.nvaTurn.foldl fun _ _ h0 => h0.nvaStore)) (Tame.endCommand
      (hs.nvaTurn.foldl fun _ _ h0 => h0.nvaStore)))

theorem Tame.execDramTableSave {p : Packet} {verified : Bool} (hs : Tame s₀ s) :
    Leads s₀ (Machine.execDramTableSave p verified s) := Tame.next (hs.runCommand (fun _ h0 => h0.tableSaveWork))

end Sys2Proof.Machine
end

section
/-! SUPPORT. `Tame` through the functions of Machine/Ember. -/

set_option Elab.async false

namespace Sys2Proof.Machine

variable {s₀ s : State}

theorem Tame.setEmber {v : Bool} (hs : Tame s₀ s) : Tame s₀ (Machine.setEmber v s) := Tame.ite hs hs.setFld.emit

theorem Tame.emberCheck (hs : Tame s₀ s) : Tame s₀ (Machine.emberCheck s) :=
  Tame.ite (Tame.ite hs hs.setFld.same) hs.same.setFld.setEmber

theorem Tame.execEmberEdge (hs : Tame s₀ s) : Leads s₀ (Machine.execEmberEdge s) := by
  unfold Machine.execEmberEdge
  dsimp only
  split
  · exact hs.emberCheck.next
  · split
    · exact hs.emberCheck.next
    · split
      · exact hs.emberCheck.same.setEmber.same.next
      · exact hs.emberCheck.same.setEmber.next

theorem Tame.emberEffect {h : Half} {data : Word} (hs : Tame s₀ s) : Tame s₀ (Machine.emberEffect h data s) := by
  unfold Machine.emberEffect
  dsimp only
  split
  · exact hs
  · refine Tame.emberCheck ?_
    split
    · exact hs.plainWrite
    · exact hs.plainWrite.same

theorem Tame.execEmberFreqWrite {m : Ident} {h : Half} {data : Word} (hs : Tame s₀ s) :
    Leads s₀ (Machine.execEmberFreqWrite m h data s) := Tame.next (hs.regWrite (fun _ h0 => h0.emberEffect))

theorem Tame.execHeartbeat (hs : Tame s₀ s) : Leads s₀ (Machine.execHeartbeat s) := hs.addFld.setFld.emberCheck.next

theorem Tame.execHbLost (hs : Tame s₀ s) : Leads s₀ (Machine.execHbLost s) :=
  Leads.ite hs.next hs.setFld.raise.emberCheck.next

theorem Tame.execTickLost (hs : Tame s₀ s) : Leads s₀ (Machine.execTickLost s) :=
  Leads.ite hs.next hs.setFld.raise.emberCheck.next

end Sys2Proof.Machine
end

section
/-! SUPPORT. `Tame` through the functions of Machine/Sge. -/

set_option Elab.async false

namespace Sys2Proof.Machine

variable {s₀ s : State}

theorem Tame.syncEngine {e : Nat} (hs : Tame s₀ s) : Tame s₀ (Machine.syncEngine e s) :=
  hs.setFld.setFld.setFld.setFld.setFld.setFld

theorem Tame.countCycles {e n : Nat} (hs : Tame s₀ s) : Tame s₀ (Machine.countCycles e n s) := by
  unfold Machine.countCycles
  exact hs.addFld.modEng

theorem Tame.answerJob {e : Nat} {a : Action} {st : Status} {value : Nat} (hs : Tame s₀ s) :
    Tame s₀ (Machine.answerJob e a st value s) := Tame.ite hs.emit.answeredAt.addFld hs.emit.answeredAt.addFld.addFld

theorem Tame.startNext {e : Nat} (hs : Tame s₀ s) : Tame s₀ (Machine.startNext e s) := by
  unfold Machine.startNext
  dsimp only
  split
  · exact Tame.ite hs hs.modEng.addFld
  · exact hs

theorem Tame.endAction {e : Nat} {st : Status} {value : Nat} (hs : Tame s₀ s) : Tame s₀ (Machine.endAction e st value s) := by
  unfold Machine.endAction
  split
  · exact hs.modEng.answerJob.startNext
  · exact hs

theorem Tame.fenceQueued {e : Nat} (hs : Tame s₀ s) : Tame s₀ (Machine.fenceQueued e s) :=
  hs.modEng.foldl fun _ _ h0 => h0.answerJob

theorem Tame.startFrame {e : Nat} (hs : Tame s₀ s) : Tame s₀ (Machine.startFrame e s) := hs.modEng.addFld

theorem Tame.notePulse {e : Nat} (hs : Tame s₀ s) : Tame s₀ (Machine.notePulse e s) := hs.modEng

theorem Tame.endFrame {e : Nat} {err : Bool} (hs : Tame s₀ s) : Tame s₀ (Machine.endFrame e err s) :=
  Tame.ite (Tame.startFrame (Tame.setFld (Tame.modEng (Tame.maxFld (Tame.ite hs.addFld.addFld hs.addFld))))) (Tame.startNext
      (Tame.modEng (Tame.ite (Tame.addFld (Tame.modEng (Tame.maxFld (Tame.ite hs.addFld.addFld hs.addFld)))) (Tame.modEng
      (Tame.maxFld (Tame.ite hs.addFld.addFld hs.addFld))))))

theorem Tame.startBacklog {e : Nat} (hs : Tame s₀ s) : Tame s₀ (Machine.startBacklog e s) :=
  Tame.ite hs hs.setFld.startFrame.syncEngine

theorem Tame.frameAtBoundary {e : Nat} (hs : Tame s₀ s) : Tame s₀ (Machine.frameAtBoundary e s) :=
  Tame.ite hs (Tame.ite (Tame.carryLate (Tame.ite hs.addFld.notePulse hs)) (Tame.ite hs.notePulse.startFrame.syncEngine hs))

theorem Tame.recordTrap {e cause pc : Nat} (hs : Tame s₀ s) : Tame s₀ (Machine.recordTrap e cause pc s) :=
  hs.setFld.setFld.setFld

theorem Tame.haltEngine {e cause pc : Nat} (hs : Tame s₀ s) : Tame s₀ (Machine.haltEngine e cause pc s) :=
  Tame.raise (Tame.fenceQueued (Tame.ite hs.setFld.modEng.endAction hs.setFld.modEng))

theorem Tame.takeTrap {e cause pc ret : Nat} (hs : Tame s₀ s) : Tame s₀ (Machine.takeTrap e cause pc ret s) :=
  Tame.ite hs.recordTrap.haltEngine hs.recordTrap.setBank.addFld.countCycles

theorem Tame.takeDataTrap {e pc a : Nat} {busY : Bool} (hs : Tame s₀ s) : Tame s₀ (Machine.takeDataTrap e pc a busY s) :=
  hs.setBank.setFld.setFld.takeTrap

theorem Tame.readMended {key : Nat} {r : Word × State} (hs : Tame s₀ s) (e : Machine.readMended key s = some r) :
    Tame s₀ r.2 := by
  unfold Machine.readMended at e
  split at e
  · exact absurd e (by simp)
  · obtain rfl := Option.some.inj e
    exact Tame.ite hs.writeP hs

theorem Tame.loadWord {e : Nat} {busY : Bool} {a : Nat} {r : BitVec 24 × State} (hs : Tame s₀ s)
    (h : Machine.loadWord e busY a s = some r) : Tame s₀ r.2 := by
  unfold Machine.loadWord at h
  split at h
  · exact absurd h (by simp)
  next hr =>
    obtain rfl := Option.some.inj h
    exact hs.readMended hr

theorem Tame.storeWord {e : Nat} {busY : Bool} {a : Nat} {v : BitVec 32} {t : State} (hs : Tame s₀ s)
    (h : Machine.storeWord e busY a v s = some t) : Tame s₀ t := hs.mergeP h

theorem Tame.loadWords {e : Nat} {busY : Bool} {l : List Nat} (hs : Tame s₀ s) :
    Tame s₀ (Machine.loadWords e busY l s).2.2 := by
  induction l generalizing s with
  | nil => exact hs
  | cons a r ih =>
    unfold Machine.loadWords
    split
    · exact ih hs
    next h => exact ih (hs.loadWord h)

theorem Tame.plain {uses : List Nat} {ovf : optParam Bool false} {st : State} (hs : Tame s₀ st) :
    SgeRes.Keeps s₀ (SgeRes.plain st uses ovf) := hs

theorem Tame.fetchInstr {e : Nat} {r : BitVec 32 × State} (hs : Tame s₀ s) (h : Machine.fetchInstr e s = some r) :
    Tame s₀ r.2 := by
  unfold Machine.fetchInstr at h
  dsimp only at h
  split at h
  · obtain rfl := Option.some.inj h
    exact hs
  · split at h
    · exact absurd h (by simp)
    next hr =>
      obtain rfl := Option.some.inj h
      dsimp only
      exact Tame.modEng (hs.readMended hr)

theorem Tame.completeInstr {e pc : Nat} {old : SgeBank} {uses loaded acs : List Nat} {cycles : Nat} {ovf rounds : Bool}
    {target : Option Nat} (hs : Tame s₀ s) :
    Tame s₀ (Machine.completeInstr e pc old uses loaded acs cycles ovf rounds target s) :=
    Tame.ite (Tame.takeTrap (Tame.countCycles (Tame.ite hs.setBank.modEng hs.setBank))) (Tame.countCycles
        (Tame.ite hs.setBank.modEng hs.setBank))

theorem Tame.applyRes {e : Nat} {r : SgeRes} (hs : Tame s₀ s) (hr : r.Keeps s₀) : Tame s₀ (Machine.applyRes e r s) := by
  cases r with
  | illegal => exact hs.takeTrap
  | trap c => exact hs.takeTrap
  | data t a y => exact Tame.takeDataTrap hr
  | soft => exact hs.takeTrap
  | wait => exact hs.countCycles
  | fin t uses loaded acs cycles ovf rounds target => exact Tame.completeInstr hr
  | ended t => exact hr

theorem Tame.issue {e op : Nat} {work : BitVec 32 → State → SgeRes} (hs : Tame s₀ s)
    (hw : ∀ w t, Tame s₀ t → (work w t).Keeps s₀) : Tame s₀ (Machine.issue e op work s) := by
  unfold Machine.issue
  refine Tame.ite hs ?_
  dsimp only
  split
  · exact hs.takeTrap.syncEngine
  next h =>
    have ht := hs.fetchInstr h
    split
    · exact Tame.syncEngine (Tame.applyRes ht trivial)
    · exact Tame.ite hs (Tame.ite (Tame.syncEngine (Tame.applyRes ht trivial)) (Tame.applyRes ht (hw _ _ ht)).syncEngine)

theorem Tame.setDstat {e : Nat} {frame : Bool} {f : SgeBank → SgeBank} (hs : Tame s₀ s) :
    Tame s₀ (Machine.setDstat e frame f s) := hs.modEng

theorem Tame.dmaStop {e : Nat} {d : SgeDma} {status : Nat} (hs : Tame s₀ s) : Tame s₀ (Machine.dmaStop e d status s) :=
  hs.modEng.setDstat

theorem Tame.dmaGather {e : Nat} {d : SgeDma} {n k : Nat} (hs : Tame s₀ s) : Tame s₀ (Machine.dmaGather e d n k s).2.2 := by
  induction n generalizing k s with
  | zero => exact hs
  | succ n ih =>
    unfold Machine.dmaGather
    split
    · exact hs
    next h => exact ih (hs.readMended h)

theorem Tame.dmaSend {e : Nat} {d : SgeDma} (hs : Tame s₀ s) : Tame s₀ (Machine.dmaSend e d s) :=
  Tame.ite (Tame.ite hs.dmaGather.dmaStop hs.dmaGather.emit.addFld.modEng) hs.emit.addFld.modEng

theorem Tame.dmaScatter {e : Nat} {d : SgeDma} {l : List (BitVec 32)} {k : Nat} (hs : Tame s₀ s) :
    Tame s₀ (Machine.dmaScatter e d l k s).2 := by
  induction l generalizing k s with
  | nil => exact hs
  | cons v r ih =>
    unfold Machine.dmaScatter
    split
    · exact hs
    next h => exact ih (hs.storeWord h)

theorem Tame.dmaMoved {e : Nat} {d : SgeDma} {n : Nat} (hs : Tame s₀ s) : Tame s₀ (Machine.dmaMoved e d n s) :=
  Tame.ite hs.setDstat.dmaStop (Tame.ite hs.setDstat.dmaStop hs.setDstat.dmaSend)

theorem Tame.execDmaResponse {e : Fin 32} {st : Status} {ws : List (BitVec 32)} (hs : Tame s₀ s) :
    Leads s₀ (Machine.execDmaResponse e st ws s) := by
  unfold Machine.execDmaResponse
  split
  · exact hs.next
  · exact Leads.ite hs.addFld.answeredAt.dmaStop.syncEngine.next
        (Leads.ite hs.addFld.answeredAt.dmaMoved.syncEngine.next hs.addFld.answeredAt.dmaScatter.dmaMoved.syncEngine.next)

theorem Tame.execSgeAction {e : Fin 32} {a : Action} (hs : Tame s₀ s) : Leads s₀ (Machine.execSgeAction e a s) :=
  Leads.ite hs.emit.answeredAt.next (Leads.ite hs.emit.answeredAt.next (Leads.ite hs.answerJob.next
      (Leads.ite hs.next hs.modEng.startNext.syncEngine.next)))

theorem Tame.expireJob {e : Nat} (hs : Tame s₀ s) : Tame s₀ (Machine.expireJob e s) :=
  hs.setFld.setFld.setFld.addFld.endAction

theorem Tame.execJobLimitExpire {e : Fin 32} (hs : Tame s₀ s) : Leads s₀ (Machine.execJobLimitExpire e s) :=
  Leads.ite hs.expireJob.syncEngine.next hs.next

theorem Tame.setRun {e : Nat} {v : Bool} (hs : Tame s₀ s) : Tame s₀ (Machine.setRun e v s) :=
  Tame.syncEngine (Tame.ite hs.setFld.modEng hs.setFld.fenceQueued)

theorem Tame.restartEngine {e : Nat} (hs : Tame s₀ s) : Tame s₀ (Machine.restartEngine e s) :=
  Tame.ite hs hs.setFld.modEng.setFld.syncEngine

theorem Tame.sgeCtlEffect {e : Nat} {h : Half} {data : Word} (hs : Tame s₀ s) : Tame s₀ (Machine.sgeCtlEffect e h data s) :=
  by
  unfold Machine.sgeCtlEffect
  dsimp only
  split
  · refine Tame.restartEngine ?_
    split
    · refine Tame.setRun ?_
      split
      · exact hs.setFld
      · exact hs
    · split
      · exact hs.setFld
      · exact hs
  · split
    · refine Tame.setRun ?_
      split
      · exact hs.setFld
      · exact hs
    · split
      · exact hs.setFld
      · exact hs

theorem Tame.execSgeRunWrite {m : Ident} {e : Fin 32} {h : Half} {data : Word} (hs : Tame s₀ s) :
    Leads s₀ (Machine.execSgeRunWrite m e h data s) := Tame.next (hs.regWrite (fun _ h0 => h0.sgeCtlEffect))

theorem Tame.execSgeRestart {m : Ident} {e : Fin 32} {h : Half} {data : Word} (hs : Tame s₀ s) :
    Leads s₀ (Machine.execSgeRestart m e h data s) := Tame.next (hs.regWrite (fun _ h0 => h0.sgeCtlEffect))

theorem Tame.bumpPort {e : Nat} {h : Half} (hs : Tame s₀ s) : Tame s₀ (Machine.bumpPort e h s) := Tame.ite hs hs.setFld

theorem Tame.portWrite {m : Ident} {e : Nat} {w : Half} {data : Word} (hs : Tame s₀ s) :
    Tame s₀ (Machine.portWrite m e w data s) := by
  refine Tame.ite hs.violation (Tame.bumpPort ?_)
  cases h : s.writeMasked (portKey e s) w.mask data false with
  | none => exact hs.refusedPartial
  | some t => exact hs.writeMasked h

theorem Tame.portRead {m : Ident} {e : Nat} {h : Half} (hs : Tame s₀ s) : Tame s₀ (Machine.portRead m e h s) := by
  unfold Machine.portRead
  split
  next e0 => exact Tame.bumpPort (Tame.emit ((hs.readMended e0)))
  · exact hs.emit.bumpPort

theorem Tame.execSgeMemDataAccess {m : Ident} {e : Fin 32} {h : Half} {data : Option Word} (hs : Tame s₀ s) :
    Leads s₀ (Machine.execSgeMemDataAccess m e h data s) := by
  unfold Machine.execSgeMemDataAccess
  split
  · exact Tame.next (hs.regWrite (fun _ h1 => h1.portWrite))
  · exact Tame.next (hs.readFront (fun _ h1 => h1.portRead))

theorem Tame.execPortWaitSteal {e : Fin 32} (hs : Tame s₀ s) : Leads s₀ (Machine.execPortWaitSteal e s) :=
  Leads.ite hs.countCycles.next hs.next

end Sys2Proof.Machine
end

section
/-! SUPPORT. `Tame` through the functions of Machine/Faults. -/

set_option Elab.async false

namespace Sys2Proof.Machine

variable {s₀ s : State}

theorem Tame.setJournal {l : List (Word × Word)} (hs : Tame s₀ s) : Tame s₀ (Machine.setJournal l s) := hs.setFld.same

theorem Tame.journalEntry {sev : Nat} {w0 w1 : Word} (hs : Tame s₀ s) : Tame s₀ (Machine.journalEntry sev w0 w1 s) :=
  Tame.ite hs (Tame.ite hs.addFld hs.setJournal)

theorem Tame.execFaultRecord (hs : Tame s₀ s) : Leads s₀ (Machine.execFaultRecord s) := by
  unfold Machine.execFaultRecord
  split
  · exact hs.next
  · exact Tame.next (Tame.journalEntry (Tame.addFld (Tame.ite hs.same.setReg.setReg hs.same.setReg.setReg.setReg.setReg)))

theorem Tame.firstEffect {h : Half} {data : Word} (hs : Tame s₀ s) : Tame s₀ (Machine.firstEffect h data s) :=
  Tame.ite hs.setReg.setReg hs

theorem Tame.execFirstCaptureRearm {m : Ident} {h : Half} {data : Word} (hs : Tame s₀ s) :
    Leads s₀ (Machine.execFirstCaptureRearm m h data s) := Tame.next (hs.regWrite (fun _ h0 => h0.firstEffect))

theorem Tame.histReadEffect {m : Ident} {k : Nat} {h : Half} (hs : Tame s₀ s) : Tame s₀ (Machine.histReadEffect m k h s) := by
  unfold Machine.histReadEffect
  dsimp only
  refine Tame.emit ?_
  split
  · exact hs
  · exact hs.same

theorem Tame.execHistoryRead {m : Ident} {k : Fin 32} {h : Half} (hs : Tame s₀ s) :
    Leads s₀ (Machine.execHistoryRead m k h s) := Tame.next (hs.readFront (fun _ h0 => h0.histReadEffect))

theorem Tame.histSecondEffect {m : Ident} {k : Nat} {h : Half} (hs : Tame s₀ s) :
    Tame s₀ (Machine.histSecondEffect m k h s) := by
  unfold Machine.histSecondEffect
  dsimp only
  split
  · exact Tame.emit (Tame.ite hs hs.same)
  · exact hs.emit

theorem Tame.execJournalWrite (hs : Tame s₀ s) : Leads s₀ (Machine.execJournalWrite s) := by
  unfold Machine.execJournalWrite
  split
  · exact Leads.ite hs.next (Tame.next (Tame.setJournal (Tame.addFld (Tame.setFld
        (hs.nvaTurn.foldl fun _ _ h1 => h1.nvaStore)))))
  · exact hs.next

theorem Tame.execJournalScan (hs : Tame s₀ s) : Leads s₀ (Machine.execJournalScan s) := Leads.ite hs.next hs.setFld.same.next

theorem Tame.execJournalRead {p : Packet} (hs : Tame s₀ s) : Leads s₀ (Machine.execJournalRead p s) := by
  unfold Machine.execJournalRead
  refine Tame.next ?_
  refine hs.runCommand (fun _ h0 => ?_)
  dsimp only
  split
  · exact h0.endCommand
  · split
    next e1 => exact Tame.endCommand ((h0.nvaTurn.nvaReadMany.of_snd e1))
    next e1 => exact Tame.endCommand ((h0.nvaTurn.nvaReadMany.of_snd e1))

theorem Tame.containSource {r : FltReaction} (hs : Tame s₀ s) : Tame s₀ (Machine.containSource r s) := by
  unfold Machine.containSource
  dsimp only
  split
  · exact hs.setFld
  · split
    · exact hs.setFbit.portToStage1
    · split
      · exact hs.enterSafe
      · split
        · exact hs.foldl fun _ _ h0 => h0.enterSafe
        · split
          · exact hs.setRun
          · split
            · exact hs.dramContain
            · split
              · exact Tame.ite hs.raiseDamper hs
              · split
                · exact hs.raiseDamper
                · exact hs

theorem Tame.haltOutputs (hs : Tame s₀ s) : Tame s₀ (Machine.haltOutputs s) :=
  Tame.emberCheck (hs.setFld.foldl fun _ _ h0 => h0.enterSafe)

theorem Tame.haltFor {src : Nat} (hs : Tame s₀ s) : Tame s₀ (Machine.haltFor src s) :=
  Tame.ite hs.haltOutputs hs.same.addFld.setFld.haltOutputs

theorem Tame.react {r : FltReaction} (hs : Tame s₀ s) : Tame s₀ (Machine.react s r) :=
  Tame.ite hs.containSource.haltFor hs.containSource

theorem Tame.execFaultReaction (hs : Tame s₀ s) : Leads s₀ (Machine.execFaultReaction s) :=
  Tame.next (hs.same.foldl fun _ _ h0 => h0.react)

theorem Tame.releaseHalt (hs : Tame s₀ s) : Tame s₀ (Machine.releaseHalt s) :=
  Tame.ite hs.setFld (Tame.ite hs (Tame.ite hs.same hs.setFld.emberCheck))

theorem Tame.fltCtlEffect {h : Half} {data : Word} (hs : Tame s₀ s) : Tame s₀ (Machine.fltCtlEffect h data s) :=
  Tame.ite hs.plainWrite.releaseHalt hs.plainWrite

theorem Tame.execHaltRelease {m : Ident} {h : Half} {data : Word} (hs : Tame s₀ s) :
    Leads s₀ (Machine.execHaltRelease m h data s) := Tame.next (hs.regWrite (fun _ h0 => h0.fltCtlEffect))

theorem Tame.fltRaiseEffect {m : Ident} {h : Half} {data : Word} (hs : Tame s₀ s) :
    Tame s₀ (Machine.fltRaiseEffect m h data s) := Tame.ite hs.raiseFrom hs.violation

theorem Tame.execFltRaiseWrite {m : Ident} {h : Half} {data : Word} (hs : Tame s₀ s) :
    Leads s₀ (Machine.execFltRaiseWrite m h data s) := Tame.next (hs.regWrite (fun _ h0 => h0.fltRaiseEffect))

theorem Tame.fltSrcEffect {src : Nat} {h : Half} {data : Word} (hs : Tame s₀ s) :
    Tame s₀ (Machine.fltSrcEffect src h data s) := by
  unfold Machine.fltSrcEffect
  split
  · exact hs
  · exact Tame.ite hs.plainWrite.setFld hs.plainWrite

theorem Tame.dmaAudit (hs : Tame s₀ s) : Tame s₀ (Machine.dmaAudit s) :=
  Tame.ite hs (hs.addFld.foldl fun _ _ h0 => h0.setFbit.raise)

theorem Tame.dramAudit (hs : Tame s₀ s) : Tame s₀ (Machine.dramAudit s) :=
  Tame.ite hs (hs.addFld.foldl fun _ _ h0 => h0.setFbit.raise)

end Sys2Proof.Machine
end

section
/-! SUPPORT. `Tame` through the functions of Machine/Engine. -/

set_option Elab.async false

namespace Sys2Proof.Machine

variable {s₀ s : State}

theorem Tame.admitTick (hs : Tame s₀ s) : Tame s₀ (Machine.admitTick s) :=
  Tame.ite hs.same (Tame.ite hs.same.maxFld.same.linkError hs.same.maxFld.same.carryLate)

theorem Tame.publishVisits (hs : Tame s₀ s) : Tame s₀ (Machine.publishVisits s) := hs.foldl fun _ _ h0 => h0.setFld.setFld

theorem Tame.syncFlight (hs : Tame s₀ s) : Tame s₀ (Machine.syncFlight s) := hs.setFld

theorem Tame.allocFlight {i : Nat} {e : Flight} (hs : Tame s₀ s) : Tame s₀ (s.allocFlight i e) :=
  hs.writeFlightWord.same.syncFlight

theorem Tame.freeFlight {i : Nat} (hs : Tame s₀ s) : Tame s₀ (s.freeFlight i) := hs.writeFlightWord.same.syncFlight

theorem Tame.settleCredit {target : Nat} {timedOut : Bool} (hs : Tame s₀ s) :
    Tame s₀ (Machine.settleCredit target timedOut s) := Tame.ite hs.addFld.addFld hs.addFld

theorem Tame.sendAction {w tag target : Nat} {c : Ctx} {dom attempt : Nat} {vtick : Word} (hs : Tame s₀ s) :
    Tame s₀ (Machine.sendAction w tag target c dom attempt vtick s) := hs.emit

theorem Tame.ringLoss {d : Nat} (hs : Tame s₀ s) : Tame s₀ (Machine.ringLoss d s) := hs.setFld.raise

theorem Tame.produceRecord {d w : Nat} {w0 : Word} {due : Nat} (hs : Tame s₀ s) :
    Tame s₀ (Machine.produceRecord d w w0 due s) := Tame.ite hs
        (Tame.ite hs.addFld.addFld.ringLoss hs.addFld.addFld.same.emit)

theorem Tame.linkAction {id : Nat} {x : Ctx} (hs : Tame s₀ s) : Tame s₀ (Machine.linkAction id x s).2.2 := by
  unfold Machine.linkAction
  extract_lets t tc dom before u a b
  have hu : Tame s₀ u := hs.noteCtx
  split
  · exact hs.quarantine
  · split
    · dsimp only
      exact hu
    · split
      · split
        · dsimp only
          exact hu
        · split
          · dsimp only
            exact hu.storeCtx.file
          · dsimp only
            exact hu
      · split
        · dsimp only
          exact hu.storeCtx.file
        · dsimp only
          exact hu

theorem Tame.linkVisit {id w : Nat} {c : Ctx} (hs : Tame s₀ s) : Tame s₀ (Machine.linkVisit id w c s) :=
  Tame.ite (Tame.produceRecord (Tame.ite hs.linkAction.storeCtx.file hs.linkAction.storeCtx))
      (Tame.ite hs.linkAction.storeCtx.file hs.linkAction.storeCtx)

theorem Tame.refuseVisit {id : Nat} {c : Ctx} (hs : Tame s₀ s) : Tame s₀ (Machine.refuseVisit id c s) :=
  hs.storeCtx.carryLate.fileCarry

theorem Tame.dispatch {id w : Nat} {c : Ctx} (hs : Tame s₀ s) : Tame s₀ (Machine.dispatch id w c s) :=
  hs.setFld.allocFlight.storeCtx.sendAction

theorem Tame.dueVisit {id w : Nat} {c : Ctx} {linkLocked : Bool} (hs : Tame s₀ s) :
    Tame s₀ (Machine.dueVisit id w c linkLocked s) := Tame.ite (Tame.ite hs.refuseVisit hs.linkVisit)
        (Tame.ite hs.refuseVisit hs.dispatch)

theorem Tame.visitEntry {e : Filed} {w : Nat} {ctxLocked linkLocked : Bool} (hs : Tame s₀ s) :
    Tame s₀ (Machine.visitEntry e w ctxLocked linkLocked s) := Tame.ite hs.carryLate.fileCarry (Tame.ite hs.addFld.addFld
        (Tame.ite hs.addFld.quarantine (Tame.ite hs.addFld.noteCtx.dueVisit
        (Tame.ite hs.addFld.noteCtx.addFld.file hs.addFld.noteCtx.addFld))))

theorem Tame.execVisit {ctxLocked linkLocked : Bool} (hs : Tame s₀ s) :
    Leads s₀ (Machine.execVisit ctxLocked linkLocked s) := by
  unfold Machine.execVisit
  split
  · exact hs.next
  · split
    · exact hs.next
    · exact hs.same.visitEntry.next

theorem Tame.staleResponse {source : Nat} (hs : Tame s₀ s) : Tame s₀ (Machine.staleResponse source s) :=
  Tame.addFld (Tame.ite hs.setFld.setFld.addFld hs)

theorem Tame.finalResult {i : Nat} {e : Flight} {c : Ctx} {v : Verdict} {st : Status} {value : Nat} (hs : Tame s₀ s) :
    Tame s₀ (Machine.finalResult i e c v st value s) := Tame.freeFlight (Tame.settleCredit (Tame.ite hs.freeCtx (Tame.ite
        (Tame.produceRecord (Tame.ite hs.storeCtx.file hs.storeCtx)) (Tame.ite hs.storeCtx.file hs.storeCtx))))

theorem Tame.laneProcess {i : Nat} {e : Flight} {st : Status} {value : Nat} (hs : Tame s₀ s) :
    Tame s₀ (Machine.laneProcess i e st value s) := Tame.ite (Tame.freeFlight (Tame.settleCredit (Tame.quarantine
        (Tame.ite hs.setFld hs)))) (Tame.ite (Tame.freeFlight (Tame.settleCredit (Tame.noteCtx (Tame.ite hs.setFld hs))))
        (Tame.ite (Tame.sendAction (Tame.addFld (Tame.setFlight (Tame.writeFlightWord (Tame.noteCtx
        (Tame.ite hs.setFld hs)))))) (Tame.finalResult (Tame.noteCtx (Tame.ite hs.setFld hs)))))

theorem Tame.execResultResponse {lane : Fin 4} {source : Fin 224} {tag : Nat} {st : Status} {value : Nat} (hs : Tame s₀ s) :
    Leads s₀ (Machine.execResultResponse lane source tag st value s) := by
  unfold Machine.execResultResponse
  split
  · exact hs.next
  · split
    · exact hs.answeredAt.staleResponse.next
    · exact hs.answeredAt.laneProcess.next

theorem Tame.execFlightTimeout {entry : Fin 2560} (hs : Tame s₀ s) : Leads s₀ (Machine.execFlightTimeout entry s) := by
  unfold Machine.execFlightTimeout
  split
  · exact hs.next
  · exact Leads.ite hs.addFld.laneProcess.next hs.next

theorem Tame.ringNotify {d : Nat} (hs : Tame s₀ s) : Tame s₀ (Machine.ringNotify d s) := Tame.ite hs.raise hs

theorem Tame.ringAdvanceOne {d : Nat} {st : Status} (hs : Tame s₀ s) : Tame s₀ (Machine.ringAdvanceOne d st s) :=
  Tame.ringNotify (Tame.ite hs.addFld.setFld hs.addFld.setFld.addFld.ringLoss)

theorem Tame.ringAdvance {d : Nat} {l : List RingWrite} (hs : Tame s₀ s) : Tame s₀ (Machine.ringAdvance d l s) := by
  induction l generalizing s with
  | nil => exact hs
  | cons r rs ih =>
    unfold Machine.ringAdvance
    refine Tame.ite (ih hs) ?_
    split
    · exact hs
    · exact ih hs.same.ringAdvanceOne

theorem Tame.execRingWriteResponse {d : Fin 16} {pos : Nat} {st : Status} (hs : Tame s₀ s) :
    Leads s₀ (Machine.execRingWriteResponse d pos st s) := by
  unfold Machine.execRingWriteResponse
  dsimp only
  refine Tame.next ?_
  refine Tame.ringAdvance ?_
  refine Tame.same ?_
  split
  · exact hs.answeredAt
  · exact hs

theorem Tame.ringRdEffect {d : Nat} {v : Word} (hs : Tame s₀ s) : Tame s₀ (Machine.ringRdEffect d v s) :=
  Tame.ite hs.setFld hs

theorem Tame.execRingRdWrite {m : Ident} {d : Fin 16} {h : Half} {data : Word} (hs : Tame s₀ s) :
    Leads s₀ (Machine.execRingRdWrite m d h data s) := Tame.next (hs.regWrite (fun _ h0 => h0.ringRdEffect))

theorem Tame.ringCfgEffect {d : Nat} {v : Word} (hs : Tame s₀ s) : Tame s₀ (Machine.ringCfgEffect d v s) :=
  Tame.ite hs (Tame.setFld (Tame.setFld (Tame.ite (Tame.setFld (Tame.setFld (Tame.ite hs hs.setFld)))
      (Tame.ite hs hs.setFld))))

theorem Tame.execRingCfgWrite {m : Ident} {d : Fin 16} {h : Half} {data : Word} (hs : Tame s₀ s) :
    Leads s₀ (Machine.execRingCfgWrite m d h data s) := Tame.next (hs.regWrite (fun _ h0 => h0.ringCfgEffect))

theorem Tame.engCtlEffect {h : Half} {data : Word} (hs : Tame s₀ s) : Tame s₀ (Machine.engCtlEffect h data s) :=
  Tame.ite hs.setFld.setFld.startRebuild hs.setFld.setFld

theorem Tame.execRebuild {m : Ident} {h : Half} {data : Word} (hs : Tame s₀ s) : Leads s₀ (Machine.execRebuild m h data s) :=
  Tame.next (hs.regWrite (fun _ h0 => h0.engCtlEffect))

theorem Tame.scanOne {id : Nat} (hs : Tame s₀ s) : Tame s₀ (Machine.scanOne s id) :=
  Tame.ite hs (Tame.ite hs.quarantine (Tame.ite hs.noteCtx.file hs.noteCtx))

theorem Tame.scanAll {l : List Nat} (hs : Tame s₀ s) : Tame s₀ (Machine.scanAll l s).1 := by
  induction l generalizing s with
  | nil => exact hs
  | cons id r ih =>
    unfold Machine.scanAll
    dsimp only
    split
    · exact ih hs.scanOne
    · exact hs.scanOne

theorem Tame.execRebuildScanEnd (hs : Tame s₀ s) : Leads s₀ (Machine.execRebuildScanEnd s) := by
  unfold Machine.execRebuildScanEnd
  split
  · split
    next e0 => exact Tame.next (Tame.setFld ((hs.scanAll.of_fst e0)))
    next e0 => exact Tame.next ((hs.scanAll.of_fst e0))
  · exact hs.next

theorem Tame.recordCtxAudit {fails : Nat} {low : Option Nat} (hs : Tame s₀ s) : Tame s₀
    (Machine.recordCtxAudit fails low s) :=
  Tame.ite hs (Tame.addFld (Tame.setReg (Tame.ite (Tame.setFld (Tame.ite hs.setReg hs)) (Tame.ite hs.setReg hs))))

theorem Tame.recordEngAudit {fails : Nat} {target ring : Option Nat} (hs : Tame s₀ s) :
    Tame s₀ (Machine.recordEngAudit fails target ring s) := Tame.ite hs (Tame.addFld (Tame.setReg (Tame.ite (Tame.setFld
        (Tame.ite hs.setFld hs)) (Tame.ite hs.setFld hs))))

theorem Tame.contextAudits (hs : Tame s₀ s) : Tame s₀ (Machine.contextAudits s) :=
  Tame.ite hs (Tame.ite hs.recordCtxAudit.recordEngAudit hs.recordCtxAudit.recordEngAudit.raise)

end Sys2Proof.Machine
end

section
/-! SUPPORT. `Tame` through the functions of Machine/Measure. -/

set_option Elab.async false

namespace Sys2Proof.Machine

variable {s₀ s : State}

theorem Tame.connectUnit {fn : PmuFn} {c : Nat} (hs : Tame s₀ s) : Tame s₀ (Machine.connectUnit fn s c) := hs.modChan

theorem Tame.connectUnits {a : Action} (hs : Tame s₀ s) : Tame s₀ (Machine.connectUnits a s) := by
  unfold Machine.connectUnits
  split
  · exact hs.connectUnit.connectUnit
  · exact Tame.ite hs.connectUnit hs.connectUnit.connectUnit
  · exact Tame.ite hs.connectUnit.connectUnit.connectUnit.connectUnit hs.connectUnit.connectUnit

theorem Tame.modAct {g slot : Nat} {f : GAct → GAct} (hs : Tame s₀ s) : Tame s₀ (s.modAct g slot f) := hs.modGrp

theorem Tame.noteLoad {x : Nat × Int} (hs : Tame s₀ s) : Tame s₀ (Machine.noteLoad s x) := by
  unfold Machine.noteLoad
  split
  · exact hs.modGrp.emit
  · exact hs

theorem Tame.noteLoads {loads : List (Nat × Int)} (hs : Tame s₀ s) : Tame s₀ (Machine.noteLoads loads s) :=
  hs.foldl fun _ _ h0 => h0.noteLoad

theorem Tame.execMeasureConnect {g : Fin 128} {slot : Fin 16} (hs : Tame s₀ s) :
    Leads s₀ (Machine.execMeasureConnect g slot s) := by
  unfold Machine.execMeasureConnect
  split
  · exact Leads.ite (Tame.next (Tame.modAct (Tame.ite hs hs.connectUnits))) hs.next
  · exact hs.next

theorem Tame.holdQuantity {g slot order : Nat} {x : Nat × Nat × Bool} (hs : Tame s₀ s) :
    Tame s₀ (Machine.holdQuantity g slot order s x) := hs.modGrp.setFld

theorem Tame.execSettleEnd {g : Fin 128} {slot : Fin 16} {loads : List (Nat × Int)} (hs : Tame s₀ s) :
    Leads s₀ (Machine.execSettleEnd g slot loads s) := by
  unfold Machine.execSettleEnd
  dsimp only
  split
  · exact Leads.ite hs.noteLoads.next (Leads.ite hs.noteLoads.modAct.next (Leads.ite hs.noteLoads.connectUnit.modAct.next
        (Tame.next (hs.noteLoads.modAct.foldl fun _ _ h1 => h1.holdQuantity))))
  · exact hs.noteLoads.next

theorem Tame.execAdcQuantityStart {g : Fin 128} (hs : Tame s₀ s) : Leads s₀ (Machine.execAdcQuantityStart g s) := by
  unfold Machine.execAdcQuantityStart
  split
  · exact hs.modGrp.setFld.maxFld.next
  · exact hs.next

theorem Tame.takeResult {g slot idx : Nat} {r : Measured} (hs : Tame s₀ s) : Tame s₀ (Machine.takeResult g slot idx r s) := by
  unfold Machine.takeResult
  split
  · exact Tame.ite hs.modAct hs
  · exact hs

theorem Tame.finishQuantity {g : Nat} {q : Quantity} {r : Measured} (hs : Tame s₀ s) :
    Tame s₀ (Machine.finishQuantity g q r s) := Tame.ite hs.modGrp.takeResult hs.modGrp.emit

theorem Tame.execAdcConversionEnd {g : Fin 128} {code : BitVec 16} {ovl : Bool} {loads : List (Nat × Int)} (hs : Tame s₀ s) :
    Leads s₀ (Machine.execAdcConversionEnd g code ovl loads s) := by
  unfold Machine.execAdcConversionEnd
  dsimp only
  split
  · exact hs.noteLoads.next
  · exact Leads.ite hs.noteLoads.setFld.addFld.modGrp.next
        (Leads.ite hs.noteLoads.setFld.addFld.finishQuantity.next hs.noteLoads.setFld.addFld.modGrp.next)

theorem Tame.execCompanionResult {g : Fin 128} {slot : Fin 16} {idx : Fin 3} {sum : Int} {count : Nat} {gain16 : Bool}
    (hs : Tame s₀ s) :
    Leads s₀ (Machine.execCompanionResult g slot idx sum count gain16 s) := hs.takeResult.next

theorem Tame.recordMeasure {g : Nat} {a : GAct} {value : Nat} {limit clamped : Bool} (hs : Tame s₀ s) :
    Tame s₀ (Machine.recordMeasure g a value limit clamped s) := hs.setReg.addFld

theorem Tame.execMeasureRespond {g : Fin 128} {slot : Fin 16} (hs : Tame s₀ s) :
    Leads s₀ (Machine.execMeasureRespond g slot s) := by
  unfold Machine.execMeasureRespond
  split
  · exact Leads.ite hs.recordMeasure.answerAct.next hs.next
  · exact hs.next

theorem Tame.startDischarge {g slot : Nat} {a : GAct} {ramp : Option Nat} (hs : Tame s₀ s) :
    Tame s₀ (Machine.startDischarge g slot a ramp s) := hs.connectUnit.modAct

theorem Tame.execRampCrossing {g : Fin 128} {slot : Fin 16} {stamp : Nat} {loads : List (Nat × Int)} (hs : Tame s₀ s) :
    Leads s₀ (Machine.execRampCrossing g slot stamp loads s) := by
  unfold Machine.execRampCrossing
  dsimp only
  split
  · split
    · exact hs.noteLoads.modAct.next
    · exact hs.noteLoads.startDischarge.next
    · exact hs.noteLoads.next
  · exact hs.noteLoads.next

theorem Tame.execRampLimit {g : Fin 128} {slot : Fin 16} {loads : List (Nat × Int)} (hs : Tame s₀ s) :
    Leads s₀ (Machine.execRampLimit g slot loads s) := by
  unfold Machine.execRampLimit
  dsimp only
  split
  · split
    · exact hs.noteLoads.startDischarge.next
    · exact hs.noteLoads.next
  · exact hs.noteLoads.next

theorem Tame.execRampDischargeEnd {g : Fin 128} {slot : Fin 16} {loads : List (Nat × Int)} (hs : Tame s₀ s) :
    Leads s₀ (Machine.execRampDischargeEnd g slot loads s) := by
  unfold Machine.execRampDischargeEnd
  dsimp only
  split
  · exact Leads.ite hs.noteLoads.modAct.next hs.noteLoads.next
  · exact hs.noteLoads.next

theorem Tame.execTdrStart {g : Fin 128} (hs : Tame s₀ s) : Leads s₀ (Machine.execTdrStart g s) := by
  unfold Machine.execTdrStart
  split
  · exact hs.modGrp.modAct.next
  · exact hs.next

theorem Tame.finishTdr {g : Nat} {t : TdrState} {value : Nat} (hs : Tame s₀ s) : Tame s₀ (Machine.finishTdr g t value s) := by
  unfold Machine.finishTdr
  split
  · exact hs.modGrp
  · exact hs.modChan.recordMeasure.answerAct

theorem Tame.tdrDecide {g : Nat} {t : TdrState} {hit : Bool} {a : GAct} (hs : Tame s₀ s) :
    Tame s₀ (Machine.tdrDecide g t hit a s) := Tame.ite (Tame.ite hs.finishTdr (Tame.ite hs.modGrp hs.finishTdr))
        (Tame.ite hs.modGrp hs.finishTdr)

theorem Tame.tdrDrive {g i level : Nat} (hs : Tame s₀ s) : Tame s₀ (Machine.tdrDrive g i level s) := hs.modChan

theorem Tame.tdrShot {g : Nat} (hs : Tame s₀ s) : Tame s₀ (Machine.tdrShot g s) := by
  unfold Machine.tdrShot
  split
  · split
    · exact hs.tdrDrive.emit
    · exact hs
  · exact hs

theorem Tame.tdrFall {g : Nat} (hs : Tame s₀ s) : Tame s₀ (Machine.tdrFall s g) := by
  unfold Machine.tdrFall
  split
  · split
    · exact Tame.ite hs.tdrDrive hs
    · exact hs
  · exact hs

theorem Tame.tdrBoundary {g : Nat} {ball : Int} (hs : Tame s₀ s) : Tame s₀ (Machine.tdrBoundary g ball s) := by
  unfold Machine.tdrBoundary
  split
  · exact hs
  · split
    · exact hs.modGrp
    · exact Tame.ite hs.tdrDrive.modGrp (Tame.ite hs.modGrp.tdrShot (Tame.tdrShot (Tame.ite hs.modGrp hs.tdrDecide)))

end Sys2Proof.Machine
end

section
/-! SUPPORT. `Tame` through the functions of Machine/Calibrate. -/

set_option Elab.async false

namespace Sys2Proof.Machine

variable {s₀ s : State}

theorem Tame.syncTasks {g : Nat} (hs : Tame s₀ s) : Tame s₀ (Machine.syncTasks g s) := hs.setFld.setFld

theorem Tame.calReply {c : CalCmd} {late : Bool} (hs : Tame s₀ s) : Tame s₀ (Machine.calReply c late s) := by
  unfold Machine.calReply
  dsimp only
  split
  · split
    · exact hs.endCommand
    · exact hs.endCommand
  · exact hs.endCommand
  · exact hs.endCommand
  · exact Tame.ite hs.endCommand (Tame.ite hs.endCommand hs.endCommand)

theorem Tame.dropCal {p : Packet} (hs : Tame s₀ s) : Tame s₀ (Machine.dropCal p s) :=
  hs.same.foldl fun _ _ h0 => Tame.ite h0.modGrp.syncTasks h0

theorem Tame.groupDone {p : Packet} {g : Nat} {ok : Bool} {fail : Option (Nat × Nat × Nat)} {ppm : Int} (hs : Tame s₀ s) :
    Tame s₀ (Machine.groupDone p g ok fail ppm s) := by
  unfold Machine.groupDone
  dsimp only
  split
  · exact Tame.ite hs.modGrp.syncTasks.same.calReply.dropCal hs.modGrp.syncTasks.same
  · exact hs.modGrp.syncTasks.same

theorem Tame.beginCal {p : Packet} {groups : List Nat} {work : CalWork} (hs : Tame s₀ s) :
    Tame s₀ (Machine.beginCal p groups work s) := hs.same.foldl fun _ _ h0 => h0.modGrp.syncTasks

theorem Tame.commitDeskew {g i : Nat} (hs : Tame s₀ s) : Tame s₀ (Machine.commitDeskew g s i) := hs.storeDeskew

theorem Tame.putImage {g : Nat} {l : List (Nat × Word)} (hs : Tame s₀ s) : Tame s₀ (Machine.putImage g l s) := hs.modGrp

theorem Tame.loadImage {g copy : Nat} {l : List Word} (hs : Tame s₀ s) : Tame s₀ (Machine.loadImage g copy l s) :=
  Tame.setFld (Tame.setFld (hs.putImage.foldl fun _ _ h0 => h0.commitDeskew))

theorem Tame.storeGroup {g : Nat} (hs : Tame s₀ s) : Tame s₀ (Machine.storeGroup g s) := hs.foldl fun _ _ h0 => h0.nvaStore

theorem Tame.calGroupWork {p : Packet} (hs : Tame s₀ s) : Tame s₀ (Machine.calGroupWork p s) :=
  Tame.ite hs.endCommand (hs.beginCal.foldl fun _ _ h0 => Tame.ite h0.groupDone h0)

theorem Tame.execCalGroup {p : Packet} (hs : Tame s₀ s) : Leads s₀ (Machine.execCalGroup p s) :=
  Tame.next (hs.runCommand (fun _ h0 => h0.calGroupWork))

theorem Tame.calLoadWork {p : Packet} (hs : Tame s₀ s) : Tame s₀ (Machine.calLoadWork p s) :=
  Tame.ite hs.endCommand hs.beginCal

theorem Tame.execCalLoad {p : Packet} (hs : Tame s₀ s) : Leads s₀ (Machine.execCalLoad p s) :=
  Tame.next (hs.runCommand (fun _ h0 => h0.calLoadWork))

theorem Tame.calStoreWork {p : Packet} {unverified : List Nat} (hs : Tame s₀ s) :
    Tame s₀ (Machine.calStoreWork p unverified s) := Tame.ite hs.endCommand (Tame.endCommand
        (hs.nvaTurn.foldl fun _ _ h0 => h0.storeGroup))

theorem Tame.execCalStore {p : Packet} {unverified : List Nat} (hs : Tame s₀ s) :
    Leads s₀ (Machine.execCalStore p unverified s) := Tame.next (hs.runCommand (fun _ h0 => h0.calStoreWork))

theorem Tame.beginTests {p : Packet} {tests g : Nat} (hs : Tame s₀ s) : Tame s₀ (Machine.beginTests p tests s g) :=
  Tame.ite hs.setFld.setFld.setFld.modGrp.setFld.groupDone hs.setFld.setFld.setFld.modGrp

theorem Tame.selftestWork {p : Packet} (hs : Tame s₀ s) : Tame s₀ (Machine.selftestWork p s) :=
  Tame.ite hs.endCommand (hs.beginCal.foldl fun _ _ h0 => h0.beginTests)

theorem Tame.execSelftestGroup {p : Packet} (hs : Tame s₀ s) : Leads s₀ (Machine.execSelftestGroup p s) :=
  Tame.next (hs.runCommand (fun _ h0 => h0.selftestWork))

theorem Tame.calReferenceWork {p : Packet} (hs : Tame s₀ s) : Tame s₀ (Machine.calReferenceWork p s) :=
  Tame.ite hs.endCommand hs.beginCal

theorem Tame.execCalReference {p : Packet} (hs : Tame s₀ s) : Leads s₀ (Machine.execCalReference p s) :=
  Tame.next (hs.runCommand (fun _ h0 => h0.calReferenceWork))

theorem Tame.execCalTimeout {p : Packet} (hs : Tame s₀ s) : Leads s₀ (Machine.execCalTimeout p s) := by
  unfold Machine.execCalTimeout
  split
  · exact Leads.ite hs.calReply.dropCal.next hs.next
  · exact hs.next

theorem Tame.toBus {g i : Nat} (hs : Tame s₀ s) : Tame s₀ (Machine.toBus g s i) := by
  refine Tame.modChan ?_
  split
  · exact hs.keeperLevel
  · exact hs

theorem Tame.startStep {g : Nat} (hs : Tame s₀ s) : Tame s₀ (Machine.startStep g s) := by
  unfold Machine.startStep
  split
  · exact hs.draw.modGrp.foldl fun _ _ h1 => h1.toBus
  · exact hs

theorem Tame.loadInWindow {g : Nat} (hs : Tame s₀ s) : Tame s₀ (Machine.loadInWindow g s) := by
  unfold Machine.loadInWindow
  split
  · exact hs
  · dsimp only
    split
    · exact hs.nvaTurn.loadImage.groupDone
    · exact hs.nvaTurn.groupDone

theorem Tame.calAtBoundary (hs : Tame s₀ s) : Tame s₀ (Machine.calAtBoundary s) :=
  hs.same.foldl fun _ _ h0 => Tame.ite h0 h0.loadInWindow.startStep

theorem Tame.commitItems {g : Nat} {t : CalTask} {mask : Nat} (hs : Tame s₀ s) : Tame s₀ (Machine.commitItems g t mask s) :=
  by
  unfold Machine.commitItems
  split
  · exact hs.groupDone
  · exact Tame.groupDone (Tame.ite (Tame.storeGroup (Tame.nvaTurn (Tame.setFld
        (hs.putImage.putImage.foldl fun _ _ h1 => h1.commitDeskew)))) (Tame.setFld
        (hs.putImage.putImage.foldl fun _ _ h1 => h1.commitDeskew)))

theorem Tame.commitReference {g : Nat} {t : CalTask} {ppm : Int} (hs : Tame s₀ s) :
    Tame s₀ (Machine.commitReference g t ppm s) := Tame.groupDone (Tame.ite hs.nvaTurn.draw.same.nvaStore hs)

theorem Tame.finishTests {g : Nat} {p : Packet} (hs : Tame s₀ s) : Tame s₀ (Machine.finishTests g p s) := by
  unfold Machine.finishTests
  split
  · exact hs
  · exact Tame.ite hs.setFld.groupDone hs

theorem Tame.recordTests {g ran failed chans : Nat} (hs : Tame s₀ s) : Tame s₀ (Machine.recordTests g ran failed chans s) :=
  hs.setFld.setFld.setFld

theorem Tame.endTaskStep {g : Nat} {t : CalTask} {st : CalStep} (hs : Tame s₀ s) : Tame s₀ (Machine.endTaskStep g t st s) :=
  by
  unfold Machine.endTaskStep
  dsimp only
  split
  · exact hs.modGrp
  · split
    · exact hs.modGrp.commitItems
    · exact hs.modGrp.commitReference
    · exact hs.modGrp.recordTests.finishTests
    · exact hs.modGrp

theorem Tame.execCalStepEnd {g : Fin 128} {step : CalStep} (hs : Tame s₀ s) : Leads s₀ (Machine.execCalStepEnd g step s) := by
  unfold Machine.execCalStepEnd
  split
  · dsimp only
    split
    · exact hs.endStep.endTaskStep.next
    · exact hs.endStep.next
  · exact hs.next

theorem Tame.vmemRead {g : Nat} (hs : Tame s₀ s) : Tame s₀ (Machine.vmemRead g s).1 := hs.foldl fun _ _ h0 => h0.sweepWord

theorem Tame.execVmemTestEnd {g : Fin 128} {pattern ok : Bool} (hs : Tame s₀ s) : Leads s₀
    (Machine.execVmemTestEnd g pattern ok s) := by
  unfold Machine.execVmemTestEnd
  dsimp only
  split
  · exact hs.next
  · refine Tame.next (Tame.finishTests (Tame.recordTests (Tame.modGrp ?_)))
    split
    · exact hs.stores rfl id (Memory.filter_wf _)
    · exact hs.vmemRead

theorem Tame.execRailReading {d k : Fin 4} {value : BitVec 16} (hs : Tame s₀ s) :
    Leads s₀ (Machine.execRailReading d k value s) := Tame.next (Tame.ite (Tame.raise
        (Tame.ite hs.setFld.same.setFld hs.setFld.same)) (Tame.ite hs.setFld.same.setFld hs.setFld.same))

end Sys2Proof.Machine
end

section
/-! SUPPORT. `Tame` through the functions of Machine/Noc. -/

set_option Elab.async false

namespace Sys2Proof.Machine

variable {s₀ s : State}

theorem Tame.setCredit {k : Nat} {c : Credit} (hs : Tame s₀ s) : Tame s₀ (s.setCredit k c) := hs.same

theorem Tame.spendCredit {k : Nat} (hs : Tame s₀ s) : Tame s₀ (Machine.spendCredit k s) := Tame.ite hs.setCredit hs

theorem Tame.returnCredit {k : Nat} (hs : Tame s₀ s) : Tame s₀ (Machine.returnCredit k s) := Tame.ite hs.setCredit hs

theorem Tame.creditAudit (hs : Tame s₀ s) : Tame s₀ (Machine.creditAudit s) := by
  unfold Machine.creditAudit
  split
  · exact hs
  · exact Tame.raise (Tame.addFld (Tame.setFld (Tame.ite hs.setFld.setFld.setFld hs)))

theorem Tame.countStatus {e : Nat} {st : Status} (hs : Tame s₀ s) : Tame s₀ (Machine.countStatus e st s) := by
  unfold Machine.countStatus
  split
  · exact hs.addFld.addFld
  · exact hs.addFld
  · exact hs.addFld
  · exact hs

theorem Tame.nocRefuse {src tag : Nat} {st : Status} (hs : Tame s₀ s) : Tame s₀ (Machine.nocRefuse src tag st s) := hs.emit

theorem Tame.syncOldFlits (hs : Tame s₀ s) : Tame s₀ (Machine.syncOldFlits s) := hs.setFld

theorem Tame.setMesh {l : List MeshPacket} (hs : Tame s₀ s) : Tame s₀ (s.setMesh l) := hs.same.syncOldFlits

theorem Tame.putResponse {e : Nat} {r : NocPacket} (hs : Tame s₀ s) : Tame s₀ (Machine.putResponse e r s) :=
  hs.spendCredit.setMesh

theorem Tame.nocRespond {e : Nat} {p : NocPacket} {st : Status} (hs : Tame s₀ s) : Tame s₀ (Machine.nocRespond e p st s) :=
  hs.putResponse

theorem Tame.injectPacket {e : Nat} {p : NocPacket} (hs : Tame s₀ s) : Tame s₀ (Machine.injectPacket e p s) :=
  hs.spendCredit.setMesh

theorem Tame.portRequest {p : Nat} {q : NocReq} (hs : Tame s₀ s) : Tame s₀ (Machine.portRequest p q s) := by
  unfold Machine.portRequest
  dsimp only
  split
  · exact hs
  · split
    · exact hs
    · exact hs.countStatus.emit
    · exact hs.modFab.injectPacket

theorem Tame.endpointRequest {e : Nat} {q : NocReq} (hs : Tame s₀ s) : Tame s₀ (Machine.endpointRequest e q s) := by
  unfold Machine.endpointRequest
  split
  · exact hs
  · split
    · exact hs
    · exact hs.countStatus.nocRefuse
    · exact hs.addFld.injectPacket

theorem Tame.execFabricPortRequest {p : Fin 68} {req : NocReq} (hs : Tame s₀ s) :
    Leads s₀ (Machine.execFabricPortRequest p req s) := hs.portRequest.next

theorem Tame.endpointResponse {e : Nat} {q : NocReq} (hs : Tame s₀ s) : Tame s₀ (Machine.endpointResponse e q s) := by
  unfold Machine.endpointResponse
  split
  · exact hs
  · exact Tame.ite hs.putResponse hs

theorem Tame.execNocInject {e : Fin 320} {req : NocReq} (hs : Tame s₀ s) : Leads s₀ (Machine.execNocInject e req s) := by
  unfold Machine.execNocInject
  split
  · exact hs.endpointResponse.next
  · split
    · exact hs.portRequest.next
    · exact hs.endpointRequest.next

theorem Tame.routeEffect {h : Half} {data : Word} (hs : Tame s₀ s) : Tame s₀ (Machine.routeEffect h data s) :=
  Tame.ite hs (Tame.ite hs (Tame.ite hs.setFld hs.same))

theorem Tame.execRouteTableWrite {m : Ident} {h : Half} {data : Word} (hs : Tame s₀ s) :
    Leads s₀ (Machine.execRouteTableWrite m h data s) := Tame.next (hs.regWrite (fun _ h0 => h0.routeEffect))

theorem Tame.fillXy (hs : Tame s₀ s) : Tame s₀ (Machine.fillXy s) := Tame.ite hs.setFld hs.same

theorem Tame.askSwitch (hs : Tame s₀ s) : Tame s₀ (Machine.askSwitch s) := Tame.ite hs.setFld hs.setFld.same

theorem Tame.epochEffect {h : Half} {data : Word} (hs : Tame s₀ s) : Tame s₀ (Machine.epochEffect h data s) :=
  Tame.ite (Tame.askSwitch (Tame.ite hs.plainWrite.fillXy hs.plainWrite)) (Tame.ite hs.plainWrite.fillXy hs.plainWrite)

theorem Tame.execEpochSwitch {m : Ident} {h : Half} {data : Word} (hs : Tame s₀ s) :
    Leads s₀ (Machine.execEpochSwitch m h data s) := Tame.next (hs.regWrite (fun _ h0 => h0.epochEffect))

theorem Tame.execLoadXy {m : Ident} {h : Half} {data : Word} (hs : Tame s₀ s) : Leads s₀ (Machine.execLoadXy m h data s) :=
  Tame.next (hs.regWrite (fun _ h0 => h0.epochEffect))

theorem Tame.epochAtBoundary (hs : Tame s₀ s) : Tame s₀ (Machine.epochAtBoundary s) := by
  unfold Machine.epochAtBoundary
  split
  · exact hs
  · exact Tame.ite hs.setFld.setFld.same.syncOldFlits hs

theorem Tame.leaveMesh {k : Nat} {x : MeshPacket} (hs : Tame s₀ s) : Tame s₀ (Machine.leaveMesh k x s) :=
  hs.setMesh.returnCredit

theorem Tame.moveTo {k : Nat} {x : MeshPacket} {kind place router hops : Nat} (hs : Tame s₀ s) :
    Tame s₀ (Machine.moveTo k x kind place router hops s) := Tame.ite hs hs.returnCredit.spendCredit.setMesh

theorem Tame.forwardPacket {k : Nat} {x : MeshPacket} (hs : Tame s₀ s) : Tame s₀ (Machine.forwardPacket k x s) := by
  unfold Machine.forwardPacket
  split
  · exact Tame.ite hs.leaveMesh.countStatus.addFld.nocRespond hs
  · dsimp only
    split
    · exact hs.moveTo
    · split
      · exact hs.moveTo
      · exact hs

theorem Tame.execRouterForward {k : Nat} (hs : Tame s₀ s) : Leads s₀ (Machine.execRouterForward k s) := by
  unfold Machine.execRouterForward
  split
  · exact hs.next
  · exact Leads.ite hs.next hs.forwardPacket.next

theorem Tame.deliverPort {p : Nat} {k : NocPacket} {t : State} (hs : Tame s₀ s) (h : Machine.deliverPort p k s = some t) :
    Tame s₀ t := by
  unfold Machine.deliverPort at h
  dsimp only at h
  split at h
  · split at h
    · exact absurd h (by simp)
    · obtain rfl := Option.some.inj h
      exact hs.modFab.emit
  · split at h
    · exact absurd h (by simp)
    · obtain rfl := Option.some.inj h
      exact hs.modFab.emit

theorem Tame.deliver {p : NocPacket} {t : State} (hs : Tame s₀ s) (h : Machine.deliver p s = some t) : Tame s₀ t := by
  unfold Machine.deliver at h
  split at h
  · exact hs.deliverPort h
  · split at h
    · obtain rfl := Option.some.inj h
      exact hs.nocRespond
    · obtain rfl := Option.some.inj h
      exact Tame.ite (Tame.nocRespond (Tame.emit (Tame.ite hs.addFld hs))) (Tame.emit (Tame.ite hs.addFld hs))

theorem Tame.takeResponse {k : Nat} {x : MeshPacket} (hs : Tame s₀ s) : Tame s₀ (Machine.takeResponse k x s) :=
  Tame.ite hs.leaveMesh.emit hs.leaveMesh.emit.answeredAt

theorem Tame.countLate {p : NocPacket} (hs : Tame s₀ s) : Tame s₀ (Machine.countLate p s) := Tame.ite hs.carryLate hs

theorem Tame.ejectPacket {k : Nat} {x : MeshPacket} (hs : Tame s₀ s) : Tame s₀ (Machine.ejectPacket k x s) := by
  unfold Machine.ejectPacket
  dsimp only
  split
  · exact hs.takeResponse
  · split
    · exact hs
    · split
      · exact hs.leaveMesh.countLate.countStatus.nocRespond
      · split
        · exact hs.leaveMesh.countLate.countStatus.nocRespond
        · split
          · exact hs.leaveMesh.countLate.countStatus.nocRespond
          · split
            · exact hs
            next e0 => exact Tame.countLate (Tame.leaveMesh ((hs.deliver e0)))

theorem Tame.execNocEject {k : Nat} (hs : Tame s₀ s) : Leads s₀ (Machine.execNocEject k s) := by
  unfold Machine.execNocEject
  split
  · exact hs.next
  · exact Leads.ite hs.next hs.ejectPacket.next

theorem Tame.execLinkReplay {l : Fin 320} {f : LinkFlit} {same : Bool} (hs : Tame s₀ s) :
    Leads s₀ (Machine.execLinkReplay l f same s) := Leads.ite hs.next
        (Leads.ite hs.same.addFld.addFld.addFld.addFld.maxFld.setFld.raise.next
        hs.same.addFld.addFld.addFld.addFld.maxFld.next)

theorem Tame.endpointShut {e : Nat} (hs : Tame s₀ s) : Tame s₀ (Machine.endpointShut e s) := by
  unfold Machine.endpointShut
  split
  · exact Tame.ite hs.shutTarget hs
  · dsimp only
    split
    · exact hs.setFld.dramAdvance
    · exact hs.setFld

theorem Tame.execEndpointDrainDone {e : Fin 320} (hs : Tame s₀ s) : Leads s₀ (Machine.execEndpointDrainDone e s) :=
  Leads.ite hs.endpointShut.next hs.next

end Sys2Proof.Machine
end

section
/-! SUPPORT. `Tame` through the functions of Machine/Clocks. -/

set_option Elab.async false

namespace Sys2Proof.Machine

variable {s₀ s : State}

theorem Tame.setRamp {b : Branch} {r : Option Ramp} (hs : Tame s₀ s) : Tame s₀ (s.setRamp b r) := hs.same

theorem Tame.showRamp {b : Branch} {v : Bool} (hs : Tame s₀ s) : Tame s₀ (Machine.showRamp b v s) := by
  unfold Machine.showRamp
  split
  · exact hs.setFbit
  · exact hs.setFbit
  · exact hs.setFld
  · exact hs
  · exact hs

theorem Tame.startRamp {b : Branch} {old new : Nat} {next : Option Nat} (hs : Tame s₀ s) :
    Tame s₀ (Machine.startRamp b old new next s) := hs.setRamp.showRamp

theorem Tame.execRampStep {b : Branch} (hs : Tame s₀ s) : Leads s₀ (Machine.execRampStep b s) := by
  unfold Machine.execRampStep
  split
  · exact hs.next
  · split
    · exact hs.next
    · dsimp only
      split
      · exact hs.setRamp.setFld.next
      · exact hs.setRamp.next

theorem Tame.setGateBit {n : Nat} {v : Bool} (hs : Tame s₀ s) : Tame s₀ (s.setGateBit n v) := hs.setReg

theorem Tame.closeGate {n : Nat} (hs : Tame s₀ s) : Tame s₀ (Machine.closeGate n s) :=
  Tame.setFbit (Tame.ite (hs.foldl fun _ _ h0 => h0.enterSafe) hs)

theorem Tame.writeGate {n : Nat} {v : Bool} (hs : Tame s₀ s) : Tame s₀ (Machine.writeGate n v s) :=
  Tame.ite hs.setGateBit (Tame.ite hs.setGateBit.startRamp hs.setGateBit.closeGate)

theorem Tame.writeRgnGate {r : Nat} {v : Bool} (hs : Tame s₀ s) : Tame s₀ (Machine.writeRgnGate r v s) :=
  Tame.ite hs.setFbit (Tame.followRegion (Tame.ite hs.setFbit.startRamp hs.setFbit.setFbit))

theorem Tame.gateEffect {regions : Bool} {h : Half} {data : Word} (hs : Tame s₀ s) :
    Tame s₀ (Machine.gateEffect regions h data s) := Tame.ite (hs.foldl fun _ _ h0 => h0.writeRgnGate)
        (hs.foldl fun _ _ h0 => h0.writeGate)

theorem Tame.execGateClose {m : Ident} {regions : Bool} {h : Half} {data : Word} (hs : Tame s₀ s) :
    Leads s₀ (Machine.execGateClose m regions h data s) := Tame.next (hs.regWrite (fun _ h0 => h0.gateEffect))

theorem Tame.execGateOpen {m : Ident} {regions : Bool} {h : Half} {data : Word} (hs : Tame s₀ s) :
    Leads s₀ (Machine.execGateOpen m regions h data s) := Tame.next (hs.regWrite (fun _ h0 => h0.gateEffect))

theorem Tame.execGateDrained {b : Branch} (hs : Tame s₀ s) : Leads s₀ (Machine.execGateDrained b s) := by
  unfold Machine.execGateDrained
  split
  · exact Leads.ite hs.setFbit.startRamp.next hs.next
  · exact Leads.ite hs.startRamp.next hs.next
  · exact hs.next

theorem Tame.gateRampEnd {n : Nat} {up : Bool} (hs : Tame s₀ s) : Tame s₀ (Machine.gateRampEnd n up s) :=
  Tame.ite (Tame.ite (Tame.ite hs.same.startRebuild hs) hs.closeGate) (Tame.ite hs.startRamp hs)

theorem Tame.rgnRampEnd {r : Nat} {up : Bool} (hs : Tame s₀ s) : Tame s₀ (Machine.rgnRampEnd r up s) :=
  Tame.followRegion (Tame.ite (Tame.ite hs hs.setFbit) (Tame.ite hs.startRamp hs))

theorem Tame.commandVoltage {mv : Nat} {raised : Bool} (hs : Tame s₀ s) : Tame s₀ (Machine.commandVoltage mv raised s) :=
  hs.setFld.emit.same

theorem Tame.nocRampEnd {new : Nat} (hs : Tame s₀ s) : Tame s₀ (Machine.nocRampEnd new s) :=
  Tame.ite hs.same.commandVoltage hs.same

theorem Tame.wakeDrams (hs : Tame s₀ s) : Tame s₀ (Machine.wakeDrams s) := hs.foldl fun _ _ h0 => Tame.ite h0.dramWake h0

theorem Tame.resumeDomains (hs : Tame s₀ s) : Tame s₀ (Machine.resumeDomains s) := by
  unfold Machine.resumeDomains
  dsimp only
  split
  · exact Tame.foldl (Tame.same hs.setFld) fun _ _ h => h.startBacklog
  · exact Tame.wakeDrams (Tame.foldl (Tame.same hs.setFld) fun _ _ h => h.startBacklog)

theorem Tame.execRampEnd {b : Branch} (hs : Tame s₀ s) : Leads s₀ (Machine.execRampEnd b s) := by
  unfold Machine.execRampEnd
  split
  · exact hs.next
  · split
    · exact hs.next
    · dsimp only
      split
      · exact hs.setRamp.showRamp.startRamp.next
      · split
        · exact hs.setRamp.showRamp.gateRampEnd.next
        · exact hs.setRamp.showRamp.rgnRampEnd.next
        · exact hs.setRamp.showRamp.setFld.same.next
        · exact hs.setRamp.showRamp.nocRampEnd.next
        · exact Tame.next (Tame.ite hs.setRamp.showRamp.resumeDomains hs.setRamp.showRamp)

theorem Tame.setFclk {k : Nat} {c : FClk} (hs : Tame s₀ s) : Tame s₀ (s.setFclk k c) := hs.same

theorem Tame.fclkEffect {k : Nat} {h : Half} {data : Word} (hs : Tame s₀ s) : Tame s₀ (Machine.fclkEffect k h data s) :=
  Tame.ite hs (Tame.ite hs.setFld.setFld.setFclk.setFld hs.setFld.setFld.setFclk.setFld)

theorem Tame.execFclkWrite {m : Ident} {k : Fin 24} {h : Half} {data : Word} (hs : Tame s₀ s) :
    Leads s₀ (Machine.execFclkWrite m k h data s) := Tame.next (hs.regWrite (fun _ h0 => h0.fclkEffect))

theorem Tame.startPhase {k : Nat} (hs : Tame s₀ s) : Tame s₀ (Machine.startPhase k s) := hs.same

theorem Tame.setDivider {k : Nat} {en : Bool} {div : Nat} {due : Option Nat} (hs : Tame s₀ s) :
    Tame s₀ (Machine.setDivider k en div due s) := Tame.ite hs.setFclk.startPhase.setRamp.showRamp
        (Tame.ite hs.setFclk.startPhase.startRamp hs.setFclk.startPhase.setFld)

theorem Tame.fclkAtBoundary {k : Nat} (hs : Tame s₀ s) : Tame s₀ (Machine.fclkAtBoundary s k) := by
  unfold Machine.fclkAtBoundary
  dsimp only
  split
  · exact Tame.ite (Tame.setFclk (Tame.ite hs.startPhase hs)) (Tame.setDivider (Tame.ite hs.startPhase hs))
  · split
    · exact Tame.ite hs.startPhase hs
    · exact Tame.ite (Tame.ite hs.startPhase hs) (Tame.setDivider (Tame.setFld (Tame.ite hs.startPhase hs)))

theorem Tame.uoscEffect {k : Nat} {h : Half} {data : Word} (hs : Tame s₀ s) : Tame s₀ (Machine.uoscEffect k h data s) := by
  unfold Machine.uoscEffect
  split
  · exact hs
  · exact Tame.ite hs hs.setFld.setFld

theorem Tame.execUoscEnable {m : Ident} {k : Fin 4} {h : Half} {data : Word} (hs : Tame s₀ s) :
    Leads s₀ (Machine.execUoscEnable m k h data s) := Tame.next (hs.regWrite (fun _ h0 => h0.uoscEffect))

theorem Tame.execUoscDisable {m : Ident} {k : Fin 4} {h : Half} {data : Word} (hs : Tame s₀ s) :
    Leads s₀ (Machine.execUoscDisable m k h data s) := Tame.next (hs.regWrite (fun _ h0 => h0.uoscEffect))

theorem Tame.execUoscReady {k : Fin 4} (hs : Tame s₀ s) : Leads s₀ (Machine.execUoscReady k s) :=
  Leads.ite hs.setFld.next hs.next

theorem Tame.execUoscMeasure {hz : List Nat} (hs : Tame s₀ s) : Leads s₀ (Machine.execUoscMeasure hz s) :=
  Leads.ite hs.next (Tame.next (hs.foldl fun _ _ h0 => Tame.ite h0.setFld h0))

end Sys2Proof.Machine
end

section
/-! SUPPORT. `Tame` through the functions of Machine/Lanes. -/

set_option Elab.async false

namespace Sys2Proof.Machine

variable {s₀ s : State}

theorem Tame.loadPreset {n preset : Nat} (hs : Tame s₀ s) : Tame s₀ (Machine.loadPreset n preset s) :=
  hs.setFld.setFld.setReg.setReg

theorem Tame.unsettle {p : Nat → Bool} (hs : Tame s₀ s) : Tame s₀ (Machine.unsettle p s) := hs.same

theorem Tame.powerDownLane {n : Nat} (hs : Tame s₀ s) : Tame s₀ (Machine.powerDownLane n s) :=
  hs.setFld.setFld.setFld.unsettle

theorem Tame.setQuadRate {q v : Nat} (hs : Tame s₀ s) : Tame s₀ (Machine.setQuadRate q v s) :=
  Tame.ite hs (Tame.ite (hs.setFld.unsettle.foldl fun _ _ h0 => h0.powerDownLane) hs.setFld.unsettle)

theorem Tame.execLaneBitLock {n : Fin 96} {lossDb : Nat} (hs : Tame s₀ s) : Leads s₀ (Machine.execLaneBitLock n lossDb s) :=
  Leads.ite hs.next (Leads.ite hs.setFld.next hs.setFld.same.setFld.loadPreset.next)

theorem Tame.laneCtlEffect {n : Nat} {h : Half} {data : Word} (hs : Tame s₀ s) : Tame s₀ (Machine.laneCtlEffect n h data s) :=
  Tame.ite hs (Tame.ite (Tame.unsettle (Tame.ite (Tame.loadPreset (Tame.ite (Tame.powerDownLane (Tame.setFld (Tame.setFld
      (Tame.ite (Tame.ite hs hs.setFld) (Tame.setFld (Tame.ite hs hs.setFld)))))) (Tame.ite (Tame.setFld (Tame.setFld
      (Tame.ite (Tame.ite hs hs.setFld) (Tame.setFld (Tame.ite hs hs.setFld))))) (Tame.setFld (Tame.setFld (Tame.setFld
      (Tame.ite (Tame.ite hs hs.setFld) (Tame.setFld (Tame.ite hs hs.setFld))))))))) (Tame.ite (Tame.powerDownLane
      (Tame.setFld (Tame.setFld (Tame.ite (Tame.ite hs hs.setFld) (Tame.setFld (Tame.ite hs hs.setFld)))))) (Tame.ite
      (Tame.setFld (Tame.setFld (Tame.ite (Tame.ite hs hs.setFld) (Tame.setFld (Tame.ite hs hs.setFld))))) (Tame.setFld
      (Tame.setFld (Tame.setFld (Tame.ite (Tame.ite hs hs.setFld) (Tame.setFld (Tame.ite hs hs.setFld)))))))))) (Tame.ite
      (Tame.powerDownLane (Tame.setFld (Tame.setFld (Tame.ite (Tame.ite hs hs.setFld) (Tame.setFld
      (Tame.ite hs hs.setFld)))))) (Tame.ite (Tame.setFld (Tame.setFld (Tame.ite (Tame.ite hs hs.setFld) (Tame.setFld
      (Tame.ite hs hs.setFld))))) (Tame.setFld (Tame.setFld (Tame.setFld (Tame.ite (Tame.ite hs hs.setFld) (Tame.setFld
      (Tame.ite hs hs.setFld)))))))))

theorem Tame.execLaneRestart {m : Ident} {n : Fin 96} {h : Half} {data : Word} (hs : Tame s₀ s) :
    Leads s₀ (Machine.execLaneRestart m n h data s) := Tame.next (hs.regWrite (fun _ h0 => h0.laneCtlEffect))

theorem Tame.countErrors {n k : Nat} (hs : Tame s₀ s) : Tame s₀ (Machine.countErrors n k s) := hs.setFld

theorem Tame.setLaneCheck {n : Nat} {c : LaneCheck} (hs : Tame s₀ s) : Tame s₀ (Machine.setLaneCheck n c s) := hs.same

theorem Tame.execCheckerLock {n : Fin 96} {seen : Word} (hs : Tame s₀ s) : Leads s₀ (Machine.execCheckerLock n seen s) :=
  Leads.ite hs.setFld.setLaneCheck.next hs.next

theorem Tame.syncChecker {n : Nat} (hs : Tame s₀ s) : Tame s₀ (Machine.syncChecker n s) := Tame.ite hs hs.setFld

theorem Tame.execCheckerLockLoss {n : Fin 96} {seen : List Bool} (hs : Tame s₀ s) :
    Leads s₀ (Machine.execCheckerLockLoss n seen s) := Leads.ite (Tame.next
        (Tame.ite hs.syncChecker.addFld.countErrors.setLaneCheck.setFld hs.syncChecker.addFld.countErrors.setLaneCheck))
        hs.syncChecker.next

theorem Tame.injectBits {n count : Nat} (hs : Tame s₀ s) : Tame s₀ (Machine.injectBits n count s) :=
  Tame.ite hs (Tame.ite hs.emit.setLaneCheck hs.emit)

theorem Tame.patEffect {n : Nat} {h : Half} {data : Word} (hs : Tame s₀ s) : Tame s₀ (Machine.patEffect n h data s) :=
  Tame.ite (Tame.injectBits
      (Tame.ite hs.plainWrite.setFld.setFld.syncChecker.same.injectBits hs.plainWrite.setFld.setFld.syncChecker.same))
      (Tame.ite hs.plainWrite.setFld.setFld.syncChecker.same.injectBits hs.plainWrite.setFld.setFld.syncChecker.same)

theorem Tame.execPatternWrite {m : Ident} {n : Fin 96} {h : Half} {data : Word} (hs : Tame s₀ s) :
    Leads s₀ (Machine.execPatternWrite m n h data s) := Tame.next (hs.regWrite (fun _ h0 => h0.patEffect))

theorem Tame.execInjSingle {m : Ident} {n : Fin 96} {h : Half} {data : Word} (hs : Tame s₀ s) :
    Leads s₀ (Machine.execInjSingle m n h data s) := Tame.next (hs.regWrite (fun _ h0 => h0.patEffect))

theorem Tame.execInjBurst {m : Ident} {n : Fin 96} {h : Half} {data : Word} (hs : Tame s₀ s) :
    Leads s₀ (Machine.execInjBurst m n h data s) := Tame.next (hs.regWrite (fun _ h0 => h0.patEffect))

theorem Tame.execInjectionRepeat {n : Fin 96} (hs : Tame s₀ s) : Leads s₀ (Machine.execInjectionRepeat n s) :=
  Leads.ite (Tame.next (hs.foldl fun _ _ h0 => h0.injectBits)) hs.next

theorem Tame.setStage {p v : Nat} (hs : Tame s₀ s) : Tame s₀ (Machine.setStage p v s) := hs.setFld

theorem Tame.setLaneStage {n v : Nat} (hs : Tame s₀ s) : Tame s₀ (Machine.setLaneStage n v s) := hs.same

theorem Tame.stageFails {p : Nat} (hs : Tame s₀ s) : Tame s₀ (Machine.stageFails p s) := hs.portToStage1.addFld

theorem Tame.execReceiverDetect {l : LinkId} {found : Bool} (hs : Tame s₀ s) :
    Leads s₀ (Machine.execReceiverDetect l found s) := by
  unfold Machine.execReceiverDetect
  split
  · exact Leads.ite hs.setStage.setFld.setQuadRate.next hs.next
  · exact Leads.ite hs.setLaneStage.next hs.next

theorem Tame.syncCable {p : Nat} (hs : Tame s₀ s) : Tame s₀ (Machine.syncCable p s) := hs.setFld

theorem Tame.endStage4 {p lanes : Nat} (hs : Tame s₀ s) : Tame s₀ (Machine.endStage4 p lanes s) :=
  Tame.ite hs.stageFails (Tame.ite hs (Tame.emit (Tame.modPort (Tame.setFld (Tame.setStage
      (hs.foldl fun _ _ h0 => h0.setFld))))))

theorem Tame.endStage5 {p : Nat} (hs : Tame s₀ s) : Tame s₀ (Machine.endStage5 p s) :=
  Tame.ite hs (Tame.ite hs.modPort.setStage.setFld.setQuadRate hs.modPort.setStage.emit)

theorem Tame.retrainDone {p : Nat} (hs : Tame s₀ s) : Tame s₀ (Machine.retrainDone p s) :=
  hs.same.foldl fun _ _ h0 => h0.endCommand

theorem Tame.endStage6 {p : Nat} (hs : Tame s₀ s) : Tame s₀ (Machine.endStage6 p s) :=
  Tame.ite hs hs.setFld.setFld.syncCable.setFld.setStage.pumpPort.retrainDone

theorem Tame.execLinkStageEnd {l : LinkId} {lanes : Nat} (hs : Tame s₀ s) : Leads s₀ (Machine.execLinkStageEnd l lanes s) :=
  by
  unfold Machine.execLinkStageEnd
  split
  · split
    · exact hs.next
    · split
      · exact hs.setStage.next
      · exact hs.modPort.setStage.next
      · exact hs.endStage4.next
      · exact hs.endStage5.next
      · exact hs.endStage6.next
      · exact hs.next
  · exact Leads.ite hs.setLaneStage.setFld.next hs.next

theorem Tame.execLinkStageTimeout {l : LinkId} (hs : Tame s₀ s) : Leads s₀ (Machine.execLinkStageTimeout l s) := by
  unfold Machine.execLinkStageTimeout
  split
  · exact Leads.ite hs.stageFails.next hs.next
  · exact Leads.ite hs.setLaneStage.setFld.next hs.next

theorem Tame.execCap {p : Fin 4} {c : CapBlock} (hs : Tame s₀ s) : Leads s₀ (Machine.execCap p c s) :=
  Leads.ite hs.next (Leads.ite hs.setFld.setFld.setFld.stageFails.next hs.setFld.setFld.setFld.modPort.emit.next)

theorem Tame.execDlyReq {p : Fin 4} {num turnPs : Nat} (hs : Tame s₀ s) : Leads s₀ (Machine.execDlyReq p num turnPs s) :=
  Leads.ite hs.emit.next hs.next

theorem Tame.execDlyRsp {p : Fin 4} {num rttPs turnPs : Nat} (hs : Tame s₀ s) :
    Leads s₀ (Machine.execDlyRsp p num rttPs turnPs s) := Leads.ite hs.next (Leads.ite hs.modPort.emit.next hs.modPort.next)

theorem Tame.brlCtlEffect {h : Half} {data : Word} (hs : Tame s₀ s) : Tame s₀ (Machine.brlCtlEffect h data s) :=
  hs.plainWrite.foldl fun _ _ h0 => Tame.ite h0 h0.portToStage1

theorem Tame.execLinkRetrain {p : Packet} (hs : Tame s₀ s) : Leads s₀ (Machine.execLinkRetrain p s) :=
  Tame.next (hs.runCommand (fun _ h0 => h0.portToStage1.same))

theorem Tame.execRetrainTimeout {p : Fin 4} (hs : Tame s₀ s) : Leads s₀ (Machine.execRetrainTimeout p s) := by
  unfold Machine.execRetrainTimeout
  split
  · exact hs.next
  · exact hs.same.endCommand.next

theorem Tame.execUserLaneWord {n : Fin 64} {tx rx : Option (BitVec 128 × Nat)} (hs : Tame s₀ s) :
    Leads s₀ (Machine.execUserLaneWord n tx rx s) := by
  refine Leads.ite hs.next ?_
  cases rx <;> cases tx
  · exact Leads.ite hs.next hs.addFld.emit.next
  · exact Leads.ite hs.next hs.emit.next
  · exact Leads.ite hs.emit.next hs.emit.addFld.emit.next
  · exact Leads.ite hs.emit.next hs.emit.emit.next

end Sys2Proof.Machine
end

section
/-! SUPPORT. `Tame` through the functions of Machine/Host. -/

set_option Elab.async false

namespace Sys2Proof.Machine

variable {s₀ s : State}

theorem Tame.modFn {f : Nat} {g : PcieFn → PcieFn} (hs : Tame s₀ s) : Tame s₀ (s.modFn f g) := hs.same

theorem Tame.flushVectors {f : Nat} (hs : Tame s₀ s) : Tame s₀ (Machine.flushVectors f s) :=
  hs.foldl fun _ _ h0 => Tame.ite h0.setReg.emit h0

theorem Tame.issuePieces {l done : List HostPiece} (hs : Tame s₀ s) : Tame s₀ (Machine.issuePieces l done s) := by
  induction l generalizing done s with
  | nil => exact hs.same
  | cons x r ih => exact Tame.ite (ih hs.emit) (ih hs)

theorem Tame.hostIssue (hs : Tame s₀ s) : Tame s₀ (Machine.hostIssue s) := hs.issuePieces

theorem Tame.completePieces {l kept : List HostPiece} (hs : Tame s₀ s) : Tame s₀ (Machine.completePieces l kept s) := by
  induction l generalizing kept s with
  | nil => exact hs.same
  | cons x r ih =>
    unfold Machine.completePieces
    split
    · exact ih hs
    · exact Tame.ite (ih hs) (Tame.ite (ih hs) (ih hs.emit))

theorem Tame.addPieces {r : HostReq} (hs : Tame s₀ s) : Tame s₀ (Machine.addPieces r s) := hs.same

theorem Tame.parityFailed {r : HostReq} (hs : Tame s₀ s) : Tame s₀ (Machine.parityFailed r s) :=
  Tame.raise (Tame.hostIssue (Tame.completePieces (Tame.violation (Tame.ite hs.addPieces.addFld hs.addPieces))))

theorem Tame.execHostMemoryRequest {r : HostReq} (hs : Tame s₀ s) : Leads s₀ (Machine.execHostMemoryRequest r s) :=
  Leads.ite (Tame.next (Tame.ite hs.setFld.addFld hs.setFld.addFld.emit)) (Leads.ite hs.setFld.emit.next (Leads.ite
      (Tame.next (Tame.ite hs.setFld.addFld hs.setFld.addFld.emit)) (Leads.ite hs.setFld.addFld.emit.next
      (Leads.ite hs.setFld.parityFailed.next hs.setFld.addPieces.hostIssue.next))))

theorem Tame.hostResponse {tag : Nat} {st : Status} {poison : Bool} {data : List Word} (hs : Tame s₀ s) :
    Tame s₀ (Machine.hostResponse tag st poison data s) := by
  unfold Machine.hostResponse
  split
  · exact hs
  · exact Tame.hostIssue (Tame.completePieces (Tame.ite (Tame.ite hs.answeredAt.addFld hs.answeredAt) (Tame.violation
        (Tame.ite hs.answeredAt.addFld hs.answeredAt))))

theorem Tame.configSet {f : Nat} {c : ConfigSet} (hs : Tame s₀ s) : Tame s₀ (Machine.configSet f c s) := by
  unfold Machine.configSet
  split
  · exact hs.modFn
  · exact hs.modFn.flushVectors
  · exact hs.modFn
  · exact hs.modFn.flushVectors
  · exact hs.modFn.flushVectors
  · exact hs.modFn.setFbit.flushVectors
  · exact hs.modFn
  · exact hs.modFn
  · exact Tame.ite hs hs.modFn

theorem Tame.execHostConfigRequest {f : Fin 4} {tag dword : Nat} {put : Option ConfigSet} (hs : Tame s₀ s) :
    Leads s₀ (Machine.execHostConfigRequest f tag dword put s) := by
  unfold Machine.execHostConfigRequest
  split
  · exact hs.emit.next
  · split
    · exact hs.configSet.next
    · exact hs.emit.next

theorem Tame.dropCommands {f : Nat} (hs : Tame s₀ s) : Tame s₀ (Machine.dropCommands f s) := hs.setQueue.same

theorem Tame.resetFunction {f : Nat} (hs : Tame s₀ s) : Tame s₀ (Machine.resetFunction s f) := by
  unfold Machine.resetFunction
  extract_lets m t0 t1 t2 t3 t4 t5 tck flt t6 t7
  have h1 : Tame s₀ t1 := Tame.foldl hs.modFn.setFbit fun _ _ h => h.clearReg.clearReg
  have h4 : Tame s₀ t4 := h1.clearReg.dropCommands.setReplyQueue
  have h5 : Tame s₀ t5 := Tame.foldl h4 fun _ _ h => h.clearReg
  clear_value t5
  have h6 : Tame s₀ t6 := h5.same
  clear_value t6
  have h7 : Tame s₀ t7 := by
    unfold t7
    split
    · exact Tame.ite h6.loadFail h6
    · exact h6
  exact Tame.ite h7.vacate h7

theorem Tame.execFunctionLevelReset {f : Fin 4} (hs : Tame s₀ s) : Leads s₀ (Machine.execFunctionLevelReset f s) :=
  hs.resetFunction.next

theorem Tame.execHostLinkDown (hs : Tame s₀ s) : Leads s₀ (Machine.execHostLinkDown s) :=
  Tame.next (Tame.raise (Tame.hostIssue (Tame.foldl (Tame.setFld (Tame.setFld (Tame.addFld (Tame.setFld (Tame.setFld
      (Tame.same (hs.foldl fun _ _ h0 => h0.resetFunction))))))) fun _ _ h0 => h0.setQuadRate)))

theorem Tame.execHostLinkUp {speed width : Nat} (hs : Tame s₀ s) : Leads s₀ (Machine.execHostLinkUp speed width s) :=
  Leads.ite hs.next (Tame.next (hs.setFld.setFld.setFld.foldl fun _ _ h0 => Tame.ite h0.setQuadRate h0))

theorem Tame.execL1Entry (hs : Tame s₀ s) : Leads s₀ (Machine.execL1Entry s) := Leads.ite hs.setFld.next hs.next

end Sys2Proof.Machine
end

section
/-! SUPPORT. `Tame` through the functions of Machine/Ring. -/

set_option Elab.async false

namespace Sys2Proof.Machine

variable {s₀ s : State}

theorem Tame.rewriteBanks {old : Ident} (hs : Tame s₀ s) : Tame s₀ (Machine.rewriteBanks old s) :=
  hs.foldl fun _ _ h0 => Tame.ite h0.setFld h0

theorem Tame.setDevId {v : Nat} (hs : Tame s₀ s) : Tame s₀ (Machine.setDevId v s) := hs.setFld.setFld.rewriteBanks

theorem Tame.devIdEffect {h : Half} {data : Word} (hs : Tame s₀ s) : Tame s₀ (Machine.devIdEffect h data s) :=
  Tame.ite hs hs.setDevId

theorem Tame.execDevidWrite {m : Ident} {h : Half} {data : Word} (hs : Tame s₀ s) :
    Leads s₀ (Machine.execDevidWrite m h data s) := Tame.next (hs.regWrite (fun _ h0 => h0.devIdEffect))

theorem Tame.respondFrame {dev tag st : Nat} {poison : Bool} {data : List Word} (hs : Tame s₀ s) :
    Tame s₀ (Machine.respondFrame dev tag st poison data s) := by
  unfold Machine.respondFrame
  split
  · exact hs.sendFrame
  · exact hs

theorem Tame.refuseFrame {f : BrFrame} (hs : Tame s₀ s) : Tame s₀ (Machine.refuseFrame f s) := Tame.ite hs.respondFrame hs

theorem Tame.forwardFrame {ring : Nat} {f : BrFrame} (hs : Tame s₀ s) : Tame s₀ (Machine.forwardFrame ring f s) := by
  unfold Machine.forwardFrame
  split
  · exact hs.sendFrame
  · exact hs.refuseFrame

theorem Tame.arrive {p : Nat} {f : BrFrame} {take : State → State} (hs : Tame s₀ s)
    (ht : ∀ t, Tame s₀ t → Tame s₀ (take t)) : Tame s₀ (Machine.arrive p f take s) :=
  Tame.ite hs (Tame.ite hs.frameIn.addFld.refuseFrame (ht _ hs.frameIn))

theorem Tame.serveFrame {f : BrFrame} (hs : Tame s₀ s) : Tame s₀ (Machine.serveFrame f s) := hs.same.emit

theorem Tame.requestFrame {p : Nat} {f : BrFrame} (hs : Tame s₀ s) : Tame s₀ (Machine.requestFrame p f s) :=
  hs.arrive (fun _ h0 => Tame.ite h0.serveFrame h0.forwardFrame)

theorem Tame.execReadFrame {p : Fin 4} {f : BrFrame} (hs : Tame s₀ s) : Leads s₀ (Machine.execReadFrame p f s) :=
  hs.requestFrame.next

theorem Tame.execWriteFrame {p : Fin 4} {f : BrFrame} (hs : Tame s₀ s) : Leads s₀ (Machine.execWriteFrame p f s) :=
  hs.requestFrame.next

theorem Tame.sendRemote {use : RemoteUse} {m : Ident} {write : Bool} {dev addr size : Nat} {poison : Bool} {data : List Word}
    (hs : Tame s₀ s) :
    Tame s₀ (Machine.sendRemote use m write dev addr size poison data s).2 := by
  unfold Machine.sendRemote
  split
  · exact hs
  · exact hs.same.sendFrame

theorem Tame.accessDone {m : Ident} {write : Bool} {st : Nat} {poison : Bool} {data : Word} (hs : Tame s₀ s) :
    Tame s₀ (Machine.accessDone m write st poison data s) := by
  unfold Machine.accessDone
  split
  · exact hs
  · exact Tame.ite (Tame.ite (Tame.ite (Tame.ite hs.setMfld hs.setMfld.setMfld) (Tame.violation
        (Tame.ite hs.setMfld hs.setMfld.setMfld))) (Tame.addFld (Tame.ite (Tame.ite hs.setMfld hs.setMfld.setMfld)
        (Tame.violation (Tame.ite hs.setMfld hs.setMfld.setMfld))))) (Tame.ite (Tame.emit (Tame.ite (Tame.ite
        (Tame.ite hs.setMfld hs.setMfld.setMfld) (Tame.violation (Tame.ite hs.setMfld hs.setMfld.setMfld))) (Tame.addFld
        (Tame.ite (Tame.ite hs.setMfld hs.setMfld.setMfld) (Tame.violation (Tame.ite hs.setMfld hs.setMfld.setMfld))))))
        (Tame.emit (Tame.ite (Tame.ite (Tame.ite hs.setMfld hs.setMfld.setMfld) (Tame.violation
        (Tame.ite hs.setMfld hs.setMfld.setMfld))) (Tame.addFld (Tame.ite (Tame.ite hs.setMfld hs.setMfld.setMfld)
        (Tame.violation (Tame.ite hs.setMfld hs.setMfld.setMfld)))))))

theorem Tame.raccEffect {m : Ident} {h : Half} {data : Option Word} (hs : Tame s₀ s) :
    Tame s₀ (Machine.raccEffect m h data s) := by
  unfold Machine.raccEffect
  split
  · exact Tame.ite hs.violation hs.violation.emit
  · split
    · exact hs
    · exact Tame.ite hs.sendRemote.accessDone hs.sendRemote

theorem Tame.execRaccDataAccess {m : Ident} {h : Half} {data : Option Word} (hs : Tame s₀ s) :
    Leads s₀ (Machine.execRaccDataAccess m h data s) := by
  unfold Machine.execRaccDataAccess
  split
  · exact Tame.next (hs.regWrite (fun _ h1 => h1.raccEffect))
  · exact Tame.next (hs.readFront (fun _ h1 => h1.raccEffect))

theorem Tame.putCopy {c : RingCopy} (hs : Tame s₀ s) : Tame s₀ (Machine.putCopy c s) := hs.same

theorem Tame.takeTag (hs : Tame s₀ s) : Tame s₀ (Machine.takeTag s).2 := hs.same

theorem Tame.copyEnd {c : RingCopy} (hs : Tame s₀ s) : Tame s₀ (Machine.copyEnd c s) := Tame.ite hs.putCopy hs.same.endCommand

theorem Tame.copyLocal {c : RingCopy} {tag : Nat} {write : Bool} {off n : Nat} {poison : Bool} {data : List Word}
    (hs : Tame s₀ s) :
    Tame s₀ (Machine.copyLocal c tag write off n poison data s) := hs.emit

theorem Tame.copyFirst {x : RingCopy} {n : Nat} (hs : Tame s₀ s) : Tame s₀ (Machine.copyFirst x n s).2 := by
  unfold Machine.copyFirst
  dsimp only
  split
  · exact hs.takeTag.copyLocal
  · split
    next e => exact hs.sendRemote.of_snd e
    next e => exact hs.sendRemote.of_snd e

theorem Tame.copyPump {fuel : Nat} {x : RingCopy} (hs : Tame s₀ s) : Tame s₀ (Machine.copyPump fuel x s) := by
  induction fuel generalizing x s with
  | zero => exact hs.copyEnd
  | succ fuel ih => exact Tame.ite hs.copyEnd (ih hs.copyFirst)

theorem Tame.pieceOver {c : RingCopy} {x : CopyPiece} {moved : Bool} {st : Nat} (hs : Tame s₀ s) :
    Tame s₀ (Machine.pieceOver c x moved st s) := hs.copyPump

theorem Tame.copySecond {y : RingCopy} {x : CopyPiece} {poison : Bool} {data : List Word} (hs : Tame s₀ s) :
    Tame s₀ (Machine.copySecond y x poison data s) := by
  unfold Machine.copySecond
  dsimp only
  split
  · split
    next e => exact Tame.putCopy (hs.sendRemote.of_snd e)
    next e => exact Tame.pieceOver (hs.sendRemote.of_snd e)
  · exact Tame.copyLocal (Tame.putCopy hs.takeTag)

theorem Tame.copyResponse {tag st : Nat} {poison : Bool} {data : List Word} (hs : Tame s₀ s) :
    Tame s₀ (Machine.copyResponse tag st poison data s) := by
  unfold Machine.copyResponse
  split
  · exact hs
  · split
    · exact hs
    · exact Tame.ite hs.pieceOver (Tame.ite hs.pieceOver (Tame.ite hs.pieceOver hs.copySecond))

theorem Tame.execRingCopy {p : Packet} (hs : Tame s₀ s) : Leads s₀ (Machine.execRingCopy p s) :=
  Tame.next (hs.runCommand (fun _ h0 => Tame.ite h0.endCommand h0.same.copyPump))

theorem Tame.remoteOver {tag : Nat} {use : RemoteUse} {st : Nat} {poison : Bool} {data : List Word} (hs : Tame s₀ s) :
    Tame s₀ (Machine.remoteOver tag use st poison data s) := by
  unfold Machine.remoteOver
  dsimp only
  split
  · exact hs.same.accessDone
  · exact hs.same.copyResponse
  · exact hs.same

theorem Tame.execResponseFrame {p : Fin 4} {f : BrFrame} (hs : Tame s₀ s) : Leads s₀ (Machine.execResponseFrame p f s) := by
  unfold Machine.execResponseFrame
  dsimp only
  refine Tame.next ?_
  refine hs.arrive (fun _ h0 => ?_)
  split
  · split
    · exact h0.remoteOver
    · exact h0.addFld
  · exact h0.forwardFrame

theorem Tame.execRemoteAccessTimeout {tag : Nat} (hs : Tame s₀ s) : Leads s₀ (Machine.execRemoteAccessTimeout tag s) := by
  unfold Machine.execRemoteAccessTimeout
  split
  · exact hs.remoteOver.next
  · exact hs.next

theorem Tame.execEndpointResponse {dst : RespTo} {tag : Nat} {st : Status} {data : List Word} {poison : Bool}
    (hs : Tame s₀ s) :
    Leads s₀ (Machine.execEndpointResponse dst tag st data poison s) := by
  unfold Machine.execEndpointResponse
  split
  · exact hs.hostResponse.next
  · exact hs.fabricResponse.next
  · split
    · exact hs.same.answeredAt.respondFrame.next
    · exact hs.answeredAt.copyResponse.next

theorem Tame.passOn {p : Nat} {f : BrFrame} (hs : Tame s₀ s) : Tame s₀ (Machine.passOn p f s) := Tame.ite hs.sendFrame hs

theorem Tame.takePosition {ring base pos : Nat} (hs : Tame s₀ s) : Tame s₀ (Machine.takePosition ring base pos s) :=
  Tame.ite hs hs.setDevId

theorem Tame.loadMap {ring : Nat} {ids : List Word} (hs : Tame s₀ s) : Tame s₀ (Machine.loadMap ring ids s) :=
  Tame.ite (Tame.setFld (Tame.setFld (hs.foldl fun _ _ h0 => h0.setReg))) (Tame.setFld (Tame.setFld
      (hs.foldl fun _ _ h0 => h0.setReg)))

theorem Tame.enumReturns {p : Packet} {ring : Nat} {ids : List Word} (hs : Tame s₀ s) :
    Tame s₀ (Machine.enumReturns p ring ids s) := hs.same.loadMap.broadcast.endCommand

theorem Tame.execEnumFrame {p : Fin 4} {f : BrFrame} (hs : Tame s₀ s) : Leads s₀ (Machine.execEnumFrame p f s) := by
  unfold Machine.execEnumFrame
  dsimp only
  refine Tame.next ?_
  refine hs.arrive (fun _ h0 => ?_)
  split
  · exact h0.enumReturns
  · exact h0.takePosition.passOn

theorem Tame.execEnumTableFrame {p : Fin 4} {f : BrFrame} (hs : Tame s₀ s) : Leads s₀ (Machine.execEnumTableFrame p f s) :=
  Tame.next (hs.arrive (fun _ h0 => Tame.ite h0 h0.loadMap.passOn))

theorem Tame.execRingEnum {p : Packet} (hs : Tame s₀ s) : Leads s₀ (Machine.execRingEnum p s) :=
  Tame.next (hs.runCommand (fun _ h0 => Tame.ite h0.endCommand h0.same.takePosition.sendFrame))

theorem Tame.execEnumTimeout {ring : Fin 2} {reached : Nat} (hs : Tame s₀ s) :
    Leads s₀ (Machine.execEnumTimeout ring reached s) := by
  unfold Machine.execEnumTimeout
  split
  · exact hs.same.endCommand.next
  · exact hs.next

theorem Tame.forwardReady {ring : Nat} {f : BrFrame} (hs : Tame s₀ s) : Tame s₀ (Machine.forwardReady ring f s) := by
  unfold Machine.forwardReady
  dsimp only
  split
  · exact hs.sendFrame
  · exact Tame.ite hs.sendFrame hs

theorem Tame.execReadyFrame {p : Fin 4} {f : BrFrame} (hs : Tame s₀ s) : Leads s₀ (Machine.execReadyFrame p f s) :=
  Tame.next (hs.arrive (fun _ h0 => Tame.ite h0.countReady h0.forwardReady))

theorem Tame.execStartFrame {p : Fin 4} {f : BrFrame} (hs : Tame s₀ s) : Leads s₀ (Machine.execStartFrame p f s) :=
  Tame.next (hs.arrive (fun _ h0 => Tame.ite h0 (Tame.ite h0.takeStart.passOn.broadcast h0.takeStart.passOn)))

theorem Tame.setStreamFrom {src p : Nat} (hs : Tame s₀ s) : Tame s₀ (Machine.setStreamFrom src p s) := hs.same

theorem Tame.takeStream {f : BrFrame} (hs : Tame s₀ s) : Tame s₀ (Machine.takeStream f s) := by
  unfold Machine.takeStream
  split
  · exact Tame.ite hs.addFld.setLoad hs
  · exact hs

theorem Tame.execStreamFrame {p : Fin 4} {f : BrFrame} (hs : Tame s₀ s) : Leads s₀ (Machine.execStreamFrame p f s) :=
  Tame.next (hs.arrive (fun _ h0 => Tame.ite h0.setStreamFrom.passOn.takeStream h0))

end Sys2Proof.Machine
end

section
/-! SUPPORT. `Tame` through the functions of Machine/Signature. -/

set_option Elab.async false

namespace Sys2Proof.Machine

variable {s₀ s : State}

theorem Tame.nextSwept (hs : Tame s₀ s) : Tame s₀ (Machine.nextSwept s) :=
  Tame.ite hs.setFld.same hs.setFld.addFld.setFld.same

theorem Tame.recordSig {addr outcome : Nat} (hs : Tame s₀ s) : Tame s₀ (Machine.recordSig addr outcome s) := hs.setReg

theorem Tame.containRegion {t : Nat} (hs : Tame s₀ s) : Tame s₀ (Machine.containRegion t s) :=
  Tame.ite hs.raiseDamper.setFld hs

theorem Tame.sigFailed {addr outcome : Nat} {f : Field} (hs : Tame s₀ s) : Tame s₀ (Machine.sigFailed addr outcome f s) :=
  hs.recordSig.addFld.containRegion

theorem Tame.sigMismatch {addr : Nat} (hs : Tame s₀ s) : Tame s₀ (Machine.sigMismatch addr s) := by
  unfold Machine.sigMismatch
  dsimp only
  split
  · exact Tame.ite hs.addFld.setFld.raise.setReg.setFld.same.emit hs.addFld.setFld.raise.sigFailed.nextSwept
  · exact hs.addFld.setFld.raise.sigFailed.nextSwept

theorem Tame.compareFrame {n : Nat} (hs : Tame s₀ s) : Tame s₀ (Machine.compareFrame n s) :=
  Tame.ite hs.setFld.recordSig.addFld.raise.nextSwept (Tame.ite hs.noteMend.nextSwept hs.noteMend.sigMismatch)

theorem Tame.execSigSweepFrame (hs : Tame s₀ s) : Leads s₀ (Machine.execSigSweepFrame s) :=
  Leads.ite hs.next (Leads.ite hs.setFld.next (Leads.ite hs.setFld.addFld.nextSwept.next hs.setFld.compareFrame.next))

theorem Tame.endRepair (hs : Tame s₀ s) : Tame s₀ (Machine.endRepair s) := hs.setFld.same.nextSwept

theorem Tame.repairFrame {addr n : Nat} {ws readback : List Word} (hs : Tame s₀ s) :
    Tame s₀ (Machine.repairFrame addr n ws readback s) := Tame.ite hs.sigFailed (Tame.ite hs.recordSig
        (Tame.ite hs.same.recordSig.addFld hs.same.sigFailed.raise))

theorem Tame.execRepairReadResponse {st : Status} {header ws readback : List Word} (hs : Tame s₀ s) :
    Leads s₀ (Machine.execRepairReadResponse st header ws readback s) := by
  unfold Machine.execRepairReadResponse
  split
  · exact hs.next
  · split
    · exact hs.endRepair.next
    · exact Leads.ite hs.sigFailed.endRepair.next hs.repairFrame.endRepair.next

end Sys2Proof.Machine
end

section
/-! SUPPORT. `Tame` through the functions of Machine/Power. -/

set_option Elab.async false

namespace Sys2Proof.Machine

variable {s₀ s : State}

theorem Tame.modPwr {f : PwrState → PwrState} (hs : Tame s₀ s) : Tame s₀ (s.modPwr f) := hs.same

theorem Tame.startAlign (hs : Tame s₀ s) : Tame s₀ (Machine.startAlign s) := hs.setFld.same

theorem Tame.setPeriod {n : Nat} (hs : Tame s₀ s) : Tame s₀ (Machine.setPeriod n s) := hs.setFld.setFld

theorem Tame.saveTime (hs : Tame s₀ s) : Tame s₀ (Machine.saveTime s) := hs.same

theorem Tame.wakeAdvance {aon : Nat} (hs : Tame s₀ s) : Tame s₀ (Machine.wakeAdvance aon s) := by
  unfold Machine.wakeAdvance
  split
  · exact hs.setFld
  · exact hs.setFld.setPeriod.setFld.setFld.setFld.setFld.setFld.same.startAlign

theorem Tame.setSlot {r : Option PwrReq} (hs : Tame s₀ s) : Tame s₀ (Machine.setSlot r s) := hs.modPwr.setFld.setFld

theorem Tame.replyReq {r : PwrReq} {st : Rs} (hs : Tame s₀ s) : Tame s₀ (Machine.replyReq r st s) := by
  unfold Machine.replyReq
  split
  · exact hs
  · exact hs.endCommand

theorem Tame.scheduleStep {code : Nat} (hs : Tame s₀ s) : Tame s₀ (Machine.scheduleStep code s) := hs.modPwr

theorem Tame.endTransition {st : Rs} (hs : Tame s₀ s) : Tame s₀ (Machine.endTransition st s) := by
  unfold Machine.endTransition
  extract_lets t u
  have hu : Tame s₀ u := by
    unfold u
    split
    · exact Tame.replyReq hs.setFld.modPwr
    · exact hs.setFld
  exact Tame.ite hu.scheduleStep hu

theorem Tame.startRequest {r : PwrReq} (hs : Tame s₀ s) : Tame s₀ (Machine.startRequest r s) :=
  Tame.ite hs.replyReq hs.setFld.modPwr.scheduleStep

theorem Tame.askPower {r : PwrReq} (hs : Tame s₀ s) : Tame s₀ (Machine.askPower r s) := by
  unfold Machine.askPower
  split
  · exact hs.startRequest
  · dsimp only
    refine Tame.setSlot ?_
    split
    · exact hs.addFld.replyReq
    · exact hs

theorem Tame.execPwrState {p : Packet} (hs : Tame s₀ s) : Leads s₀ (Machine.execPwrState p s) :=
  Tame.next (hs.runCommand (fun _ h0 => h0.askPower))

theorem Tame.followAll (hs : Tame s₀ s) : Tame s₀ (Machine.followAll s) := hs.foldl fun _ _ h0 => h0.followRegion

theorem Tame.stepI1 (hs : Tame s₀ s) : Tame s₀ (Machine.stepI1 s) :=
  Tame.followAll (Tame.foldl (Tame.ite hs.modPwr.closeGate hs.modPwr) fun _ _ h0 => h0.setFbit)

theorem Tame.stepB1 (hs : Tame s₀ s) : Tame s₀ (Machine.stepB1 s) :=
  Tame.foldl (Tame.foldl (Tame.modPwr (Tame.foldl
      (Tame.ite hs.loadFail hs) fun _ _ h0 => h0.enterSafe)) fun _ _ h0 => h0.setRun) fun _ _ h0 => h0.raiseDamper

theorem Tame.stepB2 (hs : Tame s₀ s) : Tame s₀ (Machine.stepB2 s) :=
  Tame.foldl (hs.foldl fun _ _ h0 => h0.raiseEndpoint) fun _ _ h0 => Tame.ite h0.modDrc.dramContain h0

theorem Tame.stepB2Gates (hs : Tame s₀ s) : Tame s₀ (Machine.stepB2Gates s) :=
  hs.modPwr.foldl fun _ _ h0 => h0.setFbit.startRamp

theorem Tame.stepB2End (hs : Tame s₀ s) : Tame s₀ (Machine.stepB2End s) :=
  Tame.same (Tame.foldl (Tame.foldl (Tame.foldl
      (hs.modPwr.setFld.foldl fun _ _ h0 => h0.clearTarget) fun _ _ h0 => h0.setFld) fun _ _ h0 => h0.powerDownLane) fun _ _
      h0 => h0.newLap)

theorem Tame.stepC1 (hs : Tame s₀ s) : Tame s₀ (Machine.stepC1 s) := by
  unfold Machine.stepC1
  dsimp only
  refine Tame.modPwr ?_
  split
  · exact Tame.endCommand (Tame.ite hs.setFld.setFld hs)
  · exact Tame.ite hs.setFld.setFld hs

theorem Tame.stepU2 (hs : Tame s₀ s) : Tame s₀ (Machine.stepU2 s) :=
  Tame.wakeDrams (Tame.foldl (hs.modPwr.foldl fun _ _ h0 => Tame.ite h0.startRamp h0) fun _ _ h0 => h0.newLap)

theorem Tame.stepU3 (hs : Tame s₀ s) : Tame s₀ (Machine.stepU3 s) :=
  Tame.restartLap (Tame.modPwr (Tame.foldl (Tame.openTarget
      (hs.foldl fun _ _ h0 => h0.openEndpoint)) fun _ _ h0 => h0.setRun))

theorem Tame.stepI2 (hs : Tame s₀ s) : Tame s₀ (Machine.stepI2 s) :=
  Tame.foldl (Tame.ite hs.modPwr.startRamp hs.modPwr) fun _ _ h0 => h0.startRamp

theorem Tame.afterStep {code : Nat} (hs : Tame s₀ s) : Tame s₀ (Machine.afterStep code s) := by
  unfold Machine.afterStep
  dsimp only
  split
  · exact hs.setFld.scheduleStep
  · exact hs.setFld.scheduleStep
  · exact hs.setFld.scheduleStep
  · exact hs.setFld.scheduleStep
  · exact Tame.ite hs.setFld.setFld.addFld.endTransition hs.setFld.setFld.scheduleStep

theorem Tame.startStepOf {code : Nat} (hs : Tame s₀ s) : Tame s₀ (Machine.startStepOf code s) := by
  unfold Machine.startStepOf
  dsimp only
  split
  · exact hs.setFld.modPwr.stepI1
  · exact hs.setFld.modPwr.stepB1
  · exact hs.setFld.modPwr.stepB2
  · exact hs.setFld.modPwr.startRamp
  · exact hs.setFld.modPwr.stepC1
  · exact hs.setFld.modPwr.commandVoltage
  · exact hs.setFld.modPwr.stepU2
  · exact hs.setFld.modPwr.stepU3.afterStep
  · exact hs.setFld.modPwr.stepI2

theorem Tame.powerAtBoundary (hs : Tame s₀ s) : Tame s₀ (Machine.powerAtBoundary s) := by
  unfold Machine.powerAtBoundary
  split
  · exact hs
  · split
    · exact hs
    · split
      · split
        · exact hs.modPwr
        · exact Tame.ite hs.modPwr.setSlot.replyReq
              (Tame.ite hs.modPwr.setSlot.setFld.modPwr.scheduleStep hs.modPwr.setSlot.setFld.modPwr.startStepOf)
      · exact Tame.ite hs hs.startStepOf

theorem Tame.execPowerStepEnd (hs : Tame s₀ s) : Leads s₀ (Machine.execPowerStepEnd s) :=
  Leads.ite hs.next (Leads.ite (Tame.next (Tame.ite hs.stepB2End.afterStep (Tame.ite hs hs.stepB2Gates))) hs.afterStep.next)

theorem Tame.execBankedJobCutoff (hs : Tame s₀ s) : Leads s₀ (Machine.execBankedJobCutoff s) :=
  Leads.ite hs.next (Tame.next (hs.foldl fun _ _ h0 => Tame.syncEngine (Tame.ite (Tame.expireJob (Tame.ite h0.endFrame h0))
      (Tame.ite h0.endFrame h0))))

theorem Tame.execAvsReadback {mv : Option Nat} (hs : Tame s₀ s) : Leads s₀ (Machine.execAvsReadback mv s) := by
  unfold Machine.execAvsReadback
  split
  · exact hs.setFld.next
  · dsimp only
    split
    · exact hs.setFld.next
    · exact Leads.ite hs.setFld.next (Tame.next (Tame.ite hs.setFld.modPwr.startRamp hs.setFld.modPwr))

theorem Tame.execAvsTimeout (hs : Tame s₀ s) : Leads s₀ (Machine.execAvsTimeout s) := by
  unfold Machine.execAvsTimeout
  split
  · exact hs.next
  · exact Tame.next (Tame.ite hs.setFld.addFld.raise.modPwr.endTransition hs.setFld.addFld.raise.modPwr)

theorem Tame.resetDomains (hs : Tame s₀ s) : Tame s₀ (Machine.resetDomains s) :=
  (hs.setEmber (v := false)).stores rfl (Memory.filter_wf _) (Memory.filter_wf _)

theorem Tame.execAonPowerOn (hs : Tame s₀ s) : Leads s₀ (Machine.execAonPowerOn s) :=
  (hs.resetDomains.stores (t := { Machine.resetDomains s with regs := [], tck := TckState.reset, pwr := PwrState.reset })
    rfl (fun _ => Memory.nil_wf) id).emit.next

theorem Tame.execCoreEnHigh (hs : Tame s₀ s) : Leads s₀ (Machine.execCoreEnHigh s) := Leads.ite hs.next hs.modPwr.emit.next

theorem Tame.execPowerOn {safeKeep : Bool} (hs : Tame s₀ s) : Leads s₀ (Machine.execPowerOn safeKeep s) :=
  Leads.ite hs.next (Tame.next (Tame.emit (hs.resetDomains.modPwr.foldl fun _ _ h0 => h0.setSafeState)))

theorem Tame.execPwrOkFall (hs : Tame s₀ s) : Leads s₀ (Machine.execPwrOkFall s) :=
  Leads.ite hs.next (Leads.ite hs.modPwr.next hs.resetDomains.modPwr.same.emit.next)

theorem Tame.execColdDelayExpire (hs : Tame s₀ s) : Leads s₀ (Machine.execColdDelayExpire s) :=
  Leads.ite hs.next hs.saveTime.resetDomains.modPwr.setFld.emit.emit.next

theorem Tame.latchStraps {bootSrc : Nat} {refSel safeKeep : Bool} (hs : Tame s₀ s) :
    Tame s₀ (Machine.latchStraps bootSrc refSel safeKeep s) := hs.setFld.setFld.setFld.same.setFld.foldl fun _ _ h0 =>
        h0.setSafeState

theorem Tame.execKindlingReady {bootSrc : Fin 4} {refSel safeKeep : Bool} (hs : Tame s₀ s) :
    Leads s₀ (Machine.execKindlingReady bootSrc refSel safeKeep s) :=
    Leads.ite hs.next (Leads.ite hs.setFld.latchStraps.modPwr.next hs.setFld.next)

theorem Tame.restKindling (hs : Tame s₀ s) : Tame s₀ (Machine.restKindling s) := Tame.ite hs hs.setFld.modPwr

theorem Tame.execRootLock {aon : Nat} (hs : Tame s₀ s) : Leads s₀ (Machine.execRootLock aon s) :=
  Leads.ite hs.next hs.setFld.modPwr.restKindling.startRamp.wakeAdvance.next

theorem Tame.loadDevId (hs : Tame s₀ s) : Tame s₀ (Machine.loadDevId s) := by
  unfold Machine.loadDevId
  split
  · exact Tame.ite hs.setFld.setDevId hs
  · exact hs

theorem Tame.loadCalibration {g : Nat} (hs : Tame s₀ s) : Tame s₀ (Machine.loadCalibration s g) := by
  unfold Machine.loadCalibration
  split
  · exact hs.loadImage
  · exact hs

theorem Tame.openInitGates (hs : Tame s₀ s) : Tame s₀ (Machine.openInitGates s) := hs.foldl fun _ _ h0 => h0.setGateBit

theorem Tame.execHearthInitDone {dram : List Bool} (hs : Tame s₀ s) : Leads s₀ (Machine.execHearthInitDone dram s) :=
  Leads.ite hs.next (Tame.next (Tame.emberCheck (Tame.bootLoad (Tame.modPwr (Tame.same (Tame.setFld (Tame.boardLoad
      (hs.openInitGates.readFuses.loadDevId.setFld.commandVoltage.foldl fun _ _ h0 => h0.loadCalibration))))))))

theorem Tame.execClkRefSelect {p : Packet} (hs : Tame s₀ s) : Leads s₀ (Machine.execClkRefSelect p s) :=
  Tame.next (hs.runCommand (fun _ h0 => Tame.ite h0.endCommand (Tame.ite (Tame.endCommand (Tame.modPwr
      (Tame.ite h0 h0.setFld.setFld))) (Tame.ite h0.endCommand h0.modPwr))))

theorem Tame.execReferenceQualified (hs : Tame s₀ s) : Leads s₀ (Machine.execReferenceQualified s) := by
  unfold Machine.execReferenceQualified
  split
  · exact hs.next
  · split
    · exact hs.setFld.modPwr.next
    · split
      · exact hs.setFld.setFld.setFld.next
      · exact Leads.ite hs.setFld.setFld.next hs.next

theorem Tame.execRefQualifyTimeout (hs : Tame s₀ s) : Leads s₀ (Machine.execRefQualifyTimeout s) := by
  unfold Machine.execRefQualifyTimeout
  split
  · exact Leads.ite hs.next hs.modPwr.restKindling.endCommand.next
  · exact hs.next

theorem Tame.execSlewDone (hs : Tame s₀ s) : Leads s₀ (Machine.execSlewDone s) := by
  unfold Machine.execSlewDone
  split
  · exact hs.next
  · dsimp only
    split
    · exact Tame.next (Tame.endCommand (Tame.modPwr (Tame.modPwr (Tame.restKindling
          (Tame.ite hs.setFld.setFld.addFld.startAlign hs.setFld.setFld)))))
    · exact Tame.next (Tame.modPwr (Tame.restKindling (Tame.ite hs.setFld.setFld.addFld.startAlign hs.setFld.setFld)))

theorem Tame.suspendStep (hs : Tame s₀ s) : Tame s₀ (Machine.suspendStep s) := Tame.ite hs.setFld hs

theorem Tame.freezeDevice (hs : Tame s₀ s) : Tame s₀ (Machine.freezeDevice s) :=
  hs.setFld.addFld.setFld.modPwr.suspendStep.saveTime.raise.emberCheck

theorem Tame.tripMonitor {lockLost : Bool} (hs : Tame s₀ s) : Tame s₀ (Machine.tripMonitor lockLost s) := by
  unfold Machine.tripMonitor
  dsimp only
  split
  · exact Tame.endCommand (Tame.modPwr (Tame.setFld (Tame.raise (Tame.suspendStep (Tame.modPwr (Tame.foldl (Tame.setFld
        (Tame.setFld (Tame.foldl (Tame.setFld (Tame.setFld (Tame.setFld (Tame.setFld (Tame.addFld
        (Tame.ite hs.setFld hs.setFld)))))) fun _ _ h1 => h1.enterSafe))) fun _ _ h1 => h1.dramHold))))))
  · exact Tame.raise (Tame.suspendStep (Tame.modPwr (Tame.foldl (Tame.setFld (Tame.setFld (Tame.foldl (Tame.setFld
        (Tame.setFld (Tame.setFld (Tame.setFld (Tame.addFld
        (Tame.ite hs.setFld hs.setFld)))))) fun _ _ h1 => h1.enterSafe))) fun _ _ h1 => h1.dramHold)))

theorem Tame.execClockMonitorTrip {lockLost : Bool} (hs : Tame s₀ s) : Leads s₀ (Machine.execClockMonitorTrip lockLost s) :=
  by
  unfold Machine.execClockMonitorTrip
  split
  · exact hs.next
  · split
    · exact hs.tripMonitor.next
    · exact Leads.ite hs.freezeDevice.next hs.next
    · exact hs.next

theorem Tame.execFreeze (hs : Tame s₀ s) : Leads s₀ (Machine.execFreeze s) := Leads.ite hs.freezeDevice.next hs.next

theorem Tame.execPullInDone {aon : Nat} (hs : Tame s₀ s) : Leads s₀ (Machine.execPullInDone aon s) :=
  Leads.ite hs.next (Tame.next (Tame.emberCheck (Tame.startRamp (Tame.setFld (Tame.ite hs.modPwr.wakeAdvance hs)))))

theorem Tame.sendPme (hs : Tame s₀ s) : Tame s₀ (Machine.sendPme s) := hs.foldl fun _ _ h0 => Tame.ite h0.emit h0

theorem Tame.fireWake {k : WakeKind} (hs : Tame s₀ s) : Tame s₀ (Machine.fireWake k s) := by
  unfold Machine.fireWake
  dsimp only
  split
  · exact hs.addFld.raise
  · exact Tame.ite (Tame.ite hs.addFld.raise hs.addFld.raise.modPwr.emit) (Tame.emit (Tame.modPwr
        (Tame.ite hs.addFld.raise hs.addFld.raise.modPwr.emit)))
  · exact Tame.askPower (Tame.ite hs.addFld.raise.sendPme hs.addFld.raise)

theorem Tame.execWakePin {n : Fin 4} (hs : Tame s₀ s) : Leads s₀ (Machine.execWakePin n s) :=
  Leads.ite hs.setFbit.setFbit.fireWake.next hs.setFbit.next

theorem Tame.wakeReqEffect {m : Ident} {h : Half} {data : Word} (hs : Tame s₀ s) :
    Tame s₀ (Machine.wakeReqEffect m h data s) := by
  unfold Machine.wakeReqEffect
  dsimp only
  split
  · exact Tame.ite hs.setFld.fireWake hs
  · exact Tame.ite hs.setFld.fireWake hs
  · exact hs.violation

theorem Tame.execWakeReqWrite {m : Ident} {h : Half} {data : Word} (hs : Tame s₀ s) :
    Leads s₀ (Machine.execWakeReqWrite m h data s) := Tame.next (hs.regWrite (fun _ h0 => h0.wakeReqEffect))

theorem Tame.execRingEnergyWake (hs : Tame s₀ s) : Leads s₀ (Machine.execRingEnergyWake s) :=
  Leads.ite hs.setFld.fireWake.next hs.next

theorem Tame.execPerstRise (hs : Tame s₀ s) : Leads s₀ (Machine.execPerstRise s) :=
  Leads.ite (Tame.next (Tame.fireWake (Tame.setFld (Tame.ite hs.modPwr.emit hs)))) (Tame.next (Tame.ite hs.modPwr.emit hs))

end Sys2Proof.Machine
end

section
/-! SUPPORT. `Tame` through the functions of Machine/Tick. -/

set_option Elab.async false

namespace Sys2Proof.Machine

variable {s₀ s : State}

theorem Tame.modTck {f : TckState → TckState} (hs : Tame s₀ s) : Tame s₀ (s.modTck f) := hs.same

theorem Tame.armPeriod {n : Nat} {tick : Word} (hs : Tame s₀ s) : Tame s₀ (Machine.armPeriod n tick s) :=
  hs.setFld.setFld.modTck

theorem Tame.armEffect (hs : Tame s₀ s) : Tame s₀ (Machine.armEffect s) :=
  Tame.ite hs.setFld (Tame.ite hs.armPeriod hs.armPeriod)

theorem Tame.periodNextEffect {h : Half} {data : Word} (hs : Tame s₀ s) : Tame s₀ (Machine.periodNextEffect h data s) := by
  unfold Machine.periodNextEffect
  split
  · exact hs
  · dsimp only
    split
    · refine Tame.armEffect ?_
      split
      · exact Tame.ite (Tame.ite hs.setFld hs) (Tame.setFld (Tame.ite hs.setFld hs))
      · exact Tame.ite hs.setFld hs
    · split
      · exact Tame.ite (Tame.ite hs.setFld hs) (Tame.setFld (Tame.ite hs.setFld hs))
      · exact Tame.ite hs.setFld hs

theorem Tame.execTickPeriodArm {m : Ident} {h : Half} {data : Word} (hs : Tame s₀ s) :
    Leads s₀ (Machine.execTickPeriodArm m h data s) := Tame.next (hs.regWrite (fun _ h0 => h0.periodNextEffect))

theorem Tame.execTickPeriodCancel {m : Ident} {h : Half} {data : Word} (hs : Tame s₀ s) :
    Leads s₀ (Machine.execTickPeriodCancel m h data s) := Tame.next (hs.regWrite (fun _ h0 => h0.periodNextEffect))

theorem Tame.changeAtEffect {h : Half} {data : Word} (hs : Tame s₀ s) : Tame s₀ (Machine.changeAtEffect h data s) :=
  hs.plainWrite

theorem Tame.periodChange (hs : Tame s₀ s) : Tame s₀ (Machine.periodChange s) := Tame.ite hs.setFld.setPeriod hs

theorem Tame.execTickSetPeriod {p : Packet} (hs : Tame s₀ s) : Leads s₀ (Machine.execTickSetPeriod p s) :=
  Tame.next (hs.runCommand (fun _ h0 => Tame.ite h0.endCommand (Tame.ite h0.setFld.endCommand
      (Tame.ite h0.endCommand h0.setFld.armPeriod.endCommand))))

theorem Tame.syncSource (hs : Tame s₀ s) : Tame s₀ (Machine.syncSource s) := hs.setFld

theorem Tame.loseAlignment (hs : Tame s₀ s) : Tame s₀ (Machine.loseAlignment s) := by
  unfold Machine.loseAlignment
  exact Tame.modTck (Tame.setFld (Tame.ite hs.setFld hs))

theorem Tame.stopFollowing (hs : Tame s₀ s) : Tame s₀ (Machine.stopFollowing s) := hs.loseAlignment.setFld.modTck

theorem Tame.tckCtlEffect {h : Half} {data : Word} (hs : Tame s₀ s) : Tame s₀ (Machine.tckCtlEffect h data s) :=
  Tame.syncSource (Tame.ite (Tame.stopFollowing (Tame.ite hs.plainWrite.setFld hs.plainWrite))
      (Tame.ite hs.plainWrite.setFld hs.plainWrite))

theorem Tame.startFollowing (hs : Tame s₀ s) : Tame s₀ (Machine.startFollowing s) := hs.setFld.modTck

theorem Tame.followMarker {mk : Marker} (hs : Tame s₀ s) : Tame s₀ (Machine.followMarker mk s) :=
  Tame.ite hs.modTck.syncSource (Tame.syncSource (Tame.startFollowing (Tame.ite hs.modTck.setFld.raise hs.modTck)))

theorem Tame.syncUpstream (hs : Tame s₀ s) : Tame s₀ (Machine.syncUpstream s) := by
  unfold Machine.syncUpstream
  split
  · exact hs.setFld.setFld.modTck
  · exact hs

theorem Tame.forgetMarkers {p : Nat} (hs : Tame s₀ s) : Tame s₀ (Machine.forgetMarkers p s) := hs.modTck

theorem Tame.measured (hs : Tame s₀ s) : Tame s₀ (Machine.measured s) := Tame.ite hs hs.draw.setFld.setFld

theorem Tame.alignmentLoad {mk : Marker} {t : TickStamp} (hs : Tame s₀ s) : Tame s₀ (Machine.alignmentLoad mk t s) := by
  unfold Machine.alignmentLoad
  dsimp only
  split
  · exact hs.setPeriod.setReg.setReg.setFld.setFld.modTck.modTck.endCommand
  · exact hs.setPeriod.setReg.setReg.setFld.setFld.modTck

theorem Tame.trackMarker {err : Int} (hs : Tame s₀ s) : Tame s₀ (Machine.trackMarker err s) :=
  Tame.ite hs.draw.setFld.setFld.setFld.modTck.setFld.measured.sendReady hs.draw.setFld.setFld.setFld.modTck

theorem Tame.auditMarker {mk : Marker} {own : Int} (hs : Tame s₀ s) : Tame s₀ (Machine.auditMarker mk own s) :=
  Tame.ite hs hs.addFld.setFld.raise

theorem Tame.armFromMarker {mk : Marker} (hs : Tame s₀ s) : Tame s₀ (Machine.armFromMarker mk s) :=
  Tame.ite (Tame.ite hs (Tame.ite hs (Tame.ite hs.setFld hs.setFld.armPeriod))) (Tame.ite hs.setFld hs)

theorem Tame.followerMarker {mk : Marker} (hs : Tame s₀ s) : Tame s₀ (Machine.followerMarker mk s) := by
  unfold Machine.followerMarker
  dsimp only
  split
  · exact Tame.ite hs.setFld.modTck hs
  · exact Tame.ite (Tame.armFromMarker (Tame.alignmentLoad (Tame.ite hs.setFld.modTck hs))) (Tame.ite (Tame.auditMarker
        (Tame.ite hs.setFld.modTck hs)) (Tame.ite (Tame.startAlign (Tame.setFld (Tame.auditMarker
        (Tame.ite hs.setFld.modTck hs)))) (Tame.armFromMarker (Tame.ite (Tame.trackMarker (Tame.auditMarker
        (Tame.ite hs.setFld.modTck hs))) (Tame.auditMarker (Tame.ite hs.setFld.modTck hs))))))

theorem Tame.execMarkerFrame {mk : Marker} (hs : Tame s₀ s) : Leads s₀ (Machine.execMarkerFrame mk s) :=
  Leads.ite hs.next (Leads.ite hs.frameIn.next
      (Leads.ite hs.frameIn.followMarker.syncUpstream.followerMarker.next hs.frameIn.followMarker.syncUpstream.next))

theorem Tame.execHoldover (hs : Tame s₀ s) : Leads s₀ (Machine.execHoldover s) := by
  unfold Machine.execHoldover
  split
  · exact hs.setFld.forgetMarkers.next
  · split
    · exact hs.forgetMarkers.syncSource.next
    · exact hs.next

theorem Tame.execHoldoverExpire (hs : Tame s₀ s) : Leads s₀ (Machine.execHoldoverExpire s) :=
  Leads.ite hs.next hs.loseAlignment.setFld.setFld.modTck.modTck.syncSource.raise.next

theorem Tame.execTimeAlign {p : Packet} (hs : Tame s₀ s) : Leads s₀ (Machine.execTimeAlign p s) :=
  Tame.next (hs.runCommand (fun _ h0 => Tame.ite h0.endCommand h0.startAlign.modTck))

theorem Tame.execTimeAlignTimeout (hs : Tame s₀ s) : Leads s₀ (Machine.execTimeAlignTimeout s) := by
  unfold Machine.execTimeAlignTimeout
  split
  · exact hs.modTck.endCommand.next
  · exact hs.next

theorem Tame.sendMarker {p : Nat} (hs : Tame s₀ s) : Tame s₀ (Machine.sendMarker s p) := Tame.ite hs hs.draw.emit.sendFrame

theorem Tame.ptmBegin {f : Nat} {cmd : Option Packet} (hs : Tame s₀ s) : Tame s₀ (Machine.ptmBegin f cmd s) := hs.modTck.emit

theorem Tame.execTimePtm {p : Packet} (hs : Tame s₀ s) : Leads s₀ (Machine.execTimePtm p s) :=
  Tame.next (hs.runCommand (fun _ h0 => Tame.ite h0.endCommand h0.ptmBegin))

theorem Tame.execPtmIntervalExpire (hs : Tame s₀ s) : Leads s₀ (Machine.execPtmIntervalExpire s) :=
  Leads.ite hs.ptmBegin.next hs.next

theorem Tame.execPtmResponse {hostNs : Word} {ago : Nat} (hs : Tame s₀ s) :
    Leads s₀ (Machine.execPtmResponse hostNs ago s) := by
  unfold Machine.execPtmResponse
  split
  · exact hs.next
  · dsimp only
    split
    · exact hs.setReg.setReg.measured.modTck.endCommand.next
    · exact hs.setReg.setReg.measured.modTck.next

theorem Tame.execPtmTimeout (hs : Tame s₀ s) : Leads s₀ (Machine.execPtmTimeout s) := by
  unfold Machine.execPtmTimeout
  split
  · exact hs.next
  · dsimp only
    split
    · exact hs.modTck.endCommand.next
    · exact hs.modTck.next

theorem Tame.execAonCalibration {rootCycles : Nat} (hs : Tame s₀ s) : Leads s₀ (Machine.execAonCalibration rootCycles s) :=
  Leads.ite hs.next hs.setFld.next

theorem Tame.countReadEffect {m : Ident} (hs : Tame s₀ s) : Tame s₀ (Machine.countReadEffect m s) := by
  unfold Machine.countReadEffect
  dsimp only
  refine Tame.emit ?_
  split
  · exact hs.setMfld.setMfld
  · exact hs

theorem Tame.execTckCountRead {m : Ident} (hs : Tame s₀ s) : Leads s₀ (Machine.execTckCountRead m s) :=
  Tame.next (hs.readFront (fun _ h0 => h0.countReadEffect))

theorem Tame.halfReadEffect {m : Ident} {time : Bool} {h : Half} (hs : Tame s₀ s) :
    Tame s₀ (Machine.halfReadEffect m time h s) := by
  unfold Machine.halfReadEffect
  dsimp only
  split
  · exact hs.emit
  · refine Tame.emit ?_
    split
    · exact hs.modTck
    · exact hs
  · split
    · exact hs.modTck.emit
    · exact hs.emit

theorem Tame.execHalfCaptureRead {m : Ident} {time : Bool} {h : Half} (hs : Tame s₀ s) :
    Leads s₀ (Machine.execHalfCaptureRead m time h s) := Tame.next (hs.readFront (fun _ h0 => h0.halfReadEffect))

end Sys2Proof.Machine
end

section
/-! SUPPORT. `Tame` through the functions of Machine/Boundary. -/

set_option Elab.async false

namespace Sys2Proof.Machine

variable {s₀ s : State}

theorem Tame.boundaryAudits (hs : Tame s₀ s) : Tame s₀ (Machine.boundaryAudits s) :=
  hs.contextAudits.creditAudit.mailboxAudit.dmaAudit.dramAudit

theorem Tame.countMarkers (hs : Tame s₀ s) : Tame s₀ (Machine.countMarkers s) := by
  unfold Machine.countMarkers
  exact (Tame.ite hs.addFld hs).modTck

theorem Tame.growUncertainty {k : Nat} (hs : Tame s₀ s) : Tame s₀ (Machine.growUncertainty k s) :=
  Tame.ite hs (Tame.modTck (Tame.ite hs hs.addFld))

theorem Tame.countAlwaysOn {k : Nat} (hs : Tame s₀ s) : Tame s₀ (Machine.countAlwaysOn k s) := by
  unfold Machine.countAlwaysOn
  exact (Tame.ite hs hs.addFld).modTck

theorem Tame.countLease {k : Nat} (hs : Tame s₀ s) : Tame s₀ (Machine.countLease k s) := by
  unfold Machine.countLease
  exact (Tame.ite hs hs.setFld).modTck

theorem Tame.passTime {k : Nat} (hs : Tame s₀ s) : Tame s₀ (Machine.passTime k s) :=
  hs.passFabric.growUncertainty.countAlwaysOn.countLease.addFld

theorem Tame.tickPulse (hs : Tame s₀ s) : Tame s₀ (Machine.tickPulse s) :=
  Tame.ite hs.passTime.addFld.modTck.same.setFld.emberCheck hs.passTime.addFld.modTck.same

theorem Tame.groupAtBoundary {g : Nat} (hs : Tame s₀ s) : Tame s₀ (Machine.groupAtBoundary s g) :=
  Tame.streamAtBoundary (Tame.ite hs.modeAtBoundary.periodAtBoundary.loadEdges hs.modeAtBoundary.periodAtBoundary)

theorem Tame.boundaryChanges (hs : Tame s₀ s) : Tame s₀ (Machine.boundaryChanges s) :=
  Tame.foldl (Tame.powerAtBoundary (Tame.foldl
      (hs.periodChange.epochAtBoundary.loadAtBoundary.startAtBoundary.dampersAtBoundary.foldl fun _ _ h0 =>
      h0.dramAtBoundary) fun _ _ h0 => h0.fclkAtBoundary)) fun _ _ h0 => h0.groupAtBoundary

theorem Tame.noteLateTick (hs : Tame s₀ s) : Tame s₀ (Machine.noteLateTick s) := by
  unfold Machine.noteLateTick
  exact (Tame.ite hs.addFld.setFld hs).modTck

theorem Tame.boundaryWork {balls : List (Nat × Int)} (hs : Tame s₀ s) : Tame s₀ (Machine.boundaryWork balls s) :=
  Tame.sendReady (Tame.foldl (Tame.syncSource (Tame.foldl (Tame.calAtBoundary (Tame.admitTick (Tame.noteLateTick
      (hs.foldl fun _ _ h0 => h0.frameAtBoundary)))) fun _ _ h0 => h0.tdrBoundary)) fun _ _ h0 => h0.sendMarker)

theorem Tame.execTickBoundary {balls : List (Nat × Int)} (hs : Tame s₀ s) : Leads s₀ (Machine.execTickBoundary balls s) :=
  Leads.ite hs.next hs.boundaryAudits.publishVisits.countMarkers.tickPulse.boundaryChanges.boundaryWork.next

theorem Tame.idleCycle (hs : Tame s₀ s) : Tame s₀ (Machine.idleCycle s) :=
  Tame.ite (Tame.ite (hs.passTime.modTck.foldl fun _ _ h0 => h0.tdrFall) hs.passTime.modTck) hs

end Sys2Proof.Machine
end

section
/-! SUPPORT. `Tame` through the functions of Machine/Serial. -/

set_option Elab.async false

namespace Sys2Proof.Machine

variable {s₀ s : State}

theorem Tame.syncPort {n : Nat} (hs : Tame s₀ s) : Tame s₀ (Machine.syncPort n s) := hs.setFld.setFld

theorem Tame.modSer {n : Nat} {f : SerPort → SerPort} (hs : Tame s₀ s) : Tame s₀ (s.modSer n f) := hs.same.syncPort

theorem Tame.serFront {m : Ident} {n off : Nat} {w : Half} {eff : State → State} (hs : Tame s₀ s)
    (he : ∀ t, Tame s₀ t → Tame s₀ (eff t)) : Tame s₀ (Machine.serFront m n off w eff s) :=
  hs.writeFront fun t ht => Tame.ite (he t ht) ht.violation

theorem Tame.serCtlEffect {n : Nat} {h : Half} {data : Word} (hs : Tame s₀ s) : Tame s₀ (Machine.serCtlEffect n h data s) :=
  Tame.ite hs (Tame.ite hs.setReg hs.setReg.modSer)

theorem Tame.execSerModeWrite {m : Ident} {n : Fin 16} {h : Half} {data : Word} (hs : Tame s₀ s) :
    Leads s₀ (Machine.execSerModeWrite m n h data s) := Tame.next (hs.serFront (fun _ h0 => h0.serCtlEffect))

theorem Tame.execSerModeApply {n : Fin 16} (hs : Tame s₀ s) : Leads s₀ (Machine.execSerModeApply n s) := by
  unfold Machine.execSerModeApply
  split
  · exact hs.next
  · exact hs.setFld.setFld.setFld.setFld.modSer.next

theorem Tame.serReceive {n : Nat} {x : SerEntry} (hs : Tame s₀ s) : Tame s₀ (Machine.serReceive n x s) :=
  Tame.ite hs.setFld hs.modSer

theorem Tame.canEntry {n : Nat} {x : SerEntry} (hs : Tame s₀ s) : Tame s₀ (Machine.canEntry n x s) :=
  Tame.ite hs.modSer (Tame.ite hs.modSer.setFld (Tame.ite hs.modSer.setFld hs.modSer.modSer))

theorem Tame.serTxEffect {n : Nat} {h : Half} {data : Word} (hs : Tame s₀ s) : Tame s₀ (Machine.serTxEffect n h data s) :=
  Tame.ite hs (Tame.ite hs.canEntry (Tame.ite hs.setFld hs.modSer))

theorem Tame.execSerTxWrite {m : Ident} {n : Fin 16} {h : Half} {data : Word} (hs : Tame s₀ s) :
    Leads s₀ (Machine.execSerTxWrite m n h data s) := Tame.next (hs.serFront (fun _ h0 => h0.serTxEffect))

theorem Tame.serRxEffect {m : Ident} {n : Nat} {h : Half} (hs : Tame s₀ s) : Tame s₀ (Machine.serRxEffect m n h s) := by
  unfold Machine.serRxEffect
  dsimp only
  split
  · split
    · exact hs.emit
    · exact Tame.ite hs.emit.modSer hs.emit.modSer
  · split
    · exact hs.emit
    · exact hs.emit.modSer

theorem Tame.execSerRxRead {m : Ident} {n : Fin 16} {h : Half} (hs : Tame s₀ s) : Leads s₀ (Machine.execSerRxRead m n h s) :=
  Tame.next (hs.readFront (fun _ h0 => h0.serRxEffect))

theorem Tame.execUartFrameReceive {n : Fin 16} {line : List (Bool × Bool × Bool)} {low : Nat} (hs : Tame s₀ s) :
    Leads s₀ (Machine.execUartFrameReceive n line low s) := Leads.ite hs.next
        (Leads.ite hs.serReceive.next hs.serReceive.next)

theorem Tame.execUartFrameSend {n : Fin 16} {cts : Bool} (hs : Tame s₀ s) : Leads s₀ (Machine.execUartFrameSend n cts s) := by
  unfold Machine.execUartFrameSend
  split
  · exact Leads.ite hs.next hs.emit.modSer.next
  · exact hs.next

theorem Tame.execSpiTransfer {n : Fin 16} {input : BitVec 32} (hs : Tame s₀ s) :
    Leads s₀ (Machine.execSpiTransfer n input s) := by
  unfold Machine.execSpiTransfer
  dsimp only
  split
  · exact hs.emit.modSer.serReceive.next
  · exact hs.emit.modSer.serReceive.next
  · exact hs.emit.setFld.modSer.serReceive.next
  · exact hs.next

theorem Tame.execI2cTransfer {n : Fin 16} {addr sent : Nat} {received : List (BitVec 8)} {last : I2cEnd} (hs : Tame s₀ s) :
    Leads s₀ (Machine.execI2cTransfer n addr sent received last s) := by
  unfold Machine.execI2cTransfer
  split
  · exact hs.next
  · dsimp only
    split
    · exact Tame.next (hs.emit.modSer.foldl fun _ _ h1 => h1.serReceive)
    · exact Tame.next (Tame.ite (Tame.setFld (hs.emit.modSer.foldl fun _ _ h1 => h1.serReceive))
          (hs.emit.modSer.foldl fun _ _ h1 => h1.serReceive))
    · exact Tame.next (Tame.ite (Tame.setFld (hs.emit.modSer.foldl fun _ _ h1 => h1.serReceive))
          (hs.emit.modSer.foldl fun _ _ h1 => h1.serReceive))

theorem Tame.canRecover {n recessive : Nat} (hs : Tame s₀ s) : Tame s₀ (Machine.canRecover n recessive s) :=
  Tame.ite hs.setFld.setFld.setFld hs

theorem Tame.canKeep {n : Nat} {header time : Word} {body : List Word} (hs : Tame s₀ s) :
    Tame s₀ (Machine.canKeep n header time body s) := by
  unfold Machine.canKeep
  split
  · exact hs
  · exact Tame.ite hs.setFld hs.modSer

theorem Tame.execCanFrameReceive {n : Fin 16} {header : Word} {age : Nat} {body : List Word} {recessive : Nat} {fault :
    CanFault} (hs : Tame s₀ s) :
    Leads s₀ (Machine.execCanFrameReceive n header age body recessive fault s) :=
    Leads.ite hs.next (Leads.ite hs.canRecover.next (Leads.ite hs.canRecover.setFld.next hs.canRecover.setFld.canKeep.next))

theorem Tame.canSendError {n : Nat} (hs : Tame s₀ s) : Tame s₀ (Machine.canSendError n s) :=
  Tame.ite hs.setFld.setFld hs.setFld

theorem Tame.execCanFrameSend {n : Fin 16} {recessive : Nat} {last : CanEnd} (hs : Tame s₀ s) :
    Leads s₀ (Machine.execCanFrameSend n recessive last s) := by
  unfold Machine.execCanFrameSend
  split
  · exact hs.next
  · dsimp only
    split
    · exact hs.canRecover.next
    · split
      · exact hs.canRecover.next
      · split
        · exact hs.canRecover.emit.setFld.modSer.next
        · exact hs.canRecover.next
        · exact Tame.next (Tame.ite hs.canRecover hs.canRecover.canSendError)
        · exact hs.canRecover.canSendError.next

end Sys2Proof.Machine
end

section
/-! SUPPORT. `Tame` through the functions of Machine/SgeInstr. -/

set_option Elab.async false

namespace Sys2Proof.Machine

variable {s₀ s : State}

theorem Tame.arithRes {e rd : Nat} {sources : List Nat} {f : (Nat → Int) → Int} (hs : Tame s₀ s) :
    SgeRes.Keeps s₀ (Machine.arithRes e rd sources f s) := by
  unfold Machine.arithRes
  split
  · exact trivial
  · exact hs.setBank

theorem Tame.execNop {e : Fin 32} (hs : Tame s₀ s) : Leads s₀ (Machine.execNop e s) := Tame.next (hs.issue (fun _ _ h0 => h0))

theorem Tame.execAdd {e : Fin 32} (hs : Tame s₀ s) : Leads s₀ (Machine.execAdd e s) :=
  Tame.next (hs.issue (fun _ _ h0 => h0.arithRes))

theorem Tame.execSub {e : Fin 32} (hs : Tame s₀ s) : Leads s₀ (Machine.execSub e s) :=
  Tame.next (hs.issue (fun _ _ h0 => h0.arithRes))

theorem Tame.logicRes {e : Nat} {w : BitVec 32} {f : BitVec 24 → BitVec 24 → BitVec 24} (hs : Tame s₀ s) :
    SgeRes.Keeps s₀ (Machine.logicRes e w f s) := by
  unfold Machine.logicRes
  split
  · exact hs.setBank
  · exact trivial

theorem Tame.execAnd {e : Fin 32} (hs : Tame s₀ s) : Leads s₀ (Machine.execAnd e s) :=
  Tame.next (hs.issue (fun _ _ h0 => h0.logicRes))

theorem Tame.execOr {e : Fin 32} (hs : Tame s₀ s) : Leads s₀ (Machine.execOr e s) :=
  Tame.next (hs.issue (fun _ _ h0 => h0.logicRes))

theorem Tame.execXor {e : Fin 32} (hs : Tame s₀ s) : Leads s₀ (Machine.execXor e s) :=
  Tame.next (hs.issue (fun _ _ h0 => h0.logicRes))

theorem Tame.execAsh {e : Fin 32} (hs : Tame s₀ s) : Leads s₀ (Machine.execAsh e s) :=
  Tame.next (hs.issue (fun _ _ h0 => h0.arithRes))

theorem Tame.execAbs {e : Fin 32} (hs : Tame s₀ s) : Leads s₀ (Machine.execAbs e s) :=
  Tame.next (hs.issue (fun _ _ h0 => h0.arithRes))

theorem Tame.cmpRes {e : Nat} {w : BitVec 32} (hs : Tame s₀ s) : SgeRes.Keeps s₀ (Machine.cmpRes e w s) := by
  unfold Machine.cmpRes
  dsimp only
  split
  · exact trivial
  · exact hs.setBank

theorem Tame.execCmp {e : Fin 32} (hs : Tame s₀ s) : Leads s₀ (Machine.execCmp e s) :=
  Tame.next (hs.issue (fun _ _ h0 => h0.cmpRes))

theorem Tame.execAddi {e : Fin 32} (hs : Tame s₀ s) : Leads s₀ (Machine.execAddi e s) :=
  Tame.next (hs.issue (fun _ _ h0 => h0.arithRes))

theorem Tame.moviRes {e : Nat} {w : BitVec 32} (hs : Tame s₀ s) : SgeRes.Keeps s₀ (Machine.moviRes e w s) := by
  unfold Machine.moviRes
  dsimp only
  split
  · exact trivial
  · split
    · exact hs.setBank
    · exact hs.setBank
    · exact hs.setBank

theorem Tame.execMovi {e : Fin 32} (hs : Tame s₀ s) : Leads s₀ (Machine.execMovi e s) :=
  Tame.next (hs.issue (fun _ _ h0 => h0.moviRes))

theorem Tame.luiRes {e : Nat} {w : BitVec 32} (hs : Tame s₀ s) : SgeRes.Keeps s₀ (Machine.luiRes e w s) := by
  unfold Machine.luiRes
  split
  · exact trivial
  · exact hs.setBank

theorem Tame.execLui {e : Fin 32} (hs : Tame s₀ s) : Leads s₀ (Machine.execLui e s) :=
  Tame.next (hs.issue (fun _ _ h0 => h0.luiRes))

theorem Tame.multRes {e : Nat} {w : BitVec 32} {keep sub : Bool} (hs : Tame s₀ s) :
    SgeRes.Keeps s₀ (Machine.multRes e w keep sub s) := by
  unfold Machine.multRes
  dsimp only
  split
  · exact hs.setBank
  · exact trivial

theorem Tame.execMpy {e : Fin 32} (hs : Tame s₀ s) : Leads s₀ (Machine.execMpy e s) :=
  Tame.next (hs.issue (fun _ _ h0 => h0.multRes))

theorem Tame.execMac {e : Fin 32} (hs : Tame s₀ s) : Leads s₀ (Machine.execMac e s) :=
  Tame.next (hs.issue (fun _ _ h0 => h0.multRes))

theorem Tame.execMsu {e : Fin 32} (hs : Tame s₀ s) : Leads s₀ (Machine.execMsu e s) :=
  Tame.next (hs.issue (fun _ _ h0 => h0.multRes))

theorem Tame.rndRes {e : Nat} {w : BitVec 32} (hs : Tame s₀ s) : SgeRes.Keeps s₀ (Machine.rndRes e w s) := by
  unfold Machine.rndRes
  dsimp only
  split
  · exact hs.setBank
  · exact trivial

theorem Tame.execRnd {e : Fin 32} (hs : Tame s₀ s) : Leads s₀ (Machine.execRnd e s) :=
  Tame.next (hs.issue (fun _ _ h0 => h0.rndRes))

theorem Tame.laneProducts {e : Nat} {w : BitVec 32} (hs : Tame s₀ s) : Tame s₀ (Machine.laneProducts e w s).2.2 :=
  hs.loadWords.loadWords

theorem Tame.mac4sRes {e : Nat} {w : BitVec 32} (hs : Tame s₀ s) : SgeRes.Keeps s₀ (Machine.mac4sRes e w s) := by
  unfold Machine.mac4sRes
  split
  · exact trivial
  · dsimp only
    split
    next e0 => exact (hs.laneProducts.of_thd e0)
    next e0 => exact Tame.setBank ((hs.laneProducts.of_thd e0))

theorem Tame.execMac4s {e : Fin 32} (hs : Tame s₀ s) : Leads s₀ (Machine.execMac4s e s) :=
  Tame.next (hs.issue (fun _ _ h0 => h0.mac4sRes))

theorem Tame.mac4vRes {e : Nat} {w : BitVec 32} (hs : Tame s₀ s) : SgeRes.Keeps s₀ (Machine.mac4vRes e w s) := by
  unfold Machine.mac4vRes
  split
  · exact trivial
  · dsimp only
    split
    next e0 => exact (hs.laneProducts.of_thd e0)
    next e0 => exact Tame.setBank (Tame.draw ((hs.laneProducts.of_thd e0)))

theorem Tame.execMac4v {e : Fin 32} (hs : Tame s₀ s) : Leads s₀ (Machine.execMac4v e s) :=
  Tame.next (hs.issue (fun _ _ h0 => h0.mac4vRes))

theorem Tame.ldRes {e : Nat} {w : BitVec 32} (hs : Tame s₀ s) : SgeRes.Keeps s₀ (Machine.ldRes e w s) := by
  unfold Machine.ldRes
  split
  · exact trivial
  · dsimp only
    split
    · exact hs
    next e0 => exact Tame.setBank ((hs.loadWord e0))

theorem Tame.execLd {e : Fin 32} (hs : Tame s₀ s) : Leads s₀ (Machine.execLd e s) :=
  Tame.next (hs.issue (fun _ _ h0 => h0.ldRes))

theorem Tame.stRes {e : Nat} {w : BitVec 32} (hs : Tame s₀ s) : SgeRes.Keeps s₀ (Machine.stRes e w s) := by
  unfold Machine.stRes
  split
  · exact trivial
  · dsimp only
    split
    · exact hs
    next e0 => exact Tame.setBank ((hs.storeWord e0))

theorem Tame.execSt {e : Fin 32} (hs : Tame s₀ s) : Leads s₀ (Machine.execSt e s) :=
  Tame.next (hs.issue (fun _ _ h0 => h0.stRes))

theorem Tame.ld2Res {e : Nat} {w : BitVec 32} (hs : Tame s₀ s) : SgeRes.Keeps s₀ (Machine.ld2Res e w s) := by
  unfold Machine.ld2Res
  dsimp only
  split
  · exact trivial
  · split
    · exact hs
    next e0 => exact Tame.setBank ((hs.readMended e0))

theorem Tame.execLd2 {e : Fin 32} (hs : Tame s₀ s) : Leads s₀ (Machine.execLd2 e s) :=
  Tame.next (hs.issue (fun _ _ h0 => h0.ld2Res))

theorem Tame.st2Res {e : Nat} {w : BitVec 32} (hs : Tame s₀ s) : SgeRes.Keeps s₀ (Machine.st2Res e w s) := by
  unfold Machine.st2Res
  dsimp only
  split
  · exact trivial
  · exact hs.writeP.setBank

theorem Tame.execSt2 {e : Fin 32} (hs : Tame s₀ s) : Leads s₀ (Machine.execSt2 e s) :=
  Tame.next (hs.issue (fun _ _ h0 => h0.st2Res))

theorem Tame.strRes {e : Nat} {w : BitVec 32} (hs : Tame s₀ s) : SgeRes.Keeps s₀ (Machine.strRes e w s) := by
  unfold Machine.strRes
  split
  · exact trivial
  · dsimp only
    split
    · exact hs
    next e0 => exact Tame.setBank ((hs.storeWord e0))

theorem Tame.execStr {e : Fin 32} (hs : Tame s₀ s) : Leads s₀ (Machine.execStr e s) :=
  Tame.next (hs.issue (fun _ _ h0 => h0.strRes))

theorem Tame.modpRes {e : Nat} {w : BitVec 32} (hs : Tame s₀ s) : SgeRes.Keeps s₀ (Machine.modpRes e w s) := by
  unfold Machine.modpRes
  split
  · exact trivial
  · exact hs.setBank

theorem Tame.execModp {e : Fin 32} (hs : Tame s₀ s) : Leads s₀ (Machine.execModp e s) :=
  Tame.next (hs.issue (fun _ _ h0 => h0.modpRes))

theorem Tame.brRes {e : Nat} {w : BitVec 32} (hs : Tame s₀ s) : SgeRes.Keeps s₀ (Machine.brRes e w s) := by
  unfold Machine.brRes
  split
  · exact trivial
  · exact hs
  · exact hs

theorem Tame.execBr {e : Fin 32} (hs : Tame s₀ s) : Leads s₀ (Machine.execBr e s) :=
  Tame.next (hs.issue (fun _ _ h0 => h0.brRes))

theorem Tame.callRes {e : Nat} {w : BitVec 32} (hs : Tame s₀ s) : SgeRes.Keeps s₀ (Machine.callRes e w s) := by
  unfold Machine.callRes
  dsimp only
  split
  · exact trivial
  · split
    · exact trivial
    · exact hs.setBank

theorem Tame.execCall {e : Fin 32} (hs : Tame s₀ s) : Leads s₀ (Machine.execCall e s) :=
  Tame.next (hs.issue (fun _ _ h0 => h0.callRes))

theorem Tame.retRes {e : Nat} (hs : Tame s₀ s) : SgeRes.Keeps s₀ (Machine.retRes e s) := by
  unfold Machine.retRes
  dsimp only
  split
  · exact trivial
  · exact hs.setBank

theorem Tame.execRet {e : Fin 32} (hs : Tame s₀ s) : Leads s₀ (Machine.execRet e s) :=
  Tame.next (hs.issue (fun _ _ h0 => h0.retRes))

theorem Tame.loopRes {e count stop : Nat} {uses : List Nat} (hs : Tame s₀ s) :
    SgeRes.Keeps s₀ (Machine.loopRes e count stop uses s) := by
  unfold Machine.loopRes
  dsimp only
  split
  · exact trivial
  · split
    · exact hs
    · split
      · exact trivial
      · exact Tame.ite hs.setBank.modEng hs.setBank

theorem Tame.loopRegRes {e : Nat} {w : BitVec 32} (hs : Tame s₀ s) : SgeRes.Keeps s₀ (Machine.loopRegRes e w s) := by
  unfold Machine.loopRegRes
  split
  · exact hs.loopRes
  · exact trivial

theorem Tame.execLoop {e : Fin 32} (hs : Tame s₀ s) : Leads s₀ (Machine.execLoop e s) :=
  Tame.next (hs.issue (fun _ _ h0 => h0.loopRegRes))

theorem Tame.execLoopi {e : Fin 32} (hs : Tame s₀ s) : Leads s₀ (Machine.execLoopi e s) :=
  Tame.next (hs.issue (fun _ _ h0 => h0.loopRes))

theorem Tame.execEndl {e : Fin 32} (hs : Tame s₀ s) : Leads s₀ (Machine.execEndl e s) :=
  Tame.next (hs.issue (fun _ _ h0 => h0.setBank))

theorem Tame.dmaRes {e : Nat} {w : BitVec 32} (hs : Tame s₀ s) : SgeRes.Keeps s₀ (Machine.dmaRes e w s) := by
  unfold Machine.dmaRes
  dsimp only
  split
  · exact trivial
  · split
    · exact trivial
    · refine Tame.dmaSend ?_
      refine Tame.setDstat ?_
      split
      · exact hs
      · exact hs.draw

theorem Tame.execDma {e : Fin 32} (hs : Tame s₀ s) : Leads s₀ (Machine.execDma e s) :=
  Tame.next (hs.issue (fun _ _ h0 => h0.dmaRes))

theorem Tame.waitdRes {e : Nat} (hs : Tame s₀ s) : SgeRes.Keeps s₀ (Machine.waitdRes e s) := by
  unfold Machine.waitdRes
  split
  · exact trivial
  · split
    · exact trivial
    · exact hs

theorem Tame.execWaitd {e : Fin 32} (hs : Tame s₀ s) : Leads s₀ (Machine.execWaitd e s) :=
  Tame.next (hs.issue (fun _ _ h0 => h0.waitdRes))

theorem Tame.specRead {e i : Nat} (hs : Tame s₀ s) : Tame s₀ (Machine.specRead e i s).2 := by
  unfold Machine.specRead
  dsimp only
  split
  · exact hs
  · split
    · exact hs
    · split
      · exact hs
      · split
        · exact hs
        · split
          · exact hs
          · split
            · exact hs.draw
            · split
              · exact hs
              · split
                · exact hs
                · exact hs

theorem Tame.movsRes {e : Nat} {w : BitVec 32} (hs : Tame s₀ s) : SgeRes.Keeps s₀ (Machine.movsRes e w s) := by
  unfold Machine.movsRes
  dsimp only
  split
  · split
    · exact trivial
    · split
      · exact trivial
      · exact hs.setBank
  · exact hs.specRead.setBank

theorem Tame.execMovs {e : Fin 32} (hs : Tame s₀ s) : Leads s₀ (Machine.execMovs e s) :=
  Tame.next (hs.issue (fun _ _ h0 => h0.movsRes))

theorem Tame.endRes {e : Nat} {w : BitVec 32} (hs : Tame s₀ s) : SgeRes.Keeps s₀ (Machine.endRes e w s) := by
  unfold Machine.endRes
  dsimp only
  split
  · exact trivial
  · split
    · exact trivial
    · split
      · exact hs.countCycles.endFrame
      · split
        · exact hs.countCycles.endAction
        · exact hs.countCycles.endAction

theorem Tame.execEndJob {e : Fin 32} (hs : Tame s₀ s) : Leads s₀ (Machine.execEndJob e s) :=
  Tame.next (hs.issue (fun _ _ h0 => h0.endRes))

theorem Tame.execRti {e : Fin 32} (hs : Tame s₀ s) : Leads s₀ (Machine.execRti e s) :=
  Tame.next (hs.issue (fun _ _ h0 => h0.setBank))

theorem Tame.execTrap {e : Fin 32} (hs : Tame s₀ s) : Leads s₀ (Machine.execTrap e s) :=
  Tame.next (hs.issue (fun _ _ _ => trivial))

end Sys2Proof.Machine
end

section
/-! SUPPORT. `Tame` through the functions of Machine/Access. -/

set_option Elab.async false

namespace Sys2Proof.Machine

variable {s₀ s : State}

theorem Tame.storeEffect {r : RegName} {ix : List Nat} {m : Ident} {h : Half} {data : Word} (hs : Tame s₀ s) :
    Tame s₀ (Machine.storeEffect r ix m h data s) := by
  unfold Machine.storeEffect
  split
  · exact hs.plainWrite
  · exact hs

theorem Tame.storeIf {good : Word → Bool} {r : RegName} {ix : List Nat} {m : Ident} {h : Half} {data : Word}
    (hs : Tame s₀ s) :
    Tame s₀ (Machine.storeIf good r ix m h data s) := Tame.ite hs.storeEffect hs

theorem Tame.serGuard {m : Ident} {n off : Nat} {eff : State → State} (hs : Tame s₀ s)
    (he : ∀ t, Tame s₀ t → Tame s₀ (eff t)) : Tame s₀ (Machine.serGuard m n off eff s) := Tame.ite (he _ hs) hs.violation

theorem Tame.bumpCalAddr {g : Nat} {h : Half} (hs : Tame s₀ s) : Tame s₀ (Machine.bumpCalAddr g h s) := Tame.ite hs.addFld hs

theorem Tame.calDataWrite {g : Nat} {h : Half} {data : Word} (hs : Tame s₀ s) : Tame s₀ (Machine.calDataWrite g h data s) :=
  Tame.bumpCalAddr (Tame.ite hs.putImage hs)

theorem Tame.clkCtlEffect {h : Half} {data : Word} (hs : Tame s₀ s) : Tame s₀ (Machine.clkCtlEffect h data s) :=
  Tame.ite hs.plainWrite.restKindling hs.plainWrite

theorem Tame.quadEffect {q : Nat} {h : Half} {data : Word} (hs : Tame s₀ s) : Tame s₀ (Machine.quadEffect q h data s) :=
  Tame.ite hs hs.setQuadRate

theorem Tame.regEffect {r : RegName} {ix : List Nat} {m : Ident} {h : Half} {data : Word} (hs : Tame s₀ s) :
    Tame s₀ (Machine.regEffect r ix m h data s) := by
  unfold Machine.regEffect
  dsimp only
  split
  · exact hs.tckCtlEffect
  · exact hs.periodNextEffect
  · exact hs.changeAtEffect
  · exact hs.storeEffect.syncCable
  · exact hs.domainCfgEffect
  · exact hs.engCtlEffect
  · exact hs.ringCfgEffect
  · exact hs.ringRdEffect
  · exact hs.modeEffect
  · exact hs.safeStateEffect
  · exact hs.levelEffect
  · exact hs.periodEffect
  · exact hs.vecWriteEffect
  · exact hs.streamCtlEffect
  · exact hs.edgesEffect
  · exact hs.deskewEffect
  · exact hs.storeIf
  · exact hs.calDataWrite
  · exact hs.sgeCtlEffect
  · exact hs.storeIf
  · exact hs.portWrite
  · exact hs.fclkEffect
  · exact hs.uoscEffect
  · exact hs.nvaWriteEffect
  · exact hs.serGuard (fun _ h1 => h1.serCtlEffect)
  · exact hs.serGuard (fun _ h1 => h1.serTxEffect)
  · exact hs.serGuard (fun _ h1 => h1.storeEffect)
  · exact hs.serGuard (fun _ h1 => h1.storeEffect)
  · exact hs.serGuard (fun _ h1 => h1.storeEffect)
  · exact hs.storeEffect.syncDone
  · exact hs.pushEffect
  · exact hs.storeIf
  · exact Tame.ite hs hs.storeEffect
  · exact hs.bankOwnerEffect
  · exact hs.bankWindowEffect
  · exact hs.sweepCtlEffect
  · exact hs.storeIf
  · exact hs.epochEffect
  · exact hs.routeEffect
  · exact hs.storeIf
  · exact hs.storeEffect.syncCapacity
  · exact hs.imapEffect
  · exact hs.laneCtlEffect
  · exact Tame.ite hs hs.storeIf
  · exact hs.patEffect
  · exact hs.quadEffect
  · exact hs.devIdEffect
  · exact hs.brlCtlEffect
  · exact hs.storeIf.syncCable
  · exact hs.raccEffect
  · exact hs.portEffect
  · exact hs.submitEffect
  · exact hs.popEffect
  · exact hs.replyInEffect
  · exact hs.handoverEffect
  · exact hs.leaseEffect
  · exact hs.slotWriteEffect
  · exact hs.takeEffect
  · exact hs.stageSendEffect
  · exact hs.doorbellEffect
  · exact hs.clkCtlEffect
  · exact hs.gateEffect
  · exact hs.gateEffect
  · exact hs.wakeReqEffect
  · exact hs.fltCtlEffect
  · exact hs.emberEffect
  · exact hs.firstEffect
  · exact hs.fltRaiseEffect
  · exact hs.fltSrcEffect
  · exact hs.storeEffect

theorem Tame.msixWrite {m : Ident} {f : Nat} {w : Option (Nat × Nat)} {off : Nat} {h : Half} {data : Word} (hs : Tame s₀ s) :
    Tame s₀ (Machine.msixWrite m f w off h data s) := by
  unfold Machine.msixWrite
  split
  · exact hs.violation
  · split
    · exact hs
    · exact hs.setReg.flushVectors

theorem Tame.otherWrite {m : Ident} {off : Nat} {h : Half} {data : Word} (hs : Tame s₀ s) :
    Tame s₀ (Machine.otherWrite m off h data s) := by
  unfold Machine.otherWrite
  split
  · exact hs.portEffect
  · split
    · exact Tame.ite hs.violation hs
    · split
      · exact hs.msixWrite
      · exact hs

theorem Tame.execRegisterWrite {m : Ident} {off : Nat} {h : Half} {data : Word} (hs : Tame s₀ s) :
    Leads s₀ (Machine.execRegisterWrite m off h data s) := by
  unfold Machine.execRegisterWrite
  split
  · exact Tame.next (hs.regWrite (fun _ h1 => h1.regEffect))
  · exact Tame.next (Tame.ite hs hs.renewLease.otherWrite)

theorem Tame.adaptedRead {r : RegName} {n key : Nat} (hs : Tame s₀ s) : Tame s₀ (Machine.adaptedRead r n key s).2 := by
  unfold Machine.adaptedRead
  split
  · exact hs
  · dsimp only
    split
    · exact hs.draw
    · exact hs.draw

theorem Tame.clearRc {r : RegName} {key : Nat} {h : Half} (hs : Tame s₀ s) : Tame s₀ (Machine.clearRc r key h s) :=
  Tame.ite hs hs.setReg

theorem Tame.plainRead {r : RegName} {ix : List Nat} {m : Ident} {h : Half} (hs : Tame s₀ s) :
    Tame s₀ (Machine.plainRead r ix m h s) := hs.emit.clearRc

theorem Tame.calDataRead {m : Ident} {g : Nat} {h : Half} (hs : Tame s₀ s) : Tame s₀ (Machine.calDataRead m g h s) :=
  hs.emit.bumpCalAddr

theorem Tame.slotRead {m : Ident} {mb k : Nat} {h : Half} (hs : Tame s₀ s) : Tame s₀ (Machine.slotRead m mb k h s) :=
  Tame.ite hs.emit hs.violation.emit

theorem Tame.regRead {r : RegName} {ix : List Nat} {m : Ident} {h : Half} (hs : Tame s₀ s) :
    Tame s₀ (Machine.regRead r ix m h s) := by
  unfold Machine.regRead
  dsimp only
  split
  · exact hs.claimEffect.emit
  · exact Tame.ite hs.countReadEffect hs.halfReadEffect
  · exact hs.halfReadEffect
  · exact hs.histReadEffect
  · exact hs.histSecondEffect
  · exact hs.serRxEffect
  · exact hs.vecReadEffect
  · exact hs.calDataRead
  · exact hs.portRead
  · exact hs.nvaReadEffect
  · exact hs.raccEffect
  · exact hs.slotRead
  · exact hs.adaptedRead.emit
  · exact hs.adaptedRead.emit
  · exact hs.adaptedRead.emit
  · exact hs.plainRead

theorem Tame.otherRead {m : Ident} {off : Nat} {h : Half} (hs : Tame s₀ s) : Tame s₀ (Machine.otherRead m off h s) := by
  unfold Machine.otherRead
  split
  · exact Tame.ite hs.violation.emit hs.emit
  · exact hs.emit

theorem Tame.execRcFieldRead {m : Ident} {off : Nat} {h : Half} (hs : Tame s₀ s) :
    Leads s₀ (Machine.execRcFieldRead m off h s) := by
  unfold Machine.execRcFieldRead
  split
  · exact Tame.next (hs.readFront (fun _ h1 => h1.regRead))
  · exact Tame.next (Tame.ite hs hs.otherRead)

theorem Tame.execBar0BadAccess {m : Ident} {off size : Nat} {write : Bool} (hs : Tame s₀ s) :
    Leads s₀ (Machine.execBar0BadAccess m off size write s) := Leads.ite hs.next (Leads.ite (Tame.next (Tame.violation
        (Tame.ite hs.renewLease hs))) hs.violation.emit.next)

end Sys2Proof.Machine
end

section
/-! SUPPORT. `Tame` through the dispatch and the step, and the obligations that it settles (O3, O4, O5). -/

set_option Elab.async false

namespace Sys2Proof.Machine

variable {s₀ s : State}

/-- The dispatch: every command leads on, by what its own meaning keeps. -/
theorem Tame.exec {i : Instr} (hs : Tame s₀ s) : Leads s₀ (Machine.exec i s) :=
  match i with
  | .registerWrite .. => hs.execRegisterWrite
  | .rcFieldRead .. => hs.execRcFieldRead
  | .bar0BadAccess .. => hs.execBar0BadAccess
  | .tckCountRead .. => hs.execTckCountRead
  | .halfCaptureRead .. => hs.execHalfCaptureRead
  | .tickBoundary .. => hs.execTickBoundary
  | .tickPeriodArm .. => hs.execTickPeriodArm
  | .tickPeriodCancel .. => hs.execTickPeriodCancel
  | .markerFrame .. => hs.execMarkerFrame
  | .holdover => hs.execHoldover
  | .holdoverExpire => hs.execHoldoverExpire
  | .ptmIntervalExpire => hs.execPtmIntervalExpire
  | .aonCalibration .. => hs.execAonCalibration
  | .tickSetPeriod .. => hs.execTickSetPeriod
  | .timeAlign .. => hs.execTimeAlign
  | .timePtm .. => hs.execTimePtm
  | .timeAlignTimeout => hs.execTimeAlignTimeout
  | .ptmTimeout => hs.execPtmTimeout
  | .ctxCreate .. => hs.execCtxCreate
  | .ctxCreateBlock .. => hs.execCtxCreateBlock
  | .ctxArm .. => hs.execCtxArm
  | .ctxPause .. => hs.execCtxPause
  | .ctxDestroy .. => hs.execCtxDestroy
  | .ctxRead .. => hs.execCtxRead
  | .bar2Read .. => hs.execBar2Read
  | .bar2Write .. => hs.execBar2Write
  | .domainCfgWrite .. => hs.execDomainCfgWrite
  | .visit .. => hs.execVisit
  | .resultResponse .. => hs.execResultResponse
  | .flightTimeout .. => hs.execFlightTimeout
  | .ringWriteResponse .. => hs.execRingWriteResponse
  | .ringRdWrite .. => hs.execRingRdWrite
  | .ringCfgWrite .. => hs.execRingCfgWrite
  | .rebuild .. => hs.execRebuild
  | .rebuildScanEnd => hs.execRebuildScanEnd
  | .gateClose .. => hs.execGateClose
  | .gateOpen .. => hs.execGateOpen
  | .gateDrained .. => hs.execGateDrained
  | .rampStep .. => hs.execRampStep
  | .rampEnd .. => hs.execRampEnd
  | .modeWrite .. => hs.execModeWrite
  | .forceSafe .. => hs.execForceSafe
  | .periodWrite .. => hs.execPeriodWrite
  | .edgesWrite .. => hs.execEdgesWrite
  | .levelWrite .. => hs.execLevelWrite
  | .safeStateWrite .. => hs.execSafeStateWrite
  | .vecDataAccess .. => hs.execVecDataAccess
  | .vectorPlay .. => hs.execVectorPlay
  | .reflexHoldEnd .. => hs.execReflexHoldEnd
  | .groupAction .. => hs.execGroupAction
  | .companionClaim .. => hs.execCompanionClaim
  | .companionRelease .. => hs.execCompanionRelease
  | .companionRefused .. => hs.execCompanionRefused
  | .vectorRunStart .. => hs.execVectorRunStart
  | .vectorRunEnd .. => hs.execVectorRunEnd
  | .streamGo .. => hs.execStreamGo
  | .streamStop .. => hs.execStreamStop
  | .streamReadResponse .. => hs.execStreamReadResponse
  | .fabricVector .. => hs.execFabricVector
  | .measureConnect .. => hs.execMeasureConnect
  | .settleEnd .. => hs.execSettleEnd
  | .adcQuantityStart .. => hs.execAdcQuantityStart
  | .adcConversionEnd .. => hs.execAdcConversionEnd
  | .measureRespond .. => hs.execMeasureRespond
  | .rampCrossing .. => hs.execRampCrossing
  | .rampLimit .. => hs.execRampLimit
  | .rampDischargeEnd .. => hs.execRampDischargeEnd
  | .tdrStart .. => hs.execTdrStart
  | .calGroup .. => hs.execCalGroup
  | .calLoad .. => hs.execCalLoad
  | .calStore .. => hs.execCalStore
  | .selftestGroup .. => hs.execSelftestGroup
  | .calReference .. => hs.execCalReference
  | .calStepEnd .. => hs.execCalStepEnd
  | .calTimeout .. => hs.execCalTimeout
  | .railReading .. => hs.execRailReading
  | .nop .. => hs.execNop
  | .add .. => hs.execAdd
  | .sub .. => hs.execSub
  | .and .. => hs.execAnd
  | .or .. => hs.execOr
  | .xor .. => hs.execXor
  | .ash .. => hs.execAsh
  | .abs .. => hs.execAbs
  | .cmp .. => hs.execCmp
  | .addi .. => hs.execAddi
  | .movi .. => hs.execMovi
  | .lui .. => hs.execLui
  | .mpy .. => hs.execMpy
  | .mac .. => hs.execMac
  | .msu .. => hs.execMsu
  | .rnd .. => hs.execRnd
  | .mac4s .. => hs.execMac4s
  | .mac4v .. => hs.execMac4v
  | .ld .. => hs.execLd
  | .st .. => hs.execSt
  | .ld2 .. => hs.execLd2
  | .st2 .. => hs.execSt2
  | .str .. => hs.execStr
  | .modp .. => hs.execModp
  | .br .. => hs.execBr
  | .call .. => hs.execCall
  | .ret .. => hs.execRet
  | .loop .. => hs.execLoop
  | .loopi .. => hs.execLoopi
  | .endl .. => hs.execEndl
  | .dma .. => hs.execDma
  | .waitd .. => hs.execWaitd
  | .movs .. => hs.execMovs
  | .endJob .. => hs.execEndJob
  | .rti .. => hs.execRti
  | .trap .. => hs.execTrap
  | .sgeAction .. => hs.execSgeAction
  | .jobLimitExpire .. => hs.execJobLimitExpire
  | .dmaResponse .. => hs.execDmaResponse
  | .sgeRunWrite .. => hs.execSgeRunWrite
  | .sgeRestart .. => hs.execSgeRestart
  | .sgeMemDataAccess .. => hs.execSgeMemDataAccess
  | .portWaitSteal .. => hs.execPortWaitSteal
  | .fclkWrite .. => hs.execFclkWrite
  | .uoscEnable .. => hs.execUoscEnable
  | .uoscDisable .. => hs.execUoscDisable
  | .uoscReady .. => hs.execUoscReady
  | .uoscMeasure .. => hs.execUoscMeasure
  | .fabricPortRequest .. => hs.execFabricPortRequest
  | .fabricAnswer .. => hs.execFabricAnswer
  | .portTimeout .. => hs.execPortTimeout
  | .nvaDataAccess .. => hs.execNvaDataAccess
  | .nvaWriteDone => hs.execNvaWriteDone
  | .serModeWrite .. => hs.execSerModeWrite
  | .serModeApply .. => hs.execSerModeApply
  | .serTxWrite .. => hs.execSerTxWrite
  | .serRxRead .. => hs.execSerRxRead
  | .uartFrameReceive .. => hs.execUartFrameReceive
  | .uartFrameSend .. => hs.execUartFrameSend
  | .spiTransfer .. => hs.execSpiTransfer
  | .i2cTransfer .. => hs.execI2cTransfer
  | .canFrameReceive .. => hs.execCanFrameReceive
  | .canFrameSend .. => hs.execCanFrameSend
  | .cfgLoad .. => hs.execCfgLoad
  | .cfgAbort .. => hs.execCfgAbort
  | .cfgStart .. => hs.execCfgStart
  | .cfgReadback .. => hs.execCfgReadback
  | .fuseRollback .. => hs.execFuseRollback
  | .fuseProgram .. => hs.execFuseProgram
  | .configHeader .. => hs.execConfigHeader
  | .configRecord .. => hs.execConfigRecord
  | .configTrailer .. => hs.execConfigTrailer
  | .authenticated => hs.execAuthenticated
  | .starvationExpire => hs.execStarvationExpire
  | .cfgPushWrite .. => hs.execCfgPushWrite
  | .doneNRise => hs.execDoneNRise
  | .doneFilterMet => hs.execDoneFilterMet
  | .readyFrame .. => hs.execReadyFrame
  | .startFrame .. => hs.execStartFrame
  | .regionClear .. => hs.execRegionClear
  | .regionDamper .. => hs.execRegionDamper
  | .swpSource .. => hs.execSwpSource
  | .regionDrainDone .. => hs.execRegionDrainDone
  | .drainLimitExpire .. => hs.execDrainLimitExpire
  | .clockLinesGated .. => hs.execClockLinesGated
  | .sigSweepFrame => hs.execSigSweepFrame
  | .repairReadResponse .. => hs.execRepairReadResponse
  | .memorySweepRead .. => hs.execMemorySweepRead
  | .mendedWriteBack => hs.execMendedWriteBack
  | .sweepEnableWrite .. => hs.execSweepEnableWrite
  | .bankAccess .. => hs.execBankAccess
  | .bankOwnerWrite .. => hs.execBankOwnerWrite
  | .bankClearEnd .. => hs.execBankClearEnd
  | .bankWindowWrite .. => hs.execBankWindowWrite
  | .nocInject .. => hs.execNocInject
  | .nocEject .. => hs.execNocEject
  | .routerForward .. => hs.execRouterForward
  | .linkReplay .. => hs.execLinkReplay
  | .epochSwitch .. => hs.execEpochSwitch
  | .loadXy .. => hs.execLoadXy
  | .routeTableWrite .. => hs.execRouteTableWrite
  | .endpointDrainDone .. => hs.execEndpointDrainDone
  | .dramStart .. => hs.execDramStart
  | .dramStop .. => hs.execDramStop
  | .delaySweep .. => hs.execDelaySweep
  | .dramTableSave .. => hs.execDramTableSave
  | .dramRequest .. => hs.execDramRequest
  | .dramReadData .. => hs.execDramReadData
  | .refreshAccrue .. => hs.execRefreshAccrue
  | .refreshSlot .. => hs.execRefreshSlot
  | .mr4Poll .. => hs.execMr4Poll
  | .refreshWindowEnd .. => hs.execRefreshWindowEnd
  | .alertAssert .. => hs.execAlertAssert
  | .alertReplay .. => hs.execAlertReplay
  | .retryBufferRelease .. => hs.execRetryBufferRelease
  | .imapWrite .. => hs.execImapWrite
  | .laneBitLock .. => hs.execLaneBitLock
  | .laneRestart .. => hs.execLaneRestart
  | .checkerLock .. => hs.execCheckerLock
  | .checkerLockLoss .. => hs.execCheckerLockLoss
  | .patternWrite .. => hs.execPatternWrite
  | .injSingle .. => hs.execInjSingle
  | .injBurst .. => hs.execInjBurst
  | .injectionRepeat .. => hs.execInjectionRepeat
  | .receiverDetect .. => hs.execReceiverDetect
  | .linkStageEnd .. => hs.execLinkStageEnd
  | .linkStageTimeout .. => hs.execLinkStageTimeout
  | .cap .. => hs.execCap
  | .dlyReq .. => hs.execDlyReq
  | .dlyRsp .. => hs.execDlyRsp
  | .hostMemoryRequest .. => hs.execHostMemoryRequest
  | .hostConfigRequest .. => hs.execHostConfigRequest
  | .hostLinkDown => hs.execHostLinkDown
  | .functionLevelReset .. => hs.execFunctionLevelReset
  | .l1Entry => hs.execL1Entry
  | .align .. => hs.execAlign
  | .alignSend .. => hs.execAlignSend
  | .ack .. => hs.execAck
  | .nak .. => hs.execNak
  | .ackSend .. => hs.execAckSend
  | .cred .. => hs.execCred
  | .tick .. => hs.execTick
  | .readFrame .. => hs.execReadFrame
  | .writeFrame .. => hs.execWriteFrame
  | .responseFrame .. => hs.execResponseFrame
  | .enumFrame .. => hs.execEnumFrame
  | .enumTableFrame .. => hs.execEnumTableFrame
  | .streamFrame .. => hs.execStreamFrame
  | .brociaLinkDown .. => hs.execBrociaLinkDown
  | .ringEnum .. => hs.execRingEnum
  | .enumTimeout .. => hs.execEnumTimeout
  | .ringCopy .. => hs.execRingCopy
  | .linkRetrain .. => hs.execLinkRetrain
  | .retrainTimeout .. => hs.execRetrainTimeout
  | .raccDataAccess .. => hs.execRaccDataAccess
  | .remoteAccessTimeout .. => hs.execRemoteAccessTimeout
  | .devidWrite .. => hs.execDevidWrite
  | .commandPortWrite .. => hs.execCommandPortWrite
  | .commandSubmit .. => hs.execCommandSubmit
  | .replyPop .. => hs.execReplyPop
  | .replyInWrite .. => hs.execReplyInWrite
  | .domainSet .. => hs.execDomainSet
  | .domainRead .. => hs.execDomainRead
  | .echo .. => hs.execEcho
  | .ownershipClaim .. => hs.execOwnershipClaim
  | .handoverOffer .. => hs.execHandoverOffer
  | .ownerRelease .. => hs.execOwnerRelease
  | .handoverExpire => hs.execHandoverExpire
  | .leaseExpire => hs.execLeaseExpire
  | .mailboxSend .. => hs.execMailboxSend
  | .mbxSend .. => hs.execMbxSend
  | .mailboxTake .. => hs.execMailboxTake
  | .pwrState .. => hs.execPwrState
  | .clkRefSelect .. => hs.execClkRefSelect
  | .powerStepEnd => hs.execPowerStepEnd
  | .coldDelayExpire => hs.execColdDelayExpire
  | .avsReadback .. => hs.execAvsReadback
  | .avsTimeout => hs.execAvsTimeout
  | .aonPowerOn => hs.execAonPowerOn
  | .coreEnHigh => hs.execCoreEnHigh
  | .powerOn .. => hs.execPowerOn
  | .pwrOkFall => hs.execPwrOkFall
  | .kindlingReady .. => hs.execKindlingReady
  | .referenceQualified => hs.execReferenceQualified
  | .rootLock .. => hs.execRootLock
  | .hearthInitDone .. => hs.execHearthInitDone
  | .clockMonitorTrip .. => hs.execClockMonitorTrip
  | .pullInDone .. => hs.execPullInDone
  | .freeze => hs.execFreeze
  | .slewDone => hs.execSlewDone
  | .wakePin .. => hs.execWakePin
  | .wakeReqWrite .. => hs.execWakeReqWrite
  | .ringEnergyWake => hs.execRingEnergyWake
  | .perstRise => hs.execPerstRise
  | .faultRecord => hs.execFaultRecord
  | .faultReaction => hs.execFaultReaction
  | .journalWrite => hs.execJournalWrite
  | .journalScan => hs.execJournalScan
  | .journalRead .. => hs.execJournalRead
  | .haltRelease .. => hs.execHaltRelease
  | .fltRaiseWrite .. => hs.execFltRaiseWrite
  | .firstCaptureRearm .. => hs.execFirstCaptureRearm
  | .historyRead .. => hs.execHistoryRead
  | .heartbeat => hs.execHeartbeat
  | .hbLost => hs.execHbLost
  | .tickLost => hs.execTickLost
  | .emberFreqWrite .. => hs.execEmberFreqWrite
  | .ptmResponse .. => hs.execPtmResponse
  | .endpointResponse .. => hs.execEndpointResponse
  | .companionGrant .. => hs.execCompanionGrant
  | .companionResult .. => hs.execCompanionResult
  | .userLaneWord .. => hs.execUserLaneWord
  | .emberEdge => hs.execEmberEdge
  | .bankedJobCutoff => hs.execBankedJobCutoff
  | .refQualifyTimeout => hs.execRefQualifyTimeout
  | .authenticationFailed => hs.execAuthenticationFailed
  | .doneNFall => hs.execDoneNFall
  | .hostLinkUp .. => hs.execHostLinkUp
  | .syncErrBlock .. => hs.execSyncErrBlock
  | .frameCheckFail .. => hs.execFrameCheckFail
  | .vmemTestEnd .. => hs.execVmemTestEnd

/-- A step relates the state whose queue has lost its front command to the next one. -/
theorem Tame.step (s : State) : Leads { s with pending := s.pending.tail } (Machine.step s) := by
  have hs : Tame { s with pending := s.pending.tail } { s with pending := s.pending.tail } := Tame.refl _
  unfold Machine.step
  split
  next h =>
    have h0 : Tame { s with pending := s.pending.tail } s := ⟨by rw [h, List.tail_nil], id⟩
    exact h0.idleCycle.next
  next c r h =>
    rw [h, List.tail_cons] at hs ⊢
    exact hs.exec

/-- Settles O3: the state whose queue has lost its front command is canonical with the state itself, and `Tame.step` leads
from it to the next one. -/
theorem stepsKeepTheCanonicalForm : Obligations.StepsKeepTheCanonicalForm := by
  intro s t hs ht
  obtain ⟨u, hu, h⟩ := Tame.step s
  obtain rfl : u = t := by simpa [hu] using ht
  exact h.form hs

/-- Settles O4. -/
theorem everyCommandCompletes : Obligations.EveryCommandCompletes := by
  refine ⟨fun c s => ?_, fun s => ?_⟩
  · obtain ⟨t, ht, -⟩ := (Tame.refl s).exec (i := c)
    exact ⟨t, ht⟩
  · obtain ⟨t, ht, -⟩ := Tame.step s
    exact ⟨t, ht⟩

/-- Settles O5. -/
theorem commandsLeaveTheQueue : Obligations.CommandsLeaveTheQueue := by
  refine ⟨fun c s t h => ?_, fun s t h => ?_⟩
  · obtain ⟨u, hu, hq⟩ := (Tame.refl s).exec (i := c)
    obtain rfl : u = t := by simpa [hu] using h
    exact hq.queue
  · obtain ⟨u, hu, hq⟩ := Tame.step s
    obtain rfl : u = t := by simpa [hu] using h
    exact hq.queue

end Sys2Proof.Machine

end

section
-- One proof at a time: the memory limit of the check counts a stack for every proof that waits for another.
set_option Elab.async false
/-! SUPPORT. One bank's activate table (R510): `TableBounds rows t` says what the table `t` claims of the rows activated, and one
activate keeps it in each of its three cases. -/

namespace Sys2Proof.Machine

theorem modNth_append_cons {α : Type} (f : α → α) (a b : List α) (e : α) :
    modNth (a ++ e :: b) a.length f = a ++ f e :: b := by
  induction a with
  | nil => rfl
  | cons x a ih => simpa [modNth] using ih

/-- The entry at `lowestEntry` splits the table and has the lowest count of all. -/
theorem lowestEntry_split {t : List (Nat × Nat)} (ht : t ≠ []) :
    ∃ a e b, t = a ++ e :: b ∧ a.length = lowestEntry t ∧ ∀ x ∈ t, e.2 ≤ x.2 := by
  induction t with
  | nil => exact absurd rfl ht
  | cons e r ih =>
    cases r with
    | nil => exact ⟨[], e, [], rfl, rfl, by simp⟩
    | cons y r =>
      obtain ⟨a, x, b, hsplit, hlen, hlow⟩ := ih (by simp)
      have hnth : nth (0, 0) (y :: r) (lowestEntry (y :: r)) = x := by
        rw [← hlen, hsplit]
        simp [nth]
      simp only [lowestEntry, hnth]
      split
      next hlt =>
        refine ⟨e :: a, x, b, by simp [hsplit], by simp [hlen], fun z hz => ?_⟩
        rcases List.mem_cons.mp hz with rfl | hz
        · exact hlt.le
        · exact hlow z hz
      next hge =>
        refine ⟨[], e, y :: r, rfl, rfl, fun z hz => ?_⟩
        rcases List.mem_cons.mp hz with rfl | hz
        · exact le_refl _
        · exact (Nat.le_of_not_lt hge).trans (hlow z hz)

/-- What a bank's table `t` says of the rows it has activated: an entry counts at least its row's activates, a row without an
entry has been activated no more often than any entry counts, and none has while a place is free. -/
structure TableBounds (rows : List Nat) (t : List (Nat × Nat)) : Prop where
  short : t.length ≤ 16
  nodup : (t.map (·.1)).Nodup
  entry : ∀ e ∈ t, rows.count e.1 ≤ e.2
  absent : ∀ r, (∀ e ∈ t, e.1 ≠ r) → ∀ e ∈ t, rows.count r ≤ e.2
  full : ∀ r ∈ rows, (∀ e ∈ t, e.1 ≠ r) → t.length = 16

theorem tableBounds_nil : TableBounds [] [] where
  short := by simp
  nodup := by simp
  entry := by simp
  absent := by simp
  full := by simp

theorem count_snoc_self (rows : List Nat) (r : Nat) : (rows ++ [r]).count r = rows.count r + 1 := by
  simp [List.count_append]

theorem count_snoc_of_ne (rows : List Nat) {r q : Nat} (h : q ≠ r) : (rows ++ [r]).count q = rows.count q := by
  simp [List.count_append, h.symm]

variable {rows : List Nat}

theorem mem_append_cons_iff {α : Type} {x y : α} {a b : List α} : x ∈ a ++ y :: b ↔ x = y ∨ x ∈ a ++ b := by
  simp only [List.mem_append, List.mem_cons, or_left_comm]

/-- The key of an entry is no key of the others. -/
theorem TableBounds.others {a b : List (Nat × Nat)} {e : Nat × Nat} (h : TableBounds rows (a ++ e :: b)) :
    ∀ x ∈ a ++ b, x.1 ≠ e.1 := by
  intro x hx hxe
  have hn := h.nodup
  rw [List.map_append, List.map_cons, List.nodup_middle, ← List.map_append] at hn
  exact (List.nodup_cons.mp hn).1 (hxe ▸ List.mem_map_of_mem hx)

/-- An entry gives way to one of the row activated: the bounds stand when the new count and the counts that stay are high enough
for the rows that have no entry afterwards. -/
theorem TableBounds.overwrite {a b : List (Nat × Nat)} {e : Nat × Nat} {r n : Nat} (h : TableBounds rows (a ++ e :: b))
    (hr : ∀ x ∈ a ++ b, x.1 ≠ r) (hn : rows.count r + 1 ≤ n)
    (habs : ∀ q, (∀ x ∈ a ++ b, x.1 ≠ q) → q ≠ r → rows.count q ≤ n ∧ ∀ x ∈ a ++ b, rows.count q ≤ x.2)
    (hfull : e.1 = r ∨ (a ++ e :: b).length = 16) : TableBounds (rows ++ [r]) (a ++ (r, n) :: b) where
  short := by simpa using h.short
  nodup := by
    have hd := h.nodup
    rw [List.map_append, List.map_cons, List.nodup_middle, ← List.map_append] at hd ⊢
    refine List.nodup_cons.mpr ⟨fun hmem => ?_, (List.nodup_cons.mp hd).2⟩
    obtain ⟨x, hx, hxr⟩ := List.mem_map.mp hmem
    exact hr x hx hxr
  entry := by
    intro x hx
    rcases mem_append_cons_iff.mp hx with rfl | hx
    · rwa [count_snoc_self]
    · rw [count_snoc_of_ne rows (hr x hx)]
      exact h.entry x (mem_append_cons_iff.mpr (.inr hx))
  absent := by
    intro q hq x hx
    have hqr : q ≠ r := (hq (r, n) (mem_append_cons_iff.mpr (.inl rfl))).symm
    obtain ⟨hqn, hqx⟩ := habs q (fun x hx => hq x (mem_append_cons_iff.mpr (.inr hx))) hqr
    rw [count_snoc_of_ne rows hqr]
    rcases mem_append_cons_iff.mp hx with rfl | hx
    · exact hqn
    · exact hqx x hx
  full := by
    intro q hmem hq
    have hqr : q ≠ r := (hq (r, n) (mem_append_cons_iff.mpr (.inl rfl))).symm
    have hlen : (a ++ (r, n) :: b).length = (a ++ e :: b).length := by simp
    rw [hlen]
    rcases hfull with he | hlen
    · refine h.full q (by simpa [hqr] using hmem) fun x hx => ?_
      rcases mem_append_cons_iff.mp hx with rfl | hx
      · exact fun hxq => hqr (hxq.symm.trans he)
      · exact hq x (mem_append_cons_iff.mpr (.inr hx))
    · exact hlen

/-- An activate of a row that has an entry counts in that entry, which stays at 65535. -/
theorem TableBounds.hit {a b : List (Nat × Nat)} {e : Nat × Nat} (h : TableBounds rows (a ++ e :: b))
    (hlen : rows.length < 65535) : TableBounds (rows ++ [e.1]) (a ++ (e.1, min (e.2 + 1) 65535) :: b) := by
  have hcount (q : Nat) : rows.count q ≤ rows.length := List.count_le_length
  have hself := h.entry e (mem_append_cons_iff.mpr (.inl rfl))
  refine h.overwrite h.others (by have := hcount e.1; omega) (fun q hq hqe => ?_) (.inl rfl)
  have habs := h.absent q fun x hx => by
    rcases mem_append_cons_iff.mp hx with rfl | hx
    · exact hqe.symm
    · exact hq x hx
  have he := habs e (mem_append_cons_iff.mpr (.inl rfl))
  exact ⟨by have := hcount q; omega, fun x hx => habs x (mem_append_cons_iff.mpr (.inr hx))⟩

/-- An activate of a row without an entry, the table being full, replaces an entry of the lowest count. -/
theorem TableBounds.miss {a b : List (Nat × Nat)} {e : Nat × Nat} {r : Nat} (h : TableBounds rows (a ++ e :: b))
    (hr : ∀ x ∈ a ++ e :: b, x.1 ≠ r) (hlow : ∀ x ∈ a ++ e :: b, e.2 ≤ x.2) (hfull : (a ++ e :: b).length = 16) :
    TableBounds (rows ++ [r]) (a ++ (r, e.2 + 1) :: b) := by
  have he : e ∈ a ++ e :: b := mem_append_cons_iff.mpr (.inl rfl)
  have hin {x} (hx : x ∈ a ++ b) : x ∈ a ++ e :: b := mem_append_cons_iff.mpr (.inr hx)
  refine h.overwrite (fun x hx => hr x (hin hx)) (Nat.succ_le_succ (h.absent r hr e he)) (fun q hq _ => ?_) (.inr hfull)
  have hqe : rows.count q ≤ e.2 := by
    by_cases hqe : e.1 = q
    · exact hqe ▸ h.entry e he
    · refine h.absent q (fun x hx => ?_) e he
      rcases mem_append_cons_iff.mp hx with rfl | hx
      · exact hqe
      · exact hq x hx
  exact ⟨hqe.trans (Nat.le_succ _), fun x hx => hqe.trans (hlow x (hin hx))⟩

/-- An activate of a row without an entry, a place being free, adds an entry. -/
theorem TableBounds.add {t : List (Nat × Nat)} {r : Nat} (h : TableBounds rows t) (hr : ∀ x ∈ t, x.1 ≠ r)
    (hfree : t.length < 16) : TableBounds (rows ++ [r]) (t ++ [(r, 1)]) := by
  have hnone (q : Nat) (hq : ∀ x ∈ t, x.1 ≠ q) : rows.count q = 0 :=
    List.count_eq_zero.mpr fun hmem => hfree.ne (h.full q hmem hq)
  have hother {q : Nat} (hq : ∀ x ∈ t ++ [(r, 1)], x.1 ≠ q) : q ≠ r ∧ ∀ x ∈ t, x.1 ≠ q :=
    ⟨(hq (r, 1) (by simp)).symm, fun x hx => hq x (List.mem_append_left _ hx)⟩
  refine ⟨by simpa using hfree, ?_, fun x hx => ?_, fun q hq x _ => ?_, fun q hmem hq => ?_⟩
  · rw [List.map_append, List.nodup_append]
    refine ⟨h.nodup, by simp, fun k hk j hj => ?_⟩
    obtain ⟨x, hx, rfl⟩ := List.mem_map.mp hk
    simp only [List.map_cons, List.map_nil, List.mem_singleton] at hj
    exact hj ▸ hr x hx
  · rcases List.mem_append.mp hx with hx | hx
    · rw [count_snoc_of_ne rows (hr x hx)]
      exact h.entry x hx
    · rw [List.mem_singleton.mp hx, count_snoc_self, hnone r hr]
  · obtain ⟨hqr, hqt⟩ := hother hq
    rw [count_snoc_of_ne rows hqr, hnone q hqt]
    exact Nat.zero_le _
  · obtain ⟨hqr, hqt⟩ := hother hq
    exact absurd (h.full q (by simpa [hqr] using hmem) hqt) hfree.ne

/-- One activate keeps the bounds, whatever the table and the row, while fewer rows than the counters hold were activated. -/
theorem tableBounds_activate {t : List (Nat × Nat)} (h : TableBounds rows t) (r : Nat) (hlen : rows.length < 65535) :
    TableBounds (rows ++ [r]) (tableActivate t r).1 := by
  unfold tableActivate
  split
  next i hi =>
    obtain ⟨hilt, hir, -⟩ := List.findIdx?_eq_some_iff_getElem.mp hi
    have hsplit : t = t.take i ++ t[i] :: t.drop (i + 1) := by simp
    have htake : (t.take i).length = i := by simp [hilt.le]
    obtain rfl : t[i].1 = r := of_decide_eq_true hir
    have hmod := modNth_append_cons (fun e => (e.1, min (e.2 + 1) 65535)) (t.take i) (t.drop (i + 1)) t[i]
    rw [htake, ← hsplit] at hmod
    rw [hmod]
    exact TableBounds.hit (hsplit ▸ h) hlen
  next hi =>
    have hr : ∀ x ∈ t, x.1 ≠ r := by simpa [List.findIdx?_eq_none_iff] using hi
    split
    next hfree => exact h.add hr hfree
    next hfull =>
      have hlen16 : t.length = 16 := le_antisymm h.short (Nat.le_of_not_lt hfull)
      obtain ⟨a, e, b, rfl, ha, hlow⟩ := lowestEntry_split (t := t) (by rintro rfl; simp at hlen16)
      dsimp only
      rw [← ha, modNth_append_cons]
      exact h.miss hr hlow hlen16

theorem tableBounds_foldl (rows : List Nat) (hlen : rows.length < 65535) :
    TableBounds rows (rows.foldl (fun t r => (tableActivate t r).1) []) := by
  induction rows using List.reverseRecOn with
  | nil => exact tableBounds_nil
  | append_singleton rows r ih =>
    have hshort : rows.length < 65535 := by rw [List.length_append] at hlen; omega
    rw [List.foldl_append]
    exact tableBounds_activate (ih hshort) r hshort

/-- Settles O45: `TableBounds` is kept by every activate (`tableBounds_activate`). -/
theorem activateTablesBoundTheCounts : Obligations.ActivateTablesBoundTheCounts := by
  intro rows hlen
  obtain ⟨hshort, hnodup, hentry, habsent, hfull⟩ := tableBounds_foldl rows hlen
  exact ⟨hshort, hnodup, hentry, habsent, hfull⟩

end Sys2Proof.Machine
end

section
-- One proof at a time: the memory limit of the check counts a stack for every proof that waits for another.
set_option Elab.async false
/-! SUPPORT. X-then-Y routes (R473, R475): the key of a route names its router and destination, and the port of `xyPort` leads to
a neighbour one hop closer. -/

namespace Sys2Proof.Machine

theorem routeReset_routeKey (epoch net : Bool) {r d : Nat} (hr : r < 80) (hd : d < 80) :
    routeReset (routeKey epoch net r d) = xyPort r d := by
  unfold routeReset routeKey
  have hrow : ((2 * bnat epoch + bnat net) * 80 + r) * 80 + d = d + 80 * ((2 * bnat epoch + bnat net) * 80 + r) := by ring
  rw [hrow, Nat.add_mul_div_left _ _ (by norm_num), Nat.div_eq_of_lt hd, Nat.zero_add, Nat.mul_add_mod_self_right,
    Nat.mod_eq_of_lt hr, Nat.add_mul_mod_self_left, Nat.mod_eq_of_lt hd]

/-- With the reset tables every route is the one X-then-Y gives. -/
theorem route_of_reset {s : State} (h : s.noc.routes = []) (epoch net : Bool) {r d : Nat} (hr : r < 80) (hd : d < 80) :
    s.route epoch net r d = xyPort r d := by
  rw [State.route, h]
  exact routeReset_routeKey epoch net hr hd

theorem xyPort_eq_zero_iff (r d : Nat) : xyPort r d = 0 ↔ r = d := by
  unfold xyPort
  constructor
  · intro h
    split_ifs at h
    omega
  · rintro rfl
    simp

/-- The sum of the column and row distances falls by one with each hop. -/
theorem xyPort_neighbour {r d : Nat} (hr : r < 80) (hd : d < 80) (h : r ≠ d) :
    ∃ n, neighbour r (xyPort r d) = some n ∧ n < 80 ∧
      ((n % 10 : Int) - (d % 10 : Nat)).natAbs + ((n / 10 : Int) - (d / 10 : Nat)).natAbs + 1 =
        ((r % 10 : Int) - (d % 10 : Nat)).natAbs + ((r / 10 : Int) - (d / 10 : Nat)).natAbs := by
  unfold xyPort
  split
  next hcol =>
    have hb : r % 10 < 9 := by omega
    exact ⟨r + 1, by simp [neighbour, hb], by omega, by omega⟩
  split
  next hcol =>
    have hb : 0 < r % 10 := by omega
    exact ⟨r - 1, by simp [neighbour, hb], by omega, by omega⟩
  split
  next hrow =>
    have hb : r / 10 < 7 := by omega
    exact ⟨r + 10, by simp [neighbour, hb], by omega, by omega⟩
  split
  next hrow =>
    have hb : 0 < r / 10 := by omega
    exact ⟨r - 10, by simp [neighbour, hb], by omega, by omega⟩
  next => omega

/-- Settles O41. -/
theorem xyRoutesReachTheirRouter : Obligations.XyRoutesReachTheirRouter := by
  refine ⟨fun s epoch net r d hr hd h => route_of_reset h epoch net hr hd, fun r d _ _ => xyPort_eq_zero_iff r d, ?_⟩
  intro r d hr hd h
  exact xyPort_neighbour hr hd h

end Sys2Proof.Machine
end

section
-- One proof at a time: the memory limit of the check counts a stack for every proof that waits for another.
set_option Elab.async false
/-! SUPPORT. The signal engine's number rules: convergent rounding, windows, and the widths of its results. -/

namespace Sys2Proof.Machine

/-- RND's integer is the nearest one, and the even one at a tie. -/
theorem roundConvergent_nearest (x : Int) :
    2 * (roundConvergent x * 2 ^ 24 - x).natAbs ≤ 2 ^ 24 ∧
      (2 * (roundConvergent x * 2 ^ 24 - x).natAbs = 2 ^ 24 → roundConvergent x % 2 = 0) := by
  unfold roundConvergent
  dsimp only
  split_ifs
  · omega
  · omega
  · omega
  · omega

theorem wrapIn_zero (base : Nat) (v : Int) : (wrapIn base 0 v : Int) = v % 16384 := by
  rw [wrapIn, if_pos rfl]
  omega

/-- A window that fits memory keeps an address inside it, at its distance from the base modulo the length. -/
theorem wrapIn_window {base len : Nat} (v : Int) (hl : 0 < len) (hfit : base + len ≤ 16384) :
    base ≤ wrapIn base len v ∧ wrapIn base len v < base + len ∧ ((wrapIn base len v : Int) - v) % len = 0 := by
  have hlo : 0 ≤ (v - base) % (len : Int) := Int.emod_nonneg _ (by omega)
  have hhi : (v - base) % (len : Int) < len := Int.emod_lt_of_pos _ (by omega)
  have hval : (wrapIn base len v : Int) = base + (v - base) % (len : Int) := by
    rw [wrapIn, if_neg (by omega), Int.toNat_of_nonneg (by omega)]
    exact Int.emod_eq_of_lt (by omega) (by omega)
  refine ⟨by omega, by omega, ?_⟩
  rw [hval, show (base : Int) + (v - base) % len - v = (v - base) % len - (v - base) by ring]
  exact Int.emod_eq_zero_of_dvd ⟨-((v - base) / len), by rw [Int.emod_def]; ring⟩

theorem fitsSigned_24_iff (x : Int) : fitsSigned 24 x = true ↔ -0x800000 ≤ x ∧ x ≤ 0x7FFFFF := by
  simp only [fitsSigned, decide_eq_true_eq]
  omega

theorem fitsSigned_24_false {x : Int} (h : 0x7FFFFF < x ∨ x < -0x800000) : fitsSigned 24 x = false := by
  rw [Bool.eq_false_iff, Ne, fitsSigned_24_iff]
  omega

theorem result24_of_fits (sat : Bool) {x : Int} (hlo : -0x800000 ≤ x) (hhi : x ≤ 0x7FFFFF) :
    (result24 sat x).1.toInt = x ∧ (result24 sat x).2 = false := by
  rw [result24, if_pos ((fitsSigned_24_iff x).mpr ⟨hlo, hhi⟩)]
  refine ⟨?_, rfl⟩
  rw [to24, BitVec.toInt_ofInt]
  exact Int.bmod_eq_of_le (by omega) (by omega)

theorem result24_clamped {x : Int} (h : 0x7FFFFF < x ∨ x < -0x800000) :
    result24 true x = (if x < 0 then 0x800000 else 0x7FFFFF, true) := by
  simp [result24, fitsSigned_24_false h]

theorem toInt_ofInt_sub_emod (w : Nat) (x : Int) : ((BitVec.ofInt w x).toInt - x) % (2 ^ w : Nat) = 0 := by
  rw [BitVec.toInt_ofInt]
  exact Int.emod_eq_zero_of_dvd (Int.ModEq.dvd (Int.bmod_emod.symm))

theorem result24_wrapped {x : Int} (h : 0x7FFFFF < x ∨ x < -0x800000) :
    ((result24 false x).1.toInt - x) % 2 ^ 24 = 0 ∧ (result24 false x).2 = true := by
  simp only [result24, fitsSigned_24_false h, Bool.false_eq_true, if_false]
  exact ⟨toInt_ofInt_sub_emod 24 x, trivial⟩

theorem result56_wraps (x : Int) :
    ((result56 x).1.toInt - x) % 2 ^ 56 = 0 ∧ ((result56 x).2 = true ↔ (x < -(2 ^ 55) ∨ 2 ^ 55 ≤ x)) := by
  refine ⟨toInt_ofInt_sub_emod 56 x, ?_⟩
  simp only [result56, fitsSigned, Bool.not_eq_true', decide_eq_false_iff_not]
  omega

/-- Settles O29. -/
theorem sgeNumberRules : Obligations.SgeNumberRules := by
  refine ⟨roundConvergent_nearest, fun base v => wrapIn_zero base.toNat v, fun base len v => wrapIn_window v,
    fun sat x => result24_of_fits sat, fun x hx => ?_, fun x hx => ?_, fun x => result24_wrapped, result56_wraps, ?_⟩
  · rw [result24_clamped (.inl hx), if_neg (by omega)]
    exact ⟨rfl, rfl⟩
  · rw [result24_clamped (.inr hx), if_pos (by omega)]
    exact ⟨rfl, rfl⟩
  · exact fun x y => ⟨rfl, rfl⟩

end Sys2Proof.Machine
end

section
-- One proof at a time: the memory limit of the check counts a stack for every proof that waits for another.
set_option Elab.async false
/-! SUPPORT. Reset values: the index values of an offset inside an indexed register, and the registers of a channel group. -/

namespace Sys2Proof.Machine

/-- The outer index of an offset is taken off, and the rest goes to the inner ones. -/
theorem decodeIndex_at {x : RegIndex} {xs : List RegIndex} {i r : Nat} (hr : r < x.stride) (hlo : x.first ≤ i)
    (hhi : i < x.first + x.count) :
    decodeIndex (x :: xs) (x.stride * i + r) = (decodeIndex xs r).map (i :: ·) := by
  have hdiv : (x.stride * i + r) / x.stride = i := by
    rw [Nat.mul_add_div (Nat.zero_lt_of_lt hr), Nat.div_eq_of_lt hr, Nat.add_zero]
  simp only [decodeIndex, hdiv, hlo, hhi, and_self, if_true, Nat.add_sub_cancel_left]
  cases decodeIndex xs r <;> rfl

theorem decode_of_base_lt {x : RegInfo} {off : Nat} (hix : x.index = []) (h : x.base < off) : x.decode off = none := by
  have hne : off - x.base ≠ 0 := by omega
  rw [RegInfo.decode, if_pos h.le, hix, decodeIndex, if_neg hne]

theorem plainReset_skip {r : RegName} {v : Word} {l : List (RegName × Word)} {off : Nat} (h : (regInfo r).decode off = none) :
    plainReset ((r, v) :: l) off = plainReset l off := by
  simp [plainReset, h]

theorem plainReset_hit {r : RegName} {v : Word} {l : List (RegName × Word)} {off : Nat} {ix : List Nat}
    (h : (regInfo r).decode off = some ix) : plainReset ((r, v) :: l) off = v := by
  simp [plainReset, h]

/-- Past the registers of the blocks below, the channel groups' own come first. -/
theorem plainReset_groups {off : Nat} (h : 0xC00000 ≤ off) : plainReset regResets off = plainReset (regResets.drop 7) off := by
  have hsingle : ∀ x ∈ regResets.take 6, (regInfo x.1).decode off = none := by
    intro x hx
    have hx' : (regInfo x.1).index = [] ∧ (regInfo x.1).base < 0xC00000 := by
      revert x
      decide
    exact decode_of_base_lt hx'.1 (hx'.2.trans_le h)
  have hring : (regInfo .CTX_RINGd_CFG).decode off = none := by
    show (if 0x802008 ≤ off then decodeIndex [⟨0x40, 0, 16⟩] (off - 0x802008) else none) = none
    rw [if_pos (by omega), decodeIndex, if_neg]
    dsimp only
    omega
  simp only [regResets, List.take_succ_cons, List.take_zero, List.mem_cons, forall_eq_or_imp] at hsingle
  obtain ⟨h1, h2, h3, h4, h5, h6, -⟩ := hsingle
  exact (plainReset_skip h1).trans ((plainReset_skip h2).trans ((plainReset_skip h3).trans ((plainReset_skip h4).trans
    ((plainReset_skip h5).trans ((plainReset_skip h6).trans (plainReset_skip hring))))))

/-- The BAR0 offset of a register of channel `i` of group `g`. -/
def channelOffset (g i e : Nat) : Nat := 0xC00800 + 0x4000 * g + 0x80 * i + e

section
variable {g i e b : Nat} {r : RegName} (hg : g < 128) (hi : i < 16) (he : e < 0x80)
include hg hi he

/-- A channel's register is no register that stands once per group. -/
theorem decode_line_channelOffset (hbase : (regInfo r).base = 0xC00000 + b) (hidx : (regInfo r).index = [⟨0x4000, 0, 128⟩])
    (hb : b < 0x800) : (regInfo r).decode (channelOffset g i e) = none := by
  have hoff : channelOffset g i e = 0xC00000 + b + (0x4000 * g + (0x800 + 0x80 * i + e - b)) := by unfold channelOffset; omega
  rw [RegInfo.decode, hbase, hidx, hoff, if_pos (by omega), Nat.add_sub_cancel_left,
    decodeIndex_at (x := ⟨0x4000, 0, 128⟩) (by dsimp only; omega) (by simp) (by simpa using hg), decodeIndex, if_neg (by omega)]
  rfl

/-- A channel's register is the one that stands at its place in the channel. -/
theorem decode_channel_channelOffset (hbase : (regInfo r).base = 0xC00800 + b)
    (hidx : (regInfo r).index = [⟨0x4000, 0, 128⟩, ⟨0x80, 0, 16⟩]) (hb : b ≤ e) :
    (regInfo r).decode (channelOffset g i e) = if e = b then some [g, i] else none := by
  have hoff : channelOffset g i e = 0xC00800 + b + (0x4000 * g + (0x80 * i + (e - b))) := by unfold channelOffset; omega
  rw [RegInfo.decode, hbase, hidx, hoff, if_pos (by omega), Nat.add_sub_cancel_left,
    decodeIndex_at (x := ⟨0x4000, 0, 128⟩) (by dsimp only; omega) (by simp) (by simpa using hg),
    decodeIndex_at (x := ⟨0x80, 0, 16⟩) (by dsimp only; omega) (by simp) (by simpa using hi), decodeIndex]
  by_cases h : e = b
  · simp [h]
  · rw [if_neg h, if_neg (by omega)]
    rfl

theorem plainReset_channelOffset : plainReset regResets (channelOffset g i e) =
    plainReset (regResets.drop 9) (channelOffset g i e) := by
  rw [plainReset_groups (by unfold channelOffset; omega)]
  exact (plainReset_skip (decode_line_channelOffset (b := 0x10) hg hi he rfl rfl (by norm_num))).trans
    (plainReset_skip (decode_line_channelOffset (b := 0x18) hg hi he rfl rfl (by norm_num)))

theorem regReset_channelOffset : regReset (channelOffset g i e) = plainReset regResets (channelOffset g i e) := by
  rw [regReset, if_pos]
  unfold channelOffset slotSpan
  omega

end

section
variable {g i : Nat} (hg : g < 128) (hi : i < 16)
include hg hi

theorem regReset_thresh : regReset (channelOffset g i 8) = 0x9B203E1 := by
  rw [regReset_channelOffset hg hi (by norm_num), plainReset_channelOffset hg hi (by norm_num)]
  exact plainReset_hit (decode_channel_channelOffset (b := 8) hg hi (by norm_num) rfl rfl le_rfl)

theorem regReset_edges : regReset (channelOffset g i 0x10) = 0x4000000000 := by
  rw [regReset_channelOffset hg hi (by norm_num), plainReset_channelOffset hg hi (by norm_num)]
  exact (plainReset_skip (decode_channel_channelOffset (b := 8) hg hi (by norm_num) rfl rfl (by norm_num))).trans
    (plainReset_hit (decode_channel_channelOffset (b := 0x10) hg hi (by norm_num) rfl rfl le_rfl))

theorem regReset_last : regReset (channelOffset g i 0x28) = 0x300 := by
  rw [regReset_channelOffset hg hi (by norm_num), plainReset_channelOffset hg hi (by norm_num)]
  exact (plainReset_skip (decode_channel_channelOffset (b := 8) hg hi (by norm_num) rfl rfl (by norm_num))).trans
    ((plainReset_skip (decode_channel_channelOffset (b := 0x10) hg hi (by norm_num) rfl rfl (by norm_num))).trans
    (plainReset_hit (decode_channel_channelOffset (b := 0x28) hg hi (by norm_num) rfl rfl le_rfl)))

end

/-- Outside the signature store a protected word that nothing has written is a clean zero. -/
theorem memDefault_decode {k : Nat} (hk : k < 0x6000000) : (memDefault k).decode = .clean 0 := by
  have hstore : ¬ k / 16777216 = 6 := by omega
  rw [memDefault, if_neg hstore]
  decide

/-- Settles O2. -/
theorem resetLeavesTheStatedValues : Obligations.ResetLeavesTheStatedValues := by
  refine ⟨⟨rfl, rfl⟩, rfl, rfl, by decide +kernel, by decide +kernel, fun g i hg hi => ?_, by decide +kernel,
    fun k hk => memDefault_decode hk, by decide +kernel⟩
  have hat (b : Nat) : 0xC00800 + b + 0x4000 * g + 0x80 * i = channelOffset g i b := by unfold channelOffset; omega
  rw [show (0xC00808 : Nat) = 0xC00800 + 8 from rfl, show (0xC00810 : Nat) = 0xC00800 + 0x10 from rfl,
    show (0xC00828 : Nat) = 0xC00800 + 0x28 from rfl, hat, hat, hat]
  exact ⟨regReset_thresh hg hi, regReset_edges hg hi, regReset_last hg hi⟩

end Sys2Proof.Machine
end

section
-- One proof at a time: the memory limit of the check counts a stack for every proof that waits for another.
set_option Elab.async false
/-! SUPPORT. What the passing of root cycles changes: the fabric's logic and memories, and the counters of time. -/

namespace Sys2Proof.Machine

variable {s u : State}

/-- `u` differs from `s` in the fabric's logic and in the protected memories at most. -/
def FabricOnly (s u : State) : Prop := u = { s with logic := u.logic, mem := u.mem, mends := u.mends }

theorem FabricOnly.refl (s : State) : FabricOnly s s := rfl

theorem FabricOnly.logic (h : FabricOnly s u) (l : LogicState) : FabricOnly s { u with logic := l } := by
  rw [FabricOnly] at h ⊢
  rw [h]

theorem FabricOnly.writeP (h : FabricOnly s u) (key : Nat) (d : Word) : FabricOnly s (u.writeP key d) := by
  rw [FabricOnly] at h ⊢
  rw [h]
  rfl

theorem FabricOnly.trans {t : State} (h : FabricOnly s t) (h' : FabricOnly t u) : FabricOnly s u := by
  rw [FabricOnly] at h h' ⊢
  rw [h', h]

theorem FabricOnly.foldl {α : Type} {f : State → α → State} {l : List α} (h : FabricOnly s u)
    (hf : ∀ t a, FabricOnly s t → FabricOnly s (f t a)) : FabricOnly s (l.foldl f u) := by
  induction l generalizing u with
  | nil => exact h
  | cons a l ih => exact ih (hf u a h)

theorem FabricOnly.ite {p : Prop} [Decidable p] {t : State} (h : FabricOnly s t) (h' : FabricOnly s u) :
    FabricOnly s (if p then t else u) := by
  split
  · exact h
  · exact h'

theorem FabricOnly.writeBram (h : FabricOnly s u) (n a d : Nat) : FabricOnly s (writeBram n a d u) :=
  .ite (h.writeP _ _) (h.logic _)

theorem FabricOnly.setBramPort (h : FabricOnly s u) (n : Nat) (b : Bool) (p : BramPort) :
    FabricOnly s (setBramPort n b p u) := h.logic _

theorem FabricOnly.clockSlice {o : State} {lv : FabNode → Bool} {t n : Nat} (h : FabricOnly s u) :
    FabricOnly s (clockSlice o lv t u n) := .ite (h.logic _) h

theorem FabricOnly.clockBram {o : State} {lv : FabNode → Bool} {t b : Nat} (h : FabricOnly s u) :
    FabricOnly s (clockBram o lv t u b) := by
  unfold Machine.clockBram
  extract_lets n line edge acc write meet same aFirst other got both u1 u2
  have hwrite (p : Bool) {v : State} (hv : FabricOnly s v) : FabricOnly s (write p v) := by
    unfold write
    split
    · exact hv.writeBram _ _ _
    · exact hv
  have h1 : FabricOnly s u1 := .ite (hwrite _ h) (.ite (hwrite _ h) (.ite (hwrite _ h) (hwrite _ (hwrite _ h))))
  have h2 : FabricOnly s u2 := .ite (h1.setBramPort _ _ _) h1
  exact .ite (h2.setBramPort _ _ _) h2

theorem FabricOnly.clockTarget {o : State} {lv : FabNode → Bool} {t : Nat} (h : FabricOnly s u) :
    FabricOnly s (clockTarget o lv u t) :=
  FabricOnly.foldl (FabricOnly.foldl (h.logic _) fun _ _ h => h.clockSlice) fun _ _ h => h.clockBram

theorem fabricCycle_fabricOnly (s : State) : FabricOnly s (fabricCycle s) :=
  (FabricOnly.foldl (.refl s) fun _ _ h => h.clockTarget).logic _

theorem passFabric_fabricOnly (s : State) : FabricOnly s (passFabric 1 s) :=
  .ite (fabricCycle_fabricOnly s) ((FabricOnly.refl s).logic _)

/-- `u` differs from `s` in registers of `l` and in the remainders of the counters of time at most. -/
def CountsOnly (l : List Nat) (s u : State) : Prop :=
  u = { s with
    regs := u.regs
    tck := { s.tck with uncertRem := u.tck.uncertRem, aonRem := u.tck.aonRem, msRem := u.tck.msRem } } ∧ regsKeep l s u

variable {l : List Nat}

theorem CountsOnly.refl (l : List Nat) (s : State) : CountsOnly l s s := ⟨rfl, regsKeep_refl l s⟩

theorem CountsOnly.rests (h : CountsOnly l s u) (x y z : Nat) :
    CountsOnly l s { u with tck := { u.tck with uncertRem := x, aonRem := y, msRem := z } } := by
  obtain ⟨heq, hkeep⟩ := h
  exact ⟨by rw [heq], hkeep⟩

theorem CountsOnly.setFld (h : CountsOnly l s u) (f : Field) (v : Nat) (hf : f.key 0 0 0 ∈ l) :
    CountsOnly l s (u.setFld f v) := by
  obtain ⟨heq, hkeep⟩ := h
  refine ⟨?_, regsKeep_after_setFld f v 0 0 0 hkeep hf⟩
  rw [heq]
  rfl

theorem CountsOnly.growUncertainty (h : CountsOnly l s u) (k : Nat) (hl : TCK_UNCERT_UNCERT_NS.off ∈ l) :
    CountsOnly l s (growUncertainty k u) := by
  unfold Machine.growUncertainty
  extract_lets rate x
  split
  · exact h
  · split
    · exact h.rests _ _ _
    · exact (h.setFld TCK_UNCERT_UNCERT_NS _ hl).rests _ _ _

theorem CountsOnly.countAlwaysOn (h : CountsOnly l s u) (k : Nat) (hl : TCK_AON_COUNT.off ∈ l) :
    CountsOnly l s (countAlwaysOn k u) := by
  unfold Machine.countAlwaysOn
  extract_lets per x
  split
  · exact h.rests _ _ _
  · exact (h.setFld TCK_AON_COUNT _ hl).rests _ _ _

theorem CountsOnly.countLease (h : CountsOnly l s u) (k : Nat) (hl : leaseKey ∈ l) : CountsOnly l s (countLease k u) := by
  unfold Machine.countLease
  extract_lets x
  split
  · exact h.rests _ _ _
  · exact (h.setFld OWN_STATUS_LEASE_LEFT_MS _ hl).rests _ _ _

theorem growUncertainty_msRem (k : Nat) (s : State) : (growUncertainty k s).tck.msRem = s.tck.msRem := by
  unfold growUncertainty
  extract_lets rate x
  split
  · rfl
  · split <;> rfl

theorem countAlwaysOn_msRem (k : Nat) (s : State) : (countAlwaysOn k s).tck.msRem = s.tck.msRem := by
  unfold countAlwaysOn
  extract_lets per x
  split <;> rfl

theorem countLease_msRem (k : Nat) (s : State) : (countLease k s).tck.msRem = (s.tck.msRem + k) % 9600000 := by
  unfold countLease
  extract_lets x
  split <;> rfl

/-- One root cycle: the device time counts one, and beside the fabric only the counters of time change. -/
theorem passTime_one (s : State) :
    CountsOnly [DEVICE_TIME_TIME.off, TCK_AON_COUNT.off, TCK_UNCERT_UNCERT_NS.off, leaseKey] (passFabric 1 s) (passTime 1 s) ∧
    (passTime 1 s).tck.msRem = (s.tck.msRem + 1) % 9600000 ∧
    (passTime 1 s).fld DEVICE_TIME_TIME = (s.fld DEVICE_TIME_TIME + 1) % 2 ^ 64 := by
  have hfab : FabricOnly s (passFabric 1 s) := passFabric_fabricOnly s
  have htck : (passFabric 1 s).tck = s.tck := by rw [hfab]
  have htime : (passFabric 1 s).fld DEVICE_TIME_TIME = s.fld DEVICE_TIME_TIME := fld_congr _ 0 0 0 (by rw [hfab]; rfl)
  have hcount (l : List Nat) (hu : TCK_UNCERT_UNCERT_NS.off ∈ l) (ha : TCK_AON_COUNT.off ∈ l) (hl : leaseKey ∈ l) :
      CountsOnly l (passFabric 1 s) (countLease 1 (countAlwaysOn 1 (growUncertainty 1 (passFabric 1 s)))) :=
    (((CountsOnly.refl _ _).growUncertainty 1 hu).countAlwaysOn 1 ha).countLease 1 hl
  refine ⟨(hcount _ (by simp) (by simp) (by simp)).setFld DEVICE_TIME_TIME _ (by simp [Field.key]), ?_, ?_⟩
  · unfold passTime
    rw [addFld_tck, countLease_msRem, countAlwaysOn_msRem, growUncertainty_msRem, htck]
  · obtain ⟨-, hkeep⟩ := hcount [TCK_UNCERT_UNCERT_NS.off, TCK_AON_COUNT.off, leaseKey] (by simp) (by simp) (by simp)
    unfold passTime State.addFld
    rw [fld_setFld_same _ _ _ _ _ _ (by unfold Field.good; decide), fld_congr _ 0 0 0 (hkeep _ (by decide)), htime]
    rfl

/-- A root cycle that neither ends the tick nor starts a TDR shot. -/
theorem idleCycle_within {s : State} (hroot : s.rootRuns = true) (hin : s.tck.phase + 1 < s.tickLen)
    (hshot : s.tck.phase + 1 ≠ 96 * s.curN) :
    idleCycle s = (passTime 1 s).modTck (fun t => { t with phase := t.phase + 1 }) := by
  obtain ⟨⟨heq, hkeep⟩, -, -⟩ := passTime_one s
  have hfab : FabricOnly s (passFabric 1 s) := passFabric_fabricOnly s
  have hphase : (passTime 1 s).tck.phase = s.tck.phase := by rw [heq, hfab]
  have hn : ((passTime 1 s).modTck (fun t => { t with phase := t.phase + 1 })).curN = s.curN := by
    refine fld_congr _ 0 0 0 ((hkeep _ (by decide)).trans ?_)
    rw [hfab]
    rfl
  rw [idleCycle, if_pos ⟨hroot, hin⟩]
  dsimp only
  rw [if_neg]
  rw [hn]
  simpa [State.modTck, hphase] using hshot

/-- Settles O1. -/
theorem stepRunsTheFrontCommand : Obligations.StepRunsTheFrontCommand := by
  refine ⟨fun c r s => rfl, fun s hs => ⟨fun hroot hin hshot => ?_, fun hend => ?_⟩⟩
  · obtain ⟨⟨heq, hkeep⟩, hms, htime⟩ := passTime_one s
    have hfab : FabricOnly s (passFabric 1 s) := passFabric_fabricOnly s
    refine ⟨(passTime 1 s).modTck (fun t => { t with phase := t.phase + 1 }), ?_, htime, ?_, fun k hk => ?_⟩
    · rw [step, hs]
      exact congrArg _ (idleCycle_within hroot hin hshot)
    · rw [← hms]
      unfold State.modTck
      rw [heq, hfab]
    · refine (hkeep k hk).trans ?_
      rw [hfab]
      rfl
  · rw [step, hs]
    refine congrArg _ (if_neg ?_)
    rintro ⟨hroot, hin⟩
    rcases hend with h | h
    · simp [hroot] at h
    · omega

end Sys2Proof.Machine
end

section
-- One proof at a time: the memory limit of the check counts a stack for every proof that waits for another.
set_option Elab.async false
/-! SUPPORT. What a command's start and the lease leave as it was: the registers outside the command queues stand, and a packet that passes its checks, of any
issuer rule, has its command's work done. -/

namespace Sys2Proof.Machine

/-- The registers that a start may change lie in the command block's page or in a slot's copy of it. -/
theorem not_mem_startKeys {k : Nat} (p : Packet) (hlo : 0x1188 < k) (hhi : k < slotSpan) : k ∉ startKeys p := by
  have hclass : identClass p.issuer < 2 ^ 4 := bits_lt _ _ _
  simp only [slotSpan] at hhi
  simp only [startKeys, Field.key, HC_QUEUEc_LEVEL, HC_STATUS_EXECUTING, HC_SUBMIT_STATUS_RESERVED, queueOf, slotSpan,
    List.mem_cons, List.not_mem_nil, or_false]
  omega

theorem reg_beginCommand (p : Packet) (s : State) {k : Nat} (hlo : 0x1188 < k) (hhi : k < slotSpan) :
    (beginCommand p s).reg k = s.reg k := beginCommand_regsKeep p s k (not_mem_startKeys p hlo hhi)

theorem fld_beginCommand (p : Packet) (s : State) (f : Field) (i j l : Nat) (hlo : 0x1188 < f.key i j l)
    (hhi : f.key i j l < slotSpan) : (beginCommand p s).fld f i j l = s.fld f i j l :=
  fld_congr f i j l (reg_beginCommand p s hlo hhi)

theorem beginCommand_isOwner (p : Packet) (s : State) (m : Ident) : (beginCommand p s).isOwner m = s.isOwner m := by
  unfold State.isOwner State.owned State.owner State.on
  rw [fld_beginCommand p s OWN_STATUS_OWNED 0 0 0 (by decide) (by decide),
    fld_beginCommand p s OWN_STATUS_OWNER 0 0 0 (by decide) (by decide)]

/-- A packet that starts and passes has its command's work done, whoever may issue it. -/
theorem runCommand_passes {opcode need : Nat} {rule : IssuerRule} {p : Packet} {s : State} (h : s.accepts opcode need rule p)
    (work : State → State) : runCommand opcode need rule p work s = work (beginCommand p s) := by
  obtain ⟨hdark, hroom, hturn, hcheck⟩ := h
  have hcheck' := (packetCheck_congr opcode need rule p (beginCommand_isOwner p s p.issuer)).trans hcheck
  have hopcode := opcode_of_packetCheck hcheck
  unfold runCommand
  rw [if_neg (by simp [hdark, hturn, hopcode]; omega)]
  simp only [hcheck']

@[simp] theorem beginCommand_pending (p : Packet) (s : State) : (beginCommand p s).pending = s.pending := by rw [beginCommand_rest]
@[simp] theorem beginCommand_out (p : Packet) (s : State) : (beginCommand p s).out = s.out := by rw [beginCommand_rest]
@[simp] theorem beginCommand_mends (p : Packet) (s : State) : (beginCommand p s).mends = s.mends := by rw [beginCommand_rest]
@[simp] theorem beginCommand_tck (p : Packet) (s : State) : (beginCommand p s).tck = s.tck := by rw [beginCommand_rest]
@[simp] theorem beginCommand_ctx (p : Packet) (s : State) : (beginCommand p s).ctx = s.ctx := by rw [beginCommand_rest]
@[simp] theorem beginCommand_chg (p : Packet) (s : State) : (beginCommand p s).chg = s.chg := by rw [beginCommand_rest]
@[simp] theorem beginCommand_nva (p : Packet) (s : State) : (beginCommand p s).nva = s.nva := by rw [beginCommand_rest]
@[simp] theorem beginCommand_cfg (p : Packet) (s : State) : (beginCommand p s).cfg = s.cfg := by rw [beginCommand_rest]
@[simp] theorem beginCommand_logic (p : Packet) (s : State) : (beginCommand p s).logic = s.logic := by rw [beginCommand_rest]
@[simp] theorem beginCommand_noc (p : Packet) (s : State) : (beginCommand p s).noc = s.noc := by rw [beginCommand_rest]
@[simp] theorem beginCommand_dram (p : Packet) (s : State) : (beginCommand p s).dram = s.dram := by rw [beginCommand_rest]
@[simp] theorem beginCommand_ring (p : Packet) (s : State) : (beginCommand p s).ring = s.ring := by rw [beginCommand_rest]
@[simp] theorem beginCommand_lanes (p : Packet) (s : State) : (beginCommand p s).lanes = s.lanes := by rw [beginCommand_rest]
@[simp] theorem beginCommand_pwr (p : Packet) (s : State) : (beginCommand p s).pwr = s.pwr := by rw [beginCommand_rest]

@[simp] theorem renewLease_pending (m : Ident) (s : State) : (renewLease m s).pending = s.pending := by rw [renewLease_rest]
@[simp] theorem renewLease_out (m : Ident) (s : State) : (renewLease m s).out = s.out := by rw [renewLease_rest]
@[simp] theorem renewLease_mem (m : Ident) (s : State) : (renewLease m s).mem = s.mem := by rw [renewLease_rest]
@[simp] theorem renewLease_mends (m : Ident) (s : State) : (renewLease m s).mends = s.mends := by rw [renewLease_rest]
@[simp] theorem renewLease_tck (m : Ident) (s : State) : (renewLease m s).tck = s.tck := by rw [renewLease_rest]
@[simp] theorem renewLease_ctx (m : Ident) (s : State) : (renewLease m s).ctx = s.ctx := by rw [renewLease_rest]
@[simp] theorem renewLease_chg (m : Ident) (s : State) : (renewLease m s).chg = s.chg := by rw [renewLease_rest]
@[simp] theorem renewLease_sge (m : Ident) (s : State) : (renewLease m s).sge = s.sge := by rw [renewLease_rest]
@[simp] theorem renewLease_nva (m : Ident) (s : State) : (renewLease m s).nva = s.nva := by rw [renewLease_rest]
@[simp] theorem renewLease_ser (m : Ident) (s : State) : (renewLease m s).ser = s.ser := by rw [renewLease_rest]
@[simp] theorem renewLease_cfg (m : Ident) (s : State) : (renewLease m s).cfg = s.cfg := by rw [renewLease_rest]
@[simp] theorem renewLease_logic (m : Ident) (s : State) : (renewLease m s).logic = s.logic := by rw [renewLease_rest]
@[simp] theorem renewLease_mm (m : Ident) (s : State) : (renewLease m s).mm = s.mm := by rw [renewLease_rest]
@[simp] theorem renewLease_noc (m : Ident) (s : State) : (renewLease m s).noc = s.noc := by rw [renewLease_rest]
@[simp] theorem renewLease_dram (m : Ident) (s : State) : (renewLease m s).dram = s.dram := by rw [renewLease_rest]
@[simp] theorem renewLease_pcie (m : Ident) (s : State) : (renewLease m s).pcie = s.pcie := by rw [renewLease_rest]
@[simp] theorem renewLease_ring (m : Ident) (s : State) : (renewLease m s).ring = s.ring := by rw [renewLease_rest]
@[simp] theorem renewLease_lanes (m : Ident) (s : State) : (renewLease m s).lanes = s.lanes := by rw [renewLease_rest]
@[simp] theorem renewLease_hc (m : Ident) (s : State) : (renewLease m s).hc = s.hc := by rw [renewLease_rest]
@[simp] theorem renewLease_pwr (m : Ident) (s : State) : (renewLease m s).pwr = s.pwr := by rw [renewLease_rest]
@[simp] theorem renewLease_flt (m : Ident) (s : State) : (renewLease m s).flt = s.flt := by rw [renewLease_rest]

end Sys2Proof.Machine
end

section
-- One proof at a time: the memory limit of the check counts a stack for every proof that waits for another.
set_option Elab.async false
/-! SUPPORT. Fields and channel groups: a field after the write of another field of its register, and a group after an update. -/

namespace Sys2Proof.Machine

/-- A field reads as it was written when the value fits. -/
theorem fld_setFld_fits (s : State) (f : Field) {v : Nat} (i j k : Nat) (hv : v < 2 ^ f.w)
    (hf : f.good := by unfold Field.good; decide) : (s.setFld f v i j k).fld f i j k = v := by
  rw [fld_setFld_same s f v i j k hf, Nat.mod_eq_of_lt hv]

/-- A field of the same register that shares no bit with the one written. -/
theorem fld_setFld_beside (s : State) (f g : Field) (v : Nat) {i j k i' j' k' : Nat}
    (h : f.lo + f.w ≤ g.lo ∨ g.lo + g.w ≤ f.lo := by decide) (hf : f.good := by unfold Field.good; decide) :
    (s.setFld f v i j k).fld g i' j' k' = s.fld g i' j' k' :=
  fld_setFld_other s f g v i j k i' j' k' hf (.inr (by omega))

/-- A field of another register than the one written. -/
theorem fld_setFld_elsewhere (s : State) (f g : Field) (v : Nat) {i j k i' j' k' : Nat} (h : g.key i' j' k' ≠ f.key i j k) :
    (s.setFld f v i j k).fld g i' j' k' = s.fld g i' j' k' := fld_setReg_other s g _ _ i' j' k' h

theorem tickCount_toNat (s : State) : s.tickCount.toNat = s.fld TCK_COUNT_COUNT :=
  (BitVec.toNat_ofNat _ _).trans (Nat.mod_eq_of_lt (fld_lt s TCK_COUNT_COUNT 0 0 0))

/-- The frame of the coming boundary reads the tick's period and the tick's own state. -/
theorem frozenSet_congr {s t : State} (hk : t.reg TCK_PERIOD_CUR_N.off = s.reg TCK_PERIOD_CUR_N.off) (ht : t.tck = s.tck) :
    t.frozenSet = s.frozenSet := by
  have hn : t.curN = s.curN := fld_congr TCK_PERIOD_CUR_N 0 0 0 hk
  unfold State.frozenSet State.tickLen
  rw [hn, ht]

@[simp] theorem modGrp_fld (s : State) (g : Nat) (f : Group → Group) (h : Field) (i j k : Nat) :
    (s.modGrp g f).fld h i j k = s.fld h i j k := rfl

@[simp] theorem grp_modGrp_same (s : State) (g : Nat) (f : Group → Group) : (s.modGrp g f).grp g = f (s.grp g) :=
  Memory.get_set_same g _ s.chg.groups

theorem grp_modGrp_other (s : State) {g j : Nat} (f : Group → Group) (h : j ≠ g) : (s.modGrp g f).grp j = s.grp j :=
  Memory.get_set_other _ h s.chg.groups

@[simp] theorem grp_setFld (s : State) (f : Field) (v i j k g : Nat) : (s.setFld f v i j k).grp g = s.grp g := rfl

@[simp] theorem grp_addFld (s : State) (f : Field) (n i j k g : Nat) : (s.addFld f n i j k).grp g = s.grp g := rfl

@[simp] theorem grp_setReg (s : State) (key : Nat) (v : Word) (g : Nat) : (s.setReg key v).grp g = s.grp g := rfl

@[simp] theorem grp_emit (s : State) (o : Out) (g : Nat) : (s.emit o).grp g = s.grp g := rfl

@[simp] theorem grp_draw (s : State) (g : Nat) : (s.draw.2).grp g = s.grp g := rfl

theorem grp_congr {s t : State} (h : t.chg = s.chg) (g : Nat) : t.grp g = s.grp g := by
  unfold State.grp
  rw [h]

@[simp] theorem grp_renewLease (m : Ident) (s : State) (g : Nat) : (renewLease m s).grp g = s.grp g :=
  grp_congr (renewLease_chg m s) g

@[simp] theorem grp_beginCommand (p : Packet) (s : State) (g : Nat) : (beginCommand p s).grp g = s.grp g :=
  grp_congr (beginCommand_chg p s) g

/-- A channel after an update of one channel: a group's list that does not reach the channel has the reset channel there. -/
theorem chan_modChan (x : Group) (i j : Nat) (f : Chan → Chan) :
    (x.modChan i f).chan j = if j = i ∧ i < x.chans.length then f (x.chan j) else x.chan j :=
  nth_modNth Chan.reset f x.chans i j

theorem chan_modChan_same {x : Group} {i : Nat} {f : Chan → Chan} (h : i < x.chans.length) : (x.modChan i f).chan i = f (x.chan i) := by
  rw [chan_modChan, if_pos ⟨rfl, h⟩]

theorem chan_modChan_other (x : Group) {i j : Nat} (f : Chan → Chan) (h : j ≠ i) : (x.modChan i f).chan j = x.chan j := by
  rw [chan_modChan, if_neg (fun hj => h hj.1)]

theorem chan_of_length_le {x : Group} {i : Nat} (h : x.chans.length ≤ i) : x.chan i = Chan.reset := by
  simp [Group.chan, h]

@[simp] theorem grp_showDriver (g : Nat) (s : State) (i j : Nat) : (showDriver g s i).grp j = s.grp j := rfl

theorem grp_modChan_same (s : State) (g i : Nat) (f : Chan → Chan) : (s.modChan g i f).grp g = (s.grp g).modChan i f := by
  rw [State.modChan, grp_showDriver, grp_modGrp_same]

theorem grp_modChan_other (s : State) {g j : Nat} (i : Nat) (f : Chan → Chan) (h : j ≠ g) : (s.modChan g i f).grp j = s.grp j := by
  rw [State.modChan, grp_showDriver, grp_modGrp_other s _ h]

end Sys2Proof.Machine
end

section
-- One proof at a time: the memory limit of the check counts a stack for every proof that waits for another.
set_option Elab.async false
/-! SUPPORT. The pending change of the tick period (R45 to R47, R71). -/

namespace Sys2Proof.Machine

/-- What arming leaves: the number and the flag in TCK_PERIOD_NEXT, and the tick in which the change comes. -/
theorem armPeriod_spec {n : Nat} (hn : n < 2 ^ 17) (tick : Word) (s : State) :
    (armPeriod n tick s).fld TCK_PERIOD_NEXT_NEXT_N = n ∧ (armPeriod n tick s).fld TCK_PERIOD_NEXT_PENDING = 1 ∧
      armPeriod n tick s = { s with regs := (armPeriod n tick s).regs, tck := { s.tck with armedAt := tick } } ∧
      regsKeep [TCK_PERIOD_NEXT_NEXT_N.off] s (armPeriod n tick s) := by
  have hnext : ((s.setFld TCK_PERIOD_NEXT_NEXT_N n).setFld TCK_PERIOD_NEXT_PENDING 1).fld TCK_PERIOD_NEXT_NEXT_N = n :=
    (fld_setFld_other _ _ _ _ _ _ _ _ _ _ (by unfold Field.good; decide) (by unfold Field.apart; decide)).trans
      (fld_setFld_fits _ _ 0 0 0 hn)
  have hpend : ((s.setFld TCK_PERIOD_NEXT_NEXT_N n).setFld TCK_PERIOD_NEXT_PENDING 1).fld TCK_PERIOD_NEXT_PENDING = 1 :=
    fld_setFld_same _ _ _ _ _ _ (by unfold Field.good; decide)
  exact ⟨hnext, hpend, rfl,
    regsKeep_after_setFld TCK_PERIOD_NEXT_PENDING 1 0 0 0 (regsKeep_setFld s TCK_PERIOD_NEXT_NEXT_N n 0 0 0) (by decide)⟩

/-- TCK_PERIOD_NEXT after the CANCEL bit of a write. -/
def periodCancel (h : Half) (data : Word) (s : State) : State :=
  if wbit h data TCK_PERIOD_NEXT_CANCEL then s.setFld TCK_PERIOD_NEXT_PENDING 0 else s

/-- TCK_PERIOD_NEXT after the NEXT_N field of a write. -/
def periodTake (h : Half) (data : Word) (s : State) : State :=
  match wfield h data TCK_PERIOD_NEXT_NEXT_N with
  | some v => if s.on TCK_PERIOD_NEXT_PENDING then s else s.setFld TCK_PERIOD_NEXT_NEXT_N v
  | none => s

section
variable (h : Half) (data : Word) (s : State)

theorem periodNextEffect_eq (hf : s.tck.following = false) : periodNextEffect h data s =
    if wbit h data TCK_PERIOD_NEXT_ARM then armEffect (periodTake h data (periodCancel h data s))
    else periodTake h data (periodCancel h data s) := by
  unfold periodNextEffect periodTake periodCancel
  exact if_neg (by simp [hf])

theorem periodCancel_onlyRegs : onlyRegs [TCK_PERIOD_NEXT_NEXT_N.off] s (periodCancel h data s) := by
  unfold periodCancel
  split
  · exact onlyRegs_after_setFld TCK_PERIOD_NEXT_PENDING 0 0 0 0 ⟨rfl, regsKeep_refl _ s⟩ (by decide)
  · exact ⟨rfl, regsKeep_refl _ s⟩

theorem periodTake_onlyRegs : onlyRegs [TCK_PERIOD_NEXT_NEXT_N.off] s (periodTake h data s) := by
  unfold periodTake
  split
  · split
    · exact ⟨rfl, regsKeep_refl _ s⟩
    · exact onlyRegs_after_setFld TCK_PERIOD_NEXT_NEXT_N _ 0 0 0 ⟨rfl, regsKeep_refl _ s⟩ (by decide)
  · exact ⟨rfl, regsKeep_refl _ s⟩

theorem periodCancel_pending : (periodCancel h data s).fld TCK_PERIOD_NEXT_PENDING =
    if wbit h data TCK_PERIOD_NEXT_CANCEL then 0 else s.fld TCK_PERIOD_NEXT_PENDING := by
  unfold periodCancel
  split
  · exact fld_setFld_same s _ 0 0 0 0 (by unfold Field.good; decide)
  · rfl

theorem periodCancel_nextN : (periodCancel h data s).fld TCK_PERIOD_NEXT_NEXT_N = s.fld TCK_PERIOD_NEXT_NEXT_N := by
  unfold periodCancel
  split
  · exact fld_setFld_other s _ _ 0 0 0 0 0 0 0 (by unfold Field.good; decide) (by unfold Field.apart; decide)
  · rfl

theorem periodTake_pending : (periodTake h data s).fld TCK_PERIOD_NEXT_PENDING = s.fld TCK_PERIOD_NEXT_PENDING := by
  unfold periodTake
  split
  · split
    · rfl
    · exact fld_setFld_other s _ _ _ 0 0 0 0 0 0 (by unfold Field.good; decide) (by unfold Field.apart; decide)
  · rfl

/-- With no change pending a write of the field takes it. -/
theorem periodTake_nextN (hp : s.fld TCK_PERIOD_NEXT_PENDING = 0) : (periodTake h data s).fld TCK_PERIOD_NEXT_NEXT_N =
    (wfield h data TCK_PERIOD_NEXT_NEXT_N).getD (s.fld TCK_PERIOD_NEXT_NEXT_N) := by
  unfold periodTake
  split
  next v hw =>
    have hv : v < 2 ^ 17 := by
      unfold wfield at hw
      split at hw
      · exact Option.some.inj hw ▸ bits_lt _ _ _
      · exact absurd hw (by simp)
    rw [if_neg (by simp [State.on, hp]), hw, Option.getD_some]
    exact fld_setFld_fits _ _ 0 0 0 hv
  next hw => rw [hw, Option.getD_none]

end

/-- Arming for the tick in TCK_CHANGE_AT, with nothing in the way. -/
theorem armEffect_eq {s : State} (hp : s.fld TCK_PERIOD_NEXT_PENDING = 0) (hlo : 16 ≤ s.fld TCK_PERIOD_NEXT_NEXT_N)
    (hhi : s.fld TCK_PERIOD_NEXT_NEXT_N ≤ 66666) (hat : s.fld TCK_COUNT_COUNT < s.fld TCK_CHANGE_AT_AT)
    (hfrozen : s.fld TCK_CHANGE_AT_AT = s.fld TCK_COUNT_COUNT + 1 → s.frozenSet = false) :
    armEffect s = armPeriod (s.fld TCK_PERIOD_NEXT_NEXT_N) (BitVec.ofNat 64 (s.fld TCK_CHANGE_AT_AT)) s := by
  have htick : (BitVec.ofNat 64 (s.fld TCK_CHANGE_AT_AT)).toNat = s.fld TCK_CHANGE_AT_AT :=
    (BitVec.toNat_ofNat _ _).trans (Nat.mod_eq_of_lt (fld_lt s TCK_CHANGE_AT_AT 0 0 0))
  have hzero : BitVec.ofNat 64 (s.fld TCK_CHANGE_AT_AT) ≠ 0 := by
    intro h
    have := congrArg BitVec.toNat h
    rw [htick] at this
    simp only [BitVec.ofNat_eq_ofNat, BitVec.toNat_ofNat, Nat.zero_mod] at this
    omega
  have hon : s.on TCK_PERIOD_NEXT_PENDING = false := by rw [State.on, hp]; rfl
  have hnext : (decide (s.fld TCK_CHANGE_AT_AT = s.fld TCK_COUNT_COUNT + 1) && s.frozenSet) = false := by
    by_cases h : s.fld TCK_CHANGE_AT_AT = s.fld TCK_COUNT_COUNT + 1
    · simp [hfrozen h]
    · simp [h]
  unfold armEffect
  simp only [htick, tickCount_toNat, hon, hnext, Bool.or_false, Bool.false_or]
  rw [if_neg, if_neg hzero]
  simp only [Bool.or_eq_true, Bool.and_eq_true, decide_eq_true_eq, not_or, not_and]
  exact ⟨by omega, fun _ => by omega⟩

/-- The write that arms a change (R45). -/
theorem periodNextEffect_arms {h : Half} {data : Word} {s : State} {n : Nat} (hfoll : s.tck.following = false)
    (hpend : s.fld TCK_PERIOD_NEXT_PENDING = 0) (harm : wbit h data TCK_PERIOD_NEXT_ARM = true)
    (hn : n = (wfield h data TCK_PERIOD_NEXT_NEXT_N).getD (s.fld TCK_PERIOD_NEXT_NEXT_N)) (hlo : 16 ≤ n) (hhi : n ≤ 66666)
    (hafter : s.fld TCK_COUNT_COUNT < s.fld TCK_CHANGE_AT_AT)
    (hfrozen : s.fld TCK_CHANGE_AT_AT = s.fld TCK_COUNT_COUNT + 1 → s.frozenSet = false) :
    ∃ u, onlyRegs [TCK_PERIOD_NEXT_NEXT_N.off] s u ∧
      periodNextEffect h data s = armPeriod n (BitVec.ofNat 64 (s.fld TCK_CHANGE_AT_AT)) u := by
  have hpend' : (periodCancel h data s).fld TCK_PERIOD_NEXT_PENDING = 0 := by rw [periodCancel_pending, hpend, ite_self]
  have hu := onlyRegs_trans (periodCancel_onlyRegs h data s) (periodTake_onlyRegs h data _)
  obtain ⟨hrest, hkeep⟩ := hu
  have hnext := periodTake_nextN h data _ hpend'
  rw [periodCancel_nextN, ← hn] at hnext
  have hat : (periodTake h data (periodCancel h data s)).fld TCK_CHANGE_AT_AT = s.fld TCK_CHANGE_AT_AT :=
    fld_congr _ 0 0 0 (hkeep _ (by decide))
  have hcount : (periodTake h data (periodCancel h data s)).fld TCK_COUNT_COUNT = s.fld TCK_COUNT_COUNT :=
    fld_congr _ 0 0 0 (hkeep _ (by decide))
  have hfroz := frozenSet_congr (hkeep TCK_PERIOD_CUR_N.off (by decide)) (by rw [hrest])
  refine ⟨_, ⟨hrest, hkeep⟩, ?_⟩
  rw [periodNextEffect_eq h data s hfoll, if_pos harm, armEffect_eq]
  · rw [hnext, hat]
  · rw [periodTake_pending, hpend']
  · rwa [hnext]
  · rwa [hnext]
  · rwa [hat, hcount]
  · rwa [hat, hcount, hfroz]

/-- TICK_SET_PERIOD's work on a packet it accepts (R71). -/
theorem execTickSetPeriod_accepts {p : Packet} {s : State} (hacc : s.accepts 0x0801 2 .owner p)
    (hfoll : s.tck.following = false) (hpend : s.fld TCK_PERIOD_NEXT_PENDING = 0) (hlo : 16 ≤ (p.w 1).toNat)
    (hhi : (p.w 1).toNat ≤ 66666) (hw : (p.w 2).toNat = 0 ∨ s.fld TCK_COUNT_COUNT + 256 ≤ (p.w 2).toNat) (tick : Word)
    (htick : tick = BitVec.ofNat 64 (if (p.w 2).toNat = 0 then s.fld TCK_COUNT_COUNT + 1024 else (p.w 2).toNat)) :
    exec (.tickSetPeriod p) s = .next (endCommand p .ok [tick]
      (armPeriod (p.w 1).toNat tick ((beginCommand p s).setFld TCK_CHANGE_AT_AT tick.toNat))) := by
  have hcount := fld_beginCommand p s TCK_COUNT_COUNT 0 0 0 (by decide) (by decide)
  have hpend' : (beginCommand p s).on TCK_PERIOD_NEXT_PENDING = false := by
    rw [State.on, fld_beginCommand p s TCK_PERIOD_NEXT_PENDING 0 0 0 (by decide) (by decide), hpend]
    rfl
  rw [exec_tickSetPeriod]
  unfold execTickSetPeriod
  rw [runCommand_passes hacc]
  simp only [beginCommand_tck, hfoll, hpend', tickCount_toNat, hcount, Bool.false_eq_true, if_false]
  rw [if_neg (by omega), ← htick]

/-- Settles O6. -/
theorem periodChangesBecomePending : Obligations.PeriodChangesBecomePending := by
  refine ⟨fun m h data s n tick hadm hfoll hpend harm hn hlo hhi htick hafter hfrozen => ?_,
    fun m h data s hadm hfoll hcancel harm => ?_,
    fun p s n now tick hacc hfoll hpend hn hlo hhi hnow hw htick hlt => ?_⟩
  · obtain ⟨hrest, hlease⟩ := onlyRegs_renewLease m s
    have hfld (f : Field) (hf : f.key 0 0 0 ≠ leaseKey) : (renewLease m s).fld f = s.fld f := fld_renewLease m s f 0 0 0 hf
    have hpend0 : s.fld TCK_PERIOD_NEXT_PENDING = 0 := by simpa [State.on] using hpend
    obtain ⟨u, ⟨hu, hukeep⟩, hexec⟩ := periodNextEffect_arms (h := h) (data := data) (s := renewLease m s) (n := n)
      (by rwa [hrest]) (by rwa [hfld _ (by decide)]) harm (by rwa [hfld _ (by decide)]) hlo hhi
      (by rwa [hfld TCK_COUNT_COUNT (by decide), hfld TCK_CHANGE_AT_AT (by decide), ← htick])
      (by rwa [hfld TCK_COUNT_COUNT (by decide), hfld TCK_CHANGE_AT_AT (by decide), ← htick,
        frozenSet_congr (reg_renewLease m s (by decide)) (by rw [hrest])])
    rw [hfld TCK_CHANGE_AT_AT (by decide), ← htick] at hexec
    obtain ⟨hnext, hset, hform, hkeep⟩ := armPeriod_spec (n := n) (by omega) (BitVec.ofNat 64 tick) u
    refine ⟨armPeriod n (BitVec.ofNat 64 tick) u, ?_, hnext, hset, ?_, ?_⟩
    · rw [exec_tickPeriodArm]
      unfold execTickPeriodArm
      rw [regWrite_admits hadm, hexec]
    · rw [hform, hu, hrest]
    · exact regsKeep_trans (regsKeep_mono (by simp) hlease)
        (regsKeep_trans (regsKeep_mono (by simp) hukeep) (regsKeep_mono (by simp) hkeep))
  · have hfoll' : (renewLease m s).tck.following = false := by rwa [renewLease_rest]
    refine ⟨periodTake h data (periodCancel h data (renewLease m s)), ?_, ?_, ?_⟩
    · rw [exec_tickPeriodCancel]
      unfold execTickPeriodCancel
      rw [regWrite_admits hadm, periodNextEffect_eq _ _ _ hfoll', if_neg (by simp [harm])]
    · rw [periodTake_pending, periodCancel_pending, if_pos hcancel]
    · exact onlyRegs_trans (onlyRegs_mono (by simp) (onlyRegs_renewLease m s))
        (onlyRegs_mono (by simp) (onlyRegs_trans (periodCancel_onlyRegs h data _) (periodTake_onlyRegs h data _)))
  · have hpend0 : s.fld TCK_PERIOD_NEXT_PENDING = 0 := by simpa [State.on] using hpend
    have hticknat : (BitVec.ofNat 64 tick).toNat = tick := (BitVec.toNat_ofNat _ _).trans (Nat.mod_eq_of_lt hlt)
    subst hn hnow
    have hexec := execTickSetPeriod_accepts hacc hfoll hpend0 hlo hhi hw (BitVec.ofNat 64 tick) (by rw [htick])
    rw [hticknat] at hexec
    obtain ⟨hnext, hset, hform, hkeep⟩ :=
      armPeriod_spec (n := (p.w 1).toNat) (by omega) (BitVec.ofNat 64 tick) ((beginCommand p s).setFld TCK_CHANGE_AT_AT tick)
    refine ⟨_, hexec, hnext, hset, ?_, ?_, ?_⟩
    · rw [fld_congr TCK_CHANGE_AT_AT 0 0 0 (hkeep _ (by decide))]
      exact fld_setFld_fits _ _ 0 0 0 hlt
    · rw [hform]
      unfold State.setFld State.setReg
      rw [beginCommand_rest]
    · exact regsKeep_trans (regsKeep_mono (by simp [Field.key]) (regsKeep_setFld (beginCommand p s) TCK_CHANGE_AT_AT tick 0 0 0))
        (regsKeep_mono (by simp) hkeep)

end Sys2Proof.Machine
end

section
-- One proof at a time: the memory limit of the check counts a stack for every proof that waits for another.
set_option Elab.async false
/-! SUPPORT. TIME_ALIGN and TIME_PTM and what ends them (R61, R62, R72, R73). -/

namespace Sys2Proof.Machine

theorem execTimeAlign_accepts {p : Packet} {s : State} (hacc : s.accepts 0x0802 0 .owner p) (hidle : s.tck.aligning = none) :
    exec (.timeAlign p) s = .next ((startAlign (beginCommand p s)).modTck (fun t => { t with aligning := some p })) := by
  rw [exec_timeAlign]
  unfold execTimeAlign
  rw [runCommand_passes hacc]
  simp [hidle]

theorem execTimePtm_accepts {p : Packet} {s : State} (hacc : s.accepts 0x0803 0 .any p)
    (hmay : ptmMay (ptmFunction p.issuer) s = true) :
    exec (.timePtm p) s = .next (ptmBegin (ptmFunction p.issuer) (some p) (beginCommand p s)) := by
  have hmay' : ptmMay (ptmFunction p.issuer) (beginCommand p s) = true := by
    rw [beginCommand_rest]
    exact hmay
  rw [exec_timePtm]
  unfold execTimePtm
  rw [runCommand_passes hacc]
  simp [hmay']

/-- What an exchange that is answered leaves: the host's time and the device's own. -/
def ptmStored (host dev : Word) (s : State) : State :=
  (s.setReg TCK_PTM_HOST_HOST_NS.off host).setReg TCK_PTM_DEV_DEV_TIME.off dev

theorem ptmStored_regsKeep (host dev : Word) (s : State) :
    regsKeep [TCK_PTM_HOST_HOST_NS.off, TCK_PTM_DEV_DEV_TIME.off] s (ptmStored host dev s) :=
  regsKeep_trans (regsKeep_mono (by simp) (regsKeep_setReg s TCK_PTM_HOST_HOST_NS.off host))
    (regsKeep_mono (by simp) (regsKeep_setReg _ TCK_PTM_DEV_DEV_TIME.off dev))

theorem ptmStored_host (host dev : Word) (s : State) : (ptmStored host dev s).reg TCK_PTM_HOST_HOST_NS.off = host :=
  (reg_setReg_other _ _ (by decide)).trans (reg_setReg_same s _ host)

theorem ptmStored_dev (host dev : Word) (s : State) : (ptmStored host dev s).reg TCK_PTM_DEV_DEV_TIME.off = dev :=
  reg_setReg_same _ _ dev

/-- A measurement writes the quality and the uncertainty of the time, when it runs from its own root clock (R56). -/
theorem measured_regsKeep (s : State) : regsKeep [TCK_STATUS_QUALITY.off, TCK_UNCERT_UNCERT_NS.off] s (measured s) := by
  unfold measured
  split
  · exact regsKeep_refl _ s
  · exact regsKeep_after_setFld TCK_UNCERT_UNCERT_NS _ 0 0 0
      (regsKeep_after_setFld TCK_STATUS_QUALITY 1 0 0 0 (regsKeep_refl _ s) (by simp [Field.key])) (by simp [Field.key])

theorem measured_quality {s : State} (h : s.fld CLK_STATUS_ROOT = 1) : (measured s).fld TCK_STATUS_QUALITY = 1 := by
  unfold measured
  rw [if_neg (by simp [h])]
  exact (fld_setFld_other _ _ _ _ _ _ _ _ _ _ (by unfold Field.good; decide) (by unfold Field.apart; decide)).trans
    (fld_setFld_same _ _ _ _ _ _ (by unfold Field.good; decide))

theorem measured_rest (s : State) : (measured s).tck = s.tck ∧ (measured s).out = s.out ∧ (measured s).mem = s.mem := by
  unfold measured
  split <;> exact ⟨rfl, rfl, rfl⟩

/-- Settles O9. -/
theorem timeCommandsWaitForTheirAnswer : Obligations.TimeCommandsWaitForTheirAnswer := by
  refine ⟨fun p s hacc hidle => ?_, fun p s h => ?_, fun p s hacc hmay => ?_, fun host ago f p rest s h => ?_,
    fun f p rest s h => ?_, fun s hon hmay => ?_⟩
  · refine ⟨_, execTimeAlign_accepts hacc hidle, rfl, rfl, ?_, ?_, ?_⟩
    · exact fld_setFld_same _ _ _ _ _ _ (by unfold Field.good; decide)
    · unfold State.modTck startAlign State.setFld State.setReg
      rw [beginCommand_rest]
    · exact regsKeep_setFld (beginCommand p s) TCK_STATUS_ALIGNED 0 0 0 0
  · rw [exec_timeAlignTimeout]
    unfold execTimeAlignTimeout
    rw [h]
    rfl
  · refine ⟨_, execTimePtm_accepts hacc hmay, ?_, ?_, rfl, rfl⟩
    · unfold ptmBegin State.modTck State.emit
      rw [beginCommand_tck]
    · unfold ptmBegin State.modTck State.emit
      rw [beginCommand_out]
  · obtain ⟨htck, hout, hmem⟩ := measured_rest (ptmStored host (s.deviceTime - BitVec.ofNat 64 ago) s)
    have hkeep := measured_regsKeep (ptmStored host (s.deviceTime - BitVec.ofNat 64 ago) s)
    have hstored := ptmStored_regsKeep host (s.deviceTime - BitVec.ofNat 64 ago) s
    refine ⟨(measured (ptmStored host (s.deviceTime - BitVec.ofNat 64 ago) s)).modTck (fun t => { t with ptm := rest, ptmValid := true }),
      ?_, ?_, ?_, ?_, fun hroot => ?_, hout, hmem, ?_⟩
    · rw [exec_ptmResponse]
      unfold execPtmResponse
      rw [h]
      rfl
    · unfold State.modTck
      rw [htck]
      rfl
    · exact (hkeep _ (by decide)).trans (ptmStored_host _ _ s)
    · exact (hkeep _ (by decide)).trans (ptmStored_dev _ _ s)
    · exact measured_quality ((fld_congr CLK_STATUS_ROOT 0 0 0 (hstored _ (by decide))).trans hroot)
    · exact regsKeep_trans (regsKeep_mono (by simp) hstored) (regsKeep_mono (by simp) hkeep)
  · rw [exec_ptmTimeout]
    unfold execPtmTimeout
    rw [h]
    rfl
  · rw [exec_ptmIntervalExpire]
    unfold execPtmIntervalExpire
    rw [if_pos ⟨hon, hmay⟩]
    rfl

end Sys2Proof.Machine
end

section
-- One proof at a time: the memory limit of the check counts a stack for every proof that waits for another.
set_option Elab.async false
/-! SUPPORT. A write of CHG_MODE that waits, and the entry into SAFE (R214 to R216): what of a group neither a calibration step cut
short nor the safe state of its channels touches. -/

namespace Sys2Proof.Machine

/-- From `s` to `t` the memories stand, and group `g`'s actions, its run of vectors and its stream. -/
structure StillGroup (g : Nat) (s t : State) : Prop where
  mem : t.mem = s.mem
  acts : (t.grp g).acts = (s.grp g).acts
  run : (t.grp g).run = (s.grp g).run
  stream : (t.grp g).stream = (s.grp g).stream

variable {g : Nat} {s t u : State}

theorem StillGroup.refl (g : Nat) (s : State) : StillGroup g s s := ⟨rfl, rfl, rfl, rfl⟩

theorem StillGroup.trans (h : StillGroup g s t) (h' : StillGroup g t u) : StillGroup g s u :=
  ⟨h'.mem.trans h.mem, h'.acts.trans h.acts, h'.run.trans h.run, h'.stream.trans h.stream⟩

theorem StillGroup.foldl {α : Type} {f : State → α → State} {l : List α} (h : StillGroup g s t)
    (hf : ∀ u a, StillGroup g s u → StillGroup g s (f u a)) : StillGroup g s (l.foldl f t) := by
  induction l generalizing t with
  | nil => exact h
  | cons a l ih => exact ih (hf t a h)

theorem StillGroup.setFld (h : StillGroup g s t) {f : Field} {v i j k : Nat} : StillGroup g s (t.setFld f v i j k) :=
  ⟨h.mem, h.acts, h.run, h.stream⟩

theorem StillGroup.emit (h : StillGroup g s t) {o : Out} : StillGroup g s (t.emit o) := ⟨h.mem, h.acts, h.run, h.stream⟩

theorem StillGroup.modGrp (h : StillGroup g s t) {f : Group → Group}
    (hf : ∀ x, (f x).acts = x.acts ∧ (f x).run = x.run ∧ (f x).stream = x.stream) : StillGroup g s (t.modGrp g f) := by
  obtain ⟨ha, hr, hs⟩ := hf (t.grp g)
  exact h.trans ⟨rfl, by rw [grp_modGrp_same, ha], by rw [grp_modGrp_same, hr], by rw [grp_modGrp_same, hs]⟩

theorem StillGroup.modChan (h : StillGroup g s t) {i : Nat} {f : Chan → Chan} : StillGroup g s (t.modChan g i f) := by
  unfold State.modChan Group.modChan showDriver
  refine StillGroup.setFld (StillGroup.modGrp h ?_)
  exact fun _ => ⟨rfl, rfl, rfl⟩

theorem StillGroup.abandonStep (h : StillGroup g s t) : StillGroup g s (abandonStep g t) := by
  unfold Machine.abandonStep endStep State.addFld
  split
  · exact h
  · refine StillGroup.setFld (StillGroup.modGrp (h.foldl fun _ _ h => h.modChan) ?_)
    exact fun _ => ⟨rfl, rfl, rfl⟩

theorem keeperLevel_still (c : Chan) (s : State) : (keeperLevel c s).2.chg = s.chg ∧ (keeperLevel c s).2.mem = s.mem := by
  unfold keeperLevel
  split <;> exact ⟨rfl, rfl⟩

theorem StillGroup.of_chg (h : StillGroup g s t) (hchg : u.chg = t.chg) (hmem : u.mem = t.mem) : StillGroup g s u := by
  have hgrp := grp_congr hchg g
  exact h.trans ⟨hmem, by rw [hgrp], by rw [hgrp], by rw [hgrp]⟩

/-- The safe state of one channel: some random word may be drawn, and the channel is let go. -/
theorem safeChan_eq (g : Nat) (s : State) (i : Nat) : ∃ (u : State) (k : Option Bool), u.chg = s.chg ∧ u.mem = s.mem ∧
    safeChan g s i = u.modChan g i (fun c => { c with base := 3, hold := none, unit := .off, keeper := k.getD c.keeper }) := by
  unfold safeChan
  dsimp only
  split
  · exact ⟨s, none, rfl, rfl, rfl⟩
  · split
    · obtain ⟨hchg, hmem⟩ := keeperLevel_still ((s.grp g).chan i) s
      exact ⟨(keeperLevel ((s.grp g).chan i) s).2, some _, hchg, hmem, rfl⟩
    · exact ⟨s, some false, rfl, rfl, rfl⟩

theorem StillGroup.safeChan (h : StillGroup g s t) {i : Nat} : StillGroup g s (safeChan g t i) := by
  obtain ⟨u, k, hchg, hmem, heq⟩ := safeChan_eq g t i
  rw [heq]
  exact (h.of_chg hchg hmem).modChan

/-- A channel whose driver is off for good. -/
def Chan.isSafe (c : Chan) : Prop := c.base = 3 ∧ c.hold = none

theorem safeChan_isSafe_same (g : Nat) (s : State) (i : Nat) : (((safeChan g s i).grp g).chan i).isSafe := by
  obtain ⟨u, k, -, -, heq⟩ := safeChan_eq g s i
  rw [heq, grp_modChan_same, chan_modChan]
  split
  · exact ⟨rfl, rfl⟩
  next h =>
    rw [chan_of_length_le (by simpa using h)]
    exact ⟨rfl, rfl⟩

theorem safeChan_isSafe {i j : Nat} (h : ((s.grp g).chan j).isSafe) : (((safeChan g s i).grp g).chan j).isSafe := by
  by_cases hj : j = i
  · rw [hj]
    exact safeChan_isSafe_same g s i
  · obtain ⟨u, k, hchg, -, heq⟩ := safeChan_eq g s i
    rwa [heq, grp_modChan_same, chan_modChan_other _ _ hj, grp_congr hchg]

theorem safeChans_isSafe {l : List Nat} {j : Nat} (h : j ∈ l ∨ ((s.grp g).chan j).isSafe) :
    (((l.foldl (safeChan g) s).grp g).chan j).isSafe := by
  induction l generalizing s with
  | nil => exact h.resolve_left (by simp)
  | cons i l ih =>
    refine ih ?_
    by_cases hj : j = i
    · exact .inr (hj ▸ safeChan_isSafe_same g s i)
    · exact h.imp (fun hm => (List.mem_cons.mp hm).resolve_left hj) safeChan_isSafe

theorem applySafe_isSafe (g : Nat) (s : State) {i : Nat} (h : i < 16) : (((applySafe g s).grp g).chan i).isSafe :=
  safeChans_isSafe (.inl (List.mem_range.mpr h))

theorem StillGroup.applySafe (h : StillGroup g s t) : StillGroup g s (applySafe g t) := h.foldl fun _ _ h => h.safeChan

theorem StillGroup.refuseCompanions (h : StillGroup g s t) : StillGroup g s (refuseCompanions g t) :=
  StillGroup.foldl (StillGroup.modGrp h fun _ => ⟨rfl, rfl, rfl⟩) fun _ _ h => h.emit

theorem endStream_spec (g : Nat) (s : State) : (endStream g s).mem = s.mem ∧ ((endStream g s).grp g).acts = (s.grp g).acts ∧
    ((endStream g s).grp g).run = (s.grp g).run ∧ ((endStream g s).grp g).stream = none := by
  unfold endStream
  split
  next h => exact ⟨rfl, rfl, rfl, h⟩
  · simp

@[simp] theorem grp_syncPlaying (g j : Nat) (s : State) : (syncPlaying g s).grp j = s.grp j := rfl

/-- The group's register and its run, before the change to SAFE ends its stream and its claims. -/
def clearedMode (g : Nat) (s : State) : State :=
  (s.setFld CHG_MODE_MODE mdSafe g).modGrp g
    (fun x => { x with run := none, crossing := [], closed := false, safeHeld := false, responses := [] })

/-- The actions that SAFE does not accept are cut, in a state whose stream and foreign claims have ended. -/
def cutForSafe (g : Nat) (s : State) : State :=
  let cut := ((s.grp g).acts.filter (fun a => !modeAccepts mdSafe a.act.kind)).map GAct.slot
  cut.foldl (fenceAct g)
    (s.modGrp g (fun x => { x with waiters := x.waiters.filter (fun w => !(w.2.group = g && cut.contains w.2.slot)) }))

theorem leaveMode_safe_eq (g : Nat) (s : State) : leaveMode g mdSafe s =
    syncPlaying g (applySafe g (cutForSafe g (refuseCompanions g (endStream g (clearedMode g s))))) := by
  have hfabric : ¬ (mdSafe = mdFabric ∨ mdSafe = mdStream) := by decide
  have hclaims : ¬ (mdSafe = mdContext ∨ mdSafe = mdParametric) := by decide
  unfold leaveMode cutForSafe clearedMode
  simp only [if_neg hfabric, if_neg hclaims, if_true]

theorem StillGroup.cutForSafe (h : StillGroup g s t) (hacts : (t.grp g).acts = []) : StillGroup g s (cutForSafe g t) := by
  unfold Machine.cutForSafe
  rw [hacts]
  exact StillGroup.modGrp h fun _ => ⟨rfl, rfl, rfl⟩

/-- A group without actions that leaves its mode for SAFE. -/
theorem leaveMode_safe_spec (hacts : (s.grp g).acts = []) :
    (leaveMode g mdSafe s).mem = s.mem ∧ ((leaveMode g mdSafe s).grp g).run = none ∧
      ((leaveMode g mdSafe s).grp g).stream = none ∧ ∀ i, i < 16 → (((leaveMode g mdSafe s).grp g).chan i).isSafe := by
  obtain ⟨hmem, hacts', hrun, hstream⟩ := endStream_spec g (clearedMode g s)
  have hcleared : (clearedMode g s).mem = s.mem ∧ ((clearedMode g s).grp g).acts = [] ∧ ((clearedMode g s).grp g).run = none := by
    unfold clearedMode
    simp [hacts]
  obtain ⟨hmem0, hacts0, hrun0⟩ := hcleared
  have hclaims : StillGroup g (endStream g (clearedMode g s)) (refuseCompanions g (endStream g (clearedMode g s))) :=
    (StillGroup.refl g _).refuseCompanions
  have hcut := hclaims.cutForSafe (hclaims.acts.trans (hacts'.trans hacts0))
  have hall : StillGroup g (endStream g (clearedMode g s)) (leaveMode g mdSafe s) := by
    rw [leaveMode_safe_eq]
    exact hcut.applySafe.setFld
  refine ⟨hall.mem.trans (hmem.trans hmem0), hall.run.trans (hrun.trans hrun0), hall.stream.trans hstream, fun i hi => ?_⟩
  rw [leaveMode_safe_eq, grp_syncPlaying]
  exact applySafe_isSafe g _ hi

theorem StillGroup.readySafe (h : StillGroup g s t) : StillGroup g s (readySafe g t) :=
  StillGroup.abandonStep (StillGroup.modGrp h.setFld.setFld fun _ => ⟨rfl, rfl, rfl⟩)

/-- CHG_MODE before SAFE is entered: the change that was pending is withdrawn and the reflex path is off. -/
theorem fld_readySafe (g : Nat) (s : State) {f : Field} (hf : f.key g 0 0 = CHG_MODE_MODE.key g 0 0) :
    (readySafe g s).fld f g = ((s.setFld CHG_MODE_PENDING 0 g).setFld CHG_MODE_REFLEX_ON 0 g).fld f g :=
  fld_congr f g 0 0 ((groupWork_trans (groupWork_modGrp _ g _) (groupWork_abandonStep g _)).2 _ (hf ▸ not_groupKey_mode g))

theorem readySafe_mode (g : Nat) (s : State) : (readySafe g s).mode g = s.mode g := by
  unfold State.mode
  rw [fld_readySafe g s (f := CHG_MODE_MODE) rfl, fld_setFld_beside _ CHG_MODE_REFLEX_ON CHG_MODE_MODE,
    fld_setFld_beside _ CHG_MODE_PENDING CHG_MODE_MODE]

theorem readySafe_flags (g : Nat) (s : State) :
    (readySafe g s).fld CHG_MODE_PENDING g = 0 ∧ (readySafe g s).fld CHG_MODE_REFLEX_ON g = 0 := by
  refine ⟨?_, ?_⟩
  · rw [fld_readySafe g s (f := CHG_MODE_PENDING) rfl, fld_setFld_beside _ CHG_MODE_REFLEX_ON CHG_MODE_PENDING]
    exact fld_setFld_fits s CHG_MODE_PENDING g 0 0 (by decide)
  · rw [fld_readySafe g s (f := CHG_MODE_REFLEX_ON) rfl]
    exact fld_setFld_fits _ CHG_MODE_REFLEX_ON g 0 0 (by decide)

/-- A change to SAFE writes MODE and none of the other fields of CHG_MODE. -/
theorem fld_leaveMode_safe (g : Nat) (s : State) {f : Field} (hf : f.key g 0 0 = CHG_MODE_MODE.key g 0 0) :
    (leaveMode g mdSafe s).fld f g = (s.setFld CHG_MODE_MODE mdSafe g).fld f g :=
  fld_congr f g 0 0 ((leaveMode_safe g s).2 _ (hf ▸ not_groupKey_mode g))

/-- FORCE_SAFE on a group without actions that is in another mode (R215, R216). -/
theorem enterSafe_spec (hmode : s.mode g ≠ mdSafe) (hacts : (s.grp g).acts = []) :
    (enterSafe g s).fld CHG_MODE_PENDING g = 0 ∧ (enterSafe g s).fld CHG_MODE_REFLEX_ON g = 0 ∧
      (∀ i, i < 16 → (((enterSafe g s).grp g).chan i).isSafe) ∧ ((enterSafe g s).grp g).run = none ∧
      ((enterSafe g s).grp g).stream = none ∧ (enterSafe g s).mem = s.mem := by
  have hready := (StillGroup.refl g s).readySafe
  obtain ⟨hp, hr⟩ := readySafe_flags g s
  obtain ⟨hmem, hrun, hstream, hsafe⟩ := leaveMode_safe_spec (hready.acts.trans hacts)
  rw [enterSafe_eq, if_neg (by rwa [readySafe_mode])]
  refine ⟨?_, ?_, hsafe, hrun, hstream, hmem.trans hready.mem⟩
  · rw [fld_leaveMode_safe g _ (f := CHG_MODE_PENDING) rfl, fld_setFld_beside _ CHG_MODE_MODE CHG_MODE_PENDING, hp]
  · rw [fld_leaveMode_safe g _ (f := CHG_MODE_REFLEX_ON) rfl, fld_setFld_beside _ CHG_MODE_MODE CHG_MODE_REFLEX_ON, hr]

/-- The change that a write of CHG_MODE leaves in the group's register. -/
def storeMode (g : Nat) (data : Word) (s : State) : State :=
  (((s.setFld CHG_MODE_NEXT (bits data 4 3) g).setFld CHG_MODE_REFLEX (bits data 8 1) g).setFld
    CHG_MODE_REGION (bits data 16 6) g).setFld CHG_MODE_RELOAD_ACT (bits data 24 1) g

/-- A write of CHG_MODE without FORCE_SAFE that is taken. -/
theorem modeEffect_waits {h : Half} {data : Word} (hh : h.reaches 0 = true) (hhalt : s.on FLT_STATUS_HALTED = false)
    (hforce : wbit h data CHG_MODE_FORCE_SAFE = false) (hnext : bits data 4 3 < 6) (hpat : (s.grp g).pattern = false) :
    modeEffect g h data s = ((storeMode g data s).setFld CHG_MODE_PENDING 1 g).modGrp g
      (fun x => { x with modeDue := (storeMode g data s).nextDue, modeFrozen := s.modeFroze g }) := by
  unfold modeEffect storeMode
  rw [if_neg (by simp [hh, hhalt]), if_neg (by simp [hforce])]
  dsimp only
  rw [if_neg (by simp only [hpat, Bool.false_eq_true, false_and, or_false]; omega)]

theorem modeEffect_forces {h : Half} {data : Word} (hh : h.reaches 0 = true) (hhalt : s.on FLT_STATUS_HALTED = false)
    (hforce : wbit h data CHG_MODE_FORCE_SAFE = true) : modeEffect g h data s = enterSafe g s := by
  unfold modeEffect
  rw [if_neg (by simp [hh, hhalt]), if_pos hforce]

theorem storeMode_regsKeep (g : Nat) (data : Word) (s : State) : regsKeep [CHG_MODE_MODE.key g 0 0] s (storeMode g data s) := by
  have hkey (f : Field) (hf : f.key g 0 0 = CHG_MODE_MODE.key g 0 0) : f.key g 0 0 ∈ [CHG_MODE_MODE.key g 0 0] := by simp [hf]
  exact regsKeep_after_setFld CHG_MODE_RELOAD_ACT _ g 0 0 (regsKeep_after_setFld CHG_MODE_REGION _ g 0 0
    (regsKeep_after_setFld CHG_MODE_REFLEX _ g 0 0 (regsKeep_setFld s CHG_MODE_NEXT _ g 0 0) (hkey _ rfl)) (hkey _ rfl)) (hkey _ rfl)

theorem fld_storeMode (g : Nat) (data : Word) (s : State) :
    (storeMode g data s).fld CHG_MODE_NEXT g = bits data 4 3 ∧ (storeMode g data s).fld CHG_MODE_REFLEX g = bits data 8 1 ∧
      (storeMode g data s).fld CHG_MODE_REGION g = bits data 16 6 ∧ (storeMode g data s).fld CHG_MODE_RELOAD_ACT g = bits data 24 1 ∧
      (storeMode g data s).mode g = s.mode g := by
  unfold storeMode
  refine ⟨?_, ?_, ?_, ?_, ?_⟩
  · rw [fld_setFld_beside _ CHG_MODE_RELOAD_ACT CHG_MODE_NEXT, fld_setFld_beside _ CHG_MODE_REGION CHG_MODE_NEXT,
      fld_setFld_beside _ CHG_MODE_REFLEX CHG_MODE_NEXT]
    exact fld_setFld_fits s CHG_MODE_NEXT g 0 0 (bits_lt data 4 3)
  · rw [fld_setFld_beside _ CHG_MODE_RELOAD_ACT CHG_MODE_REFLEX, fld_setFld_beside _ CHG_MODE_REGION CHG_MODE_REFLEX]
    exact fld_setFld_fits _ CHG_MODE_REFLEX g 0 0 (bits_lt data 8 1)
  · rw [fld_setFld_beside _ CHG_MODE_RELOAD_ACT CHG_MODE_REGION]
    exact fld_setFld_fits _ CHG_MODE_REGION g 0 0 (bits_lt data 16 6)
  · exact fld_setFld_fits _ CHG_MODE_RELOAD_ACT g 0 0 (bits_lt data 24 1)
  · unfold State.mode
    rw [fld_setFld_beside _ CHG_MODE_RELOAD_ACT CHG_MODE_MODE, fld_setFld_beside _ CHG_MODE_REGION CHG_MODE_MODE,
      fld_setFld_beside _ CHG_MODE_REFLEX CHG_MODE_MODE, fld_setFld_beside _ CHG_MODE_NEXT CHG_MODE_MODE]

theorem nextDue_congr (hk : t.reg TCK_PERIOD_CUR_N.off = s.reg TCK_PERIOD_CUR_N.off) (ht : t.tck = s.tck) : t.nextDue = s.nextDue := by
  unfold State.nextDue
  rw [frozenSet_congr hk ht, ht]

theorem modeFroze_renewLease (m : Ident) (s : State) (g : Nat) : (renewLease m s).modeFroze g = s.modeFroze g := by
  have hkey : CHG_MODE_MODE.key g 0 0 ≠ leaseKey := by
    simp only [Field.key, CHG_MODE_MODE, leaseKey, OWN_STATUS_LEASE_LEFT_MS]
    omega
  unfold State.modeFroze State.on
  rw [fld_renewLease m s CHG_MODE_PENDING g 0 0 hkey, frozenSet_congr (reg_renewLease m s (by decide)) (renewLease_tck m s),
    grp_renewLease, renewLease_tck, reg_renewLease m s (k := CHG_MODE_NEXT.key g 0 0) hkey]

theorem reaches_zero {h : Half} (hh : h ≠ .high) : h.reaches 0 = true := by
  cases h with
  | full => decide
  | low => decide
  | high => exact absurd rfl hh

/-- The registers of the groups lie above the lease's. -/
theorem modeKey_ne_low {k : Nat} (g : Nat) (hk : k < 0xC00000) : k ≠ CHG_MODE_MODE.key g 0 0 := by
  simp only [Field.key, CHG_MODE_MODE]
  omega

/-- A write that is taken, from the state after the lease. -/
theorem storeMode_spec {g : Nat} {data : Word} {s t : State} {due : Nat} {frozen : Option Word}
    (ht : t = ((storeMode g data s).setFld CHG_MODE_PENDING 1 g).modGrp g (fun x => { x with modeDue := due, modeFrozen := frozen })) :
    t.fld CHG_MODE_NEXT g = bits data 4 3 ∧ t.fld CHG_MODE_REFLEX g = bits data 8 1 ∧
      t.fld CHG_MODE_REGION g = bits data 16 6 ∧ t.fld CHG_MODE_RELOAD_ACT g = bits data 24 1 ∧ t.fld CHG_MODE_PENDING g = 1 ∧
      t.mode g = s.mode g ∧ t.grp g = { s.grp g with modeDue := due, modeFrozen := frozen } ∧ (∀ j, j ≠ g → t.grp j = s.grp j) ∧
      t = { s with regs := t.regs, chg := { s.chg with groups := t.chg.groups } } ∧ regsKeep [CHG_MODE_MODE.key g 0 0] s t := by
  obtain ⟨hnext, hreflex, hregion, hreload, hmode⟩ := fld_storeMode g data s
  subst ht
  refine ⟨?_, ?_, ?_, ?_, ?_, ?_, ?_, fun j hj => ?_, rfl, ?_⟩
  · rw [modGrp_fld, fld_setFld_beside _ CHG_MODE_PENDING CHG_MODE_NEXT, hnext]
  · rw [modGrp_fld, fld_setFld_beside _ CHG_MODE_PENDING CHG_MODE_REFLEX, hreflex]
  · rw [modGrp_fld, fld_setFld_beside _ CHG_MODE_PENDING CHG_MODE_REGION, hregion]
  · rw [modGrp_fld, fld_setFld_beside _ CHG_MODE_PENDING CHG_MODE_RELOAD_ACT, hreload]
  · rw [modGrp_fld]
    exact fld_setFld_fits _ CHG_MODE_PENDING g 0 0 (by decide)
  · unfold State.mode at hmode ⊢
    rw [modGrp_fld, fld_setFld_beside _ CHG_MODE_PENDING CHG_MODE_MODE, hmode]
  · rw [grp_modGrp_same]
    rfl
  · rw [grp_modGrp_other _ _ hj]
    rfl
  · exact regsKeep_after_setFld CHG_MODE_PENDING 1 g 0 0 (storeMode_regsKeep g data s) (by simp [Field.key, CHG_MODE_PENDING, CHG_MODE_MODE])

/-- Settles O16. -/
theorem modeWritesWaitAndForceSafeActs : Obligations.ModeWritesWaitAndForceSafeActs := by
  refine ⟨fun m g h data s hadm hh hhalt hforce hnext hpat => ?_, fun m g h data s hadm hh hhalt hforce hmode hacts hwait => ?_⟩
  · have hlease := onlyRegs_renewLease m s
    obtain ⟨hrest, hkeep⟩ := hlease
    have hhalt' : (renewLease m s).on FLT_STATUS_HALTED = false := by
      rw [State.on, fld_renewLease m s _ 0 0 0 (by decide)]
      exact hhalt
    have heff := modeEffect_waits (g := g.val) (data := data) (reaches_zero hh) hhalt' hforce hnext (by rwa [grp_renewLease])
    rw [nextDue_congr ((storeMode_regsKeep g data _ _ (by simpa using modeKey_ne_low g.val (by decide))).trans (reg_renewLease m s (by decide)))
      (renewLease_tck m s), modeFroze_renewLease] at heff
    obtain ⟨h1, h2, h3, h4, h5, h6, h7, h8, h9, h10⟩ := storeMode_spec heff
    refine ⟨modeEffect g h data (renewLease m s), ?_, h1, h2, h3, h4, h5, ?_, ?_, fun j hj => ?_, ?_, ?_⟩
    · rw [exec_modeWrite]
      unfold execModeWrite
      rw [regWrite_admits hadm]
    · rw [h6]
      exact fld_renewLease m s CHG_MODE_MODE g 0 0 (modeKey_ne_low g.val (by decide)).symm
    · rw [h7, grp_renewLease]
    · rw [h8 j hj, grp_renewLease]
    · rw [h9, hrest]
    · exact regsKeep_trans (regsKeep_mono (by simp) hkeep) (regsKeep_mono (by simp) h10)
  · have hhalt' : (renewLease m s).on FLT_STATUS_HALTED = false := by
      rw [State.on, fld_renewLease m s _ 0 0 0 (by decide)]
      exact hhalt
    have hmode' : (renewLease m s).mode g = s.mode g := fld_renewLease m s CHG_MODE_MODE g 0 0 (modeKey_ne_low g.val (by decide)).symm
    obtain ⟨hp, hr, hsafe, hrun, hstream, hmem⟩ :=
      enterSafe_spec (g := g.val) (s := renewLease m s) (by rwa [hmode']) (by rwa [grp_renewLease])
    refine ⟨enterSafe g (renewLease m s), ?_, enterSafe_mode_same g _, hp, hr, hsafe, hrun, hstream, hmem.trans (renewLease_mem m s)⟩
    rw [exec_forceSafe]
    unfold execForceSafe
    rw [regWrite_admits hadm, modeEffect_forces (reaches_zero hh) hhalt' hforce]

end Sys2Proof.Machine
end

section
-- One proof at a time: the memory limit of the check counts a stack for every proof that waits for another.
set_option Elab.async false
/-! SUPPORT. The settings of a channel group: period, edges, levels and safe states (R169, R170, R178, R179, R217). -/

namespace Sys2Proof.Machine

/-- The registers of the channel groups lie above the lease's. -/
theorem fld_renewLease_group (m : Ident) (s : State) (f : Field) (i j k : Nat) (hf : 0xC00000 ≤ f.off := by decide) :
    (renewLease m s).fld f i j k = s.fld f i j k := by
  refine fld_renewLease m s f i j k ?_
  simp only [Field.key, leaseKey, OWN_STATUS_LEASE_LEFT_MS]
  omega

theorem on_renewLease_group (m : Ident) (s : State) (f : Field) (i j k : Nat) (hf : 0xC00000 ≤ f.off := by decide) :
    (renewLease m s).on f i j k = s.on f i j k := by
  rw [State.on, fld_renewLease_group m s f i j k hf]
  rfl

theorem nextDue_renewLease (m : Ident) (s : State) : (renewLease m s).nextDue = s.nextDue :=
  nextDue_congr (reg_renewLease m s (by decide)) (renewLease_tck m s)

theorem periodFroze_renewLease (m : Ident) (s : State) (g : Nat) : (renewLease m s).periodFroze g = s.periodFroze g := by
  unfold State.periodFroze
  rw [grp_renewLease, frozenSet_congr (reg_renewLease m s (by decide)) (renewLease_tck m s), renewLease_tck]

theorem edgesFit_renewLease (m : Ident) (s : State) (g p : Nat) : (renewLease m s).edgesFit g p = s.edgesFit g p := by
  unfold State.edgesFit
  simp only [grp_renewLease, fld_renewLease_group m s CHG_CHi_EDGES_DRIVE, fld_renewLease_group m s CHG_CHi_EDGES_STROBE]

theorem groupBusy_renewLease (m : Ident) (s : State) (g : Nat) : (renewLease m s).groupBusy g = s.groupBusy g := by
  unfold State.groupBusy
  rw [on_renewLease_group m s CHG_STATUS_PLAYING, on_renewLease_group m s CHG_STATUS_CLAIMED]

variable {s : State} {g : Nat} {h : Half} {data : Word}

theorem periodEffect_taken (hh : h ≠ .high) (hplay : s.on CHG_STATUS_PLAYING g = false) (hp : bits data 0 16 ≠ 0)
    (hfit : s.edgesFit g (bits data 0 16) = true) :
    periodEffect g h data s = (s.setFld CHG_PERIOD_CYCLES (bits data 0 16) g).modGrp g
      (fun x => { x with pendPeriod := some (bits data 0 16, s.nextDue), periodFrozen := s.periodFroze g }) := by
  unfold periodEffect
  dsimp only
  rw [if_neg (by simp [reaches_zero hh, hplay, hp]), if_neg (by simp [hfit])]

theorem levelEffect_taken (hh : h ≠ .high) (heven : g % 2 = 0) (hb : s.groupBusy g = false) (hb' : s.groupBusy (g + 1) = false)
    (hlevel : 1490 ≤ bits data 0 12) :
    levelEffect g h data s = (s.setFld CHG_DRV_LEVEL_VIH (bits data 0 12) g).setFld CHG_DRV_LEVEL_VIH (bits data 0 12) (g + 1) := by
  unfold levelEffect
  rw [if_neg (by simp [reaches_zero hh, heven, hb, hb']), if_neg (by omega)]

theorem safeStateEffect_taken (hh : h ≠ .high) (hv : bits data 0 2 ≠ 3) (hk : bits data 0 2 ≠ 1) :
    safeStateEffect g h data s = s.setFld CHG_SAFE_STATE (bits data 0 2) g := by
  unfold safeStateEffect setSafeState
  rw [if_neg (by simp [reaches_zero hh, hv]), if_neg (fun hc => hk hc.1)]

theorem edgesEffect_taken {i : Nat} (hd : bits data 0 23 < 128 * (s.grp g).smallPeriod)
    (hs : bits data 32 23 < 128 * (s.grp g).smallPeriod) :
    edgesEffect g i .full data s =
      pendEdge g i ((s.setFld CHG_CHi_EDGES_DRIVE (bits data 0 23) g i).setFld CHG_CHi_EDGES_STROBE (bits data 32 23) g i) := by
  unfold edgesEffect
  rw [merged_full]
  dsimp only
  rw [if_neg (by omega)]

theorem pendEdge_spec (g i : Nat) (s : State) : i ∈ ((pendEdge g i s).grp g).pendEdges ∧
    ((pendEdge g i s).grp g).chans = (s.grp g).chans ∧ (∀ j, j ≠ g → (pendEdge g i s).grp j = s.grp j) := by
  unfold pendEdge
  refine ⟨?_, ?_, fun j hj => grp_modGrp_other s _ hj⟩
  · rw [grp_modGrp_same]
    split
    next h => simpa using h
    · simp
  · rw [grp_modGrp_same]
    split <;> rfl

/-- Settles O17. -/
theorem groupSettingsAreStored : Obligations.GroupSettingsAreStored := by
  refine ⟨fun m g h data s p hadm hh hplay hp hpos hfit => ?_, fun m g i data s hadm hd hs => ?_,
    fun m g h data s hadm hh heven hb hb' hlevel => ?_, fun m g h data s hadm hh hv hk => ?_⟩
  · subst hp
    refine ⟨periodEffect g h data (renewLease m s), ?_, ?_⟩
    · rw [exec_periodWrite]
      unfold execPeriodWrite
      rw [regWrite_admits hadm]
    rw [periodEffect_taken hh (by rwa [on_renewLease_group m s CHG_STATUS_PLAYING]) hpos (by rwa [edgesFit_renewLease]), nextDue_renewLease,
      periodFroze_renewLease]
    refine ⟨?_, ?_, fun j hj => ?_, ?_, ?_⟩
    · exact fld_setFld_fits _ CHG_PERIOD_CYCLES g 0 0 (bits_lt data 0 16)
    · rw [grp_modGrp_same, grp_setFld, grp_renewLease]
    · rw [grp_modGrp_other _ _ hj, grp_setFld, grp_renewLease]
    · unfold State.modGrp State.setGrp State.setFld State.setReg
      rw [renewLease_rest]
    · exact regsKeep_trans (regsKeep_mono (by simp) (renewLease_regsKeep m s))
        (regsKeep_mono (by simp) (regsKeep_setFld (renewLease m s) CHG_PERIOD_CYCLES _ g 0 0))
  · obtain ⟨hin, hchans, hother⟩ := pendEdge_spec g i
      (((renewLease m s).setFld CHG_CHi_EDGES_DRIVE (bits data 0 23) g i).setFld CHG_CHi_EDGES_STROBE (bits data 32 23) g i)
    refine ⟨edgesEffect g i .full data (renewLease m s), ?_, ?_⟩
    · rw [exec_edgesWrite]
      unfold execEdgesWrite
      rw [regWrite_admits hadm]
    rw [edgesEffect_taken (by rwa [grp_renewLease]) (by rwa [grp_renewLease])]
    refine ⟨?_, ?_, hin, ?_, fun j hj => ?_, ?_, ?_⟩
    · unfold pendEdge
      rw [modGrp_fld, fld_setFld_beside _ CHG_CHi_EDGES_STROBE CHG_CHi_EDGES_DRIVE]
      exact fld_setFld_fits _ CHG_CHi_EDGES_DRIVE g i 0 (bits_lt data 0 23)
    · exact fld_setFld_fits _ CHG_CHi_EDGES_STROBE g i 0 (bits_lt data 32 23)
    · rw [hchans, grp_setFld, grp_setFld, grp_renewLease]
    · rw [hother j hj, grp_setFld, grp_setFld, grp_renewLease]
    · unfold pendEdge State.modGrp State.setGrp State.setFld State.setReg
      rw [renewLease_rest]
    · refine regsKeep_after_setFld CHG_CHi_EDGES_STROBE _ g i 0 (regsKeep_after_setFld CHG_CHi_EDGES_DRIVE _ g i 0
        (regsKeep_mono (by simp) (renewLease_regsKeep m s)) (by simp)) ?_
      simp [Field.key, CHG_CHi_EDGES_STROBE, CHG_CHi_EDGES_DRIVE]
  · have hkeys : CHG_DRV_LEVEL_VIH.key g 0 0 ≠ CHG_DRV_LEVEL_VIH.key (g.val + 1) 0 0 := by
      simp only [Field.key, CHG_DRV_LEVEL_VIH]
      omega
    refine ⟨levelEffect g h data (renewLease m s), ?_, ?_⟩
    · rw [exec_levelWrite]
      unfold execLevelWrite
      rw [regWrite_admits hadm]
    rw [levelEffect_taken hh heven (by rwa [groupBusy_renewLease]) (by rwa [groupBusy_renewLease]) hlevel]
    refine ⟨?_, ?_, ?_⟩
    · rw [fld_setFld_elsewhere _ _ _ _ hkeys]
      exact fld_setFld_fits _ CHG_DRV_LEVEL_VIH g 0 0 (bits_lt data 0 12)
    · exact fld_setFld_fits _ CHG_DRV_LEVEL_VIH (g.val + 1) 0 0 (bits_lt data 0 12)
    · exact onlyRegs_after_setFld CHG_DRV_LEVEL_VIH _ (g.val + 1) 0 0 (onlyRegs_after_setFld CHG_DRV_LEVEL_VIH _ g 0 0
        (onlyRegs_mono (by simp) (onlyRegs_renewLease m s)) (by simp)) (by simp)
  · refine ⟨safeStateEffect g h data (renewLease m s), ?_, ?_⟩
    · rw [exec_safeStateWrite]
      unfold execSafeStateWrite
      rw [regWrite_admits hadm]
    rw [safeStateEffect_taken hh hv hk]
    exact ⟨fld_setFld_fits _ CHG_SAFE_STATE g 0 0 (bits_lt data 0 2),
      onlyRegs_after_setFld CHG_SAFE_STATE _ g 0 0 (onlyRegs_mono (by simp) (onlyRegs_renewLease m s)) (by simp)⟩

end Sys2Proof.Machine
end

section
-- One proof at a time: the memory limit of the check counts a stack for every proof that waits for another.
set_option Elab.async false
/-! SUPPORT. Streams from DRAM and vectors from the fabric (R198, R199, R201, R203). -/

namespace Sys2Proof.Machine

variable {s : State} {g : Nat} {data : Word}

/-- The stream that a GO starts. -/
def goStream (g : Nat) (s : State) : StreamState :=
  { number := (s.grp g).streams + 1, buffer := [], asked := 0, got := 0, playing := false,
    atOnce := decide (s.fld CHG_STREAM_AT_TICK g ≤ s.fld TCK_COUNT_COUNT), stop := false, due := s.nextDue }

/-- CHG_STREAM_CTL after the two settings of a write that finds no stream armed. -/
def storeStream (g : Nat) (data : Word) (s : State) : State :=
  (s.setFld CHG_STREAM_CTL_UNDERRUN_ACT (bits data 2 1) g).setFld CHG_STREAM_CTL_LENGTH (bits data 8 28) g

/-- The registers and the group of a stream that has begun. -/
def armStream (g : Nat) (s : State) : State :=
  ((s.modGrp g (fun x => { x with stream := some (goStream g s), streams := (s.grp g).streams + 1, safeHeld := false })).setFld
    CHG_STREAM_CTL_ARMED 1 g).setReg (CHG_STREAM_STATUS_PLAYED.key g 0 0) 0

/-- The registers of a group are apart from those of other blocks and from one another. -/
theorem streamCtl_ne_low {k : Nat} (g : Nat) (hk : k < 0xC00000) : k ≠ CHG_STREAM_CTL_ARMED.key g 0 0 := by
  simp only [Field.key, CHG_STREAM_CTL_ARMED]
  omega

theorem storeStream_regsKeep (g : Nat) (data : Word) (s : State) :
    regsKeep [CHG_STREAM_CTL_ARMED.key g 0 0] s (storeStream g data s) :=
  regsKeep_after_setFld CHG_STREAM_CTL_LENGTH _ g 0 0 (regsKeep_setFld s CHG_STREAM_CTL_UNDERRUN_ACT _ g 0 0)
    (List.mem_singleton.mpr rfl)

theorem fld_storeStream {f : Field} {i j k : Nat} (hk : f.key i j k ≠ CHG_STREAM_CTL_ARMED.key g 0 0) :
    (storeStream g data s).fld f i j k = s.fld f i j k :=
  fld_congr f i j k (storeStream_regsKeep g data s _ (by simpa using hk))

theorem storeStream_rest (g : Nat) (data : Word) (s : State) : storeStream g data s = { s with regs := (storeStream g data s).regs } := rfl

theorem fld_storeStream_length (g : Nat) (data : Word) (s : State) : (storeStream g data s).fld CHG_STREAM_CTL_LENGTH g = bits data 8 28 :=
  fld_setFld_fits _ CHG_STREAM_CTL_LENGTH g 0 0 (bits_lt data 8 28)

theorem goStream_storeStream (g : Nat) (data : Word) (s : State) : goStream g (storeStream g data s) = goStream g s := by
  have hat : CHG_STREAM_AT_TICK.key g 0 0 ≠ CHG_STREAM_CTL_ARMED.key g 0 0 := by
    simp only [Field.key, CHG_STREAM_AT_TICK, CHG_STREAM_CTL_ARMED]
    omega
  unfold goStream
  rw [fld_storeStream hat, fld_storeStream (f := TCK_COUNT_COUNT) (streamCtl_ne_low g (by decide)),
    nextDue_congr (storeStream_regsKeep g data s _ (by simpa using streamCtl_ne_low g (by decide))) rfl]
  rfl

/-- A 64-bit write with GO on a group in STREAM mode without a stream. -/
theorem streamCtlEffect_go (hgo : wbit .full data CHG_STREAM_CTL_GO = true) (hstop : wbit .full data CHG_STREAM_CTL_STOP = false)
    (harmed : s.on CHG_STREAM_CTL_ARMED g = false) (hmode : s.mode g = mdStream) (hlen : bits data 8 28 ≠ 0)
    (hat : s.fld CHG_STREAM_AT_TICK g ≤ s.fld TCK_COUNT_COUNT + 2 ^ 30) :
    streamCtlEffect g .full data s = topUp g (armStream g (storeStream g data s)) := by
  have hmode' : (storeStream g data s).mode g = mdStream := by
    rw [← hmode]
    refine fld_storeStream (f := CHG_MODE_MODE) ?_
    simp only [Field.key, CHG_MODE_MODE, CHG_STREAM_CTL_ARMED]
    omega
  have hat' : (storeStream g data s).fld CHG_STREAM_AT_TICK g ≤ (storeStream g data s).fld TCK_COUNT_COUNT + 2 ^ 30 := by
    rw [fld_storeStream (f := TCK_COUNT_COUNT) (streamCtl_ne_low g (by decide)), fld_storeStream (f := CHG_STREAM_AT_TICK)]
    · exact hat
    · simp only [Field.key, CHG_STREAM_AT_TICK, CHG_STREAM_CTL_ARMED]
      omega
  have hcond : wbit .full data CHG_STREAM_CTL_GO = true ∧ ¬ false = true ∧ (storeStream g data s).mode g = mdStream ∧
      (storeStream g data s).fld CHG_STREAM_CTL_LENGTH g ≠ 0 ∧
      (storeStream g data s).fld CHG_STREAM_AT_TICK g ≤ (storeStream g data s).fld TCK_COUNT_COUNT + 2 ^ 30 :=
    ⟨hgo, by decide, hmode', by rwa [fld_storeStream_length], hat'⟩
  unfold streamCtlEffect
  rw [merged_full, harmed]
  dsimp only
  exact (if_neg (by simp [hstop])).trans (if_pos hcond)

/-- A group with a stream whose buffer is empty asks for as many vectors as the stream has, or as the buffer holds. -/
theorem topUp_empty {x : StreamState} (hx : (s.grp g).stream = some x) (hb : x.buffer = []) (ha : x.asked = 0)
    (hlen : s.fld CHG_STREAM_CTL_LENGTH g ≠ 0) :
    topUp g s = (s.emit (.streamRead g x.number (8 * s.fld CHG_STREAM_BASE_ADDR g) (min (s.fld CHG_STREAM_CTL_LENGTH g) 2048))).modGrp g
      (fun y => { y with stream := some { x with asked := min (s.fld CHG_STREAM_CTL_LENGTH g) 2048 } }) := by
  unfold topUp
  simp only [hx, hb, ha, Nat.sub_zero, Nat.zero_sub, List.length_nil, Nat.mul_zero, Nat.add_zero, Nat.zero_add]
  rw [if_neg (by omega)]

theorem armStream_regsKeep (g : Nat) (s : State) :
    regsKeep [CHG_STREAM_CTL_ARMED.key g 0 0, CHG_STREAM_STATUS_PLAYED.key g 0 0] s (armStream g s) :=
  regsKeep_trans (regsKeep_mono (by simp) (regsKeep_setFld _ CHG_STREAM_CTL_ARMED 1 g 0 0))
    (regsKeep_mono (by simp) (regsKeep_setReg _ (CHG_STREAM_STATUS_PLAYED.key g 0 0) 0))

theorem statusKey_ne_ctl (g : Nat) : CHG_STREAM_CTL_ARMED.key g 0 0 ≠ CHG_STREAM_STATUS_PLAYED.key g 0 0 := by
  simp only [Field.key, CHG_STREAM_CTL_ARMED, CHG_STREAM_STATUS_PLAYED]
  omega

theorem fld_armStream (g : Nat) (s : State) : (armStream g s).fld CHG_STREAM_CTL_ARMED g = 1 ∧
    (armStream g s).fld CHG_STREAM_CTL_LENGTH g = s.fld CHG_STREAM_CTL_LENGTH g ∧
    (armStream g s).reg (CHG_STREAM_STATUS_PLAYED.key g 0 0) = 0 := by
  refine ⟨?_, ?_, reg_setReg_same _ _ _⟩
  · refine (fld_setReg_other _ _ _ _ _ _ _ (statusKey_ne_ctl g)).trans ?_
    exact fld_setFld_fits _ CHG_STREAM_CTL_ARMED g 0 0 (by decide)
  · refine (fld_setReg_other _ CHG_STREAM_CTL_LENGTH _ _ g 0 0 (statusKey_ne_ctl g)).trans ?_
    exact fld_setFld_beside _ CHG_STREAM_CTL_ARMED CHG_STREAM_CTL_LENGTH 1

theorem grp_armStream (g : Nat) (s : State) : ((armStream g s).grp g).stream = some (goStream g s) := by
  unfold armStream
  rw [grp_setReg, grp_setFld, grp_modGrp_same]

theorem armStream_storeStream_out (g : Nat) (data : Word) (s : State) : (armStream g (storeStream g data s)).out = s.out := rfl

theorem armStream_storeStream_mem (g : Nat) (data : Word) (s : State) : (armStream g (storeStream g data s)).mem = s.mem := rfl

/-- GO (R198, R199): the stream is armed and has asked DRAM for its first vectors. -/
theorem streamGo_spec (hgo : wbit .full data CHG_STREAM_CTL_GO = true) (hstop : wbit .full data CHG_STREAM_CTL_STOP = false)
    (harmed : s.on CHG_STREAM_CTL_ARMED g = false) (hmode : s.mode g = mdStream) (hlen : bits data 8 28 ≠ 0)
    (hat : s.fld CHG_STREAM_AT_TICK g ≤ s.fld TCK_COUNT_COUNT + 2 ^ 30) :
    (streamCtlEffect g .full data s).fld CHG_STREAM_CTL_ARMED g = 1 ∧
      (streamCtlEffect g .full data s).fld CHG_STREAM_CTL_LENGTH g = bits data 8 28 ∧
      (streamCtlEffect g .full data s).reg (CHG_STREAM_STATUS_PLAYED.key g 0 0) = 0 ∧
      ((streamCtlEffect g .full data s).grp g).stream = some { goStream g s with asked := min (bits data 8 28) 2048 } ∧
      (streamCtlEffect g .full data s).out =
        .streamRead g (goStream g s).number (8 * s.fld CHG_STREAM_BASE_ADDR g) (min (bits data 8 28) 2048) :: s.out ∧
      (streamCtlEffect g .full data s).mem = s.mem ∧
      regsKeep [CHG_STREAM_CTL_ARMED.key g 0 0, CHG_STREAM_STATUS_PLAYED.key g 0 0] s (streamCtlEffect g .full data s) := by
  have heff := streamCtlEffect_go hgo hstop harmed hmode hlen hat
  obtain ⟨harm, hlength, hplayed⟩ := fld_armStream g (storeStream g data s)
  rw [fld_storeStream_length] at hlength
  have hstream := grp_armStream g (storeStream g data s)
  rw [goStream_storeStream] at hstream
  have hkeep : regsKeep [CHG_STREAM_CTL_ARMED.key g 0 0, CHG_STREAM_STATUS_PLAYED.key g 0 0] s (armStream g (storeStream g data s)) :=
    regsKeep_trans (regsKeep_mono (by simp) (storeStream_regsKeep g data s)) (armStream_regsKeep g _)
  have hbase : (armStream g (storeStream g data s)).fld CHG_STREAM_BASE_ADDR g = s.fld CHG_STREAM_BASE_ADDR g := by
    refine fld_congr CHG_STREAM_BASE_ADDR g 0 0 (hkeep _ ?_)
    simp only [Field.key, CHG_STREAM_BASE_ADDR, CHG_STREAM_CTL_ARMED, CHG_STREAM_STATUS_PLAYED, List.mem_cons, List.not_mem_nil,
      or_false]
    omega
  rw [topUp_empty hstream rfl rfl (by rwa [hlength]), hlength, hbase] at heff
  rw [heff]
  refine ⟨harm, hlength, hplayed, ?_, ?_, ?_, hkeep⟩
  · rw [grp_modGrp_same]
  · rw [modGrp_out, emit_out, armStream_storeStream_out]
  · rw [modGrp_mem, emit_mem, armStream_storeStream_mem]

theorem goStream_renewLease (m : Ident) (g : Nat) (s : State) : goStream g (renewLease m s) = goStream g s := by
  unfold goStream
  rw [grp_renewLease, fld_renewLease_group m s CHG_STREAM_AT_TICK, fld_renewLease m s TCK_COUNT_COUNT 0 0 0 (by decide),
    nextDue_renewLease]

/-- A 64-bit write with STOP and without GO. -/
theorem streamCtlEffect_stop (hgo : wbit .full data CHG_STREAM_CTL_GO = false) (hstop : wbit .full data CHG_STREAM_CTL_STOP = true) :
    ∃ u, onlyRegs [CHG_STREAM_CTL_ARMED.key g 0 0] s u ∧ streamCtlEffect g .full data s =
      u.modGrp g (fun x => { x with stream := x.stream.map (fun t => { t with stop := true }) }) := by
  have hact : onlyRegs [CHG_STREAM_CTL_ARMED.key g 0 0] s (s.setFld CHG_STREAM_CTL_UNDERRUN_ACT (bits data 2 1) g) :=
    onlyRegs_after_setFld CHG_STREAM_CTL_UNDERRUN_ACT _ g 0 0 ⟨rfl, regsKeep_refl _ s⟩ (List.mem_singleton.mpr rfl)
  unfold streamCtlEffect
  rw [merged_full]
  dsimp only
  simp only [hgo, hstop, Bool.false_eq_true, false_and, if_false, if_true]
  split
  · exact ⟨_, hact, rfl⟩
  · exact ⟨_, onlyRegs_after_setFld CHG_STREAM_CTL_LENGTH _ g 0 0 hact (List.mem_singleton.mpr rfl), rfl⟩

theorem streamReadResponse_buffers {x : StreamState} (hx : (s.grp g).stream = some x) (hg : g < 128) (ws : List Word) :
    exec (.streamReadResponse ⟨g, hg⟩ x.number .ok ws) s =
      .next (((answeredAt (dieEndpoint (g / 32)) s).modGrp g (fun y => { y with stream := some { x with
        buffer := x.buffer ++ ws.take (x.asked - x.got)
        got := x.got + (ws.take (x.asked - x.got)).length } })).setFld CHG_STREAM_STATUS_BUFFERED
          (x.buffer ++ ws.take (x.asked - x.got)).length g) := by
  have hx' : ((answeredAt (dieEndpoint (g / 32)) s).grp g).stream = some x := hx
  rw [exec_streamReadResponse]
  unfold execStreamReadResponse
  dsimp only
  rw [hx']
  simp

/-- Settles O19. -/
theorem streamsFillTheirBuffer : Obligations.StreamsFillTheirBuffer := by
  refine ⟨fun m g data s len n hadm hgo hstop harmed hmode hlen hpos hat hn => ?_,
    fun m g data x s hadm hgo hstop hx => ?_, fun g ws x s hx => ?_, fun g vec s hmode hclosed hroom => ?_⟩
  · subst hlen hn
    obtain ⟨harm, hlength, hplayed, hstream, hout, hmem, hkeep⟩ := streamGo_spec (s := renewLease m s) (g := g) hgo hstop
      (by rwa [on_renewLease_group m s CHG_STREAM_CTL_ARMED]) ((fld_renewLease_group m s CHG_MODE_MODE g 0 0).trans hmode) hpos
      (by rwa [fld_renewLease_group m s CHG_STREAM_AT_TICK, fld_renewLease m s TCK_COUNT_COUNT 0 0 0 (by decide)])
    refine ⟨streamCtlEffect g .full data (renewLease m s), ?_, harm, hlength, hplayed, ?_, ?_, hmem.trans (renewLease_mem m s),
      regsKeep_trans (regsKeep_mono (by simp) (renewLease_regsKeep m s)) (regsKeep_mono (by simp) hkeep)⟩
    · rw [exec_streamGo]
      unfold execStreamGo
      rw [regWrite_admits hadm]
    · rw [hstream, goStream_renewLease]
      rfl
    · rw [hout, goStream_renewLease, fld_renewLease_group m s CHG_STREAM_BASE_ADDR, renewLease_out]
      rfl
  · obtain ⟨u, ⟨hu, hkeep⟩, heff⟩ := streamCtlEffect_stop (s := renewLease m s) (g := g) (data := data) hgo hstop
    have hux : (u.grp g).stream = some x := by rw [grp_congr (s := renewLease m s) (by rw [hu]), grp_renewLease, hx]
    refine ⟨streamCtlEffect g .full data (renewLease m s), ?_, ?_⟩
    · rw [exec_streamStop]
      unfold execStreamStop
      rw [regWrite_admits hadm]
    rw [heff]
    refine ⟨?_, ?_, ?_, regsKeep_trans (regsKeep_mono (by simp) (renewLease_regsKeep m s)) (regsKeep_mono (by simp) hkeep)⟩
    · rw [grp_modGrp_same, hux]
      rfl
    · rw [modGrp_out, hu, renewLease_out]
    · rw [modGrp_mem, hu, renewLease_mem]
  · refine ⟨_, streamReadResponse_buffers hx g.isLt ws, ?_, ?_, rfl, rfl, ?_⟩
    · rw [grp_setFld, grp_modGrp_same]
    · exact fld_setFld_same _ CHG_STREAM_STATUS_BUFFERED _ g 0 0 (by unfold Field.good; decide)
    · exact regsKeep_trans
        (regsKeep_mono (by simp) (regsKeep_setFld s NOC_EPe_STATUS_OUTSTANDING _ (dieEndpoint (g.val / 32)) 0 0))
        (regsKeep_mono (by simp) (regsKeep_setFld _ CHG_STREAM_STATUS_BUFFERED _ g 0 0))
  · refine ⟨s.modGrp g (fun x => { x with crossing := x.crossing ++ [vec] }), ?_, grp_modGrp_same _ _ _,
      fun j hj => grp_modGrp_other _ _ hj, rfl, rfl, rfl⟩
    rw [exec_fabricVector]
    unfold execFabricVector
    exact if_pos ⟨hmode, by simp [hclosed], hroom⟩

end Sys2Proof.Machine
end

section
-- One proof at a time: the memory limit of the check counts a stack for every proof that waits for another.
set_option Elab.async false
/-! SUPPORT. Actions that join a group's queue, and the claims of channels (R187 to R195): what the rounds of claims leave of the
queue, and each command on a claim. -/

namespace Sys2Proof.Machine

/-- From `s` to `t` the memories stand, and of group `g`'s queue the slots, the actions and their number. -/
structure SameQueue (g : Nat) (s t : State) : Prop where
  mem : t.mem = s.mem
  acts : (t.grp g).acts.map (fun a => (a.slot, a.act)) = (s.grp g).acts.map (fun a => (a.slot, a.act))
  count : t.fld CHG_STATUS_QUEUED g = s.fld CHG_STATUS_QUEUED g

variable {g : Nat} {s t u : State}

theorem SameQueue.refl (g : Nat) (s : State) : SameQueue g s s := ⟨rfl, rfl, rfl⟩

theorem SameQueue.emit (h : SameQueue g s t) {o : Out} : SameQueue g s (t.emit o) := ⟨h.mem, h.acts, h.count⟩

theorem SameQueue.setReg (h : SameQueue g s t) {k : Nat} {v : Word} (hk : CHG_STATUS_QUEUED.key g 0 0 ≠ k) :
    SameQueue g s (t.setReg k v) := ⟨h.mem, h.acts, (fld_setReg_other t _ k v g 0 0 hk).trans h.count⟩

theorem SameQueue.modGrp (h : SameQueue g s t) {f : Group → Group}
    (hf : ∀ x, (f x).acts.map (fun a => (a.slot, a.act)) = x.acts.map (fun a => (a.slot, a.act))) : SameQueue g s (t.modGrp g f) :=
  ⟨h.mem, by rw [grp_modGrp_same, hf, h.acts], h.count⟩

theorem SameQueue.modAct (h : SameQueue g s t) {slot : Nat} {f : GAct → GAct} (hf : ∀ a, (f a).slot = a.slot ∧ (f a).act = a.act) :
    SameQueue g s (t.modGrp g (fun x => x.modAct slot f)) := by
  refine h.modGrp fun x => ?_
  rw [Group.modAct, List.map_map]
  refine List.map_congr_left fun a _ => ?_
  obtain ⟨hslot, hact⟩ := hf a
  dsimp only [Function.comp]
  split
  · rw [hslot, hact]
  · rfl

theorem SameQueue.foldl {α : Type} {f : State → α → State} {l : List α} (h : SameQueue g s t)
    (hf : ∀ u a, SameQueue g s u → SameQueue g s (f u a)) : SameQueue g s (l.foldl f t) := by
  induction l generalizing t with
  | nil => exact h
  | cons a l ih => exact ih (hf t a h)

theorem SameQueue.foldl_fst {α β : Type} {f : State × β → α → State × β} {l : List α} {p : State × β} (h : SameQueue g s p.1)
    (hf : ∀ p a, SameQueue g s p.1 → SameQueue g s (f p a).1) : SameQueue g s (l.foldl f p).1 := by
  induction l generalizing p with
  | nil => exact h
  | cons a l ih => exact ih (hf p a h)

theorem SameQueue.modChan (h : SameQueue g s t) {i : Nat} {f : Chan → Chan} : SameQueue g s (t.modChan g i f) := by
  unfold State.modChan Group.modChan showDriver State.setFld
  refine SameQueue.setReg (SameQueue.modGrp h ?_) ?_
  · exact fun _ => rfl
  · simp only [Field.key, CHG_STATUS_QUEUED, CHG_CHi_LAST_DRIVER]
    omega

theorem SameQueue.abandonFor (h : SameQueue g s t) {i : Nat} : SameQueue g s (abandonFor g i t) := by
  unfold Machine.abandonFor abandonStep endStep State.addFld State.setFld
  split
  · exact h
  split
  · split
    · exact h
    · refine SameQueue.setReg (SameQueue.modGrp (h.foldl fun _ _ h => h.modChan) ?_) ?_
      · exact fun _ => rfl
      · simp only [Field.key, CHG_STATUS_QUEUED, CHG_CAL_STATUS_ABANDONED]
        omega
  · exact h

theorem SameQueue.setHolder (h : SameQueue g s t) {i : Nat} (hi : i < 16) {o : Option Claimer} :
    SameQueue g s (setHolder g i o t) := by
  have hc := h.modChan (i := i) (f := fun c => { c with
    holder := o
    hold := if o.isSome then none else c.hold
    compliance := if o.isSome then false else c.compliance
    overrange := if o.isSome then false else c.overrange })
  refine ⟨hc.mem, hc.acts, Eq.trans ?_ hc.count⟩
  unfold Machine.setHolder State.setFbit State.fld
  have hkey : CHG_STATUS_QUEUED.key g 0 0 = CHG_STATUS_CLAIMED.key g 0 0 := rfl
  rw [hkey, reg_setReg_same]
  exact bits_setBits_other _ _ _ _ _ _ (by simp only [CHG_STATUS_CLAIMED]; omega)
    (by simp only [CHG_STATUS_CLAIMED, CHG_STATUS_QUEUED]; omega)

theorem SameQueue.claimsDone (h : SameQueue g s t) {slot : Nat} : SameQueue g s (claimsDone g slot t) := by
  have hdone := h.modAct (slot := slot) (f := fun a => { a with phase := .claimed }) (fun _ => ⟨rfl, rfl⟩)
  refine ⟨h.mem, ?_, h.count⟩
  have hacts := hdone.acts
  rw [grp_modGrp_same] at hacts
  unfold Machine.claimsDone
  rw [grp_modGrp_same]
  dsimp only
  split
  · split
    · exact hacts
    · exact hacts
  · exact hacts

theorem SameQueue.claimStep (h : SameQueue g s t) {slot : Nat} : SameQueue g s (claimStep g slot t).1 := by
  unfold Machine.claimStep
  split
  · exact h.claimsDone
  · split
    · exact h.emit
    · dsimp only
      split
      · dsimp only
        refine SameQueue.modGrp h.abandonFor ?_
        exact fun _ => rfl
      · dsimp only
        refine SameQueue.modAct (h.abandonFor.setHolder (Nat.mod_lt _ (by norm_num))) ?_
        exact fun _ => ⟨rfl, rfl⟩
  · exact h

theorem SameQueue.claimRounds (h : SameQueue g s t) {n : Nat} {slots : List Nat} : SameQueue g s (claimRounds n g slots t) := by
  induction n generalizing slots t with
  | zero => exact h
  | succ n ih =>
    have hr : SameQueue g s (slots.foldl (fun (acc : State × List Nat) k =>
        ((Machine.claimStep g k acc.1).1, if (Machine.claimStep g k acc.1).2 then acc.2 ++ [k] else acc.2)) (t, [])).1 :=
      SameQueue.foldl_fst h fun _ _ h => h.claimStep
    unfold Machine.claimRounds
    dsimp only
    split
    · exact hr
    · exact ih hr

/-- The queue with one more action, before its claims. -/
def queueAction (g slot : Nat) (a : Action) (s : State) : State :=
  syncQueue g (s.modGrp g (fun x => { x with
    serial := x.serial + 1
    acts := x.acts ++ [GAct.mk slot x.serial a (.claiming a.channels) [] false [] 0 none] }))

theorem takeAction_eq (g slot : Nat) (a : Action) (s : State) : takeAction g slot a s = goOn g [slot] (queueAction g slot a s) := rfl

theorem queueAction_acts (g slot : Nat) (a : Action) (s : State) : ((queueAction g slot a s).grp g).acts =
    (s.grp g).acts ++ [GAct.mk slot (s.grp g).serial a (.claiming a.channels) [] false [] 0 none] := by
  unfold queueAction syncQueue
  rw [grp_setFld, grp_modGrp_same]

theorem queueAction_count (g slot : Nat) (a : Action) (s : State) :
    (queueAction g slot a s).fld CHG_STATUS_QUEUED g = ((s.grp g).acts.length + 1) % 2 ^ CHG_STATUS_QUEUED.w := by
  unfold queueAction syncQueue
  rw [fld_setFld_same _ _ _ _ _ _ (by unfold Field.good; decide), grp_modGrp_same, List.length_append, List.length_singleton]

/-- An action that joins the queue is there after its claims, and one more is queued. -/
theorem takeAction_spec (g slot : Nat) (a : Action) (s : State) :
    (∃ x ∈ ((takeAction g slot a s).grp g).acts, x.slot = slot ∧ x.act = a) ∧
      ((takeAction g slot a s).grp g).acts.length = (s.grp g).acts.length + 1 ∧
      (takeAction g slot a s).fld CHG_STATUS_QUEUED g = ((s.grp g).acts.length + 1) % 2 ^ CHG_STATUS_QUEUED.w ∧
      (takeAction g slot a s).mem = s.mem := by
  have hkeep : SameQueue g (queueAction g slot a s) (takeAction g slot a s) := (SameQueue.refl g _).claimRounds
  obtain ⟨hmem, hacts, hcount⟩ := hkeep
  rw [queueAction_acts] at hacts
  refine ⟨?_, ?_, hcount.trans (queueAction_count g slot a s), hmem⟩
  · have hin : (slot, a) ∈ ((takeAction g slot a s).grp g).acts.map (fun a => (a.slot, a.act)) := by
      rw [hacts, List.map_append]
      exact List.mem_append_right _ (List.mem_singleton.mpr rfl)
    obtain ⟨x, hx, heq⟩ := List.mem_map.mp hin
    exact ⟨x, hx, congrArg Prod.fst heq, congrArg Prod.snd heq⟩
  · have hlen := congrArg List.length hacts
    rwa [List.length_map, List.length_map, List.length_append, List.length_singleton] at hlen

/-- An answer from an endpoint: the response is sent and the endpoint counts one outstanding request less. -/
theorem answeredAt_emit_spec (e : Nat) (o : Out) (s : State) : (answeredAt e (s.emit o)).out = o :: s.out ∧
    (answeredAt e (s.emit o)).chg = s.chg ∧ (answeredAt e (s.emit o)).mem = s.mem := ⟨rfl, rfl, rfl⟩

/-- Settles O20. -/
theorem groupActionsQueue : Obligations.GroupActionsQueue := by
  refine ⟨fun g a slot s hsrc hgate hmode hslot => ?_, fun g a s hsrc hgate hmode => ?_, fun g a s hsrc => ?_⟩
  · obtain ⟨⟨x, hx, hxslot, hxact⟩, hlen, hcount, hmem⟩ := takeAction_spec g slot a s
    refine ⟨_, x, ?_, hx, hxslot, hxact, hlen, hcount, hmem⟩
    rw [exec_groupAction]
    unfold execGroupAction
    simp only [hsrc, hgate, hmode, hslot, not_true_eq_false, if_false]
  · refine ⟨_, ?_, answeredAt_emit_spec (dieEndpoint (g.val / 32)) _ s⟩
    rw [exec_groupAction]
    unfold execGroupAction
    simp only [hsrc, hgate, hmode, not_true_eq_false, if_false, Bool.false_eq_true, not_false_eq_true, if_true]
  · refine ⟨_, ?_, answeredAt_emit_spec (dieEndpoint (g.val / 32)) _ s⟩
    rw [exec_groupAction]
    unfold execGroupAction
    simp only [hsrc, Bool.false_eq_true, not_false_eq_true, if_true]

end Sys2Proof.Machine
end

section
-- One proof at a time: the memory limit of the check counts a stack for every proof that waits for another.
set_option Elab.async false
/-! SUPPORT. Claims of channels and the end of a reflex response (R191 to R195, R211). -/

namespace Sys2Proof.Machine

variable {g i slot : Nat} {s : State}

/-- The channel after its holder is set. -/
def Chan.heldBy (o : Option Claimer) (c : Chan) : Chan :=
  { c with
    holder := o
    hold := if o.isSome then none else c.hold
    compliance := if o.isSome then false else c.compliance
    overrange := if o.isSome then false else c.overrange }

theorem setHolder_eq (g i : Nat) (o : Option Claimer) (s : State) :
    setHolder g i o s = (s.modChan g i (Chan.heldBy o)).setFbit CHG_STATUS_CLAIMED i o.isSome g := rfl

@[simp] theorem setHolder_mem (g i : Nat) (o : Option Claimer) (s : State) : (setHolder g i o s).mem = s.mem := rfl
@[simp] theorem setHolder_out (g i : Nat) (o : Option Claimer) (s : State) : (setHolder g i o s).out = s.out := rfl

theorem grp_setHolder (g i : Nat) (o : Option Claimer) (s : State) :
    (setHolder g i o s).grp g = (s.grp g).modChan i (Chan.heldBy o) := by
  rw [setHolder_eq, ← grp_modChan_same]
  rfl

theorem setHolder_claimed (hi : i < 16) (g : Nat) (o : Option Claimer) (s : State) :
    (setHolder g i o s).fbit CHG_STATUS_CLAIMED i g = o.isSome := by
  rw [setHolder_eq]
  exact fbit_setFbit_same _ _ g 0 0 (by decide) hi

theorem setHolder_regsKeep (g i : Nat) (o : Option Claimer) (s : State) :
    regsKeep [CHG_STATUS_CLAIMED.key g 0 0, CHG_CHi_LAST_DRIVER.key g i 0] s (setHolder g i o s) := by
  have hdriver : regsKeep [CHG_CHi_LAST_DRIVER.key g i 0] s (s.modChan g i (Chan.heldBy o)) :=
    regsKeep_setFld (s.modGrp g (fun x => x.modChan i (Chan.heldBy o))) CHG_CHi_LAST_DRIVER _ g i 0
  exact regsKeep_trans (regsKeep_mono (by simp) hdriver) (regsKeep_mono (by simp) (regsKeep_setReg _ (CHG_STATUS_CLAIMED.key g 0 0) _))

theorem abandonFor_idle (h : (s.grp g).step = none) : abandonFor g i s = s := by
  unfold abandonFor
  rw [h]

/-- No slot goes on when no claim was granted to the group itself. -/
theorem goOn_nil (g : Nat) (s : State) : goOn g [] s = s := by
  unfold goOn
  rw [List.filter_eq_nil_iff.mpr (by simp)]
  rfl

theorem grantFreed_one (g i : Nat) (s : State) : grantFreed g [i] s = goOn g (grantWaiting g i s).2 (grantWaiting g i s).1 := by
  unfold grantFreed
  simp

theorem grantWaiting_none (h : (s.grp g).waiters = []) : grantWaiting g i s = (s, []) := by
  unfold grantWaiting
  split
  · rfl
  · rw [h]
    rfl

/-- The only waiter is another group's claim of a free channel. -/
theorem grantWaiting_foreign {w : Claimer} (hfree : ((s.grp g).chan i).holder = none) (hw : (s.grp g).waiters = [(i, w)])
    (hne : w.group ≠ g) : grantWaiting g i s = ((setHolder g i (some w)
      (s.modGrp g (fun x => { x with waiters := dropFirst (i, w) x.waiters }))).emit
        (.grant (16 * g + i) w.group w.slot (sameDie g w.group)), []) := by
  unfold grantWaiting
  rw [if_neg (by simp [hfree]), hw]
  simp [hne]

/-- A claim of a free channel, no other claim waiting, is granted at once. -/
theorem companionClaim_grants {c : Fin 2048} {k : Fin 128} {slot : Fin 16} {s : State} (hk : k.val ≠ c.val / 16)
    (hmode : s.mode (c.val / 16) = mdContext ∨ s.mode (c.val / 16) = mdParametric) (hstep : (s.grp (c.val / 16)).step = none)
    (hwait : (s.grp (c.val / 16)).waiters = []) (hfree : ((s.grp (c.val / 16)).chan (c.val % 16)).holder = none) :
    exec (.companionClaim c k slot) s = .next ((setHolder (c.val / 16) (c.val % 16) (some ⟨k, slot⟩)
      ((s.modGrp (c.val / 16) (fun x => { x with waiters := x.waiters ++ [(c.val % 16, Claimer.mk k slot)] })).modGrp (c.val / 16)
        (fun x => { x with waiters := dropFirst (c.val % 16, Claimer.mk k slot) x.waiters }))).emit
          (.grant c k slot (sameDie (c.val / 16) k))) := by
  have hgrant := grantWaiting_foreign (g := c.val / 16) (i := c.val % 16) (w := ⟨k, slot⟩)
    (s := s.modGrp (c.val / 16) (fun x => { x with waiters := x.waiters ++ [(c.val % 16, Claimer.mk k slot)] }))
    (by rw [grp_modGrp_same]; exact hfree) (by rw [grp_modGrp_same, hwait]; rfl) hk
  have hc : 16 * (c.val / 16) + c.val % 16 = c.val := Nat.div_add_mod c.val 16
  rw [exec_companionClaim]
  unfold execCompanionClaim
  dsimp only
  rw [if_neg (not_not_intro hmode), abandonFor_idle hstep, grantFreed_one, hgrant, goOn_nil, hc]

theorem freeChan_held {who : Claimer} (hheld : ((s.grp g).chan i).holder = some who) :
    freeChan g i who s = setHolder g i none
      (s.modGrp g (fun x => { x with waiters := x.waiters.filter (fun w => decide (w ≠ (i, who))) })) := by
  unfold freeChan
  dsimp only
  rw [if_pos]
  rw [grp_modGrp_same]
  exact hheld

theorem chan_setHolder_none (hi : ((s.grp g).chan i).holder ≠ none) : (((setHolder g i none s).grp g).chan i).holder = none := by
  rw [grp_setHolder, chan_modChan]
  split
  · rfl
  next h =>
    refine absurd ?_ hi
    rw [chan_of_length_le (by simpa using h)]
    rfl

/-- The release of a channel that no other claim waits for. -/
theorem releaseChan_frees (hi : i < 16) {who : Claimer} (hwait : (s.grp g).waiters = [])
    (hheld : ((s.grp g).chan i).holder = some who) : ∃ u, releaseChan g i who s = u ∧ ((u.grp g).chan i).holder = none ∧
      u.fbit CHG_STATUS_CLAIMED i g = false ∧ u.out = s.out ∧ u.mem = s.mem ∧
      regsKeep [CHG_STATUS_CLAIMED.key g 0 0, CHG_CHi_LAST_DRIVER.key g i 0] s u := by
  have hfree := freeChan_held hheld
  have hwait' : ((freeChan g i who s).grp g).waiters = [] := by
    rw [hfree, grp_setHolder, grp_modGrp_same, hwait]
    rfl
  refine ⟨freeChan g i who s, ?_, ?_, ?_, ?_, ?_, ?_⟩
  · rw [releaseChan, grantFreed_one, grantWaiting_none hwait', goOn_nil]
  · rw [hfree]
    refine chan_setHolder_none ?_
    rw [grp_modGrp_same]
    exact fun h => absurd (hheld.symm.trans h) (by simp)
  · rw [hfree]
    exact setHolder_claimed hi g none _
  · rw [hfree]
    rfl
  · rw [hfree]
    rfl
  · rw [hfree]
    exact setHolder_regsKeep g i none _

theorem noteGrant_expected {a : GAct} {c : Nat} {rest : List Nat} (ha : (s.grp g).inSlot slot = some a)
    (hphase : a.phase = .claiming (c :: rest)) : noteGrant g slot c s =
      (s.modGrp g (fun x => x.modAct slot (fun a => { a with phase := .claiming rest, held := a.held ++ [c] })), true) := by
  obtain ⟨aslot, serial, act, phase, held, bad, results, quantities, ramp⟩ := a
  dsimp only at hphase
  subst hphase
  unfold noteGrant
  rw [ha]
  exact if_pos rfl

theorem claimStep_complete {a : GAct} (ha : (s.grp g).inSlot slot = some a) (hphase : a.phase = .claiming []) :
    claimStep g slot s = (claimsDone g slot s, false) := by
  obtain ⟨aslot, serial, act, phase, held, bad, results, quantities, ramp⟩ := a
  dsimp only at hphase
  subst hphase
  unfold claimStep
  rw [ha]

/-- A round with one action that claims no more channel of its own group is the last. -/
theorem claimRounds_settled {n : Nat} (h : (claimStep g slot s).2 = false) : claimRounds (n + 1) g [slot] s = (claimStep g slot s).1 := by
  unfold claimRounds
  simp [h]

theorem goOn_one {a : GAct} (hacts : (s.grp g).acts = [a]) : goOn g [a.slot] s = claimRounds 17 g [a.slot] s := by
  unfold goOn
  rw [hacts]
  simp

theorem inSlot_one {x : Group} {a : GAct} (hacts : x.acts = [a]) : x.inSlot a.slot = some a := by
  unfold Group.inSlot
  rw [hacts]
  simp

theorem modAct_one {x : Group} {a : GAct} (f : GAct → GAct) (hacts : x.acts = [a]) : (x.modAct a.slot f).acts = [f a] := by
  unfold Group.modAct
  rw [hacts]
  simp

theorem claimsDone_one {a : GAct} (hacts : (s.grp g).acts = [a]) (hkind : a.act.kind ≠ 3) :
    ((claimsDone g a.slot s).grp g).acts = [{ a with phase := .claimed }] ∧ (claimsDone g a.slot s).out = s.out ∧
      storesKeep s (claimsDone g a.slot s) := by
  have hone := modAct_one (fun a => { a with phase := .claimed }) hacts
  refine ⟨?_, rfl, rfl, rfl⟩
  unfold claimsDone
  rw [grp_modGrp_same]
  dsimp only
  rw [inSlot_one (a := { a with phase := .claimed }) hone]
  exact (congrArg Group.acts (if_neg hkind)).trans hone

/-- The grant of the last channel that the group's one action claims. -/
theorem companionGrant_completes {a : GAct} {k : Fin 16} {g : Fin 128} {c : Fin 2048} {s : State} (hacts : (s.grp g).acts = [a])
    (hslot : a.slot = k.val) (hphase : a.phase = .claiming [c.val]) (hkind : a.act.kind ≠ 3) :
    ∃ t, exec (.companionGrant g k c) s = .next t ∧
      (t.grp g).acts = [{ a with phase := .claimed, held := a.held ++ [c.val] }] ∧ t.out = s.out ∧ storesKeep s t := by
  have hnote := noteGrant_expected (g := g) (slot := a.slot) (s := s) (inSlot_one hacts) hphase
  have hacts' : ((s.modGrp g (fun x => x.modAct a.slot (fun a => { a with phase := .claiming [], held := a.held ++ [c.val] }))).grp g).acts =
      [{ a with phase := .claiming [], held := a.held ++ [c.val] }] := by
    rw [grp_modGrp_same]
    exact modAct_one _ hacts
  obtain ⟨hdone, hout, hkeep⟩ := claimsDone_one hacts' hkind
  refine ⟨_, ?_, hdone, hout, hkeep⟩
  have hstep := claimStep_complete (g := g.val) (slot := a.slot)
    (a := { a with phase := .claiming [], held := a.held ++ [c.val] }) (inSlot_one hacts') rfl
  rw [exec_companionGrant]
  unfold execCompanionGrant
  rw [← hslot]
  dsimp only
  rw [hnote]
  dsimp only
  rw [if_pos rfl]
  refine congrArg _ ((goOn_one hacts').trans ((claimRounds_settled ?_).trans ?_))
  · exact congrArg Prod.snd hstep
  · exact congrArg Prod.fst hstep

theorem releaseAll_nil (g slot : Nat) (s : State) : releaseAll g slot [] s = s := by
  unfold releaseAll grantFreed
  exact goOn_nil g s

/-- The answer of the group's one action, which holds no channel. -/
theorem answerAct_one {a b : GAct} (hacts : (s.grp g).acts = [b]) (hslot : b.slot = a.slot) (hheld : a.held = []) (hasked : a.asked = []) (st : Status) (v : Nat) :
    (answerAct g a st v s).out = .result a.act.src g a.act.tag st v :: s.out ∧ ((answerAct g a st v s).grp g).acts = [] ∧
      (answerAct g a st v s).mem = s.mem := by
  unfold answerAct
  rw [hheld, hasked, releaseAll_nil, List.foldl_nil]
  refine ⟨rfl, ?_, rfl⟩
  unfold answeredAt syncQueue
  rw [grp_setFld, grp_emit, grp_setFld, grp_modGrp_same]
  simp [hacts, hslot]

/-- A channel whose reflex response has no HOLD left shows its own driver again. -/
theorem reflexHoldEnd_gives {g : Fin 128} {i : Fin 16} {level : Bool} {s : State} (hhold : ((s.grp g).chan i).hold = some (level, false))
    (hbus : ((s.grp g).chan i).onBus = false) :
    ∃ t, exec (.reflexHoldEnd g i) s = .next t ∧ ((t.grp g).chan i).hold = none ∧
      ((t.grp g).chan i).base = ((s.grp g).chan i).base ∧
      t.fld CHG_CHi_LAST_DRIVER g i = ((s.grp g).chan i).base % 4 ∧ t.out = s.out ∧ t.mem = s.mem ∧
      regsKeep [CHG_CHi_LAST_DRIVER.key g i 0] s t := by
  have hlen : i.val < (s.grp g).chans.length := by
    by_contra h
    rw [chan_of_length_le (Nat.le_of_not_lt h)] at hhold
    exact absurd hhold (by simp [Chan.reset])
  have hchan : ((s.modChan g i (fun c => { c with hold := none })).grp g).chan i = { (s.grp g).chan i with hold := none } := by
    rw [grp_modChan_same, chan_modChan_same hlen]
  refine ⟨s.modChan g i (fun c => { c with hold := none }), ?_, by rw [hchan], by rw [hchan], ?_, rfl, rfl,
    regsKeep_setFld (s.modGrp g (fun x => x.modChan i (fun c => { c with hold := none }))) CHG_CHi_LAST_DRIVER _ g i 0⟩
  · rw [exec_reflexHoldEnd]
    unfold execReflexHoldEnd
    rw [hhold]
  · rw [State.modChan, showDriver, fld_setFld_same _ _ _ _ _ _ (by unfold Field.good; decide), grp_modGrp_same, chan_modChan_same hlen]
    unfold Chan.shown Chan.driver
    rw [hbus]
    rfl

/-- Settles O21. -/
theorem channelClaims : Obligations.ChannelClaims := by
  refine ⟨fun c g slot s h i hh hi hne hmode hstep hwait hlen hfree => ?_, fun c g slot s h i hh hi hwait hheld => ?_,
    fun g slot c a s hacts hslot hphase hkind => companionGrant_completes hacts hslot hphase hkind,
    fun g slot c st a rest s hacts hslot hphase hheld => ?_,
    fun g i level s hhold hbus => reflexHoldEnd_gives hhold hbus⟩
  · subst hh hi
    have hi : c.val % 16 < 16 := Nat.mod_lt _ (by norm_num)
    refine ⟨_, companionClaim_grants hne hmode hstep hwait hfree, ?_, ?_, setHolder_claimed hi _ _ _, ?_, rfl, rfl,
      setHolder_regsKeep _ _ _ _⟩
    · rw [grp_emit, grp_setHolder, chan_modChan_same]
      · rfl
      · rw [grp_modGrp_same, grp_modGrp_same, hlen]
        exact hi
    · rw [grp_emit, grp_setHolder, grp_modGrp_same, grp_modGrp_same, hwait]
      simp [Group.modChan, dropFirst]
    · rw [grp_emit, grp_setHolder, chan_modChan_same]
      · rfl
      · rw [grp_modGrp_same, grp_modGrp_same, hlen]
        exact hi
  · subst hh hi
    have hi : c.val % 16 < 16 := Nat.mod_lt _ (by norm_num)
    obtain ⟨u, hu, hholder, hclaimed, hout, hmem, hkeep⟩ := releaseChan_frees hi hwait hheld
    refine ⟨if sameDie g (c.val / 16) then u else u.emit (.released c g slot), ?_, ?_⟩
    · rw [exec_companionRelease]
      unfold execCompanionRelease
      rw [hu]
    · split
      · exact ⟨hholder, hclaimed, hout, hmem, hkeep⟩
      · exact ⟨hholder, hclaimed, congrArg (List.cons _) hout, hmem, hkeep⟩
  · obtain ⟨hout, hnone, hmem⟩ := answerAct_one (g := g.val) (a := { a with phase := .claimed }) hacts rfl hheld hheld st 0
    refine ⟨_, ?_, hout, hnone, hmem⟩
    rw [exec_companionRefused]
    unfold execCompanionRefused
    rw [← hslot, inSlot_one hacts]
    dsimp only
    rw [hphase]
    exact if_pos rfl

end Sys2Proof.Machine
end

section
-- One proof at a time: the memory limit of the check counts a stack for every proof that waits for another.
set_option Elab.async false
/-! SUPPORT. The phases of a measurement (R221 to R228): what a change of an action, of a channel and of a converter's line leaves
of the rest of the group. -/

namespace Sys2Proof.Machine

variable {s t : State} {g slot : Nat}

/-- A change of the actions in a slot that keeps their slot changes the first of them. -/
theorem inSlot_modAct (x : Group) (slot : Nat) {f : GAct → GAct} (hf : ∀ a, (f a).slot = a.slot) :
    (x.modAct slot f).inSlot slot = (x.inSlot slot).map f := by
  unfold Group.modAct Group.inSlot
  dsimp only
  induction x.acts with
  | nil => rfl
  | cons a l ih =>
    by_cases h : a.slot = slot
    · simp [h, hf]
    · simpa [h] using ih

theorem grp_modAct_same (s : State) (g slot : Nat) (f : GAct → GAct) : (s.modAct g slot f).grp g = (s.grp g).modAct slot f :=
  grp_modGrp_same s g _

theorem inSlot_congr {x y : Group} (h : y.acts = x.acts) (slot : Nat) : y.inSlot slot = x.inSlot slot := by
  unfold Group.inSlot
  rw [h]

/-- An update of some group that leaves the actions of every group alone. -/
theorem acts_modGrp (s : State) (g h : Nat) {f : Group → Group} (hf : ∀ x, (f x).acts = x.acts) :
    ((s.modGrp g f).grp h).acts = (s.grp h).acts := by
  by_cases hh : h = g
  · rw [hh, grp_modGrp_same, hf]
  · rw [grp_modGrp_other s f hh]

theorem acts_modChan (s : State) (g i h : Nat) (f : Chan → Chan) : ((s.modChan g i f).grp h).acts = (s.grp h).acts :=
  acts_modGrp s g h (f := fun x => x.modChan i f) (fun _ => rfl)

/-- From `s` to `t` the memories and the output stand, and every group's actions. -/
structure SameActs (s t : State) : Prop where
  mem : t.mem = s.mem
  out : t.out = s.out
  acts : ∀ g, (t.grp g).acts = (s.grp g).acts

theorem SameActs.refl (s : State) : SameActs s s := ⟨rfl, rfl, fun _ => rfl⟩

theorem SameActs.modChan (h : SameActs s t) {g i : Nat} {f : Chan → Chan} : SameActs s (t.modChan g i f) :=
  ⟨h.mem, h.out, fun k => (acts_modChan t g i k f).trans (h.acts k)⟩

theorem SameActs.setFld (h : SameActs s t) {f : Field} {v i j k : Nat} : SameActs s (t.setFld f v i j k) := ⟨h.mem, h.out, h.acts⟩

theorem SameActs.modGrp (h : SameActs s t) {g : Nat} {f : Group → Group} (hf : ∀ x, (f x).acts = x.acts) :
    SameActs s (t.modGrp g f) := ⟨h.mem, h.out, fun k => (acts_modGrp t g k hf).trans (h.acts k)⟩

theorem SameActs.connectUnit (h : SameActs s t) {fn : PmuFn} {c : Nat} : SameActs s (connectUnit fn t c) := h.modChan

theorem SameActs.connectUnits (h : SameActs s t) {a : Action} : SameActs s (connectUnits a t) := by
  unfold Machine.connectUnits
  split
  · exact h.connectUnit.connectUnit
  · dsimp only
    split
    · exact h.connectUnit
    · exact h.connectUnit.connectUnit
  · dsimp only
    split
    · exact h.connectUnit.connectUnit.connectUnit.connectUnit
    · exact h.connectUnit.connectUnit

/-! ### Units that are connected (R221) -/

/-- The channel's unit is connected and its driver off. -/
def Chan.connected (c : Chan) : Prop := c.unit ≠ .off ∧ c.base = 0

/-- Channel `c` of a full group is connected in state `s`. -/
def connectedAt (s : State) (c : Nat) : Prop :=
  c % 16 < (s.grp (c / 16)).chans.length ∧ ((s.grp (c / 16)).chan (c % 16)).connected

theorem modNth_length {α : Type} (l : List α) (i : Nat) (f : α → α) : (modNth l i f).length = l.length := by
  induction l generalizing i with
  | nil => rfl
  | cons a l ih =>
    cases i with
    | zero => rfl
    | succ i => simp [modNth, ih]

theorem chans_length_modChan (s : State) (g i h : Nat) (f : Chan → Chan) :
    ((s.modChan g i f).grp h).chans.length = (s.grp h).chans.length := by
  by_cases hh : h = g
  · rw [hh, grp_modChan_same]
    exact modNth_length _ i f
  · rw [grp_modChan_other s i f hh]

theorem connectUnit_same {fn : PmuFn} (hfn : fn ≠ .off) {c : Nat} (hc : c % 16 < (s.grp (c / 16)).chans.length) :
    connectedAt (connectUnit fn s c) c := by
  unfold connectedAt connectUnit
  rw [chans_length_modChan, grp_modChan_same, chan_modChan_same hc]
  exact ⟨hc, hfn, rfl⟩

theorem connectUnit_keeps {fn : PmuFn} (hfn : fn ≠ .off) {c : Nat} (d : Nat) (h : connectedAt s c) :
    connectedAt (connectUnit fn s d) c := by
  by_cases hg : c / 16 = d / 16
  · by_cases hi : c % 16 = d % 16
    · have hcd : c = d := by omega
      subst hcd
      exact connectUnit_same hfn h.1
    · unfold connectedAt connectUnit at *
      rwa [chans_length_modChan, hg, grp_modChan_same, chan_modChan_other _ _ hi, ← hg]
  · unfold connectedAt connectUnit at *
    rwa [chans_length_modChan, grp_modChan_other _ _ _ hg]

theorem connectUnits_chA (a : Action) (hc : a.chA % 16 < (s.grp (a.chA / 16)).chans.length) :
    connectedAt (connectUnits a s) a.chA := by
  unfold connectUnits
  split
  · exact connectUnit_keeps (by decide) _ (connectUnit_same (by decide) hc)
  · have hfirst : connectedAt (connectUnit (if a.capacitance then .forceV else .forceI) s a.chA) a.chA :=
      connectUnit_same (by split <;> decide) hc
    dsimp only
    split
    · exact hfirst
    · exact connectUnit_keeps (by decide) _ hfirst
  · have hfirst : connectedAt (connectUnit .forceV (connectUnit .forceI s a.chA) a.chB) a.chA :=
      connectUnit_keeps (by decide) _ (connectUnit_same (by decide) hc)
    dsimp only
    split
    · exact connectUnit_keeps (by decide) _ (connectUnit_keeps (by decide) _ hfirst)
    · exact hfirst

/-! ### Loads (R223, R224) -/

/-- From `s` to `t` the registers and memories stand, and every group's actions and converter. -/
structure SameWork (s t : State) : Prop where
  mem : t.mem = s.mem
  regs : t.regs = s.regs
  acts : ∀ g, (t.grp g).acts = (s.grp g).acts
  adc : ∀ g, (t.grp g).adc = (s.grp g).adc

/-- The flags that a unit's load sets in its channel. -/
def Chan.noted (compliance overrange : Bool) (k : Chan) : Chan :=
  { k with compliance := k.compliance || compliance, overrange := k.overrange || overrange }

theorem noteLoad_eq (s : State) (x : Nat × Int) : noteLoad s x =
    match unitMeets ((s.grp (x.1 / 16)).chan (x.1 % 16)).unit (s.rangeAt x.1) x.2 with
    | some (v, compliance, overrange) =>
      (s.modGrp (x.1 / 16) (fun y => y.modChan (x.1 % 16) (Chan.noted compliance overrange))).emit (.unitOutput x.1 v)
    | none => s := rfl

theorem sameWork_noteLoad (s : State) (x : Nat × Int) : SameWork s (noteLoad s x) := by
  rw [noteLoad_eq]
  split
  next v compliance overrange _ =>
    refine ⟨rfl, rfl, fun g => acts_modGrp s _ g (f := fun y => y.modChan (x.1 % 16) (Chan.noted compliance overrange)) (fun _ => rfl),
      fun g => ?_⟩
    rw [grp_emit]
    by_cases hg : g = x.1 / 16
    · rw [hg, grp_modGrp_same]
      rfl
    · rw [grp_modGrp_other s _ hg]
  · exact ⟨rfl, rfl, fun _ => rfl, fun _ => rfl⟩

theorem sameWork_noteLoads (l : List (Nat × Int)) (s : State) : SameWork s (noteLoads l s) := by
  unfold noteLoads
  induction l generalizing s with
  | nil => exact ⟨rfl, rfl, fun _ => rfl, fun _ => rfl⟩
  | cons x l ih =>
    obtain ⟨hmem, hregs, hacts, hadc⟩ := sameWork_noteLoad s x
    obtain ⟨hmem', hregs', hacts', hadc'⟩ := ih (noteLoad s x)
    exact ⟨hmem'.trans hmem, hregs'.trans hregs, fun g => (hacts' g).trans (hacts g), fun g => (hadc' g).trans (hadc g)⟩

/-- The flags of channel `c` in state `t` are those that a load leaves on the ones in `s`. -/
def flagsAfter (c : Nat) (load : Int) (s t : State) : Prop :=
  (((s.grp (c / 16)).chan (c % 16)).unit = .forceV →
    t.overrange c = (s.overrange c || decide (1000 * fullScale (s.rangeAt c) < load.natAbs)) ∧ t.compliance c = s.compliance c) ∧
  (((s.grp (c / 16)).chan (c % 16)).unit = .forceI →
    t.compliance c = (s.compliance c || decide (load < 0 ∨ 3300000000 < load)) ∧ t.overrange c = s.overrange c)

theorem noteLoad_flags {c : Nat} (hc : c % 16 < (s.grp (c / 16)).chans.length) (load : Int) :
    flagsAfter c load s (noteLoad s (c, load)) := by
  have hchan (compliance overrange : Bool) (o : Out) :
      ((((s.modGrp (c / 16) (fun y => y.modChan (c % 16) (Chan.noted compliance overrange))).emit o).grp (c / 16)).chan (c % 16)) =
        Chan.noted compliance overrange ((s.grp (c / 16)).chan (c % 16)) := by
    rw [grp_emit, grp_modGrp_same, chan_modChan_same hc]
  refine ⟨fun hunit => ?_, fun hunit => ?_⟩
  · rw [noteLoad_eq]
    simp only [hunit, unitMeets]
    unfold State.overrange State.compliance
    rw [hchan]
    exact ⟨rfl, Bool.or_false _⟩
  · rw [noteLoad_eq]
    simp only [hunit, unitMeets]
    unfold State.overrange State.compliance
    rw [hchan]
    exact ⟨rfl, Bool.or_false _⟩

/-- Channel `c` shows the same flags in both states. -/
def sameFlags (c : Nat) (s t : State) : Prop := t.overrange c = s.overrange c ∧ t.compliance c = s.compliance c

theorem flagsAfter_of_sameFlags {c : Nat} {load : Int} {u : State} (h : flagsAfter c load s t) (hf : sameFlags c t u) :
    flagsAfter c load s u := by
  obtain ⟨hover, hcomp⟩ := hf
  unfold flagsAfter
  rw [hover, hcomp]
  exact h

theorem sameFlags_modGrp (s : State) (g c : Nat) {f : Group → Group} (hf : ∀ x, (f x).chans = x.chans) :
    sameFlags c s (s.modGrp g f) := by
  have hchans : ((s.modGrp g f).grp (c / 16)).chans = (s.grp (c / 16)).chans := by
    by_cases hg : c / 16 = g
    · rw [hg, grp_modGrp_same, hf]
    · rw [grp_modGrp_other s f hg]
  unfold sameFlags State.overrange State.compliance Group.chan
  rw [hchans]
  exact ⟨rfl, rfl⟩

theorem sameFlags_connectUnit (fn : PmuFn) (s : State) (d c : Nat) : sameFlags c s (connectUnit fn s d) := by
  unfold sameFlags State.overrange State.compliance connectUnit
  by_cases hg : c / 16 = d / 16
  · rw [hg, grp_modChan_same, chan_modChan]
    split <;> exact ⟨rfl, rfl⟩
  · rw [grp_modChan_other _ _ _ hg]
    exact ⟨rfl, rfl⟩

theorem sameFlags_trans {c : Nat} {u : State} (h : sameFlags c s t) (h' : sameFlags c t u) : sameFlags c s u :=
  ⟨h'.1.trans h.1, h'.2.trans h.2⟩

theorem sameFlags_modAct (s : State) (g slot c : Nat) (f : GAct → GAct) : sameFlags c s (s.modAct g slot f) :=
  sameFlags_modGrp s g c (fun _ => rfl)

/-- The group whose converter's line a quantity has joined. -/
def Group.lined (g : Nat) (q : Quantity) (y : Group) : Group := { y with adcQueue := insertQuantity g q y.adcQueue }

theorem holdQuantity_eq (g slot order : Nat) (s : State) (x : Nat × Nat × Bool) : holdQuantity g slot order s x =
    (s.modGrp (x.2.1 / 16) (Group.lined (x.2.1 / 16) ⟨s.channelCycle, ⟨g, slot⟩, order, x.1, x.2.2⟩)).setFld CHG_ADC_STATUS_WAITING
      (min ((s.modGrp (x.2.1 / 16) (Group.lined (x.2.1 / 16) ⟨s.channelCycle, ⟨g, slot⟩, order, x.1, x.2.2⟩)).grp
        (x.2.1 / 16)).adcQueue.length 63) (x.2.1 / 16) := rfl

theorem sameFlags_holdQuantity (g slot order : Nat) (s : State) (x : Nat × Nat × Bool) (c : Nat) :
    sameFlags c s (holdQuantity g slot order s x) :=
  sameFlags_modGrp s (x.2.1 / 16) c
    (f := Group.lined (x.2.1 / 16) ⟨s.channelCycle, ⟨g, slot⟩, order, x.1, x.2.2⟩) (fun _ => rfl)

theorem sameFlags_foldl {α : Type} {c : Nat} {f : State → α → State} (hf : ∀ s a, sameFlags c s (f s a)) (l : List α) (s : State) :
    sameFlags c s (l.foldl f s) := by
  induction l generalizing s with
  | nil => exact ⟨rfl, rfl⟩
  | cons a l ih => exact sameFlags_trans (hf s a) (ih (f s a))

/-- The end of a settle leaves every channel's flags as its loads left them. -/
theorem settleEnd_flags (g : Fin 128) (slot : Fin 16) (loads : List (Nat × Int)) (c : Nat) (s : State) :
    ∃ t, exec (.settleEnd g slot loads) s = .next t ∧ sameFlags c (noteLoads loads s) t := by
  rw [exec_settleEnd]
  unfold execSettleEnd
  dsimp only
  split
  · split
    · exact ⟨_, rfl, rfl, rfl⟩
    · split
      · exact ⟨_, rfl, sameFlags_modAct _ _ _ _ _⟩
      · split
        · exact ⟨_, rfl, sameFlags_trans (sameFlags_connectUnit _ _ _ _) (sameFlags_modAct _ _ _ _ _)⟩
        · exact ⟨_, rfl, sameFlags_trans (sameFlags_modAct _ _ _ _ _)
            (sameFlags_foldl (fun s x => sameFlags_holdQuantity _ _ _ s x c) _ _)⟩
  · exact ⟨_, rfl, rfl, rfl⟩

/-! ### Converters (R226 to R228) -/

theorem mem_insertQuantity (g : Nat) (q : Quantity) (l : List Quantity) : q ∈ insertQuantity g q l := by
  induction l with
  | nil => exact List.mem_singleton.mpr rfl
  | cons p r ih =>
    unfold insertQuantity
    split
    · exact List.mem_cons_of_mem _ ih
    · exact List.mem_cons_self ..

theorem takeResult_last {a : GAct} {idx : Nat} {r : Measured} (ha : (s.grp g).inSlot slot = some a) (hphase : a.phase = .converting)
    (hres : a.results = []) (hq : a.quantities = 1) :
    takeResult g slot idx r s = s.modAct g slot (fun b => { b with results := [(idx, r)], phase := .computing }) := by
  unfold takeResult
  rw [ha]
  dsimp only
  rw [if_pos ⟨hphase, by simp [hres]⟩, hres, hq]
  rfl

theorem inSlot_takeResult {a : GAct} {idx : Nat} {r : Measured} (ha : (s.grp g).inSlot slot = some a) (hphase : a.phase = .converting)
    (hres : a.results = []) (hq : a.quantities = 1) :
    ((takeResult g slot idx r s).grp g).inSlot slot = some { a with results := [(idx, r)], phase := .computing } := by
  rw [takeResult_last ha hphase hres hq, grp_modAct_same, inSlot_modAct _ _ (by simp), ha]
  rfl

theorem measureConnect_settles {g : Fin 128} {slot : Fin 16} {a : GAct} {s : State} (ha : (s.grp g).inSlot slot = some a)
    (hphase : a.phase = .claimed) (hkind : a.act.kind ≤ 2) : exec (.measureConnect g slot) s =
      .next ((if a.act.noForce then s else connectUnits a.act s).modAct g slot
        (fun b => { b with phase := .settling, badParam := a.act.noForce })) := by
  rw [exec_measureConnect]
  unfold execMeasureConnect
  rw [ha]
  exact if_pos ⟨hphase, hkind⟩

/-- The quantity of an action that has settled, in the line of its channel's converter. -/
theorem settleEnd_holds {g : Fin 128} {slot : Fin 16} {loads : List (Nat × Int)} {a : GAct} {c : Nat} {v : Bool} {s : State}
    (ha : (s.grp g).inSlot slot = some a) (hphase : a.phase = .settling) (hbad : a.badParam = false)
    (hcap : a.act.capacitance = false) (hl : a.act.quantityList = [(c, v)]) : exec (.settleEnd g slot loads) s =
      .next (holdQuantity g slot a.serial
        ((noteLoads loads s).modAct g slot (fun b => { b with phase := .converting, quantities := 1 })) (0, c, v)) := by
  have ha' : ((noteLoads loads s).grp g).inSlot slot = some a := by
    rw [inSlot_congr ((sameWork_noteLoads loads s).acts g), ha]
  rw [exec_settleEnd]
  unfold execSettleEnd
  dsimp only
  rw [ha']
  dsimp only
  rw [if_neg (by simp [hphase]), if_neg (by simp [hbad]), if_neg (by simp [hcap]), hl]
  rfl

theorem adcQuantityStart_takes {g : Fin 128} {q : Quantity} {rest : List Quantity} (hadc : (s.grp g).adc = none)
    (hq : (s.grp g).adcQueue = q :: rest) : exec (.adcQuantityStart g) s =
      .next (((s.modGrp g (fun x => { x with adcQueue := rest, adc := some ⟨q, 0, 0, q.voltage, !q.voltage⟩ })).setFld
        CHG_ADC_STATUS_WAITING (min rest.length 63) g).maxFld CHG_ADC_STATUS_MAX_WAIT
          (((s.modGrp g (fun x => { x with adcQueue := rest, adc := some ⟨q, 0, 0, q.voltage, !q.voltage⟩ })).setFld
            CHG_ADC_STATUS_WAITING (min rest.length 63) g).channelCycle - q.cycle - 1) g) := by
  rw [exec_adcQuantityStart]
  unfold execAdcQuantityStart
  rw [hadc, hq]

/-- The registers of a conversion that has ended. -/
def convertedOnce (g code : Nat) (s : State) : State :=
  (s.setFld CHG_ADC_STATUS_LAST_CODE code g).addFld CHG_MEAS_COUNT_CONVERSIONS 1 g

theorem avgCount_convertedOnce (g code : Nat) (s : State) : (convertedOnce g code s).avgCount g = s.avgCount g := by
  have h1 : CHG_PMU_CFG_AVG.key g 0 0 ≠ CHG_MEAS_COUNT_CONVERSIONS.key g 0 0 := by
    simp only [Field.key, CHG_PMU_CFG_AVG, CHG_MEAS_COUNT_CONVERSIONS]
    omega
  have h2 : CHG_PMU_CFG_AVG.key g 0 0 ≠ CHG_ADC_STATUS_LAST_CODE.key g 0 0 := by
    simp only [Field.key, CHG_PMU_CFG_AVG, CHG_ADC_STATUS_LAST_CODE]
    omega
  unfold convertedOnce State.avgCount State.addFld
  rw [fld_setFld_elsewhere _ _ _ _ h1, fld_setFld_elsewhere _ _ _ _ h2]

theorem adcStatus_ne_count (g : Nat) : CHG_ADC_STATUS_LAST_CODE.key g 0 0 ≠ CHG_MEAS_COUNT_CONVERSIONS.key g 0 0 := by
  simp only [Field.key, CHG_ADC_STATUS_LAST_CODE, CHG_MEAS_COUNT_CONVERSIONS]
  omega

theorem convertedOnce_regsKeep (g code : Nat) (s : State) :
    regsKeep [CHG_ADC_STATUS_LAST_CODE.key g 0 0, CHG_MEAS_COUNT_CONVERSIONS.key g 0 0] s (convertedOnce g code s) :=
  regsKeep_trans (regsKeep_mono (by simp) (regsKeep_setFld s CHG_ADC_STATUS_LAST_CODE code g 0 0))
    (regsKeep_mono (by simp) (regsKeep_setFld _ CHG_MEAS_COUNT_CONVERSIONS _ g 0 0))

/-- The last conversion of a quantity of the group's own action. -/
theorem adcConversionEnd_finishes {g : Fin 128} {code : BitVec 16} {loads : List (Nat × Int)} {c : Conversion}
    (hadc : ((noteLoads loads s).grp g).adc = some c) (hwho : c.q.who.group = g.val)
    (havg : (noteLoads loads s).avgCount g ≤ c.count + 1) : exec (.adcConversionEnd g code false loads) s =
      .next (takeResult g c.q.who.slot c.q.idx ⟨c.sum + signed 16 code.toNat, c.count + 1, c.gain16⟩
        ((convertedOnce g code.toNat (noteLoads loads s)).modGrp g (fun x => { x with adc := none }))) := by
  rw [exec_adcConversionEnd]
  unfold execAdcConversionEnd
  dsimp only
  rw [hadc]
  dsimp only
  rw [if_neg (by simp), if_pos (by rwa [← avgCount_convertedOnce g code.toNat] at havg)]
  unfold finishQuantity
  rw [if_pos hwho]
  rfl

/-- Settles O22. -/
theorem measurementPhases : Obligations.MeasurementPhases := by
  refine ⟨fun g slot a s ha hphase hkind hlen => ?_, fun g slot loads a c v s ha hphase hbad hcap hl => ?_,
    fun g slot c load s hlen => ?_, fun g q rest s hadc hq => ?_,
    fun g code loads c a s hadc hwho ha hphase hres hq havg => ?_, fun g slot idx sum n gain a s ha hphase hres hq => ?_⟩
  · have hsame : SameActs s (if a.act.noForce then s else connectUnits a.act s) := by
      split
      · exact .refl s
      · exact (SameActs.refl s).connectUnits
    refine ⟨_, measureConnect_settles ha hphase hkind, ?_, fun hforce => ?_, hsame.out, hsame.mem⟩
    · rw [grp_modAct_same, inSlot_modAct _ _ (by simp), inSlot_congr (hsame.acts g), ha]
      rfl
    · rw [if_neg (by simp [hforce])]
      obtain ⟨-, hunit, hbase⟩ := connectUnits_chA (s := s) a.act (by rw [hlen]; exact Nat.mod_lt _ (by norm_num))
      have hchan : ∀ f, ((((connectUnits a.act s).modAct g slot f).grp (a.act.chA / 16)).chan (a.act.chA % 16)) =
          (((connectUnits a.act s).grp (a.act.chA / 16)).chan (a.act.chA % 16)) := by
        intro f
        by_cases hg : a.act.chA / 16 = g
        · rw [hg, grp_modAct_same]
          rfl
        · rw [State.modAct, grp_modGrp_other _ _ hg]
      rw [hchan]
      exact ⟨hunit, hbase⟩
  · obtain ⟨hmem, hregs, hacts, -⟩ := sameWork_noteLoads loads s
    have hcycle (f : GAct → GAct) : ((noteLoads loads s).modAct g slot f).channelCycle = s.channelCycle := by
      unfold State.channelCycle
      exact congrArg (· / 12) (fld_congr DEVICE_TIME_TIME 0 0 0 (reg_congr hregs _))
    refine ⟨_, settleEnd_holds ha hphase hbad hcap hl, ?_, ?_, rfl, hmem, ?_⟩
    · rw [holdQuantity_eq, grp_setFld, inSlot_congr (acts_modGrp _ _ _ (f := Group.lined _ _) (fun _ => rfl)), grp_modAct_same, inSlot_modAct _ _ (by simp),
        inSlot_congr (hacts g), ha]
      rfl
    · rw [holdQuantity_eq, grp_setFld, grp_modGrp_same, hcycle]
      exact mem_insertQuantity _ _ _
    · exact fun k hk => (regsKeep_setFld _ CHG_ADC_STATUS_WAITING _ (c / 16) 0 0 k hk).trans (reg_congr hregs k)
  · obtain ⟨t, ht, hflags⟩ := settleEnd_flags g slot [(c.val, load)] c s
    exact ⟨t, ht, flagsAfter_of_sameFlags (noteLoad_flags (by rw [hlen]; exact Nat.mod_lt _ (by norm_num)) load) hflags⟩
  · refine ⟨_, adcQuantityStart_takes hadc hq, ?_, ?_, ?_, rfl, rfl, ?_⟩
    · unfold State.maxFld
      rw [grp_setFld, grp_setFld, grp_modGrp_same]
    · unfold State.maxFld
      rw [grp_setFld, grp_setFld, grp_modGrp_same]
    · unfold State.maxFld
      rw [fld_setFld_beside _ CHG_ADC_STATUS_MAX_WAIT CHG_ADC_STATUS_WAITING]
      exact fld_setFld_fits _ CHG_ADC_STATUS_WAITING g 0 0 (lt_of_le_of_lt (min_le_right _ _) (by decide))
    · exact regsKeep_after_setFld CHG_ADC_STATUS_MAX_WAIT _ g 0 0
        (regsKeep_setFld (s.modGrp g _) CHG_ADC_STATUS_WAITING _ g 0 0) (List.mem_singleton.mpr rfl)
  · obtain ⟨hmem, hregs, hacts, hadcs⟩ := sameWork_noteLoads loads s
    have hslot : (((convertedOnce g code.toNat (noteLoads loads s)).modGrp g (fun x => { x with adc := none })).grp g).inSlot
        c.q.who.slot = some a := by
      rw [inSlot_congr (acts_modGrp _ _ _ (f := fun x => { x with adc := none }) (fun _ => rfl))]
      exact (inSlot_congr (hacts g) _).trans ha
    refine ⟨_, adcConversionEnd_finishes ((hadcs g).trans hadc) hwho ?_, ?_, inSlot_takeResult hslot hphase hres hq, ?_, ?_, ?_, ?_, ?_⟩
    · unfold State.avgCount
      rwa [fld_congr (s := s) CHG_PMU_CFG_AVG g 0 0 (reg_congr hregs _)]
    · rw [takeResult_last hslot hphase hres hq, grp_modAct_same, grp_modGrp_same]
      rfl
    · rw [takeResult_last hslot hphase hres hq]
      refine (fld_setFld_elsewhere _ CHG_MEAS_COUNT_CONVERSIONS CHG_ADC_STATUS_LAST_CODE _ (adcStatus_ne_count g)).trans ?_
      exact fld_setFld_fits _ CHG_ADC_STATUS_LAST_CODE g 0 0 code.isLt
    · rw [takeResult_last hslot hphase hres hq]
      refine (fld_setFld_same _ CHG_MEAS_COUNT_CONVERSIONS _ g 0 0 (by unfold Field.good; decide)).trans ?_
      rw [fld_setFld_elsewhere _ _ _ _ (adcStatus_ne_count g).symm,
        fld_congr (s := s) CHG_MEAS_COUNT_CONVERSIONS g 0 0 (reg_congr hregs _)]
      rfl
    · rw [takeResult_last hslot hphase hres hq]
      rfl
    · rw [takeResult_last hslot hphase hres hq]
      exact hmem
    · rw [takeResult_last hslot hphase hres hq]
      exact fun k hk => (convertedOnce_regsKeep g code.toNat (noteLoads loads s) k hk).trans (reg_congr hregs k)
  · refine ⟨_, exec_companionResult .., inSlot_takeResult ha hphase hres hq, ?_, ?_⟩
    · rw [takeResult_last ha hphase hres hq]
      rfl
    · rw [takeResult_last ha hphase hres hq]
      exact ⟨rfl, rfl⟩

end Sys2Proof.Machine
end

section
-- One proof at a time: the memory limit of the check counts a stack for every proof that waits for another.
set_option Elab.async false
/-! SUPPORT. The non-volatile array's data register (R337 to R342). -/

namespace Sys2Proof.Machine

variable {s : State} {m : Ident} {n : Nat}

/-- A master's copy of a register above OWN_STATUS is not the one the lease renews. -/
theorem mfld_renewLease (m : Ident) (s : State) (f : Field) (n i : Nat) (hf : leaseKey < f.off := by decide) :
    (renewLease m s).mfld f n i = s.mfld f n i := by
  have hkey : f.key i 0 0 + slotSpan * n ≠ leaseKey := by
    unfold Field.key
    omega
  unfold State.mfld
  rw [reg_renewLease m s hkey]

theorem nvaProtected_renewLease (m : Ident) (a : Nat) (s : State) : nvaProtected a (renewLease m s) = nvaProtected a s := by
  unfold nvaProtected State.fbit
  rw [fld_renewLease m s NVA_WP0_WP 0 0 0 (by decide), fld_renewLease m s NVA_WP1_WP 0 0 0 (by decide)]

theorem nvaMayWrite_renewLease (m k : Ident) (a : Nat) (s : State) : nvaMayWrite k a (renewLease m s) = nvaMayWrite k a s := by
  unfold nvaMayWrite State.on
  rw [renewLease_isOwner, nvaProtected_renewLease, fld_renewLease m s NVA_CTL_BOARD_WE 0 0 0 (by decide),
    fld_renewLease m s NVA_USER_MATCH_MATCH 0 0 0 (by decide), fld_renewLease m s NVA_USER_MATCH_MASK 0 0 0 (by decide)]

theorem nvaAddr_slot (hn : slotOf m = some n) (s : State) : nvaAddr m s = s.mfld NVA_ADDR_ADDR n := by
  unfold nvaAddr
  rw [hn]

theorem nvaStep_slot (hn : slotOf m = some n) (s : State) :
    nvaStep m s = s.setMfld NVA_ADDR_ADDR n (s.mfld NVA_ADDR_ADDR n + 1) := by
  unfold nvaStep
  rw [hn]

theorem exec_nvaDataAccess_write (hadm : s.admits m .NVA_DATA []) (h : Half) (v : Word) :
    exec (.nvaDataAccess m h (some v)) s = .next (nvaWriteEffect m h v (renewLease m s)) := by
  rw [exec_nvaDataAccess]
  unfold execNvaDataAccess
  exact congrArg _ (regWrite_admits hadm h _)

theorem nvaWriteEffect_half {h : Half} (hh : h ≠ .full) (m : Ident) (v : Word) (s : State) :
    nvaWriteEffect m h v s = violation m .area true (NVA_DATA_WORD.off + h.skip) s := by
  unfold nvaWriteEffect
  exact if_pos hh

theorem nvaWriteEffect_forbidden (hmay : nvaMayWrite m (nvaAddr m s) s = false) (v : Word) :
    nvaWriteEffect m .full v s = violation m .area true NVA_DATA_WORD.off s := by
  unfold nvaWriteEffect
  dsimp only
  rw [if_neg (by simp), if_pos (by simp [hmay])]

/-- A write that finds the array free is in progress at once. -/
theorem nvaEnqueue_write {x : NvaAccess} {v : Word} (hx : x.data = some v) (hidle : s.nva.waiting = []) :
    nvaEnqueue x s = { s with nva := { s.nva with waiting := [x] } } := by
  unfold nvaEnqueue
  simp [hidle, nvaDrain, nvaPick, hx, dropFirst]

/-- A read that finds the array free is served at once. -/
theorem nvaEnqueue_read {x : NvaAccess} (hx : x.data = none) (hidle : s.nva.waiting = []) :
    nvaEnqueue x s = nvaServeRead x { s with nva := { waiting := [], lastSlot := x.slot } } := by
  unfold nvaEnqueue
  simp [hidle, nvaDrain, nvaPick, hx, dropFirst]

theorem nvaWriteEffect_waits (hn : slotOf m = some n) (hmay : nvaMayWrite m (s.mfld NVA_ADDR_ADDR n) s = true)
    (hidle : s.nva.waiting = []) (v : Word) : nvaWriteEffect m .full v s =
      { s.setMfld NVA_ADDR_ADDR n (s.mfld NVA_ADDR_ADDR n + 1) with
        nva := { s.nva with waiting := [⟨m, n, s.mfld NVA_ADDR_ADDR n, .full, some v⟩] } } := by
  unfold nvaWriteEffect
  dsimp only
  rw [if_neg (by simp), nvaAddr_slot hn, if_neg (by simp [hmay]), nvaStep_slot hn, hn,
    nvaEnqueue_write (s := s.setMfld NVA_ADDR_ADDR n (s.mfld NVA_ADDR_ADDR n + 1)) rfl hidle]
  rfl

theorem nvaServeRead_clean {x : NvaAccess} {d : Word} (hr : nvaReserved x.addr = false)
    (hd : (s.pword (nvaKey x.addr)).decode = .clean d) : nvaServeRead x s = s.emit (.answer x.ident (d &&& x.half.mask)) := by
  unfold nvaServeRead
  rw [nvaRead_clean hr hd]

/-- The state from which a read of NVA_DATA is made: a read of the high half or of the whole register steps the address. -/
def nvaReadFrom (m : Ident) (h : Half) (s : State) : State := if h = .low then s else nvaStep m s

theorem nvaReadFrom_spec (hn : slotOf m = some n) (h : Half) (s : State) :
    (nvaReadFrom m h s).mfld NVA_ADDR_ADDR n =
      (if h = .low then s.mfld NVA_ADDR_ADDR n else (s.mfld NVA_ADDR_ADDR n + 1) % 2 ^ 20) ∧
      nvaReadFrom m h s = { s with regs := (nvaReadFrom m h s).regs } ∧
      regsKeep [NVA_ADDR_ADDR.off + slotSpan * n] s (nvaReadFrom m h s) := by
  unfold nvaReadFrom
  rw [nvaStep_slot hn]
  split
  · exact ⟨rfl, rfl, regsKeep_refl _ s⟩
  · exact ⟨mfld_setMfld_same s NVA_ADDR_ADDR n _ 0 (by unfold Field.good; decide), rfl, regsKeep_setMfld s NVA_ADDR_ADDR n _ 0⟩

theorem nvaReadEffect_clean {h : Half} {d : Word} (hn : slotOf m = some n)
    (hr : nvaReserved (s.mfld NVA_ADDR_ADDR n) = false) (hd : (s.pword (nvaKey (s.mfld NVA_ADDR_ADDR n))).decode = .clean d)
    (hidle : s.nva.waiting = []) : nvaReadEffect m h s =
      { nvaReadFrom m h s with nva := { waiting := [], lastSlot := n }, out := .answer m (d &&& h.mask) :: s.out } := by
  obtain ⟨-, hrest, -⟩ := nvaReadFrom_spec hn h s
  have hmem : (nvaReadFrom m h s).mem = s.mem := by rw [hrest]
  have hout : (nvaReadFrom m h s).out = s.out := by rw [hrest]
  have hidle' : (nvaReadFrom m h s).nva.waiting = [] := by rw [hrest]; exact hidle
  have heff : nvaReadEffect m h s =
      nvaEnqueue (NvaAccess.mk m ((slotOf m).getD 0) (nvaAddr m s) h none) (nvaReadFrom m h s) := rfl
  rw [heff, nvaAddr_slot hn, hn, nvaEnqueue_read rfl hidle', nvaServeRead_clean hr (by unfold State.pword; rw [hmem]; exact hd)]
  unfold State.emit
  rw [hout]
  rfl

theorem nvaDone_one {a : Nat} {h : Half} {v : Word} (hw : s.nva.waiting = [⟨m, n, a, h, some v⟩]) :
    nvaDone s = (nvaStore a v { s with nva := { waiting := [], lastSlot := n } }).emit (.nvaWritten m a) := by
  unfold nvaDone
  rw [hw]
  rfl

/-- Settles O32. -/
theorem nonVolatileArray : Obligations.NonVolatileArray := by
  refine ⟨fun m n v s hadm hn hmay hidle => ?_, fun m n v s hadm hn hmay => ?_, fun m h v s hadm hh => ?_,
    fun m n h d s hread hn hr hd hidle => ?_, fun m n a h v s hw => ?_⟩
  · have heff := nvaWriteEffect_waits (s := renewLease m s) hn (by rwa [mfld_renewLease m s NVA_ADDR_ADDR, nvaMayWrite_renewLease])
      (by rwa [renewLease_nva]) v
    rw [mfld_renewLease m s NVA_ADDR_ADDR] at heff
    refine ⟨_, (exec_nvaDataAccess_write hadm .full v).trans (congrArg _ heff), rfl, ?_, renewLease_out m s, renewLease_mem m s, ?_⟩
    · exact mfld_setMfld_same (renewLease m s) NVA_ADDR_ADDR n _ 0 (by unfold Field.good; decide)
    · exact regsKeep_trans (regsKeep_mono (by simp) (renewLease_regsKeep m s))
        (regsKeep_mono (by simp [Field.key]) (regsKeep_setMfld (renewLease m s) NVA_ADDR_ADDR n (s.mfld NVA_ADDR_ADDR n + 1) 0))
  · rw [exec_nvaDataAccess_write hadm, nvaWriteEffect_forbidden]
    rwa [nvaAddr_slot hn, mfld_renewLease m s NVA_ADDR_ADDR, nvaMayWrite_renewLease]
  · rw [exec_nvaDataAccess_write hadm, nvaWriteEffect_half hh]
  · obtain ⟨haddr, hrest, hkeep⟩ := nvaReadFrom_spec hn h s
    have hmem : (nvaReadFrom m h s).mem = s.mem := by rw [hrest]
    refine ⟨{ nvaReadFrom m h s with nva := { waiting := [], lastSlot := n }, out := .answer m (d &&& h.mask) :: s.out },
      ?_, rfl, rfl, haddr, hmem, hkeep⟩
    rw [exec_nvaDataAccess]
    unfold execNvaDataAccess
    exact congrArg _ ((readFront_readable hread m h _).trans (nvaReadEffect_clean hn hr hd hidle))
  · refine ⟨(nvaStore a v { s with nva := { waiting := [], lastSlot := n } }).emit (.nvaWritten m a), ?_, ?_, fun k hk => ?_,
      ?_, rfl, rfl, rfl, ?_⟩
    · rw [exec_nvaWriteDone]
      unfold execNvaWriteDone
      exact congrArg _ (nvaDone_one hw)
    · rw [emit_pword, nvaStore_pword, if_pos rfl]
    · rw [emit_pword, nvaStore_pword, if_neg hk]
      rfl
    · exact fld_setFld_same _ NVA_WRITES_COUNT _ 0 0 0 (by unfold Field.good; decide)
    · exact regsKeep_setFld ({ s with nva := { waiting := [], lastSlot := n } }.writeP (nvaKey a) v) NVA_WRITES_COUNT _ 0 0 0

end Sys2Proof.Machine
end

section
-- One proof at a time: the memory limit of the check counts a stack for every proof that waits for another.
set_option Elab.async false
/-! SUPPORT. The signal engines: an engine after an update, what an operation of one engine leaves unchanged, the fetch, and the
issue of an instruction that completes (R277 to R283). -/

namespace Sys2Proof.Machine

variable {e : Nat} {s t u : State}

/-! ### Engines and their issuing bank -/

@[simp] theorem eng_modEng_same (s : State) (e : Nat) (f : Sge → Sge) : (s.modEng e f).eng e = f (s.eng e) :=
  Memory.get_set_same e _ s.sge

theorem eng_modEng_other (s : State) {e j : Nat} (f : Sge → Sge) (h : j ≠ e) : (s.modEng e f).eng j = s.eng j :=
  Memory.get_set_other _ h s.sge

theorem eng_congr (h : t.sge = s.sge) (e : Nat) : t.eng e = s.eng e := by
  unfold State.eng
  rw [h]

theorem bank_congr (h : t.eng e = s.eng e) : t.bank e = s.bank e := by
  unfold State.bank
  rw [h]

@[simp] theorem eng_setFld (s : State) (f : Field) (v i j k e : Nat) : (s.setFld f v i j k).eng e = s.eng e := rfl

@[simp] theorem eng_addFld (s : State) (f : Field) (n i j k e : Nat) : (s.addFld f n i j k).eng e = s.eng e := rfl

@[simp] theorem eng_maxFld (s : State) (f : Field) (n i j k e : Nat) : (s.maxFld f n i j k).eng e = s.eng e := rfl

@[simp] theorem eng_emit (s : State) (o : Out) (e : Nat) : (s.emit o).eng e = s.eng e := rfl

@[simp] theorem eng_draw (s : State) (e : Nat) : s.draw.2.eng e = s.eng e := rfl

@[simp] theorem modEng_fld (s : State) (e : Nat) (f : Sge → Sge) (g : Field) (i j k : Nat) :
    (s.modEng e f).fld g i j k = s.fld g i j k := rfl

theorem Sge.bank_modBank (x : Sge) (f : SgeBank → SgeBank) : (x.modBank f).bank = f x.bank := by
  unfold Sge.modBank Sge.bank
  cases x.frameRunning <;> rfl

@[simp] theorem bank_setBank (s : State) (e : Nat) (b : SgeBank) : (s.setBank e b).bank e = b := by
  unfold State.setBank State.bank
  rw [eng_modEng_same, Sge.bank_modBank]

/-- The bank after an update of its engine that leaves the banks and the running job. -/
theorem bank_modEng_cache (s : State) (e : Nat) (c : Sge → Option SgeCache) :
    (s.modEng e (fun x => { x with cache := c x })).bank e = s.bank e := by
  unfold State.bank
  rw [eng_modEng_same]
  rfl

theorem Sge.modBank_queue (x : Sge) (f : SgeBank → SgeBank) : (x.modBank f).queue = x.queue := by
  unfold Sge.modBank
  split <;> rfl

/-! ### What the work of one engine leaves unchanged -/

/-- From `s` to `u` engine `e` has worked: of the registers only its status and its cycles change, of the engines only itself,
and beside them stored words and free choices alone. -/
def InEngine (e : Nat) (s u : State) : Prop :=
  u = { s with regs := u.regs, sge := u.sge, mem := u.mem, mends := u.mends, free := u.free } ∧
  (∀ j, j ≠ e → u.eng j = s.eng j) ∧ regsKeep (engineKeys e) s u

theorem InEngine.refl (e : Nat) (s : State) : InEngine e s s := ⟨rfl, fun _ _ => rfl, regsKeep_refl _ s⟩

theorem InEngine.trans (h : InEngine e s t) (h' : InEngine e t u) : InEngine e s u := by
  obtain ⟨hrest, heng, hkeep⟩ := h
  obtain ⟨hrest', heng', hkeep'⟩ := h'
  refine ⟨?_, fun j hj => (heng' j hj).trans (heng j hj), regsKeep_trans hkeep hkeep'⟩
  rw [hrest', hrest]

theorem InEngine.engineRan (h : InEngine e s u) (hm : u.mem = t.mem) (hd : u.mends = t.mends) : engineRan e s u t := by
  obtain ⟨hrest, heng, hkeep⟩ := h
  rw [hm, hd] at hrest
  exact ⟨hrest, heng, hkeep⟩

theorem InEngine.out (h : InEngine e s u) : u.out = s.out := by
  obtain ⟨hrest, -⟩ := h
  rw [hrest]

theorem InEngine.modEng (h : InEngine e s u) (f : Sge → Sge) : InEngine e s (u.modEng e f) :=
  h.trans ⟨rfl, fun _ hj => eng_modEng_other u f hj, regsKeep_refl _ u⟩

theorem InEngine.setBank (h : InEngine e s u) (b : SgeBank) : InEngine e s (u.setBank e b) := h.modEng _

theorem InEngine.setFld (h : InEngine e s u) (f : Field) (v i : Nat) (hk : f.key i 0 0 ∈ engineKeys e) :
    InEngine e s (u.setFld f v i) :=
  h.trans ⟨rfl, fun _ _ => rfl, regsKeep_after_setFld f v i 0 0 (regsKeep_refl _ u) hk⟩

theorem InEngine.writeP (h : InEngine e s u) (key : Nat) (d : Word) : InEngine e s (u.writeP key d) :=
  h.trans ⟨rfl, fun _ _ => rfl, regsKeep_refl _ u⟩

theorem InEngine.draw (h : InEngine e s u) : InEngine e s u.draw.2 := h.trans ⟨rfl, fun _ _ => rfl, regsKeep_refl _ u⟩

theorem InEngine.countCycles (h : InEngine e s u) (n : Nat) : InEngine e s (countCycles e n u) := by
  unfold Machine.countCycles
  exact (h.setFld SGE_CYCLES_BUSY (u.fld SGE_CYCLES_BUSY e + n) e (.tail _ (.tail _ (.head _)))).modEng _

theorem countCycles_busy (e n : Nat) (s : State) :
    (countCycles e n s).fld SGE_CYCLES_BUSY e = (s.fld SGE_CYCLES_BUSY e + n) % 2 ^ 64 :=
  fld_setFld_same s SGE_CYCLES_BUSY _ e 0 0 (by unfold Field.good; decide)

@[simp] theorem countCycles_bank (e n : Nat) (s : State) : (countCycles e n s).bank e = s.bank e := by
  unfold countCycles State.bank
  dsimp only
  rw [eng_modEng_same, eng_addFld]
  split <;> rfl

theorem status_mem_engineKeys (e : Nat) : SGE_STATUS_STATE.key e 0 0 ∈ engineKeys e := .head _

theorem frameStatus_mem_engineKeys (e : Nat) : SGE_FRAME_STATUS_RUNNING.key e 0 0 ∈ engineKeys e := .tail _ (.head _)

/-- SGE_STATUS and SGE_FRAME_STATUS follow the engine; nothing else changes. -/
theorem syncEngine_onlyRegs (e : Nat) (s : State) :
    onlyRegs [SGE_STATUS_STATE.key e 0 0, SGE_FRAME_STATUS_RUNNING.key e 0 0] s (syncEngine e s) := by
  unfold syncEngine
  refine onlyRegs_after_setFld _ _ _ 0 0 ?_ (.tail _ (.head _))
  refine onlyRegs_after_setFld _ _ _ 0 0 ?_ (.head _)
  refine onlyRegs_after_setFld _ _ _ 0 0 ?_ (.head _)
  refine onlyRegs_after_setFld _ _ _ 0 0 ?_ (.head _)
  refine onlyRegs_after_setFld _ _ _ 0 0 ?_ (.head _)
  exact onlyRegs_after_setFld _ _ _ 0 0 ⟨rfl, regsKeep_refl _ s⟩ (.head _)

@[simp] theorem syncEngine_eng (e : Nat) (s : State) (j : Nat) : (syncEngine e s).eng j = s.eng j := rfl

@[simp] theorem syncEngine_bank (e : Nat) (s : State) (j : Nat) : (syncEngine e s).bank j = s.bank j := rfl

@[simp] theorem syncEngine_mem (e : Nat) (s : State) : (syncEngine e s).mem = s.mem := rfl

@[simp] theorem syncEngine_mends (e : Nat) (s : State) : (syncEngine e s).mends = s.mends := rfl

@[simp] theorem syncEngine_out (e : Nat) (s : State) : (syncEngine e s).out = s.out := rfl

/-- A register of the engine that is not a status reads as before. -/
theorem syncEngine_fld (s : State) (f : Field) (i j k : Nat)
    (h : f.key i j k ∉ [SGE_STATUS_STATE.key e 0 0, SGE_FRAME_STATUS_RUNNING.key e 0 0]) :
    (syncEngine e s).fld f i j k = s.fld f i j k := by
  obtain ⟨-, hkeep⟩ := syncEngine_onlyRegs e s
  exact fld_congr f i j k (hkeep _ h)

theorem InEngine.syncEngine (h : InEngine e s u) : InEngine e s (syncEngine e u) := by
  obtain ⟨hrest, hkeep⟩ := syncEngine_onlyRegs e u
  have hframe : Machine.syncEngine e u =
      { u with
        regs := (Machine.syncEngine e u).regs
        sge := (Machine.syncEngine e u).sge
        mem := (Machine.syncEngine e u).mem
        mends := (Machine.syncEngine e u).mends
        free := (Machine.syncEngine e u).free } := by
    rw [hrest]
  refine h.trans ⟨hframe, fun j _ => syncEngine_eng e u j, regsKeep_mono (fun k hk => ?_) hkeep⟩
  rcases List.mem_cons.mp hk with rfl | hk
  · exact status_mem_engineKeys e
  · rcases List.mem_singleton.mp hk with rfl
    exact frameStatus_mem_engineKeys e

/-! ### Reads of the engine memories -/

/-- A read that mends leaves everything but the word as it is. -/
theorem readMended_inEngine {key : Nat} {v : Word} (h : readMended key s = some (v, t)) :
    InEngine e s t ∧ t.regs = s.regs ∧ t.sge = s.sge := by
  unfold readMended at h
  split at h
  · exact absurd h nofun
  · obtain ⟨rfl, rfl⟩ := Prod.mk.inj (Option.some.inj h)
    split
    · exact ⟨(InEngine.refl e s).writeP _ _, rfl, rfl⟩
    · exact ⟨InEngine.refl e s, rfl, rfl⟩

/-- A fetch changes the engine's cache and mends a word of P; the bank that issues and every register stay. -/
theorem fetchInstr_spec {w : BitVec 32} (h : fetchInstr e s = some (w, t)) :
    InEngine e s t ∧ t.regs = s.regs ∧ ∃ c, t.eng e = { s.eng e with cache := c } := by
  unfold fetchInstr at h
  dsimp only at h
  split at h
  · obtain ⟨rfl, rfl⟩ := Prod.mk.inj (Option.some.inj h)
    exact ⟨InEngine.refl e s, rfl, (s.eng e).cache, rfl⟩
  · split at h
    · exact absurd h nofun
    · rename_i v r hr
      obtain ⟨hin, hregs, hsge⟩ := readMended_inEngine (e := e) hr
      obtain ⟨-, rfl⟩ := Prod.mk.inj (Option.some.inj h)
      exact ⟨hin.modEng _, hregs, (s.eng e).cache.map (fun c => c.capture (s.eng e).bank.pc (halfOf v (s.eng e).bank.pc)),
        by rw [eng_modEng_same, eng_congr hsge e]⟩

theorem fetchInstr_bank {w : BitVec 32} (h : fetchInstr e s = some (w, t)) : t.bank e = s.bank e := by
  obtain ⟨-, -, c, hc⟩ := fetchInstr_spec h
  unfold State.bank
  rw [hc]
  rfl

/-! ### Issue -/

/-- An engine issues a well-formed instruction of the command's opcode. -/
theorem issue_of_issues {op : Nat} {w : BitVec 32} (work : BitVec 32 → State → SgeRes) (h : s.issues e op w t) :
    issue e op work s = syncEngine e (applyRes e (work w t) t) := by
  obtain ⟨hcan, hfetch, hop, hform, hend⟩ := h
  subst hop
  obtain ⟨f, hf, hz⟩ := (Option.any_eq_true _ _).mp hform
  have hok : ¬ (¬ leftOutZero f w = true ∨ (controlOp (opOf w) = true ∧ (t.bank e).atEnd = true)) := by
    rintro (hn | ⟨hc, ha⟩)
    · exact hn hz
    · rw [hend hc] at ha
      exact absurd ha nofun
  unfold issue
  rw [if_neg (by simp [hcan])]
  dsimp only
  rw [hfetch]
  dsimp only
  rw [hf]
  dsimp only
  rw [if_neg (fun hne => hne rfl), if_neg hok]

/-- What a trap that is not a DATA trap does at the issue: the registers and banks are those of before the fetch. -/
theorem issue_illegal {op : Nat} {w : BitVec 32} {work : BitVec 32 → State → SgeRes} (h : s.issues e op w t)
    (hw : work w t = .illegal) : issue e op work s = syncEngine e (takeTrap e 3 (s.bank e).pc (s.bank e).pc t) := by
  have ⟨_, hfetch, _⟩ := h
  rw [issue_of_issues work h, hw, ← fetchInstr_bank hfetch]
  rfl

theorem issue_trap {op cause : Nat} {w : BitVec 32} {work : BitVec 32 → State → SgeRes} (h : s.issues e op w t)
    (hw : work w t = .trap cause) : issue e op work s = syncEngine e (takeTrap e cause (s.bank e).pc (s.bank e).pc t) := by
  have ⟨_, hfetch, _⟩ := h
  rw [issue_of_issues work h, hw, ← fetchInstr_bank hfetch]
  rfl

/-- The cycles by which an instruction stalls (R280). -/
def stallOf (b : SgeBank) (uses : List Nat) (rounds : Bool) : Nat :=
  bnat (uses.any (fun r => b.loaded.contains r) || (rounds && uses.any (fun r => b.acWritten.contains r)))

/-- The PC and the loop stack after an instruction: at the jump's target, or as R282 says. -/
def afterInstr (b : SgeBank) (pc : Nat) (target : Option Nat) : List SgeLoop × Nat :=
  match target with
  | some n => (b.loops, n)
  | none => loopNext b.loops pc

/-- A bank after an instruction at `pc` that completes. -/
def afterBank (b : SgeBank) (pc : Nat) (loaded acs : List Nat) (target : Option Nat) : SgeBank :=
  { b with loops := (afterInstr b pc target).1, pc := (afterInstr b pc target).2, loaded := loaded, acWritten := acs }

/-- The state in which the capture of a body is ready once its first pass has ended (R284). -/
def afterPass (e pc next : Nat) (target : Option Nat) (s : State) : State :=
  if target = none then
    s.modEng e (fun x => { x with cache := x.cache.map (fun c =>
      if pc = c.stop ∧ next = c.start then { c with ready := true } else c) })
  else s

theorem afterPass_spec (e pc next : Nat) (target : Option Nat) (s : State) :
    InEngine e s (afterPass e pc next target s) ∧ (afterPass e pc next target s).regs = s.regs ∧ (afterPass e pc next target s).mem = s.mem ∧
      (afterPass e pc next target s).mends = s.mends ∧ (afterPass e pc next target s).bank e = s.bank e := by
  unfold afterPass
  split
  · exact ⟨(InEngine.refl e s).modEng _, rfl, rfl, rfl, bank_modEng_cache s e _⟩
  · exact ⟨InEngine.refl e s, rfl, rfl, rfl, rfl⟩

/-- The steps of an instruction that completes without an OVERFLOW trap. -/
theorem completeInstr_eq {pc cycles : Nat} {old : SgeBank} {uses loaded acs : List Nat} {ovf rounds : Bool}
    {target : Option Nat} (hv : (ovf && bit (s.bank e).sr srOVT) = false) :
    completeInstr e pc old uses loaded acs cycles ovf rounds target s = countCycles e (cycles + stallOf old uses rounds)
      (afterPass e pc (afterInstr (s.bank e) pc target).2 target (s.setBank e (afterBank (s.bank e) pc loaded acs target))) := by
  unfold completeInstr
  dsimp only
  rw [if_neg (by simp [hv])]
  rfl

/-- What an instruction that completes without an OVERFLOW trap leaves. -/
theorem completeInstr_spec {pc cycles : Nat} {old : SgeBank} {uses loaded acs : List Nat} {ovf rounds : Bool}
    {target : Option Nat} (hv : (ovf && bit (s.bank e).sr srOVT) = false) :
    let r := completeInstr e pc old uses loaded acs cycles ovf rounds target s
    InEngine e s r ∧ r.mem = s.mem ∧ r.mends = s.mends ∧
      r.fld SGE_CYCLES_BUSY e = (s.fld SGE_CYCLES_BUSY e + (cycles + stallOf old uses rounds)) % 2 ^ 64 ∧
      r.bank e = afterBank (s.bank e) pc loaded acs target := by
  dsimp only
  rw [completeInstr_eq hv]
  obtain ⟨hin, hregs, hmem, hmends, hbank⟩ := afterPass_spec e pc (afterInstr (s.bank e) pc target).2 target
    (s.setBank e (afterBank (s.bank e) pc loaded acs target))
  refine ⟨(((InEngine.refl e s).setBank _).trans hin).countCycles _, hmem, hmends, ?_, ?_⟩
  · rw [countCycles_busy, fld_congr _ e 0 0 (reg_congr hregs _)]
    rfl
  · rw [countCycles_bank, hbank, bank_setBank]

theorem afterBank_onward {b : SgeBank} {pc : Nat} (hpc : b.pc = pc) (loaded acs : List Nat) :
    afterBank b pc loaded acs none = b.onward loaded acs := by
  subst hpc
  rfl

/-- An instruction that completes: the engine has run, its cycles are counted, and its bank is at the next instruction. -/
theorem issue_completes {op cycles : Nat} {w : BitVec 32} {work : BitVec 32 → State → SgeRes} {uses loaded acs : List Nat}
    {ovf rounds : Bool} {target : Option Nat} (h : s.issues e op w t)
    (hw : work w t = .fin u uses loaded acs cycles ovf rounds target) (hin : InEngine e t u)
    (hv : (ovf && bit (u.bank e).sr srOVT) = false) :
    engineRan e s (issue e op work s) u ∧
      (issue e op work s).bank e = afterBank (u.bank e) (s.bank e).pc loaded acs target ∧
      (issue e op work s).fld SGE_CYCLES_BUSY e =
        (u.fld SGE_CYCLES_BUSY e + (cycles + stallOf (s.bank e) uses rounds)) % 2 ^ 64 := by
  have ⟨_, hfetch, _⟩ := h
  obtain ⟨hin', -⟩ := fetchInstr_spec hfetch
  have hbank := fetchInstr_bank hfetch
  obtain ⟨hdone, hmem, hmends, hbusy, hb⟩ := completeInstr_spec (s := u) (pc := (s.bank e).pc) (cycles := cycles)
    (old := s.bank e) (uses := uses) (loaded := loaded) (acs := acs) (rounds := rounds) (target := target) hv
  have happly : issue e op work s =
      syncEngine e (completeInstr e (s.bank e).pc (s.bank e) uses loaded acs cycles ovf rounds target u) := by
    rw [issue_of_issues work h, hw, ← hbank]
    rfl
  rw [happly]
  have hran := ((hin'.trans hin).trans hdone).syncEngine
  refine ⟨hran.engineRan ((syncEngine_mem _ _).trans hmem) ((syncEngine_mends _ _).trans hmends), (syncEngine_bank _ _ _).trans hb, ?_⟩
  rw [syncEngine_fld _ _ _ _ _ (by simp [Field.key, SGE_CYCLES_BUSY, SGE_STATUS_STATE, SGE_FRAME_STATUS_RUNNING]), hbusy]

section

variable {c : Instr} {op cycles : Nat} {w : BitVec 32} {work : BitVec 32 → State → SgeRes} {uses loaded acs : List Nat}
  (hc : exec c s = .next (issue e op work s)) (h : s.issues e op w t)

include hc h

theorem exec_illegal (hw : work w t = .illegal) : exec c s = .next (syncEngine e (takeTrap e 3 (s.bank e).pc (s.bank e).pc t)) :=
  hc.trans (congrArg _ (issue_illegal h hw))

theorem exec_traps {cause : Nat} (hw : work w t = .trap cause) :
    exec c s = .next (syncEngine e (takeTrap e cause (s.bank e).pc (s.bank e).pc t)) := hc.trans (congrArg _ (issue_trap h hw))

/-- An instruction that does not jump, whose work leaves the bank `b`. -/
theorem exec_goes_onward (b : SgeBank) {ovf rounds : Bool} (hin : InEngine e t u)
    (hw : work w t = .fin (u.setBank e b) uses loaded acs cycles ovf rounds none) (hpc : b.pc = (s.bank e).pc)
    (hv : (ovf && bit b.sr srOVT) = false) : ∃ r, exec c s = .next r ∧ engineRan e s r u ∧ r.bank e = b.onward loaded acs := by
  obtain ⟨hran, hbank, -⟩ := issue_completes h hw (hin.setBank b) (by rwa [bank_setBank])
  rw [bank_setBank, afterBank_onward hpc] at hbank
  exact ⟨_, hc, hran, hbank⟩

/-- An instruction that jumps, whose work leaves the bank `b`. -/
theorem exec_jumps {target : Nat} {b : SgeBank} (hin : InEngine e t u)
    (hw : work w t = .fin u uses [] [] cycles false false (some target)) (hb : u.bank e = b) :
    ∃ r, exec c s = .next r ∧ engineRan e s r u ∧ r.bank e = b.jump target := by
  obtain ⟨hran, hbank, -⟩ := issue_completes h hw hin rfl
  rw [hb] at hbank
  exact ⟨_, hc, hran, hbank⟩

end

end Sys2Proof.Machine
end

section
-- One proof at a time: the memory limit of the check counts a stack for every proof that waits for another.
set_option Elab.async false
/-! SUPPORT. Signal-engine arithmetic (R265 to R276): register classes, flags, and the instructions. -/

namespace Sys2Proof.Machine

variable {e : Fin 32} {w : BitVec 32} {s t : State}

/-! ### Register classes and flags -/

theorem regClass_d {r : Nat} (h : r < 16) : regClass r = .d := if_pos h

theorem regClass_ac {r : Nat} (h : 16 ≤ r) (h' : r < 24) : regClass r = .ac := by
  unfold regClass
  rw [if_neg (by omega), if_pos h']

theorem regClass_pt {r : Nat} (h : 24 ≤ r) : regClass r = .pt := by
  unfold regClass
  rw [if_neg (by omega), if_neg (by omega)]

theorem isD_iff (r : Nat) : isD r = true ↔ r < 16 := by
  unfold isD regClass
  split
  · simp [*]
  · split <;> simp [*]

theorem isAc_iff (r : Nat) : isAc r = true ↔ 16 ≤ r ∧ r < 24 := by
  unfold isAc regClass
  split
  · simp; omega
  · split <;> simp <;> omega

/-- A write of one bit of SR keeps the others. -/
theorem bit_srPut_other (sr : BitVec 12) {i j : Nat} (v : Bool) (h : i ≠ j) : bit (srPut sr i v) j = bit sr j := by
  have hbit : ((1 : BitVec 12) <<< i).getLsbD j = false := by
    rw [BitVec.getLsbD_shiftLeft]
    rcases Nat.lt_or_ge j i with hlt | hge
    · simp [hlt]
    · have hne : j - i ≠ 0 := by omega
      simp [hne]
  unfold srPut bit
  cases v with
  | true => rw [if_pos rfl, BitVec.getLsbD_or, hbit, Bool.or_false]
  | false =>
    rw [if_neg (by decide), BitVec.getLsbD_and, BitVec.getLsbD_not, hbit]
    simp
    exact BitVec.lt_of_getLsbD

/-- The flags leave SR from bit 4 on as it was. -/
theorem bit_srNZV_above (sr : BitVec 12) (n z v : Bool) {i : Nat} (h : 4 ≤ i) : bit (srNZV sr n z v) i = bit sr i := by
  have hbase : bit (srPut (srNZ sr n z) srV v) i = bit sr i := by
    unfold srNZ
    rw [bit_srPut_other _ v (by unfold srV; omega), bit_srPut_other _ z (by unfold srZ; omega),
      bit_srPut_other _ n (by unfold srN; omega)]
  unfold srNZV
  dsimp only
  split
  · rw [bit_srPut_other _ true (by unfold srSV; omega), hbase]
  · exact hbase

/-! ### Results in the class of the destination -/

theorem arith_pc {b b' : SgeBank} {rd : Nat} {sources : List Nat} {f : (Nat → Int) → Int} {v : Bool}
    (h : arith b rd sources f = some (b', v)) : b'.pc = b.pc := by
  unfold arith at h
  split at h
  · split at h
    · exact absurd h nofun
    · rw [← (Prod.mk.inj (Option.some.inj h)).1]
      rfl
  · rw [← (Prod.mk.inj (Option.some.inj h)).1]
    rfl
  · split at h
    · exact absurd h nofun
    · rw [← (Prod.mk.inj (Option.some.inj h)).1]
      rfl

section

variable {op rd : Nat} {sources : List Nat} {f : (Nat → Int) → Int} {work : BitVec 32 → State → SgeRes}
  (h : s.issues e op w t) (hw : work w t = arithRes e rd sources f t)

include h hw

/-- An arithmetic instruction whose classes the table does not allow is ILLEGAL. -/
theorem arith_illegal (ha : arith (s.bank e) rd sources f = none) :
    issue e op work s = syncEngine e (takeTrap e 3 (s.bank e).pc (s.bank e).pc t) := by
  have ⟨_, hfetch, _⟩ := h
  refine issue_illegal h ?_
  rw [hw, arithRes, fetchInstr_bank hfetch, ha]

/-- An arithmetic instruction without an OVERFLOW trap. -/
theorem arith_result {b : SgeBank} {v : Bool} (ha : arith (s.bank e) rd sources f = some (b, v))
    (hv : v = true → bit b.sr srOVT = false) :
    (issue e op work s).bank e = b.onward [] (acDest rd) ∧ engineRan e s (issue e op work s) t ∧
      (issue e op work s).fld SGE_CYCLES_BUSY e =
        (s.fld SGE_CYCLES_BUSY e + 1 + bnat (sources.any (fun r => (s.bank e).loaded.contains r))) % 2 ^ 64 := by
  have ⟨_, hfetch, _⟩ := h
  obtain ⟨-, hregs, -⟩ := fetchInstr_spec hfetch
  have hres : work w t = .fin (t.setBank e b) sources [] (acDest rd) 1 v false none := by
    rw [hw, arithRes, fetchInstr_bank hfetch, ha]
  obtain ⟨hran, hbank, hbusy⟩ := issue_completes h hres ((InEngine.refl e.val t).setBank b) (by
    rw [bank_setBank]
    cases v with
    | false => rfl
    | true => exact hv rfl)
  rw [bank_setBank, afterBank_onward (arith_pc ha)] at hbank
  refine ⟨hbank, hran, hbusy.trans ?_⟩
  have hfld : (t.setBank e b).fld SGE_CYCLES_BUSY e = s.fld SGE_CYCLES_BUSY e := fld_congr _ _ 0 0 (reg_congr hregs _)
  rw [hfld, stallOf, Bool.false_and, Bool.or_false, Nat.add_assoc]

end

/-! ### The other instructions -/

theorem ovt_kept {sr : BitVec 12} (n z v ovf : Bool) (h : bit sr srOVT = false) :
    (ovf && bit (srNZV sr n z v) srOVT) = false := by
  rw [bit_srNZV_above _ _ _ _ (by decide), h, Bool.and_false]

/-- NOP does nothing. -/
theorem nop_clause (h : s.issues e 0x00 w t) :
    ∃ u, exec (.nop e) s = .next u ∧ u.bank e = (s.bank e).onward [] [] ∧ engineRan e s u t := by
  have ⟨_, hfetch, _⟩ := h
  obtain ⟨hran, hbank, -⟩ := issue_completes (work := fun _ s => .plain s []) h rfl (InEngine.refl e.val t) rfl
  rw [fetchInstr_bank hfetch, afterBank_onward rfl] at hbank
  exact ⟨_, exec_nop e s, hbank, hran⟩

/-- A logic instruction on data registers. -/
theorem logic_clause {c : Instr} {op : Nat} {f : BitVec 24 → BitVec 24 → BitVec 24}
    (hc : exec c s = .next (issue e op (fun w s => logicRes e w f s) s)) (h : s.issues e op w t) :
    if rdOf w < 16 ∧ raOf w < 16 ∧ rbOf w < 16 then
      ∃ u, exec c s = .next u ∧ engineRan e s u t ∧ u.bank e =
        ((s.bank e).flagNZ (rdOf w) (f ((s.bank e).getD (raOf w)) ((s.bank e).getD (rbOf w)))).onward [] []
    else exec c s = .next (syncEngine e (takeTrap e 3 (s.bank e).pc (s.bank e).pc t)) := by
  have ⟨_, hfetch, _⟩ := h
  have hclass : (isD (rdOf w) && isD (raOf w) && isD (rbOf w)) = true ↔ rdOf w < 16 ∧ raOf w < 16 ∧ rbOf w < 16 := by
    simp [isD_iff, and_assoc]
  split
  · rename_i hd
    refine exec_goes_onward hc h ((s.bank e).flagNZ (rdOf w) (f ((s.bank e).getD (raOf w)) ((s.bank e).getD (rbOf w))))
      (InEngine.refl e.val t) (uses := [raOf w, rbOf w]) (cycles := 1) (ovf := false) (rounds := false) ?_ rfl rfl
    unfold logicRes
    rw [if_pos (hclass.mpr hd), fetchInstr_bank hfetch]
    rfl
  · rename_i hd
    refine exec_illegal hc h ?_
    unfold logicRes
    rw [if_neg (fun hn => hd (hclass.mp hn))]

/-- The flags that CMP writes. -/
def cmpBank (b : SgeBank) (ra rb : Nat) : SgeBank × Bool :=
  if isAc ra || isAc rb then b.only56 (b.int56 ra - b.int56 rb) else b.only24 (b.int24 ra - b.int24 rb)

theorem cmpBank_spec (b : SgeBank) (ra rb : Nat) :
    (cmpBank b ra rb).1.pc = b.pc ∧ ∃ n z v, (cmpBank b ra rb).1.sr = srNZV b.sr n z v := by
  unfold cmpBank
  split <;> exact ⟨rfl, _, _, _, rfl⟩

theorem cmp_clause (h : s.issues e 0x08 w t) (hrd : rdOf w = 0) (hovt : bit (s.bank e).sr srOVT = false) :
    ∃ u, exec (.cmp e) s = .next u ∧ engineRan e s u t ∧
      u.bank e = SgeBank.onward (cmpBank (s.bank e) (raOf w) (rbOf w)).1 [] [] := by
  have ⟨_, hfetch, _⟩ := h
  obtain ⟨hpc, n, z, v, hsr⟩ := cmpBank_spec (s.bank e) (raOf w) (rbOf w)
  refine exec_goes_onward (exec_cmp e s) h (cmpBank (s.bank e) (raOf w) (rbOf w)).1 (InEngine.refl e.val t)
    (uses := [raOf w, rbOf w]) (cycles := 1) (ovf := (cmpBank (s.bank e) (raOf w) (rbOf w)).2) (rounds := false) ?_ hpc ?_
  · unfold cmpRes
    dsimp only
    rw [if_neg (fun hn => hn hrd), fetchInstr_bank hfetch]
    rfl
  · rw [hsr]
    exact ovt_kept n z v _ hovt

/-- A bank after MOVI, by the class of its destination. -/
def moviBank (b : SgeBank) (rd : Nat) (x : Int) : SgeBank :=
  match regClass rd with
  | .d => b.flagNZ rd (to24 x)
  | .ac => { b.putAc (rd - 16) (to56 x) with sr := srNZ b.sr (decide (x < 0)) (decide (x = 0)) }
  | .pt => b.putPt (rd - 24) (to14 x)

theorem moviRes_eq (hra : raOf w = 0) (e : Nat) (s : State) : moviRes e w s =
    .fin (s.setBank e (moviBank (s.bank e) (rdOf w) (immOf w))) [] [] (acDest (rdOf w)) 1 false false none := by
  unfold moviRes moviBank acDest isAc
  dsimp only
  rw [if_neg (fun hn => hn hra)]
  cases regClass (rdOf w) <;> rfl

theorem moviBank_pc (b : SgeBank) (rd : Nat) (x : Int) : (moviBank b rd x).pc = b.pc := by
  unfold moviBank
  split <;> rfl

theorem movi_clause (h : s.issues e 0x0A w t) (hra : raOf w = 0) :
    ∃ u b, exec (.movi e) s = .next u ∧ engineRan e s u t ∧ u.bank e = b.onward [] (acDest (rdOf w)) ∧
      (rdOf w < 16 → b = (s.bank e).flagNZ (rdOf w) (to24 (immOf w))) ∧
      (16 ≤ rdOf w → rdOf w < 24 → b = { (s.bank e).putAc (rdOf w - 16) (to56 (immOf w)) with
        sr := srNZ (s.bank e).sr (decide (immOf w < 0)) (decide (immOf w = 0)) }) ∧
      (24 ≤ rdOf w → b = (s.bank e).putPt (rdOf w - 24) (to14 (immOf w))) := by
  have ⟨_, hfetch, _⟩ := h
  have hres := moviRes_eq hra e t
  rw [fetchInstr_bank hfetch] at hres
  obtain ⟨u, hu, hran, hb⟩ := exec_goes_onward (exec_movi e s) h _ (InEngine.refl e.val t) hres (moviBank_pc _ _ _) rfl
  refine ⟨u, _, hu, hran, hb, fun hd => ?_, fun hd ha => ?_, fun hp => ?_⟩
  · unfold moviBank
    rw [regClass_d hd]
  · unfold moviBank
    rw [regClass_ac hd ha]
  · unfold moviBank
    rw [regClass_pt hp]

/-- LUI loads its immediate times 256. -/
theorem lui_clause (h : s.issues e 0x0B w t) (hra : raOf w = 0) (hrd : rdOf w < 16) :
    ∃ u, exec (.lui e) s = .next u ∧ engineRan e s u t ∧
      u.bank e = ((s.bank e).flagNZ (rdOf w) (to24 (immOf w * 256))).onward [] [] := by
  have ⟨_, hfetch, _⟩ := h
  refine exec_goes_onward (exec_lui e s) h ((s.bank e).flagNZ (rdOf w) (to24 (immOf w * 256))) (InEngine.refl e.val t)
    (uses := []) (cycles := 1) (ovf := false) (rounds := false) ?_ rfl rfl
  unfold luiRes
  rw [if_neg (by simp [hra, (isD_iff (rdOf w)).mpr hrd]), fetchInstr_bank hfetch]
  rfl

/-- A product, alone or added to or subtracted from its accumulator. -/
theorem mult_clause {c : Instr} {op : Nat} {f : Int → Int → Int} {keep sub : Bool}
    (hc : exec c s = .next (issue e op (fun w s => multRes e w keep sub s) s))
    (hf : ∀ a p : Int, (if sub then (if keep then a else 0) - p else (if keep then a else 0) + p) = f a p)
    (h : s.issues e op w t) (hrd : isAc (rdOf w) = true) (hra : raOf w < 16) (hrb : rbOf w < 16)
    (hovt : bit (s.bank e).sr srOVT = false) :
    ∃ u, exec c s = .next u ∧ engineRan e s u t ∧ u.bank e = SgeBank.onward ((s.bank e).flag56 (rdOf w - 16)
      (f ((s.bank e).getAc (rdOf w - 16)).toInt (product (bit (s.bank e).sr srFRAC) ((s.bank e).getD (raOf w)).toInt
        ((s.bank e).getD (rbOf w)).toInt))).1 [] [rdOf w] := by
  have ⟨_, hfetch, _⟩ := h
  refine exec_goes_onward hc h _ (InEngine.refl e.val t) (uses := [raOf w, rbOf w] ++ (if keep then [rdOf w] else [])) (cycles := 1)
    (ovf := ((s.bank e).flag56 (rdOf w - 16) (f ((s.bank e).getAc (rdOf w - 16)).toInt (product (bit (s.bank e).sr srFRAC)
      ((s.bank e).getD (raOf w)).toInt ((s.bank e).getD (rbOf w)).toInt))).2) (rounds := false) ?_ rfl (ovt_kept _ _ _ _ hovt)
  unfold multRes
  dsimp only
  rw [if_pos (by simp [hrd, isD_iff, hra, hrb]), fetchInstr_bank hfetch, hf]
  rfl

/-- RND rounds an accumulator into a data register. -/
theorem rnd_clause (h : s.issues e 0x13 w t) (hrd : rdOf w < 16) (hra : isAc (raOf w) = true) (hrb : rbOf w = 0)
    (hovt : bit (s.bank e).sr srOVT = false) :
    ∃ u, exec (.rnd e) s = .next u ∧ engineRan e s u t ∧ u.bank e = SgeBank.onward ((s.bank e).flag24 (rdOf w)
      (roundConvergent ((s.bank e).getAc (raOf w - 16)).toInt)).1 [] [] := by
  have ⟨_, hfetch, _⟩ := h
  refine exec_goes_onward (exec_rnd e s) h _ (InEngine.refl e.val t) (uses := [raOf w]) (cycles := 1)
    (ovf := ((s.bank e).flag24 (rdOf w) (roundConvergent ((s.bank e).getAc (raOf w - 16)).toInt)).2) (rounds := true) ?_ rfl
    (ovt_kept _ _ _ _ hovt)
  unfold rndRes
  dsimp only
  rw [if_pos (by simp [hra, isD_iff, hrd, hrb]), fetchInstr_bank hfetch]

/-- An arithmetic instruction of two cases: its classes are not allowed, or it takes no OVERFLOW trap. -/
theorem arith_clause {c : Instr} {op rd : Nat} {sources : List Nat} {f : (Nat → Int) → Int} {work : BitVec 32 → State → SgeRes}
    (hc : exec c s = .next (issue e op work s)) (h : s.issues e op w t) (hw : work w t = arithRes e rd sources f t) :
    match arith (s.bank e) rd sources f with
    | none => exec c s = .next (syncEngine e (takeTrap e 3 (s.bank e).pc (s.bank e).pc t))
    | some (b, v) => (v = true → bit b.sr srOVT = false) →
      ∃ u, exec c s = .next u ∧ u.bank e = b.onward [] (acDest rd) ∧ engineRan e s u t := by
  split
  · rename_i ha
    exact hc.trans (congrArg _ (arith_illegal h hw ha))
  · rename_i b v ha
    intro hv
    obtain ⟨hb, hran, -⟩ := arith_result h hw ha hv
    exact ⟨_, hc, hb, hran⟩

theorem add_clause (h : s.issues e 0x01 w t) :
    match arith (s.bank e) (rdOf w) [raOf w, rbOf w] (fun v => v (raOf w) + v (rbOf w)) with
    | none => exec (.add e) s = .next (syncEngine e (takeTrap e 3 (s.bank e).pc (s.bank e).pc t))
    | some (b, v) => (v = true → bit b.sr srOVT = false) →
      ∃ u, exec (.add e) s = .next u ∧ u.bank e = b.onward [] (acDest (rdOf w)) ∧ engineRan e s u t ∧
        u.fld SGE_CYCLES_BUSY e = (s.fld SGE_CYCLES_BUSY e + 1 +
          bnat ((s.bank e).loaded.contains (raOf w) || (s.bank e).loaded.contains (rbOf w))) % 2 ^ 64 := by
  let work : BitVec 32 → State → SgeRes := fun w s => arithRes e (rdOf w) [raOf w, rbOf w] (fun v => v (raOf w) + v (rbOf w)) s
  split
  · rename_i ha
    exact (exec_add e s).trans (congrArg _ (arith_illegal (work := work) h rfl ha))
  · rename_i b v ha
    intro hv
    obtain ⟨hb, hran, hbusy⟩ := arith_result (work := work) h rfl ha hv
    exact ⟨_, exec_add e s, hb, hran, by simpa using hbusy⟩

/-- Settles O25. -/
theorem sgeArithmetic : Obligations.SgeArithmetic := by
  refine ⟨fun e w s t => nop_clause, fun e w s t => add_clause, fun e w s t h => arith_clause (exec_sub e s) h rfl,
    fun e w s t h => arith_clause (exec_ash e s) h ?_, fun e w s t h => arith_clause (exec_abs e s) h rfl,
    fun e w s t h => arith_clause (exec_addi e s) h rfl, fun e w c op f s t hc h => ?_, fun e w s t => cmp_clause,
    fun e w s t => movi_clause, fun e w s t => lui_clause, fun e w c op f s t hc h hrd hra hrb hovt => ?_,
    fun e w s t => rnd_clause⟩
  · obtain ⟨_, hfetch, _⟩ := h
    rw [fetchInstr_bank hfetch]
  · simp only [List.mem_cons, List.not_mem_nil, or_false, Prod.mk.injEq] at hc
    rcases hc with ⟨rfl, rfl, rfl⟩ | ⟨rfl, rfl, rfl⟩ | ⟨rfl, rfl, rfl⟩
    · exact logic_clause (exec_and e s) h
    · exact logic_clause (exec_or e s) h
    · exact logic_clause (exec_xor e s) h
  · simp only [List.mem_cons, List.not_mem_nil, or_false, Prod.mk.injEq] at hc
    rcases hc with ⟨rfl, rfl, rfl⟩ | ⟨rfl, rfl, rfl⟩ | ⟨rfl, rfl, rfl⟩
    · exact mult_clause (exec_mpy e s) (fun _ _ => Int.zero_add _) h hrd hra hrb hovt
    · exact mult_clause (exec_mac e s) (fun _ _ => rfl) h hrd hra hrb hovt
    · exact mult_clause (exec_msu e s) (fun _ _ => rfl) h hrd hra hrb hovt

end Sys2Proof.Machine
end

section
-- One proof at a time: the memory limit of the check counts a stack for every proof that waits for another.
set_option Elab.async false
/-! SUPPORT. Traps of the signal engines (R278, R283, R296, R297). -/

namespace Sys2Proof.Machine

variable {e : Fin 32} {w : BitVec 32} {s t : State}

/-! ### Which instructions trap -/

theorem issue_unreadable (op : Nat) (work : BitVec 32 → State → SgeRes) (hcan : s.canIssue e = true)
    (hfetch : fetchInstr e s = none) : issue e op work s = syncEngine e (takeTrap e 0 (s.bank e).pc (s.bank e).pc s) := by
  unfold issue
  rw [if_neg (by simp [hcan])]
  dsimp only
  rw [hfetch]

theorem applyRes_illegal (hfetch : fetchInstr e s = some (w, t)) :
    applyRes e .illegal t = takeTrap e 3 (s.bank e).pc (s.bank e).pc t := by
  rw [← fetchInstr_bank hfetch]
  rfl

theorem issue_unknown (op : Nat) (work : BitVec 32 → State → SgeRes) (hcan : s.canIssue e = true)
    (hfetch : fetchInstr e s = some (w, t)) (hop : formatOf (opOf w) = none) :
    issue e op work s = syncEngine e (takeTrap e 3 (s.bank e).pc (s.bank e).pc t) := by
  unfold issue
  rw [if_neg (by simp [hcan])]
  dsimp only
  rw [hfetch]
  dsimp only
  rw [hop]
  dsimp only
  rw [applyRes_illegal hfetch]

/-- A field that the format leaves out and that is not zero, or a control instruction at the END of a loop, is ILLEGAL. -/
theorem issue_malformed {op : Nat} {f : SgeFormat} (work : BitVec 32 → State → SgeRes) (hcan : s.canIssue e = true)
    (hfetch : fetchInstr e s = some (w, t)) (hop : opOf w = op) (hform : formatOf op = some f)
    (hbad : ¬ leftOutZero f w ∨ (controlOp op ∧ (t.bank e).atEnd)) :
    issue e op work s = syncEngine e (takeTrap e 3 (s.bank e).pc (s.bank e).pc t) := by
  subst hop
  unfold issue
  rw [if_neg (by simp [hcan])]
  dsimp only
  rw [hfetch]
  dsimp only
  rw [hform]
  dsimp only
  rw [if_neg (fun hne => hne rfl), if_pos hbad, applyRes_illegal hfetch]

/-! ### SR and SGE_TRAP of a trap that is taken -/

/-- SR as a trap leaves it (R296). -/
def trapSr (sr : BitVec 12) (cause : Nat) : BitVec 12 := (srPut sr srTM true &&& 0x8FF) ||| BitVec.ofNat 12 (cause * 256)

theorem bit_srPut_same (sr : BitVec 12) : bit (srPut sr srTM true) srTM = true := by
  unfold srPut bit
  rw [if_pos rfl, BitVec.getLsbD_or]
  simp [srTM]

theorem trapSr_tm (sr : BitVec 12) (cause : Nat) : bit (trapSr sr cause) srTM = true := by
  have hmask : (0x8FF : BitVec 12).getLsbD srTM = true := by decide
  have hput := bit_srPut_same sr
  unfold bit at hput
  unfold trapSr bit
  rw [BitVec.getLsbD_or, BitVec.getLsbD_and, hput, hmask]
  rfl

theorem trapSr_cause (sr : BitVec 12) (cause : Fin 8) : bits (trapSr sr cause) 8 3 = cause.val := by
  unfold bits trapSr
  generalize srPut sr srTM true = x
  have hmod : cause.val * 256 % 2 ^ 12 = cause.val * 2 ^ 8 := by omega
  have hlow : ∀ n : Nat, (n >>> 8 &&& 8) % 2 ^ 3 = 0 := fun n => by
    rw [Nat.and_mod_two_pow]
    exact Nat.and_zero _
  simp only [BitVec.toNat_ushiftRight, BitVec.toNat_or, BitVec.toNat_and, BitVec.toNat_ofNat, hmod, Nat.shiftRight_or_distrib,
    Nat.shiftRight_and_distrib]
  rw [Nat.or_mod_two_pow, show (2303 : BitVec 12).toNat >>> 8 = 8 from rfl, hlow, Nat.zero_or, ← Nat.shiftLeft_eq, Nat.shiftLeft_shiftRight]
  exact Nat.mod_eq_of_lt cause.isLt

theorem trapSr_kept (sr : BitVec 12) (cause : Fin 8) {i : Nat} (hi : i < 7 ∨ i = 11) :
    bit (trapSr sr cause) i = bit sr i := by
  have hi' : i < 12 := by omega
  have hcause : ∀ (c : Fin 8) (j : Fin 12), (j.val < 7 ∨ j.val = 11) → (BitVec.ofNat 12 (c.val * 256)).getLsbD j = false := by
    decide
  have hmask : ∀ j : Fin 12, (j.val < 7 ∨ j.val = 11) → (0x8FF : BitVec 12).getLsbD j = true := by decide
  have hput : bit (srPut sr srTM true) i = bit sr i := bit_srPut_other sr true (by unfold srTM; omega)
  unfold bit at hput
  unfold trapSr bit
  rw [BitVec.getLsbD_or, BitVec.getLsbD_and, hput, hmask ⟨i, hi'⟩ hi, hcause cause ⟨i, hi'⟩ hi, Bool.and_true, Bool.or_false]

theorem recordTrap_cause (e cause pc : Nat) (s : State) (hc : cause < 8) : (recordTrap e cause pc s).fld SGE_TRAP_CAUSE e = cause := by
  unfold recordTrap
  rw [fld_setFld_beside _ SGE_TRAP_PC SGE_TRAP_CAUSE, fld_setFld_beside _ SGE_TRAP_BANK SGE_TRAP_CAUSE, fld_setFld_fits _ _ _ _ _ hc]

theorem recordTrap_pc (e cause : Nat) {pc : Nat} (s : State) (hpc : pc < 8192) : (recordTrap e cause pc s).fld SGE_TRAP_PC e = pc := by
  unfold recordTrap
  exact fld_setFld_fits _ SGE_TRAP_PC _ _ _ hpc

theorem recordTrap_halted (e cause pc : Nat) (s : State) :
    (recordTrap e cause pc s).fld SGE_TRAP_HALTED e = s.fld SGE_TRAP_HALTED e := by
  unfold recordTrap
  rw [fld_setFld_beside _ SGE_TRAP_PC SGE_TRAP_HALTED, fld_setFld_beside _ SGE_TRAP_BANK SGE_TRAP_HALTED,
    fld_setFld_beside _ SGE_TRAP_CAUSE SGE_TRAP_HALTED]

/-- The bank as a trap leaves it (R296). -/
def SgeBank.trapped (b : SgeBank) (cause ret : Nat) : SgeBank :=
  { b with sr := trapSr b.sr cause, tpc := BitVec.ofNat 13 ret, pc := cause, loaded := [], acWritten := [] }

theorem takeTrap_enters {cause pc ret : Nat} (htm : bit (s.bank e).sr srTM = false) :
    takeTrap e cause pc ret s = countCycles e 3
      (((recordTrap e cause pc s).setBank e ((s.bank e).trapped cause ret)).addFld SGE_COUNT_ERR_TRAPS 1 e) := by
  unfold takeTrap
  dsimp only
  rw [htm, if_neg (by decide)]
  rfl

theorem takeTrap_bank {cause pc ret : Nat} (htm : bit (s.bank e).sr srTM = false) :
    (takeTrap e cause pc ret s).bank e = (s.bank e).trapped cause ret := by
  rw [takeTrap_enters htm, countCycles_bank]
  exact bank_setBank _ _ _

/-- A trap that is taken leaves the fields of SGE_TRAP as it has recorded them. -/
theorem takeTrap_fld {cause pc ret : Nat} (htm : bit (s.bank e).sr srTM = false) (f : Field)
    (h : f.key e 0 0 ≠ SGE_CYCLES_BUSY.key e 0 0) (h' : f.key e 0 0 ≠ SGE_COUNT_ERR_TRAPS.key e 0 0) :
    (takeTrap e cause pc ret s).fld f e = (recordTrap e cause pc s).fld f e := by
  rw [takeTrap_enters htm]
  exact (fld_setFld_elsewhere _ SGE_CYCLES_BUSY f _ h).trans (fld_setFld_elsewhere _ SGE_COUNT_ERR_TRAPS f _ h')

theorem trapRegister_apart (e : Nat) : SGE_TRAP_CAUSE.key e 0 0 ≠ SGE_CYCLES_BUSY.key e 0 0 ∧
    SGE_TRAP_CAUSE.key e 0 0 ≠ SGE_COUNT_ERR_TRAPS.key e 0 0 := by
  simp [Field.key, SGE_TRAP_CAUSE, SGE_CYCLES_BUSY, SGE_COUNT_ERR_TRAPS]

/-! ### A trap under TM -/

/-- An answered action: its status and value are sent, and only counters change. -/
theorem answerJob_spec (e : Nat) (a : Action) (st : Status) (v : Nat) (s : State) :
    answerJob e a st v s = { s with regs := (answerJob e a st v s).regs, out := .result a.src (128 + e) a.tag st v :: s.out } ∧
      regsKeep [SGE_COUNT_JOBS_ACTIONS.key e 0 0, SGE_COUNT_ERR_ACTION_ERR.key e 0 0,
        NOC_EPe_STATUS_OUTSTANDING.key (sgeEndpoint (e / 8)) 0 0] s (answerJob e a st v s) := by
  have hkeep : regsKeep [SGE_COUNT_JOBS_ACTIONS.key e 0 0, SGE_COUNT_ERR_ACTION_ERR.key e 0 0,
        NOC_EPe_STATUS_OUTSTANDING.key (sgeEndpoint (e / 8)) 0 0] s
      ((answeredAt (sgeEndpoint (e / 8)) (s.emit (.result a.src (128 + e) a.tag st v))).addFld SGE_COUNT_JOBS_ACTIONS 1 e) :=
    regsKeep_after_setFld _ _ _ 0 0 (regsKeep_after_setFld _ _ _ 0 0 (fun _ _ => rfl) (.tail _ (.tail _ (.head _)))) (.head _)
  unfold answerJob
  dsimp only
  split
  · exact ⟨rfl, hkeep⟩
  · exact ⟨rfl, regsKeep_after_setFld _ _ _ 0 0 hkeep (.tail _ (.head _))⟩

theorem trap_not_counted (e : Nat) (q : Nat) : SGE_TRAP_HALTED.key e 0 0 ∉ [SGE_COUNT_JOBS_ACTIONS.key e 0 0,
    SGE_COUNT_ERR_ACTION_ERR.key e 0 0, NOC_EPe_STATUS_OUTSTANDING.key (sgeEndpoint q) 0 0] := by
  have hq : sgeEndpoint q ≤ 277 := by
    unfold sgeEndpoint
    split <;> omega
  simp [Field.key, SGE_TRAP_HALTED, SGE_COUNT_JOBS_ACTIONS, SGE_COUNT_ERR_ACTION_ERR, NOC_EPe_STATUS_OUTSTANDING]
  omega

/-- A halted engine starts no action. -/
theorem startNext_halted {e : Nat} {s : State} (hh : s.engHalted e = true) : startNext e s = s := by
  unfold startNext
  dsimp only
  split
  · rw [if_pos (.inr (.inl hh))]
  · rfl

theorem answerJob_sge (e : Nat) (a : Action) (st : Status) (v : Nat) (s : State) : (answerJob e a st v s).sge = s.sge := by
  unfold answerJob
  dsimp only
  split <;> rfl

theorem answerJob_eng (e : Nat) (a : Action) (st : Status) (v : Nat) (s : State) (j : Nat) :
    (answerJob e a st v s).eng j = s.eng j := eng_congr (answerJob_sge e a st v s) j

theorem answerJob_mem (e : Nat) (a : Action) (st : Status) (v : Nat) (s : State) : (answerJob e a st v s).mem = s.mem := by
  unfold answerJob
  dsimp only
  split <;> rfl

theorem answerJob_out (e : Nat) (a : Action) (st : Status) (v : Nat) (s : State) :
    (answerJob e a st v s).out = .result a.src (128 + e) a.tag st v :: s.out := by
  unfold answerJob
  dsimp only
  split <;> rfl

theorem answerJob_halted (e : Nat) (a : Action) (st : Status) (v : Nat) (s : State) :
    (answerJob e a st v s).engHalted e = s.engHalted e := by
  obtain ⟨-, hkeep⟩ := answerJob_spec e a st v s
  unfold State.engHalted State.on
  rw [fld_congr SGE_TRAP_HALTED e 0 0 (hkeep _ (trap_not_counted e _))]

theorem modEng_engHalted (s : State) (e : Nat) (f : Sge → Sge) (j : Nat) : (s.modEng e f).engHalted j = s.engHalted j := rfl

/-- The job that runs in an engine that has halted ends, and no other starts. -/
theorem endAction_halted {e : Nat} {s : State} {a : Action} {r : List Action} (hq : (s.eng e).queue = a :: r)
    (hh : s.engHalted e = true) (st : Status) (v : Nat) : endAction e st v s =
      answerJob e a st v (s.modEng e (fun x => { x with queue := r, jobRunning := false })) := by
  unfold endAction
  rw [hq]
  exact startNext_halted (by rw [answerJob_halted, modEng_engHalted, hh])

/-- The one action that waits is answered FENCED. -/
theorem fenceQueued_one {e : Nat} {s : State} {b : Action} (hq : (s.eng e).queue = [b]) (hjob : (s.eng e).jobRunning = false) :
    fenceQueued e s = answerJob e b .fenced 0 (s.modEng e (fun x => { x with queue := x.queue.take 0 })) := by
  unfold fenceQueued
  dsimp only
  rw [hjob, hq]
  rfl

/-- The engine as it stands when it halts, before its actions are answered. -/
def haltMark (e cause pc : Nat) (s : State) : State :=
  ((recordTrap e cause pc s).setFld SGE_TRAP_HALTED 1 e).modEng e
    (fun x => { x with frameRunning := false, pulses := if x.frameRunning then x.pulses.tail else x.pulses })

theorem haltMark_eng (e cause pc : Nat) (s : State) : ((haltMark e cause pc s).eng e).queue = (s.eng e).queue ∧
    ((haltMark e cause pc s).eng e).frameRunning = false := by
  unfold haltMark
  rw [eng_modEng_same]
  exact ⟨rfl, rfl⟩

theorem haltMark_halted (e cause pc : Nat) (s : State) : (haltMark e cause pc s).engHalted e = true := by
  unfold haltMark State.engHalted State.on
  rw [modEng_fld, fld_setFld_fits _ SGE_TRAP_HALTED e 0 0 (by decide)]
  rfl

/-- The action that runs is answered ERR_DATA, the one that waits FENCED. -/
def bothAnswered (e : Nat) (a b : Action) (s : State) : State :=
  answerJob e b .fenced 0 ((answerJob e a .errData 0 (s.modEng e (fun x => { x with queue := [b], jobRunning := false }))).modEng e
    (fun x => { x with queue := x.queue.take 0 }))

theorem bothAnswered_eng (e : Nat) (a b : Action) (s : State) : ((bothAnswered e a b s).eng e).queue = [] ∧
    ((bothAnswered e a b s).eng e).busy = (s.eng e).frameRunning := by
  unfold bothAnswered
  rw [answerJob_eng, eng_modEng_same, answerJob_eng, eng_modEng_same]
  exact ⟨rfl, rfl⟩

theorem bothAnswered_halted (e : Nat) (a b : Action) (s : State) : (bothAnswered e a b s).engHalted e = s.engHalted e := by
  unfold bothAnswered
  rw [answerJob_halted]
  exact answerJob_halted e a .errData 0 _

theorem bothAnswered_out (e : Nat) (a b : Action) (s : State) : (bothAnswered e a b s).out =
      .result b.src (128 + e) b.tag .fenced 0 :: .result a.src (128 + e) a.tag .errData 0 :: s.out ∧
    (bothAnswered e a b s).mem = s.mem := by
  unfold bothAnswered
  rw [answerJob_out, answerJob_mem, modEng_out, modEng_mem, answerJob_out, answerJob_mem, modEng_out, modEng_mem]
  exact ⟨rfl, rfl⟩

theorem fenceQueued_endAction {e : Nat} {s : State} {a b : Action} (hq : (s.eng e).queue = [a, b]) (hh : s.engHalted e = true) :
    fenceQueued e (endAction e .errData 0 s) = bothAnswered e a b s := by
  rw [endAction_halted hq hh, fenceQueued_one]
  · rfl
  · rw [answerJob_eng, eng_modEng_same]
  · rw [answerJob_eng, eng_modEng_same]

/-- A trap under TM halts the engine. -/
theorem takeTrap_halts {cause pc ret : Nat} {a b : Action} (htm : bit (s.bank e).sr srTM = true)
    (hjob : (s.eng e).jobRunning = true) (hq : (s.eng e).queue = [a, b]) :
    takeTrap e cause pc ret s = raise (0x300 + e) (cause + pc * 65536) (bothAnswered e a b (haltMark e cause pc s)) := by
  obtain ⟨hqueue, -⟩ := haltMark_eng e cause pc s
  have hjob' : ((recordTrap e cause pc s).eng e).jobRunning = true := hjob
  unfold takeTrap
  dsimp only
  rw [if_pos htm]
  unfold haltEngine
  dsimp only
  rw [if_pos hjob', ← fenceQueued_endAction (hqueue.trans hq) (haltMark_halted _ _ _ _)]
  rfl

/-- Settles O28. -/
theorem sgeTraps : Obligations.SgeTraps := by
  refine ⟨fun e s hcan hfetch => ?_, fun e w s t hcan hfetch hop => ?_, fun e w s t hcan hfetch hop hz => ?_,
    fun e w s t hcan hfetch hop hend => ?_, fun e cause pc ret s htm hpc => ?_, fun e cause pc ret a b s htm hfr hjob hq => ?_⟩
  · exact (exec_nop e s).trans (congrArg _ (issue_unreadable _ _ hcan hfetch))
  · exact (exec_nop e s).trans (congrArg _ (issue_unknown _ _ hcan hfetch hop))
  · exact (exec_nop e s).trans (congrArg _ (issue_malformed (f := .a) _ hcan hfetch hop rfl (.inl (by simpa [leftOutZero] using hz))))
  · exact (exec_br e s).trans (congrArg _ (issue_malformed (f := .b) _ hcan hfetch hop rfl (.inr ⟨by decide, hend⟩)))
  · obtain ⟨hne, hne'⟩ := trapRegister_apart e
    rw [takeTrap_bank htm]
    refine ⟨rfl, rfl, trapSr_tm _ _, trapSr_cause _ cause, fun i hi => trapSr_kept _ cause hi, rfl, rfl, rfl, rfl,
      (takeTrap_fld htm SGE_TRAP_CAUSE hne hne').trans (recordTrap_cause _ _ _ _ cause.isLt),
      (takeTrap_fld htm SGE_TRAP_PC hne hne').trans (recordTrap_pc _ _ _ hpc),
      (takeTrap_fld htm SGE_TRAP_HALTED hne hne').trans (recordTrap_halted _ _ _ _), ?_, ?_⟩
    · rw [takeTrap_enters htm]; rfl
    · rw [takeTrap_enters htm]; rfl
  · obtain ⟨hqueue, hbusy⟩ := bothAnswered_eng e a b (haltMark e cause pc s)
    obtain ⟨hout, hmem⟩ := bothAnswered_out e a b (haltMark e cause pc s)
    obtain ⟨-, hframe⟩ := haltMark_eng e cause pc s
    have hhalt := (bothAnswered_halted e a b _).trans (haltMark_halted e cause pc s)
    refine ⟨_, takeTrap_halts htm hjob hq, hhalt, hqueue, hbusy.trans hframe, ?_, hout, hmem⟩
    unfold State.engState
    rw [if_pos hhalt]

end Sys2Proof.Machine
end

section
-- One proof at a time: the memory limit of the check counts a stack for every proof that waits for another.
set_option Elab.async false
/-! SUPPORT. The memory instructions of the signal engines (R260 to R263, R269 to R271, R275). -/

namespace Sys2Proof.Machine

variable {e : Fin 32} {w : BitVec 32} {s t m : State}

/-! ### Accesses of one or more words -/

/-- From `s` to `t` engine `e` has accessed its memory: registers and engines stay. -/
def Accessed (e : Nat) (s t : State) : Prop := InEngine e s t ∧ t.regs = s.regs ∧ t.sge = s.sge

theorem Accessed.bank {e : Nat} (h : Accessed e s t) : t.bank e = s.bank e := by
  obtain ⟨-, -, hsge⟩ := h
  exact bank_congr (eng_congr hsge e)

theorem Accessed.trans {e : Nat} (h : Accessed e s t) (h' : Accessed e t m) : Accessed e s m := by
  obtain ⟨hin, hregs, hsge⟩ := h
  obtain ⟨hin', hregs', hsge'⟩ := h'
  exact ⟨hin.trans hin', hregs'.trans hregs, hsge'.trans hsge⟩

theorem readMended_accessed (e : Nat) {key : Nat} {v : Word} (h : readMended key s = some (v, t)) : Accessed e s t :=
  readMended_inEngine h

theorem loadWord_accessed {e : Nat} {busY : Bool} {a : Nat} {v : BitVec 24} (h : loadWord e busY a s = some (v, t)) : Accessed e s t := by
  unfold loadWord at h
  split at h
  · exact absurd h nofun
  · rename_i hr
    obtain ⟨-, rfl⟩ := Prod.mk.inj (Option.some.inj h)
    exact readMended_accessed e hr

theorem loadWords_spec (e : Nat) (busY : Bool) : ∀ (l : List Nat) (s : State),
    Accessed e s (loadWords e busY l s).2.2 ∧ (loadWords e busY l s).1.length = l.length
  | [], s => ⟨⟨InEngine.refl e s, rfl, rfl⟩, rfl⟩
  | a :: r, s => by
    rw [loadWords]
    split
    · obtain ⟨hacc, hlen⟩ := loadWords_spec e busY r s
      exact ⟨hacc, congrArg (· + 1) hlen⟩
    · rename_i t hl
      obtain ⟨hacc, hlen⟩ := loadWords_spec e busY r t
      exact ⟨(loadWord_accessed hl).trans hacc, congrArg (· + 1) hlen⟩

theorem storeWord_spec {e : Nat} {busY : Bool} {a : Nat} {v : BitVec 32} (h : storeWord e busY a v s = some t) :
    Accessed e s t ∧ ∀ k, k ≠ dataKey e busY a → t.pword k = s.pword k := by
  unfold storeWord State.mergeP at h
  split at h
  · exact absurd h nofun
  · dsimp only at h
    rw [if_neg (by decide)] at h
    obtain rfl := Option.some.inj h
    exact ⟨⟨(InEngine.refl e s).writeP _ _, rfl, rfl⟩, fun k hk => Memory.get_set_other _ hk _⟩

/-! ### Four-lane instructions -/

theorem qPost_kept (b : SgeBank) (w : BitVec 32) : (qPost b w).pc = b.pc ∧ (qPost b w).sr = b.sr ∧ (qPost b w).ac = b.ac ∧
    (qPost b w).d = b.d := ⟨rfl, rfl, rfl, rfl⟩

/-- The sign that NEG gives a product. -/
def laneSign (w : BitVec 32) : Int := if qNeg w then -1 else 1

theorem laneSign_mul (w : BitVec 32) (v : Int) : (if qNeg w then -v else v) = laneSign w * v := by
  unfold laneSign
  split <;> omega

/-- The lane products of the words that both buses have read. -/
def laneProduct (b : SgeBank) (w : BitVec 32) (p : BitVec 24 × BitVec 24) : Int :=
  laneSign w * product (bit b.sr srFRAC) p.1.toInt p.2.toInt

theorem laneProducts_read {e : Nat} {t m' m : State} {b : SgeBank} {xs ys : List (BitVec 24)} (hb : t.bank e = b)
    (hx : loadWords e false (qX b w) t = (xs, none, m')) (hy : loadWords e true (qY b w) m' = (ys, none, m)) :
    laneProducts e w t = ((xs.zip ys).map (laneProduct b w), none, m) ∧ Accessed e t m ∧ xs.length = 4 ∧ ys.length = 4 := by
  obtain ⟨haccX, hlenX⟩ := loadWords_spec e false (qX b w) t
  obtain ⟨haccY, hlenY⟩ := loadWords_spec e true (qY b w) m'
  rw [hx] at haccX hlenX
  rw [hy] at haccY hlenY
  refine ⟨?_, haccX.trans haccY, hlenX, hlenY⟩
  unfold laneProducts
  dsimp only
  rw [hb, hx]
  dsimp only
  rw [hy]
  simp only [laneSign_mul]
  rfl

theorem mac4s_clause {xs ys : List (BitVec 24)} {m' : State} (h : s.issues e 0x14 w t) (hxm : qXmode w ≠ 7) (hym : qYmode w ≠ 7)
    (hovt : bit (s.bank e).sr srOVT = false) (hx : loadWords e false (qX (s.bank e) w) t = (xs, none, m'))
    (hy : loadWords e true (qY (s.bank e) w) m' = (ys, none, m)) :
    ∃ u, exec (.mac4s e) s = .next u ∧ engineRan e s u m ∧ u.bank e = (qPost ((s.bank e).flag56 (qAc w)
      (((s.bank e).getAc (qAc w)).toInt + (if qNeg w then -1 else 1) *
        ((xs.zip ys).map (fun p => product (bit (s.bank e).sr srFRAC) p.1.toInt p.2.toInt)).sum)).1 w).onward [] [16 + qAc w] := by
  have ⟨_, hfetch, _⟩ := h
  have hbank := fetchInstr_bank hfetch
  obtain ⟨hps, hacc, -⟩ := laneProducts_read hbank hx hy
  have hsum : ((xs.zip ys).map (laneProduct (s.bank e) w)).sum = (if qNeg w then -1 else 1) *
      ((xs.zip ys).map (fun p => product (bit (s.bank e).sr srFRAC) p.1.toInt p.2.toInt)).sum := by
    unfold laneProduct
    rw [List.sum_map_mul_left]
    rfl
  obtain ⟨hin, -, -⟩ := hacc
  rw [← hsum]
  refine exec_goes_onward (exec_mac4s e s) h _ hin (uses := [16 + qAc w]) (cycles := qCycles (s.bank e) w)
    (ovf := ((s.bank e).flag56 (qAc w) (((s.bank e).getAc (qAc w)).toInt +
      ((xs.zip ys).map (laneProduct (s.bank e) w)).sum)).2) (rounds := false) ?_ rfl (ovt_kept _ _ _ _ hovt)
  unfold mac4sRes
  rw [if_neg (by simp [hxm, hym])]
  dsimp only
  rw [hps, hbank]

/-- What MAC4V leaves in an accumulator, before it wraps. -/
def laneSum (b : SgeBank) (w : BitVec 32) (xs ys : List (BitVec 24)) (l : Nat) : Int :=
  (b.getAc (qAc w + l)).toInt + laneSign w * product (bit b.sr srFRAC) (xs.getD l 0).toInt (ys.getD l 0).toInt

/-- The accumulators that MAC4V writes. -/
def laneAcs (b : SgeBank) (w : BitVec 32) (xs ys : List (BitVec 24)) : SgeBank :=
  (List.range 4).foldl (fun c l => c.putAc (qAc w + l) (to56 (laneSum b w xs ys l))) b

/-- Some lane's sum leaves 56 bits. -/
def laneOverflow (b : SgeBank) (w : BitVec 32) (xs ys : List (BitVec 24)) : Bool :=
  (List.range 4).any (fun l => !fitsSigned 56 (laneSum b w xs ys l))

/-- The bank after MAC4V with the free flags N and Z of `x`. -/
def laneBank (b : SgeBank) (w : BitVec 32) (xs ys : List (BitVec 24)) (x : Word) : SgeBank :=
  { laneAcs b w xs ys with sr := srNZV b.sr (bit x 0) (bit x 1) (laneOverflow b w xs ys) }

theorem laneAcs_ac (b : SgeBank) (w : BitVec 32) (xs ys : List (BitVec 24)) : laneAcs b w xs ys = { b with
    ac := ((((b.ac.set (qAc w) (to56 (laneSum b w xs ys 0))).set (qAc w + 1) (to56 (laneSum b w xs ys 1))).set (qAc w + 2)
      (to56 (laneSum b w xs ys 2))).set (qAc w + 3) (to56 (laneSum b w xs ys 3))) } := rfl

theorem laneAcs_getAc {b : SgeBank} {w : BitVec 32} (xs ys : List (BitVec 24)) (hlen : b.ac.length = 8) (hq : qAc w + 4 ≤ 8) :
    (∀ l, l < 4 → (laneAcs b w xs ys).getAc (qAc w + l) = to56 (laneSum b w xs ys l)) ∧
    (∀ i, (i < qAc w ∨ qAc w + 4 ≤ i) → (laneAcs b w xs ys).getAc i = b.getAc i) := by
  rw [laneAcs_ac]
  unfold SgeBank.getAc
  simp only [List.getD_eq_getElem?_getD, List.getElem?_set, List.length_set, hlen]
  refine ⟨fun l hl => ?_, fun i hi => ?_⟩
  · have hl' : l = 0 ∨ l = 1 ∨ l = 2 ∨ l = 3 := by omega
    have hlt : qAc w < 8 ∧ qAc w + 1 < 8 ∧ qAc w + 2 < 8 ∧ qAc w + 3 < 8 := by omega
    obtain ⟨h0, h1, h2, h3⟩ := hlt
    rcases hl' with rfl | rfl | rfl | rfl <;> simp [h0, h1, h2, h3]
  · rw [if_neg (by omega), if_neg (by omega), if_neg (by omega), if_neg (by omega)]

theorem srNZV_v (sr : BitVec 12) (n z v : Bool) : bit (srNZV sr n z v) srV = v := by
  have hput : ∀ r : BitVec 12, bit (srPut r srV v) srV = v := by
    intro r
    unfold srPut bit
    cases v <;> simp [srV]
  unfold srNZV
  dsimp only
  split
  · rw [bit_srPut_other _ true (by decide), hput]
  · exact hput _

theorem laneOverflow_iff (b : SgeBank) (w : BitVec 32) (xs ys : List (BitVec 24)) :
    laneOverflow b w xs ys = true ↔ ∃ l, l < 4 ∧ fitsSigned 56 (laneSum b w xs ys l) = false := by
  unfold laneOverflow
  simp

/-- The registers MAC4V uses and writes. -/
def laneNumbers (w : BitVec 32) : List Nat := (List.range 4).map (fun l => 16 + qAc w + l)

theorem mac4vRes_eq {xs ys : List (BitVec 24)} {b : SgeBank} {m' : State} (hb : t.bank e = b) (hxm : qXmode w ≠ 7)
    (hym : qYmode w ≠ 7) (hq : qAc w = 0 ∨ qAc w = 4) (hx : loadWords e false (qX b w) t = (xs, none, m'))
    (hy : loadWords e true (qY b w) m' = (ys, none, m)) :
    mac4vRes e w t = .fin (m.draw.2.setBank e (qPost (laneBank b w xs ys m.draw.1) w)) (laneNumbers w) [] (laneNumbers w)
      (qCycles b w) (laneOverflow b w xs ys) false none := by
  obtain ⟨hps, -, hlx, hly⟩ := laneProducts_read hb hx hy
  have hlane : ∀ l ∈ List.range 4, result56 ((b.getAc (qAc w + l)).toInt + ((xs.zip ys).map (laneProduct b w)).getD l 0) =
      result56 (laneSum b w xs ys l) := by
    intro l hl
    match xs, ys, hlx, hly, l, List.mem_range.mp hl with
    | [_, _, _, _], [_, _, _, _], _, _, 0, _ => rfl
    | [_, _, _, _], [_, _, _, _], _, _, 1, _ => rfl
    | [_, _, _, _], [_, _, _, _], _, _, 2, _ => rfl
    | [_, _, _, _], [_, _, _, _], _, _, 3, _ => rfl
  unfold mac4vRes
  rw [if_neg (by simp only [hxm, hym, false_or]; omega)]
  dsimp only
  rw [hps, hb]
  dsimp only
  rw [List.map_congr_left hlane]
  rfl

/-- What MAC4V leaves of the bank, beside its PC and its loops. -/
theorem laneBank_onward (b : SgeBank) (w : BitVec 32) (xs ys : List (BitVec 24)) (x : Word) (acs : List Nat) :
    let r := (qPost (laneBank b w xs ys x) w).onward [] acs
    (∀ i, r.getAc i = (laneAcs b w xs ys).getAc i) ∧ r.d = b.d ∧ r.pt = (qPost b w).pt ∧
      r.sr = srNZV b.sr (bit x 0) (bit x 1) (laneOverflow b w xs ys) := by
  unfold laneBank
  rw [laneAcs_ac]
  exact ⟨fun _ => rfl, rfl, rfl, rfl⟩

theorem mac4v_clause {xs ys : List (BitVec 24)} {m' : State} (h : s.issues e 0x15 w t) (hxm : qXmode w ≠ 7) (hym : qYmode w ≠ 7)
    (hq : qAc w = 0 ∨ qAc w = 4) (hovt : bit (s.bank e).sr srOVT = false)
    (hx : loadWords e false (qX (s.bank e) w) t = (xs, none, m')) (hy : loadWords e true (qY (s.bank e) w) m' = (ys, none, m)) :
    ∃ u, exec (.mac4v e) s = .next u ∧ engineRan e s u m ∧
      u.bank e = (qPost (laneBank (s.bank e) w xs ys m.draw.1) w).onward [] (laneNumbers w) := by
  have ⟨_, hfetch, _⟩ := h
  obtain ⟨-, ⟨hin, -, -⟩, -⟩ := laneProducts_read (fetchInstr_bank hfetch) hx hy
  obtain ⟨u, hu, hran, hb⟩ := exec_goes_onward (exec_mac4v e s) h _ hin.draw
    (mac4vRes_eq (fetchInstr_bank hfetch) hxm hym hq hx hy) rfl (ovt_kept _ _ _ _ hovt)
  exact ⟨u, hu, hran, hb⟩

/-! ### Loads and stores -/

theorem post_kept (b : SgeBank) (n mode : Nat) : (b.post n mode).pc = b.pc ∧ (b.post n mode).sr = b.sr := ⟨rfl, rfl⟩

theorem load_pc (b : SgeBank) (r : Nat) (v : BitVec 24) : (b.load r v).pc = b.pc := by
  unfold SgeBank.load
  split <;> rfl

/-- The issue of an instruction that meets a bad data word. -/
theorem exec_data {c : Instr} {op a : Nat} {busY : Bool} {work : BitVec 32 → State → SgeRes}
    (hc : exec c s = .next (issue e op work s)) (h : s.issues e op w t) (hw : work w t = .data t a busY) :
    exec c s = .next (syncEngine e (takeDataTrap e (s.bank e).pc a busY t)) := by
  have ⟨_, hfetch, _⟩ := h
  rw [hc, issue_of_issues work h, hw, ← fetchInstr_bank hfetch]
  rfl

theorem ld_clause (h : s.issues e 0x18 w t) (hm : mMode w ≠ 7) :
    match loadWord e (mBus w) (mAddr (s.bank e) w) t with
    | none => exec (.ld e) s = .next (syncEngine e (takeDataTrap e (s.bank e).pc (mAddr (s.bank e) w) (mBus w) t))
    | some (v, m) => ∃ u, exec (.ld e) s = .next u ∧ engineRan e s u m ∧
        u.bank e = (((s.bank e).load (rdOf w) v).post (mPt w) (mMode w)).onward (loadedOf (rdOf w)) [] := by
  have ⟨_, hfetch, _⟩ := h
  have hbank := fetchInstr_bank hfetch
  split
  · rename_i hl
    refine exec_data (exec_ld e s) h ?_
    unfold ldRes
    rw [if_neg hm]
    dsimp only
    rw [hbank, hl]
  · rename_i v m hl
    obtain ⟨hin, -, -⟩ := loadWord_accessed hl
    refine exec_goes_onward (exec_ld e s) h _ hin (uses := []) (cycles := 1) (ovf := false) (rounds := false) ?_ (load_pc _ _ _) rfl
    unfold ldRes
    rw [if_neg hm]
    dsimp only
    rw [hbank, hl]

theorem st_clause (h : s.issues e 0x19 w t) (hm : mMode w ≠ 7) (hac : isAc (rdOf w) = false) :
    match storeWord e (mBus w) (mAddr (s.bank e) w) (storedWord ((s.bank e).storeValue (rdOf w))) t with
    | none => exec (.st e) s = .next (syncEngine e (takeDataTrap e (s.bank e).pc (mAddr (s.bank e) w) (mBus w) t))
    | some m => ∃ u, exec (.st e) s = .next u ∧ engineRan e s u m ∧
        (∀ k, k ≠ dataKey e (mBus w) (mAddr (s.bank e) w) → u.pword k = t.pword k) ∧
        u.bank e = ((s.bank e).post (mPt w) (mMode w)).onward [] [] := by
  have ⟨_, hfetch, _⟩ := h
  have hbank := fetchInstr_bank hfetch
  have hlegal : ¬ (mMode w = 7 ∨ isAc (rdOf w) = true) := by simp [hm, hac]
  split
  · rename_i hst
    refine exec_data (exec_st e s) h ?_
    unfold stRes
    rw [if_neg hlegal]
    dsimp only
    rw [hbank, hst]
  · rename_i m hst
    obtain ⟨⟨hin, -, -⟩, hkeep⟩ := storeWord_spec hst
    obtain ⟨u, hu, hran, hb⟩ := exec_goes_onward (exec_st e s) h ((s.bank e).post (mPt w) (mMode w)) hin (uses := [rdOf w])
      (loaded := []) (acs := []) (cycles := 1) (ovf := false) (rounds := false) (by
        unfold stRes
        rw [if_neg hlegal]
        dsimp only
        rw [hbank, hst]
        rfl) rfl rfl
    obtain ⟨hrest, -, -⟩ := id hran
    refine ⟨u, hu, hran, fun k hk => ?_, hb⟩
    have hmem : u.pword k = m.pword k := by
      unfold State.pword
      rw [hrest]
    exact hmem.trans (hkeep k hk)

/-- What LD2 and ST2 ask of their operands. -/
theorem pairOk_spec {b : SgeBank} (h : pairOk b w = true) : rdOf w + 1 < 16 ∧ mAddr b w % 2 = 0 := by
  unfold pairOk at h
  simp only [Bool.and_eq_true, decide_eq_true_eq, isD_iff] at h
  omega

theorem load_d (b : SgeBank) {r : Nat} (v : BitVec 24) (h : r < 16) : b.load r v = b.putD r v := by
  unfold SgeBank.load
  rw [regClass_d h]

theorem halfOf_even (v : Word) {a : Nat} (h : a % 2 = 0) : (halfOf v a).setWidth 24 = v.setWidth 24 := by
  unfold halfOf
  rw [if_pos h]
  exact BitVec.setWidth_setWidth_of_le _ (by decide)

theorem halfOf_odd (v : Word) {a : Nat} (h : a % 2 = 0) : (halfOf v (a + 1)).setWidth 24 = (v >>> 32).setWidth 24 := by
  unfold halfOf
  rw [if_neg (by omega)]
  exact BitVec.setWidth_setWidth_of_le _ (by decide)

theorem ld2_clause {v : Word} (h : s.issues e 0x1A w t) (hp : pairOk (s.bank e) w = true)
    (hr : readMended (dataKey e (mBus w) (mAddr (s.bank e) w)) t = some (v, m)) :
    ∃ u, exec (.ld2 e) s = .next u ∧ engineRan e s u m ∧ u.bank e = ((((s.bank e).putD (rdOf w) (v.setWidth 24)).putD (rdOf w + 1)
      ((v >>> 32).setWidth 24)).post (mPt w) (mMode w)).onward [rdOf w, rdOf w + 1] [] := by
  have ⟨_, hfetch, _⟩ := h
  obtain ⟨hd, heven⟩ := pairOk_spec hp
  obtain ⟨hin, -, -⟩ := readMended_accessed e hr
  refine exec_goes_onward (exec_ld2 e s) h _ hin (uses := []) (cycles := 1) (ovf := false) (rounds := false) ?_ rfl rfl
  unfold ld2Res
  dsimp only
  rw [fetchInstr_bank hfetch, if_neg (by simp [hp]), hr]
  dsimp only
  rw [halfOf_even v heven, halfOf_odd v heven, load_d _ _ (Nat.lt_of_succ_lt hd), load_d _ _ hd]

theorem st2_clause (h : s.issues e 0x1B w t) (hp : pairOk (s.bank e) w = true) :
    ∃ u, exec (.st2 e) s = .next u ∧ engineRan e s u (t.writeP (dataKey e (mBus w) (mAddr (s.bank e) w))
        ((storedWord ((s.bank e).getD (rdOf w))).setWidth 64 ||| ((storedWord ((s.bank e).getD (rdOf w + 1))).setWidth 64) <<< 32)) ∧
      u.bank e = ((s.bank e).post (mPt w) (mMode w)).onward [] [] := by
  have ⟨_, hfetch, _⟩ := h
  refine exec_goes_onward (exec_st2 e s) h ((s.bank e).post (mPt w) (mMode w)) ((InEngine.refl e.val t).writeP _ _)
    (uses := [rdOf w, rdOf w + 1]) (cycles := 1) (ovf := false) (rounds := false) ?_ rfl rfl
  unfold st2Res
  dsimp only
  rw [fetchInstr_bank hfetch, if_neg (by simp [hp])]
  rfl

theorem str_clause {x : Int} (h : s.issues e 0x1C w t) (hm : mMode w ≠ 7) (hac : isAc (rdOf w) = true)
    (hovt : bit (s.bank e).sr srOVT = false) (hx : x = roundConvergent ((s.bank e).getAc (rdOf w - 16)).toInt)
    (hst : storeWord e (mBus w) (mAddr (s.bank e) w) (storedWord (result24 (bit (s.bank e).sr srSAT) x).1) t = some m) :
    ∃ u, exec (.str e) s = .next u ∧ engineRan e s u m ∧
      u.bank e = (((s.bank e).only24 x).1.post (mPt w) (mMode w)).onward [] [] := by
  have ⟨_, hfetch, _⟩ := h
  obtain ⟨⟨hin, -, -⟩, -⟩ := storeWord_spec hst
  refine exec_goes_onward (exec_str e s) h _ hin (uses := [rdOf w]) (cycles := 1) (ovf := ((s.bank e).only24 x).2)
    (rounds := true) ?_ rfl (ovt_kept _ _ _ _ hovt)
  subst hx
  unfold strRes
  rw [if_neg (by simp [hm, hac])]
  dsimp only
  rw [fetchInstr_bank hfetch, hst]

theorem modp_clause (h : s.issues e 0x1D w t) (hm : mMode w ≠ 7) (hrd : rdOf w = 0) :
    ∃ u, exec (.modp e) s = .next u ∧ engineRan e s u t ∧ u.bank e = ((s.bank e).post (mPt w) (mMode w)).onward [] [] := by
  have ⟨_, hfetch, _⟩ := h
  refine exec_goes_onward (exec_modp e s) h ((s.bank e).post (mPt w) (mMode w)) (InEngine.refl e.val t) (uses := [])
    (cycles := 1) (ovf := false) (rounds := false) ?_ rfl rfl
  unfold modpRes
  rw [if_neg (by simp [hm, hrd]), fetchInstr_bank hfetch]
  rfl

/-- Settles O26. -/
theorem sgeMemoryInstructions : Obligations.SgeMemoryInstructions := by
  refine ⟨fun e w xs ys s t m' m => mac4s_clause, fun e w xs ys s t m' m h hxm hym hq hovt hlen hx hy => ?_,
    fun e w s t => ld_clause, fun e w s t => st_clause, fun e w v s t m => ld2_clause, fun e w s t => st2_clause,
    fun e w x s t m => str_clause, fun e w s t => modp_clause⟩
  obtain ⟨u, hu, hran, hb⟩ := mac4v_clause h hxm hym hq hovt hx hy
  obtain ⟨hnew, hold⟩ := laneAcs_getAc xs ys hlen (w := w) (by omega)
  obtain ⟨hac, hd, hpt, hsr⟩ := laneBank_onward (s.bank e) w xs ys m.draw.1 (laneNumbers w)
  refine ⟨u, hu, hran, ?_⟩
  rw [hb, hd, hpt, hsr, srNZV_v, laneOverflow_iff]
  exact ⟨fun l hl => (hac _).trans (hnew l hl), fun i _ hi => (hac i).trans (hold i hi), rfl, rfl,
    fun i hi _ => bit_srNZV_above _ _ _ _ hi, Iff.rfl⟩

end Sys2Proof.Machine
end

section
-- One proof at a time: the memory limit of the check counts a stack for every proof that waits for another.
set_option Elab.async false
/-! SUPPORT. Control flow of the signal engines and the end of a job (R279, R282, R283, R288, R290, R292). -/

namespace Sys2Proof.Machine

variable {e : Fin 32} {w : BitVec 32} {s t : State}

/-! ### Jumps and loops -/

theorem fetchInstr_dma {e : Nat} (h : fetchInstr e s = some (w, t)) : (t.eng e).dma = (s.eng e).dma := by
  obtain ⟨-, -, c, hc⟩ := fetchInstr_spec h
  rw [hc]

theorem plusOne_of_not_atEnd {b : SgeBank} (h : b.atEnd = false) : loopNext b.loops b.pc = (b.loops, (b.pc + 1) % 8192) := by
  unfold SgeBank.atEnd at h
  cases hl : b.loops with
  | nil => rfl
  | cons l r =>
    rw [hl] at h
    have hne : l.stop ≠ b.pc := of_decide_eq_false (Bool.or_eq_false_iff.mp h).1
    rw [loopNext, if_neg hne]

section

variable {c : Instr} {op cycles : Nat} {work : BitVec 32 → State → SgeRes} {uses : List Nat}
  (hc : exec c s = .next (issue e op work s)) (h : s.issues e op w t)

include hc h

/-- An instruction that only goes on. -/
theorem exec_stays (hw : work w t = .fin t uses [] [] cycles false false none) :
    ∃ u, exec c s = .next u ∧ engineRan e s u t ∧ u.bank e = (s.bank e).onward [] [] := by
  have ⟨_, hfetch, _⟩ := h
  obtain ⟨hran, hbank, -⟩ := issue_completes h hw (InEngine.refl e.val t) rfl
  rw [fetchInstr_bank hfetch, afterBank_onward rfl] at hbank
  exact ⟨_, hc, hran, hbank⟩

/-- An instruction that jumps and leaves the bank `b`. -/
theorem exec_sets_and_jumps (b : SgeBank) {target : Nat}
    (hw : work w t = .fin (t.setBank e b) uses [] [] cycles false false (some target)) :
    ∃ u, exec c s = .next u ∧ engineRan e s u t ∧ u.bank e = b.jump target := by
  obtain ⟨u, hu, hran, hb⟩ := exec_jumps hc h ((InEngine.refl e.val t).setBank b) hw (bank_setBank _ _ _)
  exact ⟨u, hu, hran, hb⟩

/-- An instruction that waits issues again. -/
theorem exec_waits (hw : work w t = .wait) : ∃ u, exec c s = .next u ∧ engineRan e s u t ∧ u.bank e = s.bank e := by
  have ⟨_, hfetch, _⟩ := h
  obtain ⟨hin, -, -⟩ := fetchInstr_spec hfetch
  refine ⟨_, hc, ?_, ?_⟩
  · rw [issue_of_issues work h, hw]
    exact ((hin.countCycles 1).syncEngine).engineRan (syncEngine_mem _ _) (syncEngine_mends _ _)
  · rw [issue_of_issues work h, hw, syncEngine_bank]
    exact (countCycles_bank e 1 t).trans (fetchInstr_bank hfetch)

end

theorem br_clause (h : s.issues e 0x20 w t) :
    match condHolds (s.bank e).sr (iw w 22 4) with
    | none => exec (.br e) s = .next (syncEngine e (takeTrap e 3 (s.bank e).pc (s.bank e).pc t))
    | some true => ∃ u, exec (.br e) s = .next u ∧ engineRan e s u t ∧ u.bank e = (s.bank e).jump (targetOf w)
    | some false => ∃ u, exec (.br e) s = .next u ∧ engineRan e s u t ∧ u.bank e = (s.bank e).onward [] [] := by
  have ⟨_, hfetch, _⟩ := h
  have hbank := fetchInstr_bank hfetch
  split
  · rename_i hcond
    refine exec_illegal (exec_br e s) h ?_
    unfold brRes
    rw [hbank, hcond]
  · rename_i hcond
    refine exec_jumps (exec_br e s) h (InEngine.refl e.val t) (uses := []) (cycles := 3) ?_ hbank
    unfold brRes
    rw [hbank, hcond]
  · rename_i hcond
    refine exec_stays (exec_br e s) h (uses := []) (cycles := 1) ?_
    unfold brRes
    rw [hbank, hcond]
    rfl

theorem call_clause (h : s.issues e 0x21 w t) (hz : iw w 22 4 = 0) :
    if (s.bank e).rets.length < 8 then ∃ u, exec (.call e) s = .next u ∧ engineRan e s u t ∧
      u.bank e = { s.bank e with rets := ((s.bank e).pc + 1) % 8192 :: (s.bank e).rets, pc := targetOf w, loaded := [], acWritten := [] }
    else exec (.call e) s = .next (syncEngine e (takeTrap e 4 (s.bank e).pc (s.bank e).pc t)) := by
  have ⟨_, hfetch, _⟩ := h
  have hbank := fetchInstr_bank hfetch
  split
  · rename_i hlen
    refine exec_sets_and_jumps (exec_call e s) h { s.bank e with rets := ((s.bank e).pc + 1) % 8192 :: (s.bank e).rets }
      (uses := []) (cycles := 3) (target := targetOf w) ?_
    unfold callRes
    dsimp only
    rw [hbank, if_neg (fun hn => hn hz), if_neg (by omega)]
  · rename_i hlen
    refine exec_traps (exec_call e s) h ?_
    unfold callRes
    dsimp only
    rw [hbank, if_neg (fun hn => hn hz), if_pos (by omega)]

theorem ret_clause (h : s.issues e 0x22 w t) :
    match (s.bank e).rets with
    | [] => exec (.ret e) s = .next (syncEngine e (takeTrap e 4 (s.bank e).pc (s.bank e).pc t))
    | a :: r => ∃ u, exec (.ret e) s = .next u ∧ engineRan e s u t ∧ u.bank e = ({ s.bank e with rets := r } : SgeBank).jump a := by
  have ⟨_, hfetch, _⟩ := h
  have hbank := fetchInstr_bank hfetch
  split
  · rename_i hr
    refine exec_traps (exec_ret e s) h ?_
    unfold retRes
    dsimp only
    rw [hbank, hr]
  · rename_i a r hr
    refine exec_sets_and_jumps (exec_ret e s) h { s.bank e with rets := r } (uses := []) (cycles := 3) (target := a) ?_
    unfold retRes
    dsimp only
    rw [hbank, hr]

/-- The state in which a loop has begun and its body is captured. -/
def loopBegun (e count stop : Nat) (s : State) : State :=
  let s' := s.setBank e { s.bank e with loops := ⟨(s.bank e).pc + 1, stop, count⟩ :: (s.bank e).loops }
  if stop - (s.bank e).pc ≤ 16 then s'.modEng e (fun x => { x with cache := some ⟨(s.bank e).pc + 1, stop, false, []⟩ }) else s'

theorem loopBegun_spec (e count stop : Nat) (s : State) : InEngine e s (loopBegun e count stop s) ∧
    (loopBegun e count stop s).mem = s.mem ∧ (loopBegun e count stop s).mends = s.mends ∧
    (loopBegun e count stop s).bank e = { s.bank e with loops := ⟨(s.bank e).pc + 1, stop, count⟩ :: (s.bank e).loops } := by
  unfold loopBegun
  dsimp only
  split
  · exact ⟨((InEngine.refl e s).setBank _).modEng _, rfl, rfl, (bank_modEng_cache _ e _).trans (bank_setBank _ _ _)⟩
  · exact ⟨(InEngine.refl e s).setBank _, rfl, rfl, bank_setBank _ _ _⟩

/-- LOOP and LOOPI: a loop that the engine's stack and its active loops allow. -/
theorem loop_clause {c : Instr} {op n : Nat} {work : BitVec 32 → State → SgeRes} {uses : List Nat}
    (hc : exec c s = .next (issue e op work s)) (h : s.issues e op w t) (hw : work w t = loopRes e n (targetOf w) uses t)
    (hlt : (s.bank e).pc < targetOf w) (hin : ∀ l ∈ (s.bank e).loops, targetOf w ≤ l.stop) :
    (n = 0 → ∃ u, exec c s = .next u ∧ engineRan e s u t ∧ u.bank e = (s.bank e).jump ((targetOf w + 1) % 8192)) ∧
    (n ≠ 0 → 4 ≤ (s.bank e).loops.length →
      exec c s = .next (syncEngine e (takeTrap e 4 (s.bank e).pc (s.bank e).pc t))) ∧
    (n ≠ 0 → (s.bank e).loops.length < 4 → ∃ u, exec c s = .next u ∧ engineRan e s u t ∧ u.bank e = { s.bank e with
      loops := ⟨(s.bank e).pc + 1, targetOf w, n⟩ :: (s.bank e).loops, pc := ((s.bank e).pc + 1) % 8192, loaded := [], acWritten := [] }) := by
  have ⟨_, hfetch, _⟩ := h
  have hbank := fetchInstr_bank hfetch
  have hlegal : ¬ (targetOf w ≤ (s.bank e).pc ∨ (s.bank e).loops.any (fun l => decide (l.stop < targetOf w)) = true) := by
    rintro (hn | hn)
    · omega
    · obtain ⟨l, hl, hd⟩ := List.any_eq_true.mp hn
      exact absurd (of_decide_eq_true hd) (Nat.not_lt.mpr (hin l hl))
  unfold loopRes at hw
  dsimp only at hw
  rw [hbank, if_neg hlegal] at hw
  refine ⟨fun hn => ?_, fun hn hfull => ?_, fun hn hroom => ?_⟩
  · rw [if_pos hn] at hw
    exact exec_jumps hc h (InEngine.refl e.val t) hw hbank
  · rw [if_neg hn, if_pos hfull] at hw
    exact exec_traps hc h hw
  · rw [if_neg hn, if_neg (by omega)] at hw
    obtain ⟨hbegun, hmem, hmends, hb⟩ := loopBegun_spec e n (targetOf w) t
    rw [hbank] at hb
    obtain ⟨hran, hbank', -⟩ := issue_completes (u := loopBegun e n (targetOf w) t) (cycles := 1) (uses := uses) (loaded := [])
      (acs := []) (ovf := false) (rounds := false) (target := none) h (hw.trans (by unfold loopBegun; rw [hbank]; rfl)) hbegun rfl
    refine ⟨_, hc, ?_, hbank'.trans ?_⟩
    · obtain ⟨hrest, hothers, hkeep⟩ := hran
      rw [hmem, hmends] at hrest
      exact ⟨hrest, hothers, hkeep⟩
    · rw [hb, afterBank_onward rfl]
      unfold SgeBank.onward
      dsimp only
      rw [loopNext, if_neg (by dsimp only; omega)]

/-! ### Special registers, WAITD and TRAP -/

theorem specRead_fetched {i : Nat} (hfetch : fetchInstr e s = some (w, t)) (hi : i < 5 ∨ 8 ≤ i) :
    specRead e i t = ((specRead e i s).1, t) := by
  unfold specRead dstatOf
  dsimp only
  rw [fetchInstr_bank hfetch, fetchInstr_dma hfetch]
  rcases hi with hi | hi
  · interval_cases i <;> rfl
  · have h0 : i ≠ 0 := by omega
    have h1 : i ≠ 1 := by omega
    have h2 : i ≠ 2 := by omega
    have h3 : i ≠ 3 := by omega
    have h4 : i ≠ 4 := by omega
    simp only [h0, h1, h2, h3, h4, Nat.not_lt.mpr hi, if_false]
    split_ifs <;> rfl

theorem pc_of_guarded {p : Prop} [Decidable p] {b x c : SgeBank} (h : (if p then some x else none) = some c)
    (hx : x.pc = b.pc) : c.pc = b.pc := by
  split at h
  · rw [← Option.some.inj h, hx]
  · exact absurd h nofun

theorem specWrite_pc {b c : SgeBank} {i : Nat} {v : Int} (h : b.specWrite i v = some c) : c.pc = b.pc := by
  unfold SgeBank.specWrite at h
  dsimp only at h
  split at h
  · exact pc_of_guarded h rfl
  split at h
  · exact pc_of_guarded h rfl
  split at h
  · exact pc_of_guarded h rfl
  split at h
  · exact absurd h nofun
  split at h
  · exact pc_of_guarded h rfl
  split at h
  · exact absurd h nofun
  split at h
  · exact pc_of_guarded h rfl
  split at h
  · exact pc_of_guarded h rfl
  · exact pc_of_guarded h rfl

theorem rti_clause (h : s.issues e 0x31 w t) :
    ∃ u, exec (.rti e) s = .next u ∧ engineRan e s u t ∧
      u.bank e = ({ s.bank e with sr := srPut (s.bank e).sr srTM false } : SgeBank).jump (s.bank e).tpc.toNat := by
  have ⟨_, hfetch, _⟩ := h
  refine exec_sets_and_jumps (exec_rti e s) h { s.bank e with sr := srPut (s.bank e).sr srTM false } (uses := []) (cycles := 3) ?_
  rw [fetchInstr_bank hfetch]

theorem endl_clause (h : s.issues e 0x25 w t) :
    ∃ u, exec (.endl e) s = .next u ∧ engineRan e s u t ∧
      u.bank e = ({ s.bank e with loops := (s.bank e).loops.tail } : SgeBank).onward [] [] := by
  have ⟨_, hfetch, _⟩ := h
  refine exec_goes_onward (exec_endl e s) h { s.bank e with loops := (s.bank e).loops.tail } (InEngine.refl e.val t) (uses := [])
    (cycles := 1) (ovf := false) (rounds := false) ?_ rfl rfl
  rw [fetchInstr_bank hfetch]
  rfl

theorem movs_read_clause (h : s.issues e 0x2C w t) (hdir : bit w 10 = false) (hi : rbOf w < 5 ∨ 8 ≤ rbOf w) :
    ∃ u, exec (.movs e) s = .next u ∧ engineRan e s u t ∧
      u.bank e = ((s.bank e).load (rdOf w) (to24 (specRead e (rbOf w) s).1)).onward [] (acDest (rdOf w)) := by
  have ⟨_, hfetch, _⟩ := h
  refine exec_goes_onward (exec_movs e s) h _ (InEngine.refl e.val t) (uses := []) (cycles := 1) (ovf := false)
    (rounds := false) ?_ (load_pc _ _ _) rfl
  unfold movsRes
  dsimp only
  rw [hdir, if_neg (by decide), specRead_fetched hfetch hi, fetchInstr_bank hfetch]

theorem movs_write_clause (h : s.issues e 0x2C w t) (hdir : bit w 10 = true) (hac : isAc (raOf w) = false) :
    match (s.bank e).specWrite (rbOf w) ((s.bank e).int24 (raOf w)) with
    | none => exec (.movs e) s = .next (syncEngine e (takeTrap e 3 (s.bank e).pc (s.bank e).pc t))
    | some b => ∃ u, exec (.movs e) s = .next u ∧ engineRan e s u t ∧ u.bank e = b.onward [] [] := by
  have ⟨_, hfetch, _⟩ := h
  split
  · rename_i hsw
    refine exec_illegal (exec_movs e s) h ?_
    unfold movsRes
    dsimp only
    rw [if_pos hdir, hac, if_neg (by decide), fetchInstr_bank hfetch, hsw]
  · rename_i b hsw
    refine exec_goes_onward (exec_movs e s) h b (InEngine.refl e.val t) (uses := [raOf w]) (cycles := 1) (ovf := false)
      (rounds := false) ?_ (specWrite_pc hsw) rfl
    unfold movsRes
    dsimp only
    rw [if_pos hdir, hac, if_neg (by decide), fetchInstr_bank hfetch, hsw]
    rfl

theorem waitd_clause (h : s.issues e 0x29 w t) :
    if (s.eng e).dma.isSome then ∃ u, exec (.waitd e) s = .next u ∧ engineRan e s u t ∧ u.bank e = s.bank e
    else if (s.bank e).dstatus ≠ 0 then exec (.waitd e) s = .next (syncEngine e (takeTrap e 5 (s.bank e).pc (s.bank e).pc t))
    else ∃ u, exec (.waitd e) s = .next u ∧ engineRan e s u t ∧ u.bank e = (s.bank e).onward [] [] := by
  have ⟨_, hfetch, _⟩ := h
  have hres : waitdRes e t = if (s.eng e).dma.isSome then .wait else if (s.bank e).dstatus ≠ 0 then .trap 5 else .plain t [] := by
    unfold waitdRes
    rw [fetchInstr_dma hfetch, fetchInstr_bank hfetch]
  split
  · rename_i hdma
    rw [if_pos hdma] at hres
    exact exec_waits (exec_waitd e s) h hres
  · rename_i hdma
    rw [if_neg hdma] at hres
    split
    · rename_i hst
      rw [if_pos hst] at hres
      exact exec_traps (exec_waitd e s) h hres
    · rename_i hst
      rw [if_neg hst] at hres
      exact exec_stays (exec_waitd e s) h (uses := []) (cycles := 1) hres

theorem trap_clause (h : s.issues e 0x32 w t) : exec (.trap e) s =
    .next (syncEngine e (takeTrap e 6 (s.bank e).pc (((s.bank e).pc + 1) % 8192) t)) := by
  have ⟨_, hfetch, _, _, hend⟩ := h
  have hnext := plusOne_of_not_atEnd (hend (by decide))
  rw [fetchInstr_bank hfetch] at hnext
  rw [exec_trap, execTrap, issue_of_issues _ h]
  unfold applyRes
  dsimp only
  rw [fetchInstr_bank hfetch, hnext]

/-! ### The end of a job -/

/-- The keys of what an answered action counts. -/
def answerKeys (e : Nat) : List Nat := [SGE_COUNT_JOBS_ACTIONS.key e 0 0, SGE_COUNT_ERR_ACTION_ERR.key e 0 0,
  NOC_EPe_STATUS_OUTSTANDING.key (sgeEndpoint (e / 8)) 0 0]

theorem jobs_not_outstanding (e q : Nat) : SGE_COUNT_JOBS_ACTIONS.key e 0 0 ≠ NOC_EPe_STATUS_OUTSTANDING.key (sgeEndpoint q) 0 0 := by
  have hq : sgeEndpoint q ≤ 277 := by
    unfold sgeEndpoint
    split <;> omega
  simp only [Field.key, SGE_COUNT_JOBS_ACTIONS, NOC_EPe_STATUS_OUTSTANDING]
  omega

theorem answerJob_jobs (e : Nat) (a : Action) (st : Status) (v : Nat) (s : State) :
    (answerJob e a st v s).fld SGE_COUNT_JOBS_ACTIONS e = (s.fld SGE_COUNT_JOBS_ACTIONS e + 1) % 2 ^ 32 := by
  have hcount : ((answeredAt (sgeEndpoint (e / 8)) (s.emit (.result a.src (128 + e) a.tag st v))).addFld
      SGE_COUNT_JOBS_ACTIONS 1 e).fld SGE_COUNT_JOBS_ACTIONS e = (s.fld SGE_COUNT_JOBS_ACTIONS e + 1) % 2 ^ 32 := by
    unfold State.addFld
    rw [fld_setFld_same _ SGE_COUNT_JOBS_ACTIONS _ e 0 0 (by unfold Field.good; decide), answeredAt,
      fld_setFld_elsewhere _ NOC_EPe_STATUS_OUTSTANDING SGE_COUNT_JOBS_ACTIONS _ (jobs_not_outstanding e _)]
    rfl
  unfold answerJob
  dsimp only
  split
  · exact hcount
  · rw [State.addFld, fld_setFld_elsewhere _ SGE_COUNT_ERR_ACTION_ERR SGE_COUNT_JOBS_ACTIONS _
      (by simp [Field.key, SGE_COUNT_ERR_ACTION_ERR, SGE_COUNT_JOBS_ACTIONS]), hcount]

/-- The one action of an engine ends. -/
theorem endAction_last {e : Nat} {s : State} {a : Action} (hq : (s.eng e).queue = [a]) (st : Status) (v : Nat) :
    endAction e st v s = answerJob e a st v (s.modEng e (fun x => { x with queue := [], jobRunning := false })) := by
  unfold endAction
  rw [hq]
  dsimp only
  unfold startNext
  dsimp only
  rw [answerJob_eng, eng_modEng_same]

/-- SGE_STATUS.QUEUED is the length of the queue. -/
theorem syncEngine_queued (e : Nat) (s : State) : (syncEngine e s).fld SGE_STATUS_QUEUED e = (s.eng e).queue.length % 2 ^ 4 := by
  unfold syncEngine
  dsimp only
  rw [fld_setFld_elsewhere _ SGE_FRAME_STATUS_RUNNING SGE_STATUS_QUEUED _
      (by simp [Field.key, SGE_FRAME_STATUS_RUNNING, SGE_STATUS_QUEUED]),
    fld_setFld_beside _ SGE_STATUS_SUSPENDED SGE_STATUS_QUEUED, fld_setFld_beside _ SGE_STATUS_DMA_BUSY SGE_STATUS_QUEUED,
    fld_setFld_same _ SGE_STATUS_QUEUED _ e 0 0 (by unfold Field.good; decide)]
  rfl

theorem endAction_ends {e : Nat} {s : State} {a : Action} (hq : (s.eng e).queue = [a]) (st : Status) (v : Nat) :
    let u := syncEngine e (endAction e st v s)
    (u.eng e).queue = [] ∧ (u.eng e).jobRunning = false ∧ u.out = .result a.src (128 + e) a.tag st v :: s.out ∧
      u.fld SGE_COUNT_JOBS_ACTIONS e = (s.fld SGE_COUNT_JOBS_ACTIONS e + 1) % 2 ^ 32 ∧ u.fld SGE_STATUS_QUEUED e = 0 ∧
      u.mem = s.mem ∧ (∀ j, j ≠ e → u.eng j = s.eng j) ∧ regsKeep (engineKeys e ++ answerKeys e) s u := by
  intro u
  have hu : u = syncEngine e (answerJob e a st v (s.modEng e (fun x => { x with queue := [], jobRunning := false }))) :=
    congrArg (syncEngine e) (endAction_last hq st v)
  rw [hu]
  refine ⟨?_, ?_, ?_, ?_, ?_, ?_, fun j hj => ?_, ?_⟩
  · rw [syncEngine_eng, answerJob_eng, eng_modEng_same]
  · rw [syncEngine_eng, answerJob_eng, eng_modEng_same]
  · rw [syncEngine_out, answerJob_out, modEng_out]
  · rw [syncEngine_fld _ _ _ _ _ (by simp [Field.key, SGE_COUNT_JOBS_ACTIONS, SGE_STATUS_STATE, SGE_FRAME_STATUS_RUNNING]),
      answerJob_jobs, modEng_fld]
  · rw [syncEngine_queued, answerJob_eng, eng_modEng_same]
    rfl
  · rw [syncEngine_mem, answerJob_mem, modEng_mem]
  · rw [syncEngine_eng, answerJob_eng, eng_modEng_other _ _ hj]
  · obtain ⟨-, hans⟩ := answerJob_spec e a st v (s.modEng e (fun x => { x with queue := [], jobRunning := false }))
    obtain ⟨-, hsync⟩ := syncEngine_onlyRegs e (answerJob e a st v (s.modEng e (fun x => { x with queue := [], jobRunning := false })))
    refine regsKeep_trans (regsKeep_mono (fun k hk => List.mem_append_right _ hk) hans) (regsKeep_mono (fun k hk => ?_) hsync)
    refine List.mem_append_left _ ?_
    rcases List.mem_cons.mp hk with rfl | hk
    · exact status_mem_engineKeys e
    · rcases List.mem_singleton.mp hk with rfl
      exact frameStatus_mem_engineKeys e

/-- END of an action job with an idle DMA. -/
theorem endRes_action (hfetch : fetchInstr e s = some (w, t)) (hdma : (s.eng e).dma = none) (hst : (s.bank e).dstatus = 0)
    (hfr : (s.eng e).frameRunning = false) : endRes e w t =
      .ended (endAction e (if bit w 0 then .errData else .ok) (if bit w 0 then 0 else (s.bank e).low24 (rdOf w))
        (countCycles e (1 + bnat ((s.bank e).loaded.contains (rdOf w))) t)) := by
  obtain ⟨-, -, c, hc⟩ := fetchInstr_spec hfetch
  have hfr' : (t.eng e).frameRunning = false := by rw [hc]; exact hfr
  have hcount : ((countCycles e (1 + bnat ((s.bank e).loaded.contains (rdOf w))) t).eng e).frameRunning = false := by
    rw [countCycles, eng_modEng_same]
    split <;> exact hfr'
  unfold endRes
  dsimp only
  rw [fetchInstr_dma hfetch, hdma, fetchInstr_bank hfetch, if_neg (by simp), if_neg (by simp [hst]), hcount, if_neg (by simp)]
  cases bit w 0 <;> rfl

theorem endRes_frame (hfetch : fetchInstr e s = some (w, t)) (hdma : (s.eng e).dma = none) (hst : (s.bank e).dstatus = 0)
    (hfr : (s.eng e).frameRunning = true) : endRes e w t =
      .ended (endFrame e (bit w 0) (countCycles e (1 + bnat ((s.bank e).loaded.contains (rdOf w))) t)) := by
  obtain ⟨-, -, c, hc⟩ := fetchInstr_spec hfetch
  have hfr' : (t.eng e).frameRunning = true := by rw [hc]; exact hfr
  have hcount : ((countCycles e (1 + bnat ((s.bank e).loaded.contains (rdOf w))) t).eng e).frameRunning = true := by
    rw [countCycles, eng_modEng_same]
    split <;> exact hfr'
  unfold endRes
  dsimp only
  rw [fetchInstr_dma hfetch, hdma, fetchInstr_bank hfetch, if_neg (by simp), if_neg (by simp [hst]), hcount, if_pos rfl]

/-- The cycles that an instruction counts leave the queue and the jobs as they are. -/
theorem countCycles_eng (e n : Nat) (s : State) : ((countCycles e n s).eng e).queue = (s.eng e).queue ∧
    ((countCycles e n s).eng e).jobRunning = (s.eng e).jobRunning ∧
    ((countCycles e n s).eng e).frameRunning = (s.eng e).frameRunning := by
  rw [countCycles, eng_modEng_same]
  split <;> exact ⟨rfl, rfl, rfl⟩

/-- What engine `e` has fetched and counted before END acts. -/
theorem fetched_counted {e : Nat} (hfetch : fetchInstr e s = some (w, t)) (n : Nat) :
    InEngine e s (countCycles e n t) ∧ (countCycles e n t).mem = t.mem ∧
      ((countCycles e n t).eng e).queue = (s.eng e).queue ∧ ((countCycles e n t).eng e).frameRunning = (s.eng e).frameRunning ∧
      ∀ f : Field, f.key e 0 0 ≠ SGE_CYCLES_BUSY.key e 0 0 → (countCycles e n t).fld f e = s.fld f e := by
  obtain ⟨hin, hregs, c, hc⟩ := fetchInstr_spec hfetch
  obtain ⟨hq, -, hf⟩ := countCycles_eng e n t
  refine ⟨hin.countCycles n, rfl, hq.trans (by rw [hc]), hf.trans (by rw [hc]), fun f hne => ?_⟩
  exact (fld_setFld_elsewhere t SGE_CYCLES_BUSY f _ hne).trans (fld_congr f e 0 0 (reg_congr hregs _))

theorem end_action_clause {a : Action} (h : s.issues e 0x30 w t) (hdma : (s.eng e).dma = none) (hst : (s.bank e).dstatus = 0)
    (hfr : (s.eng e).frameRunning = false) (hq : (s.eng e).queue = [a]) :
    ∃ u, exec (.endJob e) s = .next u ∧ (u.eng e).queue = [] ∧ (u.eng e).jobRunning = false ∧
      u.out = .result a.src (128 + e) a.tag (if bit w 0 then .errData else .ok)
        (if bit w 0 then 0 else (s.bank e).low24 (rdOf w)) :: s.out ∧
      u.fld SGE_COUNT_JOBS_ACTIONS e = (s.fld SGE_COUNT_JOBS_ACTIONS e + 1) % 2 ^ 32 ∧ u.fld SGE_STATUS_QUEUED e = 0 ∧
      u.mem = t.mem ∧ (∀ j, j ≠ e.val → u.eng j = s.eng j) ∧ regsKeep (engineKeys e ++ answerKeys e) s u := by
  have ⟨_, hfetch, _⟩ := h
  obtain ⟨hin, hmem, hqueue, -, hfld⟩ := fetched_counted hfetch (1 + bnat ((s.bank e).loaded.contains (rdOf w)))
  obtain ⟨hrest, hothers, hkeep⟩ := id hin
  obtain ⟨hq', hj', hout', hjobs', hqd', hmem', hothers', hkeep'⟩ := endAction_ends (hqueue.trans hq)
    (if bit w 0 then .errData else .ok) (if bit w 0 then 0 else (s.bank e).low24 (rdOf w))
  have hexec : exec (.endJob e) s = .next (syncEngine e (endAction e (if bit w 0 then .errData else .ok)
      (if bit w 0 then 0 else (s.bank e).low24 (rdOf w)) (countCycles e (1 + bnat ((s.bank e).loaded.contains (rdOf w))) t))) := by
    rw [exec_endJob, execEndJob, issue_of_issues _ h, endRes_action hfetch hdma hst hfr]
    rfl
  refine ⟨_, hexec, hq', hj', hout'.trans (congrArg _ hin.out), hjobs'.trans ?_, hqd', hmem'.trans hmem,
    fun j hj => (hothers' j hj).trans (hothers j hj),
    regsKeep_trans (regsKeep_mono (fun k hk => List.mem_append_left _ hk) hkeep) hkeep'⟩
  rw [hfld _ (by simp [Field.key, SGE_COUNT_JOBS_ACTIONS, SGE_CYCLES_BUSY])]

/-- END with ERR = 1 counts as a frame error. -/
def frameErrs (e : Nat) (err : Bool) (s : State) : State := if err then s.addFld SGE_COUNT_ERR_FRAME_ERR 1 e else s

/-- MAX_CYCLES takes the cycles of a frame job from its tick pulse on. -/
def frameLongest (e : Nat) (s : State) : State :=
  s.maxFld SGE_FRAME_STATUS_MAX_CYCLES (s.fld SGE_CYCLES_BUSY e - (s.eng e).pulses.headD 0) e

/-- What the end of a frame job counts. -/
def frameCounted (e : Nat) (err : Bool) (s : State) : State := frameLongest e (frameErrs e err (s.addFld SGE_COUNT_JOBS_FRAMES 1 e))

/-- The engine after its last frame job: the suspended action job, if any, resumes after 3 cycles. -/
def frameLeft (e : Nat) (s : State) : State :=
  let s := s.modEng e (fun x => { x with pulses := x.pulses.tail })
  let s := if (s.eng e).jobRunning then s.addFld SGE_CYCLES_BUSY 3 e else s
  s.modEng e (fun x => { x with frameRunning := false, cache := none })

def frameKeys (e : Nat) : List Nat := [SGE_COUNT_JOBS_FRAMES.key e 0 0, SGE_COUNT_ERR_FRAME_ERR.key e 0 0]

theorem frameKeys_apart (e : Nat) : SGE_COUNT_ERR_FRAME_ERR.key e 0 0 ≠ SGE_COUNT_JOBS_FRAMES.key e 0 0 := by
  simp [Field.key, SGE_COUNT_JOBS_FRAMES, SGE_COUNT_ERR_FRAME_ERR]

theorem frameStatus_apart (e : Nat) : SGE_COUNT_JOBS_FRAMES.key e 0 0 ≠ SGE_FRAME_STATUS_MAX_CYCLES.key e 0 0 ∧
    SGE_COUNT_ERR_FRAME_ERR.key e 0 0 ≠ SGE_FRAME_STATUS_MAX_CYCLES.key e 0 0 := by
  simp [Field.key, SGE_COUNT_JOBS_FRAMES, SGE_COUNT_ERR_FRAME_ERR, SGE_FRAME_STATUS_MAX_CYCLES]

theorem frameCounted_spec (e : Nat) (err : Bool) (s : State) :
    onlyRegs (engineKeys e ++ frameKeys e) s (frameCounted e err s) ∧
      (frameCounted e err s).fld SGE_COUNT_JOBS_FRAMES e = (s.fld SGE_COUNT_JOBS_FRAMES e + 1) % 2 ^ 32 ∧
      (frameCounted e err s).fld SGE_COUNT_ERR_FRAME_ERR e = (s.fld SGE_COUNT_ERR_FRAME_ERR e + bnat err) % 2 ^ 16 ∧
      (frameCounted e err s).fld SGE_FRAME_STATUS_BACKLOG e = s.fld SGE_FRAME_STATUS_BACKLOG e := by
  have herr : onlyRegs (frameKeys e) s (frameErrs e err (s.addFld SGE_COUNT_JOBS_FRAMES 1 e)) ∧
      (frameErrs e err (s.addFld SGE_COUNT_JOBS_FRAMES 1 e)).fld SGE_COUNT_JOBS_FRAMES e = (s.fld SGE_COUNT_JOBS_FRAMES e + 1) % 2 ^ 32 ∧
      (frameErrs e err (s.addFld SGE_COUNT_JOBS_FRAMES 1 e)).fld SGE_COUNT_ERR_FRAME_ERR e =
        (s.fld SGE_COUNT_ERR_FRAME_ERR e + bnat err) % 2 ^ 16 := by
    have hjobs : onlyRegs (frameKeys e) s (s.addFld SGE_COUNT_JOBS_FRAMES 1 e) :=
      onlyRegs_after_setFld _ _ _ 0 0 ⟨rfl, regsKeep_refl _ s⟩ (.head _)
    have hcount : (s.addFld SGE_COUNT_JOBS_FRAMES 1 e).fld SGE_COUNT_JOBS_FRAMES e = (s.fld SGE_COUNT_JOBS_FRAMES e + 1) % 2 ^ 32 :=
      fld_setFld_same _ SGE_COUNT_JOBS_FRAMES _ e 0 0 (by unfold Field.good; decide)
    have hother : (s.addFld SGE_COUNT_JOBS_FRAMES 1 e).fld SGE_COUNT_ERR_FRAME_ERR e = s.fld SGE_COUNT_ERR_FRAME_ERR e :=
      fld_setFld_elsewhere s SGE_COUNT_JOBS_FRAMES SGE_COUNT_ERR_FRAME_ERR _ (frameKeys_apart e)
    cases err with
    | false => exact ⟨hjobs, hcount, hother.trans (Nat.mod_eq_of_lt (fld_lt s SGE_COUNT_ERR_FRAME_ERR e 0 0)).symm⟩
    | true =>
      refine ⟨onlyRegs_after_setFld _ _ _ 0 0 hjobs (.tail _ (.head _)),
        (fld_setFld_elsewhere _ SGE_COUNT_ERR_FRAME_ERR SGE_COUNT_JOBS_FRAMES _ (frameKeys_apart e).symm).trans hcount, ?_⟩
      refine (fld_setFld_same _ SGE_COUNT_ERR_FRAME_ERR _ e 0 0 (by unfold Field.good; decide)).trans ?_
      rw [hother]
      rfl
  obtain ⟨hregs, hjobs, herrs⟩ := herr
  unfold frameCounted frameLongest State.maxFld
  refine ⟨onlyRegs_after_setFld SGE_FRAME_STATUS_MAX_CYCLES _ e 0 0 (onlyRegs_mono (fun k hk => List.mem_append_right _ hk) hregs)
      (List.mem_append_left _ (frameStatus_mem_engineKeys e)),
    (fld_setFld_elsewhere _ SGE_FRAME_STATUS_MAX_CYCLES SGE_COUNT_JOBS_FRAMES _ (frameStatus_apart e).1).trans hjobs,
    (fld_setFld_elsewhere _ SGE_FRAME_STATUS_MAX_CYCLES SGE_COUNT_ERR_FRAME_ERR _ (frameStatus_apart e).2).trans herrs, ?_⟩
  refine (fld_setFld_beside _ SGE_FRAME_STATUS_MAX_CYCLES SGE_FRAME_STATUS_BACKLOG _).trans ?_
  obtain ⟨-, hkeep⟩ := hregs
  exact fld_congr _ e 0 0 (hkeep _ (by
    simp [frameKeys, Field.key, SGE_COUNT_JOBS_FRAMES, SGE_COUNT_ERR_FRAME_ERR, SGE_FRAME_STATUS_BACKLOG]))

theorem frameLeft_spec (e : Nat) (s : State) : InEngine e s (frameLeft e s) ∧ (frameLeft e s).mem = s.mem ∧
    ((frameLeft e s).eng e).frameRunning = false ∧ ((frameLeft e s).eng e).queue = (s.eng e).queue ∧
    ∀ f : Field, f.key e 0 0 ≠ SGE_CYCLES_BUSY.key e 0 0 → (frameLeft e s).fld f e = s.fld f e := by
  unfold frameLeft
  dsimp only
  split
  · refine ⟨(((InEngine.refl e s).modEng _).setFld SGE_CYCLES_BUSY _ e (.tail _ (.tail _ (.head _)))).modEng _, rfl, ?_, ?_,
      fun f hf => fld_setFld_elsewhere _ SGE_CYCLES_BUSY f _ hf⟩
    · rw [eng_modEng_same]
    · rw [eng_modEng_same, eng_addFld, eng_modEng_same]
  · refine ⟨((InEngine.refl e s).modEng _).modEng _, rfl, ?_, ?_, fun f _ => rfl⟩
    · rw [eng_modEng_same]
    · rw [eng_modEng_same, eng_modEng_same]

/-- The last frame job of an engine ends, and no action waits. -/
theorem endFrame_last {e : Nat} {err : Bool} {s : State} (hb : s.fld SGE_FRAME_STATUS_BACKLOG e = 0) (hq : (s.eng e).queue = []) :
    endFrame e err s = frameLeft e (frameCounted e err s) := by
  obtain ⟨⟨hrest, -⟩, -, -, hback⟩ := frameCounted_spec e err s
  have heng : (frameCounted e err s).eng e = s.eng e := eng_congr (by rw [hrest]) e
  obtain ⟨-, -, -, hqueue, -⟩ := frameLeft_spec e (frameCounted e err s)
  have hend : endFrame e err s =
      if ((frameCounted e err s).modEng e (fun x => { x with pulses := x.pulses.tail })).on SGE_FRAME_STATUS_BACKLOG e ∧
        ((frameCounted e err s).modEng e (fun x => { x with pulses := x.pulses.tail })).on SGE_CTL_RUN e then
        startFrame e (((frameCounted e err s).modEng e (fun x => { x with pulses := x.pulses.tail })).setFld SGE_FRAME_STATUS_BACKLOG
          (((frameCounted e err s).modEng e (fun x => { x with pulses := x.pulses.tail })).fld SGE_FRAME_STATUS_BACKLOG e - 1) e)
      else startNext e (frameLeft e (frameCounted e err s)) := rfl
  rw [hend, if_neg]
  · unfold startNext
    dsimp only
    rw [hqueue, heng, hq]
  · rintro ⟨hon, -⟩
    unfold State.on at hon
    rw [modEng_fld, hback, hb] at hon
    exact absurd hon (by decide)

theorem end_frame_clause (h : s.issues e 0x30 w t) (hdma : (s.eng e).dma = none) (hst : (s.bank e).dstatus = 0)
    (hfr : (s.eng e).frameRunning = true) (hb : s.fld SGE_FRAME_STATUS_BACKLOG e = 0) (hq : (s.eng e).queue = []) :
    ∃ u, exec (.endJob e) s = .next u ∧ (u.eng e).frameRunning = false ∧ u.out = s.out ∧
      u.fld SGE_COUNT_JOBS_FRAMES e = (s.fld SGE_COUNT_JOBS_FRAMES e + 1) % 2 ^ 32 ∧
      u.fld SGE_COUNT_ERR_FRAME_ERR e = (s.fld SGE_COUNT_ERR_FRAME_ERR e + bnat (bit w 0)) % 2 ^ 16 ∧
      u.mem = t.mem ∧ (∀ j, j ≠ e.val → u.eng j = s.eng j) ∧ regsKeep (engineKeys e ++ frameKeys e) s u := by
  have ⟨_, hfetch, _⟩ := h
  obtain ⟨hin, hmem, hqueue, -, hfld⟩ := fetched_counted hfetch (1 + bnat ((s.bank e).loaded.contains (rdOf w)))
  have hbusy : ∀ f : Field, f.off < SGE_CYCLES_BUSY.off → f.s1 = 0x10000 → f.key e 0 0 ≠ SGE_CYCLES_BUSY.key e 0 0 := by
    intro f hoff hs
    simp only [Field.key, hs, SGE_CYCLES_BUSY] at hoff ⊢
    omega
  have hexec : exec (.endJob e) s =
      .next (syncEngine e (endFrame e (bit w 0) (countCycles e (1 + bnat ((s.bank e).loaded.contains (rdOf w))) t))) := by
    rw [exec_endJob, execEndJob, issue_of_issues _ h, endRes_frame hfetch hdma hst hfr]
    rfl
  generalize countCycles e (1 + bnat ((s.bank e).loaded.contains (rdOf w))) t = c at hin hmem hqueue hfld hexec
  rw [endFrame_last ((hfld SGE_FRAME_STATUS_BACKLOG (hbusy _ (by decide) rfl)).trans hb) (hqueue.trans hq)] at hexec
  obtain ⟨⟨hrest, hcounts⟩, hjobs, herrs, -⟩ := frameCounted_spec e (bit w 0) c
  obtain ⟨hleft, hmem', hframe, -, hfld'⟩ := frameLeft_spec e (frameCounted e (bit w 0) c)
  obtain ⟨-, hothers, hkeep⟩ := id hin
  obtain ⟨-, hothers', hkeep'⟩ := (id hleft).syncEngine
  have hsync : ∀ f : Field, f.s1 = 0x10000 → f.off ≠ SGE_STATUS_STATE.off → f.off ≠ SGE_FRAME_STATUS_RUNNING.off →
      f.key e 0 0 ∉ [SGE_STATUS_STATE.key e 0 0, SGE_FRAME_STATUS_RUNNING.key e 0 0] := by
    intro f hs h1 h2
    simp only [Field.key, hs, SGE_STATUS_STATE, SGE_FRAME_STATUS_RUNNING, List.mem_cons, List.not_mem_nil, or_false] at h1 h2 ⊢
    omega
  refine ⟨_, hexec, ?_, ?_, ?_, ?_, ?_, fun j hj => ?_, ?_⟩
  · rw [syncEngine_eng, hframe]
  · rw [syncEngine_out, hleft.out, hrest]
    exact hin.out
  · rw [syncEngine_fld _ _ _ _ _ (hsync _ rfl (by decide) (by decide)), hfld' _ (hbusy _ (by decide) rfl), hjobs,
      hfld _ (hbusy _ (by decide) rfl)]
  · rw [syncEngine_fld _ _ _ _ _ (hsync _ rfl (by decide) (by decide)), hfld' _ (hbusy _ (by decide) rfl), herrs,
      hfld _ (hbusy _ (by decide) rfl)]
  · rw [syncEngine_mem, hmem', hrest]
    exact hmem
  · exact (hothers' j hj).trans ((eng_congr (by rw [hrest]) j).trans (hothers j hj))
  · have hmono : ∀ k ∈ engineKeys e, k ∈ engineKeys e ++ frameKeys e := fun k hk => List.mem_append_left _ hk
    exact regsKeep_trans (regsKeep_trans (regsKeep_mono hmono hkeep) hcounts) (regsKeep_mono hmono hkeep')

/-- Settles O27. -/
theorem sgeControl : Obligations.SgeControl := by
  refine ⟨fun e w s t => br_clause, fun e w s t => call_clause, fun e w s t => ret_clause,
    fun e w c op n s t hc h hlt hin => ?_, fun e w s t => endl_clause, fun e w s t => rti_clause,
    fun e w s t => movs_read_clause, fun e w s t => movs_write_clause, fun e w s t => waitd_clause, fun e w s t => trap_clause,
    fun e w a s t => end_action_clause, fun e w s t => end_frame_clause⟩
  rcases hc with ⟨rfl, rfl, hrd, rfl⟩ | ⟨rfl, rfl, rfl⟩
  · have ⟨_, hfetch, _⟩ := h
    refine loop_clause (exec_loop e s) h (uses := [rdOf w]) ?_ hlt hin
    unfold loopRegRes
    rw [if_pos ((isD_iff _).mpr hrd), fetchInstr_bank hfetch]
  · exact loop_clause (exec_loopi e s) h rfl hlt hin

end Sys2Proof.Machine
end

section
-- One proof at a time: the memory limit of the check counts a stack for every proof that waits for another.
set_option Elab.async false
/-! SUPPORT. Jobs, the DMA, RUN and RESTART and the memory port of a signal engine (R286 to R298). -/

namespace Sys2Proof.Machine

variable {e : Fin 32} {s t : State}

/-! ### Registers of one engine -/

/-- Two registers of one engine. -/
theorem engine_key_ne {f g : Field} (e : Nat) (h : f.off ≠ g.off := by decide) (hf : f.s1 = 0x10000 := by rfl)
    (hg : g.s1 = 0x10000 := by rfl) : f.key e 0 0 ≠ g.key e 0 0 := by
  simp only [Field.key, hf, hg]
  omega

theorem syncEngine_fld_engine (s : State) (f : Field) (e : Nat) (h : f.off ≠ SGE_STATUS_STATE.off := by decide)
    (h' : f.off ≠ SGE_FRAME_STATUS_RUNNING.off := by decide) (hf : f.s1 = 0x10000 := by rfl) :
    (syncEngine e s).fld f e = s.fld f e := by
  refine syncEngine_fld s f e 0 0 ?_
  rw [List.mem_cons, List.mem_singleton]
  exact not_or.mpr ⟨engine_key_ne e h hf rfl, engine_key_ne e h' hf rfl⟩

theorem engState_congr {e : Nat} (heng : t.eng e = s.eng e) (hh : t.fld SGE_TRAP_HALTED e = s.fld SGE_TRAP_HALTED e)
    (hr : t.fld SGE_CTL_RUN e = s.fld SGE_CTL_RUN e) : t.engState e = s.engState e := by
  unfold State.engState State.engHalted State.on
  rw [heng, hh, hr]

/-- SGE_STATUS.STATE is the engine's state. -/
theorem syncEngine_state (e : Nat) (s : State) : (syncEngine e s).fld SGE_STATUS_STATE e = s.engState e % 2 ^ 2 := by
  unfold syncEngine
  dsimp only
  rw [fld_setFld_elsewhere _ SGE_FRAME_STATUS_RUNNING SGE_STATUS_STATE _ (engine_key_ne e),
    fld_setFld_beside _ SGE_STATUS_SUSPENDED SGE_STATUS_STATE, fld_setFld_beside _ SGE_STATUS_DMA_BUSY SGE_STATUS_STATE,
    fld_setFld_beside _ SGE_STATUS_QUEUED SGE_STATUS_STATE, fld_setFld_beside _ SGE_STATUS_BANK SGE_STATUS_STATE,
    fld_setFld_same _ SGE_STATUS_STATE _ e 0 0 (by unfold Field.good; decide)]
  rfl

/-- SGE_STATUS.DMA_BUSY says whether a transfer is in flight. -/
theorem syncEngine_dma (e : Nat) (s : State) : (syncEngine e s).fld SGE_STATUS_DMA_BUSY e = bnat (s.eng e).dma.isSome := by
  unfold syncEngine
  dsimp only
  rw [fld_setFld_elsewhere _ SGE_FRAME_STATUS_RUNNING SGE_STATUS_DMA_BUSY _ (engine_key_ne e),
    fld_setFld_beside _ SGE_STATUS_SUSPENDED SGE_STATUS_DMA_BUSY,
    fld_setFld_fits _ SGE_STATUS_DMA_BUSY e 0 0 (by cases (s.eng e).dma.isSome <;> decide)]

/-! ### Actions -/

theorem startNext_starts {e : Nat} {s : State} {a : Action} (hq : (s.eng e).queue = [a]) (hb : (s.eng e).busy = false)
    (hh : s.engHalted e = false) (hr : s.on SGE_CTL_RUN e = true) : startNext e s =
      (s.modEng e (fun x => { x with action := x.action.startJob a, jobRunning := true, used := 0 })).addFld SGE_CYCLES_BUSY 3 e := by
  unfold startNext
  dsimp only
  rw [hq]
  dsimp only
  rw [if_neg (by simp [hb, hh, hr])]

/-- The state in which an action that has arrived at a free engine runs: it is queued, and 3 start cycles pass. -/
def actionBegun (e : Nat) (a : Action) (s : State) : State :=
  ((s.modEng e (fun x => { x with queue := x.queue ++ [a] })).modEng e
    (fun x => { x with action := x.action.startJob a, jobRunning := true, used := 0 })).addFld SGE_CYCLES_BUSY 3 e

theorem actionBegun_spec {e : Nat} {s : State} (a : Action) (hq : (s.eng e).queue = []) (hh : s.engHalted e = false) :
    InEngine e s (actionBegun e a s) ∧ (actionBegun e a s).mem = s.mem ∧ (actionBegun e a s).engState e = 2 ∧
      (actionBegun e a s).eng e =
        { s.eng e with queue := [a], action := (s.eng e).action.startJob a, jobRunning := true, used := 0 } := by
  have heng : (actionBegun e a s).eng e =
      { s.eng e with queue := [a], action := (s.eng e).action.startJob a, jobRunning := true, used := 0 } := by
    unfold actionBegun
    rw [eng_addFld, eng_modEng_same, eng_modEng_same, hq]
    rfl
  have hhalt : (actionBegun e a s).engHalted e = false := by
    unfold actionBegun
    unfold State.engHalted State.on at hh ⊢
    rw [State.addFld, fld_setFld_elsewhere _ SGE_CYCLES_BUSY SGE_TRAP_HALTED _ (engine_key_ne e), modEng_fld, modEng_fld, hh]
  refine ⟨(((InEngine.refl e s).modEng _).modEng _).setFld SGE_CYCLES_BUSY _ e (.tail _ (.tail _ (.head _))), rfl, ?_, heng⟩
  unfold State.engState
  rw [hhalt, heng]
  rfl

/-- An action starts in an engine that is free for it. -/
theorem action_starts {a : Action} (hsrc : a.src ∈ ctxEndpoints) (hgate : s.gateOpen (32 + e) = true)
    (hh : s.engHalted e = false) (hr : s.on SGE_CTL_RUN e = true) (hq : (s.eng e).queue = []) (hb : (s.eng e).busy = false) :
    ∃ u, exec (.sgeAction e a) s = .next u ∧ (u.eng e).queue = [a] ∧ (u.eng e).jobRunning = true ∧ (u.eng e).used = 0 ∧
      (u.eng e).action = (s.eng e).action.startJob a ∧ u.out = s.out ∧ u.mem = s.mem ∧ u.fld SGE_STATUS_STATE e = 2 ∧
      u.fld SGE_STATUS_QUEUED e = 1 ∧ (∀ j, j ≠ e.val → u.eng j = s.eng j) ∧ regsKeep (engineKeys e) s u := by
  have hjoin : (s.modEng e (fun x => { x with queue := x.queue ++ [a] })).eng e = { s.eng e with queue := [a] } := by
    rw [eng_modEng_same, hq]
    rfl
  have hstart : startNext e (s.modEng e (fun x => { x with queue := x.queue ++ [a] })) = actionBegun e a s :=
    startNext_starts (by rw [hjoin]) (by rw [hjoin]; exact hb) hh hr
  have hexec : exec (.sgeAction e a) s = .next (syncEngine e (actionBegun e a s)) := by
    rw [exec_sgeAction, execSgeAction, if_neg (by simpa using hsrc), if_neg (by simp [hgate]), if_neg (by simp [hh, hr]),
      if_neg (by simp [hq]), hstart]
  obtain ⟨hin, hmem, hstate, heng⟩ := actionBegun_spec a hq hh
  obtain ⟨-, hothers, hkeep⟩ := (id hin).syncEngine
  refine ⟨_, hexec, ?_, ?_, ?_, ?_, ?_, ?_, ?_, ?_, hothers, hkeep⟩
  · rw [syncEngine_eng, heng]
  · rw [syncEngine_eng, heng]
  · rw [syncEngine_eng, heng]
  · rw [syncEngine_eng, heng]
  · rw [syncEngine_out, hin.out]
  · rw [syncEngine_mem, hmem]
  · rw [syncEngine_state, hstate]
    rfl
  · rw [syncEngine_queued, heng]
    rfl

theorem action_fenced {a : Action} (hsrc : a.src ∈ ctxEndpoints) (hgate : s.gateOpen (32 + e) = true)
    (hoff : s.engHalted e = true ∨ s.on SGE_CTL_RUN e = false) :
    exec (.sgeAction e a) s = .next (answerJob e a .fenced 0 s) := by
  rw [exec_sgeAction, execSgeAction, if_neg (by simpa using hsrc), if_neg (by simp [hgate]), if_pos (by simpa using hoff)]

/-! ### The limit of a job -/

/-- What the expiry of a job's cycles records before the job ends. -/
def limitMarked (e : Nat) (s : State) : State :=
  let s := s.setFld SGE_TRAP_CAUSE 7 e
  let s := s.setFld SGE_TRAP_BANK 0 e
  let s := s.setFld SGE_TRAP_PC (s.eng e).action.pc e
  s.addFld SGE_COUNT_ERR_LIMITS 1 e

theorem limitMarked_spec (e : Nat) (s : State) : (limitMarked e s).fld SGE_TRAP_CAUSE e = 7 ∧
    (limitMarked e s).fld SGE_COUNT_ERR_LIMITS e = (s.fld SGE_COUNT_ERR_LIMITS e + 1) % 2 ^ 16 := by
  unfold limitMarked
  dsimp only
  constructor
  · rw [State.addFld, fld_setFld_elsewhere _ SGE_COUNT_ERR_LIMITS SGE_TRAP_CAUSE _ (engine_key_ne e),
      fld_setFld_beside _ SGE_TRAP_PC SGE_TRAP_CAUSE, fld_setFld_beside _ SGE_TRAP_BANK SGE_TRAP_CAUSE,
      fld_setFld_fits _ SGE_TRAP_CAUSE e 0 0 (by decide)]
  · rw [State.addFld, fld_setFld_same _ SGE_COUNT_ERR_LIMITS _ e 0 0 (by unfold Field.good; decide),
      fld_setFld_elsewhere _ SGE_TRAP_PC SGE_COUNT_ERR_LIMITS _ (engine_key_ne e),
      fld_setFld_elsewhere _ SGE_TRAP_BANK SGE_COUNT_ERR_LIMITS _ (engine_key_ne e),
      fld_setFld_elsewhere _ SGE_TRAP_CAUSE SGE_COUNT_ERR_LIMITS _ (engine_key_ne e)]
    rfl

theorem sgeEndpoint_le (q : Nat) : sgeEndpoint q ≤ 277 := by
  unfold sgeEndpoint
  split <;> omega

/-- An answered action leaves every register of its engine but COUNT_JOBS and COUNT_ERR, and of COUNT_ERR the other fields. -/
theorem answerJob_limits (e : Nat) (a : Action) (st : Status) (v : Nat) (s : State) :
    (answerJob e a st v s).fld SGE_TRAP_CAUSE e = s.fld SGE_TRAP_CAUSE e ∧
      (answerJob e a st v s).fld SGE_COUNT_ERR_LIMITS e = s.fld SGE_COUNT_ERR_LIMITS e := by
  have hq := sgeEndpoint_le (e / 8)
  constructor
  · obtain ⟨-, hkeep⟩ := answerJob_spec e a st v s
    refine fld_congr _ e 0 0 (hkeep _ ?_)
    simp [Field.key, SGE_TRAP_CAUSE, SGE_COUNT_JOBS_ACTIONS, SGE_COUNT_ERR_ACTION_ERR, NOC_EPe_STATUS_OUTSTANDING]
    omega
  · have hbase : ((answeredAt (sgeEndpoint (e / 8)) (s.emit (.result a.src (128 + e) a.tag st v))).addFld
        SGE_COUNT_JOBS_ACTIONS 1 e).fld SGE_COUNT_ERR_LIMITS e = s.fld SGE_COUNT_ERR_LIMITS e := by
      rw [State.addFld, fld_setFld_elsewhere _ SGE_COUNT_JOBS_ACTIONS SGE_COUNT_ERR_LIMITS _ (engine_key_ne e), answeredAt,
        fld_setFld_elsewhere _ NOC_EPe_STATUS_OUTSTANDING SGE_COUNT_ERR_LIMITS _
          (by simp only [Field.key, SGE_COUNT_ERR_LIMITS, NOC_EPe_STATUS_OUTSTANDING]; omega)]
      rfl
    unfold answerJob
    dsimp only
    split
    · exact hbase
    · rw [State.addFld, fld_setFld_beside _ SGE_COUNT_ERR_ACTION_ERR SGE_COUNT_ERR_LIMITS, hbase]

theorem limit_expires {a : Action} (hj : (s.eng e).jobRunning = true) (hf : (s.eng e).frameRunning = false)
    (hl : s.fld SGE_CTL_JOB_LIMIT e ≠ 0) (hu : s.fld SGE_CTL_JOB_LIMIT e ≤ (s.eng e).used) (hd : (s.eng e).dma = none)
    (hq : (s.eng e).queue = [a]) :
    ∃ u, exec (.jobLimitExpire e) s = .next u ∧ u.out = .result a.src (128 + e) a.tag .errData 0 :: s.out ∧
      (u.eng e).queue = [] ∧ (u.eng e).jobRunning = false ∧ u.fld SGE_TRAP_CAUSE e = 7 ∧
      u.fld SGE_COUNT_ERR_LIMITS e = (s.fld SGE_COUNT_ERR_LIMITS e + 1) % 2 ^ 16 ∧ u.mem = s.mem := by
  have heng : (limitMarked e s).eng e = s.eng e := rfl
  have hexec : exec (.jobLimitExpire e) s = .next (syncEngine e (endAction e .errData 0 (limitMarked e s))) := by
    rw [exec_jobLimitExpire, execJobLimitExpire]
    rw [if_pos (by simp [hj, hf, hl, hu, hd])]
    rfl
  have hq' : ((limitMarked e s).eng e).queue = [a] := by rw [heng]; exact hq
  obtain ⟨hqe, hje, hout, -, -, hmem, -, -⟩ := endAction_ends hq' .errData 0
  obtain ⟨hcause, hlim⟩ := limitMarked_spec e s
  obtain ⟨hcause', hlim'⟩ := answerJob_limits e a .errData 0
    ((limitMarked e s).modEng e (fun x => { x with queue := [], jobRunning := false }))
  refine ⟨_, hexec, hout, hqe, hje, ?_, ?_, hmem⟩
  · rw [syncEngine_fld_engine _ SGE_TRAP_CAUSE, endAction_last hq', hcause', modEng_fld, hcause]
  · rw [syncEngine_fld_engine _ SGE_COUNT_ERR_LIMITS, endAction_last hq', hlim', modEng_fld, hlim]

/-! ### The DMA -/

theorem setDstat_bank {e : Nat} {frame : Bool} (f : SgeBank → SgeBank) (s : State) (h : (s.eng e).frameRunning = frame) :
    (setDstat e frame f s).bank e = f (s.bank e) := by
  unfold setDstat State.bank Sge.bank
  rw [eng_modEng_same]
  subst h
  cases hf : (s.eng e).frameRunning <;> simp

/-- A read from memory sends one request, which stays in a block of 256 bytes. -/
theorem dmaSend_in {e : Nat} {d : SgeDma} (hd : d.out = false) (s : State) : dmaSend e d s =
    ((s.emit (.dma e (sgeIdent e s) (compactAddr d.addr) (min d.left ((256 - d.addr % 256 + 3) / 4)) none)).addFld FLT_DMAe_ISSUED
      (4 * min d.left ((256 - d.addr % 256 + 3) / 4)) e).modEng e
        (fun x => { x with dma := some { d with chunk := min d.left ((256 - d.addr % 256 + 3) / 4), bad := false } }) := by
  unfold dmaSend
  dsimp only
  rw [hd, if_neg (by decide)]

/-- An instruction that completes leaves the transfer in flight. -/
theorem completeInstr_dma {e pc cycles : Nat} {s : State} {old : SgeBank} {uses : List Nat} :
    ((completeInstr e pc old uses [] [] cycles false false none s).eng e).dma = (s.eng e).dma := by
  have hbank : ∀ (s : State) (b : SgeBank), ((s.setBank e b).eng e).dma = (s.eng e).dma := by
    intro s b
    unfold State.setBank
    rw [eng_modEng_same]
    unfold Sge.modBank
    split <;> rfl
  have hpass : ∀ (s : State) (n : Nat), ((afterPass e pc n none s).eng e).dma = (s.eng e).dma := by
    intro s n
    unfold afterPass
    rw [if_pos rfl, eng_modEng_same]
  have hcount : ∀ (s : State) (n : Nat), ((countCycles e n s).eng e).dma = (s.eng e).dma := by
    intro s n
    rw [countCycles, eng_modEng_same]
    split <;> rfl
  rw [completeInstr_eq (by rfl), hcount, hpass, hbank]

/-- The transfer that DMA starts from its three operands. -/
def dmaOf (frame : Bool) (d a r : BitVec 24) : SgeDma :=
  { frame := frame, addr := d.toNat + bits a 0 14 * 2 ^ 24, left := bits a 14 10 + 1, loc := bits r 0 14, busY := bit r 14,
    out := false, window := none, chunk := 0, bad := false }

/-- Byte address bits [1:0] are zero, so that the address is RD's own. -/
theorem bits_quad {d : BitVec 24} (h : bits d 0 2 = 0) : bits d 2 22 * 4 = d.toNat := by
  have hlt := d.isLt
  unfold bits at h ⊢
  simp only [BitVec.toNat_ushiftRight, Nat.shiftRight_eq_div_pow] at h ⊢
  omega

/-- The state in which DMA has begun its transfer. -/
def dmaBegun (e : Nat) (x : SgeDma) (s : State) : State :=
  dmaSend e x (setDstat e x.frame (fun b => { b with dstatus := 0, dmoved := 0 }) s)

theorem dmaRes_begins {w : BitVec 32} {d a r : BitVec 24} (hdma : (s.eng e).dma = none) (hcd : isAc (rdOf w) = false)
    (hca : isAc (raOf w) = false) (hcr : isAc (rbOf w) = false) (hd : d = (s.bank e).storeValue (rdOf w))
    (ha : a = (s.bank e).storeValue (raOf w)) (hr : r = (s.bank e).storeValue (rbOf w)) (hlow : bits d 0 2 = 0)
    (hout : bit r 15 = false) (hwin : bit r 16 = false) : dmaRes e w s =
      .plain (dmaBegun e (dmaOf (s.eng e).frameRunning d a r) s) [rdOf w, raOf w, rbOf w] := by
  subst hd ha hr
  have hloc : ∀ v : BitVec 24, (bits v 0 14 + 0) % 16384 = bits v 0 14 := fun v => by
    rw [Nat.add_zero]
    exact Nat.mod_eq_of_lt (bits_lt v 0 14)
  unfold dmaRes
  dsimp only
  rw [hcd, hca, hcr, if_neg (by decide), hdma, if_neg (by simp)]
  unfold SgeBank.raw
  rw [if_pos hlow, hwin, hout, if_neg (by decide), bits_quad hlow]
  unfold dmaBegun dmaOf SgeDma.at
  dsimp only
  rw [hloc, Nat.add_zero]

/-- The words that one request of a transfer asks for (R287). -/
def requestWords (x : SgeDma) : Nat := min x.left ((256 - x.addr % 256 + 3) / 4)

theorem requestWords_spec (frame : Bool) {d : BitVec 24} (a r : BitVec 24) (h : bits d 0 2 = 0) :
    0 < requestWords (dmaOf frame d a r) ∧ requestWords (dmaOf frame d a r) ≤ (dmaOf frame d a r).left ∧
      (dmaOf frame d a r).addr % 256 + 4 * requestWords (dmaOf frame d a r) ≤ 256 := by
  have hquad := bits_quad h
  unfold requestWords dmaOf
  dsimp only
  omega

theorem dmaBegun_spec {e : Nat} {x : SgeDma} (hx : x.out = false) (s : State) (hf : (s.eng e).frameRunning = x.frame) :
    ((dmaBegun e x s).eng e).dma = some { x with chunk := requestWords x, bad := false } ∧
      (dmaBegun e x s).bank e = { s.bank e with dstatus := 0, dmoved := 0 } ∧
      (dmaBegun e x s).out = .dma e (sgeIdent e s) (compactAddr x.addr) (requestWords x) none :: s.out ∧
      (dmaBegun e x s).mem = s.mem ∧
      (dmaBegun e x s).fld FLT_DMAe_ISSUED e = (s.fld FLT_DMAe_ISSUED e + 4 * requestWords x) % 2 ^ 32 := by
  have hbegun : dmaBegun e x s = (((setDstat e x.frame (fun b => { b with dstatus := 0, dmoved := 0 }) s).emit
      (.dma e (sgeIdent e s) (compactAddr x.addr) (requestWords x) none)).addFld FLT_DMAe_ISSUED (4 * requestWords x) e).modEng e
        (fun y => { y with dma := some { x with chunk := requestWords x, bad := false } }) := dmaSend_in hx _
  have hbank := setDstat_bank (fun b => { b with dstatus := 0, dmoved := 0 }) s hf
  rw [hbegun]
  refine ⟨by rw [eng_modEng_same], ?_, rfl, rfl, ?_⟩
  · rw [← hbank]
    unfold State.bank
    rw [eng_modEng_same, eng_addFld, eng_emit]
    rfl
  · rw [modEng_fld, State.addFld, fld_setFld_same _ FLT_DMAe_ISSUED _ e 0 0 (by unfold Field.good; decide)]
    rfl

theorem applyRes_plain (e : Nat) (t u : State) (uses : List Nat) : applyRes e (.plain u uses) t =
    completeInstr e (t.bank e).pc (t.bank e) uses [] [] 1 false false none u := rfl

theorem dma_begins {w : BitVec 32} {d a r : BitVec 24} (h : s.issues e 0x28 w t) (hdma : (s.eng e).dma = none)
    (hcd : isAc (rdOf w) = false) (hca : isAc (raOf w) = false) (hcr : isAc (rbOf w) = false)
    (hd : d = (s.bank e).storeValue (rdOf w)) (ha : a = (s.bank e).storeValue (raOf w)) (hr : r = (s.bank e).storeValue (rbOf w))
    (hlow : bits d 0 2 = 0) (hout : bit r 15 = false) (hwin : bit r 16 = false) :
    ∃ u x n, exec (.dma e) s = .next u ∧ (u.eng e).dma = some x ∧ x.addr = d.toNat + bits a 0 14 * 2 ^ 24 ∧
      x.left = bits a 14 10 + 1 ∧ x.loc = bits r 0 14 ∧ x.busY = bit r 14 ∧ x.out = false ∧ x.window = none ∧ x.chunk = n ∧
      0 < n ∧ n ≤ x.left ∧ x.addr % 256 + 4 * n ≤ 256 ∧ u.out = .dma e (sgeIdent e s) (compactAddr x.addr) n none :: s.out ∧
      (u.bank e).dstatus = 0 ∧ (u.bank e).dmoved = 0 ∧ (u.bank e).d = (s.bank e).d ∧ u.fld SGE_STATUS_DMA_BUSY e = 1 ∧
      u.fld FLT_DMAe_ISSUED e = (s.fld FLT_DMAe_ISSUED e + 4 * n) % 2 ^ FLT_DMAe_ISSUED.w ∧ u.mem = t.mem := by
  have ⟨_, hfetch, _⟩ := h
  have hbank := fetchInstr_bank hfetch
  obtain ⟨hin, hregs, c, hc⟩ := fetchInstr_spec hfetch
  have hres := dmaRes_begins (e := e) (s := t) (w := w) (d := d) (a := a) (r := r)
    ((fetchInstr_dma hfetch).trans hdma) hcd hca hcr (by rwa [hbank]) (by rwa [hbank]) (by rwa [hbank]) hlow hout hwin
  generalize hx : dmaOf (t.eng e).frameRunning d a r = x at hres
  obtain ⟨hdma', hbank', hout', hmem', hissued⟩ := dmaBegun_spec (x := x) (by rw [← hx]; rfl) t (by rw [← hx]; rfl)
  obtain ⟨hdone, hmem, -, -, hb⟩ := completeInstr_spec (s := dmaBegun e x t) (e := e) (pc := (t.bank e).pc) (cycles := 1)
    (old := t.bank e) (uses := [rdOf w, raOf w, rbOf w]) (loaded := []) (acs := []) (ovf := false) (rounds := false)
    (target := none) rfl
  have hdma'' := completeInstr_dma (e := e) (s := dmaBegun e x t) (pc := (t.bank e).pc) (cycles := 1) (old := t.bank e)
    (uses := [rdOf w, raOf w, rbOf w])
  have hexec : exec (.dma e) s = .next (syncEngine e (completeInstr e (t.bank e).pc (t.bank e) [rdOf w, raOf w, rbOf w] [] [] 1
      false false none (dmaBegun e x t))) := by
    rw [exec_dma, execDma, issue_of_issues _ h, hres, applyRes_plain]
  generalize completeInstr e (t.bank e).pc (t.bank e) [rdOf w, raOf w, rbOf w] [] [] 1 false false none (dmaBegun e x t) = u
    at hdone hmem hb hdma'' hexec
  obtain ⟨hpos, hle, hblock⟩ := requestWords_spec (t.eng e).frameRunning a r hlow
  rw [hx] at hpos hle hblock
  have hid : sgeIdent e t = sgeIdent e s := by
    unfold sgeIdent State.devId
    rw [fld_congr BRL_ID_DEVID 0 0 0 (reg_congr hregs _)]
  have hflt : FLT_DMAe_ISSUED.key e 0 0 ∉ engineKeys e := by
    simp [engineKeys, Field.key, FLT_DMAe_ISSUED, SGE_STATUS_STATE, SGE_FRAME_STATUS_RUNNING, SGE_CYCLES_BUSY]
    omega
  obtain ⟨-, -, hkeep⟩ := (id hdone).syncEngine
  have hdmau : (u.eng e).dma = some { x with chunk := requestWords x, bad := false } := hdma''.trans hdma'
  subst hx
  refine ⟨_, { dmaOf (t.eng e).frameRunning d a r with chunk := requestWords (dmaOf (t.eng e).frameRunning d a r), bad := false },
    requestWords (dmaOf (t.eng e).frameRunning d a r), hexec, ?_, rfl, rfl, rfl, rfl, rfl, rfl, rfl, hpos, hle, hblock, ?_, ?_, ?_,
    ?_, ?_, ?_, ?_⟩
  · rw [syncEngine_eng, hdmau]
  · rw [syncEngine_out, hdone.out, hout', hin.out, hid]
  · rw [syncEngine_bank, hb, hbank']
    rfl
  · rw [syncEngine_bank, hb, hbank']
    rfl
  · rw [syncEngine_bank, hb, hbank', ← hbank]
    rfl
  · rw [syncEngine_dma, hdmau]
    rfl
  · rw [fld_congr _ e 0 0 (hkeep _ hflt), hissued, fld_congr FLT_DMAe_ISSUED e 0 0 (reg_congr hregs _)]
    rfl
  · rw [syncEngine_mem, hmem, hmem']

/-- The transfer's bank. -/
def dmaBank (d : SgeDma) (x : Sge) : SgeBank := if d.frame then x.frame else x.action

theorem dmaStop_eng (e : Nat) (d : SgeDma) (st : Nat) (s : State) : ((dmaStop e d st s).eng e).dma = none ∧
    dmaBank d ((dmaStop e d st s).eng e) = { dmaBank d (s.eng e) with dstatus := st } := by
  unfold dmaStop setDstat dmaBank
  rw [eng_modEng_same, eng_modEng_same]
  cases d.frame <;> exact ⟨rfl, rfl⟩

/-- The state in which a response has been counted. -/
def dmaAnswered (e : Nat) (d : SgeDma) (s : State) : State :=
  answeredAt (sgeEndpoint (e / 8)) (s.addFld FLT_DMAe_ANSWERED (4 * d.chunk) e)

theorem dmaAnswered_count (e : Fin 32) (d : SgeDma) (s : State) : (dmaAnswered e d s).fld FLT_DMAe_ANSWERED e =
    (s.fld FLT_DMAe_ANSWERED e + 4 * d.chunk) % 2 ^ 32 := by
  have hq := sgeEndpoint_le (e / 8)
  unfold dmaAnswered answeredAt
  rw [fld_setFld_elsewhere _ NOC_EPe_STATUS_OUTSTANDING FLT_DMAe_ANSWERED _
      (by simp only [Field.key, FLT_DMAe_ANSWERED, NOC_EPe_STATUS_OUTSTANDING]; omega),
    State.addFld, fld_setFld_same _ FLT_DMAe_ANSWERED _ e 0 0 (by unfold Field.good; decide)]
  rfl

theorem dma_fails {st : Status} {ws : List (BitVec 32)} {d : SgeDma} (hd : (s.eng e).dma = some d) (hst : st ≠ .ok) :
    ∃ u, exec (.dmaResponse e st ws) s = .next u ∧ (u.eng e).dma = none ∧
      (if d.frame then (u.eng e).frame else (u.eng e).action).dstatus = dmaCode st ∧ u.out = s.out ∧ u.mem = s.mem ∧
      u.fld FLT_DMAe_ANSWERED e = (s.fld FLT_DMAe_ANSWERED e + 4 * d.chunk) % 2 ^ FLT_DMAe_ANSWERED.w := by
  have hexec : exec (.dmaResponse e st ws) s = .next (syncEngine e (dmaStop e d (dmaCode st) (dmaAnswered e d s))) := by
    rw [exec_dmaResponse, execDmaResponse, hd]
    dsimp only
    rw [if_pos hst]
    rfl
  obtain ⟨hdma, hbank⟩ := dmaStop_eng e d (dmaCode st) (dmaAnswered e d s)
  refine ⟨_, hexec, ?_, ?_, ?_, ?_, ?_⟩
  · rw [syncEngine_eng, hdma]
  · rw [syncEngine_eng]
    exact congrArg SgeBank.dstatus hbank
  · rw [syncEngine_out]
    rfl
  · rw [syncEngine_mem]
    rfl
  · rw [syncEngine_fld _ _ _ _ _ (by
      simp [Field.key, FLT_DMAe_ANSWERED, SGE_STATUS_STATE, SGE_FRAME_STATUS_RUNNING]; omega)]
    exact dmaAnswered_count e d s

/-- A store depends on the stored words alone, and leaves registers and engines. -/
theorem storeWord_elsewhere {m s' : State} {busY : Bool} {a : Nat} {v : BitVec 32} (h : storeWord e busY a v s = some m)
    (hmem : s'.mem = s.mem) : ∃ m', storeWord e busY a v s' = some m' ∧ m'.mem = m.mem ∧ m'.sge = s'.sge ∧ m'.out = s'.out := by
  have hp : s'.pword (dataKey e busY a) = s.pword (dataKey e busY a) := by
    unfold State.pword
    rw [hmem]
  unfold storeWord State.mergeP at h ⊢
  rw [hp]
  split at h
  · exact absurd h nofun
  · dsimp only at h ⊢
    rw [if_neg (by decide)] at h ⊢
    refine ⟨_, rfl, ?_, rfl, rfl⟩
    rw [← Option.some.inj h]
    unfold State.writeP State.setPword
    dsimp only
    rw [hmem]

theorem dma_ends {v : BitVec 32} {d : SgeDma} {m : State} (hd : (s.eng e).dma = some d) (hout : d.out = false)
    (hchunk : d.chunk = 1) (hleft : d.left = 1) (hbad : d.bad = false) (hwin : d.window = none)
    (hstore : storeWord e d.busY (d.loc % 16384) (storedWord (v.setWidth 24)) s = some m) :
    ∃ u, exec (.dmaResponse e .ok [v]) s = .next u ∧ (u.eng e).dma = none ∧ u.mem = m.mem ∧ u.out = s.out ∧
      (if d.frame then (u.eng e).frame else (u.eng e).action).dstatus = 0 ∧
      (if d.frame then (u.eng e).frame else (u.eng e).action).dmoved =
        (if d.frame then (s.eng e).frame else (s.eng e).action).dmoved + 1 := by
  obtain ⟨m', hm, hmem, hsge, hout'⟩ := storeWord_elsewhere (s' := dmaAnswered e d s) hstore rfl
  have hat : d.at 0 = d.loc % 16384 := by
    unfold SgeDma.at
    rw [hwin]
    rfl
  have hscatter : dmaScatter e d [v] 0 (dmaAnswered e d s) = (1, m') := by
    rw [dmaScatter, hat, hm]
    rfl
  have hmoved : dmaMoved e d 1 m' = dmaStop e d 0 (setDstat e d.frame (fun b => { b with dmoved := b.dmoved + 1 }) m') := by
    unfold dmaMoved
    dsimp only
    rw [if_neg (by simp [hbad, hchunk]), if_pos hleft]
  have hexec : exec (.dmaResponse e .ok [v]) s =
      .next (syncEngine e (dmaStop e d 0 (setDstat e d.frame (fun b => { b with dmoved := b.dmoved + 1 }) m'))) := by
    have htake : [v].take d.chunk = [v] := by rw [hchunk]; rfl
    rw [exec_dmaResponse, execDmaResponse, hd]
    dsimp only
    rw [if_neg (by simp), hout, if_neg (by decide), htake, ← hmoved]
    exact congrArg (fun r : Nat × State => Host.Outcome.next (syncEngine e (dmaMoved e d r.1 r.2))) hscatter
  obtain ⟨hdma, hbank⟩ := dmaStop_eng e d 0 (setDstat e d.frame (fun b => { b with dmoved := b.dmoved + 1 }) m')
  have hset : dmaBank d ((setDstat e d.frame (fun b => { b with dmoved := b.dmoved + 1 }) m').eng e) =
      { dmaBank d (s.eng e) with dmoved := (dmaBank d (s.eng e)).dmoved + 1 } := by
    have heng : m'.eng e = s.eng e := eng_congr hsge e
    unfold setDstat dmaBank
    rw [eng_modEng_same, heng]
    cases d.frame <;> rfl
  rw [hset] at hbank
  refine ⟨_, hexec, ?_, ?_, ?_, ?_, ?_⟩
  · rw [syncEngine_eng, hdma]
  · rw [syncEngine_mem]
    exact hmem
  · rw [syncEngine_out]
    exact hout'
  · rw [syncEngine_eng]
    exact congrArg SgeBank.dstatus hbank
  · rw [syncEngine_eng]
    exact congrArg SgeBank.dmoved hbank

/-! ### RUN and RESTART -/

theorem wfield_full (data : Word) (f : Field) (h : Half.full.reaches f.lo = true) :
    wfield .full data f = some (bits data f.lo f.w) := by
  unfold wfield
  rw [if_pos (.inl h)]
  have hmask : data &&& Half.full.mask = data := by
    show data &&& 0xFFFFFFFFFFFFFFFF = data
    exact BitVec.and_allOnes
  rw [hmask]

theorem wbit_full (data : Word) (f : Field) : wbit .full data f = bit data f.lo := by
  unfold wbit
  have hmask : data &&& Half.full.mask = data := by
    show data &&& 0xFFFFFFFFFFFFFFFF = data
    exact BitVec.and_allOnes
  rw [hmask]

/-- An engine in which no action is queued fences none. -/
theorem fenceQueued_none {e : Nat} {s : State} (hq : (s.eng e).queue = []) :
    fenceQueued e s = s.modEng e (fun x => { x with queue := x.queue.take (if (s.eng e).jobRunning then 1 else 0) }) := by
  unfold fenceQueued
  dsimp only
  rw [hq, List.drop_nil]
  rfl

/-- The state in which RUN has taken its value, before the status follows. -/
def runSet (e : Nat) (v : Bool) (s : State) : State :=
  if v then (s.setFld SGE_CTL_RUN (bnat v) e).modEng e (fun x => { x with cache := none })
  else fenceQueued e (s.setFld SGE_CTL_RUN (bnat v) e)

theorem runSet_spec {e : Nat} {s : State} (v : Bool) (hq : (s.eng e).queue = []) :
    (runSet e v s).out = s.out ∧ (runSet e v s).mem = s.mem ∧
      regsKeep [SGE_CTL_RUN.key e 0 0] s (runSet e v s) ∧ (runSet e v s).fld SGE_CTL_RUN e = bnat v ∧
      (runSet e v s).fld SGE_CTL_JOB_LIMIT e = s.fld SGE_CTL_JOB_LIMIT e ∧
      ((runSet e v s).eng e).action = (s.eng e).action ∧ ((runSet e v s).eng e).frame = (s.eng e).frame ∧
      (v = true → ((runSet e v s).eng e).cache = none) := by
  have hrun : (s.setFld SGE_CTL_RUN (bnat v) e).fld SGE_CTL_RUN e = bnat v :=
    fld_setFld_fits s SGE_CTL_RUN e 0 0 (by cases v <;> decide)
  have hlimit : (s.setFld SGE_CTL_RUN (bnat v) e).fld SGE_CTL_JOB_LIMIT e = s.fld SGE_CTL_JOB_LIMIT e :=
    fld_setFld_beside s SGE_CTL_RUN SGE_CTL_JOB_LIMIT _
  have hregs := regsKeep_setFld s SGE_CTL_RUN (bnat v) e 0 0
  unfold runSet
  cases v with
  | true =>
    rw [if_pos rfl, modEng_fld, modEng_fld, eng_modEng_same]
    exact ⟨rfl, rfl, hregs, hrun, hlimit, rfl, rfl, fun _ => rfl⟩
  | false =>
    rw [if_neg (by decide), fenceQueued_none (by rw [eng_setFld]; exact hq), modEng_fld, modEng_fld, eng_modEng_same]
    exact ⟨rfl, rfl, hregs, hrun, hlimit, rfl, rfl, fun h => absurd h (by decide)⟩

theorem setRun_eq (e : Nat) (v : Bool) (s : State) : setRun e v s = syncEngine e (runSet e v s) := rfl

/-- The banks of an engine that RESTART has released. -/
def Sge.restarted (x : Sge) : Sge :=
  { x with
    action := { x.action with sr := srPut x.action.sr srTM false, loops := [], rets := [] }
    frame := { x.frame with sr := srPut x.frame.sr srTM false, loops := [], rets := [] }
    cache := none
    pulses := [] }

theorem restartEngine_halted {e : Nat} {s : State} (hh : s.engHalted e = true) : restartEngine e s =
    syncEngine e (((s.setFld SGE_TRAP_HALTED 0 e).modEng e Sge.restarted).setFld SGE_FRAME_STATUS_BACKLOG 0 e) := by
  unfold restartEngine
  rw [if_neg (by simp [hh])]
  rfl

theorem restartEngine_running {e : Nat} {s : State} (hh : s.engHalted e = false) : restartEngine e s = s := by
  unfold restartEngine
  rw [if_pos (by simp [hh])]

/-- What RESTART leaves of SGE_CTL, whatever the engine's state. -/
theorem restartEngine_ctl (e : Nat) (s : State) (f : Field) (hoff : f.off = SGE_CTL_RUN.off) (hs : f.s1 = 0x10000) :
    (restartEngine e s).fld f e = s.fld f e ∧ (restartEngine e s).out = s.out ∧ (restartEngine e s).mem = s.mem := by
  have hne : ∀ g : Field, g.s1 = 0x10000 → g.off ≠ SGE_CTL_RUN.off → f.key e 0 0 ≠ g.key e 0 0 :=
    fun g hg hgo => engine_key_ne e (by rw [hoff]; exact fun h => hgo h.symm) hs hg
  cases hh : s.engHalted e with
  | false =>
    rw [restartEngine_running hh]
    exact ⟨rfl, rfl, rfl⟩
  | true =>
    rw [restartEngine_halted hh, syncEngine_out, syncEngine_mem, syncEngine_fld_engine _ f e (by rw [hoff]; decide)
      (by rw [hoff]; decide) hs, fld_setFld_elsewhere _ SGE_FRAME_STATUS_BACKLOG f _ (hne _ rfl (by decide)), modEng_fld,
      fld_setFld_elsewhere _ SGE_TRAP_HALTED f _ (hne _ rfl (by decide))]
    exact ⟨rfl, rfl, rfl⟩

/-- The state after a write of SGE_CTL in which JOB_LIMIT and RUN have taken their values. -/
def ctlTaken (e : Nat) (data : Word) (s : State) : State :=
  syncEngine e (runSet e (bit data 0) (s.setFld SGE_CTL_JOB_LIMIT (bits data 32 32) e))

theorem sgeCtlEffect_full (e : Nat) (data : Word) (s : State) : sgeCtlEffect e .full data s =
    if bit data 1 then restartEngine e (ctlTaken e data s) else ctlTaken e data s := by
  have hrun : decide (bits data 0 1 ≠ 0) = bit data 0 := by
    rw [bits_one_eq_bnat]
    cases bit data 0 <;> decide
  unfold sgeCtlEffect
  rw [wfield_full data SGE_CTL_JOB_LIMIT (by decide), wfield_full data SGE_CTL_RUN (by decide), wbit_full]
  dsimp only
  rw [setRun_eq]
  exact hrun ▸ rfl

theorem ctlTaken_spec {e : Nat} {s : State} (data : Word) (hq : (s.eng e).queue = []) :
    (ctlTaken e data s).fld SGE_CTL_RUN e = bits data 0 1 ∧ (ctlTaken e data s).fld SGE_CTL_JOB_LIMIT e = bits data 32 32 ∧
      (ctlTaken e data s).out = s.out ∧ (ctlTaken e data s).mem = s.mem ∧
      (ctlTaken e data s).engHalted e = s.engHalted e ∧ ((ctlTaken e data s).eng e).action = (s.eng e).action ∧
      ((ctlTaken e data s).eng e).frame = (s.eng e).frame ∧ (bit data 0 = true → ((ctlTaken e data s).eng e).cache = none) := by
  obtain ⟨hout, hmem, hkeep, hrun, hlimit, haction, hframe, hcache⟩ :=
    runSet_spec (s := s.setFld SGE_CTL_JOB_LIMIT (bits data 32 32) e) (e := e) (bit data 0) hq
  unfold ctlTaken
  refine ⟨?_, ?_, ?_, ?_, ?_, ?_, ?_, fun hb => ?_⟩
  · rw [syncEngine_fld_engine _ SGE_CTL_RUN, hrun, bits_one_eq_bnat]
  · rw [syncEngine_fld_engine _ SGE_CTL_JOB_LIMIT, hlimit]
    exact fld_setFld_fits s SGE_CTL_JOB_LIMIT e 0 0 (bits_lt data 32 32)
  · rw [syncEngine_out]
    exact hout
  · rw [syncEngine_mem]
    exact hmem
  · unfold State.engHalted State.on
    rw [syncEngine_fld_engine _ SGE_TRAP_HALTED, ← fld_setFld_elsewhere s SGE_CTL_JOB_LIMIT SGE_TRAP_HALTED (bits data 32 32)
      (engine_key_ne e)]
    exact congrArg (fun n => decide (n ≠ 0)) (fld_congr SGE_TRAP_HALTED e 0 0 (hkeep _ (by
      rw [List.mem_singleton]
      exact engine_key_ne e)))
  · rw [syncEngine_eng, haction, eng_setFld]
  · rw [syncEngine_eng, hframe, eng_setFld]
  · rw [syncEngine_eng, hcache hb]

theorem run_write {m : Ident} {data : Word} (hadm : s.admits m .SGE_CTL [e.val]) (hq : (s.eng e).queue = []) :
    ∃ u, exec (.sgeRunWrite m e .full data) s = .next u ∧ u.fld SGE_CTL_RUN e = bits data 0 1 ∧
      u.fld SGE_CTL_JOB_LIMIT e = bits data 32 32 ∧ u.out = s.out ∧ u.mem = s.mem ∧
      (bit data 0 = true → (u.eng e).cache = none) ∧ (bit data 1 = false → (u.eng e).action = (s.eng e).action) := by
  have heng : (renewLease m s).eng e = s.eng e := eng_congr (renewLease_sge m s) e
  obtain ⟨hrun, hlimit, hout, hmem, -, haction, -, hcache⟩ := ctlTaken_spec (s := renewLease m s) (e := e) data (by rw [heng]; exact hq)
  have hexec : exec (.sgeRunWrite m e .full data) s = .next (if bit data 1 then restartEngine e (ctlTaken e data (renewLease m s))
      else ctlTaken e data (renewLease m s)) := by
    rw [exec_sgeRunWrite, execSgeRunWrite, regWrite_admits hadm, sgeCtlEffect_full]
  rw [renewLease_out] at hout
  rw [renewLease_mem] at hmem
  rw [heng] at haction
  cases h1 : bit data 1 with
  | false =>
    rw [h1, if_neg (by decide)] at hexec
    exact ⟨_, hexec, hrun, hlimit, hout, hmem, hcache, fun _ => haction⟩
  | true =>
    rw [h1, if_pos rfl] at hexec
    generalize ctlTaken e data (renewLease m s) = c at hexec hrun hlimit hout hmem hcache
    obtain ⟨hrun', hout', hmem'⟩ := restartEngine_ctl e c SGE_CTL_RUN rfl rfl
    obtain ⟨hlimit', -, -⟩ := restartEngine_ctl e c SGE_CTL_JOB_LIMIT rfl rfl
    refine ⟨_, hexec, hrun'.trans hrun, hlimit'.trans hlimit, hout'.trans hout, hmem'.trans hmem, fun h0 => ?_,
      fun h => absurd h (by decide)⟩
    cases hh : c.engHalted e with
    | false => rw [restartEngine_running hh, hcache h0]
    | true =>
      rw [restartEngine_halted hh, syncEngine_eng, eng_setFld, eng_modEng_same]
      rfl

theorem bit_srPut_cleared (sr : BitVec 12) : bit (srPut sr srTM false) srTM = false := by
  unfold srPut bit
  simp [srTM]

theorem restart_releases {m : Ident} {data : Word} (hadm : s.admits m .SGE_CTL [e.val]) (hq : (s.eng e).queue = [])
    (hh : s.engHalted e = true) :
    ∃ u, exec (.sgeRestart m e .full data) s = .next u ∧ u.on SGE_TRAP_HALTED e = false ∧ u.fld SGE_FRAME_STATUS_BACKLOG e = 0 ∧
      (u.eng e).action.loops = [] ∧ (u.eng e).action.rets = [] ∧ (u.eng e).frame.loops = [] ∧ (u.eng e).frame.rets = [] ∧
      bit (u.eng e).action.sr srTM = false ∧ bit (u.eng e).frame.sr srTM = false ∧ (u.eng e).action.d = (s.eng e).action.d ∧
      (u.eng e).action.pc = (s.eng e).action.pc ∧ u.out = s.out ∧ u.mem = s.mem := by
  have heng : (renewLease m s).eng e = s.eng e := eng_congr (renewLease_sge m s) e
  have hhl : (renewLease m s).engHalted e = s.engHalted e := by
    unfold State.engHalted
    exact on_renewLease_group m s SGE_TRAP_HALTED e 0 0
  obtain ⟨-, -, hout, hmem, hhalt, haction, -, -⟩ :=
    ctlTaken_spec (s := renewLease m s) (e := e) (setBits data 1 1 1) (by rw [heng]; exact hq)
  have hbit : bit (setBits data 1 1 1) 1 = true := by
    have h1 := bits_setBits_same data 1 1 1 (by decide)
    exact bit_of_bits (b := true) h1
  have hexec : exec (.sgeRestart m e .full data) s = .next (restartEngine e (ctlTaken e (setBits data 1 1 1) (renewLease m s))) := by
    rw [exec_sgeRestart, execSgeRestart, regWrite_admits hadm, sgeCtlEffect_full, if_pos hbit]
  rw [renewLease_out] at hout
  rw [renewLease_mem] at hmem
  rw [hhl, hh] at hhalt
  rw [heng] at haction
  generalize ctlTaken e (setBits data 1 1 1) (renewLease m s) = c at hexec hout hmem hhalt haction
  rw [restartEngine_halted hhalt] at hexec
  have heng' : (syncEngine e (((c.setFld SGE_TRAP_HALTED 0 e).modEng e Sge.restarted).setFld SGE_FRAME_STATUS_BACKLOG 0 e)).eng e =
      (c.eng e).restarted := by
    rw [syncEngine_eng, eng_setFld, eng_modEng_same, eng_setFld]
  refine ⟨_, hexec, ?_, ?_, ?_⟩
  · unfold State.on
    rw [syncEngine_fld_engine _ SGE_TRAP_HALTED, fld_setFld_elsewhere _ SGE_FRAME_STATUS_BACKLOG SGE_TRAP_HALTED _ (engine_key_ne e),
      modEng_fld, fld_setFld_fits _ SGE_TRAP_HALTED e 0 0 (by decide)]
    rfl
  · unfold syncEngine
    dsimp only
    rw [fld_setFld_beside _ SGE_FRAME_STATUS_RUNNING SGE_FRAME_STATUS_BACKLOG,
      fld_setFld_elsewhere _ SGE_STATUS_SUSPENDED SGE_FRAME_STATUS_BACKLOG _ (engine_key_ne e),
      fld_setFld_elsewhere _ SGE_STATUS_DMA_BUSY SGE_FRAME_STATUS_BACKLOG _ (engine_key_ne e),
      fld_setFld_elsewhere _ SGE_STATUS_QUEUED SGE_FRAME_STATUS_BACKLOG _ (engine_key_ne e),
      fld_setFld_elsewhere _ SGE_STATUS_BANK SGE_FRAME_STATUS_BACKLOG _ (engine_key_ne e),
      fld_setFld_elsewhere _ SGE_STATUS_STATE SGE_FRAME_STATUS_BACKLOG _ (engine_key_ne e),
      fld_setFld_fits _ SGE_FRAME_STATUS_BACKLOG e 0 0 (by decide)]
  · rw [heng', syncEngine_out, syncEngine_mem, ← haction]
    exact ⟨rfl, rfl, rfl, rfl, bit_srPut_cleared _, bit_srPut_cleared _, rfl, rfl, hout, hmem⟩

/-! ### The memory port -/

theorem portKey_renewLease (m : Ident) (e : Nat) (s : State) : portKey e (renewLease m s) = portKey e s := by
  unfold portKey
  rw [fld_renewLease_group m s SGE_MEM_ADDR_ADDR e 0 0, fld_renewLease_group m s SGE_MEM_ADDR_MEM e 0 0]

/-- A whole write through the port to bus X or Y. -/
theorem portWrite_full {m : Ident} {e : Nat} {s : State} (data : Word) (hmem : s.fld SGE_MEM_ADDR_MEM e < 2) :
    portWrite m e .full data s =
      (s.writeP (portKey e s) data).setFld SGE_MEM_ADDR_ADDR ((s.fld SGE_MEM_ADDR_ADDR e + 2) % 16384) e := by
  have hne : s.fld SGE_MEM_ADDR_MEM e ≠ 2 := by omega
  have hwrite : s.writeMasked (portKey e s) Half.full.mask data false = some (s.writeP (portKey e s) data) := by
    unfold State.writeMasked
    exact (if_pos rfl).trans (congrArg some (if_neg (by decide)))
  unfold portWrite
  rw [if_neg (fun h => hne h.1), hwrite, Option.getD_some]
  unfold bumpPort
  rw [if_neg (by decide)]
  dsimp only
  have hsame : (s.writeP (portKey e s) data).fld SGE_MEM_ADDR_MEM e = s.fld SGE_MEM_ADDR_MEM e := rfl
  rw [hsame, if_neg hne]
  rfl

theorem port_write {m : Ident} {data : Word} (hadm : s.admits m .SGE_MEM_DATA [e.val]) (hmem : s.fld SGE_MEM_ADDR_MEM e < 2) :
    ∃ u, exec (.sgeMemDataAccess m e .full (some data)) s = .next u ∧ u.pword (portKey e s) = PWord.clean data ∧
      (∀ k, k ≠ portKey e s → u.pword k = s.pword k) ∧
      u.fld SGE_MEM_ADDR_ADDR e = (s.fld SGE_MEM_ADDR_ADDR e + 2) % 16384 ∧ u.out = s.out ∧ u.sge = s.sge := by
  have hpw : ∀ k, (renewLease m s).pword k = s.pword k := fun k => by
    unfold State.pword
    rw [renewLease_mem]
  have hexec : exec (.sgeMemDataAccess m e .full (some data)) s =
      .next (((renewLease m s).writeP (portKey e s) data).setFld SGE_MEM_ADDR_ADDR ((s.fld SGE_MEM_ADDR_ADDR e + 2) % 16384) e) := by
    rw [exec_sgeMemDataAccess, execSgeMemDataAccess, regWrite_admits hadm,
      portWrite_full data (by rw [fld_renewLease_group m s SGE_MEM_ADDR_MEM e 0 0]; exact hmem), portKey_renewLease,
      fld_renewLease_group m s SGE_MEM_ADDR_ADDR e 0 0]
  refine ⟨_, hexec, Memory.get_set_same _ _ _, fun k hk => (Memory.get_set_other _ hk _).trans (hpw k), ?_, renewLease_out m s,
    renewLease_sge m s⟩
  exact fld_setFld_fits _ SGE_MEM_ADDR_ADDR e 0 0 (Nat.mod_lt _ (by decide))

theorem port_read {m : Ident} {v : Word} (hread : s.readable (SGE_MEM_DATA_WORD.key e 0 0))
    (hv : (s.pword (portKey e s)).value? = some v) :
    ∃ u, exec (.sgeMemDataAccess m e .low none) s = .next u ∧ u.out = .answer m (v &&& 0xFFFFFFFF) :: s.out ∧ u.regs = s.regs ∧
      u.sge = s.sge := by
  obtain ⟨t, ht⟩ : ∃ t, readMended (portKey e s) s = some (v, t) := by
    unfold readMended
    rw [hv]
    exact ⟨_, rfl⟩
  obtain ⟨hin, hregs, hsge⟩ := readMended_inEngine (e := e) ht
  have hexec : exec (.sgeMemDataAccess m e .low none) s = .next (t.emit (.answer m (v &&& 0xFFFFFFFF))) := by
    rw [exec_sgeMemDataAccess, execSgeMemDataAccess, readFront_readable hread]
    unfold portRead
    rw [ht]
    rfl
  exact ⟨_, hexec, congrArg _ hin.out, hregs, hsge⟩

theorem port_steals (hcan : s.canIssue e = true) :
    ∃ u, exec (.portWaitSteal e) s = .next u ∧ u.fld SGE_CYCLES_BUSY e = (s.fld SGE_CYCLES_BUSY e + 1) % 2 ^ 64 ∧
      u.out = s.out ∧ u.mem = s.mem ∧ u.bank e = s.bank e ∧ regsKeep [SGE_CYCLES_BUSY.key e 0 0] s u := by
  have hexec : exec (.portWaitSteal e) s = .next (countCycles e 1 s) := by
    rw [exec_portWaitSteal, execPortWaitSteal, if_pos hcan]
  exact ⟨_, hexec, countCycles_busy e 1 s, rfl, rfl, countCycles_bank e 1 s, regsKeep_setFld s SGE_CYCLES_BUSY _ e 0 0⟩

/-- Settles O30. -/
theorem sgeJobsAndDma : Obligations.SgeJobsAndDma := by
  refine ⟨fun e a s => action_starts, fun e a s hsrc hgate hoff => ?_, fun e a s => limit_expires,
    fun e w d a r s t => dma_begins, fun e st ws d s => dma_fails, fun e v d m s => dma_ends, fun m e data s => run_write,
    fun m e data s => restart_releases, fun m e data s => port_write, fun m e v s => port_read, fun e s => port_steals⟩
  exact ⟨_, action_fenced hsrc hgate hoff, answerJob_out _ _ _ _ _, answerJob_sge _ _ _ _ _, answerJob_mem _ _ _ _ _⟩

end Sys2Proof.Machine
end

section
-- One proof at a time: the memory limit of the check counts a stack for every proof that waits for another.
set_option Elab.async false
/-! SUPPORT. Dividers and user oscillators (R306 to R310), and a root cycle of the fabric's flip-flops and slices. -/

namespace Sys2Proof.Machine

variable {s u : State} {m : Ident} {h : Half} {data : Word}

/-! ### Dividers -/

theorem fclk_congr {t : State} (h : t.pwr = s.pwr) (k : Nat) : t.fclk k = s.fclk k := by
  unfold State.fclk
  rw [h]

theorem fclk_setFclk_same {k : Nat} (c : FClk) (hk : k < s.pwr.fclks.length) : (s.setFclk k c).fclk k = c := by
  unfold State.setFclk State.fclk
  simp [List.getD_eq_getElem?_getD, hk]

theorem fclk_setFclk_other {k j : Nat} (c : FClk) (hj : j ≠ k) : (s.setFclk k c).fclk j = s.fclk j := by
  unfold State.setFclk State.fclk
  simp [List.getD_eq_getElem?_getD, List.getElem?_set_ne hj.symm]

theorem on_renewLease (m : Ident) (s : State) (f : Field) (i j k : Nat) (hf : leaseKey < f.off) :
    (renewLease m s).on f i j k = s.on f i j k := by
  unfold State.on
  rw [fld_renewLease m s f i j k (key_ne_leaseKey hf i j k)]

theorem frozenSet_renewLease (m : Ident) (s : State) : (renewLease m s).frozenSet = s.frozenSet :=
  frozenSet_congr (reg_renewLease m s (by decide)) (renewLease_tck m s)

theorem fclkFroze_renewLease (m : Ident) (s : State) (k : Nat) : (renewLease m s).fclkFroze k = s.fclkFroze k := by
  unfold State.fclkFroze
  rw [fclk_congr (renewLease_pwr m s) k, frozenSet_renewLease, renewLease_tck, on_renewLease m s CLK_FCLKk_EN k 0 0 (by decide),
    fld_renewLease m s CLK_FCLKk_DIV k 0 0 (key_ne_leaseKey (by decide) k 0 0)]

/-- The divider's register with DIV and EN written. -/
def divStored (k : Nat) (data : Word) (s : State) : State :=
  (s.setFld CLK_FCLKk_DIV (bits data 0 13) k).setFld CLK_FCLKk_EN (bits data 16 1) k

theorem divStored_spec (k : Nat) (data : Word) (s : State) :
    (divStored k data s).fld CLK_FCLKk_DIV k = bits data 0 13 ∧ (divStored k data s).fld CLK_FCLKk_EN k = bits data 16 1 ∧
      (divStored k data s).fld CLK_FCLKk_CUR_DIV k = s.fld CLK_FCLKk_CUR_DIV k ∧
      onlyRegs [CLK_FCLKk_DIV.key k 0 0] s (divStored k data s) := by
  unfold divStored
  refine ⟨?_, ?_, ?_, ?_⟩
  · rw [fld_setFld_beside _ CLK_FCLKk_EN CLK_FCLKk_DIV, fld_setFld_fits _ CLK_FCLKk_DIV k 0 0 (bits_lt data 0 13)]
  · rw [fld_setFld_fits _ CLK_FCLKk_EN k 0 0 (bits_lt data 16 1)]
  · rw [fld_setFld_beside _ CLK_FCLKk_EN CLK_FCLKk_CUR_DIV, fld_setFld_beside _ CLK_FCLKk_DIV CLK_FCLKk_CUR_DIV]
  · exact onlyRegs_after_setFld _ _ _ 0 0 (onlyRegs_after_setFld _ _ _ 0 0 ⟨rfl, regsKeep_refl _ s⟩ (.head _)) (.head _)

/-- What a divider's change leaves: it waits for the boundary, unless it asks for what runs. -/
def divChanged (k : Nat) (data : Word) (s : State) : State :=
  if s.fclkFroze k = none ∧ (s.fclk k).runs = bit data 16 ∧ (s.fclk k).div = bits data 0 13 then
    ((divStored k data s).setFclk k { s.fclk k with due := none, frozen := none }).setFld CLK_FCLKk_PENDING 0 k
  else ((divStored k data s).setFclk k { s.fclk k with due := some s.nextDue, frozen := s.fclkFroze k }).setFld CLK_FCLKk_PENDING 1 k

theorem fclkEffect_inRange {k : Nat} (hk : k < 24) (hh : h ≠ .high) (hlo : 16 ≤ bits data 0 13) (hhi : bits data 0 13 ≤ 4096) (s : State) :
    fclkEffect k h data s = divChanged k data s := by
  obtain ⟨hdiv, hen, -, hregs⟩ := divStored_spec k data s
  have hon : (divStored k data s).on CLK_FCLKk_EN k = bit data 16 := by
    unfold State.on
    rw [hen, bits_one_eq_bnat]
    cases bit data 16 <;> decide
  have hdue : (divStored k data s).nextDue = s.nextDue := by
    obtain ⟨hrest, hkeep⟩ := hregs
    refine nextDue_congr (hkeep _ ?_) (by rw [hrest])
    rw [List.mem_singleton]
    simp only [Field.key, CLK_FCLKk_DIV, TCK_PERIOD_CUR_N]
    omega
  have heff : fclkEffect k h data s =
      if s.fclkFroze k = none ∧ (s.fclk k).runs = (divStored k data s).on CLK_FCLKk_EN k ∧
          (s.fclk k).div = (divStored k data s).fld CLK_FCLKk_DIV k then
        ((divStored k data s).setFclk k { s.fclk k with due := none, frozen := s.fclkFroze k }).setFld CLK_FCLKk_PENDING 0 k
      else ((divStored k data s).setFclk k { s.fclk k with due := some (divStored k data s).nextDue, frozen := s.fclkFroze k }).setFld
        CLK_FCLKk_PENDING 1 k := by
    unfold fclkEffect
    rw [if_neg (by rw [reaches_zero hh]; simp; omega)]
    rfl
  rw [heff, hon, hdiv, hdue]
  unfold divChanged
  split
  · rename_i hsame
    obtain ⟨hfroze, -⟩ := hsame
    rw [hfroze]
  · rfl

theorem divChanged_spec {k : Nat} (hk : k < s.pwr.fclks.length) (data : Word) :
    (divChanged k data s).fld CLK_FCLKk_DIV k = bits data 0 13 ∧ (divChanged k data s).fld CLK_FCLKk_EN k = bits data 16 1 ∧
      (divChanged k data s).fld CLK_FCLKk_CUR_DIV k = s.fld CLK_FCLKk_CUR_DIV k ∧
      (if s.fclkFroze k = none ∧ (s.fclk k).runs = bit data 16 ∧ (s.fclk k).div = bits data 0 13
       then (divChanged k data s).fclk k = { s.fclk k with due := none, frozen := none } ∧
        (divChanged k data s).fld CLK_FCLKk_PENDING k = 0
       else (divChanged k data s).fclk k = { s.fclk k with due := some s.nextDue, frozen := s.fclkFroze k } ∧
        (divChanged k data s).fld CLK_FCLKk_PENDING k = 1) ∧
      (∀ j, j ≠ k → (divChanged k data s).fclk j = s.fclk j) ∧ (divChanged k data s).out = s.out ∧
      (divChanged k data s).mem = s.mem ∧ regsKeep [CLK_FCLKk_DIV.key k 0 0] s (divChanged k data s) := by
  obtain ⟨hdiv, hen, hcur, hrest, hkeep⟩ := divStored_spec k data s
  have hout : (divStored k data s).out = s.out := by rw [hrest]
  have hmem : (divStored k data s).mem = s.mem := by rw [hrest]
  have hpend : ∀ (c : FClk) (v : Nat), v < 2 →
      let u := ((divStored k data s).setFclk k c).setFld CLK_FCLKk_PENDING v k
      u.fld CLK_FCLKk_DIV k = bits data 0 13 ∧ u.fld CLK_FCLKk_EN k = bits data 16 1 ∧
        u.fld CLK_FCLKk_CUR_DIV k = s.fld CLK_FCLKk_CUR_DIV k ∧ u.fclk k = c ∧ u.fld CLK_FCLKk_PENDING k = v ∧
        (∀ j, j ≠ k → u.fclk j = s.fclk j) ∧ u.out = s.out ∧ u.mem = s.mem ∧ regsKeep [CLK_FCLKk_DIV.key k 0 0] s u := by
    intro c v hv u
    refine ⟨(fld_setFld_beside _ CLK_FCLKk_PENDING CLK_FCLKk_DIV v).trans hdiv,
      (fld_setFld_beside _ CLK_FCLKk_PENDING CLK_FCLKk_EN v).trans hen,
      (fld_setFld_beside _ CLK_FCLKk_PENDING CLK_FCLKk_CUR_DIV v).trans hcur, fclk_setFclk_same c (by rw [hrest]; exact hk),
      fld_setFld_fits _ CLK_FCLKk_PENDING k 0 0 hv, fun j hj => (fclk_setFclk_other c hj).trans (fclk_congr (by rw [hrest]) j),
      hout, hmem, ?_⟩
    exact regsKeep_after_setFld CLK_FCLKk_PENDING v k 0 0 hkeep (.head _)
  unfold divChanged
  split
  · rename_i hsame
    obtain ⟨h1, h2, h3, h4, h5, h6⟩ := hpend { s.fclk k with due := none, frozen := none } 0 (by decide)
    exact ⟨h1, h2, h3, ⟨h4, h5⟩, h6⟩
  · rename_i hdiff
    obtain ⟨h1, h2, h3, h4, h5, h6⟩ := hpend { s.fclk k with due := some s.nextDue, frozen := s.fclkFroze k } 1 (by decide)
    exact ⟨h1, h2, h3, ⟨h4, h5⟩, h6⟩

theorem fclk_write {m : Ident} {k : Fin 24} (hadm : s.admits m .CLK_FCLKk [k.val]) (hh : h ≠ .high)
    (hlen : s.pwr.fclks.length = 24) (hlo : 16 ≤ bits data 0 13) (hhi : bits data 0 13 ≤ 4096) :
    ∃ u, exec (.fclkWrite m k h data) s = .next u ∧ u.fld CLK_FCLKk_DIV k = bits data 0 13 ∧ u.fld CLK_FCLKk_EN k = bits data 16 1 ∧
      u.fld CLK_FCLKk_CUR_DIV k = s.fld CLK_FCLKk_CUR_DIV k ∧
      (if s.fclkFroze k = none ∧ (s.fclk k).runs = bit data 16 ∧ (s.fclk k).div = bits data 0 13
       then u.fclk k = { s.fclk k with due := none, frozen := none } ∧ u.fld CLK_FCLKk_PENDING k = 0
       else u.fclk k = { s.fclk k with due := some s.nextDue, frozen := s.fclkFroze k } ∧ u.fld CLK_FCLKk_PENDING k = 1) ∧
      (∀ j, j ≠ k.val → u.fclk j = s.fclk j) ∧ u.out = s.out ∧ u.mem = s.mem ∧ regsKeep [leaseKey, CLK_FCLKk_DIV.key k 0 0] s u := by
  have hexec : exec (.fclkWrite m k h data) s = .next (divChanged k data (renewLease m s)) := by
    rw [exec_fclkWrite, execFclkWrite, regWrite_admits hadm, fclkEffect_inRange k.isLt hh hlo hhi]
  obtain ⟨hdiv, hen, hcur, hpend, hother, hout, hmem, hkeep⟩ :=
    divChanged_spec (s := renewLease m s) (k := k) (by rw [renewLease_pwr, hlen]; exact k.isLt) data
  rw [fclkFroze_renewLease, nextDue_renewLease, fclk_congr (renewLease_pwr m s)] at hpend
  rw [fld_renewLease m s CLK_FCLKk_CUR_DIV k 0 0 (key_ne_leaseKey (by decide) k 0 0)] at hcur
  refine ⟨_, hexec, hdiv, hen, hcur, hpend, fun j hj => (hother j hj).trans (fclk_congr (renewLease_pwr m s) j),
    hout.trans (renewLease_out m s), hmem.trans (renewLease_mem m s), ?_⟩
  exact regsKeep_trans (regsKeep_mono (by simp) (renewLease_regsKeep m s)) (regsKeep_mono (by simp) hkeep)

theorem fclk_write_outOfRange {m : Ident} {k : Fin 24} (hadm : s.admits m .CLK_FCLKk [k.val])
    (hr : bits data 0 13 < 16 ∨ 4096 < bits data 0 13) : exec (.fclkWrite m k h data) s = .next (renewLease m s) := by
  rw [exec_fclkWrite, execFclkWrite, regWrite_admits hadm, fclkEffect, if_pos (.inr hr)]

/-! ### User oscillators -/

theorem uoscEffect_spec (k : Nat) (hh : h ≠ .high) (s : State) :
    (uoscEffect k h data s).fld CLK_UOSCk_EN k = bits data 0 1 ∧
      (uoscEffect k h data s).fld CLK_UOSCk_READY k =
        (if bits data 0 1 = s.fld CLK_UOSCk_EN k then s.fld CLK_UOSCk_READY k else 0) ∧
      (uoscEffect k h data s).fld CLK_UOSCk_MEAS_HZ k = s.fld CLK_UOSCk_MEAS_HZ k ∧
      onlyRegs [CLK_UOSCk_EN.key k 0 0] s (uoscEffect k h data s) := by
  unfold uoscEffect
  rw [wfield_low hh data (f := CLK_UOSCk_EN) (by decide) (by decide)]
  dsimp only
  split
  · rename_i hsame
    exact ⟨hsame.symm, (if_pos hsame).symm, rfl, rfl, regsKeep_refl _ s⟩
  · rename_i hdiff
    refine ⟨?_, ?_, ?_, onlyRegs_after_setFld _ _ _ 0 0 (onlyRegs_after_setFld _ _ _ 0 0 ⟨rfl, regsKeep_refl _ s⟩ (.head _)) (.head _)⟩
    · rw [fld_setFld_beside _ CLK_UOSCk_READY CLK_UOSCk_EN]
      exact fld_setFld_fits s CLK_UOSCk_EN k 0 0 (bits_lt data 0 1)
    · rw [if_neg (show ¬ bits data 0 1 = s.fld CLK_UOSCk_EN k from hdiff)]
      exact fld_setFld_fits _ CLK_UOSCk_READY k 0 0 (by decide)
    · rw [fld_setFld_beside _ CLK_UOSCk_READY CLK_UOSCk_MEAS_HZ, fld_setFld_beside _ CLK_UOSCk_EN CLK_UOSCk_MEAS_HZ]

theorem uosc_write {m : Ident} {k : Fin 4} {c : Instr} (hadm : s.admits m .CLK_UOSCk [k.val]) (hh : h ≠ .high)
    (hc : c ∈ [Instr.uoscEnable m k h data, .uoscDisable m k h data]) :
    ∃ u, exec c s = .next u ∧ u.fld CLK_UOSCk_EN k = bits data 0 1 ∧
      u.fld CLK_UOSCk_READY k = (if bits data 0 1 = s.fld CLK_UOSCk_EN k then s.fld CLK_UOSCk_READY k else 0) ∧
      u.fld CLK_UOSCk_MEAS_HZ k = s.fld CLK_UOSCk_MEAS_HZ k ∧ onlyRegs [leaseKey, CLK_UOSCk_EN.key k 0 0] s u := by
  have hexec : exec c s = .next (uoscEffect k h data (renewLease m s)) := by
    rw [← regWrite_admits hadm h (uoscEffect k h data)]
    simp only [List.mem_cons, List.not_mem_nil, or_false] at hc
    rcases hc with rfl | rfl
    · exact exec_uoscEnable m k h data s
    · exact exec_uoscDisable m k h data s
  have hlease : ∀ f : Field, leaseKey < f.off → (renewLease m s).fld f k = s.fld f k :=
    fun f hf => fld_renewLease m s f k 0 0 (key_ne_leaseKey hf k 0 0)
  obtain ⟨hen, hready, hmeas, hregs⟩ := uoscEffect_spec (h := h) (data := data) k hh (renewLease m s)
  rw [hlease CLK_UOSCk_EN (by decide), hlease CLK_UOSCk_READY (by decide)] at hready
  rw [hlease CLK_UOSCk_MEAS_HZ (by decide)] at hmeas
  exact ⟨_, hexec, hen, hready, hmeas,
    onlyRegs_trans (onlyRegs_mono (by simp) (onlyRegs_renewLease m s)) (onlyRegs_mono (by simp) hregs)⟩

theorem uosc_ready {k : Fin 4} (hon : s.on CLK_UOSCk_EN k = true) (hiso : s.pwr.isolated = false) :
    ∃ u, exec (.uoscReady k) s = .next u ∧ u.fld CLK_UOSCk_READY k = 1 ∧ onlyRegs [CLK_UOSCk_READY.key k 0 0] s u := by
  refine ⟨s.setFld CLK_UOSCk_READY 1 k, ?_, fld_setFld_fits s CLK_UOSCk_READY k 0 0 (by decide),
    onlyRegs_after_setFld _ _ _ 0 0 ⟨rfl, regsKeep_refl _ s⟩ (.head _)⟩
  rw [exec_uoscReady, execUoscReady, if_pos ⟨hon, by simp [hiso]⟩]

/-- The measurement of one oscillator. -/
def measureOne (hz : List Nat) (s : State) (k : Nat) : State :=
  if s.on CLK_UOSCk_READY k then s.setFld CLK_UOSCk_MEAS_HZ (hz.getD k 0) k else s

theorem measureOne_ready (hz : List Nat) (s : State) (k j : Nat) : (measureOne hz s k).on CLK_UOSCk_READY j = s.on CLK_UOSCk_READY j := by
  unfold measureOne State.on
  split
  · rw [fld_setFld_beside _ CLK_UOSCk_MEAS_HZ CLK_UOSCk_READY]
  · rfl

theorem measureOne_meas (hz : List Nat) (s : State) (k j : Nat) : (measureOne hz s k).fld CLK_UOSCk_MEAS_HZ j =
    if j = k ∧ s.on CLK_UOSCk_READY k then hz.getD k 0 % 2 ^ 32 else s.fld CLK_UOSCk_MEAS_HZ j := by
  unfold measureOne
  split
  · rename_i hon
    by_cases hj : j = k
    · subst hj
      rw [if_pos ⟨rfl, hon⟩]
      exact fld_setFld_same s CLK_UOSCk_MEAS_HZ _ j 0 0 (by unfold Field.good; decide)
    · rw [if_neg (fun hn => hj hn.1), fld_setFld_elsewhere _ CLK_UOSCk_MEAS_HZ CLK_UOSCk_MEAS_HZ]
      simp only [Field.key, CLK_UOSCk_MEAS_HZ]
      omega
  · rename_i hon
    rw [if_neg (fun hn => hon hn.2)]

theorem measureAll_spec (hz : List Nat) : ∀ (l : List Nat) (s : State),
    (∀ j, (l.foldl (measureOne hz) s).fld CLK_UOSCk_MEAS_HZ j =
      if j ∈ l ∧ s.on CLK_UOSCk_READY j then hz.getD j 0 % 2 ^ 32 else s.fld CLK_UOSCk_MEAS_HZ j) ∧
    onlyRegs (l.map (fun k => CLK_UOSCk_MEAS_HZ.key k 0 0)) s (l.foldl (measureOne hz) s)
  | [], s => ⟨fun _ => by simp, rfl, regsKeep_refl _ s⟩
  | k :: l, s => by
    obtain ⟨hmeas, hregs⟩ := measureAll_spec hz l (measureOne hz s k)
    refine ⟨fun j => ?_, onlyRegs_trans ?_ (onlyRegs_mono (fun _ hx => .tail _ hx) hregs)⟩
    · rw [List.foldl_cons, hmeas, measureOne_ready, measureOne_meas]
      by_cases hj : j = k
      · subst hj
        by_cases hon : s.on CLK_UOSCk_READY j <;> simp [hon]
      · simp [hj]
    · unfold measureOne
      split
      · exact onlyRegs_after_setFld _ _ _ 0 0 ⟨rfl, regsKeep_refl _ s⟩ (.head _)
      · exact ⟨rfl, regsKeep_refl _ s⟩

theorem uosc_measure {hz : List Nat} (hroot : s.rootRuns = true) :
    ∃ u, exec (.uoscMeasure hz) s = .next u ∧ (∀ k, k < 4 → u.fld CLK_UOSCk_MEAS_HZ k =
        if s.on CLK_UOSCk_READY k then hz.getD k 0 % 2 ^ 32 else s.fld CLK_UOSCk_MEAS_HZ k) ∧
      onlyRegs ((List.range 4).map (fun k => CLK_UOSCk_MEAS_HZ.key k 0 0)) s u := by
  have hexec : exec (.uoscMeasure hz) s = .next ((List.range 4).foldl (measureOne hz) s) := by
    rw [exec_uoscMeasure, execUoscMeasure, if_neg (by simp [hroot])]
    rfl
  obtain ⟨hmeas, hregs⟩ := measureAll_spec hz (List.range 4) s
  refine ⟨_, hexec, fun k hk => ?_, hregs⟩
  rw [hmeas]
  simp [List.mem_range.mpr hk]

/-! ### A root cycle of the fabric -/

/-- The flip-flops and slice registers of the fabric stay. -/
def SameCells (u v : State) : Prop := v.logic.flops = u.logic.flops ∧ v.logic.slices = u.logic.slices

theorem SameCells.refl (u : State) : SameCells u u := ⟨rfl, rfl⟩

theorem SameCells.trans {u v x : State} (h : SameCells u v) (h' : SameCells v x) : SameCells u x := by
  obtain ⟨hf, hs⟩ := h
  obtain ⟨hf', hs'⟩ := h'
  exact ⟨hf'.trans hf, hs'.trans hs⟩

theorem SameCells.ite {p : Prop} [Decidable p] {u v x : State} (h : SameCells u v) (h' : SameCells u x) :
    SameCells u (if p then v else x) := by
  split
  · exact h
  · exact h'

theorem SameCells.writeBram {u v : State} (h : SameCells u v) (n a d : Nat) : SameCells u (writeBram n a d v) :=
  h.trans (.ite (.refl v) ⟨rfl, rfl⟩)

theorem SameCells.setBramPort {u v : State} (h : SameCells u v) (n : Nat) (b : Bool) (p : BramPort) :
    SameCells u (setBramPort n b p v) := h.trans ⟨rfl, rfl⟩

theorem SameCells.clockBram {u v o : State} {lv : FabNode → Bool} {t b : Nat} (h : SameCells u v) :
    SameCells u (clockBram o lv t v b) := by
  unfold Machine.clockBram
  extract_lets n line edge acc write meet same aFirst other got both u1 u2
  have hwrite (p : Bool) {x : State} (hx : SameCells u x) : SameCells u (write p x) := by
    unfold write
    split
    · exact hx.writeBram _ _ _
    · exact hx
  have h1 : SameCells u u1 := .ite (hwrite _ h) (.ite (hwrite _ h) (.ite (hwrite _ h) (hwrite _ (hwrite _ h))))
  have h2 : SameCells u u2 := .ite (h1.setBramPort _ _ _) h1
  exact .ite (h2.setBramPort _ _ _) h2

theorem SameCells.clockBrams {u v o : State} {lv : FabNode → Bool} {t : Nat} (h : SameCells u v) (l : List Nat) :
    SameCells u (l.foldl (Machine.clockBram o lv t) v) := by
  induction l generalizing v with
  | nil => exact h
  | cons b l ih => exact ih h.clockBram

/-- The flip-flops of a target as a state holds them. -/
def State.flopsOf (u : State) (t : Nat) : List Nat := Memory.get (fun _ => []) u.logic.flops t

theorem clockSlice_flops (o : State) (lv : FabNode → Bool) (t : Nat) (u : State) (n : Nat) :
    (clockSlice o lv t u n).logic.flops = u.logic.flops := by
  unfold clockSlice
  split <;> rfl

theorem clockSlices_flops (o : State) (lv : FabNode → Bool) (t : Nat) (l : List Nat) (u : State) :
    (l.foldl (clockSlice o lv t) u).logic.flops = u.logic.flops := by
  induction l generalizing u with
  | nil => rfl
  | cons n l ih => exact (ih _).trans (clockSlice_flops o lv t u n)

theorem clockTarget_flops (o : State) (lv : FabNode → Bool) (t : Nat) (u : State) :
    (clockTarget o lv u t).logic.flops = (clockFlops o lv t u).logic.flops := by
  obtain ⟨hflops, -⟩ := (SameCells.refl ((List.range (slicesOf t)).foldl (clockSlice o lv t) (clockFlops o lv t u))).clockBrams
    (o := o) (lv := lv) (t := t) (List.range (bramSpan t).2)
  exact hflops.trans (clockSlices_flops o lv t _ _)

theorem clockTarget_flopsOf (o : State) (lv : FabNode → Bool) (t : Nat) (u : State) (j : Nat) :
    (clockTarget o lv u t).flopsOf j =
      if j = t then (List.range (cellsOf t)).filter (o.flopNext lv t) else u.flopsOf j := by
  unfold State.flopsOf
  rw [clockTarget_flops]
  split
  · rename_i hj
    subst hj
    exact Memory.get_set_same _ _ _
  · rename_i hj
    exact Memory.get_set_other _ hj _

/-- A slice's register at its number. -/
def State.sliceAt (u : State) (k : Nat) : SliceRegs := Memory.get (fun _ => SliceRegs.reset) u.logic.slices k

theorem clockSlice_sliceAt (o : State) (lv : FabNode → Bool) (t : Nat) (u : State) (n k : Nat) :
    (clockSlice o lv t u n).sliceAt k =
      if k = sliceNumber t n ∧ o.lineEdge lv t (o.item t (.sliceLine n) % 32) then o.sliceNext lv t n else u.sliceAt k := by
  unfold clockSlice
  split
  · rename_i hedge
    by_cases hk : k = sliceNumber t n
    · rw [if_pos ⟨hk, hedge⟩, hk]
      exact Memory.get_set_same _ _ _
    · rw [if_neg (fun hn => hk hn.1)]
      exact Memory.get_set_other _ hk _
  · rename_i hedge
    rw [if_neg (fun hn => hedge hn.2)]

/-- The slices of a target, clocked in turn: each takes its own next value. -/
theorem clockSlices_sliceAt (o : State) (lv : FabNode → Bool) (t n : Nat) : ∀ (l : List Nat) (u : State),
    (l.foldl (clockSlice o lv t) u).sliceAt (sliceNumber t n) =
      if n ∈ l ∧ o.lineEdge lv t (o.item t (.sliceLine n) % 32) then o.sliceNext lv t n else u.sliceAt (sliceNumber t n)
  | [], u => by simp
  | x :: l, u => by
    have hnum : sliceNumber t n = sliceNumber t x ↔ n = x := by
      unfold sliceNumber
      omega
    rw [List.foldl_cons, clockSlices_sliceAt o lv t n l, clockSlice_sliceAt]
    simp only [hnum]
    by_cases hx : n = x
    · subst hx
      by_cases hedge : o.lineEdge lv t (o.item t (.sliceLine n) % 32) <;> simp [hedge]
    · simp [hx]

/-- The slices of one target have no number of another target. -/
theorem clockSlices_elsewhere (o : State) (lv : FabNode → Bool) (t k : Nat) : ∀ (l : List Nat) (u : State),
    (∀ n ∈ l, k ≠ sliceNumber t n) → (l.foldl (clockSlice o lv t) u).sliceAt k = u.sliceAt k
  | [], _, _ => rfl
  | x :: l, u, h => by
    rw [List.foldl_cons, clockSlices_elsewhere o lv t k l _ (fun n hn => h n (.tail _ hn)), clockSlice_sliceAt,
      if_neg (fun hn => h x (.head _) hn.1)]

theorem clockTarget_sliceAt (o : State) (lv : FabNode → Bool) (t : Nat) (u : State) (k : Nat) : (clockTarget o lv u t).sliceAt k =
    ((List.range (slicesOf t)).foldl (clockSlice o lv t) (clockFlops o lv t u)).sliceAt k := by
  obtain ⟨-, hslices⟩ := (SameCells.refl ((List.range (slicesOf t)).foldl (clockSlice o lv t) (clockFlops o lv t u))).clockBrams
    (o := o) (lv := lv) (t := t) (List.range (bramSpan t).2)
  unfold State.sliceAt
  exact congrArg (fun l => Memory.get _ l k) hslices

/-- The targets' slice numbers do not overlap. -/
theorem sliceNumber_apart {t t' n n' : Nat} (ht : t < 65) (ht' : t' < 65) (hne : t ≠ t') (hn : n < slicesOf t)
    (hn' : n' < slicesOf t') : sliceNumber t n ≠ sliceNumber t' n' := by
  unfold slicesOf at hn hn'
  unfold sliceNumber
  split at hn <;> split at hn' <;> omega

/-- The targets of a list without repetition, clocked in turn: a target's cells are as its own cycle leaves them. -/
theorem clockTargets_spec (o : State) (lv : FabNode → Bool) {t n : Nat} (ht : t < 65) (hn : n < slicesOf t) :
    ∀ (l : List Nat) (u : State), l.Nodup → (∀ x ∈ l, x < 65) →
      (l.foldl (clockTarget o lv) u).flopsOf t =
        (if t ∈ l then (List.range (cellsOf t)).filter (o.flopNext lv t) else u.flopsOf t) ∧
      (l.foldl (clockTarget o lv) u).sliceAt (sliceNumber t n) =
        (if t ∈ l ∧ o.lineEdge lv t (o.item t (.sliceLine n) % 32) then o.sliceNext lv t n else u.sliceAt (sliceNumber t n))
  | [], u, _, _ => ⟨by simp, by simp⟩
  | x :: l, u, hnd, hlt => by
    obtain ⟨hx, hl⟩ := List.nodup_cons.mp hnd
    obtain ⟨hflops, hslice⟩ := clockTargets_spec o lv ht hn l (clockTarget o lv u x) hl (fun y hy => hlt y (.tail _ hy))
    rw [List.foldl_cons, hflops, hslice, clockTarget_flopsOf, clockTarget_sliceAt]
    by_cases hxt : t = x
    · subst hxt
      rw [clockSlices_sliceAt]
      refine ⟨by simp, ?_⟩
      by_cases hedge : o.lineEdge lv t (o.item t (.sliceLine n) % 32)
      · simp [hedge, List.mem_range.mpr hn]
      · rw [if_neg (fun h => hedge h.2), if_neg (fun h => hedge h.2), if_neg (fun h => hedge h.2)]
        rfl
    · rw [clockSlices_elsewhere _ _ _ _ _ _ (fun n' hn' =>
        sliceNumber_apart ht (hlt x (.head _)) hxt hn (List.mem_range.mp hn'))]
      refine ⟨by simp [hxt], ?_⟩
      simp only [List.mem_cons, hxt, false_or]
      rfl

/-- A root cycle in which the clock lines of target `t` may run. -/
theorem fabricCycle_cells (s : State) {t : Nat} (ht : t < 65) (hrun : s.linesRun t = true) :
    (∀ c, c < cellsOf t → ((fabricCycle s).flopsOf t).contains c = s.flopNext s.level t c) ∧
    (∀ n, n < slicesOf t → (fabricCycle s).slice t n =
      if s.lineEdge s.level t (s.item t (.sliceLine n) % 32) then s.sliceNext s.level t n else s.slice t n) ∧
    (fabricCycle s).logic.clock = s.logic.clock + 1 := by
  have hmem : t ∈ allTargets.filter s.linesRun := List.mem_filter.mpr ⟨List.mem_range.mpr ht, hrun⟩
  have hnd : (allTargets.filter s.linesRun).Nodup := List.Nodup.filter _ List.nodup_range
  have hlt : ∀ x ∈ allTargets.filter s.linesRun, x < 65 := fun x hx => List.mem_range.mp (List.mem_filter.mp hx).1
  refine ⟨fun c hc => ?_, fun n hn => ?_, rfl⟩
  · have hpos : 0 < slicesOf t := by
      unfold slicesOf
      split <;> decide
    obtain ⟨hflops, -⟩ := clockTargets_spec s s.level ht hpos _ s hnd hlt
    have hfab : (fabricCycle s).flopsOf t = ((allTargets.filter s.linesRun).foldl (clockTarget s s.level) s).flopsOf t := rfl
    rw [hfab, hflops, if_pos hmem]
    rw [Bool.eq_iff_iff, List.contains_iff_mem, List.mem_filter, List.mem_range]
    exact ⟨fun h => h.2, fun h => ⟨hc, h⟩⟩
  · obtain ⟨-, hslice⟩ := clockTargets_spec s s.level ht hn _ s hnd hlt
    have hfab : (fabricCycle s).slice t n =
        ((allTargets.filter s.linesRun).foldl (clockTarget s s.level) s).sliceAt (sliceNumber t n) := rfl
    rw [hfab, hslice]
    simp only [hmem, true_and]
    rfl

/-- Settles O33. -/
theorem dividersAndOscillators : Obligations.DividersAndOscillators := by
  refine ⟨fun m k h data s => fclk_write, fun m k h data s => fclk_write_outOfRange, fun m k h data c s => uosc_write,
    fun k s => uosc_ready, fun hz s => uosc_measure, fun t s hpend hroot hin hshot hrun => ?_⟩
  obtain ⟨⟨heq, -⟩, -, -⟩ := passTime_one s
  have hany : allTargets.any s.linesRun = true := List.any_eq_true.mpr ⟨t, List.mem_range.mpr t.isLt, hrun⟩
  have hfabric : passFabric 1 s = fabricCycle s := if_pos hany
  have hfab : FabricOnly s (fabricCycle s) := fabricCycle_fabricOnly s
  have hlogic : (passTime 1 s).logic = (fabricCycle s).logic := by
    rw [heq, hfabric]
  have hout : (passTime 1 s).out = s.out := by
    rw [heq, hfabric, hfab]
  obtain ⟨hflops, hslices, hclock⟩ := fabricCycle_cells s t.isLt hrun
  refine ⟨(passTime 1 s).modTck (fun t => { t with phase := t.phase + 1 }), ?_, fun c hc => ?_, fun n hn => ?_, ?_, hout⟩
  · rw [step, hpend]
    exact congrArg _ (idleCycle_within hroot hin hshot)
  · rw [modTck_logic, hlogic]
    exact hflops c hc
  · refine Eq.trans ?_ (hslices n hn)
    unfold State.slice
    rw [modTck_logic, hlogic]
  · rw [modTck_logic, hlogic, hclock]

end Sys2Proof.Machine
end

section
-- One proof at a time: the memory limit of the check counts a stack for every proof that waits for another.
set_option Elab.async false
/-! SUPPORT. The serial ports: a port after an update, and what an operation on one port leaves unchanged (R344 to R353). -/

namespace Sys2Proof.Machine

variable {n : Nat} {l : List Nat} {s t u : State}

theorem port_modSer_same (s : State) (n : Nat) (f : SerPort → SerPort) : (s.modSer n f).port n = f (s.port n) :=
  Memory.get_set_same n _ s.ser

theorem port_modSer_other (s : State) {n j : Nat} (f : SerPort → SerPort) (h : j ≠ n) : (s.modSer n f).port j = s.port j :=
  Memory.get_set_other _ h s.ser

theorem port_congr (h : t.ser = s.ser) (n : Nat) : t.port n = s.port n := by
  unfold State.port
  rw [h]

@[simp] theorem port_setFld (s : State) (f : Field) (v i j k n : Nat) : (s.setFld f v i j k).port n = s.port n := rfl

@[simp] theorem port_setReg (s : State) (key : Nat) (v : Word) (n : Nat) : (s.setReg key v).port n = s.port n := rfl

@[simp] theorem port_emit (s : State) (o : Out) (n : Nat) : (s.emit o).port n = s.port n := rfl

@[simp] theorem port_renewLease (m : Ident) (s : State) (n : Nat) : (renewLease m s).port n = s.port n :=
  port_congr (renewLease_ser m s) n

@[simp] theorem modSer_out (s : State) (n : Nat) (f : SerPort → SerPort) : (s.modSer n f).out = s.out := rfl

@[simp] theorem modSer_mem (s : State) (n : Nat) (f : SerPort → SerPort) : (s.modSer n f).mem = s.mem := rfl

/-- Two registers of one port. -/
theorem port_key_ne {f g : Field} (n : Nat) (h : f.off ≠ g.off := by decide) (hf : f.s1 = 0x1000 := by rfl)
    (hg : g.s1 = 0x1000 := by rfl) : f.key n 0 0 ≠ g.key n 0 0 := by
  simp only [Field.key, hf, hg]
  omega

/-- A field that is not a level reads as before an update of the port. -/
theorem modSer_fld (s : State) (n : Nat) (f : SerPort → SerPort) (g : Field) (i j k : Nat)
    (h : g.key i j k ≠ SER_STATUS_TX_LEVEL.key n 0 0 ∨ 15 ≤ g.lo) : (s.modSer n f).fld g i j k = s.fld g i j k := by
  unfold State.modSer syncPort
  refine (fld_setFld_other _ SER_STATUS_RX_LEVEL g _ n 0 0 i j k (by unfold Field.good; decide) ?_).trans
    ((fld_setFld_other _ SER_STATUS_TX_LEVEL g _ n 0 0 i j k (by unfold Field.good; decide) ?_).trans rfl)
  · exact h.imp id fun hlo => .inr hlo
  · exact h.imp id fun hlo => .inr (Nat.le_trans (by decide) hlo)

/-- The levels after an update of a port in another mode than CANFD. -/
theorem modSer_levels (s : State) (n : Nat) (f : SerPort → SerPort) (h : s.serMode n ≠ 6) :
    (s.modSer n f).fld SER_STATUS_TX_LEVEL n = (f (s.port n)).tx.length % 2 ^ 7 ∧
      (s.modSer n f).fld SER_STATUS_RX_LEVEL n = (f (s.port n)).rx.length % 2 ^ 7 := by
  have hport : ({ s with ser := Memory.set (fun _ => SerPort.reset) s.ser n (f (s.port n)) } : State).port n = f (s.port n) :=
    Memory.get_set_same n _ s.ser
  have hmode : ({ s with ser := Memory.set (fun _ => SerPort.reset) s.ser n (f (s.port n)) } : State).serMode n ≠ 6 := h
  unfold State.modSer syncPort
  dsimp only
  rw [hport, if_neg (by simp [hmode]), if_neg (by simp [hmode]), fld_setFld_beside _ SER_STATUS_RX_LEVEL SER_STATUS_TX_LEVEL,
    fld_setFld_same _ SER_STATUS_TX_LEVEL _ n 0 0 (by unfold Field.good; decide),
    fld_setFld_same _ SER_STATUS_RX_LEVEL _ n 0 0 (by unfold Field.good; decide)]
  exact ⟨rfl, rfl⟩

theorem portKept_refl (n : Nat) (l : List Nat) (s : State) : portKept n l s s := ⟨rfl, fun _ _ => rfl, regsKeep_refl _ s⟩

theorem portKept_trans (h : portKept n l s t) (h' : portKept n l t u) : portKept n l s u := by
  obtain ⟨hrest, hports, hkeep⟩ := h
  obtain ⟨hrest', hports', hkeep'⟩ := h'
  refine ⟨?_, fun j hj => (hports' j hj).trans (hports j hj), regsKeep_trans hkeep hkeep'⟩
  rw [hrest', hrest]

theorem portKept_setFld (h : portKept n l s t) (f : Field) (v i : Nat) (hk : f.key i 0 0 ∈ SER_STATUS_TX_LEVEL.key n 0 0 :: l) :
    portKept n l s (t.setFld f v i) :=
  portKept_trans h ⟨rfl, fun _ _ => rfl, regsKeep_after_setFld f v i 0 0 (regsKeep_refl _ t) hk⟩

theorem portKept_setReg (h : portKept n l s t) {key : Nat} (v : Word) (hk : key ∈ l) : portKept n l s (t.setReg key v) :=
  portKept_trans h ⟨rfl, fun _ _ => rfl, regsKeep_mono (by simpa using .inr hk) (regsKeep_setReg t key v)⟩

theorem portKept_modSer (h : portKept n l s t) (f : SerPort → SerPort) : portKept n l s (t.modSer n f) := by
  refine portKept_trans h ⟨rfl, fun j hj => port_modSer_other t f hj, ?_⟩
  unfold State.modSer syncPort
  exact regsKeep_after_setFld SER_STATUS_RX_LEVEL _ n 0 0
    (regsKeep_after_setFld SER_STATUS_TX_LEVEL _ n 0 0 (fun _ _ => rfl) (.head _)) (.head _)

theorem portKept_renewLease (m : Ident) (s : State) (hl : leaseKey ∈ l) : portKept n l s (renewLease m s) :=
  ⟨by rw [renewLease_rest], fun j _ => port_renewLease m s j,
    regsKeep_mono (by simpa using .inr hl) (renewLease_regsKeep m s)⟩

/-- A field of a serial port is not touched by the lease. -/
theorem fld_renewLease_port (m : Ident) (s : State) (f : Field) (i : Nat) (hf : leaseKey < f.off := by decide) :
    (renewLease m s).fld f i = s.fld f i := fld_renewLease m s f i 0 0 (key_ne_leaseKey hf i 0 0)

theorem serMayWrite_renewLease (m k : Ident) (n : Nat) (s : State) : serMayWrite k n (renewLease m s) = serMayWrite k n s := by
  unfold serMayWrite State.on
  rw [renewLease_isOwner, fld_renewLease_port m s SER_ASSIGN_MASK, fld_renewLease_port m s SER_ASSIGN_MATCH]

/-- A write that passes R639 and R642 meets the port's guard (R346). -/
theorem serFront_open {m : Ident} {off : Nat} (hd : s.dark = false) (hb : s.blockOpen off = true) (h : Half) (eff : State → State) :
    serFront m n off h eff s =
      if serMayWrite m n s then eff (renewLease m s) else violation m .area true (off + h.skip) (renewLease m s) := by
  unfold serFront writeFront
  rw [if_neg (by simp [hd])]
  dsimp only
  rw [renewLease_blockOpen, if_neg (by simp [hb]), serMayWrite_renewLease]

theorem serFront_admits {m : Ident} {off : Nat} (hadm : serAdmits s m n off) (h : Half) (eff : State → State) :
    serFront m n off h eff s = eff (renewLease m s) := by
  obtain ⟨hd, hb, hmay⟩ := hadm
  rw [serFront_open hd hb, if_pos hmay]

end Sys2Proof.Machine
end

section
-- One proof at a time: the memory limit of the check counts a stack for every proof that waits for another.
set_option Elab.async false
/-! SUPPORT. The registers of the serial ports: SER_CTL, the change of mode, SER_TX and SER_RX (R345, R347, R353). -/

namespace Sys2Proof.Machine

variable {n : Nat} {s : State} {m : Ident} {h : Half} {data : Word}

/-! ### SER_CTL and the change of mode -/

/-- What a write stores in SER_CTL: every field but MODE. -/
def ctlStored (n : Nat) (data : Word) (s : State) : Word :=
  serCtlValue (setBits (data &&& 0x7FFFFFFF) 0 3 (bits (s.reg (SER_CTL_MODE.key n 0 0)) 0 3))

/-- The value apart from PARITY and I2C_SPEED is as written. -/
theorem serCtlValue_bits (v : Word) {lo w : Nat} (h : lo + w ≤ 10 ∨ 12 ≤ lo ∧ lo + w ≤ 29) : bits (serCtlValue v) lo w = bits v lo w := by
  unfold serCtlValue
  dsimp only
  split <;> split <;>
    simp only [bits_setBits_other _ 10 2 _ lo w (by decide) (by omega), bits_setBits_other _ 29 2 _ lo w (by decide) (by omega)]

theorem serCtlValue_parity (v : Word) : bits (serCtlValue v) 10 2 = if bits v 10 2 = 3 then 0 else bits v 10 2 := by
  unfold serCtlValue
  dsimp only
  split <;> split <;>
    simp only [bits_setBits_other _ 29 2 _ 10 2 (by decide) (by decide), bits_setBits_same _ 10 2 _ (by decide)] <;> rfl

/-- The low 31 bits of the data, with MODE replaced. -/
theorem bits_ctlData (data : Word) (x : Nat) {lo w : Nat} (hlo : 3 ≤ lo) (hw : lo + w ≤ 31) :
    bits (setBits (data &&& 0x7FFFFFFF) 0 3 x) lo w = bits data lo w := by
  rw [bits_setBits_other _ 0 3 _ lo w (by decide) (by omega)]
  refine bits_and_mask fun i _ hi => ?_
  have hall : ∀ j : Fin 31, (0x7FFFFFFF : Word).getLsbD j = true := by decide
  exact hall ⟨i, by omega⟩

theorem ctlStored_fields (n : Nat) (data : Word) (s : State) : bits (ctlStored n data s) 0 3 = s.fld SER_CTL_MODE n ∧
    bits (ctlStored n data s) 5 5 = bits data 5 5 ∧ bits (ctlStored n data s) 14 4 = bits data 14 4 ∧
    bits (ctlStored n data s) 18 10 = bits data 18 10 ∧
    bits (ctlStored n data s) 10 2 = if bits data 10 2 = 3 then 0 else bits data 10 2 := by
  unfold ctlStored
  refine ⟨?_, ?_, ?_, ?_, ?_⟩
  · rw [serCtlValue_bits _ (by decide), bits_setBits_same _ 0 3 _ (by decide)]
    exact Nat.mod_eq_of_lt (bits_lt _ 0 3)
  · rw [serCtlValue_bits _ (by decide), bits_ctlData data _ (by decide) (by decide)]
  · rw [serCtlValue_bits _ (by decide), bits_ctlData data _ (by decide) (by decide)]
  · rw [serCtlValue_bits _ (by decide), bits_ctlData data _ (by decide) (by decide)]
  · rw [serCtlValue_parity, bits_ctlData data _ (by decide) (by decide)]

/-- The mode change that waits after a write of SER_CTL (R345). -/
def modeWaiting (n : Nat) (data : Word) (s : State) : Option Nat :=
  if bits data 0 3 = 7 then (s.port n).pendMode else if bits data 0 3 = s.serMode n then none else some (bits data 0 3)

theorem serCtlEffect_spec (hh : h ≠ .high) (n : Nat) (data : Word) (s : State) :
    portKept n [SER_CTL_MODE.key n 0 0] s (serCtlEffect n h data s) ∧
      (serCtlEffect n h data s).port n = { s.port n with pendMode := modeWaiting n data s } ∧
      ∀ f : Field, f.off = SER_CTL_MODE.off → f.s1 = 0x1000 → (serCtlEffect n h data s).fld f n = bits (ctlStored n data s) f.lo f.w := by
  have hset : ∀ f : Field, f.off = SER_CTL_MODE.off → f.s1 = 0x1000 →
      (s.setReg (SER_CTL_MODE.key n 0 0) (ctlStored n data s)).fld f n = bits (ctlStored n data s) f.lo f.w := by
    intro f hoff hs
    have hkey : f.key n 0 0 = SER_CTL_MODE.key n 0 0 := by
      simp only [Field.key, hoff, hs, Nat.mul_zero]
      rfl
    unfold State.fld
    rw [hkey, reg_setReg_same]
  have hkept := portKept_setReg (portKept_refl n [SER_CTL_MODE.key n 0 0] s) (ctlStored n data s) (.head _)
  have heff : serCtlEffect n h data s = if bits data 0 3 = 7 then s.setReg (SER_CTL_MODE.key n 0 0) (ctlStored n data s)
      else (s.setReg (SER_CTL_MODE.key n 0 0) (ctlStored n data s)).modSer n
        (fun p => { p with pendMode := if bits data 0 3 = s.serMode n then none else some (bits data 0 3) }) := by
    unfold serCtlEffect
    rw [if_neg hh]
    rfl
  rw [heff]
  unfold modeWaiting
  split
  · rename_i h7
    exact ⟨hkept, rfl, hset⟩
  · rename_i h7
    refine ⟨portKept_modSer hkept _, port_modSer_same _ _ _, fun f hoff hs => ?_⟩
    rw [modSer_fld _ _ _ _ _ _ _ (.inl (port_key_ne n (by rw [hoff]; decide) hs rfl)), hset f hoff hs]

theorem mode_write {n : Fin 16} (hadm : serAdmits s m n (SER_CTL_MODE.key n 0 0)) (hh : h ≠ .high) :
    ∃ u, exec (.serModeWrite m n h data) s = .next u ∧ u.fld SER_CTL_MODE n = s.fld SER_CTL_MODE n ∧
      u.fld SER_CTL_WIDTH n = bits data 5 5 ∧ u.fld SER_CTL_BRK_LEN n = bits data 14 4 ∧ u.fld SER_CTL_ADDR n = bits data 18 10 ∧
      u.fld SER_CTL_PARITY n = (if bits data 10 2 = 3 then 0 else bits data 10 2) ∧
      (u.port n).tx = (s.port n).tx ∧ (u.port n).rx = (s.port n).rx ∧
      (u.port n).pendMode = (if bits data 0 3 = 7 then (s.port n).pendMode
        else if bits data 0 3 = s.serMode n then none else some (bits data 0 3)) ∧
      portKept n [leaseKey, SER_CTL_MODE.key n 0 0] s u := by
  have hexec : exec (.serModeWrite m n h data) s = .next (serCtlEffect n h data (renewLease m s)) := by
    rw [exec_serModeWrite, execSerModeWrite, serFront_admits hadm]
  obtain ⟨⟨hrest, hports, hkeep⟩, hport, hfld⟩ := serCtlEffect_spec hh n data (renewLease m s)
  obtain ⟨hmode, hwidth, hbrk, haddr, hpar⟩ := ctlStored_fields n data (renewLease m s)
  rw [fld_renewLease_port m s SER_CTL_MODE] at hmode
  refine ⟨_, hexec, (hfld SER_CTL_MODE rfl rfl).trans hmode, (hfld SER_CTL_WIDTH rfl rfl).trans hwidth,
    (hfld SER_CTL_BRK_LEN rfl rfl).trans hbrk, (hfld SER_CTL_ADDR rfl rfl).trans haddr, (hfld SER_CTL_PARITY rfl rfl).trans hpar, ?_, ?_, ?_, ?_⟩
  · rw [hport, port_renewLease]
  · rw [hport, port_renewLease]
  · rw [hport]
    unfold modeWaiting State.serMode
    rw [port_renewLease, fld_renewLease_port m s SER_CTL_MODE]
  · exact portKept_trans (portKept_renewLease m s (.head _)) ⟨hrest, hports, regsKeep_mono (by simp) hkeep⟩

/-- The port's error counters as a change of mode clears them. -/
def countersCleared (n mode : Nat) (s : State) : State :=
  (((s.setFld SER_CTL_MODE mode n).setFld SER_STATUS_TEC 0 n).setFld SER_STATUS_REC 0 n).setFld SER_STATUS_BUS_OFF 0 n

theorem countersCleared_spec (n : Nat) {mode : Nat} (hmode : mode < 7) (s : State) :
    (countersCleared n mode s).fld SER_CTL_MODE n = mode ∧ (countersCleared n mode s).fld SER_STATUS_TEC n = 0 ∧
      (countersCleared n mode s).fld SER_STATUS_REC n = 0 ∧ (countersCleared n mode s).fld SER_STATUS_BUS_OFF n = 0 ∧
      (countersCleared n mode s).fld SER_STATUS_TX_OVF n = s.fld SER_STATUS_TX_OVF n ∧
      portKept n [SER_CTL_MODE.key n 0 0] s (countersCleared n mode s) := by
  unfold countersCleared
  refine ⟨?_, ?_, ?_, ?_, ?_, ?_⟩
  · rw [fld_setFld_elsewhere _ SER_STATUS_BUS_OFF SER_CTL_MODE _ (port_key_ne n), fld_setFld_elsewhere _ SER_STATUS_REC SER_CTL_MODE _
      (port_key_ne n), fld_setFld_elsewhere _ SER_STATUS_TEC SER_CTL_MODE _ (port_key_ne n),
      fld_setFld_fits _ SER_CTL_MODE n 0 0 (by exact Nat.lt_succ_of_lt hmode)]
  · rw [fld_setFld_beside _ SER_STATUS_BUS_OFF SER_STATUS_TEC, fld_setFld_beside _ SER_STATUS_REC SER_STATUS_TEC,
      fld_setFld_fits _ SER_STATUS_TEC n 0 0 (by decide)]
  · rw [fld_setFld_beside _ SER_STATUS_BUS_OFF SER_STATUS_REC, fld_setFld_fits _ SER_STATUS_REC n 0 0 (by decide)]
  · rw [fld_setFld_fits _ SER_STATUS_BUS_OFF n 0 0 (by decide)]
  · rw [fld_setFld_beside _ SER_STATUS_BUS_OFF SER_STATUS_TX_OVF, fld_setFld_beside _ SER_STATUS_REC SER_STATUS_TX_OVF,
      fld_setFld_beside _ SER_STATUS_TEC SER_STATUS_TX_OVF, fld_setFld_elsewhere _ SER_CTL_MODE SER_STATUS_TX_OVF _ (port_key_ne n)]
  · refine portKept_setFld (portKept_setFld (portKept_setFld (portKept_setFld (portKept_refl n _ s) _ _ _ ?_) _ _ _ ?_) _ _ _ ?_) _ _ _ ?_
    · exact .tail _ (.head _)
    · exact .head _
    · exact .head _
    · exact .head _

/-- An empty port has the levels 0 in every mode. -/
theorem modSer_reset_levels (s : State) (n : Nat) : (s.modSer n (fun _ => SerPort.reset)).fld SER_STATUS_TX_LEVEL n = 0 ∧
    (s.modSer n (fun _ => SerPort.reset)).fld SER_STATUS_RX_LEVEL n = 0 := by
  have hport : ({ s with ser := Memory.set (fun _ => SerPort.reset) s.ser n SerPort.reset } : State).port n = SerPort.reset :=
    Memory.get_set_same n _ s.ser
  unfold State.modSer syncPort
  dsimp only
  rw [hport, fld_setFld_beside _ SER_STATUS_RX_LEVEL SER_STATUS_TX_LEVEL,
    fld_setFld_same _ SER_STATUS_TX_LEVEL _ n 0 0 (by unfold Field.good; decide),
    fld_setFld_same _ SER_STATUS_RX_LEVEL _ n 0 0 (by unfold Field.good; decide)]
  constructor <;> split <;> rfl

theorem mode_apply {n : Fin 16} {mode : Nat} (hp : (s.port n).pendMode = some mode) (hmode : mode < 7) :
    ∃ u, exec (.serModeApply n) s = .next u ∧ u.serMode n = mode ∧ u.port n = SerPort.reset ∧ u.fld SER_STATUS_TX_LEVEL n = 0 ∧
      u.fld SER_STATUS_RX_LEVEL n = 0 ∧ u.fld SER_STATUS_TEC n = 0 ∧ u.fld SER_STATUS_REC n = 0 ∧ u.fld SER_STATUS_BUS_OFF n = 0 ∧
      u.fld SER_STATUS_TX_OVF n = s.fld SER_STATUS_TX_OVF n ∧ portKept n [SER_CTL_MODE.key n 0 0] s u := by
  have hexec : exec (.serModeApply n) s = .next ((countersCleared n mode s).modSer n (fun _ => SerPort.reset)) := by
    rw [exec_serModeApply, execSerModeApply, hp]
    rfl
  obtain ⟨hm, htec, hrec, hoff, hovf, hkept⟩ := countersCleared_spec n hmode s
  obtain ⟨htx, hrx⟩ := modSer_reset_levels (countersCleared n mode s) n
  refine ⟨_, hexec, (modSer_fld _ _ _ _ _ _ _ (.inl (port_key_ne n))).trans hm, port_modSer_same _ _ _, htx, hrx,
    (modSer_fld _ _ _ _ _ _ _ (.inr (by decide))).trans htec, (modSer_fld _ _ _ _ _ _ _ (.inr (by decide))).trans hrec,
    (modSer_fld _ _ _ _ _ _ _ (.inr (by decide))).trans hoff, (modSer_fld _ _ _ _ _ _ _ (.inr (by decide))).trans hovf,
    portKept_modSer hkept _⟩

/-! ### SER_TX and SER_RX -/

theorem exec_serTxWrite_admits {n : Fin 16} (hadm : serAdmits s m n (SER_TX_DATA.key n 0 0)) :
    exec (.serTxWrite m n h data) s = .next (serTxEffect n h data (renewLease m s)) := by
  rw [exec_serTxWrite, execSerTxWrite, serFront_admits hadm]

theorem serMode_renewLease (m : Ident) (s : State) (n : Nat) : (renewLease m s).serMode n = s.serMode n :=
  fld_renewLease_port m s SER_CTL_MODE n

theorem tx_write {n : Fin 16} (hadm : serAdmits s m n (SER_TX_DATA.key n 0 0)) (hlo : 1 ≤ s.serMode n) (hhi : s.serMode n ≤ 5) :
    ∃ u, exec (.serTxWrite m n h data) s = .next u ∧
      (if (s.port n).tx.length < 64
       then (u.port n).tx = (s.port n).tx ++ [serEntryOf h data] ∧ u.fld SER_STATUS_TX_LEVEL n = (s.port n).tx.length + 1
       else (u.port n).tx = (s.port n).tx ∧ u.fld SER_STATUS_TX_OVF n = 1) ∧ (u.port n).rx = (s.port n).rx ∧
      portKept n [leaseKey] s u := by
  have hkept := portKept_renewLease (n := n) m s (List.mem_singleton.mpr rfl)
  have hmode : (renewLease m s).serMode n ≠ 6 := by
    rw [serMode_renewLease]
    omega
  have heff : serTxEffect n h data (renewLease m s) = if 64 ≤ (s.port n).tx.length then (renewLease m s).setFld SER_STATUS_TX_OVF 1 n
      else (renewLease m s).modSer n (fun p => { p with tx := p.tx ++ [serEntryOf h data] }) := by
    unfold serTxEffect
    dsimp only
    rw [if_neg (by rw [serMode_renewLease]; omega), if_neg hmode, port_renewLease]
  have hexec := (exec_serTxWrite_admits (h := h) (data := data) hadm).trans (congrArg _ heff)
  split
  · rename_i hroom
    rw [if_neg (by omega)] at hexec
    obtain ⟨hlevel, -⟩ := modSer_levels _ n (fun p => { p with tx := p.tx ++ [serEntryOf h data] }) hmode
    refine ⟨_, hexec, ⟨?_, ?_⟩, ?_, portKept_modSer hkept _⟩
    · rw [port_modSer_same, port_renewLease]
    · rw [hlevel, port_renewLease, List.length_append, List.length_singleton]
      exact Nat.mod_eq_of_lt (by omega)
    · rw [port_modSer_same, port_renewLease]
  · rename_i hfull
    rw [if_pos (by omega)] at hexec
    refine ⟨_, hexec, ⟨?_, fld_setFld_fits _ SER_STATUS_TX_OVF n 0 0 (by decide)⟩, ?_, portKept_setFld hkept _ _ _ (.head _)⟩
    · rw [port_setFld, port_renewLease]
    · rw [port_setFld, port_renewLease]

theorem can_write {n : Fin 16} {ws : List Word} (hadm : serAdmits s m n (SER_TX_DATA.key n 0 0)) (hmode : s.serMode n = 6)
    (hlast : (serEntryOf h data).last = true) (hroom : (s.port n).canTx.length < 16)
    (hws : ws = wordsOfHalves ((s.port n).build ++ [(serEntryOf h data).data]))
    (hlen : (s.port n).build.length + 1 = 2 * (2 + (canBytes (ws.headD 0) + 7) / 8)) :
    ∃ u, exec (.serTxWrite m n h data) s = .next u ∧ (u.port n).canTx = (s.port n).canTx ++ [ws] ∧ (u.port n).build = [] ∧
      portKept n [leaseKey] s u := by
  have hkept := portKept_renewLease (n := n) m s (List.mem_singleton.mpr rfl)
  have heff : serTxEffect n h data (renewLease m s) =
      ((renewLease m s).modSer n (fun p => { p with build := [] })).modSer n (fun p => { p with canTx := p.canTx ++ [ws] }) := by
    unfold serTxEffect canEntry
    dsimp only
    rw [serMode_renewLease, if_neg (by omega), if_pos hmode, if_neg (by simp [hlast]), port_renewLease, ← hws,
      if_neg (by rw [List.length_append, List.length_singleton]; exact fun hne => hne hlen), port_modSer_same, port_renewLease,
      if_neg (by dsimp only; omega)]
  refine ⟨_, (exec_serTxWrite_admits (h := h) (data := data) hadm).trans (congrArg _ heff), ?_, ?_,
    portKept_modSer (portKept_modSer hkept _) _⟩
  · rw [port_modSer_same, port_modSer_same, port_renewLease]
  · rw [port_modSer_same, port_modSer_same]

theorem exec_serRxRead_open {n : Fin 16} (hr : s.readable (SER_RX_DATA.key n 0 0)) :
    exec (.serRxRead m n h) s = .next (serRxEffect m n h s) := by
  rw [exec_serRxRead, execSerRxRead, readFront_readable hr]

/-- Settles O34. -/
theorem serialPortRegisters : Obligations.SerialPortRegisters := by
  refine ⟨fun m n h data s => mode_write, fun m n h data s hd hb hmay => ?_, fun n mode s => mode_apply,
    fun m n h data s => tx_write, fun m n h data ws s => can_write, fun m n h x r s hr hmode hrx => ?_,
    fun m n h s hr hmode hrx => ?_⟩
  · rw [exec_serModeWrite, execSerModeWrite, serFront_open hd hb, if_neg (by simp [hmay])]
  · have hexec : exec (.serRxRead m n h) s =
        .next ((s.emit (.answer m (serRxWord x &&& h.mask))).modSer n (fun p => { p with rx := r })) := by
      rw [exec_serRxRead_open hr, serRxEffect]
      dsimp only
      rw [if_neg hmode, hrx]
    refine ⟨_, hexec, rfl, ?_, ?_, rfl⟩
    · rw [port_modSer_same]
    · rw [port_modSer_same, port_emit]
  · rw [exec_serRxRead_open hr, serRxEffect]
    dsimp only
    rw [if_neg hmode, hrx]

end Sys2Proof.Machine
end

section
-- One proof at a time: the memory limit of the check counts a stack for every proof that waits for another.
set_option Elab.async false
/-! SUPPORT. The transfers of the serial ports: UART, SPI, I²C and CAN FD (R348 to R353). -/

namespace Sys2Proof.Machine

variable {n : Fin 16} {s : State}

theorem serOut_running (h : s.on FLT_STATUS_HALTED = false) (n : Nat) : s.serOut n = s.serMode n := by
  unfold State.serOut
  rw [h, if_neg (by decide)]

/-! ### Received entries -/

/-- A received entry joins the FIFO while it has room. -/
theorem serReceive_room {n : Nat} {s : State} (x : SerEntry) (h : (s.port n).rx.length < 64) :
    serReceive n x s = s.modSer n (fun p => { p with rx := p.rx ++ [x] }) := by
  unfold serReceive
  rw [if_neg (by omega)]

theorem serReceive_full {n : Nat} {s : State} (x : SerEntry) (h : 64 ≤ (s.port n).rx.length) :
    serReceive n x s = s.setFld SER_STATUS_RX_OVF 1 n := by
  unfold serReceive
  rw [if_pos h]

theorem serReceive_spec (n : Nat) (x : SerEntry) (s : State) : portKept n [] s (serReceive n x s) ∧
    ((serReceive n x s).port n).tx = (s.port n).tx ∧
    (if (s.port n).rx.length < 64 then ((serReceive n x s).port n).rx = (s.port n).rx ++ [x]
     else ((serReceive n x s).port n).rx = (s.port n).rx ∧ (serReceive n x s).fld SER_STATUS_RX_OVF n = 1) := by
  split
  · rename_i h
    rw [serReceive_room x h, port_modSer_same]
    exact ⟨portKept_modSer (portKept_refl n [] s) _, rfl, rfl⟩
  · rename_i h
    rw [serReceive_full x (by omega)]
    exact ⟨portKept_setFld (portKept_refl n [] s) _ _ _ (.head _), rfl, rfl, fld_setFld_fits s SER_STATUS_RX_OVF n 0 0 (by decide)⟩

/-! ### UART -/

theorem majority_same (b : Bool) : majority (b, b, b) = b := by cases b <;> rfl

theorem majority_line (l : List Bool) : (l.map (fun b => (b, b, b))).map majority = l := by
  rw [List.map_map]
  exact List.map_id'' majority_same l

theorem range_getD (l r : List Bool) : (List.range l.length).map (fun k => (l ++ r).getD k true) = l := by
  refine List.ext_getElem (by simp) fun k hk hk' => ?_
  simp [List.getD_eq_getElem?_getD, List.getElem?_append_left hk', hk']

/-- The bits that follow a frame's data: the parity bit where PARITY asks for one, and a stop bit. -/
def frameTail (p : Bool) (parity stop : Bool) : List Bool := if p then [parity, stop] else [stop]

theorem frameTail_spec (data : List Bool) (p parity stop : Bool) :
    (p = true → (data ++ frameTail p parity stop).getD data.length true = parity) ∧
      (data ++ frameTail p parity stop).getD (if p then data.length + 1 else data.length) true = stop := by
  cases p <;> simp [frameTail, List.getD_eq_getElem?_getD]

theorem uartEntry_clean {data : List Bool} {stop parity : Bool} (hlen : data.length = serWidth 4 8 n s)
    (hstop : s.on SER_CTL_STOP2 n = false) :
    uartEntry n ((data ++ frameTail (s.on SER_CTL_PARITY n) parity stop).map (fun b => (b, b, b))) s =
      ⟨BitVec.ofNat 32 (lineValue data), false,
        s.on SER_CTL_PARITY n && decide (parity ≠ xor (decide (s.fld SER_CTL_PARITY n = 2)) (xorAll data)), !stop, false, false⟩ := by
  obtain ⟨hpar, hend⟩ := frameTail_spec data (s.on SER_CTL_PARITY n) parity stop
  have hon : decide (s.fld SER_CTL_PARITY n ≠ 0) = s.on SER_CTL_PARITY n := rfl
  have hfirst : (if s.fld SER_CTL_PARITY n = 0 then data.length else data.length + 1) =
      if s.on SER_CTL_PARITY n then data.length + 1 else data.length := by
    unfold State.on
    by_cases h : s.fld SER_CTL_PARITY n = 0 <;> simp [h]
  unfold uartEntry
  dsimp only
  rw [majority_line, ← hlen, range_getD, hfirst, hend, hstop, hon]
  unfold parityOf
  cases hp : s.on SER_CTL_PARITY n with
  | false => simp
  | true =>
    rw [hp] at hpar
    rw [hpar rfl]
    have hne : ∀ a b : Bool, (a != b) = decide (a ≠ b) := by decide
    simp [hne]

theorem uart_receive {data : List Bool} {stop parity : Bool} {low : Nat} (hmode : s.serMode n = 1)
    (hlen : data.length = serWidth 4 8 n s) (hstop : s.on SER_CTL_STOP2 n = false) :
    ∃ u, exec (.uartFrameReceive n ((data ++ (if s.on SER_CTL_PARITY n then [parity, stop] else [stop])).map (fun b => (b, b, b))) low) s = .next u ∧
      portKept n [] s u ∧ (u.port n).tx = (s.port n).tx ∧
      (if (s.port n).rx.length < 64
       then (u.port n).rx = (s.port n).rx ++ [if 11 ≤ low then ⟨0, true, false, false, false, false⟩
         else ⟨BitVec.ofNat 32 (lineValue data), false,
           s.on SER_CTL_PARITY n && decide (parity ≠ xor (decide (s.fld SER_CTL_PARITY n = 2)) (xorAll data)), !stop, false, false⟩]
       else (u.port n).rx = (s.port n).rx ∧ u.fld SER_STATUS_RX_OVF n = 1) := by
  refine ⟨_, ?_, serReceive_spec n _ s⟩
  rw [exec_uartFrameReceive, execUartFrameReceive, if_neg (fun hne => hne hmode)]
  split
  · rfl
  · exact congrArg (fun x => Host.Outcome.next (serReceive n x s)) (uartEntry_clean hlen hstop)

theorem uart_send {cts : Bool} {x : SerEntry} {r : List SerEntry} (hmode : s.serMode n = 1) (hrun : s.on FLT_STATUS_HALTED = false)
    (htx : (s.port n).tx = x :: r) :
    (s.on SER_CTL_FLOW n = true → cts = false → exec (.uartFrameSend n cts) s = .next s) ∧
    (s.on SER_CTL_FLOW n = false ∨ cts = true →
      ∃ u, exec (.uartFrameSend n cts) s = .next u ∧ (u.port n).tx = r ∧ (u.port n).rx = (s.port n).rx ∧
        u.out = .uart n (uartLine n x s) (max 1024 (s.fld SER_DIV_DIV n)) :: s.out ∧
        (x.brk = true → uartLine n x s = List.replicate (13 + min 7 (s.fld SER_CTL_BRK_LEN n)) false ++ [true])) := by
  have hmode' := (serOut_running hrun n).trans hmode
  have hexec : exec (.uartFrameSend n cts) s = if s.on SER_CTL_FLOW n ∧ ¬ cts then .next s
      else .next ((s.emit (.uart n (uartLine n x s) (uartBit n s))).modSer n (fun p => { p with tx := r })) := by
    rw [exec_uartFrameSend, execUartFrameSend, hmode', htx]
    rfl
  refine ⟨fun hflow hcts => ?_, fun hgo => ⟨(s.emit (.uart n (uartLine n x s) (uartBit n s))).modSer n (fun p => { p with tx := r }),
    ?_, ?_, ?_, rfl, fun hbrk => ?_⟩⟩
  · rw [hexec, if_pos ⟨hflow, by simp [hcts]⟩]
  · rw [hexec, if_neg]
    rintro ⟨hflow, hcts⟩
    rcases hgo with hgo | hgo
    · rw [hgo] at hflow
      exact absurd hflow (by decide)
    · exact hcts hgo
  · rw [port_modSer_same]
  · rw [port_modSer_same, port_emit]
  · unfold uartLine
    rw [if_pos hbrk]

theorem serReceive_out (n : Nat) (x : SerEntry) (s : State) : (serReceive n x s).out = s.out := by
  unfold serReceive
  split <;> rfl

/-! ### SPI and I²C -/

theorem port_modSer_emit (s : State) (o : Out) (n : Nat) (f : SerPort → SerPort) : ((s.emit o).modSer n f).port n = f (s.port n) :=
  port_modSer_same (s.emit o) n f

/-- An exchange with room in the receive FIFO: the port's update, then the received entry. -/
theorem exchange_spec (x : SerEntry) (f : SerPort → SerPort) (hf : (f (s.port n)).rx.length < 64) :
    serReceive n x (s.modSer n f) = (s.modSer n f).modSer n (fun p => { p with rx := p.rx ++ [x] }) ∧
      (serReceive n x (s.modSer n f)).port n = { f (s.port n) with rx := (f (s.port n)).rx ++ [x] } ∧
      (serReceive n x (s.modSer n f)).out = s.out := by
  have hroom := serReceive_room (n := n) (s := s.modSer n f) x (by rwa [port_modSer_same])
  refine ⟨hroom, ?_, serReceive_out n x _⟩
  rw [hroom, port_modSer_same, port_modSer_same]

/-- CS of an SPI controller follows HOLD of the entry it sent last (R350). -/
theorem serPin_chipSelect (hmode : s.serMode n = 2) (hrun : s.on FLT_STATUS_HALTED = false) (cs : Bool) :
    s.serPin n 3 cs = if (s.port n).held then .low else .high := by
  unfold State.serPin
  rw [(serOut_running hrun n).trans hmode]
  cases h : (s.port n).held <;> simp [h]

/-- Neither the mode of a port nor the halt is touched by an update of the port. -/
theorem modSer_running (n : Nat) (f : SerPort → SerPort) (s : State) :
    (s.modSer n f).serMode n = s.serMode n ∧ (s.modSer n f).on FLT_STATUS_HALTED = s.on FLT_STATUS_HALTED := by
  refine ⟨modSer_fld s n f SER_CTL_MODE n 0 0 (.inl (port_key_ne n)), ?_⟩
  unfold State.on
  rw [modSer_fld s n f FLT_STATUS_HALTED 0 0 0 (.inl (by simp only [Field.key, FLT_STATUS_HALTED, SER_STATUS_TX_LEVEL]; omega))]

theorem spi_exchange {x : SerEntry} {r : List SerEntry} {input : BitVec 32} (hmode : s.serMode n = 2 ∨ s.serMode n = 3)
    (hrun : s.on FLT_STATUS_HALTED = false) (htx : (s.port n).tx = x :: r) (hroom : (s.port n).rx.length < 64) :
    ∃ u, exec (.spiTransfer n input) s = .next u ∧ (u.port n).tx = r ∧
      (u.port n).rx = (s.port n).rx ++ [rxEntry (low32 (serWidth 7 31 n s) input)] ∧
      (s.serMode n = 2 → (∀ cs, u.serPin n 3 cs = (if x.hold then .low else .high)) ∧
        u.out = .spi n (spiHalves (s.on SER_CTL_CPOL n) (s.on SER_CTL_CPHA n) (bitsDown (serWidth 7 31 n s) x.data))
          (min 65535 (max 3 (s.fld SER_DIV_DIV n)) + 1) x.hold :: s.out) ∧
      (s.serMode n = 3 → u.out = .spiReply n (bitsDown (serWidth 7 31 n s) x.data) :: s.out) := by
  rcases hmode with hmode | hmode
  · obtain ⟨hu, hport, hout⟩ := exchange_spec (n := n)
      (s := s.emit (.spi n (spiHalves (s.on SER_CTL_CPOL n) (s.on SER_CTL_CPHA n) (bitsDown (serWidth 7 31 n s) x.data)) (spiHalf n s) x.hold))
      (rxEntry (low32 (serWidth 7 31 n s) input)) (fun p => { p with tx := r, held := x.hold, lastBit := x.data.getLsbD 0 }) hroom
    refine ⟨_, ?_, congrArg SerPort.tx hport, congrArg SerPort.rx hport, fun _ => ⟨fun cs => ?_, hout⟩, fun h => by omega⟩
    · rw [exec_spiTransfer, execSpiTransfer, (serOut_running hrun n).trans hmode, htx]
      rfl
    · rw [serPin_chipSelect, hport]
      · rw [hu, (modSer_running _ _ _).1, (modSer_running _ _ _).1]
        exact hmode
      · rw [hu, (modSer_running _ _ _).2, (modSer_running _ _ _).2]
        exact hrun
  · obtain ⟨-, hport, hout⟩ := exchange_spec (n := n) (s := s.emit (.spiReply n (bitsDown (serWidth 7 31 n s) x.data)))
      (rxEntry (low32 (serWidth 7 31 n s) input)) (fun p => { p with tx := r, lastBit := x.data.getLsbD 0 }) hroom
    refine ⟨_, ?_, congrArg SerPort.tx hport, congrArg SerPort.rx hport, fun h => by omega, fun _ => hout⟩
    rw [exec_spiTransfer, execSpiTransfer, (serOut_running hrun n).trans hmode, htx]
    rfl

theorem spi_target_empty {input : BitVec 32} (hmode : s.serMode n = 3) (hrun : s.on FLT_STATUS_HALTED = false)
    (htx : (s.port n).tx = []) (hroom : (s.port n).rx.length < 64) :
    ∃ u, exec (.spiTransfer n input) s = .next u ∧ u.out = .spiReply n (List.replicate (serWidth 7 31 n s) false) :: s.out ∧ u.fld SER_STATUS_TX_UNDER n = 1 ∧
      (u.port n).rx = (s.port n).rx ++ [rxEntry (low32 (serWidth 7 31 n s) input)] := by
  obtain ⟨hu, hport, hout⟩ := exchange_spec (n := n)
    (s := (s.emit (.spiReply n (List.replicate (serWidth 7 31 n s) false))).setFld SER_STATUS_TX_UNDER 1 n)
    (rxEntry (low32 (serWidth 7 31 n s) input)) (fun p => { p with lastBit := false }) hroom
  refine ⟨_, ?_, hout, ?_, congrArg SerPort.rx hport⟩
  · rw [exec_spiTransfer, execSpiTransfer, (serOut_running hrun n).trans hmode, htx]
    rfl
  · rw [hu, modSer_fld _ _ _ _ _ _ _ (.inr (by decide)), modSer_fld _ _ _ _ _ _ _ (.inr (by decide))]
    exact fld_setFld_fits _ SER_STATUS_TX_UNDER n 0 0 (by decide)

theorem i2c_elsewhere {addr sent : Nat} (hmode : s.serMode n = 5) (hrun : s.on FLT_STATUS_HALTED = false)
    (haddr : addr ≠ s.fld SER_CTL_ADDR n % (if s.on SER_CTL_ADDR10 n then 1024 else 128)) (received : List (BitVec 8)) (last : I2cEnd) :
    exec (.i2cTransfer n addr sent received last) s = .next s := by
  have hno : i2cTakes n addr s = false := by
    unfold i2cTakes
    rw [(serOut_running hrun n).trans hmode]
    simp [haddr]
  rw [exec_i2cTransfer, execI2cTransfer, hno, if_pos (by decide)]

/-- What a transfer of an I²C controller notes of its end (R351). -/
def i2cEnded (n : Nat) (last : I2cEnd) (t : State) : State :=
  match last with
  | .complete => t
  | .nack => t.setFld SER_STATUS_NACK 1 n
  | .arbLost => t.setFld SER_STATUS_ARB_LOST 1 n

theorem i2c_controller {addr sent : Nat} {b : BitVec 8} {last : I2cEnd} (hmode : s.serMode n = 4)
    (hrun : s.on FLT_STATUS_HALTED = false) (hroom : (s.port n).rx.length < 64)
    (hhold : ((s.port n).tx.take sent).getLast?.any (fun x => x.hold) = false) :
    ∃ u, exec (.i2cTransfer n addr sent [b] last) s = .next u ∧ (u.port n).tx = (s.port n).tx.drop sent ∧
      (u.port n).rx = (s.port n).rx ++ [rxEntry (b.setWidth 32)] ∧
      u.out = .i2c n (s.port n).held (((s.port n).tx.take sent).map (·.data)) (decide (last ≠ .arbLost))
        (match s.fld SER_CTL_I2C_SPEED n with | 0 => 100 | 1 => 400 | _ => 1000) :: s.out ∧
      u.fld SER_STATUS_NACK n = (if last = .nack then 1 else s.fld SER_STATUS_NACK n) ∧
      u.fld SER_STATUS_ARB_LOST n = (if last = .arbLost then 1 else s.fld SER_STATUS_ARB_LOST n) := by
  have hout := (serOut_running hrun n).trans hmode
  have htakes : i2cTakes n addr s = true := by
    unfold i2cTakes
    rw [hout]
    rfl
  obtain ⟨hu, hport, hsent⟩ := exchange_spec (n := n)
    (s := s.emit (.i2c n (s.port n).held (((s.port n).tx.take sent).map (·.data)) (decide (last ≠ .arbLost)) (i2cKhz n s)))
    (rxEntry (b.setWidth 32)) (fun p => { p with tx := p.tx.drop sent, held := false }) hroom
  generalize htdef : serReceive n _ _ = t at hu hport hsent
  have hfld (g : Field) (h15 : 15 ≤ g.lo) : t.fld g n = s.fld g n := by
    rw [hu, modSer_fld _ _ _ _ _ _ _ (.inr h15), modSer_fld _ _ _ _ _ _ _ (.inr h15)]
    rfl
  have hexec : exec (.i2cTransfer n addr sent [b] last) s = .next (i2cEnded n last t) := by
    rw [exec_i2cTransfer, execI2cTransfer, htakes, if_neg (by decide), hout, ← htdef]
    dsimp only
    rw [hhold]
    cases last <;> simp [i2cEnded]
  have htx := congrArg SerPort.tx hport
  have hrx := congrArg SerPort.rx hport
  refine ⟨_, hexec, ?_⟩
  cases last with
  | complete => exact ⟨htx, hrx, hsent, hfld SER_STATUS_NACK (by decide), hfld SER_STATUS_ARB_LOST (by decide)⟩
  | nack =>
    refine ⟨htx, hrx, hsent, fld_setFld_fits t SER_STATUS_NACK n 0 0 (by decide), ?_⟩
    unfold i2cEnded
    rw [fld_setFld_beside t SER_STATUS_NACK SER_STATUS_ARB_LOST]
    exact hfld SER_STATUS_ARB_LOST (by decide)
  | arbLost =>
    refine ⟨htx, hrx, hsent, ?_, fld_setFld_fits t SER_STATUS_ARB_LOST n 0 0 (by decide)⟩
    unfold i2cEnded
    rw [fld_setFld_beside t SER_STATUS_ARB_LOST SER_STATUS_NACK]
    exact hfld SER_STATUS_NACK (by decide)

/-! ### CAN FD -/

theorem canRecover_idle (n k : Nat) (hoff : s.on SER_STATUS_BUS_OFF n = false) : canRecover n k s = s := by
  unfold canRecover
  rw [if_neg (by simp [hoff])]

theorem recAfter_fits (s : State) (n : Nat) (fault : CanFault) : recAfter (s.fld SER_STATUS_REC n) fault < 2 ^ 8 := by
  have h := bits_lt (s.reg (SER_STATUS_REC.key n 0 0)) 40 8
  have hr : s.fld SER_STATUS_REC n < 2 ^ 8 := h
  cases fault with
  | none =>
    change recAfterGood _ < _
    unfold recAfterGood
    split <;> omega
  | error => exact Nat.lt_of_le_of_lt (Nat.min_le_left _ _) (by decide)
  | dominant => exact Nat.lt_of_le_of_lt (Nat.min_le_left _ _) (by decide)

theorem canFilter_setFld (s : State) (n : Fin 16) (header : Word) (v : Nat) :
    canFilter n header (s.setFld SER_STATUS_REC v n) = canFilter n header s := by
  have hkey (j : Nat) : SER_CAN_FILTERj_EN.key n j 0 ≠ SER_STATUS_REC.key n 0 0 := by
    simp only [Field.key, SER_CAN_FILTERj_EN, SER_STATUS_REC]
    omega
  have hmatch (j : Nat) : canMatches n j header (s.setFld SER_STATUS_REC v n) = canMatches n j header s := by
    unfold canMatches State.on
    rw [fld_setFld_elsewhere _ SER_STATUS_REC SER_CAN_FILTERj_EN _ (hkey j), fld_setFld_elsewhere _ SER_STATUS_REC SER_CAN_FILTERj_IDE _ (hkey j),
      fld_setFld_elsewhere _ SER_STATUS_REC SER_CAN_FILTERj_ID _ (hkey j), fld_setFld_elsewhere _ SER_STATUS_REC SER_CAN_FILTERj_MASK _ (hkey j)]
  unfold canFilter
  rw [show (fun j => canMatches n j header (s.setFld SER_STATUS_REC v n)) = fun j => canMatches n j header s from funext hmatch]

theorem can_receive {n : Fin 16} {header : Word} {age k : Nat} {body : List Word} {j : Nat} (hmode : s.serMode n = 6)
    (hoff : s.on SER_STATUS_BUS_OFF n = false) (hfilter : canFilter n header s = some j) (hroom : (s.port n).canRx.length < 32) :
    ∃ u, exec (.canFrameReceive n header age body k .none) s = .next u ∧ portKept n [] s u ∧
      (u.port n).canRx = (s.port n).canRx ++ [mkWord [(0, 38, bits header 0 38), (40, 8, j)] ::
        (BitVec.ofNat 64 (s.fld DEVICE_TIME_TIME) - BitVec.ofNat 64 age) ::
        (List.range ((canBytes header + 7) / 8)).map (fun k => body.getD k 0)] ∧
      u.fld SER_STATUS_REC n = recAfterGood (s.fld SER_STATUS_REC n) := by
  have hexec : exec (.canFrameReceive n header age body k .none) s =
      .next ((s.setFld SER_STATUS_REC (recAfter (s.fld SER_STATUS_REC n) .none) n).modSer n
        (fun p => { p with canRx := p.canRx ++ [mkWord [(0, 38, bits header 0 38), (40, 8, j)] ::
          (BitVec.ofNat 64 (s.fld DEVICE_TIME_TIME) - BitVec.ofNat 64 age) ::
          (List.range ((canBytes header + 7) / 8)).map (fun k => body.getD k 0)] })) := by
    rw [exec_canFrameReceive, execCanFrameReceive, if_neg (by simp [hmode]), canRecover_idle _ _ hoff]
    dsimp only
    rw [hoff, if_neg (by decide), if_neg (by decide)]
    unfold canKeep
    rw [canFilter_setFld, hfilter]
    dsimp only
    rw [port_setFld, if_neg (by omega)]
  refine ⟨_, hexec, portKept_modSer (portKept_setFld (portKept_refl n [] s) SER_STATUS_REC _ _ (.head _)) _, ?_, ?_⟩
  · rw [port_modSer_same]
    rfl
  · rw [modSer_fld _ _ _ _ _ _ _ (.inr (by decide))]
    exact fld_setFld_fits s SER_STATUS_REC n 0 0 (recAfter_fits s n .none)

theorem can_fault {n : Fin 16} {header : Word} {age k : Nat} {body : List Word} {fault : CanFault} (hmode : s.serMode n = 6)
    (hoff : s.on SER_STATUS_BUS_OFF n = false) (hfault : fault ≠ .none) :
    ∃ u, exec (.canFrameReceive n header age body k fault) s = .next u ∧ u.port n = s.port n ∧
      u.fld SER_STATUS_REC n = min 255 (s.fld SER_STATUS_REC n + (if fault = .dominant then 8 else 1)) ∧ portKept n [] s u := by
  refine ⟨s.setFld SER_STATUS_REC (recAfter (s.fld SER_STATUS_REC n) fault) n, ?_, rfl, ?_, portKept_setFld (portKept_refl n [] s) _ _ _ (.head _)⟩
  · rw [exec_canFrameReceive, execCanFrameReceive, if_neg (by simp [hmode]), canRecover_idle _ _ hoff]
    dsimp only
    rw [hoff, if_neg (by decide), if_pos hfault]
  · rw [fld_setFld_fits s SER_STATUS_REC n 0 0 (recAfter_fits s n fault)]
    cases fault with
    | none => exact absurd rfl hfault
    | error => rfl
    | dominant => rfl

theorem canSendError_spec (n : Nat) (hoff : s.on SER_STATUS_BUS_OFF n = false) :
    (canSendError n s).port n = s.port n ∧ (canSendError n s).fld SER_STATUS_TEC n = min 255 (s.fld SER_STATUS_TEC n + 8) ∧
      (canSendError n s).fld SER_STATUS_BUS_OFF n = (if 255 < s.fld SER_STATUS_TEC n + 8 then 1 else 0) ∧ (canSendError n s).out = s.out := by
  unfold canSendError
  dsimp only
  split
  · refine ⟨rfl, ?_, fld_setFld_fits _ SER_STATUS_BUS_OFF n 0 0 (by decide), rfl⟩
    rw [fld_setFld_beside _ SER_STATUS_BUS_OFF SER_STATUS_TEC, fld_setFld_fits s SER_STATUS_TEC n 0 0 (by decide)]
    omega
  · refine ⟨rfl, ?_, ?_, rfl⟩
    · rw [fld_setFld_fits s SER_STATUS_TEC n 0 0 (show _ < 2 ^ 8 by omega)]
      omega
    · rw [fld_setFld_beside s SER_STATUS_TEC SER_STATUS_BUS_OFF]
      exact of_decide_eq_false hoff |> not_not.mp

theorem can_send {n : Fin 16} {f : List Word} (hmode : s.serMode n = 6) (hoff : s.on SER_STATUS_BUS_OFF n = false)
    (hrun : s.on FLT_STATUS_HALTED = false) (htx : (s.port n).canTx = [f]) (k : Nat) :
    ∃ u v, exec (.canFrameSend n k .sent) s = .next u ∧ (u.port n).canTx = [] ∧ u.out = canOnBus n f s :: s.out ∧
      u.fld SER_STATUS_TEC n = s.fld SER_STATUS_TEC n - 1 ∧ exec (.canFrameSend n k .error) s = .next v ∧ v.port n = s.port n ∧
      v.fld SER_STATUS_TEC n = min 255 (s.fld SER_STATUS_TEC n + 8) ∧
      v.fld SER_STATUS_BUS_OFF n = (if 255 < s.fld SER_STATUS_TEC n + 8 then 1 else 0) ∧ v.out = s.out ∧
      (canPassive n s = true → exec (.canFrameSend n k .unheard) s = .next s) := by
  have hout := (serOut_running hrun n).trans hmode
  have hexec (last : CanEnd) : exec (.canFrameSend n k last) s = match last with
      | .sent => .next (((s.emit (canOnBus n f s)).setFld SER_STATUS_TEC (s.fld SER_STATUS_TEC n - 1) n).modSer n
            (fun p => { p with canTx := dropFirst f p.canTx }))
      | .lost => .next s
      | .unheard => .next (if canPassive n s then s else canSendError n s)
      | .error => .next (canSendError n s) := by
    rw [exec_canFrameSend, execCanFrameSend, if_neg (by simp [hout]), canRecover_idle _ _ hoff]
    dsimp only
    rw [hoff, if_neg (by decide), htx]
    rfl
  have htec : s.fld SER_STATUS_TEC n - 1 < 2 ^ SER_STATUS_TEC.w :=
    Nat.lt_of_le_of_lt (Nat.sub_le _ _) (bits_lt (s.reg (SER_STATUS_TEC.key n 0 0)) 32 8)
  obtain ⟨hport, htec', hbus, hsame⟩ := canSendError_spec n hoff
  refine ⟨_, _, hexec .sent, ?_, rfl, ?_, hexec .error, hport, htec', hbus, hsame, fun hpassive => ?_⟩
  · rw [port_modSer_same]
    simp [htx, dropFirst]
  · rw [modSer_fld _ _ _ _ _ _ _ (.inr (by decide))]
    exact fld_setFld_fits _ SER_STATUS_TEC n 0 0 htec
  · rw [hexec .unheard]
    simp [hpassive]

theorem can_recovers {n : Fin 16} {k : Nat} {last : CanEnd} (hmode : s.serMode n = 6) (hoff : s.on SER_STATUS_BUS_OFF n = true)
    (hrun : s.on FLT_STATUS_HALTED = false) : (k < 128 → exec (.canFrameSend n k last) s = .next s) ∧
    (128 ≤ k → (s.port n).canTx = [] → ∃ u, exec (.canFrameSend n k last) s = .next u ∧ u.fld SER_STATUS_BUS_OFF n = 0 ∧
      u.fld SER_STATUS_TEC n = 0 ∧ u.fld SER_STATUS_REC n = 0 ∧ u.out = s.out ∧ portKept n [] s u) := by
  have hout := (serOut_running hrun n).trans hmode
  refine ⟨fun hk => ?_, fun hk htx => ?_⟩
  · have hsame : canRecover n k s = s := if_neg (by omega)
    rw [exec_canFrameSend, execCanFrameSend, if_neg (by simp [hout]), hsame]
    exact if_pos hoff
  · have hrec : canRecover n k s = ((s.setFld SER_STATUS_BUS_OFF 0 n).setFld SER_STATUS_TEC 0 n).setFld SER_STATUS_REC 0 n :=
      if_pos ⟨hoff, hk⟩
    have hzero : (((s.setFld SER_STATUS_BUS_OFF 0 n).setFld SER_STATUS_TEC 0 n).setFld SER_STATUS_REC 0 n).fld SER_STATUS_BUS_OFF n = 0 := by
      rw [fld_setFld_beside _ SER_STATUS_REC SER_STATUS_BUS_OFF, fld_setFld_beside _ SER_STATUS_TEC SER_STATUS_BUS_OFF]
      exact fld_setFld_fits s SER_STATUS_BUS_OFF n 0 0 (by decide)
    refine ⟨canRecover n k s, ?_, ?_⟩
    · rw [exec_canFrameSend, execCanFrameSend, if_neg (by simp [hout]), hrec]
      dsimp only
      unfold State.on
      rw [hzero, if_neg (by decide), port_setFld, port_setFld, port_setFld, htx]
      rfl
    · rw [hrec]
      refine ⟨hzero, ?_, fld_setFld_fits _ SER_STATUS_REC n 0 0 (by decide), rfl, ?_⟩
      · rw [fld_setFld_beside _ SER_STATUS_REC SER_STATUS_TEC]
        exact fld_setFld_fits _ SER_STATUS_TEC n 0 0 (by decide)
      · exact portKept_setFld (portKept_setFld (portKept_setFld (portKept_refl n [] s) SER_STATUS_BUS_OFF _ _ (.head _))
          SER_STATUS_TEC _ _ (.head _)) SER_STATUS_REC _ _ (.head _)

/-- Settles O35. -/
theorem serialTransfers : Obligations.SerialTransfers :=
  ⟨fun _ _ _ _ _ _ hmode hlen hstop => uart_receive hmode hlen hstop, fun _ _ _ _ _ hmode hrun htx => uart_send hmode hrun htx,
    fun _ _ _ _ _ hmode hrun htx hroom => spi_exchange hmode hrun htx hroom,
    fun _ _ _ hmode hrun htx hroom => spi_target_empty hmode hrun htx hroom,
    fun _ _ _ _ hmode hrun haddr received last => i2c_elsewhere hmode hrun haddr received last,
    fun _ _ _ _ _ _ hmode hrun hroom hhold => i2c_controller hmode hrun hroom hhold,
    fun _ _ _ _ _ _ _ hmode hoff hfilter hroom => can_receive hmode hoff hfilter hroom,
    fun _ _ _ _ _ _ _ hmode hoff hfault => can_fault hmode hoff hfault,
    fun _ _ _ hmode hoff hrun htx k => can_send hmode hoff hrun htx k, fun _ _ _ _ hmode hoff hrun => can_recovers hmode hoff hrun⟩

end Sys2Proof.Machine
end

section
-- One proof at a time: the memory limit of the check counts a stack for every proof that waits for another.
set_option Elab.async false
/-! SUPPORT. The region ports and the mesh: what an update of a port, a credit or the mesh leaves unchanged (R327, R328, R469). -/

namespace Sys2Proof.Machine

variable {s t : State}

/-! ### Counters -/

theorem fld_addFld (s : State) (F : Field) (m i j k : Nat) (hF : F.good := by unfold Field.good; decide) :
    (s.addFld F m i j k).fld F i j k = (s.fld F i j k + m) % 2 ^ F.w := fld_setFld_same s F _ i j k hF

theorem onlyRegs_refl (l : List Nat) (s : State) : onlyRegs l s s := ⟨rfl, regsKeep_refl l s⟩

theorem onlyRegs_setFld (s : State) (F : Field) (v i j k : Nat) : onlyRegs [F.key i j k] s (s.setFld F v i j k) :=
  ⟨rfl, regsKeep_setFld s F v i j k⟩

theorem onlyRegs_addFld (s : State) (F : Field) (m i j k : Nat) : onlyRegs [F.key i j k] s (s.addFld F m i j k) :=
  onlyRegs_setFld s F _ i j k

theorem onlyRegs_foldl {α : Type} {K : List Nat} {f : State → α → State} (l : List α)
    (hf : ∀ s, ∀ a ∈ l, onlyRegs K s (f s a)) (s : State) : onlyRegs K s (l.foldl f s) := by
  induction l generalizing s with
  | nil => exact onlyRegs_refl K s
  | cons a l ih =>
    exact onlyRegs_trans (hf s a (.head _)) (ih (fun s b hb => hf s b (.tail _ hb)) _)

/-! ### Region ports -/

/-- The registers that follow the outstanding counts of a target's ports. -/
def targetKeys (t : Nat) : List Nat :=
  CFG_RGNr_STATUS_IN_OUT.key t 0 0 :: (portsOf t).map (fun p => NOC_EPe_STATUS_OUTSTANDING.key (fabricEndpoint p) 0 0)

theorem syncTarget_onlyRegs (t : Nat) (s : State) : onlyRegs (targetKeys t) s (syncTarget t s) := by
  unfold syncTarget
  refine onlyRegs_trans (t := ((s.setFld CFG_RGNr_STATUS_IN_OUT _ t).setFld CFG_RGNr_STATUS_OUT_OUT _ t).setFld CFG_RGNr_STATUS_RSV_TAGS _ t)
    (onlyRegs_mono (l := [CFG_RGNr_STATUS_IN_OUT.key t 0 0]) (fun _ h => List.mem_singleton.mp h ▸ .head _) ?_)
    (onlyRegs_foldl _ (fun s p hp => onlyRegs_mono (fun _ h => ?_) (onlyRegs_setFld s NOC_EPe_STATUS_OUTSTANDING _ (fabricEndpoint p) 0 0)) _)
  · exact onlyRegs_after_setFld CFG_RGNr_STATUS_RSV_TAGS _ _ _ _ (onlyRegs_after_setFld CFG_RGNr_STATUS_OUT_OUT _ _ _ _
      (onlyRegs_setFld s _ _ _ _ _) (.head _)) (.head _)
  · exact .tail _ (List.mem_map.mpr ⟨p, hp, (List.mem_singleton.mp h).symm⟩)

theorem modFab_rest (s : State) (p : Nat) (f : FabPort → FabPort) : s.modFab p f = { s with
    regs := (s.modFab p f).regs
    cfg := { s.cfg with ports := Memory.set (fun _ => FabPort.reset) s.cfg.ports p (f (s.fab p)) } } := by
  obtain ⟨hrest, -⟩ := syncTarget_onlyRegs (targetOfPort p)
    { s with cfg := { s.cfg with ports := Memory.set (fun _ => FabPort.reset) s.cfg.ports p (f (s.fab p)) } }
  exact hrest

theorem fab_congr (h : t.cfg.ports = s.cfg.ports) (p : Nat) : t.fab p = s.fab p := by
  unfold State.fab
  rw [h]

theorem fab_modFab_same (s : State) (p : Nat) (f : FabPort → FabPort) : (s.modFab p f).fab p = f (s.fab p) := by
  unfold State.fab
  rw [modFab_rest]
  exact Memory.get_set_same p _ s.cfg.ports

theorem fab_modFab_other (s : State) {p q : Nat} (f : FabPort → FabPort) (h : q ≠ p) : (s.modFab p f).fab q = s.fab q := by
  unfold State.fab
  rw [modFab_rest]
  exact Memory.get_set_other _ h s.cfg.ports

theorem modFab_regsKeep (s : State) (p : Nat) (f : FabPort → FabPort) :
    regsKeep (targetKeys (targetOfPort p)) s (s.modFab p f) := by
  obtain ⟨-, hkeep⟩ := syncTarget_onlyRegs (targetOfPort p)
    { s with cfg := { s.cfg with ports := Memory.set (fun _ => FabPort.reset) s.cfg.ports p (f (s.fab p)) } }
  exact hkeep

@[simp] theorem modFab_out (s : State) (p : Nat) (f : FabPort → FabPort) : (s.modFab p f).out = s.out := by rw [modFab_rest]
@[simp] theorem modFab_mem (s : State) (p : Nat) (f : FabPort → FabPort) : (s.modFab p f).mem = s.mem := by rw [modFab_rest]
@[simp] theorem modFab_noc (s : State) (p : Nat) (f : FabPort → FabPort) : (s.modFab p f).noc = s.noc := by rw [modFab_rest]

/-! ### Credits and the mesh -/

/-- Everything but the network and the count of old flits is as before. -/
def NetKeeps (s t : State) : Prop := t = { s with regs := t.regs, noc := t.noc } ∧ regsKeep [NOC_EPOCH_OLD_FLITS.off] s t

theorem NetKeeps.refl (s : State) : NetKeeps s s := ⟨rfl, regsKeep_refl _ s⟩

theorem NetKeeps.trans {s t u : State} (h : NetKeeps s t) (h' : NetKeeps t u) : NetKeeps s u := by
  obtain ⟨hrest, hkeep⟩ := h
  obtain ⟨hrest', hkeep'⟩ := h'
  refine ⟨?_, regsKeep_trans hkeep hkeep'⟩
  rw [hrest', hrest]

theorem NetKeeps.out (h : NetKeeps s t) : t.out = s.out := by rw [h.1]
theorem NetKeeps.mem (h : NetKeeps s t) : t.mem = s.mem := by rw [h.1]
theorem NetKeeps.cfg (h : NetKeeps s t) : t.cfg = s.cfg := by rw [h.1]

theorem NetKeeps.fld (h : NetKeeps s t) (F : Field) (i j k : Nat) (hF : F.key i j k ≠ NOC_EPOCH_OLD_FLITS.off) :
    t.fld F i j k = s.fld F i j k := by
  unfold State.fld
  rw [h.2 _ (by simpa using hF)]

theorem setCredit_netKeeps (s : State) (k : Nat) (c : Credit) : NetKeeps s (s.setCredit k c) := ⟨rfl, fun _ _ => rfl⟩

theorem credit_setCredit_same (s : State) (k : Nat) (c : Credit) : (s.setCredit k c).credit k = c := Memory.get_set_same k c s.noc.credits

theorem credit_setCredit_other (s : State) {k j : Nat} (c : Credit) (h : j ≠ k) : (s.setCredit k c).credit j = s.credit j :=
  Memory.get_set_other c h s.noc.credits

theorem spendCredit_held (h : (s.credit k).held ≠ 0) : spendCredit k s =
    s.setCredit k { s.credit k with held := (s.credit k).held - 1, buffered := (s.credit k).buffered + 1 } := if_pos (Nat.pos_of_ne_zero h)

theorem spendCredit_netKeeps (k : Nat) (s : State) : NetKeeps s (spendCredit k s) := by
  unfold spendCredit
  dsimp only
  split
  · exact setCredit_netKeeps s k _
  · exact NetKeeps.refl s

@[simp] theorem spendCredit_mesh (k : Nat) (s : State) : (spendCredit k s).noc.mesh = s.noc.mesh := by
  unfold spendCredit
  dsimp only
  split <;> rfl

theorem setMesh_netKeeps (s : State) (l : List MeshPacket) : NetKeeps s (s.setMesh l) :=
  ⟨rfl, regsKeep_after_setFld NOC_EPOCH_OLD_FLITS _ 0 0 0 (fun _ _ => rfl) (.head _)⟩

@[simp] theorem setMesh_mesh (s : State) (l : List MeshPacket) : (s.setMesh l).noc.mesh = l := rfl

@[simp] theorem credit_setMesh (s : State) (l : List MeshPacket) (k : Nat) : (s.setMesh l).credit k = s.credit k := rfl

theorem injectPacket_netKeeps (e : Nat) (p : NocPacket) (s : State) : NetKeeps s (injectPacket e p s) :=
  (spendCredit_netKeeps _ s).trans (setMesh_netKeeps _ _)

/-- A packet that enters the mesh waits at the injecting endpoint's router. -/
theorem injectPacket_mesh (e : Nat) (p : NocPacket) (s : State) :
    (injectPacket e p s).noc.mesh = s.noc.mesh ++ [⟨p, 1, e, e / 4, 0⟩] :=
  congrArg (fun l => l ++ [MeshPacket.mk p 1 e (e / 4) 0]) (spendCredit_mesh _ s)

theorem injectPacket_credit {e : Nat} {p : NocPacket} (h : (s.credit (creditKey 1 e p.channel)).held ≠ 0) :
    ((injectPacket e p s).credit (creditKey 1 e p.channel)).held = (s.credit (creditKey 1 e p.channel)).held - 1 := by
  unfold injectPacket
  rw [credit_setMesh, spendCredit_held h, credit_setCredit_same]

theorem putResponse_netKeeps (e : Nat) (r : NocPacket) (s : State) : NetKeeps s (putResponse e r s) := injectPacket_netKeeps e r s

theorem putResponse_mesh (e : Nat) (r : NocPacket) (s : State) :
    (putResponse e r s).noc.mesh = s.noc.mesh ++ [⟨r, 1, e, e / 4, 0⟩] := injectPacket_mesh e r s

theorem returnCredit_netKeeps (k : Nat) (s : State) : NetKeeps s (returnCredit k s) := by
  unfold returnCredit
  dsimp only
  split
  · exact setCredit_netKeeps s k _
  · exact NetKeeps.refl s

@[simp] theorem returnCredit_mesh (k : Nat) (s : State) : (returnCredit k s).noc.mesh = s.noc.mesh := by
  unfold returnCredit
  dsimp only
  split <;> rfl

/-! ### Injection -/

theorem injectTest_unmade {e : Nat} {q : NocReq} (h : makePacket e q s = none) : injectTest e q s = .refused .decode := by
  unfold injectTest
  rw [h]

theorem injectTest_fenced {e : Nat} {q : NocReq} {k : NocPacket} (h : makePacket e q s = some k)
    (hd : s.fld NOC_EPe_STATUS_DAMPER e ≠ 0) : injectTest e q s = .refused .fenced := by
  unfold injectTest
  rw [h]
  exact if_pos hd

theorem injectTest_sent {e : Nat} {q : NocReq} {k : NocPacket} (h : makePacket e q s = some k)
    (hd : s.fld NOC_EPe_STATUS_DAMPER e = 0) (hc : (s.credit (creditKey 1 e k.channel)).held ≠ 0) : injectTest e q s = .sent k := by
  unfold injectTest
  rw [h]
  dsimp only
  rw [if_neg (by simpa using hd), if_neg hc]

theorem countStatus_fenced (e : Nat) (s : State) :
    onlyRegs [NOC_COUNTS_FENCED.off, NOC_EPe_STATUS_FENCED.key e 0 0] s (countStatus e .fenced s) :=
  onlyRegs_after_setFld NOC_EPe_STATUS_FENCED _ e 0 0
    (onlyRegs_mono (l := [NOC_COUNTS_FENCED.key 0 0 0]) (fun _ h => List.mem_singleton.mp h ▸ .head _) (onlyRegs_addFld s NOC_COUNTS_FENCED 1 0 0 0))
    (.tail _ (.head _))

theorem countStatus_decode (e : Nat) (s : State) : onlyRegs [NOC_COUNTS_DECODE.off] s (countStatus e .decode s) :=
  onlyRegs_addFld s NOC_COUNTS_DECODE 1 0 0 0

end Sys2Proof.Machine
end

section
-- One proof at a time: the memory limit of the check counts a stack for every proof that waits for another.
set_option Elab.async false
/-! SUPPORT. The region ports: requests, answers and timeouts (R327 to R331). -/

namespace Sys2Proof.Machine

variable {p : Fin 68} {q : NocReq} {s : State}

theorem fab_emit (s : State) (o : Out) (p : Nat) : (s.emit o).fab p = s.fab p := rfl

/-- A port that changes and then answers. -/
theorem modFab_emit (s : State) (p : Nat) (f : FabPort → FabPort) (o : Out) : ((s.modFab p f).emit o).fab p = f (s.fab p) ∧
    ((s.modFab p f).emit o).out = o :: s.out ∧ ((s.modFab p f).emit o).mem = s.mem := by
  rw [fab_emit, fab_modFab_same]
  refine ⟨rfl, ?_, ?_⟩
  · rw [State.emit]
    dsimp only
    rw [modFab_out]
  · rw [State.emit]
    dsimp only
    rw [modFab_mem]

theorem dropFirst_only {α : Type} [DecidableEq α] (a : α) : dropFirst a [a] = [] := if_pos rfl

theorem injectPacket_cfg (e : Nat) (k : NocPacket) (s : State) : (injectPacket e k s).cfg = s.cfg := (injectPacket_netKeeps e k s).cfg

/-- A request with room and a free tag is put to the injection test, under the port's identity. -/
theorem portRequest_admits (hroom : (s.fab p).outs.length + (s.fab p).reserved.length < 32) (houts : q.tag ∉ (s.fab p).outs)
    (hres : q.tag ∉ (s.fab p).reserved) : exec (.fabricPortRequest p q) s =
      .next (match injectTest (fabricEndpoint p) { q with ident := mkIdent s.devId 3 p } s with
        | .waits => s
        | .refused st => (countStatus (fabricEndpoint p) st s).emit (.fabricResponse p q.tag st false [])
        | .sent k => injectPacket (fabricEndpoint p) k (s.modFab p (fun x => { x with outs := x.outs ++ [q.tag] }))) := by
  rw [exec_fabricPortRequest, execFabricPortRequest, portRequest]
  refine congrArg Host.Outcome.next ((if_neg ?_).trans rfl)
  rintro (h | h | h)
  · omega
  · exact houts (List.contains_iff_mem.mp h)
  · exact hres (List.contains_iff_mem.mp h)

theorem port_request_enters {k : NocPacket} (hroom : (s.fab p).outs.length + (s.fab p).reserved.length < 32)
    (houts : q.tag ∉ (s.fab p).outs) (hres : q.tag ∉ (s.fab p).reserved)
    (hk : makePacket (fabricEndpoint p) { q with ident := mkIdent s.devId 3 p } s = some k)
    (hd : s.fld NOC_EPe_STATUS_DAMPER (fabricEndpoint p) = 0) (hc : (s.credit (creditKey 1 (fabricEndpoint p) k.channel)).held ≠ 0) :
    ∃ u, exec (.fabricPortRequest p q) s = .next u ∧ (u.fab p).outs = (s.fab p).outs ++ [q.tag] ∧
      u.noc.mesh = s.noc.mesh ++ [⟨k, 1, fabricEndpoint p, fabricEndpoint p / 4, 0⟩] ∧ u.out = s.out ∧ u.mem = s.mem := by
  refine ⟨_, portRequest_admits hroom houts hres, ?_⟩
  rw [injectTest_sent hk hd hc]
  have hkeep := injectPacket_netKeeps (fabricEndpoint p) k (s.modFab p (fun x => { x with outs := x.outs ++ [q.tag] }))
  dsimp only
  refine ⟨?_, ?_, ?_, ?_⟩
  · rw [fab_congr (congrArg CfgState.ports hkeep.cfg), fab_modFab_same]
  · rw [injectPacket_mesh, modFab_noc]
  · rw [hkeep.out, modFab_out]
  · rw [hkeep.mem, modFab_mem]

theorem port_request_refused (hroom : (s.fab p).outs.length + (s.fab p).reserved.length < 32) (houts : q.tag ∉ (s.fab p).outs)
    (hres : q.tag ∉ (s.fab p).reserved) :
    ((makePacket (fabricEndpoint p) { q with ident := mkIdent s.devId 3 p } s = none →
      ∃ u, exec (.fabricPortRequest p q) s = .next u ∧ u.out = .fabricResponse p q.tag .decode false [] :: s.out ∧ u.noc = s.noc ∧
        u.cfg = s.cfg ∧ u.mem = s.mem ∧ regsKeep [NOC_COUNTS_DECODE.off] s u) ∧
     (∀ k, makePacket (fabricEndpoint p) { q with ident := mkIdent s.devId 3 p } s = some k →
      s.fld NOC_EPe_STATUS_DAMPER (fabricEndpoint p) ≠ 0 →
      ∃ u, exec (.fabricPortRequest p q) s = .next u ∧ u.out = .fabricResponse p q.tag .fenced false [] :: s.out ∧ u.noc = s.noc ∧
        u.cfg = s.cfg ∧ u.mem = s.mem ∧
        regsKeep [NOC_COUNTS_FENCED.off, NOC_EPe_STATUS_FENCED.key (fabricEndpoint p) 0 0] s u)) := by
  refine ⟨fun hnone => ⟨_, portRequest_admits hroom houts hres, ?_⟩, fun k hk hd => ⟨_, portRequest_admits hroom houts hres, ?_⟩⟩
  · rw [injectTest_unmade hnone]
    exact ⟨rfl, rfl, rfl, rfl, (countStatus_decode (fabricEndpoint p) s).2⟩
  · rw [injectTest_fenced hk hd]
    exact ⟨rfl, rfl, rfl, rfl, (countStatus_fenced (fabricEndpoint p) s).2⟩

theorem answer_of_call {w : Word} {src : Nat} (hcalls : (s.fab p).calls = [(src, bits w 0 16)]) :
    ∃ u, exec (.fabricAnswer p (.action w)) s = .next u ∧ (u.fab p).calls = [] ∧ u.out = (if bit w 16
        then .result src (160 + p) (bits w 0 16) .errData 0 else .result src (160 + p) (bits w 0 16) .ok (bits w 24 24)) :: s.out ∧
      u.mem = s.mem := by
  have hexec : exec (.fabricAnswer p (.action w)) s =
      .next ((s.modFab p (fun x => { x with calls := dropFirst (src, bits w 0 16) x.calls })).emit (if bit w 16
        then .result src (160 + p) (bits w 0 16) .errData 0 else .result src (160 + p) (bits w 0 16) .ok (bits w 24 24))) := by
    rw [exec_fabricAnswer, execFabricAnswer, answerAction]
    dsimp only
    rw [hcalls, List.find?_cons_of_pos (by simp)]
    dsimp only
    split <;> rfl
  obtain ⟨hport, hout, hmem⟩ := modFab_emit s p (fun x => { x with calls := dropFirst (src, bits w 0 16) x.calls }) (if bit w 16
    then .result src (160 + p) (bits w 0 16) .errData 0 else .result src (160 + p) (bits w 0 16) .ok (bits w 24 24))
  refine ⟨_, hexec, ?_, hout, hmem⟩
  rw [hport]
  dsimp only
  rw [hcalls, dropFirst_only]

theorem answer_unmatched {w : Word} (hcalls : (s.fab p).calls = []) (hforced : (s.fab p).forcedCalls = []) :
    ∃ u, exec (.fabricAnswer p (.action w)) s = .next u ∧ u.out = s.out ∧
      u.fld CFG_RGNr_PORT_UNMATCHED (min p.val 64) =
        (s.fld CFG_RGNr_PORT_UNMATCHED (min p.val 64) + 1) % 2 ^ CFG_RGNr_PORT_UNMATCHED.w ∧
      onlyRegs [CFG_RGNr_PORT_UNMATCHED.key (min p.val 64) 0 0] s u := by
  refine ⟨s.addFld CFG_RGNr_PORT_UNMATCHED 1 (min p.val 64), ?_, rfl, fld_addFld s _ 1 _ 0 0, onlyRegs_addFld s _ 1 _ 0 0⟩
  rw [exec_fabricAnswer, execFabricAnswer, answerAction]
  dsimp only
  rw [hcalls, hforced]
  rfl

theorem answer_of_request {src tag : Nat} {err : Bool} {data : List Word} (hreqs : (s.fab p).reqs = [(src, tag)]) :
    ∃ u, exec (.fabricAnswer p (.request src tag err data)) s = .next u ∧ (u.fab p).reqs = [] ∧ u.mem = s.mem ∧
      u.out = (if err then .response src tag .errData (data.map (fun _ => 0)) else .response src tag .ok data) :: s.out := by
  have hexec : exec (.fabricAnswer p (.request src tag err data)) s =
      .next ((s.modFab p (fun x => { x with reqs := dropFirst (src, tag) x.reqs })).emit
        (if err then .response src tag .errData (data.map (fun _ => 0)) else .response src tag .ok data)) := by
    rw [exec_fabricAnswer, execFabricAnswer, answerRequest, hreqs, if_pos (by simp)]
    cases err <;> rfl
  obtain ⟨hport, hout, hmem⟩ := modFab_emit s p (fun x => { x with reqs := dropFirst (src, tag) x.reqs })
    (if err then .response src tag .errData (data.map (fun _ => 0)) else .response src tag .ok data)
  refine ⟨_, hexec, ?_, hmem, hout⟩
  rw [hport]
  dsimp only
  rw [hreqs, dropFirst_only]

theorem request_times_out {src tag : Nat} (hreqs : (s.fab p).reqs = [(src, tag)]) :
    ∃ u, exec (.portTimeout p src tag) s = .next u ∧ (u.fab p).reqs = [] ∧ (u.fab p).late = (s.fab p).late ++ [(src, tag)] ∧
      u.out = .response src tag .errData [] :: s.out ∧ u.mem = s.mem := by
  obtain ⟨hport, hout, hmem⟩ := modFab_emit s p
    (fun x => { x with reqs := dropFirst (src, tag) x.reqs, late := x.late ++ [(src, tag)] }) (.response src tag .errData [])
  refine ⟨(s.modFab p (fun x => { x with reqs := dropFirst (src, tag) x.reqs, late := x.late ++ [(src, tag)] })).emit
    (.response src tag .errData []), ?_, ?_, ?_, hout, hmem⟩
  · rw [exec_portTimeout, execPortTimeout, hreqs, if_pos (by simp)]
  · rw [hport]
    dsimp only
    rw [hreqs, dropFirst_only]
  · rw [hport]

/-- Settles O31. -/
theorem fabricPorts : Obligations.FabricPorts :=
  ⟨fun _ _ _ _ hroom houts hres hk hd hc => port_request_enters hroom houts hres hk hd hc,
    fun _ _ _ hroom houts hres => port_request_refused hroom houts hres,
    fun _ _ _ _ hcalls => answer_of_call hcalls, fun _ _ _ hcalls hforced => answer_unmatched hcalls hforced,
    fun _ _ _ _ _ _ hreqs => answer_of_request hreqs, fun _ _ _ _ hreqs => request_times_out hreqs⟩

end Sys2Proof.Machine
end

section
-- One proof at a time: the memory limit of the check counts a stack for every proof that waits for another.
set_option Elab.async false
/-! SUPPORT. Control of the network: route tables, the epoch switch, link replay and the drain of an endpoint (R476 to R479, R484 to R487). -/

namespace Sys2Proof.Machine

variable {m : Ident} {h : Half} {data : Word} {s t : State}

/-! ### Route tables (R476) -/

theorem bnat_not_ne (b : Bool) : bnat (!b) = 1 - bnat b ∧ bnat b ≤ 1 := by cases b <;> decide

/-- The entries of one epoch lie apart from those of the other. -/
theorem routeKey_epoch (e net : Bool) {r d : Nat} (hr : r < 80) (hd : d < 80) : routeKey e net r d / 12800 = bnat e := by
  have hnet := (bnat_not_ne net).2
  unfold routeKey
  omega

theorem routeKey_epochs_ne (e net net' : Bool) {r d r' d' : Nat} (hr : r < 80) (hd : d < 80) (hr' : r' < 80) (hd' : d' < 80) :
    routeKey e net r d ≠ routeKey (!e) net' r' d' := by
  intro heq
  have hepoch := routeKey_epoch e net hr hd
  rw [heq, routeKey_epoch (!e) net' hr' hd'] at hepoch
  cases e <;> exact absurd hepoch (by decide)

theorem Memory.get_filter {α : Type} (f : Nat → α) (p : Nat → Bool) (k : Nat) (l : List (Nat × α)) :
    Memory.get f (l.filter (fun e => p e.1)) k = if p k then Memory.get f l k else f k := by
  induction l with
  | nil => simp [Memory.get]
  | cons a l ih =>
    obtain ⟨j, v⟩ := a
    by_cases hj : j = k
    · subst hj
      by_cases hp : p j <;> simp [Memory.get, hp, ih]
    · by_cases hp : p j <;> simp [Memory.get, hp, hj, ih]

theorem routesLocked_congr (hreg : t.reg NOC_EPOCH_CUR.off = s.reg NOC_EPOCH_CUR.off) : routesLocked t = routesLocked s := by
  have hold : t.fld NOC_EPOCH_OLD_FLITS = s.fld NOC_EPOCH_OLD_FLITS := fld_congr NOC_EPOCH_OLD_FLITS 0 0 0 hreg
  have hpend : t.fld NOC_EPOCH_PENDING = s.fld NOC_EPOCH_PENDING := fld_congr NOC_EPOCH_PENDING 0 0 0 hreg
  unfold routesLocked State.on
  rw [hold, hpend]

theorem route_congr (hnoc : t.noc = s.noc) (e net : Bool) (r d : Nat) : t.route e net r d = s.route e net r d := by
  unfold State.route
  rw [hnoc]

/-- The registers of the network are not touched by the lease. -/
theorem fld_renewLease_noc (m : Ident) (s : State) (F : Field) (hF : leaseKey < F.off := by decide) : (renewLease m s).fld F = s.fld F :=
  fld_renewLease m s F 0 0 0 (key_ne_leaseKey hF 0 0 0)

theorem reg_renewLease_epoch (m : Ident) (s : State) : (renewLease m s).reg NOC_EPOCH_CUR.off = s.reg NOC_EPOCH_CUR.off :=
  reg_renewLease m s (by decide)

theorem on_renewLease_noc (m : Ident) (s : State) (F : Field) (hF : leaseKey < F.off := by decide) : (renewLease m s).on F = s.on F := by
  unfold State.on
  rw [fld_renewLease_noc m s F hF]

/-- A write of NOC_RT_DATA for an entry and a port that exist. -/
theorem routeTableWrite_admits (hadm : s.admits m .NOC_RT_DATA []) (hh : h ≠ .high) (hr : s.fld NOC_RT_SEL_ROUTER < 80)
    (hd : s.fld NOC_RT_SEL_DEST < 80) (hp : bits data 0 3 < 5) : exec (.routeTableWrite m h data) s =
      .next (if routesLocked s ∨ s.fld NOC_RT_SEL_ROUTER = s.fld NOC_RT_SEL_DEST ∨ bits data 0 3 = 0 ∨
          (neighbour (s.fld NOC_RT_SEL_ROUTER) (bits data 0 3)).isNone
        then (renewLease m s).setFld NOC_EPOCH_RT_REFUSED 1
        else { renewLease m s with noc := { s.noc with
          routes := Memory.set routeReset s.noc.routes
            (routeKey (!s.on NOC_EPOCH_CUR) (s.on NOC_RT_SEL_VNET) (s.fld NOC_RT_SEL_ROUTER) (s.fld NOC_RT_SEL_DEST)) (bits data 0 3) } }) := by
  rw [exec_routeTableWrite, execRouteTableWrite, regWrite_admits hadm, routeEffect, if_neg (by simp [reaches_zero hh])]
  dsimp only
  rw [fld_renewLease_noc m s NOC_RT_SEL_ROUTER, fld_renewLease_noc m s NOC_RT_SEL_DEST, routesLocked_congr (reg_renewLease_epoch m s),
    on_renewLease_noc m s NOC_EPOCH_CUR, on_renewLease_noc m s NOC_RT_SEL_VNET, renewLease_noc, if_neg (by omega)]

theorem route_written (hadm : s.admits m .NOC_RT_DATA []) (hh : h ≠ .high) (hr : s.fld NOC_RT_SEL_ROUTER < 80)
    (hd : s.fld NOC_RT_SEL_DEST < 80) (hp : bits data 0 3 < 5) (hlock : routesLocked s = false)
    (hne : s.fld NOC_RT_SEL_ROUTER ≠ s.fld NOC_RT_SEL_DEST) (hport : bits data 0 3 ≠ 0)
    (hnb : (neighbour (s.fld NOC_RT_SEL_ROUTER) (bits data 0 3)).isSome) :
    ∃ t, exec (.routeTableWrite m h data) s = .next t ∧
      t.route (!s.on NOC_EPOCH_CUR) (s.on NOC_RT_SEL_VNET) (s.fld NOC_RT_SEL_ROUTER) (s.fld NOC_RT_SEL_DEST) = bits data 0 3 ∧
      (∀ net r d, r < 80 → d < 80 → t.route (s.on NOC_EPOCH_CUR) net r d = s.route (s.on NOC_EPOCH_CUR) net r d) ∧
      t.out = s.out ∧ t.mem = s.mem ∧ regsKeep [leaseKey] s t := by
  have hgo : ¬ (routesLocked s ∨ s.fld NOC_RT_SEL_ROUTER = s.fld NOC_RT_SEL_DEST ∨ bits data 0 3 = 0 ∨
      (neighbour (s.fld NOC_RT_SEL_ROUTER) (bits data 0 3)).isNone) := by
    rw [hlock, Option.isNone_iff_eq_none]
    simp [hne, hport, Option.isSome_iff_ne_none.mp hnb]
  refine ⟨_, (routeTableWrite_admits hadm hh hr hd hp).trans (congrArg Host.Outcome.next (if_neg hgo)),
    Memory.get_set_same _ _ s.noc.routes, fun net r d hr' hd' => ?_, renewLease_out m s, renewLease_mem m s, renewLease_regsKeep m s⟩
  exact Memory.get_set_other _ (routeKey_epochs_ne _ net _ hr' hd' hr hd) s.noc.routes

theorem route_refused (hadm : s.admits m .NOC_RT_DATA []) (hh : h ≠ .high) (hr : s.fld NOC_RT_SEL_ROUTER < 80)
    (hd : s.fld NOC_RT_SEL_DEST < 80) (hp : bits data 0 3 < 5)
    (hno : routesLocked s = true ∨ s.fld NOC_RT_SEL_ROUTER = s.fld NOC_RT_SEL_DEST ∨ bits data 0 3 = 0 ∨
      (neighbour (s.fld NOC_RT_SEL_ROUTER) (bits data 0 3)).isNone) :
    ∃ t, exec (.routeTableWrite m h data) s = .next t ∧ t.fld NOC_EPOCH_RT_REFUSED = 1 ∧ t.noc = s.noc ∧
      onlyRegs [leaseKey, NOC_EPOCH_RT_REFUSED.off] s t := by
  refine ⟨_, (routeTableWrite_admits hadm hh hr hd hp).trans (congrArg Host.Outcome.next (if_pos hno)),
    fld_setFld_fits _ NOC_EPOCH_RT_REFUSED 0 0 0 (by decide), renewLease_noc m s, ?_⟩
  exact onlyRegs_after_setFld NOC_EPOCH_RT_REFUSED _ 0 0 0 (onlyRegs_mono (by simp) (onlyRegs_renewLease m s)) (.tail _ (.head _))

/-! ### The epoch (R476, R478, R479) -/

/-- A field written 1 to clear keeps its value where no 1 is written. -/
theorem writeField_rw1c_kept {mask : Word} {lo w : Nat} (v : Word) (b : Bool) (hz : ∀ i, lo ≤ i → i < lo + w → bit data i = false) :
    writeField data mask b ⟨lo, w, .rw1c⟩ v = v := by
  refine BitVec.eq_of_getLsbD_eq fun i hi => ?_
  simp only [writeField, BitVec.getLsbD_and, BitVec.getLsbD_not, fieldMask_getLsbD]
  by_cases hin : lo ≤ i ∧ i < lo + w
  · rw [show data.getLsbD i = false from hz i hin.1 hin.2]
    simp [hi]
  · simp [hi]
    omega

theorem bits_writeField_cleared {mask : Word} {lo w lo' w' : Nat} (v : Word) (b : Bool) (hd : lo' + w' ≤ lo ∨ lo + w ≤ lo') :
    bits (writeField data mask b ⟨lo, w, .rw1c⟩ v) lo' w' = bits v lo' w' := by
  refine Nat.eq_of_testBit_eq fun i => ?_
  simp only [bits_testBit, writeField, BitVec.getLsbD_and, BitVec.getLsbD_not, fieldMask_getLsbD]
  by_cases hi : i < w'
  · by_cases h64 : lo' + i < 64
    · simp [hi, h64]
      omega
    · simp [BitVec.getLsbD_of_ge v (lo' + i) (by omega)]
  · simp [hi]

/-- A write of NOC_EPOCH that clears no flag. -/
theorem plainWrite_epoch (hz : bits data 3 2 = 0) (h : Half) (s : State) : onlyRegs [] s
    (plainWrite (regInfo .NOC_EPOCH).fields NOC_EPOCH_CUR.off (fun _ => false) h data s) := by
  have hbit (i : Nat) (hlo : 3 ≤ i) (hhi : i < 5) : bit data i = false := by
    have htest := bits_testBit data 3 2 (i - 3)
    rw [hz, Nat.zero_testBit, show 3 + (i - 3) = i by omega] at htest
    unfold bit
    simpa [show i - 3 < 2 by omega] using htest.symm
  have hval : writeFields (fun _ => false) (s.reg NOC_EPOCH_CUR.off) data h.mask (regInfo .NOC_EPOCH).fields = s.reg NOC_EPOCH_CUR.off := by
    change writeField data h.mask false ⟨4, 1, .rw1c⟩ (writeField data h.mask false ⟨3, 1, .rw1c⟩ (s.reg NOC_EPOCH_CUR.off)) = _
    rw [writeField_rw1c_kept _ _ fun i hlo hhi => hbit i (by omega) (by omega), writeField_rw1c_kept _ _ fun i hlo hhi => hbit i (by omega) (by omega)]
  refine ⟨rfl, fun k _ => ?_⟩
  unfold plainWrite
  rw [hval, reg_setReg]
  split
  · next heq => rw [heq]
  · rfl

/-- The state in which a write of NOC_EPOCH acts. -/
def epochWritten (m : Ident) (h : Half) (data : Word) (s : State) : State :=
  plainWrite (regInfo .NOC_EPOCH).fields NOC_EPOCH_CUR.off (fun _ => false) h data (renewLease m s)

theorem epochWritten_onlyRegs (hz : bits data 3 2 = 0) (m : Ident) (h : Half) (s : State) : onlyRegs [leaseKey] s (epochWritten m h data s) :=
  onlyRegs_trans (onlyRegs_renewLease m s) (onlyRegs_mono (fun _ hk => by simp at hk) (plainWrite_epoch hz h _))

/-- A write of NOC_EPOCH shows the same epoch and the same lock, whichever flags it clears. -/
theorem epochWritten_shows (m : Ident) (h : Half) (data : Word) (s : State) :
    routesLocked (epochWritten m h data s) = routesLocked s ∧ (epochWritten m h data s).on NOC_EPOCH_CUR = s.on NOC_EPOCH_CUR := by
  have hfld (F : Field) (hF : F.off = NOC_EPOCH_CUR.off) (ha : F.lo + F.w ≤ 3 ∨ 5 ≤ F.lo) : (epochWritten m h data s).fld F = s.fld F := by
    have hkey : F.key 0 0 0 = NOC_EPOCH_CUR.off := by simp [Field.key, hF]
    unfold State.fld
    rw [hkey, ← reg_renewLease_epoch m s]
    refine (congrArg (fun v => bits v F.lo F.w) (reg_setReg_same (renewLease m s) _ _)).trans ?_
    change bits (writeField data h.mask false ⟨4, 1, .rw1c⟩ (writeField data h.mask false ⟨3, 1, .rw1c⟩ ((renewLease m s).reg NOC_EPOCH_CUR.off))) F.lo F.w = _
    rw [bits_writeField_cleared _ _ (by omega), bits_writeField_cleared _ _ (by omega)]
  unfold routesLocked State.on
  rw [hfld NOC_EPOCH_OLD_FLITS rfl (by decide), hfld NOC_EPOCH_PENDING rfl (by decide), hfld NOC_EPOCH_CUR rfl (by decide)]
  exact ⟨rfl, rfl⟩

theorem exec_epoch_admits {c : Instr} (hc : c ∈ [Instr.epochSwitch m h data, .loadXy m h data]) (hadm : s.admits m .NOC_EPOCH [])
    (hh : h ≠ .high) : exec c s = .next (
      let p := epochWritten m h data s
      let p := if bit data 5 then fillXy p else p
      if bit data 2 then askSwitch p else p) := by
  have heff : exec c s = .next (epochEffect h data (renewLease m s)) := by
    simp only [List.mem_cons, List.not_mem_nil, or_false] at hc
    rcases hc with rfl | rfl
    · rw [exec_epochSwitch, execEpochSwitch, regWrite_admits hadm]
    · rw [exec_loadXy, execLoadXy, regWrite_admits hadm]
  rw [heff, epochEffect, wbit_low hh data (f := NOC_EPOCH_LOAD_XY) (by decide), wbit_low hh data (f := NOC_EPOCH_SWITCH) (by decide)]
  rfl

theorem switch_asked {c : Instr} (hc : c ∈ [Instr.epochSwitch m h data, .loadXy m h data]) (hadm : s.admits m .NOC_EPOCH [])
    (hh : h ≠ .high) (hz : bits data 3 2 = 0) (hfill : bit data 5 = false) :
    (bit data 2 = true → routesLocked s = false →
      ∃ t, exec c s = .next t ∧ t.noc = { s.noc with switchDue := some s.nextDue } ∧ t.fld NOC_EPOCH_PENDING = 1 ∧
        t.fld NOC_EPOCH_CUR = s.fld NOC_EPOCH_CUR ∧ onlyRegs [leaseKey, NOC_EPOCH_CUR.off] { s with noc := t.noc } t) ∧
    (bit data 2 = true → routesLocked s = true →
      ∃ t, exec c s = .next t ∧ t.noc = s.noc ∧ t.fld NOC_EPOCH_SWITCH_REFUSED = 1 ∧ onlyRegs [leaseKey, NOC_EPOCH_CUR.off] s t) := by
  have hkeep := epochWritten_onlyRegs hz m h s
  obtain ⟨hrest, hregs⟩ := id hkeep
  have hepoch : (epochWritten m h data s).reg NOC_EPOCH_CUR.off = s.reg NOC_EPOCH_CUR.off := hregs _ (by decide)
  have hnoc : (epochWritten m h data s).noc = s.noc := by rw [hrest]
  have hlock := routesLocked_congr hepoch
  have hexec (hask : bit data 2 = true) : exec c s = .next (askSwitch (epochWritten m h data s)) := by
    rw [exec_epoch_admits hc hadm hh]
    simp [hfill, hask]
  refine ⟨fun hask hopen => ?_, fun hask hlocked => ?_⟩
  · have hdue : (epochWritten m h data s).nextDue = s.nextDue := nextDue_congr (hregs _ (by decide)) (by rw [hrest])
    have hask' : askSwitch (epochWritten m h data s) = { (epochWritten m h data s).setFld NOC_EPOCH_PENDING 1 with
        noc := { s.noc with switchDue := some s.nextDue } } := by
      unfold askSwitch
      rw [hlock, hopen, if_neg (by decide), hdue, ← hnoc]
      rfl
    refine ⟨{ (epochWritten m h data s).setFld NOC_EPOCH_PENDING 1 with noc := { s.noc with switchDue := some s.nextDue } },
      (hexec hask).trans (congrArg _ hask'), rfl, fld_setFld_fits (epochWritten m h data s) NOC_EPOCH_PENDING 0 0 0 (by decide), ?_, ?_, ?_⟩
    · exact (fld_setFld_beside (epochWritten m h data s) NOC_EPOCH_PENDING NOC_EPOCH_CUR 1).trans (fld_congr NOC_EPOCH_CUR 0 0 0 hepoch)
    · rw [State.setFld, State.setReg]
      dsimp only
      rw [hrest]
    · exact regsKeep_after_setFld NOC_EPOCH_PENDING 1 0 0 0 (regsKeep_mono (by simp) hregs) (.tail _ (.head _))
  · have hask' : askSwitch (epochWritten m h data s) = (epochWritten m h data s).setFld NOC_EPOCH_SWITCH_REFUSED 1 := by
      unfold askSwitch
      rw [hlock, hlocked, if_pos rfl]
    refine ⟨_, (hexec hask).trans (congrArg _ hask'), hnoc, fld_setFld_fits _ NOC_EPOCH_SWITCH_REFUSED 0 0 0 (by decide), ?_⟩
    exact onlyRegs_after_setFld NOC_EPOCH_SWITCH_REFUSED 1 0 0 0 (onlyRegs_mono (by simp) hkeep) (.tail _ (.head _))

theorem tables_filled {c : Instr} (hc : c ∈ [Instr.epochSwitch m h data, .loadXy m h data]) (hadm : s.admits m .NOC_EPOCH [])
    (hh : h ≠ .high) (hask : bit data 2 = false) (hfill : bit data 5 = true) (hopen : routesLocked s = false) :
    ∃ t, exec c s = .next t ∧ (∀ net r d, r < 80 → d < 80 → t.route (!s.on NOC_EPOCH_CUR) net r d = xyPort r d ∧
      t.route (s.on NOC_EPOCH_CUR) net r d = s.route (s.on NOC_EPOCH_CUR) net r d) ∧ t.out = s.out ∧ t.mem = s.mem := by
  obtain ⟨hlock, hcur⟩ := epochWritten_shows m h data s
  have hrest : epochWritten m h data s = { s with regs := (epochWritten m h data s).regs } :=
    (onlyRegs_trans (l := [leaseKey, NOC_EPOCH_CUR.off]) (onlyRegs_mono (by simp) (onlyRegs_renewLease m s))
      (onlyRegs_mono (by simp) (plainWrite_onlyRegs _ _ _ h data _))).1
  have hnoc : (epochWritten m h data s).noc = s.noc := by rw [hrest]
  have hexec : exec c s = .next { epochWritten m h data s with noc := { s.noc with
      routes := s.noc.routes.filter (fun e => decide ((e.1 / 12800 = 1) = s.on NOC_EPOCH_CUR)) } } := by
    rw [exec_epoch_admits hc hadm hh]
    dsimp only
    rw [hfill, hask, if_pos rfl, if_neg (by decide), fillXy, hlock, hopen, if_neg (by decide), hcur, hnoc]
  refine ⟨_, hexec, fun net r d hr hd => ⟨?_, ?_⟩, by rw [hrest], by rw [hrest]⟩
  · refine (Memory.get_filter routeReset (fun k => decide ((k / 12800 = 1) = s.on NOC_EPOCH_CUR)) _ s.noc.routes).trans ?_
    rw [routeKey_epoch _ net hr hd, routeReset_routeKey _ net hr hd, if_neg]
    cases s.on NOC_EPOCH_CUR <;> simp [bnat]
  · refine (Memory.get_filter routeReset (fun k => decide ((k / 12800 = 1) = s.on NOC_EPOCH_CUR)) _ s.noc.routes).trans (if_pos ?_)
    rw [routeKey_epoch _ net hr hd]
    cases s.on NOC_EPOCH_CUR <;> simp [bnat]

/-! ### Link replay (R486, R487) -/

theorem fld_addFld_beside (s : State) (F G : Field) (m : Nat) {i j k i' j' k' : Nat} (h : G.lo + G.w ≤ F.lo ∨ F.lo + F.w ≤ G.lo := by decide)
    (hF : F.good := by unfold Field.good; decide) : (s.addFld F m i j k).fld G i' j' k' = s.fld G i' j' k' := fld_setFld_beside s F G _ (by omega) hF

theorem fld_addFld_elsewhere (s : State) (F G : Field) (m : Nat) {i j k i' j' k' : Nat} (h : G.key i' j' k' ≠ F.key i j k) :
    (s.addFld F m i j k).fld G i' j' k' = s.fld G i' j' k' := fld_setFld_elsewhere s F G _ h


theorem replay_passes {l : Fin 320} {f : LinkFlit} {same : Bool} (hcrc : f.crc = flitCrc f.payload)
    (hpar : f.parity = Machine.parity (f.hops.setWidth 64) 7) (hheader : f.header = false) : exec (.linkReplay l f same) s = .next s := by
  rw [exec_linkReplay, execLinkReplay, if_pos]
  refine .inr ?_
  unfold LinkFlit.passes
  simp [hcrc, hpar, hheader]

/-- The counts of a replay of link `l` that is the `run`th of its flit in a row. -/
def replayCounted (l run : Nat) (s : State) : State :=
  (((((({ s with noc := { s.noc with runs := Memory.set (fun _ => 0) s.noc.runs l run } }).addFld NOC_REPLAY_REPLAYS 1).addFld NOC_REPLAY_CRC_ERR 1).addFld
    NOC_LINKl_STAT_REPLAYS 1 l).addFld NOC_LINKl_STAT_CRC_ERR 1 l).maxFld NOC_LINKl_STAT_MAX_RUN (min run 65535) l)

theorem exec_linkReplay_fails {l : Fin 320} {f : LinkFlit} (same : Bool) (hnb : (neighbour (l / 4) (l % 4 + 1)).isSome)
    (hbad : f.passes = false) {run : Nat} (hrun : run = if same then Memory.get (fun _ => 0) s.noc.runs l + 1 else 1) :
    exec (.linkReplay l f same) s = if run = 16 then .next (raise 0x141 l ((replayCounted l run s).setFld NOC_LINKl_STAT_FAILED 1 l))
      else .next (replayCounted l run s) := by
  rw [exec_linkReplay, execLinkReplay, if_neg, hrun]
  · rfl
  · rw [Option.isNone_iff_eq_none]
    simp [Option.isSome_iff_ne_none.mp hnb, hbad]

theorem replayCounted_spec {l run : Nat} (hrun : run ≤ 65535) (s : State) :
    Memory.get (fun _ => 0) (replayCounted l run s).noc.runs l = run ∧
      (replayCounted l run s).fld NOC_LINKl_STAT_REPLAYS l = (s.fld NOC_LINKl_STAT_REPLAYS l + 1) % 2 ^ 16 ∧
      (replayCounted l run s).fld NOC_LINKl_STAT_MAX_RUN l = max (s.fld NOC_LINKl_STAT_MAX_RUN l) run ∧
      (replayCounted l run s).fld NOC_REPLAY_REPLAYS = (s.fld NOC_REPLAY_REPLAYS + 1) % 2 ^ 32 ∧
      (replayCounted l run s).fld NOC_REPLAY_CRC_ERR = (s.fld NOC_REPLAY_CRC_ERR + 1) % 2 ^ 32 ∧
      (replayCounted l run s).fld NOC_LINKl_STAT_FAILED l = s.fld NOC_LINKl_STAT_FAILED l := by
  have hkey (F G : Field) (hF : F.off = 0x600030) (hF1 : F.s1 = 0) (hG : G.off = 0x602000) : F.key 0 0 0 ≠ G.key l 0 0 := by
    simp only [Field.key, hF, hF1, hG]
    omega
  have hback (F : Field) (hF : F.off = 0x600030) (hF1 : F.s1 = 0) : (replayCounted l run s).fld F =
      ((s.addFld NOC_REPLAY_REPLAYS 1).addFld NOC_REPLAY_CRC_ERR 1).fld F := by
    unfold replayCounted
    rw [State.maxFld, fld_setFld_elsewhere _ NOC_LINKl_STAT_MAX_RUN F _ (hkey F _ hF hF1 rfl),
      fld_addFld_elsewhere _ NOC_LINKl_STAT_CRC_ERR F _ (hkey F _ hF hF1 rfl), fld_addFld_elsewhere _ NOC_LINKl_STAT_REPLAYS F _ (hkey F _ hF hF1 rfl)]
    rfl
  have hlink (F : Field) (hF : F.off = 0x602000) : (((({ s with noc := { s.noc with
      runs := Memory.set (fun _ => 0) s.noc.runs l run } }).addFld NOC_REPLAY_REPLAYS 1).addFld NOC_REPLAY_CRC_ERR 1)).fld F l = s.fld F l := by
    rw [fld_addFld_elsewhere _ NOC_REPLAY_CRC_ERR F _ (hkey _ F rfl rfl hF).symm, fld_addFld_elsewhere _ NOC_REPLAY_REPLAYS F _ (hkey _ F rfl rfl hF).symm]
    rfl
  have hmax : max (s.fld NOC_LINKl_STAT_MAX_RUN l) run < 2 ^ 16 := by
    have hlt : s.fld NOC_LINKl_STAT_MAX_RUN l < 2 ^ 16 := bits_lt (s.reg (NOC_LINKl_STAT_MAX_RUN.key l 0 0)) 32 16
    omega
  refine ⟨Memory.get_set_same l run s.noc.runs, ?_, ?_, ?_, ?_, ?_⟩
  · unfold replayCounted State.maxFld
    rw [fld_setFld_beside _ NOC_LINKl_STAT_MAX_RUN NOC_LINKl_STAT_REPLAYS, fld_addFld_beside _ NOC_LINKl_STAT_CRC_ERR NOC_LINKl_STAT_REPLAYS,
      fld_addFld _ NOC_LINKl_STAT_REPLAYS 1 l 0 0, hlink NOC_LINKl_STAT_REPLAYS rfl]
    rfl
  · unfold replayCounted State.maxFld
    rw [fld_addFld_beside _ NOC_LINKl_STAT_CRC_ERR NOC_LINKl_STAT_MAX_RUN, fld_addFld_beside _ NOC_LINKl_STAT_REPLAYS NOC_LINKl_STAT_MAX_RUN,
      hlink NOC_LINKl_STAT_MAX_RUN rfl, Nat.min_eq_left hrun, fld_setFld_fits _ NOC_LINKl_STAT_MAX_RUN l 0 0 hmax]
  · rw [hback NOC_REPLAY_REPLAYS rfl rfl, fld_addFld_beside _ NOC_REPLAY_CRC_ERR NOC_REPLAY_REPLAYS, fld_addFld _ NOC_REPLAY_REPLAYS 1 0 0 0]
    rfl
  · rw [hback NOC_REPLAY_CRC_ERR rfl rfl, fld_addFld _ NOC_REPLAY_CRC_ERR 1 0 0 0, fld_addFld_beside _ NOC_REPLAY_REPLAYS NOC_REPLAY_CRC_ERR]
    rfl
  · unfold replayCounted State.maxFld
    rw [fld_setFld_beside _ NOC_LINKl_STAT_MAX_RUN NOC_LINKl_STAT_FAILED, fld_addFld_beside _ NOC_LINKl_STAT_CRC_ERR NOC_LINKl_STAT_FAILED,
      fld_addFld_beside _ NOC_LINKl_STAT_REPLAYS NOC_LINKl_STAT_FAILED, hlink NOC_LINKl_STAT_FAILED rfl]

theorem replay_fails_link {l : Fin 320} {f : LinkFlit} (hnb : (neighbour (l / 4) (l % 4 + 1)).isSome) (hbad : f.passes = false)
    (hrun : Memory.get (fun _ => 0) s.noc.runs l = 15) :
    ∃ u, exec (.linkReplay l f true) s = .next (raise 0x141 l u) ∧ u.fld NOC_LINKl_STAT_FAILED l = 1 ∧
      u.fld NOC_LINKl_STAT_REPLAYS l = (s.fld NOC_LINKl_STAT_REPLAYS l + 1) % 2 ^ 16 ∧
      u.fld NOC_LINKl_STAT_MAX_RUN l = max (s.fld NOC_LINKl_STAT_MAX_RUN l) 16 ∧
      u.fld NOC_REPLAY_REPLAYS = (s.fld NOC_REPLAY_REPLAYS + 1) % 2 ^ 32 ∧ u.out = s.out ∧ u.noc.mesh = s.noc.mesh := by
  obtain ⟨-, hreplays, hmax, hall, -, -⟩ := replayCounted_spec (l := l) (run := 16) (by decide) s
  have hexec := exec_linkReplay_fails (s := s) true hnb hbad (run := 16) (by rw [hrun]; rfl)
  have hkey : NOC_REPLAY_REPLAYS.key 0 0 0 ≠ NOC_LINKl_STAT_FAILED.key l 0 0 := by
    simp only [Field.key, NOC_REPLAY_REPLAYS, NOC_LINKl_STAT_FAILED]
    omega
  refine ⟨(replayCounted l 16 s).setFld NOC_LINKl_STAT_FAILED 1 l, hexec.trans (if_pos rfl), fld_setFld_fits _ NOC_LINKl_STAT_FAILED l 0 0 (by decide), ?_, ?_, ?_, rfl, rfl⟩
  · rw [fld_setFld_beside _ NOC_LINKl_STAT_FAILED NOC_LINKl_STAT_REPLAYS, hreplays]
  · rw [fld_setFld_beside _ NOC_LINKl_STAT_FAILED NOC_LINKl_STAT_MAX_RUN, hmax]
  · rw [fld_setFld_elsewhere _ NOC_LINKl_STAT_FAILED NOC_REPLAY_REPLAYS _ hkey, hall]

theorem replay_first {l : Fin 320} {f : LinkFlit} (hnb : (neighbour (l / 4) (l % 4 + 1)).isSome) (hbad : f.passes = false) :
    ∃ t, exec (.linkReplay l f false) s = .next t ∧ Memory.get (fun _ => 0) t.noc.runs l = 1 ∧
      t.fld NOC_REPLAY_CRC_ERR = (s.fld NOC_REPLAY_CRC_ERR + 1) % 2 ^ 32 ∧ t.fld NOC_LINKl_STAT_FAILED l = s.fld NOC_LINKl_STAT_FAILED l ∧
      t.out = s.out ∧ t.noc.mesh = s.noc.mesh := by
  obtain ⟨hruns, -, -, -, hcrc, hfailed⟩ := replayCounted_spec (l := l) (run := 1) (by decide) s
  exact ⟨replayCounted l 1 s, exec_linkReplay_fails (s := s) false hnb hbad (run := 1) rfl, hruns, hcrc, hfailed, rfl, rfl⟩

/-! ### The drain of an endpoint (R484) -/

theorem endpoint_drained {e : Fin 320} (hport : portOfEndpoint e = none) (hdram : ∀ c, c < 4 → dramEndpoint c ≠ e)
    (hclosing : s.fld NOC_EPe_STATUS_DAMPER e = 1) (hnone : s.fld NOC_EPe_STATUS_OUTSTANDING e = 0) :
    ∃ t, exec (.endpointDrainDone e) s = .next t ∧ t.fld NOC_EPe_STATUS_DAMPER e = 2 ∧ onlyRegs [NOC_EPe_STATUS_DAMPER.key e 0 0] s t := by
  have hfind : (List.range 4).find? (fun c => decide (dramEndpoint c = e)) = none := by
    rw [List.find?_eq_none]
    intro c hc
    simpa using hdram c (List.mem_range.mp hc)
  refine ⟨s.setFld NOC_EPe_STATUS_DAMPER 2 e, ?_, fld_setFld_fits s NOC_EPe_STATUS_DAMPER e 0 0 (by decide), onlyRegs_setFld s _ _ _ _ _⟩
  rw [exec_endpointDrainDone, execEndpointDrainDone, if_pos ⟨hclosing, hnone⟩, endpointShut, hport]
  dsimp only
  rw [hfind]

/-- Settles O43. -/
theorem networkControl : Obligations.NetworkControl :=
  ⟨fun _ _ _ _ hadm hh hr hd hp => ⟨fun hlock hne hport hnb => route_written hadm hh hr hd hp hlock hne hport hnb,
      fun hno => route_refused hadm hh hr hd hp hno⟩,
    fun _ _ _ _ _ hc hadm hh hz hfill => switch_asked hc hadm hh hz hfill,
    fun _ _ _ _ _ hc hadm hh hask hfill hopen => tables_filled hc hadm hh hask hfill hopen,
    fun _ _ _ _ hcrc hpar hheader => replay_passes hcrc hpar hheader, fun _ _ _ hnb hbad hrun => replay_fails_link hnb hbad hrun,
    fun _ _ _ hnb hbad => replay_first hnb hbad, fun _ _ hport hdram hclosing hnone => endpoint_drained hport hdram hclosing hnone⟩

end Sys2Proof.Machine
end

section
-- One proof at a time: the memory limit of the check counts a stack for every proof that waits for another.
set_option Elab.async false
/-! SUPPORT. Requests and responses in the mesh: injection, forwarding and ejection (R465 to R482). -/

namespace Sys2Proof.Machine

variable {s t : State} {q : NocReq} {x : MeshPacket}

/-! ### Injection (R465, R472, R484) -/

theorem onlyRegs.fld_elsewhere {l : List Nat} (h : onlyRegs l s t) (F : Field) (i j k : Nat) (hF : F.key i j k ∉ l) :
    t.fld F i j k = s.fld F i j k := fld_congr F i j k (h.2 _ hF)

theorem exec_nocInject_request {e : Fin 320} (hport : portOfEndpoint e = none) (hop : q.op ≠ 8) (hst : stamps e q.ident s = true) :
    exec (.nocInject e q) s = .next (match injectTest e q s with
      | .waits => s
      | .refused st => nocRefuse e q.tag st (countStatus e st s)
      | .sent k => injectPacket e k (s.addFld NOC_EPe_STATUS_OUTSTANDING 1 e)) := by
  rw [exec_nocInject, execNocInject, if_neg (show ¬ q.op = opResponse from hop), hport]
  dsimp only
  rw [endpointRequest, if_neg (by simp [hst])] <;> rfl

/-- The registers of the endpoints lie beside those of the epoch. -/
theorem endpoint_key_ne_epoch {F : Field} (hF : F.off = 0x601000) (e : Nat) : F.key e 0 0 ≠ NOC_EPOCH_OLD_FLITS.off := by
  simp only [Field.key, hF, NOC_EPOCH_OLD_FLITS]
  omega

theorem request_enters {e : Fin 320} {k : NocPacket} (hport : portOfEndpoint e = none) (hop : q.op ≠ 8) (hst : stamps e q.ident s = true)
    (hk : makePacket e q s = some k) (hd : s.fld NOC_EPe_STATUS_DAMPER e = 0) (hc : (s.credit (creditKey 1 e k.channel)).held ≠ 0) :
    ∃ t, exec (.nocInject e q) s = .next t ∧ t.noc.mesh = s.noc.mesh ++ [⟨k, 1, e, e / 4, 0⟩] ∧
      (t.credit (creditKey 1 e k.channel)).held = (s.credit (creditKey 1 e k.channel)).held - 1 ∧
      t.fld NOC_EPe_STATUS_OUTSTANDING e = (s.fld NOC_EPe_STATUS_OUTSTANDING e + 1) % 2 ^ 13 ∧ t.out = s.out ∧ t.mem = s.mem ∧
      regsKeep [NOC_EPe_STATUS_OUTSTANDING.key e 0 0, NOC_EPOCH_OLD_FLITS.off] s t := by
  have hkeep := injectPacket_netKeeps e k (s.addFld NOC_EPe_STATUS_OUTSTANDING 1 e)
  have hkey : NOC_EPe_STATUS_OUTSTANDING.key e 0 0 ≠ NOC_EPOCH_OLD_FLITS.off := endpoint_key_ne_epoch rfl e
  refine ⟨injectPacket e k (s.addFld NOC_EPe_STATUS_OUTSTANDING 1 e), ?_, injectPacket_mesh e k _, injectPacket_credit hc, ?_, hkeep.out, hkeep.mem, ?_⟩
  · rw [exec_nocInject_request hport hop hst, injectTest_sent hk hd hc]
  · rw [hkeep.fld NOC_EPe_STATUS_OUTSTANDING e 0 0 hkey]
    exact fld_addFld s NOC_EPe_STATUS_OUTSTANDING 1 e 0 0
  · exact regsKeep_trans (regsKeep_mono (by simp) (regsKeep_setFld s NOC_EPe_STATUS_OUTSTANDING _ e 0 0)) (regsKeep_mono (by simp) hkeep.2)

theorem request_refused {e : Fin 320} (hport : portOfEndpoint e = none) (hop : q.op ≠ 8) (hst : stamps e q.ident s = true) :
    (makePacket e q s = none →
      ∃ t, exec (.nocInject e q) s = .next t ∧ t.out = .response e q.tag .decode [] :: s.out ∧ t.noc = s.noc ∧
        t.fld NOC_COUNTS_DECODE = (s.fld NOC_COUNTS_DECODE + 1) % 2 ^ 16 ∧ regsKeep [NOC_COUNTS_DECODE.off] s t) ∧
    (∀ k, makePacket e q s = some k → s.fld NOC_EPe_STATUS_DAMPER e ≠ 0 →
      ∃ t, exec (.nocInject e q) s = .next t ∧ t.out = .response e q.tag .fenced [] :: s.out ∧ t.noc = s.noc ∧
        t.fld NOC_COUNTS_FENCED = (s.fld NOC_COUNTS_FENCED + 1) % 2 ^ 16 ∧
        regsKeep [NOC_COUNTS_FENCED.off, NOC_EPe_STATUS_FENCED.key e 0 0] s t) := by
  refine ⟨fun hnone => ⟨nocRefuse e q.tag .decode (countStatus e .decode s), ?_, rfl, rfl, fld_addFld s NOC_COUNTS_DECODE 1 0 0 0, (countStatus_decode e s).2⟩,
    fun k hk hd => ⟨nocRefuse e q.tag .fenced (countStatus e .fenced s), ?_, rfl, rfl, ?_, (countStatus_fenced e s).2⟩⟩
  · rw [exec_nocInject_request hport hop hst, injectTest_unmade hnone]
  · rw [exec_nocInject_request hport hop hst, injectTest_fenced hk hd]
  · have hkey : NOC_COUNTS_FENCED.key 0 0 0 ≠ NOC_EPe_STATUS_FENCED.key e 0 0 := by
      simp only [Field.key, NOC_COUNTS_FENCED, NOC_EPe_STATUS_FENCED]
      omega
    exact (fld_addFld_elsewhere (s.addFld NOC_COUNTS_FENCED 1) NOC_EPe_STATUS_FENCED NOC_COUNTS_FENCED 1 hkey).trans
      (fld_addFld s NOC_COUNTS_FENCED 1 0 0 0)

/-- A response travels in the virtual channel of its request's network and class (R469). -/
theorem responseTo_channel (p : NocPacket) (st : Status) (v : Nat) (b : Bool) (data : List Word) (s : State) :
    (responseTo p st v b data s).channel = if p.vnet = 2 then 7 else if p.vc = 0 then 4 else 5 := by
  unfold responseTo NocPacket.channel
  by_cases hnet : p.vnet = 2
  · simp [hnet]
  · by_cases hvc : p.vc = 0 <;> simp [hnet, hvc]

theorem response_enters {e : Fin 320} {p r : NocPacket} (hop : q.op = 8) (hq : q.answers = some p) (hdest : p.dest = e)
    (hr : r = responseTo p q.status (bits q.body 0 24) q.poison q.data s) (hc : (s.credit (creditKey 1 e r.channel)).held ≠ 0) :
    ∃ t, exec (.nocInject e q) s = .next t ∧ t.noc.mesh = s.noc.mesh ++ [⟨r, 1, e, e / 4, 0⟩] ∧ r.tag = p.tag ∧
      r.destRtr = p.srcRtr ∧ r.destEp = p.srcEp ∧ r.channel = (if p.vnet = 2 then 7 else if p.vc = 0 then 4 else 5) ∧
      t.out = s.out ∧ t.mem = s.mem ∧ regsKeep [NOC_EPOCH_OLD_FLITS.off] s t := by
  have hkeep := putResponse_netKeeps e r s
  refine ⟨putResponse e r s, ?_, putResponse_mesh e r s, by rw [hr]; rfl, by rw [hr]; rfl, by rw [hr]; rfl, by rw [hr, responseTo_channel],
    hkeep.out, hkeep.mem, hkeep.2⟩
  rw [exec_nocInject, execNocInject, if_pos (show q.op = opResponse from hop), endpointResponse, hq]
  dsimp only
  rw [← hr, if_pos ⟨hdest, decide_eq_true hc⟩]

/-! ### Identities (R459, R579) -/

theorem mkIdent_fields {dev cls i : Nat} (hdev : dev < 2 ^ 14) (hcls : cls < 2 ^ 4) (hi : i < 2 ^ 14) :
    identDev (mkIdent dev cls i) = dev ∧ identClass (mkIdent dev cls i) = cls ∧ identIndex (mkIdent dev cls i) = i := by
  have hnat : (mkIdent dev cls i).toNat = dev * 2 ^ 18 + cls * 2 ^ 14 + i := by
    unfold mkIdent
    rw [BitVec.toNat_ofNat]
    omega
  unfold identDev identClass identIndex bits
  simp only [BitVec.toNat_ushiftRight, Nat.shiftRight_eq_div_pow, hnat]
  omega

theorem identities_stamped {e d : Nat} (he : e < 32) (hd : d < 4) :
    stamps (sgeEndpoint (e / 8)) (mkIdent s.devId 5 e) s = true ∧ stamps (nth 0 ctxEndpoints d) (mkIdent s.devId 6 d) s = true ∧
    stamps 120 (mkIdent s.devId 1 d) s = true ∧ stamps 120 (mkIdent s.devId 5 e) s = false := by
  have hdev : s.devId < 2 ^ 14 := bits_lt (s.reg (BRL_ID_DEVID.key 0 0 0)) 0 14
  obtain ⟨hed, hec, hei⟩ := mkIdent_fields hdev (cls := 5) (by decide) (show e < 2 ^ 14 by omega)
  obtain ⟨hcd, hcc, hci⟩ := mkIdent_fields hdev (cls := 6) (by decide) (show d < 2 ^ 14 by omega)
  obtain ⟨hod, hoc, hoi⟩ := mkIdent_fields hdev (cls := 1) (by decide) (show d < 2 ^ 14 by omega)
  have hsge (k : Nat) : sgeEndpoint k ≠ 120 := by
    unfold sgeEndpoint
    split <;> decide
  refine ⟨?_, ?_, ?_, ?_⟩
  · unfold stamps
    simp only [hed, hec, hei]
    simp [he]
  · unfold stamps
    simp only [hcd, hcc, hci]
    simp [hd]
  · unfold stamps
    simp only [hod, hoc, hoi]
    simp [hd]
  · unfold stamps lends
    simp only [hed, hec, hei]
    simp [ctxEndpoints, (hsge _).symm]

/-! ### Forwarding (R477, R480) -/

theorem meshFirst_zero (x : MeshPacket) (l : List MeshPacket) : meshFirst 0 x l = true := rfl

theorem exec_routerForward_first (hmesh : s.noc.mesh = [x]) (hkind : x.kind < 2) : exec (.routerForward 0) s = .next (forwardPacket 0 x s) := by
  have hkind' : x.kind ≠ 2 := by omega
  rw [exec_routerForward, execRouterForward, hmesh]
  change (if x.kind = 2 ∨ ¬ meshFirst 0 x [x] = true then _ else _) = _
  rw [if_neg (by simp [meshFirst_zero, hkind'])]

/-- A packet moves to a buffer for which the sender holds a credit. -/
theorem moveTo_alone (hmesh : s.noc.mesh = [x]) {kind place router hops : Nat}
    (hc : (s.credit (creditKey kind place x.pkt.channel)).held ≠ 0) :
    NetKeeps s (moveTo 0 x kind place router hops s) ∧
      (moveTo 0 x kind place router hops s).noc.mesh = [{ x with kind := kind, place := place, router := router, hops := hops }] := by
  unfold moveTo
  dsimp only
  rw [if_neg hc]
  refine ⟨((returnCredit_netKeeps _ s).trans (spendCredit_netKeeps _ _)).trans (setMesh_netKeeps _ _), ?_⟩
  rw [setMesh_mesh, spendCredit_mesh, returnCredit_mesh, hmesh]
  rfl

theorem forwardPacket_moves (hh : x.hops < 64 ∨ x.pkt.isResponse = true) : forwardPacket 0 x s =
    if portFor x s = 0 then moveTo 0 x 2 x.pkt.dest x.router (x.hops + 1) s
    else match neighbour x.router (portFor x s) with
      | some r => moveTo 0 x 0 (linkOf x.router (portFor x s)) r (x.hops + 1) s
      | none => s := by
  unfold forwardPacket
  refine (if_neg ?_).trans rfl
  rintro ⟨h64, hresp⟩
  rcases hh with hh | hh
  · omega
  · exact hresp hh

theorem packet_forwarded {n : Nat} (hmesh : s.noc.mesh = [x]) (hkind : x.kind < 2) (hh : x.hops < 64 ∨ x.pkt.isResponse = true)
    (hport : portFor x s ≠ 0) (hnb : neighbour x.router (portFor x s) = some n)
    (hc : (s.credit (creditKey 0 (linkOf x.router (portFor x s)) x.pkt.channel)).held ≠ 0) :
    ∃ t, exec (.routerForward 0) s = .next t ∧ t.out = s.out ∧ t.mem = s.mem ∧ t.noc.mesh = [{ x with
      kind := 0, place := linkOf x.router (portFor x s)
      router := n, hops := x.hops + 1 }] := by
  obtain ⟨hkeep, hmoved⟩ := moveTo_alone hmesh (router := n) (hops := x.hops + 1) hc
  refine ⟨_, ?_, hkeep.out, hkeep.mem, hmoved⟩
  rw [exec_routerForward_first hmesh hkind, forwardPacket_moves hh, if_neg hport, hnb]

theorem packet_ejected (hmesh : s.noc.mesh = [x]) (hkind : x.kind < 2) (hh : x.hops < 64 ∨ x.pkt.isResponse = true)
    (hport : portFor x s = 0) (hc : (s.credit (creditKey 2 x.pkt.dest x.pkt.channel)).held ≠ 0) :
    ∃ t, exec (.routerForward 0) s = .next t ∧ t.out = s.out ∧ t.mem = s.mem ∧
      t.noc.mesh = [{ x with kind := 2, place := x.pkt.dest, hops := x.hops + 1 }] := by
  obtain ⟨hkeep, hmoved⟩ := moveTo_alone hmesh (router := x.router) (hops := x.hops + 1) hc
  refine ⟨_, ?_, hkeep.out, hkeep.mem, hmoved⟩
  rw [exec_routerForward_first hmesh hkind, forwardPacket_moves hh, if_pos hport]

/-! ### Packets that leave the mesh (R480 to R482) -/

theorem leaveMesh_netKeeps (k : Nat) (x : MeshPacket) (s : State) : NetKeeps s (leaveMesh k x s) :=
  (setMesh_netKeeps s _).trans (returnCredit_netKeeps _ _)

theorem leaveMesh_mesh (k : Nat) (x : MeshPacket) (s : State) : (leaveMesh k x s).noc.mesh = s.noc.mesh.eraseIdx k :=
  returnCredit_mesh _ _

theorem returnCredit_fld (k : Nat) (s : State) (F : Field) (i j l : Nat) : (returnCredit k s).fld F i j l = s.fld F i j l := by
  unfold returnCredit
  dsimp only
  split <;> rfl

/-- The epoch and the tick, which a response carries. -/
def Shows (s t : State) : Prop := t.fld NOC_EPOCH_CUR = s.fld NOC_EPOCH_CUR ∧ t.fld TCK_COUNT_COUNT = s.fld TCK_COUNT_COUNT

theorem leaveMesh_shows (k : Nat) (x : MeshPacket) (s : State) : Shows s (leaveMesh k x s) := by
  unfold leaveMesh State.setMesh syncOldFlits
  refine ⟨(returnCredit_fld _ _ NOC_EPOCH_CUR 0 0 0).trans ?_, (returnCredit_fld _ _ TCK_COUNT_COUNT 0 0 0).trans ?_⟩
  · exact fld_setFld_beside _ NOC_EPOCH_OLD_FLITS NOC_EPOCH_CUR _
  · exact fld_setFld_elsewhere _ NOC_EPOCH_OLD_FLITS TCK_COUNT_COUNT _ (by decide)

theorem responseTo_congr (h : Shows s t) (p : NocPacket) (st : Status) (v : Nat) (b : Bool) (data : List Word) :
    responseTo p st v b data t = responseTo p st v b data s := by
  obtain ⟨hcur, htick⟩ := h
  unfold responseTo State.on
  rw [hcur, htick]

theorem countStatus_keeps (e : Nat) (st : Status) (s : State) : ∃ l, onlyRegs l s (countStatus e st s) ∧
    ∀ k ∈ l, k = NOC_COUNTS_FENCED.off ∨ k = NOC_EPe_STATUS_FENCED.key e 0 0 := by
  unfold countStatus
  split
  · exact ⟨_, countStatus_fenced e s, by simp⟩
  · exact ⟨[NOC_COUNTS_FENCED.off], onlyRegs_addFld s NOC_COUNTS_GATED 1 0 0 0, by simp⟩
  · exact ⟨[NOC_COUNTS_FENCED.off], onlyRegs_addFld s NOC_COUNTS_DECODE 1 0 0 0, by simp⟩
  · exact ⟨[], onlyRegs_refl [] s, by simp⟩

theorem countStatus_shows (e : Nat) (st : Status) (s : State) : Shows s (countStatus e st s) := by
  obtain ⟨l, hkeep, hl⟩ := countStatus_keeps e st s
  have hne (F : Field) (hF : F.key 0 0 0 < 0x600028) : F.key 0 0 0 ∉ l := fun hmem => by
    rcases hl _ hmem with h | h
    · rw [h] at hF
      exact absurd hF (by decide)
    · rw [h] at hF
      simp only [Field.key, NOC_EPe_STATUS_FENCED] at hF
      omega
  exact ⟨hkeep.fld_elsewhere NOC_EPOCH_CUR 0 0 0 (hne _ (by decide)), hkeep.fld_elsewhere TCK_COUNT_COUNT 0 0 0 (hne _ (by decide))⟩

theorem Shows.trans {u : State} (h : Shows s t) (h' : Shows t u) : Shows s u := ⟨h'.1.trans h.1, h'.2.trans h.2⟩

theorem nocRespond_netKeeps (e : Nat) (p : NocPacket) (st : Status) (s : State) : NetKeeps s (nocRespond e p st s) :=
  putResponse_netKeeps e _ s

theorem nocRespond_mesh (e : Nat) (p : NocPacket) (st : Status) (s : State) :
    (nocRespond e p st s).noc.mesh = s.noc.mesh ++ [⟨responseTo p st 0 false [] s, 1, e, e / 4, 0⟩] := putResponse_mesh e _ s

theorem hop_limit_answered {r : NocPacket} (hmesh : s.noc.mesh = [x]) (hkind : x.kind < 2) (hh : 64 ≤ x.hops)
    (hresp : x.pkt.isResponse = false) (hr : r = responseTo x.pkt .decode 0 false [] s)
    (hc : (s.credit (creditKey 1 (4 * x.router) r.channel)).held ≠ 0) :
    ∃ t, exec (.routerForward 0) s = .next t ∧ t.noc.mesh = [⟨r, 1, 4 * x.router, 4 * x.router / 4, 0⟩] ∧ t.out = s.out ∧
      t.fld NOC_COUNTS_HOPLIMIT = (s.fld NOC_COUNTS_HOPLIMIT + 1) % 2 ^ 16 ∧ t.mem = s.mem := by
  have hleft := leaveMesh_netKeeps 0 x s
  have hexec : exec (.routerForward 0) s = .next (nocRespond (4 * x.router) x.pkt .decode
      (((leaveMesh 0 x s).addFld NOC_COUNTS_DECODE 1).addFld NOC_COUNTS_HOPLIMIT 1)) := by
    rw [exec_routerForward_first hmesh hkind, forwardPacket, if_pos ⟨hh, by simp [hresp]⟩]
    dsimp only
    rw [if_pos (show mayRespond (4 * x.router) (responseTo x.pkt .decode 0 false [] s) s = true from hr ▸ decide_eq_true hc)]
    rfl
  have hshows : Shows s (((leaveMesh 0 x s).addFld NOC_COUNTS_DECODE 1).addFld NOC_COUNTS_HOPLIMIT 1) :=
    ((leaveMesh_shows 0 x s).trans (countStatus_shows 0 .decode _)).trans
      ⟨fld_setFld_elsewhere _ NOC_COUNTS_HOPLIMIT NOC_EPOCH_CUR _ (by decide), fld_setFld_elsewhere _ NOC_COUNTS_HOPLIMIT TCK_COUNT_COUNT _ (by decide)⟩
  have hkeep := nocRespond_netKeeps (4 * x.router) x.pkt .decode (((leaveMesh 0 x s).addFld NOC_COUNTS_DECODE 1).addFld NOC_COUNTS_HOPLIMIT 1)
  refine ⟨_, hexec, ?_, hkeep.out.trans hleft.out, ?_, hkeep.mem.trans hleft.mem⟩
  · rw [nocRespond_mesh, responseTo_congr hshows, ← hr]
    change (leaveMesh 0 x s).noc.mesh ++ _ = _
    rw [leaveMesh_mesh, hmesh]
    rfl
  · rw [hkeep.fld NOC_COUNTS_HOPLIMIT 0 0 0 (by decide), fld_addFld _ NOC_COUNTS_HOPLIMIT 1 0 0 0, fld_addFld_beside _ NOC_COUNTS_DECODE NOC_COUNTS_HOPLIMIT,
      hleft.fld NOC_COUNTS_HOPLIMIT 0 0 0 (by decide)]
    rfl

theorem exec_nocEject_first (hmesh : s.noc.mesh = [x]) (hkind : x.kind = 2) : exec (.nocEject 0) s = .next (ejectPacket 0 x s) := by
  rw [exec_nocEject, execNocEject, hmesh]
  change (if x.kind ≠ 2 ∨ ¬ meshFirst 0 x [x] = true then _ else _) = _
  rw [if_neg (by simp [meshFirst_zero, hkind])]

theorem countLate_other {p : NocPacket} (h : p.channel ≠ 0) (s : State) : countLate p s = s := if_neg fun hp => h hp.1

/-- Whatever the status is, a credit for a response is a credit for every response to the packet. -/
theorem ejectPacket_request (hresp : x.pkt.isResponse = false) (hmay : mayRespond x.pkt.dest (responseTo x.pkt .ok 0 false [] s) s = true)
    (hch : x.pkt.channel ≠ 0) : ejectPacket 0 x s =
    if ¬ opTaken x.pkt then nocRespond x.pkt.dest x.pkt .decode (countStatus x.pkt.dest .decode (leaveMesh 0 x s))
    else if x.pkt.vnet = 0 ∧ s.fld NOC_EPe_STATUS_DAMPER x.pkt.dest ≠ 0 then
      nocRespond x.pkt.dest x.pkt .fenced (countStatus x.pkt.dest .fenced (leaveMesh 0 x s))
    else if requestGated x.pkt s then nocRespond x.pkt.dest x.pkt .errGated (countStatus x.pkt.dest .errGated (leaveMesh 0 x s))
    else match deliver x.pkt s with
      | none => s
      | some s => leaveMesh 0 x s := by
  unfold ejectPacket
  dsimp only
  rw [if_neg (by simp [hresp]), if_neg (by simp [hmay])]
  simp only [countLate_other hch] <;> rfl

/-- The answer of the network to the only packet of the mesh. -/
theorem answered_alone (hmesh : s.noc.mesh = [x]) (st : Status) :
    (nocRespond x.pkt.dest x.pkt st (countStatus x.pkt.dest st (leaveMesh 0 x s))).out = s.out ∧
    (nocRespond x.pkt.dest x.pkt st (countStatus x.pkt.dest st (leaveMesh 0 x s))).noc.mesh =
      [⟨responseTo x.pkt st 0 false [] s, 1, x.pkt.dest, x.pkt.dest / 4, 0⟩] := by
  obtain ⟨l, hcount, -⟩ := countStatus_keeps x.pkt.dest st (leaveMesh 0 x s)
  refine ⟨?_, ?_⟩
  · rw [(nocRespond_netKeeps _ _ _ _).out, hcount.1]
    exact (leaveMesh_netKeeps 0 x s).out
  · rw [nocRespond_mesh, responseTo_congr ((leaveMesh_shows 0 x s).trans (countStatus_shows _ st _)), hcount.1]
    dsimp only
    rw [leaveMesh_mesh, hmesh]
    rfl

theorem request_answered (hmesh : s.noc.mesh = [x]) (hkind : x.kind = 2) (hch : x.pkt.channel ≠ 0) (hresp : x.pkt.isResponse = false)
    (hmay : mayRespond x.pkt.dest (responseTo x.pkt .ok 0 false [] s) s = true) :
    (opTaken x.pkt = false →
      ∃ t, exec (.nocEject 0) s = .next t ∧ t.out = s.out ∧
        t.noc.mesh = [⟨responseTo x.pkt .decode 0 false [] s, 1, x.pkt.dest, x.pkt.dest / 4, 0⟩]) ∧
    (opTaken x.pkt = true → x.pkt.vnet = 0 → s.fld NOC_EPe_STATUS_DAMPER x.pkt.dest ≠ 0 →
      ∃ t, exec (.nocEject 0) s = .next t ∧ t.out = s.out ∧
        t.noc.mesh = [⟨responseTo x.pkt .fenced 0 false [] s, 1, x.pkt.dest, x.pkt.dest / 4, 0⟩]) ∧
    (opTaken x.pkt = true → (x.pkt.vnet = 0 → s.fld NOC_EPe_STATUS_DAMPER x.pkt.dest = 0) → requestGated x.pkt s = true →
      ∃ t, exec (.nocEject 0) s = .next t ∧ t.out = s.out ∧
        t.noc.mesh = [⟨responseTo x.pkt .errGated 0 false [] s, 1, x.pkt.dest, x.pkt.dest / 4, 0⟩]) := by
  refine ⟨fun htaken => ⟨_, ?_, answered_alone hmesh .decode⟩, fun htaken hnet hd => ⟨_, ?_, answered_alone hmesh .fenced⟩,
    fun htaken hopen hgated => ⟨_, ?_, answered_alone hmesh .errGated⟩⟩
  all_goals rw [exec_nocEject_first hmesh hkind, ejectPacket_request hresp hmay hch]
  · rw [if_pos (by simp [htaken])]
  · rw [if_neg (by simp [htaken]), if_pos ⟨hnet, hd⟩]
  · rw [if_neg (by simp [htaken]), if_neg fun h => h.2 (hopen h.1), if_pos hgated]

/-- The state once a request has reached a target that is no region port. -/
def requestTaken (p : NocPacket) (s : State) : State :=
  (if countsOutstanding p then s.addFld NOC_EPe_STATUS_OUTSTANDING 1 p.dest else s).emit (.delivered p.dest p)

theorem requestTaken_spec (p : NocPacket) (s : State) :
    requestTaken p s = { s with regs := (requestTaken p s).regs, out := .delivered p.dest p :: s.out } ∧ Shows s (requestTaken p s) ∧
      regsKeep [NOC_EPe_STATUS_OUTSTANDING.key p.dest 0 0] s (requestTaken p s) ∧ (requestTaken p s).noc = s.noc := by
  have hkey (F : Field) (hF : F.key 0 0 0 < 0x601000) : F.key 0 0 0 ≠ NOC_EPe_STATUS_OUTSTANDING.key p.dest 0 0 := by
    intro heq
    rw [heq] at hF
    simp only [Field.key, NOC_EPe_STATUS_OUTSTANDING] at hF
    omega
  unfold requestTaken
  split
  · refine ⟨rfl, ⟨?_, ?_⟩, regsKeep_setFld s NOC_EPe_STATUS_OUTSTANDING _ p.dest 0 0, rfl⟩
    · exact fld_setFld_elsewhere s NOC_EPe_STATUS_OUTSTANDING NOC_EPOCH_CUR _ (hkey _ (by decide))
    · exact fld_setFld_elsewhere s NOC_EPe_STATUS_OUTSTANDING TCK_COUNT_COUNT _ (hkey _ (by decide))
  · exact ⟨rfl, ⟨rfl, rfl⟩, fun _ _ => rfl, rfl⟩

theorem request_delivered (hmesh : s.noc.mesh = [x]) (hkind : x.kind = 2) (hport : portOfEndpoint x.pkt.dest = none)
    (htaken : opTaken x.pkt = true) (hresp : x.pkt.isResponse = false)
    (hmay : mayRespond x.pkt.dest (responseTo x.pkt .ok 0 false [] s) s = true) (hch : x.pkt.channel ≠ 0)
    (hopen : x.pkt.vnet = 0 → s.fld NOC_EPe_STATUS_DAMPER x.pkt.dest = 0) (hgate : requestGated x.pkt s = false)
    (hpoison : x.pkt.poison = false ∨ x.pkt.vnet ≠ 2) :
    ∃ t, exec (.nocEject 0) s = .next t ∧ t.out = .delivered x.pkt.dest x.pkt :: s.out ∧ t.mem = s.mem ∧
      t.noc.mesh = (if answeredAtOnce x.pkt then
        [⟨responseTo x.pkt .ok 0 false [] s, 1, x.pkt.dest, x.pkt.dest / 4, 0⟩] else []) ∧
      regsKeep [NOC_EPe_STATUS_OUTSTANDING.key x.pkt.dest 0 0, NOC_EPOCH_OLD_FLITS.off] s t := by
  obtain ⟨hrest, hshows, hregs, hnoc⟩ := requestTaken_spec x.pkt s
  have hexec : exec (.nocEject 0) s = .next (leaveMesh 0 x
      (if answeredAtOnce x.pkt then nocRespond x.pkt.dest x.pkt .ok (requestTaken x.pkt s) else requestTaken x.pkt s)) := by
    rw [exec_nocEject_first hmesh hkind, ejectPacket_request hresp hmay hch, if_neg (by simp [htaken]), if_neg fun h => h.2 (hopen h.1),
      if_neg (by simp [hgate]), deliver, hport]
    dsimp only
    rw [if_neg]
    · rfl
    · rintro ⟨hnet, -, hbad⟩
      rcases hpoison with h | h
      · rw [h] at hbad
        exact absurd hbad (by decide)
      · exact h hnet
  obtain ⟨hkeep, hafter⟩ : NetKeeps (requestTaken x.pkt s)
      (if answeredAtOnce x.pkt then nocRespond x.pkt.dest x.pkt .ok (requestTaken x.pkt s) else requestTaken x.pkt s) ∧
      (if answeredAtOnce x.pkt then nocRespond x.pkt.dest x.pkt .ok (requestTaken x.pkt s) else requestTaken x.pkt s).noc.mesh =
        x :: if answeredAtOnce x.pkt then [⟨responseTo x.pkt .ok 0 false [] s, 1, x.pkt.dest, x.pkt.dest / 4, 0⟩] else [] := by
    split
    · refine ⟨nocRespond_netKeeps _ _ _ _, ?_⟩
      rw [nocRespond_mesh, responseTo_congr hshows, hnoc, hmesh]
      rfl
    · exact ⟨NetKeeps.refl _, by rw [hnoc, hmesh]⟩
  have hall := hkeep.trans (leaveMesh_netKeeps 0 x _)
  refine ⟨_, hexec, hall.out.trans (by rw [hrest]), hall.mem.trans (by rw [hrest]), ?_, ?_⟩
  · rw [leaveMesh_mesh, hafter]
    rfl
  · exact regsKeep_trans (regsKeep_mono (by simp) hregs) (regsKeep_mono (by simp) hall.2)

theorem response_delivered (hmesh : s.noc.mesh = [x]) (hkind : x.kind = 2) (hresp : x.pkt.isResponse = true) :
    ∃ t, exec (.nocEject 0) s = .next t ∧ t.noc.mesh = [] ∧ t.out = .delivered x.pkt.dest x.pkt :: s.out ∧ t.mem = s.mem ∧
      regsKeep [NOC_EPe_STATUS_OUTSTANDING.key x.pkt.dest 0 0, NOC_EPOCH_OLD_FLITS.off] s t := by
  have hleft := leaveMesh_netKeeps 0 x s
  have hempty : (leaveMesh 0 x s).noc.mesh = [] := by
    rw [leaveMesh_mesh, hmesh]
    rfl
  have hout : ((leaveMesh 0 x s).emit (.delivered x.pkt.dest x.pkt)).out = .delivered x.pkt.dest x.pkt :: s.out :=
    congrArg (List.cons _) hleft.out
  have hexec : exec (.nocEject 0) s = .next (if hasResponseRow x.pkt.dest then (leaveMesh 0 x s).emit (.delivered x.pkt.dest x.pkt)
      else answeredAt x.pkt.dest ((leaveMesh 0 x s).emit (.delivered x.pkt.dest x.pkt))) := by
    rw [exec_nocEject_first hmesh hkind, ejectPacket]
    dsimp only
    rw [if_pos hresp]
    rfl
  refine ⟨_, hexec, ?_⟩
  split
  · exact ⟨hempty, hout, hleft.mem, regsKeep_mono (by simp) hleft.2⟩
  · exact ⟨hempty, hout, hleft.mem, regsKeep_after_setFld NOC_EPe_STATUS_OUTSTANDING _ _ 0 0 (regsKeep_mono (by simp) hleft.2) (.head _)⟩

/-- Settles O42. -/
theorem networkMovesRequests : Obligations.NetworkMovesRequests :=
  ⟨fun _ _ _ _ hport hop hst hk hd hc => request_enters hport hop hst hk hd hc,
    fun _ _ _ hport hop hst => request_refused hport hop hst,
    fun _ _ _ _ _ hop hq hdest hr hc => response_enters hop hq hdest hr hc,
    fun _ _ _ hmesh hkind hh ⟨hport, hnb, hc⟩ => packet_forwarded hmesh hkind hh hport hnb hc,
    fun _ _ _ he hd => identities_stamped he hd, fun _ _ => rfl,
    fun _ _ hmesh hkind hh hport hc => packet_ejected hmesh hkind hh hport hc,
    fun _ _ _ hmesh hkind hh hresp hr hc => hop_limit_answered hmesh hkind hh hresp hr hc,
    fun _ _ hmesh hkind hport htaken hresp hmay hch hopen hgate hpoison =>
      request_delivered hmesh hkind hport htaken hresp hmay hch hopen hgate hpoison,
    fun _ _ hmesh hkind hresp => response_delivered hmesh hkind hresp,
    fun _ _ hmesh hkind hch hresp hmay => request_answered hmesh hkind hch hresp hmay⟩

end Sys2Proof.Machine
end

section
-- One proof at a time: the memory limit of the check counts a stack for every proof that waits for another.
set_option Elab.async false
/-! SUPPORT. The transport of a Brocia link: scrambling, frames and their check, acknowledgement, replay, credits and tick markers
(R556 to R565). -/

namespace Sys2Proof.Machine

variable {s t : State}

/-! ### Blocks on the line (R556, R558) -/

theorem descramble_scramble (line : BitVec 58) (l : List Bool) : descramble line (scramble line l) = l := by
  induction l generalizing line with
  | nil => rfl
  | cons b r ih =>
    unfold scramble
    dsimp only
    unfold descramble
    rw [ih, Bool.xor_assoc, Bool.xor_self, Bool.xor_false]

theorem payloadOf_range (n v : Nat) : payloadOf ((List.range n).map (fun i => v.testBit i)) = v % 2 ^ n := by
  induction n generalizing v with
  | zero => simp [payloadOf, Nat.mod_one]
  | succ n ih =>
    rw [List.range_succ_eq_map, List.map_cons, List.map_map]
    have hshift : ((fun i => v.testBit i) ∘ Nat.succ) = fun i => (v / 2).testBit i := funext fun i => Nat.testBit_succ v i
    rw [hshift, payloadOf, ih]
    have hbit : bnat (v.testBit 0) = v % 2 := by
      rw [Nat.testBit_zero]
      rcases Nat.mod_two_eq_zero_or_one v with h | h <;> simp [bnat, h]
    rw [hbit, pow_succ', Nat.mod_mul]

theorem payloadOf_payloadBits (v : Word) : payloadOf (payloadBits v) = v.toNat := by
  have hbits : payloadBits v = (List.range 64).map (fun i => v.toNat.testBit i) :=
    List.map_congr_left fun i _ => (BitVec.testBit_toNat v).symm
  rw [hbits, payloadOf_range]
  exact Nat.mod_eq_of_lt v.isLt

theorem block_received {line : BitVec 58} {raw payload : Word} (hraw : payloadBits raw = scramble line (payloadBits payload)) :
    BitVec.ofNat 64 (payloadOf (descramble line (payloadBits raw))) = payload := by
  rw [hraw, descramble_scramble, payloadOf_payloadBits, BitVec.ofNat_toNat, BitVec.setWidth_eq]

theorem block_checked {p : Fin 4} {sync : BitVec 2} {line : BitVec 58} {raw payload : Word}
    (hraw : payloadBits raw = scramble line (payloadBits payload)) :
    (sync = 0b00 ∨ sync = 0b11 ∨ (sync = 0b10 ∧ ctlType payload ∉ ctlTypes) →
      ∃ t, exec (.syncErrBlock p sync line raw) s = .next t ∧
        t.fld BRL_PORTp_COUNTS_SYNC_ERR p = (s.fld BRL_PORTp_COUNTS_SYNC_ERR p + 1) % 2 ^ 16 ∧
        onlyRegs [BRL_PORTp_COUNTS_CRC_ERR.key p 0 0] s t) ∧
    (sync = 0b01 ∨ (sync = 0b10 ∧ ctlType payload ∈ ctlTypes) → exec (.syncErrBlock p sync line raw) s = .next s) := by
  have hexec : exec (.syncErrBlock p sync line raw) s =
      if blockGood sync payload then .next s else .next (s.addFld BRL_PORTp_COUNTS_SYNC_ERR 1 p) := by
    rw [exec_syncErrBlock, execSyncErrBlock, block_received hraw]
  refine ⟨fun hbad => ⟨s.addFld BRL_PORTp_COUNTS_SYNC_ERR 1 p, hexec.trans (if_neg ?_), fld_addFld s BRL_PORTp_COUNTS_SYNC_ERR 1 p 0 0,
    onlyRegs_addFld s BRL_PORTp_COUNTS_SYNC_ERR 1 p 0 0⟩, fun hgood => hexec.trans (if_pos (decide_eq_true hgood))⟩
  unfold blockGood
  rw [decide_eq_true_eq]
  rintro (h | ⟨h, hin⟩) <;> subst h
  · simp at hbad
  · rcases hbad with hbad | hbad | ⟨-, hout⟩
    · exact absurd hbad (by decide)
    · exact absurd hbad (by decide)
    · exact hout hin

/-! ### Frames (R559, R560, R566) -/

theorem classOf_lt (k : Nat) : classOf k < 2 ^ 2 := by
  unfold classOf
  split
  · decide
  · split
    · decide
    · split <;> decide

theorem dataBlocks_length (f : BrFrame) : f.dataBlocks.length = f.data.length + 2 := rfl

/-- A field that the word built first does not reach. -/
theorem bits_mkWord_skip (lo w x : Nat) (r : List (Nat × Nat × Nat)) (lo' w' : Nat) (h : lo + w ≤ 64)
    (hd : lo' + w' ≤ lo ∨ lo + w ≤ lo') : bits (mkWord ((lo, w, x) :: r)) lo' w' = bits (mkWord r) lo' w' :=
  bits_setBits_other _ lo w x lo' w' h hd

theorem bits_mkWord_head (lo w x : Nat) (r : List (Nat × Nat × Nat)) (h : lo + w ≤ 64) :
    bits (mkWord ((lo, w, x) :: r)) lo w = x % 2 ^ w := bits_setBits_same _ lo w x h

theorem sof_fields (f : BrFrame) {seq : Nat} (hdata : f.data.length ≤ 32) (hseq : seq < 4096) : bits (f.sof seq) 0 8 = ctlSof ∧
    bits (f.sof seq) 8 12 = seq ∧ bits (f.sof seq) 20 6 = f.dataBlocks.length ∧ bits (f.sof seq) 26 2 = f.class := by
  have hlen := dataBlocks_length f
  unfold BrFrame.sof BrFrame.class
  refine ⟨?_, ?_, ?_, ?_⟩
  · rw [bits_mkWord_head _ _ _ _ (by decide)]
    rfl
  · rw [bits_mkWord_skip _ _ _ _ _ _ (by decide) (by decide), bits_mkWord_head _ _ _ _ (by decide)]
    exact Nat.mod_eq_of_lt (by omega)
  · rw [bits_mkWord_skip _ _ _ _ _ _ (by decide) (by decide), bits_mkWord_skip _ _ _ _ _ _ (by decide) (by decide), bits_mkWord_head _ _ _ _ (by decide)]
    exact Nat.mod_eq_of_lt (by omega)
  · rw [bits_mkWord_skip _ _ _ _ _ _ (by decide) (by decide), bits_mkWord_skip _ _ _ _ _ _ (by decide) (by decide),
      bits_mkWord_skip _ _ _ _ _ _ (by decide) (by decide), bits_mkWord_head _ _ _ _ (by decide)]
    exact Nat.mod_eq_of_lt (classOf_lt f.kind)

theorem eof_fields (sof : Word) (blocks : List Word) : bits (eofOf sof blocks) 0 8 = ctlEof ∧
    bits (eofOf sof blocks) 8 32 = (crc32cWords (sof :: blocks)).toNat := by
  unfold eofOf
  refine ⟨?_, ?_⟩
  · rw [bits_mkWord_head _ _ _ _ (by decide)]
    rfl
  · rw [bits_mkWord_skip _ _ _ _ _ _ (by decide) (by decide), bits_mkWord_head _ _ _ _ (by decide)]
    exact Nat.mod_eq_of_lt (BitVec.isLt _)

/-- A frame as it is sent passes the check with its own SEQ and no other. -/
theorem encode_good (f : BrFrame) {seq : Nat} (last : Nat) (hdata : f.data.length ≤ 32) (hseq : seq < 4096) :
    (f.encode seq).good last = decide (seq = (last + 1) % 4096) := by
  obtain ⟨htype, hsq, hlen, -⟩ := sof_fields f hdata hseq
  obtain ⟨hend, hcrc⟩ := eof_fields (f.sof seq) f.dataBlocks
  unfold SeenFrame.good BrFrame.encode ctlType
  dsimp only
  rw [htype, hsq, hlen, hend, hcrc]
  simp

theorem frame_encoded (f : BrFrame) {seq last : Nat} (hdata : f.data.length ≤ 32) (hseq : seq < 4096) (hkind : f.kind < 9) :
    (f.encode seq).good last = decide (seq = (last + 1) % 4096) ∧ bits (f.encode seq).sof 26 2 = f.class ∧
    bits f.h0 0 14 = f.dest % 2 ^ 14 ∧ bits f.h0 14 14 = f.src % 2 ^ 14 ∧ bits f.h0 28 4 = f.kind ∧ bits f.h0 56 8 = f.hops % 2 ^ 8 ∧
    bits f.h1 0 40 = f.addr % 2 ^ 40 ∧ bits f.h1 48 10 = f.index % 2 ^ 10 := by
  obtain ⟨-, -, -, hclass⟩ := sof_fields f hdata hseq
  unfold BrFrame.h0 BrFrame.h1
  refine ⟨encode_good f last hdata hseq, hclass, bits_mkWord_head _ _ _ _ (by decide), ?_, ?_, ?_, bits_mkWord_head _ _ _ _ (by decide), ?_⟩
  · rw [bits_mkWord_skip _ _ _ _ _ _ (by decide) (by decide), bits_mkWord_head _ _ _ _ (by decide)]
  · rw [bits_mkWord_skip _ _ _ _ _ _ (by decide) (by decide), bits_mkWord_skip _ _ _ _ _ _ (by decide) (by decide), bits_mkWord_head _ _ _ _ (by decide)]
    exact Nat.mod_eq_of_lt (by omega)
  · iterate 7 rw [bits_mkWord_skip _ _ _ _ _ _ (by decide) (by decide)]
    rw [bits_mkWord_head _ _ _ _ (by decide)]
  · rw [bits_mkWord_skip _ _ _ _ _ _ (by decide) (by decide), bits_mkWord_skip _ _ _ _ _ _ (by decide) (by decide), bits_mkWord_head _ _ _ _ (by decide)]

/-! ### Ports of the ring -/

theorem brPort_modPort_same (s : State) (p : Nat) (f : BrPort → BrPort) : (s.modPort p f).brPort p = f (s.brPort p) :=
  Memory.get_set_same p _ s.ring.ports

theorem brPort_modPort_other (s : State) {p j : Nat} (f : BrPort → BrPort) (h : j ≠ p) : (s.modPort p f).brPort j = s.brPort j :=
  Memory.get_set_other _ h s.ring.ports

theorem brPort_congr (h : t.ring = s.ring) (p : Nat) : t.brPort p = s.brPort p := by
  unfold State.brPort
  rw [h]

/-- A port without waiting frames sends none. -/
theorem pumpPort_empty {p : Nat} (h : (s.brPort p).queue = []) : pumpPort p s = s.modPort p (fun x => { x with queue := [] }) := by
  unfold pumpPort
  rw [h]
  rfl

theorem answer_and_check {p : Fin 4} {x : SeenFrame} (hact : s.portActive p = true) :
    (exec (.ackSend p) s = .next { s with out := .ack p (s.brPort p).rxSeq :: s.out }) ∧
    (x.good (s.brPort p).rxSeq = false → ∃ t, exec (.frameCheckFail p x) s = .next t ∧ t.out = .nak p (s.brPort p).rxSeq :: s.out ∧
      t.fld BRL_PORTp_COUNTS_CRC_ERR p = (s.fld BRL_PORTp_COUNTS_CRC_ERR p + 1) % 2 ^ 16 ∧ t.brPort p = s.brPort p ∧
      regsKeep [BRL_PORTp_COUNTS_CRC_ERR.key p 0 0] s t) ∧
    (x.good (s.brPort p).rxSeq = true → exec (.frameCheckFail p x) s = .next s) := by
  refine ⟨?_, fun hbad => ⟨(s.addFld BRL_PORTp_COUNTS_CRC_ERR 1 p).emit (.nak p (s.brPort p).rxSeq), ?_, rfl,
    fld_addFld s BRL_PORTp_COUNTS_CRC_ERR 1 p 0 0, rfl, regsKeep_setFld s BRL_PORTp_COUNTS_CRC_ERR _ p 0 0⟩, fun hgood => ?_⟩
  · rw [exec_ackSend, execAckSend, if_pos hact]
    rfl
  · rw [exec_frameCheckFail, execFrameCheckFail, if_pos ⟨hact, by simp [hbad]⟩]
  · rw [exec_frameCheckFail, execFrameCheckFail, if_neg fun h => h.2 hgood]

/-! ### Acknowledgement and replay (R560) -/

theorem dropAcked_found {seq : Nat} {f : BrFrame} {a b : List (Nat × BrFrame)} (ha : ∀ x ∈ a, x.1 ≠ seq) :
    dropAcked seq (a ++ (seq, f) :: b) = b := by
  have hfind : (a ++ (seq, f) :: b).findIdx? (fun r => decide (r.1 = seq)) = some a.length := by
    rw [List.findIdx?_append, List.findIdx?_eq_none_iff.mpr (fun x hx => decide_eq_false (ha x hx)), List.findIdx?_cons]
    simp
  unfold dropAcked
  rw [hfind]
  simp

theorem dropAcked_none {seq : Nat} {l : List (Nat × BrFrame)} (hl : ∀ x ∈ l, x.1 ≠ seq) : dropAcked seq l = l := by
  unfold dropAcked
  rw [List.findIdx?_eq_none_iff.mpr (fun x hx => decide_eq_false (hl x hx))]

/-- The frames that a port sends again. -/
def sendAgain (p : Nat) (l : List (Nat × BrFrame)) (s : State) : State := l.foldl (fun s e => s.emit (.frame p e.1 e.2)) s

theorem sendAgain_rest (p : Nat) (l : List (Nat × BrFrame)) (s : State) :
    sendAgain p l s = { s with out := (l.map (fun x => Out.frame p x.1 x.2)).reverse ++ s.out } := by
  induction l generalizing s with
  | nil => rfl
  | cons e l ih =>
    refine (ih (s.emit (.frame p e.1 e.2))).trans ?_
    simp [State.emit]

theorem ack_frees {p : Fin 4} {seq : Nat} {f : BrFrame} {a b : List (Nat × BrFrame)} (hact : s.portActive p = true)
    (hreplay : (s.brPort p).replay = a ++ (seq, f) :: b) (ha : ∀ x ∈ a, x.1 ≠ seq) (hqueue : (s.brPort p).queue = []) :
    ∃ t, exec (.ack p seq) s = .next t ∧ t.brPort p = { s.brPort p with replay := b, resent := 0 } ∧ t.out = s.out ∧ storesKeep s t := by
  have hexec : exec (.ack p seq) s = .next ((s.modPort p (fun x =>
      let r := dropAcked seq x.replay
      { x with replay := r, resent := if r.length < x.replay.length then 0 else x.resent })).modPort p (fun x => { x with queue := [] })) := by
    rw [exec_ack, execAck, if_pos hact, pumpPort_empty]
    rw [brPort_modPort_same]
    exact hqueue
  refine ⟨_, hexec, ?_, rfl, rfl, rfl⟩
  rw [brPort_modPort_same, brPort_modPort_same]
  dsimp only
  rw [hreplay, dropAcked_found ha, ← hqueue, if_pos (by simp; omega)]

/-- The state in which a NAK resends the frames after the one that it names. -/
def nakked (p : Nat) (r : List (Nat × BrFrame)) (n : Nat) (s : State) : State :=
  sendAgain p r ((s.modPort p (fun x => { x with replay := r, resent := n })).addFld BRL_PORTp_COUNTS_REPLAYS r.length p)

theorem nakked_spec (p : Nat) (r : List (Nat × BrFrame)) (n : Nat) (s : State) :
    (nakked p r n s).brPort p = { s.brPort p with replay := r, resent := n } ∧ (nakked p r n s).mem = s.mem ∧
      (nakked p r n s).out = (r.map (fun x => Out.frame p x.1 x.2)).reverse ++ s.out ∧ (nakked p r n s).flt = s.flt ∧
      (nakked p r n s).portActive p = s.portActive p ∧
      (nakked p r n s).fld BRL_PORTp_COUNTS_REPLAYS p = (s.fld BRL_PORTp_COUNTS_REPLAYS p + r.length) % 2 ^ 16 ∧
      (nakked p r n s).fld BRL_PORTp_COUNTS_LINK_DOWNS p = s.fld BRL_PORTp_COUNTS_LINK_DOWNS p := by
  have hkey : BRL_PORTp_STATUS_ACTIVE.key p 0 0 ≠ BRL_PORTp_COUNTS_REPLAYS.key p 0 0 := by
    simp only [Field.key, BRL_PORTp_STATUS_ACTIVE, BRL_PORTp_COUNTS_REPLAYS]
    omega
  unfold nakked
  rw [sendAgain_rest]
  refine ⟨brPort_modPort_same s p (fun x => { x with replay := r, resent := n }), rfl, rfl, rfl, ?_, fld_addFld (s.modPort p _) BRL_PORTp_COUNTS_REPLAYS r.length p 0 0,
    fld_addFld_beside (s.modPort p _) BRL_PORTp_COUNTS_REPLAYS BRL_PORTp_COUNTS_LINK_DOWNS r.length⟩
  unfold State.portActive State.on
  exact congrArg (fun v => decide (v ≠ 0)) (fld_addFld_elsewhere (s.modPort p _) BRL_PORTp_COUNTS_REPLAYS BRL_PORTp_STATUS_ACTIVE r.length hkey)

theorem nak_replays {p : Fin 4} {seq n : Nat} {r : List (Nat × BrFrame)} (hact : s.portActive p = true)
    (hr : dropAcked seq (s.brPort p).replay = r) (hn : n = if r.length < (s.brPort p).replay.length then 1 else (s.brPort p).resent + 1) :
    exec (.nak p seq) s = .next (if r = [] then s.modPort p (fun x => { x with replay := r, resent := n })
      else if 16 ≤ n then linkDown p (nakked p r n s) else nakked p r n s) := by
  rw [exec_nak, execNak, if_pos hact, resendAfter]
  dsimp only
  rw [hr, ← hn]
  simp only [List.isEmpty_iff]
  rfl

theorem nak_resends {p : Fin 4} {seq : Nat} {f : BrFrame} {a b : List (Nat × BrFrame)} (hact : s.portActive p = true)
    (hreplay : (s.brPort p).replay = a ++ (seq, f) :: b) (ha : ∀ x ∈ a, x.1 ≠ seq) :
    ∃ t, exec (.nak p seq) s = .next t ∧ t.brPort p = { s.brPort p with replay := b, resent := 1 } ∧ t.mem = s.mem ∧
      t.out = (b.map (fun x => Out.frame p x.1 x.2)).reverse ++ s.out ∧ t.portActive p = true ∧
      t.fld BRL_PORTp_COUNTS_REPLAYS p = (s.fld BRL_PORTp_COUNTS_REPLAYS p + b.length) % 2 ^ 16 := by
  have hdrop : dropAcked seq (s.brPort p).replay = b := by rw [hreplay, dropAcked_found ha]
  have hexec := nak_replays (n := 1) hact hdrop (by rw [hreplay, if_pos (by simp; omega)])
  obtain ⟨hport, hmem, hout, -, hactive, hcount, -⟩ := nakked_spec p b 1 s
  by_cases hb : b = []
  · refine ⟨_, hexec.trans (congrArg _ (if_pos hb)), brPort_modPort_same s p _, rfl, by simp [hb], hact, ?_⟩
    have hlt : s.fld BRL_PORTp_COUNTS_REPLAYS p < 2 ^ 16 := bits_lt (s.reg (BRL_PORTp_COUNTS_REPLAYS.key p 0 0)) 16 16
    rw [hb, List.length_nil, Nat.add_zero, Nat.mod_eq_of_lt hlt]
    rfl
  · exact ⟨_, hexec.trans (congrArg _ ((if_neg hb).trans (if_neg (by decide)))), hport, hmem, hout, hactive.trans hact, hcount⟩

/-! ### A link that goes down (R562) -/

/-- The raise of a recorded source changes only the fault collector, its registers and what is sent. -/
theorem raise_keeps {src : Nat} {r : SourceRange} (hr : sourceRange src = some r) (hn : r.notify = false) (hs : src < 0x1000)
    (info : Nat) (s : State) : raise src info s =
      { s with regs := (raise src info s).regs, out := (raise src info s).out, flt := (raise src info s).flt } := by
  obtain ⟨hrest, -⟩ := raiseFrom_onlySends hr hn hs none info s
  unfold raise
  rw [hrest]
  rfl

/-- The registers that a raise can change lie below the serial interface's own. -/
theorem fld_raise_beyond {src : Nat} {r : SourceRange} (hr : sourceRange src = some r) (hn : r.notify = false) (hs : src < 0x1000)
    (info : Nat) (s : State) (F : Field) (i : Nat) (hF : 0x1828000 ≤ F.off) : (raise src info s).fld F i = s.fld F i := by
  obtain ⟨-, hkeep⟩ := raiseFrom_onlySends hr hn hs none info s
  refine (fld_congr F i 0 0 (hkeep _ ?_)).trans (fld_congr F i 0 0 (raiseMark_regsKeep none src info s _ ?_))
  · simp only [routeKeys, vectorKeys, pbaKey, Field.key, FLT_VECf_RAISED_RAISED, List.mem_append, List.mem_cons, List.not_mem_nil, or_false]
    omega
  · simp only [raiseKeys, Field.key, FLT_SRCs_COUNT, FLT_COUNT_RAISED, List.mem_cons, List.not_mem_nil, or_false]
    omega

theorem linkSource {p : Nat} (hp : p < 4) : sourceRange (0x184 + p) = some ⟨0x184, 0x187, 1, false, false⟩ := by
  have hcases : p = 0 ∨ p = 1 ∨ p = 2 ∨ p = 3 := by omega
  rcases hcases with rfl | rfl | rfl | rfl <;> decide

/-- The status of a port that returns to stage 1. -/
def stage1Status (p : Nat) (s : State) : State :=
  (((s.setFld BRL_PORTp_STATUS_STAGE 1 p).setFld BRL_PORTp_STATUS_ACTIVE 0 p).setFld BRL_PORTp_STATUS_WIDTH 0 p).setFld BRL_PORTp_STATUS_RATE 0 p

theorem setFld_regs_congr (h : t.regs = s.regs) (F : Field) (v i : Nat) : (t.setFld F v i).regs = (s.setFld F v i).regs := by
  unfold State.setFld State.setReg
  dsimp only
  rw [h, reg_congr h]

theorem portToStage1_regs (p : Nat) (s : State) : (portToStage1 p s).regs = ((stage1Status p s).setFld LNK_QUADq_RATE 0 (4 + p)).regs := by
  have hmod : (s.modPort p (fun x => { BrPort.reset with queue := x.queue })).regs = s.regs := rfl
  exact setFld_regs_congr (setFld_regs_congr (setFld_regs_congr (setFld_regs_congr (setFld_regs_congr hmod _ _ _) _ _ _) _ _ _) _ _ _) _ _ _

/-- A register of the port is that of its status alone: the quad's rate lies elsewhere. -/
theorem portToStage1_fld (p : Nat) (s : State) (F : Field) (hF : 0x1840100 ≤ F.off) (hF1 : F.s1 = 0x40) :
    (portToStage1 p s).fld F p = (stage1Status p s).fld F p := by
  have hkey : F.key p 0 0 ≠ LNK_QUADq_RATE.key (4 + p) 0 0 := by
    simp only [Field.key, LNK_QUADq_RATE, hF1]
    omega
  rw [← fld_setFld_elsewhere (stage1Status p s) LNK_QUADq_RATE F 0 hkey]
  exact fld_congr F p 0 0 (reg_congr (portToStage1_regs p s) _)

theorem stage1Status_fields (p : Nat) (s : State) : (stage1Status p s).fld BRL_PORTp_STATUS_STAGE p = 1 ∧
    (stage1Status p s).fld BRL_PORTp_STATUS_ACTIVE p = 0 ∧
    (stage1Status p s).fld BRL_PORTp_COUNTS_LINK_DOWNS p = s.fld BRL_PORTp_COUNTS_LINK_DOWNS p := by
  have hkey (F : Field) (hF : F.off = 0x1840100) (hF1 : F.s1 = 0x40) : BRL_PORTp_COUNTS_LINK_DOWNS.key p 0 0 ≠ F.key p 0 0 := by
    simp only [Field.key, BRL_PORTp_COUNTS_LINK_DOWNS, hF, hF1]
    omega
  unfold stage1Status
  refine ⟨?_, ?_, ?_⟩
  · rw [fld_setFld_beside _ BRL_PORTp_STATUS_RATE BRL_PORTp_STATUS_STAGE, fld_setFld_beside _ BRL_PORTp_STATUS_WIDTH BRL_PORTp_STATUS_STAGE,
      fld_setFld_beside _ BRL_PORTp_STATUS_ACTIVE BRL_PORTp_STATUS_STAGE, fld_setFld_fits _ BRL_PORTp_STATUS_STAGE p 0 0 (by decide)]
  · rw [fld_setFld_beside _ BRL_PORTp_STATUS_RATE BRL_PORTp_STATUS_ACTIVE, fld_setFld_beside _ BRL_PORTp_STATUS_WIDTH BRL_PORTp_STATUS_ACTIVE,
      fld_setFld_fits _ BRL_PORTp_STATUS_ACTIVE p 0 0 (by decide)]
  · rw [fld_setFld_elsewhere _ BRL_PORTp_STATUS_RATE BRL_PORTp_COUNTS_LINK_DOWNS 0 (hkey _ rfl rfl),
      fld_setFld_elsewhere _ BRL_PORTp_STATUS_WIDTH BRL_PORTp_COUNTS_LINK_DOWNS 0 (hkey _ rfl rfl),
      fld_setFld_elsewhere _ BRL_PORTp_STATUS_ACTIVE BRL_PORTp_COUNTS_LINK_DOWNS 0 (hkey _ rfl rfl),
      fld_setFld_elsewhere _ BRL_PORTp_STATUS_STAGE BRL_PORTp_COUNTS_LINK_DOWNS 1 (hkey _ rfl rfl)]

theorem portToStage1_spec (p : Nat) (s : State) : (portToStage1 p s).stage p = 1 ∧ (portToStage1 p s).portActive p = false ∧
    (portToStage1 p s).brPort p = { BrPort.reset with queue := (s.brPort p).queue } ∧
    (∀ j, j ≠ p → (portToStage1 p s).brPort j = s.brPort j) ∧ (portToStage1 p s).flt = s.flt ∧
    (portToStage1 p s).fld BRL_PORTp_COUNTS_LINK_DOWNS p = s.fld BRL_PORTp_COUNTS_LINK_DOWNS p := by
  obtain ⟨hstage, hoff, hcount⟩ := stage1Status_fields p s
  have hring : (portToStage1 p s).ring = (s.modPort p (fun x => { BrPort.reset with queue := x.queue })).ring := rfl
  refine ⟨?_, ?_, (brPort_congr hring p).trans (brPort_modPort_same s p _), fun j hj => (brPort_congr hring j).trans (brPort_modPort_other s _ hj),
    rfl, ?_⟩
  · unfold State.stage
    rw [portToStage1_fld p s BRL_PORTp_STATUS_STAGE (by decide) rfl, hstage]
  · unfold State.portActive State.on
    rw [portToStage1_fld p s BRL_PORTp_STATUS_ACTIVE (by decide) rfl, hoff]
    rfl
  · rw [portToStage1_fld p s BRL_PORTp_COUNTS_LINK_DOWNS (by decide) rfl, hcount]

/-- What a link that goes down leaves, from any state in which it was ACTIVE. -/
theorem linkDown_spec {p : Fin 4} (hact : s.portActive p = true) : ∃ t u, linkDown p s = t ∧ t.stage p = 1 ∧ t.portActive p = false ∧
    t.fld BRL_PORTp_COUNTS_LINK_DOWNS p = (s.fld BRL_PORTp_COUNTS_LINK_DOWNS p + 1) % 2 ^ 16 ∧
    t.brPort p = { BrPort.reset with queue := (s.brPort p).queue } ∧ (∀ j, j ≠ p.val → t.brPort j = s.brPort j) ∧
    t.flt = (raise (0x184 + p) 1 u).flt ∧ u.flt = s.flt := by
  obtain ⟨hstage, hdown, hport, hports, hflt, hcount⟩ := portToStage1_spec p s
  have hsource := linkSource p.isLt
  have hkey (F : Field) (hF : F.off = 0x1840100) (hF1 : F.s1 = 0x40) : F.key p 0 0 ≠ BRL_PORTp_COUNTS_LINK_DOWNS.key p 0 0 := by
    simp only [Field.key, BRL_PORTp_COUNTS_LINK_DOWNS, hF, hF1]
    omega
  have hfld (F : Field) (hF : 0x1828000 ≤ F.off) : (raise (0x184 + p) 1 ((portToStage1 p s).addFld BRL_PORTp_COUNTS_LINK_DOWNS 1 p)).fld F p =
      ((portToStage1 p s).addFld BRL_PORTp_COUNTS_LINK_DOWNS 1 p).fld F p := fld_raise_beyond hsource rfl (by omega) 1 _ F p hF
  have hring : (raise (0x184 + p) 1 ((portToStage1 p s).addFld BRL_PORTp_COUNTS_LINK_DOWNS 1 p)).ring = (portToStage1 p s).ring := by
    rw [raise_keeps hsource rfl (by omega)]
    rfl
  refine ⟨raise (0x184 + p) 1 ((portToStage1 p s).addFld BRL_PORTp_COUNTS_LINK_DOWNS 1 p), (portToStage1 p s).addFld BRL_PORTp_COUNTS_LINK_DOWNS 1 p,
    ?_, ?_, ?_, ?_, (brPort_congr hring p).trans hport, fun j hj => (brPort_congr hring j).trans (hports j hj), rfl, hflt⟩
  · unfold linkDown
    rw [if_pos hact]
  · unfold State.stage
    rw [hfld BRL_PORTp_STATUS_STAGE (by decide), fld_addFld_elsewhere _ BRL_PORTp_COUNTS_LINK_DOWNS BRL_PORTp_STATUS_STAGE 1 (hkey _ rfl rfl)]
    exact hstage
  · unfold State.portActive State.on
    rw [hfld BRL_PORTp_STATUS_ACTIVE (by decide), fld_addFld_elsewhere _ BRL_PORTp_COUNTS_LINK_DOWNS BRL_PORTp_STATUS_ACTIVE 1 (hkey _ rfl rfl)]
    exact hdown
  · rw [hfld BRL_PORTp_COUNTS_LINK_DOWNS (by decide), fld_addFld _ BRL_PORTp_COUNTS_LINK_DOWNS 1 p 0 0, hcount]
    rfl

theorem nak_takes_link_down {p : Fin 4} {seq : Nat} (hact : s.portActive p = true) (hreplay : (s.brPort p).replay ≠ [])
    (hseq : ∀ x ∈ (s.brPort p).replay, x.1 ≠ seq) (hresent : 15 ≤ (s.brPort p).resent) :
    ∃ t u, exec (.nak p seq) s = .next t ∧ t.stage p = 1 ∧ t.portActive p = false ∧
      t.fld BRL_PORTp_COUNTS_LINK_DOWNS p = (s.fld BRL_PORTp_COUNTS_LINK_DOWNS p + 1) % 2 ^ 16 ∧ (t.brPort p).replay = [] ∧
      t.flt = (raise (0x184 + p) 1 u).flt ∧ u.flt = s.flt := by
  have hexec := nak_replays (n := (s.brPort p).resent + 1) hact (dropAcked_none hseq) (by rw [if_neg (by omega)])
  rw [if_neg hreplay, if_pos (by omega)] at hexec
  obtain ⟨-, -, -, hflt, hactive, -, hcount⟩ := nakked_spec p (s.brPort p).replay ((s.brPort p).resent + 1) s
  obtain ⟨t, u, hdown, hstage, hoff, hdowns, hport, -, hraised, hu⟩ := linkDown_spec (hactive.trans hact)
  refine ⟨t, u, hexec.trans (congrArg _ hdown), hstage, hoff, hdowns.trans (by rw [hcount]), ?_, hraised, hu.trans hflt⟩
  rw [hport]
  rfl

theorem link_goes_down (p : Fin 4) (s : State) :
    (s.portActive p = true → ∃ t u, exec (.brociaLinkDown p) s = .next t ∧ t.stage p = 1 ∧ t.portActive p = false ∧
      t.fld BRL_PORTp_COUNTS_LINK_DOWNS p = (s.fld BRL_PORTp_COUNTS_LINK_DOWNS p + 1) % 2 ^ 16 ∧
      t.brPort p = { BrPort.reset with queue := (s.brPort p).queue } ∧ (∀ j, j ≠ p.val → t.brPort j = s.brPort j) ∧
      t.flt = (raise (0x184 + p) 1 u).flt ∧ u.flt = s.flt) ∧
    (s.portActive p = false → exec (.brociaLinkDown p) s = .next s) := by
  refine ⟨fun hact => ?_, fun hoff => ?_⟩
  · obtain ⟨t, u, hdown, hspec⟩ := linkDown_spec hact
    exact ⟨t, u, by rw [exec_brociaLinkDown, execBrociaLinkDown, hdown], hspec⟩
  · rw [exec_brociaLinkDown, execBrociaLinkDown, linkDown, if_neg (by simp [hoff])]

/-! ### Credits and tick markers (R561, R565) -/

theorem credits_added {p : Fin 4} {a b c d w x y z : Nat} (hact : s.portActive p = true) (hqueue : (s.brPort p).queue = [])
    (hcredits : (s.brPort p).credits = [a, b, c, d]) :
    ∃ t, exec (.cred p [w, x, y, z]) s = .next t ∧ t.brPort p = { s.brPort p with credits := [a + w, b + x, c + y, d + z] } ∧
      t.out = s.out ∧ storesKeep s t := by
  have hexec : exec (.cred p [w, x, y, z]) s = .next ((s.modPort p (fun q =>
      { q with credits := q.credits.zipIdx.map (fun c => c.1 + nth 0 [w, x, y, z] c.2) })).modPort p (fun q => { q with queue := [] })) := by
    rw [exec_cred, execCred, if_pos hact, pumpPort_empty]
    rw [brPort_modPort_same]
    exact hqueue
  refine ⟨_, hexec, ?_, rfl, rfl, rfl⟩
  rw [brPort_modPort_same, brPort_modPort_same]
  dsimp only
  rw [hcredits, ← hqueue]
  rfl

theorem tick_stamped {p : Fin 4} {low : Nat} {since : Int} (hp : p.val < s.tck.stamps.length) :
    ∃ t, exec (.tick p low since) s = .next t ∧ (t.tck.stamps.getD p []).getLast? = some ⟨low % 256, since, s.tickCount, s.tck.ticks⟩ ∧
      ((s.tck.stamps.getD p []).length ≤ 4 → (t.tck.stamps.getD p []).length ≤ 4) ∧ t = { s with tck := t.tck } ∧ t.out = s.out := by
  have hexec : exec (.tick p low since) s = .next { s with tck := { s.tck with
      stamps := s.tck.stamps.set p
        ((s.tck.stamps.getD p [] ++ [TickStamp.mk (low % 256) since s.tickCount s.tck.ticks]).drop ((s.tck.stamps.getD p []).length - 3)) } } := by
    rw [exec_tick, execTick]
  have hget (l : List TickStamp) : (s.tck.stamps.set p l).getD p [] = l := by
    rw [List.getD_eq_getElem?_getD, List.getElem?_set_self hp]
    rfl
  refine ⟨_, hexec, ?_, fun hlen => ?_, rfl, rfl⟩
  · dsimp only
    rw [hget, List.getLast?_drop, if_neg (by simp), List.getLast?_append]
    simp
  · dsimp only
    rw [hget, List.length_drop, List.length_append, List.length_singleton]
    omega

/-- Settles O50. -/
theorem linkTransport : Obligations.LinkTransport :=
  ⟨descramble_scramble, payloadOf_payloadBits, fun f _ _ hdata hseq hkind => frame_encoded f hdata hseq hkind,
    fun _ _ _ hact => answer_and_check hact, fun _ _ _ _ _ _ hraw => block_checked hraw,
    fun _ _ _ _ _ _ hact hreplay ha hqueue => ⟨ack_frees hact hreplay ha hqueue, nak_resends hact hreplay ha⟩,
    fun _ _ _ hact hreplay hseq hresent => nak_takes_link_down hact hreplay hseq hresent, link_goes_down,
    fun _ _ _ _ _ _ _ _ _ _ hact hqueue hcredits => credits_added hact hqueue hcredits, fun _ _ _ _ hp => tick_stamped hp⟩

end Sys2Proof.Machine
end

section
-- One proof at a time: the memory limit of the check counts a stack for every proof that waits for another.
set_option Elab.async false
/-! SUPPORT. The configuration commands (R366 to R396) and the PUSH register. -/

namespace Sys2Proof.Machine

variable {p : Packet} {s : State}

/-! ### What a command's start leaves of the configuration's registers -/

theorem on_beginCommand (p : Packet) (s : State) (F : Field) (hlo : 0x1188 < F.key 0 0 0) (hhi : F.key 0 0 0 < slotSpan) :
    (beginCommand p s).on F = s.on F := by
  unfold State.on
  rw [fld_beginCommand p s F 0 0 0 hlo hhi]

theorem banked_beginCommand (p : Packet) (s : State) : (beginCommand p s).banked = s.banked := by
  unfold State.banked
  rw [fld_beginCommand p s PWR_STATUS_STATE 0 0 0 (by decide) (by decide)]

theorem cfState_beginCommand (p : Packet) (s : State) : (beginCommand p s).cfState = s.cfState :=
  fld_beginCommand p s CFG_STATUS_STATE 0 0 0 (by decide) (by decide)

theorem tickCount_beginCommand (p : Packet) (s : State) : (beginCommand p s).tickCount = s.tickCount :=
  congrArg (BitVec.ofNat 64) (fld_beginCommand p s TCK_COUNT_COUNT 0 0 0 (by decide) (by decide))

theorem nextDue_beginCommand (p : Packet) (s : State) : (beginCommand p s).nextDue = s.nextDue :=
  nextDue_congr (reg_beginCommand p s (by decide) (by decide)) (beginCommand_tck p s)

/-! ### CFG_LOAD and CFG_ABORT (R366, R367, R370) -/

theorem load_begins (hacc : s.accepts 0x0101 (loadNeed (p.w 1)) .owner p) (hbank : s.banked = false) (hload : s.cfg.load = none)
    (hsource : bits (p.w 1) 0 2 ≠ 3) :
    ∃ t, exec (.cfgLoad p) s = .next t ∧
      t.cfg = { s.cfg with load := some (Load.fresh (some p) (bits (p.w 1) 0 2) (bit (p.w 1) 4) (bits (p.w 2) 0 38)) } ∧
      t.fld CFG_PROGRESS_FRAMES = 0 ∧ t.fld CFG_PROGRESS_BYTES = 0 ∧ t.fld CFG_STATUS_FULL = bnat (!bit (p.w 1) 4) ∧
      t.out = (if bits (p.w 1) 0 2 ≤ 1 then [Out.streamFetch (bits (p.w 1) 0 2) (bits (p.w 2) 0 38)] else []) ++ s.out ∧ t.mem = s.mem := by
  have hexec : exec (.cfgLoad p) s = .next (beginLoad (Load.fresh (some p) (bits (p.w 1) 0 2) (bit (p.w 1) 4) (bits (p.w 2) 0 38)) (beginCommand p s)) := by
    rw [exec_cfgLoad, execCfgLoad, runCommand_passes hacc]
    dsimp only
    rw [banked_beginCommand, hbank, if_neg (by decide), beginCommand_cfg, hload, if_neg (by decide), if_neg fun h => hsource h.1]
  have hbegin : beginLoad (Load.fresh (some p) (bits (p.w 1) 0 2) (bit (p.w 1) 4) (bits (p.w 2) 0 38)) (beginCommand p s) =
      { setLoad (some (Load.fresh (some p) (bits (p.w 1) 0 2) (bit (p.w 1) 4) (bits (p.w 2) 0 38)))
          ((((beginCommand p s).setFld CFG_PROGRESS_FRAMES 0).setFld CFG_PROGRESS_BYTES 0).setFld CFG_STATUS_FULL (bnat (!bit (p.w 1) 4))) with
        out := (if bits (p.w 1) 0 2 ≤ 1 then [Out.streamFetch (bits (p.w 1) 0 2) (bits (p.w 2) 0 38)] else []) ++ (beginCommand p s).out } := by
    unfold beginLoad Load.fresh
    dsimp only
    rw [if_neg hsource]
    split <;> rfl
  rw [hbegin] at hexec
  refine ⟨_, hexec, ?_, ?_, ?_, ?_, ?_, ?_⟩
  · exact congrArg (fun c : CfgState => { c with load := some (Load.fresh (some p) (bits (p.w 1) 0 2) (bit (p.w 1) 4) (bits (p.w 2) 0 38)) }) (beginCommand_cfg p s)
  · refine (fld_setFld_elsewhere _ CFG_STATUS_FULL CFG_PROGRESS_FRAMES _ (by decide)).trans ?_
    rw [fld_setFld_beside _ CFG_PROGRESS_BYTES CFG_PROGRESS_FRAMES, fld_setFld_fits _ CFG_PROGRESS_FRAMES 0 0 0 (by decide)]
  · refine (fld_setFld_elsewhere _ CFG_STATUS_FULL CFG_PROGRESS_BYTES _ (by decide)).trans ?_
    rw [fld_setFld_fits _ CFG_PROGRESS_BYTES 0 0 0 (by decide)]
  · exact fld_setFld_fits _ CFG_STATUS_FULL 0 0 0 (by cases bit (p.w 1) 4 <;> decide)
  · rw [beginCommand_out]
  · exact beginCommand_mem p s

theorem load_busy {l : Load} (hacc : s.accepts 0x0101 (loadNeed (p.w 1)) .owner p) (hbank : s.banked = false) (hload : s.cfg.load = some l) :
    exec (.cfgLoad p) s = .next (endCommand p .busy [] (beginCommand p s)) := by
  rw [exec_cfgLoad, execCfgLoad, runCommand_passes hacc]
  dsimp only
  rw [banked_beginCommand, hbank, if_neg (by decide), beginCommand_cfg, hload]
  exact congrArg Host.Outcome.next (if_pos rfl)

/-- The state in which an aborted load raises its fault. -/
def abortNoted (p : Packet) (s : State) : State :=
  setLoad none (((beginCommand p s).setFld CFG_STATUS_FAIL 10).addFld CFG_LOADS_FAILED 1)

theorem load_aborted {l : Load} (hacc : s.accepts 0x0102 0 .owner p) (hload : s.cfg.load = some l) (hclear : l.clear = false)
    (hcmd : l.cmd = none) (hheader : l.header = none) :
    ∃ u, exec (.cfgAbort p) s = .next (endCommand p .ok [BitVec.ofNat 64 (s.fld CFG_PROGRESS_FRAMES)] (raise 0x380 10 u)) ∧
      u.cfg = { s.cfg with load := none } ∧ u.fld CFG_STATUS_FAIL = 10 ∧
      u.fld CFG_LOADS_FAILED = (s.fld CFG_LOADS_FAILED + 1) % 2 ^ CFG_LOADS_FAILED.w ∧ u.out = s.out ∧ u.mem = s.mem := by
  have hload' : (beginCommand p s).cfg.load = some l := by rw [beginCommand_cfg, hload]
  have hfail : loadFail 10 (beginCommand p s) = raise 0x380 10 (abortNoted p s) := by
    unfold loadFail
    rw [hload']
    dsimp only
    rw [if_neg (by simp [hclear]), if_neg (by simp), replyLoad, hcmd, clearFailed, hheader]
    rfl
  refine ⟨abortNoted p s, ?_, congrArg (fun c : CfgState => { c with load := none }) (beginCommand_cfg p s), ?_, ?_, beginCommand_out p s, beginCommand_mem p s⟩
  · rw [exec_cfgAbort, execCfgAbort, runCommand_passes hacc, hload']
    dsimp only
    rw [if_neg (by simp [hclear]), hfail, fld_beginCommand p s CFG_PROGRESS_FRAMES 0 0 0 (by decide) (by decide)]
  · refine (fld_addFld_elsewhere _ CFG_LOADS_FAILED CFG_STATUS_FAIL 1 (by decide)).trans ?_
    exact fld_setFld_fits _ CFG_STATUS_FAIL 0 0 0 (by decide)
  · refine (fld_addFld _ CFG_LOADS_FAILED 1 0 0 0).trans ?_
    rw [fld_setFld_elsewhere _ CFG_STATUS_FAIL CFG_LOADS_FAILED _ (by decide), fld_beginCommand p s CFG_LOADS_FAILED 0 0 0 (by decide) (by decide)]

/-! ### CFG_START (R383, R384) -/

theorem start_command (hacc : s.accepts 0x0103 1 .owner p) :
    (s.cfState ≠ cfReady ∨ (p.w 1 ≠ 0 ∧ (p.w 1).toNat ≤ s.tickCount.toNat) →
      exec (.cfgStart p) s = .next (endCommand p .invalid [] (beginCommand p s))) ∧
    (s.cfState = cfReady → p.w 1 = 0 →
      ∃ u, exec (.cfgStart p) s = .next (endCommand p .ok [s.tickCount + BitVec.ofNat 64 (s.nextDue - s.tck.ticks)] u) ∧
        u = { beginCommand p s with cfg := { s.cfg with startDue := some s.nextDue } }) ∧
    (s.cfState = cfReady → s.tickCount.toNat < (p.w 1).toNat →
      ∃ u, exec (.cfgStart p) s =
          .next (endCommand p .ok [BitVec.ofNat 64 (max (p.w 1).toNat (s.tickCount.toNat + (s.nextDue - s.tck.ticks)))] u) ∧
        u = { beginCommand p s with cfg := { s.cfg with startTick := some (p.w 1).toNat, startOpen := s.nextDue } }) := by
  have hzero : (p.w 1).toNat ≠ 0 ↔ p.w 1 ≠ 0 := not_congr ⟨fun h => BitVec.eq_of_toNat_eq h, fun h => by rw [h]; rfl⟩
  have hexec : exec (.cfgStart p) s = .next (
      if s.cfState ≠ cfReady ∨ ((p.w 1).toNat ≠ 0 ∧ (p.w 1).toNat ≤ s.tickCount.toNat) then endCommand p .invalid [] (beginCommand p s)
      else if (p.w 1).toNat = 0 then
        endCommand p .ok [s.tickCount + BitVec.ofNat 64 (s.nextDue - s.tck.ticks)]
          { beginCommand p s with cfg := { s.cfg with startDue := some s.nextDue } }
      else endCommand p .ok [BitVec.ofNat 64 (max (p.w 1).toNat (s.tickCount.toNat + (s.nextDue - s.tck.ticks)))]
        { beginCommand p s with cfg := { s.cfg with startTick := some (p.w 1).toNat, startOpen := s.nextDue } }) := by
    rw [exec_cfgStart, execCfgStart, runCommand_passes hacc]
    dsimp only
    rw [cfState_beginCommand, tickCount_beginCommand, nextDue_beginCommand, beginCommand_tck, beginCommand_cfg]
  refine ⟨fun hno => ?_, fun hready hnow => ⟨_, ?_, rfl⟩, fun hready hlater => ⟨_, ?_, rfl⟩⟩
  · rw [hexec, if_pos (hno.imp id fun h => ⟨hzero.mpr h.1, h.2⟩)]
  · rw [hexec, if_neg, if_pos (by rw [hnow]; rfl)]
    rintro (h | ⟨h, -⟩)
    · exact h hready
    · exact hzero.mp h hnow
  · rw [hexec, if_neg, if_neg (by omega)]
    rintro (h | ⟨-, h⟩)
    · exact h hready
    · omega

/-! ### CFG_READBACK (R391) -/

theorem recordOf_congr {t : State} (h : t.cfg = s.cfg) (n : Nat) : recordOf t n = recordOf s n := by
  unfold recordOf
  rw [h]

theorem frames_read_back {t : Nat} (hacc : s.accepts 0x0104 2 .owner p) (hbank : s.banked = false) (hload : s.cfg.load = none)
    (hmay : s.on CFG_FUSE_READBACK_DIS = false) (hrun : s.cfg.running = none) (ht : t = (if bit (p.w 1) 6 then 64 else bits (p.w 1) 0 6)) :
    ∃ u, exec (.cfgReadback p none) s = .next (endCommand p .ok [BitVec.ofNat 64 (2 * (sigSpan t).2)] u) ∧
      u = (beginCommand p s).emit (.readback (bits (p.w 2) 0 38)
        ((List.range (2 * (sigSpan t).2)).flatMap (fun k => recordOf s (2 * (sigSpan t).1 + k)))) := by
  refine ⟨_, ?_, rfl⟩
  have hrecords : (fun k => recordOf (beginCommand p s) (2 * (sigSpan t).1 + k)) = fun k => recordOf s (2 * (sigSpan t).1 + k) :=
    funext fun k => recordOf_congr (beginCommand_cfg p s) _
  rw [exec_cfgReadback, execCfgReadback, runCommand_passes hacc]
  dsimp only
  rw [← ht, banked_beginCommand, hbank, if_neg (by decide), beginCommand_cfg, hload, if_neg (by decide), hrun,
    on_beginCommand p s CFG_FUSE_READBACK_DIS (by decide) (by decide), hmay, if_neg (by simp), if_neg (by omega), hrecords]

/-! ### Fuses (R357, R363, R366) -/

theorem rollback_raised {h : LoadHeader} (hacc : s.accepts 0x0105 1 .owner p) (hload : s.cfg.load = none) (hrun : s.cfg.running = some h)
    (hfit : (p.w 1).toNat ≤ 64) :
    ∃ u n, exec (.fuseRollback p) s = .next (endCommand p .ok [BitVec.ofNat 64 n] u) ∧ n = u.cfg.fuses.rollback ∧
      n = max s.cfg.fuses.rollback (min (p.w 1).toNat h.rollback) ∧ u.fld CFG_FUSE_ROLLBACK = n % 2 ^ CFG_FUSE_ROLLBACK.w ∧
      u.out = s.out ∧ u.mem = s.mem := by
  have hexec : exec (.fuseRollback p) s = .next (endCommand p .ok [BitVec.ofNat 64 (max s.cfg.fuses.rollback (min (p.w 1).toNat h.rollback))]
      (({ beginCommand p s with cfg := { s.cfg with
        fuses := { s.cfg.fuses with rollback := max s.cfg.fuses.rollback (min (p.w 1).toNat h.rollback) } } }).setFld CFG_FUSE_ROLLBACK
          (max s.cfg.fuses.rollback (min (p.w 1).toNat h.rollback)))) := by
    rw [exec_fuseRollback, execFuseRollback, runCommand_passes hacc]
    dsimp only
    rw [beginCommand_cfg, hload, if_neg (by decide), hrun]
    dsimp only
    rw [if_neg (by omega)]
  exact ⟨_, _, hexec, rfl, rfl, fld_setFld_same _ CFG_FUSE_ROLLBACK _ 0 0 0 (by unfold Field.good; decide), beginCommand_out p s, beginCommand_mem p s⟩

theorem item_programmed {item : Nat} {f : Fuses} (hacc : s.accepts 0x0106 1 .owner p) (hitem : item = bits (p.w 1) 0 4)
    (hneed : fuseNeed item ≤ p.len) (hload : s.cfg.load = none) (hfit : item ≤ 11) (hen : s.on CFG_FUSE_FUSE_EN = true)
    (hprog : s.cfg.fuses.program item ((p.words.drop 1).take (fuseNeed item - 1)) = some f) :
    ∃ u, exec (.fuseProgram p) s = .next (endCommand p .ok [BitVec.ofNat 64 item] u) ∧ u.cfg.fuses = f ∧ u.out = s.out ∧
      u.mem = s.mem ∧ regsKeep [CFG_FUSE_REVOKED.off] (beginCommand p s) u := by
  have hexec : exec (.fuseProgram p) s = .next (endCommand p .ok [BitVec.ofNat 64 item]
      (({ beginCommand p s with cfg := { s.cfg with fuses := f } }).setFld CFG_FUSE_REVOKED f.revoked)) := by
    rw [exec_fuseProgram, execFuseProgram, runCommand_passes hacc]
    dsimp only
    rw [← hitem, if_neg (by omega), beginCommand_cfg, hload, if_neg (by decide), if_neg (by omega),
      on_beginCommand p s CFG_FUSE_FUSE_EN (by decide) (by decide), hen, if_neg (by decide), hprog]
  exact ⟨_, hexec, rfl, beginCommand_out p s, beginCommand_mem p s,
    regsKeep_after_setFld CFG_FUSE_REVOKED _ 0 0 0 (fun _ _ => rfl) (.head _)⟩

theorem item_locked (hacc : s.accepts 0x0106 1 .owner p) (hneed : fuseNeed (bits (p.w 1) 0 4) ≤ p.len) (hload : s.cfg.load = none)
    (hfit : bits (p.w 1) 0 4 ≤ 11) (hen : s.on CFG_FUSE_FUSE_EN = false) :
    exec (.fuseProgram p) s = .next (endCommand p .locked [] (beginCommand p s)) := by
  rw [exec_fuseProgram, execFuseProgram, runCommand_passes hacc]
  dsimp only
  rw [if_neg (by omega), beginCommand_cfg, hload, if_neg (by decide), if_neg (by omega),
    on_beginCommand p s CFG_FUSE_FUSE_EN (by decide) (by decide), hen, if_pos (by decide)]

/-! ### CFG_PUSH (R374) -/

theorem push_taken {m : Ident} {data : Word} {l : Load} (hadm : s.admits m .CFG_PUSH []) (hload : s.cfg.load = some l)
    (hsource : l.source = 2) (hclear : l.clear = false) (hcmd : l.cmd = some p) (hissuer : p.issuer = m) (hheader : l.header = none) :
    ∃ t, exec (.cfgPushWrite m .full data) s = .next t ∧ t.cfg = { s.cfg with load := some { l with push := l.push ++ [data] } } ∧
      t.fld CFG_PROGRESS_BYTES = (s.fld CFG_PROGRESS_BYTES + 8) % 2 ^ CFG_PROGRESS_BYTES.w ∧ t.out = s.out ∧ t.mem = s.mem := by
  have hexec : exec (.cfgPushWrite m .full data) s = .next (setLoad (some { l with push := l.push ++ [data] })
      ((renewLease m s).addFld CFG_PROGRESS_BYTES 8)) := by
    rw [exec_cfgPushWrite, execCfgPushWrite, regWrite_admits hadm, pushEffect, renewLease_cfg, hload]
    dsimp only
    rw [if_neg (by simp [hsource, hclear, hcmd, hissuer]), if_neg (by decide), hheader, if_neg (by simp)]
  refine ⟨_, hexec, congrArg (fun c : CfgState => { c with load := some { l with push := l.push ++ [data] } }) (renewLease_cfg m s),
    (fld_addFld _ CFG_PROGRESS_BYTES 8 0 0 0).trans ?_, renewLease_out m s, renewLease_mem m s⟩
  rw [fld_renewLease m s CFG_PROGRESS_BYTES 0 0 0 (by decide)]

theorem push_refused {m : Ident} {h : Half} {data : Word} (hadm : s.admits m .CFG_PUSH []) (hload : s.cfg.load = none) :
    exec (.cfgPushWrite m h data) s = .next (violation m .area true (CFG_PUSH_DATA.off + h.skip) (renewLease m s)) := by
  rw [exec_cfgPushWrite, execCfgPushWrite, regWrite_admits hadm, pushEffect, renewLease_cfg, hload]

/-- Settles O36. -/
theorem configurationCommands : Obligations.ConfigurationCommands :=
  ⟨fun _ _ hacc hbank hload hsource => load_begins hacc hbank hload hsource, fun _ _ _ hacc hbank hload => load_busy hacc hbank hload,
    fun _ _ _ hacc hload hclear hcmd hheader => load_aborted hacc hload hclear hcmd hheader, fun _ _ hacc => start_command hacc,
    fun _ _ _ hacc hbank hload hmay hrun ht => frames_read_back hacc hbank hload hmay hrun ht,
    fun _ _ _ hacc hload hrun hfit => rollback_raised hacc hload hrun hfit,
    fun _ _ _ _ hacc hitem hneed hload hfit hen hprog => item_programmed hacc hitem hneed hload hfit hen hprog,
    fun _ _ hacc hneed hload hfit hen => item_locked hacc hneed hload hfit hen,
    fun _ _ _ _ _ hadm hload hsource hclear hcmd hissuer hheader => push_taken hadm hload hsource hclear hcmd hissuer hheader,
    fun _ _ _ _ hadm hload => push_refused hadm hload⟩

end Sys2Proof.Machine
end

section
-- One proof at a time: the memory limit of the check counts a stack for every proof that waits for another.
set_option Elab.async false
/-! SUPPORT. The context store: a context's words, owner and counts after it is read, written, filed or freed (R75 to R126). -/

namespace Sys2Proof.Machine

variable {s t : State}

/-! ### Protected words -/

theorem clean_value? (d : Word) : (PWord.clean d).value? = some d := by
  unfold PWord.value?
  rw [decode_clean]
  rfl

@[simp] theorem clean_value (d : Word) : (PWord.clean d).value = d := by
  unfold PWord.value
  rw [clean_value?]
  rfl

@[simp] theorem clean_isBad (d : Word) : (PWord.clean d).isBad = false := by
  unfold PWord.isBad
  rw [decode_clean]
  rfl

theorem pword_congr (h : t.mem = s.mem) (k : Nat) : t.pword k = s.pword k := by
  unfold State.pword
  rw [h]

@[simp] theorem pword_writeP_same (s : State) (k : Nat) (d : Word) : (s.writeP k d).pword k = PWord.clean d := pword_setPword_same s k _

theorem pword_writeP_other (s : State) {k j : Nat} (d : Word) (h : j ≠ k) : (s.writeP k d).pword j = s.pword j := pword_setPword_other s _ h

theorem noteMend_rest (s : State) (k : Nat) : s.noteMend k = { s with mends := (s.noteMend k).mends } := by
  unfold State.noteMend
  split <;> rfl

@[simp] theorem noteMend_mem (s : State) (k : Nat) : (s.noteMend k).mem = s.mem := by rw [noteMend_rest]
@[simp] theorem noteMend_regs (s : State) (k : Nat) : (s.noteMend k).regs = s.regs := by rw [noteMend_rest]
@[simp] theorem noteMend_ctx (s : State) (k : Nat) : (s.noteMend k).ctx = s.ctx := by rw [noteMend_rest]
@[simp] theorem noteMend_out (s : State) (k : Nat) : (s.noteMend k).out = s.out := by rw [noteMend_rest]

theorem noteCtx_rest (s : State) (id : Nat) : s.noteCtx id = { s with mends := (s.noteCtx id).mends } := by
  unfold State.noteCtx
  rw [noteMend_rest (((s.noteMend _).noteMend _).noteMend _), noteMend_rest ((s.noteMend _).noteMend _), noteMend_rest (s.noteMend _),
    noteMend_rest s]

/-! ### A context's words -/

/-- Word `k` of one context is no word of another. -/
theorem ctxKey_ne {i j k l : Nat} (h : i ≠ j) (hk : k < 4) (hl : l < 4) : ctxKey i k ≠ ctxKey j l := by
  unfold ctxKey memKey
  omega

theorem ctxKey_word_ne (i : Nat) {k l : Nat} (h : k ≠ l) : ctxKey i k ≠ ctxKey i l := by
  unfold ctxKey memKey
  omega

theorem ctxWords_congr {id : Nat} (h : ∀ k, k < 4 → t.pword (ctxKey id k) = s.pword (ctxKey id k)) : t.ctxWords id = s.ctxWords id := by
  unfold State.ctxWords
  rw [h 0 (by decide), h 1 (by decide), h 2 (by decide), h 3 (by decide)]

theorem badWords_congr {id : Nat} (h : ∀ k, k < 4 → t.pword (ctxKey id k) = s.pword (ctxKey id k)) : t.badWords id = s.badWords id := by
  unfold State.badWords
  rw [h 0 (by decide), h 1 (by decide), h 2 (by decide), h 3 (by decide)]

theorem votedOwner_congr (h : t.ctx.tags = s.ctx.tags) (id : Nat) : t.votedOwner id = s.votedOwner id := by
  unfold State.votedOwner State.ownerTags
  rw [h]

theorem vote3_same (a : Nat) : vote3 a a a = a := by
  unfold vote3
  rw [Nat.and_self, Nat.or_self, Nat.or_self]

/-- What a whole write of a context leaves. -/
theorem putCtx_rest (s : State) (id : Nat) (c : Ctx) :
    s.putCtx id c = { s with mem := (s.putCtx id c).mem, mends := (s.putCtx id c).mends } := rfl

theorem putCtx_words (s : State) (id : Nat) (c : Ctx) : (s.putCtx id c).pword (ctxKey id 0) = PWord.clean c.w0 ∧
    (s.putCtx id c).pword (ctxKey id 1) = PWord.clean c.w1 ∧ (s.putCtx id c).pword (ctxKey id 2) = PWord.clean c.w2 ∧
    (s.putCtx id c).pword (ctxKey id 3) = PWord.clean c.w3 := by
  unfold State.putCtx
  refine ⟨?_, ?_, ?_, pword_writeP_same _ _ _⟩
  · rw [pword_writeP_other _ _ (ctxKey_word_ne id (by decide)), pword_writeP_other _ _ (ctxKey_word_ne id (by decide)),
      pword_writeP_other _ _ (ctxKey_word_ne id (by decide)), pword_writeP_same]
  · rw [pword_writeP_other _ _ (ctxKey_word_ne id (by decide)), pword_writeP_other _ _ (ctxKey_word_ne id (by decide)), pword_writeP_same]
  · rw [pword_writeP_other _ _ (ctxKey_word_ne id (by decide)), pword_writeP_same]

theorem putCtx_pword_other (s : State) (id : Nat) (c : Ctx) {key : Nat} (h : ∀ k, k < 4 → key ≠ ctxKey id k) :
    (s.putCtx id c).pword key = s.pword key := by
  unfold State.putCtx
  rw [pword_writeP_other _ _ (h 3 (by decide)), pword_writeP_other _ _ (h 2 (by decide)), pword_writeP_other _ _ (h 1 (by decide)),
    pword_writeP_other _ _ (h 0 (by decide))]

theorem putCtx_ctxWords (s : State) (id : Nat) (c : Ctx) : (s.putCtx id c).ctxWords id = c ∧ (s.putCtx id c).badWords id = 0 := by
  obtain ⟨h0, h1, h2, h3⟩ := putCtx_words s id c
  unfold State.ctxWords State.badWords
  rw [h0, h1, h2, h3]
  simp [bnat]

theorem putCtx_ctxWords_other (s : State) {id j : Nat} (c : Ctx) (h : j ≠ id) : (s.putCtx id c).ctxWords j = s.ctxWords j :=
  ctxWords_congr fun _ hk => putCtx_pword_other s id c fun _ hl => ctxKey_ne h hk hl

/-! ### The counts (R110, R113) -/

/-- The registers of a change from stored state `a` to stored state `b` in domain `d`. -/
def moveKeys (d a b : Nat) : List Nat :=
  [CTX_STATE_COUNTs_COUNT.key a 0 0, CTX_STATE_COUNTs_COUNT.key b 0 0, CTX_DOMd_STATUS_RESIDENT.key d 0 0, CTX_COUNT_RESIDENT_RESIDENT.off,
    CTX_COUNT_CREATED_COUNT.off, CTX_COUNT_DESTROYED_COUNT.off, CTX_DOMd_CREATED_COUNT.key d 0 0, CTX_DOMd_DESTROYED_COUNT.key d 0 0]

theorem bumpState_onlyRegs (st : Nat) (up : Bool) (s : State) : onlyRegs [CTX_STATE_COUNTs_COUNT.key st 0 0] s (bumpState st up s) := by
  unfold bumpState
  split
  · split
    · exact onlyRegs_addFld s _ _ _ _ _
    · exact onlyRegs_setFld s _ _ _ _ _
  · exact onlyRegs_refl _ s

/-- The first part of a change: the counts of the states and of the quarantined contexts. -/
def moveStates (d a b : Nat) (s : State) : State :=
  let s := bumpState b true (bumpState a false s)
  if a = stQuarantined ∧ b ≠ stQuarantined then s.setFld CTX_DOMd_STATUS_QUARANTINED (s.fld CTX_DOMd_STATUS_QUARANTINED d - 1) d
  else if a ≠ stQuarantined ∧ b = stQuarantined then s.addFld CTX_DOMd_STATUS_QUARANTINED 1 d else s

theorem moveStates_onlyRegs (d a b : Nat) (s : State) : onlyRegs
    [CTX_STATE_COUNTs_COUNT.key a 0 0, CTX_STATE_COUNTs_COUNT.key b 0 0, CTX_DOMd_STATUS_RESIDENT.key d 0 0] s (moveStates d a b s) := by
  have hbump : onlyRegs [CTX_STATE_COUNTs_COUNT.key a 0 0, CTX_STATE_COUNTs_COUNT.key b 0 0, CTX_DOMd_STATUS_RESIDENT.key d 0 0] s
      (bumpState b true (bumpState a false s)) :=
    onlyRegs_trans (onlyRegs_mono (by simp) (bumpState_onlyRegs a false s)) (onlyRegs_mono (by simp) (bumpState_onlyRegs b true _))
  unfold moveStates
  dsimp only
  split
  · exact onlyRegs_after_setFld CTX_DOMd_STATUS_QUARANTINED _ d 0 0 hbump (.tail _ (.tail _ (.head _)))
  · split
    · exact onlyRegs_after_setFld CTX_DOMd_STATUS_QUARANTINED _ d 0 0 hbump (.tail _ (.tail _ (.head _)))
    · exact hbump

/-- A context more in the store. -/
def countCreated (d : Nat) (s : State) : State :=
  let s := s.addFld CTX_COUNT_RESIDENT_RESIDENT 1
  let s := s.setFld CTX_COUNT_RESIDENT_FREE (s.fld CTX_COUNT_RESIDENT_FREE - 1)
  let s := s.addFld CTX_DOMd_STATUS_RESIDENT 1 d
  let s := s.addFld CTX_COUNT_CREATED_COUNT 1
  s.addFld CTX_DOMd_CREATED_COUNT 1 d

/-- A context less in the store. -/
def countDestroyed (d : Nat) (s : State) : State :=
  let s := s.setFld CTX_COUNT_RESIDENT_RESIDENT (s.fld CTX_COUNT_RESIDENT_RESIDENT - 1)
  let s := s.addFld CTX_COUNT_RESIDENT_FREE 1
  let s := s.setFld CTX_DOMd_STATUS_RESIDENT (s.fld CTX_DOMd_STATUS_RESIDENT d - 1) d
  let s := s.addFld CTX_COUNT_DESTROYED_COUNT 1
  clearOver d (s.addFld CTX_DOMd_DESTROYED_COUNT 1 d)

theorem moveCount_eq (d a b : Nat) (s : State) : moveCount d a b s =
    if a = stFree ∧ b ≠ stFree then countCreated d (moveStates d a b s)
    else if a ≠ stFree ∧ b = stFree then countDestroyed d (moveStates d a b s)
    else moveStates d a b s := rfl

/-- The registers of the resident counts. -/
def residentKeys (d : Nat) : List Nat := [CTX_DOMd_STATUS_RESIDENT.key d 0 0, CTX_COUNT_RESIDENT_RESIDENT.off,
    CTX_COUNT_CREATED_COUNT.off, CTX_COUNT_DESTROYED_COUNT.off, CTX_DOMd_CREATED_COUNT.key d 0 0, CTX_DOMd_DESTROYED_COUNT.key d 0 0]

theorem clearOver_onlyRegs (d : Nat) (s : State) : onlyRegs (residentKeys d) s (clearOver d s) := by
  unfold clearOver
  split
  · exact onlyRegs_mono (by simp [residentKeys, Field.key, CTX_DOMd_STATUS_OVER, CTX_DOMd_STATUS_RESIDENT]) (onlyRegs_setFld s CTX_DOMd_STATUS_OVER 0 d 0 0)
  · exact onlyRegs_refl _ s

theorem countCreated_onlyRegs (d : Nat) (s : State) : onlyRegs (residentKeys d) s (countCreated d s) := by
  unfold countCreated State.addFld
  refine onlyRegs_after_setFld CTX_DOMd_CREATED_COUNT _ d 0 0 (onlyRegs_after_setFld CTX_COUNT_CREATED_COUNT _ 0 0 0
    (onlyRegs_after_setFld CTX_DOMd_STATUS_RESIDENT _ d 0 0 (onlyRegs_after_setFld CTX_COUNT_RESIDENT_FREE _ 0 0 0
      (onlyRegs_after_setFld CTX_COUNT_RESIDENT_RESIDENT _ 0 0 0 (onlyRegs_refl _ s) ?_) ?_) ?_) ?_) ?_ <;>
    simp [residentKeys, Field.key, CTX_COUNT_RESIDENT_FREE, CTX_COUNT_RESIDENT_RESIDENT, CTX_COUNT_CREATED_COUNT]

theorem countDestroyed_onlyRegs (d : Nat) (s : State) : onlyRegs (residentKeys d) s (countDestroyed d s) := by
  unfold countDestroyed State.addFld
  refine onlyRegs_trans (onlyRegs_after_setFld CTX_DOMd_DESTROYED_COUNT _ d 0 0 (onlyRegs_after_setFld CTX_COUNT_DESTROYED_COUNT _ 0 0 0
    (onlyRegs_after_setFld CTX_DOMd_STATUS_RESIDENT _ d 0 0 (onlyRegs_after_setFld CTX_COUNT_RESIDENT_FREE _ 0 0 0
      (onlyRegs_after_setFld CTX_COUNT_RESIDENT_RESIDENT _ 0 0 0 (onlyRegs_refl _ s) ?_) ?_) ?_) ?_) ?_) (clearOver_onlyRegs d _) <;>
    simp [residentKeys, Field.key, CTX_COUNT_RESIDENT_FREE, CTX_COUNT_RESIDENT_RESIDENT, CTX_COUNT_DESTROYED_COUNT]

theorem moveCount_onlyRegs (d a b : Nat) (s : State) : onlyRegs (moveKeys d a b) s (moveCount d a b s) := by
  have hstates := onlyRegs_mono (l' := moveKeys d a b) (by simp [moveKeys]) (moveStates_onlyRegs d a b s)
  rw [moveCount_eq]
  split
  · exact onlyRegs_trans hstates (onlyRegs_mono (by simp [moveKeys, residentKeys]) (countCreated_onlyRegs d _))
  · split
    · exact onlyRegs_trans hstates (onlyRegs_mono (by simp [moveKeys, residentKeys]) (countDestroyed_onlyRegs d _))
    · exact hstates

theorem moveCount_rest (d a b : Nat) (s : State) : moveCount d a b s = { s with regs := (moveCount d a b s).regs } :=
  (moveCount_onlyRegs d a b s).1

/-! ### Storing a context -/

/-- What the store of a context changes: the words at `id`, registers and the mends filed; the calendar and the flights stand. -/
theorem storeCtx_rest (s : State) (id d a : Nat) (c : Ctx) : s.storeCtx id d a c =
    { s with regs := (s.storeCtx id d a c).regs, mem := (s.putCtx id c).mem, mends := (s.putCtx id c).mends } := by
  unfold State.storeCtx
  rw [moveCount_rest]
  rfl

theorem storeCtx_out (s : State) (id d a : Nat) (c : Ctx) : (s.storeCtx id d a c).out = s.out := by rw [storeCtx_rest]

theorem storeCtx_ctx (s : State) (id d a : Nat) (c : Ctx) : (s.storeCtx id d a c).ctx = s.ctx := by rw [storeCtx_rest]

theorem storeCtx_pword (s : State) (id d a : Nat) (c : Ctx) (key : Nat) : (s.storeCtx id d a c).pword key = (s.putCtx id c).pword key :=
  pword_congr (by rw [storeCtx_rest]) key

theorem storeCtx_ctxWords (s : State) (id d a : Nat) (c : Ctx) : (s.storeCtx id d a c).ctxWords id = c ∧ (s.storeCtx id d a c).badWords id = 0 := by
  obtain ⟨hwords, hbad⟩ := putCtx_ctxWords s id c
  exact ⟨(ctxWords_congr fun _ _ => storeCtx_pword s id d a c _).trans hwords, (badWords_congr fun _ _ => storeCtx_pword s id d a c _).trans hbad⟩

theorem storeCtx_ctxWords_other (s : State) {id j : Nat} (d a : Nat) (c : Ctx) (h : j ≠ id) : (s.storeCtx id d a c).ctxWords j = s.ctxWords j :=
  (ctxWords_congr fun _ _ => storeCtx_pword s id d a c _).trans (putCtx_ctxWords_other s c h)

theorem storeCtx_regsKeep (s : State) (id d a : Nat) (c : Ctx) : regsKeep (moveKeys d a c.state) s (s.storeCtx id d a c) :=
  (moveCount_onlyRegs d a c.state (s.putCtx id c)).2

/-! ### Reading a context (R108, R116, R117) -/

theorem rawState_good {id : Nat} (h : (s.pword (ctxKey id 0)).isBad = false) : s.rawState id = (s.ctxWords id).state := by
  unfold State.rawState
  rw [h, if_neg (by decide)]

theorem word_good_of_badWords {id : Nat} (h : s.badWords id = 0) : (s.pword (ctxKey id 0)).isBad = false := by
  unfold State.badWords at h
  cases hb : (s.pword (ctxKey id 0)).isBad with
  | false => rfl
  | true =>
    rw [hb] at h
    simp [bnat] at h

/-- The hearth controller reads a context whose words decode, for a member of its domain. -/
theorem hcRead_good {m : Ident} {id mask : Nat} (hbad : s.badWords id = 0) (hfree : (s.ctxWords id).state ≠ stFree)
    (hmember : s.member (s.votedOwner id) m = true) : hcRead m id mask s = (s.noteCtx id, some (s.ctxWords id)) := by
  have hgood := word_good_of_badWords hbad
  unfold hcRead
  rw [rawState_good hgood]
  dsimp only
  rw [if_neg fun h => hfree h.1, if_neg (by simp [hmember]), hbad, if_neg (by simp)]

/-! ### What a command's start leaves of the contexts -/

/-- The registers of a domain, but the one that holds EN and QUOTA, lie beside every slot's HC_SUBMIT_STATUS. -/
theorem fld_domain_beginCommand (p : Packet) (s : State) (F : Field) (d : Nat) (hoff : F.off % 64 ≠ 8 := by decide)
    (hlo : 0x1188 < F.off := by decide) (hs1 : F.s1 = 0x40 := by rfl) : (beginCommand p s).fld F d = s.fld F d := by
  have hclass : identClass p.issuer < 2 ^ 4 := bits_lt _ _ _
  refine fld_congr F d 0 0 (beginCommand_regsKeep p s _ ?_)
  simp only [startKeys, Field.key, hs1, HC_QUEUEc_LEVEL, HC_STATUS_EXECUTING, HC_SUBMIT_STATUS_RESERVED, queueOf, slotSpan, List.mem_cons,
    List.not_mem_nil, or_false]
  omega

/-- A start leaves the low half of every register above the command queues'. -/
theorem fld_low_beginCommand (p : Packet) (s : State) (F : Field) (d : Nat) (hlow : F.lo + F.w ≤ 32 := by decide)
    (hlo : 0x1188 < F.off := by decide) : (beginCommand p s).fld F d = s.fld F d := by
  have hclass : identClass p.issuer < 2 ^ 4 := bits_lt _ _ _
  have hqueue (G : Field) (hG : G.off = 0x40) (hG1 : G.s1 = 8) : F.key d 0 0 ≠ G.key (queueOf p.issuer) 0 0 := by
    simp only [Field.key, hG, hG1, queueOf]
    omega
  have hstatus : F.key d 0 0 ≠ HC_STATUS_EXECUTING.key 0 0 0 := by
    simp only [Field.key, HC_STATUS_EXECUTING]
    omega
  have hslot (n v : Nat) : (s.setMfld HC_SUBMIT_STATUS_RESERVED n v).fld F d = s.fld F d := by
    unfold State.setMfld State.fld
    rw [reg_setReg]
    split
    · next heq => rw [heq, bits_setBits_other _ _ _ _ _ _ (by decide) (.inl (Nat.le_trans hlow (by decide)))]
    · rfl
  unfold beginCommand
  dsimp only
  rw [fld_setFld_elsewhere _ HC_STATUS_EXECUTING F _ hstatus]
  refine (fld_addFld_elsewhere _ HC_QUEUEc_STARTED F 1 (hqueue _ rfl rfl)).trans ?_
  split
  · exact fld_setFld_elsewhere s HC_QUEUEc_LEVEL F _ (hqueue _ rfl rfl)
  · split
    · split
      · exact hslot _ _
      · rfl
    · rfl

theorem member_congr {d : Nat} (m : Ident) (hen : t.fld CTX_DOMd_CFG_EN d = s.fld CTX_DOMd_CFG_EN d)
    (hmatch : t.fld CTX_DOMd_MATCH_MATCH d = s.fld CTX_DOMd_MATCH_MATCH d) (hmask : t.fld CTX_DOMd_MATCH_MASK d = s.fld CTX_DOMd_MATCH_MASK d) :
    t.member d m = s.member d m := by
  unfold State.member State.on
  rw [hen, hmatch, hmask]

theorem member_beginCommand (p : Packet) (s : State) (d : Nat) (m : Ident) : (beginCommand p s).member d m = s.member d m :=
  member_congr m (fld_low_beginCommand p s CTX_DOMd_CFG_EN d) (fld_domain_beginCommand p s CTX_DOMd_MATCH_MATCH d)
    (fld_domain_beginCommand p s CTX_DOMd_MATCH_MASK d)

theorem ctxWords_beginCommand (p : Packet) (s : State) (id : Nat) : (beginCommand p s).ctxWords id = s.ctxWords id :=
  ctxWords_congr fun _ _ => beginCommand_pword p s _

theorem badWords_beginCommand (p : Packet) (s : State) (id : Nat) : (beginCommand p s).badWords id = s.badWords id :=
  badWords_congr fun _ _ => beginCommand_pword p s _

theorem votedOwner_beginCommand (p : Packet) (s : State) (id : Nat) : (beginCommand p s).votedOwner id = s.votedOwner id :=
  votedOwner_congr (by rw [beginCommand_ctx]) id

end Sys2Proof.Machine
end

section
-- One proof at a time: the memory limit of the check counts a stack for every proof that waits for another.
set_option Elab.async false
/-! SUPPORT. The creation of contexts: CTX_CREATE and CTX_CREATE_BLOCK (R105, R106, R109). -/

namespace Sys2Proof.Machine

variable {p : Packet} {s t : State} {d id : Nat} {img : Ctx}

/-! ### One created context -/

theorem createdCtx_state (d : Nat) (img : Ctx) : (createdCtx d img).state = stPaused := by
  unfold createdCtx Ctx.state
  dsimp only
  rw [bits_setBits_other _ _ _ _ _ _ (by decide) (by decide), bits_setBits_same _ _ _ _ (by decide)]
  rfl

theorem create_rest (s : State) (id d : Nat) (img : Ctx) : s.create id d img =
    { s with
      regs := (s.create id d img).regs, mem := (s.putCtx id (createdCtx d img)).mem, mends := (s.putCtx id (createdCtx d img)).mends
      ctx := { s.ctx with tags := Memory.set (fun _ => (0, 0, 0)) s.ctx.tags id (d, d, d) } } := by
  unfold State.create
  rw [storeCtx_rest]
  rfl

theorem create_pword (s : State) (id d : Nat) (img : Ctx) (key : Nat) :
    (s.create id d img).pword key = (s.putCtx id (createdCtx d img)).pword key := pword_congr (by rw [create_rest]) key

theorem create_words (s : State) (id d : Nat) (img : Ctx) : (s.create id d img).ctxWords id = createdCtx d img ∧
    (s.create id d img).badWords id = 0 := by
  obtain ⟨hwords, hbad⟩ := putCtx_ctxWords s id (createdCtx d img)
  exact ⟨(ctxWords_congr fun _ _ => create_pword s id d img _).trans hwords, (badWords_congr fun _ _ => create_pword s id d img _).trans hbad⟩

theorem create_words_other (s : State) {id j : Nat} (d : Nat) (img : Ctx) (h : j ≠ id) : (s.create id d img).ctxWords j = s.ctxWords j :=
  (ctxWords_congr fun _ _ => create_pword s id d img _).trans (putCtx_ctxWords_other s _ h)

theorem create_tags (s : State) (id d : Nat) (img : Ctx) :
    (s.create id d img).ctx.tags = Memory.set (fun _ => (0, 0, 0)) s.ctx.tags id (d, d, d) := by rw [create_rest]

theorem create_votedOwner (s : State) (id d : Nat) (img : Ctx) : (s.create id d img).votedOwner id = d := by
  unfold State.votedOwner State.ownerTags
  rw [create_tags, Memory.get_set_same]
  exact vote3_same d

theorem create_votedOwner_other (s : State) {id j : Nat} (d : Nat) (img : Ctx) (h : j ≠ id) :
    (s.create id d img).votedOwner j = s.votedOwner j := by
  unfold State.votedOwner State.ownerTags
  rw [create_tags, Memory.get_set_other _ h]

theorem create_out (s : State) (id d : Nat) (img : Ctx) : (s.create id d img).out = s.out := by rw [create_rest]

/-! ### The counts of a creation -/

theorem moveStates_created (d : Nat) (s : State) : moveStates d stFree stPaused s = s.addFld CTX_STATE_COUNTs_COUNT 1 4 := rfl

theorem domain_key_ne {F G : Field} {e : Nat} (hF : F.off ≤ 0x800168) (hF1 : F.s1 = 0) (hG : 0x801000 ≤ G.off) :
    F.key 0 0 0 ≠ G.key e 0 0 := by
  simp only [Field.key, hF1]
  omega

theorem countCreated_fields (d : Nat) (s : State) :
    (countCreated d s).fld CTX_COUNT_RESIDENT_RESIDENT = (s.fld CTX_COUNT_RESIDENT_RESIDENT + 1) % 2 ^ 21 ∧
    (countCreated d s).fld CTX_DOMd_STATUS_RESIDENT d = (s.fld CTX_DOMd_STATUS_RESIDENT d + 1) % 2 ^ 21 := by
  have hne (F G : Field) (hF : F.off ≤ 0x800168) (hF1 : F.s1 = 0) (hG : 0x801000 ≤ G.off) : F.key 0 0 0 ≠ G.key d 0 0 := domain_key_ne hF hF1 hG
  have hdom : CTX_DOMd_STATUS_RESIDENT.key d 0 0 ≠ CTX_DOMd_CREATED_COUNT.key d 0 0 := by
    simp only [Field.key, CTX_DOMd_STATUS_RESIDENT, CTX_DOMd_CREATED_COUNT]
    omega
  unfold countCreated
  dsimp only
  refine ⟨?_, ?_⟩
  · rw [fld_addFld_elsewhere _ CTX_DOMd_CREATED_COUNT CTX_COUNT_RESIDENT_RESIDENT 1 (hne _ _ (by decide) rfl (by decide)),
      fld_addFld_elsewhere _ CTX_COUNT_CREATED_COUNT CTX_COUNT_RESIDENT_RESIDENT 1 (by decide),
      fld_addFld_elsewhere _ CTX_DOMd_STATUS_RESIDENT CTX_COUNT_RESIDENT_RESIDENT 1 (hne _ _ (by decide) rfl (by decide)),
      fld_setFld_beside _ CTX_COUNT_RESIDENT_FREE CTX_COUNT_RESIDENT_RESIDENT, fld_addFld _ CTX_COUNT_RESIDENT_RESIDENT 1 0 0 0]
    rfl
  · rw [fld_addFld_elsewhere _ CTX_DOMd_CREATED_COUNT CTX_DOMd_STATUS_RESIDENT 1 hdom,
      fld_addFld_elsewhere _ CTX_COUNT_CREATED_COUNT CTX_DOMd_STATUS_RESIDENT 1 (hne _ _ (by decide) rfl (by decide)).symm,
      fld_addFld _ CTX_DOMd_STATUS_RESIDENT 1 d 0 0,
      fld_setFld_elsewhere _ CTX_COUNT_RESIDENT_FREE CTX_DOMd_STATUS_RESIDENT _ (hne _ _ (by decide) rfl (by decide)).symm,
      fld_addFld_elsewhere _ CTX_COUNT_RESIDENT_RESIDENT CTX_DOMd_STATUS_RESIDENT 1 (hne _ _ (by decide) rfl (by decide)).symm]
    rfl

theorem create_fields (s : State) (id d : Nat) (img : Ctx) :
    (s.create id d img).fld CTX_COUNT_RESIDENT_RESIDENT = (s.fld CTX_COUNT_RESIDENT_RESIDENT + 1) % 2 ^ 21 ∧
    (s.create id d img).fld CTX_DOMd_STATUS_RESIDENT d = (s.fld CTX_DOMd_STATUS_RESIDENT d + 1) % 2 ^ 21 := by
  obtain ⟨hres, hdom⟩ := countCreated_fields d ((s.putCtx id (createdCtx d img)).addFld CTX_STATE_COUNTs_COUNT 1 4)
  have hcount : (s.storeCtx id d stFree (createdCtx d img)) = countCreated d ((s.putCtx id (createdCtx d img)).addFld CTX_STATE_COUNTs_COUNT 1 4) := by
    unfold State.storeCtx
    rw [createdCtx_state, moveCount_eq, if_pos ⟨rfl, by decide⟩, moveStates_created]
  have hfld (F : Field) (i : Nat) : (s.create id d img).fld F i = (s.storeCtx id d stFree (createdCtx d img)).fld F i := rfl
  have hkey : CTX_DOMd_STATUS_RESIDENT.key d 0 0 ≠ CTX_STATE_COUNTs_COUNT.key 4 0 0 := by
    simp only [Field.key, CTX_DOMd_STATUS_RESIDENT, CTX_STATE_COUNTs_COUNT]
    omega
  refine ⟨?_, ?_⟩
  · rw [hfld, hcount, hres, fld_addFld_elsewhere _ CTX_STATE_COUNTs_COUNT CTX_COUNT_RESIDENT_RESIDENT 1 (by decide)]
    rfl
  · rw [hfld, hcount, hdom, fld_addFld_elsewhere _ CTX_STATE_COUNTs_COUNT CTX_DOMd_STATUS_RESIDENT 1 hkey]
    rfl

/-! ### CTX_CREATE (R106) -/

theorem isFree_congr (h : ∀ k, t.pword k = s.pword k) (id : Nat) : t.isFree id = s.isFree id := by
  unfold State.isFree State.rawState
  rw [h, ctxWords_congr fun _ _ => h _]

theorem lowestFree_congr (h : ∀ k, t.pword k = s.pword k) (n id : Nat) : t.lowestFree n id = s.lowestFree n id := by
  induction n generalizing id with
  | zero => rfl
  | succ n ih =>
    unfold State.lowestFree
    rw [isFree_congr h, ih]

theorem firstNotFree_congr (h : ∀ k, t.pword k = s.pword k) (n id : Nat) : t.firstNotFree n id = s.firstNotFree n id := by
  induction n generalizing id with
  | zero => rfl
  | succ n ih =>
    unfold State.firstNotFree
    rw [isFree_congr h, ih]

theorem quotaAllows_beginCommand (p : Packet) (s : State) {d : Nat} (n : Nat) (hd : d < 16) :
    (beginCommand p s).quotaAllows d n = s.quotaAllows d n := by
  have hquota : (beginCommand p s).fld CTX_DOMd_CFG_QUOTA d = s.fld CTX_DOMd_CFG_QUOTA d := by
    refine fld_beginCommand p s CTX_DOMd_CFG_QUOTA d 0 0 ?_ ?_ <;> simp only [Field.key, CTX_DOMd_CFG_QUOTA, slotSpan] <;> omega
  unfold State.quotaAllows State.quota State.on
  rw [hquota, fld_domain_beginCommand p s CTX_DOMd_STATUS_OVER d, fld_domain_beginCommand p s CTX_DOMd_STATUS_RESIDENT d]

theorem context_created (hacc : s.accepts 0x0301 4 .any p) (hd : d = bits (p.w 1) 32 4)
    (himg : img = { w0 := p.w 2, w1 := p.w 3, w2 := p.w 4, w3 := 0 }) (hmember : s.member d p.issuer = true) (hvalid : img.imageValid = true)
    (hquota : s.quotaAllows d 1 = true)
    (hid : if bit (p.w 1) 31 then s.lowestFree 1048576 0 = some id else id = bits (p.w 1) 0 20 ∧ s.isFree id = true) :
    ∃ u, exec (.ctxCreate p) s = .next (endCommand p .ok [BitVec.ofNat 64 id] u) ∧
      u.ctxWords id = createdCtx d img ∧ u.votedOwner id = d ∧ u.badWords id = 0 ∧
      (∀ j, j ≠ id → u.ctxWords j = s.ctxWords j ∧ u.votedOwner j = s.votedOwner j) ∧
      u.fld CTX_COUNT_RESIDENT_RESIDENT = (s.fld CTX_COUNT_RESIDENT_RESIDENT + 1) % 2 ^ CTX_COUNT_RESIDENT_RESIDENT.w ∧
      u.fld CTX_DOMd_STATUS_RESIDENT d = (s.fld CTX_DOMd_STATUS_RESIDENT d + 1) % 2 ^ CTX_DOMd_STATUS_RESIDENT.w ∧
      u.out = s.out := by
  have hlt : d < 2 ^ 4 := hd ▸ bits_lt _ _ _
  have hmem := beginCommand_pword p s
  have hexec : exec (.ctxCreate p) s = .next (endCommand p .ok [BitVec.ofNat 64 id] ((beginCommand p s).create id d img)) := by
    rw [exec_ctxCreate, execCtxCreate, runCommand_passes hacc, ctxCreateWork]
    dsimp only
    rw [← hd, ← himg, member_beginCommand, hmember, if_neg (by decide), hvalid, if_neg (by decide), quotaAllows_beginCommand p s 1 hlt, hquota,
      if_neg (by decide), lowestFree_congr hmem, isFree_congr hmem]
    split at hid
    · rename_i hauto
      rw [if_pos hauto, hid]
    · rename_i hauto
      obtain ⟨hid, hfree⟩ := hid
      rw [if_neg hauto, ← hid, if_pos hfree]
  obtain ⟨hwords, hbad⟩ := create_words (beginCommand p s) id d img
  obtain ⟨hres, hdom⟩ := create_fields (beginCommand p s) id d img
  refine ⟨_, hexec, hwords, create_votedOwner _ id d img, hbad, fun j hj => ⟨?_, ?_⟩, ?_, ?_, ?_⟩
  · rw [create_words_other _ d img hj, ctxWords_beginCommand]
  · rw [create_votedOwner_other _ d img hj, votedOwner_beginCommand]
  · rw [hres, fld_beginCommand p s CTX_COUNT_RESIDENT_RESIDENT 0 0 0 (by decide) (by decide)]
    rfl
  · rw [hdom, fld_domain_beginCommand p s CTX_DOMd_STATUS_RESIDENT d]
    rfl
  · rw [create_out, beginCommand_out]

/-! ### CTX_CREATE_BLOCK (R105) -/

/-- What the creation of a block leaves at its contexts and at the others. -/
theorem createAll_spec (d : Nat) (l : List Ctx) (id : Nat) (s : State) : (createAll d id l s).out = s.out ∧
    (∀ k img, l[k]? = some img → (createAll d id l s).ctxWords (id + k) = createdCtx d img ∧ (createAll d id l s).votedOwner (id + k) = d) ∧
    (∀ j, (j < id ∨ id + l.length ≤ j) → (createAll d id l s).ctxWords j = s.ctxWords j ∧ (createAll d id l s).votedOwner j = s.votedOwner j) := by
  induction l generalizing id s with
  | nil => exact ⟨rfl, fun k img h => by simp at h, fun _ _ => ⟨rfl, rfl⟩⟩
  | cons c r ih =>
    obtain ⟨hout, hin, hother⟩ := ih (id + 1) (s.create id d c)
    unfold createAll
    refine ⟨hout.trans (create_out s id d c), fun k img hk => ?_, fun j hj => ?_⟩
    · cases k with
      | zero =>
        obtain ⟨hwords, howner⟩ := hother id (.inl (Nat.lt_succ_self id))
        rw [List.getElem?_cons_zero, Option.some.injEq] at hk
        subst hk
        exact ⟨hwords.trans (create_words s id d c).1, howner.trans (create_votedOwner s id d c)⟩
      | succ k =>
        rw [show id + (k + 1) = id + 1 + k by omega]
        exact hin k img (by simpa using hk)
    · rw [List.length_cons] at hj
      obtain ⟨hwords, howner⟩ := hother j (by omega)
      exact ⟨hwords.trans (create_words_other s d c (by omega)), howner.trans (create_votedOwner_other s d c (by omega))⟩

theorem block_created {images : List (Word × Word × Word)} {n first : Nat} {imgs : List Ctx} (hacc : s.accepts 0x0302 2 .any p)
    (hd : d = bits (p.w 1) 56 4) (hn : n = rangeCount (p.w 1)) (hfirst : first = rangeFirst (p.w 1))
    (himgs : imgs = (blockImages images).take n) (hlen : imgs.length = n) (hmember : s.member d p.issuer = true)
    (hrange : rangeValid (p.w 1) = true) (halign : bits (p.w 2) 0 5 = 0) (hvalid : firstInvalid 0 imgs = none)
    (hquota : s.quotaAllows d n = true) (hfree : s.firstNotFree n first = none) :
    ∃ u, exec (.ctxCreateBlock p images .ok) s = .next (endCommand p .ok [BitVec.ofNat 64 n] u) ∧
      (∀ k img, imgs[k]? = some img → u.ctxWords (first + k) = createdCtx d img ∧ u.votedOwner (first + k) = d) ∧
      (∀ j, (j < first ∨ first + imgs.length ≤ j) → u.ctxWords j = s.ctxWords j ∧ u.votedOwner j = s.votedOwner j) ∧
      u.out = .imageRead (bits (p.w 2) 0 38) (32 * n) :: s.out := by
  have hlt : d < 2 ^ 4 := hd ▸ bits_lt _ _ _
  have hquota' := (quotaAllows_beginCommand p s n hlt).trans hquota
  have hfree' := (firstNotFree_congr (beginCommand_pword p s) n first).trans hfree
  have hexec : exec (.ctxCreateBlock p images .ok) s = .next (endCommand p .ok [BitVec.ofNat 64 n]
      (createAll d first imgs ((beginCommand p s).emit (.imageRead (bits (p.w 2) 0 38) (32 * n))))) := by
    rw [exec_ctxCreateBlock, execCtxCreateBlock, runCommand_passes hacc, ctxCreateBlockWork]
    dsimp only
    rw [← hd, ← hn, ← hfirst, ← himgs, member_beginCommand, hmember, if_neg (by decide), if_neg (by simp [hrange, halign]),
      if_neg (by simp [hlen]), hvalid]
    dsimp only
    rw [show ((beginCommand p s).emit (.imageRead (bits (p.w 2) 0 38) (32 * n))).quotaAllows d n = true from hquota', if_neg (by decide),
      show ((beginCommand p s).emit (.imageRead (bits (p.w 2) 0 38) (32 * n))).firstNotFree n first = none from
        (firstNotFree_congr (emit_pword (beginCommand p s) _) n first).trans hfree']
  obtain ⟨hout, hin, hother⟩ := createAll_spec d imgs first ((beginCommand p s).emit (.imageRead (bits (p.w 2) 0 38) (32 * n)))
  refine ⟨_, hexec, hin, fun j hj => ⟨(hother j hj).1.trans ?_, (hother j hj).2.trans ?_⟩, hout.trans (congrArg (List.cons _) (beginCommand_out p s))⟩
  · exact (ctxWords_congr fun _ _ => rfl).trans (ctxWords_beginCommand p s j)
  · exact (votedOwner_congr rfl j).trans (votedOwner_beginCommand p s j)

/-- Settles O10. -/
theorem contextsAreCreatedPaused : Obligations.ContextsAreCreatedPaused :=
  ⟨fun _ _ _ _ _ hacc hd himg hmember hvalid hquota hid => context_created hacc hd himg hmember hvalid hquota hid,
    fun _ _ _ _ _ _ _ hacc hd hn hfirst himgs hlen hmember hrange halign hvalid hquota hfree =>
      block_created hacc hd hn hfirst himgs hlen hmember hrange halign hvalid hquota hfree⟩

end Sys2Proof.Machine
end

section
-- One proof at a time: the memory limit of the check counts a stack for every proof that waits for another.
set_option Elab.async false
/-! SUPPORT. The range commands on one context: CTX_ARM, CTX_PAUSE and CTX_DESTROY (R93, R96, R101 to R103). -/

namespace Sys2Proof.Machine

variable {p : Packet} {s t : State} {id d a : Nat} {c : Ctx}

/-! ### A range of one -/

theorem overRange_one {w : Word} (h : rangeCount w = 1) (step : Nat → RangeTally → RangeTally) (s : State) :
    overRange step s w = step (rangeFirst w) { st := s, done := 0, held := 0, skipped := 0, firstSkipped := none } := by
  unfold overRange
  rw [h]
  rfl

theorem rangeValid_one {w : Word} (h : rangeCount w = 1) : rangeValid w = true := by
  have hfirst : rangeFirst w < 2 ^ 20 := bits_lt w 0 20
  unfold rangeValid
  rw [decide_eq_true_eq]
  omega

/-- The state in which a command acts on the context that it has read. -/
def ctxRead (p : Packet) (s : State) (id : Nat) : State := (beginCommand p s).noteCtx id

theorem ctxRead_rest (p : Packet) (s : State) (id : Nat) :
    ctxRead p s id = { beginCommand p s with mends := (ctxRead p s id).mends } := noteCtx_rest (beginCommand p s) id

theorem ctxRead_fld (p : Packet) (s : State) (id : Nat) (F : Field) (i : Nat) : (ctxRead p s id).fld F i = (beginCommand p s).fld F i :=
  fld_congr F i 0 0 (reg_congr (by rw [ctxRead_rest]) _)

theorem ctxRead_ctxWords (p : Packet) (s : State) (id j : Nat) : (ctxRead p s id).ctxWords j = s.ctxWords j := by
  rw [← ctxWords_beginCommand p s j]
  exact ctxWords_congr fun _ _ => pword_congr (by rw [ctxRead_rest]) _

theorem ctxRead_pword (p : Packet) (s : State) (id key : Nat) : (ctxRead p s id).pword key = s.pword key := by
  rw [← beginCommand_pword p s key]
  exact pword_congr (by rw [ctxRead_rest]) key

theorem ctxRead_votedOwner (p : Packet) (s : State) (id : Nat) : (ctxRead p s id).votedOwner id = s.votedOwner id := by
  rw [← votedOwner_beginCommand p s id]
  exact votedOwner_congr (by rw [ctxRead_rest]) id

theorem ctxRead_out (p : Packet) (s : State) (id : Nat) : (ctxRead p s id).out = s.out := by
  rw [ctxRead_rest, ← beginCommand_out p s]

theorem ctxRead_tickCount (p : Packet) (s : State) (id : Nat) : (ctxRead p s id).tickCount = s.tickCount := by
  rw [← tickCount_beginCommand p s]
  exact congrArg (BitVec.ofNat 64) (ctxRead_fld p s id TCK_COUNT_COUNT 0)

theorem hcRead_command {mask : Nat} (hbad : s.badWords id = 0) (hfree : (s.ctxWords id).state ≠ stFree)
    (hmember : s.member (s.votedOwner id) p.issuer = true) :
    hcRead p.issuer id mask (beginCommand p s) = (ctxRead p s id, some (s.ctxWords id)) := by
  rw [hcRead_good, ctxWords_beginCommand]
  · rfl
  · rw [badWords_beginCommand, hbad]
  · rwa [ctxWords_beginCommand]
  · rwa [votedOwner_beginCommand, member_beginCommand]

/-! ### Filing (R126) -/

/-- A link word of a context of the store is no context word. -/
theorem linkKeys_apart (hid : id < 1048576) (j k : Nat) (hj : j < 1048576) (hk : k < 4) : linkKey id ≠ ctxKey j k ∧ linkKeyEnd id ≠ ctxKey j k := by
  unfold linkKey linkKeyEnd ctxKey memKey
  omega

theorem isFiled_congr (h : t.ctx = s.ctx) (id : Nat) : t.isFiled id = s.isFiled id := by
  unfold State.isFiled
  rw [h]

theorem linkBad_congr (h : ∀ k, t.pword k = s.pword k) (id : Nat) : t.linkBad id = s.linkBad id := by
  unfold State.linkBad
  rw [h, h]

/-- A context whose link words decode is on a list once it has been filed; no word of memory changes. -/
theorem file_spec (hlink : s.linkBad id = false) : (s.file id d c).isFiled id = true ∧ (s.file id d c).mem = s.mem ∧
    (s.file id d c).out = s.out ∧ (s.file id d c).regs = s.regs := by
  have hmem : ((s.noteMend (linkKey id)).noteMend (linkKeyEnd id)).mem = s.mem := by rw [noteMend_mem, noteMend_mem]
  have hout : ((s.noteMend (linkKey id)).noteMend (linkKeyEnd id)).out = s.out := by rw [noteMend_out, noteMend_out]
  have hregs : ((s.noteMend (linkKey id)).noteMend (linkKeyEnd id)).regs = s.regs := by rw [noteMend_regs, noteMend_regs]
  have hgood : ((s.noteMend (linkKey id)).noteMend (linkKeyEnd id)).linkBad id = false :=
    (linkBad_congr (pword_congr hmem) id).trans hlink
  unfold State.file
  dsimp only
  rw [hgood, if_neg (by decide)]
  split
  · rename_i hfiled
    exact ⟨hfiled, hmem, hout, hregs⟩
  · split
    · refine ⟨?_, hmem, hout, hregs⟩
      simp [State.isFiled, State.fileCarry]
    · refine ⟨?_, hmem, hout, hregs⟩
      simp [State.isFiled]

/-! ### The commands -/

theorem earliestArm_beginCommand (p : Packet) (s : State) (n : Nat) : (beginCommand p s).earliestArm n = s.earliestArm n := by
  unfold State.earliestArm State.curN State.on
  rw [fld_beginCommand p s TCK_PERIOD_NEXT_PENDING 0 0 0 (by decide) (by decide), fld_beginCommand p s TCK_PERIOD_CUR_N 0 0 0 (by decide) (by decide),
    fld_beginCommand p s TCK_PERIOD_NEXT_NEXT_N 0 0 0 (by decide) (by decide), fld_beginCommand p s TCK_COUNT_COUNT 0 0 0 (by decide) (by decide)]

theorem armTick_beginCommand (p : Packet) (s : State) : armTick p (beginCommand p s) = armTick p s := by
  unfold armTick
  rw [earliestArm_beginCommand]

theorem armedAt_state (c : Ctx) (t phase : Nat) (clear : Bool) : (c.armedAt t phase clear).state = stArmed := by
  unfold Ctx.armedAt Ctx.setState Ctx.state
  dsimp only
  exact bits_setBits_same _ 0 3 _ (by decide)

/-- The state in which an armed context has been stored and not yet filed. -/
def armStored (p : Packet) (s : State) (id tk : Nat) (c : Ctx) : State :=
  (ctxRead p s id).storeCtx id (s.votedOwner id) c.state (c.armedAt tk (armPhase c (bits (p.w 2) 0 32)) (bit (p.w 2) 32))

/-- CTX_ARM of one context stores it and files it. -/
theorem ctxArm_one {tk : Nat} (hacc : s.accepts 0x0303 3 .any p) (hone : rangeCount (p.w 1) = 1) (hid : id = rangeFirst (p.w 1))
    (hc : c = s.ctxWords id) (hbad : s.badWords id = 0) (hmember : s.member (s.votedOwner id) p.issuer = true)
    (hstate : c.state = stPaused ∨ c.state = stDone) (hover : s.fld CTX_DOMd_STATUS_OVER (s.votedOwner id) = 0) (hvalid : c.fieldsValid = true)
    (hphase : armPhase c (bits (p.w 2) 0 32) ≤ 1048575) (ht : tk = armTick p s) (hearly : s.earliestArm 1 ≤ tk)
    (hlate : tk ≤ s.fld TCK_COUNT_COUNT + 2 ^ 30) :
    exec (.ctxArm p) s = .next (endCommand p .ok [BitVec.ofNat 64 tk, 1, 0, 0xFFFFFFFF]
      ((armStored p s id tk c).file id (s.votedOwner id) (c.armedAt tk (armPhase c (bits (p.w 2) 0 32)) (bit (p.w 2) 32)))) := by
  have hlive : (s.ctxWords id).state ≠ stFree := by
    rw [← hc]
    rcases hstate with h | h <;> rw [h] <;> decide
  have hover' : (ctxRead p s id).fld CTX_DOMd_STATUS_OVER (s.votedOwner id) = 0 := by
    rw [ctxRead_fld, fld_domain_beginCommand p s CTX_DOMd_STATUS_OVER, hover]
  have hstep : overRange (armOne p.issuer tk (bits (p.w 2) 0 32) (bit (p.w 2) 32)) (beginCommand p s) (p.w 1) =
      { st := (armStored p s id tk c).file id (s.votedOwner id)
          (c.armedAt tk (armPhase c (bits (p.w 2) 0 32)) (bit (p.w 2) 32)), done := 1, held := 0, skipped := 0, firstSkipped := none } := by
    rw [overRange_one hone, ← hid, armOne, hcRead_command hbad hlive hmember]
    dsimp only
    rw [ctxRead_votedOwner, ← hc, if_pos ⟨hstate, hover', hvalid, hphase⟩, armStored]
  rw [exec_ctxArm, execCtxArm, runCommand_passes hacc, ctxArmWork, if_neg (by simp [rangeValid_one hone])]
  dsimp only
  rw [armTick_beginCommand, ← ht, earliestArm_beginCommand, fld_beginCommand p s TCK_COUNT_COUNT 0 0 0 (by decide) (by decide), hone,
    if_neg (by omega), hstep]
  simp only [Option.getD_none, BitVec.ofNat_eq_ofNat]

/-- The armed context is stored, and neither another context nor a link word of it. -/
theorem armStored_spec {tk : Nat} (hidlt : id < 2 ^ 20) (hlink : s.linkBad id = false) :
    (armStored p s id tk c).ctxWords id = c.armedAt tk (armPhase c (bits (p.w 2) 0 32)) (bit (p.w 2) 32) ∧
      (∀ j, j ≠ id → (armStored p s id tk c).ctxWords j = s.ctxWords j) ∧
      (armStored p s id tk c).out = s.out ∧ (armStored p s id tk c).linkBad id = false := by
  unfold armStored
  generalize c.armedAt tk (armPhase c (bits (p.w 2) 0 32)) (bit (p.w 2) 32) = armed
  obtain ⟨hwords, -⟩ := storeCtx_ctxWords (ctxRead p s id) id (s.votedOwner id) c.state armed
  refine ⟨hwords, fun j hj => ?_, ?_, ?_⟩
  · rw [storeCtx_ctxWords_other _ _ _ _ hj, ctxRead_ctxWords]
  · rw [storeCtx_out, ctxRead_out]
  · unfold State.linkBad at hlink ⊢
    have hapart (k : Nat) (hk : k < 4) := linkKeys_apart hidlt id k hidlt hk
    rw [storeCtx_pword, storeCtx_pword, putCtx_pword_other _ _ _ fun k hk => (hapart k hk).1,
      putCtx_pword_other _ _ _ fun k hk => (hapart k hk).2, ctxRead_pword, ctxRead_pword]
    exact hlink

theorem context_armed {tk : Nat} (hacc : s.accepts 0x0303 3 .any p) (hone : rangeCount (p.w 1) = 1) (hid : id = rangeFirst (p.w 1))
    (hc : c = s.ctxWords id) (hbad : s.badWords id = 0) (hmember : s.member (s.votedOwner id) p.issuer = true)
    (hstate : c.state = stPaused ∨ c.state = stDone) (hover : s.fld CTX_DOMd_STATUS_OVER (s.votedOwner id) = 0) (hvalid : c.fieldsValid = true)
    (hphase : armPhase c (bits (p.w 2) 0 32) ≤ 1048575) (ht : tk = armTick p s) (hearly : s.earliestArm 1 ≤ tk)
    (hlate : tk ≤ s.fld TCK_COUNT_COUNT + 2 ^ 30) (hlink : s.linkBad id = false) :
    ∃ u, exec (.ctxArm p) s = .next (endCommand p .ok [BitVec.ofNat 64 tk, 1, 0, 0xFFFFFFFF] u) ∧
      u.ctxWords id = c.armedAt tk (armPhase c (bits (p.w 2) 0 32)) (bit (p.w 2) 32) ∧ u.isFiled id = true ∧
      (∀ j, j ≠ id → u.ctxWords j = s.ctxWords j) ∧ u.out = s.out := by
  obtain ⟨hwords, hothers, hout, hlink'⟩ := armStored_spec (p := p) (c := c) (tk := tk) (hid ▸ bits_lt _ _ _) hlink
  obtain ⟨hfiled, hmem, houtf, -⟩ := file_spec (d := s.votedOwner id) (c := c.armedAt tk (armPhase c (bits (p.w 2) 0 32)) (bit (p.w 2) 32)) hlink'
  have hkept (j : Nat) := ctxWords_congr (id := j) fun k _ => pword_congr hmem (ctxKey j k)
  exact ⟨_, ctxArm_one hacc hone hid hc hbad hmember hstate hover hvalid hphase ht hearly hlate, (hkept id).trans hwords, hfiled,
    fun j hj => (hkept j).trans (hothers j hj), houtf.trans hout⟩

theorem paused_state (c : Ctx) (now : Word) : (c.paused now).state = stPaused := by
  unfold Ctx.paused Ctx.setState Ctx.state
  exact bits_setBits_same _ 0 3 _ (by decide)

theorem context_paused (hacc : s.accepts 0x0304 1 .any p) (hone : rangeCount (p.w 1) = 1) (hid : id = rangeFirst (p.w 1))
    (hc : c = s.ctxWords id) (hbad : s.badWords id = 0) (hmember : s.member (s.votedOwner id) p.issuer = true)
    (hstate : c.state = stArmed ∨ c.state = stDue) :
    ∃ u, exec (.ctxPause p) s = .next (endCommand p .ok [1, 0, 0] u) ∧ u.ctxWords id = c.paused s.tickCount ∧
      (u.ctxWords id).state = stPaused ∧ (∀ j, j ≠ id → u.ctxWords j = s.ctxWords j) ∧ u.out = s.out := by
  have hlive : (s.ctxWords id).state ≠ stFree := by
    rw [← hc]
    rcases hstate with h | h <;> rw [h] <;> decide
  have hstep : overRange (pauseOne p.issuer) (beginCommand p s) (p.w 1) =
      { st := (ctxRead p s id).storeCtx id (s.votedOwner id) c.state (c.paused s.tickCount), done := 1, held := 0, skipped := 0, firstSkipped := none } := by
    rw [overRange_one hone, ← hid, pauseOne, hcRead_command hbad hlive hmember]
    dsimp only
    rw [ctxRead_votedOwner, ctxRead_tickCount, ← hc, if_pos hstate]
  have hexec : exec (.ctxPause p) s = .next (endCommand p .ok [1, 0, 0]
      ((ctxRead p s id).storeCtx id (s.votedOwner id) c.state (c.paused s.tickCount))) := by
    rw [exec_ctxPause, execCtxPause, runCommand_passes hacc, ctxPauseWork, if_neg (by simp [rangeValid_one hone]), hstep]
    rfl
  obtain ⟨hwords, -⟩ := storeCtx_ctxWords (ctxRead p s id) id (s.votedOwner id) c.state (c.paused s.tickCount)
  refine ⟨_, hexec, hwords, by rw [hwords, paused_state], fun j hj => ?_, ?_⟩
  · rw [storeCtx_ctxWords_other _ _ _ _ hj, ctxRead_ctxWords]
  · rw [storeCtx_out, ctxRead_out]

/-! ### CTX_DESTROY -/

theorem bumpState_elsewhere (st : Nat) (up : Bool) (s : State) (F : Field) (i : Nat) (h : st ≤ 6 → F.key i 0 0 ≠ CTX_STATE_COUNTs_COUNT.key st 0 0) :
    (bumpState st up s).fld F i = s.fld F i := by
  unfold bumpState
  split
  · rename_i hst
    split
    · exact fld_addFld_elsewhere s CTX_STATE_COUNTs_COUNT F 1 (h hst.2)
    · exact fld_setFld_elsewhere s CTX_STATE_COUNTs_COUNT F _ (h hst.2)
  · rfl

theorem countDestroyed_field {d : Nat} (s : State) :
    (countDestroyed d s).fld CTX_COUNT_DESTROYED_COUNT = (s.fld CTX_COUNT_DESTROYED_COUNT + 1) % 2 ^ 64 := by
  have hne (G : Field) (hG : 0x801000 ≤ G.off) : CTX_COUNT_DESTROYED_COUNT.key 0 0 0 ≠ G.key d 0 0 := domain_key_ne (by decide) rfl hG
  have hclear (x : State) : (clearOver d x).fld CTX_COUNT_DESTROYED_COUNT = x.fld CTX_COUNT_DESTROYED_COUNT := by
    unfold clearOver
    split
    · exact fld_setFld_elsewhere x CTX_DOMd_STATUS_OVER CTX_COUNT_DESTROYED_COUNT _ (hne _ (by decide))
    · rfl
  unfold countDestroyed
  dsimp only
  rw [hclear, fld_addFld_elsewhere _ CTX_DOMd_DESTROYED_COUNT CTX_COUNT_DESTROYED_COUNT 1 (hne _ (by decide)),
    fld_addFld _ CTX_COUNT_DESTROYED_COUNT 1 0 0 0,
    fld_setFld_elsewhere _ CTX_DOMd_STATUS_RESIDENT CTX_COUNT_DESTROYED_COUNT _ (hne _ (by decide)),
    fld_addFld_elsewhere _ CTX_COUNT_RESIDENT_FREE CTX_COUNT_DESTROYED_COUNT 1 (by decide),
    fld_setFld_elsewhere _ CTX_COUNT_RESIDENT_RESIDENT CTX_COUNT_DESTROYED_COUNT _ (by decide)]
  rfl

theorem moveStates_destroyed (d a b : Nat) (s : State) :
    (moveStates d a b s).fld CTX_COUNT_DESTROYED_COUNT = s.fld CTX_COUNT_DESTROYED_COUNT := by
  have hdom : CTX_COUNT_DESTROYED_COUNT.key 0 0 0 ≠ CTX_DOMd_STATUS_QUARANTINED.key d 0 0 := domain_key_ne (by decide) rfl (by decide)
  have hst (x : Nat) (_ : x ≤ 6) : CTX_COUNT_DESTROYED_COUNT.key 0 0 0 ≠ CTX_STATE_COUNTs_COUNT.key x 0 0 := by
    simp only [Field.key, CTX_COUNT_DESTROYED_COUNT, CTX_STATE_COUNTs_COUNT]
    omega
  have hbump : (bumpState b true (bumpState a false s)).fld CTX_COUNT_DESTROYED_COUNT = s.fld CTX_COUNT_DESTROYED_COUNT :=
    (bumpState_elsewhere b true _ CTX_COUNT_DESTROYED_COUNT 0 (hst b)).trans (bumpState_elsewhere a false s CTX_COUNT_DESTROYED_COUNT 0 (hst a))
  unfold moveStates
  dsimp only
  split
  · exact (fld_setFld_elsewhere _ CTX_DOMd_STATUS_QUARANTINED CTX_COUNT_DESTROYED_COUNT _ hdom).trans hbump
  · split
    · exact (fld_addFld_elsewhere _ CTX_DOMd_STATUS_QUARANTINED CTX_COUNT_DESTROYED_COUNT 1 hdom).trans hbump
    · exact hbump

theorem putCtx_fld (s : State) (id : Nat) (c : Ctx) (F : Field) (i : Nat) : (s.putCtx id c).fld F i = s.fld F i :=
  fld_congr F i 0 0 (reg_congr (by rw [putCtx_rest]) _)

theorem free_state : (⟨0, 0, 0, 0⟩ : Ctx).state = stFree := rfl

theorem context_destroyed (hacc : s.accepts 0x0305 1 .any p) (hone : rangeCount (p.w 1) = 1) (hid : id = rangeFirst (p.w 1))
    (hc : c = s.ctxWords id) (hbad : s.badWords id = 0) (hmember : s.member (s.votedOwner id) p.issuer = true)
    (hstate : c.state = stArmed ∨ c.state = stDue ∨ c.state = stPaused ∨ c.state = stDone ∨ c.state = stQuarantined) :
    ∃ u, exec (.ctxDestroy p) s = .next (endCommand p .ok [1, 0, 0] u) ∧ u.ctxWords id = ⟨0, 0, 0, 0⟩ ∧ u.isFree id = true ∧
      u.fld CTX_COUNT_DESTROYED_COUNT = (s.fld CTX_COUNT_DESTROYED_COUNT + 1) % 2 ^ 64 ∧
      (∀ j, j ≠ id → u.ctxWords j = s.ctxWords j) ∧ u.out = s.out := by
  obtain ⟨hfree, hflight, hseven⟩ : c.state ≠ stFree ∧ c.state ≠ stInFlight ∧ c.state ≠ 7 := by
    rcases hstate with h | h | h | h | h <;> rw [h] <;> decide
  have hstep : overRange (destroyOne p.issuer) (beginCommand p s) (p.w 1) =
      { st := (ctxRead p s id).storeCtx id (s.votedOwner id) c.state ⟨0, 0, 0, 0⟩, done := 1, held := 0, skipped := 0, firstSkipped := none } := by
    rw [overRange_one hone, ← hid, destroyOne, hcRead_command hbad (hc ▸ hfree) hmember]
    dsimp only
    rw [ctxRead_votedOwner, ← hc, if_neg hflight, if_neg (by omega)]
    rfl
  have hexec : exec (.ctxDestroy p) s = .next (endCommand p .ok [1, 0, 0]
      ((ctxRead p s id).storeCtx id (s.votedOwner id) c.state ⟨0, 0, 0, 0⟩)) := by
    rw [exec_ctxDestroy, execCtxDestroy, runCommand_passes hacc, ctxDestroyWork, if_neg (by simp [rangeValid_one hone]), hstep]
    rfl
  obtain ⟨hwords, hgood⟩ := storeCtx_ctxWords (ctxRead p s id) id (s.votedOwner id) c.state ⟨0, 0, 0, 0⟩
  refine ⟨_, hexec, hwords, ?_, ?_, fun j hj => ?_, ?_⟩
  · unfold State.isFree
    rw [rawState_good (word_good_of_badWords hgood), hwords, word_good_of_badWords hgood]
    rfl
  · have hcount : (ctxRead p s id).storeCtx id (s.votedOwner id) c.state ⟨0, 0, 0, 0⟩ =
        countDestroyed (s.votedOwner id) (moveStates (s.votedOwner id) c.state stFree ((ctxRead p s id).putCtx id ⟨0, 0, 0, 0⟩)) := by
      unfold State.storeCtx
      rw [moveCount_eq, free_state, if_neg fun h => hfree h.1, if_pos ⟨hfree, rfl⟩]
    rw [hcount, countDestroyed_field, moveStates_destroyed]
    rw [putCtx_fld, ctxRead_fld, fld_beginCommand p s CTX_COUNT_DESTROYED_COUNT 0 0 0 (by decide) (by decide)]
  · rw [storeCtx_ctxWords_other _ _ _ _ hj, ctxRead_ctxWords]
  · rw [storeCtx_out, ctxRead_out]

/-- Settles O11. -/
theorem contextCommandsMoveOneContext : Obligations.ContextCommandsMoveOneContext :=
  ⟨fun _ _ _ _ _ _ hacc hone hid hc hbad hmember hstate hover hvalid hrebase hphase ht hearly hlate hlink =>
      hrebase ▸ context_armed hacc hone hid hc hbad hmember hstate hover hvalid (hrebase ▸ hphase) ht hearly hlate hlink,
    fun _ _ _ _ hacc hone hid hc hbad hmember hstate => context_paused hacc hone hid hc hbad hmember hstate,
    fun _ _ _ _ hacc hone hid hc hbad hmember _ hstate => context_destroyed hacc hone hid hc hbad hmember hstate⟩

end Sys2Proof.Machine
end

section
-- One proof at a time: the memory limit of the check counts a stack for every proof that waits for another.
set_option Elab.async false
/-! SUPPORT. The result lanes: responses, flight timeouts and what they settle (R93, R142 to R148, R160). -/

namespace Sys2Proof.Machine

variable {s t u x : State} {id i target : Nat} {c c' : Ctx} {e : Flight} {st : Status} {value : Nat}

/-! ### Reading through a fixed memory -/

theorem noteCtx_mem (s : State) (id : Nat) : (s.noteCtx id).mem = s.mem := by rw [noteCtx_rest]
theorem noteCtx_regs (s : State) (id : Nat) : (s.noteCtx id).regs = s.regs := by rw [noteCtx_rest]
theorem noteCtx_ctx (s : State) (id : Nat) : (s.noteCtx id).ctx = s.ctx := by rw [noteCtx_rest]
theorem noteCtx_out (s : State) (id : Nat) : (s.noteCtx id).out = s.out := by rw [noteCtx_rest]

theorem ctxWords_of_mem (h : t.mem = s.mem) (id : Nat) : t.ctxWords id = s.ctxWords id := ctxWords_congr fun _ _ => pword_congr h _
theorem badWords_of_mem (h : t.mem = s.mem) (id : Nat) : t.badWords id = s.badWords id := badWords_congr fun _ _ => pword_congr h _

/-- A register apart from the counts of the states and of the domains: no change of a context's state touches it. -/
def apartFromCounts (r : Nat) : Prop := r < 0x800100 ∨ (0x800170 ≤ r ∧ r < 0x801000)

theorem state_lt (c : Ctx) : c.state < 8 := bits_lt _ 0 3

theorem storeCtx_fld (s : State) (id d : Nat) (c c' : Ctx) (F : Field) (i : Nat) (h : apartFromCounts (F.key i 0 0)) :
    (s.storeCtx id d c.state c').fld F i = s.fld F i := by
  refine fld_congr F i 0 0 (storeCtx_regsKeep s id d c.state c' _ fun hmem => ?_)
  have ha := state_lt c
  have hb := state_lt c'
  unfold apartFromCounts at h
  simp only [moveKeys, Field.key, CTX_STATE_COUNTs_COUNT, CTX_DOMd_STATUS_RESIDENT, CTX_COUNT_RESIDENT_RESIDENT, CTX_COUNT_CREATED_COUNT,
    CTX_COUNT_DESTROYED_COUNT, CTX_DOMd_CREATED_COUNT, CTX_DOMd_DESTROYED_COUNT, List.mem_cons, List.not_mem_nil, or_false] at hmem
  simp only [Field.key] at h
  omega

/-! ### What a final result does to its flight entry and credit -/

/-- The word of a flight entry is no context word. -/
theorem flightKey_apart {j k : Nat} (hj : j < 1048576) (hk : k < 4) : ctxKey j k ≠ flightKey i := by
  unfold ctxKey flightKey memKey
  omega

theorem settleCredit_onlyRegs (target : Nat) (timedOut : Bool) (s : State) :
    onlyRegs [CTX_CRED_t_CREDIT.key target 0 0, CTX_ENG_FLIGHT_ORPHANS.off] s (settleCredit target timedOut s) := by
  unfold settleCredit State.addFld
  split
  · exact onlyRegs_after_setFld CTX_ENG_FLIGHT_ORPHANS _ 0 0 0 (onlyRegs_after_setFld CTX_CRED_t_ORPHANS _ target 0 0 (onlyRegs_refl _ s)
      (.head _)) (.tail _ (.head _))
  · exact onlyRegs_after_setFld CTX_CRED_t_CREDIT _ target 0 0 (onlyRegs_refl _ s) (.head _)

theorem settleCredit_rest (target : Nat) (timedOut : Bool) (s : State) :
    settleCredit target timedOut s = { s with regs := (settleCredit target timedOut s).regs } := (settleCredit_onlyRegs target timedOut s).1

theorem freeFlight_rest (s : State) (i : Nat) : s.freeFlight i =
    { s with regs := (s.freeFlight i).regs, mem := (s.writeP (flightKey i) 0).mem, mends := (s.writeP (flightKey i) 0).mends,
             ctx := { s.ctx with flight := s.ctx.flight.filter fun x => decide (x.1 ≠ i) } } := rfl

theorem freeFlight_fld (s : State) (i : Nat) (F : Field) (j : Nat) (h : F.key j 0 0 ≠ CTX_ENG_FLIGHT_OCCUPIED.key 0 0 0) :
    (s.freeFlight i).fld F j = s.fld F j := by
  unfold State.freeFlight syncFlight
  dsimp only
  exact (fld_setFld_elsewhere _ CTX_ENG_FLIGHT_OCCUPIED F _ h).trans (fld_congr F j 0 0 (reg_congr rfl _))

/-- The state in which a flight entry has been given back with its credit. -/
def flightSettled (target : Nat) (timedOut : Bool) (i : Nat) (s : State) : State := (settleCredit target timedOut s).freeFlight i

theorem flightSettled_ctx (target : Nat) (timedOut : Bool) (i : Nat) (s : State) :
    (flightSettled target timedOut i s).ctx = { s.ctx with flight := s.ctx.flight.filter fun x => decide (x.1 ≠ i) } := by
  unfold flightSettled
  rw [freeFlight_rest]
  dsimp only
  rw [settleCredit_rest]

theorem flightSettled_out (target : Nat) (timedOut : Bool) (i : Nat) (s : State) : (flightSettled target timedOut i s).out = s.out := by
  unfold flightSettled
  rw [freeFlight_rest]
  dsimp only
  rw [settleCredit_rest]

theorem flightSettled_ctxWords (target : Nat) (timedOut : Bool) (i : Nat) (s : State) {j : Nat} (hj : j < 1048576) :
    (flightSettled target timedOut i s).ctxWords j = s.ctxWords j := by
  refine ctxWords_congr fun k hk => ?_
  have hfree : (flightSettled target timedOut i s).pword (ctxKey j k) = ((settleCredit target timedOut s).writeP (flightKey i) 0).pword (ctxKey j k) := by
    refine pword_congr ?_ _
    unfold flightSettled
    rw [freeFlight_rest]
  rw [hfree, pword_writeP_other _ _ (flightKey_apart hj hk)]
  exact pword_congr (by rw [settleCredit_rest]) _

theorem credit_key_ne {F : Field} {target : Nat} (hF : F.off < 0x800800 := by decide) (hs : F.s1 = 0 := by rfl) :
    CTX_CRED_t_CREDIT.key target 0 0 ≠ F.key 0 0 0 := by
  simp only [Field.key, CTX_CRED_t_CREDIT, hs]
  omega

theorem flightSettled_credit (target i : Nat) (s : State) : (flightSettled target false i s).fld CTX_CRED_t_CREDIT target =
    (s.fld CTX_CRED_t_CREDIT target + 1) % 2 ^ CTX_CRED_t_CREDIT.w :=
  (freeFlight_fld _ i CTX_CRED_t_CREDIT target credit_key_ne).trans (fld_addFld s CTX_CRED_t_CREDIT 1 target 0 0)

theorem flightSettled_orphan (target i : Nat) (s : State) : (flightSettled target true i s).fld CTX_CRED_t_ORPHANS target =
    (s.fld CTX_CRED_t_ORPHANS target + 1) % 2 ^ CTX_CRED_t_ORPHANS.w :=
  (freeFlight_fld _ i CTX_CRED_t_ORPHANS target credit_key_ne).trans
    ((fld_addFld_elsewhere _ CTX_ENG_FLIGHT_ORPHANS CTX_CRED_t_ORPHANS 1 credit_key_ne).trans (fld_addFld s CTX_CRED_t_ORPHANS 1 target 0 0))

theorem flightSettled_timeouts (target : Nat) (timedOut : Bool) (i : Nat) (s : State) :
    (flightSettled target timedOut i s).fld CTX_ENG_EVENTS_TIMEOUTS = s.fld CTX_ENG_EVENTS_TIMEOUTS :=
  (freeFlight_fld _ i CTX_ENG_EVENTS_TIMEOUTS 0 (by decide)).trans
    (fld_congr CTX_ENG_EVENTS_TIMEOUTS 0 0 0 ((settleCredit_onlyRegs target timedOut s).2 _ (by
      simp [Field.key, CTX_ENG_EVENTS_TIMEOUTS, CTX_CRED_t_CREDIT, CTX_ENG_FLIGHT_ORPHANS]
      omega)))

/-! ### What it does to the context -/

/-- The state in which a context has been stored with its next state, and filed when it is ARMED. -/
def resultStored (id : Nat) (c c' : Ctx) (s : State) : State :=
  let t := s.storeCtx id (s.votedOwner id) c.state c'
  if c'.state = stArmed then t.file id (s.votedOwner id) c' else t

/-- The link words of a context stand when it is stored. -/
theorem storeCtx_linkBad (s : State) {id : Nat} (d a : Nat) (c : Ctx) (hid : id < 1048576) : (s.storeCtx id d a c).linkBad id = s.linkBad id := by
  have hapart (k : Nat) (hk : k < 4) := linkKeys_apart hid id k hid hk
  unfold State.linkBad
  rw [storeCtx_pword, storeCtx_pword, putCtx_pword_other _ _ _ fun k hk => (hapart k hk).1, putCtx_pword_other _ _ _ fun k hk => (hapart k hk).2]

/-- A context whose link words decode is filed without a change of memory, registers, flights or output. -/
theorem file_keeps {d : Nat} (hlink : s.linkBad id = false) : (s.file id d c).mem = s.mem ∧ (s.file id d c).out = s.out ∧
    (s.file id d c).regs = s.regs ∧ (s.file id d c).ctx.flight = s.ctx.flight := by
  obtain ⟨-, hmem, hout, hregs⟩ := file_spec (d := d) (c := c) hlink
  refine ⟨hmem, hout, hregs, ?_⟩
  have hctx : ((s.noteMend (linkKey id)).noteMend (linkKeyEnd id)).ctx = s.ctx := by rw [noteMend_ctx, noteMend_ctx]
  have hgood : ((s.noteMend (linkKey id)).noteMend (linkKeyEnd id)).linkBad id = false :=
    (linkBad_congr (pword_congr (by rw [noteMend_mem, noteMend_mem])) id).trans hlink
  unfold State.file
  dsimp only
  rw [hgood, if_neg (by decide)]
  split
  · rw [hctx]
  · split
    · exact (congrArg CtxState.flight hctx : _)
    · exact (congrArg CtxState.flight hctx : _)

theorem resultStored_spec (hid : id < 1048576) (hlink : s.linkBad id = false) :
    (resultStored id c c' s).ctxWords id = c' ∧ (∀ j, j ≠ id → (resultStored id c c' s).ctxWords j = s.ctxWords j) ∧
      (resultStored id c c' s).out = s.out ∧ (resultStored id c c' s).ctx.flight = s.ctx.flight ∧
      ∀ F j, apartFromCounts (F.key j 0 0) → (resultStored id c c' s).fld F j = s.fld F j := by
  have hstored : (s.storeCtx id (s.votedOwner id) c.state c').ctxWords id = c' := (storeCtx_ctxWords s id _ _ c').1
  unfold resultStored
  dsimp only
  split
  · obtain ⟨hmem, hout, hregs, hflight⟩ := file_keeps (d := s.votedOwner id) (c := c') ((storeCtx_linkBad s (s.votedOwner id) c.state c' hid).trans hlink)
    exact ⟨(ctxWords_of_mem hmem id).trans hstored, fun j hj => (ctxWords_of_mem hmem j).trans (storeCtx_ctxWords_other s _ _ c' hj),
      hout.trans (storeCtx_out s id _ _ c'), hflight.trans (congrArg CtxState.flight (storeCtx_ctx s id _ _ c')),
      fun F j hF => (fld_congr F j 0 0 (reg_congr hregs _)).trans (storeCtx_fld s id _ c c' F j hF)⟩
  · exact ⟨hstored, fun j hj => storeCtx_ctxWords_other s _ _ c' hj, storeCtx_out s id _ _ c', congrArg CtxState.flight (storeCtx_ctx s id _ _ c'),
      fun F j hF => storeCtx_fld s id _ c c' F j hF⟩

/-! ### A result lane (R146) -/

/-- A context that is no longer IN_FLIGHT is left as it is (R93). -/
theorem laneProcess_left (hword : (x.pword (flightKey i)).isBad = false) (hbad : x.badWords e.id = 0) (hstate : (x.ctxWords e.id).state ≠ stInFlight) :
    laneProcess i e st value x = flightSettled e.target (decide (st = .timeout)) i (x.noteCtx e.id) := by
  unfold laneProcess
  dsimp only
  rw [hword]
  simp only [Bool.false_eq_true, if_false]
  rw [if_neg (by simp [hbad]), ctxWords_of_mem (noteCtx_mem x e.id), if_pos hstate]
  rfl

/-- A final response of a context IN_FLIGHT, without a record, gives it its next state (R93, R146). -/
theorem laneProcess_final (hword : (x.pword (flightKey i)).isBad = false) (hdestroy : e.destroy = false) (hbad : x.badWords e.id = 0)
    (hc : c = x.ctxWords e.id) (hstate : c.state = stInFlight) (hrec : c.recPolicy = 0)
    (hfinal : ¬ (c.verdict st value = .fail ∧ e.attempt < c.retry ∧ st ≠ .timeout)) :
    laneProcess i e st value x = flightSettled e.target (decide (st = .timeout)) i
      (resultStored e.id c (resultAfter c (c.verdict st value) st value e.pause x.tickCount) (x.noteCtx e.id)) := by
  have hno : ¬ (c.verdict st value = .fail ∧ e.attempt < c.retry ∧ ¬ e.destroy ∧ st ≠ .timeout) :=
    fun ⟨hfail, hleft, _, htime⟩ => hfinal ⟨hfail, hleft, htime⟩
  have htick : (x.noteCtx e.id).tickCount = x.tickCount := congrArg (BitVec.ofNat 64) (fld_congr _ 0 0 0 (reg_congr (noteCtx_regs x e.id) _))
  unfold laneProcess
  dsimp only
  rw [hword]
  simp only [Bool.false_eq_true, if_false]
  rw [if_neg (by simp [hbad]), ctxWords_of_mem (noteCtx_mem x e.id), ← hc, if_neg (by simp [hstate]), if_neg hno, finalResult]
  dsimp only
  rw [hdestroy, if_neg (by decide), hrec, htick, if_neg (by simp [wantsRecord])]
  rfl

theorem verdict_timeout (c : Ctx) (value : Nat) : c.verdict .timeout value = .fail := if_pos (by decide)

/-- The answer's count at its endpoint is no register of the context engine. -/
theorem answeredAt_fld (n : Nat) (s : State) (F : Field) (j : Nat) (h : F.key j 0 0 ≠ NOC_EPe_STATUS_OUTSTANDING.key n 0 0) :
    (answeredAt n s).fld F j = s.fld F j := fld_setFld_elsewhere s NOC_EPe_STATUS_OUTSTANDING F _ h

theorem answeredAt_key_ne (lane : Fin 4) {F : Field} {j : Nat} (h : 0x700000 ≤ F.off) :
    F.key j 0 0 ≠ NOC_EPe_STATUS_OUTSTANDING.key (nth 0 ctxEndpoints lane) 0 0 := by
  have hlane : nth 0 ctxEndpoints lane < 1000 := by
    fin_cases lane <;> decide
  simp only [Field.key, NOC_EPe_STATUS_OUTSTANDING]
  omega

/-! ### The clauses -/

theorem credit_apart (h : target < 224) : apartFromCounts (CTX_CRED_t_CREDIT.key target 0 0) := by
  refine .inr ?_
  simp only [Field.key, CTX_CRED_t_CREDIT]
  omega

theorem answeredAt_tickCount (lane : Fin 4) (s : State) : (answeredAt (nth 0 ctxEndpoints lane) s).tickCount = s.tickCount :=
  congrArg (BitVec.ofNat 64) (answeredAt_fld _ s TCK_COUNT_COUNT 0 (by
    fin_cases lane <;> decide))

theorem exec_resultResponse_match {lane : Fin 4} {src : Fin 224} {tag : Nat} (hlane : s.laneFull lane = false) (htag : s.entryOfTag tag = some (i, e)) :
    exec (.resultResponse lane src tag st value) s = .next (laneProcess i e st (value % 2 ^ 24) (answeredAt (nth 0 ctxEndpoints lane) s)) := by
  rw [exec_resultResponse, execResultResponse, hlane, if_neg (by decide), htag]

theorem result_final {lane : Fin 4} {src : Fin 224} {tag : Nat} (hlane : s.laneFull lane = false) (htag : s.entryOfTag tag = some (i, e))
    (hword : (s.pword (flightKey i)).isBad = false) (hdestroy : e.destroy = false) (htarget : e.target < 224) (hid : e.id < 1048576)
    (hbad : s.badWords e.id = 0) (hlink : s.linkBad e.id = false) (hc : c = s.ctxWords e.id) (hstate : c.state = stInFlight) (hrec : c.recPolicy = 0)
    (hst : st ≠ .timeout) (hfail : c.verdict st (value % 2 ^ 24) = .fail → c.retry ≤ e.attempt) :
    ∃ t, exec (.resultResponse lane src tag st value) s = .next t ∧
      t.ctxWords e.id = resultAfter c (c.verdict st (value % 2 ^ 24)) st (value % 2 ^ 24) e.pause s.tickCount ∧
      t.ctx.flight = s.ctx.flight.filter (fun x => decide (x.1 ≠ i)) ∧
      t.fld CTX_CRED_t_CREDIT e.target = (s.fld CTX_CRED_t_CREDIT e.target + 1) % 2 ^ CTX_CRED_t_CREDIT.w ∧ t.out = s.out ∧
      (∀ j, j < 1048576 → j ≠ e.id → t.ctxWords j = s.ctxWords j) := by
  have hlane' := laneProcess_final (x := answeredAt (nth 0 ctxEndpoints lane) s) (i := i) (e := e) (st := st) (value := value % 2 ^ 24) hword hdestroy hbad hc
    hstate hrec fun h => absurd h.2.1 (Nat.not_lt.mpr (hfail h.1))
  rw [answeredAt_tickCount, decide_eq_false hst] at hlane'
  obtain ⟨hwords, hothers, hout, hflight, hfld⟩ := resultStored_spec (s := (answeredAt (nth 0 ctxEndpoints lane) s).noteCtx e.id) (c := c)
    (c' := resultAfter c (c.verdict st (value % 2 ^ 24)) st (value % 2 ^ 24) e.pause s.tickCount) hid
    ((linkBad_congr (pword_congr (noteCtx_mem _ _)) _).trans hlink)
  refine ⟨_, (exec_resultResponse_match hlane htag).trans (congrArg _ hlane'), (flightSettled_ctxWords _ _ _ _ hid).trans hwords, ?_, ?_, ?_,
    fun j hj hne => (flightSettled_ctxWords _ _ _ _ hj).trans ((hothers j hne).trans (ctxWords_of_mem (noteCtx_mem _ _) j))⟩
  · rw [flightSettled_ctx, hflight, noteCtx_ctx]
    rfl
  · rw [flightSettled_credit, hfld _ _ (credit_apart htarget), fld_congr CTX_CRED_t_CREDIT e.target 0 0 (reg_congr (noteCtx_regs _ e.id) _),
      answeredAt_fld _ s _ _ (answeredAt_key_ne lane (by decide))]
  · rw [flightSettled_out, hout, noteCtx_out]
    rfl

theorem result_left {lane : Fin 4} {src : Fin 224} {tag : Nat} (hlane : s.laneFull lane = false) (htag : s.entryOfTag tag = some (i, e))
    (hword : (s.pword (flightKey i)).isBad = false) (hbad : s.badWords e.id = 0)
    (hstate : (s.ctxWords e.id).state ≠ stInFlight) (hst : st ≠ .timeout) :
    ∃ t, exec (.resultResponse lane src tag st value) s = .next t ∧ (∀ j, j < 1048576 → t.ctxWords j = s.ctxWords j) ∧
      t.ctx.flight = s.ctx.flight.filter (fun x => decide (x.1 ≠ i)) ∧ t.ctx.slots = s.ctx.slots ∧
      t.fld CTX_CRED_t_CREDIT e.target = (s.fld CTX_CRED_t_CREDIT e.target + 1) % 2 ^ CTX_CRED_t_CREDIT.w ∧ t.out = s.out := by
  have hlane' := laneProcess_left (x := answeredAt (nth 0 ctxEndpoints lane) s) (i := i) (e := e) (st := st) (value := value % 2 ^ 24) hword hbad hstate
  rw [decide_eq_false hst] at hlane'
  refine ⟨_, (exec_resultResponse_match hlane htag).trans (congrArg _ hlane'),
    fun j hj => (flightSettled_ctxWords _ _ _ _ hj).trans (ctxWords_of_mem (noteCtx_mem _ _) j), ?_, ?_, ?_, ?_⟩
  · rw [flightSettled_ctx, noteCtx_ctx]
    rfl
  · rw [flightSettled_ctx, noteCtx_ctx]
    rfl
  · rw [flightSettled_credit, fld_congr CTX_CRED_t_CREDIT e.target 0 0 (reg_congr (noteCtx_regs _ e.id) _),
      answeredAt_fld _ s _ _ (answeredAt_key_ne lane (by decide))]
  · rw [flightSettled_out, noteCtx_out]
    rfl

theorem staleResponse_counts (src : Nat) (u : State) : (staleResponse src u).fld CTX_ENG_FLIGHT_STALE_RESP =
    (u.fld CTX_ENG_FLIGHT_STALE_RESP + 1) % 2 ^ CTX_ENG_FLIGHT_STALE_RESP.w := by
  have hkey : CTX_ENG_FLIGHT_STALE_RESP.key 0 0 0 ≠ CTX_CRED_t_CREDIT.key src 0 0 := Ne.symm credit_key_ne
  unfold staleResponse
  dsimp only
  rw [fld_addFld _ CTX_ENG_FLIGHT_STALE_RESP 1 0 0 0]
  split
  · rw [fld_addFld_elsewhere _ CTX_CRED_t_CREDIT CTX_ENG_FLIGHT_STALE_RESP 1 hkey,
      fld_setFld_beside _ CTX_ENG_FLIGHT_ORPHANS CTX_ENG_FLIGHT_STALE_RESP, fld_setFld_elsewhere _ CTX_CRED_t_ORPHANS CTX_ENG_FLIGHT_STALE_RESP _ hkey]
  · rfl

theorem result_stale {lane : Fin 4} {src : Fin 224} {tag : Nat} (hlane : s.laneFull lane = false) (htag : s.entryOfTag tag = none) :
    exec (.resultResponse lane src tag st value) s = .next (staleResponse src (answeredAt (nth 0 ctxEndpoints lane) s)) := by
  rw [exec_resultResponse, execResultResponse, hlane, if_neg (by decide), htag]

/-- An attempt that outlasts FLIGHT_TIMEOUT is final, whether its context is still IN_FLIGHT or not (R148). -/
theorem laneProcess_timeout (hword : (x.pword (flightKey i)).isBad = false) (hdestroy : e.destroy = false) (hbad : x.badWords e.id = 0)
    (hid : e.id < 1048576) (hlink : x.linkBad e.id = false) (hrec : (x.ctxWords e.id).recPolicy = 0) :
    ∃ v, laneProcess i e .timeout 0 x = flightSettled e.target true i v ∧ v.ctx.flight = x.ctx.flight ∧
      ∀ F j, apartFromCounts (F.key j 0 0) → v.fld F j = x.fld F j := by
  have hnote (F : Field) (j : Nat) : (x.noteCtx e.id).fld F j = x.fld F j := fld_congr F j 0 0 (reg_congr (noteCtx_regs x e.id) _)
  by_cases hstate : (x.ctxWords e.id).state = stInFlight
  · obtain ⟨-, -, -, hflight, hfld⟩ := resultStored_spec (s := x.noteCtx e.id) (c := x.ctxWords e.id)
      (c' := resultAfter (x.ctxWords e.id) ((x.ctxWords e.id).verdict .timeout 0) .timeout 0 e.pause x.tickCount) hid
      ((linkBad_congr (pword_congr (noteCtx_mem _ _)) _).trans hlink)
    exact ⟨_, laneProcess_final hword hdestroy hbad rfl hstate hrec fun h => h.2.2 rfl, hflight.trans (congrArg CtxState.flight (noteCtx_ctx x e.id)),
      fun F j hF => (hfld F j hF).trans (hnote F j)⟩
  · exact ⟨_, laneProcess_left hword hbad hstate, congrArg CtxState.flight (noteCtx_ctx x e.id), fun F j _ => hnote F j⟩

theorem attempt_timed_out {entry : Fin 2560} (hentry : s.ctx.flight.find? (fun x => decide (x.1 = entry.val)) = some (i, e))
    (hon : s.fld CTX_ENG_CTL_FLIGHT_TIMEOUT ≠ 0) (hid : e.id < 1048576) (hlink : s.linkBad e.id = false)
    (hlate : s.fld CTX_ENG_CTL_FLIGHT_TIMEOUT < (s.tickCount - e.tick).toNat) (hlane : s.laneFull e.lane = false)
    (hword : (s.pword (flightKey i)).isBad = false) (htarget : e.target < 224) (hdestroy : e.destroy = false) (hbad : s.badWords e.id = 0)
    (hrec : (s.ctxWords e.id).recPolicy = 0) :
    ∃ t, exec (.flightTimeout entry) s = .next t ∧
      t.fld CTX_ENG_EVENTS_TIMEOUTS = (s.fld CTX_ENG_EVENTS_TIMEOUTS + 1) % 2 ^ CTX_ENG_EVENTS_TIMEOUTS.w ∧
      t.fld CTX_CRED_t_ORPHANS e.target = (s.fld CTX_CRED_t_ORPHANS e.target + 1) % 2 ^ CTX_CRED_t_ORPHANS.w ∧
      t.ctx.flight = s.ctx.flight.filter (fun x => decide (x.1 ≠ i)) := by
  have hexec : exec (.flightTimeout entry) s = .next (laneProcess i e .timeout 0 (s.addFld CTX_ENG_EVENTS_TIMEOUTS 1)) := by
    rw [exec_flightTimeout, execFlightTimeout, hentry]
    dsimp only
    rw [if_pos ⟨hon, hlate, by simp [hlane]⟩]
  obtain ⟨v, hv, hflight, hfld⟩ := laneProcess_timeout (x := s.addFld CTX_ENG_EVENTS_TIMEOUTS 1) hword hdestroy hbad hid hlink hrec
  refine ⟨_, hexec.trans (congrArg _ hv), ?_, ?_, ?_⟩
  · rw [flightSettled_timeouts, hfld CTX_ENG_EVENTS_TIMEOUTS 0 (.inl (by decide)), fld_addFld _ CTX_ENG_EVENTS_TIMEOUTS 1 0 0 0]
  · rw [flightSettled_orphan, hfld CTX_CRED_t_ORPHANS e.target (credit_apart htarget),
      fld_addFld_elsewhere _ CTX_ENG_EVENTS_TIMEOUTS CTX_CRED_t_ORPHANS 1 credit_key_ne]
  · rw [flightSettled_ctx, hflight]
    rfl

/-- Settles O14. -/
theorem responsesSettleFlights : Obligations.ResponsesSettleFlights :=
  ⟨fun _ _ _ _ _ _ _ _ _ hlane htag hword hdestroy htarget hid _ hbad hlink hc hstate hrec hst hfail =>
      result_final hlane htag hword hdestroy htarget hid hbad hlink hc hstate hrec hst hfail,
    fun _ _ _ _ _ _ _ _ hlane htag hword _ hbad hstate hst => result_left hlane htag hword hbad hstate hst,
    fun _ src _ _ _ _ hlane htag => ⟨result_stale hlane htag, fun u => staleResponse_counts src u⟩,
    fun _ _ _ _ hentry hon hid hlink hlate hlane hword htarget hdestroy _ hbad hrec =>
      attempt_timed_out hentry hon hid hlink hlate hlane hword htarget hdestroy hbad hrec⟩

end Sys2Proof.Machine
end

section
-- One proof at a time: the memory limit of the check counts a stack for every proof that waits for another.
set_option Elab.async false
/-! SUPPORT. The context engine's walkers: a visit that dispatches, and the rebuild of the calendar (R93, R134 to R143, R161). -/

namespace Sys2Proof.Machine

variable {s t x : State} {id i w : Nat} {c : Ctx} {e : Filed}

/-! ### Dispatch (R138 to R140, R143) -/

theorem allocFlight_rest (s : State) (i : Nat) (f : Flight) : s.allocFlight i f =
    { s with regs := (s.allocFlight i f).regs, mem := (s.writeP (flightKey i) 0).mem, mends := (s.writeP (flightKey i) 0).mends,
             ctx := { s.ctx with flight := s.ctx.flight ++ [(i, f)]
                                 gens := Memory.set (fun _ => 0) s.ctx.gens i ((s.gen i + 1) % 16) } } := rfl

theorem allocFlight_fld (s : State) (i : Nat) (f : Flight) (F : Field) (j : Nat) (h : F.key j 0 0 ≠ CTX_ENG_FLIGHT_OCCUPIED.key 0 0 0) :
    (s.allocFlight i f).fld F j = s.fld F j := by
  unfold State.allocFlight syncFlight
  dsimp only
  exact (fld_setFld_elsewhere _ CTX_ENG_FLIGHT_OCCUPIED F _ h).trans (fld_congr F j 0 0 (reg_congr rfl _))

theorem allocFlight_ctxWords (s : State) (i : Nat) (f : Flight) {j : Nat} (hj : j < 1048576) : (s.allocFlight i f).ctxWords j = s.ctxWords j := by
  refine ctxWords_congr fun k hk => ?_
  have halloc : (s.allocFlight i f).pword (ctxKey j k) = (s.writeP (flightKey i) 0).pword (ctxKey j k) := pword_congr (by rw [allocFlight_rest]) _
  rw [halloc, pword_writeP_other _ _ (flightKey_apart hj hk)]

theorem allocFlight_flightTag (s : State) (i : Nat) (f : Flight) : (s.allocFlight i f).flightTag i = i + 4096 * ((s.gen i + 1) % 16) := by
  unfold State.flightTag State.gen
  rw [allocFlight_rest]
  dsimp only
  rw [Memory.get_set_same, State.gen]

/-- The flight entry of a dispatch. -/
def dispatchEntry (id w : Nat) (c : Ctx) (s : State) : Flight :=
  ⟨id, id, id, s.votedOwner id, c.target, 0, s.tickCount, s.tickCount, false, false, w⟩

/-- The context while its action is in flight. -/
def dispatched (c : Ctx) (now : Word) : Ctx :=
  ((if c.period = 0 then c else c.setNextDue ((c.nextDue + c.period) % 2 ^ 32)).setLate (decide (bits now 0 32 ≠ c.nextDue))).setState stInFlight

/-- The state in which the credit and the flight entry have been taken. -/
def flightTaken (id w : Nat) (c : Ctx) (s : State) : State :=
  (s.setFld CTX_CRED_t_CREDIT (s.fld CTX_CRED_t_CREDIT c.target - 1) c.target).allocFlight (lowestFreeEntry s.ctx.flight 2560 0) (dispatchEntry id w c s)

theorem creditTaken_tickCount (s : State) (v target : Nat) : (s.setFld CTX_CRED_t_CREDIT v target).tickCount = s.tickCount :=
  congrArg (BitVec.ofNat 64) (fld_setFld_elsewhere s CTX_CRED_t_CREDIT TCK_COUNT_COUNT _ (Ne.symm credit_key_ne))

theorem dispatch_eq (id w : Nat) (c : Ctx) (s : State) : dispatch id w c s =
    sendAction w (((flightTaken id w c s).storeCtx id (s.votedOwner id) c.state (dispatched c s.tickCount)).flightTag (lowestFreeEntry s.ctx.flight 2560 0))
      c.target (dispatched c s.tickCount) (s.votedOwner id) 0
      ((flightTaken id w c s).storeCtx id (s.votedOwner id) c.state (dispatched c s.tickCount)).tickCount
      ((flightTaken id w c s).storeCtx id (s.votedOwner id) c.state (dispatched c s.tickCount)) := by
  unfold dispatch flightTaken dispatchEntry dispatched
  dsimp only
  rw [creditTaken_tickCount]

theorem flightTaken_ctx (id w : Nat) (c : Ctx) (s : State) : (flightTaken id w c s).ctx = { s.ctx with
    flight := s.ctx.flight ++ [(lowestFreeEntry s.ctx.flight 2560 0, dispatchEntry id w c s)]
    gens := Memory.set (fun _ => 0) s.ctx.gens (lowestFreeEntry s.ctx.flight 2560 0) ((s.gen (lowestFreeEntry s.ctx.flight 2560 0) + 1) % 16) } := by
  unfold flightTaken
  rw [allocFlight_rest]
  rfl

theorem flightTaken_out (id w : Nat) (c : Ctx) (s : State) : (flightTaken id w c s).out = s.out := by
  unfold flightTaken
  rw [allocFlight_rest]
  rfl

theorem flightTaken_ctxWords (id w : Nat) (c : Ctx) (s : State) {j : Nat} (hj : j < 1048576) : (flightTaken id w c s).ctxWords j = s.ctxWords j :=
  (allocFlight_ctxWords _ _ _ hj).trans (ctxWords_of_mem rfl j)

theorem flightTaken_credit (id w : Nat) (c : Ctx) (s : State) :
    (flightTaken id w c s).fld CTX_CRED_t_CREDIT c.target = s.fld CTX_CRED_t_CREDIT c.target - 1 := by
  have hlt : s.fld CTX_CRED_t_CREDIT c.target < 2 ^ CTX_CRED_t_CREDIT.w := fld_lt s CTX_CRED_t_CREDIT c.target 0 0
  exact (allocFlight_fld _ _ _ CTX_CRED_t_CREDIT c.target credit_key_ne).trans (fld_setFld_fits s CTX_CRED_t_CREDIT c.target 0 0 (by omega))

theorem target_lt (c : Ctx) : c.target < 256 := by
  have hslot : bits c.w1 40 5 < 2 ^ 5 := bits_lt _ _ _
  have hregion : bits c.w1 40 6 < 2 ^ 6 := bits_lt _ _ _
  have hchannel : c.chA < 2 ^ 11 := bits_lt _ _ _
  unfold Ctx.target
  split <;> omega

theorem credit_apart_target (c : Ctx) : apartFromCounts (CTX_CRED_t_CREDIT.key c.target 0 0) := by
  have hlt := target_lt c
  refine .inr ?_
  simp only [Field.key, CTX_CRED_t_CREDIT]
  omega

theorem dispatched_action (c : Ctx) (now : Word) : (dispatched c now).w1 = c.w1 ∧ (dispatched c now).settle = c.settle ∧ (dispatched c now).kind = c.kind := by
  have hkind (c : Ctx) (b : Bool) : ((c.setLate b).setState stInFlight).kind = c.kind := by
    unfold Ctx.setState Ctx.setLate Ctx.kind
    dsimp only
    rw [bits_setBits_other _ 0 3 _ 3 3 (by decide) (by decide), bits_setBits_other _ 63 1 _ 3 3 (by decide) (by decide)]
  have hdue (c : Ctx) (v : Nat) : (c.setNextDue v).kind = c.kind := bits_setBits_other _ 30 32 _ 3 3 (by decide) (by decide)
  unfold dispatched
  split
  · exact ⟨rfl, rfl, hkind c _⟩
  · exact ⟨rfl, rfl, (hkind _ _).trans (hdue c _)⟩

theorem flightTaken_tickCount (id w : Nat) (c : Ctx) (s : State) : (flightTaken id w c s).tickCount = s.tickCount := by
  refine congrArg (BitVec.ofNat 64) ((allocFlight_fld _ _ _ TCK_COUNT_COUNT 0 (by decide)).trans ?_)
  exact fld_setFld_elsewhere s CTX_CRED_t_CREDIT TCK_COUNT_COUNT _ (Ne.symm credit_key_ne)

/-- A dispatch, for every state of the engine. -/
theorem dispatch_spec (hi : i = lowestFreeEntry s.ctx.flight 2560 0) :
    (dispatch id w c s).ctxWords id = dispatched c s.tickCount ∧
      (∀ j, j < 1048576 → j ≠ id → (dispatch id w c s).ctxWords j = s.ctxWords j) ∧
      (dispatch id w c s).ctx.flight = s.ctx.flight ++ [(i, dispatchEntry id w c s)] ∧ (dispatch id w c s).ctx.admitted = s.ctx.admitted ∧
      (dispatch id w c s).fld CTX_CRED_t_CREDIT c.target = s.fld CTX_CRED_t_CREDIT c.target - 1 ∧
      (dispatch id w c s).out = .action w (i + 4096 * ((s.gen i + 1) % 16)) c.target c.w1 c.settle (s.votedOwner id) c.kind 0
        (bits s.tickCount 0 32) :: s.out := by
  obtain ⟨hw1, hsettle, hkind⟩ := dispatched_action c s.tickCount
  have hctx : ((flightTaken id w c s).storeCtx id (s.votedOwner id) c.state (dispatched c s.tickCount)).ctx = _ :=
    (storeCtx_ctx _ id _ _ _).trans (flightTaken_ctx id w c s)
  have htag : ((flightTaken id w c s).storeCtx id (s.votedOwner id) c.state (dispatched c s.tickCount)).flightTag i = i + 4096 * ((s.gen i + 1) % 16) := by
    unfold State.flightTag State.gen
    rw [hctx, ← hi]
    dsimp only
    rw [Memory.get_set_same, State.gen]
  have htick : ((flightTaken id w c s).storeCtx id (s.votedOwner id) c.state (dispatched c s.tickCount)).tickCount = s.tickCount :=
    (congrArg (BitVec.ofNat 64) (storeCtx_fld _ id _ c _ TCK_COUNT_COUNT 0 (.inl (by decide)))).trans (flightTaken_tickCount id w c s)
  rw [dispatch_eq, sendAction, hw1, hsettle, hkind, htick, ← hi, htag]
  refine ⟨(ctxWords_of_mem rfl id).trans (storeCtx_ctxWords _ id _ _ _).1, fun j hj hne => ?_, ?_, ?_, ?_, ?_⟩
  · exact (ctxWords_of_mem rfl j).trans ((storeCtx_ctxWords_other _ _ _ _ hne).trans (flightTaken_ctxWords id w c s hj))
  · exact (congrArg CtxState.flight hctx).trans (by rw [hi])
  · exact (congrArg CtxState.admitted hctx : _)
  · exact (fld_congr CTX_CRED_t_CREDIT c.target 0 0 (reg_congr rfl _)).trans
      ((storeCtx_fld _ id _ c _ CTX_CRED_t_CREDIT c.target (credit_apart_target c)).trans (flightTaken_credit id w c s))
  · exact congrArg (List.cons _) ((storeCtx_out _ id _ _ _).trans (flightTaken_out id w c s))

/-! ### A visit (R128, R134) -/

/-- The state in which a walker reads the context of the entry it has taken. -/
def visitRead (s : State) (id : Nat) : State := (s.addFld CTX_ENG_VISITS_COUNT 1).noteCtx id

theorem visitRead_ctxWords (s : State) (id j : Nat) : (visitRead s id).ctxWords j = s.ctxWords j :=
  (ctxWords_of_mem (noteCtx_mem _ id) j).trans (ctxWords_of_mem rfl j)

theorem visitRead_fld (s : State) (id : Nat) (F : Field) (j : Nat) (h : F.key j 0 0 ≠ CTX_ENG_VISITS_COUNT.key 0 0 0) :
    (visitRead s id).fld F j = s.fld F j :=
  (fld_congr F j 0 0 (reg_congr (noteCtx_regs _ id) _)).trans (fld_addFld_elsewhere s CTX_ENG_VISITS_COUNT F 1 h)

theorem visitRead_tickCount (s : State) (id : Nat) : (visitRead s id).tickCount = s.tickCount :=
  congrArg (BitVec.ofNat 64) (visitRead_fld s id TCK_COUNT_COUNT 0 (by decide))

theorem visitRead_ctx (s : State) (id : Nat) : (visitRead s id).ctx = s.ctx := noteCtx_ctx _ id

theorem visitRead_out (s : State) (id : Nat) : (visitRead s id).out = s.out := noteCtx_out _ id

/-- The state in which the first admitted entry has been taken off its list. -/
def visitTaken (rest : List Filed) (s : State) : State := { s with ctx := { s.ctx with admitted := rest, visitIndex := s.ctx.visitIndex + 1 } }

/-- A due context whose target has a credit is dispatched. -/
theorem visitEntry_dispatches (hfree : s.isFree e.id = false) (hbad : s.badWords e.id = 0) (hc : c = s.ctxWords e.id) (hdue : c.isDue s.tickCount = true)
    (hkind : c.kind ≠ 7) (hcredit : s.fld CTX_CRED_t_CREDIT c.target ≠ 0) :
    visitEntry e w false false s = dispatch e.id w c (visitRead s e.id) := by
  have hfree' : (s.addFld CTX_ENG_VISITS_COUNT 1).isFree e.id = false := hfree
  have hcredit' : (visitRead s e.id).fld CTX_CRED_t_CREDIT c.target ≠ 0 := by rwa [visitRead_fld s e.id CTX_CRED_t_CREDIT c.target credit_key_ne]
  have hwords : ((s.addFld CTX_ENG_VISITS_COUNT 1).noteCtx e.id).ctxWords e.id = c := (visitRead_ctxWords s e.id e.id).trans hc.symm
  have hdue' : c.isDue ((s.addFld CTX_ENG_VISITS_COUNT 1).noteCtx e.id).tickCount = true := by
    rw [show ((s.addFld CTX_ENG_VISITS_COUNT 1).noteCtx e.id).tickCount = s.tickCount from visitRead_tickCount s e.id]
    exact hdue
  have hgood : ¬ (s.addFld CTX_ENG_VISITS_COUNT 1).badWords e.id ≠ 0 := not_not.mpr hbad
  unfold visitEntry
  dsimp only
  rw [if_neg (by decide), hfree', if_neg (by decide), if_neg hgood, hwords, if_pos hdue', dueVisit, if_neg hkind]
  exact if_neg hcredit'

theorem visit_dispatches {rest : List Filed} {c' : Ctx} {tgt : Nat} (hruns : s.engineRuns = true) (hstop : s.pwr.stopped = false)
    (hloose : s.ctx.loose = []) (hadmitted : s.ctx.admitted = e :: rest) (hw : w = s.ctx.visitIndex % 4)
    (hfree : s.isFree e.id = false) (hbad : s.badWords e.id = 0) (hc : c = s.ctxWords e.id) (hdue : c.isDue s.tickCount = true)
    (hkind : c.kind ≠ 7) (htgt : tgt = c.target) (hcredit : s.fld CTX_CRED_t_CREDIT tgt ≠ 0) (hi : i = lowestFreeEntry s.ctx.flight 2560 0)
    (hc' : c' = dispatched c s.tickCount) :
    ∃ t, exec (.visit false false) s = .next t ∧ t.ctx.admitted = rest ∧ t.ctxWords e.id = c' ∧
      t.fld CTX_CRED_t_CREDIT tgt = s.fld CTX_CRED_t_CREDIT tgt - 1 ∧
      t.ctx.flight = s.ctx.flight ++
        [(i, ⟨e.id, e.id, e.id, s.votedOwner e.id, tgt, 0, s.tickCount, s.tickCount, false, false, w⟩)] ∧
      t.out = .action w (i + 4096 * ((s.gen i + 1) % 16)) tgt c.w1 c.settle (s.votedOwner e.id) c.kind 0
        (bits s.tickCount 0 32) :: s.out ∧
      (∀ j, j < 1048576 → j ≠ e.id → t.ctxWords j = s.ctxWords j) := by
  subst htgt
  have hnext : s.ctx.nextVisit = some (e, (visitTaken rest s).ctx) := by
    unfold CtxState.nextVisit
    rw [hloose, hadmitted]
    exact congrArg (fun l => some (e, { s.ctx with loose := l, admitted := rest, visitIndex := s.ctx.visitIndex + 1 })) hloose.symm
  have hexec : exec (.visit false false) s = .next (dispatch e.id w c
      (visitRead (visitTaken rest s) e.id)) := by
    rw [exec_visit, execVisit, if_neg (by simp [hruns, hstop]), hnext]
    dsimp only
    rw [← hw]
    exact congrArg Host.Outcome.next (visitEntry_dispatches (s := visitTaken rest s) hfree hbad hc hdue hkind hcredit)
  obtain ⟨hwords, hothers, hflight, hleft, hcred, hout⟩ := dispatch_spec (w := w) (c := c) (i := i) (id := e.id)
    (s := visitRead (visitTaken rest s) e.id) (by rw [visitRead_ctx]; exact hi)
  have htick : (visitRead (visitTaken rest s) e.id).tickCount = s.tickCount :=
    visitRead_tickCount _ e.id
  have howner : (visitRead (visitTaken rest s) e.id).votedOwner e.id =
      s.votedOwner e.id := votedOwner_congr (congrArg CtxState.tags (visitRead_ctx _ e.id)) e.id
  refine ⟨_, hexec, hleft.trans (congrArg CtxState.admitted (visitRead_ctx _ e.id)), by rw [hwords, htick, hc'], ?_, ?_, ?_,
    fun j hj hne => (hothers j hj hne).trans (visitRead_ctxWords _ e.id j)⟩
  · rw [hcred, visitRead_fld _ e.id CTX_CRED_t_CREDIT c.target credit_key_ne]
    rfl
  · rw [hflight, dispatchEntry, htick, howner, visitRead_ctx]
    rfl
  · rw [hout, htick, howner, visitRead_out, State.gen, visitRead_ctx]
    rfl

/-! ### The rebuild (R161, R737) -/

/-- The state in which EN and FLIGHT_TIMEOUT of CTX_ENG_CTL have been stored. -/
def engCtlStored (h : Half) (data : Word) (s : State) : State :=
  (s.setFld CTX_ENG_CTL_EN (bits (s.merged CTX_ENG_CTL_EN.off h data) 0 1)).setFld CTX_ENG_CTL_FLIGHT_TIMEOUT
    (bits (s.merged CTX_ENG_CTL_EN.off h data) 32 32)

theorem engCtlStored_onlyRegs (h : Half) (data : Word) (s : State) : onlyRegs [CTX_ENG_CTL_EN.off] s (engCtlStored h data s) :=
  onlyRegs_after_setFld CTX_ENG_CTL_FLIGHT_TIMEOUT _ 0 0 0 (onlyRegs_setFld s CTX_ENG_CTL_EN _ 0 0 0) (.head _)

/-- What a rebuild changes beside its own registers: the link memories and the lists. -/
theorem startRebuild_rest (s : State) : startRebuild s = { s with
    regs := (startRebuild s).regs
    mem := s.mem.filter fun e => decide (e.1 < memKey 1 0 ∨ memKey 1 458752 ≤ e.1)
    ctx := { s.ctx with slots := [], carried := [], newCarry := [], loose := s.ctx.loose ++ s.ctx.admitted, admitted := [] } } := rfl

theorem startRebuild_regs (s : State) :
    (startRebuild s).regs = ((s.setFld CTX_ENG_STATUS_REBUILDING 1).addFld CTX_ENG_STATUS_REBUILDS 1).regs := rfl

theorem startRebuild_rebuilding (s : State) : (startRebuild s).fld CTX_ENG_STATUS_REBUILDING = 1 :=
  (fld_congr CTX_ENG_STATUS_REBUILDING 0 0 0 (reg_congr (startRebuild_regs s) _)).trans
    ((fld_addFld_beside _ CTX_ENG_STATUS_REBUILDS CTX_ENG_STATUS_REBUILDING 1).trans (fld_setFld_fits s CTX_ENG_STATUS_REBUILDING 0 0 0 (by decide)))

theorem startRebuild_rebuilds (s : State) :
    (startRebuild s).fld CTX_ENG_STATUS_REBUILDS = (s.fld CTX_ENG_STATUS_REBUILDS + 1) % 2 ^ CTX_ENG_STATUS_REBUILDS.w := by
  refine (fld_congr CTX_ENG_STATUS_REBUILDS 0 0 0 (reg_congr (startRebuild_regs s) _)).trans ?_
  rw [fld_addFld _ CTX_ENG_STATUS_REBUILDS 1 0 0 0, fld_setFld_beside _ CTX_ENG_STATUS_REBUILDING CTX_ENG_STATUS_REBUILDS]

theorem startRebuild_regsKeep (s : State) : regsKeep [CTX_ENG_STATUS_REBUILDING.off] s (startRebuild s) := by
  have hkept := (onlyRegs_after_setFld CTX_ENG_STATUS_REBUILDS
    ((s.setFld CTX_ENG_STATUS_REBUILDING 1).fld CTX_ENG_STATUS_REBUILDS + 1) 0 0 0 (onlyRegs_setFld s CTX_ENG_STATUS_REBUILDING 1 0 0 0) (.head _)).2
  exact fun k hk => (reg_congr (startRebuild_regs s) k).trans (hkept k hk)

theorem startRebuild_pword (s : State) {key : Nat} (h : key < memKey 1 0) : (startRebuild s).pword key = s.pword key := by
  unfold State.pword
  rw [startRebuild_rest]
  dsimp only
  rw [Memory.get_filter memDefault (fun k => decide (k < memKey 1 0 ∨ memKey 1 458752 ≤ k)), if_pos (by simp [h])]

theorem rebuild_begins {m : Ident} {h : Half} {data : Word} (hacc : s.admits m .CTX_ENG_CTL []) (hbit : wbit h data CTX_ENG_CTL_REBUILD = true) :
    ∃ t, exec (.rebuild m h data) s = .next t ∧ t.fld CTX_ENG_STATUS_REBUILDING = 1 ∧
      t.fld CTX_ENG_STATUS_REBUILDS = (s.fld CTX_ENG_STATUS_REBUILDS + 1) % 2 ^ CTX_ENG_STATUS_REBUILDS.w ∧
      t.ctx = { s.ctx with
        slots := [], carried := [], newCarry := [], loose := s.ctx.loose ++ s.ctx.admitted, admitted := [] } ∧
      (∀ id k, id < 1048576 → k < 4 → t.pword (ctxKey id k) = s.pword (ctxKey id k)) ∧ t.out = s.out ∧
      regsKeep [leaseKey, CTX_ENG_CTL_EN.off, CTX_ENG_STATUS_REBUILDING.off] s t := by
  have hexec : exec (.rebuild m h data) s = .next (startRebuild (engCtlStored h data (renewLease m s))) := by
    rw [exec_rebuild, execRebuild, regWrite_admits hacc, engCtlEffect, if_pos hbit]
    rfl
  have hregs : onlyRegs [leaseKey, CTX_ENG_CTL_EN.off, CTX_ENG_STATUS_REBUILDING.off] s (engCtlStored h data (renewLease m s)) :=
    onlyRegs_trans (onlyRegs_mono (by simp) (onlyRegs_renewLease m s)) (onlyRegs_mono (by simp) (engCtlStored_onlyRegs h data _))
  refine ⟨_, hexec, startRebuild_rebuilding _, ?_, ?_, fun id k hid hk => ?_, ?_, ?_⟩
  · rw [startRebuild_rebuilds, fld_congr CTX_ENG_STATUS_REBUILDS 0 0 0 ((engCtlStored_onlyRegs h data (renewLease m s)).2 _ (by decide)),
      fld_renewLease m s CTX_ENG_STATUS_REBUILDS 0 0 0 (by decide)]
  · rw [startRebuild_rest]
    dsimp only
    rw [hregs.1]
  · rw [startRebuild_pword _ (by unfold ctxKey memKey; omega)]
    exact pword_congr (by rw [hregs.1]) _
  · rw [startRebuild_rest]
    dsimp only
    rw [hregs.1]
  · exact regsKeep_trans hregs.2 (regsKeep_mono (by simp) (startRebuild_regsKeep _))

theorem rebuild_scan_ends (hon : s.on CTX_ENG_STATUS_REBUILDING = true) :
    (scanAll s.listedContexts s = (t, true) → exec .rebuildScanEnd s = .next (t.setFld CTX_ENG_STATUS_REBUILDING 0)) ∧
    (scanAll s.listedContexts s = (t, false) → exec .rebuildScanEnd s = .next t) := by
  constructor <;>
  · intro hscan
    rw [exec_rebuildScanEnd, execRebuildScanEnd, if_pos hon, hscan]

theorem scan_files (hfree : s.isFree id = false) (hbad : s.badWords id = 0) (hlink : s.linkBad id = false)
    (hstate : (s.ctxWords id).state = stArmed ∨ (s.ctxWords id).state = stDue) :
    (scanOne s id).isFiled id = true ∧ storesKeep s (scanOne s id) := by
  obtain ⟨hfiled, hmem, -, hregs⟩ := file_spec (d := (s.noteCtx id).votedOwner id) (c := s.ctxWords id)
    ((linkBad_congr (pword_congr (noteCtx_mem s id)) id).trans hlink)
  have hscan : scanOne s id = (s.noteCtx id).file id ((s.noteCtx id).votedOwner id) (s.ctxWords id) := by
    unfold scanOne
    dsimp only
    rw [hfree, if_neg (by decide), if_neg (by simp [hbad]), ctxWords_of_mem (noteCtx_mem s id), if_pos hstate]
  rw [hscan]
  exact ⟨hfiled, hregs.trans (noteCtx_regs s id), hmem.trans (noteCtx_mem s id)⟩

/-- Settles O13. -/
theorem visitsAndCalendarRebuild : Obligations.VisitsAndCalendarRebuild :=
  ⟨fun _ _ _ _ _ _ _ _ hruns hstop hloose hadmitted _ hw hfree hbad hc hdue hkind htgt hcredit _ hi hc' =>
      visit_dispatches hruns hstop hloose hadmitted hw hfree hbad hc hdue hkind htgt hcredit hi hc',
    fun _ _ _ _ hacc hbit => rebuild_begins hacc hbit,
    fun _ _ hon => rebuild_scan_ends hon,
    fun _ _ hfree hbad hlink hstate => scan_files hfree hbad hlink hstate⟩

end Sys2Proof.Machine
end

section
-- One proof at a time: the memory limit of the check counts a stack for every proof that waits for another.
set_option Elab.async false
/-! SUPPORT. CTX_READ, the BAR2 window and the configuration of a domain (R107 to R112, R119 to R121). -/

namespace Sys2Proof.Machine

variable {p : Packet} {s t : State} {id k d off size : Nat} {m : Ident} {h : Half}

/-! ### CTX_READ (R119) -/

theorem isFree_beginCommand (p : Packet) (s : State) (id : Nat) : (beginCommand p s).isFree id = s.isFree id :=
  isFree_congr (fun _ => beginCommand_pword p s _) id

theorem mayReadCtx_beginCommand (p : Packet) (s : State) (m : Ident) (id : Nat) : (beginCommand p s).mayReadCtx m id = s.mayReadCtx m id := by
  unfold State.mayReadCtx
  rw [beginCommand_isOwner, isFree_beginCommand, votedOwner_beginCommand, member_beginCommand]

theorem readW5_beginCommand (p : Packet) (s : State) (id : Nat) : (beginCommand p s).readW5 id = s.readW5 id := by
  unfold State.readW5 State.flightOf
  rw [badWords_beginCommand, beginCommand_ctx]

theorem context_read {c : Ctx} (hacc : s.accepts 0x0306 1 .any p) (hid : id = bits (p.w 1) 0 20) (hc : c = s.ctxWords id)
    (hread : s.mayReadCtx p.issuer id = true) (hbad : s.badWords id = 0) :
    exec (.ctxRead p) s = .next (endCommand p .ok
      [c.logicalW0 s.tickCount, c.w1, c.w2, c.w3, BitVec.ofNat 64 (s.readW5 id)] ((beginCommand p s).noteCtx id)) := by
  have hread' : (beginCommand p s).mayReadCtx p.issuer id = true := (mayReadCtx_beginCommand p s p.issuer id).trans hread
  have hbad' : (beginCommand p s).badWords id = 0 := (badWords_beginCommand p s id).trans hbad
  rw [exec_ctxRead, execCtxRead, runCommand_passes hacc, ctxReadWork]
  dsimp only
  rw [← hid, if_neg (by simp [hread']), if_pos hbad', word_good_of_badWords hbad', if_neg (by decide), ctxWords_beginCommand, ← hc,
    tickCount_beginCommand, readW5_beginCommand]

/-! ### The window (R120, R121, R735) -/

/-- A window access passes the front of an open window. -/
theorem windowFront_passes (hopen : s.windowOpen) (m : Ident) (write : Bool) (turned eff : State → State) :
    windowFront m write turned eff s = eff s := by
  obtain ⟨hdark, hdamper, hgate⟩ := hopen
  unfold windowFront
  rw [hdark, if_neg (by decide), if_neg (by simp [hdamper]), hgate, if_neg (by decide)]

/-- While the gate is not open, an access is turned away and counts. -/
theorem windowFront_gated (hdark : s.dark = false) (hdamper : s.fld NOC_EPe_STATUS_DAMPER 40 = 0) (hgate : s.gateOpen 5 = false)
    (m : Ident) (write : Bool) (turned eff : State → State) : windowFront m write turned eff s = turned (gatedAccess m 0 write s) := by
  unfold windowFront
  rw [hdark, if_neg (by decide), if_neg (by simp [hdamper]), hgate, if_pos (by decide)]

theorem bar2Read_open (hopen : s.windowOpen) : exec (.bar2Read m off size) s = .next (bar2ReadAt m off size s) := by
  rw [exec_bar2Read, execBar2Read, windowFront_passes hopen]

theorem bar2Write_open {data : Word} {poison : Bool} (hopen : s.windowOpen) :
    exec (.bar2Write m off size data poison) s = .next (bar2WriteAt m off size data poison s) := by
  rw [exec_bar2Write, execBar2Write, windowFront_passes hopen]

theorem window_read_good (hopen : s.windowOpen) (hplace : bar2Place off size = some (id, k, h)) (hread : s.mayReadCtx m id = true)
    (hgood : (s.pword (ctxKey id k)).isBad = false) :
    ∃ t, exec (.bar2Read m off size) s = .next t ∧
      t.out = .bar2 m ((s.pword (ctxKey id k)).value &&& h.mask) false :: s.out ∧ storesKeep s t := by
  have heffect : bar2ReadAt m off size s = (s.noteMend (ctxKey id k)).emit (.bar2 m ((s.pword (ctxKey id k)).value &&& h.mask) false) := by
    rw [bar2ReadAt, hplace]
    dsimp only
    rw [bar2ReadEffect, if_pos hread]
    dsimp only
    rw [hgood, if_neg (by decide)]
  exact ⟨_, (bar2Read_open hopen).trans (congrArg _ heffect), congrArg (List.cons _) (noteMend_out s _), noteMend_regs s _, noteMend_mem s _⟩

theorem window_read_bad (hopen : s.windowOpen) (hplace : bar2Place off size = some (id, k, h)) (hread : s.mayReadCtx m id = true)
    (hbad : (s.pword (ctxKey id k)).isBad = true) :
    ∃ t, exec (.bar2Read m off size) s = .next t ∧ t.out = .bar2 m 0 true :: s.out ∧ storesKeep s t := by
  have heffect : bar2ReadAt m off size s = s.emit (.bar2 m 0 true) := by
    rw [bar2ReadAt, hplace]
    dsimp only
    rw [bar2ReadEffect, if_pos hread]
    dsimp only
    rw [hbad, if_pos rfl]
  exact ⟨_, (bar2Read_open hopen).trans (congrArg _ heffect), rfl, rfl, rfl⟩

theorem window_misplaced {data : Word} {poison : Bool} (hopen : s.windowOpen) (hplace : bar2Place off size = none) :
    exec (.bar2Read m off size) s = .next ((violation m .size false 0 s).emit (.bar2 m 0 false)) ∧
    exec (.bar2Write m off size data poison) s = .next ((violation m .size true 0 s).emit (.written m .ok)) := by
  constructor
  · rw [bar2Read_open hopen, bar2ReadAt, hplace]
  · rw [bar2Write_open hopen, bar2WriteAt, hplace]

theorem window_gated {data : Word} {poison : Bool} (hdark : s.dark = false) (hdamper : s.fld NOC_EPe_STATUS_DAMPER 40 = 0)
    (hgate : s.gateOpen 5 = false) :
    exec (.bar2Read m off size) s = .next ((gatedAccess m 0 false s).emit (.bar2 m 0 false)) ∧
    exec (.bar2Write m off size data poison) s = .next ((gatedAccess m 0 true s).emit (.written m .errGated)) := by
  constructor
  · rw [exec_bar2Read, execBar2Read, windowFront_gated hdark hdamper hgate]
  · rw [exec_bar2Write, execBar2Write, windowFront_gated hdark hdamper hgate]

theorem window_write {data : Word} (hopen : s.windowOpen) (hplace : bar2Place off size = some (id, k, .full)) (hfree : s.isFree id = false)
    (hmember : s.member (s.votedOwner id) m = true) (hk : k = 1 ∨ k = 2) (hgood : (s.pword (ctxKey id 0)).isBad = false)
    (hstate : (s.ctxWords id).state = stPaused ∨ (s.ctxWords id).state = stDone) :
    ∃ t, exec (.bar2Write m off size data false) s = .next t ∧ (t.pword (ctxKey id k)).value = data ∧
      (t.pword (ctxKey id k)).isBad = false ∧ (∀ j, j ≠ ctxKey id k → t.pword j = s.pword j) ∧ t.regs = s.regs ∧
      t.out = .written m .ok :: s.out := by
  have hstored : s.writeMasked (ctxKey id k) Half.full.mask data false = some (s.writeP (ctxKey id k) data) := rfl
  have hrefused : ¬ ((k ≠ 1 ∧ k ≠ 2) ∨ (s.pword (ctxKey id 0)).isBad ∨
      ¬ ((s.ctxWords id).state = stPaused ∨ (s.ctxWords id).state = stDone)) := by
    rw [hgood]
    rintro (⟨h1, h2⟩ | hb | hs)
    · exact hk.elim h1 h2
    · exact absurd hb (by decide)
    · exact hs hstate
  have heffect : bar2WriteAt m off size data false s = (s.writeP (ctxKey id k) data).emit (.written m .ok) := by
    rw [bar2WriteAt, hplace]
    dsimp only
    rw [bar2WriteEffect, hfree, hmember, if_neg (by decide), if_neg hrefused, hstored]
  have hword : ((s.writeP (ctxKey id k) data).emit (.written m .ok)).pword (ctxKey id k) = PWord.clean data := pword_writeP_same s _ data
  exact ⟨_, (bar2Write_open hopen).trans (congrArg _ heffect), by rw [hword, clean_value], by rw [hword, clean_isBad],
    fun j hj => pword_writeP_other s data hj, rfl, rfl⟩

/-! ### The configuration of a domain (R110, R112) -/

/-- A field of a domain's registers is not touched by the lease. -/
theorem fld_renewLease_domain (m : Ident) (s : State) (F : Field) (hF : leaseKey < F.off := by decide) (i : Nat) :
    (renewLease m s).fld F i = s.fld F i := by
  refine fld_renewLease m s F i 0 0 ?_
  simp only [Field.key]
  omega

theorem shareSum_renewLease (m : Ident) (s : State) : (renewLease m s).shareSum = s.shareSum := by
  unfold State.shareSum
  simp only [fld_renewLease_domain m s CTX_DOMd_CFG_SHARE]

theorem exec_domainCfgWrite_admits {d : Fin 16} {data : Word} (hacc : s.admits m .CTX_DOMd_CFG [d.val]) :
    exec (.domainCfgWrite m d .full data) s = .next (domainCfgEffect d data (renewLease m s)) := by
  rw [exec_domainCfgWrite, execDomainCfgWrite, regWrite_admits hacc, merged_full]

/-- The state in which SHARE, QUOTA and, in a domain without contexts, EN have been stored. -/
def domainStored (d : Nat) (v : Word) (s : State) : State :=
  ((if s.fld CTX_DOMd_STATUS_RESIDENT d = 0 then s.setFld CTX_DOMd_CFG_EN (bits v 0 1) d else s).setFld CTX_DOMd_CFG_SHARE (bits v 8 8) d).setFld
    CTX_DOMd_CFG_QUOTA (bits v 16 21) d

theorem domainStored_onlyRegs (d : Nat) (v : Word) (s : State) : onlyRegs [CTX_DOMd_CFG_EN.key d 0 0] s (domainStored d v s) := by
  have hen : onlyRegs [CTX_DOMd_CFG_EN.key d 0 0] s (if s.fld CTX_DOMd_STATUS_RESIDENT d = 0 then s.setFld CTX_DOMd_CFG_EN (bits v 0 1) d else s) := by
    split
    · exact onlyRegs_setFld s CTX_DOMd_CFG_EN _ d 0 0
    · exact onlyRegs_refl _ s
  exact onlyRegs_after_setFld CTX_DOMd_CFG_QUOTA _ d 0 0 (onlyRegs_after_setFld CTX_DOMd_CFG_SHARE _ d 0 0 hen (.head _)) (.head _)

theorem domainStored_fields (d : Nat) (v : Word) (s : State) : (domainStored d v s).fld CTX_DOMd_CFG_SHARE d = bits v 8 8 ∧
    (domainStored d v s).fld CTX_DOMd_CFG_QUOTA d = bits v 16 21 ∧
    (domainStored d v s).fld CTX_DOMd_CFG_EN d = (if s.fld CTX_DOMd_STATUS_RESIDENT d = 0 then bits v 0 1 else s.fld CTX_DOMd_CFG_EN d) := by
  unfold domainStored
  refine ⟨?_, fld_setFld_fits _ CTX_DOMd_CFG_QUOTA d 0 0 (bits_lt v 16 21), ?_⟩
  · rw [fld_setFld_beside _ CTX_DOMd_CFG_QUOTA CTX_DOMd_CFG_SHARE, fld_setFld_fits _ CTX_DOMd_CFG_SHARE d 0 0 (bits_lt v 8 8)]
  · rw [fld_setFld_beside _ CTX_DOMd_CFG_QUOTA CTX_DOMd_CFG_EN, fld_setFld_beside _ CTX_DOMd_CFG_SHARE CTX_DOMd_CFG_EN]
    split
    · exact fld_setFld_fits s CTX_DOMd_CFG_EN d 0 0 (bits_lt v 0 1)
    · rfl

theorem updateOver_onlyRegs (d : Nat) (s : State) : onlyRegs [CTX_DOMd_STATUS_OVER.key d 0 0] s (updateOver d s) := by
  unfold updateOver clearOver
  split
  · exact onlyRegs_setFld s CTX_DOMd_STATUS_OVER 1 d 0 0
  · split
    · exact onlyRegs_setFld s CTX_DOMd_STATUS_OVER 0 d 0 0
    · exact onlyRegs_refl _ s

theorem domain_written {d : Fin 16} {data : Word} (hacc : s.admits m .CTX_DOMd_CFG [d.val])
    (hsum : s.shareSum - s.fld CTX_DOMd_CFG_SHARE d + bits data 8 8 ≤ 256) :
    ∃ t, exec (.domainCfgWrite m d .full data) s = .next t ∧ t.fld CTX_DOMd_CFG_SHARE d = bits data 8 8 ∧
      t.fld CTX_DOMd_CFG_QUOTA d = bits data 16 21 ∧
      t.fld CTX_DOMd_CFG_EN d =
        (if s.fld CTX_DOMd_STATUS_RESIDENT d = 0 then bits data 0 1 else s.fld CTX_DOMd_CFG_EN d) ∧
      onlyRegs [leaseKey, CTX_DOMd_CFG_EN.key d 0 0, CTX_DOMd_STATUS_OVER.key d 0 0] s t := by
  have heffect : domainCfgEffect d data (renewLease m s) = updateOver d (domainStored d data (renewLease m s)) := by
    rw [domainCfgEffect, shareSum_renewLease, fld_renewLease_domain m s CTX_DOMd_CFG_SHARE, if_neg (by omega)]
    rfl
  obtain ⟨hshare, hquota, hen⟩ := domainStored_fields d data (renewLease m s)
  have hover (F : Field) (hF : F.key d 0 0 = CTX_DOMd_CFG_EN.key d 0 0) :
      (updateOver d (domainStored d data (renewLease m s))).fld F d = (domainStored d data (renewLease m s)).fld F d := by
    refine fld_congr F d 0 0 ((updateOver_onlyRegs d _).2 _ ?_)
    rw [hF]
    simp [Field.key, CTX_DOMd_CFG_EN, CTX_DOMd_STATUS_OVER]
  rw [fld_renewLease_domain m s CTX_DOMd_STATUS_RESIDENT, fld_renewLease_domain m s CTX_DOMd_CFG_EN] at hen
  refine ⟨_, (exec_domainCfgWrite_admits hacc).trans (congrArg _ heffect), (hover CTX_DOMd_CFG_SHARE rfl).trans hshare, (hover CTX_DOMd_CFG_QUOTA rfl).trans hquota, (hover CTX_DOMd_CFG_EN rfl).trans hen, ?_⟩
  exact onlyRegs_trans (onlyRegs_mono (by simp) (onlyRegs_renewLease m s)) (onlyRegs_trans (onlyRegs_mono (by simp) (domainStored_onlyRegs d data _))
    (onlyRegs_mono (by simp) (updateOver_onlyRegs d _)))

theorem domain_refused {d : Fin 16} {data : Word} (hacc : s.admits m .CTX_DOMd_CFG [d.val])
    (hsum : 256 < s.shareSum - s.fld CTX_DOMd_CFG_SHARE d + bits data 8 8) :
    ∃ t, exec (.domainCfgWrite m d .full data) s = .next t ∧ t.fld CTX_STATUS_SHARE_REFUSED = 1 ∧
      onlyRegs [leaseKey, CTX_STATUS_SHARE_REFUSED.off] s t := by
  have heffect : domainCfgEffect d data (renewLease m s) = (renewLease m s).setFld CTX_STATUS_SHARE_REFUSED 1 := by
    rw [domainCfgEffect, shareSum_renewLease, fld_renewLease_domain m s CTX_DOMd_CFG_SHARE, if_pos hsum]
  exact ⟨_, (exec_domainCfgWrite_admits hacc).trans (congrArg _ heffect), fld_setFld_fits _ CTX_STATUS_SHARE_REFUSED 0 0 0 (by decide),
    onlyRegs_trans (onlyRegs_mono (by simp) (onlyRegs_renewLease m s)) (onlyRegs_mono (by simp [Field.key]) (onlyRegs_setFld _ CTX_STATUS_SHARE_REFUSED 1 0 0 0))⟩

/-- Settles O12. -/
theorem contextReadsWindowAndDomainWrites : Obligations.ContextReadsWindowAndDomainWrites :=
  ⟨⟨fun _ _ _ _ hacc hid hc hread hbad => context_read hacc hid hc hread hbad,
      fun _ _ _ _ _ _ _ hopen hplace hread hgood => window_read_good hopen hplace hread hgood,
      fun _ _ _ _ _ _ _ hopen hplace hread hbad => window_read_bad hopen hplace hread hbad,
      fun _ _ _ _ _ _ hopen hplace => window_misplaced hopen hplace,
      fun _ _ _ _ _ _ hdark hdamper hgate => window_gated hdark hdamper hgate⟩,
    fun _ _ _ _ _ _ _ hopen hplace hfree hmember hk hgood hstate => window_write hopen hplace hfree hmember hk hgood hstate,
    fun _ _ _ _ hacc hsum => domain_written hacc hsum, fun _ _ _ _ hacc hsum => domain_refused hacc hsum⟩

end Sys2Proof.Machine
end

section
-- One proof at a time: the memory limit of the check counts a stack for every proof that waits for another.
set_option Elab.async false
/-! SUPPORT. Regions and the signature sweep: dampers, drains, copies, and the frames that are compared and repaired (R402 to R404,
R411 to R413, R418 to R428). -/

namespace Sys2Proof.Machine

variable {p : Packet} {s t : State} {r n addr : Nat}

/-! ### A target's registers after the start of a command -/

theorem tstate_beginCommand (p : Packet) (s : State) (r : Nat) : (beginCommand p s).tstate r = s.tstate r :=
  fld_low_beginCommand p s CFG_RGNr_STATUS_STATE r

theorem tdamper_beginCommand (p : Packet) (s : State) (r : Nat) : (beginCommand p s).tdamper r = s.tdamper r :=
  fld_low_beginCommand p s CFG_RGNr_STATUS_DAMPER r

theorem mode_beginCommand (p : Packet) (s : State) (g : Nat) : (beginCommand p s).mode g = s.mode g :=
  fld_low_beginCommand p s CHG_MODE_MODE g

theorem region_lt (h : regionsOf n = [r]) : r < 64 := by
  have hmem : r ∈ regionsOf n := h ▸ .head _
  exact List.mem_range.mp (List.mem_filter.mp hmem).1

/-! ### Dampers (R402, R403) -/

theorem setDamper_onlyRegs (t v : Nat) (s : State) : onlyRegs
    (CFG_RGNr_STATUS_DAMPER.key t 0 0 :: (portsOf t).map (fun p => NOC_EPe_STATUS_DAMPER.key (fabricEndpoint p) 0 0)) s (setDamper t v s) := by
  unfold setDamper
  refine onlyRegs_trans (onlyRegs_mono (fun _ h => List.mem_singleton.mp h ▸ .head _) (onlyRegs_setFld s CFG_RGNr_STATUS_DAMPER v t 0 0))
    (onlyRegs_foldl _ (fun s q hq => onlyRegs_mono (fun _ h => ?_) (onlyRegs_setFld s NOC_EPe_STATUS_DAMPER v (fabricEndpoint q) 0 0)) _)
  exact .tail _ (List.mem_map.mpr ⟨q, hq, (List.mem_singleton.mp h).symm⟩)

theorem setDamper_rest (t v : Nat) (s : State) : setDamper t v s = { s with regs := (setDamper t v s).regs } := (setDamper_onlyRegs t v s).1

/-- A target's own status register is no endpoint's. -/
theorem region_key_ne {F : Field} (hF : F.off < 0x504000 := by decide) (hs : F.s1 = 0x20 := by rfl) (hr : r < 65) (e : Nat) :
    F.key r 0 0 ≠ NOC_EPe_STATUS_DAMPER.key e 0 0 := by
  simp only [Field.key, NOC_EPe_STATUS_DAMPER, hs]
  omega

theorem setDamper_tdamper {v : Nat} (hr : r < 65) (hv : v < 4) (s : State) : (setDamper r v s).tdamper r = v := by
  unfold State.tdamper setDamper
  have hports (l : List Nat) (x : State) : (l.foldl (fun x q => x.setFld NOC_EPe_STATUS_DAMPER v (fabricEndpoint q)) x).fld CFG_RGNr_STATUS_DAMPER r =
      x.fld CFG_RGNr_STATUS_DAMPER r := by
    induction l generalizing x with
    | nil => rfl
    | cons q l ih => exact (ih _).trans (fld_setFld_elsewhere x NOC_EPe_STATUS_DAMPER CFG_RGNr_STATUS_DAMPER v (region_key_ne (hr := hr) (e := fabricEndpoint q)))
  rw [hports, fld_setFld_fits s CFG_RGNr_STATUS_DAMPER r 0 0 hv]

/-- No group follows a region while none is in FABRIC mode. -/
theorem followRegion_idle (r : Nat) (h : ∀ g, g < 128 → s.mode g ≠ mdFabric) : followRegion r s = s := by
  have hall (l : List Nat) (hl : ∀ g ∈ l, s.mode g ≠ mdFabric) : (l.foldl (fun s g =>
      if s.mode g = mdFabric ∧ (s.grp g).region = r then (if s.regionOpen r then openFabric g s else closeFabric g s) else s) s) = s := by
    induction l with
    | nil => rfl
    | cons g l ih =>
      rw [List.foldl_cons, if_neg fun hg => hl g (.head _) hg.1]
      exact ih fun g hg => hl g (.tail _ hg)
  exact hall _ fun g hg => h g (List.mem_range.mp hg)

/-- The state in which an OPEN damper has been raised. -/
def damperRaised (r : Nat) (s : State) : State := (setDamper r dmClosing (engageHolds r s)).setFld CFG_RGNr_STATUS_HOLDING 1 r

theorem damperRaised_rest (r : Nat) (s : State) :
    damperRaised r s = { s with regs := (damperRaised r s).regs, logic := (damperRaised r s).logic } := by
  unfold damperRaised
  rw [setDamper_rest]
  rfl

theorem damperRaised_fields (hr : r < 65) (s : State) :
    (damperRaised r s).tdamper r = dmClosing ∧ (damperRaised r s).fld CFG_RGNr_STATUS_HOLDING r = 1 := by
  unfold damperRaised
  refine ⟨?_, fld_setFld_fits _ CFG_RGNr_STATUS_HOLDING r 0 0 (by decide)⟩
  unfold State.tdamper
  rw [fld_setFld_beside _ CFG_RGNr_STATUS_HOLDING CFG_RGNr_STATUS_DAMPER]
  exact setDamper_tdamper hr (by decide) _

theorem mode_damperRaised (r : Nat) (hr : r < 65) (s : State) {g : Nat} : (damperRaised r s).mode g = s.mode g := by
  unfold State.mode damperRaised
  refine (fld_setFld_elsewhere _ CFG_RGNr_STATUS_HOLDING CHG_MODE_MODE 1 ?_).trans (fld_congr CHG_MODE_MODE g 0 0 ((setDamper_onlyRegs r dmClosing _).2 _ ?_))
  · simp only [Field.key, CHG_MODE_MODE, CFG_RGNr_STATUS_HOLDING]
    omega
  · have hport (q : Nat) : fabricEndpoint q ≤ 1600 * (q / 8) + 1600 := by
      unfold fabricEndpoint
      split
      · omega
      · split <;> omega
    intro hmem
    rcases List.mem_cons.mp hmem with h | h
    · simp only [Field.key, CHG_MODE_MODE, CFG_RGNr_STATUS_DAMPER] at h
      omega
    · obtain ⟨q, hq, h⟩ := List.mem_map.mp h
      have hq' : q ≤ 67 := by
        unfold portsOf at hq
        split at hq <;> simp at hq <;> omega
      have := hport q
      simp only [Field.key, CHG_MODE_MODE, NOC_EPe_STATUS_DAMPER] at h
      omega

theorem raiseDamper_open (hr : r < 64) (hopen : s.tdamper r = dmOpen) (hmode : ∀ g, g < 128 → s.mode g ≠ mdFabric) :
    raiseDamper r s = damperRaised r s := by
  unfold raiseDamper followTarget
  rw [if_neg (by simp [hopen]), if_pos hr]
  exact followRegion_idle (s := damperRaised r s) r fun g hg => (mode_damperRaised r (by omega) s).symm ▸ hmode g hg

theorem raiseDamper_raised (h : s.tdamper r ≠ dmOpen) : raiseDamper r s = s := if_pos h

/-! ### REGION_CLEAR and REGION_DAMPER (R412, R413) -/

theorem endRegistration_rest (t : Nat) (s : State) : endRegistration t s =
    { s with regs := (endRegistration t s).regs, cfg := { s.cfg with copies := s.cfg.copies.filter (fun c => decide (c.1 ≠ t)) } } := by
  unfold endRegistration
  split <;> rfl

theorem region_cleared (hacc : s.accepts 0x0107 1 .owner p) (hone : regionsOf (p.w 1).toNat = [r]) (hbank : s.banked = false)
    (hload : s.cfg.load = none) :
    (s.tstate r = stCleared → exec (.regionClear p) s = .next (endCommand p .ok [1] (beginCommand p s))) ∧
    (s.tstate r ≠ stCleared → s.tdamper r = dmShut →
      ∃ t, exec (.regionClear p) s = .next t ∧ t.out = s.out ∧ t.mem = s.mem ∧
        t.cfg = { s.cfg with copies := t.cfg.copies, load := some { Load.fresh (some p) 0 true 0 with clear := true, targets := [r] } }) := by
  have hfront : ¬ (([r] : List Nat).isEmpty = true ∨ (beginCommand p s).banked = true) := by
    rw [banked_beginCommand, hbank]
    simp
  have hload' : ¬ (beginCommand p s).cfg.load.isSome = true := by
    rw [beginCommand_cfg, hload]
    decide
  constructor
  · intro hcleared
    rw [exec_regionClear, execRegionClear, runCommand_passes hacc]
    dsimp only
    rw [hone, if_neg hfront, if_neg hload', List.filter_cons, tstate_beginCommand, hcleared]
    rfl
  · intro hlive hshut
    have hchosen : [r].filter (fun x => decide ((beginCommand p s).tstate x ≠ stCleared)) = [r] := by
      simp [tstate_beginCommand, hlive]
    have hexec : exec (.regionClear p) s = .next (setLoad (some { Load.fresh (some p) 0 true 0 with clear := true, targets := [r] })
        (endRegistration r (beginCommand p s))) := by
      rw [exec_regionClear, execRegionClear, runCommand_passes hacc]
      dsimp only
      rw [hone, if_neg hfront, if_neg hload', hchosen, if_neg (by simp), List.foldl_cons, List.foldl_nil,
        raiseDamper_raised (by rw [tdamper_beginCommand, hshut]; decide)]
    refine ⟨_, hexec, ?_, ?_, ?_⟩
    · rw [setLoad, endRegistration_rest, ← beginCommand_out p s]
    · rw [setLoad, endRegistration_rest, ← beginCommand_mem p s]
    · rw [setLoad, endRegistration_rest, ← beginCommand_cfg p s]

/-- The command's choice of a LOADED region whose damper stands as asked. -/
theorem damper_chosen {want : Nat} (hload : s.cfg.load = none) (hstate : s.tstate r = stLoaded) (hdamper : s.tdamper r = want) :
    [r].filter (fun x => decide ((beginCommand p s).tstate x = stLoaded ∧ (beginCommand p s).tdamper x = want) && !loadNames (beginCommand p s) x) = [r] := by
  have hnames : loadNames (beginCommand p s) r = false := by
    unfold loadNames
    rw [beginCommand_cfg, hload]
    rfl
  rw [List.filter_cons, tstate_beginCommand, tdamper_beginCommand, hnames, hstate, hdamper]
  simp

theorem damper_closes (hacc : s.accepts 0x0108 2 .owner p) (hone : regionsOf (p.w 1).toNat = [r]) (hbank : s.banked = false)
    (hload : s.cfg.load = none) (hbit : bit (p.w 2) 0 = false) (hstate : s.tstate r = stLoaded) (hdamper : s.tdamper r = dmOpen)
    (hmode : ∀ g, g < 128 → s.mode g ≠ mdFabric) :
    ∃ t, exec (.regionDamper p) s = .next t ∧ t.tdamper r = dmClosing ∧ t.fld CFG_RGNr_STATUS_HOLDING r = 1 ∧
      t.cfg = { s.cfg with dampers := s.cfg.dampers ++ [⟨p, [r], 1, 0⟩] } ∧ t.out = s.out ∧ t.mem = s.mem := by
  have hr := region_lt hone
  have hexec : exec (.regionDamper p) s = .next (damperRaised r { beginCommand p s with
      cfg := { (beginCommand p s).cfg with dampers := (beginCommand p s).cfg.dampers ++ [⟨p, [r], 1, 0⟩] } }) := by
    rw [exec_regionDamper, execRegionDamper, runCommand_passes hacc]
    dsimp only
    simp only [hone, hbit, banked_beginCommand, hbank, Bool.false_eq_true, if_false]
    rw [damper_chosen hload hstate hdamper, if_neg (by simp), if_neg (by simp)]
    exact congrArg Host.Outcome.next (raiseDamper_open hr ((tdamper_beginCommand p s r).trans hdamper) fun g hg => (mode_beginCommand p s g).symm ▸ hmode g hg)
  obtain ⟨hclosing, hholding⟩ := damperRaised_fields (r := r) (by omega) { beginCommand p s with
      cfg := { (beginCommand p s).cfg with dampers := (beginCommand p s).cfg.dampers ++ [⟨p, [r], 1, 0⟩] } }
  refine ⟨_, hexec, hclosing, hholding, ?_, ?_, ?_⟩
  · rw [damperRaised_rest, ← beginCommand_cfg p s]
  · rw [damperRaised_rest, ← beginCommand_out p s]
  · rw [damperRaised_rest, ← beginCommand_mem p s]

theorem damper_opens (hacc : s.accepts 0x0108 2 .owner p) (hone : regionsOf (p.w 1).toNat = [r]) (hbank : s.banked = false)
    (hload : s.cfg.load = none) (hbit : bit (p.w 2) 0 = true) (hstate : s.tstate r = stLoaded) (hdamper : s.tdamper r = dmShut) :
    ∃ t, exec (.regionDamper p) s = .next t ∧ t = { beginCommand p s with cfg := { s.cfg with
      opens := s.cfg.opens ++ [⟨p, s.nextDue, 2 ^ r, 0⟩] } } := by
  have hmask : maskOf [r] = 2 ^ r := by simp [maskOf]
  refine ⟨_, ?_, rfl⟩
  rw [exec_regionDamper, execRegionDamper, runCommand_passes hacc]
  dsimp only
  rw [hone, hbit, banked_beginCommand, hbank, if_pos rfl, damper_chosen hload hstate hdamper, if_neg (by simp), if_neg (by simp), if_pos rfl, hmask,
    nextDue_beginCommand, beginCommand_cfg]
  rfl

/-! ### CLOSING ends (R403, R404) -/

/-- The command that waits for its last target is answered. -/
theorem shutTarget_answers {c k : Nat} (h : s.cfg.dampers = [⟨p, [r], c, k⟩]) : shutTarget r s =
    endCommand p .ok [BitVec.ofNat 64 c, BitVec.ofNat 64 k] { setDamper r dmShut s with cfg := { s.cfg with dampers := [] } } := by
  have hcfg : (setDamper r dmShut s).cfg = s.cfg := by rw [setDamper_rest]
  unfold shutTarget dampersDone
  dsimp only
  rw [hcfg, h]
  simp

theorem shutTarget_unasked (h : s.cfg.dampers = []) : shutTarget r s = { setDamper r dmShut s with cfg := { s.cfg with dampers := [] } } := by
  have hcfg : (setDamper r dmShut s).cfg = s.cfg := by rw [setDamper_rest]
  unfold shutTarget dampersDone
  dsimp only
  rw [hcfg, h]
  rfl

theorem drain_done {t : Fin 65} {c k : Nat} (hclosing : s.tdamper t = dmClosing) (hnone : s.outstandingOf t = 0)
    (hcmd : s.cfg.dampers = [⟨p, [t.val], c, k⟩]) :
    ∃ u, exec (.regionDrainDone t) s = .next (endCommand p .ok [BitVec.ofNat 64 c, BitVec.ofNat 64 k] u) ∧ u.tdamper t = dmShut ∧
      u.cfg.dampers = [] ∧ u.out = s.out ∧ u.mem = s.mem := by
  have hexec : exec (.regionDrainDone t) s = .next (shutTarget t s) := by
    rw [exec_regionDrainDone, execRegionDrainDone, if_pos ⟨hclosing, hnone⟩]
  refine ⟨_, hexec.trans (congrArg _ (shutTarget_answers hcmd)), setDamper_tdamper t.isLt (by decide) s, rfl, ?_, ?_⟩
  · rw [setDamper_rest]
  · rw [setDamper_rest]

/-- A port's books at the drain limit: everything inbound answered, everything outbound abandoned. -/
def abandoned (x : FabPort) : FabPort :=
  { x with
    calls := [], reqs := [], outs := [], reserved := x.reserved ++ x.outs
    forcedCalls := x.forcedCalls ++ x.calls.map (·.2), forcedReqs := x.forcedReqs ++ x.reqs }

/-- The state in which a port that owes one call has been forced. -/
def callForced (q src tag : Nat) (s : State) : State :=
  ((s.modFab q abandoned).addFld NOC_COUNTS_FENCED 1).emit (.result src (160 + q) tag .fenced 0)

theorem forcePort_call {q src tag : Nat} (hcalls : (s.fab q).calls = [(src, tag)]) (hreqs : (s.fab q).reqs = []) :
    forcePort s q = callForced q src tag s := by
  unfold forcePort FabPort.inbound
  dsimp only
  rw [hcalls, hreqs]
  rfl

theorem callForced_fab (q src tag : Nat) (s : State) : (callForced q src tag s).fab q = abandoned (s.fab q) := fab_modFab_same s q abandoned

theorem callForced_out (q src tag : Nat) (s : State) : (callForced q src tag s).out = .result src (160 + q) tag .fenced 0 :: s.out :=
  congrArg (List.cons _) (modFab_out s q abandoned)

theorem callForced_mem (q src tag : Nat) (s : State) : (callForced q src tag s).mem = s.mem := modFab_mem s q abandoned

theorem callForced_dampers (q src tag : Nat) (s : State) : (callForced q src tag s).cfg.dampers = s.cfg.dampers := by
  have hcfg : (s.modFab q abandoned).cfg.dampers = s.cfg.dampers := by rw [modFab_rest]
  exact hcfg

theorem callForced_fenced (q src tag : Nat) (hq : q < 64) (s : State) :
    (callForced q src tag s).fld NOC_COUNTS_FENCED = (s.fld NOC_COUNTS_FENCED + 1) % 2 ^ NOC_COUNTS_FENCED.w := by
  have hport : (s.modFab q abandoned).fld NOC_COUNTS_FENCED = s.fld NOC_COUNTS_FENCED := by
    refine fld_congr NOC_COUNTS_FENCED 0 0 0 (modFab_regsKeep s q abandoned _ ?_)
    simp only [targetKeys, targetOfPort, portsOf, Nat.min_eq_left (Nat.le_of_lt hq), if_pos hq, Field.key, CFG_RGNr_STATUS_IN_OUT, NOC_EPe_STATUS_OUTSTANDING,
      NOC_COUNTS_FENCED, List.map_cons, List.map_nil, List.mem_cons, List.not_mem_nil, or_false]
    omega
  rw [← hport]
  exact fld_addFld _ NOC_COUNTS_FENCED 1 0 0 0

theorem drain_limit {t : Fin 64} {x : FabPort} {src tag own : Nat} (hclosing : s.tdamper t = dmClosing) (hx : s.fab t = x)
    (hcalls : x.calls = [(src, tag)]) (hreqs : x.reqs = []) (houts : x.outs = [own]) (hcmd : s.cfg.dampers = []) :
    ∃ u, exec (.drainLimitExpire (t.castLE (by decide))) s = .next u ∧ u.tdamper t = dmShut ∧
      u.out = .result src (160 + t) tag .fenced 0 :: s.out ∧ (u.fab t).calls = [] ∧ (u.fab t).outs = [] ∧
      (u.fab t).reserved = x.reserved ++ [own] ∧ (u.fab t).forcedCalls = x.forcedCalls ++ [tag] ∧
      u.fld NOC_COUNTS_FENCED = (s.fld NOC_COUNTS_FENCED + 1) % 2 ^ NOC_COUNTS_FENCED.w ∧ u.mem = s.mem := by
  subst hx
  have hport : portsOf t = [t.val] := if_pos t.isLt
  have hexec : exec (.drainLimitExpire (t.castLE (by decide))) s = .next (shutTarget t (callForced t src tag s)) := by
    rw [exec_drainLimitExpire, execDrainLimitExpire]
    refine (if_pos (by exact hclosing)).trans (congrArg (fun v => Host.Outcome.next (shutTarget t v)) ?_)
    exact (congrArg (fun l : List Nat => l.foldl forcePort s) hport).trans (forcePort_call hcalls hreqs)
  rw [shutTarget_unasked ((callForced_dampers t src tag s).trans hcmd)] at hexec
  have hrest := setDamper_rest t dmShut (callForced t src tag s)
  have hfab : ({ setDamper t dmShut (callForced t src tag s) with cfg := { (callForced t src tag s).cfg with dampers := [] } } : State).fab t =
      abandoned (s.fab t) := (fab_congr (by rfl) t).trans (callForced_fab t src tag s)
  refine ⟨_, hexec, setDamper_tdamper (by omega) (by decide) _, ?_, ?_, ?_, ?_, ?_, ?_, ?_⟩
  · rw [hrest, ← callForced_out]
  · rw [hfab, abandoned]
  · rw [hfab, abandoned]
  · rw [hfab, abandoned, ← houts]
  · rw [hfab, abandoned, hcalls]
    rfl
  · rw [← callForced_fenced t src tag t.isLt]
    refine fld_congr NOC_COUNTS_FENCED 0 0 0 ((setDamper_onlyRegs t dmShut _).2 _ ?_)
    rw [hport]
    simp only [Field.key, CFG_RGNr_STATUS_DAMPER, NOC_EPe_STATUS_DAMPER, NOC_COUNTS_FENCED, List.map_cons, List.map_nil, List.mem_cons, List.not_mem_nil, or_false]
    omega
  · rw [hrest, ← callForced_mem t src tag s]

/-! ### SWP_SOURCE (R426) -/

theorem endRegistration_keeps_fld (t : Nat) (s : State) : (endRegistration t s).cfg.copies = s.cfg.copies.filter (fun c => decide (c.1 ≠ t)) := by
  rw [endRegistration_rest]

theorem copy_registered {a : Nat} (ht : r < 64) : copyOf (registerCopy a s r) r = some a ∧
    (registerCopy a s r).fld CFG_RGNr_STATUS_SOURCE r = 1 ∧ (registerCopy a s r).fbit SWP_SIG_SRC_REGIONS r = true ∧
    (registerCopy a s r).out = s.out ∧ (registerCopy a s r).mem = s.mem := by
  have hreg : registerCopy a s r = (({ endRegistration r s with
      cfg := { (endRegistration r s).cfg with copies := (endRegistration r s).cfg.copies ++ [(r, a)] } } : State).setFld CFG_RGNr_STATUS_SOURCE 1 r).setFbit
        SWP_SIG_SRC_REGIONS r true := if_pos ht
  have hkey : CFG_RGNr_STATUS_SOURCE.key r 0 0 ≠ SWP_SIG_SRC_REGIONS.key 0 0 0 := by
    simp only [Field.key, CFG_RGNr_STATUS_SOURCE, SWP_SIG_SRC_REGIONS]
    omega
  rw [hreg]
  refine ⟨?_, ?_, fbit_setFbit_same _ true 0 0 0 (by decide) ht, ?_, ?_⟩
  · have hcopies : (endRegistration r s).cfg.copies.find? (fun c => decide (c.1 = r)) = none := by
      rw [endRegistration_keeps_fld, List.find?_eq_none]
      intro c hc
      simpa using (List.mem_filter.mp hc).2
    have hfind : ((endRegistration r s).cfg.copies ++ [(r, a)]).find? (fun c => decide (c.1 = r)) = some (r, a) := by
      rw [List.find?_append, hcopies]
      simp
    exact congrArg (Option.map (·.2)) hfind
  · exact (fld_setReg_other _ CFG_RGNr_STATUS_SOURCE _ _ r 0 0 hkey).trans (fld_setFld_fits _ CFG_RGNr_STATUS_SOURCE r 0 0 (by decide))
  · rw [State.setFbit, endRegistration_rest]
    rfl
  · rw [State.setFbit, endRegistration_rest]
    rfl

theorem source_registered {copy : List Word} {k : Kept} (hacc : s.accepts 0x0109 2 .owner p) (hbank : s.banked = false)
    (hload : s.cfg.load = none) (hbit : bit (p.w 2) 0 = false) (hforeign : headerForeign copy = false) (hformed : headerFormed (copy.take 16) = true)
    (hkept : s.cfg.kept = [(r, k)]) (hdigest : k.digest = copyDigest copy) (ht : r < 64) :
    ∃ u, exec (.swpSource p .ok copy) s = .next (endCommand p .ok [1, 0] u) ∧
      copyOf u r = some (bits (p.w 1) 0 38) ∧ u.fld CFG_RGNr_STATUS_SOURCE r = 1 ∧ u.fbit SWP_SIG_SRC_REGIONS r = true ∧
      u.out = s.out ∧ u.mem = s.mem := by
  have htargets : ((beginCommand p s).cfg.kept.filter (fun k => decide (k.2.digest = copyDigest copy))).map (·.1) = [r] := by
    rw [beginCommand_cfg, hkept]
    simp [hdigest]
  have hregion : ([r].filter (fun t => decide (t < 64))).length = 1 := by simp [ht]
  have hstatic : ([r] : List Nat).contains 64 = false := by
    simp
    omega
  have hexec : exec (.swpSource p .ok copy) s = .next (endCommand p .ok [1, 0] (registerCopy (bits (p.w 1) 0 38) (beginCommand p s) r)) := by
    rw [exec_swpSource, execSwpSource, runCommand_passes hacc]
    dsimp only
    rw [banked_beginCommand, hbank, if_neg (by decide), beginCommand_cfg, hload, if_neg (by decide), hbit, if_neg (by decide), if_neg (by simp),
      hforeign, hformed, if_neg (by decide), ← beginCommand_cfg p s, htargets, if_neg (by simp), hregion, hstatic]
    rfl
  obtain ⟨hcopy, hsource, hregions, hout, hmem⟩ := copy_registered (s := beginCommand p s) (a := bits (p.w 1) 0 38) ht
  exact ⟨_, hexec, hcopy, hsource, hregions, hout.trans (beginCommand_out p s), hmem.trans (beginCommand_mem p s)⟩

/-! ### The sweep (R418 to R422) -/

/-- What a raise changes of the registers lies below 0x210000 or in the interrupt vectors of the host interface. -/
theorem fld_raise_between {src : Nat} {r : SourceRange} (hr : sourceRange src = some r) (hn : r.notify = false) (hs : src < 0x1000)
    (info : Nat) (s : State) (F : Field) (i : Nat) (hlo : 0x210000 ≤ F.key i 0 0) (hhi : F.key i 0 0 < 0x1820000) :
    (raise src info s).fld F i = s.fld F i := by
  obtain ⟨-, hkeep⟩ := raiseFrom_onlySends hr hn hs none info s
  simp only [Field.key] at hlo hhi
  refine (fld_congr F i 0 0 (hkeep _ ?_)).trans (fld_congr F i 0 0 (raiseMark_regsKeep none src info s _ ?_))
  · simp only [routeKeys, vectorKeys, pbaKey, Field.key, FLT_VECf_RAISED_RAISED, List.mem_append, List.mem_cons, List.not_mem_nil, or_false]
    omega
  · simp only [raiseKeys, Field.key, FLT_SRCs_COUNT, FLT_COUNT_RAISED, List.mem_cons, List.not_mem_nil, or_false]
    omega

/-- A word that decodes clean and carries no mark is read as it is, and nothing is filed to be mended. -/
theorem clean_word {w : PWord} (hclean : w.decode = .clean w.data) (hmark : w.isPoisoned = false) :
    w.isBad = false ∧ w.value = w.data ∧ w.isMended = false := by
  refine ⟨?_, ?_, ?_⟩
  · unfold PWord.isBad
    rw [hclean, hmark]
    rfl
  · unfold PWord.value PWord.value?
    rw [hclean, hmark]
    rfl
  · unfold PWord.isMended
    rw [hclean, hmark]
    rfl

/-- The state in which the sweep compares its frame. -/
def sweepReady (s : State) : State := s.setFld SWP_SIG_STATUS_WAITING 0

theorem sweep_compares (hen : s.on SWP_SIG_CTL_EN = true) (hrepair : s.cfg.repair = none) (hgate : s.gateOpen 7 = true) (hload : s.cfg.load = none)
    (hn : n = s.cfg.sweepNext) (hstate : s.tstate (sweptTarget n) ≠ stLoading) :
    exec .sigSweepFrame s = .next (compareFrame n (sweepReady s)) := by
  have hfull : s.fullLoading = false := by
    unfold State.fullLoading
    rw [hload]
    rfl
  have hport : s.portTaken = false := by
    unfold State.portTaken
    rw [hload]
    rfl
  have hkey : CFG_RGNr_STATUS_STATE.key (sweptTarget n) 0 0 ≠ SWP_SIG_STATUS_WAITING.key 0 0 0 := by
    have hlt : sweptTarget n ≤ 64 := by
      unfold sweptTarget addrTarget
      split <;> omega
    simp only [Field.key, CFG_RGNr_STATUS_STATE, SWP_SIG_STATUS_WAITING]
    omega
  have hstate' : ¬ (sweepReady s).tstate (sweptTarget n) = stLoading := by
    rwa [show (sweepReady s).tstate (sweptTarget n) = s.tstate (sweptTarget n) from
      fld_setFld_elsewhere s SWP_SIG_STATUS_WAITING CFG_RGNr_STATUS_STATE 0 hkey]
  have hrun : ¬ (¬ s.on SWP_SIG_CTL_EN = true ∨ s.cfg.repair.isSome = true ∨ ¬ s.gateOpen 7 = true ∨ s.fullLoading = true) := by
    simp [hen, hrepair, hgate, hfull]
  subst hn
  rw [exec_sigSweepFrame, execSigSweepFrame, if_neg hrun, hport, if_neg (by decide)]
  exact if_neg hstate'

/-- A frame whose entry decodes clean: the sweep goes on with the next one, or finds a mismatch. -/
theorem compareFrame_clean (hclean : (s.pword (sigKey (n / 2))).decode = .clean (s.pword (sigKey (n / 2))).data)
    (hmark : (s.pword (sigKey (n / 2))).isPoisoned = false) : compareFrame n s =
      if (frameCrc (sweptAddr n) (Memory.get (fun _ => clearedFrame) s.cfg.frames (sweptAddr n))).toNat = entryOf (s.pword (sigKey (n / 2))).data n
      then nextSwept s else sigMismatch (sweptAddr n) s := by
  obtain ⟨hgood, hvalue, hmended⟩ := clean_word hclean hmark
  have hnote : s.noteMend (sigKey (n / 2)) = s := by
    unfold State.noteMend
    rw [hmended, if_neg (by decide)]
  unfold compareFrame
  dsimp only
  rw [hgood, if_neg (by decide), hnote, hvalue]

theorem nextSwept_goes_on (h : s.cfg.sweepNext + 1 < sweptFrames) : nextSwept s =
    { s.setFld SWP_SIG_STATUS_POSITION (sweptAddr (s.cfg.sweepNext + 1)) with cfg := { s.cfg with sweepNext := s.cfg.sweepNext + 1 } } := if_pos h

theorem frame_matches (hen : s.on SWP_SIG_CTL_EN = true) (hrepair : s.cfg.repair = none) (hgate : s.gateOpen 7 = true) (hload : s.cfg.load = none)
    (hn : n = s.cfg.sweepNext) (hlt : n + 1 < sweptFrames) (hstate : s.tstate (sweptTarget n) ≠ stLoading)
    (hclean : (s.pword (sigKey (n / 2))).decode = .clean (s.pword (sigKey (n / 2))).data) (hmark : (s.pword (sigKey (n / 2))).isPoisoned = false)
    (hcrc : (frameCrc (sweptAddr n) (Memory.get (fun _ => clearedFrame) s.cfg.frames (sweptAddr n))).toNat = entryOf (s.pword (sigKey (n / 2))).data n) :
    ∃ u, exec .sigSweepFrame s = .next u ∧ u.cfg = { s.cfg with sweepNext := n + 1 } ∧ u.out = s.out ∧ u.mem = s.mem ∧
      regsKeep [SWP_SIG_STATUS_POSITION.off] s u := by
  have hcompare : compareFrame n (sweepReady s) = nextSwept (sweepReady s) := (compareFrame_clean (s := sweepReady s) hclean hmark).trans (if_pos hcrc)
  have hnext := nextSwept_goes_on (s := sweepReady s) (hn ▸ hlt)
  refine ⟨_, (sweep_compares hen hrepair hgate hload hn hstate).trans (congrArg _ (hcompare.trans hnext)), by rw [hn]; rfl, rfl, rfl, ?_⟩
  exact (onlyRegs_after_setFld SWP_SIG_STATUS_POSITION (sweptAddr (s.cfg.sweepNext + 1)) 0 0 0 (onlyRegs_setFld s SWP_SIG_STATUS_WAITING 0 0 0 0) (.head _)).2

/-- The state in which a mismatch raises its fault. -/
def mismatchNoted (s : State) : State :=
  let s := s.addFld SWP_SIG_COUNT_MISMATCH 1
  s.setFld SWP_SIG_LAST_TICK_TICK s.tickCount.toNat

/-- The state after the raise, in which the failure is counted. -/
def noSourceCounted (addr : Nat) (s : State) : State :=
  (recordSig addr 1 (raise 0x381 addr (mismatchNoted s))).addFld SWP_SIG_FAIL_NO_SOURCE 1

theorem mismatchNoted_onlyRegs (s : State) : onlyRegs [SWP_SIG_COUNT_MISMATCH.off, SWP_SIG_LAST_TICK_TICK.off] s (mismatchNoted s) :=
  onlyRegs_after_setFld SWP_SIG_LAST_TICK_TICK _ 0 0 0 (onlyRegs_mono (by simp [Field.key]) (onlyRegs_addFld s SWP_SIG_COUNT_MISMATCH 1 0 0 0)) (.tail _ (.head _))

theorem signatureSource : sourceRange 0x381 = some ⟨0x380, 0x381, 1, false, false⟩ := by decide

theorem noSourceCounted_rest (addr : Nat) (s : State) : noSourceCounted addr s =
    { s with regs := (noSourceCounted addr s).regs, out := (noSourceCounted addr s).out, flt := (raise 0x381 addr (mismatchNoted s)).flt } := by
  have hraise := raise_keeps signatureSource rfl (by decide) addr (mismatchNoted s)
  unfold noSourceCounted recordSig
  rw [hraise, (mismatchNoted_onlyRegs s).1]
  rfl

/-- A field of the configuration's and the sweep's registers after the raise. -/
theorem fld_raise_signature (addr : Nat) (s : State) (F : Field) (i : Nat) (hlo : 0x210000 ≤ F.key i 0 0) (hhi : F.key i 0 0 < 0x1820000) :
    (raise 0x381 addr s).fld F i = s.fld F i := fld_raise_between signatureSource rfl (by decide) addr s F i hlo hhi

theorem mismatchNoted_mismatch (s : State) :
    (mismatchNoted s).fld SWP_SIG_COUNT_MISMATCH = (s.fld SWP_SIG_COUNT_MISMATCH + 1) % 2 ^ SWP_SIG_COUNT_MISMATCH.w :=
  (fld_setFld_elsewhere _ SWP_SIG_LAST_TICK_TICK SWP_SIG_COUNT_MISMATCH _ (by decide)).trans (fld_addFld s SWP_SIG_COUNT_MISMATCH 1 0 0 0)

theorem noSourceCounted_mismatch (addr : Nat) (s : State) : (noSourceCounted addr s).fld SWP_SIG_COUNT_MISMATCH =
    (s.fld SWP_SIG_COUNT_MISMATCH + 1) % 2 ^ SWP_SIG_COUNT_MISMATCH.w := by
  unfold noSourceCounted recordSig
  rw [fld_addFld_elsewhere _ SWP_SIG_FAIL_NO_SOURCE SWP_SIG_COUNT_MISMATCH 1 (by decide), fld_setReg_other _ SWP_SIG_COUNT_MISMATCH _ _ 0 0 0 (by decide),
    fld_raise_signature addr _ SWP_SIG_COUNT_MISMATCH 0 (by decide) (by decide), mismatchNoted_mismatch]

theorem noSourceCounted_failed (addr : Nat) (s : State) : (noSourceCounted addr s).fld SWP_SIG_FAIL_NO_SOURCE =
    (s.fld SWP_SIG_FAIL_NO_SOURCE + 1) % 2 ^ SWP_SIG_FAIL_NO_SOURCE.w := by
  unfold noSourceCounted recordSig
  rw [fld_addFld _ SWP_SIG_FAIL_NO_SOURCE 1 0 0 0, fld_setReg_other _ SWP_SIG_FAIL_NO_SOURCE _ _ 0 0 0 (by decide),
    fld_raise_signature addr _ SWP_SIG_FAIL_NO_SOURCE 0 (by decide) (by decide),
    fld_congr SWP_SIG_FAIL_NO_SOURCE 0 0 0 ((mismatchNoted_onlyRegs s).2 _ (by decide))]

theorem noSourceCounted_contain (addr : Nat) {r : Nat} (hr : r < 65) (s : State) :
    (noSourceCounted addr s).on CFG_RGNr_CTL_CONTAIN r = s.on CFG_RGNr_CTL_CONTAIN r := by
  have hkey : 0x501000 ≤ CFG_RGNr_CTL_CONTAIN.key r 0 0 ∧ CFG_RGNr_CTL_CONTAIN.key r 0 0 < 0x504000 := by
    simp only [Field.key, CFG_RGNr_CTL_CONTAIN]
    omega
  have hfield : (noSourceCounted addr s).fld CFG_RGNr_CTL_CONTAIN r = s.fld CFG_RGNr_CTL_CONTAIN r := by
    unfold noSourceCounted recordSig
    rw [fld_addFld_elsewhere _ SWP_SIG_FAIL_NO_SOURCE CFG_RGNr_CTL_CONTAIN 1 (Nat.ne_of_lt (Nat.lt_trans hkey.2 (by decide))),
      fld_setReg_other _ CFG_RGNr_CTL_CONTAIN _ _ r 0 0 (Nat.ne_of_lt (Nat.lt_trans hkey.2 (by decide))),
      fld_raise_signature addr _ CFG_RGNr_CTL_CONTAIN r (by omega) (by omega)]
    refine fld_congr CFG_RGNr_CTL_CONTAIN r 0 0 ((mismatchNoted_onlyRegs s).2 _ ?_)
    simp only [SWP_SIG_COUNT_MISMATCH, SWP_SIG_LAST_TICK_TICK, List.mem_cons, List.not_mem_nil, or_false]
    omega
  unfold State.on
  rw [hfield]

/-- A mismatch of a target without a registered copy, and without CONTAIN, is counted and the sweep goes on. -/
theorem sigMismatch_unsourced (hcopies : s.cfg.copies = []) (hcontain : s.on CFG_RGNr_CTL_CONTAIN (addrTarget addr) = false) :
    sigMismatch addr s = nextSwept (noSourceCounted addr s) := by
  have ht : addrTarget addr < 65 := by
    unfold addrTarget
    split <;> omega
  have hcopy : copyOf (raise 0x381 addr (mismatchNoted s)) (addrTarget addr) = none := by
    have hcfg : (raise 0x381 addr (mismatchNoted s)).cfg.copies = [] := by
      rw [raise_keeps signatureSource rfl (by decide), (mismatchNoted_onlyRegs s).1, hcopies]
    unfold copyOf
    rw [hcfg]
    rfl
  have hfailed : sigFailed addr 1 SWP_SIG_FAIL_NO_SOURCE (raise 0x381 addr (mismatchNoted s)) = noSourceCounted addr s := by
    refine if_neg fun h => ?_
    have hon := h.2
    rw [show (((recordSig addr 1 (raise 0x381 addr (mismatchNoted s))).addFld SWP_SIG_FAIL_NO_SOURCE 1).on CFG_RGNr_CTL_CONTAIN (addrTarget addr)) =
      s.on CFG_RGNr_CTL_CONTAIN (addrTarget addr) from noSourceCounted_contain addr ht s, hcontain] at hon
    exact absurd hon (by decide)
  rw [← hfailed]
  unfold mismatchNoted at hcopy ⊢
  unfold sigMismatch
  dsimp only at hcopy ⊢
  rw [hcopy]

theorem fld_withCfg (s : State) (c : CfgState) (F : Field) (i : Nat) : ({ s with cfg := c } : State).fld F i = s.fld F i := rfl

/-- The state in which the lap that ends has been recorded. -/
def lapCounted (s : State) : State :=
  (s.setFld SWP_SIG_LAP_LAST_US ((s.fld DEVICE_TIME_TIME - s.cfg.lapStart) / 9600)).addFld SWP_SIG_LAP_LAPS 1

theorem nextSwept_laps (h : ¬ s.cfg.sweepNext + 1 < sweptFrames) : nextSwept s =
    { (lapCounted s).setFld SWP_SIG_STATUS_POSITION (sweptAddr 0) with
      cfg := { (lapCounted s).cfg with sweepNext := 0, lapStart := s.fld DEVICE_TIME_TIME } } := if_neg h

theorem lapCounted_onlyRegs (s : State) : onlyRegs [SWP_SIG_LAP_LAST_US.off] s (lapCounted s) :=
  onlyRegs_after_setFld SWP_SIG_LAP_LAPS _ 0 0 0 (onlyRegs_mono (by simp [Field.key]) (onlyRegs_setFld s SWP_SIG_LAP_LAST_US _ 0 0 0)) (.head _)

/-- The sweep's step changes its position and, at the end of a lap, the lap's record; the configuration keeps its frames. -/
theorem nextSwept_keeps (s : State) : (nextSwept s).cfg.frames = s.cfg.frames ∧ (nextSwept s).cfg.repair = s.cfg.repair ∧
    (nextSwept s).fld SWP_SIG_STATUS_REPAIRING = s.fld SWP_SIG_STATUS_REPAIRING ∧
    (nextSwept s).fld SWP_SIG_COUNT_REPAIRED = s.fld SWP_SIG_COUNT_REPAIRED ∧ (nextSwept s).out = s.out ∧ (nextSwept s).mem = s.mem ∧
    (nextSwept s).flt = s.flt := by
  by_cases h : s.cfg.sweepNext + 1 < sweptFrames
  · rw [nextSwept_goes_on h]
    exact ⟨rfl, rfl, (fld_withCfg _ _ SWP_SIG_STATUS_REPAIRING 0).trans (fld_setFld_beside _ SWP_SIG_STATUS_POSITION SWP_SIG_STATUS_REPAIRING _),
      (fld_withCfg _ _ SWP_SIG_COUNT_REPAIRED 0).trans (fld_setFld_elsewhere _ SWP_SIG_STATUS_POSITION SWP_SIG_COUNT_REPAIRED _ (by decide)), rfl, rfl, rfl⟩
  · obtain ⟨hrest, hkeep⟩ := lapCounted_onlyRegs s
    have hrepairing := fld_congr SWP_SIG_STATUS_REPAIRING 0 0 0 (hkeep _ (by decide))
    have hrepaired := fld_congr SWP_SIG_COUNT_REPAIRED 0 0 0 (hkeep _ (by decide))
    rw [nextSwept_laps h]
    generalize lapCounted s = w at hrest hrepairing hrepaired
    have hcfg : w.cfg = s.cfg := by rw [hrest]
    exact ⟨(congrArg CfgState.frames hcfg : _), (congrArg CfgState.repair hcfg : _),
      (fld_withCfg _ _ SWP_SIG_STATUS_REPAIRING 0).trans ((fld_setFld_beside w SWP_SIG_STATUS_POSITION SWP_SIG_STATUS_REPAIRING _).trans hrepairing),
      (fld_withCfg _ _ SWP_SIG_COUNT_REPAIRED 0).trans ((fld_setFld_elsewhere w SWP_SIG_STATUS_POSITION SWP_SIG_COUNT_REPAIRED _ (by decide)).trans hrepaired),
      by rw [hrest]; rfl, by rw [hrest]; rfl, by rw [hrest]; rfl⟩

theorem sweepReady_contain (hr : r < 65) : (sweepReady s).on CFG_RGNr_CTL_CONTAIN r = s.on CFG_RGNr_CTL_CONTAIN r := by
  have hkey : CFG_RGNr_CTL_CONTAIN.key r 0 0 ≠ SWP_SIG_STATUS_WAITING.key 0 0 0 := by
    simp only [Field.key, CFG_RGNr_CTL_CONTAIN, SWP_SIG_STATUS_WAITING]
    omega
  unfold State.on sweepReady
  rw [fld_setFld_elsewhere s SWP_SIG_STATUS_WAITING CFG_RGNr_CTL_CONTAIN 0 hkey]

theorem frame_differs (hen : s.on SWP_SIG_CTL_EN = true) (hrepair : s.cfg.repair = none) (hgate : s.gateOpen 7 = true) (hload : s.cfg.load = none)
    (hn : n = s.cfg.sweepNext) (hlt : n + 1 < sweptFrames) (hstate : s.tstate (sweptTarget n) ≠ stLoading)
    (hclean : (s.pword (sigKey (n / 2))).decode = .clean (s.pword (sigKey (n / 2))).data) (hmark : (s.pword (sigKey (n / 2))).isPoisoned = false)
    (hcrc : (frameCrc (sweptAddr n) (Memory.get (fun _ => clearedFrame) s.cfg.frames (sweptAddr n))).toNat ≠ entryOf (s.pword (sigKey (n / 2))).data n)
    (hcopies : s.cfg.copies = []) (hcontain : s.on CFG_RGNr_CTL_CONTAIN (sweptTarget n) = false) :
    ∃ u v, exec .sigSweepFrame s = .next v ∧ v.cfg.sweepNext = n + 1 ∧
      v.fld SWP_SIG_COUNT_MISMATCH = (s.fld SWP_SIG_COUNT_MISMATCH + 1) % 2 ^ SWP_SIG_COUNT_MISMATCH.w ∧
      v.flt = (raise 0x381 (sweptAddr n) u).flt ∧ u.flt = s.flt ∧
      regsKeep [SWP_SIG_STATUS_POSITION.off, SWP_SIG_COUNT_MISMATCH.off, SWP_SIG_LAST_TICK_TICK.off] s u ∧
      v.fld SWP_SIG_FAIL_NO_SOURCE = (s.fld SWP_SIG_FAIL_NO_SOURCE + 1) % 2 ^ SWP_SIG_FAIL_NO_SOURCE.w ∧ v.mem = s.mem := by
  have hlt64 : addrTarget (sweptAddr n) < 65 := by
    unfold addrTarget
    split <;> omega
  have hcontain' : (sweepReady s).on CFG_RGNr_CTL_CONTAIN (addrTarget (sweptAddr n)) = false := by
    rw [sweepReady_contain hlt64]
    exact hcontain
  have hcompare : compareFrame n (sweepReady s) = nextSwept (noSourceCounted (sweptAddr n) (sweepReady s)) :=
    (compareFrame_clean (s := sweepReady s) hclean hmark).trans ((if_neg hcrc).trans (sigMismatch_unsourced (s := sweepReady s) hcopies hcontain'))
  have hrest := noSourceCounted_rest (sweptAddr n) (sweepReady s)
  have hcount : (noSourceCounted (sweptAddr n) (sweepReady s)).cfg = s.cfg := by
    rw [hrest]
    rfl
  have hnext := nextSwept_goes_on (s := noSourceCounted (sweptAddr n) (sweepReady s)) (by rw [hcount, ← hn]; exact hlt)
  have hmismatch := noSourceCounted_mismatch (sweptAddr n) (sweepReady s)
  have hfailed := noSourceCounted_failed (sweptAddr n) (sweepReady s)
  have hready (F : Field) (h : F.key 0 0 0 ≠ SWP_SIG_STATUS_WAITING.key 0 0 0) : (sweepReady s).fld F = s.fld F :=
    fld_setFld_elsewhere s SWP_SIG_STATUS_WAITING F 0 h
  rw [hready SWP_SIG_COUNT_MISMATCH (by decide)] at hmismatch
  rw [hready SWP_SIG_FAIL_NO_SOURCE (by decide)] at hfailed
  obtain ⟨-, -, -, -, -, hmem, hflt⟩ := nextSwept_keeps (noSourceCounted (sweptAddr n) (sweepReady s))
  rw [hnext] at hmem hflt
  generalize noSourceCounted (sweptAddr n) (sweepReady s) = w at hmem hflt hrest hcount hnext hmismatch hfailed hcompare
  refine ⟨mismatchNoted (sweepReady s), _, (sweep_compares hen hrepair hgate hload hn hstate).trans (congrArg _ (hcompare.trans hnext)), ?_, ?_, ?_, ?_, ?_, ?_, ?_⟩
  · rw [hcount, hn]
  · exact (fld_withCfg _ _ SWP_SIG_COUNT_MISMATCH 0).trans ((fld_setFld_elsewhere w SWP_SIG_STATUS_POSITION SWP_SIG_COUNT_MISMATCH _ (by decide)).trans hmismatch)
  · exact hflt.trans (congrArg State.flt hrest : _)
  · rw [(mismatchNoted_onlyRegs _).1]
    rfl
  · exact regsKeep_trans (regsKeep_mono (by simp [Field.key, SWP_SIG_STATUS_WAITING, SWP_SIG_STATUS_POSITION]) (regsKeep_setFld s SWP_SIG_STATUS_WAITING 0 0 0 0))
      (regsKeep_mono (by simp) (mismatchNoted_onlyRegs _).2)
  · exact (fld_withCfg _ _ SWP_SIG_FAIL_NO_SOURCE 0).trans ((fld_setFld_elsewhere w SWP_SIG_STATUS_POSITION SWP_SIG_FAIL_NO_SOURCE _ (by decide)).trans hfailed)
  · exact hmem.trans (congrArg State.mem hrest : _)

/-! ### A repair (R422 to R424) -/

/-- The state in which the repaired frame has been written and counted. -/
def frameRepaired (addr : Nat) (readback : List Word) (s : State) : State :=
  (recordSig addr 0 { s with cfg := { s.cfg with frames := Memory.set (fun _ => clearedFrame) s.cfg.frames addr readback } }).addFld SWP_SIG_COUNT_REPAIRED 1

theorem repairFrame_mends {cw readback : List Word} (hloc : bits (cw.getD 0 0) 0 32 = addr)
    (hwant : bits (cw.getD 65 0) 0 32 = entryOf (s.pword (sigKey (n / 2))).value n) (hstate : s.tstate (addrTarget addr) = stLoaded)
    (hload : s.cfg.load = none) (hcrc : (frameCrc addr readback).toNat = entryOf (s.pword (sigKey (n / 2))).value n) :
    repairFrame addr n cw readback s = frameRepaired addr readback s := by
  have hnames : loadNames s (addrTarget addr) = false := by
    unfold loadNames
    rw [hload]
    rfl
  unfold repairFrame
  dsimp only
  rw [if_neg (by rw [hloc, hwant]; simp), if_neg (by simp [hstate, hnames]), if_pos hcrc]
  rfl

theorem frame_repaired {header ws cw readback : List Word} (hrepair : s.cfg.repair = some addr) (hnumber : sweptNumber addr = some n)
    (hcw : cw = repairRecord addr header ws s) (hloc : bits (cw.getD 0 0) 0 32 = addr)
    (hwant : bits (cw.getD 65 0) 0 32 = entryOf (s.pword (sigKey (n / 2))).value n) (hstate : s.tstate (addrTarget addr) = stLoaded)
    (hload : s.cfg.load = none) (hcrc : (frameCrc addr readback).toNat = entryOf (s.pword (sigKey (n / 2))).value n) :
    ∃ u, exec (.repairReadResponse .ok header ws readback) s = .next u ∧
      Memory.get (fun _ => clearedFrame) u.cfg.frames addr = readback ∧ u.cfg.repair = none ∧ u.fld SWP_SIG_STATUS_REPAIRING = 0 ∧
      u.fld SWP_SIG_COUNT_REPAIRED = (s.fld SWP_SIG_COUNT_REPAIRED + 1) % 2 ^ SWP_SIG_COUNT_REPAIRED.w ∧ u.out = s.out ∧ u.mem = s.mem := by
  have hexec : exec (.repairReadResponse .ok header ws readback) s = .next (endRepair (frameRepaired addr readback s)) := by
    rw [exec_repairReadResponse, execRepairReadResponse, hrepair]
    dsimp only
    rw [hnumber]
    dsimp only
    rw [if_neg (by decide), ← hcw, repairFrame_mends hloc hwant hstate hload hcrc]
  obtain ⟨hframes, hnone, hdone, hcount, hout, hmem, -⟩ := nextSwept_keeps ({ (frameRepaired addr readback s).setFld SWP_SIG_STATUS_REPAIRING 0 with
      cfg := { (frameRepaired addr readback s).cfg with repair := none } } : State)
  refine ⟨_, hexec, ?_, hnone, hdone.trans (fld_setFld_fits _ SWP_SIG_STATUS_REPAIRING 0 0 0 (by decide)), hcount.trans ?_, hout, hmem⟩
  · exact (congrArg (fun l => Memory.get (fun _ => clearedFrame) l addr) hframes).trans (Memory.get_set_same addr readback s.cfg.frames)
  · refine (fld_setFld_elsewhere _ SWP_SIG_STATUS_REPAIRING SWP_SIG_COUNT_REPAIRED 0 (by decide)).trans ?_
    unfold frameRepaired recordSig
    rw [fld_addFld _ SWP_SIG_COUNT_REPAIRED 1 0 0 0, fld_setReg_other _ SWP_SIG_COUNT_REPAIRED _ _ 0 0 0 (by decide)]
    rfl

/-- Settles O38. -/
theorem regionsAndSignatures : Obligations.RegionsAndSignatures :=
  ⟨fun _ _ _ hacc hone hbank hload => region_cleared hacc hone hbank hload,
    fun _ _ _ hacc hone hbank hload hbit hstate hdamper hmode => damper_closes hacc hone hbank hload hbit hstate hdamper hmode,
    fun _ _ _ hacc hone hbank hload hbit hstate hdamper => damper_opens hacc hone hbank hload hbit hstate hdamper,
    fun _ _ _ _ _ hclosing hnone hcmd => drain_done hclosing hnone hcmd,
    fun _ _ _ _ _ _ hclosing hx hcalls hreqs houts hcmd => drain_limit hclosing hx hcalls hreqs houts hcmd,
    fun _ _ _ _ _ hacc hbank hload hbit hforeign hformed hkept hdigest ht =>
      source_registered hacc hbank hload hbit hforeign hformed hkept hdigest ht,
    fun _ _ hen hrepair hgate hload hn hlt hstate hclean hmark =>
      ⟨fun hcrc => frame_matches hen hrepair hgate hload hn hlt hstate hclean hmark hcrc,
        fun hcrc hcopies hcontain => frame_differs hen hrepair hgate hload hn hlt hstate hclean hmark hcrc hcopies hcontain⟩,
    fun _ _ _ _ _ _ _ hrepair hnumber hcw hloc hwant hstate hload hcrc => frame_repaired hrepair hnumber hcw hloc hwant hstate hload hcrc⟩

end Sys2Proof.Machine
end

section
-- One proof at a time: the memory limit of the check counts a stack for every proof that waits for another.
set_option Elab.async false
/-! SUPPORT. A DRAM controller: its state after a change, its status register, and a controller with nothing to issue (R493, R502 to
R513, R516, R517). -/

namespace Sys2Proof.Machine

variable {s t : State} {c : Nat} {d : Dram}

/-! ### A controller's state -/

@[simp] theorem drc_setFld (s : State) (F : Field) (v i j k c : Nat) : (s.setFld F v i j k).drc c = s.drc c := rfl
@[simp] theorem drc_addFld (s : State) (F : Field) (m i j k c : Nat) : (s.addFld F m i j k).drc c = s.drc c := rfl
@[simp] theorem drc_maxFld (s : State) (F : Field) (m i j k c : Nat) : (s.maxFld F m i j k).drc c = s.drc c := rfl
@[simp] theorem drc_emit (s : State) (o : Out) (c : Nat) : (s.emit o).drc c = s.drc c := rfl

theorem drc_congr (h : t.dram = s.dram) (c : Nat) : t.drc c = s.drc c := by
  unfold State.drc
  rw [h]

theorem onlyRegs_out {l : List Nat} (h : onlyRegs l s t) : t.out = s.out := by rw [h.1]
theorem onlyRegs_mem {l : List Nat} (h : onlyRegs l s t) : t.mem = s.mem := by rw [h.1]
theorem onlyRegs_tck {l : List Nat} (h : onlyRegs l s t) : t.tck = s.tck := by rw [h.1]
theorem onlyRegs_drc {l : List Nat} (h : onlyRegs l s t) (c : Nat) : t.drc c = s.drc c := drc_congr (by rw [h.1]) c

@[simp] theorem drc_beginCommand (p : Packet) (s : State) (c : Nat) : (beginCommand p s).drc c = s.drc c := drc_congr (beginCommand_dram p s) c

@[simp] theorem drc_setDrc_same (s : State) (c : Nat) (d : Dram) : (s.setDrc c d).drc c = d := Memory.get_set_same c d s.dram

theorem drc_setDrc_other (s : State) {c j : Nat} (d : Dram) (h : j ≠ c) : (s.setDrc c d).drc j = s.drc j := Memory.get_set_other d h s.dram

@[simp] theorem drc_modDrc_same (s : State) (c : Nat) (f : Dram → Dram) : (s.modDrc c f).drc c = f (s.drc c) := drc_setDrc_same s c _

theorem drc_modDrc_other (s : State) {c j : Nat} (f : Dram → Dram) (h : j ≠ c) : (s.modDrc c f).drc j = s.drc j := drc_setDrc_other s _ h

/-- A controller's queues are counted in its status register; nothing else follows its state. -/
theorem setDrc_rest (s : State) (c : Nat) (d : Dram) : s.setDrc c d =
    { s with dram := Memory.set (fun _ => Dram.reset) s.dram c d, regs := (s.setDrc c d).regs } := rfl

theorem setDrc_out (s : State) (c : Nat) (d : Dram) : (s.setDrc c d).out = s.out := rfl
theorem setDrc_mem (s : State) (c : Nat) (d : Dram) : (s.setDrc c d).mem = s.mem := rfl
theorem modDrc_out (s : State) (c : Nat) (f : Dram → Dram) : (s.modDrc c f).out = s.out := rfl
theorem modDrc_mem (s : State) (c : Nat) (f : Dram → Dram) : (s.modDrc c f).mem = s.mem := rfl

theorem setDrc_regsKeep (s : State) (c : Nat) (d : Dram) : regsKeep [drcKey c] s (s.setDrc c d) :=
  regsKeep_after_setFld DRC_STATUS_WR_Q _ c 0 0 (regsKeep_mono (by simp [drcKey, Field.key, DRC_STATUS_RD_Q, DRC_STATUS_STATE])
    (regsKeep_setFld { s with dram := Memory.set (fun _ => Dram.reset) s.dram c d } DRC_STATUS_RD_Q d.reads.length c 0 0)) (.head _)

/-- A field beside the queues' counts keeps its value. -/
theorem fld_setDrc (s : State) (c : Nat) (d : Dram) (F : Field) (i : Nat) (hr : F.lo + F.w ≤ 8 ∨ 23 ≤ F.lo := by decide) :
    (s.setDrc c d).fld F i = s.fld F i := by
  unfold State.setDrc
  rw [fld_setFld_beside _ DRC_STATUS_WR_Q F _ (by simp only [DRC_STATUS_WR_Q]; omega),
    fld_setFld_beside _ DRC_STATUS_RD_Q F _ (by simp only [DRC_STATUS_RD_Q]; omega)]
  rfl

theorem fld_setDrc_elsewhere (s : State) (c : Nat) (d : Dram) (F : Field) (i j k : Nat) (h : F.key i j k ≠ drcKey c) :
    (s.setDrc c d).fld F i j k = s.fld F i j k := fld_congr F i j k (setDrc_regsKeep s c d _ (by simpa using h))

theorem fld_modDrc (s : State) (c : Nat) (f : Dram → Dram) (F : Field) (i : Nat) (hr : F.lo + F.w ≤ 8 ∨ 23 ≤ F.lo := by decide) :
    (s.modDrc c f).fld F i = s.fld F i := fld_setDrc s c _ F i hr

/-! ### The registers of one controller -/

/-- Two registers of one controller at different offsets. -/
theorem controller_key_ne {F G : Field} (c : Nat) (h : F.off ≠ G.off := by decide) (hs : F.s1 = G.s1 := by rfl) : F.key c 0 0 ≠ G.key c 0 0 := by
  simp only [Field.key, hs]
  omega

/-- A controller's register is no register below the controllers'. -/
theorem controller_key_above {F : Field} (c : Nat) (hF : 0x1400000 ≤ F.off := by decide) {n : Nat} (hn : n < 0x1400000) : F.key c 0 0 ≠ n := by
  simp only [Field.key]
  omega

theorem endpoint_lt (c : Nat) : dramEndpoint c < 320 := by
  unfold dramEndpoint
  split <;> omega

/-- A controller's register is no register of its endpoint. -/
theorem controller_key_endpoint {F G : Field} (c : Nat) (hF : 0x1400000 ≤ F.off := by decide) (hG : G.off = 0x601000 := by rfl) (hs : G.s1 = 8 := by rfl) :
    F.key c 0 0 ≠ G.key (dramEndpoint c) 0 0 := by
  have h := endpoint_lt c
  simp only [Field.key, hG, hs]
  omega

theorem drc_lt (p : Packet) : drc p < 4 := bits_lt _ 0 2

/-- A controller's registers stand at the start of a command. -/
theorem fld_controller_beginCommand (p : Packet) (s : State) (F : Field) (hc : c < 4) (hlo : 0x1400000 ≤ F.off := by decide)
    (hhi : F.off < 0x1440000 := by decide) (hs : F.s1 = 0x40000 := by rfl) : (beginCommand p s).fld F c = s.fld F c := by
  refine fld_beginCommand p s F c 0 0 ?_ ?_ <;> simp only [Field.key, hs, slotSpan] <;> omega

theorem drState_beginCommand (p : Packet) (s : State) (hc : c < 4) : (beginCommand p s).drState c = s.drState c :=
  fld_controller_beginCommand p s DRC_STATUS_STATE hc

theorem damper_beginCommand (p : Packet) (s : State) (e : Nat) : (beginCommand p s).fld NOC_EPe_STATUS_DAMPER e = s.fld NOC_EPe_STATUS_DAMPER e :=
  fld_low_beginCommand p s NOC_EPe_STATUS_DAMPER e

/-! ### A controller with nothing to issue -/

/-- Nothing waits in the queues and no neighbour row is owed. -/
def quiet (d : Dram) : Prop := d.reads = [] ∧ d.writes = [] ∧ d.waiting = [] ∧ d.scrubs = [] ∧ d.flights = [] ∧ d.owed = []

theorem idle_quiet (h : d.idle) : quiet d := by
  obtain ⟨hreads, hwrites, hwaiting, hscrubs, hflights, -, howed, -⟩ := h
  exact ⟨hreads, hwrites, hwaiting, hscrubs, hflights, howed⟩

theorem dramAdmit_quiet (h : quiet (s.drc c)) (n : Nat) : dramAdmit c n s = s := by
  obtain ⟨-, -, hwaiting, hscrubs, -, -⟩ := h
  cases n with
  | zero => rfl
  | succ n =>
    have hscrub : admitScrub c s = s := by
      unfold admitScrub
      dsimp only
      rw [hscrubs]
    unfold dramAdmit
    dsimp only
    rw [hscrub, hwaiting]

theorem urgentRefresh_paid (h : s.fld DRC_STATUS_DEBT c ≤ 4) (n : Nat) : urgentRefresh c n s = s := by
  cases n with
  | zero => rfl
  | succ n => exact if_neg fun hn => by omega

theorem dramPick_quiet (h : quiet (s.drc c)) : dramPick c s = none := by
  obtain ⟨hreads, hwrites, -, -, -, -⟩ := h
  have hchoices (draining : Bool) : dramChoices draining (s.drc c) = [] := by
    unfold dramChoices
    rw [hreads, hwrites]
    cases draining <;> rfl
  unfold dramPick
  rw [hchoices]
  rfl

theorem dramIssue_quiet (h : quiet (s.drc c)) (hdebt : s.fld DRC_STATUS_DEBT c ≤ 4) (n : Nat) : dramIssue c n s = s := by
  cases n with
  | zero => rfl
  | succ n =>
    have hpay : payNeighbours c (s.drc c).owed s = s := by
      obtain ⟨-, -, -, -, -, howed⟩ := h
      rw [howed]
      rfl
    unfold dramIssue
    dsimp only
    rw [dramAdmit_quiet h, urgentRefresh_paid hdebt, hpay, dramPick_quiet h]

theorem dramRun_idle (h : quiet (s.drc c)) (hstop : (s.drc c).stopping = none) (hdebt : s.fld DRC_STATUS_DEBT c ≤ 4) : dramRun c s = s := by
  unfold dramRun dramAdvance
  dsimp only
  rw [dramIssue_quiet h hdebt, hstop]

/-- A stop whose damper is SHUT ends, as nothing is queued. -/
theorem dramRun_ends {sr : Bool} {p : Packet} (h : quiet (s.drc c)) (hstop : (s.drc c).stopping = some (sr, some p))
    (hdebt : s.fld DRC_STATUS_DEBT c ≤ 4) (hshut : s.fld NOC_EPe_STATUS_DAMPER (dramEndpoint c) = 2) :
    dramRun c s = endCommand p .ok [BitVec.ofNat 64 ((dramRest c sr s).drState c)] (dramRest c sr s) := by
  have hissue := dramIssue_quiet h hdebt 256
  obtain ⟨hreads, hwrites, hwaiting, hscrubs, hflights, -⟩ := h
  unfold dramRun dramAdvance
  dsimp only
  rw [hissue, hstop]
  dsimp only
  rw [hreads, hwrites, hwaiting, hscrubs, hflights, if_pos (by simp [hshut])]

/-- A stop waits while its damper closes. -/
theorem dramRun_waits {x : Bool × Option Packet} (h : quiet (s.drc c)) (hstop : (s.drc c).stopping = some x)
    (hdebt : s.fld DRC_STATUS_DEBT c ≤ 4) (hopen : s.fld NOC_EPe_STATUS_DAMPER (dramEndpoint c) ≠ 2) : dramRun c s = s := by
  unfold dramRun dramAdvance
  dsimp only
  rw [dramIssue_quiet h hdebt, hstop]
  exact if_neg fun hs => hopen hs.1

end Sys2Proof.Machine
end

section
-- One proof at a time: the memory limit of the check counts a stack for every proof that waits for another.
set_option Elab.async false
/-! SUPPORT. The DRAM commands: DRAM_START, DRAM_STOP, DELAY_SWEEP and DRAM_TABLE_SAVE (R516 to R525). -/

namespace Sys2Proof.Machine

variable {p : Packet} {s : State} {c : Nat} {good : Bool}

/-! ### Entering ACTIVE (R493, R506, R511) -/

theorem nextDue_of_keeps {t : State} {l : List Nat} (h : regsKeep l s t) (hk : TCK_PERIOD_CUR_N.off ∉ l) (ht : t.tck = s.tck) : t.nextDue = s.nextDue :=
  nextDue_congr (h _ hk) ht

/-- The registers a credit of debt writes. -/
def debtKeys (c : Nat) : List Nat := [drcKey c, DRC_REF_COUNT_MAX_DEBT.key c 0 0, FLT_DRAMc_ACCRUED.key c 0 0]

theorem creditDebt_onlyRegs (c v : Nat) (s : State) : onlyRegs (debtKeys c) s (creditDebt c v s) :=
  onlyRegs_after_setFld DRC_REF_COUNT_MAX_DEBT _ c 0 0 (onlyRegs_after_setFld DRC_STATUS_DEBT _ c 0 0
    (onlyRegs_mono (by simp [debtKeys]) (onlyRegs_setFld s FLT_DRAMc_ACCRUED _ c 0 0)) (.head _)) (.tail _ (.head _))

theorem creditDebt_debt (c v : Nat) (s : State) : (creditDebt c v s).fld DRC_STATUS_DEBT c = min v 15 := by
  unfold creditDebt State.maxFld
  dsimp only
  rw [fld_setFld_elsewhere _ DRC_REF_COUNT_MAX_DEBT DRC_STATUS_DEBT _ (controller_key_ne c),
    fld_setFld_fits _ DRC_STATUS_DEBT c 0 0 (by simp only [DRC_STATUS_DEBT]; omega)]

/-- A field of DRC_STATUS beside the debt. -/
theorem creditDebt_status (c v : Nat) (s : State) (F : Field) (hF : F.off = 0x1400008 := by rfl) (hs : F.s1 = 0x40000 := by rfl)
    (hr : F.lo + F.w ≤ 24 ∨ 28 ≤ F.lo := by decide) : (creditDebt c v s).fld F c = s.fld F c := by
  have hkey (G : Field) (hG : G.off ≠ 0x1400008) (hGs : G.s1 = 0x40000) : F.key c 0 0 ≠ G.key c 0 0 := by
    simp only [Field.key, hF, hs, hGs]
    omega
  have haccrued : F.key c 0 0 ≠ FLT_DRAMc_ACCRUED.key c 0 0 := by
    simp only [Field.key, hF, hs, FLT_DRAMc_ACCRUED]
    omega
  unfold creditDebt State.maxFld
  dsimp only
  rw [fld_setFld_elsewhere _ DRC_REF_COUNT_MAX_DEBT F _ (hkey _ (by decide) rfl),
    fld_setFld_beside _ DRC_STATUS_DEBT F _ (by simp only [DRC_STATUS_DEBT]; omega), fld_setFld_elsewhere _ FLT_DRAMc_ACCRUED F _ haccrued]

/-- The controller's record as it enters ACTIVE. -/
def activated (due : Nat) (d : Dram) : Dram :=
  { d with tables := [], openDue := if d.stopping.isSome then none else some due, resume := false, lastAlert := none, failed := 0 }

theorem dramActivate_eq (c : Nat) (s : State) : dramActivate c s =
    ((s.modDrc c (activated s.nextDue)).setFld DRC_STATUS_FIRST_WINDOW 1 c).setFld DRC_STATUS_STATE drActive c := rfl

theorem dramActivate_spec (c : Nat) (s : State) : (dramActivate c s).drc c = activated s.nextDue (s.drc c) ∧
    (dramActivate c s).drState c = drActive ∧ (dramActivate c s).fld DRC_STATUS_FIRST_WINDOW c = 1 ∧
    (dramActivate c s).fld DRC_STATUS_DEBT c = s.fld DRC_STATUS_DEBT c ∧ (dramActivate c s).fld DRC_STATUS_HOT c = s.fld DRC_STATUS_HOT c ∧
    (∀ j, j ≠ c → (dramActivate c s).drc j = s.drc j) := by
  rw [dramActivate_eq]
  refine ⟨drc_modDrc_same s c _, fld_setFld_fits _ DRC_STATUS_STATE c 0 0 (by decide), ?_, ?_, ?_, fun j hj => drc_modDrc_other s _ hj⟩
  · rw [fld_setFld_beside _ DRC_STATUS_STATE DRC_STATUS_FIRST_WINDOW, fld_setFld_fits _ DRC_STATUS_FIRST_WINDOW c 0 0 (by decide)]
  · rw [fld_setFld_beside _ DRC_STATUS_STATE DRC_STATUS_DEBT, fld_setFld_beside _ DRC_STATUS_FIRST_WINDOW DRC_STATUS_DEBT, fld_modDrc _ c _ DRC_STATUS_DEBT c]
  · rw [fld_setFld_beside _ DRC_STATUS_STATE DRC_STATUS_HOT, fld_setFld_beside _ DRC_STATUS_FIRST_WINDOW DRC_STATUS_HOT, fld_modDrc _ c _ DRC_STATUS_HOT c]

theorem dramActivate_out (c : Nat) (s : State) : (dramActivate c s).out = s.out := rfl
theorem dramActivate_mem (c : Nat) (s : State) : (dramActivate c s).mem = s.mem := rfl

/-! ### DRAM_START (R518, R520) -/

theorem banked_false_beginCommand (h : s.banked = false) : ¬ (beginCommand p s).banked = true := by
  rw [banked_beginCommand, h]
  decide

theorem dramBusy_false (h : (s.drc c).stopping = none) : ¬ dramBusy c (beginCommand p s) = true := by
  unfold dramBusy
  rw [drc_beginCommand, h]
  decide

/-- The state in which initialisation has cleared the debt and the doubled-refresh mode. -/
def initCleared (c : Nat) (s : State) : State := ((creditDebt c 0 s).setFld DRC_STATUS_HOT 0 c).setFld DRC_STATUS_RFM_REQ 0 c

theorem initCleared_onlyRegs (c : Nat) (s : State) : onlyRegs (debtKeys c) s (initCleared c s) :=
  onlyRegs_after_setFld DRC_STATUS_RFM_REQ 0 c 0 0 (onlyRegs_after_setFld DRC_STATUS_HOT 0 c 0 0 (creditDebt_onlyRegs c 0 s) (.head _)) (.head _)

theorem initCleared_fields (c : Nat) (s : State) : (initCleared c s).fld DRC_STATUS_DEBT c = 0 ∧ (initCleared c s).fld DRC_STATUS_HOT c = 0 := by
  unfold initCleared
  rw [fld_setFld_beside _ DRC_STATUS_RFM_REQ DRC_STATUS_DEBT, fld_setFld_beside _ DRC_STATUS_HOT DRC_STATUS_DEBT, creditDebt_debt,
    fld_setFld_beside _ DRC_STATUS_RFM_REQ DRC_STATUS_HOT, fld_setFld_fits _ DRC_STATUS_HOT c 0 0 (by decide)]
  exact ⟨rfl, rfl⟩

theorem period_apart (hc : c < 4) : TCK_PERIOD_CUR_N.off ∉ debtKeys c := by
  simp only [debtKeys, drcKey, Field.key, TCK_PERIOD_CUR_N, DRC_STATUS_STATE, DRC_REF_COUNT_MAX_DEBT, FLT_DRAMc_ACCRUED, List.mem_cons, List.not_mem_nil,
    or_false]
  omega

theorem start_init (hacc : s.accepts 0x0501 1 .owner p) (hbank : s.banked = false) (hidle : (s.drc (drc p)).idle)
    (hstate : s.drState (drc p) = drStopped ∨ s.drState (drc p) = drOffline) :
    exec (.dramStart p good) s = .next (endCommand p (if good then .ok else .failed)
      (if good then [BitVec.ofNat 64 ((dramInit (drc p) good (beginCommand p s)).drState (drc p))] else []) (dramInit (drc p) good (beginCommand p s))) := by
  obtain ⟨-, -, -, -, -, -, -, hstop⟩ := hidle
  rw [exec_dramStart, execDramStart, runCommand_passes hacc, dramStartWork]
  dsimp only
  rw [drState_beginCommand p s (drc_lt p), if_neg (banked_false_beginCommand hbank), if_neg (dramBusy_false hstop),
    if_neg (by rcases hstate with h | h <;> rw [h] <;> decide), if_pos hstate]

theorem start_good (hacc : s.accepts 0x0501 1 .owner p) (hbank : s.banked = false) (hidle : (s.drc (drc p)).idle)
    (hstate : s.drState (drc p) = drStopped ∨ s.drState (drc p) = drOffline) :
    ∃ u, exec (.dramStart p true) s = .next (endCommand p .ok [2] u) ∧ u.drState (drc p) = drActive ∧
      u.fld DRC_STATUS_DEBT (drc p) = 0 ∧ u.fld DRC_STATUS_FIRST_WINDOW (drc p) = 1 ∧ u.fld DRC_STATUS_HOT (drc p) = 0 ∧
      (u.drc (drc p)).tables = [] ∧ (u.drc (drc p)).openDue = some s.nextDue ∧ u.out = (beginCommand p s).out ∧
      u.mem = s.mem ∧ (∀ j, j ≠ drc p → u.drc j = s.drc j) := by
  have hinit : dramInit (drc p) true (beginCommand p s) = dramActivate (drc p) (initCleared (drc p) (beginCommand p s)) := rfl
  have hregs := initCleared_onlyRegs (drc p) (beginCommand p s)
  obtain ⟨hdebt, hhot⟩ := initCleared_fields (drc p) (beginCommand p s)
  obtain ⟨hdrc, hactive, hfirst, hdebt', hhot', hother⟩ := dramActivate_spec (drc p) (initCleared (drc p) (beginCommand p s))
  have hdrcs (j : Nat) : (initCleared (drc p) (beginCommand p s)).drc j = s.drc j := (onlyRegs_drc hregs j).trans (drc_beginCommand p s j)
  have hdue : (initCleared (drc p) (beginCommand p s)).nextDue = s.nextDue :=
    (nextDue_of_keeps hregs.2 (period_apart (drc_lt p)) (onlyRegs_tck hregs)).trans (nextDue_beginCommand p s)
  have hexec := start_init (good := true) hacc hbank hidle hstate
  rw [hinit, hactive] at hexec
  obtain ⟨-, -, -, -, -, -, -, hstop⟩ := hidle
  refine ⟨_, hexec, hactive, hdebt'.trans hdebt, hfirst, hhot'.trans hhot, ?_, ?_, ?_, ?_, fun j hj => (hother j hj).trans (hdrcs j)⟩
  · rw [hdrc, activated]
  · rw [hdrc, activated, hdrcs, hstop, hdue]
    rfl
  · rw [dramActivate_out, onlyRegs_out hregs]
  · rw [dramActivate_mem, onlyRegs_mem hregs, beginCommand_mem]

/-- The state in which a controller with nothing queued has gone OFFLINE, its damper raised before. -/
def wentOffline (c reason : Nat) (d : Dram) (s : State) : State :=
  (((((s.addFld DRC_OFFLINE_LOST_WR 0 c).setFld DRC_OFFLINE_REASON reason c).setDrc c
    { Dram.reset with nextId := d.nextId, serial := d.serial }).setFld DRC_STATUS_STATE drOffline c).setFld DRC_STATUS_ALERT_STOP 0 c).setFld
      DRC_STATUS_DRAINING 0 c

theorem wentOffline_mem (c reason : Nat) (d : Dram) (s : State) : (wentOffline c reason d s).mem = s.mem := by
  unfold wentOffline
  rw [setFld_mem, setFld_mem, setFld_mem, setDrc_mem, setFld_mem, addFld_mem]

theorem wentOffline_state (c reason : Nat) (d : Dram) (s : State) : (wentOffline c reason d s).drState c = drOffline := by
  unfold State.drState wentOffline
  rw [fld_setFld_beside _ DRC_STATUS_DRAINING DRC_STATUS_STATE, fld_setFld_beside _ DRC_STATUS_ALERT_STOP DRC_STATUS_STATE,
    fld_setFld_fits _ DRC_STATUS_STATE c 0 0 (by decide)]

theorem wentOffline_reason {reason : Nat} (hr : reason < 4) (c : Nat) (d : Dram) (s : State) :
    (wentOffline c reason d s).fld DRC_OFFLINE_REASON c = reason := by
  have hkey (F : Field) (hF : F.off = 0x1400008) (hs : F.s1 = 0x40000) : DRC_OFFLINE_REASON.key c 0 0 ≠ F.key c 0 0 :=
    controller_key_ne (F := DRC_OFFLINE_REASON) c (by rw [hF]; decide) hs.symm
  unfold wentOffline
  rw [fld_setFld_elsewhere _ DRC_STATUS_DRAINING DRC_OFFLINE_REASON _ (hkey _ rfl rfl), fld_setFld_elsewhere _ DRC_STATUS_ALERT_STOP DRC_OFFLINE_REASON _ (hkey _ rfl rfl),
    fld_setFld_elsewhere _ DRC_STATUS_STATE DRC_OFFLINE_REASON _ (hkey _ rfl rfl), fld_setDrc _ c _ DRC_OFFLINE_REASON,
    fld_setFld_fits _ DRC_OFFLINE_REASON c 0 0 hr]

/-- A controller that goes OFFLINE with nothing queued. -/
theorem dramOffline_idle {reason : Nat} (hidle : (s.drc c).idle) :
    dramOffline c reason s = wentOffline c reason (s.drc c) (raiseEndpoint (dramEndpoint c) s) := by
  obtain ⟨hreads, hwrites, hwaiting, -, -, hanswers, -, hstop⟩ := hidle
  unfold dramOffline
  dsimp only
  rw [hreads, hwrites, hwaiting, hanswers, hstop]
  rfl

theorem raiseEndpoint_onlyRegs (e : Nat) (s : State) : onlyRegs [NOC_EPe_STATUS_DAMPER.key e 0 0] s (raiseEndpoint e s) := by
  unfold raiseEndpoint
  split
  · exact onlyRegs_setFld s NOC_EPe_STATUS_DAMPER 1 e 0 0
  · exact onlyRegs_refl _ s

theorem start_failed (hacc : s.accepts 0x0501 1 .owner p) (hbank : s.banked = false) (hidle : (s.drc (drc p)).idle)
    (hstate : s.drState (drc p) = drStopped ∨ s.drState (drc p) = drOffline) :
    ∃ u, exec (.dramStart p false) s = .next (endCommand p .failed [] u) ∧ u.drState (drc p) = drOffline ∧
      u.fld DRC_OFFLINE_REASON (drc p) = 3 ∧ u.mem = s.mem := by
  have hregs := creditDebt_onlyRegs (drc p) 0 (beginCommand p s)
  have hinit : dramInit (drc p) false (beginCommand p s) = dramOffline (drc p) 3 (creditDebt (drc p) 0 (beginCommand p s)) := rfl
  have hexec := start_init (good := false) hacc hbank hidle hstate
  rw [hinit, dramOffline_idle (by rw [onlyRegs_drc hregs, drc_beginCommand]; exact hidle)] at hexec
  have hendpoint := onlyRegs_mem (raiseEndpoint_onlyRegs (dramEndpoint (drc p)) (creditDebt (drc p) 0 (beginCommand p s)))
  exact ⟨_, hexec, wentOffline_state (drc p) 3 _ _, wentOffline_reason (by decide) (drc p) _ _,
    (wentOffline_mem (drc p) 3 _ _).trans (hendpoint.trans ((onlyRegs_mem hregs).trans (beginCommand_mem p s)))⟩

/-- The state in which the wake and its refresh have been sent and the debt has been cleared. -/
def wakeSent (c : Nat) (s : State) : State :=
  creditDebt c 0 (((s.emit (.dramCommand c .wake)).emit (.dramCommand c .refresh)).addFld DRC_REF_COUNT_REFRESHES 1 c)

/-- The state in which self-refresh has been left. -/
def woken (c : Nat) (s : State) : State := (wakeSent c s).setFld FLT_DRAMc_ACCRUED ((wakeSent c s).fld FLT_DRAMc_ACCRUED c + 1) c

theorem woken_spec (hc : c < 4) (s : State) : (woken c s).fld DRC_STATUS_DEBT c = 0 ∧
    (woken c s).out = .dramCommand c .refresh :: .dramCommand c .wake :: s.out ∧ (woken c s).dram = s.dram := by
  have hregs := creditDebt_onlyRegs c 0 (((s.emit (.dramCommand c .wake)).emit (.dramCommand c .refresh)).addFld DRC_REF_COUNT_REFRESHES 1 c)
  have hkey : DRC_STATUS_DEBT.key c 0 0 ≠ FLT_DRAMc_ACCRUED.key c 0 0 := by
    simp only [Field.key, DRC_STATUS_DEBT, FLT_DRAMc_ACCRUED]
    omega
  refine ⟨?_, onlyRegs_out hregs, (congrArg State.dram hregs.1 : _)⟩
  unfold woken wakeSent
  rw [fld_setFld_elsewhere _ FLT_DRAMc_ACCRUED DRC_STATUS_DEBT _ hkey, creditDebt_debt]
  rfl

theorem start_wakes (hacc : s.accepts 0x0501 1 .owner p) (hbank : s.banked = false) (hidle : (s.drc (drc p)).idle)
    (hstate : s.drState (drc p) = drSelfRefresh) :
    ∃ u, exec (.dramStart p good) s = .next (endCommand p .ok [2] u) ∧ u.drState (drc p) = drActive ∧
      u.fld DRC_STATUS_DEBT (drc p) = 0 ∧ u.fld DRC_STATUS_FIRST_WINDOW (drc p) = 1 ∧ (u.drc (drc p)).tables = [] ∧
      u.out = .dramCommand (drc p) .refresh :: .dramCommand (drc p) .wake :: (beginCommand p s).out ∧
      (∀ j, j ≠ drc p → u.drc j = s.drc j) := by
  obtain ⟨hdebt, hout, hdram⟩ := woken_spec (drc_lt p) (beginCommand p s)
  obtain ⟨hdrc, hactive, hfirst, hdebt', -, hother⟩ := dramActivate_spec (drc p) (woken (drc p) (beginCommand p s))
  have hdrcs (j : Nat) : (woken (drc p) (beginCommand p s)).drc j = s.drc j := (drc_congr hdram j).trans (drc_beginCommand p s j)
  rw [hdrcs] at hdrc
  obtain ⟨hreads, hwrites, hwaiting, hscrubs, hflights, -, howed, hstop⟩ := hidle
  have hrun : dramRun (drc p) (dramActivate (drc p) (woken (drc p) (beginCommand p s))) = dramActivate (drc p) (woken (drc p) (beginCommand p s)) := by
    refine dramRun_idle ?_ ?_ (by omega) <;> rw [hdrc, activated]
    · exact ⟨hreads, hwrites, hwaiting, hscrubs, hflights, howed⟩
    · exact hstop
  have hexec : exec (.dramStart p good) s = .next (endCommand p .ok [2] (dramActivate (drc p) (woken (drc p) (beginCommand p s)))) := by
    have hwake : dramWake (drc p) (beginCommand p s) = dramActivate (drc p) (woken (drc p) (beginCommand p s)) := hrun
    rw [exec_dramStart, execDramStart, runCommand_passes hacc, dramStartWork]
    dsimp only
    rw [drState_beginCommand p s (drc_lt p), if_neg (banked_false_beginCommand hbank), if_neg (dramBusy_false hstop), if_pos hstate, hwake, hactive]
    rfl
  refine ⟨_, hexec, hactive, hdebt'.trans hdebt, hfirst, by rw [hdrc, activated], ?_, fun j hj => (hother j hj).trans (hdrcs j)⟩
  rw [dramActivate_out, hout]

theorem start_active (hacc : s.accepts 0x0501 1 .owner p) (hbank : s.banked = false) (hidle : (s.drc (drc p)).idle)
    (hstate : s.drState (drc p) = drActive) : exec (.dramStart p good) s = .next (endCommand p .invalid [] (beginCommand p s)) := by
  obtain ⟨-, -, -, -, -, -, -, hstop⟩ := hidle
  rw [exec_dramStart, execDramStart, runCommand_passes hacc, dramStartWork]
  dsimp only
  rw [drState_beginCommand p s (drc_lt p), if_neg (banked_false_beginCommand hbank), if_neg (dramBusy_false hstop), hstate, if_neg (by decide), if_neg (by decide)]

/-! ### DRAM_STOP (R516, R517) -/

theorem stop_inactive (hacc : s.accepts 0x0502 2 .owner p) (hbank : s.banked = false) (hidle : (s.drc (drc p)).idle)
    (hstate : s.drState (drc p) ≠ drActive) : exec (.dramStop p) s = .next (endCommand p .invalid [] (beginCommand p s)) := by
  obtain ⟨-, -, -, -, -, -, -, hstop⟩ := hidle
  rw [exec_dramStop, execDramStop, runCommand_passes hacc, dramStopWork]
  rw [drState_beginCommand p s (drc_lt p), if_neg (banked_false_beginCommand hbank), if_neg (dramBusy_false hstop), if_neg hstate]

/-- The state in which a stop has begun. -/
def stopBegun (c : Nat) (sr : Bool) (p : Packet) (s : State) : State :=
  (raiseEndpoint (dramEndpoint c) s).modDrc c (fun d => { d with stopping := some (sr, some p), openDue := none })

theorem stop_active (hacc : s.accepts 0x0502 2 .owner p) (hbank : s.banked = false) (hidle : (s.drc (drc p)).idle)
    (hstate : s.drState (drc p) = drActive) :
    exec (.dramStop p) s = .next (dramRun (drc p) (stopBegun (drc p) (bit (p.w 2) 0) p (beginCommand p s))) := by
  obtain ⟨-, -, -, -, -, -, -, hstop⟩ := hidle
  rw [exec_dramStop, execDramStop, runCommand_passes hacc, dramStopWork]
  rw [drState_beginCommand p s (drc_lt p), if_neg (banked_false_beginCommand hbank), if_neg (dramBusy_false hstop), if_pos hstate]
  rfl

theorem stopBegun_drc (c : Nat) (sr : Bool) (p : Packet) (s : State) :
    (stopBegun c sr p s).drc c = { s.drc c with stopping := some (sr, some p), openDue := none } := by
  unfold stopBegun
  rw [drc_modDrc_same, onlyRegs_drc (raiseEndpoint_onlyRegs (dramEndpoint c) s)]

theorem stopBegun_out (c : Nat) (sr : Bool) (p : Packet) (s : State) : (stopBegun c sr p s).out = s.out := by
  unfold stopBegun
  rw [modDrc_out, onlyRegs_out (raiseEndpoint_onlyRegs (dramEndpoint c) s)]

theorem stopBegun_fld (c : Nat) (sr : Bool) (p : Packet) (s : State) (F : Field) (hF : 0x1400000 ≤ F.off := by decide)
    (hr : F.lo + F.w ≤ 8 ∨ 23 ≤ F.lo := by decide) : (stopBegun c sr p s).fld F c = s.fld F c := by
  unfold stopBegun
  rw [fld_modDrc _ c _ F c hr]
  refine fld_congr F c 0 0 ((raiseEndpoint_onlyRegs (dramEndpoint c) s).2 _ ?_)
  rw [List.mem_singleton]
  exact controller_key_endpoint (F := F) (G := NOC_EPe_STATUS_DAMPER) c hF

theorem stopBegun_damper (c : Nat) (sr : Bool) (p : Packet) (s : State) : (stopBegun c sr p s).fld NOC_EPe_STATUS_DAMPER (dramEndpoint c) =
    if s.fld NOC_EPe_STATUS_DAMPER (dramEndpoint c) = 0 then 1 else s.fld NOC_EPe_STATUS_DAMPER (dramEndpoint c) := by
  have hkey : NOC_EPe_STATUS_DAMPER.key (dramEndpoint c) 0 0 ≠ drcKey c :=
    Ne.symm (controller_key_endpoint (F := DRC_STATUS_STATE) (G := NOC_EPe_STATUS_DAMPER) c)
  unfold stopBegun State.modDrc
  rw [fld_setDrc_elsewhere _ c _ NOC_EPe_STATUS_DAMPER _ _ _ hkey]
  unfold raiseEndpoint
  split
  · exact fld_setFld_fits s NOC_EPe_STATUS_DAMPER (dramEndpoint c) 0 0 (by decide)
  · rfl

theorem stopBegun_quiet {sr : Bool} {q : Packet} (hidle : (s.drc c).idle) : quiet ((stopBegun c sr q s).drc c) := by
  obtain ⟨hreads, hwrites, hwaiting, hscrubs, hflights, -, howed, -⟩ := hidle
  rw [stopBegun_drc]
  exact ⟨hreads, hwrites, hwaiting, hscrubs, hflights, howed⟩

/-- What a stop leaves of the controller's record. -/
def rested (d : Dram) : Dram := { d with retry := [], flights := [], rows := [], owed := [], stopping := none, openDue := none }

/-- The controller's record and status as a stop ends. -/
def stopEnded (c : Nat) (sr : Bool) (s : State) : State :=
  (((s.modDrc c rested).setFld DRC_STATUS_ALERT_STOP 0 c).setFld DRC_STATUS_DRAINING 0 c).setFld DRC_STATUS_STATE (if sr then drSelfRefresh else drOffline) c

theorem stopEnded_state (c : Nat) (sr : Bool) (s : State) : (stopEnded c sr s).drState c = if sr then drSelfRefresh else drOffline :=
  fld_setFld_fits _ DRC_STATUS_STATE c 0 0 (by cases sr <;> decide)

theorem stopEnded_out (c : Nat) (sr : Bool) (s : State) : (stopEnded c sr s).out = s.out := by
  unfold stopEnded
  rw [setFld_out, setFld_out, setFld_out, modDrc_out]

/-- A field outside DRC_STATUS as a stop ends. -/
theorem stopEnded_fld (c : Nat) (sr : Bool) (s : State) (F : Field) (hF : F.key c 0 0 ≠ drcKey c) : (stopEnded c sr s).fld F c = s.fld F c := by
  unfold stopEnded
  rw [fld_setFld_elsewhere _ DRC_STATUS_STATE F _ hF, fld_setFld_elsewhere _ DRC_STATUS_DRAINING F _ hF, fld_setFld_elsewhere _ DRC_STATUS_ALERT_STOP F _ hF,
    State.modDrc, fld_setDrc_elsewhere _ c _ F _ _ _ hF]

theorem dramRest_refreshing (h : s.fld DRC_STATUS_DEBT c = 0) : dramRest c true s =
    stopEnded c true ((s.emit (.dramCommand c .prechargeAll)).emit (.dramCommand c .selfRefresh)) := by
  unfold dramRest
  dsimp only
  rw [h]
  rfl

theorem dramRest_offline (c : Nat) (s : State) : dramRest c false s = stopEnded c false (s.setFld DRC_OFFLINE_REASON 1 c) := rfl

theorem stop_into_refresh (hacc : s.accepts 0x0502 2 .owner p) (hbank : s.banked = false) (hidle : (s.drc (drc p)).idle)
    (hstate : s.drState (drc p) = drActive) (hshut : s.fld NOC_EPe_STATUS_DAMPER (dramEndpoint (drc p)) = 2)
    (hdebt : s.fld DRC_STATUS_DEBT (drc p) = 0) (hbit : bit (p.w 2) 0 = true) :
    ∃ u, exec (.dramStop p) s = .next (endCommand p .ok [3] u) ∧ u.drState (drc p) = drSelfRefresh ∧
      u.out = .dramCommand (drc p) .selfRefresh :: .dramCommand (drc p) .prechargeAll :: (beginCommand p s).out ∧
      u.fld DRC_OFFLINE_REASON (drc p) = s.fld DRC_OFFLINE_REASON (drc p) := by
  have hexec := stop_active hacc hbank hidle hstate
  have hdebt' : (stopBegun (drc p) true p (beginCommand p s)).fld DRC_STATUS_DEBT (drc p) = 0 := by
    rw [stopBegun_fld (drc p) true p _ DRC_STATUS_DEBT, fld_controller_beginCommand p s DRC_STATUS_DEBT (drc_lt p), hdebt]
  rw [hbit, dramRun_ends (stopBegun_quiet (by rw [drc_beginCommand]; exact hidle)) (by rw [stopBegun_drc]) (by omega)
    (by rw [stopBegun_damper, damper_beginCommand, hshut]; rfl), dramRest_refreshing hdebt', stopEnded_state] at hexec
  refine ⟨_, hexec, stopEnded_state (drc p) true _, ?_, ?_⟩
  · refine (stopEnded_out (drc p) true _).trans ?_
    exact congrArg (fun l => Out.dramCommand (drc p) .selfRefresh :: .dramCommand (drc p) .prechargeAll :: l) (stopBegun_out (drc p) true p (beginCommand p s))
  · rw [stopEnded_fld _ _ _ DRC_OFFLINE_REASON (controller_key_ne (F := DRC_OFFLINE_REASON) (G := DRC_STATUS_STATE) (drc p))]
    rw [emit_fld, emit_fld]
    exact (stopBegun_fld (drc p) true p _ DRC_OFFLINE_REASON).trans (fld_controller_beginCommand p s DRC_OFFLINE_REASON (drc_lt p))

theorem stop_offline (hacc : s.accepts 0x0502 2 .owner p) (hbank : s.banked = false) (hidle : (s.drc (drc p)).idle)
    (hstate : s.drState (drc p) = drActive) (hshut : s.fld NOC_EPe_STATUS_DAMPER (dramEndpoint (drc p)) = 2)
    (hdebt : s.fld DRC_STATUS_DEBT (drc p) = 0) (hbit : bit (p.w 2) 0 = false) :
    ∃ u, exec (.dramStop p) s = .next (endCommand p .ok [4] u) ∧ u.drState (drc p) = drOffline ∧
      u.fld DRC_OFFLINE_REASON (drc p) = 1 ∧ u.fld DRC_OFFLINE_LOST_WR (drc p) = s.fld DRC_OFFLINE_LOST_WR (drc p) ∧
      u.out = (beginCommand p s).out := by
  have hexec := stop_active hacc hbank hidle hstate
  have hdebt' : (stopBegun (drc p) false p (beginCommand p s)).fld DRC_STATUS_DEBT (drc p) = 0 := by
    rw [stopBegun_fld (drc p) false p _ DRC_STATUS_DEBT, fld_controller_beginCommand p s DRC_STATUS_DEBT (drc_lt p), hdebt]
  rw [hbit, dramRun_ends (stopBegun_quiet (by rw [drc_beginCommand]; exact hidle)) (by rw [stopBegun_drc]) (by omega)
    (by rw [stopBegun_damper, damper_beginCommand, hshut]; rfl), dramRest_offline, stopEnded_state] at hexec
  refine ⟨_, hexec, stopEnded_state (drc p) false _, ?_, ?_, (stopEnded_out (drc p) false _).trans (stopBegun_out (drc p) false p (beginCommand p s))⟩
  · rw [stopEnded_fld _ _ _ DRC_OFFLINE_REASON (controller_key_ne (F := DRC_OFFLINE_REASON) (G := DRC_STATUS_STATE) (drc p)),
      fld_setFld_fits _ DRC_OFFLINE_REASON (drc p) 0 0 (by decide)]
  · rw [stopEnded_fld _ _ _ DRC_OFFLINE_LOST_WR (controller_key_ne (F := DRC_OFFLINE_LOST_WR) (G := DRC_STATUS_STATE) (drc p)),
      fld_setFld_beside _ DRC_OFFLINE_REASON DRC_OFFLINE_LOST_WR]
    refine (fld_setDrc_elsewhere _ (drc p) _ DRC_OFFLINE_LOST_WR _ _ _ (controller_key_ne (F := DRC_OFFLINE_LOST_WR) (G := DRC_STATUS_STATE) (drc p))).trans ?_
    refine (fld_congr DRC_OFFLINE_LOST_WR (drc p) 0 0 ((raiseEndpoint_onlyRegs (dramEndpoint (drc p)) (beginCommand p s)).2 _ ?_)).trans
      (fld_controller_beginCommand p s DRC_OFFLINE_LOST_WR (drc_lt p))
    rw [List.mem_singleton]
    exact controller_key_endpoint (F := DRC_OFFLINE_LOST_WR) (G := NOC_EPe_STATUS_DAMPER) (drc p)

theorem stop_waits (hacc : s.accepts 0x0502 2 .owner p) (hbank : s.banked = false) (hidle : (s.drc (drc p)).idle)
    (hstate : s.drState (drc p) = drActive) (hopen : s.fld NOC_EPe_STATUS_DAMPER (dramEndpoint (drc p)) = 0)
    (hdebt : s.fld DRC_STATUS_DEBT (drc p) ≤ 4) :
    ∃ t, exec (.dramStop p) s = .next t ∧ t.fld NOC_EPe_STATUS_DAMPER (dramEndpoint (drc p)) = 1 ∧ t.drState (drc p) = drActive ∧
      (t.drc (drc p)).stopping = some (bit (p.w 2) 0, some p) ∧ t.out = (beginCommand p s).out := by
  have hexec := stop_active hacc hbank hidle hstate
  have hdamper : (stopBegun (drc p) (bit (p.w 2) 0) p (beginCommand p s)).fld NOC_EPe_STATUS_DAMPER (dramEndpoint (drc p)) = 1 := by
    rw [stopBegun_damper, damper_beginCommand, hopen]
    rfl
  have hdebt' : (stopBegun (drc p) (bit (p.w 2) 0) p (beginCommand p s)).fld DRC_STATUS_DEBT (drc p) ≤ 4 := by
    rw [stopBegun_fld _ _ p _ DRC_STATUS_DEBT, fld_controller_beginCommand p s DRC_STATUS_DEBT (drc_lt p)]
    exact hdebt
  rw [dramRun_waits (x := (bit (p.w 2) 0, some p)) (stopBegun_quiet (by rw [drc_beginCommand]; exact hidle)) (by rw [stopBegun_drc]) hdebt'
    (by rw [hdamper]; decide)] at hexec
  refine ⟨_, hexec, hdamper, ?_, by rw [stopBegun_drc], stopBegun_out _ _ p _⟩
  exact (stopBegun_fld (drc p) _ p _ DRC_STATUS_STATE).trans ((drState_beginCommand p s (drc_lt p)).trans hstate)

/-! ### DELAY_SWEEP (R519, R523, R525) -/

/-- The command names one lane. -/
theorem lanes_of_one {lane : Nat} (h : lane < 40) (w : Word) (hw : w = (1 : Word) <<< lane) : (classLanes 0).filter (fun l => bit w l) = [lane] := by
  have hbit (l : Nat) (hl : l < 64) : bit w l = decide (l = lane) := by
    rw [hw, bit, BitVec.getLsbD_shiftLeft]
    by_cases hlt : l < lane
    · simp [hlt]
      omega
    · by_cases heq : l = lane
      · simp [heq]
        omega
      · simp [heq, hl]
        omega
  have hall : (classLanes 0).filter (fun l => bit w l) = (List.range 40).filter (fun l => decide (l = lane)) :=
    List.filter_congr fun l hl => hbit l (by have := List.mem_range.mp hl; omega)
  rw [hall]
  interval_cases lane <;> rfl

/-- The codes at which a lane passed begin at the first and end at the last of them. -/
theorem window_found {found : SweepResult} {first step n a b : Nat} (hab : a ≤ b) (hb : b < n) (ha0 : (found.at a 0).2 = 0)
    (hb0 : (found.at b 0).2 = 0) (hout : ∀ i, i < a ∨ (b < i ∧ i < n) → (found.at i 0).2 ≠ 0) :
    found.window first step n 0 = some (first + step * a, first + step * b) := by
  have hfirst : ((List.range n).filter (fun i => decide ((found.at i 0).2 = 0))).head? = some a := by
    obtain ⟨k, rfl⟩ : ∃ k, n = a + 1 + k := ⟨n - (a + 1), by omega⟩
    have hnone : (List.range a).filter (fun i => decide ((found.at i 0).2 = 0)) = [] := by
      rw [List.filter_eq_nil_iff]
      exact fun i hi => by simpa using hout i (.inl (List.mem_range.mp hi))
    rw [List.range_add, List.range_succ, List.filter_append, List.filter_append, hnone]
    simp [ha0]
  have hlast : ((List.range n).filter (fun i => decide ((found.at i 0).2 = 0))).getLast? = some b := by
    obtain ⟨k, rfl⟩ : ∃ k, n = b + 1 + k := ⟨n - (b + 1), by omega⟩
    have hnone : ((List.range k).map (fun x => b + 1 + x)).filter (fun i => decide ((found.at i 0).2 = 0)) = [] := by
      rw [List.filter_eq_nil_iff]
      intro i hi
      obtain ⟨x, hx, rfl⟩ := List.mem_map.mp hi
      have hx := List.mem_range.mp hx
      simpa using hout (b + 1 + x) (.inr (by omega))
    rw [List.range_add, List.range_succ, List.filter_append, hnone, List.append_nil, List.filter_append]
    simp [hb0]
  unfold SweepResult.window
  dsimp only
  rw [hfirst, hlast]

theorem dramBusy_beginCommand (c : Nat) (p : Packet) (s : State) : dramBusy c (beginCommand p s) = dramBusy c s := by
  unfold dramBusy
  rw [drc_beginCommand]

theorem drcLocked_beginCommand (p : Packet) (s : State) {c : Nat} (hc : c < 4) : drcLocked c (beginCommand p s) = drcLocked c s := by
  unfold drcLocked
  rw [drState_beginCommand p s hc]

/-- The state in which a sweep has recorded what its last code showed. -/
def sweepRecorded (c : Nat) (x : Nat × Nat) (s : State) : State := (s.setFld DRC_SWEEP_PASS x.1 c).setFld DRC_SWEEP_FAIL x.2 c

theorem sweepRecorded_onlyRegs (c : Nat) (x : Nat × Nat) (s : State) : onlyRegs [DRC_SWEEP_PASS.key c 0 0] s (sweepRecorded c x s) :=
  onlyRegs_after_setFld DRC_SWEEP_FAIL _ c 0 0 (onlyRegs_setFld s DRC_SWEEP_PASS _ c 0 0) (.head _)

theorem sweepRecorded_fields (c : Nat) (x : Nat × Nat) (s : State) :
    (sweepRecorded c x s).fld DRC_SWEEP_PASS c = x.1 % 2 ^ DRC_SWEEP_PASS.w ∧ (sweepRecorded c x s).fld DRC_SWEEP_FAIL c = x.2 % 2 ^ DRC_SWEEP_FAIL.w := by
  unfold sweepRecorded
  refine ⟨?_, fld_setFld_same _ DRC_SWEEP_FAIL _ c 0 0 (by unfold Field.good; decide)⟩
  rw [fld_setFld_beside _ DRC_SWEEP_FAIL DRC_SWEEP_PASS, fld_setFld_same _ DRC_SWEEP_PASS _ c 0 0 (by unfold Field.good; decide)]

/-- A sweep of one lane of class 0 whose passing codes have been found. -/
theorem sweep_done {lane a b first step n : Nat} {found : SweepResult} (hacc : s.accepts 0x0503 4 .owner p) (hbank : s.banked = false)
    (hbusy : dramBusy (drc p) s = false) (hlane : lane < 40) (hlocked : drcLocked (drc p) s = false) (hcls : bits (p.w 1) 2 3 = 0)
    (hmask : p.w 2 = (1 : Word) <<< lane) (hfirst : first = bits (p.w 3) 0 12) (hstep : step = bits (p.w 3) 32 12)
    (hn : n = (bits (p.w 3) 16 12 - first) / step + 1) (hle : first ≤ bits (p.w 3) 16 12) (hpos : step ≠ 0)
    (hwindow : found.window first step n 0 = some (first + step * a, first + step * b)) :
    exec (.delaySweep p found) s = .next (endCommand p .ok [mkWord [(0, 12, first + step * a), (16, 12, first + step * b), (28, 1, 1)]]
      (if bit (p.w 1) 7 then
        (sweepRecorded (drc p) (found.at (n - 1) 0) (beginCommand p s)).setFld DRC_DQs_k_l_WR_DLY ((first + step * a + (first + step * b)) / 2) (drc p)
          (2 * bits (p.w 1) 5 1 + bits (p.w 1) 6 1) lane
      else sweepRecorded (drc p) (found.at (n - 1) 0) (beginCommand p s))) := by
  have hgo : ¬ (drcLocked (drc p) (beginCommand p s) = true ∨ ([lane] : List Nat).isEmpty = true ∨ 8 < ([lane] : List Nat).length ∨
      bits (p.w 3) 16 12 < first ∨ step = 0) := by
    rw [drcLocked_beginCommand p s (drc_lt p), hlocked]
    simp [hpos, hle]
  have hends : (([found.at (n - 1) 0].map Prod.fst).sum, ([found.at (n - 1) 0].map Prod.snd).sum) = found.at (n - 1) 0 := by simp
  rw [exec_delaySweep, execDelaySweep, runCommand_passes hacc, delaySweepWork]
  dsimp only
  rw [if_neg (banked_false_beginCommand hbank), dramBusy_beginCommand, hbusy, if_neg (by decide), hcls, lanes_of_one hlane _ hmask, ← hfirst, ← hstep, if_neg hgo, ← hn]
  have hres : ([lane].zipIdx).map (fun l => (l.1, found.window first step n l.2)) = [(lane, some (first + step * a, first + step * b))] := by
    rw [List.zipIdx_cons, List.zipIdx_nil, List.map_cons, List.map_nil, hwindow]
  rw [hres]
  have hsum : [found.at (n - 1) 0].map Prod.fst = [(found.at (n - 1) 0).1] := rfl
  unfold sweepRecorded
  cases bit (p.w 1) 7 <;> simp [laneWord, setDelay]

theorem sweep_locked {found : SweepResult} (hacc : s.accepts 0x0503 4 .owner p) (hbank : s.banked = false) (hbusy : dramBusy (drc p) s = false)
    (hlocked : drcLocked (drc p) s = true) : exec (.delaySweep p found) s = .next (endCommand p .invalid [] (beginCommand p s)) := by
  rw [exec_delaySweep, execDelaySweep, runCommand_passes hacc, delaySweepWork]
  dsimp only
  rw [if_neg (banked_false_beginCommand hbank), dramBusy_beginCommand, hbusy, if_neg (by decide), drcLocked_beginCommand p s (drc_lt p), hlocked,
    if_pos (.inl rfl)]

theorem lane_swept {lane a b first step n : Nat} {found : SweepResult} (hacc : s.accepts 0x0503 4 .owner p) (hbank : s.banked = false)
    (hbusy : dramBusy (drc p) s = false) (hlane : lane < 40) (hlocked : drcLocked (drc p) s = false) (hcls : bits (p.w 1) 2 3 = 0)
    (hmask : p.w 2 = (1 : Word) <<< lane) (hfirst : first = bits (p.w 3) 0 12) (hstep : step = bits (p.w 3) 32 12)
    (hn : n = (bits (p.w 3) 16 12 - first) / step + 1) (hle : first ≤ bits (p.w 3) 16 12) (hpos : step ≠ 0) (hab : a ≤ b) (hb : b < n)
    (ha0 : (found.at a 0).2 = 0) (hb0 : (found.at b 0).2 = 0) (hout : ∀ i, i < a ∨ (b < i ∧ i < n) → (found.at i 0).2 ≠ 0) :
    ∃ u, exec (.delaySweep p found) s =
        .next (endCommand p .ok [mkWord [(0, 12, first + step * a), (16, 12, first + step * b), (28, 1, 1)]] u) ∧
      u.fld DRC_SWEEP_PASS (drc p) = (found.at (n - 1) 0).1 % 2 ^ DRC_SWEEP_PASS.w ∧
      u.fld DRC_SWEEP_FAIL (drc p) = (found.at (n - 1) 0).2 % 2 ^ DRC_SWEEP_FAIL.w ∧
      (bit (p.w 1) 7 = true →
        u.fld DRC_DQs_k_l_WR_DLY (drc p) (2 * bits (p.w 1) 5 1 + bits (p.w 1) 6 1) lane = (first + step * a + (first + step * b)) / 2) ∧
      (bit (p.w 1) 7 = false → onlyRegs [DRC_SWEEP_PASS.key (drc p) 0 0] (beginCommand p s) u) := by
  have hexec := sweep_done hacc hbank hbusy hlane hlocked hcls hmask hfirst hstep hn hle hpos (window_found hab hb ha0 hb0 hout)
  obtain ⟨hpass, hfail⟩ := sweepRecorded_fields (drc p) (found.at (n - 1) 0) (beginCommand p s)
  refine ⟨_, hexec, ?_⟩
  cases hset : bit (p.w 1) 7 with
  | false =>
    rw [if_neg (by decide)]
    exact ⟨hpass, hfail, fun h => absurd h (by decide), fun _ => sweepRecorded_onlyRegs (drc p) _ _⟩
  | true =>
    have hkey (F : Field) (hF : F.off = 0x1400070) (hs : F.s1 = 0x40000) :
        F.key (drc p) 0 0 ≠ DRC_DQs_k_l_WR_DLY.key (drc p) (2 * bits (p.w 1) 5 1 + bits (p.w 1) 6 1) lane := by
      simp only [Field.key, hF, hs, DRC_DQs_k_l_WR_DLY]
      omega
    have hlast : bits (p.w 3) 16 12 < 2 ^ 12 := bits_lt _ _ _
    have hmid : (first + step * a + (first + step * b)) / 2 < 2 ^ 12 := by
      have hb' : step * b ≤ bits (p.w 3) 16 12 - first := (Nat.mul_le_mul_left step (by omega : b ≤ (bits (p.w 3) 16 12 - first) / step)).trans (Nat.mul_div_le _ _)
      have ha' : step * a ≤ step * b := Nat.mul_le_mul_left step hab
      omega
    rw [if_pos rfl]
    exact ⟨(fld_setFld_elsewhere _ DRC_DQs_k_l_WR_DLY DRC_SWEEP_PASS _ (hkey _ rfl rfl)).trans hpass,
      (fld_setFld_elsewhere _ DRC_DQs_k_l_WR_DLY DRC_SWEEP_FAIL _ (hkey _ rfl rfl)).trans hfail,
      fun _ => fld_setFld_fits _ DRC_DQs_k_l_WR_DLY (drc p) _ lane hmid, fun h => absurd h (by decide)⟩

/-! ### A BANKED device (R525) -/

theorem banked_commands {found : SweepResult} (hbank : s.banked = true) :
    (s.accepts 0x0501 1 .owner p → exec (.dramStart p good) s = .next (endCommand p .invalid [] (beginCommand p s))) ∧
    (s.accepts 0x0502 2 .owner p → exec (.dramStop p) s = .next (endCommand p .invalid [] (beginCommand p s))) ∧
    (s.accepts 0x0503 4 .owner p → exec (.delaySweep p found) s = .next (endCommand p .invalid [] (beginCommand p s))) ∧
    (s.accepts 0x0504 1 .owner p → exec (.dramTableSave p good) s = .next (endCommand p .invalid [] (beginCommand p s))) := by
  have hb : (beginCommand p s).banked = true := (banked_beginCommand p s).trans hbank
  refine ⟨fun hacc => ?_, fun hacc => ?_, fun hacc => ?_, fun hacc => ?_⟩
  · rw [exec_dramStart, execDramStart, runCommand_passes hacc]
    exact congrArg _ (if_pos hb)
  · rw [exec_dramStop, execDramStop, runCommand_passes hacc]
    exact congrArg _ (if_pos hb)
  · rw [exec_delaySweep, execDelaySweep, runCommand_passes hacc]
    exact congrArg _ (if_pos hb)
  · rw [exec_dramTableSave, execDramTableSave, runCommand_passes hacc]
    exact congrArg _ (if_pos hb)

/-! ### DRAM_TABLE_SAVE (R522, R525) -/

theorem boardWords_congr {t : State} (h : ∀ k, t.pword k = s.pword k) (copy first n : Nat) : boardWords copy first n t = boardWords copy first n s := by
  unfold boardWords boardWord
  simp only [h]

theorem boardCopy_congr {t : State} (h : ∀ k, t.pword k = s.pword k) : boardCopy t = boardCopy s := by
  unfold boardCopy boardHeader
  simp only [boardWords_congr h]

/-- The header of a table that names no controller, before its CRC. -/
def emptyHead (imap : Word) : List Word := [0x42445244, 1, 1, imap] ++ List.replicate 11 0

/-- The header of such a table. -/
def emptyHeader (imap : Word) : List Word := emptyHead imap ++ [crcWord (emptyHead imap)]

/-- The words of the table with their places. -/
def headerPlaces (imap : Word) : List (Nat × Word) := (emptyHeader imap).zipIdx.map (fun w => (0 + w.2, w.1))

theorem tableSaved_empty (h : boardCopy s = none) : tableSaved 0 s = (0, headerPlaces (s.reg DRC_IMAP_MODE.off)) := by
  have hnamed : boardNamed s = [] := by
    unfold boardNamed
    rw [h]
  unfold tableSaved
  dsimp only
  rw [h, hnamed]
  rfl

theorem mapM_all_some {α β : Type} {f : α → Option β} {g : α → β} (l : List α) (h : ∀ x ∈ l, f x = some (g x)) : l.mapM f = some (l.map g) := by
  induction l with
  | nil => rfl
  | cons x l ih => simp [h x (.head _), ih fun y hy => h y (.tail _ hy)]

theorem headerPlaces_mem (imap : Word) {k : Nat} (hk : k < 16) : (k, (emptyHeader imap).getD k 0) ∈ headerPlaces imap := by
  have hlen : k < (emptyHeader imap).length := hk
  refine List.mem_map.mpr ⟨((emptyHeader imap).getD k 0, k), ?_, by simp⟩
  rw [List.mk_mem_zipIdx_iff_getElem?, List.getD_eq_getElem?_getD, List.getElem?_eq_getElem hlen]
  rfl

theorem headerPlaces_fst (imap : Word) : (headerPlaces imap).map Prod.fst = List.range 16 := rfl

/-- The words of the first copy once the header has been written. -/
theorem boardWords_written (imap : Word) (s : State) {n : Nat} (hn : n ≤ 16) :
    boardWords 0 0 n (nvaStoreAll (boardBase 0) (headerPlaces imap) s) = some ((List.range n).map (fun k => (emptyHeader imap).getD k 0)) := by
  refine mapM_all_some _ fun k hk => ?_
  have hk := List.mem_range.mp hk
  have hword := nvaStoreAll_written (base := boardBase 0) (by rw [headerPlaces_fst]; exact List.nodup_range) (headerPlaces_mem imap (k := k) (by omega)) s
  unfold boardWord
  rw [Nat.zero_add, hword, clean_value?]

theorem crcGood_emptyHeader (imap : Word) : crcGood (emptyHeader imap) = true := by
  unfold crcGood emptyHeader
  rw [List.getLast?_concat, List.dropLast_concat]
  simp

theorem boardHeader_written (imap : Word) (s : State) : boardHeader 0 (nvaStoreAll (boardBase 0) (headerPlaces imap) s) = some (emptyHeader imap) := by
  have hwords : boardWords 0 0 16 (nvaStoreAll (boardBase 0) (headerPlaces imap) s) = some (emptyHeader imap) := boardWords_written imap s (Nat.le_refl 16)
  have hnamed : (List.range 4).filter (fun c => bit (nth 0 (emptyHeader imap) 1) (16 + c)) = [] := by
    have hone : nth 0 (emptyHeader imap) 1 = 1 := rfl
    rw [hone]
    decide
  unfold boardHeader
  rw [hwords]
  dsimp only
  rw [hnamed, crcGood_emptyHeader, if_pos ⟨rfl, rfl, rfl⟩]

theorem table_written (hacc : s.accepts 0x0504 1 .owner p) (hbank : s.banked = false) (hnva : s.nva.waiting = []) (hcopy : boardCopy s = none)
    (hnone : bits (p.w 1) 0 4 = 0) (verified : Bool) :
    exec (.dramTableSave p verified) s = .next (if verified then
        endCommand p .ok [0] (nvaStoreAll (boardBase 0) (headerPlaces (s.reg DRC_IMAP_MODE.off)) (beginCommand p s))
      else endCommand p .errData [] (nvaStoreAll (boardBase 0) (headerPlaces (s.reg DRC_IMAP_MODE.off)) (beginCommand p s))) := by
  have hturn : nvaTurn (beginCommand p s) = beginCommand p s := nvaTurn_idle (by rw [beginCommand_nva, hnva])
  have hsaved : tableSaved 0 (beginCommand p s) = (0, headerPlaces (s.reg DRC_IMAP_MODE.off)) := by
    rw [tableSaved_empty ((boardCopy_congr (beginCommand_pword p s)).trans hcopy), reg_beginCommand p s (by decide) (by decide)]
  rw [exec_dramTableSave, execDramTableSave, runCommand_passes hacc, tableSaveWork]
  dsimp only
  rw [if_neg (banked_false_beginCommand hbank), hturn, hnone, hsaved]
  rfl

theorem table_saved (hacc : s.accepts 0x0504 1 .owner p) (hbank : s.banked = false) (hnva : s.nva.waiting = []) (hcopy : boardCopy s = none)
    (hnone : bits (p.w 1) 0 4 = 0) :
    (∃ u, exec (.dramTableSave p true) s = .next (endCommand p .ok [0] u) ∧ boardWords 0 0 4 u = some [0x42445244, 1, 1, s.reg DRC_IMAP_MODE.off] ∧
      boardHeader 0 u ≠ none ∧ (∀ k, 16 ≤ k → k < 2048 → u.pword (nvaKey (boardBase 0 + k)) = s.pword (nvaKey (boardBase 0 + k))) ∧
      (∀ k, k < 2048 → u.pword (nvaKey (boardBase 1 + k)) = s.pword (nvaKey (boardBase 1 + k))) ∧
      regsKeep [NVA_WRITES_COUNT.off] (beginCommand p s) u) ∧
    (∃ u, exec (.dramTableSave p false) s = .next (endCommand p .errData [] u)) := by
  have hplace {x : Nat × Word} (hx : x ∈ headerPlaces (s.reg DRC_IMAP_MODE.off)) : x.1 < 16 :=
    List.mem_range.mp (headerPlaces_fst (s.reg DRC_IMAP_MODE.off) ▸ List.mem_map_of_mem hx)
  have hother (k : Nat) (hk : ∀ j, j < 16 → k ≠ boardBase 0 + j) :
      (nvaStoreAll (boardBase 0) (headerPlaces (s.reg DRC_IMAP_MODE.off)) (beginCommand p s)).pword (nvaKey k) = s.pword (nvaKey k) :=
    (nvaStoreAll_other (fun x hx hkey => hk x.1 (hplace hx) (by unfold nvaKey memKey at hkey; omega)) _).trans (beginCommand_pword p s _)
  refine ⟨⟨_, (table_written hacc hbank hnva hcopy hnone true).trans (congrArg _ (if_pos rfl)), boardWords_written _ _ (by decide), ?_,
    fun k hk _ => hother _ fun j hj => by omega, fun k hk => hother _ fun j hj => ?_, nvaStoreAll_regsKeep _ _ _⟩,
    ⟨_, (table_written hacc hbank hnva hcopy hnone false).trans (congrArg _ (if_neg (by decide)))⟩⟩
  · rw [boardHeader_written]
    exact Option.some_ne_none _
  · have hfirst : boardBase 0 = 0x1A000 := rfl
    have hsecond : boardBase 1 = 0x1A800 := rfl
    omega

/-- Settles O47. -/
theorem dramCommands : Obligations.DramCommands :=
  ⟨fun _ _ _ hacc hbank hidle => ⟨fun hstate => ⟨fun hg => hg ▸ start_good hacc hbank hidle hstate, fun hg => hg ▸ start_failed hacc hbank hidle hstate⟩,
      fun hstate => start_wakes hacc hbank hidle hstate, fun hstate => start_active hacc hbank hidle hstate⟩,
    fun _ _ hacc hbank hidle => ⟨fun hstate => stop_inactive hacc hbank hidle hstate,
      fun hstate hshut hdebt => ⟨fun hbit => stop_into_refresh hacc hbank hidle hstate hshut hdebt hbit,
        fun hbit => stop_offline hacc hbank hidle hstate hshut hdebt hbit⟩,
      fun hstate hopen hdebt => stop_waits hacc hbank hidle hstate hopen hdebt⟩,
    fun _ _ _ _ _ _ hacc hbank hbusy hlane => ⟨fun hlocked hcls hmask hle hpos hab hb ha0 hb0 hout =>
        lane_swept hacc hbank hbusy hlane hlocked hcls hmask rfl rfl rfl hle hpos hab hb ha0 hb0 hout,
      fun hlocked => sweep_locked hacc hbank hbusy hlocked⟩,
    fun _ _ _ _ hbank => banked_commands hbank,
    fun _ _ hacc hbank hnva hcopy hnone => table_saved hacc hbank hnva hcopy hnone⟩

end Sys2Proof.Machine
end

section
-- One proof at a time: the memory limit of the check counts a stack for every proof that waits for another.
set_option Elab.async false
/-! SUPPORT. What a DRAM controller does when it admits a request, opens a row, sends a column command and refreshes: each leaves the other
controllers and every register but its own alone (R502 to R513). -/

namespace Sys2Proof.Machine

variable {s t u : State} {c : Nat} {d : Dram} {l : List Nat}

/-! ### The frame of a controller's work -/

theorem drcKept_refl (c : Nat) (l : List Nat) (s : State) : drcKept c l s s := ⟨rfl, fun _ _ => rfl, regsKeep_refl _ s⟩

theorem drcKept_trans (h : drcKept c l s t) (h' : drcKept c l t u) : drcKept c l s u := by
  obtain ⟨hrest, hother, hregs⟩ := h
  obtain ⟨hrest', hother', hregs'⟩ := h'
  exact ⟨by rw [hrest', hrest], fun j hj => (hother' j hj).trans (hother j hj), regsKeep_trans hregs hregs'⟩

theorem drcKept_mono {l' : List Nat} (hl : ∀ k ∈ l, k ∈ l') (h : drcKept c l s t) : drcKept c l' s t :=
  ⟨h.1, h.2.1, regsKeep_mono (fun k hk => by rw [List.mem_cons] at hk ⊢; exact hk.imp_right (hl k)) h.2.2⟩

/-- Work under `drcKept` that also leaves what DRC_STATUS says beside the counts of the queues. -/
def calm (c : Nat) (l : List Nat) (s t : State) : Prop :=
  drcKept c l s t ∧ ∀ F : Field, F.key c 0 0 ∉ l → F.lo + F.w ≤ 8 ∨ 23 ≤ F.lo → t.fld F c = s.fld F c

theorem calm_refl (c : Nat) (l : List Nat) (s : State) : calm c l s s := ⟨drcKept_refl c l s, fun _ _ _ => rfl⟩

theorem calm_trans (h : calm c l s t) (h' : calm c l t u) : calm c l s u :=
  ⟨drcKept_trans h.1 h'.1, fun F hF hr => (h'.2 F hF hr).trans (h.2 F hF hr)⟩

theorem calm_mono {l' : List Nat} (hl : ∀ k ∈ l, k ∈ l') (h : calm c l s t) : calm c l' s t :=
  ⟨drcKept_mono hl h.1, fun F hF hr => h.2 F (fun hk => hF (hl _ hk)) hr⟩

theorem calm_emit (c : Nat) (l : List Nat) (s : State) (o : Out) : calm c l s (s.emit o) :=
  ⟨⟨rfl, fun _ _ => rfl, fun _ _ => rfl⟩, fun _ _ _ => rfl⟩

theorem calm_setDrc (c : Nat) (l : List Nat) (s : State) (d : Dram) : calm c l s (s.setDrc c d) :=
  ⟨⟨by rw [setDrc_rest], fun j hj => drc_setDrc_other s d hj, regsKeep_mono (by simp) (setDrc_regsKeep s c d)⟩,
    fun F _ hr => fld_setDrc s c d F c hr⟩

theorem calm_modDrc (c : Nat) (l : List Nat) (s : State) (f : Dram → Dram) : calm c l s (s.modDrc c f) := calm_setDrc c l s _

theorem calm_setFld (F : Field) (v i : Nat) (h : F.key i 0 0 ∈ l) (s : State) : calm c l s (s.setFld F v i) :=
  ⟨⟨rfl, fun _ _ => rfl, regsKeep_mono (by simpa using .inr h) (regsKeep_setFld s F v i 0 0)⟩,
    fun G hG _ => fld_setFld_elsewhere s F G v fun hkey => hG (hkey ▸ h)⟩

theorem calm_addFld (F : Field) (v i : Nat) (h : F.key i 0 0 ∈ l) (s : State) : calm c l s (s.addFld F v i) := calm_setFld F _ i h s

/-- A register takes the bits it holds. -/
theorem setBits_own (v : Word) (lo w : Nat) (h : lo + w ≤ 64) : setBits v lo w (bits v lo w) = v := by
  refine BitVec.eq_of_getLsbD_eq fun i hi => ?_
  rw [setBits_getLsbD v lo w _ i h]
  split
  case isTrue hin =>
    rw [bits, Nat.testBit_mod_two_pow, BitVec.testBit_toNat, BitVec.getLsbD_ushiftRight, Nat.add_sub_cancel' hin.1]
    simp
    omega
  case isFalse => rfl

/-- A field that is given the value it has changes no register. -/
theorem regsKeep_setFld_own (s : State) (F : Field) {v : Nat} (i : Nat) (h : s.fld F i = v) (hF : F.good := by unfold Field.good; decide) :
    regsKeep [] s (s.setFld F v i) := by
  intro k _
  by_cases hk : k = F.key i 0 0
  · rw [hk, State.setFld, reg_setReg_same, ← h, State.fld, setBits_own _ _ _ hF]
  · exact regsKeep_setFld s F v i 0 0 k (by simpa using hk)

theorem calm_setFld_own (F : Field) {v : Nat} (i : Nat) (h : s.fld F i = v) (hF : F.good := by unfold Field.good; decide) : calm c l s (s.setFld F v i) := by
  have hkeep := regsKeep_setFld_own s F i h hF
  exact ⟨⟨rfl, fun _ _ => rfl, regsKeep_mono (by simp) hkeep⟩, fun G _ _ => fld_congr G c 0 0 (hkeep _ (by simp))⟩

theorem calm.fld (h : calm c l s t) (F : Field) (hk : F.key c 0 0 ∉ l) (hr : F.lo + F.w ≤ 8 ∨ 23 ≤ F.lo := by decide) : t.fld F c = s.fld F c := h.2 F hk hr

/-- A register of the controller beside DRC_STATUS. -/
theorem calm.reg (h : calm c l s t) (F : Field) (hk : F.key c 0 0 ∉ l) (hoff : F.off ≠ 0x1400008 := by decide) (hs : F.s1 = 0x40000 := by rfl) :
    t.fld F c = s.fld F c := by
  refine fld_congr F c 0 0 (h.1.2.2 _ ?_)
  rw [List.mem_cons]
  exact not_or.mpr ⟨controller_key_ne (F := F) (G := DRC_STATUS_STATE) c hoff hs, hk⟩

theorem calm.bankOf (h : calm c l s t) (hk : DRC_GEOM_RANKS.key c 0 0 ∉ l) (b : Nat) : Machine.bankOf t c b = Machine.bankOf s c b := by
  unfold Machine.bankOf State.on
  rw [h.reg DRC_GEOM_RANKS hk]

theorem calm.rowOf (h : calm c l s t) (hk : DRC_GEOM_RANKS.key c 0 0 ∉ l) (b : Nat) : Machine.rowOf t c b = Machine.rowOf s c b := by
  unfold Machine.rowOf State.on
  rw [h.reg DRC_GEOM_RANKS hk]

/-- The counts of the queues as a controller's record is stored. -/
theorem setDrc_counts (s : State) (c : Nat) {d : Dram} (hr : d.reads.length < 128) (hw : d.writes.length < 128) :
    (s.setDrc c d).fld DRC_STATUS_RD_Q c = d.reads.length ∧ (s.setDrc c d).fld DRC_STATUS_WR_Q c = d.writes.length := by
  unfold State.setDrc
  rw [fld_setFld_beside _ DRC_STATUS_WR_Q DRC_STATUS_RD_Q, fld_setFld_fits _ DRC_STATUS_RD_Q c 0 0 hr, fld_setFld_fits _ DRC_STATUS_WR_Q c 0 0 hw]
  exact ⟨rfl, rfl⟩

/-! ### Commands and refreshes -/

theorem calm_dramSend (c : Nat) (l : List Nat) (cmd : DramCmd) (s : State) : calm c l s (dramSend c cmd s) :=
  calm_trans (calm_modDrc c l s _) (calm_emit c l _ _)

/-- The record after one more command. -/
def Dram.sent (cmd : DramCmd) (d : Dram) : Dram := { d with retry := d.retry ++ [(d.nextId, cmd)], nextId := d.nextId + 1 }

@[simp] theorem dramSend_drc (c : Nat) (cmd : DramCmd) (s : State) : (dramSend c cmd s).drc c = (s.drc c).sent cmd := drc_modDrc_same s c (Dram.sent cmd)
@[simp] theorem dramSend_out (c : Nat) (cmd : DramCmd) (s : State) : (dramSend c cmd s).out = .dramCommand c cmd :: s.out := rfl

/-- The state in which the two commands of a refresh have been sent. -/
def refreshSent (c : Nat) (s : State) : State :=
  (dramSend c .refresh (dramSend c .prechargeAll s)).modDrc c (fun d => { d with rows := [] })

theorem dramRefresh_eq (c : Nat) (s : State) : dramRefresh c s =
    ((refreshSent c s).setFld DRC_STATUS_DEBT ((refreshSent c s).fld DRC_STATUS_DEBT c - 1) c).addFld DRC_REF_COUNT_REFRESHES 1 c := rfl

theorem calm_refreshSent (c : Nat) (l : List Nat) (s : State) : calm c l s (refreshSent c s) :=
  calm_trans (calm_trans (calm_dramSend c l _ s) (calm_dramSend c l _ _)) (calm_modDrc c l _ _)

/-- The record after a refresh. -/
def Dram.refreshed (d : Dram) : Dram := { (d.sent .prechargeAll).sent .refresh with rows := [] }

@[simp] theorem dramRefresh_drc (c : Nat) (s : State) : (dramRefresh c s).drc c = (s.drc c).refreshed := by
  rw [dramRefresh_eq, drc_addFld, drc_setFld, refreshSent, drc_modDrc_same, dramSend_drc, dramSend_drc]
  rfl

theorem dramRefresh_out (c : Nat) (s : State) : (dramRefresh c s).out = .dramCommand c .refresh :: .dramCommand c .prechargeAll :: s.out := rfl

theorem refreshes_key (c : Nat) : DRC_STATUS_DEBT.key c 0 0 ≠ DRC_REF_COUNT_REFRESHES.key c 0 0 :=
  controller_key_ne (F := DRC_STATUS_DEBT) (G := DRC_REF_COUNT_REFRESHES) c

/-- A refresh pays one of the debt and counts itself. -/
theorem dramRefresh_fields (c : Nat) (s : State) : (dramRefresh c s).fld DRC_STATUS_DEBT c = s.fld DRC_STATUS_DEBT c - 1 ∧
    (dramRefresh c s).fld DRC_REF_COUNT_REFRESHES c = (s.fld DRC_REF_COUNT_REFRESHES c + 1) % 2 ^ DRC_REF_COUNT_REFRESHES.w ∧
    (dramRefresh c s).fld DRC_REF_COUNT_URGENT c = s.fld DRC_REF_COUNT_URGENT c := by
  have hcalm := calm_refreshSent c [] s
  have hdebt := hcalm.fld DRC_STATUS_DEBT (by simp)
  have hlt : s.fld DRC_STATUS_DEBT c < 16 := bits_lt _ _ _
  rw [dramRefresh_eq, hdebt]
  refine ⟨?_, ?_, ?_⟩
  · rw [fld_addFld_elsewhere _ DRC_REF_COUNT_REFRESHES DRC_STATUS_DEBT _ (refreshes_key c),
      fld_setFld_fits _ DRC_STATUS_DEBT c 0 0 (show s.fld DRC_STATUS_DEBT c - 1 < 16 by omega)]
  · rw [fld_addFld _ DRC_REF_COUNT_REFRESHES 1 c 0 0, fld_setFld_elsewhere _ DRC_STATUS_DEBT DRC_REF_COUNT_REFRESHES _ (refreshes_key c).symm, hcalm.reg DRC_REF_COUNT_REFRESHES (by simp)]
  · rw [fld_addFld_beside _ DRC_REF_COUNT_REFRESHES DRC_REF_COUNT_URGENT,
      fld_setFld_elsewhere _ DRC_STATUS_DEBT DRC_REF_COUNT_URGENT _ (controller_key_ne c), hcalm.reg DRC_REF_COUNT_URGENT (by simp)]

/-- A field of DRC_STATUS beside the debt and the counts stands through a refresh. -/
theorem dramRefresh_status (c : Nat) (s : State) (F : Field) (hF : F.off = 0x1400008 := by rfl) (hs : F.s1 = 0x40000 := by rfl)
    (hr : F.lo + F.w ≤ 8 := by decide) : (dramRefresh c s).fld F c = s.fld F c := by
  rw [dramRefresh_eq, fld_addFld_elsewhere _ DRC_REF_COUNT_REFRESHES F _ (controller_key_ne c (by rw [hF]; decide) hs),
    fld_setFld_beside _ DRC_STATUS_DEBT F _ (by simp only [DRC_STATUS_DEBT]; omega), (calm_refreshSent c [] s).fld F (by simp) (by omega)]

theorem dramRefresh_kept (h : DRC_REF_COUNT_MAX_DEBT.key c 0 0 ∈ l) (s : State) : drcKept c l s (dramRefresh c s) := by
  refine drcKept_trans (calm_refreshSent c l s).1 ?_
  rw [dramRefresh_eq]
  exact ⟨rfl, fun _ _ => rfl, regsKeep_after_setFld DRC_REF_COUNT_REFRESHES _ c 0 0
    (regsKeep_mono (by simp [drcKey, Field.key, DRC_STATUS_DEBT, DRC_STATUS_STATE]) (regsKeep_setFld _ DRC_STATUS_DEBT _ c 0 0)) (.tail _ h)⟩

theorem dramRoom_refresh {n : Nat} (hstate : s.drState c = drActive) (hstop : s.fld DRC_STATUS_ALERT_STOP c = 0) (hroom : (s.drc c).retry.length + n ≤ 64) :
    dramRoom c n s = true := decide_eq_true ⟨hstate, hstop, hroom⟩

/-- The record after `n` refreshes. -/
def Dram.refreshedTimes : Nat → Dram → Dram
  | 0, d => d
  | n + 1, d => d.refreshed.refreshedTimes n

/-- Refreshes change the open rows and the retry buffer alone. -/
theorem refreshedTimes_rest (n : Nat) (d : Dram) : d.refreshedTimes n =
    { d with rows := (d.refreshedTimes n).rows, retry := (d.refreshedTimes n).retry, nextId := (d.refreshedTimes n).nextId } := by
  induction n generalizing d with
  | zero => rfl
  | succ n ih =>
    unfold Dram.refreshedTimes
    rw [ih]
    rfl

/-- The debt above four is paid by as many urgent refreshes. -/
theorem urgentRefresh_pays (n m : Nat) (s : State) (hstate : s.drState c = drActive) (hstop : s.fld DRC_STATUS_ALERT_STOP c = 0)
    (hdebt : s.fld DRC_STATUS_DEBT c - 4 = m) (hm : m ≤ n) (hroom : (s.drc c).retry.length + 2 * m ≤ 64) :
    (urgentRefresh c n s).fld DRC_STATUS_DEBT c = min (s.fld DRC_STATUS_DEBT c) 4 ∧
    (urgentRefresh c n s).fld DRC_REF_COUNT_URGENT c = (s.fld DRC_REF_COUNT_URGENT c + m) % 2 ^ DRC_REF_COUNT_URGENT.w ∧
    (urgentRefresh c n s).drc c = (s.drc c).refreshedTimes m ∧
    (∀ F : Field, F.off = 0x1400008 → F.s1 = 0x40000 → F.lo + F.w ≤ 8 → (urgentRefresh c n s).fld F c = s.fld F c) ∧
    drcKept c [DRC_REF_COUNT_MAX_DEBT.key c 0 0] s (urgentRefresh c n s) := by
  induction m generalizing n s with
  | zero =>
    rw [urgentRefresh_paid (by omega)]
    refine ⟨by omega, ?_, rfl, fun _ _ _ _ => rfl, drcKept_refl _ _ s⟩
    exact (Nat.mod_eq_of_lt (bits_lt _ _ _)).symm
  | succ m ih =>
    obtain ⟨n, rfl⟩ : ∃ k, n = k + 1 := ⟨n - 1, by omega⟩
    obtain ⟨hdebt', -, hurgent'⟩ := dramRefresh_fields c s
    have hkey (F : Field) (hF : F.off = 0x1400008) (hs : F.s1 = 0x40000) : F.key c 0 0 ≠ DRC_REF_COUNT_URGENT.key c 0 0 :=
      controller_key_ne c (by rw [hF]; decide) hs
    have hpaid : ((dramRefresh c s).addFld DRC_REF_COUNT_URGENT 1 c).fld DRC_STATUS_DEBT c = s.fld DRC_STATUS_DEBT c - 1 := by
      rw [fld_addFld_elsewhere _ DRC_REF_COUNT_URGENT DRC_STATUS_DEBT _ (hkey _ rfl rfl), hdebt']
    have hstatus (F : Field) (hF : F.off = 0x1400008) (hs : F.s1 = 0x40000) (hr : F.lo + F.w ≤ 8) :
        ((dramRefresh c s).addFld DRC_REF_COUNT_URGENT 1 c).fld F c = s.fld F c := by
      rw [fld_addFld_elsewhere _ DRC_REF_COUNT_URGENT F _ (hkey F hF hs), dramRefresh_status c s F hF hs hr]
    have hdrc : ((dramRefresh c s).addFld DRC_REF_COUNT_URGENT 1 c).drc c = (s.drc c).refreshed := dramRefresh_drc c s
    have hlen : (s.drc c).refreshed.retry.length = (s.drc c).retry.length + 2 := by
      simp [Dram.refreshed, Dram.sent]
    obtain ⟨hfin, hcount, hrec, hfld, hkept⟩ := ih n ((dramRefresh c s).addFld DRC_REF_COUNT_URGENT 1 c) ((hstatus DRC_STATUS_STATE rfl rfl (by decide)).trans hstate)
      ((hstatus DRC_STATUS_ALERT_STOP rfl rfl (by decide)).trans hstop) (by omega) (by omega) (by rw [hdrc, hlen]; omega)
    have hstep : urgentRefresh c (n + 1) s = urgentRefresh c n ((dramRefresh c s).addFld DRC_REF_COUNT_URGENT 1 c) :=
      if_pos ⟨by omega, dramRoom_refresh hstate hstop (by omega)⟩
    rw [hstep]
    refine ⟨by omega, ?_, ?_, fun F hF hs hr => (hfld F hF hs hr).trans (hstatus F hF hs hr), drcKept_trans (drcKept_trans (dramRefresh_kept (.head _) s) ?_) hkept⟩
    · rw [hcount, fld_addFld _ DRC_REF_COUNT_URGENT 1 c 0 0, hurgent', Nat.mod_add_mod]
      congr 1
      omega
    · rw [hrec, hdrc]
      rfl
    · exact (calm_addFld DRC_REF_COUNT_URGENT 1 c (.head _) _).1

end Sys2Proof.Machine
end

section
-- One proof at a time: the memory limit of the check counts a stack for every proof that waits for another.
set_option Elab.async false
/-! SUPPORT. One request of a DRAM controller from its entry to its column command (R502 to R505, R510). -/

namespace Sys2Proof.Machine

variable {s t : State} {c : Nat} {d : Dram} {l : List Nat} {q : DramJob} {b n k : Nat}

/-! ### Answers -/

/-- The register in which an endpoint counts its requests. -/
def outstandingKey (c : Nat) : Nat := NOC_EPe_STATUS_OUTSTANDING.key (dramEndpoint c) 0 0

theorem calm_answeredAt (h : outstandingKey c ∈ l) (s : State) : calm c l s (answeredAt (dramEndpoint c) s) :=
  calm_setFld NOC_EPe_STATUS_OUTSTANDING _ (dramEndpoint c) h s

theorem calm_dramAnswer (h : outstandingKey c ∈ l) (src tag : Nat) (st : Status) (data : List Word) (s : State) :
    calm c l s (dramAnswer c src tag st data s) := calm_trans (calm_emit c l s _) (calm_answeredAt h _)

@[simp] theorem dramAnswer_drc (src tag : Nat) (st : Status) (data : List Word) (s : State) : (dramAnswer c src tag st data s).drc c = s.drc c := rfl
theorem dramAnswer_out (src tag : Nat) (st : Status) (data : List Word) (s : State) :
    (dramAnswer c src tag st data s).out = .response src tag st data :: s.out := rfl

/-! ### Admission -/

theorem admitScrub_none (h : (s.drc c).scrubs = []) : admitScrub c s = s := by
  unfold admitScrub
  dsimp only
  rw [h]

theorem dramAdmit_none (hw : (s.drc c).waiting = []) (hs : (s.drc c).scrubs = []) (n : Nat) : dramAdmit c n s = s := by
  cases n with
  | zero => rfl
  | succ n =>
    unfold dramAdmit
    dsimp only
    rw [admitScrub_none hs, hw]

/-- A request that waits alone enters its queue, which has room. -/
theorem dramAdmit_one (hw : (s.drc c).waiting = [q]) (hs : (s.drc c).scrubs = []) (hreads : (s.drc c).reads = []) (hwrites : (s.drc c).writes = []) (n : Nat) :
    dramAdmit c (n + 1) s = dramAdmit c n (enterQueue c q (s.modDrc c (fun d => { d with waiting := [] }))) := by
  conv_lhs => unfold dramAdmit
  dsimp only
  rw [admitScrub_none hs, hw]
  dsimp only
  rw [if_pos (by rw [hreads, hwrites]; split <;> decide)]
  rfl

theorem enterQueue_read (hq : q.write = false) (hb : q.bursts = [b]) (hreads : (s.drc c).reads = []) : calm c l s (enterQueue c q s) ∧
    (enterQueue c q s).drc c = { s.drc c with serial := (s.drc c).serial + 1, reads := [⟨(s.drc c).serial, q.src, q.tag, q.l, q.size, [b], 1, [], false, q.since⟩] } ∧
    (enterQueue c q s).out = s.out := by
  unfold enterQueue
  dsimp only
  rw [hb, if_neg (by rw [hq]; decide)]
  refine ⟨calm_trans (calm_modDrc c l s _) (calm_modDrc c l _ _), ?_, rfl⟩
  rw [drc_modDrc_same, drc_modDrc_same, hreads]
  rfl

/-- The burst that a whole write puts into the queue. -/
def wholeWrite (q : DramJob) (b : Nat) : DramBurst :=
  { burst := b, mask := q.maskOf b, data := q.dataOf b, info := burstInfo q.poison q.ident, phase := 2, waiters := [] }

/-- The state before a whole write's burst is entered: nothing queued was merged or repaired. -/
def entered (c : Nat) (q : DramJob) (b serial : Nat) (s : State) : State :=
  (s.modDrc c (fun d => { d with
    scrubs := d.scrubs.filter (fun x => decide (x.1 ≠ b))
    writes := d.writes.filter (fun w => !(w.scrub && w.bursts.any (fun x => decide (x.burst = b)))) })).modDrc c (fun d => { d with
    writes := if d.writes.any (fun w => decide (w.serial = serial)) then
        d.writes.map (fun w => if w.serial = serial then { w with bursts := w.bursts ++ [wholeWrite q b] } else w)
      else d.writes ++ [DramWrite.mk serial [wholeWrite q b] false q.since] })

theorem entered_drc (hscrubs : (s.drc c).scrubs = []) (hwrites : (s.drc c).writes = []) :
    (entered c q b k s).drc c = { s.drc c with scrubs := [], writes := [⟨k, [wholeWrite q b], false, q.since⟩] } := by
  unfold entered
  rw [drc_modDrc_same, drc_modDrc_same, hscrubs, hwrites]
  rfl

theorem calm_entered (c : Nat) (l : List Nat) (q : DramJob) (b k : Nat) (s : State) : calm c l s (entered c q b k s) :=
  calm_trans (calm_modDrc c l s _) (calm_modDrc c l _ _)

theorem enterBurst_whole (hmask : wholeBurst (q.maskOf b) = true) (hwrites : (s.drc c).writes = []) :
    enterBurst c q k s b = mergeDone c [k] false (entered c q b k s) := by
  have hnone : ((s.modDrc c (fun d => { d with
      scrubs := d.scrubs.filter (fun x => decide (x.1 ≠ b))
      writes := d.writes.filter (fun w => !(w.scrub && w.bursts.any (fun x => decide (x.burst = b)))) })).drc c).writeOf b = none := by
    rw [drc_modDrc_same, hwrites]
    rfl
  unfold enterBurst
  dsimp only
  rw [hnone]
  dsimp only
  rw [hmask, if_pos rfl]
  rfl

/-- The only merge that a request waits for ends. -/
theorem mergeDone_last {a : DramAnswer} (h : (s.drc c).answers = [a]) (hk : a.serial = k) (hleft : a.left = 1) (hbad : a.bad = false) :
    mergeDone c [k] false s = dramAnswer c a.src a.tag .ok [] (s.modDrc c (fun d => { d with answers := [] })) := by
  have hupd : (s.drc c).answers.map (fun a => if [k].contains a.serial then { a with left := a.left - [k].count a.serial, bad := a.bad || false } else a) =
      [{ a with left := 0, bad := false }] := by
    rw [h]
    simp [hk, hleft, hbad]
  unfold mergeDone
  dsimp only
  rw [hupd]
  rfl

/-- The state in which a write has been numbered and its answer is due. -/
def numbered (c : Nat) (q : DramJob) (s : State) : State :=
  (s.modDrc c (fun d => { d with serial := (s.drc c).serial + 1 })).modDrc c (fun d => { d with
    answers := d.answers ++ [DramAnswer.mk (s.drc c).serial q.src q.tag q.bursts.length false] })

/-- The record with a whole write queued. -/
def withWrite (q : DramJob) (b : Nat) (d : Dram) : Dram :=
  { d with serial := d.serial + 1, scrubs := [], answers := [], writes := [⟨d.serial, [wholeWrite q b], false, q.since⟩] }

theorem numbered_drc (hb : q.bursts = [b]) (hanswers : (s.drc c).answers = []) : (numbered c q s).drc c =
    { s.drc c with serial := (s.drc c).serial + 1, answers := [⟨(s.drc c).serial, q.src, q.tag, 1, false⟩] } := by
  unfold numbered
  rw [drc_modDrc_same, drc_modDrc_same, hanswers, hb]
  rfl

/-- The burst of a whole write enters the queue and the write is answered. -/
theorem enterBurst_answers (hb : q.bursts = [b]) (hmask : wholeBurst (q.maskOf b) = true) (hscrubs : (s.drc c).scrubs = [])
    (hwrites : (s.drc c).writes = []) (hanswers : (s.drc c).answers = []) (hl : outstandingKey c ∈ l) :
    calm c l s (enterBurst c q (s.drc c).serial (numbered c q s) b) ∧
    (enterBurst c q (s.drc c).serial (numbered c q s) b).drc c = withWrite q b (s.drc c) ∧
    (enterBurst c q (s.drc c).serial (numbered c q s) b).out = .response q.src q.tag .ok [] :: s.out := by
  have hnum := numbered_drc hb hanswers
  have hent : (entered c q b (s.drc c).serial (numbered c q s)).drc c =
      { withWrite q b (s.drc c) with answers := [⟨(s.drc c).serial, q.src, q.tag, 1, false⟩] } := by
    rw [entered_drc (by rw [hnum, hscrubs]) (by rw [hnum, hwrites]), hnum]
    rfl
  rw [enterBurst_whole hmask (by rw [hnum, hwrites]),
    mergeDone_last (a := ⟨(s.drc c).serial, q.src, q.tag, 1, false⟩) (k := (s.drc c).serial) (by rw [hent]) rfl rfl rfl]
  refine ⟨calm_trans (calm_trans (calm_trans (calm_modDrc c l s _) (calm_modDrc c l _ _)) (calm_entered c l q b _ _))
    (calm_trans (calm_modDrc c l _ _) (calm_dramAnswer hl _ _ _ _ _)), ?_, ?_⟩
  · rw [dramAnswer_drc, drc_modDrc_same, hent]
    rfl
  · rw [dramAnswer_out, modDrc_out, entered, modDrc_out, modDrc_out, numbered, modDrc_out, modDrc_out]

theorem enterQueue_write (hq : q.write = true) (hb : q.bursts = [b]) (hmask : wholeBurst (q.maskOf b) = true) (hscrubs : (s.drc c).scrubs = [])
    (hwrites : (s.drc c).writes = []) (hanswers : (s.drc c).answers = []) (hhwm : 2 ≤ s.fld DRC_CTL_HWM c)
    (hl : outstandingKey c ∈ l) (hk : DRC_CTL_HWM.key c 0 0 ∉ l) : calm c l s (enterQueue c q s) ∧
    (enterQueue c q s).drc c = withWrite q b (s.drc c) ∧ (enterQueue c q s).out = .response q.src q.tag .ok [] :: s.out := by
  have hspec := enterBurst_answers (l := l) hb hmask hscrubs hwrites hanswers hl
  have hshape : enterQueue c q s = if (enterBurst c q (s.drc c).serial (numbered c q s) b).fld DRC_CTL_HWM c ≤
      ((enterBurst c q (s.drc c).serial (numbered c q s) b).drc c).writes.length then
        (enterBurst c q (s.drc c).serial (numbered c q s) b).setFld DRC_STATUS_DRAINING 1 c else enterBurst c q (s.drc c).serial (numbered c q s) b := by
    unfold enterQueue numbered
    dsimp only
    rw [hb, if_pos hq]
    rfl
  rw [hshape, hspec.1.reg DRC_CTL_HWM hk, hspec.2.1, if_neg (show ¬ s.fld DRC_CTL_HWM c ≤ (withWrite q b (s.drc c)).writes.length from fun h => Nat.not_succ_le_self 1 (hhwm.trans h))]
  exact hspec

/-! ### Choice and issue -/

theorem dramPrefer_one (c : Nat) (s : State) (p : DramPick) : dramPrefer c s [p] = some p := by
  unfold dramPrefer
  split
  · rfl
  · split
    next x hx => exact congrArg some (List.mem_singleton.mp (List.mem_of_find?_eq_some hx))
    · rfl

/-- The controller issues its choice and goes on. -/
theorem dramIssue_next {a : State} {p : DramPick} (ha : dramAdmit c 256 s = a) (hdebt : a.fld DRC_STATUS_DEBT c ≤ 4)
    (hbefore : (s.drc c).owed = []) (howed : (a.drc c).owed = [])
    (hpick : dramPick c a = some p) (hroom : dramRoom c (dramNeed c p a) a = true) (n : Nat) : dramIssue c (n + 1) s = dramIssue c n (dramIssueOne c p a) := by
  conv_lhs => unfold dramIssue
  dsimp only
  rw [ha, urgentRefresh_paid hdebt, hbefore]
  unfold payNeighbours
  rw [hpick]
  dsimp only
  rw [howed, if_pos ⟨rfl, hroom⟩]

/-- The controller has nothing to choose. -/
theorem dramIssue_stays (ha : dramAdmit c 256 s = s) (hdebt : s.fld DRC_STATUS_DEBT c ≤ 4) (howed : (s.drc c).owed = [])
    (hpick : dramPick c s = none) (n : Nat) : dramIssue c n s = s := by
  cases n with
  | zero => rfl
  | succ n =>
    unfold dramIssue
    dsimp only
    rw [ha, urgentRefresh_paid hdebt, howed]
    unfold payNeighbours
    rw [hpick]

/-- The state in which a row has been opened in a bank that had none. -/
def rowOpened (c bank row : Nat) (s : State) : State :=
  (dramSend c (.activate bank row) s).modDrc c (fun d => { d with rows := (bank, row) :: d.rows.filter (fun e => decide (e.1 ≠ bank)) })

theorem calm_rowOpened (c : Nat) (l : List Nat) (bank row : Nat) (s : State) : calm c l s (rowOpened c bank row s) :=
  calm_trans (calm_dramSend c l _ s) (calm_modDrc c l _ _)

theorem rowOpened_drc (bank row : Nat) (h : (s.drc c).rows = []) : (rowOpened c bank row s).drc c = { (s.drc c).sent (.activate bank row) with rows := [(bank, row)] } := by
  unfold rowOpened
  rw [drc_modDrc_same, dramSend_drc, Dram.sent, h]
  rfl

theorem rowOpened_out (bank row : Nat) (s : State) : (rowOpened c bank row s).out = .dramCommand c (.activate bank row) :: s.out := rfl

theorem dramIssueOne_closed {p : DramPick} (hp : p.burst = b) (h : (s.drc c).rows = []) : dramIssueOne c p s =
    countActivate c (bankOf s c b) (rowOf s c b) (dramColumn c p (rowOpened c (bankOf s c b) (rowOf s c b) s)) := by
  subst hp
  have hopen (bank : Nat) : ¬ bankOpen c bank s = true := by
    unfold bankOpen
    rw [h]
    exact Bool.false_ne_true
  unfold dramIssueOne
  dsimp only
  rw [h, if_neg (by simp), if_neg (hopen _)]
  rfl

theorem dramNeed_closed (p : DramPick) (h : (s.drc c).rows = []) : dramNeed c p s = 2 := by
  unfold dramNeed bankOpen
  dsimp only
  rw [h]
  rfl

/-- The first activate of a bank's first row is counted, and its count is not above the threshold. -/
theorem countActivate_first (bank row : Nat) (htables : (s.drc c).tables = []) (hthresh : 2 ≤ s.fld DRC_CTL_THRESH c) :
    countActivate c bank row s = (s.addFld DRC_RD_COUNT_TRR 0 c).modDrc c (fun d => { d with
      tables := Memory.set (fun _ => []) d.tables bank [(row, 1)], owed := d.owed ++ [] }) := by
  have htable : tableActivate (Memory.get (fun _ => []) (s.drc c).tables bank) row = ([(row, 1)], 0, false) := by
    rw [htables]
    rfl
  have hhot : decide ((if s.on DRC_STATUS_FIRST_WINDOW c then s.fld DRC_CTL_THRESH c / 2 else s.fld DRC_CTL_THRESH c) <
      (nth (0, 0) [(row, 1)] 0).2) = false := by
    have hone : (nth (0, 0) [(row, 1)] 0).2 = 1 := rfl
    rw [decide_eq_false_iff_not, hone]
    split <;> omega
  unfold countActivate
  rw [htable]
  dsimp only
  rw [if_neg Bool.false_ne_true, hhot]
  rfl

theorem calm_countActivate (bank row : Nat) (htables : (s.drc c).tables = []) (hthresh : 2 ≤ s.fld DRC_CTL_THRESH c) :
    calm c l s (countActivate c bank row s) := by
  rw [countActivate_first bank row htables hthresh]
  exact calm_trans (calm_setFld_own DRC_RD_COUNT_TRR c rfl) (calm_modDrc c l _ _)

theorem countActivate_drc (bank row : Nat) (htables : (s.drc c).tables = []) (hthresh : 2 ≤ s.fld DRC_CTL_THRESH c) :
    (countActivate c bank row s).drc c = { s.drc c with tables := [(bank, [(row, 1)])] } := by
  rw [countActivate_first bank row htables hthresh, drc_modDrc_same, drc_addFld, htables, List.append_nil]
  rfl

theorem countActivate_out (bank row : Nat) (htables : (s.drc c).tables = []) (hthresh : 2 ≤ s.fld DRC_CTL_THRESH c) :
    (countActivate c bank row s).out = s.out := by
  rw [countActivate_first bank row htables hthresh]
  rfl

/-- The counts of the queues after an activate has been counted. -/
theorem countActivate_counts (bank row : Nat) (htables : (s.drc c).tables = []) (hthresh : 2 ≤ s.fld DRC_CTL_THRESH c)
    (hr : (s.drc c).reads.length < 128) (hw : (s.drc c).writes.length < 128) :
    (countActivate c bank row s).fld DRC_STATUS_RD_Q c = (s.drc c).reads.length ∧
    (countActivate c bank row s).fld DRC_STATUS_WR_Q c = (s.drc c).writes.length := by
  rw [countActivate_first bank row htables hthresh]
  exact setDrc_counts _ c hr hw

end Sys2Proof.Machine
end

section
-- One proof at a time: the memory limit of the check counts a stack for every proof that waits for another.
set_option Elab.async false
/-! SUPPORT. The end of a command and its reply: what the reply's way can change (R588 to R591). -/

namespace Sys2Proof.Machine

variable {s t u : State}

/-- Work that changes the commands, the ring's ports and what is sent, and of the registers only those of the commands (below 0x210000),
of the interrupt vectors and of the masters' own copies. -/
def replied (s t : State) : Prop :=
  t = { s with regs := t.regs, hc := t.hc, ring := t.ring, out := t.out } ∧ ∀ k, 0x210000 ≤ k → k < 0x1820000 → t.reg k = s.reg k

theorem replied_refl (s : State) : replied s s := ⟨rfl, fun _ _ _ => rfl⟩

theorem replied_trans (h : replied s t) (h' : replied t u) : replied s u := by
  obtain ⟨hrest, hkeep⟩ := h
  obtain ⟨hrest', hkeep'⟩ := h'
  exact ⟨by rw [hrest', hrest], fun k hlo hhi => (hkeep' k hlo hhi).trans (hkeep k hlo hhi)⟩

theorem replied_ite {P : Prop} [Decidable P] (ht : replied s t) (hu : replied s u) : replied s (if P then t else u) := by
  split
  · exact ht
  · exact hu

theorem replied_setReg (s : State) (v : Word) {k : Nat} (hk : k < 0x210000 ∨ 0x1820000 ≤ k) : replied s (s.setReg k v) :=
  ⟨rfl, fun j hlo hhi => reg_setReg_other s v (by omega)⟩

theorem replied_setFld (s : State) (F : Field) (v i : Nat) (hF : F.key i 0 0 < 0x210000) : replied s (s.setFld F v i) := replied_setReg s _ (.inl hF)

theorem replied_setMfld (s : State) (F : Field) (slot v : Nat) (hF : F.key 0 0 0 < 0x210000 := by decide) : replied s (s.setMfld F slot v) := by
  refine replied_setReg s _ ?_
  cases slot with
  | zero => exact .inl hF
  | succ n => exact .inr (by simp only [slotSpan]; omega)

theorem replied_modPort (s : State) (p : Nat) (f : BrPort → BrPort) : replied s (s.modPort p f) := ⟨rfl, fun _ _ _ => rfl⟩

theorem replied_emit (s : State) (o : Out) : replied s (s.emit o) := ⟨rfl, fun _ _ _ => rfl⟩

theorem replied_pumpQueue (p : Nat) (l : List (Bool × BrFrame)) (blocked : List Nat) (s : State) : replied s (pumpQueue p l blocked s) := by
  induction l generalizing blocked s with
  | nil => exact replied_refl s
  | cons e r ih =>
    unfold pumpQueue
    split
    · exact replied_trans (replied_trans (replied_modPort s p _) (replied_emit _ _)) (ih _ _)
    · exact replied_trans (replied_modPort s p _) (ih _ _)

theorem replied_pumpPort (p : Nat) (s : State) : replied s (pumpPort p s) := replied_trans (replied_modPort s p _) (replied_pumpQueue p _ _ _)

theorem replied_sendFrame (fresh : Bool) (f : BrFrame) (p : Nat) (s : State) : replied s (sendFrame fresh f p s) :=
  replied_trans (replied_modPort s p _) (replied_pumpPort p _)

theorem replied_routeSource (src : Nat) (s : State) : replied s (routeSource src s) := by
  obtain ⟨hrest, hkeep⟩ := routeSource_onlySends src s
  refine ⟨by rw [hrest], fun k hlo hhi => hkeep k ?_⟩
  simp only [routeKeys, vectorKeys, pbaKey, Field.key, FLT_VECf_RAISED_RAISED, List.mem_append, List.mem_cons, List.not_mem_nil, or_false]
  omega

/-- The reply event of a local master is a notification. -/
theorem replied_reply_event {slot : Nat} (h : slot < 4) (s : State) : replied s (raise (0x108 + slot) 0 s) := by
  have hrange : sourceRange (0x108 + slot) = some ⟨0x104, 0x10B, 1, true, true⟩ := by
    interval_cases slot <;> decide
  unfold raise raiseFrom
  rw [hrange]
  exact replied_routeSource _ s

theorem replied_queueReply (slot : Nat) (r : Reply) (s : State) : replied s (queueReply slot r s) := by
  have hset (l : List Reply) : replied s (setReplyQueue slot l s) :=
    replied_trans (replied_setMfld s HC_REPLY_STATUS_QUEUED slot l.length) ⟨rfl, fun _ _ _ => rfl⟩
  unfold queueReply
  dsimp only
  split
  next h => exact replied_trans (hset _) (replied_reply_event h _)
  next => exact hset _

theorem replied_sendReply (m : Ident) (r : Reply) (s : State) : replied s (sendReply m r s) := by
  unfold sendReply sendRemoteReply
  split
  · split
    · exact replied_setMfld s HC_REPLY_STATUS_LOST 6 _
    · exact replied_trans ⟨rfl, fun _ _ _ => rfl⟩ (replied_sendFrame true _ _ _)
  · split
    · exact replied_queueReply _ r s
    · exact replied_refl s

theorem replied_freeEntry (m : Ident) (s : State) : replied s (freeEntry m s) := by
  unfold freeEntry
  split
  · split
    · exact replied_setMfld s HC_SUBMIT_STATUS_RESERVED _ _
    · exact replied_refl s
  · exact replied_refl s

/-- The state in which a command has left the commands in execution. -/
def leftExecution (p : Packet) (s : State) : State :=
  { s with hc := { s.hc with running := dropFirstP (fun r : Running => decide (r.pkt = p)) s.hc.running } }.setFld HC_STATUS_EXECUTING
    (dropFirstP (fun r : Running => decide (r.pkt = p)) s.hc.running).length

theorem replied_leftExecution (p : Packet) (s : State) : replied s (leftExecution p s) :=
  replied_trans ⟨rfl, fun _ _ _ => rfl⟩ (replied_setFld _ HC_STATUS_EXECUTING _ 0 (by decide))

theorem replied_endCommand (p : Packet) (st : Rs) (ws : List Word) (s : State) : replied s (endCommand p st ws s) := by
  have hleft := replied_leftExecution p s
  exact replied_ite hleft (replied_ite (replied_trans hleft (replied_freeEntry _ _)) (replied_trans hleft (replied_sendReply _ _ _)))

theorem replied.fld (h : replied s t) (F : Field) (i : Nat) (hlo : 0x210000 ≤ F.key i 0 0) (hhi : F.key i 0 0 < 0x1820000) : t.fld F i = s.fld F i :=
  fld_congr F i 0 0 (h.2 _ hlo hhi)

end Sys2Proof.Machine
end

section
-- One proof at a time: the memory limit of the check counts a stack for every proof that waits for another.
set_option Elab.async false
/-! SUPPORT. DRAM_REQUEST and DRAM_READ_DATA (R493, R499 to R505). -/

namespace Sys2Proof.Machine

variable {s t : State} {c : Nat} {d : Dram} {q : DramJob} {b n k l : Nat}

/-! ### A request that meets a controller out of ACTIVE (R493) -/

theorem request_elsewhere {c : Fin 4} {q : DramReq} (ht : dramTarget q.addr s = some (n, l)) (hn : n ≠ c.val) : exec (.dramRequest c q) s = .next s := by
  rw [exec_dramRequest, execDramRequest, ht]
  dsimp only
  rw [if_pos hn]

theorem request_inactive {c : Fin 4} {q : DramReq} (ht : dramTarget q.addr s = some (n, l)) (hn : n = c.val) (hstate : s.drState c ≠ drActive) :
    exec (.dramRequest c q) s = .next (dramFenced c s (q.job l (phyCycles c s))) := by
  rw [exec_dramRequest, execDramRequest, ht]
  dsimp only
  rw [if_neg (not_not.mpr hn), if_neg hstate]

theorem fenced_kept (c : Nat) (s : State) (q : DramJob) : drcKept c [NOC_COUNTS_FENCED.off, outstandingKey c] s (dramFenced c s q) := by
  unfold dramFenced
  refine drcKept_trans ?_ (calm_dramAnswer (.tail _ (.head _)) _ _ _ _ _).1
  exact ⟨rfl, fun _ _ => rfl, regsKeep_after_setFld NOC_EPe_STATUS_FENCED _ (dramEndpoint c) 0 0
    (regsKeep_mono (by simp [Field.key, NOC_COUNTS_FENCED]) (regsKeep_setFld s NOC_COUNTS_FENCED _ 0 0 0)) (by simp [outstandingKey, Field.key, NOC_EPe_STATUS_FENCED, NOC_EPe_STATUS_OUTSTANDING])⟩

theorem fenced_counted (c : Nat) (s : State) (q : DramJob) : (dramFenced c s q).fld NOC_COUNTS_FENCED = (s.fld NOC_COUNTS_FENCED + 1) % 2 ^ 16 := by
  have hkey (F : Field) (hF : F.off = 0x601000) (hs : F.s1 = 8) : NOC_COUNTS_FENCED.key 0 0 0 ≠ F.key (dramEndpoint c) 0 0 := by
    simp only [Field.key, hF, hs, NOC_COUNTS_FENCED]
    omega
  unfold dramFenced dramAnswer answeredAt
  rw [fld_setFld_elsewhere _ NOC_EPe_STATUS_OUTSTANDING NOC_COUNTS_FENCED _ (hkey _ rfl rfl), emit_fld,
    fld_addFld_elsewhere _ NOC_EPe_STATUS_FENCED NOC_COUNTS_FENCED _ (hkey _ rfl rfl), fld_addFld _ NOC_COUNTS_FENCED 1 0 0 0]
  rfl

theorem request_fenced {c : Fin 4} {q : DramReq} (ht : dramTarget q.addr s = some (n, l)) (hn : n = c.val) (hstate : s.drState c ≠ drActive) :
    ∃ t, exec (.dramRequest c q) s = .next t ∧ t.dram = s.dram ∧
      t.out = .response q.src q.tag .fenced (if q.write then [] else List.replicate (wordsTouched l q.size) 0) :: s.out ∧
      t.fld NOC_COUNTS_FENCED = (s.fld NOC_COUNTS_FENCED + 1) % 2 ^ 16 ∧
      drcKept c [NOC_COUNTS_FENCED.off, NOC_EPe_STATUS_OUTSTANDING.key (dramEndpoint c) 0 0] s t :=
  ⟨_, request_inactive ht hn hstate, rfl, dramAnswer_out _ _ _ _ _, fenced_counted c s _, fenced_kept c s _⟩

/-! ### A request that a controller serves at once (R502 to R505, R510) -/

/-- The controller serves the request alone: it is admitted, its row is opened, its column command sent. -/
theorem dramRun_single {a f : State} {p : DramPick} (hadmit : dramAdmit c 256 s = a) (hdebt : a.fld DRC_STATUS_DEBT c ≤ 4) (hbefore : (s.drc c).owed = [])
    (howed : (a.drc c).owed = []) (hrows : (a.drc c).rows = []) (hpick : dramPick c a = some p) (hroom : dramRoom c 2 a = true) (hf : dramIssueOne c p a = f)
    (hstays : dramAdmit c 256 f = f) (hdebt' : f.fld DRC_STATUS_DEBT c ≤ 4) (howed' : (f.drc c).owed = []) (hpick' : dramPick c f = none)
    (hstop : (f.drc c).stopping = none) : dramRun c s = f := by
  unfold dramRun dramAdvance
  dsimp only
  rw [dramIssue_next hadmit hdebt hbefore howed hpick (by rw [dramNeed_closed p hrows]; exact hroom) 255, hf,
    dramIssue_stays hstays hdebt' howed' hpick' 255, hstop]

theorem dramColumn_read {r : DramRead} (hreads : (s.drc c).reads = [r]) (hk : r.serial = k) (htodo : r.todo = [b]) (L : List Nat) :
    calm c L s (dramColumn c (.read b (some k)) s) ∧
    (dramColumn c (.read b (some k)) s).drc c = { s.drc c with
      reads := [{ r with todo := [] }], flights := (s.drc c).flights ++ [⟨(s.drc c).nextId, b, some k, none⟩],
      retry := (s.drc c).retry ++ [((s.drc c).nextId, .read b)], nextId := (s.drc c).nextId + 1 } ∧
    (dramColumn c (.read b (some k)) s).out = .dramCommand c (.read b) :: s.out := by
  have hdone : [r].map (fun r => if r.serial = k then { r with todo := dropFirst b r.todo } else r) = [{ r with todo := [] }] := by
    simp [hk, htodo, dropFirst]
  unfold dramColumn
  dsimp only
  refine ⟨calm_trans (calm_trans (calm_modDrc c L s _) (calm_dramSend c L _ _)) (calm_modDrc c L _ _), ?_, rfl⟩
  rw [drc_modDrc_same, dramSend_drc, drc_modDrc_same, Dram.sent, hreads]
  dsimp only
  rw [hdone]

/-- The state in which the column command of the queue's only burst has been sent. -/
def columnSent (c b : Nat) (x : DramBurst) (s : State) : State :=
  (dramSend c (.write b x.data (burstCheck b x.data x.info)) s).modDrc c (fun d => { d with
    writes := (d.writes.map (fun w => { w with bursts := w.bursts.filter (fun y => decide (y.burst ≠ b)) })).filter (fun w => !w.bursts.isEmpty) })

theorem calm_columnSent (c b : Nat) (x : DramBurst) (L : List Nat) (s : State) : calm c L s (columnSent c b x s) :=
  calm_trans (calm_dramSend c L _ s) (calm_modDrc c L _ _)

theorem columnSent_out (c b : Nat) (x : DramBurst) (s : State) :
    (columnSent c b x s).out = .dramCommand c (.write b x.data (burstCheck b x.data x.info)) :: s.out := rfl

theorem columnSent_drc {w : DramWrite} {x : DramBurst} (hwrites : (s.drc c).writes = [w]) (hw : w.bursts = [x]) (hx : x.burst = b) :
    (columnSent c b x s).drc c = { (s.drc c).sent (.write b x.data (burstCheck b x.data x.info)) with writes := [] } := by
  have hnone : ([w].map (fun w => { w with bursts := w.bursts.filter (fun y => decide (y.burst ≠ b)) })).filter (fun w => !w.bursts.isEmpty) = [] := by
    simp [hw, hx]
  unfold columnSent
  rw [drc_modDrc_same, dramSend_drc, Dram.sent]
  dsimp only
  rw [hwrites, hnone]

theorem dramColumn_write_eq {w : DramWrite} {x : DramBurst} (hwrites : (s.drc c).writes = [w]) (hw : w.bursts = [x]) (hx : x.burst = b) :
    dramColumn c (.write b) s = (columnSent c b x s).setFld DRC_STATUS_DRAINING 0 c := by
  have hof : (s.drc c).writeOf b = some x := by
    unfold Dram.writeOf
    rw [hwrites, List.flatMap_cons, hw]
    simp [hx]
  have hlen : ((columnSent c b x s).drc c).writes.length ≤ (columnSent c b x s).fld DRC_CTL_LWM c := by
    rw [columnSent_drc hwrites hw hx]
    exact Nat.zero_le _
  unfold dramColumn
  dsimp only
  rw [hof]
  exact if_pos hlen

theorem dramColumn_write {w : DramWrite} {x : DramBurst} (hwrites : (s.drc c).writes = [w]) (hw : w.bursts = [x]) (hx : x.burst = b)
    (hdraining : s.fld DRC_STATUS_DRAINING c = 0) (L : List Nat) : calm c L s (dramColumn c (.write b) s) ∧
    (dramColumn c (.write b) s).drc c = { (s.drc c).sent (.write b x.data (burstCheck b x.data x.info)) with writes := [] } ∧
    (dramColumn c (.write b) s).out = .dramCommand c (.write b x.data (burstCheck b x.data x.info)) :: s.out := by
  have hzero : (columnSent c b x s).fld DRC_STATUS_DRAINING c = 0 :=
    ((calm_columnSent c b x [] s).fld DRC_STATUS_DRAINING (by simp)).trans hdraining
  rw [dramColumn_write_eq hwrites hw hx, setFld_out, columnSent_out, drc_setFld, columnSent_drc hwrites hw hx]
  exact ⟨calm_trans (calm_columnSent c b x L s) (calm_setFld_own DRC_STATUS_DRAINING c hzero), rfl, rfl⟩

/-- A controller with nothing to take in or to choose. -/
theorem nothing_left {f : State} (hw : (f.drc c).waiting = []) (hs : (f.drc c).scrubs = []) : dramAdmit c 256 f = f := dramAdmit_none hw hs 256

theorem off_of_zero {F : Field} (h : s.fld F c = 0) : s.on F c = false := by
  unfold State.on
  rw [h]
  rfl

/-- The controller with the request alone in its ejection buffer. -/
def arrived (c : Nat) (q : DramJob) (s : State) : State := s.modDrc c (fun d => { d with waiting := d.waiting ++ [q] })

theorem request_active {c : Fin 4} {r : DramReq} (ht : dramTarget r.addr s = some (c.val, l)) (hstate : s.drState c = drActive) :
    exec (.dramRequest c r) s = .next (dramRun c (arrived c (r.job l (phyCycles c s)) s)) := by
  rw [exec_dramRequest, execDramRequest, ht]
  dsimp only
  rw [if_neg (not_not.mpr rfl), if_pos hstate]
  rfl

/-! ### The whole way of a request -/

/-- The record after a row has been opened and counted for a column command. -/
def opened (bank row : Nat) (d : Dram) : Dram := { d with rows := [(bank, row)], tables := [(bank, [(row, 1)])] }

/-- The record after a read's commands. -/
def readIssued (bank row b k : Nat) (r : DramRead) (d : Dram) : Dram :=
  opened bank row { d with
    reads := [{ r with todo := [] }], flights := d.flights ++ [⟨d.nextId + 1, b, some k, none⟩]
    retry := d.retry ++ [(d.nextId, .activate bank row)] ++ [(d.nextId + 1, .read b)], nextId := d.nextId + 1 + 1 }

theorem dramIssueOne_read {r : DramRead} (hrows : (s.drc c).rows = []) (htables : (s.drc c).tables = []) (hthresh : 2 ≤ s.fld DRC_CTL_THRESH c)
    (hreads : (s.drc c).reads = [r]) (hwrites : (s.drc c).writes = []) (hk : r.serial = k) (htodo : r.todo = [b]) :
    calm c [] s (dramIssueOne c (.read b (some k)) s) ∧
    (dramIssueOne c (.read b (some k)) s).drc c = readIssued (bankOf s c b) (rowOf s c b) b k r (s.drc c) ∧
    (dramIssueOne c (.read b (some k)) s).out = .dramCommand c (.read b) :: .dramCommand c (.activate (bankOf s c b) (rowOf s c b)) :: s.out ∧
    (dramIssueOne c (.read b (some k)) s).fld DRC_STATUS_RD_Q c = 1 ∧ (dramIssueOne c (.read b (some k)) s).fld DRC_STATUS_WR_Q c = 0 := by
  have hopen := calm_rowOpened c [] (bankOf s c b) (rowOf s c b) s
  have hdrc := rowOpened_drc (c := c) (bankOf s c b) (rowOf s c b) hrows
  obtain ⟨hcalm, hcol, hout⟩ := dramColumn_read (s := rowOpened c (bankOf s c b) (rowOf s c b) s) (r := r) (k := k) (b := b) (by rw [hdrc]; exact hreads) hk htodo []
  have hsent := calm_trans hopen hcalm
  have htables' : ((dramColumn c (.read b (some k)) (rowOpened c (bankOf s c b) (rowOf s c b) s)).drc c).tables = [] := by
    rw [hcol, hdrc]
    exact htables
  have hthresh' : 2 ≤ (dramColumn c (.read b (some k)) (rowOpened c (bankOf s c b) (rowOf s c b) s)).fld DRC_CTL_THRESH c := by
    rw [hsent.reg DRC_CTL_THRESH (by simp)]
    exact hthresh
  have hcounts := countActivate_counts (bankOf s c b) (rowOf s c b) htables' hthresh' (by rw [hcol]; exact (by decide : 1 < 128)) (by rw [hcol, hdrc, Dram.sent]; simp [hwrites])
  rw [dramIssueOne_closed (b := b) rfl hrows]
  refine ⟨calm_trans hsent (calm_countActivate _ _ htables' hthresh'), ?_, ?_, ?_, ?_⟩
  · rw [countActivate_drc _ _ htables' hthresh', hcol, hdrc]
    rfl
  · rw [countActivate_out _ _ htables' hthresh']
    exact hout
  · rw [hcol] at hcounts
    exact hcounts.1
  · rw [hcol, hdrc, Dram.sent] at hcounts
    exact hcounts.2.trans (congrArg List.length hwrites)

/-- The record after a write's commands. -/
def writeIssued (bank row b : Nat) (x : DramBurst) (d : Dram) : Dram :=
  opened bank row ({ (d.sent (.activate bank row)).sent (.write b x.data (burstCheck b x.data x.info)) with writes := [] })

theorem dramIssueOne_write {w : DramWrite} {x : DramBurst} (hrows : (s.drc c).rows = []) (htables : (s.drc c).tables = [])
    (hthresh : 2 ≤ s.fld DRC_CTL_THRESH c) (hreads : (s.drc c).reads = []) (hwrites : (s.drc c).writes = [w]) (hw : w.bursts = [x]) (hx : x.burst = b)
    (hdraining : s.fld DRC_STATUS_DRAINING c = 0) :
    calm c [] s (dramIssueOne c (.write b) s) ∧
    (dramIssueOne c (.write b) s).drc c = writeIssued (bankOf s c b) (rowOf s c b) b x (s.drc c) ∧
    (dramIssueOne c (.write b) s).out = .dramCommand c (.write b x.data (burstCheck b x.data x.info)) ::
      .dramCommand c (.activate (bankOf s c b) (rowOf s c b)) :: s.out ∧ (dramIssueOne c (.write b) s).fld DRC_STATUS_WR_Q c = 0 := by
  have hopen := calm_rowOpened c [] (bankOf s c b) (rowOf s c b) s
  have hdrc := rowOpened_drc (c := c) (bankOf s c b) (rowOf s c b) hrows
  obtain ⟨hcalm, hcol, hout⟩ := dramColumn_write (s := rowOpened c (bankOf s c b) (rowOf s c b) s) (b := b) (by rw [hdrc]; exact hwrites) hw hx
    ((hopen.fld DRC_STATUS_DRAINING (by simp)).trans hdraining) []
  have hsent := calm_trans hopen hcalm
  have htables' : ((dramColumn c (.write b) (rowOpened c (bankOf s c b) (rowOf s c b) s)).drc c).tables = [] := by
    rw [hcol, hdrc]
    exact htables
  have hthresh' : 2 ≤ (dramColumn c (.write b) (rowOpened c (bankOf s c b) (rowOf s c b) s)).fld DRC_CTL_THRESH c := by
    rw [hsent.reg DRC_CTL_THRESH (by simp)]
    exact hthresh
  have hcounts := countActivate_counts (bankOf s c b) (rowOf s c b) htables' hthresh' (by rw [hcol, hdrc, Dram.sent, Dram.sent]; simp [hreads]) (by rw [hcol]; exact (by decide : 0 < 128))
  rw [dramIssueOne_closed (b := b) rfl hrows]
  refine ⟨calm_trans hsent (calm_countActivate _ _ htables' hthresh'), ?_, ?_, ?_⟩
  · rw [countActivate_drc _ _ htables' hthresh', hcol, hdrc]
    rfl
  · rw [countActivate_out _ _ htables' hthresh']
    exact hout
  · rw [hcol] at hcounts
    exact hcounts.2

end Sys2Proof.Machine
end

section
-- One proof at a time: the memory limit of the check counts a stack for every proof that waits for another.
set_option Elab.async false
/-! SUPPORT. A request that its controller serves at once, and the data of a read (R499 to R505). -/

namespace Sys2Proof.Machine

variable {s t : State} {c : Nat} {d : Dram} {q : DramJob} {b n k l : Nat}

/-! ### One request alone (R502 to R505, R510) -/

/-- The record of a controller that holds nothing. -/
def bare (n k : Nat) : Dram := { Dram.reset with nextId := n, serial := k }

/-- The state in which the request has left the ejection buffer. -/
def taken (c : Nat) (q : DramJob) (s : State) : State := (arrived c q s).modDrc c (fun d => { d with waiting := [] })

theorem arrived_drc (h : s.drc c = bare n k) : (arrived c q s).drc c = { bare n k with waiting := [q] } := by
  unfold arrived
  rw [drc_modDrc_same, h]
  rfl

theorem taken_drc (h : s.drc c = bare n k) : (taken c q s).drc c = bare n k := by
  unfold taken
  rw [drc_modDrc_same, arrived_drc h]
  rfl

theorem calm_arrived (c : Nat) (L : List Nat) (q : DramJob) (s : State) : calm c L s (arrived c q s) := calm_modDrc c L s _

theorem calm_taken (c : Nat) (L : List Nat) (q : DramJob) (s : State) : calm c L s (taken c q s) :=
  calm_trans (calm_arrived c L q s) (calm_modDrc c L _ _)

theorem taken_out (c : Nat) (q : DramJob) (s : State) : (taken c q s).out = s.out := rfl

theorem arrived_admitted (h : s.drc c = bare n k) (hw : ((enterQueue c q (taken c q s)).drc c).waiting = [])
    (hs : ((enterQueue c q (taken c q s)).drc c).scrubs = []) : dramAdmit c 256 (arrived c q s) = enterQueue c q (taken c q s) := by
  have harr := arrived_drc (q := q) h
  exact (dramAdmit_one (by rw [harr]) (by rw [harr]; rfl) (by rw [harr]; rfl) (by rw [harr]; rfl) 255).trans (dramAdmit_none hw hs 255)

/-- A controller that serves may issue two commands. -/
theorem serving_room {L : List Nat} {a : State} (hserve : s.serving c) (ha : calm c L s a) (hL : drcKey c ∉ L) (hretry : (a.drc c).retry = []) :
    dramRoom c 2 a = true := by
  obtain ⟨hstate, hstop, -, -⟩ := hserve
  exact dramRoom_refresh ((ha.fld DRC_STATUS_STATE hL).trans hstate) ((ha.fld DRC_STATUS_ALERT_STOP hL).trans hstop) (by rw [hretry]; decide)

theorem pick_read {r : DramRead} (hdraining : s.fld DRC_STATUS_DRAINING c = 0) (hd : s.drc c = { bare n (k + 1) with reads := [r] }) (hk : r.serial = k)
    (htodo : r.todo = [b]) : dramPick c s = some (.read b (some k)) := by
  have hchoice : dramChoices false { bare n (k + 1) with reads := [r] } = [.read b (some k)] := by
    unfold dramChoices
    dsimp only [bare, Dram.reset]
    rw [List.flatMap_singleton, htodo, hk]
    rfl
  unfold dramPick
  rw [off_of_zero hdraining, hd]
  exact (congrArg _ hchoice).trans (dramPrefer_one c s _)

/-- Reads whose commands have all been sent leave nothing to choose. -/
theorem pick_none {r : DramRead} (hreads : (s.drc c).reads = [] ∨ (s.drc c).reads = [r] ∧ r.todo = []) (hwrites : (s.drc c).writes = []) :
    dramPick c s = none := by
  have hchoices (draining : Bool) : dramChoices draining (s.drc c) = [] := by
    unfold dramChoices
    rcases hreads with h | ⟨h, htodo⟩
    · rw [hwrites, h]
      cases draining <;> rfl
    · rw [hwrites, h]
      dsimp only
      rw [List.flatMap_singleton, htodo]
      cases draining <;> rfl
  unfold dramPick
  rw [hchoices]
  rfl

theorem request_read {c : Fin 4} {r : DramReq} (hserve : s.serving c) (ht : dramTarget r.addr s = some (c.val, l)) (hq : q = r.job l (phyCycles c s))
    (hd : s.drc c = { Dram.reset with nextId := n, serial := k }) (hdraining : s.fld DRC_STATUS_DRAINING c = 0) (hthresh : 2 ≤ s.fld DRC_CTL_THRESH c)
    (hb : q.bursts = [b]) (hread : q.write = false) :
    ∃ t, exec (.dramRequest c r) s = .next t ∧
      t.out = .dramCommand c (.read b) :: .dramCommand c (.activate (bankOf s c b) (rowOf s c b)) :: s.out ∧
      t.drc c = { Dram.reset with
        nextId := n + 2, serial := k + 1, reads := [⟨k, q.src, q.tag, l, q.size, [], 1, [], false, q.since⟩]
        retry := [(n, .activate (bankOf s c b) (rowOf s c b)), (n + 1, .read b)], flights := [⟨n + 1, b, some k, none⟩]
        rows := [(bankOf s c b, rowOf s c b)], tables := [(bankOf s c b, [(rowOf s c b, 1)])] } ∧
      t.fld DRC_STATUS_RD_Q c = 1 ∧ t.fld DRC_STATUS_WR_Q c = 0 ∧ drcKept c [] s t := by
  have htaken := taken_drc (q := q) hd
  obtain ⟨hcalm, hent, hout⟩ := enterQueue_read (c := c) (s := taken c q s) (l := []) hread hb (by rw [htaken]; rfl)
  rw [htaken] at hent
  have hcalm := calm_trans (calm_taken c [] q s) hcalm
  obtain ⟨hissue, hdrc, hcmds, hrd, hwr⟩ := dramIssueOne_read (c := c) (s := enterQueue c q (taken c q s)) (k := k) (b := b) (by rw [hent]; rfl) (by rw [hent]; rfl)
    (by rw [hcalm.reg DRC_CTL_THRESH (by simp)]; exact hthresh) (by rw [hent]) (by rw [hent]; rfl) rfl rfl
  have hwhole := calm_trans hcalm hissue
  rw [hcalm.bankOf (by simp), hcalm.rowOf (by simp)] at hdrc hcmds
  rw [hent] at hdrc
  have hdebt {a : State} (h : calm c [] s a) : a.fld DRC_STATUS_DEBT c ≤ 4 := by
    rw [h.fld DRC_STATUS_DEBT (by simp)]
    exact hserve.2.2.1
  have hrun : dramRun c (arrived c q s) = dramIssueOne c (.read b (some k)) (enterQueue c q (taken c q s)) :=
    dramRun_single (arrived_admitted hd (by rw [hent]; rfl) (by rw [hent]; rfl)) (hdebt hcalm) (by rw [arrived_drc hd]; rfl) (by rw [hent]; rfl) (by rw [hent]; rfl)
      (pick_read ((hcalm.fld DRC_STATUS_DRAINING (by simp)).trans hdraining) hent rfl rfl) (serving_room hserve hcalm (by simp) (by rw [hent]; rfl)) rfl
      (nothing_left (by rw [hdrc]; rfl) (by rw [hdrc]; rfl)) (hdebt hwhole) (by rw [hdrc]; rfl) (pick_none (.inr ⟨by rw [hdrc]; rfl, rfl⟩) (by rw [hdrc]; rfl)) (by rw [hdrc]; rfl)
  refine ⟨_, (request_active ht hserve.1).trans (congrArg _ (hq ▸ hrun)), ?_, ?_, hrd, hwr, hwhole.1⟩
  · rw [hcmds, hout, taken_out]
  · rw [hdrc, hq]
    rfl

theorem pick_write {w : DramWrite} (hdraining : s.fld DRC_STATUS_DRAINING c = 0) (hreads : (s.drc c).reads = []) (hstop : (s.drc c).stopping = none)
    (hwrites : (s.drc c).writes = [w]) (hw : w.bursts = [wholeWrite q b]) : dramPick c s = some (.write b) := by
  have hchoice : dramChoices false (s.drc c) = [.write b] := by
    unfold dramChoices
    rw [hwrites, hreads, List.flatMap_singleton, hw]
    rfl
  unfold dramPick
  rw [off_of_zero hdraining, hstop]
  exact (congrArg _ hchoice).trans (dramPrefer_one c s _)

theorem request_write {c : Fin 4} {r : DramReq} (hserve : s.serving c) (ht : dramTarget r.addr s = some (c.val, l)) (hq : q = r.job l (phyCycles c s))
    (hd : s.drc c = { Dram.reset with nextId := n, serial := k }) (hdraining : s.fld DRC_STATUS_DRAINING c = 0) (hthresh : 2 ≤ s.fld DRC_CTL_THRESH c)
    (hhwm : 2 ≤ s.fld DRC_CTL_HWM c) (hb : q.bursts = [b]) (hwrite : q.write = true) (hmask : wholeBurst (q.maskOf b) = true) :
    ∃ t, exec (.dramRequest c r) s = .next t ∧
      t.out = .dramCommand c (.write b (q.dataOf b) (burstCheck b (q.dataOf b) (burstInfo q.poison q.ident))) ::
        .dramCommand c (.activate (bankOf s c b) (rowOf s c b)) :: .response q.src q.tag .ok [] :: s.out ∧
      (t.drc c).reads = [] ∧ (t.drc c).writes = [] ∧ (t.drc c).answers = [] ∧ (t.drc c).rows = [(bankOf s c b, rowOf s c b)] ∧
      t.fld DRC_STATUS_WR_Q c = 0 ∧ drcKept c [NOC_EPe_STATUS_OUTSTANDING.key (dramEndpoint c) 0 0] s t := by
  have hkey (F : Field) (hF : 0x1400000 ≤ F.off) : F.key c 0 0 ∉ [outstandingKey c] := by
    rw [List.mem_singleton]
    exact controller_key_endpoint (F := F) (G := NOC_EPe_STATUS_OUTSTANDING) c hF
  have htaken := taken_drc (q := q) hd
  have hhwm' : 2 ≤ (taken c q s).fld DRC_CTL_HWM c := by
    rw [(calm_taken c [] q s).reg DRC_CTL_HWM (by simp)]
    exact hhwm
  obtain ⟨hcalm, hent, hout⟩ := enterQueue_write (c := c) (s := taken c q s) (l := [outstandingKey c]) hwrite hb hmask (by rw [htaken]; rfl)
    (by rw [htaken]; rfl) (by rw [htaken]; rfl) hhwm' (.head _) (hkey _ (by decide))
  rw [htaken] at hent
  have hcalm := calm_trans (calm_taken c [outstandingKey c] q s) hcalm
  have hzero := (hcalm.fld DRC_STATUS_DRAINING (hkey _ (by decide))).trans hdraining
  obtain ⟨hissue, hdrc, hcmds, hwr⟩ := dramIssueOne_write (c := c) (s := enterQueue c q (taken c q s)) (b := b) (w := ⟨k, [wholeWrite q b], false, q.since⟩)
    (by rw [hent]; rfl) (by rw [hent]; rfl) (by rw [hcalm.reg DRC_CTL_THRESH (hkey _ (by decide))]; exact hthresh) (by rw [hent]; rfl) (by rw [hent]; rfl) rfl rfl hzero
  have hwhole := calm_trans hcalm (calm_mono (by simp) hissue)
  rw [hcalm.bankOf (hkey _ (by decide)), hcalm.rowOf (hkey _ (by decide))] at hdrc hcmds
  rw [hent] at hdrc
  have hdebt {a : State} (h : calm c [outstandingKey c] s a) : a.fld DRC_STATUS_DEBT c ≤ 4 := by
    rw [h.fld DRC_STATUS_DEBT (hkey _ (by decide))]
    exact hserve.2.2.1
  have hrun : dramRun c (arrived c q s) = dramIssueOne c (.write b) (enterQueue c q (taken c q s)) :=
    dramRun_single (arrived_admitted hd (by rw [hent]; rfl) (by rw [hent]; rfl)) (hdebt hcalm) (by rw [arrived_drc hd]; rfl) (by rw [hent]; rfl) (by rw [hent]; rfl)
      (pick_write hzero (by rw [hent]; rfl) (by rw [hent]; rfl) (by rw [hent]; rfl) rfl)
      (serving_room hserve hcalm (hkey DRC_STATUS_STATE (by decide)) (by rw [hent]; rfl)) rfl
      (nothing_left (by rw [hdrc]; rfl) (by rw [hdrc]; rfl)) (hdebt hwhole) (by rw [hdrc]; rfl)
      (pick_none (r := ⟨0, 0, 0, 0, 0, [], 0, [], false, 0⟩) (.inl (by rw [hdrc]; rfl)) (by rw [hdrc]; rfl)) (by rw [hdrc]; rfl)
  refine ⟨_, (request_active ht hserve.1).trans (congrArg _ (hq ▸ hrun)), ?_, by rw [hdrc]; rfl, by rw [hdrc]; rfl, by rw [hdrc]; rfl, by rw [hdrc]; rfl, hwr, hwhole.1⟩
  rw [hcmds, hout, taken_out]
  rfl

/-! ### The data of a read (R499 to R501) -/

/-- The state in which the data of a read's last burst have come and its flight has ended. -/
def landed (c b i : Nat) (v : List Word × BitVec 128) (s : State) : State :=
  (s.modDrc c (fun d => { d with flights := giveData b v d.flights })).modDrc c (fun d => { d with flights := d.flights.filter (fun y => decide (y.id ≠ i)) })

theorem landed_drc {i : Nat} (v : List Word × BitVec 128) (hflights : (s.drc c).flights = [⟨i, b, some n, none⟩]) : (landed c b i v s).drc c = { s.drc c with flights := [] } := by
  have hnone : (giveData b v [⟨i, b, some n, none⟩]).filter (fun y => decide (y.id ≠ i)) = [] := by
    simp [giveData]
  unfold landed
  rw [drc_modDrc_same, drc_modDrc_same]
  dsimp only
  rw [hflights, hnone]

theorem calm_landed (c b i : Nat) (v : List Word × BitVec 128) (L : List Nat) (s : State) : calm c L s (landed c b i v s) :=
  calm_trans (calm_modDrc c L s _) (calm_modDrc c L _ _)

theorem landed_out (c b i : Nat) (v : List Word × BitVec 128) (s : State) : (landed c b i v s).out = s.out := rfl

/-- The data of the only flight are judged and reach their read. -/
theorem readData_judged {c : Fin 4} {i : Nat} {data : List Word} {check : BitVec 128} (hflights : (s.drc c).flights = [⟨i, b, some n, none⟩])
    (hretry : (s.drc c).retry = []) : exec (.dramReadData c b data check) s = .next (dramRun c (readArrives c n b
      (dramJudge c b (burstDecode b data check) (landed c b i (data, check) s)).1 (dramJudge c b (burstDecode b data check) (landed c b i (data, check) s)).2)) := by
  have hgiven : giveData b (data, check) [⟨i, b, some n, none⟩] = [⟨i, b, some n, some (data, check)⟩] := if_pos ⟨rfl, rfl⟩
  rw [exec_dramReadData, execDramReadData]
  unfold dramLand
  dsimp only
  rw [drc_modDrc_same, hflights, hgiven, hretry, List.foldl_cons, List.foldl_nil]
  dsimp only
  rw [List.any_nil, if_neg Bool.false_ne_true]
  unfold dramDeliver landed
  rfl

/-- The answer of a read whose last burst has come. -/
def answered (c b : Nat) (r : DramRead) (v : Option (List Word)) (s : State) : State :=
  dramAnswer c r.src r.tag (if v.isNone then .errData else .ok)
    (if v.isNone then List.replicate (wordsTouched r.l r.size) 0 else readWords { r with got := r.got ++ [(b, v.getD [])] }) (s.modDrc c (fun d => { d with reads := [] }))

theorem readArrives_last {r : DramRead} (v : Option (List Word)) (hreads : (s.drc c).reads = [r]) (hleft : r.left = 1) (hbad : r.bad = false) :
    readArrives c r.serial b v s = answered c b r v s := by
  have hgone : (s.drc c).reads.filter (fun x => decide (x.serial ≠ r.serial)) = [] := by
    rw [hreads]
    simp
  have hmod : s.modDrc c (fun d => { d with reads := d.reads.filter (fun x => decide (x.serial ≠ r.serial)) }) = s.modDrc c (fun d => { d with reads := [] }) := by
    unfold State.modDrc
    dsimp only
    rw [hgone]
  have hfound : (s.drc c).reads.find? (fun x => decide (x.serial = r.serial)) = some r := by
    rw [hreads]
    simp
  unfold readArrives
  rw [hfound]
  dsimp only
  rw [hleft, if_pos rfl, hmod, hbad, Bool.false_or]
  rfl

theorem calm_answered (c b : Nat) (r : DramRead) (v : Option (List Word)) (s : State) : calm c [outstandingKey c] s (answered c b r v s) :=
  calm_trans (calm_modDrc c _ s _) (calm_dramAnswer (.head _) _ _ _ _ _)

theorem answered_drc (b : Nat) (r : DramRead) (v : Option (List Word)) (hidle : d.idle) (h : s.drc c = { d with reads := [r], flights := [] }) :
    (answered c b r v s).drc c = d := by
  obtain ⟨hreads, -, -, -, hflights, -⟩ := hidle
  unfold answered
  rw [dramAnswer_drc, drc_modDrc_same, h]
  cases d
  subst hreads hflights
  rfl

theorem answered_reads (c b : Nat) (r : DramRead) (v : Option (List Word)) (s : State) (hw : (s.drc c).writes = []) :
    (answered c b r v s).fld DRC_STATUS_RD_Q c = 0 := by
  have hkey : DRC_STATUS_RD_Q.key c 0 0 ≠ NOC_EPe_STATUS_OUTSTANDING.key (dramEndpoint c) 0 0 :=
    controller_key_endpoint (F := DRC_STATUS_RD_Q) (G := NOC_EPe_STATUS_OUTSTANDING) c
  unfold answered dramAnswer answeredAt
  rw [fld_setFld_elsewhere _ NOC_EPe_STATUS_OUTSTANDING DRC_STATUS_RD_Q _ hkey]
  exact (setDrc_counts s c (d := { s.drc c with reads := [] }) (Nat.zero_lt_succ 127) (by rw [hw]; decide)).1

/-- A read whose last burst has come is answered, and then the controller has nothing to do. -/
theorem dramRun_answered {r : DramRead} (v : Option (List Word)) (hidle : d.idle) (h : s.drc c = { d with reads := [r], flights := [] })
    (hleft : r.left = 1) (hbad : r.bad = false) (hdebt : s.fld DRC_STATUS_DEBT c ≤ 4) :
    dramRun c (readArrives c r.serial b v s) = answered c b r v s := by
  have hdrc := answered_drc (c := c) b r v hidle h
  rw [readArrives_last v (by rw [h]) hleft hbad]
  refine dramRun_idle (hdrc.symm ▸ idle_quiet hidle) (hdrc.symm ▸ hidle.2.2.2.2.2.2.2) ?_
  rw [(calm_answered c b r v s).fld DRC_STATUS_DEBT]
  · exact hdebt
  · rw [List.mem_singleton]
    exact controller_key_endpoint (F := DRC_STATUS_DEBT) (G := NOC_EPe_STATUS_OUTSTANDING) c

theorem answered_out (c b : Nat) (r : DramRead) (v : Option (List Word)) (s : State) : (answered c b r v s).out =
    .response r.src r.tag (if v.isNone then .errData else .ok)
      (if v.isNone then List.replicate (wordsTouched r.l r.size) 0 else readWords { r with got := r.got ++ [(b, v.getD [])] }) :: s.out := by
  unfold answered
  rw [dramAnswer_out, modDrc_out]

/-- A controller whose only read waits for its last burst. -/
def awaits (c b i : Nat) (r : DramRead) (d : Dram) (s : State) : Prop :=
  s.serving c ∧ d.idle ∧ d.retry = [] ∧ s.drc c = { d with reads := [r], flights := [⟨i, b, some r.serial, none⟩] } ∧ r.left = 1 ∧ r.bad = false

variable {c : Fin 4} {i : Nat} {r : DramRead} {data v : List Word} {check : BitVec 128} {info : Nat}

theorem awaits_landed (h : awaits c b i r d s) (v : List Word × BitVec 128) : (landed c b i v s).drc c = { d with reads := [r], flights := [] } := by
  obtain ⟨-, -, -, hdrc, -, -⟩ := h
  rw [landed_drc (n := r.serial) v (by rw [hdrc]), hdrc]

/-- The data are judged and the read is answered. -/
theorem readData_answered {o : Option (List Word)} {u : State} (h : awaits c b i r d s)
    (hjudge : dramJudge c b (burstDecode b data check) (landed c b i (data, check) s) = (o, u)) (hdrc : u.drc c = (landed c b i (data, check) s).drc c)
    (hdebt : u.fld DRC_STATUS_DEBT c = (landed c b i (data, check) s).fld DRC_STATUS_DEBT c) :
    exec (.dramReadData c b data check) s = .next (answered c b r o u) := by
  have hland := awaits_landed h (data, check)
  obtain ⟨⟨-, -, hpaid, -⟩, hidle, hretry, hstart, hleft, hbad⟩ := h
  rw [readData_judged (n := r.serial) (i := i) (by rw [hstart]) (by rw [hstart]; exact hretry), hjudge]
  refine congrArg _ (dramRun_answered o hidle (hdrc.trans hland) hleft hbad ?_)
  rw [hdebt, (calm_landed c b i (data, check) [] s).fld DRC_STATUS_DEBT (by simp)]
  exact hpaid

theorem readData_clean (h : awaits c b i r d s) (hdecode : burstDecode b data check = .clean v info) (hpoison : infoPoisoned info = false) :
    ∃ t, exec (.dramReadData c b data check) s = .next t ∧
      t.out = .response r.src r.tag .ok (readWords { r with got := r.got ++ [(b, v)] }) :: s.out ∧ t.drc c = d ∧
      t.fld DRC_STATUS_RD_Q c = 0 ∧ drcKept c [NOC_EPe_STATUS_OUTSTANDING.key (dramEndpoint c) 0 0] s t := by
  have hjudge : dramJudge c b (burstDecode b data check) (landed c b i (data, check) s) = (some v, landed c b i (data, check) s) := by
    rw [hdecode, dramJudge, hpoison, if_neg Bool.false_ne_true]
  have hland := awaits_landed h (data, check)
  refine ⟨_, readData_answered h hjudge rfl rfl, answered_out _ _ _ _ _, answered_drc b r _ h.2.1 hland, answered_reads _ _ _ _ _ ?_, ?_⟩
  · rw [hland]
    exact h.2.1.2.1
  · exact drcKept_trans (calm_landed c b i (data, check) _ s).1 (calm_answered c b r _ _).1

/-- The registers in which an error of a burst is counted and recorded. -/
def errorKeys (c : Nat) : List Nat := [DRC_ERR_COUNT_CORR.key c 0 0, DRC_ERR_LAST_L.key c 0 0]

theorem dramRecord_onlyRegs (c b kind writer : Nat) (s : State) : onlyRegs [DRC_ERR_LAST_L.key c 0 0] s (dramRecord c b kind writer s) :=
  onlyRegs_after_setFld DRC_ERR_LAST_VALID 1 c 0 0 (onlyRegs_after_setFld DRC_ERR_LAST_WRITER writer c 0 0 (onlyRegs_after_setFld DRC_ERR_LAST_KIND kind c 0 0
    (onlyRegs_setFld s DRC_ERR_LAST_L b c 0 0) (.head _)) (.head _)) (.head _)

theorem dramRecord_fields (c : Nat) {b kind : Nat} (hb : b < 2 ^ 30) (hk : kind < 4) (writer : Nat) (s : State) :
    (dramRecord c b kind writer s).fld DRC_ERR_LAST_L c = b ∧ (dramRecord c b kind writer s).fld DRC_ERR_LAST_KIND c = kind ∧
    (dramRecord c b kind writer s).fld DRC_ERR_LAST_VALID c = 1 := by
  unfold dramRecord
  rw [fld_setFld_beside _ DRC_ERR_LAST_VALID DRC_ERR_LAST_L, fld_setFld_beside _ DRC_ERR_LAST_WRITER DRC_ERR_LAST_L,
    fld_setFld_beside _ DRC_ERR_LAST_KIND DRC_ERR_LAST_L, fld_setFld_fits _ DRC_ERR_LAST_L c 0 0 hb,
    fld_setFld_beside _ DRC_ERR_LAST_VALID DRC_ERR_LAST_KIND, fld_setFld_beside _ DRC_ERR_LAST_WRITER DRC_ERR_LAST_KIND,
    fld_setFld_fits _ DRC_ERR_LAST_KIND c 0 0 hk, fld_setFld_fits _ DRC_ERR_LAST_VALID c 0 0 (by decide)]
  exact ⟨rfl, rfl, rfl⟩

/-- An error of a burst, counted in `F` and recorded. -/
def noted (F : Field) (c b kind writer : Nat) (s : State) : State := dramRecord c b kind writer (s.addFld F 1 c)

theorem noted_onlyRegs (F : Field) (hF : F.key c 0 0 = DRC_ERR_COUNT_CORR.key c 0 0) (b kind writer : Nat) (s : State) :
    onlyRegs (errorKeys c) s (noted F c b kind writer s) :=
  onlyRegs_trans (onlyRegs_mono (by simp [errorKeys, hF]) (onlyRegs_addFld s F 1 c 0 0)) (onlyRegs_mono (by simp [errorKeys]) (dramRecord_onlyRegs c b kind writer _))

theorem noted_counted (F : Field) (hF : F.off ≠ DRC_ERR_LAST_L.off) (hs : F.s1 = 0x40000) (hg : F.good) (b kind writer : Nat) (s : State) :
    (noted F c b kind writer s).fld F c = (s.fld F c + 1) % 2 ^ F.w := by
  have hkey : F.key c 0 0 ∉ [DRC_ERR_LAST_L.key c 0 0] := by
    rw [List.mem_singleton]
    exact controller_key_ne (F := F) (G := DRC_ERR_LAST_L) c hF hs
  exact (fld_congr F c 0 0 ((dramRecord_onlyRegs c b kind writer _).2 _ hkey)).trans (fld_addFld s F 1 c 0 0 hg)

theorem calm_onlyRegs {L : List Nat} {c : Nat} {s t : State} (h : onlyRegs L s t) : calm c L s t :=
  ⟨⟨by rw [h.1], fun j _ => onlyRegs_drc h j, regsKeep_mono (fun _ hk => .tail _ hk) h.2⟩, fun F hF _ => fld_congr F c 0 0 (h.2 _ hF)⟩

theorem status_no_error (c : Nat) : DRC_STATUS_DEBT.key c 0 0 ∉ errorKeys c := by
  simp only [errorKeys, List.mem_cons, List.not_mem_nil, or_false, not_or]
  exact ⟨controller_key_ne (F := DRC_STATUS_DEBT) (G := DRC_ERR_COUNT_CORR) c, controller_key_ne (F := DRC_STATUS_DEBT) (G := DRC_ERR_LAST_L) c⟩

/-- The controller's own registers beside its status and errors, and its errors, stand through the answer. -/
theorem answered_errors (F : Field) (hF : 0x1400000 ≤ F.off) (hne : F.off ≠ 0x1400008) (hs : F.s1 = 0x40000) (r : DramRead) (o : Option (List Word)) (s : State) :
    (answered c b r o s).fld F c = s.fld F c := by
  refine (calm_answered c b r o s).reg F ?_ hne hs
  rw [List.mem_singleton]
  exact controller_key_endpoint (F := F) (G := NOC_EPe_STATUS_OUTSTANDING) c hF

/-- A field beside DRC_STATUS as the data of a read come. -/
theorem landed_fld (F : Field) (hne : F.off ≠ 0x1400008) (hs : F.s1 = 0x40000) (v : List Word × BitVec 128) : (landed c b i v s).fld F c = s.fld F c :=
  (calm_landed c b i v [] s).reg F (by simp) hne hs

theorem readData_mended (h : awaits c b i r d s) (hdecode : burstDecode b data check = .mended v info) (hpoison : infoPoisoned info = false)
    (hscrub : s.on DRC_CTL_SCRUB_WB c = false) (hb : b < 2 ^ 30) :
    ∃ t, exec (.dramReadData c b data check) s = .next t ∧
      t.out = .response r.src r.tag .ok (readWords { r with got := r.got ++ [(b, v)] }) :: s.out ∧ t.drc c = d ∧
      t.fld DRC_ERR_COUNT_CORR c = (s.fld DRC_ERR_COUNT_CORR c + 1) % 2 ^ DRC_ERR_COUNT_CORR.w ∧
      t.fld DRC_ERR_LAST_L c = b ∧ t.fld DRC_ERR_LAST_KIND c = 0 ∧ t.fld DRC_ERR_LAST_VALID c = 1 ∧
      drcKept c [NOC_EPe_STATUS_OUTSTANDING.key (dramEndpoint c) 0 0, DRC_ERR_COUNT_CORR.key c 0 0, DRC_ERR_LAST_L.key c 0 0] s t := by
  have hregs := noted_onlyRegs (c := c) DRC_ERR_COUNT_CORR rfl b 0 (info / 4) (landed c b i (data, check) s)
  have hcalm : calm c (errorKeys c) s (noted DRC_ERR_COUNT_CORR c b 0 (info / 4) (landed c b i (data, check) s)) :=
    calm_trans (calm_landed c b i _ _ s) (calm_onlyRegs hregs)
  have hoff : (noted DRC_ERR_COUNT_CORR c b 0 (info / 4) (landed c b i (data, check) s)).on DRC_CTL_SCRUB_WB c = false := by
    unfold State.on at hscrub ⊢
    rw [hcalm.reg DRC_CTL_SCRUB_WB]
    · exact hscrub
    · simp only [errorKeys, List.mem_cons, List.not_mem_nil, or_false, not_or]
      exact ⟨controller_key_ne (F := DRC_CTL_SCRUB_WB) (G := DRC_ERR_COUNT_CORR) c, controller_key_ne (F := DRC_CTL_SCRUB_WB) (G := DRC_ERR_LAST_L) c⟩
  have hjudge : dramJudge c b (burstDecode b data check) (landed c b i (data, check) s) =
      (some v, noted DRC_ERR_COUNT_CORR c b 0 (info / 4) (landed c b i (data, check) s)) := by
    rw [hdecode, dramJudge, hpoison, if_neg Bool.false_ne_true]
    refine congrArg (Prod.mk _) (if_neg fun hx => ?_)
    exact Bool.false_ne_true (hoff.symm.trans hx.1)
  have hdrc := onlyRegs_drc hregs c
  obtain ⟨hl, hkind, hvalid⟩ := dramRecord_fields c hb (by decide : 0 < 4) (info / 4) ((landed c b i (data, check) s).addFld DRC_ERR_COUNT_CORR 1 c)
  refine ⟨_, readData_answered h hjudge hdrc (fld_congr DRC_STATUS_DEBT c 0 0 (hregs.2 _ (status_no_error c))), ?_, answered_drc b r _ h.2.1 (hdrc.trans (awaits_landed h _)), ?_, ?_, ?_, ?_, ?_⟩
  · rw [answered_out, onlyRegs_out hregs, landed_out]
    rfl
  · rw [answered_errors DRC_ERR_COUNT_CORR (by decide) (by decide) rfl, noted_counted DRC_ERR_COUNT_CORR (by decide) rfl (by unfold Field.good; decide),
      landed_fld DRC_ERR_COUNT_CORR (by decide) rfl]
  · exact (answered_errors DRC_ERR_LAST_L (by decide) (by decide) rfl _ _ _).trans hl
  · exact (answered_errors DRC_ERR_LAST_KIND (by decide) (by decide) rfl _ _ _).trans hkind
  · exact (answered_errors DRC_ERR_LAST_VALID (by decide) (by decide) rfl _ _ _).trans hvalid
  · exact drcKept_trans (drcKept_mono (by simp [errorKeys]) hcalm.1) (drcKept_mono (by simp [outstandingKey]) (calm_answered c b r _ _).1)

/-- The sources 0x340 to 0x347 of the controllers are recorded (R668). -/
theorem controllerSource {c : Nat} (hc : c < 8) : sourceRange (0x340 + c) = some ⟨0x340, 0x347, 1, false, false⟩ := by
  interval_cases c <;> decide

theorem controller_key_range (F : Field) (c : Fin 4) (hlo : 0x1400000 ≤ F.off) (hhi : F.off < 0x1440000) (hs : F.s1 = 0x40000) :
    0x210000 ≤ F.key c 0 0 ∧ F.key c 0 0 < 0x1820000 := by
  have hc := c.isLt
  simp only [Field.key, hs]
  omega

theorem raise_dram {src : Nat} {r : SourceRange} (hr : sourceRange src = some r) (hn : r.notify = false) (hs : src < 0x1000) (info : Nat) (s : State) :
    (raise src info s).dram = s.dram := by
  rw [raise_keeps hr hn hs]

/-- A raise leaves the controllers as they are. -/
theorem raise_controller {src : Nat} {r : SourceRange} (hr : sourceRange src = some r) (hn : r.notify = false) (hs : src < 0x1000) (info : Nat) (s : State) :
    (raise src info s).drc c = s.drc c ∧ (raise src info s).fld DRC_STATUS_DEBT c = s.fld DRC_STATUS_DEBT c := by
  obtain ⟨hlo, hhi⟩ := controller_key_range DRC_STATUS_DEBT c (by decide) (by decide) rfl
  exact ⟨drc_congr (raise_dram hr hn hs info s) c, fld_raise_between hr hn hs info s _ _ hlo hhi⟩

theorem readData_uncorrectable (h : awaits c b i r d s) (hdecode : burstDecode b data check = .uncorrectable) (hb : b < 2 ^ 30) :
    ∃ t u, exec (.dramReadData c b data check) s = .next t ∧
      t.out = .response r.src r.tag .errData (List.replicate (wordsTouched r.l r.size) 0) :: (raise (0x340 + c) b u).out ∧ t.drc c = d ∧
      t.flt = (raise (0x340 + c) b u).flt ∧ u.flt = s.flt ∧ u.out = s.out ∧ t.mem = s.mem ∧
      u.fld DRC_ERR_COUNT_UNCORR c = (s.fld DRC_ERR_COUNT_UNCORR c + 1) % 2 ^ DRC_ERR_COUNT_UNCORR.w ∧
      u.fld DRC_ERR_LAST_L c = b ∧ u.fld DRC_ERR_LAST_KIND c = 1 ∧ u.fld DRC_ERR_LAST_VALID c = 1 := by
  have hsource := controllerSource (c := c.val) (by omega)
  have hregs := noted_onlyRegs (c := c) DRC_ERR_COUNT_UNCORR rfl b 1 0 (landed c b i (data, check) s)
  have hjudge : dramJudge c b (burstDecode b data check) (landed c b i (data, check) s) =
      (none, raise (0x340 + c) b (noted DRC_ERR_COUNT_UNCORR c b 1 0 (landed c b i (data, check) s))) := by
    rw [hdecode, dramJudge]
    rfl
  have hraise := raise_controller (c := c) hsource rfl (by omega) b (noted DRC_ERR_COUNT_UNCORR c b 1 0 (landed c b i (data, check) s))
  have hdrc := hraise.1.trans (onlyRegs_drc hregs c)
  have hmem : (raise (0x340 + c) b (noted DRC_ERR_COUNT_UNCORR c b 1 0 (landed c b i (data, check) s))).mem = s.mem := by
    rw [raise_mem hsource rfl (by omega), onlyRegs_mem hregs]
    rfl
  obtain ⟨hl, hkind, hvalid⟩ := dramRecord_fields c hb (by decide : 1 < 4) 0 ((landed c b i (data, check) s).addFld DRC_ERR_COUNT_UNCORR 1 c)
  refine ⟨_, _, readData_answered h hjudge hdrc (hraise.2.trans (fld_congr DRC_STATUS_DEBT c 0 0 (hregs.2 _ (status_no_error c)))), answered_out _ _ _ _ _,
    answered_drc b r _ h.2.1 (hdrc.trans (awaits_landed h _)), rfl, (congrArg State.flt hregs.1 : _), ?_, hmem, ?_, hl, hkind, hvalid⟩
  · rw [onlyRegs_out hregs, landed_out]
  · rw [noted_counted DRC_ERR_COUNT_UNCORR (by decide) rfl (by unfold Field.good; decide), landed_fld DRC_ERR_COUNT_UNCORR (by decide) rfl]

end Sys2Proof.Machine
end

section
-- One proof at a time: the memory limit of the check counts a stack for every proof that waits for another.
set_option Elab.async false
/-! The order of issue, refreshes, refresh windows and parity alerts of a DRAM controller (R505 to R514); O46. -/

namespace Sys2Proof.Machine

variable {s t : State} {d : Dram}

/-! ### The order of issue (R505) -/

theorem prefer_aged {c : Nat} {x : DramPick} (h : dramAged c s x = true) (l : List DramPick) : dramPrefer c s (x :: l) = some x := if_pos h

theorem prefer_open {c : Nat} {x y : DramPick} (h : dramAged c s x = false) (hx : (s.drc c).rows.contains (bankOf s c x.burst, rowOf s c x.burst) = false)
    (hy : (s.drc c).rows.contains (bankOf s c y.burst, rowOf s c y.burst) = true) (l : List DramPick) : dramPrefer c s (x :: y :: l) = some y := by
  unfold dramPrefer
  rw [List.head?_cons, Option.any_some, h, if_neg Bool.false_ne_true, List.find?_cons, hx, List.find?_cons, hy]

variable {c : Fin 4}

/-! ### Refresh (R506 to R508) -/

theorem creditDebt_max (c v : Nat) (s : State) : (creditDebt c v s).fld DRC_REF_COUNT_MAX_DEBT c = max (s.fld DRC_REF_COUNT_MAX_DEBT c) (min v 15) := by
  have haccrued : DRC_REF_COUNT_MAX_DEBT.key c 0 0 ≠ FLT_DRAMc_ACCRUED.key c 0 0 := by
    simp only [Field.key, DRC_REF_COUNT_MAX_DEBT, FLT_DRAMc_ACCRUED]
    omega
  have hold : s.fld DRC_REF_COUNT_MAX_DEBT c < 16 := bits_lt _ _ _
  unfold creditDebt State.maxFld
  dsimp only
  rw [fld_setFld_elsewhere _ DRC_STATUS_DEBT DRC_REF_COUNT_MAX_DEBT _ (controller_key_ne c),
    fld_setFld_elsewhere _ FLT_DRAMc_ACCRUED DRC_REF_COUNT_MAX_DEBT _ haccrued,
    fld_setFld_fits _ DRC_REF_COUNT_MAX_DEBT c 0 0 (show max (s.fld DRC_REF_COUNT_MAX_DEBT c) (min v 15) < 16 by omega)]

theorem accrued_key (c : Nat) (F : Field) (hF : 0x1400000 ≤ F.off) (hs : F.s1 = 0x40000) : FLT_DRAMc_ACCRUED.key c 0 0 ≠ F.key c 0 0 := by
  simp only [Field.key, FLT_DRAMc_ACCRUED, hs]
  omega

theorem creditDebt_accrued (c v : Nat) (s : State) : (creditDebt c v s).fld FLT_DRAMc_ACCRUED c =
    (s.fld FLT_DRAMc_ACCRUED c + min v 15 + (2 ^ 32 - s.fld DRC_STATUS_DEBT c)) % 2 ^ 32 := by
  unfold creditDebt State.maxFld
  dsimp only
  rw [fld_setFld_elsewhere _ DRC_REF_COUNT_MAX_DEBT FLT_DRAMc_ACCRUED _ (accrued_key c _ (by decide) rfl),
    fld_setFld_elsewhere _ DRC_STATUS_DEBT FLT_DRAMc_ACCRUED _ (accrued_key c _ (by decide) rfl), fld_setFld_same _ FLT_DRAMc_ACCRUED _ c 0 0]
  · rfl
  · unfold Field.good
    decide

theorem debt_lt (c : Nat) (s : State) : s.fld DRC_STATUS_DEBT c < 16 := bits_lt _ _ _

theorem accrue_below (hstate : s.drState c = drActive) (hdebt : s.fld DRC_STATUS_DEBT c < 4) :
    ∃ t, exec (.refreshAccrue c) s = .next t ∧ t.fld DRC_STATUS_DEBT c = s.fld DRC_STATUS_DEBT c + 1 ∧ t.out = s.out ∧
      t.fld DRC_REF_COUNT_MAX_DEBT c = max (s.fld DRC_REF_COUNT_MAX_DEBT c) (s.fld DRC_STATUS_DEBT c + 1) ∧
      t.fld FLT_DRAMc_ACCRUED c = (s.fld FLT_DRAMc_ACCRUED c + 1) % 2 ^ 32 ∧
      onlyRegs [drcKey c, DRC_REF_COUNT_MAX_DEBT.key c 0 0, FLT_DRAMc_ACCRUED.key c 0 0] s t := by
  have hcredit := creditDebt_debt c (s.fld DRC_STATUS_DEBT c + 1) s
  have hmin : min (s.fld DRC_STATUS_DEBT c + 1) 15 = s.fld DRC_STATUS_DEBT c + 1 := by omega
  have hexec : exec (.refreshAccrue c) s = .next (creditDebt c (s.fld DRC_STATUS_DEBT c + 1) s) := by
    rw [exec_refreshAccrue, execRefreshAccrue, if_pos hstate, urgentRefresh_paid (by rw [hcredit]; omega)]
  have hregs := creditDebt_onlyRegs c (s.fld DRC_STATUS_DEBT c + 1) s
  refine ⟨_, hexec, by rw [hcredit, hmin], onlyRegs_out hregs, by rw [creditDebt_max, hmin], ?_, hregs⟩
  rw [creditDebt_accrued, hmin]
  omega

/-- A controller that serves may issue urgent refreshes. -/
theorem creditDebt_serving (hserve : s.serving c) (v : Nat) : (creditDebt c v s).drState c = drActive ∧
    (creditDebt c v s).fld DRC_STATUS_ALERT_STOP c = 0 ∧ ((creditDebt c v s).drc c).retry = [] := by
  obtain ⟨hstate, hstop, -, hretry⟩ := hserve
  refine ⟨(creditDebt_status c v s DRC_STATUS_STATE).trans hstate, (creditDebt_status c v s DRC_STATUS_ALERT_STOP).trans hstop, ?_⟩
  rw [onlyRegs_drc (creditDebt_onlyRegs c v s)]
  exact hretry

theorem creditDebt_kept (c v : Nat) (s : State) : drcKept c [DRC_REF_COUNT_MAX_DEBT.key c 0 0, FLT_DRAMc_ACCRUED.key c 0 0] s (creditDebt c v s) := by
  have h := creditDebt_onlyRegs c v s
  exact ⟨by rw [h.1], fun j _ => onlyRegs_drc h j, h.2⟩

theorem creditDebt_urgent (c v : Nat) (s : State) : (creditDebt c v s).fld DRC_REF_COUNT_URGENT c = s.fld DRC_REF_COUNT_URGENT c := by
  have haccrued : DRC_REF_COUNT_URGENT.key c 0 0 ≠ FLT_DRAMc_ACCRUED.key c 0 0 := by
    simp only [Field.key, DRC_REF_COUNT_URGENT, FLT_DRAMc_ACCRUED]
    omega
  unfold creditDebt State.maxFld
  dsimp only
  rw [fld_setFld_beside _ DRC_REF_COUNT_MAX_DEBT DRC_REF_COUNT_URGENT, fld_setFld_elsewhere _ DRC_STATUS_DEBT DRC_REF_COUNT_URGENT _ (controller_key_ne c),
    fld_setFld_elsewhere _ FLT_DRAMc_ACCRUED DRC_REF_COUNT_URGENT _ haccrued]

theorem accrue_urgent (hstate : s.drState c = drActive) (hdebt : s.fld DRC_STATUS_DEBT c = 4) (hserve : s.serving c) :
    ∃ t, exec (.refreshAccrue c) s = .next t ∧ t.fld DRC_STATUS_DEBT c = 4 ∧ (t.drc c).rows = [] ∧
      t.fld DRC_REF_COUNT_URGENT c = (s.fld DRC_REF_COUNT_URGENT c + 1) % 2 ^ DRC_REF_COUNT_URGENT.w ∧
      t.out = .dramCommand c .refresh :: .dramCommand c .prechargeAll :: s.out ∧
      drcKept c [DRC_REF_COUNT_MAX_DEBT.key c 0 0, FLT_DRAMc_ACCRUED.key c 0 0] s t := by
  have hcredit : (creditDebt c 5 s).fld DRC_STATUS_DEBT c = 5 := creditDebt_debt c 5 s
  obtain ⟨hstate', hstop', hretry'⟩ := creditDebt_serving hserve 5
  obtain ⟨hfin, hurgent, hdrc, -, hkept⟩ := urgentRefresh_pays (c := c) 16 1 (creditDebt c 5 s) hstate' hstop' (by omega) (by omega) (by rw [hretry']; decide)
  have hexec : exec (.refreshAccrue c) s = .next (urgentRefresh c 16 (creditDebt c 5 s)) := by
    rw [exec_refreshAccrue, execRefreshAccrue, if_pos hstate, hdebt]
  have hone : urgentRefresh c 16 (creditDebt c 5 s) = (dramRefresh c (creditDebt c 5 s)).addFld DRC_REF_COUNT_URGENT 1 c := by
    have hpaid : ((dramRefresh c (creditDebt c 5 s)).addFld DRC_REF_COUNT_URGENT 1 c).fld DRC_STATUS_DEBT c ≤ 4 := by
      rw [fld_addFld_elsewhere _ DRC_REF_COUNT_URGENT DRC_STATUS_DEBT _ (controller_key_ne c), (dramRefresh_fields c _).1, hcredit]
    have hstep : urgentRefresh c 16 (creditDebt c 5 s) = urgentRefresh c 15 ((dramRefresh c (creditDebt c 5 s)).addFld DRC_REF_COUNT_URGENT 1 c) :=
      if_pos ⟨by omega, dramRoom_refresh hstate' hstop' (by rw [hretry']; decide)⟩
    rw [hstep, urgentRefresh_paid hpaid]
  refine ⟨_, hexec, by rw [hfin, hcredit]; rfl, by rw [hdrc]; rfl, by rw [hurgent, creditDebt_urgent], ?_, drcKept_trans (creditDebt_kept c 5 s) (drcKept_mono (by simp) hkept)⟩
  rw [hone, addFld_out, dramRefresh_out, onlyRegs_out (creditDebt_onlyRegs c 5 s)]

theorem slot_refreshes (hserve : s.serving c) (hidle : (s.drc c).idle) (hdebt : 1 ≤ s.fld DRC_STATUS_DEBT c) :
    ∃ t, exec (.refreshSlot c) s = .next t ∧ t.fld DRC_STATUS_DEBT c = s.fld DRC_STATUS_DEBT c - 1 ∧ (t.drc c).rows = [] ∧
      t.fld DRC_REF_COUNT_REFRESHES c = (s.fld DRC_REF_COUNT_REFRESHES c + 1) % 2 ^ DRC_REF_COUNT_REFRESHES.w ∧
      t.out = .dramCommand c .refresh :: .dramCommand c .prechargeAll :: s.out ∧
      drcKept c [DRC_REF_COUNT_REFRESHES.key c 0 0] s t := by
  obtain ⟨hstate, hstop, hpaid, hretry⟩ := hserve
  obtain ⟨hfin, hcount, -⟩ := dramRefresh_fields c s
  have hdrc := dramRefresh_drc c s
  have hrun : dramRun c (dramRefresh c s) = dramRefresh c s :=
    dramRun_idle (by rw [hdrc]; exact idle_quiet hidle) (by rw [hdrc]; exact hidle.2.2.2.2.2.2.2) (by omega)
  have hexec : exec (.refreshSlot c) s = .next (dramRefresh c s) := by
    rw [exec_refreshSlot, execRefreshSlot, if_pos ⟨dramRoom_refresh hstate hstop (by rw [hretry]; decide), hdebt, .inl (by rw [hidle.1]; rfl)⟩, hrun]
  exact ⟨_, hexec, hfin, by rw [hdrc]; rfl, hcount, dramRefresh_out c s, dramRefresh_kept (.head _) s⟩

theorem slot_paid (hdebt : s.fld DRC_STATUS_DEBT c = 0) : exec (.refreshSlot c) s = .next s := by
  rw [exec_refreshSlot, execRefreshSlot, if_neg (by rw [hdebt]; simp)]

/-! ### The doubled refresh (R508, R511) -/

/-- The state in which a poll has stored what the devices say of RFM. -/
def polled (c : Nat) (rfm : Bool) (s : State) : State := s.setFld DRC_STATUS_RFM_REQ (bnat rfm) c

theorem bnat_lt (b : Bool) : bnat b < 2 := by
  cases b <;> decide

theorem polled_status (c : Nat) (rfm : Bool) (s : State) (F : Field) (hr : F.lo + F.w ≤ 6 ∨ 7 ≤ F.lo := by decide) : (polled c rfm s).fld F c = s.fld F c :=
  fld_setFld_beside s DRC_STATUS_RFM_REQ F _ (by simp only [DRC_STATUS_RFM_REQ]; omega)

theorem polled_rfm (c : Nat) (rfm : Bool) (s : State) : (polled c rfm s).fld DRC_STATUS_RFM_REQ c = bnat rfm :=
  fld_setFld_fits s DRC_STATUS_RFM_REQ c 0 0 (bnat_lt rfm)

theorem polled_onlyRegs (c : Nat) (rfm : Bool) (s : State) : onlyRegs [drcKey c] s (polled c rfm s) := onlyRegs_setFld s DRC_STATUS_RFM_REQ _ c 0 0

theorem poll_active (hstate : s.drState c = drActive) (ranges : List Nat) (rfm : Bool) : exec (.mr4Poll c ranges rfm) s =
    .next (dramRun c ((ranges.zipIdx.filter (fun r => decide (2 ≤ r.1))).foldl (fun s r => raise (0x344 + c) r.2 s)
      (setHot c (ranges.any (fun r => decide (1 ≤ r))) (polled c rfm s)))) := by
  rw [exec_mr4Poll, execMr4Poll, if_neg (not_not.mpr hstate)]
  rfl

theorem setHot_same (c : Nat) {hot : Bool} (h : s.on DRC_STATUS_HOT c = hot) : setHot c hot s = s := by
  unfold setHot
  dsimp only
  rw [if_pos h.symm]

theorem polled_hot (c : Nat) (rfm : Bool) (s : State) : (polled c rfm s).on DRC_STATUS_HOT c = s.on DRC_STATUS_HOT c := by
  unfold State.on
  rw [polled_status c rfm s DRC_STATUS_HOT]

theorem hot_of_on (h : s.on DRC_STATUS_HOT c = true) : s.fld DRC_STATUS_HOT c = 1 := by
  have hlt : s.fld DRC_STATUS_HOT c < 2 := bits_lt _ _ _
  have hne := of_decide_eq_true h
  omega

theorem hot_of_off (h : s.on DRC_STATUS_HOT c = false) : s.fld DRC_STATUS_HOT c = 0 := not_not.mp (of_decide_eq_false h)

/-- The rate changes; the debt is credited anew. -/
def heated (c v : Nat) (hot rfm : Bool) (s : State) : State := creditDebt c v ((polled c rfm s).setFld DRC_STATUS_HOT (bnat hot) c)

theorem heated_fields (c v : Nat) (hot rfm : Bool) (s : State) : (heated c v hot rfm s).fld DRC_STATUS_DEBT c = min v 15 ∧
    (heated c v hot rfm s).fld DRC_STATUS_HOT c = bnat hot ∧ (heated c v hot rfm s).fld DRC_STATUS_RFM_REQ c = bnat rfm ∧
    (heated c v hot rfm s).fld DRC_REF_COUNT_URGENT c = s.fld DRC_REF_COUNT_URGENT c := by
  unfold heated
  refine ⟨creditDebt_debt c v _, ?_, ?_, ?_⟩
  · rw [creditDebt_status c v _ DRC_STATUS_HOT, fld_setFld_fits _ DRC_STATUS_HOT c 0 0 (bnat_lt hot)]
  · rw [creditDebt_status c v _ DRC_STATUS_RFM_REQ, fld_setFld_beside _ DRC_STATUS_HOT DRC_STATUS_RFM_REQ, polled_rfm]
  · rw [creditDebt_urgent, fld_setFld_elsewhere _ DRC_STATUS_HOT DRC_REF_COUNT_URGENT _ (controller_key_ne c), polled,
      fld_setFld_elsewhere _ DRC_STATUS_RFM_REQ DRC_REF_COUNT_URGENT _ (controller_key_ne c)]

theorem heated_onlyRegs (c v : Nat) (hot rfm : Bool) (s : State) : onlyRegs (debtKeys c) s (heated c v hot rfm s) :=
  onlyRegs_trans (onlyRegs_after_setFld DRC_STATUS_HOT _ c 0 0 (onlyRegs_mono (by simp [debtKeys]) (polled_onlyRegs c rfm s)) (.head _)) (creditDebt_onlyRegs c v _)

theorem heated_status (c v : Nat) (hot rfm : Bool) (s : State) (F : Field) (hF : F.off = 0x1400008 := by rfl) (hs : F.s1 = 0x40000 := by rfl)
    (hr : F.lo + F.w ≤ 3 ∨ F.lo = 4 ∧ F.w = 1 := by decide) : (heated c v hot rfm s).fld F c = s.fld F c := by
  unfold heated
  rw [creditDebt_status c v _ F hF hs (by omega), fld_setFld_beside _ DRC_STATUS_HOT F _ (by simp only [DRC_STATUS_HOT]; omega), polled_status c rfm s F (by omega)]

theorem phyCycles_polled (c : Nat) (rfm : Bool) (s : State) : phyCycles c (polled c rfm s) = phyCycles c s := by
  have hkey : DEVICE_TIME_TIME.key 0 0 0 ≠ DRC_STATUS_RFM_REQ.key c 0 0 := by
    simp only [Field.key, DEVICE_TIME_TIME, DRC_STATUS_RFM_REQ]
    omega
  unfold phyCycles State.on polled
  rw [fld_setFld_elsewhere _ DRC_STATUS_RFM_REQ DEVICE_TIME_TIME _ hkey, fld_setFld_elsewhere _ DRC_STATUS_RFM_REQ DRC_GEOM_RATE _ (controller_key_ne c), setFld_tck]

theorem setHot_on (rfm : Bool) (h : s.on DRC_STATUS_HOT c = false) : setHot c true (polled c rfm s) = urgentRefresh c 32
    (heated c (2 * s.fld DRC_STATUS_DEBT c + bnat (decide (s.fld DRC_TIM2_TREFI c ≤ 2 * (phyCycles c s % s.fld DRC_TIM2_TREFI c)))) true rfm s) := by
  have htrefi : (polled c rfm s).fld DRC_TIM2_TREFI c = s.fld DRC_TIM2_TREFI c :=
    fld_setFld_elsewhere s DRC_STATUS_RFM_REQ DRC_TIM2_TREFI _ (controller_key_ne c)
  unfold setHot
  dsimp only
  rw [polled_hot, h, if_neg (by decide), if_pos rfl, htrefi, phyCycles_polled, polled_status c rfm s DRC_STATUS_DEBT]
  rfl

theorem setHot_off (rfm : Bool) (h : s.on DRC_STATUS_HOT c = true) : setHot c false (polled c rfm s) = heated c ((s.fld DRC_STATUS_DEBT c + 1) / 2) false rfm s := by
  unfold setHot
  dsimp only
  rw [polled_hot, h, if_neg (by decide), if_neg (by decide), polled_status c rfm s DRC_STATUS_DEBT]
  rfl

theorem poll_heats {n : Nat} (rfm : Bool) (hserve : s.serving c) (hidle : (s.drc c).idle) (hhot : s.on DRC_STATUS_HOT c = false)
    (hn : n = min 15 (2 * s.fld DRC_STATUS_DEBT c + bnat (decide (s.fld DRC_TIM2_TREFI c ≤ 2 * (phyCycles c s % s.fld DRC_TIM2_TREFI c))))) :
    ∃ t, exec (.mr4Poll c [1] rfm) s = .next t ∧ t.fld DRC_STATUS_HOT c = 1 ∧ t.fld DRC_STATUS_RFM_REQ c = bnat rfm ∧
      t.fld DRC_STATUS_DEBT c = min n 4 ∧
      t.fld DRC_REF_COUNT_URGENT c = (s.fld DRC_REF_COUNT_URGENT c + (n - 4)) % 2 ^ DRC_REF_COUNT_URGENT.w ∧
      drcKept c [DRC_REF_COUNT_MAX_DEBT.key c 0 0, FLT_DRAMc_ACCRUED.key c 0 0] s t := by
  have hset := setHot_on (c := c) rfm hhot
  obtain ⟨hstate, hstop, -, hretry⟩ := hserve
  generalize 2 * s.fld DRC_STATUS_DEBT c + bnat (decide (s.fld DRC_TIM2_TREFI c ≤ 2 * (phyCycles c s % s.fld DRC_TIM2_TREFI c))) = v at hn hset
  obtain ⟨hdebt, hhot', hrfm, hurgent⟩ := heated_fields c v true rfm s
  have hregs := heated_onlyRegs c v true rfm s
  have hdrc := onlyRegs_drc hregs c
  obtain ⟨hfin, hcount, hrec, hstatus, hkept⟩ := urgentRefresh_pays (c := c) 32 (n - 4) (heated c v true rfm s)
    ((heated_status c v true rfm s DRC_STATUS_STATE).trans hstate) ((heated_status c v true rfm s DRC_STATUS_ALERT_STOP).trans hstop) (by omega) (by omega)
    (by rw [hdrc, hretry]; simp only [List.length_nil]; omega)
  have hrecord : (urgentRefresh c 32 (heated c v true rfm s)).drc c = (s.drc c).refreshedTimes (n - 4) := by rw [hrec, hdrc]
  have hrun : dramRun c (urgentRefresh c 32 (heated c v true rfm s)) = urgentRefresh c 32 (heated c v true rfm s) := by
    refine dramRun_idle ?_ ?_ (by omega) <;> rw [hrecord, refreshedTimes_rest]
    · exact idle_quiet hidle
    · exact hidle.2.2.2.2.2.2.2
  have hexec : exec (.mr4Poll c [1] rfm) s = .next (urgentRefresh c 32 (heated c v true rfm s)) := by
    rw [poll_active hstate, ← hrun, ← hset]
    rfl
  refine ⟨_, hexec, (hstatus DRC_STATUS_HOT rfl rfl (by decide)).trans hhot', (hstatus DRC_STATUS_RFM_REQ rfl rfl (by decide)).trans hrfm, by omega,
    by rw [hcount, hurgent], ?_⟩
  exact drcKept_trans ⟨by rw [hregs.1], fun j _ => onlyRegs_drc hregs j, hregs.2⟩ (drcKept_mono (by simp) hkept)

theorem poll_cools (rfm : Bool) (hserve : s.serving c) (hidle : (s.drc c).idle) (hhot : s.on DRC_STATUS_HOT c = true) :
    ∃ t, exec (.mr4Poll c [0, 0] rfm) s = .next t ∧ t.fld DRC_STATUS_HOT c = 0 ∧ t.fld DRC_STATUS_RFM_REQ c = bnat rfm ∧
      t.fld DRC_STATUS_DEBT c = (s.fld DRC_STATUS_DEBT c + 1) / 2 ∧
      onlyRegs [drcKey c, DRC_REF_COUNT_MAX_DEBT.key c 0 0, FLT_DRAMc_ACCRUED.key c 0 0] s t := by
  have hset := setHot_off (c := c) rfm hhot
  obtain ⟨hstate, -, hpaid, -⟩ := hserve
  obtain ⟨hdebt, hhot', hrfm, -⟩ := heated_fields c ((s.fld DRC_STATUS_DEBT c + 1) / 2) false rfm s
  have hregs := heated_onlyRegs c ((s.fld DRC_STATUS_DEBT c + 1) / 2) false rfm s
  have hdrc := onlyRegs_drc hregs c
  have hrun : dramRun c (heated c ((s.fld DRC_STATUS_DEBT c + 1) / 2) false rfm s) = heated c ((s.fld DRC_STATUS_DEBT c + 1) / 2) false rfm s :=
    dramRun_idle (by rw [hdrc]; exact idle_quiet hidle) (by rw [hdrc]; exact hidle.2.2.2.2.2.2.2) (by omega)
  have hexec : exec (.mr4Poll c [0, 0] rfm) s = .next (heated c ((s.fld DRC_STATUS_DEBT c + 1) / 2) false rfm s) := by
    rw [poll_active hstate, ← hrun, ← hset]
    rfl
  exact ⟨_, hexec, hhot', hrfm, by omega, hregs⟩

theorem poll_above (rfm : Bool) (hserve : s.serving c) (hidle : (s.drc c).idle) (hhot : s.on DRC_STATUS_HOT c = true) :
    ∃ u, exec (.mr4Poll c [2] rfm) s = .next (raise (0x344 + c) 0 u) ∧ u.fld DRC_STATUS_RFM_REQ c = bnat rfm ∧
      u.fld DRC_STATUS_HOT c = 1 ∧ onlyRegs [drcKey c] s u := by
  have hsource : sourceRange (0x344 + c) = some ⟨0x340, 0x347, 1, false, false⟩ := by
    have h := controllerSource (c := 4 + c.val) (by omega)
    rwa [← Nat.add_assoc] at h
  have hregs := polled_onlyRegs c rfm s
  have hraise := raise_controller (c := c) hsource rfl (by omega) 0 (polled c rfm s)
  have hdrc := hraise.1.trans (onlyRegs_drc hregs c)
  obtain ⟨hstate, -, hpaid, -⟩ := hserve
  have hrun : dramRun c (raise (0x344 + c) 0 (polled c rfm s)) = raise (0x344 + c) 0 (polled c rfm s) :=
    dramRun_idle (by rw [hdrc]; exact idle_quiet hidle) (by rw [hdrc]; exact hidle.2.2.2.2.2.2.2) (by rw [hraise.2, polled_status c rfm s DRC_STATUS_DEBT]; exact hpaid)
  have hset : setHot c true (polled c rfm s) = polled c rfm s := setHot_same c ((polled_hot c rfm s).trans hhot)
  have hexec : exec (.mr4Poll c [2] rfm) s = .next (raise (0x344 + c) 0 (polled c rfm s)) := by
    rw [poll_active hstate, ← hrun]
    exact congrArg (fun u => Host.Outcome.next (dramRun c (raise (0x344 + c) 0 u))) hset
  exact ⟨_, hexec, polled_rfm c rfm s, (polled_status c rfm s DRC_STATUS_HOT).trans (hot_of_on hhot), hregs⟩

theorem poll_below (rfm : Bool) (hserve : s.serving c) (hidle : (s.drc c).idle) (hhot : s.on DRC_STATUS_HOT c = false) :
    ∃ t, exec (.mr4Poll c [0] rfm) s = .next t ∧ t.fld DRC_STATUS_RFM_REQ c = bnat rfm ∧ t.fld DRC_STATUS_HOT c = 0 ∧ onlyRegs [drcKey c] s t := by
  have hregs := polled_onlyRegs c rfm s
  have hdrc := onlyRegs_drc hregs c
  obtain ⟨hstate, -, hpaid, -⟩ := hserve
  have hrun : dramRun c (polled c rfm s) = polled c rfm s :=
    dramRun_idle (by rw [hdrc]; exact idle_quiet hidle) (by rw [hdrc]; exact hidle.2.2.2.2.2.2.2) (by rw [polled_status c rfm s DRC_STATUS_DEBT]; exact hpaid)
  have hset : setHot c false (polled c rfm s) = polled c rfm s := setHot_same c ((polled_hot c rfm s).trans hhot)
  have hexec : exec (.mr4Poll c [0] rfm) s = .next (polled c rfm s) :=
    (poll_active hstate [0] rfm).trans (congrArg Host.Outcome.next ((congrArg (dramRun c) hset).trans hrun))
  exact ⟨_, hexec, polled_rfm c rfm s, (polled_status c rfm s DRC_STATUS_HOT).trans (hot_of_off hhot), hregs⟩

/-! ### The refresh window (R509, R510) -/

theorem window_ends (c : Fin 4) (s : State) :
    ∃ t, exec (.refreshWindowEnd c) s = .next t ∧ t.drc c = { s.drc c with tables := [] } ∧ t.fld DRC_STATUS_FIRST_WINDOW c = 0 ∧ drcKept c [] s t := by
  refine ⟨_, exec_refreshWindowEnd c s, drc_modDrc_same s c (fun d => { d with tables := [] }), fld_setFld_fits _ DRC_STATUS_FIRST_WINDOW c 0 0 (by decide), ?_⟩
  exact drcKept_trans (calm_modDrc c [] s _).1 ⟨rfl, fun _ _ => rfl,
    regsKeep_mono (by simp [drcKey, Field.key, DRC_STATUS_FIRST_WINDOW, DRC_STATUS_STATE]) (regsKeep_setFld _ DRC_STATUS_FIRST_WINDOW 0 c 0 0)⟩

/-! ### Parity alerts (R512 to R514) -/

/-- The state in which an alert has stopped the controller and has been counted. -/
def stopped (c : Nat) (s : State) : State := (s.setFld DRC_STATUS_ALERT_STOP 1 c).addFld DRC_ALERT_COUNT_ALERTS 1 c

/-- The record in which an alert of the oldest command is noted: data of commands still in the retry buffer are dropped. -/
def alerted (oldest : Option Nat) (failed : Nat) (d : Dram) : Dram :=
  { d with
    lastAlert := oldest, failed := failed
    flights := d.flights.map (fun f => if d.retry.any (fun e => decide (e.1 = f.id)) then { f with data := none } else f) }

/-- The state in which an alert has been noted. -/
def alertNoted (c : Nat) (oldest : Option Nat) (failed : Nat) (s : State) : State := (stopped c s).setDrc c (alerted oldest failed (s.drc c))

theorem stopped_kept (c : Nat) (s : State) : drcKept c [DRC_ALERT_COUNT_ALERTS.key c 0 0] s (stopped c s) :=
  ⟨rfl, fun _ _ => rfl, regsKeep_after_setFld DRC_ALERT_COUNT_ALERTS _ c 0 0
    (regsKeep_mono (by simp [drcKey, Field.key, DRC_STATUS_ALERT_STOP, DRC_STATUS_STATE]) (regsKeep_setFld s DRC_STATUS_ALERT_STOP 1 c 0 0)) (.tail _ (.head _))⟩

theorem stopped_fields (c : Nat) (s : State) : (stopped c s).fld DRC_STATUS_ALERT_STOP c = 1 ∧
    (stopped c s).fld DRC_ALERT_COUNT_ALERTS c = (s.fld DRC_ALERT_COUNT_ALERTS c + 1) % 2 ^ DRC_ALERT_COUNT_ALERTS.w ∧
    (stopped c s).fld DRC_ALERT_COUNT_REPLAYS c = s.fld DRC_ALERT_COUNT_REPLAYS c := by
  unfold stopped
  refine ⟨?_, ?_, ?_⟩
  · rw [fld_addFld_elsewhere _ DRC_ALERT_COUNT_ALERTS DRC_STATUS_ALERT_STOP _ (controller_key_ne c), fld_setFld_fits _ DRC_STATUS_ALERT_STOP c 0 0 (by decide)]
  · rw [fld_addFld _ DRC_ALERT_COUNT_ALERTS 1 c 0 0, fld_setFld_elsewhere _ DRC_STATUS_ALERT_STOP DRC_ALERT_COUNT_ALERTS _ (controller_key_ne c)]
  · rw [fld_addFld_beside _ DRC_ALERT_COUNT_ALERTS DRC_ALERT_COUNT_REPLAYS, fld_setFld_elsewhere _ DRC_STATUS_ALERT_STOP DRC_ALERT_COUNT_REPLAYS _ (controller_key_ne c)]

theorem alertNoted_kept (c : Nat) (oldest : Option Nat) (failed : Nat) (s : State) : drcKept c [DRC_ALERT_COUNT_ALERTS.key c 0 0] s (alertNoted c oldest failed s) :=
  drcKept_trans (stopped_kept c s) (calm_setDrc c _ _ _).1

theorem alert_running {i : Nat} {x : DramCmd} {l : List (Nat × DramCmd)} (hstate : s.drState c = drActive) (hstop : s.fld DRC_STATUS_ALERT_STOP c = 0)
    (hretry : (s.drc c).retry = (i, x) :: l) : exec (.alertAssert c) s =
      if 3 ≤ (if (s.drc c).lastAlert = some i then (s.drc c).failed + 1 else 0) then
        .next (dramOffline c 2 (raise (0x348 + c) ((alertNoted c (some i) (if (s.drc c).lastAlert = some i then (s.drc c).failed + 1 else 0) s).fld DRC_ALERT_COUNT_REPLAYS c)
          (alertNoted c (some i) (if (s.drc c).lastAlert = some i then (s.drc c).failed + 1 else 0) s)))
      else .next (alertNoted c (some i) (if (s.drc c).lastAlert = some i then (s.drc c).failed + 1 else 0) s) := by
  have hoff : s.on DRC_STATUS_ALERT_STOP c = false := off_of_zero hstop
  rw [exec_alertAssert, execAlertAssert]
  dsimp only
  rw [if_neg (by rw [hoff]; exact fun h => h.elim (fun h => h hstate) Bool.false_ne_true), hretry, List.head?_cons, Option.map_some, Option.isSome_some]
  simp only [true_and]
  unfold alertNoted stopped alerted
  rw [hretry]

theorem alert_new {i : Nat} {x : DramCmd} {l : List (Nat × DramCmd)} (hstate : s.drState c = drActive) (hstop : s.fld DRC_STATUS_ALERT_STOP c = 0)
    (hretry : (s.drc c).retry = (i, x) :: l) (hnew : (s.drc c).lastAlert ≠ some i) :
    ∃ t, exec (.alertAssert c) s = .next t ∧ t.fld DRC_STATUS_ALERT_STOP c = 1 ∧ (t.drc c).lastAlert = some i ∧ (t.drc c).failed = 0 ∧
      (t.drc c).retry = (i, x) :: l ∧ t.fld DRC_ALERT_COUNT_ALERTS c = (s.fld DRC_ALERT_COUNT_ALERTS c + 1) % 2 ^ DRC_ALERT_COUNT_ALERTS.w ∧
      t.out = s.out ∧ drcKept c [DRC_ALERT_COUNT_ALERTS.key c 0 0] s t := by
  have hexec := alert_running hstate hstop hretry
  rw [if_neg hnew, if_neg (by decide)] at hexec
  obtain ⟨halert, hcount, -⟩ := stopped_fields c s
  have hdrc : (alertNoted c (some i) 0 s).drc c = alerted (some i) 0 (s.drc c) := drc_setDrc_same _ c _
  refine ⟨_, hexec, (fld_setDrc _ c _ DRC_STATUS_ALERT_STOP c).trans halert, by rw [hdrc]; rfl, by rw [hdrc]; rfl, by rw [hdrc]; exact hretry,
    (fld_setDrc_elsewhere _ c _ DRC_ALERT_COUNT_ALERTS _ _ _ (controller_key_ne (F := DRC_ALERT_COUNT_ALERTS) (G := DRC_STATUS_STATE) c)).trans hcount, ?_, alertNoted_kept c _ 0 s⟩
  rw [(alertNoted_kept c (some i) 0 s).1, alertNoted, setDrc_out]
  rfl

/-! ### A controller that goes OFFLINE (R514, R515) -/

/-- Answers change neither the controllers, nor the fault collector, nor the controller's registers. -/
def answersOnly (c : Fin 4) (s t : State) : Prop :=
  t.dram = s.dram ∧ t.flt = s.flt ∧ ∀ F : Field, 0x1400000 ≤ F.off → F.off < 0x1440000 → F.s1 = 0x40000 → t.fld F c = s.fld F c

theorem answersOnly_trans {u : State} (h : answersOnly c s t) (h' : answersOnly c t u) : answersOnly c s u :=
  ⟨h'.1.trans h.1, h'.2.1.trans h.2.1, fun F hlo hhi hs => (h'.2.2 F hlo hhi hs).trans (h.2.2 F hlo hhi hs)⟩

theorem answersOnly_refl (c : Fin 4) (s : State) : answersOnly c s s := ⟨rfl, rfl, fun _ _ _ _ => rfl⟩

theorem answersOnly_low (c : Fin 4) (F : Field) (v i : Nat) (h : F.key i 0 0 < 0x1400000) (s : State) : answersOnly c s (s.setFld F v i) :=
  ⟨rfl, rfl, fun G hlo _ _ => fld_setFld_elsewhere s F G v (controller_key_above c hlo h)⟩

theorem endpoint_key_low (F : Field) (c : Nat) (hF : F.off = 0x601000) (hs : F.s1 = 8) : F.key (dramEndpoint c) 0 0 < 0x1400000 := by
  have h := endpoint_lt c
  simp only [Field.key, hF, hs]
  omega

theorem answersOnly_answer (src tag : Nat) (st : Status) (data : List Word) (s : State) : answersOnly c s (dramAnswer c src tag st data s) :=
  answersOnly_low c NOC_EPe_STATUS_OUTSTANDING _ _ (endpoint_key_low _ c rfl rfl) (s.emit _)

theorem answersOnly_fenced (s : State) (q : DramJob) : answersOnly c s (dramFenced c s q) :=
  answersOnly_trans (answersOnly_trans (answersOnly_low c NOC_COUNTS_FENCED _ 0 (by decide) s)
    (answersOnly_low c NOC_EPe_STATUS_FENCED _ _ (endpoint_key_low _ c rfl rfl) _)) (answersOnly_answer _ _ _ _ _)

theorem answersOnly_foldl {α : Type} (f : State → α → State) (l : List α) (h : ∀ s a, answersOnly c s (f s a)) (s : State) : answersOnly c s (l.foldl f s) := by
  induction l generalizing s with
  | nil => exact answersOnly_refl c s
  | cons a l ih => exact answersOnly_trans (h s a) (ih _)

theorem answersOnly_end (p : Packet) (st : Rs) (ws : List Word) (s : State) : answersOnly c s (endCommand p st ws s) := by
  have h := replied_endCommand p st ws s
  refine ⟨by rw [h.1], by rw [h.1], fun F hlo hhi hs => ?_⟩
  obtain ⟨hlow, hhigh⟩ := controller_key_range F c hlo hhi hs
  exact h.fld F c hlow hhigh

/-- The state in which a controller has gone OFFLINE and nothing has been answered yet. -/
def fellOffline (c reason lost : Nat) (d : Dram) (s : State) : State :=
  ((((((raiseEndpoint (dramEndpoint c) s).addFld DRC_OFFLINE_LOST_WR lost c).setFld DRC_OFFLINE_REASON reason c).setDrc c
    { Dram.reset with nextId := d.nextId, serial := d.serial }).setFld DRC_STATUS_STATE drOffline c).setFld DRC_STATUS_ALERT_STOP 0 c).setFld DRC_STATUS_DRAINING 0 c

theorem fellOffline_flt (c reason lost : Nat) (d : Dram) (s : State) : (fellOffline c reason lost d s).flt = s.flt := by
  unfold fellOffline
  rw [setFld_flt, setFld_flt, setFld_flt, setDrc_rest]
  dsimp only
  rw [setFld_flt, addFld_flt, (raiseEndpoint_onlyRegs (dramEndpoint c) s).1]

theorem fellOffline_drc (c reason lost : Nat) (d : Dram) (s : State) :
    (fellOffline c reason lost d s).drc c = { Dram.reset with nextId := d.nextId, serial := d.serial } := by
  unfold fellOffline
  rw [drc_setFld, drc_setFld, drc_setFld, drc_setDrc_same]

theorem fellOffline_spec (c : Fin 4) {reason : Nat} (hr : reason < 4) (lost : Nat) (d : Dram) (s : State) :
    (fellOffline c reason lost d s).drState c = drOffline ∧ (fellOffline c reason lost d s).fld DRC_OFFLINE_REASON c = reason := by
  have hkey (F : Field) (hF : F.off = 0x1400008) (hs : F.s1 = 0x40000) : DRC_OFFLINE_REASON.key c 0 0 ≠ F.key c 0 0 :=
    controller_key_ne (F := DRC_OFFLINE_REASON) c (by rw [hF]; decide) hs.symm
  refine ⟨?_, ?_⟩
  · unfold State.drState fellOffline
    rw [fld_setFld_beside _ DRC_STATUS_DRAINING DRC_STATUS_STATE, fld_setFld_beside _ DRC_STATUS_ALERT_STOP DRC_STATUS_STATE,
      fld_setFld_fits _ DRC_STATUS_STATE c 0 0 (by decide)]
  · unfold fellOffline
    rw [fld_setFld_elsewhere _ DRC_STATUS_DRAINING DRC_OFFLINE_REASON _ (hkey _ rfl rfl), fld_setFld_elsewhere _ DRC_STATUS_ALERT_STOP DRC_OFFLINE_REASON _ (hkey _ rfl rfl),
      fld_setFld_elsewhere _ DRC_STATUS_STATE DRC_OFFLINE_REASON _ (hkey _ rfl rfl), fld_setDrc _ c _ DRC_OFFLINE_REASON,
      fld_setFld_fits _ DRC_OFFLINE_REASON c 0 0 hr]

/-- The queued writes that have been answered. -/
def lostWrites (d : Dram) : Nat := (d.writes.filter (fun w => !w.scrub && d.answers.all (fun a => decide (a.serial ≠ w.serial)))).length

/-- A controller that goes OFFLINE stops and answers all it holds. -/
theorem dramOffline_answers (c : Fin 4) (reason : Nat) (s : State) :
    answersOnly c (fellOffline c reason (lostWrites (s.drc c)) (s.drc c) s) (dramOffline c reason s) := by
  have hanswered (u : State) : answersOnly c u ((s.drc c).waiting.foldl (dramFenced c) ((s.drc c).answers.foldl (fun s a => dramAnswer c a.src a.tag .errData [] s)
      ((s.drc c).reads.foldl (fun s r => dramAnswer c r.src r.tag .errData (List.replicate (wordsTouched r.l r.size) 0) s) u))) :=
    answersOnly_trans (answersOnly_trans (answersOnly_foldl _ _ (fun s r => answersOnly_answer _ _ _ _ s) u)
      (answersOnly_foldl _ _ (fun s a => answersOnly_answer _ _ _ _ s) _)) (answersOnly_foldl _ _ (fun s q => answersOnly_fenced s q) _)
  unfold dramOffline
  dsimp only
  split
  · exact answersOnly_trans (hanswered _) (answersOnly_end _ _ _ _)
  · exact hanswered _

theorem alert_offline {i : Nat} {x : DramCmd} {l : List (Nat × DramCmd)} (hstate : s.drState c = drActive) (hstop : s.fld DRC_STATUS_ALERT_STOP c = 0)
    (hretry : (s.drc c).retry = (i, x) :: l) (hold : (s.drc c).lastAlert = some i) (hfailed : (s.drc c).failed = 2) :
    ∃ t u, exec (.alertAssert c) s = .next t ∧ t.drState c = drOffline ∧ t.fld DRC_OFFLINE_REASON c = 2 ∧
      t.flt = (raise (0x348 + c) (s.fld DRC_ALERT_COUNT_REPLAYS c) u).flt ∧ u.flt = s.flt ∧ (t.drc c).retry = [] := by
  have hexec := alert_running hstate hstop hretry
  have hreplays : (alertNoted c (some i) 3 s).fld DRC_ALERT_COUNT_REPLAYS c = s.fld DRC_ALERT_COUNT_REPLAYS c :=
    (fld_setDrc_elsewhere _ c _ DRC_ALERT_COUNT_REPLAYS _ _ _ (controller_key_ne (F := DRC_ALERT_COUNT_REPLAYS) (G := DRC_STATUS_STATE) c)).trans (stopped_fields c s).2.2
  rw [if_pos hold, hfailed, if_pos (by decide), hreplays] at hexec
  obtain ⟨hdram, hflt, hfld⟩ := dramOffline_answers c 2 (raise (0x348 + c) (s.fld DRC_ALERT_COUNT_REPLAYS c) (alertNoted c (some i) 3 s))
  generalize hu : raise (0x348 + c) (s.fld DRC_ALERT_COUNT_REPLAYS c) (alertNoted c (some i) 3 s) = u at hexec hdram hflt hfld
  obtain ⟨hoff, hreason⟩ := fellOffline_spec c (by decide : 2 < 4) (lostWrites (u.drc c)) (u.drc c) u
  refine ⟨_, _, hexec, (hfld DRC_STATUS_STATE (by decide) (by decide) rfl).trans hoff, (hfld DRC_OFFLINE_REASON (by decide) (by decide) rfl).trans hreason,
    (hflt.trans (fellOffline_flt _ _ _ _ u)).trans (congrArg State.flt hu.symm), by rw [(alertNoted_kept c (some i) 3 s).1], ?_⟩
  rw [drc_congr hdram c, fellOffline_drc]
  rfl

/-! ### The replay and the release of a command (R512, R513) -/

/-- The commands of the retry buffer, sent again. -/
def replayed (c : Nat) (l : List (Nat × DramCmd)) (s : State) : State := l.foldl (fun s e => s.emit (.dramCommand c e.2)) s

theorem replayed_rest (c : Nat) (l : List (Nat × DramCmd)) (s : State) :
    replayed c l s = { s with out := (l.map (fun e => Out.dramCommand c e.2)).reverse ++ s.out } := by
  unfold replayed
  induction l generalizing s with
  | nil => rfl
  | cons e l ih => rw [List.foldl_cons, ih, List.map_cons, List.reverse_cons, List.append_assoc]; rfl

/-- The state after the replay: it has been counted and the controller goes on. -/
def resumed (c : Nat) (s : State) : State := ((replayed c (s.drc c).retry s).addFld DRC_ALERT_COUNT_REPLAYS 1 c).setFld DRC_STATUS_ALERT_STOP 0 c

theorem resumed_drc (c : Nat) (s : State) : (resumed c s).drc c = s.drc c := by
  unfold resumed
  rw [drc_setFld, drc_addFld, replayed_rest]
  rfl

theorem replayed_fld (c : Nat) (l : List (Nat × DramCmd)) (s : State) (F : Field) : (replayed c l s).fld F c = s.fld F c := by
  rw [replayed_rest]
  rfl

theorem resumed_kept (c : Nat) (s : State) : drcKept c [DRC_ALERT_COUNT_ALERTS.key c 0 0] s (resumed c s) := by
  unfold resumed
  rw [replayed_rest]
  exact ⟨rfl, fun _ _ => rfl, regsKeep_after_setFld DRC_STATUS_ALERT_STOP 0 c 0 0
    (regsKeep_mono (by simp [Field.key, DRC_ALERT_COUNT_REPLAYS, DRC_ALERT_COUNT_ALERTS]) (regsKeep_setFld _ DRC_ALERT_COUNT_REPLAYS _ c 0 0)) (.head _)⟩

theorem alert_replays (hstate : s.drState c = drActive) (hstop : s.fld DRC_STATUS_ALERT_STOP c = 1) (hdebt : s.fld DRC_STATUS_DEBT c ≤ 4) (hidle : (s.drc c).idle) :
    ∃ t, exec (.alertReplay c) s = .next t ∧ t.out = ((s.drc c).retry.map (fun e => Out.dramCommand c e.2)).reverse ++ s.out ∧
      t.fld DRC_STATUS_ALERT_STOP c = 0 ∧ t.drc c = s.drc c ∧
      t.fld DRC_ALERT_COUNT_REPLAYS c = (s.fld DRC_ALERT_COUNT_REPLAYS c + 1) % 2 ^ DRC_ALERT_COUNT_REPLAYS.w ∧
      drcKept c [DRC_ALERT_COUNT_ALERTS.key c 0 0] s t := by
  have hdrc := resumed_drc c s
  have hpaid : (resumed c s).fld DRC_STATUS_DEBT c = s.fld DRC_STATUS_DEBT c := by
    unfold resumed
    rw [fld_setFld_beside _ DRC_STATUS_ALERT_STOP DRC_STATUS_DEBT, fld_addFld_elsewhere _ DRC_ALERT_COUNT_REPLAYS DRC_STATUS_DEBT _ (controller_key_ne c), replayed_fld]
  have hrun : dramRun c (resumed c s) = resumed c s :=
    dramRun_idle (by rw [hdrc]; exact idle_quiet hidle) (by rw [hdrc]; exact hidle.2.2.2.2.2.2.2) (by omega)
  have hon : s.on DRC_STATUS_ALERT_STOP c = true := by
    unfold State.on
    rw [hstop]
    rfl
  have hexec : exec (.alertReplay c) s = .next (resumed c s) := by
    rw [exec_alertReplay, execAlertReplay, if_pos ⟨hon, hstate⟩]
    exact congrArg _ hrun
  refine ⟨_, hexec, ?_, fld_setFld_fits _ DRC_STATUS_ALERT_STOP c 0 0 (by decide), hdrc, ?_, resumed_kept c s⟩
  · unfold resumed
    rw [setFld_out, addFld_out, replayed_rest]
  · unfold resumed
    rw [fld_setFld_elsewhere _ DRC_STATUS_ALERT_STOP DRC_ALERT_COUNT_REPLAYS _ (controller_key_ne c), fld_addFld _ DRC_ALERT_COUNT_REPLAYS 1 c 0 0, replayed_fld]

theorem command_released (hstop : s.fld DRC_STATUS_ALERT_STOP c = 0) (hdebt : s.fld DRC_STATUS_DEBT c ≤ 4) (hidle : (s.drc c).idle) :
    ∃ t, exec (.retryBufferRelease c) s = .next t ∧ t.drc c = { s.drc c with retry := (s.drc c).retry.tail } ∧ t.out = s.out ∧ drcKept c [] s t := by
  have hcalm := calm_modDrc c [] s (fun d => { d with retry := d.retry.tail })
  have hdrc : (s.modDrc c (fun d => { d with retry := d.retry.tail })).drc c = { s.drc c with retry := (s.drc c).retry.tail } :=
    drc_modDrc_same s c (fun d => { d with retry := d.retry.tail })
  have hland : dramLand c (s.modDrc c (fun d => { d with retry := d.retry.tail })) = s.modDrc c (fun d => { d with retry := d.retry.tail }) := by
    unfold dramLand
    dsimp only
    rw [hdrc]
    dsimp only
    rw [hidle.2.2.2.2.1, List.foldl_nil]
  have hrun : dramRun c (s.modDrc c (fun d => { d with retry := d.retry.tail })) = s.modDrc c (fun d => { d with retry := d.retry.tail }) :=
    dramRun_idle (by rw [hdrc]; exact idle_quiet hidle) (by rw [hdrc]; exact hidle.2.2.2.2.2.2.2) (by rw [hcalm.fld DRC_STATUS_DEBT (by simp)]; exact hdebt)
  have hoff : s.on DRC_STATUS_ALERT_STOP c = false := off_of_zero hstop
  have hexec : exec (.retryBufferRelease c) s = .next (s.modDrc c (fun d => { d with retry := d.retry.tail })) := by
    rw [exec_retryBufferRelease, execRetryBufferRelease, hoff, if_neg Bool.false_ne_true, hland, hrun]
  exact ⟨_, hexec, hdrc, modDrc_out s c _, hcalm.1⟩

theorem release_stopped (hstop : s.fld DRC_STATUS_ALERT_STOP c = 1) : exec (.retryBufferRelease c) s = .next s := by
  have hon : s.on DRC_STATUS_ALERT_STOP c = true := by
    unfold State.on
    rw [hstop]
    rfl
  rw [exec_retryBufferRelease, execRetryBufferRelease, hon, if_pos rfl]

/-- Settles O46. -/
theorem dramTraffic : Obligations.DramTraffic :=
  ⟨fun _ _ _ _ _ ht => ⟨fun hn => request_elsewhere ht hn, fun hn hstate => request_fenced ht hn hstate⟩,
    fun _ _ _ _ _ _ _ _ hserve ht hq hd hdraining hthresh hhwm hb =>
      ⟨fun hread => request_read hserve ht hq hd hdraining hthresh hb hread,
        fun hwrite hmask => request_write hserve ht hq hd hdraining hthresh hhwm hb hwrite hmask⟩,
    fun _ _ _ _ _ _ _ _ _ _ hserve hidle hretry hdrc _ hleft hbad =>
      ⟨fun hdecode hpoison => readData_clean ⟨hserve, hidle, hretry, hdrc, hleft, hbad⟩ hdecode hpoison,
        fun hdecode hpoison hscrub hb => readData_mended ⟨hserve, hidle, hretry, hdrc, hleft, hbad⟩ hdecode hpoison hscrub hb,
        fun hdecode hb => readData_uncorrectable ⟨hserve, hidle, hretry, hdrc, hleft, hbad⟩ hdecode hb⟩,
    fun _ _ _ _ l => ⟨fun h => prefer_aged h l, fun h hx hy => prefer_open h hx hy l⟩,
    fun _ _ hstate => ⟨fun hdebt => accrue_below hstate hdebt, fun hdebt hserve => accrue_urgent hstate hdebt hserve⟩,
    fun _ _ hserve hidle => ⟨fun hdebt => slot_refreshes hserve hidle hdebt, fun hdebt => slot_paid hdebt,
      fun _ rfm hhot hn => poll_heats rfm hserve hidle hhot hn, fun rfm hhot => poll_cools rfm hserve hidle hhot,
      fun rfm hhot => poll_above rfm hserve hidle hhot, fun rfm hhot => poll_below rfm hserve hidle hhot⟩,
    fun c s => window_ends c s,
    fun _ _ _ _ _ hstate hstop hretry => ⟨fun hnew => alert_new hstate hstop hretry hnew, fun hold hfailed => alert_offline hstate hstop hretry hold hfailed⟩,
    fun _ _ hstate hstop hdebt hidle => alert_replays hstate hstop hdebt hidle,
    fun _ _ => ⟨fun hstop hdebt hidle => command_released hstop hdebt hidle, fun hstop => release_stopped hstop⟩⟩

end Sys2Proof.Machine
end

section
-- One proof at a time: the memory limit of the check counts a stack for every proof that waits for another.
set_option Elab.async false
/-! Calibration and self-test: the commands begin, records are stored, steps and pattern tests end, a command times out (R239 to R255); O24. -/

namespace Sys2Proof.Machine

variable {p : Packet} {s t : State} {g : Nat}

/-! ### A command begins on one group (R250 to R254) -/

/-- The command as it begins on one group. -/
def calCmd (p : Packet) (g : Nat) (s : State) : CalCmd := ⟨p, [g], 0, [], none, 0, s.fld TCK_COUNT_COUNT + (p.w 3).toNat⟩

/-- The state in which the command has joined the commands in execution and the group holds its task. -/
def calJoined (p : Packet) (g : Nat) (work : CalWork) (s : State) : State :=
  ({ s with chg := { s.chg with cmds := s.chg.cmds ++ [calCmd p g s] } }).modGrp g (fun x => { x with tasks := x.tasks ++ [CalTask.mk p work [] 0 0 0 false] })

theorem beginCal_one (p : Packet) (g : Nat) (work : CalWork) (s : State) : beginCal p [g] work s = syncTasks g (calJoined p g work s) := rfl

theorem calJoined_tasks (p : Packet) (g : Nat) (work : CalWork) (s : State) :
    ((calJoined p g work s).grp g).tasks = (s.grp g).tasks ++ [⟨p, work, [], 0, 0, 0, false⟩] := by
  unfold calJoined
  rw [grp_modGrp_same]
  rfl

theorem syncTasks_grp (g j : Nat) (s : State) : (syncTasks g s).grp j = s.grp j := rfl
theorem syncTasks_cmds (g : Nat) (s : State) : (syncTasks g s).chg.cmds = s.chg.cmds := rfl
theorem modGrp_cmds (s : State) (g : Nat) (f : Group → Group) : (s.modGrp g f).chg.cmds = s.chg.cmds := rfl
theorem syncTasks_out (g : Nat) (s : State) : (syncTasks g s).out = s.out := rfl
theorem syncTasks_mem (g : Nat) (s : State) : (syncTasks g s).mem = s.mem := rfl

/-- CAL_RUNNING and ST_RUNNING say whether a group holds a task of their kind. -/
theorem syncTasks_running (g : Nat) (s : State) :
    (syncTasks g s).fld CHG_CAL_STATUS_CAL_RUNNING g = bnat ((s.grp g).tasks.any (fun t => !(match t.work with | .tests _ => true | _ => false))) ∧
    (syncTasks g s).fld CHG_CAL_STATUS_ST_RUNNING g = bnat ((s.grp g).tasks.any (fun t => match t.work with | .tests _ => true | _ => false)) := by
  have hfits (b : Bool) : bnat b < 2 := by cases b <;> decide
  unfold syncTasks
  dsimp only
  rw [fld_setFld_beside _ CHG_CAL_STATUS_ST_RUNNING CHG_CAL_STATUS_CAL_RUNNING, fld_setFld_fits _ CHG_CAL_STATUS_CAL_RUNNING g 0 0 (hfits _),
    fld_setFld_fits _ CHG_CAL_STATUS_ST_RUNNING g 0 0 (hfits _)]
  exact ⟨rfl, rfl⟩

/-- What a command leaves as it begins on one group. -/
theorem beginCal_spec (p : Packet) (g : Nat) (work : CalWork) (s : State) :
    (beginCal p [g] work s).chg.cmds = s.chg.cmds ++ [calCmd p g s] ∧
    ((beginCal p [g] work s).grp g).tasks = (s.grp g).tasks ++ [⟨p, work, [], 0, 0, 0, false⟩] ∧
    (beginCal p [g] work s).out = s.out ∧ (beginCal p [g] work s).mem = s.mem := by
  rw [beginCal_one, syncTasks_grp, syncTasks_cmds, syncTasks_out, syncTasks_mem, calJoined_tasks]
  exact ⟨rfl, rfl, rfl, rfl⟩

theorem beginCal_calibrates (p : Packet) (g : Nat) {work : CalWork} (h : ∀ n, work ≠ .tests n) (s : State) :
    (beginCal p [g] work s).fld CHG_CAL_STATUS_CAL_RUNNING g = 1 := by
  rw [beginCal_one, (syncTasks_running g _).1, calJoined_tasks, List.any_append]
  cases work with
  | tests n => exact absurd rfl (h n)
  | items _ => simp [bnat]
  | load _ => simp [bnat]
  | reference => simp [bnat]

theorem beginCal_tests (p : Packet) (g n : Nat) (s : State) : (beginCal p [g] (.tests n) s).fld CHG_CAL_STATUS_ST_RUNNING g = 1 := by
  rw [beginCal_one, (syncTasks_running g _).2, calJoined_tasks, List.any_append]
  simp [bnat]

/-- What a command that calibrates one group leaves. -/
theorem calibration_begun (p : Packet) (g : Nat) {work : CalWork} (h : ∀ n, work ≠ .tests n) (s : State) :
    (beginCal p [g] work (beginCommand p s)).chg.cmds = s.chg.cmds ++ [⟨p, [g], 0, [], none, 0, s.fld TCK_COUNT_COUNT + (p.w 3).toNat⟩] ∧
    ((beginCal p [g] work (beginCommand p s)).grp g).tasks = (s.grp g).tasks ++ [⟨p, work, [], 0, 0, 0, false⟩] ∧
    (beginCal p [g] work (beginCommand p s)).fld CHG_CAL_STATUS_CAL_RUNNING g = 1 ∧ (beginCal p [g] work (beginCommand p s)).out = s.out ∧
    (beginCal p [g] work (beginCommand p s)).mem = s.mem := by
  obtain ⟨hcmds, htasks, hout, hmem⟩ := beginCal_spec p g work (beginCommand p s)
  rw [calCmd, beginCommand_chg, fld_beginCommand p s TCK_COUNT_COUNT 0 0 0 (by decide) (by decide)] at hcmds
  exact ⟨hcmds, htasks.trans (by rw [grp_beginCommand]), beginCal_calibrates p g h _, hout.trans (beginCommand_out p s), hmem.trans (beginCommand_mem p s)⟩

/-- The range and the timeout of a command pass its own check. -/
theorem range_passes {p : Packet} (hv : calRangeValid p = true) (ht : p.w 3 ≠ 0) : ¬ (¬ calRangeValid p = true ∨ p.w 3 = 0) :=
  fun h => h.elim (fun h => h hv) ht

theorem calGroup_begins (hacc : s.accepts 0x0401 3 .owner p) (hv : calRangeValid p = true) (hr : calRange p = [g]) (ht : p.w 3 ≠ 0)
    (hitems : bits (p.w 2) 0 5 ≠ 0) (hodd : g % 2 = 1 → bits (p.w 2) 0 5 ≠ 4) :
    exec (.calGroup p) s = .next (beginCal p [g] (.items (bits (p.w 2) 0 5)) (beginCommand p s)) := by
  have hmask : (if g % 2 = 1 then bits (p.w 2) 0 5 - (if (bits (p.w 2) 0 5).testBit 2 then 4 else 0) else bits (p.w 2) 0 5) ≠ 0 := by
    have hlt := bits_lt (p.w 2) 0 5
    generalize bits (p.w 2) 0 5 = n at hitems hodd hlt
    by_cases hg : g % 2 = 1
    · rw [if_pos hg]
      have hfour := hodd hg
      interval_cases n <;> simp_all [Nat.testBit]
    · rwa [if_neg hg]
  rw [exec_calGroup, execCalGroup, runCommand_passes hacc, calGroupWork, if_neg (range_passes hv ht)]
  dsimp only
  rw [hr, List.foldl_cons, List.foldl_nil, if_neg hmask]

theorem calLoad_begins (hacc : s.accepts 0x0402 3 .owner p) (hv : calRangeValid p = true) (hr : calRange p = [g]) (ht : p.w 3 ≠ 0) :
    exec (.calLoad p) s = .next (beginCal p [g] (.load (bits (p.w 2) 0 2)) (beginCommand p s)) := by
  rw [exec_calLoad, execCalLoad, runCommand_passes hacc, calLoadWork, if_neg (range_passes hv ht), hr]

theorem calReference_begins (hacc : s.accepts 0x0405 3 .owner p) (hhi : bits (p.w 1) 0 11 / 16 = g) (hlo : bits (p.w 1) 11 11 / 16 = g) (ht : p.w 3 ≠ 0) :
    exec (.calReference p) s = .next (beginCal p [g] .reference (beginCommand p s)) := by
  rw [exec_calReference, execCalReference, runCommand_passes hacc, calReferenceWork]
  rw [hhi, hlo, if_neg (fun h => h.elim (fun h => h (decide_eq_true rfl)) ht), if_pos rfl]

/-- The tests that need the vector memory. -/
def vmemTests (tests : Nat) (safe : Bool) : Nat := (if tests.testBit 3 then 8 else 0) + (if tests.testBit 4 ∧ safe then 16 else 0)

/-- What of the tests is skipped outside SAFE. -/
def skippedTests (tests : Nat) (safe : Bool) : Nat := if tests.testBit 4 ∧ ¬ safe then 16 else 0

/-- The group's results are cleared. -/
def resultsCleared (tests g : Nat) (s : State) : State :=
  ((s.setFld CHG_ST_RESULT_RAN 0 g).setFld CHG_ST_RESULT_CHANNELS 0 g).setFld CHG_ST_RESULT_FAILED (skippedTests tests (decide (s.mode g = mdSafe))) g

/-- The tests of a group have begun. -/
def testsBegun (p : Packet) (tests : Nat) (s : State) (g : Nat) : State :=
  (resultsCleared tests g s).modGrp g (fun x => { x with
    pattern := x.pattern || (tests.testBit 4 && decide (s.mode g = mdSafe))
    tasks := x.tasks.map (fun t => if t.cmd = p then
      { t with vmem := vmemTests tests (decide (s.mode g = mdSafe)), failTests := skippedTests tests (decide (s.mode g = mdSafe)), stepsDone := decide (tests % 8 = 0) } else t) })

/-- Tests that need a step do not end at once. -/
theorem beginTests_steps {tests : Nat} (h : tests % 8 ≠ 0) (p : Packet) (s : State) (g : Nat) : beginTests p tests s g = testsBegun p tests s g := by
  unfold beginTests
  dsimp only
  rw [if_neg fun hx => h hx.2]
  rfl

theorem resultsCleared_onlyRegs (tests g : Nat) (s : State) : onlyRegs [CHG_ST_RESULT_RAN.key g 0 0] s (resultsCleared tests g s) :=
  onlyRegs_after_setFld CHG_ST_RESULT_FAILED _ g 0 0 (onlyRegs_after_setFld CHG_ST_RESULT_CHANNELS 0 g 0 0 (onlyRegs_setFld s CHG_ST_RESULT_RAN 0 g 0 0) (.head _)) (.head _)

theorem testsBegun_spec (p : Packet) (tests : Nat) (s : State) (g : Nat) : (testsBegun p tests s g).chg.cmds = s.chg.cmds ∧
    (testsBegun p tests s g).fld CHG_ST_RESULT_RAN g = 0 ∧ (testsBegun p tests s g).fld CHG_CAL_STATUS_ST_RUNNING g = s.fld CHG_CAL_STATUS_ST_RUNNING g ∧
    (testsBegun p tests s g).out = s.out ∧ (testsBegun p tests s g).mem = s.mem := by
  have hregs := resultsCleared_onlyRegs tests g s
  have hkey : CHG_CAL_STATUS_ST_RUNNING.key g 0 0 ∉ [CHG_ST_RESULT_RAN.key g 0 0] := by
    simp only [Field.key, CHG_CAL_STATUS_ST_RUNNING, CHG_ST_RESULT_RAN, List.mem_singleton]
    omega
  unfold testsBegun
  rw [modGrp_out, modGrp_mem, modGrp_fld, modGrp_fld, onlyRegs_out hregs, onlyRegs_mem hregs, fld_congr CHG_CAL_STATUS_ST_RUNNING g 0 0 (hregs.2 _ hkey)]
  refine ⟨?_, ?_, rfl, rfl, rfl⟩
  · rw [modGrp_cmds, hregs.1]
  · unfold resultsCleared
    rw [fld_setFld_beside _ CHG_ST_RESULT_FAILED CHG_ST_RESULT_RAN, fld_setFld_beside _ CHG_ST_RESULT_CHANNELS CHG_ST_RESULT_RAN,
      fld_setFld_fits _ CHG_ST_RESULT_RAN g 0 0 (by decide)]

theorem testsBegun_task {tests : Nat} {work : CalWork} {s : State} {g : Nat} (h : ⟨p, work, [], 0, 0, 0, false⟩ ∈ (s.grp g).tasks) :
    ⟨p, work, [], skippedTests tests (decide (s.mode g = mdSafe)), 0, vmemTests tests (decide (s.mode g = mdSafe)), decide (tests % 8 = 0)⟩ ∈
      ((testsBegun p tests s g).grp g).tasks := by
  unfold testsBegun
  rw [grp_modGrp_same, grp_congr (by rw [(resultsCleared_onlyRegs tests g s).1])]
  exact List.mem_map.mpr ⟨_, h, if_pos rfl⟩

theorem selftest_begins (hacc : s.accepts 0x0404 3 .owner p) (hv : calRangeValid p = true) (hr : calRange p = [g]) (ht : p.w 3 ≠ 0)
    (htests : bits (p.w 2) 0 5 % 8 ≠ 0) :
    ∃ t x, exec (.selftestGroup p) s = .next t ∧
      t.chg.cmds = s.chg.cmds ++ [⟨p, [g], 0, [], none, 0, s.fld TCK_COUNT_COUNT + (p.w 3).toNat⟩] ∧ x ∈ (t.grp g).tasks ∧
      x.cmd = p ∧ x.work = .tests (bits (p.w 2) 0 5) ∧ x.stepsDone = false ∧ t.fld CHG_ST_RESULT_RAN g = 0 ∧
      t.fld CHG_CAL_STATUS_ST_RUNNING g = 1 ∧ t.out = s.out ∧ t.mem = s.mem := by
  obtain ⟨hcmds, htasks, hout, hmem⟩ := beginCal_spec p g (.tests (bits (p.w 2) 0 5)) (beginCommand p s)
  have hrunning := beginCal_tests p g (bits (p.w 2) 0 5) (beginCommand p s)
  rw [calCmd, beginCommand_chg, fld_beginCommand p s TCK_COUNT_COUNT 0 0 0 (by decide) (by decide)] at hcmds
  have hexec : exec (.selftestGroup p) s =
      .next (testsBegun p (bits (p.w 2) 0 5) (beginCal p [g] (.tests (bits (p.w 2) 0 5)) (beginCommand p s)) g) := by
    rw [exec_selftestGroup, execSelftestGroup, runCommand_passes hacc, selftestWork, if_neg (range_passes hv ht), hr, List.foldl_cons, List.foldl_nil,
      beginTests_steps htests]
  generalize beginCal p [g] (.tests (bits (p.w 2) 0 5)) (beginCommand p s) = b at hcmds htasks hout hmem hrunning hexec
  obtain ⟨hcmds', hran, hst, hout', hmem'⟩ := testsBegun_spec p (bits (p.w 2) 0 5) b g
  exact ⟨_, _, hexec, hcmds'.trans hcmds, testsBegun_task (work := .tests (bits (p.w 2) 0 5)) (htasks ▸ List.mem_append_right _ (.head _)), rfl, rfl,
    decide_eq_false htests, hran, hst.trans hrunning, hout'.trans (hout.trans (beginCommand_out p s)), hmem'.trans (hmem.trans (beginCommand_mem p s))⟩

/-! ### CAL_STORE (R248, R249, R252) -/

/-- The array words of a record and their places. -/
def recordPlaces (g seq : Nat) (s : State) : List (Nat × Word) := (List.range 256).zip (imageRecord g seq s)

theorem imageRecord_length (g seq : Nat) (s : State) : (imageRecord g seq s).length = 256 := by
  unfold imageRecord
  dsimp only
  rw [List.length_append, List.length_map, List.length_range]
  rfl

theorem recordPlaces_fst (g seq : Nat) (s : State) : (recordPlaces g seq s).map Prod.fst = List.range 256 :=
  List.map_fst_zip (by rw [imageRecord_length, List.length_range])

theorem recordPlaces_mem (g seq : Nat) (s : State) {k : Nat} (hk : k < 256) : (k, (imageRecord g seq s).getD k 0) ∈ recordPlaces g seq s := by
  have hlen : k < (imageRecord g seq s).length := by rwa [imageRecord_length]
  refine List.mem_iff_getElem.mpr ⟨k, by rw [recordPlaces, List.length_zip, imageRecord_length, List.length_range]; exact hk, ?_⟩
  simp only [recordPlaces, List.getElem_zip, List.getElem_range, List.getD_eq_getElem?_getD, List.getElem?_eq_getElem hlen, Option.getD_some]

theorem storeGroup_eq (g : Nat) (s : State) : storeGroup g s = nvaStoreAll (calNvaWord (storeTarget g s).1 g 0) (recordPlaces g ((storeTarget g s).2 + 1) s) s := rfl

/-- A record reads as it was written. -/
theorem storedRecord_written (copy g seq : Nat) (s u : State) :
    storedRecord copy g (nvaStoreAll (calNvaWord copy g 0) (recordPlaces g seq s) u) = some (imageRecord g seq s) := by
  have hwords : (List.range 256).map (fun k => (imageRecord g seq s).getD k 0) = imageRecord g seq s := by
    refine List.ext_getElem (by rw [List.length_map, List.length_range, imageRecord_length]) fun k hk hk' => ?_
    rw [List.getElem_map, List.getElem_range, List.getD_eq_getElem?_getD, List.getElem?_eq_getElem hk', Option.getD_some]
  refine (mapM_all_some _ fun k hk => ?_).trans (congrArg some hwords)
  have hword := nvaStoreAll_written (base := calNvaWord copy g 0) (by rw [recordPlaces_fst]; exact List.nodup_range) (recordPlaces_mem g seq s (List.mem_range.mp hk)) u
  exact (congrArg PWord.value? hword).trans (clean_value? _)

theorem storedRecord_congr {t : State} (h : ∀ k, t.pword k = s.pword k) (copy g : Nat) : storedRecord copy g t = storedRecord copy g s := by
  unfold storedRecord
  simp only [h]

theorem validRecord_congr {t : State} (h : ∀ k, t.pword k = s.pword k) (copy g : Nat) : validRecord copy g t = validRecord copy g s := by
  unfold validRecord
  rw [storedRecord_congr h]

theorem storeTarget_congr {t : State} (h : ∀ k, t.pword k = s.pword k) (g : Nat) : storeTarget g t = storeTarget g s := by
  unfold storeTarget
  rw [validRecord_congr h, validRecord_congr h]

theorem imageRecord_congr {t : State} (h : t.grp g = s.grp g) (seq : Nat) : imageRecord g seq t = imageRecord g seq s := by
  unfold imageRecord
  rw [h]

/-- The writes of the array are counted. -/
theorem nvaStoreAll_counted (base : Nat) (l : List (Nat × Word)) (s : State) :
    (nvaStoreAll base l s).fld NVA_WRITES_COUNT = (s.fld NVA_WRITES_COUNT + l.length) % 2 ^ NVA_WRITES_COUNT.w := by
  induction l generalizing s with
  | nil => exact (Nat.mod_eq_of_lt (bits_lt _ _ _)).symm
  | cons x l ih =>
    have hone : (nvaStore (base + x.1) x.2 s).fld NVA_WRITES_COUNT = (s.fld NVA_WRITES_COUNT + 1) % 2 ^ NVA_WRITES_COUNT.w :=
      fld_addFld (s.writeP (nvaKey (base + x.1)) x.2) NVA_WRITES_COUNT 1 0 0 0
    refine (ih (nvaStore (base + x.1) x.2 s)).trans ?_
    rw [hone, Nat.mod_add_mod, List.length_cons, Nat.add_assoc, Nat.add_comm 1]

theorem nvaStoreAll_out (base : Nat) (l : List (Nat × Word)) (s : State) : (nvaStoreAll base l s).out = s.out := by
  induction l generalizing s with
  | nil => rfl
  | cons x l ih => exact ih _

theorem image_stored (hacc : s.accepts 0x0403 1 .owner p) (hnva : s.nva.waiting = []) (hv : calRangeValid p = true) (hr : calRange p = [g]) :
    ∃ u, exec (.calStore p []) s = .next (endCommand p .ok [1] u) ∧
      storedRecord (storeTarget g s).1 g u = some (imageRecord g ((storeTarget g s).2 + 1) s) ∧
      u.fld NVA_WRITES_COUNT = (s.fld NVA_WRITES_COUNT + 256) % 2 ^ NVA_WRITES_COUNT.w ∧ u.out = s.out ∧
      regsKeep [NVA_WRITES_COUNT.off] (beginCommand p s) u := by
  have hturn : nvaTurn (beginCommand p s) = beginCommand p s := nvaTurn_idle (by rw [beginCommand_nva, hnva])
  have htarget : storeTarget g (beginCommand p s) = storeTarget g s := storeTarget_congr (beginCommand_pword p s) g
  have hrecord : recordPlaces g ((storeTarget g s).2 + 1) (beginCommand p s) = recordPlaces g ((storeTarget g s).2 + 1) s := by
    unfold recordPlaces
    rw [imageRecord_congr (grp_beginCommand p s g)]
  have hlen : (recordPlaces g ((storeTarget g s).2 + 1) s).length = 256 := by
    rw [← List.length_map Prod.fst, recordPlaces_fst, List.length_range]
  have hexec : exec (.calStore p []) s = .next (endCommand p .ok [1]
      (nvaStoreAll (calNvaWord (storeTarget g s).1 g 0) (recordPlaces g ((storeTarget g s).2 + 1) s) (beginCommand p s))) := by
    rw [exec_calStore, execCalStore, runCommand_passes hacc, calStoreWork, if_neg (not_not.mpr hv)]
    dsimp only
    rw [hr, hturn, List.foldl_cons, List.foldl_nil, storeGroup_eq, htarget, hrecord]
    rfl
  refine ⟨_, hexec, storedRecord_written _ _ _ _ _, ?_, (nvaStoreAll_out _ _ _).trans (beginCommand_out p s), nvaStoreAll_regsKeep _ _ _⟩
  rw [nvaStoreAll_counted, hlen, fld_beginCommand p s NVA_WRITES_COUNT 0 0 0 (by decide) (by decide)]

/-! ### CAL_STEP_END (R244, R245) -/

/-- A channel comes off the calibration bus. -/
def offBus (c : Chan) : Chan := { c with onBus := false, unit := .off }

theorem endStep_one {i : Nat} (h : (s.grp g).step = some [i]) : endStep g s = (s.modChan g i offBus).modGrp g (fun x => { x with step := none }) := by
  unfold endStep
  dsimp only
  rw [h]
  rfl

/-- The task with what a step found. -/
def stepJoined (st : CalStep) (t : CalTask) : CalTask :=
  { t with staged := t.staged ++ st.staged, failTests := t.failTests ||| st.failTests % 8, failChans := t.failChans ||| st.failChans % 65536, stepsDone := st.last }

theorem endTaskStep_more {st : CalStep} (h : st.last = false) (g : Nat) (t : CalTask) (s : State) :
    endTaskStep g t st s = s.modGrp g (fun x => { x with tasks := x.tasks.map (fun u => if u = t then stepJoined st t else u) }) := by
  unfold endTaskStep
  dsimp only
  rw [if_pos (by rw [h]; exact Bool.false_ne_true)]
  rfl

theorem step_ends {g : Fin 128} {st : CalStep} {x : CalTask} {i : Nat} (hstep : (s.grp g).step = some [i]) (hi : i < (s.grp g).chans.length)
    (htasks : (s.grp g).tasks = [x]) (hx : x.stepping = true) (hlast : st.last = false) :
    ∃ t, exec (.calStepEnd g st) s = .next t ∧ (t.grp g).step = none ∧ ((t.grp g).chan i).base = ((s.grp g).chan i).base ∧
      ((t.grp g).chan i).onBus = false ∧ ((t.grp g).chan i).unit = .off ∧
      (t.grp g).tasks = [{ x with staged := x.staged ++ st.staged, failTests := x.failTests ||| st.failTests % 8,
                                  failChans := x.failChans ||| st.failChans % 65536, stepsDone := false }] ∧
      t.out = s.out ∧ t.mem = s.mem ∧ regsKeep [CHG_CHi_LAST_DRIVER.key g i 0] s t := by
  have hend := endStep_one hstep
  have hgrp : (endStep g s).grp g = { (s.grp g).modChan i offBus with step := none } := by
    rw [hend, grp_modGrp_same, grp_modChan_same]
  have hfind : ((endStep g s).grp g).tasks.find? CalTask.stepping = some x := by
    have htasks' : ((endStep g s).grp g).tasks = [x] := by
      rw [hgrp]
      exact htasks
    rw [htasks']
    exact List.find?_cons_of_pos hx
  have hexec : exec (.calStepEnd g st) s =
      .next ((endStep g s).modGrp g (fun y => { y with tasks := y.tasks.map (fun u => if u = x then stepJoined st x else u) })) := by
    rw [exec_calStepEnd, execCalStepEnd, hstep]
    dsimp only
    rw [hfind]
    dsimp only
    rw [endTaskStep_more hlast]
  have hchan : ((s.grp g).modChan i offBus).chan i = offBus ((s.grp g).chan i) := chan_modChan_same hi
  refine ⟨_, hexec, ?_⟩
  rw [grp_modGrp_same, hgrp, modGrp_out, modGrp_mem]
  refine ⟨rfl, (congrArg Chan.base hchan : _), (congrArg Chan.onBus hchan : _), (congrArg Chan.unit hchan : _), ?_, by rw [hend]; rfl, by rw [hend]; rfl, ?_⟩
  · refine (congrArg (List.map _) htasks).trans ?_
    rw [List.map_singleton, if_pos rfl, stepJoined, hlast]
  · rw [hend]
    exact regsKeep_setFld (s.modGrp g (fun x => x.modChan i offBus)) CHG_CHi_LAST_DRIVER _ g i 0

/-! ### CAL_TIMEOUT (R251) -/

theorem calReply_cmds (c : CalCmd) (late : Bool) (s : State) : (calReply c late s).chg = s.chg := by
  have hend (st : Rs) (ws : List Word) : (endCommand c.pkt st ws s).chg = s.chg := by rw [(replied_endCommand c.pkt st ws s).1]
  unfold calReply
  dsimp only
  split
  · split <;> exact hend _ _
  · exact hend _ _
  · exact hend _ _
  · split
    · exact hend _ _
    · split <;> exact hend _ _

theorem dropCal_cmds (p : Packet) (s : State) : (dropCal p s).chg.cmds = s.chg.cmds.filter (fun c => decide (c.pkt ≠ p)) := by
  have hfold (l : List Nat) (u : State) : (l.foldl (fun s g => if (s.grp g).tasks.any (fun t => decide (t.cmd = p)) then
      syncTasks g (s.modGrp g (fun x => { x with
        tasks := x.tasks.filter (fun t => decide (t.cmd ≠ p))
        pattern := x.tasks.any (fun t => decide (t.cmd ≠ p) && t.patterns) })) else s) u).chg.cmds = u.chg.cmds := by
    induction l generalizing u with
    | nil => rfl
    | cons g l ih =>
      rw [List.foldl_cons, ih]
      split <;> rfl
  unfold dropCal
  dsimp only
  rw [hfold]

theorem command_times_out {c : CalCmd} (hfind : s.chg.cmds.find? (fun c => decide (c.pkt = p)) = some c) (hlate : c.deadline ≤ s.fld TCK_COUNT_COUNT) :
    ∃ t, exec (.calTimeout p) s = .next t ∧ t = dropCal p (calReply c true s) ∧ (∀ x ∈ t.chg.cmds, x.pkt ≠ p) ∧
      (p.opcode = 0x0402 → calReply c true s = endCommand p .busy [BitVec.ofNat 64 c.doneCount, BitVec.ofNat 64 (firstGroup c.notDone)] s) := by
  have hpkt : c.pkt = p := of_decide_eq_true (List.find?_some (p := fun c : CalCmd => decide (c.pkt = p)) hfind)
  have hexec : exec (.calTimeout p) s = .next (dropCal p (calReply c true s)) := by
    rw [exec_calTimeout, execCalTimeout, hfind]
    exact if_pos hlate
  refine ⟨_, hexec, rfl, fun x hx => ?_, fun hop => ?_⟩
  · rw [dropCal_cmds] at hx
    exact of_decide_eq_true (List.mem_filter.mp hx).2
  · unfold calReply
    rw [hpkt, hop]
    rfl

/-! ### VMEM_TEST_END (R254) -/

/-- The vector memory after a pattern test. -/
def vmemCleared (g : Nat) (s : State) : State := { s with mem := s.mem.filter (fun e => !inVmem g e.1), mends := s.mends.filter (fun k => !inVmem g k) }

theorem vmemCleared_pword (g k : Nat) (s : State) : (vmemCleared g s).pword k = if inVmem g k then memDefault k else s.pword k := by
  have h := Memory.get_filter memDefault (fun k => !inVmem g k) k s.mem
  unfold State.pword vmemCleared
  dsimp only
  rw [h]
  cases inVmem g k <;> rfl

/-- The state in which the pattern test has left its task. -/
def patternEnded (g : Nat) (cmd : Packet) (fail : Nat) (s : State) : State :=
  (vmemCleared g s).modGrp g (fun x => { x with
    pattern := false
    tasks := x.tasks.map (fun u => if u.cmd = cmd then { u with vmem := u.vmem - 16, failTests := u.failTests ||| fail } else u) })

theorem patternEnded_grp {x : CalTask} (g fail : Nat) (h : (s.grp g).tasks = [x]) : ((patternEnded g x.cmd fail s).grp g).pattern = false ∧
    ((patternEnded g x.cmd fail s).grp g).tasks = [{ x with vmem := x.vmem - 16, failTests := x.failTests ||| fail }] := by
  have hgrp : (vmemCleared g s).grp g = s.grp g := rfl
  unfold patternEnded
  rw [grp_modGrp_same, hgrp]
  refine ⟨rfl, ?_⟩
  dsimp only
  rw [h, List.map_singleton, if_pos rfl]

theorem patternEnded_mem (g : Nat) (cmd : Packet) (fail : Nat) (s : State) : (patternEnded g cmd fail s).mem = (vmemCleared g s).mem := modGrp_mem _ _ _
theorem patternEnded_out (g : Nat) (cmd : Packet) (fail : Nat) (s : State) : (patternEnded g cmd fail s).out = s.out := rfl
theorem patternEnded_fld (g : Nat) (cmd : Packet) (fail : Nat) (s : State) (F : Field) (i : Nat) : (patternEnded g cmd fail s).fld F i = s.fld F i := rfl

theorem finishTests_waits {x : CalTask} (h : (s.grp g).tasks = [x]) (hx : x.cmd = p) (hdone : x.stepsDone = false) : finishTests g p s = s := by
  have hfind : (s.grp g).tasks.find? (fun t => decide (t.cmd = p)) = some x := by
    rw [h]
    exact List.find?_cons_of_pos (decide_eq_true hx)
  unfold finishTests
  rw [hfind]
  dsimp only
  rw [hdone, if_neg fun hx => Bool.false_ne_true hx.1]

theorem recordTests_rest (g ran failed chans : Nat) (s : State) : onlyRegs [CHG_ST_RESULT_RAN.key g 0 0] s (recordTests g ran failed chans s) :=
  onlyRegs_after_setFld CHG_ST_RESULT_CHANNELS _ g 0 0 (onlyRegs_after_setFld CHG_ST_RESULT_FAILED _ g 0 0 (onlyRegs_setFld s CHG_ST_RESULT_RAN _ g 0 0) (.head _)) (.head _)

theorem recordTests_ran (g : Nat) {ran : Nat} (h : ran < 32) (failed chans : Nat) (s : State) :
    (recordTests g ran failed chans s).fld CHG_ST_RESULT_RAN g = s.fld CHG_ST_RESULT_RAN g ||| ran := by
  have hfits : s.fld CHG_ST_RESULT_RAN g ||| ran < 2 ^ 5 := Nat.or_lt_two_pow (bits_lt _ _ _) h
  unfold recordTests
  dsimp only
  rw [fld_setFld_beside _ CHG_ST_RESULT_CHANNELS CHG_ST_RESULT_RAN, fld_setFld_beside _ CHG_ST_RESULT_FAILED CHG_ST_RESULT_RAN,
    fld_setFld_fits _ CHG_ST_RESULT_RAN g 0 0 hfits]

theorem inVmem_own {g a : Nat} (ha : a < 32768) : inVmem g (vmemKey g a) = true := by
  unfold inVmem vmemKey memKey
  rw [decide_eq_true_iff]
  omega

theorem inVmem_outside {g k : Nat} (h : k < vmemKey g 0 ∨ vmemKey (g + 1) 0 ≤ k) : inVmem g k = false := by
  unfold inVmem
  rw [decide_eq_false_iff_not]
  omega

theorem pattern_ends {g : Fin 128} {ok : Bool} {x : CalTask} (htasks : (s.grp g).tasks = [x]) (hbit : x.vmem.testBit 4 = true) (hdone : x.stepsDone = false) :
    ∃ t, exec (.vmemTestEnd g true ok) s = .next t ∧ (∀ a, a < 32768 → t.pword (vmemKey g a) = memDefault (vmemKey g a)) ∧
      (∀ k, (k < vmemKey g 0 ∨ vmemKey (g.val + 1) 0 ≤ k) → t.pword k = s.pword k) ∧ (t.grp g).pattern = false ∧
      (t.grp g).tasks = [{ x with vmem := x.vmem - 16, failTests := x.failTests ||| (if ok then 0 else 16) }] ∧
      t.fld CHG_ST_RESULT_RAN g = s.fld CHG_ST_RESULT_RAN g ||| 16 ∧ t.out = s.out := by
  have hfind : (s.grp g).tasks.find? (fun t => t.vmem.testBit 4) = some x := by
    rw [htasks]
    exact List.find?_cons_of_pos hbit
  obtain ⟨hpattern, hleft⟩ := patternEnded_grp (s := s) g.val (if ok then 0 else 16) htasks
  have hregs := recordTests_rest g 16 (if ok then 0 else 16) 0 (patternEnded g x.cmd (if ok then 0 else 16) s)
  have hgrp : (recordTests g 16 (if ok then 0 else 16) 0 (patternEnded g x.cmd (if ok then 0 else 16) s)).grp g =
      (patternEnded g x.cmd (if ok then 0 else 16) s).grp g := grp_congr (by rw [hregs.1]) g
  have hpword (k : Nat) : (recordTests g 16 (if ok then 0 else 16) 0 (patternEnded g x.cmd (if ok then 0 else 16) s)).pword k = (vmemCleared g s).pword k := by
    unfold State.pword
    rw [onlyRegs_mem hregs, patternEnded_mem]
  have hexec : exec (.vmemTestEnd g true ok) s =
      .next (recordTests g 16 (if ok then 0 else 16) 0 (patternEnded g x.cmd (if ok then 0 else 16) s)) := by
    have hend := finishTests_waits (p := x.cmd) (x := { x with vmem := x.vmem - 16, failTests := x.failTests ||| (if ok then 0 else 16) }) (by rw [hgrp, hleft]) rfl hdone
    rw [exec_vmemTestEnd, execVmemTestEnd]
    dsimp only
    rw [if_pos rfl, hfind]
    dsimp only
    rw [← hend]
    cases ok <;> rfl
  refine ⟨_, hexec, fun a ha => ?_, fun k hk => ?_, by rw [hgrp, hpattern], by rw [hgrp, hleft], ?_, by rw [onlyRegs_out hregs, patternEnded_out]⟩
  · rw [hpword, vmemCleared_pword, inVmem_own ha, if_pos rfl]
  · rw [hpword, vmemCleared_pword, inVmem_outside hk, if_neg Bool.false_ne_true]
  · rw [recordTests_ran g (by decide), patternEnded_fld]

/-- Settles O24. -/
theorem calibrationBeginsAndEnds : Obligations.CalibrationBeginsAndEnds :=
  ⟨⟨fun p g s hacc hv hr ht hitems hodd => ⟨_, calGroup_begins hacc hv hr ht hitems hodd, calibration_begun p g (by simp) s⟩,
      fun p g s hacc hv hr ht => ⟨_, calLoad_begins hacc hv hr ht, calibration_begun p g (by simp) s⟩,
      fun p g s hacc hhi hlo ht => ⟨_, calReference_begins hacc hhi hlo ht, calibration_begun p g (by simp) s⟩,
      fun _ _ _ hacc hv hr ht htests => selftest_begins hacc hv hr ht htests⟩,
    fun _ _ _ hacc hnva hv hr => image_stored hacc hnva hv hr,
    fun _ _ _ _ _ hstep hi htasks hx hlast => step_ends hstep hi htasks hx hlast,
    fun _ _ _ hfind hlate => command_times_out hfind hlate,
    fun _ _ _ _ htasks hbit hdone => pattern_ends htasks hbit hdone⟩

end Sys2Proof.Machine
end

section
-- One proof at a time: the memory limit of the check counts a stack for every proof that waits for another.
set_option Elab.async false
/-! The bring-up of a Brocia port and of a user lane in BLOCK mode (R538 to R541, R557, R563, R566, R574, R575); O49. -/

namespace Sys2Proof.Machine

variable {s t : State} {p : Fin 4} {n : Nat}

/-! ### The status of a port and the rate of its quad -/

/-- A port's status is no register of a quad. -/
theorem status_key_quad (p q : Nat) (hq : q < 24) {F : Field} (hF : F.off = 0x1840100) (hs : F.s1 = 0x40) : F.key p 0 0 ≠ LNK_QUADq_RATE.key q 0 0 := by
  simp only [Field.key, LNK_QUADq_RATE, hF, hs]
  omega

/-- A rate other than 0 is set: the presets of the quad are given up where it changes. -/
theorem setQuadRate_spec (q : Nat) {v : Nat} (hv : v ≠ 0) (hlt : v < 8) (s : State) : (setQuadRate q v s).fld LNK_QUADq_RATE q = v ∧
    onlyRegs [LNK_QUADq_RATE.key q 0 0] { s with lanes := (setQuadRate q v s).lanes } (setQuadRate q v s) := by
  unfold setQuadRate
  by_cases h : s.fld LNK_QUADq_RATE q = v
  · rw [if_pos h]
    exact ⟨h, onlyRegs_refl _ s⟩
  · rw [if_neg h, if_neg hv]
    exact ⟨fld_setFld_fits s LNK_QUADq_RATE q 0 0 hlt, rfl, regsKeep_setFld s LNK_QUADq_RATE v q 0 0⟩

/-- The port starts stage 2 at a rate. -/
def stage2At (p : Nat) (r : Nat) (s : State) : State := setQuadRate (4 + p) r ((setStage p 2 s).setFld BRL_PORTp_STATUS_RATE r p)

theorem stage2At_spec (p : Fin 4) {r : Nat} (hr : r ≠ 0) (hlt : r < 8) (s : State) : (stage2At p r s).stage p = 2 ∧
    (stage2At p r s).fld BRL_PORTp_STATUS_RATE p = r ∧ (stage2At p r s).fld LNK_QUADq_RATE (4 + p) = r ∧
    onlyRegs [BRL_PORTp_STATUS_STAGE.key p 0 0, LNK_QUADq_RATE.key (4 + p) 0 0] { s with lanes := (stage2At p r s).lanes } (stage2At p r s) := by
  obtain ⟨hrate, hrest, hregs⟩ := setQuadRate_spec (4 + p) hr hlt ((setStage p 2 s).setFld BRL_PORTp_STATUS_RATE r p)
  have hkey (F : Field) (hF : F.off = 0x1840100) (hs : F.s1 = 0x40) : F.key p 0 0 ∉ [LNK_QUADq_RATE.key (4 + p) 0 0] := by
    rw [List.mem_singleton]
    exact status_key_quad p (4 + p) (by omega) hF hs
  refine ⟨?_, ?_, hrate, ?_, ?_⟩
  · refine (fld_congr BRL_PORTp_STATUS_STAGE p 0 0 (hregs _ (hkey _ rfl rfl))).trans ?_
    exact (fld_setFld_beside (setStage p 2 s) BRL_PORTp_STATUS_RATE BRL_PORTp_STATUS_STAGE r).trans (fld_setFld_fits s BRL_PORTp_STATUS_STAGE p 0 0 (by decide))
  · refine (fld_congr BRL_PORTp_STATUS_RATE p 0 0 (hregs _ (hkey _ rfl rfl))).trans ?_
    exact fld_setFld_fits (setStage p 2 s) BRL_PORTp_STATUS_RATE p 0 0 hlt
  · unfold stage2At
    rw [hrest]
    rfl
  · refine regsKeep_trans (regsKeep_mono ?_ (regsKeep_after_setFld BRL_PORTp_STATUS_RATE r p 0 0 (regsKeep_setFld s BRL_PORTp_STATUS_STAGE 2 p 0 0) (.head _)))
      (regsKeep_mono ?_ hregs)
    · simp
    · simp

theorem stage2At_out (p : Fin 4) {r : Nat} (hr : r ≠ 0) (hlt : r < 8) (s : State) : (stage2At p r s).out = s.out := by
  rw [(stage2At_spec p hr hlt s).2.2.2.1]

/-! ### RECEIVER_DETECT (R538) -/

theorem port_detected (hen : portEnabled p s = true) (hstage : s.stage p = 1) :
    ∃ t, exec (.receiverDetect (.port p) true) s = .next t ∧ t.stage p = 2 ∧ t.fld BRL_PORTp_STATUS_RATE p = 2 ∧
      t.fld LNK_QUADq_RATE (4 + p) = 2 ∧ t.out = s.out ∧
      onlyRegs [BRL_PORTp_STATUS_STAGE.key p 0 0, LNK_QUADq_RATE.key (4 + p) 0 0] { s with lanes := t.lanes } t := by
  have hexec : exec (.receiverDetect (.port p) true) s = .next (stage2At p 2 s) := by
    rw [exec_receiverDetect, execReceiverDetect]
    exact if_pos ⟨rfl, hen, hstage⟩
  obtain ⟨hstage', hrate, hquad, hregs⟩ := stage2At_spec p (by decide : 2 ≠ 0) (by decide) s
  exact ⟨_, hexec, hstage', hrate, hquad, stage2At_out p (by decide) (by decide) s, hregs⟩

theorem port_not_detected (p : Fin 4) (s : State) : exec (.receiverDetect (.port p) false) s = .next s := by
  rw [exec_receiverDetect, execReceiverDetect]
  exact if_neg fun h => Bool.false_ne_true h.1

/-! ### The stages of a port (R538 to R540) -/

/-- What the end of a port's stage `k` does. -/
def stageEnd (k p lanes : Nat) (s : State) : State :=
  match k with
  | 2 => setStage p 3 s
  | 3 => setStage p 4 (s.modPort p (fun x => { x with deskewed := false }))
  | 4 => endStage4 p lanes s
  | 5 => endStage5 p s
  | 6 => endStage6 p s
  | _ => s

theorem stage_ends {k : Nat} (hen : portEnabled p s = true) (hstage : s.stage p = k) (lanes : Nat) :
    exec (.linkStageEnd (.port p) lanes) s = .next (stageEnd k p lanes s) := by
  rw [exec_linkStageEnd, execLinkStageEnd]
  rw [if_neg (not_not.mpr hen), hstage]
  rcases k with _ | _ | _ | _ | _ | _ | _ | k <;> rfl

theorem setStage_stage (p : Nat) {v : Nat} (hv : v < 8) (s : State) : (setStage p v s).stage p = v := fld_setFld_fits s BRL_PORTp_STATUS_STAGE p 0 0 hv

theorem stage2_ends (hen : portEnabled p s = true) (hstage : s.stage p = 2) (lanes : Nat) :
    ∃ t, exec (.linkStageEnd (.port p) lanes) s = .next t ∧ t.stage p = 3 ∧ onlyRegs [BRL_PORTp_STATUS_STAGE.key p 0 0] s t :=
  ⟨_, stage_ends hen hstage lanes, setStage_stage p (by decide) s, onlyRegs_setFld s BRL_PORTp_STATUS_STAGE 3 p 0 0⟩

theorem stage3_ends (hen : portEnabled p s = true) (hstage : s.stage p = 3) (lanes : Nat) :
    ∃ t, exec (.linkStageEnd (.port p) lanes) s = .next t ∧ t.stage p = 4 ∧
      t.brPort p = { s.brPort p with deskewed := false } ∧ onlyRegs [BRL_PORTp_STATUS_STAGE.key p 0 0] { s with ring := t.ring } t :=
  ⟨_, stage_ends hen hstage lanes, setStage_stage p (by decide) (s.modPort p (fun x => { x with deskewed := false })), brPort_modPort_same s p (fun x => { x with deskewed := false }), rfl,
    regsKeep_setFld (s.modPort p (fun x => { x with deskewed := false })) BRL_PORTp_STATUS_STAGE 4 p 0 0⟩

/-- The lanes that passed stage 4 are in block lock. -/
def blockLocked (l : List Nat) (s : State) : State := l.foldl (fun s n => s.setFld LNK_LANEn_RXSTAT_BLOCK_LOCK 1 n) s

theorem blockLocked_rest (l : List Nat) (s : State) : blockLocked l s = { s with regs := (blockLocked l s).regs } := by
  unfold blockLocked
  induction l generalizing s with
  | nil => rfl
  | cons n l ih =>
    rw [List.foldl_cons, ih]
    rfl

theorem blockLocked_mem {l : List Nat} (h : n ∈ l) (s : State) : (blockLocked l s).fld LNK_LANEn_RXSTAT_BLOCK_LOCK n = 1 := by
  have hkeeps (l : List Nat) (u : State) (hu : u.fld LNK_LANEn_RXSTAT_BLOCK_LOCK n = 1) : (blockLocked l u).fld LNK_LANEn_RXSTAT_BLOCK_LOCK n = 1 := by
    unfold blockLocked
    induction l generalizing u with
    | nil => exact hu
    | cons m l ih =>
      refine ih _ ?_
      by_cases hm : m = n
      · rw [hm, fld_setFld_fits u LNK_LANEn_RXSTAT_BLOCK_LOCK n 0 0 (by decide)]
      · rw [fld_setFld_elsewhere u LNK_LANEn_RXSTAT_BLOCK_LOCK LNK_LANEn_RXSTAT_BLOCK_LOCK 1 (by simp only [Field.key, LNK_LANEn_RXSTAT_BLOCK_LOCK]; omega), hu]
  induction l generalizing s with
  | nil => exact absurd h List.not_mem_nil
  | cons m l ih =>
    rcases List.mem_cons.mp h with rfl | hl
    · exact hkeeps l _ (fld_setFld_fits s LNK_LANEn_RXSTAT_BLOCK_LOCK n 0 0 (by decide))
    · exact ih hl _

/-- The state after stage 4 has ended with a width. -/
def widthFound (p w lanes : Nat) (s : State) : State :=
  ((setStage p 5 (blockLocked ((portLanes p).take w) s)).setFld BRL_PORTp_STATUS_WIDTH w p).modPort p (fun x => { x with lanes := weight (lanes % 16) 4, capAck := false })

theorem widthFound_fields (p : Fin 4) {w : Nat} (hw : w ≠ 0) (hlt : w < 8) (lanes : Nat) (s : State) : (widthFound p w lanes s).stage p = 5 ∧
    (widthFound p w lanes s).fld BRL_PORTp_STATUS_WIDTH p = w ∧ (widthFound p w lanes s).fld LNK_LANEn_RXSTAT_BLOCK_LOCK (16 + 4 * p) = 1 ∧
    (widthFound p w lanes s).out = s.out ∧ (widthFound p w lanes s).mem = s.mem := by
  have hrest := blockLocked_rest ((portLanes p).take w) s
  have hkey (F : Field) (hF : F.off = 0x1840100) (hs : F.s1 = 0x40) : LNK_LANEn_RXSTAT_BLOCK_LOCK.key (16 + 4 * p) 0 0 ≠ F.key p 0 0 := by
    simp only [Field.key, LNK_LANEn_RXSTAT_BLOCK_LOCK, hF, hs]
    omega
  have hfirst : 16 + 4 * p.val ∈ (portLanes p).take w := by
    obtain ⟨k, rfl⟩ : ∃ k, w = k + 1 := ⟨w - 1, by omega⟩
    exact .head _
  refine ⟨?_, fld_setFld_fits (setStage p 5 _) BRL_PORTp_STATUS_WIDTH p 0 0 hlt, ?_, ?_, ?_⟩
  · exact (fld_setFld_beside (setStage p 5 (blockLocked ((portLanes p).take w) s)) BRL_PORTp_STATUS_WIDTH BRL_PORTp_STATUS_STAGE w).trans (setStage_stage p (by decide) _)
  · refine (fld_setFld_elsewhere (setStage p 5 (blockLocked ((portLanes p).take w) s)) BRL_PORTp_STATUS_WIDTH LNK_LANEn_RXSTAT_BLOCK_LOCK w (hkey _ rfl rfl)).trans ?_
    exact (fld_setFld_elsewhere _ BRL_PORTp_STATUS_STAGE LNK_LANEn_RXSTAT_BLOCK_LOCK 5 (hkey _ rfl rfl)).trans (blockLocked_mem hfirst s)
  · exact (congrArg State.out hrest : _)
  · exact (congrArg State.mem hrest : _)

theorem stage4_ends (hen : portEnabled p s = true) (hstage : s.stage p = 4) {lanes : Nat} (hodd : lanes % 2 = 1) (hdeskewed : (s.brPort p).deskewed = true) :
    ∃ t, exec (.linkStageEnd (.port p) lanes) s = .next t ∧ t.stage p = 5 ∧
      t.fld BRL_PORTp_STATUS_WIDTH p = (if lanes % 16 = 15 then 4 else if lanes % 4 = 3 then 2 else 1) ∧
      t.fld LNK_LANEn_RXSTAT_BLOCK_LOCK (16 + 4 * p) = 1 ∧ t.out = .cap p (capOf p false t) :: s.out ∧ t.mem = s.mem := by
  have hwidth : portWidth lanes = if lanes % 16 = 15 then 4 else if lanes % 4 = 3 then 2 else 1 := by
    unfold portWidth
    rw [if_pos hodd]
  have hbound : portWidth lanes ≠ 0 ∧ portWidth lanes < 8 := by
    rw [hwidth]
    split
    · decide
    · split <;> decide
  obtain ⟨hstage', hw, hlock, hout, hmem⟩ := widthFound_fields p hbound.1 hbound.2 lanes s
  have hexec : exec (.linkStageEnd (.port p) lanes) s =
      .next ((widthFound p (portWidth lanes) lanes s).emit (.cap p (capOf p false (widthFound p (portWidth lanes) lanes s)))) := by
    refine (stage_ends hen hstage lanes).trans (congrArg _ ?_)
    unfold stageEnd endStage4
    dsimp only
    rw [if_neg hbound.1, if_neg (not_not.mpr hdeskewed)]
    rfl
  exact ⟨_, hexec, hstage', hw.trans hwidth, hlock, congrArg _ hout, hmem⟩

theorem portToStage1_out (p : Nat) (s : State) : (portToStage1 p s).out = s.out := by
  unfold portToStage1
  dsimp only
  rw [setFld_out, setFld_out, setFld_out, setFld_out, setFld_out]
  rfl

/-- What a failed stage leaves. -/
theorem stageFails_spec (p : Fin 4) (s : State) : (stageFails p s).stage p = 1 ∧ (stageFails p s).portActive p = false ∧
    (stageFails p s).fld BRL_PORTp_STATUS_FAILS p = (s.fld BRL_PORTp_STATUS_FAILS p + 1) % 2 ^ 16 ∧
    (stageFails p s).fld LNK_QUADq_RATE (4 + p) = 0 ∧
    (stageFails p s).brPort p = { BrPort.reset with queue := (s.brPort p).queue } ∧ (∀ j, j ≠ p.val → (stageFails p s).brPort j = s.brPort j) ∧
    (stageFails p s).out = s.out ∧ regsKeep [BRL_PORTp_STATUS_STAGE.key p 0 0, LNK_QUADq_RATE.key (4 + p) 0 0] s (stageFails p s) := by
  obtain ⟨hstage, hactive, hport, hports, -, -⟩ := portToStage1_spec p s
  have hquad : LNK_QUADq_RATE.key (4 + p) 0 0 ≠ BRL_PORTp_STATUS_FAILS.key p 0 0 := Ne.symm (status_key_quad p (4 + p) (by omega) rfl rfl)
  have hfails : (portToStage1 p s).fld BRL_PORTp_STATUS_FAILS p = s.fld BRL_PORTp_STATUS_FAILS p := by
    rw [portToStage1_fld p s BRL_PORTp_STATUS_FAILS (by decide) rfl]
    unfold stage1Status
    rw [fld_setFld_beside _ BRL_PORTp_STATUS_RATE BRL_PORTp_STATUS_FAILS, fld_setFld_beside _ BRL_PORTp_STATUS_WIDTH BRL_PORTp_STATUS_FAILS,
      fld_setFld_beside _ BRL_PORTp_STATUS_ACTIVE BRL_PORTp_STATUS_FAILS, fld_setFld_beside _ BRL_PORTp_STATUS_STAGE BRL_PORTp_STATUS_FAILS]
  refine ⟨(fld_addFld_beside (portToStage1 p s) BRL_PORTp_STATUS_FAILS BRL_PORTp_STATUS_STAGE 1).trans hstage, ?_, ?_, ?_, hport, hports, portToStage1_out p s, ?_⟩
  · unfold State.portActive State.on at hactive ⊢
    unfold stageFails
    rw [fld_addFld_beside _ BRL_PORTp_STATUS_FAILS BRL_PORTp_STATUS_ACTIVE 1]
    exact hactive
  · unfold stageFails
    rw [fld_addFld _ BRL_PORTp_STATUS_FAILS 1 p 0 0, hfails]
    rfl
  · unfold stageFails
    rw [fld_addFld_elsewhere _ BRL_PORTp_STATUS_FAILS LNK_QUADq_RATE 1 hquad, fld_congr LNK_QUADq_RATE (4 + p) 0 0 (reg_congr (portToStage1_regs p s) _),
      fld_setFld_fits _ LNK_QUADq_RATE (4 + p) 0 0 (by decide)]
  · have hstatus : regsKeep [BRL_PORTp_STATUS_STAGE.key p 0 0, LNK_QUADq_RATE.key (4 + p) 0 0] s ((stage1Status p s).setFld LNK_QUADq_RATE 0 (4 + p)) :=
      regsKeep_after_setFld LNK_QUADq_RATE 0 (4 + p) 0 0 (regsKeep_after_setFld BRL_PORTp_STATUS_RATE 0 p 0 0 (regsKeep_after_setFld BRL_PORTp_STATUS_WIDTH 0 p 0 0
        (regsKeep_after_setFld BRL_PORTp_STATUS_ACTIVE 0 p 0 0 (regsKeep_mono (by simp) (regsKeep_setFld s BRL_PORTp_STATUS_STAGE 1 p 0 0)) (.head _)) (.head _)) (.head _))
        (.tail _ (.head _))
    exact regsKeep_after_setFld BRL_PORTp_STATUS_FAILS _ p 0 0 (fun k hk => (reg_congr (portToStage1_regs p s) k).trans (hstatus k hk)) (.head _)

theorem stage4_fails (hen : portEnabled p s = true) (hstage : s.stage p = 4) {lanes : Nat} (heven : lanes % 2 = 0) :
    ∃ t, exec (.linkStageEnd (.port p) lanes) s = .next t ∧ t.stage p = 1 ∧ t.out = s.out ∧
      t.fld BRL_PORTp_STATUS_FAILS p = (s.fld BRL_PORTp_STATUS_FAILS p + 1) % 2 ^ 16 := by
  have hwidth : portWidth lanes = 0 := by
    unfold portWidth
    rw [if_neg (by omega), if_neg (by omega), if_neg (by omega)]
  obtain ⟨hstage', -, hfails, -, -, -, hout, -⟩ := stageFails_spec p s
  refine ⟨_, (stage_ends hen hstage lanes).trans (congrArg _ ?_), hstage', hout, hfails⟩
  unfold stageEnd endStage4
  dsimp only
  rw [hwidth, if_pos rfl]
  rfl

theorem stage5_ends (hen : portEnabled p s = true) (hstage : s.stage p = 5) (hack : (s.brPort p).capAck = true)
    (hrate : s.fld BRL_PORTp_STATUS_RATE p = bestRate (s.brPort p).capRates) (lanes : Nat) :
    ∃ t, exec (.linkStageEnd (.port p) lanes) s = .next t ∧ t.stage p = 6 ∧ t.out = .dlyReq p 0 :: s.out ∧
      t.brPort p = { s.brPort p with exchanges := 0, rttSum := 0, turnSum := 0 } := by
  have hexec : exec (.linkStageEnd (.port p) lanes) s =
      .next ((setStage p 6 (s.modPort p (fun x => { x with exchanges := 0, rttSum := 0, turnSum := 0 }))).emit (.dlyReq p 0)) := by
    refine (stage_ends hen hstage lanes).trans (congrArg _ ?_)
    unfold stageEnd endStage5
    dsimp only
    rw [if_neg (not_not.mpr hack), if_neg (not_not.mpr hrate.symm)]
    rfl
  exact ⟨_, hexec, setStage_stage p (by decide) _, rfl, brPort_modPort_same s p (fun x => { x with exchanges := 0, rttSum := 0, turnSum := 0 })⟩

theorem bestRate_bound (rates : Nat) : bestRate rates ≠ 0 ∧ bestRate rates < 8 := by
  unfold bestRate
  split
  · decide
  · split <;> decide

theorem stage5_again (hen : portEnabled p s = true) (hstage : s.stage p = 5) (hack : (s.brPort p).capAck = true)
    (hrate : s.fld BRL_PORTp_STATUS_RATE p ≠ bestRate (s.brPort p).capRates) (lanes : Nat) :
    ∃ t, exec (.linkStageEnd (.port p) lanes) s = .next t ∧ t.stage p = 2 ∧
      t.fld BRL_PORTp_STATUS_RATE p = bestRate (s.brPort p).capRates ∧ t.fld LNK_QUADq_RATE (4 + p) = bestRate (s.brPort p).capRates ∧
      t.out = s.out := by
  obtain ⟨hpos, hlt⟩ := bestRate_bound (s.brPort p).capRates
  have hexec : exec (.linkStageEnd (.port p) lanes) s =
      .next (stage2At p (bestRate (s.brPort p).capRates) (s.modPort p (fun x => { x with deskewed := false, capAck := false }))) := by
    refine (stage_ends hen hstage lanes).trans (congrArg _ ?_)
    unfold stageEnd endStage5
    dsimp only
    rw [if_neg (not_not.mpr hack), if_pos (Ne.symm hrate)]
    rfl
  obtain ⟨hstage', hr, hquad, -⟩ := stage2At_spec p hpos hlt (s.modPort p (fun x => { x with deskewed := false, capAck := false }))
  exact ⟨_, hexec, hstage', hr, hquad, stage2At_out p hpos hlt _⟩

/-- The delays are stored, the cable's length follows them and the port is ACTIVE. -/
def delayStored (p rtt turn : Nat) (s : State) : State :=
  (syncCable p ((s.setFld BRL_PORTp_DELAY_RTT_PS rtt p).setFld BRL_PORTp_DELAY_TURN_PS turn p)).setFld BRL_PORTp_STATUS_ACTIVE 1 p

theorem link_key_ne (p : Nat) {F G : Field} (hoff : F.off ≠ G.off) (hs : F.s1 = 0x40) (hs' : G.s1 = 0x40) : F.key p 0 0 ≠ G.key p 0 0 := by
  simp only [Field.key, hs, hs']
  omega

theorem delayStored_onlyRegs (p rtt turn : Nat) (s : State) :
    onlyRegs [BRL_PORTp_STATUS_STAGE.key p 0 0, BRL_PORTp_DELAY_RTT_PS.key p 0 0, BRL_PORTp_CABLE_LENGTH_MM.key p 0 0] s (delayStored p rtt turn s) :=
  onlyRegs_after_setFld BRL_PORTp_STATUS_ACTIVE 1 p 0 0 (onlyRegs_after_setFld BRL_PORTp_CABLE_LENGTH_MM _ p 0 0 (onlyRegs_after_setFld BRL_PORTp_DELAY_TURN_PS turn p 0 0
    (onlyRegs_mono (by simp) (onlyRegs_setFld s BRL_PORTp_DELAY_RTT_PS rtt p 0 0)) (.tail _ (.head _))) (.tail _ (.tail _ (.head _)))) (.head _)

theorem delayStored_fields (p : Nat) {rtt turn : Nat} (hr : rtt < 2 ^ 32) (ht : turn < 2 ^ 32) (s : State) :
    (delayStored p rtt turn s).fld BRL_PORTp_DELAY_RTT_PS p = rtt ∧ (delayStored p rtt turn s).fld BRL_PORTp_DELAY_TURN_PS p = turn ∧
    (delayStored p rtt turn s).fld BRL_PORTp_STATUS_ACTIVE p = 1 := by
  unfold delayStored syncCable
  dsimp only
  refine ⟨?_, ?_, fld_setFld_fits _ BRL_PORTp_STATUS_ACTIVE p 0 0 (by decide)⟩
  · rw [fld_setFld_elsewhere _ BRL_PORTp_STATUS_ACTIVE BRL_PORTp_DELAY_RTT_PS _ (link_key_ne p (by decide) rfl rfl),
      fld_setFld_elsewhere _ BRL_PORTp_CABLE_LENGTH_MM BRL_PORTp_DELAY_RTT_PS _ (link_key_ne p (by decide) rfl rfl),
      fld_setFld_beside _ BRL_PORTp_DELAY_TURN_PS BRL_PORTp_DELAY_RTT_PS, fld_setFld_fits _ BRL_PORTp_DELAY_RTT_PS p 0 0 hr]
  · rw [fld_setFld_elsewhere _ BRL_PORTp_STATUS_ACTIVE BRL_PORTp_DELAY_TURN_PS _ (link_key_ne p (by decide) rfl rfl),
      fld_setFld_elsewhere _ BRL_PORTp_CABLE_LENGTH_MM BRL_PORTp_DELAY_TURN_PS _ (link_key_ne p (by decide) rfl rfl),
      fld_setFld_fits _ BRL_PORTp_DELAY_TURN_PS p 0 0 ht]

theorem retrainDone_none (h : s.ring.retrain = []) (p : Nat) : retrainDone p s = s := by
  unfold retrainDone
  dsimp only
  rw [h]
  cases s
  rename_i ring _ _ _ _
  cases ring
  cases h
  rfl

/-- The port of a link that has just become ACTIVE has sent what it may. -/
def linkUp (p rtt turn : Nat) (s : State) : State := (setStage p 7 (delayStored p rtt turn s)).modPort p (fun x => { x with queue := [] })

theorem endStage6_eq {p : Nat} (hexchanges : (s.brPort p).exchanges = 64) (hretrain : s.ring.retrain = []) (hqueue : (s.brPort p).queue = []) :
    endStage6 p s = linkUp p ((s.brPort p).rttSum / 64) ((s.brPort p).turnSum / 64) s := by
  have hrest := (delayStored_onlyRegs p ((s.brPort p).rttSum / 64) ((s.brPort p).turnSum / 64) s).1
  have hring : (setStage p 7 (delayStored p ((s.brPort p).rttSum / 64) ((s.brPort p).turnSum / 64) s)).ring = s.ring := (congrArg State.ring hrest : _)
  have hpump : pumpPort p (setStage p 7 (delayStored p ((s.brPort p).rttSum / 64) ((s.brPort p).turnSum / 64) s)) =
      linkUp p ((s.brPort p).rttSum / 64) ((s.brPort p).turnSum / 64) s := pumpPort_empty (by rw [brPort_congr hring, hqueue])
  have hretrain' : (linkUp p ((s.brPort p).rttSum / 64) ((s.brPort p).turnSum / 64) s).ring.retrain = [] :=
    (congrArg (fun r => r.retrain) hring).trans hretrain
  have hshape : endStage6 p s = retrainDone p (pumpPort p (setStage p 7 (delayStored p ((s.brPort p).rttSum / 64) ((s.brPort p).turnSum / 64) s))) :=
    if_neg (by rw [hexchanges]; decide)
  rw [hshape, hpump, retrainDone_none hretrain']

theorem stage6_ends (hen : portEnabled p s = true) (hstage : s.stage p = 6) (hexchanges : (s.brPort p).exchanges = 64)
    (hrtt : (s.brPort p).rttSum < 64 * 2 ^ 32) (hturn : (s.brPort p).turnSum < 64 * 2 ^ 32) (hretrain : s.ring.retrain = [])
    (hqueue : (s.brPort p).queue = []) (lanes : Nat) :
    ∃ t, exec (.linkStageEnd (.port p) lanes) s = .next t ∧ t.stage p = 7 ∧ t.portActive p = true ∧
      t.fld BRL_PORTp_DELAY_RTT_PS p = (s.brPort p).rttSum / 64 ∧ t.fld BRL_PORTp_DELAY_TURN_PS p = (s.brPort p).turnSum / 64 ∧
      t.out = s.out ∧ regsKeep [BRL_PORTp_STATUS_STAGE.key p 0 0, BRL_PORTp_DELAY_RTT_PS.key p 0 0, BRL_PORTp_CABLE_LENGTH_MM.key p 0 0] s t := by
  have hexec : exec (.linkStageEnd (.port p) lanes) s = .next (linkUp p ((s.brPort p).rttSum / 64) ((s.brPort p).turnSum / 64) s) := 
    (stage_ends hen hstage lanes).trans (congrArg _ (endStage6_eq hexchanges hretrain hqueue))
  obtain ⟨hr, ht, ha⟩ := delayStored_fields p (rtt := (s.brPort p).rttSum / 64) (turn := (s.brPort p).turnSum / 64) (by omega) (by omega) s
  generalize (s.brPort p).rttSum / 64 = rtt at hexec hr ht ha ⊢
  generalize (s.brPort p).turnSum / 64 = turn at hexec hr ht ha ⊢
  have hregs := delayStored_onlyRegs p rtt turn s
  refine ⟨_, hexec, setStage_stage p (by decide) (delayStored p rtt turn s), ?_, ?_, ?_, (onlyRegs_out hregs : _),
    regsKeep_after_setFld BRL_PORTp_STATUS_STAGE 7 p 0 0 hregs.2 (.head _)⟩
  · have hactive : (linkUp p rtt turn s).fld BRL_PORTp_STATUS_ACTIVE p = 1 :=
      (fld_setFld_beside (delayStored p rtt turn s) BRL_PORTp_STATUS_STAGE BRL_PORTp_STATUS_ACTIVE 7).trans ha
    unfold State.portActive State.on
    rw [hactive]
    rfl
  · exact (fld_setFld_elsewhere (delayStored p rtt turn s) BRL_PORTp_STATUS_STAGE BRL_PORTp_DELAY_RTT_PS 7 (link_key_ne p (by decide) rfl rfl)).trans hr
  · exact (fld_setFld_elsewhere (delayStored p rtt turn s) BRL_PORTp_STATUS_STAGE BRL_PORTp_DELAY_TURN_PS 7 (link_key_ne p (by decide) rfl rfl)).trans ht

theorem stage_times_out (hlo : 2 ≤ s.stage p) (hhi : s.stage p ≤ 6) :
    ∃ t, exec (.linkStageTimeout (.port p)) s = .next t ∧ t.stage p = 1 ∧ t.portActive p = false ∧ t.fld LNK_QUADq_RATE (4 + p) = 0 ∧
      t.fld BRL_PORTp_STATUS_FAILS p = (s.fld BRL_PORTp_STATUS_FAILS p + 1) % 2 ^ 16 ∧
      t.brPort p = { BrPort.reset with queue := (s.brPort p).queue } ∧ (∀ j, j ≠ p.val → t.brPort j = s.brPort j) ∧ t.out = s.out ∧
      regsKeep [BRL_PORTp_STATUS_STAGE.key p 0 0, LNK_QUADq_RATE.key (4 + p) 0 0] s t := by
  obtain ⟨hstage, hactive, hfails, hquad, hport, hports, hout, hregs⟩ := stageFails_spec p s
  have hexec : exec (.linkStageTimeout (.port p)) s = .next (stageFails p s) := by
    rw [exec_linkStageTimeout, execLinkStageTimeout]
    exact if_pos ⟨hlo, hhi⟩
  exact ⟨_, hexec, hstage, hactive, hquad, hfails, hport, hports, hout, hregs⟩

/-! ### A user lane in BLOCK mode (R541) -/

theorem laneStage_set (n v : Nat) (s : State) : (setLaneStage n v s).laneStage n = v := Memory.get_set_same n v s.lanes.stages

theorem lane_detected {n : Fin 64} (hblocks : laneBlocks (32 + n) s = true) (hstage : s.laneStage (32 + n) = 1) :
    ∃ t, exec (.receiverDetect (.lane n) true) s = .next t ∧ t.laneStage (32 + n) = 2 ∧ t = { s with lanes := t.lanes } := by
  have hexec : exec (.receiverDetect (.lane n) true) s = .next (setLaneStage (32 + n) 2 s) := by
    rw [exec_receiverDetect, execReceiverDetect]
    exact if_pos ⟨rfl, hblocks, hstage⟩
  exact ⟨_, hexec, laneStage_set _ _ s, rfl⟩

theorem lane_stage_ends {n : Fin 64} (hblocks : laneBlocks (32 + n) s = true) (hlo : 2 ≤ s.laneStage (32 + n)) (hhi : s.laneStage (32 + n) ≤ 4) (lanes : Nat) :
    ∃ t, exec (.linkStageEnd (.lane n) lanes) s = .next t ∧ t.laneStage (32 + n) = s.laneStage (32 + n) + 1 ∧
      t.fld LNK_LANEn_RXSTAT_BLOCK_LOCK (32 + n) = (if s.laneStage (32 + n) = 4 then 1 else 0) ∧
      onlyRegs [LNK_LANEn_RXSTAT_CTLE.key (32 + n) 0 0] { s with lanes := t.lanes } t := by
  have hexec : exec (.linkStageEnd (.lane n) lanes) s = .next ((setLaneStage (32 + n) (s.laneStage (32 + n) + 1) s).setFld LNK_LANEn_RXSTAT_BLOCK_LOCK
      (bnat (decide (s.laneStage (32 + n) = 4))) (32 + n)) := by
    rw [exec_linkStageEnd, execLinkStageEnd]
    exact if_pos ⟨hblocks, hlo, hhi⟩
  refine ⟨_, hexec, laneStage_set _ _ s, ?_, rfl, regsKeep_setFld (setLaneStage (32 + n) _ s) LNK_LANEn_RXSTAT_BLOCK_LOCK _ (32 + n) 0 0⟩
  rw [fld_setFld_fits _ LNK_LANEn_RXSTAT_BLOCK_LOCK (32 + n) 0 0 (bnat_lt _), bnat]
  simp

theorem lane_times_out {n : Fin 64} (hlo : 2 ≤ s.laneStage (32 + n)) (hhi : s.laneStage (32 + n) ≤ 4) :
    ∃ t, exec (.linkStageTimeout (.lane n)) s = .next t ∧ t.laneStage (32 + n) = 1 ∧
      t.fld LNK_LANEn_RXSTAT_BLOCK_LOCK (32 + n) = 0 ∧ onlyRegs [LNK_LANEn_RXSTAT_CTLE.key (32 + n) 0 0] { s with lanes := t.lanes } t := by
  have hexec : exec (.linkStageTimeout (.lane n)) s = .next ((setLaneStage (32 + n) 1 s).setFld LNK_LANEn_RXSTAT_BLOCK_LOCK 0 (32 + n)) := by
    rw [exec_linkStageTimeout, execLinkStageTimeout]
    exact if_pos ⟨hlo, hhi⟩
  exact ⟨_, hexec, laneStage_set _ _ s, fld_setFld_fits (setLaneStage (32 + n) 1 s) LNK_LANEn_RXSTAT_BLOCK_LOCK (32 + n) 0 0 (by decide), rfl,
    regsKeep_setFld (setLaneStage (32 + n) 1 s) LNK_LANEn_RXSTAT_BLOCK_LOCK 0 (32 + n) 0 0⟩

/-! ### CAP (R538, R540, R566) -/

/-- The peer that a CAP block names. -/
def peerStored (p : Nat) (c : CapBlock) (s : State) : State :=
  ((s.setFld BRL_PORTp_STATUS_PEER_ID c.dev p).setFld BRL_PORTp_STATUS_PEER_PORT c.port p).setFld BRL_PORTp_STATUS_PEER_ASSIGNED (bnat c.assigned) p

theorem peerStored_onlyRegs (p : Nat) (c : CapBlock) (s : State) : onlyRegs [BRL_PORTp_STATUS_STAGE.key p 0 0] s (peerStored p c s) :=
  onlyRegs_after_setFld BRL_PORTp_STATUS_PEER_ASSIGNED _ p 0 0 (onlyRegs_after_setFld BRL_PORTp_STATUS_PEER_PORT _ p 0 0
    (onlyRegs_setFld s BRL_PORTp_STATUS_PEER_ID c.dev p 0 0) (.head _)) (.head _)

theorem peerStored_fields (p : Nat) {c : CapBlock} (hdev : c.dev < 2 ^ 14) (hport : c.port < 4) (s : State) :
    (peerStored p c s).fld BRL_PORTp_STATUS_PEER_ID p = c.dev ∧ (peerStored p c s).fld BRL_PORTp_STATUS_PEER_PORT p = c.port ∧
    (peerStored p c s).fld BRL_PORTp_STATUS_FAILS p = s.fld BRL_PORTp_STATUS_FAILS p := by
  unfold peerStored
  rw [fld_setFld_beside _ BRL_PORTp_STATUS_PEER_ASSIGNED BRL_PORTp_STATUS_PEER_ID, fld_setFld_beside _ BRL_PORTp_STATUS_PEER_PORT BRL_PORTp_STATUS_PEER_ID,
    fld_setFld_fits _ BRL_PORTp_STATUS_PEER_ID p 0 0 hdev, fld_setFld_beside _ BRL_PORTp_STATUS_PEER_ASSIGNED BRL_PORTp_STATUS_PEER_PORT,
    fld_setFld_fits _ BRL_PORTp_STATUS_PEER_PORT p 0 0 hport, fld_setFld_beside _ BRL_PORTp_STATUS_PEER_ASSIGNED BRL_PORTp_STATUS_FAILS,
    fld_setFld_beside _ BRL_PORTp_STATUS_PEER_PORT BRL_PORTp_STATUS_FAILS, fld_setFld_beside _ BRL_PORTp_STATUS_PEER_ID BRL_PORTp_STATUS_FAILS]
  exact ⟨rfl, rfl, rfl⟩

theorem cap_answered {c : CapBlock} (hstage : s.stage p = 5) (hdev : c.dev < 2 ^ 14) (hport : c.port < 4) (hparity : c.port % 2 ≠ p.val % 2) :
    ∃ t, exec (.cap p c) s = .next t ∧ t.out = .cap p (capOf p true t) :: s.out ∧ t.fld BRL_PORTp_STATUS_PEER_ID p = c.dev ∧
      t.fld BRL_PORTp_STATUS_PEER_PORT p = c.port ∧ (t.brPort p).capRates = c.rates ∧
      (t.brPort p).capAck = ((s.brPort p).capAck || c.ack) ∧ regsKeep [BRL_PORTp_STATUS_STAGE.key p 0 0] s t := by
  have hregs := peerStored_onlyRegs p c s
  obtain ⟨hid, hpeer, -⟩ := peerStored_fields p hdev hport s
  have hring : (peerStored p c s).brPort p = s.brPort p := brPort_congr (by rw [hregs.1]) p
  have hexec : exec (.cap p c) s = .next (((peerStored p c s).modPort p (fun x => { x with capRates := c.rates, capAck := x.capAck || c.ack })).emit
      (.cap p (capOf p true ((peerStored p c s).modPort p (fun x => { x with capRates := c.rates, capAck := x.capAck || c.ack }))))) := by
    rw [exec_cap, execCap, if_neg (not_not.mpr hstage)]
    exact if_neg hparity
  have hmod := brPort_modPort_same (peerStored p c s) p (fun x => { x with capRates := c.rates, capAck := x.capAck || c.ack })
  refine ⟨_, hexec, congrArg _ (onlyRegs_out hregs), hid, hpeer, (congrArg BrPort.capRates hmod : _), (congrArg BrPort.capAck hmod : _).trans ?_, hregs.2⟩
  rw [hring]

theorem cap_fails {c : CapBlock} (hstage : s.stage p = 5) (hdev : c.dev < 2 ^ 14) (hport : c.port < 4) (hparity : c.port % 2 = p.val % 2) :
    ∃ t, exec (.cap p c) s = .next t ∧ t.stage p = 1 ∧ t.out = s.out ∧
      t.fld BRL_PORTp_STATUS_FAILS p = (s.fld BRL_PORTp_STATUS_FAILS p + 1) % 2 ^ 16 := by
  have hexec : exec (.cap p c) s = .next (stageFails p (peerStored p c s)) := by
    rw [exec_cap, execCap, if_neg (not_not.mpr hstage)]
    exact if_pos hparity
  obtain ⟨hstage', -, hfails, -, -, -, hout, -⟩ := stageFails_spec p (peerStored p c s)
  exact ⟨_, hexec, hstage', hout.trans (onlyRegs_out (peerStored_onlyRegs p c s)), hfails.trans (by rw [(peerStored_fields p hdev hport s).2.2])⟩

/-! ### Delay exchanges, ALIGN and LINK_RETRAIN (R557, R563, R574, R575) -/

theorem delay_answered {num turn : Nat} (hstage : 6 ≤ s.stage p) :
    ∃ t, exec (.dlyReq p num turn) s = .next t ∧ t.out = .dlyRsp p num turn :: s.out ∧ storesKeep s t := by
  refine ⟨s.emit (.dlyRsp p num turn), ?_, rfl, rfl, rfl⟩
  rw [exec_dlyReq, execDlyReq, if_pos hstage]

theorem delay_exchanged {num rtt turn : Nat} (hstage : s.stage p = 6) (hnum : num < 63) (hexchanges : (s.brPort p).exchanges = num) :
    ∃ t, exec (.dlyRsp p num rtt turn) s = .next t ∧ t.out = .dlyReq p (num + 1) :: s.out ∧ storesKeep s t ∧
      t.brPort p = { s.brPort p with
        exchanges := num + 1, rttSum := (s.brPort p).rttSum + rtt, turnSum := (s.brPort p).turnSum + turn } := by
  have hexec : exec (.dlyRsp p num rtt turn) s = .next ((s.modPort p (fun x => { x with
      exchanges := x.exchanges + 1, rttSum := x.rttSum + rtt, turnSum := x.turnSum + turn })).emit (.dlyReq p (num + 1))) := by
    rw [exec_dlyRsp, execDlyRsp]
    dsimp only
    rw [hexchanges, if_neg (by omega), if_pos (by omega)]
  refine ⟨_, hexec, rfl, ⟨rfl, rfl⟩, ?_⟩
  refine (brPort_modPort_same s p (fun x => { x with exchanges := x.exchanges + 1, rttSum := x.rttSum + rtt, turnSum := x.turnSum + turn })).trans ?_
  rw [hexchanges]

theorem lanes_deskewed (p : Fin 4) (s : State) :
    ∃ t, exec (.align p) s = .next t ∧ t.brPort p = { s.brPort p with deskewed := true } ∧ t.out = s.out ∧ storesKeep s t :=
  ⟨_, exec_align p s, brPort_modPort_same s p (fun x => { x with deskewed := true }), rfl, rfl, rfl⟩

theorem align_sent (hactive : s.portActive p = true) : exec (.alignSend p) s = .next { s with out := .align p :: s.out } := by
  rw [exec_alignSend, execAlignSend, if_pos hactive]
  rfl

/-- A port that a command trains again. -/
def retraining (n : Nat) (x : Packet) (s : State) : State :=
  { portToStage1 n s with ring := { (portToStage1 n s).ring with retrain := (portToStage1 n s).ring.retrain ++ [(n, x)] } }

theorem retraining_out (n : Nat) (x : Packet) (s : State) : (retraining n x s).out = s.out := portToStage1_out n s

theorem link_retrained {x : Packet} (hacc : s.accepts 0x0603 1 .owner x) :
    ∃ t, exec (.linkRetrain x) s = .next t ∧ t.stage (bits (x.w 1) 0 2) = 1 ∧ t.portActive (bits (x.w 1) 0 2) = false ∧
      t.ring.retrain = s.ring.retrain ++ [(bits (x.w 1) 0 2, x)] ∧ t.out = (beginCommand x s).out := by
  obtain ⟨hstage, hactive, -⟩ := portToStage1_spec (bits (x.w 1) 0 2) (beginCommand x s)
  have hexec : exec (.linkRetrain x) s = .next (retraining (bits (x.w 1) 0 2) x (beginCommand x s)) := by
    rw [exec_linkRetrain, execLinkRetrain, runCommand_passes hacc]
    rfl
  have hretrain : (portToStage1 (bits (x.w 1) 0 2) (beginCommand x s)).ring.retrain = s.ring.retrain := congrArg (fun r => r.retrain) (beginCommand_ring x s)
  exact ⟨_, hexec, hstage, hactive, congrArg (· ++ [(bits (x.w 1) 0 2, x)]) hretrain, retraining_out _ x _⟩

theorem retrain_times_out {x : Packet} (h : s.ring.retrain = [(p.val, x)]) :
    exec (.retrainTimeout p) s = .next (endCommand x .busy [BitVec.ofNat 64 (s.stage p)] { s with ring := { s.ring with retrain := [] } }) := by
  rw [exec_retrainTimeout, execRetrainTimeout, h, List.find?_cons_of_pos (by simp)]
  dsimp only
  rw [dropFirst, if_pos rfl]
  rfl

/-- Settles O49. -/
theorem linkBringUp : Obligations.LinkBringUp :=
  ⟨fun p lanes s hen => ⟨fun h => port_detected hen h, port_not_detected p s, fun h => stage2_ends hen h lanes, fun h => stage3_ends hen h lanes,
      fun h hodd hdeskewed => stage4_ends hen h hodd hdeskewed, fun h heven => stage4_fails hen h heven,
      fun h hack hrate => stage5_ends hen h hack hrate lanes, fun h hack hrate => stage5_again hen h hack hrate lanes,
      fun h hexchanges hrtt hturn hretrain hqueue => stage6_ends hen h hexchanges hrtt hturn hretrain hqueue lanes⟩,
    fun _ _ hlo hhi => stage_times_out hlo hhi,
    fun _ lanes _ hblocks => ⟨fun h => lane_detected hblocks h, fun hlo hhi => ⟨lane_stage_ends hblocks hlo hhi lanes, lane_times_out hlo hhi⟩⟩,
    fun _ _ _ hstage hdev hport => ⟨fun hparity => cap_answered hstage hdev hport hparity, fun hparity => cap_fails hstage hdev hport hparity⟩,
    fun _ _ _ _ _ => ⟨fun hstage => delay_answered hstage, fun hstage hnum hexchanges => delay_exchanged hstage hnum hexchanges⟩,
    fun p s => ⟨lanes_deskewed p s, fun hactive => align_sent hactive⟩,
    fun _ _ hacc => link_retrained hacc, fun _ _ _ h => retrain_times_out h⟩

end Sys2Proof.Machine
end

section
-- One proof at a time: the memory limit of the check counts a stack for every proof that waits for another.
set_option Elab.async false
/-! SUPPORT. The way of a frame round the Brocia ring: what its route reads, and a frame that leaves by its port at once (R560, R561, R569). -/

namespace Sys2Proof.Machine

variable {s t u : State} {f : BrFrame} {q : Nat} {fresh : Bool}

/-! ### What a route reads -/

/-- The fields that the choice of a port reads: the maps of the rings, this device's places in them and ID, and the ports in use. -/
def linkFields : List Field :=
  [BRL_MAPk_VALID, BRL_MAPk_DEVID, BRL_ID_POSITION, BRL_ID_RING_SIZE, BRL_ID_POSITION1, BRL_ID_RING_SIZE1, BRL_PORTp_STATUS_ACTIVE, BRL_ID_DEVID, BRL_ID_ASSIGNED]

/-- Two states in which frames take the same ways. -/
def sameLinks (s t : State) : Prop := ∀ F ∈ linkFields, ∀ i, t.fld F i = s.fld F i

theorem sameLinks_of_regs (h : t.regs = s.regs) : sameLinks s t := fun F _ i => fld_congr F i 0 0 (reg_congr h _)

theorem sameLinks_trans (h : sameLinks s t) (h' : sameLinks t u) : sameLinks s u := fun F hF i => (h' F hF i).trans (h F hF i)

theorem linkFields_low : ∀ F ∈ linkFields, 0x1840000 ≤ F.off := by decide

/-- A register below the Brocia link's is none that a route reads. -/
theorem sameLinks_below (F : Field) (v i : Nat) (h : F.key i 0 0 < 0x1840000) (s : State) : sameLinks s (s.setFld F v i) := fun G hG j => by
  have hlo := linkFields_low G hG
  exact fld_setFld_elsewhere s F G v (by simp only [Field.key] at h ⊢; omega)

/-- The counts of the ring are none that a route reads. -/
theorem sameLinks_counts (F : Field) (hF : F.off = 0x1840218) (hs : F.s1 = 0) (v : Nat) (s : State) : sameLinks s (s.setFld F v) := fun G hG j => by
  refine fld_setFld_elsewhere s F G v ?_
  simp only [linkFields, List.mem_cons, List.not_mem_nil, or_false] at hG
  rcases hG with rfl | rfl | rfl | rfl | rfl | rfl | rfl | rfl | rfl <;>
    simp only [Field.key, hF, hs, BRL_MAPk_VALID, BRL_MAPk_DEVID, BRL_ID_POSITION, BRL_ID_RING_SIZE, BRL_ID_POSITION1, BRL_ID_RING_SIZE1,
      BRL_PORTp_STATUS_ACTIVE, BRL_ID_DEVID, BRL_ID_ASSIGNED] <;> omega

theorem sameLinks.fld (h : sameLinks s t) (F : Field) (i : Nat) (hF : F ∈ linkFields := by decide) : t.fld F i = s.fld F i := h F hF i

theorem sameLinks.on (h : sameLinks s t) (F : Field) (i : Nat) (hF : F ∈ linkFields := by decide) : t.on F i = s.on F i := by
  unfold State.on
  rw [h.fld F i hF]

theorem sameLinks.active (h : sameLinks s t) (p : Nat) : t.portActive p = s.portActive p := h.on BRL_PORTp_STATUS_ACTIVE p
theorem sameLinks.devId (h : sameLinks s t) : t.devId = s.devId := h.fld BRL_ID_DEVID 0

/-- Two states that agree on the places of two rings, which is all that a port is chosen by. -/
def nearLinks (s t : State) : Prop := ∀ F ∈ linkFields, ∀ i < 128, t.fld F i = s.fld F i

theorem sameLinks.near (h : sameLinks s t) : nearLinks s t := fun F hF i _ => h F hF i

theorem nearLinks.on (h : nearLinks s t) (F : Field) {i : Nat} (hi : i < 128) (hF : F ∈ linkFields := by decide) : t.on F i = s.on F i := by
  unfold State.on
  rw [h F hF i hi]

theorem nearLinks.mapPosition (h : nearLinks s t) {ring : Nat} (hring : ring < 2) (dev : Nat) :
    mapPosition ring dev t = Machine.mapPosition ring dev s := by
  have hplace (k : Nat) (hk : k < 64) : (t.on BRL_MAPk_VALID (64 * ring + k) && decide (t.fld BRL_MAPk_DEVID (64 * ring + k) = dev)) =
      (s.on BRL_MAPk_VALID (64 * ring + k) && decide (s.fld BRL_MAPk_DEVID (64 * ring + k) = dev)) := by
    rw [h.on BRL_MAPk_VALID (by omega), h BRL_MAPk_DEVID (by decide) _ (by omega)]
  unfold Machine.mapPosition
  refine List.find?_congr fun k hk => hplace k (List.mem_range.mp hk)

theorem nearLinks.ringHops (h : nearLinks s t) {ring : Nat} (hring : ring < 2) (dev : Nat) : ringHops ring dev t = Machine.ringHops ring dev s := by
  have hplace : ringPlace ring t = ringPlace ring s := by
    unfold ringPlace
    rw [h BRL_ID_POSITION (by decide) 0 (by decide), h BRL_ID_RING_SIZE (by decide) 0 (by decide), h BRL_ID_POSITION1 (by decide) 0 (by decide),
      h BRL_ID_RING_SIZE1 (by decide) 0 (by decide)]
  unfold Machine.ringHops
  rw [h.mapPosition hring, hplace]

theorem nearLinks.active (h : nearLinks s t) {p : Nat} (hp : p < 128) : t.portActive p = s.portActive p := h.on BRL_PORTp_STATUS_ACTIVE hp

theorem otherPort_lt {p n : Nat} (hp : p < 2 * n) : otherPort p < 2 * n := by
  unfold otherPort
  split <;> omega

theorem nearLinks.pickPort (h : nearLinks s t) {ring : Nat} (hring : ring < 2) (d : Nat × Nat) : pickPort ring d t = Machine.pickPort ring d s := by
  have hfirst : (if d.1 ≤ d.2 then 2 * ring else 2 * ring + 1) < 2 * 64 := by split <;> omega
  unfold Machine.pickPort
  dsimp only
  rw [h.active hfirst, h.active (otherPort_lt hfirst)]

theorem nearLinks.ringPort (h : nearLinks s t) {ring : Nat} (hring : ring < 2) (dev : Nat) : ringPort ring dev t = Machine.ringPort ring dev s := by
  unfold Machine.ringPort
  rw [h.ringHops hring]
  exact congrArg _ (funext fun d => h.pickPort hring d)

theorem nearLinks.routePort (h : nearLinks s t) (dev : Nat) : routePort dev t = Machine.routePort dev s := by
  unfold Machine.routePort
  rw [h.ringHops (by decide), h.ringHops (by decide)]
  simp only [h.pickPort (show 0 < 2 by decide), h.pickPort (show 1 < 2 by decide)]

/-- The start of a command changes nothing that a route reads. -/
theorem beginCommand_nearLinks (p : Packet) (s : State) : nearLinks s (beginCommand p s) := fun F hF i hi => by
  have hkey : 0x1188 < F.key i 0 0 ∧ F.key i 0 0 < slotSpan := by
    simp only [linkFields, List.mem_cons, List.not_mem_nil, or_false] at hF
    rcases hF with rfl | rfl | rfl | rfl | rfl | rfl | rfl | rfl | rfl <;>
      simp only [Field.key, slotSpan, BRL_MAPk_VALID, BRL_MAPk_DEVID, BRL_ID_POSITION, BRL_ID_RING_SIZE, BRL_ID_POSITION1, BRL_ID_RING_SIZE1,
        BRL_PORTp_STATUS_ACTIVE, BRL_ID_DEVID, BRL_ID_ASSIGNED] <;> omega
  exact fld_beginCommand p s F i 0 0 hkey.1 hkey.2

theorem sameLinks.forMe (h : sameLinks s t) (f : BrFrame) : forMe f t = Machine.forMe f s := by
  unfold Machine.forMe
  rw [h.on BRL_ID_ASSIGNED 0, h.devId]

theorem sameLinks.sysFrame (h : sameLinks s t) (kind dest : Nat) (data : List Word) : sysFrame t kind dest data = Machine.sysFrame s kind dest data := by
  unfold Machine.sysFrame
  rw [h.devId]

/-! ### A frame that leaves at once -/

/-- What a port's leave to send depends on. -/
theorem leaves_congr {n : Nat} (hport : t.brPort q = { s.brPort q with rxSeq := n }) (hactive : t.portActive q = s.portActive q) (h : s.leaves fresh f q) :
    t.leaves fresh f q := by
  obtain ⟨hqueue, hmay⟩ := h
  refine ⟨by rw [hport]; exact hqueue, ?_⟩
  unfold portMay at hmay ⊢
  rw [hport, hactive]
  exact hmay

/-- The state in which a frame has left by a port that had none waiting. -/
def frameSent (f : BrFrame) (q : Nat) (fresh : Bool) (s : State) : State :=
  putFrame f q ((s.modPort q (fun x => { x with queue := x.queue ++ [(fresh, f)] })).modPort q (fun x => { x with queue := [] }))

theorem sendFrame_leaves (h : s.leaves fresh f q) : sendFrame fresh f q s = frameSent f q fresh s := by
  obtain ⟨hqueue, hmay⟩ := h
  have hwaits : (s.modPort q (fun x => { x with queue := x.queue ++ [(fresh, f)] })).brPort q = { s.brPort q with queue := [(fresh, f)] } := by
    rw [brPort_modPort_same, hqueue]
    rfl
  have hport : ((s.modPort q (fun x => { x with queue := x.queue ++ [(fresh, f)] })).modPort q (fun x => { x with queue := [] })).brPort q =
      { s.brPort q with queue := [] } := by
    rw [brPort_modPort_same, hwaits]
  have hmay' : portMay fresh f q ((s.modPort q (fun x => { x with queue := x.queue ++ [(fresh, f)] })).modPort q (fun x => { x with queue := [] })) = true := by
    unfold portMay at hmay ⊢
    rw [hport]
    exact hmay
  unfold sendFrame pumpPort
  rw [hwaits]
  dsimp only
  unfold pumpQueue
  rw [if_pos ⟨by simp, hmay'⟩]
  rfl

theorem frameSent_out (f : BrFrame) (q : Nat) (fresh : Bool) (s : State) : (frameSent f q fresh s).out = .frame q (s.brPort q).txSeq f :: s.out := by
  unfold frameSent putFrame
  dsimp only
  rw [brPort_modPort_same, brPort_modPort_same]
  rfl

/-- A frame that leaves changes its port and what is sent. -/
theorem frameSent_rest (f : BrFrame) (q : Nat) (fresh : Bool) (s : State) :
    frameSent f q fresh s = { s with ring := { s.ring with ports := (frameSent f q fresh s).ring.ports }, out := (frameSent f q fresh s).out } := rfl

theorem frameSent_regs (f : BrFrame) (q : Nat) (fresh : Bool) (s : State) : (frameSent f q fresh s).regs = s.regs := rfl
theorem frameSent_mem (f : BrFrame) (q : Nat) (fresh : Bool) (s : State) : (frameSent f q fresh s).mem = s.mem := rfl

theorem frameSent_storesKeep (f : BrFrame) (q : Nat) (fresh : Bool) (s : State) : storesKeep s (frameSent f q fresh s) := ⟨frameSent_regs f q fresh s, frameSent_mem f q fresh s⟩

/-! ### A frame that arrives (R560, R569) -/

theorem frameIn_rest (p : Nat) (s : State) : frameIn p s = { s with ring := { s.ring with ports := (frameIn p s).ring.ports } } := rfl
theorem frameIn_regs (p : Nat) (s : State) : (frameIn p s).regs = s.regs := rfl
theorem frameIn_mem (p : Nat) (s : State) : (frameIn p s).mem = s.mem := rfl
theorem frameIn_out (p : Nat) (s : State) : (frameIn p s).out = s.out := rfl
theorem frameIn_sameLinks (p : Nat) (s : State) : sameLinks s (frameIn p s) := sameLinks_of_regs (frameIn_regs p s)

theorem frameIn_brPort (p : Nat) (s : State) : (frameIn p s).brPort p = { s.brPort p with rxSeq := ((s.brPort p).rxSeq + 1) % 4096 } :=
  brPort_modPort_same s p (fun x => { x with rxSeq := (x.rxSeq + 1) % 4096 })

/-- Every port keeps what it may send. -/
theorem frameIn_port (p q : Nat) (s : State) : ∃ n, (frameIn p s).brPort q = { s.brPort q with rxSeq := n } := by
  by_cases h : q = p
  · subst h
    exact ⟨_, frameIn_brPort q s⟩
  · exact ⟨(s.brPort q).rxSeq, brPort_modPort_other s _ h⟩

theorem frameIn_leaves (p : Nat) (h : s.leaves fresh f q) : (frameIn p s).leaves fresh f q := by
  obtain ⟨n, hn⟩ := frameIn_port p q s
  exact leaves_congr hn ((frameIn_sameLinks p s).active q) h

theorem frameIn_txSeq (p q : Nat) (s : State) : ((frameIn p s).brPort q).txSeq = (s.brPort q).txSeq := by
  obtain ⟨n, hn⟩ := frameIn_port p q s
  rw [hn]

theorem arrive_inactive {p : Nat} {take : State → State} (h : s.portActive p = false) : arrive p f take s = s := by
  unfold arrive
  rw [if_pos (by rw [h]; exact Bool.false_ne_true)]

theorem arrive_taken {p : Nat} {take : State → State} (h : s.portActive p = true) (hops : f.hops < 64) : arrive p f take s = take (frameIn p s) := by
  unfold arrive
  dsimp only
  rw [if_neg (not_not.mpr h), if_neg (by omega)]

theorem arrive_discarded {p : Nat} {take : State → State} (h : s.portActive p = true) (hops : 64 ≤ f.hops) :
    arrive p f take s = refuseFrame f ((frameIn p s).addFld BRL_COUNTS_HOP_DISCARD 1) := by
  unfold arrive
  dsimp only
  rw [if_neg (not_not.mpr h), if_pos hops]

end Sys2Proof.Machine
end

section
-- One proof at a time: the memory limit of the check counts a stack for every proof that waits for another.
set_option Elab.async false
/-! SUPPORT. Frames of the Brocia ring: taken, forwarded, discarded, answered and streamed (R569 to R573, R375). -/

namespace Sys2Proof.Machine

variable {s t : State} {f : BrFrame} {p : Fin 4} {q : Nat}

/-! ### A port that is not ACTIVE -/

theorem frames_need_an_active_port (h : s.portActive p = false) :
    exec (.readFrame p f) s = .next s ∧ exec (.writeFrame p f) s = .next s ∧ exec (.responseFrame p f) s = .next s ∧
      exec (.streamFrame p f) s = .next s ∧ exec (.enumFrame p f) s = .next s ∧ exec (.enumTableFrame p f) s = .next s :=
  ⟨congrArg Host.Outcome.next (arrive_inactive h), congrArg Host.Outcome.next (arrive_inactive h), congrArg Host.Outcome.next (arrive_inactive h),
    congrArg Host.Outcome.next (arrive_inactive h), congrArg Host.Outcome.next (arrive_inactive h), congrArg Host.Outcome.next (arrive_inactive h)⟩

/-! ### Requests for this device (R572) -/

theorem frameIn_forMe (p : Nat) (f : BrFrame) (s : State) : forMe f (frameIn p s) = forMe f s := (frameIn_sameLinks p s).forMe f

theorem request_served (h : s.portActive p = true) (hme : forMe f s = true) (hops : f.hops < 64) :
    ∃ t, requestFrame p f s = t ∧ t.out = .request 156 s.ring.nextTag (peerIdent f) (decide (f.kind = frWrite)) f.addr f.size f.data f.poison :: s.out ∧
      t.ring.serving = s.ring.serving ++ [⟨s.ring.nextTag, f.src, f.tag⟩] ∧ (t.brPort p).rxSeq = ((s.brPort p).rxSeq + 1) % 4096 ∧ storesKeep s t := by
  have hserve : requestFrame p f s = serveFrame f (frameIn p s) := by
    unfold requestFrame
    rw [arrive_taken h hops, if_pos ((frameIn_forMe p f s).trans hme)]
  exact ⟨_, hserve, rfl, rfl, congrArg BrPort.rxSeq (frameIn_brPort p s), ⟨rfl, rfl⟩⟩

theorem read_served (h : s.portActive p = true) (hme : forMe f s = true) (hops : f.hops < 64) :
    ∃ t, exec (.readFrame p f) s = .next t ∧ t.out = .request 156 s.ring.nextTag (peerIdent f) false f.addr f.size f.data f.poison :: s.out ∧
      t.ring.serving = s.ring.serving ++ [⟨s.ring.nextTag, f.src, f.tag⟩] ∧ (t.brPort p).rxSeq = ((s.brPort p).rxSeq + 1) % 4096 ∧ storesKeep s t := by
  obtain ⟨t, ht, hspec⟩ := request_served (f := { f with kind := frRead }) h hme hops
  exact ⟨t, congrArg Host.Outcome.next ht, hspec⟩

theorem write_served (h : s.portActive p = true) (hme : forMe f s = true) (hops : f.hops < 64) :
    ∃ t, exec (.writeFrame p f) s = .next t ∧ t.out = .request 156 s.ring.nextTag (peerIdent f) true f.addr f.size f.data f.poison :: s.out ∧
      t.ring.serving = s.ring.serving ++ [⟨s.ring.nextTag, f.src, f.tag⟩] ∧ (t.brPort p).rxSeq = ((s.brPort p).rxSeq + 1) % 4096 ∧ storesKeep s t := by
  obtain ⟨t, ht, hspec⟩ := request_served (f := { f with kind := frWrite }) h hme hops
  exact ⟨t, congrArg Host.Outcome.next ht, hspec⟩

/-! ### Frames for another device (R569) -/

theorem port_ring (p : Fin 4) : p.val / 2 < 2 := by omega

theorem request_passes (h : s.portActive p = true) (hme : forMe f s = false) (hops : f.hops < 64) :
    requestFrame p f s = forwardFrame (p / 2) f (frameIn p s) := by
  unfold requestFrame
  rw [arrive_taken h hops, if_neg (by rw [frameIn_forMe, hme]; exact Bool.false_ne_true)]

theorem response_passes (h : s.portActive p = true) (hme : forMe f s = false) (hops : f.hops < 64) :
    exec (.responseFrame p f) s = .next (forwardFrame (p / 2) { f with kind := frResponse } (frameIn p s)) := by
  rw [exec_responseFrame, execResponseFrame]
  dsimp only
  rw [arrive_taken (f := { f with kind := frResponse }) h hops, if_neg (by rw [frameIn_forMe]; exact Bool.eq_false_iff.mp hme)]

theorem frame_forwarded {ring : Nat} (hring : ring < 2) (hport : ringPort ring f.dest s = some q) (hleaves : s.leaves false { f with hops := f.hops + 1 } q) :
    ∃ t, forwardFrame ring f (frameIn p s) = t ∧ t.out = .frame q (s.brPort q).txSeq { f with hops := f.hops + 1 } :: s.out ∧ storesKeep s t := by
  have hforward : forwardFrame ring f (frameIn p s) = frameSent { f with hops := f.hops + 1 } q false (frameIn p s) := by
    unfold forwardFrame
    rw [(frameIn_sameLinks p s).near.ringPort hring, hport]
    exact sendFrame_leaves (frameIn_leaves p hleaves)
  refine ⟨_, hforward, ?_, frameSent_storesKeep _ q false (frameIn p s)⟩
  rw [frameSent_out, frameIn_txSeq, frameIn_out]

theorem read_forwarded (h : s.portActive p = true) (hme : forMe f s = false) (hops : f.hops < 64) (hport : ringPort (p.val / 2) f.dest s = some q)
    (hleaves : s.leaves false { f with kind := frRead, hops := f.hops + 1 } q) :
    ∃ t, exec (.readFrame p f) s = .next t ∧ t.out = .frame q (s.brPort q).txSeq { f with kind := frRead, hops := f.hops + 1 } :: s.out ∧
      storesKeep s t := by
  obtain ⟨t, ht, hspec⟩ := frame_forwarded (p := p) (f := { f with kind := frRead }) (port_ring p) hport hleaves
  exact ⟨t, congrArg Host.Outcome.next ((request_passes (f := { f with kind := frRead }) h hme hops).trans ht), hspec⟩

theorem write_forwarded (h : s.portActive p = true) (hme : forMe f s = false) (hops : f.hops < 64) (hport : ringPort (p.val / 2) f.dest s = some q)
    (hleaves : s.leaves false { f with kind := frWrite, hops := f.hops + 1 } q) :
    ∃ t, exec (.writeFrame p f) s = .next t ∧ t.out = .frame q (s.brPort q).txSeq { f with kind := frWrite, hops := f.hops + 1 } :: s.out ∧
      storesKeep s t := by
  obtain ⟨t, ht, hspec⟩ := frame_forwarded (p := p) (f := { f with kind := frWrite }) (port_ring p) hport hleaves
  exact ⟨t, congrArg Host.Outcome.next ((request_passes (f := { f with kind := frWrite }) h hme hops).trans ht), hspec⟩

theorem response_forwarded (h : s.portActive p = true) (hme : forMe f s = false) (hops : f.hops < 64) (hport : ringPort (p.val / 2) f.dest s = some q)
    (hleaves : s.leaves false { f with kind := frResponse, hops := f.hops + 1 } q) :
    ∃ t, exec (.responseFrame p f) s = .next t ∧ t.out = .frame q (s.brPort q).txSeq { f with kind := frResponse, hops := f.hops + 1 } :: s.out ∧
      storesKeep s t := by
  obtain ⟨t, ht, hspec⟩ := frame_forwarded (p := p) (f := { f with kind := frResponse }) (port_ring p) hport hleaves
  exact ⟨t, (response_passes h hme hops).trans (congrArg Host.Outcome.next ht), hspec⟩

/-- A ring whose map does not hold the device does not carry its frames. -/
theorem frame_refused {ring : Nat} (hring : ring < 2) (hmap : mapPosition ring f.dest s = none) : forwardFrame ring f (frameIn p s) = refuseFrame f (frameIn p s) := by
  have hport : ringPort ring f.dest s = none := by
    unfold ringPort ringHops
    rw [hmap]
    rfl
  unfold forwardFrame
  rw [(frameIn_sameLinks p s).near.ringPort hring, hport]

theorem refuse_answers (hkind : f.kind ≤ 1) (hon : s.on BRL_ID_ASSIGNED = true) : refuseFrame f s = respondFrame f.src f.tag 4 false [] s := if_pos ⟨hkind, hon⟩

theorem unmapped_answered (h : s.portActive p = true) (hme : forMe f s = false) (hops : f.hops < 64) (hmap : mapPosition (p.val / 2) f.dest s = none)
    (hon : s.on BRL_ID_ASSIGNED = true) :
    exec (.readFrame p f) s = .next (respondFrame f.src f.tag 4 false [] (frameIn p s)) ∧
    exec (.writeFrame p f) s = .next (respondFrame f.src f.tag 4 false [] (frameIn p s)) ∧
    exec (.responseFrame p f) s = .next (frameIn p s) := by
  have hon' : (frameIn p s).on BRL_ID_ASSIGNED = true := ((frameIn_sameLinks p s).on BRL_ID_ASSIGNED 0).trans hon
  have hask (k : Nat) (hk : k ≤ 1) : requestFrame p { f with kind := k } s = respondFrame f.src f.tag 4 false [] (frameIn p s) :=
    (request_passes (f := { f with kind := k }) h hme hops).trans ((frame_refused (f := { f with kind := k }) (port_ring p) hmap).trans
      (refuse_answers (f := { f with kind := k }) hk hon'))
  refine ⟨congrArg Host.Outcome.next (hask frRead (by decide)), congrArg Host.Outcome.next (hask frWrite (by decide)), ?_⟩
  rw [response_passes h hme hops, frame_refused (f := { f with kind := frResponse }) (port_ring p) hmap]
  exact congrArg Host.Outcome.next (if_neg fun hk => absurd hk.1 (by simp [frResponse]))

/-! ### The sixty-fourth hop (R569) -/

/-- The state in which a frame has been discarded. -/
def discarded (p : Nat) (s : State) : State := (frameIn p s).addFld BRL_COUNTS_HOP_DISCARD 1

theorem discarded_count (p : Nat) (s : State) : (discarded p s).fld BRL_COUNTS_HOP_DISCARD = (s.fld BRL_COUNTS_HOP_DISCARD + 1) % 2 ^ 32 :=
  fld_addFld (frameIn p s) BRL_COUNTS_HOP_DISCARD 1 0 0 0

theorem discarded_regsKeep (p : Nat) (s : State) : regsKeep [BRL_COUNTS_LATE_RSP.off] s (discarded p s) := regsKeep_setFld (frameIn p s) BRL_COUNTS_HOP_DISCARD _ 0 0 0

theorem discarded_sameLinks (p : Nat) (s : State) : sameLinks s (discarded p s) :=
  sameLinks_trans (frameIn_sameLinks p s) (sameLinks_counts BRL_COUNTS_HOP_DISCARD rfl rfl _ _)

theorem discarded_leaves {fresh : Bool} (p : Nat) (h : s.leaves fresh f q) : (discarded p s).leaves fresh f q := by
  obtain ⟨n, hn⟩ := frameIn_port p q s
  exact leaves_congr (t := discarded p s) hn ((discarded_sameLinks p s).active q) h

theorem discarded_txSeq (p q : Nat) (s : State) : ((discarded p s).brPort q).txSeq = (s.brPort q).txSeq := frameIn_txSeq p q s

theorem discard_arrives {take : State → State} (h : s.portActive p = true) (hops : 64 ≤ f.hops) : arrive p f take s = refuseFrame f (discarded p s) :=
  arrive_discarded h hops

theorem discarded_request_answered {take : State → State} (h : s.portActive p = true) (hops : 64 ≤ f.hops) (hkind : f.kind ≤ 1)
    (hon : s.on BRL_ID_ASSIGNED = true) (hroute : routePort f.src s = some q)
    (hleaves : s.leaves true { sysFrame s frResponse f.src [] with tag := f.tag, status := 4 } q) :
    ∃ t, arrive p f take s = t ∧ t.fld BRL_COUNTS_HOP_DISCARD = (s.fld BRL_COUNTS_HOP_DISCARD + 1) % 2 ^ 32 ∧
      t.out = .frame q (s.brPort q).txSeq { sysFrame s frResponse f.src [] with tag := f.tag, status := 4 } :: s.out ∧
      regsKeep [BRL_COUNTS_LATE_RSP.off] s t := by
  have hlinks := discarded_sameLinks p s
  have hanswer : arrive p f take s =
      frameSent { sysFrame s frResponse f.src [] with tag := f.tag, status := 4 } q true (discarded p s) := by
    rw [discard_arrives h hops, refuse_answers hkind ((hlinks.on BRL_ID_ASSIGNED 0).trans hon)]
    unfold respondFrame
    rw [hlinks.near.routePort, hroute, hlinks.sysFrame]
    exact sendFrame_leaves (discarded_leaves p hleaves)
  refine ⟨_, hanswer, (fld_congr _ 0 0 0 (reg_congr (frameSent_regs _ q true _) _)).trans (discarded_count p s), ?_,
    fun k hk => (reg_congr (frameSent_regs _ q true _) k).trans (discarded_regsKeep p s k hk)⟩
  rw [frameSent_out, discarded_txSeq]
  rfl

theorem discarded_frame_counted {take : State → State} (h : s.portActive p = true) (hops : 64 ≤ f.hops)
    (hquiet : 1 < f.kind ∨ s.on BRL_ID_ASSIGNED = false) :
    ∃ t, arrive p f take s = t ∧ t.fld BRL_COUNTS_HOP_DISCARD = (s.fld BRL_COUNTS_HOP_DISCARD + 1) % 2 ^ 32 ∧ t.out = s.out ∧
      t.cfg = s.cfg ∧ t.devId = s.devId ∧ regsKeep [BRL_COUNTS_LATE_RSP.off] s t := by
  have hlinks := discarded_sameLinks p s
  have harrive : arrive p f take s = discarded p s := by
    rw [discard_arrives h hops]
    refine if_neg ?_
    rintro ⟨hkind, hon⟩
    rcases hquiet with hquiet | hquiet
    · omega
    · rw [hlinks.on BRL_ID_ASSIGNED 0, hquiet] at hon
      exact Bool.false_ne_true hon
  exact ⟨_, harrive, discarded_count p s, rfl, rfl, hlinks.devId, discarded_regsKeep p s⟩

theorem request_discarded {c : Instr} (hc : c ∈ [Instr.readFrame p f, .writeFrame p f]) :
    ∃ k take, k ≤ 1 ∧ exec c s = .next (arrive p { f with kind := k } take s) := by
  simp only [List.mem_cons, List.not_mem_nil, or_false] at hc
  rcases hc with rfl | rfl
  · exact ⟨frRead, _, by decide, rfl⟩
  · exact ⟨frWrite, _, by decide, rfl⟩

theorem other_frame_discarded {c : Instr}
    (hc : c ∈ [Instr.responseFrame p f, .enumFrame p f, .enumTableFrame p f, .readyFrame p f, .startFrame p f, .streamFrame p f]) :
    ∃ k take, 1 < k ∧ exec c s = .next (arrive p { f with kind := k } take s) := by
  simp only [List.mem_cons, List.not_mem_nil, or_false] at hc
  rcases hc with rfl | rfl | rfl | rfl | rfl | rfl
  · exact ⟨frResponse, _, by decide, rfl⟩
  · exact ⟨frEnum, _, by decide, rfl⟩
  · exact ⟨frEnumTable, _, by decide, rfl⟩
  · exact ⟨frReady, _, by decide, rfl⟩
  · exact ⟨frStart, _, by decide, rfl⟩
  · exact ⟨frStream, _, by decide, rfl⟩

theorem request_at_64_hops {c : Instr} (hc : c ∈ [Instr.readFrame p f, .writeFrame p f]) (h : s.portActive p = true) (hon : s.on BRL_ID_ASSIGNED = true)
    (hops : 64 ≤ f.hops) (hroute : routePort f.src s = some q)
    (hleaves : s.leaves true { sysFrame s frResponse f.src [] with tag := f.tag, status := 4 } q) :
    ∃ t, exec c s = .next t ∧ t.fld BRL_COUNTS_HOP_DISCARD = (s.fld BRL_COUNTS_HOP_DISCARD + 1) % 2 ^ 32 ∧
      t.out = .frame q (s.brPort q).txSeq { sysFrame s frResponse f.src [] with tag := f.tag, status := 4 } :: s.out ∧
      regsKeep [BRL_COUNTS_LATE_RSP.off] s t := by
  obtain ⟨k, take, hk, hexec⟩ := request_discarded (s := s) hc
  obtain ⟨t, ht, hspec⟩ := discarded_request_answered (f := { f with kind := k }) (take := take) h hops hk hon hroute hleaves
  exact ⟨t, hexec.trans (congrArg Host.Outcome.next ht), hspec⟩

theorem frame_at_64_hops {c : Instr} (h : s.portActive p = true) (hops : 64 ≤ f.hops)
    (hc : c ∈ [Instr.responseFrame p f, .enumFrame p f, .enumTableFrame p f, .readyFrame p f, .startFrame p f, .streamFrame p f] ∨
      (c ∈ [Instr.readFrame p f, .writeFrame p f] ∧ s.on BRL_ID_ASSIGNED = false)) :
    ∃ t, exec c s = .next t ∧ t.fld BRL_COUNTS_HOP_DISCARD = (s.fld BRL_COUNTS_HOP_DISCARD + 1) % 2 ^ 32 ∧ t.out = s.out ∧
      t.cfg = s.cfg ∧ t.devId = s.devId ∧ regsKeep [BRL_COUNTS_LATE_RSP.off] s t := by
  have hkind : ∃ k take, (1 < k ∨ s.on BRL_ID_ASSIGNED = false) ∧ exec c s = .next (arrive p { f with kind := k } take s) := by
    rcases hc with hc | ⟨hc, hoff⟩
    · obtain ⟨k, take, hk, hexec⟩ := other_frame_discarded (s := s) hc
      exact ⟨k, take, .inl hk, hexec⟩
    · obtain ⟨k, take, -, hexec⟩ := request_discarded (s := s) hc
      exact ⟨k, take, .inr hoff, hexec⟩
  obtain ⟨k, take, hquiet, hexec⟩ := hkind
  obtain ⟨t, ht, hspec⟩ := discarded_frame_counted (f := { f with kind := k }) (take := take) h hops hquiet
  exact ⟨t, hexec.trans (congrArg Host.Outcome.next ht), hspec⟩


/-! ### Responses to this device (R573) -/

/-- A response for this device is given to the request that waits for it, or counts as late. -/
theorem response_taken (h : s.portActive p = true) (hme : forMe f s = true) (hops : f.hops < 64) :
    (s.ring.remote = [] → exec (.responseFrame p f) s = .next ((frameIn p s).addFld BRL_COUNTS_LATE_RSP 1)) ∧
    (∀ use, s.ring.remote = [(f.tag, use)] →
      exec (.responseFrame p f) s = .next (remoteOver f.tag use (f.status % 8) f.poison f.data (frameIn p s))) := by
  have hexec : exec (.responseFrame p f) s = .next (match s.ring.remote.find? (fun r => decide (r.1 = f.tag)) with
      | some r => remoteOver r.1 r.2 (f.status % 8) f.poison f.data (frameIn p s)
      | none => (frameIn p s).addFld BRL_COUNTS_LATE_RSP 1) := by
    rw [exec_responseFrame, execResponseFrame]
    dsimp only
    rw [arrive_taken (f := { f with kind := frResponse }) h hops, if_pos ((frameIn_forMe p { f with kind := frResponse } s).trans hme)]
    rfl
  refine ⟨fun hnone => ?_, fun use hone => ?_⟩
  · rw [hexec, hnone, List.find?_nil]
  · rw [hexec, hone, List.find?_cons_of_pos (by simp)]

theorem late_response (h : s.portActive p = true) (hme : forMe f s = true) (hops : f.hops < 64) (hnone : s.ring.remote = []) :
    ∃ t, exec (.responseFrame p f) s = .next t ∧ t.fld BRL_COUNTS_LATE_RSP = (s.fld BRL_COUNTS_LATE_RSP + 1) % 2 ^ 32 ∧ t.out = s.out ∧
      regsKeep [BRL_COUNTS_LATE_RSP.off] s t :=
  ⟨_, (response_taken h hme hops).1 hnone, fld_addFld (frameIn p s) BRL_COUNTS_LATE_RSP 1 0 0 0, rfl, regsKeep_setFld (frameIn p s) BRL_COUNTS_LATE_RSP _ 0 0 0⟩

/-- A remote read of a master that has ended. -/
def readOver (st : Nat) (poison : Bool) (data : Word) (m : Ident) (s : State) : State :=
  accessDone m false st poison data { s with ring := { s.ring with remote := [] } }

theorem remoteOver_read {m : Ident} {tag st : Nat} {poison : Bool} {data : List Word} (hone : s.ring.remote = [(tag, .access m false)]) :
    remoteOver tag (.access m false) st poison data s = readOver st poison (nth 0 data 0) m s := by
  unfold remoteOver
  dsimp only
  rw [hone, dropFirst_only]
  rfl

theorem violation_out (m : Ident) (k : ViolKind) (write : Bool) (off : Nat) (s : State) : (violation m k write off s).out = s.out := by
  unfold violation
  split <;> rfl

theorem violation_ring (m : Ident) (k : ViolKind) (write : Bool) (off : Nat) (s : State) : (violation m k write off s).ring = s.ring := by
  unfold violation
  split <;> rfl

/-- The registers that an access which has ended writes, before its answer. -/
def accessNoted (m : Ident) (st n : Nat) (s : State) : State :=
  let s := s.setMfld BRL_RACC_STATUS_LAST n st
  let s := if st = 6 then s else s.setMfld BRL_RACC_ADDR_ADDR n (s.mfld BRL_RACC_ADDR_ADDR n + 1)
  if st = 0 ∨ identClass m ≠ 1 then s else violation m .response false BRL_RACC_DATA_DATA.off s

theorem accessNoted_out (m : Ident) (st n : Nat) (s : State) : (accessNoted m st n s).out = s.out ∧ (accessNoted m st n s).ring = s.ring := by
  have hset : ∀ u : State, u.out = s.out → u.ring = s.ring →
      (if st = 0 ∨ identClass m ≠ 1 then u else violation m .response false BRL_RACC_DATA_DATA.off u).out = s.out ∧
      (if st = 0 ∨ identClass m ≠ 1 then u else violation m .response false BRL_RACC_DATA_DATA.off u).ring = s.ring := fun u ho hr => by
    split
    · exact ⟨ho, hr⟩
    · exact ⟨(violation_out m _ false _ u).trans ho, (violation_ring m _ false _ u).trans hr⟩
  unfold accessNoted
  refine hset _ ?_ ?_
  · split <;> rfl
  · split <;> rfl

theorem read_done {m : Ident} {n st : Nat} {poison : Bool} {data : Word} (hn : slotOf m = some n) :
    accessDone m false st poison data s =
      (accessNoted m st n s).emit (if poison ∨ st = 1 ∨ st = 6 then .poisonedAnswer m else .answer m (if st = 0 then data else 0)) := by
  unfold accessDone accessNoted
  rw [hn]
  dsimp only
  rw [if_pos (show st = 0 ∨ identClass m ≠ 1 ∨ ¬ (false = true) from .inr (.inr Bool.false_ne_true)), if_neg Bool.false_ne_true]
  split <;> rfl

theorem poisoned_read_answered {m : Ident} {n : Nat} (h : s.portActive p = true) (hme : forMe f s = true) (hops : f.hops < 64) (hn : slotOf m = some n)
    (hone : s.ring.remote = [(f.tag, .access m false)]) (hpoison : f.poison = true) :
    ∃ t, exec (.responseFrame p f) s = .next t ∧ t.out = .poisonedAnswer m :: s.out ∧ t.ring.remote = [] := by
  refine ⟨_, (response_taken h hme hops).2 _ hone, ?_⟩
  rw [remoteOver_read (s := frameIn p s) hone]
  unfold readOver
  rw [read_done hn, if_pos (.inl hpoison)]
  obtain ⟨hout, hring⟩ := accessNoted_out m (f.status % 8) n { frameIn p s with ring := { (frameIn p s).ring with remote := [] } }
  exact ⟨congrArg (Out.poisonedAnswer m :: ·) hout, congrArg (fun r => r.remote) hring⟩

theorem mfld_setMfld_beside (s : State) (F G : Field) (n v : Nat) (hkey : G.key 0 0 0 = F.key 0 0 0) (hF : F.lo + F.w ≤ 64)
    (h : G.lo + G.w ≤ F.lo ∨ F.lo + F.w ≤ G.lo) : (s.setMfld F n v).mfld G n = s.mfld G n := by
  unfold State.mfld State.setMfld
  rw [hkey, reg_setReg_same]
  exact bits_setBits_other _ _ _ _ _ _ hF h

/-- An access that has ended well: its status is 0 and its address has stepped. -/
theorem accessNoted_well (m : Ident) (n : Nat) (s : State) :
    (accessNoted m 0 n s).mfld BRL_RACC_STATUS_LAST n = 0 ∧
    (accessNoted m 0 n s).mfld BRL_RACC_ADDR_ADDR n = (s.mfld BRL_RACC_ADDR_ADDR n + 1) % 2 ^ 37 ∧
    (accessNoted m 0 n s).mfld BRL_RACC_ADDR_DEVICE n = s.mfld BRL_RACC_ADDR_DEVICE n ∧
    regsKeep [BRL_RACC_STATUS_LAST.off + slotSpan * n, BRL_RACC_ADDR_ADDR.off + slotSpan * n] s (accessNoted m 0 n s) := by
  have hlast (F : Field) (hF : F.key 0 0 0 = 0x1840200) : (s.setMfld BRL_RACC_STATUS_LAST n 0).mfld F n = s.mfld F n :=
    mfld_setMfld_other s BRL_RACC_STATUS_LAST F n 0 0 0 (by rw [hF]; decide)
  have hnoted : accessNoted m 0 n s =
      (s.setMfld BRL_RACC_STATUS_LAST n 0).setMfld BRL_RACC_ADDR_ADDR n (s.mfld BRL_RACC_ADDR_ADDR n + 1) := by
    unfold accessNoted
    dsimp only
    rw [if_neg (show (0 : Nat) ≠ 6 by decide), if_pos (show 0 = 0 ∨ identClass m ≠ 1 from .inl rfl), hlast BRL_RACC_ADDR_ADDR rfl]
  rw [hnoted]
  refine ⟨?_, mfld_setMfld_same _ BRL_RACC_ADDR_ADDR n _ 0 (by unfold Field.good; decide), ?_, fun k hk => ?_⟩
  · rw [mfld_setMfld_other _ BRL_RACC_ADDR_ADDR BRL_RACC_STATUS_LAST n _ 0 0 (by decide)]
    exact mfld_setMfld_same s BRL_RACC_STATUS_LAST n 0 0 (by unfold Field.good; decide)
  · rw [mfld_setMfld_beside _ BRL_RACC_ADDR_ADDR BRL_RACC_ADDR_DEVICE n _ rfl (by decide) (by decide), hlast BRL_RACC_ADDR_DEVICE rfl]
  · simp only [List.mem_cons, List.not_mem_nil, or_false, not_or] at hk
    exact (reg_setReg_other _ _ hk.2).trans (reg_setReg_other _ _ hk.1)

theorem read_answered {m : Ident} {n : Nat} (h : s.portActive p = true) (hme : forMe f s = true) (hops : f.hops < 64) (hn : slotOf m = some n)
    (hone : s.ring.remote = [(f.tag, .access m false)]) (hst : f.status % 8 = 0) (hpoison : f.poison = false) :
    ∃ t, exec (.responseFrame p f) s = .next t ∧ t.out = .answer m (nth 0 f.data 0) :: s.out ∧ t.ring.remote = [] ∧
      t.mfld BRL_RACC_STATUS_LAST n = 0 ∧ t.mfld BRL_RACC_ADDR_ADDR n = (s.mfld BRL_RACC_ADDR_ADDR n + 1) % 2 ^ 37 ∧
      t.mfld BRL_RACC_ADDR_DEVICE n = s.mfld BRL_RACC_ADDR_DEVICE n ∧
      regsKeep [BRL_RACC_STATUS_LAST.off + slotSpan * n, BRL_RACC_ADDR_ADDR.off + slotSpan * n] s t := by
  refine ⟨_, (response_taken h hme hops).2 _ hone, ?_⟩
  rw [remoteOver_read (s := frameIn p s) hone]
  unfold readOver
  rw [read_done hn, hst, if_neg (by simp [hpoison]), if_pos rfl]
  obtain ⟨hout, hring⟩ := accessNoted_out m 0 n { frameIn p s with ring := { (frameIn p s).ring with remote := [] } }
  obtain ⟨hlast, haddr, hdev, hkeep⟩ := accessNoted_well m n { frameIn p s with ring := { (frameIn p s).ring with remote := [] } }
  exact ⟨congrArg (Out.answer m (nth 0 f.data 0) :: ·) hout, congrArg (fun r => r.remote) hring, hlast, haddr, hdev, hkeep⟩

/-! ### Stream frames (R375, R570) -/

theorem stream_taken {l : Load} (h : s.portActive p = true) (hother : s.portActive (otherPort p) = false) (hfrom : s.ring.streamFrom = none)
    (hload : s.cfg.load = some l) (hsource : l.source = 3) (hops : f.hops < 64) :
    ∃ t, exec (.streamFrame p f) s = .next t ∧ t.cfg.load = some { l with push := l.push ++ f.data } ∧ t.out = s.out ∧
      t.ring.streamFrom = some (f.src, p.val) ∧
      t.fld CFG_PROGRESS_BYTES = (s.fld CFG_PROGRESS_BYTES + 8 * f.data.length) % 2 ^ CFG_PROGRESS_BYTES.w := by
  have hfirst : streamFirst p { f with kind := frStream } (frameIn p s) = true := by
    unfold streamFirst
    rw [show (frameIn p s).ring.streamFrom = none from hfrom]
  have hstop : passOn p { f with kind := frStream } (setStreamFrom f.src p (frameIn p s)) = setStreamFrom f.src p (frameIn p s) :=
    if_neg (ne_true_of_eq_false hother)
  have hexec : exec (.streamFrame p f) s = .next (setLoad (some { l with push := l.push ++ f.data })
      ((setStreamFrom f.src p (frameIn p s)).addFld CFG_PROGRESS_BYTES (8 * f.data.length))) := by
    rw [exec_streamFrame, execStreamFrame]
    dsimp only
    rw [arrive_taken (f := { f with kind := frStream }) h hops, if_pos hfirst, hstop]
    unfold takeStream
    rw [show (setStreamFrom f.src p (frameIn p s)).cfg.load = some l from hload]
    dsimp only
    rw [if_pos hsource]
  exact ⟨_, hexec, rfl, rfl, rfl, fld_addFld (setStreamFrom f.src p (frameIn p s)) CFG_PROGRESS_BYTES _ 0 0 0⟩

theorem stream_of_other_port (h : s.portActive p = true) (hfrom : s.ring.streamFrom = some (f.src, q)) (hq : q ≠ p.val) (hops : f.hops < 64) :
    ∃ t, exec (.streamFrame p f) s = .next t ∧ t.out = s.out ∧ t.cfg = s.cfg ∧ storesKeep s t := by
  have hfirst : streamFirst p { f with kind := frStream } (frameIn p s) = false := by
    unfold streamFirst
    rw [show (frameIn p s).ring.streamFrom = some (f.src, q) from hfrom]
    simp [hq]
  have hexec : exec (.streamFrame p f) s = .next (frameIn p s) := by
    rw [exec_streamFrame, execStreamFrame]
    dsimp only
    rw [arrive_taken (f := { f with kind := frStream }) h hops, if_neg (ne_true_of_eq_false hfirst)]
  exact ⟨_, hexec, rfl, rfl, ⟨rfl, rfl⟩⟩

/-! ### The answer of a request that this device served (R572) -/

/-- The state in which the endpoint's request has been answered. -/
def served (s : State) : State := answeredAt 156 { s with ring := { s.ring with serving := [] } }

theorem served_sameLinks (s : State) : sameLinks s (served s) :=
  sameLinks_below NOC_EPe_STATUS_OUTSTANDING _ 156 (by decide) { s with ring := { s.ring with serving := [] } }

theorem served_regsKeep (s : State) : regsKeep [NOC_EPe_STATUS_OUTSTANDING.key 156 0 0] s (served s) :=
  regsKeep_setFld { s with ring := { s.ring with serving := [] } } NOC_EPe_STATUS_OUTSTANDING _ 156 0 0

theorem endpoint_answers {x : RingServe} {st : Status} {data : List Word} {poison : Bool} (hserving : s.ring.serving = [x]) (hroute : routePort x.dev s = some q)
    (hleaves : s.leaves true { sysFrame s frResponse x.dev data with tag := x.frameTag, status := st.code, poison := poison } q) :
    ∃ t, exec (.endpointResponse .brocia x.tag st data poison) s = .next t ∧ t.ring.serving = [] ∧ t.mem = s.mem ∧
      t.out = .frame q (s.brPort q).txSeq { sysFrame s frResponse x.dev data with tag := x.frameTag, status := st.code, poison := poison } :: s.out ∧
      regsKeep [NOC_EPe_STATUS_OUTSTANDING.key 156 0 0] s t := by
  have hlinks := served_sameLinks s
  have hexec : exec (.endpointResponse .brocia x.tag st data poison) s =
      .next (frameSent { sysFrame s frResponse x.dev data with tag := x.frameTag, status := st.code, poison := poison } q true (served s)) := by
    rw [exec_endpointResponse, execEndpointResponse]
    dsimp only
    rw [hserving, List.find?_cons_of_pos (by simp)]
    dsimp only
    rw [dropFirst_only]
    change Host.Outcome.next (respondFrame x.dev x.frameTag st.code poison data (served s)) = _
    unfold respondFrame
    rw [hlinks.near.routePort, hroute, hlinks.sysFrame]
    exact congrArg Host.Outcome.next (sendFrame_leaves (leaves_congr (s := s) (t := served s) (n := (s.brPort q).rxSeq) rfl (hlinks.active q) hleaves))
  exact ⟨_, hexec, rfl, rfl, frameSent_out _ q true (served s), fun k hk => (reg_congr (frameSent_regs _ q true _) k).trans (served_regsKeep s k hk)⟩

/-- Settles O51. -/
theorem ringFrames : Obligations.RingFrames :=
  ⟨fun _ _ _ => ⟨frames_need_an_active_port, fun h hme hops => ⟨read_served h hme hops, write_served h hme hops⟩⟩,
    fun _ _ _ _ h hme hops hport => ⟨read_forwarded h hme hops hport, write_forwarded h hme hops hport, response_forwarded h hme hops hport⟩,
    fun _ _ _ h hme hops hmap hon => unmapped_answered h hme hops hmap hon,
    fun _ _ _ _ _ hc h hon hops hroute hleaves => request_at_64_hops hc h hon hops hroute hleaves,
    fun _ _ _ _ h hops hc => frame_at_64_hops h hops hc,
    fun _ _ _ _ _ h hme hops hn _ => ⟨late_response h hme hops, poisoned_read_answered h hme hops hn, read_answered h hme hops hn⟩,
    fun _ _ _ _ h hother hfrom hload hsource hops => stream_taken h hother hfrom hload hsource hops,
    fun _ _ _ _ h hfrom hq hops => stream_of_other_port h hfrom hq hops,
    fun _ _ _ _ _ _ hserving hroute hleaves => endpoint_answers hserving hroute hleaves⟩

end Sys2Proof.Machine
end

section
-- One proof at a time: the memory limit of the check counts a stack for every proof that waits for another.
set_option Elab.async false
/-! SUPPORT. The device ID and the maps of the rings (R450, R567, R568). -/

namespace Sys2Proof.Machine

variable {s t u : State}

/-! ### The banks of the hearth controller follow the device ID (R450) -/

/-- Only registers of the banks have changed. -/
def banksOnly (s t : State) : Prop := t = { s with regs := t.regs } ∧ ∀ k < 0x1C00000, t.reg k = s.reg k

theorem banksOnly_refl (s : State) : banksOnly s s := ⟨rfl, fun _ _ => rfl⟩

theorem banksOnly_trans (h : banksOnly s t) (h' : banksOnly t u) : banksOnly s u := by
  obtain ⟨hrest, hkeep⟩ := h
  obtain ⟨hrest', hkeep'⟩ := h'
  exact ⟨by rw [hrest', hrest], fun k hk => (hkeep' k hk).trans (hkeep k hk)⟩

theorem banksOnly.fld (h : banksOnly s t) (F : Field) (i : Nat) (hk : F.key i 0 0 < 0x1C00000) : t.fld F i = s.fld F i := fld_congr F i 0 0 (h.2 _ hk)

/-- A bank that the old ID owned is owned by the new one. -/
def rewriteBank (old : Ident) (s : State) (b : Nat) : State :=
  if s.fld BNK_OWNERb_IDENT b = old.toNat then s.setFld BNK_OWNERb_IDENT (mkIdent s.devId 0 0).toNat b else s

theorem rewriteBank_banksOnly (old : Ident) (s : State) (b : Nat) : banksOnly s (rewriteBank old s b) := by
  unfold rewriteBank
  split
  · exact ⟨rfl, fun k hk => reg_setReg_other s _ (by simp only [Field.key, BNK_OWNERb_IDENT]; omega)⟩
  · exact banksOnly_refl s

theorem rewriteBank_owner (old : Ident) (s : State) (b c : Nat) : (rewriteBank old s b).fld BNK_OWNERb_IDENT c =
    if c = b ∧ s.fld BNK_OWNERb_IDENT c = old.toNat then (mkIdent s.devId 0 0).toNat else s.fld BNK_OWNERb_IDENT c := by
  by_cases hc : c = b
  · subst hc
    unfold rewriteBank
    by_cases hown : s.fld BNK_OWNERb_IDENT c = old.toNat
    · rw [if_pos hown, if_pos ⟨rfl, hown⟩]
      exact fld_setFld_fits s BNK_OWNERb_IDENT c 0 0 (mkIdent s.devId 0 0).isLt
    · rw [if_neg hown, if_neg fun h => hown h.2]
  · rw [if_neg fun h => hc h.1]
    unfold rewriteBank
    split
    · exact fld_setFld_elsewhere s BNK_OWNERb_IDENT BNK_OWNERb_IDENT _ (by simp only [Field.key, BNK_OWNERb_IDENT]; omega)
    · rfl

theorem rewriteBanks_to (old : Ident) (n : Nat) (s : State) : banksOnly s ((List.range n).foldl (rewriteBank old) s) ∧
    ∀ c, ((List.range n).foldl (rewriteBank old) s).fld BNK_OWNERb_IDENT c =
      if c < n ∧ s.fld BNK_OWNERb_IDENT c = old.toNat then (mkIdent s.devId 0 0).toNat else s.fld BNK_OWNERb_IDENT c := by
  induction n with
  | zero => exact ⟨banksOnly_refl s, fun c => (if_neg fun h => Nat.not_lt_zero _ h.1).symm⟩
  | succ n ih =>
    obtain ⟨honly, howner⟩ := ih
    rw [List.range_succ, List.foldl_append, List.foldl_cons, List.foldl_nil]
    refine ⟨banksOnly_trans honly (rewriteBank_banksOnly old _ n), fun c => ?_⟩
    have hdev : ((List.range n).foldl (rewriteBank old) s).devId = s.devId := honly.fld BRL_ID_DEVID 0 (by decide)
    rw [rewriteBank_owner, howner, hdev]
    by_cases hlt : c < n
    · rw [if_neg fun h : c = n ∧ _ => absurd h.1 (by omega)]
      simp only [hlt, Nat.lt_succ_of_lt hlt]
    · rw [if_neg fun h : c < n ∧ _ => hlt h.1]
      have hiff : c < n + 1 ↔ c = n := by omega
      simp only [hiff]

theorem rewriteBanks_spec (old : Ident) (s : State) : banksOnly s (rewriteBanks old s) ∧
    ∀ c, c < 256 → (rewriteBanks old s).fld BNK_OWNERb_IDENT c =
      if s.fld BNK_OWNERb_IDENT c = old.toNat then (mkIdent s.devId 0 0).toNat else s.fld BNK_OWNERb_IDENT c := by
  obtain ⟨honly, howner⟩ := rewriteBanks_to old 256 s
  refine ⟨honly, fun c hc => (howner c).trans ?_⟩
  simp only [hc, true_and]

/-! ### The device ID changes (R567) -/

/-- The state in which the ID register holds a new device ID. -/
def idTaken (v : Nat) (s : State) : State := (s.setFld BRL_ID_DEVID v).setFld BRL_ID_ASSIGNED 1

theorem setDevId_banks (v : Nat) (s : State) : banksOnly (idTaken v s) (setDevId v s) := (rewriteBanks_spec _ _).1

theorem setDevId_devId {v : Nat} (hv : v < 2 ^ 14) (s : State) : (setDevId v s).devId = v :=
  ((setDevId_banks v s).fld BRL_ID_DEVID 0 (by decide)).trans
    ((fld_setFld_beside _ BRL_ID_ASSIGNED BRL_ID_DEVID _).trans (fld_setFld_fits s BRL_ID_DEVID 0 0 0 hv))

theorem setDevId_assigned (v : Nat) (s : State) : (setDevId v s).fld BRL_ID_ASSIGNED = 1 :=
  ((setDevId_banks v s).fld BRL_ID_ASSIGNED 0 (by decide)).trans (fld_setFld_fits _ BRL_ID_ASSIGNED 0 0 0 (by decide))

/-- A new device ID changes the ID register and the banks, and nothing else. -/
theorem setDevId_rest (v : Nat) (s : State) : setDevId v s = { s with regs := (setDevId v s).regs } := (setDevId_banks v s).1

theorem setDevId_out (v : Nat) (s : State) : (setDevId v s).out = s.out := by rw [setDevId_rest]
theorem setDevId_ring (v : Nat) (s : State) : (setDevId v s).ring = s.ring := by rw [setDevId_rest]

theorem setDevId_reg (v : Nat) (s : State) {k : Nat} (hk : k < 0x1C00000) (hid : k ≠ 0x1840000) : (setDevId v s).reg k = s.reg k :=
  ((setDevId_banks v s).2 k hk).trans ((reg_setReg_other _ _ hid).trans (reg_setReg_other _ _ hid))

theorem setDevId_owner {v : Nat} (hv : v < 2 ^ 14) (s : State) {b : Nat} (hb : b < 256) : (setDevId v s).fld BNK_OWNERb_IDENT b =
    if s.fld BNK_OWNERb_IDENT b = (mkIdent s.devId 0 0).toNat then (mkIdent v 0 0).toNat else s.fld BNK_OWNERb_IDENT b := by
  have hkey : BNK_OWNERb_IDENT.key b 0 0 ≠ 0x1840000 := by simp only [Field.key, BNK_OWNERb_IDENT]; omega
  have hbank : (idTaken v s).fld BNK_OWNERb_IDENT b = s.fld BNK_OWNERb_IDENT b :=
    (fld_setFld_elsewhere _ BRL_ID_ASSIGNED BNK_OWNERb_IDENT _ hkey).trans (fld_setFld_elsewhere s BRL_ID_DEVID BNK_OWNERb_IDENT _ hkey)
  have hdev : (idTaken v s).devId = v := (fld_setFld_beside _ BRL_ID_ASSIGNED BRL_ID_DEVID _).trans (fld_setFld_fits s BRL_ID_DEVID 0 0 0 hv)
  refine ((rewriteBanks_spec (mkIdent s.devId 0 0) (idTaken v s)).2 b hb).trans ?_
  rw [hbank, hdev]

theorem setDevId_active (v : Nat) (s : State) {p : Nat} (hp : p < 128) : (setDevId v s).portActive p = s.portActive p := by
  have hkey : BRL_PORTp_STATUS_ACTIVE.key p 0 0 < 0x1C00000 ∧ BRL_PORTp_STATUS_ACTIVE.key p 0 0 ≠ 0x1840000 := by
    simp only [Field.key, BRL_PORTp_STATUS_ACTIVE]
    omega
  unfold State.portActive State.on
  rw [fld_congr BRL_PORTp_STATUS_ACTIVE p 0 0 (setDevId_reg v s hkey.1 hkey.2)]

/-- A device without an ID takes its position's. -/
theorem takePosition_unassigned {ring base pos : Nat} (hlock : s.on BRL_ID_LOCK = false) (hon : s.on BRL_ID_ASSIGNED = false) :
    takePosition ring base pos s = setDevId ((base + pos) % 2 ^ 14) s := if_neg (by simp [hlock, hon])

/-! ### A ring's map (R568) -/

section fill

/-- Registers take a word each, in turn. -/
def fillRegs (key : Nat → Nat) (word : Nat → Word) (n : Nat) (s : State) : State := (List.range n).foldl (fun s k => s.setReg (key k) (word k)) s

variable {key : Nat → Nat} {word : Nat → Word} {n : Nat}

theorem fillRegs_succ : fillRegs key word (n + 1) s = (fillRegs key word n s).setReg (key n) (word n) := by
  unfold fillRegs
  rw [List.range_succ, List.foldl_append]
  rfl

theorem fillRegs_rest : fillRegs key word n s = { s with regs := (fillRegs key word n s).regs } := by
  induction n with
  | zero => rfl
  | succ n ih =>
    rw [fillRegs_succ]
    exact congrArg (fun t : State => t.setReg (key n) (word n)) ih

theorem reg_fillRegs_other {k : Nat} (hk : ∀ j < n, k ≠ key j) : (fillRegs key word n s).reg k = s.reg k := by
  induction n with
  | zero => rfl
  | succ n ih =>
    rw [fillRegs_succ, reg_setReg_other _ _ (hk n (Nat.lt_succ_self n))]
    exact ih fun j hj => hk j (Nat.lt_succ_of_lt hj)

theorem reg_fillRegs (hinj : ∀ i j, key i = key j → i = j) {j : Nat} (hj : j < n) : (fillRegs key word n s).reg (key j) = word j := by
  induction n with
  | zero => exact absurd hj (Nat.not_lt_zero j)
  | succ n ih =>
    rw [fillRegs_succ]
    by_cases hlast : j = n
    · rw [hlast]
      exact reg_setReg_same _ _ _
    · rw [reg_setReg_other _ _ fun h => hlast (hinj _ _ h)]
      exact ih (by omega)

end fill

/-- The word of a place in a map. -/
def mapWord (ids : List Word) (k : Nat) : Word :=
  match ids[k]? with
  | some v => mkWord [(0, 14, v.toNat), (15, 1, 1)]
  | none => 0

/-- The state in which a map holds a list of IDs. -/
def mapFilled (ring : Nat) (ids : List Word) (s : State) : State := fillRegs (fun k => BRL_MAPk_DEVID.key (64 * ring + k) 0 0) (mapWord ids) 64 s

theorem mapKey_inj (ring i j : Nat) (h : BRL_MAPk_DEVID.key (64 * ring + i) 0 0 = BRL_MAPk_DEVID.key (64 * ring + j) 0 0) : i = j := by
  simp only [Field.key, BRL_MAPk_DEVID] at h
  omega

theorem mapFilled_reg (ring : Nat) (ids : List Word) (s : State) {k : Nat} (hk : k < 64) :
    (mapFilled ring ids s).reg (BRL_MAPk_DEVID.key (64 * ring + k) 0 0) = mapWord ids k := reg_fillRegs (mapKey_inj ring) hk

theorem mapFilled_below (ring : Nat) (ids : List Word) (s : State) {k : Nat} (hk : k < 0x1841000) : (mapFilled ring ids s).reg k = s.reg k :=
  reg_fillRegs_other fun j _ => by simp only [Field.key, BRL_MAPk_DEVID]; omega

/-- A loaded map: its places, then this device's own and the ring's size. -/
theorem loadMap_eq (ring : Nat) (ids : List Word) (s : State) : ∃ pos, loadMap ring ids s =
    if ring = 0 then ((mapFilled ring ids s).setFld BRL_ID_POSITION pos).setFld BRL_ID_RING_SIZE ids.length
    else ((mapFilled ring ids s).setFld BRL_ID_POSITION1 pos).setFld BRL_ID_RING_SIZE1 ids.length := ⟨_, rfl⟩

theorem regs_setFld (h : t = { s with regs := t.regs }) (F : Field) (v : Nat) : t.setFld F v = { s with regs := (t.setFld F v).regs } :=
  congrArg (fun u : State => { u with regs := (t.setFld F v).regs }) h

theorem loadMap_rest (ring : Nat) (ids : List Word) (s : State) : loadMap ring ids s = { s with regs := (loadMap ring ids s).regs } := by
  obtain ⟨pos, hload⟩ := loadMap_eq ring ids s
  have hfill : mapFilled ring ids s = { s with regs := (mapFilled ring ids s).regs } := fillRegs_rest
  rw [hload]
  split
  · exact regs_setFld (regs_setFld hfill BRL_ID_POSITION pos) BRL_ID_RING_SIZE _
  · exact regs_setFld (regs_setFld hfill BRL_ID_POSITION1 pos) BRL_ID_RING_SIZE1 _

theorem loadMap_reg (ring : Nat) (ids : List Word) (s : State) {k : Nat} (hk : k ≠ 0x1840000) :
    (loadMap ring ids s).reg k = (mapFilled ring ids s).reg k := by
  obtain ⟨pos, hload⟩ := loadMap_eq ring ids s
  rw [hload]
  split <;> exact (reg_setReg_other _ _ hk).trans (reg_setReg_other _ _ hk)

theorem loadMap_place (ring : Nat) (ids : List Word) (s : State) {k : Nat} (hk : k < 64) :
    (loadMap ring ids s).reg (BRL_MAPk_DEVID.key (64 * ring + k) 0 0) = mapWord ids k :=
  (loadMap_reg ring ids s (by simp only [Field.key, BRL_MAPk_DEVID]; omega)).trans (mapFilled_reg ring ids s hk)

theorem loadMap_valid (ring : Nat) (ids : List Word) (s : State) {k : Nat} (hk : k < 64) :
    (loadMap ring ids s).fld BRL_MAPk_VALID (64 * ring + k) = if k < ids.length then 1 else 0 := by
  unfold State.fld
  rw [show BRL_MAPk_VALID.key (64 * ring + k) 0 0 = BRL_MAPk_DEVID.key (64 * ring + k) 0 0 from rfl, loadMap_place ring ids s hk]
  unfold mapWord
  by_cases h : k < ids.length
  · rw [if_pos h, List.getElem?_eq_getElem h]
    dsimp only
    exact (bits_mkWord_skip _ _ _ _ _ _ (by decide) (by decide)).trans (bits_mkWord_head _ _ _ _ (by decide))
  · rw [if_neg h, List.getElem?_eq_none (by omega)]
    decide

theorem loadMap_device (ring : Nat) (ids : List Word) (s : State) {k : Nat} (hk : k < 64) (h : k < ids.length) :
    (loadMap ring ids s).fld BRL_MAPk_DEVID (64 * ring + k) = ids[k].toNat % 2 ^ 14 := by
  unfold State.fld
  rw [loadMap_place ring ids s hk]
  unfold mapWord
  rw [List.getElem?_eq_getElem h]
  exact bits_mkWord_head _ _ _ _ (by decide)

theorem loadMap_size (ring : Nat) (ids : List Word) (s : State) (h : ids.length ≤ 64) : (ringPlace ring (loadMap ring ids s)).2 = ids.length := by
  obtain ⟨pos, hload⟩ := loadMap_eq ring ids s
  have hsize : ids.length < 2 ^ 8 := by omega
  unfold ringPlace
  by_cases hring : ring = 0
  · rw [hload, if_pos hring, if_pos hring]
    exact fld_setFld_fits _ BRL_ID_RING_SIZE 0 0 0 hsize
  · rw [hload, if_neg hring, if_neg hring]
    exact fld_setFld_fits _ BRL_ID_RING_SIZE1 0 0 0 hsize

theorem loadMap_devId (ring : Nat) (ids : List Word) (s : State) : (loadMap ring ids s).devId = s.devId := by
  obtain ⟨pos, hload⟩ := loadMap_eq ring ids s
  have hid : (mapFilled ring ids s).devId = s.devId := fld_congr BRL_ID_DEVID 0 0 0 (mapFilled_below ring ids s (by decide))
  rw [hload]
  split
  · exact ((fld_setFld_beside _ BRL_ID_RING_SIZE BRL_ID_DEVID _).trans (fld_setFld_beside _ BRL_ID_POSITION BRL_ID_DEVID _)).trans hid
  · exact ((fld_setFld_beside _ BRL_ID_RING_SIZE1 BRL_ID_DEVID _).trans (fld_setFld_beside _ BRL_ID_POSITION1 BRL_ID_DEVID _)).trans hid

end Sys2Proof.Machine
end

section
-- One proof at a time: the memory limit of the check counts a stack for every proof that waits for another.
set_option Elab.async false
/-! SUPPORT. What this device sends round the ring: remote accesses, enumeration and copies (R567, R568, R573 to R575). -/

namespace Sys2Proof.Machine

variable {s t : State} {f : BrFrame} {p : Fin 4} {q n : Nat} {m : Ident} {x : Packet}

/-! ### Remote accesses (R573) -/

theorem remote_unsent {use : RemoteUse} {write : Bool} {dev addr size : Nat} {poison : Bool} {data : List Word}
    (h : s.on BRL_ID_ASSIGNED = false ∨ routePort dev s = none) : sendRemote use m write dev addr size poison data s = (none, s) := by
  have hport : (if s.on BRL_ID_ASSIGNED then routePort dev s else none) = none := by
    rcases h with h | h
    · exact if_neg (ne_true_of_eq_false h)
    · rw [h, ite_self]
  unfold sendRemote
  rw [hport]

/-- The state in which a request of this device waits for its response. -/
def remoteWaits (use : RemoteUse) (s : State) : State :=
  { s with ring := { s.ring with nextTag := (s.ring.nextTag + 1) % 65536, remote := s.ring.remote ++ [(s.ring.nextTag, use)] } }

theorem remote_sent {use : RemoteUse} {write : Bool} {dev addr size : Nat} {poison : Bool} {data : List Word}
    (hon : s.on BRL_ID_ASSIGNED = true) (hroute : routePort dev s = some q) :
    sendRemote use m write dev addr size poison data s = (some s.ring.nextTag, sendFrame true
      { sysFrame s (if write then frWrite else frRead) dev data with
        tag := s.ring.nextTag, poison := poison, cls := identClass m, index := bits m 0 10, addr := addr, size := size } q (remoteWaits use s)) := by
  unfold sendRemote
  rw [if_pos hon, hroute]
  rfl

theorem racc_read {h : Half} (hread : s.readable BRL_RACC_DATA_DATA.off) :
    exec (.raccDataAccess m h none) s = .next (raccEffect m h none s) := by
  rw [exec_raccDataAccess, execRaccDataAccess, readFront_readable hread]

theorem raccEffect_read (hn : slotOf m = some n) : raccEffect m .full none s =
    if (sendRemote (.access m false) m false (s.mfld BRL_RACC_ADDR_DEVICE n) (8 * s.mfld BRL_RACC_ADDR_ADDR n) 8 false [] s).1.isNone then
      accessDone m false 4 false 0 (sendRemote (.access m false) m false (s.mfld BRL_RACC_ADDR_DEVICE n) (8 * s.mfld BRL_RACC_ADDR_ADDR n) 8 false [] s).2
    else (sendRemote (.access m false) m false (s.mfld BRL_RACC_ADDR_DEVICE n) (8 * s.mfld BRL_RACC_ADDR_ADDR n) 8 false [] s).2 := by
  unfold raccEffect
  rw [if_neg (by simp), hn]
  rfl

/-- A violation's registers lie below the Brocia link's. -/
theorem violation_reg {k : Nat} (hk : 0x102000 ≤ k) (hn : slotOf m = some n) (hlt : n < 256) (kind : ViolKind) (write : Bool) (off : Nat) (s : State) :
    (violation m kind write off s).reg k = s.reg k := by
  unfold violation
  rw [hn]
  exact (reg_setReg_other _ _ (by simp only [Field.key, OWN_VIOLm_LAST_IDENT]; omega)).trans
    (reg_setReg_other _ _ (by simp only [Field.key, OWN_VIOLm_COUNT_COUNT]; omega))

theorem slot_lt (hn : slotOf m = some n) : n < 256 := by
  have hif {i k l : Nat} (h : (if i < k then some (l + i) else none) = some n) (hl : l + k ≤ 256) : n < 256 := by
    split at h
    · cases h
      omega
    · cases h
  unfold slotOf at hn
  dsimp only at hn
  split at hn
  next => cases hn; decide
  next => exact hif (l := 0) ((congrArg (fun i => if identIndex m < 4 then some i else none) (Nat.zero_add _)).trans hn) (by decide)
  next => cases hn; decide
  next => exact hif hn (by decide)
  next => cases hn; decide
  next => exact hif hn (by decide)
  next =>
    split at hn
    · cases hn
      omega
    · split at hn
      · cases hn; decide
      · cases hn
  next => cases hn

/-- What an access that has ended leaves in the master's registers. -/
theorem accessNoted_spec (hn : slotOf m = some n) {st : Nat} (hst : st < 8) (s : State) :
    (accessNoted m st n s).mfld BRL_RACC_STATUS_LAST n = st ∧
    (accessNoted m st n s).mfld BRL_RACC_ADDR_ADDR n =
      if st = 6 then s.mfld BRL_RACC_ADDR_ADDR n else (s.mfld BRL_RACC_ADDR_ADDR n + 1) % 2 ^ 37 := by
  have hviol (F : Field) (hF : 0x102000 ≤ F.key 0 0 0) (u : State) :
      (if st = 0 ∨ identClass m ≠ 1 then u else violation m .response false BRL_RACC_DATA_DATA.off u).mfld F n = u.mfld F n := by
    split
    · rfl
    · exact congrArg (fun w : Word => bits w F.lo F.w) (violation_reg (by omega) hn (slot_lt hn) _ _ _ u)
  have hlast : (s.setMfld BRL_RACC_STATUS_LAST n st).mfld BRL_RACC_STATUS_LAST n = st :=
    (mfld_setMfld_same s BRL_RACC_STATUS_LAST n st 0 (by unfold Field.good; decide)).trans (Nat.mod_eq_of_lt hst)
  have haddr : (s.setMfld BRL_RACC_STATUS_LAST n st).mfld BRL_RACC_ADDR_ADDR n = s.mfld BRL_RACC_ADDR_ADDR n :=
    mfld_setMfld_other s BRL_RACC_STATUS_LAST BRL_RACC_ADDR_ADDR n st 0 0 (by decide)
  unfold accessNoted
  dsimp only
  rw [hviol _ (by decide), hviol _ (by decide)]
  by_cases h6 : st = 6
  · rw [if_pos h6, if_pos h6]
    exact ⟨hlast, haddr⟩
  · rw [if_neg h6, if_neg h6, mfld_setMfld_other _ BRL_RACC_ADDR_ADDR BRL_RACC_STATUS_LAST n _ 0 0 (by decide),
      mfld_setMfld_same _ BRL_RACC_ADDR_ADDR n _ 0 (by unfold Field.good; decide), haddr]
    exact ⟨hlast, rfl⟩

theorem racc_unreachable (hread : s.readable BRL_RACC_DATA_DATA.off) (hn : slotOf m = some n)
    (h : s.on BRL_ID_ASSIGNED = false ∨ routePort (s.mfld BRL_RACC_ADDR_DEVICE n) s = none) :
    ∃ t, exec (.raccDataAccess m .full none) s = .next t ∧ t.out = .answer m 0 :: s.out ∧ t.mfld BRL_RACC_STATUS_LAST n = 4 ∧
      t.mfld BRL_RACC_ADDR_ADDR n = (s.mfld BRL_RACC_ADDR_ADDR n + 1) % 2 ^ 37 ∧ t.ring = s.ring := by
  have hexec : exec (.raccDataAccess m .full none) s = .next ((accessNoted m 4 n s).emit (.answer m 0)) := by
    rw [racc_read hread, raccEffect_read hn, remote_unsent h]
    dsimp only
    rw [if_pos (show (none : Option Nat).isNone = true from rfl), read_done hn, if_neg (by simp), if_neg (show (4 : Nat) ≠ 0 by decide)]
  obtain ⟨hout, hring⟩ := accessNoted_out m 4 n s
  obtain ⟨hlast, haddr⟩ := accessNoted_spec hn (show 4 < 8 by decide) s
  exact ⟨_, hexec, congrArg (Out.answer m 0 :: ·) hout, hlast, haddr, hring⟩

/-- The frame of a remote read. -/
def raccFrame (m : Ident) (n : Nat) (s : State) : BrFrame :=
  { sysFrame s frRead (s.mfld BRL_RACC_ADDR_DEVICE n) [] with
    tag := s.ring.nextTag, cls := 1, index := bits m 0 10, addr := 8 * s.mfld BRL_RACC_ADDR_ADDR n, size := 8 }

theorem racc_sent (hread : s.readable BRL_RACC_DATA_DATA.off) (hn : slotOf m = some n) (hclass : identClass m = 1)
    (hon : s.on BRL_ID_ASSIGNED = true) (hroute : routePort (s.mfld BRL_RACC_ADDR_DEVICE n) s = some q) (hleaves : s.leaves true (raccFrame m n s) q) :
    ∃ t, exec (.raccDataAccess m .full none) s = .next t ∧ t.out = .frame q (s.brPort q).txSeq (raccFrame m n s) :: s.out ∧
      t.ring.remote = s.ring.remote ++ [(s.ring.nextTag, .access m false)] ∧ storesKeep s t := by
  have hwaits : (remoteWaits (.access m false) s).leaves true (raccFrame m n s) q := leaves_congr (n := (s.brPort q).rxSeq) rfl rfl hleaves
  have hexec : exec (.raccDataAccess m .full none) s = .next (frameSent (raccFrame m n s) q true (remoteWaits (.access m false) s)) := by
    rw [racc_read hread, raccEffect_read hn, remote_sent hon hroute]
    dsimp only
    rw [if_neg (by simp), hclass]
    exact congrArg Host.Outcome.next (sendFrame_leaves hwaits)
  exact ⟨_, hexec, frameSent_out _ q true _, rfl, frameSent_storesKeep _ q true (remoteWaits (.access m false) s)⟩

theorem racc_half (hread : s.readable BRL_RACC_DATA_DATA.off) (hn : slotOf m = some n) :
    ∃ t, exec (.raccDataAccess m .low none) s = .next t ∧ t.out = .answer m 0 :: s.out ∧ t.ring = s.ring ∧
      t.fld OWN_VIOLm_COUNT_COUNT n = (s.fld OWN_VIOLm_COUNT_COUNT n + 1) % 2 ^ OWN_VIOLm_COUNT_COUNT.w := by
  have hexec : exec (.raccDataAccess m .low none) s =
      .next ((violation m .size false (BRL_RACC_DATA_DATA.off + Half.low.skip) s).emit (.answer m 0)) := by
    rw [racc_read hread]
    unfold raccEffect
    rw [if_pos (by simp)]
    rfl
  exact ⟨_, hexec, congrArg (Out.answer m 0 :: ·) (violation_out m _ _ _ s), violation_ring m _ _ _ s, fld_violation_count hn _ _ _ s⟩

theorem racc_times_out {tag : Nat} (hn : slotOf m = some n) (hone : s.ring.remote = [(tag, .access m false)]) :
    ∃ t, exec (.remoteAccessTimeout tag) s = .next t ∧ t.out = .poisonedAnswer m :: s.out ∧ t.ring.remote = [] ∧
      t.mfld BRL_RACC_STATUS_LAST n = 6 ∧ t.mfld BRL_RACC_ADDR_ADDR n = s.mfld BRL_RACC_ADDR_ADDR n := by
  have hexec : exec (.remoteAccessTimeout tag) s = .next
      ((accessNoted m 6 n { s with ring := { s.ring with remote := [] } }).emit (.poisonedAnswer m)) := by
    rw [exec_remoteAccessTimeout, execRemoteAccessTimeout, hone, List.find?_cons_of_pos (by simp)]
    dsimp only
    rw [remoteOver_read hone]
    unfold readOver
    rw [read_done hn, if_pos (.inr (.inr rfl))]
  obtain ⟨hout, hring⟩ := accessNoted_out m 6 n { s with ring := { s.ring with remote := [] } }
  obtain ⟨hlast, haddr⟩ := accessNoted_spec hn (show 6 < 8 by decide) { s with ring := { s.ring with remote := [] } }
  exact ⟨_, hexec, congrArg (Out.poisonedAnswer m :: ·) hout, congrArg (fun r => r.remote) hring, hlast, haddr.trans (if_pos rfl)⟩

/-! ### The device ID (R567) -/

theorem reaches_low {h : Half} (hh : h ≠ .high) : h.reaches 0 = true := by
  cases h with
  | full => decide
  | low => decide
  | high => exact absurd rfl hh

theorem devId_write {data : Word} {h : Half} (hdark : s.dark = false) (hopen : s.blockOpen BRL_ID_DEVID.off = true) (howner : s.isOwner m = true) :
    exec (.devidWrite m h data) s = .next (devIdEffect h data (renewLease m s)) := by
  rw [exec_devidWrite, execDevidWrite, regWrite_admits (r := .BRL_ID) (ix := []) ⟨hdark, hopen, fun _ => howner⟩]

theorem renewLease_fld_above (F : Field) (i : Nat) (hF : leaseKey < F.off) : (renewLease m s).fld F i = s.fld F i := by
  refine fld_renewLease m s F i 0 0 ?_
  simp only [Field.key]
  omega

theorem devId_written {data : Word} {h : Half} (hdark : s.dark = false) (hopen : s.blockOpen BRL_ID_DEVID.off = true) (howner : s.isOwner m = true)
    (hh : h ≠ .high) (hlock : s.on BRL_ID_LOCK = false) (hdata : bits data 0 14 ≠ 0x3FFF) :
    ∃ t, exec (.devidWrite m h data) s = .next t ∧ t.devId = bits data 0 14 ∧ t.fld BRL_ID_ASSIGNED = 1 ∧ t.out = s.out ∧
      (∀ b, b < 256 → t.fld BNK_OWNERb_IDENT b = if s.fld BNK_OWNERb_IDENT b = (mkIdent s.devId 0 0).toNat
        then (mkIdent (bits data 0 14) 0 0).toNat else s.fld BNK_OWNERb_IDENT b) := by
  have hlock' : (renewLease m s).on BRL_ID_LOCK = false := by
    unfold State.on at hlock ⊢
    rw [renewLease_fld_above BRL_ID_LOCK 0 (by decide)]
    exact hlock
  have hexec : exec (.devidWrite m h data) s = .next (setDevId (bits data 0 14) (renewLease m s)) := by
    rw [devId_write hdark hopen howner]
    unfold devIdEffect
    rw [if_neg (by simp [reaches_low hh, hlock', brAll, hdata])]
  refine ⟨_, hexec, setDevId_devId (bits_lt data 0 14) _, setDevId_assigned _ _, (setDevId_out _ _).trans (renewLease_out m s), fun b hb => ?_⟩
  rw [setDevId_owner (bits_lt data 0 14) _ hb, renewLease_fld_above BNK_OWNERb_IDENT b (by decide),
    show (renewLease m s).devId = s.devId from renewLease_fld_above BRL_ID_DEVID 0 (by decide)]

theorem devId_kept {data : Word} {h : Half} (hdark : s.dark = false) (hopen : s.blockOpen BRL_ID_DEVID.off = true) (howner : s.isOwner m = true)
    (hkept : s.on BRL_ID_LOCK = true ∨ bits data 0 14 = 0x3FFF) : ∃ t, exec (.devidWrite m h data) s = .next t ∧ onlyRegs [leaseKey] s t := by
  have hkept' : ¬ h.reaches 0 ∨ (renewLease m s).on BRL_ID_LOCK ∨ bits data 0 14 = brAll := by
    refine .inr (hkept.imp_left fun hlock => ?_)
    unfold State.on at hlock ⊢
    rw [renewLease_fld_above BRL_ID_LOCK 0 (by decide)]
    exact hlock
  have hexec : exec (.devidWrite m h data) s = .next (renewLease m s) := by
    rw [devId_write hdark hopen howner]
    unfold devIdEffect
    rw [if_pos hkept']
  exact ⟨_, hexec, onlyRegs_renewLease m s⟩

/-! ### Enumeration (R568) -/

/-- A port with credits and nothing waiting or unacknowledged sends at once a frame that is no request. -/
theorem leaves_roomy {fresh : Bool} (hclass : f.class = 2) (hactive : s.portActive q = true) (hqueue : (s.brPort q).queue = [])
    (hreplay : (s.brPort q).replay = []) (hcredits : f.blocks ≤ nth 0 (s.brPort q).credits 2) (hblocks : f.blocks ≤ 4096) : s.leaves fresh f q := by
  refine ⟨hqueue, ?_⟩
  unfold portMay
  dsimp only
  rw [hclass, hreplay, if_neg (by simp), hactive]
  simp [hcredits, hblocks]

theorem frameSent_fld (f : BrFrame) (q : Nat) (fresh : Bool) (s : State) (F : Field) (i : Nat) : (frameSent f q fresh s).fld F i = s.fld F i :=
  fld_congr F i 0 0 (reg_congr (frameSent_regs f q fresh s) _)

theorem frameSent_enumerating (f : BrFrame) (q : Nat) (fresh : Bool) (s : State) : (frameSent f q fresh s).ring.enumerating = s.ring.enumerating := rfl

theorem enum_invalid (hacc : s.accepts 0x0601 1 .owner x) (h : 0x3FFE < bits (x.w 1) 0 14 + 63 ∨ s.portActive (2 * bits (x.w 1) 16 1) = false) :
    exec (.ringEnum x) s = .next (endCommand x .invalid [] (beginCommand x s)) := by
  have hring := bits_lt (x.w 1) 16 1
  have hactive : (beginCommand x s).portActive (2 * bits (x.w 1) 16 1) = s.portActive (2 * bits (x.w 1) 16 1) :=
    (beginCommand_nearLinks x s).active (by omega)
  rw [exec_ringEnum, execRingEnum, runCommand_passes hacc]
  dsimp only
  rw [if_pos (h.imp_right fun hoff => ne_true_of_eq_false (hactive.trans hoff))]

/-- The state of a device that numbers its ring. -/
def enumBegun (x : Packet) (ring base : Nat) (s : State) : State :=
  setDevId base { s with ring := { s.ring with enumerating := s.ring.enumerating ++ [(x, ring)] } }

theorem enumBegun_ring (x : Packet) (ring base : Nat) (s : State) :
    (enumBegun x ring base s).ring = { s.ring with enumerating := s.ring.enumerating ++ [(x, ring)] } := setDevId_ring base _

theorem enumBegun_out (x : Packet) (ring base : Nat) (s : State) : (enumBegun x ring base s).out = s.out := setDevId_out base _

theorem enumBegun_brPort (x : Packet) (ring base q : Nat) (s : State) : (enumBegun x ring base s).brPort q = s.brPort q := by
  unfold State.brPort
  rw [enumBegun_ring]

/-- The frame that numbers a ring. -/
def enumFrame (base : Nat) (s : State) : BrFrame := sysFrame s frEnum brAll [BitVec.ofNat 64 base, BitVec.ofNat 64 s.devId]

theorem enum_begins (hacc : s.accepts 0x0601 1 .owner x) (hbase : bits (x.w 1) 0 14 + 63 ≤ 0x3FFE) (hring : bits (x.w 1) 16 1 = 0)
    (hlock : s.on BRL_ID_LOCK = false) (hoff : s.on BRL_ID_ASSIGNED = false) (hqueue : (s.brPort 0).queue = []) (hactive : s.portActive 0 = true)
    (hcredits : 72 ≤ nth 0 (s.brPort 0).credits 2) (hreplay : (s.brPort 0).replay = []) :
    ∃ t f, exec (.ringEnum x) s = .next t ∧ t.out = .frame 0 (s.brPort 0).txSeq f :: (beginCommand x s).out ∧
      t.devId = bits (x.w 1) 0 14 ∧ t.fld BRL_ID_ASSIGNED = 1 ∧ t.ring.enumerating = s.ring.enumerating ++ [(x, 0)] ∧
      f.kind = frEnum ∧ f.dest = 0x3FFF ∧ f.src = bits (x.w 1) 0 14 ∧
      f.data = [BitVec.ofNat 64 (bits (x.w 1) 0 14), BitVec.ofNat 64 (bits (x.w 1) 0 14)] := by
  have hid := bits_lt (x.w 1) 0 14
  have hactive' : (beginCommand x s).portActive 0 = true := ((beginCommand_nearLinks x s).active (by decide)).trans hactive
  have hlock' : (beginCommand x s).on BRL_ID_LOCK = false := (on_beginCommand x s BRL_ID_LOCK (by decide) (by decide)).trans hlock
  have hoff' : (beginCommand x s).on BRL_ID_ASSIGNED = false := (on_beginCommand x s BRL_ID_ASSIGNED (by decide) (by decide)).trans hoff
  have hport : (enumBegun x 0 (bits (x.w 1) 0 14) (beginCommand x s)).brPort 0 = s.brPort 0 :=
    (enumBegun_brPort x 0 _ 0 _).trans (brPort_congr (beginCommand_ring x s) 0)
  have hdev : (enumBegun x 0 (bits (x.w 1) 0 14) (beginCommand x s)).devId = bits (x.w 1) 0 14 := setDevId_devId hid _
  have hleaves : (enumBegun x 0 (bits (x.w 1) 0 14) (beginCommand x s)).leaves true
      (enumFrame (bits (x.w 1) 0 14) (enumBegun x 0 (bits (x.w 1) 0 14) (beginCommand x s))) 0 := by
    refine leaves_roomy rfl ((setDevId_active _ _ (by decide)).trans hactive') ?_ ?_ ?_ (show 6 ≤ 4096 by decide)
    · rw [hport]; exact hqueue
    · rw [hport]; exact hreplay
    · rw [hport]; exact (show 6 ≤ 72 by decide).trans hcredits
  have hexec : exec (.ringEnum x) s = .next (frameSent (enumFrame (bits (x.w 1) 0 14) (enumBegun x 0 (bits (x.w 1) 0 14) (beginCommand x s))) 0 true
      (enumBegun x 0 (bits (x.w 1) 0 14) (beginCommand x s))) := by
    rw [exec_ringEnum, execRingEnum, runCommand_passes hacc]
    dsimp only
    rw [hring, if_neg (by simp only [Nat.mul_zero, hactive', not_true_eq_false, or_false]; omega), takePosition_unassigned
      (s := { beginCommand x s with ring := { (beginCommand x s).ring with enumerating := (beginCommand x s).ring.enumerating ++ [(x, 0)] } }) hlock' hoff',
      Nat.add_zero, Nat.mod_eq_of_lt hid]
    exact congrArg Host.Outcome.next (sendFrame_leaves hleaves)
  have henum : (enumBegun x 0 (bits (x.w 1) 0 14) (beginCommand x s)).ring.enumerating = s.ring.enumerating ++ [(x, 0)] := by
    rw [enumBegun_ring, beginCommand_ring]
  have hout := enumBegun_out x 0 (bits (x.w 1) 0 14) (beginCommand x s)
  have hassigned : (enumBegun x 0 (bits (x.w 1) 0 14) (beginCommand x s)).fld BRL_ID_ASSIGNED = 1 := setDevId_assigned _ _
  generalize enumBegun x 0 (bits (x.w 1) 0 14) (beginCommand x s) = u at hexec hport hdev henum hout hassigned
  refine ⟨_, enumFrame (bits (x.w 1) 0 14) u, hexec, ?_, (frameSent_fld _ 0 true u BRL_ID_DEVID 0).trans hdev, (frameSent_fld _ 0 true u BRL_ID_ASSIGNED 0).trans hassigned, henum,
    rfl, rfl, hdev, ?_⟩
  · rw [frameSent_out, hport, hout]
  · unfold enumFrame sysFrame
    rw [hdev]

/-! ### The frames of an enumeration (R568) -/

/-- Frames change the ports of the ring and what is sent. -/
def portsOnly (s t : State) : Prop := t = { s with ring := { s.ring with ports := t.ring.ports }, out := t.out }

theorem portsOnly_refl (s : State) : portsOnly s s := rfl

theorem portsOnly_trans {u : State} (h : portsOnly s t) (h' : portsOnly t u) : portsOnly s u := by
  unfold portsOnly at h h' ⊢
  rw [h', h]

theorem portsOnly_modPort (s : State) (p : Nat) (f : BrPort → BrPort) : portsOnly s (s.modPort p f) := rfl

theorem portsOnly_pumpQueue (p : Nat) (l : List (Bool × BrFrame)) (blocked : List Nat) (s : State) : portsOnly s (pumpQueue p l blocked s) := by
  induction l generalizing blocked s with
  | nil => exact portsOnly_refl s
  | cons e r ih =>
    unfold pumpQueue
    split
    · exact portsOnly_trans (show portsOnly s (putFrame e.2 p s) from rfl) (ih _ _)
    · exact portsOnly_trans (portsOnly_modPort s p _) (ih _ _)

theorem portsOnly_sendFrame (fresh : Bool) (f : BrFrame) (p : Nat) (s : State) : portsOnly s (sendFrame fresh f p s) :=
  portsOnly_trans (portsOnly_modPort s p _) (portsOnly_trans (portsOnly_modPort _ p _) (portsOnly_pumpQueue p _ _ _))

theorem portsOnly_broadcast (ring : Nat) (f : BrFrame) (s : State) : portsOnly s (broadcast ring f s) := by
  unfold broadcast
  split
  · exact portsOnly_sendFrame true f _ s
  · split
    · exact portsOnly_sendFrame true f _ s
    · exact portsOnly_refl s

theorem portsOnly.regs (h : portsOnly s t) : t.regs = s.regs := by rw [h]
theorem portsOnly.enumerating (h : portsOnly s t) : t.ring.enumerating = s.ring.enumerating := by rw [h]

theorem portsOnly.fld (h : portsOnly s t) (F : Field) (i : Nat) : t.fld F i = s.fld F i := fld_congr F i 0 0 (reg_congr h.regs _)

theorem otherPort_ne (p : Nat) : otherPort p ≠ p := by
  unfold otherPort
  split <;> omega

theorem frameIn_other (hq : q ≠ p.val) : (frameIn p s).brPort q = s.brPort q := brPort_modPort_other s _ hq

/-- The ID of a device that an enumeration reaches. -/
def enumId (f : BrFrame) : Nat := (nth 0 f.data 0).toNat + (f.data.length - 1)

/-- The frame that goes on from a device that has taken its place. -/
def enumOnward (f : BrFrame) (dev : Nat) : BrFrame := { f with kind := frEnum, hops := f.hops + 1, data := f.data ++ [BitVec.ofNat 64 dev] }

theorem enum_taken (h : s.portActive p = true) (hother : s.portActive (otherPort p) = true) (hnone : s.ring.enumerating = [])
    (hlock : s.on BRL_ID_LOCK = false) (hoff : s.on BRL_ID_ASSIGNED = false) (hdata : 1 ≤ f.data.length) (hid : enumId f < 2 ^ 14)
    (hqueue : (s.brPort (otherPort p)).queue = []) (hreplay : (s.brPort (otherPort p)).replay = [])
    (hcredits : 200 ≤ nth 0 (s.brPort (otherPort p)).credits 2) (hlen : f.data.length ≤ 64) (hops : f.hops < 64) :
    ∃ t, exec (.enumFrame p f) s = .next t ∧ t.devId = enumId f ∧ t.fld BRL_ID_ASSIGNED = 1 ∧
      t.out = .frame (otherPort p) (s.brPort (otherPort p)).txSeq (enumOnward f t.devId) :: s.out := by
  have hq : otherPort p < 2 * 64 := otherPort_lt (by omega)
  have hport : (setDevId (enumId f) (frameIn p s)).brPort (otherPort p) = s.brPort (otherPort p) :=
    (brPort_congr (setDevId_ring _ _) _).trans (frameIn_other (otherPort_ne p))
  have hactive : (setDevId (enumId f) (frameIn p s)).portActive (otherPort p) = true :=
    (setDevId_active _ _ hq).trans (((frameIn_sameLinks p s).active _).trans hother)
  have hdev : (setDevId (enumId f) (frameIn p s)).devId = enumId f := setDevId_devId hid _
  have hassigned := setDevId_assigned (enumId f) (frameIn p s)
  have hout : (setDevId (enumId f) (frameIn p s)).out = s.out := setDevId_out _ _
  have hblocks : (enumOnward f (enumId f)).blocks ≤ 200 := by
    unfold enumOnward BrFrame.blocks
    simp only [List.length_append, List.length_cons, List.length_nil]
    omega
  have hleaves : (setDevId (enumId f) (frameIn p s)).leaves false (enumOnward f (enumId f)) (otherPort p) := by
    refine leaves_roomy rfl hactive ?_ ?_ ?_ (hblocks.trans (by decide))
    · rw [hport]; exact hqueue
    · rw [hport]; exact hreplay
    · rw [hport]; exact hblocks.trans hcredits
  have hplace : ((nth 0 f.data 0).toNat + (f.data.drop 1).length) % 2 ^ 14 = enumId f := by
    rw [List.length_drop]
    exact Nat.mod_eq_of_lt hid
  have hexec : exec (.enumFrame p f) s =
      .next (frameSent (enumOnward f (enumId f)) (otherPort p) false (setDevId (enumId f) (frameIn p s))) := by
    rw [exec_enumFrame, execEnumFrame]
    dsimp only
    rw [arrive_taken (f := { f with kind := frEnum }) h hops, show (frameIn p s).ring.enumerating = [] from hnone, List.find?_nil]
    dsimp only
    rw [takePosition_unassigned (s := frameIn p s) hlock hoff, hplace, hdev]
    unfold passOn
    rw [if_pos hactive]
    exact congrArg Host.Outcome.next (sendFrame_leaves hleaves)
  generalize setDevId (enumId f) (frameIn p s) = u at hexec hport hdev hassigned hout
  have hdev' : (frameSent (enumOnward f (enumId f)) (otherPort p) false u).devId = enumId f := (frameSent_fld _ _ false u BRL_ID_DEVID 0).trans hdev
  refine ⟨_, hexec, hdev', (frameSent_fld _ _ false u BRL_ID_ASSIGNED 0).trans hassigned, ?_⟩
  rw [frameSent_out, hport, hout, hdev']

/-- The state of the origin when its enumeration has come round. -/
def enumEnded (ring : Nat) (ids : List Word) (s : State) : State :=
  broadcast ring (sysFrame { s with ring := { s.ring with enumerating := [] } } frEnumTable brAll ids)
    (loadMap ring ids { s with ring := { s.ring with enumerating := [] } })

theorem enumEnded_spec (ring : Nat) (ids : List Word) (s : State) : (enumEnded ring ids s).ring.enumerating = [] ∧
    (enumEnded ring ids s).devId = s.devId ∧
    (∀ k, k < 64 → (enumEnded ring ids s).fld BRL_MAPk_VALID (64 * ring + k) = if k < ids.length then 1 else 0) := by
  have hports := portsOnly_broadcast ring (sysFrame { s with ring := { s.ring with enumerating := [] } } frEnumTable brAll ids)
    (loadMap ring ids { s with ring := { s.ring with enumerating := [] } })
  have hload := loadMap_rest ring ids { s with ring := { s.ring with enumerating := [] } }
  refine ⟨hports.enumerating.trans ?_, (hports.fld BRL_ID_DEVID 0).trans (loadMap_devId ring ids _),
    fun k hk => (hports.fld BRL_MAPk_VALID _).trans (loadMap_valid ring ids _ hk)⟩
  rw [hload]

theorem enum_returns {y : Packet} (h : s.portActive p = true) (hone : s.ring.enumerating = [(y, p.val / 2)]) (hsrc : f.src = s.devId)
    (hops : f.hops < 64) : ∃ u, exec (.enumFrame p f) s = .next (endCommand y .ok [BitVec.ofNat 64 (f.data.drop 1).length,
        mkWord [(0, 1, 1), (1, 1, bnat (firstDuplicate (f.data.drop 1)).isSome)], (firstDuplicate (f.data.drop 1)).getD 0] u) ∧
      u.ring.enumerating = [] ∧ u.devId = s.devId ∧
      (∀ k, k < 64 → u.fld BRL_MAPk_VALID (64 * (p.val / 2) + k) = if k < (f.data.drop 1).length then 1 else 0) := by
  have hdev : (frameIn p s).devId = s.devId := (frameIn_sameLinks p s).devId
  have hexec : exec (.enumFrame p f) s = .next (endCommand y .ok [BitVec.ofNat 64 (f.data.drop 1).length,
      mkWord [(0, 1, 1), (1, 1, bnat (firstDuplicate (f.data.drop 1)).isSome)], (firstDuplicate (f.data.drop 1)).getD 0]
      (enumEnded (p.val / 2) (f.data.drop 1) (frameIn p s))) := by
    rw [exec_enumFrame, execEnumFrame]
    dsimp only
    rw [arrive_taken (f := { f with kind := frEnum }) h hops, show (frameIn p s).ring.enumerating = [(y, p.val / 2)] from hone,
      List.find?_cons_of_pos (by simp [hdev, hsrc])]
    dsimp only
    unfold enumReturns
    dsimp only
    rw [show (frameIn p s).ring.enumerating = [(y, p.val / 2)] from hone, dropFirst_only]
    rfl
  obtain ⟨henum, hid, hmap⟩ := enumEnded_spec (p.val / 2) (f.data.drop 1) (frameIn p s)
  exact ⟨_, hexec, henum, hid.trans hdev, hmap⟩

theorem map_loaded {k : Nat} (h : s.portActive p = true) (hother : s.portActive (otherPort p) = false)
    (hsrc : ¬ (s.on BRL_ID_ASSIGNED = true ∧ f.src = s.devId)) (hk : k < f.data.length) (hlen : f.data.length ≤ 64) (hops : f.hops < 64)
    (hid : f.data[k]! = BitVec.ofNat 64 (bits f.data[k]! 0 14)) :
    ∃ t, exec (.enumTableFrame p f) s = .next t ∧ t.fld BRL_MAPk_DEVID (64 * (p.val / 2) + k) = f.data[k]!.toNat ∧
      t.fld BRL_MAPk_VALID (64 * (p.val / 2) + k) = 1 ∧ (ringPlace (p.val / 2) t).2 = f.data.length ∧ t.out = s.out ∧ t.mem = s.mem := by
  have hlinks := frameIn_sameLinks p s
  have hkey : BRL_PORTp_STATUS_ACTIVE.key (otherPort p) 0 0 < 0x1841000 ∧ BRL_PORTp_STATUS_ACTIVE.key (otherPort p) 0 0 ≠ 0x1840000 := by
    have hq : otherPort p < 2 * 2 := otherPort_lt (by omega)
    simp only [Field.key, BRL_PORTp_STATUS_ACTIVE]
    omega
  have hactive : (loadMap (p.val / 2) f.data (frameIn p s)).portActive (otherPort p) = false := by
    refine Eq.trans ?_ hother
    unfold State.portActive State.on
    rw [fld_congr BRL_PORTp_STATUS_ACTIVE (otherPort p) 0 0 ((loadMap_reg _ _ _ hkey.2).trans (mapFilled_below _ _ _ hkey.1)),
      fld_congr BRL_PORTp_STATUS_ACTIVE (otherPort p) 0 0 (reg_congr (frameIn_regs p s) _)]
  have hexec : exec (.enumTableFrame p f) s = .next (loadMap (p.val / 2) f.data (frameIn p s)) := by
    rw [exec_enumTableFrame, execEnumTableFrame]
    dsimp only
    rw [arrive_taken (f := { f with kind := frEnumTable }) h hops, hlinks.on BRL_ID_ASSIGNED 0, hlinks.devId, if_neg hsrc]
    unfold passOn
    rw [if_neg (ne_true_of_eq_false hactive)]
  have hrest := loadMap_rest (p.val / 2) f.data (frameIn p s)
  have hentry : f.data[k]! = f.data[k] := getElem!_pos f.data k hk
  have hfits : f.data[k]!.toNat < 2 ^ 14 := by
    rw [hid, BitVec.toNat_ofNat]
    exact (Nat.mod_le _ _).trans_lt (bits_lt _ 0 14)
  refine ⟨_, hexec, ?_, (loadMap_valid _ _ _ (by omega)).trans (if_pos hk), loadMap_size _ _ _ hlen, by rw [hrest]; rfl, by rw [hrest]; rfl⟩
  rw [loadMap_device _ _ _ (by omega) hk, ← hentry]
  exact Nat.mod_eq_of_lt hfits

theorem enum_times_out {ring : Fin 2} {y : Packet} (hone : s.ring.enumerating = [(y, ring.val)]) : exec (.enumTimeout ring n) s =
    .next (endCommand y .failed [BitVec.ofNat 64 n] { s with ring := { s.ring with enumerating := [] } }) := by
  rw [exec_enumTimeout, execEnumTimeout, hone, List.find?_cons_of_pos (by simp)]
  dsimp only
  rw [dropFirst_only]


/-! ### Copies (R574, R575) -/

/-- A copy that has nothing left to begin goes to its end. -/
theorem copyPump_done {c : RingCopy} (fuel : Nat) (h : c.bad.isSome ∨ c.total ≤ c.next) : copyPump fuel c s = copyEnd c s := by
  cases fuel with
  | zero => rfl
  | succ fuel => exact if_pos (h.imp_right .inl)

/-- The copy that a command begins. -/
def copyBegun (x : Packet) (s : State) : RingCopy :=
  { id := s.ring.nextCopy, cmd := x, send := bit (x.w 1) 16, dev := bits (x.w 1) 0 14, near := bits (x.w 2) 0 40, far := bits (x.w 3) 0 40,
    total := (x.w 4).toNat, next := 0, pieces := [], moved := 0, bad := none }

/-- The state in which a copy has joined the copies. -/
def copyJoined (x : Packet) (s : State) : State :=
  { s with ring := { s.ring with copies := s.ring.copies ++ [copyBegun x s], nextCopy := (copyBegun x s).id + 1 } }

theorem copy_invalid (hacc : s.accepts 0x0602 4 .owner x) (h : (x.w 4).toNat = 0 ∨ 2 ^ 24 < (x.w 4).toNat) :
    exec (.ringCopy x) s = .next (endCommand x .invalid [] (beginCommand x s)) := by
  rw [exec_ringCopy, execRingCopy, runCommand_passes hacc]
  dsimp only
  rw [if_pos h]

theorem copy_begins (hacc : s.accepts 0x0602 4 .owner x) (hpos : 0 < (x.w 4).toNat) (hle : (x.w 4).toNat ≤ 256) :
    exec (.ringCopy x) s = .next (copyPump 40 (copyBegun x (beginCommand x s)) (copyJoined x (beginCommand x s))) := by
  rw [exec_ringCopy, execRingCopy, runCommand_passes hacc]
  dsimp only
  rw [if_neg (by omega)]
  rfl

theorem mod_of_low_byte {v : Word} (h : bits v 0 8 = 0) : bits v 0 40 % 256 = 0 := by
  unfold bits at h ⊢
  omega

/-- A copy of one page goes in one piece. -/
theorem copy_first_piece (hpos : 0 < (x.w 4).toNat) (hle : (x.w 4).toNat ≤ 256) (hnear : bits (x.w 2) 0 8 = 0) (hfar : bits (x.w 3) 0 8 = 0)
    (u : State) : copyPump 40 (copyBegun x u) s =
      copyPump 39 (copyFirst (copyBegun x u) (x.w 4).toNat s).1 (copyFirst (copyBegun x u) (x.w 4).toNat s).2 := by
  have hpage : min ((x.w 4).toNat - 0) (min (256 - (bits (x.w 2) 0 40 + 0) % 256) (256 - (bits (x.w 3) 0 40 + 0) % 256)) = (x.w 4).toNat := by
    rw [Nat.add_zero, Nat.add_zero, mod_of_low_byte hnear, mod_of_low_byte hfar]
    omega
  have hgo : ¬ ((copyBegun x u).bad.isSome = true ∨ (copyBegun x u).total ≤ (copyBegun x u).next ∨ 32 ≤ (copyBegun x u).pieces.length) := by
    simp [copyBegun]
    omega
  refine (if_neg hgo).trans ?_
  dsimp only
  rw [show min ((copyBegun x u).total - (copyBegun x u).next) (min (256 - ((copyBegun x u).near + (copyBegun x u).next) % 256)
    (256 - ((copyBegun x u).far + (copyBegun x u).next) % 256)) = (x.w 4).toNat from hpage]

/-- The copy after its only piece has been asked for. -/
def copyAsked (x : Packet) (s : State) : RingCopy :=
  { copyBegun x s with next := (x.w 4).toNat, pieces := [⟨s.ring.nextTag, 0, (x.w 4).toNat, false⟩] }

theorem copy_sends (hacc : s.accepts 0x0602 4 .owner x) (hpos : 0 < (x.w 4).toNat) (hle : (x.w 4).toNat ≤ 256) (hnear : bits (x.w 2) 0 8 = 0)
    (hfar : bits (x.w 3) 0 8 = 0) (hnone : s.ring.copies = []) (hsend : bit (x.w 1) 16 = true) :
    ∃ t, exec (.ringCopy x) s = .next t ∧ t.ring.copies.map (·.pieces) = [[⟨s.ring.nextTag, 0, (x.w 4).toNat, false⟩]] ∧
      t.out = .request 156 s.ring.nextTag x.issuer false (bits (x.w 2) 0 40) (x.w 4).toNat [] false :: (beginCommand x s).out := by
  have hring := beginCommand_ring x s
  generalize hu : beginCommand x s = u at hring
  have hfirst : copyFirst (copyBegun x u) (x.w 4).toNat (copyJoined x u) = (copyAsked x u,
      copyLocal (copyBegun x u) u.ring.nextTag false 0 (x.w 4).toNat false [] (takeTag (copyJoined x u)).2) := by
    unfold copyFirst
    dsimp only
    rw [if_pos (show (copyBegun x u).send = true from hsend)]
    unfold copyAsked copyBegun copyJoined takeTag
    simp only [Nat.zero_add, List.nil_append]
  have hexec : exec (.ringCopy x) s = .next (putCopy (copyAsked x u)
      (copyLocal (copyBegun x u) u.ring.nextTag false 0 (x.w 4).toNat false [] (takeTag (copyJoined x u)).2)) := by
    rw [copy_begins hacc hpos hle, hu, copy_first_piece hpos hle hnear hfar, hfirst]
    dsimp only
    rw [copyPump_done 39 (.inr (le_refl _))]
    exact congrArg Host.Outcome.next (if_pos (.inl (by simp [copyAsked])))
  refine ⟨_, hexec, ?_, ?_⟩
  · have hput : (putCopy (copyAsked x u) (copyLocal (copyBegun x u) u.ring.nextTag false 0 (x.w 4).toNat false [] (takeTag (copyJoined x u)).2)).ring.copies =
        (u.ring.copies ++ [copyBegun x u]).map (fun c => if c.id = (copyAsked x u).id then copyAsked x u else c) := rfl
    rw [hput, hring, hnone]
    simp [copyAsked, hring]
  · rw [← hring]
    rfl

/-- A copy that has ended without its pieces leaves the copies. -/
def copyGone (i : Nat) (s : State) : State := { s with ring := { s.ring with copies := s.ring.copies.filter (fun c => decide (c.id ≠ i)) } }

theorem copyGone_only {c : RingCopy} (h : s.ring.copies = [c]) : (copyGone c.id s).ring.copies = [] := by
  unfold copyGone
  simp [h]

theorem copyEnd_over {c : RingCopy} (hpieces : c.pieces = []) (h : c.bad.isSome ∨ c.total ≤ c.next) : copyEnd c s =
    endCommand c.cmd (match c.bad with | none => .ok | some 4 => .decode | some _ => .errData) [BitVec.ofNat 64 c.moved, BitVec.ofNat 64 (c.bad.getD 0)]
      (copyGone c.id s) := by
  refine if_neg ?_
  rintro (hleft | ⟨hwell, hleft⟩)
  · simp [hpieces] at hleft
  · rcases h with h | h
    · cases hb : c.bad with
      | none => simp [hb] at h
      | some b => simp [hb] at hwell
    · omega

theorem copy_unreachable (hacc : s.accepts 0x0602 4 .owner x) (hpos : 0 < (x.w 4).toNat) (hle : (x.w 4).toNat ≤ 256) (hnear : bits (x.w 2) 0 8 = 0)
    (hfar : bits (x.w 3) 0 8 = 0) (hnone : s.ring.copies = []) (hread : bit (x.w 1) 16 = false)
    (hunreachable : s.on BRL_ID_ASSIGNED = false ∨ routePort (bits (x.w 1) 0 14) s = none) :
    ∃ u, exec (.ringCopy x) s = .next (endCommand x .decode [0, 4] u) ∧ u.ring.copies = [] := by
  have hring := beginCommand_ring x s
  have hnoway : (beginCommand x s).on BRL_ID_ASSIGNED = false ∨ routePort (bits (x.w 1) 0 14) (beginCommand x s) = none :=
    hunreachable.imp (on_beginCommand x s BRL_ID_ASSIGNED (by decide) (by decide)).trans ((beginCommand_nearLinks x s).routePort _).trans
  generalize hu : beginCommand x s = u at hring hnoway
  have hfirst : copyFirst (copyBegun x u) (x.w 4).toNat (copyJoined x u) = ({ copyBegun x u with bad := some 4 }, copyJoined x u) := by
    have hjoined : (copyJoined x u).on BRL_ID_ASSIGNED = false ∨ routePort (copyBegun x u).dev (copyJoined x u) = none :=
      hnoway.imp_right ((sameLinks_of_regs (s := u) (t := copyJoined x u) rfl).near.routePort _).trans
    unfold copyFirst
    dsimp only
    rw [if_neg (show ¬ (copyBegun x u).send = true from ne_true_of_eq_false hread), remote_unsent hjoined]
  have hcopies : (copyJoined x u).ring.copies = [copyBegun x u] := by
    unfold copyJoined
    dsimp only
    rw [hring, hnone]
    rfl
  have hexec : exec (.ringCopy x) s = .next (endCommand x .decode [0, 4] (copyGone (copyBegun x u).id (copyJoined x u))) := by
    rw [copy_begins hacc hpos hle, hu, copy_first_piece hpos hle hnear hfar, hfirst]
    dsimp only
    rw [copyPump_done 39 (.inl rfl), copyEnd_over rfl (.inl rfl)]
    rfl
  exact ⟨_, hexec, copyGone_only hcopies⟩

/-- A copy whose last piece is over. -/
def copyMoved (c : RingCopy) (y : CopyPiece) : RingCopy := { c with pieces := [], moved := c.moved + y.bytes }

theorem copy_ends {c : RingCopy} {y : CopyPiece} (hserving : s.ring.serving = []) (hcopies : s.ring.copies = [c]) (hpieces : c.pieces = [y])
    (hsecond : y.second = true) (hwell : c.bad = none) (hall : c.next = c.total) :
    ∃ u, exec (.endpointResponse .brocia y.tag .ok [] false) s =
        .next (endCommand c.cmd .ok [BitVec.ofNat 64 (c.moved + y.bytes), 0] u) ∧ u.ring.copies = [] ∧ u.mem = s.mem := by
  have hover : pieceOver c y true 0 (answeredAt 156 s) = copyPump 40 (copyMoved c y) (answeredAt 156 s) := by
    unfold pieceOver copyMoved
    rw [hpieces, dropFirst_only]
    rfl
  have hexec : exec (.endpointResponse .brocia y.tag .ok [] false) s =
      .next (endCommand c.cmd .ok [BitVec.ofNat 64 (c.moved + y.bytes), 0] (copyGone c.id (answeredAt 156 s))) := by
    rw [exec_endpointResponse, execEndpointResponse]
    dsimp only
    rw [hserving, List.find?_nil]
    dsimp only
    unfold copyResponse
    rw [show (answeredAt 156 s).ring.copies = [c] from hcopies, List.find?_cons_of_pos (by simp [hpieces])]
    dsimp only
    rw [hpieces, List.find?_cons_of_pos (by simp)]
    dsimp only
    rw [if_neg (by decide), if_pos hsecond, hover, copyPump_done 40 (.inr (by simp [copyMoved, hall])),
      copyEnd_over rfl (.inr (by simp [copyMoved, hall]))]
    unfold copyMoved
    dsimp only
    rw [hwell]
    rfl
  exact ⟨_, hexec, copyGone_only (s := answeredAt 156 s) hcopies, rfl⟩

/-- Settles O52. -/
theorem ringCommands : Obligations.RingCommands :=
  ⟨fun _ _ _ hread hn hclass => ⟨racc_unreachable hread hn, fun _ hon hroute hleaves => racc_sent hread hn hclass hon hroute hleaves,
      racc_half hread hn, fun _ => racc_times_out hn⟩,
    fun _ _ _ _ hdark hopen howner hh => ⟨devId_written hdark hopen howner hh, devId_kept hdark hopen howner⟩,
    fun _ _ => enum_invalid,
    fun _ _ hacc hbase hring hlock hoff hqueue hactive hcredits hreplay => enum_begins hacc hbase hring hlock hoff hqueue hactive hcredits hreplay,
    fun _ f _ h hother hnone hlock hoff hdata hid hqueue hreplay hcredits hlen hops =>
      enum_taken h hother hnone hlock hoff hdata (show enumId f < 2 ^ 14 by unfold enumId; omega) hqueue hreplay hcredits hlen hops,
    fun _ _ _ _ h hone hsrc _ hops => enum_returns h hone hsrc hops,
    fun _ _ _ _ h hother hsrc hk hlen hops hid => map_loaded h hother hsrc hk hlen hops hid,
    fun _ _ _ _ => enum_times_out,
    fun _ _ hacc => ⟨copy_invalid hacc, fun hpos hle hnear hfar hnone => ⟨copy_sends hacc hpos hle hnear hfar hnone,
      copy_unreachable hacc hpos hle hnear hfar hnone⟩⟩,
    fun _ _ _ hserving hcopies hpieces hsecond hwell hall => copy_ends hserving hcopies hpieces hsecond hwell hall⟩

end Sys2Proof.Machine
end

section
-- One proof at a time: the memory limit of the check counts a stack for every proof that waits for another.
set_option Elab.async false
/-! SUPPORT. The owner of the device: claims, the handover and the lease (R596 to R604). -/

namespace Sys2Proof.Machine

variable {s t : State} {a b m : Ident} {data : Word}

/-! ### Fields that stand apart -/

/-- A write of a field leaves a field of another register, or of other bits, as it was. -/
theorem fld_setFld_apart (s : State) (F G : Field) (v : Nat) (h : G.apart F (G.key 0 0 0) (F.key 0 0 0) := by unfold Field.apart; decide)
    (hF : F.good := by unfold Field.good; decide) : (s.setFld F v).fld G = s.fld G := fld_setFld_other s F G v 0 0 0 0 0 0 hF h

/-- The registers of the hearth controller and of ownership lie below every register that an event changes. -/
theorem raise_low {src : Nat} (hs : src < 0x1000) (info : Nat) (s : State) {k : Nat} (hk : k < 0x200000) : (raise src info s).reg k = s.reg k := by
  have hroute : k ∉ routeKeys := by
    simp only [routeKeys, vectorKeys, pbaKey, Field.key, FLT_VECf_RAISED_RAISED, List.mem_append, List.mem_cons, List.not_mem_nil, or_false]
    omega
  have hcount : k ∉ raiseKeys src := by
    simp only [raiseKeys, Field.key, FLT_SRCs_COUNT, FLT_COUNT_RAISED, List.mem_cons, List.not_mem_nil, or_false]
    omega
  cases hr : sourceRange src with
  | none =>
    unfold raise raiseFrom
    rw [hr]
  | some r =>
    cases hn : r.notify with
    | true =>
      have hevent : raise src info s = routeSource src s := by
        unfold raise raiseFrom
        rw [hr]
        exact if_pos hn
      rw [hevent]
      exact (routeSource_onlySends src s).2 k hroute
    | false => exact ((raiseFrom_onlySends hr hn hs none info s).2 k hroute).trans (raiseMark_regsKeep none src info s k hcount)

theorem fld_raise_low {src : Nat} (hs : src < 0x1000) (info : Nat) (s : State) (F : Field) (hk : F.key 0 0 0 < 0x200000) :
    (raise src info s).fld F = s.fld F := fld_congr F 0 0 0 (raise_low hs info s hk)

/-! ### The owner changes (R597) -/

/-- The number that OWN_STATUS holds for an owner. -/
def ownerWord : Option Ident → Nat
  | some m => m.toNat
  | none => 0

/-- The state in which the owner has changed, before its event. -/
def ownerMark (o : Option Ident) (s : State) : State :=
  ((s.setFld OWN_STATUS_OWNER (ownerWord o)).setFld OWN_STATUS_OWNED (bnat o.isSome)).addFld OWN_CHANGES_CHANGES 1

theorem setOwner_eq (o : Option Ident) (s : State) : setOwner o s = raise 0x010 (ownerWord o) (ownerMark o s) := by
  cases o <;> rfl

theorem ownerWord_lt (o : Option Ident) : ownerWord o < 2 ^ 32 := by
  cases o with
  | none => decide
  | some m => exact m.isLt

theorem ownerMark_owner (o : Option Ident) (s : State) : (ownerMark o s).fld OWN_STATUS_OWNER = ownerWord o := by
  unfold ownerMark State.addFld
  rw [fld_setFld_apart _ OWN_CHANGES_CHANGES OWN_STATUS_OWNER, fld_setFld_apart _ OWN_STATUS_OWNED OWN_STATUS_OWNER]
  exact fld_setFld_fits s OWN_STATUS_OWNER 0 0 0 (ownerWord_lt o)

theorem ownerMark_owned (o : Option Ident) (s : State) : (ownerMark o s).fld OWN_STATUS_OWNED = bnat o.isSome := by
  unfold ownerMark State.addFld
  rw [fld_setFld_apart _ OWN_CHANGES_CHANGES OWN_STATUS_OWNED]
  exact fld_setFld_fits _ OWN_STATUS_OWNED 0 0 0 (bnat_lt _)

theorem ownerMark_changes (o : Option Ident) (s : State) : (ownerMark o s).fld OWN_CHANGES_CHANGES = (s.fld OWN_CHANGES_CHANGES + 1) % 2 ^ 32 := by
  unfold ownerMark
  rw [fld_addFld _ OWN_CHANGES_CHANGES 1 0 0 0, fld_setFld_apart _ OWN_STATUS_OWNED OWN_CHANGES_CHANGES,
    fld_setFld_apart _ OWN_STATUS_OWNER OWN_CHANGES_CHANGES]
  rfl

/-- The fields that a change of the owner leaves. -/
theorem ownerMark_apart (o : Option Ident) (s : State) (G : Field)
    (h : G.apart OWN_STATUS_OWNER (G.key 0 0 0) (OWN_STATUS_OWNER.key 0 0 0) ∧ G.apart OWN_STATUS_OWNED (G.key 0 0 0) (OWN_STATUS_OWNED.key 0 0 0) ∧
      G.apart OWN_CHANGES_CHANGES (G.key 0 0 0) (OWN_CHANGES_CHANGES.key 0 0 0) := by unfold Field.apart; decide) :
    (ownerMark o s).fld G = s.fld G := by
  obtain ⟨howner, howned, hchanges⟩ := h
  unfold ownerMark State.addFld
  rw [fld_setFld_apart _ OWN_CHANGES_CHANGES G _ hchanges, fld_setFld_apart _ OWN_STATUS_OWNED G _ howned, fld_setFld_apart _ OWN_STATUS_OWNER G _ howner]

theorem ownerMark_onlyRegs (o : Option Ident) (s : State) : onlyRegs [leaseKey, OWN_CHANGES_CHANGES.off] s (ownerMark o s) :=
  onlyRegs_after_setFld OWN_CHANGES_CHANGES _ 0 0 0 (onlyRegs_after_setFld OWN_STATUS_OWNED _ 0 0 0
    (onlyRegs_mono (by decide) (onlyRegs_setFld s OWN_STATUS_OWNER (ownerWord o) 0 0 0)) (by decide)) (by decide)

/-! ### A claim that wins (R597, R598, R603) -/

/-- The state in which a claimant has become the owner with a new lease. -/
def claimed (a : Ident) (s : State) : State := startLease (setOwner (some a) s)

theorem claimed_fld (a : Ident) (s : State) (G : Field) (hk : G.key 0 0 0 < 0x200000 := by decide)
    (h : G.apart OWN_STATUS_LEASE_LEFT_MS (G.key 0 0 0) (OWN_STATUS_LEASE_LEFT_MS.key 0 0 0) := by unfold Field.apart; decide) :
    (claimed a s).fld G = (ownerMark (some a) s).fld G := by
  unfold claimed startLease
  rw [fld_setFld_apart _ OWN_STATUS_LEASE_LEFT_MS G _ h, setOwner_eq, fld_raise_low (by decide) _ _ G hk]

theorem claimed_owner (a : Ident) (s : State) : (claimed a s).fld OWN_STATUS_OWNER = a.toNat :=
  (claimed_fld a s OWN_STATUS_OWNER).trans (ownerMark_owner (some a) s)

theorem claimed_owned (a : Ident) (s : State) : (claimed a s).fld OWN_STATUS_OWNED = 1 :=
  (claimed_fld a s OWN_STATUS_OWNED).trans (ownerMark_owned (some a) s)

theorem claimed_lease (a : Ident) (s : State) : (claimed a s).fld OWN_STATUS_LEASE_LEFT_MS = s.fld OWN_LEASE_LEASE_MS := by
  have hlen : (setOwner (some a) s).fld OWN_LEASE_LEASE_MS = s.fld OWN_LEASE_LEASE_MS := by
    rw [setOwner_eq, fld_raise_low (by decide) _ _ OWN_LEASE_LEASE_MS (by decide), ownerMark_apart (some a) s OWN_LEASE_LEASE_MS]
  unfold claimed startLease
  rw [hlen]
  exact fld_setFld_fits _ OWN_STATUS_LEASE_LEFT_MS 0 0 0 (bits_lt _ _ _)

theorem owner_of_fld (h : t.fld OWN_STATUS_OWNER = a.toNat) : t.owner = a := by
  unfold State.owner
  rw [h, BitVec.ofNat_toNat, BitVec.setWidth_eq]

theorem owned_of_fld (h : t.fld OWN_STATUS_OWNED = 1) : t.owned = true := on_of_one h

/-- What the readers of OWN_CLAIM are told. -/
theorem claimWord_owned (h : t.fld OWN_STATUS_OWNED = 1) : t.claimWord = mkWord [(0, 32, t.fld OWN_STATUS_OWNER), (32, 1, 1)] := by
  unfold State.claimWord
  rw [h]

/-- A state in which a claimant is the owner with the lease's full length. -/
def ownedBy (a : Ident) (s t : State) : Prop :=
  t.owned = true ∧ t.owner = a ∧ t.fld OWN_STATUS_LEASE_LEFT_MS = s.fld OWN_LEASE_LEASE_MS

theorem claimed_ownedBy (a : Ident) (s : State) : ownedBy a s (claimed a s) :=
  ⟨owned_of_fld (claimed_owned a s), owner_of_fld (claimed_owner a s), claimed_lease a s⟩

theorem claimEffect_free (hfree : s.owned = false) (hpending : s.fld OWN_HANDOVER_PENDING = 0) {readers : List Ident}
    (hwin : winner (readers.filter (mayClaim s)) = some a) : claimEffect readers s = claimed a s := by
  unfold claimEffect
  rw [if_neg (ne_true_of_eq_false (on_of_zero hpending)), if_neg (ne_true_of_eq_false hfree), hwin]
  rfl

theorem exec_claim {readers : List Ident} (hdark : s.dark = false) : exec (.ownershipClaim readers) s =
    .next (readers.foldl (fun s m => s.emit (.answer m s.claimWord)) (claimEffect readers s)) := by
  rw [exec_ownershipClaim, execOwnershipClaim, if_neg (ne_true_of_eq_false hdark)]

theorem claim_wins (hdark : s.dark = false) (hfree : s.owned = false) (hpending : s.fld OWN_HANDOVER_PENDING = 0) (hmay : mayClaim s a = true) :
    ∃ t, exec (.ownershipClaim [a]) s = .next t ∧ t.owned = true ∧ t.owner = a ∧ t.fld OWN_STATUS_LEASE_LEFT_MS = s.fld OWN_LEASE_LEASE_MS ∧
      t.fld OWN_CHANGES_CHANGES = (s.fld OWN_CHANGES_CHANGES + 1) % 2 ^ 32 ∧
      t.out.head? = some (.answer a (mkWord [(0, 32, a.toNat), (32, 1, 1)])) := by
  have hclaim : claimEffect [a] s = claimed a s := claimEffect_free hfree hpending (by rw [List.filter_cons_of_pos hmay]; rfl)
  obtain ⟨howned, howner, hlease⟩ := claimed_ownedBy a s
  have hword : (claimed a s).claimWord = mkWord [(0, 32, a.toNat), (32, 1, 1)] := by rw [claimWord_owned (claimed_owned a s), claimed_owner]
  have hchanges : (claimed a s).fld OWN_CHANGES_CHANGES = (s.fld OWN_CHANGES_CHANGES + 1) % 2 ^ 32 :=
    (claimed_fld a s OWN_CHANGES_CHANGES).trans (ownerMark_changes (some a) s)
  have hexec : exec (.ownershipClaim [a]) s = .next ((claimed a s).emit (.answer a (claimed a s).claimWord)) := by
    rw [exec_claim hdark, hclaim]
    rfl
  exact ⟨_, hexec, howned, howner, hlease, hchanges, congrArg (fun w => some (Out.answer a w)) hword⟩

/-- Of two claimants of a cycle the one of the lower rank wins, in whatever order they are read. -/
theorem winner_of_two (hmay : mayClaim s a = true) (hrank : claimRank a < claimRank b) :
    winner ([a, b].filter (mayClaim s)) = some a ∧ winner ([b, a].filter (mayClaim s)) = some a := by
  by_cases hb : mayClaim s b = true
  · rw [List.filter_cons_of_pos hmay, List.filter_cons_of_pos hb, List.filter_cons_of_pos hb, List.filter_cons_of_pos hmay]
    exact ⟨if_neg (by omega), if_pos hrank⟩
  · rw [List.filter_cons_of_pos hmay, List.filter_cons_of_neg hb, List.filter_cons_of_neg hb, List.filter_cons_of_pos hmay]
    exact ⟨rfl, rfl⟩

theorem claim_of_two (hdark : s.dark = false) (hfree : s.owned = false) (hpending : s.fld OWN_HANDOVER_PENDING = 0) (hmay : mayClaim s a = true)
    (hrank : claimRank a < claimRank b) :
    ∃ t u, exec (.ownershipClaim [a, b]) s = .next t ∧ exec (.ownershipClaim [b, a]) s = .next u ∧ t.owner = a ∧ u.owner = a ∧
      t.owned = true ∧ u.owned = true := by
  obtain ⟨hfirst, hsecond⟩ := winner_of_two hmay hrank
  obtain ⟨howned, howner, -⟩ := claimed_ownedBy a s
  refine ⟨_, _, exec_claim hdark, exec_claim hdark, ?_⟩
  rw [claimEffect_free hfree hpending hfirst, claimEffect_free hfree hpending hsecond]
  exact ⟨howner, howner, howned, howned⟩

theorem claim_of_owned (hdark : s.dark = false) (hown : s.owned = true) (hpending : s.fld OWN_HANDOVER_PENDING = 0) :
    exec (.ownershipClaim [a]) s = .next { s with out := .answer a (mkWord [(0, 32, s.fld OWN_STATUS_OWNER), (32, 1, 1)]) :: s.out } := by
  have hone : s.fld OWN_STATUS_OWNED = 1 := by
    have hne : s.fld OWN_STATUS_OWNED ≠ 0 := of_decide_eq_true hown
    have hlt : s.fld OWN_STATUS_OWNED < 2 ^ 1 := bits_lt _ _ _
    omega
  have hsame : claimEffect [a] s = s := by
    unfold claimEffect
    rw [if_neg (ne_true_of_eq_false (on_of_zero hpending)), if_pos hown]
  rw [exec_claim hdark, hsame, ← claimWord_owned hone]
  rfl

/-! ### The handover (R600 to R602) -/

theorem clearHandover_pending (s : State) : (clearHandover s).fld OWN_HANDOVER_PENDING = 0 := by
  unfold clearHandover
  rw [fld_setFld_apart _ OWN_STATUS_HANDOVER OWN_HANDOVER_PENDING]
  exact fld_setFld_fits s OWN_HANDOVER_PENDING 0 0 0 (by decide)

theorem clearHandover_handover (s : State) : (clearHandover s).fld OWN_STATUS_HANDOVER = 0 := fld_setFld_fits _ OWN_STATUS_HANDOVER 0 0 0 (by decide)

theorem clearHandover_apart (s : State) (G : Field)
    (h : G.apart OWN_STATUS_HANDOVER (G.key 0 0 0) (OWN_STATUS_HANDOVER.key 0 0 0) ∧ G.apart OWN_HANDOVER_PENDING (G.key 0 0 0) (OWN_HANDOVER_PENDING.key 0 0 0) :=
      by unfold Field.apart; decide) : (clearHandover s).fld G = s.fld G := by
  unfold clearHandover
  rw [fld_setFld_apart _ OWN_STATUS_HANDOVER G _ h.1, fld_setFld_apart s OWN_HANDOVER_PENDING G _ h.2]

theorem clearHandover_onlyRegs (s : State) : onlyRegs [OWN_HANDOVER_PENDING.off, OWN_STATUS_OWNER.off] s (clearHandover s) :=
  onlyRegs_after_setFld OWN_STATUS_HANDOVER _ 0 0 0 (onlyRegs_mono (by decide) (onlyRegs_setFld s OWN_HANDOVER_PENDING 0 0 0 0)) (by decide)

theorem owned_congr (h : t.fld OWN_STATUS_OWNED = s.fld OWN_STATUS_OWNED) : t.owned = s.owned := by
  unfold State.owned State.on
  rw [h]

theorem owner_congr (h : t.fld OWN_STATUS_OWNER = s.fld OWN_STATUS_OWNER) : t.owner = s.owner := by
  unfold State.owner
  rw [h]

theorem successor_read (h : s.fld OWN_HANDOVER_SUCCESSOR = a.toNat) : BitVec.ofNat 32 (s.fld OWN_HANDOVER_SUCCESSOR) = a := by
  rw [h, BitVec.ofNat_toNat, BitVec.setWidth_eq]

theorem successor_claims (hdark : s.dark = false) (hpending : s.fld OWN_HANDOVER_PENDING = 1) (hsucc : s.fld OWN_HANDOVER_SUCCESSOR = a.toNat)
    (hmay : mayClaim s a = true) :
    ∃ t, exec (.ownershipClaim [a]) s = .next t ∧ t.owned = true ∧ t.owner = a ∧ t.fld OWN_HANDOVER_PENDING = 0 ∧
      t.fld OWN_STATUS_HANDOVER = 0 ∧ t.fld OWN_STATUS_LEASE_LEFT_MS = s.fld OWN_LEASE_LEASE_MS := by
  have hclaim : claimEffect [a] s = claimed a (clearHandover s) := by
    unfold claimEffect
    rw [if_pos (on_of_one hpending)]
    dsimp only
    rw [successor_read hsucc, if_pos ⟨by simp, hmay⟩]
    rfl
  obtain ⟨howned, howner, hlease⟩ := claimed_ownedBy a (clearHandover s)
  have hexec : exec (.ownershipClaim [a]) s =
      .next ((claimed a (clearHandover s)).emit (.answer a (claimed a (clearHandover s)).claimWord)) := by
    rw [exec_claim hdark, hclaim]
    rfl
  refine ⟨_, hexec, howned, howner, ?_, ?_, hlease.trans (clearHandover_apart s OWN_LEASE_LEASE_MS)⟩
  · exact (claimed_fld a _ OWN_HANDOVER_PENDING).trans ((ownerMark_apart (some a) _ OWN_HANDOVER_PENDING).trans (clearHandover_pending s))
  · exact (claimed_fld a _ OWN_STATUS_HANDOVER).trans ((ownerMark_apart (some a) _ OWN_STATUS_HANDOVER).trans (clearHandover_handover s))

theorem other_claims_in_vain (hdark : s.dark = false) (hpending : s.fld OWN_HANDOVER_PENDING = 1) (hsucc : s.fld OWN_HANDOVER_SUCCESSOR = a.toNat)
    (hne : b ≠ a) : ∃ t, exec (.ownershipClaim [b]) s = .next t ∧ storesKeep s t := by
  have hclaim : claimEffect [b] s = s := by
    unfold claimEffect
    rw [if_pos (on_of_one hpending)]
    dsimp only
    rw [successor_read hsucc, if_neg (by simp [Ne.symm hne])]
  refine ⟨_, exec_claim hdark, ?_⟩
  rw [hclaim]
  exact ⟨rfl, rfl⟩

theorem handover_expires (hpending : s.fld OWN_HANDOVER_PENDING = 1) :
    ∃ t, exec .handoverExpire s = .next t ∧ t.fld OWN_HANDOVER_PENDING = 0 ∧ t.owner = s.owner ∧ t.owned = s.owned ∧
      onlyRegs [OWN_HANDOVER_PENDING.off, OWN_STATUS_OWNER.off] s t := by
  have hexec : exec .handoverExpire s = .next (clearHandover s) := by
    rw [exec_handoverExpire, execHandoverExpire, if_pos (on_of_one hpending)]
  exact ⟨_, hexec, clearHandover_pending s, owner_congr (clearHandover_apart s OWN_STATUS_OWNER), owned_congr (clearHandover_apart s OWN_STATUS_OWNED),
    clearHandover_onlyRegs s⟩

end Sys2Proof.Machine
end

section
-- One proof at a time: the memory limit of the check counts a stack for every proof that waits for another.
set_option Elab.async false
/-! SUPPORT. Offers of the device, the end of a lease, mailboxes and doorbells (R600 to R614). -/

namespace Sys2Proof.Machine

variable {s t : State} {a m : Ident} {data : Word}

/-! ### Offers and releases (R600, R602) -/

/-- The state in which the owner has named a successor. -/
def successorNamed (a : Ident) (s : State) : State := s.setFld OWN_HANDOVER_SUCCESSOR a.toNat

/-- The state in which an offer waits for its successor. -/
def offered (a : Ident) (s : State) : State := ((successorNamed a s).setFld OWN_HANDOVER_PENDING 1).setFld OWN_STATUS_HANDOVER 1

theorem isOwner_congr (howned : t.fld OWN_STATUS_OWNED = s.fld OWN_STATUS_OWNED) (howner : t.fld OWN_STATUS_OWNER = s.fld OWN_STATUS_OWNER) (a : Ident) :
    t.isOwner a = s.isOwner a := by
  unfold State.isOwner
  rw [owned_congr howned, owner_congr howner]

theorem mayClaim_renewLease (m a : Ident) (s : State) : mayClaim (renewLease m s) a = mayClaim s a := by
  unfold mayClaim
  rw [fld_renewLease_above m s (g := CFG_FUSE_JTAG_LOCK) (by decide) 0]

theorem offer_effect (hdata : bits data 0 32 = a.toNat) : offerEffect .full data s =
    if mayClaim s a then if s.isOwner a then clearHandover (successorNamed a s) else offered a s else s := by
  have hfield : wfield .full data OWN_HANDOVER_SUCCESSOR = some a.toNat := by
    rw [wfield_full data OWN_HANDOVER_SUCCESSOR (by decide)]
    exact congrArg some hdata
  have hident : BitVec.ofNat 32 a.toNat = a := by rw [BitVec.ofNat_toNat, BitVec.setWidth_eq]
  have howner : (successorNamed a s).isOwner a = s.isOwner a :=
    isOwner_congr (fld_setFld_apart s OWN_HANDOVER_SUCCESSOR OWN_STATUS_OWNED _) (fld_setFld_apart s OWN_HANDOVER_SUCCESSOR OWN_STATUS_OWNER _) a
  unfold offerEffect
  rw [hfield]
  dsimp only
  rw [hident, ← howner]
  by_cases hmay : mayClaim s a = true
  · rw [if_neg (not_not.mpr hmay), if_pos hmay]
    rfl
  · rw [if_pos hmay, if_neg hmay]

theorem handover_write {c : Instr} (hadm : s.admits m .OWN_HANDOVER []) (hc : c ∈ [Instr.handoverOffer m .full data, .ownerRelease m .full data]) :
    exec c s = .next (if bit data 33 then vacate (offerEffect .full data (renewLease m s)) else offerEffect .full data (renewLease m s)) := by
  have heffect : exec c s = .next (regWrite .OWN_HANDOVER [] m .full (handoverEffect .full data) s) := by
    simp only [List.mem_cons, List.not_mem_nil, or_false] at hc
    rcases hc with rfl | rfl <;> rfl
  rw [heffect, regWrite_admits hadm]
  unfold handoverEffect
  dsimp only
  rw [wbit_full]
  rfl

section owner

variable {c : Instr} (hadm : s.admits m .OWN_HANDOVER []) (howns : s.isOwner m = true)
  (hc : c ∈ [Instr.handoverOffer m .full data, .ownerRelease m .full data]) (hdata : bits data 0 32 = a.toNat)

/-- The owner, after the write that renews its lease. -/
theorem owner_renewed (h : s.isOwner m = true) : (renewLease m s).owned = true ∧ (renewLease m s).owner = m := by
  have howns : (renewLease m s).isOwner m = true := (renewLease_isOwner m m s).trans h
  unfold State.isOwner at howns
  rw [Bool.and_eq_true, decide_eq_true_eq] at howns
  exact howns

theorem offered_onlyRegs (a : Ident) (s : State) : onlyRegs [leaseKey, OWN_HANDOVER_PENDING.off] s (offered a s) :=
  onlyRegs_after_setFld OWN_STATUS_HANDOVER _ 0 0 0 (onlyRegs_after_setFld OWN_HANDOVER_PENDING _ 0 0 0
    (onlyRegs_mono (by decide) (onlyRegs_setFld s OWN_HANDOVER_SUCCESSOR a.toNat 0 0 0)) (by decide)) (by decide)

theorem offered_apart (a : Ident) (s : State) (G : Field)
    (h : G.apart OWN_STATUS_HANDOVER (G.key 0 0 0) (OWN_STATUS_HANDOVER.key 0 0 0) ∧ G.apart OWN_HANDOVER_PENDING (G.key 0 0 0) (OWN_HANDOVER_PENDING.key 0 0 0) ∧
      G.apart OWN_HANDOVER_SUCCESSOR (G.key 0 0 0) (OWN_HANDOVER_SUCCESSOR.key 0 0 0) := by unfold Field.apart; decide) :
    (offered a s).fld G = s.fld G := by
  obtain ⟨hstatus, hpending, hsucc⟩ := h
  unfold offered successorNamed
  rw [fld_setFld_apart _ OWN_STATUS_HANDOVER G _ hstatus, fld_setFld_apart _ OWN_HANDOVER_PENDING G _ hpending,
    fld_setFld_apart s OWN_HANDOVER_SUCCESSOR G _ hsucc]

theorem offered_successor (a : Ident) (s : State) : (offered a s).fld OWN_HANDOVER_SUCCESSOR = a.toNat := by
  unfold offered
  rw [fld_setFld_apart _ OWN_STATUS_HANDOVER OWN_HANDOVER_SUCCESSOR, fld_setFld_apart _ OWN_HANDOVER_PENDING OWN_HANDOVER_SUCCESSOR]
  exact fld_setFld_fits s OWN_HANDOVER_SUCCESSOR 0 0 0 a.isLt

theorem offered_pending (a : Ident) (s : State) : (offered a s).fld OWN_HANDOVER_PENDING = 1 := by
  unfold offered
  rw [fld_setFld_apart _ OWN_STATUS_HANDOVER OWN_HANDOVER_PENDING]
  exact fld_setFld_fits _ OWN_HANDOVER_PENDING 0 0 0 (by decide)

/-- An offer withdrawn by the owner's naming itself. -/
def withdrawn (a : Ident) (s : State) : State := clearHandover (successorNamed a s)

theorem withdrawn_onlyRegs (a : Ident) (s : State) : onlyRegs [leaseKey, OWN_HANDOVER_PENDING.off] s (withdrawn a s) :=
  onlyRegs_trans (onlyRegs_mono (by decide) (onlyRegs_setFld s OWN_HANDOVER_SUCCESSOR a.toNat 0 0 0))
    (onlyRegs_mono (by decide) (clearHandover_onlyRegs (successorNamed a s)))

theorem withdrawn_apart (a : Ident) (s : State) (G : Field)
    (h : G.apart OWN_HANDOVER_SUCCESSOR (G.key 0 0 0) (OWN_HANDOVER_SUCCESSOR.key 0 0 0) := by unfold Field.apart; decide)
    (h' : G.apart OWN_STATUS_HANDOVER (G.key 0 0 0) (OWN_STATUS_HANDOVER.key 0 0 0) ∧
      G.apart OWN_HANDOVER_PENDING (G.key 0 0 0) (OWN_HANDOVER_PENDING.key 0 0 0) := by unfold Field.apart; decide) :
    (withdrawn a s).fld G = s.fld G := (clearHandover_apart (successorNamed a s) G h').trans (fld_setFld_apart s OWN_HANDOVER_SUCCESSOR G _ h)

include hadm howns hc hdata

theorem offer_made (hrelease : bit data 33 = false) (hmay : mayClaim s a = true) (hne : a ≠ m) :
    ∃ t, exec c s = .next t ∧ t.fld OWN_HANDOVER_SUCCESSOR = a.toNat ∧ t.fld OWN_HANDOVER_PENDING = 1 ∧ t.owner = m ∧ t.owned = true ∧
      onlyRegs [leaseKey, OWN_HANDOVER_PENDING.off] s t := by
  obtain ⟨howned, howner⟩ := owner_renewed howns
  have hother : (renewLease m s).isOwner a = false := by
    unfold State.isOwner
    rw [howned, howner]
    simp [Ne.symm hne]
  have hexec : exec c s = .next (offered a (renewLease m s)) := by
    rw [handover_write hadm hc, hrelease, if_neg Bool.false_ne_true, offer_effect hdata, if_pos ((mayClaim_renewLease m a s).trans hmay),
      if_neg (ne_true_of_eq_false hother)]
  exact ⟨_, hexec, offered_successor a _, offered_pending a _, (owner_congr (offered_apart a _ OWN_STATUS_OWNER)).trans howner,
    (owned_congr (offered_apart a _ OWN_STATUS_OWNED)).trans howned,
    onlyRegs_trans (onlyRegs_mono (by decide) (onlyRegs_renewLease m s)) (offered_onlyRegs a _)⟩

theorem offer_withdrawn (hrelease : bit data 33 = false) (hmay : mayClaim s a = true) (heq : a = m) :
    ∃ t, exec c s = .next t ∧ t.fld OWN_HANDOVER_PENDING = 0 ∧ t.owner = m ∧ t.owned = true ∧ onlyRegs [leaseKey, OWN_HANDOVER_PENDING.off] s t := by
  subst heq
  obtain ⟨howned, howner⟩ := owner_renewed howns
  have hexec : exec c s = .next (withdrawn a (renewLease a s)) := by
    rw [handover_write hadm hc, hrelease, if_neg Bool.false_ne_true, offer_effect hdata, if_pos ((mayClaim_renewLease a a s).trans hmay),
      if_pos ((renewLease_isOwner a a s).trans howns)]
    rfl
  exact ⟨_, hexec, clearHandover_pending _, (owner_congr (withdrawn_apart a _ OWN_STATUS_OWNER)).trans howner,
    (owned_congr (withdrawn_apart a _ OWN_STATUS_OWNED)).trans howned,
    onlyRegs_trans (onlyRegs_mono (by decide) (onlyRegs_renewLease a s)) (withdrawn_onlyRegs a _)⟩

omit howns in
theorem offer_to_no_claimant (hrelease : bit data 33 = false) (hmay : mayClaim s a = false) : ∃ t, exec c s = .next t ∧ onlyRegs [leaseKey] s t := by
  have hexec : exec c s = .next (renewLease m s) := by
    rw [handover_write hadm hc, hrelease, if_neg Bool.false_ne_true, offer_effect hdata,
      if_neg (ne_true_of_eq_false ((mayClaim_renewLease m a s).trans hmay))]
  exact ⟨_, hexec, onlyRegs_renewLease m s⟩

end owner

/-- The offer of a write leaves the owner the owner, and its counts. -/
theorem offer_keeps (m : Ident) (s : State) (hdata : bits data 0 32 = a.toNat) :
    (offerEffect .full data (renewLease m s)).fld OWN_STATUS_OWNED = (renewLease m s).fld OWN_STATUS_OWNED ∧
    (offerEffect .full data (renewLease m s)).fld OWN_CHANGES_CHANGES = s.fld OWN_CHANGES_CHANGES ∧
    onlyRegs [leaseKey, OWN_HANDOVER_PENDING.off] s (offerEffect .full data (renewLease m s)) := by
  have hlease : (renewLease m s).fld OWN_CHANGES_CHANGES = s.fld OWN_CHANGES_CHANGES := fld_renewLease_above m s (by decide) 0
  have honly : onlyRegs [leaseKey, OWN_HANDOVER_PENDING.off] s (renewLease m s) := onlyRegs_mono (by decide) (onlyRegs_renewLease m s)
  rw [offer_effect hdata]
  split
  · split
    · exact ⟨withdrawn_apart a _ OWN_STATUS_OWNED, (withdrawn_apart a _ OWN_CHANGES_CHANGES).trans hlease, onlyRegs_trans honly (withdrawn_onlyRegs a _)⟩
    · exact ⟨offered_apart a _ OWN_STATUS_OWNED, (offered_apart a _ OWN_CHANGES_CHANGES).trans hlease, onlyRegs_trans honly (offered_onlyRegs a _)⟩
  · exact ⟨rfl, hlease, honly⟩

/-- The state in which the owner has gone, before its event. -/
def vacated (s : State) : State := ownerMark none ((clearHandover s).setFld OWN_STATUS_LEASE_LEFT_MS 0)

theorem vacate_eq (h : s.owned = true) : vacate s = raise 0x010 0 (vacated s) := by
  unfold vacate
  rw [if_pos h, setOwner_eq]
  rfl

theorem vacated_owned (s : State) : (vacated s).owned = false := on_of_zero (ownerMark_owned none _)
theorem vacated_owner (s : State) : (vacated s).fld OWN_STATUS_OWNER = 0 := ownerMark_owner none _

theorem vacated_pending (s : State) : (vacated s).fld OWN_HANDOVER_PENDING = 0 :=
  (ownerMark_apart none _ OWN_HANDOVER_PENDING).trans
    ((fld_setFld_apart _ OWN_STATUS_LEASE_LEFT_MS OWN_HANDOVER_PENDING 0).trans (clearHandover_pending s))

theorem vacated_changes (s : State) : (vacated s).fld OWN_CHANGES_CHANGES = (s.fld OWN_CHANGES_CHANGES + 1) % 2 ^ 32 := by
  unfold vacated
  rw [ownerMark_changes, fld_setFld_apart _ OWN_STATUS_LEASE_LEFT_MS OWN_CHANGES_CHANGES, clearHandover_apart s OWN_CHANGES_CHANGES]

theorem vacated_onlyRegs (s : State) : onlyRegs [leaseKey, OWN_HANDOVER_PENDING.off, OWN_CHANGES_CHANGES.off] s (vacated s) :=
  onlyRegs_trans (onlyRegs_after_setFld OWN_STATUS_LEASE_LEFT_MS 0 0 0 0 (onlyRegs_mono (by decide) (clearHandover_onlyRegs s)) (by decide))
    (onlyRegs_mono (by decide) (ownerMark_onlyRegs none _))

theorem release_made {c : Instr} (hadm : s.admits m .OWN_HANDOVER []) (howns : s.isOwner m = true)
    (hc : c ∈ [Instr.handoverOffer m .full data, .ownerRelease m .full data]) (hdata : bits data 0 32 = a.toNat) (hrelease : bit data 33 = true) :
    ∃ u, exec c s = .next (raise 0x010 0 u) ∧ u.owned = false ∧ u.fld OWN_STATUS_OWNER = 0 ∧ u.fld OWN_HANDOVER_PENDING = 0 ∧
      u.fld OWN_CHANGES_CHANGES = (s.fld OWN_CHANGES_CHANGES + 1) % 2 ^ 32 ∧
      onlyRegs [leaseKey, OWN_HANDOVER_PENDING.off, OWN_CHANGES_CHANGES.off] s u := by
  obtain ⟨howned, hchanges, honly⟩ := offer_keeps m s hdata
  have hown : (offerEffect .full data (renewLease m s)).owned = true := (owned_congr howned).trans (owner_renewed howns).1
  have hexec : exec c s = .next (raise 0x010 0 (vacated (offerEffect .full data (renewLease m s)))) := by
    rw [handover_write hadm hc, hrelease, if_pos rfl, vacate_eq hown]
  exact ⟨_, hexec, vacated_owned _, vacated_owner _, vacated_pending _, (vacated_changes _).trans (by rw [hchanges]),
    onlyRegs_trans (onlyRegs_mono (by decide) honly) (vacated_onlyRegs _)⟩

/-! ### The end of the lease (R604) -/

/-- The state in which the lease has run out, before the owner goes. -/
def leaseOver (s : State) : State := ((raise 0x011 s.owner.toNat s).setFld OWN_STATUS_EXPIRED 1).addFld OWN_CHANGES_EXPIRIES 1

theorem leaseOver_apart (s : State) (G : Field) (hk : G.key 0 0 0 < 0x200000 := by decide)
    (h : G.apart OWN_STATUS_EXPIRED (G.key 0 0 0) (OWN_STATUS_EXPIRED.key 0 0 0) ∧ G.apart OWN_CHANGES_EXPIRIES (G.key 0 0 0) (OWN_CHANGES_EXPIRIES.key 0 0 0) := by
      unfold Field.apart; decide) : (leaseOver s).fld G = s.fld G := by
  unfold leaseOver State.addFld
  rw [fld_setFld_apart _ OWN_CHANGES_EXPIRIES G _ h.2, fld_setFld_apart _ OWN_STATUS_EXPIRED G _ h.1, fld_raise_low (by decide) _ s G hk]

theorem leaseOver_expired (s : State) : (leaseOver s).fld OWN_STATUS_EXPIRED = 1 := by
  unfold leaseOver State.addFld
  rw [fld_setFld_apart _ OWN_CHANGES_EXPIRIES OWN_STATUS_EXPIRED]
  exact fld_setFld_fits _ OWN_STATUS_EXPIRED 0 0 0 (by decide)

theorem leaseOver_expiries (s : State) : (leaseOver s).fld OWN_CHANGES_EXPIRIES = (s.fld OWN_CHANGES_EXPIRIES + 1) % 2 ^ 32 := by
  unfold leaseOver
  rw [fld_addFld _ OWN_CHANGES_EXPIRIES 1 0 0 0, fld_setFld_apart _ OWN_STATUS_EXPIRED OWN_CHANGES_EXPIRIES,
    fld_raise_low (by decide) _ s OWN_CHANGES_EXPIRIES (by decide)]
  rfl

theorem leaseOver_mem (s : State) : (leaseOver s).mem = s.mem :=
  raise_mem (show sourceRange 0x011 = some ⟨0x010, 0x011, 1, false, false⟩ by decide) rfl (by decide) _ s

theorem vacated_apart (s : State) (G : Field)
    (h : G.apart OWN_STATUS_HANDOVER (G.key 0 0 0) (OWN_STATUS_HANDOVER.key 0 0 0) ∧ G.apart OWN_HANDOVER_PENDING (G.key 0 0 0) (OWN_HANDOVER_PENDING.key 0 0 0) :=
      by unfold Field.apart; decide)
    (hlease : G.apart OWN_STATUS_LEASE_LEFT_MS (G.key 0 0 0) (OWN_STATUS_LEASE_LEFT_MS.key 0 0 0) := by unfold Field.apart; decide)
    (howner : G.apart OWN_STATUS_OWNER (G.key 0 0 0) (OWN_STATUS_OWNER.key 0 0 0) ∧ G.apart OWN_STATUS_OWNED (G.key 0 0 0) (OWN_STATUS_OWNED.key 0 0 0) ∧
      G.apart OWN_CHANGES_CHANGES (G.key 0 0 0) (OWN_CHANGES_CHANGES.key 0 0 0) := by unfold Field.apart; decide) :
    (vacated s).fld G = s.fld G :=
  (ownerMark_apart none _ G howner).trans ((fld_setFld_apart _ OWN_STATUS_LEASE_LEFT_MS G 0 hlease).trans (clearHandover_apart s G h))

theorem lease_ends (hown : s.owned = true) (hlease : s.on OWN_LEASE_LEASE_MS = true) :
    ∃ t, exec .leaseExpire s = .next t ∧ t.owned = false ∧ t.fld OWN_STATUS_OWNER = 0 ∧ t.fld OWN_STATUS_EXPIRED = 1 ∧
      t.fld OWN_HANDOVER_PENDING = 0 ∧ t.fld OWN_CHANGES_EXPIRIES = (s.fld OWN_CHANGES_EXPIRIES + 1) % 2 ^ 32 ∧
      t.fld OWN_CHANGES_CHANGES = (s.fld OWN_CHANGES_CHANGES + 1) % 2 ^ 32 ∧ t.mem = s.mem := by
  have hown' : (leaseOver s).owned = true := (owned_congr (leaseOver_apart s OWN_STATUS_OWNED)).trans hown
  have hexec : exec .leaseExpire s = .next (raise 0x010 0 (vacated (leaseOver s))) := by
    rw [exec_leaseExpire, execLeaseExpire, if_pos ⟨hown, hlease⟩]
    exact congrArg Host.Outcome.next (vacate_eq hown')
  have hlow (G : Field) (hk : G.key 0 0 0 < 0x200000) : (raise 0x010 0 (vacated (leaseOver s))).fld G = (vacated (leaseOver s)).fld G :=
    fld_raise_low (by decide) 0 _ G hk
  refine ⟨_, hexec, (owned_congr (hlow OWN_STATUS_OWNED (by decide))).trans (vacated_owned _), (hlow OWN_STATUS_OWNER (by decide)).trans (vacated_owner _),
    (hlow OWN_STATUS_EXPIRED (by decide)).trans ((vacated_apart _ OWN_STATUS_EXPIRED).trans (leaseOver_expired s)),
    (hlow OWN_HANDOVER_PENDING (by decide)).trans (vacated_pending _),
    (hlow OWN_CHANGES_EXPIRIES (by decide)).trans ((vacated_apart _ OWN_CHANGES_EXPIRIES).trans (leaseOver_expiries s)),
    (hlow OWN_CHANGES_CHANGES (by decide)).trans ((vacated_changes _).trans (by rw [leaseOver_apart s OWN_CHANGES_CHANGES])), ?_⟩
  exact (raise_mem (show sourceRange 0x010 = some ⟨0x010, 0x011, 1, false, false⟩ by decide) rfl (by decide) 0 _).trans
    ((onlyRegs_mem (vacated_onlyRegs _)).trans (leaseOver_mem s))

theorem lease_unlimited (hlease : s.fld OWN_LEASE_LEASE_MS = 0) : exec .leaseExpire s = .next s := by
  rw [exec_leaseExpire, execLeaseExpire, if_neg (fun h => ne_true_of_eq_false (on_of_zero hlease) h.2)]


/-! ### Mailboxes (R606 to R613) -/

section mailbox

variable {b n : Nat} {ws : List Word}

/-- The words of a slot lie in the first half of their mailbox's registers. -/
def slotKey (b k : Nat) : Nat := MBX_m_Wk_WORD.key b k 0

theorem putSlot_eq (b : Nat) (ws : List Word) (s : State) : putSlot b ws s = fillRegs (slotKey b) (fun k => ws.getD k 0) 8 s := rfl

theorem slotKey_inj (b i j : Nat) (h : slotKey b i = slotKey b j) : i = j := by
  simp only [slotKey, Field.key, MBX_m_Wk_WORD] at h
  omega

theorem putSlot_word {k : Nat} (hk : k < 8) : (putSlot b ws s).reg (MBX_m_Wk_WORD.key b k 0) = ws.getD k 0 := reg_fillRegs (slotKey_inj b) hk

theorem putSlot_other {k : Nat} (hk : ∀ j < 8, k ≠ slotKey b j) : (putSlot b ws s).reg k = s.reg k := reg_fillRegs_other hk

/-- The registers of mailbox `b` behind its slot. -/
theorem putSlot_fld (F : Field) (hF : 0x700040 ≤ F.off ∧ F.off < 0x700080 ∧ F.s1 = 0x80 := by decide) : (putSlot b ws s).fld F b = s.fld F b := by
  obtain ⟨hlo, hhi, hs⟩ := hF
  refine fld_congr F b 0 0 (putSlot_other fun j hj => ?_)
  simp only [slotKey, Field.key, MBX_m_Wk_WORD, hs]
  omega

theorem putSlot_onlyRegs (b : Nat) (ws : List Word) (s : State) :
    onlyRegs ((List.range 8).map (fun k => MBX_m_Wk_WORD.key b k 0)) s (putSlot b ws s) := by
  refine ⟨fillRegs_rest (key := slotKey b), fun k hk => putSlot_other fun j hj h => hk ?_⟩
  rw [h]
  exact List.mem_map.mpr ⟨j, List.mem_range.mpr hj, rfl⟩

/-- A field of mailbox `b` keeps its value when another of its fields is written. -/
theorem fld_mailbox_apart (s : State) (F G : Field) (v b : Nat)
    (h : G.off ≠ F.off ∨ G.lo + G.w ≤ F.lo ∨ F.lo + F.w ≤ G.lo := by decide) (hs : G.s1 = F.s1 := by decide)
    (hF : F.good := by unfold Field.good; decide) : (s.setFld F v b).fld G b = s.fld G b := by
  refine fld_setFld_other s F G v b 0 0 b 0 0 hF ?_
  rcases h with h | h
  · exact .inl (by simp only [Field.key, hs]; omega)
  · exact .inr h

/-- A slot's flags when a message comes: FULL, and COLLISION and the count of the lost where it was full. -/
def slotTaken (b : Nat) (s : State) : State :=
  if s.on MBX_m_STATUS_FULL b then (s.setFld MBX_m_STATUS_COLLISION 1 b).addFld MBX_m_OVER_OVERWRITTEN 1 b else s.setFld MBX_m_STATUS_FULL 1 b

/-- The state in which a mailbox holds a message. -/
def messageStored (m : Ident) (b : Nat) (ws : List Word) (s : State) : State :=
  let s := (putSlot b ws (slotTaken b s)).addFld MBX_m_COUNT_SENT 1 b
  (s.setFld MBX_m_STATUS_SEQ (s.fld MBX_m_COUNT_SENT b) b).setFld MBX_m_OVER_LAST_SENDER m.toNat b

theorem acceptMessage_eq (m : Ident) (b : Nat) (ws : List Word) (s : State) : acceptMessage m b ws s =
    if (messageStored m b ws s).on MBX_m_CFG_DB_EN b ∧ (messageStored m b ws s).fld MBX_m_CFG_DB_TARGET b < 72 then
      ringDoorbell ((messageStored m b ws s).fld MBX_m_CFG_DB_TARGET b) ((messageStored m b ws s).fld MBX_m_CFG_DB_BIT b) (messageStored m b ws s)
    else messageStored m b ws s := rfl

theorem full_bit (b : Nat) (s : State) : s.fld MBX_m_STATUS_FULL b = 0 ∨ s.fld MBX_m_STATUS_FULL b = 1 := by
  have hlt : s.fld MBX_m_STATUS_FULL b < 2 ^ 1 := bits_lt _ _ _
  omega

theorem slotTaken_full (b : Nat) (s : State) : (slotTaken b s).fld MBX_m_STATUS_FULL b = 1 := by
  unfold slotTaken State.addFld
  rcases full_bit b s with h | h
  · rw [if_neg (ne_true_of_eq_false (on_of_zero h))]
    exact fld_setFld_fits s MBX_m_STATUS_FULL b 0 0 (by decide)
  · rw [if_pos (on_of_one h), fld_mailbox_apart _ MBX_m_OVER_OVERWRITTEN MBX_m_STATUS_FULL, fld_mailbox_apart s MBX_m_STATUS_COLLISION MBX_m_STATUS_FULL]
    exact h

theorem slotTaken_overwritten (b : Nat) (s : State) : (slotTaken b s).fld MBX_m_OVER_OVERWRITTEN b =
    (s.fld MBX_m_OVER_OVERWRITTEN b + s.fld MBX_m_STATUS_FULL b) % 2 ^ 32 := by
  have hlt : s.fld MBX_m_OVER_OVERWRITTEN b < 2 ^ 32 := bits_lt _ _ _
  unfold slotTaken
  rcases full_bit b s with h | h
  · rw [if_neg (ne_true_of_eq_false (on_of_zero h)), fld_mailbox_apart s MBX_m_STATUS_FULL MBX_m_OVER_OVERWRITTEN, h, Nat.add_zero, Nat.mod_eq_of_lt hlt]
  · rw [if_pos (on_of_one h), fld_addFld _ MBX_m_OVER_OVERWRITTEN 1 b 0 0, fld_mailbox_apart s MBX_m_STATUS_COLLISION MBX_m_OVER_OVERWRITTEN, h]
    rfl

theorem slotTaken_collision (h : s.fld MBX_m_STATUS_FULL b = 1) : (slotTaken b s).fld MBX_m_STATUS_COLLISION b = 1 := by
  unfold slotTaken State.addFld
  rw [if_pos (on_of_one h), fld_mailbox_apart _ MBX_m_OVER_OVERWRITTEN MBX_m_STATUS_COLLISION]
  exact fld_setFld_fits s MBX_m_STATUS_COLLISION b 0 0 (by decide)

theorem slotTaken_onlyRegs (b : Nat) (s : State) : onlyRegs [MBX_m_STATUS_FULL.key b 0 0, MBX_m_OVER_OVERWRITTEN.key b 0 0] s (slotTaken b s) := by
  unfold slotTaken
  split
  · exact onlyRegs_after_setFld MBX_m_OVER_OVERWRITTEN _ b 0 0
      (onlyRegs_mono (by simp [Field.key, MBX_m_STATUS_COLLISION, MBX_m_STATUS_FULL]) (onlyRegs_setFld s MBX_m_STATUS_COLLISION 1 b 0 0)) (by simp)
  · exact onlyRegs_mono (by simp) (onlyRegs_setFld s MBX_m_STATUS_FULL 1 b 0 0)

/-- The fields of a mailbox that no message changes. -/
theorem slotTaken_apart (b : Nat) (s : State) (G : Field)
    (h : G.off ≠ MBX_m_STATUS_FULL.off ∧ G.off ≠ MBX_m_OVER_OVERWRITTEN.off ∧ G.s1 = 0x80 := by decide) :
    (slotTaken b s).fld G b = s.fld G b := by
  obtain ⟨hstatus, hover, hs⟩ := h
  refine fld_congr G b 0 0 ((slotTaken_onlyRegs b s).2 _ ?_)
  simp only [Field.key, MBX_m_STATUS_FULL, MBX_m_OVER_OVERWRITTEN, hs, List.mem_cons, List.not_mem_nil, or_false] at hstatus hover ⊢
  omega

theorem messageStored_full (m : Ident) (b : Nat) (ws : List Word) (s : State) : (messageStored m b ws s).fld MBX_m_STATUS_FULL b = 1 := by
  unfold messageStored State.addFld
  dsimp only
  rw [fld_mailbox_apart _ MBX_m_OVER_LAST_SENDER MBX_m_STATUS_FULL, fld_mailbox_apart _ MBX_m_STATUS_SEQ MBX_m_STATUS_FULL,
    fld_mailbox_apart _ MBX_m_COUNT_SENT MBX_m_STATUS_FULL, putSlot_fld MBX_m_STATUS_FULL, slotTaken_full]

theorem messageStored_collision (h : s.fld MBX_m_STATUS_FULL b = 1) : (messageStored m b ws s).fld MBX_m_STATUS_COLLISION b = 1 := by
  unfold messageStored State.addFld
  dsimp only
  rw [fld_mailbox_apart _ MBX_m_OVER_LAST_SENDER MBX_m_STATUS_COLLISION, fld_mailbox_apart _ MBX_m_STATUS_SEQ MBX_m_STATUS_COLLISION,
    fld_mailbox_apart _ MBX_m_COUNT_SENT MBX_m_STATUS_COLLISION, putSlot_fld MBX_m_STATUS_COLLISION, slotTaken_collision h]

theorem messageStored_sent (m : Ident) (b : Nat) (ws : List Word) (s : State) :
    (messageStored m b ws s).fld MBX_m_COUNT_SENT b = (s.fld MBX_m_COUNT_SENT b + 1) % 2 ^ 32 := by
  unfold messageStored
  dsimp only
  rw [fld_mailbox_apart _ MBX_m_OVER_LAST_SENDER MBX_m_COUNT_SENT, fld_mailbox_apart _ MBX_m_STATUS_SEQ MBX_m_COUNT_SENT,
    fld_addFld _ MBX_m_COUNT_SENT 1 b 0 0, putSlot_fld MBX_m_COUNT_SENT, slotTaken_apart b s MBX_m_COUNT_SENT]
  rfl

theorem messageStored_seq (m : Ident) (b : Nat) (ws : List Word) (s : State) :
    (messageStored m b ws s).fld MBX_m_STATUS_SEQ b = (messageStored m b ws s).fld MBX_m_COUNT_SENT b := by
  unfold messageStored
  dsimp only
  rw [fld_mailbox_apart _ MBX_m_OVER_LAST_SENDER MBX_m_COUNT_SENT, fld_mailbox_apart _ MBX_m_STATUS_SEQ MBX_m_COUNT_SENT,
    fld_mailbox_apart _ MBX_m_OVER_LAST_SENDER MBX_m_STATUS_SEQ]
  exact fld_setFld_fits _ MBX_m_STATUS_SEQ b 0 0 (bits_lt _ _ _)

theorem messageStored_sender (m : Ident) (b : Nat) (ws : List Word) (s : State) : (messageStored m b ws s).fld MBX_m_OVER_LAST_SENDER b = m.toNat :=
  fld_setFld_fits _ MBX_m_OVER_LAST_SENDER b 0 0 m.isLt

theorem messageStored_overwritten (m : Ident) (b : Nat) (ws : List Word) (s : State) : (messageStored m b ws s).fld MBX_m_OVER_OVERWRITTEN b =
    (s.fld MBX_m_OVER_OVERWRITTEN b + s.fld MBX_m_STATUS_FULL b) % 2 ^ 32 := by
  unfold messageStored State.addFld
  dsimp only
  rw [fld_mailbox_apart _ MBX_m_OVER_LAST_SENDER MBX_m_OVER_OVERWRITTEN, fld_mailbox_apart _ MBX_m_STATUS_SEQ MBX_m_OVER_OVERWRITTEN,
    fld_mailbox_apart _ MBX_m_COUNT_SENT MBX_m_OVER_OVERWRITTEN, putSlot_fld MBX_m_OVER_OVERWRITTEN, slotTaken_overwritten]

theorem messageStored_taken (m : Ident) (b : Nat) (ws : List Word) (s : State) :
    (messageStored m b ws s).fld MBX_m_COUNT_TAKEN b = s.fld MBX_m_COUNT_TAKEN b := by
  unfold messageStored State.addFld
  dsimp only
  rw [fld_mailbox_apart _ MBX_m_OVER_LAST_SENDER MBX_m_COUNT_TAKEN, fld_mailbox_apart _ MBX_m_STATUS_SEQ MBX_m_COUNT_TAKEN,
    fld_mailbox_apart _ MBX_m_COUNT_SENT MBX_m_COUNT_TAKEN, putSlot_fld MBX_m_COUNT_TAKEN, slotTaken_apart b s MBX_m_COUNT_TAKEN]

theorem messageStored_onlyRegs (m : Ident) (b : Nat) (ws : List Word) (s : State) :
    onlyRegs ([leaseKey, MBX_m_STATUS_FULL.key b 0 0, MBX_m_COUNT_SENT.key b 0 0, MBX_m_OVER_OVERWRITTEN.key b 0 0] ++
      (List.range 8).map (fun k => MBX_m_Wk_WORD.key b k 0)) s (messageStored m b ws s) := by
  have htaken := onlyRegs_mono (l' := [leaseKey, MBX_m_STATUS_FULL.key b 0 0, MBX_m_COUNT_SENT.key b 0 0, MBX_m_OVER_OVERWRITTEN.key b 0 0] ++
    (List.range 8).map (fun k => MBX_m_Wk_WORD.key b k 0)) (by simp) (slotTaken_onlyRegs b s)
  refine onlyRegs_after_setFld MBX_m_OVER_LAST_SENDER _ b 0 0 (onlyRegs_after_setFld MBX_m_STATUS_SEQ _ b 0 0
    (onlyRegs_after_setFld MBX_m_COUNT_SENT _ b 0 0 (onlyRegs_trans htaken (onlyRegs_mono ?_ (putSlot_onlyRegs b ws _))) ?_) ?_) ?_
  · exact fun k hk => List.mem_append_right _ hk
  · exact List.mem_append_left _ (.tail _ (.tail _ (.head _)))
  · exact List.mem_append_left _ (.tail _ (.head _))
  · exact List.mem_append_left _ (.tail _ (.tail _ (.tail _ (.head _))))

theorem messageStored_word (m : Ident) (b : Nat) (ws : List Word) (s : State) {k : Nat} (hk : k < 8) :
    (messageStored m b ws s).reg (MBX_m_Wk_WORD.key b k 0) = ws.getD k 0 := by
  have hkey (F : Field) (hF : 0x700040 ≤ F.off ∧ F.off < 0x700080 ∧ F.s1 = 0x80) : MBX_m_Wk_WORD.key b k 0 ≠ F.key b 0 0 := by
    obtain ⟨hlo, hhi, hs⟩ := hF
    simp only [Field.key, MBX_m_Wk_WORD, hs]
    omega
  exact (reg_setReg_other _ _ (hkey MBX_m_OVER_LAST_SENDER (by decide))).trans ((reg_setReg_other _ _ (hkey MBX_m_STATUS_SEQ (by decide))).trans
    ((reg_setReg_other _ _ (hkey MBX_m_COUNT_SENT (by decide))).trans (putSlot_word hk)))

/-- The fields of a mailbox's configuration. -/
theorem messageStored_cfg (m : Ident) (b : Nat) (ws : List Word) (s : State) (G : Field) (h : G.off = 0x700050 ∧ G.s1 = 0x80 := by decide) :
    (messageStored m b ws s).fld G b = s.fld G b := by
  obtain ⟨hoff, hs⟩ := h
  refine fld_congr G b 0 0 ((messageStored_onlyRegs m b ws s).2 _ ?_)
  simp only [Field.key, hoff, hs, leaseKey, OWN_STATUS_LEASE_LEFT_MS, MBX_m_STATUS_FULL, MBX_m_COUNT_SENT, MBX_m_OVER_OVERWRITTEN, MBX_m_Wk_WORD,
    List.mem_append, List.mem_cons, List.not_mem_nil, or_false, List.mem_map, List.mem_range, not_or, not_exists, not_and]
  exact ⟨⟨by omega, by omega, by omega, by omega⟩, fun j hj => by omega⟩

/-- A message keeps the balance of the counts. -/
theorem messageStored_balanced (h : mailboxBalanced b s = true) : mailboxBalanced b (messageStored m b ws s) = true := by
  unfold mailboxBalanced at h ⊢
  rw [decide_eq_true_eq] at h ⊢
  rw [messageStored_sent, messageStored_taken, messageStored_overwritten, messageStored_full, h]
  omega

/-- A message to a mailbox that rings no doorbell is stored. -/
theorem send_quiet (hmatch : identMatches m (s.fld MBX_m_SENDERS_MATCH b) (s.fld MBX_m_SENDERS_MASK b) = true) (hen : s.fld MBX_m_CFG_DB_EN b = 0)
    (off : Nat) : sendMessage m b off ws s = messageStored m b ws s := by
  unfold sendMessage
  rw [if_pos hmatch, acceptMessage_eq, if_neg fun h => ne_true_of_eq_false (on_of_zero ((messageStored_cfg m b ws s MBX_m_CFG_DB_EN).trans hen)) h.1]

theorem send_rings (hmatch : identMatches m (s.fld MBX_m_SENDERS_MATCH b) (s.fld MBX_m_SENDERS_MASK b) = true) (hen : s.fld MBX_m_CFG_DB_EN b = 1)
    (htarget : s.fld MBX_m_CFG_DB_TARGET b < 72) (off : Nat) :
    sendMessage m b off ws s = ringDoorbell (s.fld MBX_m_CFG_DB_TARGET b) (s.fld MBX_m_CFG_DB_BIT b) (messageStored m b ws s) := by
  have hen' := (messageStored_cfg m b ws s MBX_m_CFG_DB_EN).trans hen
  unfold sendMessage
  rw [if_pos hmatch, acceptMessage_eq, messageStored_cfg m b ws s MBX_m_CFG_DB_TARGET, messageStored_cfg m b ws s MBX_m_CFG_DB_BIT,
    if_pos ⟨on_of_one hen', htarget⟩]

/-- A doorbell that is rung has its bit pending. -/
theorem rung {r i : Nat} (hi : i < 32) (s : State) : (ringDoorbell r i s).fbit MBX_DBr_PENDING i r = true := by
  have hset : (s.setFbit MBX_DBr_PENDING i true r).fbit MBX_DBr_PENDING i r = true := fbit_setFbit_same s true r 0 0 (by decide) hi
  unfold ringDoorbell doorbellEvent
  split
  next h =>
    have hevent (u : State) : raise (0x104 + r) 0 u = routeSource (0x104 + r) u := by
      have hrange : sourceRange (0x104 + r) = some ⟨0x104, 0x10B, 1, true, true⟩ := by
        obtain ⟨hr, -⟩ := h
        interval_cases r <;> decide
      unfold raise raiseFrom
      rw [hrange]
      rfl
    have hkeep : (routeSource (0x104 + r) (s.setFbit MBX_DBr_PENDING i true r)).reg (MBX_DBr_PENDING.key r 0 0) =
        (s.setFbit MBX_DBr_PENDING i true r).reg (MBX_DBr_PENDING.key r 0 0) := by
      refine (routeSource_onlySends _ _).2 _ ?_
      simp only [routeKeys, vectorKeys, pbaKey, Field.key, FLT_VECf_RAISED_RAISED, MBX_DBr_PENDING, List.mem_append, List.mem_cons, List.not_mem_nil, or_false]
      omega
    rw [hevent]
    unfold State.fbit at hset ⊢
    rw [fld_congr MBX_DBr_PENDING r 0 0 hkeep]
    exact hset
  next => exact hset

theorem fld_renewLease_mailbox (m : Ident) (s : State) (F : Field) (i : Nat) (hF : leaseKey < F.off := by decide) : (renewLease m s).fld F i = s.fld F i :=
  fld_renewLease_above m s hF i

theorem balanced_renewLease (m : Ident) (b : Nat) (s : State) : mailboxBalanced b (renewLease m s) = mailboxBalanced b s := by
  unfold mailboxBalanced
  rw [fld_renewLease_mailbox m s MBX_m_COUNT_SENT, fld_renewLease_mailbox m s MBX_m_COUNT_TAKEN, fld_renewLease_mailbox m s MBX_m_OVER_OVERWRITTEN,
    fld_renewLease_mailbox m s MBX_m_STATUS_FULL]

end mailbox


theorem slot_write {b : Fin 256} {first : Nat} {ws : List Word} (hdark : s.dark = false) (hopen : s.blockOpen (MBX_m_Wk_WORD.key b first 0) = true) :
    exec (.mailboxSend m b first ws) s = .next (slotWriteEffect m b first ws (renewLease m s)) := by
  rw [exec_mailboxSend, execMailboxSend]
  unfold writeFront
  rw [if_neg (ne_true_of_eq_false hdark)]
  dsimp only
  rw [if_neg (by rw [renewLease_blockOpen, hopen]; simp)]

theorem slot_write_whole {b : Fin 256} {ws : List Word} (hdark : s.dark = false) (hopen : s.blockOpen (MBX_m_Wk_WORD.key b 0 0) = true) (hlen : ws.length = 8) :
    exec (.mailboxSend m b 0 ws) s = .next (sendMessage m b (MBX_m_Wk_WORD.key b 0 0) ws (renewLease m s)) := by
  rw [slot_write hdark hopen]
  unfold slotWriteEffect
  rw [if_pos ⟨rfl, hlen⟩]

theorem senders_renewLease (m : Ident) (b : Nat) (s : State) :
    identMatches m ((renewLease m s).fld MBX_m_SENDERS_MATCH b) ((renewLease m s).fld MBX_m_SENDERS_MASK b) =
      identMatches m (s.fld MBX_m_SENDERS_MATCH b) (s.fld MBX_m_SENDERS_MASK b) := by
  rw [fld_renewLease_mailbox m s MBX_m_SENDERS_MATCH, fld_renewLease_mailbox m s MBX_m_SENDERS_MASK]

theorem message_sent {b : Fin 256} {ws : List Word} (hdark : s.dark = false) (hopen : s.blockOpen (MBX_m_Wk_WORD.key b 0 0) = true) (hlen : ws.length = 8)
    (hmatch : identMatches m (s.fld MBX_m_SENDERS_MATCH b) (s.fld MBX_m_SENDERS_MASK b) = true) (hen : s.fld MBX_m_CFG_DB_EN b = 0) :
    ∃ t, exec (.mailboxSend m b 0 ws) s = .next t ∧ (∀ k, k < 8 → t.reg (MBX_m_Wk_WORD.key b k 0) = ws.getD k 0) ∧
      t.fld MBX_m_STATUS_FULL b = 1 ∧ t.fld MBX_m_COUNT_SENT b = (s.fld MBX_m_COUNT_SENT b + 1) % 2 ^ 32 ∧
      t.fld MBX_m_STATUS_SEQ b = t.fld MBX_m_COUNT_SENT b ∧ t.fld MBX_m_OVER_LAST_SENDER b = m.toNat ∧
      t.fld MBX_m_OVER_OVERWRITTEN b = (s.fld MBX_m_OVER_OVERWRITTEN b + s.fld MBX_m_STATUS_FULL b) % 2 ^ 32 ∧
      (s.fld MBX_m_STATUS_FULL b = 1 → t.fld MBX_m_STATUS_COLLISION b = 1) ∧
      (mailboxBalanced b s = true → mailboxBalanced b t = true) ∧
      onlyRegs ([leaseKey, MBX_m_STATUS_FULL.key b 0 0, MBX_m_COUNT_SENT.key b 0 0, MBX_m_OVER_OVERWRITTEN.key b 0 0] ++
        (List.range 8).map (fun k => MBX_m_Wk_WORD.key b k 0)) s t := by
  have hexec : exec (.mailboxSend m b 0 ws) s = .next (messageStored m b ws (renewLease m s)) := by
    rw [slot_write_whole hdark hopen hlen, send_quiet ((senders_renewLease m b s).trans hmatch) ((fld_renewLease_mailbox m s MBX_m_CFG_DB_EN b).trans hen)]
  refine ⟨_, hexec, fun k hk => messageStored_word m b ws _ hk, messageStored_full m b ws _, ?_, messageStored_seq m b ws _, messageStored_sender m b ws _, ?_,
    fun h => messageStored_collision ((fld_renewLease_mailbox m s MBX_m_STATUS_FULL b).trans h),
    fun h => messageStored_balanced ((balanced_renewLease m b s).trans h), onlyRegs_trans (onlyRegs_mono (by simp) (onlyRegs_renewLease m s)) (messageStored_onlyRegs m b ws _)⟩
  · rw [messageStored_sent, fld_renewLease_mailbox m s MBX_m_COUNT_SENT]
  · rw [messageStored_overwritten, fld_renewLease_mailbox m s MBX_m_OVER_OVERWRITTEN, fld_renewLease_mailbox m s MBX_m_STATUS_FULL]

theorem message_rings {b : Fin 256} {ws : List Word} (hdark : s.dark = false) (hopen : s.blockOpen (MBX_m_Wk_WORD.key b 0 0) = true) (hlen : ws.length = 8)
    (hmatch : identMatches m (s.fld MBX_m_SENDERS_MATCH b) (s.fld MBX_m_SENDERS_MASK b) = true) (hen : s.fld MBX_m_CFG_DB_EN b = 1)
    (htarget : s.fld MBX_m_CFG_DB_TARGET b < 72) :
    ∃ t, exec (.mailboxSend m b 0 ws) s = .next t ∧ t.fbit MBX_DBr_PENDING (s.fld MBX_m_CFG_DB_BIT b) (s.fld MBX_m_CFG_DB_TARGET b) = true := by
  have hcfg : (renewLease m s).fld MBX_m_CFG_DB_TARGET b = s.fld MBX_m_CFG_DB_TARGET b := fld_renewLease_mailbox m s MBX_m_CFG_DB_TARGET b
  have hexec : exec (.mailboxSend m b 0 ws) s =
      .next (ringDoorbell (s.fld MBX_m_CFG_DB_TARGET b) (s.fld MBX_m_CFG_DB_BIT b) (messageStored m b ws (renewLease m s))) := by
    rw [slot_write_whole hdark hopen hlen, send_rings ((senders_renewLease m b s).trans hmatch) ((fld_renewLease_mailbox m s MBX_m_CFG_DB_EN b).trans hen)
      (by rw [hcfg]; exact htarget), hcfg, fld_renewLease_mailbox m s MBX_m_CFG_DB_BIT]
  exact ⟨_, hexec, rung (bits_lt _ 8 5) _⟩

theorem message_refused {b : Fin 256} {ws : List Word} (hdark : s.dark = false) (hopen : s.blockOpen (MBX_m_Wk_WORD.key b 0 0) = true) (hlen : ws.length = 8)
    (hmatch : identMatches m (s.fld MBX_m_SENDERS_MATCH b) (s.fld MBX_m_SENDERS_MASK b) = false) :
    exec (.mailboxSend m b 0 ws) s = .next (violation m .area true (MBX_m_Wk_WORD.key b 0 0) (renewLease m s)) := by
  rw [slot_write_whole hdark hopen hlen]
  unfold sendMessage
  rw [if_neg (ne_true_of_eq_false ((senders_renewLease m b s).trans hmatch))]

theorem message_part {b : Fin 256} {first : Nat} {ws : List Word} (hdark : s.dark = false) (hopen : s.blockOpen (MBX_m_Wk_WORD.key b first 0) = true)
    (hpart : first ≠ 0 ∨ ws.length ≠ 8) :
    exec (.mailboxSend m b first ws) s = .next (violation m .size true (MBX_m_Wk_WORD.key b first 0) (renewLease m s)) := by
  rw [slot_write hdark hopen]
  unfold slotWriteEffect
  rw [if_neg (by omega)]

/-- A master's staged message is no register of the lease. -/
theorem staged_renewLease (n k : Nat) : (renewLease m s).reg (MBX_STAGE_Wk_WORD.key k 0 0 + slotSpan * n) = s.reg (MBX_STAGE_Wk_WORD.key k 0 0 + slotSpan * n) :=
  reg_renewLease m s (by simp only [Field.key, MBX_STAGE_Wk_WORD, leaseKey, OWN_STATUS_LEASE_LEFT_MS]; omega)

theorem stagedMessage_word (n : Nat) {k : Nat} (hk : k < 8) : (stagedMessage n s).getD k 0 = s.reg (MBX_STAGE_Wk_WORD.key k 0 0 + slotSpan * n) := by
  unfold stagedMessage
  rw [List.getD_eq_getElem _ _ (by simpa using hk)]
  simp

theorem staged_sent {b n : Nat} {h : Half} (hadm : s.admits m .MBX_SEND []) (hn : slotOf m = some n) (hb : b < 256) (hh : h ≠ .high)
    (hmatch : identMatches m (s.fld MBX_m_SENDERS_MATCH b) (s.fld MBX_m_SENDERS_MASK b) = true) (hen : s.fld MBX_m_CFG_DB_EN b = 0) :
    ∃ t, exec (.mbxSend m h (BitVec.ofNat 64 b)) s = .next t ∧
      (∀ k, k < 8 → t.reg (MBX_m_Wk_WORD.key b k 0) = s.reg (MBX_STAGE_Wk_WORD.key k 0 0 + slotSpan * n)) ∧ t.fld MBX_m_STATUS_FULL b = 1 ∧
      t.fld MBX_m_COUNT_SENT b = (s.fld MBX_m_COUNT_SENT b + 1) % 2 ^ 32 ∧ t.fld MBX_m_OVER_LAST_SENDER b = m.toNat ∧
      (mailboxBalanced b s = true → mailboxBalanced b t = true) ∧ t.out = s.out := by
  have hbox : wfield h (BitVec.ofNat 64 b) MBX_SEND_MAILBOX = some b := by
    rw [wfield_low hh _ (by decide) (by decide)]
    refine congrArg some ?_
    simp only [bits, MBX_SEND_MAILBOX, BitVec.ushiftRight_zero, BitVec.toNat_ofNat]
    omega
  have hexec : exec (.mbxSend m h (BitVec.ofNat 64 b)) s =
      .next (messageStored m b (stagedMessage n (renewLease m s)) (renewLease m s)) := by
    rw [exec_mbxSend, execMbxSend, regWrite_admits hadm]
    unfold stageSendEffect
    rw [hbox, hn]
    exact congrArg Host.Outcome.next
      (send_quiet ((senders_renewLease m b s).trans hmatch) ((fld_renewLease_mailbox m s MBX_m_CFG_DB_EN b).trans hen) _)
  refine ⟨_, hexec, fun k hk => ?_, messageStored_full m b _ _, ?_, messageStored_sender m b _ _,
    fun hbal => messageStored_balanced ((balanced_renewLease m b s).trans hbal), ?_⟩
  · rw [messageStored_word m b _ _ hk, stagedMessage_word n hk, staged_renewLease]
  · rw [messageStored_sent, fld_renewLease_mailbox m s MBX_m_COUNT_SENT]
  · exact (onlyRegs_out (messageStored_onlyRegs m b _ _)).trans (renewLease_out m s)

/-! ### Taking a message (R611, R612) -/

/-- The state in which a message has been taken. -/
def messageTaken (b : Nat) (s : State) : State := (s.setFld MBX_m_STATUS_FULL 0 b).addFld MBX_m_COUNT_TAKEN 1 b

theorem messageTaken_full (b : Nat) (s : State) : (messageTaken b s).fld MBX_m_STATUS_FULL b = 0 := by
  unfold messageTaken State.addFld
  rw [fld_mailbox_apart _ MBX_m_COUNT_TAKEN MBX_m_STATUS_FULL]
  exact fld_setFld_fits s MBX_m_STATUS_FULL b 0 0 (by decide)

theorem messageTaken_count (b : Nat) (s : State) : (messageTaken b s).fld MBX_m_COUNT_TAKEN b = (s.fld MBX_m_COUNT_TAKEN b + 1) % 2 ^ 32 := by
  unfold messageTaken
  rw [fld_addFld _ MBX_m_COUNT_TAKEN 1 b 0 0, fld_mailbox_apart s MBX_m_STATUS_FULL MBX_m_COUNT_TAKEN]
  rfl

theorem messageTaken_apart (b : Nat) (s : State) (G : Field)
    (h : G.off ≠ MBX_m_COUNT_TAKEN.off ∨ G.lo + G.w ≤ MBX_m_COUNT_TAKEN.lo ∨ MBX_m_COUNT_TAKEN.lo + MBX_m_COUNT_TAKEN.w ≤ G.lo := by decide)
    (h' : G.off ≠ MBX_m_STATUS_FULL.off ∨ G.lo + G.w ≤ MBX_m_STATUS_FULL.lo ∨ MBX_m_STATUS_FULL.lo + MBX_m_STATUS_FULL.w ≤ G.lo := by decide)
    (hs : G.s1 = 0x80 := by decide) : (messageTaken b s).fld G b = s.fld G b := by
  unfold messageTaken State.addFld
  rw [fld_mailbox_apart _ MBX_m_COUNT_TAKEN G _ b h hs, fld_mailbox_apart s MBX_m_STATUS_FULL G _ b h' hs]

theorem messageTaken_onlyRegs (b : Nat) (s : State) : onlyRegs [leaseKey, MBX_m_STATUS_FULL.key b 0 0, MBX_m_COUNT_SENT.key b 0 0] s (messageTaken b s) :=
  onlyRegs_after_setFld MBX_m_COUNT_TAKEN _ b 0 0 (onlyRegs_mono (by simp) (onlyRegs_setFld s MBX_m_STATUS_FULL 0 b 0 0)) (by simp [Field.key, MBX_m_COUNT_TAKEN, MBX_m_COUNT_SENT])

theorem messageTaken_balanced {b : Nat} (hfull : s.fld MBX_m_STATUS_FULL b = 1) (h : mailboxBalanced b s = true) : mailboxBalanced b (messageTaken b s) = true := by
  unfold mailboxBalanced at h ⊢
  rw [decide_eq_true_eq] at h ⊢
  rw [messageTaken_full, messageTaken_count, messageTaken_apart b s MBX_m_COUNT_SENT, messageTaken_apart b s MBX_m_OVER_OVERWRITTEN, h, hfull]
  omega

section take

variable {b : Fin 256} {h : Half} (hadm : s.admits m .MBX_m_TAKE [b.val]) (hh : h ≠ .high)

theorem receiver_renewLease (m k : Ident) (b : Nat) (s : State) : (renewLease m s).receiver b k = s.receiver b k := by
  unfold State.receiver
  rw [fld_renewLease_mailbox m s MBX_m_RECV_MATCH, fld_renewLease_mailbox m s MBX_m_RECV_MASK]

include hadm

theorem take_denied (hrecv : s.receiver b m = false) :
    exec (.mailboxTake m b h data) s = .next (violation m .area true (MBX_m_TAKE_SEQ.key b 0 0 + h.skip) (renewLease m s)) := by
  rw [exec_mailboxTake, execMailboxTake, regWrite_admits hadm]
  unfold takeEffect
  rw [if_pos (by rw [receiver_renewLease, hrecv]; exact Bool.false_ne_true)]

include hh

theorem take_write (hrecv : s.receiver b m = true) : exec (.mailboxTake m b h data) s =
    .next (if s.on MBX_m_STATUS_FULL b ∧ bits data 0 32 = s.fld MBX_m_STATUS_SEQ b then messageTaken b (renewLease m s) else renewLease m s) := by
  have hfull : (renewLease m s).on MBX_m_STATUS_FULL b = s.on MBX_m_STATUS_FULL b := by
    unfold State.on
    rw [fld_renewLease_mailbox m s MBX_m_STATUS_FULL]
  rw [exec_mailboxTake, execMailboxTake, regWrite_admits hadm]
  unfold takeEffect
  rw [if_neg (by rw [receiver_renewLease, hrecv]; simp), wfield_low hh data (by decide) (by decide)]
  dsimp only
  rw [hfull, fld_renewLease_mailbox m s MBX_m_STATUS_SEQ]
  rfl

theorem message_taken (hrecv : s.receiver b m = true) (hfull : s.fld MBX_m_STATUS_FULL b = 1) (hseq : bits data 0 32 = s.fld MBX_m_STATUS_SEQ b) :
    ∃ t, exec (.mailboxTake m b h data) s = .next t ∧ t.fld MBX_m_STATUS_FULL b = 0 ∧
      t.fld MBX_m_COUNT_TAKEN b = (s.fld MBX_m_COUNT_TAKEN b + 1) % 2 ^ 32 ∧ (mailboxBalanced b s = true → mailboxBalanced b t = true) ∧
      onlyRegs [leaseKey, MBX_m_STATUS_FULL.key b 0 0, MBX_m_COUNT_SENT.key b 0 0] s t := by
  have hexec := (take_write hadm hh hrecv).trans (congrArg Host.Outcome.next (if_pos ⟨on_of_one hfull, hseq⟩))
  refine ⟨_, hexec, messageTaken_full b _, ?_, fun hbal => messageTaken_balanced ((fld_renewLease_mailbox m s MBX_m_STATUS_FULL b).trans hfull)
    ((balanced_renewLease m b s).trans hbal), onlyRegs_trans (onlyRegs_mono (by simp) (onlyRegs_renewLease m s)) (messageTaken_onlyRegs b _)⟩
  rw [messageTaken_count, fld_renewLease_mailbox m s MBX_m_COUNT_TAKEN]

theorem take_in_vain (hrecv : s.receiver b m = true) (hvain : s.fld MBX_m_STATUS_FULL b = 0 ∨ bits data 0 32 ≠ s.fld MBX_m_STATUS_SEQ b) :
    ∃ t, exec (.mailboxTake m b h data) s = .next t ∧ onlyRegs [leaseKey] s t := by
  have hno : ¬ (s.on MBX_m_STATUS_FULL b = true ∧ bits data 0 32 = s.fld MBX_m_STATUS_SEQ b) := by
    rintro ⟨hfull, hseq⟩
    rcases hvain with hvain | hvain
    · exact ne_true_of_eq_false (on_of_zero hvain) hfull
    · exact hvain hseq
  exact ⟨_, (take_write hadm hh hrecv).trans (congrArg Host.Outcome.next (if_neg hno)), onlyRegs_renewLease m s⟩

end take

/-- Settles O56. -/
theorem ownershipAndMailboxes : Obligations.OwnershipAndMailboxes :=
  ⟨fun _ _ _ hdark hfree hpending hmay => ⟨claim_wins hdark hfree hpending hmay, claim_of_two hdark hfree hpending hmay⟩,
    fun _ _ hdark hown hpending => claim_of_owned hdark hown hpending,
    fun _ _ _ hdark hpending hsucc hmay => ⟨successor_claims hdark hpending hsucc hmay, other_claims_in_vain hdark hpending hsucc,
      handover_expires hpending⟩,
    fun _ _ _ _ _ hadm howns hc hdata => ⟨offer_made hadm howns hc hdata, offer_withdrawn hadm howns hc hdata, offer_to_no_claimant hadm hc hdata,
      release_made hadm howns hc hdata⟩,
    fun _ => ⟨lease_ends, lease_unlimited⟩,
    fun _ _ _ _ _ _ hdark hopen _ _ _ => ⟨fun hfirst hlen hmatch hen => by subst hfirst; exact message_sent hdark hopen hlen hmatch hen,
      fun hfirst hlen hmatch hen htarget => by subst hfirst; exact message_rings hdark hopen hlen hmatch hen htarget,
      fun hfirst hlen hmatch => by subst hfirst; exact message_refused hdark hopen hlen hmatch, message_part hdark hopen⟩,
    fun _ _ _ _ _ hadm hn hb hh hmatch hen => staged_sent hadm hn hb hh hmatch hen,
    fun _ _ _ _ _ hadm hh => ⟨message_taken hadm hh, take_in_vain hadm hh, take_denied hadm⟩⟩

end Sys2Proof.Machine
end

section
-- One proof at a time: the memory limit of the check counts a stack for every proof that waits for another.
set_option Elab.async false
/-! SUPPORT. Submissions, the checks of a command, the domain commands, ECHO and replies (R583 to R595). -/

namespace Sys2Proof.Machine

variable {s t : State} {m : Ident} {n : Nat} {p : Packet} {header : Word} {ws : List Word}

/-! ### The entries that a master has reserved (R584) -/

/-- A slot's registers of the command block are none that the lease changes. -/
theorem mfld_renewLease_command (m : Ident) (s : State) (F : Field) (n : Nat) (hF : F.key 0 0 0 < leaseKey := by decide) :
    (renewLease m s).mfld F n = s.mfld F n := by
  unfold State.mfld
  rw [reg_renewLease m s (by simp only [leaseKey, OWN_STATUS_LEASE_LEFT_MS, slotSpan] at hF ⊢; omega)]

theorem submitStatus_renewLease (m : Ident) (s : State) (n : Nat) :
    (renewLease m s).mfld HC_SUBMIT_STATUS_RESERVED n = s.mfld HC_SUBMIT_STATUS_RESERVED n := mfld_renewLease_command m s HC_SUBMIT_STATUS_RESERVED n

theorem reserveEntry_slot (hn : slotOf m = some n) (s : State) : reserveEntry m s =
    if hasReplyQueue m then s.setMfld HC_SUBMIT_STATUS_RESERVED n (s.mfld HC_SUBMIT_STATUS_RESERVED n + 1) else s := by
  unfold reserveEntry
  rw [hn]

theorem reserveEntry_reserved (hn : slotOf m = some n) (hfree : hasReplyQueue m = true → s.mfld HC_SUBMIT_STATUS_RESERVED n < 16) :
    (reserveEntry m s).mfld HC_SUBMIT_STATUS_RESERVED n = s.mfld HC_SUBMIT_STATUS_RESERVED n + bnat (hasReplyQueue m) := by
  rw [reserveEntry_slot hn]
  cases h : hasReplyQueue m with
  | true =>
    have hlt := hfree h
    rw [if_pos rfl]
    refine (mfld_setMfld_same s HC_SUBMIT_STATUS_RESERVED n _ 0 (by unfold Field.good; decide)).trans (Nat.mod_eq_of_lt ?_)
    simp only [HC_SUBMIT_STATUS_RESERVED] at hlt ⊢
    omega
  | false => exact if_neg Bool.false_ne_true ▸ rfl

theorem reserveEntry_onlyRegs (hn : slotOf m = some n) (s : State) : onlyRegs [HC_SUBMIT_STATUS_TAG.off + slotSpan * n] s (reserveEntry m s) := by
  rw [reserveEntry_slot hn]
  split
  · exact ⟨rfl, regsKeep_setMfld s HC_SUBMIT_STATUS_RESERVED n _ 0⟩
  · exact onlyRegs_refl _ s

theorem replyQueue_not_full (hn : slotOf m = some n) (hfree : hasReplyQueue m = true → s.mfld HC_SUBMIT_STATUS_RESERVED n < 16) :
    replyQueueFull m s = false := by
  unfold replyQueueFull
  rw [hn]
  cases h : hasReplyQueue m with
  | true =>
    have hlt := hfree h
    simp
    omega
  | false => rfl

/-! ### A submission that is accepted (R585) -/

/-- Work that changes registers and the command queues. -/
def submitted (l : List Nat) (s t : State) : Prop := onlyRegs l { s with hc := t.hc } t

theorem submitted_after {u : State} {l : List Nat} (h : onlyRegs l s u) (h' : submitted l u t) : submitted l s t := by
  obtain ⟨hrest, hkeep⟩ := h
  obtain ⟨hrest', hkeep'⟩ := h'
  exact ⟨hrest'.trans (congrArg (fun v : State => { v with hc := t.hc, regs := t.regs }) hrest), fun k hk => (hkeep' k hk).trans (hkeep k hk)⟩

theorem setQueue_submitted (c : Nat) (l : List Packet) (s : State) : submitted [HC_QUEUEc_LEVEL.key c 0 0] s (setQueue c l s) :=
  ⟨rfl, regsKeep_setFld s HC_QUEUEc_LEVEL l.length c 0 0⟩

theorem submitted_mono {l l' : List Nat} (hl : ∀ k ∈ l, k ∈ l') (h : submitted l s t) : submitted l' s t := onlyRegs_mono hl h

/-- The class queue of a master, with a packet more. -/
def joined (p : Packet) (s : State) : List Packet := s.hc.queues.getD (queueOf p.issuer) [] ++ [p]

/-- The state in which a submission has been accepted. -/
def accepted (p : Packet) (s : State) : State := setQueue (queueOf p.issuer) (joined p s) (reserveEntry p.issuer s)

theorem reserveEntry_hc (m : Ident) (s : State) : (reserveEntry m s).hc = s.hc := by
  unfold reserveEntry
  split
  · split <;> rfl
  · rfl

theorem submission_accepted (hn : slotOf p.issuer = some n) (hfree : hasReplyQueue p.issuer = true → s.mfld HC_SUBMIT_STATUS_RESERVED n < 16)
    (hlen : (s.hc.queues.getD (queueOf p.issuer) []).length < 64) (off : Nat) : acceptSubmission p off s = accepted p s := by
  unfold acceptSubmission
  rw [if_neg (ne_true_of_eq_false (replyQueue_not_full hn hfree))]
  unfold enqueuePacket
  dsimp only
  rw [reserveEntry_hc, if_neg (by omega)]
  rfl

theorem queueOf_lt (m : Ident) : queueOf m < 15 := by
  have hclass : identClass m < 2 ^ 4 := bits_lt m 14 4
  unfold queueOf
  omega

theorem accepted_spec (hn : slotOf p.issuer = some n) (hfree : hasReplyQueue p.issuer = true → s.mfld HC_SUBMIT_STATUS_RESERVED n < 16)
    (hlen : (s.hc.queues.getD (queueOf p.issuer) []).length < 64) :
    (accepted p s).hc = { s.hc with queues := s.hc.queues.set (queueOf p.issuer) (joined p s) } ∧
    (accepted p s).mfld HC_SUBMIT_STATUS_RESERVED n = s.mfld HC_SUBMIT_STATUS_RESERVED n + bnat (hasReplyQueue p.issuer) ∧
    (accepted p s).fld HC_QUEUEc_LEVEL (queueOf p.issuer) = (s.hc.queues.getD (queueOf p.issuer) []).length + 1 ∧
    submitted [leaseKey, HC_SUBMIT_STATUS_TAG.off + slotSpan * n, HC_QUEUEc_LEVEL.key (queueOf p.issuer) 0 0] s (accepted p s) := by
  have hqueue := queueOf_lt p.issuer
  have hlevel : (joined p s).length = (s.hc.queues.getD (queueOf p.issuer) []).length + 1 := by
    unfold joined
    rw [List.length_append, List.length_singleton]
  refine ⟨?_, ?_, ?_, submitted_after (onlyRegs_mono (by simp) (reserveEntry_onlyRegs hn s)) (submitted_mono (by simp) (setQueue_submitted _ _ _))⟩
  · unfold accepted setQueue
    dsimp only
    rw [reserveEntry_hc]
  · refine Eq.trans ?_ (reserveEntry_reserved hn hfree)
    refine congrArg (fun v : Word => bits v _ _) (reg_setReg_other _ _ ?_)
    simp only [Field.key, HC_SUBMIT_STATUS_RESERVED, HC_QUEUEc_LEVEL, slotSpan]
    omega
  · rw [← hlevel]
    refine fld_setFld_fits (reserveEntry p.issuer s) HC_QUEUEc_LEVEL (queueOf p.issuer) 0 0 ?_
    rw [hlevel]
    simp only [HC_QUEUEc_LEVEL]
    omega

theorem command_port {off size : Nat} {l : List Word} (hdark : s.dark = false) (hopen : s.blockOpen off = true) :
    exec (.commandPortWrite m off size l) s = .next (portEffect m off size l (renewLease m s)) := by
  rw [exec_commandPortWrite, execCommandPortWrite]
  unfold writeFront
  rw [if_neg (ne_true_of_eq_false hdark)]
  dsimp only
  rw [if_neg (by rw [renewLease_blockOpen, hopen]; simp)]

theorem port_submission (hdark : s.dark = false) (hopen : s.blockOpen HC_CMD_PORT_PACKET.off = true) (hn : slotOf m = some n) (hsub : submits m = true)
    (hfree : hasReplyQueue m = true → s.mfld HC_SUBMIT_STATUS_RESERVED n < 16) (hlen : bits header 32 8 = ws.length) (h15 : ws.length ≤ 15)
    (hroom : (s.hc.queues.getD (queueOf m) []).length < 64) :
    ∃ t, exec (.commandPortWrite m HC_CMD_PORT_PACKET.off (8 * (1 + ws.length)) (header :: ws)) s = .next t ∧
      t.hc = { s.hc with queues := s.hc.queues.set (queueOf m) (s.hc.queues.getD (queueOf m) [] ++ [⟨m, header, ws⟩]) } ∧
      t.mfld HC_SUBMIT_STATUS_RESERVED n = s.mfld HC_SUBMIT_STATUS_RESERVED n + bnat (hasReplyQueue m) ∧
      t.fld HC_QUEUEc_LEVEL (queueOf m) = (s.hc.queues.getD (queueOf m) []).length + 1 ∧
      onlyRegs [leaseKey, HC_SUBMIT_STATUS_TAG.off + slotSpan * n, HC_QUEUEc_LEVEL.key (queueOf m) 0 0] { s with hc := t.hc } t := by
  have hhc := renewLease_hc m s
  have hfree' : hasReplyQueue m = true → (renewLease m s).mfld HC_SUBMIT_STATUS_RESERVED n < 16 := by rw [submitStatus_renewLease]; exact hfree
  have hroom' : ((renewLease m s).hc.queues.getD (queueOf m) []).length < 64 := by rw [hhc]; exact hroom
  have hexec : exec (.commandPortWrite m HC_CMD_PORT_PACKET.off (8 * (1 + ws.length)) (header :: ws)) s =
      .next (accepted ⟨m, header, ws⟩ (renewLease m s)) := by
    rw [command_port hdark hopen]
    unfold portEffect
    dsimp only [List.headD_cons, List.tail_cons]
    rw [hlen, if_neg (by simp [hsub]; omega), List.take_length]
    exact congrArg Host.Outcome.next (submission_accepted (p := ⟨m, header, ws⟩) hn hfree' hroom' _)
  obtain ⟨hqueues, hreserved, hlevel, honly⟩ := accepted_spec (p := ⟨m, header, ws⟩) hn hfree' hroom'
  unfold joined at hqueues
  rw [hhc] at hqueues hlevel
  rw [submitStatus_renewLease] at hreserved
  exact ⟨_, hexec, hqueues, hreserved, hlevel, submitted_after (onlyRegs_mono (by simp) (onlyRegs_renewLease m s)) honly⟩

theorem stagedWords_renewLease (m : Ident) (n : Nat) {len : Nat} (hlen : len ≤ 15) (s : State) : stagedWords n len (renewLease m s) = stagedWords n len s := by
  unfold stagedWords
  refine List.map_congr_left fun k hk => reg_renewLease m s ?_
  have hlt := List.mem_range.mp hk
  simp only [Field.key, HC_CMD_Wk_WORD, leaseKey, OWN_STATUS_LEASE_LEFT_MS, slotSpan]
  omega

theorem staged_submission (hadm : s.admits m .HC_CMD_SUBMIT []) (hn : slotOf m = some n) (hsub : submits m = true)
    (hfree : hasReplyQueue m = true → s.mfld HC_SUBMIT_STATUS_RESERVED n < 16) (h15 : bits header 32 8 ≤ 15)
    (hroom : (s.hc.queues.getD (queueOf m) []).length < 64) :
    ∃ t, exec (.commandSubmit m .full header) s = .next t ∧
      t.hc = { s.hc with queues := s.hc.queues.set (queueOf m) (s.hc.queues.getD (queueOf m) [] ++
        [⟨m, header, (List.range (bits header 32 8)).map (fun k => s.reg (HC_CMD_Wk_WORD.key (k + 1) 0 0 + slotSpan * n))⟩]) } ∧
      onlyRegs [leaseKey, HC_SUBMIT_STATUS_TAG.off + slotSpan * n, HC_QUEUEc_LEVEL.key (queueOf m) 0 0] { s with hc := t.hc } t := by
  have hhc := renewLease_hc m s
  have hfree' : hasReplyQueue m = true → (renewLease m s).mfld HC_SUBMIT_STATUS_RESERVED n < 16 := by rw [submitStatus_renewLease]; exact hfree
  have hroom' : ((renewLease m s).hc.queues.getD (queueOf m) []).length < 64 := by rw [hhc]; exact hroom
  have hexec : exec (.commandSubmit m .full header) s = .next (accepted ⟨m, header, stagedWords n (bits header 32 8) s⟩ (renewLease m s)) := by
    rw [exec_commandSubmit, execCommandSubmit, regWrite_admits hadm]
    unfold submitEffect
    rw [if_neg (by simp [hsub]; omega), hn]
    dsimp only
    rw [stagedWords_renewLease m n h15]
    exact congrArg Host.Outcome.next (submission_accepted (p := ⟨m, header, stagedWords n (bits header 32 8) s⟩) hn hfree' hroom' _)
  obtain ⟨hqueues, -, -, honly⟩ := accepted_spec (p := ⟨m, header, stagedWords n (bits header 32 8) s⟩) hn hfree' hroom'
  unfold joined at hqueues
  rw [hhc] at hqueues
  exact ⟨_, hexec, hqueues, submitted_after (onlyRegs_mono (by simp) (onlyRegs_renewLease m s)) honly⟩

/-! ### A submission that is refused (R583) -/

/-- The registers in which a refusal is noted. -/
def refusalNoted (n tag : Nat) (s : State) : State := (s.setMfld HC_SUBMIT_STATUS_TAG n tag).setMfld HC_SUBMIT_STATUS_REFUSED n 1

theorem violation_onlyRegs (hn : slotOf m = some n) (k : ViolKind) (write : Bool) (off : Nat) (s : State) :
    onlyRegs [OWN_VIOLm_COUNT_COUNT.key n 0 0, OWN_VIOLm_LAST_IDENT.key n 0 0] s (violation m k write off s) := by
  unfold violation
  rw [hn]
  exact onlyRegs_trans (onlyRegs_mono (by simp) (onlyRegs_addFld s OWN_VIOLm_COUNT_COUNT 1 n 0 0)) ⟨rfl, regsKeep_mono (by simp) (regsKeep_setReg _ _ _)⟩

theorem violation_mfld (hn : slotOf m = some n) (k : ViolKind) (write : Bool) (off : Nat) (s : State) (F : Field) (hF : F.key 0 0 0 < 0x101000 := by decide) :
    (violation m k write off s).mfld F n = s.mfld F n := by
  have hlt := slot_lt hn
  refine congrArg (fun v : Word => bits v F.lo F.w) ((violation_onlyRegs hn k write off s).2 _ ?_)
  simp only [Field.key, OWN_VIOLm_COUNT_COUNT, OWN_VIOLm_LAST_IDENT, slotSpan, List.mem_cons, List.not_mem_nil, or_false] at hF ⊢
  omega

theorem refused_submission {off size : Nat} (hdark : s.dark = false) (hopen : s.blockOpen off = true) (hn : slotOf m = some n)
    (hbad : off ≠ HC_CMD_PORT_PACKET.off ∨ size ≠ 8 * (1 + bits header 32 8) ∨ 15 < bits header 32 8 ∨ submits m = false) :
    ∃ t, exec (.commandPortWrite m off size (header :: ws)) s = .next t ∧ t.hc = s.hc ∧ t.mfld HC_SUBMIT_STATUS_REFUSED n = 1 ∧
      t.mfld HC_SUBMIT_STATUS_RESERVED n = s.mfld HC_SUBMIT_STATUS_RESERVED n ∧
      t.fld OWN_VIOLm_COUNT_COUNT n = (s.fld OWN_VIOLm_COUNT_COUNT n + 1) % 2 ^ OWN_VIOLm_COUNT_COUNT.w ∧
      onlyRegs [leaseKey, HC_SUBMIT_STATUS_TAG.off + slotSpan * n, OWN_VIOLm_COUNT_COUNT.key n 0 0, OWN_VIOLm_LAST_IDENT.key n 0 0] s t := by
  have hexec : exec (.commandPortWrite m off size (header :: ws)) s =
      .next (violation m .submit true off (refusalNoted n (carriedTag off size header) (renewLease m s))) := by
    rw [command_port hdark hopen]
    unfold portEffect
    dsimp only [List.headD_cons]
    rw [if_pos (by simpa using hbad)]
    unfold refuseSubmission
    rw [hn]
    rfl
  have honly : onlyRegs [HC_SUBMIT_STATUS_TAG.off + slotSpan * n] (renewLease m s) (refusalNoted n (carriedTag off size header) (renewLease m s)) :=
    ⟨rfl, regsKeep_trans (regsKeep_setMfld _ HC_SUBMIT_STATUS_TAG n _ 0) (regsKeep_setMfld _ HC_SUBMIT_STATUS_REFUSED n 1 0)⟩
  have hall := onlyRegs_trans (onlyRegs_mono (l' := [leaseKey, HC_SUBMIT_STATUS_TAG.off + slotSpan * n, OWN_VIOLm_COUNT_COUNT.key n 0 0,
      OWN_VIOLm_LAST_IDENT.key n 0 0]) (by simp) (onlyRegs_renewLease m s)) (onlyRegs_trans (onlyRegs_mono (by simp) honly)
    (onlyRegs_mono (by simp) (violation_onlyRegs hn .submit true off (refusalNoted n (carriedTag off size header) (renewLease m s)))))
  refine ⟨_, hexec, by rw [hall.1], ?_, ?_, ?_, hall⟩
  · rw [violation_mfld hn _ _ _ _ HC_SUBMIT_STATUS_REFUSED]
    exact mfld_setMfld_same _ HC_SUBMIT_STATUS_REFUSED n 1 0 (by unfold Field.good; decide)
  · rw [violation_mfld hn _ _ _ _ HC_SUBMIT_STATUS_RESERVED]
    unfold refusalNoted
    rw [mfld_setMfld_beside _ HC_SUBMIT_STATUS_REFUSED HC_SUBMIT_STATUS_RESERVED n _ rfl (by decide) (by decide),
      mfld_setMfld_beside _ HC_SUBMIT_STATUS_TAG HC_SUBMIT_STATUS_RESERVED n _ rfl (by decide) (by decide), submitStatus_renewLease]
  · rw [fld_violation_count hn, ← fld_renewLease_violations m s n]
    refine congrArg (fun x => (x + 1) % 2 ^ OWN_VIOLm_COUNT_COUNT.w) (fld_congr OWN_VIOLm_COUNT_COUNT n 0 0 (honly.2 _ ?_))
    have hlt := slot_lt hn
    simp only [Field.key, OWN_VIOLm_COUNT_COUNT, HC_SUBMIT_STATUS_TAG, slotSpan, List.mem_cons, List.not_mem_nil, or_false]
    omega

/-! ### The checks of a command (R586, R587) -/

theorem command_checked {opcode need : Nat} {rule : IssuerRule} {st : Rs} (hdark : s.dark = false) (hroom : s.hc.running.length < 16)
    (hturn : mayStart p s = true) (hop : p.opcode = opcode ∨ p.opcode ∉ opcodes) (hcheck : packetCheck opcode need rule p s = some st)
    (work : State → State) : runCommand opcode need rule p work s = endCommand p st [] (beginCommand p s) := by
  have hcheck' := (packetCheck_congr opcode need rule p (beginCommand_isOwner p s p.issuer)).trans hcheck
  have hgo : ¬ (s.dark = true ∨ 16 ≤ s.hc.running.length ∨ ¬ mayStart p s = true ∨ (p.opcode ≠ opcode ∧ p.opcode ∈ opcodes)) := by
    rintro (h | h | h | ⟨hne, hin⟩)
    · exact ne_true_of_eq_false hdark h
    · omega
    · exact h hturn
    · exact hop.elim hne (fun hout => hout hin)
  unfold runCommand
  rw [if_neg hgo]
  dsimp only
  rw [hcheck']

theorem domainSet_checked {st : Rs} (hdark : s.dark = false) (hroom : s.hc.running.length < 16) (hturn : mayStart p s = true)
    (hop : p.opcode = 0x0701 ∨ p.opcode ∉ opcodes) (hcheck : packetCheck 0x0701 3 .owner p s = some st) :
    exec (.domainSet p) s = .next (endCommand p st [] (beginCommand p s)) := by
  rw [exec_domainSet, execDomainSet, command_checked hdark hroom hturn hop hcheck]

theorem echo_checked {st : Rs} (hdark : s.dark = false) (hroom : s.hc.running.length < 16) (hturn : mayStart p s = true)
    (hop : p.opcode = 0x0F01 ∨ p.opcode ∉ opcodes) (hcheck : packetCheck 0x0F01 0 .any p s = some st) :
    exec (.echo p) s = .next (endCommand p st [] (beginCommand p s)) := by
  rw [exec_echo, execEcho, command_checked hdark hroom hturn hop hcheck]

/-- The first check that fails names the status. -/
theorem packetCheck_reserved {opcode need : Nat} {rule : IssuerRule} (h : p.reserved ≠ 0) : packetCheck opcode need rule p s = some .invalid := if_pos h

theorem packetCheck_unknown {opcode need : Nat} {rule : IssuerRule} (h : p.reserved = 0) (hop : p.opcode ≠ opcode) :
    packetCheck opcode need rule p s = some .unknown := by
  unfold packetCheck
  rw [if_neg (not_not.mpr h), if_pos hop]

theorem packetCheck_short {opcode need : Nat} {rule : IssuerRule} (h : p.reserved = 0) (hop : p.opcode = opcode) (hlen : p.len < need) :
    packetCheck opcode need rule p s = some .badLength := by
  unfold packetCheck
  rw [if_neg (not_not.mpr h), if_neg (not_not.mpr hop), if_pos hlen]

theorem packetCheck_notOwner {opcode need : Nat} (h : p.reserved = 0) (hop : p.opcode = opcode) (hlen : need ≤ p.len) (hown : s.isOwner p.issuer = false) :
    packetCheck opcode need .owner p s = some .notOwner := by
  unfold packetCheck
  rw [if_neg (not_not.mpr h), if_neg (not_not.mpr hop), if_neg (by omega), if_pos ⟨rfl, ne_true_of_eq_false hown⟩]

theorem packetCheck_any {opcode : Nat} (h : p.reserved = 0) (hop : p.opcode = opcode) : packetCheck opcode 0 .any p s = none := by
  unfold packetCheck
  rw [if_neg (not_not.mpr h), if_neg (not_not.mpr hop), if_neg (Nat.not_lt_zero _), if_neg (by simp)]

theorem command_statuses (hdark : s.dark = false) (hroom : s.hc.running.length < 16) (hturn : mayStart p s = true)
    (hop : p.opcode = 0x0701 ∨ p.opcode = 0x0F01 ∨ p.opcode ∉ opcodes) :
    (p.reserved ≠ 0 → (p.opcode ≠ 0x0F01 → exec (.domainSet p) s = .next (endCommand p .invalid [] (beginCommand p s))) ∧
      (p.opcode ≠ 0x0701 → exec (.echo p) s = .next (endCommand p .invalid [] (beginCommand p s)))) ∧
    (p.reserved = 0 → p.opcode ∉ opcodes → exec (.domainSet p) s = .next (endCommand p .unknown [] (beginCommand p s)) ∧
      exec (.echo p) s = .next (endCommand p .unknown [] (beginCommand p s))) ∧
    (p.reserved = 0 → p.opcode = 0x0701 → p.len < 3 → exec (.domainSet p) s = .next (endCommand p .badLength [] (beginCommand p s))) ∧
    (p.reserved = 0 → p.opcode = 0x0701 → 3 ≤ p.len → s.isOwner p.issuer = false →
      exec (.domainSet p) s = .next (endCommand p .notOwner [] (beginCommand p s))) ∧
    (p.reserved = 0 → p.opcode = 0x0F01 → exec (.echo p) s = .next (endCommand p .ok p.words (beginCommand p s))) := by
  have hset (h : p.opcode ≠ 0x0F01) : p.opcode = 0x0701 ∨ p.opcode ∉ opcodes := hop.imp_right (·.resolve_left h)
  have hecho (h : p.opcode ≠ 0x0701) : p.opcode = 0x0F01 ∨ p.opcode ∉ opcodes := hop.resolve_left h
  have hother (k : Nat) (hk : k ∈ opcodes) (hout : p.opcode ∉ opcodes) : p.opcode ≠ k := fun h => hout (h ▸ hk)
  refine ⟨fun hres => ⟨fun h => domainSet_checked hdark hroom hturn (hset h) (packetCheck_reserved hres),
      fun h => echo_checked hdark hroom hturn (hecho h) (packetCheck_reserved hres)⟩,
    fun hres hout => ⟨domainSet_checked hdark hroom hturn (.inr hout) (packetCheck_unknown hres (hother 0x0701 (by decide) hout)),
      echo_checked hdark hroom hturn (.inr hout) (packetCheck_unknown hres (hother 0x0F01 (by decide) hout))⟩,
    fun hres h hlen => domainSet_checked hdark hroom hturn (.inl h) (packetCheck_short hres h hlen),
    fun hres h hlen hown => domainSet_checked hdark hroom hturn (.inl h) (packetCheck_notOwner hres h hlen hown), fun hres h => ?_⟩
  rw [exec_echo, execEcho, runCommand_passes ⟨hdark, hroom, hturn, packetCheck_any hres h⟩]

theorem command_waits {c : Instr} (hc : c ∈ [Instr.echo p, .domainSet p, .domainRead p]) (h : 16 ≤ s.hc.running.length ∨ mayStart p s = false) :
    exec c s = .next s := by
  have hrun (opcode need : Nat) (rule : IssuerRule) (work : State → State) : runCommand opcode need rule p work s = s := by
    unfold runCommand
    refine if_pos (.inr (h.imp_right fun hno => .inl (ne_true_of_eq_false hno)))
  simp only [List.mem_cons, List.not_mem_nil, or_false] at hc
  rcases hc with rfl | rfl | rfl
  · exact congrArg Host.Outcome.next (hrun _ _ _ _)
  · exact congrArg Host.Outcome.next (hrun _ _ _ _)
  · exact congrArg Host.Outcome.next (hrun _ _ _ _)

/-! ### The turns of the class queues (R585, R586) -/

section turns

variable {a b c : Packet} {l : List Packet} (hqueues : s.hc.queues = [a :: l, [b], [], []]) (ha : queueOf a.issuer = 0) (hb : queueOf b.issuer = 1)
  (hne : a ≠ b) (hturn : s.hc.turn < 2)

/-- A packet that waits is looked for in the queues as they stand. -/
theorem queueWith_waiting {k : Nat} (hin : c ∈ s.hc.queues.getD (queueOf c.issuer) []) : queueWith c s k = s.hc.queues.getD k [] := by
  unfold queueWith
  dsimp only
  refine if_neg ?_
  rintro ⟨rfl, hout⟩
  exact hout hin

include hqueues

include hturn

theorem next_packet (hin : c ∈ s.hc.queues.getD (queueOf c.issuer) []) : mayStart c s = decide ((if s.hc.turn = 0 then a else b) = c) := by
  have hcase : s.hc.turn = 0 ∨ s.hc.turn = 1 := by omega
  have hlook (k : Nat) := queueWith_waiting (k := k) hin
  unfold mayStart
  dsimp only
  simp only [hlook]
  rw [hqueues]
  rcases hcase with h | h
  · rw [h]
    simp [List.range_succ, List.findSome?_cons]
  · rw [h]
    simp [List.range_succ, List.findSome?_cons]

include ha hb hne

theorem turns_taken : mayStart a s = decide (s.hc.turn = 0) ∧ mayStart b s = decide (s.hc.turn = 1) ∧
    (∀ c ∈ l, c ≠ a → queueOf c.issuer = 0 → mayStart c s = false) := by
  have hina : a ∈ s.hc.queues.getD (queueOf a.issuer) [] := by rw [hqueues, ha]; exact .head _
  have hinb : b ∈ s.hc.queues.getD (queueOf b.issuer) [] := by rw [hqueues, hb]; exact .head _
  rw [next_packet hqueues hturn hina, next_packet hqueues hturn hinb]
  have hcase : s.hc.turn = 0 ∨ s.hc.turn = 1 := by omega
  refine ⟨?_, ?_, fun c hc hca hcq => ?_⟩
  · rcases hcase with h | h <;> simp [h, Ne.symm hne]
  · rcases hcase with h | h <;> simp [h, hne]
  · have hinc : c ∈ s.hc.queues.getD (queueOf c.issuer) [] := by rw [hqueues, hcq]; exact .tail _ hc
    have hcb : b ≠ c := fun h => absurd hb (by rw [h, hcq]; decide)
    rw [next_packet hqueues hturn hinc]
    rcases hcase with h | h <;> simp [h, Ne.symm hca, hcb]

omit hturn hne in
theorem turns_pass : (beginCommand a s).hc.turn = 1 ∧ (beginCommand a s).hc.queues = [l, [b], [], []] ∧ (beginCommand b s).hc.turn = 2 := by
  have hheada : (s.hc.queues.getD (queueOf a.issuer) []).head? = some a := by rw [hqueues, ha]; rfl
  have hheadb : (s.hc.queues.getD (queueOf b.issuer) []).head? = some b := by rw [hqueues, hb]; rfl
  unfold beginCommand
  dsimp only
  rw [if_pos hheada, if_pos hheadb]
  unfold setQueue
  dsimp only
  refine ⟨?_, ?_, ?_⟩
  · show (queueOf a.issuer + 1) % 4 = 1
    rw [ha]
  · show s.hc.queues.set (queueOf a.issuer) (s.hc.queues.getD (queueOf a.issuer) []).tail = _
    rw [hqueues, ha]
    rfl
  · show (queueOf b.issuer + 1) % 4 = 2
    rw [hb]

end turns

/-! ### Replies (R588 to R590) -/

theorem setReplyQueue_same (n : Nat) (l : List Reply) (s : State) : (setReplyQueue n l s).replyQueue n = l := Memory.get_set_same _ _ _

theorem raise_reply_hc {slot : Nat} (h : slot < 4) (s : State) : (raise (0x108 + slot) 0 s).hc = s.hc := by
  have hrange : sourceRange (0x108 + slot) = some ⟨0x104, 0x10B, 1, true, true⟩ := by interval_cases slot <;> decide
  obtain ⟨hrest, -⟩ := routeSource_onlySends (0x108 + slot) s
  unfold raise raiseFrom
  rw [hrange]
  exact (congrArg State.hc hrest : _)

theorem queueReply_hc (n : Nat) (r : Reply) (s : State) : (queueReply n r s).hc = (setReplyQueue n (s.replyQueue n ++ [r]) s).hc := by
  unfold queueReply
  dsimp only
  split
  next h => exact raise_reply_hc h _
  next => rfl

theorem replyQueue_congr (h : t.hc.replies = s.hc.replies) (n : Nat) : t.replyQueue n = s.replyQueue n := by
  unfold State.replyQueue
  rw [h]

theorem queueReply_queue (n : Nat) (r : Reply) (s : State) : (queueReply n r s).replyQueue n = s.replyQueue n ++ [r] :=
  (replyQueue_congr (congrArg (fun h => h.replies) (queueReply_hc n r s)) n).trans (setReplyQueue_same n _ s)

theorem queueReply_running (n : Nat) (r : Reply) (s : State) : (queueReply n r s).hc.running = s.hc.running :=
  congrArg (fun h => h.running) (queueReply_hc n r s)

theorem command_replied {st : Rs} (hn : slotOf p.issuer = some n) (hclass : identClass p.issuer ≠ 2) (hwanted : ∀ r ∈ s.hc.running, r.discard = false)
    (hloud : p.quiet = false) : endCommand p st ws s =
      queueReply n ⟨mkWord [(0, 16, p.tag), (16, 8, st.code), (24, 8, ws.length), (32, 16, p.opcode)], ws⟩ (leftExecution p s) := by
  unfold endCommand
  dsimp only
  refine (if_neg (ne_true_of_eq_false ?_)).trans ?_
  · split
    next r hfind => exact hwanted r (List.mem_of_find?_eq_some hfind)
    next => rfl
  · rw [if_neg (by simp [hloud])]
    unfold postReply sendReply
    rw [if_neg hclass, hn]
    rfl

theorem reply_queued {st : Rs} (hn : slotOf p.issuer = some n) (hclass : identClass p.issuer ≠ 2) (hwanted : ∀ r ∈ s.hc.running, r.discard = false)
    (hloud : p.quiet = false) :
    (endCommand p st ws s).replyQueue n = s.replyQueue n ++
      [⟨mkWord [(0, 16, p.tag), (16, 8, st.code), (24, 8, ws.length), (32, 16, p.opcode)], ws⟩] ∧
    (8 ≤ n → (endCommand p st ws s).replyLine (n - 8) = true) ∧
    (endCommand p st ws s).hc.running = dropFirstP (fun r => decide (r.pkt = p)) s.hc.running := by
  rw [command_replied hn hclass hwanted hloud]
  refine ⟨queueReply_queue n _ _, fun hport => ?_, queueReply_running n _ _⟩
  unfold State.replyLine
  rw [show 8 + (n - 8) = n by omega, queueReply_queue]
  simp

theorem freeEntry_slot (hn : slotOf m = some n) (hqueue : hasReplyQueue m = true) (s : State) :
    freeEntry m s = s.setMfld HC_SUBMIT_STATUS_RESERVED n (s.mfld HC_SUBMIT_STATUS_RESERVED n - 1) := by
  unfold freeEntry
  rw [if_pos hqueue, hn]

theorem mfld_lt (s : State) (F : Field) (n : Nat) : s.mfld F n < 2 ^ F.w := bits_lt _ _ _

/-- A queue's length is no register that a reservation is counted in. -/
theorem setReplyQueue_reserved (n : Nat) (l : List Reply) (s : State) :
    (setReplyQueue n l s).mfld HC_SUBMIT_STATUS_RESERVED n = s.mfld HC_SUBMIT_STATUS_RESERVED n :=
  mfld_setMfld_other s HC_REPLY_STATUS_QUEUED HC_SUBMIT_STATUS_RESERVED n l.length 0 0 (by decide)

theorem reply_popped {r : Reply} {l : List Reply} {h : Half} (hadm : s.admits m .HC_REPLY_POP []) (hn : slotOf m = some n) (hqueue : hasReplyQueue m = true)
    (hreplies : s.replyQueue n = r :: l) (hlen : l.length < 16) (hh : h ≠ .high) :
    ∃ t, exec (.replyPop m h 1) s = .next t ∧ t.replyQueue n = l ∧ t.mfld HC_REPLY_STATUS_QUEUED n = l.length ∧
      t.mfld HC_SUBMIT_STATUS_RESERVED n = s.mfld HC_SUBMIT_STATUS_RESERVED n - 1 ∧ t.out = s.out ∧
      onlyRegs [leaseKey, HC_REPLY_STATUS_QUEUED.off + slotSpan * n, HC_SUBMIT_STATUS_TAG.off + slotSpan * n] { s with hc := t.hc } t := by
  have hreplies' : (renewLease m s).replyQueue n = r :: l := (replyQueue_congr (congrArg (fun h => h.replies) (renewLease_hc m s)) n).trans hreplies
  have hreserved := (setReplyQueue_reserved n l (renewLease m s)).trans (submitStatus_renewLease m s n)
  have hexec : exec (.replyPop m h 1) s = .next ((setReplyQueue n l (renewLease m s)).setMfld HC_SUBMIT_STATUS_RESERVED n
      (s.mfld HC_SUBMIT_STATUS_RESERVED n - 1)) := by
    rw [exec_replyPop, execReplyPop, regWrite_admits hadm]
    unfold popEffect
    rw [hn]
    dsimp only
    rw [if_pos (by rw [wbit_low hh _ (by decide)]; decide), hreplies']
    dsimp only
    rw [freeEntry_slot hn hqueue, hreserved]
  have hfits : s.mfld HC_SUBMIT_STATUS_RESERVED n - 1 < 2 ^ HC_SUBMIT_STATUS_RESERVED.w := (Nat.sub_le _ _).trans_lt (mfld_lt s _ n)
  refine ⟨_, hexec, setReplyQueue_same n l _, ?_, ?_, renewLease_out m s, ?_⟩
  · rw [mfld_setMfld_other _ HC_SUBMIT_STATUS_RESERVED HC_REPLY_STATUS_QUEUED n _ 0 0 (by decide)]
    refine (mfld_setMfld_same (renewLease m s) HC_REPLY_STATUS_QUEUED n l.length 0 (by unfold Field.good; decide)).trans (Nat.mod_eq_of_lt ?_)
    simp only [HC_REPLY_STATUS_QUEUED]
    omega
  · exact (mfld_setMfld_same _ HC_SUBMIT_STATUS_RESERVED n _ 0 (by unfold Field.good; decide)).trans (Nat.mod_eq_of_lt hfits)
  · refine submitted_after (onlyRegs_mono (by simp) (onlyRegs_renewLease m s)) ⟨rfl, fun k hk => ?_⟩
    simp only [List.mem_cons, List.not_mem_nil, or_false, not_or] at hk
    obtain ⟨-, hqueued, hsubmit⟩ := hk
    exact (reg_setReg_other _ _ hsubmit).trans (reg_setReg_other _ _ hqueued)

/-! ### Replies from the ring (R590) -/

theorem reply_in_denied (hadm : s.admits m .HC_REPLY_IN []) (hclass : identClass m ≠ 2) :
    exec (.replyInWrite m header ws) s = .next (violation m .area true HC_REPLY_IN_REPLY.off (renewLease m s)) := by
  rw [exec_replyInWrite, execReplyInWrite, regWrite_admits hadm]
  unfold replyInEffect
  rw [if_pos hclass]

/-- The master of a reply that names JTAG. -/
theorem jtag_slot (dev : Nat) : slotOf (mkIdent dev 4 0) = some 4 := by
  have hclass : identClass (mkIdent dev 4 0) = 4 := by
    unfold identClass mkIdent bits
    rw [BitVec.toNat_ushiftRight, BitVec.toNat_ofNat, Nat.shiftRight_eq_div_pow]
    omega
  unfold slotOf
  dsimp only
  rw [hclass]
  rfl

theorem jtag_replies (dev : Nat) : hasReplyQueue (mkIdent dev 4 0) = true := by
  unfold hasReplyQueue
  rw [jtag_slot]
  rfl

theorem low_header (v : Word) : setBits v 48 16 0 = v &&& 0xFFFFFFFFFFFF := by
  refine BitVec.eq_of_getLsbD_eq fun i hi => ?_
  have hmask : (0xFFFFFFFFFFFF : Word).getLsbD i = decide (i < 48) := by
    rw [show (0xFFFFFFFFFFFF : Word) = BitVec.ofNat 64 (2 ^ 48 - 1) from rfl, BitVec.getLsbD_ofNat, Nat.testBit_two_pow_sub_one]
    simp [hi]
  rw [setBits_getLsbD _ _ _ _ _ (by decide), BitVec.getLsbD_and, hmask, Nat.zero_testBit]
  by_cases h : i < 48
  · rw [if_neg (by omega)]
    simp [h]
  · rw [if_pos (by omega)]
    simp [h]

theorem reply_in_effect (hadm : s.admits m .HC_REPLY_IN []) (hclass : identClass m = 2) (hfor : bits header 48 4 = 4) (hindex : bits header 52 10 = 0) :
    exec (.replyInWrite m header ws) s = .next (if s.mfld HC_SUBMIT_STATUS_RESERVED 4 < 16 then
      queueReply 4 ⟨header &&& 0xFFFFFFFFFFFF, ws⟩ (reserveEntry (mkIdent (renewLease m s).devId 4 0) (renewLease m s)) else loseReply (renewLease m s)) := by
  have hfull : replyQueueFull (mkIdent (renewLease m s).devId 4 0) (renewLease m s) = decide (16 ≤ s.mfld HC_SUBMIT_STATUS_RESERVED 4) := by
    unfold replyQueueFull
    rw [jtag_slot, jtag_replies]
    dsimp only
    rw [submitStatus_renewLease, Bool.true_and]
  rw [exec_replyInWrite, execReplyInWrite, regWrite_admits hadm]
  unfold replyInEffect
  rw [if_neg (not_not.mpr hclass)]
  dsimp only
  rw [hfor, hindex, jtag_slot]
  dsimp only
  rw [hfull, jtag_replies, low_header]
  by_cases h : s.mfld HC_SUBMIT_STATUS_RESERVED 4 < 16
  · rw [if_pos (by simp; omega), if_pos h]
  · rw [if_neg (by simp; omega), if_neg h]

theorem queueReply_mfld (r : Reply) (s : State) : (queueReply 4 r s).mfld HC_SUBMIT_STATUS_RESERVED 4 = s.mfld HC_SUBMIT_STATUS_RESERVED 4 := by
  unfold queueReply
  exact setReplyQueue_reserved 4 _ s

theorem reply_from_ring (hadm : s.admits m .HC_REPLY_IN []) (hclass : identClass m = 2) (hfor : bits header 48 4 = 4) (hindex : bits header 52 10 = 0)
    (hroom : s.mfld HC_SUBMIT_STATUS_RESERVED 4 < 16) :
    ∃ t, exec (.replyInWrite m header ws) s = .next t ∧ t.replyQueue 4 = s.replyQueue 4 ++ [⟨header &&& 0xFFFFFFFFFFFF, ws⟩] ∧
      t.mfld HC_SUBMIT_STATUS_RESERVED 4 = s.mfld HC_SUBMIT_STATUS_RESERVED 4 + 1 := by
  have hslot := jtag_slot (renewLease m s).devId
  have hroom' : hasReplyQueue (mkIdent (renewLease m s).devId 4 0) = true → (renewLease m s).mfld HC_SUBMIT_STATUS_RESERVED 4 < 16 := fun _ => by
    rw [submitStatus_renewLease]
    exact hroom
  refine ⟨_, (reply_in_effect hadm hclass hfor hindex).trans (congrArg Host.Outcome.next (if_pos hroom)), ?_, ?_⟩
  · rw [queueReply_queue, replyQueue_congr (congrArg (fun h => h.replies) (reserveEntry_hc _ _)),
      replyQueue_congr (congrArg (fun h => h.replies) (renewLease_hc m s))]
  · rw [queueReply_mfld, reserveEntry_reserved hslot hroom', jtag_replies, submitStatus_renewLease]
    rfl

theorem reply_lost (hadm : s.admits m .HC_REPLY_IN []) (hclass : identClass m = 2) (hfor : bits header 48 4 = 4) (hindex : bits header 52 10 = 0)
    (hfull : s.mfld HC_SUBMIT_STATUS_RESERVED 4 = 16) :
    ∃ t, exec (.replyInWrite m header ws) s = .next t ∧ t.hc = s.hc ∧
      t.mfld HC_REPLY_STATUS_LOST 6 = (s.mfld HC_REPLY_STATUS_LOST 6 + 1) % 2 ^ 16 := by
  refine ⟨_, (reply_in_effect hadm hclass hfor hindex).trans (congrArg Host.Outcome.next (if_neg (by omega))), renewLease_hc m s, ?_⟩
  unfold loseReply
  rw [mfld_setMfld_same _ HC_REPLY_STATUS_LOST 6 _ 0 (by unfold Field.good; decide), mfld_renewLease_command m s HC_REPLY_STATUS_LOST 6]
  rfl

/-! ### The domain commands (R594, R595) -/

theorem reg_domain_beginCommand (s : State) {d k : Nat} (hd : d < 16) (hlo : 0x801000 ≤ k) (hhi : k < 0x801040) :
    (beginCommand p s).reg (k + 0x40 * d) = s.reg (k + 0x40 * d) := reg_beginCommand p s (by omega) (by simp only [slotSpan]; omega)

theorem domain_read (hacc : s.accepts 0x0702 1 .any p) :
    exec (.domainRead p) s = .next (endCommand p .ok [s.reg (CTX_DOMd_MATCH_MATCH.key (bits (p.w 1) 0 4) 0 0),
      s.reg (CTX_DOMd_CFG_EN.key (bits (p.w 1) 0 4) 0 0), s.reg (CTX_DOMd_STATUS_RESIDENT.key (bits (p.w 1) 0 4) 0 0),
      s.reg (CTX_DOMd_VISITS_ADMITTED.key (bits (p.w 1) 0 4) 0 0)] (beginCommand p s)) := by
  have hd : bits (p.w 1) 0 4 < 16 := bits_lt (p.w 1) 0 4
  have hreg (F : Field) (hF : 0x801000 ≤ F.off ∧ F.off < 0x801040 ∧ F.s1 = 0x40 := by decide) :
      (beginCommand p s).reg (F.key (bits (p.w 1) 0 4) 0 0) = s.reg (F.key (bits (p.w 1) 0 4) 0 0) := by
    obtain ⟨hlo, hhi, hs⟩ := hF
    simp only [Field.key, hs, Nat.mul_zero, Nat.add_zero]
    exact reg_domain_beginCommand s hd hlo hhi
  rw [exec_domainRead, execDomainRead, runCommand_passes hacc]
  dsimp only
  rw [domainMatch, hreg CTX_DOMd_MATCH_MATCH, hreg CTX_DOMd_CFG_EN, hreg CTX_DOMd_STATUS_RESIDENT, hreg CTX_DOMd_VISITS_ADMITTED]

/-- The state in which a domain's match word has been stored. -/
def domainMatched (d : Nat) (v : Word) (s : State) : State := s.setReg (CTX_DOMd_MATCH_MATCH.key d 0 0) v

theorem domainMatched_fld (d : Nat) (v : Word) (s : State) (F : Field) (e : Nat) (hF : F.off % 0x40 ≠ 0 ∧ F.s1 = 0x40 := by decide) :
    (domainMatched d v s).fld F e = s.fld F e := by
  obtain ⟨hoff, hs⟩ := hF
  refine fld_congr F e 0 0 (reg_setReg_other _ _ ?_)
  simp only [Field.key, hs, CTX_DOMd_MATCH_MATCH]
  omega

theorem shareSum_congr (h : ∀ d < 16, t.fld CTX_DOMd_CFG_SHARE d = s.fld CTX_DOMd_CFG_SHARE d) : t.shareSum = s.shareSum := by
  unfold State.shareSum
  refine congrArg (fun l : List Nat => l.foldl (· + ·) 0) (List.map_congr_left fun d hd => h d (List.mem_range.mp hd))

theorem shareSum_beginCommand (p : Packet) (s : State) : (beginCommand p s).shareSum = s.shareSum := by
  refine shareSum_congr fun d hd => fld_beginCommand p s CTX_DOMd_CFG_SHARE d 0 0 ?_ ?_
  · simp only [Field.key, CTX_DOMd_CFG_SHARE]; omega
  · simp only [Field.key, CTX_DOMd_CFG_SHARE, slotSpan]; omega

theorem fld_dom_beginCommand (s : State) {d : Nat} (hd : d < 16) (F : Field) (hF : 0x801000 ≤ F.off ∧ F.off < 0x801040 ∧ F.s1 = 0x40 := by decide) :
    (beginCommand p s).fld F d = s.fld F d := by
  obtain ⟨hlo, hhi, hs⟩ := hF
  refine fld_beginCommand p s F d 0 0 ?_ ?_
  · simp only [Field.key, hs]; omega
  · simp only [Field.key, hs, slotSpan]; omega

section domain

variable (hacc : s.accepts 0x0701 3 .owner p) (hz : bits (p.w 1) 4 60 = 0) (hz1 : bits (p.w 3) 1 7 = 0) (hz2 : bits (p.w 3) 37 27 = 0)

/-- The domain with its new words, before its quota is judged. -/
def domainSet (p : Packet) (s : State) : State := domainStored (bits (p.w 1) 0 4) (p.w 3) (domainMatched (bits (p.w 1) 0 4) (p.w 2) (beginCommand p s))

include hacc

theorem domain_share_refused (hsum : 256 < s.shareSum - s.fld CTX_DOMd_CFG_SHARE (bits (p.w 1) 0 4) + bits (p.w 3) 8 8) :
    ∃ u, exec (.domainSet p) s = .next (endCommand p .invalid [] u) ∧ u.fld CTX_STATUS_SHARE_REFUSED = 1 ∧
      onlyRegs [CTX_STATUS_SHARE_REFUSED.off] (beginCommand p s) u := by
  have hd : bits (p.w 1) 0 4 < 16 := bits_lt (p.w 1) 0 4
  have hexec : exec (.domainSet p) s = .next (endCommand p .invalid [] ((beginCommand p s).setFld CTX_STATUS_SHARE_REFUSED 1)) := by
    rw [exec_domainSet, execDomainSet, runCommand_passes hacc]
    dsimp only
    rw [shareSum_beginCommand, fld_dom_beginCommand s hd CTX_DOMd_CFG_SHARE, decide_eq_true hsum, if_pos (.inl rfl), if_pos rfl]
  exact ⟨_, hexec, fld_setFld_fits _ CTX_STATUS_SHARE_REFUSED 0 0 0 (by decide), onlyRegs_setFld _ CTX_STATUS_SHARE_REFUSED 1 0 0 0⟩

include hz hz1 hz2

theorem domain_set (hsum : s.shareSum - s.fld CTX_DOMd_CFG_SHARE (bits (p.w 1) 0 4) + bits (p.w 3) 8 8 ≤ 256)
    (hempty : s.fld CTX_DOMd_STATUS_RESIDENT (bits (p.w 1) 0 4) = 0) :
    ∃ u, exec (.domainSet p) s = .next (endCommand p .ok [u.reg (CTX_DOMd_STATUS_RESIDENT.key (bits (p.w 1) 0 4) 0 0)] u) ∧
      u.reg (CTX_DOMd_MATCH_MATCH.key (bits (p.w 1) 0 4) 0 0) = p.w 2 ∧ u.fld CTX_DOMd_CFG_EN (bits (p.w 1) 0 4) = bits (p.w 3) 0 1 ∧
      u.fld CTX_DOMd_CFG_SHARE (bits (p.w 1) 0 4) = bits (p.w 3) 8 8 ∧ u.fld CTX_DOMd_CFG_QUOTA (bits (p.w 1) 0 4) = bits (p.w 3) 16 21 ∧
      u.out = (beginCommand p s).out ∧ u.mem = s.mem := by
  have hd : bits (p.w 1) 0 4 < 16 := bits_lt (p.w 1) 0 4
  have hsum' : ¬ 256 < (beginCommand p s).shareSum - (beginCommand p s).fld CTX_DOMd_CFG_SHARE (bits (p.w 1) 0 4) + bits (p.w 3) 8 8 := by
    rw [shareSum_beginCommand, fld_dom_beginCommand s hd CTX_DOMd_CFG_SHARE]
    omega
  have hempty' : (beginCommand p s).fld CTX_DOMd_STATUS_RESIDENT (bits (p.w 1) 0 4) = 0 := (fld_dom_beginCommand s hd CTX_DOMd_STATUS_RESIDENT).trans hempty
  have hmatched (F : Field) (e : Nat) (hF : F.off % 0x40 ≠ 0 ∧ F.s1 = 0x40) := domainMatched_fld (bits (p.w 1) 0 4) (p.w 2) (beginCommand p s) F e hF
  have heffect : domainCfgEffect (bits (p.w 1) 0 4) (p.w 3) (domainMatched (bits (p.w 1) 0 4) (p.w 2) (beginCommand p s)) =
      updateOver (bits (p.w 1) 0 4) (domainSet p s) := by
    unfold domainCfgEffect
    rw [shareSum_congr fun e _ => hmatched CTX_DOMd_CFG_SHARE e (by decide), hmatched CTX_DOMd_CFG_SHARE _ (by decide), if_neg hsum']
    rfl
  have hexec : exec (.domainSet p) s = .next (endCommand p .ok [(updateOver (bits (p.w 1) 0 4) (domainSet p s)).reg
      (CTX_DOMd_STATUS_RESIDENT.key (bits (p.w 1) 0 4) 0 0)] (updateOver (bits (p.w 1) 0 4) (domainSet p s))) := by
    rw [exec_domainSet, execDomainSet, runCommand_passes hacc]
    dsimp only
    rw [if_neg (by simp [hsum', hz, hz1, hz2, hempty']), ← heffect]
    rfl
  obtain ⟨hshare, hquota, hen⟩ := domainStored_fields (bits (p.w 1) 0 4) (p.w 3) (domainMatched (bits (p.w 1) 0 4) (p.w 2) (beginCommand p s))
  rw [hmatched CTX_DOMd_STATUS_RESIDENT _ (by decide), if_pos hempty'] at hen
  have hover := updateOver_onlyRegs (bits (p.w 1) 0 4) (domainSet p s)
  have hstored := domainStored_onlyRegs (bits (p.w 1) 0 4) (p.w 3) (domainMatched (bits (p.w 1) 0 4) (p.w 2) (beginCommand p s))
  have hcfg (F : Field) (hF : F.key (bits (p.w 1) 0 4) 0 0 = CTX_DOMd_CFG_EN.key (bits (p.w 1) 0 4) 0 0) :
      (updateOver (bits (p.w 1) 0 4) (domainSet p s)).fld F (bits (p.w 1) 0 4) = (domainSet p s).fld F (bits (p.w 1) 0 4) := by
    refine fld_congr F _ 0 0 (hover.2 _ ?_)
    rw [hF]
    simp [Field.key, CTX_DOMd_CFG_EN, CTX_DOMd_STATUS_OVER]
  refine ⟨_, hexec, ?_, (hcfg CTX_DOMd_CFG_EN rfl).trans hen, (hcfg CTX_DOMd_CFG_SHARE rfl).trans hshare, (hcfg CTX_DOMd_CFG_QUOTA rfl).trans hquota,
    (onlyRegs_out hover).trans (onlyRegs_out hstored :), (onlyRegs_mem hover).trans ((onlyRegs_mem hstored :).trans (beginCommand_mem p s))⟩
  rw [hover.2 _ (by simp [Field.key, CTX_DOMd_MATCH_MATCH, CTX_DOMd_STATUS_OVER]), show domainSet p s = domainStored _ _ _ from rfl,
    hstored.2 _ (by simp [Field.key, CTX_DOMd_MATCH_MATCH, CTX_DOMd_CFG_EN])]
  exact reg_setReg_same _ _ _

end domain

/-- Settles O55. -/
theorem commandsAndReplies : Obligations.CommandsAndReplies :=
  ⟨fun _ _ _ _ _ hdark hopen hn hsub hfree hlen h15 _ hroom => port_submission hdark hopen hn hsub hfree hlen h15 hroom,
    fun _ _ _ _ hadm hn hsub hfree h15 _ hroom => staged_submission hadm hn hsub hfree h15 hroom,
    fun _ _ _ _ _ _ _ hdark hopen hn _ hbad => refused_submission hdark hopen hn hbad,
    fun _ _ hdark hroom hturn hop => command_statuses hdark hroom hturn hop,
    fun _ _ _ hc h => command_waits hc h,
    fun _ _ _ _ hqueues ha hb hne hturn => by
      obtain ⟨hfirst, hsecond, hrest⟩ := turns_taken hqueues ha hb hne hturn
      exact ⟨hfirst, hsecond, hrest, turns_pass hqueues ha hb⟩,
    fun _ _ _ _ _ hn hclass _ hwanted hloud => reply_queued hn hclass hwanted hloud,
    fun _ _ hacc hz hz1 hz2 => ⟨domain_set hacc hz hz1 hz2, domain_share_refused hacc⟩,
    fun _ _ hacc => domain_read hacc,
    fun _ _ _ _ _ _ hadm hn hqueue hreplies hlen hh => reply_popped hadm hn hqueue hreplies hlen hh,
    fun _ _ _ _ hadm => ⟨reply_in_denied hadm, reply_from_ring hadm, reply_lost hadm⟩⟩

end Sys2Proof.Machine
end

section
-- One proof at a time: the memory limit of the check counts a stack for every proof that waits for another.
set_option Elab.async false
/-! SUPPORT. The requests of a region port that wait for the network (R328): CFG_RGNr_STATUS counts them, so an answer changes a register. -/

namespace Sys2Proof.Machine

variable {s : State} {p tag : Nat}

/-- The count of the requests that a region's ports have in the network. -/
theorem syncTarget_outs (s : State) {t : Nat} (ht : t < 65) : (syncTarget t s).fld CFG_RGNr_STATUS_OUT_OUT t =
    (((portsOf t).map s.fab).map (fun x => x.outs.length)).sum % 2 ^ CFG_RGNr_STATUS_OUT_OUT.w := by
  have hports (u : State) : ((portsOf t).foldl (fun s p => s.setFld NOC_EPe_STATUS_OUTSTANDING (s.fab p).outstanding (fabricEndpoint p)) u).fld
      CFG_RGNr_STATUS_OUT_OUT t = u.fld CFG_RGNr_STATUS_OUT_OUT t := by
    have hkeep : onlyRegs ((portsOf t).map (fun p => NOC_EPe_STATUS_OUTSTANDING.key (fabricEndpoint p) 0 0)) u _ :=
      onlyRegs_foldl (f := fun s p => s.setFld NOC_EPe_STATUS_OUTSTANDING (s.fab p).outstanding (fabricEndpoint p)) (portsOf t)
        (fun v q hq => onlyRegs_mono (fun k hk => List.mem_singleton.mp hk ▸ List.mem_map.mpr ⟨q, hq, rfl⟩)
          (onlyRegs_setFld v NOC_EPe_STATUS_OUTSTANDING _ (fabricEndpoint q) 0 0)) u
    refine fld_congr CFG_RGNr_STATUS_OUT_OUT t 0 0 (hkeep.2 _ fun hk => ?_)
    obtain ⟨q, -, hq⟩ := List.mem_map.mp hk
    simp only [Field.key, NOC_EPe_STATUS_OUTSTANDING, CFG_RGNr_STATUS_OUT_OUT] at hq
    omega
  unfold syncTarget
  dsimp only
  rw [hports, fld_setFld_beside _ CFG_RGNr_STATUS_RSV_TAGS CFG_RGNr_STATUS_OUT_OUT]
  exact fld_setFld_same _ CFG_RGNr_STATUS_OUT_OUT _ t 0 0 (by unfold Field.good; decide)

/-- The count of a region's port follows the port. -/
theorem modFab_outs (s : State) (g : FabPort → FabPort) {r : Nat} (hr : r < 64) :
    (s.modFab r g).fld CFG_RGNr_STATUS_OUT_OUT r = (g (s.fab r)).outs.length % 2 ^ CFG_RGNr_STATUS_OUT_OUT.w := by
  have htarget : targetOfPort r = r := by
    unfold targetOfPort
    omega
  have hport : portsOf r = [r] := if_pos hr
  have hfab : State.fab { s with cfg := { s.cfg with ports := Memory.set (fun _ => FabPort.reset) s.cfg.ports r (g (s.fab r)) } } r = g (s.fab r) :=
    Memory.get_set_same r _ s.cfg.ports
  unfold State.modFab
  rw [htarget, syncTarget_outs _ (by omega), hport, List.map_singleton, List.map_singleton, List.sum_singleton, hfab]

/-- A port's answer takes its request from those that wait. -/
theorem fabric_response_waited {p : Fin 68} {st : Status} {data : List Word} {poison : Bool} (houts : (s.fab p).outs = [tag]) :
    exec (.endpointResponse (.port p) tag st data poison) s =
      .next ((s.modFab p (fun x => { x with outs := dropFirst tag x.outs })).emit (.fabricResponse p tag st poison data)) := by
  have hcontains : (s.fab p).outs.contains tag = true := by
    rw [houts]
    simp
  exact congrArg Host.Outcome.next (if_pos hcontains)

/-- The request with tag 0 of region 0's port waits for its answer. -/
def oneRequestWaits : State := State.reset.modFab 0 (fun x => { x with outs := [0] })

theorem oneRequestWaits_port : (oneRequestWaits.fab 0).outs = [0] := congrArg FabPort.outs (fab_modFab_same State.reset 0 (fun x => { x with outs := [0] }))

theorem oneRequestWaits_count : oneRequestWaits.fld CFG_RGNr_STATUS_OUT_OUT 0 = 1 := modFab_outs State.reset (fun x => { x with outs := [0] }) (by decide)

/-- Refutes O53: the answer to a region port's request is said to leave every register, but CFG_RGN0_STATUS.OUT_OUT, which counts the port's requests
in the network, falls from 1 to 0. -/
theorem not_hostInterface : ¬ Obligations.HostInterface := by
  unfold Obligations.HostInterface
  rintro ⟨-, -, hport, -⟩
  obtain ⟨t, hexec, -, -, hregs, -⟩ := hport 0 0 .ok [] false oneRequestWaits oneRequestWaits_port
  rw [fabric_response_waited oneRequestWaits_port] at hexec
  have hcount : t.fld CFG_RGNr_STATUS_OUT_OUT 0 = 0 := by
    rw [← Host.Outcome.next.inj hexec]
    refine (modFab_outs oneRequestWaits (fun x => { x with outs := dropFirst 0 x.outs }) (by decide)).trans ?_
    show (dropFirst 0 (oneRequestWaits.fab 0).outs).length % 2 ^ CFG_RGNr_STATUS_OUT_OUT.w = 0
    rw [oneRequestWaits_port]
    rfl
  rw [fld_congr CFG_RGNr_STATUS_OUT_OUT 0 0 0 (reg_congr hregs _), oneRequestWaits_count] at hcount
  exact absurd hcount (by decide)

end Sys2Proof.Machine
end

section
-- One proof at a time: the memory limit of the check counts a stack for every proof that waits for another.
set_option Elab.async false
/-! SUPPORT. The starvation timer of a load that is CLOSING (R368, R406): it stands still until the first frame is written, whatever the
load has of its header. -/

namespace Sys2Proof.Machine

variable {s : State} {l : Load}

/-- The timer does not run from the start of CLOSING until the first frame is written. -/
theorem starvationExpire_closing (hload : s.cfg.load = some l) (hclosing : l.closing = true) (hreceived : l.received = 0) :
    exec .starvationExpire s = .next s := by
  rw [exec_starvationExpire]
  unfold execStarvationExpire
  rw [hload]
  exact if_pos (.inr (.inr (.inl ⟨hclosing, hreceived⟩)))

/-- A partial load that fails before its header has passed stores its code. -/
theorem fail_stores_code (code : Nat) (hload : s.cfg.load = some l) (hclear : l.clear = false) (hpart : l.part = true) (hheader : l.header = none) :
    (loadFail code s).fld CFG_STATUS_FAIL = code % 2 ^ CFG_STATUS_FAIL.w := by
  have hstored : ((s.setFld CFG_STATUS_FAIL code).addFld CFG_LOADS_FAILED 1).fld CFG_STATUS_FAIL = code % 2 ^ CFG_STATUS_FAIL.w := by
    rw [fld_addFld_elsewhere _ CFG_LOADS_FAILED CFG_STATUS_FAIL 1 (by decide)]
    exact fld_setFld_same s CFG_STATUS_FAIL code 0 0 0 (by unfold Field.good; decide)
  have hreply (ws : List Nat) (t : State) : (replyLoad l .loadFailed ws t).fld CFG_STATUS_FAIL = t.fld CFG_STATUS_FAIL := by
    unfold replyLoad
    split
    · exact (replied_endCommand _ _ _ _).fld CFG_STATUS_FAIL 0 (by decide) (by decide)
    · rfl
  unfold loadFail
  rw [hload]
  simp only [hclear, hpart, hheader, Bool.false_eq_true, if_false, Option.isSome_none, false_and, not_true_eq_false, clearFailed, Option.isNone_none, if_true]
  rw [hreply]
  exact (fld_raise_between rfl rfl (by decide) code _ CFG_STATUS_FAIL 0 (by decide) (by decide)).trans hstored

/-- A partial load by command that is closing its targets and has no header. -/
def closingLoad : Load := { Load.fresh (some (Packet.mk 0 0 [])) 0 true 0 with closing := true }

/-- A reset device with that load. -/
def closingState : State := setLoad (some closingLoad) State.reset

/-- Refutes O37: a load that is closing, with no frame written, is said to fail with code 7 when its starvation timer expires, but the timer of
such a load does not run, and CFG_STATUS.FAIL stays 0. -/
theorem not_configurationStream : ¬ Obligations.ConfigurationStream := by
  unfold Obligations.ConfigurationStream
  rintro ⟨-, -, -, -, -, -, -, -, -, -, -, -, hstarved, -⟩
  have hstays : exec .starvationExpire closingState = .next closingState := starvationExpire_closing (l := closingLoad) rfl rfl rfl
  have hfails := hstarved closingLoad closingState rfl rfl rfl rfl rfl
  have hcode : closingState.fld CFG_STATUS_FAIL = 7 := by
    rw [Host.Outcome.next.inj (hstays.symm.trans hfails)]
    exact fail_stores_code 7 rfl rfl rfl rfl
  exact absurd hcode (by decide)

end Sys2Proof.Machine
end

section
-- One proof at a time: the memory limit of the check counts a stack for every proof that waits for another.
set_option Elab.async false
/-! SUPPORT. Serial lanes (R529 to R537): a lane's registers after the write of one of them, its preset, its mode, and the comparison of
received bits with a pattern. -/

namespace Sys2Proof.Machine

variable {s t u : State} {l : List Nat}

/-! ### A lane's registers -/

/-- A field of a lane as it was written. -/
theorem fld_lane_same (s : State) (F : Field) (v n : Nat) (hF : F.lo + F.w ≤ 64) : (s.setFld F v n).fld F n = v % 2 ^ F.w :=
  fld_setFld_same s F v n 0 0 hF

/-- A field of a lane after the write of another one. -/
theorem fld_lane_other (s : State) (F G : Field) (v n : Nat) (hs : F.s1 = G.s1) (hF : F.lo + F.w ≤ 64)
    (h : F.off ≠ G.off ∨ F.lo + F.w ≤ G.lo ∨ G.lo + G.w ≤ F.lo) : (s.setFld F v n).fld G n = s.fld G n := by
  refine fld_setFld_other s F G v n 0 0 n 0 0 hF ?_
  unfold Field.apart Field.key
  rw [hs]
  omega

/-- A field of a lane after the write of another register of the lane. -/
theorem fld_lane_setReg_other (s : State) (F G : Field) (v : Word) (n : Nat) (hs : F.s1 = G.s1) (h : F.off ≠ G.off) :
    (s.setReg (F.key n 0 0) v).fld G n = s.fld G n := by
  refine fld_setReg_other s G _ v n 0 0 ?_
  unfold Field.key
  rw [hs]
  omega

/-- A field of a lane after the write of its register. -/
theorem fld_lane_setReg_same (s : State) (F G : Field) (v : Word) (n : Nat) (hs : F.s1 = G.s1) (h : F.off = G.off) :
    (s.setReg (F.key n 0 0) v).fld G n = bits v G.lo G.w := by
  unfold State.fld
  have hkey : G.key n 0 0 = F.key n 0 0 := by
    unfold Field.key
    rw [hs, h, Nat.mul_zero, Nat.mul_zero, Nat.mul_zero, Nat.mul_zero]
  rw [hkey, reg_setReg_same]

/-- Nothing changes but the registers of a list and the lanes. -/
def lanesOnly (l : List Nat) (s t : State) : Prop := t = { s with regs := t.regs, lanes := t.lanes } ∧ regsKeep l s t

theorem lanesOnly.onlyRegs (h : lanesOnly l s t) : onlyRegs l { s with lanes := t.lanes } t := ⟨h.1, h.2⟩

theorem lanesOnly.out (h : lanesOnly l s t) : t.out = s.out := by rw [h.1]

theorem lanesOnly_of_onlyRegs (h : onlyRegs l s t) : lanesOnly l s t := by
  obtain ⟨hrest, hkeep⟩ := h
  have hlanes : t.lanes = s.lanes := by rw [hrest]
  refine ⟨?_, hkeep⟩
  rw [hlanes]
  exact hrest

theorem lanesOnly_mono {l' : List Nat} (hl : ∀ k ∈ l, k ∈ l') (h : lanesOnly l s t) : lanesOnly l' s t := ⟨h.1, regsKeep_mono hl h.2⟩

theorem lanesOnly_trans (h : lanesOnly l s t) (h' : lanesOnly l t u) : lanesOnly l s u := by
  refine ⟨?_, regsKeep_trans h.2 h'.2⟩
  rw [h'.1, h.1]

theorem lanesOnly_setFld (s : State) (F : Field) (v n : Nat) (hF : F.key n 0 0 ∈ l) : lanesOnly l s (s.setFld F v n) :=
  lanesOnly_mono (fun _ hk => List.mem_singleton.mp hk ▸ hF) (lanesOnly_of_onlyRegs (onlyRegs_setFld s F v n 0 0))

theorem lanesOnly_setReg (s : State) {k : Nat} (v : Word) (hk : k ∈ l) : lanesOnly l s (s.setReg k v) :=
  ⟨rfl, regsKeep_mono (fun _ hj => List.mem_singleton.mp hj ▸ hk) (regsKeep_setReg s k v)⟩

theorem lanesOnly_lanes (s : State) (x : LaneState) : lanesOnly l s { s with lanes := x } := ⟨rfl, regsKeep_refl l s⟩

theorem lanesOnly_ite {P : Prop} [Decidable P] (ht : lanesOnly l s t) (hu : lanesOnly l s u) : lanesOnly l s (if P then t else u) := by
  split
  · exact ht
  · exact hu

/-- The registers that a lane's mode is read from. -/
def modeKeys (n : Nat) : List Nat := [LNK_LANEn_CTL_MODE.key n 0 0, PCI_CTL_LINK_DIS.off, BRL_CTL_PORT_EN.off]

theorem laneMode_congr {n : Nat} (h : ∀ k ∈ modeKeys n, t.reg k = s.reg k) : laneMode n t = laneMode n s := by
  have hmode : t.fld LNK_LANEn_CTL_MODE n = s.fld LNK_LANEn_CTL_MODE n := fld_congr _ n 0 0 (h _ (by simp [modeKeys]))
  have hhost : t.on PCI_CTL_LINK_DIS = s.on PCI_CTL_LINK_DIS := by
    unfold State.on
    rw [fld_congr PCI_CTL_LINK_DIS 0 0 0 (h _ (by simp [modeKeys, Field.key]))]
  have hport : t.fbit BRL_CTL_PORT_EN ((n - 16) / 4) = s.fbit BRL_CTL_PORT_EN ((n - 16) / 4) := by
    unfold State.fbit
    rw [fld_congr BRL_CTL_PORT_EN 0 0 0 (h _ (by simp [modeKeys, Field.key]))]
  unfold laneMode
  rw [hmode, hhost, hport]

/-- A lane of MODE 0 or 1 is in that mode. -/
theorem laneMode_of_fld {n v : Nat} (h : s.fld LNK_LANEn_CTL_MODE n = v) (hv : v ≠ 2) : laneMode n s = v := by
  unfold laneMode
  rw [h]
  exact if_neg hv

/-! ### The preset of a lane (R532) -/

theorem presetOf_eq (loss : Nat) : presetOf loss = if loss < 8 then 0 else if loss < 16 then 1 else if loss < 24 then 2 else 3 := rfl

theorem presetOf_lt (loss : Nat) : presetOf loss < 4 := by
  unfold presetOf
  split_ifs <;> decide

theorem preset_ctle (loss : Nat) : (presetValues (presetOf loss)).1 % 2 ^ 4 = if loss < 8 then 2 else if loss < 16 then 6 else if loss < 24 then 10 else 14 := by
  unfold presetOf
  split_ifs <;> rfl

theorem preset_tap0 (loss : Nat) : (presetValues (presetOf loss)).2.1 % 2 ^ 8 = if loss < 8 then 0 else if loss < 16 then 8 else if loss < 24 then 20 else 32 := by
  unfold presetOf
  split_ifs <;> rfl

theorem preset_tap1 (loss : Nat) : (presetValues (presetOf loss)).2.2.1 % 2 ^ 8 = if loss < 16 then 0 else if loss < 24 then 6 else 12 := by
  grind [presetOf, presetValues]

theorem preset_tap2 (loss : Nat) : (presetValues (presetOf loss)).2.2.2 % 2 ^ 8 = if loss < 24 then 0 else 4 := by
  grind [presetOf, presetValues]

/-- The registers that a preset is loaded into. -/
def presetKeys (n : Nat) : List Nat := [LNK_LANEn_RXSTAT_CTLE.key n 0 0, LNK_LANEn_DFE0_TAP0.key n 0 0, LNK_LANEn_DFE1_TAP0.key n 0 0]

theorem loadPreset_lanesOnly (n p : Nat) (s : State) : lanesOnly (presetKeys n) s (loadPreset n p s) := by
  unfold loadPreset
  refine lanesOnly_trans (lanesOnly_trans (lanesOnly_trans (lanesOnly_setFld s LNK_LANEn_RXSTAT_PRESET p n (.head _))
    (lanesOnly_setFld _ LNK_LANEn_RXSTAT_CTLE _ n (.head _))) (lanesOnly_setReg _ _ ?_)) (lanesOnly_setReg _ _ ?_)
  · simp [presetKeys]
  · simp [presetKeys]

theorem loadPreset_lanes (n p : Nat) (s : State) : (loadPreset n p s).lanes = s.lanes := rfl

theorem loadPreset_preset (n : Nat) {p : Nat} (hp : p < 4) (s : State) : (loadPreset n p s).fld LNK_LANEn_RXSTAT_PRESET n = p := by
  unfold loadPreset
  simp (disch := decide) only [fld_lane_setReg_other, fld_lane_other, fld_lane_same]
  exact Nat.mod_eq_of_lt hp

theorem loadPreset_ctle (n p : Nat) (s : State) : (loadPreset n p s).fld LNK_LANEn_RXSTAT_CTLE n = (presetValues p).1 % 2 ^ 4 := by
  unfold loadPreset
  simp (disch := decide) only [fld_lane_setReg_other, fld_lane_same]
  rfl

/-- The status of a lane but for what a preset sets. -/
theorem loadPreset_status (n p : Nat) (s : State) {F : Field} (hs : F.s1 = 0x100) (hF : F = LNK_LANEn_RXSTAT_BIT_LOCK ∨ F = LNK_LANEn_RXSTAT_LOSS_DB ∨
    F = LNK_LANEn_ERR_CHK_LOCK ∨ F.off = 0x1800000) : (loadPreset n p s).fld F n = s.fld F n := by
  unfold loadPreset
  rcases hF with rfl | rfl | rfl | hoff
  · simp (disch := decide) only [fld_lane_setReg_other, fld_lane_other]
  · simp (disch := decide) only [fld_lane_setReg_other, fld_lane_other]
  · simp (disch := decide) only [fld_lane_setReg_other, fld_lane_other]
  · have hne (k : Nat) : 0x1800000 + (k + 1) ≠ F.off := by omega
    rw [fld_lane_setReg_other _ _ F _ n hs.symm (hne 0x1F), fld_lane_setReg_other _ _ F _ n hs.symm (hne 0x17),
      fld_lane_other _ _ F _ n hs.symm (by decide) (.inl (hne 0xF)), fld_lane_other _ _ F _ n hs.symm (by decide) (.inl (hne 0xF))]

/-- The word of taps 1 to 3. -/
theorem loadPreset_taps (n p : Nat) (s : State) : (loadPreset n p s).reg (LNK_LANEn_DFE0_TAP0.key n 0 0) =
    mkWord [(0, 8, (presetValues p).2.1), (8, 8, (presetValues p).2.2.1), (16, 8, (presetValues p).2.2.2)] := by
  unfold loadPreset
  have hne : LNK_LANEn_DFE0_TAP0.key n 0 0 ≠ LNK_LANEn_DFE1_TAP0.key n 0 0 := by
    simp only [Field.key, LNK_LANEn_DFE0_TAP0, LNK_LANEn_DFE1_TAP0]
    omega
  rw [reg_setReg_other _ _ hne, reg_setReg_same]

theorem loadPreset_tap0 (n p : Nat) (s : State) : (loadPreset n p s).fld LNK_LANEn_DFE0_TAP0 n = (presetValues p).2.1 % 2 ^ 8 := by
  unfold State.fld
  rw [loadPreset_taps]
  exact bits_mkWord_head 0 8 _ _ (by decide)

theorem loadPreset_tap1 (n p : Nat) (s : State) : (loadPreset n p s).fld LNK_LANEn_DFE0_TAP1 n = (presetValues p).2.2.1 % 2 ^ 8 := by
  refine (congrArg (fun w => bits w 8 8) (loadPreset_taps n p s)).trans ?_
  exact (bits_mkWord_skip 0 8 _ _ 8 8 (by decide) (by decide)).trans (bits_mkWord_head 8 8 _ _ (by decide))

theorem loadPreset_tap2 (n p : Nat) (s : State) : (loadPreset n p s).fld LNK_LANEn_DFE0_TAP2 n = (presetValues p).2.2.2 % 2 ^ 8 := by
  refine (congrArg (fun w => bits w 16 8) (loadPreset_taps n p s)).trans ?_
  exact (bits_mkWord_skip 0 8 _ _ 16 8 (by decide) (by decide)).trans
    ((bits_mkWord_skip 8 8 _ _ 16 8 (by decide) (by decide)).trans (bits_mkWord_head 16 8 _ _ (by decide)))

/-! ### Patterns (R534, R536) -/

/-- How many bits of a list are set. -/
def setCount (e : List Bool) : Nat := (e.filter id).length

theorem setCount_cons (b : Bool) (e : List Bool) : setCount (b :: e) = bnat b + setCount e := by
  cases b
  · exact (Nat.zero_add _).symm
  · exact Nat.add_comm _ _

theorem setCount_pos_of_last (e : List Bool) (h : e.getLast? = some true) : 0 < setCount e := by
  refine List.length_pos_of_mem (a := true) (List.mem_filter.mpr ⟨List.mem_of_getLast? h, rfl⟩)

/-- A checker after one more bit, with its error. -/
def afterBit (chk : Nat) (e : Bool) (c : LaneCheck) : LaneCheck :=
  { c with ref := pushBit c.ref (patternNext chk c.ref), misses := e :: c.misses }

/-- A received bit that differs from the pattern's by `e` is an error where `e` is set. -/
theorem compareBit_error (chk : Nat) (e : Bool) (c : LaneCheck) (h : c.misses.length < 1024) :
    compareBit chk (e ^^ patternNext chk c.ref) c = (e, afterBit chk e c) := by
  have hbit : ((e ^^ patternNext chk c.ref) ^^ patternNext chk c.ref) = e := by
    rw [Bool.xor_assoc, Bool.xor_self, Bool.xor_false]
  have htake : (e :: c.misses).take 1024 = e :: c.misses := List.take_of_length_le h
  simp only [compareBit, afterBit, hbit, htake]

/-- A bit after which fewer than 256 of the last 1,024 mismatch leaves the checker in lock. -/
theorem compareBits_cons_locked {chk : Nat} {e : Bool} {c : LaneCheck} (r : List Bool) (hlen : c.misses.length < 1024) (h : bnat e + setCount c.misses < 256) :
    compareBits chk none ((e ^^ patternNext chk c.ref) :: r) c = ((compareBits chk none r (afterBit chk e c)).1 + 1,
      (compareBits chk none r (afterBit chk e c)).2.1 + bnat e, (compareBits chk none r (afterBit chk e c)).2.2.1,
      (compareBits chk none r (afterBit chk e c)).2.2.2) := by
  have hcount : ¬ 256 ≤ setCount (e :: c.misses) := by
    rw [setCount_cons]
    omega
  rw [compareBits]
  simp only [compareBit_error chk e c hlen]
  exact if_neg hcount

/-- The bit with which 256 mismatch loses lock. -/
theorem compareBits_cons_lost {chk : Nat} {e : Bool} {c : LaneCheck} (r : List Bool) (hlen : c.misses.length < 1024) (h : 256 ≤ bnat e + setCount c.misses) :
    compareBits chk none ((e ^^ patternNext chk c.ref) :: r) c = (1, bnat e, true, afterBit chk e c) := by
  have hcount : 256 ≤ setCount (e :: c.misses) := by
    rw [setCount_cons]
    exact h
  rw [compareBits]
  simp only [compareBit_error chk e c hlen]
  exact if_pos hcount

/-- Bits that differ from the pattern's by `e`. -/
def flipped (chk : Nat) (e : List Bool) (ref : Word) : List Bool := List.zipWith xor e (patternRun chk e.length ref)

theorem flipped_cons (chk : Nat) (b : Bool) (e : List Bool) (ref : Word) :
    flipped chk (b :: e) ref = (b ^^ patternNext chk ref) :: flipped chk e (pushBit ref (patternNext chk ref)) := rfl

/-- Fewer than 256 errors: each bit is compared, each error counted, and lock stays. -/
theorem compareBits_locked (chk : Nat) (e : List Bool) : ∀ c : LaneCheck, c.misses.length + e.length ≤ 1024 → setCount e + setCount c.misses < 256 →
    (compareBits chk none (flipped chk e c.ref) c).1 = e.length ∧ (compareBits chk none (flipped chk e c.ref) c).2.1 = setCount e ∧
      (compareBits chk none (flipped chk e c.ref) c).2.2.1 = false := by
  induction e with
  | nil => exact fun c _ _ => ⟨rfl, rfl, rfl⟩
  | cons b e ih =>
    intro c hlen hfew
    rw [setCount_cons] at hfew
    rw [List.length_cons] at hlen
    have hnext : setCount e + setCount (b :: c.misses) < 256 := by
      rw [setCount_cons]
      omega
    obtain ⟨hbits, herrors, hlock⟩ := ih (afterBit chk b c) (by simp only [afterBit, List.length_cons]; omega) hnext
    simp only [afterBit] at hbits herrors hlock
    rw [flipped_cons, compareBits_cons_locked _ (by omega) (by omega)]
    refine ⟨?_, ?_, hlock⟩
    · exact congrArg (· + 1) hbits
    · rw [setCount_cons, Nat.add_comm (bnat b)]
      exact congrArg (· + bnat b) herrors

/-- The 256th error, at the last bit, loses lock after each bit is compared and each error counted. -/
theorem compareBits_lost (chk : Nat) (e : List Bool) : ∀ c : LaneCheck, c.misses.length + e.length ≤ 1024 → setCount e + setCount c.misses = 256 →
    e.getLast? = some true → (compareBits chk none (flipped chk e c.ref) c).1 = e.length ∧
      (compareBits chk none (flipped chk e c.ref) c).2.1 = setCount e ∧ (compareBits chk none (flipped chk e c.ref) c).2.2.1 = true := by
  induction e with
  | nil => exact fun c _ _ hlast => absurd hlast (by simp)
  | cons b e ih =>
    intro c hlen hcount hlast
    rw [setCount_cons] at hcount
    rw [List.length_cons] at hlen
    cases e with
    | nil =>
      have hb : b = true := Option.some.inj hlast
      subst hb
      have hlost : 256 ≤ bnat true + setCount c.misses := Nat.le_of_eq hcount.symm
      rw [flipped_cons, compareBits_cons_lost _ (by omega) hlost]
      exact ⟨rfl, rfl, rfl⟩
    | cons b' e' =>
      have hlast' : (b' :: e').getLast? = some true := by rw [← List.getLast?_cons_cons]; exact hlast
      have hpos := setCount_pos_of_last _ hlast'
      have hnext : setCount (b' :: e') + setCount (b :: c.misses) = 256 := by
        rw [setCount_cons b]
        omega
      obtain ⟨hbits, herrors, hlock⟩ := ih (afterBit chk b c) (by simp only [afterBit, List.length_cons] at hlen ⊢; omega) hnext hlast'
      simp only [afterBit] at hbits herrors hlock
      rw [flipped_cons, compareBits_cons_locked _ (by omega) (by omega)]
      refine ⟨?_, ?_, hlock⟩
      · exact congrArg (· + 1) hbits
      · rw [setCount_cons b, Nat.add_comm (bnat b)]
        exact congrArg (· + bnat b) herrors

/-- A looped checker after one more bit of its generator. -/
def afterLoop (chk : Nat) (c : LaneCheck) : LaneCheck :=
  { ref := pushBit c.ref (patternNext chk c.ref), gen := pushBit c.gen (patternNext chk c.gen), flips := c.flips - 1,
    misses := decide (0 < c.flips) :: c.misses }

theorem compareBits_cons_loop {chk : Nat} {c : LaneCheck} (b : Bool) (r : List Bool) (hgen : c.gen = c.ref) (hlen : c.misses.length < 1024)
    (h : bnat (decide (0 < c.flips)) + setCount c.misses < 256) :
    compareBits chk (some chk) (b :: r) c = ((compareBits chk (some chk) r (afterLoop chk c)).1 + 1,
      (compareBits chk (some chk) r (afterLoop chk c)).2.1 + bnat (decide (0 < c.flips)), (compareBits chk (some chk) r (afterLoop chk c)).2.2.1,
      (compareBits chk (some chk) r (afterLoop chk c)).2.2.2) := by
  have hcount : ¬ 256 ≤ setCount (decide (0 < c.flips) :: c.misses) := by
    rw [setCount_cons]
    omega
  have hbit : (loopBit chk c).1 = (decide (0 < c.flips) ^^ patternNext chk c.ref) := by
    unfold loopBit
    rw [hgen, Bool.xor_comm]
  have hcompare : compareBit chk (loopBit chk c).1 (loopBit chk c).2 = (decide (0 < c.flips), afterLoop chk c) := by
    rw [hbit]
    exact compareBit_error chk _ (loopBit chk c).2 hlen
  rw [compareBits]
  simp only [hcompare]
  exact if_neg hcount

/-- A looped lane whose checker follows its generator: each inverted bit is one error, and the injection ends. -/
theorem compareBits_looped (chk : Nat) (r : List Bool) : ∀ c : LaneCheck, c.gen = c.ref → c.misses.length + r.length ≤ 1024 →
    c.flips + setCount c.misses < 256 → c.flips ≤ r.length →
    (compareBits chk (some chk) r c).1 = r.length ∧ (compareBits chk (some chk) r c).2.1 = c.flips ∧
      (compareBits chk (some chk) r c).2.2.1 = false ∧ (compareBits chk (some chk) r c).2.2.2.flips = 0 := by
  induction r with
  | nil =>
    intro c _ _ _ hflips
    have hzero : c.flips = 0 := Nat.le_zero.mp hflips
    exact ⟨rfl, hzero.symm, rfl, hzero⟩
  | cons b r ih =>
    intro c hgen hlen hfew hflips
    rw [List.length_cons] at hlen hflips
    have hone : bnat (decide (0 < c.flips)) + (c.flips - 1) = c.flips := by
      cases c.flips with
      | zero => rfl
      | succ k => exact Nat.add_comm 1 k
    have hnext : c.flips - 1 + setCount (decide (0 < c.flips) :: c.misses) < 256 := by
      rw [setCount_cons]
      omega
    obtain ⟨hbits, herrors, hlock, hend⟩ := ih (afterLoop chk c) (by simp only [afterLoop, hgen]) (by simp only [afterLoop, List.length_cons]; omega) hnext
      (by simp only [afterLoop]; omega)
    rw [compareBits_cons_loop b r hgen (by omega) (by omega)]
    refine ⟨?_, ?_, hlock, hend⟩
    · exact congrArg (· + 1) hbits
    · show (compareBits chk (some chk) r (afterLoop chk c)).2.1 + _ = _
      rw [herrors, Nat.add_comm]
      exact hone

end Sys2Proof.Machine
end

section
-- One proof at a time: the memory limit of the check counts a stack for every proof that waits for another.
set_option Elab.async false
/-! Bit lock, restart, patterns, injection and user lane words of serial lanes (R532 to R537, R577); O48. -/

namespace Sys2Proof.Machine

variable {s t : State} {m : Ident} {n : Fin 96}

/-! ### LANE_BIT_LOCK (R532) -/

/-- The loss is measured, and its preset loaded. -/
def lossMeasured (n loss : Nat) (s : State) : State :=
  let locked := s.setFld LNK_LANEn_RXSTAT_BIT_LOCK 1 n
  loadPreset n (presetOf loss) ({ locked with lanes := { s.lanes with settled := s.lanes.settled ++ [n] } }.setFld LNK_LANEn_RXSTAT_LOSS_DB (min loss 255) n)

theorem bitLock_first (loss : Nat) (hon : laneOn n s = true) (hfirst : s.lanes.settled.contains n.val = false) :
    exec (.laneBitLock n loss) s = .next (lossMeasured n loss s) := by
  rw [exec_laneBitLock]
  unfold execLaneBitLock
  rw [if_neg (by simp [hon])]
  exact if_neg (by rw [setFld_lanes, hfirst]; decide)

theorem bitLock_again (loss : Nat) (hon : laneOn n s = true) (hsettled : s.lanes.settled.contains n.val = true) :
    exec (.laneBitLock n loss) s = .next (s.setFld LNK_LANEn_RXSTAT_BIT_LOCK 1 n) := by
  rw [exec_laneBitLock]
  unfold execLaneBitLock
  rw [if_neg (by simp [hon])]
  exact if_pos hsettled

theorem bitLock_off (loss : Nat) (hoff : laneOn n s = false) : exec (.laneBitLock n loss) s = .next s := by
  rw [exec_laneBitLock]
  exact if_pos (by simp [hoff])

theorem lossMeasured_lock (n loss : Nat) (s : State) : (lossMeasured n loss s).fld LNK_LANEn_RXSTAT_BIT_LOCK n = 1 := by
  unfold lossMeasured
  rw [loadPreset_status n _ _ rfl (.inl rfl), fld_lane_other _ LNK_LANEn_RXSTAT_LOSS_DB LNK_LANEn_RXSTAT_BIT_LOCK _ n rfl (by decide) (by decide)]
  exact fld_lane_same s LNK_LANEn_RXSTAT_BIT_LOCK 1 n (by decide)

theorem lossMeasured_loss (n loss : Nat) (s : State) : (lossMeasured n loss s).fld LNK_LANEn_RXSTAT_LOSS_DB n = min loss 255 := by
  unfold lossMeasured
  rw [loadPreset_status n _ _ rfl (.inr (.inl rfl)), fld_lane_same _ _ _ n (by decide)]
  exact Nat.mod_eq_of_lt (Nat.lt_of_le_of_lt (Nat.min_le_right loss 255) (by decide))

theorem lossMeasured_lanesOnly (n loss : Nat) (s : State) : lanesOnly (presetKeys n) s (lossMeasured n loss s) := by
  unfold lossMeasured
  exact lanesOnly_trans (lanesOnly_trans (lanesOnly_trans (lanesOnly_setFld s LNK_LANEn_RXSTAT_BIT_LOCK 1 n (.head _)) (lanesOnly_lanes _ _))
    (lanesOnly_setFld _ LNK_LANEn_RXSTAT_LOSS_DB _ n (.head _))) (loadPreset_lanesOnly n _ _)

/-- The bit-lock clause of O48. -/
theorem bit_lock (n : Fin 96) (loss : Nat) (s : State) :
    (laneOn n s = true → s.lanes.settled.contains n.val = false →
      ∃ t, exec (.laneBitLock n loss) s = .next t ∧ t.fld LNK_LANEn_RXSTAT_BIT_LOCK n = 1 ∧
        t.fld LNK_LANEn_RXSTAT_LOSS_DB n = min loss 255 ∧ t.lanes.settled = s.lanes.settled ++ [n.val] ∧
        t.fld LNK_LANEn_RXSTAT_PRESET n = (if loss < 8 then 0 else if loss < 16 then 1 else if loss < 24 then 2 else 3) ∧
        t.fld LNK_LANEn_RXSTAT_CTLE n = (if loss < 8 then 2 else if loss < 16 then 6 else if loss < 24 then 10 else 14) ∧
        t.fld LNK_LANEn_DFE0_TAP0 n = (if loss < 8 then 0 else if loss < 16 then 8 else if loss < 24 then 20 else 32) ∧
        t.fld LNK_LANEn_DFE0_TAP1 n = (if loss < 16 then 0 else if loss < 24 then 6 else 12) ∧
        t.fld LNK_LANEn_DFE0_TAP2 n = (if loss < 24 then 0 else 4) ∧ onlyRegs (presetKeys n) { s with lanes := t.lanes } t) ∧
    (laneOn n s = true → s.lanes.settled.contains n.val = true →
      ∃ t, exec (.laneBitLock n loss) s = .next t ∧ t.fld LNK_LANEn_RXSTAT_BIT_LOCK n = 1 ∧
        t.fld LNK_LANEn_RXSTAT_CTLE n = s.fld LNK_LANEn_RXSTAT_CTLE n ∧ onlyRegs [LNK_LANEn_RXSTAT_CTLE.key n 0 0] s t) ∧
    (laneOn n s = false → exec (.laneBitLock n loss) s = .next s) := by
  refine ⟨fun hon hfirst => ?_, fun hon hsettled => ?_, bitLock_off loss⟩
  · exact ⟨_, bitLock_first loss hon hfirst, lossMeasured_lock n loss s, lossMeasured_loss n loss s, rfl, loadPreset_preset n (presetOf_lt loss) _,
      (loadPreset_ctle n _ _).trans (preset_ctle loss), (loadPreset_tap0 n _ _).trans (preset_tap0 loss), (loadPreset_tap1 n _ _).trans (preset_tap1 loss),
      (loadPreset_tap2 n _ _).trans (preset_tap2 loss), (lossMeasured_lanesOnly n loss s).onlyRegs⟩
  · exact ⟨_, bitLock_again loss hon hsettled, fld_lane_same s LNK_LANEn_RXSTAT_BIT_LOCK 1 n (by decide),
      fld_lane_other s LNK_LANEn_RXSTAT_BIT_LOCK LNK_LANEn_RXSTAT_CTLE 1 n rfl (by decide) (by decide), onlyRegs_setFld s LNK_LANEn_RXSTAT_BIT_LOCK 1 n 0 0⟩

/-! ### LANE_RESTART (R532) -/

/-- MODE, BLOCK, LOOP and ADAPT as a write of LNK_LANEn_CTL leaves them. -/
def laneCtlStored (n : Nat) (data : Word) (s : State) : State :=
  let s := if s.fld LNK_LANEn_CTL_MODE n = 1 then s else s.setFld LNK_LANEn_CTL_BLOCK (bits data 4 1) n
  let s := if bits data 0 2 = 3 then s else s.setFld LNK_LANEn_CTL_MODE (bits data 0 2) n
  (s.setFld LNK_LANEn_CTL_LOOP (bits data 2 1) n).setFld LNK_LANEn_CTL_ADAPT (bits data 5 1) n

/-- A lane takes the mode: MODE 0 powers it down, and outside TEST its checker is out of lock. -/
def modeTaken (n mode : Nat) (s : State) : State :=
  if mode = 0 then powerDownLane n s else if laneMode n s = 2 then s else s.setFld LNK_LANEn_ERR_CHK_LOCK 0 n

/-- A restarted lane has its preset again and waits for a bit lock. -/
def laneRestarted (n : Nat) (s : State) : State :=
  let s := if s.lanes.settled.contains n then loadPreset n (presetOf (s.fld LNK_LANEn_RXSTAT_LOSS_DB n)) s else s
  unsettle (fun k => decide (k = n)) s

/-- The lane as a write of LNK_LANEn_CTL leaves it. -/
def laneCtlTaken (n : Nat) (data : Word) (s : State) : State :=
  let u := modeTaken n (bits data 0 2) (laneCtlStored n data s)
  if bit data 6 then laneRestarted n u else u

theorem restart_admitted {h : Half} (data : Word) (hadm : s.admits m .LNK_LANEn_CTL [n.val]) (hh : h ≠ .high) :
    exec (.laneRestart m n h data) s = .next (laneCtlTaken n data (renewLease m s)) := by
  have hlow : ¬ ¬ h.reaches 0 = true := by
    cases h with
    | full => decide
    | low => decide
    | high => exact absurd rfl hh
  rw [exec_laneRestart]
  refine congrArg Host.Outcome.next ((regWrite_admits hadm h _).trans ?_)
  exact if_neg hlow

theorem laneCtlStored_lanesOnly (n : Nat) (data : Word) (s : State) : lanesOnly [LNK_LANEn_CTL_MODE.key n 0 0] s (laneCtlStored n data s) := by
  have hset (u : State) (F : Field) (v : Nat) (hF : F.key n 0 0 = LNK_LANEn_CTL_MODE.key n 0 0) :
      lanesOnly [LNK_LANEn_CTL_MODE.key n 0 0] u (u.setFld F v n) := lanesOnly_setFld u F v n (hF ▸ .head _)
  have hsame (u : State) : lanesOnly [LNK_LANEn_CTL_MODE.key n 0 0] u u := lanesOnly_of_onlyRegs (onlyRegs_refl _ u)
  unfold laneCtlStored
  exact lanesOnly_trans (lanesOnly_trans (lanesOnly_trans (lanesOnly_ite (hsame s) (hset s LNK_LANEn_CTL_BLOCK _ rfl))
    (lanesOnly_ite (hsame _) (hset _ LNK_LANEn_CTL_MODE _ rfl))) (hset _ LNK_LANEn_CTL_LOOP _ rfl)) (hset _ LNK_LANEn_CTL_ADAPT _ rfl)

theorem laneCtlStored_lanes (n : Nat) (data : Word) (s : State) : (laneCtlStored n data s).lanes = s.lanes := by
  unfold laneCtlStored
  simp only [setFld_lanes, apply_ite State.lanes, ite_self]

theorem laneCtlStored_mode (n : Nat) (data : Word) (s : State) :
    (laneCtlStored n data s).fld LNK_LANEn_CTL_MODE n = if bits data 0 2 = 3 then s.fld LNK_LANEn_CTL_MODE n else bits data 0 2 := by
  have hblock : (if s.fld LNK_LANEn_CTL_MODE n = 1 then s else s.setFld LNK_LANEn_CTL_BLOCK (bits data 4 1) n).fld LNK_LANEn_CTL_MODE n =
      s.fld LNK_LANEn_CTL_MODE n := by
    split
    · rfl
    · exact fld_lane_other _ LNK_LANEn_CTL_BLOCK LNK_LANEn_CTL_MODE _ n rfl (by decide) (by decide)
  unfold laneCtlStored
  simp (disch := decide) only [fld_lane_other]
  split
  · exact hblock
  · rw [fld_lane_same _ _ _ n (by decide)]
    exact Nat.mod_eq_of_lt (bits_lt data 0 2)

theorem laneCtlStored_block (n : Nat) (data : Word) (s : State) :
    (laneCtlStored n data s).fld LNK_LANEn_CTL_BLOCK n = if s.fld LNK_LANEn_CTL_MODE n = 1 then s.fld LNK_LANEn_CTL_BLOCK n else bits data 4 1 := by
  have hmode (u : State) : (if bits data 0 2 = 3 then u else u.setFld LNK_LANEn_CTL_MODE (bits data 0 2) n).fld LNK_LANEn_CTL_BLOCK n =
      u.fld LNK_LANEn_CTL_BLOCK n := by
    split
    · rfl
    · exact fld_lane_other _ LNK_LANEn_CTL_MODE LNK_LANEn_CTL_BLOCK _ n rfl (by decide) (by decide)
  unfold laneCtlStored
  simp (disch := decide) only [fld_lane_other]
  rw [hmode]
  split
  · rfl
  · rw [fld_lane_same _ _ _ n (by decide)]
    exact Nat.mod_eq_of_lt (bits_lt data 4 1)

theorem laneCtlStored_loop (n : Nat) (data : Word) (s : State) : (laneCtlStored n data s).fld LNK_LANEn_CTL_LOOP n = bits data 2 1 := by
  unfold laneCtlStored
  simp (disch := decide) only [fld_lane_other, fld_lane_same]
  exact Nat.mod_eq_of_lt (bits_lt data 2 1)

theorem laneCtlStored_adapt (n : Nat) (data : Word) (s : State) : (laneCtlStored n data s).fld LNK_LANEn_CTL_ADAPT n = bits data 5 1 := by
  unfold laneCtlStored
  simp (disch := decide) only [fld_lane_same]
  exact Nat.mod_eq_of_lt (bits_lt data 5 1)

/-- The registers of a lane's status and of its checker. -/
def lockKeys (n : Nat) : List Nat := [LNK_LANEn_RXSTAT_CTLE.key n 0 0, LNK_LANEn_ERR_ERRORS.key n 0 0]

theorem powerDownLane_lanesOnly (n : Nat) (s : State) : lanesOnly (lockKeys n) s (powerDownLane n s) := by
  unfold powerDownLane
  exact lanesOnly_trans (lanesOnly_trans (lanesOnly_trans (lanesOnly_setFld s LNK_LANEn_RXSTAT_BIT_LOCK 0 n (.head _))
    (lanesOnly_setFld _ LNK_LANEn_RXSTAT_BLOCK_LOCK 0 n (.head _))) (lanesOnly_setFld _ LNK_LANEn_ERR_CHK_LOCK 0 n (.tail _ (.head _)))) (lanesOnly_lanes _ _)

theorem modeTaken_lanesOnly (n mode : Nat) (s : State) : lanesOnly (lockKeys n) s (modeTaken n mode s) :=
  lanesOnly_ite (powerDownLane_lanesOnly n s) (lanesOnly_ite (lanesOnly_of_onlyRegs (onlyRegs_refl _ s))
    (lanesOnly_setFld s LNK_LANEn_ERR_CHK_LOCK 0 n (.tail _ (.head _))))

theorem modeTaken_down (n : Nat) (s : State) :
    (modeTaken n 0 s).fld LNK_LANEn_RXSTAT_BIT_LOCK n = 0 ∧ (modeTaken n 0 s).fld LNK_LANEn_ERR_CHK_LOCK n = 0 := by
  have hstate (F : Field) : (modeTaken n 0 s).fld F n =
      (((s.setFld LNK_LANEn_RXSTAT_BIT_LOCK 0 n).setFld LNK_LANEn_RXSTAT_BLOCK_LOCK 0 n).setFld LNK_LANEn_ERR_CHK_LOCK 0 n).fld F n := rfl
  rw [hstate, hstate]
  simp (disch := decide) only [fld_lane_other, fld_lane_same]
  exact ⟨rfl, rfl⟩

/-- A lane of MODE 1 is out of TEST: its checker is out of lock, and it keeps its presets. -/
theorem modeTaken_protocol (n : Nat) (h : s.fld LNK_LANEn_CTL_MODE n = 1) : modeTaken n 1 s = s.setFld LNK_LANEn_ERR_CHK_LOCK 0 n := by
  unfold modeTaken
  rw [if_neg (by decide), if_neg (by rw [laneMode_of_fld h (by decide)]; decide)]

theorem laneRestarted_lanesOnly (n : Nat) (s : State) : lanesOnly (presetKeys n) s (laneRestarted n s) := by
  unfold laneRestarted
  exact lanesOnly_trans (lanesOnly_ite (loadPreset_lanesOnly n _ s) (lanesOnly_of_onlyRegs (onlyRegs_refl _ s))) (lanesOnly_lanes _ _)

/-- A restart leaves bit lock, the checker's lock and the lane's mode as they are. -/
theorem laneRestarted_status (n : Nat) (s : State) {F : Field} (hs : F.s1 = 0x100) (hF : F = LNK_LANEn_RXSTAT_BIT_LOCK ∨ F = LNK_LANEn_RXSTAT_LOSS_DB ∨
    F = LNK_LANEn_ERR_CHK_LOCK ∨ F.off = 0x1800000) : (laneRestarted n s).fld F n = s.fld F n := by
  have hpreset : (laneRestarted n s).fld F n =
      (if s.lanes.settled.contains n then loadPreset n (presetOf (s.fld LNK_LANEn_RXSTAT_LOSS_DB n)) s else s).fld F n := rfl
  rw [hpreset]
  split
  · exact loadPreset_status n _ s hs hF
  · rfl

theorem unsettled (p : Nat → Bool) (n : Nat) (hp : p n = true) (s : State) : (unsettle p s).lanes.settled.contains n = false := by
  simp [unsettle, hp]

theorem laneRestarted_settled (n : Nat) (s : State) : (laneRestarted n s).lanes.settled.contains n = false := unsettled _ n (by simp) _

/-- A settled lane has the preset of its loss again. -/
theorem laneRestarted_preset (n : Nat) (hsettled : s.lanes.settled.contains n = true) (hloss : s.fld LNK_LANEn_RXSTAT_LOSS_DB n < 8) :
    (laneRestarted n s).fld LNK_LANEn_RXSTAT_PRESET n = 0 ∧ (laneRestarted n s).fld LNK_LANEn_RXSTAT_CTLE n = 2 ∧
      (laneRestarted n s).reg (LNK_LANEn_DFE0_TAP0.key n 0 0) = 0 := by
  have hpreset : presetOf (s.fld LNK_LANEn_RXSTAT_LOSS_DB n) = 0 := if_pos hloss
  have hreg (k : Nat) : (laneRestarted n s).reg k = (loadPreset n 0 s).reg k := by
    unfold laneRestarted
    rw [if_pos hsettled, hpreset]
    rfl
  refine ⟨?_, ?_, ?_⟩
  · exact (fld_congr LNK_LANEn_RXSTAT_PRESET n 0 0 (hreg _)).trans (loadPreset_preset n (by decide) s)
  · exact (fld_congr LNK_LANEn_RXSTAT_CTLE n 0 0 (hreg _)).trans (loadPreset_ctle n 0 s)
  · exact (hreg _).trans (loadPreset_taps n 0 s)

/-- A field of a lane's control register after a restart. -/
theorem laneCtlTaken_ctl (n : Nat) (data : Word) (s : State) {F : Field} (hs : F.s1 = 0x100) (hF : F.off = 0x1800000) (h2 : F.s2 = 0) (h3 : F.s3 = 0) :
    (laneCtlTaken n data s).fld F n = (laneCtlStored n data s).fld F n := by
  have hmode : (modeTaken n (bits data 0 2) (laneCtlStored n data s)).fld F n = (laneCtlStored n data s).fld F n := by
    refine fld_congr F n 0 0 ((modeTaken_lanesOnly n _ _).2 _ ?_)
    simp only [lockKeys, Field.key, hs, hF, h2, h3, LNK_LANEn_RXSTAT_CTLE, LNK_LANEn_ERR_ERRORS, List.mem_cons, List.not_mem_nil, or_false]
    omega
  unfold laneCtlTaken
  dsimp only
  split
  · exact (laneRestarted_status n _ hs (.inr (.inr (.inr hF)))).trans hmode
  · exact hmode

/-- Bit lock and the checker's lock are those of the mode taken. -/
theorem laneCtlTaken_status (n : Nat) (data : Word) (s : State) {F : Field} (hs : F.s1 = 0x100) (hF : F = LNK_LANEn_RXSTAT_BIT_LOCK ∨ F = LNK_LANEn_RXSTAT_LOSS_DB ∨
    F = LNK_LANEn_ERR_CHK_LOCK ∨ F.off = 0x1800000) :
    (laneCtlTaken n data s).fld F n = (modeTaken n (bits data 0 2) (laneCtlStored n data s)).fld F n := by
  unfold laneCtlTaken
  dsimp only
  split
  · exact laneRestarted_status n _ hs hF
  · rfl

/-- A lane in PROTOCOL after the write of MODE 1. -/
theorem protocolTaken (n : Nat) {data : Word} (hmode : bits data 0 2 = 1) (s : State) :
    modeTaken n (bits data 0 2) (laneCtlStored n data s) = (laneCtlStored n data s).setFld LNK_LANEn_ERR_CHK_LOCK 0 n := by
  rw [hmode]
  refine modeTaken_protocol n ?_
  rw [laneCtlStored_mode, if_neg (by omega), hmode]

/-- The registers that a restart changes. -/
def restartKeys (n : Nat) : List Nat := [leaseKey, LNK_LANEn_CTL_MODE.key n 0 0, LNK_LANEn_RXSTAT_CTLE.key n 0 0, LNK_LANEn_DFE0_TAP0.key n 0 0,
  LNK_LANEn_DFE1_TAP0.key n 0 0, LNK_LANEn_ERR_ERRORS.key n 0 0]

theorem laneCtlTaken_lanesOnly (n : Nat) (data : Word) (s : State) : lanesOnly (restartKeys n) s (laneCtlTaken n data s) := by
  have hmode : lanesOnly (restartKeys n) s (modeTaken n (bits data 0 2) (laneCtlStored n data s)) :=
    lanesOnly_trans (lanesOnly_mono (by simp [restartKeys]) (laneCtlStored_lanesOnly n data s)) (lanesOnly_mono (by simp [restartKeys, lockKeys]) (modeTaken_lanesOnly n _ _))
  unfold laneCtlTaken
  exact lanesOnly_ite (lanesOnly_trans hmode (lanesOnly_mono (by simp [restartKeys, presetKeys]) (laneRestarted_lanesOnly n _))) hmode

/-- The restart clause of O48. -/
theorem lane_restart {h : Half} (data : Word) (hadm : s.admits m .LNK_LANEn_CTL [n.val]) (hh : h ≠ .high) : ∃ t, exec (.laneRestart m n h data) s = .next t ∧
    t.fld LNK_LANEn_CTL_MODE n = (if bits data 0 2 = 3 then s.fld LNK_LANEn_CTL_MODE n else bits data 0 2) ∧
    t.fld LNK_LANEn_CTL_BLOCK n = (if s.fld LNK_LANEn_CTL_MODE n = 1 then s.fld LNK_LANEn_CTL_BLOCK n else bits data 4 1) ∧
    t.fld LNK_LANEn_CTL_LOOP n = bits data 2 1 ∧ t.fld LNK_LANEn_CTL_ADAPT n = bits data 5 1 ∧
    (bits data 0 2 = 0 → t.fld LNK_LANEn_RXSTAT_BIT_LOCK n = 0 ∧ t.fld LNK_LANEn_ERR_CHK_LOCK n = 0) ∧
    (bits data 0 2 = 1 → t.fld LNK_LANEn_ERR_CHK_LOCK n = 0) ∧
    (bit data 6 = true → t.lanes.settled.contains n.val = false) ∧
    (bit data 6 = true → bits data 0 2 = 1 → s.lanes.settled.contains n.val = true → s.fld LNK_LANEn_RXSTAT_LOSS_DB n < 8 →
      t.fld LNK_LANEn_RXSTAT_PRESET n = 0 ∧ t.fld LNK_LANEn_RXSTAT_CTLE n = 2 ∧ t.reg (LNK_LANEn_DFE0_TAP0.key n 0 0) = 0) ∧
    onlyRegs (restartKeys n) { s with lanes := t.lanes } t := by
  have hlease (F : Field) (hF : leaseKey < F.off) : (renewLease m s).fld F n = s.fld F n := fld_renewLease_above m s hF n
  refine ⟨_, restart_admitted data hadm hh, ?_, ?_, ?_, ?_, fun hdown => ?_, fun hprotocol => ?_, fun hbit => ?_, fun hbit hprotocol hsettled hloss => ?_, ?_⟩
  · rw [laneCtlTaken_ctl n data _ rfl rfl rfl rfl, laneCtlStored_mode, hlease LNK_LANEn_CTL_MODE (by decide)]
  · rw [laneCtlTaken_ctl n data _ rfl rfl rfl rfl, laneCtlStored_block, hlease LNK_LANEn_CTL_MODE (by decide), hlease LNK_LANEn_CTL_BLOCK (by decide)]
  · rw [laneCtlTaken_ctl n data _ rfl rfl rfl rfl, laneCtlStored_loop]
  · rw [laneCtlTaken_ctl n data _ rfl rfl rfl rfl, laneCtlStored_adapt]
  · rw [laneCtlTaken_status n data _ rfl (.inl rfl), laneCtlTaken_status n data _ rfl (.inr (.inr (.inl rfl))), hdown]
    exact modeTaken_down n _
  · rw [laneCtlTaken_status n data _ rfl (.inr (.inr (.inl rfl))), protocolTaken n hprotocol]
    exact fld_lane_same _ LNK_LANEn_ERR_CHK_LOCK 0 n (by decide)
  · unfold laneCtlTaken
    rw [if_pos hbit]
    exact laneRestarted_settled n _
  · unfold laneCtlTaken
    rw [if_pos hbit, protocolTaken n hprotocol]
    refine laneRestarted_preset n ?_ ?_
    · rw [setFld_lanes, laneCtlStored_lanes, renewLease_lanes]
      exact hsettled
    · have hkeep : (laneCtlStored n data (renewLease m s)).fld LNK_LANEn_RXSTAT_LOSS_DB n = (renewLease m s).fld LNK_LANEn_RXSTAT_LOSS_DB n := by
        refine fld_congr LNK_LANEn_RXSTAT_LOSS_DB n 0 0 ((laneCtlStored_lanesOnly n data _).2 _ ?_)
        simp only [Field.key, LNK_LANEn_RXSTAT_LOSS_DB, LNK_LANEn_CTL_MODE, List.mem_singleton]
        omega
      rw [fld_lane_other _ LNK_LANEn_ERR_CHK_LOCK LNK_LANEn_RXSTAT_LOSS_DB 0 n rfl (by decide) (by decide), hkeep, hlease LNK_LANEn_RXSTAT_LOSS_DB (by decide)]
      exact hloss
  · exact (lanesOnly_trans (lanesOnly_mono (by simp [restartKeys]) (lanesOnly_of_onlyRegs (onlyRegs_renewLease m s))) (laneCtlTaken_lanesOnly n data _)).onlyRegs


/-! ### CHECKER_LOCK and the patterns (R534, R536) -/

theorem followsPattern_code {code : Nat} {user last : Word} (h : followsPattern code user last = true) : code ≠ 0 ∧ code ≠ 7 := by
  refine ⟨?_, ?_⟩
  · rintro rfl
    exact Bool.false_ne_true h
  · rintro rfl
    exact Bool.false_ne_true h

theorem mayLock_unlooped {seen : Word} (hloop : s.on LNK_LANEn_CTL_LOOP n = false) : mayLock n seen s =
    (checkerOn n s && followsPattern (s.fld LNK_LANEn_PAT_CHK n) (s.reg (LNK_LANEn_UPAT_PATTERN.key n 0 0)) seen) := by
  have hnone : loopOf n s = none := if_neg (by simp [hloop])
  unfold mayLock
  rw [hnone]
  exact Bool.and_true _

/-- A lane whose checker locks. -/
def checkerLocked (n : Nat) (seen : Word) (s : State) : State := setLaneCheck n ⟨seen, seen, 0, []⟩ (s.setFld LNK_LANEn_ERR_CHK_LOCK 1 n)

theorem laneCheck_set (n : Nat) (c : LaneCheck) (s : State) : (setLaneCheck n c s).laneCheck n = c := Memory.get_set_same n c s.lanes.checks

/-- The checker-lock clause of O48. -/
theorem checker_lock (seen : Word) (hloop : s.on LNK_LANEn_CTL_LOOP n = false) (hlock : s.on LNK_LANEn_ERR_CHK_LOCK n = false) {ok : Bool}
    (hok : followsPattern (s.fld LNK_LANEn_PAT_CHK n) (s.reg (LNK_LANEn_UPAT_PATTERN.key n 0 0)) seen = ok) :
    (laneMode n s = 2 → ok = true → ∃ t, exec (.checkerLock n seen) s = .next t ∧ t.fld LNK_LANEn_ERR_CHK_LOCK n = 1 ∧
      t.laneCheck n = ⟨seen, seen, 0, []⟩ ∧ t.fld LNK_LANEn_ERR_ERRORS n = s.fld LNK_LANEn_ERR_ERRORS n ∧
      onlyRegs [LNK_LANEn_ERR_ERRORS.key n 0 0] { s with lanes := t.lanes } t) ∧
    (ok = false ∨ laneMode n s ≠ 2 → exec (.checkerLock n seen) s = .next s) := by
  refine ⟨fun htest htrue => ?_, fun hnot => ?_⟩
  · rw [htrue] at hok
    obtain ⟨hzero, hseven⟩ := followsPattern_code hok
    have hmay : mayLock n seen s = true := by
      rw [mayLock_unlooped hloop, hok, Bool.and_true]
      exact decide_eq_true ⟨htest, hzero, hseven⟩
    refine ⟨checkerLocked n seen s, ?_, fld_lane_same s LNK_LANEn_ERR_CHK_LOCK 1 n (by decide), laneCheck_set n _ _,
      fld_lane_other s LNK_LANEn_ERR_CHK_LOCK LNK_LANEn_ERR_ERRORS 1 n rfl (by decide) (by decide),
      (lanesOnly_trans (lanesOnly_setFld s LNK_LANEn_ERR_CHK_LOCK 1 n (.head _)) (lanesOnly_lanes _ _)).onlyRegs⟩
    rw [exec_checkerLock]
    exact if_pos ⟨hmay, by simp [hlock]⟩
  · have hmay : mayLock n seen s = false := by
      rw [mayLock_unlooped hloop, hok]
      rcases hnot with hfalse | hmode
      · rw [hfalse, Bool.and_false]
      · rw [show checkerOn n s = false from decide_eq_false fun h => hmode h.1, Bool.false_and]
    rw [exec_checkerLock]
    exact if_neg (by simp [hmay])

theorem bit_reverse (user : Word) {i : Nat} (hi : i < 64) : bit user.reverse i = bit user ((63 + 64 - i) % 64) := by
  have hmod : (63 + 64 - i) % 64 = 63 - i := by omega
  unfold bit
  rw [BitVec.getLsbD_reverse, BitVec.getMsbD_eq_getLsbD, hmod]
  simp [hi]

/-- A USER pattern is followed by its bits in the order they are sent. -/
theorem followsPattern_user (user : Word) : followsPattern 6 user user.reverse = true := by
  have hturn : (List.range 64).all (fun i => bit user.reverse i == bit user ((63 + 64 - i) % 64)) = true :=
    List.all_eq_true.mpr fun i hi => beq_iff_eq.mpr (bit_reverse user (List.mem_range.mp hi))
  exact List.any_eq_true.mpr ⟨63, by simp, hturn⟩

theorem bit_pushBit_zero (last : Word) (b : Bool) : bit (pushBit last b) 0 = b := by
  cases b <;> simp [bit, pushBit]

theorem bit_pushBit_succ (last : Word) (b : Bool) {i : Nat} (hi : i < 63) : bit (pushBit last b) (i + 1) = bit last i := by
  have hbit : bit (if b then (1 : Word) else 0) (i + 1) = false := by
    cases b
    · simp [bit]
    · simp [bit, BitVec.getLsbD_one]
  unfold pushBit
  unfold bit at hbit ⊢
  have hlt : i + 1 < 64 := by omega
  rw [BitVec.getLsbD_or, hbit, Bool.or_false, BitVec.getLsbD_shiftLeft]
  simp [hlt]

/-- The bit that PRBS15 goes on with. -/
theorem followsPattern_prbs15 {user last : Word} {b : Bool} (h : followsPattern 3 user (pushBit last b) = true) : b = (bit last 14 ^^ bit last 13) := by
  have htaps : (bit (pushBit last b) 0 == (bit (pushBit last b) 15 ^^ bit (pushBit last b) 14)) = true :=
    List.all_eq_true.mp (Bool.and_eq_true_iff.mp h).2 0 (by simp)
  rw [beq_iff_eq, bit_pushBit_zero, bit_pushBit_succ last b (by decide), bit_pushBit_succ last b (by decide)] at htaps
  exact htaps

/-- The pattern clause of O48. -/
theorem patterns (user last : Word) : followsPattern 0 user last = false ∧ followsPattern 7 user last = false ∧ followsPattern 1 user 0 = false ∧
    followsPattern 6 user user.reverse = true ∧
    (followsPattern 3 user last = true → ∀ b, followsPattern 3 user (pushBit last b) = true → b = (bit last 14 ^^ bit last 13)) :=
  ⟨rfl, rfl, rfl, followsPattern_user user, fun _ _ h => followsPattern_prbs15 h⟩

/-! ### CHECKER_LOCK_LOSS (R536) -/

/-- A locked checker after a run of bits: `x` is what their comparison gives. -/
def bitsChecked (n : Nat) (x : Nat × Nat × Bool × LaneCheck) (s : State) : State :=
  let s := setLaneCheck n x.2.2.2 (countErrors n x.2.1 (s.addFld LNK_LANEn_BITS_COUNT x.1 n))
  if x.2.2.1 then s.setFld LNK_LANEn_ERR_CHK_LOCK 0 n else s

theorem syncChecker_on (hon : checkerOn n s = true) : syncChecker n s = s := if_pos hon

theorem bits_received (seen : List Bool) (hlock : s.on LNK_LANEn_ERR_CHK_LOCK n = true) (hon : checkerOn n s = true) :
    exec (.checkerLockLoss n seen) s = .next (bitsChecked n (compareBits (s.fld LNK_LANEn_PAT_CHK n) (loopOf n s) seen (s.laneCheck n)) s) := by
  rw [exec_checkerLockLoss]
  unfold execCheckerLockLoss
  rw [syncChecker_on hon]
  exact if_pos hlock

theorem bits_unlocked (seen : List Bool) (hlock : s.on LNK_LANEn_ERR_CHK_LOCK n = false) (hon : checkerOn n s = true) :
    exec (.checkerLockLoss n seen) s = .next s := by
  rw [exec_checkerLockLoss]
  unfold execCheckerLockLoss
  rw [syncChecker_on hon]
  exact if_neg (by simp [hlock])

theorem fld_of_on {F : Field} {i : Nat} (hw : F.w = 1) (h : s.on F i = true) : s.fld F i = 1 := by
  have hne : s.fld F i ≠ 0 := of_decide_eq_true h
  have hlt := fld_lt s F i 0 0
  rw [hw] at hlt
  omega

section
variable (n : Nat) (x : Nat × Nat × Bool × LaneCheck) (s : State)

/-- The state with the bits and errors counted, in lock. -/
theorem bitsChecked_locked (h : x.2.2.1 = false) :
    bitsChecked n x s = setLaneCheck n x.2.2.2 (countErrors n x.2.1 (s.addFld LNK_LANEn_BITS_COUNT x.1 n)) := by
  unfold bitsChecked
  rw [h]
  rfl

theorem bitsChecked_errors : (bitsChecked n x s).fld LNK_LANEn_ERR_ERRORS n = min (s.fld LNK_LANEn_ERR_ERRORS n + x.2.1) (2 ^ 48 - 1) := by
  have hcounted : (countErrors n x.2.1 (s.addFld LNK_LANEn_BITS_COUNT x.1 n)).fld LNK_LANEn_ERR_ERRORS n =
      min (s.fld LNK_LANEn_ERR_ERRORS n + x.2.1) (2 ^ 48 - 1) := by
    unfold countErrors State.addFld
    rw [fld_lane_same _ _ _ n (by decide), fld_lane_other _ LNK_LANEn_BITS_COUNT LNK_LANEn_ERR_ERRORS _ n rfl (by decide) (by decide)]
    exact Nat.mod_eq_of_lt (Nat.lt_of_le_of_lt (Nat.min_le_right _ _) (by decide))
  unfold bitsChecked
  dsimp only
  split
  · exact (fld_lane_other _ LNK_LANEn_ERR_CHK_LOCK LNK_LANEn_ERR_ERRORS 0 n rfl (by decide) (by decide)).trans hcounted
  · exact hcounted

theorem bitsChecked_count : (bitsChecked n x s).fld LNK_LANEn_BITS_COUNT n = (s.fld LNK_LANEn_BITS_COUNT n + x.1) % 2 ^ 64 := by
  have hcounted : (countErrors n x.2.1 (s.addFld LNK_LANEn_BITS_COUNT x.1 n)).fld LNK_LANEn_BITS_COUNT n =
      (s.fld LNK_LANEn_BITS_COUNT n + x.1) % 2 ^ 64 := by
    unfold countErrors
    rw [fld_lane_other _ LNK_LANEn_ERR_ERRORS LNK_LANEn_BITS_COUNT _ n rfl (by decide) (by decide)]
    exact fld_addFld s LNK_LANEn_BITS_COUNT x.1 n 0 0
  unfold bitsChecked
  dsimp only
  split
  · exact (fld_lane_other _ LNK_LANEn_ERR_CHK_LOCK LNK_LANEn_BITS_COUNT 0 n rfl (by decide) (by decide)).trans hcounted
  · exact hcounted

theorem bitsChecked_lock (h : x.2.2.1 = false) : (bitsChecked n x s).fld LNK_LANEn_ERR_CHK_LOCK n = s.fld LNK_LANEn_ERR_CHK_LOCK n := by
  rw [bitsChecked_locked n x s h]
  unfold setLaneCheck countErrors State.addFld
  exact (fld_lane_other _ LNK_LANEn_ERR_ERRORS LNK_LANEn_ERR_CHK_LOCK _ n rfl (by decide) (by decide)).trans
    (fld_lane_other _ LNK_LANEn_BITS_COUNT LNK_LANEn_ERR_CHK_LOCK _ n rfl (by decide) (by decide))

theorem bitsChecked_lost (h : x.2.2.1 = true) : (bitsChecked n x s).fld LNK_LANEn_ERR_CHK_LOCK n = 0 := by
  unfold bitsChecked
  rw [if_pos h]
  exact fld_lane_same _ LNK_LANEn_ERR_CHK_LOCK 0 n (by decide)

theorem bitsChecked_check (h : x.2.2.1 = false) : (bitsChecked n x s).laneCheck n = x.2.2.2 := by
  rw [bitsChecked_locked n x s h]
  exact laneCheck_set n _ _

theorem bitsChecked_lanesOnly : lanesOnly [LNK_LANEn_ERR_ERRORS.key n 0 0, LNK_LANEn_BITS_COUNT.key n 0 0] s (bitsChecked n x s) := by
  have hcounted : lanesOnly [LNK_LANEn_ERR_ERRORS.key n 0 0, LNK_LANEn_BITS_COUNT.key n 0 0] s
      (setLaneCheck n x.2.2.2 (countErrors n x.2.1 (s.addFld LNK_LANEn_BITS_COUNT x.1 n))) :=
    lanesOnly_trans (lanesOnly_trans (lanesOnly_setFld s LNK_LANEn_BITS_COUNT _ n (.tail _ (.head _))) (lanesOnly_setFld _ LNK_LANEn_ERR_ERRORS _ n (.head _)))
      (lanesOnly_lanes _ _)
  exact lanesOnly_ite (lanesOnly_trans hcounted (lanesOnly_setFld _ LNK_LANEn_ERR_CHK_LOCK 0 n (.head _))) hcounted

end

/-- The lock-loss clause of O48 for a receiver that is not looped. -/
theorem errors_counted (e : List Bool) (hlock : s.on LNK_LANEn_ERR_CHK_LOCK n = true) (hon : checkerOn n s = true) (hloop : s.on LNK_LANEn_CTL_LOOP n = false)
    (hmisses : (s.laneCheck n).misses = []) (hlen : e.length ≤ 1024) {bad : Nat} {seen : List Bool} (hbad : (e.filter id).length = bad)
    (hseen : List.zipWith xor e (patternRun (s.fld LNK_LANEn_PAT_CHK n) e.length (s.laneCheck n).ref) = seen) :
    (bad < 256 → ∃ t, exec (.checkerLockLoss n seen) s = .next t ∧ t.fld LNK_LANEn_ERR_CHK_LOCK n = 1 ∧
      t.fld LNK_LANEn_ERR_ERRORS n = min (s.fld LNK_LANEn_ERR_ERRORS n + bad) (2 ^ 48 - 1) ∧
      t.fld LNK_LANEn_BITS_COUNT n = (s.fld LNK_LANEn_BITS_COUNT n + e.length) % 2 ^ 64 ∧
      onlyRegs [LNK_LANEn_ERR_ERRORS.key n 0 0, LNK_LANEn_BITS_COUNT.key n 0 0] { s with lanes := t.lanes } t) ∧
    (bad = 256 → e.getLast? = some true → ∃ t, exec (.checkerLockLoss n seen) s = .next t ∧ t.fld LNK_LANEn_ERR_CHK_LOCK n = 0 ∧
      t.fld LNK_LANEn_ERR_ERRORS n = min (s.fld LNK_LANEn_ERR_ERRORS n + 256) (2 ^ 48 - 1) ∧
      t.fld LNK_LANEn_BITS_COUNT n = (s.fld LNK_LANEn_BITS_COUNT n + e.length) % 2 ^ 64) := by
  subst hbad hseen
  have hnone : loopOf n s = none := if_neg (by simp [hloop])
  have hshort : (s.laneCheck n).misses.length + e.length ≤ 1024 := by
    rw [hmisses, List.length_nil]
    omega
  have hfresh : setCount (s.laneCheck n).misses = 0 := by
    rw [hmisses]
    rfl
  have hexec := bits_received (flipped (s.fld LNK_LANEn_PAT_CHK n) e (s.laneCheck n).ref) hlock hon
  rw [hnone] at hexec
  refine ⟨fun hfew => ?_, fun hmany hlast => ?_⟩
  · obtain ⟨hbits, herrors, hkept⟩ := compareBits_locked (s.fld LNK_LANEn_PAT_CHK n) e (s.laneCheck n) hshort (by rw [hfresh]; exact hfew)
    refine ⟨_, hexec, ?_, ?_, ?_, (bitsChecked_lanesOnly n _ s).onlyRegs⟩
    · exact (bitsChecked_lock n _ s hkept).trans (fld_of_on rfl hlock)
    · rw [bitsChecked_errors, herrors]
      rfl
    · rw [bitsChecked_count, hbits]
  · obtain ⟨hbits, herrors, hlost⟩ := compareBits_lost (s.fld LNK_LANEn_PAT_CHK n) e (s.laneCheck n) hshort (by rw [hfresh]; exact hmany) hlast
    refine ⟨_, hexec, bitsChecked_lost n _ s hlost, ?_, ?_⟩
    · rw [bitsChecked_errors, herrors]
      exact congrArg (fun k => min (s.fld LNK_LANEn_ERR_ERRORS n + k) (2 ^ 48 - 1)) hmany
    · rw [bitsChecked_count, hbits]

/-- The lock-loss clause of O48 for a looped receiver. -/
theorem injection_counted (seen : List Bool) (hlock : s.on LNK_LANEn_ERR_CHK_LOCK n = true) (hon : checkerOn n s = true) (hloop : s.on LNK_LANEn_CTL_LOOP n = true)
    (hpattern : s.fld LNK_LANEn_PAT_GEN n = s.fld LNK_LANEn_PAT_CHK n) (hmisses : (s.laneCheck n).misses = [])
    (hgen : (s.laneCheck n).gen = (s.laneCheck n).ref) (hlen : seen.length ≤ 1024) (hfew : (s.laneCheck n).flips < 256)
    (hflips : (s.laneCheck n).flips ≤ seen.length) :
    ∃ t, exec (.checkerLockLoss n seen) s = .next t ∧ t.fld LNK_LANEn_ERR_CHK_LOCK n = 1 ∧ (t.laneCheck n).flips = 0 ∧
      t.fld LNK_LANEn_ERR_ERRORS n = min (s.fld LNK_LANEn_ERR_ERRORS n + (s.laneCheck n).flips) (2 ^ 48 - 1) ∧
      t.fld LNK_LANEn_BITS_COUNT n = (s.fld LNK_LANEn_BITS_COUNT n + seen.length) % 2 ^ 64 := by
  have hsome : loopOf n s = some (s.fld LNK_LANEn_PAT_CHK n) := (if_pos hloop).trans (congrArg some hpattern)
  have hshort : (s.laneCheck n).misses.length + seen.length ≤ 1024 := by
    rw [hmisses, List.length_nil]
    omega
  have hfresh : (s.laneCheck n).flips + setCount (s.laneCheck n).misses < 256 := by
    rw [hmisses]
    exact hfew
  obtain ⟨hbits, herrors, hkept, hend⟩ := compareBits_looped (s.fld LNK_LANEn_PAT_CHK n) seen (s.laneCheck n) hgen hshort hfresh hflips
  have hexec := bits_received seen hlock hon
  rw [hsome] at hexec
  refine ⟨_, hexec, (bitsChecked_lock n _ s hkept).trans (fld_of_on rfl hlock), ?_, ?_, ?_⟩
  · rw [bitsChecked_check n _ s hkept, hend]
  · rw [bitsChecked_errors, herrors]
  · rw [bitsChecked_count, hbits]


/-! ### PATTERN_WRITE, INJ_SINGLE, INJ_BURST and INJECTION_REPEAT (R536, R537) -/

theorem writeField_rw {lo w : Nat} (h : lo + w ≤ 64) (data v : Word) :
    writeField data Half.full.mask false ⟨lo, w, .rw⟩ v = setBits v lo w (bits data lo w) := writeField_unlocked h data v

/-- LNK_LANEn_PAT as a full write leaves it. -/
def patWord (old data : Word) : Word :=
  setBits (setBits (setBits (setBits old 0 3 (bits data 0 3)) 4 3 (bits data 4 3)) 16 8 (bits data 16 8)) 32 16 (bits data 32 16)

theorem plainWrite_pat (n : Nat) (data : Word) (s : State) :
    plainWrite (regInfo .LNK_LANEn_PAT).fields (LNK_LANEn_PAT_GEN.key n 0 0) (fun _ => false) .full data s =
      s.setReg (LNK_LANEn_PAT_GEN.key n 0 0) (patWord (s.reg (LNK_LANEn_PAT_GEN.key n 0 0)) data) := by
  have hfields (old : Word) : writeFields (fun _ => false) old data Half.full.mask (regInfo .LNK_LANEn_PAT).fields =
      writeField data Half.full.mask false ⟨32, 16, .rw⟩ (writeField data Half.full.mask false ⟨16, 8, .rw⟩
        (writeField data Half.full.mask false ⟨4, 3, .rw⟩ (writeField data Half.full.mask false ⟨0, 3, .rw⟩ old))) := rfl
  unfold plainWrite patWord
  rw [hfields, writeField_rw (by decide), writeField_rw (by decide), writeField_rw (by decide), writeField_rw (by decide)]

theorem patWord_gen (old data : Word) : bits (patWord old data) 0 3 = bits data 0 3 := by
  unfold patWord
  rw [bits_setBits_other _ _ _ _ _ _ (by decide) (by decide), bits_setBits_other _ _ _ _ _ _ (by decide) (by decide),
    bits_setBits_other _ _ _ _ _ _ (by decide) (by decide), bits_setBits_same _ _ _ _ (by decide)]
  exact Nat.mod_eq_of_lt (bits_lt data 0 3)

theorem patWord_chk (old data : Word) : bits (patWord old data) 4 3 = bits data 4 3 := by
  unfold patWord
  rw [bits_setBits_other _ _ _ _ _ _ (by decide) (by decide), bits_setBits_other _ _ _ _ _ _ (by decide) (by decide), bits_setBits_same _ _ _ _ (by decide)]
  exact Nat.mod_eq_of_lt (bits_lt data 4 3)

theorem patWord_burst (old data : Word) : bits (patWord old data) 16 8 = bits data 16 8 := by
  unfold patWord
  rw [bits_setBits_other _ _ _ _ _ _ (by decide) (by decide), bits_setBits_same _ _ _ _ (by decide)]
  exact Nat.mod_eq_of_lt (bits_lt data 16 8)

theorem patWord_every (old data : Word) : bits (patWord old data) 32 16 = bits data 32 16 := by
  unfold patWord
  rw [bits_setBits_same _ _ _ _ (by decide)]
  exact Nat.mod_eq_of_lt (bits_lt data 32 16)

/-- The pattern is stored and both counts are cleared. -/
def patCleared (n : Nat) (data : Word) (s : State) : State :=
  ((s.setReg (LNK_LANEn_PAT_GEN.key n 0 0) (patWord (s.reg (LNK_LANEn_PAT_GEN.key n 0 0)) data)).setFld LNK_LANEn_BITS_COUNT 0 n).setFld LNK_LANEn_ERR_ERRORS 0 n

/-- The injections that a lane repeats. -/
def injections (n : Nat) (one many : Bool) (l : List (Nat × Bool)) : List (Nat × Bool) :=
  l.filter (fun x => decide (x.1 ≠ n)) ++ (if one then [(n, false)] else []) ++ (if many then [(n, true)] else [])

/-- A lane whose pattern is written, before it injects. -/
def patTaken (n : Nat) (data : Word) (s : State) : State :=
  let s := syncChecker n (patCleared n data s)
  { s with lanes := { s.lanes with injecting := injections n (bit data 8) (bit data 9) s.lanes.injecting } }

theorem patEffect_full (n : Nat) (data : Word) (s : State) : patEffect n .full data s =
    (let u := if bit data 8 then injectBits n 1 (patTaken n data s) else patTaken n data s
     if bit data 9 then injectBits n (burstLength n u) u else u) := by
  unfold patEffect
  rw [plainWrite_pat, wbit_full, wbit_full]
  rfl

theorem pattern_written {c : Instr} {data : Word} (hadm : s.admits m .LNK_LANEn_PAT [n.val])
    (hc : c ∈ [Instr.patternWrite m n .full data, .injSingle m n .full data, .injBurst m n .full data]) :
    exec c s = .next (patEffect n .full data (renewLease m s)) := by
  have heffect : Host.Outcome.next (regWrite .LNK_LANEn_PAT [n] m .full (patEffect n .full data) s) =
      (.next (patEffect n .full data (renewLease m s)) : Host.Outcome State Fault Refusal) := congrArg Host.Outcome.next (regWrite_admits hadm .full _)
  simp only [List.mem_cons, List.not_mem_nil, or_false] at hc
  rcases hc with rfl | rfl | rfl
  · exact heffect
  · exact heffect
  · exact heffect

section
variable (n : Nat) (data : Word) (s : State)

theorem patCleared_pat {F : Field} (hs : F.s1 = 0x100) (hF : F.off = 0x1800028) :
    (patCleared n data s).fld F n = bits (patWord (s.reg (LNK_LANEn_PAT_GEN.key n 0 0)) data) F.lo F.w := by
  unfold patCleared
  rw [fld_lane_other _ LNK_LANEn_ERR_ERRORS F 0 n hs.symm (by decide) (.inl (by rw [hF]; decide)),
    fld_lane_other _ LNK_LANEn_BITS_COUNT F 0 n hs.symm (by decide) (.inl (by rw [hF]; decide)), fld_lane_setReg_same _ LNK_LANEn_PAT_GEN F _ n hs.symm hF.symm]

theorem patCleared_count : (patCleared n data s).fld LNK_LANEn_BITS_COUNT n = 0 := by
  unfold patCleared
  simp (disch := decide) only [fld_lane_other, fld_lane_same]
  rfl

theorem patCleared_errors : (patCleared n data s).fld LNK_LANEn_ERR_ERRORS n = 0 := by
  unfold patCleared
  simp (disch := decide) only [fld_lane_same]
  rfl

/-- The lane's control and its checker's lock stay. -/
theorem patCleared_kept {F : Field} (hF : F = LNK_LANEn_CTL_LOOP ∨ F = LNK_LANEn_ERR_CHK_LOCK) : (patCleared n data s).fld F n = s.fld F n := by
  unfold patCleared
  rcases hF with rfl | rfl
  · simp (disch := decide) only [fld_lane_other, fld_lane_setReg_other]
  · simp (disch := decide) only [fld_lane_other, fld_lane_setReg_other]

/-- The registers of a lane's pattern, its counts and its checker. -/
def patternKeys (n : Nat) : List Nat := [LNK_LANEn_PAT_GEN.key n 0 0, LNK_LANEn_BITS_COUNT.key n 0 0, LNK_LANEn_ERR_ERRORS.key n 0 0]

theorem patCleared_onlyRegs : onlyRegs (patternKeys n) s (patCleared n data s) := by
  unfold patCleared
  exact onlyRegs_after_setFld LNK_LANEn_ERR_ERRORS 0 n 0 0 (onlyRegs_after_setFld LNK_LANEn_BITS_COUNT 0 n 0 0
    ⟨rfl, regsKeep_mono (fun _ hk => List.mem_singleton.mp hk ▸ .head _) (regsKeep_setReg s _ _)⟩ (.tail _ (.head _))) (.tail _ (.tail _ (.head _)))

theorem syncChecker_onlyRegs : onlyRegs [LNK_LANEn_ERR_ERRORS.key n 0 0] s (syncChecker n s) := by
  unfold syncChecker
  split
  · exact onlyRegs_refl _ s
  · exact onlyRegs_setFld s LNK_LANEn_ERR_CHK_LOCK 0 n 0 0

/-- Where the checker has no pattern it is out of lock, and nothing else is changed. -/
theorem syncChecker_fld {F : Field} (hs : F.s1 = 0x100) (hF : F.off ≠ 0x1800038 ∨ F.lo + F.w ≤ 63) : (syncChecker n s).fld F n = s.fld F n := by
  unfold syncChecker
  split
  · rfl
  · exact fld_lane_other s LNK_LANEn_ERR_CHK_LOCK F 0 n hs.symm (by decide) (hF.imp Ne.symm .inr)

theorem patTaken_lanesOnly : lanesOnly (patternKeys n) s (patTaken n data s) := by
  unfold patTaken
  exact lanesOnly_trans (lanesOnly_trans (lanesOnly_of_onlyRegs (patCleared_onlyRegs n data s))
    (lanesOnly_mono (by simp [patternKeys]) (lanesOnly_of_onlyRegs (syncChecker_onlyRegs n _)))) (lanesOnly_lanes _ _)

theorem patTaken_pat {F : Field} (hs : F.s1 = 0x100) (hF : F.off = 0x1800028) :
    (patTaken n data s).fld F n = bits (patWord (s.reg (LNK_LANEn_PAT_GEN.key n 0 0)) data) F.lo F.w :=
  (syncChecker_fld n _ hs (.inl (by rw [hF]; decide))).trans (patCleared_pat n data s hs hF)

theorem patTaken_gen : (patTaken n data s).fld LNK_LANEn_PAT_GEN n = bits data 0 3 := (patTaken_pat n data s rfl rfl).trans (patWord_gen _ data)
theorem patTaken_chk : (patTaken n data s).fld LNK_LANEn_PAT_CHK n = bits data 4 3 := (patTaken_pat n data s rfl rfl).trans (patWord_chk _ data)
theorem patTaken_burst : (patTaken n data s).fld LNK_LANEn_PAT_BURST_LEN n = bits data 16 8 := (patTaken_pat n data s rfl rfl).trans (patWord_burst _ data)
theorem patTaken_every : (patTaken n data s).fld LNK_LANEn_PAT_INJ_EVERY n = bits data 32 16 := (patTaken_pat n data s rfl rfl).trans (patWord_every _ data)

theorem patTaken_count : (patTaken n data s).fld LNK_LANEn_BITS_COUNT n = 0 := (syncChecker_fld n _ rfl (.inl (by decide))).trans (patCleared_count n data s)
theorem patTaken_errors : (patTaken n data s).fld LNK_LANEn_ERR_ERRORS n = 0 := (syncChecker_fld n _ rfl (.inr (by decide))).trans (patCleared_errors n data s)

theorem patTaken_check : (patTaken n data s).laneCheck n = s.laneCheck n := by
  have hsync (u : State) : (syncChecker n u).lanes = u.lanes := by rw [(syncChecker_onlyRegs n u).1]
  show Memory.get (fun _ => LaneCheck.reset) (syncChecker n (patCleared n data s)).lanes.checks n = _
  rw [hsync]
  rfl

/-- A write of the pattern leaves the lane's mode. -/
theorem laneMode_pattern {n : Nat} {u : State} (h : regsKeep (patternKeys n) s u) : laneMode n u = laneMode n s := by
  refine laneMode_congr fun k hk => h k ?_
  simp only [modeKeys, patternKeys, Field.key, LNK_LANEn_CTL_MODE, PCI_CTL_LINK_DIS, BRL_CTL_PORT_EN, LNK_LANEn_PAT_GEN, LNK_LANEn_BITS_COUNT,
    LNK_LANEn_ERR_ERRORS, List.mem_cons, List.not_mem_nil, or_false] at hk ⊢
  omega

end

theorem laneMode_renewLease (m : Ident) (n : Nat) (s : State) : laneMode n (renewLease m s) = laneMode n s := by
  refine laneMode_congr fun k hk => reg_renewLease m s ?_
  simp only [modeKeys, Field.key, LNK_LANEn_CTL_MODE, PCI_CTL_LINK_DIS, BRL_CTL_PORT_EN, List.mem_cons, List.not_mem_nil, or_false] at hk
  simp only [leaseKey, OWN_STATUS_LEASE_LEFT_MS]
  omega

/-- A generator that runs injects: its output is inverted, and so is what a looped and locked receiver gets. -/
theorem injectBits_runs {n : Nat} (count : Nat) (hmode : laneMode n s = 2) (hzero : s.fld LNK_LANEn_PAT_GEN n ≠ 0) (hseven : s.fld LNK_LANEn_PAT_GEN n ≠ 7) :
    (injectBits n count s).out = .inject n count :: s.out ∧ (injectBits n count s).regs = s.regs ∧
      (s.on LNK_LANEn_CTL_LOOP n = true → s.on LNK_LANEn_ERR_CHK_LOCK n = true →
        ((injectBits n count s).laneCheck n).flips = (s.laneCheck n).flips + count) := by
  have hruns : ¬ (laneMode n s ≠ 2 ∨ s.fld LNK_LANEn_PAT_GEN n = 0 ∨ s.fld LNK_LANEn_PAT_GEN n = 7) := by simp [hmode, hzero, hseven]
  unfold injectBits
  rw [if_neg hruns]
  by_cases hlooped : (loopOf n (s.emit (.inject n count))).isSome ∧ (s.emit (.inject n count)).on LNK_LANEn_ERR_CHK_LOCK n
  · simp only [if_pos hlooped]
    exact ⟨rfl, rfl, fun _ _ => congrArg LaneCheck.flips (laneCheck_set n _ _)⟩
  · simp only [if_neg hlooped]
    refine ⟨rfl, rfl, fun hloop hlock => absurd ⟨?_, hlock⟩ hlooped⟩
    exact congrArg Option.isSome (if_pos hloop)

/-- A running generator out of loop back: its output is inverted, and nothing else changes. -/
theorem injectBits_unlooped {n : Nat} (count : Nat) (hmode : laneMode n s = 2) (hzero : s.fld LNK_LANEn_PAT_GEN n ≠ 0) (hseven : s.fld LNK_LANEn_PAT_GEN n ≠ 7)
    (hloop : s.on LNK_LANEn_CTL_LOOP n = false) : injectBits n count s = s.emit (.inject n count) := by
  have hruns : ¬ (laneMode n s ≠ 2 ∨ s.fld LNK_LANEn_PAT_GEN n = 0 ∨ s.fld LNK_LANEn_PAT_GEN n = 7) := by simp [hmode, hzero, hseven]
  have hnone : loopOf n (s.emit (.inject n count)) = none := if_neg (by rw [show (s.emit (.inject n count)).on _ n = _ from hloop]; decide)
  unfold injectBits
  rw [if_neg hruns]
  exact if_neg (by rw [hnone]; simp)

/-- The injection of a pattern write: `count` bits of a lane in TEST whose pattern is one. -/
theorem pattern_injects (data : Word) (count : Nat) (s : State) (hmode : laneMode n s = 2) (hzero : bits data 0 3 ≠ 0) (hseven : bits data 0 3 ≠ 7) :
    (injectBits n count (patTaken n data s)).out = .inject n count :: s.out ∧ (injectBits n count (patTaken n data s)).fld LNK_LANEn_BITS_COUNT n = 0 ∧
      (injectBits n count (patTaken n data s)).fld LNK_LANEn_ERR_ERRORS n = 0 ∧
      (s.on LNK_LANEn_CTL_LOOP n = true → s.on LNK_LANEn_ERR_CHK_LOCK n = true → bits data 4 3 = bits data 0 3 →
        ((injectBits n count (patTaken n data s)).laneCheck n).flips = (s.laneCheck n).flips + count) := by
  have hframe := patTaken_lanesOnly n data s
  have hmode' : laneMode n (patTaken n data s) = 2 := (laneMode_pattern s hframe.2).trans hmode
  obtain ⟨hout, hregs, hflips⟩ := injectBits_runs count hmode' (by rw [patTaken_gen]; exact hzero) (by rw [patTaken_gen]; exact hseven)
  refine ⟨hout.trans (congrArg _ hframe.out), ?_, ?_, fun hloop hlock hsame => ?_⟩
  · exact (fld_congr LNK_LANEn_BITS_COUNT n 0 0 (reg_congr hregs _)).trans (patTaken_count n data s)
  · exact (fld_congr LNK_LANEn_ERR_ERRORS n 0 0 (reg_congr hregs _)).trans (patTaken_errors n data s)
  · have hchk : (patCleared n data s).fld LNK_LANEn_PAT_CHK n = bits data 0 3 := (patCleared_pat n data s rfl rfl).trans ((patWord_chk _ data).trans hsame)
    have hon : checkerOn n (patCleared n data s) = true := by
      refine decide_eq_true ⟨(laneMode_pattern s (patCleared_onlyRegs n data s).2).trans hmode, ?_, ?_⟩
      · rw [hchk]
        exact hzero
      · rw [hchk]
        exact hseven
    have hkept (F : Field) (hF : F = LNK_LANEn_CTL_LOOP ∨ F = LNK_LANEn_ERR_CHK_LOCK) (h : s.on F n = true) : (patTaken n data s).on F n = true := by
      have hfld : (patTaken n data s).fld F n = s.fld F n := by
        refine Eq.trans ?_ (patCleared_kept n data s hF)
        show (syncChecker n (patCleared n data s)).fld F n = _
        rw [syncChecker_on hon]
      unfold State.on at h ⊢
      rw [hfld]
      exact h
    rw [hflips (hkept _ (.inl rfl) hloop) (hkept _ (.inr rfl) hlock), patTaken_check]

/-- The registers that a write of the pattern changes. -/
def patternWriteKeys (n : Nat) : List Nat := leaseKey :: patternKeys n

/-- The pattern-write clause of O48. -/
theorem pattern_write (data : Word) (c : Instr) (hadm : s.admits m .LNK_LANEn_PAT [n.val])
    (hc : c ∈ [Instr.patternWrite m n .full data, .injSingle m n .full data, .injBurst m n .full data]) :
    (bit data 8 = false → bit data 9 = false →
      ∃ t, exec c s = .next t ∧ t.fld LNK_LANEn_PAT_GEN n = bits data 0 3 ∧ t.fld LNK_LANEn_PAT_CHK n = bits data 4 3 ∧
        t.fld LNK_LANEn_PAT_INJ_EVERY n = bits data 32 16 ∧ t.fld LNK_LANEn_BITS_COUNT n = 0 ∧ t.fld LNK_LANEn_ERR_ERRORS n = 0 ∧
        (∀ x ∈ t.lanes.injecting, x.1 ≠ n.val) ∧ onlyRegs (patternWriteKeys n) { s with lanes := t.lanes } t) ∧
    (laneMode n s = 2 → bits data 0 3 ≠ 0 → bits data 0 3 ≠ 7 → bit data 8 = true → bit data 9 = false →
      ∃ t, exec c s = .next t ∧ t.out = .inject n 1 :: s.out ∧ t.fld LNK_LANEn_BITS_COUNT n = 0 ∧ t.fld LNK_LANEn_ERR_ERRORS n = 0 ∧
        (s.on LNK_LANEn_CTL_LOOP n = true → s.on LNK_LANEn_ERR_CHK_LOCK n = true → bits data 4 3 = bits data 0 3 →
          (t.laneCheck n).flips = (s.laneCheck n).flips + 1)) ∧
    (laneMode n s = 2 → bits data 0 3 ≠ 0 → bits data 0 3 ≠ 7 → bit data 8 = false → bit data 9 = true → bits data 16 8 ≠ 0 →
      ∃ t, exec c s = .next t ∧ t.out = .inject n (bits data 16 8) :: s.out ∧ t.fld LNK_LANEn_BITS_COUNT n = 0 ∧ t.fld LNK_LANEn_ERR_ERRORS n = 0 ∧
        (s.on LNK_LANEn_CTL_LOOP n = true → s.on LNK_LANEn_ERR_CHK_LOCK n = true → bits data 4 3 = bits data 0 3 →
          (t.laneCheck n).flips = (s.laneCheck n).flips + bits data 16 8)) := by
  have hexec := pattern_written hadm hc
  rw [patEffect_full] at hexec
  have hon (F : Field) (hF : leaseKey < F.off) : (renewLease m s).on F n = s.on F n := by
    unfold State.on
    rw [fld_renewLease_above m s hF n]
  have hcheck : (renewLease m s).laneCheck n = s.laneCheck n := by
    unfold State.laneCheck
    rw [renewLease_lanes]
  have hinject (count : Nat) (hmode : laneMode n s = 2) := pattern_injects (n := n) data count (renewLease m s) ((laneMode_renewLease m n s).trans hmode)
  rw [renewLease_out, hcheck, hon LNK_LANEn_CTL_LOOP (by decide), hon LNK_LANEn_ERR_CHK_LOCK (by decide)] at hinject
  refine ⟨fun h8 h9 => ?_, fun hmode hzero hseven h8 h9 => ?_, fun hmode hzero hseven h8 h9 hburst => ?_⟩
  · simp only [h8, h9, Bool.false_eq_true, if_false] at hexec
    refine ⟨_, hexec, patTaken_gen n data _, patTaken_chk n data _, patTaken_every n data _, patTaken_count n data _, patTaken_errors n data _, ?_, ?_⟩
    · intro x hx
      have hmem : x ∈ injections n (bit data 8) (bit data 9) (syncChecker n (patCleared n data (renewLease m s))).lanes.injecting := hx
      rw [h8, h9] at hmem
      simp only [injections, Bool.false_eq_true, if_false, List.append_nil, List.mem_filter, decide_eq_true_eq] at hmem
      exact hmem.2
    · exact (lanesOnly_trans (lanesOnly_mono (fun _ hk => List.mem_singleton.mp hk ▸ .head _) (lanesOnly_of_onlyRegs (onlyRegs_renewLease m s)))
        (lanesOnly_mono (fun _ hk => .tail _ hk) (patTaken_lanesOnly n data _))).onlyRegs
  · simp only [h8, h9, Bool.false_eq_true, if_false, if_true] at hexec
    exact ⟨_, hexec, hinject 1 hmode hzero hseven⟩
  · simp only [h8, h9, Bool.false_eq_true, if_false, if_true] at hexec
    have hlength : burstLength n (patTaken n data (renewLease m s)) = bits data 16 8 := by
      unfold burstLength
      rw [patTaken_burst]
      omega
    rw [hlength] at hexec
    exact ⟨_, hexec, hinject _ hmode hzero hseven⟩

/-- The repetition clause of O48. -/
theorem injection_repeats (hevery : s.on LNK_LANEn_PAT_INJ_EVERY n = true) (hmode : laneMode n s = 2) (hzero : s.fld LNK_LANEn_PAT_GEN n ≠ 0)
    (hseven : s.fld LNK_LANEn_PAT_GEN n ≠ 7) (hloop : s.on LNK_LANEn_CTL_LOOP n = false) (hone : s.lanes.injecting = [(n.val, false)]) :
    ∃ t, exec (.injectionRepeat n) s = .next t ∧ t.out = .inject n 1 :: s.out ∧ t = { s with out := t.out } := by
  refine ⟨s.emit (.inject n 1), ?_, rfl, rfl⟩
  rw [exec_injectionRepeat]
  unfold execInjectionRepeat
  rw [if_pos hevery, hone]
  simp only [decide_true, List.filter_cons_of_pos, List.filter_nil, List.foldl_cons, List.foldl_nil, Bool.false_eq_true, if_false]
  rw [injectBits_unlooped 1 hmode hzero hseven hloop]

/-! ### USER_LANE_WORD (R577) -/

/-- The word received is handed to the fabric. -/
def wordReceived (k : Nat) (rx : Option (BitVec 128 × Nat)) (s : State) : State :=
  match rx with
  | some w => s.emit (.laneReceived k w.1 0)
  | none => s

/-- The word of the transmit buffer is sent, or an empty buffer counted. -/
def wordSent (k : Nat) (tx : Option (BitVec 128 × Nat)) (s : State) : State :=
  match tx with
  | some w => s.emit (.laneWord k w.1 0)
  | none => (s.addFld LNK_LANEn_RXSTAT_UNDERFLOW 1 k).emit (.laneWord k 0 0)

theorem userWord {n : Fin 64} (tx rx : Option (BitVec 128 × Nat)) (hon : laneOn (32 + n) s = true) (hmode : laneMode (32 + n) s = 1) (hgate : s.gateOpen 19 = true)
    (hborder : s.tstate 64 = stLoaded) (hblock : s.on LNK_LANEn_CTL_BLOCK (32 + n) = false) (hhalt : s.on FLT_STATUS_HALTED = false) :
    exec (.userLaneWord n tx rx) s = .next (wordSent (32 + n) tx (wordReceived (32 + n) rx s)) := by
  have hruns : ¬ (¬ laneOn (32 + n) s = true ∨ laneMode (32 + n) s ≠ 1 ∨ ¬ s.gateOpen 19 = true ∨ s.tstate 64 ≠ stLoaded ∨
      (s.on LNK_LANEn_CTL_BLOCK (32 + n) = true ∧ s.laneStage (32 + n) ≤ 4)) := by
    simp [hon, hmode, hgate, hborder, hblock]
  rw [exec_userLaneWord]
  unfold execUserLaneWord
  refine (if_neg hruns).trans ?_
  simp only [hblock, Bool.false_eq_true, if_false]
  have hhalt' : ¬ (wordReceived (32 + n) rx s).on FLT_STATUS_HALTED = true := by
    have hsame : (wordReceived (32 + n) rx s).on FLT_STATUS_HALTED = s.on FLT_STATUS_HALTED := by
      cases rx <;> rfl
    rw [hsame, hhalt]
    decide
  cases tx with
  | some w => exact if_neg hhalt'
  | none => exact if_neg hhalt'

/-- The user-lane clause of O48. -/
theorem user_lane_word (n : Fin 64) (v : BitVec 128) (b : Nat) (hon : laneOn (32 + n) s = true) (hmode : laneMode (32 + n) s = 1)
    (hgate : s.gateOpen 19 = true) (hborder : s.tstate 64 = stLoaded) (hblock : s.on LNK_LANEn_CTL_BLOCK (32 + n) = false)
    (hhalt : s.on FLT_STATUS_HALTED = false) :
    (∃ t, exec (.userLaneWord n (some (v, b)) none) s = .next t ∧ t.out = .laneWord (32 + n) v 0 :: s.out ∧ storesKeep s t) ∧
    (∃ t, exec (.userLaneWord n (some (v, b)) (some (v, b))) s = .next t ∧
      t.out = .laneWord (32 + n) v 0 :: .laneReceived (32 + n) v 0 :: s.out ∧ storesKeep s t) ∧
    (∃ t, exec (.userLaneWord n none none) s = .next t ∧ t.out = .laneWord (32 + n) 0 0 :: s.out ∧
      t.fld LNK_LANEn_RXSTAT_UNDERFLOW (32 + n) = (s.fld LNK_LANEn_RXSTAT_UNDERFLOW (32 + n) + 1) % 2 ^ 16) := by
  have hexec (tx rx : Option (BitVec 128 × Nat)) := userWord tx rx hon hmode hgate hborder hblock hhalt
  exact ⟨⟨_, hexec _ _, rfl, rfl, rfl⟩, ⟨_, hexec _ _, rfl, rfl, rfl⟩,
    ⟨_, hexec _ _, rfl, fld_addFld s LNK_LANEn_RXSTAT_UNDERFLOW 1 (32 + n) 0 0⟩⟩

/-- Settles O48. -/
theorem lanesAndPatterns : Obligations.LanesAndPatterns := by
  unfold Obligations.LanesAndPatterns
  exact ⟨bit_lock, fun _ _ _ data _ => lane_restart data, fun _ seen _ hloop hlock => checker_lock seen hloop hlock rfl, patterns,
    fun _ e _ hlock hon hloop hmisses hlen => errors_counted e hlock hon hloop hmisses hlen rfl rfl,
    fun _ seen _ hlock hon hloop hpattern hmisses hgen hlen hfew hflips =>
      injection_counted seen hlock hon hloop hpattern hmisses hgen hlen hfew hflips,
    fun _ seen _ hlock hon => bits_unlocked seen hlock hon, fun _ _ data c _ => pattern_write data c,
    fun _ _ hevery hmode hzero hseven hloop hone => injection_repeats hevery hmode hzero hseven hloop hone,
    fun n v b _ hon hmode hgate hborder hblock hhalt => user_lane_word n v b hon hmode hgate hborder hblock hhalt⟩

end Sys2Proof.Machine
end

section
-- One proof at a time: the memory limit of the check counts a stack for every proof that waits for another.
set_option Elab.async false
/-! Writes of protected words, the memory sweep and the bank store (R436, R437, R440 to R453); O40. -/

namespace Sys2Proof.Machine

variable {s t u : State} {m : Ident} {k : Nat}

/-! ### Protected words (R435 to R437) -/

theorem isBad_of_mark {p : PWord} (h : p.mark ≠ 0) : p.isBad = true ∧ p.value? = none := by
  have hpoisoned : p.isPoisoned = true := decide_eq_true h
  refine ⟨?_, if_pos hpoisoned⟩
  unfold PWord.isBad
  rw [hpoisoned]
  rfl

theorem poisoned_isBad (d : Word) : (PWord.poisoned d).isBad = true := (isBad_of_mark (p := PWord.poisoned d) (by show (3 : BitVec 2) ≠ 0; decide)).1

theorem value?_of_isBad {p : PWord} (h : p.isBad = true) : p.value? = none := by
  unfold PWord.value?
  split
  next => rfl
  next hclear =>
    have hdecode : p.decode = .bad := by
      simpa [PWord.isBad, hclear] using h
    rw [hdecode]

theorem writeMasked_part (s : State) (k : Nat) {mask : Word} (d : Word) (poison : Bool) (hmask : mask ≠ 0xFFFFFFFFFFFFFFFF) :
    s.writeMasked k mask d poison = s.mergeP k mask d poison := if_neg hmask

/-- A partial write of a word that decodes merges with it. -/
theorem writeMasked_merges {mask old : Word} (d : Word) (hold : (s.pword k).value? = some old) (hmask : mask ≠ 0xFFFFFFFFFFFFFFFF) :
    s.writeMasked k mask d false = some (s.writeP k ((old &&& ~~~ mask) ||| (d &&& mask))) := by
  rw [writeMasked_part s k d false hmask]
  unfold State.mergeP
  rw [hold]
  rfl

/-- A partial write of a bad word is not made. -/
theorem writeMasked_bad {mask : Word} (d : Word) (poison : Bool) (hbad : (s.pword k).isBad = true) (hmask : mask ≠ 0xFFFFFFFFFFFFFFFF) :
    s.writeMasked k mask d poison = none := by
  rw [writeMasked_part s k d poison hmask]
  unfold State.mergeP
  rw [value?_of_isBad hbad]

theorem mended_writeBack {d : Word} {l : List Nat} (hmends : s.mends = k :: l) (hout : k ∉ l) (hdecode : (s.pword k).decode = .mended d)
    (hmark : (s.pword k).mark = 0) : ∃ t, exec .mendedWriteBack s = .next t ∧ t.pword k = PWord.clean d ∧
      (∀ j, j ≠ k → t.pword j = s.pword j) ∧ t.mends = l ∧ t.regs = s.regs ∧ t.out = s.out := by
  have hexec : exec .mendedWriteBack s = .next (s.writeP k d) := by
    rw [exec_mendedWriteBack]
    unfold execMendedWriteBack
    rw [hmends]
    simp only [hdecode, hmark]
    rfl
  refine ⟨_, hexec, pword_writeP_same s k d, fun j hj => pword_writeP_other s d hj, ?_, rfl, rfl⟩
  have hdrop : l.filter (fun j => decide (j ≠ k)) = l := List.filter_eq_self.mpr fun j hj => decide_eq_true (fun h => hout (h ▸ hj))
  show s.mends.filter (fun j => decide (j ≠ k)) = l
  rw [hmends, List.filter_cons_of_neg (by simp), hdrop]

/-- The first part of O40: writes of protected words. -/
theorem protected_words :
    (∀ (s : State) (k : Nat) (d : Word), (s.writeP k d).pword k = PWord.clean d ∧ ((s.writeP k d).pword k).value? = some d ∧
      (∀ j, j ≠ k → (s.writeP k d).pword j = s.pword j) ∧ (s.writeP k d).regs = s.regs) ∧
    (∀ (s : State) (k : Nat) (mask d old : Word), (s.pword k).value? = some old → mask ≠ 0xFFFFFFFFFFFFFFFF →
      s.writeMasked k mask d false = some (s.writeP k ((old &&& ~~~ mask) ||| (d &&& mask)))) ∧
    (∀ (s : State) (k : Nat) (mask d : Word) (poison : Bool), (s.pword k).isBad = true → mask ≠ 0xFFFFFFFFFFFFFFFF →
      s.writeMasked k mask d poison = none) ∧
    (∀ (s : State) (k : Nat) (d : Word), (s.writePoison k d).pword k = PWord.poisoned d ∧ ((s.writePoison k d).pword k).isBad = true) ∧
    (∀ p : PWord, p.mark ≠ 0 → p.isBad = true ∧ p.value? = none) ∧
    (∀ (s : State) (k : Nat) (d : Word) (l : List Nat), s.mends = k :: l → k ∉ l → (s.pword k).decode = .mended d →
      (s.pword k).mark = 0 →
      ∃ t, exec .mendedWriteBack s = .next t ∧ t.pword k = PWord.clean d ∧ (∀ j, j ≠ k → t.pword j = s.pword j) ∧ t.mends = l ∧
        t.regs = s.regs ∧ t.out = s.out) := by
  refine ⟨fun s k d => ?_, fun _ _ _ d _ hold hmask => writeMasked_merges d hold hmask, fun _ _ _ d poison hbad hmask => writeMasked_bad d poison hbad hmask,
    fun s k d => ?_, fun _ h => isBad_of_mark h, fun _ _ _ _ hmends hout hdecode hmark => mended_writeBack hmends hout hdecode hmark⟩
  · refine ⟨pword_writeP_same s k d, ?_, fun j hj => pword_writeP_other s d hj, rfl⟩
    rw [pword_writeP_same]
    exact clean_value? d
  · have hstored : (s.writePoison k d).pword k = PWord.poisoned d := pword_setPword_same s k _
    exact ⟨hstored, hstored ▸ poisoned_isBad d⟩

/-! ### The sweep (R440 to R442) -/

/-- The sweeper of a unit goes on to its next word. -/
def sweepStepped (k unit n : Nat) (s : State) : State :=
  { s with mm := { s.mm with pos := Memory.set (fun _ => 0) s.mm.pos (8192 * k + unit) (n + 1) } }

theorem sweepStepped_pos (k unit n : Nat) (s : State) : (sweepStepped k unit n s).sweepPos k unit = n + 1 := Memory.get_set_same _ _ s.mm.pos

/-- A read of the sweep within a lap. -/
theorem sweep_reads {k : Fin 8} {unit n : Nat} (hctx : k.val ≠ 0) (hn : n = s.sweepPos k unit) (hen : s.on SWP_MEMk_CTL_EN k = true)
    (hunit : (s.sweepUnits k).contains unit = true) (hfree : s.sweepFree k unit = true) (hlap : n + 1 < sweepLength k) :
    exec (.memorySweepRead k unit) s = .next (sweepStepped k unit n (sweepWord k unit n s)) := by
  subst hn
  have hruns : ¬ (¬ s.on SWP_MEMk_CTL_EN k = true ∨ ¬ (s.sweepUnits k).contains unit = true ∨ sweepLength k ≤ s.sweepPos k unit ∨
      ¬ s.sweepFree k unit = true) := by
    simp only [hen, hunit, hfree, not_true_eq_false, false_or, or_false]
    omega
  rw [exec_memorySweepRead]
  unfold execMemorySweepRead
  refine (if_neg hruns).trans ?_
  simp only [if_neg hctx, if_neg (Nat.ne_of_lt hlap)]
  rfl

/-- The mended-word clause of O40. -/
theorem sweep_mends {k : Fin 8} {unit n : Nat} {d : Word} (hctx : k.val ≠ 0) (hnva : k.val ≠ 7) (hn : n = s.sweepPos k unit)
    (hen : s.on SWP_MEMk_CTL_EN k = true) (hunit : (s.sweepUnits k).contains unit = true) (hfree : s.sweepFree k unit = true)
    (hlap : n + 1 < sweepLength k) (hmark : (s.pword (sweepKey k unit n)).isPoisoned = false) (hdecode : (s.pword (sweepKey k unit n)).decode = .mended d) :
    ∃ t, exec (.memorySweepRead k unit) s = .next t ∧ sweepKey k unit n ∈ t.mends ∧ t.mem = s.mem ∧
      t.fld SWP_MEMk_COUNT_CORR k = (s.fld SWP_MEMk_COUNT_CORR k + 1) % 2 ^ SWP_MEMk_COUNT_CORR.w ∧ t.sweepPos k unit = n + 1 ∧
      t.out = s.out ∧ regsKeep [SWP_MEMk_COUNT_CORR.key k 0 0] s t := by
  have hmended : (s.pword (sweepKey k unit n)).isMended = true := by
    unfold PWord.isMended
    rw [hmark, hdecode]
    rfl
  have hword : sweepWord k unit n s = (s.noteMend (sweepKey k unit n)).addFld SWP_MEMk_COUNT_CORR 1 k := by
    unfold sweepWord
    simp only [hmark, Bool.false_eq_true, if_false, hdecode, if_neg hnva]
  have hfiled : sweepKey k unit n ∈ (s.noteMend (sweepKey k unit n)).mends := by
    unfold State.noteMend
    rw [if_pos hmended]
    exact List.mem_append_right _ (List.mem_singleton.mpr rfl)
  refine ⟨_, sweep_reads hctx hn hen hunit hfree hlap, ?_, ?_, ?_, sweepStepped_pos k unit n _, ?_, ?_⟩
  · rw [hword]
    exact hfiled
  · rw [hword]
    exact noteMend_mem s _
  · rw [hword]
    refine (fld_addFld (s.noteMend _) SWP_MEMk_COUNT_CORR 1 k 0 0).trans ?_
    rw [fld_congr SWP_MEMk_COUNT_CORR k 0 0 (reg_congr (noteMend_regs s _) _)]
  · rw [hword]
    exact noteMend_out s _
  · rw [hword]
    exact regsKeep_trans (fun j _ => reg_congr (noteMend_regs s _) j) (regsKeep_setFld (s.noteMend _) SWP_MEMk_COUNT_CORR _ k 0 0)

theorem sweepSource (k : Fin 8) : sourceRange (0x3C0 + k) = some ⟨0x3C0, 0x3C8, 1, false, false⟩ := by
  revert k
  decide

/-- An uncorrectable word is marked, counted and recorded, before it is reported. -/
def badRecorded (k unit n : Nat) (s : State) : State :=
  let key := sweepKey k unit n
  ((s.setPword key { s.pword key with mark := 3 }).addFld SWP_MEMk_COUNT_UNCORR 1 k).setReg (SWP_MEMk_LAST_WORD.key k 0 0)
    (mkWord [(0, 24, (sweepUnitWord k unit n).2), (32, 13, (sweepUnitWord k unit n).1), (45, 3, sweepMem k n), (63, 1, 1)])

/-- The bad-word clause of O40. -/
theorem sweep_poisons {k : Fin 8} {unit n : Nat} (hctx : k.val ≠ 0) (hnva : k.val ≠ 7) (hn : n = s.sweepPos k unit)
    (hen : s.on SWP_MEMk_CTL_EN k = true) (hunit : (s.sweepUnits k).contains unit = true) (hfree : s.sweepFree k unit = true)
    (hlap : n + 1 < sweepLength k) (hmark : (s.pword (sweepKey k unit n)).isPoisoned = false) (hdecode : (s.pword (sweepKey k unit n)).decode = .bad) :
    ∃ t u, exec (.memorySweepRead k unit) s = .next t ∧
      t.pword (sweepKey k unit n) = { s.pword (sweepKey k unit n) with mark := 3 } ∧ t.sweepPos k unit = n + 1 ∧
      t.flt = (raise (0x3C0 + k) (sweepUnitWord k unit n).2 u).flt ∧ u.flt = s.flt ∧
      u.fld SWP_MEMk_COUNT_UNCORR k = (s.fld SWP_MEMk_COUNT_UNCORR k + 1) % 2 ^ SWP_MEMk_COUNT_UNCORR.w ∧
      u.reg (SWP_MEMk_LAST_WORD.key k 0 0) = mkWord [(0, 24, (sweepUnitWord k unit n).2), (32, 13, (sweepUnitWord k unit n).1),
        (45, 3, sweepMem k n), (63, 1, 1)] ∧ regsKeep [SWP_MEMk_COUNT_UNCORR.key k 0 0, SWP_MEMk_LAST_WORD.key k 0 0] s u := by
  have hword : sweepWord k unit n s = raise (0x3C0 + k) (sweepUnitWord k unit n).2 (badRecorded k unit n s) := by
    unfold sweepWord sweepPoison
    simp only [hmark, Bool.false_eq_true, if_false, hdecode, if_neg hnva]
    rfl
  have hkey : SWP_MEMk_COUNT_UNCORR.key k 0 0 ≠ SWP_MEMk_LAST_WORD.key k 0 0 := by
    simp only [Field.key, SWP_MEMk_COUNT_UNCORR, SWP_MEMk_LAST_WORD]
    omega
  refine ⟨_, badRecorded k unit n s, sweep_reads hctx hn hen hunit hfree hlap, ?_, sweepStepped_pos k unit n _, ?_, rfl, ?_, reg_setReg_same _ _ _, ?_⟩
  · rw [hword]
    refine (pword_congr (s := badRecorded k unit n s) ?_ _).trans (pword_setPword_same s _ _)
    exact raise_mem (sweepSource k) rfl (by omega) _ _
  · rw [hword]
    rfl
  · unfold badRecorded
    rw [fld_setReg_other _ SWP_MEMk_COUNT_UNCORR _ _ k 0 0 hkey]
    exact fld_addFld (s.setPword _ _) SWP_MEMk_COUNT_UNCORR 1 k 0 0
  · unfold badRecorded
    exact regsKeep_trans (regsKeep_mono (by simp) (regsKeep_setFld (s.setPword _ _) SWP_MEMk_COUNT_UNCORR _ k 0 0))
      (regsKeep_mono (by simp) (regsKeep_setReg _ _ _))

/-- The lap of a class begins again with EN and PACE written. -/
theorem sweep_enable {k : Fin 8} {h : Half} (data : Word) (hadm : s.admits m .SWP_MEMk_CTL [k.val]) (hh : h ≠ .high) :
    ∃ t, exec (.sweepEnableWrite m k h data) s = .next t ∧ t.fld SWP_MEMk_CTL_EN k = bits data 0 1 ∧
      t.fld SWP_MEMk_CTL_PACE k = bits data 16 16 ∧ t.lap k = ([], s.fld DEVICE_TIME_TIME) ∧
      t.fld SWP_MEMk_LAP_LAST_US k = s.fld SWP_MEMk_LAP_LAST_US k ∧ t.out = s.out ∧ t.mem = s.mem := by
  have hlow : ¬ ¬ h.reaches 0 = true := by
    cases h with
    | full => decide
    | low => decide
    | high => exact absurd rfl hh
  have hexec : exec (.sweepEnableWrite m k h data) s =
      .next (newLap k (((renewLease m s).setFld SWP_MEMk_CTL_EN (bits data 0 1) k).setFld SWP_MEMk_CTL_PACE (bits data 16 16) k)) := by
    rw [exec_sweepEnableWrite]
    unfold execSweepEnableWrite
    rw [regWrite_admits hadm]
    exact congrArg Host.Outcome.next (if_neg hlow)
  have hother (F : Field) (hF : F.key k 0 0 ≠ SWP_MEMk_CTL_EN.key k 0 0) :
      (((renewLease m s).setFld SWP_MEMk_CTL_EN (bits data 0 1) k).setFld SWP_MEMk_CTL_PACE (bits data 16 16) k).fld F k = (renewLease m s).fld F k :=
    (fld_setFld_elsewhere _ SWP_MEMk_CTL_PACE F _ hF).trans (fld_setFld_elsewhere _ SWP_MEMk_CTL_EN F _ hF)
  refine ⟨_, hexec, ?_, ?_, ?_, ?_, renewLease_out m s, renewLease_mem m s⟩
  · exact (fld_setFld_beside _ SWP_MEMk_CTL_PACE SWP_MEMk_CTL_EN _).trans (fld_setFld_fits (renewLease m s) SWP_MEMk_CTL_EN k 0 0 (bits_lt data 0 1))
  · exact fld_setFld_fits _ SWP_MEMk_CTL_PACE k 0 0 (bits_lt data 16 16)
  · refine (Memory.get_set_same _ _ _).trans ?_
    refine congrArg (Prod.mk []) ((fld_setFld_elsewhere _ SWP_MEMk_CTL_PACE DEVICE_TIME_TIME _ ?_).trans
      ((fld_setFld_elsewhere _ SWP_MEMk_CTL_EN DEVICE_TIME_TIME _ ?_).trans (fld_renewLease_above m s (g := DEVICE_TIME_TIME) (by decide) 0)))
    · simp only [Field.key, SWP_MEMk_CTL_PACE, DEVICE_TIME_TIME]
      omega
    · simp only [Field.key, SWP_MEMk_CTL_EN, DEVICE_TIME_TIME]
      omega
  · refine (hother SWP_MEMk_LAP_LAST_US ?_).trans (fld_renewLease_above m s (g := SWP_MEMk_LAP_LAST_US) (by decide) k)
    simp only [Field.key, SWP_MEMk_LAP_LAST_US, SWP_MEMk_CTL_EN]
    omega

/-! ### The bank store: what a port does with one word (R443 to R453) -/

/-- A word wholly written or read. -/
def wholeWord : Word := 0xFFFFFFFFFFFFFFFF

theorem wordMask_whole (q : Nat) : wordMask (8 * q) 8 q = wholeWord := by
  have hbytes : wordMask (8 * q) 8 q = (List.range 8).foldl (fun m j => m ||| 0xFF <<< (8 * j)) 0 := by
    refine List.foldl_ext _ _ _ fun v j hj => if_pos ?_
    have hlt := List.mem_range.mp hj
    omega
  rw [hbytes]
  decide

/-- An access of one whole word. -/
def oneWord (m : Ident) (b w : Nat) (data : Option (List Word)) (poison : Bool) : BankAccess := ⟨m, b, [(w, wholeWord)], data, poison⟩

theorem words_whole {r : BankReq} {q : Nat} (haddr : r.addr = 8 * q) (hsize : r.size = 8) (s : State) :
    r.words s = [(s.bankWordAt (bankPlace r.addr) 0, wholeWord)] := by
  have hone : wordsTouched r.addr r.size = 1 := by
    unfold wordsTouched
    omega
  have hmask : byteMask r.addr r.size 0 = wholeWord := by
    unfold byteMask
    rw [haddr, hsize, Nat.mul_div_cancel_left q (by decide)]
    exact wordMask_whole q
  unfold BankReq.words
  rw [hone]
  show [(_, byteMask r.addr r.size 0)] = _
  rw [hmask]

/-- What waits at a port, with one more access. -/
def queued (port : Bool) (x : BankAccess) (s : State) : State :=
  if port then { s with mm := { s.mm with portB := s.mm.portB ++ [x] } } else { s with mm := { s.mm with portA := s.mm.portA ++ [x] } }

section
variable {r : BankReq} {b w off : Nat} {win : Option Nat} {port : Bool} (hplace : bankPlace r.addr = (b, win, off)) (hwords : r.words s = [(w, wholeWord)])
include hplace

/-- A request of another than the owner is denied. -/
theorem reach_denied (howner : s.bankOwner b ≠ r.ident) : reachBank port r s =
    answerBank port r.ident .denied (bankZeros r.data (r.words s).length)
      (bankViolation b r.ident (((r.words s).map Prod.fst).head?.getD 0) r.data.isSome false 0 s) := by
  unfold reachBank
  rw [hplace]
  exact if_pos howner

/-- A request of the owner through a window that is not enabled. -/
theorem reach_unmapped (howner : s.bankOwner b = r.ident) (hwin : win.any (fun j => !s.on BNK_WINb_j_EN b j) = true) :
    reachBank port r s = answerBank port r.ident .decode (bankZeros r.data (r.words s).length) s := by
  unfold reachBank
  rw [hplace]
  exact (if_neg (not_not.mpr howner)).trans (if_pos hwin)

include hwords in
/-- A request of the owner joins its port's queue. -/
theorem reach_queued (howner : s.bankOwner b = r.ident) (hwin : win.any (fun j => !s.on BNK_WINb_j_EN b j) = false)
    (hclear : s.on BNK_OWNERb_CLEARING b = false) : reachBank port r s = queued port (oneWord r.ident b w r.data r.poison) s := by
  unfold reachBank
  rw [hplace, hwords]
  refine (if_neg (not_not.mpr howner)).trans ((if_neg (by rw [hwin]; decide)).trans ((if_neg (by rw [hclear]; decide)).trans ?_))
  rfl

include hwords in
/-- A request of the owner waits while its bank is being cleared. -/
theorem reach_held (howner : s.bankOwner b = r.ident) (hwin : win.any (fun j => !s.on BNK_WINb_j_EN b j) = false)
    (hclear : s.on BNK_OWNERb_CLEARING b = true) : reachBank port r s =
      { s with mm := { s.mm with held := s.mm.held ++ [(port, oneWord r.ident b w r.data r.poison)] } } := by
  unfold reachBank
  rw [hplace, hwords]
  exact (if_neg (not_not.mpr howner)).trans ((if_neg (by rw [hwin]; decide)).trans (if_pos hclear))

end

section
variable (port : Bool) (st : Status) (ws : List Word) (s : State)

theorem answerBank_out : (answerBank port m st ws s).out = .bank port m st ws :: s.out := rfl
theorem answerBank_mem : (answerBank port m st ws s).mem = s.mem := rfl
theorem answerBank_mm : (answerBank port m st ws s).mm = s.mm := rfl

/-- The port's own status register changes. -/
theorem answerBank_fld {F : Field} {i j : Nat} (hF : 0x1C00000 ≤ F.off) : (answerBank port m st ws s).fld F i j = s.fld F i j := by
  refine fld_setFld_elsewhere s NOC_EPe_STATUS_OUTSTANDING F _ ?_
  have hport : bankPortEndpoint port < 0x1000 := by cases port <;> decide
  simp only [Field.key, NOC_EPe_STATUS_OUTSTANDING]
  omega

end

theorem serve_read {b w : Nat} {v : Word} (port : Bool) (poison : Bool) (hclean : (s.pword (bankWordKey b w)).decode = .clean v)
    (hmark : (s.pword (bankWordKey b w)).isPoisoned = false) : serveBank port (oneWord m b w none poison) s = answerBank port m .ok [v] s := by
  have hgood : (s.pword (bankWordKey b w)).isBad = false := by
    unfold PWord.isBad
    rw [hmark, hclean]
    rfl
  have hvalue : (s.pword (bankWordKey b w)).value &&& wholeWord = v := by
    unfold PWord.value PWord.value?
    rw [hmark, hclean]
    exact BitVec.and_allOnes
  have hnote : s.noteMend (bankWordKey b w) = s := by
    refine if_neg ?_
    unfold PWord.isMended
    rw [hmark, hclean]
    exact Bool.false_ne_true
  have hserve : serveBank port (oneWord m b w none poison) s =
      if (s.pword (bankWordKey b w)).isBad || false then answerBank port m .errData [0] s
      else answerBank port m .ok [(s.pword (bankWordKey b w)).value &&& wholeWord] (s.noteMend (bankWordKey b w)) := rfl
  rw [hserve, hgood, hvalue, hnote]
  rfl

theorem serve_bad {b w : Nat} (port : Bool) (poison : Bool) (hbad : (s.pword (bankWordKey b w)).isBad = true) :
    serveBank port (oneWord m b w none poison) s = answerBank port m .errData [0] s := by
  refine if_pos ?_
  simp [oneWord, hbad]

theorem serve_write (port : Bool) (b w : Nat) (d : Word) (s : State) :
    serveBank port (oneWord m b w (some [d]) false) s = answerBank port m .ok [] (s.writeP (bankWordKey b w) d) := by
  have hwrite : s.writeMasked (bankWordKey b w) wholeWord d false = some (s.writeP (bankWordKey b w) d) := if_pos rfl
  have hmade : bankWriteWord b false (s, true) (w, wholeWord, d) = (s.writeP (bankWordKey b w) d, true) := by
    unfold bankWriteWord
    simp only [hwrite]
  show writeBank port (oneWord m b w (some [d]) false) [d] s = _
  unfold writeBank
  simp only [oneWord, List.zip_cons_cons, List.zip_nil_left, List.map_cons, List.map_nil, List.foldl_cons, List.foldl_nil, hmade, if_true]

theorem serve_poison (port : Bool) (b w : Nat) (d : Word) (s : State) :
    serveBank port (oneWord m b w (some [d]) true) s = answerBank port m .ok [] (s.writePoison (bankWordKey b w) d) := by
  have hwrite : s.writeMasked (bankWordKey b w) wholeWord d true = some (s.writePoison (bankWordKey b w) d) := if_pos rfl
  have hmade : bankWriteWord b true (s, true) (w, wholeWord, d) = (s.writePoison (bankWordKey b w) d, true) := by
    unfold bankWriteWord
    simp only [hwrite]
  show writeBank port (oneWord m b w (some [d]) true) [d] s = _
  unfold writeBank
  simp only [oneWord, List.zip_cons_cons, List.zip_nil_left, List.map_cons, List.map_nil, List.foldl_cons, List.foldl_nil, hmade, if_true]

/-! ### A cycle of the ports (R446, R447) -/

/-- The ports after port A's, or port B's, oldest access is taken. -/
def takenA (s : State) : State := { s with mm := { s.mm with portA := s.mm.portA.tail, stallA := 0 } }
def takenB (s : State) : State := { s with mm := { s.mm with portB := s.mm.portB.tail, stallB := 0 } }

theorem bankCycle_idle (hA : s.mm.portA = []) (hB : s.mm.portB = []) : bankCycle s = s := by
  unfold bankCycle
  rw [hA, hB]

theorem bankCycle_A {x : BankAccess} {l : List BankAccess} (hA : s.mm.portA = x :: l) (hB : s.mm.portB = []) : bankCycle s = serveBank false x (takenA s) := by
  simp only [bankCycle, takenA, hA, hB]

theorem bankCycle_B {x : BankAccess} {l : List BankAccess} (hA : s.mm.portA = []) (hB : s.mm.portB = x :: l) : bankCycle s = serveBank true x (takenB s) := by
  simp only [bankCycle, takenB, hA, hB]

/-- A conflict that port B has not lost 16 times: port A is served and port B counts the cycle. -/
theorem bankCycle_stalls {x y : BankAccess} {l l' : List BankAccess} (hA : s.mm.portA = x :: l) (hB : s.mm.portB = y :: l') (hconf : bankConflict x y = true)
    (hstall : s.mm.stallB < 16) : bankCycle s =
      serveBank false x (takenA (State.addFld { s with mm := { s.mm with stallB := s.mm.stallB + 1 } } BNK_STATUSb_STALLS_B 1 y.bank)) := by
  unfold bankCycle takenA
  rw [hA, hB]
  refine (if_pos hconf).trans ((if_neg (Nat.not_le.mpr hstall)).trans ?_)
  simp only [addFld_mm, hA]

theorem exec_bankA (r : BankReq) (s : State) : exec (.bankAccess (some r) none) s = .next (bankCycle (reachBank false r s)) := rfl
theorem exec_bankB (r : BankReq) (s : State) : exec (.bankAccess none (some r)) s = .next (bankCycle (reachBank true r s)) := rfl
theorem exec_bankAB (r q : BankReq) (s : State) : exec (.bankAccess (some r) (some q)) s = .next (bankCycle (reachBank true q (reachBank false r s))) := rfl
theorem exec_bankNone (s : State) : exec (.bankAccess none none) s = .next (bankCycle s) := rfl


/-! ### A violation of a bank (R449) -/

theorem violation_rest (m : Ident) (kind : ViolKind) (write : Bool) (off : Nat) (s : State) :
    violation m kind write off s = { s with regs := (violation m kind write off s).regs } := by
  cases hn : slotOf m with
  | none =>
    unfold violation
    rw [hn]
  | some n => exact (violation_onlyRegs hn kind write off s).1

theorem violation_high {key : Nat} (hkey : 0x102000 ≤ key) (m : Ident) (kind : ViolKind) (write : Bool) (off : Nat) (s : State) :
    (violation m kind write off s).reg key = s.reg key := by
  cases hn : slotOf m with
  | none =>
    unfold violation
    rw [hn]
  | some n => exact violation_reg hkey hn (slot_lt hn) kind write off s

theorem bankViolation_rest (b : Nat) (m : Ident) (word : Nat) (write ownerWrite : Bool) (off : Nat) (s : State) :
    bankViolation b m word write ownerWrite off s = { s with regs := (bankViolation b m word write ownerWrite off s).regs } := violation_rest m .bank write off _

theorem bankViolation_count (b : Nat) (m : Ident) (word : Nat) (write ownerWrite : Bool) (off : Nat) (s : State) :
    (bankViolation b m word write ownerWrite off s).fld BNK_VIOLb_COUNT b = (s.fld BNK_VIOLb_COUNT b + 1) % 2 ^ BNK_VIOLb_COUNT.w := by
  refine (fld_congr BNK_VIOLb_COUNT b 0 0 (violation_high (by simp only [Field.key, BNK_VIOLb_COUNT]; omega) m .bank write off _)).trans
    ((fld_setReg_other _ BNK_VIOLb_COUNT _ _ b 0 0 ?_).trans (fld_addFld s BNK_VIOLb_COUNT 1 b 0 0))
  simp only [Field.key, BNK_VIOLb_COUNT, BNK_VIOL_LASTb_IDENT]
  omega

/-! ### BANK_ACCESS (R446 to R453) -/

/-- A bank's own place, and a window's. -/
theorem bankPlace_bank {b w : Nat} (hb : b < 256) (hw : w < 16384) : bankPlace (0x4002000000 + 0x20000 * b + 8 * w) = (b, none, 8 * w) := by
  unfold bankPlace
  rw [if_pos (by omega), show (0x4002000000 + 0x20000 * b + 8 * w - 0x4002000000) / 0x20000 = b by omega,
    show (0x4002000000 + 0x20000 * b + 8 * w - 0x4002000000) % 0x20000 = 8 * w by omega]

theorem bankPlace_window {b j o : Nat} (hj : j < 16) (ho : o < 131072) :
    bankPlace (0x4100000000 + 0x1000000 * b + 0x100000 * j + 8 * o) = (b, some j, 8 * o) := by
  unfold bankPlace
  rw [if_neg (by omega), show (0x4100000000 + 0x1000000 * b + 0x100000 * j + 8 * o - 0x4100000000) / 0x1000000 = b by omega,
    show (0x4100000000 + 0x1000000 * b + 0x100000 * j + 8 * o - 0x4100000000) % 0x1000000 / 0x100000 = j by omega,
    show (0x4100000000 + 0x1000000 * b + 0x100000 * j + 8 * o - 0x4100000000) % 0x100000 = 8 * o by omega]

/-- A request for one word of a bank. -/
def wordRequest (m : Ident) (b w : Nat) (data : Option (List Word)) (poison : Bool) : BankReq := ⟨m, 0x4002000000 + 0x20000 * b + 8 * w, 8, data, poison⟩

/-- A write of one word through a window. -/
def windowWrite (m : Ident) (b j o : Nat) (d : Word) : BankReq := ⟨m, 0x4100000000 + 0x1000000 * b + 0x100000 * j + 8 * o, 8, some [d], false⟩

theorem wordRequest_words {b w : Nat} (hb : b < 256) (hw : w < 16384) (m : Ident) (data : Option (List Word)) (poison : Bool) (s : State) :
    (wordRequest m b w data poison).words s = [(w, wholeWord)] := by
  have hat : s.bankWordAt (b, none, 8 * w) 0 = w := by
    show (8 * w / 8 + 0) % 16384 = w
    omega
  rw [words_whole (r := wordRequest m b w data poison) (q := 0x800400000 + 0x4000 * b + w) (by simp only [wordRequest]; omega) rfl,
    show bankPlace (wordRequest m b w data poison).addr = _ from bankPlace_bank hb hw, hat]

/-- The word of a window that maps within its bank. -/
theorem windowWrite_words {b j o : Nat} {d : Word} (hj : j < 16) (ho : o < 131072) (hlen : 0 < s.fld BNK_WINb_j_LEN b j)
    (hfit : s.fld BNK_WINb_j_BASE b j + s.fld BNK_WINb_j_LEN b j ≤ 16384) (m : Ident) :
    (windowWrite m b j o d).words s = [(s.fld BNK_WINb_j_BASE b j + o % s.fld BNK_WINb_j_LEN b j, wholeWord)] := by
  have hmod := Nat.mod_lt o hlen
  have hat : s.bankWordAt (b, some j, 8 * o) 0 = s.fld BNK_WINb_j_BASE b j + o % s.fld BNK_WINb_j_LEN b j := by
    show (s.fld BNK_WINb_j_BASE b j + (8 * o / 8 + 0) % max 1 (s.fld BNK_WINb_j_LEN b j)) % 16384 = _
    rw [Nat.max_eq_right hlen, Nat.add_zero, Nat.mul_div_cancel_left o (by decide)]
    exact Nat.mod_eq_of_lt (by omega)
  rw [words_whole (r := windowWrite m b j o d) (q := 0x820000000 + 0x200000 * b + 0x20000 * j + o) (by simp only [windowWrite]; omega) rfl,
    show bankPlace (windowWrite m b j o d).addr = _ from bankPlace_window hj ho, hat]

section
variable {b w : Nat} (hA : s.mm.portA = []) (hB : s.mm.portB = []) (hb : b < 256) (hw : w < 16384)
include hA hB hb hw

/-- The owner's request alone in a cycle is served in it. -/
theorem owner_served (data : Option (List Word)) (poison : Bool) (howner : s.bankOwner b = m) (hclear : s.on BNK_OWNERb_CLEARING b = false) :
    exec (.bankAccess (some (wordRequest m b w data poison)) none) s = .next (serveBank false (oneWord m b w data poison) (takenA (queued false (oneWord m b w data poison) s))) ∧
    exec (.bankAccess none (some (wordRequest m b w data poison))) s = .next (serveBank true (oneWord m b w data poison) (takenB (queued true (oneWord m b w data poison) s))) := by
  have hreach (port : Bool) : reachBank port (wordRequest m b w data poison) s = queued port (oneWord m b w data poison) s :=
    reach_queued (r := wordRequest m b w data poison) (bankPlace_bank hb hw) (wordRequest_words hb hw m data poison s) howner rfl hclear
  refine ⟨?_, ?_⟩
  · rw [exec_bankA, hreach]
    refine congrArg Host.Outcome.next (bankCycle_A (l := []) ?_ hB)
    show s.mm.portA ++ [_] = _
    rw [hA]
    rfl
  · rw [exec_bankB, hreach]
    refine congrArg Host.Outcome.next (bankCycle_B (l := []) hA ?_)
    show s.mm.portB ++ [_] = _
    rw [hB]
    rfl

theorem owner_reads {v : Word} (howner : s.bankOwner b = m) (hclear : s.on BNK_OWNERb_CLEARING b = false)
    (hclean : (s.pword (bankWordKey b w)).decode = .clean v) (hmark : (s.pword (bankWordKey b w)).isPoisoned = false) :
    ∃ t, exec (.bankAccess (some (wordRequest m b w none false)) none) s = .next t ∧ t.out = .bank false m .ok [v] :: s.out ∧ t.mem = s.mem ∧
      t.mm = { s.mm with stallA := 0 } := by
  have hexec := (owner_served hA hB hb hw none false howner hclear).1
  have hserve := serve_read (s := takenA (queued false (oneWord m b w none false) s)) (m := m) false false hclean hmark
  rw [hserve] at hexec
  refine ⟨_, hexec, rfl, rfl, ?_⟩
  have htail : (s.mm.portA ++ [oneWord m b w none false]).tail = s.mm.portA := by
    rw [hA]
    rfl
  show { s.mm with portA := (s.mm.portA ++ [oneWord m b w none false]).tail, stallA := 0 } = _
  rw [htail]

theorem owner_reads_bad (howner : s.bankOwner b = m) (hclear : s.on BNK_OWNERb_CLEARING b = false)
    (hbad : (s.pword (bankWordKey b w)).isBad = true) :
    ∃ t, exec (.bankAccess (some (wordRequest m b w none false)) none) s = .next t ∧ t.out = .bank false m .errData [0] :: s.out ∧ t.mem = s.mem := by
  have hexec := (owner_served hA hB hb hw none false howner hclear).1
  have hserve := serve_bad (s := takenA (queued false (oneWord m b w none false) s)) (m := m) false false hbad
  rw [hserve] at hexec
  exact ⟨_, hexec, rfl, rfl⟩

theorem owner_writes (d : Word) (howner : s.bankOwner b = m) (hclear : s.on BNK_OWNERb_CLEARING b = false) :
    ∃ t, exec (.bankAccess none (some (wordRequest m b w (some [d]) false))) s = .next t ∧ t.out = .bank true m .ok [] :: s.out ∧
      t.pword (bankWordKey b w) = PWord.clean d ∧ (∀ j, j ≠ bankWordKey b w → t.pword j = s.pword j) := by
  have hexec := (owner_served hA hB hb hw (some [d]) false howner hclear).2
  rw [serve_write] at hexec
  exact ⟨_, hexec, rfl, pword_writeP_same _ _ d, fun j hj => pword_writeP_other _ d hj⟩

theorem owner_poisons (d : Word) (howner : s.bankOwner b = m) (hclear : s.on BNK_OWNERb_CLEARING b = false) :
    ∃ t, exec (.bankAccess none (some (wordRequest m b w (some [d]) true))) s = .next t ∧ t.out = .bank true m .ok [] :: s.out ∧
      t.pword (bankWordKey b w) = PWord.poisoned d ∧ (∀ j, j ≠ bankWordKey b w → t.pword j = s.pword j) := by
  have hexec := (owner_served hA hB hb hw (some [d]) true howner hclear).2
  rw [serve_poison] at hexec
  exact ⟨_, hexec, rfl, pword_setPword_same _ _ _, fun j hj => pword_setPword_other _ _ hj⟩

/-- While a bank is cleared its owner's access waits. -/
theorem owner_waits (howner : s.bankOwner b = m) (hclear : s.on BNK_OWNERb_CLEARING b = true) :
    ∃ t, exec (.bankAccess (some (wordRequest m b w none false)) none) s = .next t ∧ t.out = s.out ∧ t.mem = s.mem ∧ t.regs = s.regs ∧
      t.mm.held = s.mm.held ++ [(false, oneWord m b w none false)] := by
  have hreach := reach_held (port := false) (r := wordRequest m b w none false) (bankPlace_bank hb hw) (wordRequest_words hb hw m none false s) howner rfl hclear
  have hidle : bankCycle (reachBank false (wordRequest m b w none false) s) = reachBank false (wordRequest m b w none false) s := by
    rw [hreach]
    exact bankCycle_idle hA hB
  rw [exec_bankA, hidle, hreach]
  exact ⟨_, rfl, rfl, rfl, rfl, rfl⟩

/-- Another than the owner is denied, and the violation is counted. -/
theorem other_denied (howner : s.bankOwner b ≠ m) :
    ∃ t, exec (.bankAccess (some (wordRequest m b w none false)) none) s = .next t ∧ t.out = .bank false m .denied [0] :: s.out ∧ t.mem = s.mem ∧
      t.fld BNK_VIOLb_COUNT b = (s.fld BNK_VIOLb_COUNT b + 1) % 2 ^ BNK_VIOLb_COUNT.w := by
  have hreach := reach_denied (port := false) (r := wordRequest m b w none false) (bankPlace_bank hb hw) howner
  rw [wordRequest_words hb hw] at hreach
  obtain ⟨v, hv⟩ : ∃ v, bankViolation b m w false false 0 s = v := ⟨_, rfl⟩
  have hrest := bankViolation_rest b m w false false 0 s
  have hcount := bankViolation_count b m w false false 0 s
  have hstate : reachBank false (wordRequest m b w none false) s = answerBank false m .denied [0] v := hreach.trans (congrArg _ hv)
  rw [hv] at hrest hcount
  have hout : v.out = s.out := by rw [hrest]
  have hmem : v.mem = s.mem := by rw [hrest]
  have hmm : v.mm = s.mm := by rw [hrest]
  have hidle : bankCycle (answerBank false m .denied [0] v) = answerBank false m .denied [0] v :=
    bankCycle_idle (by rw [answerBank_mm, hmm]; exact hA) (by rw [answerBank_mm, hmm]; exact hB)
  rw [exec_bankA, hstate, hidle]
  exact ⟨_, rfl, (answerBank_out _ _ _ v).trans (congrArg _ hout), hmem, (answerBank_fld _ _ _ v (F := BNK_VIOLb_COUNT) (by decide)).trans hcount⟩

/-- Two writes of one word in a cycle: port A's is made, port B's in the next cycle. -/
theorem both_write (d e : Word) (hstall : s.mm.stallB = 0) (howner : s.bankOwner b = m) (hclear : s.on BNK_OWNERb_CLEARING b = false) :
    ∃ t u, exec (.bankAccess (some (wordRequest m b w (some [d]) false)) (some (wordRequest m b w (some [e]) false))) s = .next t ∧
      t.pword (bankWordKey b w) = PWord.clean d ∧ t.out = .bank false m .ok [] :: s.out ∧
      t.fld BNK_STATUSb_STALLS_B b = (s.fld BNK_STATUSb_STALLS_B b + 1) % 2 ^ BNK_STATUSb_STALLS_B.w ∧
      exec (.bankAccess none none) t = .next u ∧ u.pword (bankWordKey b w) = PWord.clean e ∧ u.out = .bank true m .ok [] :: t.out := by
  have hfirst := reach_queued (port := false) (r := wordRequest m b w (some [d]) false) (bankPlace_bank hb hw) (wordRequest_words hb hw m _ _ s) howner rfl hclear
  have hsecond := reach_queued (s := queued false (oneWord m b w (some [d]) false) s) (port := true) (r := wordRequest m b w (some [e]) false)
    (bankPlace_bank hb hw) (wordRequest_words hb hw m _ _ _) howner rfl hclear
  have hportA : (queued true (oneWord m b w (some [e]) false) (queued false (oneWord m b w (some [d]) false) s)).mm.portA = [oneWord m b w (some [d]) false] := by
    show s.mm.portA ++ [_] = _
    rw [hA]
    rfl
  have hportB : (queued true (oneWord m b w (some [e]) false) (queued false (oneWord m b w (some [d]) false) s)).mm.portB = [oneWord m b w (some [e]) false] := by
    show s.mm.portB ++ [_] = _
    rw [hB]
    rfl
  have hconf : bankConflict (oneWord m b w (some [d]) false) (oneWord m b w (some [e]) false) = true := by simp [bankConflict, oneWord]
  have hbelow : (queued true (oneWord m b w (some [e]) false) (queued false (oneWord m b w (some [d]) false) s)).mm.stallB < 16 := by
    show s.mm.stallB < 16
    omega
  have hcycle := bankCycle_stalls hportA hportB hconf hbelow
  rw [serve_write] at hcycle
  have hnext := bankCycle_B (s := answerBank false m .ok [] (State.writeP (takenA (State.addFld
      { (queued true (oneWord m b w (some [e]) false) (queued false (oneWord m b w (some [d]) false) s)) with
        mm := { (queued true (oneWord m b w (some [e]) false) (queued false (oneWord m b w (some [d]) false) s)).mm with
          stallB := (queued true (oneWord m b w (some [e]) false) (queued false (oneWord m b w (some [d]) false) s)).mm.stallB + 1 } }
      BNK_STATUSb_STALLS_B 1 b)) (bankWordKey b w) d)) (x := oneWord m b w (some [e]) false) (l := []) (congrArg List.tail hportA) hportB
  rw [serve_write] at hnext
  have hstate : reachBank true (wordRequest m b w (some [e]) false) (reachBank false (wordRequest m b w (some [d]) false) s) =
      queued true (oneWord m b w (some [e]) false) (queued false (oneWord m b w (some [d]) false) s) := by
    rw [hfirst]
    exact hsecond
  have hexec := (exec_bankAB (wordRequest m b w (some [d]) false) (wordRequest m b w (some [e]) false) s).trans
    (congrArg Host.Outcome.next ((congrArg bankCycle hstate).trans hcycle))
  exact ⟨_, _, hexec, pword_writeP_same _ _ d, rfl, (answerBank_fld false .ok [] _ (F := BNK_STATUSb_STALLS_B) (by decide)).trans
    (fld_addFld _ BNK_STATUSb_STALLS_B 1 b 0 0), (exec_bankNone _).trans (congrArg Host.Outcome.next hnext), pword_writeP_same _ _ e, rfl⟩

end

section
variable {b j o : Nat} (hA : s.mm.portA = []) (hB : s.mm.portB = []) (hj : j < 16) (ho : o < 131072)
include hA hB hj ho

theorem window_writes (d : Word) (howner : s.bankOwner b = m) (hclear : s.on BNK_OWNERb_CLEARING b = false) (hen : s.on BNK_WINb_j_EN b j = true)
    (hlen : 0 < s.fld BNK_WINb_j_LEN b j) (hfit : s.fld BNK_WINb_j_BASE b j + s.fld BNK_WINb_j_LEN b j ≤ 16384) {w : Nat}
    (hword : s.fld BNK_WINb_j_BASE b j + o % s.fld BNK_WINb_j_LEN b j = w) :
    ∃ t, exec (.bankAccess (some (windowWrite m b j o d)) none) s = .next t ∧ t.out = .bank false m .ok [] :: s.out ∧
      t.pword (bankWordKey b w) = PWord.clean d ∧ (∀ i, i ≠ bankWordKey b w → t.pword i = s.pword i) := by
  subst hword
  have hwin : (some j).any (fun j => !s.on BNK_WINb_j_EN b j) = false := by
    show (!s.on BNK_WINb_j_EN b j) = false
    rw [hen]
    rfl
  have hreach := reach_queued (port := false) (r := windowWrite m b j o d) (bankPlace_window hj ho) (windowWrite_words hj ho hlen hfit m) howner hwin hclear
  have hcycle := bankCycle_A (s := queued false (oneWord m b (s.fld BNK_WINb_j_BASE b j + o % s.fld BNK_WINb_j_LEN b j) (some [d]) false) s)
    (x := oneWord m b (s.fld BNK_WINb_j_BASE b j + o % s.fld BNK_WINb_j_LEN b j) (some [d]) false) (l := [])
    (by show s.mm.portA ++ [_] = _; rw [hA]; rfl) hB
  rw [serve_write] at hcycle
  have hexec := (exec_bankA (windowWrite m b j o d) s).trans (congrArg Host.Outcome.next ((congrArg bankCycle hreach).trans hcycle))
  exact ⟨_, hexec, rfl, pword_writeP_same _ _ d, fun i hi => pword_writeP_other _ d hi⟩

theorem window_unmapped (d : Word) (howner : s.bankOwner b = m) (hen : s.on BNK_WINb_j_EN b j = false) :
    ∃ t, exec (.bankAccess (some (windowWrite m b j o d)) none) s = .next t ∧ t.out = .bank false m .decode [] :: s.out ∧ t.mem = s.mem := by
  have hwin : (some j).any (fun j => !s.on BNK_WINb_j_EN b j) = true := by
    show (!s.on BNK_WINb_j_EN b j) = true
    rw [hen]
    rfl
  have hreach := reach_unmapped (port := false) (r := windowWrite m b j o d) (bankPlace_window hj ho) howner hwin
  have hidle : bankCycle (answerBank false m .decode [] s) = answerBank false m .decode [] s := bankCycle_idle hA hB
  rw [exec_bankA, hreach]
  exact ⟨_, congrArg Host.Outcome.next hidle, rfl, rfl⟩

end

/-! ### The bank's registers (R451 to R453) -/

theorem bankOwner_renewLease (m : Ident) (b : Nat) (s : State) : (renewLease m s).bankOwner b = s.bankOwner b := by
  unfold State.bankOwner
  rw [fld_renewLease_above m s (g := BNK_OWNERb_IDENT) (by decide) b]

theorem mayWriteBank_renewLease (m : Ident) (b : Nat) (s : State) : (renewLease m s).mayWriteBank b m = s.mayWriteBank b m := by
  unfold State.mayWriteBank
  rw [bankOwner_renewLease, renewLease_isOwner]

theorem mayWriteBank_of {b : Nat} (h : s.bankOwner b = m ∨ s.isOwner m = true) : s.mayWriteBank b m = true := by
  unfold State.mayWriteBank
  rcases h with h | h
  · rw [decide_eq_true h, Bool.true_or]
  · rw [h, Bool.or_true]

/-- The owner or the device owner writes IDENT, and may begin a clear. -/
theorem owner_written {b : Fin 256} (data : Word) (hadm : s.admits m .BNK_OWNERb [b.val]) (hclear : s.on BNK_OWNERb_CLEARING b = false)
    (hmay : s.bankOwner b = m ∨ s.isOwner m = true) :
    ∃ t, exec (.bankOwnerWrite m b .full data) s = .next t ∧ t.fld BNK_OWNERb_IDENT b = bits data 0 32 ∧
      t.on BNK_OWNERb_CLEARING b = bit data BNK_OWNERb_CLEAR.lo ∧ t.out = s.out ∧ t.mem = s.mem ∧
      regsKeep [leaseKey, BNK_OWNERb_IDENT.key b 0 0] s t := by
  have hclear' : (renewLease m s).fld BNK_OWNERb_CLEARING b = 0 := by
    rw [fld_renewLease_above m s (g := BNK_OWNERb_CLEARING) (by decide) b]
    simpa [State.on] using hclear
  have hgranted : ¬ (¬ (renewLease m s).mayWriteBank b m = true ∨ (renewLease m s).on BNK_OWNERb_CLEARING b = true) := by
    rw [mayWriteBank_renewLease, mayWriteBank_of hmay]
    simp [State.on, hclear']
  have hexec : exec (.bankOwnerWrite m b .full data) s = .next
      (if bit data BNK_OWNERb_CLEAR.lo then ((renewLease m s).setFld BNK_OWNERb_IDENT (bits data 0 32) b).setFld BNK_OWNERb_CLEARING 1 b
       else (renewLease m s).setFld BNK_OWNERb_IDENT (bits data 0 32) b) := by
    rw [exec_bankOwnerWrite]
    unfold execBankOwnerWrite
    rw [regWrite_admits hadm]
    refine congrArg Host.Outcome.next ((if_neg hgranted).trans ?_)
    dsimp only
    rw [merged_full, wbit_full]
  have hident (u : State) (h : u.fld BNK_OWNERb_IDENT b = bits data 0 32) : (u.setFld BNK_OWNERb_CLEARING 1 b).fld BNK_OWNERb_IDENT b = bits data 0 32 :=
    (fld_setFld_beside u BNK_OWNERb_CLEARING BNK_OWNERb_IDENT 1).trans h
  have hstored := fld_setFld_fits (renewLease m s) BNK_OWNERb_IDENT b 0 0 (bits_lt data 0 32)
  have hkeep := regsKeep_trans (regsKeep_mono (l' := [leaseKey, BNK_OWNERb_IDENT.key b 0 0]) (by simp) (renewLease_regsKeep m s))
    (regsKeep_mono (by simp) (regsKeep_setFld (renewLease m s) BNK_OWNERb_IDENT (bits data 0 32) b 0 0))
  refine ⟨_, hexec, ?_⟩
  cases bit data BNK_OWNERb_CLEAR.lo with
  | true =>
    refine ⟨hident _ hstored, ?_, renewLease_out m s, renewLease_mem m s, regsKeep_trans hkeep
      (regsKeep_mono (l := [BNK_OWNERb_IDENT.key b 0 0]) (by simp) (regsKeep_setFld _ BNK_OWNERb_CLEARING 1 b 0 0))⟩
    have hone := fld_setFld_fits ((renewLease m s).setFld BNK_OWNERb_IDENT (bits data 0 32) b) BNK_OWNERb_CLEARING (v := 1) b 0 0 (by decide)
    exact decide_eq_true (by rw [if_pos rfl, hone]; decide)
  | false =>
    refine ⟨hstored, ?_, renewLease_out m s, renewLease_mem m s, hkeep⟩
    have hzero := (fld_setFld_beside (renewLease m s) BNK_OWNERb_IDENT BNK_OWNERb_CLEARING (bits data 0 32) (i := b) (j := 0) (k := 0) (i' := b) (j' := 0)
      (k' := 0)).trans hclear'
    exact decide_eq_false (by rw [if_neg (by decide), hzero]; decide)

theorem renewLease_other (h : s.isOwner m = false) : renewLease m s = s := if_neg (by rw [h]; decide)

/-- A write by another master is a violation. -/
theorem owner_write_denied {b : Fin 256} (h : Half) (data : Word) (hadm : s.admits m .BNK_OWNERb [b.val]) (hother : s.bankOwner b ≠ m)
    (hnot : s.isOwner m = false) :
    exec (.bankOwnerWrite m b h data) s = .next (bankViolation b m 0 true true (RegName.BNK_OWNERb.off [b.val] + h.skip) s) := by
  have hmay : s.mayWriteBank b m = false := by
    unfold State.mayWriteBank
    rw [decide_eq_false hother, hnot]
    rfl
  rw [exec_bankOwnerWrite]
  unfold execBankOwnerWrite
  rw [regWrite_admits hadm, renewLease_other hnot]
  exact congrArg Host.Outcome.next (if_pos (.inl (by rw [hmay]; decide)))

/-- A bank that is cleared is zero. -/
theorem bank_cleared {b : Fin 256} (hclear : s.on BNK_OWNERb_CLEARING b = true) (hheld : s.mm.held = []) :
    ∃ t, exec (.bankClearEnd b) s = .next t ∧ t.on BNK_OWNERb_CLEARING b = false ∧
      (∀ w, w < 16384 → t.pword (bankWordKey b w) = memDefault (bankWordKey b w)) ∧
      (∀ k, (k < bankWordKey b 0 ∨ bankWordKey (b + 1) 0 ≤ k) → t.pword k = s.pword k) ∧ t.out = s.out := by
  have hexec : exec (.bankClearEnd b) s = .next { ((zeroBank b s).setFld BNK_OWNERb_CLEARING 0 b) with mm := { s.mm with held := [] } } := by
    rw [exec_bankClearEnd]
    unfold execBankClearEnd
    rw [if_pos hclear]
    have hmm : ((zeroBank b s).setFld BNK_OWNERb_CLEARING 0 b).mm.held = [] := hheld
    simp only [hmm, List.filter_nil, List.foldl_nil]
    rfl
  have hword (k : Nat) : (zeroBank b s).pword k = if decide (k < bankWordKey b 0 ∨ bankWordKey (b + 1) 0 ≤ k) then s.pword k else memDefault k :=
    Memory.get_filter memDefault (fun k => decide (k < bankWordKey b 0 ∨ bankWordKey (b + 1) 0 ≤ k)) k s.mem
  refine ⟨_, hexec, ?_, fun w hw => (hword _).trans (if_neg ?_), fun k hk => (hword k).trans (if_pos (decide_eq_true hk)), rfl⟩
  · exact decide_eq_false (not_not.mpr (fld_setFld_fits (zeroBank b s) BNK_OWNERb_CLEARING (v := 0) b 0 0 (by decide)))
  · rw [decide_eq_true_eq]
    simp only [bankWordKey, memKey]
    omega

/-- A write of a window: ignored as a whole where the window is empty or passes the bank's end. -/
theorem window_written {b : Fin 256} {j : Fin 16} (data : Word) (hadm : s.admits m .BNK_WINb_j [b.val, j.val])
    (hmay : s.bankOwner b = m ∨ s.isOwner m = true) :
    ∃ t, exec (.bankWindowWrite m b j .full data) s = .next t ∧ t.out = s.out ∧ t.mem = s.mem ∧
      (if bits data 16 15 = 0 ∨ 16384 < bits data 0 14 + bits data 16 15 then t = renewLease m s
       else t.fld BNK_WINb_j_BASE b j = bits data 0 14 ∧ t.fld BNK_WINb_j_LEN b j = bits data 16 15 ∧
         t.fld BNK_WINb_j_EN b j = bits data 63 1 ∧ regsKeep [leaseKey, BNK_WINb_j_BASE.key b j 0] s t) := by
  have hgranted : ¬ ¬ (renewLease m s).mayWriteBank b m = true := by
    rw [mayWriteBank_renewLease, mayWriteBank_of hmay]
    decide
  have hexec : exec (.bankWindowWrite m b j .full data) s = .next
      (if bits data 16 15 = 0 ∨ 16384 < bits data 0 14 + bits data 16 15 then renewLease m s
       else (((renewLease m s).setFld BNK_WINb_j_BASE (bits data 0 14) b j).setFld BNK_WINb_j_LEN (bits data 16 15) b j).setFld
         BNK_WINb_j_EN (bits data 63 1) b j) := by
    rw [exec_bankWindowWrite]
    unfold execBankWindowWrite
    rw [regWrite_admits hadm]
    refine congrArg Host.Outcome.next ((if_neg hgranted).trans ?_)
    dsimp only
    rw [merged_full]
  by_cases hbad : bits data 16 15 = 0 ∨ 16384 < bits data 0 14 + bits data 16 15
  · rw [if_pos hbad] at hexec
    exact ⟨_, hexec, renewLease_out m s, renewLease_mem m s, by rw [if_pos hbad]⟩
  · rw [if_neg hbad] at hexec
    refine ⟨_, hexec, renewLease_out m s, renewLease_mem m s, ?_⟩
    rw [if_neg hbad]
    refine ⟨?_, ?_, fld_setFld_fits _ BNK_WINb_j_EN b j 0 (bits_lt data 63 1), ?_⟩
    · rw [fld_setFld_beside _ BNK_WINb_j_EN BNK_WINb_j_BASE, fld_setFld_beside _ BNK_WINb_j_LEN BNK_WINb_j_BASE]
      exact fld_setFld_fits _ BNK_WINb_j_BASE b j 0 (bits_lt data 0 14)
    · rw [fld_setFld_beside _ BNK_WINb_j_EN BNK_WINb_j_LEN]
      exact fld_setFld_fits _ BNK_WINb_j_LEN b j 0 (bits_lt data 16 15)
    · have hset (u : State) (F : Field) (v : Nat) (hF : F.key b j 0 = BNK_WINb_j_BASE.key b j 0) :
          regsKeep [leaseKey, BNK_WINb_j_BASE.key b j 0] u (u.setFld F v b j) :=
        regsKeep_mono (by rw [hF]; simp) (regsKeep_setFld u F v b j 0)
      exact regsKeep_trans (regsKeep_trans (regsKeep_trans (regsKeep_mono (by simp) (renewLease_regsKeep m s)) (hset _ BNK_WINb_j_BASE _ rfl))
        (hset _ BNK_WINb_j_LEN _ rfl)) (hset _ BNK_WINb_j_EN _ rfl)

/-- Settles O40. -/
theorem protectedWordsSweepsAndBanks : Obligations.ProtectedWordsSweepsAndBanks := by
  unfold Obligations.ProtectedWordsSweepsAndBanks
  refine ⟨protected_words, fun k unit n d s hctx hnva hn hen hunit hfree hlap hmark hdecode => sweep_mends hctx hnva hn hen hunit hfree hlap hmark hdecode,
    fun k unit n s hctx hnva hn hen hunit hfree hlap hmark hdecode => sweep_poisons hctx hnva hn hen hunit hfree hlap hmark hdecode,
    fun m k h data s hadm hh => sweep_enable data hadm hh, ?_, ?_, ?_, fun m b data s hadm hclear hmay => owner_written data hadm hclear hmay,
    fun m b h data s hadm hother hnot => owner_write_denied h data hadm hother hnot, fun b s hclear hheld => bank_cleared hclear hheld,
    fun m b j data s hadm hmay => window_written data hadm hmay⟩
  · intro m b w d v s hA hB hb hw
    exact ⟨fun howner hclear => ⟨owner_reads hA hB hb hw howner hclear, owner_reads_bad hA hB hb hw howner hclear, owner_writes hA hB hb hw d howner hclear,
      owner_poisons hA hB hb hw d howner hclear⟩, owner_waits hA hB hb hw, other_denied hA hB hb hw⟩
  · intro m b j o d s hA hB hb hj ho howner hclear
    exact ⟨fun hen hlen hfit => window_writes hA hB hj ho d howner hclear hen hlen hfit rfl, window_unmapped hA hB hj ho d howner⟩
  · intro m b w d e s hA hB hstall hb hw howner hclear
    exact both_write hA hB hb hw d e hstall howner hclear

end Sys2Proof.Machine
end

section
-- One proof at a time: the memory limit of the check counts a stack for every proof that waits for another.
set_option Elab.async false
/-! SUPPORT. What the channel groups' work leaves of the rest of the state (R215 to R218, R192 to R195, R203, R402): a group that enters SAFE, or
follows its region, changes registers, the groups, what is sent and the free words. -/

namespace Sys2Proof.Machine

variable {s t u : State}

/-- Only registers, the groups, what has been sent and the free words drawn change. -/
def groupsOnly (s t : State) : Prop := t = { s with regs := t.regs, out := t.out, free := t.free, chg := t.chg }

theorem groupsOnly_refl (s : State) : groupsOnly s s := rfl

theorem groupsOnly_trans (h : groupsOnly s t) (h' : groupsOnly t u) : groupsOnly s u := by
  unfold groupsOnly at h h' ⊢
  rw [h', h]

theorem groupsOnly.pwr (h : groupsOnly s t) : t.pwr = s.pwr := by rw [h]
theorem groupsOnly.tck (h : groupsOnly s t) : t.tck = s.tck := by rw [h]
theorem groupsOnly.cfg (h : groupsOnly s t) : t.cfg = s.cfg := by rw [h]
theorem groupsOnly.flt (h : groupsOnly s t) : t.flt = s.flt := by rw [h]

theorem groupsOnly_setReg (s : State) (k : Nat) (v : Word) : groupsOnly s (s.setReg k v) := rfl
theorem groupsOnly_setFld (s : State) (F : Field) (v i j k : Nat) : groupsOnly s (s.setFld F v i j k) := rfl
theorem groupsOnly_modGrp (s : State) (g : Nat) (f : Group → Group) : groupsOnly s (s.modGrp g f) := rfl
theorem groupsOnly_modChan (s : State) (g i : Nat) (f : Chan → Chan) : groupsOnly s (s.modChan g i f) := rfl
theorem groupsOnly_emit (s : State) (o : Out) : groupsOnly s (s.emit o) := rfl

theorem groupsOnly_ite {P : Prop} [Decidable P] (ht : groupsOnly s t) (hu : groupsOnly s u) : groupsOnly s (if P then t else u) := by
  split
  · exact ht
  · exact hu

theorem groupsOnly_foldl {α : Type} {f : State → α → State} (h : ∀ s a, groupsOnly s (f s a)) (l : List α) (s : State) : groupsOnly s (l.foldl f s) := by
  induction l generalizing s with
  | nil => exact groupsOnly_refl s
  | cons a r ih => exact groupsOnly_trans (h s a) (ih (f s a))

/-- A fold that carries a list beside the state. -/
theorem groupsOnly_foldl_fst {α β : Type} {f : State × β → α → State × β} (h : ∀ x a, groupsOnly x.1 (f x a).1) (l : List α) (x : State × β) :
    groupsOnly x.1 (l.foldl f x).1 := by
  induction l generalizing x with
  | nil => exact groupsOnly_refl x.1
  | cons a r ih => exact groupsOnly_trans (h x a) (ih (f x a))

/-! ### Channels, safe states and calibration steps (R217, R218, R243) -/

theorem groupsOnly_modChans (s : State) (g : Nat) (p : Chan → Bool) (f : Chan → Chan) : groupsOnly s (s.modChans g p f) :=
  groupsOnly_foldl (fun s i => groupsOnly_ite (groupsOnly_modChan s g i f) (groupsOnly_refl s)) positions s

theorem groupsOnly_abandonStep (g : Nat) (s : State) : groupsOnly s (abandonStep g s) := by
  unfold abandonStep
  split
  · exact groupsOnly_refl s
  · exact groupsOnly_trans (groupsOnly_foldl (fun s i => groupsOnly_modChan s g i _) _ s) rfl

theorem groupsOnly_abandonFor (g i : Nat) (s : State) : groupsOnly s (abandonFor g i s) := by
  unfold abandonFor
  split
  · exact groupsOnly_refl s
  · exact groupsOnly_ite (groupsOnly_abandonStep g s) (groupsOnly_refl s)

theorem groupsOnly_keeperLevel (c : Chan) (s : State) : groupsOnly s (keeperLevel c s).2 := by
  unfold keeperLevel
  split
  · exact groupsOnly_refl s
  · exact rfl

theorem groupsOnly_safeChan (g : Nat) (s : State) (i : Nat) : groupsOnly s (safeChan g s i) := by
  unfold safeChan
  dsimp only
  split
  · exact groupsOnly_modChan s g i _
  · refine groupsOnly_trans ?_ (groupsOnly_modChan _ g i _)
    split
    · exact groupsOnly_keeperLevel _ s
    · exact groupsOnly_refl s

theorem groupsOnly_applySafe (g : Nat) (s : State) : groupsOnly s (applySafe g s) := groupsOnly_foldl (groupsOnly_safeChan g) positions s

theorem groupsOnly_syncPlaying (g : Nat) (s : State) : groupsOnly s (syncPlaying g s) := rfl

/-! ### Claims (R192 to R195) -/

theorem groupsOnly_setHolder (g i : Nat) (o : Option Claimer) (s : State) : groupsOnly s (setHolder g i o s) := rfl

theorem groupsOnly_claimStep (g slot : Nat) (s : State) : groupsOnly s (claimStep g slot s).1 := by
  unfold claimStep
  split
  · exact (rfl : groupsOnly s (claimsDone g slot s))
  · split
    · exact groupsOnly_emit s _
    · dsimp only
      split
      · dsimp only
        exact groupsOnly_trans (groupsOnly_abandonFor g _ s) (groupsOnly_modGrp _ g _)
      · dsimp only
        exact groupsOnly_trans (groupsOnly_trans (groupsOnly_abandonFor g _ s) (groupsOnly_setHolder g _ _ _)) (groupsOnly_modGrp _ g _)
  · exact groupsOnly_refl s

theorem groupsOnly_claimRounds (g n : Nat) (slots : List Nat) (s : State) : groupsOnly s (claimRounds n g slots s) := by
  induction n generalizing slots s with
  | zero => exact groupsOnly_refl s
  | succ n ih =>
    have hround := groupsOnly_foldl_fst (f := fun (acc : State × List Nat) k =>
      ((claimStep g k acc.1).1, if (claimStep g k acc.1).2 then acc.2 ++ [k] else acc.2)) (fun acc k => groupsOnly_claimStep g k acc.1) slots (s, [])
    unfold claimRounds
    dsimp only
    split
    · exact hround
    · exact groupsOnly_trans hround (ih _ _)

theorem groupsOnly_noteGrant (g slot c : Nat) (s : State) : groupsOnly s (noteGrant g slot c s).1 := by
  unfold noteGrant
  split
  · split
    · dsimp only
      exact groupsOnly_modGrp s g _
    · exact groupsOnly_refl s
  · exact groupsOnly_refl s

theorem groupsOnly_grantWaiting (g i : Nat) (s : State) : groupsOnly s (grantWaiting g i s).1 := by
  unfold grantWaiting
  split
  · exact groupsOnly_refl s
  · split
    · exact groupsOnly_refl s
    · next w _ =>
      have hheld := groupsOnly_trans (groupsOnly_modGrp s g (fun x => { x with waiters := dropFirst w x.waiters })) (groupsOnly_setHolder g i (some w.2) _)
      dsimp only
      split
      · exact groupsOnly_trans hheld (groupsOnly_noteGrant g _ _ _)
      · exact groupsOnly_trans hheld (groupsOnly_emit _ _)

theorem groupsOnly_freeChan (g i : Nat) (who : Claimer) (s : State) : groupsOnly s (freeChan g i who s) :=
  groupsOnly_trans (groupsOnly_modGrp s g _) (groupsOnly_ite (groupsOnly_setHolder g i none _) (groupsOnly_refl _))

theorem groupsOnly_grantFreed (g : Nat) (l : List Nat) (s : State) : groupsOnly s (grantFreed g l s) := by
  have hgrants := groupsOnly_foldl_fst (f := fun (acc : State × List Nat) i =>
    ((grantWaiting g i acc.1).1, acc.2 ++ (grantWaiting g i acc.1).2)) (fun acc i => groupsOnly_grantWaiting g i acc.1) l (s, [])
  exact groupsOnly_trans hgrants (groupsOnly_claimRounds g 17 _ _)

theorem groupsOnly_releaseAll (g slot : Nat) (l : List Nat) (s : State) : groupsOnly s (releaseAll g slot l s) :=
  groupsOnly_trans
    (groupsOnly_trans (groupsOnly_foldl (fun s _ => groupsOnly_emit s _) _ s) (groupsOnly_foldl (fun s i => groupsOnly_freeChan g i _ s) _ _))
    (groupsOnly_grantFreed g _ _)

/-! ### Actions cut short, and the entry into SAFE (R195, R215, R216) -/

theorem groupsOnly_dropQuantities (g slot : Nat) (s : State) : groupsOnly s (dropQuantities g slot s) :=
  groupsOnly_foldl (fun s h => groupsOnly_ite (groupsOnly_trans (groupsOnly_modGrp s h _) (groupsOnly_setReg _ _ _)) (groupsOnly_refl s)) (List.range 128) s

theorem groupsOnly_answerAct (g : Nat) (a : GAct) (st : Status) (value : Nat) (s : State) : groupsOnly s (answerAct g a st value s) := by
  unfold answerAct
  dsimp only
  refine groupsOnly_trans (groupsOnly_trans (groupsOnly_trans (groupsOnly_trans (groupsOnly_trans ?_ (groupsOnly_modGrp _ g _)) (groupsOnly_setReg _ _ _))
    (groupsOnly_emit _ _)) (groupsOnly_setReg _ _ _)) (groupsOnly_releaseAll g a.slot a.asked _)
  exact groupsOnly_foldl (fun s c => groupsOnly_modGrp s (c / 16) _) _ s

theorem groupsOnly_fenceAct (g : Nat) (s : State) (slot : Nat) : groupsOnly s (fenceAct g s slot) := by
  unfold fenceAct
  split
  · exact groupsOnly_refl s
  · next a _ =>
    refine groupsOnly_trans (groupsOnly_trans (groupsOnly_dropQuantities g a.slot s) ?_) (groupsOnly_answerAct g a _ _ _)
    exact groupsOnly_foldl (fun s c => groupsOnly_modChan s (c / 16) (c % 16) _) _ _

theorem groupsOnly_endStream (g : Nat) (s : State) : groupsOnly s (endStream g s) := by
  unfold endStream
  split
  · exact groupsOnly_refl s
  · exact rfl

theorem groupsOnly_refuseCompanions (g : Nat) (s : State) : groupsOnly s (refuseCompanions g s) :=
  groupsOnly_trans (groupsOnly_modGrp s g _) (groupsOnly_foldl (fun s _ => groupsOnly_emit s _) _ _)

theorem groupsOnly_leaveMode (g : Nat) (s : State) : groupsOnly s (leaveMode g mdSafe s) := by
  have hfabric : ¬ (mdSafe = mdFabric ∨ mdSafe = mdStream) := by decide
  have hclaims : ¬ (mdSafe = mdContext ∨ mdSafe = mdParametric) := by decide
  unfold leaveMode
  simp only [if_neg hfabric, if_neg hclaims, if_true]
  refine groupsOnly_trans (groupsOnly_trans ?_ (groupsOnly_applySafe g _)) (groupsOnly_syncPlaying g _)
  refine groupsOnly_trans (groupsOnly_trans ?_ (groupsOnly_modGrp _ g _)) (groupsOnly_foldl (groupsOnly_fenceAct g) _ _)
  exact groupsOnly_trans (groupsOnly_trans (groupsOnly_trans (groupsOnly_setFld s _ _ _ _ _) (groupsOnly_modGrp _ g _)) (groupsOnly_endStream g _))
    (groupsOnly_refuseCompanions g _)

theorem groupsOnly_enterSafe (g : Nat) (s : State) : groupsOnly s (enterSafe g s) := by
  have hready : groupsOnly s (readySafe g s) := groupsOnly_trans (t := ((s.setFld CHG_MODE_PENDING 0 g).setFld CHG_MODE_REFLEX_ON 0 g).modGrp g
    (fun x => { x with modeFrozen := none })) rfl (groupsOnly_abandonStep g _)
  rw [enterSafe_eq]
  exact groupsOnly_ite hready (groupsOnly_trans hready (groupsOnly_leaveMode g _))

theorem groupsOnly_enterAllSafe (l : List Nat) (s : State) : groupsOnly s (enterAllSafe l s) := groupsOnly_foldl (fun s g => groupsOnly_enterSafe g s) l s

/-! ### Groups of a region (R203, R402) -/

theorem groupsOnly_loadEdges (g : Nat) (s : State) : groupsOnly s (loadEdges g s) := by
  unfold loadEdges
  exact groupsOnly_trans (groupsOnly_modGrp s g _) (groupsOnly_modGrp _ g _)

theorem groupsOnly_openFabric (g : Nat) (s : State) : groupsOnly s (openFabric g s) := by
  unfold openFabric
  split
  · exact groupsOnly_refl s
  · exact groupsOnly_trans (groupsOnly_modGrp s g _) (groupsOnly_trans (groupsOnly_modChans _ g _ _)
      (groupsOnly_trans (groupsOnly_loadEdges g _) (groupsOnly_syncPlaying g _)))

theorem groupsOnly_closeFabric (g : Nat) (s : State) : groupsOnly s (closeFabric g s) := by
  unfold closeFabric
  split
  · exact groupsOnly_refl s
  · exact groupsOnly_trans (groupsOnly_modGrp s g _) (groupsOnly_trans (groupsOnly_ite (groupsOnly_refl _)
      (groupsOnly_trans (groupsOnly_modGrp _ g _) (groupsOnly_applySafe g _))) (groupsOnly_syncPlaying g _))

theorem groupsOnly_followRegion (r : Nat) (s : State) : groupsOnly s (followRegion r s) :=
  groupsOnly_foldl (fun s g => groupsOnly_ite (groupsOnly_ite (groupsOnly_openFabric g s) (groupsOnly_closeFabric g s)) (groupsOnly_refl s)) _ s

theorem groupWork_modChans (s : State) (g : Nat) (p : Chan → Bool) (f : Chan → Chan) : groupWork s (s.modChans g p f) :=
  groupWork_foldl (fun s i => groupWork_ite (groupWork_modChan s g i f) (groupWork_refl s)) positions s

theorem groupWork_loadEdges (g : Nat) (s : State) : groupWork s (loadEdges g s) := by
  unfold loadEdges
  exact groupWork_trans (groupWork_modGrp s g _) (groupWork_modGrp _ g _)

theorem groupWork_openFabric (g : Nat) (s : State) : groupWork s (openFabric g s) := by
  unfold openFabric
  split
  · exact groupWork_refl s
  · exact groupWork_trans (groupWork_modGrp s g _) (groupWork_trans (groupWork_modChans _ g _ _)
      (groupWork_trans (groupWork_loadEdges g _) (groupWork_syncPlaying g _)))

theorem groupWork_closeFabric (g : Nat) (s : State) : groupWork s (closeFabric g s) := by
  unfold closeFabric
  split
  · exact groupWork_refl s
  · exact groupWork_trans (groupWork_modGrp s g _) (groupWork_trans (groupWork_ite (groupWork_refl _)
      (groupWork_trans (groupWork_modGrp _ g _) (groupWork_applySafe g _))) (groupWork_syncPlaying g _))

theorem groupWork_followRegion (r : Nat) (s : State) : groupWork s (followRegion r s) :=
  groupWork_foldl (fun s g => groupWork_ite (groupWork_ite (groupWork_openFabric g s) (groupWork_closeFabric g s)) (groupWork_refl s)) _ s

/-- A register below the groups' and the endpoints' stays. -/
theorem followRegion_reg_low (r : Nat) (s : State) {k : Nat} (hk : k < 0x601000) : (followRegion r s).reg k = s.reg k :=
  (groupWork_followRegion r s).2 k (by simp only [groupKey]; omega)

end Sys2Proof.Machine
end

section
-- One proof at a time: the memory limit of the check counts a stack for every proof that waits for another.
set_option Elab.async false
/-! SUPPORT. Clock gates and ramps (R631 to R638): bits of the gate registers, a ramp's state, and a write of one gate among those
that stay. -/

namespace Sys2Proof.Machine

variable {s t u : State} {n r : Nat} {b : Branch} {v : Bool} {data : Word}

/-! ### Bits of a register -/

/-- A bit of a register after a write of one bit. -/
theorem bit_setBits_one (w : Word) {n : Nat} (hn : n < 64) (v : Bool) (i : Nat) :
    bit (setBits w n 1 (bnat v)) i = if i = n then v else bit w i := by
  unfold bit
  rw [setBits_getLsbD w n 1 _ i (by omega)]
  by_cases hi : i = n
  · subst hi
    cases v <;> simp [bnat]
  · rw [if_neg (by omega), if_neg hi]

/-- A bit of a register that is given the value it has leaves the register. -/
theorem setBits_bit_own (w : Word) {n : Nat} (hn : n < 64) : setBits w n 1 (bnat (bit w n)) = w := by
  rw [← bits_one_eq_bnat, setBits_own w n 1 (by omega)]

/-- A field as wide as its register reads the register's bits. -/
theorem fbit_eq_bit (s : State) {F : Field} (hlo : F.lo = 0) (hw : F.w = 64) (n : Nat) : s.fbit F n = bit (s.reg (F.key 0 0 0)) n := by
  unfold State.fbit State.fld
  rw [hlo, hw, bits_testBit, Nat.zero_add]
  by_cases hn : n < 64
  · simp [hn, bit]
  · simp [hn, bit, BitVec.getLsbD_of_ge _ n (Nat.le_of_not_lt hn)]

/-- A bit of a field as wide as its register, after a write of one of them. -/
theorem fbit_setFbit_wide (s : State) {F : Field} (n i : Nat) (v : Bool) (hn : n < 64) (hlo : F.lo = 0 := by decide) (hw : F.w = 64 := by decide) :
    (s.setFbit F n v).fbit F i = if i = n then v else s.fbit F i := by
  rw [fbit_eq_bit _ hlo hw, fbit_eq_bit _ hlo hw, State.setFbit, reg_setReg_same, hlo, Nat.zero_add, bit_setBits_one _ hn]

theorem regsKeep_setFbit (s : State) (F : Field) (n : Nat) (v : Bool) (i j k : Nat) : regsKeep [F.key i j k] s (s.setFbit F n v i j k) :=
  regsKeep_setReg s _ _

theorem onlyRegs_setFbit (s : State) (F : Field) (n : Nat) (v : Bool) (i j k : Nat) : onlyRegs [F.key i j k] s (s.setFbit F n v i j k) :=
  ⟨rfl, regsKeep_setFbit s F n v i j k⟩

theorem fbit_congr (F : Field) (n : Nat) (h : t.reg (F.key 0 0 0) = s.reg (F.key 0 0 0)) : t.fbit F n = s.fbit F n := by
  unfold State.fbit
  rw [fld_congr F 0 0 0 h]

theorem fbit_setFbit_apart (s : State) (F G : Field) (n i : Nat) (v : Bool) (h : G.key 0 0 0 ≠ F.key 0 0 0 := by decide) :
    (s.setFbit F n v).fbit G i = s.fbit G i := fbit_congr G i (reg_setReg_other s _ h)

theorem onlyRegs.fbit_elsewhere {l : List Nat} (h : onlyRegs l s t) (F : Field) (hF : F.key 0 0 0 ∉ l) (n : Nat) : t.fbit F n = s.fbit F n :=
  fbit_congr F n (h.2 _ hF)

/-! ### States that differ in a register and in the power state -/

/-- The two states agree outside the power state and the registers listed. -/
def onlyPwr (l : List Nat) (s t : State) : Prop := onlyRegs l { s with pwr := t.pwr } t

theorem onlyPwr_refl (l : List Nat) (s : State) : onlyPwr l s s := onlyRegs_refl l s

theorem onlyRegs.onlyPwr {l : List Nat} (h : onlyRegs l s t) : onlyPwr l s t := by
  refine ⟨?_, h.2⟩
  rw [h.1]

theorem onlyPwr_trans {l : List Nat} (h : onlyPwr l s t) (h' : onlyPwr l t u) : onlyPwr l s u := by
  refine ⟨?_, fun k hk => (h'.2 k hk).trans (h.2 k hk)⟩
  rw [h'.1, h.1]

theorem onlyPwr_mono {l l' : List Nat} (hl : ∀ k ∈ l, k ∈ l') (h : onlyPwr l s t) : onlyPwr l' s t := onlyRegs_mono hl h

theorem onlyPwr_pwr (s : State) (p : PwrState) : onlyPwr [] s { s with pwr := p } := ⟨rfl, fun _ _ => rfl⟩

theorem onlyPwr.reg {l : List Nat} (h : onlyPwr l s t) {k : Nat} (hk : k ∉ l) : t.reg k = s.reg k := h.2 k hk

theorem onlyPwr.fld {l : List Nat} (h : onlyPwr l s t) (F : Field) (i : Nat) (hk : F.key i 0 0 ∉ l) : t.fld F i = s.fld F i := fld_congr F i 0 0 (h.2 _ hk)

theorem onlyPwr.out {l : List Nat} (h : onlyPwr l s t) : t.out = s.out := by rw [h.1]

theorem onlyRegs_pwr {l : List Nat} (h : onlyRegs l s t) : t.pwr = s.pwr := by rw [h.1]

/-! ### Ramps -/

theorem ramp_congr (h : t.pwr = s.pwr) (b : Branch) : t.ramp b = s.ramp b := by
  unfold State.ramp
  rw [h]

/-- The ramp that was written for a branch is the branch's ramp. -/
theorem ramp_setRamp_some (s : State) {b : Branch} {x : Ramp} (h : x.branch = b) : (s.setRamp b (some x)).ramp b = some x := by
  have hnone : (s.pwr.ramps.filter fun y => decide (y.branch ≠ b)).find? (fun y => decide (y.branch = b)) = none := by
    simp only [List.find?_eq_none, List.mem_filter]
    intro y hy
    simpa using hy.2
  unfold State.ramp State.setRamp
  dsimp only
  rw [List.find?_append, hnone]
  simp [h]

/-- A branch whose ramp was taken away has none. -/
theorem ramp_setRamp_none (s : State) (b : Branch) : (s.setRamp b none).ramp b = none := by
  unfold State.ramp State.setRamp
  dsimp only
  simp only [List.find?_eq_none, List.mem_filter]
  intro y hy
  simpa using hy.2

theorem find?_append_other {l : List Ramp} {b b' : Branch} (x : Ramp) (hx : x.branch = b) (h : b' ≠ b) :
    (l ++ [x]).find? (fun y => decide (y.branch = b')) = l.find? (fun y => decide (y.branch = b')) := by
  have hb : ¬ x.branch = b' := fun hx' => h (hx'.symm.trans hx)
  simp [List.find?_append, hb]

theorem find?_filter_other {l : List Ramp} {b b' : Branch} (h : b' ≠ b) :
    (l.filter fun y => decide (y.branch ≠ b)).find? (fun y => decide (y.branch = b')) = l.find? (fun y => decide (y.branch = b')) := by
  rw [List.find?_filter]
  refine congrArg (fun p => List.find? p l) (funext fun y => ?_)
  by_cases hy : y.branch = b'
  · simp [hy, h]
  · simp [hy]

/-- A ramp written for one branch leaves those of the others. -/
theorem ramp_setRamp_other (s : State) {b b' : Branch} {x : Option Ramp} (hx : ∀ y, x = some y → y.branch = b) (h : b' ≠ b) :
    (s.setRamp b x).ramp b' = s.ramp b' := by
  unfold State.ramp State.setRamp
  cases x with
  | none => exact find?_filter_other h
  | some y => exact (find?_append_other y (hx y rfl) h).trans (find?_filter_other h)

theorem setRamp_onlyPwr (s : State) (b : Branch) (x : Option Ramp) : onlyPwr [] s (s.setRamp b x) := onlyPwr_pwr s _

/-- A ramp that has made no step passes the edges of its old clock: none or all 16. -/
theorem rampEdges_up (new : Nat) : rampEdges 0 new 0 = 0 := by
  simp [rampEdges]

/-- The registers that show a branch's ramp. -/
def rampKey : Branch → Nat
  | .gate _ => CLK_GATE_RAMP_RAMPING.off
  | .region _ => CLK_RGN_CLOSING_CLOSING.off
  | .fclk k => CLK_FCLKk_DIV.key k 0 0
  | .noc => CLK_GATE_RAMP_RAMPING.off
  | .fixed => CLK_GATE_RAMP_RAMPING.off

theorem showRamp_onlyRegs (b : Branch) (v : Bool) (s : State) : onlyRegs [rampKey b] s (showRamp b v s) := by
  cases b with
  | gate n => exact onlyRegs_setFbit s CLK_GATE_RAMP_RAMPING n v 0 0 0
  | region r => exact onlyRegs_setFbit s CLK_RGN_CLOSING_CLOSING r v 0 0 0
  | fclk k => exact onlyRegs_setFld s CLK_FCLKk_RAMPING (bnat v) k 0 0
  | noc => exact onlyRegs_refl _ s
  | fixed => exact onlyRegs_refl _ s

theorem showRamp_pwr (b : Branch) (v : Bool) (s : State) : (showRamp b v s).pwr = s.pwr := by rw [(showRamp_onlyRegs b v s).1]
theorem showRamp_out (b : Branch) (v : Bool) (s : State) : (showRamp b v s).out = s.out := by rw [(showRamp_onlyRegs b v s).1]

theorem startRamp_onlyPwr (b : Branch) (old new : Nat) (next : Option Nat) (s : State) : onlyPwr [rampKey b] s (startRamp b old new next s) :=
  onlyPwr_trans (onlyPwr_mono (by simp) (setRamp_onlyPwr s b _)) (showRamp_onlyRegs b true _).onlyPwr

theorem startRamp_gate (n old new : Nat) (next : Option Nat) (s : State) :
    onlyPwr [CLK_GATE_RAMP_RAMPING.off] s (startRamp (.gate n) old new next s) := startRamp_onlyPwr (.gate n) old new next s

theorem startRamp_region (r old new : Nat) (next : Option Nat) (s : State) :
    onlyPwr [CLK_RGN_CLOSING_CLOSING.off] s (startRamp (.region r) old new next s) := startRamp_onlyPwr (.region r) old new next s

theorem startRamp_pwr (b : Branch) (old new : Nat) (next : Option Nat) (s : State) :
    (startRamp b old new next s).pwr = (s.setRamp b (some ⟨b, old, new, next, 0, rampEdges old new 0⟩)).pwr := showRamp_pwr b true _

theorem startRamp_out (b : Branch) (old new : Nat) (next : Option Nat) (s : State) : (startRamp b old new next s).out = s.out :=
  (startRamp_onlyPwr b old new next s).out

/-- The branch's ramp begins at step 0. -/
theorem ramp_startRamp (b : Branch) (old new : Nat) (next : Option Nat) (s : State) :
    (startRamp b old new next s).ramp b = some ⟨b, old, new, next, 0, rampEdges old new 0⟩ :=
  (ramp_congr (showRamp_pwr b true _) b).trans (ramp_setRamp_some s rfl)

theorem ramp_startRamp_up (b : Branch) (new : Nat) (s : State) : (startRamp b 0 new none s).ramp b = some ⟨b, 0, new, none, 0, 0⟩ := by
  rw [ramp_startRamp, rampEdges_up]

theorem ramp_startRamp_other (b : Branch) {b' : Branch} (h : b' ≠ b) (old new : Nat) (next : Option Nat) (s : State) :
    (startRamp b old new next s).ramp b' = s.ramp b' :=
  (ramp_congr (showRamp_pwr b true _) b').trans (ramp_setRamp_other s (fun _ hy => (Option.some.inj hy) ▸ rfl) h)

/-- A gate's ramp is shown. -/
theorem startRamp_shows {n : Nat} (hn : n < 64) (old new : Nat) (next : Option Nat) (s : State) :
    (startRamp (.gate n) old new next s).fbit CLK_GATE_RAMP_RAMPING n = true :=
  (fbit_setFbit_wide (s.setRamp (.gate n) _) n n true hn).trans (if_pos rfl)

/-! ### Gates -/

theorem setGateBit_onlyRegs (s : State) (n : Nat) (v : Bool) : onlyRegs [CLK_GATE_FIXED.off] s (s.setGateBit n v) :=
  ⟨rfl, regsKeep_setReg s _ _⟩

theorem gateBit_setGateBit (s : State) {n : Nat} (hn : n < 64) (v : Bool) (i : Nat) :
    (s.setGateBit n v).gateBit i = if i = n then v else s.gateBit i := by
  unfold State.gateBit State.setGateBit
  rw [reg_setReg_same, bit_setBits_one _ hn]

/-- A gate that is written with its own bit changes nothing that is read. -/
theorem setGateBit_own (s : State) {n : Nat} (hn : n < 64) : onlyRegs [] s (s.setGateBit n (s.gateBit n)) := by
  refine ⟨rfl, fun k _ => ?_⟩
  by_cases hk : k = CLK_GATE_FIXED.off
  · rw [hk, State.setGateBit, reg_setReg_same, State.gateBit, setBits_bit_own _ hn]
  · exact reg_setReg_other s _ hk

theorem gateBit_congr (h : t.reg CLK_GATE_FIXED.off = s.reg CLK_GATE_FIXED.off) (n : Nat) : t.gateBit n = s.gateBit n := by
  unfold State.gateBit
  rw [h]

theorem gateClosing_congr (h : t.reg CLK_GATE_CLOSING_CLOSING.off = s.reg CLK_GATE_CLOSING_CLOSING.off) (n : Nat) : t.gateClosing n = s.gateClosing n := by
  unfold State.gateClosing
  rw [h]

theorem gateHeld_congr (h : t.pwr = s.pwr) (n : Nat) : t.gateHeld n = s.gateHeld n := by
  unfold State.gateHeld
  rw [h]

theorem gateClosing_setFbit (s : State) {n : Nat} (hn : n < 64) (v : Bool) : (s.setFbit CLK_GATE_CLOSING_CLOSING n v).gateClosing n = v :=
  (fbit_eq_bit (F := CLK_GATE_CLOSING_CLOSING) _ rfl rfl n).symm.trans ((fbit_setFbit_wide (F := CLK_GATE_CLOSING_CLOSING) s n n v hn).trans (if_pos rfl))

/-- A gate whose bit is 0, and one that ramps, is not open. -/
theorem gateOpen_of_bit (h : t.gateBit n = false) : t.gateOpen n = false := by
  have hbit : bit (t.reg CLK_GATE_FIXED.off) n = false := h
  simp [State.gateOpen, hbit]

theorem gateOpen_of_ramping (h : t.fbit CLK_GATE_RAMP_RAMPING n = true) : t.gateOpen n = false := by
  have hbit : bit (t.reg CLK_GATE_RAMP_RAMPING.off) n = true := (fbit_eq_bit (F := CLK_GATE_RAMP_RAMPING) t rfl rfl n).symm.trans h
  simp [State.gateOpen, hbit]

theorem ownGates_lt (h : n ∈ ownGates) : n < 64 := by
  have hall : ∀ k ∈ ownGates, k < 64 := by decide
  exact hall n h

/-- A write of a gate's own bit changes nothing that is read. -/
theorem writeGate_own {n : Nat} (hn : n < 64) (h : v = s.gateBit n) : onlyRegs [] s (writeGate n v s) := by
  have heq : writeGate n v s = s.setGateBit n (s.gateBit n) := by
    rw [h]
    exact if_pos (.inl rfl)
  rw [heq]
  exact setGateBit_own s hn

/-- Gates written with their own bits stay. -/
theorem writeGates_own (l : List Nat) (hl : ∀ k ∈ l, k < 64) (h : ∀ k ∈ l, bit data k = s.gateBit k) :
    onlyRegs [] s (l.foldl (fun s n => writeGate n (bit data n) s) s) := by
  induction l generalizing s with
  | nil => exact onlyRegs_refl _ s
  | cons k l ih =>
    have hfirst : onlyRegs [] s (writeGate k (bit data k) s) := writeGate_own (hl k (.head _)) (h k (.head _))
    refine onlyRegs_trans hfirst (ih (fun j hj => hl j (.tail _ hj)) fun j hj => ?_)
    rw [gateBit_congr (hfirst.2 _ (by simp)), h j (.tail _ hj)]

/-- A gate whose bit changes and that is free to follow it. -/
theorem writeGate_follows (hv : v ≠ s.gateBit n) (hheld : s.gateHeld n = false) (hclosing : s.gateClosing n = false)
    (hramp : s.ramp (.gate n) = none) :
    writeGate n v s = if v then startRamp (.gate n) 0 1 none (s.setGateBit n v) else closeGate n (s.setGateBit n v) := by
  have hclosing' : (s.setGateBit n v).gateClosing n = false := (gateClosing_congr (reg_setReg_other s _ (by decide)) n).trans hclosing
  refine if_neg ?_
  rw [hclosing', show (s.setGateBit n v).gateHeld n = false from hheld, show (s.setGateBit n v).ramp (.gate n) = none from hramp]
  simpa using hv

theorem closeGate_block (hblock : n < 10 ∨ 14 ≤ n) (s : State) : closeGate n s = s.setFbit CLK_GATE_CLOSING_CLOSING n true := by
  unfold closeGate
  rw [if_neg (by omega)]

/-- The write of a gate's bit leaves the bits of the other gates. -/
theorem gateBit_writeGate (hblock : n < 10 ∨ 14 ≤ n) (hn : n < 64) (v : Bool) (s : State) {k : Nat} (hk : k ≠ n) : (writeGate n v s).gateBit k = s.gateBit k := by
  have hset : (s.setGateBit n v).gateBit k = s.gateBit k := (gateBit_setGateBit s hn v k).trans (if_neg hk)
  unfold writeGate
  dsimp only
  split
  · exact hset
  · split
    · exact (gateBit_congr ((startRamp_gate n _ _ _ _).reg (by decide)) k).trans hset
    · rw [closeGate_block hblock]
      exact (gateBit_congr (reg_setReg_other _ _ (by decide)) k).trans hset

/-- One gate of those written changes its bit: before it and after it nothing that is read changes. -/
theorem gateEffect_one (hn : n ∈ ownGates) (hblock : n < 10 ∨ 14 ≤ n) (hrest : ∀ k ∈ ownGates, k ≠ n → bit data k = s.gateBit k) :
    ∃ x, onlyRegs [] s x ∧ onlyRegs [] (writeGate n (bit data n) x) (gateEffect false .full data s) := by
  have hall : ownGates.filter Half.full.reaches = ownGates := by decide
  have hnodup : ownGates.Nodup := by decide
  obtain ⟨l, l', hsplit⟩ := List.append_of_mem hn
  have hlt : ∀ k ∈ ownGates, k < 64 := fun k hk => ownGates_lt hk
  have hn64 : n < 64 := hlt n hn
  rw [hsplit] at hlt hrest hnodup
  have hdisjoint := List.nodup_append.mp hnodup
  have hbefore : ∀ k ∈ l, k ≠ n := fun k hk => hdisjoint.2.2 k hk n (.head _)
  have hafter : ∀ k ∈ l', k ≠ n := fun k hk hkn => (List.nodup_cons.mp hdisjoint.2.1).1 (hkn ▸ hk)
  have hfirst : onlyRegs [] s (l.foldl (fun s n => writeGate n (bit data n) s) s) :=
    writeGates_own l (fun k hk => hlt k (by simp [hk])) fun k hk => hrest k (by simp [hk]) (hbefore k hk)
  refine ⟨_, hfirst, ?_⟩
  have heq : gateEffect false .full data s =
      l'.foldl (fun s n => writeGate n (bit data n) s) (writeGate n (bit data n) (l.foldl (fun s n => writeGate n (bit data n) s) s)) := by
    unfold gateEffect
    rw [if_neg (by decide), hall, hsplit, List.foldl_append, List.foldl_cons]
  rw [heq]
  refine writeGates_own l' (fun k hk => hlt k (by simp [hk])) fun k hk => ?_
  rw [gateBit_writeGate hblock hn64 _ _ (hafter k hk), gateBit_congr (hfirst.2 _ (by simp)) k]
  exact hrest k (by simp [hk]) (hafter k hk)

/-! ### Gates of regions (R636) -/

theorem regionBit_setFbit (s : State) {r : Nat} (hr : r < 64) (v : Bool) (k : Nat) :
    (s.setFbit CLK_RGN_GATE_GATE r v).fbit CLK_RGN_GATE_GATE k = if k = r then v else s.fbit CLK_RGN_GATE_GATE k :=
  fbit_setFbit_wide s r k v hr

/-- A region's gate that is written with its own bit changes nothing that is read. -/
theorem writeRgnGate_own {r : Nat} (hr : r < 64) (h : v = s.fbit CLK_RGN_GATE_GATE r) : onlyRegs [] s (writeRgnGate r v s) := by
  have heq : writeRgnGate r v s = s.setFbit CLK_RGN_GATE_GATE r (s.fbit CLK_RGN_GATE_GATE r) := by
    rw [h]
    exact if_pos (.inl rfl)
  rw [heq]
  refine ⟨rfl, fun k _ => ?_⟩
  by_cases hk : k = CLK_RGN_GATE_GATE.key 0 0 0
  · rw [hk, State.setFbit, reg_setReg_same, fbit_eq_bit (F := CLK_RGN_GATE_GATE) s rfl rfl r]
    exact (congrArg (fun lo => setBits _ lo 1 _) (Nat.zero_add r)).trans (setBits_bit_own _ hr)
  · exact reg_setReg_other s _ hk

theorem writeRgnGates_own (l : List Nat) (hl : ∀ k ∈ l, k < 64) (h : ∀ k ∈ l, bit data k = s.fbit CLK_RGN_GATE_GATE k) :
    onlyRegs [] s (l.foldl (fun s r => writeRgnGate r (bit data r) s) s) := by
  induction l generalizing s with
  | nil => exact onlyRegs_refl _ s
  | cons k l ih =>
    have hfirst : onlyRegs [] s (writeRgnGate k (bit data k) s) := writeRgnGate_own (hl k (.head _)) (h k (.head _))
    refine onlyRegs_trans hfirst (ih (fun j hj => hl j (.tail _ hj)) fun j hj => ?_)
    rw [hfirst.fbit_elsewhere CLK_RGN_GATE_GATE (by simp), h j (.tail _ hj)]

/-- The bit of a region's gate after a write of one, and the gates of the others. -/
theorem regionBit_writeRgnGate {r : Nat} (hr : r < 64) (v : Bool) (s : State) (k : Nat) :
    (writeRgnGate r v s).fbit CLK_RGN_GATE_GATE k = if k = r then v else s.fbit CLK_RGN_GATE_GATE k := by
  have hset := regionBit_setFbit s hr v k
  unfold writeRgnGate
  dsimp only
  split
  · exact hset
  · refine (fbit_congr CLK_RGN_GATE_GATE k (followRegion_reg_low r _ (by decide))).trans ?_
    split
    · exact (fbit_congr CLK_RGN_GATE_GATE k ((startRamp_region r _ _ _ _).reg (by decide))).trans hset
    · exact (fbit_setFbit_apart _ CLK_RGN_CLOSING_CLOSING CLK_RGN_GATE_GATE r k true).trans hset

/-- One region's gate of those written changes its bit: before it and after it nothing that is read changes. -/
theorem rgnGateEffect_one {r : Nat} (hr : r < 64) (hrest : ∀ k, k < 64 → k ≠ r → bit data k = s.fbit CLK_RGN_GATE_GATE k) :
    ∃ x, onlyRegs [] s x ∧ onlyRegs [] (writeRgnGate r (bit data r) x) (gateEffect true .full data s) := by
  have hall : (List.range 64).filter Half.full.reaches = List.range 64 := by decide
  obtain ⟨l, l', hsplit⟩ := List.append_of_mem (List.mem_range.mpr hr)
  have hlt : ∀ k ∈ List.range 64, k < 64 := fun k hk => List.mem_range.mp hk
  have hnodup : (List.range 64).Nodup := List.nodup_range
  rw [hsplit] at hlt hnodup
  have hdisjoint := List.nodup_append.mp hnodup
  have hbefore : ∀ k ∈ l, k ≠ r := fun k hk => hdisjoint.2.2 k hk r (.head _)
  have hafter : ∀ k ∈ l', k ≠ r := fun k hk hkr => (List.nodup_cons.mp hdisjoint.2.1).1 (hkr ▸ hk)
  have hfirst : onlyRegs [] s (l.foldl (fun s r => writeRgnGate r (bit data r) s) s) :=
    writeRgnGates_own l (fun k hk => hlt k (by simp [hk])) fun k hk => hrest k (hlt k (by simp [hk])) (hbefore k hk)
  refine ⟨_, hfirst, ?_⟩
  have heq : gateEffect true .full data s =
      l'.foldl (fun s r => writeRgnGate r (bit data r) s) (writeRgnGate r (bit data r) (l.foldl (fun s r => writeRgnGate r (bit data r) s) s)) := by
    unfold gateEffect
    rw [if_pos rfl, hall, hsplit, List.foldl_append, List.foldl_cons]
  rw [heq]
  refine writeRgnGates_own l' (fun k hk => hlt k (by simp [hk])) fun k hk => ?_
  rw [regionBit_writeRgnGate hr, if_neg (hafter k hk), hfirst.fbit_elsewhere CLK_RGN_GATE_GATE (by simp)]
  exact hrest k (hlt k (by simp [hk])) (hafter k hk)

end Sys2Proof.Machine
end

section
-- One proof at a time: the memory limit of the check counts a stack for every proof that waits for another.
set_option Elab.async false
/-! O57, first part. Clock gates and ramps: a gate closes through CLOSING and a ramp down and opens through a ramp up (R631 to
R638). -/

namespace Sys2Proof.Machine

variable {s t x : State} {m : Ident} {n r : Nat} {b : Branch} {data : Word}

/-! ### CLK_GATE (R636 to R638) -/

/-- The conditions under which the gate `n` alone is written and may follow. -/
structure GateWrite (m : Ident) (n : Nat) (data : Word) (s : State) : Prop where
  admits : s.admits m .CLK_GATE []
  own : n ∈ ownGates
  block : n < 10 ∨ 14 ≤ n
  rest : ∀ k ∈ ownGates, k ≠ n → bit data k = s.gateBit k
  held : s.gateHeld n = false
  closing : s.gateClosing n = false
  ramp : s.ramp (.gate n) = none

/-- The gate follows its bit from a state that differs in the lease alone. -/
theorem GateWrite.follows (h : GateWrite m n data s) (hx : onlyRegs [leaseKey] s x) (hv : bit data n ≠ s.gateBit n) :
    writeGate n (bit data n) x = if bit data n then startRamp (.gate n) 0 1 none (x.setGateBit n (bit data n))
      else (x.setGateBit n (bit data n)).setFbit CLK_GATE_CLOSING_CLOSING n true := by
  have hpwr : x.pwr = s.pwr := onlyRegs_pwr hx
  rw [writeGate_follows (by rw [gateBit_congr (hx.2 _ (by decide))]; exact hv) (by rw [gateHeld_congr hpwr]; exact h.held)
    (by rw [gateClosing_congr (hx.2 _ (by decide))]; exact h.closing) (by rw [ramp_congr hpwr]; exact h.ramp), closeGate_block h.block]

/-- The write of CLK_GATE is the write of the one gate. -/
theorem GateWrite.effect (h : GateWrite m n data s) :
    ∃ x, onlyRegs [leaseKey] s x ∧ onlyRegs [] (writeGate n (bit data n) x) (regWrite .CLK_GATE [] m .full (gateEffect false .full data) s) := by
  have hlease := onlyRegs_renewLease m s
  rw [regWrite_admits h.admits]
  obtain ⟨x, hx, ht⟩ := gateEffect_one h.own h.block (s := renewLease m s) fun k hk hkn =>
    (h.rest k hk hkn).trans (gateBit_congr (hlease.2 _ (by decide)) k).symm
  exact ⟨x, onlyRegs_trans hlease (onlyRegs_mono (by simp) hx), ht⟩

theorem gateWrite_exec {c : Instr} (hc : c ∈ [Instr.gateClose m false .full data, .gateOpen m false .full data]) (s : State) :
    exec c s = .next (regWrite .CLK_GATE [] m .full (gateEffect false .full data) s) := by
  simp only [List.mem_cons, List.not_mem_nil, or_false] at hc
  obtain rfl | rfl := hc <;> rfl

theorem gateWrite_closes (h : GateWrite m n data s) (hon : s.gateBit n = true) (hoff : bit data n = false)
    (ht : t = regWrite .CLK_GATE [] m .full (gateEffect false .full data) s) :
    t.gateBit n = false ∧ t.gateClosing n = true ∧ t.gateOpen n = false ∧
      onlyRegs [leaseKey, CLK_GATE_FIXED.off, CLK_GATE_CLOSING_CLOSING.off] s t := by
  have hn := ownGates_lt h.own
  obtain ⟨x, hx, hlast⟩ := h.effect
  rw [← ht, h.follows hx (by simp [hon, hoff]), hoff] at hlast
  have hbit : t.gateBit n = false := by
    rw [gateBit_congr (hlast.2 _ (by simp))]
    exact (gateBit_congr (reg_setReg_other _ _ (by decide)) n).trans ((gateBit_setGateBit x hn false n).trans (if_pos rfl))
  refine ⟨hbit, ?_, gateOpen_of_bit hbit, onlyRegs_trans (onlyRegs_mono (by simp) hx) (onlyRegs_trans ?_ (onlyRegs_mono (by simp) hlast))⟩
  · rw [gateClosing_congr (hlast.2 _ (by simp))]
    exact gateClosing_setFbit _ hn true
  · exact onlyRegs_trans (onlyRegs_mono (by simp) (setGateBit_onlyRegs x n false))
      (onlyRegs_mono (by simp [Field.key, CLK_GATE_CLOSING_CLOSING]) (onlyRegs_setFbit _ CLK_GATE_CLOSING_CLOSING n true 0 0 0))

theorem gateWrite_opens (h : GateWrite m n data s) (hoff : s.gateBit n = false) (hon : bit data n = true)
    (ht : t = regWrite .CLK_GATE [] m .full (gateEffect false .full data) s) :
    t.gateBit n = true ∧ t.ramp (.gate n) = some ⟨.gate n, 0, 1, none, 0, 0⟩ ∧
      t.fbit CLK_GATE_RAMP_RAMPING n = true ∧ t.gateOpen n = false ∧
      onlyRegs [leaseKey, CLK_GATE_FIXED.off, CLK_GATE_RAMP_RAMPING.off] { s with pwr := t.pwr } t := by
  have hn := ownGates_lt h.own
  obtain ⟨x, hx, hlast⟩ := h.effect
  rw [← ht, h.follows hx (by simp [hon, hoff]), hon] at hlast
  have hstart := startRamp_gate n 0 1 none (x.setGateBit n true)
  have hshown : t.fbit CLK_GATE_RAMP_RAMPING n = true := by
    rw [hlast.fbit_elsewhere CLK_GATE_RAMP_RAMPING (by simp)]
    exact startRamp_shows hn 0 1 none _
  refine ⟨?_, ?_, hshown, gateOpen_of_ramping hshown, ?_⟩
  · rw [gateBit_congr (hlast.2 _ (by simp))]
    exact (gateBit_congr (hstart.reg (by decide)) n).trans ((gateBit_setGateBit x hn true n).trans (if_pos rfl))
  · exact (ramp_congr (onlyRegs_pwr hlast) _).trans (ramp_startRamp_up (.gate n) 1 _)
  · exact onlyPwr_trans (onlyPwr_mono (by simp) hx.onlyPwr) (onlyPwr_trans (onlyPwr_mono (by simp) (setGateBit_onlyRegs x n true).onlyPwr)
      (onlyPwr_trans (onlyPwr_mono (by simp) hstart) (onlyPwr_mono (by simp) hlast.onlyPwr)))

/-! ### CLK_RGN_GATE (R636) -/

/-- The conditions under which the gate of the region `r` alone is written and may follow. -/
structure RegionWrite (m : Ident) (r : Nat) (data : Word) (s : State) : Prop where
  admits : s.admits m .CLK_RGN_GATE []
  region : r < 64
  forced : s.pwr.rgnForced = false
  rest : ∀ k, k < 64 → k ≠ r → bit data k = s.fbit CLK_RGN_GATE_GATE k
  closing : s.fbit CLK_RGN_CLOSING_CLOSING r = false

theorem RegionWrite.effect (h : RegionWrite m r data s) :
    ∃ x, onlyRegs [leaseKey] s x ∧ onlyRegs [] (writeRgnGate r (bit data r) x) (regWrite .CLK_RGN_GATE [] m .full (gateEffect true .full data) s) := by
  have hlease := onlyRegs_renewLease m s
  rw [regWrite_admits h.admits]
  obtain ⟨x, hx, ht⟩ := rgnGateEffect_one h.region (s := renewLease m s) fun k hk hkr =>
    (h.rest k hk hkr).trans (hlease.fbit_elsewhere CLK_RGN_GATE_GATE (by decide) k).symm
  exact ⟨x, onlyRegs_trans hlease (onlyRegs_mono (by simp) hx), ht⟩

theorem RegionWrite.follows (h : RegionWrite m r data s) (hx : onlyRegs [leaseKey] s x) (hv : bit data r ≠ s.fbit CLK_RGN_GATE_GATE r) :
    writeRgnGate r (bit data r) x = followRegion r (if bit data r then startRamp (.region r) 0 1 none (x.setFbit CLK_RGN_GATE_GATE r (bit data r))
      else (x.setFbit CLK_RGN_GATE_GATE r (bit data r)).setFbit CLK_RGN_CLOSING_CLOSING r true) := by
  refine if_neg ?_
  rw [fbit_setFbit_apart x CLK_RGN_GATE_GATE CLK_RGN_CLOSING_CLOSING, hx.fbit_elsewhere CLK_RGN_CLOSING_CLOSING (by decide),
    hx.fbit_elsewhere CLK_RGN_GATE_GATE (by decide), h.closing, setFbit_pwr, onlyRegs_pwr hx, h.forced]
  simpa using hv

theorem rgnGateWrite_exec {c : Instr} (hc : c ∈ [Instr.gateClose m true .full data, .gateOpen m true .full data]) (s : State) :
    exec c s = .next (regWrite .CLK_RGN_GATE [] m .full (gateEffect true .full data) s) := by
  simp only [List.mem_cons, List.not_mem_nil, or_false] at hc
  obtain rfl | rfl := hc <;> rfl

theorem RegionWrite.bit (h : RegionWrite m r data s) :
    (regWrite .CLK_RGN_GATE [] m .full (gateEffect true .full data) s).fbit CLK_RGN_GATE_GATE r = Machine.bit data r := by
  obtain ⟨x, hx, hlast⟩ := h.effect
  rw [hlast.fbit_elsewhere CLK_RGN_GATE_GATE (by simp), regionBit_writeRgnGate h.region, if_pos rfl]

theorem rgnGateWrite_closes (h : RegionWrite m r data s) (hon : s.fbit CLK_RGN_GATE_GATE r = true) (hoff : bit data r = false)
    (ht : t = regWrite .CLK_RGN_GATE [] m .full (gateEffect true .full data) s) :
    t.fbit CLK_RGN_GATE_GATE r = false ∧ t.fbit CLK_RGN_CLOSING_CLOSING r = true := by
  refine ⟨by rw [ht, h.bit, hoff], ?_⟩
  obtain ⟨x, hx, hlast⟩ := h.effect
  rw [← ht, h.follows hx (by simp [hon, hoff]), hoff] at hlast
  rw [hlast.fbit_elsewhere CLK_RGN_CLOSING_CLOSING (by simp), fbit_congr CLK_RGN_CLOSING_CLOSING r (followRegion_reg_low r _ (by decide))]
  exact (fbit_setFbit_wide (F := CLK_RGN_CLOSING_CLOSING) _ r r true h.region).trans (if_pos rfl)

theorem rgnGateWrite_opens (h : RegionWrite m r data s) (hoff : s.fbit CLK_RGN_GATE_GATE r = false) (hon : bit data r = true)
    (ht : t = regWrite .CLK_RGN_GATE [] m .full (gateEffect true .full data) s) :
    t.fbit CLK_RGN_GATE_GATE r = true ∧ t.ramp (.region r) = some ⟨.region r, 0, 1, none, 0, 0⟩ := by
  refine ⟨by rw [ht, h.bit, hon], ?_⟩
  obtain ⟨x, hx, hlast⟩ := h.effect
  rw [← ht, h.follows hx (by simp [hon, hoff]), hon, if_pos rfl] at hlast
  have hpwr : t.pwr = (startRamp (.region r) 0 1 none (x.setFbit CLK_RGN_GATE_GATE r true)).pwr :=
    (onlyRegs_pwr hlast).trans (groupsOnly_followRegion r _).pwr
  exact (ramp_congr hpwr _).trans (ramp_startRamp_up (.region r) 1 _)

/-! ### GATE_DRAINED (R637) -/

theorem gateDrained_ramps {n : Fin 64} (hclosing : s.gateClosing n = true) (hdrained : gateDrained n s = true) (hstopped : s.pwr.stopped = false) :
    ∃ t, exec (.gateDrained (.gate n)) s = .next t ∧ t.gateClosing n = false ∧ t.ramp (.gate n) = some ⟨.gate n, 1, 0, none, 0, 16⟩ ∧
      onlyRegs [CLK_GATE_CLOSING_CLOSING.off, CLK_GATE_RAMP_RAMPING.off] { s with pwr := t.pwr } t := by
  have hexec : exec (.gateDrained (.gate n)) s = .next (startRamp (.gate n) 1 0 none (s.setFbit CLK_GATE_CLOSING_CLOSING n false)) :=
    if_pos ⟨hclosing, hdrained, by simp [hstopped]⟩
  have hstart := startRamp_gate n 1 0 none (s.setFbit CLK_GATE_CLOSING_CLOSING n false)
  refine ⟨_, hexec, ?_, ramp_startRamp (.gate n) 1 0 none _, ?_⟩
  · exact (gateClosing_congr (hstart.reg (by decide)) n).trans (gateClosing_setFbit s n.isLt false)
  · exact onlyPwr_trans (onlyPwr_mono (by simp [Field.key, CLK_GATE_CLOSING_CLOSING]) (onlyRegs_setFbit s CLK_GATE_CLOSING_CLOSING n false 0 0 0).onlyPwr)
      (onlyPwr_mono (by simp) hstart)

theorem gateDrained_waits {n : Fin 64} (h : s.gateClosing n = false ∨ gateDrained n s = false ∨ s.pwr.stopped = true) :
    exec (.gateDrained (.gate n)) s = .next s := by
  refine if_neg fun ⟨hclosing, hdrained, hstopped⟩ => ?_
  obtain h | h | h := h <;> simp_all

/-! ### RAMP_STEP and RAMP_END (R631 to R633) -/

/-- A stopped domain's ramp waits, that of the fixed domains excepted. -/
theorem ramp_held {r : Ramp} (hramp : s.ramp b = some r) (hstopped : s.pwr.stopped = true) (hb : b ≠ .fixed) :
    exec (.rampStep b) s = .next s ∧ exec (.rampEnd b) s = .next s := by
  have hheld : rampHeld b s = true := by simp [rampHeld, hstopped, hb]
  constructor
  · rw [exec_rampStep, execRampStep, hramp]
    exact if_pos (.inr hheld)
  · rw [exec_rampEnd, execRampEnd, hramp]
    exact if_pos (.inr hheld)

theorem rampHeld_running (b : Branch) (h : s.pwr.stopped = false) : rampHeld b s = false := by simp [rampHeld, h]

/-- The ramp's next step: the state with the step counted. -/
def steppedRamp (b : Branch) (r : Ramp) (s : State) : State :=
  s.setRamp b (some { r with step := r.step + 1, edges := rampEdges r.old r.new (r.step + 1) })

/-- The divisor of a fabric clock follows its ramp. -/
def stepDivisor (r : Ramp) (s : State) : Branch → State
  | .fclk f => s.setFld CLK_FCLKk_CUR_DIV (rampDiv r.old r.new (r.step + 1)) f
  | _ => s

theorem rampStep_steps {r : Ramp} (hramp : s.ramp b = some r) (hstopped : s.pwr.stopped = false) (hstep : r.step < 16) :
    exec (.rampStep b) s = .next (stepDivisor r (steppedRamp b r s) b) := by
  rw [exec_rampStep, execRampStep, hramp]
  refine (if_neg ?_).trans ?_
  · rw [rampHeld_running b hstopped]
    simp
    omega
  · cases b <;> rfl

theorem stepDivisor_pwr (r : Ramp) (s : State) (b : Branch) : (stepDivisor r s b).pwr = s.pwr := by cases b <;> rfl
theorem stepDivisor_out (r : Ramp) (s : State) (b : Branch) : (stepDivisor r s b).out = s.out := by cases b <;> rfl
theorem stepDivisor_regs (r : Ramp) (s : State) (h : ∀ k, b ≠ .fclk k) : (stepDivisor r s b).regs = s.regs := by
  cases b with
  | fclk k => exact absurd rfl (h k)
  | gate n => rfl
  | region g => rfl
  | noc => rfl
  | fixed => rfl

theorem ramp_stepDivisor {r : Ramp} (hbranch : r.branch = b) :
    (stepDivisor r (steppedRamp b r s) b).ramp b = some { r with step := r.step + 1, edges := rampEdges r.old r.new (r.step + 1) } :=
  (ramp_congr (stepDivisor_pwr r _ b) b).trans (ramp_setRamp_some s hbranch)

theorem rampStep_done {r : Ramp} (hramp : s.ramp b = some r) (hstep : r.step = 16) : exec (.rampStep b) s = .next s := by
  rw [exec_rampStep, execRampStep, hramp]
  exact if_pos (.inl (by omega))

theorem rampEnd_early {r : Ramp} (hramp : s.ramp b = some r) (hstep : r.step < 16) : exec (.rampEnd b) s = .next s := by
  rw [exec_rampEnd, execRampEnd, hramp]
  exact if_pos (.inl hstep)

/-- The state in which the ramp of a branch has gone. -/
def endedRamp (b : Branch) (s : State) : State := showRamp b false (s.setRamp b none)

theorem ramp_endedRamp (b : Branch) (s : State) : (endedRamp b s).ramp b = none :=
  (ramp_congr (showRamp_pwr b false _) b).trans (ramp_setRamp_none s b)

theorem endedRamp_onlyPwr (b : Branch) (s : State) : onlyPwr [rampKey b] s (endedRamp b s) :=
  onlyPwr_trans (onlyPwr_mono (by simp) (setRamp_onlyPwr s b none)) (showRamp_onlyRegs b false _).onlyPwr

theorem endedRamp_pwr (b : Branch) (s : State) : (endedRamp b s).pwr = (s.setRamp b none).pwr := showRamp_pwr b false _

/-- What follows the end of a ramp of each branch. -/
def afterRamp (r : Ramp) (s : State) : Branch → State
  | .gate n => gateRampEnd n (decide (r.new ≠ 0)) s
  | .region g => rgnRampEnd g (decide (r.new ≠ 0)) s
  | .fclk k => { s.setFld CLK_FCLKk_CUR_DIV r.new k with logic := { s.logic with settling := s.logic.settling ++ [k] } }
  | .noc => nocRampEnd r.new s
  | .fixed => if s.pwr.stopped then resumeDomains s else s

theorem rampEnd_ends {r : Ramp} (hramp : s.ramp b = some r) (hheld : rampHeld b s = false) (hstep : r.step = 16) (hnext : r.next = none) :
    exec (.rampEnd b) s = .next (afterRamp r (endedRamp b s) b) := by
  rw [exec_rampEnd, execRampEnd, hramp]
  refine (if_neg ?_).trans ?_
  · simp [hheld, hstep]
  · rw [hnext]
    cases b <;> rfl

theorem rampEnd_goesOn {r : Ramp} {d : Nat} (hramp : s.ramp b = some r) (hheld : rampHeld b s = false) (hstep : r.step = 16) (hnext : r.next = some d) :
    exec (.rampEnd b) s = .next (startRamp b 0 d none (endedRamp b s)) := by
  rw [exec_rampEnd, execRampEnd, hramp]
  refine (if_neg ?_).trans ?_
  · simp [hheld, hstep]
  · rw [hnext]
    rfl

/-! ### The end of a gate's ramp -/

theorem endedRamp_gate (n : Nat) (s : State) : onlyPwr [CLK_GATE_RAMP_RAMPING.off] s (endedRamp (.gate n) s) := endedRamp_onlyPwr (.gate n) s

theorem endedRamp_hides {n : Nat} (hn : n < 64) (s : State) : (endedRamp (.gate n) s).fbit CLK_GATE_RAMP_RAMPING n = false :=
  (fbit_setFbit_wide (F := CLK_GATE_RAMP_RAMPING) (s.setRamp (.gate n) none) n n false hn).trans (if_pos rfl)

theorem endedRamp_gateBit (n : Nat) (s : State) : (endedRamp (.gate n) s).gateBit n = s.gateBit n :=
  gateBit_congr ((endedRamp_gate n s).reg (by decide)) n

theorem endedRamp_gateHeld (b : Branch) (n : Nat) (s : State) : (endedRamp b s).gateHeld n = s.gateHeld n := by
  unfold State.gateHeld
  rw [endedRamp_pwr]
  rfl

/-- A gate whose ramp has ended where its bit and the power state want it keeps nothing but the end. -/
theorem gateRampEnd_stays {up : Bool} (h5 : n ≠ 5) (hup : up = true → s.gateBit n = true ∧ s.gateHeld n = false) (hdown : up = false → s.gateBit n = false) :
    gateRampEnd n up s = s := by
  unfold gateRampEnd
  cases up with
  | true =>
    obtain ⟨hbit, hheld⟩ := hup rfl
    simp [hbit, hheld, h5]
  | false => simp [hdown rfl]

theorem gateRampEnd_reopens (hbit : s.gateBit n = true) (hheld : s.gateHeld n = false) : gateRampEnd n false s = startRamp (.gate n) 0 1 none s := by
  simp [gateRampEnd, hbit, hheld]

theorem rampEnd_gate_rests {r : Ramp} (hramp : s.ramp (.gate n) = some r) (hstopped : s.pwr.stopped = false) (hn : n < 64) (h5 : n ≠ 5)
    (hstep : r.step = 16) (hnext : r.next = none) (hwanted : r.new = 1 ∧ s.gateBit n = true ∧ s.gateHeld n = false ∨ r.new = 0 ∧ s.gateBit n = false) :
    ∃ t, exec (.rampEnd (.gate n)) s = .next t ∧ t.ramp (.gate n) = none ∧ t.fbit CLK_GATE_RAMP_RAMPING n = false ∧
      onlyRegs [CLK_GATE_RAMP_RAMPING.off] { s with pwr := t.pwr } t := by
  have hexec : exec (.rampEnd (.gate n)) s = .next (endedRamp (.gate n) s) := by
    rw [rampEnd_ends hramp (rampHeld_running _ hstopped) hstep hnext]
    refine congrArg _ (gateRampEnd_stays h5 (fun hup => ?_) fun hdown => ?_)
    · rw [endedRamp_gateBit, endedRamp_gateHeld]
      obtain ⟨_, hbit, hheld⟩ | ⟨hnew, _⟩ := hwanted
      · exact ⟨hbit, hheld⟩
      · simp [hnew] at hup
    · rw [endedRamp_gateBit]
      obtain ⟨hnew, _⟩ | ⟨_, hbit⟩ := hwanted
      · simp [hnew] at hdown
      · exact hbit
  exact ⟨_, hexec, ramp_endedRamp _ s, endedRamp_hides hn s, endedRamp_gate n s⟩

theorem rampEnd_gate_reopens {r : Ramp} (hramp : s.ramp (.gate n) = some r) (hstopped : s.pwr.stopped = false) (hn : n < 64)
    (hstep : r.step = 16) (hnext : r.next = none) (hnew : r.new = 0) (hbit : s.gateBit n = true) (hheld : s.gateHeld n = false) :
    ∃ t, exec (.rampEnd (.gate n)) s = .next t ∧ t.ramp (.gate n) = some ⟨.gate n, 0, 1, none, 0, 0⟩ ∧ t.fbit CLK_GATE_RAMP_RAMPING n = true := by
  have hexec : exec (.rampEnd (.gate n)) s = .next (startRamp (.gate n) 0 1 none (endedRamp (.gate n) s)) := by
    rw [rampEnd_ends hramp (rampHeld_running _ hstopped) hstep hnext, afterRamp, hnew]
    refine congrArg _ (gateRampEnd_reopens ?_ ?_)
    · rw [endedRamp_gateBit, hbit]
    · rw [endedRamp_gateHeld, hheld]
  exact ⟨_, hexec, ramp_startRamp_up (.gate n) 1 _, startRamp_shows hn 0 1 none _⟩

/-! ### The end of a divider's ramp, the NoC's and that of the fixed domains -/

theorem rampEnd_fclk {r : Ramp} {k : Nat} (hramp : s.ramp (.fclk k) = some r) (hstopped : s.pwr.stopped = false) (hstep : r.step = 16) (hnext : r.next = none) :
    ∃ t, exec (.rampEnd (.fclk k)) s = .next t ∧ t.ramp (.fclk k) = none ∧ t.fld CLK_FCLKk_CUR_DIV k = r.new % 2 ^ CLK_FCLKk_CUR_DIV.w :=
  ⟨_, rampEnd_ends hramp (rampHeld_running _ hstopped) hstep hnext, ramp_endedRamp _ s,
    fld_setFld_same (endedRamp (.fclk k) s) CLK_FCLKk_CUR_DIV r.new k 0 0 (by unfold Field.good; decide)⟩

theorem commandVoltage_nocDiv (mv : Nat) (raised : Bool) (s : State) : (commandVoltage mv raised s).pwr.nocDiv = s.pwr.nocDiv := rfl
theorem commandVoltage_ramp (mv : Nat) (raised : Bool) (s : State) (b : Branch) : (commandVoltage mv raised s).ramp b = s.ramp b := rfl

theorem nocRampEnd_nocDiv (new : Nat) (s : State) : (nocRampEnd new s).pwr.nocDiv = new := by
  unfold nocRampEnd
  dsimp only
  split <;> rfl

theorem nocRampEnd_ramp (new : Nat) (s : State) (b : Branch) : (nocRampEnd new s).ramp b = s.ramp b := by
  unfold nocRampEnd
  dsimp only
  split <;> rfl

theorem rampEnd_noc {r : Ramp} (hramp : s.ramp .noc = some r) (hstopped : s.pwr.stopped = false) (hstep : r.step = 16) (hnext : r.next = none) :
    ∃ t, exec (.rampEnd .noc) s = .next t ∧ t.ramp .noc = none ∧ t.pwr.nocDiv = r.new :=
  ⟨_, rampEnd_ends hramp (rampHeld_running _ hstopped) hstep hnext, (nocRampEnd_ramp r.new _ .noc).trans (ramp_endedRamp .noc s), nocRampEnd_nocDiv r.new _⟩

/-- Without frame jobs that missed their tick, no engine starts. -/
theorem startBacklogs_none (l : List Nat) (h : ∀ e ∈ l, s.fld SGE_FRAME_STATUS_BACKLOG e = 0) : l.foldl (fun s e => startBacklog e s) s = s := by
  induction l with
  | nil => rfl
  | cons e l ih =>
    have hfirst : startBacklog e s = s := if_pos (.inl (h e (.head _)))
    rw [List.foldl_cons, hfirst]
    exact ih fun e' he' => h e' (.tail _ he')

/-- The fixed domains run again; nothing waited for them. -/
theorem rampEnd_fixed {r : Ramp} (hramp : s.ramp .fixed = some r) (hstep : r.step = 16) (hnext : r.next = none) (hstopped : s.pwr.stopped = true)
    (hretained : s.pwr.retained = true) (hbacklog : ∀ e, e < 32 → s.fld SGE_FRAME_STATUS_BACKLOG e = 0) :
    ∃ t, exec (.rampEnd .fixed) s = .next t ∧ t.ramp .fixed = none ∧ t.pwr.stopped = false ∧ t.fld PWR_STATUS_SUSPENDED = 0 ∧
      onlyRegs [PWR_STATUS_STATE.off] { s with pwr := t.pwr } t := by
  obtain ⟨w, hw⟩ : ∃ w : State, w = { (endedRamp .fixed s).setFld PWR_STATUS_SUSPENDED 0 with pwr := { (endedRamp .fixed s).pwr with stopped := false } } := ⟨_, rfl⟩
  have hregs : onlyPwr [PWR_STATUS_STATE.off] s w := by
    rw [hw]
    exact onlyRegs_setFld _ PWR_STATUS_SUSPENDED 0 0 0 0
  have hresume : afterRamp r (endedRamp .fixed s) .fixed = w := by
    have hended : (endedRamp .fixed s).pwr.stopped = true := hstopped
    have hkept : w.pwr.retained = true := by
      rw [hw]
      exact hretained
    refine (if_pos hended).trans ?_
    unfold resumeDomains
    dsimp only
    rw [← hw, startBacklogs_none _ fun e he => (hregs.fld SGE_FRAME_STATUS_BACKLOG e ?_).trans (hbacklog e (List.mem_range.mp he)), if_pos (.inl hkept)]
    have he' := List.mem_range.mp he
    simp only [Field.key, SGE_FRAME_STATUS_BACKLOG, PWR_STATUS_STATE, List.mem_singleton]
    omega
  refine ⟨w, (rampEnd_ends hramp (by simp [rampHeld]) hstep hnext).trans (congrArg _ hresume), ?_, ?_, ?_, hregs⟩
  · rw [hw]
    exact ramp_endedRamp .fixed s
  · rw [hw]
  · rw [hw]
    exact fld_setFld_same (endedRamp .fixed s) PWR_STATUS_SUSPENDED 0 0 0 0 (by unfold Field.good; decide)

/-! ### The clauses of a running ramp -/

theorem rampStep_makes {r : Ramp} (hramp : s.ramp b = some r) (hbranch : r.branch = b) (hstopped : s.pwr.stopped = false) (hstep : r.step < 16) :
    ∃ t, exec (.rampStep b) s = .next t ∧ t.ramp b = some { r with step := r.step + 1, edges := rampEdges r.old r.new (r.step + 1) } ∧
      ((∀ k, b ≠ .fclk k) → t.regs = s.regs) ∧
      (∀ k, b = .fclk k → t.fld CLK_FCLKk_CUR_DIV k = rampDiv r.old r.new (r.step + 1) % 2 ^ CLK_FCLKk_CUR_DIV.w ∧
        regsKeep [CLK_FCLKk_DIV.key k 0 0] s t) ∧ t.out = s.out := by
  refine ⟨_, rampStep_steps hramp hstopped hstep, ramp_stepDivisor hbranch, fun h => stepDivisor_regs r _ h, fun k hk => ?_, stepDivisor_out r _ b⟩
  subst hk
  exact ⟨fld_setFld_same (steppedRamp (.fclk k) r s) CLK_FCLKk_CUR_DIV _ k 0 0 (by unfold Field.good; decide), regsKeep_setFld (steppedRamp (.fclk k) r s) CLK_FCLKk_CUR_DIV _ k 0 0⟩

theorem rampEnd_continues {r : Ramp} {d : Nat} (hramp : s.ramp b = some r) (hstopped : s.pwr.stopped = false) (hstep : r.step = 16) (hnext : r.next = some d) :
    ∃ t, exec (.rampEnd b) s = .next t ∧ t.ramp b = some ⟨b, 0, d, none, 0, 0⟩ ∧ t.out = s.out :=
  ⟨_, rampEnd_goesOn hramp (rampHeld_running b hstopped) hstep hnext, ramp_startRamp_up b d _, (startRamp_out b 0 d none _).trans (endedRamp_onlyPwr b s).out⟩

end Sys2Proof.Machine
end

section
-- One proof at a time: the memory limit of the check counts a stack for every proof that waits for another.
set_option Elab.async false
/-! O57, second part. The selection of the reference, the trip of the clock monitor, the freeze and the pull-in (R626 to R630, R640 to
R645). -/

namespace Sys2Proof.Machine

variable {s t x : State} {p : Packet} {ref : Nat}

/-! ### Fields of a register, and the kindling oscillator -/

theorem modPwr_onlyPwr (f : PwrState → PwrState) (s : State) : onlyPwr [] s (s.modPwr f) := onlyPwr_pwr s _

theorem modPwr_fld (f : PwrState → PwrState) (s : State) (F : Field) : (s.modPwr f).fld F = s.fld F := rfl

/-- The kindling oscillator rests: a field beside its flag stays. -/
theorem fld_restKindling (s : State) (G : Field)
    (h : G.apart CLK_STATUS_KINDLE_READY (G.key 0 0 0) (CLK_STATUS_KINDLE_READY.key 0 0 0) := by unfold Field.apart; decide) :
    (restKindling s).fld G = s.fld G := by
  unfold restKindling
  split
  · rfl
  · exact fld_setFld_apart s CLK_STATUS_KINDLE_READY G 0 h

theorem restKindling_onlyPwr (s : State) : onlyPwr [CLK_STATUS_ROOT.off] s (restKindling s) := by
  unfold restKindling
  split
  · exact onlyPwr_refl _ s
  · exact onlyPwr_trans (onlyRegs_setFld s CLK_STATUS_KINDLE_READY 0 0 0 0).onlyPwr (onlyPwr_mono (by simp) (modPwr_onlyPwr _ _))

theorem restKindling_select (s : State) : (restKindling s).pwr.select = s.pwr.select := by
  unfold restKindling
  split <;> rfl

/-- Unless KINDLE_KEEP asks for it, the oscillator stops. -/
theorem restKindling_stops (h : s.fld CLK_CTL_KINDLE_KEEP = 0) :
    (restKindling s).pwr.kindle = false ∧ (restKindling s).fld CLK_STATUS_KINDLE_READY = 0 := by
  unfold restKindling
  rw [if_neg (by simp [on_of_zero h])]
  exact ⟨rfl, fld_setFld_same s CLK_STATUS_KINDLE_READY 0 0 0 0 (by unfold Field.good; decide)⟩

/-! ### CLK_REF_SELECT (R630) -/

theorem clkRefSelect_busy (h : s.accepts 0x0202 1 .owner p) (hbusy : s.pwr.req.isSome = true ∨ s.pwr.select.isSome = true) :
    exec (.clkRefSelect p) s = .next (endCommand p .busy [] (beginCommand p s)) := by
  have hexec : exec (.clkRefSelect p) s = .next (runCommand 0x0202 1 .owner p _ s) := rfl
  rw [hexec, runCommand_passes h]
  refine congrArg _ (if_pos ?_)
  rw [beginCommand_pwr]
  exact hbusy

theorem clkRefSelect_root (h : s.accepts 0x0202 1 .owner p) (hreq : s.pwr.req = none) (hselect : s.pwr.select = none) (hroot : s.fld CLK_STATUS_ROOT = 1) :
    (s.fld CLK_STATUS_REF = bits (p.w 1) 0 1 → exec (.clkRefSelect p) s = .next (endCommand p .ok [1] (beginCommand p s))) ∧
    (s.fld CLK_STATUS_REF ≠ bits (p.w 1) 0 1 →
      exec (.clkRefSelect p) s = .next ((beginCommand p s).modPwr (fun x => { x with select := some (bits (p.w 1) 0 1, p), kindle := true }))) := by
  have hexec : exec (.clkRefSelect p) s = .next (runCommand 0x0202 1 .owner p _ s) := rfl
  have hroot' : (beginCommand p s).fld CLK_STATUS_ROOT = 1 := (fld_beginCommand p s CLK_STATUS_ROOT 0 0 0 (by decide) (by decide)).trans hroot
  have href : (beginCommand p s).fld CLK_STATUS_REF = s.fld CLK_STATUS_REF := fld_beginCommand p s CLK_STATUS_REF 0 0 0 (by decide) (by decide)
  rw [hexec, runCommand_passes h]
  have hfree : ¬ ((beginCommand p s).pwr.req.isSome = true ∨ (beginCommand p s).pwr.select.isSome = true) := by
    rw [beginCommand_pwr, hreq, hselect]
    simp
  constructor
  · intro heq
    refine congrArg _ ((if_neg hfree).trans ((if_neg (by rw [hroot']; decide)).trans ((if_pos (href.trans heq)).trans ?_)))
    rw [hroot']
    rfl
  · intro hne
    exact congrArg _ ((if_neg hfree).trans ((if_neg (by rw [hroot']; decide)).trans (if_neg (by rw [href]; exact hne))))

/-! ### The reference qualifies (R626, R630) -/

theorem referenceQualified_waits (h : s.fld CLK_STATUS_KINDLE_READY = 0) : exec .referenceQualified s = .next s := by
  have hexec : exec .referenceQualified s = execReferenceQualified s := rfl
  rw [hexec, execReferenceQualified]
  exact if_pos (by simp [on_of_zero h])

theorem referenceQualified_selects (href : ref < 2) (hselect : s.pwr.select = some (ref, p)) (hup : s.pwr.phase = .up)
    (hready : s.fld CLK_STATUS_KINDLE_READY = 1) :
    ∃ t, exec .referenceQualified s = .next t ∧ t.fld CLK_STATUS_REF = ref ∧ t.fld CLK_STATUS_REF_QUAL = 1 ∧
      t.fld CLK_STATUS_SWITCHING = 1 ∧ onlyRegs [CLK_STATUS_ROOT.off] s t := by
  have hexec : exec .referenceQualified s =
      .next (((s.setFld CLK_STATUS_REF ref).setFld CLK_STATUS_REF_QUAL 1).setFld CLK_STATUS_SWITCHING 1) := by
    have hexec : exec .referenceQualified s = execReferenceQualified s := rfl
    rw [hexec, execReferenceQualified, if_neg (by simp [on_of_one hready]), if_neg (by rw [hup]; decide), hselect]
  refine ⟨_, hexec, ?_, ?_, fld_setFld_same _ CLK_STATUS_SWITCHING 1 0 0 0 (by unfold Field.good; decide), ?_⟩
  · rw [fld_setFld_apart _ CLK_STATUS_SWITCHING CLK_STATUS_REF, fld_setFld_apart _ CLK_STATUS_REF_QUAL CLK_STATUS_REF]
    exact fld_setFld_of_lt s 0 (by decide) href
  · rw [fld_setFld_apart _ CLK_STATUS_SWITCHING CLK_STATUS_REF_QUAL]
    exact fld_setFld_of_lt _ 0 (by decide) (by decide)
  · exact onlyRegs_trans (onlyRegs_setFld s CLK_STATUS_REF ref 0 0 0) (onlyRegs_trans (onlyRegs_setFld _ CLK_STATUS_REF_QUAL 1 0 0 0)
      (onlyRegs_setFld _ CLK_STATUS_SWITCHING 1 0 0 0))

theorem referenceQualified_starts (hphase : s.pwr.phase = .p1) (hready : s.fld CLK_STATUS_KINDLE_READY = 1) :
    ∃ t, exec .referenceQualified s = .next t ∧ t.pwr.phase = .p2 ∧ t.fld CLK_STATUS_REF_QUAL = 1 ∧
      onlyRegs [CLK_STATUS_ROOT.off] { s with pwr := t.pwr } t := by
  have hexec : exec .referenceQualified s = .next ((s.setFld CLK_STATUS_REF_QUAL 1).modPwr (fun x => { x with phase := .p2 })) := by
    have hexec : exec .referenceQualified s = execReferenceQualified s := rfl
    rw [hexec, execReferenceQualified, if_neg (by simp [on_of_one hready]), if_pos hphase]
  exact ⟨_, hexec, rfl, fld_setFld_of_lt s 0 (by decide) (by decide),
    onlyPwr_trans (onlyRegs_setFld s CLK_STATUS_REF_QUAL 1 0 0 0).onlyPwr (onlyPwr_mono (by simp) (modPwr_onlyPwr _ _))⟩

/-- The reference has not qualified in time: the command fails, and the reference and the root stay. -/
theorem refQualifyTimeout_fails (hselect : s.pwr.select = some (ref, p)) (hswitching : s.on CLK_STATUS_SWITCHING = false) :
    ∃ u, exec .refQualifyTimeout s = .next (endCommand p .failed [] u) ∧ u.pwr.select = none ∧
      u.fld CLK_STATUS_REF = s.fld CLK_STATUS_REF ∧ u.fld CLK_STATUS_ROOT = s.fld CLK_STATUS_ROOT ∧
      (s.fld CLK_CTL_KINDLE_KEEP = 0 → u.pwr.kindle = false) ∧ onlyRegs [CLK_STATUS_ROOT.off] { s with pwr := u.pwr } u := by
  have hexec : exec .refQualifyTimeout s = .next (endCommand p .failed [] (restKindling (s.modPwr (fun x => { x with select := none })))) := by
    have hexec : exec .refQualifyTimeout s = execRefQualifyTimeout s := rfl
    rw [hexec, execRefQualifyTimeout, hselect]
    exact if_neg (by simp [hswitching])
  exact ⟨_, hexec, restKindling_select _, fld_restKindling _ CLK_STATUS_REF, fld_restKindling _ CLK_STATUS_ROOT,
    fun hkeep => (restKindling_stops (s := s.modPwr (fun x => { x with select := none })) hkeep).1,
    onlyPwr_trans (onlyPwr_mono (by simp) (modPwr_onlyPwr _ s)) (restKindling_onlyPwr _)⟩

/-! ### The slew ends (R630, R645) -/

/-- The root runs again from its reference. -/
def slewed (s : State) : State := (s.setFld CLK_STATUS_SWITCHING 0).setFld CLK_STATUS_ROOT 1

theorem slewed_switching (s : State) : (slewed s).fld CLK_STATUS_SWITCHING = 0 :=
  (fld_setFld_apart _ CLK_STATUS_ROOT CLK_STATUS_SWITCHING 1).trans (fld_setFld_same s CLK_STATUS_SWITCHING 0 0 0 0 (by unfold Field.good; decide))

theorem slewed_root (s : State) : (slewed s).fld CLK_STATUS_ROOT = 1 := fld_setFld_of_lt _ 0 (by decide) (by decide)

theorem slewed_onlyRegs (s : State) : onlyRegs [CLK_STATUS_ROOT.off] s (slewed s) :=
  onlyRegs_trans (onlyRegs_setFld s CLK_STATUS_SWITCHING 0 0 0 0) (onlyRegs_setFld _ CLK_STATUS_ROOT 1 0 0 0)

theorem slewed_other (s : State) (F : Field) (h : F.key 0 0 0 ≠ CLK_STATUS_ROOT.off := by decide) : (slewed s).fld F = s.fld F :=
  (slewed_onlyRegs s).fld_elsewhere F 0 0 0 (by simpa using h)

/-- The command that asked for the slew, if one did, ends. -/
def endSlew (s : State) : State :=
  match s.pwr.select with
  | some (_, p) => endCommand p .ok [1] (s.modPwr (fun x => { x with select := none }))
  | none => s

theorem endSlew_selected (h : s.pwr.select = some (ref, p)) : endSlew s = endCommand p .ok [1] (s.modPwr (fun x => { x with select := none })) := by
  unfold endSlew
  rw [h]

theorem endSlew_alone (h : s.pwr.select = none) : endSlew s = s := by
  unfold endSlew
  rw [h]

/-- The return to the reference has slewed: the time aligns anew. -/
def returned (s : State) : State := startAlign ((slewed s).addFld CLK_MON_RETURNS 1)

/-- The state in which the slew has ended, before the reply. -/
def slewEnded (s : State) : State :=
  (restKindling (if decide (s.fld CLK_STATUS_ROOT = 3) = true then returned s else slewed s)).modPwr (fun x => { x with returnAsked := false })

theorem slewDone_ends (h : s.fld CLK_STATUS_SWITCHING = 1) : exec .slewDone s = .next (endSlew (slewEnded s)) := by
  have hexec : exec .slewDone s = execSlewDone s := rfl
  have hend (y : State) : (Host.Outcome.next (endSlew y) : Host.Outcome State Fault Refusal) =
      match y.pwr.select with
      | some (_, p) => .next (endCommand p .ok [1] (y.modPwr (fun x => { x with select := none })))
      | none => .next y := by
    unfold endSlew
    split <;> rfl
  rw [hexec, hend]
  exact if_neg (by simp [on_of_one h])

theorem slewEnded_select (s : State) : (slewEnded s).pwr.select = s.pwr.select := by
  refine (restKindling_select _).trans ?_
  split <;> rfl

theorem slewEnded_fld (s : State) (F : Field)
    (h : F.apart CLK_STATUS_KINDLE_READY (F.key 0 0 0) (CLK_STATUS_KINDLE_READY.key 0 0 0) := by unfold Field.apart; decide) :
    (slewEnded s).fld F = (if s.fld CLK_STATUS_ROOT = 3 then returned s else slewed s).fld F := by
  refine (fld_restKindling _ F h).trans ?_
  simp only [decide_eq_true_eq]

theorem slewEnded_selected (hroot : s.fld CLK_STATUS_ROOT ≠ 3) : slewEnded s = (restKindling (slewed s)).modPwr (fun x => { x with returnAsked := false }) := by
  unfold slewEnded
  rw [if_neg (by simpa using hroot)]

/-- A selected reference has been slewed to: the command ends. -/
theorem slewDone_selected (hselect : s.pwr.select = some (ref, p)) (hswitching : s.fld CLK_STATUS_SWITCHING = 1) (hroot : s.fld CLK_STATUS_ROOT = 1) :
    ∃ u, exec .slewDone s = .next (endCommand p .ok [1] u) ∧ u.fld CLK_STATUS_SWITCHING = 0 ∧ u.fld CLK_STATUS_ROOT = 1 ∧
      u.pwr.select = none ∧ (s.fld CLK_CTL_KINDLE_KEEP = 0 → u.pwr.kindle = false ∧ u.fld CLK_STATUS_KINDLE_READY = 0) ∧
      onlyRegs [CLK_STATUS_ROOT.off] { s with pwr := u.pwr } u := by
  have hnot : s.fld CLK_STATUS_ROOT ≠ 3 := by
    rw [hroot]
    decide
  have hexec : exec .slewDone s = .next (endCommand p .ok [1] ((slewEnded s).modPwr (fun x => { x with select := none }))) :=
    (slewDone_ends hswitching).trans (congrArg _ (endSlew_selected ((slewEnded_select s).trans hselect)))
  refine ⟨_, hexec, ?_, ?_, rfl, fun hkeep => ?_, ?_⟩
  · rw [modPwr_fld, slewEnded_fld s CLK_STATUS_SWITCHING, if_neg hnot, slewed_switching]
  · rw [modPwr_fld, slewEnded_fld s CLK_STATUS_ROOT, if_neg hnot, slewed_root]
  · rw [slewEnded_selected hnot]
    obtain ⟨hkindle, hready⟩ := restKindling_stops ((slewed_other s CLK_CTL_KINDLE_KEEP).trans hkeep)
    refine ⟨hkindle, ?_⟩
    rw [modPwr_fld, modPwr_fld, hready]
  · rw [slewEnded_selected hnot]
    exact onlyPwr_trans (slewed_onlyRegs s).onlyPwr (onlyPwr_trans (restKindling_onlyPwr _) (onlyPwr_mono (by simp) (onlyPwr_trans (modPwr_onlyPwr _ _) (modPwr_onlyPwr _ _))))

theorem slewDone_returns (hswitching : s.fld CLK_STATUS_SWITCHING = 1) (hroot : s.fld CLK_STATUS_ROOT = 3) (hselect : s.pwr.select = none) :
    ∃ t, exec .slewDone s = .next t ∧ t.fld CLK_STATUS_ROOT = 1 ∧ t.fld CLK_STATUS_SWITCHING = 0 ∧ t.fld TCK_STATUS_ALIGNED = 0 ∧
      t.fld CLK_MON_RETURNS = (s.fld CLK_MON_RETURNS + 1) % 2 ^ 16 := by
  have hexec : exec .slewDone s = .next (slewEnded s) := (slewDone_ends hswitching).trans (congrArg _ (endSlew_alone ((slewEnded_select s).trans hselect)))
  have hstatus (F : Field) (hF : F.key 0 0 0 = 0x300008) : (returned s).fld F = (slewed s).fld F :=
    (fld_setFld_elsewhere _ TCK_STATUS_ALIGNED F 0 (by rw [hF]; decide)).trans (fld_addFld_elsewhere _ CLK_MON_RETURNS F 1 (by rw [hF]; decide))
  refine ⟨_, hexec, ?_, ?_, ?_, ?_⟩
  · rw [slewEnded_fld s CLK_STATUS_ROOT, if_pos hroot, hstatus _ rfl, slewed_root]
  · rw [slewEnded_fld s CLK_STATUS_SWITCHING, if_pos hroot, hstatus _ rfl, slewed_switching]
  · rw [slewEnded_fld s TCK_STATUS_ALIGNED, if_pos hroot]
    exact fld_setFld_same _ TCK_STATUS_ALIGNED 0 0 0 0 (by unfold Field.good; decide)
  · rw [slewEnded_fld s CLK_MON_RETURNS, if_pos hroot]
    refine (fld_setFld_apart _ TCK_STATUS_ALIGNED CLK_MON_RETURNS 0).trans ((fld_addFld _ CLK_MON_RETURNS 1 0 0 0).trans ?_)
    rw [slewed_other s CLK_MON_RETURNS]
    rfl

end Sys2Proof.Machine
end

section
-- One proof at a time: the memory limit of the check counts a stack for every proof that waits for another.
set_option Elab.async false
/-! O57, third part. The trip of the clock monitor, the freeze and the pull-in (R640 to R645). -/

namespace Sys2Proof.Machine

variable {s t u : State} {lost : Bool}

/-! ### Containment of the DRAM controllers leaves the clocks -/

/-- The registers below the endpoints' and those of the channel groups. -/
def farFromDram (k : Nat) : Prop := k < 0x601000 ∨ 0xC00000 ≤ k ∧ k < 0x1400000

/-- The power state and the registers away from the DRAM controllers stay. -/
def dramFrame (s t : State) : Prop := t.pwr = s.pwr ∧ ∀ k, farFromDram k → t.reg k = s.reg k

theorem dramFrame_trans (h : dramFrame s t) (h' : dramFrame t u) : dramFrame s u :=
  ⟨h'.1.trans h.1, fun k hk => (h'.2 k hk).trans (h.2 k hk)⟩

theorem onlyRegs.dramFrame {l : List Nat} (h : onlyRegs l s t) (hl : ∀ k ∈ l, ¬ farFromDram k) : dramFrame s t :=
  ⟨onlyRegs_pwr h, fun k hk => h.2 k fun hin => hl k hin hk⟩

theorem setFld_dramFrame (s : State) (F : Field) (v i : Nat) (h : ¬ farFromDram (F.key i 0 0)) : dramFrame s (s.setFld F v i) :=
  (onlyRegs_setFld s F v i 0 0).dramFrame (by simpa using h)

theorem drcStatus_near (lo w c : Nat) : ¬ farFromDram (Field.key ⟨0x1400008, 0x40000, 0, 0, lo, w⟩ c 0 0) := by
  simp only [farFromDram, Field.key]
  omega

theorem modDrc_dramFrame (s : State) (c : Nat) (f : Dram → Dram) : dramFrame s (s.modDrc c f) := by
  refine dramFrame_trans (dramFrame_trans (t := { s with dram := Memory.set (fun _ => Dram.reset) s.dram c (f (s.drc c)) }) ⟨rfl, fun _ _ => rfl⟩
    (setFld_dramFrame _ DRC_STATUS_RD_Q _ c (drcStatus_near _ _ c))) (setFld_dramFrame _ DRC_STATUS_WR_Q _ c (drcStatus_near _ _ c))

theorem raiseEndpoint_dramFrame {e : Nat} (he : e < 320) (s : State) : dramFrame s (raiseEndpoint e s) := by
  refine (raiseEndpoint_onlyRegs e s).dramFrame fun k hk => ?_
  simp only [List.mem_singleton] at hk
  subst hk
  simp only [farFromDram, Field.key, NOC_EPe_STATUS_DAMPER]
  omega

theorem emit_dramFrame (s : State) (o : Out) : dramFrame s (s.emit o) := ⟨rfl, fun _ _ => rfl⟩

theorem dramHold_dramFrame {c : Nat} (hc : c < 4) (s : State) : dramFrame s (dramHold c s) := by
  have he : dramEndpoint c < 320 := by
    have hall : ∀ c < 4, dramEndpoint c < 320 := by decide
    exact hall c hc
  unfold dramHold
  split
  · refine dramFrame_trans (raiseEndpoint_dramFrame he s) ?_
    refine dramFrame_trans (emit_dramFrame _ (.dramCommand c .prechargeAll)) (dramFrame_trans (emit_dramFrame _ (.dramCommand c .selfRefresh)) ?_)
    exact dramFrame_trans (modDrc_dramFrame _ c _) (setFld_dramFrame _ DRC_STATUS_STATE _ c (drcStatus_near _ _ c))
  · exact ⟨rfl, fun _ _ => rfl⟩

/-- The controllers of a list go into self-refresh. -/
def holdDrams (l : List Nat) (s : State) : State := l.foldl (fun s c => dramHold c s) s

theorem holdDrams_dramFrame (l : List Nat) (hl : ∀ c ∈ l, c < 4) (s : State) : dramFrame s (holdDrams l s) := by
  induction l generalizing s with
  | nil => exact ⟨rfl, fun _ _ => rfl⟩
  | cons c l ih => exact dramFrame_trans (dramHold_dramFrame (hl c (.head _)) s) (ih (fun k hk => hl k (.tail _ hk)) _)

/-! ### A step that a stop suspends (R660) -/

theorem suspendStep_onlyRegs (s : State) : onlyRegs [PWR_STATUS_STATE.off] s (suspendStep s) := by
  unfold suspendStep
  split
  · exact onlyRegs_setFld s PWR_STATUS_SUSPENDED 1 0 0 0
  · exact onlyRegs_refl _ s

theorem fld_suspendStep (s : State) (F : Field) (i : Nat) (h : F.key i 0 0 ≠ PWR_STATUS_STATE.off) : (suspendStep s).fld F i = s.fld F i :=
  (suspendStep_onlyRegs s).fld_elsewhere F i 0 0 (by simpa using h)

/-! ### The trip (R640, R641) -/

/-- The flag that names the cause of a trip. -/
def tripFlag (lost : Bool) : Field := if lost then CLK_MON_LOCK_LOST else CLK_MON_REF_LOST

/-- The trip is noted and counted. -/
def tripCounted (lost : Bool) (s : State) : State :=
  ((s.setFld (tripFlag lost) 1).addFld CLK_MON_TRIPS 1).setFld CLK_MON_LAST_TICK (s.setFld (tripFlag lost) 1).tickCount.toNat

/-- The clock status of a trip: the kindling clock, and no slew. -/
def tripStatus (s : State) : State := ((s.setFld CLK_STATUS_ROOT 2).setFld CLK_STATUS_SWITCHING 0).setFld CLK_STATUS_REF_QUAL 0

/-- The groups are in SAFE and the time is in doubt. -/
def tripSafe (s : State) : State := ((enterAllSafe (List.range 128) s).setFld TCK_STATUS_QUALITY 2).setFld TCK_STATUS_ALIGNED 0

/-- The DRAM controllers are held, the domains stopped and a step suspended. -/
def tripStopped (s : State) : State :=
  suspendStep ((holdDrams (List.range 4) s).modPwr (fun x => { x with kindle := true, stopped := true }))

/-- The state of a trip, before a selection in progress ends. -/
def tripRaised (lost : Bool) (s : State) : State := raise 0x003 (if lost then 2 else 1) (tripStopped (tripSafe (tripStatus (tripCounted lost s))))

theorem tripMonitor_alone (h : (tripRaised lost s).pwr.select = none) : tripMonitor lost s = tripRaised lost s := by
  have hmatch (y : State) (hy : y.pwr.select = none) : y =
      match y.pwr.select with
      | some (ref, p) => endCommand p .ok [2] ((y.setFld CLK_STATUS_REF ref).modPwr (fun x => { x with select := none, returnAsked := true }))
      | none => y := by rw [hy]
  refine Eq.trans ?_ (hmatch (tripRaised lost s) h).symm
  cases lost <;> rfl

theorem tripSource : sourceRange 0x003 = some ⟨0x003, 0x004, 1, false, false⟩ := by decide

theorem raise_pwr {src : Nat} {r : SourceRange} (hr : sourceRange src = some r) (hn : r.notify = false) (hs : src < 0x1000) (info : Nat) (s : State) :
    (raise src info s).pwr = s.pwr := by rw [raise_keeps hr hn hs]

theorem modPwr_pwr (f : PwrState → PwrState) (s : State) : (s.modPwr f).pwr = f s.pwr := rfl

theorem heldDrams_dramFrame (s : State) : dramFrame s (holdDrams (List.range 4) s) := holdDrams_dramFrame _ (fun _ hc => List.mem_range.mp hc) s

theorem tripStopped_pwr (s : State) : (tripStopped s).pwr = { s.pwr with kindle := true, stopped := true } := by
  unfold tripStopped
  rw [onlyRegs_pwr (suspendStep_onlyRegs _), modPwr_pwr, (heldDrams_dramFrame s).1]

theorem fld_tripStopped (s : State) (F : Field) (i : Nat) (hfar : farFromDram (F.key i 0 0)) (hne : F.key i 0 0 ≠ PWR_STATUS_STATE.off) :
    (tripStopped s).fld F i = s.fld F i := by
  unfold tripStopped
  rw [fld_suspendStep _ F i hne, fld_congr F i 0 0 (modPwr_reg _ _ _), fld_congr F i 0 0 ((heldDrams_dramFrame s).2 _ hfar)]

theorem tripSafe_pwr (s : State) : (tripSafe s).pwr = s.pwr := by
  unfold tripSafe
  rw [setFld_pwr, setFld_pwr]
  exact (groupsOnly_enterAllSafe _ s).pwr

theorem tripStatus_onlyRegs (s : State) : onlyRegs [CLK_STATUS_ROOT.off] s (tripStatus s) :=
  onlyRegs_trans (onlyRegs_setFld s CLK_STATUS_ROOT 2 0 0 0) (onlyRegs_trans (onlyRegs_setFld _ CLK_STATUS_SWITCHING 0 0 0 0)
    (onlyRegs_setFld _ CLK_STATUS_REF_QUAL 0 0 0 0))

theorem tripCounted_pwr (lost : Bool) (s : State) : (tripCounted lost s).pwr = s.pwr := rfl

theorem tripRaised_pwr (lost : Bool) (s : State) : (tripRaised lost s).pwr = { s.pwr with kindle := true, stopped := true } := by
  unfold tripRaised
  rw [raise_pwr tripSource rfl (by decide), tripStopped_pwr, tripSafe_pwr, onlyRegs_pwr (tripStatus_onlyRegs _), tripCounted_pwr]

/-- A clock, time or group register after the trip. -/
theorem fld_tripRaised (lost : Bool) (s : State) (F : Field) (i : Nat) (hfar : farFromDram (F.key i 0 0)) (hlo : 0x210000 ≤ F.key i 0 0)
    (hne : F.key i 0 0 ≠ PWR_STATUS_STATE.off) : (tripRaised lost s).fld F i = (tripSafe (tripStatus (tripCounted lost s))).fld F i := by
  have hhi : F.key i 0 0 < 0x1820000 := by
    unfold farFromDram at hfar
    omega
  unfold tripRaised
  rw [fld_raise_between tripSource rfl (by decide) _ _ F i hlo hhi, fld_tripStopped _ F i hfar hne]

/-- A clock register after the groups have gone SAFE. -/
theorem fld_tripSafe (s : State) (F : Field) (h : F.key 0 0 0 < 0x400000) : (tripSafe s).fld F = s.fld F := by
  have hne : F.key 0 0 0 ≠ TCK_STATUS_ALIGNED.key 0 0 0 := by
    simp only [Field.key, TCK_STATUS_ALIGNED] at h ⊢
    omega
  refine (fld_setFld_elsewhere _ TCK_STATUS_ALIGNED F 0 hne).trans ((fld_setFld_elsewhere _ TCK_STATUS_QUALITY F 2 hne).trans ?_)
  exact fld_congr F 0 0 0 (enterAllSafe_reg_low (by omega) _ _)

theorem tripStatus_root (s : State) : (tripStatus s).fld CLK_STATUS_ROOT = 2 := by
  unfold tripStatus
  rw [fld_setFld_apart _ CLK_STATUS_REF_QUAL CLK_STATUS_ROOT, fld_setFld_apart _ CLK_STATUS_SWITCHING CLK_STATUS_ROOT]
  exact fld_setFld_of_lt s 0 (by decide) (by decide)

theorem tripCounted_trips (lost : Bool) (s : State) : (tripCounted lost s).fld CLK_MON_TRIPS = (s.fld CLK_MON_TRIPS + 1) % 2 ^ 16 := by
  unfold tripCounted
  rw [fld_setFld_apart _ CLK_MON_LAST_TICK CLK_MON_TRIPS, fld_addFld _ CLK_MON_TRIPS 1 0 0 0]
  have hflag : (s.setFld (tripFlag lost) 1).fld CLK_MON_TRIPS = s.fld CLK_MON_TRIPS := by
    cases lost
    · exact fld_setFld_apart s CLK_MON_REF_LOST CLK_MON_TRIPS 1
    · exact fld_setFld_apart s CLK_MON_LOCK_LOST CLK_MON_TRIPS 1
  rw [hflag]
  rfl

theorem tripFlag_off (lost : Bool) : (tripFlag lost).key 0 0 0 = CLK_MON_TRIPS.off := by cases lost <;> rfl

theorem tripCounted_tick (lost : Bool) (s : State) : (tripCounted lost s).fld CLK_MON_LAST_TICK = s.fld TCK_COUNT_COUNT := by
  have hcount : (s.setFld (tripFlag lost) 1).fld TCK_COUNT_COUNT = s.fld TCK_COUNT_COUNT :=
    fld_setFld_elsewhere s (tripFlag lost) TCK_COUNT_COUNT 1 (by rw [tripFlag_off]; decide)
  unfold tripCounted
  rw [tickCount_toNat, hcount]
  exact fld_setFld_of_lt _ 0 (by decide) (fld_lt s TCK_COUNT_COUNT 0 0 0)

theorem tripCounted_flag (lost : Bool) (s : State) : (tripCounted lost s).fld (tripFlag lost) = 1 := by
  cases lost
  · refine (fld_setFld_apart _ CLK_MON_LAST_TICK CLK_MON_REF_LOST _).trans ((fld_setFld_apart _ CLK_MON_TRIPS CLK_MON_REF_LOST _).trans ?_)
    exact fld_setFld_of_lt s 0 (by decide) (by decide)
  · refine (fld_setFld_apart _ CLK_MON_LAST_TICK CLK_MON_LOCK_LOST _).trans ((fld_setFld_apart _ CLK_MON_TRIPS CLK_MON_LOCK_LOST _).trans ?_)
    exact fld_setFld_of_lt s 0 (by decide) (by decide)

/-- A register of the clock monitor after the trip. -/
theorem fld_trip_monitor (lost : Bool) (s : State) (F : Field) (hF : F.key 0 0 0 = 0x300010 ∨ F.key 0 0 0 = 0x300018) :
    (tripRaised lost s).fld F = (tripCounted lost s).fld F := by
  rw [fld_tripRaised lost s F 0 (.inl (by omega)) (by omega) (by simp only [PWR_STATUS_STATE]; omega), fld_tripSafe _ F (by omega)]
  exact (tripStatus_onlyRegs _).fld_elsewhere F 0 0 0 (by simp only [List.mem_singleton, CLK_STATUS_ROOT]; omega)

theorem trip_stops (hfrozen : s.pwr.frozen = false) (hroot : s.fld CLK_STATUS_ROOT = 1) (hselect : s.pwr.select = none) :
    ∃ t, exec (.clockMonitorTrip lost) s = .next t ∧ t.fld CLK_STATUS_ROOT = 2 ∧ t.pwr.stopped = true ∧ t.pwr.kindle = true ∧
      t.fld CLK_MON_TRIPS = (s.fld CLK_MON_TRIPS + 1) % 2 ^ 16 ∧ t.fld CLK_MON_LAST_TICK = s.fld TCK_COUNT_COUNT ∧
      (if lost then t.fld CLK_MON_LOCK_LOST = 1 else t.fld CLK_MON_REF_LOST = 1) ∧ t.fld TCK_STATUS_QUALITY = 2 ∧
      t.fld TCK_STATUS_ALIGNED = 0 ∧ (∀ g, g < 128 → t.mode g = mdSafe) := by
  have hpwr := tripRaised_pwr lost s
  have hexec : exec (.clockMonitorTrip lost) s = .next (tripRaised lost s) := by
    have hexec : exec (.clockMonitorTrip lost) s = execClockMonitorTrip lost s := rfl
    rw [hexec, execClockMonitorTrip, if_neg (by simp [hfrozen]), hroot]
    exact congrArg _ (tripMonitor_alone (by rw [hpwr]; exact hselect))
  have hflag := (fld_trip_monitor lost s (tripFlag lost) (.inl (tripFlag_off lost))).trans (tripCounted_flag lost s)
  refine ⟨_, hexec, ?_, by rw [hpwr], by rw [hpwr], ?_, ?_, ?_, ?_, ?_, fun g hg => ?_⟩
  · rw [fld_tripRaised lost s CLK_STATUS_ROOT 0 (.inl (by decide)) (by decide) (by decide), fld_tripSafe _ CLK_STATUS_ROOT (by decide), tripStatus_root]
  · rw [fld_trip_monitor lost s CLK_MON_TRIPS (.inl rfl), tripCounted_trips]
  · rw [fld_trip_monitor lost s CLK_MON_LAST_TICK (.inr rfl), tripCounted_tick]
  · cases lost
    · exact hflag
    · exact hflag
  · rw [fld_tripRaised lost s TCK_STATUS_QUALITY 0 (.inl (by decide)) (by decide) (by decide)]
    unfold tripSafe
    rw [fld_setFld_apart _ TCK_STATUS_ALIGNED TCK_STATUS_QUALITY]
    exact fld_setFld_of_lt _ 0 (by decide) (by decide)
  · rw [fld_tripRaised lost s TCK_STATUS_ALIGNED 0 (.inl (by decide)) (by decide) (by decide)]
    exact fld_setFld_same _ TCK_STATUS_ALIGNED 0 0 0 0 (by unfold Field.good; decide)
  · have hkey : CHG_MODE_MODE.key g 0 0 = 0xC00000 + 0x4000 * g := by simp [Field.key, CHG_MODE_MODE]
    obtain ⟨x, hx⟩ : ∃ x, tripStatus (tripCounted lost s) = x := ⟨_, rfl⟩
    have hfar : farFromDram (CHG_MODE_MODE.key g 0 0) := by
      unfold farFromDram
      omega
    have hne : CHG_MODE_MODE.key g 0 0 ≠ TCK_STATUS_ALIGNED.key 0 0 0 := by
      rw [hkey]
      simp only [Field.key, TCK_STATUS_ALIGNED]
      omega
    refine (fld_tripRaised lost s CHG_MODE_MODE g hfar (by omega) (by simp only [PWR_STATUS_STATE]; omega)).trans ?_
    rw [hx]
    refine (onlyRegs.fld_elsewhere (onlyRegs_trans (onlyRegs_setFld (enterAllSafe (List.range 128) x) TCK_STATUS_QUALITY 2 0 0 0)
      (onlyRegs_setFld _ TCK_STATUS_ALIGNED 0 0 0 0)) CHG_MODE_MODE g 0 0 (fun hin => hne (List.mem_singleton.mp hin))).trans ?_
    exact enterAllSafe_mode (List.mem_range.mpr hg) x

/-! ### The freeze (R642, R643) -/

theorem emberCheck_pwr (s : State) : (emberCheck s).pwr = s.pwr := by
  rcases emberCheck_cases s with h | h | h <;> rw [h]
  · rfl
  · unfold stopEmber
    rw [(setEmber_onlySends false _).1]
    rfl

theorem freezeSource : sourceRange 0x000 = some ⟨0x000, 0x002, 3, true, false⟩ := by decide

/-- The freeze is noted and counted, and no slew goes on. -/
def freezeNoted (s : State) : State := ((s.setFld CLK_MON_FROZE 1).addFld CLK_MON_FREEZES 1).setFld CLK_STATUS_SWITCHING 0

/-- The device is frozen and its time saved. -/
def frozenState (s : State) : State :=
  saveTime (suspendStep ((freezeNoted s).modPwr (fun x => { x with frozen := true, stopped := true, kindle := true })))

theorem freezeDevice_eq (s : State) : freezeDevice s = emberCheck (raise 0x000 0 (frozenState s)) := rfl

theorem frozenState_pwr (s : State) : (frozenState s).pwr = { s.pwr with frozen := true, stopped := true, kindle := true } :=
  onlyRegs_pwr (suspendStep_onlyRegs ((freezeNoted s).modPwr (fun x => { x with frozen := true, stopped := true, kindle := true })))

theorem freezeDevice_pwr (s : State) : (freezeDevice s).pwr = { s.pwr with frozen := true, stopped := true, kindle := true } := by
  rw [freezeDevice_eq, emberCheck_pwr, raise_pwr freezeSource rfl (by decide), frozenState_pwr]

theorem freezeDevice_dark (s : State) : (freezeDevice s).dark = true := by
  unfold State.dark
  rw [freezeDevice_pwr]
  rfl

theorem freezeDevice_ember (s : State) : (freezeDevice s).fld FLT_STATUS_EMBER_RUN = 0 := by
  rw [freezeDevice_eq, emberCheck_stop]
  · exact stopEmber_run _
  · unfold State.emberMay
    rw [raise_pwr freezeSource rfl (by decide), frozenState_pwr]
    simp

/-- A register of the clock monitor after the freeze. -/
theorem fld_freezeDevice (s : State) (F : Field) (h1 : F.s1 = 0) (hF : F.off = 0x300010) (hkey : F.key 0 0 0 = 0x300010) :
    (freezeDevice s).fld F = (freezeNoted s).fld F := by
  have hsaved : (frozenState s).fld F = (suspendStep ((freezeNoted s).modPwr (fun x => { x with frozen := true, stopped := true, kindle := true }))).fld F := rfl
  rw [freezeDevice_eq, fld_emberCheck _ h1 (.inl (by rw [hF]; decide)), fld_raise_between freezeSource rfl (by decide) _ _ F 0 (by omega) (by omega),
    hsaved, fld_suspendStep _ F 0 (by rw [hkey]; decide), modPwr_fld]

theorem freezeNoted_froze (s : State) : (freezeNoted s).fld CLK_MON_FROZE = 1 := by
  unfold freezeNoted
  rw [fld_setFld_apart _ CLK_STATUS_SWITCHING CLK_MON_FROZE]
  exact (fld_setFld_apart _ CLK_MON_FREEZES CLK_MON_FROZE _).trans (fld_setFld_of_lt s 0 (by decide) (by decide))

theorem freezeNoted_freezes (s : State) : (freezeNoted s).fld CLK_MON_FREEZES = (s.fld CLK_MON_FREEZES + 1) % 2 ^ 16 := by
  unfold freezeNoted
  rw [fld_setFld_apart _ CLK_STATUS_SWITCHING CLK_MON_FREEZES, fld_addFld _ CLK_MON_FREEZES 1 0 0 0, fld_setFld_apart s CLK_MON_FROZE CLK_MON_FREEZES]
  rfl

/-- A trip in the kindling state without a kindling clock freezes the device. -/
theorem trip_freezes (hfrozen : s.pwr.frozen = false) (hroot : s.fld CLK_STATUS_ROOT = 3) :
    ∃ t, exec (.clockMonitorTrip true) s = .next t ∧ t.pwr.frozen = true ∧ t.dark = true ∧ t.fld CLK_MON_FREEZES = (s.fld CLK_MON_FREEZES + 1) % 2 ^ 16 := by
  have hexec : exec (.clockMonitorTrip true) s = .next (freezeDevice s) := by
    have hexec : exec (.clockMonitorTrip true) s = execClockMonitorTrip true s := rfl
    rw [hexec, execClockMonitorTrip, if_neg (by simp [hfrozen]), hroot]
    rfl
  refine ⟨_, hexec, by rw [freezeDevice_pwr], freezeDevice_dark s, ?_⟩
  rw [fld_freezeDevice s CLK_MON_FREEZES rfl rfl rfl, freezeNoted_freezes]

theorem trip_frozen (hfrozen : s.pwr.frozen = true) : exec (.clockMonitorTrip lost) s = .next s := by
  have hexec : exec (.clockMonitorTrip lost) s = execClockMonitorTrip lost s := rfl
  rw [hexec, execClockMonitorTrip, if_pos hfrozen]

theorem freeze_freezes (hroot : s.fld CLK_STATUS_ROOT = 2) (hready : s.fld CLK_STATUS_KINDLE_READY = 0) (hfrozen : s.pwr.frozen = false) :
    ∃ t, exec .freeze s = .next t ∧ t.pwr.frozen = true ∧ t.fld CLK_MON_FROZE = 1 ∧ t.fld FLT_STATUS_EMBER_RUN = 0 ∧
      t.fld CLK_MON_FREEZES = (s.fld CLK_MON_FREEZES + 1) % 2 ^ 16 := by
  have hexec : exec .freeze s = .next (freezeDevice s) := if_pos ⟨hroot, by simp [on_of_zero hready], by simp [hfrozen]⟩
  refine ⟨_, hexec, by rw [freezeDevice_pwr], ?_, freezeDevice_ember s, ?_⟩
  · rw [fld_freezeDevice s CLK_MON_FROZE rfl rfl rfl, freezeNoted_froze]
  · rw [fld_freezeDevice s CLK_MON_FREEZES rfl rfl rfl, freezeNoted_freezes]

theorem freeze_kindled (hready : s.fld CLK_STATUS_KINDLE_READY = 1) : exec .freeze s = .next s := by
  have hexec : exec .freeze s = execFreeze s := rfl
  rw [hexec, execFreeze, if_neg (by simp [on_of_one hready])]

/-! ### The pull-in (R644) -/

theorem pullInDone_resumes (aon : Nat) (hready : s.fld CLK_STATUS_KINDLE_READY = 1) (hroot : s.fld CLK_STATUS_ROOT = 2) (hfrozen : s.pwr.frozen = false) :
    ∃ t, exec (.pullInDone aon) s = .next t ∧ t.fld CLK_STATUS_ROOT = 3 ∧ t.pwr.stopped = s.pwr.stopped ∧
      t.fld PWR_STATUS_SUSPENDED = s.fld PWR_STATUS_SUSPENDED ∧ t.ramp .fixed = some ⟨.fixed, 0, 24, none, 0, 0⟩ ∧ t.fld TCK_COUNT_COUNT = s.fld TCK_COUNT_COUNT := by
  obtain ⟨x, hx⟩ : ∃ x, startRamp .fixed 0 24 none (s.setFld CLK_STATUS_ROOT 3) = x := ⟨_, rfl⟩
  have hexec : exec (.pullInDone aon) s = .next (emberCheck x) := by
    have hexec : exec (.pullInDone aon) s = execPullInDone aon s := rfl
    rw [hexec, execPullInDone, if_neg (by simp [on_of_one hready, hroot]), if_neg (by simp [hfrozen]), ← hx]
  have hstart : onlyPwr [CLK_GATE_RAMP_RAMPING.off] (s.setFld CLK_STATUS_ROOT 3) x := hx ▸ startRamp_onlyPwr .fixed 0 24 none _
  refine ⟨_, hexec, ?_, ?_, ?_, ?_, ?_⟩
  · rw [fld_emberCheck x rfl (by decide), hstart.fld CLK_STATUS_ROOT 0 (by decide)]
    exact fld_setFld_of_lt s 0 (by decide) (by decide)
  · rw [emberCheck_pwr, ← hx, startRamp_pwr]
    rfl
  · rw [fld_emberCheck x rfl (by decide), hstart.fld PWR_STATUS_SUSPENDED 0 (by decide), fld_setFld_apart s CLK_STATUS_ROOT PWR_STATUS_SUSPENDED]
  · rw [ramp_congr (emberCheck_pwr x), ← hx, ramp_startRamp_up]
  · rw [fld_emberCheck x rfl (by decide), hstart.fld TCK_COUNT_COUNT 0 (by decide), fld_setFld_apart s CLK_STATUS_ROOT TCK_COUNT_COUNT]

/-! ### The obligation -/

/-- Settles O57: a clause per lemma. -/
theorem clocksAndGates : Obligations.ClocksAndGates := by
  unfold Obligations.ClocksAndGates
  refine ⟨?gate, ?region, ?drained, ?held, ?ramps, ?select, ?selected, ?start, ?trip, ?pullIn⟩
  case gate =>
    intro m n data c s hadmits hown hblock hc hrest hheld hclosing hramp
    have h : GateWrite m n data s := ⟨hadmits, hown, hblock, hrest, hheld, hclosing, hramp⟩
    exact ⟨fun hon hoff => ⟨_, gateWrite_exec hc s, gateWrite_closes h hon hoff rfl⟩, fun hoff hon => ⟨_, gateWrite_exec hc s, gateWrite_opens h hoff hon rfl⟩⟩
  case region =>
    intro m r data c s hadmits hr hforced hc hrest hclosing
    have h : RegionWrite m r data s := ⟨hadmits, hr, hforced, hrest, hclosing⟩
    exact ⟨fun hon hoff => ⟨_, rgnGateWrite_exec hc s, rgnGateWrite_closes h hon hoff rfl⟩,
      fun hoff hon _ => ⟨_, rgnGateWrite_exec hc s, rgnGateWrite_opens h hoff hon rfl⟩⟩
  case drained => exact fun n s => ⟨gateDrained_ramps, gateDrained_waits⟩
  case held =>
    refine fun b r s hramp _ => ⟨ramp_held hramp, fun hb hstep hnext hstopped hretained hbacklog => ?_⟩
    subst hb
    exact rampEnd_fixed hramp hstep hnext hstopped hretained hbacklog
  case ramps =>
    intro b r s hramp hbranch hstopped
    refine ⟨rampStep_makes hramp hbranch hstopped, rampStep_done hramp, rampEnd_early hramp, fun d => rampEnd_continues hramp hstopped, ?_, ?_, ?_⟩
    · intro n hb hn h5 hstep hnext
      subst hb
      exact ⟨fun hnew hbit hheld => rampEnd_gate_rests hramp hstopped hn h5 hstep hnext (.inl ⟨hnew, hbit, hheld⟩),
        fun hnew hbit => rampEnd_gate_rests hramp hstopped hn h5 hstep hnext (.inr ⟨hnew, hbit⟩),
        rampEnd_gate_reopens hramp hstopped hn hstep hnext⟩
    · intro k hb hstep hnext
      subst hb
      exact rampEnd_fclk hramp hstopped hstep hnext
    · intro hb hstep hnext
      subst hb
      exact rampEnd_noc hramp hstopped hstep hnext
  case select =>
    refine fun p s h => ⟨clkRefSelect_busy h, fun hreq hselect hroot => ?_⟩
    obtain ⟨hsame, hother⟩ := clkRefSelect_root h hreq hselect hroot
    exact ⟨hsame, fun hne => ⟨_, hother hne, rfl, rfl, rfl, rfl⟩⟩
  case selected =>
    exact fun ref p s href hselect => ⟨referenceQualified_waits, referenceQualified_selects href hselect, refQualifyTimeout_fails hselect, slewDone_selected hselect⟩
  case start => exact fun s => ⟨referenceQualified_starts, slewDone_returns⟩
  case trip =>
    refine fun lost s => ⟨trip_frozen, trip_stops, fun hfrozen hroot hlost => ?_, freeze_freezes, freeze_kindled⟩
    subst hlost
    exact trip_freezes hfrozen hroot
  case pullIn => exact fun aon s => pullInDone_resumes aon

end Sys2Proof.Machine
end

section
-- One proof at a time: the memory limit of the check counts a stack for every proof that waits for another.
set_option Elab.async false
/-! O58, first part. The balls of the package (R710 to R712). -/

namespace Sys2Proof.Machine

variable {row col c g k : Nat} {b : Nat × Nat}

/-! ### The areas of the grid -/

/-- The ball lies in the area. -/
def PinArea.holds (a : PinArea) (row col : Nat) : Prop := a.row ≤ row ∧ row < a.row + a.rows ∧ a.col ≤ col ∧ col < a.col + a.cols

/-- The areas lie inside the grid; those above and below the middle rows lie between columns 33 and 42. -/
theorem pinAreas_bounds : ∀ a ∈ pinAreas, 1 ≤ a.row ∧ a.row + a.rows ≤ 75 ∧ 1 ≤ a.col ∧ a.col + a.cols ≤ 75 ∧
    (33 ≤ a.col ∧ a.col + a.cols ≤ 43 ∨ 21 ≤ a.row ∧ a.row + a.rows ≤ 55) := by decide

/-- The signals and supplies of an area fill it. -/
theorem pinAreas_filled : ∀ a ∈ pinAreas, a.order.length = a.rows * a.cols := by decide +kernel

theorem find_area_none (h : ∀ a ∈ pinAreas, ¬ a.holds row col) :
    pinAreas.find? (fun a => decide (a.row ≤ row ∧ row < a.row + a.rows ∧ a.col ≤ col ∧ col < a.col + a.cols)) = none := by
  rw [List.find?_eq_none]
  intro a ha
  have hout : ¬ (a.row ≤ row ∧ row < a.row + a.rows ∧ a.col ≤ col ∧ col < a.col + a.cols) := h a ha
  simpa using hout

/-- A ball in no area but in the grid is a channel's or the ground's. -/
theorem ballPin_channelArea (h : ∀ a ∈ pinAreas, ¬ a.holds row col) :
    ballPin row col = if 1 ≤ row ∧ row ≤ 74 ∧ 1 ≤ col ∧ col ≤ 74 then some (channelAreaPin row col) else none := by
  unfold ballPin
  rw [find_area_none h]

/-- The balls of the channel dies lie in no area. -/
theorem channelArea_free (hrow : row ≤ 20 ∨ 55 ≤ row) (hcol : col ≤ 32 ∨ 43 ≤ col) : ∀ a ∈ pinAreas, ¬ a.holds row col := by
  intro a ha
  have hbounds := pinAreas_bounds a ha
  unfold PinArea.holds
  omega

theorem ballPin_die (hrow : 1 ≤ row ∧ row ≤ 20 ∨ 55 ≤ row ∧ row ≤ 74) (hcol : 1 ≤ col ∧ col ≤ 32 ∨ 43 ≤ col ∧ col ≤ 74) :
    ballPin row col = some (channelAreaPin row col) := by
  rw [ballPin_channelArea (channelArea_free (by omega) (by omega)), if_pos (by omega)]

/-- The grid has 74 rows and 74 columns, and every ball of it carries something. -/
theorem ballPin_isSome_iff : (ballPin row col).isSome = true ↔ (1 ≤ row ∧ row ≤ 74 ∧ 1 ≤ col ∧ col ≤ 74) := by
  cases hfind : pinAreas.find? (fun a => decide (a.row ≤ row ∧ row < a.row + a.rows ∧ a.col ≤ col ∧ col < a.col + a.cols)) with
  | none =>
    unfold ballPin
    rw [hfind]
    dsimp only
    split <;> simp_all
  | some a =>
    have hmem := List.mem_of_find?_eq_some hfind
    have hin : a.row ≤ row ∧ row < a.row + a.rows ∧ a.col ≤ col ∧ col < a.col + a.cols := by
      have hdecided := List.find?_some hfind
      exact of_decide_eq_true hdecided
    have hbounds := pinAreas_bounds a hmem
    have hindex : (row - a.row) * a.cols + (col - a.col) < a.order.length := by
      rw [pinAreas_filled a hmem]
      calc (row - a.row) * a.cols + (col - a.col) < (row - a.row) * a.cols + a.cols := by omega
        _ = (row - a.row + 1) * a.cols := by rw [Nat.add_mul, Nat.one_mul]
        _ ≤ a.rows * a.cols := Nat.mul_le_mul_right _ (by omega)
    unfold ballPin
    rw [hfind]
    dsimp only
    rw [List.getElem?_eq_getElem hindex]
    simp only [Option.isSome_some, true_iff]
    omega

/-! ### The channels -/

/-- A channel's die, group and position, and where its ball lies. -/
theorem channelBall_eq (c : Nat) : channelBall c =
    ((if c / 512 < 2 then 1 else 55) + 5 * (c % 512 / 16 / 8) + c % 512 % 16 / 4, (if c / 512 % 2 = 0 then 1 else 43) + 4 * (c % 512 / 16 % 8) + c % 512 % 16 % 4) := rfl

/-- The row within a die's area, and its column, from a ball. -/
theorem channelAreaPin_eq {d y x : Nat} (hd : d < 4) (hy : y < 20) (hx : x < 32)
    (hrow : row = (if d < 2 then 1 else 55) + y) (hcol : col = (if d % 2 = 0 then 1 else 43) + x) :
    channelAreaPin row col = if y % 5 = 4 then .supply "VSS" else .channel (512 * d + 16 * (8 * (y / 5) + x / 4) + 4 * (y % 5) + x % 4) := by
  have hdie : (if 55 ≤ row then 2 else 0) + (if 43 ≤ col then 1 else 0) = d := by
    have hdcase : d = 0 ∨ d = 1 ∨ d = 2 ∨ d = 3 := by omega
    rcases hdcase with rfl | rfl | rfl | rfl <;> simp at hrow hcol <;> split <;> split <;> omega
  have hy' : row - (if 55 ≤ row then 55 else 1) = y := by split at hrow <;> split <;> omega
  have hx' : col - (if 43 ≤ col then 43 else 1) = x := by split at hcol <;> split <;> omega
  unfold channelAreaPin
  dsimp only
  rw [hdie, hy', hx']

theorem ballPin_channelBall (hc : c < 2048) : ballPin (channelBall c).1 (channelBall c).2 = some (.channel c) := by
  rw [channelBall_eq]
  dsimp only
  have hd : c / 512 < 4 := by omega
  rw [ballPin_die (by split <;> omega) (by split <;> omega),
    channelAreaPin_eq (y := 5 * (c % 512 / 16 / 8) + c % 512 % 16 / 4) (x := 4 * (c % 512 / 16 % 8) + c % 512 % 16 % 4) hd (by omega) (by omega) (by omega) (by omega),
    if_neg (by omega)]
  refine congrArg (fun n => some (PinName.channel n)) ?_
  omega

theorem ballPin_groundBalls (hg : g < 128) (hb : (groundBalls g)[k]? = some b) : ballPin b.1 b.2 = some (.supply "VSS") := by
  unfold groundBalls at hb
  rw [List.getElem?_map, Option.map_eq_some_iff] at hb
  obtain ⟨j, hj, rfl⟩ := hb
  have hj4 : j < 4 := List.mem_range.mp (List.mem_of_getElem? hj)
  rw [channelBall_eq]
  dsimp only
  have hd : 16 * g / 512 < 4 := by omega
  rw [ballPin_die (by split <;> omega) (by split <;> omega),
    channelAreaPin_eq (d := 16 * g / 512) (y := 5 * (16 * g % 512 / 16 / 8) + 4) (x := 4 * (16 * g % 512 / 16 % 8) + j) hd (by omega) (by omega) (by omega) (by omega),
    if_pos (by omega)]

end Sys2Proof.Machine
end

section
-- One proof at a time: the memory limit of the check counts a stack for every proof that waits for another.
set_option Elab.async false
/-! O58, second part. Reset of the domains, power-up and its first phases, and a fall of PWR_OK (R618 to R627, R653). -/

namespace Sys2Proof.Machine

variable {s t : State} {g i k : Nat} {keep : Bool}

/-! ### Safe states of the groups (R218) -/

/-- The register of the last driver of a channel. -/
def lastDriverKey (g i : Nat) : Nat := CHG_CHi_LAST_DRIVER.key g i 0

theorem modChan_regsKeep (s : State) (g i : Nat) (f : Chan → Chan) : regsKeep [lastDriverKey g i] s (s.modChan g i f) :=
  regsKeep_setFld (s.modGrp g (fun x => x.modChan i f)) CHG_CHi_LAST_DRIVER _ g i 0

/-- A channel whose shown driver stays off keeps the word of its last driver that a reset gives. -/
theorem modChan_last_reset {f : Chan → Chan} (hg : g < 128) (hi : i < 16) (hf : ∀ c : Chan, (f c).shown = c.shown) (hoff : ((s.grp g).chan i).shown = 3)
    (h : s.reg (lastDriverKey g i) = regReset (lastDriverKey g i)) : (s.modChan g i f).reg (lastDriverKey g i) = regReset (lastDriverKey g i) := by
  have hword : regReset (lastDriverKey g i) = 0x300 := by
    have hkey : lastDriverKey g i = channelOffset g i 0x28 := by
      simp only [lastDriverKey, Field.key, CHG_CHi_LAST_DRIVER, channelOffset]
      omega
    rw [hkey, regReset_last hg hi]
  have hshown : (((s.modGrp g (fun x => x.modChan i f)).grp g).chan i).shown = 3 := by
    rw [grp_modGrp_same, chan_modChan]
    split
    · rw [hf, hoff]
    · exact hoff
  have hmod : s.modChan g i f = (s.modGrp g (fun x => x.modChan i f)).setFld CHG_CHi_LAST_DRIVER (((s.modGrp g (fun x => x.modChan i f)).grp g).chan i).shown g i := rfl
  rw [hmod, hshown, State.setFld]
  refine (reg_setReg_same _ _ _).trans ?_
  have hreg : (s.modGrp g (fun x => x.modChan i f)).reg (lastDriverKey g i) = 0x300 := h.trans hword
  rw [lastDriverKey] at hreg
  rw [hreg, hword]
  decide

/-- One channel takes its keeper where its driver is off. -/
def keepOne (g old : Nat) (w : Word) (s : State) (i : Nat) : State :=
  if ((s.grp g).chan i).shown ≠ 3 then s
  else s.modChan g i (fun c => { c with keeper := decide (old ≠ 2) && bit w i })

theorem keepersOn_eq (g old : Nat) (s : State) : keepersOn g old s = positions.foldl (keepOne g old s.draw.1) (if old = 2 then s else s.draw.2) := rfl

theorem keepOne_regsKeep (g old : Nat) (w : Word) (s : State) (i : Nat) : regsKeep [lastDriverKey g i] s (keepOne g old w s i) := by
  unfold keepOne
  split
  · exact regsKeep_refl _ s
  · exact modChan_regsKeep s g i _

theorem keepOne_last_reset {old : Nat} {w : Word} (hg : g < 128) (hi : i < 16) (h : s.reg (lastDriverKey g i) = regReset (lastDriverKey g i)) :
    (keepOne g old w s i).reg (lastDriverKey g i) = regReset (lastDriverKey g i) := by
  unfold keepOne
  split
  · exact h
  · next hshown => exact modChan_last_reset hg hi (fun _ => rfl) (by simpa using hshown) h

theorem groupsOnly_keepOne (g old : Nat) (w : Word) (s : State) (i : Nat) : groupsOnly s (keepOne g old w s i) :=
  groupsOnly_ite (groupsOnly_refl s) (groupsOnly_modChan s g i _)

theorem keepAll_reg {old : Nat} {w : Word} (l : List Nat) (h : ∀ i ∈ l, k ≠ lastDriverKey g i) (s : State) : (l.foldl (keepOne g old w) s).reg k = s.reg k := by
  induction l generalizing s with
  | nil => rfl
  | cons i l ih => exact (ih (fun j hj => h j (.tail _ hj)) _).trans (keepOne_regsKeep g old w s i k (by simpa using h i (.head _)))

theorem keepAll_reset {old : Nat} {w : Word} (hg : g < 128) (l : List Nat) (hl : ∀ i ∈ l, i < 16) (h : s.reg k = regReset k) :
    (l.foldl (keepOne g old w) s).reg k = regReset k := by
  induction l generalizing s with
  | nil => exact h
  | cons i l ih =>
    refine ih (fun j hj => hl j (.tail _ hj)) ?_
    by_cases hk : k = lastDriverKey g i
    · rw [hk] at h ⊢
      exact keepOne_last_reset hg (hl i (.head _)) h
    · exact (keepOne_regsKeep g old w s i k (by simpa using hk)).trans h

theorem draw_start_regs (old : Nat) (s : State) : (if old = 2 then s else s.draw.2).regs = s.regs := by split <;> rfl

theorem groupsOnly_draw (s : State) : groupsOnly s s.draw.2 := rfl

theorem groupsOnly_keepersOn (g old : Nat) (s : State) : groupsOnly s (keepersOn g old s) := by
  rw [keepersOn_eq]
  exact groupsOnly_trans (groupsOnly_ite (groupsOnly_refl s) (groupsOnly_draw s)) (groupsOnly_foldl (groupsOnly_keepOne g old _) positions _)

theorem groupsOnly_setSafeState (g v : Nat) (s : State) : groupsOnly s (setSafeState g v s) := by
  unfold setSafeState
  dsimp only
  split
  · exact groupsOnly_trans (groupsOnly_setFld s CHG_SAFE_STATE v g 0 0) (groupsOnly_keepersOn g _ _)
  · exact groupsOnly_setFld s CHG_SAFE_STATE v g 0 0

/-- A register that is neither the group's safe state nor a last driver of its channels stays. -/
theorem setSafeState_reg (g v : Nat) (s : State) (hsafe : k ≠ CHG_SAFE_STATE.key g 0 0) (hlast : ∀ i, i < 16 → k ≠ lastDriverKey g i) :
    (setSafeState g v s).reg k = s.reg k := by
  have hset := reg_setFld_other s CHG_SAFE_STATE v g 0 0 k hsafe
  unfold setSafeState
  dsimp only
  split
  · rw [keepersOn_eq, keepAll_reg positions (fun i hi => hlast i (List.mem_range.mp hi)), reg_congr (draw_start_regs _ _), hset]
  · exact hset

/-- A register with its reset value keeps it, the group's safe state aside. -/
theorem setSafeState_reset (hg : g < 128) (v : Nat) (hsafe : k ≠ CHG_SAFE_STATE.key g 0 0) (h : s.reg k = regReset k) :
    (setSafeState g v s).reg k = regReset k := by
  have hset := (reg_setFld_other s CHG_SAFE_STATE v g 0 0 k hsafe).trans h
  unfold setSafeState
  dsimp only
  split
  · rw [keepersOn_eq]
    exact keepAll_reset hg positions (fun i hi => List.mem_range.mp hi) ((reg_congr (draw_start_regs _ _) k).trans hset)
  · exact hset

theorem safeState_ne_last (g j i : Nat) (_ : i < 16) : CHG_SAFE_STATE.key j 0 0 ≠ lastDriverKey g i := by
  simp only [Field.key, CHG_SAFE_STATE, lastDriverKey, CHG_CHi_LAST_DRIVER]
  omega

theorem setSafeState_same (g : Nat) {v : Nat} (hv : v < 4) (s : State) : (setSafeState g v s).fld CHG_SAFE_STATE g = v := by
  have hset : (s.setFld CHG_SAFE_STATE v g).fld CHG_SAFE_STATE g = v := fld_setFld_of_lt s g (by decide) hv
  unfold setSafeState
  dsimp only
  split
  · refine (fld_congr CHG_SAFE_STATE g 0 0 ?_).trans hset
    rw [keepersOn_eq, keepAll_reg positions (fun i hi => safeState_ne_last g g i (List.mem_range.mp hi)), reg_congr (draw_start_regs _ _)]
  · exact hset

theorem setSafeState_other {j : Nat} (hj : j ≠ g) (v : Nat) (s : State) : (setSafeState g v s).fld CHG_SAFE_STATE j = s.fld CHG_SAFE_STATE j := by
  refine fld_congr CHG_SAFE_STATE j 0 0 (setSafeState_reg g v s ?_ (fun i hi => safeState_ne_last g j i hi))
  simp only [Field.key, CHG_SAFE_STATE]
  omega

/-! ### The safe states of all groups -/

/-- The groups of a list take a safe state. -/
def setSafeStates (v : Nat) (l : List Nat) (s : State) : State := l.foldl (fun s g => setSafeState g v s) s

theorem groupsOnly_setSafeStates (v : Nat) (l : List Nat) (s : State) : groupsOnly s (setSafeStates v l s) :=
  groupsOnly_foldl (fun s g => groupsOnly_setSafeState g v s) l s

theorem setSafeStates_low (v : Nat) (l : List Nat) (s : State) (hk : k < 0xC00000) : (setSafeStates v l s).reg k = s.reg k := by
  unfold setSafeStates
  induction l generalizing s with
  | nil => rfl
  | cons g l ih =>
    refine (ih _).trans (setSafeState_reg g v s ?_ fun i _ => ?_)
    · simp only [Field.key, CHG_SAFE_STATE]
      omega
    · simp only [Field.key, lastDriverKey, CHG_CHi_LAST_DRIVER]
      omega

theorem setSafeStates_reset (v : Nat) (l : List Nat) (hl : ∀ g ∈ l, g < 128) (hk : ∀ g ∈ l, k ≠ CHG_SAFE_STATE.key g 0 0) (h : s.reg k = regReset k) :
    (setSafeStates v l s).reg k = regReset k := by
  unfold setSafeStates
  induction l generalizing s with
  | nil => exact h
  | cons g l ih =>
    exact ih (fun j hj => hl j (.tail _ hj)) (fun j hj => hk j (.tail _ hj)) (setSafeState_reset (hl g (.head _)) v (hk g (.head _)) h)

theorem setSafeStates_fld {v : Nat} (hv : v < 4) (l : List Nat) (h : g ∈ l ∨ s.fld CHG_SAFE_STATE g = v) : (setSafeStates v l s).fld CHG_SAFE_STATE g = v := by
  unfold setSafeStates
  induction l generalizing s with
  | nil => exact h.resolve_left List.not_mem_nil
  | cons j l ih =>
    refine ih ?_
    by_cases hg : g = j
    · exact .inr (hg ▸ setSafeState_same j hv s)
    · refine (h.imp_left fun hin => (List.mem_cons.mp hin).resolve_left hg).imp_right fun hv' => ?_
      exact (setSafeState_other hg v s).trans hv'

/-! ### Reset of the domains (R622, R653) -/

theorem setEmber_reg (v : Bool) (s : State) (hk : k ≠ FLT_STATUS_EMBER.off) : (setEmber v s).reg k = s.reg k :=
  (setEmber_onlySends v s).2 k (by simpa using hk)

theorem resetDomains_reg (s : State) (k : Nat) : (resetDomains s).reg k = if k ∈ alwaysOnRegs then s.reg k else regReset k := by
  have hfilter := Memory.get_filter regReset (fun j => alwaysOnRegs.contains j) k (setEmber false s).regs
  have hreg : (resetDomains s).reg k = if alwaysOnRegs.contains k = true then (setEmber false s).reg k else regReset k := hfilter
  rw [hreg]
  simp only [List.contains_iff_mem]
  split
  · next hk =>
    refine setEmber_reg false s fun hember => ?_
    rw [hember] at hk
    exact absurd hk (by decide)
  · rfl

theorem alwaysOnRegs_low (hk : k ∈ alwaysOnRegs) : k < 0xC00000 := by
  have hall : ∀ j ∈ alwaysOnRegs, j < 0xC00000 := by decide
  exact hall k hk

theorem resetDomains_fuses (s : State) : (resetDomains s).cfg.fuses = s.cfg.fuses := by
  have hcfg : (setEmber false s).cfg = s.cfg := by rw [(setEmber_onlySends false s).1]
  have hfuses : (resetDomains s).cfg.fuses = (setEmber false s).cfg.fuses := rfl
  rw [hfuses, hcfg]

theorem resetDomains_nva (s : State) {w : Nat} (hw : w < 2 ^ 24) : (resetDomains s).pword (nvaKey w) = s.pword (nvaKey w) := by
  have hfilter := Memory.get_filter memDefault (fun j => decide (j / 16777216 = 7)) (nvaKey w) (setEmber false s).mem
  have hmem : (setEmber false s).mem = s.mem := by rw [(setEmber_onlySends false s).1]
  have hclass : nvaKey w / 16777216 = 7 := by
    simp only [nvaKey, memKey]
    omega
  refine hfilter.trans ?_
  rw [if_pos (by simpa using hclass), hmem]
  rfl

theorem resetDomains_pwr (s : State) :
    (resetDomains s).pwr = { PwrState.reset with coreEn := s.pwr.coreEn, pwrOk := s.pwr.pwrOk, wakeLow := s.pwr.wakeLow } := by
  have hpwr : (setEmber false s).pwr = s.pwr := by rw [(setEmber_onlySends false s).1]
  unfold resetDomains
  dsimp only
  rw [hpwr]

theorem resetDomains_saved (s : State) : (resetDomains s).tck = { TckState.reset with saved := s.tck.saved } := by
  have htck : (setEmber false s).tck = s.tck := by rw [(setEmber_onlySends false s).1]
  unfold resetDomains
  dsimp only
  rw [htck]

/-! ### Power-up (R385, R620, R621) -/

theorem aonPowerOn_resets (s : State) :
    ∃ t, exec .aonPowerOn s = .next t ∧ t.pwr = PwrState.reset ∧ t.regs = [] ∧ t.ctx = State.reset.ctx ∧
      t.out.head? = some (.coreEn false) ∧ (∀ w, w < 2 ^ 24 → t.pword (nvaKey w) = s.pword (nvaKey w)) ∧ t.cfg.fuses = s.cfg.fuses :=
  ⟨_, rfl, rfl, rfl, rfl, rfl, fun _ hw => resetDomains_nva s hw, resetDomains_fuses s⟩

theorem coreEnHigh_raises (hlow : s.pwr.coreEn = false) (hpower : s.power ≠ 3) :
    exec .coreEnHigh s = .next { s with out := .coreEn true :: s.out, pwr := { s.pwr with coreEn := true } } := if_neg (by simp [hlow, hpower])

/-- The domains in phase P0, before the safe states are chosen. -/
def poweredOn (s : State) : State := (resetDomains s).modPwr (fun x => { x with pwrOk := true, phase := .p0, kindle := true })

theorem powerOn_starts (hoff : s.pwr.pwrOk = false) (keep : Bool) :
    exec (.powerOn keep) s = .next ((setSafeStates (bnat keep) (List.range 128) (poweredOn s)).emit (.doneN true)) := if_neg (by simp [hoff])

theorem bnat_lt_four (b : Bool) : bnat b < 4 := by cases b <;> decide

theorem powerOn_resets (hoff : s.pwr.pwrOk = false) (keep : Bool) :
    ∃ t, exec (.powerOn keep) s = .next t ∧ (∀ g, g < 128 → t.fld CHG_SAFE_STATE g = bnat keep) ∧ t.pwr.phase = .p0 ∧ t.pwr.pwrOk = true ∧ t.pwr.kindle = true ∧
      (∀ k, k ∉ alwaysOnRegs → (∀ g, g < 128 → k ≠ CHG_SAFE_STATE.key g 0 0) → t.reg k = regReset k) ∧
      (∀ k ∈ alwaysOnRegs, t.reg k = s.reg k) ∧ t.out.head? = some (.doneN true) := by
  have hpwr : ((setSafeStates (bnat keep) (List.range 128) (poweredOn s)).emit (.doneN true)).pwr = (poweredOn s).pwr := (groupsOnly_setSafeStates _ _ _).pwr
  have hreset (k : Nat) : (poweredOn s).reg k = if k ∈ alwaysOnRegs then s.reg k else regReset k := resetDomains_reg s k
  refine ⟨_, powerOn_starts hoff keep, fun g hg => setSafeStates_fld (bnat_lt_four keep) _ (.inl (List.mem_range.mpr hg)), by rw [hpwr]; rfl, by rw [hpwr]; rfl,
    by rw [hpwr]; rfl, fun k hk hsafe => ?_, fun k hk => ?_, rfl⟩
  · exact setSafeStates_reset _ _ (fun g hg => List.mem_range.mp hg) (fun g hg => hsafe g (List.mem_range.mp hg)) ((hreset k).trans (if_neg hk))
  · exact (setSafeStates_low _ _ _ (alwaysOnRegs_low hk)).trans ((hreset k).trans (if_pos hk))

theorem powerOn_on (hon : s.pwr.pwrOk = true) (keep : Bool) : exec (.powerOn keep) s = .next s := if_pos hon

/-! ### A fall of PWR_OK (R622) -/

theorem pwrOkFall_resets (hon : s.pwr.pwrOk = true) (hpower : s.power ≠ 3) :
    ∃ t, exec .pwrOkFall s = .next t ∧ t.pwr.pwrOk = false ∧ t.pwr.phase = .off ∧ t.tck.saved = none ∧
      (∀ k, k ∉ alwaysOnRegs → t.reg k = regReset k) ∧ (∀ k ∈ alwaysOnRegs, t.reg k = s.reg k) ∧ t.out.head? = some (.doneN true) := by
  have hexec : exec .pwrOkFall s = .next (({ (resetDomains s).modPwr (fun x => { x with pwrOk := false }) with
      tck := { (resetDomains s).tck with saved := none } } : State).emit (.doneN true)) := (if_neg (by simp [hon])).trans (if_neg hpower)
  exact ⟨_, hexec, rfl, rfl, rfl, fun k hk => (resetDomains_reg s k).trans (if_neg hk), fun k hk => (resetDomains_reg s k).trans (if_pos hk), rfl⟩

theorem pwrOkFall_off (hoff : s.pwr.pwrOk = false) : exec .pwrOkFall s = .next s := if_pos (by simp [hoff])

/-! ### The kindling oscillator is ready (R626) -/

/-- The straps of the reference, the boot source and the safe state of SAFE_KEEP are latched. -/
def strapsLatched (boot : Nat) (ref keep : Bool) (s : State) : State :=
  let s := (s.setFld CLK_STATUS_REF_SEL (bnat ref)).setFld CLK_STATUS_REF (bnat ref)
  let s := { s.setFld CFG_STATUS_BOOT_SRC boot with cfg := { s.cfg with safeKeep := keep } }
  s.setFld CFG_CTL_GOLDEN_EN (if boot = 0 ∨ boot = 3 then 1 else 0)

theorem latchStraps_eq (boot : Nat) (ref keep : Bool) (s : State) : latchStraps boot ref keep s = setSafeStates (bnat keep) (List.range 128) (strapsLatched boot ref keep s) := rfl

/-- A field of the clock status after the straps. -/
theorem strapsLatched_clk (boot : Nat) (ref keep : Bool) (s : State) (F : Field) (hF : F.key 0 0 0 = 0x300008) :
    (strapsLatched boot ref keep s).fld F = ((s.setFld CLK_STATUS_REF_SEL (bnat ref)).setFld CLK_STATUS_REF (bnat ref)).fld F :=
  (fld_setFld_elsewhere _ CFG_CTL_GOLDEN_EN F _ (by rw [hF]; decide)).trans (fld_setFld_elsewhere _ CFG_STATUS_BOOT_SRC F _ (by rw [hF]; decide))

theorem strapsLatched_boot {boot : Nat} (hboot : boot < 4) (ref keep : Bool) (s : State) : (strapsLatched boot ref keep s).fld CFG_STATUS_BOOT_SRC = boot :=
  (fld_setFld_apart _ CFG_CTL_GOLDEN_EN CFG_STATUS_BOOT_SRC _).trans (fld_setFld_of_lt _ 0 (by decide) hboot)

theorem strapsLatched_golden (boot : Nat) (ref keep : Bool) (s : State) :
    (strapsLatched boot ref keep s).fld CFG_CTL_GOLDEN_EN = if boot = 0 ∨ boot = 3 then 1 else 0 :=
  fld_setFld_of_lt _ 0 (by decide) (by split <;> decide)

theorem kindlingReady_latches {boot : Fin 4} {ref keep : Bool} (hkindle : s.pwr.kindle = true) (hphase : s.pwr.phase = .p0) :
    ∃ t, exec (.kindlingReady boot ref keep) s = .next t ∧ t.pwr.phase = .p1 ∧ t.fld CLK_STATUS_KINDLE_READY = 1 ∧
      t.fld CLK_STATUS_REF_SEL = bnat ref ∧ t.fld CFG_STATUS_BOOT_SRC = boot.val ∧ t.fld CFG_CTL_GOLDEN_EN = (if boot.val = 0 ∨ boot.val = 3 then 1 else 0) ∧ t.cfg.safeKeep = keep ∧
      (∀ g, g < 128 → t.fld CHG_SAFE_STATE g = bnat keep) := by
  obtain ⟨x, hx⟩ : ∃ x, strapsLatched boot ref keep (s.setFld CLK_STATUS_KINDLE_READY 1) = x := ⟨_, rfl⟩
  have hexec : exec (.kindlingReady boot ref keep) s = .next ((setSafeStates (bnat keep) (List.range 128) x).modPwr (fun y => { y with phase := .p1 })) := by
    have hexec : exec (.kindlingReady boot ref keep) s = execKindlingReady boot ref keep s := rfl
    rw [hexec, execKindlingReady, if_neg (by simp [hkindle])]
    refine (if_pos hphase).trans ?_
    rw [latchStraps_eq, hx]
  have hlow (F : Field) (hF : F.key 0 0 0 < 0xC00000) : ((setSafeStates (bnat keep) (List.range 128) x).modPwr (fun y => { y with phase := .p1 })).fld F = x.fld F :=
    fld_congr F 0 0 0 (setSafeStates_low _ _ x hF)
  have hcfg : (setSafeStates (bnat keep) (List.range 128) x).cfg = x.cfg := (groupsOnly_setSafeStates _ _ x).cfg
  refine ⟨_, hexec, rfl, ?_, ?_, ?_, ?_, ?_, fun g hg => setSafeStates_fld (bnat_lt_four keep) _ (.inl (List.mem_range.mpr hg))⟩
  · rw [hlow CLK_STATUS_KINDLE_READY (by decide), ← hx, strapsLatched_clk _ _ _ _ CLK_STATUS_KINDLE_READY rfl,
      fld_setFld_apart _ CLK_STATUS_REF CLK_STATUS_KINDLE_READY, fld_setFld_apart _ CLK_STATUS_REF_SEL CLK_STATUS_KINDLE_READY]
    exact fld_setFld_of_lt s 0 (by decide) (by decide)
  · rw [hlow CLK_STATUS_REF_SEL (by decide), ← hx, strapsLatched_clk _ _ _ _ CLK_STATUS_REF_SEL rfl, fld_setFld_apart _ CLK_STATUS_REF CLK_STATUS_REF_SEL]
    exact fld_setFld_of_lt _ 0 (by decide) (by cases ref <;> decide)
  · rw [hlow CFG_STATUS_BOOT_SRC (by decide), ← hx, strapsLatched_boot boot.isLt]
  · rw [hlow CFG_CTL_GOLDEN_EN (by decide), ← hx, strapsLatched_golden]
  · refine (congrArg CfgState.safeKeep hcfg).trans ?_
    rw [← hx]
    rfl

theorem kindlingReady_up {boot : Fin 4} {ref keep : Bool} (hkindle : s.pwr.kindle = true) (hphase : s.pwr.phase = .up) :
    ∃ t, exec (.kindlingReady boot ref keep) s = .next t ∧ t.fld CLK_STATUS_KINDLE_READY = 1 ∧ onlyRegs [CLK_STATUS_ROOT.off] s t := by
  have hexec : exec (.kindlingReady boot ref keep) s = .next (s.setFld CLK_STATUS_KINDLE_READY 1) := by
    have hexec : exec (.kindlingReady boot ref keep) s = execKindlingReady boot ref keep s := rfl
    rw [hexec, execKindlingReady, if_neg (by simp [hkindle])]
    refine if_neg ?_
    rw [setFld_pwr, hphase]
    decide
  exact ⟨_, hexec, fld_setFld_of_lt s 0 (by decide) (by decide), onlyRegs_setFld s CLK_STATUS_KINDLE_READY 1 0 0 0⟩

/-! ### COLD begins (R648, C1) -/

theorem coldDelayExpire_enters (hdelay : s.pwr.coldDelay = true) (hstopped : s.pwr.stopped = false) :
    ∃ t, exec .coldDelayExpire s = .next t ∧ t.power = 3 ∧ t.pwr.coreEn = false ∧
      t.tck.saved = some (s.fld TCK_AON_COUNT, s.tck.phase, s.tickCount, s.deviceTime, s.curN) ∧ t.fld FLT_STATUS_EMBER = 0 ∧
      (∃ l, t.out = .coreEn false :: .doneN true :: l) ∧ (∀ k ∈ alwaysOnRegs, t.reg k = s.reg k) := by
  have hexec : exec .coldDelayExpire s = .next (((((resetDomains (saveTime s)).modPwr (fun x => { x with coreEn := false })).setFld PWR_STATUS_STATE 3).emit
      (.doneN true)).emit (.coreEn false)) := if_neg (by simp [hdelay, hstopped])
  obtain ⟨x, hx⟩ : ∃ x, (resetDomains (saveTime s)).modPwr (fun x => { x with coreEn := false }) = x := ⟨_, rfl⟩
  have hreg (k : Nat) : x.reg k = if k ∈ alwaysOnRegs then s.reg k else regReset k := hx ▸ resetDomains_reg (saveTime s) k
  have hsaved : x.tck.saved = some (s.fld TCK_AON_COUNT, s.tck.phase, s.tickCount, s.deviceTime, s.curN) := by
    have htck : x.tck = (resetDomains (saveTime s)).tck := hx ▸ rfl
    rw [htck, resetDomains_saved]
    rfl
  rw [hx] at hexec
  refine ⟨_, hexec, fld_setFld_of_lt x 0 (by decide) (by decide), ?_, hsaved, ?_, ⟨_, rfl⟩, fun k hk => ?_⟩
  · exact hx ▸ rfl
  · refine (fld_setFld_apart x PWR_STATUS_STATE FLT_STATUS_EMBER 3).trans ?_
    unfold State.fld
    rw [hreg, if_neg (by decide)]
    decide +kernel
  · refine (reg_setFld_other x PWR_STATUS_STATE 3 0 0 0 k ?_).trans ((hreg k).trans (if_pos hk))
    rintro rfl
    exact absurd hk (by decide)

end Sys2Proof.Machine
end

section
-- One proof at a time: the memory limit of the check counts a stack for every proof that waits for another.
set_option Elab.async false
/-! O58, third part. The root locks, the hearth is ready, requests for a power state, and the core voltage (R385, R627, R654 to R659). -/

namespace Sys2Proof.Machine

variable {s t x : State} {p : Packet} {r : PwrReq}

/-! ### ROOT_LOCK and HEARTH_INIT_DONE (R385, R627) -/

/-- The domains have changed to the root. -/
def rootLocked (s : State) : State := restKindling ((s.setFld CLK_STATUS_ROOT 1).modPwr (fun x => { x with phase := .p3 }))

theorem restKindling_phase (s : State) : (restKindling s).pwr.phase = s.pwr.phase := by
  unfold restKindling
  split <;> rfl

theorem restKindling_mem (s : State) : (restKindling s).mem = s.mem := by
  unfold restKindling
  split <;> rfl

theorem restKindling_tck (s : State) : (restKindling s).tck = s.tck := by
  unfold restKindling
  split <;> rfl

theorem startRamp_phase (b : Branch) (old new : Nat) (next : Option Nat) (s : State) : (startRamp b old new next s).pwr.phase = s.pwr.phase := by
  rw [startRamp_pwr]
  rfl

theorem wakeAdvance_first {aon : Nat} (h : s.tck.saved = none) : wakeAdvance aon s = s.setFld TCK_AON_COUNT aon := by
  unfold wakeAdvance
  rw [h]

theorem startRamp_tck (b : Branch) (old new : Nat) (next : Option Nat) (s : State) : (startRamp b old new next s).tck = s.tck := by
  rw [(startRamp_onlyPwr b old new next s).1]

theorem startRamp_mem (b : Branch) (old new : Nat) (next : Option Nat) (s : State) : (startRamp b old new next s).mem = s.mem := by
  rw [(startRamp_onlyPwr b old new next s).1]

theorem rootLock_starts (aon : Nat) (hphase : s.pwr.phase = .p2) (hsaved : s.tck.saved = none) (hkeep : s.fld CLK_CTL_KINDLE_KEEP = 0) :
    ∃ t, exec (.rootLock aon) s = .next t ∧ t.pwr.phase = .p3 ∧ t.fld CLK_STATUS_ROOT = 1 ∧ t.fld CLK_STATUS_KINDLE_READY = 0 ∧
      t.pwr.kindle = false ∧ t.fld TCK_COUNT_COUNT = s.fld TCK_COUNT_COUNT ∧ t.mem = s.mem := by
  obtain ⟨y, hy⟩ : ∃ y, (s.setFld CLK_STATUS_ROOT 1).modPwr (fun x => { x with phase := .p3 }) = y := ⟨_, rfl⟩
  have hyfld (F : Field) : y.fld F = (s.setFld CLK_STATUS_ROOT 1).fld F := hy ▸ rfl
  have hykeep : y.fld CLK_CTL_KINDLE_KEEP = 0 := by rw [hyfld, fld_setFld_apart s CLK_STATUS_ROOT CLK_CTL_KINDLE_KEEP, hkeep]
  obtain ⟨hkindle, hready⟩ := restKindling_stops hykeep
  obtain ⟨x, hx⟩ : ∃ x, startRamp .fixed 96 0 (some 24) (restKindling y) = x := ⟨_, rfl⟩
  have hstart : onlyPwr [CLK_GATE_RAMP_RAMPING.off] (restKindling y) x := hx ▸ startRamp_onlyPwr .fixed 96 0 (some 24) _
  have hxpwr : x.pwr = ((restKindling y).setRamp .fixed (some ⟨.fixed, 96, 0, some 24, 0, rampEdges 96 0 0⟩)).pwr := hx ▸ startRamp_pwr _ _ _ _ _
  have hxsaved : x.tck.saved = none := by
    rw [← hx, startRamp_tck, restKindling_tck, ← hy]
    exact hsaved
  have hexec : exec (.rootLock aon) s = .next (x.setFld TCK_AON_COUNT aon) := by
    have hexec : exec (.rootLock aon) s = execRootLock aon s := rfl
    rw [hexec, execRootLock, if_neg (by simp [hphase])]
    dsimp only
    rw [hy, hx, wakeAdvance_first hxsaved]
  refine ⟨_, hexec, ?_, ?_, ?_, ?_, ?_, ?_⟩
  · rw [setFld_pwr, ← hx, startRamp_phase, restKindling_phase, ← hy]
    rfl
  · rw [fld_setFld_apart x TCK_AON_COUNT CLK_STATUS_ROOT, hstart.fld CLK_STATUS_ROOT 0 (by decide), fld_restKindling y CLK_STATUS_ROOT, hyfld]
    exact fld_setFld_of_lt s 0 (by decide) (by decide)
  · rw [fld_setFld_apart x TCK_AON_COUNT CLK_STATUS_KINDLE_READY, hstart.fld CLK_STATUS_KINDLE_READY 0 (by decide), hready]
  · rw [setFld_pwr, hxpwr]
    exact hkindle
  · rw [fld_setFld_apart x TCK_AON_COUNT TCK_COUNT_COUNT, hstart.fld TCK_COUNT_COUNT 0 (by decide), fld_restKindling y TCK_COUNT_COUNT, hyfld,
      fld_setFld_apart s CLK_STATUS_ROOT TCK_COUNT_COUNT]
  · rw [setFld_mem, ← hx, startRamp_mem, restKindling_mem, ← hy]
    rfl

/-- The start of a load leaves what the hearth shows of its readiness. -/
theorem beginLoad_keeps (l : Load) (s : State) : (beginLoad l s).pwr = s.pwr ∧ (beginLoad l s).pcie = s.pcie ∧
    (beginLoad l s).reg HC_STATUS_READY.off = s.reg HC_STATUS_READY.off := by
  have hregs : (beginLoad l s).regs = (((s.setFld CFG_PROGRESS_FRAMES 0).setFld CFG_PROGRESS_BYTES 0).setFld CFG_STATUS_FULL (bnat (!l.part))).regs := by
    unfold beginLoad
    dsimp only
    split <;> split <;> rfl
  refine ⟨?_, ?_, (reg_congr hregs _).trans ?_⟩
  · unfold beginLoad
    dsimp only
    split <;> split <;> rfl
  · unfold beginLoad
    dsimp only
    split <;> split <;> rfl
  · rw [reg_setFld_other _ CFG_STATUS_FULL _ 0 0 0 _ (by decide), reg_setFld_other _ CFG_PROGRESS_BYTES _ 0 0 0 _ (by decide),
      reg_setFld_other _ CFG_PROGRESS_FRAMES _ 0 0 0 _ (by decide)]

theorem bootLoad_keeps (s : State) : (bootLoad s).pwr = s.pwr ∧ (bootLoad s).pcie = s.pcie ∧
    (bootLoad s).reg HC_STATUS_READY.off = s.reg HC_STATUS_READY.off := by
  unfold bootLoad
  split
  · exact beginLoad_keeps _ s
  · exact ⟨rfl, rfl, rfl⟩
  · exact beginLoad_keeps _ s
  · exact beginLoad_keeps _ _

theorem emberCheck_pcie (s : State) : (emberCheck s).pcie = s.pcie := by
  rcases emberCheck_cases s with h | h | h <;> rw [h]
  · rfl
  · unfold stopEmber
    rw [(setEmber_onlySends false _).1]
    rfl

/-- The hearth shows that it is ready. -/
def hearthReady (s : State) : State :=
  ({ s.setFld HC_STATUS_READY 1 with pcie := { s.pcie with ready := true } } : State).modPwr (fun x => { x with phase := .up })

theorem hearthInitDone_ready (dram : List Bool) (hphase : s.pwr.phase = .p3) :
    ∃ t, exec (.hearthInitDone dram) s = .next t ∧ t.pwr.phase = .up ∧ t.fld HC_STATUS_READY = 1 ∧ t.pcie.ready = true := by
  obtain ⟨x, hexec⟩ : ∃ x, exec (.hearthInitDone dram) s = .next (emberCheck (bootLoad (hearthReady x))) := ⟨_, if_neg (by simp [hphase])⟩
  obtain ⟨hpwr, hpcie, hreg⟩ := bootLoad_keeps (hearthReady x)
  refine ⟨_, hexec, ?_, ?_, ?_⟩
  · rw [emberCheck_pwr, hpwr]
    rfl
  · rw [fld_emberCheck _ rfl (by decide), fld_congr HC_STATUS_READY 0 0 0 hreg]
    exact fld_setFld_of_lt x 0 (by decide) (by decide)
  · rw [emberCheck_pcie, hpcie]
    rfl

/-! ### Requests (R647, R658, R659) -/

theorem power_congr (h : t.fld PWR_STATUS_STATE = s.fld PWR_STATUS_STATE) : t.power = s.power := h

theorem power_beginCommand (p : Packet) (s : State) : (beginCommand p s).power = s.power :=
  fld_beginCommand p s PWR_STATUS_STATE 0 0 0 (by decide) (by decide)

theorem replyReq_ok (p : Packet) (d : Nat) (s : State) : replyReq ⟨some p, d⟩ .ok s = endCommand p .ok [BitVec.ofNat 64 s.power, s.pwr.stepTick] s := rfl

theorem pwrState_asks (h : s.accepts 0x0201 1 .owner p) :
    exec (.pwrState p) s = .next (askPower ⟨some p, bits (p.w 1) 0 2⟩ (beginCommand p s)) := by
  have hexec : exec (.pwrState p) s = .next (runCommand 0x0201 1 .owner p (askPower ⟨some p, bits (p.w 1) 0 2⟩) s) := rfl
  rw [hexec, runCommand_passes h]

/-- A request that finds no other starts. -/
theorem askPower_free (hreq : s.pwr.req = none) (hslot : s.pwr.slot = none) : askPower r s = startRequest r s := by
  refine if_pos ?_
  rw [hreq, hslot]
  exact ⟨rfl, rfl⟩

/-- A request that finds one in progress and a free slot waits there. -/
theorem askPower_waits (hreq : s.pwr.req.isSome = true) (hslot : s.pwr.slot = none) : askPower r s = setSlot (some r) s := by
  unfold askPower
  rw [if_neg (by simp [Option.isNone_iff_eq_none, Option.ne_none_iff_isSome.mpr hreq]), hslot]

/-- A request that finds the slot taken takes its place. -/
theorem askPower_replaces {old : PwrReq} (hslot : s.pwr.slot = some old) :
    askPower r s = setSlot (some r) (replyReq old .superseded (s.addFld PWR_COUNTS_SUPERSEDED 1)) := by
  unfold askPower
  rw [hslot]
  exact if_neg (by simp)

/-- The request that a state change begins. -/
def requested (r : PwrReq) (s : State) : State := (s.setFld PWR_STATUS_TARGET r.target).modPwr (fun x => { x with req := some r })

theorem startRequest_steps (h : r.target ≠ s.power) : startRequest r s = scheduleStep (stepFrom s.power r.target) (requested r s) := if_neg h

theorem requested_power (r : PwrReq) (s : State) : (requested r s).power = s.power := fld_setFld_apart s PWR_STATUS_TARGET PWR_STATUS_STATE r.target

theorem requested_target {r : PwrReq} (hr : r.target < 4) (s : State) : (requested r s).fld PWR_STATUS_TARGET = r.target :=
  fld_setFld_of_lt s 0 (by decide) hr

theorem requested_nextDue (r : PwrReq) (s : State) : (requested r s).nextDue = s.nextDue :=
  nextDue_congr (reg_setFld_other s PWR_STATUS_TARGET r.target 0 0 0 _ (by decide)) rfl

theorem scheduleStep_nextStep (code : Nat) (s : State) : (scheduleStep code s).pwr.nextStep = some (code, s.nextDue) := rfl

theorem pwrState_there (h : s.accepts 0x0201 1 .owner p) (hreq : s.pwr.req = none) (hslot : s.pwr.slot = none) (htarget : bits (p.w 1) 0 2 = s.power) :
    exec (.pwrState p) s = .next (endCommand p .ok [BitVec.ofNat 64 s.power, s.pwr.stepTick] (beginCommand p s)) := by
  have hpower := power_beginCommand p s
  rw [pwrState_asks h, askPower_free (by rw [beginCommand_pwr, hreq]) (by rw [beginCommand_pwr, hslot])]
  refine congrArg _ ((if_pos (by rw [hpower]; exact htarget)).trans ?_)
  rw [replyReq_ok, hpower, beginCommand_pwr]

theorem pwrState_begins (h : s.accepts 0x0201 1 .owner p) (hreq : s.pwr.req = none) (hslot : s.pwr.slot = none) (htarget : bits (p.w 1) 0 2 ≠ s.power) :
    ∃ t, exec (.pwrState p) s = .next t ∧ t.pwr.req = some ⟨some p, bits (p.w 1) 0 2⟩ ∧ t.fld PWR_STATUS_TARGET = bits (p.w 1) 0 2 ∧
      t.power = s.power ∧ t.pwr.nextStep = some (stepFrom s.power (bits (p.w 1) 0 2), s.nextDue) ∧ t.out = (beginCommand p s).out := by
  have hpower := power_beginCommand p s
  have hexec : exec (.pwrState p) s = .next (scheduleStep (stepFrom s.power (bits (p.w 1) 0 2)) (requested ⟨some p, bits (p.w 1) 0 2⟩ (beginCommand p s))) := by
    rw [pwrState_asks h, askPower_free (by rw [beginCommand_pwr, hreq]) (by rw [beginCommand_pwr, hslot]), startRequest_steps (by rw [hpower]; exact htarget), hpower]
  refine ⟨_, hexec, rfl, requested_target (bits_lt _ _ _) _, (requested_power _ _).trans hpower, ?_, rfl⟩
  rw [scheduleStep_nextStep, requested_nextDue, nextDue_beginCommand]

theorem setSlot_eq (r : PwrReq) (s : State) : setSlot (some r) s =
    ((s.modPwr (fun x => { x with slot := some r })).setFld PWR_STATUS_PENDING 1).setFld PWR_STATUS_PENDING_STATE r.target := rfl

theorem pwrState_waits (h : s.accepts 0x0201 1 .owner p) (hreq : s.pwr.req.isSome = true) (hslot : s.pwr.slot = none) :
    ∃ t, exec (.pwrState p) s = .next t ∧ t.pwr.slot = some ⟨some p, bits (p.w 1) 0 2⟩ ∧ t.pwr.req = s.pwr.req ∧
      t.fld PWR_STATUS_PENDING = 1 ∧ t.fld PWR_STATUS_PENDING_STATE = bits (p.w 1) 0 2 ∧ t.power = s.power := by
  have hexec : exec (.pwrState p) s = .next (setSlot (some ⟨some p, bits (p.w 1) 0 2⟩) (beginCommand p s)) := by
    rw [pwrState_asks h, askPower_waits (by rw [beginCommand_pwr]; exact hreq) (by rw [beginCommand_pwr, hslot])]
  rw [setSlot_eq] at hexec
  obtain ⟨x, hx⟩ : ∃ x, (beginCommand p s).modPwr (fun x => { x with slot := some ⟨some p, bits (p.w 1) 0 2⟩ }) = x := ⟨_, rfl⟩
  have hxpwr : x.pwr.slot = some ⟨some p, bits (p.w 1) 0 2⟩ ∧ x.pwr.req = s.pwr.req := by
    rw [← hx, modPwr_pwr, beginCommand_pwr]
    exact ⟨rfl, rfl⟩
  have hxpower : x.power = s.power := by
    rw [← hx]
    exact power_beginCommand p s
  rw [hx] at hexec
  refine ⟨_, hexec, hxpwr.1, hxpwr.2, ?_, fld_setFld_of_lt _ 0 (by decide) (bits_lt _ _ _), ?_⟩
  · exact (fld_setFld_apart _ PWR_STATUS_PENDING_STATE PWR_STATUS_PENDING _).trans (fld_setFld_of_lt x 0 (by decide) (by decide))
  · exact ((fld_setFld_apart _ PWR_STATUS_PENDING_STATE PWR_STATUS_STATE _).trans (fld_setFld_apart x PWR_STATUS_PENDING PWR_STATUS_STATE _)).trans hxpower

theorem pwrState_supersedes {old : Packet} {d : Nat} (h : s.accepts 0x0201 1 .owner p) (hslot : s.pwr.slot = some ⟨some old, d⟩) :
    ∃ u, exec (.pwrState p) s = .next (setSlot (some ⟨some p, bits (p.w 1) 0 2⟩) (endCommand old .superseded [] u)) ∧
      u.fld PWR_COUNTS_SUPERSEDED = (s.fld PWR_COUNTS_SUPERSEDED + 1) % 2 ^ 16 := by
  refine ⟨(beginCommand p s).addFld PWR_COUNTS_SUPERSEDED 1, ?_, ?_⟩
  · rw [pwrState_asks h, askPower_replaces (old := ⟨some old, d⟩) (by rw [beginCommand_pwr, hslot])]
    rfl
  · rw [fld_addFld _ PWR_COUNTS_SUPERSEDED 1 0 0 0, fld_beginCommand p s PWR_COUNTS_SUPERSEDED 0 0 0 (by decide) (by decide)]
    rfl

/-! ### The core voltage (R654 to R657) -/

theorem avsReadback_failed (s : State) :
    ∃ t, exec (.avsReadback none) s = .next t ∧ t.fld PWR_AVS_AVS_ERR = 1 ∧ onlyRegs [PWR_AVS_READ_MV.off] s t :=
  ⟨_, rfl, fld_setFld_of_lt s 0 (by decide) (by decide), onlyRegs_setFld s PWR_AVS_AVS_ERR 1 0 0 0⟩

/-- The voltage that was read. -/
def voltageRead (mv : Nat) (s : State) : State := s.setFld PWR_AVS_READ_MV mv

theorem voltageRead_mv {mv : Nat} (h : mv < 2 ^ 16) (s : State) : (voltageRead mv s).fld PWR_AVS_READ_MV = mv := fld_setFld_of_lt s 0 (by decide) h

theorem voltageRead_target (mv : Nat) (s : State) : (voltageRead mv s).fld PWR_AVS_TARGET_MV = s.fld PWR_AVS_TARGET_MV :=
  fld_setFld_apart s PWR_AVS_READ_MV PWR_AVS_TARGET_MV mv

theorem voltageRead_step (mv : Nat) (s : State) : (voltageRead mv s).fld PWR_STATUS_STEP = s.fld PWR_STATUS_STEP :=
  fld_setFld_apart s PWR_AVS_READ_MV PWR_STATUS_STEP mv

/-- The voltage has been reached. -/
def voltageReached (mv : Nat) (s : State) : State := (voltageRead mv s).modPwr (fun x => { x with avs := none })

theorem avsReadback_reads {mv : Nat} {raised : Bool} (havs : s.pwr.avs = some raised) : exec (.avsReadback (some mv)) s =
    if mv + 10 < s.fld PWR_AVS_TARGET_MV ∨ s.fld PWR_AVS_TARGET_MV + 10 < mv then .next (voltageRead mv s)
    else .next (if raised = true ∧ s.fld PWR_STATUS_STEP = 6 then startRamp .noc 24 6 none (voltageReached mv s) else voltageReached mv s) := by
  have hexec : exec (.avsReadback (some mv)) s = execAvsReadback (some mv) s := rfl
  have hstep : (voltageReached mv s).fld PWR_STATUS_STEP = s.fld PWR_STATUS_STEP := voltageRead_step mv s
  rw [hexec, execAvsReadback, ← voltageRead_target mv s, ← hstep]
  have hread : (voltageRead mv s).pwr.avs = some raised := havs
  dsimp only
  rw [← voltageRead, hread]
  rfl

theorem avsReadback_away {mv : Nat} (hmv : mv < 2 ^ 16) (havs : s.pwr.avs.isSome = true) (haway : mv + 10 < s.fld PWR_AVS_TARGET_MV ∨ s.fld PWR_AVS_TARGET_MV + 10 < mv) :
    ∃ t, exec (.avsReadback (some mv)) s = .next t ∧ t.pwr = s.pwr ∧ t.fld PWR_AVS_READ_MV = mv := by
  obtain ⟨raised, havs⟩ := Option.isSome_iff_exists.mp havs
  exact ⟨_, (avsReadback_reads havs).trans (if_pos haway), rfl, voltageRead_mv hmv s⟩

theorem avsReadback_lowered {mv : Nat} (hmv : mv < 2 ^ 16) (havs : s.pwr.avs = some false) (hlo : s.fld PWR_AVS_TARGET_MV ≤ mv + 10)
    (hhi : mv ≤ s.fld PWR_AVS_TARGET_MV + 10) :
    ∃ t, exec (.avsReadback (some mv)) s = .next t ∧ t.pwr = { s.pwr with avs := none } ∧ t.fld PWR_AVS_READ_MV = mv ∧
      onlyRegs [PWR_AVS_READ_MV.off] { s with pwr := t.pwr } t := by
  have hexec : exec (.avsReadback (some mv)) s = .next (voltageReached mv s) := by
    rw [avsReadback_reads havs, if_neg (by omega), if_neg (by simp)]
  exact ⟨_, hexec, rfl, voltageRead_mv hmv s, onlyPwr_trans (onlyRegs_setFld s PWR_AVS_READ_MV mv 0 0 0).onlyPwr (onlyPwr_mono (by simp) (modPwr_onlyPwr _ _))⟩

theorem avsReadback_raised {mv : Nat} (havs : s.pwr.avs = some true) (hstep : s.fld PWR_STATUS_STEP = 6) (hlo : s.fld PWR_AVS_TARGET_MV ≤ mv + 10)
    (hhi : mv ≤ s.fld PWR_AVS_TARGET_MV + 10) :
    ∃ t, exec (.avsReadback (some mv)) s = .next t ∧ t.pwr.avs = none ∧ t.ramp .noc = some ⟨.noc, 24, 6, none, 0, 4⟩ := by
  have hexec : exec (.avsReadback (some mv)) s = .next (startRamp .noc 24 6 none (voltageReached mv s)) := by
    rw [avsReadback_reads havs, if_neg (by omega), if_pos ⟨rfl, hstep⟩]
  have hedges : rampEdges 24 6 0 = 4 := by decide
  refine ⟨_, hexec, ?_, ?_⟩
  · rw [startRamp_pwr]
    rfl
  · rw [ramp_startRamp, hedges]

/-- The error of a voltage that was not reached, counted. -/
def voltageMissed (s : State) : State := (s.setFld PWR_AVS_AVS_ERR 1).addFld PWR_COUNTS_AVS_ERRORS 1

theorem voltageMissed_fld (s : State) (F : Field) (hF : F.key 0 0 0 ≠ 0x301030 ∨ F.lo + F.w ≤ 48) (hF' : F.key 0 0 0 ≠ 0x301010 ∨ F.lo + F.w ≤ 48) :
    (voltageMissed s).fld F = s.fld F := by
  refine (fld_setFld_other _ PWR_COUNTS_AVS_ERRORS F _ 0 0 0 0 0 0 (by unfold Field.good; decide) ?_).trans
    (fld_setFld_other s PWR_AVS_AVS_ERR F 1 0 0 0 0 0 0 (by unfold Field.good; decide) ?_)
  · exact hF.imp_right Or.inl
  · exact hF'.imp_right Or.inl

theorem voltageMissed_err (s : State) : (voltageMissed s).fld PWR_AVS_AVS_ERR = 1 :=
  (fld_setFld_apart _ PWR_COUNTS_AVS_ERRORS PWR_AVS_AVS_ERR _).trans (fld_setFld_of_lt s 0 (by decide) (by decide))

theorem voltageMissed_count (s : State) : (voltageMissed s).fld PWR_COUNTS_AVS_ERRORS = (s.fld PWR_COUNTS_AVS_ERRORS + 1) % 2 ^ 16 := by
  unfold voltageMissed
  rw [fld_addFld _ PWR_COUNTS_AVS_ERRORS 1 0 0 0, fld_setFld_apart s PWR_AVS_AVS_ERR PWR_COUNTS_AVS_ERRORS]
  rfl

theorem voltageSource : sourceRange 0x004 = some ⟨0x003, 0x004, 1, false, false⟩ := by decide

/-- The event of a voltage that was not reached, and the end of the wait. -/
def voltageGivenUp (s : State) : State :=
  (raise 0x004 (s.fld PWR_AVS_TARGET_MV + 65536 * s.fld PWR_AVS_READ_MV) (voltageMissed s)).modPwr (fun x => { x with avs := none })

theorem voltageGivenUp_fld (s : State) (F : Field) (hlo : 0x210000 ≤ F.key 0 0 0) (hhi : F.key 0 0 0 < 0x1820000) :
    (voltageGivenUp s).fld F = (voltageMissed s).fld F := fld_raise_between voltageSource rfl (by decide) _ _ F 0 hlo hhi

theorem voltageGivenUp_pwr (s : State) : (voltageGivenUp s).pwr = { s.pwr with avs := none } := by
  unfold voltageGivenUp
  rw [modPwr_pwr, raise_pwr voltageSource rfl (by decide)]
  rfl

theorem avsTimeout_gives {raised : Bool} (havs : s.pwr.avs = some raised) : exec .avsTimeout s =
    .next (if raised = true ∧ s.fld PWR_STATUS_STEP = 6 then endTransition .failed (voltageGivenUp s) else voltageGivenUp s) := by
  have hexec : exec .avsTimeout s = execAvsTimeout s := rfl
  have hstep : (voltageGivenUp s).fld PWR_STATUS_STEP = s.fld PWR_STATUS_STEP :=
    (voltageGivenUp_fld s PWR_STATUS_STEP (by decide) (by decide)).trans (voltageMissed_fld s PWR_STATUS_STEP (.inl (by decide)) (.inl (by decide)))
  have htarget : (voltageMissed s).fld PWR_AVS_TARGET_MV = s.fld PWR_AVS_TARGET_MV := voltageMissed_fld s PWR_AVS_TARGET_MV (.inl (by decide)) (.inr (by decide))
  have hread : (voltageMissed s).fld PWR_AVS_READ_MV = s.fld PWR_AVS_READ_MV := voltageMissed_fld s PWR_AVS_READ_MV (.inl (by decide)) (.inr (by decide))
  rw [← hstep]
  unfold voltageGivenUp
  rw [← htarget, ← hread, hexec, execAvsTimeout, havs]
  rfl

theorem avsTimeout_lowered (havs : s.pwr.avs = some false) :
    ∃ t u, exec .avsTimeout s = .next t ∧ t.pwr = { s.pwr with avs := none } ∧ t.power = s.power ∧ t.fld PWR_AVS_AVS_ERR = 1 ∧
      t.fld PWR_COUNTS_AVS_ERRORS = (s.fld PWR_COUNTS_AVS_ERRORS + 1) % 2 ^ 16 ∧
      t.flt = (raise 0x004 (s.fld PWR_AVS_TARGET_MV + 65536 * s.fld PWR_AVS_READ_MV) u).flt ∧ u.flt = s.flt := by
  have hexec : exec .avsTimeout s = .next (voltageGivenUp s) := by
    rw [avsTimeout_gives havs, if_neg (by simp)]
  refine ⟨_, voltageMissed s, hexec, voltageGivenUp_pwr s, ?_, ?_, ?_, rfl, rfl⟩
  · exact (voltageGivenUp_fld s PWR_STATUS_STATE (by decide) (by decide)).trans (voltageMissed_fld s PWR_STATUS_STATE (.inl (by decide)) (.inl (by decide)))
  · rw [voltageGivenUp_fld s PWR_AVS_AVS_ERR (by decide) (by decide), voltageMissed_err]
  · rw [voltageGivenUp_fld s PWR_COUNTS_AVS_ERRORS (by decide) (by decide), voltageMissed_count]

/-! ### The end of a transition (R648) -/

/-- The transition has ended, before its reply. -/
def transitionEnded (s : State) : State := (s.setFld PWR_STATUS_STEP 0).modPwr (fun x => { x with req := none })

/-- A transition that a command asked for ends with its reply, and no request waits. -/
theorem endTransition_replies {d : Nat} {st : Rs} (hreq : s.pwr.req = some ⟨some p, d⟩) (hslot : s.pwr.slot = none) :
    endTransition st s = endCommand p st (if st = .ok then [BitVec.ofNat 64 (transitionEnded s).power, s.pwr.stepTick] else []) (transitionEnded s) := by
  have hafter : (endCommand p st (if st = .ok then [BitVec.ofNat 64 (transitionEnded s).power, s.pwr.stepTick] else []) (transitionEnded s)).pwr = (transitionEnded s).pwr := by
    rw [(replied_endCommand p st _ (transitionEnded s)).1]
  have hnone : ¬ (endCommand p st (if st = .ok then [BitVec.ofNat 64 (transitionEnded s).power, s.pwr.stepTick] else []) (transitionEnded s)).pwr.slot.isSome = true := by
    rw [hafter]
    have hkept : (transitionEnded s).pwr.slot = none := hslot
    simp [hkept]
  have hfirst : (s.setFld PWR_STATUS_STEP 0).pwr.req = some ⟨some p, d⟩ := hreq
  unfold endTransition
  dsimp only
  rw [hfirst]
  exact if_neg hnone

theorem avsTimeout_fails {d : Nat} (havs : s.pwr.avs = some true) (hstep : s.fld PWR_STATUS_STEP = 6) (hreq : s.pwr.req = some ⟨some p, d⟩) (hslot : s.pwr.slot = none) :
    ∃ u, exec .avsTimeout s = .next (endCommand p .failed [] u) ∧ u.power = s.power ∧ u.fld PWR_STATUS_STEP = 0 ∧ u.pwr.req = none := by
  refine ⟨transitionEnded (voltageGivenUp s), ?_, ?_, ?_, rfl⟩
  · rw [avsTimeout_gives havs, if_pos ⟨rfl, hstep⟩, endTransition_replies (d := d) (by rw [voltageGivenUp_pwr]; exact hreq) (by rw [voltageGivenUp_pwr]; exact hslot), if_neg (by decide)]
  · refine (fld_setFld_apart (voltageGivenUp s) PWR_STATUS_STEP PWR_STATUS_STATE 0).trans ?_
    exact (voltageGivenUp_fld s PWR_STATUS_STATE (by decide) (by decide)).trans (voltageMissed_fld s PWR_STATUS_STATE (.inl (by decide)) (.inl (by decide)))
  · exact fld_setFld_same (voltageGivenUp s) PWR_STATUS_STEP 0 0 0 0 (by unfold Field.good; decide)

end Sys2Proof.Machine
end

section
-- One proof at a time: the memory limit of the check counts a stack for every proof that waits for another.
set_option Elab.async false
/-! O58, fourth part. The steps of a transition and their ends, and the cut of the jobs in step B1 (R648, R649). -/

namespace Sys2Proof.Machine

variable {s t u x : State} {p : Packet} {n k e : Nat}

/-! ### Work that leaves the power state, the tick and their registers -/

/-- The registers of the power state and of the tick. -/
def powerTickKey (k : Nat) : Prop := 0x301000 ≤ k ∧ k < 0x302000 ∨ 0x400000 ≤ k ∧ k < 0x500000

/-- The power state, the tick and the registers of both stay. -/
def powerTick (s t : State) : Prop := t.pwr = s.pwr ∧ t.tck = s.tck ∧ ∀ k, powerTickKey k → t.reg k = s.reg k

theorem powerTick_refl (s : State) : powerTick s s := ⟨rfl, rfl, fun _ _ => rfl⟩

theorem powerTick_trans (h : powerTick s t) (h' : powerTick t u) : powerTick s u :=
  ⟨h'.1.trans h.1, h'.2.1.trans h.2.1, fun k hk => (h'.2.2 k hk).trans (h.2.2 k hk)⟩

theorem powerTick_of_onlyRegs {l : List Nat} (h : onlyRegs l s t) (hl : ∀ k ∈ l, ¬ powerTickKey k) : powerTick s t :=
  ⟨onlyRegs_pwr h, onlyRegs_tck h, fun k hk => h.2 k fun hin => hl k hin hk⟩

theorem powerTick_setFld (s : State) (F : Field) (v i : Nat) (h : ¬ powerTickKey (F.key i 0 0)) : powerTick s (s.setFld F v i) :=
  powerTick_of_onlyRegs (onlyRegs_setFld s F v i 0 0) (by simpa using h)

theorem powerTick_setFbit (s : State) (F : Field) (b : Nat) (v : Bool) (h : ¬ powerTickKey (F.key 0 0 0)) : powerTick s (s.setFbit F b v) :=
  powerTick_of_onlyRegs (onlyRegs_setFbit s F b v 0 0 0) (by simpa using h)

theorem powerTick_foldl {α : Type} {f : State → α → State} (l : List α) (h : ∀ s, ∀ a ∈ l, powerTick s (f s a)) (s : State) : powerTick s (l.foldl f s) := by
  induction l generalizing s with
  | nil => exact powerTick_refl s
  | cons a l ih => exact powerTick_trans (h s a (.head _)) (ih (fun s b hb => h s b (.tail _ hb)) _)

theorem powerTick_groups (h : groupsOnly s t) (hreg : ∀ k, k < 0x601000 → t.reg k = s.reg k) : powerTick s t :=
  ⟨h.pwr, h.tck, fun k hk => hreg k (by unfold powerTickKey at hk; omega)⟩

theorem powerTick_replied (h : replied s t) : powerTick s t :=
  ⟨by rw [h.1], by rw [h.1], fun k hk => h.2 k (by unfold powerTickKey at hk; omega) (by unfold powerTickKey at hk; omega)⟩

theorem powerTick.nextDue (h : powerTick s t) : t.nextDue = s.nextDue := nextDue_congr (h.2.2 _ (by unfold powerTickKey; decide)) h.2.1

/-! ### A region that is cleared (R410, R650) -/

theorem powerTick_clearContents (r : Nat) (s : State) : powerTick s (clearContents r s) := ⟨rfl, rfl, fun _ _ => rfl⟩

theorem powerTick_endRegistration (r : Nat) (s : State) : powerTick s (endRegistration r s) := by
  have hcopies : powerTick s { s with cfg := { s.cfg with copies := s.cfg.copies.filter (fun c => decide (c.1 ≠ r)) } } := ⟨rfl, rfl, fun _ _ => rfl⟩
  have hsource (x : State) : powerTick x (x.setFld CFG_RGNr_STATUS_SOURCE 0 r) := powerTick_setFld x CFG_RGNr_STATUS_SOURCE 0 r (by
    simp only [powerTickKey, Field.key, CFG_RGNr_STATUS_SOURCE]
    omega)
  unfold endRegistration
  dsimp only
  split
  · exact powerTick_trans (powerTick_trans hcopies (hsource _)) (powerTick_setFbit _ SWP_SIG_SRC_REGIONS r false (by unfold powerTickKey; decide))
  · exact powerTick_trans (powerTick_trans hcopies (hsource _)) (powerTick_setFld _ SWP_SIG_SRC_STATIC_STATIC 0 0 (by unfold powerTickKey; decide))

theorem powerTick_setDamper (r v : Nat) (s : State) : powerTick s (setDamper r v s) := by
  refine powerTick_of_onlyRegs (setDamper_onlyRegs r v s) fun k hk => ?_
  rcases List.mem_cons.mp hk with rfl | hk
  · simp only [powerTickKey, Field.key, CFG_RGNr_STATUS_DAMPER]
    omega
  · obtain ⟨q, -, rfl⟩ := List.mem_map.mp hk
    simp only [powerTickKey, Field.key, NOC_EPe_STATUS_DAMPER]
    omega

theorem powerTick_followTarget (r : Nat) (s : State) : powerTick s (followTarget r s) := by
  unfold followTarget
  split
  · exact powerTick_groups (groupsOnly_followRegion r s) fun k hk => followRegion_reg_low r s hk
  · exact powerTick_refl s

theorem powerTick_dampersDone (r : Nat) (s : State) : powerTick s (dampersDone r s) := by
  unfold dampersDone
  exact powerTick_trans ⟨rfl, rfl, fun _ _ => rfl⟩ (powerTick_foldl _ (fun x d _ => powerTick_replied (replied_endCommand d.cmd .ok _ x)) _)

theorem regionStatus_apart (lo w r : Nat) : ¬ powerTickKey (Field.key ⟨0x501008, 0x20, 0, 0, lo, w⟩ r 0 0) := by
  simp only [powerTickKey, Field.key]
  omega

theorem powerTick_clearTarget (r : Nat) (s : State) : powerTick s (clearTarget r s) := by
  have hended : powerTick s (endRegistration r (clearContents r s)) := powerTick_trans (powerTick_clearContents r s) (powerTick_endRegistration r _)
  have hstate : powerTick s ((setDamper r dmShut (endRegistration r (clearContents r s))).setFld CFG_RGNr_STATUS_STATE stCleared r) :=
    powerTick_trans (powerTick_trans hended (powerTick_setDamper r dmShut _)) (powerTick_setFld _ CFG_RGNr_STATUS_STATE stCleared r (regionStatus_apart _ _ r))
  have hholding := powerTick_trans hstate (powerTick_setFld _ CFG_RGNr_STATUS_HOLDING 1 r (regionStatus_apart _ _ r))
  unfold clearTarget
  refine powerTick_trans ?_ (powerTick_dampersDone r _)
  refine powerTick_trans ?_ (powerTick_followTarget r _)
  split
  · exact powerTick_trans hholding (powerTick_setFbit _ CLK_RGN_GATE_GATE r false (by unfold powerTickKey; decide))
  · exact hholding

/-! ### The end of B2 (R648 to R651) -/

theorem powerTick_powerDownLane (n : Nat) (s : State) : powerTick s (powerDownLane n s) := by
  obtain ⟨hrest, hkeep⟩ := powerDownLane_lanesOnly n s
  refine ⟨by rw [hrest], by rw [hrest], fun k hk => hkeep k ?_⟩
  simp only [powerTickKey] at hk
  simp only [lockKeys, Field.key, LNK_LANEn_RXSTAT_CTLE, LNK_LANEn_ERR_ERRORS, List.mem_cons, List.not_mem_nil, or_false]
  omega

/-- Isolation and retention are engaged. -/
def isolate (s : State) : State := s.modPwr (fun x => { x with isolated := true, retained := true })

theorem powerTick_clearTargets (l : List Nat) (s : State) : powerTick s (l.foldl (fun s r => clearTarget r s) s) :=
  powerTick_foldl l (fun x r _ => powerTick_clearTarget r x) s

theorem powerTick_oscillatorsOff (l : List Nat) (hl : ∀ k ∈ l, k < 4) (s : State) : powerTick s (l.foldl (fun s k => s.setFld CLK_UOSCk_READY 0 k) s) := by
  refine powerTick_foldl l (fun x k hk => powerTick_setFld x CLK_UOSCk_READY 0 k ?_) s
  have hk4 := hl k hk
  simp only [powerTickKey, Field.key, CLK_UOSCk_READY]
  omega

theorem powerTick_lanesDown (l : List Nat) (s : State) : powerTick s (l.foldl (fun s i => powerDownLane (32 + i) s) s) :=
  powerTick_foldl l (fun x i _ => powerTick_powerDownLane (32 + i) x) s

theorem powerTick_newLap (k : Nat) (s : State) : powerTick s (newLap k s) := ⟨rfl, rfl, fun _ _ => rfl⟩

theorem powerTick_sweepNext (s : State) : powerTick s { s with cfg := { s.cfg with sweepNext := 0 } } := ⟨rfl, rfl, fun _ _ => rfl⟩

theorem powerTick_newLaps (l : List Nat) (s : State) : powerTick s (l.foldl (fun s k => newLap k s) s) :=
  powerTick_foldl l (fun x k _ => powerTick_newLap k x) s

/-- The regions are cleared, the oscillators and lanes off, and the sweep's laps of the retained classes begin anew. -/
def blocksRetained (s : State) : State :=
  let s := (List.range 64).foldl (fun s r => clearTarget r s) ((isolate s).setFld CLK_RGN_CLOSING_CLOSING 0)
  let s := (List.range 4).foldl (fun s k => s.setFld CLK_UOSCk_READY 0 k) s
  let s := (List.range 64).foldl (fun s i => powerDownLane (32 + i) s) s
  retainedClasses.foldl (fun s k => newLap k s) s

theorem stepB2End_eq (s : State) : stepB2End s = { blocksRetained s with cfg := { (blocksRetained s).cfg with sweepNext := 0 } } := by
  unfold stepB2End blocksRetained isolate
  with_reducible rfl

theorem powerTick_blocksRetained (s : State) : powerTick (isolate s) (blocksRetained s) := by
  have hclosing := powerTick_setFld (isolate s) CLK_RGN_CLOSING_CLOSING 0 0 (by unfold powerTickKey; decide)
  have hcleared := powerTick_trans hclosing (powerTick_clearTargets (List.range 64) _)
  have hoff := powerTick_trans hcleared (powerTick_oscillatorsOff (List.range 4) (fun _ hk => List.mem_range.mp hk) _)
  have hdown := powerTick_trans hoff (powerTick_lanesDown (List.range 64) _)
  have hlaps := powerTick_trans hdown (powerTick_newLaps retainedClasses _)
  exact hlaps

theorem powerTick_stepB2End (s : State) : powerTick (isolate s) (stepB2End s) := by
  rw [stepB2End_eq]
  exact powerTick_trans (powerTick_blocksRetained s) (powerTick_sweepNext (blocksRetained s))

/-! ### The end of a step (R648) -/

/-- A step that has ended. -/
def stepCleared (s : State) : State := s.setFld PWR_STATUS_STEP 0

theorem stepCleared_step (s : State) : (stepCleared s).fld PWR_STATUS_STEP = 0 := fld_setFld_of_lt s 0 (by decide) (by decide)

theorem stepCleared_power (s : State) : (stepCleared s).power = s.power := fld_setFld_apart s PWR_STATUS_STEP PWR_STATUS_STATE 0

theorem stepCleared_nextDue (s : State) : (stepCleared s).nextDue = s.nextDue := nextDue_congr (reg_setFld_other s PWR_STATUS_STEP 0 0 0 0 _ (by decide)) rfl

/-- A step that has ended where it leads to a new state. -/
def stateReached (v : Nat) (s : State) : State := (stepCleared s).setFld PWR_STATUS_STATE v

theorem stateReached_power {v : Nat} (hv : v < 4) (s : State) : (stateReached v s).power = v := fld_setFld_of_lt _ 0 (by decide) hv

theorem stateReached_target (v : Nat) (s : State) : (stateReached v s).fld PWR_STATUS_TARGET = s.fld PWR_STATUS_TARGET :=
  (fld_setFld_apart _ PWR_STATUS_STATE PWR_STATUS_TARGET v).trans (fld_setFld_apart s PWR_STATUS_STEP PWR_STATUS_TARGET 0)

theorem stateReached_step (v : Nat) (s : State) : (stateReached v s).fld PWR_STATUS_STEP = 0 :=
  (fld_setFld_apart _ PWR_STATUS_STATE PWR_STATUS_STEP v).trans (stepCleared_step s)

theorem stateReached_nextDue (v : Nat) (s : State) : (stateReached v s).nextDue = s.nextDue :=
  (nextDue_congr (reg_setFld_other _ PWR_STATUS_STATE v 0 0 0 _ (by decide)) rfl).trans (stepCleared_nextDue s)

theorem powerStepEnd_waits (h : stepDone (s.fld PWR_STATUS_STEP) s = false) : exec .powerStepEnd s = .next s := if_pos (.inr (by simp [h]))

/-- A step other than B2 that meets its end condition ends. -/
theorem powerStepEnd_ends {code : Nat} (hstopped : s.pwr.stopped = false) (hcode : s.fld PWR_STATUS_STEP = code) (hdone : stepDone code s = true)
    (hne : code ≠ 3) : exec .powerStepEnd s = .next (afterStep code s) := by
  have hexec : exec .powerStepEnd s = execPowerStepEnd s := rfl
  rw [hexec, execPowerStepEnd, hcode]
  exact (if_neg (by simp [hstopped, hdone])).trans (if_neg hne)

/-- The last step of a transition that reaches its target: the command is answered. -/
theorem powerStepEnd_arrives (hstopped : s.pwr.stopped = false) (hcode : s.fld PWR_STATUS_STEP = 1) (hdone : stepDone 1 s = true)
    (htarget : s.fld PWR_STATUS_TARGET = 1) (hreq : s.pwr.req = some ⟨some p, 1⟩) (hslot : s.pwr.slot = none) :
    ∃ u, exec .powerStepEnd s = .next (endCommand p .ok [1, s.pwr.stepTick] u) ∧ u.power = 1 ∧ u.fld PWR_STATUS_STEP = 0 ∧ u.pwr.req = none ∧
      u.fld PWR_COUNTS_TRANSITIONS = (s.fld PWR_COUNTS_TRANSITIONS + 1) % 2 ^ 16 := by
  obtain ⟨x, hx⟩ : ∃ x, (stateReached 1 s).addFld PWR_COUNTS_TRANSITIONS 1 = x := ⟨_, rfl⟩
  have hxfld (F : Field) (hF : F.key 0 0 0 = 0x301008) : x.fld F = (stateReached 1 s).fld F := by
    rw [← hx]
    exact fld_addFld_elsewhere _ PWR_COUNTS_TRANSITIONS F 1 (by rw [hF]; decide)
  have hafter : afterStep 1 s = endTransition .ok x := by
    have hif : afterStep 1 s = if (stateReached 1 s).power = (stateReached 1 s).fld PWR_STATUS_TARGET then endTransition .ok ((stateReached 1 s).addFld PWR_COUNTS_TRANSITIONS 1)
      else scheduleStep (stepFrom (stateReached 1 s).power ((stateReached 1 s).fld PWR_STATUS_TARGET)) (stateReached 1 s) := rfl
    rw [hif, if_pos (by rw [stateReached_power (by decide), stateReached_target, htarget]), hx]
  have hpower : (transitionEnded x).power = 1 :=
    (fld_setFld_apart x PWR_STATUS_STEP PWR_STATUS_STATE 0).trans ((hxfld PWR_STATUS_STATE rfl).trans (stateReached_power (by decide) s))
  have hxpwr : x.pwr = s.pwr := by
    rw [← hx]
    rfl
  refine ⟨transitionEnded x, ?_, hpower, fld_setFld_of_lt x 0 (by decide) (by decide), rfl, ?_⟩
  · rw [powerStepEnd_ends hstopped hcode hdone (by decide), hafter, endTransition_replies (d := 1) (by rw [hxpwr, hreq]) (by rw [hxpwr, hslot]), if_pos rfl, hpower, hxpwr]
    rfl
  · refine (fld_setFld_apart x PWR_STATUS_STEP PWR_COUNTS_TRANSITIONS 0).trans ?_
    rw [← hx, fld_addFld _ PWR_COUNTS_TRANSITIONS 1 0 0 0]
    have hcount : (stateReached 1 s).fld PWR_COUNTS_TRANSITIONS = s.fld PWR_COUNTS_TRANSITIONS :=
      (fld_setFld_apart _ PWR_STATUS_STATE PWR_COUNTS_TRANSITIONS 1).trans (fld_setFld_apart s PWR_STATUS_STEP PWR_COUNTS_TRANSITIONS 0)
    rw [hcount]
    rfl

theorem powerStepEnd_jobsOver (hstopped : s.pwr.stopped = false) (hcode : s.fld PWR_STATUS_STEP = 2) (hdone : stepDone 2 s = true) :
    ∃ t, exec .powerStepEnd s = .next t ∧ t.pwr.nextStep = some (3, s.nextDue) ∧ t.fld PWR_STATUS_STEP = 0 ∧ t.power = s.power := by
  have hexec : exec .powerStepEnd s = .next (scheduleStep 3 (stepCleared s)) := powerStepEnd_ends hstopped hcode hdone (by decide)
  refine ⟨_, hexec, ?_, stepCleared_step s, stepCleared_power s⟩
  rw [scheduleStep_nextStep, stepCleared_nextDue]

theorem powerStepEnd_slowed (hstopped : s.pwr.stopped = false) (hcode : s.fld PWR_STATUS_STEP = 4) (hdone : stepDone 4 s = true)
    (htarget : s.fld PWR_STATUS_TARGET = 3) : ∃ t, exec .powerStepEnd s = .next t ∧ t.power = 2 ∧ t.pwr.nextStep = some (5, s.nextDue) := by
  have hafter : afterStep 4 s = scheduleStep 5 (stateReached 2 s) := by
    have hif : afterStep 4 s = if (stateReached 2 s).power = (stateReached 2 s).fld PWR_STATUS_TARGET then endTransition .ok ((stateReached 2 s).addFld PWR_COUNTS_TRANSITIONS 1)
      else scheduleStep (stepFrom (stateReached 2 s).power ((stateReached 2 s).fld PWR_STATUS_TARGET)) (stateReached 2 s) := rfl
    rw [hif, stateReached_power (by decide), stateReached_target, htarget, if_neg (by decide)]
    rfl
  have hexec : exec .powerStepEnd s = .next (scheduleStep 5 (stateReached 2 s)) := (powerStepEnd_ends hstopped hcode hdone (by decide)).trans (congrArg _ hafter)
  refine ⟨_, hexec, stateReached_power (by decide) s, ?_⟩
  rw [scheduleStep_nextStep, stateReached_nextDue]

/-! ### The gates of B2 (R649) -/

theorem powerStepEnd_gates (hstopped : s.pwr.stopped = false) (hcode : s.fld PWR_STATUS_STEP = 3) (hdone : stepDone 3 s = true) :
    exec .powerStepEnd s = .next (if gatesDown s then afterStep 3 (stepB2End s) else if bankedHeld s then s else stepB2Gates s) := by
  have hexec : exec .powerStepEnd s = execPowerStepEnd s := rfl
  rw [hexec, execPowerStepEnd, hcode]
  exact (if_neg (by simp [hstopped, hdone])).trans (if_pos rfl)

/-- A gate of B2 ramps down. -/
def gateDown (s : State) (n : Nat) : State := startRamp (.gate n) 1 0 none (s.setFbit CLK_GATE_CLOSING_CLOSING n false)

/-- The registers of the closing and ramping gates. -/
def gateKeys : List Nat := [CLK_GATE_CLOSING_CLOSING.off, CLK_GATE_RAMP_RAMPING.off]

theorem gateDown_onlyPwr (s : State) (n : Nat) : onlyPwr gateKeys s (gateDown s n) :=
  onlyPwr_trans (onlyPwr_mono (fun _ h => List.mem_singleton.mp h ▸ .head _) (onlyRegs_setFbit s CLK_GATE_CLOSING_CLOSING n false 0 0 0).onlyPwr)
    (onlyPwr_mono (fun _ h => List.mem_singleton.mp h ▸ .tail _ (.head _)) (startRamp_gate n 1 0 none _))

theorem gateDown_pwr (s : State) (n : Nat) : (gateDown s n).pwr = (s.setRamp (.gate n) (some ⟨.gate n, 1, 0, none, 0, rampEdges 1 0 0⟩)).pwr := startRamp_pwr _ _ _ _ _

theorem gateDown_forced (s : State) (n : Nat) : (gateDown s n).pwr.forced = s.pwr.forced := by
  rw [gateDown_pwr]
  rfl

theorem gateDown_nextStep (s : State) (n : Nat) : (gateDown s n).pwr.nextStep = s.pwr.nextStep := by
  rw [gateDown_pwr]
  rfl

theorem ramp_gateDown_same (s : State) (n : Nat) : (gateDown s n).ramp (.gate n) = some ⟨.gate n, 1, 0, none, 0, 16⟩ := ramp_startRamp (.gate n) 1 0 none _

theorem ramp_gateDown_other (s : State) {n k : Nat} (h : k ≠ n) : (gateDown s n).ramp (.gate k) = s.ramp (.gate k) :=
  ramp_startRamp_other (.gate n) (by simpa using h) 1 0 none _

/-- The gates of a list ramp down. -/
def gatesRamp (l : List Nat) (s : State) : State := l.foldl gateDown s

theorem gatesRamp_keeps (l : List Nat) (s : State) : onlyPwr gateKeys s (gatesRamp l s) ∧ (gatesRamp l s).pwr.forced = s.pwr.forced ∧
    (gatesRamp l s).pwr.nextStep = s.pwr.nextStep := by
  unfold gatesRamp
  induction l generalizing s with
  | nil => exact ⟨onlyPwr_refl _ s, rfl, rfl⟩
  | cons n l ih =>
    obtain ⟨hregs, hforced, hnext⟩ := ih (gateDown s n)
    exact ⟨onlyPwr_trans (gateDown_onlyPwr s n) hregs, hforced.trans (gateDown_forced s n), hnext.trans (gateDown_nextStep s n)⟩

theorem gatesRamp_ramp (l : List Nat) (h : n ∈ l ∨ s.ramp (.gate n) = some ⟨.gate n, 1, 0, none, 0, 16⟩) :
    (gatesRamp l s).ramp (.gate n) = some ⟨.gate n, 1, 0, none, 0, 16⟩ := by
  unfold gatesRamp
  induction l generalizing s with
  | nil => exact h.resolve_left List.not_mem_nil
  | cons k l ih =>
    refine ih ?_
    by_cases hk : n = k
    · exact .inr (hk ▸ ramp_gateDown_same s k)
    · refine (h.imp_left fun hin => (List.mem_cons.mp hin).resolve_left hk).imp_right fun hramp => ?_
      exact (ramp_gateDown_other s hk).trans hramp

/-- The gates that run. -/
def runningGates (s : State) : List Nat :=
  (ownGates.filter (fun n => decide (n ≠ 18))).filter (fun n => s.gateOpen n || s.gateClosing n || (s.ramp (.gate n)).isSome)

/-- The power state holds the gates of B2 closed. -/
def gatesForced (s : State) : State := s.modPwr (fun x => { x with forced := x.forced ||| bankedGates })

theorem stepB2Gates_eq (s : State) : stepB2Gates s = gatesRamp (runningGates s) (gatesForced s) := rfl

theorem bankedHeld_iff (s : State) : bankedHeld s = true ↔ s.pwr.forced &&& bankedGates = bankedGates := by simp [bankedHeld]

theorem stepB2Gates_closes (s : State) : bankedHeld (stepB2Gates s) = true ∧ (stepB2Gates s).fld PWR_STATUS_STEP = s.fld PWR_STATUS_STEP ∧
    (stepB2Gates s).pwr.nextStep = s.pwr.nextStep ∧ (∀ n ∈ ownGates, n ≠ 18 → s.gateOpen n = true → (stepB2Gates s).ramp (.gate n) = some ⟨.gate n, 1, 0, none, 0, 16⟩) ∧
    onlyPwr gateKeys s (stepB2Gates s) := by
  obtain ⟨hregs, hforced, hnext⟩ := gatesRamp_keeps (runningGates s) (gatesForced s)
  have hframe : onlyPwr gateKeys s (gatesRamp (runningGates s) (gatesForced s)) := onlyPwr_trans (onlyPwr_mono (by simp) (modPwr_onlyPwr _ s)) hregs
  rw [stepB2Gates_eq]
  refine ⟨?_, hframe.fld PWR_STATUS_STEP 0 (by decide), hnext, fun n hn h18 hopen => gatesRamp_ramp _ (.inl ?_), hframe⟩
  · rw [bankedHeld_iff, hforced]
    have hor : (gatesForced s).pwr.forced = s.pwr.forced ||| bankedGates := rfl
    rw [hor]
    refine Nat.eq_of_testBit_eq fun i => ?_
    rw [Nat.testBit_and, Nat.testBit_or]
    cases bankedGates.testBit i <;> simp
  · simp only [runningGates, List.mem_filter]
    exact ⟨⟨hn, by simpa using h18⟩, by simp [hopen]⟩

theorem powerStepEnd_closes (hstopped : s.pwr.stopped = false) (hcode : s.fld PWR_STATUS_STEP = 3) (hdone : stepDone 3 s = true) (hdown : gatesDown s = false) :
    (bankedHeld s = true → exec .powerStepEnd s = .next s) ∧
    (bankedHeld s = false → ∃ t, exec .powerStepEnd s = .next t ∧ bankedHeld t = true ∧ t.fld PWR_STATUS_STEP = 3 ∧
      t.pwr.nextStep = s.pwr.nextStep ∧ (∀ n ∈ ownGates, n ≠ 18 → s.gateOpen n = true → t.ramp (.gate n) = some ⟨.gate n, 1, 0, none, 0, 16⟩) ∧
      onlyRegs [CLK_GATE_CLOSING_CLOSING.off, CLK_GATE_RAMP_RAMPING.off] { s with pwr := t.pwr } t) := by
  have hexec := powerStepEnd_gates hstopped hcode hdone
  rw [hdown, if_neg (by decide)] at hexec
  constructor
  · intro hheld
    rw [hexec, if_pos hheld]
  · intro hheld
    rw [hheld, if_neg (by decide)] at hexec
    obtain ⟨hbanked, hstep, hnext, hramps, hframe⟩ := stepB2Gates_closes s
    exact ⟨_, hexec, hbanked, hstep.trans hcode, hnext, hramps, hframe⟩

/-- A gate of B2 that the power state holds. -/
theorem gateHeld_of_banked (h : s.pwr.forced &&& bankedGates = bankedGates) (hn : n ∈ ownGates) (h18 : n ≠ 18) : s.gateHeld n = true := by
  have hbit : ∀ k ∈ ownGates, k ≠ 18 → bankedGates.testBit k = true := by decide
  have hand := congrArg (fun m => m.testBit n) h
  simp only [Nat.testBit_and, hbit n hn h18, Bool.and_true] at hand
  exact hand

theorem powerStepEnd_retains (hstopped : s.pwr.stopped = false) (hcode : s.fld PWR_STATUS_STEP = 3) (hdone : stepDone 3 s = true) (hdown : gatesDown s = true) :
    ∃ t, exec .powerStepEnd s = .next t ∧ t.pwr.nextStep = some (4, s.nextDue) ∧ t.pwr.isolated = true ∧ t.pwr.retained = true ∧
      (∀ n ∈ ownGates, n ≠ 18 → t.gateHeld n = true) := by
  have hheld : bankedHeld s = true := by
    unfold gatesDown at hdown
    simp only [Bool.and_eq_true] at hdown
    exact hdown.1
  have hkeep := powerTick_stepB2End s
  have hnextDue : (stepB2End s).nextDue = s.nextDue := hkeep.nextDue
  obtain ⟨x, hx⟩ : ∃ x, stepB2End s = x := ⟨_, rfl⟩
  have hexec : exec .powerStepEnd s = .next (scheduleStep 4 (stepCleared x)) := by
    rw [powerStepEnd_gates hstopped hcode hdone, hdown, if_pos rfl, hx]
    rfl
  rw [hx] at hkeep hnextDue
  obtain ⟨hpwr, -, -⟩ := hkeep
  have hafter : (scheduleStep 4 (stepCleared x)).pwr = { (isolate s).pwr with nextStep := some (4, (stepCleared x).nextDue) } := by
    rw [← hpwr]
    rfl
  refine ⟨_, hexec, ?_, by rw [hafter]; rfl, by rw [hafter]; rfl, fun n hn h18 => gateHeld_of_banked ?_ hn h18⟩
  · rw [scheduleStep_nextStep, stepCleared_nextDue, hnextDue]
  · rw [hafter]
    exact (bankedHeld_iff s).mp hheld

/-! ### The cut of the jobs (R291, R648) -/

/-- The cut of one engine's work. -/
def cutEngine (s : State) (e : Nat) : State :=
  let s := if (s.eng e).frameRunning then endFrame e true s else s
  syncEngine e (if (s.eng e).jobRunning then expireJob e s else s)

/-- What the cut of an engine's job is about: the engines, and one engine's trap cause and count of limits. -/
def cutKeeps (e : Nat) (s t : State) : Prop := (∀ j, t.eng j = s.eng j) ∧ t.fld SGE_TRAP_CAUSE e = s.fld SGE_TRAP_CAUSE e ∧
  t.fld SGE_COUNT_ERR_LIMITS e = s.fld SGE_COUNT_ERR_LIMITS e

theorem cutEngine_idle {j : Nat} (h : (s.eng j).busy = false) : cutEngine s j = syncEngine j s := by
  simp only [Sge.busy, Bool.or_eq_false_iff] at h
  simp [cutEngine, h.1, h.2]

theorem cutEngine_idle_keeps {j : Nat} (h : (s.eng j).busy = false) (e : Nat) : cutKeeps e s (cutEngine s j) := by
  rw [cutEngine_idle h]
  refine ⟨fun k => syncEngine_eng j s k, syncEngine_fld s _ _ _ _ ?_, syncEngine_fld s _ _ _ _ ?_⟩
  · simp only [Field.key, SGE_TRAP_CAUSE, SGE_STATUS_STATE, SGE_FRAME_STATUS_RUNNING, List.mem_cons, List.not_mem_nil, or_false]
    omega
  · simp only [Field.key, SGE_COUNT_ERR_LIMITS, SGE_STATUS_STATE, SGE_FRAME_STATUS_RUNNING, List.mem_cons, List.not_mem_nil, or_false]
    omega

theorem cutEngines_idle (l : List Nat) (h : ∀ j ∈ l, (s.eng j).busy = false) (e : Nat) : cutKeeps e s (l.foldl cutEngine s) := by
  induction l generalizing s with
  | nil => exact ⟨fun _ => rfl, rfl, rfl⟩
  | cons j l ih =>
    obtain ⟨heng, hcause, hlimits⟩ := cutEngine_idle_keeps (h j (.head _)) e
    obtain ⟨heng', hcause', hlimits'⟩ := ih (s := cutEngine s j) fun k hk => by rw [heng k]; exact h k (.tail _ hk)
    exact ⟨fun k => (heng' k).trans (heng k), hcause'.trans hcause, hlimits'.trans hlimits⟩

/-- A job that runs alone ends as the limit ends one. -/
theorem cutEngine_expires {a : Action} (hj : (s.eng e).jobRunning = true) (hf : (s.eng e).frameRunning = false) (hq : (s.eng e).queue = [a]) :
    ((cutEngine s e).eng e).jobRunning = false ∧ (cutEngine s e).fld SGE_TRAP_CAUSE e = 7 ∧
      (cutEngine s e).fld SGE_COUNT_ERR_LIMITS e = (s.fld SGE_COUNT_ERR_LIMITS e + 1) % 2 ^ 16 ∧ ∀ j, j ≠ e → (cutEngine s e).eng j = s.eng j := by
  have hcut : cutEngine s e = syncEngine e (endAction e .errData 0 (limitMarked e s)) := by
    unfold cutEngine
    simp only [hf, Bool.false_eq_true, if_false, hj, if_true]
    rfl
  have hq' : ((limitMarked e s).eng e).queue = [a] := hq
  obtain ⟨-, hje, -, -, -, -, hothers, -⟩ := endAction_ends hq' .errData 0
  obtain ⟨hcause, hlim⟩ := limitMarked_spec e s
  obtain ⟨hcause', hlim'⟩ := answerJob_limits e a .errData 0 ((limitMarked e s).modEng e (fun x => { x with queue := [], jobRunning := false }))
  rw [hcut]
  refine ⟨hje, ?_, ?_, hothers⟩
  · rw [syncEngine_fld_engine _ SGE_TRAP_CAUSE, endAction_last hq', hcause', modEng_fld, hcause]
  · rw [syncEngine_fld_engine _ SGE_COUNT_ERR_LIMITS, endAction_last hq', hlim', modEng_fld, hlim]

theorem bankedJobCutoff_cuts {a : Action} (he : e < 32) (hcode : s.fld PWR_STATUS_STEP = 2) (hstopped : s.pwr.stopped = false)
    (hidle : ∀ j, j < 32 → j ≠ e → (s.eng j).busy = false) (hj : (s.eng e).jobRunning = true) (hf : (s.eng e).frameRunning = false) (hq : (s.eng e).queue = [a]) :
    ∃ t, exec .bankedJobCutoff s = .next t ∧ (t.eng e).jobRunning = false ∧ t.fld SGE_TRAP_CAUSE e = 7 ∧
      t.fld SGE_COUNT_ERR_LIMITS e = (s.fld SGE_COUNT_ERR_LIMITS e + 1) % 2 ^ SGE_COUNT_ERR_LIMITS.w := by
  obtain ⟨l, l', hsplit⟩ := List.append_of_mem (List.mem_range.mpr he)
  have hnodup : (List.range 32).Nodup := List.nodup_range
  have hmem : ∀ j ∈ List.range 32, j < 32 := fun j hj => List.mem_range.mp hj
  have hexec : exec .bankedJobCutoff s = .next (l'.foldl cutEngine (cutEngine (l.foldl cutEngine s) e)) := by
    have hfold : exec .bankedJobCutoff s = .next ((List.range 32).foldl cutEngine s) := if_neg (by simp [hcode, hstopped])
    rw [hfold, hsplit, List.foldl_append, List.foldl_cons]
  rw [hsplit] at hnodup hmem
  have hdisjoint := List.nodup_append.mp hnodup
  have hbefore : ∀ j ∈ l, j ≠ e := fun j hj => hdisjoint.2.2 j hj e (.head _)
  have hafter : ∀ j ∈ l', j ≠ e := fun j hj hje => (List.nodup_cons.mp hdisjoint.2.1).1 (hje ▸ hj)
  obtain ⟨heng, -, hlimits⟩ := cutEngines_idle l (fun j hj => hidle j (hmem j (by simp [hj])) (hbefore j hj)) e (s := s)
  obtain ⟨x, hx⟩ : ∃ x, l.foldl cutEngine s = x := ⟨_, rfl⟩
  rw [hx] at hexec heng hlimits
  obtain ⟨hended, hcause, hcount, hothers⟩ := cutEngine_expires (s := x) (e := e) (a := a) (by rw [heng, hj]) (by rw [heng, hf]) (by rw [heng, hq])
  obtain ⟨heng', hcause', hlimits'⟩ := cutEngines_idle (s := cutEngine x e) l' (fun j hj => by
    rw [hothers j (hafter j hj), heng j]
    exact hidle j (hmem j (by simp [hj])) (hafter j hj)) e
  exact ⟨_, hexec, by rw [heng', hended], by rw [hcause', hcause], by rw [hlimits', hcount, hlimits]; rfl⟩


end Sys2Proof.Machine
end

section
-- One proof at a time: the memory limit of the check counts a stack for every proof that waits for another.
set_option Elab.async false
/-! O58, last part. Wakes (R661 to R663), and the obligation. -/

namespace Sys2Proof.Machine

variable {s t x : State} {m : Ident} {h : Half} {n : Nat}

/-! ### The wake event -/

/-- The raise of a source that is an event routes it. -/
theorem raise_event {src : Nat} {r : SourceRange} (hr : sourceRange src = some r) (hn : r.notify = true) (info : Nat) (s : State) :
    raise src info s = routeSource src s := by
  unfold raise raiseFrom
  rw [hr]
  exact if_pos hn

/-- The event of a wake leaves the power state, the tick and their registers. -/
theorem powerTick_wakeEvent (s : State) : powerTick s (raise 0x00C 0 s) := by
  have hrange : sourceRange 0x00C = some ⟨0x00C, 0x00C, 1, true, true⟩ := by decide
  rw [raise_event hrange rfl]
  exact powerTick_replied (replied_routeSource 0x00C s)

/-- A field of the power state's registers. -/
theorem powerTick.fld (h : powerTick s t) (F : Field) (hlo : 0x301000 ≤ F.key 0 0 0 := by decide) (hhi : F.key 0 0 0 < 0x302000 := by decide) : t.fld F = s.fld F :=
  fld_congr F 0 0 0 (h.2.2 _ (.inl ⟨hlo, hhi⟩))

/-- A wake is counted, and its event raised. -/
def wakeNoted (s : State) : State := raise 0x00C 0 (s.addFld PWR_COUNTS_WAKES 1)

theorem wakeNoted_pwr (s : State) : (wakeNoted s).pwr = s.pwr := (powerTick_wakeEvent _).1

theorem wakeNoted_fld (s : State) (F : Field) (hne : F.key 0 0 0 ≠ PWR_COUNTS_WAKES.off := by decide) (hlo : 0x301000 ≤ F.key 0 0 0 := by decide)
    (hhi : F.key 0 0 0 < 0x302000 := by decide) : (wakeNoted s).fld F = s.fld F :=
  ((powerTick_wakeEvent _).fld F hlo hhi).trans (fld_addFld_elsewhere s PWR_COUNTS_WAKES F 1 hne)

theorem wakeNoted_power (s : State) : (wakeNoted s).power = s.power := wakeNoted_fld s PWR_STATUS_STATE

theorem wakeNoted_count (s : State) : (wakeNoted s).fld PWR_COUNTS_WAKES = (s.fld PWR_COUNTS_WAKES + 1) % 2 ^ 16 :=
  ((powerTick_wakeEvent _).fld PWR_COUNTS_WAKES).trans (fld_addFld s PWR_COUNTS_WAKES 1 0 0 0)

theorem wakeNoted_nextDue (s : State) : (wakeNoted s).nextDue = s.nextDue :=
  (powerTick_wakeEvent _).nextDue.trans (nextDue_congr (reg_setFld_other s PWR_COUNTS_WAKES _ 0 0 0 _ (by decide)) rfl)

/-! ### What a wake does in each power state -/

theorem fireWake_running {kind : WakeKind} (hpower : s.power = 0) : fireWake kind s = wakeNoted s := by
  have hnoted := (wakeNoted_power s).trans hpower
  unfold fireWake
  dsimp only
  rw [← wakeNoted, hnoted]
  rfl

theorem fireWake_idle {kind : WakeKind} (hpower : s.power = 1) : fireWake kind s = askPower ⟨none, 0⟩ (wakeNoted s) := by
  have hnoted := (wakeNoted_power s).trans hpower
  unfold fireWake
  dsimp only
  rw [← wakeNoted, hnoted]
  rfl

/-- The core supply is asked for. -/
def coreAsked (s : State) : State := if s.pwr.coreEn then s else (s.modPwr (fun x => { x with coreEn := true })).emit (.coreEn true)

theorem fireWake_cold {kind : WakeKind} (hpower : s.power = 3) : fireWake kind s =
    if kind = .pcie ∨ (coreAsked (wakeNoted s)).pwr.wakeLow then coreAsked (wakeNoted s)
    else ((coreAsked (wakeNoted s)).modPwr (fun x => { x with wakeLow := true })).emit (.pcieWakeN true) := by
  have hnoted := (wakeNoted_power s).trans hpower
  unfold fireWake
  dsimp only
  rw [← wakeNoted, hnoted]
  rfl

theorem coreAsked_coreEn (s : State) : (coreAsked s).pwr.coreEn = true := by
  unfold coreAsked
  split
  · next hon => exact hon
  · rfl

theorem coreAsked_fld (s : State) (F : Field) : (coreAsked s).fld F = s.fld F := by
  unfold coreAsked
  split <;> rfl

/-- A wake from COLD powers the core; the registers of the power state stay but for the count. -/
theorem fireWake_powers (kind : WakeKind) (hpower : s.power = 3) :
    (fireWake kind s).pwr.coreEn = true ∧ ∀ F : Field, (fireWake kind s).fld F = (wakeNoted s).fld F := by
  rw [fireWake_cold hpower]
  split
  · exact ⟨coreAsked_coreEn _, coreAsked_fld _⟩
  · exact ⟨coreAsked_coreEn _, coreAsked_fld _⟩

/-! ### WAKE_PIN (R661) -/

/-- The level of a wake ball is shown. -/
def pinLevel (n : Nat) (s : State) : State := s.setFbit PWR_WAKE_STATUS_LEVEL n (s.fbit PWR_WAKE_CFG_PIN_POL n)

/-- The wake ball has fired. -/
def pinFired (n : Nat) (s : State) : State := (pinLevel n s).setFbit PWR_WAKE_STATUS_PIN n true

theorem wakePin_ignored {n : Fin 4} (hen : s.fbit PWR_WAKE_CFG_PIN_EN n = false) :
    ∃ t, exec (.wakePin n) s = .next t ∧ onlyRegs [PWR_WAKE_STATUS_PIN.off] s t := by
  have hexec : exec (.wakePin n) s = .next (pinLevel n s) := by
    refine if_neg ?_
    rw [fbit_setFbit_apart s PWR_WAKE_STATUS_LEVEL PWR_WAKE_CFG_PIN_EN n n _, hen]
    decide
  exact ⟨_, hexec, onlyRegs_setFbit s PWR_WAKE_STATUS_LEVEL n _ 0 0 0⟩

theorem wakePin_fires {n : Fin 4} (hen : s.fbit PWR_WAKE_CFG_PIN_EN n = true) : exec (.wakePin n) s = .next (fireWake .pin (pinFired n s)) := by
  refine if_pos ?_
  rw [fbit_setFbit_apart s PWR_WAKE_STATUS_LEVEL PWR_WAKE_CFG_PIN_EN n n _, hen]

theorem pinFired_onlyRegs (n : Nat) (s : State) : onlyRegs [PWR_WAKE_STATUS_PIN.off] s (pinFired n s) :=
  onlyRegs_trans (onlyRegs_setFbit s PWR_WAKE_STATUS_LEVEL n _ 0 0 0) (onlyRegs_setFbit _ PWR_WAKE_STATUS_PIN n true 0 0 0)

theorem pinFired_fld (n : Nat) (s : State) (F : Field) (hF : F.key 0 0 0 ≠ PWR_WAKE_STATUS_PIN.off := by decide) : (pinFired n s).fld F = s.fld F :=
  (pinFired_onlyRegs n s).fld_elsewhere F 0 0 0 (by simpa using hF)

theorem pinFired_power (n : Nat) (s : State) : (pinFired n s).power = s.power := pinFired_fld n s PWR_STATUS_STATE

theorem pinFired_nextDue (n : Nat) (s : State) : (pinFired n s).nextDue = s.nextDue :=
  nextDue_of_keeps (pinFired_onlyRegs n s).2 (by decide) (onlyRegs_tck (pinFired_onlyRegs n s))

theorem wakePin_running {n : Fin 4} (hen : s.fbit PWR_WAKE_CFG_PIN_EN n = true) (hpower : s.power = 0) :
    ∃ u, exec (.wakePin n) s = .next (raise 0x00C 0 u) ∧ u.fbit PWR_WAKE_STATUS_PIN n = true ∧
      u.fld PWR_COUNTS_WAKES = (s.fld PWR_COUNTS_WAKES + 1) % 2 ^ 16 ∧ onlyRegs [PWR_WAKE_STATUS_PIN.off, PWR_COUNTS_WAKES.off] s u := by
  have hcounted : onlyRegs [PWR_COUNTS_WAKES.off] (pinFired n s) ((pinFired n s).addFld PWR_COUNTS_WAKES 1) := onlyRegs_addFld _ PWR_COUNTS_WAKES 1 0 0 0
  refine ⟨(pinFired n s).addFld PWR_COUNTS_WAKES 1, ?_, ?_, ?_, ?_⟩
  · rw [wakePin_fires hen, fireWake_running ((pinFired_power n s).trans hpower)]
    rfl
  · rw [hcounted.fbit_elsewhere PWR_WAKE_STATUS_PIN (by decide)]
    exact fbit_setFbit_same _ true 0 0 0 (by decide) n.isLt
  · rw [fld_addFld _ PWR_COUNTS_WAKES 1 0 0 0, pinFired_fld n s PWR_COUNTS_WAKES]
    rfl
  · exact onlyRegs_trans (onlyRegs_mono (by simp) (pinFired_onlyRegs n s)) (onlyRegs_mono (by simp) hcounted)

theorem wakePin_idle {n : Fin 4} (hen : s.fbit PWR_WAKE_CFG_PIN_EN n = true) (hpower : s.power = 1) (hreq : s.pwr.req = none) (hslot : s.pwr.slot = none) :
    ∃ t, exec (.wakePin n) s = .next t ∧ t.pwr.req = some ⟨none, 0⟩ ∧ t.pwr.nextStep = some (9, s.nextDue) ∧ t.fld PWR_STATUS_TARGET = 0 := by
  have hpinPower := (pinFired_power n s).trans hpower
  obtain ⟨x, hx⟩ : ∃ x, wakeNoted (pinFired n s) = x := ⟨_, rfl⟩
  have hxpwr : x.pwr = s.pwr := by rw [← hx, wakeNoted_pwr, onlyRegs_pwr (pinFired_onlyRegs n s)]
  have hxpower : x.power = 1 := by rw [← hx, wakeNoted_power, hpinPower]
  have hxdue : x.nextDue = s.nextDue := by rw [← hx, wakeNoted_nextDue, pinFired_nextDue]
  have hexec : exec (.wakePin n) s = .next (scheduleStep 9 (requested ⟨none, 0⟩ x)) := by
    rw [wakePin_fires hen, fireWake_idle hpinPower, hx, askPower_free (by rw [hxpwr, hreq]) (by rw [hxpwr, hslot]), startRequest_steps (by rw [hxpower]; decide), hxpower]
    rfl
  refine ⟨_, hexec, rfl, ?_, requested_target (r := ⟨none, 0⟩) (by decide) x⟩
  rw [scheduleStep_nextStep, requested_nextDue, hxdue]

/-! ### PWR_WAKE_REQ (R661) -/

theorem wakeReqWrite_effect (hadmits : s.admits m .PWR_WAKE_REQ []) (data : Word) :
    exec (.wakeReqWrite m h data) s = .next (wakeReqEffect m h data (renewLease m s)) := congrArg _ (regWrite_admits hadmits h _)

theorem wakeBit_one (hh : h ≠ .high) : wbit h 1 PWR_WAKE_REQ_WAKE = true := by
  rw [wbit_low hh 1 (by decide)]
  decide

theorem power_renewLease (m : Ident) (s : State) : (renewLease m s).power = s.power := fld_renewLease_above m s (g := PWR_STATUS_STATE) (by decide) 0

/-- A master with leave wakes the running device: the wake is shown by the field that names its kind. -/
theorem wakeReq_running {kind : WakeKind} {F : Field} (hpower : s.power = 0) (hF : F.key 0 0 0 = PWR_WAKE_STATUS_PIN.off) (hw : F.lo + F.w ≤ 64) (hone : F.w = 1) :
    ∃ u, fireWake kind ((renewLease m s).setFld F 1) = raise 0x00C 0 u ∧ u.fld F = 1 := by
  have hkept : ((renewLease m s).setFld F 1).power = 0 :=
    (fld_setFld_elsewhere _ F PWR_STATUS_STATE 1 (by rw [hF]; decide)).trans ((power_renewLease m s).trans hpower)
  refine ⟨((renewLease m s).setFld F 1).addFld PWR_COUNTS_WAKES 1, fireWake_running hkept, ?_⟩
  rw [fld_addFld_elsewhere _ PWR_COUNTS_WAKES F 1 (by rw [hF]; decide)]
  exact fld_setFld_of_lt _ 0 hw (by rw [hone]; decide)

theorem wakeReq_host (hadmits : s.admits m .PWR_WAKE_REQ []) (hh : h ≠ .high) (hpower : s.power = 0) (hclass : identClass m = 1) (hen : s.fld PWR_WAKE_CFG_PCIE_EN = 1) :
    ∃ u, exec (.wakeReqWrite m h 1) s = .next (raise 0x00C 0 u) ∧ u.fld PWR_WAKE_STATUS_PCIE = 1 := by
  obtain ⟨u, hfire, hshown⟩ := wakeReq_running (m := m) (kind := .pcie) (F := PWR_WAKE_STATUS_PCIE) hpower rfl (by decide) rfl
  refine ⟨u, ?_, hshown⟩
  have hon : (renewLease m s).on PWR_WAKE_CFG_PCIE_EN = true := on_of_one ((fld_renewLease_above m s (g := PWR_WAKE_CFG_PCIE_EN) (by decide) 0).trans hen)
  rw [wakeReqWrite_effect hadmits, ← hfire]
  unfold wakeReqEffect
  rw [hclass]
  exact congrArg _ (if_pos ⟨wakeBit_one hh, hon⟩)

theorem wakeReq_ring (hadmits : s.admits m .PWR_WAKE_REQ []) (hh : h ≠ .high) (hpower : s.power = 0) (hclass : identClass m = 2) (hen : s.fld PWR_WAKE_CFG_RING_EN = 1) :
    ∃ u, exec (.wakeReqWrite m h 1) s = .next (raise 0x00C 0 u) ∧ u.fld PWR_WAKE_STATUS_RING = 1 := by
  obtain ⟨u, hfire, hshown⟩ := wakeReq_running (m := m) (kind := .ring) (F := PWR_WAKE_STATUS_RING) hpower rfl (by decide) rfl
  refine ⟨u, ?_, hshown⟩
  have hon : (renewLease m s).on PWR_WAKE_CFG_RING_EN = true := on_of_one ((fld_renewLease_above m s (g := PWR_WAKE_CFG_RING_EN) (by decide) 0).trans hen)
  rw [wakeReqWrite_effect hadmits, ← hfire]
  unfold wakeReqEffect
  rw [hclass]
  exact congrArg _ (if_pos ⟨wakeBit_one hh, hon⟩)

theorem wakeReq_other (hadmits : s.admits m .PWR_WAKE_REQ []) (hclass : identClass m = 3) :
    exec (.wakeReqWrite m h 1) s = .next (violation m .area true (PWR_WAKE_REQ_WAKE.off + h.skip) (renewLease m s)) := by
  rw [wakeReqWrite_effect hadmits]
  unfold wakeReqEffect
  rw [hclass]
  rfl

/-! ### Energy on the ring and PERST_N (R661, R663) -/

theorem ringEnergyWake_cold (hpower : s.power = 3) (hen : s.fld PWR_WAKE_CFG_RING_EN = 1) :
    ∃ t, exec .ringEnergyWake s = .next t ∧ t.pwr.coreEn = true ∧ t.fld PWR_WAKE_STATUS_RING = 1 ∧
      t.fld PWR_COUNTS_WAKES = (s.fld PWR_COUNTS_WAKES + 1) % 2 ^ 16 := by
  have hexec : exec .ringEnergyWake s = .next (fireWake .ring (s.setFld PWR_WAKE_STATUS_RING 1)) := if_pos ⟨hpower, on_of_one hen⟩
  have hkept : (s.setFld PWR_WAKE_STATUS_RING 1).power = 3 := (fld_setFld_apart s PWR_WAKE_STATUS_RING PWR_STATUS_STATE 1).trans hpower
  obtain ⟨hcore, hfld⟩ := fireWake_powers .ring hkept
  refine ⟨_, hexec, hcore, ?_, ?_⟩
  · rw [hfld, wakeNoted_fld _ PWR_WAKE_STATUS_RING]
    exact fld_setFld_of_lt s 0 (by decide) (by decide)
  · rw [hfld, wakeNoted_count, fld_setFld_apart s PWR_WAKE_STATUS_RING PWR_COUNTS_WAKES]

theorem ringEnergyWake_warm (hpower : s.power ≠ 3) : exec .ringEnergyWake s = .next s := if_neg fun hboth => hpower hboth.1

/-- PCIE_WAKE_N is released. -/
def wakeReleased (s : State) : State := if s.pwr.wakeLow then (s.modPwr (fun x => { x with wakeLow := false })).emit (.pcieWakeN false) else s

theorem wakeReleased_fld (s : State) (F : Field) : (wakeReleased s).fld F = s.fld F := by
  unfold wakeReleased
  split <;> rfl

theorem perstRise_eq (s : State) : exec .perstRise s = if (wakeReleased s).power = 3 ∧ (wakeReleased s).on PWR_WAKE_CFG_PCIE_EN then
    .next (fireWake .pcie ((wakeReleased s).setFld PWR_WAKE_STATUS_PCIE 1)) else .next (wakeReleased s) := rfl

theorem perstRise_warm (hpower : s.power ≠ 3) (hlow : s.pwr.wakeLow = true) :
    exec .perstRise s = .next { s with out := .pcieWakeN false :: s.out, pwr := { s.pwr with wakeLow := false } } := by
  have hreleased : wakeReleased s = { s with out := .pcieWakeN false :: s.out, pwr := { s.pwr with wakeLow := false } } := if_pos hlow
  rw [perstRise_eq, if_neg (fun hboth => hpower ((wakeReleased_fld s PWR_STATUS_STATE).symm.trans hboth.1)), hreleased]

theorem perstRise_cold (hpower : s.power = 3) (hen : s.fld PWR_WAKE_CFG_PCIE_EN = 1) :
    ∃ t, exec .perstRise s = .next t ∧ t.pwr.coreEn = true ∧ t.fld PWR_WAKE_STATUS_PCIE = 1 := by
  obtain ⟨x, hx⟩ : ∃ x, wakeReleased s = x := ⟨_, rfl⟩
  have hxpower : x.power = 3 := by
    rw [← hx]
    exact (wakeReleased_fld s PWR_STATUS_STATE).trans hpower
  have hxen : x.fld PWR_WAKE_CFG_PCIE_EN = 1 := by rw [← hx, wakeReleased_fld, hen]
  have hexec : exec .perstRise s = .next (fireWake .pcie (x.setFld PWR_WAKE_STATUS_PCIE 1)) := by
    rw [perstRise_eq, hx, if_pos ⟨hxpower, on_of_one hxen⟩]
  have hkept : (x.setFld PWR_WAKE_STATUS_PCIE 1).power = 3 := (fld_setFld_apart x PWR_WAKE_STATUS_PCIE PWR_STATUS_STATE 1).trans hxpower
  obtain ⟨hcore, hfld⟩ := fireWake_powers .pcie hkept
  refine ⟨_, hexec, hcore, ?_⟩
  rw [hfld, wakeNoted_fld _ PWR_WAKE_STATUS_PCIE]
  exact fld_setFld_of_lt x 0 (by decide) (by decide)

/-! ### The obligation -/

/-- Settles O58: a clause per lemma. -/
theorem powerStates : Obligations.PowerStates := by
  unfold Obligations.PowerStates
  refine ⟨?up, ?kindling, fun aon s => rootLock_starts aon, fun dram s => hearthInitDone_ready dram, ?requests, ?steps, ?cut, ?voltage, fun s => coldDelayExpire_enters, ?pin, ?request, ?energy,
    fun c hc => ballPin_channelBall hc, fun g k hg _ b hb => ballPin_groundBalls hg hb, fun row col => ballPin_isSome_iff⟩
  case up => exact fun s => ⟨aonPowerOn_resets s, coreEnHigh_raises, powerOn_resets, fun keep hon => powerOn_on hon keep, pwrOkFall_resets, pwrOkFall_off⟩
  case kindling => exact fun boot ref keep s hkindle => ⟨kindlingReady_latches hkindle, kindlingReady_up hkindle⟩
  case requests =>
    exact fun p s hacc => ⟨pwrState_there hacc, pwrState_begins hacc, pwrState_waits hacc, fun old d _ hslot => pwrState_supersedes hacc hslot⟩
  case steps =>
    exact fun s hstopped => ⟨powerStepEnd_waits, fun p => powerStepEnd_arrives hstopped, powerStepEnd_jobsOver hstopped, powerStepEnd_closes hstopped,
      powerStepEnd_retains hstopped, powerStepEnd_slowed hstopped⟩
  case cut => exact fun e a s he hcode hstopped _ hidle hj hf hq => bankedJobCutoff_cuts he hcode hstopped hidle hj hf hq
  case voltage =>
    exact fun mv s hmv => ⟨avsReadback_failed s, avsReadback_lowered hmv, avsReadback_raised, avsReadback_away hmv, avsTimeout_lowered, fun p d => avsTimeout_fails⟩
  case pin => exact fun n s => ⟨wakePin_running, wakePin_ignored, wakePin_idle⟩
  case request =>
    exact fun m h s hadmits hh hpower => ⟨wakeReq_host hadmits hh hpower, wakeReq_ring hadmits hh hpower, wakeReq_other hadmits⟩
  case energy =>
    exact fun s => ⟨fun hpower hen _ => ringEnergyWake_cold hpower hen, ringEnergyWake_warm, perstRise_warm, fun hpower hen _ => perstRise_cold hpower hen⟩

end Sys2Proof.Machine
end
